-- ==== Sys2Proof/Word.lean ====
section
/-!
DEFINITION. Sys2Proof/Word.lean: the byte, the byte string and the sparse map used by every part of the model
(spec/00_scope.md, "Shared quantity encodings" and "Numbers, units and field maps").
-/

namespace Sys2Proof

/-- One byte of a packet, an attribute or a stored record. -/
abbrev Byte := BitVec 8

/-- A byte string, first byte first. -/
abbrev Bytes := List Byte

/-- A sparse table: pairs of an index and a value, indexes strictly rising; an index that is not listed holds the
table's own default. -/
abbrev Map (β : Type) := List (Nat × β)

end Sys2Proof
end

