-- ==== Sys2Proof/Syntax.lean ====
section
/-!
DEFINITION. Sys2Proof/Syntax.lean: the commands the hub takes, one constructor per row of spec/opcode_table.json, with the
operands the spec gives them. A row that is a Spoke opcode carries the channel, the tag and the payload of its frame
(Table 3-3); a row that is an event carries what the outside world puts into it.
-/

namespace Sys2Proof

/-- The frame of a Spoke command (Table 3-3, 03_spoke_packets.md): its channel, its tag and its payload. -/
structure Cmd where
  ch : Fin 32
  tag : Fin 127
  payload : Bytes
deriving DecidableEq, Repr

/-- What the outside world puts into one slot (R24 to R28, Table 1-3, 01_cadence.md). -/
structure SlotIn where
  /-- Core 0's run signals done within this slot, and the SYS cycles then left in its allotment. -/
  done0 : Option (Fin 262144) := none
  /-- Core 1's run signals done within this slot, and the SYS cycles then left in its allotment. -/
  done1 : Option (Fin 262144) := none
  /-- HOLD_SNS as the reserve-gauge sample converts it (R48). -/
  hold : BitVec 12 := 0
  /-- Codes of the eight ring oscillators at the die thermal read (R384); a ring that is not listed reads 0. -/
  rings : List (BitVec 12) := []
  /-- REF cycles counted between the last two AON stage edges (R15). -/
  nRef : Nat := 24576000
  /-- Offset of the sequencer's stage edge from the AON stage edge, in REF cycles (R15). -/
  phase : Int := 0
  /-- Tachometer edges of the eight fans in the stage that ends (R171); a fan that is not listed has none. -/
  tach : List Nat := []
  /-- Bit g: GSNSg has stood above GRP_LIM in the slot that ends (R162). -/
  gsns : BitVec 6 := 0
  /-- Bit p: SCL or SDA of I2C port p is low when its transaction is released (R204). -/
  i2cLow : BitVec 2 := 0
  /-- Bit p: both lines of I2C port p are high after the recovery pulses (R204). -/
  i2cFreed : BitVec 2 := 3
  /-- VGH_PG is high. -/
  vghPg : Bool := true
  /-- VGL_PG is high. -/
  vglPg : Bool := true
  /-- VDD_SRC is above its threshold (R364). -/
  vsrc : Bool := true
  /-- Entropy collected at this stage edge passes both health tests (R407). -/
  entropy : Bool := true
deriving DecidableEq, Repr

/-- What the Paddock's converters, comparators and lanes deliver in one round (R209, R211, R213, R219, 08_paddock.md). -/
structure RoundIn where
  /-- Raw codes of PTS0, PTS1 and PAD_POS. -/
  pts0 : BitVec 12 := 0
  pts1 : BitVec 12 := 0
  pos : BitVec 12 := 0
  /-- PAD_ENDH reads filtered closed. -/
  endh : Bool := false
  /-- PFB0 to PFB3 read filtered closed. -/
  pfb : BitVec 4 := 0
  /-- Outputs that one lane alone de-energises at this round end. -/
  off : BitVec 4 := 0
  /-- One lane alone inhibits the hot leg. -/
  inh : Bool := false
  /-- The ceiling of one lane; the other computes R224's. -/
  ceil : BitVec 12 := 0xFFF
deriving DecidableEq, Repr

/-- The commands, in the order of spec/opcode_table.json. -/
inductive Instr where
  -- 01_cadence.md
  | slotEdge (i : SlotIn)
  | jobCommit (core : Fin 2) (slack : Fin 262144)
  /-- 0 core 0, 1 core 1, 2 ADC_WIN, 3 STB_WIN. -/
  | tickGuardFire (source : Fin 4)
  | slotTableSwap
  | slotTableReload
  | stageEdge (n : Nat) (p : Int) (entropy : Bool)
  | sequencerWatchdog
  | aonLost
  | aonResync
  -- 02_power_reset.md
  /-- The level of TST_EN (R460). -/
  | mainRailsGood (tst : Bool)
  /-- 0 VDD_CORE, 1 VDD_18, 2 VDD_IO, 3 VDD_ADC. -/
  | mainRailFall (rail : Fin 4)
  | aonPowerUp
  | aonRetentionLoss
  | padPowerUp
  | hubRstnQualified
  | hubResetAssert (cause : Fin 16)
  | kickstandCommit
  /-- HST_SEL, the die codes at boot, and whether the reference has started. -/
  | boot (hstSel : Bool) (rings : List (BitVec 12))
  /-- The four samples of HOLD_SNS of start-up, oldest first (R48). -/
  | firstTick (h0 h1 h2 h3 : BitVec 12)
  | escrowTimeout
  | pfiQualified
  | powerFailSequenceStart
  | quiesce
  | pfiRelease
  | pfEnd
  | pwrSetMode (c : Cmd)
  | freewheel1Entry
  | freewheel2Entry
  | fw2PwmClockStop
  | fw2ClockStop
  | standbyEntry
  /-- The wake source (Table 2-10) and the slots that have passed on the always-on count. -/
  | wake (source : Fin 8) (slots : Nat)
  | fw2Resume (slots : Nat) (rings : List (BitVec 12))
  | pwrSubsysReset (c : Cmd)
  | chargeStop
  | chargeResume
  -- 03_spoke_packets.md
  /-- Transports: 0 host, 1 and 2 the bus streams, 3 the debug port. -/
  | frameReceive (transport : Fin 4) (data : Bytes)
  | uartByteGapTimeout
  | uartCtsHigh
  | frameAdmission (transport : Fin 4)
  | sessionOpen (c : Cmd)
  | sessionClose (c : Cmd)
  | sessionReset (c : Cmd)
  | hubReset (c : Cmd)
  | hubResetStart
  | subscribe (c : Cmd)
  | ping (c : Cmd)
  | hostBaud (c : Cmd)
  | hostBaudRevert
  | sessionInfo (c : Cmd)
  | attrRead (c : Cmd)
  | attrWrite (c : Cmd)
  | attrReadMulti (c : Cmd)
  | attrModify (c : Cmd)
  | attrInfo (c : Cmd)
  | eventsLost (ch : Fin 32)
  | spiStatus
  /-- The LEN of the transaction and the bytes clocked before HST_CSN rises. -/
  | spiWrite (len : Nat) (data : Bytes)
  /-- The LEN of the transaction and the bytes clocked before HST_CSN rises. -/
  | spiRead (len clocked : Nat)
  | spiFlush
  | consoleOpen
  /-- The byte of a keypad key (Table 7-18). -/
  | consoleKey (key : Byte)
  | consoleClose
  | consoleIdleTimeout
  -- 04_zones_loops.md
  | sensorLost (n : Fin 48)
  | unoccupied (n : Fin 48)
  | windowClose (n : Fin 48)
  | holdEnd (n : Fin 48)
  | gap (n : Fin 48)
  | zonHold (c : Cmd)
  | zonSchedWrite (c : Cmd)
  | zonSchedDayStored (n : Fin 48) (day : Fin 7)
  | zonSchedRead (c : Cmd)
  | zonRemoteT (c : Cmd)
  | zonWindow (c : Cmd)
  | zonPresence (c : Cmd)
  | zonSave (c : Cmd)
  | zonEvtRead (c : Cmd)
  | zonLoopReset (c : Cmd)
  | zonClockWrite (v : BitVec 64)
  | zonEnableWrite (v : BitVec 64)
  -- 05_pwm_engine.md
  | periodBoundary (g : Fin 12)
  | cutRequest (ch : Fin 96)
  /-- The channel and the PWM cycle of the request. -/
  | killRequest (ch : Fin 96) (cycle : Nat)
  | cutLatchOff (ch : Fin 96)
  | gfltAssert (g : Fin 12)
  | pwmClockRestart
  /-- Elements of the standby lines, one for each group. -/
  | delayLineCalDone (lines : List (BitVec 8))
  | pwmGroupCtl (c : Cmd)
  | pwmLoadAll (c : Cmd)
  | pwmSync (c : Cmd)
  | pwmClrLatch (c : Cmd)
  -- 06_actuator_channels.md
  | valveCycleStart (n : Fin 48)
  | valveOnTimeEnd (n : Fin 48)
  | inrushEnd (n : Fin 48)
  | groupRecoveryStart (g : Fin 6)
  | groupRecoveryEnd (g : Fin 6) (low : Bool)
  | bridgeMoveEnd (b : Fin 16)
  | reversalCoastEnd (b : Fin 16)
  | reversalNotAdmitted (b : Fin 16)
  | fanStall (f : Fin 8)
  | rampArrived (r : Fin 8)
  | actValve (c : Cmd)
  | actBrMove (c : Cmd)
  | actBrClear (c : Cmd)
  | actFan (c : Cmd)
  | actRamp (c : Cmd)
  | actAux (c : Cmd)
  | actSave (c : Cmd)
  | actKsWrite (v : BitVec 512)
  -- 07_adc_sensing.md
  | adcConversionEnd (u : Fin 2) (code : BitVec 12) (ovr unr : Bool)
  | adcCtlGo (v : BitVec 32)
  | adcSinglePendingStart (u : Fin 2)
  | adcSingleDone (u : Fin 2) (code : BitVec 12) (ovr unr : Bool)
  | deviceDue (d : Fin 16)
  /-- The outcome: 0 no error, 1 NACK on the address, 2 NACK on data. -/
  | transactionEnd (port : Fin 3) (err : Fin 3) (data : Bytes)
  | transactionTimeout (port : Fin 3)
  | deviceInvalid (d : Fin 16)
  | adcConvert (c : Cmd)
  | adcSave (c : Cmd)
  -- 08_paddock.md
  | roundEnd (i : RoundIn)
  | safetyInputFilter (n : Fin 8) (channelB closed : Bool)
  | discrepant (n : Fin 8)
  | fbFault (n : Fin 4)
  | weld (n : Fin 4)
  | proofWindowOpen (n : Fin 4)
  | proofDeadline (n : Fin 4)
  | proofTestEnd (n : Fin 4)
  | sltTrip
  | sltRelease
  | sltSens
  | sdirRelease
  | slpFault
  | frostDemandOn
  | frostDemandOff
  | clkFault
  | laneFault
  | heartbeatResponse (v : BitVec 16)
  | heartbeatLapse
  | rearmWindowEnd
  | armed
  | stagedBlockExpire
  | padCommitActivate
  | padStage (c : Cmd)
  | padCommit (c : Cmd)
  | padCancel (c : Cmd)
  | padProof (c : Cmd)
  | padRestart (c : Cmd)
  -- 09_bus_golposen.md
  | busFrameEnd (p : Fin 2) (data : Bytes) (lineError : Bool)
  | busRxOverflow (p : Fin 2) (data : Bytes)
  | modbusClientTimeout (p : Fin 2)
  | replyPostponed (p : Fin 2)
  | mstpTokenLost (p : Fin 2)
  | busPartialFrameDiscard (p : Fin 2)
  | busTxDone (p : Fin 2)
  | golposenSend (n : Fin 16)
  | golposenWatchdog (n : Fin 16)
  | busPortCtl (c : Cmd)
  | busTx (c : Cmd)
  | busGpRestart (c : Cmd)
  | busGpPdu (c : Cmd)
  | busSave (c : Cmd)
  -- 10_hayloft.md
  | hayloftPhaseEnd (verify : Bool)
  | hayloftWriteEnd
  | logHoldExpire (stream : Fin 16)
  | overflow (stream : Fin 16)
  | hayRead (c : Cmd)
  | hayWrite (c : Cmd)
  | hayLogRead (c : Cmd)
  | hayLogAppend (c : Cmd)
  | hayLogFlush (c : Cmd)
  | hayOdInc (c : Cmd)
  -- 11_stable_engine.md, 12_stable_scratchpad.md
  | stallWindowClose
  /-- A stall operation: stall, context and operation word (Table 11-7). -/
  | nop (q k : Fin 4) (w : BitVec 32)
  | setr (q k : Fin 4) (w : BitVec 32)
  | addr (q k : Fin 4) (w : BitVec 32)
  | tload (q k : Fin 4) (w : BitVec 32)
  | mact (q k : Fin 4) (w : BitVec 32)
  | act (q k : Fin 4) (w : BitVec 32)
  | pool (q k : Fin 4) (w : BitVec 32)
  | store (q k : Fin 4) (w : BitVec 32)
  | radv (q k : Fin 4) (w : BitVec 32)
  | rwait (q k : Fin 4) (w : BitVec 32)
  | nsend (q k : Fin 4) (w : BitVec 32)
  | loop (q k : Fin 4) (w : BitVec 32)
  | waitt (q k : Fin 4) (w : BitVec 32)
  | move (q k : Fin 4) (w : BitVec 32)
  | jump (q k : Fin 4) (w : BitVec 32)
  | opEnd (q k : Fin 4) (w : BitVec 32)
  /-- Stall; whether the access goes through the stall's cache to system SRAM (R333) or to the stall's own memories;
  address; and the value of a write. -/
  | narrowAccess (q : Fin 4) (cached : Bool) (addr : BitVec 20) (write : Option (BitVec 32))
  | scrub (q : Fin 4)
  | rowRepairCopy (q : Fin 4)
  | stbAuditWrite (v : BitVec 8)
  | stbCacheWrite (v : BitVec 8)
  | cacheSwitch
  | stbLoadBegin (c : Cmd)
  | stbLoadData (c : Cmd)
  | stbLoadEnd (c : Cmd)
  | stbTaskStart (c : Cmd)
  | stbTaskStop (c : Cmd)
  | stbFeed (c : Cmd)
  -- 13_panel_matrix.md
  | panelLapEdge
  | panelPowerOnStep (vghPg vglPg : Bool)
  | orderlyOff
  | abruptOff
  | powerGoodLow
  | vsrcFail
  | dischargeEnd
  | dspPower (c : Cmd)
  | dspWrite (c : Cmd)
  | dspFill (c : Cmd)
  | dspPresent (c : Cmd)
  | dspLwWrite (c : Cmd)
  | dspMode (c : Cmd)
  | dspGammaWrite (negative : Bool) (v : BitVec 512)
  -- 14_panel_segments.md
  | segmentSwap
  | vlcdLow
  | altPattern
  | lossTStop
  | segmentRestart
  | segCfgWrite (v : BitVec 32)
  | segWrite (c : Cmd)
  | segShow (c : Cmd)
  -- 15_die_thermal.md
  | graceExpire
  | riseAlarm
  | riseActEnd
  | levelFall
  | levelTakesEffect
  | thermStop
  | cutSensorTrip
  | cutSensorRelease
  | thmFloor (c : Cmd)
  -- 16_security.md
  | secHello (c : Cmd)
  | secAuth (c : Cmd)
  | handshakeLapse (ch : Fin 32)
  | lockoutEnd (ch : Fin 32)
  | secPairOpen (c : Cmd)
  | secPairStart (c : Cmd)
  | secPairConfirm (c : Cmd)
  | pairingWindowEnd
  | secKeyPut (c : Cmd)
  | secKeyGen (c : Cmd)
  | secKeyDelete (c : Cmd)
  | secCryptSeal (c : Cmd)
  | secCryptOpen (c : Cmd)
  | secLifecycleProvision (c : Cmd)
  | secLifecycleField (c : Cmd)
  | secLifecycleReturn (c : Cmd)
  | fuseBurnEnd
  | secUpdateBegin (c : Cmd)
  | secUpdateData (c : Cmd)
  | secUpdateEnd (c : Cmd)
  | secUpdateConfirm (c : Cmd)
  | secUpdateAbort (c : Cmd)
  | secRandom (c : Cmd)
  | trialExpire
  | drbgReseed
  | entropyFail
  -- 17_faults.md
  | hubFaultReset
  | subsysUnitReset (u : Fin 8)
  | recoveryEnd (u : Fin 8)
  | coreWatchdog (core : Fin 2)
  | streakClear
  | limpHoldExpire
  | clrLatch (v : BitVec 8)
  | limpEnter (v : BitVec 8)
  | limpExit (v : BitVec 8)
  -- 18_debug_port.md
  | tapReset
  | extest (cells : Nat)
  | samplePreload (cells : Nat)
  | idcode
  | highz
  | clamp
  | bypass
  | dbgStatus
  /-- The low 8 bits of the Update-DR (R458). -/
  | dbgChal (scope : BitVec 8)
  | dbgResp (response : BitVec 512)
  | debugResponseJudged
  /-- The core, and whether the same write requests its resume too (R452). -/
  | halt (core : Fin 2) (both : Bool)
  | coreHalt (core : Fin 2)
  | resume (core : Fin 2)
  | coreResume (core : Fin 2)
  | dbgReset
  | relock
  | flush
  | dbgMemRead (addr : BitVec 32) (inc : Bool)
  | dbgMemWrite (addr data : BitVec 32) (inc : Bool)
  | dbgSpokePush (data : Byte)
  | dbgSpokePop
  | dbgReadMode (c : Cmd)
  -- rows the table lists last
  | vddPadLoss
  | nvmWpChange (low : Bool)
  | bootContinue
  | vlcdLowEnd
  | gfltRelease (g : Fin 12)
deriving DecidableEq, Repr

end Sys2Proof
end

