-- ==== Sys2Proof/WellFormed.lean ====
section
/-!
DEFINITION. Sys2Proof/WellFormed.lean: which commands the hub's surroundings can send at all. The meanings do not rest on
it: they judge every operand as the spec says.
-/

namespace Sys2Proof

/-- A frame's payload is at most 4,095 bytes (R68, Table 3-3, 03_spoke_packets.md). -/
def Cmd.wf (c : Cmd) : Bool := decide (c.payload.length ≤ 4095)

/-- At most eight ring codes and eight tachometer counts are delivered in a slot (R171, R384). -/
def SlotIn.wf (i : SlotIn) : Bool := decide (i.rings.length ≤ 8) && decide (i.tach.length ≤ 8)

/-- The Spoke command of a row that is an opcode. -/
def Instr.cmd? (i : Instr) : Option Cmd :=
  match i with
  | .pwrSetMode c => some c
  | .pwrSubsysReset c => some c
  | .sessionOpen c => some c
  | .sessionClose c => some c
  | .sessionReset c => some c
  | .hubReset c => some c
  | .subscribe c => some c
  | .ping c => some c
  | .hostBaud c => some c
  | .sessionInfo c => some c
  | .attrRead c => some c
  | .attrWrite c => some c
  | .attrReadMulti c => some c
  | .attrModify c => some c
  | .attrInfo c => some c
  | .zonHold c => some c
  | .zonSchedWrite c => some c
  | .zonSchedRead c => some c
  | .zonRemoteT c => some c
  | .zonWindow c => some c
  | .zonPresence c => some c
  | .zonSave c => some c
  | .zonEvtRead c => some c
  | .zonLoopReset c => some c
  | .pwmGroupCtl c => some c
  | .pwmLoadAll c => some c
  | .pwmSync c => some c
  | .pwmClrLatch c => some c
  | .actValve c => some c
  | .actBrMove c => some c
  | .actBrClear c => some c
  | .actFan c => some c
  | .actRamp c => some c
  | .actAux c => some c
  | .actSave c => some c
  | .adcConvert c => some c
  | .adcSave c => some c
  | .padStage c => some c
  | .padCommit c => some c
  | .padCancel c => some c
  | .padProof c => some c
  | .padRestart c => some c
  | .busPortCtl c => some c
  | .busTx c => some c
  | .busGpRestart c => some c
  | .busGpPdu c => some c
  | .busSave c => some c
  | .hayRead c => some c
  | .hayWrite c => some c
  | .hayLogRead c => some c
  | .hayLogAppend c => some c
  | .hayLogFlush c => some c
  | .hayOdInc c => some c
  | .stbLoadBegin c => some c
  | .stbLoadData c => some c
  | .stbLoadEnd c => some c
  | .stbTaskStart c => some c
  | .stbTaskStop c => some c
  | .stbFeed c => some c
  | .dspPower c => some c
  | .dspWrite c => some c
  | .dspFill c => some c
  | .dspPresent c => some c
  | .dspLwWrite c => some c
  | .dspMode c => some c
  | .segWrite c => some c
  | .segShow c => some c
  | .thmFloor c => some c
  | .secHello c => some c
  | .secAuth c => some c
  | .secPairOpen c => some c
  | .secPairStart c => some c
  | .secPairConfirm c => some c
  | .secKeyPut c => some c
  | .secKeyGen c => some c
  | .secKeyDelete c => some c
  | .secCryptSeal c => some c
  | .secCryptOpen c => some c
  | .secLifecycleProvision c => some c
  | .secLifecycleField c => some c
  | .secLifecycleReturn c => some c
  | .secUpdateBegin c => some c
  | .secUpdateData c => some c
  | .secUpdateEnd c => some c
  | .secUpdateConfirm c => some c
  | .secUpdateAbort c => some c
  | .secRandom c => some c
  | .dbgReadMode c => some c
  | _ => none

/-- Whether a command can be sent. -/
def Instr.wf (i : Instr) : Bool :=
  (match i.cmd? with
   | none => true
   | some c => c.wf) &&
  match i with
  | .slotEdge i => i.wf
  | .boot _ rings => decide (rings.length ≤ 8)
  | .fw2Resume _ rings => decide (rings.length ≤ 8)
  | .frameReceive _ data => decide (data.length ≤ 8192)
  | .spiWrite len data => decide (len < 65536) && decide (data.length ≤ 65535)
  | .spiRead len _ => decide (len < 65536)
  | .delayLineCalDone lines => decide (lines.length ≤ 12)
  | .transactionEnd _ _ data => decide (data.length ≤ 255)
  | .busFrameEnd _ data _ => decide (data.length ≤ 1600)
  | .busRxOverflow _ data => decide (data.length ≤ 1600)
  | _ => true

end Sys2Proof
end

