-- ==== Sys2Proof/Config.lean ====
section
/-!
DEFINITION. Sys2Proof/Config.lean: what the spec leaves to the part or leaves open, as constants without a body. Nothing
can be proved of their values. Each has its entry in the assumption log.
-/

namespace Sys2Proof.Config

/-- The n-th free value, w bits wide (log entry 3). -/
opaque freeBits : Nat → (w : Nat) → BitVec w

/-- AES-CMAC of a message under a key: 16 bytes (R70, 03_spoke_packets.md; log entry 4). -/
opaque cmac : (key message : Bytes) → Bytes

/-- SHA-256 (FIPS 180-4; R415, R417 16_security.md; log entry 4). -/
opaque sha256 : Bytes → Bytes

/-- HMAC-SHA-256 (R415, R417; log entry 4). -/
opaque hmac : (key message : Bytes) → Bytes

/-- ECDSA P-256 signature check: public key x then y, digest, signature r then s (R405, R409; log entry 4). -/
opaque ecdsaVerify : (publicKey digest signature : Bytes) → Bool

/-- ECDSA P-256 signature over a digest (R415; log entry 4). -/
opaque ecdsaSign : (privateKey digest : Bytes) → Bytes

/-- The public key of a P-256 private key, x then y (log entry 4). -/
opaque p256Public : Bytes → Bytes

/-- Whether 64 bytes are a valid P-256 point (R404, R415; log entry 4). -/
opaque p256Valid : Bytes → Bool

/-- ECDH shared x-coordinate: private key, public key (R415, R417; log entry 4). -/
opaque ecdh : (privateKey publicKey : Bytes) → Bytes

/-- AES-256-GCM sealing: key, nonce, associated data, plain text; cipher text then 16-byte tag (R422; log entry 4). -/
opaque gcmSeal : (key nonce aad plain : Bytes) → Bytes

/-- AES-256-GCM opening: key, nonce, associated data, cipher text then tag; the plain text if the tag is right. -/
opaque gcmOpen : (key nonce aad sealed : Bytes) → Option Bytes

/-- The point of a P-256 public key in SEC1 compressed form, x then y, if it lies on the curve (Table 16-17; log entry 4). -/
opaque p256Decompress : Bytes → Option Bytes

/-- The slot wrap key, before and after the burn of RETURNED (R404; log entry 4). -/
opaque wrapKey : (returned : Bool) → Bytes

/-- Whether SIG_L verifies over a digest with the ROM key of an index (R409; log entry 4). -/
opaque vendorVerify : (key : Nat) → (digest signature : Bytes) → Bool

/-- The MS/TP header CRC of ANSI/ASHRAE 135 (R250, 09_bus_golposen.md; log entry 5). -/
opaque mstpHeaderCrc : Bytes → Nat

/-- The MS/TP data CRC of ANSI/ASHRAE 135 (R250; log entry 5). -/
opaque mstpDataCrc : Bytes → Nat

/-- Entry of the reduced slot table of Freewheel-1 (R56, 02_power_reset.md; log entry 6). -/
opaque reducedEntry : Nat → BitVec 32

/-- Entry of the throttled slot table of a thermal level (R390, 15_die_thermal.md; log entry 6). -/
opaque throttledEntry : Nat → BitVec 32

/-- The entry that the patch image of a digest puts in place of entry i of the default schedule, if it replaces it
(R18, 01_cadence.md; log entry 6). -/
opaque patchEntry : (digest index : Nat) → Option (BitVec 32)

/-- The class of Table 1-13 that a patch declares for a job of codes 0x17 to 0xEF (Table 1-4, 01_cadence.md; log entry 6). -/
opaque patchClass : (job : Nat) → Fin 6

/-- What a byte of a stall's memories holds that nothing has written since the memories last lost their content (R316,
R322, R334, 12_stable_scratchpad.md; log entry 7): epoch, stall, memory, byte address. -/
opaque scratch : (epoch stall memory address : Nat) → Byte

/-- What ACT gives for a function code of Table 11-2 that is refused at load (log entry 3): code, y. -/
opaque reservedFn : (fn : Nat) → (y : Int) → Int

/-- Firmware build that SESSION_OPEN reports (Table 3-11, 03_spoke_packets.md; log entry 3). -/
opaque firmwareBuild : BitVec 32

end Sys2Proof.Config
end

