-- ==== Sys2Proof/Machine/State.lean ====
section
/-!
DEFINITION. Sys2Proof/Machine/State.lean: the outcomes' reasons and everything the spec gives the hub to hold, as plain
data, with the queue of the commands that wait. Attribute fields are in `State.regs`; the structures below hold what no
attribute shows. Each field's docstring gives its width, the rule and file that name it, and its reset value.
-/

namespace Sys2Proof.Machine

/-- Reasons for a fault. The spec gives every row of the opcode table an effect or says that nothing happens, so no
meaning raises one: the type has no constructor (safe: a fault can never hide a behaviour). -/
inductive Fault
deriving DecidableEq, Repr

/-- Reasons for a refusal. -/
inductive Refusal where
  /-- Raised by the dispatch alone, for a row that has no meaning yet (safe: nothing is claimed about it). -/
  | notModelled (mnemonic : String)
deriving DecidableEq, Repr

/-! ### The cadence (spec/01_cadence.md) -/

/-- Where the entries of a slot-table copy come from (R18, R56, R390, R439). The contents of the reduced and the
throttled table are not given by the spec: their entries are free values of Config. -/
inductive TableBase where
  | idle
  | dflt
  | limp (core : Nat)
  | reduced
  | throttled
deriving DecidableEq, Repr

/-- One copy of the slot table: its source, and the entries that a valid patch image (or an upset) replaces. -/
structure SlotTable where
  /-- Width enum. R18 (01_cadence.md). Reset idle. Source of the entries. -/
  base : TableBase := .idle
  /-- Width 512 x 32. R18, R22 (01_cadence.md). Reset empty. Entries that differ from the source, by index. -/
  edits : Map Nat := []
deriving DecidableEq, Repr

/-- A run of a core job inside its allotment (R21, R26, R27). -/
structure Run where
  /-- Width 8. Table 1-4 (01_cadence.md). Reset none. Job code. -/
  job : Nat
  /-- Width 9. R21 (01_cadence.md). Reset none. Entry index of the slot the allotment started in. -/
  entry : Nat
  /-- Width 1. R27 (01_cadence.md). Reset none. The run has signalled done. -/
  done : Bool
  /-- Width 1. Corners (01_cadence.md). Reset none. The allotment is debug-held. -/
  held : Bool
deriving DecidableEq, Repr

/-- One record of CAD_OVR (Table 1-13). -/
structure OvrRec where
  job : Nat
  core : Nat
  entry : Nat
  cls : Nat
  stg : Nat
deriving DecidableEq, Repr

/-- The cadence sequencer and its guards. -/
structure Cad where
  /-- Width 47. CAD_NOW, R33, R34 (01_cadence.md). Reset 0. Slots counted since power-on reset: slot, tick, lap and stage. -/
  now : Nat := 0
  /-- Width 1. R18 (01_cadence.md). Reset false. The sequencer walks the table (the first tick has come). -/
  walking : Bool := false
  /-- Width 512 x 32. R18 (01_cadence.md). Reset idle. Active copy of the slot table. -/
  active : SlotTable := {}
  /-- Width 512 x 32. R18 (01_cadence.md). Reset idle. Shadow copy of the slot table. -/
  shadow : SlotTable := {}
  /-- Width 512 x 32. R22 (01_cadence.md). Reset idle. The source firmware reloads the shadow copy from. -/
  source : SlotTable := {}
  /-- Width 1. R22 (01_cadence.md). Reset false. A reload of the shadow copy is due at the next stage edge. -/
  reloadPend : Bool := false
  /-- Width run. R24, R27 (01_cadence.md). Reset none. Core 0's current allotment. -/
  run0 : Option Run := none
  /-- Width run. R24, R27 (01_cadence.md). Reset none. Core 1's current allotment. -/
  run1 : Option Run := none
  /-- Width entry. R27 (01_cadence.md). Reset none. ADC_WIN: entry of the slot whose sequences are guarded. -/
  adcWin : Option Nat := none
  /-- Width entry. R27 (01_cadence.md). Reset none. STB_WIN: entry of the slot that opened the stall window. -/
  stbWin : Option Nat := none
  /-- Width 2 x 8 x count. Table 1-7 IO and HSK (01_cadence.md). Reset empty. Suspended runs, by core * 256 + job: the
  number of consecutive allotments in which the run was suspended. -/
  susp : Map Nat := []
  /-- Width 2 x 8 x 2. R29 (01_cadence.md). Reset empty. Consecutive overruns of a CTL job, by core * 256 + job. -/
  streak : Map Nat := []
  /-- Width 1. Table 1-7 DSP (01_cadence.md). Reset false. A DSP_SVC run of this lap was stopped. -/
  dspLap : Bool := false
  /-- Width 5. Table 1-7 DSP (01_cadence.md). Reset 0. Consecutive counting laps of DSP_SVC. -/
  dspLaps : Nat := 0
  /-- Width 8 x 32. Table 1-13 (01_cadence.md). Reset empty. The CAD_OVR queue. -/
  ovr : List OvrRec := []
  /-- Width 1. R495 (01_cadence.md). Reset false. N has been counted over a whole AON stage with REF running. -/
  nValid : Bool := false
  /-- Width count. R15 (01_cadence.md). Reset none. The MODEL's own field: the slot at which a stage edge's work was done. -/
  stageAt : Option Nat := none
  /-- Width 1. R33, R34 (01_cadence.md). Reset false. REF runs. -/
  refOn : Bool := false
  /-- Width 1. R30, R17, Corners (01_cadence.md). Reset true. AON edges come. -/
  aonOn : Bool := true
  /-- Width 1. R431 (17_faults.md). Reset false. Core 0 has completed a run in this tick. -/
  comp0 : Bool := false
  /-- Width 1. R431 (17_faults.md). Reset false. Core 1 has completed a run in this tick. -/
  comp1 : Bool := false
  /-- Width 1. R431 (17_faults.md). Reset false. Core 0 had an allotment that was not debug-held in this tick. -/
  watch0 : Bool := false
  /-- Width 1. R431 (17_faults.md). Reset false. Core 1 had an allotment that was not debug-held in this tick. -/
  watch1 : Bool := false
  /-- Width 5. R431 (17_faults.md). Reset 0. Core watchdog count of core 0. -/
  wd0 : Nat := 0
  /-- Width 5. R431 (17_faults.md). Reset 0. Core watchdog count of core 1. -/
  wd1 : Nat := 0
deriving DecidableEq, Repr

/-! ### Supplies, reset, escrow, modes (spec/02_power_reset.md) -/

/-- The action a request of escrow is made for (Table 2-6). -/
inductive EscKind where
  /-- The matrix panel, class A. -/
  | panel
  /-- A hayloft page commit, class B; the number names the request in the hayloft queue. -/
  | commit (id : Nat)
  /-- The power-fail record, class B (R54, R289). -/
  | pfRecord (id : Nat)
  /-- A reversal of a bridge, class C (R167). -/
  | reversal (bridge : Nat)
  /-- A fuse burn of the tack room, class D (R401). -/
  | fuse
deriving DecidableEq, Repr

/-- A request waiting for, or holding, reserve (R50, R51). -/
structure EscReq where
  /-- Class: 0 A, 1 B, 2 C, 3 D. -/
  cls : Nat
  cost : Nat
  kind : EscKind
  /-- Tick count (since power-on) at which the request was made. -/
  since : Nat
deriving DecidableEq, Repr

/-- A Kickstand image (Table 2-3): entries not listed are 0b00 and code 0x000. -/
structure KsImage where
  chan : Map Nat := []
  ramp : Map Nat := []
  /-- The stored check differs from the CRC of the image (an upset of the latch). -/
  bad : Bool := false
deriving DecidableEq, Repr

/-- Supplies, resets, the reserve gauge, the escrow and the power modes. -/
structure Pwr where
  /-- Width 1. Table 2-1, R35 (02_power_reset.md). Reset true. VDD_CORE is good. -/
  core : Bool := true
  /-- Width 1. Table 2-1, R35 (02_power_reset.md). Reset true. VDD_18 is good. -/
  v18 : Bool := true
  /-- Width 1. Table 2-1, R35 (02_power_reset.md). Reset true. VDD_IO is good. -/
  io : Bool := true
  /-- Width 1. Table 2-1, R35 (02_power_reset.md). Reset true. VDD_ADC is good. -/
  adc : Bool := true
  /-- Width 1. Table 2-1, R35 (02_power_reset.md). Reset true. VDD_AON is good. -/
  aon : Bool := true
  /-- Width 1. Table 2-1, R37 (02_power_reset.md). Reset true. VDD_PAD is good. -/
  pad : Bool := true
  /-- Width 1. R44, R500 (02_power_reset.md). Reset true. The controller domain is held: from the assertion of a hub
  reset until the first tick. -/
  held : Bool := true
  /-- Width 1. R46 (02_power_reset.md). Reset false. The boot steps up to start-up have ended. -/
  booted : Bool := false
  /-- Width 1. Corners (02_power_reset.md). Reset false. Boot pauses for PFI. -/
  bootWait : Bool := false
  /-- Width 1. R35 (02_power_reset.md). Reset false. The hub is in Standby. -/
  standby : Bool := false
  /-- Width 1. R55 (02_power_reset.md). Reset false. PFI has been released since it was qualified. -/
  pfiRel : Bool := false
  /-- Width 5. Table 2-7 (02_power_reset.md). Reset 0. Tick edges since PFI was qualified. -/
  pfTicks : Nat := 0
  /-- Width 1. Table 2-7 (02_power_reset.md). Reset false. PFI was qualified and the sequence has not started. -/
  pfDue : Bool := false
  /-- Width 1. R54, Table 2-7 (02_power_reset.md). Reset false. The hub is quiesced. -/
  quiet : Bool := false
  /-- Width 128. R62 (02_power_reset.md). Reset empty. PWR_RESERVE as it stood when PFI was qualified. -/
  pfSnap : Bytes := []
  /-- Width 12. R55 (02_power_reset.md). Reset 0. PWM groups that were enabled when PFI was qualified. -/
  pfGroups : Nat := 0
  /-- Width 4 x 12. R48 (02_power_reset.md). Reset empty. The last four HOLD_SNS samples, newest first. -/
  samples : List Nat := []
  /-- Width list. R50, R51 (02_power_reset.md). Reset empty. Requests that wait, in the order they were made. -/
  wait : List EscReq := []
  /-- Width list. R48, R50 (02_power_reset.md). Reset empty. Requests admitted and held. -/
  hold : List EscReq := []
  /-- Width 2. R56 (02_power_reset.md). Reset none. Mode that PWR_SET_MODE will enter at the next lap edge. -/
  pendMode : Option Nat := none
  /-- Width 3. R498 (02_power_reset.md). Reset 0. Step of the entry to Freewheel-2 that has been reached; 0 none. -/
  fwStep : Nat := 0
  /-- Width 1. R58 (02_power_reset.md). Reset false. A wake source fired during the entry steps. -/
  wakeDue : Bool := false
  /-- Width 304. Table 2-3 (02_power_reset.md). Reset all off. The Kickstand latch. -/
  ks : KsImage := {}
  /-- Width 304. R41 (02_power_reset.md). Reset none. Image staged for the next AON edge. -/
  ksStage : Option KsImage := none
  /-- Width 5. R42, PWR_KSTAT.WHY (02_power_reset.md). Reset [1]. Causes that force the whole image now, newest first. -/
  force : List Nat := [1]
  /-- Width 1. Corners (02_power_reset.md). Reset false. The check failed at a hub reset: DEGRADE owed after boot. -/
  ksFault : Bool := false
  /-- Width 1. R60 (02_power_reset.md). Reset false. VDD_AON stands at or above VMAX since charging last stopped. -/
  chgFull : Bool := false
deriving DecidableEq, Repr

/-! ### Spoke (spec/03_spoke_packets.md) -/

/-- A command in flight: the channel, the tag, the opcode, and the session of the channel it belongs to (R105). -/
structure Ref where
  ch : Nat
  tag : Nat
  op : Nat
  epoch : Nat
deriving DecidableEq, Repr

/-- A command in use on a channel (R77): waiting in the in queue until it is started. -/
structure Use where
  tag : Nat
  op : Nat
  payload : Bytes
  started : Bool
  /-- Reads of channel 31 were loud when the command was admitted (R461, 18_debug_port.md). -/
  loud : Bool := false
deriving DecidableEq, Repr

/-- Which part of the out queue an entry uses (R87). -/
inductive PktKind where
  | final
  | lost
  | shared
deriving DecidableEq, Repr

/-- An entry of an out queue: tag, opcode byte, payload and, on an authenticated session, the 8 bytes of AUTHTAG. -/
structure Pkt where
  kind : PktKind
  tag : Nat
  opcode : Nat
  payload : Bytes
  auth : Bytes
deriving DecidableEq, Repr

/-- The binding of a channel to a session key (R70, R413, R415). -/
structure Binding where
  key : Bytes
  slot : Nat
  rx : Nat
  tx : Nat
deriving DecidableEq, Repr

/-- A handshake between SEC_HELLO and SEC_AUTH (R415). -/
structure Hello where
  mode : Nat
  slot : Nat
  clientNonce : Bytes
  hubNonce : Bytes
  clientKey : Bytes
  hubSecret : Bytes
  hubKey : Bytes
  /-- Last tick in which SEC_AUTH may be admitted. -/
  until_ : Nat
  /-- A SEC_AUTH has been admitted in time. -/
  inTime : Bool := false
deriving DecidableEq, Repr

/-- A Spoke channel. -/
structure Channel where
  /-- Width 1. R74 check 4 (03_spoke_packets.md). Reset false. The channel is open. -/
  isOpen : Bool := false
  /-- Width 128. R84 (03_spoke_packets.md). Reset 0. Subscription mask. -/
  mask : Nat := 0
  /-- Width 16. R83 (03_spoke_packets.md). Reset 0. Next event sequence number. -/
  seq : Nat := 0
  /-- Width 16 entries. R77, R86 (03_spoke_packets.md). Reset empty. Commands in use, in admission order; the ones not
  started are the in queue 2c. -/
  uses : List Use := []
  /-- Width 32 entries. R86, R87 (03_spoke_packets.md). Reset empty. The out queue 2c + 1. -/
  outq : List Pkt := []
  /-- Width 16 entries. R77, R87, R88 (03_spoke_packets.md). Reset empty. Final replies of ended commands that find the 16
  kept entries taken: held back, their tags still in use. -/
  waits : List Pkt := []
  /-- Width 16. R87 (03_spoke_packets.md). Reset 0. Reply drops since they were last reported. -/
  drops : Nat := 0
  /-- Width 16. R85, Table 3-11 (03_spoke_packets.md). Reset 0. Events lost since they were last reported. -/
  lostCnt : Nat := 0
  /-- Width 3 x 16. R85 (03_spoke_packets.md). Reset none. Lost events not yet told: count, first and last number. -/
  lost : Option (Nat × Nat × Nat) := none
  /-- Width count. R105 (03_spoke_packets.md). Reset 0. Session of the channel; a session reset starts a new one. -/
  epoch : Nat := 0
  /-- Width binding. R413 (16_security.md). Reset none. Authentication binding. -/
  bind : Option Binding := none
  /-- Width handshake. R415 (16_security.md). Reset none. Handshake under way. -/
  hello : Option Hello := none
  /-- Width 3. R416 (16_security.md). Reset 0. Consecutive handshake failures. -/
  fails : Nat := 0
  /-- Width 32. R416 (16_security.md). Reset none. Tick at which a lockout of SEC_HELLO ends. -/
  lockEnd : Option Nat := none
deriving DecidableEq, Repr

/-- The receive path of one transport: bytes, complete frames, discard counts (R72, R73, R497). -/
structure RxPath where
  /-- Width 8,192 bytes. R497 (03_spoke_packets.md). Reset empty. Bytes of an incomplete frame. -/
  part : Bytes := []
  /-- Width 8,192 bytes. R497 (03_spoke_packets.md). Reset empty. Complete frames with a good CRC, oldest first. -/
  frames : List Bytes := []
  /-- Width 16. R73 (03_spoke_packets.md). Reset 0. CRC discards since they were last reported. -/
  crcDisc : Nat := 0
  /-- Width 16. R73 (03_spoke_packets.md). Reset 0. Framing discards since they were last reported. -/
  frmDisc : Nat := 0
deriving DecidableEq, Repr

/-- The host interface (SPI and UART). -/
structure HostIf where
  /-- Width 1. Table 3-1 (03_spoke_packets.md). Reset false. HST_SEL as sampled at the end of the hub reset: UART mode. -/
  uart : Bool := false
  /-- Width 8,192 bytes. R92 (03_spoke_packets.md). Reset empty. Transmit FIFO. -/
  tx : Bytes := []
  /-- Width list. R92, Table 3-8 PKT (03_spoke_packets.md). Reset empty. Bytes left of each packet in the transmit FIFO, oldest first. -/
  txPkts : List Nat := []
  /-- Width list. Table 3-11 HUB_RESET, R56 (03_spoke_packets.md). Reset empty. Opcode of each packet in the FIFO. -/
  txOps : List Nat := []
  /-- Width 1. Table 3-8 PKT (03_spoke_packets.md). Reset false. The first packet in the FIFO has been read in part. -/
  txCut : Bool := false
  /-- Width 4. R92 (03_spoke_packets.md). Reset 0. Channel the round robin looks at next. -/
  rr : Nat := 0
  /-- Width 1. Table 3-8 (03_spoke_packets.md). Reset false. WOVF. -/
  wovf : Bool := false
  /-- Width 1. Table 3-8 (03_spoke_packets.md). Reset false. WCUT. -/
  wcut : Bool := false
  /-- Width 1. Table 3-8 (03_spoke_packets.md). Reset false. DISC. -/
  disc : Bool := false
  /-- Width 1. R100 (03_spoke_packets.md). Reset false. HST_IRQ is driven low. -/
  irq : Bool := false
  /-- Width 1. Table 1-7, R100 (03_spoke_packets.md). Reset false. HST_IRQ is updated when the present allotment ends. -/
  irqDue : Bool := false
  /-- Width bytes. R93-R98 (03_spoke_packets.md). Reset empty. What HST_MISO carried in the last transaction. -/
  miso : Bytes := []
  /-- Width 32. R101 (03_spoke_packets.md). Reset 115200. Baud rate. -/
  baud : Nat := 115200
  /-- Width 32. R103 (03_spoke_packets.md). Reset none. Baud rate to return to if no frame comes. -/
  prevBaud : Option Nat := none
  /-- Width 32. R103 (03_spoke_packets.md). Reset 0. Tick count at which that return falls due. -/
  baudEnd : Nat := 0
  /-- Width 32. R103 (03_spoke_packets.md). Reset none. Rate that takes effect once the OK reply has been sent. -/
  nextBaud : Option Nat := none
  /-- Width 1. R102 (03_spoke_packets.md). Reset true. HST_RTSN is low (the host may send). -/
  rtsLow : Bool := true
  /-- Width 1. R102 (03_spoke_packets.md). Reset true. HST_CTSN is low (the hub may send). -/
  ctsLow : Bool := true
deriving DecidableEq, Repr

/-- What the console shows (R66). -/
inductive ConMode where
  | menu
  /-- A dialogue of the item, at the page given. -/
  | item (n : Nat) (page : Nat)
  /-- The item's command has been sent and its reply is awaited. -/
  | waiting (n : Nat) (page : Nat)
  /-- The final reply's status is shown. -/
  | result (n : Nat) (status : Nat)
deriving DecidableEq, Repr

/-- The installer console. -/
structure Console where
  /-- Width 1. R65 (03_spoke_packets.md). Reset false. The console is open. -/
  isOpen : Bool := false
  /-- Width enum. R66 (03_spoke_packets.md). Reset menu. What it shows. -/
  mode : ConMode := .menu
  /-- Width 3. R66 (03_spoke_packets.md). Reset 0. Selected entry. -/
  sel : Nat := 0
  /-- Width 8 x 4. R237 (08_paddock.md). Reset empty. Check-value digits keyed so far. -/
  digits : List Nat := []
  /-- Width 10. R65 (03_spoke_packets.md). Reset 0. Stages without a key. -/
  idle : Nat := 0
  /-- Width 7. R64, R77 (03_spoke_packets.md). Reset 0. Next tag the console uses on channel 24. -/
  tag : Nat := 0
  /-- Width 7. R66 (03_spoke_packets.md). Reset none. Tag of the item's command whose final reply is awaited. -/
  awaits : Option Nat := none
  /-- Width 6. R67 (03_spoke_packets.md). Reset 0. What is still to be sent of the screen: strips of text and the present. -/
  draw : Nat := 0
deriving DecidableEq, Repr

/-- Spoke as a whole. -/
structure Spoke where
  /-- Width 32 channels. R63 (03_spoke_packets.md). Reset all closed. The channels, by number. -/
  chans : Map Channel := []
  /-- Width list. R105 (03_spoke_packets.md). Reset empty. Started commands whose session was reset; they still count in
  the hub-wide limits. -/
  orphans : List Ref := []
  /-- Width transports. R73, R497 (03_spoke_packets.md). Reset empty. Receive paths: 0 host, 1 and 2 the bus streams, 3
  the debug port. -/
  rx : Map RxPath := []
  /-- Width bytes x 3. R251, R448 (09_bus_golposen.md). Reset empty. Transmit streams of the bus ports and the debug port. -/
  streams : Map Bytes := []
  /-- Width 11. Table 3-11 HUB_RESET (03_spoke_packets.md). Reset none. Tick at which an accepted HUB_RESET starts at the latest. -/
  rstAt : Option Nat := none
deriving DecidableEq, Repr

/-! ### Zones (spec/04_zones_loops.md) -/

/-- A switch point (Table 4-3). -/
structure SwPoint where
  minute : Nat
  sp : Nat
deriving DecidableEq, Repr

/-- One zone's working state beside its attributes. -/
structure Zone where
  /-- Width 16. R111 (04_zones_loops.md). Reset none. Filter state F in 1/256 degC; none restarts it. -/
  f : Option Int := none
  /-- Width 8. R125 (04_zones_loops.md). Reset 0. SRC_KIND + 4 * SRC_IDX that F belongs to. -/
  fSrc : Nat := 0
  /-- Width 4. R112 (04_zones_loops.md). Reset 0. Consecutive invalid runs. -/
  bad : Nat := 0
  /-- Width 12 + 32. Table 4-1, ZON_REMOTE_T (04_zones_loops.md). Reset none. Remote temperature and the stage of its delivery. -/
  remT : Option (Nat × Nat) := none
  /-- Width 12 + 32. Table 4-1, ZON_REMOTE_T (04_zones_loops.md). Reset none. Remote humidity and the stage of its delivery. -/
  remH : Option (Nat × Nat) := none
  /-- Width 120 x 12. R120 (04_zones_loops.md). Reset empty. TEMP of the last consecutive valid samples, newest first. -/
  hist : List Nat := []
  /-- Width 32. R120 (04_zones_loops.md). Reset 0. Stage at which the window opened. -/
  winAt : Nat := 0
  /-- Width 32. R120 (04_zones_loops.md). Reset none. Stage until which detection is suppressed. -/
  winMute : Option Nat := none
  /-- Width 1. ZON_WINDOW, R127 (04_zones_loops.md). Reset none. Remote window state to take at the next run. -/
  winCmd : Option Bool := none
  /-- Width 1. R121 (04_zones_loops.md). Reset false. Presence was named since the last run. -/
  presence : Bool := false
  /-- Width 32. R121 (04_zones_loops.md). Reset none. Stage of the last evidence (the first run starts it). -/
  lastEv : Option Nat := none
  /-- Width 32. ZON_INPUT_n.OCC_VALID (04_zones_loops.md). Reset none. Stage of the last occupancy score. -/
  scoreAt : Option Nat := none
  /-- Width 16 + 32. R122 (04_zones_loops.md). Reset none. Learned lead and the stage of its delivery. -/
  lead : Option (Nat × Nat) := none
  /-- Width day x minute. R119 (04_zones_loops.md). Reset none. Switch point the hold began under. -/
  holdPt : Option (Nat × Nat) := none
  /-- Width hold. R119, R127 (04_zones_loops.md). Reset none. Hold command to take: mode, setpoint, duration. -/
  holdCmd : Option (Nat × Nat × Nat) := none
  /-- Width 1. R125 (04_zones_loops.md). Reset false. ZON_LOOP_RESET is due. -/
  iReset : Bool := false
  /-- Width 1. R128 (04_zones_loops.md). Reset false. RESTART is owed at the first loop run. -/
  restart : Bool := false
  /-- Width 1. R131, R440 (04_zones_loops.md). Reset none. A LIMP entry with this DATA is owed. -/
  limpDue : Option Nat := none
  /-- Width 16. R128 (04_zones_loops.md). Reset 0. SEQ of the next entry; always-on domain. -/
  seq : Nat := 0
  /-- Width 31 x 64. R129 (04_zones_loops.md). Reset empty. Unread entries of queue 64 + n. -/
  entries : List Nat := []
  /-- Width 12. R129 (04_zones_loops.md). Reset 0. Entries lost since the last GAP. -/
  lost : Nat := 0
  /-- Width 1. R129 (04_zones_loops.md). Reset false. A read has freed an entry: GAP is due at the next commit. -/
  gapDue : Bool := false
  /-- Width 7 x 12 x 32. R114, R116 (04_zones_loops.md). Reset empty. Day programs in force, by day. -/
  days : Map (List SwPoint) := []
  /-- Width 7 x 12 x 32. R116 (04_zones_loops.md). Reset empty. Stored day programs taken at the next run, by day. -/
  newDays : Map (List SwPoint) := []
deriving DecidableEq, Repr

/-- A ZON_SCHED_WRITE under way (R116-R118). -/
structure SchedReq where
  id : Nat
  cmd : Ref
  zone : Nat
  /-- Days whose commits have not ended. -/
  days : Nat
  stored : Nat
  prog : List SwPoint
  superseded : Bool
deriving DecidableEq, Repr

/-! ### PWM engine (spec/05_pwm_engine.md) -/

/-- A PWM group beside its attributes. -/
structure PwmGrp where
  /-- Width 4. R135 (05_pwm_engine.md). Reset 0. Active PRESC. -/
  presc : Nat := 0
  /-- Width 24. R135 (05_pwm_engine.md). Reset 0. PWM cycles since the group's period began. -/
  cnt : Nat := 0
  /-- Width count. R169 (06_actuator_channels.md). Reset 0. Number of the group's present period. -/
  num : Nat := 0
  /-- Width 1. R140 (05_pwm_engine.md). Reset false. A shadow write of PER or PRESC has landed and awaits its copy. -/
  dirty : Bool := false
  /-- Width 1. R150 (05_pwm_engine.md). Reset false. Outputs stay at Kickstand until the next period boundary. -/
  hold : Bool := false
  /-- Width 8. R152 (05_pwm_engine.md). Reset none. Calibrated standby line (its elements) that awaits its swap. -/
  swap : Option Nat := none
  /-- Width 8. R152 (05_pwm_engine.md). Reset 0. Elements of the standby line; 0 not calibrated. -/
  standby : Nat := 0
  /-- Width 32. R153 (05_pwm_engine.md). Reset none. Stage in which the active line last passed a calibration. -/
  passAt : Option Nat := none
deriving DecidableEq, Repr

/-- A PWM channel beside its attributes. -/
structure PwmCh where
  /-- Width 6. R139 (05_pwm_engine.md). Reset 0. Active ON_FINE. -/
  onF : Nat := 0
  /-- Width 6. R139 (05_pwm_engine.md). Reset 0. Active OFF_FINE. -/
  offF : Nat := 0
  /-- Width 1. R137 (05_pwm_engine.md). Reset false. Active FULL. -/
  full : Bool := false
  /-- Width 1. R140 (05_pwm_engine.md). Reset false. A shadow write has landed and awaits its copy. -/
  dirty : Bool := false
  /-- Width cycle + period. R169 (06_actuator_channels.md). Reset none. PWM cycle (as given) and group period of the last
  kill request. -/
  killAt : Option (Nat × Nat) := none
deriving DecidableEq, Repr

/-- The PWM engine. -/
structure Pwm where
  /-- Width 12 groups. R134 (05_pwm_engine.md). Reset empty. Groups, by number. -/
  grps : Map PwmGrp := []
  /-- Width 96 channels. R134 (05_pwm_engine.md). Reset empty. Channels, by number. -/
  chs : Map PwmCh := []
  /-- Width 1. R150 (05_pwm_engine.md). Reset false. The PWM clock is stopped. -/
  stopped : Bool := false
  /-- Width 1. R149 (05_pwm_engine.md). Reset false. A service request waits for ACT_UPD. -/
  service : Bool := false
  /-- Width 1. R152 (05_pwm_engine.md). Reset false. Calibration of the standby lines runs. -/
  calRun : Bool := false
deriving DecidableEq, Repr

/-! ### Actuator channels (spec/06_actuator_channels.md) -/

/-- A valve channel beside its attributes. -/
structure Valve where
  /-- Width 12. ACT_VALVE (06_actuator_channels.md). Reset 0. Commanded demand (channels not bound to a zone). -/
  cmd : Nat := 0
  /-- Width 1. R159 (06_actuator_channels.md). Reset false. A cycle runs. -/
  cycling : Bool := false
  /-- Width 32. R159 (06_actuator_channels.md). Reset 0. Tick count at which the cycle ends. -/
  cycEnd : Nat := 0
  /-- Width 32. R159, R161 (06_actuator_channels.md). Reset 0. Tick count at which the on-time ends. -/
  onEnd : Nat := 0
  /-- Width 32. R160 (06_actuator_channels.md). Reset 0. Tick count at which the channel entered WAITING. -/
  waitAt : Nat := 0
  /-- Width 1. R161 (06_actuator_channels.md). Reset false. The output has risen since the inrush grant. -/
  rose : Bool := false
  /-- Width 1. R158 (06_actuator_channels.md). Reset false. LIM_IN is the LIMIT threshold now. -/
  limIn : Bool := false
deriving DecidableEq, Repr

/-- A valve group in recovery (R162). -/
structure VGrp where
  /-- Width 4. R162 (06_actuator_channels.md). Reset 0. ACT_UPD runs since recovery started. -/
  runs : Nat := 0
  /-- Width 5. R162 (06_actuator_channels.md). Reset 0. Slots for which GSNSg has stayed below GRP_LIM; 17 stand for 500 us. -/
  low : Nat := 0
  /-- Width 3. R162 (06_actuator_channels.md). Reset none. Channel of the group latched by a kill request. -/
  short : Option Nat := none
deriving DecidableEq, Repr

/-- A bridge beside its attributes. -/
structure Bridge where
  /-- Width ref. ACT_BR_MOVE (06_actuator_channels.md). Reset none. Command whose move is under way. -/
  cmd : Option Ref := none
  /-- Width 2. R165, R166 (06_actuator_channels.md). Reset 0. Direction of the move under way or requested: 0 none, 1 A, 2 B. -/
  dir : Nat := 0
  /-- Width 1. R165 (06_actuator_channels.md). Reset false. The move is an end run. -/
  endRun : Bool := false
  /-- Width 24. R167 (06_actuator_channels.md). Reset 0. Ticks the waiting move will drive for. -/
  ticks : Nat := 0
  /-- Width 2. R166 (06_actuator_channels.md). Reset 0. Direction of the previous move. -/
  lastDir : Nat := 0
  /-- Width 32. R166 (06_actuator_channels.md). Reset none. Tick count at which the previous move ended. -/
  lastEnd : Option Nat := none
  /-- Width 8. R167 (06_actuator_channels.md). Reset 0. Ticks left in the reversal coast. -/
  coast : Nat := 0
  /-- Width 40. R165 (06_actuator_channels.md). Reset 0. Position beyond POS, in 1/RUN_T of a code. -/
  frac : Nat := 0
deriving DecidableEq, Repr

/-- A fan beside its attributes. -/
structure Fan where
  /-- Width 8. R171 (06_actuator_channels.md). Reset 0. Stages since the fan left off that are not judged yet. -/
  grace : Nat := 0
  /-- Width 4. R171 (06_actuator_channels.md). Reset 0. Consecutive stages below RPM_MIN. -/
  slow : Nat := 0
deriving DecidableEq, Repr

/-- A ramp output beside its attributes. -/
structure Ramp where
  /-- Width 17. R172 (06_actuator_channels.md). Reset 0. Position P in 1/32 code. -/
  p : Nat := 0
  /-- Width 12. R173 (06_actuator_channels.md). Reset none. Target committed, effective at the next slot edge. -/
  next : Option Nat := none
  /-- Width ref. R173 (06_actuator_channels.md). Reset none. ACT_RAMP whose arrival is awaited. -/
  cmd : Option Ref := none
  /-- Width 1. R175 (06_actuator_channels.md). Reset false. The fixed rate of the Kickstand ramp applies. -/
  ks : Bool := false
  /-- Width 1. R174 (06_actuator_channels.md). Reset false. The target was last taken from a zone. -/
  zone : Bool := false
deriving DecidableEq, Repr

/-- An actuator command in queues 224-228, or taken by ACT_CMD (R157). -/
structure ActReq where
  cmd : Ref
  payload : Bytes
deriving DecidableEq, Repr

/-- Actuators. -/
structure Act where
  /-- Width 48 channels. Table 6-1 (06_actuator_channels.md). Reset empty. Valve channels. -/
  valves : Map Valve := []
  /-- Width 6 groups. R162 (06_actuator_channels.md). Reset empty. Groups in recovery. -/
  vgrps : Map VGrp := []
  /-- Width 16 bridges. Table 6-1 (06_actuator_channels.md). Reset empty. Bridges. -/
  bridges : Map Bridge := []
  /-- Width 8 fans. Table 6-1 (06_actuator_channels.md). Reset empty. Fans. -/
  fans : Map Fan := []
  /-- Width 8 ramps. Table 6-1 (06_actuator_channels.md). Reset empty. Ramp outputs. -/
  ramps : Map Ramp := []
  /-- Width 5 x 16 entries. R157 (06_actuator_channels.md). Reset empty. Command queues, 224 + index. -/
  queues : Map (List ActReq) := []
  /-- Width list. R157 (06_actuator_channels.md). Reset empty. Commands ACT_CMD has taken, for the next ACT_UPD commit. -/
  taken : List ActReq := []
  /-- Width 96. Table 6-4 (06_actuator_channels.md). Reset 0. Latched channels that ACT_UPD has dealt with. -/
  told : Nat := 0
  /-- Width 12. R179 (06_actuator_channels.md). Reset 0. Stored groups that firmware enables after the first tick. -/
  enable : Nat := 0
deriving DecidableEq, Repr

/-! ### Converters and sensor ports (spec/07_adc_sensing.md) -/

/-- A result of a sequence entry that ADC_RES_u has not posted yet. -/
structure AdcRes where
  input : Nat
  code : Nat
  ovr : Bool
  unr : Bool
deriving DecidableEq, Repr

/-- A sequence under way (R185, R188). -/
structure SeqRun where
  tick : Nat
  bank : Nat
  inputs : List Nat
  done : Nat
  win : Bool
deriving DecidableEq, Repr

/-- A converter. -/
structure AdcUnit where
  /-- Width seq. R186 (07_adc_sensing.md). Reset none. Sequence running. -/
  seq : Option SeqRun := none
  /-- Width 1. Table 7-1 (07_adc_sensing.md). Reset false. A sequence starts when the single ends. -/
  seqPend : Bool := false
  /-- Width 6. R186 (07_adc_sensing.md). Reset none. Single conversion running: its input. -/
  single : Option Nat := none
  /-- Width 6. R186 (07_adc_sensing.md). Reset none. Single conversion pending: its input. -/
  pend : Option Nat := none
  /-- Width 1. Conversion and starts (07_adc_sensing.md). Reset false. The reservation stands. -/
  rsv : Bool := false
  /-- Width 288. R188 (07_adc_sensing.md). Reset none. ADC_SEQ_u as latched at the tick edge; none = as it reads. -/
  live : Option (List Nat) := none
  /-- Width list. R189 (07_adc_sensing.md). Reset empty. Results ADC_RES_u will post. -/
  res : List AdcRes := []
  /-- Width list. R190 (07_adc_sensing.md). Reset empty. Inputs of a lost sequence. -/
  lost : List Nat := []
deriving DecidableEq, Repr

/-- Posting of an input (R190): the tick count of its conversion, and whether its last sequence was lost. -/
structure AinAge where
  at_ : Option Nat := none
  lost : Bool := false
deriving DecidableEq, Repr

/-- A transaction of a sensor port (R199-R202): the device and its phase (0 write, 1 read, 2 both in one). -/
structure Trans where
  dev : Nat
  phase : Nat
deriving DecidableEq, Repr

/-- The outcome of a transaction (R203): ERR code and the bytes read. -/
structure TransRes where
  tr : Trans
  err : Nat
  data : Bytes
deriving DecidableEq, Repr

/-- A sensor port. -/
structure Port where
  /-- Width trans. R199 (07_adc_sensing.md). Reset none. Transaction prepared. -/
  prep : Option Trans := none
  /-- Width trans. R199 (07_adc_sensing.md). Reset none. Transaction running. -/
  run : Option Trans := none
  /-- Width result. R199 (07_adc_sensing.md). Reset none. Result for the next SPT_SVC. -/
  res : Option TransRes := none
deriving DecidableEq, Repr

/-- A sensor-port device beside its attributes. -/
structure Dev where
  /-- Width 32. R199 (07_adc_sensing.md). Reset none. Tick count since which the device has waited. -/
  due : Option Nat := none
  /-- Width 32. R199 (07_adc_sensing.md). Reset none. Tick count at which it next falls due. -/
  next : Option Nat := none
  /-- Width 32. R200 (07_adc_sensing.md). Reset none. Tick count at which the read of an HT device may start. -/
  readAt : Option Nat := none
  /-- Width 5. R201 (07_adc_sensing.md). Reset 0. Chunks of the partial frame. -/
  chunk : Nat := 0
  /-- Width 256 bytes. R201 (07_adc_sensing.md). Reset empty. Partial frame. -/
  part : Bytes := []
  /-- Width 256 bytes. R201, R314 (07_adc_sensing.md). Reset none. Latest complete frame not yet taken by Stable. -/
  frame : Option Bytes := none
  /-- Width 1. R203 (07_adc_sensing.md). Reset false. The last transaction was an error after a good result. -/
  err : Bool := false
  /-- Width 1. R203 (07_adc_sensing.md). Reset false. A result without error has come. -/
  good : Bool := false
deriving DecidableEq, Repr

/-- Converters and sensor ports. -/
structure Adc where
  /-- Width 2 units. R183 (07_adc_sensing.md). Reset empty. ADC-A and ADC-B. -/
  units : Map AdcUnit := []
  /-- Width 64 inputs. R190 (07_adc_sensing.md). Reset empty. Ages of the inputs. -/
  ages : Map AinAge := []
  /-- Width ref. ADC_CONVERT (07_adc_sensing.md). Reset none. ADC_CONVERT awaiting its single conversion. -/
  conv : Option Ref := none
  /-- Width 3 ports. Sensor ports (07_adc_sensing.md). Reset empty. I2C0, I2C1, SSPI. -/
  ports : Map Port := []
  /-- Width 16 devices. R199 (07_adc_sensing.md). Reset empty. Devices. -/
  devs : Map Dev := []
  /-- Width 1. R205 (07_adc_sensing.md). Reset false. The sensor ports are stopped. -/
  portsOff : Bool := false
  /-- Width 1. R205 (07_adc_sensing.md). Reset false. The converters are stopped. -/
  off : Bool := false
  /-- Width list of 8. R202 (07_adc_sensing.md). Reset empty. Key presses on their way to the console. -/
  keys : List Nat := []
deriving DecidableEq, Repr

/-! ### Paddock (spec/08_paddock.md) -/

/-- A stored copy of the parameter block (R236). -/
structure PadCopy where
  block : Bytes
  seq : Nat
  valid : Bool
deriving DecidableEq, Repr

/-- The staged block (R234). -/
structure PadStaged where
  block : Bytes
  /-- Rounds left before it expires. -/
  left : Nat
  tries : Nat
deriving DecidableEq, Repr

/-- A safety input (R214-R217). -/
structure PadSin where
  /-- Width 1. R214 (08_paddock.md). Reset false. Channel A reads filtered closed. -/
  a : Bool := false
  /-- Width 1. R214 (08_paddock.md). Reset false. Channel B reads filtered closed. -/
  b : Bool := false
  /-- Width 1. R215 (08_paddock.md). Reset false. In stop. -/
  stop : Bool := false
  /-- Width 1. R216 (08_paddock.md). Reset false. DISCREPANT. -/
  disc : Bool := false
  /-- Width 1. R217 (08_paddock.md). Reset false. WAIT_RST. -/
  wait : Bool := false
  /-- Width 1. R217 (08_paddock.md). Reset false. A PAD_RESTART naming it has been taken. -/
  rst : Bool := false
  /-- Width count. R216 (08_paddock.md). Reset 0. Round ends since its filtered channels differ. -/
  split : Nat := 0
deriving DecidableEq, Repr

/-- A plant output (R218-R220). -/
structure PadOut where
  /-- Width 1. R218 (08_paddock.md). Reset false. Energised. -/
  on : Bool := false
  /-- Width 1. R219 (08_paddock.md). Reset false. PFBn reads closed. -/
  fb : Bool := false
  /-- Width 1. R218 (08_paddock.md). Reset false. Stopped at the last round end. -/
  stop : Bool := false
  /-- Width 1. R219 (08_paddock.md). Reset false. FB_FAULT. -/
  fbFault : Bool := false
  /-- Width 1. R219 (08_paddock.md). Reset false. WELD. -/
  weld : Bool := false
  /-- Width 26. R220 (08_paddock.md). Reset 0. Proof age in rounds. -/
  age : Nat := 0
  /-- Width 1. R220 (08_paddock.md). Reset false. Window open. -/
  due : Bool := false
  /-- Width 1. R220 (08_paddock.md). Reset false. A proof test holds the output off. -/
  test : Bool := false
  /-- Width 1. R220 (08_paddock.md). Reset false. De-energised since, and not judged yet. -/
  fell : Bool := false
  /-- Width count. R220 (08_paddock.md). Reset 0. Round ends since the test began. -/
  testN : Nat := 0
  /-- Width count. R219 (08_paddock.md). Reset 0. Round ends at which PFBn has not matched the output. -/
  mism : Nat := 0
  /-- Width refs. PAD_PROOF (08_paddock.md). Reset empty. The commands that await the test. -/
  cmds : List Ref := []
  /-- Width 1. R220 (08_paddock.md). Reset false. Last test passed. -/
  pass : Bool := false
  /-- Width 1. R220 (08_paddock.md). Reset false. Last test failed. -/
  fail : Bool := false
deriving DecidableEq, Repr

/-- A request in the mailbox (R240). -/
structure PadReq where
  cmd : Ref
  payload : Bytes
deriving DecidableEq, Repr

/-- A reply on its way back to the controller (R240): command, status, further bytes; status 0x01 is interim. -/
structure PadRes where
  cmd : Ref
  status : Nat
  extra : Bytes
deriving DecidableEq, Repr

/-- The store write of a commit (R235, R236): the block, its command and the round ends since it began. -/
structure PadWrite where
  block : Bytes
  cmd : Ref
  rounds : Nat
deriving DecidableEq, Repr

/-- Something the snapshot will report: the KIND of its PAD_NOTE (0 none) and the class of its fault (5 none, 6 an
odometer increment in place of a fault). -/
structure PadNote where
  kind : Nat
  unit : Nat
  data : Nat
  cls : Nat
deriving DecidableEq, Repr

/-- The Paddock. -/
structure Pad where
  /-- Width 2. R228 (08_paddock.md). Reset 2. 0 ARMED, 1 REARM, 2 UNARMED. -/
  state : Nat := 2
  /-- Width 11. R228 (08_paddock.md). Reset 0. Rounds left in the re-arm window. -/
  window : Nat := 0
  /-- Width 448. R231 (08_paddock.md). Reset none. Committed active block; none = the defaults are active. -/
  active : Option Bytes := none
  /-- Width 448. R234 (08_paddock.md). Reset none. Staged block. -/
  staged : Option PadStaged := none
  /-- Width 2 copies. R236 (08_paddock.md). Reset empty. The store's copies 0 and 1. -/
  copies : Map PadCopy := []
  /-- Width 448. R235 (08_paddock.md). Reset none. Block being written by PAD_COMMIT, and its command. -/
  writing : Option PadWrite := none
  /-- Width 1. R235 (08_paddock.md). Reset false. A commit takes effect at this round end: every output is off for a round. -/
  offRound : Bool := false
  /-- Width 4. R209 (08_paddock.md). Reset 0. Rounds since the last decision round. -/
  phase : Nat := 0
  /-- Width 1. R238 (08_paddock.md). Reset false. A PTS1 decision has been made since power-up. -/
  decided : Bool := false
  /-- Width 12. R213 (08_paddock.md). Reset 0. Raw code of PTS0. -/
  pts0 : Nat := 0
  /-- Width 12. R213 (08_paddock.md). Reset 0. Raw code of PTS1. -/
  pts1 : Nat := 0
  /-- Width 12. R213 (08_paddock.md). Reset 0. Raw code of PAD_POS. -/
  pos : Nat := 0
  /-- Width 1. R223 (08_paddock.md). Reset false. PAD_ENDH reads filtered closed. -/
  endh : Bool := false
  /-- Width 8 inputs. R214 (08_paddock.md). Reset empty. Safety inputs. -/
  sins : Map PadSin := []
  /-- Width 4 outputs. R218 (08_paddock.md). Reset empty. Plant outputs. -/
  outs : Map PadOut := []
  /-- Width 5. R221 (08_paddock.md). Reset 0. Consecutive decisions at or above SLT_LIM. -/
  sltHi : Nat := 0
  /-- Width 3. R221 (08_paddock.md). Reset 0. Consecutive decisions below SLT_LIM - SLT_HYS. -/
  sltLo : Nat := 0
  /-- Width 1. R221 (08_paddock.md). Reset false. SLT tripped. -/
  slt : Bool := false
  /-- Width 1. R221 (08_paddock.md). Reset false. SLT waits for restart. -/
  sltWait : Bool := false
  /-- Width 1. R221 (08_paddock.md). Reset false. A PAD_RESTART naming SLT has been taken. -/
  sltRst : Bool := false
  /-- Width 2. R221 (08_paddock.md). Reset 0. Consecutive decisions with PTS1 OPEN. -/
  opn : Nat := 0
  /-- Width 3. R221 (08_paddock.md). Reset 0. Consecutive decisions without PTS1 OPEN. -/
  shut : Nat := 0
  /-- Width 1. R221 (08_paddock.md). Reset false. SLT_SENS. -/
  sens : Bool := false
  /-- Width 1. R222 (08_paddock.md). Reset false. SDIR inhibits. -/
  sdir : Bool := false
  /-- Width 3. R222 (08_paddock.md). Reset 0. Consecutive decisions below the SDIR release level. -/
  sdirLo : Nat := 0
  /-- Width 1. R223 (08_paddock.md). Reset false. SLP_FAULT. -/
  slpFault : Bool := false
  /-- Width 2. R223 (08_paddock.md). Reset 0. Consecutive decisions with ENDH closed below SLP_MAX - 0x200. -/
  slpEnd : Nat := 0
  /-- Width 2. R223 (08_paddock.md). Reset 0. Consecutive decisions with POS_ERR. -/
  slpErr : Nat := 0
  /-- Width 1. R225 (08_paddock.md). Reset false. Frost demand. -/
  frost : Bool := false
  /-- Width 3. R225 (08_paddock.md). Reset 0. Consecutive decisions below 5.0 degC. -/
  frLo : Nat := 0
  /-- Width 3. R225 (08_paddock.md). Reset 0. Consecutive decisions at or above 7.0 degC. -/
  frHi : Nat := 0
  /-- Width 1. R224 (08_paddock.md). Reset false. INHIBIT as driven. -/
  inhibit : Bool := false
  /-- Width 1. R224 (08_paddock.md). Reset false. REFUSE as driven. -/
  refuse : Bool := false
  /-- Width 12. R224 (08_paddock.md). Reset 0. Ceiling as driven. -/
  ceil : Nat := 0
  /-- Width 2. R211 (08_paddock.md). Reset 0. Consecutive rounds in which the lanes disagreed. -/
  laneBad : Nat := 0
  /-- Width 1. R211 (08_paddock.md). Reset false. LANE_FAULT. -/
  lane : Bool := false
  /-- Width 1. R210 (08_paddock.md). Reset false. CLK_FAULT. -/
  clk : Bool := false
  /-- Width 16. R227 (08_paddock.md). Reset 1. The latest challenge (the LFSR's state; the spec gives no start). -/
  chal : Nat := 1
  /-- Width 5. R227 (08_paddock.md). Reset 0. Rounds since the challenge was published. -/
  chalAge : Nat := 0
  /-- Width 1. R227 (08_paddock.md). Reset false. A valid response came: a new challenge is due at the round end. -/
  chalDue : Bool := false
  /-- Width 6. R228 (08_paddock.md). Reset 0. Rounds since the last valid response. -/
  quiet : Nat := 0
  /-- Width 8. R228 (08_paddock.md). Reset 0. Consecutive valid responses. -/
  hbOk : Nat := 0
  /-- Width 8. Table 8-10 (08_paddock.md). Reset 0. Wrong responses since they were last shown. -/
  hbBad : Nat := 0
  /-- Width 4 + 12 + 1. R229 (08_paddock.md). Reset 0. Proposal in force: DEM mask. -/
  dem : Nat := 0
  /-- Width 12. R229 (08_paddock.md). Reset 0. FLOW_REQ in force. -/
  flow : Nat := 0
  /-- Width 1. R229 (08_paddock.md). Reset false. CALL in force. -/
  call : Bool := false
  /-- Width proposal. R229 (08_paddock.md). Reset none. Proposal in the mailbox: DEM, FLOW_REQ, CALL, remote stop. -/
  prop : Option (Nat × Nat × Bool × Bool) := none
  /-- Width 1. R261 (09_bus_golposen.md). Reset true. The controller does not report REM_RUN (remote stop asserted). -/
  remStop : Bool := true
  /-- Width requests. R240 (08_paddock.md). Reset empty. Requests the controller holds for the next PAD_XCH. -/
  out : List PadReq := []
  /-- Width requests. R240 (08_paddock.md). Reset empty. Requests in the mailbox. -/
  mail : List PadReq := []
  /-- Width replies. R240 (08_paddock.md). Reset empty. Replies in the mailbox. -/
  res : List PadRes := []
  /-- Width notes. R239, R241 (08_paddock.md). Reset empty. What the next snapshot reports. -/
  notes : List PadNote := []
  /-- Width 1. R239 (08_paddock.md). Reset false. REARM was entered since the last snapshot that saw ARMED. -/
  rearmed : Bool := false
  /-- Width 1. Corners (08_paddock.md). Reset false. The loss of the snapshot has been reported. -/
  lossSeen : Bool := false
deriving DecidableEq, Repr

/-! ### Building bus and Golposen (spec/09_bus_golposen.md) -/

/-- A frame that the silence detector has ended (R246): its bytes, whether a line error spoils it, and
its receive tick. -/
structure BusFrame where
  data : Bytes
  bad : Bool
  tick : Nat
deriving DecidableEq, Repr

/-- A frame on its way to the line: its bytes and the BUS_TX command that awaits its last stop bit. -/
structure TxFrame where
  data : Bytes
  cmd : Option Ref
deriving DecidableEq, Repr

/-- A frame from the host in queue 176 + 8p + 1 (BUS_TX). -/
structure HostFrame where
  cmd : Ref
  reply : Bool
  dest : Nat
  ftype : Nat
  data : Bytes
deriving DecidableEq, Repr

/-- An entry of a port's send queue: a frame from the host, or a producer connection that is to send. -/
inductive BusSend where
  | host (f : HostFrame)
  | gp (conn : Nat)
deriving DecidableEq, Repr

/-- A request outstanding in mode 3 (R249): its server, whether it is a 0x42 request, and the tick of its timeout, which
counts from the last stop bit. -/
structure BusOut where
  dest : Nat
  gp : Bool
  due : Option Nat
deriving DecidableEq, Repr

/-- A bus port. -/
structure BusPort where
  /-- Width 1. R243, R245 (09_bus_golposen.md). Reset false. BUSp_DE is high. -/
  de : Bool := false
  /-- Width queue. R246 (09_bus_golposen.md). Reset empty. Frames received and not yet judged. -/
  rx : List BusFrame := []
  /-- Width queue. R246, R248 (09_bus_golposen.md). Reset empty. Frames queued for the line, the first one leaving now. -/
  tx : List TxFrame := []
  /-- Width 2 x 32 entries. Queues 176 + 8p + 1 and + 3, R249 (09_bus_golposen.md). Reset empty. Frames from the host and producer
  connections due to send, in the order they entered. -/
  send : List BusSend := []
  /-- Width request. R249 (09_bus_golposen.md). Reset none. Request outstanding. -/
  out : Option BusOut := none
  /-- Width 1. R250 (09_bus_golposen.md). Reset false. The node holds the token. -/
  token : Bool := false
  /-- Width 7. R250 (09_bus_golposen.md). Reset 0. Frames sent in this token possession. -/
  sent : Nat := 0
  /-- Width 7. R250 (09_bus_golposen.md). Reset none. Next station known. -/
  nextStation : Option Nat := none
  /-- Width 7 + 32. R250 (09_bus_golposen.md). Reset none. Poll For Master under way: the address polled and the tick of T_usage_timeout. -/
  poll : Option (Nat × Nat) := none
  /-- Width 8 + 32. R250 (09_bus_golposen.md). Reset none. Type 5 frame that awaits a reply: its source and the tick of Reply Postponed. -/
  expect : Option (Nat × Nat) := none
  /-- Width 7. R264 (09_bus_golposen.md). Reset 0. Frames discarded in this stage. -/
  disc : Nat := 0
  /-- Width 32. R252 (09_bus_golposen.md). Reset 0. Tick count of the last 0x41 request. -/
  spokeAt : Nat := 0
  /-- Width 3. R251 (09_bus_golposen.md). Reset 0. Channel of the port the round robin looks at next. -/
  rr : Nat := 0
deriving DecidableEq, Repr

/-- A Golposen connection beside its attributes. -/
structure Conn where
  /-- Width 32. R257, R258 (09_bus_golposen.md). Reset 0. Tick of the last accepted PDU, or of the enable or restart. -/
  last : Nat := 0
  /-- Width 5. R259 (09_bus_golposen.md). Reset 0. Corruptions in this stage. -/
  corr : Nat := 0
  /-- Width 32. R256 (09_bus_golposen.md). Reset 0. Tick of the last send. -/
  sentAt : Nat := 0
  /-- Width 1. R256 (09_bus_golposen.md). Reset false. A PDU has been sent since the start (SEQ 0 is used up). -/
  begun : Bool := false
  /-- Width 128. R257 (09_bus_golposen.md). Reset empty. DATA last accepted. -/
  data : Bytes := []
deriving DecidableEq, Repr

/-- The bus. -/
structure Bus where
  /-- Width 2 ports. R243 (09_bus_golposen.md). Reset empty. Ports. -/
  ports : Map BusPort := []
  /-- Width 16 connections. R260 (09_bus_golposen.md). Reset empty. Connections. -/
  conns : Map Conn := []
deriving DecidableEq, Repr

/-! ### Matrix panel (spec/13_panel_matrix.md) -/

/-- A panel command in queue 208: what is left of a DSP_FILL is counted in pixels (R352). -/
structure DspReq where
  cmd : Ref
  payload : Bytes
  /-- Width 17. R352 (13_panel_matrix.md). Reset none. Pixels of a DSP_FILL already written. -/
  done : Nat
deriving DecidableEq, Repr

/-- What ends in OFF (R363-R365): the discharge in progress. -/
structure Discharge where
  /-- Width 1. R365 (13_panel_matrix.md). Reset none. Gates are left at VGL_IN (VGH_PG low at the start). -/
  skipGates : Bool
  /-- Width 1. R365 (13_panel_matrix.md). Reset none. It ends in FAULT. -/
  fault : Bool
deriving DecidableEq, Repr

/-- The matrix panel beside its attributes. -/
structure Dsp where
  /-- Width 32 entries. R352 (13_panel_matrix.md). Reset empty. Queue 208. -/
  queue : List DspReq := []
  /-- Width 230,400 x 6. R351 (13_panel_matrix.md). Reset empty (0). LEVEL by subpixel 3 * (320 * y + x) + c. -/
  level : Map Nat := []
  /-- Width 230,400 x 6. R351 (13_panel_matrix.md). Reset empty (0). NEXT by subpixel. -/
  nxt : Map Nat := []
  /-- Width 2. R356 (13_panel_matrix.md). Reset 3. Pattern LASTPOL started from (3 = all positive). -/
  polBase : Nat := 3
  /-- Width 240. R356 (13_panel_matrix.md). Reset empty. Lines driven an odd number of times since: LASTPOL is inverted. -/
  flips : Map Nat := []
  /-- Width 300 x 32. R357 (13_panel_matrix.md). Reset empty (0). ACC by tile. -/
  acc : Map Int := []
  /-- Width 1. R357 (13_panel_matrix.md). Reset true. H is 0 until it is rebuilt. -/
  hZero : Bool := true
  /-- Width 300. R358 (13_panel_matrix.md). Reset empty. Tiles tripped at the last lap edge. -/
  trips : List Nat := []
  /-- Width 64 x 8. R347 (13_panel_matrix.md). Reset empty (as DSP_GAMMA_POS resets). GV_POS in force. -/
  gpos : Option (List Nat) := none
  /-- Width 64 x 8. R347 (13_panel_matrix.md). Reset empty (as DSP_GAMMA_NEG resets). GV_NEG in force. -/
  gneg : Option (List Nat) := none
  /-- Width 9. R348 (13_panel_matrix.md). Reset 245. VCOM in force, 10 mV units. -/
  vcom : Nat := 245
  /-- Width 20,480 x 3. R359, R360 (13_panel_matrix.md). Reset empty. Lantern memory, by 320 * line + x. -/
  lantern : Map Nat := []
  /-- Width 1. R360 (13_panel_matrix.md). Reset false. Mode last set by DSP_MODE: Lantern. -/
  mode : Bool := false
  /-- Width list. R360 (13_panel_matrix.md). Reset empty. DSP_MODE commands that await their lap edge. -/
  modeCmds : List Ref := []
  /-- Width 1. R360 (13_panel_matrix.md). Reset none. Mode to take at the next lap edge. -/
  modeDue : Option Bool := none
  /-- Width list. R353 (13_panel_matrix.md). Reset empty. DSP_PRESENT commands taken, before their latch. -/
  presents : List Ref := []
  /-- Width list. R353 (13_panel_matrix.md). Reset empty. DSP_PRESENT commands whose presenting frame runs or has ended. -/
  shown : List Ref := []
  /-- Width 1. R353 (13_panel_matrix.md). Reset false. The presenting frame runs. -/
  presenting : Bool := false
  /-- Width 240. R355 (13_panel_matrix.md). Reset empty. Lines the last present changed (a settle frame is due). -/
  settle : List Nat := []
  /-- Width 3. Frame kinds (13_panel_matrix.md). Reset 0. Kind of the lap's frame: 0 none, 1 full, 2 settle, 3 balance, 4 Lantern, 5 blank. -/
  kind : Nat := 0
  /-- Width subpixels x 6. R354 (13_panel_matrix.md). Reset empty. Overdrive levels of the presenting frame. -/
  od : Map Nat := []
  /-- Width 1. R360 (13_panel_matrix.md). Reset false. A full frame without overdrive is due (after Lantern mode). -/
  plain : Bool := false
  /-- Width 3. Table 13-4 (13_panel_matrix.md). Reset 0. Step of the power-on sequence: 0 none, 1 awaits L0, 2-4 rows of the table. -/
  step : Nat := 0
  /-- Width list. DSP_POWER (13_panel_matrix.md). Reset empty. Power-on commands that await ON. -/
  onCmds : List Ref := []
  /-- Width list. DSP_POWER (13_panel_matrix.md). Reset empty. Off commands that await OFF. -/
  offCmds : List Ref := []
  /-- Width 1. Table 13-4 (13_panel_matrix.md). Reset false. ON was reached: OK is due at the next DSP_SVC run. -/
  onDue : Bool := false
  /-- Width 1. R363 (13_panel_matrix.md). Reset none. An orderly off awaits its lap edge, or its blank frame runs: WHY. -/
  off : Option Nat := none
  /-- Width discharge. R365 (13_panel_matrix.md). Reset none. Discharge in progress. -/
  disch : Option Discharge := none
  /-- Width 1. Table 13-1 (13_panel_matrix.md). Reset false. VGH_EN is high. -/
  vghEn : Bool := false
  /-- Width 1. Table 13-1 (13_panel_matrix.md). Reset false. VGL_EN is high. -/
  vglEn : Bool := false
  /-- Width 1. R367 (13_panel_matrix.md). Reset false. The unit is reset once the panel is off. -/
  rstDue : Bool := false
  /-- Width 1. Table 1-7 (13_panel_matrix.md R367). Reset false. A DSP_SVC run of this lap was stopped. -/
  stopped : Bool := false
  /-- Width subpixels. R368 (13_panel_matrix.md). Reset empty. Frame-memory entries with bad parity. -/
  parBad : List Nat := []
  /-- Width 3. R364 (13_panel_matrix.md). Reset 0. Consecutive slot edges at which VGH_PG or VGL_PG was low. -/
  pgLow : Nat := 0
  /-- Width 1. R365 (13_panel_matrix.md). Reset false. RES_A is released at the next GAUGE run. -/
  resDue : Bool := false
  /-- The MODEL's own field, not the spec's: the slot count at which the panel's lap edge was last taken. -/
  lapAt : Option Nat := none
  /-- The MODEL's own field, not the spec's: the slot count at which a power-on step was last taken. -/
  stepAt : Option Nat := none
deriving DecidableEq, Repr

/-! ### Hayloft (spec/10_hayloft.md) -/

/-- What a hayloft request is for. -/
inductive HayWhat where
  /-- HAY_READ: command, address, length. -/
  | read (cmd : Ref) (addr len : Nat)
  /-- HAY_WRITE: command, address, data left, bytes written. -/
  | write (cmd : Ref) (addr : Nat) (data : Bytes) (written : Nat)
  /-- HAY_LOG_READ: command, stream, MAX, FROM. -/
  | logRead (cmd : Ref) (stream max from_ : Nat)
  /-- An odometer increment, by HAY_OD_INC or by firmware. -/
  | odInc (k : Nat) (cmd : Option Ref)
  /-- A save of stored objects: the command, the pages of the present object still to write (page, image, draft), and the
  objects still to save, with their data. -/
  | save (cmd : Option Ref) (pages : List (Nat × Bytes × Bool)) (objs : List (Nat × Bytes))
  /-- The commit of one day of a ZON_SCHED_WRITE. -/
  | sched (req day : Nat)
  /-- The commit of a stream's open page. -/
  | logPage (stream : Nat)
  /-- The power-fail record's commit. -/
  | pfPage
  /-- A page commit of the tack room (R404, R411): page, image and what it completes. -/
  | sec (page : Nat) (image : Bytes) (then_ : Nat)
  /-- The completion of a held page (R280, R281). -/
  | complete (page : Nat)
  /-- A refresh of a weak page (R291). -/
  | refresh (page : Nat)
  /-- A page commit of a stall's repair map: the rows taken and their spares (R341). -/
  | repair (stall : Nat) (plan : Map Nat)
deriving DecidableEq, Repr

/-- A request in queue 248, 249 or 250. -/
structure HayReq where
  id : Nat
  queue : Nat
  what : HayWhat
  /-- Tick count at which it was made. -/
  since : Nat
  /-- Escrow has admitted its page commit. -/
  admitted : Bool
deriving DecidableEq, Repr

/-- The write in progress (R273). -/
structure HayWrite where
  req : HayReq
  page : Nat
  image : Bytes
  draft : Bool
  /-- Increment by pair program (R283). -/
  pair : Bool
  /-- Phases that have ended. -/
  phase : Nat
  /-- The phase GO has been raised for the phase under way. -/
  go : Bool
  /-- The commit marker has been reached. -/
  marked : Bool
  erased : Bool
  erases : Nat
  progs : Nat
  /-- The last phase has ended: HAY_SVC samples it at the next tick. -/
  ended : Bool
  /-- The write failed (R281). -/
  failed : Bool
deriving DecidableEq, Repr

/-- A log stream. -/
structure LogStream where
  /-- Width 64 x 256. R286 (10_hayloft.md). Reset empty. Records in log queue 192 + s. -/
  queue : List Bytes := []
  /-- Width 2 x 256. R286 (10_hayloft.md). Reset empty. Records of the open page. -/
  open_ : List Bytes := []
  /-- Width 2. R286 (10_hayloft.md). Reset 0. Records of the open page already committed. -/
  kept : Nat := 0
  /-- Width 6. R286 (10_hayloft.md). Reset 0. Ring page that is open. -/
  page : Nat := 0
  /-- Width 32. R286 (10_hayloft.md). Reset 0. Tick count of the oldest uncommitted record of the open page. -/
  since : Nat := 0
  /-- Width 1. R286 (10_hayloft.md). Reset false. A commit of the open page has been requested. -/
  asked : Bool := false
  /-- Width 1. R286 (10_hayloft.md). Reset false. The open page is being written. -/
  busy : Bool := false
  /-- Width 32. R285 (10_hayloft.md). Reset 0. Next SEQ; always-on domain. -/
  next : Nat := 0
  /-- Width 3 x 32. R287 (10_hayloft.md). Reset none. Records lost since the last OVERFLOW: count, first, last. -/
  lost : Option (Nat × Nat × Nat) := none
deriving DecidableEq, Repr

/-- A HAY_LOG_FLUSH under way: the command and, per stream, the SEQ that must be committed. -/
structure FlushReq where
  cmd : Ref
  want : List (Nat × Nat)
deriving DecidableEq, Repr

/-- Hayloft. -/
structure Hay where
  /-- Width 147,456 bytes. R267 (10_hayloft.md). Reset erased (0xFF). Content of the pages, by byte address. -/
  mem : List Host.Cell := []
  /-- Width 32 slots. R279-R281 (10_hayloft.md). Reset empty. Journal images of pages that await completion, by page. -/
  held : Map Bytes := []
  /-- Width 32 spares. R281 (10_hayloft.md). Reset empty. Spare page in use, by page. -/
  spare : Map Nat := []
  /-- Width list. R281 (10_hayloft.md). Reset empty. Bad pages. -/
  bad : List Nat := []
  /-- Width 2 per page. R269 (10_hayloft.md). Reset empty. Physical error of a page: 1 correctable, 2 uncorrectable. -/
  ecc : Map Nat := []
  /-- Width list. R269 (10_hayloft.md). Reset empty. Uncorrectable pages already reported. -/
  told : List Nat := []
  /-- Width list. R291 (10_hayloft.md). Reset empty. Pages whose margin reads differ (weak). -/
  weak : List Nat := []
  /-- Width 32 entries. R271 (10_hayloft.md). Reset empty. Requests of queues 248 and 249 in the order they were made. -/
  reqs : List HayReq := []
  /-- Width 16 entries. R271 (10_hayloft.md). Reset empty. Requests of queue 250. -/
  groom : List HayReq := []
  /-- Width list. R271 (10_hayloft.md). Reset empty. Completions owed, ahead of every request. -/
  owed : List HayReq := []
  /-- Width write. R273 (10_hayloft.md). Reset none. Write in progress. -/
  cur : Option HayWrite := none
  /-- Width count. R271 (10_hayloft.md). Reset 0. Number of the next request. -/
  nextId : Nat := 0
  /-- Width 16 streams. Table 10-6 (10_hayloft.md). Reset empty. Log streams. -/
  logs : Map LogStream := []
  /-- Width list. HAY_LOG_FLUSH (10_hayloft.md). Reset empty. Flushes under way. -/
  flushes : List FlushReq := []
  /-- Width list. R116 (04_zones_loops.md). Reset empty. Day-program writes under way. -/
  scheds : List SchedReq := []
  /-- Width 16. R290 (10_hayloft.md). Reset 0. Spare-page turn of the sweep. -/
  spareTurn : Nat := 0
  /-- Width 1 + 1 + 12. R279 (10_hayloft.md). Reset none. What recall resolved: forward, page; owed to the log and the events. -/
  resolved : Option (Bool × Nat) := none
  /-- Width 1. Table 10-5 (10_hayloft.md). Reset false. A power-fail sequence ran before this boot. -/
  pfRan : Bool := false
deriving DecidableEq, Repr

/-! ### Stable (spec/11_stable_engine.md, spec/12_stable_scratchpad.md) -/

/-- The memories of a stall (Table 11-1, Table 12-1). -/
inductive StallMem where
  | code
  | weight
  | act
  | psum
  /-- The two weight latches. -/
  | latch
deriving DecidableEq, Repr

/-- A write on its way (R301, R329): the cycle in which it lands, the memory, unit and value, the context and operation
that made it, and the ring whose head it advances (neighbour sends). -/
structure Landing where
  cycle : Nat
  mem : StallMem
  unit : Nat
  val : Nat
  ctx : Nat
  pc : Nat
  ring : Option Nat
deriving DecidableEq, Repr

/-- The tag of a unit in audit mode (R325). -/
structure Tag where
  w : Bool := false
  r : Bool := false
  gen : Nat := 0
deriving DecidableEq, Repr

/-- A task context beside its attributes. -/
structure Task where
  /-- Width 8 x 16. Table 11-1 (11_stable_engine.md). Reset empty. AR0-AR7. -/
  ar : Map Nat := []
  /-- Width 16. Table 11-5 RINGS (11_stable_engine.md). Reset 0. Rings the program uses. -/
  rings : Nat := 0
  /-- Width 12. Table 11-5 ENTRY (11_stable_engine.md). Reset 0. First operation. -/
  entry : Nat := 0
  /-- Width 13. Table 11-5 CODE_LEN (11_stable_engine.md). Reset 0. Operations of the program. -/
  codeLen : Nat := 0
  /-- Width 32. Table 11-5 W_LEN (11_stable_engine.md). Reset 0. Weight bytes. -/
  wLen : Nat := 0
  /-- Width 32. Table 11-5 IMAGE_CRC (11_stable_engine.md). Reset 0. CRC of the image. -/
  crc : Nat := 0
  /-- Width bytes. R307 (11_stable_engine.md). Reset empty. Image bytes received. -/
  image : Bytes := []
  /-- Width refs. STB_TASK_STOP, R317 (11_stable_engine.md). Reset empty. Stops that await the end of the tile. -/
  stop : List Ref := []
  /-- Width 32. R309 WAITT, RWAIT (11_stable_engine.md). Reset 0. Due ticks to pass before the next tile. -/
  skip : Nat := 0
deriving DecidableEq, Repr

/-- An operation that occupies a stall (R301). -/
structure OpRun where
  /-- Width 2. R301 (11_stable_engine.md). Reset none. Context. -/
  ctx : Nat
  /-- Width 12. R301 (11_stable_engine.md). Reset none. Operation index. -/
  pc : Nat
  /-- Width 4. R300 (11_stable_engine.md). Reset none. OPC. -/
  opc : Nat
  /-- Width 32. R300 (11_stable_engine.md). Reset none. Operation word. -/
  word : Nat
  /-- Width 15. R301 (11_stable_engine.md). Reset none. Cycles occupied so far. -/
  i : Nat := 0
  /-- Width 15. Table 11-4 (11_stable_engine.md). Reset none. Cycles to occupy. -/
  len : Nat := 1
  /-- Width 17. R302 (11_stable_engine.md). Reset none. First unit read. -/
  src : Nat := 0
  /-- Width 17. R302 (11_stable_engine.md). Reset none. First unit written; for STORE and NSEND the head at issue. -/
  dst : Nat := 0
  /-- Width 1. R329 (12_stable_scratchpad.md). Reset none. The send was dropped. -/
  drop : Bool := false
  /-- Width list. R301 (11_stable_engine.md). Reset none. Writes of the operation, which land 6 cycles after its last cycle. -/
  buf : List Landing := []
  /-- Width 8 x 16. POOL, Table 11-3 (11_stable_engine.md). Reset none. The maximum or sum formed so far. -/
  acc : List Int := []
deriving DecidableEq, Repr

/-- A ring beside its attributes. -/
structure RingSt where
  /-- Width 13. R305 (11_stable_engine.md). Reset 0. Vectors STB_SVC has written since the last tile release. -/
  fed : Nat := 0
  /-- Width 13. R305 (11_stable_engine.md). Reset 0. Vectors published to STB_SVC at the last window close. -/
  pub : Nat := 0
  /-- Width 13. R305 (11_stable_engine.md). Reset 0. Vectors STB_SVC has taken since the last tile release. -/
  taken : Nat := 0
  /-- Width 6. R330 (12_stable_scratchpad.md). Reset 0. Vectors freed and not yet granted. -/
  count : Nat := 0
  /-- Width 8. R330 (12_stable_scratchpad.md). Reset 0. Credits granted and not yet applied. -/
  grants : Nat := 0
  /-- Width 1. R328 (12_stable_scratchpad.md). Reset false. The sender's balance becomes SIZE at the next tile release. -/
  fresh : Bool := false
deriving DecidableEq, Repr

/-- A stall. -/
structure Stall where
  /-- Width 16 KiB. Table 11-1 (11_stable_engine.md). Reset unlisted (undefined). Code memory. -/
  code : List Host.Cell := []
  /-- Width 160 KiB. Table 11-1 (11_stable_engine.md). Reset unlisted (undefined, R322). Weight memory. -/
  weight : List Host.Cell := []
  /-- Width 96 KiB. Table 11-1 (11_stable_engine.md). Reset unlisted (undefined, R322). Activation memory. -/
  act : List Host.Cell := []
  /-- Width 64 KiB. Table 11-1 (11_stable_engine.md). Reset unlisted (undefined, R322). Partial-sum memory. -/
  psum : List Host.Cell := []
  /-- Width 2 x 512. Table 11-1 (11_stable_engine.md). Reset unlisted (undefined). Weight latches. -/
  latch : List Host.Cell := []
  /-- The MODEL's own field, not the spec's: which free contents the memories hold (R316, R322; log entry 7). -/
  epoch : Nat := 0
  /-- The MODEL's own field, not the spec's: which free contents bank 7 holds (R334; log entry 7). -/
  epoch7 : Nat := 0
  /-- Width 5. R301 (11_stable_engine.md). Reset 0. Cycles of context load still to come. -/
  load : Nat := 0
  /-- Width op. R301 (11_stable_engine.md). Reset none. The operation that occupies the stall. -/
  cur : Option OpRun := none
  /-- Width 18. STB_STALL.LAST (11_stable_engine.md). Reset 0. STB cycles used in this window. -/
  used : Nat := 0
  /-- Width 4. R308 (11_stable_engine.md). Reset empty. Contexts whose tiles are still to run, the first one running. -/
  order : List Nat := []
  /-- Width 18. R301, R320 (11_stable_engine.md). Reset 0. STB cycles since tile release. -/
  cycle : Nat := 0
  /-- Width list. R301 (11_stable_engine.md). Reset empty. Writes on their way, in landing order. -/
  pend : List Landing := []
  /-- Width units. R325 (12_stable_scratchpad.md). Reset empty. Audit tags: activation unit u at u, sum unit u at 6144 + u. -/
  tags : Map Tag := []
  /-- Width 1. R326 (12_stable_scratchpad.md). Reset false. STB_NOTE kind 17 has been raised in this tile. -/
  hazTold : Bool := false
  /-- Width 16 rings. R305 (11_stable_engine.md). Reset empty. Rings. -/
  rings : Map RingSt := []
  /-- Width 4 contexts. R302 (11_stable_engine.md). Reset empty. Task contexts. -/
  tasks : Map Task := []
  /-- Width words. R338 (12_stable_scratchpad.md). Reset empty. 32-bit words with bad parity: activation word w at w, sum word w at
  24576 + w. -/
  parBad : List Nat := []
  /-- Width words. R335 (12_stable_scratchpad.md). Reset empty. Weight words in error: 1 correctable, 2 uncorrectable. -/
  wErr : Map Nat := []
  /-- Width 160 x 32. R335 (12_stable_scratchpad.md). Reset empty. CRC of each CRC-valid block. -/
  blocks : Map Nat := []
  /-- Width 160. R337 (12_stable_scratchpad.md). Reset empty. Poisoned blocks. -/
  poison : List Nat := []
  /-- Width 640. R337 (12_stable_scratchpad.md). Reset empty. Tiles rewritten since their block was poisoned. -/
  rewr : List Nat := []
  /-- Width 15. R336 (12_stable_scratchpad.md). Reset 0. Next word the scrubber reads. -/
  scrub : Nat := 0
  /-- Width 10. R336 (12_stable_scratchpad.md). Reset 0. STB cycles since the scrubber's last word, as counted at window
  close. -/
  scrubCyc : Nat := 0
  /-- Width 32. R340 (12_stable_scratchpad.md). Reset 0. The scrubber's present pass, counted since the hub reset. -/
  pass : Nat := 0
  /-- Width rows. R340 (12_stable_scratchpad.md). Reset empty. Scrubber passes in which a row needed a correction. -/
  corrPass : Map (List Nat) := []
  /-- Width rows. R341 (12_stable_scratchpad.md). Reset empty. Field repairs in force: spare (8 * bank + k), by row. -/
  mapped : Map Nat := []
  /-- Width rows. R340 (12_stable_scratchpad.md). Reset empty. Rows put forward. -/
  rowReq : List Nat := []
  /-- Width rows. R341 (12_stable_scratchpad.md). Reset empty. Rows whose map commit has ended, with their spares: copied
  at the next window close. -/
  copyDue : Map Nat := []
  /-- Width 1024. R333 (12_stable_scratchpad.md). Reset empty. Valid cache lines: line address, by 4 * set + way. -/
  cache : Map Nat := []
deriving DecidableEq, Repr

/-- A STB_FEED taken for the next STB_SVC run. -/
structure FeedReq where
  cmd : Ref
  stall : Nat
  ring : Nat
  data : Bytes
deriving DecidableEq, Repr

/-- Stable. -/
structure Stb where
  /-- Width 4 stalls. R297 (11_stable_engine.md). Reset empty. Stalls. -/
  stalls : Map Stall := []
  /-- Width list. R314 (11_stable_engine.md). Reset empty. Feeds for the next STB_SVC run. -/
  feeds : List FeedReq := []
  /-- Width 1. R305 (11_stable_engine.md). Reset false. The stall window is open. -/
  window : Bool := false
  /-- Width 1. R325 (12_stable_scratchpad.md). Reset none. Audit enable to take at the next tile release. -/
  auditDue : Option Bool := none
  /-- Width 18. R313 (11_stable_engine.md). Reset 168000. W at the last tile release. -/
  wWas : Nat := 168000
deriving DecidableEq, Repr

/-! ### Segment panel (spec/14_panel_segments.md) -/

/-- The segment driver beside its attributes. -/
structure Seg where
  /-- Width 32 entries. Updating the pattern (14_panel_segments.md). Reset empty. Queue 212. -/
  queue : List DspReq := []
  /-- Width list. R376 (14_panel_segments.md). Reset empty. SEG_SHOW commands taken in this tick, not yet committed. -/
  shows : List Ref := []
  /-- Width list. R376 (14_panel_segments.md). Reset empty. SEG_SHOW commands committed to the always-on domain. -/
  ready : List Ref := []
  /-- Width list. R376 (14_panel_segments.md). Reset empty. SEG_SHOW commands whose swap has taken place. -/
  done : List Ref := []
  /-- Width 384. R376 (14_panel_segments.md). Reset none. The swap committed: the back pattern as it stood at the last tick edge. -/
  swap : Option (List Nat) := none
  /-- Width 8. R374 (14_panel_segments.md). Reset 50. VLCD code in force. -/
  vlcd : Nat := 50
  /-- Width 16. R378 (14_panel_segments.md). Reset 0. Stage edges without the main rails. -/
  loss : Nat := 0
  /-- Width 1. R377 (14_panel_segments.md). Reset false. The main rails are absent. -/
  noMain : Bool := false
  /-- Width 1. R377 (14_panel_segments.md). Reset false. The alternate pattern is shown from the next lap edge. -/
  altDue : Bool := false
  /-- Width 1. Table 14-2 (14_panel_segments.md). Reset false. Stopped for Standby. -/
  stby : Bool := false
  /-- The MODEL's own field, not the spec's: the slot count at which the segment driver's lap edge was last taken. -/
  lapAt : Option Nat := none
deriving DecidableEq, Repr

/-! ### Die temperature (spec/15_die_thermal.md) -/

/-- THM_LAST as it is staged (R392). -/
structure ThmRec where
  cut : Bool
  level : Nat
  die : Nat
  stage : Nat
deriving DecidableEq, Repr

/-- The thermal monitor beside its attributes. -/
structure Thm where
  /-- Width 12. R385 (15_die_thermal.md). Reset none. HOT of the previous evaluation, when DELTA may be taken from it. -/
  prev : Option Nat := none
  /-- Width 4. R388 (15_die_thermal.md). Reset 0. Consecutive evaluations with DELTA below 0x028 since the act. -/
  calm : Nat := 0
  /-- Width 4. R391 (15_die_thermal.md). Reset 0. Consecutive evaluations with the target below the thermal level. -/
  below : Nat := 0
  /-- Width 2. R387 (15_die_thermal.md). Reset 0. Level of Table 15-3 (with its hysteresis). -/
  base : Nat := 0
  /-- Width 2. R389 (15_die_thermal.md). Reset 0. Thermal level decided. -/
  level : Nat := 0
  /-- Width list. R398 (15_die_thermal.md). Reset empty. THM_FLOOR commands that await the lap edge. -/
  floors : List Ref := []
  /-- Width 8. R397 (15_die_thermal.md). Reset 0. Rings reported invalid. -/
  told : Nat := 0
  /-- Width 1. R397 (15_die_thermal.md). Reset false. The absence of any valid ring has been reported. -/
  noneTold : Bool := false
  /-- Width record. R392 (15_die_thermal.md). Reset none. THM_LAST staged for the next AON edge. -/
  staged : Option ThmRec := none
  /-- Width 1. R393 (15_die_thermal.md). Reset false. THM_LAST was written by the orderly stop in progress. -/
  mine : Bool := false
  /-- Width 32. R392 (15_die_thermal.md). Reset 0. Tick count at which the budget of the orderly stop ends. -/
  end_ : Nat := 0
  /-- Width 1. R393 (15_die_thermal.md). Reset false. The cut sensor is tripped. -/
  cut : Bool := false
  /-- Width 3. R390, R396 (15_die_thermal.md). Reset 1. Divisor of the SYS clock. -/
  div : Nat := 1
deriving DecidableEq, Repr

/-! ### Tack room (spec/16_security.md) -/

/-- A key slot's content (Table 16-17): KIND, USE, GEN and the plain material; a public key is x then y. -/
structure Slot where
  kind : Nat
  use : Nat
  gen : Nat
  key : Bytes
deriving DecidableEq, Repr

/-- What a tack-room operation does once its page commits have ended. -/
inductive SecAct where
  /-- Write a key slot (a deleted key leaves KIND 0); the record's ACTION. -/
  | key (slot : Nat) (content : Slot) (action : Nat)
  /-- Generate an AES-256 key in the slot (SEC_KEY GEN). -/
  | gen (slot : Nat)
  /-- Pairing: store P in the slot (R417). -/
  | pair (slot : Nat) (content : Slot)
  /-- Burn a lifecycle fuse (R400, R401). -/
  | life (target : Nat)
  /-- Write slots 0 and 6, then burn PROVISIONED (R401). -/
  | provision (root identity : Bytes)
  /-- End a trial: confirmed or rejected (R412). -/
  | trial (confirmed : Bool)
  /-- Erase a slot page (R402). -/
  | erase (slot : Nat)
deriving DecidableEq, Repr

/-- An operation of the tack room under way: its number, its command, the action and the commits already ended. -/
structure SecOp where
  id : Nat
  cmd : Option Ref
  act : SecAct
  /-- CMDSEQ of an owner-signed command, which is committed first (R405). -/
  cmdseq : Option Nat
  /-- Page commits that have ended. -/
  phase : Nat
  /-- Page commits asked of hayloft. -/
  asked : Nat
deriving DecidableEq, Repr

/-- A pairing START that is pending (R417). -/
structure PairStart where
  cmd : Ref
  z : Bytes
  hp : Bytes
  ep : Bytes
  hn : Bytes
  en : Bytes
deriving DecidableEq, Repr

/-- A debug challenge (R418). -/
structure Challenge where
  bytes : Bytes
  scope : Nat
  stage : Nat
deriving DecidableEq, Repr

/-- An update in progress (R411). -/
structure Update where
  bank : Nat
  header : Bytes
deriving DecidableEq, Repr

/-- The tack room beside its attributes. -/
structure Sec where
  /-- Width 32 slots. R403, R404 (16_security.md). Reset empty. Key slots, by number. -/
  slots : Map Slot := []
  /-- Width 32 slots. R404 (16_security.md). Reset empty. The content last sealed for a slot's page: the model's own record
  of what a page that was just written opens to. -/
  made : Map Slot := []
  /-- Width 1. R404 (16_security.md). Reset false. The RETURNED fuse is burnt (the wrap key has changed). -/
  returned : Bool := false
  /-- Width 32. R405 (16_security.md). Reset 0. CONFIRMED_SEQ of the security record. -/
  confirmed : Nat := 0
  /-- Width 32. R409 (16_security.md). Reset none. REJECT_SEQ of the security record. -/
  reject : Option Nat := none
  /-- Width 2. R412 (16_security.md). Reset 0. Hub resets while a bank is in trial; always-on domain. -/
  trials : Nat := 0
  /-- Width 1. R412 (16_security.md). Reset false. ROM skipped the trial bank: REJECT_SEQ is set at the first tick. -/
  skipped : Option Nat := none
  /-- Width 32. R409 (16_security.md). Reset 0. SEQ of the running bank. -/
  runSeq : Nat := 0
  /-- Width 1. R412 (16_security.md). Reset false. COMMIT_SVN of the running bank. -/
  commitSvn : Bool := false
  /-- Width 1,048,576 bytes. Secure boot (16_security.md). Reset erased (0xFF). Boot flash. -/
  flash : List Host.Cell := []
  /-- Width 1. R411, Table 16-12 RESULT 7 (16_security.md). Reset false. The boot flash answers with an error: the
  surroundings' own state, which no command of the hub changes. -/
  flashBad : Bool := false
  /-- Width update. R411 (16_security.md). Reset none. Update in progress. -/
  upd : Option Update := none
  /-- Width list. R405 (16_security.md). Reset empty. Operations that await page commits. -/
  ops : List SecOp := []
  /-- Width 2 + ref. R401 (16_security.md). Reset none. Fuse burn that waits for escrow or burns: its target and command. -/
  burn : Option (Nat × Option Ref) := none
  /-- Width 1. R401 (16_security.md). Reset false. The burn has been admitted. -/
  burning : Bool := false
  /-- Width 5 + 32. R417 (16_security.md). Reset none. Pairing window: slot and the stage at which it ends. -/
  pairWin : Option (Nat × Nat) := none
  /-- Width 1. R417 (16_security.md). Reset false. A START has been served in this window. -/
  pairUsed : Bool := false
  /-- Width start. R417 (16_security.md). Reset none. START pending. -/
  pair : Option PairStart := none
  /-- Width challenge. R418 (16_security.md). Reset none. Latest challenge. -/
  chal : Option Challenge := none
  /-- Width 512. R458 (18_debug_port.md). Reset none. Response that awaits its judgement. -/
  resp : Option Bytes := none
  /-- Width 2. R418 (16_security.md). Reset 0. Invalid responses since the hub reset. -/
  tries : Nat := 0
  /-- Width 2. Table 18-4 RESULT (18_debug_port.md). Reset 0. Outcome of the last response. -/
  result : Nat := 0
  /-- Width 1. R406 (16_security.md). Reset false. The DRBG is instantiated. -/
  drbg : Bool := false
  /-- Width 32. R406 (16_security.md). Reset 0. Stage of the last seed. -/
  seedAt : Nat := 0
  /-- Width count. R271 (16_security.md). Reset 0. Number of the next operation. -/
  nextId : Nat := 0
deriving DecidableEq, Repr

/-! ### Faults and recovery (spec/17_faults.md) -/

/-- The fields of a fault record (Table 17-2). -/
structure FaultRec where
  cls : Nat
  source : Nat
  code : Nat
  unit : Nat
  data : Nat
  tpos : Nat
  stage : Nat
deriving DecidableEq, Repr

/-- A queued fault and the unit that Table 17-4 attributes it to (0 none). -/
structure FaultItem where
  record : FaultRec
  attrib : Nat
deriving DecidableEq, Repr

/-- A fault in handling (R428): `waits` while its ACT step's recovery runs. -/
structure InHand where
  item : FaultItem
  waits : Bool
deriving DecidableEq, Repr

/-- A command touched by a recovery, with its own result if it completed in time (R434). -/
structure Touch where
  cmd : Ref
  result : Option Bytes
deriving DecidableEq, Repr

/-- A subsystem recovery (R433): `done` once the unit's reset is complete. -/
structure Recovery where
  unit : Nat
  touched : List Touch
  waiters : List Ref
  auto : Bool
  done : Bool
deriving DecidableEq, Repr

/-- Fault handling. -/
structure Flt where
  /-- Width 16 entries. R427 (17_faults.md). Reset empty. The fault queue, hardware queue 240. -/
  queue : List FaultItem := []
  /-- Width 5. R428 (17_faults.md). Reset empty. Faults in handling, at most one of each class. -/
  inHand : List InHand := []
  /-- Width 7. R433 (17_faults.md). Reset empty. Recoveries that have not ended. -/
  recov : List Recovery := []
  /-- Width 7 x list. R432 (17_faults.md). Reset empty. Stages of the faults attributed to each unit. -/
  attrib : Map (List Nat) := []
  /-- Width 7 x list. R432 (17_faults.md). Reset empty. Stages of the automatic resets of each unit. -/
  autos : Map (List Nat) := []
  /-- Width 9. R438 (17_faults.md). Reset 0. Consecutive stages of full service with no HUB fault. -/
  calm : Nat := 0
  /-- Width 16. R440 (17_faults.md). Reset 0. Consecutive stages in limp mode. -/
  limpFor : Nat := 0
  /-- Width 2. R429 (17_faults.md). Reset none. A HUB fault awaits its reset at the second AON edge: the cause. -/
  hubDue : Option Nat := none
  /-- Width 2. R429 (17_faults.md). Reset 0. AON edges until that reset is asserted. -/
  hubEdges : Nat := 0
  /-- Width 1. R439 (17_faults.md). Reset false. The HUB fault of the reset in force wrote FLT_LAST. -/
  byFault : Bool := false
deriving DecidableEq, Repr

/-! ### Debug and test port (spec/18_debug_port.md) -/

/-- The debug and test port. -/
structure Dbg where
  /-- Width 5. R444 (18_debug_port.md). Reset 2 (IDCODE). Instruction register. -/
  ir : Nat := 2
  /-- Width 512. R444 (18_debug_port.md). Reset 0. What the last Capture-DR put into the data register. -/
  dr : Nat := 0
  /-- Width cells. R444, R446 (18_debug_port.md). Reset 0. Boundary-scan register (its cells are numbered by the
  boundary-scan description file; cells 0-31 here stand for the bridge legs). -/
  bsr : Nat := 0
  /-- Width 1. R446 (18_debug_port.md). Reset false. The TAP holds the controller domain in hub reset. -/
  tapHold : Bool := false
  /-- Width 2. R449 (18_debug_port.md). Reset 0. Cores halted. -/
  halted : Nat := 0
  /-- Width 2. R449 (18_debug_port.md). Reset 0. Halts deferred or held. -/
  haltPend : Nat := 0
  /-- Width 2. R451 (18_debug_port.md). Reset 0. Cores that resume at the next slot edge. -/
  resume : Nat := 0
  /-- Width 1. R452 (18_debug_port.md). Reset false. CONFLICT. -/
  conflict : Bool := false
  /-- Width 1. R453 (18_debug_port.md). Reset false. Halt requests are ignored until the next hub reset. -/
  noHalt : Bool := false
  /-- Width 1. R456, R457 (18_debug_port.md). Reset false. Loud reads are selected on channel 31. -/
  loud : Bool := false
  /-- Width 1. R459 (18_debug_port.md). Reset false. A relock takes place at the next slot edge. -/
  relock : Bool := false
  /-- Width 32. Table 18-6 (18_debug_port.md). Reset 0. ADDR of DBG_MEM. -/
  addr : Nat := 0
  /-- Width 32. Table 18-6 (18_debug_port.md). Reset 0. DATA out of DBG_MEM. -/
  data : Nat := 0
  /-- Width 2. Table 18-6 (18_debug_port.md). Reset 0. STATUS of DBG_MEM. -/
  status : Nat := 0
  /-- Width 1. R460 (18_debug_port.md). Reset false. TST_EN as sampled at power-on of the main group. -/
  tst : Bool := false
  /-- Width 786,432 bytes. Table 18-3 (18_debug_port.md). Reset cleared (0x00, Table 2-5). System SRAM, by address. -/
  sram : List Host.Cell := []
deriving DecidableEq, Repr

/-! ### The hub -/

/-- The state of the hub, with the queue of the commands that wait. -/
structure State where
  /-- Commands that wait, first in, first out; a command `step` takes from the front. -/
  pending : List Instr := []
  /-- Every attribute field that differs from its Reset value, by 1024 * ID + lowest bit (R10, R11). -/
  regs : Map Nat := []
  /-- The MODEL's own field, not the spec's: how many free values have been drawn. -/
  free : Nat := 0
  cad : Cad := {}
  pwr : Pwr := {}
  spoke : Spoke := {}
  host : HostIf := {}
  console : Console := {}
  /-- The 48 zones, by number. -/
  zones : Map Zone := []
  pwm : Pwm := {}
  act : Act := {}
  adc : Adc := {}
  pad : Pad := {}
  bus : Bus := {}
  hay : Hay := {}
  stb : Stb := {}
  dsp : Dsp := {}
  seg : Seg := {}
  thm : Thm := {}
  sec : Sec := {}
  flt : Flt := {}
  dbg : Dbg := {}
deriving DecidableEq, Repr

/-- The hub right after power-on reset: every rail good, the controller domain held until BOOT, nothing placed in any
memory, every attribute at its Reset value (spec/00_scope.md "Numbers, units and field maps"; R38, R44). -/
def State.reset : State := {}

end Sys2Proof.Machine
end

