-- ==== Sys2Proof/Machine/Attr.lean ====
section
/-!
DEFINITION. Sys2Proof/Machine/Attr.lean: the field maps of every attribute (the tables of chapters 1 to 17 with the
columns Bits, Field, Access, Reset), as data, and one key of `State.regs` per field. A field that an index repeats takes
the index as an argument. Reserved bits have no entry: they read as zero and ignore what is written (R11).
-/

namespace Sys2Proof.Machine

/-- The access codes of Table 0-5 (R10, 00_scope.md). -/
inductive Access where
  | ro
  | rw
  | w1c
  | rc
  | wo
  | ra
deriving DecidableEq, Repr

/-- One field of a field map: its lowest bit, its width, its access and its Reset value. -/
structure FieldDesc where
  lo : Nat
  width : Nat
  access : Access
  reset : Nat
deriving DecidableEq, Repr

/-- The field map of the attributes `base` to `base + count - 1`, each `size` bytes long. -/
structure AttrDesc where
  base : Nat
  count : Nat
  size : Nat
  fields : List FieldDesc
deriving DecidableEq, Repr

/-- Fields that repeat every `stride` bits, `n` times. -/
def repeated (n stride : Nat) (f : Nat → List FieldDesc) : List FieldDesc :=
  (List.range n).flatMap fun k => (f k).map fun d => { d with lo := d.lo + stride * k }

/-- The 33 temperature codes of linearisation table 0 (R195, 07_adc_sensing.md), worked out from its formula. -/
def ntcTable : List Nat :=
  [4095, 3093, 2650, 2410, 2245, 2120, 2018, 1931, 1855, 1788, 1726, 1669, 1615, 1565, 1516, 1469, 1424,
   1379, 1335, 1291, 1247, 1202, 1156, 1108, 1059, 1006, 949, 885, 813, 727, 614, 442, 0]

/-- Table 1-10 (01_cadence.md): CAD_NOW. -/
def attrCadNow : AttrDesc :=
  ⟨0x0100, 1, 8,
    [⟨0, 5, .ro, 0⟩, ⟨5, 4, .ro, 0⟩, ⟨9, 6, .ro, 0⟩, ⟨15, 32, .ro, 0⟩]⟩

/-- Table 1-11 (01_cadence.md): CAD_STAT. -/
def attrCadStat : AttrDesc :=
  ⟨0x0101, 1, 2,
    [⟨0, 1, .w1c, 0⟩, ⟨1, 1, .ro, 0⟩, ⟨2, 1, .w1c, 0⟩, ⟨3, 1, .w1c, 0⟩,
    ⟨4, 1, .ro, 0⟩, ⟨5, 1, .ro, 0⟩]⟩

/-- Table 1-12 (01_cadence.md): CAD_TRIM. -/
def attrCadTrim : AttrDesc :=
  ⟨0x0102, 1, 4,
    [⟨0, 16, .ro, 0x0000⟩, ⟨16, 16, .ro, 0x0000⟩]⟩

/-- Table 1-13 (01_cadence.md): CAD_OVR. -/
def attrCadOvr : AttrDesc :=
  ⟨0x0103, 1, 4,
    [⟨0, 8, .ra, 0x00⟩, ⟨8, 1, .ra, 0⟩, ⟨9, 9, .ra, 0⟩, ⟨18, 3, .ra, 0⟩,
    ⟨23, 1, .ra, 0⟩, ⟨24, 8, .ra, 0x00⟩]⟩

/-- Table 1-14 (01_cadence.md): CAD_OVRCNT. -/
def attrCadOvrcnt : AttrDesc :=
  ⟨0x0104, 1, 4,
    [⟨0, 32, .rc, 0⟩]⟩

/-- Table 1-15 (01_cadence.md): CAD_SLACK. -/
def attrCadSlack : AttrDesc :=
  ⟨0x0105, 1, 4,
    [⟨0, 18, .rc, 0⟩, ⟨18, 8, .rc, 0x00⟩, ⟨26, 1, .rc, 0⟩]⟩

/-- Table 1-16 (01_cadence.md): CAD_TBL_IDX. -/
def attrCadTblIdx : AttrDesc :=
  ⟨0x0106, 1, 2,
    [⟨0, 9, .rw, 0⟩]⟩

/-- Table 1-17 (01_cadence.md): CAD_TBL_ENT. -/
def attrCadTblEnt : AttrDesc :=
  ⟨0x0107, 1, 4,
    [⟨0, 32, .ra, 0⟩]⟩

/-- Table 2-10 (02_power_reset.md): PWR_STAT. -/
def attrPwrStat : AttrDesc :=
  ⟨0x0200, 1, 2,
    [⟨0, 2, .ro, 0⟩, ⟨2, 1, .ro, 0⟩, ⟨3, 1, .ro, 0⟩, ⟨4, 1, .ro, 0⟩,
    ⟨5, 1, .w1c, 0⟩]⟩

/-- Table 2-11 (02_power_reset.md): PWR_CAUSE. -/
def attrPwrCause : AttrDesc :=
  ⟨0x0201, 1, 8,
    [⟨0, 4, .ro, 0x0⟩, ⟨4, 4, .ro, 0x0⟩, ⟨8, 1, .ro, 0⟩, ⟨16, 12, .ro, 0x000⟩,
    ⟨32, 32, .ro, 0⟩]⟩

/-- Table 2-13 (02_power_reset.md): PWR_HOLD_CFG. -/
def attrPwrHoldCfg : AttrDesc :=
  ⟨0x0203, 1, 8,
    [⟨0, 16, .rw, 100⟩, ⟨16, 16, .rw, 7000⟩, ⟨32, 8, .rw, 80⟩, ⟨40, 16, .rw, 2500⟩,
    ⟨56, 1, .rw, 0⟩]⟩

/-- Table 2-14 (02_power_reset.md): PWR_RESERVE. -/
def attrPwrReserve : AttrDesc :=
  ⟨0x0204, 1, 16,
    [⟨0, 12, .ro, 0x000⟩, ⟨16, 16, .ro, 0⟩, ⟨32, 24, .ro, 0⟩, ⟨64, 24, .ro, 0⟩,
    ⟨96, 16, .ro, 0⟩]⟩

/-- PWR_CLASS (02_power_reset.md): PWR_CLASS. -/
def attrPwrClass : AttrDesc :=
  ⟨0x0205, 1, 8,
    [⟨0, 16, .rw, 40⟩, ⟨16, 16, .ro, 18⟩, ⟨32, 16, .rw, 200⟩, ⟨48, 16, .rw, 10⟩]⟩

/-- PWR_ESC_STAT (02_power_reset.md): PWR_ESC_STAT. -/
def attrPwrEscStat : AttrDesc :=
  ⟨0x0206, 1, 4,
    [⟨0, 8, .rc, 0⟩, ⟨8, 8, .rc, 0⟩, ⟨16, 8, .rc, 0⟩, ⟨24, 1, .rc, 0⟩]⟩

/-- PWR_WAKE (02_power_reset.md): PWR_WAKE. -/
def attrPwrWake : AttrDesc :=
  ⟨0x0207, 1, 8,
    [⟨0, 1, .rw, 0⟩, ⟨1, 1, .rw, 1⟩, ⟨2, 1, .rw, 1⟩, ⟨3, 1, .rw, 1⟩,
    ⟨8, 3, .ro, 0⟩, ⟨32, 32, .rw, 0⟩]⟩

/-- PWR_CHG (02_power_reset.md): PWR_CHG. -/
def attrPwrChg : AttrDesc :=
  ⟨0x0208, 1, 4,
    [⟨0, 2, .rw, 0⟩, ⟨8, 8, .rw, 0⟩, ⟨16, 12, .rw, 0x000⟩, ⟨28, 1, .ro, 0⟩,
    ⟨29, 1, .ro, 0⟩]⟩

/-- PWR_KSTAT (02_power_reset.md): PWR_KSTAT. -/
def attrPwrKstat : AttrDesc :=
  ⟨0x0209, 1, 2,
    [⟨0, 1, .ro, 0⟩, ⟨1, 3, .ro, 0⟩, ⟨4, 1, .w1c, 0⟩, ⟨5, 1, .ro, 0⟩]⟩

/-- Table 4-8 (04_zones_loops.md): ZON_ENABLE. -/
def attrZonEnable : AttrDesc :=
  ⟨0x1000, 1, 8,
    [⟨0, 48, .rw, 0⟩]⟩

/-- Table 4-9 (04_zones_loops.md): ZON_CLOCK. -/
def attrZonClock : AttrDesc :=
  ⟨0x1001, 1, 4,
    [⟨0, 6, .rw, 0⟩, ⟨6, 11, .rw, 0⟩, ⟨17, 3, .rw, 0⟩, ⟨31, 1, .ro, 0⟩]⟩

/-- Table 4-10 (04_zones_loops.md): ZON_DEMAND. -/
def attrZonDemand : AttrDesc :=
  ⟨0x1002, 1, 4,
    [⟨0, 6, .ro, 0⟩, ⟨6, 1, .ro, 0⟩, ⟨7, 1, .ro, 0⟩, ⟨8, 12, .ro, 0x000⟩,
    ⟨20, 6, .ro, 0⟩]⟩

/-- Table 4-11 (04_zones_loops.md): ZON_PLANT_CFG. -/
def attrZonPlantCfg : AttrDesc :=
  ⟨0x1003, 1, 8,
    [⟨0, 12, .rw, 0x200⟩, ⟨12, 12, .rw, 0x100⟩, ⟨24, 12, .rw, 0x5E0⟩, ⟨36, 12, .rw, 0x6D0⟩]⟩

/-- Table 4-12 (04_zones_loops.md): ZON_SETPT. -/
def attrZonSetpt : AttrDesc :=
  ⟨0x1010, 48, 4,
    [⟨0, 12, .ro, 0x000⟩, ⟨12, 4, .ro, 0⟩, ⟨16, 12, .ro, 0x000⟩]⟩

/-- Table 4-13 (04_zones_loops.md): ZON_CFG. -/
def attrZonCfg : AttrDesc :=
  ⟨0x1040, 48, 16,
    [⟨0, 2, .rw, 0⟩, ⟨2, 6, .rw, 0⟩, ⟨8, 2, .rw, 0⟩, ⟨10, 6, .rw, 0⟩,
    ⟨16, 2, .rw, 0⟩, ⟨18, 6, .rw, 0⟩, ⟨24, 2, .rw, 0⟩, ⟨26, 1, .rw, 0⟩,
    ⟨27, 1, .rw, 1⟩, ⟨32, 12, .rw, 0x450⟩, ⟨48, 12, .rw, 0x5E0⟩, ⟨64, 12, .rw, 0x020⟩,
    ⟨80, 12, .rw, 0x99A⟩, ⟨96, 12, .rw, 0x708⟩, ⟨112, 12, .rw, 0x708⟩]⟩

/-- Table 4-14 (04_zones_loops.md): ZON_LOOP. -/
def attrZonLoop : AttrDesc :=
  ⟨0x1070, 48, 16,
    [⟨0, 16, .rw, 0x0400⟩, ⟨16, 16, .rw, 0x0800⟩, ⟨32, 3, .rw, 2⟩, ⟨36, 12, .rw, 0x400⟩,
    ⟨48, 12, .rw, 0x520⟩, ⟨64, 12, .rw, 0x020⟩, ⟨76, 8, .rw, 0x10⟩, ⟨84, 12, .rw, 0x520⟩,
    ⟨96, 16, .rw, 7200⟩, ⟨112, 12, .rw, 0x12C⟩]⟩

/-- Table 4-15 (04_zones_loops.md): ZON_STAT. -/
def attrZonStat : AttrDesc :=
  ⟨0x10A0, 48, 16,
    [⟨0, 12, .ro, 0x000⟩, ⟨12, 1, .ro, 0⟩, ⟨13, 1, .ro, 0⟩, ⟨14, 1, .ro, 0⟩,
    ⟨15, 1, .ro, 0⟩, ⟨16, 12, .ro, 0x000⟩, ⟨28, 1, .ro, 0⟩, ⟨29, 1, .ro, 0⟩,
    ⟨30, 1, .ro, 0⟩, ⟨31, 1, .ro, 0⟩, ⟨32, 12, .ro, 0x000⟩, ⟨48, 32, .ro, 0⟩,
    ⟨80, 16, .ro, 0⟩, ⟨96, 16, .ro, 0⟩]⟩

/-- Table 4-16 (04_zones_loops.md): ZON_INPUT. -/
def attrZonInput : AttrDesc :=
  ⟨0x10D0, 48, 12,
    [⟨0, 12, .ro, 0x000⟩, ⟨12, 1, .ro, 0⟩, ⟨16, 12, .ro, 0x000⟩, ⟨28, 2, .ro, 0⟩,
    ⟨32, 32, .ro, 0⟩, ⟨64, 16, .ro, 0⟩, ⟨80, 1, .ro, 0⟩]⟩

/-- Table 5-8 (05_pwm_engine.md): PWM_STAT. -/
def attrPwmStat : AttrDesc :=
  ⟨0x2000, 1, 4,
    [⟨0, 12, .ro, 0⟩, ⟨12, 12, .ro, 0⟩, ⟨24, 1, .w1c, 0⟩, ⟨25, 1, .ro, 0⟩]⟩

/-- Table 5-9 (05_pwm_engine.md): PWM_CAL. -/
def attrPwmCal : AttrDesc :=
  ⟨0x2001, 1, 4,
    [⟨0, 8, .ro, 0⟩, ⟨8, 8, .ro, 0⟩, ⟨16, 8, .ro, 0⟩, ⟨24, 8, .ro, 0⟩]⟩

/-- Table 5-10 (05_pwm_engine.md): PWM_LATCH. -/
def attrPwmLatch : AttrDesc :=
  ⟨0x2002, 1, 12,
    [⟨0, 96, .ro, 0⟩]⟩

/-- Table 5-11 (05_pwm_engine.md): PWM_GRP. -/
def attrPwmGrp : AttrDesc :=
  ⟨0x2010, 12, 16,
    [⟨0, 4, .rw, 0⟩, ⟨4, 1, .rw, 0⟩, ⟨5, 2, .rw, 0⟩, ⟨7, 2, .rw, 0⟩,
    ⟨16, 16, .rw, 0⟩, ⟨32, 16, .ro, 0⟩, ⟨48, 1, .w1c, 0⟩, ⟨49, 1, .w1c, 0⟩,
    ⟨50, 1, .ro, 0⟩, ⟨51, 1, .ro, 0⟩, ⟨52, 1, .w1c, 0⟩, ⟨53, 1, .ro, 0⟩,
    ⟨54, 1, .ro, 0⟩, ⟨56, 1, .rw, 0⟩, ⟨57, 1, .rw, 0⟩, ⟨64, 16, .ro, 0⟩,
    ⟨80, 16, .rc, 0⟩]⟩

/-- Table 5-12 (05_pwm_engine.md): PWM_CH. -/
def attrPwmCh : AttrDesc :=
  ⟨0x2020, 96, 12,
    [⟨0, 16, .rw, 0⟩, ⟨16, 16, .rw, 0⟩, ⟨32, 6, .rw, 0⟩, ⟨38, 6, .rw, 0⟩,
    ⟨44, 1, .rw, 0⟩, ⟨45, 1, .rw, 0⟩, ⟨46, 1, .rw, 0⟩, ⟨48, 16, .ro, 0⟩,
    ⟨64, 16, .ro, 0⟩, ⟨80, 1, .w1c, 0⟩, ⟨81, 1, .w1c, 0⟩, ⟨82, 3, .ro, 0⟩,
    ⟨85, 1, .ro, 0⟩, ⟨86, 2, .ro, 0⟩, ⟨88, 1, .ro, 0⟩, ⟨89, 1, .ro, 0⟩]⟩

/-- Table 6-7 (06_actuator_channels.md): ACT_STAT. -/
def attrActStat : AttrDesc :=
  ⟨0x2400, 1, 8,
    [⟨0, 16, .ro, 0⟩, ⟨16, 8, .ro, 0⟩, ⟨24, 6, .ro, 0⟩, ⟨30, 6, .w1c, 0⟩,
    ⟨36, 1, .ro, 0⟩, ⟨37, 1, .ro, 0⟩]⟩

/-- Table 6-8 (06_actuator_channels.md): ACT_KS. -/
def attrActKs : AttrDesc :=
  ⟨0x2401, 1, 40,
    [⟨0, 192, .rw, 0⟩, ⟨192, 128, .rw, 0⟩]⟩

/-- Table 6-9 (06_actuator_channels.md): ACT_MIX. -/
def attrActMix : AttrDesc :=
  ⟨0x2402, 1, 4,
    [⟨0, 5, .ro, 0x1F⟩, ⟨5, 1, .ro, 0⟩, ⟨6, 1, .ro, 0⟩, ⟨7, 1, .ro, 0⟩,
    ⟨8, 3, .ro, 0⟩, ⟨12, 12, .ro, 0x000⟩]⟩

/-- Table 6-10 (06_actuator_channels.md): ACT_VGRP. -/
def attrActVgrp : AttrDesc :=
  ⟨0x2410, 6, 4,
    [⟨0, 8, .rw, 0xC8⟩, ⟨8, 2, .ro, 0⟩, ⟨10, 1, .ro, 0⟩, ⟨11, 1, .ro, 0⟩,
    ⟨12, 4, .ro, 0⟩, ⟨16, 3, .ro, 0⟩, ⟨19, 1, .ro, 0⟩]⟩

/-- Table 6-11 (06_actuator_channels.md): ACT_VLV. -/
def attrActVlv : AttrDesc :=
  ⟨0x2420, 48, 16,
    [⟨0, 12, .ro, 0x000⟩, ⟨16, 12, .rw, 0x999⟩, ⟨32, 12, .rw, 0x258⟩, ⟨48, 8, .rw, 30⟩,
    ⟨56, 8, .rw, 20⟩, ⟨64, 8, .rw, 0xA0⟩, ⟨72, 8, .rw, 0x50⟩, ⟨80, 8, .rw, 0xC8⟩,
    ⟨88, 3, .ro, 0⟩, ⟨91, 1, .ro, 0⟩, ⟨96, 12, .rw, 0x800⟩, ⟨112, 12, .ro, 0⟩]⟩

/-- Table 6-12 (06_actuator_channels.md): ACT_BR. -/
def attrActBr : AttrDesc :=
  ⟨0x2450, 16, 16,
    [⟨0, 12, .ro, 0x000⟩, ⟨12, 1, .ro, 0⟩, ⟨13, 3, .ro, 0⟩, ⟨16, 12, .rw, 0xC00⟩,
    ⟨32, 16, .rw, 7680⟩, ⟨48, 8, .rw, 20⟩, ⟨56, 8, .rw, 20⟩, ⟨64, 8, .rw, 0x60⟩,
    ⟨72, 8, .rw, 0xC8⟩, ⟨80, 12, .rw, 0x080⟩, ⟨96, 24, .ro, 0⟩]⟩

/-- Table 6-13 (06_actuator_channels.md): ACT_FAN. -/
def attrActFan : AttrDesc :=
  ⟨0x2460, 8, 8,
    [⟨0, 12, .ro, 0x000⟩, ⟨12, 1, .ro, 0⟩, ⟨13, 1, .ro, 0⟩, ⟨14, 2, .rw, 1⟩,
    ⟨16, 16, .ro, 0⟩, ⟨32, 12, .rw, 300⟩, ⟨44, 4, .rw, 5⟩]⟩

/-- Table 6-14 (06_actuator_channels.md): ACT_VOUT. -/
def attrActVout : AttrDesc :=
  ⟨0x2468, 8, 8,
    [⟨0, 12, .ro, 0x000⟩, ⟨16, 12, .ro, 0x000⟩, ⟨32, 12, .rw, 0x040⟩, ⟨44, 1, .ro, 0⟩,
    ⟨45, 1, .ro, 0⟩, ⟨48, 12, .ro, 0x000⟩]⟩

/-- Table 6-15 (06_actuator_channels.md): ACT_AUX. -/
def attrActAux : AttrDesc :=
  ⟨0x2470, 3, 4,
    [⟨0, 12, .ro, 0x000⟩, ⟨12, 1, .ro, 0⟩]⟩

/-- Table 7-6 (07_adc_sensing.md): ADC_CTL. -/
def attrAdcCtl : AttrDesc :=
  ⟨0x3000, 1, 4,
    [⟨0, 6, .rw, 0⟩, ⟨8, 1, .wo, 0⟩]⟩

/-- Table 7-7 (07_adc_sensing.md): ADC_STAT. -/
def attrAdcStat : AttrDesc :=
  ⟨0x3001, 1, 4,
    [⟨0, 1, .ro, 0⟩, ⟨1, 1, .ro, 0⟩, ⟨2, 1, .ro, 0⟩, ⟨3, 1, .w1c, 0⟩,
    ⟨4, 1, .w1c, 0⟩, ⟨5, 1, .w1c, 0⟩, ⟨6, 1, .w1c, 0⟩, ⟨7, 1, .w1c, 0⟩,
    ⟨8, 1, .w1c, 0⟩, ⟨9, 1, .w1c, 0⟩, ⟨10, 1, .ro, 0⟩]⟩

/-- Table 7-8 (07_adc_sensing.md): ADC_DATA. -/
def attrAdcData : AttrDesc :=
  ⟨0x3002, 1, 4,
    [⟨0, 12, .ro, 0x000⟩, ⟨12, 6, .ro, 0⟩, ⟨18, 1, .ro, 0⟩, ⟨19, 1, .ro, 0⟩,
    ⟨20, 1, .rc, 0⟩, ⟨21, 1, .rc, 0⟩]⟩

/-- Table 7-9 (07_adc_sensing.md): ADC_SPT. -/
def attrAdcSpt : AttrDesc :=
  ⟨0x3003, 1, 8,
    [⟨0, 3, .ro, 0⟩, ⟨8, 3, .ro, 0⟩, ⟨16, 8, .rc, 0⟩, ⟨24, 8, .rc, 0⟩]⟩

/-- Table 7-10 (07_adc_sensing.md): ADC_SEQ. -/
def attrAdcSeq : AttrDesc :=
  ⟨0x3008, 2, 36,
    [⟨0, 5, .rw, 16⟩, ⟨8, 5, .rw, 16⟩, ⟨16, 16, .rw, 0x5555⟩, ⟨32, 128, .rw, 0xf0e0d0c0b0a09080706050403020100⟩,
    ⟨160, 128, .rw, 0x1f1e1d1c1b1a19181716151413121110⟩]⟩

/-- Table 7-11 (07_adc_sensing.md): ADC_SR. -/
def attrAdcSr : AttrDesc :=
  ⟨0x3010, 32, 4,
    [⟨0, 12, .ro, 0x000⟩, ⟨12, 1, .ro, 0⟩, ⟨13, 1, .ro, 0⟩, ⟨14, 1, .ro, 0⟩,
    ⟨15, 1, .ro, 0⟩, ⟨16, 5, .ro, 0⟩, ⟨24, 4, .ro, 0⟩]⟩

/-- Table 7-12 (07_adc_sensing.md): ADC_AIN. -/
def attrAdcAin : AttrDesc :=
  ⟨0x3040, 64, 8,
    [⟨0, 12, .ro, 0x000⟩, ⟨16, 12, .ro, 0x000⟩, ⟨28, 1, .ro, 0⟩, ⟨29, 1, .ro, 0⟩,
    ⟨30, 1, .ro, 0⟩, ⟨31, 1, .ro, 0⟩, ⟨32, 1, .ro, 1⟩, ⟨33, 1, .ro, 0⟩,
    ⟨40, 8, .ro, 255⟩]⟩

/-- Table 7-13 (07_adc_sensing.md): ADC_INCFG. -/
def attrAdcIncfg : AttrDesc :=
  ⟨0x3080, 64, 4,
    [⟨0, 3, .rw, 1⟩, ⟨3, 1, .rw, 1⟩, ⟨4, 12, .rw, 0xFC0⟩, ⟨16, 12, .rw, 0x040⟩,
    ⟨28, 1, .rw, 0⟩]⟩

/-- Table 7-14 (07_adc_sensing.md): ADC_LINTAB. -/
def attrAdcLintab : AttrDesc :=
  ⟨0x30C0, 4, 66,
    repeated 33 16 (fun k => [⟨0, 16, .rw, ntcTable.getD k 0⟩])⟩

/-- Table 7-15 (07_adc_sensing.md): ADC_DEV. -/
def attrAdcDev : AttrDesc :=
  ⟨0x30D0, 16, 20,
    [⟨0, 2, .rw, 0⟩, ⟨2, 2, .rw, 0⟩, ⟨4, 1, .rw, 0⟩, ⟨5, 1, .rw, 0⟩,
    ⟨6, 2, .rw, 0⟩, ⟨8, 7, .rw, 0⟩, ⟨15, 1, .rw, 0⟩, ⟨16, 8, .rw, 1⟩,
    ⟨24, 6, .rw, 0⟩, ⟨30, 2, .rw, 0⟩, ⟨32, 16, .rw, 1024⟩, ⟨48, 8, .rw, 0x00⟩,
    ⟨56, 8, .rw, 0x00⟩, ⟨64, 6, .rw, 2⟩, ⟨70, 1, .rw, 0⟩, ⟨72, 7, .rw, 0⟩,
    ⟨80, 12, .rw, 0x130⟩, ⟨96, 16, .rw, 2800⟩, ⟨112, 16, .rw, 5000⟩, ⟨128, 16, .rw, 0xFF10⟩]⟩

/-- Table 7-16 (07_adc_sensing.md): ADC_DEVR. -/
def attrAdcDevr : AttrDesc :=
  ⟨0x30E0, 16, 8,
    [⟨0, 12, .ro, 0x000⟩, ⟨16, 12, .ro, 0x000⟩, ⟨28, 1, .ro, 0⟩, ⟨29, 1, .ro, 0⟩,
    ⟨32, 3, .ro, 0⟩, ⟨40, 8, .ro, 255⟩, ⟨48, 16, .ro, 0⟩]⟩

/-- Table 8-10 (08_paddock.md): PAD_STAT. -/
def attrPadStat : AttrDesc :=
  ⟨0x4000, 1, 8,
    [⟨0, 2, .ro, 2⟩, ⟨2, 1, .ro, 0⟩, ⟨3, 1, .ro, 0⟩, ⟨4, 1, .ro, 0⟩,
    ⟨5, 1, .ro, 0⟩, ⟨6, 1, .ro, 0⟩, ⟨7, 1, .ro, 0⟩, ⟨8, 1, .ro, 0⟩,
    ⟨9, 1, .ro, 0⟩, ⟨10, 1, .ro, 0⟩, ⟨11, 1, .ro, 0⟩, ⟨12, 1, .ro, 0⟩,
    ⟨13, 1, .ro, 0⟩, ⟨16, 11, .ro, 0⟩, ⟨32, 8, .ro, 0⟩, ⟨40, 8, .rc, 0⟩]⟩

/-- Table 8-11 (08_paddock.md): PAD_PLANT. -/
def attrPadPlant : AttrDesc :=
  ⟨0x4001, 1, 4,
    repeated 4 8 (fun _ => [⟨0, 1, .ro, 0⟩, ⟨1, 1, .ro, 0⟩, ⟨2, 1, .ro, 0⟩, ⟨3, 1, .ro, 0⟩, ⟨4, 1, .ro, 0⟩, ⟨5, 1, .ro, 0⟩, ⟨6, 1, .ro, 0⟩, ⟨7, 1, .ro, 0⟩])⟩

/-- Table 8-12 (08_paddock.md): PAD_SIN. -/
def attrPadSin : AttrDesc :=
  ⟨0x4002, 1, 8,
    repeated 8 8 (fun _ => [⟨0, 1, .ro, 0⟩, ⟨1, 1, .ro, 0⟩, ⟨2, 1, .ro, 0⟩, ⟨3, 1, .ro, 0⟩, ⟨4, 1, .ro, 0⟩, ⟨5, 1, .ro, 0⟩])⟩

/-- Table 8-13 (08_paddock.md): PAD_MEAS. -/
def attrPadMeas : AttrDesc :=
  ⟨0x4003, 1, 12,
    [⟨0, 12, .ro, 0x000⟩, ⟨12, 1, .ro, 0⟩, ⟨13, 1, .ro, 0⟩, ⟨16, 12, .ro, 0x000⟩,
    ⟨28, 1, .ro, 0⟩, ⟨29, 1, .ro, 0⟩, ⟨32, 12, .ro, 0x000⟩, ⟨44, 1, .ro, 0⟩,
    ⟨45, 1, .ro, 0⟩, ⟨48, 12, .ro, 0x000⟩, ⟨60, 1, .ro, 0⟩, ⟨64, 12, .ro, 0x000⟩]⟩

/-- Table 8-14 (08_paddock.md): PAD_CTL. -/
def attrPadCtl : AttrDesc :=
  ⟨0x4004, 1, 2,
    [⟨0, 4, .rw, 0⟩]⟩

/-- Table 8-15 (08_paddock.md): PAD_ACTIVE. -/
def attrPadActive : AttrDesc :=
  ⟨0x4005, 1, 60,
    [⟨0, 448, .ro, 0x32000000320000003200000032000000320000003200000032000000320008000FFF0E66305006D00A0020000901⟩, ⟨448, 32, .ro, 0x3F81E526⟩]⟩

/-- Table 8-16 (08_paddock.md): PAD_STAGED. -/
def attrPadStaged : AttrDesc :=
  ⟨0x4006, 1, 64,
    [⟨0, 448, .ro, 0⟩, ⟨448, 32, .ro, 0⟩, ⟨480, 8, .ro, 0xFF⟩, ⟨488, 1, .ro, 0⟩,
    ⟨489, 2, .ro, 0⟩]⟩

/-- Table 8-17 (08_paddock.md): PAD_PROOF. -/
def attrPadProof : AttrDesc :=
  ⟨0x4007, 1, 16,
    repeated 4 32 (fun _ => [⟨0, 16, .ro, 0⟩, ⟨16, 1, .ro, 0⟩, ⟨17, 1, .ro, 0⟩, ⟨18, 1, .ro, 0⟩])⟩

/-- Table 9-9 (09_bus_golposen.md): BUS_STAT. -/
def attrBusStat : AttrDesc :=
  ⟨0x4800, 1, 8,
    [⟨0, 1, .ro, 0⟩, ⟨1, 1, .ro, 0⟩, ⟨2, 1, .ro, 0⟩, ⟨16, 16, .ro, 0⟩,
    ⟨32, 16, .ro, 0⟩]⟩

/-- Table 9-10 (09_bus_golposen.md): BUS_CFG. -/
def attrBusCfg : AttrDesc :=
  ⟨0x4810, 2, 12,
    [⟨0, 3, .rw, 0⟩, ⟨3, 3, .rw, 5⟩, ⟨6, 2, .rw, 0⟩, ⟨8, 8, .rw, 1⟩,
    ⟨16, 8, .rw, 127⟩, ⟨24, 8, .rw, 1⟩, ⟨32, 3, .rw, 1⟩, ⟨35, 3, .rw, 1⟩,
    ⟨38, 1, .rw, 0⟩, ⟨48, 16, .rw, 0⟩, ⟨64, 16, .rw, 1000⟩]⟩

/-- Table 9-11 (09_bus_golposen.md): BUS_CNT. -/
def attrBusCnt : AttrDesc :=
  ⟨0x4818, 2, 16,
    [⟨0, 16, .rc, 0⟩, ⟨16, 16, .rc, 0⟩, ⟨32, 16, .rc, 0⟩, ⟨48, 16, .rc, 0⟩,
    ⟨64, 16, .rc, 0⟩, ⟨80, 16, .rc, 0⟩]⟩

/-- Table 9-12 (09_bus_golposen.md): BUS_GP_CFG. -/
def attrBusGpCfg : AttrDesc :=
  ⟨0x4820, 16, 16,
    [⟨0, 1, .rw, 0⟩, ⟨1, 1, .rw, 0⟩, ⟨2, 2, .rw, 0⟩, ⟨4, 1, .rw, 0⟩,
    ⟨8, 8, .rw, 0⟩, ⟨16, 16, .rw, 0⟩, ⟨32, 11, .rw, 200⟩, ⟨48, 5, .rw, 1⟩,
    ⟨56, 4, .rw, 2⟩, ⟨60, 4, .rw, 4⟩, ⟨64, 8, .rw, 20⟩, ⟨80, 16, .rw, 50⟩]⟩

/-- Table 9-13 (09_bus_golposen.md): BUS_GP_STAT. -/
def attrBusGpStat : AttrDesc :=
  ⟨0x4840, 16, 16,
    [⟨0, 2, .ro, 0⟩, ⟨2, 4, .ro, 0⟩, ⟨16, 16, .ro, 0⟩, ⟨32, 32, .ro, 0⟩,
    ⟨64, 8, .rc, 0⟩, ⟨72, 8, .rc, 0⟩, ⟨80, 8, .rc, 0⟩, ⟨88, 8, .rc, 0⟩,
    ⟨96, 8, .rc, 0⟩]⟩

/-- Table 9-14 (09_bus_golposen.md): BUS_GP_DATA. -/
def attrBusGpData : AttrDesc :=
  ⟨0x4860, 16, 16,
    [⟨0, 128, .rw, 0⟩]⟩

/-- Table 10-11 (10_hayloft.md): HAY_STAT. -/
def attrHayStat : AttrDesc :=
  ⟨0x5000, 1, 8,
    [⟨0, 1, .ro, 0⟩, ⟨1, 1, .ro, 1⟩, ⟨2, 1, .ro, 0⟩, ⟨3, 1, .ro, 0⟩,
    ⟨4, 1, .ro, 0⟩, ⟨5, 1, .w1c, 0⟩, ⟨6, 1, .w1c, 0⟩, ⟨7, 1, .ro, 0⟩,
    ⟨8, 3, .ro, 0⟩, ⟨16, 12, .ro, 0x000⟩, ⟨32, 8, .ro, 0⟩, ⟨40, 8, .rc, 0⟩,
    ⟨48, 6, .ro, 32⟩]⟩

/-- Table 10-12 (10_hayloft.md): HAY_CFG. -/
def attrHayCfg : AttrDesc :=
  ⟨0x5001, 1, 4,
    [⟨0, 11, .rw, 0x000⟩, ⟨16, 12, .rw, 1024⟩, ⟨28, 1, .rw, 1⟩]⟩

/-- Table 10-13 (10_hayloft.md): HAY_ODO. -/
def attrHayOdo : AttrDesc :=
  ⟨0x5002, 1, 128,
    repeated 32 32 (fun _ => [⟨0, 32, .ro, 0⟩])⟩

/-- Table 10-14 (10_hayloft.md): HAY_GROOM. -/
def attrHayGroom : AttrDesc :=
  ⟨0x5003, 1, 16,
    [⟨0, 12, .ro, 0⟩, ⟨16, 16, .ro, 0⟩, ⟨32, 16, .rc, 0⟩, ⟨48, 16, .rc, 0⟩,
    ⟨64, 16, .rc, 0⟩, ⟨80, 12, .ro, 0x000⟩, ⟨92, 1, .ro, 0⟩, ⟨96, 16, .rc, 0⟩]⟩

/-- Table 10-15 (10_hayloft.md): HAY_LOG. -/
def attrHayLog : AttrDesc :=
  ⟨0x5010, 16, 16,
    [⟨0, 32, .ro, 0⟩, ⟨32, 32, .ro, 0⟩, ⟨64, 32, .ro, 0⟩, ⟨96, 7, .ro, 0⟩,
    ⟨104, 8, .rc, 0⟩]⟩

/-- Table 11-9 (11_stable_engine.md): STB_STAT. -/
def attrStbStat : AttrDesc :=
  ⟨0x5800, 1, 8,
    [⟨0, 16, .ro, 0⟩, ⟨16, 16, .ro, 0⟩, ⟨32, 2, .ro, 0⟩, ⟨34, 1, .ro, 0⟩,
    ⟨48, 16, .rc, 0⟩]⟩

/-- STB_STALL (11_stable_engine.md): STB_STALL. -/
def attrStbStall : AttrDesc :=
  ⟨0x5804, 4, 8,
    [⟨0, 18, .ro, 168000⟩, ⟨18, 18, .ro, 0⟩, ⟨36, 18, .ro, 0⟩, ⟨54, 10, .ro, 0⟩]⟩

/-- Table 11-10 (11_stable_engine.md): STB_TASK. -/
def attrStbTask : AttrDesc :=
  ⟨0x5810, 16, 32,
    [⟨0, 3, .ro, 0⟩, ⟨3, 4, .ro, 0⟩, ⟨8, 12, .ro, 0⟩, ⟨20, 4, .ro, 0⟩,
    ⟨32, 11, .rw, 1⟩, ⟨48, 10, .rw, 0⟩, ⟨64, 12, .rw, 0⟩, ⟨80, 13, .rw, 0⟩,
    ⟨96, 12, .rw, 0⟩, ⟨112, 12, .rw, 0⟩, ⟨128, 13, .rw, 0⟩, ⟨144, 13, .rw, 0⟩,
    ⟨160, 12, .rw, 0⟩, ⟨176, 12, .rw, 0⟩, ⟨192, 32, .ro, 0⟩, ⟨224, 16, .rc, 0⟩,
    ⟨240, 16, .rc, 0⟩]⟩

/-- Table 11-11 (11_stable_engine.md): STB_RING. -/
def attrStbRing : AttrDesc :=
  ⟨0x5820, 64, 16,
    [⟨0, 1, .rw, 0⟩, ⟨1, 2, .rw, 0⟩, ⟨3, 3, .rw, 0⟩, ⟨6, 4, .rw, 0⟩,
    ⟨10, 3, .rw, 0⟩, ⟨13, 2, .rw, 1⟩, ⟨15, 6, .rw, 0⟩, ⟨21, 3, .rw, 0⟩,
    ⟨24, 5, .rw, 1⟩, ⟨32, 13, .rw, 0⟩, ⟨48, 13, .rw, 0⟩, ⟨64, 13, .ro, 0⟩,
    ⟨80, 13, .ro, 0⟩, ⟨96, 13, .ro, 0⟩, ⟨112, 8, .rc, 0⟩]⟩

/-- Table 12-6 (12_stable_scratchpad.md): STB_SP_STAT. -/
def attrStbSpStat : AttrDesc :=
  ⟨0x5880, 1, 8,
    [⟨0, 4, .w1c, 0⟩, ⟨4, 4, .w1c, 0⟩, ⟨8, 4, .w1c, 0⟩, ⟨12, 4, .ro, 0⟩,
    ⟨16, 1, .ro, 0⟩]⟩

/-- Table 12-7 (12_stable_scratchpad.md): STB_CACHE. -/
def attrStbCache : AttrDesc :=
  ⟨0x5881, 1, 8,
    [⟨0, 4, .rw, 0⟩, ⟨4, 4, .ro, 0⟩, ⟨8, 4, .ro, 0⟩, ⟨16, 16, .rc, 0⟩,
    ⟨32, 16, .rc, 0⟩, ⟨48, 16, .rc, 0⟩]⟩

/-- Table 12-8 (12_stable_scratchpad.md): STB_AUDIT. -/
def attrStbAudit : AttrDesc :=
  ⟨0x5882, 1, 4,
    [⟨0, 1, .rw, 0⟩, ⟨16, 16, .rc, 0⟩]⟩

/-- Table 12-9 (12_stable_scratchpad.md): STB_SP. -/
def attrStbSp : AttrDesc :=
  ⟨0x5884, 4, 16,
    [⟨0, 16, .rc, 0⟩, ⟨16, 16, .rc, 0⟩, ⟨32, 16, .rc, 0⟩, ⟨48, 16, .rc, 0⟩,
    ⟨64, 20, .ro, 0x88888⟩, ⟨88, 8, .ro, 0⟩, ⟨96, 16, .ro, 0⟩]⟩

/-- Table 12-10 (12_stable_scratchpad.md): STB_HAZ. -/
def attrStbHaz : AttrDesc :=
  ⟨0x5888, 4, 8,
    [⟨0, 1, .rc, 0⟩, ⟨1, 1, .rc, 0⟩, ⟨2, 1, .rc, 0⟩, ⟨4, 2, .rc, 0⟩,
    ⟨8, 12, .rc, 0⟩, ⟨20, 4, .rc, 0⟩, ⟨32, 13, .rc, 0⟩]⟩

/-- Table 12-11 (12_stable_scratchpad.md): STB_CRED. -/
def attrStbCred : AttrDesc :=
  ⟨0x5890, 4, 64,
    repeated 16 16 (fun _ => [⟨0, 16, .ro, 0⟩]) ++
    repeated 16 16 (fun _ => [⟨256, 16, .ro, 0⟩])⟩

/-- Table 13-8 (13_panel_matrix.md): DSP_STAT. -/
def attrDspStat : AttrDesc :=
  ⟨0x6000, 1, 8,
    [⟨0, 3, .ro, 0⟩, ⟨3, 1, .ro, 0⟩, ⟨4, 1, .ro, 0⟩, ⟨5, 1, .ro, 0⟩,
    ⟨6, 1, .ro, 0⟩, ⟨7, 1, .ro, 0⟩, ⟨8, 3, .ro, 0⟩, ⟨12, 4, .ro, 0⟩,
    ⟨16, 16, .rc, 0⟩, ⟨32, 16, .rc, 0⟩, ⟨48, 8, .rc, 0⟩]⟩

/-- Table 13-9 (13_panel_matrix.md): DSP_CFG. -/
def attrDspCfg : AttrDesc :=
  ⟨0x6001, 1, 8,
    [⟨0, 2, .rw, 1⟩, ⟨2, 1, .rw, 0⟩, ⟨3, 1, .rw, 0⟩, ⟨4, 1, .rw, 0⟩,
    ⟨5, 1, .rw, 0⟩, ⟨6, 3, .rw, 0⟩, ⟨16, 6, .rw, 0⟩, ⟨24, 6, .rw, 0⟩,
    ⟨32, 9, .rw, 245⟩, ⟨48, 8, .rw, 20⟩]⟩

/-- Table 13-10 (13_panel_matrix.md): DSP_LW. -/
def attrDspLw : AttrDesc :=
  ⟨0x6002, 1, 12,
    [⟨0, 4, .rw, 0⟩, ⟨4, 2, .rw, 3⟩, ⟨8, 5, .rw, 0⟩, ⟨13, 5, .rw, 19⟩,
    ⟨32, 6, .rw, 0⟩, ⟨40, 6, .rw, 0⟩, ⟨48, 6, .rw, 0⟩, ⟨56, 6, .rw, 63⟩,
    ⟨64, 6, .rw, 63⟩, ⟨72, 6, .rw, 63⟩]⟩

/-- Table 13-11 (13_panel_matrix.md): DSP_OD. -/
def attrDspOd : AttrDesc :=
  ⟨0x6003, 1, 64,
    repeated 64 8 (fun k => [⟨0, 8, .rw, 36 * (k % 8)⟩])⟩

/-- Table 13-11 (13_panel_matrix.md): DSP_GAMMA_POS. -/
def attrDspGammaPos : AttrDesc :=
  ⟨0x6004, 1, 64,
    repeated 64 8 (fun k => [⟨0, 8, .rw, (480 * k + 63) / 126⟩])⟩

/-- Table 13-11 (13_panel_matrix.md): DSP_GAMMA_NEG. -/
def attrDspGammaNeg : AttrDesc :=
  ⟨0x6005, 1, 64,
    repeated 64 8 (fun k => [⟨0, 8, .rw, (480 * k + 63) / 126⟩])⟩

/-- Table 13-12 (13_panel_matrix.md): DSP_DC. -/
def attrDspDc : AttrDesc :=
  ⟨0x6006, 1, 8,
    [⟨0, 32, .rw, 0x00078000⟩, ⟨32, 16, .rc, 0⟩, ⟨48, 9, .ro, 0⟩]⟩

/-- Table 13-13 (13_panel_matrix.md): DSP_TILE_IDX. -/
def attrDspTileIdx : AttrDesc :=
  ⟨0x6007, 1, 2,
    [⟨0, 9, .rw, 0⟩]⟩

/-- Table 13-13 (13_panel_matrix.md): DSP_TILE. -/
def attrDspTile : AttrDesc :=
  ⟨0x6008, 1, 8,
    [⟨0, 32, .ra, 0⟩, ⟨32, 20, .ra, 0⟩, ⟨52, 1, .ra, 0⟩]⟩

/-- Table 14-4 (14_panel_segments.md): SEG_STAT. -/
def attrSegStat : AttrDesc :=
  ⟨0x6400, 1, 4,
    [⟨0, 1, .ro, 0⟩, ⟨1, 1, .ro, 0⟩, ⟨2, 1, .ro, 0⟩, ⟨3, 1, .ro, 0⟩,
    ⟨4, 1, .ro, 0⟩, ⟨16, 16, .rc, 0⟩]⟩

/-- Table 14-5 (14_panel_segments.md): SEG_CFG. -/
def attrSegCfg : AttrDesc :=
  ⟨0x6401, 1, 4,
    [⟨0, 1, .rw, 0⟩, ⟨1, 1, .rw, 0⟩, ⟨2, 1, .rw, 0⟩, ⟨8, 8, .rw, 50⟩,
    ⟨16, 16, .rw, 0⟩]⟩

/-- Table 14-6 (14_panel_segments.md): SEG_PAT. -/
def attrSegPat : AttrDesc :=
  ⟨0x6402, 1, 48,
    repeated 48 8 (fun _ => [⟨0, 8, .ro, 0⟩])⟩

/-- Table 14-6 (14_panel_segments.md): SEG_BACK. -/
def attrSegBack : AttrDesc :=
  ⟨0x6403, 1, 48,
    repeated 48 8 (fun _ => [⟨0, 8, .rw, 0⟩])⟩

/-- Table 14-6 (14_panel_segments.md): SEG_ALT. -/
def attrSegAlt : AttrDesc :=
  ⟨0x6404, 1, 48,
    repeated 48 8 (fun _ => [⟨0, 8, .rw, 0⟩])⟩

/-- Table 15-7 (15_die_thermal.md): THM_STAT. -/
def attrThmStat : AttrDesc :=
  ⟨0x3800, 1, 8,
    [⟨0, 12, .ro, 0x000⟩, ⟨12, 3, .ro, 0⟩, ⟨15, 1, .ro, 0⟩, ⟨16, 8, .ro, 0⟩,
    ⟨24, 2, .ro, 0⟩, ⟨26, 2, .ro, 0⟩, ⟨28, 2, .ro, 0⟩, ⟨30, 1, .ro, 0⟩,
    ⟨31, 1, .ro, 0⟩, ⟨32, 12, .ro, 0x000⟩, ⟨44, 1, .ro, 0⟩, ⟨45, 1, .ro, 1⟩,
    ⟨46, 1, .ro, 1⟩, ⟨48, 4, .ro, 0⟩, ⟨52, 3, .ro, 0⟩]⟩

/-- Table 15-8 (15_die_thermal.md): THM_SENS. -/
def attrThmSens : AttrDesc :=
  ⟨0x3801, 1, 16,
    repeated 8 16 (fun _ => [⟨0, 12, .ro, 0⟩])⟩

/-- Table 15-9 (15_die_thermal.md): THM_PEAK. -/
def attrThmPeak : AttrDesc :=
  ⟨0x3802, 1, 8,
    [⟨0, 12, .rc, 0x000⟩, ⟨12, 1, .rc, 0⟩, ⟨16, 32, .rc, 0⟩]⟩

/-- Table 15-10 (15_die_thermal.md): THM_LAST. -/
def attrThmLast : AttrDesc :=
  ⟨0x3803, 1, 8,
    [⟨0, 1, .ro, 0⟩, ⟨1, 1, .ro, 0⟩, ⟨2, 2, .ro, 0⟩, ⟨16, 12, .ro, 0x000⟩,
    ⟨32, 32, .ro, 0⟩]⟩

/-- Table 16-11 (16_security.md): SEC_STAT. -/
def attrSecStat : AttrDesc :=
  ⟨0x6800, 1, 8,
    [⟨0, 2, .ro, 0⟩, ⟨2, 1, .ro, 0⟩, ⟨3, 1, .ro, 0⟩, ⟨4, 3, .ro, 0⟩,
    ⟨7, 1, .ro, 0⟩, ⟨8, 1, .ro, 0⟩, ⟨9, 1, .ro, 0⟩, ⟨10, 1, .ro, 0⟩,
    ⟨11, 1, .ro, 0⟩, ⟨12, 1, .ro, 0⟩, ⟨32, 32, .ro, 0⟩]⟩

/-- Table 16-12 (16_security.md): SEC_BOOT. -/
def attrSecBoot : AttrDesc :=
  ⟨0x6801, 1, 16,
    [⟨0, 1, .ro, 0⟩, ⟨1, 1, .ro, 0⟩, ⟨2, 3, .ro, 0⟩, ⟨8, 6, .ro, 0⟩,
    ⟨16, 6, .ro, 0⟩, ⟨32, 32, .ro, 0⟩, ⟨64, 64, .ro, 0⟩]⟩

/-- Table 16-13 (16_security.md): SEC_DEV. -/
def attrSecDev : AttrDesc :=
  ⟨0x6802, 1, 72,
    [⟨0, 64, .ro, 0⟩, ⟨64, 512, .ro, 0⟩]⟩

/-- Table 16-14 (16_security.md): SEC_UPD. -/
def attrSecUpd : AttrDesc :=
  ⟨0x6803, 1, 8,
    [⟨0, 2, .ro, 0⟩, ⟨2, 5, .ro, 0⟩, ⟨16, 16, .ro, 0⟩, ⟨32, 32, .ro, 0⟩]⟩

/-- Table 16-15 (16_security.md): SEC_SLOT. -/
def attrSecSlot : AttrDesc :=
  ⟨0x6810, 32, 4,
    [⟨0, 3, .ro, 0⟩, ⟨8, 8, .ro, 0⟩, ⟨16, 16, .ro, 0⟩]⟩

/-- Table 17-8 (17_faults.md): FLT_STAT. -/
def attrFltStat : AttrDesc :=
  ⟨0x7000, 1, 8,
    [⟨0, 2, .ro, 2⟩, ⟨2, 1, .w1c, 0⟩, ⟨3, 1, .ro, 0⟩, ⟨4, 5, .ro, 0⟩,
    ⟨9, 4, .ro, 0⟩, ⟨13, 7, .ro, 0⟩, ⟨32, 16, .rc, 0⟩, ⟨48, 16, .rc, 0⟩]⟩

/-- Table 17-9 (17_faults.md): FLT_CFG. -/
def attrFltCfg : AttrDesc :=
  ⟨0x7001, 1, 4,
    [⟨0, 7, .rw, 0x33⟩, ⟨8, 4, .rw, 4⟩, ⟨16, 16, .rw, 3600⟩]⟩

/-- Table 17-10 (17_faults.md): FLT_FIRST. -/
def attrFltFirst : AttrDesc :=
  ⟨0x7002, 1, 16,
    [⟨0, 96, .ro, 0⟩, ⟨96, 1, .ro, 0⟩]⟩

/-- Table 17-10 (17_faults.md): FLT_HIGH. -/
def attrFltHigh : AttrDesc :=
  ⟨0x7003, 1, 16,
    [⟨0, 96, .ro, 0⟩, ⟨96, 1, .ro, 0⟩]⟩

/-- Table 17-11 (17_faults.md): FLT_LAST. -/
def attrFltLast : AttrDesc :=
  ⟨0x7004, 1, 16,
    [⟨0, 1, .ro, 0⟩, ⟨1, 1, .ro, 0⟩, ⟨2, 1, .ro, 0⟩, ⟨3, 5, .ro, 0⟩,
    ⟨8, 2, .ro, 0⟩, ⟨10, 1, .ro, 0⟩, ⟨11, 1, .ro, 0⟩, ⟨32, 96, .ro, 0⟩]⟩

/-- Table 17-12 (17_faults.md): FLT_CTL. -/
def attrFltCtl : AttrDesc :=
  ⟨0x7005, 1, 1,
    [⟨0, 1, .wo, 0⟩, ⟨1, 1, .wo, 0⟩, ⟨2, 1, .wo, 0⟩]⟩

/-- Table 17-13 (17_faults.md): FLT_UNIT. -/
def attrFltUnit : AttrDesc :=
  ⟨0x7006, 1, 8,
    repeated 7 8 (fun _ => [⟨0, 4, .ro, 0⟩, ⟨4, 2, .ro, 0⟩])⟩

/-- Table 7-14 (07_adc_sensing.md): ADC_LINTAB_0, which is ROM. -/
def attrAdcLintabRom : AttrDesc :=
  { attrAdcLintab with count := 1, fields := attrAdcLintab.fields.map fun d => { d with access := .ro } }

/-- Every attribute of the hub (Table 3-10, 03_spoke_packets.md). -/
def attrTable : List AttrDesc :=
  [attrCadNow, attrCadStat, attrCadTrim, attrCadOvr, attrCadOvrcnt, attrCadSlack,
   attrCadTblIdx, attrCadTblEnt, attrPwrStat, attrPwrCause, attrPwrHoldCfg, attrPwrReserve,
   attrPwrClass, attrPwrEscStat, attrPwrWake, attrPwrChg, attrPwrKstat, attrZonEnable,
   attrZonClock, attrZonDemand, attrZonPlantCfg, attrZonSetpt, attrZonCfg, attrZonLoop,
   attrZonStat, attrZonInput, attrPwmStat, attrPwmCal, attrPwmLatch, attrPwmGrp,
   attrPwmCh, attrActStat, attrActKs, attrActMix, attrActVgrp, attrActVlv,
   attrActBr, attrActFan, attrActVout, attrActAux, attrAdcCtl, attrAdcStat,
   attrAdcData, attrAdcSpt, attrAdcSeq, attrAdcSr, attrAdcAin, attrAdcIncfg,
   attrAdcLintabRom, { attrAdcLintab with base := 0x30C1, count := 3 }, attrAdcDev, attrAdcDevr, attrPadStat, attrPadPlant,
   attrPadSin, attrPadMeas, attrPadCtl, attrPadActive, attrPadStaged, attrPadProof,
   attrBusStat, attrBusCfg, attrBusCnt, attrBusGpCfg, attrBusGpStat, attrBusGpData,
   attrHayStat, attrHayCfg, attrHayOdo, attrHayGroom, attrHayLog, attrStbStat,
   attrStbStall, attrStbTask, attrStbRing, attrStbSpStat, attrStbCache, attrStbAudit,
   attrStbSp, attrStbHaz, attrStbCred, attrDspStat, attrDspCfg, attrDspLw,
   attrDspOd, attrDspGammaPos, attrDspGammaNeg, attrDspDc, attrDspTileIdx, attrDspTile,
   attrSegStat, attrSegCfg, attrSegPat, attrSegBack, attrSegAlt, attrThmStat,
   attrThmSens, attrThmPeak, attrThmLast, attrSecStat, attrSecBoot, attrSecDev,
   attrSecUpd, attrSecSlot, attrFltStat, attrFltCfg, attrFltFirst, attrFltHigh,
   attrFltLast, attrFltCtl, attrFltUnit]

/-- The field map of an attribute ID, if the ID is known. -/
def attrOf (id : Nat) : Option AttrDesc :=
  attrTable.find? fun a => decide (a.base ≤ id ∧ id < a.base + a.count)

/-- The key of `State.regs` for the field of attribute `id` whose lowest bit is `lo`. -/
def regKey (id lo : Nat) : Nat := 1024 * id + lo

/-- The Reset value of a key; 0 for a key no field map has. -/
def resetOf (key : Nat) : Nat :=
  match attrOf (key / 1024) with
  | none => 0
  | some a => ((a.fields.find? fun d => d.lo == key % 1024).map (·.reset)).getD 0

end Sys2Proof.Machine

namespace Sys2Proof.Machine.R

/-! Table 1-10 CAD_NOW -/
abbrev CAD_NOW_SLOT : Nat := 1024 * 0x0100 + 0
abbrev CAD_NOW_TICK : Nat := 1024 * 0x0100 + 5
abbrev CAD_NOW_LAP : Nat := 1024 * 0x0100 + 9
abbrev CAD_NOW_STAGE : Nat := 1024 * 0x0100 + 15
/-! Table 1-11 CAD_STAT -/
abbrev CAD_STAT_SKEW : Nat := 1024 * 0x0101 + 0
abbrev CAD_STAT_AON_LOST : Nat := 1024 * 0x0101 + 1
abbrev CAD_STAT_PAR_ERR : Nat := 1024 * 0x0101 + 2
abbrev CAD_STAT_OVR : Nat := 1024 * 0x0101 + 3
abbrev CAD_STAT_HELD : Nat := 1024 * 0x0101 + 4
abbrev CAD_STAT_SWAP_PEND : Nat := 1024 * 0x0101 + 5
/-! Table 1-12 CAD_TRIM -/
abbrev CAD_TRIM_DRIFT : Nat := 1024 * 0x0102 + 0
abbrev CAD_TRIM_PHASE : Nat := 1024 * 0x0102 + 16
/-! Table 1-13 CAD_OVR -/
abbrev CAD_OVR_JOB : Nat := 1024 * 0x0103 + 0
abbrev CAD_OVR_CORE : Nat := 1024 * 0x0103 + 8
abbrev CAD_OVR_ENTRY : Nat := 1024 * 0x0103 + 9
abbrev CAD_OVR_CLASS : Nat := 1024 * 0x0103 + 18
abbrev CAD_OVR_VALID : Nat := 1024 * 0x0103 + 23
abbrev CAD_OVR_STG : Nat := 1024 * 0x0103 + 24
/-! Table 1-14 CAD_OVRCNT -/
abbrev CAD_OVRCNT_COUNT : Nat := 1024 * 0x0104 + 0
/-! Table 1-15 CAD_SLACK -/
abbrev CAD_SLACK_MIN : Nat := 1024 * 0x0105 + 0
abbrev CAD_SLACK_JOB : Nat := 1024 * 0x0105 + 18
abbrev CAD_SLACK_VALID : Nat := 1024 * 0x0105 + 26
/-! Table 1-16 CAD_TBL_IDX -/
abbrev CAD_TBL_IDX_INDEX : Nat := 1024 * 0x0106 + 0
/-! Table 1-17 CAD_TBL_ENT -/
abbrev CAD_TBL_ENT_ENTRY : Nat := 1024 * 0x0107 + 0
/-! Table 2-10 PWR_STAT -/
abbrev PWR_STAT_MODE : Nat := 1024 * 0x0200 + 0
abbrev PWR_STAT_PFI : Nat := 1024 * 0x0200 + 2
abbrev PWR_STAT_PFSEQ : Nat := 1024 * 0x0200 + 3
abbrev PWR_STAT_STARVED : Nat := 1024 * 0x0200 + 4
abbrev PWR_STAT_RES_LOW : Nat := 1024 * 0x0200 + 5
/-! Table 2-11 PWR_CAUSE -/
abbrev PWR_CAUSE_CAUSE : Nat := 1024 * 0x0201 + 0
abbrev PWR_CAUSE_PREV : Nat := 1024 * 0x0201 + 4
abbrev PWR_CAUSE_REC_PEND : Nat := 1024 * 0x0201 + 8
abbrev PWR_CAUSE_DIE : Nat := 1024 * 0x0201 + 16
abbrev PWR_CAUSE_STAGE : Nat := 1024 * 0x0201 + 32
/-! Table 2-13 PWR_HOLD_CFG -/
abbrev PWR_HOLD_CFG_CAP : Nat := 1024 * 0x0203 + 0
abbrev PWR_HOLD_CFG_VFLOOR : Nat := 1024 * 0x0203 + 16
abbrev PWR_HOLD_CFG_DIV : Nat := 1024 * 0x0203 + 32
abbrev PWR_HOLD_CFG_BASE : Nat := 1024 * 0x0203 + 40
abbrev PWR_HOLD_CFG_PFI_FW2 : Nat := 1024 * 0x0203 + 56
/-! Table 2-14 PWR_RESERVE -/
abbrev PWR_RESERVE_CODE : Nat := 1024 * 0x0204 + 0
abbrev PWR_RESERVE_VOLTS : Nat := 1024 * 0x0204 + 16
abbrev PWR_RESERVE_RESERVE : Nat := 1024 * 0x0204 + 32
abbrev PWR_RESERVE_AVAIL : Nat := 1024 * 0x0204 + 64
abbrev PWR_RESERVE_HELD : Nat := 1024 * 0x0204 + 96
/-! PWR_CLASS PWR_CLASS -/
abbrev PWR_CLASS_RES_A : Nat := 1024 * 0x0205 + 0
abbrev PWR_CLASS_COST_B : Nat := 1024 * 0x0205 + 16
abbrev PWR_CLASS_COST_C : Nat := 1024 * 0x0205 + 32
abbrev PWR_CLASS_COST_D : Nat := 1024 * 0x0205 + 48
/-! PWR_ESC_STAT PWR_ESC_STAT -/
abbrev PWR_ESC_STAT_WAIT_B : Nat := 1024 * 0x0206 + 0
abbrev PWR_ESC_STAT_WAIT_C : Nat := 1024 * 0x0206 + 8
abbrev PWR_ESC_STAT_WAIT_D : Nat := 1024 * 0x0206 + 16
abbrev PWR_ESC_STAT_PANEL_BLOCKED : Nat := 1024 * 0x0206 + 24
/-! PWR_WAKE PWR_WAKE -/
abbrev PWR_WAKE_EN_ALARM : Nat := 1024 * 0x0207 + 0
abbrev PWR_WAKE_EN_HOST : Nat := 1024 * 0x0207 + 1
abbrev PWR_WAKE_EN_PFI : Nat := 1024 * 0x0207 + 2
abbrev PWR_WAKE_EN_PAD : Nat := 1024 * 0x0207 + 3
abbrev PWR_WAKE_LASTSRC : Nat := 1024 * 0x0207 + 8
abbrev PWR_WAKE_ALARM : Nat := 1024 * 0x0207 + 32
/-! PWR_CHG PWR_CHG -/
abbrev PWR_CHG_MODE : Nat := 1024 * 0x0208 + 0
abbrev PWR_CHG_ILIM : Nat := 1024 * 0x0208 + 8
abbrev PWR_CHG_VMAX : Nat := 1024 * 0x0208 + 16
abbrev PWR_CHG_INHIBIT : Nat := 1024 * 0x0208 + 28
abbrev PWR_CHG_ACTIVE : Nat := 1024 * 0x0208 + 29
/-! PWR_KSTAT PWR_KSTAT -/
abbrev PWR_KSTAT_APPLIED : Nat := 1024 * 0x0209 + 0
abbrev PWR_KSTAT_WHY : Nat := 1024 * 0x0209 + 1
abbrev PWR_KSTAT_CRC_ERR : Nat := 1024 * 0x0209 + 4
abbrev PWR_KSTAT_PENDING : Nat := 1024 * 0x0209 + 5
/-! Table 4-8 ZON_ENABLE -/
abbrev ZON_ENABLE_EN : Nat := 1024 * 0x1000 + 0
/-! Table 4-9 ZON_CLOCK -/
abbrev ZON_CLOCK_SECOND : Nat := 1024 * 0x1001 + 0
abbrev ZON_CLOCK_MINUTE : Nat := 1024 * 0x1001 + 6
abbrev ZON_CLOCK_DAY : Nat := 1024 * 0x1001 + 17
abbrev ZON_CLOCK_VALID : Nat := 1024 * 0x1001 + 31
/-! Table 4-10 ZON_DEMAND -/
abbrev ZON_DEMAND_CALLING : Nat := 1024 * 0x1002 + 0
abbrev ZON_DEMAND_CALL : Nat := 1024 * 0x1002 + 6
abbrev ZON_DEMAND_LIMP : Nat := 1024 * 0x1002 + 7
abbrev ZON_DEMAND_FLOW_REQ : Nat := 1024 * 0x1002 + 8
abbrev ZON_DEMAND_MAXZONE : Nat := 1024 * 0x1002 + 20
/-! Table 4-11 ZON_PLANT_CFG -/
abbrev ZON_PLANT_CFG_CALL_ON : Nat := 1024 * 0x1003 + 0
abbrev ZON_PLANT_CFG_CALL_OFF : Nat := 1024 * 0x1003 + 12
abbrev ZON_PLANT_CFG_FLOW_MIN : Nat := 1024 * 0x1003 + 24
abbrev ZON_PLANT_CFG_FLOW_MAX : Nat := 1024 * 0x1003 + 36
/-! Table 4-12 ZON_SETPT -/
abbrev ZON_SETPT_EFF (n : Nat) : Nat := 1024 * (0x1010 + (n)) + 0
abbrev ZON_SETPT_SRC (n : Nat) : Nat := 1024 * (0x1010 + (n)) + 12
abbrev ZON_SETPT_SCHED (n : Nat) : Nat := 1024 * (0x1010 + (n)) + 16
/-! Table 4-13 ZON_CFG -/
abbrev ZON_CFG_SRC_KIND (n : Nat) : Nat := 1024 * (0x1040 + (n)) + 0
abbrev ZON_CFG_SRC_IDX (n : Nat) : Nat := 1024 * (0x1040 + (n)) + 2
abbrev ZON_CFG_HUM_KIND (n : Nat) : Nat := 1024 * (0x1040 + (n)) + 8
abbrev ZON_CFG_HUM_IDX (n : Nat) : Nat := 1024 * (0x1040 + (n)) + 10
abbrev ZON_CFG_OUT_KIND (n : Nat) : Nat := 1024 * (0x1040 + (n)) + 16
abbrev ZON_CFG_OUT_IDX (n : Nat) : Nat := 1024 * (0x1040 + (n)) + 18
abbrev ZON_CFG_OUT_CNT (n : Nat) : Nat := 1024 * (0x1040 + (n)) + 24
abbrev ZON_CFG_OCC_EN (n : Nat) : Nat := 1024 * (0x1040 + (n)) + 26
abbrev ZON_CFG_PRE_EN (n : Nat) : Nat := 1024 * (0x1040 + (n)) + 27
abbrev ZON_CFG_FROST (n : Nat) : Nat := 1024 * (0x1040 + (n)) + 32
abbrev ZON_CFG_MAX (n : Nat) : Nat := 1024 * (0x1040 + (n)) + 48
abbrev ZON_CFG_SETBACK (n : Nat) : Nat := 1024 * (0x1040 + (n)) + 64
abbrev ZON_CFG_OCC_THR (n : Nat) : Nat := 1024 * (0x1040 + (n)) + 80
abbrev ZON_CFG_OCC_DELAY (n : Nat) : Nat := 1024 * (0x1040 + (n)) + 96
abbrev ZON_CFG_WIN_MAX (n : Nat) : Nat := 1024 * (0x1040 + (n)) + 112
/-! Table 4-14 ZON_LOOP -/
abbrev ZON_LOOP_KP (n : Nat) : Nat := 1024 * (0x1070 + (n)) + 0
abbrev ZON_LOOP_KI (n : Nat) : Nat := 1024 * (0x1070 + (n)) + 16
abbrev ZON_LOOP_FILT (n : Nat) : Nat := 1024 * (0x1070 + (n)) + 32
abbrev ZON_LOOP_FAIL_DUTY (n : Nat) : Nat := 1024 * (0x1070 + (n)) + 36
abbrev ZON_LOOP_FALLBACK (n : Nat) : Nat := 1024 * (0x1070 + (n)) + 48
abbrev ZON_LOOP_PRE_RATE (n : Nat) : Nat := 1024 * (0x1070 + (n)) + 64
abbrev ZON_LOOP_WIN_DROP (n : Nat) : Nat := 1024 * (0x1070 + (n)) + 76
abbrev ZON_LOOP_LIMP_SP (n : Nat) : Nat := 1024 * (0x1070 + (n)) + 84
abbrev ZON_LOOP_PRE_MAX (n : Nat) : Nat := 1024 * (0x1070 + (n)) + 96
abbrev ZON_LOOP_REM_TMO (n : Nat) : Nat := 1024 * (0x1070 + (n)) + 112
/-! Table 4-15 ZON_STAT -/
abbrev ZON_STAT_TEMP (n : Nat) : Nat := 1024 * (0x10A0 + (n)) + 0
abbrev ZON_STAT_T_VALID (n : Nat) : Nat := 1024 * (0x10A0 + (n)) + 12
abbrev ZON_STAT_SENSOR_LOST (n : Nat) : Nat := 1024 * (0x10A0 + (n)) + 13
abbrev ZON_STAT_PREHEAT (n : Nat) : Nat := 1024 * (0x10A0 + (n)) + 14
abbrev ZON_STAT_LIMITED (n : Nat) : Nat := 1024 * (0x10A0 + (n)) + 15
abbrev ZON_STAT_HUM (n : Nat) : Nat := 1024 * (0x10A0 + (n)) + 16
abbrev ZON_STAT_H_VALID (n : Nat) : Nat := 1024 * (0x10A0 + (n)) + 28
abbrev ZON_STAT_OCC (n : Nat) : Nat := 1024 * (0x10A0 + (n)) + 29
abbrev ZON_STAT_WINDOW (n : Nat) : Nat := 1024 * (0x10A0 + (n)) + 30
abbrev ZON_STAT_HOLD (n : Nat) : Nat := 1024 * (0x10A0 + (n)) + 31
abbrev ZON_STAT_DUTY (n : Nat) : Nat := 1024 * (0x10A0 + (n)) + 32
abbrev ZON_STAT_INTEG (n : Nat) : Nat := 1024 * (0x10A0 + (n)) + 48
abbrev ZON_STAT_LAST_RUN (n : Nat) : Nat := 1024 * (0x10A0 + (n)) + 80
abbrev ZON_STAT_NEXT_SEQ (n : Nat) : Nat := 1024 * (0x10A0 + (n)) + 96
/-! Table 4-16 ZON_INPUT -/
abbrev ZON_INPUT_OCC_SCORE (n : Nat) : Nat := 1024 * (0x10D0 + (n)) + 0
abbrev ZON_INPUT_OCC_VALID (n : Nat) : Nat := 1024 * (0x10D0 + (n)) + 12
abbrev ZON_INPUT_HOLD_SP (n : Nat) : Nat := 1024 * (0x10D0 + (n)) + 16
abbrev ZON_INPUT_HOLD_MODE (n : Nat) : Nat := 1024 * (0x10D0 + (n)) + 28
abbrev ZON_INPUT_HOLD_LEFT (n : Nat) : Nat := 1024 * (0x10D0 + (n)) + 32
abbrev ZON_INPUT_LEAD (n : Nat) : Nat := 1024 * (0x10D0 + (n)) + 64
abbrev ZON_INPUT_LEAD_SRC (n : Nat) : Nat := 1024 * (0x10D0 + (n)) + 80
/-! Table 5-8 PWM_STAT -/
abbrev PWM_STAT_EN : Nat := 1024 * 0x2000 + 0
abbrev PWM_STAT_KS : Nat := 1024 * 0x2000 + 12
abbrev PWM_STAT_CAL_ERR : Nat := 1024 * 0x2000 + 24
abbrev PWM_STAT_CAL_STALE : Nat := 1024 * 0x2000 + 25
/-! Table 5-9 PWM_CAL -/
abbrev PWM_CAL_ELEM6 : Nat := 1024 * 0x2001 + 0
abbrev PWM_CAL_ELEM7 : Nat := 1024 * 0x2001 + 8
abbrev PWM_CAL_ELEM8 : Nat := 1024 * 0x2001 + 16
abbrev PWM_CAL_ELEM9 : Nat := 1024 * 0x2001 + 24
/-! Table 5-10 PWM_LATCH -/
abbrev PWM_LATCH_LATCHED : Nat := 1024 * 0x2002 + 0
/-! Table 5-11 PWM_GRP -/
abbrev PWM_GRP_PRESC (g : Nat) : Nat := 1024 * (0x2010 + (g)) + 0
abbrev PWM_GRP_UPD_MODE (g : Nat) : Nat := 1024 * (0x2010 + (g)) + 4
abbrev PWM_GRP_SYNC (g : Nat) : Nat := 1024 * (0x2010 + (g)) + 5
abbrev PWM_GRP_FLT_MODE (g : Nat) : Nat := 1024 * (0x2010 + (g)) + 7
abbrev PWM_GRP_PER (g : Nat) : Nat := 1024 * (0x2010 + (g)) + 16
abbrev PWM_GRP_PER_ACT (g : Nat) : Nat := 1024 * (0x2010 + (g)) + 32
abbrev PWM_GRP_EV_ZERO (g : Nat) : Nat := 1024 * (0x2010 + (g)) + 48
abbrev PWM_GRP_EV_PRD (g : Nat) : Nat := 1024 * (0x2010 + (g)) + 49
abbrev PWM_GRP_EV_CMP (g : Nat) : Nat := 1024 * (0x2010 + (g)) + 50
abbrev PWM_GRP_FLT_IN (g : Nat) : Nat := 1024 * (0x2010 + (g)) + 51
abbrev PWM_GRP_FLT_SEEN (g : Nat) : Nat := 1024 * (0x2010 + (g)) + 52
abbrev PWM_GRP_CFG_ERR (g : Nat) : Nat := 1024 * (0x2010 + (g)) + 53
abbrev PWM_GRP_LOAD_PEND (g : Nat) : Nat := 1024 * (0x2010 + (g)) + 54
abbrev PWM_GRP_IE_ZERO (g : Nat) : Nat := 1024 * (0x2010 + (g)) + 56
abbrev PWM_GRP_IE_PRD (g : Nat) : Nat := 1024 * (0x2010 + (g)) + 57
abbrev PWM_GRP_COUNT (g : Nat) : Nat := 1024 * (0x2010 + (g)) + 64
abbrev PWM_GRP_ZERO_CNT (g : Nat) : Nat := 1024 * (0x2010 + (g)) + 80
/-! Table 5-12 PWM_CH -/
abbrev PWM_CH_ON (n : Nat) : Nat := 1024 * (0x2020 + (n)) + 0
abbrev PWM_CH_OFF (n : Nat) : Nat := 1024 * (0x2020 + (n)) + 16
abbrev PWM_CH_ON_FINE (n : Nat) : Nat := 1024 * (0x2020 + (n)) + 32
abbrev PWM_CH_OFF_FINE (n : Nat) : Nat := 1024 * (0x2020 + (n)) + 38
abbrev PWM_CH_FULL (n : Nat) : Nat := 1024 * (0x2020 + (n)) + 44
abbrev PWM_CH_IE_ON (n : Nat) : Nat := 1024 * (0x2020 + (n)) + 45
abbrev PWM_CH_IE_OFF (n : Nat) : Nat := 1024 * (0x2020 + (n)) + 46
abbrev PWM_CH_ON_ACT (n : Nat) : Nat := 1024 * (0x2020 + (n)) + 48
abbrev PWM_CH_OFF_ACT (n : Nat) : Nat := 1024 * (0x2020 + (n)) + 64
abbrev PWM_CH_EV_ON (n : Nat) : Nat := 1024 * (0x2020 + (n)) + 80
abbrev PWM_CH_EV_OFF (n : Nat) : Nat := 1024 * (0x2020 + (n)) + 81
abbrev PWM_CH_CUTS (n : Nat) : Nat := 1024 * (0x2020 + (n)) + 82
abbrev PWM_CH_LATCHED (n : Nat) : Nat := 1024 * (0x2020 + (n)) + 85
abbrev PWM_CH_LATCH_WHY (n : Nat) : Nat := 1024 * (0x2020 + (n)) + 86
abbrev PWM_CH_CFG_ERR (n : Nat) : Nat := 1024 * (0x2020 + (n)) + 88
abbrev PWM_CH_CUT_NOW (n : Nat) : Nat := 1024 * (0x2020 + (n)) + 89
/-! Table 6-7 ACT_STAT -/
abbrev ACT_STAT_BR_FAULT : Nat := 1024 * 0x2400 + 0
abbrev ACT_STAT_FAN_STALL : Nat := 1024 * 0x2400 + 16
abbrev ACT_STAT_VG_RECOV : Nat := 1024 * 0x2400 + 24
abbrev ACT_STAT_VG_OVER : Nat := 1024 * 0x2400 + 30
abbrev ACT_STAT_MIX_INH : Nat := 1024 * 0x2400 + 36
abbrev ACT_STAT_CEIL : Nat := 1024 * 0x2400 + 37
/-! Table 6-8 ACT_KS -/
abbrev ACT_KS_ENTRY : Nat := 1024 * 0x2401 + 0
abbrev ACT_KS_RAMP : Nat := 1024 * 0x2401 + 192
/-! Table 6-9 ACT_MIX -/
abbrev ACT_MIX_BRIDGE : Nat := 1024 * 0x2402 + 0
abbrev ACT_MIX_HOT_LEG : Nat := 1024 * 0x2402 + 5
abbrev ACT_MIX_INHIBIT : Nat := 1024 * 0x2402 + 6
abbrev ACT_MIX_PV_EN : Nat := 1024 * 0x2402 + 7
abbrev ACT_MIX_PLANT_VOUT : Nat := 1024 * 0x2402 + 8
abbrev ACT_MIX_CEIL : Nat := 1024 * 0x2402 + 12
/-! Table 6-10 ACT_VGRP -/
abbrev ACT_VGRP_GRP_LIM (g : Nat) : Nat := 1024 * (0x2410 + (g)) + 0
abbrev ACT_VGRP_INRUSH_N (g : Nat) : Nat := 1024 * (0x2410 + (g)) + 8
abbrev ACT_VGRP_RECOV (g : Nat) : Nat := 1024 * (0x2410 + (g)) + 10
abbrev ACT_VGRP_GSNS_HI (g : Nat) : Nat := 1024 * (0x2410 + (g)) + 11
abbrev ACT_VGRP_PAUSED (g : Nat) : Nat := 1024 * (0x2410 + (g)) + 12
abbrev ACT_VGRP_LAST_SHORT (g : Nat) : Nat := 1024 * (0x2410 + (g)) + 16
abbrev ACT_VGRP_LS_VALID (g : Nat) : Nat := 1024 * (0x2410 + (g)) + 19
/-! Table 6-11 ACT_VLV -/
abbrev ACT_VLV_DEMAND (n : Nat) : Nat := 1024 * (0x2420 + (n)) + 0
abbrev ACT_VLV_HOLD (n : Nat) : Nat := 1024 * (0x2420 + (n)) + 16
abbrev ACT_VLV_CYCLE (n : Nat) : Nat := 1024 * (0x2420 + (n)) + 32
abbrev ACT_VLV_MIN_ON (n : Nat) : Nat := 1024 * (0x2420 + (n)) + 48
abbrev ACT_VLV_BLANK (n : Nat) : Nat := 1024 * (0x2420 + (n)) + 56
abbrev ACT_VLV_LIM_IN (n : Nat) : Nat := 1024 * (0x2420 + (n)) + 64
abbrev ACT_VLV_LIM_HOLD (n : Nat) : Nat := 1024 * (0x2420 + (n)) + 72
abbrev ACT_VLV_HARD (n : Nat) : Nat := 1024 * (0x2420 + (n)) + 80
abbrev ACT_VLV_STATE (n : Nat) : Nat := 1024 * (0x2420 + (n)) + 88
abbrev ACT_VLV_ZONE_OWN (n : Nat) : Nat := 1024 * (0x2420 + (n)) + 91
abbrev ACT_VLV_INRUSH_T (n : Nat) : Nat := 1024 * (0x2420 + (n)) + 96
abbrev ACT_VLV_LEFT (n : Nat) : Nat := 1024 * (0x2420 + (n)) + 112
/-! Table 6-12 ACT_BR -/
abbrev ACT_BR_POS (k : Nat) : Nat := 1024 * (0x2450 + (k)) + 0
abbrev ACT_BR_POS_OK (k : Nat) : Nat := 1024 * (0x2450 + (k)) + 12
abbrev ACT_BR_STATE (k : Nat) : Nat := 1024 * (0x2450 + (k)) + 13
abbrev ACT_BR_DUTY (k : Nat) : Nat := 1024 * (0x2450 + (k)) + 16
abbrev ACT_BR_RUN_T (k : Nat) : Nat := 1024 * (0x2450 + (k)) + 32
abbrev ACT_BR_COAST (k : Nat) : Nat := 1024 * (0x2450 + (k)) + 48
abbrev ACT_BR_BLANK (k : Nat) : Nat := 1024 * (0x2450 + (k)) + 56
abbrev ACT_BR_LIM (k : Nat) : Nat := 1024 * (0x2450 + (k)) + 64
abbrev ACT_BR_HARD (k : Nat) : Nat := 1024 * (0x2450 + (k)) + 72
abbrev ACT_BR_DEADBAND (k : Nat) : Nat := 1024 * (0x2450 + (k)) + 80
abbrev ACT_BR_LEFT (k : Nat) : Nat := 1024 * (0x2450 + (k)) + 96
/-! Table 6-13 ACT_FAN -/
abbrev ACT_FAN_DUTY (f : Nat) : Nat := 1024 * (0x2460 + (f)) + 0
abbrev ACT_FAN_FULL (f : Nat) : Nat := 1024 * (0x2460 + (f)) + 12
abbrev ACT_FAN_STALL (f : Nat) : Nat := 1024 * (0x2460 + (f)) + 13
abbrev ACT_FAN_PPR (f : Nat) : Nat := 1024 * (0x2460 + (f)) + 14
abbrev ACT_FAN_RPM (f : Nat) : Nat := 1024 * (0x2460 + (f)) + 16
abbrev ACT_FAN_RPM_MIN (f : Nat) : Nat := 1024 * (0x2460 + (f)) + 32
abbrev ACT_FAN_STALL_T (f : Nat) : Nat := 1024 * (0x2460 + (f)) + 44
/-! Table 6-14 ACT_VOUT -/
abbrev ACT_VOUT_TARGET (v : Nat) : Nat := 1024 * (0x2468 + (v)) + 0
abbrev ACT_VOUT_CODE (v : Nat) : Nat := 1024 * (0x2468 + (v)) + 16
abbrev ACT_VOUT_SLEW (v : Nat) : Nat := 1024 * (0x2468 + (v)) + 32
abbrev ACT_VOUT_MOVING (v : Nat) : Nat := 1024 * (0x2468 + (v)) + 44
abbrev ACT_VOUT_CEILED (v : Nat) : Nat := 1024 * (0x2468 + (v)) + 45
abbrev ACT_VOUT_DAC (v : Nat) : Nat := 1024 * (0x2468 + (v)) + 48
/-! Table 6-15 ACT_AUX -/
abbrev ACT_AUX_DUTY (a : Nat) : Nat := 1024 * (0x2470 + (a)) + 0
abbrev ACT_AUX_FULL (a : Nat) : Nat := 1024 * (0x2470 + (a)) + 12
/-! Table 7-6 ADC_CTL -/
abbrev ADC_CTL_INPUT : Nat := 1024 * 0x3000 + 0
abbrev ADC_CTL_GO : Nat := 1024 * 0x3000 + 8
/-! Table 7-7 ADC_STAT -/
abbrev ADC_STAT_BUSY : Nat := 1024 * 0x3001 + 0
abbrev ADC_STAT_SEQ_A : Nat := 1024 * 0x3001 + 1
abbrev ADC_STAT_SEQ_B : Nat := 1024 * 0x3001 + 2
abbrev ADC_STAT_NULL_SEQ_A : Nat := 1024 * 0x3001 + 3
abbrev ADC_STAT_NULL_SEQ_B : Nat := 1024 * 0x3001 + 4
abbrev ADC_STAT_GO_LOST_A : Nat := 1024 * 0x3001 + 5
abbrev ADC_STAT_GO_LOST_B : Nat := 1024 * 0x3001 + 6
abbrev ADC_STAT_SGL_LOST : Nat := 1024 * 0x3001 + 7
abbrev ADC_STAT_WIN_A : Nat := 1024 * 0x3001 + 8
abbrev ADC_STAT_WIN_B : Nat := 1024 * 0x3001 + 9
abbrev ADC_STAT_LIMP : Nat := 1024 * 0x3001 + 10
/-! Table 7-8 ADC_DATA -/
abbrev ADC_DATA_CODE : Nat := 1024 * 0x3002 + 0
abbrev ADC_DATA_INPUT : Nat := 1024 * 0x3002 + 12
abbrev ADC_DATA_OVR : Nat := 1024 * 0x3002 + 18
abbrev ADC_DATA_UNR : Nat := 1024 * 0x3002 + 19
abbrev ADC_DATA_NEW : Nat := 1024 * 0x3002 + 20
abbrev ADC_DATA_OVERRUN : Nat := 1024 * 0x3002 + 21
/-! Table 7-9 ADC_SPT -/
abbrev ADC_SPT_STUCK : Nat := 1024 * 0x3003 + 0
abbrev ADC_SPT_ACTIVE : Nat := 1024 * 0x3003 + 8
abbrev ADC_SPT_RECOVERIES : Nat := 1024 * 0x3003 + 16
abbrev ADC_SPT_LATE : Nat := 1024 * 0x3003 + 24
/-! Table 7-10 ADC_SEQ -/
abbrev ADC_SEQ_LEN0 (u : Nat) : Nat := 1024 * (0x3008 + (u)) + 0
abbrev ADC_SEQ_LEN1 (u : Nat) : Nat := 1024 * (0x3008 + (u)) + 8
abbrev ADC_SEQ_BANKSEL (u : Nat) : Nat := 1024 * (0x3008 + (u)) + 16
abbrev ADC_SEQ_BANK0 (u : Nat) : Nat := 1024 * (0x3008 + (u)) + 32
abbrev ADC_SEQ_BANK1 (u : Nat) : Nat := 1024 * (0x3008 + (u)) + 160
/-! Table 7-11 ADC_SR -/
abbrev ADC_SR_CODE (u e : Nat) : Nat := 1024 * (0x3010 + (16 * u + e)) + 0
abbrev ADC_SR_OVR (u e : Nat) : Nat := 1024 * (0x3010 + (16 * u + e)) + 12
abbrev ADC_SR_UNR (u e : Nat) : Nat := 1024 * (0x3010 + (16 * u + e)) + 13
abbrev ADC_SR_BANK (u e : Nat) : Nat := 1024 * (0x3010 + (16 * u + e)) + 14
abbrev ADC_SR_VALID (u e : Nat) : Nat := 1024 * (0x3010 + (16 * u + e)) + 15
abbrev ADC_SR_INPUT (u e : Nat) : Nat := 1024 * (0x3010 + (16 * u + e)) + 16
abbrev ADC_SR_TICK (u e : Nat) : Nat := 1024 * (0x3010 + (16 * u + e)) + 24
/-! Table 7-12 ADC_AIN -/
abbrev ADC_AIN_RAW (n : Nat) : Nat := 1024 * (0x3040 + (n)) + 0
abbrev ADC_AIN_VALUE (n : Nat) : Nat := 1024 * (0x3040 + (n)) + 16
abbrev ADC_AIN_OVR (n : Nat) : Nat := 1024 * (0x3040 + (n)) + 28
abbrev ADC_AIN_UNR (n : Nat) : Nat := 1024 * (0x3040 + (n)) + 29
abbrev ADC_AIN_OPEN (n : Nat) : Nat := 1024 * (0x3040 + (n)) + 30
abbrev ADC_AIN_SHORT (n : Nat) : Nat := 1024 * (0x3040 + (n)) + 31
abbrev ADC_AIN_STALE (n : Nat) : Nat := 1024 * (0x3040 + (n)) + 32
abbrev ADC_AIN_VALID (n : Nat) : Nat := 1024 * (0x3040 + (n)) + 33
abbrev ADC_AIN_AGE (n : Nat) : Nat := 1024 * (0x3040 + (n)) + 40
/-! Table 7-13 ADC_INCFG -/
abbrev ADC_INCFG_LIN (n : Nat) : Nat := 1024 * (0x3080 + (n)) + 0
abbrev ADC_INCFG_DET (n : Nat) : Nat := 1024 * (0x3080 + (n)) + 3
abbrev ADC_INCFG_OPEN_THR (n : Nat) : Nat := 1024 * (0x3080 + (n)) + 4
abbrev ADC_INCFG_SHORT_THR (n : Nat) : Nat := 1024 * (0x3080 + (n)) + 16
abbrev ADC_INCFG_NOTE (n : Nat) : Nat := 1024 * (0x3080 + (n)) + 28
/-! Table 7-14 ADC_LINTAB -/
abbrev ADC_LINTAB_E (t i : Nat) : Nat := 1024 * (0x30C0 + (t)) + (0 + 16 * i)
/-! Table 7-15 ADC_DEV -/
abbrev ADC_DEV_PORT (d : Nat) : Nat := 1024 * (0x30D0 + (d)) + 0
abbrev ADC_DEV_KIND (d : Nat) : Nat := 1024 * (0x30D0 + (d)) + 2
abbrev ADC_DEV_FAST (d : Nat) : Nat := 1024 * (0x30D0 + (d)) + 4
abbrev ADC_DEV_SMODE (d : Nat) : Nat := 1024 * (0x30D0 + (d)) + 5
abbrev ADC_DEV_CS (d : Nat) : Nat := 1024 * (0x30D0 + (d)) + 6
abbrev ADC_DEV_ADDR (d : Nat) : Nat := 1024 * (0x30D0 + (d)) + 8
abbrev ADC_DEV_CRC (d : Nat) : Nat := 1024 * (0x30D0 + (d)) + 15
abbrev ADC_DEV_SDIV (d : Nat) : Nat := 1024 * (0x30D0 + (d)) + 16
abbrev ADC_DEV_WAIT (d : Nat) : Nat := 1024 * (0x30D0 + (d)) + 24
abbrev ADC_DEV_CMDN (d : Nat) : Nat := 1024 * (0x30D0 + (d)) + 30
abbrev ADC_DEV_PERIOD (d : Nat) : Nat := 1024 * (0x30D0 + (d)) + 32
abbrev ADC_DEV_CMD0 (d : Nat) : Nat := 1024 * (0x30D0 + (d)) + 48
abbrev ADC_DEV_CMD1 (d : Nat) : Nat := 1024 * (0x30D0 + (d)) + 56
abbrev ADC_DEV_CHUNK (d : Nat) : Nat := 1024 * (0x30D0 + (d)) + 64
abbrev ADC_DEV_BE (d : Nat) : Nat := 1024 * (0x30D0 + (d)) + 70
abbrev ADC_DEV_FRAME (d : Nat) : Nat := 1024 * (0x30D0 + (d)) + 72
abbrev ADC_DEV_T_OFS (d : Nat) : Nat := 1024 * (0x30D0 + (d)) + 80
abbrev ADC_DEV_T_SPAN (d : Nat) : Nat := 1024 * (0x30D0 + (d)) + 96
abbrev ADC_DEV_H_SPAN (d : Nat) : Nat := 1024 * (0x30D0 + (d)) + 112
abbrev ADC_DEV_H_OFS (d : Nat) : Nat := 1024 * (0x30D0 + (d)) + 128
/-! Table 7-16 ADC_DEVR -/
abbrev ADC_DEVR_TEMP (d : Nat) : Nat := 1024 * (0x30E0 + (d)) + 0
abbrev ADC_DEVR_HUM (d : Nat) : Nat := 1024 * (0x30E0 + (d)) + 16
abbrev ADC_DEVR_VALID (d : Nat) : Nat := 1024 * (0x30E0 + (d)) + 28
abbrev ADC_DEVR_CLIP (d : Nat) : Nat := 1024 * (0x30E0 + (d)) + 29
abbrev ADC_DEVR_ERR (d : Nat) : Nat := 1024 * (0x30E0 + (d)) + 32
abbrev ADC_DEVR_AGE (d : Nat) : Nat := 1024 * (0x30E0 + (d)) + 40
abbrev ADC_DEVR_FRAMES (d : Nat) : Nat := 1024 * (0x30E0 + (d)) + 48
/-! Table 8-10 PAD_STAT -/
abbrev PAD_STAT_STATE : Nat := 1024 * 0x4000 + 0
abbrev PAD_STAT_COMMITTED : Nat := 1024 * 0x4000 + 2
abbrev PAD_STAT_STAGED : Nat := 1024 * 0x4000 + 3
abbrev PAD_STAT_FROST : Nat := 1024 * 0x4000 + 4
abbrev PAD_STAT_SLT_TRIP : Nat := 1024 * 0x4000 + 5
abbrev PAD_STAT_SLT_WAIT : Nat := 1024 * 0x4000 + 6
abbrev PAD_STAT_SLT_SENS : Nat := 1024 * 0x4000 + 7
abbrev PAD_STAT_SDIR : Nat := 1024 * 0x4000 + 8
abbrev PAD_STAT_INHIBIT : Nat := 1024 * 0x4000 + 9
abbrev PAD_STAT_SLP_FAULT : Nat := 1024 * 0x4000 + 10
abbrev PAD_STAT_REFUSE : Nat := 1024 * 0x4000 + 11
abbrev PAD_STAT_LANE_FAULT : Nat := 1024 * 0x4000 + 12
abbrev PAD_STAT_CLK_FAULT : Nat := 1024 * 0x4000 + 13
abbrev PAD_STAT_WINDOW : Nat := 1024 * 0x4000 + 16
abbrev PAD_STAT_HB_OK : Nat := 1024 * 0x4000 + 32
abbrev PAD_STAT_HB_BAD : Nat := 1024 * 0x4000 + 40
/-! Table 8-11 PAD_PLANT -/
abbrev PAD_PLANT_PROP (i : Nat) : Nat := 1024 * 0x4001 + (0 + 8 * i)
abbrev PAD_PLANT_OUT (i : Nat) : Nat := 1024 * 0x4001 + (1 + 8 * i)
abbrev PAD_PLANT_FB (i : Nat) : Nat := 1024 * 0x4001 + (2 + 8 * i)
abbrev PAD_PLANT_STOP (i : Nat) : Nat := 1024 * 0x4001 + (3 + 8 * i)
abbrev PAD_PLANT_FB_FAULT (i : Nat) : Nat := 1024 * 0x4001 + (4 + 8 * i)
abbrev PAD_PLANT_WELD (i : Nat) : Nat := 1024 * 0x4001 + (5 + 8 * i)
abbrev PAD_PLANT_PROOF (i : Nat) : Nat := 1024 * 0x4001 + (6 + 8 * i)
abbrev PAD_PLANT_DUE (i : Nat) : Nat := 1024 * 0x4001 + (7 + 8 * i)
/-! Table 8-12 PAD_SIN -/
abbrev PAD_SIN_A (i : Nat) : Nat := 1024 * 0x4002 + (0 + 8 * i)
abbrev PAD_SIN_B (i : Nat) : Nat := 1024 * 0x4002 + (1 + 8 * i)
abbrev PAD_SIN_STOP (i : Nat) : Nat := 1024 * 0x4002 + (2 + 8 * i)
abbrev PAD_SIN_DISCREPANT (i : Nat) : Nat := 1024 * 0x4002 + (3 + 8 * i)
abbrev PAD_SIN_WAIT_RST (i : Nat) : Nat := 1024 * 0x4002 + (4 + 8 * i)
abbrev PAD_SIN_EN (i : Nat) : Nat := 1024 * 0x4002 + (5 + 8 * i)
/-! Table 8-13 PAD_MEAS -/
abbrev PAD_MEAS_PTS0 : Nat := 1024 * 0x4003 + 0
abbrev PAD_MEAS_OPEN0 : Nat := 1024 * 0x4003 + 12
abbrev PAD_MEAS_SHORT0 : Nat := 1024 * 0x4003 + 13
abbrev PAD_MEAS_PTS1 : Nat := 1024 * 0x4003 + 16
abbrev PAD_MEAS_OPEN1 : Nat := 1024 * 0x4003 + 28
abbrev PAD_MEAS_SHORT1 : Nat := 1024 * 0x4003 + 29
abbrev PAD_MEAS_POS : Nat := 1024 * 0x4003 + 32
abbrev PAD_MEAS_POS_ERR : Nat := 1024 * 0x4003 + 44
abbrev PAD_MEAS_ENDH : Nat := 1024 * 0x4003 + 45
abbrev PAD_MEAS_FLOW_REQ : Nat := 1024 * 0x4003 + 48
abbrev PAD_MEAS_CALL : Nat := 1024 * 0x4003 + 60
abbrev PAD_MEAS_CEIL : Nat := 1024 * 0x4003 + 64
/-! Table 8-14 PAD_CTL -/
abbrev PAD_CTL_AUX : Nat := 1024 * 0x4004 + 0
/-! Table 8-15 PAD_ACTIVE -/
abbrev PAD_ACTIVE_BLOCK : Nat := 1024 * 0x4005 + 0
abbrev PAD_ACTIVE_CHECK : Nat := 1024 * 0x4005 + 448
/-! Table 8-16 PAD_STAGED -/
abbrev PAD_STAGED_BLOCK : Nat := 1024 * 0x4006 + 0
abbrev PAD_STAGED_CHECK : Nat := 1024 * 0x4006 + 448
abbrev PAD_STAGED_FIRST_BAD : Nat := 1024 * 0x4006 + 480
abbrev PAD_STAGED_VALID : Nat := 1024 * 0x4006 + 488
abbrev PAD_STAGED_TRIES : Nat := 1024 * 0x4006 + 489
/-! Table 8-17 PAD_PROOF -/
abbrev PAD_PROOF_AGE (i : Nat) : Nat := 1024 * 0x4007 + (0 + 32 * i)
abbrev PAD_PROOF_DUE (i : Nat) : Nat := 1024 * 0x4007 + (16 + 32 * i)
abbrev PAD_PROOF_PASS (i : Nat) : Nat := 1024 * 0x4007 + (17 + 32 * i)
abbrev PAD_PROOF_FAIL (i : Nat) : Nat := 1024 * 0x4007 + (18 + 32 * i)
/-! Table 9-9 BUS_STAT -/
abbrev BUS_STAT_ON0 : Nat := 1024 * 0x4800 + 0
abbrev BUS_STAT_ON1 : Nat := 1024 * 0x4800 + 1
abbrev BUS_STAT_REM_RUN : Nat := 1024 * 0x4800 + 2
abbrev BUS_STAT_GP_RUN : Nat := 1024 * 0x4800 + 16
abbrev BUS_STAT_GP_FAILED : Nat := 1024 * 0x4800 + 32
/-! Table 9-10 BUS_CFG -/
abbrev BUS_CFG_MODE (p : Nat) : Nat := 1024 * (0x4810 + (p)) + 0
abbrev BUS_CFG_BAUD (p : Nat) : Nat := 1024 * (0x4810 + (p)) + 3
abbrev BUS_CFG_FORMAT (p : Nat) : Nat := 1024 * (0x4810 + (p)) + 6
abbrev BUS_CFG_ADDR (p : Nat) : Nat := 1024 * (0x4810 + (p)) + 8
abbrev BUS_CFG_MAX_MASTER (p : Nat) : Nat := 1024 * (0x4810 + (p)) + 16
abbrev BUS_CFG_MAX_INFO (p : Nat) : Nat := 1024 * (0x4810 + (p)) + 24
abbrev BUS_CFG_DE_PRE (p : Nat) : Nat := 1024 * (0x4810 + (p)) + 32
abbrev BUS_CFG_DE_POST (p : Nat) : Nat := 1024 * (0x4810 + (p)) + 35
abbrev BUS_CFG_AUTO (p : Nat) : Nat := 1024 * (0x4810 + (p)) + 38
abbrev BUS_CFG_VENDOR (p : Nat) : Nat := 1024 * (0x4810 + (p)) + 48
abbrev BUS_CFG_RSP_TMO (p : Nat) : Nat := 1024 * (0x4810 + (p)) + 64
/-! Table 9-11 BUS_CNT -/
abbrev BUS_CNT_FRAMES (p : Nat) : Nat := 1024 * (0x4818 + (p)) + 0
abbrev BUS_CNT_CRC_ERR (p : Nat) : Nat := 1024 * (0x4818 + (p)) + 16
abbrev BUS_CNT_LINE_ERR (p : Nat) : Nat := 1024 * (0x4818 + (p)) + 32
abbrev BUS_CNT_OVERFLOW (p : Nat) : Nat := 1024 * (0x4818 + (p)) + 48
abbrev BUS_CNT_UNMATCHED (p : Nat) : Nat := 1024 * (0x4818 + (p)) + 64
abbrev BUS_CNT_TIMEOUT (p : Nat) : Nat := 1024 * (0x4818 + (p)) + 80
/-! Table 9-12 BUS_GP_CFG -/
abbrev BUS_GP_CFG_EN (c : Nat) : Nat := 1024 * (0x4820 + (c)) + 0
abbrev BUS_GP_CFG_DIR (c : Nat) : Nat := 1024 * (0x4820 + (c)) + 1
abbrev BUS_GP_CFG_TRANSPORT (c : Nat) : Nat := 1024 * (0x4820 + (c)) + 2
abbrev BUS_GP_CFG_PADSTOP (c : Nat) : Nat := 1024 * (0x4820 + (c)) + 4
abbrev BUS_GP_CFG_ADDR (c : Nat) : Nat := 1024 * (0x4820 + (c)) + 8
abbrev BUS_GP_CFG_IDENT (c : Nat) : Nat := 1024 * (0x4820 + (c)) + 16
abbrev BUS_GP_CFG_WDT (c : Nat) : Nat := 1024 * (0x4820 + (c)) + 32
abbrev BUS_GP_CFG_LEN (c : Nat) : Nat := 1024 * (0x4820 + (c)) + 48
abbrev BUS_GP_CFG_LOSS_MAX (c : Nat) : Nat := 1024 * (0x4820 + (c)) + 56
abbrev BUS_GP_CFG_CORR_MAX (c : Nat) : Nat := 1024 * (0x4820 + (c)) + 60
abbrev BUS_GP_CFG_DLY_MAX (c : Nat) : Nat := 1024 * (0x4820 + (c)) + 64
abbrev BUS_GP_CFG_PERIOD (c : Nat) : Nat := 1024 * (0x4820 + (c)) + 80
/-! Table 9-13 BUS_GP_STAT -/
abbrev BUS_GP_STAT_STATE (c : Nat) : Nat := 1024 * (0x4840 + (c)) + 0
abbrev BUS_GP_STAT_WHY (c : Nat) : Nat := 1024 * (0x4840 + (c)) + 2
abbrev BUS_GP_STAT_LAST_SEQ (c : Nat) : Nat := 1024 * (0x4840 + (c)) + 16
abbrev BUS_GP_STAT_LAST_TS (c : Nat) : Nat := 1024 * (0x4840 + (c)) + 32
abbrev BUS_GP_STAT_LOST (c : Nat) : Nat := 1024 * (0x4840 + (c)) + 64
abbrev BUS_GP_STAT_REPEAT (c : Nat) : Nat := 1024 * (0x4840 + (c)) + 72
abbrev BUS_GP_STAT_OLD (c : Nat) : Nat := 1024 * (0x4840 + (c)) + 80
abbrev BUS_GP_STAT_DELAYED (c : Nat) : Nat := 1024 * (0x4840 + (c)) + 88
abbrev BUS_GP_STAT_CORRUPT (c : Nat) : Nat := 1024 * (0x4840 + (c)) + 96
/-! Table 9-14 BUS_GP_DATA -/
abbrev BUS_GP_DATA_DATA (c : Nat) : Nat := 1024 * (0x4860 + (c)) + 0
/-! Table 10-11 HAY_STAT -/
abbrev HAY_STAT_BUSY : Nat := 1024 * 0x5000 + 0
abbrev HAY_STAT_RECALL : Nat := 1024 * 0x5000 + 1
abbrev HAY_STAT_WP : Nat := 1024 * 0x5000 + 2
abbrev HAY_STAT_TEMP_INH : Nat := 1024 * 0x5000 + 3
abbrev HAY_STAT_HELD : Nat := 1024 * 0x5000 + 4
abbrev HAY_STAT_RESOLVED : Nat := 1024 * 0x5000 + 5
abbrev HAY_STAT_FWD : Nat := 1024 * 0x5000 + 6
abbrev HAY_STAT_DRAFT : Nat := 1024 * 0x5000 + 7
abbrev HAY_STAT_STEP : Nat := 1024 * 0x5000 + 8
abbrev HAY_STAT_PAGE : Nat := 1024 * 0x5000 + 16
abbrev HAY_STAT_WAITING : Nat := 1024 * 0x5000 + 32
abbrev HAY_STAT_WP_REJ : Nat := 1024 * 0x5000 + 40
abbrev HAY_STAT_SPARES : Nat := 1024 * 0x5000 + 48
/-! Table 10-12 HAY_CFG -/
abbrev HAY_CFG_BOUND : Nat := 1024 * 0x5001 + 0
abbrev HAY_CFG_LOG_HOLD : Nat := 1024 * 0x5001 + 16
abbrev HAY_CFG_GROOM_EN : Nat := 1024 * 0x5001 + 28
/-! Table 10-13 HAY_ODO -/
abbrev HAY_ODO_COUNT (i : Nat) : Nat := 1024 * 0x5002 + (0 + 32 * i)
/-! Table 10-14 HAY_GROOM -/
abbrev HAY_GROOM_NEXT : Nat := 1024 * 0x5003 + 0
abbrev HAY_GROOM_SWEEPS : Nat := 1024 * 0x5003 + 16
abbrev HAY_GROOM_CORRECTED : Nat := 1024 * 0x5003 + 32
abbrev HAY_GROOM_WEAK : Nat := 1024 * 0x5003 + 48
abbrev HAY_GROOM_REFRESHED : Nat := 1024 * 0x5003 + 64
abbrev HAY_GROOM_LAST_BAD : Nat := 1024 * 0x5003 + 80
abbrev HAY_GROOM_BAD_VALID : Nat := 1024 * 0x5003 + 92
abbrev HAY_GROOM_SKIPPED : Nat := 1024 * 0x5003 + 96
/-! Table 10-15 HAY_LOG -/
abbrev HAY_LOG_NEXT_SEQ (s : Nat) : Nat := 1024 * (0x5010 + (s)) + 0
abbrev HAY_LOG_LAST_SEQ (s : Nat) : Nat := 1024 * (0x5010 + (s)) + 32
abbrev HAY_LOG_OLDEST_SEQ (s : Nat) : Nat := 1024 * (0x5010 + (s)) + 64
abbrev HAY_LOG_QUEUED (s : Nat) : Nat := 1024 * (0x5010 + (s)) + 96
abbrev HAY_LOG_OVERFLOWS (s : Nat) : Nat := 1024 * (0x5010 + (s)) + 104
/-! Table 11-9 STB_STAT -/
abbrev STB_STAT_RUN : Nat := 1024 * 0x5800 + 0
abbrev STB_STAT_FAULTED : Nat := 1024 * 0x5800 + 16
abbrev STB_STAT_SKIPQ : Nat := 1024 * 0x5800 + 32
abbrev STB_STAT_OFF : Nat := 1024 * 0x5800 + 34
abbrev STB_STAT_BADREC : Nat := 1024 * 0x5800 + 48
/-! STB_STALL STB_STALL -/
abbrev STB_STALL_AVAIL (s : Nat) : Nat := 1024 * (0x5804 + (s)) + 0
abbrev STB_STALL_COMMIT (s : Nat) : Nat := 1024 * (0x5804 + (s)) + 18
abbrev STB_STALL_LAST (s : Nat) : Nat := 1024 * (0x5804 + (s)) + 36
abbrev STB_STALL_TCOUNT (s : Nat) : Nat := 1024 * (0x5804 + (s)) + 54
/-! Table 11-10 STB_TASK -/
abbrev STB_TASK_STATE (s c : Nat) : Nat := 1024 * (0x5810 + (4 * s + c)) + 0
abbrev STB_TASK_WHY (s c : Nat) : Nat := 1024 * (0x5810 + (4 * s + c)) + 3
abbrev STB_TASK_PC (s c : Nat) : Nat := 1024 * (0x5810 + (4 * s + c)) + 8
abbrev STB_TASK_KIND (s c : Nat) : Nat := 1024 * (0x5810 + (4 * s + c)) + 20
abbrev STB_TASK_RATE (s c : Nat) : Nat := 1024 * (0x5810 + (4 * s + c)) + 32
abbrev STB_TASK_PHASE (s c : Nat) : Nat := 1024 * (0x5810 + (4 * s + c)) + 48
abbrev STB_TASK_C_BASE (s c : Nat) : Nat := 1024 * (0x5810 + (4 * s + c)) + 64
abbrev STB_TASK_C_BOUND (s c : Nat) : Nat := 1024 * (0x5810 + (4 * s + c)) + 80
abbrev STB_TASK_W_BASE (s c : Nat) : Nat := 1024 * (0x5810 + (4 * s + c)) + 96
abbrev STB_TASK_W_BOUND (s c : Nat) : Nat := 1024 * (0x5810 + (4 * s + c)) + 112
abbrev STB_TASK_A_BASE (s c : Nat) : Nat := 1024 * (0x5810 + (4 * s + c)) + 128
abbrev STB_TASK_A_BOUND (s c : Nat) : Nat := 1024 * (0x5810 + (4 * s + c)) + 144
abbrev STB_TASK_P_BASE (s c : Nat) : Nat := 1024 * (0x5810 + (4 * s + c)) + 160
abbrev STB_TASK_P_BOUND (s c : Nat) : Nat := 1024 * (0x5810 + (4 * s + c)) + 176
abbrev STB_TASK_BUDGET (s c : Nat) : Nat := 1024 * (0x5810 + (4 * s + c)) + 192
abbrev STB_TASK_TILES (s c : Nat) : Nat := 1024 * (0x5810 + (4 * s + c)) + 224
abbrev STB_TASK_SKIPPED (s c : Nat) : Nat := 1024 * (0x5810 + (4 * s + c)) + 240
/-! Table 11-11 STB_RING -/
abbrev STB_RING_EN (s r : Nat) : Nat := 1024 * (0x5820 + (16 * s + r)) + 0
abbrev STB_RING_ROLE (s r : Nat) : Nat := 1024 * (0x5820 + (16 * s + r)) + 1
abbrev STB_RING_SRC (s r : Nat) : Nat := 1024 * (0x5820 + (16 * s + r)) + 3
abbrev STB_RING_DEV (s r : Nat) : Nat := 1024 * (0x5820 + (16 * s + r)) + 6
abbrev STB_RING_IN_SHIFT (s r : Nat) : Nat := 1024 * (0x5820 + (16 * s + r)) + 10
abbrev STB_RING_RKIND (s r : Nat) : Nat := 1024 * (0x5820 + (16 * s + r)) + 13
abbrev STB_RING_ZBASE (s r : Nat) : Nat := 1024 * (0x5820 + (16 * s + r)) + 15
abbrev STB_RING_ZCOUNT (s r : Nat) : Nat := 1024 * (0x5820 + (16 * s + r)) + 21
abbrev STB_RING_LSCALE (s r : Nat) : Nat := 1024 * (0x5820 + (16 * s + r)) + 24
abbrev STB_RING_BASE (s r : Nat) : Nat := 1024 * (0x5820 + (16 * s + r)) + 32
abbrev STB_RING_SIZE (s r : Nat) : Nat := 1024 * (0x5820 + (16 * s + r)) + 48
abbrev STB_RING_HEAD (s r : Nat) : Nat := 1024 * (0x5820 + (16 * s + r)) + 64
abbrev STB_RING_TAIL (s r : Nat) : Nat := 1024 * (0x5820 + (16 * s + r)) + 80
abbrev STB_RING_FILL (s r : Nat) : Nat := 1024 * (0x5820 + (16 * s + r)) + 96
abbrev STB_RING_DROPPED (s r : Nat) : Nat := 1024 * (0x5820 + (16 * s + r)) + 112
/-! Table 12-6 STB_SP_STAT -/
abbrev STB_SP_STAT_CREDIT_FAULT : Nat := 1024 * 0x5880 + 0
abbrev STB_SP_STAT_HAZARD : Nat := 1024 * 0x5880 + 4
abbrev STB_SP_STAT_PARITY : Nat := 1024 * 0x5880 + 8
abbrev STB_SP_STAT_POISON : Nat := 1024 * 0x5880 + 12
abbrev STB_SP_STAT_AUDIT : Nat := 1024 * 0x5880 + 16
/-! Table 12-7 STB_CACHE -/
abbrev STB_CACHE_EN : Nat := 1024 * 0x5881 + 0
abbrev STB_CACHE_ACTIVE : Nat := 1024 * 0x5881 + 4
abbrev STB_CACHE_PEND : Nat := 1024 * 0x5881 + 8
abbrev STB_CACHE_HITS : Nat := 1024 * 0x5881 + 16
abbrev STB_CACHE_MISSES : Nat := 1024 * 0x5881 + 32
abbrev STB_CACHE_PAR : Nat := 1024 * 0x5881 + 48
/-! Table 12-8 STB_AUDIT -/
abbrev STB_AUDIT_EN : Nat := 1024 * 0x5882 + 0
abbrev STB_AUDIT_HAZARDS : Nat := 1024 * 0x5882 + 16
/-! Table 12-9 STB_SP -/
abbrev STB_SP_CORR (s : Nat) : Nat := 1024 * (0x5884 + (s)) + 0
abbrev STB_SP_DOUBLE (s : Nat) : Nat := 1024 * (0x5884 + (s)) + 16
abbrev STB_SP_CRC_ERR (s : Nat) : Nat := 1024 * (0x5884 + (s)) + 32
abbrev STB_SP_PAR (s : Nat) : Nat := 1024 * (0x5884 + (s)) + 48
abbrev STB_SP_SPARES (s : Nat) : Nat := 1024 * (0x5884 + (s)) + 64
abbrev STB_SP_POISONED (s : Nat) : Nat := 1024 * (0x5884 + (s)) + 88
abbrev STB_SP_PASSES (s : Nat) : Nat := 1024 * (0x5884 + (s)) + 96
/-! Table 12-10 STB_HAZ -/
abbrev STB_HAZ_VALID (s : Nat) : Nat := 1024 * (0x5888 + (s)) + 0
abbrev STB_HAZ_KIND (s : Nat) : Nat := 1024 * (0x5888 + (s)) + 1
abbrev STB_HAZ_SPACE (s : Nat) : Nat := 1024 * (0x5888 + (s)) + 2
abbrev STB_HAZ_CTX (s : Nat) : Nat := 1024 * (0x5888 + (s)) + 4
abbrev STB_HAZ_PC (s : Nat) : Nat := 1024 * (0x5888 + (s)) + 8
abbrev STB_HAZ_GEN (s : Nat) : Nat := 1024 * (0x5888 + (s)) + 20
abbrev STB_HAZ_UNIT (s : Nat) : Nat := 1024 * (0x5888 + (s)) + 32
/-! Table 12-11 STB_CRED -/
abbrev STB_CRED_UP (s i : Nat) : Nat := 1024 * (0x5890 + (s)) + (0 + 16 * i)
abbrev STB_CRED_DOWN (s i : Nat) : Nat := 1024 * (0x5890 + (s)) + (256 + 16 * i)
/-! Table 13-8 DSP_STAT -/
abbrev DSP_STAT_STATE : Nat := 1024 * 0x6000 + 0
abbrev DSP_STAT_LANTERN : Nat := 1024 * 0x6000 + 3
abbrev DSP_STAT_PRES_PEND : Nat := 1024 * 0x6000 + 4
abbrev DSP_STAT_VSRC_OK : Nat := 1024 * 0x6000 + 5
abbrev DSP_STAT_VGH_PG : Nat := 1024 * 0x6000 + 6
abbrev DSP_STAT_VGL_PG : Nat := 1024 * 0x6000 + 7
abbrev DSP_STAT_RATE_ACT : Nat := 1024 * 0x6000 + 8
abbrev DSP_STAT_WHY : Nat := 1024 * 0x6000 + 12
abbrev DSP_STAT_FRAMES : Nat := 1024 * 0x6000 + 16
abbrev DSP_STAT_REPEATS : Nat := 1024 * 0x6000 + 32
abbrev DSP_STAT_PAR : Nat := 1024 * 0x6000 + 48
/-! Table 13-9 DSP_CFG -/
abbrev DSP_CFG_POL_MODE : Nat := 1024 * 0x6001 + 0
abbrev DSP_CFG_OD_EN : Nat := 1024 * 0x6001 + 2
abbrev DSP_CFG_H_FLIP : Nat := 1024 * 0x6001 + 3
abbrev DSP_CFG_V_FLIP : Nat := 1024 * 0x6001 + 4
abbrev DSP_CFG_BGR : Nat := 1024 * 0x6001 + 5
abbrev DSP_CFG_RATE : Nat := 1024 * 0x6001 + 6
abbrev DSP_CFG_DIS_LEVEL : Nat := 1024 * 0x6001 + 16
abbrev DSP_CFG_BG_LEVEL : Nat := 1024 * 0x6001 + 24
abbrev DSP_CFG_VCOM : Nat := 1024 * 0x6001 + 32
abbrev DSP_CFG_DIS_T : Nat := 1024 * 0x6001 + 48
/-! Table 13-10 DSP_LW -/
abbrev DSP_LW_YT : Nat := 1024 * 0x6002 + 0
abbrev DSP_LW_HT : Nat := 1024 * 0x6002 + 4
abbrev DSP_LW_XT : Nat := 1024 * 0x6002 + 8
abbrev DSP_LW_WT : Nat := 1024 * 0x6002 + 13
abbrev DSP_LW_LO_R : Nat := 1024 * 0x6002 + 32
abbrev DSP_LW_LO_G : Nat := 1024 * 0x6002 + 40
abbrev DSP_LW_LO_B : Nat := 1024 * 0x6002 + 48
abbrev DSP_LW_HI_R : Nat := 1024 * 0x6002 + 56
abbrev DSP_LW_HI_G : Nat := 1024 * 0x6002 + 64
abbrev DSP_LW_HI_B : Nat := 1024 * 0x6002 + 72
/-! Table 13-11 DSP_OD -/
abbrev DSP_OD_E (i : Nat) : Nat := 1024 * 0x6003 + (0 + 8 * i)
/-! Table 13-11 DSP_GAMMA_POS -/
abbrev DSP_GAMMA_POS_GV (i : Nat) : Nat := 1024 * 0x6004 + (0 + 8 * i)
/-! Table 13-11 DSP_GAMMA_NEG -/
abbrev DSP_GAMMA_NEG_GV (i : Nat) : Nat := 1024 * 0x6005 + (0 + 8 * i)
/-! Table 13-12 DSP_DC -/
abbrev DSP_DC_DC_LIM : Nat := 1024 * 0x6006 + 0
abbrev DSP_DC_TRIPS : Nat := 1024 * 0x6006 + 32
abbrev DSP_DC_LAST_TILE : Nat := 1024 * 0x6006 + 48
/-! Table 13-13 DSP_TILE_IDX -/
abbrev DSP_TILE_IDX_INDEX : Nat := 1024 * 0x6007 + 0
/-! Table 13-13 DSP_TILE -/
abbrev DSP_TILE_ACC : Nat := 1024 * 0x6008 + 0
abbrev DSP_TILE_H : Nat := 1024 * 0x6008 + 32
abbrev DSP_TILE_TRIP : Nat := 1024 * 0x6008 + 52
/-! Table 14-4 SEG_STAT -/
abbrev SEG_STAT_RUN : Nat := 1024 * 0x6400 + 0
abbrev SEG_STAT_SWAP_PEND : Nat := 1024 * 0x6400 + 1
abbrev SEG_STAT_ALT : Nat := 1024 * 0x6400 + 2
abbrev SEG_STAT_VLCD_LOW : Nat := 1024 * 0x6400 + 3
abbrev SEG_STAT_STOPPED_LOSS : Nat := 1024 * 0x6400 + 4
abbrev SEG_STAT_SWAPS : Nat := 1024 * 0x6400 + 16
/-! Table 14-5 SEG_CFG -/
abbrev SEG_CFG_EN : Nat := 1024 * 0x6401 + 0
abbrev SEG_CFG_STBY : Nat := 1024 * 0x6401 + 1
abbrev SEG_CFG_ALT_EN : Nat := 1024 * 0x6401 + 2
abbrev SEG_CFG_VLCD : Nat := 1024 * 0x6401 + 8
abbrev SEG_CFG_LOSS_T : Nat := 1024 * 0x6401 + 16
/-! Table 14-6 SEG_PAT -/
abbrev SEG_PAT_SEG (i : Nat) : Nat := 1024 * 0x6402 + (0 + 8 * i)
/-! Table 14-6 SEG_BACK -/
abbrev SEG_BACK_SEG (i : Nat) : Nat := 1024 * 0x6403 + (0 + 8 * i)
/-! Table 14-6 SEG_ALT -/
abbrev SEG_ALT_SEG (i : Nat) : Nat := 1024 * 0x6404 + (0 + 8 * i)
/-! Table 15-7 THM_STAT -/
abbrev THM_STAT_HOT : Nat := 1024 * 0x3800 + 0
abbrev THM_STAT_HOT_IDX : Nat := 1024 * 0x3800 + 12
abbrev THM_STAT_VALID : Nat := 1024 * 0x3800 + 15
abbrev THM_STAT_RINGS : Nat := 1024 * 0x3800 + 16
abbrev THM_STAT_LEVEL : Nat := 1024 * 0x3800 + 24
abbrev THM_STAT_TARGET : Nat := 1024 * 0x3800 + 26
abbrev THM_STAT_FLOOR : Nat := 1024 * 0x3800 + 28
abbrev THM_STAT_ACT : Nat := 1024 * 0x3800 + 30
abbrev THM_STAT_ALARM : Nat := 1024 * 0x3800 + 31
abbrev THM_STAT_DELTA : Nat := 1024 * 0x3800 + 32
abbrev THM_STAT_STOPPING : Nat := 1024 * 0x3800 + 44
abbrev THM_STAT_HAY_INH : Nat := 1024 * 0x3800 + 45
abbrev THM_STAT_CHG_INH : Nat := 1024 * 0x3800 + 46
abbrev THM_STAT_GRACE : Nat := 1024 * 0x3800 + 48
abbrev THM_STAT_STREAK : Nat := 1024 * 0x3800 + 52
/-! Table 15-8 THM_SENS -/
abbrev THM_SENS_T (i : Nat) : Nat := 1024 * 0x3801 + (0 + 16 * i)
/-! Table 15-9 THM_PEAK -/
abbrev THM_PEAK_PEAK : Nat := 1024 * 0x3802 + 0
abbrev THM_PEAK_VALID : Nat := 1024 * 0x3802 + 12
abbrev THM_PEAK_STAGE : Nat := 1024 * 0x3802 + 16
/-! Table 15-10 THM_LAST -/
abbrev THM_LAST_PEND : Nat := 1024 * 0x3803 + 0
abbrev THM_LAST_CUT : Nat := 1024 * 0x3803 + 1
abbrev THM_LAST_LEVEL : Nat := 1024 * 0x3803 + 2
abbrev THM_LAST_DIE : Nat := 1024 * 0x3803 + 16
abbrev THM_LAST_STAGE : Nat := 1024 * 0x3803 + 32
/-! Table 16-11 SEC_STAT -/
abbrev SEC_STAT_LIFECYCLE : Nat := 1024 * 0x6800 + 0
abbrev SEC_STAT_CERT : Nat := 1024 * 0x6800 + 2
abbrev SEC_STAT_DBG_UNLOCKED : Nat := 1024 * 0x6800 + 3
abbrev SEC_STAT_DBG_SCOPE : Nat := 1024 * 0x6800 + 4
abbrev SEC_STAT_WP_LOW : Nat := 1024 * 0x6800 + 7
abbrev SEC_STAT_AUDIT : Nat := 1024 * 0x6800 + 8
abbrev SEC_STAT_PATCH_OK : Nat := 1024 * 0x6800 + 9
abbrev SEC_STAT_ENT_FAIL : Nat := 1024 * 0x6800 + 10
abbrev SEC_STAT_TRIAL : Nat := 1024 * 0x6800 + 11
abbrev SEC_STAT_PAIR_WIN : Nat := 1024 * 0x6800 + 12
abbrev SEC_STAT_CMDSEQ : Nat := 1024 * 0x6800 + 32
/-! Table 16-12 SEC_BOOT -/
abbrev SEC_BOOT_PATCH : Nat := 1024 * 0x6801 + 0
abbrev SEC_BOOT_BANK : Nat := 1024 * 0x6801 + 1
abbrev SEC_BOOT_RESULT : Nat := 1024 * 0x6801 + 2
abbrev SEC_BOOT_SVN : Nat := 1024 * 0x6801 + 8
abbrev SEC_BOOT_MIN_SVN : Nat := 1024 * 0x6801 + 16
abbrev SEC_BOOT_ROM_BUILD : Nat := 1024 * 0x6801 + 32
abbrev SEC_BOOT_DIGEST : Nat := 1024 * 0x6801 + 64
/-! Table 16-13 SEC_DEV -/
abbrev SEC_DEV_SERIAL : Nat := 1024 * 0x6802 + 0
abbrev SEC_DEV_IDPUB : Nat := 1024 * 0x6802 + 64
/-! Table 16-14 SEC_UPD -/
abbrev SEC_UPD_STATE : Nat := 1024 * 0x6803 + 0
abbrev SEC_UPD_CHAN : Nat := 1024 * 0x6803 + 2
abbrev SEC_UPD_TRIAL_LEFT : Nat := 1024 * 0x6803 + 16
abbrev SEC_UPD_RECEIVED : Nat := 1024 * 0x6803 + 32
/-! Table 16-15 SEC_SLOT -/
abbrev SEC_SLOT_KIND (s : Nat) : Nat := 1024 * (0x6810 + (s)) + 0
abbrev SEC_SLOT_USE (s : Nat) : Nat := 1024 * (0x6810 + (s)) + 8
abbrev SEC_SLOT_GEN (s : Nat) : Nat := 1024 * (0x6810 + (s)) + 16
/-! Table 17-8 FLT_STAT -/
abbrev FLT_STAT_LEVEL : Nat := 1024 * 0x7000 + 0
abbrev FLT_STAT_PLANT : Nat := 1024 * 0x7000 + 2
abbrev FLT_STAT_LIMP_CORE : Nat := 1024 * 0x7000 + 3
abbrev FLT_STAT_PEND : Nat := 1024 * 0x7000 + 4
abbrev FLT_STAT_INHAND : Nat := 1024 * 0x7000 + 9
abbrev FLT_STAT_RECOV : Nat := 1024 * 0x7000 + 13
abbrev FLT_STAT_LOST : Nat := 1024 * 0x7000 + 32
abbrev FLT_STAT_HANDLED : Nat := 1024 * 0x7000 + 48
/-! Table 17-9 FLT_CFG -/
abbrev FLT_CFG_AUTO : Nat := 1024 * 0x7001 + 0
abbrev FLT_CFG_DEG_MAX : Nat := 1024 * 0x7001 + 8
abbrev FLT_CFG_LIMP_HOLD : Nat := 1024 * 0x7001 + 16
/-! Table 17-10 FLT_FIRST -/
abbrev FLT_FIRST_RECORD : Nat := 1024 * 0x7002 + 0
abbrev FLT_FIRST_VALID : Nat := 1024 * 0x7002 + 96
/-! Table 17-10 FLT_HIGH -/
abbrev FLT_HIGH_RECORD : Nat := 1024 * 0x7003 + 0
abbrev FLT_HIGH_VALID : Nat := 1024 * 0x7003 + 96
/-! Table 17-11 FLT_LAST -/
abbrev FLT_LAST_PEND : Nat := 1024 * 0x7004 + 0
abbrev FLT_LAST_CORE : Nat := 1024 * 0x7004 + 1
abbrev FLT_LAST_CORE_VALID : Nat := 1024 * 0x7004 + 2
abbrev FLT_LAST_DISCARDED : Nat := 1024 * 0x7004 + 3
abbrev FLT_LAST_STREAK : Nat := 1024 * 0x7004 + 8
abbrev FLT_LAST_LIMP_CORE : Nat := 1024 * 0x7004 + 10
abbrev FLT_LAST_LIMP_OWED : Nat := 1024 * 0x7004 + 11
abbrev FLT_LAST_RECORD : Nat := 1024 * 0x7004 + 32
/-! Table 17-12 FLT_CTL -/
abbrev FLT_CTL_CLR_LATCH : Nat := 1024 * 0x7005 + 0
abbrev FLT_CTL_LIMP_ENTER : Nat := 1024 * 0x7005 + 1
abbrev FLT_CTL_LIMP_EXIT : Nat := 1024 * 0x7005 + 2
/-! Table 17-13 FLT_UNIT -/
abbrev FLT_UNIT_COUNT (i : Nat) : Nat := 1024 * 0x7006 + (0 + 8 * i)
abbrev FLT_UNIT_RESETS (i : Nat) : Nat := 1024 * 0x7006 + (4 + 8 * i)

end Sys2Proof.Machine.R
end

