-- ==== Sys2Proof/Machine/Operands.lean ====
section
/-!
DEFINITION. Sys2Proof/Machine/Operands.lean: sparse maps, byte strings, bit fields and the number conversions that operand
forms share (R2, R3, R6, R7, 00_scope.md).
-/

namespace Sys2Proof.Machine

/-! ### Sparse maps: indexes strictly rising, no entry equal to the default -/

/-- The value at an index, if the index is listed. -/
def mget? {β : Type} (m : Map β) (k : Nat) : Option β :=
  match m with
  | [] => none
  | (i, v) :: rest => if i == k then some v else mget? rest k

/-- The value at an index; the default where the index is not listed. -/
def mget {β : Type} (d : β) (m : Map β) (k : Nat) : β := (mget? m k).getD d

/-- Remove an index. -/
def mdel {β : Type} (m : Map β) (k : Nat) : Map β := m.filter fun e => e.1 != k

/-- List a value at an index, keeping the indexes in rising order. -/
def mins {β : Type} (m : Map β) (k : Nat) (v : β) : Map β :=
  match m with
  | [] => [(k, v)]
  | (i, w) :: rest =>
    if k < i then (k, v) :: (i, w) :: rest
    else if k == i then (k, v) :: rest
    else (i, w) :: mins rest k v

/-- Write a value at an index: the default is not listed. -/
def mput {β : Type} [DecidableEq β] (d : β) (m : Map β) (k : Nat) (v : β) : Map β :=
  if v = d then mdel m k else mins m k v

/-- Whether every index listed is above a bound, the indexes rise, and no entry is the default. -/
def mwf {β : Type} [DecidableEq β] (d : β) (m : Map β) : Bool :=
  match m with
  | [] => true
  | (i, v) :: rest => decide (v ≠ d) && (rest.all fun e => decide (i < e.1)) && mwf d rest

/-- Update the value at an index. -/
def mmod {β : Type} [DecidableEq β] (d : β) (m : Map β) (k : Nat) (f : β → β) : Map β := mput d m k (f (mget d m k))

/-! ### Bits and numbers -/

/-- Bit i of a number. -/
def bit (v i : Nat) : Bool := v.testBit i

/-- A truth value as a number. -/
def b2n (b : Bool) : Nat := if b then 1 else 0

/-- Bits [lo + w - 1 : lo] of a number. -/
def bits (v lo w : Nat) : Nat := (v >>> lo) % 2 ^ w

/-- A number with bit i set or cleared. -/
def setBit (v i : Nat) (b : Bool) : Nat := if b then v ||| (1 <<< i) else if v.testBit i then v - (1 <<< i) else v

/-- The lowest n bits of which a predicate holds, as a mask. -/
def maskOf (n : Nat) (p : Nat → Bool) : Nat := (List.range n).foldl (fun m i => if p i then m + 2 ^ i else m) 0

/-- A w-bit number read as two's complement (R2). -/
def signed (w v : Nat) : Int := if v % 2 ^ w < 2 ^ (w - 1) then (v % 2 ^ w : Nat) else ((v % 2 ^ w : Nat) : Int) - 2 ^ w

/-- An integer in w bits of two's complement. -/
def unsigned (w : Nat) (v : Int) : Nat := (v % (2 ^ w : Nat)).toNat

/-- Floor division of an integer by a positive number. -/
def fdiv (a : Int) (b : Nat) : Int := Int.fdiv a b

/-- The nearest integer to a / b, halves upward (R3). -/
def roundDiv (a : Int) (b : Nat) : Int := Int.fdiv (2 * a + b) (2 * b)

/-- Saturation to lo .. hi (R3). -/
def clamp (lo hi v : Int) : Int := if v < lo then lo else if hi < v then hi else v

/-- Saturation to a 12-bit code (R3). -/
def code12 (v : Int) : Nat := (clamp 0 0xFFF v).toNat

/-- A count that saturates. -/
def satAdd (top v n : Nat) : Nat := min top (v + n)

/-! ### Byte strings, little-endian (R6) -/

/-- The n-byte little-endian form of a number. -/
def le (n v : Nat) : Bytes :=
  match n with
  | 0 => []
  | n + 1 => BitVec.ofNat 8 v :: le n (v / 256)

/-- The n-byte big-endian form of a number. -/
def be (n v : Nat) : Bytes := (le n v).reverse

/-- The number a little-endian byte string stands for. -/
def ofLe (b : Bytes) : Nat :=
  match b with
  | [] => 0
  | x :: rest => x.toNat + 256 * ofLe rest

/-- The number a big-endian byte string stands for. -/
def ofBe (b : Bytes) : Nat := ofLe b.reverse

/-- n bytes from an offset. -/
def sub (b : Bytes) (off n : Nat) : Bytes := (b.drop off).take n

/-- The byte at an offset (0 beyond the end). -/
def u8 (b : Bytes) (off : Nat) : Nat := ofLe (sub b off 1)

/-- Two bytes at an offset. -/
def u16 (b : Bytes) (off : Nat) : Nat := ofLe (sub b off 2)

/-- Four bytes at an offset. -/
def u32 (b : Bytes) (off : Nat) : Nat := ofLe (sub b off 4)

/-- A byte string filled up with a byte to a length. -/
def padTo (n : Nat) (x : Byte) (b : Bytes) : Bytes := (b ++ List.replicate (n - b.length) x).take n

/-- Replace the bytes at an offset. -/
def splice (b : Bytes) (off : Nat) (x : Bytes) : Bytes := b.take off ++ x ++ b.drop (off + x.length)

/-! ### Byte memories -/

/-- The byte at an address; `d` where the address is not listed. -/
def cellGet (d : Byte) (m : List Host.Cell) (a : Nat) : Byte := mget d m a

/-- n bytes from an address. -/
def cellsGet (d : Byte) (m : List Host.Cell) (a n : Nat) : Bytes := (List.range n).map fun i => cellGet d m (a + i)

/-- Write bytes from an address. -/
def cellsPut (d : Byte) (m : List Host.Cell) (a : Nat) (b : Bytes) : List Host.Cell :=
  match b with
  | [] => m
  | x :: rest => cellsPut d (mput d m a x) (a + 1) rest

end Sys2Proof.Machine
end

