-- ==== Sys2Proof/Machine/Flags.lean ====
section
/-!
DEFINITION. Sys2Proof/Machine/Flags.lean: the check values the spec defines bit by bit, and the frame they guard.
-/

namespace Sys2Proof.Machine

/-- One bit step of a CRC that shifts left, of width w (R69, R200). -/
def crcLeftStep (w poly c : Nat) : Nat :=
  if c.testBit (w - 1) then ((c <<< 1) ^^^ poly) % 2 ^ w else (c <<< 1) % 2 ^ w

/-- One bit step of a CRC that shifts right, with the reflected polynomial (R232, R248). -/
def crcRightStep (poly c : Nat) : Nat := if c.testBit 0 then (c >>> 1) ^^^ poly else c >>> 1

/-- Apply a step n times. -/
def times {α : Type} (n : Nat) (f : α → α) (x : α) : α :=
  match n with
  | 0 => x
  | n + 1 => times n f (f x)

/-- CRC-16/CCITT as R69 (03_spoke_packets.md) spells it out. -/
def crc16 (b : Bytes) : Nat :=
  b.foldl (fun c x => times 8 (crcLeftStep 16 0x1021) (c ^^^ (x.toNat <<< 8))) 0xFFFF

/-- CRC-32 with the parameters of R232 (08_paddock.md). -/
def crc32 (b : Bytes) : Nat :=
  (b.foldl (fun c x => times 8 (crcRightStep 0xEDB88320) (c ^^^ x.toNat)) 0xFFFFFFFF) ^^^ 0xFFFFFFFF

/-- CRC-16/MODBUS (09_bus_golposen.md, "Modbus RTU"). -/
def crcModbus (b : Bytes) : Nat :=
  b.foldl (fun c x => times 8 (crcRightStep 0xA001) (c ^^^ x.toNat)) 0xFFFF

/-- CRC-8 of HT words (R200, 07_adc_sensing.md). -/
def crc8 (b : Bytes) : Nat :=
  b.foldl (fun c x => times 8 (crcLeftStep 8 0x31) (c ^^^ x.toNat)) 0xFF

/-- The 6 header bytes of a frame (R68, Table 3-3). -/
def headerOf (auth : Bool) (ch tag opcode len : Nat) : Bytes :=
  le 1 (1 + 16 * b2n auth) ++ le 1 ch ++ le 1 tag ++ le 1 opcode ++ le 2 len

/-- The AUTHTAG of R70: 8 bytes of the AES-CMAC over counter, header and payload. -/
def authTag (key : Bytes) (counter : Nat) (header payload : Bytes) : Bytes :=
  (Config.cmac key (le 4 counter ++ header ++ payload)).take 8

/-- A frame as it stands on a transport (Table 3-2). -/
def frameBytes (ch : Nat) (p : Pkt) : Bytes :=
  let h := headerOf (!p.auth.isEmpty) ch p.tag p.opcode p.payload.length
  le 1 0x5A ++ h ++ p.payload ++ p.auth ++ be 2 (crc16 (h ++ p.payload))

end Sys2Proof.Machine
end

