-- ==== Sys2Proof/Machine/Ops.lean ====
section
/-!
DEFINITION. Sys2Proof/Machine/Ops.lean: the operations every family shares: time, attribute fields, free values, Spoke
replies and events, faults, log records, and the certified configuration.
-/

namespace Sys2Proof.Machine

/-! ### Time (R14, Table 1-10, 01_cadence.md) -/

/-- Slot within the tick. -/
def State.slot (s : State) : Nat := s.cad.now % 32

/-- Ticks counted since power-on reset. -/
def State.ticks (s : State) : Nat := s.cad.now / 32

/-- Tick within the lap. -/
def State.tick (s : State) : Nat := s.cad.now / 32 % 16

/-- Lap within the stage. -/
def State.lap (s : State) : Nat := s.cad.now / 512 % 64

/-- Stages since power-on reset (CAD_NOW.STAGE shows them modulo 2^32). -/
def State.stage (s : State) : Nat := s.cad.now / 32768

/-- LAP * 16 + TICK (Table 10-7, Table 17-2). -/
def State.tpos (s : State) : Nat := s.cad.now / 32 % 1024

/-! ### Attribute fields -/

/-- The value of a field. -/
def State.rd (s : State) (r : Nat) : Nat := (mget? s.regs r).getD (resetOf r)

/-- A one-bit field. -/
def State.on (s : State) (r : Nat) : Bool := s.rd r == 1

/-- Set a field. -/
def State.wr (s : State) (r v : Nat) : State := { s with regs := mput (resetOf r) s.regs r v }

/-- Set a one-bit field. -/
def State.wrB (s : State) (r : Nat) (b : Bool) : State := s.wr r (b2n b)

/-- Set several fields. -/
def State.wrs (s : State) (l : List (Nat × Nat)) : State := l.foldl (fun s e => s.wr e.1 e.2) s

/-- Add to a count that saturates. -/
def State.count (s : State) (r top n : Nat) : State := s.wr r (satAdd top (s.rd r) n)

/-- Add to a count that wraps. -/
def State.wrap (s : State) (r modulus n : Nat) : State := s.wr r ((s.rd r + n) % modulus)

/-- Do a thing when a condition holds. -/
def State.when (s : State) (c : Bool) (f : State → State) : State := if c then f s else s

/-- Do a thing for each element, in order. -/
def State.each {α : Type} (s : State) (l : List α) (f : State → α → State) : State := l.foldl f s

/-- Draw a free value of w bits: nothing constrains it (log entry 3). -/
def State.draw (s : State) (w : Nat) : Nat × State := ((Config.freeBits s.free w).toNat, { s with free := s.free + 1 })

/-- The value of an attribute made of its stored fields. -/
def State.attrRaw (s : State) (id : Nat) : Nat :=
  match attrOf id with
  | none => 0
  | some a => a.fields.foldl (fun n d => n + s.rd (regKey id d.lo) % 2 ^ d.width * 2 ^ d.lo) 0

/-- The size of an attribute in bytes. -/
def attrSize (id : Nat) : Nat := ((attrOf id).map (·.size)).getD 0

/-- The byte image of attributes, in order (R268, 10_hayloft.md). -/
def State.attrImage (s : State) (ids : List Nat) : Bytes := ids.flatMap fun id => le (attrSize id) (s.attrRaw id)

/-- Return every field of an attribute to its Reset value. -/
def State.clearAttr (s : State) (id : Nat) : State := { s with regs := s.regs.filter fun e => e.1 / 1024 != id }

/-- Take the RW fields of one attribute from a value. -/
def State.setRw (s : State) (id v : Nat) : State :=
  match attrOf id with
  | none => s
  | some a => s.each (a.fields.filter fun d => decide (d.access = .rw)) fun s d => s.wr (regKey id d.lo) (bits v d.lo d.width)

/-- Take the RW fields of attributes from their byte image (R268). -/
def State.setImage (s : State) (ids : List Nat) (b : Bytes) : State :=
  (ids.foldl (fun (a : State × Bytes) id =>
    (a.1.setRw id (ofLe (a.2.take (attrSize id))), a.2.drop (attrSize id))) (s, b)).1

/-! ### Converter inputs (R190, 07_adc_sensing.md) -/

/-- AGE of an input in ticks, 255 at most. -/
def State.ainAge (s : State) (n : Nat) : Nat :=
  match (mget {} s.adc.ages n).at_ with
  | none => 255
  | some t => min 255 (s.ticks - t)

/-- STALE of an input: AGE of 2 or more, or a lost sequence. -/
def State.ainStale (s : State) (n : Nat) : Bool := decide (2 ≤ s.ainAge n) || (mget {} s.adc.ages n).lost

/-- Limp mode (FLT_STAT.LEVEL, Table 17-6). -/
def State.limp (s : State) : Bool := s.rd R.FLT_STAT_LEVEL == 1

/-! ### Channels (R63, R70, R77, R86, R87, 03_spoke_packets.md) -/

/-- Channel c. -/
def State.chan (s : State) (c : Nat) : Channel := mget {} s.spoke.chans c

/-- Update channel c. -/
def State.modChan (s : State) (c : Nat) (f : Channel → Channel) : State :=
  { s with spoke.chans := mmod {} s.spoke.chans c f }

/-- Out-queue entries of a kind. -/
def outCount (c : Channel) (k : PktKind) : Nat := (c.outq.filter fun p => decide (p.kind = k)).length

/-- The AUTHTAG of an outgoing packet and the binding after it: one counter value per authenticated frame; the binding
ends as the frame that uses 0xFFFF_FFFF is posted (R70, R71, R413). -/
def tagOut (ch : Nat) (c : Channel) (p : Pkt) : Pkt × Channel :=
  match c.bind with
  | none => (p, c)
  | some b =>
    ({ p with auth := authTag (b.key.drop 16) b.tx (headerOf true ch p.tag p.opcode p.payload.length) p.payload },
     { c with bind := if b.tx ≥ 0xFFFFFFFF then none else some { b with tx := b.tx + 1 } })

/-- Put a packet into a channel's out queue; an AUTH_FAIL reply is never authenticated (R71). -/
def post (ch : Nat) (authenticate : Bool) (p : Pkt) (c : Channel) : Channel :=
  let r := if authenticate then tagOut ch c p else (p, c)
  { r.2 with outq := r.2.outq ++ [r.1] }

/-- The status codes of Table 3-5. -/
def stOk : Nat := 0x00
def stAccepted : Nat := 0x01
def stBusy : Nat := 0x02
def stBadLength : Nat := 0x03
def stBadParam : Nat := 0x04
def stUnknownOpcode : Nat := 0x05
def stTagInUse : Nat := 0x06
def stNotPermitted : Nat := 0x07
def stAuthFail : Nat := 0x08
def stAborted : Nat := 0x09
def stSuperseded : Nat := 0x0A
def stQueueFull : Nat := 0x0B
def stFault : Nat := 0x0C

/-- A packet of the shared part of an out queue: dropped and counted when the 15 shared entries are taken (R87). -/
def postShared (ch : Nat) (authenticate : Bool) (p : Pkt) (c : Channel) : Channel :=
  if outCount c .shared < 15 then post ch authenticate p c else { c with drops := satAdd 0xFFFF c.drops 1 }

/-- A reply carries the opcode of its command with bit 7 set (R9). -/
def replyOpcode (op : Nat) : Nat := op % 128 + 128

/-- A reply to a rejection at admission (R74, R76, R87). -/
def State.reject (s : State) (ch tag op status : Nat) : State :=
  s.modChan ch (postShared ch (decide (status ≠ stAuthFail)) ⟨.shared, tag, replyOpcode op, le 1 status, []⟩)

/-- A command's interim ACCEPTED reply (R80); a command whose session was reset sends none (R105). -/
def State.accepted (s : State) (r : Ref) (extra : Bytes := []) : State :=
  if (s.chan r.ch).epoch = r.epoch then
    s.modChan r.ch (postShared r.ch true ⟨.shared, r.tag, replyOpcode r.op, le 1 stAccepted ++ extra, []⟩)
  else s

/-- Post the final replies that wait, in order, while one of the 16 kept entries is free: each leaves its command's tag
free (R77, R87). What finds no entry is held back (R88). An AUTH_FAIL reply is never authenticated (R71). -/
def postWaits (ch : Nat) (l : List Pkt) (c : Channel) : Channel :=
  match l with
  | [] => { c with waits := [] }
  | p :: rest =>
    if outCount c .final < 16 then
      postWaits ch rest (post ch (decide (u8 p.payload 0 ≠ stAuthFail)) p
        { c with uses := c.uses.filter fun u => u.tag != p.tag })
    else { c with waits := p :: rest }

/-- Commands in use that have not ended: those whose final reply is held back have (R77, R88). -/
def Channel.live (c : Channel) : List Use := c.uses.filter fun u => !(c.waits.any fun p => p.tag == u.tag)

/-- Post a final reply in its kept entry and free the tag (R77, R87), behind the replies held back (R88). -/
def State.postFinal (s : State) (r : Ref) (payload : Bytes) : State :=
  s.modChan r.ch fun c => postWaits r.ch (c.waits ++ [⟨.final, r.tag, replyOpcode r.op, payload, []⟩]) c

/-- Store the result of a command that a recovery has touched: it counts when the unit's reset has not taken effect (R434). -/
def touchResult (r : Ref) (payload : Bytes) (v : Recovery) : Recovery :=
  if v.done then v
  else { v with touched := v.touched.map fun t =>
    if t.cmd = r ∧ t.result = none then { t with result := some payload } else t }

/-- Whether a recovery that has not ended has touched a command (R433). -/
def State.touchedBy (s : State) (r : Ref) : Bool :=
  s.flt.recov.any fun v => v.touched.any fun t => decide (t.cmd = r)

/-- End a command with its final status: exactly one final reply (R80). The reply of a command whose session was reset is
discarded, and the command leaves the hub-wide count (R105); the reply of a touched command waits for the end of the
recovery (R434, R435). -/
def State.finish (s : State) (r : Ref) (status : Nat) (extra : Bytes := []) : State :=
  if (s.chan r.ch).epoch ≠ r.epoch then { s with spoke.orphans := s.spoke.orphans.filter fun o => decide (o ≠ r) }
  else if s.touchedBy r then { s with flt.recov := s.flt.recov.map (touchResult r (le 1 status ++ extra)) }
  else s.postFinal r (le 1 status ++ extra)

/-- `finish` with OK. -/
def State.ok (s : State) (r : Ref) (extra : Bytes := []) : State := s.finish r stOk extra

/-- End a command that may be absent (a request made by firmware has none). -/
def State.finish? (s : State) (r : Option Ref) (status : Nat) (extra : Bytes := []) : State :=
  match r with
  | none => s
  | some r => s.finish r status extra

/-! ### Events (R83, R84, R85, R91) -/

/-- Whether a channel receives an event code (R84). -/
def wants (ch code : Nat) (c : Channel) : Bool := (c.isOpen && bit c.mask code) || (code == 0 && ch == 0)

/-- When space has returned, one EVENTS_LOST reports the events lost, in its kept entry (R85, R87). -/
def lostReport (ch : Nat) (c : Channel) : Channel :=
  match c.lost with
  | none => c
  | some (k, first, last) =>
    if c.isOpen && decide (outCount c .shared < 15) && decide (outCount c .lost = 0) then
      post ch true ⟨.lost, 127, replyOpcode 1, le 2 c.seq ++ le 2 k ++ le 2 first ++ le 2 last, []⟩
        { c with seq := (c.seq + 1) % 65536, lost := none }
    else c

/-- Packets have left an out queue: replies held back, then the lost events, take the space (R85, R88). -/
def refillOut (ch : Nat) (c : Channel) : Channel := lostReport ch (postWaits ch c.waits c)

/-- Raise an event for one channel: it takes the next sequence number, whether it is posted or lost (R83, R85). -/
def raiseOn (ch code : Nat) (payload : Bytes) (c : Channel) : Channel :=
  if wants ch code c then
    let c := lostReport ch c
    let n := c.seq
    let c := { c with seq := (n + 1) % 65536 }
    if outCount c .shared < 15 then
      post ch true ⟨.shared, 127, replyOpcode code, le 2 n ++ payload, []⟩ c
    else { c with
      lostCnt := satAdd 0xFFFF c.lostCnt 1
      lost := match c.lost with
        | none => some (1, n, n)
        | some (k, first, _) => some (satAdd 0xFFFF k 1, first, n) }
  else c

/-- Raise an event on every open, subscribed channel. -/
def State.event (s : State) (code : Nat) (payload : Bytes) : State :=
  s.each (List.range 32) fun s ch => if wants ch code (s.chan ch) then s.modChan ch (raiseOn ch code payload) else s

/-- A note event: KIND, UNIT, DATA of 2 bytes (R182, R207, R241, R296, R370, R382, R399, R462). -/
def State.note (s : State) (code kind unit data : Nat) : State :=
  s.event code (le 1 kind ++ le 1 unit ++ le 2 data)

/-! ### Log records (R284, R285, R287, 10_hayloft.md) -/

/-- The 32-byte record of Table 10-7. -/
def logBytes (seq stage tpos stream kind : Nat) (data : Bytes) : Bytes :=
  let b := le 4 seq ++ le 4 stage ++ le 2 (tpos + 1024 * stream) ++ le 1 kind ++ le 1 data.length ++
    padTo 16 0 data ++ le 2 0
  b ++ be 2 (crc16 b)

/-- Stream n. -/
def State.log (s : State) (n : Nat) : LogStream := mget {} s.hay.logs n

/-- Update stream n. -/
def State.modLog (s : State) (n : Nat) (f : LogStream → LogStream) : State := { s with hay.logs := mmod {} s.hay.logs n f }

/-- A producer makes a record: it takes the next SEQ; with the 63 entries taken it is lost (R285, R287). -/
def State.record (s : State) (stream kind : Nat) (data : Bytes) : State :=
  s.modLog stream fun l =>
    let n := l.next
    let l := { l with next := (n + 1) % 2 ^ 32 }
    if l.queue.length < 63 then
      { l with queue := l.queue ++ [logBytes n (s.stage % 2 ^ 32) s.tpos stream kind data] }
    else { l with lost := match l.lost with
      | none => some (1, n, n)
      | some (k, first, _) => some (k + 1, first, n) }

/-! ### Faults (R424-R427, R429, R500, 17_faults.md) -/

/-- Ranks of Table 17-1. -/
def clNote : Nat := 0
def clDegrade : Nat := 1
def clZone : Nat := 2
def clPlant : Nat := 3

/-- The 96 bits of a fault record (Table 17-2). -/
def faultBits (r : FaultRec) : Nat :=
  r.cls + 2 ^ 8 * r.source + 2 ^ 16 * r.code + 2 ^ 24 * r.unit + 2 ^ 32 * r.data + 2 ^ 48 * r.tpos + 2 ^ 64 * r.stage

/-- The record of a fault that arrives now (R425). -/
def State.faultRec (s : State) (cls source code unit data : Nat) : FaultRec :=
  ⟨cls, source, code % 256, unit % 256, data % 65536, s.tpos, s.stage % 2 ^ 32⟩

/-- The latches at arrival (R426). -/
def State.latchFault (s : State) (r : FaultRec) : State :=
  let s := if s.on R.FLT_FIRST_VALID then s
    else s.wrs [(R.FLT_FIRST_RECORD, faultBits r), (R.FLT_FIRST_VALID, 1)]
  if s.on R.FLT_HIGH_VALID && decide (r.cls ≤ s.rd R.FLT_HIGH_RECORD % 8) then s
  else s.wrs [(R.FLT_HIGH_RECORD, faultBits r), (R.FLT_HIGH_VALID, 1)]

/-- Remove the newest entry of a class. -/
def dropNewest (cls : Nat) (q : List FaultItem) : List FaultItem :=
  (q.reverse.eraseP fun i => i.record.cls == cls).reverse

/-- The lowest class in a queue. -/
def lowestClass (q : List FaultItem) : Nat :=
  match q with
  | [] => 5
  | x :: rest => rest.foldl (fun m i => min m i.record.cls) x.record.cls

/-- Entry into the fault queue, 16 deep (R427). -/
def State.enqueueFault (s : State) (i : FaultItem) : State :=
  let q := s.flt.queue
  if q.length < 16 then { s with flt.queue := q ++ [i] }
  else
    let s := s.count R.FLT_STAT_LOST 0xFFFF 1
    if lowestClass q < i.record.cls then { s with flt.queue := dropNewest (lowestClass q) q ++ [i] } else s

/-- A fault of class NOTE to PLANT arrives; while the controller domain is held no fault is taken (R426, R427, R500). -/
def State.fault (s : State) (cls source code unit data : Nat) (attrib : Nat := 0) : State :=
  if s.pwr.held then s
  else
    let r := s.faultRec cls source code unit data
    (s.latchFault r).enqueueFault ⟨r, attrib⟩

/-- The rank of a reset cause, 0 the highest (Table 2-12, 02_power_reset.md). -/
def causeRank (c : Nat) : Nat := [0x0, 0x7, 0x6, 0x1, 0xA, 0x4, 0x5, 0x2, 0x3, 0x9, 0x8].idxOf c

/-- A fault of class HUB: FLT_LAST is written and a hub reset is due (R429); `cause` is the PWR_CAUSE code. -/
def State.hubFault (s : State) (source code unit data : Nat) (core : Option Nat) (cause : Nat) : State :=
  if s.pwr.held then s
  else
    let r := s.faultRec 4 source code unit data
    let s := s.wrs [(R.FLT_LAST_PEND, 1), (R.FLT_LAST_CORE, core.getD 0), (R.FLT_LAST_CORE_VALID, b2n core.isSome),
      (R.FLT_LAST_DISCARDED, s.flt.queue.length), (R.FLT_LAST_RECORD, faultBits r)]
    let due := match s.flt.hubDue with
      | none => cause
      | some c => if causeRank c ≤ causeRank cause then c else cause
    let edges := if s.flt.hubDue.isSome then s.flt.hubEdges else 2
    { s with flt.hubDue := some due, flt.hubEdges := edges, flt.calm := 0, flt.byFault := true }

/-! ### The certified configuration (R419, Table 16-7, 16_security.md) -/

/-- SEC_NOTE: KIND, UNIT and DATA (R423). -/
def State.secNote (s : State) (kind unit data : Nat) : State := s.event 0x68 (le 1 kind ++ le 1 unit ++ le 4 data)

/-- Every condition of Table 16-7 that the hub can observe; setting STB_AUDIT.EN leaves the configuration at once. -/
def State.certNow (s : State) : Bool :=
  s.rd R.SEC_STAT_LIFECYCLE == 2 && !s.on R.SEC_STAT_DBG_UNLOCKED && !s.on R.SEC_STAT_WP_LOW &&
    s.on R.SEC_STAT_PATCH_OK && !s.on R.SEC_STAT_AUDIT && !s.on R.STB_AUDIT_EN && !s.on R.SEC_STAT_ENT_FAIL

/-- Follow a change of the conditions: SEC_NOTE kind 8, and a DEGRADE fault on leaving (R419, R421). -/
def State.recert (s : State) : State :=
  let c := s.certNow
  if c = s.on R.SEC_STAT_CERT then s
  else
    let s := (s.wrB R.SEC_STAT_CERT c).secNote 8 0 (b2n c + 4 * s.rd R.SEC_STAT_LIFECYCLE)
    if c then s else s.fault clDegrade 0x68 8 0 0

end Sys2Proof.Machine
end

