-- ==== Sys2Proof/Machine/Escrow.lean ====
section
/-!
DEFINITION. Sys2Proof/Machine/Escrow.lean: the reserve gauge and the energy escrow (spec/02_power_reset.md, R48 to R52, R54).
-/

namespace Sys2Proof.Machine

/-- CODE of R48: the lowest of the last four samples. -/
def State.gaugeCode (s : State) : Nat :=
  match s.pwr.samples with
  | [] => 0
  | x :: rest => rest.foldl min x

/-- V of R48 in 1/64 mV. -/
def State.gaugeV64 (s : State) : Nat := s.gaugeCode * 3 * s.rd R.PWR_HOLD_CFG_DIV

/-- The reserve of R48 in units of 10 uJ. -/
def State.reserve (s : State) : Nat :=
  let v := s.gaugeV64
  let f := 64 * s.rd R.PWR_HOLD_CFG_VFLOOR
  if v ≤ f then 0
  else (clamp 0 0xFFFFFF (roundDiv (s.rd R.PWR_HOLD_CFG_CAP * (v * v - f * f) : Nat) 8192000000)).toNat

/-- HELD of R48: the sum of everything escrowed. -/
def State.heldUnits (s : State) : Nat := s.pwr.hold.foldl (fun n r => n + r.cost) 0

/-- The available reserve of R48. -/
def State.avail (s : State) : Nat := s.reserve - s.rd R.PWR_HOLD_CFG_BASE - s.heldUnits

/-- The value of PWR_RESERVE (Table 2-14). -/
def State.reserveBits (s : State) : Nat :=
  (s.rd R.PWR_RESERVE_CODE) + 2 ^ 16 * (clamp 0 0xFFFF (roundDiv s.gaugeV64 64)).toNat + 2 ^ 32 * s.reserve +
    2 ^ 64 * s.avail + 2 ^ 96 * min 0xFFFF s.heldUnits

/-- A sample of HOLD_SNS (R48). -/
def State.gaugeSample (s : State) (code : Nat) : State :=
  { s.wr R.PWR_RESERVE_CODE code with pwr.samples := (code :: s.pwr.samples).take 4 }

/-- The cost of one action of a class (Table 2-6). -/
def State.classCost (s : State) (cls : Nat) : Nat :=
  match cls with
  | 0 => s.rd R.PWR_CLASS_RES_A
  | 1 => s.rd R.PWR_CLASS_COST_B
  | 2 => s.rd R.PWR_CLASS_COST_C
  | _ => s.rd R.PWR_CLASS_COST_D

/-- Whether an action of a class is held. -/
def State.holdsClass (s : State) (cls : Nat) : Bool := s.pwr.hold.any fun r => r.cls == cls

/-- The cost of one action of each higher class that is not already held (R50). -/
def State.higherCost (s : State) (cls : Nat) : Nat :=
  ((List.range cls).map fun c => if s.holdsClass c then 0 else s.classCost c).sum

/-- Whether the gates of R54 let a request be judged: with PFI qualified no class C or D, and of class B only the
power-fail record. In Freewheel-2 GAUGE admits nothing (R498 step 1), and before the first tick nothing (R47). -/
def State.gateOpen (s : State) (r : EscReq) : Bool :=
  !s.pwr.held && s.rd R.PWR_STAT_MODE != 2 &&
    (!s.on R.PWR_STAT_PFI || r.cls == 0 || (match r.kind with | .pfRecord _ => true | _ => false))

/-- Whether GAUGE admits a request now (R50). -/
def State.admits (s : State) (r : EscReq) : Bool :=
  s.gateOpen r && decide (r.cost + s.higherCost r.cls ≤ s.avail)

/-- Judge the waiting requests in order; what is admitted is held at once (R50, R51). -/
def judge (s : State) (queue : List EscReq) : State × List EscReq :=
  match queue with
  | [] => (s, [])
  | r :: rest =>
    if s.admits r then
      let out := judge { s with pwr.hold := s.pwr.hold ++ [r], pwr.wait := s.pwr.wait.erase r } rest
      (out.1, r :: out.2)
    else judge s rest

/-- The waiting requests in class order, and in the order of request within a class (R50). -/
def inClassOrder (l : List EscReq) : List EscReq :=
  (List.range 4).flatMap fun c => l.filter fun r => r.cls == c

/-- One GAUGE decision: the state and the requests admitted (R50, PWR_ESC_STAT). -/
def State.gauge (s : State) : State × List EscReq :=
  let out := judge s (inClassOrder s.pwr.wait)
  let left (c : Nat) : Bool := out.1.pwr.wait.any fun r => r.cls == c
  let s := out.1
  let s := s.when (left 1) fun s => s.count R.PWR_ESC_STAT_WAIT_B 255 1
  let s := s.when (left 2) fun s => s.count R.PWR_ESC_STAT_WAIT_C 255 1
  let s := s.when (left 3) fun s => s.count R.PWR_ESC_STAT_WAIT_D 255 1
  let s := s.when (left 0) fun s => s.wr R.PWR_ESC_STAT_PANEL_BLOCKED 1
  (s, out.2)

/-- Place a request in the wait of R51. -/
def State.escAsk (s : State) (cls cost : Nat) (kind : EscKind) : State :=
  { s with pwr.wait := s.pwr.wait ++ [⟨cls, cost, kind, s.ticks⟩] }

/-- End the hold of an action, or withdraw its request. -/
def State.escEnd (s : State) (kind : EscKind) : State :=
  { s with pwr.hold := s.pwr.hold.filter (fun r => decide (r.kind ≠ kind)),
           pwr.wait := s.pwr.wait.filter (fun r => decide (r.kind ≠ kind)) }

/-- Whether an action is admitted and held. -/
def State.escHolds (s : State) (kind : EscKind) : Bool := s.pwr.hold.any fun r => decide (r.kind = kind)

/-- Whether an action's request waits. -/
def State.escWaits (s : State) (kind : EscKind) : Bool := s.pwr.wait.any fun r => decide (r.kind = kind)

/-- STARVED of R51: a request has waited longer than 1,024 ticks. -/
def State.starved (s : State) : Bool := s.pwr.wait.any fun r => decide (s.ticks > r.since + 1024)

/-- Whether the gates of R54 are closed for a new request of class B, C or D. -/
def State.gatesClosed (s : State) : Bool := s.on R.PWR_STAT_PFI

end Sys2Proof.Machine
end

