-- ==== Sys2Proof/Machine/Hayloft.lean ====
section
/-!
DEFINITION. Sys2Proof/Machine/Hayloft.lean: the non-volatile store itself (spec/10_hayloft.md): pages, stored objects,
odometers, requests, the write engine, the log service and the groomer. The commands are in HayloftCommands.lean.
-/

namespace Sys2Proof.Machine

/-! ### Pages (R267, R269, R278) -/

/-- The content of a page as reads return it: the journal image while the page is held (R279, R281). -/
def State.page (s : State) (p : Nat) : Bytes := (mget? s.hay.held p).getD (cellsGet 0xFF s.hay.mem (64 * p) 64)

/-- The physical end of a page write: the content, with no error left in it; a held image of the page is retired and a
completion owed for it becomes unnecessary (R269, R280). -/
def State.putPage (s : State) (p : Nat) (image : Bytes) : State :=
  { s with
    hay.mem := cellsPut 0xFF s.hay.mem (64 * p) (padTo 64 0xFF image)
    hay.held := mdel s.hay.held p
    hay.owed := s.hay.owed.filter (fun r => decide (r.what ≠ .complete p))
    hay.ecc := mdel s.hay.ecc p
    hay.told := s.hay.told.filter (· != p)
    hay.weak := s.hay.weak.filter (· != p) }

/-- HAY_NOTE (R296). -/
def State.hayNote (s : State) (kind unit data : Nat) : State := s.note 0x50 kind unit data

/-- Bytes from a byte address. -/
def State.hayBytes (s : State) (addr n : Nat) : Bytes :=
  (List.range n).map fun i => ((s.page ((addr + i) / 64)).getD ((addr + i) % 64) 0xFF)

/-- Whether a page is erased. -/
def erasedPage (b : Bytes) : Bool := b.all fun x => x == 0xFF

/-! ### Stored objects (R268, R270, Table 10-1, Table 10-2) -/

/-- Copies X and Y of an object and the pages of one copy. -/
def objPlace (obj : Nat) : Nat × Nat × Nat :=
  if obj = 0x01 then (0x800, 0x801, 1)
  else if obj = 0x02 then (0x802, 0x803, 1)
  else if obj = 0x10 then (0x060, 0x061, 1)
  else if obj = 0x60 then (0x080, 0x097, 23)
  else if obj = 0x61 then (0x0AE, 0x0BC, 14)
  else if obj = 0x62 then (0x0CA, 0x0CF, 5)
  else if obj = 0x68 then (0x8E0, 0x8E1, 1)
  else (2 * (obj - 0x20), 2 * (obj - 0x20) + 1, 1)

/-- Every object of Table 10-2. -/
def allObjects : List Nat := [0x01, 0x02, 0x10, 0x60, 0x61, 0x62, 0x68] ++ (List.range 48).map (· + 0x20)

/-- The bytes of a copy. -/
def State.copyBytes (s : State) (page n : Nat) : Bytes := (List.range n).flatMap fun i => s.page (page + i)

/-- Whether a page can be read (R269, R281). -/
def State.readable (s : State) (p : Nat) : Bool := !(s.hay.bad.contains p) && mget 0 s.hay.ecc p != 2

/-- Whether a copy is valid (R268). -/
def State.copyValid (s : State) (obj page n : Nat) : Bool :=
  let b := s.copyBytes page n
  ((List.range n).all fun i => s.readable (page + i)) && u8 b 0 == obj && u8 b 1 == 1 &&
    decide (u16 b 2 + 16 ≤ 64 * n) && u32 b 8 == crc32 (sub b 16 (u16 b 2))

/-- The GEN of a copy. -/
def State.copyGen (s : State) (page : Nat) : Nat := u32 (s.page page) 4

/-- The first page of the copy in use: the valid copy with the higher GEN, X when they are equal (R268). -/
def State.copyInUse (s : State) (obj : Nat) : Option Nat :=
  let p := objPlace obj
  let vx := s.copyValid obj p.1 p.2.2
  let vy := s.copyValid obj p.2.1 p.2.2
  if vx && (!vy || decide (s.copyGen p.2.1 ≤ s.copyGen p.1)) then some p.1
  else if vy then some p.2.1 else none

/-- The data of an object's copy in use. -/
def State.objData (s : State) (obj : Nat) : Option Bytes :=
  (s.copyInUse obj).map fun page =>
    let b := s.copyBytes page (objPlace obj).2.2
    sub b 16 (u16 b 2)

/-- No copy is valid and some copy is not erased: a DEGRADE fault at boot (R268). -/
def State.objBroken (s : State) (obj : Nat) : Bool :=
  let p := objPlace obj
  (s.copyInUse obj).isNone && !(erasedPage (s.page p.1) && erasedPage (s.page p.2.1))

/-- The page writes of a save, in order: page, image, and whether it is a draft. The header page comes last, as a page
commit (R268, R270). -/
def State.savePages (s : State) (obj : Nat) (data : Bytes) : List (Nat × Bytes × Bool) :=
  let p := objPlace obj
  let use := s.copyInUse obj
  let target := if use = some p.1 then p.2.1 else p.1
  let gen := match use with
    | none => 1
    | some q => (s.copyGen q + 1) % 2 ^ 32
  let b := padTo (64 * p.2.2) 0xFF
    (le 1 obj ++ le 1 1 ++ le 2 data.length ++ le 4 gen ++ le 4 (crc32 data) ++ le 4 0 ++ data)
  let at_ (i : Nat) : Nat × Bytes := (target + i, sub b (64 * i) 64)
  ((List.range (p.2.2 - 1)).map fun i => ((at_ (i + 1)).1, (at_ (i + 1)).2, decide (obj ≠ 0x61))) ++
    [((at_ 0).1, (at_ 0).2, false)]

/-! ### Odometers (R282, R283) -/

/-- Whether an odometer page has a good CRC. -/
def odoGood (b : Bytes) : Bool := ofBe (sub b 6 2) == crc16 (sub b 0 6)

/-- Whether pair i of an odometer page is counted. -/
def odoPair (b : Bytes) (i : Nat) : Bool := !((u8 b (8 + i / 4)).testBit (2 * (i % 4)) && (u8 b (8 + i / 4)).testBit (2 * (i % 4) + 1))

/-- Counted pairs of an odometer page. -/
def odoCounted (b : Bytes) : Nat := ((List.range 224).filter (odoPair b)).length

/-- The value an odometer page holds. -/
def odoPageValue (b : Bytes) : Nat := u32 b 0 + odoCounted b

/-- The active page of counter k (R282). -/
def State.odoActive (s : State) (k : Nat) : Option Nat :=
  let a := 0x840 + 2 * k
  let x := s.page a
  let y := s.page (a + 1)
  match odoGood x, odoGood y with
  | true, true =>
    if u16 x 4 = (u16 y 4 + 1) % 65536 then some a
    else if u16 y 4 = (u16 x 4 + 1) % 65536 then some (a + 1)
    else if odoPageValue x < odoPageValue y then some (a + 1) else some a
  | true, false => some a
  | false, true => some (a + 1)
  | false, false => none

/-- The value of counter k. -/
def State.odo (s : State) (k : Nat) : Nat :=
  match s.odoActive k with
  | none => 0
  | some p => odoPageValue (s.page p)

/-- Both pages of counter k fail their CRC and one is not erased (R282). -/
def State.odoBroken (s : State) (k : Nat) : Bool :=
  (s.odoActive k).isNone && !(erasedPage (s.page (0x840 + 2 * k)) && erasedPage (s.page (0x841 + 2 * k)))

/-- A fresh odometer page. -/
def odoFresh (base gen : Nat) : Bytes :=
  let b := le 4 base ++ le 2 gen
  padTo 64 0xFF (b ++ be 2 (crc16 b))

/-- A page with its first uncounted pair programmed. -/
def odoProgram (b : Bytes) : Bytes :=
  match (List.range 224).find? fun i => !odoPair b i with
  | none => b
  | some i => splice b (8 + i / 4) (le 1 (u8 b (8 + i / 4) - 3 * 4 ^ (i % 4)))

/-- The page write of an increment: page, image, and whether it is a pair program (R282, R283). -/
def State.odoWrite (s : State) (k : Nat) : Option (Nat × Bytes × Bool) :=
  match s.odoActive k with
  | none => some (0x840 + 2 * k, odoFresh 1 0, false)
  | some p =>
    let b := s.page p
    if odoPageValue b ≥ 0xFFFFFFFF then none
    else if odoCounted b < 224 then some (p, odoProgram b, true)
    else some ((if p = 0x840 + 2 * k then p + 1 else p - 1), odoFresh (odoPageValue b + 1) ((u16 b 4 + 1) % 65536), false)

/-! ### Log rings (R284, R286) -/

/-- Whether 32 bytes are a record with a good CRC. -/
def recordGood (b : Bytes) : Bool := !erasedPage b && ofBe (sub b 30 2) == crc16 (sub b 0 30)

/-- The good records of a page, in place order. -/
def pageRecords (b : Bytes) : List Bytes := [sub b 0 32, sub b 32 32].filter recordGood

/-- The committed records of a stream with their SEQ, in SEQ order. -/
def State.ringRecords (s : State) (stream : Nat) : List (Nat × Bytes) :=
  ((List.range 64).flatMap fun i => (pageRecords (s.page (0x400 + 64 * stream + i))).map fun b => (u32 b 0, b)).foldl
    (fun m e => mins m e.1 e.2) []

/-- The highest committed SEQ plus 1; 0 in an empty ring (R285). -/
def State.committedNext (s : State) (stream : Nat) : Nat := (s.ringRecords stream).foldl (fun n e => max n (e.1 + 1)) 0

/-- The ring page holding the highest committed SEQ, if any. -/
def State.headPage (s : State) (stream : Nat) : Option Nat :=
  (List.range 64).find? fun i =>
    decide (0 < s.committedNext stream) &&
      (pageRecords (s.page (0x400 + 64 * stream + i))).any fun b => u32 b 0 + 1 == s.committedNext stream

/-- The image of a stream's open page. -/
def openImage (l : LogStream) : Bytes := padTo 64 0xFF l.open_.flatten

/-! ### Requests (R271, R272, R293, R54) -/

/-- Whether a request is a write: an access that escrow or the draft rule governs. -/
def isWrite (w : HayWhat) : Bool :=
  match w with
  | .read _ _ _ => false
  | .logRead _ _ _ _ => false
  | _ => true

/-- Whether a request waits through a power failure (R54, R272). -/
def waitsThrough (w : HayWhat) : Bool :=
  match w with
  | .pfPage => true
  | .complete _ => true
  | .read _ _ _ => true
  | .logRead _ _ _ _ => true
  | _ => false

/-- The switch points of a day-program page (Table 4-3). -/
def schedImage (prog : List SwPoint) : Bytes :=
  padTo 64 0xFF (le 1 prog.length ++ le 3 0 ++ prog.flatMap fun p => le 2 p.minute ++ le 2 p.sp)

/-- The page of a stall's repair map with a plan added (Table 12-3). -/
def State.repairImage (s : State) (stall : Nat) (plan : Map Nat) : Bytes :=
  let m := (mget {} s.stb.stalls stall).mapped ++ (mget {} s.stb.stalls stall).copyDue ++ plan
  let entry (i : Nat) : Nat := match m.find? fun e => e.2 == i with
    | none => 0xFF
    | some e => e.1 % 128
  let es := (List.range 40).map entry
  let b := le 1 1 ++ le 1 stall ++ le 2 (es.filter (· < 128)).length ++ es.flatMap (le 1) ++ List.replicate 18 0xFF
  b ++ be 2 (crc16 b)

/-- The day of a day-program write: zone and switch points. -/
def State.schedOf (s : State) (req : Nat) : Option SchedReq := s.hay.scheds.find? fun q => q.id == req

/-- The next page write of a request: page, image, draft, pair program; none when nothing is left to write. -/
def State.nextWrite (s : State) (w : HayWhat) : Option (Nat × Bytes × Bool × Bool) :=
  match w with
  | .read _ _ _ => none
  | .logRead _ _ _ _ => none
  | .write _ addr data _ =>
    if data.isEmpty then none
    else some (addr / 64, splice (s.page (addr / 64)) (addr % 64) (data.take (64 - addr % 64)), false, false)
  | .odInc k _ => (s.odoWrite k).map fun o => (o.1, o.2.1, false, o.2.2)
  | .save _ pages _ => pages.head?.map fun p => (p.1, p.2.1, p.2.2, false)
  | .sched req day => (s.schedOf req).map fun q => (0x100 + 7 * q.zone + day, schedImage q.prog, false, false)
  | .logPage st => some (0x400 + 64 * st + (s.log st).page, openImage (s.log st), false, false)
  | .pfPage => some (0x400 + (s.log 0).page, openImage (s.log 0), false, false)
  | .sec page image _ => some (page, image, false, false)
  | .complete page => (mget? s.hay.held page).map fun b => (page, b, false, false)
  | .refresh page => some (page, s.page page, false, false)
  | .repair stall plan => some (0x8A0 + stall, s.repairImage stall plan, false, false)

/-- Whether R277 refuses a write that changes the content of a page while NVM_WP is low. -/
def State.protectedPage (s : State) (p : Nat) : Bool :=
  decide (p < 0x400 ∧ p < s.rd R.HAY_CFG_BOUND) || decide (0x800 ≤ p ∧ p < 0x840) || decide (0x8C0 ≤ p ∧ p < 0x900)

/-- Writes that R277 never refuses. -/
def wpExempt (w : HayWhat) : Bool :=
  match w with
  | .odInc _ _ => true
  | .logPage _ => true
  | .pfPage => true
  | .complete _ => true
  | .refresh _ => true
  | .repair _ _ => true
  | _ => false

/-- A page refused under R277 is counted, noted and recorded (R277, Table 10-8). -/
def State.wpRefuse (s : State) (p : Nat) : State :=
  ((s.count R.HAY_STAT_WP_REJ 255 1).hayNote 5 0 p).record 3 0x08 (le 2 p)

/-- A request's escrow kind. -/
def escOf (r : HayReq) : EscKind :=
  match r.what with
  | .pfPage => .pfRecord r.id
  | _ => .commit r.id

/-- Take a request out of every queue, with its escrow. -/
def State.hayDrop (s : State) (r : HayReq) : State :=
  let out := s.escEnd (escOf r)
  { out with
    hay.reqs := s.hay.reqs.filter (fun q => q.id != r.id)
    hay.groom := s.hay.groom.filter (fun q => q.id != r.id)
    hay.owed := s.hay.owed.filter (fun q => q.id != r.id) }

/-- End a day-program write whose day failed: FAULT with the mask of days already stored (R117). -/
def State.schedFail (s : State) (req : Nat) : State :=
  match s.schedOf req with
  | none => s
  | some q =>
    let s := { s with
      hay.scheds := s.hay.scheds.filter (fun x => x.id != req)
      hay.reqs := s.hay.reqs.filter (fun x => match x.what with | .sched r _ => r != req | _ => true) }
    s.finish q.cmd stFault (le 1 q.stored)

/-- End a flush that needs a stream whose commit failed (HAY_LOG_FLUSH, R272). -/
def State.flushFail (s : State) (stream : Nat) : State :=
  let bad (f : FlushReq) : Bool := f.want.any fun w => w.1 == stream
  ({ s with hay.flushes := s.hay.flushes.filter (fun f => !bad f) }).each (s.hay.flushes.filter bad) fun s f => s.finish f.cmd stFault

/-- Remove a tack-room operation and end its command with FAULT (R401, R404); a rejection that cannot be stored still ends
the trial with a fault of class HUB (R412). -/
def State.secFail (s : State) (op : Nat) : State :=
  match s.sec.ops.find? fun o => o.id == op with
  | none => s
  | some o =>
    let s := ({ s with sec.ops := s.sec.ops.filter (fun x => x.id != op) }).finish? o.cmd stFault
    if o.act = .trial false then s.hubFault 0x68 6 (s.rd R.SEC_BOOT_BANK) 1 none 0x5 else s

/-- What the end of a request without its write means for its owner (R272, R117, R281). -/
def State.hayFail (s : State) (r : HayReq) : State :=
  let s := s.hayDrop r
  match r.what with
  | .read c _ _ => s.finish c stFault
  | .logRead c _ _ _ => s.finish c stFault
  | .write c _ _ n => s.finish c stFault (le 2 n)
  | .odInc _ c => s.finish? c stFault
  | .save c _ _ => s.finish? c stFault
  | .sched req _ => s.schedFail req
  | .logPage st => (s.modLog st fun l => { l with asked := false, busy := false }).flushFail st
  | .pfPage => s.modLog 0 fun l => { l with asked := false, busy := false }
  | .sec _ _ op => s.secFail op
  | .complete _ => s
  | .refresh _ => s
  | .repair _ _ => s

/-- Whether a groomer request is a repair-map commit, which goes ahead of refreshes (R292). -/
def isRepair (r : HayReq) : Bool :=
  match r.what with
  | .repair _ _ => true
  | _ => false

/-- Make a request in a queue. One made while the gate of R54 is closed ends at once, except those that wait (R54, R272). -/
def State.hayAsk (s : State) (queue : Nat) (w : HayWhat) : State :=
  let r : HayReq := ⟨s.hay.nextId, queue, w, s.ticks, false⟩
  let s := { s with hay.nextId := s.hay.nextId + 1 }
  if s.gatesClosed && !waitsThrough w then s.hayFail r
  else match w with
    | .complete _ => { s with hay.owed := s.hay.owed ++ [r] }
    | .pfPage => { s with hay.reqs := r :: s.hay.reqs }
    | .repair _ _ => { s with hay.groom := s.hay.groom.filter isRepair ++ [r] ++ s.hay.groom.filter (!isRepair ·) }
    | _ => if queue = 250 then { s with hay.groom := s.hay.groom ++ [r] } else { s with hay.reqs := s.hay.reqs ++ [r] }

/-- Requests of a queue that wait. -/
def State.hayDepth (s : State) (queue : Nat) : Nat := ((s.hay.reqs ++ s.hay.groom).filter fun r => r.queue == queue).length

/-- The request hayloft performs next (R271). -/
def State.hayFront (s : State) : Option HayReq :=
  match s.hay.owed ++ s.hay.reqs with
  | r :: _ => some r
  | [] => s.hay.groom.head?

/-- Fix the pages of a save that comes to the front of the queue: target copy and GEN follow from the copies as they
stand (R268). -/
def State.hayFix (s : State) : State :=
  match s.hayFront with
  | some ⟨id, queue, .save c [] ((obj, data) :: objs), since, admitted⟩ =>
    { s with hay.reqs := s.hay.reqs.map fun q =>
      if q.id = id then ⟨id, queue, .save c (s.savePages obj data) objs, since, admitted⟩ else q }
  | _ => s

/-- Present the next page commit to GAUGE, unless a write occupies hayloft or the die is outside the write range
(R271, R293). -/
def State.hayPresent (s : State) : State :=
  let s := s.hayFix
  match s.hay.cur, s.hayFront with
  | none, some r =>
    match s.nextWrite r.what with
    | some (_, _, false, _) =>
      if s.on R.HAY_STAT_TEMP_INH || s.escHolds (escOf r) || s.escWaits (escOf r) then s
      else { s with pwr.wait := s.pwr.wait ++ [⟨1, s.rd R.PWR_CLASS_COST_B, escOf r, r.since⟩] }
    | _ => s
  | _, _ => s

/-- A request that has waited 4,096 ticks without admission ends (R272). -/
def State.hayExpired (s : State) (r : HayReq) : Bool :=
  isWrite r.what && !waitsThrough r.what && decide (s.ticks ≥ r.since + 4096) && !s.escHolds (escOf r) &&
    !(s.hay.cur.any fun w => w.req.id == r.id)

/-- End every request of a list that a test picks. -/
def State.hayFailAll (s : State) (pick : HayReq → Bool) : State :=
  s.each ((s.hay.reqs ++ s.hay.groom).filter pick) fun s r =>
    if (s.hay.reqs ++ s.hay.groom).any fun q => q.id == r.id then s.hayFail r else s

/-! ### The end of a write (R273, R281) -/

/-- Deferred records that a log page has committed: the latches they stand for are released (R395, R430, R440). -/
def State.recordsCommitted (s : State) (stream : Nat) (image : Bytes) : State :=
  s.each (pageRecords image) fun s b =>
    let kind := u8 b 10
    let data := sub b 12 16
    if stream = 0 ∧ kind = 0x10 ∧ s.on R.THM_LAST_PEND ∧ ofLe (sub data 4 4) = s.rd R.THM_LAST_STAGE then s.wr R.THM_LAST_PEND 0
    else if stream = 1 ∧ kind = 0x11 ∧ ofLe (sub data 4 12) = s.rd R.FLT_LAST_RECORD then s.wr R.FLT_LAST_PEND 0
    else if stream = 1 ∧ kind = 0x13 ∧ u8 data 0 = 0 then s.wr R.FLT_LAST_LIMP_OWED 0
    else s

/-- Flushes whose records have all been committed end with OK. -/
def State.flushDone (s : State) : State :=
  let isDone (f : FlushReq) : Bool := f.want.all fun w => decide (w.2 < s.committedNext w.1)
  ({ s with hay.flushes := s.hay.flushes.filter (fun f => !isDone f) }).each (s.hay.flushes.filter isDone) fun s f => s.ok f.cmd

/-- A log page has been written. -/
def State.logWritten (s : State) (stream : Nat) (image : Bytes) : State :=
  let s := s.modLog stream fun l =>
    { l with kept := (pageRecords image).length, busy := false, asked := false, since := s.ticks }
  s.flushDone

/-- A day's commit has ended: the day takes effect at the zone's next run; the reply follows the last day (R116, R118). -/
def State.schedStored (s : State) (req day : Nat) : State :=
  match s.schedOf req with
  | none => s
  | some q =>
    let q := { q with days := setBit q.days day false, stored := setBit q.stored day true }
    let s := { s with zones := mmod {} s.zones q.zone fun z => { z with newDays := mins z.newDays day q.prog } }
    if q.days = 0 then
      ({ s with hay.scheds := s.hay.scheds.filter (fun x => x.id != req) }).ok q.cmd
    else { s with hay.scheds := s.hay.scheds.map fun x => if x.id = req then q else x }

/-- The next phase of a tack-room operation is due: one of its page commits has ended. -/
def State.secCommitted (s : State) (op : Nat) : State :=
  { s with sec.ops := s.sec.ops.map fun o => if o.id = op then { o with phase := o.phase + 1 } else o }

/-- Replace the request at its place by what is left of it. -/
def State.hayRest (s : State) (r : HayReq) (w : HayWhat) : State :=
  { s with hay.reqs := s.hay.reqs.map fun q => if q.id = r.id then { r with what := w, since := s.ticks } else q }

/-- A request's page has been written: go on with its next page, or end the request (R273, R275). -/
def State.pageDone (s : State) (r : HayReq) (image : Bytes) : State :=
  match r.what with
  | .write c addr data n =>
    let k := min data.length (64 - addr % 64)
    if data.length ≤ k then (s.hayDrop r).ok c else s.hayRest r (.write c (addr + k) (data.drop k) (n + k))
  | .save c pages objs =>
    if pages.length ≤ 1 && objs.isEmpty then (s.hayDrop r).finish? c stOk else s.hayRest r (.save c (pages.drop 1) objs)
  | .odInc k c =>
    (s.hayDrop r).finish? c stOk (le 4 (s.odo k))
  | .sched req day => (s.hayDrop r).schedStored req day
  | .logPage st => (s.hayDrop r).logWritten st image
  | .pfPage => (s.hayDrop r).logWritten 0 image
  | .sec _ _ op => (s.hayDrop r).secCommitted op
  | .complete _ => s.hayDrop r
  | .refresh p => (((s.hayDrop r).count R.HAY_GROOM_REFRESHED 0xFFFF 1).record 3 0x05 (le 2 p)).hayNote 1 0 p
  | .repair stall plan =>
    { s.hayDrop r with stb.stalls := mmod {} s.stb.stalls stall fun x => { x with copyDue := plan.foldl (fun m e => mins m e.1 e.2) x.copyDue } }
  | .read _ _ _ => s
  | .logRead _ _ _ _ => s

/-- The completion of a page ends: the request whose write had failed goes on (R281). -/
def State.completionDone (s : State) (id page : Nat) (image : Bytes) : State :=
  match s.hay.reqs.find? fun q => q.id == id with
  | none => s
  | some q => if (s.nextWrite q.what).any fun n => n.1 == page then s.pageDone q image else s

/-- A write failed: its page is mapped to a free spare, in a completion that goes first, or becomes bad (R281). -/
def State.writeFailed (s : State) (w : HayWrite) : State :=
  let spares := s.rd R.HAY_STAT_SPARES
  let s := s.escEnd (escOf w.req)
  if 0 < spares then
    let n := 32 - spares
    let s := { s.wr R.HAY_STAT_SPARES (spares - 1) with
      hay.held := mins s.hay.held w.page w.image, hay.spare := mins s.hay.spare w.page n }
    let s := { s with hay.owed := ⟨w.req.id, 249, .complete w.page, s.ticks, false⟩ :: s.hay.owed.filter fun q => q.id != w.req.id }
    ((s.record 3 0x06 (le 2 w.page ++ le 1 n)).hayNote 2 0 w.page).fault clNote 0x50 2 0 w.page
  else
    let s := { s with hay.bad := s.hay.bad ++ [w.page], hay.held := mdel s.hay.held w.page }
    let s := ((s.record 3 0x06 (le 2 w.page ++ le 1 0xFF)).hayNote 2 1 w.page).fault clDegrade 0x50 2 1 w.page
    s.hayFail w.req

/-- HAY_SVC sees the end of the write in progress: it releases the escrow and ends or continues the request (R273). -/
def State.hayWriteEnd (s : State) : State :=
  match s.hay.cur with
  | none => s
  | some w =>
    if !w.ended then s
    else
      let s := { s with hay.cur := none }
      if w.failed then s.writeFailed w
      else
        let s := s.escEnd (escOf w.req)
        match w.req.what with
        | .complete p => (s.hayDrop w.req |>.completionDone w.req.id p w.image)
        | _ => s.pageDone w.req w.image

/-! ### Reads (R269, R271, R295) -/

/-- Whether a page belongs to a copy in use of a stored object. -/
def State.pageOfCopyInUse (s : State) (p : Nat) : Bool :=
  allObjects.any fun o => match s.copyInUse o with
    | none => false
    | some q => decide (q ≤ p ∧ p < q + (objPlace o).2.2)

/-- An uncorrectable read, once per page until the page is written (R269, R294). -/
def State.uncorrectable (s : State) (p : Nat) : State :=
  if s.hay.told.contains p then s
  else
    let s := { s with hay.told := s.hay.told ++ [p] }
    let s := s.wrs [(R.HAY_GROOM_LAST_BAD, p), (R.HAY_GROOM_BAD_VALID, 1)]
    let s := (s.record 3 0x07 (le 2 p)).hayNote 7 0 p
    s.fault (if p ≥ 0x800 ∨ s.pageOfCopyInUse p then clDegrade else clNote) 0x50 7 0 p

/-- Read pages: corrections are counted; the first page that cannot be read is reported (R269, R281). -/
def State.readPages (s : State) (pages : List Nat) : State × Option Nat :=
  match pages with
  | [] => (s, none)
  | p :: rest =>
    if s.hay.bad.contains p then (s, some p)
    else if mget 0 s.hay.ecc p = 2 then (s.uncorrectable p, some p)
    else if mget 0 s.hay.ecc p = 1 then (s.count R.HAY_GROOM_CORRECTED 0xFFFF 1).readPages rest
    else s.readPages rest

/-- The pages a byte range touches. -/
def pagesOf (addr len : Nat) : List Nat := (List.range ((addr + len - 1) / 64 - addr / 64 + 1)).map (· + addr / 64)

/-- Serve a read at the front of the queue. -/
def State.hayServe (s : State) (r : HayReq) : State :=
  match r.what with
  | .read c addr len =>
    let out := s.readPages (pagesOf addr len)
    let t := out.1.hayDrop r
    match out.2 with
    | some p => t.finish c stFault (le 2 p)
    | none => t.ok c (t.hayBytes addr len)
  | .logRead c stream max from_ =>
    let l := ((s.ringRecords stream).filter fun e => decide (from_ ≤ e.1)).take max
    (s.hayDrop r).ok c (le 1 l.length ++ l.flatMap fun e => e.2)
  | .odInc k c => (s.hayDrop r).finish? c stOk (le 4 (s.odo k))
  | .write c _ _ _ => (s.hayDrop r).ok c
  | .save c _ _ => (s.hayDrop r).finish? c stOk
  | _ => s.hayDrop r

/-! ### HAY_SVC (R271, R273, R277, R293) -/

/-- Load a write into the NVM controller. -/
def State.hayLoad (s : State) (r : HayReq) (page : Nat) (image : Bytes) (draft pair : Bool) : State :=
  let s := match r.what with
    | .logPage st => s.modLog st fun l => { l with busy := true }
    | .pfPage => s.modLog 0 fun l => { l with busy := true }
    | _ => s
  { s.wr R.HAY_STAT_PAGE page with
    hay.cur := some ⟨r, page, image, draft, pair, 0, false, false, false, 0, 0, false, false⟩ }

/-- One decision of HAY_SVC: serve a read, refuse a protected page, load a draft or an admitted commit; whether to go on. -/
def State.hayStep (s : State) : State × Bool :=
  let s := s.hayFix
  match s.hay.cur, s.hayFront with
  | none, some r =>
    match s.nextWrite r.what with
    | none => (s.hayServe r, true)
    | some (page, image, draft, pair) =>
      if s.on R.HAY_STAT_WP && s.protectedPage page && !wpExempt r.what && decide (image ≠ s.page page) then
        if draft || s.escHolds (escOf r) then ((s.wpRefuse page).hayFail r, true) else (s, false)
      else if s.on R.HAY_STAT_TEMP_INH then (s, false)
      else if s.hay.bad.contains page then (s.hayFail r, true)
      else if draft then
        if s.gatesClosed || s.rd R.PWR_STAT_MODE == 2 then (s, false) else (s.hayLoad r page image true pair, false)
      else if s.escHolds (escOf r) then (s.hayLoad r page image false pair, false)
      else (s, false)
  | _, _ => (s, false)

/-- HAY_SVC goes on until a write is loaded or nothing can be done; the count bounds the requests it can serve. -/
def State.hayLoop (n : Nat) (s : State) : State :=
  match n with
  | 0 => s
  | n + 1 => if s.hayStep.2 then State.hayLoop n s.hayStep.1 else s.hayStep.1

/-- The HAY_SVC job without the tack room's part. -/
def State.haySvc (s : State) : State :=
  let s := s.hayWriteEnd
  State.hayLoop (s.hay.reqs.length + s.hay.groom.length + s.hay.owed.length + 1) s

/-! ### Phases (R273, R274, Table 10-3) -/

/-- The phase GO starts the next phase of the loaded write. -/
def State.hayGo (s : State) : State :=
  match s.hay.cur with
  | none => s
  | some w => if w.ended then s else { s with hay.cur := some { w with go := true } }

/-- What a phase that ends does; `verify` says whether its verify passed. -/
def phaseEnd (w : HayWrite) (verify : Bool) : HayWrite :=
  let w := { w with go := false, phase := w.phase + 1 }
  if w.pair then { w with marked := true, ended := true }
  else if !w.marked then { w with marked := true }
  else if !w.erased then
    let w := { w with erases := w.erases + 1 }
    if verify then { w with erased := true }
    else if w.erases ≥ 3 then { w with ended := true, failed := true } else w
  else
    let w := { w with progs := w.progs + 1 }
    if verify then { w with ended := true }
    else if w.progs ≥ 2 then { w with ended := true, failed := true } else w

/-- A phase of the write in progress ends; when the last one has, the page holds the new content. -/
def State.hayPhaseEnd (s : State) (verify : Bool) : State :=
  match s.hay.cur with
  | none => s
  | some w =>
    if (w.go || s.pwr.held) && !w.ended then
      let v := phaseEnd w verify
      let s := { s with hay.cur := some v }
      if v.ended && !v.failed then
        let s := { s.putPage v.page v.image with hay.cur := some v }
        if 0x400 ≤ v.page ∧ v.page < 0x800 then s.recordsCommitted ((v.page - 0x400) / 64) v.image else s
      else s
    else s

/-! ### LOG_SVC (R286, R287) -/

/-- Move records of a stream into its open page. -/
def fillPage (ticks : Nat) (l : LogStream) : LogStream :=
  if l.busy || l.queue.isEmpty then l
  else
    let l := if l.open_.length ≥ 2 ∧ l.kept ≥ 2 then { l with open_ := [], kept := 0, page := (l.page + 1) % 64 } else l
    let k := min l.queue.length (2 - l.open_.length)
    { l with
      open_ := l.open_ ++ l.queue.take k
      queue := l.queue.drop k
      since := if l.open_.length ≤ l.kept ∧ 0 < k then ticks else l.since }

/-- Whether a stream's open page is to be committed now. -/
def State.pageDue (s : State) (stream : Nat) (l : LogStream) : Bool :=
  decide (l.kept < l.open_.length) && !l.asked && !l.busy &&
    (decide (2 ≤ l.open_.length) || decide (s.ticks ≥ l.since + s.rd R.HAY_CFG_LOG_HOLD) ||
      s.hay.flushes.any fun f => f.want.any fun w => w.1 == stream)

/-- Request the commit of a stream's open page when it is due. -/
def State.commitPage (s : State) (stream : Nat) : State :=
  if s.pageDue stream (s.log stream) then
    (s.modLog stream fun l => { l with asked := true }).hayAsk 249 (.logPage stream)
  else s

/-- Place the OVERFLOW record of a stream that has lost records, once an entry is free (R287). -/
def State.overflow (s : State) (stream cause : Nat) : State :=
  let l := s.log stream
  match l.lost with
  | none => s
  | some (k, first, last) =>
    if l.queue.length ≥ 63 then s
    else
      let b := logBytes l.next (s.stage % 2 ^ 32) s.tpos stream 1 (le 4 k ++ le 4 first ++ le 4 last ++ le 1 cause)
      let s := s.modLog stream fun l =>
        { l with lost := none, next := (l.next + 1) % 2 ^ 32, queue := l.queue ++ [b] }
      let s := s.count (R.HAY_LOG_OVERFLOWS stream) 255 1
      (s.hayNote 4 stream (min 0xFFFF k)).fault clNote 0x50 4 stream (min 0xFFFF k)

/-- LOG_SVC for one stream. -/
def State.logStream (s : State) (stream : Nat) : State :=
  let n := (s.log stream).queue.length
  let s := s.modLog stream (fillPage s.ticks)
  let s := if (s.log stream).queue.length < n then s.overflow stream 0 else s
  s.commitPage stream

/-- The LOG_SVC job. -/
def State.logSvc (s : State) : State := s.each (List.range 16) fun s i => s.logStream i

/-! ### The groomer (R290, R291) -/

/-- The page the sweep reads next: an addressable page, or a spare page in use. -/
def State.sweepPage (s : State) : Nat :=
  if s.hay.spareTurn = 0 then s.rd R.HAY_GROOM_NEXT
  else ((s.hay.spare.drop (s.hay.spareTurn - 1)).head?.map (·.1)).getD 0

/-- Advance the sweep by one turn. -/
def State.sweepNext (s : State) : State :=
  if s.hay.spareTurn = 0 ∧ s.rd R.HAY_GROOM_NEXT + 1 < 0x900 then s.wr R.HAY_GROOM_NEXT (s.rd R.HAY_GROOM_NEXT + 1)
  else if s.hay.spareTurn < s.hay.spare.length then { s with hay.spareTurn := s.hay.spareTurn + 1 }
  else { (s.wr R.HAY_GROOM_NEXT 0).wrap R.HAY_GROOM_SWEEPS 65536 1 with hay.spareTurn := 0 }

/-- Whether a refresh is outstanding. -/
def State.refreshing (s : State) : Bool := s.hay.groom.any fun r => match r.what with | .refresh _ => true | _ => false

/-- One turn of the groomer's sweep. -/
def State.groomSweep (s : State) : State :=
  if !s.on R.HAY_CFG_GROOM_EN then s
  else if s.hay.cur.isSome then s.count R.HAY_GROOM_SKIPPED 0xFFFF 1
  else
    let p := s.sweepPage
    let e := mget 0 s.hay.ecc p
    let s := s.sweepNext
    if s.hay.bad.contains p then s
    else if e = 2 then s.uncorrectable p
    else
      let s := s.when (e == 1) fun s => s.count R.HAY_GROOM_CORRECTED 0xFFFF 1
      if e = 1 ∨ s.hay.weak.contains p then
        let s := s.count R.HAY_GROOM_WEAK 0xFFFF 1
        if s.refreshing || (mget? s.hay.held p).isSome then s else s.hayAsk 250 (.refresh p)
      else s

/-- The free spares of a weight bank of a stall that no repair uses. -/
def freeSpares (x : Stall) (taken : Map Nat) (bank total : Nat) : List Nat :=
  ((List.range total).map fun k => 8 * bank + k).filter fun i =>
    !((x.mapped ++ x.copyDue ++ taken).any fun e => e.2 == i)

/-- A weight row as the notes name it: [7:0] row within the bank, [11:8] bank (Table 12-12). -/
def rowData (row : Nat) : Nat := row % 128 + 256 * (row / 128)

/-- The groomer takes a stall's row-repair requests: a spare for each row, or the request is dropped (R292, R341, R342). -/
def State.groomRepair (s : State) (stall : Nat) : State :=
  let x := mget {} s.stb.stalls stall
  if !s.on R.HAY_CFG_GROOM_EN || x.rowReq.isEmpty then s
  else
    let plan := x.rowReq.foldl (fun (m : Map Nat × List Nat) row =>
      match freeSpares x m.1 (row / 128) (bits (s.rd (R.STB_SP_SPARES stall)) (4 * (row / 128)) 4) with
      | [] => (m.1, m.2 ++ [row])
      | i :: _ => (mins m.1 row i, m.2)) ([], [])
    let s := { s with stb.stalls := mput {} s.stb.stalls stall { x with rowReq := [] } }
    let s := s.each plan.2 fun s row =>
      (s.note 0x58 22 stall (rowData row)).fault clDegrade 0x58 22 stall (rowData row)
    if plan.1.isEmpty then s else s.hayAsk 250 (.repair stall plan.1)

end Sys2Proof.Machine
end

