-- ==== Sys2Proof/Machine/Zones.lean ====
section
/-!
DEFINITION. Sys2Proof/Machine/Zones.lean: zones, loops, schedules and setpoint arbitration (spec/04_zones_loops.md): what
ZON_LOOP and ZON_SVC do, the zone events, and the writes of the zone attributes.
-/

namespace Sys2Proof.Machine

/-! ### Zone state and entries (R128, R129, R130) -/

/-- Zone n. -/
def State.zone (s : State) (n : Nat) : Zone := mget {} s.zones n

/-- Update zone n. -/
def State.modZone (s : State) (n : Nat) (f : Zone → Zone) : State := { s with zones := mmod {} s.zones n f }

/-- Whether zone n is enabled (R109). -/
def State.zoneOn (s : State) (n : Nat) : Bool := bit (s.rd R.ZON_ENABLE_EN) n

/-- A zone event entry (Table 4-5). -/
def zoneEntry (seq kind data value stage : Nat) : Nat :=
  seq + 2 ^ 16 * kind + 2 ^ 24 * data + 2 ^ 32 * value + 2 ^ 48 * (stage % 65536)

/-- Add an entry: it takes the next SEQ; with 31 entries unread it is lost; otherwise ZONE_NOTE is raised (R128 to R130). -/
def State.zonEntry (s : State) (n kind data value : Nat) : State :=
  let z := s.zone n
  let e := zoneEntry z.seq kind data value s.stage
  if z.entries.length < 31 then
    (s.modZone n fun z => { z with seq := (z.seq + 1) % 65536, entries := z.entries ++ [e] }).event 0x10 (le 1 n ++ le 8 e)
  else s.modZone n fun z => { z with seq := (z.seq + 1) % 65536, lost := satAdd 0xFFF z.lost 1 }

/-- The GAP entry that counts the entries lost, once a read has freed an entry (R129). -/
def State.zonGap (s : State) (n : Nat) : State :=
  let z := s.zone n
  if z.gapDue && decide (z.entries.length < 32) then
    let e := zoneEntry z.seq 0x0B 0 z.lost s.stage
    (s.modZone n fun z =>
      { z with seq := (z.seq + 1) % 65536, entries := z.entries ++ [e], lost := 0, gapDue := false }).event 0x10 (le 1 n ++ le 8 e)
  else s

/-! ### Sources (Table 4-1, R111, R112) -/

/-- A temperature sample and whether it is valid. -/
def State.zonSample (s : State) (n : Nat) : Option Nat :=
  let i := s.rd (R.ZON_CFG_SRC_IDX n)
  match s.rd (R.ZON_CFG_SRC_KIND n) with
  | 1 =>
    if s.on (R.ADC_AIN_OPEN i) || s.on (R.ADC_AIN_SHORT i) || s.on (R.ADC_AIN_OVR i) || s.on (R.ADC_AIN_UNR i) || s.ainStale i
    then none else some (s.rd (R.ADC_AIN_VALUE i))
  | 2 => if s.on (R.ADC_DEVR_VALID i) then some (s.rd (R.ADC_DEVR_TEMP i)) else none
  | 3 => match (s.zone n).remT with
    | none => none
    | some (v, at_) => if s.stage ≤ at_ + s.rd (R.ZON_LOOP_REM_TMO n) then some v else none
  | _ => none

/-- A humidity sample, if it is valid. -/
def State.zonHumidity (s : State) (n : Nat) : Option Nat :=
  let i := s.rd (R.ZON_CFG_HUM_IDX n)
  match s.rd (R.ZON_CFG_HUM_KIND n) with
  | 2 => if s.on (R.ADC_DEVR_VALID i) then some (s.rd (R.ADC_DEVR_HUM i)) else none
  | 3 => match (s.zone n).remH with
    | none => none
    | some (v, at_) => if s.stage ≤ at_ + s.rd (R.ZON_LOOP_REM_TMO n) then some v else none
  | _ => none

/-- The filter of R111, in 1/256 degC. -/
def filterStep (f : Option Int) (sample filt : Nat) : Int :=
  match f with
  | none => 16 * sample
  | some f => f + Int.fdiv (16 * sample - f) (2 ^ filt)

/-- The zone becomes SENSOR_LOST after 10 consecutive invalid runs (R112). -/
def State.zonSensorLost (s : State) (n : Nat) : State :=
  if decide (10 ≤ (s.zone n).bad) && !s.on (R.ZON_STAT_SENSOR_LOST n) then
    let duty := s.rd (R.ZON_LOOP_FAIL_DUTY n)
    let s := s.wrs [(R.ZON_STAT_SENSOR_LOST n, 1), (R.ZON_STAT_DUTY n, duty)]
    let kind := s.rd (R.ZON_CFG_SRC_KIND n)
    (s.zonEntry n 0x06 kind duty).fault clZone 0x10 0x06 n duty
  else s

/-- A valid sample: filter, TEMP, and the return of a lost sensor (R111, R112). -/
def State.zonValid (s : State) (n sample : Nat) : State :=
  let lost := s.on (R.ZON_STAT_SENSOR_LOST n)
  let f := filterStep (if lost then none else (s.zone n).f) sample (s.rd (R.ZON_LOOP_FILT n))
  let s := s.modZone n fun z => { z with f := some f, bad := 0 }
  let temp := code12 (roundDiv f 16)
  let s := s.wrs [(R.ZON_STAT_TEMP n, temp), (R.ZON_STAT_T_VALID n, 1)]
  if lost then (s.wr (R.ZON_STAT_SENSOR_LOST n) 0).zonEntry n 0x07 (s.rd (R.ZON_CFG_SRC_KIND n)) temp else s

/-- An invalid sample: F, demand and integrator stay (R111, R112). -/
def State.zonInvalid (s : State) (n : Nat) : State :=
  let s := (s.wr (R.ZON_STAT_T_VALID n) 0).modZone n fun z => { z with bad := min 10 (z.bad + 1), hist := [] }
  s.zonSensorLost n

/-- The sampling part of a loop run (R111, R112, R125). -/
def State.zonSampleRun (s : State) (n : Nat) : State :=
  let src := s.rd (R.ZON_CFG_SRC_KIND n) + 4 * s.rd (R.ZON_CFG_SRC_IDX n)
  let s := if (s.zone n).fSrc = src then s else s.modZone n fun z => { z with f := none, fSrc := src }
  let s := match s.zonHumidity n with
    | none => s.wr (R.ZON_STAT_H_VALID n) 0
    | some h => s.wrs [(R.ZON_STAT_HUM n, min h 0xFA0), (R.ZON_STAT_H_VALID n, 1)]
  match s.zonSample n with
  | none => s.zonInvalid n
  | some v => s.zonValid n v

/-! ### Schedules (R114, R115) -/

/-- The switch points of the week, in order: minute of the week and setpoint. -/
def weekPoints (z : Zone) : List (Nat × Nat) :=
  (List.range 7).flatMap fun d => (mget [] z.days d).map fun p => (1440 * d + p.minute, p.sp)

/-- Seconds into the local week (ZON_CLOCK). -/
def State.weekSecond (s : State) : Nat :=
  86400 * s.rd R.ZON_CLOCK_DAY + 60 * s.rd R.ZON_CLOCK_MINUTE + s.rd R.ZON_CLOCK_SECOND

/-- The switch point in force at a second of the week, searched backwards (R114). -/
def pointNow (pts : List (Nat × Nat)) (sec : Nat) : Option (Nat × Nat) :=
  match (pts.filter fun p => decide (60 * p.1 ≤ sec)).getLast? with
  | some p => some p
  | none => pts.getLast?

/-- The next switch point, searched forwards, and the stages until it (R114). -/
def pointNext (pts : List (Nat × Nat)) (sec : Nat) : Option (Nat × Nat) :=
  match (pts.filter fun p => decide (sec < 60 * p.1)).head? with
  | some p => some (p.2, 60 * p.1 - sec)
  | none => pts.head?.map fun p => (p.2, 60 * p.1 + 604800 - sec)

/-- The schedule as a loop run sees it: the switch point in force and the next one, none under R115. -/
def State.schedule (s : State) (n : Nat) : Option ((Nat × Nat) × (Nat × Nat)) :=
  if s.on R.ZON_CLOCK_VALID then
    match pointNow (weekPoints (s.zone n)) s.weekSecond, pointNext (weekPoints (s.zone n)) s.weekSecond with
    | some p, some q => some (p, q)
    | _, _ => none
  else none

/-! ### Holds, windows, occupancy (R119, R120, R121) -/

/-- End a hold, with its entry (R119). -/
def State.zonHoldEnd (s : State) (n why : Nat) : State :=
  if s.on (R.ZON_STAT_HOLD n) then
    let sp := s.rd (R.ZON_INPUT_HOLD_SP n)
    let s := s.wrs [(R.ZON_STAT_HOLD n, 0), (R.ZON_INPUT_HOLD_MODE n, 0), (R.ZON_INPUT_HOLD_LEFT n, 0), (R.ZON_INPUT_HOLD_SP n, 0)]
    (s.modZone n fun z => { z with holdPt := none }).zonEntry n 0x09 why sp
  else s

/-- A timed hold whose HOLD_LEFT has reached 0 ends at the loop run (R119). -/
def State.zonHoldExpire (s : State) (n : Nat) : State :=
  if s.rd (R.ZON_INPUT_HOLD_MODE n) == 1 && s.rd (R.ZON_INPUT_HOLD_LEFT n) == 0 then s.zonHoldEnd n 0 else s

/-- Take a recorded ZON_HOLD (R119, R127). -/
def State.zonHoldTake (s : State) (n : Nat) (pt : Option (Nat × Nat)) : State :=
  match (s.zone n).holdCmd with
  | none => s
  | some (mode, sp, dur) =>
    let s := s.modZone n fun z => { z with holdCmd := none }
    if mode = 0 then s.zonHoldEnd n 2
    else
      let s := s.wrs [(R.ZON_STAT_HOLD n, 1), (R.ZON_INPUT_HOLD_MODE n, mode), (R.ZON_INPUT_HOLD_SP n, sp),
        (R.ZON_INPUT_HOLD_LEFT n, if mode = 1 then dur else 0)]
      s.modZone n fun z => { z with holdPt := if mode = 2 then pt else none }

/-- The hold part of a loop run (R119). -/
def State.zonHoldRun (s : State) (n : Nat) : State :=
  let pt := (s.schedule n).map fun p => (p.1.1 / 1440, p.1.1 % 1440)
  let s := s.zonHoldExpire n
  let s := if s.rd (R.ZON_INPUT_HOLD_MODE n) == 2 && decide ((s.zone n).holdPt ≠ pt) then s.zonHoldEnd n 1 else s
  s.zonHoldTake n pt

/-- Open a window, with its entry (R120). -/
def State.zonWindowOpen (s : State) (n how : Nat) : State :=
  if s.on (R.ZON_STAT_WINDOW n) then s
  else
    let s := (s.wr (R.ZON_STAT_WINDOW n) 1).modZone n fun z => { z with winAt := s.stage }
    s.zonEntry n 0x02 how (s.rd (R.ZON_STAT_TEMP n))

/-- Close a window, with its entry; detection is then suppressed for WIN_MAX stages (R120). -/
def State.zonWindowClose (s : State) (n how : Nat) : State :=
  if s.on (R.ZON_STAT_WINDOW n) then
    let until_ := s.stage + s.rd (R.ZON_CFG_WIN_MAX n)
    let s := (s.wr (R.ZON_STAT_WINDOW n) 0).modZone n fun z => { z with winMute := some until_ }
    s.zonEntry n 0x03 how (s.rd (R.ZON_STAT_TEMP n))
  else s

/-- An open window closes WIN_MAX stages after it opened (R120). -/
def State.zonWindowExpire (s : State) (n : Nat) : State :=
  if s.on (R.ZON_STAT_WINDOW n) && decide ((s.zone n).winAt + s.rd (R.ZON_CFG_WIN_MAX n) ≤ s.stage) then s.zonWindowClose n 0 else s

/-- Whether detection finds an open window (R120). -/
def State.zonDrop (s : State) (n : Nat) : Bool :=
  let z := s.zone n
  let drop := s.rd (R.ZON_LOOP_WIN_DROP n)
  s.on (R.ZON_STAT_T_VALID n) && decide (0 < drop) && decide (120 ≤ z.hist.length) &&
    decide (s.rd (R.ZON_STAT_TEMP n) + drop ≤ z.hist.getD 119 0) &&
    (match z.winMute with
     | none => true
     | some t => decide (t ≤ s.stage))

/-- The window part of a loop run (R120). -/
def State.zonWindowRun (s : State) (n : Nat) : State :=
  let s := s.zonWindowExpire n
  let cmd := (s.zone n).winCmd
  let s := s.modZone n fun z => { z with winCmd := none }
  let s := match cmd with
    | some true => s.zonWindowOpen n 1
    | some false => s.zonWindowClose n 1
    | none => s
  let s := if s.zonDrop n then s.zonWindowOpen n 0 else s
  if s.on (R.ZON_STAT_T_VALID n) then
    s.modZone n fun z => { z with hist := (s.rd (R.ZON_STAT_TEMP n) :: z.hist).take 120 }
  else s

/-- OCC_VALID: a score was delivered within the last 8 stages (Table 4-16). -/
def State.occValid (s : State) (n : Nat) : Bool :=
  match (s.zone n).scoreAt with
  | none => false
  | some t => decide (s.stage ≤ t + 8)

/-- Presence evidence at a loop run (R121). -/
def State.zonEvidence (s : State) (n : Nat) : Bool :=
  (s.occValid n && decide (s.rd (R.ZON_CFG_OCC_THR n) ≤ s.rd (R.ZON_INPUT_OCC_SCORE n))) || (s.zone n).presence

/-- The zone becomes unoccupied after OCC_DELAY stages without evidence (R121). -/
def State.zonUnoccupied (s : State) (n : Nat) : State :=
  match (s.zone n).lastEv with
  | none => s
  | some t =>
    if s.on (R.ZON_STAT_OCC n) && decide (t + s.rd (R.ZON_CFG_OCC_DELAY n) ≤ s.stage) then
      (s.wr (R.ZON_STAT_OCC n) 0).zonEntry n 0x05 0 0
    else s

/-- The occupancy part of a loop run (R121). -/
def State.zonOccupancy (s : State) (n : Nat) : State :=
  let ev := s.zonEvidence n
  let first := (s.zone n).lastEv.isNone
  let s := s.modZone n fun z => { z with presence := false, lastEv := if ev || first then some s.stage else z.lastEv }
  let s := if first then s.wr (R.ZON_STAT_OCC n) 1 else s
  if ev then
    if s.on (R.ZON_STAT_OCC n) then s else (s.wr (R.ZON_STAT_OCC n) 1).zonEntry n 0x04 0 0
  else s.zonUnoccupied n

/-! ### Arbitration and preheat (R113, R122, R123) -/

/-- The lead L and its source (R122). -/
def State.zonLead (s : State) (n : Nat) (nextSp : Option Nat) : Nat × Nat :=
  let top := s.rd (R.ZON_LOOP_PRE_MAX n)
  let computed : Nat := match nextSp with
    | none => 0
    | some sp => ((sp - s.rd (R.ZON_STAT_TEMP n)) * 3600 + s.rd (R.ZON_LOOP_PRE_RATE n) - 1) / s.rd (R.ZON_LOOP_PRE_RATE n)
  match (s.zone n).lead with
  | some (v, t) => if s.stage ≤ t + 900 then (min v top, 1) else (min computed top, 0)
  | none => (min computed top, 0)

/-- Whether preheat is due (R123). -/
def State.preheatDue (s : State) (n lead : Nat) (sch : Option ((Nat × Nat) × (Nat × Nat))) : Bool :=
  match sch with
  | none => false
  | some (p, q) =>
    s.on (R.ZON_CFG_PRE_EN n) && s.on (R.ZON_STAT_T_VALID n) && decide (p.2 < q.1) &&
      decide (s.rd (R.ZON_STAT_TEMP n) < q.1) && decide (q.2 ≤ lead)

/-- The effective setpoint and its source (R113); the sources are numbered as Table 4-12 does. -/
def arbitrate (sched next setback hold frost max_ : Nat) (fallback pre setb held win : Bool) : Nat × Nat :=
  let r := (sched, if fallback then 8 else 1)
  let r := if pre then (next, 2) else r
  let r := if setb then (sched - setback, 3) else r
  let r := if held then (hold, 4) else r
  let r := if win then (frost, 5) else r
  let r := if r.1 < frost then (frost, if r.2 = 5 then 5 else 6) else r
  if max_ < r.1 then (max_, 7) else r

/-- Write EFF and SRC; a SRC that differs from its value at the previous run adds SRC_CHANGE; the first run after enable or
reset has no previous one, and SRC reads 0 before it (R113, log entry 35). -/
def State.zonSetpoint (s : State) (n eff src : Nat) : State :=
  let old := s.rd (R.ZON_SETPT_SRC n)
  let s := s.wrs [(R.ZON_SETPT_EFF n, eff), (R.ZON_SETPT_SRC n, src)]
  if old = src ∨ old = 0 then s else s.zonEntry n 0x01 src eff

/-- The arbitration part of a loop run (R113, R122, R123). -/
def State.zonArbitrate (s : State) (n : Nat) : State :=
  let sch := s.schedule n
  let sched := (sch.map fun p => p.1.2).getD (s.rd (R.ZON_LOOP_FALLBACK n))
  let next := (sch.map fun p => p.2.1).getD 0
  let lead := s.zonLead n (sch.map fun p => p.2.1)
  let pre := s.preheatDue n lead.1 sch
  let was := s.on (R.ZON_STAT_PREHEAT n)
  let s := s.wrs [(R.ZON_SETPT_SCHED n, sched), (R.ZON_INPUT_LEAD n, lead.1), (R.ZON_INPUT_LEAD_SRC n, lead.2),
    (R.ZON_STAT_PREHEAT n, b2n pre)]
  let r := arbitrate sched next (s.rd (R.ZON_CFG_SETBACK n)) (s.rd (R.ZON_INPUT_HOLD_SP n)) (s.rd (R.ZON_CFG_FROST n))
    (s.rd (R.ZON_CFG_MAX n)) sch.isNone pre (s.on (R.ZON_CFG_OCC_EN n) && !s.on (R.ZON_STAT_OCC n))
    (s.on (R.ZON_STAT_HOLD n)) (s.on (R.ZON_STAT_WINDOW n))
  let s := s.zonSetpoint n r.1 r.2
  if pre && !was then s.zonEntry n 0x08 lead.2 next else s

/-! ### The loop (R124, R125, R126) -/

/-- The PI step: error, KP, KI and I give I, LIMITED and the demand (R124). -/
def piStep (e : Int) (kp ki : Nat) (i : Int) : Int × Bool × Nat :=
  let p := kp * e * 256
  let i' := i + ki * e
  let sum := p + i'
  let limited := (decide (4095 * 65536 < sum) && decide (0 < e)) || (decide (sum < 0) && decide (e < 0))
  let i := if limited then i else clamp 0 (4095 * 65536) i'
  (i, limited, code12 (roundDiv (p + i) 65536))

/-- The PI part of a loop run (R124, R125). -/
def State.zonPi (s : State) (n : Nat) : State :=
  let s := if (s.zone n).iReset then (s.wr (R.ZON_STAT_INTEG n) 0).modZone n fun z => { z with iReset := false } else s
  if s.on (R.ZON_STAT_T_VALID n) && !s.on (R.ZON_STAT_SENSOR_LOST n) then
    let r := piStep ((s.rd (R.ZON_SETPT_EFF n) : Int) - s.rd (R.ZON_STAT_TEMP n)) (s.rd (R.ZON_LOOP_KP n))
      (s.rd (R.ZON_LOOP_KI n)) (s.rd (R.ZON_STAT_INTEG n))
    s.wrs [(R.ZON_STAT_INTEG n, r.1.toNat), (R.ZON_STAT_LIMITED n, b2n r.2.1), (R.ZON_STAT_DUTY n, r.2.2)]
  else s

/-- The demand of an enabled zone; 0 for a disabled one (R109). -/
def State.demand (s : State) (n : Nat) : Nat := if s.zoneOn n then s.rd (R.ZON_STAT_DUTY n) else 0

/-- The heat call (R126, R131). -/
def State.heatCall (s : State) : State :=
  let on := (List.range 48).filter fun n => s.zoneOn n
  let dmax := on.foldl (fun m n => max m (s.demand n)) 0
  let callOn := if s.limp then 0xFFF else s.rd R.ZON_PLANT_CFG_CALL_ON
  let calling := (on.filter fun n => decide (callOn ≤ s.demand n)).length
  let call := if 0 < calling then true
    else if s.limp then false
    else if on.all fun n => decide (s.demand n < s.rd R.ZON_PLANT_CFG_CALL_OFF) then false
    else s.on R.ZON_DEMAND_CALL
  let fmin := s.rd R.ZON_PLANT_CFG_FLOW_MIN
  let flow := (roundDiv (fmin * 4096 + (s.rd R.ZON_PLANT_CFG_FLOW_MAX - fmin) * dmax : Nat) 4096).toNat
  s.wrs [(R.ZON_DEMAND_CALLING, (on.filter fun n => decide (s.rd R.ZON_PLANT_CFG_CALL_ON ≤ s.demand n)).length),
    (R.ZON_DEMAND_CALL, b2n call), (R.ZON_DEMAND_FLOW_REQ, flow),
    (R.ZON_DEMAND_MAXZONE, (on.find? fun n => s.demand n == dmax).getD 0)]

/-- Bang-bang control of a wired zone in limp mode (R131). -/
def State.zonLimp (s : State) (n : Nat) : State :=
  let sp := s.rd (R.ZON_LOOP_LIMP_SP n)
  let s := s.zonSetpoint n sp 9
  if s.rd (R.ZON_CFG_SRC_KIND n) == 1 && decide (s.rd (R.ZON_CFG_SRC_IDX n) < 32) then
    let s := s.zonSampleRun n
    let t := s.rd (R.ZON_STAT_TEMP n)
    if s.on (R.ZON_STAT_T_VALID n) then
      if t + 4 < sp then s.wr (R.ZON_STAT_DUTY n) 0xFFF
      else if sp + 4 < t then s.wr (R.ZON_STAT_DUTY n) 0 else s
    else s
  else s.wr (R.ZON_STAT_DUTY n) 0

/-- The entries owed since the boot: RESTART, then LIMP (R128, R131, R440). -/
def State.zonOwed (s : State) (n : Nat) : State :=
  let s := if (s.zone n).restart then
      (s.modZone n fun z => { z with restart := false }).zonEntry n 0x0C (s.rd R.PWR_CAUSE_CAUSE) 0
    else s
  match (s.zone n).limpDue with
  | none => s
  | some d => (s.modZone n fun z => { z with limpDue := none }).zonEntry n 0x0D d 0

/-- Day programs whose commits have ended take effect (R116). -/
def State.zonDays (s : State) (n : Nat) : State :=
  s.modZone n fun z => { z with days := z.newDays.foldl (fun m e => mput [] m e.1 e.2) z.days, newDays := [] }

/-- One run of zone n's loop (R111 to R126, R131). -/
def State.zonLoop (s : State) (n : Nat) : State :=
  let s := if s.zoneOn n then
      let s := ((s.zonGap n).zonOwed n).zonDays n
      let s := if s.limp then s.zonLimp n
        else ((((((s.zonSampleRun n).zonWindowRun n).zonHoldRun n).zonOccupancy n).zonArbitrate n).zonPi n)
      s.wr (R.ZON_STAT_LAST_RUN n) (s.stage % 65536)
    else s
  s.heatCall

/-- The ZON_SVC job: GAP entries that are due (R129). -/
def State.zonSvc (s : State) : State := s.each (List.range 48) fun s n => s.zonGap n

/-- A ZON_LOOP overrun (R127). -/
def State.zonSkip (s : State) (n : Nat) : State :=
  if s.zoneOn n then s.zonEntry n 0x0A 0 (s.rd (R.ZON_STAT_DUTY n)) else s

/-- The stage edge: HOLD_LEFT falls, the clock advances (R119, Schedules). -/
def State.zonStage (s : State) : State :=
  let s := s.each (List.range 48) fun s n =>
    if s.rd (R.ZON_INPUT_HOLD_MODE n) == 1 then s.wr (R.ZON_INPUT_HOLD_LEFT n) (s.rd (R.ZON_INPUT_HOLD_LEFT n) - 1) else s
  let t := (s.weekSecond + 1) % 604800
  if s.on R.ZON_CLOCK_VALID then
    s.wrs [(R.ZON_CLOCK_DAY, t / 86400), (R.ZON_CLOCK_MINUTE, t % 86400 / 60), (R.ZON_CLOCK_SECOND, t % 60)]
  else s

/-! ### Enabling and the writes of the zone attributes (R109, R110) -/

/-- The output channels a zone's configuration names: kind and index (R110). -/
def outChannels (kind idx cnt : Nat) : List (Nat × Nat) :=
  match kind with
  | 0 => []
  | 1 => (List.range (cnt + 1)).map fun i => (1, idx + i)
  | k => [(k, idx)]

/-- The output channels of zone n, with zone m's configuration taken as the value given. -/
def State.zonOuts (s : State) (n m cfg : Nat) : List (Nat × Nat) :=
  if n = m then outChannels (bits cfg 16 2) (bits cfg 18 6) (bits cfg 24 2)
  else outChannels (s.rd (R.ZON_CFG_OUT_KIND n)) (s.rd (R.ZON_CFG_OUT_IDX n)) (s.rd (R.ZON_CFG_OUT_CNT n))

/-- Whether a channel list names a channel twice. -/
def repeats (l : List (Nat × Nat)) : Bool :=
  match l with
  | [] => false
  | x :: rest => rest.contains x || repeats rest

/-- Whether the channels of the enabled zones overlap (R110). -/
def State.zonOverlap (s : State) (en m cfg : Nat) : Bool :=
  repeats (((List.range 48).filter fun n => bit en n).flatMap fun n => s.zonOuts n m cfg)

/-- What a disabled zone keeps: its event entries and its day programs (R109). -/
def zoneKept (z : Zone) : Zone :=
  { seq := z.seq, entries := z.entries, lost := z.lost, gapDue := z.gapDue, days := z.days, newDays := z.newDays }

/-- Disable a zone: its hold and window end, with their entries, and its status returns to the Reset values (R109). -/
def State.zonDisable (s : State) (n : Nat) : State :=
  let s := (s.zonHoldEnd n 3).zonWindowClose n 2
  let s := ((s.clearAttr (0x10A0 + n)).clearAttr (0x1010 + n)).clearAttr (0x10D0 + n)
  s.modZone n zoneKept

/-- Enable a zone: it starts occupied, with the filter to be set by its first valid sample (R111, R121). -/
def State.zonEnable (s : State) (n : Nat) : State := s.wr (R.ZON_STAT_OCC n) 1

/-- The status of a value for a zone attribute: 0 when the field map accepts it. -/
def State.zonCheck (s : State) (id v : Nat) : Nat :=
  let bad (b : Bool) : Nat := if b then stBadParam else stOk
  if id = 0x1000 then
    bad (((List.range 48).any fun n => bit v n && !s.zoneOn n &&
        (s.rd (R.ZON_CFG_SRC_KIND n) == 0 || s.rd (R.ZON_CFG_OUT_KIND n) == 0)) || s.zonOverlap v 48 0)
  else if id = 0x1001 then bad (decide (bits v 0 6 > 59 ∨ bits v 6 11 > 1439 ∨ bits v 17 3 = 7))
  else if id = 0x1003 then bad (decide (bits v 0 12 ≤ bits v 12 12 ∨ bits v 36 12 < bits v 24 12))
  else if 0x1040 ≤ id ∧ id < 0x1070 then
    let n := id - 0x1040
    let kind := bits v 16 2
    let idx := bits v 18 6
    let cnt := bits v 24 2
    bad (decide ((bits v 0 2 = 2 ∧ 15 < bits v 2 6) ∨ bits v 8 2 = 1 ∨ 15 < bits v 10 6 ∨
        (kind = 1 ∧ 47 < idx + cnt) ∨ (kind = 2 ∧ 15 < idx) ∨ (kind = 3 ∧ 7 < idx) ∨ (kind ≠ 1 ∧ cnt ≠ 0) ∨
        bits v 48 12 < bits v 32 12 ∨ 0x100 < bits v 64 12 ∨ bits v 96 12 = 0 ∨ bits v 112 12 = 0) ||
      s.zonOverlap (s.rd R.ZON_ENABLE_EN) n v)
  else if 0x1070 ≤ id ∧ id < 0x10A0 then
    bad (decide (bits v 64 12 = 0 ∨ 43200 < bits v 96 16 ∨ bits v 112 12 = 0))
  else stOk

/-- What a write of a zone attribute does beside setting its fields; `old` is the value before. -/
def State.zonHook (s : State) (id old : Nat) : State :=
  if id = 0x1000 then
    s.each (List.range 48) fun s n =>
      if bit old n && !s.zoneOn n then s.zonDisable n
      else if !bit old n && s.zoneOn n then s.zonEnable n else s
  else if id = 0x1001 then s.wr R.ZON_CLOCK_VALID 1
  else s

end Sys2Proof.Machine
end

