-- ==== Sys2Proof/Machine/Command.lean ====
section
/-!
DEFINITION. Sys2Proof/Machine/Command.lean: how a Spoke command starts and how its checks run (R77, R89, R496,
03_spoke_packets.md), and the saves of stored objects.
-/

namespace Sys2Proof.Machine

/-- The command of a row starts: the tag is in use from its admission to its final reply; a command that waits in the in
queue is marked as started (R77). A row run by itself is taken as admitted (log entry 9). -/
def startUse (op : Nat) (tag : Nat) (payload : Bytes) (loud : Bool) (uses : List Use) : List Use :=
  if uses.any fun u => u.tag == tag then
    uses.map fun u => if u.tag = tag then { u with op := op, payload := payload, started := true } else u
  else uses ++ [{ tag := tag, op := op, payload := payload, started := true, loud := loud }]

/-- Start a command: its reference, and the state with its tag in use. -/
def State.begin (s : State) (c : Cmd) (op : Nat) : Ref × State :=
  (⟨c.ch.val, c.tag.val, op, (s.chan c.ch).epoch⟩,
   s.modChan c.ch fun ch => { ch with uses := startUse op c.tag c.payload s.dbg.loud ch.uses })

/-- Run a command by its row: start it, then do what its opcode does. -/
def State.command (s : State) (c : Cmd) (op : Nat) (f : State → Ref → Bytes → State) : State :=
  let b := s.begin c op
  f b.2 b.1 c.payload

/-- The status of the first check that fails; OK when all pass (R496). -/
def firstBad (checks : List (Bool × Nat)) : Nat :=
  match checks with
  | [] => stOk
  | (bad, status) :: rest => if bad then status else firstBad rest

/-- Go on if every check passes; otherwise the command ends with the status of the first that fails, without effect
(R82, R496). -/
def State.checked (s : State) (r : Ref) (checks : List (Bool × Nat)) (k : State → State) : State :=
  if firstBad checks = stOk then k s else s.finish r (firstBad checks)

/-- The LENGTH checks of an opcode with a fixed length whose first byte must be valid: a payload too short to hold that
byte gives BAD_LENGTH, an unknown value BAD_PARAM, then LENGTH itself is judged (R496). -/
def lengthIs (p : Bytes) (n : Nat) : Bool × Nat := (decide (p.length ≠ n), stBadLength)

/-- A parameter check. -/
def param (bad : Bool) : Bool × Nat := (bad, stBadParam)

/-- A state check. -/
def permitted (ok : Bool) : Bool × Nat := (!ok, stNotPermitted)

/-- Save stored objects with the values they have now: ACCEPTED, then the final reply when the last page commit has ended
(R268, R270, R271). With nothing to save the reply is OK at once. -/
def State.saveObjects (s : State) (r : Ref) (objs : List (Nat × Bytes)) : State :=
  if objs.isEmpty then s.ok r else (s.accepted r).hayAsk 249 (.save (some r) [] objs)

/-- A save made by firmware, for which no command waits. -/
def State.saveFirmware (s : State) (objs : List (Nat × Bytes)) : State := s.hayAsk 249 (.save none [] objs)

end Sys2Proof.Machine
end

