-- ==== Sys2Proof/Machine/Pwm.lean ====
section
/-!
DEFINITION. Sys2Proof/Machine/Pwm.lean: the PWM engine (spec/05_pwm_engine.md): timebases, copies, waveforms, cuts, latches,
events, the Kickstand force on its outputs, and delay-line calibration.
-/

namespace Sys2Proof.Machine

/-- Group g beside its attributes. -/
def State.grp (s : State) (g : Nat) : PwmGrp := mget {} s.pwm.grps g

/-- Update group g. -/
def State.modGrp (s : State) (g : Nat) (f : PwmGrp → PwmGrp) : State := { s with pwm.grps := mmod {} s.pwm.grps g f }

/-- Channel n beside its attributes. -/
def State.pch (s : State) (n : Nat) : PwmCh := mget {} s.pwm.chs n

/-- Update channel n. -/
def State.modPch (s : State) (n : Nat) (f : PwmCh → PwmCh) : State := { s with pwm.chs := mmod {} s.pwm.chs n f }

/-- Whether group g is enabled (R142). -/
def State.grpOn (s : State) (g : Nat) : Bool := bit (s.rd R.PWM_STAT_EN) g

/-- The channels of group g (R134). -/
def channelsOf (g : Nat) : List Nat := (List.range 8).map (· + 8 * g)

/-- PWM cycles in one period of group g: PER x 2^PRESC (R135). -/
def State.grpPeriod (s : State) (g : Nat) : Nat := s.rd (R.PWM_GRP_PER_ACT g) * 2 ^ (s.grp g).presc

/-- The counter of group g (R135). -/
def State.grpCount (s : State) (g : Nat) : Nat := (s.grp g).cnt / 2 ^ (s.grp g).presc

/-- Raise PWM_NOTE (R155). -/
def State.pwmNote (s : State) (kind g ch why : Nat) : State := s.event 0x20 (le 1 kind ++ le 1 g ++ le 1 ch ++ le 1 why)

/-! ### What decides an output (R137, R138, R144, R177) -/

/-- Whether a Kickstand force applies to group g: a cause of R42, a hold under R138, or the period after a restart (R144,
R150). -/
def State.grpForced (s : State) (g : Nat) : Bool :=
  !s.pwr.force.isEmpty || !s.grpOn g || (s.grp g).hold || s.on (R.PWM_GRP_CFG_ERR g)

/-- The Kickstand entry of channel n as it is applied: the all-off image when the check fails (R43). -/
def State.ksEntry (s : State) (n : Nat) : Nat := if s.pwr.ks.bad then 0 else mget 0 s.pwr.ks.chan n

/-- The waveform of Table 5-3 at a count (R137): the output of a channel with these active values. -/
def waveHigh (full : Bool) (on off count : Nat) : Bool :=
  full || (decide (on < off) && decide (on ≤ count) && decide (count < off)) ||
    (decide (off < on) && (decide (on ≤ count) || decide (count < off)))

/-- The level of channel n by Table 5-4: 0 low, 1 high, 2 high-impedance. -/
def State.pwmLevel (s : State) (n : Nat) : Nat :=
  if s.grpForced (n / 8) || s.on (R.PWM_CH_CFG_ERR n) then s.ksEntry n
  else if s.on (R.PWM_CH_LATCHED n) || s.on (R.PWM_CH_CUT_NOW n) then 0
  else b2n (waveHigh (s.pch n).full (s.rd (R.PWM_CH_ON_ACT n)) (s.rd (R.PWM_CH_OFF_ACT n)) (s.grpCount (n / 8)))

/-- Whether a channel has a pulse in each period under Table 5-3. -/
def State.pulses (s : State) (n : Nat) : Bool :=
  (s.pch n).full || decide (s.rd (R.PWM_CH_ON_ACT n) ≠ s.rd (R.PWM_CH_OFF_ACT n))

/-- Each time the Kickstand image is applied its check is tested (R43). -/
def State.ksTest (s : State) : State := s.when s.pwr.ks.bad fun s => s.wr R.PWR_KSTAT_CRC_ERR 1

/-- When a Kickstand force lifts from a valve group, its channels in inrush or hold wait for a fresh inrush (R164). -/
def State.valvesRestart (s : State) (g : Nat) : State :=
  if g < 6 then
    s.each (channelsOf g) fun s n =>
      if s.rd (R.ACT_VLV_STATE n) = 2 ∨ s.rd (R.ACT_VLV_STATE n) = 3 then
        let t := s.ticks
        { s.wrs [(R.ACT_VLV_STATE n, 1), (R.ACT_VLV_LEFT n, 0)] with
          act.valves := mmod {} s.act.valves n fun v => { v with waitAt := t, rose := false } }
      else s
  else s

/-! ### Cuts and latches (R145, R146, R147) -/

/-- Latch a channel off: its bit in PWM_LATCH, and PWM_NOTE (R146). -/
def State.latchOff (s : State) (n why : Nat) : State :=
  if s.on (R.PWM_CH_LATCHED n) then s
  else
    (s.wrs [(R.PWM_CH_LATCHED n, 1), (R.PWM_CH_LATCH_WHY n, why),
      (R.PWM_LATCH_LATCHED, setBit (s.rd R.PWM_LATCH_LATCHED) n true)]).pwmNote 1 (n / 8) n why

/-- The eighth consecutive cut period latches the channel off with LATCH_WHY 2 (R146). -/
def State.cutPeriod (s : State) (n : Nat) : State :=
  if s.rd (R.PWM_CH_CUTS n) < 7 then s.wr (R.PWM_CH_CUTS n) (s.rd (R.PWM_CH_CUTS n) + 1) else s.latchOff n 2

/-- A cut takes effect: low until the next channel period, which counts once as cut (R145, R146). -/
def State.cut (s : State) (n : Nat) : State :=
  if s.on (R.PWM_CH_CUT_NOW n) || s.on (R.PWM_CH_LATCHED n) || !s.pulses n || !s.grpOn (n / 8) || s.pwm.stopped then s
  else (s.wr (R.PWM_CH_CUT_NOW n) 1).cutPeriod n

/-- A channel's rise starts its next channel period: a period that was not cut was clean (R146); a group fault in mode 1
that is asserted suppresses the pulse (R147). -/
def State.rise (s : State) (n : Nat) : State :=
  if s.pulses n then
    let s := if s.on (R.PWM_CH_CUT_NOW n) then s.wr (R.PWM_CH_CUT_NOW n) 0 else s.wr (R.PWM_CH_CUTS n) 0
    let s := if s.on (R.PWM_GRP_FLT_IN (n / 8)) && s.rd (R.PWM_GRP_FLT_MODE (n / 8)) == 1 then s.cut n else s
    if s.rd (R.ACT_VLV_STATE n) == 2 && decide (n < 48) && (s.pch n).full && !s.grpForced (n / 8) && !s.on (R.PWM_CH_CUT_NOW n) then
      { s with act.valves := mmod {} s.act.valves n fun v => { v with rose := true } }
    else s
  else s

/-- GFLTg asserts: FLT_SEEN in every mode; a cut on every channel in mode 1, latches in mode 2 (R147). -/
def State.groupFault (s : State) (g : Nat) : State :=
  if s.on (R.PWM_GRP_FLT_IN g) then s
  else
    let s := s.wrs [(R.PWM_GRP_FLT_IN g, 1), (R.PWM_GRP_FLT_SEEN g, 1)]
    match s.rd (R.PWM_GRP_FLT_MODE g) with
    | 1 => (s.pwmNote 2 g 0xFF 0).each (channelsOf g) State.cut
    | 2 => (s.pwmNote 2 g 0xFF 0).each (channelsOf g) fun s n => s.latchOff n 3
    | _ => s

/-! ### Copies and period boundaries (R135, R138 to R142, R149) -/

/-- Copy a channel's shadow to its active values. -/
def State.copyChannel (s : State) (n : Nat) : State :=
  let s := s.wrs [(R.PWM_CH_ON_ACT n, s.rd (R.PWM_CH_ON n)), (R.PWM_CH_OFF_ACT n, s.rd (R.PWM_CH_OFF n))]
  let s := s.modPch n fun c => { c with
    onF := s.rd (R.PWM_CH_ON_FINE n), offF := s.rd (R.PWM_CH_OFF_FINE n), full := s.on (R.PWM_CH_FULL n), dirty := false }
  if n < 48 then
    { s with act.valves := mmod {} s.act.valves n fun v => { v with limIn := s.rd (R.ACT_VLV_STATE n) == 2 } }
  else s

/-- Copy a group's PER and PRESC. -/
def State.copyGroup (s : State) (g : Nat) : State :=
  (s.wr (R.PWM_GRP_PER_ACT g) (s.rd (R.PWM_GRP_PER g))).modGrp g fun x =>
    { x with presc := s.rd (R.PWM_GRP_PRESC g), dirty := false }

/-- The checks of R138 on the values that are active now. -/
def State.cfgCheck (s : State) (g : Nat) : State :=
  let per := s.rd (R.PWM_GRP_PER_ACT g)
  (s.wrB (R.PWM_GRP_CFG_ERR g) (per == 0)).each (channelsOf g) fun s n =>
    s.wrB (R.PWM_CH_CFG_ERR n)
      (!(s.pch n).full && (decide (per ≤ s.rd (R.PWM_CH_ON_ACT n)) || decide (per ≤ s.rd (R.PWM_CH_OFF_ACT n))))

/-- The copies due at a boundary: everything after a load strobe, otherwise what has landed in mode 0 (R140, R141). -/
def State.copies (s : State) (g : Nat) (all_ : Bool) : State :=
  let full := all_ || s.on (R.PWM_GRP_LOAD_PEND g)
  let mode0 := s.rd (R.PWM_GRP_UPD_MODE g) == 0
  let s := if full || (mode0 && (s.grp g).dirty) then s.copyGroup g else s
  let s := s.each (channelsOf g) fun s n => if full || (mode0 && (s.pch n).dirty) then s.copyChannel n else s
  (if full then s.wr (R.PWM_GRP_LOAD_PEND g) 0 else s).cfgCheck g

/-- PWM_CAL field of a fine group (Table 5-9). -/
def calField (g : Nat) : Nat :=
  match g with
  | 6 => R.PWM_CAL_ELEM6
  | 7 => R.PWM_CAL_ELEM7
  | 8 => R.PWM_CAL_ELEM8
  | _ => R.PWM_CAL_ELEM9

/-- A calibrated standby line becomes the active one (R152). -/
def State.swapLine (s : State) (g : Nat) : State :=
  match (s.grp g).swap with
  | none => s
  | some n => (s.wr (calField g) n).modGrp g fun x => { x with swap := none, passAt := some s.stage }

/-- Set an event flag, with a service request when its enable bit is set (R149). -/
def State.pwmFlag (s : State) (flag enable : Nat) : State :=
  let s := s.wr flag 1
  if s.on enable then { s with pwm.service := true } else s

/-- The counter passes the counts from PWM cycle `lo` up to, not including, `hi` of the present period: channel events, rises
and PRD (R137, R146, R149). -/
def State.pass (s : State) (g lo hi : Nat) : State :=
  let k := 2 ^ (s.grp g).presc
  let reached (c : Nat) : Bool := decide (lo ≤ c * k) && decide (c * k < hi)
  let per := s.rd (R.PWM_GRP_PER_ACT g)
  let s := if decide (0 < per) && reached (per - 1) then s.pwmFlag (R.PWM_GRP_EV_PRD g) (R.PWM_GRP_IE_PRD g) else s
  s.each (channelsOf g) fun s n =>
    let on := s.rd (R.PWM_CH_ON_ACT n)
    let off := s.rd (R.PWM_CH_OFF_ACT n)
    let s := if reached on && decide (on < per) then s.pwmFlag (R.PWM_CH_EV_ON n) (R.PWM_CH_IE_ON n) else s
    let s := if reached off && decide (off < per) then s.pwmFlag (R.PWM_CH_EV_OFF n) (R.PWM_CH_IE_OFF n) else s
    if (if (s.pch n).full then reached 0 else reached on && decide (on < per)) then s.rise n else s

/-- The step to count 0: due copies, the line swap, the end of a hold, ZERO (R135, R140, R141, R149, R150, R152). -/
def State.boundary (s : State) (g : Nat) (all_ : Bool := false) : State :=
  let held := (s.grp g).hold
  let s := ((s.copies g all_).swapLine g).modGrp g fun x => { x with cnt := 0, num := x.num + 1, hold := false }
  let s := if held && s.pwr.force.isEmpty then s.valvesRestart g else s
  let s := s.pwmFlag (R.PWM_GRP_EV_ZERO g) (R.PWM_GRP_IE_ZERO g)
  let s := s.count (R.PWM_GRP_ZERO_CNT g) 0xFFFF 1
  s.pass g 0 1

/-- Further whole periods of a group, counted at once: each is a boundary with nothing left to copy; after nine of
them flags, cuts and latches stand as after any number. -/
def State.periods (s : State) (g n : Nat) : State :=
  if n = 0 then s
  else
    let s := (s.count (R.PWM_GRP_ZERO_CNT g) 0xFFFF n).modGrp g fun x => { x with num := x.num + n }
    s.each (List.range (min n 9)) fun s _ => (s.pass g 1 (s.grpPeriod g)).pass g 0 1

/-- Let a group count for some PWM cycles (R135). -/
def State.grpRun (s : State) (g cycles : Nat) : State :=
  let p := s.grpPeriod g
  let c := (s.grp g).cnt
  if c + cycles < p then (s.pass g (c + 1) (c + cycles + 1)).modGrp g fun x => { x with cnt := c + cycles }
  else
    let s := (s.pass g (c + 1) p).boundary g
    let left := c + cycles - p
    let q := s.grpPeriod g
    if q = 0 then s.count (R.PWM_GRP_ZERO_CNT g) 0xFFFF left
    else
      let s := s.periods g (left / q)
      (s.pass g 1 (left % q + 1)).modGrp g fun x => { x with cnt := left % q }

/-- PWM cycles in the slot that ends: 6,000, and slot 31 takes the trim of the tick (R16). -/
def State.slotCycles (s : State) : Nat :=
  if s.slot = 31 then
    let d := signed 16 (s.rd R.CAD_TRIM_DRIFT)
    let t := s.ticks % 1024
    let k := (t + 1) * d.natAbs / 1024 - t * d.natAbs / 1024
    if 0 ≤ d then 6000 + 8 * k else 6000 - 8 * k
  else 6000

/-- Whether the edge that ends this slot is a sync edge of the group (R136). -/
def State.syncEdge (s : State) (g : Nat) : Bool :=
  s.slot == 31 && (s.rd (R.PWM_GRP_SYNC g) == 1 || (s.rd (R.PWM_GRP_SYNC g) == 2 && s.tick == 15))

/-- The slot that ends passes on every running group; a natural wrap in the last 32 cycles before a sync edge is held, and
the edge forces the counter to 0 (R135, R136). -/
def State.pwmSlot (s : State) : State :=
  if s.pwm.stopped then s
  else s.each ((List.range 12).filter s.grpOn) fun s g =>
    let sync := s.syncEdge g
    let s := s.grpRun g (if sync then s.slotCycles - 32 else s.slotCycles)
    if sync then (s.pass g ((s.grp g).cnt + 1) (min ((s.grp g).cnt + 33) (s.grpPeriod g))).boundary g else s

/-! ### Enabling, strobes, stop and restart (R141, R142, R148, R150) -/

/-- Enable a group: its counter starts at 0, with every shadow copied; the group's Kickstand force lifts (R142, R164). -/
def State.grpEnable (s : State) (g : Nat) : State :=
  if s.grpOn g then s
  else
    let s := s.wr R.PWM_STAT_EN (setBit (s.rd R.PWM_STAT_EN) g true)
    let s := s.boundary g true
    if s.pwr.force.isEmpty then s.valvesRestart g else s

/-- Disable a group: outputs at Kickstand, the counter stopped at 0 (R42, R142). -/
def State.grpDisable (s : State) (g : Nat) : State :=
  if s.grpOn g then
    ((s.wr R.PWM_STAT_EN (setBit (s.rd R.PWM_STAT_EN) g false)).modGrp g fun x => { x with cnt := 0, hold := false }).ksTest
  else s

/-- A load strobe (R141). -/
def State.strobe (s : State) (g : Nat) : State := s.wr (R.PWM_GRP_LOAD_PEND g) 1

/-- Clear a channel's latch and cut count (R148). -/
def State.unlatch (s : State) (n : Nat) : State :=
  let s := s.wrs [(R.PWM_CH_LATCHED n, 0), (R.PWM_CH_LATCH_WHY n, 0), (R.PWM_CH_CUTS n, 0),
    (R.PWM_LATCH_LATCHED, setBit (s.rd R.PWM_LATCH_LATCHED) n false)]
  { s.modPch n fun c => { c with killAt := none } with act.told := setBit s.act.told n false }

/-- The PWM clock stops: counters freeze (R150). -/
def State.pwmStop (s : State) : State := { s with pwm.stopped := true }

/-- The PWM clock restarts: enabled counters start at 0 together, outputs at Kickstand for one period (R150). -/
def State.pwmRestart (s : State) : State :=
  if s.pwm.stopped then
    ({ s with pwm.stopped := false }).each ((List.range 12).filter s.grpOn) fun s g =>
      s.modGrp g fun x => { x with cnt := 0, hold := true }
  else s

/-! ### Delay-line calibration (R152, R153) -/

/-- Calibration of the standby lines ends: a passed line waits for its group's boundary (a disabled group swaps at once); a
line that no count from 32 to 128 spans has failed (R152, R153). -/
def State.calDone (s : State) (lines : List Nat) : State :=
  if s.pwm.calRun then
    ({ s with pwm.calRun := false }).each [6, 7, 8, 9] fun s g =>
      let n := lines.getD (g - 6) 0
      if 32 ≤ n ∧ n ≤ 128 then
        let s := s.modGrp g fun x => { x with standby := n, swap := some n }
        if s.grpOn g && !s.pwm.stopped then s else s.swapLine g
      else ((s.wr R.PWM_STAT_CAL_ERR 1).pwmNote 3 g 0xFF 0).fault clDegrade 0x20 3 0 0
  else s

/-- CAL_STALE (R153): some fine group's active line has not passed a calibration within the last 2 stages. -/
def State.calStale (s : State) : Bool :=
  [6, 7, 8, 9].any fun g => match (s.grp g).passAt with
    | none => true
    | some t => decide (t + 2 < s.stage)

/-- Whether the fine fields of a channel have an effect (R139, R153). -/
def State.fineActs (s : State) (n : Nat) : Bool :=
  decide (48 ≤ n ∧ n < 80) && (s.grp (n / 8)).presc == 0 && s.rd (calField (n / 8)) != 0

end Sys2Proof.Machine
end

