-- ==== Sys2Proof/Machine/Actuators.lean ====
section
/-!
DEFINITION. Sys2Proof/Machine/Actuators.lean: valves, bridges, fans, auxiliary channels and ramp outputs
(spec/06_actuator_channels.md), and the Kickstand force on all of them (R42).
-/

namespace Sys2Proof.Machine

/-- ACT_NOTE (R182). -/
def State.actNote (s : State) (kind unit data : Nat) : State := s.note 0x28 kind unit data

/-- The enabled zone that owns an output: kind 1 valve, 2 bridge, 3 ramp (R109, R110, R156). -/
def State.ownerOf (s : State) (kind idx : Nat) : Option Nat :=
  (List.range 48).find? fun n => s.zoneOn n && (s.zonOuts n 48 0).contains (kind, idx)

/-- The class of a latched valve channel or bridge leg (Table 6-4). -/
def State.latchClass (s : State) (kind idx : Nat) : Nat := if (s.ownerOf kind idx).isSome then clZone else clDegrade

def State.valve (s : State) (n : Nat) : Valve := mget {} s.act.valves n
def State.modValve (s : State) (n : Nat) (f : Valve → Valve) : State := { s with act.valves := mmod {} s.act.valves n f }
def State.vgrp (s : State) (g : Nat) : VGrp := mget {} s.act.vgrps g
def State.modVgrp (s : State) (g : Nat) (f : VGrp → VGrp) : State := { s with act.vgrps := mmod {} s.act.vgrps g f }
def State.bridge (s : State) (k : Nat) : Bridge := mget {} s.act.bridges k
def State.modBridge (s : State) (k : Nat) (f : Bridge → Bridge) : State := { s with act.bridges := mmod {} s.act.bridges k f }
def State.fan (s : State) (f : Nat) : Fan := mget {} s.act.fans f
def State.modFan (s : State) (i : Nat) (f : Fan → Fan) : State := { s with act.fans := mmod {} s.act.fans i f }
def State.ramp (s : State) (v : Nat) : Ramp := mget {} s.act.ramps v
def State.modRamp (s : State) (v : Nat) (f : Ramp → Ramp) : State := { s with act.ramps := mmod {} s.act.ramps v f }

/-! ### Ramp outputs (R172 to R177) -/

/-- Whether the Paddock names this VOUT as the plant VOUT (R177). -/
def State.plantVout (s : State) (v : Nat) : Bool := s.on R.ACT_MIX_PV_EN && s.rd R.ACT_MIX_PLANT_VOUT == v

/-- Write CODE, MOVING and what the DAC receives from the position (R172, R176, R177). -/
def State.rampShow (s : State) (v : Nat) : State :=
  let code := code12 (roundDiv (s.ramp v).p 32)
  let ceil := if s.plantVout v then s.rd R.ACT_MIX_CEIL else 0xFFF
  s.wrs [(R.ACT_VOUT_CODE v, code), (R.ACT_VOUT_MOVING v, b2n (code ≠ s.rd (R.ACT_VOUT_TARGET v))),
    (R.ACT_VOUT_CEILED v, b2n (ceil < code)), (R.ACT_VOUT_DAC v, if s.pwr.adc then min code ceil else 0)]

/-- Move a position toward a goal by at most a step (R172). -/
def approach (p goal step : Nat) : Nat := if p < goal then min goal (p + step) else max goal (p - step)

/-- One slot edge of a ramp: a new target takes effect, and P moves toward it; with REF stopped it steps (R172, R173,
R175). -/
def State.rampStep (s : State) (v : Nat) : State :=
  let s := match (s.ramp v).next with
    | none => s
    | some t => (s.wr (R.ACT_VOUT_TARGET v) t).modRamp v fun x => { x with next := none }
  let goal := 32 * s.rd (R.ACT_VOUT_TARGET v)
  let step := if !s.cad.refOn then 131072 else if (s.ramp v).ks then 64 else s.rd (R.ACT_VOUT_SLEW v)
  (s.modRamp v fun x => { x with p := approach x.p goal step }).rampShow v

/-- The ramp engine at a slot edge. -/
def State.rampSlot (s : State) : State := s.each (List.range 8) State.rampStep

/-- An ACT_RAMP has arrived: its reply follows at the first ACT_UPD after CODE equals its TARGET (R173). -/
def State.rampArrived (s : State) (v : Nat) : State :=
  match (s.ramp v).cmd, (s.ramp v).next with
  | some r, none =>
    if s.rd (R.ACT_VOUT_CODE v) = s.rd (R.ACT_VOUT_TARGET v) then
      (s.modRamp v fun x => { x with cmd := none }).ok r
    else s
  | _, _ => s

/-- Retarget a ramp by command; a pending command to it is superseded (R173). -/
def State.rampTo (s : State) (v target : Nat) (r : Ref) : State :=
  let old := (s.ramp v).cmd
  let s := s.modRamp v fun x => { x with next := some target, cmd := some r, ks := false, zone := false }
  s.finish? old stSuperseded

/-- Zone-driven ramps: the demand is the target; an output that loses its zone goes to 0x000 (R174). -/
def State.rampZone (s : State) (v : Nat) : State :=
  match s.ownerOf 3 v with
  | some n =>
    let d := s.demand n
    if s.pwr.force.isEmpty then
      s.modRamp v fun x => { x with next := if s.rd (R.ACT_VOUT_TARGET v) = d then x.next else some d, ks := false, zone := true }
    else s
  | none => if (s.ramp v).zone then s.modRamp v fun x => { x with next := some 0, zone := false } else s

/-- Every VOUT has arrived (R498). -/
def State.voutsArrived (s : State) : Bool :=
  (List.range 8).all fun v => (s.ramp v).next.isNone && s.rd (R.ACT_VOUT_CODE v) == s.rd (R.ACT_VOUT_TARGET v)

/-! ### Bridges (R165 to R170) -/

/-- Whether the Paddock holds low the leg a bridge drives in a direction (R166, R177). -/
def State.legHeld (s : State) (k dir : Nat) : Bool :=
  s.on R.ACT_MIX_INHIBIT && s.rd R.ACT_MIX_BRIDGE == k && decide (dir = 1 + s.rd R.ACT_MIX_HOT_LEG)

/-- The position after one tick of drive: 4,096 / (16 x RUN_T) codes (R165). -/
def State.bridgePos (s : State) (k dir : Nat) : State :=
  if s.legHeld k dir then s
  else
    let run := max 1 (s.rd (R.ACT_BR_RUN_T k))
    let at_ := s.rd (R.ACT_BR_POS k) * run + (s.bridge k).frac
    let new := if dir = 1 then min (0xFFF * run) (at_ + 256) else at_ - 256
    (s.wr (R.ACT_BR_POS k) (new / run)).modBridge k fun b => { b with frac := new % run }

/-- What a bridge remembers of a move that ends now. -/
def State.bridgeStopped (s : State) (k : Nat) : State :=
  let t := s.ticks
  let drove := s.rd (R.ACT_BR_STATE k) == 1 || s.rd (R.ACT_BR_STATE k) == 2
  let s := s.modBridge k fun b =>
    { b with lastDir := if drove then b.dir else b.lastDir, lastEnd := if drove then some t else b.lastEnd, dir := 0, cmd := none,
             endRun := false, ticks := 0, coast := 0 }
  (s.wrs [(R.ACT_BR_STATE k, 0), (R.ACT_BR_LEFT k, 0)]).escEnd (.reversal k)

/-- End a bridge's move, reversal or wait, its command with a status. -/
def State.bridgeEnd (s : State) (k status : Nat) : State := (s.bridgeStopped k).finish? (s.bridge k).cmd status

/-- A move or end run has used its ticks (R166): an end run sets POS and POS_OK. -/
def State.bridgeMoveEnd (s : State) (k : Nat) : State :=
  if (s.rd (R.ACT_BR_STATE k) = 1 ∨ s.rd (R.ACT_BR_STATE k) = 2) ∧ s.rd (R.ACT_BR_LEFT k) = 0 then
    let s := if (s.bridge k).endRun then
        (s.wrs [(R.ACT_BR_POS k, if (s.bridge k).dir = 1 then 0xFFF else 0), (R.ACT_BR_POS_OK k, 1)]).modBridge k fun b =>
          { b with frac := 0 }
      else s
    s.bridgeEnd k stOk
  else s

/-- The reversal coast ends: the bridge drives in its new direction, and the escrow ends (R167). -/
def State.coastEnd (s : State) (k : Nat) : State :=
  if s.rd (R.ACT_BR_STATE k) = 3 ∧ (s.bridge k).coast = 0 then
    (s.wrs [(R.ACT_BR_STATE k, (s.bridge k).dir), (R.ACT_BR_LEFT k, (s.bridge k).ticks)]).escEnd (.reversal k)
  else s

/-- A reversal that has not been admitted ends: ACT_NOTE kind 9, a NOTE fault, and FAULT for its command (R167). -/
def State.reversalFail (s : State) (k : Nat) : State :=
  if s.rd (R.ACT_BR_STATE k) = 4 then
    ((s.bridgeEnd k stFault).actNote 9 k 0).fault clNote 0x24 9 k 0
  else s

/-- Whether a bridge's reversal has waited 1,024 ticks (R167). -/
def State.reversalExpired (s : State) (k : Nat) : Bool :=
  s.pwr.wait.any fun r => decide (r.kind = .reversal k ∧ r.since + 1024 ≤ s.ticks)

/-- GAUGE has admitted a reversal: it coasts for COAST ticks (R167). -/
def State.reversalAdmitted (s : State) (k : Nat) : State :=
  (s.wr (R.ACT_BR_STATE k) 3).modBridge k fun b => { b with coast := s.rd (R.ACT_BR_COAST k) }

/-- Start a move: an earlier one is superseded; a reversal waits for escrow in state 4, other moves drive at once (R166,
R167). -/
def State.bridgeStart (s : State) (k dir ticks : Nat) (endRun : Bool) (cmd : Option Ref) : State :=
  let busy := s.rd (R.ACT_BR_STATE k) != 0
  let s := if busy then s.bridgeEnd k stSuperseded else s
  let b := s.bridge k
  let reversal := decide (b.lastDir ≠ 0 ∧ b.lastDir ≠ dir) && (match b.lastEnd with
    | none => false
    | some t => (busy && t == s.ticks) || decide (s.ticks < t + s.rd (R.ACT_BR_COAST k)))
  let s := s.modBridge k fun b => { b with cmd := cmd, dir := dir, endRun := endRun, ticks := ticks }
  if reversal then
    let s := s.wr (R.ACT_BR_STATE k) 4
    if s.gatesClosed then s.reversalFail k else s.escAsk 2 (s.rd R.PWR_CLASS_COST_C) (.reversal k)
  else s.wrs [(R.ACT_BR_STATE k, dir), (R.ACT_BR_LEFT k, ticks)]

/-- Ticks of an end run: RUN_T x 9/8 laps (R165). -/
def State.endRunTicks (s : State) (k : Nat) : Nat := 18 * s.rd (R.ACT_BR_RUN_T k)

/-- What a zone's demand asks of its bridge at an ACT_UPD run (R166). -/
def State.bridgeZone (s : State) (k n : Nat) : State :=
  let d := s.demand n
  let pos := s.rd (R.ACT_BR_POS k)
  let idle := s.rd (R.ACT_BR_STATE k) == 0
  let running (dir : Nat) : Bool := !idle && (s.bridge k).endRun && (s.bridge k).dir == dir
  if !s.on (R.ACT_BR_POS_OK k) then if idle then s.bridgeStart k 2 (s.endRunTicks k) true none else s
  else if d = 0 ∧ pos ≠ 0 then if running 2 then s else s.bridgeStart k 2 (s.endRunTicks k) true none
  else if d = 0xFFF ∧ pos ≠ 0xFFF then if running 1 then s else s.bridgeStart k 1 (s.endRunTicks k) true none
  else
    let diff := if d < pos then pos - d else d - pos
    if idle && decide (s.rd (R.ACT_BR_DEADBAND k) ≤ diff) then
      s.bridgeStart k (if pos < d then 1 else 2) (roundDiv (diff * 16 * s.rd (R.ACT_BR_RUN_T k) : Nat) 4096).toNat false none
    else s

/-- One tick of a bridge at ACT_UPD (R165 to R167). -/
def State.bridgeTick (s : State) (k : Nat) : State :=
  let st := s.rd (R.ACT_BR_STATE k)
  let s := if st = 1 ∨ st = 2 then
      ((s.bridgePos k st).wr (R.ACT_BR_LEFT k) (s.rd (R.ACT_BR_LEFT k) - 1)).bridgeMoveEnd k
    else if st = 3 then (s.modBridge k fun b => { b with coast := b.coast - 1 }).coastEnd k
    else if st = 4 ∧ s.reversalExpired k then s.reversalFail k
    else s
  if s.rd (R.ACT_BR_STATE k) < 5 then
    match s.ownerOf 2 k with
    | some n => if s.pwr.force.isEmpty then s.bridgeZone k n else s
    | none => s
  else s

/-- A leg has latched: state 5, the move ends with FAULT, POS_OK = 0 (R168). -/
def State.legLatched (s : State) (k : Nat) : State :=
  if s.rd (R.ACT_BR_STATE k) < 5 then (s.bridgeEnd k stFault).wrs [(R.ACT_BR_STATE k, 5), (R.ACT_BR_POS_OK k, 0)] else s

/-- Kills on both legs close together: state 6, ACT_NOTE kind 1, a PLANT fault (R169). -/
def State.bridgeShort (s : State) (k : Nat) : State :=
  let s := (s.legLatched k).wr (R.ACT_BR_STATE k) 6
  let s := { s with act.told := setBit (setBit s.act.told (48 + 2 * k) true) (49 + 2 * k) true }
  (s.actNote 1 k 0).fault clPlant 0x24 1 k 0

/-- ACT_BR_CLEAR: both legs' latches and cut counts, state 0, POS_OK 0; a move under way ends (R170). -/
def State.bridgeClear (s : State) (k : Nat) : State :=
  let s := if s.rd (R.ACT_BR_STATE k) ≠ 0 ∧ s.rd (R.ACT_BR_STATE k) < 5 then s.bridgeEnd k stSuperseded else s
  ((s.unlatch (48 + 2 * k)).unlatch (49 + 2 * k)).wrs [(R.ACT_BR_STATE k, 0), (R.ACT_BR_POS_OK k, 0)]

/-! ### Valve channels (R159 to R164) -/

/-- The on-time t in stages for a demand (R159). -/
def onStages (d cycle minOn : Nat) : Nat :=
  let t := (roundDiv (d * cycle : Nat) 4096).toNat
  let t := if t < minOn then 0 else t
  if cycle - t < minOn then cycle else t

/-- The demand of a valve channel (Table 6-1, R159). -/
def State.valveDemand (s : State) (n : Nat) : Nat :=
  match s.ownerOf 1 n with
  | some z => s.demand z
  | none => (s.valve n).cmd

/-- Turn a valve channel off. -/
def State.valveOff (s : State) (n : Nat) : State :=
  (s.wrs [(R.ACT_VLV_STATE n, 0), (R.ACT_VLV_LEFT n, 0)]).modValve n fun v => { v with rose := false }

/-- A channel due to turn on waits for an inrush place (R160). -/
def State.valveWait (s : State) (n : Nat) : State :=
  let t := s.ticks
  (s.wrs [(R.ACT_VLV_STATE n, 1), (R.ACT_VLV_LEFT n, 0)]).modValve n fun v => { v with waitAt := t, rose := false }

/-- A cycle starts: demand is sampled and t computed; a channel that is on goes on (R159). -/
def State.cycleStart (s : State) (n : Nat) : State :=
  let d := s.rd (R.ACT_VLV_DEMAND n)
  let cycle := s.rd (R.ACT_VLV_CYCLE n)
  let t := onStages d cycle (s.rd (R.ACT_VLV_MIN_ON n))
  let now := s.ticks
  let s := s.modValve n fun v => { v with cycling := true, cycEnd := now + 1024 * cycle, onEnd := now + 1024 * t }
  if t = 0 then s.valveOff n else if s.rd (R.ACT_VLV_STATE n) = 0 then s.valveWait n else s

/-- The on-time within the cycle ends (R159). -/
def State.onTimeEnd (s : State) (n : Nat) : State :=
  if (s.valve n).cycling && decide ((s.valve n).onEnd ≤ s.ticks) && s.rd (R.ACT_VLV_STATE n) != 4 then s.valveOff n else s

/-- Take the demand and follow the cycle at an ACT_UPD run (R159). -/
def State.valveCycle (s : State) (n : Nat) : State :=
  let d := s.valveDemand n
  let s := s.wrs [(R.ACT_VLV_DEMAND n, d), (R.ACT_VLV_ZONE_OWN n, b2n (s.ownerOf 1 n).isSome)]
  if s.rd (R.ACT_VLV_STATE n) = 4 then s
  else if d = 0 then
    if (s.valve n).cycling then (s.valveOff n).modValve n fun v => { v with cycling := false } else s
  else if !(s.valve n).cycling || decide ((s.valve n).cycEnd ≤ s.ticks) then s.cycleStart n
  else s.onTimeEnd n

/-- The inrush timer has run out: the hold values are committed (R161). -/
def State.inrushEnd (s : State) (n : Nat) : State :=
  if s.rd (R.ACT_VLV_STATE n) = 2 ∧ s.rd (R.ACT_VLV_LEFT n) = 0 then s.wr (R.ACT_VLV_STATE n) 3 else s

/-- One ACT_UPD run of a channel's inrush timer (R161). -/
def State.inrushTick (s : State) (n : Nat) : State :=
  if s.rd (R.ACT_VLV_STATE n) == 2 && (s.valve n).rose && !s.on (R.ACT_VGRP_RECOV (n / 8)) then
    (s.wr (R.ACT_VLV_LEFT n) (s.rd (R.ACT_VLV_LEFT n) - 1)).inrushEnd n
  else s

/-- Channels of a group in inrush. -/
def State.inrushCount (s : State) (g : Nat) : Nat := ((channelsOf g).filter fun n => s.rd (R.ACT_VLV_STATE n) == 2).length

/-- The waiting channel that has waited longest, the lower number first (R160). -/
def State.nextWaiting (s : State) (g : Nat) : Option Nat :=
  ((channelsOf g).filter fun n => s.rd (R.ACT_VLV_STATE n) == 1).foldl (fun best n => match best with
    | none => some n
    | some m => if (s.valve n).waitAt < (s.valve m).waitAt then some n else some m) none

/-- Grant one free inrush place of a group (R160). -/
def State.grantOne (s : State) (g : Nat) : State :=
  if s.on (R.ACT_VGRP_RECOV g) || decide (2 ≤ s.inrushCount g) then s
  else match s.nextWaiting g with
    | none => s
    | some n =>
      (s.wrs [(R.ACT_VLV_STATE n, 2), (R.ACT_VLV_LEFT n, s.rd (R.ACT_VLV_INRUSH_T n))]).modValve n fun v => { v with rose := false }

/-! ### Group recovery (R162, R163) -/

/-- Group recovery starts (R162). -/
def State.recoveryStart (s : State) (g : Nat) : State :=
  if s.on (R.ACT_VGRP_RECOV g) then s
  else (s.wrs [(R.ACT_VGRP_RECOV g, 1), (R.ACT_VGRP_PAUSED g, 0)]).modVgrp g fun x => { x with runs := 0, short := none }

/-- A kill request has latched a valve channel: its group recovers, attributed to it (R162). -/
def State.valveKilled (s : State) (n : Nat) : State :=
  (s.recoveryStart (n / 8)).modVgrp (n / 8) fun x => { x with short := some (n % 8) }

/-- Recovery ends; at its tenth run with GSNSg still high the group is disabled (R162, R163). -/
def State.recoveryEnd (s : State) (g : Nat) (tenth : Bool) : State :=
  if s.on (R.ACT_VGRP_RECOV g) then
    let paused := s.rd (R.ACT_VGRP_PAUSED g)
    let s := (s.wr (R.ACT_VGRP_RECOV g) 0).actNote 4 g paused
    let s := match (s.vgrp g).short with
      | some c => s.wrs [(R.ACT_VGRP_LAST_SHORT g, c), (R.ACT_VGRP_LS_VALID g, 1)]
      | none => ((s.wr R.ACT_STAT_VG_OVER (setBit (s.rd R.ACT_STAT_VG_OVER) g true)).actNote 5 g 0).fault clDegrade 0x24 5 g 0
    let s := s.modVgrp g fun x => { x with runs := 0, short := none }
    if tenth && s.on (R.ACT_VGRP_GSNS_HI g) then ((s.grpDisable g).actNote 6 g 0).fault clPlant 0x24 6 g 0 else s
  else s

/-- One ACT_UPD run of a group in recovery (R162). -/
def State.recoveryTick (s : State) (g : Nat) : State :=
  if s.on (R.ACT_VGRP_RECOV g) then
    let runs := (s.vgrp g).runs + 1
    let s := s.modVgrp g fun x => { x with runs := runs }
    if 17 ≤ (s.vgrp g).low then s.recoveryEnd g false
    else if 10 ≤ runs then s.recoveryEnd g true
    else s.wr (R.ACT_VGRP_PAUSED g) runs
  else s

/-- The group comparators over the slot that ends (R158, R162): a trip starts recovery. -/
def State.gsnsSlot (s : State) (levels : Nat) : State :=
  s.each (List.range 6) fun s g =>
    if bit levels g then
      let s := if s.on (R.ACT_VGRP_GSNS_HI g) then s else s.recoveryStart g
      (s.wr (R.ACT_VGRP_GSNS_HI g) 1).modVgrp g fun x => { x with low := 0 }
    else (s.wr (R.ACT_VGRP_GSNS_HI g) 0).modVgrp g fun x => { x with low := min 17 (x.low + 1) }

/-! ### Latches as ACT_UPD finds them (R162, R168, Table 6-4) -/

/-- Deal with a newly latched channel: its state, its note and its fault (R162, R168, R180, R182). -/
def State.latchSeen (s : State) (n : Nat) : State :=
  if s.on (R.PWM_CH_LATCHED n) && !bit s.act.told n then
    let s := { s with act.told := setBit s.act.told n true }
    if n < 48 then
      let g := n / 8
      let s := s.wrs [(R.ACT_VLV_STATE n, 4), (R.ACT_VLV_LEFT n, 0)]
      let s := if (s.vgrp g).short = some (n % 8) then s.wrs [(R.ACT_VGRP_LAST_SHORT g, n % 8), (R.ACT_VGRP_LS_VALID g, 1)] else s
      (s.actNote 3 n g).fault (s.latchClass 1 n) 0x24 3 n g
    else if n < 80 then
      let k := (n - 48) / 2
      ((s.legLatched k).actNote 2 k (n % 2)).fault (s.latchClass 2 k) 0x24 2 k (n % 2)
    else if n < 91 then s.fault clDegrade 0x24 0 0 0
    else s
  else s

/-- A valve channel's latch is cleared: the group's channels in inrush or hold wait afresh, and so does the channel itself
if its on-time still runs (R148, R164). -/
def State.valveUnlatch (s : State) (n : Nat) : State :=
  let s := s.unlatch n
  if n < 48 ∧ s.rd (R.ACT_VLV_STATE n) = 4 then
    let s := s.valvesRestart (n / 8)
    if (s.valve n).cycling && decide (s.ticks < (s.valve n).onEnd) then s.valveWait n else s.valveOff n
  else s

/-! ### Fans (R171) -/

/-- Whether a fan's output is not off. -/
def State.fanDriven (s : State) (f : Nat) : Bool := s.on (R.ACT_FAN_FULL f) || s.rd (R.ACT_FAN_DUTY f) != 0

/-- A fan has stayed below RPM_MIN for STALL_T stages (R171). -/
def State.fanStall (s : State) (f : Nat) : State :=
  if decide (s.rd (R.ACT_FAN_STALL_T f) ≤ (s.fan f).slow) && decide (0 < (s.fan f).slow) && !s.on (R.ACT_FAN_STALL f) then
    let rpm := s.rd (R.ACT_FAN_RPM f)
    ((s.wr (R.ACT_FAN_STALL f) 1).actNote 7 f rpm).fault clDegrade 0x24 7 f rpm
  else s

/-- The tachometer count of the stage that ends (R171). -/
def State.fanStage (s : State) (f count : Nat) : State :=
  let rpm := min 0xFFFF (count * 60 / (s.rd (R.ACT_FAN_PPR f) + 1))
  let s := s.wr (R.ACT_FAN_RPM f) rpm
  let min_ := s.rd (R.ACT_FAN_RPM_MIN f)
  if s.on (R.ACT_FAN_STALL f) && decide (min_ ≤ rpm) then
    ((s.wr (R.ACT_FAN_STALL f) 0).modFan f fun x => { x with slow := 0 }).actNote 8 f rpm
  else if !s.fanDriven f || decide (min_ ≤ rpm) then s.modFan f fun x => { x with slow := 0, grace := x.grace - 1 }
  else if 0 < (s.fan f).grace then s.modFan f fun x => { x with grace := x.grace - 1 }
  else (s.modFan f fun x => { x with slow := min 15 (x.slow + 1) }).fanStall f

/-- Set a fan's duty or full; the first STALL_T stages after it leaves off are not judged (R171). -/
def State.fanSet (s : State) (f duty : Nat) (full : Bool) : State :=
  let was := s.fanDriven f
  let s := s.wrs [(R.ACT_FAN_DUTY f, duty), (R.ACT_FAN_FULL f, b2n full)]
  if !was && s.fanDriven f then s.modFan f fun x => { x with grace := s.rd (R.ACT_FAN_STALL_T f), slow := 0 } else s

/-! ### Compare values (R157, R165) -/

/-- The output state of a channel as its actuator asks: off is (0, false), full is (0, true), otherwise a duty. -/
def State.wanted (s : State) (n : Nat) : Nat × Bool :=
  if n < 48 then
    match s.rd (R.ACT_VLV_STATE n) with
    | 2 => (0, true)
    | 3 => (s.rd (R.ACT_VLV_HOLD n), false)
    | _ => (0, false)
  else if n < 80 then
    let k := (n - 48) / 2
    (if s.rd (R.ACT_BR_STATE k) = n % 2 + 1 then s.rd (R.ACT_BR_DUTY k) else 0, false)
  else if n < 88 then (s.rd (R.ACT_FAN_DUTY (n - 80)), s.on (R.ACT_FAN_FULL (n - 80)))
  else (s.rd (R.ACT_AUX_DUTY (n - 88)), s.on (R.ACT_AUX_FULL (n - 88)))

/-- Write a channel's compare values to its shadow (R157, R140). -/
def State.drive (s : State) (n : Nat) : State :=
  let w := s.wanted n
  let off := (roundDiv (w.1 * s.rd (R.PWM_GRP_PER_ACT (n / 8)) : Nat) 4096).toNat
  if s.rd (R.PWM_CH_ON n) = 0 ∧ s.rd (R.PWM_CH_OFF n) = off ∧ s.rd (R.PWM_CH_ON_FINE n) = 0 ∧ s.rd (R.PWM_CH_OFF_FINE n) = 0 ∧
      s.on (R.PWM_CH_FULL n) = w.2 then s
  else
    (s.wrs [(R.PWM_CH_ON n, 0), (R.PWM_CH_OFF n, off), (R.PWM_CH_ON_FINE n, 0), (R.PWM_CH_OFF_FINE n, 0),
      (R.PWM_CH_FULL n, b2n w.2)]).modPch n fun c => { c with dirty := true }

/-- The load strobes that end an ACT_UPD commit: the load-all groups it has changed (R141). -/
def State.strobes (s : State) : State :=
  s.each (List.range 12) fun s g =>
    if s.rd (R.PWM_GRP_UPD_MODE g) == 1 && (channelsOf g).any fun n => (s.pch n).dirty && decide (n < 91) then s.strobe g else s

/-! ### Commands in queues 224 to 228 (R157, R181) -/

/-- ZONE-bound, power-fail sequence or DEBUG_HOLD (R181). -/
def State.actRefused (s : State) : Bool := s.on R.PWR_STAT_PFSEQ || s.dbg.halted != 0

/-- What ACT_CMD checks in a command; OK lets it go to the next ACT_UPD commit (R181, Table 6-16). -/
def State.actCheck (s : State) (op : Nat) (p : Bytes) : Nat :=
  let dut := u16 p 2
  match op with
  | 0x28 => firstBad [lengthIs p 4, param (decide (47 < u8 p 0 ∨ 4095 < dut)), permitted (!s.actRefused && (s.ownerOf 1 (u8 p 0)).isNone)]
  | 0x29 => firstBad [lengthIs p 4,
      param (decide (15 < u8 p 0 ∨ 4 < u8 p 1) || (decide (u8 p 1 = 1 ∨ u8 p 1 = 2) && decide (dut = 0)) ||
        (decide (u8 p 1 ≠ 1 ∧ u8 p 1 ≠ 2) && decide (dut ≠ 0))),
      permitted (!s.actRefused && (s.ownerOf 2 (u8 p 0)).isNone && decide (s.rd (R.ACT_BR_STATE (u8 p 0)) < 5))]
  | 0x2A => firstBad [lengthIs p 1, param (decide (15 < u8 p 0)), permitted (s.dbg.halted == 0)]
  | 0x2B => firstBad [lengthIs p 4, param (decide (7 < u8 p 0 ∨ 1 < u8 p 1 ∨ 4095 < dut) || (u8 p 1 == 1 && dut != 0)),
      permitted (!s.actRefused)]
  | 0x2C => firstBad [lengthIs p 4, param (decide (7 < u8 p 0 ∨ 4095 < dut)), permitted (!s.actRefused && (s.ownerOf 3 (u8 p 0)).isNone)]
  | _ => firstBad [lengthIs p 4, param (decide (2 < u8 p 0 ∨ 1 < u8 p 1 ∨ 4095 < dut) || (u8 p 1 == 1 && dut != 0)),
      permitted (!s.actRefused)]

/-- The queue of an actuator opcode: 0 valves, 1 bridges, 2 fans, 3 ramps, 4 auxiliary channels (R157). -/
def actQueue (op : Nat) : Nat :=
  match op with
  | 0x28 => 0
  | 0x29 => 1
  | 0x2A => 1
  | 0x2B => 2
  | 0x2C => 3
  | _ => 4

/-- SPOKE places an actuator command in its queue, 16 deep (R157, Table 3-6). -/
def State.actPlace (s : State) (r : Ref) (p : Bytes) : State :=
  let q := mget [] s.act.queues (actQueue r.op)
  if 16 ≤ q.length then s.finish r stQueueFull
  else { s with act.queues := mput [] s.act.queues (actQueue r.op) (q ++ [⟨r, p⟩]) }

/-- ACT_CMD takes a command from its queue and checks it; interim replies are posted here (R157, R181). -/
def State.actTake (s : State) (c : ActReq) : State :=
  let st := s.actCheck c.cmd.op c.payload
  if st ≠ stOk then s.finish c.cmd st
  else
    let wait := (c.cmd.op == 0x29 && u8 c.payload 1 != 0) ||
      (c.cmd.op == 0x2C && decide (u16 c.payload 2 ≠ s.rd (R.ACT_VOUT_CODE (u8 c.payload 0))))
    let s := if wait then s.accepted c.cmd else s
    { s with act.taken := s.act.taken ++ [c] }

/-- The ACT_CMD job (R157). -/
def State.actCmd (s : State) : State :=
  (({ s with act.queues := [] }).each (s.act.queues.flatMap fun (e : Nat × List ActReq) => e.2) State.actTake)

/-- A command takes effect at the commit of ACT_UPD (R157). -/
def State.actApply (s : State) (c : ActReq) : State :=
  let p := c.payload
  let i := u8 p 0
  match c.cmd.op with
  | 0x28 => (s.modValve i fun v => { v with cmd := u16 p 2 }).ok c.cmd
  | 0x29 => match u8 p 1 with
    | 0 => (if s.rd (R.ACT_BR_STATE i) ≠ 0 ∧ s.rd (R.ACT_BR_STATE i) < 5 then s.bridgeEnd i stSuperseded else s).ok c.cmd
    | 1 => s.bridgeStart i 1 (u16 p 2) false (some c.cmd)
    | 2 => s.bridgeStart i 2 (u16 p 2) false (some c.cmd)
    | 3 => s.bridgeStart i 1 (s.endRunTicks i) true (some c.cmd)
    | _ => s.bridgeStart i 2 (s.endRunTicks i) true (some c.cmd)
  | 0x2A => (s.bridgeClear i).ok c.cmd
  | 0x2B => (s.fanSet i (u16 p 2) (u8 p 1 == 1)).ok c.cmd
  | 0x2C =>
    if u16 p 2 = s.rd (R.ACT_VOUT_CODE i) then
      let s := (s.rampTo i (u16 p 2) c.cmd).modRamp i fun x => { x with cmd := none }
      s.ok c.cmd
    else s.rampTo i (u16 p 2) c.cmd
  | _ => (s.wrs [(R.ACT_AUX_DUTY i, u16 p 2), (R.ACT_AUX_FULL i, u8 p 1 % 2)]).ok c.cmd

/-- The ACT_UPD job (Table 6-5): latches, recoveries, commands, valves, bridges, ramps, compare values and strobes. -/
def State.actUpd (s : State) : State :=
  let s := { s with pwm.service := false }
  let s := (s.each (List.range 91) State.latchSeen).each (List.range 6) State.recoveryTick
  let s := (s.each (List.range 8) State.rampArrived)
  let s := ({ s with act.taken := [] }).each s.act.taken State.actApply
  let s := (s.each (List.range 48) State.valveCycle).each (List.range 48) State.inrushTick
  let s := s.each (List.range 6) fun s g => (s.grantOne g).grantOne g
  let s := (s.each (List.range 16) State.bridgeTick).each (List.range 8) State.rampZone
  (s.each (List.range 91) State.drive).strobes

/-! ### The Kickstand force (R42, R175, corners of 06_actuator_channels.md) -/

/-- A force ends every bridge move and every ACT_RAMP with FAULT. -/
def State.forceEnds (s : State) (bridges ramps : List Nat) : State :=
  let s := s.each bridges fun s k =>
    if s.rd (R.ACT_BR_STATE k) ≠ 0 ∧ s.rd (R.ACT_BR_STATE k) < 5 then (s.bridgeEnd k stFault).wr (R.ACT_BR_POS_OK k) 0 else s
  s.each ramps fun s v => (s.modRamp v fun x => { x with cmd := none }).finish? (s.ramp v).cmd stFault

/-- A cause of R42 other than a group disable applies the whole image: PWM outputs at Kickstand, each VOUT toward its
Kickstand code (R42, R43, R175). -/
def State.forceOn (s : State) (why : Nat) : State :=
  if s.pwr.force.contains why then s
  else
    let s := { s.ksTest with pwr.force := why :: s.pwr.force }
    let s := s.forceEnds (List.range 16) (List.range 8)
    s.each (List.range 8) fun s v =>
      let code := if s.pwr.ks.bad then 0 else mget 0 s.pwr.ks.ramp v
      (s.wr (R.ACT_VOUT_TARGET v) code).modRamp v fun x => { x with next := none, ks := true, zone := false }

/-- A cause ends. When the last one does, outputs follow R144 again: at once where counters do not run, otherwise from the
group's next boundary (R150, R164, R175). -/
def State.forceOff (s : State) (why : Nat) (hold : Bool) : State :=
  if s.pwr.force.contains why then
    let s := { s with pwr.force := s.pwr.force.filter (· != why) }
    if s.pwr.force.isEmpty then
      let s := s.each (List.range 8) fun s v => s.modRamp v fun x => { x with ks := false }
      s.each (List.range 12) fun s g =>
        if s.grpOn g && hold then s.modGrp g fun x => { x with hold := true } else s.valvesRestart g
    else s
  else s

/-- A group disable applies only the group's channel entries (R42): the moves of its bridges end. -/
def State.groupOff (s : State) (g : Nat) : State :=
  let on := s.grpOn g
  let s := s.grpDisable g
  if on then s.forceEnds ((List.range 16).filter fun k => (48 + 2 * k) / 8 == g) [] else s

end Sys2Proof.Machine
end

