-- ==== Sys2Proof/Machine/PwmCommands.lean ====
section
/-!
DEFINITION. Sys2Proof/Machine/PwmCommands.lean: the rows of spec/05_pwm_engine.md.
-/

namespace Sys2Proof.Machine

/-- PERIOD_BOUNDARY (R135, R140, R141): the counter of an enabled group wraps to 0 while the PWM clock runs. -/
def execPeriodBoundary (g : Fin 12) (s : State) : Host.Outcome State Fault Refusal :=
  .next (if s.grpOn g && !s.pwm.stopped then s.boundary g else s)

/-- CUT_REQUEST (R145): an unblanked LIMIT cut request of a channel with a sense comparator (groups 0 to 9). -/
def execCutRequest (ch : Fin 96) (s : State) : Host.Outcome State Fault Refusal :=
  .next (if ch.val < 80 then s.cut ch else s)

/-- Whether two kill requests of one bridge lie in the same group period or within 1 us, 197 PWM cycles (R169). -/
def killsTogether (a b : Nat × Nat) : Bool := a.2 == b.2 || decide (a.1 ≤ b.1 + 196 ∧ b.1 ≤ a.1 + 196)

/-- A HARD kill request (R146, R162, R168, R169). -/
def State.kill (s : State) (n cycle : Nat) : State :=
  let at_ := (cycle, (s.grp (n / 8)).num)
  let s := (s.latchOff n 1).modPch n fun c => { c with killAt := some at_ }
  if n < 48 then s.valveKilled n
  else
    let k := (n - 48) / 2
    match (s.pch (if n % 2 = 0 then n + 1 else n - 1)).killAt with
    | some other => if killsTogether at_ other then s.bridgeShort k else s.legLatched k
    | none => s.legLatched k

/-- KILL_REQUEST (R146): blanking does not matter; it bears on the channels that have a HARD comparator. -/
def execKillRequest (ch : Fin 96) (cycle : Nat) (s : State) : Host.Outcome State Fault Refusal :=
  .next (if ch.val < 80 then s.kill ch cycle else s)

/-- CUT_LATCH_OFF (R146): the eighth consecutive cut period of a channel that has counted seven. -/
def execCutLatchOff (ch : Fin 96) (s : State) : Host.Outcome State Fault Refusal :=
  .next (if s.rd (R.PWM_CH_CUTS ch) = 7 then s.latchOff ch 2 else s)

/-- GFLT_ASSERT (R147): the filtered GFLTg goes low. -/
def execGfltAssert (g : Fin 12) (s : State) : Host.Outcome State Fault Refusal := .next (s.groupFault g)

/-- GFLT_RELEASE (R147): FLT_IN follows the input; a cut it holds ends with the channel period. -/
def execGfltRelease (g : Fin 12) (s : State) : Host.Outcome State Fault Refusal := .next (s.wr (R.PWM_GRP_FLT_IN g) 0)

/-- PWM_CLOCK_RESTART (R150): the Kickstand force of the stop becomes the one-period hold of the restart. -/
def execPwmClockRestart (s : State) : Host.Outcome State Fault Refusal := .next ((s.pwmRestart).forceOff 3 true)

/-- DELAY_LINE_CAL_DONE (R152, R153). -/
def execDelayLineCalDone (lines : List (BitVec 8)) (s : State) : Host.Outcome State Fault Refusal :=
  .next (s.calDone (lines.map (·.toNat)))

/-- PWM_GROUP_CTL (R142): disables land before enables. -/
def State.doPwmGroupCtl (s : State) (r : Ref) (p : Bytes) : State :=
  let en := u16 p 0
  let dis := u16 p 2
  s.checked r [lengthIs p 4, param (decide (4095 < en ∨ 4095 < dis ∨ en &&& dis ≠ 0)), permitted (decide (en = 0) || !s.actRefused)]
    fun s =>
    let s := s.each ((List.range 12).filter fun g => bit dis g) State.groupOff
    (s.each ((List.range 12).filter fun g => bit en g) State.grpEnable).ok r

/-- PWM_LOAD_ALL (R141). -/
def State.doPwmLoadAll (s : State) (r : Ref) (p : Bytes) : State :=
  let m := u16 p 0
  let gs := (List.range 12).filter fun g => bit m g
  s.checked r [lengthIs p 2, param (decide (m = 0 ∨ 4095 < m) || gs.any fun g => s.rd (R.PWM_GRP_UPD_MODE g) == 0)] fun s =>
    (s.each gs State.strobe).ok r

/-- PWM_SYNC (R142): the counters of the named groups step to 0. -/
def State.doPwmSync (s : State) (r : Ref) (p : Bytes) : State :=
  let m := u16 p 0
  let gs := (List.range 12).filter fun g => bit m g
  s.checked r [lengthIs p 2, param (decide (m = 0 ∨ 4095 < m)), permitted (gs.all s.grpOn)] fun s =>
    (s.each gs fun s g => s.boundary g).ok r

/-- PWM_CLR_LATCH (R148). -/
def State.doPwmClrLatch (s : State) (r : Ref) (p : Bytes) : State :=
  let m := ofLe (p.take 12)
  let ns := (List.range 96).filter fun n => bit m n
  s.checked r [lengthIs p 12, param (decide (m = 0)), permitted (ns.all fun n => decide (n < 48 ∨ 80 ≤ n))] fun s =>
    (s.each ns State.valveUnlatch).ok r

def execPwmGroupCtl (c : Cmd) (s : State) : Host.Outcome State Fault Refusal := .next (s.command c 0x20 State.doPwmGroupCtl)
def execPwmLoadAll (c : Cmd) (s : State) : Host.Outcome State Fault Refusal := .next (s.command c 0x21 State.doPwmLoadAll)
def execPwmSync (c : Cmd) (s : State) : Host.Outcome State Fault Refusal := .next (s.command c 0x22 State.doPwmSync)
def execPwmClrLatch (c : Cmd) (s : State) : Host.Outcome State Fault Refusal := .next (s.command c 0x23 State.doPwmClrLatch)

/-- The status of a value for a PWM attribute (Tables 5-11 and 5-12, R143). -/
def State.pwmCheck (s : State) (id v : Nat) : Nat :=
  if 0x2010 ≤ id ∧ id < 0x201C then
    if bits v 0 4 > 8 ∨ bits v 5 2 = 3 ∨ bits v 7 2 = 3 then stBadParam else stOk
  else if 0x2020 ≤ id ∧ id < 0x2080 then
    if decide (id - 0x2020 < 91) && decide (bits v 0 45 ≠ bits (s.attrRaw id) 0 45) then stNotPermitted else stOk
  else stOk

/-- What a write of a PWM attribute does beside setting its fields: shadows have landed (R140). -/
def State.pwmHook (s : State) (id : Nat) : State :=
  if 0x2010 ≤ id ∧ id < 0x201C then s.modGrp (id - 0x2010) fun x => { x with dirty := true }
  else if 0x2020 ≤ id ∧ id < 0x2080 then s.modPch (id - 0x2020) fun c => { c with dirty := true }
  else s

end Sys2Proof.Machine
end

