-- ==== Sys2Proof/Machine/ActuatorCommands.lean ====
section
/-!
DEFINITION. Sys2Proof/Machine/ActuatorCommands.lean: the rows of spec/06_actuator_channels.md. An actuator opcode enters
its command queue (R157); ACT_CMD checks it there and the next ACT_UPD commit gives it its effect and its reply.
-/

namespace Sys2Proof.Machine

/-- VALVE_CYCLE_START (R159): a channel whose cycle has ended, or whose demand has risen from 0x000, starts a cycle. -/
def execValveCycleStart (n : Fin 48) (s : State) : Host.Outcome State Fault Refusal :=
  let d := s.valveDemand n
  .next (if s.rd (R.ACT_VLV_STATE n) != 4 && d != 0 && (!(s.valve n).cycling || decide ((s.valve n).cycEnd ≤ s.ticks)) then
      (s.wr (R.ACT_VLV_DEMAND n) d).cycleStart n
    else s)

/-- VALVE_ON_TIME_END (R159). -/
def execValveOnTimeEnd (n : Fin 48) (s : State) : Host.Outcome State Fault Refusal := .next (s.onTimeEnd n)

/-- INRUSH_END (R161): the run at which a channel's inrush timer reaches INRUSH_T, that is, whose last run is left. -/
def execInrushEnd (n : Fin 48) (s : State) : Host.Outcome State Fault Refusal :=
  .next (if s.rd (R.ACT_VLV_LEFT n) ≤ 1 then s.inrushTick n else s)

/-- GROUP_RECOVERY_START (R162): the group comparator trips. -/
def execGroupRecoveryStart (g : Fin 6) (s : State) : Host.Outcome State Fault Refusal :=
  .next (((s.recoveryStart g).wr (R.ACT_VGRP_GSNS_HI g) 1).modVgrp g fun x => { x with low := 0 })

/-- GROUP_RECOVERY_END (R162, R163): GSNSg has stayed below GRP_LIM for 500 us, or the tenth run has come. -/
def execGroupRecoveryEnd (g : Fin 6) (low : Bool) (s : State) : Host.Outcome State Fault Refusal :=
  .next (if low then (s.wr (R.ACT_VGRP_GSNS_HI g) 0).recoveryEnd g false
    else if 9 ≤ (s.vgrp g).runs then s.recoveryEnd g true else s)

/-- BRIDGE_MOVE_END (R166): the move has no tick left. -/
def execBridgeMoveEnd (b : Fin 16) (s : State) : Host.Outcome State Fault Refusal := .next (s.bridgeMoveEnd b)

/-- REVERSAL_COAST_END (R167): COAST ticks have passed. -/
def execReversalCoastEnd (b : Fin 16) (s : State) : Host.Outcome State Fault Refusal := .next (s.coastEnd b)

/-- REVERSAL_NOT_ADMITTED (R167): the reversal has waited 1,024 ticks. -/
def execReversalNotAdmitted (b : Fin 16) (s : State) : Host.Outcome State Fault Refusal :=
  .next (if s.reversalExpired b then s.reversalFail b else s)

/-- FAN_STALL (R171). -/
def execFanStall (f : Fin 8) (s : State) : Host.Outcome State Fault Refusal := .next (s.fanStall f)

/-- RAMP_ARRIVED (R173). -/
def execRampArrived (r : Fin 8) (s : State) : Host.Outcome State Fault Refusal := .next (s.rampArrived r)

/-- ACT_VALVE: its command enters queue 224 (R157, R181). -/
def execActValve (c : Cmd) (s : State) : Host.Outcome State Fault Refusal := .next (s.command c 0x28 State.actPlace)

/-- ACT_BR_MOVE: its command enters queue 225 (R157, R166, R181). -/
def execActBrMove (c : Cmd) (s : State) : Host.Outcome State Fault Refusal := .next (s.command c 0x29 State.actPlace)

/-- ACT_BR_CLEAR: its command enters queue 225 (R157, R170, R181). -/
def execActBrClear (c : Cmd) (s : State) : Host.Outcome State Fault Refusal := .next (s.command c 0x2A State.actPlace)

/-- ACT_FAN: its command enters queue 226 (R157, R181). -/
def execActFan (c : Cmd) (s : State) : Host.Outcome State Fault Refusal := .next (s.command c 0x2B State.actPlace)

/-- ACT_RAMP: its command enters queue 227 (R157, R173, R181). -/
def execActRamp (c : Cmd) (s : State) : Host.Outcome State Fault Refusal := .next (s.command c 0x2C State.actPlace)

/-- ACT_AUX: its command enters queue 228 (R157, R181). -/
def execActAux (c : Cmd) (s : State) : Host.Outcome State Fault Refusal := .next (s.command c 0x2D State.actPlace)

/-- The attributes whose RW fields ACT_SAVE stores, in ascending ID order (R179, R268). -/
def actAttrs : List Nat :=
  (List.range 12).map (· + 0x2010) ++ [0x2401] ++ (List.range 6).map (· + 0x2410) ++ (List.range 48).map (· + 0x2420) ++
    (List.range 16).map (· + 0x2450) ++ (List.range 8).map (· + 0x2460) ++ (List.range 8).map (· + 0x2468)

/-- The value of ACT_KS for a Kickstand image (Table 6-8). -/
def ksBits (k : KsImage) : Nat :=
  (List.range 96).foldl (fun v n => v + mget 0 k.chan n * 2 ^ (2 * n)) 0 +
    (List.range 8).foldl (fun v i => v + mget 0 k.ramp i * 2 ^ (192 + 16 * i)) 0

/-- The data of the actuator image: PWM_STAT, the PWM groups, the committed Kickstand image, and block 0x24 (R179). -/
def State.actImage (s : State) : Bytes :=
  s.attrImage [0x2000] ++ s.attrImage ((List.range 12).map (· + 0x2010)) ++ le 40 (ksBits s.pwr.ks) ++
    s.attrImage (actAttrs.drop 13)

/-- ACT_SAVE (R179). -/
def State.doActSave (s : State) (r : Ref) (p : Bytes) : State :=
  s.checked r [lengthIs p 0] fun s => s.saveObjects r [(0x60, s.actImage)]

def execActSave (c : Cmd) (s : State) : Host.Outcome State Fault Refusal := .next (s.command c 0x2E State.doActSave)

/-- The image a value of ACT_KS stands for. -/
def ksOf (v : Nat) : KsImage :=
  { chan := (List.range 96).foldl (fun m n => mput 0 m n (bits v (2 * n) 2)) []
    ramp := (List.range 8).foldl (fun m i => mput 0 m i (bits v (192 + 16 * i) 12)) [] }

/-- Whether R178 and R7 refuse a value of ACT_KS. -/
def ksRefused (v : Nat) : Bool :=
  (List.range 96).any (fun n => bits v (2 * n) 2 == 3 ||
      (decide ((48 ≤ n ∧ n < 80) ∨ 91 ≤ n) && bits v (2 * n) 2 != 0)) ||
    (List.range 6).any (fun g => decide (2 < ((channelsOf g).filter fun n => bits v (2 * n) 2 == 1).length)) ||
    (List.range 8).any fun i => bits v (204 + 16 * i) 4 != 0

/-- The status of a value for an actuator attribute (Tables 6-8 to 6-14; R158). -/
def actValueCheck (id v : Nat) : Nat :=
  let bad (b : Bool) : Nat := if b then stBadParam else stOk
  if id = 0x2401 then bad (ksRefused v)
  else if 0x2420 ≤ id ∧ id < 0x2450 then
    let cycle := bits v 32 12
    let blank := bits v 56 8
    bad (decide (bits v 16 12 = 0 ∨ cycle < 60 ∨ cycle < 2 * bits v 48 8 ∨ blank < 2 ∨ 200 < blank ∨
      bits v 80 8 ≤ bits v 64 8 ∨ bits v 80 8 ≤ bits v 72 8 ∨ bits v 96 12 < 64))
  else if 0x2450 ≤ id ∧ id < 0x2460 then
    let blank := bits v 56 8
    bad (decide (bits v 16 12 = 0 ∨ bits v 32 16 < 64 ∨ bits v 48 8 = 0 ∨ blank < 2 ∨ 200 < blank ∨
      bits v 72 8 ≤ bits v 64 8 ∨ bits v 80 12 < 0x10))
  else if 0x2460 ≤ id ∧ id < 0x2468 then bad (bits v 44 4 == 0)
  else if 0x2468 ≤ id ∧ id < 0x2470 then bad (bits v 32 12 == 0)
  else stOk

/-- Stage a Kickstand image: it is committed as a whole at the next AON edge (R41). -/
def State.ksStageImage (s : State) (v : Nat) : State :=
  { s.wr R.PWR_KSTAT_PENDING 1 with pwr.ksStage := some (ksOf v) }

/-- ACT_KS_WRITE (R178, R41): a value that is refused changes nothing. -/
def execActKsWrite (v : BitVec 512) (s : State) : Host.Outcome State Fault Refusal :=
  let v := bits v.toNat 0 320
  .next (if actValueCheck 0x2401 v = stOk then s.ksStageImage v else s)

end Sys2Proof.Machine
end

