-- ==== Sys2Proof/Machine/HayloftCommands.lean ====
section
/-!
DEFINITION. Sys2Proof/Machine/HayloftCommands.lean: the rows of spec/10_hayloft.md.
-/

namespace Sys2Proof.Machine

/-- HAYLOFT_PHASE_END (R273, R274). -/
def execHayloftPhaseEnd (verify : Bool) (s : State) : Host.Outcome State Fault Refusal := .next (s.hayPhaseEnd verify)

/-- HAYLOFT_WRITE_END (R273): HAY_SVC sees the end of a write, releases the escrow, posts the reply and loads the next. -/
def execHayloftWriteEnd (s : State) : Host.Outcome State Fault Refusal :=
  .next (if s.hay.cur.any fun w => w.ended then s.haySvc else s)

/-- LOG_HOLD_EXPIRE (R286): the oldest record of the open page has waited LOG_HOLD ticks. -/
def execLogHoldExpire (stream : Fin 16) (s : State) : Host.Outcome State Fault Refusal := .next (s.commitPage stream)

/-- OVERFLOW (R287): an entry of the queue is free and records have been lost. -/
def execOverflow (stream : Fin 16) (s : State) : Host.Outcome State Fault Refusal := .next (s.overflow stream 0)

/-- Whether a byte range leaves both areas (R275, R295). -/
def leavesAreas (addr len : Nat) : Bool :=
  !(decide (addr + len ≤ 0x20000) || decide (0x20000 ≤ addr ∧ addr + len ≤ 0x24000))

/-- Queue 248 takes a request, unless it is full (Table 10-16). -/
def State.hayQueue (s : State) (r : Ref) (w : HayWhat) : State :=
  if 16 ≤ s.hayDepth 248 then s.finish r stQueueFull else s.hayAsk 248 w

/-- BUSY during recall, judged with the work itself (R279, R496). -/
def State.recalling (s : State) : Bool × Nat := (s.on R.HAY_STAT_RECALL, stBusy)

def State.doHayRead (s : State) (r : Ref) (p : Bytes) : State :=
  let addr := u32 p 0
  let len := u16 p 4
  s.checked r [lengthIs p 6, param (decide (len = 0 ∨ 2048 < len) || leavesAreas addr len),
    permitted (decide (addr + len ≤ 0x23000 ∨ 0x24000 ≤ addr)), s.recalling] fun s => s.hayQueue r (.read r addr len)

/-- Whether writing these bytes at an address would change the content of a page (R277). -/
def State.changesPage (s : State) (addr : Nat) (data : Bytes) (p : Nat) : Bool :=
  let lo := max addr (64 * p)
  let hi := min (addr + data.length) (64 * p + 64)
  decide (s.hayBytes lo (hi - lo) ≠ sub data (lo - addr) (hi - lo))

def State.doHayWrite (s : State) (r : Ref) (p : Bytes) : State :=
  let addr := u32 p 0
  let data := p.drop 4
  let len := data.length
  s.checked r [(decide (p.length < 4 ∨ 1028 < p.length), stBadLength), param (decide (0x20000 < addr + len)),
    permitted (decide (len = 0) || (decide (0x9400 ≤ addr ∧ addr + len ≤ 0x10000) &&
      !(s.on R.HAY_STAT_WP && (pagesOf addr len).any fun p => s.protectedPage p && s.changesPage addr data p))), s.recalling] fun s =>
    if len = 0 then s.ok r
    else if 16 ≤ s.hayDepth 248 then s.finish r stQueueFull
    else (s.accepted r).hayAsk 248 (.write r addr data 0)

def State.doHayLogRead (s : State) (r : Ref) (p : Bytes) : State :=
  let stream := u8 p 0
  let max := u8 p 1
  s.checked r [lengthIs p 6, param (decide (15 < stream ∨ max = 0 ∨ 64 < max)), s.recalling] fun s =>
    s.hayQueue r (.logRead r stream max (u32 p 2))

def State.doHayLogAppend (s : State) (r : Ref) (p : Bytes) : State :=
  let stream := u8 p 0
  let kind := u8 p 1
  s.checked r [(decide (p.length < 2 ∨ 18 < p.length), stBadLength), param (decide (stream < 8 ∨ 15 < stream ∨ kind < 0x80)),
    s.recalling, (decide (63 ≤ (s.log stream).queue.length), stQueueFull)] fun s =>
    (s.record stream kind (p.drop 2)).ok r (le 4 (s.log stream).next)

/-- The SEQ of the newest record of a stream that is queued or in its open page and not committed. -/
def State.uncommitted (s : State) (stream : Nat) : Option Nat :=
  let l := s.log stream
  ((l.open_.drop l.kept ++ l.queue).getLast?).map fun b => u32 b 0

def State.doHayLogFlush (s : State) (r : Ref) (p : Bytes) : State :=
  let mask := u16 p 0
  let want := ((List.range 16).filter (bit mask)).filterMap fun i => (s.uncommitted i).map fun q => (i, q)
  s.checked r [lengthIs p 2, param (mask == 0), s.recalling] fun s =>
    if want.isEmpty then s.ok r
    else { s.accepted r with hay.flushes := s.hay.flushes ++ [⟨r, want⟩] }

def State.doHayOdInc (s : State) (r : Ref) (p : Bytes) : State :=
  let k := u8 p 0
  s.checked r [lengthIs p 1, param (decide (k < 16 ∨ 31 < k)), s.recalling] fun s =>
    if 16 ≤ s.hayDepth 248 then s.finish r stQueueFull else (s.accepted r).hayAsk 248 (.odInc k (some r))

/-- HAY_READ (R295). -/
def execHayRead (c : Cmd) (s : State) : Host.Outcome State Fault Refusal := .next (s.command c 0x50 State.doHayRead)

/-- HAY_WRITE (R275 to R277, R295). -/
def execHayWrite (c : Cmd) (s : State) : Host.Outcome State Fault Refusal := .next (s.command c 0x51 State.doHayWrite)

/-- HAY_LOG_READ (R295). -/
def execHayLogRead (c : Cmd) (s : State) : Host.Outcome State Fault Refusal := .next (s.command c 0x52 State.doHayLogRead)

/-- HAY_LOG_APPEND (R285, R295). -/
def execHayLogAppend (c : Cmd) (s : State) : Host.Outcome State Fault Refusal := .next (s.command c 0x53 State.doHayLogAppend)

/-- HAY_LOG_FLUSH (R286, R295). -/
def execHayLogFlush (c : Cmd) (s : State) : Host.Outcome State Fault Refusal := .next (s.command c 0x54 State.doHayLogFlush)

/-- HAY_OD_INC (R283, R295). -/
def execHayOdInc (c : Cmd) (s : State) : Host.Outcome State Fault Refusal := .next (s.command c 0x55 State.doHayOdInc)

/-- The status of a value for HAY_CFG (Table 10-12). -/
def hayCheck (id v : Nat) : Nat :=
  if id = 0x5001 ∧ (0x400 < bits v 0 11 ∨ bits v 16 12 = 0) then stBadParam else stOk

/-- A write that changes BOUND is not permitted while NVM_WP is low (Reference, 10_hayloft.md). -/
def State.hayPermits (s : State) (id v : Nat) : Bool :=
  !(id == 0x5001 && s.on R.HAY_STAT_WP && decide (bits v 0 11 ≠ s.rd R.HAY_CFG_BOUND))

/-- A write to HAY_CFG requests a page commit of its stored copy (Reference, 10_hayloft.md). -/
def State.hayHook (s : State) (id : Nat) : State :=
  if id = 0x5001 then s.saveFirmware [(0x02, s.attrImage [0x5001])] else s

end Sys2Proof.Machine
end

