-- ==== Sys2Proof/Machine/Transport.lean ====
section
/-!
DEFINITION. Sys2Proof/Machine/Transport.lean: the receive path that separates frames, and the packets that leave out queues
(R69, R72, R85, R92, R497, 03_spoke_packets.md; R251, 09_bus_golposen.md). Transports: 0 host, 1 and 2 the bus streams, 3 the
debug port.
-/

namespace Sys2Proof.Machine

/-- Whether a complete header passes R68; the list starts at SYNC. -/
def headerGood (b : Bytes) : Bool :=
  u8 b 1 % 16 == 1 && decide (u8 b 1 < 32 ∧ u8 b 2 < 32 ∧ u8 b 3 < 128 ∧ u16 b 5 < 4096)

/-- The length of the frame a header announces. -/
def frameLength (b : Bytes) : Nat := 9 + u16 b 5 + (if bit (u8 b 1) 4 then 8 else 0)

/-- The CRC of a complete frame (R69): over header and payload, high byte first. -/
def frameGood (b : Bytes) : Bool :=
  ofBe (sub b (frameLength b - 2) 2) == crc16 (sub b 1 (6 + u16 b 5))

/-- Separate the frames of what has been received (R72, R497). -/
def separate (fuel : Nat) (x : RxPath) : RxPath :=
  match fuel with
  | 0 => x
  | fuel + 1 =>
    match x.part with
    | [] => x
    | h :: rest =>
      if h ≠ 0x5A then separate fuel { x with part := rest }
      else if x.part.length < 7 then x
      else if !headerGood x.part then separate fuel { x with part := rest, frmDisc := satAdd 0xFFFF x.frmDisc 1 }
      else if x.part.length < frameLength x.part then x
      else if frameGood x.part then
        separate fuel { x with part := x.part.drop (frameLength x.part), frames := x.frames ++ [x.part.take (frameLength x.part)] }
      else separate fuel { x with part := rest, crcDisc := satAdd 0xFFFF x.crcDisc 1 }

def State.rxPath (s : State) (t : Nat) : RxPath := mget {} s.spoke.rx t

/-- Free bytes of the host's receive FIFO. -/
def State.rxFree (s : State) : Nat :=
  8192 - (s.rxPath 0).part.length - ((s.rxPath 0).frames.map (·.length)).sum

/-- HST_RTSN follows the free space (R102). -/
def State.rtsUpdate (s : State) : State :=
  if 128 ≤ s.rxFree then { s with host.rtsLow := true }
  else if s.rxFree < 64 then { s with host.rtsLow := false } else s

/-- Replace a receive path; a discard on the host's sets DISC (Table 3-8). -/
def State.setRx (s : State) (t : Nat) (x : RxPath) : State :=
  let old := s.rxPath t
  let s := { s with spoke.rx := mput {} s.spoke.rx t x }
  if t = 0 then
    (s.when (decide (old.crcDisc < x.crcDisc ∨ old.frmDisc < x.frmDisc)) fun s => { s with host.disc := true }).rtsUpdate
  else s

/-- Bytes arrive on a transport. -/
def State.rxBytes (s : State) (t : Nat) (data : Bytes) : State :=
  let x := s.rxPath t
  s.setRx t (separate (x.part.length + data.length) { x with part := x.part ++ data })

/-- The frame under way is discarded as a framing discard, and the search goes on after its SYNC (R72). -/
def State.rxDiscard (s : State) (t : Nat) : State :=
  let x := s.rxPath t
  if x.part.isEmpty then s
  else s.setRx t (separate x.part.length { x with part := x.part.drop 1, frmDisc := satAdd 0xFFFF x.frmDisc 1 })

/-- A packet leaves an out queue, and the space it leaves lets a held-back reply or the lost events go out (R85, R88). -/
def State.popOut (s : State) (ch : Nat) : State :=
  s.modChan ch fun c => refillOut ch { c with outq := c.outq.drop 1 }

/-- The next of n channels from `base` that has a packet, by round robin from `rr` (R92). -/
def State.nextOut (s : State) (base n rr : Nat) : Option Nat :=
  ((List.range n).map fun i => (rr + i) % n).find? fun i => !(s.chan (base + i)).outq.isEmpty

/-- The channels of a stream: first and number (Table 3-1). -/
def streamChans (t : Nat) : Nat × Nat := if t = 1 then (16, 4) else if t = 2 then (20, 4) else (31, 1)

def State.stream (s : State) (t : Nat) : Bytes := mget [] s.spoke.streams t

/-- Move whole packets into a stream until it holds `need` bytes; `rr` is the round robin (R251). -/
def State.fillStream (s : State) (t need rr fuel : Nat) : State × Nat :=
  match fuel with
  | 0 => (s, rr)
  | fuel + 1 =>
    if need ≤ (s.stream t).length then (s, rr)
    else
      match s.nextOut (streamChans t).1 (streamChans t).2 rr with
      | none => (s, rr)
      | some i =>
        let ch := (streamChans t).1 + i
        match (s.chan ch).outq with
        | [] => (s, rr)
        | p :: _ =>
          let s := { s with spoke.streams := mput [] s.spoke.streams t (s.stream t ++ frameBytes ch p) }
          (s.popOut ch).fillStream t need ((i + 1) % (streamChans t).2) fuel

/-- Take at most n bytes of a stream: the bytes, the state and the round robin. -/
def State.takeStream (s : State) (t n rr : Nat) : Bytes × State × Nat :=
  let f := s.fillStream t n rr n
  let b := f.1.stream t
  (b.take n, { f.1 with spoke.streams := mput [] f.1.spoke.streams t (b.drop n) }, f.2)

end Sys2Proof.Machine
end

