-- ==== Sys2Proof/Machine/Bus.lean ====
section
/-!
DEFINITION. Sys2Proof/Machine/Bus.lean: the two bus ports and the Golposen layer (spec/09_bus_golposen.md).
-/

namespace Sys2Proof.Machine

def State.busPort (s : State) (p : Nat) : BusPort := mget {} s.bus.ports p
def State.modBus (s : State) (p : Nat) (f : BusPort → BusPort) : State := { s with bus.ports := mmod {} s.bus.ports p f }
def State.conn (s : State) (c : Nat) : Conn := mget {} s.bus.conns c
def State.modConn (s : State) (c : Nat) (f : Conn → Conn) : State := { s with bus.conns := mmod {} s.bus.conns c f }

/-- Whether a port runs. -/
def busOnField (p : Nat) : Nat := if p = 0 then R.BUS_STAT_ON0 else R.BUS_STAT_ON1
def State.busOn (s : State) (p : Nat) : Bool := s.on (busOnField p)

/-- A time in ms as ticks, rounded up (R256, R258). -/
def msTicks (ms : Nat) : Nat := (ms * 1024 + 999) / 1000

/-- BUS_RX (R266). -/
def State.busRx (s : State) (p kind src ftype : Nat) (data : Bytes) : State :=
  s.event 0x48 (le 1 p ++ le 1 kind ++ le 1 src ++ le 1 ftype ++ data)

/-! ### Golposen connections (R253 to R260) -/

/-- Whether a connection is an enabled consumer, or an enabled producer. -/
def State.consumes (s : State) (c : Nat) : Bool := s.on (R.BUS_GP_CFG_EN c) && !s.on (R.BUS_GP_CFG_DIR c)
def State.produces (s : State) (c : Nat) : Bool := s.on (R.BUS_GP_CFG_EN c) && s.on (R.BUS_GP_CFG_DIR c)

/-- A change of a connection's state; only RUN delivers data (R260). -/
def State.gpState (s : State) (c state why : Nat) : State :=
  let old := s.rd (R.BUS_GP_STAT_STATE c)
  let s := s.wrs [(R.BUS_GP_STAT_STATE c, state), (R.BUS_GP_STAT_WHY c, why),
    (R.BUS_STAT_GP_RUN, setBit (s.rd R.BUS_STAT_GP_RUN) c (state == 2)),
    (R.BUS_STAT_GP_FAILED, setBit (s.rd R.BUS_STAT_GP_FAILED) c (state == 3))]
  let s := s.when (decide (state ≠ 2) && !s.on (R.BUS_GP_CFG_DIR c)) fun s => s.wr (R.BUS_GP_DATA_DATA c) 0
  if old = state then s else s.event 0x49 (le 1 c ++ le 1 state ++ le 1 why ++ le 1 0)

/-- A connection goes FAILED (R257 to R260, R264); one that has failed already keeps its fault and takes the new WHY. -/
def State.gpFail (s : State) (c why : Nat) : State :=
  let was := s.rd (R.BUS_GP_STAT_STATE c) == 3
  let s := s.gpState c 3 why
  if was then s else s.fault (if s.on (R.BUS_GP_CFG_PADSTOP c) then clPlant else clDegrade) 0x48 0 0 0

/-- A connection is enabled or restarted: a consumer in STARTUP, a producer at SEQ 0x0000 (R256, R258, R260). -/
def State.gpStart (s : State) (c : Nat) : State :=
  let t := s.ticks
  let s := s.modConn c fun _ => { last := t, sentAt := t }
  if s.on (R.BUS_GP_CFG_DIR c) then s.wr (R.BUS_GP_STAT_LAST_SEQ c) 0 else s.gpState c 1 0

/-- A connection is disabled. -/
def State.gpOff (s : State) (c : Nat) : State := (s.modConn c fun _ => {}).gpState c 0 0

/-- The CRC of a PDU (R254): over IDENT and the PDU without its CRC. -/
def gpCrc (ident : Nat) (body : Bytes) : Bytes := le 4 (crc32 (le 2 ident ++ body))

/-- The next PDU of a producer connection, built now (R253, R256). -/
def State.gpPdu (s : State) (c : Nat) : Bytes × State :=
  let seq := if (s.conn c).begun then (s.rd (R.BUS_GP_STAT_LAST_SEQ c) + 1) % 65536 else 0
  let ts := s.ticks % 2 ^ 32
  let len := s.rd (R.BUS_GP_CFG_LEN c)
  let body := le 1 len ++ le 2 seq ++ le 4 ts ++ le 2 (s.rd (R.BUS_GP_CFG_WDT c)) ++ le len (s.rd (R.BUS_GP_DATA_DATA c))
  let t := s.ticks
  (body ++ gpCrc (s.rd (R.BUS_GP_CFG_IDENT c)) body,
   (s.wrs [(R.BUS_GP_STAT_LAST_SEQ c, seq), (R.BUS_GP_STAT_LAST_TS c, ts)]).modConn c fun x => { x with begun := true, sentAt := t })

/-- A corruption reaches a connection (R257, R259). -/
def State.gpCorrupt (s : State) (c : Nat) : State :=
  let s := (s.count (R.BUS_GP_STAT_CORRUPT c) 255 1).modConn c fun x => { x with corr := x.corr + 1 }
  if s.rd (R.BUS_GP_CFG_CORR_MAX c) < (s.conn c).corr ∧ s.rd (R.BUS_GP_STAT_STATE c) ≠ 3 then s.gpFail c 6 else s

/-- A PDU is accepted: baseline, data and watchdog (Table 9-5 rows 5 and 11). -/
def State.gpAccept (s : State) (c seq ts rtick : Nat) (data : Bytes) : State :=
  let s := (s.wrs [(R.BUS_GP_STAT_LAST_SEQ c, seq), (R.BUS_GP_STAT_LAST_TS c, ts)]).modConn c fun x =>
    { x with last := rtick, data := data }
  (s.gpState c 2 0).wr (R.BUS_GP_DATA_DATA c) (ofLe data)

/-- Rows 4 to 11 of Table 9-5 for the connection whose CRC matches. -/
def State.gpJudge (s : State) (c : Nat) (pdu : Bytes) (rtick : Nat) : State :=
  let len := u8 pdu 0 % 32
  let seq := u16 pdu 1
  let ts := u32 pdu 3
  let d := (seq + 65536 - s.rd (R.BUS_GP_STAT_LAST_SEQ c)) % 65536
  let dt := signed 32 (ts + 2 ^ 32 - s.rd (R.BUS_GP_STAT_LAST_TS c))
  if s.rd (R.BUS_GP_STAT_STATE c) = 3 then s
  else if len ≠ s.rd (R.BUS_GP_CFG_LEN c) ∨ u16 pdu 7 ≠ s.rd (R.BUS_GP_CFG_WDT c) then s.gpFail c 3
  else if s.rd (R.BUS_GP_STAT_STATE c) = 1 then s.gpAccept c seq ts rtick (sub pdu 9 len)
  else if d = 0 then s.count (R.BUS_GP_STAT_REPEAT c) 255 1
  else if 32768 ≤ d then s.count (R.BUS_GP_STAT_OLD c) 255 1
  else if s.rd (R.BUS_GP_CFG_LOSS_MAX c) + 1 < d then s.gpFail c 4
  else if dt ≤ 0 then s.gpFail c 5
  else if ((rtick : Int) - ((s.conn c).last : Int)) - dt > (s.rd (R.BUS_GP_CFG_DLY_MAX c) : Int) then
    s.count (R.BUS_GP_STAT_DELAYED c) 255 1
  else (s.count (R.BUS_GP_STAT_LOST c) 255 (d - 1)).gpAccept c seq ts rtick (sub pdu 9 len)

/-- A PDU is received on a transport (0 and 1 the ports, 2 the host), with its path address if it has one (R257). -/
def State.gpReceive (s : State) (transport : Nat) (path : Option Nat) (pdu : Bytes) (rtick : Nat) : State :=
  let all := (List.range 16).filter s.consumes
  let cand := all.filter fun c => s.rd (R.BUS_GP_CFG_TRANSPORT c) == transport &&
    (path.isNone || path == some (s.rd (R.BUS_GP_CFG_ADDR c)))
  let len := u8 pdu 0
  if 16 < len ∨ pdu.length ≠ 13 + len then s.each cand State.gpCorrupt
  else
    match all.find? fun c => gpCrc (s.rd (R.BUS_GP_CFG_IDENT c)) (pdu.take (9 + len)) == sub pdu (9 + len) 4 with
    | none =>
      if cand.isEmpty ∧ transport < 2 then s.count (R.BUS_CNT_UNMATCHED transport) 0xFFFF 1 else s.each cand State.gpCorrupt
    | some k => if cand.contains k then s.gpJudge k pdu rtick else s.gpFail k 2

/-- The watchdog of a consumer in STARTUP or RUN (R258). -/
def State.gpWatchdog (s : State) (c : Nat) : State :=
  if s.consumes c && decide (s.rd (R.BUS_GP_STAT_STATE c) = 1 ∨ s.rd (R.BUS_GP_STAT_STATE c) = 2) &&
      decide (msTicks (s.rd (R.BUS_GP_CFG_WDT c)) ≤ s.ticks - (s.conn c).last) then s.gpFail c 1
  else s

/-- REM_RUN (R261). -/
def State.remRun (s : State) : State :=
  let l := (List.range 16).filter fun c => s.consumes c && s.on (R.BUS_GP_CFG_PADSTOP c)
  s.wrB R.BUS_STAT_REM_RUN (!l.isEmpty && l.all fun c =>
    s.rd (R.BUS_GP_STAT_STATE c) == 2 && bit (s.rd (R.BUS_GP_DATA_DATA c)) 0)

/-! ### Frames on the line (R245 to R250) -/

/-- A frame is put on the line: DE rises (R245). -/
def State.busTransmit (s : State) (p : Nat) (data : Bytes) (cmd : Option Ref := none) : State :=
  s.modBus p fun x => { x with de := true, tx := x.tx ++ [⟨data, cmd⟩] }

/-- A Modbus frame: address, function code and data, CRC low byte first (R247). -/
def modbusFrame (addr : Nat) (body : Bytes) : Bytes :=
  let b := le 1 addr ++ body
  b ++ le 2 (crcModbus b)

/-- An MS/TP frame (R250). -/
def mstpFrame (ftype dest src : Nat) (data : Bytes) : Bytes :=
  let h := le 1 ftype ++ le 1 dest ++ le 1 src ++ be 2 data.length
  le 1 0x55 ++ le 1 0xFF ++ h ++ le 1 (Config.mstpHeaderCrc h) ++
    if data.isEmpty then [] else data ++ le 2 (Config.mstpDataCrc data)

/-- A frame is discarded and counted; the 65th of a stage is a NOTE (R247, R264). -/
def State.busDiscard (s : State) (p field : Nat) : State :=
  let s := (s.count field 0xFFFF 1).modBus p fun x => { x with disc := x.disc + 1 }
  if (s.busPort p).disc = 65 then s.fault clNote 0x48 0 0 0 else s

/-- What a producer connection of a port sends, as a request or a frame (Table 9-4). -/
def State.gpFrame (s : State) (p c : Nat) : Bytes × State :=
  let r := s.gpPdu c
  if s.rd (R.BUS_CFG_MODE p) = 1 then
    (mstpFrame 0xC0 (s.rd (R.BUS_GP_CFG_ADDR c)) (s.rd (R.BUS_CFG_ADDR p)) (be 2 (s.rd (R.BUS_CFG_VENDOR p)) ++ le 1 1 ++ r.1), r.2)
  else (modbusFrame (s.rd (R.BUS_GP_CFG_ADDR c)) (le 1 0x42 ++ r.1), r.2)

/-- The producers of a port. -/
def State.producersOf (s : State) (p : Nat) : List Nat :=
  (List.range 16).filter fun c => s.produces c && s.rd (R.BUS_GP_CFG_TRANSPORT c) == p

/-- Whether a producer's PERIOD has passed since its last send. -/
def State.gpDue (s : State) (c : Nat) : Bool := decide (msTicks (s.rd (R.BUS_GP_CFG_PERIOD c)) ≤ s.ticks - (s.conn c).sentAt)

/-- An event for one channel alone. -/
def State.eventOn (s : State) (ch code : Nat) (payload : Bytes) : State := s.modChan ch (raiseOn ch code payload)

/-- A producer sends at its PERIOD (R256): in mode 3 its request enters the send queue, in mode 1 it is sent while the node
holds the token, on the host transport it leaves as GP_TX. In mode 2 it only answers. -/
def State.golposenSend (s : State) (c : Nat) : State :=
  if !s.produces c then s
  else
    let p := s.rd (R.BUS_GP_CFG_TRANSPORT c)
    let t := s.ticks
    if p = 2 then
      let r := s.gpPdu c
      r.2.eventOn (s.rd (R.BUS_GP_CFG_ADDR c) % 16) 0x4A (le 1 c ++ r.1)
    else if !s.busOn p then s
    else if s.rd (R.BUS_CFG_MODE p) = 3 then
      (s.modBus p fun x => { x with send := x.send ++ [.gp c] }).modConn c fun x => { x with sentAt := t }
    else if s.rd (R.BUS_CFG_MODE p) = 1 ∧ (s.busPort p).token then
      let f := s.gpFrame p c
      (f.2.busTransmit p f.1).modBus p fun x => { x with sent := x.sent + 1 }
    else s

/-- A host frame as it stands on the line. -/
def State.hostFrame (s : State) (p : Nat) (f : HostFrame) : Bytes :=
  if s.rd (R.BUS_CFG_MODE p) = 1 then mstpFrame f.ftype f.dest (s.rd (R.BUS_CFG_ADDR p)) f.data
  else modbusFrame f.dest f.data

/-! ### Modbus (R247 to R249, R251, R252) -/

/-- The 0x41 service: bytes of the Spoke input stream in, bytes of its output stream out (R251); a request whose LEN does
not fit its length is not answered (log entry 22). -/
def State.spokeService (s : State) (p : Nat) (broadcast : Bool) (body : Bytes) : State :=
  let n := u8 body 1
  if body.length < 2 ∨ 250 < n ∨ body.length ≠ 2 + n then s
  else
    let t := s.ticks
    let s := (s.rxBytes (p + 1) (body.drop 2)).modBus p fun x => { x with spokeAt := t }
    if broadcast then s
    else
      let o := s.takeStream (p + 1) 250 (s.busPort p).rr
      (o.2.1.modBus p fun x => { x with rr := o.2.2 }).busTransmit p
        (modbusFrame (s.rd (R.BUS_CFG_ADDR p)) (le 1 0x41 ++ le 1 o.1.length ++ o.1))

/-- The 0x42 service of a server: the client's PDU is judged, and the answer is a new PDU of the port's producer (Table 9-4). -/
def State.gpService (s : State) (p : Nat) (broadcast : Bool) (body : Bytes) (rtick : Nat) : State :=
  let s := s.gpReceive p none (body.drop 1) rtick
  if broadcast then s
  else
    let r := match s.producersOf p with
      | [] => ([], s)
      | c :: _ => s.gpPdu c
    r.2.busTransmit p (modbusFrame (s.rd (R.BUS_CFG_ADDR p)) (le 1 0x42 ++ r.1))

/-- A Modbus frame with a good CRC (R248, R249). -/
def State.modbusTake (s : State) (p : Nat) (f : BusFrame) : State :=
  let addr := u8 f.data 0
  let body := (f.data.drop 1).take (f.data.length - 3)
  let fc := u8 body 0
  if s.rd (R.BUS_CFG_MODE p) = 2 then
    if addr ≠ 0 ∧ addr ≠ s.rd (R.BUS_CFG_ADDR p) then s
    else if fc = 0x41 then s.spokeService p (addr == 0) body
    else if fc = 0x42 then s.gpService p (addr == 0) body f.tick
    else s.busRx p 0 addr 0 body
  else
    match (s.busPort p).out with
    | none => s
    | some o =>
      if o.due.isNone ∨ addr ≠ o.dest then s
      else
        let s := s.modBus p fun x => { x with out := none }
        if fc = 0x42 then
          if o.gp && decide (1 < body.length) then s.gpReceive p (some addr) (body.drop 1) f.tick else s
        else s.busRx p 0 addr 0 body

/-- A Modbus frame the silence detector has ended (R247). -/
def State.modbusJudge (s : State) (p : Nat) (f : BusFrame) : State :=
  let n := f.data.length
  if f.bad then s.busDiscard p (R.BUS_CNT_LINE_ERR p)
  else if n < 4 ∨ 256 < n ∨ ofLe (f.data.drop (n - 2)) ≠ crcModbus (f.data.take (n - 2)) then s.busDiscard p (R.BUS_CNT_CRC_ERR p)
  else (s.count (R.BUS_CNT_FRAMES p) 0xFFFF 1).modbusTake p f

/-- No response within RSP_TMO of the last stop bit (R249). -/
def State.modbusTimeout (s : State) (p : Nat) : State :=
  match (s.busPort p).out with
  | none => s
  | some o =>
    match o.due with
    | none => s
    | some _ =>
      ((s.modBus p fun x => { x with out := none }).count (R.BUS_CNT_TIMEOUT p) 0xFFFF 1).busRx p 2 o.dest 0 []

/-- Whether the response timeout has run out. -/
def State.modbusLate (s : State) (p : Nat) : Bool :=
  ((s.busPort p).out.bind (·.due)).any fun t => decide (t ≤ s.ticks)

/-- With no request outstanding, the next of the send queue goes out (R249). -/
def State.modbusNext (s : State) (p : Nat) : State :=
  if (s.busPort p).out.isSome then s
  else
    match (s.busPort p).send with
    | [] => s
    | .host f :: rest =>
      (s.modBus p fun x => { x with send := rest, out := some ⟨f.dest, false, none⟩ }).busTransmit p (s.hostFrame p f) (some f.cmd)
    | .gp c :: rest =>
      let s := s.modBus p fun x => { x with send := rest }
      if !s.produces c then s
      else
        let f := s.gpFrame p c
        (f.2.modBus p fun x => { x with out := some ⟨s.rd (R.BUS_GP_CFG_ADDR c), true, none⟩ }).busTransmit p f.1

/-! ### MS/TP (R250) -/

/-- The type of a frame, its destination, its source and its data; none when a CRC or the length is wrong. -/
def mstpParts (b : Bytes) : Option (Nat × Nat × Nat × Bytes) :=
  let n := ofBe (sub b 5 2)
  let data := sub b 8 n
  if u8 b 0 ≠ 0x55 ∨ u8 b 1 ≠ 0xFF ∨ b.length < 8 ∨ le 1 (Config.mstpHeaderCrc (sub b 2 5)) ≠ sub b 7 1 then none
  else if n = 0 then some (u8 b 2, u8 b 3, u8 b 4, [])
  else if b.length ≠ 10 + n ∨ le 2 (Config.mstpDataCrc data) ≠ sub b (8 + n) 2 then none
  else some (u8 b 2, u8 b 3, u8 b 4, data)

/-- The address after one, up to MAX_MASTER. -/
def State.mstpAfter (s : State) (p a : Nat) : Nat := if s.rd (R.BUS_CFG_MAX_MASTER p) ≤ a then 0 else a + 1

/-- Poll For Master: T_usage_timeout is 20 ms. -/
def State.mstpPoll (s : State) (p a : Nat) : State :=
  let me := s.rd (R.BUS_CFG_ADDR p)
  let t := s.ticks
  if a = me then s.modBus p fun x => { x with poll := none, token := true, sent := 0 }
  else (s.modBus p fun x => { x with poll := some (a, t + msTicks 20), token := false }).busTransmit p (mstpFrame 1 a me [])

/-- Give the token away: to the next station, or search for one (log entry 23). -/
def State.mstpPass (s : State) (p : Nat) : State :=
  match (s.busPort p).nextStation with
  | some n => (s.modBus p fun x => { x with token := false }).busTransmit p (mstpFrame 0 n (s.rd (R.BUS_CFG_ADDR p)) [])
  | none => s.mstpPoll p (s.mstpAfter p (s.rd (R.BUS_CFG_ADDR p)))

/-- A frame of type 0xC0: a Golposen PDU if the vendor and the third byte say so, otherwise the host's (R255). -/
def State.mstpVendor (s : State) (p src : Nat) (data : Bytes) (rtick : Nat) : State :=
  if ofBe (sub data 0 2) = s.rd (R.BUS_CFG_VENDOR p) ∧ u8 data 2 = 1 ∧ 3 ≤ data.length then
    s.gpReceive p (some src) (data.drop 3) rtick
  else s.busRx p 1 src 0xC0 data

/-- A good MS/TP frame. -/
def State.mstpTake (s : State) (p ftype dest src : Nat) (data : Bytes) (rtick : Nat) : State :=
  let me := s.rd (R.BUS_CFG_ADDR p)
  let t := s.ticks
  if dest ≠ me ∧ dest ≠ 255 then s
  else if ftype = 0 then if dest = me then s.modBus p fun x => { x with token := true, sent := 0, poll := none } else s
  else if ftype = 1 then if dest = me then s.busTransmit p (mstpFrame 2 src me []) else s
  else if ftype = 2 then
    if (s.busPort p).poll.any fun q => q.1 == src then
      (s.modBus p fun x => { x with nextStation := some src, poll := none }).mstpPass p
    else s
  else if ftype = 3 then if dest = me then s.busTransmit p (mstpFrame 4 src me data) else s
  else if ftype = 5 then
    (s.busRx p 1 src 5 data).when (dest == me) fun s => s.modBus p fun x => { x with expect := some (src, t + msTicks 200) }
  else if ftype = 6 then s.busRx p 1 src 6 data
  else if ftype = 0xC0 then s.mstpVendor p src data rtick
  else if 128 ≤ ftype then s.busRx p 1 src ftype data
  else s

/-- An MS/TP frame the silence detector has ended; extended frame types are discarded and counted. -/
def State.mstpJudge (s : State) (p : Nat) (f : BusFrame) : State :=
  if f.bad then s.busDiscard p (R.BUS_CNT_LINE_ERR p)
  else
    match mstpParts f.data with
    | none => s.busDiscard p (R.BUS_CNT_CRC_ERR p)
    | some (ftype, dest, src, data) =>
      if (32 ≤ ftype ∧ ftype ≤ 34) ∨ 501 < data.length then s.busDiscard p (R.BUS_CNT_LINE_ERR p)
      else (s.count (R.BUS_CNT_FRAMES p) 0xFFFF 1).mstpTake p ftype dest src data f.tick

/-- Take the first host frame that a condition picks out of a send queue. -/
def takeHost (pick : HostFrame → Bool) (l : List BusSend) : Option (HostFrame × List BusSend) :=
  match l with
  | [] => none
  | .host f :: rest => if pick f then some (f, rest) else (takeHost pick rest).map fun r => (r.1, .host f :: r.2)
  | .gp c :: rest => (takeHost pick rest).map fun r => (r.1, .gp c :: r.2)

/-- The host's reply to a type 5 frame goes out at once (R250). -/
def State.mstpReply (s : State) (p : Nat) : State :=
  if (s.busPort p).expect.isNone then s
  else
    match takeHost (fun f => f.reply) (s.busPort p).send with
    | none => s
    | some (f, rest) =>
      (s.modBus p fun x => { x with send := rest, expect := none }).busTransmit p (s.hostFrame p f) (some f.cmd)

/-- Send Reply Postponed to the source of a type 5 frame whose reply has not come within 200 ms (R250). -/
def State.mstpPostpone (s : State) (p : Nat) : State :=
  match (s.busPort p).expect with
  | none => s
  | some (src, _) =>
    (s.modBus p fun x => { x with expect := none }).busTransmit p (mstpFrame 7 src (s.rd (R.BUS_CFG_ADDR p)) [])

/-- One token possession: Golposen first, then frames from the host, MAX_INFO in all; then the token goes on (R250, R256). -/
def State.mstpHold (s : State) (p fuel : Nat) : State :=
  match fuel with
  | 0 => s.mstpPass p
  | fuel + 1 =>
    match (s.producersOf p).find? s.gpDue with
    | some c => (s.golposenSend c).mstpHold p fuel
    | none =>
      match takeHost (fun _ => true) (s.busPort p).send with
      | none => s.mstpPass p
      | some (f, rest) =>
        ((s.modBus p fun x => { x with send := rest, sent := x.sent + 1 }).busTransmit p (s.hostFrame p f) (some f.cmd)).mstpHold p fuel

/-- T_no_token has expired: the token is lost and the node looks for a successor (R250, R264). -/
def State.mstpTokenLost (s : State) (p : Nat) : State :=
  if s.busOn p && s.rd (R.BUS_CFG_MODE p) == 1 then
    (((s.count (R.BUS_CNT_TIMEOUT p) 0xFFFF 1).fault clNote 0x48 0 0 0).modBus p fun x =>
      { x with nextStation := none, token := false }).mstpPoll p (s.mstpAfter p (s.rd (R.BUS_CFG_ADDR p)))
  else s

/-! ### The ports at work (Table 9-2) -/

/-- The silence detector ends a frame; while DE is high, and on a port that does not run, the receiver is ignored (R243,
R245, R246). -/
def State.busFrameEnd (s : State) (p : Nat) (data : Bytes) (lineError : Bool) : State :=
  let t := s.ticks
  if s.busOn p && !(s.busPort p).de then s.modBus p fun x => { x with rx := x.rx ++ [⟨data, lineError, t⟩] } else s

/-- A byte finds the receive FIFO full (R246, R264): the frame is discarded. -/
def State.busOverflow (s : State) (p : Nat) : State :=
  if s.busOn p && !(s.busPort p).de then
    (s.busDiscard p (R.BUS_CNT_OVERFLOW p)).fault clNote 0x48 0 0 0
  else s

/-- The last stop bit of the frame under way leaves (R245, R249): BUS_TX answers, and the response timeout of a client
starts. -/
def State.busTxDone (s : State) (p : Nat) : State :=
  match (s.busPort p).tx with
  | [] => s
  | f :: rest =>
    let due := s.ticks + msTicks (s.rd (R.BUS_CFG_RSP_TMO p))
    (s.modBus p fun x => { x with tx := rest, de := !rest.isEmpty,
                                  out := x.out.map fun o => if o.due.isNone then { o with due := some due } else o }).finish? f.cmd stOk

/-- A partial Spoke frame is discarded when no 0x41 request has arrived for 1 stage (R252). -/
def State.busPartial (s : State) (p : Nat) : State :=
  if decide (1024 ≤ s.ticks - (s.busPort p).spokeAt) then s.rxDiscard (p + 1) else s

/-- What a run does in each mode after the frames have been judged. -/
def State.busWork (s : State) (p : Nat) : State :=
  match s.rd (R.BUS_CFG_MODE p) with
  | 1 =>
    let s := s.mstpReply p
    let s := s.when ((s.busPort p).expect.any fun e => decide (e.2 ≤ s.ticks)) fun s => s.mstpPostpone p
    let s := match (s.busPort p).poll with
      | some (a, t) => if t ≤ s.ticks then s.mstpPoll p (s.mstpAfter p a) else s
      | none => s
    s.when (s.busPort p).token fun s => s.mstpHold p (s.rd (R.BUS_CFG_MAX_INFO p))
  | 2 => s.each (s.busPort p).send fun s e => match e with
      | .host f => (s.modBus p fun x => { x with send := x.send.drop 1 }).busTransmit p (s.hostFrame p f) (some f.cmd)
      | .gp _ => s.modBus p fun x => { x with send := x.send.drop 1 }
  | _ =>
    let s := s.when (s.modbusLate p) fun s => s.modbusTimeout p
    let s := s.each ((s.producersOf p).filter s.gpDue) State.golposenSend
    s.modbusNext p

/-- A BUSp run (Table 9-2, R261). -/
def State.busRun (s : State) (p : Nat) : State :=
  if !s.busOn p then s.remRun
  else
    let rx := (s.busPort p).rx
    let s := s.modBus p fun x => { x with rx := [] }
    let s := s.each rx fun s f => if s.rd (R.BUS_CFG_MODE p) = 1 then s.mstpJudge p f else s.modbusJudge p f
    (s.busWork p).remRun

/-- At each tick edge: watchdogs (R258), and producers on the host transport (R256). -/
def State.busTick (s : State) : State :=
  let s := s.each (List.range 16) State.gpWatchdog
  s.each ((List.range 16).filter fun c => s.produces c && s.rd (R.BUS_GP_CFG_TRANSPORT c) == 2 && s.gpDue c) State.golposenSend

/-- At each stage edge the counts per stage start again (R259, R264), and old partial frames go (R252). -/
def State.busStage (s : State) : State :=
  let s := s.each (List.range 16) fun s c => s.modConn c fun x => { x with corr := 0 }
  s.each [0, 1] fun s p => (s.modBus p fun x => { x with disc := 0 }).busPartial p

/-- The commands that wait in a port. -/
def BusPort.refs (x : BusPort) : List Ref :=
  x.send.filterMap (fun e => match e with
    | .host f => some f.cmd
    | .gp _ => none) ++ x.tx.filterMap (·.cmd)

/-- The consumers on a transport. -/
def State.consumersOf (s : State) (t : Nat) : List Nat :=
  (List.range 16).filter fun c => s.consumes c && s.rd (R.BUS_GP_CFG_TRANSPORT c) == t

/-- A port starts. -/
def State.busStart (s : State) (p : Nat) : State :=
  let t := s.ticks
  if s.busOn p then s else (s.wr (busOnField p) 1).modBus p fun _ => { spokeAt := t }

/-- A port stops: DE falls, its frames are given up, and its consumers fail with WHY 7 (R263; log entry 24). -/
def State.busStop (s : State) (p : Nat) : State :=
  if !s.busOn p then s
  else
    let refs := (s.busPort p).refs
    let s := (s.wr (busOnField p) 0).modBus p fun _ => {}
    let s := s.each refs fun s r => s.finish r stFault
    s.each (s.consumersOf p) fun s c => s.gpFail c 7

/-- Every port stops, and every consumer on a bus transport fails with WHY 7: Freewheel-2, limp mode, quiesce (R263). -/
def State.busStopAll (s : State) : State :=
  ((s.busStop 0).busStop 1).each [0, 1] fun s t => s.each (s.consumersOf t) fun s c => s.gpFail c 7

/-- A subsystem reset of one port (R263): FIFOs and queues are emptied, its connections start again or are off. -/
def State.busUnitReset (s : State) (p : Nat) : State :=
  let t := s.ticks
  let s := s.modBus p fun _ => { spokeAt := t }
  s.each ((List.range 16).filter fun c => s.rd (R.BUS_GP_CFG_TRANSPORT c) == p) fun s c =>
    if s.on (R.BUS_GP_CFG_EN c) then s.gpStart c else s.gpOff c

/-- At the first tick each port whose AUTO bit is 1 starts, and the enabled connections start (R263). -/
def State.busBoot (s : State) : State :=
  let s := s.each ([0, 1].filter fun p => s.on (R.BUS_CFG_AUTO p) && decide (s.rd (R.BUS_CFG_MODE p) ≠ 0)) State.busStart
  s.each ((List.range 16).filter fun c => s.on (R.BUS_GP_CFG_EN c)) State.gpStart

/-! ### Attributes (Tables 9-10, 9-12, 9-14) -/

/-- The attributes whose RW fields BUS_SAVE stores (Table 10-2). -/
def busAttrs : List Nat := [0x4810, 0x4811] ++ (List.range 16).map (· + 0x4820)

/-- The status of a value for a bus attribute. -/
def State.busCheck (s : State) (id v : Nat) : Nat :=
  let bad (b : Bool) : Nat := if b then stBadParam else stOk
  if 0x4810 ≤ id ∧ id < 0x4812 then
    let mode := bits v 0 3
    let addr := bits v 8 8
    bad (decide (3 < mode ∨ 5 < bits v 3 3 ∨ (mode = 1 ∧ (bits v 6 2 ≠ 3 ∨ 127 < addr)) ∨
      (mode = 2 ∧ (addr = 0 ∨ 247 < addr)) ∨ 127 < bits v 16 8 ∨ bits v 24 8 = 0 ∨ bits v 32 3 = 0 ∨ 4 < bits v 32 3 ∨
      4 < bits v 35 3 ∨ bits v 64 16 < 10 ∨ 5000 < bits v 64 16))
  else if 0x4820 ≤ id ∧ id < 0x4830 then
    let c := id - 0x4820
    let wdt := bits v 32 11
    let en := bit v 0
    let producer := bit v 1
    bad (decide (bits v 2 2 = 3 ∨ wdt < 50 ∨ 2000 < wdt ∨ 16 < bits v 48 5 ∨ bits v 60 4 = 0 ∨ bits v 64 8 = 0 ∨
        bits v 80 16 < 10 ∨ wdt / 2 < bits v 80 16) || (bit v 4 && producer) ||
      (en && !producer && (List.range 16).any fun k => k != c && s.consumes k && s.rd (R.BUS_GP_CFG_IDENT k) == bits v 16 16) ||
      (en && producer && decide (bits v 2 2 < 2) && s.rd (R.BUS_CFG_MODE (bits v 2 2)) == 2 &&
        (s.producersOf (bits v 2 2)).any fun k => k != c))
  else stOk

/-- Whether the present state permits a write on a channel (Reference, 09_bus_golposen.md). -/
def State.busPermits (s : State) (ch id v : Nat) : Bool :=
  if 0x4810 ≤ id ∧ id < 0x4812 then !s.busOn (id - 0x4810)
  else if 0x4820 ≤ id ∧ id < 0x4830 then
    ((s.chan ch).bind.isSome || decide (24 ≤ ch ∧ ch ≤ 30)) && !(s.on (R.BUS_GP_CFG_EN (id - 0x4820)) && bit v 0)
  else if 0x4860 ≤ id ∧ id < 0x4870 then s.on (R.BUS_GP_CFG_DIR (id - 0x4860))
  else true

/-- After a write: enabling or disabling a connection takes effect, and a producer's data keep their LEN bytes. -/
def State.busHook (s : State) (id : Nat) (wasOn : Bool) : State :=
  if 0x4820 ≤ id ∧ id < 0x4830 then
    let c := id - 0x4820
    if s.on (R.BUS_GP_CFG_EN c) = wasOn then s else if wasOn then s.gpOff c else s.gpStart c
  else if 0x4860 ≤ id ∧ id < 0x4870 then
    let c := id - 0x4860
    s.wr (R.BUS_GP_DATA_DATA c) (s.rd (R.BUS_GP_DATA_DATA c) % 256 ^ s.rd (R.BUS_GP_CFG_LEN c))
  else s

/-! ### Opcodes (R265) -/

def State.doBusPortCtl (s : State) (r : Ref) (p : Bytes) : State :=
  let port := u8 p 0
  let on := u8 p 1
  s.checked r [lengthIs p 2, param (decide (1 < port ∨ 1 < on ∨ (on = 1 ∧ s.rd (R.BUS_CFG_MODE port) = 0))),
    permitted (!s.on R.PWR_STAT_PFSEQ && !s.limp)] fun s => (if on = 1 then s.busStart port else s.busStop port).ok r

def State.doBusTx (s : State) (r : Ref) (p : Bytes) : State :=
  let port := u8 p 0
  let flags := u8 p 1
  let mode := s.rd (R.BUS_CFG_MODE port)
  let n := p.length - 4
  let f : HostFrame := ⟨r, bit flags 0, u8 p 2, u8 p 3, p.drop 4⟩
  let waiting := ((s.busPort port).send.filter fun e => match e with
    | .host _ => true
    | .gp _ => false).length
  s.checked r [(p.isEmpty, stBadLength), param (decide (1 < port)),
    (decide (p.length < 4 ∨ (mode = 1 ∧ 501 < n) ∨ (1 < mode ∧ (n = 0 ∨ 253 < n)) ∨ (mode = 0 ∧ 501 < n)), stBadLength),
    param (decide (2 ≤ flags ∨ (mode = 1 ∧ f.ftype ≠ 5 ∧ f.ftype ≠ 6) ∨ (mode ≠ 1 ∧ f.reply = true) ∨
      (1 < mode ∧ (u8 p 4 = 0x41 ∨ u8 p 4 = 0x42)))),
    permitted (s.busOn port), (decide (32 ≤ waiting), stQueueFull)] fun s =>
    s.modBus port fun x => { x with send := x.send ++ [.host f] }

def State.doBusGpRestart (s : State) (r : Ref) (p : Bytes) : State :=
  let mask := u16 p 0
  let internal := decide (24 ≤ r.ch ∧ r.ch ≤ 30)
  s.checked r [lengthIs p 2, param (mask == 0),
    permitted (internal || !(List.range 16).any fun c => bit mask c && s.on (R.BUS_GP_CFG_PADSTOP c))] fun s =>
    let l := (List.range 16).filter fun c => bit mask c &&
      (s.produces c || (s.consumes c && s.rd (R.BUS_GP_STAT_STATE c) == 3))
    (s.each l State.gpStart).ok r (le 2 (maskOf 16 fun c => l.contains c))

def State.doBusGpPdu (s : State) (r : Ref) (p : Bytes) : State :=
  s.checked r [(decide (p.length < 13 ∨ 29 < p.length), stBadLength), permitted (decide (r.ch ≤ 15))] fun s =>
    (s.gpReceive 2 (some r.ch) p s.ticks).ok r

def State.doBusSave (s : State) (r : Ref) (p : Bytes) : State :=
  s.checked r [lengthIs p 0] fun s => s.saveObjects r [(0x62, s.attrImage busAttrs)]

end Sys2Proof.Machine
end

