-- ==== Sys2Proof/Machine/Converters.lean ====
section
/-!
DEFINITION. Sys2Proof/Machine/Converters.lean: the converters, the sensor ports and their rows (spec/07_adc_sensing.md).
-/

namespace Sys2Proof.Machine

/-- SNS_NOTE (R207). -/
def State.snsNote (s : State) (kind unit data : Nat) : State := s.note 0x30 kind unit data

def State.adcu (s : State) (u : Nat) : AdcUnit := mget {} s.adc.units u
def State.modAdcu (s : State) (u : Nat) (f : AdcUnit → AdcUnit) : State := { s with adc.units := mmod {} s.adc.units u f }

/-- Fields that exist once for each unit. -/
def seqField (u : Nat) : Nat := if u = 0 then R.ADC_STAT_SEQ_A else R.ADC_STAT_SEQ_B
def nullField (u : Nat) : Nat := if u = 0 then R.ADC_STAT_NULL_SEQ_A else R.ADC_STAT_NULL_SEQ_B
def lostField (u : Nat) : Nat := if u = 0 then R.ADC_STAT_GO_LOST_A else R.ADC_STAT_GO_LOST_B
def winField (u : Nat) : Nat := if u = 0 then R.ADC_STAT_WIN_A else R.ADC_STAT_WIN_B

/-! ### Sequences and single conversions (R185 to R188, R191) -/

/-- ADC_SEQ_u as it reads: LEN0, LEN1, BANKSEL, BANK0, BANK1. -/
def State.seqRegs (s : State) (u : Nat) : List Nat :=
  [s.rd (R.ADC_SEQ_LEN0 u), s.rd (R.ADC_SEQ_LEN1 u), s.rd (R.ADC_SEQ_BANKSEL u), s.rd (R.ADC_SEQ_BANK0 u), s.rd (R.ADC_SEQ_BANK1 u)]

/-- The bank of this tick and its inputs, from ADC_SEQ_u as it stood at the tick edge (R188). -/
def State.seqBank (s : State) (u : Nat) : Nat × List Nat :=
  let v := ((s.adcu u).live).getD (s.seqRegs u)
  let b := b2n (bit (v.getD 2 0) s.tick)
  (b, (List.range (v.getD b 0)).map fun e => bits (v.getD (3 + b) 0) (8 * e) 5)

/-- Whether a unit may work: ADC-B stops in limp mode (R205). -/
def State.unitOff (s : State) (u : Nat) : Bool := s.adc.off || (s.limp && u == 1)

/-- Start the sequence of this tick, or find it empty (R187, R188). -/
def State.seqGo (s : State) (u : Nat) : State :=
  let b := s.seqBank u
  if b.2.isEmpty then (s.wr (nullField u) 1).snsNote 7 u 0
  else (s.wr (seqField u) 1).modAdcu u fun x => { x with seq := some ⟨s.tick, b.1, b.2, 0, true⟩, seqPend := false }

/-- A sequence start (Table 7-1). -/
def State.seqStart (s : State) (u : Nat) : State :=
  if s.unitOff u then s
  else if (s.adcu u).seq.isSome then ((s.wr (lostField u) 1).snsNote 6 u 0).fault clNote 0x30 6 u 0
  else if (s.adcu u).single.isSome then s.modAdcu u fun x => { x with seqPend := true }
  else s.seqGo u

/-- A single start of an AIN (Table 7-1). -/
def State.singleStart (s : State) (input : Nat) : State :=
  let u := input / 32
  let x := s.adcu u
  if s.unitOff u then s
  else if x.single.isSome || x.pend.isSome then s.wr R.ADC_STAT_SGL_LOST 1
  else if x.seq.isSome || x.rsv then s.modAdcu u fun x => { x with pend := some input }
  else s.modAdcu u fun x => { x with single := some input }

/-- A pending single starts once neither a sequence nor the reservation holds the unit (Table 7-1). -/
def State.pendStart (s : State) (u : Nat) : State :=
  let x := s.adcu u
  if x.seq.isNone && !x.rsv && x.single.isNone && x.pend.isSome then
    s.modAdcu u fun x => { x with single := x.pend, pend := none }
  else s

/-- A single conversion completes (R191); ADC_CONVERT answers with it, which reads ADC_DATA (R206). -/
def State.singleDone (s : State) (u code : Nat) (ovr unr : Bool) : State :=
  match (s.adcu u).single with
  | none => s
  | some i =>
    let s := s.modAdcu u fun x => { x with single := none }
    let s := s.wrs [(R.ADC_DATA_CODE, code), (R.ADC_DATA_INPUT, i), (R.ADC_DATA_OVR, b2n ovr), (R.ADC_DATA_UNR, b2n unr),
      (R.ADC_DATA_OVERRUN, b2n (s.on R.ADC_DATA_NEW || s.on R.ADC_DATA_OVERRUN)), (R.ADC_DATA_NEW, 1)]
    let s := match s.adc.conv with
      | none => s
      | some r => ({ s.wrs [(R.ADC_DATA_NEW, 0), (R.ADC_DATA_OVERRUN, 0)] with adc.conv := none }).ok r
          (le 2 code ++ le 1 (b2n ovr + 2 * b2n unr))
    if (s.adcu u).seqPend then s.seqGo u else s.pendStart u

/-- A conversion of the running sequence ends: its result is written to ADC_SR_u_e (R185, R188, R192). -/
def State.seqResult (s : State) (u : Nat) (q : SeqRun) (code : Nat) (ovr unr : Bool) : State :=
  let e := q.done
  let i := q.inputs.getD e 0
  let s := s.wrs [(R.ADC_SR_CODE u e, code), (R.ADC_SR_OVR u e, b2n ovr), (R.ADC_SR_UNR u e, b2n unr), (R.ADC_SR_BANK u e, q.bank),
    (R.ADC_SR_VALID u e, 1), (R.ADC_SR_INPUT u e, i), (R.ADC_SR_TICK u e, q.tick)]
  let s := s.modAdcu u fun x => { x with res := x.res ++ [⟨i, code, ovr, unr⟩] }
  if e + 1 < q.inputs.length then s.modAdcu u fun x => { x with seq := some { q with done := e + 1 } }
  else
    ((s.wr (seqField u) 0).modAdcu u fun x => { x with seq := none, rsv := false }).pendStart u

/-- A conversion ends on a unit (R185). -/
def State.convEnd (s : State) (u code : Nat) (ovr unr : Bool) : State :=
  match (s.adcu u).seq with
  | some q => s.seqResult u q code ovr unr
  | none => s.singleDone u code ovr unr

/-- BUSY (Table 7-7). -/
def State.adcBusy (s : State) : Bool := [0, 1].any fun u => (s.adcu u).single.isSome || (s.adcu u).pend.isSome

/-- The slot-1 edge: the reservation stands (it begins 24 ADC clocks earlier, log entry 15). -/
def State.reserveUnits (s : State) : State := s.each [0, 1] fun s u => s.modAdcu u fun x => { x with rsv := true }

/-- The end of slot 1: a unit with no sequence is free again (R186). -/
def State.releaseUnits (s : State) : State :=
  s.each [0, 1] fun s u =>
    if (s.adcu u).seq.isNone then (s.modAdcu u fun x => { x with rsv := false }).pendStart u else s

/-- The tick edge fixes each unit's bank (R188). -/
def State.adcTick (s : State) : State := s.each [0, 1] fun s u => s.modAdcu u fun x => { x with live := none }

/-- Whether ADC_WIN fires for a unit: its slot-1 sequence still runs (R27). -/
def State.winLate (s : State) (u : Nat) : Bool := (s.adcu u).seq.any fun q => q.win

/-- ADC_WIN fires for a unit: the sequence is stopped and none of its results is posted (R190, Table 1-7). -/
def State.winFire (s : State) (u : Nat) : State :=
  match (s.adcu u).seq with
  | none => s
  | some q =>
    ((s.wrs [(winField u, 1), (seqField u, 0)]).modAdcu u fun x =>
      { x with seq := none, res := [], lost := x.lost ++ q.inputs, rsv := false }).pendStart u

/-! ### ADC_RES_u (R189 to R195) -/

/-- The value of a code by ADC_INCFG_n.LIN (R194). -/
def State.linearise (s : State) (lin raw : Nat) : Nat :=
  if lin = 0 then raw
  else
    let t := lin - 1
    let a := s.rd (R.ADC_LINTAB_E t (raw / 128))
    let b := s.rd (R.ADC_LINTAB_E t (raw / 128 + 1))
    code12 (Int.fdiv (2 * ((a : Int) * 128 + ((b : Int) - a) * (raw % 128 : Nat)) + 128) 256)

/-- The OVR, UNR, OPEN and SHORT of an input as a number (R207). -/
def State.ainFlags (s : State) (n : Nat) : Nat :=
  s.rd (R.ADC_AIN_OVR n) + 2 * s.rd (R.ADC_AIN_UNR n) + 4 * s.rd (R.ADC_AIN_OPEN n) + 8 * s.rd (R.ADC_AIN_SHORT n)

/-- Post a result to its input (R189, R193, R194). -/
def State.postAin (s : State) (u : Nat) (r : AdcRes) : State :=
  let n := 32 * u + r.input
  let old := s.ainFlags n
  let det := s.on (R.ADC_INCFG_DET n)
  let s := s.wrs [(R.ADC_AIN_RAW n, r.code), (R.ADC_AIN_VALUE n, s.linearise (s.rd (R.ADC_INCFG_LIN n)) r.code),
    (R.ADC_AIN_OVR n, b2n r.ovr), (R.ADC_AIN_UNR n, b2n r.unr),
    (R.ADC_AIN_OPEN n, b2n (det && (decide (s.rd (R.ADC_INCFG_OPEN_THR n) ≤ r.code) || r.ovr))),
    (R.ADC_AIN_SHORT n, b2n (det && (decide (r.code ≤ s.rd (R.ADC_INCFG_SHORT_THR n)) || r.unr))), (R.ADC_AIN_VALID n, 1)]
  let t := s.ticks
  let s := { s with adc.ages := mput {} s.adc.ages n ⟨some t, false⟩ }
  if s.on (R.ADC_INCFG_NOTE n) && decide (s.ainFlags n ≠ old) then s.snsNote 1 n (s.ainFlags n) else s

/-- The ADC_RES_u job (R189, R190). -/
def State.adcRes (s : State) (u : Nat) : State :=
  let x := s.adcu u
  let s := s.modAdcu u fun x => { x with res := [], lost := [] }
  let s := s.each x.lost fun s i =>
    { s with adc.ages := mmod {} s.adc.ages (32 * u + i) fun a => { a with lost := true } }
  s.each x.res fun s r => s.postAin u r

/-- ADC_RES_u overran: its results are lost, and their inputs read STALE from the next commit (R190). -/
def State.adcResLost (s : State) (u : Nat) : State :=
  s.modAdcu u fun x => { x with lost := x.lost ++ x.res.map (·.input), res := [] }

/-! ### Sensor ports (R198 to R204) -/

def State.port (s : State) (p : Nat) : Port := mget {} s.adc.ports p
def State.modPort (s : State) (p : Nat) (f : Port → Port) : State := { s with adc.ports := mmod {} s.adc.ports p f }
def State.dev (s : State) (d : Nat) : Dev := mget {} s.adc.devs d
def State.modDev (s : State) (d : Nat) (f : Dev → Dev) : State := { s with adc.devs := mmod {} s.adc.devs d f }

/-- Whether a device is described: it has a port and a kind. -/
def State.devOn (s : State) (d : Nat) : Bool := s.rd (R.ADC_DEV_PORT d) != 0 && s.rd (R.ADC_DEV_KIND d) != 0

/-- Whether the sensor ports work (R205). -/
def State.portsWork (s : State) : Bool := !s.adc.portsOff && !s.limp

/-- A device falls due; one that still waits counts as late, and is served once (R199). -/
def State.deviceDue (s : State) (d : Nat) : State :=
  let t := s.ticks
  let s := if (s.dev d).due.isSome then s.count R.ADC_SPT_LATE 255 1 else s.modDev d fun x => { x with due := some t }
  s.modDev d fun x => { x with next := some (t + s.rd (R.ADC_DEV_PERIOD d)) }

/-- Devices fall due at the tick edge; a device's first period starts when it is described (log entry 15). -/
def State.devTick (s : State) : State :=
  if s.portsWork then
    s.each ((List.range 16).filter s.devOn) fun s d =>
      match (s.dev d).next with
      | none => s.modDev d fun x => { x with next := some (s.ticks + s.rd (R.ADC_DEV_PERIOD d)) }
      | some t => if t ≤ s.ticks then s.deviceDue d else s
  else s

/-- What a port could serve: since when it has waited, the device, and the phase of its transaction (R199, R200). -/
def State.candidates (s : State) (p : Nat) : List (Nat × Trans) :=
  ((List.range 16).filter fun d => s.devOn d && s.rd (R.ADC_DEV_PORT d) == p + 1).filterMap fun d =>
    match (s.dev d).readAt, (s.dev d).due with
    | some t, _ => if t ≤ s.ticks then some (t, ⟨d, 1⟩) else none
    | none, some t => some (t, ⟨d, if s.rd (R.ADC_DEV_KIND d) = 1 ∧ s.rd (R.ADC_DEV_WAIT d) ≠ 0 then 0 else 2⟩)
    | none, none => none

/-- The longest wait, the lower number first among equals (R199). -/
def longestWait (l : List (Nat × Trans)) : Option Trans :=
  (l.foldl (fun (best : Option (Nat × Trans)) c => match best with
    | none => some c
    | some b => if c.1 < b.1 then some c else some b) none).map (·.2)

/-- Prepare a port's transaction (R199). -/
def State.portPrepare (s : State) (p : Nat) : State :=
  match longestWait (s.candidates p) with
  | none => s
  | some tr =>
    (s.modDev tr.dev fun x => { x with due := if tr.phase = 1 then x.due else none, readAt := none }).modPort p fun x =>
      { x with prep := some tr }

/-- A transaction of a device has failed (R203); a partial frame is discarded (R201). -/
def State.devError (s : State) (d err : Nat) : State :=
  let x := s.dev d
  let s := (s.wr (R.ADC_DEVR_ERR d) err).modDev d fun x => { x with err := true, chunk := 0, part := [] }
  if x.good && !x.err then s.snsNote 2 d err else s

/-- A device has delivered a result without error (R203). -/
def State.devGood (s : State) (d : Nat) : State :=
  let x := s.dev d
  let s := (s.wrs [(R.ADC_DEVR_ERR d, 0), (R.ADC_DEVR_VALID d, 1), (R.ADC_DEVR_AGE d, 0)]).modDev d fun x =>
    { x with err := false, good := true }
  if x.err then s.snsNote 3 d 0 else s

/-- TEMP or HUM of an HT device before saturation, in 1/65,536 code (R200). -/
def htValue (ofs : Int) (span raw : Nat) : Int := Int.fdiv (2 * (ofs * 65536 + (span * raw : Nat)) + 65536) 131072

/-- An HT reading: CRC-8 when asked for, then TEMP and HUM (R200). -/
def State.htResult (s : State) (d : Nat) (b : Bytes) : State :=
  let crc := s.on (R.ADC_DEV_CRC d)
  let w2 := if crc then 3 else 2
  if crc && (crc8 (sub b 0 2) != u8 b 2 || crc8 (sub b 3 2) != u8 b 5) then s.devError d 4
  else
    let t := htValue (s.rd (R.ADC_DEV_T_OFS d)) (s.rd (R.ADC_DEV_T_SPAN d)) (ofBe (sub b 0 2))
    let h := htValue (signed 16 (s.rd (R.ADC_DEV_H_OFS d))) (s.rd (R.ADC_DEV_H_SPAN d)) (ofBe (sub b w2 2))
    (s.wrs [(R.ADC_DEVR_TEMP d, code12 t), (R.ADC_DEVR_HUM d, (clamp 0 0xFA0 h).toNat),
      (R.ADC_DEVR_CLIP d, b2n (decide (t < 0 ∨ 0xFFF < t ∨ h < 0 ∨ 0xFA0 < h)))]).devGood d

/-- A chunk of an array: the last one completes the frame and hands it to Stable (R201). -/
def State.arrayChunk (s : State) (d : Nat) (b : Bytes) : State :=
  let size := 2 * (s.rd (R.ADC_DEV_FRAME d) + 1)
  let part := (s.dev d).part ++ b
  let s := s.devGood d
  if size ≤ part.length then
    (s.wrap (R.ADC_DEVR_FRAMES d) 65536 1).modDev d fun x => { x with chunk := 0, part := [], frame := some (part.take size) }
  else s.modDev d fun x => { x with chunk := x.chunk + 1, part := part }

/-- The bytes of Table 7-18. -/
def isKey (k : Nat) : Bool := decide (0x30 ≤ k ∧ k ≤ 0x39) || decide (0x41 ≤ k ∧ k ≤ 0x46) || [0x0D, 0x1B, 0x08, 0x11, 0x12].contains k

/-- SPT_SVC takes the result of a port's transaction (R199 to R203). -/
def State.portTake (s : State) (p : Nat) : State :=
  match (s.port p).res with
  | none => s
  | some r =>
    let s := s.modPort p fun x => { x with res := none }
    let d := r.tr.dev
    if r.err ≠ 0 ∨ !s.devOn d then s
    else match s.rd (R.ADC_DEV_KIND d) with
      | 1 => if r.tr.phase = 0 then
            s.modDev d fun x => { x with readAt := some (s.ticks - 1 + s.rd (R.ADC_DEV_WAIT d)) }
          else s.htResult d r.data
      | 2 => s.arrayChunk d r.data
      | _ =>
        let s := s.devGood d
        if isKey (u8 r.data 0) then { s with adc.keys := s.adc.keys ++ [u8 r.data 0] } else s

/-- The SPT_SVC job: results of the last tick, then this tick's transactions (R199). -/
def State.sptSvc (s : State) : State :=
  if s.portsWork then (s.each [0, 1, 2] State.portTake).each [0, 1, 2] State.portPrepare else s

/-- Record a port's outcome (R203). -/
def State.portEnd (s : State) (p err : Nat) (b : Bytes) : State :=
  match (s.port p).run with
  | none => s
  | some tr =>
    let s := (s.wr R.ADC_SPT_ACTIVE (setBit (s.rd R.ADC_SPT_ACTIVE) p false)).modPort p fun x =>
      { x with run := none, res := some ⟨tr, err, b⟩ }
    if err = 0 then s else s.devError tr.dev err

/-- A port's lines are free: a stuck port is freed (R204). -/
def State.portFreed (s : State) (p : Nat) : State :=
  if bit (s.rd R.ADC_SPT_STUCK) p then (s.wr R.ADC_SPT_STUCK (setBit (s.rd R.ADC_SPT_STUCK) p false)).snsNote 5 p 0 else s

/-- The sensor-port GO starts a port's transaction; an I2C port with a low line first recovers it, or ends with BUS_STUCK
(R199, R204). -/
def State.portGo (s : State) (p : Nat) (low freed : Bool) : State :=
  match (s.port p).prep with
  | none => s
  | some tr =>
    let s := (s.wr R.ADC_SPT_ACTIVE (setBit (s.rd R.ADC_SPT_ACTIVE) p true)).modPort p fun x => { x with prep := none, run := some tr }
    if decide (p < 2) && low then
      if freed then (s.count R.ADC_SPT_RECOVERIES 255 1).portFreed p
      else
        let s := (s.portEnd p 5 []).wr R.ADC_SPT_STUCK (setBit (s.rd R.ADC_SPT_STUCK) p true)
        (s.snsNote 4 p 0).fault clDegrade 0x30 4 p 0 2
    else s.portFreed p

/-- The sensor-port GO of the sequencer (Table 1-3). -/
def State.portsGo (s : State) (low freed : Nat) : State :=
  if s.portsWork then s.each [0, 1, 2] fun s p => s.portGo p (bit low p) (bit freed p) else s

/-- A transaction still running at 915.53 us is stopped (R199). -/
def State.portTimeout (s : State) (p : Nat) : State := s.portEnd p 3 []

/-- 8 stage edges without a good result make a device not VALID (R203). -/
def State.deviceInvalid (s : State) (d : Nat) : State :=
  if 8 ≤ s.rd (R.ADC_DEVR_AGE d) then s.wr (R.ADC_DEVR_VALID d) 0 else s

/-- A stage edge ages every device (R203). -/
def State.devStage (s : State) : State :=
  s.each (List.range 16) fun s d => (s.count (R.ADC_DEVR_AGE d) 255 1).deviceInvalid d

/-! ### Resets of the units (R205) -/

/-- Unit 0x01: both converters stop, results in flight are lost, and every input reads STALE. -/
def State.adcReset (s : State) : State :=
  let ids := [0x3001, 0x3002] ++ (List.range 32).map (· + 0x3010) ++ (List.range 64).map (· + 0x3040)
  let r := s.adc.conv
  let s := s.each ids State.clearAttr
  { (s.wrB R.ADC_STAT_LIMP s.limp) with adc.units := [], adc.ages := [], adc.conv := none }.finish? r stAborted

/-- Unit 0x02: every port stops and partial frames are dropped. -/
def State.portsReset (s : State) : State :=
  { s.each ([0x3003] ++ (List.range 16).map (· + 0x30E0)) State.clearAttr with adc.ports := [], adc.devs := [], adc.keys := [] }

/-! ### The checks and effects of attribute writes (Tables 7-10 to 7-15) -/

/-- Bytes of the longest transaction a device description asks for (R198, R200 to R202). -/
def devBytes (port kind cmdn wait chunk : Nat) (crc : Bool) : Nat :=
  let a := if port = 3 then 0 else 1
  match kind with
  | 1 => let n := if crc then 6 else 4
         if wait = 0 then 2 * a + cmdn + n else max (a + cmdn) (a + n)
  | 2 => 2 * a + 2 + chunk
  | 3 => if cmdn = 0 then a + 1 else 2 * a + cmdn + 1
  | _ => 0

/-- Whether the transaction takes longer than 640 us (R198). -/
def tooLong (port bytes sdiv : Nat) (fast : Bool) : Bool :=
  if port = 3 then decide (15679488 < 16000 * bytes * (sdiv + 1))
  else decide (640 < (if fast then (45 * bytes + 1) / 2 else 90 * bytes) + 10)

/-- The status of a value for a converter attribute. -/
def State.adcCheck (s : State) (id v : Nat) : Nat :=
  let bad (b : Bool) : Nat := if b then stBadParam else stOk
  if id = 0x3008 ∨ id = 0x3009 then
    bad (decide (16 < bits v 0 5 ∨ 16 < bits v 8 5) || (List.range 32).any fun e => bits v (37 + 8 * e) 3 != 0)
  else if 0x3080 ≤ id ∧ id < 0x30C0 then
    bad (decide (4 < bits v 0 3) || (bit v 3 && decide (bits v 4 12 ≤ bits v 16 12)))
  else if 0x30C1 ≤ id ∧ id < 0x30C4 then bad ((List.range 33).any fun k => bits v (16 * k + 12) 4 != 0)
  else if 0x30D0 ≤ id ∧ id < 0x30E0 then
    let port := bits v 0 2
    let kind := bits v 2 2
    let cmdn := bits v 30 2
    let chunk := bits v 64 6
    let other := (List.range 16).any fun d => decide (d ≠ id - 0x30D0) && s.rd (R.ADC_DEV_KIND d) == 3
    bad (decide (cmdn = 3 ∨ bits v 32 16 = 0 ∨ chunk % 2 = 1 ∨ chunk < 2 ∨ 32 < chunk ∨ (port = 3 ∧ bits v 16 8 = 0) ∨
        (kind = 2 ∧ cmdn ≠ 2) ∨ (kind = 3 ∧ (cmdn = 2 ∨ 64 < bits v 32 16))) || (decide (kind = 3) && other) ||
      (decide (port ≠ 0) && tooLong port (devBytes port kind cmdn (bits v 24 6) chunk (bit v 15)) (bits v 16 8) (bit v 4)))
  else stOk

/-- What a write of a converter attribute does beside setting its fields; `old` is ADC_SEQ_u as it read before. -/
def State.adcHook (s : State) (id v : Nat) (old : List Nat) : State :=
  if id = 0x3000 then if bit v 8 then s.singleStart (bits v 0 6) else s
  else if id = 0x3008 ∨ id = 0x3009 then
    s.modAdcu (id - 0x3008) fun x => { x with live := some (x.live.getD old) }
  else if 0x30D0 ≤ id ∧ id < 0x30E0 then
    s.modDev (id - 0x30D0) fun x => { x with due := none, next := none, readAt := none, chunk := 0, part := [] }
  else s

/-! ### The rows -/

/-- ADC_CONVERSION_END (R185, R188, R192). -/
def execAdcConversionEnd (u : Fin 2) (code : BitVec 12) (ovr unr : Bool) (s : State) : Host.Outcome State Fault Refusal :=
  .next (s.convEnd u code.toNat ovr unr)

/-- ADC_CTL_GO (R186): a write of ADC_CTL. -/
def execAdcCtlGo (v : BitVec 32) (s : State) : Host.Outcome State Fault Refusal :=
  .next ((s.setRw 0x3000 v.toNat).adcHook 0x3000 v.toNat [])

/-- ADC_SINGLE_PENDING_START (R186, Table 7-1). -/
def execAdcSinglePendingStart (u : Fin 2) (s : State) : Host.Outcome State Fault Refusal := .next (s.pendStart u)

/-- ADC_SINGLE_DONE (R191). -/
def execAdcSingleDone (u : Fin 2) (code : BitVec 12) (ovr unr : Bool) (s : State) : Host.Outcome State Fault Refusal :=
  .next (s.singleDone u code.toNat ovr unr)

/-- DEVICE_DUE (R199): the period of a device that is described has passed. -/
def execDeviceDue (d : Fin 16) (s : State) : Host.Outcome State Fault Refusal :=
  .next (if s.devOn d && s.portsWork then s.deviceDue d else s)

/-- TRANSACTION_END (R203). -/
def execTransactionEnd (port : Fin 3) (err : Fin 3) (data : Bytes) (s : State) : Host.Outcome State Fault Refusal :=
  .next (s.portEnd port err data)

/-- TRANSACTION_TIMEOUT (R199). -/
def execTransactionTimeout (port : Fin 3) (s : State) : Host.Outcome State Fault Refusal := .next (s.portTimeout port)

/-- DEVICE_INVALID (R203). -/
def execDeviceInvalid (d : Fin 16) (s : State) : Host.Outcome State Fault Refusal := .next (s.deviceInvalid d)

/-- ADC_CONVERT (R206): a single conversion; the reply follows its end. -/
def State.doAdcConvert (s : State) (r : Ref) (p : Bytes) : State :=
  let i := u8 p 0
  s.checked r [lengthIs p 1, param (decide (63 < i)), permitted (!s.adcBusy && !(s.limp && decide (31 < i)))] fun s =>
    { s.singleStart i with adc.conv := some r }

/-- The attributes ADC_SAVE stores (Reference, R268). -/
def adcAttrs : List Nat :=
  [0x3008, 0x3009] ++ (List.range 64).map (· + 0x3080) ++ [0x30C1, 0x30C2, 0x30C3] ++ (List.range 16).map (· + 0x30D0)

/-- ADC_SAVE (R206, R270): one page commit per page of the image. -/
def State.doAdcSave (s : State) (r : Ref) (p : Bytes) : State :=
  s.checked r [lengthIs p 0] fun s => s.saveObjects r [(0x61, s.attrImage adcAttrs)]

def execAdcConvert (c : Cmd) (s : State) : Host.Outcome State Fault Refusal := .next (s.command c 0x30 State.doAdcConvert)
def execAdcSave (c : Cmd) (s : State) : Host.Outcome State Fault Refusal := .next (s.command c 0x31 State.doAdcSave)

end Sys2Proof.Machine
end

