-- ==== Sys2Proof/Machine/Security.lean ====
section
/-!
DEFINITION. Sys2Proof/Machine/Security.lean: the tack room (spec/16_security.md): key slots, owner-signed operations, fuse
burns, entropy, secure boot, updates and trial, handshakes and pairing. The rows are in SecurityCommands.lean.
-/

namespace Sys2Proof.Machine

/-! ### Key slots (R403, R404, Table 16-17) -/

/-- The lifecycle state (R400). -/
def State.lifecycle (s : State) : Nat := s.rd R.SEC_STAT_LIFECYCLE

/-- Whether the key slots are usable (Table 16-3). -/
def State.keysUsable (s : State) : Bool := s.lifecycle == 1 || s.lifecycle == 2

/-- The content of a slot; an empty slot has KIND 0. -/
def State.keySlot (s : State) (n : Nat) : Slot := (mget? s.sec.slots n).getD ⟨0, 0, 0, []⟩

/-- A public key in SEC1 compressed form, from x and y (Table 16-17). -/
def compress (key : Bytes) : Bytes := le 1 (2 + u8 key 63 % 2) ++ sub key 0 32

/-- The stored material of a key. -/
def Slot.material (k : Slot) : Bytes := padTo 44 0 (if k.kind = 1 then compress k.key else k.key)

/-- The 4 bytes of a slot page that are not encrypted. -/
def Slot.head (k : Slot) : Bytes := le 1 k.kind ++ le 1 k.use ++ le 2 k.gen

/-- The nonce of a slot page: page number, GEN, 8 zero bytes. -/
def slotNonce (n gen : Nat) : Bytes := le 2 (0x8C0 + n) ++ le 2 gen ++ le 8 0

/-- The page image of a slot's content under the slot wrap key. -/
def State.slotImage (s : State) (n : Nat) (k : Slot) : Bytes :=
  padTo 64 0 (k.head ++ Config.gcmSeal (Config.wrapKey s.sec.returned) (slotNonce n k.gen) k.head k.material)

/-- The key of stored material by KIND; none where the slot is empty (R404, Table 16-17). -/
def keyOf (kind : Nat) (m : Bytes) : Option Bytes :=
  if kind = 0 then some []
  else if kind = 1 then Config.p256Decompress (m.take 33)
  else if kind = 3 then some (m.take 16)
  else if kind = 2 ∨ kind = 4 then some (m.take 32)
  else none

/-- What a slot page that the model has not just sealed opens to. -/
def State.openPage (s : State) (n : Nat) (b : Bytes) : Option Slot :=
  match Config.gcmOpen (Config.wrapKey s.sec.returned) (slotNonce n (u16 b 2)) (sub b 0 4) (sub b 4 60) with
  | none => none
  | some m => (keyOf (u8 b 0) m).map fun k => ⟨u8 b 0, u8 b 1, u16 b 2, k⟩

/-- The content a slot's page holds at boot: a page that is erased, unreadable or does not open is an empty slot, and
after the burn of RETURNED every page is (R402, R404). -/
def State.loadSlot (s : State) (n : Nat) : Option Slot :=
  let b := s.page (0x8C0 + n)
  if s.sec.returned || erasedPage b || !s.readable (0x8C0 + n) then none
  else
    match [mget? s.sec.slots n, mget? s.sec.made n].find? fun k => k.any fun k => s.slotImage n k == b with
    | some k => k
    | none => s.openPage n b

/-- The identity public key: zero before PROVISIONED (Table 16-13). -/
def State.identityPublic (s : State) : Bytes :=
  if s.lifecycle ≠ 0 ∧ (s.keySlot 6).kind = 2 then Config.p256Public (s.keySlot 6).key else []

/-- Show a slot in its attribute, and slot 6 in SEC_DEV too. -/
def State.showSlot (s : State) (n : Nat) : State :=
  let k := s.keySlot n
  let s := s.wrs [(R.SEC_SLOT_KIND n, k.kind), (R.SEC_SLOT_USE n, k.use), (R.SEC_SLOT_GEN n, k.gen)]
  if n = 6 then s.wr R.SEC_DEV_IDPUB (ofLe s.identityPublic % 2 ^ 512) else s

/-- Give a slot its content. -/
def State.setSlot (s : State) (n : Nat) (k : Option Slot) : State :=
  let s := { s with sec.slots := match k with
    | none => mdel s.sec.slots n
    | some k => mins s.sec.slots n k }
  s.showSlot n

/-- Rebuild every slot from its page (R404, Reference). -/
def State.loadSlots (s : State) : State := s.each (List.range 32) fun s n => s.setSlot n (s.loadSlot n)

/-! ### Entropy (R406, R407) -/

/-- Whether commands get random numbers. -/
def State.randomOk (s : State) : Bool := s.sec.drbg && !s.on R.SEC_STAT_ENT_FAIL

/-- n random bytes of the DRBG: a free value (log entry 4). -/
def State.random (s : State) (n : Nat) : Bytes × State :=
  let d := s.draw (8 * n)
  (le n d.1, d.2)

/-- The DRBG is instantiated or reseeded. -/
def State.seed (s : State) : State := { s with sec.drbg := true, sec.seedAt := s.stage }

/-- A health test fails (R407, R420, R421). -/
def State.entropyFailed (s : State) : State :=
  if s.on R.SEC_STAT_ENT_FAIL then s
  else
    let s := { s.wr R.SEC_STAT_ENT_FAIL 1 with sec.drbg := false }
    let s := ((s.secNote 7 0 0).record 2 0x16 (le 1 0)).fault clDegrade 0x68 7 0 0
    s.recert

/-- Fresh entropy at a stage edge passes both tests (R407). -/
def State.entropyRecovered (s : State) : State :=
  if s.on R.SEC_STAT_ENT_FAIL then
    let s := (s.seed.wr R.SEC_STAT_ENT_FAIL 0)
    ((s.secNote 7 0 1).record 2 0x16 (le 1 1)).recert
  else s

/-- The reseed once every 64 stages (R406). -/
def State.reseed (s : State) : State :=
  if s.randomOk && decide (s.stage ≥ s.sec.seedAt + 64) then s.seed else s

/-! ### Banks of the boot flash (Secure boot, Table 16-5) -/

/-- n bytes of a bank from an offset. -/
def State.bankBytes (s : State) (bank off n : Nat) : Bytes := cellsGet 0xFF s.sec.flash (0x80000 * bank + off) n

/-- The bank record. -/
def State.bankRecord (s : State) (bank : Nat) : Bytes := s.bankBytes bank 0x7FFF0 16

/-- Whether a bank record is intact: MAGIC and CRC-32 over the first 12 bytes. -/
def recordIntact (b : Bytes) : Bool :=
  sub b 0 4 == [0x4C, 0x42, 0x4B, 0x31] && u32 b 12 == crc32 (sub b 0 12)

/-- SEQ of a bank record. -/
def State.bankSeq (s : State) (bank : Nat) : Nat := u32 (s.bankRecord bank) 4

/-- The header of the image in a bank. -/
def State.bankHeader (s : State) (bank : Nat) : Bytes := s.bankBytes bank 0 192

/-- LEN of a header. -/
def headerLen (h : Bytes) : Nat := u32 h 8

/-- Whether MAGIC, FORMAT, the reserved bytes, SVN's range and LEN of a header are as Table 16-5 lays them out. -/
def headerOk (h : Bytes) : Bool :=
  sub h 0 4 == [0x57, 0x50, 0x41, 0x54] && u8 h 4 == 1 && decide (u8 h 5 < 4) && decide (u8 h 6 < 64) && u8 h 7 == 0 &&
    (sub h 20 44).all (fun x => x == 0) && decide (64 ≤ headerLen h ∧ headerLen h ≤ 262144 ∧ headerLen h % 64 = 0)

/-- RESULT of the header checks of R409 that BEGIN makes: 0, 2 header, 3 ROM_BUILD, 4 SVN (Table 16-12). -/
def State.headerResult (s : State) (h : Bytes) : Nat :=
  if !headerOk h then 2
  else if u32 h 12 ≠ s.rd R.SEC_BOOT_ROM_BUILD then 3
  else if u8 h 6 < s.rd R.SEC_BOOT_MIN_SVN then 4
  else 0

/-- D of an image: SHA-256 over header bytes 0-63 followed by the body (R408). -/
def State.bankDigest (s : State) (bank : Nat) : Bytes :=
  let h := s.bankHeader bank
  Config.sha256 (sub h 0 64 ++ s.bankBytes bank 192 (headerLen h))

/-- Whether the owner signature is checked (Table 16-3). -/
def State.ownerChecked (s : State) : Bool := s.lifecycle == 1 || s.lifecycle == 2

/-- RESULT of the signature checks: 0, 5 SIG_L, 6 SIG_O. -/
def State.signResult (s : State) (h d : Bytes) : Nat :=
  if !Config.vendorVerify (bits (u8 h 5) 1 1) d (sub h 64 64) then 5
  else if s.ownerChecked && !((s.keySlot 0).kind == 1 && Config.ecdsaVerify (s.keySlot 0).key d (sub h 128 64)) then 6
  else 0

/-- RESULT of a bank under R409, in the order of its checks. -/
def State.bankResult (s : State) (bank : Nat) : Nat :=
  let h := s.bankHeader bank
  if s.sec.flashBad then 7
  else if s.headerResult h ≠ 0 then s.headerResult h
  else if sub (s.bankDigest bank) 0 4 ≠ sub (s.bankRecord bank) 8 4 then 5
  else s.signResult h (s.bankDigest bank)

/-- The banks with an intact record, in descending order of SEQ (R409). -/
def State.bankOrder (s : State) : List Nat :=
  (if s.bankSeq 0 < s.bankSeq 1 then [1, 0] else [0, 1]).filter fun b => recordIntact (s.bankRecord b)

/-- Whether a bank would be in trial, and has failed three times (R412). -/
def State.trialFailed (s : State) (bank : Nat) : Bool :=
  decide (s.sec.confirmed < s.bankSeq bank) && decide (3 ≤ s.sec.trials)

/-- Whether ROM skips a bank (R409). -/
def State.bankSkipped (s : State) (bank : Nat) : Bool :=
  decide (s.sec.reject = some (s.bankSeq bank)) || s.trialFailed bank

/-- SECURE_BOOT (R409, R412, SEC_BOOT): the outcome of the banks. -/
def State.secureBoot (s : State) : State :=
  let banks := s.bankOrder
  let taken := banks.filter fun b => !s.bankSkipped b
  let s := { s with sec.skipped := (banks.find? fun b =>
    s.trialFailed b && decide (s.sec.reject ≠ some (s.bankSeq b))).map s.bankSeq }
  let result := if s.sec.flashBad then 7 else (taken.head?.map s.bankResult).getD 1
  match (if s.sec.flashBad then none else taken.find? fun b => s.bankResult b == 0) with
  | none =>
    let s := s.wrs [(R.SEC_BOOT_PATCH, 0), (R.SEC_BOOT_BANK, 0), (R.SEC_BOOT_RESULT, result), (R.SEC_BOOT_SVN, 0),
      (R.SEC_BOOT_DIGEST, 0), (R.SEC_STAT_PATCH_OK, 0)]
    { s with sec.runSeq := 0, sec.commitSvn := false }
  | some b =>
    let h := s.bankHeader b
    let s := { s with sec.runSeq := s.bankSeq b, sec.commitSvn := bit (u8 h 5) 0 }
    s.wrs [(R.SEC_BOOT_PATCH, 1), (R.SEC_BOOT_BANK, b), (R.SEC_BOOT_RESULT, result), (R.SEC_BOOT_SVN, u8 h 6),
      (R.SEC_BOOT_DIGEST, ofLe (sub (s.bankDigest b) 0 8)), (R.SEC_STAT_PATCH_OK, 1)]

/-! ### Operations: page commits in order, one operation at a time (R400 to R405, R411, R412) -/

/-- The data of the security record (R404, R405); REJECT_SEQ reads 0xFFFF_FFFF while none is rejected. -/
def secRecord (cmdseq minSvn confirmed : Nat) (reject : Option Nat) : Bytes :=
  le 4 cmdseq ++ le 4 minSvn ++ le 4 confirmed ++ le 4 (reject.getD 0xFFFFFFFF)

/-- The page write of a security record. -/
def State.secRecordPage (s : State) (data : Bytes) : Nat × Bytes :=
  match s.savePages 0x68 data with
  | [] => (0x8E0, data)
  | p :: _ => (p.1, p.2.1)

/-- The security record as it stands, with another CMDSEQ. -/
def State.recordWithSeq (s : State) (q : Nat) : Bytes :=
  secRecord q (s.rd R.SEC_BOOT_MIN_SVN) s.sec.confirmed s.sec.reject

/-- MIN_SVN and CONFIRMED_SEQ after a trial is confirmed, and REJECT_SEQ after it is rejected (R412). -/
def State.trialValues (s : State) (confirmed : Bool) : Nat × Nat × Option Nat :=
  if confirmed then
    ((if s.sec.commitSvn then s.rd R.SEC_BOOT_SVN else s.rd R.SEC_BOOT_MIN_SVN), s.sec.runSeq, s.sec.reject)
  else (s.rd R.SEC_BOOT_MIN_SVN, s.sec.confirmed, some (s.sec.skipped.getD s.sec.runSeq))

/-- The GEN of the next key write of a slot. -/
def State.nextGen (s : State) (n : Nat) : Nat := ((s.keySlot n).gen + 1) % 65536

/-- The contents of slots 0 and 6 at provisioning (R401). -/
def State.provisioned (s : State) (root identity : Bytes) (k : Nat) : Nat × Slot :=
  if k = 0 then (0, ⟨1, 0, s.nextGen 0, root⟩) else (6, ⟨2, 0, s.nextGen 6, identity⟩)

/-- The k-th page commit of an action: slot and content for a slot page, or page and image. -/
inductive SecPage where
  | slot (n : Nat) (k : Slot)
  | raw (page : Nat) (image : Bytes)
  | none

def State.secPage (s : State) (a : SecAct) (k : Nat) : SecPage :=
  match a with
  | .key n c _ => if k = 0 then .slot n c else .none
  | .gen _ => .none
  | .pair n c => if k = 0 then .slot n c else .none
  | .life _ => .none
  | .provision root identity => if k < 2 then .slot (s.provisioned root identity k).1 (s.provisioned root identity k).2 else .none
  | .trial confirmed =>
    if k = 0 then
      let v := s.trialValues confirmed
      let p := s.secRecordPage (secRecord (s.rd R.SEC_STAT_CMDSEQ) v.1 v.2.1 v.2.2)
      .raw p.1 p.2
    else .none
  | .erase n => if k = 0 then .raw (0x8C0 + n) (List.replicate 64 0xFF) else .none

/-- Replace an operation. -/
def State.secPut (s : State) (o : SecOp) : State :=
  { s with sec.ops := s.sec.ops.map fun x => if x.id = o.id then o else x }

/-- Remove an operation. -/
def State.secDrop (s : State) (o : SecOp) : State := { s with sec.ops := s.sec.ops.filter fun x => x.id != o.id }

/-- Ask hayloft for a page commit of an operation. -/
def State.secAsk (s : State) (o : SecOp) (page : Nat) (image : Bytes) : State :=
  (s.secPut { o with asked := o.asked + 1 }).hayAsk 249 (.sec page image o.id)

/-- A KEY record (Table 16-9). -/
def State.keyRecord (s : State) (n action gen : Nat) : State := s.record 2 0x12 (le 1 n ++ le 1 action ++ le 2 gen)

/-- An UPDATE record (Table 16-9). -/
def State.updateRecord (s : State) (step bank svn : Nat) : State := s.record 2 0x14 (le 1 step ++ le 1 bank ++ le 1 svn)

/-- Whether a lifecycle transition is one of Table 16-2 in the present state. -/
def State.transition (s : State) (target : Nat) : Bool :=
  (s.lifecycle == 0 && target == 1) || (s.lifecycle == 1 && target == 2) ||
    ((s.lifecycle == 1 || s.lifecycle == 2) && target == 3)

/-- A fuse burn is requested: class D under R50, at a cost of 40 units (R401). While the gate of R54 is closed it ends. -/
def State.burnAsk (s : State) (target : Nat) (o : SecOp) : State :=
  if s.gatesClosed || !s.transition target then (s.secDrop o).finish? o.cmd stFault
  else { s with sec.burn := some (target, o.cmd), sec.burning := false }.escAsk 3 40 .fuse

/-- The burn ends without having been admitted: the command ends with FAULT (R401). -/
def State.burnWithdraw (s : State) : State :=
  match s.sec.burn with
  | none => s
  | some (_, c) =>
    if s.sec.burning then s
    else ({ s with sec.burn := none, sec.ops := s.sec.ops.drop 1 }.escEnd .fuse).finish? c stFault

/-- GAUGE has admitted the burn. -/
def State.burnAdmitted (s : State) : State := { s with sec.burning := true }

/-- The end of a trial: its record and its event (R412). -/
def State.trialEnded (s : State) (confirmed : Bool) : State :=
  let v := s.trialValues confirmed
  let bank := s.rd R.SEC_BOOT_BANK
  let svn := s.rd R.SEC_BOOT_SVN
  let skip := s.sec.skipped.isSome
  let skipBank := if s.sec.skipped = some (s.bankSeq 1) then 1 else 0
  let skipSvn := u8 (s.bankHeader skipBank) 6
  let s := s.wr R.SEC_BOOT_MIN_SVN v.1
  let s := { s with sec.confirmed := v.2.1, sec.reject := v.2.2, sec.trials := 0, sec.skipped := none }
  let s := if skip then s else s.wrs [(R.SEC_STAT_TRIAL, 0), (R.SEC_UPD_TRIAL_LEFT, 0), (R.SEC_UPD_STATE, 0)]
  let bank := if skip then skipBank else bank
  (s.updateRecord (if confirmed then 2 else 3) bank (if skip then skipSvn else svn)).secNote 6 bank (if confirmed then 0 else 1)

/-- What an operation does once its page commits have ended. -/
def State.secEffect (s : State) (o : SecOp) : State :=
  match o.act with
  | .key n c action => (((s.secDrop o).setSlot n (some c)).keyRecord n action c.gen).finish? o.cmd stOk (le 2 c.gen)
  | .gen _ => s
  | .pair n c =>
    ((((s.secDrop o).setSlot n (some c)).keyRecord n 3 c.gen).finish? o.cmd stOk (le 1 n)).secNote 2 n 0
  | .life target => if s.sec.burn.isSome then s else s.burnAsk target o
  | .provision root identity =>
    if s.sec.burn.isSome then s
    else
      let s := s.setSlot 0 (some ((s.provisioned root identity 0).2))
      let s := { s with sec.slots := mins s.sec.slots 6 ((s.provisioned root identity 1).2) }
      s.burnAsk 1 o
  | .trial confirmed =>
    let s := (s.secDrop o).finish? o.cmd stOk
    let skip := s.sec.skipped.isSome
    let s := s.trialEnded confirmed
    if confirmed || skip then s else s.hubFault 0x68 6 (s.rd R.SEC_BOOT_BANK) 1 none 0x5
  | .erase n => (s.secDrop o).setSlot n none

/-- Ask for the commit that is due of an operation, or do its effect when none is left. -/
def State.secPageOrEffect (s : State) (o : SecOp) : State :=
  match s.secPage o.act o.phase with
  | .slot n k =>
    let s := { s with sec.made := mins s.sec.made n k }
    s.secAsk o (0x8C0 + n) (s.slotImage n k)
  | .raw page image => s.secAsk o page image
  | .none => s.secEffect o

/-- The action of an operation goes on: a key is generated when its turn comes, and a trial that has ended needs nothing. -/
def State.secAction (s : State) (o : SecOp) : State :=
  match o.act with
  | .gen n =>
    if s.randomOk then
      let d := s.random 32
      let o := { o with act := .key n ⟨4, 0, s.nextGen n, d.1⟩ 1 }
      (d.2.secPut o).secPageOrEffect o
    else (s.secDrop o).finish? o.cmd stFault
  | .trial _ =>
    if s.on R.SEC_STAT_TRIAL || s.sec.skipped.isSome then s.secPageOrEffect o else (s.secDrop o).finish? o.cmd stNotPermitted
  | _ => s.secPageOrEffect o

/-- The next commit of the operation in front: first the security record with the new CMDSEQ, then the action (R405). -/
def State.secNext (s : State) (o : SecOp) : State :=
  match o.cmdseq with
  | none => s.secAction o
  | some q =>
    if o.phase = 0 then
      let p := s.secRecordPage (s.recordWithSeq q)
      s.secAsk o p.1 p.2
    else
      let o := { o with cmdseq := none, phase := 0, asked := 0 }
      ((s.wr R.SEC_STAT_CMDSEQ q).secPut o).secAction o

/-- The tack room carries out its operations one at a time, in order. -/
def State.secLoop (n : Nat) (s : State) : State :=
  match n, s.sec.ops with
  | n + 1, o :: _ => if s.sec.burn.isSome || o.asked != o.phase then s else State.secLoop n (s.secNext o)
  | _, _ => s

/-- The tack room's part of HAY_SVC. -/
def State.secAdvance (s : State) : State := State.secLoop (s.sec.ops.length + 1) s

/-- Start an operation. -/
def State.secStart (s : State) (cmd : Option Ref) (cmdseq : Option Nat) (act : SecAct) : State :=
  let o : SecOp := ⟨s.sec.nextId, cmd, act, cmdseq, 0, 0⟩
  ({ s with sec.ops := s.sec.ops ++ [o], sec.nextId := s.sec.nextId + 1 } : State).secAdvance

/-! ### Owner-signed commands (R405) -/

/-- The highest CMDSEQ accepted: the stored one, or that of an accepted command whose commit has not ended. -/
def State.cmdseqTaken (s : State) : Nat :=
  s.sec.ops.foldl (fun n o => max n (o.cmdseq.getD 0)) (s.rd R.SEC_STAT_CMDSEQ)

/-- CMDSEQ of a signed payload. -/
def signedSeq (p : Bytes) : Nat := u32 p (p.length - 68)

/-- Whether the hub accepts an owner-signed command. -/
def State.ownerSigned (s : State) (op : Nat) (p : Bytes) : Bool :=
  ofLe (sub p (p.length - 76) 8) == s.rd R.SEC_DEV_SERIAL && decide (s.cmdseqTaken < signedSeq p) &&
    (s.keySlot 0).kind == 1 &&
    Config.ecdsaVerify (s.keySlot 0).key (Config.sha256 (le 1 op ++ p.take (p.length - 64))) (sub p (p.length - 64) 64)

/-! ### Fuse burn (R400 to R402) -/

/-- Close every channel and end every binding (R402). -/
def State.closeChannels (s : State) : State :=
  s.each (List.range 32) fun s ch => s.modChan ch fun c => { c with isOpen := false, mask := 0, bind := none, hello := none }

/-- After the burn of RETURNED the slots are undecryptable, their pages are erased, and the pairing window ends (R402). -/
def State.destroyKeys (s : State) : State :=
  let s := { s with sec.returned := true, sec.slots := [], sec.made := [], sec.pairWin := none, sec.pair := none }
  let s := s.each (List.range 32) fun s n => s.showSlot n
  (s.wr R.SEC_STAT_PAIR_WIN 0).each (List.range 32) fun s n => s.secStart none none (.erase n)

/-- The erasure runs again at a boot that finds a slot page left (Corners). -/
def State.eraseAgain (s : State) : State :=
  if s.sec.returned then
    s.each ((List.range 32).filter fun n => !erasedPage (s.page (0x8C0 + n))) fun s n => s.secStart none none (.erase n)
  else s

/-- An admitted burn completes and the state changes (R400 to R402, R419, R420). -/
def State.burnEnd (s : State) : State :=
  match s.sec.burn with
  | none => s
  | some (target, c) =>
    if !s.sec.burning then s
    else
      let old := s.lifecycle
      let pair := s.sec.pair
      let s := { s.wr R.SEC_STAT_LIFECYCLE target with
        sec.burn := none, sec.burning := false, sec.ops := s.sec.ops.drop 1 }.escEnd .fuse
      let s := (s.record 2 0x13 (le 1 old ++ le 1 target)).showSlot 6
      let s := s.finish? c stOk (if target = 1 then le 8 (s.rd R.SEC_DEV_SERIAL) ++ le 64 (s.rd R.SEC_DEV_IDPUB) else [])
      let cert := s.on R.SEC_STAT_CERT
      let s := s.recert
      if target = 3 then
        let s := if s.on R.SEC_STAT_CERT = cert then s.secNote 8 0 (b2n cert + 4 * target) else s
        let s := s.finish? (pair.map (·.cmd)) stFault
        s.destroyKeys.closeChannels
      else s.secAdvance

/-! ### Trial (R410, R412) -/

/-- The trial of a running bank starts, or a skipped bank is rejected, at the first tick (R412). -/
def State.trialStart (s : State) : State :=
  let s := if s.on R.SEC_STAT_PATCH_OK && decide (s.sec.confirmed < s.sec.runSeq) then
      let s := s.wrs [(R.SEC_STAT_TRIAL, 1), (R.SEC_UPD_TRIAL_LEFT, 1800), (R.SEC_UPD_STATE, 3)]
      (s.updateRecord 1 (s.rd R.SEC_BOOT_BANK) (s.rd R.SEC_BOOT_SVN)).secNote 5 (s.rd R.SEC_BOOT_BANK) 1800
    else s
  if s.sec.skipped.isSome then s.secStart none none (.trial false) else s

/-- TRIAL_LEFT has reached 0: REJECT_SEQ is set, then a fault of class HUB follows (R412). -/
def State.trialExpired (s : State) : State :=
  if s.on R.SEC_STAT_TRIAL && s.rd R.SEC_UPD_TRIAL_LEFT == 0 &&
      !(s.sec.ops.any fun o => decide (o.act = .trial false)) then s.secStart none none (.trial false)
  else s

/-- One stage of a trial passes. -/
def State.trialStage (s : State) : State :=
  if s.on R.SEC_STAT_TRIAL && decide (0 < s.rd R.SEC_UPD_TRIAL_LEFT) then
    (s.wr R.SEC_UPD_TRIAL_LEFT (s.rd R.SEC_UPD_TRIAL_LEFT - 1)).trialExpired
  else s

/-- BOOT_AUTH at the first tick (R410, R421), with the trial's start and the certified configuration. -/
def State.secFirstTick (s : State) : State :=
  let ran := s.on R.SEC_BOOT_PATCH
  let s := s.record 2 0x10 (le 1 (s.rd R.SEC_BOOT_BANK) ++ le 1 (s.rd R.SEC_BOOT_RESULT) ++ le 1 (s.rd R.SEC_BOOT_SVN) ++
    le 8 (s.rd R.SEC_BOOT_DIGEST))
  let s := if ran then s else s.fault clDegrade 0x68 0 0 0
  s.trialStart.eraseAgain.recert

/-! ### Handshakes (R415, R416) -/

/-- Whether a handshake is live: SEC_AUTH has been or may be admitted (R415). -/
def State.helloLive (s : State) (h : Hello) : Bool := h.inTime || decide (s.ticks ≤ h.until_)

/-- A SEC_AUTH is admitted on a channel: the handshake no longer lapses (R415). -/
def State.helloAdmit (s : State) (ch : Nat) : State :=
  s.modChan ch fun c => { c with hello := c.hello.map fun h => if s.helloLive h then { h with inTime := true } else h }

/-- The handshake of a channel lapses; the failure counter does not change (Corners). -/
def State.helloLapse (s : State) (ch : Nat) : State :=
  s.modChan ch fun c => { c with hello := c.hello.filter fun h => s.helloLive h }

/-- Whether SEC_HELLO is locked out on a channel (R416). -/
def State.locked (s : State) (ch : Nat) : Bool := (s.chan ch).lockEnd.any fun t => decide (s.ticks < t)

/-- The lockout of a channel ends (R416). -/
def State.lockoutEnd (s : State) (ch : Nat) : State :=
  s.modChan ch fun c => { c with lockEnd := c.lockEnd.filter fun t => decide (s.ticks < t) }

/-- A SESSION record (Table 16-9). -/
def State.sessionRecord (s : State) (ch mode slot outcome : Nat) : State :=
  s.record 2 0x11 (le 1 ch ++ le 1 mode ++ le 1 slot ++ le 1 outcome)

/-- The slots of a mode (Table 16-4): its key's KIND, and USE for an operator key's channel group (R403). -/
def State.helloSlot (s : State) (mode slot ch : Nat) : Bool :=
  let k := s.keySlot slot
  let group := if ch < 16 then 0 else if ch < 20 then 1 else 2
  s.keysUsable && (if mode = 0 then
      decide (2 ≤ slot ∧ slot ≤ 5) && k.kind == 1 && (decide (24 ≤ ch) || bit k.use group)
    else decide (8 ≤ slot ∧ slot ≤ 15) && k.kind == 3)

/-- The transcript T (R415). -/
def transcript (ch : Nat) (h : Hello) (cp : Bytes) : Bytes :=
  le 1 ch ++ le 1 h.mode ++ le 1 h.slot ++ h.clientNonce ++ h.hubNonce ++ (if h.mode = 0 then h.hubKey ++ cp else [])

/-- What a SEC_AUTH proves: the session keys K_in and K_out, and the hub's answer; none when it fails (R415, R416). -/
def State.authenticate (s : State) (ch : Nat) (h : Hello) (p : Bytes) : Option (Bytes × Bytes) :=
  let k := s.keySlot h.slot
  if h.mode = 0 then
    let cp := p.take 64
    let t := transcript ch h cp
    if k.kind == 1 && Config.p256Valid cp && Config.ecdsaVerify k.key (Config.sha256 t) (p.drop 64) then
      some ((Config.hmac (Config.ecdh h.hubSecret cp) t).take 32,
        Config.ecdsaSign (s.keySlot 6).key (Config.sha256 (t ++ [0x48, 0x55, 0x42])))
    else none
  else
    let t := transcript ch h []
    if k.kind == 3 && p == Config.cmac k.key ([0x01] ++ t) then
      some (Config.cmac k.key ([0x03] ++ t) ++ Config.cmac k.key ([0x04] ++ t), Config.cmac k.key ([0x02] ++ t))
    else none

/-- A lockout starts (R416, R421). -/
def State.lockout (s : State) (ch mode slot : Nat) : State :=
  let s := s.modChan ch fun c => { c with fails := 0, lockEnd := some (s.ticks + 65536) }
  ((s.sessionRecord ch mode slot 2).secNote 3 ch 0).fault clNote 0x68 3 ch 0

/-- A SEC_AUTH fails (R416). -/
def State.authFailed (s : State) (r : Ref) (h : Hello) : State :=
  let s := s.modChan r.ch fun c => { c with fails := c.fails + 1 }
  let s := (s.sessionRecord r.ch h.mode h.slot 1).finish r stAuthFail
  if 5 ≤ (s.chan r.ch).fails then s.lockout r.ch h.mode h.slot else s

/-- A SEC_AUTH succeeds: the binding starts once the reply is posted, with both counters at 0 (R415). -/
def State.authDone (s : State) (r : Ref) (h : Hello) (keys answer : Bytes) : State :=
  let s := (s.sessionRecord r.ch h.mode h.slot 0).ok r answer
  s.modChan r.ch fun c =>
    if c.epoch = r.epoch then { c with fails := 0, bind := some ⟨keys, h.slot, 0, 0⟩ } else c

/-! ### Pairing (R417) -/

/-- End the pending START with a status. -/
def State.pairFinish (s : State) (status : Nat) : State :=
  let c := s.sec.pair.map (·.cmd)
  { s with sec.pair := none }.finish? c status

/-- The pairing window closes: pairing has ended in the way DATA of SEC_NOTE kind 2 says. -/
def State.pairEnd (s : State) (data : Nat) : State :=
  match s.sec.pairWin with
  | none => s
  | some (slot, _) =>
    (({ s.wr R.SEC_STAT_PAIR_WIN 0 with sec.pairWin := none, sec.pairUsed := false }).pairFinish stFault).secNote 2 slot data

/-- The window expires 120 stages after it was opened. -/
def State.pairExpire (s : State) : State :=
  match s.sec.pairWin with
  | none => s
  | some (_, t) => if t ≤ s.stage then s.pairEnd 2 else s

/-- SEC_NOTE kind 1, on channels 24-30: the comparison code of a START. -/
def State.pairCode (s : State) (host : Nat) (x : PairStart) : State :=
  let code := u32 (Config.sha256 (x.z ++ x.hp ++ x.ep ++ x.hn ++ x.en)) 0 % 1000000
  s.each (List.range 7) fun s i =>
    s.modChan (24 + i) (raiseOn (24 + i) 0x68 (le 1 1 ++ le 1 host ++ le 4 code))

/-- P of a pairing. -/
def pairKey (x : PairStart) : Bytes := (Config.hmac x.z (x.hp ++ x.ep ++ x.hn ++ x.en)).take 16

/-! ### Updates (R411) -/

/-- Whether an update is in progress. -/
def State.updating (s : State) : Bool := s.sec.upd.isSome

/-- An update in progress ends and leaves the bank ineligible. -/
def State.updateDrop (s : State) : State :=
  if s.updating then
    { s.wrs [(R.SEC_UPD_STATE, 0), (R.SEC_UPD_CHAN, 0), (R.SEC_UPD_RECEIVED, 0)] with sec.upd := none }
  else s

/-- SESSION_RESET of the channel that owns the update ends it. -/
def State.updateReset (s : State) (ch : Nat) : State := if s.rd R.SEC_UPD_CHAN = ch then s.updateDrop else s

/-- Erase a bank. -/
def State.bankErase (s : State) (bank : Nat) : State :=
  { s with sec.flash := s.sec.flash.filter fun e => decide (e.1 < 0x80000 * bank ∨ 0x80000 * (bank + 1) ≤ e.1) }

/-- Write bytes of a bank. -/
def State.bankWrite (s : State) (bank off : Nat) (b : Bytes) : State :=
  { s with sec.flash := cellsPut 0xFF s.sec.flash (0x80000 * bank + off) b }

/-- The bank an update writes: the one that is not running; bank 0 while none runs (log entry 28). -/
def State.updateBank (s : State) : Nat := if s.on R.SEC_BOOT_PATCH then 1 - s.rd R.SEC_BOOT_BANK else 0

/-- The bank record that makes a bank eligible. -/
def State.newRecord (s : State) (d : Bytes) : Bytes :=
  let b := [0x4C, 0x42, 0x4B, 0x31] ++ le 4 (s.sec.runSeq + 1) ++ sub d 0 4
  b ++ le 4 (crc32 b)

/-! ### Reset and boot -/

/-- The hub reset ends bindings, handshakes, lockouts, pairing, an update and every operation; fuses, flash and the
always-on counter keep (R411, R416, R418, Reference). A hub reset while a bank is in trial is counted, unless it was
commanded (R412). -/
def State.secReset (s : State) (commanded : Bool) : State :=
  let trials := if s.on R.SEC_STAT_TRIAL && !commanded then min 3 (s.sec.trials + 1) else s.sec.trials
  let s := s.wrs [(R.SEC_STAT_CERT, 0), (R.SEC_STAT_DBG_UNLOCKED, 0), (R.SEC_STAT_DBG_SCOPE, 0), (R.SEC_STAT_AUDIT, 0),
    (R.SEC_STAT_PATCH_OK, 0), (R.SEC_STAT_ENT_FAIL, 0), (R.SEC_STAT_TRIAL, 0), (R.SEC_STAT_PAIR_WIN, 0),
    (R.SEC_BOOT_PATCH, 0), (R.SEC_BOOT_BANK, 0), (R.SEC_BOOT_RESULT, 0), (R.SEC_BOOT_SVN, 0), (R.SEC_BOOT_DIGEST, 0)]
  let s := s.clearAttr 0x6803
  { s with sec := { s.sec with
      trials := trials, skipped := none, runSeq := 0, commitSvn := false, upd := none, ops := [], burn := none,
      burning := false, pairWin := none, pairUsed := false, pair := none, chal := none, resp := none, tries := 0,
      result := 0, drbg := false } }

/-- The tack room at boot: the security record, the slots, the banks, then the DRBG (R404, R406, R409, Reference). -/
def State.secBoot (s : State) : State :=
  let s := match s.objData 0x68 with
    | none => s
    | some b =>
      let reject := u32 b 12
      { s.wrs [(R.SEC_STAT_CMDSEQ, u32 b 0), (R.SEC_BOOT_MIN_SVN, u32 b 4 % 64)] with
        sec.confirmed := u32 b 8, sec.reject := if reject = 0xFFFFFFFF then none else some reject }
  s.loadSlots.secureBoot.seed

/-- NVM_WP changes (R277, R419). -/
def State.wpChange (s : State) (low : Bool) : State := ((s.wrB R.SEC_STAT_WP_LOW low).wrB R.HAY_STAT_WP low).recert

end Sys2Proof.Machine
end

