-- ==== Sys2Proof/Machine/SecurityCommands.lean ====
section
/-!
DEFINITION. Sys2Proof/Machine/SecurityCommands.lean: the rows of spec/16_security.md.
-/

namespace Sys2Proof.Machine

/-- R422: every opcode but SEC_RANDOM is refused during the power-fail sequence. -/
def State.notInPowerFail (s : State) : Bool := !s.on R.PWR_STAT_PFSEQ

/-! ### Handshake (R415, R416) -/

/-- Make the handshake of a SEC_HELLO and answer it. -/
def State.helloStart (s : State) (r : Ref) (p : Bytes) : State :=
  let mode := u8 p 0
  let hn := s.random 16
  let d := if mode = 0 then hn.2.random 32 else ([], hn.2)
  let hp := if mode = 0 then Config.p256Public d.1 else []
  let h : Hello := ⟨mode, u8 p 1, sub p 2 16, hn.1, [], d.1, hp, s.ticks + 16384, false⟩
  ((d.2.accepted r).modChan r.ch fun c => { c with hello := some h }).ok r (hn.1 ++ hp)

def State.doSecHello (s : State) (r : Ref) (p : Bytes) : State :=
  let mode := u8 p 0
  let slot := u8 p 1
  s.checked r [lengthIs p 18, param (decide (1 < mode) || !s.helloSlot mode slot r.ch),
    permitted (decide (r.ch < 24) && (s.chan r.ch).bind.isNone && !s.locked r.ch &&
      !(mode == 1 && decide (16 ≤ r.ch)) && s.notInPowerFail),
    (!s.randomOk, stFault)] fun s => s.helloStart r p

/-- The size of a SEC_AUTH: fixed by the mode of the handshake; without one, a size of either mode. -/
def authSize (h : Option Hello) (n : Nat) : Bool :=
  match h with
  | none => n == 128 || n == 16
  | some h => if h.mode = 0 then n == 128 else n == 16

def State.doSecAuth (s : State) (r : Ref) (p : Bytes) : State :=
  let h := (s.chan r.ch).hello.filter fun h => s.helloLive h
  let alone := (s.chan r.ch).uses.all fun u => u.tag == r.tag
  s.checked r [(!authSize h p.length, stBadLength), permitted (h.isSome && alone && s.notInPowerFail)] fun s =>
    match h with
    | none => s
    | some h =>
      let s := (s.accepted r).modChan r.ch fun c => { c with hello := none }
      match s.authenticate r.ch h p with
      | none => s.authFailed r h
      | some (keys, answer) => s.authDone r h keys answer

/-- SEC_HELLO (R415, Table 16-16). -/
def execSecHello (c : Cmd) (s : State) : Host.Outcome State Fault Refusal := .next (s.command c 0x68 State.doSecHello)

/-- SEC_AUTH (R415, R416, Table 16-16). -/
def execSecAuth (c : Cmd) (s : State) : Host.Outcome State Fault Refusal := .next (s.command c 0x69 State.doSecAuth)

/-- HANDSHAKE_LAPSE (R415, Corners). -/
def execHandshakeLapse (ch : Fin 32) (s : State) : Host.Outcome State Fault Refusal := .next (s.helloLapse ch)

/-- LOCKOUT_END (R416). -/
def execLockoutEnd (ch : Fin 32) (s : State) : Host.Outcome State Fault Refusal := .next (s.lockoutEnd ch)

/-! ### Pairing (R417) -/

def State.doSecPairOpen (s : State) (r : Ref) (p : Bytes) : State :=
  let slot := u8 p 1
  s.checked r [lengthIs p 2, param (decide (slot < 8 ∨ 15 < slot)),
    permitted (decide (24 ≤ r.ch ∧ r.ch ≤ 30) && s.notInPowerFail && s.keysUsable && (s.keySlot slot).kind == 0)] fun s =>
    let s := s.pairEnd 2
    ({ s.wr R.SEC_STAT_PAIR_WIN 1 with sec.pairWin := some (slot, s.stage + 120), sec.pairUsed := false }).ok r

/-- Serve a START: ACCEPTED with HP and HN, then the comparison code. -/
def State.pairStart (s : State) (r : Ref) (p : Bytes) : State :=
  let hn := s.random 16
  let sk := hn.2.random 32
  let hp := Config.p256Public sk.1
  let ep := sub p 1 64
  let x : PairStart := ⟨r, Config.ecdh sk.1 ep, hp, ep, hn.1, sub p 65 16⟩
  ({ sk.2 with sec.pair := some x, sec.pairUsed := true }.accepted r (hp ++ hn.1)).pairCode r.ch x

def State.doSecPairStart (s : State) (r : Ref) (p : Bytes) : State :=
  s.checked r [lengthIs p 81,
    permitted (decide (r.ch < 16) && s.sec.pairWin.isSome && s.notInPowerFail)] fun s =>
    if s.sec.pairUsed then (s.pairFinish stFault).finish r stNotPermitted
    else if !s.randomOk then s.finish r stFault
    else s.pairStart r p

/-- The installer's answer to a pending START: store the key, or reject (R417). -/
def State.pairAnswer (s : State) (accept : Bool) : State :=
  match s.sec.pair, s.sec.pairWin with
  | some x, some (slot, _) =>
    if accept then
      let s := { s.wr R.SEC_STAT_PAIR_WIN 0 with sec.pairWin := none, sec.pairUsed := false, sec.pair := none }
      s.secStart (some x.cmd) none (.pair slot ⟨3, 0, s.nextGen slot, pairKey x⟩)
    else s.pairEnd 1
  | _, _ => s

def State.doSecPairConfirm (s : State) (r : Ref) (p : Bytes) : State :=
  s.checked r [lengthIs p 2, param (decide (1 < u8 p 1)),
    permitted (decide (24 ≤ r.ch ∧ r.ch ≤ 30) && s.sec.pair.isSome && s.notInPowerFail)] fun s =>
    (s.ok r).pairAnswer (u8 p 1 == 1)

/-- The SUB byte fixes the size, so it is judged first (R496). -/
def State.subCommand (s : State) (r : Ref) (p : Bytes) (subs : List (State → Ref → Bytes → State)) : State :=
  if p.isEmpty then s.finish r stBadLength
  else match subs[u8 p 0]? with
    | none => s.finish r stBadParam
    | some f => f s r p

/-- The opcode SEC_PAIR by its SUB byte. -/
def State.doSecPair (s : State) (r : Ref) (p : Bytes) : State :=
  s.subCommand r p [State.doSecPairOpen, State.doSecPairStart, State.doSecPairConfirm]

/-- A row that is one SUB of an opcode: the row gives the SUB byte, and its operand holds the payload from that byte on. -/
def State.subRow (s : State) (c : Cmd) (op sub : Nat) (f : State → Ref → Bytes → State) : State :=
  s.command c op fun s r p => f s r (le 1 sub ++ p.drop 1)

/-- SEC_PAIR_OPEN (R417). -/
def execSecPairOpen (c : Cmd) (s : State) : Host.Outcome State Fault Refusal := .next (s.subRow c 0x6A 0 State.doSecPairOpen)

/-- SEC_PAIR_START (R417). -/
def execSecPairStart (c : Cmd) (s : State) : Host.Outcome State Fault Refusal := .next (s.subRow c 0x6A 1 State.doSecPairStart)

/-- SEC_PAIR_CONFIRM (R417). -/
def execSecPairConfirm (c : Cmd) (s : State) : Host.Outcome State Fault Refusal := .next (s.subRow c 0x6A 2 State.doSecPairConfirm)

/-- PAIRING_WINDOW_END (R417). -/
def execPairingWindowEnd (s : State) : Host.Outcome State Fault Refusal := .next s.pairExpire

/-! ### Keys (R404, R405, Table 16-16) -/

/-- The checks that the SUBs of SEC_KEY share, after LENGTH. -/
def State.keyChecks (s : State) (r : Ref) (p : Bytes) (slotOk : Bool) : List (Bool × Nat) :=
  let slot := u8 p 1
  [param (!slotOk || (u8 p 2 != 0 && !decide (2 ≤ slot ∧ slot ≤ 5))),
    permitted (s.keysUsable && s.notInPowerFail), (!s.ownerSigned r.op p, stAuthFail)]

def State.doSecKeyPut (s : State) (r : Ref) (p : Bytes) : State :=
  let slot := u8 p 1
  let key := sub p 4 64
  s.checked r (lengthIs p 144 :: s.keyChecks r p (decide (slot ≤ 5) && Config.p256Valid key)) fun s =>
    (s.accepted r).secStart (some r) (some (signedSeq p)) (.key slot ⟨1, u8 p 2, s.nextGen slot, key⟩ 0)

def State.doSecKeyGen (s : State) (r : Ref) (p : Bytes) : State :=
  let slot := u8 p 1
  s.checked r (lengthIs p 80 :: s.keyChecks r p (decide (16 ≤ slot ∧ slot ≤ 31))) fun s =>
    (s.accepted r).secStart (some r) (some (signedSeq p)) (.gen slot)

def State.doSecKeyDelete (s : State) (r : Ref) (p : Bytes) : State :=
  let slot := u8 p 1
  s.checked r (lengthIs p 80 :: s.keyChecks r p (decide (slot < 32) && !(slot == 0 || slot == 6 || slot == 7))) fun s =>
    (s.accepted r).secStart (some r) (some (signedSeq p)) (.key slot ⟨0, 0, s.nextGen slot, []⟩ 2)

/-- The opcode SEC_KEY by its SUB byte. -/
def State.doSecKey (s : State) (r : Ref) (p : Bytes) : State :=
  s.subCommand r p [State.doSecKeyPut, State.doSecKeyGen, State.doSecKeyDelete]

/-- SEC_KEY_PUT (R404, R405). -/
def execSecKeyPut (c : Cmd) (s : State) : Host.Outcome State Fault Refusal := .next (s.subRow c 0x6B 0 State.doSecKeyPut)

/-- SEC_KEY_GEN (R404, R405). -/
def execSecKeyGen (c : Cmd) (s : State) : Host.Outcome State Fault Refusal := .next (s.subRow c 0x6B 1 State.doSecKeyGen)

/-- SEC_KEY_DELETE (R404, R405). -/
def execSecKeyDelete (c : Cmd) (s : State) : Host.Outcome State Fault Refusal := .next (s.subRow c 0x6B 2 State.doSecKeyDelete)

/-! ### SEC_CRYPT and SEC_RANDOM (R422) -/

/-- Whether a SEC_CRYPT payload holds its AAD and data; `extra` is what is neither (NONCE and TAG). -/
def cryptSize (p : Bytes) (extra : Nat) : Bool :=
  decide (4 ≤ p.length ∧ 4 + u16 p 2 + extra ≤ p.length ∧ p.length ≤ 4 + 1024 + extra)

def State.cryptSlot (s : State) (n : Nat) : Bool := decide (16 ≤ n ∧ n ≤ 31) && (s.keySlot n).kind == 4

/-- Whether SEC_CRYPT is permitted: in BLANK and RETURNED, where no slot can be read, the state is what refuses it. -/
def State.cryptChecks (s : State) (p : Bytes) (extra : Nat) : List (Bool × Nat) :=
  [(!cryptSize p extra, stBadLength), param (!s.cryptSlot (u8 p 1)), permitted (s.keysUsable && s.notInPowerFail)]

def State.doSecCryptSeal (s : State) (r : Ref) (p : Bytes) : State :=
  s.checked r (s.cryptChecks p 0) fun s =>
    if !s.randomOk then s.finish r stFault [0x02]
    else
      let n := s.random 12
      n.2.ok r (n.1 ++ Config.gcmSeal (s.keySlot (u8 p 1)).key n.1 (sub p 4 (u16 p 2)) (p.drop (4 + u16 p 2)))

def State.doSecCryptOpen (s : State) (r : Ref) (p : Bytes) : State :=
  s.checked r (s.cryptChecks p 28) fun s =>
    let b := p.drop (4 + u16 p 2)
    match Config.gcmOpen (s.keySlot (u8 p 1)).key (b.take 12) (sub p 4 (u16 p 2)) (b.drop 12) with
    | none => s.finish r stFault [0x01]
    | some m => s.ok r m

/-- The opcode SEC_CRYPT by its SUB byte. -/
def State.doSecCrypt (s : State) (r : Ref) (p : Bytes) : State :=
  s.subCommand r p [State.doSecCryptSeal, State.doSecCryptOpen]

/-- SEC_CRYPT_SEAL (R422). -/
def execSecCryptSeal (c : Cmd) (s : State) : Host.Outcome State Fault Refusal := .next (s.subRow c 0x6C 0 State.doSecCryptSeal)

/-- SEC_CRYPT_OPEN (R422). -/
def execSecCryptOpen (c : Cmd) (s : State) : Host.Outcome State Fault Refusal := .next (s.subRow c 0x6C 1 State.doSecCryptOpen)

def State.doSecRandom (s : State) (r : Ref) (p : Bytes) : State :=
  s.checked r [lengthIs p 1, param (decide (u8 p 0 = 0 ∨ 64 < u8 p 0)), (!s.randomOk, stFault)] fun s =>
    let d := s.random (u8 p 0)
    d.2.ok r d.1

/-- SEC_RANDOM (R422). -/
def execSecRandom (c : Cmd) (s : State) : Host.Outcome State Fault Refusal := .next (s.command c 0x6F State.doSecRandom)

/-! ### Lifecycle (R400 to R402) -/

/-- The identity key pair is generated, and slots 0 and 6 are written before the burn (R401). -/
def State.provision (s : State) (r : Ref) (root : Bytes) : State :=
  if !s.randomOk then s.finish r stFault
  else
    let d := (s.accepted r).random 32
    d.2.secStart (some r) none (.provision root d.1)

def State.doSecLifecycleProvision (s : State) (r : Ref) (p : Bytes) : State :=
  let root := sub p 1 64
  s.checked r [lengthIs p 65, param (!s.transition 1 || !Config.p256Valid root),
    permitted ((decide (r.ch < 16) || r.ch == 31) && s.notInPowerFail)] fun s => s.provision r root

/-- The signed transitions. -/
def State.lifecycleSigned (s : State) (r : Ref) (p : Bytes) (target : Nat) : State :=
  s.checked r [lengthIs p 80, param (!s.transition target), permitted s.notInPowerFail,
    (!s.ownerSigned r.op p, stAuthFail)] fun s => (s.accepted r).secStart (some r) (some (signedSeq p)) (.life target)

def State.doSecLifecycleField (s : State) (r : Ref) (p : Bytes) : State := s.lifecycleSigned r p 2

def State.doSecLifecycleReturn (s : State) (r : Ref) (p : Bytes) : State := s.lifecycleSigned r p 3

/-- The opcode SEC_LIFECYCLE by its TARGET byte, which fixes the size. -/
def State.doSecLifecycle (s : State) (r : Ref) (p : Bytes) : State :=
  s.subCommand r p [fun s r _ => s.finish r stBadParam, State.doSecLifecycleProvision, State.doSecLifecycleField,
    State.doSecLifecycleReturn]

/-- SEC_LIFECYCLE_PROVISION (R400, R401). -/
def execSecLifecycleProvision (c : Cmd) (s : State) : Host.Outcome State Fault Refusal :=
  .next (s.subRow c 0x6D 1 State.doSecLifecycleProvision)

/-- SEC_LIFECYCLE_FIELD (R400, R405). -/
def execSecLifecycleField (c : Cmd) (s : State) : Host.Outcome State Fault Refusal :=
  .next (s.subRow c 0x6D 2 State.doSecLifecycleField)

/-- SEC_LIFECYCLE_RETURN (R400, R402, R405). -/
def execSecLifecycleReturn (c : Cmd) (s : State) : Host.Outcome State Fault Refusal :=
  .next (s.subRow c 0x6D 3 State.doSecLifecycleReturn)

/-- FUSE_BURN_END (R401, R402). -/
def execFuseBurnEnd (s : State) : Host.Outcome State Fault Refusal := .next s.burnEnd

/-! ### Updates and trial (R411, R412) -/

/-- BEGIN: the bank is erased, the bank record first, and the header is kept and written. -/
def State.updateBegin (s : State) (r : Ref) (h : Bytes) : State :=
  let s := s.accepted r
  if s.sec.flashBad then s.finish r stFault
  else
    let bank := s.updateBank
    let s := (s.bankErase bank).bankWrite bank 0 h
    ({ s.wrs [(R.SEC_UPD_STATE, 1), (R.SEC_UPD_CHAN, r.ch), (R.SEC_UPD_RECEIVED, 0)] with
      sec.upd := some ⟨bank, h⟩ }).ok r

def State.doSecUpdateBegin (s : State) (r : Ref) (p : Bytes) : State :=
  let h := sub p 1 192
  if p.length ≠ 193 then s.finish r stBadLength
  else if s.headerResult h ≠ 0 then s.finish r stBadParam (le 1 (s.headerResult h))
  else s.checked r [permitted (!s.updating && !s.on R.SEC_STAT_TRIAL && s.notInPowerFail)] fun s => s.updateBegin r h

/-- Whether a channel owns the update in progress. -/
def State.ownsUpdate (s : State) (ch : Nat) : Bool := s.updating && s.rd R.SEC_UPD_CHAN == ch

/-- LEN of the update in progress. -/
def State.updateLen (s : State) : Nat := (s.sec.upd.map fun u => headerLen u.header).getD 0

/-- DATA: the body in order. The RESULT of a wrong OFFSET is not stated: a free value (log entry 3). -/
def State.updateData (s : State) (r : Ref) (p : Bytes) : State :=
  match s.sec.upd with
  | none => s
  | some u =>
    if s.sec.flashBad then s.finish r stFault
    else
      ((s.bankWrite u.bank (192 + u32 p 1) (p.drop 5)).wr R.SEC_UPD_RECEIVED (u32 p 1 + (p.length - 5))).ok r

def State.doSecUpdateData (s : State) (r : Ref) (p : Bytes) : State :=
  let n := p.length - 5
  if p.length < 6 ∨ 4005 < p.length then s.finish r stBadLength
  else if u32 p 1 ≠ s.rd R.SEC_UPD_RECEIVED ∨ (s.updating ∧ s.updateLen < u32 p 1 + n) then
    let d := s.draw 8
    d.2.finish r stBadParam (le 1 d.1)
  else s.checked r [permitted (s.ownsUpdate r.ch && s.notInPowerFail)] fun s => s.updateData r p

/-- RESULT of END: SVN, then the signatures over D, which is computed from what the bank reads back (R409, R411). -/
def State.endResult (s : State) (bank : Nat) (h : Bytes) : Nat :=
  if u8 h 6 < s.rd R.SEC_BOOT_MIN_SVN then 4 else s.signResult h (s.bankDigest bank)

/-- END that passes: the bank record is written, which makes the bank eligible. -/
def State.updateVerified (s : State) (u : Update) : State :=
  let s := s.bankWrite u.bank 0x7FFF0 (s.newRecord (s.bankDigest u.bank))
  let s := { s.wr R.SEC_UPD_STATE 2 with sec.upd := none, sec.trials := 0 }
  s.updateRecord 0 u.bank (u8 u.header 6)

/-- The work of END. -/
def State.updateEnd (s : State) (r : Ref) : State :=
  match s.sec.upd with
  | none => s
  | some u =>
    let s := s.accepted r
    if s.sec.flashBad then s.finish r stFault
    else if s.endResult u.bank (s.bankHeader u.bank) = 0 then (s.updateVerified u).ok r
    else s.finish r stBadParam (le 1 (s.endResult u.bank (s.bankHeader u.bank)))

def State.doSecUpdateEnd (s : State) (r : Ref) (p : Bytes) : State :=
  s.checked r [lengthIs p 1, permitted (s.ownsUpdate r.ch && s.notInPowerFail)] fun s => s.updateEnd r

def State.doSecUpdateConfirm (s : State) (r : Ref) (p : Bytes) : State :=
  s.checked r [lengthIs p 1, permitted (s.on R.SEC_STAT_TRIAL && s.notInPowerFail)] fun s =>
    s.secStart (some r) none (.trial true)

def State.doSecUpdateAbort (s : State) (r : Ref) (p : Bytes) : State :=
  s.checked r [lengthIs p 1, permitted (s.ownsUpdate r.ch && s.notInPowerFail)] fun s => s.updateDrop.ok r

/-- The opcode SEC_UPDATE by its SUB byte. -/
def State.doSecUpdate (s : State) (r : Ref) (p : Bytes) : State :=
  s.subCommand r p [State.doSecUpdateBegin, State.doSecUpdateData, State.doSecUpdateEnd, State.doSecUpdateConfirm,
    State.doSecUpdateAbort]

/-- SEC_UPDATE_BEGIN (R411). -/
def execSecUpdateBegin (c : Cmd) (s : State) : Host.Outcome State Fault Refusal := .next (s.subRow c 0x6E 0 State.doSecUpdateBegin)

/-- SEC_UPDATE_DATA (R411). -/
def execSecUpdateData (c : Cmd) (s : State) : Host.Outcome State Fault Refusal := .next (s.subRow c 0x6E 1 State.doSecUpdateData)

/-- SEC_UPDATE_END (R411). -/
def execSecUpdateEnd (c : Cmd) (s : State) : Host.Outcome State Fault Refusal := .next (s.subRow c 0x6E 2 State.doSecUpdateEnd)

/-- SEC_UPDATE_CONFIRM (R412). -/
def execSecUpdateConfirm (c : Cmd) (s : State) : Host.Outcome State Fault Refusal :=
  .next (s.subRow c 0x6E 3 State.doSecUpdateConfirm)

/-- SEC_UPDATE_ABORT (R411). -/
def execSecUpdateAbort (c : Cmd) (s : State) : Host.Outcome State Fault Refusal := .next (s.subRow c 0x6E 4 State.doSecUpdateAbort)

/-- TRIAL_EXPIRE (R412). -/
def execTrialExpire (s : State) : Host.Outcome State Fault Refusal := .next s.trialExpired

/-! ### Entropy and NVM_WP -/

/-- DRBG_RESEED (R406). -/
def execDrbgReseed (s : State) : Host.Outcome State Fault Refusal := .next s.reseed

/-- ENTROPY_FAIL (R407): one of the health tests fails. -/
def execEntropyFail (s : State) : Host.Outcome State Fault Refusal := .next s.entropyFailed

/-- NVM_WP_CHANGE (R277, R419): the level of the ball changes. -/
def execNvmWpChange (low : Bool) (s : State) : Host.Outcome State Fault Refusal := .next (s.wpChange low)

end Sys2Proof.Machine
end

