-- ==== Sys2Proof/Machine/Console.lean ====
section
/-!
DEFINITION. Sys2Proof/Machine/Console.lean: the installer console on channel 24 (R64 to R67, 03_spoke_packets.md; R237,
08_paddock.md).
-/

namespace Sys2Proof.Machine

/-- The console is available (R65). -/
def State.consoleReady (s : State) : Bool :=
  ((List.range 16).any fun d => s.rd (R.ADC_DEV_KIND d) == 3 && s.on (R.ADC_DEVR_VALID d)) &&
    s.rd R.DSP_STAT_STATE == 3 && !s.on R.DSP_STAT_LANTERN && !s.limp && s.dbg.halted == 0 && !s.on R.PWR_STAT_PFSEQ

/-- CONSOLE (Table 3-12): STATE and the item in use. -/
def State.consoleTold (s : State) (st item : Nat) : State := s.event 0x02 (le 1 st ++ le 1 item)

/-- The console sends a command on channel 24, if the channel may take one more: it enters the in queue with the next tag. -/
def State.consoleSend (s : State) (op : Nat) (p : Bytes) : State :=
  if (s.chan 24).uses.length < 16 then
    let t := s.console.tag
    let s := { s with console.tag := (t + 1) % 127 }
    s.modChan 24 fun c => { c with uses := c.uses ++ [{ tag := t, op := op, payload := p, started := false }] }
  else s

/-- An item's command: its final reply is awaited. -/
def State.consoleAsk (s : State) (n page op : Nat) (p : Bytes) : State :=
  let t := s.console.tag
  { s.consoleSend op p with console.awaits := some t, console.mode := .waiting n page }

/-- The item in use. -/
def ConMode.at_ (m : ConMode) : Nat :=
  match m with
  | .menu => 0
  | .item n _ => n
  | .waiting n _ => n
  | .result n _ => n

/-- The screen is to be drawn again: 60 strips of text, then the present (R67; log entry 31). -/
def State.consoleDraw (s : State) : State := { s with console.draw := 61 }

/-- What the console shows changes. -/
def State.consoleShow (s : State) (m : ConMode) : State := { s with console.mode := m }.consoleDraw

/-! ### The items (Table 3-13) -/

/-- The functions item 2 lists: the opcode and the mask that release each (R65, R240, R265). -/
def State.latched (s : State) : List (Nat × Nat) :=
  (((List.range 8).filter fun i => s.on (R.PAD_SIN_WAIT_RST i)).map fun i => (0x44, 2 ^ i)) ++
  (if s.on R.PAD_STAT_SLT_WAIT then [(0x44, 2 ^ 8)] else []) ++
  (if s.on R.PAD_STAT_SLP_FAULT then [(0x44, 2 ^ 9)] else []) ++
  (((List.range 4).filter fun i => s.on (R.PAD_PLANT_FB_FAULT i) || s.on (R.PAD_PLANT_WELD i)).map fun i => (0x44, 2 ^ (12 + i))) ++
  (((List.range 16).filter fun c => s.on (R.BUS_GP_CFG_PADSTOP c) && s.rd (R.BUS_GP_STAT_STATE c) == 3).map fun c =>
    (0x4A, 2 ^ c))

/-- The lowest empty pairing slot. -/
def State.emptyPairSlot (s : State) : Option Nat :=
  ([8, 9, 10, 11, 12, 13, 14, 15] : List Nat).find? fun n => s.rd (R.SEC_SLOT_KIND n) == 0

/-- The items the menu offers now. -/
def State.consoleItems (s : State) : List Nat :=
  (if s.on R.PAD_STAT_STAGED then [1] else []) ++ (if s.latched.isEmpty then [] else [2]) ++
  (if s.emptyPairSlot.isSome then [3] else []) ++ [4]

/-! ### Opening and closing (R65, R67) -/

/-- OK opens the closed, available console at its menu. -/
def State.consoleOpens (s : State) : State :=
  if s.console.isOpen || !s.consoleReady then s
  else ({ s with console := { s.console with
    isOpen := true, mode := .menu, sel := 0, digits := [], idle := 0, awaits := none } }.consoleDraw).consoleTold 1 0

/-- The console closes: a pending pairing START ends as rejected, and the panel is filled with DIS_LEVEL and presented. -/
def State.consoleCloses (s : State) : State :=
  if s.console.isOpen then
    let item := s.console.mode.at_
    let l := le 1 (s.rd R.DSP_CFG_DIS_LEVEL)
    let s := { s with console := { s.console with
      isOpen := false, mode := .menu, sel := 0, digits := [], idle := 0, awaits := none, draw := 0 } }
    let s := if s.sec.pair.isSome then s.pairAnswer false else s
    let s := s.consoleSend 0x62 (le 4 0 ++ le 2 320 ++ le 2 240 ++ l ++ l ++ l)
    (s.consoleSend 0x63 []).consoleTold 0 item
  else s

/-- The console closes at once when it stops being available. -/
def State.consoleWatch (s : State) : State := if s.console.isOpen && !s.consoleReady then s.consoleCloses else s

/-- A stage without a key; the 600th consecutive one closes the console. -/
def State.consoleStage (s : State) : State :=
  if s.console.isOpen then
    let s := { s with console.idle := s.console.idle + 1 }
    if 600 ≤ s.console.idle then s.consoleCloses else s
  else s

/-! ### Keys (Table 7-18, R66, R237) -/

/-- The digit a key stands for. -/
def keyDigit (k : Nat) : Option Nat :=
  if 0x30 ≤ k ∧ k ≤ 0x39 then some (k - 0x30) else if 0x41 ≤ k ∧ k ≤ 0x46 then some (k - 0x37) else none

/-- An item is taken from the menu. -/
def State.consoleTake (s : State) (n : Nat) : State :=
  let s := { s with console.sel := 0, console.digits := [] }
  match n with
  | 3 =>
    match s.emptyPairSlot with
    | none => s.consoleShow .menu
    | some slot => (s.consoleAsk 3 0 0x6A (le 1 0 ++ le 1 slot)).consoleDraw
  | _ => s.consoleShow (.item n 0)

/-- A key at the menu. -/
def State.menuKey (s : State) (k : Nat) : State :=
  let items := s.consoleItems
  let sel := min s.console.sel (items.length - 1)
  match k with
  | 0x11 => { s with console.sel := sel - 1 }.consoleDraw
  | 0x12 => { s with console.sel := min (sel + 1) (items.length - 1) }.consoleDraw
  | 0x0D => s.consoleTake (items.getD sel 4)
  | 0x1B => s.consoleCloses
  | _ => s

/-- Item 1: the eight digits of the check value, then PAD_COMMIT with the value typed (R237). -/
def State.commissionKey (s : State) (k : Nat) : State :=
  let d := s.console.digits
  if k = 0x1B then { s with console.digits := [] }.consoleShow .menu
  else if s.rd R.PAD_STAGED_FIRST_BAD ≠ 0xFF then s
  else if k = 0x08 then { s with console.digits := d.dropLast }.consoleDraw
  else if k = 0x0D then
    if d.length = 8 then
      (s.consoleAsk 1 0 0x41 (le 4 (d.foldl (fun n x => 16 * n + x) 0))).consoleDraw
    else s
  else
    match keyDigit k with
    | none => s
    | some x => if d.length < 8 then { s with console.digits := d ++ [x] }.consoleDraw else s

/-- Item 2: OK on an entry releases it. -/
def State.restartKey (s : State) (k : Nat) : State :=
  let l := s.latched
  let sel := min s.console.sel (l.length - 1)
  match k with
  | 0x11 => { s with console.sel := sel - 1 }.consoleDraw
  | 0x12 => { s with console.sel := min (sel + 1) (l.length - 1) }.consoleDraw
  | 0x0D =>
    match l[sel]? with
    | none => s
    | some (op, mask) => (s.consoleAsk 2 0 op (le 2 mask)).consoleDraw
  | 0x1B => s.consoleShow .menu
  | _ => s

/-- Item 3: the window is open; once a code is shown, OK accepts and BACK rejects. -/
def State.pairKeyed (s : State) (k : Nat) : State :=
  if s.sec.pair.isSome then
    if k = 0x0D then (s.consoleAsk 3 1 0x6A (le 1 2 ++ le 1 1)).consoleDraw
    else if k = 0x1B then (s.consoleAsk 3 1 0x6A (le 1 2 ++ le 1 0)).consoleDraw else s
  else if k = 0x1B then s.consoleShow .menu else s

/-- A key press. -/
def State.consoleKeyed (s : State) (k : Nat) : State :=
  if s.console.isOpen then
    let s := { s with console.idle := 0 }
    match s.console.mode with
    | .menu => s.menuKey k
    | .item 1 _ => s.commissionKey k
    | .item 2 _ => s.restartKey k
    | .item 3 _ => s.pairKeyed k
    | .item _ _ => if k = 0x1B then s.consoleShow .menu else s
    | .waiting _ _ => s
    | .result _ _ => if k = 0x0D ∨ k = 0x1B then s.consoleShow .menu else s
  else if k = 0x0D then s.consoleOpens else s

/-! ### Its service task -/

/-- What the final reply of the item's command shows. -/
def State.consoleReply (s : State) (status : Nat) : State :=
  let s := { s with console.awaits := none }
  match s.console.mode with
  | .waiting 3 0 => if status = 0 then s.consoleShow (.item 3 1) else s.consoleShow (.result 3 status)
  | .waiting n _ => s.consoleShow (.result n status)
  | _ => s

/-- The console takes the packets of channel 24. -/
def State.consoleTakes (s : State) : State :=
  let l := (s.chan 24).outq
  let s := s.modChan 24 fun c => refillOut 24 { c with outq := [] }
  s.each l fun s p =>
    if p.kind = .final ∧ s.console.awaits = some p.tag then s.consoleReply (u8 p.payload 0) else s

/-- A strip of 320 x 4 pixels of text at level 63 on level 0; the glyphs are free values (log entry 31). -/
def stripPixels (n v : Nat) : Bytes :=
  match n with
  | 0 => []
  | n + 1 => let x : Byte := if v % 2 = 1 then 63 else 0
             x :: x :: x :: stripPixels n (v / 2)

/-- Send the next part of the screen. -/
def State.consolePaint (s : State) : State :=
  match s.console.draw with
  | 0 => s
  | 1 => { s.consoleSend 0x63 [] with console.draw := 0 }
  | n + 2 =>
    let d := s.draw 1280
    { d.2.consoleSend 0x61 (le 2 0 ++ le 2 (4 * (59 - n)) ++ le 2 320 ++ le 2 4 ++ stripPixels 1280 d.1) with console.draw := n + 1 }

/-- Send while the channel has room; two of its 16 places stay free for an item and for closing. -/
def State.consolePaints (fuel : Nat) (s : State) : State :=
  match fuel with
  | 0 => s
  | fuel + 1 =>
    if s.console.draw = 0 ∨ 13 ≤ (s.chan 24).uses.length then s else State.consolePaints fuel s.consolePaint

/-- The console's service task: replies, keys in the order they came, then the screen (log entry 31). -/
def State.consoleRun (s : State) : State :=
  let s := s.consoleTakes
  let keys := s.adc.keys
  let s := { s with adc.keys := [] }
  State.consolePaints 13 (s.each keys State.consoleKeyed)

end Sys2Proof.Machine
end

