-- ==== Sys2Proof/Machine/Panel.lean ====
section
/-!
DEFINITION. Sys2Proof/Machine/Panel.lean: the active-matrix panel driver (spec/13_panel_matrix.md): frame memory, lap edges,
power sequences, its part of DSP_SVC, and the writes of its attributes.
-/

namespace Sys2Proof.Machine

/-- DSP_NOTE (R370). -/
def State.dspNote (s : State) (kind unit data : Nat) : State := s.note 0x60 kind unit data

/-- Change STATE: DSP_NOTE kind 1. -/
def State.dspTo (s : State) (st : Nat) : State :=
  if s.rd R.DSP_STAT_STATE = st then s else (s.wr R.DSP_STAT_STATE st).dspNote 1 (s.rd R.DSP_STAT_WHY) st

/-! ### Levels, polarity and hold sums (R347, R354, R356, R357) -/

/-- A subpixel: c is 0 for R, 1 for G, 2 for B. -/
def subpixel (x y c : Nat) : Nat := 3 * (320 * y + x) + c

/-- The entries of a ladder as the attribute holds them. -/
def State.ladder (s : State) (negative : Bool) : List Nat :=
  (List.range 64).map fun k => s.rd (if negative then R.DSP_GAMMA_NEG_GV k else R.DSP_GAMMA_POS_GV k)

/-- The Reset value of a ladder: round(240 * k / 63) (Table 13-11). -/
def ladderReset : List Nat := (List.range 64).map fun k => (2 * 240 * k + 63) / 126

/-- GV_POS or GV_NEG in force, 10 mV units. -/
def State.gv (s : State) (positive : Bool) (level : Nat) : Nat :=
  ((if positive then s.dsp.gpos else s.dsp.gneg).getD ladderReset).getD level 0

/-- The polarity a pattern names for a pixel column and a line (R356): 0 column, 1 dot, 2 line, 3 all positive. -/
def State.patternPos (s : State) (mode x y : Nat) : Bool :=
  let n := if s.on R.DSP_CFG_H_FLIP then 319 - x else x
  match mode with
  | 0 => n % 2 == 0
  | 1 => (n + y) % 2 == 0
  | 2 => y % 2 == 0
  | _ => true

/-- LASTPOL: every drive of a line inverts it (R356). -/
def State.lastPol (s : State) (x y : Nat) : Bool :=
  s.patternPos s.dsp.polBase x y != (mget 0 s.dsp.flips y == 1)

/-- LEVEL of a subpixel. -/
def State.level (s : State) (i : Nat) : Nat := mget 0 s.dsp.level i

/-- H of a tile (R357). -/
def State.tileH (s : State) (t : Nat) : Int :=
  if s.dsp.hZero then 0
  else (List.range 256).foldl (fun h i =>
    let x := 16 * (t % 20) + i % 16
    let y := 16 * (t / 20) + i / 16
    let pos := s.lastPol x y
    [0, 1, 2].foldl (fun h c =>
      let v : Int := s.gv pos (s.level (subpixel x y c))
      if pos then h + v else h - v) h) 0

/-- The overdrive level for a change from p to n (R354); `e` gives E(i, j). -/
def overdrive (e : Nat → Nat → Nat) (p n : Nat) : Nat :=
  let i := min (p / 9) 6
  let fp := p - 9 * i
  let j := min (n / 9) 6
  let fn := n - 9 * j
  let sum := e i j * (9 - fp) * (9 - fn) + e (i + 1) j * fp * (9 - fn) + e i (j + 1) * (9 - fp) * fn + e (i + 1) (j + 1) * fp * fn
  min 63 ((sum + 162) / 324)

/-- E(i, j) of DSP_OD. -/
def State.odEntry (s : State) (i j : Nat) : Nat := s.rd (R.DSP_OD_E (8 * i + j))

/-- Whether a pixel lies in the Lantern window. -/
def State.inWindow (s : State) (x y : Nat) : Bool :=
  let x0 := 16 * s.rd R.DSP_LW_XT
  let y0 := 16 * s.rd R.DSP_LW_YT
  decide (x0 ≤ x) && decide (x < x0 + 16 * (s.rd R.DSP_LW_WT + 1)) && decide (y0 ≤ y) && decide (y < y0 + 16 * (s.rd R.DSP_LW_HT + 1))

/-- The Lantern level of a subpixel (R360). -/
def State.lanternLevel (s : State) (x y c : Nat) : Nat :=
  if s.inWindow x y then
    let b := mget 0 s.dsp.lantern (320 * (y - 16 * s.rd R.DSP_LW_YT) + (x - 16 * s.rd R.DSP_LW_XT))
    let lo := [R.DSP_LW_LO_R, R.DSP_LW_LO_G, R.DSP_LW_LO_B].getD c 0
    let hi := [R.DSP_LW_HI_R, R.DSP_LW_HI_G, R.DSP_LW_HI_B].getD c 0
    s.rd (if bit b c then hi else lo)
  else s.rd R.DSP_CFG_BG_LEVEL

/-- The level this lap's frame drives a subpixel at (R353, R354, R360, R363). -/
def State.driveLevel (s : State) (x y c : Nat) : Nat :=
  match s.dsp.kind with
  | 4 => s.lanternLevel x y c
  | 5 => s.rd R.DSP_CFG_DIS_LEVEL
  | _ => (mget? s.dsp.od (subpixel x y c)).getD (s.level (subpixel x y c))

/-- The source voltage of a subpixel in this lap, in units of 10 mV: VMID plus or minus the ladder entry (R347). -/
def State.sourceVolt (s : State) (x y c : Nat) : Nat :=
  let pos := s.lastPol x y
  let v := s.gv pos (s.driveLevel x y c)
  if pos then 250 + v else 250 - v

/-! ### Frames (R349, R350, R353, R355, R358, R360, R368) -/

/-- The lines the lap's frame drives. -/
def State.driven (s : State) : List Nat :=
  match s.dsp.kind with
  | 0 => []
  | 2 => s.dsp.settle
  | 3 => (List.range 240).filter fun y => s.dsp.trips.any fun t => t / 20 == y / 16
  | _ => List.range 240

/-- A scan read of an entry with bad parity (R368). -/
def State.scanParity (s : State) (i : Nat) : State :=
  let d := s.rd R.DSP_CFG_DIS_LEVEL
  let s := { s with dsp.level := mput 0 s.dsp.level i d, dsp.nxt := mput 0 s.dsp.nxt i d,
                    dsp.parBad := s.dsp.parBad.filter (· != i) }
  ((s.count R.DSP_STAT_PAR 255 1).dspNote 3 (i / 960) (i % 960)).fault clNote 0x60 3 (i / 960) (i % 960)

/-- The lap's frame drives its lines: every drive inverts LASTPOL; entries with bad parity are found (R356, R368). -/
def State.driveFrame (s : State) (first : Bool) : State :=
  let lines := s.driven
  let s := if first then { s with dsp.polBase := s.rd R.DSP_CFG_POL_MODE, dsp.flips := [], dsp.hZero := false }
    else { s with dsp.flips := lines.foldl (fun m y => mput 0 m y (1 - mget 0 m y)) s.dsp.flips }
  let s := if s.dsp.kind = 1 ∨ s.dsp.kind = 4 ∨ s.dsp.kind = 5 then s.count R.DSP_STAT_FRAMES 0xFFFF 1 else s
  s.each (s.dsp.parBad.filter fun i => lines.contains (i / 960)) State.scanParity

/-- Whether normal frames are being driven. -/
def State.normalFrames (s : State) : Bool := s.rd R.DSP_STAT_STATE == 3 && !s.on R.DSP_STAT_LANTERN

/-- The subpixels whose NEXT differs from LEVEL. -/
def State.changed (s : State) : List Nat :=
  let keys := (s.dsp.level ++ s.dsp.nxt).map (·.1)
  (keys.filter fun i => s.level i != mget 0 s.dsp.nxt i).dedup

/-- Latch a present at the lap edge: in normal frames the lap is the presenting frame; otherwise NEXT is only copied (R353). -/
def State.latchPresent (s : State) : State :=
  let ch := s.changed
  let od := if s.normalFrames && s.on R.DSP_CFG_OD_EN && !s.dsp.plain then
      ch.foldl (fun m i => mins m i (overdrive s.odEntry (s.level i) (mget 0 s.dsp.nxt i))) []
    else []
  let settle := if s.normalFrames && s.on R.DSP_CFG_OD_EN && decide (0 < s.rd R.DSP_STAT_RATE_ACT) then
      (List.range 240).filter fun y => ch.any fun i => i / 960 == y
    else []
  { s.wr R.DSP_STAT_PRES_PEND 0 with
    dsp.level := s.dsp.nxt, dsp.od := od, dsp.settle := settle, dsp.presenting := s.normalFrames,
    dsp.shown := s.dsp.shown ++ s.dsp.presents, dsp.presents := [] }

/-- ACC = ACC + H for each tile, then the trips are judged (R357, R358). -/
def State.dcEdge (s : State) : State :=
  if s.rd R.DSP_STAT_STATE = 3 ∨ s.rd R.DSP_STAT_STATE = 4 then
    let top : Int := 2 ^ 31 - 1
    let hs := (List.range 300).map fun t => (t, s.tileH t)
    let acc := hs.foldl (fun m e => mput 0 m e.1 (clamp (-top) top (mget 0 m e.1 + e.2))) s.dsp.acc
    let lim : Int := s.rd R.DSP_DC_DC_LIM
    let trips := (hs.filter fun e =>
      let a := mget 0 acc e.1
      decide (lim < |a|) && decide (e.2 ≠ 0) && decide (0 < a * e.2)).map (·.1)
    let s := { s with dsp.acc := acc, dsp.trips := trips }
    match trips.getLast? with
    | none => s
    | some t => (s.count R.DSP_DC_TRIPS 0xFFFF trips.length).wr R.DSP_DC_LAST_TILE t
  else { s with dsp.trips := [] }

/-- The rate in force at an enforced thermal level (Table 15-4). -/
def rateAct (level rate : Nat) : Nat :=
  match level with
  | 0 => rate
  | 1 => max rate 2
  | 2 => max rate 4
  | _ => 6

/-- Attribute values that take effect at the lap edge: ladders, VCOM, the rate (R347, R348, R359, R390). -/
def State.dspTake (s : State) : State :=
  { s.wr R.DSP_STAT_RATE_ACT (rateAct (s.rd R.THM_STAT_LEVEL) (s.rd R.DSP_CFG_RATE)) with
    dsp.gpos := some (s.ladder false), dsp.gneg := some (s.ladder true), dsp.vcom := s.rd R.DSP_CFG_VCOM }

/-- A change of mode takes place, and its DSP_MODE commands end (R360, R361). -/
def State.modeEdge (s : State) : State :=
  match s.dsp.modeDue with
  | none => s
  | some lantern =>
    let was := s.on R.DSP_STAT_LANTERN
    let refs := s.dsp.modeCmds
    let s := { s.wrB R.DSP_STAT_LANTERN lantern with
      dsp.modeDue := none, dsp.modeCmds := [], dsp.settle := if lantern then [] else s.dsp.settle,
      dsp.plain := was && !lantern }
    s.each refs fun s r => s.ok r

/-- The frame kind of the lap (R355, R358, R359, R360), and whether a present is latched first. -/
def State.frameKind (s : State) : Nat :=
  if s.rd R.DSP_STAT_STATE = 3 then
    if s.on R.DSP_STAT_LANTERN then (if s.lap = 0 then 4 else if s.dsp.trips.isEmpty then 0 else 3)
    else if s.dsp.plain || decide (s.lap % 2 ^ s.rd R.DSP_STAT_RATE_ACT = 0) then 1
    else if !s.dsp.settle.isEmpty then 2
    else if s.dsp.trips.isEmpty then 0
    else 3
  else 0

/-! ### Discharge (R364, R365) -/

/-- The discharge starts; one in progress is not restarted, but a power-good or VSRC_OK cause makes it end in FAULT. -/
def State.dischargeStart (s : State) (why : Nat) (fault : Bool) : State :=
  match s.dsp.disch with
  | some d => { s with dsp.disch := some { d with fault := d.fault || fault } }
  | none =>
    let refs := s.dsp.onCmds
    let s := { (s.wr R.DSP_STAT_WHY why).dspTo 5 with
      dsp.disch := some ⟨!s.on R.DSP_STAT_VGH_PG, fault⟩, dsp.off := none, dsp.step := 0, dsp.kind := 0, dsp.onDue := false,
      dsp.onCmds := [], dsp.od := [], dsp.settle := [], dsp.presenting := false }
    s.each refs fun s r => s.finish r stFault

/-- An abrupt off (R364): the discharge starts at once; a power-on that still waits for reserve is withdrawn. -/
def State.abruptOff (s : State) (why : Nat) (fault : Bool) : State :=
  match s.rd R.DSP_STAT_STATE with
  | 0 => s
  | 6 => s
  | 1 =>
    let refs := s.dsp.onCmds
    let s := { (s.escEnd .panel).wr R.DSP_STAT_WHY why with dsp.onCmds := [], dsp.step := 0 }.dspTo 0
    s.each refs fun s r => s.finish r stFault
  | _ => s.dischargeStart why fault

/-- Every field takes its Reset value and the memories are cleared; the levels of the power-goods stay what they are (R367). -/
def State.dspClear (s : State) : State :=
  let keep := [R.DSP_STAT_VSRC_OK, R.DSP_STAT_VGH_PG, R.DSP_STAT_VGL_PG].map fun r => (r, s.rd r)
  let s := s.each (List.range 9) fun s i => s.clearAttr (0x6000 + i)
  { s.wrs keep with dsp := { lapAt := s.dsp.lapAt, stepAt := s.dsp.stepAt, resDue := s.dsp.resDue, pgLow := s.dsp.pgLow } }

/-- The discharge ends (R365): STATE is OFF or FAULT, ACC and H are 0, and RES_A goes at the next GAUGE run. -/
def State.dischargeEnd (s : State) : State :=
  match s.dsp.disch with
  | none => s
  | some d =>
    let refs := s.dsp.offCmds
    let s := { s with dsp.disch := none, dsp.acc := [], dsp.hZero := true, dsp.trips := [], dsp.vghEn := false, dsp.vglEn := false,
                      dsp.offCmds := [], dsp.resDue := true }
    let s := s.dspTo (if d.fault then 6 else 0)
    let s := s.each refs fun s r => s.finish r (if d.fault then stFault else stOk)
    if s.dsp.rstDue then s.dspClear else s

/-- A supply failure (R362, R364, R370, Table 13-6): unit 0 VGL_PG, 1 VGH_PG, 2 VDD_SRC. -/
def State.dspSupply (s : State) (unit : Nat) : State :=
  ((s.dspNote 2 unit 0).fault clDegrade 0x60 2 unit 0).abruptOff (if unit = 2 then 4 else 5) true

/-- VDD_SRC falls below its threshold (R364). -/
def State.vsrcFail (s : State) : State :=
  let s := s.wr R.DSP_STAT_VSRC_OK 0
  let st := s.rd R.DSP_STAT_STATE
  if st = 0 ∨ st = 6 ∨ st = 5 then s else s.dspSupply 2

/-- A power-good has been low for more than 768 PIX cycles in STATE ON or BLANKING (R364). -/
def State.powerGoodLow (s : State) : State :=
  let st := s.rd R.DSP_STAT_STATE
  if (st = 3 ∨ st = 4) ∧ (!s.on R.DSP_STAT_VGH_PG || !s.on R.DSP_STAT_VGL_PG) = true then
    s.dspSupply (if s.on R.DSP_STAT_VGL_PG then 1 else 0)
  else s

/-- The levels of VGH_PG, VGL_PG and VDD_SRC at a slot edge; a power-good low at four slot edges on end has been low for more
than 768 PIX cycles (log entry 27). -/
def State.dspLevels (s : State) (vgh vgl vsrc : Bool) : State :=
  let s := (s.wrB R.DSP_STAT_VGH_PG vgh).wrB R.DSP_STAT_VGL_PG vgl
  let s := if vsrc then s.wr R.DSP_STAT_VSRC_OK 1 else s.vsrcFail
  let n := if vgh && vgl then 0 else min 4 (s.dsp.pgLow + 1)
  let s := { s with dsp.pgLow := n }
  if n = 4 then s.powerGoodLow else s

/-! ### Power-on and orderly off (R362, R363) -/

/-- One step of Table 13-4, with the power-goods as they stand. -/
def State.powerOnStep (s : State) (vgh vgl : Bool) : State :=
  let s := (s.wrB R.DSP_STAT_VGH_PG vgh).wrB R.DSP_STAT_VGL_PG vgl
  if s.dsp.stepAt = some s.cad.now then s
  else
    let s := { s with dsp.stepAt := some s.cad.now }
    match s.dsp.step with
    | 1 =>
      let s := s.dspTo 2
      if s.on R.DSP_STAT_VSRC_OK then { s with dsp.step := 2, dsp.vglEn := true } else s.dspSupply 2
    | 2 => if vgl then { s with dsp.step := 3, dsp.vghEn := true } else s.dspSupply 0
    | 3 => if vgh then { s with dsp.step := 4 } else s.dspSupply 1
    | 4 =>
      let s := { s with dsp.step := 0, dsp.acc := [], dsp.kind := 1, dsp.onDue := true, dsp.plain := false, dsp.od := [] }
      (s.dspTo 3).driveFrame true
    | _ => s

/-- An orderly off: the blank frame starts at the lap edge, and at its end the discharge starts (R363). In POWER_ON no gate is
driven yet, and the discharge starts at the lap edge. -/
def State.orderlyStep (s : State) : State :=
  if s.rd R.DSP_STAT_STATE = 4 then s.dischargeStart (s.rd R.DSP_STAT_WHY) false
  else match s.dsp.off with
    | none => s
    | some why =>
      let s := s.wr R.DSP_STAT_WHY why
      if s.rd R.DSP_STAT_STATE = 3 then ({ s.dspTo 4 with dsp.kind := 5, dsp.off := none }).driveFrame false
      else if s.rd R.DSP_STAT_STATE = 2 then
        let refs := s.dsp.onCmds
        let s := ({ s with dsp.onCmds := [] }).each refs fun s r => s.finish r stSuperseded
        s.dischargeStart why false
      else { s with dsp.off := none }

/-- Ask for an orderly off (R363). A panel that is off needs none; a power-on that waits for reserve is superseded. -/
def State.orderlyOff (s : State) (why : Nat) : State :=
  match s.rd R.DSP_STAT_STATE with
  | 1 =>
    let refs := s.dsp.onCmds
    let s := { (s.escEnd .panel).wr R.DSP_STAT_WHY why with dsp.onCmds := [], dsp.step := 0 }.dspTo 0
    s.each refs fun s r => s.finish r stSuperseded
  | 2 => { s with dsp.off := some (s.dsp.off.getD why) }
  | 3 => { s with dsp.off := some (s.dsp.off.getD why) }
  | _ => s

/-- The lap drives its frame: a settle frame the lines changed before, any other frame what its kind says. -/
def State.lapFrame (s : State) (kind : Nat) (lines : List Nat) : State :=
  let after := s.dsp.settle
  let s := { s with dsp.kind := kind, dsp.settle := if kind == 2 then lines else after, dsp.plain := false }
  let s := s.driveFrame false
  { s with dsp.settle := after }

/-- The lap's frame kind is fixed, and a pending present is latched where the lap allows it (R353, R359). -/
def State.lapPresent (s : State) : State :=
  let kind := s.frameKind
  let lines := s.dsp.settle
  let s := { s with dsp.settle := [] }
  let s := s.when (!s.dsp.presents.isEmpty && (kind == 1 || !s.normalFrames)) State.latchPresent
  s.lapFrame kind lines

/-- What takes effect at the edge, the accumulators and the trips, and a change of mode. -/
def State.lapBegin (s : State) : State :=
  let s := s.when s.dsp.stopped fun s => s.count R.DSP_STAT_REPEATS 0xFFFF 1
  let s := { s with dsp.stopped := false, dsp.lapAt := some s.cad.now }
  let s := s.dspTake.dcEdge.modeEdge
  { s with dsp.presenting := false, dsp.od := [] }

/-- The frame of the lap; an orderly off that waits drives its blank frame, or in POWER_ON starts the discharge (R363). -/
def State.lapEnd (s : State) : State :=
  let st := s.rd R.DSP_STAT_STATE
  if s.dsp.off.isSome && st == 3 then s.orderlyStep
  else if s.dsp.off.isSome && st == 2 then s.lapPresent.orderlyStep
  else s.lapPresent

/-- A lap edge of the panel (Table 13-3): accumulators, trips, a pending present, the frame kind. -/
def State.panelLap (s : State) : State := if s.dsp.lapAt = some s.cad.now then s else s.lapBegin.lapEnd

/-! ### DSP_SVC, queue 208 (R352, R353) -/

/-- The cost of a command (R352); of a DSP_FILL the 64 cycles before its first pixel. -/
def dspCost (op : Nat) (p : Bytes) : Nat :=
  match op with
  | 0x61 => 64 + 2 * ((p.length - 8) / 3)
  | 0x64 => 64 + (p.length - 5)
  | _ => 64

/-- Pixel k of a rectangle. -/
def rectPixel (p : Bytes) (k : Nat) : Nat := 320 * (u16 p 2 + k / u16 p 4) + u16 p 0 + k % u16 p 4

/-- Write a pixel into NEXT. -/
def putPixel (m : Map Nat) (pixel : Nat) (rgb : Bytes) : Map Nat :=
  [0, 1, 2].foldl (fun m c => mput 0 m (3 * pixel + c) (u8 rgb c)) m

/-- DSP_WRITE is applied. -/
def State.applyWrite (s : State) (q : DspReq) : State :=
  let n := u16 q.payload 4 * u16 q.payload 6
  { s with dsp.nxt := (List.range n).foldl (fun m k => putPixel m (rectPixel q.payload k) (sub q.payload (8 + 3 * k) 3)) s.dsp.nxt }.ok q.cmd

/-- DSP_FILL writes pixels k to k + n - 1. -/
def State.applyFill (s : State) (q : DspReq) (n : Nat) : State :=
  { s with dsp.nxt := (List.range n).foldl (fun m k => putPixel m (rectPixel q.payload (q.done + k)) (sub q.payload 8 3)) s.dsp.nxt }

/-- DSP_LW_WRITE is applied (R360). -/
def State.applyLw (s : State) (q : DspReq) : State :=
  let line := u8 q.payload 0
  let x := u16 q.payload 1
  let n := u16 q.payload 3
  { s with dsp.lantern := (List.range n).foldl (fun m k => mput 0 m (320 * line + x + k) (u8 q.payload (5 + k))) s.dsp.lantern }.ok q.cmd

/-- Whether DSP_POWER with ON = 1 is refused in the present state (Table 13-14). -/
def State.onRefused (s : State) : Bool :=
  !s.on R.DSP_STAT_VSRC_OK || [4, 5].contains (s.rd R.DSP_STAT_STATE) || s.on R.PWR_STAT_PFSEQ || s.rd R.PWR_STAT_MODE == 1

/-- DSP_POWER with ON = 1 is applied (R362). -/
def State.applyOn (s : State) (r : Ref) : State :=
  if s.rd R.DSP_STAT_STATE = 3 then s.ok r
  else if s.onRefused then s.finish r stNotPermitted
  else
    let s := { s.accepted r with dsp.onCmds := s.dsp.onCmds ++ [r] }
    if s.rd R.DSP_STAT_STATE = 1 ∨ s.rd R.DSP_STAT_STATE = 2 then s
    else (s.dspTo 1).escAsk 0 (s.rd R.PWR_CLASS_RES_A) .panel

/-- DSP_POWER with ON = 0 is applied (R363). -/
def State.applyOff (s : State) (r : Ref) : State :=
  let st := s.rd R.DSP_STAT_STATE
  if st = 0 then s.ok r
  else if st = 6 then (s.dspTo 0).ok r
  else if st = 1 then ((s.accepted r).orderlyOff 1).ok r
  else { (s.accepted r).orderlyOff 1 with dsp.offCmds := s.dsp.offCmds ++ [r] }

/-- Apply a command other than a DSP_FILL. -/
def State.applyDsp (s : State) (q : DspReq) : State :=
  match q.cmd.op with
  | 0x60 => if u8 q.payload 0 = 1 then s.applyOn q.cmd else s.applyOff q.cmd
  | 0x61 => s.applyWrite q
  | 0x63 => { (s.accepted q.cmd).wr R.DSP_STAT_PRES_PEND 1 with dsp.presents := s.dsp.presents ++ [q.cmd] }
  | 0x64 => s.applyLw q
  | 0x65 =>
    let lantern := u8 q.payload 0 == 1
    { s with dsp.mode := lantern, dsp.modeDue := some lantern, dsp.modeCmds := s.dsp.modeCmds ++ [q.cmd] }
  | _ => s

/-- Whether a command must wait: pixels during the presenting frame, the Lantern memory in lap 0 (R353, R360). -/
def State.dspWaits (s : State) (op : Nat) : Bool :=
  (s.dsp.presenting && (op == 0x61 || op == 0x62)) || (op == 0x64 && s.lap == 0)

/-- Work through queue 208 with the budget left (R352). -/
def dspLoop (n budget : Nat) (s : State) : State :=
  match n, s.dsp.queue with
  | 0, _ => s
  | _, [] => s
  | n + 1, q :: rest =>
    if s.dspWaits q.cmd.op then s
    else if q.cmd.op = 0x62 then
      if q.done = 0 ∧ budget < 64 then s
      else
        let left := if q.done = 0 then budget - 64 else budget
        let total := u16 q.payload 4 * u16 q.payload 6
        let k := min (total - q.done) (4 * left)
        let s := s.applyFill q k
        if total ≤ q.done + k then dspLoop n (left - (k + 3) / 4) ({ s with dsp.queue := rest }.ok q.cmd)
        else { s with dsp.queue := { q with done := max 1 (q.done + k) } :: rest }
    else if budget < dspCost q.cmd.op q.payload then s
    else dspLoop n (budget - dspCost q.cmd.op q.payload) ({ s with dsp.queue := rest }.applyDsp q)

/-- The panel's part of a DSP_SVC run: replies that are due, then queue 208 within 8,192 cycles. -/
def State.dspRun (s : State) : State :=
  let on := s.dsp.onCmds
  let s := if s.dsp.onDue then ({ s with dsp.onDue := false, dsp.onCmds := [] }).each on fun s r => s.ok r else s
  let shown := s.dsp.shown
  let s := if s.dsp.presenting then s else ({ s with dsp.shown := [] }).each shown fun s r => s.ok r
  dspLoop 33 8192 s

/-! ### Modes and resets (R361, R367) -/

/-- Entry to Freewheel-1: an ON panel enters Lantern mode; on return to Run it takes the mode last set (R361). -/
def State.panelFreewheel (s : State) (enter : Bool) : State :=
  if enter then (if s.rd R.DSP_STAT_STATE = 3 then { s with dsp.modeDue := some true } else s)
  else { s with dsp.modeDue := some s.dsp.mode }

/-- PWR_SUBSYS_RESET unit 0x06 (R367): orderly off, then every field and memory. The commands of the queue are the recovery's. -/
def State.dspUnitReset (s : State) : State :=
  let s := { s with dsp.queue := [], dsp.presents := [], dsp.shown := [], dsp.modeCmds := [], dsp.rstDue := true }
  let s := s.orderlyOff 6
  if s.rd R.DSP_STAT_STATE = 0 ∨ s.rd R.DSP_STAT_STATE = 6 then s.dspClear else s

/-- A hub reset (R364, R367): the discharge of a panel that was not off goes on in its own hardware. -/
def State.dspReset (s : State) : State :=
  let s := s.abruptOff 0 false
  let d := s.dsp.disch
  let s := s.dspClear
  match d with
  | none => s
  | some d => { s with dsp.disch := some { d with fault := false } }.wr R.DSP_STAT_STATE 5

/-- The frame memory is lost (R351). -/
def State.frameLose (s : State) : State := { s with dsp.level := [], dsp.nxt := [], dsp.polBase := 3, dsp.flips := [], dsp.parBad := [] }

/-! ### Attribute writes -/

/-- BAD_PARAM of a write (Tables 13-9 to 13-13). -/
def State.dspCheck (_s : State) (id v : Nat) : Nat :=
  let bad := match id with
    | 0x6001 => bits v 6 3 == 7 || decide (bits v 32 9 < 150) || decide (300 < bits v 32 9) || decide (bits v 48 8 < 2) ||
        decide (100 < bits v 48 8)
    | 0x6002 => decide (14 < bits v 0 4) || decide (14 < bits v 0 4 + bits v 4 2) || decide (19 < bits v 8 5) ||
        decide (19 < bits v 8 5 + bits v 13 5)
    | 0x6003 => (List.range 64).any fun k => decide (252 < bits v (8 * k) 8)
    | 0x6004 => (List.range 64).any fun k => decide (240 < bits v (8 * k) 8)
    | 0x6005 => (List.range 64).any fun k => decide (240 < bits v (8 * k) 8)
    | 0x6006 => decide (bits v 0 32 < 0x1000)
    | 0x6007 => decide (299 < bits v 0 9)
    | _ => false
  if bad then stBadParam else stOk

/-- POL_MODE and the flips are writable only in STATE OFF (Table 13-9). -/
def State.dspPermits (s : State) (id v : Nat) : Bool :=
  if id = 0x6001 then
    let old := s.attrRaw id
    s.rd R.DSP_STAT_STATE == 0 || (bits v 0 2 == bits old 0 2 && bits v 3 3 == bits old 3 3)
  else true

/-- DSP_TILE as a read samples it: ACC, H and TRIP of the tile that INDEX names (Table 13-13). -/
def State.tileBits (s : State) : List (Nat × Nat) :=
  let t := s.rd R.DSP_TILE_IDX_INDEX
  [(R.DSP_TILE_ACC, unsigned 32 (mget 0 s.dsp.acc t)), (R.DSP_TILE_H, unsigned 20 (s.tileH t)),
   (R.DSP_TILE_TRIP, b2n (s.dsp.trips.contains t))]

/-! ### Opcodes (R369) -/

/-- A command enters queue 208, 32 entries deep (R352). -/
def State.dspPlace (s : State) (r : Ref) (p : Bytes) : State :=
  if s.dsp.queue.length < 32 then { s with dsp.queue := s.dsp.queue ++ [⟨r, p, 0⟩] } else s.finish r stQueueFull

/-- Whether a rectangle leaves the glass. -/
def rectOutside (p : Bytes) : Bool := decide (320 < u16 p 0 + u16 p 4) || decide (240 < u16 p 2 + u16 p 6)

/-- Whether a pixel byte has bit 6 or 7 set. -/
def pixelBad (b : Bytes) : Bool := b.any fun x => decide (63 < x.toNat)

/-- The console owns the panel while it is open: other channels may not draw (R67). -/
def State.panelFree (s : State) (r : Ref) : Bool := !s.console.isOpen || decide (24 ≤ r.ch ∧ r.ch ≤ 30)

def State.doDspPower (s : State) (r : Ref) (p : Bytes) : State :=
  s.checked r [lengthIs p 1, param (decide (1 < u8 p 0)),
    permitted (!s.limp && !(u8 p 0 == 1 && s.rd R.DSP_STAT_STATE != 3 && s.onRefused))]
    fun s => (if u8 p 0 = 0 then s.consoleCloses else s).dspPlace r p

def State.doDspWrite (s : State) (r : Ref) (p : Bytes) : State :=
  s.checked r [(decide (p.length < 8) || decide (p.length ≠ 8 + 3 * (u16 p 4 * u16 p 6)), stBadLength),
    param (rectOutside p || pixelBad (p.drop 8)), permitted (!s.limp && s.panelFree r)] fun s => s.dspPlace r p

def State.doDspFill (s : State) (r : Ref) (p : Bytes) : State :=
  s.checked r [lengthIs p 11, param (rectOutside p || pixelBad (p.drop 8)), permitted (!s.limp && s.panelFree r)]
    fun s => s.dspPlace r p

def State.doDspPresent (s : State) (r : Ref) (p : Bytes) : State :=
  s.checked r [lengthIs p 0, permitted (!s.limp && s.panelFree r)] fun s => s.dspPlace r p

def State.doDspLwWrite (s : State) (r : Ref) (p : Bytes) : State :=
  s.checked r [(decide (p.length < 5) || decide (p.length ≠ 5 + u16 p 3) || decide (u16 p 3 = 0 ∨ 320 < u16 p 3), stBadLength),
    param (decide (16 * (s.rd R.DSP_LW_HT + 1) ≤ u8 p 0 ∨ 16 * (s.rd R.DSP_LW_WT + 1) < u16 p 1 + u16 p 3) ||
      (p.drop 5).any fun x => decide (7 < x.toNat)),
    permitted (!s.limp)] fun s => s.dspPlace r p

def State.doDspMode (s : State) (r : Ref) (p : Bytes) : State :=
  s.checked r [lengthIs p 1, param (decide (1 < u8 p 0)), permitted (!s.limp && s.rd R.PWR_STAT_MODE != 1 && s.panelFree r)]
    fun s => s.dspPlace r p

end Sys2Proof.Machine
end

