-- ==== Sys2Proof/Machine/Segment.lean ====
section
/-!
DEFINITION. Sys2Proof/Machine/Segment.lean: the segment panel driver (spec/14_panel_segments.md).
-/

namespace Sys2Proof.Machine

/-- SEG_NOTE (R382). -/
def State.segNote (s : State) (kind data : Nat) : State := s.note 0x66 kind 0 data

/-- The bytes of a pattern (R371). -/
def State.segPattern (s : State) (field : Nat → Nat) : List Nat := (List.range 48).map fun i => s.rd (field i)

/-- Store the bytes of a pattern. -/
def State.segStore (s : State) (field : Nat → Nat) (p : List Nat) : State :=
  s.each (List.range 48) fun s i => s.wr (field i) (p.getD i 0)

/-! ### Waveform (R372, Table 14-1) -/

/-- The level of COMc in a tick of the lap, in quarters of VLCD; a stopped driver holds 0. -/
def State.comLevel (s : State) (c tick : Nat) : Nat :=
  if s.on R.SEG_STAT_RUN then
    if tick / 2 = c then (if tick % 2 = 0 then 4 else 0) else (if tick % 2 = 0 then 1 else 3)
  else 0

/-- The level of SEGs in a tick of the lap, in quarters of VLCD: the alternate pattern while ALT reads 1. -/
def State.segLevel (s : State) (n tick : Nat) : Nat :=
  if s.on R.SEG_STAT_RUN then
    let b := s.rd (if s.on R.SEG_STAT_ALT then R.SEG_ALT_SEG n else R.SEG_PAT_SEG n)
    if bit b (tick / 2) then (if tick % 2 = 0 then 0 else 4) else 2
  else 0

/-! ### Lap, tick and stage edges (R373 to R379) -/

/-- The swap committed takes place at the lap edge (R376, R377). -/
def State.segSwap (s : State) : State :=
  match s.seg.swap with
  | none => s
  | some p =>
    let s := ((s.segStore R.SEG_PAT_SEG p).count R.SEG_STAT_SWAPS 0xFFFF 1).wr R.SEG_STAT_ALT 0
    { s with seg.swap := none, seg.done := s.seg.done ++ s.seg.ready, seg.ready := [] }

/-- An AON tick edge commits the requests taken so far with the back pattern as it stands (R376). -/
def State.segTick (s : State) : State :=
  if s.seg.shows.isEmpty && s.seg.ready.isEmpty then s
  else { s with seg.ready := s.seg.ready ++ s.seg.shows, seg.shows := [], seg.swap := some (s.segPattern R.SEG_BACK_SEG) }

/-- The alternate pattern is shown from the first lap edge after the loss of the main rails (R377). -/
def State.segAlt (s : State) : State :=
  if s.seg.altDue && s.on R.SEG_CFG_ALT_EN && s.seg.noMain then
    ({ s with seg.altDue := false }.wr R.SEG_STAT_ALT 1).segNote 3 0
  else { s with seg.altDue := false }

/-- A driver stopped by LOSS_T or for Standby restarts at the first lap edge after the main rails return (R378, R379). -/
def State.segRestart (s : State) : State :=
  if s.seg.noMain then s
  else
    let lossStop := s.on R.SEG_STAT_STOPPED_LOSS
    if lossStop || s.seg.stby then
      let s := { s.wr R.SEG_STAT_STOPPED_LOSS 0 with seg.stby := false, seg.loss := 0 }
      let s := s.wr R.SEG_STAT_RUN (s.rd R.SEG_CFG_EN)
      if lossStop then s.segNote 2 0 else s
    else s

/-- A lap edge of the segment driver (R373, R374, R376 to R378). -/
def State.segLap (s : State) : State :=
  if s.seg.lapAt = some s.cad.now then s
  else
    let s := { s with seg.lapAt := some s.cad.now, seg.vlcd := s.rd R.SEG_CFG_VLCD }
    let s := s.segSwap.segAlt.segRestart
    s.wrB R.SEG_STAT_RUN (s.on R.SEG_CFG_EN && !s.on R.SEG_STAT_STOPPED_LOSS && !s.seg.stby)

/-- The driver stops at once after LOSS_T stage edges without the main rails (R378). -/
def State.lossStop (s : State) : State :=
  if s.on R.SEG_STAT_RUN then ((s.wr R.SEG_STAT_RUN 0).wr R.SEG_STAT_STOPPED_LOSS 1).segNote 2 1 else s

/-- A stage edge: the edges without the main rails are counted (R378). -/
def State.segStage (s : State) : State :=
  if s.seg.noMain then
    let n := min 65536 (s.seg.loss + 1)
    let s := { s with seg.loss := n }
    if s.rd R.SEG_CFG_LOSS_T ≠ 0 ∧ s.rd R.SEG_CFG_LOSS_T ≤ n then s.lossStop else s
  else s

/-- The main rails are lost (R377). -/
def State.segMainsLost (s : State) : State :=
  if s.seg.noMain then s else { s with seg.noMain := true, seg.altDue := true, seg.loss := 0 }

/-- The main rails return. -/
def State.segMainsBack (s : State) : State := { s with seg.noMain := false, seg.altDue := false }

/-- Entry to Standby with STBY = 0 stops the driver at the entry lap edge (Table 14-2). -/
def State.segStandby (s : State) : State :=
  if s.on R.SEG_CFG_STBY then s else { s.wr R.SEG_STAT_RUN 0 with seg.stby := true }

/-- VLCD_LOW begins or ends (R375, R380). -/
def State.vlcdLow (s : State) (low : Bool) : State :=
  if s.on R.SEG_STAT_VLCD_LOW = low then s
  else
    let s := (s.wrB R.SEG_STAT_VLCD_LOW low).segNote 1 (b2n low)
    if low then s.fault clNote 0x64 1 0 1 else s

/-- A swap not yet committed is dropped, and the back pattern takes the shown one (Table 14-2). -/
def State.segDrop (s : State) (committed : Bool) : State :=
  let s := s.segStore R.SEG_BACK_SEG (s.segPattern R.SEG_PAT_SEG)
  { s with seg.queue := [], seg.shows := [], seg.done := [], seg.ready := [], seg.swap := if committed then s.seg.swap else none }

/-- A hub reset (Table 14-2): the driver keeps running; a committed swap takes place at its lap edge. -/
def State.segReset (s : State) : State := (s.segDrop true).wr R.SEG_STAT_SWAPS 0

/-- PWR_SUBSYS_RESET unit 0x07 (Table 14-2): the pending swap is dropped. -/
def State.segUnitReset (s : State) : State := s.segDrop false

/-- An AON power-up: stopped, every pattern zero, SEG_CFG at its Reset values (R38, Table 14-2). -/
def State.segPowerUp (s : State) : State :=
  { s.each (List.range 5) fun s i => s.clearAttr (0x6400 + i) with seg := { lapAt := s.seg.lapAt } }

/-- BAD_PARAM of a write: VLCD above 250 (Table 14-5). -/
def segCheck (id v : Nat) : Nat := if id = 0x6401 ∧ 250 < bits v 8 8 then stBadParam else stOk

/-! ### DSP_SVC, queue 212, and the opcodes (R376, R381) -/

/-- A command of queue 212 is applied. -/
def State.applySeg (s : State) (q : DspReq) : State :=
  if q.cmd.op = 0x66 then
    (s.each (List.range (u8 q.payload 1)) fun s i => s.wr (R.SEG_BACK_SEG (u8 q.payload 0 + i)) (u8 q.payload (2 + i))).ok q.cmd
  else { s.accepted q.cmd with seg.shows := s.seg.shows ++ [q.cmd] }

/-- The segment driver's part of a DSP_SVC run: replies of swaps that have taken place, then queue 212. -/
def State.segRun (s : State) : State :=
  let done := s.seg.done
  let s := ({ s with seg.done := [] }).each done fun s r => s.ok r
  let q := s.seg.queue
  ({ s with seg.queue := [] }).each q State.applySeg

/-- The DSP_SVC job. -/
def State.dspSvc (s : State) : State := s.dspRun.segRun

/-- A command enters queue 212. -/
def State.segPlace (s : State) (r : Ref) (p : Bytes) : State :=
  if s.seg.queue.length < 32 then { s with seg.queue := s.seg.queue ++ [⟨r, p, 0⟩] } else s.finish r stQueueFull

def State.doSegWrite (s : State) (r : Ref) (p : Bytes) : State :=
  s.checked r [(decide (p.length < 2 ∨ p.length ≠ 2 + u8 p 1), stBadLength), param (decide (48 < u8 p 0 + u8 p 1))] fun s => s.segPlace r p

def State.doSegShow (s : State) (r : Ref) (p : Bytes) : State :=
  s.checked r [lengthIs p 0, permitted (s.on R.SEG_CFG_EN)] fun s => s.segPlace r p

end Sys2Proof.Machine
end

