-- ==== Sys2Proof/Machine/Stall.lean ====
section
/-!
DEFINITION. Sys2Proof/Machine/Stall.lean: a stall's memories with their protection and audit tags
(spec/12_stable_scratchpad.md), and its sixteen operations cycle by cycle (spec/11_stable_engine.md, R297 to R302, R320).
-/

namespace Sys2Proof.Machine

def State.stall (s : State) (q : Nat) : Stall := mget {} s.stb.stalls q
def State.modStall (s : State) (q : Nat) (f : Stall → Stall) : State := { s with stb.stalls := mmod {} s.stb.stalls q f }
def State.task (s : State) (q k : Nat) : Task := mget {} (s.stall q).tasks k
def State.modTask (s : State) (q k : Nat) (f : Task → Task) : State := s.modStall q fun x => { x with tasks := mmod {} x.tasks k f }
def State.ring (s : State) (q r : Nat) : RingSt := mget {} (s.stall q).rings r
def State.modRing (s : State) (q r : Nat) (f : RingSt → RingSt) : State :=
  s.modStall q fun x => { x with rings := mmod {} x.rings r f }

/-- STB_NOTE (R318, R345). -/
def State.stbNote (s : State) (kind unit data : Nat) : State := s.note 0x58 kind unit data

/-- Set one bit of a field. -/
def State.wrBit (s : State) (r i : Nat) (b : Bool) : State := s.wr r (setBit (s.rd r) i b)

/-! ### The memories (R297, R319, R322) -/

/-- The unit of a memory in bytes (Table 11-1). -/
def unitBytes (m : StallMem) : Nat :=
  match m with
  | .code => 4
  | .weight => 64
  | .act => 16
  | .psum => 32
  | .latch => 64

/-- The number of a memory, for its free contents. -/
def memIndex (m : StallMem) : Nat :=
  match m with
  | .code => 0
  | .weight => 1
  | .act => 2
  | .psum => 3
  | .latch => 4

def Stall.cells (x : Stall) (m : StallMem) : List Host.Cell :=
  match m with
  | .code => x.code
  | .weight => x.weight
  | .act => x.act
  | .psum => x.psum
  | .latch => x.latch

def Stall.setCells (x : Stall) (m : StallMem) (c : List Host.Cell) : Stall :=
  match m with
  | .code => { x with code := c }
  | .weight => { x with weight := c }
  | .act => { x with act := c }
  | .psum => { x with psum := c }
  | .latch => { x with latch := c }

/-- One byte; a byte that nothing has written is free (R322; log entry 7). -/
def Stall.byteAt (x : Stall) (q : Nat) (m : StallMem) (a : Nat) : Byte :=
  (mget? (x.cells m) a).getD
    (Config.scratch (if decide (m = .act) && decide (65536 ≤ a) then x.epoch7 else x.epoch) q (memIndex m) a)

/-- n bytes from an address. -/
def Stall.bytesAt (x : Stall) (q : Nat) (m : StallMem) (a n : Nat) : Bytes := (List.range n).map fun i => x.byteAt q m (a + i)

/-- A unit as a number, least significant byte first. -/
def State.unitAt (s : State) (q : Nat) (m : StallMem) (u : Nat) : Nat :=
  ofLe ((s.stall q).bytesAt q m (unitBytes m * u) (unitBytes m))

/-- List bytes from an address. -/
def putRaw (c : List Host.Cell) (a : Nat) (b : Bytes) : List Host.Cell :=
  match b with
  | [] => c
  | x :: rest => putRaw (mins c a x) (a + 1) rest

/-- A write regenerates parity or check bits (R335, R338): parity words are numbered over activation memory, then
partial-sum memory. -/
def Stall.regenerate (x : Stall) (m : StallMem) (a n : Nat) : Stall :=
  let hit (lo size i : Nat) : Bool := decide (a < (i - lo + 1) * size) && decide ((i - lo) * size < a + n) && decide (lo ≤ i)
  match m with
  | .weight => { x with wErr := x.wErr.filter fun e => !(hit 0 8 e.1) }
  | .act => { x with parBad := x.parBad.filter fun w => !(decide (w < 24576) && hit 0 4 w) }
  | .psum => { x with parBad := x.parBad.filter fun w => !(hit 24576 4 w) }
  | _ => x

/-- Write bytes. -/
def Stall.putBytes (x : Stall) (m : StallMem) (a : Nat) (b : Bytes) : Stall :=
  (x.setCells m (putRaw (x.cells m) a b)).regenerate m a b.length

/-- Write a unit. -/
def Stall.putUnit (x : Stall) (m : StallMem) (u v : Nat) : Stall := x.putBytes m (unitBytes m * u) (le (unitBytes m) v)

/-! ### Tasks and rings -/

/-- W of R310: the window at the present STB rate. -/
def State.stbWindow (s : State) : Nat := 168000 * (4 - s.rd R.STB_STAT_SKIPQ) / 4

/-- The contexts of a stall in one of the states given. -/
def State.tasksIn (s : State) (q : Nat) (states : List Nat) : List Nat :=
  (List.range 4).filter fun k => states.contains (s.rd (R.STB_TASK_STATE q k))

/-- The sum of BUDGET over contexts. -/
def State.budgets (s : State) (q : Nat) (l : List Nat) : Nat := l.foldl (fun n k => n + s.rd (R.STB_TASK_BUDGET q k)) 0

/-- The commitment of a stall (R310). -/
def State.commitment (s : State) (q : Nat) : Nat := s.budgets q (s.tasksIn q [3, 4])

/-- Change a task's state: STB_NOTE kind 1, and a DEGRADE fault for a FAULT other than an overrun (R311, R312,
Table 11-7). -/
def State.taskTo (s : State) (q k state why : Nat) : State :=
  let old := s.rd (R.STB_TASK_STATE q k)
  let i := 4 * q + k
  let s := (s.wrs [(R.STB_TASK_STATE q k, state), (R.STB_TASK_WHY q k, why)]).wrBit R.STB_STAT_RUN i (state == 3)
  let s := s.wrBit R.STB_STAT_FAULTED i (state == 5)
  let s := if old = state then s else s.stbNote 1 i (state + 8 * why)
  if state = 5 ∧ why ≠ 1 then s.fault clDegrade 0x58 1 i (state + 8 * why) else s

/-- A stopped task is READY with WHY 7, and the stops are answered (R317). -/
def State.stopDone (s : State) (q k : Nat) : State :=
  let refs := (s.task q k).stop
  if refs.isEmpty then s
  else
    let s := (s.modTask q k fun t => { t with stop := [] }).taskTo q k 2 7
    s.each refs fun s r => s.ok r

/-- A tile starts: its context loads for 16 cycles (R301); TILES and TCOUNT count. -/
def State.tileStart (s : State) (q : Nat) : State :=
  match (s.stall q).order with
  | [] => s
  | k :: _ =>
    let s := s.modStall q fun x => { x with load := 16, cur := none, hazTold := false }
    (s.count (R.STB_TASK_TILES q k) 0xFFFF 1).wrap (R.STB_STALL_TCOUNT q) 1024 1

/-- A tile of context k ends; the next task's tile starts in the next cycle (R308, R309). -/
def State.tileEnd (s : State) (q k : Nat) : State :=
  let s := s.modStall q fun x => { x with cur := none }
  let s := s.stopDone q k
  if (s.stall q).order.head? = some k then
    (s.modStall q fun x => { x with order := x.order.drop 1 }).tileStart q
  else s

/-- A task fault ends its tile at once (R312). -/
def State.taskFault (s : State) (q k why : Nat) : State := (s.taskTo q k 5 why).tileEnd q k

/-! ### Audit mode (R325, R326) -/

/-- The tag of a unit: activation unit u at u, sum unit u at 6144 + u. -/
def tagIndex (m : StallMem) (u : Nat) : Nat := if m = .psum then 6144 + u else u

/-- Whether writes and reads of a memory are tagged. -/
def State.audited (s : State) (m : StallMem) : Bool := s.on R.STB_SP_STAT_AUDIT && (decide (m = .act) || decide (m = .psum))

/-- A hazard: 0 read unfilled, 1 overwrite undrained (R326). -/
def State.hazard (s : State) (q k pc kind : Nat) (m : StallMem) (u : Nat) : State :=
  let g := (mget {} (s.stall q).tags (tagIndex m u)).gen
  let s := (s.wrBit R.STB_SP_STAT_HAZARD q true).count R.STB_AUDIT_HAZARDS 0xFFFF 1
  let s := if s.on (R.STB_HAZ_VALID q) then s
    else s.wrs [(R.STB_HAZ_VALID q, 1), (R.STB_HAZ_KIND q, kind), (R.STB_HAZ_SPACE q, b2n (decide (m = .psum))),
      (R.STB_HAZ_CTX q, k), (R.STB_HAZ_PC q, pc), (R.STB_HAZ_GEN q, g), (R.STB_HAZ_UNIT q, u)]
  if (s.stall q).hazTold then s
  else ((s.modStall q fun x => { x with hazTold := true }).stbNote 17 (4 * q + k) u).fault clNote 0x58 17 (4 * q + k) u

/-- A tagging write lands on a unit. -/
def State.tagWrite (s : State) (q k pc : Nat) (m : StallMem) (u : Nat) : State :=
  if s.audited m then
    let t := mget {} (s.stall q).tags (tagIndex m u)
    let s := if t.w && !t.r then s.hazard q k pc 1 m u else s
    let g := s.rd (R.STB_STALL_TCOUNT q) % 16
    s.modStall q fun x => { x with tags := mput {} x.tags (tagIndex m u) ⟨true, false, g⟩ }
  else s

/-- An operation reads a unit (`check`), or STB_SVC does. -/
def State.tagRead (s : State) (q k pc : Nat) (m : StallMem) (u : Nat) (check : Bool) : State :=
  if s.audited m then
    let t := mget {} (s.stall q).tags (tagIndex m u)
    let s := if check && !t.w then s.hazard q k pc 0 m u else s
    s.modStall q fun x => { x with tags := mmod {} x.tags (tagIndex m u) fun t => { t with r := true } }
  else s

/-! ### Protection (R335, R337, R338, R340) -/

/-- The weight row of a 64-bit word, and its block (R319, R335). -/
def wordRow (w : Nat) : Nat := w / 32
def wordBlock (w : Nat) : Nat := w / 128

/-- Follow the list of poisoned blocks (Tables 12-6 and 12-9). -/
def State.poisonShow (s : State) (q : Nat) : State :=
  let n := (s.stall q).poison.length
  (s.wr (R.STB_SP_POISONED q) n).wrBit R.STB_SP_STAT_POISON q (decide (0 < n))

/-- A block becomes poisoned (R337). -/
def State.poisonBlock (s : State) (q b : Nat) : State :=
  if (s.stall q).poison.contains b then s
  else
    let s := s.modStall q fun x => { x with poison := x.poison ++ [b], rewr := x.rewr.filter fun t => t / 16 != b }
    ((s.poisonShow q).stbNote 20 q b).fault clDegrade 0x58 20 q b

/-- Whether a repair of a row is already made, under way or asked for. -/
def State.repairKnown (s : State) (q row : Nat) : Bool :=
  let x := s.stall q
  (x.mapped ++ x.copyDue).any (fun e => e.1 == row) || x.rowReq.contains row ||
    (s.hay.reqs ++ s.hay.groom).any fun r => match r.what with
      | .repair stall plan => stall == q && plan.any fun e => e.1 == row
      | _ => false

/-- A row is put forward for repair (R340). -/
def State.rowRequest (s : State) (q row : Nat) : State :=
  if s.repairKnown q row then s
  else (s.modStall q fun x => { x with rowReq := x.rowReq ++ [row] }).stbNote 18 q (rowData row)

/-- A read of a 64-bit weight word: whether it is uncorrectable, and what the read does (R335, R337, R340). -/
def State.weightWord (s : State) (q w : Nat) : Bool × State :=
  match mget? (s.stall q).wErr w with
  | none => (false, s)
  | some 1 => (false, s.count (R.STB_SP_CORR q) 0xFFFF 1)
  | some _ => (true, ((s.count (R.STB_SP_DOUBLE q) 0xFFFF 1).poisonBlock q (wordBlock w)).rowRequest q (wordRow w))

/-- The parity words of a unit. -/
def parityWords (m : StallMem) (u : Nat) : List Nat :=
  match m with
  | .act => (List.range 4).map (4 * u + ·)
  | .psum => (List.range 8).map (24576 + 8 * u + ·)
  | _ => []

/-- Bad parity is found in a unit (R338). -/
def State.parityFound (s : State) (q : Nat) (m : StallMem) (u : Nat) : State :=
  ((s.wrBit R.STB_SP_STAT_PARITY q true).count (R.STB_SP_PAR q) 0xFFFF 1).stbNote 21 (q + 4 * b2n (decide (m = .psum))) u

/-- Whether a unit holds a word with bad parity. -/
def State.parityBad (s : State) (q : Nat) (m : StallMem) (u : Nat) : Bool :=
  (parityWords m u).any fun w => (s.stall q).parBad.contains w

/-- An operation reads units in one cycle: their values, whether one has bad parity, and what the reads do. -/
def State.readUnits (s : State) (q k pc : Nat) (l : List (StallMem × Nat)) : List Nat × Bool × State :=
  l.foldl (fun a e =>
    let s := a.2.2.tagRead q k pc e.1 e.2 true
    let bad := s.parityBad q e.1 e.2
    (a.1 ++ [s.unitAt q e.1 e.2], a.2.1 || bad, if bad then s.parityFound q e.1 e.2 else s)) ([], false, s)

/-! ### Landing (R301, R324, R329) -/

/-- A ring's head and fill count advance (R303). -/
def State.ringPush (s : State) (q r n : Nat) : State :=
  if s.on (R.STB_RING_EN q r) then
    s.wrs [(R.STB_RING_HEAD q r, (s.rd (R.STB_RING_HEAD q r) + n) % s.rd (R.STB_RING_SIZE q r)),
      (R.STB_RING_FILL q r, s.rd (R.STB_RING_FILL q r) + n)]
  else s

/-- A ring's tail advances. -/
def State.ringPop (s : State) (q r n : Nat) : State :=
  s.wrs [(R.STB_RING_TAIL q r, (s.rd (R.STB_RING_TAIL q r) + n) % s.rd (R.STB_RING_SIZE q r)),
    (R.STB_RING_FILL q r, s.rd (R.STB_RING_FILL q r) - n)]

/-- The activation unit of entry i of a ring. -/
def State.ringUnit (s : State) (q r i : Nat) : Nat := s.rd (R.STB_RING_BASE q r) + i % s.rd (R.STB_RING_SIZE q r)

/-- A write lands; a vector of a neighbour lands at the ring's head, which advances. -/
def State.land (s : State) (q : Nat) (l : Landing) : State :=
  let u := match l.ring with
    | none => l.unit
    | some r => s.ringUnit q r (s.rd (R.STB_RING_HEAD q r))
  let s := (s.tagWrite q l.ctx l.pc l.mem u).modStall q fun x => x.putUnit l.mem u l.val
  match l.ring with
  | none => s
  | some r => s.ringPush q r 1

/-- The writes due at the stall's present cycle land; a neighbour's value stays over the stall's own (R324). -/
def State.landDue (s : State) (q : Nat) : State :=
  let x := s.stall q
  let due := x.pend.filter fun l => decide (l.cycle ≤ x.cycle)
  if due.isEmpty then s
  else
    let s := s.modStall q fun x => { x with pend := x.pend.filter fun l => decide (x.cycle < l.cycle) }
    (s.each (due.filter fun l => l.ring.isNone) fun s l => s.land q l).each (due.filter fun l => l.ring.isSome) fun s l => s.land q l

/-- Every write on its way lands. -/
def State.landAll (s : State) (q : Nat) : State :=
  let due := (s.stall q).pend
  let s := s.modStall q fun x => { x with pend := [] }
  s.each due fun s l => s.land q l

/-! ### Numbers (R298, R299) -/

/-- Activation j of a vector. -/
def vecAt (v j : Nat) : Int := signed 12 (bits v (16 * j) 12)

/-- Sum j of a vector of sums. -/
def sumAt (v j : Nat) : Int := signed 32 (bits v (32 * j) 32)

/-- A vector of w-bit elements, each in a container of c bits. -/
def packed (c w : Nat) (l : List Int) : Nat :=
  match l with
  | [] => 0
  | x :: rest => unsigned w x + 2 ^ c * packed c w rest

def vecOf (l : List Int) : Nat := packed 16 12 l
def sumsOf (l : List Int) : Nat := packed 32 32 l

/-- e^(n/256) in 1/2^96, by the bits of n: `b` is e^(2^k/256) for the bit at hand. -/
def expBits (fuel n b acc : Nat) : Nat :=
  match fuel with
  | 0 => acc
  | fuel + 1 => expBits fuel (n / 2) (b * b / 2 ^ 96) (if n % 2 = 1 then acc * b / 2 ^ 96 else acc)

/-- e^(n/256) in 1/2^96 for n below 8,192; the constant is floor(2^96 * e^(1/256)). -/
def expFix (n : Nat) : Nat := expBits 13 n 79538252774825785662640898770 (2 ^ 96)

/-- round(2,047 / (1 + e^(-y/256))) (Table 11-2). -/
def sigmoid (y : Int) : Int :=
  let x := expFix y.natAbs
  let num := if y < 0 then 2 ^ 96 else x
  (((2 * 2047 * num + (x + 2 ^ 96)) / (2 * (x + 2 ^ 96)) : Nat) : Int)

/-- round(2,047 * tanh(y/256)) (Table 11-2). -/
def tanhFix (y : Int) : Int :=
  let x := expFix (2 * y.natAbs)
  let m : Int := (((2 * 2047 * (x - 2 ^ 96) + (x + 2 ^ 96)) / (2 * (x + 2 ^ 96)) : Nat) : Int)
  if y < 0 then -m else m

/-- ACT on one sum (R299). -/
def activate (fn sh : Nat) (sum : Int) : Int :=
  let y := if sh = 0 then sum else fdiv (sum + 2 ^ (sh - 1)) (2 ^ sh)
  let y := clamp (-2048) 2047 y
  match fn with
  | 0 => y
  | 1 => max 0 y
  | 2 => clamp 0 1536 y
  | 3 => sigmoid y
  | 4 => tanhFix y
  | fn => clamp (-2048) 2047 (Config.reservedFn fn y)

/-- One MACT element: the sums plus weight tile times activations (R298). -/
def macVector (tile vec sums : Nat) : Nat :=
  sumsOf ((List.range 8).map fun r =>
    (List.range 8).foldl (fun n c => n + signed 8 (bits tile (64 * r + 8 * c) 8) * vecAt vec c) (sumAt sums r))

/-! ### Operations (R300, R301, R302, Table 11-3) -/

/-- The ring whose span holds a unit (R303). -/
def State.ringAt (s : State) (q u : Nat) : Option Nat :=
  (List.range 16).find? fun r => s.on (R.STB_RING_EN q r) && decide (s.rd (R.STB_RING_BASE q r) ≤ u) &&
    decide (u < s.rd (R.STB_RING_BASE q r) + s.rd (R.STB_RING_SIZE q r))

/-- Unit i of an access that starts at a unit: an activation access that starts inside a ring stays in its span (R303). -/
def State.accessUnit (s : State) (q : Nat) (m : StallMem) (a i : Nat) : Nat :=
  if m = .act then
    match s.ringAt q a with
    | some r => s.ringUnit q r (a - s.rd (R.STB_RING_BASE q r) + i)
    | none => a + i
  else a + i

def opN (w : Nat) : Nat := bits w 0 12
def opRing (w : Nat) : Nat := bits w 21 4
def opK (w : Nat) : Nat := bits w 18 3 + 1

/-- The memory an operation reads by [27:25], and the one it writes by [24:22]. -/
def opSrc (opc w : Nat) : Option StallMem :=
  match opc with
  | 0x3 => some .weight
  | 0x4 => some .act
  | 0x5 => some .psum
  | 0x6 => some .act
  | 0x7 => some .act
  | 0xA => some .act
  | 0xD => some (if bit w 21 then .psum else .act)
  | _ => none

def opDst (opc w : Nat) : Option StallMem :=
  match opc with
  | 0x4 => some .psum
  | 0x5 => some .act
  | 0x6 => some .act
  | 0xD => some (if bit w 21 then .psum else .act)
  | _ => none

/-- The cycles an operation occupies (Table 11-4). -/
def opCycles (opc w : Nat) : Nat :=
  match opc with
  | 0x3 => 2
  | 0x4 => opN w
  | 0x5 => opN w
  | 0x6 => opN w * opK w
  | 0x7 => opN w
  | 0xA => opN w
  | 0xD => opN w
  | _ => 1

/-- The units read: one tile, N vectors, or N * K for POOL. -/
def opReads (opc w : Nat) : Nat := if opc = 0x3 then 1 else opCycles opc w

/-- A context's base and bound in a memory (R302). -/
def State.region (s : State) (q k : Nat) (m : StallMem) : Nat × Nat :=
  match m with
  | .code => (s.rd (R.STB_TASK_C_BASE q k), s.rd (R.STB_TASK_C_BOUND q k))
  | .weight => (s.rd (R.STB_TASK_W_BASE q k), s.rd (R.STB_TASK_W_BOUND q k))
  | .act => (s.rd (R.STB_TASK_A_BASE q k), s.rd (R.STB_TASK_A_BOUND q k))
  | .psum => (s.rd (R.STB_TASK_P_BASE q k), s.rd (R.STB_TASK_P_BOUND q k))
  | .latch => (0, 2)

/-- Register n of a context. -/
def State.areg (s : State) (q k n : Nat) : Nat := mget 0 (s.task q k).ar n

def State.setAreg (s : State) (q k n v : Nat) : State := s.modTask q k fun t => { t with ar := mput 0 t.ar n (v % 65536) }

/-- An operand address: the context's base plus the register (R302). -/
def State.operand (s : State) (q k : Nat) (m : StallMem) (reg : Nat) : Nat := (s.region q k m).1 + s.areg q k reg

/-- Whether an access touches a unit at or beyond the bound (R302). -/
def State.outside (s : State) (q k : Nat) (m : StallMem) (a n : Nat) : Bool :=
  (List.range n).any fun i => decide ((s.region q k m).2 ≤ s.accessUnit q m a i)

/-- The field of STB_CRED that holds a stall's balance toward a direction's ring (R328). -/
def credKey (q dir r : Nat) : Nat := if dir = 0 then R.STB_CRED_UP q r else R.STB_CRED_DOWN q r

/-- The stall a direction leads to. -/
def neighbour (q dir : Nat) : Nat := if dir = 0 then (q + 1) % 4 else (q + 3) % 4

/-- The fault an operation meets as it issues (R302, R304, R331); none when it goes on. -/
def State.opFault (s : State) (q k opc w : Nat) : Option Nat :=
  let n := opN w
  let r := opRing w
  let srcBad := match opSrc opc w with
    | some m => s.outside q k m (s.operand q k m (bits w 25 3)) (opReads opc w)
    | none => false
  let dstBad := match opDst opc w with
    | some m => s.outside q k m (s.operand q k m (bits w 22 3)) n
    | none => false
  if srcBad || dstBad then some 2
  else
    let role := s.rd (R.STB_RING_ROLE q r)
    let fill := s.rd (R.STB_RING_FILL q r)
    let size := s.rd (R.STB_RING_SIZE q r)
    match opc with
    | 0x7 =>
      if s.on (R.STB_RING_EN q r) && role == 3 then some 4
      else if !s.on (R.STB_RING_EN q r) || decide (size < fill + n) then some 3
      else if (List.range n).any fun i =>
          decide (s.rd (R.STB_TASK_A_BOUND q k) ≤ s.ringUnit q r (s.rd (R.STB_RING_HEAD q r) + i)) then some 2
      else none
    | 0x8 =>
      if !s.on (R.STB_RING_EN q r) then some 4
      else if bit w 20 then (if role == 3 || decide (size < fill + n) then some 4 else none)
      else if fill < n then some 4
      else none
    | _ => none

/-- RADV with END 0 on a ROLE 3 ring counts toward credits (R330). -/
def freed (n : Nat) (g : RingSt) : RingSt := { g with count := (g.count + n) % 64, grants := g.grants + (g.count + n) / 64 }

/-- What an operation does as it issues: pointers and balances (R304, R329, R330). -/
def State.opBegin (s : State) (q opc w : Nat) (u : OpRun) : State :=
  let n := opN w
  let r := opRing w
  let s := match opc with
    | 0x7 => (s.ringPush q r n).modStall q fun x => { x with cur := some { u with dst := s.rd (R.STB_RING_HEAD q r) } }
    | 0xA =>
      let dir := b2n (bit w 20)
      let have_ := s.rd (credKey q dir r)
      if n ≤ have_ then (s.wr (credKey q dir r) (have_ - n)).modStall q fun x => { x with cur := some u }
      else
        let unit := 16 * neighbour q dir + r
        let s := s.modStall q fun x => { x with cur := some { u with drop := true } }
        ((s.wrBit R.STB_SP_STAT_CREDIT_FAULT q true).stbNote 16 unit n).fault clDegrade 0x58 16 unit n
    | 0x8 =>
      let s := s.modStall q fun x => { x with cur := some u }
      if bit w 20 then s.ringPush q r n
      else
        let s := s.ringPop q r n
        if s.rd (R.STB_RING_ROLE q r) = 3 then s.modRing q r (freed n) else s
    | _ => s.modStall q fun x => { x with cur := some u }
  s

/-- The units an operation reads in its cycle i. -/
def State.cycleReads (s : State) (q : Nat) (u : OpRun) : List (StallMem × Nat) :=
  let at_ (m : StallMem) (a : Nat) : StallMem × Nat := (m, s.accessUnit q m a u.i)
  match u.opc with
  | 0x4 => at_ .act u.src :: (if bit u.word 21 then [] else [at_ .psum u.dst])
  | 0x5 => [at_ .psum u.src]
  | 0x6 => [at_ .act u.src]
  | 0x7 => [at_ .act u.src]
  | 0xA => if u.drop then [] else [at_ .act u.src]
  | 0xD => [at_ (if bit u.word 21 then .psum else .act) u.src]
  | _ => []

/-- POOL: the vector formed so far with one more input (Table 11-3). -/
def poolStep (mode : Bool) (first : Bool) (acc : List Int) (v : Nat) : List Int :=
  (List.range 8).map fun j =>
    let x := vecAt v j
    if first then x else if mode then acc.getD j 0 + x else max (acc.getD j 0) x

/-- POOL: the vector written. -/
def poolOut (mode : Bool) (k : Nat) (acc : List Int) : Nat := vecOf (acc.map fun x => if mode then roundDiv x k else x)

/-- A write of the operation at hand. -/
def OpRun.write (u : OpRun) (m : StallMem) (unit val : Nat) : OpRun :=
  { u with buf := u.buf ++ [⟨0, m, unit, val, u.ctx, u.pc, none⟩] }

/-- What an operation computes in its cycle i from the units read. -/
def State.cycleWork (s : State) (q : Nat) (u : OpRun) (vals : List Nat) : State × OpRun :=
  let v := vals.headD 0
  let emit (m : StallMem) (val : Nat) : State × OpRun := (s, u.write m (s.accessUnit q m u.dst u.i) val)
  match u.opc with
  | 0x4 => emit .psum (macVector (s.unitAt q .latch (b2n (bit u.word 20))) v (if bit u.word 21 then 0 else vals.getD 1 0))
  | 0x5 => emit .act (vecOf ((List.range 8).map fun j => activate (bits u.word 19 3) (bits u.word 14 5) (sumAt v j)))
  | 0x6 =>
    let k := opK u.word
    let mode := bit u.word 21
    let acc := poolStep mode (u.i % k == 0) u.acc v
    if u.i % k + 1 = k then (s, { u.write .act (s.accessUnit q .act u.dst (u.i / k)) (poolOut mode k acc) with acc := acc })
    else (s, { u with acc := acc })
  | 0x7 => (s, u.write .act (s.ringUnit q (opRing u.word) (u.dst + u.i)) v)
  | 0xA =>
    if u.drop then (s, u)
    else
      let l : Landing := ⟨(s.stall q).cycle + 8, .act, 0, v, u.ctx, u.pc, some (opRing u.word)⟩
      (s.modStall (neighbour q (b2n (bit u.word 20))) fun x => { x with pend := x.pend ++ [l] }, u)
  | 0xD => emit (if bit u.word 21 then .psum else .act) v
  | _ => (s, u)

/-- TLOAD reads its tile: a poisoned block or an uncorrectable word faults the task with WHY 6 (R335, R337). -/
def State.tloadRead (s : State) (q unit : Nat) : Bool × State :=
  let r := (List.range 8).foldl (fun (a : Bool × State) j =>
    let e := a.2.weightWord q (8 * unit + j)
    (a.1 || e.1, e.2)) (false, s)
  (r.1 || (r.2.stall q).poison.contains (unit / 16), r.2)

/-- RWAIT: whether the ring meets the wait. -/
def State.ringMeets (s : State) (q w : Nat) : Bool :=
  let r := opRing w
  if bit w 20 then decide (s.rd (R.STB_RING_FILL q r) + opN w ≤ s.rd (R.STB_RING_SIZE q r))
  else decide (opN w ≤ s.rd (R.STB_RING_FILL q r))

/-- The operation's last cycle is over: registers, the next operation, the end of the tile, and the landing of its writes. -/
def State.opFinish (s : State) (q : Nat) (u : OpRun) : State :=
  let k := u.ctx
  let w := u.word
  let reg := bits w 25 3
  let at_ := (s.stall q).cycle + 6
  let s := s.modStall q fun x => { x with cur := none, pend := x.pend ++ u.buf.map fun l => { l with cycle := at_ } }
  let pc (n : Nat) (s : State) : State := s.wr (R.STB_TASK_PC q k) (n % 4096)
  let next := pc (u.pc + 1)
  match u.opc with
  | 0x1 => next (s.setAreg q k reg (bits w 0 16))
  | 0x2 => next (s.setAreg q k reg (s.areg q k reg + bits w 0 16))
  | 0x3 => next (if bit w 23 then s.setAreg q k reg (s.areg q k reg + 1) else s)
  | 0x9 => if s.ringMeets q w then next s else s.tileEnd q k
  | 0xB =>
    let r := 6 + b2n (bit w 24)
    let v := (s.areg q k r + 65535) % 65536
    let s := s.setAreg q k r v
    if v = 0 then next s else pc (u.pc + 4096 - opN w) s
  | 0xC => ((next s).modTask q k fun t => { t with skip := opN w - 1 }).tileEnd q k
  | 0xE => pc (opN w) s
  | 0xF => ((s.modTask q k fun t => { t with ar := [] }).taskTo q k 2 0).tileEnd q k
  | _ => next s

/-- One cycle of the operation that occupies the stall. -/
def State.opCycle (s : State) (q : Nat) (u : OpRun) : State :=
  let r := s.readUnits q u.ctx u.pc (if u.i < u.len ∧ opCycles u.opc u.word ≠ 0 then s.cycleReads q u else [])
  if r.2.1 then r.2.2.taskFault q u.ctx 5
  else
    let t : Bool × State := if u.opc = 0x3 ∧ u.i = 0 then r.2.2.tloadRead q u.src else (false, r.2.2)
    if t.1 then t.2.taskFault q u.ctx 6
    else
      let s := t.2
      let u := if u.opc = 0x3 ∧ u.i = 0 then u.write .latch (b2n (bit u.word 24)) (s.unitAt q .weight u.src) else u
      let c := if opCycles u.opc u.word = 0 then (s, u) else s.cycleWork q u r.1
      let u : OpRun := { c.2 with i := c.2.i + 1 }
      if u.i < u.len then c.1.modStall q fun x => { x with cur := some u } else c.1.opFinish q u

/-- An operation issues in the stall's present cycle, which it occupies. -/
def State.opStart (s : State) (q k pc opc w : Nat) : State :=
  match s.opFault q k opc w with
  | some why => s.taskFault q k why
  | none =>
    let src := match opSrc opc w with
      | some m => s.operand q k m (bits w 25 3)
      | none => 0
    let dst := match opDst opc w with
      | some m => s.operand q k m (bits w 22 3)
      | none => 0
    let s := s.opBegin q opc w { ctx := k, pc := pc, opc := opc, word := w, len := max 1 (opCycles opc w), src := src, dst := dst }
    match (s.stall q).cur with
    | none => s
    | some u => s.opCycle q u

/-- Fetch the operation at the task's PC; code outside the region faults (R302). -/
def State.opFetch (s : State) (q k : Nat) : State :=
  let pc := s.rd (R.STB_TASK_PC q k)
  let u := s.rd (R.STB_TASK_C_BASE q k) + pc
  if s.rd (R.STB_TASK_C_BOUND q k) ≤ u then s.taskFault q k 2
  else
    let w := s.unitAt q .code u
    s.opStart q k pc (bits w 28 4) w

/-- What the stall does in a cycle that is no gap cycle. -/
def State.stallWork (s : State) (q : Nat) : State :=
  let x := s.stall q
  match x.cur with
  | some u => s.opCycle q u
  | none => match x.order with
    | [] => s
    | k :: _ => if 0 < x.load then s.modStall q fun x => { x with load := x.load - 1 } else s.opFetch q k

/-- One STB cycle of a stall: writes land; in a gap cycle nothing issues and nothing is occupied (R320). -/
def State.stallCycle (s : State) (q : Nat) : State :=
  let s := s.landDue q
  let busy := !(s.stall q).order.isEmpty
  let s := if (s.stall q).cycle % 32 = 31 then s else s.stallWork q
  s.modStall q fun x => { x with cycle := x.cycle + 1, used := if busy then x.cycle + 1 else x.used }

/-- Whether a stall has nothing left to do in this window. -/
def Stall.idle (x : Stall) : Bool := x.order.isEmpty && x.pend.isEmpty && x.cur.isNone

/-- n STB cycles of the four stalls. -/
def State.stallSpan (n : Nat) (s : State) : State :=
  match n with
  | 0 => s
  | n + 1 =>
    if [0, 1, 2, 3].all fun q => (s.stall q).idle then s
    else State.stallSpan n (s.each [0, 1, 2, 3] fun s q => s.stallCycle q)

/-- Cycles of one stall until its operation has ended. -/
def State.opDrain (n q : Nat) (s : State) : State :=
  match n with
  | 0 => s
  | n + 1 => if (s.stall q).cur.isNone then s else State.opDrain n q (s.stallCycle q)

/-- Run one operation of a context to its end, in the cycles after the operation before it (R301). The longest occupies
32,760 cycles and the gaps among them. -/
def State.runOp (s : State) (q k opc w : Nat) : State :=
  let s := State.opDrain 40000 q s
  let s := if (s.stall q).cycle % 32 = 31 then s.modStall q fun x => { x with cycle := x.cycle + 1 } else s
  let s := (s.landDue q).opStart q k (s.rd (R.STB_TASK_PC q k)) opc (w % 2 ^ 28 + 2 ^ 28 * opc)
  State.opDrain 40000 q (s.modStall q fun x => { x with cycle := x.cycle + 1 })

end Sys2Proof.Machine
end

