-- ==== Sys2Proof/Machine/Stable.lean ====
section
/-!
DEFINITION. Sys2Proof/Machine/Stable.lean: tasks, rings, tile release and window close, STB_SVC, the scrubber and row repair,
cache mode, resets, and the writes of the Stable attributes (spec/11_stable_engine.md, spec/12_stable_scratchpad.md).
-/

namespace Sys2Proof.Machine

def stallsAll : List Nat := [0, 1, 2, 3]

/-- Each ring of each stall. -/
def State.eachRing (s : State) (f : State → Nat → Nat → State) : State :=
  s.each stallsAll fun s q => s.each (List.range 16) fun s r => f s q r

/-! ### Memories that lose their content (R316, R322, R334) -/

/-- A stall's memories hold free contents with good check bits; no block is CRC-valid any more (log entry 7). -/
def Stall.lost (epoch : Nat) (x : Stall) : Stall :=
  { x with code := [], weight := [], act := [], psum := [], latch := [], epoch := epoch, epoch7 := epoch, parBad := [],
           wErr := [], blocks := [], rewr := [], tags := [], cache := [] }

def State.stbLose (s : State) : State :=
  let e := s.free
  { s with free := s.free + 1 }.each stallsAll fun s q => s.modStall q (Stall.lost (e + 1))

/-- Bank 7 holds free contents with good parity (R334). -/
def State.bank7Lose (s : State) (q : Nat) : State :=
  let e := s.free
  ({ s with free := s.free + 1 }).modStall q fun x =>
    { x with act := x.act.filter fun c => decide (c.1 < 65536), epoch7 := e + 1,
             parBad := x.parBad.filter fun w => decide (w < 16384 ∨ 24576 ≤ w) }

/-! ### Tile release (R305, R308, R313, R325, R328, R330) -/

/-- The receiving side of a balance: the sender's field for a ROLE 3 ring. -/
def State.senderKey (s : State) (q r : Nat) : Nat :=
  if s.rd (R.STB_RING_SRC q r) = 0 then R.STB_CRED_UP ((q + 3) % 4) r else R.STB_CRED_DOWN ((q + 1) % 4) r

/-- The balance of a ring's sender at tile release: SIZE after an enable, otherwise 64 for each grant. -/
def State.creditRelease (s : State) (q r : Nat) : State :=
  if s.on (R.STB_RING_EN q r) && s.rd (R.STB_RING_ROLE q r) == 3 then
    let g := s.ring q r
    let key := s.senderKey q r
    let bal := if g.fresh then s.rd (R.STB_RING_SIZE q r) else s.rd key + 64 * g.grants
    (s.wr key bal).modRing q r fun g => { g with fresh := false, grants := 0 }
  else s

/-- The pointers that STB_SVC published reach the stall (R305). -/
def State.pointerRelease (s : State) (q r : Nat) : State :=
  let g := s.ring q r
  if g.fed = 0 ∧ g.taken = 0 then s
  else
    let s := (s.ringPush q r g.fed).when (decide (0 < g.taken)) fun s => s.ringPop q r g.taken
    s.modRing q r fun g => { g with pub := g.pub + g.fed, fed := 0, taken := 0 }

/-- Pause from the highest RUNNING context until the RUNNING tasks fit (R313). -/
def State.pauseOver (s : State) (q : Nat) : State :=
  s.each [3, 2, 1, 0] fun s k =>
    if s.rd (R.STB_TASK_STATE q k) == 3 && decide (s.stbWindow < s.budgets q (s.tasksIn q [3])) then s.taskTo q k 4 0 else s

/-- Resume PAUSED tasks in context order while each still fits (R313). -/
def State.resumeFit (s : State) (q : Nat) (l : List Nat) : State :=
  match l with
  | [] => s
  | k :: rest =>
    if s.budgets q (s.tasksIn q [3]) + s.rd (R.STB_TASK_BUDGET q k) ≤ s.stbWindow then (s.taskTo q k 3 0).resumeFit q rest else s

/-- The commitment against W (R313). -/
def State.throttleTasks (s : State) (q : Nat) : State :=
  let s := if s.stbWindow < s.commitment q then s.pauseOver q else s
  if s.stb.wWas < s.stbWindow then s.resumeFit q (s.tasksIn q [4]) else s

/-- The global tick count (11_stable_engine.md, "Running tasks"). -/
def State.globalTick (s : State) : Nat := s.stage % 2 ^ 32 * 1024 + s.tpos

/-- Whether a RUNNING task is due in this tick (R308). -/
def State.taskDue (s : State) (q k : Nat) : Bool :=
  s.rd (R.STB_TASK_STATE q k) == 3 && s.globalTick % s.rd (R.STB_TASK_RATE q k) == s.rd (R.STB_TASK_PHASE q k)

/-- A due task that WAITT holds lets this due tick pass (Table 11-3). -/
def State.takeDue (s : State) (q k : Nat) : State :=
  if s.taskDue q k then
    if 0 < (s.task q k).skip then s.modTask q k fun t => { t with skip := t.skip - 1 }
    else s.modStall q fun x => { x with order := x.order ++ [k] }
  else s

/-- A stall is released: its due tasks run in context order (R308). -/
def State.stallRelease (s : State) (q : Nat) : State :=
  let s := s.throttleTasks q
  let s := s.modStall q fun x => { x with order := [], cycle := 0, used := 0, load := 0, cur := none }
  (s.each [0, 1, 2, 3] fun s k => s.takeDue q k).tileStart q

/-- A written audit enable takes effect; every unit then starts unfilled (R325). -/
def State.auditRelease (s : State) : State :=
  match s.stb.auditDue with
  | none => s
  | some on =>
    let s := { s with stb.auditDue := none }
    let s := s.each stallsAll fun s q => s.modStall q fun x => { x with tags := [] }
    ((s.wrB R.STB_SP_STAT_AUDIT on).wrB R.SEC_STAT_AUDIT on).recert

/-- Tile release at the start of slot 16 (R305, R308). -/
def State.stbRelease (s : State) : State :=
  if s.on R.STB_STAT_OFF then s
  else
    let s := { s.auditRelease with stb.window := true }
    let s := (s.eachRing State.creditRelease).eachRing State.pointerRelease
    let s := s.each stallsAll State.stallRelease
    { s with stb.wWas := s.stbWindow }

/-! ### Window close (R305, R311, R341) -/

/-- Whether a stall has not reached its tick boundary. -/
def State.stbLate (s : State) : Bool := stallsAll.any fun q => !(s.stall q).order.isEmpty

/-- The guard fires for a stall that has not reached its tick boundary (R311). -/
def State.stallOverrun (s : State) (q : Nat) : State :=
  match (s.stall q).order with
  | [] => s
  | k :: rest =>
    let s := s.modStall q fun x =>
      { x with order := [], cur := none, pend := x.pend.filter fun l => decide (l.ring.isSome ∨ l.ctx ≠ k) }
    let s := (s.taskTo q k 5 1).stopDone q k
    s.each rest fun s k => s.count (R.STB_TASK_SKIPPED q k) 0xFFFF 1

def State.stbOverrun (s : State) : State := s.each stallsAll State.stallOverrun

/-- Each stall publishes its pointers (R305). -/
def State.pointerPublish (s : State) (q r : Nat) : State :=
  if s.on (R.STB_RING_EN q r) then s.modRing q r fun g => { g with pub := s.rd (R.STB_RING_FILL q r) - g.taken } else s

/-- A row whose map commit has ended is copied to its spare with corrections applied, and the spare takes its place; STB_NOTE
kind 19 (R341). -/
def State.rowCopy (s : State) (q : Nat) : State :=
  let due := (s.stall q).copyDue
  let s := s.modStall q fun x => { x with copyDue := [] }
  s.each due fun s e =>
    let data := rowData e.1 + 4096 * (e.2 % 8)
    let s := s.modStall q fun x =>
      { x with mapped := mins x.mapped e.1 e.2, wErr := x.wErr.filter fun w => !(wordRow w.1 == e.1 && w.2 == 1) }
    (s.stbNote 19 q data).fault clNote 0x58 19 q data

/-- CRC-32 of a weight block as stored (R335). -/
def State.blockCrc (s : State) (q b : Nat) : Nat := crc32 ((s.stall q).bytesAt q .weight (1024 * b) 1024)

/-- The scrubber reads the next word (R336, R340): a correction is written back; a row corrected in 3 passes is put forward. -/
def State.scrubWord (s : State) (q : Nat) : State :=
  let w := (s.stall q).scrub
  let corrected := mget? (s.stall q).wErr w == some 1
  let s := (s.weightWord q w).2
  let s := if corrected then
      let row := wordRow w
      let x := s.stall q
      let seen := mget [] x.corrPass row
      let seen := if seen.contains x.pass then seen else seen ++ [x.pass]
      let s := s.modStall q fun x => { x with wErr := mdel x.wErr w, corrPass := mput [] x.corrPass row seen }
      if 3 ≤ seen.length then s.rowRequest q row else s
    else s
  let b := wordBlock w
  let s := match (if w % 128 = 127 then mget? (s.stall q).blocks b else none) with
    | none => s
    | some crc => if s.blockCrc q b = crc then s else (s.count (R.STB_SP_CRC_ERR q) 0xFFFF 1).poisonBlock q b
  if w + 1 = 20480 then (s.modStall q fun x => { x with scrub := 0, pass := x.pass + 1 }).wrap (R.STB_SP_PASSES q) 65536 1
  else s.modStall q fun x => { x with scrub := w + 1 }

/-- The words that the scrubber of a stall reads in a tick, one in 1,024 STB cycles (R336). With no word in error and no
block CRC-valid only its place moves. -/
def State.scrubTick (s : State) (q : Nat) : State :=
  let total := (s.stall q).scrubCyc + 96000 * (4 - s.rd R.STB_STAT_SKIPQ)
  let n := total / 1024
  let s := s.modStall q fun x => { x with scrubCyc := total % 1024 }
  if (s.stall q).wErr.isEmpty && (s.stall q).blocks.isEmpty then
    let at_ := (s.stall q).scrub + n
    (s.modStall q fun x => { x with scrub := at_ % 20480, pass := x.pass + at_ / 20480 }).wrap (R.STB_SP_PASSES q) 65536 (at_ / 20480)
  else times n (fun s => s.scrubWord q) s

/-- The stall window closes: a stall not at its boundary is overrun, what is on its way lands, the pointers are published and
repaired rows are copied (R305, R311, R341). -/
def State.stbClose (s : State) : State :=
  if s.stb.window then
    let s := s.stbOverrun
    let s := s.each stallsAll fun s q => (s.landAll q).wr (R.STB_STALL_LAST q) (s.stall q).used
    let s := (s.eachRing State.pointerPublish).each stallsAll State.rowCopy
    { s with stb.window := false }
  else s

/-! ### STB_SVC (R305, R314, R315) -/

/-- The 12-bit activation nearest to a number (R3). -/
def toAct (v : Int) : Int := clamp (-2048) 2047 v

/-- A vector of 8 activations from a list, padded with zeros. -/
def vectorsOf (l : List Int) : List Nat :=
  (List.range ((l.length + 7) / 8)).map fun v => vecOf ((List.range 8).map fun j => (l.getD (8 * v + j) 0))

/-- A result for a disabled zone or a zone beyond 47 is discarded (R315). -/
def State.resultLost (s : State) (zone : Nat) : State :=
  ((s.count R.STB_STAT_BADREC 0xFFFF 1).stbNote 3 zone 0).fault clNote 0x58 3 zone 0

/-- Deliver one element to a zone (R315). -/
def State.deliver (s : State) (q r zone : Nat) (a : Int) : State :=
  if decide (47 < zone) || !s.zoneOn zone then s.resultLost zone
  else match s.rd (R.STB_RING_RKIND q r) with
    | 1 => (s.wr (R.ZON_INPUT_OCC_SCORE zone) (2 * a.toNat)).modZone zone fun z => { z with scoreAt := some s.stage }
    | 2 => if 0 < a then s.modZone zone fun z => { z with presence := true } else s
    | _ => s.modZone zone fun z => { z with lead := some (a.toNat * s.rd (R.STB_RING_LSCALE q r), s.stage) }

/-- Read a result vector: one with bad parity is discarded (R338). -/
def State.takeVector (s : State) (q r i : Nat) : Option Nat × State :=
  let u := s.ringUnit q r (s.rd (R.STB_RING_TAIL q r) + (s.ring q r).taken + i)
  let s := s.tagRead q 0 0 .act u false
  if s.parityBad q .act u then (none, (s.parityFound q .act u).fault clNote 0x58 21 q u)
  else (some (s.unitAt q .act u), s)

/-- The vectors of a result, those with bad parity left out. -/
def State.takeVectors (s : State) (q r n : Nat) : List Nat × State :=
  (List.range n).foldl (fun a i =>
    let e := a.2.takeVector q r i
    (a.1 ++ e.1.toList, e.2)) ([], s)

/-- Empty an output ring, up to 32 vectors (R315, R318). -/
def State.ringDeliver (s : State) (q r : Nat) : State :=
  let n := min 32 (s.ring q r).pub
  if s.on (R.STB_RING_EN q r) && s.rd (R.STB_RING_ROLE q r) == 2 && decide (0 < n) then
    let v := s.takeVectors q r n
    let s := v.2.modRing q r fun g => { g with taken := g.taken + n, pub := g.pub - n }
    if s.rd (R.STB_RING_SRC q r) = 1 then
      s.each v.1 fun s x => s.each (List.range (s.rd (R.STB_RING_ZCOUNT q r) + 1)) fun s j =>
        s.deliver q r (s.rd (R.STB_RING_ZBASE q r) + j) (vecAt x j)
    else if v.1.isEmpty then s
    else s.event 0x59 (le 1 q ++ le 1 r ++ le 1 v.1.length ++ le 1 0 ++ v.1.flatMap (le 16))
  else s

/-- The vectors an input ring has room for (R314). -/
def State.inputFree (s : State) (q r : Nat) : Nat := s.rd (R.STB_RING_SIZE q r) - (s.ring q r).pub - (s.ring q r).fed

/-- STB_SVC writes vectors beyond the head, visible from the next tile release (R305). -/
def State.feedRing (s : State) (q r : Nat) (vecs : List Nat) : State :=
  let base := s.rd (R.STB_RING_HEAD q r) + (s.ring q r).fed
  let s := s.each (List.range vecs.length) fun s i =>
    let u := s.ringUnit q r (base + i)
    (s.tagWrite q 0 0 .act u).modStall q fun x => x.putUnit .act u (vecs.getD i 0)
  s.modRing q r fun g => { g with fed := g.fed + vecs.length }

/-- Write an input set, or drop it: DROPPED, STB_NOTE kind 2 (R314). -/
def State.inputSet (s : State) (q r : Nat) (vecs : List Nat) : State :=
  if vecs.length ≤ s.inputFree q r then s.feedRing q r vecs
  else ((s.count (R.STB_RING_DROPPED q r) 255 1).stbNote 2 (16 * q + r) 0).fault clNote 0x58 2 (16 * q + r) 0

/-- Whether a ring is an enabled input of a source. -/
def State.isInput (s : State) (q r src : Nat) : Bool :=
  s.on (R.STB_RING_EN q r) && s.rd (R.STB_RING_ROLE q r) == 1 && s.rd (R.STB_RING_SRC q r) == src

/-- An STB_FEED is written, or ends with QUEUE_FULL (R314). -/
def State.feedRun (s : State) (f : FeedReq) : State :=
  let vecs := (List.range (f.data.length / 16)).map fun i => ofLe (sub f.data (16 * i) 16)
  if !s.isInput f.stall f.ring 0 then s.finish f.cmd stNotPermitted
  else if vecs.length ≤ s.inputFree f.stall f.ring then (s.feedRing f.stall f.ring vecs).ok f.cmd
  else s.finish f.cmd stQueueFull

/-- The words of an array frame as activations (R314). -/
def frameVectors (b : Bytes) (shift : Nat) : List Nat :=
  vectorsOf ((List.range (b.length / 2)).map fun w => toAct (fdiv (signed 16 (u16 b (2 * w))) (2 ^ shift)))

/-- The 24 vectors of zone telemetry (R314). -/
def State.telemetry (s : State) : List Nat :=
  let set (f : Nat → Int) : List Int := (List.range 48).map fun z => if s.zoneOn z then f z else 0
  vectorsOf (set (fun z => toAct ((s.rd (R.ZON_STAT_TEMP z) : Int) - 0x400)) ++
    set (fun z => toAct ((s.rd (R.ZON_SETPT_EFF z) : Int) - 0x400)) ++ set (fun z => s.rd (R.ZON_STAT_DUTY z) / 2) ++
    set fun z => s.rd (R.ZON_STAT_T_VALID z))

/-- The inputs of one ring in an STB_SVC run. -/
def State.ringInput (s : State) (q r : Nat) : State :=
  if s.isInput q r 1 then
    match (s.dev (s.rd (R.STB_RING_DEV q r))).frame with
    | some b => s.inputSet q r (frameVectors b (s.rd (R.STB_RING_IN_SHIFT q r)))
    | none => s
  else if s.isInput q r 2 && decide (s.tpos = 0) then s.inputSet q r s.telemetry
  else s

/-- The STB_SVC job: deliver the results published at the last window close, then write inputs (Table 11-6). -/
def State.stbSvc (s : State) : State :=
  if s.on R.STB_STAT_OFF then s
  else
    let s := s.eachRing State.ringDeliver
    let feeds := s.stb.feeds
    let s := ({ s with stb.feeds := [] }).each feeds State.feedRun
    let s := s.eachRing State.ringInput
    s.each (List.range 16) fun s d => if (s.dev d).frame.isSome then s.modDev d fun x => { x with frame := none } else s

/-! ### Modes and resets (R316, R343) -/

/-- A task becomes EMPTY: what it had received, its registers and its pending stop are gone. -/
def State.taskEmpty (s : State) (q k why : Nat) : State :=
  let refs := (s.task q k).stop
  let s := (s.modTask q k fun _ => {}).taskTo q k 0 why
  s.each refs fun s r => s.finish r stAborted

/-- Nothing runs any more. -/
def State.stallsHalt (s : State) : State :=
  { s.each stallsAll fun s q => s.modStall q fun x => { x with order := [], cur := none, pend := [], load := 0 } with stb.window := false }

/-- Entry to Freewheel or limp mode: every task is EMPTY with WHY 8 and the memories lose their content (R316). -/
def State.stbOff (s : State) : State :=
  let s := s.stallsHalt
  let s := s.each stallsAll fun s q => s.each [0, 1, 2, 3] fun s k => s.taskEmpty q k 8
  let feeds := s.stb.feeds
  let s := { s with stb.feeds := [] }.each feeds fun s f => s.finish f.cmd stNotPermitted
  s.stbLose.wr R.STB_STAT_OFF 1

/-- Stable works again on return to Run. -/
def State.stbOn (s : State) : State := s.wr R.STB_STAT_OFF 0

/-- PWR_SUBSYS_RESET unit 0x05: tasks EMPTY, ring pointers at 0, credits cleared; RW fields are kept (R316, R328). -/
def State.stbUnitReset (s : State) : State :=
  let s := s.stallsHalt
  let s := s.each stallsAll fun s q => s.each [0, 1, 2, 3] fun s k => s.taskEmpty q k 0
  s.eachRing fun s q r =>
    ((s.wrs [(R.STB_RING_HEAD q r, 0), (R.STB_RING_TAIL q r, 0), (R.STB_RING_FILL q r, 0), (R.STB_CRED_UP q r, 0),
      (R.STB_CRED_DOWN q r, 0)]).modRing q r fun _ =>
        { fresh := s.on (R.STB_RING_EN q r) && s.rd (R.STB_RING_ROLE q r) == 3 })

/-- A hub reset: everything but the attributes, which return to Reset (R316, R322, R335). -/
def State.stbReset (s : State) : State := { s with stb := {} }.stbLose

/-- A repair-map entry at boot: spare i is in use when bit 7 of its byte is 0; a spare the fuses have used is ignored (R343). -/
def State.mapEntry (s : State) (q : Nat) (page : Bytes) (i : Nat) : State :=
  let e := u8 page (4 + i)
  if e < 128 then
    if bits (s.rd (R.STB_SP_SPARES q)) (4 * (i / 8)) 4 ≤ i % 8 then (s.stbNote 23 q 1).fault clDegrade 0x58 23 q 1
    else s.modStall q fun x => { x with mapped := mins x.mapped (128 * (i / 8) + e) i }
  else s

/-- Boot applies each stall's repair map, or ignores it (R343). -/
def State.stbBoot (s : State) : State :=
  s.each stallsAll fun s q =>
    let page := s.page (0x8A0 + q)
    if erasedPage page then s
    else if crc16 (sub page 0 62) = ofBe (sub page 62 2) then s.each (List.range 40) fun s i => s.mapEntry q page i
    else (s.stbNote 23 q 0).fault clDegrade 0x58 23 q 0

/-! ### Narrow accesses (R321, R333, R335, R338) -/

/-- Where a narrow access lands: the memory and the byte address (Table 18-3). -/
def narrowPlace (addr : Nat) : Option (StallMem × Nat) :=
  if addr < 0x28000 then some (.weight, addr)
  else if 0x40000 ≤ addr ∧ addr < 0x58000 then some (.act, addr - 0x40000)
  else if 0x60000 ≤ addr ∧ addr < 0x70000 then some (.psum, addr - 0x60000)
  else none

/-- A narrow read: its data, and none when an uncorrectable weight word is found. -/
def State.narrowRead (s : State) (q addr : Nat) (tag : Bool) : Option Nat × State :=
  match narrowPlace addr with
  | none => (none, s)
  | some (m, a) =>
    let v := ofLe ((s.stall q).bytesAt q m (a / 4 * 4) 4)
    if m = .weight then
      let r := s.weightWord q (a / 8)
      (if r.1 then none else some v, r.2)
    else
      let u := a / unitBytes m
      let s := if tag then s.tagRead q 0 0 m u false else s
      let s := if tag && (s.stall q).parBad.contains ((if m = .psum then 24576 else 0) + a / 4) then s.parityFound q m u else s
      (some v, s)

/-- A narrow write of 32 bits; weight memory is written only by STB_LOAD_DATA (12_stable_scratchpad.md, "Protection"). -/
def State.narrowWrite (s : State) (q addr v : Nat) (tag : Bool) : State :=
  match narrowPlace addr with
  | none => s
  | some (m, a) =>
    if m = .weight then s
    else
      let s := if tag then s.tagWrite q 0 0 m (a / unitBytes m) else s
      s.modStall q fun x => x.putBytes m (a / 4 * 4) (le 4 v)

/-- The way of a line in its set of the cache: entries are numbered 4 * set + way (R333). -/
def cacheEntry (x : Stall) (line : Nat) : Option Nat :=
  ((List.range 4).map fun w => 4 * (line % 256) + w).find? fun e => mget? x.cache e == some line

/-- The parity words of a cache entry in bank 7. -/
def entryWords (e : Nat) : List Nat := (List.range 8).map (16384 + 8 * e + ·)

/-- A cached access of core s mod 2 to system SRAM (R333): a hit with good parity counts in HITS; otherwise a read fills a line.
It writes through and does not allocate on a write. -/
def State.cacheAccess (s : State) (q addr : Nat) (write : Option Nat) : State :=
  if !(bit (s.rd R.STB_CACHE_ACTIVE) q) || decide (0xC0000 ≤ addr) then s
  else
    let line := addr / 32
    let s := match write with
      | some v => { s with dbg.sram := cellsPut 0 s.dbg.sram (addr / 4 * 4) (le 4 v) }
      | none => s
    let hit := cacheEntry (s.stall q) line
    let bad := match hit with
      | some e => (entryWords e).any fun w => (s.stall q).parBad.contains w
      | none => false
    let s := s.when bad fun s => s.count R.STB_CACHE_PAR 0xFFFF 1
    if hit.isSome && !bad then s.count R.STB_CACHE_HITS 0xFFFF 1
    else
      let s := s.count R.STB_CACHE_MISSES 0xFFFF 1
      if write.isSome then s
      else
        let w := s.draw 2
        let e := hit.getD (4 * (line % 256) + w.1)
        w.2.modStall q fun x =>
          { x with cache := mins x.cache e line, parBad := x.parBad.filter fun p => !((entryWords e).contains p) }

/-- A write to system SRAM by another master invalidates matching lines (R333). -/
def State.cacheInvalidate (s : State) (addr : Nat) : State :=
  s.each stallsAll fun s q =>
    if (s.stall q).cache.any fun e => e.2 == addr / 32 then
      s.modStall q fun x => { x with cache := x.cache.filter fun e => e.2 != addr / 32 }
    else s

/-! ### Cache mode (R332, R334) -/

/-- Whether switching on is refused. -/
def State.cacheRefused (s : State) (q : Nat) : Bool :=
  ((s.tasksIn q [1, 3, 4]).any fun k => decide (4096 < s.rd (R.STB_TASK_A_BOUND q k))) ||
    (List.range 16).any fun r => s.on (R.STB_RING_EN q r) && decide (4096 < s.rd (R.STB_RING_BASE q r) + s.rd (R.STB_RING_SIZE q r))

/-- The switch of one stall at the lap edge (R332, R334). -/
def State.cacheSwitchStall (s : State) (q : Nat) : State :=
  if bit (s.rd R.STB_CACHE_PEND) q then
    let s := s.wrBit R.STB_CACHE_PEND q false
    if bit (s.rd R.STB_CACHE_EN) q then
      if s.cacheRefused q then (s.wrBit R.STB_CACHE_EN q false).stbNote 24 q 2
      else ((s.wrBit R.STB_CACHE_ACTIVE q true).bank7Lose q |>.modStall q fun x => { x with cache := [] }).stbNote 24 q 1
    else
      (((s.wrBit R.STB_CACHE_ACTIVE q false).bank7Lose q).modStall q fun x => { x with cache := [] }).stbNote 24 q 0
  else s

def State.cacheSwitch (s : State) : State := s.each stallsAll State.cacheSwitchStall

/-! ### Attribute writes (R302, R303, R308, R325, R327, R328, R332) -/

/-- Whether a value's task regions are refused: a base above its bound, or a bound above the memory (R302). -/
def State.regionRefused (s : State) (q v : Nat) : Bool :=
  let cached := bit (s.rd R.STB_CACHE_ACTIVE) q
  let bad (b bw t tw top : Nat) : Bool := decide (bits v t tw < bits v b bw) || decide (top < bits v t tw)
  bad 64 12 80 13 4096 || bad 96 12 112 12 2560 || bad 128 13 144 13 (if cached then 4096 else 6144) || bad 160 12 176 12 2048

/-- Whether a ring value is refused (R303, R327, Table 11-11). -/
def State.ringRefused (s : State) (q r v : Nat) : Bool :=
  let role := bits v 1 2
  let src := bits v 3 3
  let base := bits v 32 13
  let size := bits v 48 13
  let top := if bit (s.rd R.STB_CACHE_ACTIVE) q then 4096 else 6144
  decide (2 < src) || (decide (2 ≤ role) && src == 2) || bits v 13 2 == 0 || decide (47 < bits v 15 6) ||
    decide (47 < bits v 15 6 + bits v 21 3) || bits v 24 5 == 0 || (role == 3 && (size == 0 || size % 64 != 0)) ||
    (bit v 0 && (size == 0 || decide (top < base + size) || (List.range 16).any fun o =>
      o != r && s.on (R.STB_RING_EN q o) && decide (base < s.rd (R.STB_RING_BASE q o) + s.rd (R.STB_RING_SIZE q o)) &&
        decide (s.rd (R.STB_RING_BASE q o) < base + size)))

/-- BAD_PARAM of a write. -/
def State.stbCheck (s : State) (id v : Nat) : Nat :=
  let bad := if 0x5810 ≤ id ∧ id < 0x5820 then
      bits v 32 11 == 0 || decide (1024 < bits v 32 11) || decide (bits v 32 11 ≤ bits v 48 10) || s.regionRefused ((id - 0x5810) / 4) v
    else if 0x5820 ≤ id ∧ id < 0x5860 then s.ringRefused ((id - 0x5820) / 16) ((id - 0x5820) % 16) v
    else false
  if bad then stBadParam else stOk

/-- The region fields of a task's value. -/
def regionBits (v : Nat) : Nat := bits v 64 128

/-- Whether the state allows a write. -/
def State.stbPermits (s : State) (id v : Nat) : Bool :=
  if 0x5810 ≤ id ∧ id < 0x5820 then
    let st := s.rd (R.STB_TASK_STATE ((id - 0x5810) / 4) ((id - 0x5810) % 4))
    !([1, 3, 4].contains st) || regionBits v == regionBits (s.attrRaw id)
  else if 0x5820 ≤ id ∧ id < 0x5860 then
    let q := (id - 0x5820) / 16
    !((s.tasksIn q [3, 4]).any fun k => bit (s.task q k).rings ((id - 0x5820) % 16))
  else true

/-- A ring is enabled: its pointers start at 0, and a ROLE 3 ring's sender gets its balance at the next tile release. -/
def State.ringStart (s : State) (q r : Nat) : State :=
  (s.wrs [(R.STB_RING_HEAD q r, 0), (R.STB_RING_TAIL q r, 0), (R.STB_RING_FILL q r, 0)]).modRing q r fun _ =>
    { fresh := s.rd (R.STB_RING_ROLE q r) == 3 }

/-- The balances toward a ring are 0 at once when it is disabled (R328). -/
def State.ringStop (s : State) (q r : Nat) : State :=
  (s.wrs [(R.STB_CRED_UP ((q + 3) % 4) r, 0), (R.STB_CRED_DOWN ((q + 1) % 4) r, 0)]).modRing q r fun _ => {}

/-- A written audit enable waits for the next tile release; setting it leaves the certified configuration (R325, R419). -/
def State.auditHook (s : State) : State := { s with stb.auditDue := some (s.on R.STB_AUDIT_EN) }.recert

/-- A written cache enable waits for the next lap edge (R332). -/
def State.cacheHook (s : State) : State := s.wr R.STB_CACHE_PEND (s.rd R.STB_CACHE_EN ^^^ s.rd R.STB_CACHE_ACTIVE)

/-- After a write: `old` is the attribute's value before it. -/
def State.stbHook (s : State) (id old : Nat) : State :=
  if 0x5820 ≤ id ∧ id < 0x5860 then
    let q := (id - 0x5820) / 16
    let r := (id - 0x5820) % 16
    let now := s.attrRaw id
    let same := decide (bits now 0 6 = bits old 0 6) && decide (bits now 32 32 = bits old 32 32)
    if same then s
    else
      let s := if bit old 0 then s.ringStop q r else s
      if bit now 0 then s.ringStart q r else s
  else if id = 0x5881 then s.cacheHook
  else if id = 0x5882 then s.auditHook
  else s

/-! ### Opcodes (R306, R307, R310, R317) -/

/-- The reserved bits of each operation (R300). -/
def opReserved (opc : Nat) : Nat :=
  [0x0FFFFFFF, 0x01FF0000, 0x01FF0000, 0x007FFFFF, 0x000FF000, 0x00003000, 0x0003F000, 0x001FF000, 0x0E0FF000, 0x0E0FF000,
   0x000FF000, 0x0EFFF000, 0x0FFFF000, 0x001FF000, 0x0FFFF000, 0x0FFFFFFF].getD opc 0

/-- Whether operation `i` of a program of `len` operations is refused at load (R300, R307). -/
def opRefused (len i w : Nat) : Bool :=
  let opc := bits w 28 4
  decide (w &&& opReserved opc ≠ 0) || ([4, 5, 6, 7, 8, 9, 10, 13].contains opc && opN w == 0) ||
    (opc == 5 && decide (4 < bits w 19 3)) || (opc == 0xB && decide (i < opN w)) || (opc == 0xE && decide (len ≤ opN w)) ||
    (i + 1 == len && !([0xE, 0xF].contains opc))

/-- Two bytes name a stall and a context. -/
def stallCtx (p : Bytes) : Bool × Nat := param (decide (3 < u8 p 0 ∨ 3 < u8 p 1))

/-- Whether a header is refused (R306, R307). -/
def State.headerRefused (s : State) (q k : Nat) (h : Bytes) : Bool :=
  let size (m : StallMem) : Nat := (s.region q k m).2 - (s.region q k m).1
  u32 h 0 != 0x314C4146 || u8 h 4 != 1 || u32 h 60 != crc32 (h.take 60) || decide (u16 h 6 ≤ u16 h 22) ||
    decide (168000 < u32 h 16) || decide (size .code < u16 h 6) || decide (size .weight * 64 < u32 h 8) ||
    decide (size .act < u16 h 12) || decide (size .psum < u16 h 14)

def State.doStbLoadBegin (s : State) (r : Ref) (p : Bytes) : State :=
  let q := u8 p 0
  let k := u8 p 1
  let h := p.drop 2
  s.checked r [lengthIs p 66, stallCtx p, param (s.headerRefused q k h),
    permitted (!s.on R.STB_STAT_OFF && !([1, 3, 4].contains (s.rd (R.STB_TASK_STATE q k))))] fun s =>
    let s := (s.modTask q k fun _ => { rings := u16 h 20, entry := u16 h 22, codeLen := u16 h 6, wLen := u32 h 8, crc := u32 h 56 }).wrs
      [(R.STB_TASK_KIND q k, u8 h 5 % 16), (R.STB_TASK_BUDGET q k, u32 h 16), (R.STB_TASK_PC q k, 0)]
    (s.taskTo q k 1 0).ok r

/-- The length of a task's image after the header. -/
def imageLen (t : Task) : Nat := 4 * t.codeLen + t.wLen

/-- Image bytes are written: code at C_BASE, weights at W_BASE (R306, R307). A block being rewritten is not CRC-valid until
STB_LOAD_END. -/
def State.loadBytes (s : State) (q k off : Nat) (b : Bytes) : State :=
  let code := 4 * (s.task q k).codeLen
  let c := b.take (code - off)
  let w := b.drop (code - off)
  let wAt := 64 * s.rd (R.STB_TASK_W_BASE q k) + (off - code)
  let s := s.modStall q fun x => x.putBytes .code (4 * s.rd (R.STB_TASK_C_BASE q k) + off) c
  let s := if w.isEmpty then s
    else s.modStall q fun x =>
      { x.putBytes .weight wAt w with
        blocks := x.blocks.filter fun e => !(decide (wAt < 1024 * (e.1 + 1)) && decide (1024 * e.1 < wAt + w.length)) }
  s.modTask q k fun t => { t with image := t.image ++ b }

def State.doStbLoadData (s : State) (r : Ref) (p : Bytes) : State :=
  let q := u8 p 0
  let k := u8 p 1
  let b := p.drop 6
  let t := s.task q k
  let loading := s.rd (R.STB_TASK_STATE q k) == 1
  s.checked r [(decide (p.length < 7 ∨ 4006 < p.length), stBadLength), stallCtx p,
    param (loading && decide (u32 p 2 ≠ t.image.length ∨ imageLen t < u32 p 2 + b.length)),
    permitted (!s.on R.STB_STAT_OFF && loading)] fun s => (s.loadBytes q k (u32 p 2) b).ok r

/-- The first operation of an image that is refused. -/
def badOp (t : Task) : Option Nat :=
  (List.range t.codeLen).find? fun i => opRefused t.codeLen i (u32 t.image (4 * i))

/-- STB_LOAD_END marks the blocks that the load wrote CRC-valid; a poisoned block whose 16 tiles have all been rewritten is
poisoned no more (R335, R337). -/
def State.loadBlocks (s : State) (q k : Nat) : State :=
  let base := s.rd (R.STB_TASK_W_BASE q k)
  let n := (s.task q k).wLen / 64
  if n = 0 then s
  else
    let tiles := (List.range n).map (base + ·)
    let blocks := (List.range ((base + n - 1) / 16 + 1 - base / 16)).map (base / 16 + ·)
    let s := s.modStall q fun x =>
      { x with rewr := x.rewr ++ tiles.filter fun t => x.poison.contains (t / 16) && !(x.rewr.contains t),
               blocks := blocks.foldl (fun m b => mins m b (crc32 (x.bytesAt q .weight (1024 * b) 1024))) x.blocks }
    let clean (x : Stall) (b : Nat) : Bool := blocks.contains b && (List.range 16).all fun i => x.rewr.contains (16 * b + i)
    (s.modStall q fun x =>
      { x with poison := x.poison.filter fun b => !(clean x b), rewr := x.rewr.filter fun t => !(clean x (t / 16)) }).poisonShow q

def State.doStbLoadEnd (s : State) (r : Ref) (p : Bytes) : State :=
  let q := u8 p 0
  let k := u8 p 1
  s.checked r [lengthIs p 2, stallCtx p, permitted (!s.on R.STB_STAT_OFF && s.rd (R.STB_TASK_STATE q k) == 1)] fun s =>
    let t := s.task q k
    let fail (i : Nat) : State := ((s.modTask q k fun _ => {}).taskTo q k 0 0).finish r stBadParam (le 2 i)
    if t.image.length ≠ imageLen t ∨ crc32 t.image ≠ t.crc then fail 0xFFFF
    else match badOp t with
      | some i => fail i
      | none => (((s.loadBlocks q k).modTask q k fun t => { t with image := [] }).taskTo q k 2 0).ok r

/-- Whether the rings of a program are enabled inside its activation region (R310). -/
def State.ringsReady (s : State) (q k : Nat) : Bool :=
  (List.range 16).all fun r => !(bit (s.task q k).rings r) ||
    (s.on (R.STB_RING_EN q r) && decide (s.rd (R.STB_TASK_A_BASE q k) ≤ s.rd (R.STB_RING_BASE q r)) &&
      decide (s.rd (R.STB_RING_BASE q r) + s.rd (R.STB_RING_SIZE q r) ≤ s.rd (R.STB_TASK_A_BOUND q k)))

/-- STB_TASK_START clears W and R in the task's regions (R325). -/
def State.clearTags (s : State) (q k : Nat) : State :=
  let a := s.region q k .act
  let p := s.region q k .psum
  let inside (i : Nat) : Bool := (decide (a.1 ≤ i) && decide (i < min 6144 a.2)) || (decide (6144 + p.1 ≤ i) && decide (i < 6144 + p.2))
  s.modStall q fun x => { x with tags := x.tags.foldl (fun m e =>
    if inside e.1 then mput {} m e.1 ⟨false, false, e.2.gen⟩ else mput {} m e.1 e.2) [] }

def State.doStbTaskStart (s : State) (r : Ref) (p : Bytes) : State :=
  let q := u8 p 0
  let k := u8 p 1
  let st := s.rd (R.STB_TASK_STATE q k)
  let startable := st == 2 || (st == 5 && s.rd (R.STB_TASK_WHY q k) != 6)
  s.checked r [lengthIs p 2, stallCtx p, param (!(s.ringsReady q k)),
    permitted (!s.on R.STB_STAT_OFF && startable && decide (s.commitment q + s.rd (R.STB_TASK_BUDGET q k) ≤ s.stbWindow))] fun s =>
    let s := (s.clearTags q k).modTask q k fun t => { t with ar := [], skip := 0 }
    ((s.wr (R.STB_TASK_PC q k) (s.task q k).entry).taskTo q k 3 0).ok r

/-- STB_TASK_STOP (R317): a tile in progress ends first. -/
def State.doStbTaskStop (s : State) (r : Ref) (p : Bytes) : State :=
  let q := u8 p 0
  let k := u8 p 1
  s.checked r [lengthIs p 2, stallCtx p, permitted ([3, 4, 5].contains (s.rd (R.STB_TASK_STATE q k)))] fun s =>
    let s := s.modTask q k fun t => { t with stop := t.stop ++ [r] }
    if (s.stall q).order.head? = some k then s
    else (s.modStall q fun x => { x with order := x.order.filter (· != k) }).stopDone q k

def State.doStbFeed (s : State) (r : Ref) (p : Bytes) : State :=
  let q := u8 p 0
  let n := (p.length - 2) / 16
  s.checked r [(decide (p.length < 18 ∨ (p.length - 2) % 16 ≠ 0 ∨ 255 < n), stBadLength),
    param (decide (3 < q ∨ 15 < u8 p 1) || (List.range (8 * n)).any fun i => decide (0xFFF < u16 p (2 + 2 * i))),
    permitted (!s.on R.STB_STAT_OFF && s.isInput q (u8 p 1) 0)] fun s =>
    { s with stb.feeds := s.stb.feeds ++ [⟨r, q, u8 p 1, p.drop 2⟩] }

end Sys2Proof.Machine
end

