-- ==== Sys2Proof/Machine/Faults.lean ====
section
/-!
DEFINITION. Sys2Proof/Machine/Faults.lean: fault handling and recovery (spec/17_faults.md): FLT_SVC, automatic and commanded
subsystem resets, the recovery marker, the service ladder and the fault attributes.
-/

namespace Sys2Proof.Machine

/-- DEBUG_HOLD: a core is halted (R450, 18_debug_port.md). -/
def State.debugHold (s : State) : Bool := s.dbg.halted != 0

/-! ### Touched commands (R433, Table 17-5) -/

/-- The first and last opcode and the attribute block of a unit's subsystem. -/
def unitOps (u : Nat) : Nat × Nat × Nat :=
  if u ≤ 2 then (0x30, 0x37, 0x30) else if u ≤ 4 then (0x48, 0x4F, 0x48) else if u = 5 then (0x58, 0x5F, 0x58)
  else if u = 6 then (0x60, 0x65, 0x60) else (0x66, 0x67, 0x64)

/-- The attribute blocks that a command names: the high bytes of its IDs (R89). -/
def attrBlocks (op : Nat) (p : Bytes) : List Nat :=
  if op = 0x08 ∨ op = 0x09 ∨ op = 0x0B ∨ op = 0x0C then [u8 p 1]
  else if op = 0x0A then (List.range (p.length / 2)).map fun i => u8 p (2 * i + 1)
  else []

/-- Whether a command belongs to the subsystem of a unit. -/
def unitTouches (u op : Nat) (p : Bytes) : Bool :=
  decide ((unitOps u).1 ≤ op ∧ op ≤ (unitOps u).2.1) || (attrBlocks op p).contains (unitOps u).2.2

/-- The commands of a unit's subsystem in use on every channel, by channel and in admission order. -/
def State.touchedNow (s : State) (u : Nat) : List Touch :=
  (List.range 32).flatMap fun ch =>
    ((s.chan ch).live.filter fun x => unitTouches u x.op x.payload).map fun x =>
      ⟨⟨ch, x.tag, x.op, (s.chan ch).epoch⟩, none⟩

/-- Whether a recovery of a unit has not ended. -/
def State.recovering (s : State) (u : Nat) : Bool := s.flt.recov.any fun v => v.unit == u

/-- Another PWR_SUBSYS_RESET waits for a unit's recovery. -/
def recovJoin (u : Nat) (waiter : Option Ref) (v : Recovery) : Recovery :=
  if v.unit = u then { v with waiters := v.waiters ++ waiter.toList } else v

/-- The reset of a unit has taken effect. -/
def recovTook (u : Nat) (v : Recovery) : Recovery := if v.unit = u then { v with done := true } else v

/-- Place the recovery marker of a unit's reset (R433), or join the recovery that has not ended (R435). -/
def State.recoverStart (s : State) (u : Nat) (waiter : Option Ref) : State :=
  if s.recovering u then
    { s with flt.recov := s.flt.recov.map (recovJoin u waiter) }
  else { s with flt.recov := s.flt.recov ++ [⟨u, s.touchedNow u, waiter.toList, waiter.isNone, false⟩] }

/-! ### The reset of a unit (R433, Table 2-15) -/

/-- What PWR_SUBSYS_RESET does to a unit, as its owning chapter states it. -/
def State.resetUnit (s : State) (u : Nat) : State :=
  match u with
  | 1 => s.adcReset
  | 2 => s.portsReset
  | 3 => s.busUnitReset 0
  | 4 => s.busUnitReset 1
  | 5 => s.stbUnitReset
  | 6 => s.dspUnitReset
  | _ => s.segUnitReset

/-- The reset of a unit takes effect: results of touched commands no longer count (R433, R434). -/
def State.unitEffect (s : State) (u : Nat) : State :=
  if s.flt.recov.any fun v => v.unit == u && !v.done then
    ({ s with flt.recov := s.flt.recov.map (recovTook u) }).resetUnit u
  else s

/-- The slot edge after the marker. -/
def State.unitEffects (s : State) : State := s.each (s.flt.recov.map (·.unit)) State.unitEffect

/-- Whether the reset of a recovery is complete: that of the matrix panel ends with its discharge (Corners, 02_power_reset.md). -/
def State.recovDone (s : State) (v : Recovery) : Bool := v.done && !(v.unit == 6 && s.dsp.rstDue)

/-- Work that a reset cannot stop goes on without its command (R434). -/
def forget (refs : List Ref) (r : HayReq) : HayReq :=
  match r.what with
  | .save (some c) pages objs => if refs.contains c then { r with what := .save none pages objs } else r
  | _ => r

def State.hayForget (s : State) (refs : List Ref) : State :=
  { s with
    hay.reqs := s.hay.reqs.map (forget refs)
    hay.cur := s.hay.cur.map fun w => { w with req := forget refs w.req } }

/-- The status of a touched command: its own result, or ABORTED (R434). -/
def touchReply (t : Touch) : Bytes := t.result.getD (le 1 stAborted)

/-- The replies and RECOVERED of one channel, in the order of R435. -/
def State.recoverPost (s : State) (v : Recovery) (ch : Nat) : State :=
  let mine := v.touched.filter fun t => t.cmd.ch == ch
  let aborted := (mine.filter fun t => u8 (touchReply t) 0 == stAborted).length
  let s := s.each mine fun s t => s.finish t.cmd (u8 (touchReply t) 0) ((touchReply t).drop 1)
  let s := s.each (v.waiters.filter fun r => r.ch == ch) fun s r => s.ok r
  s.modChan ch (raiseOn ch 0x79 (le 1 v.unit ++ le 1 0 ++ le 2 aborted))

/-- A recovery ends (R433, R435, R443). -/
def State.recoverEnd (s : State) (v : Recovery) : State :=
  let s := { s with flt.recov := s.flt.recov.filter fun x => x.unit != v.unit }
  let s := s.hayForget (v.touched.map (·.cmd))
  let s := s.each (List.range 32) fun s ch => s.recoverPost v ch
  s.record 1 0x12 (le 1 v.unit ++ le 1 (b2n v.auto) ++ le 2 v.touched.length)

/-- Every recovery whose reset is complete ends. -/
def State.recoverEnds (s : State) : State := s.each (s.flt.recov.filter s.recovDone) State.recoverEnd

/-! ### FLT_SVC (R428, R432) -/

/-- Stages of a list within the last n stages. -/
def within (now n : Nat) (l : List Nat) : List Nat := l.filter fun x => decide (now < x + n)

/-- Faults attributed to a unit within the last 64 stages (15 at most are kept: DEG_MAX asks for no more). -/
def State.attributed (s : State) (u : Nat) : List Nat := within s.stage 64 (mget [] s.flt.attrib u)

/-- Automatic resets of a unit within the last 3,600 stages. -/
def State.autoResets (s : State) (u : Nat) : List Nat := within s.stage 3600 (mget [] s.flt.autos u)

/-- A recorded fault is attributed to its unit. -/
def State.attribute (s : State) (u : Nat) : State :=
  { s with flt.attrib := mput [] s.flt.attrib u ((s.stage :: s.attributed u).take 15) }

/-- Whether the ACT step resets a unit (R432). -/
def State.autoDue (s : State) (u : Nat) : Bool :=
  bit (s.rd R.FLT_CFG_AUTO) (u - 1) && decide (0 < s.rd R.FLT_CFG_DEG_MAX) &&
    decide (s.rd R.FLT_CFG_DEG_MAX ≤ (s.attributed u).length) && decide ((s.autoResets u).length < 3)

/-- The RECORD step: the FAULT record and FLT_NOTE; what happens next depends on R432. -/
def State.fltRecord (s : State) (i : FaultItem) : State :=
  let b := le 12 (faultBits i.record)
  let s := { s with flt.queue := s.flt.queue.erase i }
  let s := ((s.record 1 0x10 b).event 0x78 b).count R.FLT_STAT_HANDLED 0xFFFF 1
  let s := s.when (i.record.cls == clPlant) fun s => s.wr R.FLT_STAT_PLANT 1
  if i.record.cls = clDegrade ∧ i.attrib ≠ 0 then
    let s := s.attribute i.attrib
    if s.autoDue i.attrib then { s with flt.inHand := s.flt.inHand ++ [⟨i, false⟩] } else s
  else s

/-- The ACT step: the marker is placed, and the attributed count starts again at 0 (R432). -/
def State.fltAct (s : State) (h : InHand) : State :=
  let u := h.item.attrib
  let s := { s with
    flt.attrib := mput [] s.flt.attrib u []
    flt.autos := mput [] s.flt.autos u (s.stage :: s.autoResets u)
    flt.inHand := s.flt.inHand.map fun x => if x = h then { x with waits := true } else x }
  s.recoverStart u none

/-- Whether a fault in handling has a step that can be done. -/
def State.fltReady (s : State) (h : InHand) : Bool := !(h.waits && s.recovering h.item.attrib)

/-- The queued faults that FLT_SVC may choose: those of classes that have no fault in handling. -/
def State.fltOpen (s : State) : List FaultItem :=
  s.flt.queue.filter fun i => !(s.flt.inHand.any fun h => h.item.record.cls == i.record.cls)

/-- One step of FLT_SVC (R428). -/
def State.fltStep (s : State) : State :=
  let hands := s.flt.inHand.filter s.fltReady
  let top := (hands.map (·.item.record.cls) ++ s.fltOpen.map (·.record.cls)).foldl max 0
  match hands.find? fun h => h.item.record.cls == top with
  | some h => if h.waits then { s with flt.inHand := s.flt.inHand.erase h } else s.fltAct h
  | none =>
    match s.fltOpen.find? fun i => i.record.cls == top with
    | some i => s.fltRecord i
    | none => s

/-- The FLT_SVC job: recoveries that are complete end, then at most 4 steps. -/
def State.fltSvc (s : State) : State := times 4 State.fltStep s.recoverEnds

/-! ### The service ladder (R438, R439, R440) -/

/-- A stage passes (R438, R440). -/
def State.fltStage (s : State) : State :=
  if s.limp then { s with flt.limpFor := s.flt.limpFor + 1 } else { s with flt.calm := min 300 (s.flt.calm + 1) }

/-- STREAK becomes 0 after 300 consecutive stages of full service with no HUB fault (R438). -/
def State.streakClear (s : State) : State := if 300 ≤ s.flt.calm then s.wr R.FLT_LAST_STREAK 0 else s

/-- Whether limp mode has lasted LIMP_HOLD stages (R440). -/
def State.limpHoldOver (s : State) : Bool :=
  s.limp && decide (0 < s.rd R.FLT_CFG_LIMP_HOLD) && decide (s.rd R.FLT_CFG_LIMP_HOLD ≤ s.flt.limpFor)

/-- What a limp exit sets before its reset (R440). -/
def State.limpLeaving (s : State) : State :=
  s.wrs [(R.FLT_LAST_STREAK, 2), (R.FLT_LAST_LIMP_OWED, 1), (R.FLT_LAST_LIMP_CORE, s.rd R.FLT_STAT_LIMP_CORE)]

/-- The latches are cleared (FLT_CTL.CLR_LATCH). -/
def State.clearLatches (s : State) : State := (s.clearAttr 0x7002).clearAttr 0x7003

/-- A boot counts a fault reset and enters limp mode at STREAK 3 (R438, R439). -/
def State.fltBoot (s : State) : State :=
  let cause := s.rd R.PWR_CAUSE_CAUSE
  let fault := cause == 4 || cause == 5
  let s := s.when fault fun s => s.wr R.FLT_LAST_STREAK (min 3 (s.rd R.FLT_LAST_STREAK + 1))
  let named := fault && s.flt.byFault && s.on R.FLT_LAST_CORE_VALID && s.rd R.FLT_LAST_CORE == 0
  let s := { s with flt.byFault := false }
  if s.rd R.FLT_LAST_STREAK = 3 then s.wrs [(R.FLT_STAT_LEVEL, 1), (R.FLT_STAT_LIMP_CORE, b2n named)]
  else s.wrs [(R.FLT_STAT_LEVEL, 2), (R.FLT_STAT_LIMP_CORE, 0)]

/-- The records owed at the first tick (R430, R439, R440). -/
def State.fltFirstTick (s : State) : State :=
  let s := s.when (s.on R.FLT_LAST_PEND) fun s => s.record 1 0x11 (le 16 (s.attrRaw 0x7004))
  let s := s.when (s.on R.FLT_LAST_LIMP_OWED) fun s => s.record 1 0x13 (le 1 0 ++ le 1 (s.rd R.FLT_LAST_LIMP_CORE))
  s.when s.limp fun s => s.record 1 0x13 (le 1 1 ++ le 1 (s.rd R.FLT_STAT_LIMP_CORE))

/-- A hub reset: every field but FLT_LAST returns to Reset, and queued faults and recoveries are gone (R436, R500). -/
def State.fltReset (s : State) : State :=
  { s.each [0x7000, 0x7001, 0x7002, 0x7003, 0x7005, 0x7006] State.clearAttr with
    flt := { byFault := s.flt.byFault } }

/-- A core has completed no run for 16 ticks (R431). -/
def State.coreWatch (s : State) (core : Nat) : State :=
  if core = 0 then
    if 16 ≤ s.cad.wd0 then ({ s with cad.wd0 := 0 }).hubFault 0x70 0 0 0 (some 0) 0x5 else s
  else if 16 ≤ s.cad.wd1 then ({ s with cad.wd1 := 0 }).hubFault 0x70 0 0 0 (some 1) 0x5 else s

/-! ### Attributes (Tables 17-8 to 17-13) -/

/-- FLT_STAT and FLT_UNIT as a read samples them. -/
def State.fltBits (s : State) : List (Nat × Nat) :=
  [(R.FLT_STAT_PEND, s.flt.queue.length),
   (R.FLT_STAT_INHAND, maskOf 4 fun k => s.flt.inHand.any fun h => h.item.record.cls == k),
   (R.FLT_STAT_RECOV, maskOf 7 fun i => s.recovering (i + 1))] ++
  (List.range 7).flatMap fun i =>
    [(R.FLT_UNIT_COUNT i, min 15 (s.attributed (i + 1)).length), (R.FLT_UNIT_RESETS i, min 3 (s.autoResets (i + 1)).length)]

/-- BAD_PARAM of a write (Tables 17-9, 17-12). -/
def fltCheck (id v : Nat) : Nat :=
  if (id = 0x7001 ∧ (bit v 2 || bit v 3 || bit v 6) = true) ∨ (id = 0x7005 ∧ (bit v 1 && bit v 2) = true) then stBadParam else stOk

/-- Whether FLT_CTL may be written from a channel (Reference). -/
def State.fltPermits (s : State) (ch id v : Nat) : Bool :=
  if id = 0x7005 then
    let remote := decide (16 ≤ ch ∧ ch ≤ 23) && (s.chan ch).bind.isNone
    !(bit v 1 && s.limp) && !(bit v 2 && !s.limp) &&
      !((bit v 1 || bit v 2) && (remote || s.on R.PWR_STAT_PFSEQ || s.debugHold))
  else true

/-! ### PWR_SUBSYS_RESET (Table 2-15, 02_power_reset.md) -/

/-- The marker is placed when the command executes; its OK follows the reset (R433, R435). -/
def State.doPwrSubsysReset (s : State) (r : Ref) (p : Bytes) : State :=
  s.checked r [lengthIs p 1, param (decide (u8 p 0 < 1 ∨ 7 < u8 p 0)), permitted (!s.on R.PWR_STAT_PFSEQ)] fun s =>
    s.recoverStart (u8 p 0) (some r)

/-- PWR_SUBSYS_RESET (R38, R433). -/
def execPwrSubsysReset (c : Cmd) (s : State) : Host.Outcome State Fault Refusal :=
  .next (s.command c 0x39 State.doPwrSubsysReset)

/-- SUBSYS_UNIT_RESET (R433): the reset of a unit whose marker is placed takes effect. -/
def execSubsysUnitReset (u : Fin 8) (s : State) : Host.Outcome State Fault Refusal := .next (s.unitEffect u)

/-- RECOVERY_END (R433, R435). -/
def execRecoveryEnd (u : Fin 8) (s : State) : Host.Outcome State Fault Refusal :=
  .next (s.each (s.flt.recov.filter fun v => v.unit == u.val && s.recovDone v) State.recoverEnd)

/-- CORE_WATCHDOG (R431). -/
def execCoreWatchdog (core : Fin 2) (s : State) : Host.Outcome State Fault Refusal := .next (s.coreWatch core)

/-- STREAK_CLEAR (R438). -/
def execStreakClear (s : State) : Host.Outcome State Fault Refusal := .next s.streakClear

/-- CLR_LATCH (Table 17-12): the value written to FLT_CTL. -/
def execClrLatch (v : BitVec 8) (s : State) : Host.Outcome State Fault Refusal :=
  .next (if fltCheck 0x7005 v.toNat = stOk ∧ bit v.toNat 0 = true then s.clearLatches else s)

end Sys2Proof.Machine
end

