-- ==== Sys2Proof/Machine/Thermal.lean ====
section
/-!
DEFINITION. Sys2Proof/Machine/Thermal.lean: the die thermal monitor (spec/15_die_thermal.md): reads, evaluations, levels, the
orderly stop and the record of a shutdown.
-/

namespace Sys2Proof.Machine

/-- THM_NOTE (R399). -/
def State.thmNote (s : State) (kind unit data : Nat) : State := s.note 0x3C kind unit data

/-- The enforced level as decided: the higher of the thermal level and FLOOR (R390). -/
def State.enforced (s : State) : Nat := max s.thm.level (s.rd R.THM_STAT_FLOOR)

/-! ### Reads (R383, R384) -/

/-- Whether a code marks its ring valid: -50.0 to +150.0 degC (R383). -/
def ringValid (code : Nat) : Bool := decide (0x0E0 ≤ code) && decide (code ≤ 0xD60)

/-- A read latches the eight codes; a ring that is not delivered reads 0. -/
def State.thmRead (s : State) (rings : List (BitVec 12)) : State :=
  let code (i : Nat) : Nat := (rings.getD i 0).toNat
  (s.each (List.range 8) fun s i => s.wr (R.THM_SENS_T i) (code i)).wr R.THM_STAT_RINGS (maskOf 8 fun i => ringValid (code i))

/-- The highest valid code of the latest read and its ring. -/
def State.hottest (s : State) : Option (Nat × Nat) :=
  ((List.range 8).filter fun i => bit (s.rd R.THM_STAT_RINGS) i).foldl (fun m i =>
    let c := s.rd (R.THM_SENS_T i)
    match m with
    | none => some (c, i)
    | some (h, j) => if h < c then some (c, i) else some (h, j)) none

/-- PEAK keeps the highest HOT since its last read (Table 15-9). -/
def State.thmPeak (s : State) (hot : Nat) : State :=
  if s.on R.THM_PEAK_VALID && decide (hot ≤ s.rd R.THM_PEAK_PEAK) then s
  else s.wrs [(R.THM_PEAK_PEAK, hot), (R.THM_PEAK_VALID, 1), (R.THM_PEAK_STAGE, s.stage % 2 ^ 32)]

/-- HOT takes the latest read (R384). -/
def State.thmHot (s : State) : State :=
  match s.hottest with
  | none => s.wr R.THM_STAT_VALID 0
  | some (h, i) => (s.wrs [(R.THM_STAT_HOT, h), (R.THM_STAT_HOT_IDX, i), (R.THM_STAT_VALID, 1)]).thmPeak h

/-! ### Prohibitions (R386) -/

/-- Set a prohibition, with its note when it changes. -/
def State.prohibit (s : State) (field kind : Nat) (lo hi : Nat) : State :=
  let h := s.rd R.THM_STAT_HOT
  let on := !s.on R.THM_STAT_VALID || decide (h < lo) || decide (hi < h)
  if s.on field = on then s else (s.wrB field on).thmNote kind (b2n on) 0

def State.prohibitions (s : State) : State :=
  (s.prohibit R.THM_STAT_HAY_INH 7 0x220 0x9F0).prohibit R.THM_STAT_CHG_INH 8 0x400 0x860

/-- The read before the first tick of a boot and of a wake from Freewheel-2 (R383, R385, R386). -/
def State.thmFirst (s : State) (rings : List (BitVec 12)) : State :=
  ({ s with thm.prev := none }.thmRead rings).thmHot.prohibitions

/-! ### Evaluation (R385, R387 to R389, R391, R397, R499) -/

/-- Rings that have turned invalid are told once (R397). -/
def State.ringsTold (s : State) : State :=
  let s := { s with thm.told := maskOf 8 fun i => bit s.thm.told i && !bit (s.rd R.THM_STAT_RINGS) i }
  s.each (List.range 8) fun s i =>
    if bit (s.rd R.THM_STAT_RINGS) i || bit s.thm.told i then s
    else ({ s with thm.told := setBit s.thm.told i true }.thmNote 5 i 0).fault clDegrade 0x38 5 i 0

/-- DELTA of this evaluation, as an integer (R385). -/
def State.delta (s : State) : Int :=
  match s.thm.prev with
  | some p => if s.on R.THM_STAT_VALID then (s.rd R.THM_STAT_HOT : Int) - p else 0
  | none => 0

/-- The alarm of R388: STREAK counts, ALARM follows. -/
def State.riseAlarm (s : State) (d : Int) : State :=
  let n := if 0x010 ≤ d then min 4 (s.rd R.THM_STAT_STREAK + 1) else 0
  let was := s.on R.THM_STAT_ALARM
  let s := (s.wr R.THM_STAT_STREAK n).wrB R.THM_STAT_ALARM (decide (n = 4))
  if n = 4 ∧ !was = true then (s.thmNote 1 0 (unsigned 16 d)).fault clNote 0x38 1 0 (unsigned 16 d) else s

/-- The act of R388: it starts at 0x028 and ends after 8 evaluations below it. -/
def State.riseAct (s : State) (d : Int) : State :=
  if 0x028 ≤ d then
    let was := s.on R.THM_STAT_ACT
    let s := { s.wr R.THM_STAT_ACT 1 with thm.calm := 0 }
    if was then s else s.thmNote 4 0 (unsigned 16 d)
  else
    let n := min 8 (s.thm.calm + 1)
    let s := { s with thm.calm := n }
    if n = 8 then s.wr R.THM_STAT_ACT 0 else s

/-- The level of Table 15-3: entered at or above its rising threshold, left only below its falling threshold (R387). -/
def levelOf (hot base : Nat) : Nat :=
  let keep (l rise fall : Nat) : Bool := decide (rise ≤ hot) || (decide (l ≤ base) && decide (fall ≤ hot))
  if keep 3 0xB30 0xAE0 then 3 else if keep 2 0xAE0 0xA90 then 2 else if keep 1 0xA40 0x9F0 then 1 else 0

/-- A shed request: a target that first rises above 0 while nothing is enforced (R389). -/
def State.shedRequest (s : State) (target : Nat) : State :=
  ((s.wr R.THM_STAT_GRACE 8).thmNote 2 target 8).fault clNote 0x38 2 target 8

/-- The thermal level after a rise of the target or the end of a grace (R389). -/
def State.levelRise (s : State) (target : Nat) : State :=
  let old := s.rd R.THM_STAT_TARGET
  let grace := s.rd R.THM_STAT_GRACE
  let s := s.wr R.THM_STAT_TARGET target
  if s.on R.THM_STAT_ACT || decide (0 < s.enforced) then { s.wr R.THM_STAT_GRACE 0 with thm.level := max s.thm.level target }
  else if target = 0 then s.wr R.THM_STAT_GRACE 0
  else if old = 0 then s.shedRequest target
  else if grace ≤ 1 then { s.wr R.THM_STAT_GRACE 0 with thm.level := target }
  else s.wr R.THM_STAT_GRACE (grace - 1)

/-- The thermal level falls after 8 evaluations with the target below it, never while the rise act is in force (R391). -/
def State.levelFall (s : State) : State :=
  let t := s.rd R.THM_STAT_TARGET
  if t < s.thm.level then
    let n := min 8 (s.thm.below + 1)
    if n = 8 ∧ s.rd R.THM_STAT_ACT = 0 then { s with thm.below := 0, thm.level := t } else { s with thm.below := n }
  else { s with thm.below := 0 }

/-- A change of the enforced level is told; `rising` when temperature may raise it (Table 15-5). -/
def State.enforcedTold (s : State) (before : Nat) (byTemp : Bool) : State :=
  let e := s.enforced
  if e = before then s
  else
    let hot := s.rd R.THM_STAT_HOT
    let s := s.thmNote 3 e hot
    if before < e ∧ byTemp = true then s.fault clDegrade 0x38 3 e hot else s

/-- No ring is valid: TARGET and the level are 3 at once, and a PLANT fault is queued once (R397, R499). -/
def State.noRing (s : State) : State :=
  let s := { s.wrs [(R.THM_STAT_TARGET, 3), (R.THM_STAT_GRACE, 0)] with thm.level := 3, thm.below := 0 }
  if s.thm.noneTold then s else { s with thm.noneTold := true }.fault clPlant 0x38 0 0 0

/-- The orderly stop starts (R392): the record is staged, the panel is switched off, and the outputs go to Kickstand. -/
def State.orderlyStop (s : State) : State :=
  let hot := s.rd R.THM_STAT_HOT
  let s := (s.wr R.THM_STAT_STOPPING 1).thmNote 6 0 hot
  let s := { s with thm.staged := some ⟨false, s.enforced, hot, s.stage % 2 ^ 32⟩, thm.end_ := s.ticks + 1024 }
  let s := s.orderlyOff 1
  let s := s.each (List.range 12) fun s g => s.when (s.grpOn g) fun s => s.grpDisable g
  let s := s.forceEnds [] (List.range 8)
  s.each (List.range 8) fun s v =>
    (s.wr (R.ACT_VOUT_TARGET v) (if s.pwr.ks.bad then 0 else mget 0 s.pwr.ks.ramp v)).modRamp v fun x =>
      { x with next := none, ks := true, zone := false }

/-- The target level and what follows from it. -/
def State.thmLevels (s : State) : State :=
  let before := s.enforced
  if s.on R.THM_STAT_VALID then
    let base := levelOf (s.rd R.THM_STAT_HOT) s.thm.base
    let s := { s with thm.base := base, thm.noneTold := false }
    ((s.levelRise (min 3 (base + s.rd R.THM_STAT_ACT))).levelFall).enforcedTold before true
  else s.noRing.enforcedTold before false

/-- HOT at or above SHUTDOWN starts the orderly stop, whatever the level and the grace (R392). -/
def State.stopJudge (s : State) : State :=
  if s.on R.THM_STAT_VALID && Nat.ble 0xB80 (s.rd R.THM_STAT_HOT) && !s.on R.THM_STAT_STOPPING then s.orderlyStop else s

/-- The evaluation of HSK in tick 2 of lap 49. -/
def State.thmEval (s : State) : State :=
  let s := s.ringsTold.thmHot.prohibitions
  let d := s.delta
  let s := { s.wr R.THM_STAT_DELTA (unsigned 12 d) with
    thm.prev := if s.on R.THM_STAT_VALID then some (s.rd R.THM_STAT_HOT) else none }
  (((s.riseAlarm d).riseAct d).thmLevels).stopJudge

/-! ### Edges (R390, R392, R396) -/

/-- The divisor of the SYS clock at an enforced level (Table 15-4). -/
def sysDiv (level : Nat) : Nat := [1, 1, 2, 4].getD level 4

/-- The lap edge at which the enforced level takes effect (R390); in Freewheel-1 the division and q wait for the return to Run
(R396). At levels 2 and 3 the throttled slot table is in force. -/
def State.thmLap (s : State) : State :=
  let e := s.enforced
  let was := s.rd R.THM_STAT_LEVEL
  let refs := s.thm.floors
  let s := ({ s.wr R.THM_STAT_LEVEL e with thm.floors := [] }).each refs fun s r => s.ok r
  if s.rd R.PWR_STAT_MODE = 0 then
    let s : State := { s.wr R.STB_STAT_SKIPQ e with thm.div := sysDiv e }
    if s.limp || Nat.ble 2 was == Nat.ble 2 e then s
    else { s with cad.active := if 2 ≤ e then { base := .throttled } else s.cad.source }
  else s

/-- THM_LAST is written (Table 15-10). -/
def State.thmLatch (s : State) (r : ThmRec) : State :=
  s.wrs [(R.THM_LAST_PEND, 1), (R.THM_LAST_CUT, b2n r.cut), (R.THM_LAST_LEVEL, r.level), (R.THM_LAST_DIE, r.die),
    (R.THM_LAST_STAGE, r.stage)]

/-- An AON edge commits the staged record (R31, R392). -/
def State.thmCommit (s : State) : State :=
  match s.thm.staged with
  | none => s
  | some r => { s.thmLatch r with thm.staged := none, thm.mine := true }

/-- Whether the orderly stop is over: panel off and every VOUT arrived, or the budget spent (R392 step 4). -/
def State.stopOver (s : State) : Bool :=
  s.on R.THM_STAT_STOPPING &&
    (decide (s.thm.end_ ≤ s.ticks) || ([0, 6].contains (s.rd R.DSP_STAT_STATE) && s.dsp.disch.isNone && s.voutsArrived))

/-- The cut sensor trips: THM_LAST is written unless a record of an earlier shutdown is still owed (R393). -/
def State.cutRecord (s : State) : State :=
  let s := { s with thm.staged := none, thm.cut := true }
  if s.on R.THM_LAST_PEND && !(s.on R.THM_STAT_STOPPING && s.thm.mine) then s
  else s.thmLatch ⟨true, s.rd R.THM_STAT_LEVEL, s.rd R.THM_STAT_HOT, s.stage % 2 ^ 32⟩

/-- A hub reset: every field but THM_LAST returns to Reset; the cut sensor and a staged record stay (R394, R395). -/
def State.thmReset (s : State) : State :=
  { s.each [0x3800, 0x3801, 0x3802] State.clearAttr with thm := { cut := s.thm.cut, staged := s.thm.staged } }

/-- The data of the deferred record (R395). -/
def State.thmData (s : State) : Bytes :=
  le 1 (s.rd R.THM_LAST_CUT) ++ le 1 (s.rd R.THM_LAST_LEVEL) ++ le 2 (s.rd R.THM_LAST_DIE) ++ le 4 (s.rd R.THM_LAST_STAGE) ++
    le 2 (s.rd R.THM_STAT_HOT)

/-! ### The opcode (R398) -/

/-- THM_FLOOR: the level takes the floor into account at the next lap edge, when the reply is posted. -/
def State.doThmFloor (s : State) (r : Ref) (p : Bytes) : State :=
  s.checked r [lengthIs p 1, param (decide (3 < u8 p 0)), permitted (!s.on R.THM_STAT_STOPPING)] fun s =>
    let before := s.enforced
    let s := { s.wr R.THM_STAT_FLOOR (u8 p 0) with thm.floors := s.thm.floors ++ [r] }
    s.enforcedTold before false

end Sys2Proof.Machine
end

