-- ==== Sys2Proof/Machine/Cadence.lean ====
section
/-!
DEFINITION. Sys2Proof/Machine/Cadence.lean: the sequencer's own part of the cadence (spec/01_cadence.md): slot tables, allotments
and their guard, overruns, the stage-edge trim and the core watchdog's counts.
-/

namespace Sys2Proof.Machine

/-! ### Slot tables (Table 1-2, Table 1-5, Table 17-16) -/

/-- Whether a 32-bit entry holds an even number of ones (Table 1-2 PAR). -/
def evenOnes (v : Nat) : Bool := ((List.range 32).filter (bit v)).length % 2 == 0

/-- An entry of fields: JOB0, JOB1, GO bits, CONT for both cores, GPACE, with PAR set for even parity. -/
def mkEntry (job0 job1 go : Nat) (cont : Bool := false) (gpace : Nat := 0) : Nat :=
  let v := job0 + 2 ^ 8 * job1 + 2 ^ 16 * go + (if cont then 3 * 2 ^ 24 else 0) + 2 ^ 26 * gpace
  if evenOnes v then v else v + 2 ^ 31

/-- The default schedule (Table 1-5): tick and slot. -/
def defaultEntry (tick slot : Nat) : Nat :=
  match slot with
  | 0 => mkEntry 0x01 0x02 0
  | 1 => mkEntry 0x03 0x04 0x23
  | 2 => mkEntry 0x05 0x06 0
  | 3 => mkEntry (if tick = 1 then 0x08 else 0x07) 0x09 0
  | 4 => mkEntry (if tick = 1 then 0x08 else 0x07) 0x09 0 true
  | 5 => mkEntry 0x0A 0x0B 0
  | 6 => mkEntry 0x0C 0x0D 0
  | 7 => mkEntry 0x0C 0x0D 0 true
  | 8 => mkEntry 0x0E 0x0F 0
  | 9 => mkEntry 0x0D 0x10 0x04
  | 10 => mkEntry 0x0D 0x10 0 true
  | 11 => mkEntry 0x11 0x0D 0x10
  | 12 => mkEntry 0x12 0x0D 0
  | 13 => mkEntry 0x12 0x0D 0 true
  | 14 => mkEntry 0x14 0x14 0
  | 16 => mkEntry 0x13 0x0C 0x08
  | 17 => mkEntry 0x14 0x0D 0
  | 18 => mkEntry 0x14 0x0D 0 true
  | 19 => mkEntry 0x14 0x0D 0 true
  | 20 => mkEntry 0x14 0x0D 0 true
  | 21 => mkEntry 0x14 0x0D 0 true
  | 22 => mkEntry 0x0C 0x0D 0
  | 23 => mkEntry 0x0C 0x0D 0 true
  | 24 => mkEntry 0x0E 0x0F 0
  | 25 => mkEntry 0x14 0x14 0
  | 26 => mkEntry 0x14 0x14 0 true
  | 27 => mkEntry 0x14 0x14 0 true
  | 28 => mkEntry 0x14 0x14 0 true
  | 29 => mkEntry 0x14 0x14 0 true
  | 30 => if tick = 2 then mkEntry 0x15 0x16 0xC0 false 3 else mkEntry 0x15 0x14 0
  | _ => 0

/-- Job, GO bits and CONT of the limp slot table (Table 17-16). -/
def limpRow (tick slot : Nat) : Nat × Nat × Bool :=
  match slot with
  | 0 => (0x01, 0, false)
  | 1 => (0x04, 0x21, false)
  | 2 => (0x05, 0, false)
  | 3 => (if tick = 1 then 0x08 else 0x09, 0, false)
  | 4 => (if tick = 1 then 0x08 else 0x09, 0, true)
  | 5 => (0x0B, 0, false)
  | 6 => (0x0A, 0, false)
  | 7 => (0x02, 0, false)
  | 8 => (0x0C, 0, false)
  | 9 => (0x0D, 0, false)
  | 10 => (0x0D, 0, true)
  | 11 => (0x11, 0x10, false)
  | 12 => (0x10, 0, false)
  | 13 => (0x0D, 0, false)
  | 14 => (0x0D, 0, true)
  | 16 => (0x0C, 0, false)
  | 17 => (0x0D, 0, false)
  | 18 => (0x0D, 0, true)
  | 19 => (0x0D, 0, true)
  | 20 => (0x0D, 0, true)
  | 21 => (0x0D, 0, true)
  | 22 => (0x0C, 0, false)
  | 23 => (0x0C, 0, true)
  | 24 => (0x0D, 0, false)
  | 25 => (0x0D, 0, true)
  | 26 => (0x0D, 0, true)
  | 27 => (0x0D, 0, true)
  | 28 => (0x0D, 0, true)
  | 29 => (0x0D, 0, true)
  | 30 => if tick = 2 then (0x16, 0xC0, false) else (0, 0, false)
  | _ => (0, 0, false)

/-- An entry of the limp slot table: every job in the limp core's field (R439). -/
def limpEntry (core tick slot : Nat) : Nat :=
  let r := limpRow tick slot
  let gpace := if r.2.1 = 0xC0 then 3 else 0
  if core = 0 then mkEntry r.1 0 r.2.1 r.2.2 gpace else mkEntry 0 r.1 r.2.1 r.2.2 gpace

/-- A table of the firmware's that the spec does not list: free entries, with correct parity (log entry 6). -/
def freeEntry (v : BitVec 32) : Nat :=
  let n := v.toNat % 2 ^ 31
  if evenOnes n then n else n + 2 ^ 31

/-- An entry as a table's source gives it. -/
def baseEntry (b : TableBase) (i : Nat) : Nat :=
  match b with
  | .idle => 0
  | .dflt => defaultEntry (i / 32) (i % 32)
  | .limp core => limpEntry core (i / 32) (i % 32)
  | .reduced => freeEntry (Config.reducedEntry i)
  | .throttled => freeEntry (Config.throttledEntry i)

/-- Whether entry i is a margin entry: it reads back as 0 (R20). -/
def marginEntry (i : Nat) : Bool := i % 16 == 15

/-- Entry i of a copy (R20). -/
def SlotTable.entry (t : SlotTable) (i : Nat) : Nat :=
  if marginEntry i then 0 else (mget? t.edits i).getD (baseEntry t.base i)

/-- CAD_TBL_ENT: the active entry at INDEX (Table 1-17). -/
def State.tableEnt (s : State) : Nat := s.cad.active.entry (s.rd R.CAD_TBL_IDX_INDEX)

/-- The entries of the default schedule that the running patch image replaces; margin entries stay (R18, R20, log entry 6). -/
def State.patchEdits (s : State) : Map Nat :=
  if s.on R.SEC_STAT_PATCH_OK then
    (List.range 512).filterMap fun i =>
      if marginEntry i then none else (Config.patchEntry (s.rd R.SEC_BOOT_DIGEST) i).map fun e => (i, e.toNat)
  else []

/-- Load a table into both copies at start-up: the default schedule with the entries a patch image replaces, or the limp
table (R18). -/
def State.tableLoad (s : State) (b : TableBase) : State :=
  let t : SlotTable := { base := b, edits := if b = .dflt then s.patchEdits else [] }
  { s with cad.active := t, cad.shadow := t, cad.source := t, cad.reloadPend := false }

/-- The copies are swapped at a lap edge, if a swap waits (R18). -/
def State.tableSwap (s : State) : State :=
  if s.on R.CAD_STAT_SWAP_PEND then
    let a := s.cad.active
    { s.wr R.CAD_STAT_SWAP_PEND 0 with cad.active := s.cad.shadow, cad.shadow := a }
  else s

/-- Where a reload takes the table in force from: the table loaded at start-up with its patched entries, or the reduced or
throttled table. -/
def State.tableSource (s : State) : SlotTable :=
  if s.cad.active.base = s.cad.source.base then s.cad.source else { base := s.cad.active.base }

/-- The shadow copy is reloaded from its source at a stage edge; it becomes active at the following lap edge (R22). -/
def State.tableReload (s : State) : State :=
  if s.cad.reloadPend then { s.wr R.CAD_STAT_SWAP_PEND 1 with cad.shadow := s.tableSource, cad.reloadPend := false } else s

/-- The entry of the slot that begins: one with wrong parity is idle, and is told (R22). -/
def State.slotEntry (s : State) : Nat × State :=
  let e := s.cad.active.entry (s.cad.now % 512)
  if evenOnes e then (e, s)
  else (0, { s.wr R.CAD_STAT_PAR_ERR 1 with cad.reloadPend := true }.fault clDegrade 0x01 0 0 0)

/-- Whether an entry's GO bits fire in a lap (R23). -/
def goFires (e lap : Nat) : Bool :=
  match bits e 26 2 with
  | 0 => true
  | 1 => decide (lap < 48)
  | 2 => decide (48 ≤ lap)
  | _ => lap == 48

/-- The GO bits raised in this slot, as bits 0-7 (R20, R23). -/
def State.goBits (s : State) (e : Nat) : Nat := if goFires e s.lap then bits e 16 8 else 0

/-- Whether a core's job continues from the previous slot (R21). -/
def continues (e slot core : Nat) : Bool := bit e (24 + core) && !(slot == 0 || slot == 16)

/-! ### Jobs and runs (Table 1-4, R26, R27) -/

/-- Class codes of Table 1-13: 0 CTL, 1 SNS, 2 IO, 3 DSP, 4 INF, 5 HSK; a job that a patch adds has the class its patch
declares (Table 1-4, log entry 6). -/
def jobClass (job : Nat) : Nat :=
  if [0x01, 0x02, 0x04, 0x07, 0x08, 0x09, 0x0A, 0x0B, 0x15].contains job then 0
  else if [0x03, 0x05, 0x06, 0xF0].contains job then 1
  else if [0x0C, 0x0D, 0x0E, 0x0F].contains job then 2
  else if job = 0x12 then 3
  else if job = 0x13 ∨ job = 0xF1 then 4
  else if 0x17 ≤ job ∧ job ≤ 0xEF then Config.patchClass job
  else 5

def State.run (s : State) (core : Nat) : Option Run := if core = 0 then s.cad.run0 else s.cad.run1

def State.setRun (s : State) (core : Nat) (r : Option Run) : State :=
  if core = 0 then { s with cad.run0 := r } else { s with cad.run1 := r }

/-- The key of a job on a core. -/
def jobKey (core job : Nat) : Nat := 256 * core + job

/-- CAD_OVR, CAD_OVRCNT and CAD_STAT.OVR (R28, Corners). -/
def State.overrunTold (s : State) (core job entry : Nat) : State :=
  let s := (s.wr R.CAD_STAT_OVR 1).count R.CAD_OVRCNT_COUNT 0xFFFFFFFF 1
  let r : OvrRec := ⟨job, core, entry, jobClass job, s.stage % 256⟩
  if s.cad.ovr.length < 8 then { s with cad.ovr := s.cad.ovr ++ [r] } else s

/-- The fault of an overrun. -/
def State.overrunFault (s : State) (cls core job : Nat) (attrib : Nat := 0) : State := s.fault cls 0x01 job core 0 attrib

/-- A CTL run is stopped; the third consecutive one is a fault of class HUB (R29, Table 1-7). -/
def State.ctlOverrun (s : State) (core job : Nat) : State :=
  let n := mget 0 s.cad.streak (jobKey core job) + 1
  let s := { s with cad.streak := mput 0 s.cad.streak (jobKey core job) (if n = 3 then 0 else n) }
  let s := if job = 0x08 ∧ s.lap < 48 then s.zonSkip s.lap else s
  if n = 3 then s.hubFault 0x01 job core 0 (some core) 0x5
  else s.overrunFault (if job = 0x07 ∨ job = 0x08 then clZone else clPlant) core job

/-- An IO or HSK run is suspended; 64 consecutive allotments raise a NOTE. -/
def State.ioOverrun (s : State) (core job : Nat) : State :=
  let n := min 65 (mget 0 s.cad.susp (jobKey core job) + 1)
  let s := { s with cad.susp := mput 0 s.cad.susp (jobKey core job) n }
  if n = 64 then s.overrunFault clNote core job else s

/-- A DSP run is stopped: the first of the 16th consecutive counting lap queues DEGRADE in place of its NOTE. -/
def State.dspOverrun (s : State) (core : Nat) : State :=
  let first := !s.cad.dspLap
  let s := { s with dsp.stopped := true, cad.dspLap := true, cad.dspLaps := if first then s.cad.dspLaps + 1 else s.cad.dspLaps }
  if first ∧ s.cad.dspLaps = 16 then { s with cad.dspLaps := 0 }.overrunFault clDegrade core 0x12 6
  else s.overrunFault clNote core 0x12

/-- The outcome of Table 1-7 for a job's class. -/
def State.overrun (s : State) (core job entry : Nat) : State :=
  let s := s.overrunTold core job entry
  match job with
  | 0x05 => (s.adcResLost 0).overrunFault clDegrade core job 1
  | 0x06 => (s.adcResLost 1).overrunFault clDegrade core job 1
  | 0xF0 => s.overrunFault clDegrade core job 1
  | 0xF1 => s.stbOverrun.overrunFault clDegrade core job 5
  | _ =>
    match jobClass job with
    | 0 => s.ctlOverrun core job
    | 1 => s.overrunFault clDegrade core job
    | 3 => s.dspOverrun core
    | 4 => s.overrunFault clDegrade core job
    | _ => s.ioOverrun core job

/-- A core's allotment ends: a run that has not completed overruns, unless it is debug-held (R27, R28). -/
def State.runEnd (s : State) (core entry : Nat) : State :=
  match s.run core with
  | none => s
  | some r => if r.done || r.held then s.setRun core none else (s.setRun core none).overrun core r.job entry

/-- The guard at a slot edge, for the core allotments that the new entry does not continue (R24 step 1). -/
def State.guardCores (s : State) (e last : Nat) : State :=
  s.each [0, 1] fun s core => if continues e s.slot core then s else s.runEnd core last

/-- ADC_WIN is judged at the edge that ends slot 1's allotment (R27). -/
def State.guardAdc (s : State) : State :=
  match s.cad.adcWin with
  | none => s
  | some entry =>
    let late := [0, 1].filter s.winLate
    let s := { s with cad.adcWin := none }
    if late.isEmpty then s else (s.each late State.winFire).overrun 0 0xF0 entry

/-- STB_WIN is judged when the stall window closes (R27). -/
def State.guardStb (s : State) (last : Nat) : State :=
  match s.cad.stbWin with
  | none => s
  | some _ =>
    let s := { s with cad.stbWin := none }
    if s.stbLate then s.overrun 0 0xF1 last else s

/-- JOB_COMMIT, beside the job's own work: the run has completed (R26, R27, Table 1-15, R431). -/
def State.runDone (s : State) (core slack : Nat) : State :=
  match s.run core with
  | none => s
  | some r =>
    let key := jobKey core r.job
    let s := (s.setRun core (some { r with done := true }))
    let s := { s with cad.streak := mdel s.cad.streak key, cad.susp := mdel s.cad.susp key }
    let s := if core = 0 then { s with cad.comp0 := true } else { s with cad.comp1 := true }
    if jobClass r.job = 0 ∧ (s.rd R.CAD_SLACK_VALID = 0 ∨ slack < s.rd R.CAD_SLACK_MIN) then
      s.wrs [(R.CAD_SLACK_MIN, slack), (R.CAD_SLACK_JOB, r.job), (R.CAD_SLACK_VALID, 1)]
    else s

/-- Dispatch a core's job at cycle 4 (R24 step 3); a halted core's allotment is debug-held (Corners). -/
def State.dispatch (s : State) (e core : Nat) : State :=
  let job := bits e (8 * core) 8
  if continues e s.slot core || job == 0 then s
  else
    let held := bit s.dbg.halted core
    let s := s.setRun core (some ⟨job, s.cad.now % 512, false, held⟩)
    if held then s else if core = 0 then { s with cad.watch0 := true } else { s with cad.watch1 := true }

/-- The run that a halt interrupted is ended when the core resumes, with no overrun recorded (R451). -/
def State.debugRunEnd (s : State) (core : Nat) : State := s.setRun core none

/-- A core halts: its current allotment is debug-held. -/
def State.debugRunHold (s : State) (core : Nat) : State :=
  s.setRun core ((s.run core).map fun r => { r with held := !r.done })

/-- The core watchdog at a tick edge (R431). -/
def State.watchTick (s : State) : State :=
  let next (comp watch : Bool) (n : Nat) : Nat := if comp then 0 else if watch then n + 1 else n
  let w0 := next s.cad.comp0 s.cad.watch0 s.cad.wd0
  let w1 := next s.cad.comp1 s.cad.watch1 s.cad.wd1
  let s := { s with cad.wd0 := w0, cad.wd1 := w1, cad.comp0 := false, cad.comp1 := false, cad.watch0 := false, cad.watch1 := false }
  (s.coreWatch 0).coreWatch 1

/-! ### Trim (R15 to R17, R495) -/

/-- D before the clamp, from N and P; a stage edge without a whole count of N uses 24,576,000 (R15, R495). -/
def trim (nValid : Bool) (n : Nat) (p : Int) : Int := (if nValid then (n : Int) else 24576000) - 24576000 + p

/-- The trim of a stage edge; without AON edges D is 0 (R15, R17, Corners). -/
def State.trimStage (s : State) (n : Nat) (p : Int) : State :=
  if s.on R.CAD_STAT_AON_LOST then s.wr R.CAD_TRIM_DRIFT 0
  else
    let d := trim s.cad.nValid n p
    let c := clamp (-4096) 4096 d
    let s := { s.wrs [(R.CAD_TRIM_DRIFT, unsigned 16 c), (R.CAD_TRIM_PHASE, unsigned 16 p)] with cad.nValid := true }
    if c = d then s else (s.wr R.CAD_STAT_SKEW 1).fault clDegrade 0x01 0 0 0

/-- Whether tick t of a stage is adjusted, and by how many REF cycles (R16). -/
def tickAdjust (d : Int) (t : Nat) : Int :=
  let k : Int := (((t + 1) * d.natAbs / 1024 : Nat) : Int) - ((t * d.natAbs / 1024 : Nat) : Int)
  if d < 0 then -k else k

/-- A lap edge, for the count of laps with a stopped DSP_SVC run (Table 1-7). -/
def State.dspLapEdge (s : State) : State :=
  { s with cad.dspLaps := if s.cad.dspLap then s.cad.dspLaps else 0, cad.dspLap := false }

/-- AON edges are absent (Corners). -/
def State.aonLose (s : State) : State :=
  if s.on R.CAD_STAT_AON_LOST then s
  else ({ s.wrs [(R.CAD_STAT_AON_LOST, 1), (R.CAD_TRIM_DRIFT, 0)] with cad.aonOn := false }).fault clDegrade 0x01 0 0 0

/-- AON edges have returned and the counts are aligned again (Corners, R495). -/
def State.aonReturn (s : State) : State :=
  if s.on R.CAD_STAT_AON_LOST then { s.wr R.CAD_STAT_AON_LOST 0 with cad.aonOn := true, cad.nValid := false } else s

/-- A hub reset: every field but CAD_NOW returns to Reset, and no table is walked (R18, Reference). -/
def State.cadReset (s : State) : State :=
  { s.each [0x0101, 0x0102, 0x0103, 0x0104, 0x0105, 0x0106] State.clearAttr with
    cad := { now := s.cad.now, refOn := s.cad.refOn, aonOn := s.cad.aonOn, stageAt := s.cad.stageAt } }

end Sys2Proof.Machine
end

