-- ==== Sys2Proof/Machine/Wake.lean ====
section
/-!
DEFINITION. Sys2Proof/Machine/Wake.lean: what a wake source does when it fires (R58, Table 2-9, 02_power_reset.md). The
wake paths themselves are in Power.lean.
-/

namespace Sys2Proof.Machine

/-- Whether a source is enabled in PWR_WAKE: 1 alarm, 2 host, 3 PFI release, 4 Paddock. -/
def State.wakeEnabled (s : State) (source : Nat) : Bool :=
  match source with
  | 1 => s.on R.PWR_WAKE_EN_ALARM
  | 2 => s.on R.PWR_WAKE_EN_HOST
  | 3 => s.on R.PWR_WAKE_EN_PFI
  | _ => s.on R.PWR_WAKE_EN_PAD

/-- A wake source fires. In the lap between a PWR_SET_MODE reply and the entry edge, the hub stays in its present mode
(Corners). From Freewheel-1 the hub runs again at the next lap edge; from Freewheel-2 and Standby the wake is due, and the
rows WAKE and FW2_RESUME carry it out (log entry 17). -/
def State.wakeFires (s : State) (source : Nat) : State :=
  if s.wakeEnabled source then
    if s.pwr.standby || s.rd R.PWR_STAT_MODE == 2 then
      { s.wr R.PWR_WAKE_LASTSRC source with pwr.wakeDue := true }
    else
      match s.pwr.pendMode with
      | some (_ + 1) => { s.wr R.PWR_WAKE_LASTSRC source with pwr.pendMode := none }
      | _ =>
        if s.rd R.PWR_STAT_MODE = 1 then { s.wr R.PWR_WAKE_LASTSRC source with pwr.pendMode := some 0 } else s
  else s

end Sys2Proof.Machine
end

