-- ==== Sys2Proof/Machine/Paddock.lean ====
section
/-!
DEFINITION. Sys2Proof/Machine/Paddock.lean: the Paddock safety island (spec/08_paddock.md): its parameter block, its rounds,
its latches, and the exchange with the controller.
-/

namespace Sys2Proof.Machine

/-! ### The parameter block (R231 to R234) -/

/-- The block with its Default column (Table 8-7, R233). -/
def padDefaults : Bytes :=
  [0x01, 0x09, 0x00, 0x20, 0x00, 10] ++ le 2 0x6D0 ++ [0x50, 0x30] ++ le 2 0xE66 ++ le 2 0xFFF ++ le 2 0x800 ++
    (List.replicate 8 (le 4 (50 * 256))).flatten ++ List.replicate 8 0

/-- The block in force. -/
def Pad.block (p : Pad) : Bytes := p.active.getD padDefaults

def prmRole (b : Bytes) (n : Nat) : Nat := bits (u8 b 1) (2 * n) 2
def prmGroup (b : Bytes) (n : Nat) : Nat := bits (u8 b 2) (2 * n) 2
def prmSltLatch (b : Bytes) : Bool := bit (u8 b 3) 0
def prmMixEn (b : Bytes) : Bool := bit (u8 b 3) 1
def prmHotLeg (b : Bytes) : Nat := bits (u8 b 3) 2 1
/-- SLP acts only when SLP_EN and MIX_EN are both 1 (R223). -/
def prmSlpOn (b : Bytes) : Bool := bit (u8 b 3) 3 && bit (u8 b 3) 1
def prmPvEn (b : Bytes) : Bool := bit (u8 b 3) 4
def prmFrostHs (b : Bytes) : Bool := bit (u8 b 3) 5
/-- FB_TIME in PAD cycles (R219). -/
def prmFbCycles (b : Bytes) : Nat := u8 b 5 * 80000
def prmSltLim (b : Bytes) : Nat := u16 b 6
def prmSltHys (b : Bytes) : Nat := u8 b 8
def prmSdirMarg (b : Bytes) : Nat := u8 b 9
def prmSlpMax (b : Bytes) : Nat := u16 b 10
def prmPvCeil (b : Bytes) : Nat := u16 b 12
def prmPvNear (b : Bytes) : Nat := u16 b 14
def prmSinEn (b : Bytes) (n : Nat) : Bool := bit (u8 b (16 + 4 * n)) 0
def prmSinLatch (b : Bytes) (n : Nat) : Bool := bit (u8 b (16 + 4 * n)) 1
/-- DISC in PAD cycles (R216). -/
def prmSinDisc (b : Bytes) (n : Nat) : Nat := u8 b (17 + 4 * n) * 80000
/-- Whether output k is in the STOP mask of input n. -/
def prmSinStops (b : Bytes) (n k : Nat) : Bool := bit (u8 b (18 + 4 * n)) k
/-- REM_MASK bit k, which acts only when REM_EN is 1. -/
def prmRem (b : Bytes) (k : Nat) : Bool := bit (u8 b 48) 4 && bit (u8 b 48) k

/-- The offset of the first byte of a value that fails Table 8-7; 0xFF when every byte passes (R234 check 4, FIRST_BAD). -/
def prmFirstBad (b : Bytes) : Nat :=
  let bad (o : Nat) : Bool :=
    let v := u8 b o
    if o = 0 then v != 1
    else if o = 3 then decide (64 ≤ v) || (bit v 3 && !bit v 1)
    else if o = 4 then decide (128 ≤ v)
    else if o = 5 then decide (v < 2 ∨ 50 < v)
    else if o = 6 then decide (prmSltLim b < 0x540 ∨ 0x9F0 < prmSltLim b)
    else if o = 8 ∨ o = 9 then decide (v < 0x10)
    else if o = 10 then decide (prmSlpMax b < 0x100 ∨ 0xF00 < prmSlpMax b)
    else if o = 12 then decide (0xFFF < prmPvCeil b)
    else if o = 14 then decide (0xFFF < prmPvNear b ∨ prmPvCeil b < prmPvNear b)
    else if 16 ≤ o ∧ o < 48 then
      if o % 4 = 0 then decide (128 ≤ v ∨ 20 < bits v 2 5) else if o % 4 = 1 then v == 0
      else if o % 4 = 2 then decide (16 ≤ v) else v != 0
    else if o = 48 then decide (32 ≤ v)
    else if o = 49 ∨ 52 ≤ o then v != 0
    else false
  ((List.range 56).find? bad).getD 0xFF

/-! ### Inputs, outputs, notes -/

def Pad.sin (p : Pad) (n : Nat) : PadSin := mget {} p.sins n
def Pad.modSin (p : Pad) (n : Nat) (f : PadSin → PadSin) : Pad := { p with sins := mmod {} p.sins n f }
def Pad.outp (p : Pad) (n : Nat) : PadOut := mget {} p.outs n
def Pad.modOut (p : Pad) (n : Nat) (f : PadOut → PadOut) : Pad := { p with outs := mmod {} p.outs n f }

/-- Do a thing when a condition holds. -/
def Pad.when (p : Pad) (c : Bool) (f : Pad → Pad) : Pad := if c then f p else p

/-- Do a thing for each of the numbers below n, in order. -/
def Pad.forN (p : Pad) (n : Nat) (f : Pad → Nat → Pad) : Pad := (List.range n).foldl f p

/-- No fault goes with a note. -/
def clNone : Nat := 5

/-- A change that the next snapshot shows: PAD_NOTE and the class of its fault (R239, R241). -/
def Pad.note (p : Pad) (kind unit data cls : Nat) : Pad := { p with notes := p.notes ++ [⟨kind, unit, data, cls⟩] }

/-- A reply into the mailbox (R240). -/
def Pad.reply (p : Pad) (r : Ref) (status : Nat) (extra : Bytes := []) : Pad := { p with res := p.res ++ [⟨r, status, extra⟩] }

/-- Replies to several commands. -/
def Pad.replies (p : Pad) (rs : List Ref) (status : Nat) : Pad := rs.foldl (fun p r => p.reply r status) p

/-! ### Sensors (R213) -/

/-- A PTS temperature by linearisation table 0 (R194, R195). -/
def ntcTemp (raw : Nat) : Nat :=
  let a := ntcTable.getD (raw / 128) 0
  let b := ntcTable.getD (raw / 128 + 1) 0
  code12 (Int.fdiv (2 * ((a : Int) * 128 + ((b : Int) - a) * (raw % 128 : Nat)) + 128) 256)

/-- OPEN and SHORT of a raw code as bits 0 and 1. -/
def padFlags (raw : Nat) : Nat := b2n (decide (0xFC0 ≤ raw)) + 2 * b2n (decide (raw ≤ 0x040))

/-- PTS0, PTS1 and PAD_POS by number. -/
def Pad.raw (p : Pad) (i : Nat) : Nat := if i = 0 then p.pts0 else if i = 1 then p.pts1 else p.pos

/-- The flags of the last decision; no decision, no flag. -/
def Pad.flags (p : Pad) (i : Nat) : Nat := if p.decided then padFlags (p.raw i) else 0

/-- A temperature of the last decision; 0x000 before the first. -/
def Pad.temp (p : Pad) (i : Nat) : Nat := if p.decided then ntcTemp (p.raw i) else 0

/-! ### Plant outputs, feedback and proof tests (R218 to R220) -/

/-- Energise or de-energise an output; a de-energised output is watched for its contact (R220). -/
def Pad.drive (p : Pad) (n : Nat) (want : Bool) : Pad :=
  if (p.outp n).on = want then p
  else if want then (p.modOut n fun o => { o with on := true, fell := false, mism := 0 }).note 0 n 0 6
  else p.modOut n fun o => { o with on := false, fell := !o.test, mism := 0 }

/-- An output passes a proof test: its age starts again (R220). -/
def Pad.pass (p : Pad) (n : Nat) : Pad :=
  (p.modOut n fun o => { o with age := 0, due := false, fell := false, pass := true, fail := false }).note 7 n 0 clNone

/-- WELD latches (R219). -/
def Pad.weld (p : Pad) (n : Nat) : Pad :=
  let o := p.outp n
  if !o.on && o.fb && !o.weld && prmRole p.block n != 0 then
    (p.modOut n fun o => { o with weld := true, fell := false }).note 6 n 1 clPlant
  else p

/-- FB_FAULT latches (R219). -/
def Pad.fbFault (p : Pad) (n : Nat) : Pad :=
  let o := p.outp n
  if o.on && !o.fb && !o.fbFault && prmRole p.block n != 0 then
    (p.modOut n fun o => { o with fbFault := true }).note 6 n 0 clPlant
  else p

/-- A proof test starts, for a command or by itself; an output that is off with an open contact passes at once (R220,
Corners). A command that finds a test under way awaits it (log entry 18). -/
def Pad.proofStart (p : Pad) (n : Nat) (cmd : Option Ref) : Pad :=
  let o := p.outp n
  if o.test then (p.modOut n fun o => { o with cmds := o.cmds ++ cmd.toList }).replies cmd.toList stAccepted
  else if !o.on && !o.fb then (p.pass n).replies cmd.toList stOk
  else ((p.modOut n fun o => { o with test := true, testN := 0, cmds := cmd.toList }).drive n false).replies cmd.toList stAccepted

/-- The end of a proof test (R220): a pass when the contact reads open, otherwise WELD. -/
def Pad.proofEnd (p : Pad) (n : Nat) : Pad :=
  let o := p.outp n
  if !o.test then p
  else
    let p := p.modOut n fun o => { o with test := false, testN := 0, cmds := [] }
    if !o.fb then (p.pass n).replies o.cmds stOk
    else (((p.modOut n fun o => { o with pass := false, fail := true }).weld n).note 8 n 0 clPlant).replies o.cmds stFault

/-- The proof window opens at 32,400,000 rounds (R220). -/
def Pad.windowOpen (p : Pad) (n : Nat) : Pad :=
  let o := p.outp n
  if decide (32400000 ≤ o.age) && !o.due && prmRole p.block n != 0 then
    (p.modOut n fun o => { o with due := true }).note 9 n 0 clNone
  else p

/-- At 43,200,000 rounds the Paddock runs the test itself (R220); a test that has failed has set WELD. -/
def Pad.deadline (p : Pad) (n : Nat) : Pad :=
  let o := p.outp n
  if decide (43200000 ≤ o.age) && !o.test && !o.weld && prmRole p.block n != 0 then p.proofStart n none else p

/-- Feedback and proof ages of an output at a round end. A timer of PAD cycles has run out for certain when the rounds
counted after its first round end cover it (log entry 19). -/
def Pad.feedback (p : Pad) (n : Nat) : Pad :=
  let t := prmFbCycles p.block
  let p := p.modOut n fun o =>
    { o with mism := if o.on = o.fb then 0 else o.mism + 1, age := satAdd 0xFFFFFFFF o.age 1,
             testN := if o.test then o.testN + 1 else 0 }
  let o := p.outp n
  let p := p.when (decide (t ≤ (o.mism - 1) * 15184)) fun p => ((p.fbFault n).weld n).modOut n fun o => { o with fell := false }
  let p := p.when ((p.outp n).fell && !o.fb && prmRole p.block n != 0) fun p => p.pass n
  let p := p.when (o.test && decide (t ≤ o.testN * 15184)) fun p => p.proofEnd n
  (p.windowOpen n).deadline n

/-! ### Safety inputs (R214 to R217) -/

/-- DISCREPANT latches (R216). -/
def Pad.discrepant (p : Pad) (n : Nat) : Pad :=
  let i := p.sin n
  if prmSinEn p.block n && i.a != i.b && !i.disc then
    (p.modSin n fun i => { i with disc := true }).note 3 n 0 clPlant
  else p

/-- An input enters stop (R215). -/
def Pad.stopIn (p : Pad) (n : Nat) : Pad :=
  if (p.sin n).stop then p else (p.modSin n fun i => { i with stop := true }).note 1 n 0 clNote

/-- A channel's filtered state changes (R214). -/
def Pad.filter (p : Pad) (n : Nat) (channelB closed : Bool) : Pad :=
  p.modSin n fun i =>
    let j := if channelB then { i with b := closed } else { i with a := closed }
    if i.a = j.a ∧ i.b = j.b then i else { j with split := 0 }

/-- An input at a round end (R215 to R217); a disabled input takes no part in any function (R214). -/
def Pad.inputEnd (p : Pad) (n : Nat) : Pad :=
  let b := p.block
  if !prmSinEn b n then p.modSin n fun i => { a := i.a, b := i.b }
  else
    let p := p.modSin n fun i =>
      { i with disc := i.disc && (i.a || i.b), split := if i.a = i.b then 0 else i.split + 1 }
    let p := p.when (decide (prmSinDisc b n ≤ ((p.sin n).split - 1) * 15184)) fun p => p.discrepant n
    let i := p.sin n
    let p :=
      if !i.a || !i.b || i.disc then p.stopIn n
      else if !i.stop then p
      else if !prmSinLatch b n || (i.wait && i.rst) then
        (p.modSin n fun i => { i with stop := false, wait := false }).note 2 n 0 clNone
      else p.modSin n fun i => { i with wait := true }
    p.modSin n fun i => { i with rst := false }

/-! ### Decisions (R221 to R225) -/

/-- SLT trips on its 21st decision (R221). -/
def Pad.sltTrip (p : Pad) : Pad :=
  if decide (21 ≤ p.sltHi) && !p.slt then
    { p with slt := true, sltWait := false, sltLo := 0 }.note 4 0 (p.temp 1) clPlant
  else p

/-- SLT releases after 5 decisions below the hysteresis, or waits for restart; a restart that has been taken releases it
at the next round end if the condition still holds (R221). -/
def Pad.sltRelease (p : Pad) : Pad :=
  if p.slt && decide (5 ≤ p.sltLo) then
    if prmSltLatch p.block then { p with slt := false, sltWait := true }
    else { p with slt := false }.note 5 0 0 clNone
  else if p.sltWait && p.sltRst && decide (5 ≤ p.sltLo) then
    { p with sltWait := false }.note 5 0 0 clNone
  else p

/-- SLT_SENS sets after 3 decisions with PTS1 OPEN and clears after 5 without (R221). -/
def Pad.sltSens (p : Pad) : Pad :=
  if decide (3 ≤ p.opn) && !p.sens then { p with sens := true }.note 0 0 0 clPlant
  else if decide (5 ≤ p.shut) && p.sens then { p with sens := false }
  else p

/-- SDIR releases after 5 decisions below its release level (R222). -/
def Pad.sdirRelease (p : Pad) : Pad := if p.sdir && decide (5 ≤ p.sdirLo) then { p with sdir := false } else p

/-- SLP_FAULT latches after 3 decisions of one of its conditions (R223). -/
def Pad.slpLatch (p : Pad) : Pad :=
  if prmSlpOn p.block && !p.slpFault && decide (3 ≤ p.slpEnd ∨ 3 ≤ p.slpErr) then
    { p with slpFault := true }.note 0 0 0 clDegrade
  else p

/-- Frost demand turns on (R225). -/
def Pad.frostOn (p : Pad) : Pad :=
  if decide (5 ≤ p.frLo) && !p.frost && p.flags 0 == 0 then { p with frost := true }.note 11 0 1 clNote else p

/-- Frost demand turns off (R225). -/
def Pad.frostOff (p : Pad) : Pad :=
  if p.frost && (decide (5 ≤ p.frHi) || p.flags 0 != 0) then { p with frost := false }.note 11 0 0 clNone else p

/-- Count a condition over consecutive decisions. -/
def runOf (top n : Nat) (c : Bool) : Nat := if c then satAdd top n 1 else 0

/-- A sensor's flags changed (R241 kind 12, Table 8-8). -/
def Pad.flagNote (old p : Pad) (i : Nat) : Pad :=
  if p.flags i = old.flags i then p
  else p.note 12 i (p.flags i) (if i = 0 ∧ p.flags 0 ≠ 0 ∧ old.flags 0 = 0 then clDegrade else clNone)

/-- A decision (R209, R213, R221 to R225). -/
def Pad.judge (p : Pad) (i : RoundIn) : Pad :=
  let q := { p with pts0 := i.pts0.toNat, pts1 := i.pts1.toNat, pos := i.pos.toNat, decided := true }
  let q := q.forN 3 fun q i => Pad.flagNote p q i
  let b := q.block
  let t := q.temp 1
  let lim := prmSltLim b
  let sd := lim - prmSdirMarg b
  let err := q.flags 0 != 0
  let q := { q with
    sltHi := runOf 21 q.sltHi (Nat.ble lim t)
    sltLo := runOf 5 q.sltLo (Nat.ble (t + 1) (lim - prmSltHys b))
    opn := runOf 3 q.opn (bit (q.flags 1) 0)
    shut := runOf 5 q.shut (!bit (q.flags 1) 0)
    sdir := q.sdir || Nat.ble sd t
    sdirLo := runOf 5 q.sdirLo (Nat.ble (t + 1) (sd - 0x10))
    slpEnd := runOf 3 q.slpEnd (q.endh && Nat.ble (q.pos + 1) (prmSlpMax b - 0x200))
    slpErr := runOf 3 q.slpErr (q.flags 2 != 0)
    frLo := runOf 5 q.frLo (!err && Nat.ble (q.temp 0 + 1) 0x450)
    frHi := runOf 5 q.frHi (!err && Nat.ble 0x470 (q.temp 0)) }
  q.sltTrip.sltRelease.sltSens.sdirRelease.slpLatch.frostOn.frostOff

/-! ### Heartbeat (R227, R228) -/

/-- The response to a challenge (R227). -/
def heartbeat (c : Nat) : Nat := ((c * 32 + c / 2048) % 65536) ^^^ 0x5A3C

/-- A change of STATE (R228, R241 kind 10); a REARM entry is a fault once the hub has re-armed (Table 8-8). -/
def Pad.setState (p : Pad) (new : Nat) : Pad :=
  if p.state = new then p
  else if new = 0 then
    { p with state := 0, quiet := 0, window := 0, rearmed := false }.note 10 0 0 (if p.rearmed then clDegrade else clNone)
  else if new = 1 then { p with state := 1, window := 1108, hbOk := 0, rearmed := true }.note 10 0 1 clNone
  else { p with state := new, window := 0 }.note 10 0 new clNone

/-- The hard-wired hub-reset or DEBUG_HOLD line (R228): the window does not restart. -/
def Pad.rearmLine (p : Pad) : Pad := p.when (p.state == 0) fun p => p.setState 1

/-- 16 consecutive valid responses arm the Paddock (R228). -/
def Pad.arm (p : Pad) : Pad := p.when (p.state != 0 && Nat.ble 16 p.hbOk) fun p => p.setState 0

/-- A response reaches the mailbox (R227, R228). One that comes after the challenge has been answered is not counted
(log entry 20). -/
def Pad.respond (p : Pad) (v : Nat) : Pad :=
  if p.chalDue then p
  else if v = heartbeat p.chal then
    if p.chalAge < 16 then { p with hbOk := satAdd 255 p.hbOk 1, quiet := 0, chalDue := true }.arm else p
  else
    { p with hbBad := satAdd 255 p.hbBad 1, hbOk := 0 }.when (p.state == 0) fun p => p.setState 1

/-- 32 rounds without a valid response (R228). -/
def Pad.lapse (p : Pad) : Pad := p.when (p.state == 0 && Nat.ble 32 p.quiet) fun p => p.setState 1

/-- The end of the re-arm window (R228). -/
def Pad.windowEnd (p : Pad) : Pad := p.when (p.state == 1 && p.window == 0) fun p => p.setState 2

/-- A new challenge is due: the present one is answered, or has stood for 16 rounds (R227, log entry 20). -/
def Pad.needsChallenge (p : Pad) : Bool := p.chalDue || Nat.ble 15 p.chalAge

/-- The heartbeat at a round end, with the value of the LFSR if a new challenge is published. -/
def Pad.beat (p : Pad) (fresh : Nat) : Pad :=
  let p := if p.needsChallenge then { p with chal := fresh, chalAge := 0, chalDue := false }
    else { p with chalAge := p.chalAge + 1 }
  let p := { p with window := p.window - 1, quiet := satAdd 32 p.quiet 1 }
  p.windowEnd.lapse

/-! ### Staging, committing, restarts (R217, R219, R221, R223, R234 to R236, R240) -/

/-- A staged block expires (R234). -/
def Pad.expire (p : Pad) : Pad :=
  match p.staged with
  | some g => if g.left = 0 then { p with staged := none } else p
  | none => p

/-- A round passes for the staged block. -/
def Pad.ageStaged (p : Pad) : Pad :=
  match p.staged with
  | some g => { p with staged := some { g with left := g.left - 1 } }
  | none => p

/-- The copy a commit writes: one that is not valid, or the older (R236). -/
def Pad.olderCopy (p : Pad) : Nat :=
  match mget? p.copies 0, mget? p.copies 1 with
  | none, _ => 0
  | _, none => 1
  | some x, some y => if !x.valid then 0 else if !y.valid then 1 else if x.seq ≤ y.seq then 0 else 1

/-- The sequence number of the next copy. -/
def Pad.nextSeq (p : Pad) : Nat := p.copies.foldl (fun n e => max n (e.2.seq + 1)) 1

/-- A commit takes effect (R235): the outputs are off for this round, proof tests end with FAULT, and inputs that become
enabled start in stop. -/
def Pad.activate (p : Pad) : Pad :=
  match p.writing with
  | none => p
  | some w =>
    let old := p.block
    let p := { p with
      copies := mins p.copies p.olderCopy ⟨w.block, p.nextSeq, true⟩
      active := some w.block, writing := none, offRound := true }
    let p := p.forN 4 fun p n =>
      let o := p.outp n
      ((p.modOut n fun o => { o with test := false, testN := 0, cmds := [] }).replies o.cmds stFault).drive n false
    let p := p.forN 8 fun p n => p.when (!prmSinEn old n && prmSinEn w.block n) fun p => p.stopIn n
    (p.note 13 0 (crc32 w.block % 65536) clNone).reply w.cmd stOk

/-- PAD_STAGE (R234, R240). -/
def Pad.takeStage (p : Pad) (q : PadReq) : Pad :=
  { p with staged := some ⟨q.payload, 332000, 0⟩ }.reply q.cmd stOk
    (le 4 (crc32 q.payload) ++ le 1 (prmFirstBad q.payload))

/-- PAD_COMMIT (R234 checks 2 to 5, R236). -/
def Pad.takeCommit (p : Pad) (q : PadReq) : Pad :=
  match p.staged with
  | none => p.reply q.cmd stNotPermitted
  | some g =>
    if u32 q.payload 0 ≠ crc32 g.block then
      { p with staged := if 3 ≤ g.tries + 1 then none else some { g with tries := g.tries + 1 } }.reply q.cmd stBadParam (le 1 0xFF)
    else if prmFirstBad g.block ≠ 0xFF then p.reply q.cmd stBadParam (le 1 (prmFirstBad g.block))
    else if p.lane || p.clk then p.reply q.cmd stNotPermitted
    else { p with staged := none, writing := some ⟨g.block, q.cmd, 0⟩ }.reply q.cmd stAccepted

/-- PAD_PROOF (R220, R240). -/
def Pad.takeProof (p : Pad) (q : PadReq) : Pad :=
  let n := u8 q.payload 0
  if prmRole p.block n = 0 ∨ !(p.outp n).due then p.reply q.cmd stNotPermitted else p.proofStart n (some q.cmd)

/-- The mask PAD_RESTART releases (R217, R219, R221, R223). -/
def Pad.released (p : Pad) (m : Nat) : Nat :=
  maskOf 16 fun k => bit m k &&
    (if k < 8 then (p.sin k).wait && (p.sin k).a && (p.sin k).b && !(p.sin k).disc
     else if k = 8 then p.sltWait && Nat.ble 5 p.sltLo
     else if k = 9 then p.slpFault && p.slpEnd == 0 && p.slpErr == 0
     else decide (12 ≤ k) && ((p.outp (k - 12)).fbFault || ((p.outp (k - 12)).weld && !(p.outp (k - 12)).fb)))

/-- PAD_RESTART (R240): an input and SLT are released at the next round end, the other latches now. -/
def Pad.takeRestart (p : Pad) (q : PadReq) : Pad :=
  let m := p.released (u16 q.payload 0)
  let p := p.forN 8 fun p n => p.when (bit m n) fun p => p.modSin n fun i => { i with rst := true }
  let p := { p with sltRst := bit m 8, slpFault := p.slpFault && !bit m 9 }
  let p := p.forN 4 fun p n => p.when (bit m (12 + n)) fun p =>
    p.modOut n fun o => { o with fbFault := false, weld := o.weld && o.fb, mism := 0 }
  p.reply q.cmd stOk (le 2 m)

/-- The Paddock takes one request. -/
def Pad.take (p : Pad) (q : PadReq) : Pad :=
  match q.cmd.op with
  | 0x40 => p.takeStage q
  | 0x41 => p.takeCommit q
  | 0x42 => { p with staged := none }.reply q.cmd stOk
  | 0x43 => p.takeProof q
  | _ => p.takeRestart q

/-- The Paddock takes the requests of the mailbox in order; a commit waits while the store is being written. -/
def Pad.takeAll (p : Pad) (l : List PadReq) : Pad :=
  match l with
  | [] => p
  | q :: rest =>
    if q.cmd.op = 0x41 ∧ p.writing.isSome then { p with mail := q :: rest } else ({ p.take q with mail := rest }).takeAll rest

/-! ### The output decision (R211, R218, R224) -/

/-- Whether an output is stopped (R218). -/
def Pad.stops (p : Pad) (n : Nat) : Bool :=
  let b := p.block
  (List.range 8).any (fun i => prmSinEn b i && ((p.sin i).stop || (p.sin i).disc) && prmSinStops b i n) ||
    ((p.remStop || p.state != 0) && prmRem b n) ||
    (prmRole b n == 1 && (p.slt || p.sltWait)) || (p.outp n).fbFault ||
    (List.range 4).any (fun k => (p.outp k).weld && prmGroup b k == prmGroup b n) ||
    p.lane || p.clk || prmRole b n == 0

/-- Whether controller demand could energise an output (R218): a heat source needs PTS1 (R221, R238). -/
def Pad.canCall (p : Pad) (n : Nat) : Bool :=
  p.state == 0 && p.active.isSome && !(prmRole p.block n == 1 && (p.sens || !p.decided))

/-- Whether frost demand reaches an output (R218, R225, R238). -/
def Pad.frostsTo (p : Pad) (n : Nat) : Bool :=
  let b := p.block
  p.frost && (prmRole b n == 2 || (prmRole b n == 1 && p.decided && (!p.sens || prmFrostHs b)))

/-- Whether something holds an output off for the moment: a proof test or a commit (R220, R235). -/
def Pad.heldOff (p : Pad) (n : Nat) : Bool := (p.outp n).test || p.offRound

/-- plant[n] of R218. -/
def Pad.plant (p : Pad) (n : Nat) : Bool :=
  ((p.canCall n && bit p.dem n) || (p.state == 1 && (p.outp n).on) || p.frostsTo n) && !p.stops n && !p.heldOff n

/-- REFUSE (R224). -/
def Pad.refuses (p : Pad) : Bool :=
  !(List.range 4).any fun n => prmRole p.block n == 1 && p.canCall n && !p.stops n && !p.heldOff n

/-- SDIR acts only when MIX_EN is 1 (R222). -/
def Pad.sdirActs (p : Pad) : Bool := p.sdir && prmMixEn p.block

/-- SLP inhibits (R223). -/
def Pad.slpActs (p : Pad) : Bool :=
  prmSlpOn p.block && ((p.decided && Nat.ble (prmSlpMax p.block) p.pos) || p.endh || p.slpFault)

/-- INHIBIT (R224). -/
def Pad.inhibits (p : Pad) : Bool := p.sdirActs || p.slt || p.sltWait || p.slpActs

/-- The plant VOUT ceiling (R224); 0x000 while PV_EN is 0, when it acts on nothing. -/
def Pad.ceiling (p : Pad) : Nat :=
  if !prmPvEn p.block || p.refuses then 0 else if p.sdirActs then prmPvNear p.block else prmPvCeil p.block

/-- Every output goes off (R210, R211, R37). -/
def Pad.allOff (p : Pad) : Pad := p.forN 4 fun p n => p.drive n false

/-- Three rounds of disagreement latch LANE_FAULT (R211). -/
def Pad.laneFault (p : Pad) : Pad :=
  if Nat.ble 3 p.laneBad && !p.lane then ({ p with lane := true }.note 14 0 0 clPlant).allOff else p

/-- CLK_FAULT (R210). -/
def Pad.clkFault (p : Pad) : Pad := if p.clk then p else ({ p with clk := true }.note 14 0 1 clPlant).allOff

/-- Both lanes update the outputs, the gate and the ceiling (R209, R211, R218, R224). -/
def Pad.outputs (p : Pad) (i : RoundIn) : Pad :=
  let want := (List.range 4).map p.plant
  let stop := (List.range 4).map p.stops
  let inh := p.inhibits
  let ceil := p.ceiling
  let differ := (List.range 4).any (fun n => want.getD n false && i.off.getLsbD n) || (i.inh && !inh) || Nat.ble (i.ceil.toNat + 1) ceil
  let p := { p with inhibit := inh || i.inh, refuse := p.refuses, ceil := min ceil i.ceil.toNat, laneBad := runOf 3 p.laneBad differ }
  let p := p.forN 4 fun p n =>
    (p.modOut n fun o => { o with stop := stop.getD n true }).drive n (want.getD n false && !i.off.getLsbD n)
  { p with offRound := false }.laneFault

/-- A round end (R209): the proposal in the mailbox takes effect (R229), requests are taken, every function is evaluated
and the outputs are updated. `fresh` is the LFSR's value for a new challenge. -/
def Pad.roundEnd (p : Pad) (i : RoundIn) (fresh : Nat) : Pad :=
  let p := { p with endh := i.endh }.forN 4 fun p n => p.modOut n fun o => { o with fb := i.pfb.getLsbD n }
  let p := p.beat fresh
  let p := match p.prop with
    | some (dem, flow, call, rem) => { p with dem := dem, flow := flow, call := call, remStop := rem, prop := none }
    | none => p
  let p := if p.phase + 1 < 10 then { p with phase := p.phase + 1 } else ({ p with phase := 0 } : Pad).judge i
  let p := p.forN 8 Pad.inputEnd
  let p := { p.when p.sltRst Pad.sltRelease with sltRst := false }
  let p := p.forN 4 Pad.feedback
  let p := match p.writing with
    | some w => if 12 ≤ w.rounds + 1 then p.activate else { p with writing := some { w with rounds := w.rounds + 1 } }
    | none => p
  let p := p.takeAll p.mail
  (p.ageStaged.expire).outputs i

/-! ### What the Paddock drives in the hub (R177, R224, R230) -/

/-- ACT_MIX follows the Paddock (Table 6-9, 06_actuator_channels.md). -/
def State.mixFollow (s : State) : State :=
  let b := s.pad.block
  s.wrs [(R.ACT_MIX_BRIDGE, if prmMixEn b then bits (u8 b 4) 0 4 else 0x1F), (R.ACT_MIX_HOT_LEG, prmHotLeg b),
    (R.ACT_MIX_INHIBIT, b2n s.pad.inhibit), (R.ACT_MIX_PV_EN, b2n (prmPvEn b)), (R.ACT_MIX_PLANT_VOUT, bits (u8 b 4) 4 3),
    (R.ACT_MIX_CEIL, s.pad.ceil)]

/-- Whether a change of the Paddock is an event of R230. -/
def padEvent (p q : Pad) : Bool :=
  (List.range 4).any (fun n => (p.outp n).on != (q.outp n).on) ||
    (q.notes.drop p.notes.length).any fun e => [1, 2, 4, 5, 11, 12].contains e.kind

/-- The Paddock does a thing; without VDD_PAD it does nothing (R37). Its events wake the hub (R230). -/
def State.padDo (s : State) (f : Pad → Pad) : State :=
  if !s.pwr.pad then s
  else
    let q := f s.pad
    ({ s with pad := q }.mixFollow).when (padEvent s.pad q) fun s => s.wakeFires 4

/-- A nonzero challenge: the LFSR's next value is not described (R227; log entry 20). -/
def State.drawChallenge (s : State) : Nat × State := ((s.draw 16).1 % 65535 + 1, (s.draw 16).2)

/-- ROUND_END. -/
def State.padRound (s : State) (i : RoundIn) : State :=
  if !s.pwr.pad then s
  else if s.pad.needsChallenge then
    let d := s.drawChallenge
    d.2.padDo fun p => p.roundEnd i d.1
  else s.padDo fun p => p.roundEnd i p.chal

/-- PAD power-up (R236, R238): the valid copy with the higher sequence number is loaded, or the defaults; the mailbox keeps
what the controller put into it. -/
def Pad.powerUp (p : Pad) (chal : Nat) : Pad :=
  let good := (p.copies.filter fun e => e.2.valid).map (·.2)
  { active := (good.foldl (fun (best : Option PadCopy) c => match best with
      | none => some c
      | some b => if b.seq < c.seq then some c else some b) none).map (·.block)
    copies := p.copies, chal := chal, out := p.out, mail := p.mail, res := p.res, lossSeen := p.lossSeen }

/-- A copy whose write was cut off is not valid (R236). -/
def spoil (m : Map PadCopy) (k : Nat) : Map PadCopy :=
  match mget? m k with
  | none => m
  | some c => mins m k { c with valid := false }

/-- VDD_PAD is lost (R37, R236): the outputs are low, a store write or a proof test under way comes to nothing. -/
def Pad.lose (p : Pad) : Pad :=
  let p := match p.writing with
    | none => p
    | some w => ({ p with copies := spoil p.copies p.olderCopy, writing := none } : Pad).reply w.cmd stFault
  p.forN 4 fun p n =>
    ((p.modOut n fun o => { o with test := false, cmds := [] }).replies (p.outp n).cmds stFault).modOut n fun o => { o with on := false }

/-- The snapshot fields of block 0x40 (Tables 8-10 to 8-13 and 8-15 to 8-17). -/
def Pad.snapshot (p : Pad) : List (Nat × Nat) :=
  let b := p.block
  [(R.PAD_STAT_STATE, p.state), (R.PAD_STAT_COMMITTED, b2n p.active.isSome), (R.PAD_STAT_STAGED, b2n p.staged.isSome),
    (R.PAD_STAT_FROST, b2n p.frost), (R.PAD_STAT_SLT_TRIP, b2n p.slt), (R.PAD_STAT_SLT_WAIT, b2n p.sltWait),
    (R.PAD_STAT_SLT_SENS, b2n p.sens), (R.PAD_STAT_SDIR, b2n p.sdirActs), (R.PAD_STAT_INHIBIT, b2n p.inhibit),
    (R.PAD_STAT_SLP_FAULT, b2n p.slpFault), (R.PAD_STAT_REFUSE, b2n p.refuse), (R.PAD_STAT_LANE_FAULT, b2n p.lane),
    (R.PAD_STAT_CLK_FAULT, b2n p.clk), (R.PAD_STAT_WINDOW, p.window), (R.PAD_STAT_HB_OK, p.hbOk)] ++
  ((List.range 4).flatMap fun n =>
    let o := p.outp n
    [(R.PAD_PLANT_PROP n, b2n (bit p.dem n)), (R.PAD_PLANT_OUT n, b2n o.on), (R.PAD_PLANT_FB n, b2n o.fb),
      (R.PAD_PLANT_STOP n, b2n o.stop), (R.PAD_PLANT_FB_FAULT n, b2n o.fbFault), (R.PAD_PLANT_WELD n, b2n o.weld),
      (R.PAD_PLANT_PROOF n, b2n o.test), (R.PAD_PLANT_DUE n, b2n o.due),
      (R.PAD_PROOF_AGE n, min 0xFFFF (o.age / 65536)), (R.PAD_PROOF_DUE n, b2n o.due), (R.PAD_PROOF_PASS n, b2n o.pass),
      (R.PAD_PROOF_FAIL n, b2n o.fail)]) ++
  ((List.range 8).flatMap fun n =>
    let i := p.sin n
    [(R.PAD_SIN_A n, b2n i.a), (R.PAD_SIN_B n, b2n i.b), (R.PAD_SIN_STOP n, b2n i.stop), (R.PAD_SIN_DISCREPANT n, b2n i.disc),
      (R.PAD_SIN_WAIT_RST n, b2n i.wait), (R.PAD_SIN_EN n, b2n (prmSinEn b n))]) ++
  [(R.PAD_MEAS_PTS0, p.temp 0), (R.PAD_MEAS_OPEN0, b2n (bit (p.flags 0) 0)), (R.PAD_MEAS_SHORT0, b2n (bit (p.flags 0) 1)),
    (R.PAD_MEAS_PTS1, p.temp 1), (R.PAD_MEAS_OPEN1, b2n (bit (p.flags 1) 0)), (R.PAD_MEAS_SHORT1, b2n (bit (p.flags 1) 1)),
    (R.PAD_MEAS_POS, p.pos), (R.PAD_MEAS_POS_ERR, b2n (p.flags 2 != 0)), (R.PAD_MEAS_ENDH, b2n p.endh),
    (R.PAD_MEAS_FLOW_REQ, p.flow), (R.PAD_MEAS_CALL, b2n p.call), (R.PAD_MEAS_CEIL, p.ceil),
    (R.PAD_ACTIVE_BLOCK, ofLe b), (R.PAD_ACTIVE_CHECK, crc32 b)] ++
  match p.staged with
  | none => [(R.PAD_STAGED_BLOCK, 0), (R.PAD_STAGED_CHECK, 0), (R.PAD_STAGED_FIRST_BAD, 0xFF), (R.PAD_STAGED_VALID, 0),
      (R.PAD_STAGED_TRIES, 0)]
  | some g => [(R.PAD_STAGED_BLOCK, ofLe g.block), (R.PAD_STAGED_CHECK, crc32 g.block),
      (R.PAD_STAGED_FIRST_BAD, prmFirstBad g.block), (R.PAD_STAGED_VALID, 1), (R.PAD_STAGED_TRIES, g.tries)]

/-- The snapshot attributes. -/
def padSnapIds : List Nat := [0x4000, 0x4001, 0x4002, 0x4003, 0x4005, 0x4006, 0x4007]

/-- The snapshot fields at their Reset values (Reference, 08_paddock.md). -/
def State.padSnapReset (s : State) : State := s.each padSnapIds State.clearAttr

/-- What the snapshot reports becomes events, faults and odometer increments (R239, R241, Table 10-5). -/
def State.padReport (s : State) (e : PadNote) : State :=
  let s := if e.kind = 0 then s else s.note 0x40 e.kind e.unit e.data
  if e.cls = 6 then s.hayAsk 249 (.odInc (3 + e.unit) none)
  else if e.cls = clNone then s
  else s.fault e.cls 0x40 e.kind e.unit e.data

/-- The proposal of R229, with REM_RUN of R261 as the remote stop. -/
def State.proposal (s : State) : Nat × Nat × Bool × Bool :=
  let b := s.pad.block
  let call := s.on R.ZON_DEMAND_CALL
  (maskOf 4 fun n => match prmRole b n with
    | 0 => false
    | 3 => bit (s.rd R.PAD_CTL_AUX) n
    | _ => call,
   s.rd R.ZON_DEMAND_FLOW_REQ, call, !s.on R.BUS_STAT_REM_RUN)

/-- PAD_XCH (Table 1-8, R227, R229, R239, R240): replies come back, the snapshot is taken, the proposal, the heartbeat
response and the waiting requests go into the mailbox. Without VDD_PAD the snapshot stops and a PLANT fault is queued
(Corners). -/
def State.padXch (s : State) : State :=
  let res := s.pad.res
  let s := { s with pad.res := [] }.each res fun s r =>
    if r.status = stAccepted then s.accepted r.cmd r.extra else s.finish r.cmd r.status r.extra
  if !s.pwr.pad then
    if s.pad.lossSeen then s else { s with pad.lossSeen := true }.fault clPlant 0x40 0 0 0
  else
    let p := s.pad
    let s := { (s.wrs p.snapshot).count R.PAD_STAT_HB_BAD 255 p.hbBad with
      pad := { p with hbBad := 0, notes := [], lossSeen := false, mail := p.mail ++ p.out, out := [] } }
    let s := s.each p.notes State.padReport
    { s with pad.prop := some s.proposal }.padDo fun p => p.respond (heartbeat p.chal)

/-! ### Opcodes (R240) -/

/-- A request goes to the Paddock with the next PAD_XCH. -/
def State.padAsk (s : State) (r : Ref) (p : Bytes) : State := { s with pad.out := s.pad.out ++ [⟨r, p⟩] }

def State.doPadStage (s : State) (r : Ref) (p : Bytes) : State :=
  s.checked r [lengthIs p 56,
    permitted (!(decide (r.ch < 24) && (s.chan r.ch).bind.isNone) && !s.on R.PWR_STAT_PFSEQ)] fun s => s.padAsk r p

def State.doPadCommit (s : State) (r : Ref) (p : Bytes) : State :=
  s.checked r [lengthIs p 4, permitted (r.ch == 24)] fun s => s.padAsk r p

def State.doPadCancel (s : State) (r : Ref) (p : Bytes) : State :=
  s.checked r [lengthIs p 0] fun s => s.padAsk r p

def State.doPadProof (s : State) (r : Ref) (p : Bytes) : State :=
  s.checked r [lengthIs p 1, param (decide (3 < u8 p 0))] fun s => s.padAsk r p

def State.doPadRestart (s : State) (r : Ref) (p : Bytes) : State :=
  s.checked r [lengthIs p 2, param (u16 p 0 == 0 || bits (u16 p 0) 10 2 != 0),
    permitted (decide (24 ≤ r.ch ∧ r.ch ≤ 30))] fun s => s.padAsk r p

end Sys2Proof.Machine
end

