-- ==== Sys2Proof/Machine/ZoneCommands.lean ====
section
/-!
DEFINITION. Sys2Proof/Machine/ZoneCommands.lean: the rows of spec/04_zones_loops.md: zone events and zone opcodes.
-/

namespace Sys2Proof.Machine

/-! ### Events -/

/-- SENSOR_LOST (R112): applied once 10 consecutive runs have been invalid. -/
def execSensorLost (n : Fin 48) (s : State) : Host.Outcome State Fault Refusal := .next (s.zonSensorLost n)

/-- UNOCCUPIED (R121). -/
def execUnoccupied (n : Fin 48) (s : State) : Host.Outcome State Fault Refusal := .next (s.zonUnoccupied n)

/-- WINDOW_CLOSE (R120): WIN_MAX stages after the window opened. -/
def execWindowClose (n : Fin 48) (s : State) : Host.Outcome State Fault Refusal := .next (s.zonWindowExpire n)

/-- HOLD_END (R119): a timed hold whose HOLD_LEFT is 0. -/
def execHoldEnd (n : Fin 48) (s : State) : Host.Outcome State Fault Refusal := .next (s.zonHoldExpire n)

/-- GAP (R129): the first commit after a read has freed an entry. -/
def execGap (n : Fin 48) (s : State) : Host.Outcome State Fault Refusal := .next (s.zonGap n)

/-! ### Opcodes 0x10 to 0x18 (Table 4-17, R132) -/

/-- The checks every zone opcode starts with: LENGTH, then the ZONE byte. -/
def zoneHead (p : Bytes) (n : Nat) : List (Bool × Nat) := [lengthIs p n, param (decide (47 < u8 p 0))]

/-- ZON_HOLD (R119, R127). -/
def State.doZonHold (s : State) (r : Ref) (p : Bytes) : State :=
  let n := u8 p 0
  let mode := u8 p 1
  let sp := u16 p 2
  let dur := u32 p 4
  s.checked r (zoneHead p 8 ++
    [param (decide (3 < mode) || (decide (mode ≠ 0) && (decide (sp < s.rd (R.ZON_CFG_FROST n)) || decide (s.rd (R.ZON_CFG_MAX n) < sp))) ||
        (decide (mode = 1) && (decide (dur = 0) || decide (31536000 < dur))) || (decide (mode ≠ 1) && decide (dur ≠ 0)) || decide (4095 < sp)),
      permitted (!s.limp && s.zoneOn n && (decide (mode ≠ 2) || s.on R.ZON_CLOCK_VALID))]) fun s =>
    (s.modZone n fun z => { z with holdCmd := some (mode, sp, dur) }).ok r

/-- The switch points of a ZON_SCHED_WRITE. -/
def schedPoints (p : Bytes) : List SwPoint :=
  (List.range (u8 p 2)).map fun i => ⟨u16 p (4 + 4 * i) % 2048, u16 p (6 + 4 * i)⟩

/-- Whether minutes ascend strictly. -/
def ascending (l : List Nat) : Bool :=
  match l with
  | [] => true
  | x :: rest => (rest.all fun y => decide (x < y)) && ascending rest

/-- Take over the days that earlier writes to the same zone have not had admitted; an earlier write with no day left ends
(R118). -/
def State.schedSupersede (s : State) (zone days : Nat) : State :=
  s.each (s.hay.scheds.filter fun q => q.zone == zone) fun (s : State) (q : SchedReq) =>
    let open_ (r : HayReq) : Bool := match r.what with
      | .sched req day => req == q.id && bit days day && !s.escHolds (escOf r) && !(s.hay.cur.any fun w => w.req.id == r.id)
      | _ => false
    let taken := s.hay.reqs.filter open_
    let lost := taken.foldl (fun m r => match r.what with | .sched _ day => m + 2 ^ day | _ => m) 0
    let s := s.each taken fun s r => s.hayDrop r
    if lost = 0 then s
    else
      let q : SchedReq := { q with days := q.days - lost, superseded := true }
      if q.days = 0 then
        ({ s with hay.scheds := s.hay.scheds.filter (fun x => x.id != q.id) }).finish q.cmd (if q.stored = 0 then stSuperseded else stOk)
      else { s with hay.scheds := s.hay.scheds.map fun x => if x.id = q.id then q else x }

/-- ZON_SCHED_WRITE (R116, R117, R118): one page commit per named day. -/
def State.doZonSchedWrite (s : State) (r : Ref) (p : Bytes) : State :=
  let n := u8 p 0
  let days := u8 p 1
  let count := u8 p 2
  let pts := schedPoints p
  s.checked r
    [(decide (p.length < 3), stBadLength), param (decide (12 < count)), lengthIs p (4 + 4 * count), param (decide (47 < n)),
      param (decide (days = 0 ∨ 127 < days) || !ascending (pts.map (·.minute)) ||
        pts.any fun x => decide (1439 < x.minute ∨ 4095 < x.sp)),
      permitted (!s.limp)] fun s =>
    let id := s.hay.nextId
    let s := (s.accepted r).schedSupersede n days
    let s := { s with hay.nextId := id + 1, hay.scheds := s.hay.scheds ++ [(⟨id, r, n, days, 0, pts, false⟩ : SchedReq)] }
    s.each ((List.range 7).filter fun d => bit days d) fun s d =>
      if (s.schedOf id).isSome then s.hayAsk 249 (.sched id d) else s

/-- ZON_SCHED_READ: the day program as stored, including one that takes effect at the next loop run. -/
def State.doZonSchedRead (s : State) (r : Ref) (p : Bytes) : State :=
  let n := u8 p 0
  let d := u8 p 1
  s.checked r (zoneHead p 2 ++ [param (decide (6 < d))]) fun s =>
    let z := s.zone n
    let prog := (mget? z.newDays d).getD (mget [] z.days d)
    s.ok r (le 1 prog.length ++ prog.flatMap fun x => le 2 x.minute ++ le 2 x.sp)

/-- ZON_REMOTE_T: deliver a remote temperature or humidity (Table 4-1). -/
def State.doZonRemoteT (s : State) (r : Ref) (p : Bytes) : State :=
  let n := u8 p 0
  let flags := u8 p 1
  let t := u16 p 2
  let h := u16 p 4
  s.checked r (zoneHead p 6 ++
    [param (decide (flags = 0 ∨ 3 < flags) || (bit flags 0 && decide (4095 < t)) || (bit flags 1 && decide (0xFA0 < h))),
      permitted (!s.limp && (!bit flags 0 || s.rd (R.ZON_CFG_SRC_KIND n) == 3) && (!bit flags 1 || s.rd (R.ZON_CFG_HUM_KIND n) == 3))])
    fun s =>
    (s.modZone n fun z =>
      { z with
        remT := if bit flags 0 then some (t, s.stage) else z.remT
        remH := if bit flags 1 then some (h, s.stage) else z.remH }).ok r

/-- ZON_WINDOW (R120, R127). -/
def State.doZonWindow (s : State) (r : Ref) (p : Bytes) : State :=
  let n := u8 p 0
  s.checked r (zoneHead p 2 ++ [param (decide (1 < u8 p 1)), permitted (!s.limp && s.zoneOn n)]) fun s =>
    (s.modZone n fun z => { z with winCmd := some (u8 p 1 == 1) }).ok r

/-- ZON_PRESENCE (R121, R127). -/
def State.doZonPresence (s : State) (r : Ref) (p : Bytes) : State :=
  let n := u8 p 0
  s.checked r (zoneHead p 1 ++ [permitted (!s.limp && s.zoneOn n)]) fun s =>
    (s.modZone n fun z => { z with presence := true }).ok r

/-- The data of a zone's stored object: ZON_CFG_n, ZON_LOOP_n and EN bit n (R268, 10_hayloft.md). -/
def State.zoneImage (s : State) (n : Nat) : Bytes :=
  s.attrImage [0x1040 + n, 0x1070 + n] ++ le 1 (b2n (s.zoneOn n))

/-- ZON_SAVE: one page commit per bit set. -/
def State.doZonSave (s : State) (r : Ref) (p : Bytes) : State :=
  let m := ofLe (p.take 8)
  s.checked r [lengthIs p 8, param (decide (2 ^ 49 ≤ m)), permitted (!s.limp)] fun s =>
    s.saveObjects r (((List.range 48).filter fun n => bit m n).map (fun n => (0x20 + n, s.zoneImage n)) ++
      (if bit m 48 then [(0x10, s.attrImage [0x1003])] else []))

/-- ZON_EVT_READ: remove and return up to MAX entries; a read that frees an entry makes GAP due when entries were lost
(R129). -/
def State.doZonEvtRead (s : State) (r : Ref) (p : Bytes) : State :=
  let n := u8 p 0
  let top := u8 p 1
  s.checked r (zoneHead p 2 ++ [param (decide (top = 0 ∨ 16 < top))]) fun s =>
    let l := (s.zone n).entries.take top
    (s.modZone n fun z =>
      { z with entries := z.entries.drop top, gapDue := z.gapDue || (decide (0 < z.lost) && !l.isEmpty) }).ok r
      (le 1 l.length ++ l.flatMap (le 8))

/-- ZON_LOOP_RESET (R125, R127). -/
def State.doZonLoopReset (s : State) (r : Ref) (p : Bytes) : State :=
  let n := u8 p 0
  s.checked r (zoneHead p 1 ++ [permitted (!s.limp)]) fun s => (s.modZone n fun z => { z with iReset := true }).ok r

def execZonHold (c : Cmd) (s : State) : Host.Outcome State Fault Refusal := .next (s.command c 0x10 State.doZonHold)
def execZonSchedWrite (c : Cmd) (s : State) : Host.Outcome State Fault Refusal := .next (s.command c 0x11 State.doZonSchedWrite)
def execZonSchedRead (c : Cmd) (s : State) : Host.Outcome State Fault Refusal := .next (s.command c 0x12 State.doZonSchedRead)
def execZonRemoteT (c : Cmd) (s : State) : Host.Outcome State Fault Refusal := .next (s.command c 0x13 State.doZonRemoteT)
def execZonWindow (c : Cmd) (s : State) : Host.Outcome State Fault Refusal := .next (s.command c 0x14 State.doZonWindow)
def execZonPresence (c : Cmd) (s : State) : Host.Outcome State Fault Refusal := .next (s.command c 0x15 State.doZonPresence)
def execZonSave (c : Cmd) (s : State) : Host.Outcome State Fault Refusal := .next (s.command c 0x16 State.doZonSave)
def execZonEvtRead (c : Cmd) (s : State) : Host.Outcome State Fault Refusal := .next (s.command c 0x17 State.doZonEvtRead)
def execZonLoopReset (c : Cmd) (s : State) : Host.Outcome State Fault Refusal := .next (s.command c 0x18 State.doZonLoopReset)

/-- Whether the write under way is the commit of a zone's day and has ended. -/
def State.dayEnded (s : State) (n day : Nat) : Bool :=
  s.hay.cur.any fun w => w.ended && match w.req.what with
    | .sched req d => d == day && s.hay.scheds.any fun q => q.id == req && q.zone == n
    | _ => false

/-- ZON_SCHED_DAY_STORED (R116): the commit of a day has ended. -/
def execZonSchedDayStored (n : Fin 48) (day : Fin 7) (s : State) : Host.Outcome State Fault Refusal :=
  .next (s.when (s.dayEnded n day) State.hayWriteEnd)

/-! ### Writes of zone attributes with a row of their own -/

/-- Take a written value: refused values change nothing (R10, R82). -/
def State.zonWrite (s : State) (id v : Nat) : State :=
  if s.zonCheck id v = stOk then (s.setRw id v).zonHook id (s.attrRaw id) else s

/-- ZON_CLOCK_WRITE (R114): a write sets the local time of week and makes VALID 1. -/
def execZonClockWrite (v : BitVec 64) (s : State) : Host.Outcome State Fault Refusal := .next (s.zonWrite 0x1001 v.toNat)

/-- ZON_ENABLE_WRITE (R109). -/
def execZonEnableWrite (v : BitVec 64) (s : State) : Host.Outcome State Fault Refusal := .next (s.zonWrite 0x1000 v.toNat)

end Sys2Proof.Machine
end

