-- ==== Sys2Proof/Machine/Reset.lean ====
section
/-!
DEFINITION. Sys2Proof/Machine/Reset.lean: the hub reset and its cause (R38 to R45, 02_power_reset.md), hayloft recall (R279,
10_hayloft.md), boot (R46) and the first tick (R106, 03_spoke_packets.md).
-/

namespace Sys2Proof.Machine

/-! ### The cause latch (R45, Table 2-11) -/

/-- CAUSE takes its value, and DIE and STAGE are taken with it. -/
def State.causeLatch (s : State) (cause : Nat) : State :=
  s.wrs [(R.PWR_CAUSE_CAUSE, cause), (R.PWR_CAUSE_DIE, s.rd R.THM_STAT_HOT), (R.PWR_CAUSE_STAGE, s.stage % 2 ^ 32)]

/-- A cause while the reset lasts: CAUSE holds the highest of the causes. -/
def State.causeJoin (s : State) (cause : Nat) : State :=
  if causeRank cause < causeRank (s.rd R.PWR_CAUSE_CAUSE) then s.causeLatch cause else s

/-! ### What a hub reset clears (Table 2-2, and the Reference of each chapter) -/

/-- The VOUT fields that follow the ramp hardware, which runs through the reset (Table 2-4). -/
def rampFields : List Nat :=
  (List.range 8).flatMap fun v =>
    [R.ACT_VOUT_TARGET v, R.ACT_VOUT_CODE v, R.ACT_VOUT_MOVING v, R.ACT_VOUT_CEILED v, R.ACT_VOUT_DAC v]

/-- Single fields that a hub reset leaves: levels of pins and rails, hayloft's own storage, fuses. -/
def fieldsKept : List Nat :=
  [R.PWR_STAT_PFI, R.HAY_STAT_WP, R.HAY_STAT_SPARES, R.HAY_GROOM_NEXT, R.HAY_GROOM_SWEEPS] ++ rampFields ++
    (List.range 12).map R.PWM_GRP_FLT_IN ++ (List.range 4).map R.STB_SP_SPARES

/-- Whether a hub reset leaves a field: the always-on domain's, the ones above, and those that the reset of their own unit
has dealt with. -/
def keptAtReset (key : Nat) : Bool :=
  let id := key / 1024
  [0x0201, 0x0207, 0x0208, 0x0209, 0x1001, 0x2402, 0x3803, 0x7004].contains id || decide (0x6000 ≤ id ∧ id ≤ 0x6008) ||
    decide (0x6400 ≤ id ∧ id ≤ 0x6404) || decide (0x6800 ≤ id ∧ id < 0x6830) || fieldsKept.contains key

/-- Hayloft's controller: every request is gone, a loaded write goes on (R40), and the sequence counters stay (R285). -/
def State.hayReset (s : State) : State :=
  let h := s.hay
  let logs := (List.range 16).foldl (fun m i => mput {} m i { next := (s.log i).next }) ([] : Map LogStream)
  { s with hay := {
      mem := h.mem, held := h.held, spare := h.spare, bad := h.bad, ecc := h.ecc, weak := h.weak, cur := h.cur,
      nextId := h.nextId, logs := logs, spareTurn := h.spareTurn, resolved := h.resolved, pfRan := h.pfRan } }

/-- Spoke: every session and every queue; a channel that was in use starts a new session, which no old command belongs to. -/
def State.spokeReset (s : State) : State :=
  { s with
    spoke := { chans := s.spoke.chans.map fun (e : Nat × Channel) => (e.1, { epoch := e.2.epoch + 1 }) }
    host := { ctsLow := s.host.ctsLow }
    console := {} }

/-- The zones keep their sequence counters (R128). -/
def State.zonReset (s : State) : State :=
  { s with zones := s.zones.foldl (fun m (e : Nat × Zone) => mput {} m e.1 { seq := e.2.seq }) [] }

/-- Actuators: the ramp hardware goes on with the position it has (Table 2-4). -/
def State.actReset (s : State) : State :=
  { s with act := { ramps := s.act.ramps } }

/-- The debug port keeps its registers; halts, resumes, loud reads and the power-fail lock end (R449, R453, R457). -/
def State.dbgClear (s : State) : State :=
  { s with dbg := { s.dbg with
      halted := 0, haltPend := 0, resume := 0, noHalt := false, loud := false, relock := false } }

/-- Supplies and escrow: waits and holds end, samples are discarded, the sequence under way is over, and a Kickstand image not
yet committed is dropped (R41). -/
def State.pwrReset (s : State) : State :=
  { s with pwr := { s.pwr with
      held := true, booted := false, bootWait := false, pfTicks := 0, pfDue := false, quiet := false, pfSnap := [],
      pfGroups := 0, samples := [], wait := [], hold := [], pendMode := none, fwStep := 0, wakeDue := false, force := [1],
      ksStage := none } }

/-- The controller domain is reset and every output group takes its reset state (R42, R44, Table 2-2, Table 2-4). -/
def State.domainReset (s : State) (commanded : Bool) : State :=
  let s := { s with pwr.ksFault := s.pwr.ksFault || s.pwr.ks.bad }.forceOn 1
  let s := s.padDo Pad.rearmLine
  let s := ((s.dspReset.segReset.stbReset.thmReset).secReset commanded).fltReset.cadReset
  let s := s.hayReset.spokeReset.zonReset.actReset.dbgClear.pwrReset
  let s := { s with
    pwm := {}, adc := {}, bus := {}, pad := { s.pad with out := [], lossSeen := false }
    regs := s.regs.filter fun e => keptAtReset e.1 }
  s.wrs [(R.HAY_STAT_RECALL, 1), (R.PWR_KSTAT_PENDING, 0)]

/-- A hub reset is asserted with a cause; a cause that comes while the reset lasts starts no new one (R45). -/
def State.hubReset (s : State) (cause : Nat) : State :=
  if s.pwr.held && !s.pwr.booted then s.causeJoin cause
  else ((s.wr R.PWR_CAUSE_PREV (s.rd R.PWR_CAUSE_CAUSE)).causeLatch cause).domainReset (cause == 3)

/-! ### Supplies -/

/-- Whether the main rails are good. -/
def State.mainGood (s : State) : Bool := s.pwr.core && s.pwr.v18 && s.pwr.io && s.pwr.adc

/-- The write in progress loses its supply (R274, R278, R283): what its page reads is settled by the commit marker, and an
increment by pair program is made or lost. -/
def State.hayInterrupt (s : State) : State :=
  match s.hay.cur with
  | none => s
  | some w =>
    let s := { s with hay.cur := none }
    if w.ended && !w.failed then s
    else if w.pair then
      let d := s.draw 1
      if w.go && d.1 == 1 then d.2.putPage w.page w.image else d.2
    else if w.marked then
      { s with hay.held := mins s.hay.held w.page w.image, hay.resolved := some (true, w.page) }
    else { s with hay.resolved := some (false, w.page) }

/-- A hub reset does not stop a write: the NVM clock domain finishes it before recall (R40). One that fails leaves its
image held. -/
def State.hayFinish (s : State) : State :=
  match (times 6 (fun s => s.hayPhaseEnd true) s).hay.cur with
  | none => s
  | some w =>
    let s := { times 6 (fun s => s.hayPhaseEnd true) s with hay.cur := none }
    if w.failed then { s with hay.held := mins s.hay.held w.page w.image, hay.resolved := some (true, w.page) } else s

/-! ### Boot (R46, Table 2-5) -/

/-- The head of a log ring: its open page goes on where it stood (R279, R286). -/
def State.logHead (s : State) (stream : Nat) : State :=
  match s.headPage stream with
  | none => s
  | some i =>
    let l := pageRecords (s.page (0x400 + 64 * stream + i))
    s.modLog stream fun x => { x with open_ := l, kept := l.length, page := i }

/-- Hayloft recall: the write is finished or resolved, then the heads of the rings are read (R279). -/
def State.recall (s : State) : State :=
  let s := s.hayFinish.wr R.HAY_STAT_RECALL 0
  let s := s.each (List.range 16) State.logHead
  match s.hay.resolved with
  | none => s
  | some (fwd, _) => s.wrs [(R.HAY_STAT_RESOLVED, 1), (R.HAY_STAT_FWD, b2n fwd)]

/-- Take attributes from a stored object; without a valid copy they keep their Reset values (R268). -/
def State.restore (s : State) (obj : Nat) (ids : List Nat) : State :=
  match s.objData obj with
  | none => s
  | some b => s.setImage ids b

/-- The switch points of a stored day program (Table 4-3). -/
def storedPoints (b : Bytes) : List SwPoint :=
  (List.range (min 12 (u8 b 0))).map fun i => ⟨u16 b (4 + 4 * i), u16 b (6 + 4 * i)⟩

/-- A zone takes its stored configuration and day programs, and owes its RESTART and LIMP entries (R116, R128, R131, R268, R440). -/
def State.zoneBoot (s : State) (n : Nat) : State :=
  let s := s.restore (0x20 + n) [0x1040 + n, 0x1070 + n]
  let days := (List.range 7).foldl (fun m d =>
    let b := s.page (0x100 + 7 * n + d)
    if erasedPage b then m else mput [] m d (storedPoints b)) ([] : Map (List SwPoint))
  let s := s.modZone n fun z => { z with days := days }
  let en := match s.objData (0x20 + n) with
    | none => false
    | some b => u8 b 32 == 1
  let leaving := s.on R.FLT_LAST_LIMP_OWED && s.rd R.FLT_LAST_STREAK == 2 && s.rd R.PWR_CAUSE_CAUSE == 3
  let limp := if s.limp then some 1 else if leaving then some 0 else none
  if en then
    ((s.wr R.ZON_ENABLE_EN (setBit (s.rd R.ZON_ENABLE_EN) n true)).zonEnable n).modZone n fun z => { z with restart := true, limpDue := limp }
  else s

/-- The actuators' stored fields, image and enabled groups (R179). -/
def State.actBoot (s : State) : State :=
  match s.objData 0x60 with
  | none => s
  | some b =>
    let s := s.setImage ((List.range 12).map (· + 0x2010)) (sub b 4 192)
    let s := s.setImage (actAttrs.drop 13) (b.drop 236)
    let s := s.ksStageImage (ofLe (sub b 196 40))
    { s with act.enable := u16 b 0 % 4096 }

/-- Firmware start-up restores the stored configuration (Table 2-5, R268). -/
def State.restoreAll (s : State) : State :=
  let s := (s.restore 0x01 [0x0203, 0x0205]).restore 0x02 [0x5001]
  let s := (s.restore 0x10 [0x1003]).each (List.range 48) State.zoneBoot
  (s.actBoot.restore 0x61 adcAttrs).restore 0x62 busAttrs

/-- The boot steps up to the end of start-up; with PFI qualified boot pauses (Corners). Calibration of the delay lines starts,
and its end comes by DELAY_LINE_CAL_DONE (R152, log entry 36). -/
def State.bootRun (s : State) (uart : Bool) (rings : List (BitVec 12)) : State :=
  let s := { s with cad.refOn := true, dbg.sram := [], host.uart := uart, pwm.calRun := true }
  let s := s.recall.secBoot.fltBoot.restoreAll.stbBoot
  let s := s.tableLoad (if s.limp then .limp (s.rd R.FLT_STAT_LIMP_CORE) else .dflt)
  let s := (s.wrB R.ADC_STAT_LIMP s.limp).thmFirst rings
  { s with pwr.booted := true, pwr.bootWait := s.on R.PWR_STAT_PFI }

/-- Whether the reset is released: every rail good, no trigger left, and the hub not in Standby (R35, R39, R394, R446). -/
def State.released (s : State) : Bool :=
  s.pwr.held && !s.pwr.booted && s.mainGood && s.pwr.aon && !s.pwr.standby && !s.dbg.tapHold && !s.thm.cut

/-- BOOT (R46). -/
def State.boot (s : State) (uart : Bool) (rings : List (BitVec 12)) : State :=
  if s.released then s.bootRun uart rings else s

/-! ### The first tick -/

/-- Records lost at the reset are reported, ahead of any later one (R288). -/
def State.resetLost (s : State) (stream : Nat) : State :=
  let n := s.committedNext stream
  let next := (s.log stream).next
  if n < next then
    (s.modLog stream fun l => { l with lost := some (next - n, n, next - 1) }).overflow stream 1
  else s

/-- What recall resolved is told, and the completions of rolled-forward pages are requested (R279, R280). -/
def State.recallTold (s : State) : State :=
  let s := match s.hay.resolved with
    | none => s
    | some (fwd, page) =>
      (({ s with hay.resolved := none }.record 0 0x03 (le 1 (b2n fwd) ++ le 2 page)).hayNote 3 (b2n fwd) page).fault
        clNote 0x50 3 (b2n fwd) page
  s.each s.hay.held fun s (e : Nat × Bytes) => s.hayAsk 249 (.complete e.1)

/-- The odometers of firmware (Table 10-5) and the deferred thermal record (R395). -/
def State.firstOdometers (s : State) : State :=
  let s := s.hayAsk 249 (.odInc 0 none)
  let s := if s.hay.pfRan then { s with hay.pfRan := false }.hayAsk 249 (.odInc 1 none) else s
  if s.on R.THM_LAST_PEND then (s.record 0 0x10 s.thmData).hayAsk 249 (.odInc 2 none) else s

/-- Stored objects that have no valid copy left, though one was stored, are faults (R270). -/
def State.brokenTold (s : State) : State :=
  let s := s.each (allObjects.filter s.objBroken) fun s o => s.fault clDegrade 0x50 0 o 0
  s.each ((List.range 32).filter s.odoBroken) fun s k => s.fault clDegrade 0x50 0 0 k

/-- The stored PWM groups are enabled after the first tick (R179). -/
def State.groupsBoot (s : State) : State :=
  let m := s.act.enable
  ({ s with act.enable := 0 }).each ((List.range 12).filter fun g => bit m g) State.grpEnable

/-- The ports and connections start (R263); in limp mode no port runs. -/
def State.portsBoot (s : State) : State :=
  let s := s.busBoot
  if s.limp then s.busStopAll else s

/-- HUB_READY on channel 0, then the console's channel opens (R64, R106, R108). -/
def State.sessionsBoot (s : State) : State :=
  let s := s.modChan 0 (raiseOn 0 0 (le 1 (s.rd R.PWR_CAUSE_CAUSE + 16 * s.rd R.PWR_CAUSE_PREV)))
  s.modChan 24 fun c => { c with isOpen := true }

/-- Halts held through the reset take effect, and the Kickstand force of the reset lifts (R44, R150, R449). -/
def State.firstRelease (s : State) : State :=
  let s := s.when s.pwr.ksFault fun s => ({ s with pwr.ksFault := false }.fault clDegrade 0x02 0 0 0)
  s.forceOff 1 true

/-- The first tick: the sequencer starts at a tick edge with four reserve samples taken (R46, R48, Table 2-5). -/
def State.firstTickRun (s : State) (samples : List Nat) : State :=
  let s := { s with cad.now := (s.cad.now + 31) / 32 * 32, cad.walking := true, pwr.held := false }
  let s := s.each samples State.gaugeSample
  let s := s.sessionsBoot.when (!s.cad.aonOn) State.aonLose
  let s := (s.each (List.range 16) State.resetLost).recallTold
  let s := s.record 0 0x04 (le 8 (s.attrRaw 0x0201))
  let s := (s.firstOdometers.fltFirstTick.secFirstTick).brokenTold.stbBoot
  s.firstRelease.groupsBoot.portsBoot

/-- Whether start-up is done. -/
def State.startupDone (s : State) : Bool := s.pwr.held && s.pwr.booted && !s.pwr.bootWait && s.mainGood

end Sys2Proof.Machine
end

