-- ==== Sys2Proof/Machine/Power.lean ====
section
/-!
DEFINITION. Sys2Proof/Machine/Power.lean: supplies, PFI and its sequence, the power modes, wake and charging
(spec/02_power_reset.md), and the attribute-triggered hub resets of 17_faults.md. The rows are in PowerCommands.lean.
-/

namespace Sys2Proof.Machine

/-! ### Rails (R35, R38, R477) -/

/-- A main rail falls. In Standby nothing more happens, and in Freewheel-2 VDD_ADC is ignored (R35, R57). A write in progress
needs VDD_CORE, VDD_18 and VDD_IO. -/
def State.railFall (s : State) (rail : Nat) : State :=
  let p := s.pwr
  let s := { s with pwr := { p with
    core := p.core && rail != 0, v18 := p.v18 && rail != 1, io := p.io && rail != 2, adc := p.adc && rail != 3 } }
  if rail = 3 ∧ s.rd R.PWR_STAT_MODE = 2 then s
  else
    let s := if rail = 3 then s else s.hayInterrupt
    let s := s.segMainsLost
    if s.pwr.standby then s else s.hubReset 1

/-- The TAP is reset: IDCODE is selected and the controller domain is no longer held by it (R444, R446). -/
def State.tapReset (s : State) : State := { s with dbg.ir := 2, dbg.tapHold := false }

/-- Every main rail is good. At power-on of the main group TST_EN is sampled and the TAP is reset (R35, R444, R460). -/
def State.railsGood (s : State) (tst : Bool) : State :=
  if s.mainGood then s
  else
    let on := !(s.pwr.core && s.pwr.v18 && s.pwr.io) || s.rd R.PWR_STAT_MODE != 2
    let s := { s with pwr.core := true, pwr.v18 := true, pwr.io := true, pwr.adc := true }
    if on then { s.tapReset with dbg.tst := tst }.segMainsBack else s

/-- VDD_AON rises through its threshold: the always-on domain is reset, which forces a hub reset (R38, R285). -/
def State.aonPowerUp (s : State) : State :=
  let s := { s with pwr.aon := true, pwr.standby := false }
  let s := s.hubReset 0
  let s := (s.each [0x0201, 0x0207, 0x0208, 0x0209, 0x1001, 0x3803, 0x7004] State.clearAttr).segPowerUp
  let s := s.each (List.range 16) fun s i => s.modLog i fun l => { l with next := s.committedNext i }
  { s with
    cad := { s.cad with now := 0, aonOn := true, stageAt := none }
    pwr := { s.pwr with ks := {}, ksStage := none, ksFault := false, chgFull := false }
    zones := []
    sec := { s.sec with trials := 0 }
    thm := { s.thm with staged := none } }

/-! ### The Kickstand latch (R41 to R43) -/

/-- A staged image is committed as a whole; under a whole-image force the VOUTs retarget to its codes (R41, R42). -/
def State.ksCommit (s : State) : State :=
  match s.pwr.ksStage with
  | none => s
  | some k =>
    let s := { s.wr R.PWR_KSTAT_PENDING 0 with pwr.ks := k, pwr.ksStage := none }
    if s.pwr.force.isEmpty then s
    else s.each (List.range 8) fun s v => s.wr (R.ACT_VOUT_TARGET v) (if k.bad then 0 else mget 0 k.ramp v)

/-! ### Waiting requests (R51, R54, R272, R362, R401) -/

/-- Bridges whose reversal waits. -/
def State.reversalsWaiting (s : State) : List Nat := (List.range 16).filter fun k => s.rd (R.ACT_BR_STATE k) == 4

/-- Whether the panel's power-on has waited 4,096 ticks (R362). -/
def State.panelExpired (s : State) : Bool := s.pwr.wait.any fun r => decide (r.kind = .panel ∧ r.since + 4096 ≤ s.ticks)

/-- Whether a fuse burn has waited 4,096 ticks (R401). -/
def State.burnExpired (s : State) : Bool := s.pwr.wait.any fun r => decide (r.kind = .fuse ∧ r.since + 4096 ≤ s.ticks)

/-- Requests whose wait is over end with the status of their chapters. -/
def State.escTimeouts (s : State) : State :=
  let s := s.hayFailAll s.hayExpired
  let s := s.when s.burnExpired State.burnWithdraw
  let s := s.each (s.reversalsWaiting.filter s.reversalExpired) State.reversalFail
  s.when s.panelExpired fun s => s.abruptOff 3 false

/-- Whether a hayloft request still waits when PFI is qualified, and ends then (R54, R272). -/
def State.hayStranded (s : State) (r : HayReq) : Bool :=
  !waitsThrough r.what && !s.escHolds (escOf r) && !(s.hay.cur.any fun w => w.req.id == r.id)

/-- The gates of R54 close: every request of class B, C or D that waits ends. -/
def State.gatesClose (s : State) : State :=
  (s.burnWithdraw.each s.reversalsWaiting State.reversalFail).hayFailAll s.hayStranded

/-! ### The power-fail sequence (R53 to R55, R289) -/

/-- The records of a log queue that a later record overtakes are lost (R285, R287). -/
def loseQueue (l : LogStream) : LogStream :=
  match l.queue.head?, l.queue.getLast? with
  | some a, some b =>
    let first := (l.lost.map fun x => x.2.1).getD (u32 a 0)
    { l with queue := [], lost := some (l.queue.length + ((l.lost.map fun x => x.1).getD 0), first, u32 b 0) }
  | _, _ => l

/-- The POWER_FAIL record goes into stream 0's open page, or starts the next one, and its commit is requested first. -/
def State.pfRecord (s : State) : State :=
  let b (l : LogStream) : Bytes := logBytes l.next (s.stage % 2 ^ 32) s.tpos 0 2 s.pwr.pfSnap
  let s := s.modLog 0 fun l =>
    let l := loseQueue l
    let l := { l with open_ := if l.open_.length < 2 then l.open_ ++ [b l] else [b l],
                      kept := if l.open_.length < 2 then l.kept else 0,
                      page := if l.open_.length < 2 then l.page else (l.page + 1) % 64 }
    { l with next := (l.next + 1) % 2 ^ 32 }
  s.hayAsk 248 .pfPage

/-- The sequence is due: what stood at qualification is kept, requests end, and the record is made (R54, R289, R453). -/
def State.pfPrepare (s : State) : State :=
  let s := { s with pwr := { s.pwr with
    pfDue := true, pfTicks := 0, pfSnap := le 16 s.reserveBits, pfGroups := s.rd R.PWM_STAT_EN } }
  let s := { s with dbg := { s.dbg with noHalt := true, resume := s.dbg.halted } }
  s.gatesClose.pfRecord

/-- PFI is qualified. In Standby it is not watched; before the first tick boot pauses; while the controller clocks are
stopped only the gates close (R53, Corners). -/
def State.pfi (s : State) : State :=
  if s.pwr.standby || s.on R.PWR_STAT_PFI then s
  else
    let s := { s.wr R.PWR_STAT_PFI 1 with pwr.pfiRel := false }
    if s.pwr.held then { s with pwr.bootWait := s.pwr.booted }
    else if s.on R.PWR_STAT_PFSEQ || s.pwr.pfDue || !s.cad.refOn then s
    else s.pfPrepare

/-- The next slot edge: PFSEQ is set, the panel discharges, and POWER_FAIL is raised (Table 2-7). -/
def State.pfStart (s : State) : State :=
  if s.pwr.pfDue then
    let s := { s.wr R.PWR_STAT_PFSEQ 1 with pwr.pfDue := false, hay.pfRan := true }
    (s.abruptOff 2 false).event 0x38 s.pwr.pfSnap
  else s

/-- Freewheel-2 from quiesce: the panel, the writes and the force are done; the VOUTs are still to arrive (R55, R498). -/
def State.quiesceFw2 (s : State) : State :=
  let s := { (s.wrs [(R.PWR_STAT_MODE, 2), (R.PWR_STAT_PFSEQ, 0)]) with pwr.fwStep := 4 }
  if s.pwr.pfiRel then s.wakeFires 3 else s

/-- Quiesce: outputs at Kickstand, Spoke stops executing commands, bus DE low, Stable stopped (Table 2-7, R55, R150). -/
def State.quiesce (s : State) : State :=
  if !s.on R.PWR_STAT_PFSEQ || s.pwr.quiet then s
  else
    let s := (({ s with pwr.quiet := true }.forceOn 4).pwmStop.busStopAll).stbOff
    if s.on R.PWR_HOLD_CFG_PFI_FW2 then s.quiesceFw2 else s

/-- The hub stays quiesced until PFI is released, with PFI_FW2 = 0: then a hub reset with cause PF_END (R55). -/
def State.pfEnd (s : State) : State :=
  if s.on R.PWR_STAT_PFSEQ && s.pwr.quiet && !s.on R.PWR_HOLD_CFG_PFI_FW2 && !s.on R.PWR_STAT_PFI then s.hubReset 0xA else s

/-- PFI is released: the gates open, and in Freewheel-2 it is a wake source (R53, R55, R58). -/
def State.pfiRelease (s : State) : State :=
  if s.on R.PWR_STAT_PFI then
    let s := { s.wr R.PWR_STAT_PFI 0 with pwr.pfiRel := true }
    if s.rd R.PWR_STAT_MODE = 2 ∧ !s.pwr.held then s.wakeFires 3 else s
  else s

/-- A tick edge of the sequence: the 21st after qualification is quiesce (Table 2-7). -/
def State.pfTick (s : State) : State :=
  if s.on R.PWR_STAT_PFSEQ && !s.pwr.quiet then
    let n := s.pwr.pfTicks + 1
    let s := { s with pwr.pfTicks := n }
    if 21 ≤ n then s.quiesce.pfEnd else s
  else s.pfEnd

/-! ### Freewheel and Standby (R56, R498, R59, Table 2-8) -/

/-- The table of Run: the throttled one at thermal levels 2 and 3 (R390). -/
def State.runTable (s : State) : SlotTable :=
  if !s.limp && decide (2 ≤ s.rd R.THM_STAT_LEVEL) then { base := .throttled } else s.cad.source

/-- Entry to Freewheel-1: the reduced table is swapped in, Stable ends, and the panel goes to Lantern mode (R56, R316, R361). -/
def State.fw1Entry (s : State) : State :=
  if s.pwr.pendMode = some 1 ∧ s.rd R.PWR_STAT_MODE = 0 then
    let s := { s.wr R.PWR_STAT_MODE 1 with pwr.pendMode := none, cad.active := { base := .reduced }, thm.div := 8 }
    s.stbOff.panelFreewheel true
  else s

/-- Return to Run from Freewheel-1 (Table 2-9, R396). -/
def State.runEntry (s : State) : State :=
  if s.pwr.pendMode = some 0 ∧ s.rd R.PWR_STAT_MODE = 1 then
    let lvl := s.rd R.THM_STAT_LEVEL
    let s := { s.wrs [(R.PWR_STAT_MODE, 0), (R.STB_STAT_SKIPQ, lvl)] with
      pwr.pendMode := none, cad.active := s.runTable, thm.div := sysDiv lvl }
    s.stbOn.panelFreewheel false
  else s

/-- Entry to Freewheel-2, step 1 and the start of step 2 (R498). -/
def State.fw2Entry (s : State) : State :=
  if s.pwr.pendMode = some 2 ∧ s.rd R.PWR_STAT_MODE ≠ 2 then
    let s := { s.wr R.PWR_STAT_MODE 2 with pwr.pendMode := none, pwr.fwStep := 1 }
    s.stbOff.orderlyOff 7
  else s

/-- Whether the panel is off: nothing drives it and no discharge runs. -/
def State.panelIdle (s : State) : Bool := (s.rd R.DSP_STAT_STATE == 0 || s.rd R.DSP_STAT_STATE == 6) && s.dsp.disch.isNone

/-- Step 4: the PWM clock stops once panel and hayloft are done (R498). -/
def State.fw2PwmStop (s : State) : State :=
  if s.pwr.fwStep = 1 ∧ s.panelIdle ∧ s.hay.cur.isNone then { s.pwmStop.forceOn 3 with pwr.fwStep := 4 } else s

/-- Step 5: every controller clock stops once the VOUTs have arrived; the panel's frame memory is lost (R351, R498). -/
def State.fw2ClockStop (s : State) : State :=
  if s.pwr.fwStep = 4 ∧ s.voutsArrived then
    let s := { s with pwr.fwStep := 5, cad := { s.cad with refOn := false, walking := false, run0 := none, run1 := none } }
    let s := { s.busStopAll.frameLose with adc := { s.adc with off := true, portsOff := true, units := [], ports := [] } }
    s.each (List.range 3) fun s p => s.wr R.ADC_SPT_ACTIVE (setBit (s.rd R.ADC_SPT_ACTIVE) p false)
  else s

/-- The mode is refused under R59: no wake source, or only an alarm that does not lie ahead. -/
def State.modeRefused (s : State) (mode : Nat) : Bool :=
  let others := s.on R.PWR_WAKE_EN_HOST || s.on R.PWR_WAKE_EN_PFI || s.on R.PWR_WAKE_EN_PAD
  decide (2 ≤ mode) && !others && (!s.on R.PWR_WAKE_EN_ALARM || decide (s.rd R.PWR_WAKE_ALARM ≤ s.stage % 2 ^ 32))

/-- PWR_SET_MODE: the reply first, the mode at the first lap edge after it has left the hub (R56). -/
def State.doPwrSetMode (s : State) (r : Ref) (p : Bytes) : State :=
  s.checked r [lengthIs p 1, param (decide (3 < u8 p 0)),
      permitted (!s.modeRefused (u8 p 0) && !s.on R.PWR_STAT_PFSEQ && !s.pwr.pfDue && !s.debugHold)] fun s =>
    { s.ok r with pwr.pendMode := some (u8 p 0) }

/-- Whether the reply of PWR_SET_MODE has left: none stands in an out queue or in the host's transmit FIFO. -/
def State.modeReplyLeft (s : State) : Bool :=
  (s.spoke.chans.all fun (e : Nat × Channel) => (e.2.outq ++ e.2.waits).all fun p => p.opcode != 0xB8 || p.tag == 127) &&
    !(s.host.txOps.contains 0xB8)

/-- Standby: the main group stops. The wake logic holds the controller domain in reset until a wake source fires; a panel that
is not off is first switched off in order (R35, R56; 13_panel_matrix.md, modes). -/
def State.standbyEntry (s : State) : State :=
  if s.pwr.pendMode = some 3 then
    let s := s.orderlyOff 7
    if s.panelIdle then
      let s := (s.wr R.PWR_CAUSE_PREV (s.rd R.PWR_CAUSE_CAUSE)).causeLatch 8
      { s.segStandby.domainReset false with pwr.standby := true, cad.refOn := false }
    else s
  else s

/-- The mode that waits takes effect at a lap edge (R56). -/
def State.modeEntry (s : State) : State :=
  if s.pwr.pendMode.isSome && s.modeReplyLeft then
    match s.pwr.pendMode with
    | some 0 => if s.rd R.PWR_STAT_MODE = 1 then s.runEntry else { s with pwr.pendMode := none }
    | some 1 => if s.rd R.PWR_STAT_MODE = 0 then s.fw1Entry else { s with pwr.pendMode := none }
    | some 2 => s.fw2Entry
    | _ => s.standbyEntry
  else s

/-! ### Wake (R58, Table 2-9) -/

/-- Slots pass on the always-on count while the sequencer stands (R34). -/
def State.aonPass (s : State) (slots : Nat) : State :=
  if s.pwr.standby || !s.cad.refOn then { s with cad.now := s.cad.now + slots } else s

/-- A wake source fires; from Standby the reset then ends with cause WAKE (R35, Table 2-9). -/
def State.wake (s : State) (source slots : Nat) : State :=
  let s := s.aonPass slots
  if source = 0 ∨ 4 < source ∨ (source = 1 ∧ s.stage % 2 ^ 32 ≠ s.rd R.PWR_WAKE_ALARM) then s
  else
    let s := s.wakeFires source
    if s.pwr.standby && s.pwr.wakeDue then
      let s := { s with pwr.standby := false, pwr.wakeDue := false }
      if s.rd R.PWR_CAUSE_CAUSE = 8 then s.causeLatch 8 else s
    else s

/-- The age of a posted result starts at the first tick after the wake (R205). -/
def agesPass (n : Nat) (ages : Map AinAge) : Map AinAge := ages.map fun e => (e.1, { e.2 with at_ := e.2.at_.map (· + n) })

/-- The sequencer resumes at an AON tick edge with its count from the always-on domain; sessions and queues are retained
(R34, R48, R55, R150, R396). -/
def State.fw2Resume (s : State) (slots : Nat) (rings : List (BitVec 12)) : State :=
  if s.pwr.fwStep = 5 ∧ s.pwr.wakeDue ∧ !s.pwr.held then
    let now := (s.cad.now + slots + 31) / 32 * 32
    let lvl := s.rd R.THM_STAT_LEVEL
    let s := { s with
      cad := { s.cad with now := now, refOn := true, walking := true, nValid := false, active := s.runTable }
      pwr := { s.pwr with fwStep := 0, wakeDue := false, quiet := false, samples := [], pfTicks := 0 }
      adc := { s.adc with off := false, portsOff := false, ages := agesPass ((now - s.cad.now) / 32) s.adc.ages } }
    let s := ((s.wrs [(R.PWR_STAT_MODE, 0), (R.STB_STAT_SKIPQ, lvl)]).thmFirst rings).stbOn
    let s := (({ s with thm.div := sysDiv lvl }.pwmRestart).forceOff 4 true).forceOff 3 true
    let m := s.pwr.pfGroups
    let s := ({ s with pwr.pfGroups := 0 }).each ((List.range 12).filter fun g => bit m g) State.grpEnable
    if s.on R.PWR_STAT_PFI then s.pfPrepare else s
  else s

/-! ### Hub resets that other events ask for (R429, R440, R392, R393, R30) -/

/-- A HUB fault asserts its hub reset (R429). -/
def State.hubFaultReset (s : State) : State :=
  match s.flt.hubDue with
  | none => s
  | some c => s.hubReset c

/-- The reset of a HUB fault comes at the second AON edge after it (R429). -/
def State.hubFaultEdge (s : State) : State :=
  if s.flt.hubDue.isSome then
    if s.flt.hubEdges ≤ 1 then s.hubFaultReset else { s with flt.hubEdges := s.flt.hubEdges - 1 }
  else s

/-- Limp mode has lasted LIMP_HOLD stages: a hub reset tries full service (R440). -/
def State.limpHoldExpire (s : State) : State := if s.limpHoldOver then s.limpLeaving.hubReset 3 else s

/-- The thermal hub reset of an orderly stop (R392). -/
def State.thermStop (s : State) : State := if s.stopOver then s.hubReset 6 else s

/-- The cut sensor trips (R393). -/
def State.cutTrip (s : State) : State := if s.thm.cut then s else s.cutRecord.hubReset 7

/-- The sequencer watchdog fires: a fault of class HUB with cause WATCHDOG (R30). -/
def State.sequencerWatchdog (s : State) : State := s.hubFault 0x01 0 0 0 none 4

end Sys2Proof.Machine
end

