-- ==== Sys2Proof/Machine/PowerCommands.lean ====
section
/-!
DEFINITION. Sys2Proof/Machine/PowerCommands.lean: the rows of spec/02_power_reset.md, the hub resets of spec/17_faults.md, and the
always-on rows of spec/01_cadence.md.
-/

namespace Sys2Proof.Machine

/-! ### Supplies and resets -/

/-- MAIN_RAILS_GOOD (R35, R460). -/
def execMainRailsGood (tst : Bool) (s : State) : Host.Outcome State Fault Refusal := .next (s.railsGood tst)

/-- MAIN_RAIL_FALL (R35). -/
def execMainRailFall (rail : Fin 4) (s : State) : Host.Outcome State Fault Refusal := .next (s.railFall rail)

/-- AON_POWER_UP (R38). -/
def execAonPowerUp (s : State) : Host.Outcome State Fault Refusal := .next s.aonPowerUp

/-- AON_RETENTION_LOSS (R477): the content is marked lost; AON_POWER_UP follows. -/
def execAonRetentionLoss (s : State) : Host.Outcome State Fault Refusal := .next { s with pwr.aon := false }

/-- HUB_RSTN_QUALIFIED (R39): cause PIN. -/
def execHubRstnQualified (s : State) : Host.Outcome State Fault Refusal := .next (s.hubReset 2)

/-- HUB_RESET_ASSERT (R44) with a cause of Table 2-12; codes above 0xA are not used. -/
def execHubResetAssert (cause : Fin 16) (s : State) : Host.Outcome State Fault Refusal :=
  .next (if cause.val ≤ 0xA then s.hubReset cause else s)

/-- KICKSTAND_COMMIT (R41). -/
def execKickstandCommit (s : State) : Host.Outcome State Fault Refusal := .next s.ksCommit

/-- BOOT (R46). -/
def execBoot (hstSel : Bool) (rings : List (BitVec 12)) (s : State) : Host.Outcome State Fault Refusal := .next (s.boot hstSel rings)

/-- BOOT_CONTINUE (Corners): PFI has been released for 1,024 consecutive AON cycles. -/
def execBootContinue (s : State) : Host.Outcome State Fault Refusal :=
  .next (if s.on R.PWR_STAT_PFI then s else { s with pwr.bootWait := false })

/-! ### Escrow and power failure -/

/-- ESCROW_TIMEOUT (R272, R167, R362, R401). -/
def execEscrowTimeout (s : State) : Host.Outcome State Fault Refusal := .next s.escTimeouts

/-- PFI_QUALIFIED (R53, R54). -/
def execPfiQualified (s : State) : Host.Outcome State Fault Refusal := .next s.pfi

/-- POWER_FAIL_SEQUENCE_START (R53, Table 2-7). -/
def execPowerFailSequenceStart (s : State) : Host.Outcome State Fault Refusal := .next s.pfStart

/-- QUIESCE (R55, Table 2-7), at the 21st tick edge after qualification. -/
def execQuiesce (s : State) : Host.Outcome State Fault Refusal := .next (if 20 ≤ s.pwr.pfTicks then s.quiesce else s)

/-- PFI_RELEASE (R55, R58). -/
def execPfiRelease (s : State) : Host.Outcome State Fault Refusal := .next s.pfiRelease

/-- PF_END (R55). -/
def execPfEnd (s : State) : Host.Outcome State Fault Refusal := .next s.pfEnd

/-! ### Modes and wake -/

/-- PWR_SET_MODE (R56, R59). -/
def execPwrSetMode (c : Cmd) (s : State) : Host.Outcome State Fault Refusal := .next (s.command c 0x38 State.doPwrSetMode)

/-- FREEWHEEL1_ENTRY (R56). -/
def execFreewheel1Entry (s : State) : Host.Outcome State Fault Refusal := .next s.fw1Entry

/-- FREEWHEEL2_ENTRY (R498). -/
def execFreewheel2Entry (s : State) : Host.Outcome State Fault Refusal := .next s.fw2Entry

/-- FW2_PWM_CLOCK_STOP (R498 step 4). -/
def execFw2PwmClockStop (s : State) : Host.Outcome State Fault Refusal := .next s.fw2PwmStop

/-- FW2_CLOCK_STOP (R498 step 5). -/
def execFw2ClockStop (s : State) : Host.Outcome State Fault Refusal := .next s.fw2ClockStop

/-- STANDBY_ENTRY (R56). -/
def execStandbyEntry (s : State) : Host.Outcome State Fault Refusal := .next s.standbyEntry

/-- WAKE (R58, Table 2-9). -/
def execWake (source : Fin 8) (slots : Nat) (s : State) : Host.Outcome State Fault Refusal := .next (s.wake source slots)

/-! ### Charging (R60) -/

/-- CHARGE_STOP: VDD_AON has reached VMAX. -/
def execChargeStop (s : State) : Host.Outcome State Fault Refusal :=
  .next (if s.rd R.PWR_CHG_MODE = 0 then s else { s with pwr.chgFull := true })

/-- CHARGE_RESUME: VDD_AON has fallen 50 mV below VMAX. -/
def execChargeResume (s : State) : Host.Outcome State Fault Refusal := .next { s with pwr.chgFull := false }

/-! ### Hub resets of faults and limp mode (spec/17_faults.md) -/

/-- HUB_FAULT_RESET (R429). -/
def execHubFaultReset (s : State) : Host.Outcome State Fault Refusal := .next s.hubFaultReset

/-- LIMP_HOLD_EXPIRE (R440). -/
def execLimpHoldExpire (s : State) : Host.Outcome State Fault Refusal := .next s.limpHoldExpire

/-- FLT_CTL.LIMP_ENTER: STREAK is set to 3 before a hub reset with cause COMMAND (R441). -/
def State.limpEnter (s : State) : State := (s.wr R.FLT_LAST_STREAK 3).hubReset 3

/-- FLT_CTL.LIMP_EXIT: a hub reset with cause COMMAND into full service (R440). -/
def State.limpExit (s : State) : State := s.limpLeaving.hubReset 3

/-- Whether FLT_CTL takes a value now (Table 17-12). -/
def State.limpTakes (s : State) (v : Nat) : Bool := fltCheck 0x7005 v == stOk && s.fltPermits 0 0x7005 v

/-- LIMP_ENTER (R441). -/
def execLimpEnter (v : BitVec 8) (s : State) : Host.Outcome State Fault Refusal :=
  .next (if bit v.toNat 1 && s.limpTakes v.toNat then s.limpEnter else s)

/-- LIMP_EXIT (R440). -/
def execLimpExit (v : BitVec 8) (s : State) : Host.Outcome State Fault Refusal :=
  .next (if bit v.toNat 2 && s.limpTakes v.toNat then s.limpExit else s)

/-! ### The always-on domain's watch over the sequencer (spec/01_cadence.md) -/

/-- SEQUENCER_WATCHDOG (R30). -/
def execSequencerWatchdog (s : State) : Host.Outcome State Fault Refusal := .next s.sequencerWatchdog

/-- AON_LOST (R33, Corners). -/
def execAonLost (s : State) : Host.Outcome State Fault Refusal := .next s.aonLose

/-- AON_RESYNC (R495, Corners). -/
def execAonResync (s : State) : Host.Outcome State Fault Refusal := .next s.aonReturn

end Sys2Proof.Machine
end

