-- ==== Sys2Proof/Machine/AttrAccess.lean ====
section
/-!
DEFINITION. Sys2Proof/Machine/AttrAccess.lean: how attributes are read and written (R7, R10 to R13, 00_scope.md; R107,
03_spoke_packets.md): the fields a read computes, the side effects of RC and RA fields, and the refusals and effects of a write.
-/

namespace Sys2Proof.Machine

/-! ### Fields that a read computes -/

/-- Block 0x01: the position, HELD, the head of CAD_OVR and the table entry. -/
def State.cadRefresh (s : State) : List (Nat × Nat) :=
  let o := match s.cad.ovr with
    | [] => []
    | r :: _ => [(R.CAD_OVR_JOB, r.job), (R.CAD_OVR_CORE, r.core), (R.CAD_OVR_ENTRY, r.entry), (R.CAD_OVR_CLASS, r.cls),
        (R.CAD_OVR_VALID, 1), (R.CAD_OVR_STG, r.stg)]
  [(R.CAD_NOW_SLOT, s.slot), (R.CAD_NOW_TICK, s.tick), (R.CAD_NOW_LAP, s.lap), (R.CAD_NOW_STAGE, s.stage % 2 ^ 32),
   (R.CAD_STAT_HELD, b2n s.debugHold), (R.CAD_TBL_ENT_ENTRY, s.tableEnt)] ++ o

/-- Whether charging runs (R60). -/
def State.charging (s : State) : Bool :=
  decide (s.rd R.PWR_CHG_MODE ≠ 0) && s.pwr.io && !s.on R.THM_STAT_CHG_INH && !s.pwr.chgFull

/-- WHY of PWR_KSTAT: the newest cause that forces the whole image, or a disabled group (R42). -/
def State.ksWhy (s : State) : Nat :=
  match s.pwr.force with
  | w :: _ => w
  | [] => if (List.range 12).all s.grpOn then 0 else 5

/-- Block 0x02. -/
def State.pwrRefresh (s : State) : List (Nat × Nat) :=
  [(R.PWR_STAT_STARVED, b2n s.starved), (R.PWR_CAUSE_REC_PEND, s.rd R.THM_LAST_PEND),
   (R.PWR_RESERVE_VOLTS, bits s.reserveBits 16 16), (R.PWR_RESERVE_RESERVE, bits s.reserveBits 32 24),
   (R.PWR_RESERVE_AVAIL, bits s.reserveBits 64 24), (R.PWR_RESERVE_HELD, bits s.reserveBits 96 16),
   (R.PWR_CHG_INHIBIT, s.rd R.THM_STAT_CHG_INH), (R.PWR_CHG_ACTIVE, b2n s.charging),
   (R.PWR_KSTAT_APPLIED, b2n (s.ksWhy != 0)), (R.PWR_KSTAT_WHY, s.ksWhy)]

/-- Block 0x10. -/
def State.zonRefresh (s : State) : List (Nat × Nat) :=
  (R.ZON_DEMAND_LIMP, b2n s.limp) :: (List.range 48).flatMap fun n =>
    [(R.ZON_STAT_NEXT_SEQ n, (s.zone n).seq),
     (R.ZON_INPUT_OCC_VALID n, b2n (s.occValid n))]

/-- Block 0x20. -/
def State.pwmRefresh (s : State) : List (Nat × Nat) :=
  [(R.PWM_STAT_KS, maskOf 12 s.grpForced), (R.PWM_STAT_CAL_STALE, b2n s.calStale)] ++
  (List.range 12).flatMap fun g =>
    [(R.PWM_GRP_EV_CMP g, b2n ((List.range 8).any fun i => s.on (R.PWM_CH_EV_ON (8 * g + i)) || s.on (R.PWM_CH_EV_OFF (8 * g + i)))),
     (R.PWM_GRP_COUNT g, s.grpCount g)]

/-- Whether the ceiling limits the plant VOUT now (R177). -/
def State.ceilActs (s : State) : Bool :=
  s.on R.ACT_MIX_PV_EN && decide (s.rd R.ACT_MIX_CEIL < s.rd (R.ACT_VOUT_TARGET (s.rd R.ACT_MIX_PLANT_VOUT)))

/-- Block 0x24. -/
def State.actRefresh (s : State) : List (Nat × Nat) :=
  [(R.ACT_STAT_BR_FAULT, maskOf 16 fun k => decide (5 ≤ s.rd (R.ACT_BR_STATE k))),
   (R.ACT_STAT_FAN_STALL, maskOf 8 fun f => s.on (R.ACT_FAN_STALL f)),
   (R.ACT_STAT_VG_RECOV, maskOf 6 fun g => s.on (R.ACT_VGRP_RECOV g)),
   (R.ACT_STAT_MIX_INH, s.rd R.ACT_MIX_INHIBIT), (R.ACT_STAT_CEIL, b2n s.ceilActs),
   (R.ACT_KS_ENTRY, bits (ksBits s.pwr.ks) 0 192), (R.ACT_KS_RAMP, bits (ksBits s.pwr.ks) 192 128)] ++
  (List.range 6).map fun g => (R.ACT_VGRP_INRUSH_N g, s.inrushCount g)

/-- Block 0x30. -/
def State.adcRefresh (s : State) : List (Nat × Nat) :=
  (R.ADC_STAT_BUSY, b2n s.adcBusy) :: (List.range 64).flatMap fun n =>
    [(R.ADC_AIN_AGE n, s.ainAge n), (R.ADC_AIN_STALE n, b2n (s.ainStale n))]

/-- STEP of HAY_STAT (Table 10-11). -/
def State.hayStepNow (s : State) : Nat :=
  match s.hay.cur with
  | none => 0
  | some w => if w.pair then 6 else if w.ended then 5 else if !w.marked then 1 else if !w.erased then 3 else 4

/-- SEQs of a stream as HAY_LOG_s shows them: the highest committed, and the lowest still in the ring. -/
def State.logSeqs (s : State) (i : Nat) : Nat × Nat :=
  match s.ringRecords i with
  | [] => (0, 0)
  | e :: _ => (s.committedNext i - 1, e.1)

/-- HAY_STAT. -/
def State.hayStatRefresh (s : State) : List (Nat × Nat) :=
  [(R.HAY_STAT_BUSY, b2n (s.hay.cur.isSome || (s.hay.reqs ++ s.hay.groom ++ s.hay.owed).any fun r => r.admitted)),
   (R.HAY_STAT_HELD, b2n (!s.hay.held.isEmpty)), (R.HAY_STAT_DRAFT, b2n (s.hay.cur.any fun w => w.draft)),
   (R.HAY_STAT_STEP, s.hayStepNow), (R.HAY_STAT_WAITING, min 255 (s.hay.reqs.length + s.hay.groom.length))]

/-- Block 0x50. -/
def State.hayRefresh (s : State) (id : Nat) : List (Nat × Nat) :=
  if id = 0x5000 then s.hayStatRefresh
  else if id = 0x5002 then (List.range 32).map fun k => (R.HAY_ODO_COUNT k, s.odo k)
  else if 0x5010 ≤ id ∧ id < 0x5020 then
    let i := id - 0x5010
    [(R.HAY_LOG_NEXT_SEQ i, (s.log i).next), (R.HAY_LOG_LAST_SEQ i, (s.logSeqs i).1),
     (R.HAY_LOG_OLDEST_SEQ i, (s.logSeqs i).2), (R.HAY_LOG_QUEUED i, (s.log i).queue.length)]
  else []

/-- Spares left in each bank: the fused count less the repairs in force or due (R341). -/
def State.sparesLeft (s : State) (q : Nat) : Nat :=
  let x := s.stall q
  (List.range 5).foldl (fun n b =>
    n + (bits (s.rd (R.STB_SP_SPARES q)) (4 * b) 4 - ((x.mapped ++ x.copyDue).filter fun e => e.2 / 8 == b).length) * 16 ^ b) 0

/-- Block 0x58. -/
def State.stbRefresh (s : State) : List (Nat × Nat) :=
  stallsAll.flatMap fun q =>
    [(R.STB_STALL_AVAIL q, s.stbWindow), (R.STB_STALL_COMMIT q, s.commitment q), (R.STB_SP_SPARES q, s.sparesLeft q)]

/-- The computed fields of an attribute. -/
def State.computed (s : State) (id : Nat) : List (Nat × Nat) :=
  match id / 256 with
  | 0x01 => s.cadRefresh
  | 0x02 => s.pwrRefresh
  | 0x10 => s.zonRefresh
  | 0x20 => s.pwmRefresh
  | 0x24 => s.actRefresh
  | 0x30 => s.adcRefresh
  | 0x50 => s.hayRefresh id
  | 0x58 => s.stbRefresh
  | 0x60 => s.tileBits
  | 0x64 => [(R.SEG_STAT_SWAP_PEND, b2n (!s.seg.shows.isEmpty || !s.seg.ready.isEmpty))]
  | 0x70 => s.fltBits
  | _ => []

/-- An attribute as one read samples it: every field at one instant; reserved bits and WO fields read 0 (R10, R11, R13). -/
def State.sample (s : State) (id : Nat) : Nat :=
  match attrOf id with
  | none => 0
  | some a =>
    let c := (s.computed id).filter fun e => e.1 / 1024 == id
    a.fields.foldl (fun n d =>
      let v := if d.access = .wo then 0 else (mget? c (regKey id d.lo)).getD (s.rd (regKey id d.lo))
      n + v % 2 ^ d.width * 2 ^ d.lo) 0

/-! ### Reading -/

/-- The side effects of a read: RC fields are cleared and RA entries advance, once (R10, R13). -/
def State.readEffect (s : State) (id : Nat) : State :=
  if id = 0x0103 then { s with cad.ovr := s.cad.ovr.drop 1 }
  else if id = 0x0107 then s.wrap R.CAD_TBL_IDX_INDEX 512 1
  else if id = 0x6008 then s.wrap R.DSP_TILE_IDX_INDEX 300 1
  else
    match attrOf id with
    | none => s
    | some a => s.each (a.fields.filter fun d => decide (d.access = .rc)) fun s d => s.wr (regKey id d.lo) 0

/-- One attribute of a read: its bytes, and the state after it; a quiet read has no side effect (R12, R456). -/
def State.readOne (s : State) (quiet : Bool) (id : Nat) : Bytes × State :=
  (le (attrSize id) (s.sample id), if quiet then s else s.readEffect id)

/-- Whether a command reads quietly: channel 31 without loud reads at its admission (R456, R461). -/
def State.quietRead (s : State) (r : Ref) : Bool :=
  r.ch == 31 && !((s.chan 31).uses.any fun u => u.tag == r.tag && u.loud)

/-! ### Refusals of a write (R7, R496) -/

/-- The bits of an attribute's fields with one of the accesses given. -/
def accessMask (id : Nat) (p : Access → Bool) : Nat :=
  match attrOf id with
  | none => 0
  | some a => a.fields.foldl (fun m d => if p d.access then m ||| ((2 ^ d.width - 1) * 2 ^ d.lo) else m) 0

/-- Bits that some field holds. -/
def fieldMask (id : Nat) : Nat := accessMask id fun _ => true

/-- A 12-bit quantity in a 16-bit container with bits [15:12] set (R7). -/
def nibbleBad (id v : Nat) : Bool :=
  match attrOf id with
  | none => false
  | some a => a.fields.any fun d =>
      decide (d.access = .rw) && decide (d.width = 12 ∧ d.lo % 16 = 0) && bits (fieldMask id) (d.lo + 12) 4 == 0 &&
        bits v (d.lo + 12) 4 != 0

/-- Values that block 0x02 refuses (Table 2-13, PWR_CLASS, PWR_CHG). -/
def pwrCheck (id v : Nat) : Nat :=
  let bad := match id with
    | 0x0203 => decide (bits v 0 16 = 0 ∨ bits v 32 8 < 16)
    | 0x0205 => decide (bits v 0 16 < 40)
    | 0x0208 => decide (bits v 0 2 = 3 ∨ (bits v 0 2 ≠ 0 ∧ (bits v 8 8 = 0 ∨ 200 < bits v 8 8 ∨ bits v 16 12 < 2000 ∨ 3600 < bits v 16 12)))
    | _ => false
  if bad then stBadParam else stOk

/-- The status that an attribute's owner gives a value. -/
def State.ownerCheck (s : State) (id v : Nat) : Nat :=
  match id / 256 with
  | 0x02 => pwrCheck id v
  | 0x10 => s.zonCheck id v
  | 0x20 => s.pwmCheck id v
  | 0x24 => actValueCheck id v
  | 0x30 => s.adcCheck id v
  | 0x48 => s.busCheck id v
  | 0x50 => hayCheck id v
  | 0x58 => s.stbCheck id v
  | 0x60 => s.dspCheck id v
  | 0x64 => segCheck id v
  | 0x70 => fltCheck id v
  | _ => stOk

/-- Whether the owner permits a write on a channel in the present state; block 0x68 is never written (16_security.md). -/
def State.ownerPermits (s : State) (ch id v : Nat) : Bool :=
  match id / 256 with
  | 0x48 => s.busPermits ch id v
  | 0x50 => s.hayPermits id v
  | 0x58 => s.stbPermits id v
  | 0x60 => s.dspPermits id v
  | 0x68 => false
  | 0x70 => s.fltPermits ch id v
  | _ => true

/-! ### Effects of a write -/

/-- FLT_CTL performs its actions (Table 17-12). -/
def State.fltCtlAct (s : State) (v : Nat) : State :=
  let s := if bit v 0 then s.clearLatches else s
  if bit v 1 then s.limpEnter else if bit v 2 then s.limpExit else s

/-- What a write does beside setting its fields; `old` is the state before it, `before` the attribute's value then. -/
def State.ownerHook (s : State) (old : State) (id v before : Nat) : State :=
  match id / 256 with
  | 0x02 => if id = 0x0203 ∨ id = 0x0205 then s.saveFirmware [(0x01, s.attrImage [0x0203, 0x0205])] else s
  | 0x10 => s.zonHook id before
  | 0x20 => s.pwmHook id
  | 0x30 => s.adcHook id v (old.seqRegs (id % 2))
  | 0x48 => s.busHook id (bit before 0)
  | 0x50 => s.hayHook id
  | 0x58 => s.stbHook id before
  | 0x70 => if id = 0x7005 then s.fltCtlAct v else s
  | _ => s

/-- The fields of an attribute take a value, each as its access says (R10); ACT_KS is staged for the always-on domain (R41). -/
def State.setFields (s : State) (id v : Nat) : State :=
  if id = 0x2401 then s.ksStageImage v
  else
    match attrOf id with
    | none => s
    | some a => s.each a.fields fun s d =>
        let k := regKey id d.lo
        match d.access with
        | .rw => s.wr k (bits v d.lo d.width)
        | .w1c => s.wr k (s.rd k &&& ((2 ^ d.width - 1) ^^^ bits v d.lo d.width))
        | _ => s

/-- The refusals of a write, in the order of R496. -/
def State.writeStatus (s : State) (ch id v : Nat) : Nat :=
  if nibbleBad id v then stBadParam
  else if s.ownerCheck id v ≠ stOk then s.ownerCheck id v
  else if s.ownerPermits ch id v then stOk else stNotPermitted

/-- A write that passes its checks: every field at one instant, then what the owner says. -/
def State.writeAttr (s : State) (id v : Nat) : State := (s.setFields id v).ownerHook s id v (s.attrRaw id)

/-! ### Opcodes (Table 3-11) -/

/-- Whether an ID is known. -/
def knownAttr (id : Nat) : Bool := (attrOf id).isSome

/-- The head of a reply's entry: ID and size. -/
def attrHead (id : Nat) : Bytes := le 2 id ++ le 2 (attrSize id)

def State.doAttrRead (s : State) (r : Ref) (p : Bytes) : State :=
  let id := u16 p 0
  s.checked r [lengthIs p 2, param (!knownAttr id)] fun s =>
    let x := s.readOne (s.quietRead r) id
    x.2.ok r (attrHead id ++ x.1)

/-- The IDs of an ATTR_READ_MULTI. -/
def multiIds (p : Bytes) : List Nat := (List.range (p.length / 2)).map fun i => u16 p (2 * i)

/-- Read attributes in order, each at its own instant. -/
def State.readMany (s : State) (quiet : Bool) (ids : List Nat) : Bytes × State :=
  ids.foldl (fun (a : Bytes × State) id =>
    let x := a.2.readOne quiet id
    (a.1 ++ attrHead id ++ x.1, x.2)) ([], s)

def State.doAttrReadMulti (s : State) (r : Ref) (p : Bytes) : State :=
  s.checked r [(decide (p.length = 0 ∨ 64 < p.length ∨ p.length % 2 = 1), stBadLength),
    param ((multiIds p).any fun id => !knownAttr id)] fun s =>
    let x := s.readMany (s.quietRead r) (multiIds p)
    x.2.ok r x.1

def State.doAttrWrite (s : State) (r : Ref) (p : Bytes) : State :=
  let id := u16 p 0
  let v := ofLe (p.drop 2)
  s.checked r [(decide (p.length < 2), stBadLength), param (!knownAttr id), (decide (p.length ≠ 2 + attrSize id), stBadLength),
    (s.writeStatus r.ch id v != stOk, s.writeStatus r.ch id v)] fun s => (s.writeAttr id v).ok r

/-- The value an ATTR_MODIFY writes: RW fields outside the mask keep theirs, and no other field is written. -/
def State.modified (s : State) (id mask v : Nat) : Nat :=
  let keep := accessMask id fun a => decide (a = .rw)
  ((s.sample id &&& keep) &&& (keep ^^^ (mask &&& keep))) ||| (v &&& mask)

def State.doAttrModify (s : State) (r : Ref) (p : Bytes) : State :=
  let id := u16 p 0
  let n := attrSize id
  let mask := ofLe (sub p 2 n)
  let v := s.modified id mask (ofLe (sub p (2 + n) n))
  let may := accessMask id fun a => decide (a = .rw ∨ a = .wo)
  s.checked r [(decide (p.length < 2), stBadLength), param (!knownAttr id), (decide (p.length ≠ 2 + 2 * n), stBadLength),
    param (decide (mask &&& may ≠ mask)),
    (s.writeStatus r.ch id v != stOk, s.writeStatus r.ch id v)] fun s => (s.writeAttr id v).ok r

def State.doAttrInfo (s : State) (r : Ref) (p : Bytes) : State :=
  let id := u16 p 0
  let writable := accessMask id fun a => decide (a = .rw ∨ a = .w1c ∨ a = .wo)
  let clears := accessMask id fun a => decide (a = .rc ∨ a = .ra)
  s.checked r [lengthIs p 2, param (!knownAttr id)] fun s =>
    s.ok r (attrHead id ++ le 1 (b2n (writable != 0) + 2 * b2n (clears != 0)))

/-! ### Rows -/

/-- ATTR_READ (R107, R456). -/
def execAttrRead (c : Cmd) (s : State) : Host.Outcome State Fault Refusal := .next (s.command c 0x08 State.doAttrRead)

/-- ATTR_WRITE (R10, R107). -/
def execAttrWrite (c : Cmd) (s : State) : Host.Outcome State Fault Refusal := .next (s.command c 0x09 State.doAttrWrite)

/-- ATTR_READ_MULTI (R107, R456). -/
def execAttrReadMulti (c : Cmd) (s : State) : Host.Outcome State Fault Refusal := .next (s.command c 0x0A State.doAttrReadMulti)

/-- ATTR_MODIFY (R107). -/
def execAttrModify (c : Cmd) (s : State) : Host.Outcome State Fault Refusal := .next (s.command c 0x0B State.doAttrModify)

/-- ATTR_INFO (R107). -/
def execAttrInfo (c : Cmd) (s : State) : Host.Outcome State Fault Refusal := .next (s.command c 0x0C State.doAttrInfo)

end Sys2Proof.Machine
end

