-- ==== Sys2Proof/Machine/BusCommands.lean ====
section
/-!
DEFINITION. Sys2Proof/Machine/BusCommands.lean: the rows of spec/09_bus_golposen.md.
-/

namespace Sys2Proof.Machine

/-- BUS_FRAME_END (R246): the frame waits, with its receive tick, for the port's next run. -/
def execBusFrameEnd (p : Fin 2) (data : Bytes) (lineError : Bool) (s : State) : Host.Outcome State Fault Refusal :=
  .next (s.busFrameEnd p data lineError)

/-- BUS_RX_OVERFLOW (R246): the byte is dropped and its frame, whatever it holds, is discarded. -/
def execBusRxOverflow (p : Fin 2) (_data : Bytes) (s : State) : Host.Outcome State Fault Refusal := .next (s.busOverflow p)

/-- MODBUS_CLIENT_TIMEOUT (R249): RSP_TMO has passed since the last stop bit; the next request is sent. -/
def execModbusClientTimeout (p : Fin 2) (s : State) : Host.Outcome State Fault Refusal :=
  .next (if s.busOn p && s.rd (R.BUS_CFG_MODE p) == 3 && ((s.busPort p).out.bind (·.due)).isSome then
      (s.modbusTimeout p).modbusNext p
    else s)

/-- REPLY_POSTPONED (R250): 200 ms have passed without the host's reply. -/
def execReplyPostponed (p : Fin 2) (s : State) : Host.Outcome State Fault Refusal := .next (s.mstpPostpone p)

/-- MSTP_TOKEN_LOST (R250, R264). -/
def execMstpTokenLost (p : Fin 2) (s : State) : Host.Outcome State Fault Refusal := .next (s.mstpTokenLost p)

/-- BUS_PARTIAL_FRAME_DISCARD (R252). -/
def execBusPartialFrameDiscard (p : Fin 2) (s : State) : Host.Outcome State Fault Refusal := .next (s.busPartial p)

/-- BUS_TX_DONE (R245). -/
def execBusTxDone (p : Fin 2) (s : State) : Host.Outcome State Fault Refusal := .next (s.busTxDone p)

/-- GOLPOSEN_SEND (R256). -/
def execGolposenSend (n : Fin 16) (s : State) : Host.Outcome State Fault Refusal := .next (s.golposenSend n)

/-- GOLPOSEN_WATCHDOG (R258). -/
def execGolposenWatchdog (n : Fin 16) (s : State) : Host.Outcome State Fault Refusal := .next (s.gpWatchdog n)

/-- BUS_PORT_CTL (R265). -/
def execBusPortCtl (c : Cmd) (s : State) : Host.Outcome State Fault Refusal := .next (s.command c 0x48 State.doBusPortCtl)

/-- BUS_TX (R265): the frame waits in queue 176 + 8p + 1; its reply follows its last stop bit. -/
def execBusTx (c : Cmd) (s : State) : Host.Outcome State Fault Refusal := .next (s.command c 0x49 State.doBusTx)

/-- BUS_GP_RESTART (R260, R265). -/
def execBusGpRestart (c : Cmd) (s : State) : Host.Outcome State Fault Refusal := .next (s.command c 0x4A State.doBusGpRestart)

/-- BUS_GP_PDU (R257, R265). -/
def execBusGpPdu (c : Cmd) (s : State) : Host.Outcome State Fault Refusal := .next (s.command c 0x4B State.doBusGpPdu)

/-- BUS_SAVE (R265). -/
def execBusSave (c : Cmd) (s : State) : Host.Outcome State Fault Refusal := .next (s.command c 0x4C State.doBusSave)

end Sys2Proof.Machine
end

