-- ==== Sys2Proof/Machine/Debug.lean ====
section
/-!
DEFINITION. Sys2Proof/Machine/Debug.lean: the debug and test port (spec/18_debug_port.md): the TAP, availability, core halt and
DEBUG_HOLD, memory access, unlock and relock.
-/

namespace Sys2Proof.Machine

/-! ### The TAP (R444 to R447) -/

/-- Whether the TAP has its supply; without it no instruction is taken (log entry 29). -/
def State.tapOn (s : State) : Bool := s.pwr.core && s.pwr.v18 && s.pwr.io

/-- Whether an instruction holds the controller domain: EXTEST, HIGHZ and CLAMP (R446). -/
def irHolds (ir : Nat) : Bool := ir == 0 || ir == 3 || ir == 4

/-- An instruction becomes active: EXTEST, HIGHZ and CLAMP hold the domain in hub reset with cause DEBUG, and any other one
lets it go (R446). -/
def State.selectIr (s : State) (ir : Nat) : State :=
  let s := { s with dbg := { s.dbg with ir := ir, tapHold := irHolds ir } }
  s.when (irHolds ir) fun s => s.hubReset 9

/-- Run an instruction of the TAP: it becomes active, then its data register is captured or updated. -/
def State.tap (s : State) (ir : Nat) (f : State → State) : State := if s.tapOn then f (s.selectIr ir) else s

/-- What Capture-DR puts into the data register. -/
def State.capture (s : State) (v : Nat) : State := { s with dbg.dr := v }

/-- Both legs of a bridge: the cells of bridge b here are 2 b and 2 b + 1 (log entry 30). -/
def legPair (bsr b : Nat) : Nat := bits bsr (2 * b) 2

/-- The levels EXTEST drives on the bridge legs: a bridge with both legs high is driven low (R447). -/
def legsDriven (bsr : Nat) : Nat :=
  (List.range 16).foldl (fun n b => n + (if legPair bsr b = 3 then 0 else legPair bsr b) * 4 ^ b) 0

/-- EXTEST drives the boundary-scan register; the legs are captured as the register holds them, the other cells as their
balls stand (free values). -/
def State.extestDr (s : State) (cells : Nat) : State :=
  let d := s.draw 480
  { d.2 with dbg := { d.2.dbg with bsr := cells, dr := cells % 2 ^ 32 + 2 ^ 32 * d.1 } }

/-- SAMPLE/PRELOAD captures the balls (free values) and loads the register. -/
def State.sampleDr (s : State) (cells : Nat) : State :=
  let d := s.draw 512
  { d.2 with dbg := { d.2.dbg with bsr := cells, dr := d.1 } }

/-! ### Availability (R445, R418, Table 16-3) -/

/-- Whether a state other than FIELD counts every scope as granted. -/
def State.scopesOpen (s : State) : Bool := s.lifecycle != 2

/-- The scope in force. -/
def State.scopeInForce (s : State) : Nat := if s.scopesOpen then 7 else s.rd R.SEC_STAT_DBG_SCOPE

/-- Whether a scope bit is granted. -/
def State.scope (s : State) (k : Nat) : Bool := bit s.scopeInForce k

/-- Run a vendor instruction that needs a scope: without it, it captures zeros and its Update-DR has no effect (R445). -/
def State.vendor (s : State) (ir k : Nat) (f : State → State) : State :=
  s.tap ir fun s => if s.scope k then f s else s.capture 0

/-- Whether a challenge is live: not older than 60 stages, and R418 allows challenges. -/
def State.chalLive (s : State) : Bool :=
  s.sec.chal.isSome && decide (s.sec.tries < 3) && s.sec.chal.any fun c => decide (s.stage - c.stage ≤ 60)

/-- DBG_STATUS (Table 18-4). -/
def State.dbgStatusBits (s : State) : Nat :=
  s.lifecycle + 4 * b2n (s.on R.SEC_STAT_DBG_UNLOCKED || s.scopesOpen) + 8 * s.scopeInForce + 64 * s.dbg.halted +
  2 ^ 8 * s.dbg.haltPend + 2 ^ 10 * b2n s.debugHold + 2 ^ 11 * b2n s.chalLive + 2 ^ 12 * s.sec.tries +
  2 ^ 14 * s.sec.result + 2 ^ 16 * b2n (!s.pwr.held) + 2 ^ 17 * b2n s.dbg.conflict + 2 ^ 18 * b2n s.dbg.loud +
  2 ^ 19 * b2n (s.dbg.tst && s.lifecycle == 0)

/-! ### Unlock and relock (R418, R458, R459) -/

/-- A new challenge is issued; it shifts out byte 0 first. After 3 invalid responses, or without random numbers, there is
none. -/
def State.challenge (s : State) (scope : Nat) : State :=
  if s.sec.tries < 3 ∧ s.randomOk then
    let n := s.random 32
    let b := le 8 (s.rd R.SEC_DEV_SERIAL) ++ n.1 ++ le 1 s.lifecycle ++ le 1 scope ++ le 6 0
    { n.2 with sec.chal := some ⟨b, scope, s.stage⟩ }.capture (ofLe b)
  else s.capture 0

/-- An invalid response: 2 refused or 3 expired; after the third, no challenge stands. -/
def State.responseBad (s : State) (result scope : Nat) : State :=
  let s := { s with sec := { s.sec with
    tries := min 3 (s.sec.tries + 1), result := result, chal := if 2 ≤ s.sec.tries then none else s.sec.chal } }
  s.record 2 0x15 (le 1 scope ++ le 1 1)

/-- A valid response unlocks the scope. -/
def State.unlock (s : State) (scope : Nat) : State :=
  let s := { s with sec := { s.sec with result := 1, chal := none } }
  let s := s.wrs [(R.SEC_STAT_DBG_UNLOCKED, 1), (R.SEC_STAT_DBG_SCOPE, scope % 8)]
  let s := (s.record 2 0x15 (le 1 scope ++ le 1 0)).secNote 4 scope 0
  (s.fault clNote 0x68 4 scope 0).recert

/-- A response as the bytes r then s. -/
def State.responseGood (s : State) (c : Challenge) (resp : Bytes) : Bool :=
  (s.keySlot 1).kind != 0 && Config.ecdsaVerify (s.keySlot 1).key (Config.sha256 c.bytes) resp

/-- The hub judges the response that waits, by the next slot edge. -/
def State.responseJudge (s : State) : State :=
  match s.sec.resp with
  | none => s
  | some resp =>
    let s := { s with sec.resp := none }
    match s.sec.chal with
    | none => s.responseBad 2 0
    | some c =>
      if 60 < s.stage - c.stage then s.responseBad 3 c.scope
      else if s.responseGood c resp then s.unlock c.scope else s.responseBad 2 c.scope

/-! ### Core halt (R449 to R453) -/

/-- DBG_CTRL with HALT of a core: a request that the core has not met yet. A core that is halted, or a hub whose power-fail
sequence has begun, ignores it; a write that asks for both changes nothing for the core and sets CONFLICT. -/
def State.haltAsk (s : State) (core : Nat) (both : Bool) : State :=
  if both then { s with dbg.conflict := true }
  else
    let s := { s with dbg.conflict := false }
    if s.dbg.noHalt || bit s.dbg.halted core then s
    else { s with dbg.haltPend := setBit s.dbg.haltPend core true }

/-- A core halts: at its next instruction boundary, after a locked sequence, not before the first tick. The first one starts
DEBUG_HOLD. -/
def State.coreHalts (s : State) (core : Nat) : State :=
  if s.pwr.held || !bit s.dbg.haltPend core then s
  else
    let first := s.dbg.halted == 0
    let s := { s with dbg := { s.dbg with
      haltPend := setBit s.dbg.haltPend core false, halted := setBit s.dbg.halted core true } }
    let s := s.debugRunHold core
    if first then ((s.forceOn 2).padDo Pad.rearmLine).note 0x70 1 s.dbg.halted 0 else s

/-- DBG_CTRL with RESUME of a core: it resumes at the next slot edge. -/
def State.resumeAsk (s : State) (core : Nat) : State :=
  let s := { s with dbg.conflict := false }
  if bit s.dbg.halted core then { s with dbg.resume := setBit s.dbg.resume core true } else s

/-- A core resumes at a slot edge; when no core is halted any more, DEBUG_HOLD ends. -/
def State.coreResumes (s : State) (core : Nat) : State :=
  if bit s.dbg.resume core then
    let s := { s with dbg := { s.dbg with
      resume := setBit s.dbg.resume core false, halted := setBit s.dbg.halted core false } }
    let s := s.debugRunEnd core
    if s.dbg.halted = 0 then (s.forceOff 2 true).note 0x70 2 0 0 else s
  else s

/-- DBG_CTRL.RELOCK: deferred halts are dropped, every halted core resumes, and the scope ends at that slot edge. -/
def State.relockAsk (s : State) : State :=
  { s with dbg := { s.dbg with conflict := false, haltPend := 0, resume := s.dbg.halted, relock := true } }

/-- The scope ends. -/
def State.relocks (s : State) : State :=
  if s.dbg.relock then
    let scope := s.rd R.SEC_STAT_DBG_SCOPE
    let s := { s with dbg := { s.dbg with relock := false, loud := false } }
    let s := s.wrs [(R.SEC_STAT_DBG_UNLOCKED, 0), (R.SEC_STAT_DBG_SCOPE, 0)]
    ((s.record 2 0x15 (le 1 scope ++ le 1 2)).note 0x70 3 0 0).recert
  else s

/-- What the debug port does at a slot edge: resumes first, then a relock, then the judgement of a response. -/
def State.debugSlot (s : State) : State := (((s.coreResumes 0).coreResumes 1).relocks).responseJudge

/-! ### Memory access (R454, R455, Table 18-3) -/

/-- DBG_MEM's register after an access: ADDR, DATA, WRITE, INC and STATUS. -/
def State.memDone (s : State) (addr data status : Nat) (write inc : Bool) : State :=
  let a := if inc ∧ status = 0 then (addr + 4) % 2 ^ 32 else addr
  let s := { s with dbg := { s.dbg with addr := a, data := data, status := status } }
  s.capture (a + 2 ^ 32 * data + 2 ^ 64 * b2n write + 2 ^ 65 * b2n inc + 2 ^ 66 * status)

/-- An access that reads nothing: DATA is a free value. -/
def State.memNone (s : State) (addr status : Nat) (write inc : Bool) (data : Option Nat) : State :=
  match data with
  | some d => s.memDone addr d status write inc
  | none => let d := s.draw 32; d.2.memDone addr d.1 status write inc

/-- The stall and the offset of a stall-memory address. -/
def stallPlace (addr : Nat) : Option (Nat × Nat) :=
  if 0x10000000 ≤ addr ∧ addr < 0x10400000 ∧ (narrowPlace (addr % 0x100000)).isSome then
    some ((addr - 0x10000000) / 0x100000, addr % 0x100000)
  else none

/-- DBG_MEM with WRITE 0. -/
def State.memRead (s : State) (addr : Nat) (inc : Bool) : State :=
  if s.pwr.held && !s.pwr.booted then s.memNone addr 1 false inc none
  else if addr % 4 ≠ 0 then s.memNone addr 3 false inc none
  else if addr < 0xC0000 then s.memDone addr (ofLe (cellsGet 0 s.dbg.sram addr 4)) 0 false inc
  else
    match stallPlace addr with
    | none => s.memNone addr 3 false inc none
    | some (q, a) =>
      if !s.scope 2 then s.memNone addr 2 false inc none
      else
        let r := s.narrowRead q a false
        match r.1 with
        | none => r.2.memNone addr 3 false inc none
        | some v => r.2.memDone addr v 0 false inc

/-- DBG_MEM with WRITE 1; weight memory is read only. -/
def State.memWrite (s : State) (addr v : Nat) (inc : Bool) : State :=
  if s.pwr.held && !s.pwr.booted then s.memDone addr v 1 true inc
  else if addr % 4 ≠ 0 then s.memDone addr v 3 true inc
  else if addr < 0xC0000 then
    ({ s with dbg.sram := cellsPut 0 s.dbg.sram addr (le 4 v) }.cacheInvalidate addr).memDone addr v 0 true inc
  else
    match stallPlace addr with
    | none => s.memDone addr v 3 true inc
    | some (q, a) =>
      if !s.scope 2 then s.memDone addr v 2 true inc
      else if a < 0x28000 then s.memDone addr v 3 true inc
      else (s.narrowWrite q a v false).memDone addr v 0 true inc

/-! ### Channel 31 (R448) -/

/-- Bytes in channel 31's receive FIFO. -/
def RxPath.size (x : RxPath) : Nat := x.part.length + (x.frames.map (·.length)).sum

/-- Channel 31's receive FIFO holds 512 bytes. -/
def State.dbgRxFull (s : State) : Bool := decide (512 ≤ (s.rxPath 3).size)

/-- A byte is pushed; one that finds the FIFO full is dropped, and its frame is discarded (R72). -/
def State.spokePush (s : State) (b : Byte) : State :=
  if s.dbgRxFull then s.rxDiscard 3 else s.rxBytes 3 [b]

/-- A byte is popped, if one is there: BYTE, VALID and RX_FULL (Table 18-7). -/
def State.spokePop (s : State) : State :=
  let full := 512 * b2n s.dbgRxFull
  match s.stream 3 with
  | [] => s.capture full
  | b :: rest => { s with spoke.streams := mput [] s.spoke.streams 3 rest }.capture (b.toNat + 256 + full)

/-- HOST_SVC moves packets of channel 31 into its transmit FIFO of 512 bytes. -/
def State.spokeFill (s : State) : State := (s.fillStream 3 512 0 512).1

/-- DBG_READ_MODE (Table 18-8). -/
def State.doDbgReadMode (s : State) (r : Ref) (p : Bytes) : State :=
  s.checked r [lengthIs p 1, param (decide (1 < u8 p 0)), permitted (r.ch == 31)]
    fun s => { s with dbg.loud := u8 p 0 == 1 }.ok r

end Sys2Proof.Machine
end

