-- ==== Sys2Proof/Machine/DebugCommands.lean ====
section
/-!
DEFINITION. Sys2Proof/Machine/DebugCommands.lean: the rows of spec/18_debug_port.md. A row of the port selects its TAP
instruction and shifts its data register once.
-/

namespace Sys2Proof.Machine

/-! ### IEEE 1149.1 (R444, Table 18-1) -/

/-- TAP_RESET: DBG_TRSTN low. -/
def execTapReset (s : State) : Host.Outcome State Fault Refusal := .next s.tapReset

/-- EXTEST (R446, R447). -/
def execExtest (cells : Nat) (s : State) : Host.Outcome State Fault Refusal := .next (s.tap 0x00 fun s => s.extestDr cells)

/-- SAMPLE/PRELOAD. -/
def execSamplePreload (cells : Nat) (s : State) : Host.Outcome State Fault Refusal := .next (s.tap 0x01 fun s => s.sampleDr cells)

/-- IDCODE. -/
def execIdcode (s : State) : Host.Outcome State Fault Refusal := .next (s.tap 0x02 fun s => s.capture 0x14864A3D)

/-- HIGHZ (R446); the bypass register captures 0. -/
def execHighz (s : State) : Host.Outcome State Fault Refusal := .next (s.tap 0x03 fun s => s.capture 0)

/-- CLAMP (R446). -/
def execClamp (s : State) : Host.Outcome State Fault Refusal := .next (s.tap 0x04 fun s => s.capture 0)

/-- BYPASS. -/
def execBypass (s : State) : Host.Outcome State Fault Refusal := .next (s.tap 0x1F fun s => s.capture 0)

/-! ### Status, challenge and response (R458) -/

/-- DBG_STATUS. -/
def execDbgStatus (s : State) : Host.Outcome State Fault Refusal := .next (s.tap 0x10 fun s => s.capture s.dbgStatusBits)

/-- DBG_CHAL. -/
def execDbgChal (scope : BitVec 8) (s : State) : Host.Outcome State Fault Refusal := .next (s.tap 0x11 fun s => s.challenge scope.toNat)

/-- DBG_RESP: r then s, byte 0 first in the register's low bits. -/
def execDbgResp (response : BitVec 512) (s : State) : Host.Outcome State Fault Refusal :=
  .next (s.tap 0x12 fun s => { s with sec.resp := some (le 64 response.toNat) }.capture 0)

/-- DEBUG_RESPONSE_JUDGED. -/
def execDebugResponseJudged (s : State) : Host.Outcome State Fault Refusal := .next s.responseJudge

/-! ### DBG_CTRL (Table 18-5) -/

/-- HALT. -/
def execHalt (core : Fin 2) (both : Bool) (s : State) : Host.Outcome State Fault Refusal :=
  .next (s.vendor 0x13 0 fun s => (s.haltAsk core both).capture 0)

/-- CORE_HALT. -/
def execCoreHalt (core : Fin 2) (s : State) : Host.Outcome State Fault Refusal := .next (s.coreHalts core)

/-- RESUME. -/
def execResume (core : Fin 2) (s : State) : Host.Outcome State Fault Refusal :=
  .next (s.vendor 0x13 0 fun s => (s.resumeAsk core).capture 0)

/-- CORE_RESUME. -/
def execCoreResume (core : Fin 2) (s : State) : Host.Outcome State Fault Refusal := .next (s.coreResumes core)

/-- RESET: a hub reset with cause DEBUG (R459). -/
def execDbgReset (s : State) : Host.Outcome State Fault Refusal :=
  .next (s.vendor 0x13 0 fun s => ({ s with dbg.conflict := false }.hubReset 9).capture 0)

/-- RELOCK (R459). -/
def execRelock (s : State) : Host.Outcome State Fault Refusal := .next (s.vendor 0x13 0 fun s => s.relockAsk.capture 0)

/-- FLUSH (R448). -/
def execFlush (s : State) : Host.Outcome State Fault Refusal :=
  .next (s.vendor 0x13 0 fun s => ({ s with dbg.conflict := false }.rxDiscard 3).capture 0)

/-! ### DBG_MEM and DBG_SPOKE -/

/-- DBG_MEM read. -/
def execDbgMemRead (addr : BitVec 32) (inc : Bool) (s : State) : Host.Outcome State Fault Refusal :=
  .next (s.vendor 0x14 0 fun s => s.memRead addr.toNat inc)

/-- DBG_MEM write. -/
def execDbgMemWrite (addr data : BitVec 32) (inc : Bool) (s : State) : Host.Outcome State Fault Refusal :=
  .next (s.vendor 0x14 0 fun s => s.memWrite addr.toNat data.toNat inc)

/-- DBG_SPOKE, a byte pushed. -/
def execDbgSpokePush (data : Byte) (s : State) : Host.Outcome State Fault Refusal :=
  .next (s.vendor 0x15 1 fun s => s.spokePush data)

/-- DBG_SPOKE, a byte popped. -/
def execDbgSpokePop (s : State) : Host.Outcome State Fault Refusal := .next (s.vendor 0x15 1 fun s => s.spokePop)

/-- DBG_READ_MODE (R461). -/
def execDbgReadMode (c : Cmd) (s : State) : Host.Outcome State Fault Refusal := .next (s.command c 0x70 State.doDbgReadMode)

end Sys2Proof.Machine
end

