-- ==== Sys2Proof/Machine/PaddockCommands.lean ====
section
/-!
DEFINITION. Sys2Proof/Machine/PaddockCommands.lean: the rows of spec/08_paddock.md, and the two supply events of the Paddock
(spec/02_power_reset.md). A row that names a condition acts when the Paddock's state meets it.
-/

namespace Sys2Proof.Machine

/-- ROUND_END (R209). -/
def execRoundEnd (i : RoundIn) (s : State) : Host.Outcome State Fault Refusal := .next (s.padRound i)

/-- SAFETY_INPUT_FILTER (R214). -/
def execSafetyInputFilter (n : Fin 8) (channelB closed : Bool) (s : State) : Host.Outcome State Fault Refusal :=
  .next (s.padDo fun p => p.filter n channelB closed)

/-- DISCREPANT (R216): DISC units have passed with the two channels apart. -/
def execDiscrepant (n : Fin 8) (s : State) : Host.Outcome State Fault Refusal := .next (s.padDo fun p => p.discrepant n)

/-- FB_FAULT (R219): FB_TIME has passed with PFBn open while PLANTn is energised. -/
def execFbFault (n : Fin 4) (s : State) : Host.Outcome State Fault Refusal := .next (s.padDo fun p => p.fbFault n)

/-- WELD (R219): FB_TIME has passed with PFBn closed while PLANTn is off. -/
def execWeld (n : Fin 4) (s : State) : Host.Outcome State Fault Refusal := .next (s.padDo fun p => p.weld n)

/-- PROOF_WINDOW_OPEN (R220). -/
def execProofWindowOpen (n : Fin 4) (s : State) : Host.Outcome State Fault Refusal := .next (s.padDo fun p => p.windowOpen n)

/-- PROOF_DEADLINE (R220). -/
def execProofDeadline (n : Fin 4) (s : State) : Host.Outcome State Fault Refusal := .next (s.padDo fun p => p.deadline n)

/-- PROOF_TEST_END (R220): FB_TIME has passed since the test began. -/
def execProofTestEnd (n : Fin 4) (s : State) : Host.Outcome State Fault Refusal := .next (s.padDo fun p => p.proofEnd n)

/-- SLT_TRIP (R221). -/
def execSltTrip (s : State) : Host.Outcome State Fault Refusal := .next (s.padDo Pad.sltTrip)

/-- SLT_RELEASE (R221). -/
def execSltRelease (s : State) : Host.Outcome State Fault Refusal := .next (s.padDo Pad.sltRelease)

/-- SLT_SENS (R221). -/
def execSltSens (s : State) : Host.Outcome State Fault Refusal := .next (s.padDo Pad.sltSens)

/-- SDIR_RELEASE (R222). -/
def execSdirRelease (s : State) : Host.Outcome State Fault Refusal := .next (s.padDo Pad.sdirRelease)

/-- SLP_FAULT (R223). -/
def execSlpFault (s : State) : Host.Outcome State Fault Refusal := .next (s.padDo Pad.slpLatch)

/-- FROST_DEMAND_ON (R225). -/
def execFrostDemandOn (s : State) : Host.Outcome State Fault Refusal := .next (s.padDo Pad.frostOn)

/-- FROST_DEMAND_OFF (R225). -/
def execFrostDemandOff (s : State) : Host.Outcome State Fault Refusal := .next (s.padDo Pad.frostOff)

/-- CLK_FAULT (R210): the outputs go off at once. -/
def execClkFault (s : State) : Host.Outcome State Fault Refusal := .next (s.padDo Pad.clkFault)

/-- LANE_FAULT (R211). -/
def execLaneFault (s : State) : Host.Outcome State Fault Refusal := .next (s.padDo Pad.laneFault)

/-- HEARTBEAT_RESPONSE (R227). -/
def execHeartbeatResponse (v : BitVec 16) (s : State) : Host.Outcome State Fault Refusal :=
  .next (s.padDo fun p => p.respond v.toNat)

/-- HEARTBEAT_LAPSE (R228). -/
def execHeartbeatLapse (s : State) : Host.Outcome State Fault Refusal := .next (s.padDo Pad.lapse)

/-- REARM_WINDOW_END (R228). -/
def execRearmWindowEnd (s : State) : Host.Outcome State Fault Refusal := .next (s.padDo Pad.windowEnd)

/-- ARMED (R228). -/
def execArmed (s : State) : Host.Outcome State Fault Refusal := .next (s.padDo Pad.arm)

/-- STAGED_BLOCK_EXPIRE (R234). -/
def execStagedBlockExpire (s : State) : Host.Outcome State Fault Refusal := .next (s.padDo Pad.expire)

/-- PAD_COMMIT_ACTIVATE (R235): the store write has ended and the round end comes. -/
def execPadCommitActivate (s : State) : Host.Outcome State Fault Refusal := .next (s.padDo Pad.activate)

/-- PAD_STAGE (R240). -/
def execPadStage (c : Cmd) (s : State) : Host.Outcome State Fault Refusal := .next (s.command c 0x40 State.doPadStage)

/-- PAD_COMMIT (R234, R240). -/
def execPadCommit (c : Cmd) (s : State) : Host.Outcome State Fault Refusal := .next (s.command c 0x41 State.doPadCommit)

/-- PAD_CANCEL (R240). -/
def execPadCancel (c : Cmd) (s : State) : Host.Outcome State Fault Refusal := .next (s.command c 0x42 State.doPadCancel)

/-- PAD_PROOF (R220, R240). -/
def execPadProof (c : Cmd) (s : State) : Host.Outcome State Fault Refusal := .next (s.command c 0x43 State.doPadProof)

/-- PAD_RESTART (R240). -/
def execPadRestart (c : Cmd) (s : State) : Host.Outcome State Fault Refusal := .next (s.command c 0x44 State.doPadRestart)

/-- PAD_POWER_UP (R38, R238): the Paddock alone is reset; its snapshot reads its Reset values. -/
def execPadPowerUp (s : State) : Host.Outcome State Fault Refusal :=
  let d := s.drawChallenge
  .next ({ d.2 with pad := d.2.pad.powerUp d.1, pwr.pad := true }.padSnapReset.mixFollow)

/-- VDD_PAD_LOSS (R37, Corners): the outputs are low and the snapshot stops; what stands on the hot-leg gate and the ceiling
without VDD_PAD is a free value (log entry 21). -/
def execVddPadLoss (s : State) : Host.Outcome State Fault Refusal :=
  let g := s.draw 1
  let c := g.2.draw 12
  .next ({ c.2 with pad := { c.2.pad.lose with inhibit := g.1 == 1, ceil := c.1 }, pwr.pad := false }.mixFollow)

end Sys2Proof.Machine
end

