-- ==== Sys2Proof/Machine/PanelCommands.lean ====
section
/-!
DEFINITION. Sys2Proof/Machine/PanelCommands.lean: the rows of spec/13_panel_matrix.md and spec/14_panel_segments.md.
-/

namespace Sys2Proof.Machine

/-- PANEL_LAP_EDGE (R350). -/
def execPanelLapEdge (s : State) : Host.Outcome State Fault Refusal := .next s.panelLap

/-- PANEL_POWER_ON_STEP (R362). -/
def execPanelPowerOnStep (vghPg vglPg : Bool) (s : State) : Host.Outcome State Fault Refusal := .next (s.powerOnStep vghPg vglPg)

/-- ORDERLY_OFF (R363): the blank frame starts; in BLANKING it has ended, and the discharge starts. -/
def execOrderlyOff (s : State) : Host.Outcome State Fault Refusal := .next s.orderlyStep

/-- ABRUPT_OFF (R364): the cause is the one that stands: PFI, limp mode, or else none. -/
def execAbruptOff (s : State) : Host.Outcome State Fault Refusal :=
  .next (s.abruptOff (if s.on R.PWR_STAT_PFI then 2 else if s.limp then 8 else 0) false)

/-- POWER_GOOD_LOW (R364). -/
def execPowerGoodLow (s : State) : Host.Outcome State Fault Refusal := .next s.powerGoodLow

/-- VSRC_FAIL (R364). -/
def execVsrcFail (s : State) : Host.Outcome State Fault Refusal := .next s.vsrcFail

/-- DISCHARGE_END (R365). -/
def execDischargeEnd (s : State) : Host.Outcome State Fault Refusal := .next s.dischargeEnd

/-- DSP_POWER (R362, R363, R369). -/
def execDspPower (c : Cmd) (s : State) : Host.Outcome State Fault Refusal := .next (s.command c 0x60 State.doDspPower)

/-- DSP_WRITE (R352, R369). -/
def execDspWrite (c : Cmd) (s : State) : Host.Outcome State Fault Refusal := .next (s.command c 0x61 State.doDspWrite)

/-- DSP_FILL (R352, R369). -/
def execDspFill (c : Cmd) (s : State) : Host.Outcome State Fault Refusal := .next (s.command c 0x62 State.doDspFill)

/-- DSP_PRESENT (R353, R369). -/
def execDspPresent (c : Cmd) (s : State) : Host.Outcome State Fault Refusal := .next (s.command c 0x63 State.doDspPresent)

/-- DSP_LW_WRITE (R360, R369). -/
def execDspLwWrite (c : Cmd) (s : State) : Host.Outcome State Fault Refusal := .next (s.command c 0x64 State.doDspLwWrite)

/-- DSP_MODE (R360, R369). -/
def execDspMode (c : Cmd) (s : State) : Host.Outcome State Fault Refusal := .next (s.command c 0x65 State.doDspMode)

/-- DSP_GAMMA_WRITE (R347, R357): a ladder is written; it takes effect at the next lap edge. A refused value changes nothing. -/
def execDspGammaWrite (negative : Bool) (v : BitVec 512) (s : State) : Host.Outcome State Fault Refusal :=
  let id := if negative then 0x6005 else 0x6004
  .next (if s.dspCheck id v.toNat = stOk then s.setRw id v.toNat else s)

/-- SEGMENT_SWAP (R376): the swap committed takes place. -/
def execSegmentSwap (s : State) : Host.Outcome State Fault Refusal := .next s.segSwap

/-- VLCD_LOW (R375, R380). -/
def execVlcdLow (s : State) : Host.Outcome State Fault Refusal := .next (s.vlcdLow true)

/-- VLCD_LOW_END (R375, R382). -/
def execVlcdLowEnd (s : State) : Host.Outcome State Fault Refusal := .next (s.vlcdLow false)

/-- ALT_PATTERN (R377). -/
def execAltPattern (s : State) : Host.Outcome State Fault Refusal := .next s.segAlt

/-- LOSS_T_STOP (R378): LOSS_T stage edges have passed without the main rails. -/
def execLossTStop (s : State) : Host.Outcome State Fault Refusal :=
  .next (if s.seg.noMain && s.rd R.SEG_CFG_LOSS_T != 0 then s.lossStop else s)

/-- SEGMENT_RESTART (R378). -/
def execSegmentRestart (s : State) : Host.Outcome State Fault Refusal := .next s.segRestart

/-- SEG_CFG_WRITE (R374, Table 14-5): the value written to SEG_CFG. -/
def execSegCfgWrite (v : BitVec 32) (s : State) : Host.Outcome State Fault Refusal :=
  .next (if segCheck 0x6401 v.toNat = stOk then s.setRw 0x6401 v.toNat else s)

/-- SEG_WRITE (R376, R381). -/
def execSegWrite (c : Cmd) (s : State) : Host.Outcome State Fault Refusal := .next (s.command c 0x66 State.doSegWrite)

/-- SEG_SHOW (R376, R381). -/
def execSegShow (c : Cmd) (s : State) : Host.Outcome State Fault Refusal := .next (s.command c 0x67 State.doSegShow)

end Sys2Proof.Machine
end

