-- ==== Sys2Proof/Machine/StableCommands.lean ====
section
/-!
DEFINITION. Sys2Proof/Machine/StableCommands.lean: the rows of spec/11_stable_engine.md and spec/12_stable_scratchpad.md.
-/

namespace Sys2Proof.Machine

/-- STALL_WINDOW_CLOSE (R305, R311, R341). -/
def execStallWindowClose (s : State) : Host.Outcome State Fault Refusal := .next s.stbClose

/-- An operation row: while Stable is off no stall runs (R316). -/
def State.opRow (s : State) (q k : Fin 4) (opc : Nat) (w : BitVec 32) : State :=
  if s.on R.STB_STAT_OFF then s else s.runOp q.val k.val opc w.toNat

/-- NOP (R300, Table 11-3): no effect. -/
def execNop (q k : Fin 4) (w : BitVec 32) (s : State) : Host.Outcome State Fault Refusal := .next (s.opRow q k 0x0 w)

/-- SETR (R300, Table 11-3): a register takes IMM. -/
def execSetr (q k : Fin 4) (w : BitVec 32) (s : State) : Host.Outcome State Fault Refusal := .next (s.opRow q k 0x1 w)

/-- ADDR (R300, Table 11-3): a register plus SIMM, modulo 2^16. -/
def execAddr (q k : Fin 4) (w : BitVec 32) (s : State) : Host.Outcome State Fault Refusal := .next (s.opRow q k 0x2 w)

/-- TLOAD (R300, Table 11-3): a weight tile goes into a latch (R335, R337). -/
def execTload (q k : Fin 4) (w : BitVec 32) (s : State) : Host.Outcome State Fault Refusal := .next (s.opRow q k 0x3 w)

/-- MACT (R300, Table 11-3): sums plus latch times activations (R298). -/
def execMact (q k : Fin 4) (w : BitVec 32) (s : State) : Host.Outcome State Fault Refusal := .next (s.opRow q k 0x4 w)

/-- ACT (R300, Table 11-3): sums become activations (R299). -/
def execAct (q k : Fin 4) (w : BitVec 32) (s : State) : Host.Outcome State Fault Refusal := .next (s.opRow q k 0x5 w)

/-- POOL (R300, Table 11-3): maximum or rounded mean over K vectors. -/
def execPool (q k : Fin 4) (w : BitVec 32) (s : State) : Host.Outcome State Fault Refusal := .next (s.opRow q k 0x6 w)

/-- STORE (R300, Table 11-3): vectors go to a ring's head (R304). -/
def execStore (q k : Fin 4) (w : BitVec 32) (s : State) : Host.Outcome State Fault Refusal := .next (s.opRow q k 0x7 w)

/-- RADV (R300, Table 11-3): a ring's tail or head advances (R304, R330, R331). -/
def execRadv (q k : Fin 4) (w : BitVec 32) (s : State) : Host.Outcome State Fault Refusal := .next (s.opRow q k 0x8 w)

/-- RWAIT (R300, Table 11-3): the tile ends unless the ring meets the wait (R309). -/
def execRwait (q k : Fin 4) (w : BitVec 32) (s : State) : Host.Outcome State Fault Refusal := .next (s.opRow q k 0x9 w)

/-- NSEND (R300, Table 11-3): vectors go to a neighbour's ring under credits (R327 to R329). -/
def execNsend (q k : Fin 4) (w : BitVec 32) (s : State) : Host.Outcome State Fault Refusal := .next (s.opRow q k 0xA w)

/-- LOOP (R300, Table 11-3): AR6 or AR7 counts down and the program goes back. -/
def execLoop (q k : Fin 4) (w : BitVec 32) (s : State) : Host.Outcome State Fault Refusal := .next (s.opRow q k 0xB w)

/-- WAITT (R300, Table 11-3): the tile ends until the T-th due tick (R309). -/
def execWaitt (q k : Fin 4) (w : BitVec 32) (s : State) : Host.Outcome State Fault Refusal := .next (s.opRow q k 0xC w)

/-- MOVE (R300, Table 11-3): vectors are copied within a memory. -/
def execMove (q k : Fin 4) (w : BitVec 32) (s : State) : Host.Outcome State Fault Refusal := .next (s.opRow q k 0xD w)

/-- JUMP (R300, Table 11-3): the program goes on at TARGET. -/
def execJump (q k : Fin 4) (w : BitVec 32) (s : State) : Host.Outcome State Fault Refusal := .next (s.opRow q k 0xE w)

/-- END (R300, Table 11-3): the task ends and returns to READY (R309). -/
def execOpEnd (q k : Fin 4) (w : BitVec 32) (s : State) : Host.Outcome State Fault Refusal := .next (s.opRow q k 0xF w)

/-- NARROW_ACCESS (R321): an access of a core, through the stall's cache to system SRAM (R333) or to a stall memory. -/
def execNarrowAccess (q : Fin 4) (cached : Bool) (addr : BitVec 20) (write : Option (BitVec 32)) (s : State) :
    Host.Outcome State Fault Refusal :=
  .next (if cached then s.cacheAccess q.val addr.toNat (write.map (·.toNat))
    else match write with
      | some v => s.narrowWrite q.val addr.toNat v.toNat true
      | none => (s.narrowRead q.val addr.toNat true).2)

/-- SCRUB (R336, R337, R340). -/
def execScrub (q : Fin 4) (s : State) : Host.Outcome State Fault Refusal :=
  .next (if s.on R.STB_STAT_OFF then s else s.scrubWord q.val)

/-- ROW_REPAIR_COPY (R341): outside the stall window, after the map commit. -/
def execRowRepairCopy (q : Fin 4) (s : State) : Host.Outcome State Fault Refusal := .next (if s.stb.window then s else s.rowCopy q.val)

/-- STB_AUDIT_WRITE (R325). -/
def execStbAuditWrite (v : BitVec 8) (s : State) : Host.Outcome State Fault Refusal :=
  .next (s.wr R.STB_AUDIT_EN (bits v.toNat 0 1)).auditHook

/-- STB_CACHE_WRITE (R332). -/
def execStbCacheWrite (v : BitVec 8) (s : State) : Host.Outcome State Fault Refusal :=
  .next (s.wr R.STB_CACHE_EN (bits v.toNat 0 4)).cacheHook

/-- CACHE_SWITCH (R332, R334): at the lap edge. -/
def execCacheSwitch (s : State) : Host.Outcome State Fault Refusal := .next s.cacheSwitch

/-- STB_LOAD_BEGIN (R306, R307). -/
def execStbLoadBegin (c : Cmd) (s : State) : Host.Outcome State Fault Refusal := .next (s.command c 0x58 State.doStbLoadBegin)

/-- STB_LOAD_DATA (R307). -/
def execStbLoadData (c : Cmd) (s : State) : Host.Outcome State Fault Refusal := .next (s.command c 0x59 State.doStbLoadData)

/-- STB_LOAD_END (R300, R307, R335, R337). -/
def execStbLoadEnd (c : Cmd) (s : State) : Host.Outcome State Fault Refusal := .next (s.command c 0x5A State.doStbLoadEnd)

/-- STB_TASK_START (R310, R325). -/
def execStbTaskStart (c : Cmd) (s : State) : Host.Outcome State Fault Refusal := .next (s.command c 0x5B State.doStbTaskStart)

/-- STB_TASK_STOP (R317). -/
def execStbTaskStop (c : Cmd) (s : State) : Host.Outcome State Fault Refusal := .next (s.command c 0x5C State.doStbTaskStop)

/-- STB_FEED (R314): it waits for the next STB_SVC run. -/
def execStbFeed (c : Cmd) (s : State) : Host.Outcome State Fault Refusal := .next (s.command c 0x5D State.doStbFeed)

end Sys2Proof.Machine
end

