-- ==== Sys2Proof/Machine/ThermalCommands.lean ====
section
/-!
DEFINITION. Sys2Proof/Machine/ThermalCommands.lean: the rows of spec/15_die_thermal.md.
-/

namespace Sys2Proof.Machine

/-- DELTA of the last evaluation as an integer. -/
def State.deltaNow (s : State) : Int := signed 12 (s.rd R.THM_STAT_DELTA)

/-- GRACE_EXPIRE (R389): the grace is over with nothing enforced, and the target level is enforced. -/
def execGraceExpire (s : State) : Host.Outcome State Fault Refusal :=
  let t := s.rd R.THM_STAT_TARGET
  .next (if 0 < t ∧ s.enforced = 0 ∧ s.rd R.THM_STAT_GRACE ≤ 1 then
    { s.wr R.THM_STAT_GRACE 0 with thm.level := t }.enforcedTold 0 true else s)

/-- RISE_ALARM (R388): the fourth consecutive evaluation with DELTA of 1.0 degC or more. -/
def execRiseAlarm (s : State) : Host.Outcome State Fault Refusal :=
  .next (if 3 ≤ s.rd R.THM_STAT_STREAK ∧ 0x010 ≤ s.deltaNow then s.riseAlarm s.deltaNow else s)

/-- RISE_ACT_END (R388): the eighth consecutive evaluation with DELTA below 2.5 degC. -/
def execRiseActEnd (s : State) : Host.Outcome State Fault Refusal :=
  .next (if 7 ≤ s.thm.calm ∧ s.deltaNow < 0x028 then s.riseAct s.deltaNow else s)

/-- LEVEL_FALL (R391): the eighth consecutive evaluation with the target below the thermal level. -/
def execLevelFall (s : State) : Host.Outcome State Fault Refusal :=
  .next (if 7 ≤ s.thm.below then s.levelFall.enforcedTold s.enforced true else s)

/-- LEVEL_TAKES_EFFECT (R390, Table 15-4), at a lap edge. -/
def execLevelTakesEffect (s : State) : Host.Outcome State Fault Refusal := .next s.thmLap

/-- THERM_STOP (R392 step 4). -/
def execThermStop (s : State) : Host.Outcome State Fault Refusal := .next s.thermStop

/-- CUT_SENSOR_TRIP (R393). -/
def execCutSensorTrip (s : State) : Host.Outcome State Fault Refusal := .next s.cutTrip

/-- CUT_SENSOR_RELEASE (R394): the thermal reset lasts no longer. -/
def execCutSensorRelease (s : State) : Host.Outcome State Fault Refusal := .next { s with thm.cut := false }

/-- THM_FLOOR (R398). -/
def execThmFloor (c : Cmd) (s : State) : Host.Outcome State Fault Refusal := .next (s.command c 0x3C State.doThmFloor)

end Sys2Proof.Machine
end

