-- ==== Sys2Proof/Machine/Spoke.lean ====
section
/-!
DEFINITION. Sys2Proof/Machine/Spoke.lean: Spoke's sessions, admission, execution order and host interface
(spec/03_spoke_packets.md).
-/

namespace Sys2Proof.Machine

/-! ### Session opcodes (Table 3-11) -/

/-- The transport of a channel (Table 3-1): 0 host, 1 and 2 the bus ports, 3 the debug port, 4 the hub's own tasks. -/
def transportOf (ch : Nat) : Nat :=
  if ch < 16 then 0 else if ch < 20 then 1 else if ch < 24 then 2 else if ch = 31 then 3 else 4

/-- Loud reads end with the session of channel 31 (R457, 18_debug_port.md). -/
def State.loudEnds (s : State) (ch : Nat) : State := if ch = 31 then { s with dbg.loud := false } else s

/-- SESSION_OPEN: a closed channel opens with a clear mask and sequence number 0 (R83, R84). -/
def State.doSessionOpen (s : State) (r : Ref) (p : Bytes) : State :=
  s.checked r [lengthIs p 1, param (decide (u8 p 0 ≠ 1))] fun s =>
    let s := s.modChan r.ch fun c => if c.isOpen then c else { c with isOpen := true, mask := 0, seq := 0, lost := none }
    s.ok r (le 1 1 ++ le 1 16 ++ le 1 64 ++ le 2 0x0FFF ++ le 4 Config.firmwareBuild.toNat)

/-- A channel closes: its mask clears and its binding ends. -/
def State.closeChan (s : State) (ch : Nat) : State :=
  (s.modChan ch fun c => { c with isOpen := false, mask := 0, lost := none, bind := none, hello := none }).loudEnds ch

/-- SESSION_CLOSE. -/
def State.doSessionClose (s : State) (r : Ref) (p : Bytes) : State :=
  s.checked r [lengthIs p 0] fun s =>
    if (s.chan r.ch).uses.any fun u => u.tag != r.tag then s.finish r stBusy
    else (s.ok r).closeChan r.ch

/-- What stays of a channel after SESSION_RESET, steps 1 to 4 (R105). -/
def resetChan (c : Channel) : Channel :=
  { c with isOpen := false, mask := 0, seq := 0, uses := [], outq := [], waits := [], lost := none, epoch := c.epoch + 1, bind := none, hello := none }

/-- SESSION_RESET, performed at its admission (R105). -/
def State.sessionReset (s : State) (ch tag : Nat) : State :=
  let c := s.chan ch
  let running := (c.live.filter (·.started)).map fun u => ({ ch := ch, tag := u.tag, op := u.op, epoch := c.epoch } : Ref)
  let s := { s with spoke.orphans := s.spoke.orphans ++ running }
  let s := ((s.updateReset ch).modChan ch resetChan).loudEnds ch
  s.modChan ch (post ch true ⟨.final, tag, 0x82, le 1 stOk, []⟩)

/-- SESSION_RESET as a row: with a payload it is refused at admission (R75). -/
def State.resetSession (s : State) (c : Cmd) : State :=
  if c.payload.isEmpty then s.sessionReset c.ch c.tag else s.reject c.ch c.tag 0x02 stBadLength

/-- HUB_RESET: the reset starts when the reply has been sent, or 1,024 ticks after it was posted. -/
def State.doHubReset (s : State) (r : Ref) (p : Bytes) : State :=
  let unbound := decide (16 ≤ r.ch ∧ r.ch ≤ 23) && (s.chan r.ch).bind.isNone
  s.checked r [lengthIs p 2, param (decide (p ≠ [0x3C, 0xC3])), permitted (!unbound && !s.on R.PWR_STAT_PFSEQ)] fun s =>
    { s.ok r with spoke.rstAt := some (s.ticks + 1024) }

/-- Whether every reply of an opcode has left the hub. -/
def State.repliesLeft (s : State) (opcode : Nat) : Bool :=
  (s.spoke.chans.all fun (e : Nat × Channel) => (e.2.outq ++ e.2.waits).all fun p => p.opcode != opcode || p.tag == 127) &&
    !(s.host.txOps.contains opcode)

/-- The accepted HUB_RESET starts: cause COMMAND. -/
def State.hubResetStarts (s : State) : State :=
  match s.spoke.rstAt with
  | none => s
  | some t => if s.repliesLeft 0x83 || decide (t ≤ s.ticks) then { s with spoke.rstAt := none }.hubReset 3 else s

/-- The event codes that the spec defines. -/
def definedEvents : List Nat :=
  [0x00, 0x01, 0x02, 0x10, 0x20, 0x28, 0x30, 0x38, 0x39, 0x3C, 0x40, 0x48, 0x49, 0x4A, 0x50, 0x58, 0x59, 0x60, 0x66, 0x68,
   0x70, 0x78, 0x79]

/-- SUBSCRIBE: the mask applies to events raised after the reply is posted. -/
def State.doSubscribe (s : State) (r : Ref) (p : Bytes) : State :=
  let m := ofLe p
  s.checked r [lengthIs p 16, param ((List.range 128).any fun n => bit m n && !definedEvents.contains n)] fun s =>
    (s.ok r).modChan r.ch fun c => { c with mask := m }

def State.doPing (s : State) (r : Ref) (p : Bytes) : State := s.checked r [lengthIs p 4] fun s => s.ok r p

/-- The rates of R101. -/
def bauds : List Nat := [115200, 230400, 460800, 921600, 1500000, 3000000]

/-- HOST_BAUD. -/
def State.doHostBaud (s : State) (r : Ref) (p : Bytes) : State :=
  s.checked r [lengthIs p 4, param (!bauds.contains (u32 p 0)), permitted (decide (r.ch < 16) && s.host.uart)] fun s =>
    { s.ok r with host.nextBaud := some (u32 p 0) }

/-- The rate that waits takes effect once its reply has been sent (R103). -/
def State.baudChanges (s : State) : State :=
  match s.host.nextBaud with
  | none => s
  | some b =>
    if s.repliesLeft 0x86 then
      { s with host := { s.host with
          nextBaud := none, prevBaud := some s.host.baud, baud := b, baudEnd := s.ticks + 2048 } }
    else s

/-- Count a framing discard of a transport (R73); the host's sets DISC. -/
def State.framingDiscard (s : State) (t : Nat) : State :=
  let x := s.rxPath t
  s.setRx t { x with frmDisc := satAdd 0xFFFF x.frmDisc 1 }

/-- No good frame has come within 2 stages: the previous rate returns (R103). -/
def State.baudReverts (s : State) : State :=
  match s.host.prevBaud with
  | none => s
  | some b =>
    if s.host.baudEnd ≤ s.ticks then
      { s with host := { s.host with prevBaud := none, baud := b } }.framingDiscard 0
    else s

/-- The counts that SESSION_INFO reports are cleared. -/
def State.infoClear (s : State) (ch : Nat) : State :=
  let t := transportOf ch
  let s := { s with spoke.rx := mmod {} s.spoke.rx t fun x => { x with crcDisc := 0, frmDisc := 0 } }
  s.modChan ch fun c => { c with drops := 0, lostCnt := 0 }

/-- SESSION_INFO; the counts clear when reported, but not by a quiet read (R456, 18_debug_port.md). -/
def State.doSessionInfo (s : State) (r : Ref) (p : Bytes) : State :=
  s.checked r [lengthIs p 0] fun s =>
    let c := s.chan r.ch
    let x := s.rxPath (transportOf r.ch)
    let st := if !c.isOpen then 0 else if c.bind.isSome then 2 else 1
    let quiet := s.quietRead r
    let info := le 1 st ++ le 1 c.uses.length ++ le 2 x.crcDisc ++ le 2 x.frmDisc ++ le 2 c.drops ++ le 2 c.lostCnt
    (s.when (!quiet) fun s => s.infoClear r.ch).ok r info

/-! ### Execution (R89, R90, R435) -/

/-- What an opcode does at execution. -/
def State.perform (s : State) (r : Ref) (p : Bytes) : State :=
  match r.op with
  | 0x00 => s.doSessionOpen r p
  | 0x01 => s.doSessionClose r p
  | 0x03 => s.doHubReset r p
  | 0x04 => s.doSubscribe r p
  | 0x05 => s.doPing r p
  | 0x06 => s.doHostBaud r p
  | 0x07 => s.doSessionInfo r p
  | 0x08 => s.doAttrRead r p
  | 0x09 => s.doAttrWrite r p
  | 0x0A => s.doAttrReadMulti r p
  | 0x0B => s.doAttrModify r p
  | 0x0C => s.doAttrInfo r p
  | 0x10 => s.doZonHold r p
  | 0x11 => s.doZonSchedWrite r p
  | 0x12 => s.doZonSchedRead r p
  | 0x13 => s.doZonRemoteT r p
  | 0x14 => s.doZonWindow r p
  | 0x15 => s.doZonPresence r p
  | 0x16 => s.doZonSave r p
  | 0x17 => s.doZonEvtRead r p
  | 0x18 => s.doZonLoopReset r p
  | 0x20 => s.doPwmGroupCtl r p
  | 0x21 => s.doPwmLoadAll r p
  | 0x22 => s.doPwmSync r p
  | 0x23 => s.doPwmClrLatch r p
  | 0x28 => s.actPlace r p
  | 0x29 => s.actPlace r p
  | 0x2A => s.actPlace r p
  | 0x2B => s.actPlace r p
  | 0x2C => s.actPlace r p
  | 0x2D => s.actPlace r p
  | 0x2E => s.doActSave r p
  | 0x30 => s.doAdcConvert r p
  | 0x31 => s.doAdcSave r p
  | 0x38 => s.doPwrSetMode r p
  | 0x39 => s.doPwrSubsysReset r p
  | 0x3C => s.doThmFloor r p
  | 0x40 => s.doPadStage r p
  | 0x41 => s.doPadCommit r p
  | 0x42 => s.doPadCancel r p
  | 0x43 => s.doPadProof r p
  | 0x44 => s.doPadRestart r p
  | 0x48 => s.doBusPortCtl r p
  | 0x49 => s.doBusTx r p
  | 0x4A => s.doBusGpRestart r p
  | 0x4B => s.doBusGpPdu r p
  | 0x4C => s.doBusSave r p
  | 0x50 => s.doHayRead r p
  | 0x51 => s.doHayWrite r p
  | 0x52 => s.doHayLogRead r p
  | 0x53 => s.doHayLogAppend r p
  | 0x54 => s.doHayLogFlush r p
  | 0x55 => s.doHayOdInc r p
  | 0x58 => s.doStbLoadBegin r p
  | 0x59 => s.doStbLoadData r p
  | 0x5A => s.doStbLoadEnd r p
  | 0x5B => s.doStbTaskStart r p
  | 0x5C => s.doStbTaskStop r p
  | 0x5D => s.doStbFeed r p
  | 0x60 => s.doDspPower r p
  | 0x61 => s.doDspWrite r p
  | 0x62 => s.doDspFill r p
  | 0x63 => s.doDspPresent r p
  | 0x64 => s.doDspLwWrite r p
  | 0x65 => s.doDspMode r p
  | 0x66 => s.doSegWrite r p
  | 0x67 => s.doSegShow r p
  | 0x68 => s.doSecHello r p
  | 0x69 => s.doSecAuth r p
  | 0x6A => s.doSecPair r p
  | 0x6B => s.doSecKey r p
  | 0x6C => s.doSecCrypt r p
  | 0x6D => s.doSecLifecycle r p
  | 0x6E => s.doSecUpdate r p
  | 0x6F => s.doSecRandom r p
  | 0x70 => s.doDbgReadMode r p
  | _ => s.finish r stUnknownOpcode

/-- The subsystems of a command (R89): the opcode range of Table 3-9, or the blocks that an attribute command names, each
written as the first opcode of its range. -/
def opSubsystem (op : Nat) : Nat :=
  if op < 0x10 then 0x00 else if op < 0x20 then 0x10 else if op < 0x28 then 0x20 else if op < 0x30 then 0x28
  else if op < 0x38 then 0x30 else if op < 0x3C then 0x38 else if op < 0x40 then 0x3C else if op < 0x48 then 0x40
  else if op < 0x50 then 0x48 else if op < 0x58 then 0x50 else if op < 0x60 then 0x58 else if op < 0x66 then 0x60
  else if op < 0x68 then 0x66 else if op < 0x70 then 0x68 else 0x70

/-- The subsystem that owns an attribute block (Table 3-10); blocks 0x01 and 0x70 have no opcodes of their own. -/
def blockSubsystem (b : Nat) : Nat :=
  match b with
  | 0x02 => 0x38
  | 0x24 => 0x28
  | 0x38 => 0x3C
  | 0x64 => 0x66
  | 0x01 => 0x101
  | 0x70 => 0x170
  | _ => b

def subsystems (op : Nat) (p : Bytes) : List Nat :=
  if 0x08 ≤ op ∧ op ≤ 0x0C then (attrBlocks op p).map blockSubsystem else [opSubsystem op]

/-- The first command of a channel that may start: every earlier one of its subsystems has ended (R89), and none of its
subsystems is recovering (R435). -/
def State.startable (s : State) (before uses : List Use) : Option Use :=
  match uses with
  | [] => none
  | u :: rest =>
    let busy := before.any fun b => (subsystems b.op b.payload).any (subsystems u.op u.payload).contains
    let held := s.flt.recov.any fun v => unitTouches v.unit u.op u.payload
    if !u.started && !busy && !held then some u else s.startable (before ++ [u]) rest

/-- Mark a command of the in queue as started. -/
def markStarted (tag : Nat) (c : Channel) : Channel :=
  { c with uses := c.uses.map fun u => if u.tag = tag then { u with started := true } else u }

/-- Execute the next command of a channel; at most 16 wait in its queue. -/
def State.runChannel (s : State) (ch fuel : Nat) : State :=
  match fuel with
  | 0 => s
  | fuel + 1 =>
    match s.startable [] (s.chan ch).live with
    | none => s
    | some u =>
      let r : Ref := ⟨ch, u.tag, u.op, (s.chan ch).epoch⟩
      ((s.modChan ch (markStarted u.tag)).perform r u.payload).runChannel ch fuel

/-- Whether Spoke admits frames and executes commands (Table 2-7, Table 3-8 READY). -/
def State.ready (s : State) : Bool := !s.pwr.held && !s.pwr.quiet

/-- The SPOKE job: commands of every channel, in channel order (log entry 32), then the console's service task. -/
def State.spokeRun (s : State) : State :=
  if s.ready then
    let s := s.each (List.range 32) fun s ch => if s.ready then s.runChannel ch 16 else s
    if s.ready then s.consoleRun else s
  else s

/-! ### Admission (R74, R413) -/

/-- The opcodes that exist, with the lengths each allows where the opcode alone fixes them (Table 3-4 check 6, R75). -/
def lengthAllowed (op n : Nat) : Option Bool :=
  match op with
  | 0x00 => some (n == 1)
  | 0x01 => some (n == 0)
  | 0x02 => some (n == 0)
  | 0x03 => some (n == 2)
  | 0x04 => some (n == 16)
  | 0x05 => some (n == 4)
  | 0x06 => some (n == 4)
  | 0x07 => some (n == 0)
  | 0x08 => some (n == 2)
  | 0x09 => some (n != 0)
  | 0x0A => some (decide (2 ≤ n ∧ n ≤ 64 ∧ n % 2 = 0))
  | 0x0B => some (n != 0)
  | 0x0C => some (n == 2)
  | 0x10 => some (n == 8)
  | 0x11 => some (n != 0)
  | 0x12 => some (n == 2)
  | 0x13 => some (n == 6)
  | 0x14 => some (n == 2)
  | 0x15 => some (n == 1)
  | 0x16 => some (n == 8)
  | 0x17 => some (n == 2)
  | 0x18 => some (n == 1)
  | 0x20 => some (n == 4)
  | 0x21 => some (n == 2)
  | 0x22 => some (n == 2)
  | 0x23 => some (n == 12)
  | 0x28 => some (n == 4)
  | 0x29 => some (n == 4)
  | 0x2A => some (n == 1)
  | 0x2B => some (n == 4)
  | 0x2C => some (n == 4)
  | 0x2D => some (n == 4)
  | 0x2E => some (n == 0)
  | 0x30 => some (n == 1)
  | 0x31 => some (n == 0)
  | 0x38 => some (n == 1)
  | 0x39 => some (n == 1)
  | 0x3C => some (n == 1)
  | 0x40 => some (n == 56)
  | 0x41 => some (n == 4)
  | 0x42 => some (n == 0)
  | 0x43 => some (n == 1)
  | 0x44 => some (n == 2)
  | 0x48 => some (n == 2)
  | 0x49 => some (n != 0)
  | 0x4A => some (n == 2)
  | 0x4B => some (decide (13 ≤ n ∧ n ≤ 29))
  | 0x4C => some (n == 0)
  | 0x50 => some (n == 6)
  | 0x51 => some (decide (4 ≤ n ∧ n ≤ 1028))
  | 0x52 => some (n == 6)
  | 0x53 => some (decide (2 ≤ n ∧ n ≤ 18))
  | 0x54 => some (n == 2)
  | 0x55 => some (n == 1)
  | 0x58 => some (n == 66)
  | 0x59 => some (decide (7 ≤ n ∧ n ≤ 4006))
  | 0x5A => some (n == 2)
  | 0x5B => some (n == 2)
  | 0x5C => some (n == 2)
  | 0x5D => some (decide (18 ≤ n ∧ n ≤ 4082 ∧ n % 16 = 2))
  | 0x60 => some (n == 1)
  | 0x61 => some (n != 0)
  | 0x62 => some (n == 11)
  | 0x63 => some (n == 0)
  | 0x64 => some (n != 0)
  | 0x65 => some (n == 1)
  | 0x66 => some (n != 0)
  | 0x67 => some (n == 0)
  | 0x68 => some (n == 18)
  | 0x69 => some (n != 0)
  | 0x6A => some (n != 0)
  | 0x6B => some (n != 0)
  | 0x6C => some (n != 0)
  | 0x6D => some (n != 0)
  | 0x6E => some (n != 0)
  | 0x6F => some (n == 1)
  | 0x70 => some (n == 1)
  | _ => none

/-- A frame as R74 sees it. -/
structure Frame where
  auth : Bool
  ch : Nat
  tag : Nat
  op : Nat
  payload : Bytes
  header : Bytes
  authTag : Bytes
deriving DecidableEq, Repr

/-- Take a complete frame apart (Tables 3-2, 3-3). -/
def frameOf (b : Bytes) : Frame :=
  let n := u16 b 5
  let auth := bit (u8 b 1) 4
  { auth := auth, ch := u8 b 2, tag := u8 b 3, op := u8 b 4, payload := sub b 7 n, header := sub b 1 6,
    authTag := if auth then sub b (7 + n) 8 else [] }

/-- The exempt opcodes of R413. -/
def exempt (op : Nat) : Bool := [0x00, 0x02, 0x07, 0x68, 0x69].contains op

/-- An authenticated frame is accepted: the counter advances, and after its last value the binding ends (R70, R414). -/
def countIn (c : Channel) : Channel :=
  { c with bind := c.bind.bind fun b => if 0xFFFFFFFF ≤ b.rx then none else some { b with rx := b.rx + 1 } }

/-- Check 3 (Table 16-6): whether it passes, and whether the counter of the channel then advances. -/
def State.authRule (s : State) (f : Frame) : Bool × Bool :=
  match (s.chan f.ch).bind with
  | some b =>
    if f.auth then
      let good := decide (f.authTag = authTag (b.key.take 16) b.rx f.header f.payload)
      (good, good)
    else (f.op == 0x02, false)
  | none =>
    let field := s.lifecycle == 2
    let may := if !field then true else if f.ch < 24 then exempt f.op else if f.ch = 31 then s.scope 1 else true
    (!f.auth && may, false)

/-- Whether the limits of R78 allow one more command. -/
def State.roomFor (s : State) (ch : Nat) : Bool :=
  let used (l : List Nat) : Nat := (l.map fun c => (s.chan c).uses.length).sum
  let lost (p : Nat → Bool) : Nat := (s.spoke.orphans.filter fun r => p r.ch).length
  decide ((s.chan ch).uses.length < 16) && decide (used (List.range 32) + lost (fun _ => true) < 64) &&
    (decide (24 ≤ ch) || decide (used (List.range 24) + lost (fun c => decide (c < 24)) < 56))

/-- Checks 4 to 8 of Table 3-4, in order: the status of the first that fails. -/
def State.admitStatus (s : State) (f : Frame) : Nat :=
  let c := s.chan f.ch
  if !c.isOpen && !(f.op == 0x00 || f.op == 0x02) then stNotPermitted
  else
    match lengthAllowed f.op f.payload.length with
    | none => stUnknownOpcode
    | some false => stBadLength
    | some true =>
      if f.op = 0x02 then stOk
      else if c.uses.any fun u => u.tag == f.tag then stTagInUse
      else if s.roomFor f.ch then stOk else stBusy

/-- An admitted command enters the in queue of its channel. -/
def State.enqueue (s : State) (f : Frame) : State :=
  let s := if f.op = 0x69 then s.helloAdmit f.ch else s
  s.modChan f.ch fun c => { c with
    uses := c.uses ++ [{ tag := f.tag, op := f.op, payload := f.payload, started := false, loud := s.dbg.loud }] }

/-- Admission of a frame (R74). -/
def State.admitFrame (s : State) (t : Nat) (f : Frame) : State :=
  if f.tag = 127 ∨ transportOf f.ch ≠ t then s.framingDiscard t
  else
    let a := s.authRule f
    if !a.1 then s.reject f.ch f.tag f.op stAuthFail
    else
      let s := if a.2 then s.modChan f.ch countIn else s
      let st := s.admitStatus f
      if st ≠ stOk then s.reject f.ch f.tag f.op st
      else if f.op = 0x02 then s.sessionReset f.ch f.tag
      else s.enqueue f

/-- Take the oldest complete frame of a transport off it and admit it. -/
def State.admitNext (s : State) (t : Nat) : State :=
  let x := s.rxPath t
  match x.frames with
  | [] => s
  | b :: rest => (s.setRx t { x with frames := rest }).admitFrame t (frameOf b)

/-- Admit every complete frame of a transport. -/
def State.admitAll (s : State) (t : Nat) : State := times (s.rxPath t).frames.length (fun s => s.admitNext t) s

/-! ### Host interface: receiving -/

/-- Whether the host interface is out of reset (R94). -/
def State.hostOn (s : State) : Bool := !s.pwr.held || s.pwr.booted

/-- A frame with a good CRC ends the wait of R103. -/
def State.hostRx (s : State) (f : State → State) : State :=
  let t := f s
  if (s.rxPath 0).frames.length < (t.rxPath 0).frames.length then { t with host.prevBaud := none } else t

/-- A byte arrives on HST_RXD; with the FIFO full it is dropped and its frame discarded (R102). -/
def State.uartByte (s : State) (b : Byte) : State :=
  s.hostRx fun s => if s.rxFree = 0 then s.rxDiscard 0 else s.rxBytes 0 [b]

/-- Bytes committed to the receive path of a transport (R497). -/
def State.received (s : State) (t : Nat) (data : Bytes) : State :=
  match t with
  | 0 =>
    if !s.hostOn then s
    else if s.host.uart then s.each data State.uartByte
    else if data.length ≤ s.rxFree then s.hostRx fun s => s.rxBytes 0 data else s
  | 3 => if s.tapOn && s.scope 1 then s.each data State.spokePush else s
  | _ => if !s.pwr.held && s.rd (R.BUS_CFG_MODE (t - 1)) == 2 then
      (s.rxBytes t data).modBus (t - 1) fun x => { x with spokeAt := s.ticks }
    else s

/-! ### Host interface: SPI (R93 to R99) -/

/-- Whether the transmit FIFO holds a complete packet. -/
def State.pktWhole (s : State) : Bool := if s.host.txCut then decide (2 ≤ s.host.txPkts.length) else !s.host.txPkts.isEmpty

/-- FLAGS (Table 3-8). -/
def State.spiFlags (s : State) : Nat :=
  b2n s.ready + 2 * b2n s.pktWhole + 4 * b2n s.host.wovf + 8 * b2n s.host.wcut + 16 * b2n s.host.disc

/-- The preamble as sampled when HST_CSN falls; WOVF, WCUT and DISC clear once sent (R93). -/
def State.spiPreamble (s : State) : Bytes × State :=
  (le 1 0xC5 ++ le 1 s.spiFlags ++ le 2 s.rxFree ++ le 2 s.host.tx.length,
   { s with host := { s.host with wovf := false, wcut := false, disc := false } })

/-- Whether SPI transactions are taken: in UART mode and in reset HST_MISO is high-impedance (R94). -/
def State.spiOn (s : State) : Bool := s.hostOn && !s.host.uart

/-- A transaction: the preamble, then what the OP does; `f` answers the data bytes clocked out. -/
def State.spi (s : State) (f : State → Bytes × State) : State :=
  if s.spiOn then
    let p := s.spiPreamble
    let d := f p.2
    { d.2 with host.miso := p.1 ++ d.1 }
  else { s with host.miso := [] }

/-- Zeros clocked out. -/
def zeros (n : Nat) : Bytes := List.replicate n 0

/-- WRITE: committed only if LEN fits the RX_FREE sampled and exactly LEN bytes were clocked (R96, R97). -/
def State.spiWrite (s : State) (len : Nat) (data : Bytes) : State :=
  let free := s.rxFree
  s.spi fun s =>
    (zeros data.length,
      if free < len % 65536 then { s with host.wovf := true }
      else if data.length ≠ len % 65536 then { s with host.wcut := true }
      else s.hostRx fun s => s.rxBytes 0 data)

/-- Bytes leave the transmit FIFO: lengths left and opcodes of its packets, and whether the first has been read in part. -/
def txDrop (n : Nat) (cut : Bool) (pkts ops : List Nat) : List Nat × List Nat × Bool :=
  match pkts, ops with
  | p :: ps, o :: os =>
    if n = 0 then (p :: ps, o :: os, cut)
    else if p ≤ n then txDrop (n - p) false ps os
    else ((p - n) :: ps, o :: os, true)
  | _, _ => ([], [], false)

/-- Take bytes off the transmit FIFO. -/
def State.txTake (s : State) (n : Nat) : Bytes × State :=
  let d := txDrop n s.host.txCut s.host.txPkts s.host.txOps
  (s.host.tx.take n,
   { s with host := { s.host with tx := s.host.tx.drop n, txPkts := d.1, txOps := d.2.1, txCut := d.2.2 } })

/-- READ: min(LEN, TX_AVAIL) bytes, then zeros; only the bytes clocked leave the FIFO (R98). -/
def State.spiRead (s : State) (len clocked : Nat) : State :=
  s.spi fun s =>
    let n := min (min (len % 65536) clocked) s.host.tx.length
    let t := s.txTake n
    (t.1 ++ zeros (clocked - n), t.2)

/-- FLUSH: the bytes of an incomplete frame leave the receive path (R99). -/
def State.spiFlush (s : State) : State := s.spi fun s => ([], s.setRx 0 { s.rxPath 0 with part := [] })

/-! ### Host interface: transmitting (R92, R100, R102) -/

/-- Move whole packets into the transmit FIFO by round robin over channels 0-15, while the next one fits (R92). -/
def State.hostFill (s : State) (fuel : Nat) : State :=
  match fuel with
  | 0 => s
  | fuel + 1 =>
    match s.nextOut 0 16 s.host.rr with
    | none => s
    | some ch =>
      match (s.chan ch).outq with
      | [] => s
      | p :: _ =>
        let b := frameBytes ch p
        if s.host.tx.length + b.length ≤ 8192 then
          let s := { s with host := { s.host with
            tx := s.host.tx ++ b, txPkts := s.host.txPkts ++ [b.length], txOps := s.host.txOps ++ [p.opcode], rr := (ch + 1) % 16 } }
          (s.popOut ch).hostFill fuel
        else s

/-- The HOST_SVC job: admission, then the FIFOs; HST_IRQ follows at the end of its allotment. -/
def State.hostSvc (s : State) : State :=
  let s := if s.ready then s.each [0, 1, 2, 3] State.admitAll else s
  { (s.hostFill 1024).spokeFill with host.irqDue := true }

/-- HST_IRQ at the end of the allotment (R100). -/
def State.irqUpdate (s : State) : State :=
  if s.host.irqDue then
    { s with host := { s.host with
        irqDue := false, irq := s.pktWhole || s.host.disc || s.host.wovf || s.host.wcut } }
  else s

/-- Characters of 10 bits that the line carries in slot k (log entry 33). -/
def uartChars (baud k : Nat) : Nat := (k + 1) * baud / 327680 - k * baud / 327680

/-- What leaves on HST_TXD in the slot that ends (R101, R102). -/
def State.uartSlot (s : State) : State :=
  if s.host.uart then
    let s := if s.host.ctsLow then (s.txTake (uartChars s.host.baud s.cad.now)).2 else s
    { s with host.ctsLow := true }
  else s

end Sys2Proof.Machine
end

