-- ==== Sys2Proof/Machine/Jobs.lean ====
section
/-!
DEFINITION. Sys2Proof/Machine/Jobs.lean: what each job of Table 1-4 does (spec/01_cadence.md), and the commit of a run. The work
of each job belongs to its block's own chapter.
-/

namespace Sys2Proof.Machine

/-! ### GAUGE (R48, R50, R52, 02_power_reset.md) -/

/-- What follows the admission of a request. -/
def State.escAdmitted (s : State) (r : EscReq) : State :=
  match r.kind with
  | .panel => { s with dsp.step := 1 }
  | .reversal k => s.reversalAdmitted k
  | .fuse => s.burnAdmitted
  | .commit _ => s
  | .pfRecord _ => s

/-- Whether the panel is powered and not yet discharging. -/
def State.panelPowered (s : State) : Bool := [2, 3, 4].contains (s.rd R.DSP_STAT_STATE)

/-- Whether the available reserve, with RES_A excluded from HELD, is below zero (R52). -/
def State.reserveShort (s : State) : Bool :=
  let resA := ((s.pwr.hold.filter fun r => decide (r.kind = .panel)).map (·.cost)).sum
  decide (s.reserve + resA < s.rd R.PWR_HOLD_CFG_BASE + s.heldUnits)

/-- R52: the panel is discharged and switched off. -/
def State.panelReserve (s : State) : State :=
  if s.panelPowered && s.reserveShort && !s.on R.PWR_STAT_PFI then
    ((s.wr R.PWR_STAT_RES_LOW 1).abruptOff 3 false).event 0x39 (le 16 s.reserveBits)
  else s

/-- RES_A goes once the discharge has ended (R365, 13_panel_matrix.md). -/
def State.panelReleases (s : State) : State :=
  if s.dsp.resDue then { s.escEnd .panel with dsp.resDue := false } else s

/-- The GAUGE job. -/
def State.gaugeRun (s : State) : State :=
  let g := (s.panelReleases.panelReserve.hayPresent).gauge
  g.1.each g.2 State.escAdmitted

/-! ### HSK (R290, R292, 10_hayloft.md; R385, 15_die_thermal.md) -/

/-- The housekeeping slice of a lap. -/
def State.hskRun (s : State) (lap : Nat) : State :=
  let s := if [48, 52, 56, 60].contains lap then s.groomSweep else s
  let s := if 49 ≤ lap ∧ lap ≤ 51 then s.each stallsAll State.groomRepair else s
  if lap = 49 then s.thmEval else s

/-- The lap whose slice a run of HSK does: a run that was suspended does the slice of the lap it started in (Table 1-7). -/
def State.hskLap (s : State) (core : Nat) : Nat := (s.lap + 64 - mget 0 s.cad.susp (jobKey core 0x16) % 64) % 64

/-! ### The jobs -/

/-- The work of a job. CAD_SVC's posting, CAD_END's records and trim, and APP have no effect of their own here: the slot edge
does what they post (R31), the guard makes the records and the stage edge the trim. -/
def State.jobWork (s : State) (core job : Nat) : State :=
  match job with
  | 0x02 => s.fltSvc
  | 0x03 => s.sptSvc
  | 0x04 => s.gaugeRun
  | 0x05 => s.adcRes 0
  | 0x06 => s.adcRes 1
  | 0x07 => s.zonSvc
  | 0x08 => if s.lap < 48 then s.zonLoop s.lap else s.zonSvc
  | 0x09 => s.actCmd
  | 0x0A => s.actUpd
  | 0x0B => s.padXch
  | 0x0C => s.hostSvc
  | 0x0D => s.spokeRun
  | 0x0E => s.busRun 0
  | 0x0F => s.busRun 1
  | 0x10 => s.logSvc
  | 0x11 => s.haySvc.secAdvance
  | 0x12 => s.dspSvc
  | 0x13 => s.stbSvc
  | 0x16 => s.hskRun (s.hskLap core)
  | _ => s

/-- Whether a core's run can complete: it has not done so, and its allotment is not debug-held. -/
def State.runLive (s : State) (core : Nat) : Bool := (s.run core).any fun r => !r.done && !r.held

/-- A run signals done: its work is committed, then the run has completed (R26, R27). A hub reset that the work brings about
ends the run. -/
def State.jobCommit (s : State) (core slack : Nat) : State :=
  if s.runLive core then
    match s.run core with
    | none => s
    | some r => (s.jobWork core r.job).runDone core slack
  else s

/-- JOB_COMMIT (R26, R27). -/
def execJobCommit (core : Fin 2) (slack : Fin 262144) (s : State) : Host.Outcome State Fault Refusal :=
  .next (s.jobCommit core slack)

/-- The guard fires for a core's run that has not completed. -/
def State.coreFires (s : State) (core : Nat) : State := if s.runLive core then s.runEnd core (s.cad.now % 512) else s

/-- TICK_GUARD_FIRE (R27, R28): at the end of an allotment of core 0 or 1, of ADC_WIN or of STB_WIN. -/
def execTickGuardFire (source : Fin 4) (s : State) : Host.Outcome State Fault Refusal :=
  .next (match source with
    | 0 => s.coreFires 0
    | 1 => s.coreFires 1
    | 2 => if [0, 1].any s.winLate then s.guardAdc else s
    | 3 => if s.stbLate then s.guardStb (s.cad.now % 512) else s)

end Sys2Proof.Machine
end

