-- ==== Sys2Proof/Machine/Sequencer.lean ====
section
/-!
DEFINITION. Sys2Proof/Machine/Sequencer.lean: the slot edge and what comes with it (R24, 01_cadence.md): the slot that ends, the
always-on domain's edge, the guard, the tick, lap and stage edges, the GO bits and the dispatch; and the rows that start the
cadence. Which work falls on which edge is stated in log entry 34.
-/

namespace Sys2Proof.Machine

/-! ### The slot that ends -/

/-- A signal of done within the slot. -/
def State.doneIn (s : State) (core : Nat) (d : Option (Fin 262144)) : State :=
  match d with
  | none => s
  | some slack => s.jobCommit core slack

/-- STB cycles that the stalls run in a slot of the window (R305, R390). -/
def State.stallCycles (s : State) : Nat := 3000 * (4 - s.rd R.STB_STAT_SKIPQ)

/-- The stalls run through a slot of the stall window. -/
def State.stallSlot (s : State) : State := if s.stb.window then State.stallSpan s.stallCycles s else s

/-- What happens within the slot that ends, while the cadence runs. -/
def State.slotEnds (s : State) (i : SlotIn) : State :=
  (((s.doneIn 0 i.done0).doneIn 1 i.done1).gsnsSlot i.gsns.toNat).pwmSlot.stallSlot

/-! ### The always-on domain (R31, R41, R429) -/

/-- Whether a CAD_SVC run that ends at this edge has posted what waits for the always-on domain (Table 1-8). -/
def State.posted (s : State) : Bool := [0, 1].any fun core => (s.run core).any fun r => r.job == 0x01 && r.done

/-- The always-on domain's own work at a slot edge. -/
def State.aonEdge (s : State) (posted : Bool) : State :=
  let s := if posted then s.ksCommit.thmCommit else s
  let s := if s.cad.now % 512 = 0 then s.segLap else s
  let s := if s.slot = 0 then s.segTick else s
  let s := if s.cad.now % 32768 = 0 then s.segStage.wake 1 0 else s
  s.hubFaultEdge.rampSlot

/-! ### The tick edge -/

/-- A handshake lapses and a lockout ends on every channel they are due on (R415, R416). -/
def State.helloTick (s : State) : State :=
  s.each (List.range 24) fun s ch => if (s.chan ch).hello.isSome || (s.chan ch).lockEnd.isSome then (s.helloLapse ch).lockoutEnd ch else s

/-- What falls on a tick edge. -/
def State.tickEdge (s : State) : State :=
  let s := s.pfTick.watchTick
  let s := s.adcTick.devTick.busTick.helloTick
  s.escTimeouts.fw2PwmStop.fw2ClockStop.thermStop

/-! ### The lap edge -/

/-- What falls on a lap edge. -/
def State.lapEdge (s : State) (vgh vgl : Bool) : State :=
  let s := s.dspLapEdge.tableSwap
  let s := s.panelLap.powerOnStep vgh vgl
  s.thmLap.cacheSwitch.modeEntry

/-! ### The stage edge -/

/-- A stage edge of the hub: trim, reload, entropy, and everything that counts stages; once for each edge. -/
def State.stageWork (s : State) (n : Nat) (p : Int) (entropy : Bool) (tach : List Nat) : State :=
  if s.cad.stageAt = some s.cad.now then s
  else
    let s := { s with cad.stageAt := some s.cad.now }.trimStage n p
    let s := s.tableReload.reseed
    let s := if entropy then s.entropyRecovered else s.entropyFailed
    let s := s.trialStage.pairExpire.busStage.devStage
    let s := s.each (List.range 8) fun s f => s.fanStage f (tach.getD f 0)
    s.zonStage.fltStage.streakClear.consoleStage.limpHoldExpire

/-! ### GO bits and dispatch -/

/-- Raise the GO bits of an entry, lowest first (Table 1-3, R24 step 2). -/
def State.raiseGo (s : State) (i : SlotIn) (go : Nat) : State :=
  let at_ := s.cad.now % 512
  let s := if bit go 0 || bit go 1 then { s with cad.adcWin := some at_ } else s
  let s := if bit go 0 then s.seqStart 0 else s
  let s := if bit go 1 then s.seqStart 1 else s
  let s := if bit go 2 then s.portsGo i.i2cLow.toNat i.i2cFreed.toNat else s
  let s := if bit go 3 then { s.stbRelease with cad.stbWin := some at_ } else s
  let s := if bit go 4 then s.hayGo else s
  let s := if bit go 5 then s.gaugeSample i.hold.toNat else s
  let s := if bit go 6 then s.thmRead i.rings else s
  if bit go 7 then { s with pwm.calRun := true } else s

/-- What the ADC units do at the edges of slots 1 and 2: the reservation (R186). -/
def State.adcSlot (s : State) : State :=
  if s.slot = 1 then s.reserveUnits else if s.slot = 2 then s.releaseUnits else s

/-- The slot begins: its entry, its GO bits, and the jobs of both cores (R24 steps 2 and 3). -/
def State.slotBegins (s : State) (i : SlotIn) : State :=
  let e := s.slotEntry
  let s := e.2.adcSlot
  let s := (s.raiseGo i (s.goBits e.1)).coreHalts 0 |>.coreHalts 1
  (s.dispatch e.1 0).dispatch e.1 1

/-! ### The guard (R24 step 1) -/

/-- The entry of the slot that begins, read as idle when its parity is wrong (R22). -/
def State.nextEntry (s : State) : Nat :=
  let e := s.cad.active.entry (s.cad.now % 512)
  if evenOnes e then e else 0

/-- The guard judges what ended at this edge; at the end of slot 29 the stall window closes and the scrubbers move on. -/
def State.guardEdge (s : State) : State :=
  let last := (s.cad.now + 511) % 512
  let s := (s.guardCores s.nextEntry last).guardAdc
  if s.slot = 30 then (s.guardStb last).stbClose.each stallsAll State.scrubTick else s

/-- Whether a completed HOST_SVC run's allotment still lasts. -/
def State.hostRunning (s : State) : Bool := [0, 1].any fun core => (s.run core).any fun r => r.job == 0x0C && r.done

/-! ### What falls on every slot edge -/

/-- Recoveries, the debug port, the power-fail sequence, the console and the host interface at a slot edge. -/
def State.slotWork (s : State) : State :=
  let s := s.unitEffects.debugSlot.pfStart.consoleWatch
  let s := if s.hostRunning then s else s.irqUpdate
  s.baudChanges.baudReverts.hubResetStarts

/-- What the panel does at a slot edge: the levels of its supplies, and at the end of line 239 of a blank frame the discharge
(R363, R364). -/
def State.panelSlot (s : State) (i : SlotIn) : State :=
  let s := s.dspLevels i.vghPg i.vglPg i.vsrc
  if s.cad.now % 512 = 492 ∧ s.rd R.DSP_STAT_STATE = 4 then s.orderlyStep else s

/-- Do a thing while the cadence walks its table; a hub reset or a stop of the clocks on the way ends the edge's work. -/
def State.whileWalking (s : State) (f : State → State) : State := if s.cad.walking && !s.pwr.held then f s else s

/-- The edges of tick, lap and stage that fall on this slot edge, the shortest first. -/
def State.edges (s : State) (i : SlotIn) : State :=
  let s := if s.slot = 0 then s.tickEdge else s
  let s := s.whileWalking fun s => if s.cad.now % 512 = 0 then s.lapEdge i.vghPg i.vglPg else s
  s.whileWalking fun s => if s.cad.now % 32768 = 0 then s.stageWork i.nRef i.phase i.entropy i.tach else s

/-- The controller's part of a slot edge. -/
def State.controllerEdge (s : State) (i : SlotIn) : State :=
  let s := s.guardEdge
  let s := s.whileWalking State.slotWork
  let s := s.whileWalking fun s => s.panelSlot i
  let s := s.whileWalking fun s => s.edges i
  s.whileWalking fun s => s.slotBegins i

/-- A slot edge (R14, R24, R33, R34): the count goes on in every mode; the controller takes part while its table is walked. -/
def State.slotEdge (s : State) (i : SlotIn) : State :=
  let s := (s.whileWalking fun s => s.slotEnds i).uartSlot
  let posted := s.cad.walking && s.posted
  let s := { s with cad.now := s.cad.now + 1 }.aonEdge posted
  s.whileWalking fun s => s.controllerEdge i

/-- SLOT_EDGE (R24). -/
def execSlotEdge (i : SlotIn) (s : State) : Host.Outcome State Fault Refusal := .next (s.slotEdge i)

/-! ### Rows of single edges -/

/-- SLOT_TABLE_SWAP (R18). -/
def execSlotTableSwap (s : State) : Host.Outcome State Fault Refusal := .next s.tableSwap

/-- SLOT_TABLE_RELOAD (R22). -/
def execSlotTableReload (s : State) : Host.Outcome State Fault Refusal := .next s.tableReload

/-- STAGE_EDGE (R15, R16, R17): the edge of the stage that begins now, unless it has been taken. -/
def execStageEdge (n : Nat) (p : Int) (entropy : Bool) (s : State) : Host.Outcome State Fault Refusal :=
  .next (s.whileWalking fun s => if s.cad.now % 32768 = 0 then s.stageWork n p entropy [] else s)

/-! ### The cadence starts (Table 2-5, R34, R106) -/

/-- The first tick edge after a boot or a wake: its tick and lap edges, then slot 0. -/
def State.cadenceStarts (s : State) : State :=
  let s := s.tickEdge
  let s := s.whileWalking fun s => if s.cad.now % 512 = 0 then s.segLap.lapEdge false false else s
  s.whileWalking fun s => s.slotBegins {}

/-- FIRST_TICK (R106, Table 2-5). -/
def execFirstTick (h0 h1 h2 h3 : BitVec 12) (s : State) : Host.Outcome State Fault Refusal :=
  .next (if s.startupDone then (s.firstTickRun [h0.toNat, h1.toNat, h2.toNat, h3.toNat]).cadenceStarts else s)

/-- FW2_RESUME (R34, R55, R58). -/
def execFw2Resume (slots : Nat) (rings : List (BitVec 12)) (s : State) : Host.Outcome State Fault Refusal :=
  .next (if s.pwr.fwStep = 5 ∧ s.pwr.wakeDue = true ∧ s.pwr.held = false then (s.fw2Resume slots rings).cadenceStarts else s)

end Sys2Proof.Machine
end

