-- ==== Sys2Proof/Machine/SpokeCommands.lean ====
section
/-!
DEFINITION. Sys2Proof/Machine/SpokeCommands.lean: the rows of spec/03_spoke_packets.md: receiving, admission, sessions, SPI and
the console.
-/

namespace Sys2Proof.Machine

/-- FRAME_RECEIVE (R497, R72, R101, R102). -/
def execFrameReceive (transport : Fin 4) (data : Bytes) (s : State) : Host.Outcome State Fault Refusal :=
  .next (s.received transport data)

/-- UART_BYTE_GAP_TIMEOUT (R72): more than 2 ticks between two bytes of one frame. -/
def execUartByteGapTimeout (s : State) : Host.Outcome State Fault Refusal :=
  .next (if s.hostOn && s.host.uart then s.rxDiscard 0 else s)

/-- UART_CTS_HIGH (R102): the hub sends nothing more in the slot under way (log entry 33). -/
def execUartCtsHigh (s : State) : Host.Outcome State Fault Refusal :=
  .next (if s.host.uart then { s with host.ctsLow := false } else s)

/-- FRAME_ADMISSION (R74): the oldest complete frame of a transport. -/
def execFrameAdmission (transport : Fin 4) (s : State) : Host.Outcome State Fault Refusal :=
  .next (if s.ready then s.admitNext transport else s)

/-- SESSION_OPEN (R107). -/
def execSessionOpen (c : Cmd) (s : State) : Host.Outcome State Fault Refusal := .next (s.command c 0x00 State.doSessionOpen)

/-- SESSION_CLOSE (R107). -/
def execSessionClose (c : Cmd) (s : State) : Host.Outcome State Fault Refusal := .next (s.command c 0x01 State.doSessionClose)

/-- SESSION_RESET (R105). -/
def execSessionReset (c : Cmd) (s : State) : Host.Outcome State Fault Refusal := .next (s.resetSession c)

/-- HUB_RESET (R104, R107). -/
def execHubReset (c : Cmd) (s : State) : Host.Outcome State Fault Refusal := .next (s.command c 0x03 State.doHubReset)

/-- HUB_RESET_START (R107). -/
def execHubResetStart (s : State) : Host.Outcome State Fault Refusal := .next s.hubResetStarts

/-- SUBSCRIBE (R84, R107). -/
def execSubscribe (c : Cmd) (s : State) : Host.Outcome State Fault Refusal := .next (s.command c 0x04 State.doSubscribe)

/-- PING (R107). -/
def execPing (c : Cmd) (s : State) : Host.Outcome State Fault Refusal := .next (s.command c 0x05 State.doPing)

/-- HOST_BAUD (R103, R107). -/
def execHostBaud (c : Cmd) (s : State) : Host.Outcome State Fault Refusal := .next (s.command c 0x06 State.doHostBaud)

/-- HOST_BAUD_REVERT (R103). -/
def execHostBaudRevert (s : State) : Host.Outcome State Fault Refusal := .next s.baudReverts

/-- SESSION_INFO (R73, R107). -/
def execSessionInfo (c : Cmd) (s : State) : Host.Outcome State Fault Refusal := .next (s.command c 0x07 State.doSessionInfo)

/-- EVENTS_LOST (R85): space has returned on a channel. -/
def execEventsLost (ch : Fin 32) (s : State) : Host.Outcome State Fault Refusal := .next (s.modChan ch (lostReport ch))

/-- SPI_STATUS (R93, R94). -/
def execSpiStatus (s : State) : Host.Outcome State Fault Refusal := .next (s.spi fun s => ([], s))

/-- SPI_WRITE (R96, R97). -/
def execSpiWrite (len : Nat) (data : Bytes) (s : State) : Host.Outcome State Fault Refusal := .next (s.spiWrite len data)

/-- SPI_READ (R98). -/
def execSpiRead (len clocked : Nat) (s : State) : Host.Outcome State Fault Refusal := .next (s.spiRead len clocked)

/-- SPI_FLUSH (R99). -/
def execSpiFlush (s : State) : Host.Outcome State Fault Refusal := .next s.spiFlush

/-- CONSOLE_OPEN (R65): the key OK. -/
def execConsoleOpen (s : State) : Host.Outcome State Fault Refusal := .next s.consoleOpens

/-- CONSOLE_KEY (R66, R237). -/
def execConsoleKey (key : Byte) (s : State) : Host.Outcome State Fault Refusal := .next (s.consoleKeyed key.toNat)

/-- CONSOLE_CLOSE (R65, R67): BACK at the menu, or the console stops being available. -/
def execConsoleClose (s : State) : Host.Outcome State Fault Refusal :=
  .next (if s.console.isOpen && (!s.consoleReady || decide (s.console.mode = .menu)) then s.consoleCloses else s)

/-- CONSOLE_IDLE_TIMEOUT (R65): the row is the 600th consecutive stage without a key. -/
def execConsoleIdleTimeout (s : State) : Host.Outcome State Fault Refusal :=
  .next (if s.console.isOpen && decide (600 ≤ s.console.idle + 1) then s.consoleCloses else s)

end Sys2Proof.Machine
end

