-- ==== Sys2Proof/Machine/Dispatch.lean ====
section
/-!
DEFINITION. Sys2Proof/Machine/Dispatch.lean: the effect of a command on everything but the queue, one arm per row of
spec/opcode_table.json.
-/

namespace Sys2Proof.Machine

def exec (i : Instr) (s : State) : Host.Outcome State Fault Refusal :=
  match i with
  | .slotEdge x => Sys2Proof.Machine.execSlotEdge x s
  | .jobCommit core slack => Sys2Proof.Machine.execJobCommit core slack s
  | .tickGuardFire source => Sys2Proof.Machine.execTickGuardFire source s
  | .slotTableSwap => Sys2Proof.Machine.execSlotTableSwap s
  | .slotTableReload => Sys2Proof.Machine.execSlotTableReload s
  | .stageEdge n p entropy => Sys2Proof.Machine.execStageEdge n p entropy s
  | .sequencerWatchdog => Sys2Proof.Machine.execSequencerWatchdog s
  | .aonLost => Sys2Proof.Machine.execAonLost s
  | .aonResync => Sys2Proof.Machine.execAonResync s
  | .mainRailsGood tst => Sys2Proof.Machine.execMainRailsGood tst s
  | .mainRailFall rail => Sys2Proof.Machine.execMainRailFall rail s
  | .aonPowerUp => Sys2Proof.Machine.execAonPowerUp s
  | .aonRetentionLoss => Sys2Proof.Machine.execAonRetentionLoss s
  | .padPowerUp => Sys2Proof.Machine.execPadPowerUp s
  | .hubRstnQualified => Sys2Proof.Machine.execHubRstnQualified s
  | .hubResetAssert cause => Sys2Proof.Machine.execHubResetAssert cause s
  | .kickstandCommit => Sys2Proof.Machine.execKickstandCommit s
  | .boot hstSel rings => Sys2Proof.Machine.execBoot hstSel rings s
  | .firstTick h0 h1 h2 h3 => Sys2Proof.Machine.execFirstTick h0 h1 h2 h3 s
  | .escrowTimeout => Sys2Proof.Machine.execEscrowTimeout s
  | .pfiQualified => Sys2Proof.Machine.execPfiQualified s
  | .powerFailSequenceStart => Sys2Proof.Machine.execPowerFailSequenceStart s
  | .quiesce => Sys2Proof.Machine.execQuiesce s
  | .pfiRelease => Sys2Proof.Machine.execPfiRelease s
  | .pfEnd => Sys2Proof.Machine.execPfEnd s
  | .pwrSetMode c => Sys2Proof.Machine.execPwrSetMode c s
  | .freewheel1Entry => Sys2Proof.Machine.execFreewheel1Entry s
  | .freewheel2Entry => Sys2Proof.Machine.execFreewheel2Entry s
  | .fw2PwmClockStop => Sys2Proof.Machine.execFw2PwmClockStop s
  | .fw2ClockStop => Sys2Proof.Machine.execFw2ClockStop s
  | .standbyEntry => Sys2Proof.Machine.execStandbyEntry s
  | .wake source slots => Sys2Proof.Machine.execWake source slots s
  | .fw2Resume slots rings => Sys2Proof.Machine.execFw2Resume slots rings s
  | .pwrSubsysReset c => Sys2Proof.Machine.execPwrSubsysReset c s
  | .chargeStop => Sys2Proof.Machine.execChargeStop s
  | .chargeResume => Sys2Proof.Machine.execChargeResume s
  | .frameReceive transport data => Sys2Proof.Machine.execFrameReceive transport data s
  | .uartByteGapTimeout => Sys2Proof.Machine.execUartByteGapTimeout s
  | .uartCtsHigh => Sys2Proof.Machine.execUartCtsHigh s
  | .frameAdmission transport => Sys2Proof.Machine.execFrameAdmission transport s
  | .sessionOpen c => Sys2Proof.Machine.execSessionOpen c s
  | .sessionClose c => Sys2Proof.Machine.execSessionClose c s
  | .sessionReset c => Sys2Proof.Machine.execSessionReset c s
  | .hubReset c => Sys2Proof.Machine.execHubReset c s
  | .hubResetStart => Sys2Proof.Machine.execHubResetStart s
  | .subscribe c => Sys2Proof.Machine.execSubscribe c s
  | .ping c => Sys2Proof.Machine.execPing c s
  | .hostBaud c => Sys2Proof.Machine.execHostBaud c s
  | .hostBaudRevert => Sys2Proof.Machine.execHostBaudRevert s
  | .sessionInfo c => Sys2Proof.Machine.execSessionInfo c s
  | .attrRead c => Sys2Proof.Machine.execAttrRead c s
  | .attrWrite c => Sys2Proof.Machine.execAttrWrite c s
  | .attrReadMulti c => Sys2Proof.Machine.execAttrReadMulti c s
  | .attrModify c => Sys2Proof.Machine.execAttrModify c s
  | .attrInfo c => Sys2Proof.Machine.execAttrInfo c s
  | .eventsLost ch => Sys2Proof.Machine.execEventsLost ch s
  | .spiStatus => Sys2Proof.Machine.execSpiStatus s
  | .spiWrite len data => Sys2Proof.Machine.execSpiWrite len data s
  | .spiRead len clocked => Sys2Proof.Machine.execSpiRead len clocked s
  | .spiFlush => Sys2Proof.Machine.execSpiFlush s
  | .consoleOpen => Sys2Proof.Machine.execConsoleOpen s
  | .consoleKey key => Sys2Proof.Machine.execConsoleKey key s
  | .consoleClose => Sys2Proof.Machine.execConsoleClose s
  | .consoleIdleTimeout => Sys2Proof.Machine.execConsoleIdleTimeout s
  | .sensorLost n => Sys2Proof.Machine.execSensorLost n s
  | .unoccupied n => Sys2Proof.Machine.execUnoccupied n s
  | .windowClose n => Sys2Proof.Machine.execWindowClose n s
  | .holdEnd n => Sys2Proof.Machine.execHoldEnd n s
  | .gap n => Sys2Proof.Machine.execGap n s
  | .zonHold c => Sys2Proof.Machine.execZonHold c s
  | .zonSchedWrite c => Sys2Proof.Machine.execZonSchedWrite c s
  | .zonSchedDayStored n day => Sys2Proof.Machine.execZonSchedDayStored n day s
  | .zonSchedRead c => Sys2Proof.Machine.execZonSchedRead c s
  | .zonRemoteT c => Sys2Proof.Machine.execZonRemoteT c s
  | .zonWindow c => Sys2Proof.Machine.execZonWindow c s
  | .zonPresence c => Sys2Proof.Machine.execZonPresence c s
  | .zonSave c => Sys2Proof.Machine.execZonSave c s
  | .zonEvtRead c => Sys2Proof.Machine.execZonEvtRead c s
  | .zonLoopReset c => Sys2Proof.Machine.execZonLoopReset c s
  | .zonClockWrite v => Sys2Proof.Machine.execZonClockWrite v s
  | .zonEnableWrite v => Sys2Proof.Machine.execZonEnableWrite v s
  | .periodBoundary g => Sys2Proof.Machine.execPeriodBoundary g s
  | .cutRequest ch => Sys2Proof.Machine.execCutRequest ch s
  | .killRequest ch cycle => Sys2Proof.Machine.execKillRequest ch cycle s
  | .cutLatchOff ch => Sys2Proof.Machine.execCutLatchOff ch s
  | .gfltAssert g => Sys2Proof.Machine.execGfltAssert g s
  | .pwmClockRestart => Sys2Proof.Machine.execPwmClockRestart s
  | .delayLineCalDone lines => Sys2Proof.Machine.execDelayLineCalDone lines s
  | .pwmGroupCtl c => Sys2Proof.Machine.execPwmGroupCtl c s
  | .pwmLoadAll c => Sys2Proof.Machine.execPwmLoadAll c s
  | .pwmSync c => Sys2Proof.Machine.execPwmSync c s
  | .pwmClrLatch c => Sys2Proof.Machine.execPwmClrLatch c s
  | .valveCycleStart n => Sys2Proof.Machine.execValveCycleStart n s
  | .valveOnTimeEnd n => Sys2Proof.Machine.execValveOnTimeEnd n s
  | .inrushEnd n => Sys2Proof.Machine.execInrushEnd n s
  | .groupRecoveryStart g => Sys2Proof.Machine.execGroupRecoveryStart g s
  | .groupRecoveryEnd g low => Sys2Proof.Machine.execGroupRecoveryEnd g low s
  | .bridgeMoveEnd b => Sys2Proof.Machine.execBridgeMoveEnd b s
  | .reversalCoastEnd b => Sys2Proof.Machine.execReversalCoastEnd b s
  | .reversalNotAdmitted b => Sys2Proof.Machine.execReversalNotAdmitted b s
  | .fanStall f => Sys2Proof.Machine.execFanStall f s
  | .rampArrived r => Sys2Proof.Machine.execRampArrived r s
  | .actValve c => Sys2Proof.Machine.execActValve c s
  | .actBrMove c => Sys2Proof.Machine.execActBrMove c s
  | .actBrClear c => Sys2Proof.Machine.execActBrClear c s
  | .actFan c => Sys2Proof.Machine.execActFan c s
  | .actRamp c => Sys2Proof.Machine.execActRamp c s
  | .actAux c => Sys2Proof.Machine.execActAux c s
  | .actSave c => Sys2Proof.Machine.execActSave c s
  | .actKsWrite v => Sys2Proof.Machine.execActKsWrite v s
  | .adcConversionEnd u code ovr unr => Sys2Proof.Machine.execAdcConversionEnd u code ovr unr s
  | .adcCtlGo v => Sys2Proof.Machine.execAdcCtlGo v s
  | .adcSinglePendingStart u => Sys2Proof.Machine.execAdcSinglePendingStart u s
  | .adcSingleDone u code ovr unr => Sys2Proof.Machine.execAdcSingleDone u code ovr unr s
  | .deviceDue d => Sys2Proof.Machine.execDeviceDue d s
  | .transactionEnd port err data => Sys2Proof.Machine.execTransactionEnd port err data s
  | .transactionTimeout port => Sys2Proof.Machine.execTransactionTimeout port s
  | .deviceInvalid d => Sys2Proof.Machine.execDeviceInvalid d s
  | .adcConvert c => Sys2Proof.Machine.execAdcConvert c s
  | .adcSave c => Sys2Proof.Machine.execAdcSave c s
  | .roundEnd x => Sys2Proof.Machine.execRoundEnd x s
  | .safetyInputFilter n channelB closed => Sys2Proof.Machine.execSafetyInputFilter n channelB closed s
  | .discrepant n => Sys2Proof.Machine.execDiscrepant n s
  | .fbFault n => Sys2Proof.Machine.execFbFault n s
  | .weld n => Sys2Proof.Machine.execWeld n s
  | .proofWindowOpen n => Sys2Proof.Machine.execProofWindowOpen n s
  | .proofDeadline n => Sys2Proof.Machine.execProofDeadline n s
  | .proofTestEnd n => Sys2Proof.Machine.execProofTestEnd n s
  | .sltTrip => Sys2Proof.Machine.execSltTrip s
  | .sltRelease => Sys2Proof.Machine.execSltRelease s
  | .sltSens => Sys2Proof.Machine.execSltSens s
  | .sdirRelease => Sys2Proof.Machine.execSdirRelease s
  | .slpFault => Sys2Proof.Machine.execSlpFault s
  | .frostDemandOn => Sys2Proof.Machine.execFrostDemandOn s
  | .frostDemandOff => Sys2Proof.Machine.execFrostDemandOff s
  | .clkFault => Sys2Proof.Machine.execClkFault s
  | .laneFault => Sys2Proof.Machine.execLaneFault s
  | .heartbeatResponse v => Sys2Proof.Machine.execHeartbeatResponse v s
  | .heartbeatLapse => Sys2Proof.Machine.execHeartbeatLapse s
  | .rearmWindowEnd => Sys2Proof.Machine.execRearmWindowEnd s
  | .armed => Sys2Proof.Machine.execArmed s
  | .stagedBlockExpire => Sys2Proof.Machine.execStagedBlockExpire s
  | .padCommitActivate => Sys2Proof.Machine.execPadCommitActivate s
  | .padStage c => Sys2Proof.Machine.execPadStage c s
  | .padCommit c => Sys2Proof.Machine.execPadCommit c s
  | .padCancel c => Sys2Proof.Machine.execPadCancel c s
  | .padProof c => Sys2Proof.Machine.execPadProof c s
  | .padRestart c => Sys2Proof.Machine.execPadRestart c s
  | .busFrameEnd p data lineError => Sys2Proof.Machine.execBusFrameEnd p data lineError s
  | .busRxOverflow p data => Sys2Proof.Machine.execBusRxOverflow p data s
  | .modbusClientTimeout p => Sys2Proof.Machine.execModbusClientTimeout p s
  | .replyPostponed p => Sys2Proof.Machine.execReplyPostponed p s
  | .mstpTokenLost p => Sys2Proof.Machine.execMstpTokenLost p s
  | .busPartialFrameDiscard p => Sys2Proof.Machine.execBusPartialFrameDiscard p s
  | .busTxDone p => Sys2Proof.Machine.execBusTxDone p s
  | .golposenSend n => Sys2Proof.Machine.execGolposenSend n s
  | .golposenWatchdog n => Sys2Proof.Machine.execGolposenWatchdog n s
  | .busPortCtl c => Sys2Proof.Machine.execBusPortCtl c s
  | .busTx c => Sys2Proof.Machine.execBusTx c s
  | .busGpRestart c => Sys2Proof.Machine.execBusGpRestart c s
  | .busGpPdu c => Sys2Proof.Machine.execBusGpPdu c s
  | .busSave c => Sys2Proof.Machine.execBusSave c s
  | .hayloftPhaseEnd verify => Sys2Proof.Machine.execHayloftPhaseEnd verify s
  | .hayloftWriteEnd => Sys2Proof.Machine.execHayloftWriteEnd s
  | .logHoldExpire stream => Sys2Proof.Machine.execLogHoldExpire stream s
  | .overflow stream => Sys2Proof.Machine.execOverflow stream s
  | .hayRead c => Sys2Proof.Machine.execHayRead c s
  | .hayWrite c => Sys2Proof.Machine.execHayWrite c s
  | .hayLogRead c => Sys2Proof.Machine.execHayLogRead c s
  | .hayLogAppend c => Sys2Proof.Machine.execHayLogAppend c s
  | .hayLogFlush c => Sys2Proof.Machine.execHayLogFlush c s
  | .hayOdInc c => Sys2Proof.Machine.execHayOdInc c s
  | .stallWindowClose => Sys2Proof.Machine.execStallWindowClose s
  | .nop q k w => Sys2Proof.Machine.execNop q k w s
  | .setr q k w => Sys2Proof.Machine.execSetr q k w s
  | .addr q k w => Sys2Proof.Machine.execAddr q k w s
  | .tload q k w => Sys2Proof.Machine.execTload q k w s
  | .mact q k w => Sys2Proof.Machine.execMact q k w s
  | .act q k w => Sys2Proof.Machine.execAct q k w s
  | .pool q k w => Sys2Proof.Machine.execPool q k w s
  | .store q k w => Sys2Proof.Machine.execStore q k w s
  | .radv q k w => Sys2Proof.Machine.execRadv q k w s
  | .rwait q k w => Sys2Proof.Machine.execRwait q k w s
  | .nsend q k w => Sys2Proof.Machine.execNsend q k w s
  | .loop q k w => Sys2Proof.Machine.execLoop q k w s
  | .waitt q k w => Sys2Proof.Machine.execWaitt q k w s
  | .move q k w => Sys2Proof.Machine.execMove q k w s
  | .jump q k w => Sys2Proof.Machine.execJump q k w s
  | .opEnd q k w => Sys2Proof.Machine.execOpEnd q k w s
  | .narrowAccess q cached addr write => Sys2Proof.Machine.execNarrowAccess q cached addr write s
  | .scrub q => Sys2Proof.Machine.execScrub q s
  | .rowRepairCopy q => Sys2Proof.Machine.execRowRepairCopy q s
  | .stbAuditWrite v => Sys2Proof.Machine.execStbAuditWrite v s
  | .stbCacheWrite v => Sys2Proof.Machine.execStbCacheWrite v s
  | .cacheSwitch => Sys2Proof.Machine.execCacheSwitch s
  | .stbLoadBegin c => Sys2Proof.Machine.execStbLoadBegin c s
  | .stbLoadData c => Sys2Proof.Machine.execStbLoadData c s
  | .stbLoadEnd c => Sys2Proof.Machine.execStbLoadEnd c s
  | .stbTaskStart c => Sys2Proof.Machine.execStbTaskStart c s
  | .stbTaskStop c => Sys2Proof.Machine.execStbTaskStop c s
  | .stbFeed c => Sys2Proof.Machine.execStbFeed c s
  | .panelLapEdge => Sys2Proof.Machine.execPanelLapEdge s
  | .panelPowerOnStep vghPg vglPg => Sys2Proof.Machine.execPanelPowerOnStep vghPg vglPg s
  | .orderlyOff => Sys2Proof.Machine.execOrderlyOff s
  | .abruptOff => Sys2Proof.Machine.execAbruptOff s
  | .powerGoodLow => Sys2Proof.Machine.execPowerGoodLow s
  | .vsrcFail => Sys2Proof.Machine.execVsrcFail s
  | .dischargeEnd => Sys2Proof.Machine.execDischargeEnd s
  | .dspPower c => Sys2Proof.Machine.execDspPower c s
  | .dspWrite c => Sys2Proof.Machine.execDspWrite c s
  | .dspFill c => Sys2Proof.Machine.execDspFill c s
  | .dspPresent c => Sys2Proof.Machine.execDspPresent c s
  | .dspLwWrite c => Sys2Proof.Machine.execDspLwWrite c s
  | .dspMode c => Sys2Proof.Machine.execDspMode c s
  | .dspGammaWrite negative v => Sys2Proof.Machine.execDspGammaWrite negative v s
  | .segmentSwap => Sys2Proof.Machine.execSegmentSwap s
  | .vlcdLow => Sys2Proof.Machine.execVlcdLow s
  | .altPattern => Sys2Proof.Machine.execAltPattern s
  | .lossTStop => Sys2Proof.Machine.execLossTStop s
  | .segmentRestart => Sys2Proof.Machine.execSegmentRestart s
  | .segCfgWrite v => Sys2Proof.Machine.execSegCfgWrite v s
  | .segWrite c => Sys2Proof.Machine.execSegWrite c s
  | .segShow c => Sys2Proof.Machine.execSegShow c s
  | .graceExpire => Sys2Proof.Machine.execGraceExpire s
  | .riseAlarm => Sys2Proof.Machine.execRiseAlarm s
  | .riseActEnd => Sys2Proof.Machine.execRiseActEnd s
  | .levelFall => Sys2Proof.Machine.execLevelFall s
  | .levelTakesEffect => Sys2Proof.Machine.execLevelTakesEffect s
  | .thermStop => Sys2Proof.Machine.execThermStop s
  | .cutSensorTrip => Sys2Proof.Machine.execCutSensorTrip s
  | .cutSensorRelease => Sys2Proof.Machine.execCutSensorRelease s
  | .thmFloor c => Sys2Proof.Machine.execThmFloor c s
  | .secHello c => Sys2Proof.Machine.execSecHello c s
  | .secAuth c => Sys2Proof.Machine.execSecAuth c s
  | .handshakeLapse ch => Sys2Proof.Machine.execHandshakeLapse ch s
  | .lockoutEnd ch => Sys2Proof.Machine.execLockoutEnd ch s
  | .secPairOpen c => Sys2Proof.Machine.execSecPairOpen c s
  | .secPairStart c => Sys2Proof.Machine.execSecPairStart c s
  | .secPairConfirm c => Sys2Proof.Machine.execSecPairConfirm c s
  | .pairingWindowEnd => Sys2Proof.Machine.execPairingWindowEnd s
  | .secKeyPut c => Sys2Proof.Machine.execSecKeyPut c s
  | .secKeyGen c => Sys2Proof.Machine.execSecKeyGen c s
  | .secKeyDelete c => Sys2Proof.Machine.execSecKeyDelete c s
  | .secCryptSeal c => Sys2Proof.Machine.execSecCryptSeal c s
  | .secCryptOpen c => Sys2Proof.Machine.execSecCryptOpen c s
  | .secLifecycleProvision c => Sys2Proof.Machine.execSecLifecycleProvision c s
  | .secLifecycleField c => Sys2Proof.Machine.execSecLifecycleField c s
  | .secLifecycleReturn c => Sys2Proof.Machine.execSecLifecycleReturn c s
  | .fuseBurnEnd => Sys2Proof.Machine.execFuseBurnEnd s
  | .secUpdateBegin c => Sys2Proof.Machine.execSecUpdateBegin c s
  | .secUpdateData c => Sys2Proof.Machine.execSecUpdateData c s
  | .secUpdateEnd c => Sys2Proof.Machine.execSecUpdateEnd c s
  | .secUpdateConfirm c => Sys2Proof.Machine.execSecUpdateConfirm c s
  | .secUpdateAbort c => Sys2Proof.Machine.execSecUpdateAbort c s
  | .secRandom c => Sys2Proof.Machine.execSecRandom c s
  | .trialExpire => Sys2Proof.Machine.execTrialExpire s
  | .drbgReseed => Sys2Proof.Machine.execDrbgReseed s
  | .entropyFail => Sys2Proof.Machine.execEntropyFail s
  | .hubFaultReset => Sys2Proof.Machine.execHubFaultReset s
  | .subsysUnitReset u => Sys2Proof.Machine.execSubsysUnitReset u s
  | .recoveryEnd u => Sys2Proof.Machine.execRecoveryEnd u s
  | .coreWatchdog core => Sys2Proof.Machine.execCoreWatchdog core s
  | .streakClear => Sys2Proof.Machine.execStreakClear s
  | .limpHoldExpire => Sys2Proof.Machine.execLimpHoldExpire s
  | .clrLatch v => Sys2Proof.Machine.execClrLatch v s
  | .limpEnter v => Sys2Proof.Machine.execLimpEnter v s
  | .limpExit v => Sys2Proof.Machine.execLimpExit v s
  | .tapReset => Sys2Proof.Machine.execTapReset s
  | .extest cells => Sys2Proof.Machine.execExtest cells s
  | .samplePreload cells => Sys2Proof.Machine.execSamplePreload cells s
  | .idcode => Sys2Proof.Machine.execIdcode s
  | .highz => Sys2Proof.Machine.execHighz s
  | .clamp => Sys2Proof.Machine.execClamp s
  | .bypass => Sys2Proof.Machine.execBypass s
  | .dbgStatus => Sys2Proof.Machine.execDbgStatus s
  | .dbgChal scope => Sys2Proof.Machine.execDbgChal scope s
  | .dbgResp response => Sys2Proof.Machine.execDbgResp response s
  | .debugResponseJudged => Sys2Proof.Machine.execDebugResponseJudged s
  | .halt core both => Sys2Proof.Machine.execHalt core both s
  | .coreHalt core => Sys2Proof.Machine.execCoreHalt core s
  | .resume core => Sys2Proof.Machine.execResume core s
  | .coreResume core => Sys2Proof.Machine.execCoreResume core s
  | .dbgReset => Sys2Proof.Machine.execDbgReset s
  | .relock => Sys2Proof.Machine.execRelock s
  | .flush => Sys2Proof.Machine.execFlush s
  | .dbgMemRead addr inc => Sys2Proof.Machine.execDbgMemRead addr inc s
  | .dbgMemWrite addr data inc => Sys2Proof.Machine.execDbgMemWrite addr data inc s
  | .dbgSpokePush data => Sys2Proof.Machine.execDbgSpokePush data s
  | .dbgSpokePop => Sys2Proof.Machine.execDbgSpokePop s
  | .dbgReadMode c => Sys2Proof.Machine.execDbgReadMode c s
  | .vddPadLoss => Sys2Proof.Machine.execVddPadLoss s
  | .nvmWpChange low => Sys2Proof.Machine.execNvmWpChange low s
  | .bootContinue => Sys2Proof.Machine.execBootContinue s
  | .vlcdLowEnd => Sys2Proof.Machine.execVlcdLowEnd s
  | .gfltRelease g => Sys2Proof.Machine.execGfltRelease g s

end Sys2Proof.Machine
end

