-- ==== Sys2Proof/Safety.lean ====
section
/-!
DEFINITION. Sys2Proof/Safety.lean: what counts as a safe step, and what every step keeps: the canonical form of the register
file and of the byte memories, and the depths of the hub's queues.
-/

namespace Sys2Proof.Machine

/-- A step that answers a next state. -/
def goesOn (s : State) : Prop := ∃ t, step s = .next t

/-- The canonical form of the register file: keys strictly rising, and no field listed at its Reset value. -/
def regsWf (m : Map Nat) : Bool :=
  match m with
  | [] => true
  | (k, v) :: rest => decide (v ≠ resetOf k) && (rest.all fun e => decide (k < e.1)) && regsWf rest

/-- The out queue of a channel keeps to the parts of R87 (03_spoke_packets.md): 16 entries for final replies, 15 shared, 1 for
EVENTS_LOST; and only final replies are held back (R88). -/
def Channel.fits (c : Channel) : Prop :=
  outCount c .final ≤ 16 ∧ outCount c .shared ≤ 15 ∧ outCount c .lost ≤ 1 ∧ ∀ p ∈ c.waits, p.kind = .final

/-- What every step keeps: canonical registers and memories, and queues within their depths. -/
structure State.Inv (s : State) : Prop where
  /-- The register file. -/
  regs : regsWf s.regs = true
  /-- Out queues (R86, R87, 03_spoke_packets.md). -/
  chans : ∀ e ∈ s.spoke.chans, e.2.fits
  /-- The fault queue (R427, 17_faults.md). -/
  faults : s.flt.queue.length ≤ 16
  /-- CAD_OVR (Table 1-13, 01_cadence.md). -/
  overruns : s.cad.ovr.length ≤ 8
  /-- The log queues (R285, 10_hayloft.md). -/
  logs : ∀ e ∈ s.hay.logs, e.2.queue.length ≤ 64
  /-- The zone event queues (R129, 04_zones_loops.md). -/
  zones : ∀ e ∈ s.zones, e.2.entries.length ≤ 32
  /-- Hayloft, the boot flash and system SRAM. -/
  hayloft : mwf 0xFF s.hay.mem = true
  flash : mwf 0xFF s.sec.flash = true
  sram : mwf 0 s.dbg.sram = true

/-- The parts of the state, as State lists them. -/
inductive Part where
  | pending | regs | free | cad | pwr | spoke | host | console | zones | pwm | act | adc | pad | bus | hay | stb | dsp | seg | thm | sec | flt | dbg
deriving DecidableEq, Repr

/-- Two states agree on a part. -/
def State.same (p : Part) (s t : State) : Prop :=
  match p with
  | .pending => t.pending = s.pending
  | .regs => t.regs = s.regs
  | .free => t.free = s.free
  | .cad => t.cad = s.cad
  | .pwr => t.pwr = s.pwr
  | .spoke => t.spoke = s.spoke
  | .host => t.host = s.host
  | .console => t.console = s.console
  | .zones => t.zones = s.zones
  | .pwm => t.pwm = s.pwm
  | .act => t.act = s.act
  | .adc => t.adc = s.adc
  | .pad => t.pad = s.pad
  | .bus => t.bus = s.bus
  | .hay => t.hay = s.hay
  | .stb => t.stb = s.stb
  | .dsp => t.dsp = s.dsp
  | .seg => t.seg = s.seg
  | .thm => t.thm = s.thm
  | .sec => t.sec = s.sec
  | .flt => t.flt = s.flt
  | .dbg => t.dbg = s.dbg

/-- Nothing but the parts listed has changed. -/
def State.Frame (l : List Part) (s t : State) : Prop := ∀ p, p ∉ l → State.same p s t

/-- Every part but the queue, which no command's effect reads or writes. -/
def allParts : List Part :=
  [.regs, .free, .cad, .pwr, .spoke, .host, .console, .zones, .pwm, .act, .adc, .pad, .bus, .hay, .stb, .dsp, .seg, .thm, .sec,
    .flt, .dbg]

/-- The parts of the state a command can change at all. -/
def touches (c : Instr) : List Part :=
  match c with
  | .slotEdge .. => allParts
  | .jobCommit .. => allParts
  | .tickGuardFire .. => [.regs, .cad, .spoke, .zones, .adc, .stb, .dsp, .flt]
  | .slotTableSwap => [.regs, .cad]
  | .slotTableReload => [.regs, .cad]
  | .stageEdge .. => allParts
  | .sequencerWatchdog => [.regs, .flt]
  | .aonLost => [.regs, .cad, .flt]
  | .aonResync => [.regs, .cad]
  | .mainRailsGood .. => [.pwr, .seg, .dbg]
  | .mainRailFall .. => allParts
  | .aonPowerUp => allParts
  | .aonRetentionLoss => [.pwr]
  | .padPowerUp => [.regs, .free, .pwr, .pad]
  | .hubRstnQualified => allParts
  | .hubResetAssert .. => allParts
  | .kickstandCommit => [.regs, .pwr]
  | .boot .. => [.regs, .cad, .pwr, .spoke, .host, .zones, .pwm, .act, .hay, .stb, .thm, .sec, .flt, .dbg]
  | .firstTick .. => allParts
  | .escrowTimeout => [.regs, .pwr, .spoke, .act, .hay, .dsp, .sec, .flt]
  | .pfiQualified => [.regs, .pwr, .spoke, .act, .hay, .sec, .flt, .dbg]
  | .powerFailSequenceStart => [.regs, .pwr, .spoke, .hay, .dsp, .flt]
  | .quiesce => [.regs, .free, .pwr, .spoke, .pwm, .act, .bus, .stb, .flt]
  | .pfiRelease => [.regs, .pwr]
  | .pfEnd => allParts
  | .pwrSetMode .. => [.pwr, .spoke, .flt]
  | .freewheel1Entry => [.regs, .free, .cad, .pwr, .spoke, .stb, .dsp, .thm, .flt]
  | .freewheel2Entry => [.regs, .free, .pwr, .spoke, .stb, .dsp, .flt]
  | .fw2PwmClockStop => [.regs, .pwr, .spoke, .pwm, .act, .flt]
  | .fw2ClockStop => [.regs, .cad, .pwr, .spoke, .adc, .bus, .dsp, .flt]
  | .standbyEntry => allParts
  | .wake .. => [.regs, .cad, .pwr]
  | .fw2Resume .. => allParts
  | .pwrSubsysReset .. => [.spoke, .flt]
  | .chargeStop => [.pwr]
  | .chargeResume => [.pwr]
  | .frameReceive .. => [.spoke, .host, .bus]
  | .uartByteGapTimeout => [.spoke, .host]
  | .uartCtsHigh => [.host]
  | .frameAdmission .. => [.regs, .spoke, .host, .sec, .dbg]
  | .sessionOpen .. => [.spoke, .flt]
  | .sessionClose .. => [.spoke, .flt, .dbg]
  | .sessionReset .. => [.regs, .spoke, .sec, .dbg]
  | .hubReset .. => [.spoke, .flt]
  | .hubResetStart => allParts
  | .subscribe .. => [.spoke, .flt]
  | .ping .. => [.spoke, .flt]
  | .hostBaud .. => [.spoke, .host, .flt]
  | .hostBaudRevert => [.spoke, .host]
  | .sessionInfo .. => [.spoke, .flt]
  | .attrRead .. => [.regs, .cad, .spoke, .flt]
  | .attrWrite .. => allParts
  | .attrReadMulti .. => [.regs, .cad, .spoke, .flt]
  | .attrModify .. => allParts
  | .attrInfo .. => [.spoke, .flt]
  | .eventsLost .. => [.spoke]
  | .spiStatus => [.host]
  | .spiWrite .. => [.spoke, .host]
  | .spiRead .. => [.host]
  | .spiFlush => [.spoke, .host]
  | .consoleOpen => [.spoke, .console]
  | .consoleKey .. => [.regs, .free, .pwr, .spoke, .console, .hay, .sec, .flt]
  | .consoleClose => [.regs, .free, .pwr, .spoke, .console, .hay, .sec, .flt]
  | .consoleIdleTimeout => [.regs, .free, .pwr, .spoke, .console, .hay, .sec, .flt]
  | .sensorLost .. => [.regs, .spoke, .zones, .flt]
  | .unoccupied .. => [.regs, .spoke, .zones]
  | .windowClose .. => [.regs, .spoke, .zones]
  | .holdEnd .. => [.regs, .spoke, .zones]
  | .gap .. => [.spoke, .zones]
  | .zonHold .. => [.spoke, .zones, .flt]
  | .zonSchedWrite .. => [.regs, .pwr, .spoke, .hay, .sec, .flt]
  | .zonSchedDayStored .. => [.regs, .pwr, .spoke, .zones, .hay, .stb, .sec, .flt]
  | .zonSchedRead .. => [.spoke, .flt]
  | .zonRemoteT .. => [.spoke, .zones, .flt]
  | .zonWindow .. => [.spoke, .zones, .flt]
  | .zonPresence .. => [.spoke, .zones, .flt]
  | .zonSave .. => [.regs, .pwr, .spoke, .hay, .sec, .flt]
  | .zonEvtRead .. => [.spoke, .zones, .flt]
  | .zonLoopReset .. => [.spoke, .zones, .flt]
  | .zonClockWrite .. => [.regs, .spoke, .zones]
  | .zonEnableWrite .. => [.regs, .spoke, .zones]
  | .periodBoundary .. => [.regs, .spoke, .pwm, .act]
  | .cutRequest .. => [.regs, .spoke]
  | .killRequest .. => [.regs, .pwr, .spoke, .pwm, .act, .flt]
  | .cutLatchOff .. => [.regs, .spoke]
  | .gfltAssert .. => [.regs, .spoke]
  | .pwmClockRestart => [.regs, .pwr, .pwm, .act]
  | .delayLineCalDone .. => [.regs, .spoke, .pwm, .flt]
  | .pwmGroupCtl .. => [.regs, .pwr, .spoke, .pwm, .act, .flt]
  | .pwmLoadAll .. => [.regs, .spoke, .flt]
  | .pwmSync .. => [.regs, .spoke, .pwm, .act, .flt]
  | .pwmClrLatch .. => [.regs, .spoke, .pwm, .act, .flt]
  | .valveCycleStart .. => [.regs, .act]
  | .valveOnTimeEnd .. => [.regs, .act]
  | .inrushEnd .. => [.regs]
  | .groupRecoveryStart .. => [.regs, .act]
  | .groupRecoveryEnd .. => [.regs, .spoke, .pwm, .act, .flt]
  | .bridgeMoveEnd .. => [.regs, .pwr, .spoke, .act, .flt]
  | .reversalCoastEnd .. => [.regs, .pwr]
  | .reversalNotAdmitted .. => [.regs, .pwr, .spoke, .act, .flt]
  | .fanStall .. => [.regs, .spoke, .flt]
  | .rampArrived .. => [.spoke, .act, .flt]
  | .actValve .. => [.spoke, .act, .flt]
  | .actBrMove .. => [.spoke, .act, .flt]
  | .actBrClear .. => [.spoke, .act, .flt]
  | .actFan .. => [.spoke, .act, .flt]
  | .actRamp .. => [.spoke, .act, .flt]
  | .actAux .. => [.spoke, .act, .flt]
  | .actSave .. => [.regs, .pwr, .spoke, .hay, .sec, .flt]
  | .actKsWrite .. => [.regs, .pwr]
  | .adcConversionEnd .. => [.regs, .spoke, .adc, .flt]
  | .adcCtlGo .. => [.regs, .adc]
  | .adcSinglePendingStart .. => [.adc]
  | .adcSingleDone .. => [.regs, .spoke, .adc, .flt]
  | .deviceDue .. => [.regs, .adc]
  | .transactionEnd .. => [.regs, .spoke, .adc]
  | .transactionTimeout .. => [.regs, .spoke, .adc]
  | .deviceInvalid .. => [.regs]
  | .adcConvert .. => [.regs, .spoke, .adc, .flt]
  | .adcSave .. => [.regs, .pwr, .spoke, .hay, .sec, .flt]
  | .roundEnd .. => [.regs, .free, .pwr, .pad]
  | .safetyInputFilter .. => [.regs, .pwr, .pad]
  | .discrepant .. => [.regs, .pwr, .pad]
  | .fbFault .. => [.regs, .pwr, .pad]
  | .weld .. => [.regs, .pwr, .pad]
  | .proofWindowOpen .. => [.regs, .pwr, .pad]
  | .proofDeadline .. => [.regs, .pwr, .pad]
  | .proofTestEnd .. => [.regs, .pwr, .pad]
  | .sltTrip => [.regs, .pwr, .pad]
  | .sltRelease => [.regs, .pwr, .pad]
  | .sltSens => [.regs, .pwr, .pad]
  | .sdirRelease => [.regs, .pwr, .pad]
  | .slpFault => [.regs, .pwr, .pad]
  | .frostDemandOn => [.regs, .pwr, .pad]
  | .frostDemandOff => [.regs, .pwr, .pad]
  | .clkFault => [.regs, .pwr, .pad]
  | .laneFault => [.regs, .pwr, .pad]
  | .heartbeatResponse .. => [.regs, .pwr, .pad]
  | .heartbeatLapse => [.regs, .pwr, .pad]
  | .rearmWindowEnd => [.regs, .pwr, .pad]
  | .armed => [.regs, .pwr, .pad]
  | .stagedBlockExpire => [.regs, .pwr, .pad]
  | .padCommitActivate => [.regs, .pwr, .pad]
  | .padStage .. => [.spoke, .pad, .flt]
  | .padCommit .. => [.spoke, .pad, .flt]
  | .padCancel .. => [.spoke, .pad, .flt]
  | .padProof .. => [.spoke, .pad, .flt]
  | .padRestart .. => [.spoke, .pad, .flt]
  | .busFrameEnd .. => [.bus]
  | .busRxOverflow .. => [.regs, .bus, .flt]
  | .modbusClientTimeout .. => [.regs, .spoke, .bus]
  | .replyPostponed .. => [.bus]
  | .mstpTokenLost .. => [.regs, .bus, .flt]
  | .busPartialFrameDiscard .. => [.spoke, .host]
  | .busTxDone .. => [.spoke, .bus, .flt]
  | .golposenSend .. => [.regs, .spoke, .bus]
  | .golposenWatchdog .. => [.regs, .spoke, .flt]
  | .busPortCtl .. => [.regs, .spoke, .bus, .flt]
  | .busTx .. => [.spoke, .bus, .flt]
  | .busGpRestart .. => [.regs, .spoke, .bus, .flt]
  | .busGpPdu .. => [.regs, .spoke, .bus, .flt]
  | .busSave .. => [.regs, .pwr, .spoke, .hay, .sec, .flt]
  | .hayloftPhaseEnd .. => [.regs, .hay]
  | .hayloftWriteEnd => [.regs, .pwr, .spoke, .zones, .hay, .stb, .sec, .flt]
  | .logHoldExpire .. => [.regs, .pwr, .spoke, .hay, .sec, .flt]
  | .overflow .. => [.regs, .spoke, .hay, .flt]
  | .hayRead .. => [.regs, .pwr, .spoke, .hay, .sec, .flt]
  | .hayWrite .. => [.regs, .pwr, .spoke, .hay, .sec, .flt]
  | .hayLogRead .. => [.regs, .pwr, .spoke, .hay, .sec, .flt]
  | .hayLogAppend .. => [.spoke, .hay, .flt]
  | .hayLogFlush .. => [.spoke, .hay, .flt]
  | .hayOdInc .. => [.regs, .pwr, .spoke, .hay, .sec, .flt]
  | .stallWindowClose => [.regs, .spoke, .stb, .flt]
  | .nop .. => [.regs, .spoke, .stb, .flt]
  | .setr .. => [.regs, .spoke, .stb, .flt]
  | .addr .. => [.regs, .spoke, .stb, .flt]
  | .tload .. => [.regs, .spoke, .stb, .flt]
  | .mact .. => [.regs, .spoke, .stb, .flt]
  | .act .. => [.regs, .spoke, .stb, .flt]
  | .pool .. => [.regs, .spoke, .stb, .flt]
  | .store .. => [.regs, .spoke, .stb, .flt]
  | .radv .. => [.regs, .spoke, .stb, .flt]
  | .rwait .. => [.regs, .spoke, .stb, .flt]
  | .nsend .. => [.regs, .spoke, .stb, .flt]
  | .loop .. => [.regs, .spoke, .stb, .flt]
  | .waitt .. => [.regs, .spoke, .stb, .flt]
  | .move .. => [.regs, .spoke, .stb, .flt]
  | .jump .. => [.regs, .spoke, .stb, .flt]
  | .opEnd .. => [.regs, .spoke, .stb, .flt]
  | .narrowAccess .. => [.regs, .free, .spoke, .stb, .flt, .dbg]
  | .scrub .. => [.regs, .spoke, .stb, .flt]
  | .rowRepairCopy .. => [.regs, .spoke, .stb, .flt]
  | .stbAuditWrite .. => [.regs, .spoke, .stb, .flt]
  | .stbCacheWrite .. => [.regs]
  | .cacheSwitch => [.regs, .free, .spoke, .stb]
  | .stbLoadBegin .. => [.regs, .spoke, .stb, .flt]
  | .stbLoadData .. => [.spoke, .stb, .flt]
  | .stbLoadEnd .. => [.regs, .spoke, .stb, .flt]
  | .stbTaskStart .. => [.regs, .spoke, .stb, .flt]
  | .stbTaskStop .. => [.regs, .spoke, .stb, .flt]
  | .stbFeed .. => [.spoke, .stb, .flt]
  | .panelLapEdge => [.regs, .spoke, .dsp, .flt]
  | .panelPowerOnStep .. => [.regs, .pwr, .spoke, .dsp, .flt]
  | .orderlyOff => [.regs, .spoke, .dsp, .flt]
  | .abruptOff => [.regs, .pwr, .spoke, .dsp, .flt]
  | .powerGoodLow => [.regs, .pwr, .spoke, .dsp, .flt]
  | .vsrcFail => [.regs, .pwr, .spoke, .dsp, .flt]
  | .dischargeEnd => [.regs, .spoke, .dsp, .flt]
  | .dspPower .. => [.regs, .free, .pwr, .spoke, .console, .hay, .dsp, .sec, .flt]
  | .dspWrite .. => [.spoke, .dsp, .flt]
  | .dspFill .. => [.spoke, .dsp, .flt]
  | .dspPresent .. => [.spoke, .dsp, .flt]
  | .dspLwWrite .. => [.spoke, .dsp, .flt]
  | .dspMode .. => [.spoke, .dsp, .flt]
  | .dspGammaWrite .. => [.regs]
  | .segmentSwap => [.regs, .seg]
  | .vlcdLow => [.regs, .spoke, .flt]
  | .altPattern => [.regs, .spoke, .seg]
  | .lossTStop => [.regs, .spoke]
  | .segmentRestart => [.regs, .spoke, .seg]
  | .segCfgWrite .. => [.regs]
  | .segWrite .. => [.spoke, .seg, .flt]
  | .segShow .. => [.spoke, .seg, .flt]
  | .graceExpire => [.regs, .spoke, .thm, .flt]
  | .riseAlarm => [.regs, .spoke, .flt]
  | .riseActEnd => [.regs, .spoke, .thm]
  | .levelFall => [.regs, .spoke, .thm, .flt]
  | .levelTakesEffect => [.regs, .cad, .spoke, .thm, .flt]
  | .thermStop => allParts
  | .cutSensorTrip => allParts
  | .cutSensorRelease => [.thm]
  | .thmFloor .. => [.regs, .spoke, .thm, .flt]
  | .secHello .. => [.free, .spoke, .flt]
  | .secAuth .. => [.regs, .spoke, .hay, .flt]
  | .handshakeLapse .. => [.spoke]
  | .lockoutEnd .. => [.spoke]
  | .secPairOpen .. => [.regs, .spoke, .sec, .flt]
  | .secPairStart .. => [.free, .spoke, .sec, .flt]
  | .secPairConfirm .. => [.regs, .free, .pwr, .spoke, .hay, .sec, .flt]
  | .pairingWindowEnd => [.regs, .spoke, .sec, .flt]
  | .secKeyPut .. => [.regs, .free, .pwr, .spoke, .hay, .sec, .flt]
  | .secKeyGen .. => [.regs, .free, .pwr, .spoke, .hay, .sec, .flt]
  | .secKeyDelete .. => [.regs, .free, .pwr, .spoke, .hay, .sec, .flt]
  | .secCryptSeal .. => [.free, .spoke, .flt]
  | .secCryptOpen .. => [.spoke, .flt]
  | .secLifecycleProvision .. => [.regs, .free, .pwr, .spoke, .hay, .sec, .flt]
  | .secLifecycleField .. => [.regs, .free, .pwr, .spoke, .hay, .sec, .flt]
  | .secLifecycleReturn .. => [.regs, .free, .pwr, .spoke, .hay, .sec, .flt]
  | .fuseBurnEnd => [.regs, .free, .pwr, .spoke, .hay, .sec, .flt]
  | .secUpdateBegin .. => [.regs, .spoke, .sec, .flt]
  | .secUpdateData .. => [.regs, .free, .spoke, .sec, .flt]
  | .secUpdateEnd .. => [.regs, .spoke, .hay, .sec, .flt]
  | .secUpdateConfirm .. => [.regs, .free, .pwr, .spoke, .hay, .sec, .flt]
  | .secUpdateAbort .. => [.regs, .spoke, .sec, .flt]
  | .secRandom .. => [.free, .spoke, .flt]
  | .trialExpire => [.regs, .free, .pwr, .spoke, .hay, .sec, .flt]
  | .drbgReseed => [.sec]
  | .entropyFail => [.regs, .spoke, .hay, .sec, .flt]
  | .hubFaultReset => allParts
  | .subsysUnitReset .. => [.regs, .pwr, .spoke, .adc, .bus, .stb, .dsp, .seg, .flt]
  | .recoveryEnd .. => [.spoke, .hay, .flt]
  | .coreWatchdog .. => [.regs, .cad, .flt]
  | .streakClear => [.regs]
  | .limpHoldExpire => allParts
  | .clrLatch .. => [.regs]
  | .limpEnter .. => allParts
  | .limpExit .. => allParts
  | .tapReset => [.dbg]
  | .extest .. => allParts
  | .samplePreload .. => allParts
  | .idcode => allParts
  | .highz => allParts
  | .clamp => allParts
  | .bypass => allParts
  | .dbgStatus => allParts
  | .dbgChal .. => allParts
  | .dbgResp .. => allParts
  | .debugResponseJudged => [.regs, .spoke, .hay, .sec, .flt]
  | .halt .. => allParts
  | .coreHalt .. => [.regs, .cad, .pwr, .spoke, .act, .pad, .flt, .dbg]
  | .resume .. => allParts
  | .coreResume .. => [.regs, .cad, .pwr, .spoke, .pwm, .act, .dbg]
  | .dbgReset => allParts
  | .relock => allParts
  | .flush => allParts
  | .dbgMemRead .. => allParts
  | .dbgMemWrite .. => allParts
  | .dbgSpokePush .. => allParts
  | .dbgSpokePop => allParts
  | .dbgReadMode .. => [.spoke, .flt, .dbg]
  | .vddPadLoss => [.regs, .free, .pwr, .pad]
  | .nvmWpChange .. => [.regs, .spoke, .flt]
  | .bootContinue => [.pwr]
  | .vlcdLowEnd => [.regs, .spoke, .flt]
  | .gfltRelease .. => [.regs]

/-- Nothing stands in a command's way: its tag is not in use, its channel's out queue has a kept entry and a shared one free
and holds nothing back, the channel's frames are not authenticated, and no recovery is under way (R77, R87, R88, R71, R433). -/
structure State.Ready (s : State) (c : Cmd) : Prop where
  tag : ∀ u ∈ (s.chan c.ch).uses, u.tag ≠ c.tag.val
  final : outCount (s.chan c.ch) .final < 16
  shared : outCount (s.chan c.ch) .shared < 15
  waits : (s.chan c.ch).waits = []
  bind : (s.chan c.ch).bind = none
  calm : s.flt.recov = []

/-- The final reply of a command (R9, R80, Table 3-5). -/
def finalPkt (c : Cmd) (op status : Nat) (extra : Bytes := []) : Pkt := ⟨.final, c.tag.val, replyOpcode op, le 1 status ++ extra, []⟩

/-- The interim reply ACCEPTED of a command (R80). -/
def interimPkt (c : Cmd) (op : Nat) (extra : Bytes := []) : Pkt := ⟨.shared, c.tag.val, replyOpcode op, le 1 stAccepted ++ extra, []⟩

/-- The out queue of the command's channel gains these packets, and no other channel changes. -/
def State.Posts (s : State) (c : Cmd) (l : List Pkt) (t : State) : Prop :=
  (t.chan c.ch).outq = (s.chan c.ch).outq ++ l ∧ ∀ k, k ≠ c.ch.val → t.chan k = s.chan k

/-- The command has its final reply, and its tag is free again (R77, R80). -/
def State.Answers (s : State) (c : Cmd) (op status : Nat) (extra : Bytes) (t : State) : Prop :=
  s.Posts c [finalPkt c op status extra] t ∧ (t.chan c.ch).uses = (s.chan c.ch).uses

/-- The fields listed hold these values (where one is listed twice, the first), and every other field is as it was. -/
def State.Fields (l : Map Nat) (s t : State) : Prop := ∀ k, t.rd k = (mget? l k).getD (s.rd k)

/-- An event went out: every channel that receives its code has raised it, no other channel has changed (R83, R84, R85). -/
def State.Raises (s : State) (code : Nat) (payload : Bytes) (t : State) : Prop :=
  ∀ ch, t.chan ch = if ch < 32 then raiseOn ch code payload (s.chan ch) else s.chan ch

/-- A command was accepted and is still in use: ACCEPTED is posted, and its tag stays taken (R77, R80). -/
def State.Accepts (s : State) (c : Cmd) (op : Nat) (t : State) : Prop :=
  s.Posts c [interimPkt c op] t ∧ ∃ u, (t.chan c.ch).uses = (s.chan c.ch).uses ++ [u] ∧ u.tag = c.tag.val ∧ u.op = op

/-- A command was taken and has sent no reply yet; its tag is taken (R77). -/
def State.Holds (s : State) (c : Cmd) (op : Nat) (t : State) : Prop :=
  s.Posts c [] t ∧ ∃ u, (t.chan c.ch).uses = (s.chan c.ch).uses ++ [u] ∧ u.tag = c.tag.val ∧ u.op = op

/-- The reference of a command that has just been started. -/
def State.refOf (s : State) (c : Cmd) (op : Nat) : Ref := ⟨c.ch.val, c.tag.val, op, (s.chan c.ch).epoch⟩

/-- A command is refused: this final status, one byte, and nothing but its reply (R81, R82). -/
def State.Refuses (s : State) (i : Instr) (c : Cmd) (op status : Nat) : Prop :=
  ∃ t, exec i s = .next t ∧ s.Answers c op status [] t ∧ s.Frame [.spoke] t

/-- The fields that one read of an attribute clears (R10: RC). -/
def clearedByRead (id : Nat) : Map Nat :=
  match attrOf id with
  | none => []
  | some a => (a.fields.filter fun d => decide (d.access = .rc)).map fun d => (regKey id d.lo, 0)

/-- The fields that follow the Paddock (R177, R224, Table 6-9) and the last wake source (R58). -/
def padFields : List Nat :=
  [R.ACT_MIX_BRIDGE, R.ACT_MIX_HOT_LEG, R.ACT_MIX_INHIBIT, R.ACT_MIX_PV_EN, R.ACT_MIX_PLANT_VOUT, R.ACT_MIX_CEIL, R.PWR_WAKE_LASTSRC]

/-- What an event of the Paddock does (R208, R224, R230): the Paddock becomes q, the hot-leg gate and the ceiling follow it, an
event of R230 may wake the hub, and nothing else changes. -/
def State.PadStep (s : State) (i : Instr) (q : Pad) : Prop :=
  ∃ t, exec i s = .next t ∧ t.pad = q ∧ t.rd R.ACT_MIX_INHIBIT = b2n q.inhibit ∧ t.rd R.ACT_MIX_CEIL = q.ceil ∧
    (padEvent s.pad q = false → t.pwr = s.pwr) ∧ (∀ k, k ∉ padFields → t.rd k = s.rd k) ∧ s.Frame [.regs, .pwr, .pad] t

/-- The word of an operation of a row: OPC and the row's other bits (R300). -/
def opWord (opc : Nat) (w : BitVec 32) : Nat := w.toNat % 2 ^ 28 + 2 ^ 28 * opc

/-- A stall is free for an operation, and the operation meets no fault as it issues (R301, R302, R304, R316). -/
structure State.Issues (s : State) (q k opc : Nat) (w : BitVec 32) : Prop where
  works : s.rd R.STB_STAT_OFF ≠ 1
  idle : (s.stall q).cur = none
  landed : (s.stall q).pend = []
  sound : s.opFault q k opc (opWord opc w) = none
  untagged : s.rd R.STB_SP_STAT_AUDIT ≠ 1

/-- What an operation of a context leaves in its stall (R301): these writes on their way, which land 6 cycles after its last cycle,
no operation under way, the cycles it occupied gone by, and the task at this operation; nothing else has changed but these fields. -/
def State.Runs (s : State) (i : Instr) (q k pc cycles : Nat) (l : List (StallMem × Nat × Nat)) (f : Map Nat) : Prop :=
  ∃ t, exec i s = .next t ∧ (s.stall q).cycle + cycles ≤ (t.stall q).cycle ∧
    t.stall q = { s.stall q with
      cycle := (t.stall q).cycle, used := (t.stall q).used
      pend := l.map fun e => ⟨(t.stall q).cycle + 5, e.1, e.2.1, e.2.2, k, s.rd (R.STB_TASK_PC q k), none⟩ } ∧
    (∀ n, n ≠ q → t.stall n = s.stall n) ∧ s.Fields ((R.STB_TASK_PC q k, pc) :: f) t ∧ s.Frame [.regs, .stb] t

end Sys2Proof.Machine
end

