-- ==== Sys2Proof/Certificates/Slice0/Obligations.lean ====
section
/-!
DEFINITION. Sys2Proof/Certificates/Slice0/Obligations.lean: the statements for the provers, chapter by chapter. Their vocabulary is
Safety.lean's: `Frame` (which parts of the state may change), `Fields` (which attribute fields have changed, and to what), `Raises`
(the events posted), `Ready` (the conditions on which a Spoke command executes), `Answers`, `Accepts`, `Holds` and `Refuses` (its
reply, and nothing else), `PadStep` (a step of the Paddock), `Issues` and `Runs` (an operation of a Stable stall).
-/

open Sys2Proof Sys2Proof.Machine
/-- For every command c, state s and queue q: a step of s with c at the front of its queue and q behind it is exec of c on s with
the queue q (the block's counterpart of fetching; the queue is the model's own, log entry 1). -/
def Obligations.StepRunsFront : Prop :=
  ∀ (c : Instr) (s : State) (q : List Instr), step { s with pending := c :: q } = exec c { s with pending := q }

/-- A step of a state whose queue is empty answers that state itself (DESIGN CHOICE, log entry 1). -/
def Obligations.EmptyQueueIdles : Prop := ∀ s : State, s.pending = [] → step s = .next s

/-- Whenever a step answers a next state, the queue of that state is the old queue without its first command: no command's effect
reads or changes the queue (log entry 1). -/
def Obligations.QueueOnlyShrinks : Prop :=
  ∀ s t : State, step s = .next t → t.pending = s.pending.tail

/-- For every command c with every operand and every state s, exec answers a next state, and every part of the state outside the
list `touches c` (22 parts: the queue, the attribute fields, the free values and nineteen blocks) is as it was. -/
def Obligations.EveryCommandCompletes : Prop :=
  ∀ (c : Instr) (s : State), ∃ t, exec c s = .next t ∧ s.Frame (touches c) t

/-- From every state that meets the invariant (not only from reset), whatever command is at the front of the queue, a step that
answers a next state answers one that meets it: the register file lists its fields in rising order and none at its Reset value;
each channel's out queue holds at most 16 final replies, 15 shared packets and 1 EVENTS_LOST (R87), and only final replies are
held back; at most 16 queued faults (R427), 8 CAD_OVR records (Table 1-13), 64 records in each log queue (R285), 32 events of
each zone (R129); hayloft, the boot flash and system SRAM keep their canonical form. -/
def Obligations.StepKeepsInvariant : Prop :=
  ∀ s t : State, s.Inv → step s = .next t → t.Inv

/-- The state right after power-on reset meets the invariant of StepKeepsInvariant. -/
def Obligations.ResetHasInvariant : Prop := State.reset.Inv

/-- For every fault of class NOTE to PLANT: while the controller domain is held nothing changes (R500). Otherwise, with fewer than
16 entries its record joins the end of the queue and LOST stays; with 16 entries LOST rises by one, saturating at 0xFFFF, and if
the record's class is above the lowest class in the queue, the newest entry of that lowest class is dropped and the record joins
the end; else the record is dropped. -/
def Obligations.FaultArrives : Prop :=
  ∀ (s : State) (cls source code unit data attrib : Nat),
    (s.pwr.held = true → s.fault cls source code unit data attrib = s) ∧
    (s.pwr.held = false → s.flt.queue.length < 16 →
      (s.fault cls source code unit data attrib).flt = { s.flt with queue := s.flt.queue ++ [⟨s.faultRec cls source code unit data, attrib⟩] } ∧
      (s.fault cls source code unit data attrib).rd R.FLT_STAT_LOST = s.rd R.FLT_STAT_LOST) ∧
    (s.pwr.held = false → 16 ≤ s.flt.queue.length →
      (s.fault cls source code unit data attrib).rd R.FLT_STAT_LOST = satAdd 0xFFFF (s.rd R.FLT_STAT_LOST) 1 ∧
      (s.fault cls source code unit data attrib).flt =
        if lowestClass s.flt.queue < cls then
          { s.flt with queue := dropNewest (lowestClass s.flt.queue) s.flt.queue ++ [⟨s.faultRec cls source code unit data, attrib⟩] }
        else s.flt)

/-- While the controller domain is not held, a fault that arrives is taken into FLT_FIRST if that latch is empty, and into FLT_HIGH
if that latch is empty or holds a lower class; otherwise the latch stays, whether or not the fault then finds room in the queue.
CLR_LATCH clears both latches, and so does every hub reset. -/
def Obligations.FaultLatches : Prop :=
  (∀ (s : State) (cls source code unit data attrib : Nat), s.pwr.held = false →
    ∃ t, s.fault cls source code unit data attrib = t ∧
      t.rd R.FLT_FIRST_VALID = 1 ∧
      t.rd R.FLT_FIRST_RECORD =
        (if s.rd R.FLT_FIRST_VALID = 1 then s.rd R.FLT_FIRST_RECORD else faultBits (s.faultRec cls source code unit data)) ∧
      t.rd R.FLT_HIGH_VALID = 1 ∧
      t.rd R.FLT_HIGH_RECORD =
        (if s.rd R.FLT_HIGH_VALID = 1 ∧ cls ≤ s.rd R.FLT_HIGH_RECORD % 8 then s.rd R.FLT_HIGH_RECORD
         else faultBits (s.faultRec cls source code unit data))) ∧
  (∀ (v : BitVec 8) (s : State), fltCheck 0x7005 v.toNat = stOk → bit v.toNat 0 = true →
        ∃ t, exec (.clrLatch v) s = .next t ∧ t.rd R.FLT_FIRST_VALID = 0 ∧ t.rd R.FLT_FIRST_RECORD = 0 ∧
          t.rd R.FLT_HIGH_VALID = 0 ∧ t.rd R.FLT_HIGH_RECORD = 0 ∧
          (∀ k, k / 1024 ≠ 0x7002 → k / 1024 ≠ 0x7003 → t.rd k = s.rd k) ∧ s.Frame [.regs] t) ∧
  (∀ (s : State) (cause : Fin 16), cause.val ≤ 0xA → ¬ (s.pwr.held = true ∧ s.pwr.booted = false) →
        ∃ t, exec (.hubResetAssert cause) s = .next t ∧ t.rd R.FLT_FIRST_VALID = 0 ∧ t.rd R.FLT_FIRST_RECORD = 0 ∧
          t.rd R.FLT_HIGH_VALID = 0 ∧ t.rd R.FLT_HIGH_RECORD = 0)

/-- From every state that meets the invariant: SLOT_EDGE counts one; AON_POWER_UP starts the count at 0 (R38); a FIRST_TICK of a hub
whose start-up is done comes at the next tick edge (R106), and so does FW2_RESUME after the slots that passed on the always-on
count (R34); WAKE adds the slots that passed while the sequencer stood (R34); every other command leaves the count as it is, in
every mode and through every hub reset. -/
def Obligations.SlotCount : Prop :=
  ∀ (c : Instr) (s t : State), s.Inv → exec c s = .next t →
    t.cad.now = match c with
      | .slotEdge _ => s.cad.now + 1
      | .aonPowerUp => 0
      | .firstTick .. => if s.startupDone then (s.cad.now + 31) / 32 * 32 else s.cad.now
      | .wake _ slots => if s.pwr.standby || !s.cad.refOn then s.cad.now + slots else s.cad.now
      | .fw2Resume slots _ =>
        if s.pwr.fwStep = 5 ∧ s.pwr.wakeDue = true ∧ s.pwr.held = false then (s.cad.now + slots + 31) / 32 * 32 else s.cad.now
      | _ => s.cad.now

/-! ### The cadence (01_cadence.md) -/

/-- SLOT_TABLE_SWAP: with a swap waiting, the shadow copy becomes the active one and the other way round, and SWAP_PEND reads 0;
with none waiting nothing changes. SLOT_TABLE_RELOAD: with a reload due, the shadow copy holds its source again, SWAP_PEND reads
1, and the active copy stays; with none due nothing changes. Nothing else changes. -/
def Obligations.SlotTableCopies : Prop :=
  (∀ s : State, s.rd R.CAD_STAT_SWAP_PEND = 1 → ∃ t, exec .slotTableSwap s = .next t ∧
    t.cad = { s.cad with active := s.cad.shadow, shadow := s.cad.active } ∧
    s.Fields [(R.CAD_STAT_SWAP_PEND, 0)] t ∧ s.Frame [.regs, .cad] t) ∧
  (∀ s : State, s.rd R.CAD_STAT_SWAP_PEND ≠ 1 → exec .slotTableSwap s = .next s) ∧
  (∀ s : State, s.cad.reloadPend = true → ∃ t, exec .slotTableReload s = .next t ∧
    t.cad = { s.cad with shadow := s.tableSource, reloadPend := false } ∧
    s.Fields [(R.CAD_STAT_SWAP_PEND, 1)] t ∧ s.Frame [.regs, .cad] t) ∧
  (∀ s : State, s.cad.reloadPend = false → exec .slotTableReload s = .next s)

/-- Whatever a copy of the slot table holds, its 32 margin entries read as 0. When the slot that begins is slot 15 or slot 31 of its
tick, its entry is 0 and no parity error is told, it raises no GO bit, and neither core gets a run: all that happens as the slot
begins are halts that a debugger has asked for. -/
def Obligations.MarginSlots : Prop :=
  (∀ (t : SlotTable) (i : Nat), i % 16 = 15 → t.entry i = 0) ∧
  (∀ (s : State) (i : SlotIn), s.slot = 15 ∨ s.slot = 31 →
    s.slotEntry = (0, s) ∧ s.goBits 0 = 0 ∧ s.slotBegins i = (s.coreHalts 0).coreHalts 1)

/-- At a slot that begins, for each core: a job code other than 0 whose CONT bit is clear, or which stands in slot 0 or slot 16
(where CONT is ignored), starts a run of that job in that entry, debug-held if the core is halted; otherwise the run that is
there goes on. An entry with an odd number of ones reads as 0, PAR_ERR is set, a DEGRADE fault is queued, and the reload of the
shadow copy is due, which SLOT_TABLE_RELOAD makes at the next stage edge and SLOT_TABLE_SWAP puts in force at the next lap edge.
The GO bits fire in every lap for GPACE 0, in laps 0 to 47 for 1, in laps 48 to 63 for 2, and in lap 48 alone for 3. -/
def Obligations.SlotDispatch : Prop :=
  (∀ (s : State) (e core : Nat), core < 2 →
    (s.dispatch e core).run core =
      if bits e (8 * core) 8 ≠ 0 ∧ (bit e (24 + core) = false ∨ s.slot = 0 ∨ s.slot = 16) then
        some ⟨bits e (8 * core) 8, s.cad.now % 512, false, bit s.dbg.halted core⟩
      else s.run core) ∧
  (∀ s : State, evenOnes (s.cad.active.entry (s.cad.now % 512)) = false →
    s.slotEntry.1 = 0 ∧ s.slotEntry.2.rd R.CAD_STAT_PAR_ERR = 1 ∧ s.slotEntry.2.cad = { s.cad with reloadPend := true } ∧
    (s.pwr.held = false → s.flt.queue.length < 16 →
      s.slotEntry.2.flt.queue = s.flt.queue ++ [⟨s.faultRec clDegrade 0x01 0 0 0, 0⟩])) ∧
  (∀ s : State, evenOnes (s.cad.active.entry (s.cad.now % 512)) = true →
    s.slotEntry = (s.cad.active.entry (s.cad.now % 512), s)) ∧
  (∀ s : State, s.cad.reloadPend = true → ∃ t u, exec .slotTableReload s = .next t ∧ t.rd R.CAD_STAT_SWAP_PEND = 1 ∧
    exec .slotTableSwap t = .next u ∧ u.cad.active = s.tableSource) ∧
  (∀ (s : State) (e : Nat), s.goBits e =
    if bits e 26 2 = 0 ∨ bits e 26 2 = 1 ∧ s.lap < 48 ∨ bits e 26 2 = 2 ∧ 48 ≤ s.lap ∨ bits e 26 2 = 3 ∧ s.lap = 48 then
      bits e 16 8 else 0)

/-- SLOT_EDGE answers a next state whose count of slots is one more, whatever the mode (for a state that meets the invariant).
While the hub is held in reset or walks no table, it is the always-on domain's edge and nothing else, after the host's line has
moved. Otherwise, unless a hub reset or a stop of the clocks comes first, the guard judges what ended, then the edges that fall
here are taken, and last the slot begins (its GO bits, then its jobs); which services fall on which edge is the model's reading
(log entry 34). -/
def Obligations.SlotOrder : Prop :=
  (∀ (s : State) (i : SlotIn), s.Inv → ∃ t, exec (.slotEdge i) s = .next t ∧ t.cad.now = s.cad.now + 1) ∧
  (∀ (s : State) (i : SlotIn), s.cad.walking = false ∨ s.pwr.held = true →
    ∃ u, u = { s.uartSlot with cad.now := s.uartSlot.cad.now + 1 }.aonEdge (s.cad.walking && s.uartSlot.posted) ∧
      exec (.slotEdge i) s = .next (u.whileWalking fun u => u.controllerEdge i)) ∧
  (∀ (s : State) (i : SlotIn), s.cad.walking = true → s.pwr.held = false →
    ∃ u, u = (s.slotEnds i).uartSlot ∧
      exec (.slotEdge i) s = .next (({ u with cad.now := u.cad.now + 1 }.aonEdge (u.cad.walking && u.posted)).whileWalking
        fun v => ((((v.guardEdge.whileWalking State.slotWork).whileWalking fun v => v.panelSlot i).whileWalking
          fun v => v.edges i).whileWalking fun v => v.slotBegins i))) ∧
  (∀ (s : State) (i : SlotIn), ∃ u v, u = s.slotEntry ∧ v = (u.2.adcSlot.raiseGo i (u.2.adcSlot.goBits u.1)) ∧
    s.slotBegins i = (((v.coreHalts 0).coreHalts 1).dispatch u.1 0).dispatch u.1 1)

/-- A run that has not signalled done and is not debug-held: JOB_COMMIT does the work of its job, and then the run has completed.
For the jobs without work of their own (CAD_SVC, APP, CAD_END, and codes a patch adds), exactly this: the run is done, its streak
and suspension counts are gone, the core has completed a run in this tick, and for a job of class CTL CAD_SLACK takes the slack
when it holds none or a larger one. Without such a run nothing changes. -/
def Obligations.JobCompletes : Prop :=
  (∀ (s : State) (core : Fin 2) (slack : Fin 262144) (r : Run), s.run core = some r → r.done = false → r.held = false →
    exec (.jobCommit core slack) s = .next ((s.jobWork core r.job).runDone core slack)) ∧
  (∀ (s : State) (core : Fin 2) (slack : Fin 262144) (r : Run), s.run core = some r → r.done = false → r.held = false →
    r.job ∈ [0x01, 0x14, 0x15] ∨ 0x16 < r.job →
    ∃ t, exec (.jobCommit core slack) s = .next t ∧ t.run core = some { r with done := true } ∧
      mget? t.cad.streak (jobKey core r.job) = none ∧ mget? t.cad.susp (jobKey core r.job) = none ∧
      t.cad.comp0 = (s.cad.comp0 || core.val == 0) ∧ t.cad.comp1 = (s.cad.comp1 || core.val == 1) ∧
      s.Fields (if jobClass r.job = 0 ∧ (s.rd R.CAD_SLACK_VALID = 0 ∨ slack.val < s.rd R.CAD_SLACK_MIN) then
        [(R.CAD_SLACK_VALID, 1), (R.CAD_SLACK_JOB, r.job), (R.CAD_SLACK_MIN, slack.val)] else []) t ∧
      s.Frame [.regs, .cad] t) ∧
  (∀ (s : State) (core : Fin 2) (slack : Fin 262144), s.runLive core = false → exec (.jobCommit core slack) s = .next s)

/-- For a core whose run has not completed, and for ADC_WIN and STB_WIN when late, TICK_GUARD_FIRE ends the run or window and does
what R28 says: OVR reads 1, OVRCNT rises by one saturating at 0xFFFFFFFF, a record joins CAD_OVR unless it holds 8, and the
outcome of Table 1-7 follows: a measuring job and an inference job queue DEGRADE; an IO or HSK run is suspended, with NOTE only at
its 64th consecutive allotment; a DSP run is stopped with NOTE, or DEGRADE for the first of the 16th consecutive counting lap; a CTL run is stopped, and the third consecutive overrun of the same job on the same core raises
class HUB in place of ZONE or PLANT. With nothing to judge nothing changes. -/
def Obligations.GuardFires : Prop :=
  (∀ (s : State) (core job entry : Nat), ∃ u, u = s.overrunTold core job entry ∧
      s.Fields [(R.CAD_OVRCNT_COUNT, satAdd 0xFFFFFFFF (s.rd R.CAD_OVRCNT_COUNT) 1), (R.CAD_STAT_OVR, 1)] u ∧
      u.cad.ovr = (if s.cad.ovr.length < 8 then s.cad.ovr ++ [⟨job, core, entry, jobClass job, s.stage % 256⟩] else s.cad.ovr) ∧
      s.Frame [.regs, .cad] u ∧
      (job = 0x05 ∨ job = 0x06 → s.overrun core job entry = (u.adcResLost (job - 0x05)).fault clDegrade 0x01 job core 0 1) ∧
      (job = 0xF0 → s.overrun core job entry = u.fault clDegrade 0x01 job core 0 1) ∧
      (job = 0xF1 → s.overrun core job entry = u.stbOverrun.fault clDegrade 0x01 job core 0 5) ∧
      (job ∉ [0x05, 0x06, 0xF0, 0xF1] → jobClass job = 1 ∨ jobClass job = 4 →
        s.overrun core job entry = u.fault clDegrade 0x01 job core 0) ∧
      (jobClass job = 2 ∨ jobClass job = 5 → ∃ v, v.cad = { u.cad with
          susp := mput 0 u.cad.susp (jobKey core job) (min 65 (mget 0 u.cad.susp (jobKey core job) + 1)) } ∧ u.Frame [.cad] v ∧
        s.overrun core job entry =
          if mget 0 u.cad.susp (jobKey core job) = 63 then v.fault clNote 0x01 job core 0 else v) ∧
      (jobClass job = 0 → ∃ v w, u.Frame [.cad] v ∧ w = (if job = 0x08 ∧ v.lap < 48 then v.zonSkip v.lap else v) ∧
        mget 0 v.cad.streak (jobKey core job) = (if mget 0 u.cad.streak (jobKey core job) = 2 then 0
          else mget 0 u.cad.streak (jobKey core job) + 1) ∧
        s.overrun core job entry =
          if mget 0 u.cad.streak (jobKey core job) = 2 then w.hubFault 0x01 job core 0 (some core) 0x5
          else w.fault (if job = 0x07 ∨ job = 0x08 then clZone else clPlant) 0x01 job core 0) ∧
      (jobClass job = 3 → ∃ v, u.Frame [.cad, .dsp] v ∧ v.dsp = { u.dsp with stopped := true } ∧
        v.cad = { u.cad with
          dspLap := true
          dspLaps := if u.cad.dspLap = true then u.cad.dspLaps else if u.cad.dspLaps = 15 then 0 else u.cad.dspLaps + 1 } ∧
        s.overrun core job entry =
          if u.cad.dspLap = false ∧ u.cad.dspLaps = 15 then v.fault clDegrade 0x01 0x12 core 0 6 else v.fault clNote 0x01 0x12 core 0)) ∧
  (∀ (s : State) (source : Fin 4) (r : Run), source.val < 2 → s.run source = some r → r.done = false → r.held = false →
    exec (.tickGuardFire source) s = .next ((s.setRun source none).overrun source r.job (s.cad.now % 512))) ∧
  (∀ (s : State) (source : Fin 4), source.val < 2 → s.runLive source = false → exec (.tickGuardFire source) s = .next s) ∧
  (∀ (s : State) (e : Nat), s.cad.adcWin = some e → s.winLate 0 = true ∨ s.winLate 1 = true →
    exec (.tickGuardFire 2) s = .next (({ s with cad.adcWin := none }.each ([0, 1].filter s.winLate) State.winFire).overrun 0 0xF0 e)) ∧
  (∀ (s : State) (e : Nat), s.cad.stbWin = some e → s.stbLate = true →
    exec (.tickGuardFire 3) s = .next ({ s with cad.stbWin := none }.overrun 0 0xF1 (s.cad.now % 512))) ∧
  (∀ s : State, s.winLate 0 = false → s.winLate 1 = false → exec (.tickGuardFire 2) s = .next s) ∧
  (∀ s : State, s.stbLate = false → exec (.tickGuardFire 3) s = .next s)

/-- At a stage edge that has not been taken yet, while the hub walks its table, STAGE_EDGE first takes the trim: with AON edges
present, DRIFT holds D = N − 24,576,000 + P clamped to −4,096 .. 4,096 (with 24,576,000 for N when N has not been counted over a
whole AON stage), PHASE holds P, N counts from then on, and only when the clamp acts is SKEW set and a DEGRADE fault queued; with
AON edges absent DRIFT holds 0. The services that count stages follow on that state. At any other edge nothing changes. -/
def Obligations.StageTrim : Prop :=
  (∀ (s : State) (n : Nat) (p : Int), s.rd R.CAD_STAT_AON_LOST ≠ 1 →
    ∃ d u, d = clamp (-4096) 4096 ((if s.cad.nValid then (n : Int) else 24576000) - 24576000 + p) ∧
      u.cad = { s.cad with nValid := true } ∧ s.Frame [.regs, .cad] u ∧
      (d = (if s.cad.nValid then (n : Int) else 24576000) - 24576000 + p →
        s.trimStage n p = u ∧ s.Fields [(R.CAD_TRIM_PHASE, unsigned 16 p), (R.CAD_TRIM_DRIFT, unsigned 16 d)] u) ∧
      (d ≠ (if s.cad.nValid then (n : Int) else 24576000) - 24576000 + p →
        s.trimStage n p = u.fault clDegrade 0x01 0 0 0 ∧
        s.Fields [(R.CAD_STAT_SKEW, 1), (R.CAD_TRIM_PHASE, unsigned 16 p), (R.CAD_TRIM_DRIFT, unsigned 16 d)] u)) ∧
  (∀ (s : State) (n : Nat) (p : Int), s.rd R.CAD_STAT_AON_LOST = 1 → s.Fields [(R.CAD_TRIM_DRIFT, 0)] (s.trimStage n p)) ∧
  (∀ (s : State) (n : Nat) (p : Int) (e : Bool), s.cad.walking = true → s.pwr.held = false → s.cad.now % 32768 = 0 →
    s.cad.stageAt ≠ some s.cad.now →
    ∃ u v, u = { s with cad.stageAt := some s.cad.now }.trimStage n p ∧
      v = (if e then u.tableReload.reseed.entropyRecovered else u.tableReload.reseed.entropyFailed).trialStage.pairExpire.busStage.devStage ∧
      exec (.stageEdge n p e) s = .next (v.each (List.range 8) fun w f => w.fanStage f 0).zonStage.fltStage.streakClear.consoleStage.limpHoldExpire) ∧
  (∀ (s : State) (n : Nat) (p : Int) (e : Bool), s.cad.walking = false ∨ s.pwr.held = true ∨ s.cad.now % 32768 ≠ 0 ∨
    s.cad.stageAt = some s.cad.now → exec (.stageEdge n p e) s = .next s)

/-- Tick t of the stage is lengthened by one REF cycle for each step of floor((t + 1)·|D|/1,024) over floor(t·|D|/1,024) when D > 0,
and shortened by as many when D < 0; a tick takes floor(|D|/1,024) or that plus one adjustments, and the adjustments of the 1,024
ticks sum to D. -/
def Obligations.TrimSpread : Prop :=
  (∀ (d : Int) (t : Nat), (tickAdjust d t).natAbs = (t + 1) * d.natAbs / 1024 - t * d.natAbs / 1024 ∧
    (0 ≤ d → 0 ≤ tickAdjust d t) ∧ (d ≤ 0 → tickAdjust d t ≤ 0) ∧
    ((tickAdjust d t).natAbs = d.natAbs / 1024 ∨ (tickAdjust d t).natAbs = d.natAbs / 1024 + 1)) ∧
  ∀ d : Int, ((List.range 1024).map (tickAdjust d)).sum = d

/-- AON_LOST, with AON_LOST clear: the flag is set, DRIFT reads 0, AON edges are absent, and a DEGRADE fault arrives; with it set
nothing changes. AON_RESYNC, with AON_LOST set: the flag clears, AON edges come again, and N has still to be counted; otherwise
nothing changes. SEQUENCER_WATCHDOG, unless the controller domain is held: FLT_LAST takes a record of class HUB that names no core
and the number of faults it discards, and a hub reset with cause WATCHDOG is due at the second AON edge, unless one of a higher
cause is due already; held, nothing changes. -/
def Obligations.AonEdges : Prop :=
  (∀ s : State, s.rd R.CAD_STAT_AON_LOST ≠ 1 → ∃ u, exec .aonLost s = .next (u.fault clDegrade 0x01 0 0 0) ∧
    s.Fields [(R.CAD_TRIM_DRIFT, 0), (R.CAD_STAT_AON_LOST, 1)] u ∧ u.cad = { s.cad with aonOn := false } ∧ s.Frame [.regs, .cad] u) ∧
  (∀ s : State, s.rd R.CAD_STAT_AON_LOST = 1 → exec .aonLost s = .next s) ∧
  (∀ s : State, s.rd R.CAD_STAT_AON_LOST = 1 → ∃ t, exec .aonResync s = .next t ∧ s.Fields [(R.CAD_STAT_AON_LOST, 0)] t ∧
    t.cad = { s.cad with aonOn := true, nValid := false } ∧ s.Frame [.regs, .cad] t) ∧
  (∀ s : State, s.rd R.CAD_STAT_AON_LOST ≠ 1 → exec .aonResync s = .next s) ∧
  (∀ s : State, s.pwr.held = true → exec .sequencerWatchdog s = .next s) ∧
  (∀ s : State, s.pwr.held = false → ∃ t, exec .sequencerWatchdog s = .next t ∧
    s.Fields [(R.FLT_LAST_RECORD, faultBits (s.faultRec 4 0x01 0 0 0)), (R.FLT_LAST_DISCARDED, s.flt.queue.length),
      (R.FLT_LAST_CORE_VALID, 0), (R.FLT_LAST_CORE, 0), (R.FLT_LAST_PEND, 1)] t ∧
    t.flt.hubDue = some (match s.flt.hubDue with | none => 4 | some c => if causeRank c ≤ causeRank 4 then c else 4) ∧
    t.flt.hubEdges = (if s.flt.hubDue.isSome then s.flt.hubEdges else 2) ∧ t.flt.queue = s.flt.queue ∧ t.flt.byFault = true ∧
    s.Frame [.regs, .flt] t)

/-! ### Supplies, resets, escrow and modes (02_power_reset.md) -/

/-- MAIN_RAILS_GOOD with some main rail not good makes every main rail good, and at power-on of the main group (one of VDD_CORE,
VDD_18 and VDD_IO was not good, or the hub is not in Freewheel-2) samples TST_EN, resets the TAP and ends the segment panel's loss
of the main rails; with all good nothing changes. MAIN_RAIL_FALL takes its rail away and leaves the other three; it asserts a hub
reset with cause SUPPLY, but not in Standby, and VDD_ADC in Freewheel-2 has no effect beyond its level. AON_RETENTION_LOSS marks
the domain's content lost. AON_POWER_UP (after its hub reset with cause POWER_ON) starts the count at 0, empties the Kickstand
latch to all off, and returns the cause latch, wake and charging attributes and CLOCK to their Reset values. PAD_POWER_UP and
VDD_PAD_LOSS change nothing but the Paddock, its fields, and the free values they draw (log entry 21). -/
def Obligations.SupplyEdges : Prop :=
  (∀ (s : State) (tst : Bool), s.mainGood = true → exec (.mainRailsGood tst) s = .next s) ∧
  (∀ (s : State) (tst : Bool), s.mainGood = false → ∃ t, exec (.mainRailsGood tst) s = .next t ∧
    t.pwr = { s.pwr with core := true, v18 := true, io := true, adc := true } ∧
    ((s.pwr.core && s.pwr.v18 && s.pwr.io) = false ∨ s.rd R.PWR_STAT_MODE ≠ 2 →
      t.dbg = { s.dbg with ir := 2, tapHold := false, tst := tst } ∧ t.seg = { s.seg with noMain := false, altDue := false }) ∧
    ((s.pwr.core && s.pwr.v18 && s.pwr.io) = true → s.rd R.PWR_STAT_MODE = 2 → t.dbg = s.dbg ∧ t.seg = s.seg) ∧
    s.Frame [.pwr, .seg, .dbg] t) ∧
  (∀ (s : State) (rail : Fin 4), ∃ u, u = { s with pwr := { s.pwr with
      core := s.pwr.core && rail != 0, v18 := s.pwr.v18 && rail != 1, io := s.pwr.io && rail != 2, adc := s.pwr.adc && rail != 3 } } ∧
    exec (.mainRailFall rail) s = .next (
      if rail = 3 ∧ s.rd R.PWR_STAT_MODE = 2 then u
      else if s.pwr.standby = true then (if rail = 3 then u else u.hayInterrupt).segMainsLost
      else ((if rail = 3 then u else u.hayInterrupt).segMainsLost).hubReset 1)) ∧
  (∀ s : State, exec .aonRetentionLoss s = .next { s with pwr.aon := false }) ∧
  (∀ s : State, ∃ t, exec .aonPowerUp s = .next t ∧ t.cad.now = 0 ∧ t.cad.aonOn = true ∧ t.pwr.ks = {} ∧ t.pwr.ksStage = none ∧
    t.pwr.chgFull = false ∧ t.zones = [] ∧ t.sec.trials = 0 ∧ t.pending = s.pending) ∧
  (∀ s : State, ∃ t, exec .padPowerUp s = .next t ∧ t.pwr = { s.pwr with pad := true } ∧ t.pad.copies = s.pad.copies ∧
    t.free = s.free + 1 ∧ s.Frame [.regs, .free, .pwr, .pad] t) ∧
  (∀ s : State, ∃ t, exec .vddPadLoss s = .next t ∧ t.pwr = { s.pwr with pad := false } ∧
    (∀ n, n < 4 → (t.pad.outp n).on = false) ∧ t.pad.writing = none ∧ t.free = s.free + 2 ∧ s.Frame [.regs, .free, .pwr, .pad] t)

/-- HUB_RESET_ASSERT with a code of Table 2-12 and HUB_RSTN_QUALIFIED (cause PIN). With no hub reset in force, PREV takes CAUSE, CAUSE
takes the new cause with DIE and STAGE, and the controller domain is reset: it is held, every attribute field that the scope of
Table 2-2 does not keep reads its Reset value (but RECALL, which is due), every Spoke channel is closed and empty, no command is in
use, no fault, recovery, escrow wait or hold is left, no core has a run, and the count of slots, the contents of hayloft, the write
that hayloft has loaded, the boot flash and the key slots are as they were. During a hub reset a cause only joins: it starts no new
reset, and replaces CAUSE only when it ranks higher. A code above 0xA does nothing. -/
def Obligations.HubResetScope : Prop :=
  (∀ s : State, exec .hubRstnQualified s = .next (s.hubReset 2)) ∧
  (∀ (s : State) (c : Fin 16), c.val ≤ 0xA → exec (.hubResetAssert c) s = .next (s.hubReset c)) ∧
  (∀ (s : State) (c : Fin 16), 0xA < c.val → exec (.hubResetAssert c) s = .next s) ∧
  (∀ (s : State) (c : Nat), s.pwr.held = true → s.pwr.booted = false →
    if causeRank c < causeRank (s.rd R.PWR_CAUSE_CAUSE) then
      s.Fields [(R.PWR_CAUSE_STAGE, s.stage % 2 ^ 32), (R.PWR_CAUSE_DIE, s.rd R.THM_STAT_HOT), (R.PWR_CAUSE_CAUSE, c)] (s.hubReset c) ∧
        s.Frame [.regs] (s.hubReset c)
    else s.hubReset c = s) ∧
  (∀ (s : State) (c : Nat), s.pwr.held = false ∨ s.pwr.booted = true → ∃ u t, u = s.wrs [(R.PWR_CAUSE_PREV, s.rd R.PWR_CAUSE_CAUSE),
      (R.PWR_CAUSE_CAUSE, c), (R.PWR_CAUSE_DIE, s.rd R.THM_STAT_HOT), (R.PWR_CAUSE_STAGE, s.stage % 2 ^ 32)] ∧
    t = u.domainReset (c == 3) ∧ s.hubReset c = t ∧
    (∀ k, keptAtReset k = false → k ≠ R.HAY_STAT_RECALL → k ≠ R.PWR_KSTAT_PENDING → t.rd k = resetOf k) ∧
    t.rd R.HAY_STAT_RECALL = 1 ∧ t.rd R.PWR_KSTAT_PENDING = 0 ∧
    t.pwr.held = true ∧ t.pwr.booted = false ∧ t.pwr.wait = [] ∧ t.pwr.hold = [] ∧ t.pwr.ksStage = none ∧ t.pwr.force = [1] ∧
    t.cad.now = s.cad.now ∧ t.cad.run0 = none ∧ t.cad.run1 = none ∧ t.cad.walking = false ∧
    (∀ ch, (t.chan ch).isOpen = false ∧ (t.chan ch).uses = [] ∧ (t.chan ch).outq = [] ∧ (t.chan ch).bind = none) ∧
    t.flt.queue = [] ∧ t.flt.recov = [] ∧ t.hay.mem = s.hay.mem ∧ t.hay.cur = s.hay.cur ∧ t.sec.flash = s.sec.flash ∧
    t.sec.slots = s.sec.slots ∧ t.dbg.halted = 0)

/-- KICKSTAND_COMMIT: a staged image becomes the latch's content as a whole and PENDING reads 0; while a whole-image force stands the
VOUT targets take its ramp codes; with nothing staged nothing changes. BOOT, once the reset is released: the system SRAM is
cleared, both copies of the slot table hold the table loaded, the boot steps are over, and PFI qualified makes boot wait; while
the reset is not released nothing changes. BOOT_CONTINUE ends that wait when PFI is not qualified. FIRST_TICK, once start-up is
done: the hub's first tick is run and the cadence starts; before that nothing changes. -/
def Obligations.BootToFirstTick : Prop :=
  (∀ (s : State) (k : KsImage), s.pwr.ksStage = some k → s.pwr.force = [] → ∃ t, exec .kickstandCommit s = .next t ∧
    t.pwr = { s.pwr with ks := k, ksStage := none } ∧ s.Fields [(R.PWR_KSTAT_PENDING, 0)] t ∧ s.Frame [.regs, .pwr] t) ∧
  (∀ (s : State) (k : KsImage), s.pwr.ksStage = some k → s.pwr.force ≠ [] → ∃ t, exec .kickstandCommit s = .next t ∧
    t.pwr = { s.pwr with ks := k, ksStage := none } ∧ t.rd R.PWR_KSTAT_PENDING = 0 ∧
    (∀ v, v < 8 → t.rd (R.ACT_VOUT_TARGET v) = if k.bad then 0 else mget 0 k.ramp v) ∧ s.Frame [.regs, .pwr] t) ∧
  (∀ s : State, s.pwr.ksStage = none → exec .kickstandCommit s = .next s) ∧
  (∀ (s : State) (h : Bool) (l : List (BitVec 12)), s.released = false → exec (.boot h l) s = .next s) ∧
  (∀ (s : State) (h : Bool) (l : List (BitVec 12)), s.released = true → ∃ t, exec (.boot h l) s = .next t ∧
    t.pwr.booted = true ∧ t.dbg.sram = [] ∧ t.host.uart = h ∧ t.cad.refOn = true ∧ t.cad.active = t.cad.shadow ∧
    t.cad.active = t.cad.source ∧ t.cad.reloadPend = false) ∧
  (∀ s : State, s.rd R.PWR_STAT_PFI ≠ 1 → exec .bootContinue s = .next { s with pwr.bootWait := false }) ∧
  (∀ s : State, s.rd R.PWR_STAT_PFI = 1 → exec .bootContinue s = .next s) ∧
  (∀ (s : State) (a b c d : BitVec 12), s.startupDone = true →
    exec (.firstTick a b c d) s = .next (s.firstTickRun [a.toNat, b.toNat, c.toNat, d.toNat]).cadenceStarts) ∧
  (∀ (s : State) (a b c d : BitVec 12), s.Inv → s.startupDone = true → ∃ t, exec (.firstTick a b c d) s = .next t ∧
    t.cad.now = (s.cad.now + 31) / 32 * 32) ∧
  (∀ (s : State) (a b c d : BitVec 12), s.startupDone = false → exec (.firstTick a b c d) s = .next s)

/-- A sample is kept with the three before it, and CODE is the lowest of those kept (at most four). With V in 1/64 mV (so that
CODE × 0.75 mV × DIV/16 is whole), the reserve is 0 when V ≤ Vfloor, and otherwise CAP × (V² − Vfloor²) / 2 in units of 10 µJ rounded
half upward; the available reserve is what is left of it after BASE and everything escrowed, and 0 if that is negative. A hub
reset and a wake from Freewheel-2 discard the samples, and FIRST_TICK takes four. The worked case: CODE 3,200 gives 12,000 mV and
10,450 units; 2,880 gives 7,440 units. -/
def Obligations.GaugeReserve : Prop :=
  (∀ (s : State) (code : Nat), (s.gaugeSample code).pwr.samples = (code :: s.pwr.samples).take 4) ∧
  (∀ (s : State), s.pwr.samples ≠ [] → s.gaugeCode ∈ s.pwr.samples ∧ ∀ x ∈ s.pwr.samples, s.gaugeCode ≤ x) ∧
  (∀ (s : State), s.gaugeV64 = s.gaugeCode * 3 * s.rd R.PWR_HOLD_CFG_DIV) ∧
  (∀ (s : State), s.gaugeV64 ≤ 64 * s.rd R.PWR_HOLD_CFG_VFLOOR → s.reserve = 0) ∧
  (∀ (s : State), s.gaugeCode < 4096 → s.rd R.PWR_HOLD_CFG_DIV < 256 → s.rd R.PWR_HOLD_CFG_CAP < 65536 →
    64 * s.rd R.PWR_HOLD_CFG_VFLOOR < s.gaugeV64 →
    2 * 8192000000 * s.reserve ≤ 2 * (s.rd R.PWR_HOLD_CFG_CAP * (s.gaugeV64 ^ 2 - (64 * s.rd R.PWR_HOLD_CFG_VFLOOR) ^ 2)) + 8192000000 ∧
    2 * (s.rd R.PWR_HOLD_CFG_CAP * (s.gaugeV64 ^ 2 - (64 * s.rd R.PWR_HOLD_CFG_VFLOOR) ^ 2)) + 8192000000 < 2 * 8192000000 * (s.reserve + 1) ∨
    s.reserve = 0xFFFFFF) ∧
  (∀ (s : State), s.avail = s.reserve - s.rd R.PWR_HOLD_CFG_BASE - (s.pwr.hold.map (·.cost)).sum) ∧
  (∀ (s : State) (c : Nat), s.pwr.held = false → (s.hubReset c).pwr.samples = []) ∧
  (∀ (s : State) (n : Nat) (l : List (BitVec 12)), s.pwr.fwStep = 5 → s.pwr.wakeDue = true → s.pwr.held = false →
    (s.fw2Resume n l).pwr.samples = []) ∧
  (∀ s : State, s.rd R.PWR_HOLD_CFG_CAP = 220 → s.rd R.PWR_HOLD_CFG_VFLOOR = 7000 → s.rd R.PWR_HOLD_CFG_DIV = 80 →
    (s.gaugeCode = 3200 → s.gaugeV64 = 64 * 12000 ∧ s.reserve = 10450) ∧ (s.gaugeCode = 2880 → s.reserve = 7440))

/-- A request of class A is admitted when its cost is no more than the available reserve; one of a lower class when its cost and the
cost of one action of each higher class that is not already held are together no more than the available reserve (before the first
tick, in Freewheel-2, and under the gates of R54 none is). The requests are judged in class order, A first, and within a class in
the order they were made; each admitted one is held from then on, so that its cost counts in HELD for the next; what is not
admitted waits, unchanged. -/
def Obligations.EscrowAdmission : Prop :=
  (∀ (s : State) (r : EscReq), s.admits r = (s.gateOpen r && decide (r.cost + s.higherCost r.cls ≤ s.avail))) ∧
  (∀ (s : State), s.higherCost 0 = 0) ∧
  (∀ (s : State) (cls : Nat), s.higherCost (cls + 1) = s.higherCost cls + if s.holdsClass cls then 0 else s.classCost cls) ∧
  (∀ (s : State) (r : EscReq) (rest : List EscReq), s.admits r = true →
    judge s (r :: rest) =
      ((judge { s with pwr.hold := s.pwr.hold ++ [r], pwr.wait := s.pwr.wait.erase r } rest).1,
        r :: (judge { s with pwr.hold := s.pwr.hold ++ [r], pwr.wait := s.pwr.wait.erase r } rest).2)) ∧
  (∀ (s : State) (r : EscReq) (rest : List EscReq), s.admits r = false → judge s (r :: rest) = judge s rest) ∧
  (∀ (s : State) (r : EscReq), { s with pwr.hold := s.pwr.hold ++ [r] }.heldUnits = s.heldUnits + r.cost) ∧
  (∀ l : List EscReq, (inClassOrder l).Pairwise fun a b => a.cls ≤ b.cls) ∧
  (∀ (l : List EscReq) (c : Nat), c < 4 → (inClassOrder l).filter (fun r => r.cls == c) = l.filter fun r => r.cls == c) ∧
  (∀ (s : State), s.gauge.2 = (judge s (inClassOrder s.pwr.wait)).2 ∧
    s.gauge.1.pwr = (judge s (inClassOrder s.pwr.wait)).1.pwr ∧ s.Frame [.regs, .pwr] s.gauge.1)

/-- PFI_QUALIFIED: in Standby, or with PFI already qualified, nothing; otherwise PFI reads 1; before the first tick boot waits; with
the controller clocks stopped, or a sequence under way, nothing more; else the sequence is due, PWR_RESERVE and the enabled groups
are kept as they stand, halts are ignored, the waiting requests end and the power-fail record is made. POWER_FAIL_SEQUENCE_START:
with a sequence due, PFSEQ reads 1, the panel's abrupt off follows, and POWER_FAIL carries the kept PWR_RESERVE; else nothing.
QUIESCE, from the 20th tick edge counted on and while the sequence runs: the hub is quiesced; else nothing. PFI_RELEASE: PFI reads
0 and the release is kept; in Freewheel-2 it is a wake source. PF_END: quiesced with PFI released and PFI_FW2 0, a hub reset with
cause PF_END; else nothing. ESCROW_TIMEOUT ends what has waited too long, and changes nothing when no request waits. -/
def Obligations.PowerFail : Prop :=
  (∀ s : State, s.pwr.standby = true ∨ s.rd R.PWR_STAT_PFI = 1 → exec .pfiQualified s = .next s) ∧
  (∀ s : State, s.pwr.standby = false → s.rd R.PWR_STAT_PFI ≠ 1 → s.pwr.held = true → ∃ t, exec .pfiQualified s = .next t ∧
    t.pwr = { s.pwr with pfiRel := false, bootWait := s.pwr.booted } ∧ s.Fields [(R.PWR_STAT_PFI, 1)] t ∧ s.Frame [.regs, .pwr] t) ∧
  (∀ s : State, s.pwr.standby = false → s.rd R.PWR_STAT_PFI ≠ 1 → s.pwr.held = false →
    s.rd R.PWR_STAT_PFSEQ = 1 ∨ s.pwr.pfDue = true ∨ s.cad.refOn = false → ∃ t, exec .pfiQualified s = .next t ∧
    t.pwr = { s.pwr with pfiRel := false } ∧ s.Fields [(R.PWR_STAT_PFI, 1)] t ∧ s.Frame [.regs, .pwr] t) ∧
  (∀ s : State, s.pwr.standby = false → s.rd R.PWR_STAT_PFI ≠ 1 → s.pwr.held = false → s.rd R.PWR_STAT_PFSEQ ≠ 1 →
    s.pwr.pfDue = false → s.cad.refOn = true → ∃ u, u = { s.wr R.PWR_STAT_PFI 1 with
      pwr := { s.pwr with
        pfiRel := false, pfDue := true, pfTicks := 0, pfSnap := le 16 s.reserveBits, pfGroups := s.rd R.PWM_STAT_EN }
      dbg := { s.dbg with noHalt := true, resume := s.dbg.halted } } ∧ exec .pfiQualified s = .next u.gatesClose.pfRecord) ∧
  (∀ s : State, s.pwr.pfDue = true → ∃ u, u = { s.wr R.PWR_STAT_PFSEQ 1 with pwr.pfDue := false, hay.pfRan := true } ∧
    exec .powerFailSequenceStart s = .next ((u.abruptOff 2 false).event 0x38 s.pwr.pfSnap)) ∧
  (∀ s : State, s.pwr.pfDue = false → exec .powerFailSequenceStart s = .next s) ∧
  (∀ s : State, s.pwr.pfTicks < 20 ∨ s.rd R.PWR_STAT_PFSEQ ≠ 1 ∨ s.pwr.quiet = true → exec .quiesce s = .next s) ∧
  (∀ s : State, 20 ≤ s.pwr.pfTicks → s.rd R.PWR_STAT_PFSEQ = 1 → s.pwr.quiet = false → ∃ t, exec .quiesce s = .next t ∧
    t.pwr.quiet = true ∧ t.pwr.force = (if s.pwr.force.contains 4 then s.pwr.force else 4 :: s.pwr.force) ∧ t.pwm.stopped = true ∧
    t.rd R.STB_STAT_OFF = 1 ∧
    (s.rd R.PWR_HOLD_CFG_PFI_FW2 ≠ 1 → t.rd R.PWR_STAT_PFSEQ = 1) ∧
    (s.rd R.PWR_HOLD_CFG_PFI_FW2 = 1 → t.rd R.PWR_STAT_PFSEQ = 0 ∧ t.rd R.PWR_STAT_MODE = 2 ∧ t.pwr.fwStep = 4)) ∧
  (∀ s : State, s.rd R.PWR_STAT_PFI ≠ 1 → exec .pfiRelease s = .next s) ∧
  (∀ s : State, s.rd R.PWR_STAT_PFI = 1 → ∃ u, u = { s.wr R.PWR_STAT_PFI 0 with pwr.pfiRel := true } ∧
    exec .pfiRelease s = .next (if s.rd R.PWR_STAT_MODE = 2 ∧ s.pwr.held = false then u.wakeFires 3 else u)) ∧
  (∀ s : State, s.rd R.PWR_STAT_PFSEQ = 1 → s.pwr.quiet = true → s.rd R.PWR_HOLD_CFG_PFI_FW2 ≠ 1 → s.rd R.PWR_STAT_PFI ≠ 1 →
    exec .pfEnd s = .next (s.hubReset 0xA)) ∧
  (∀ s : State, s.rd R.PWR_STAT_PFSEQ ≠ 1 ∨ s.pwr.quiet = false ∨ s.rd R.PWR_HOLD_CFG_PFI_FW2 = 1 ∨ s.rd R.PWR_STAT_PFI = 1 →
    exec .pfEnd s = .next s) ∧
  (∀ s : State, exec .escrowTimeout s = .next s.escTimeouts) ∧
  (∀ s : State, s.pwr.wait = [] → (∀ r ∈ s.hay.reqs ++ s.hay.groom, s.hayExpired r = false) → exec .escrowTimeout s = .next s)

/-- PWR_SET_MODE with MODE 0 to 3, when R59 allows it and neither the power-fail sequence nor DEBUG_HOLD stands: OK, and the mode
waits for the lap edge. Under R59 the reply is NOT_PERMITTED and nothing waits. FREEWHEEL1_ENTRY from Run: MODE reads 1, the reduced
table is active, Stable ends and the panel goes to Lantern mode. FREEWHEEL2_ENTRY: MODE reads 2, step 1 is reached, Stable ends
and the panel's orderly off is asked for. FW2_PWM_CLOCK_STOP, with the panel idle and no write in hayloft: the PWM clock stops
under the Kickstand force. FW2_CLOCK_STOP, with every VOUT arrived: every controller clock stops and the sequencer walks no table.
STANDBY_ENTRY: with the panel idle after its orderly off, the controller domain is reset with CAUSE 8 and the hub is in Standby.
Where its condition does not hold, an entry changes nothing. -/
def Obligations.PowerModes : Prop :=
  (∀ (s : State) (c : Cmd) (m : Byte), s.Ready c → c.payload = [m] → m.toNat ≤ 3 → s.modeRefused m.toNat = false →
    s.rd R.PWR_STAT_PFSEQ ≠ 1 → s.pwr.pfDue = false → s.debugHold = false → ∃ t, exec (.pwrSetMode c) s = .next t ∧
    s.Answers c 0x38 stOk [] t ∧ t.pwr = { s.pwr with pendMode := some m.toNat } ∧ s.Frame [.pwr, .spoke] t) ∧
  (∀ (s : State) (c : Cmd) (m : Byte), s.Ready c → c.payload = [m] → m.toNat ≤ 3 →
    s.modeRefused m.toNat = true ∨ s.rd R.PWR_STAT_PFSEQ = 1 ∨ s.debugHold = true → ∃ t, exec (.pwrSetMode c) s = .next t ∧
    s.Answers c 0x38 stNotPermitted [] t ∧ s.Frame [.spoke] t) ∧
  (∀ (s : State) (m : Nat), s.modeRefused m = true ↔ 2 ≤ m ∧ s.rd R.PWR_WAKE_EN_HOST ≠ 1 ∧ s.rd R.PWR_WAKE_EN_PFI ≠ 1 ∧
    s.rd R.PWR_WAKE_EN_PAD ≠ 1 ∧ (s.rd R.PWR_WAKE_EN_ALARM ≠ 1 ∨ s.rd R.PWR_WAKE_ALARM ≤ s.stage % 2 ^ 32)) ∧
  (∀ s : State, s.pwr.pendMode = some 1 → s.rd R.PWR_STAT_MODE = 0 → ∃ u, u = { s.wr R.PWR_STAT_MODE 1 with
      pwr.pendMode := none, cad.active := { base := .reduced }, thm.div := 8 } ∧
    exec .freewheel1Entry s = .next (u.stbOff.panelFreewheel true)) ∧
  (∀ s : State, s.pwr.pendMode ≠ some 1 ∨ s.rd R.PWR_STAT_MODE ≠ 0 → exec .freewheel1Entry s = .next s) ∧
  (∀ s : State, s.pwr.pendMode = some 2 → s.rd R.PWR_STAT_MODE ≠ 2 → ∃ u, u = { s.wr R.PWR_STAT_MODE 2 with pwr.pendMode := none, pwr.fwStep := 1 } ∧
    exec .freewheel2Entry s = .next (u.stbOff.orderlyOff 7)) ∧
  (∀ s : State, s.pwr.pendMode ≠ some 2 ∨ s.rd R.PWR_STAT_MODE = 2 → exec .freewheel2Entry s = .next s) ∧
  (∀ s : State, s.pwr.fwStep = 1 → s.panelIdle = true → s.hay.cur = none → ∃ t, exec .fw2PwmClockStop s = .next t ∧
    t.pwr.fwStep = 4 ∧ t.pwm.stopped = true ∧ t.pwr.force = (if s.pwr.force.contains 3 then s.pwr.force else 3 :: s.pwr.force)) ∧
  (∀ s : State, s.pwr.fwStep ≠ 1 ∨ s.panelIdle = false ∨ s.hay.cur ≠ none → exec .fw2PwmClockStop s = .next s) ∧
  (∀ s : State, s.pwr.fwStep = 4 → s.voutsArrived = true → ∃ t, exec .fw2ClockStop s = .next t ∧ t.pwr.fwStep = 5 ∧
    t.cad = { s.cad with refOn := false, walking := false, run0 := none, run1 := none } ∧ t.adc.off = true ∧ t.adc.portsOff = true ∧
    t.dsp.level = [] ∧ t.dsp.nxt = []) ∧
  (∀ s : State, s.pwr.fwStep ≠ 4 ∨ s.voutsArrived = false → exec .fw2ClockStop s = .next s) ∧
  (∀ s : State, s.pwr.pendMode = some 3 → (s.orderlyOff 7).panelIdle = true → ∃ t, exec .standbyEntry s = .next t ∧
    t.pwr.standby = true ∧ t.pwr.held = true ∧ t.cad.refOn = false ∧ t.cad.walking = false ∧ t.cad.now = s.cad.now ∧
    (∀ ch, (t.chan ch).isOpen = false ∧ (t.chan ch).uses = [])) ∧
  (∀ s : State, s.pwr.pendMode = some 3 → (s.orderlyOff 7).panelIdle = false → exec .standbyEntry s = .next (s.orderlyOff 7)) ∧
  (∀ s : State, s.pwr.pendMode ≠ some 3 → exec .standbyEntry s = .next s)

/-- WAKE (the slots that passed are added while the sequencer stands): a source that is not enabled, or whose alarm does not match,
does nothing more; from Freewheel-2 LASTSRC takes the source and the wake is due; from Freewheel-1 Run is asked for at the next lap
edge; a mode that waits is given up and the hub stays in its mode; from Standby the reset ends. FW2_RESUME, with the clocks stopped
and a wake due: MODE reads 0, the count comes to a tick edge of the always-on count, the sequencer walks again with N not counted;
else nothing changes. CHARGE_STOP with MODE not 0 ends charging until CHARGE_RESUME. PWR_SUBSYS_RESET of a unit outside the
power-fail sequence: the recovery marker is placed with the commands of that unit that are in use; OK follows the reset. -/
def Obligations.WakeAndCharge : Prop :=
  (∀ (s : State) (src : Fin 8) (n : Nat), s.cad.refOn = true → s.pwr.standby = false →
    src.val = 0 ∨ 4 < src.val ∨ s.wakeEnabled src = false ∨ (src.val = 1 ∧ s.stage % 2 ^ 32 ≠ s.rd R.PWR_WAKE_ALARM) →
    exec (.wake src n) s = .next s) ∧
  (∀ (s : State) (src : Fin 8) (n : Nat), 2 ≤ src.val → src.val ≤ 4 → s.wakeEnabled src = true → s.pwr.standby = false →
    s.rd R.PWR_STAT_MODE = 2 → ∃ t, exec (.wake src n) s = .next t ∧ t.pwr = { s.pwr with wakeDue := true } ∧
    t.cad = { s.cad with now := if s.cad.refOn then s.cad.now else s.cad.now + n } ∧
    s.Fields [(R.PWR_WAKE_LASTSRC, src.val)] t ∧ s.Frame [.regs, .cad, .pwr] t) ∧
  (∀ (s : State) (src : Fin 8) (n : Nat), 2 ≤ src.val → src.val ≤ 4 → s.wakeEnabled src = true → s.pwr.standby = false →
    s.cad.refOn = true → s.rd R.PWR_STAT_MODE = 1 → s.pwr.pendMode = none → ∃ t, exec (.wake src n) s = .next t ∧
    t.pwr = { s.pwr with pendMode := some 0 } ∧ s.Fields [(R.PWR_WAKE_LASTSRC, src.val)] t ∧ s.Frame [.regs, .pwr] t) ∧
  (∀ (s : State) (src : Fin 8) (n m : Nat), 2 ≤ src.val → src.val ≤ 4 → s.wakeEnabled src = true → s.pwr.standby = false →
    s.cad.refOn = true → s.rd R.PWR_STAT_MODE ≠ 2 → s.pwr.pendMode = some (m + 1) → ∃ t, exec (.wake src n) s = .next t ∧
    t.pwr = { s.pwr with pendMode := none } ∧ s.Fields [(R.PWR_WAKE_LASTSRC, src.val)] t ∧ s.Frame [.regs, .pwr] t) ∧
  (∀ (s : State) (src : Fin 8) (n : Nat), 2 ≤ src.val → src.val ≤ 4 → s.wakeEnabled src = true → s.pwr.standby = true →
    ∃ t, exec (.wake src n) s = .next t ∧ t.pwr = { s.pwr with standby := false, wakeDue := false } ∧ t.cad.now = s.cad.now + n ∧
    t.rd R.PWR_WAKE_LASTSRC = src.val ∧ t.rd R.PWR_CAUSE_CAUSE = s.rd R.PWR_CAUSE_CAUSE ∧ s.Frame [.regs, .cad, .pwr] t) ∧
  (∀ (s : State) (n : Nat) (l : List (BitVec 12)), ¬ (s.pwr.fwStep = 5 ∧ s.pwr.wakeDue = true ∧ s.pwr.held = false) →
    exec (.fw2Resume n l) s = .next s) ∧
  (∀ (s : State) (n : Nat) (l : List (BitVec 12)), s.pwr.fwStep = 5 → s.pwr.wakeDue = true → s.pwr.held = false →
    ∃ u : State, exec (.fw2Resume n l) s = .next u.cadenceStarts ∧ u.cad.now = (s.cad.now + n + 31) / 32 * 32 ∧ u.cad.walking = true ∧
    u.cad.refOn = true ∧ u.cad.nValid = false ∧ u.pwr.fwStep = 0 ∧ u.pwr.wakeDue = false ∧ u.adc.off = false ∧ u.pwm.stopped = false) ∧
  (∀ s : State, s.rd R.PWR_CHG_MODE ≠ 0 → exec .chargeStop s = .next { s with pwr.chgFull := true }) ∧
  (∀ s : State, s.rd R.PWR_CHG_MODE = 0 → exec .chargeStop s = .next s) ∧
  (∀ s : State, exec .chargeResume s = .next { s with pwr.chgFull := false }) ∧
  (∀ (s : State) (c : Cmd) (u : Byte), s.Ready c → c.payload = [u] → 1 ≤ u.toNat → u.toNat ≤ 7 → s.rd R.PWR_STAT_PFSEQ ≠ 1 →
    ∃ t, exec (.pwrSubsysReset c) s = .next t ∧
    t.flt = { s.flt with recov := [⟨u.toNat, s.touchedNow u.toNat, [s.refOf c 0x39], false, false⟩] } ∧ s.Holds c 0x39 t ∧
    s.Frame [.spoke, .flt] t) ∧
  (∀ (s : State) (c : Cmd) (u : Byte), s.Ready c → c.payload = [u] → 1 ≤ u.toNat → u.toNat ≤ 7 → s.rd R.PWR_STAT_PFSEQ = 1 →
    ∃ t, exec (.pwrSubsysReset c) s = .next t ∧ s.Answers c 0x39 stNotPermitted [] t ∧ s.Frame [.spoke] t)

/-! ### Spoke packets (03_spoke_packets.md) -/

/-- For every channel 0 to 31, tag 0 to 127, opcode byte, payload of up to 4,095 bytes and tag of 0 or 8 authentication bytes: the
receive path that gets any bytes without 0x5A and then the frame of Table 3-2 holds exactly that frame more, no partial frame and
unchanged discard counts; and taking that frame apart gives back the AUTH bit, channel, tag, opcode, payload, header and AUTHTAG. -/
def Obligations.FrameRoundTrip : Prop :=
  (∀ (x : RxPath) (ch : Fin 32) (tag : Fin 128) (op : Byte) (payload auth junk : Bytes), x.part = [] → payload.length < 4096 →
    auth.length = 0 ∨ auth.length = 8 → junk.all (fun b => b != 0x5A) = true →
    ∃ b, b = frameBytes ch ⟨.final, tag, op.toNat, payload, auth⟩ ∧
      separate (junk ++ b).length { x with part := junk ++ b } = { x with frames := x.frames ++ [b] } ∧
      frameOf b = { auth := decide (auth.length = 8), ch := ch, tag := tag, op := op.toNat, payload := payload,
                    header := headerOf (decide (auth.length = 8)) ch tag op.toNat payload.length, authTag := auth })

/-- The search: a byte that is no SYNC goes; a complete header that fails R68 counts one framing discard, a complete frame whose CRC
does not match one CRC discard, and the search goes on at the byte after the discarded SYNC; a short header or frame waits. A
count that would pass 0xFFFF stays there. FRAME_RECEIVE on the SPI host interface commits bytes that fit the receive FIFO;
the host's discards set DISC. On UART each byte comes by itself. The byte gap discards the frame under way as a framing discard;
CTS high stops what the slot would send. Where the interface is in reset, or not UART for the last two, nothing changes. -/
def Obligations.Receiving : Prop :=
  (∀ (x : RxPath) (n : Nat) (h : Byte) (rest : Bytes), x.part = h :: rest → h ≠ 0x5A →
    separate (n + 1) x = separate n { x with part := rest }) ∧
  (∀ (x : RxPath) (n : Nat) (rest : Bytes), x.part = 0x5A :: rest → 6 ≤ rest.length → headerGood x.part = false →
    separate (n + 1) x = separate n { x with part := rest, frmDisc := satAdd 0xFFFF x.frmDisc 1 }) ∧
  (∀ (x : RxPath) (n : Nat) (rest : Bytes), x.part = 0x5A :: rest → 6 ≤ rest.length → headerGood x.part = true →
    frameLength x.part ≤ x.part.length → frameGood x.part = false →
    separate (n + 1) x = separate n { x with part := rest, crcDisc := satAdd 0xFFFF x.crcDisc 1 }) ∧
  (∀ (x : RxPath) (n : Nat) (rest : Bytes), x.part = 0x5A :: rest →
    rest.length < 6 ∨ headerGood x.part = true ∧ x.part.length < frameLength x.part → separate n x = x) ∧
  (∀ (s : State) (data : Bytes), s.hostOn = true → s.host.uart = false → data.length ≤ s.rxFree → ∃ t,
    exec (.frameReceive 0 data) s = .next t ∧
    t.rxPath 0 = separate ((s.rxPath 0).part.length + data.length) { s.rxPath 0 with part := (s.rxPath 0).part ++ data } ∧
    ((s.rxPath 0).crcDisc < (t.rxPath 0).crcDisc ∨ (s.rxPath 0).frmDisc < (t.rxPath 0).frmDisc → t.host.disc = true) ∧
    (∀ ch, t.chan ch = s.chan ch) ∧ s.Frame [.spoke, .host] t) ∧
  (∀ (s : State) (data : Bytes), s.hostOn = true → s.host.uart = true →
    exec (.frameReceive 0 data) s = .next (s.each data State.uartByte)) ∧
  (∀ (s : State) (b : Byte), s.hostOn = true → s.host.uart = true → s.rxFree ≠ 0 → ∃ t, t = s.uartByte b ∧
    t.rxPath 0 = separate ((s.rxPath 0).part.length + 1) { s.rxPath 0 with part := (s.rxPath 0).part ++ [b] }) ∧
  (∀ (s : State) (data : Bytes), s.hostOn = false → exec (.frameReceive 0 data) s = .next s) ∧
  (∀ s : State, s.hostOn = true → s.host.uart = true → (s.rxPath 0).part ≠ [] → ∃ t, exec .uartByteGapTimeout s = .next t ∧
    t.rxPath 0 = separate (s.rxPath 0).part.length
      { s.rxPath 0 with part := (s.rxPath 0).part.drop 1, frmDisc := satAdd 0xFFFF (s.rxPath 0).frmDisc 1 } ∧
    (∀ ch, t.chan ch = s.chan ch) ∧ s.Frame [.spoke, .host] t) ∧
  (∀ s : State, s.hostOn = false ∨ s.host.uart = false ∨ (s.rxPath 0).part = [] → exec .uartByteGapTimeout s = .next s) ∧
  (∀ s : State, s.host.uart = true → exec .uartCtsHigh s = .next { s with host.ctsLow := false }) ∧
  (∀ s : State, s.host.uart = false → exec .uartCtsHigh s = .next s)

/-- While the hub admits frames, FRAME_ADMISSION takes the oldest complete frame off its transport and judges it: tag 127, then a
channel that is not the transport's: discarded, with one framing discard counted; the authentication rule: AUTH_FAIL, and the
counter does not advance; a closed channel with any opcode but SESSION_OPEN and SESSION_RESET: NOT_PERMITTED; an undefined opcode:
UNKNOWN_OPCODE; a length the opcode does not allow: BAD_LENGTH; then, but for SESSION_RESET, a tag in use: TAG_IN_USE, and no room
in the limits of R78: BUSY. A frame that passes enters the in queue of its channel at the end; SESSION_RESET is performed at once.
With no complete frame, or while frames are not admitted, nothing changes. -/
def Obligations.AdmissionChecks : Prop :=
  (∀ (s : State) (tr : Fin 4) (b : Bytes) (rest : List Bytes), s.ready = true → (s.rxPath tr).frames = b :: rest →
    ∃ u, u = s.setRx tr { s.rxPath tr with frames := rest } ∧ exec (.frameAdmission tr) s = .next (u.admitFrame tr (frameOf b))) ∧
  (∀ (s : State) (tr : Nat) (f : Frame), f.tag = 127 ∨ transportOf f.ch ≠ tr → s.admitFrame tr f = s.framingDiscard tr) ∧
  (∀ (s : State) (tr : Nat) (f : Frame), f.tag ≠ 127 → transportOf f.ch = tr → ∃ u,
    u = (if (s.authRule f).2 = true then s.modChan f.ch countIn else s) ∧
    s.admitFrame tr f =
      if (s.authRule f).1 = false then s.reject f.ch f.tag f.op stAuthFail
      else if (u.chan f.ch).isOpen = false ∧ f.op ≠ 0x00 ∧ f.op ≠ 0x02 then u.reject f.ch f.tag f.op stNotPermitted
      else if lengthAllowed f.op f.payload.length = none then u.reject f.ch f.tag f.op stUnknownOpcode
      else if lengthAllowed f.op f.payload.length = some false then u.reject f.ch f.tag f.op stBadLength
      else if f.op = 0x02 then u.sessionReset f.ch f.tag
      else if ((u.chan f.ch).uses.any fun x => x.tag == f.tag) = true then u.reject f.ch f.tag f.op stTagInUse
      else if u.roomFor f.ch = false then u.reject f.ch f.tag f.op stBusy
      else u.enqueue f) ∧
  (∀ (s : State) (f : Frame), f.op ≠ 0x69 → ∃ t, t = s.enqueue f ∧
    t.chan f.ch = { s.chan f.ch with uses := (s.chan f.ch).uses ++ [⟨f.tag, f.op, f.payload, false, s.dbg.loud⟩] } ∧
    (∀ k, k ≠ f.ch → t.chan k = s.chan k) ∧ s.Frame [.spoke] t) ∧
  (∀ (s : State) (tr : Fin 4), s.ready = false ∨ (s.rxPath tr).frames = [] → exec (.frameAdmission tr) s = .next s)

/-- With nothing in the command's way: SESSION_OPEN of version 1 answers OK with version, limits and build, opens a closed channel
with a clear mask and sequence number 0, and leaves an open one as it is. SESSION_CLOSE closes a channel that has no other command
in use, else BUSY. SESSION_RESET, also with tags in use and a full out queue: the channel is closed, its queues are empty but for the
OK reply, mask, sequence number and binding are cleared, its started commands go on counting, and the four counts stay. SUBSCRIBE
takes a mask whose bits are all defined events. PING answers its 4 bytes. SESSION_INFO reports its 11 bytes and clears the four
counts, but not for a quiet read of channel 31. Wrong lengths end with BAD_LENGTH and wrong values with BAD_PARAM. -/
def Obligations.Sessions : Prop :=
  (∀ (s : State) (c : Cmd), s.Ready c → c.payload = [1] → ∃ t, exec (.sessionOpen c) s = .next t ∧
    s.Answers c 0x00 stOk ([1, 16, 64, 0xFF, 0x0F] ++ le 4 Config.firmwareBuild.toNat) t ∧ (t.chan c.ch).isOpen = true ∧
    ((s.chan c.ch).isOpen = false → (t.chan c.ch).mask = 0 ∧ (t.chan c.ch).seq = 0) ∧
    ((s.chan c.ch).isOpen = true → (t.chan c.ch).mask = (s.chan c.ch).mask ∧ (t.chan c.ch).seq = (s.chan c.ch).seq) ∧
    s.Frame [.spoke] t) ∧
  (∀ (s : State) (c : Cmd) (v : Byte), s.Ready c → c.payload = [v] → v ≠ 1 → s.Refuses (.sessionOpen c) c 0x00 stBadParam) ∧
  (∀ (s : State) (c : Cmd), s.Ready c → c.payload = [] → (s.chan c.ch).uses = [] → ∃ t, exec (.sessionClose c) s = .next t ∧
    s.Answers c 0x01 stOk [] t ∧ (t.chan c.ch).isOpen = false ∧ (t.chan c.ch).mask = 0 ∧
    t.dbg.loud = (s.dbg.loud && c.ch.val != 31) ∧ s.Frame [.spoke, .dbg] t) ∧
  (∀ (s : State) (c : Cmd), s.Ready c → c.payload = [] → (s.chan c.ch).uses ≠ [] → s.Refuses (.sessionClose c) c 0x01 stBusy) ∧
  (∀ (s : State) (c : Cmd), c.payload = [] → s.rd R.SEC_UPD_CHAN ≠ c.ch.val → ∃ t, exec (.sessionReset c) s = .next t ∧
    t.chan c.ch = { s.chan c.ch with
      isOpen := false, mask := 0, seq := 0, uses := [], waits := [], lost := none, bind := none, hello := none
      epoch := (s.chan c.ch).epoch + 1, outq := [⟨.final, c.tag.val, 0x82, [0], []⟩] } ∧
    t.spoke.orphans = s.spoke.orphans ++ (((s.chan c.ch).live.filter (·.started)).map fun u => ⟨c.ch.val, u.tag, u.op, (s.chan c.ch).epoch⟩) ∧
    (∀ k, k ≠ c.ch.val → t.chan k = s.chan k) ∧ t.dbg.loud = (s.dbg.loud && c.ch.val != 31) ∧ s.Frame [.spoke, .dbg] t) ∧
  (∀ (s : State) (c : Cmd), s.Ready c → c.payload.length = 16 →
    ((List.range 128).all fun n => !bit (ofLe c.payload) n || definedEvents.contains n) = true → ∃ t, exec (.subscribe c) s = .next t ∧
    s.Answers c 0x04 stOk [] t ∧ (t.chan c.ch).mask = ofLe c.payload ∧ s.Frame [.spoke] t) ∧
  (∀ (s : State) (c : Cmd), s.Ready c → c.payload.length = 16 →
    ((List.range 128).all fun n => !bit (ofLe c.payload) n || definedEvents.contains n) = false →
    s.Refuses (.subscribe c) c 0x04 stBadParam) ∧
  (∀ (s : State) (c : Cmd), s.Ready c → c.payload.length = 4 → ∃ t, exec (.ping c) s = .next t ∧
    s.Answers c 0x05 stOk c.payload t ∧ s.Frame [.spoke] t) ∧
  (∀ (s : State) (c : Cmd) (x : RxPath), s.Ready c → c.payload = [] → x = s.rxPath (transportOf c.ch) →
    ∃ t, exec (.sessionInfo c) s = .next t ∧
    s.Answers c 0x07 stOk (le 1 (b2n (s.chan c.ch).isOpen) ++ le 1 ((s.chan c.ch).uses.length + 1) ++ le 2 x.crcDisc ++ le 2 x.frmDisc ++
      le 2 (s.chan c.ch).drops ++ le 2 (s.chan c.ch).lostCnt) t ∧
    (c.ch.val ≠ 31 ∨ s.dbg.loud = true → (t.chan c.ch).drops = 0 ∧ (t.chan c.ch).lostCnt = 0 ∧
      t.rxPath (transportOf c.ch) = { x with crcDisc := 0, frmDisc := 0 }) ∧
    (c.ch.val = 31 → s.dbg.loud = false → (t.chan c.ch).drops = (s.chan c.ch).drops ∧ t.rxPath (transportOf c.ch) = x) ∧
    s.Frame [.spoke] t) ∧
  (∀ (s : State) (c : Cmd), s.Ready c →
    (c.payload.length ≠ 1 → s.Refuses (.sessionOpen c) c 0x00 stBadLength) ∧
    (c.payload.length ≠ 0 → s.Refuses (.sessionClose c) c 0x01 stBadLength ∧ s.Refuses (.sessionInfo c) c 0x07 stBadLength) ∧
    (c.payload.length ≠ 16 → s.Refuses (.subscribe c) c 0x04 stBadLength) ∧
    (c.payload.length ≠ 4 → s.Refuses (.ping c) c 0x05 stBadLength))

/-- HUB_RESET with its two bytes answers OK and sets the start at most 1,024 ticks ahead; any other two bytes give BAD_PARAM; on an
unauthenticated channel 16 to 23, and during the power-fail sequence, NOT_PERMITTED. HUB_RESET_START: once the reply has left, or
the time is up, a hub reset with cause COMMAND; otherwise, and with none accepted, nothing. HOST_BAUD with a rate of R101 on
channels 0 to 15 in UART mode: OK, and the rate waits for the reply to leave; elsewhere NOT_PERMITTED; another rate BAD_PARAM.
HOST_BAUD_REVERT, 2 stages after a change without a good frame: the previous rate returns and one framing discard is counted. -/
def Obligations.ResetAndRate : Prop :=
  (∀ (s : State) (c : Cmd), s.Ready c → c.payload = [0x3C, 0xC3] → c.ch.val < 16 ∨ 23 < c.ch.val → s.rd R.PWR_STAT_PFSEQ ≠ 1 →
    ∃ t, exec (.hubReset c) s = .next t ∧ s.Answers c 0x03 stOk [] t ∧ t.spoke.rstAt = some (s.ticks + 1024) ∧ s.Frame [.spoke] t) ∧
  (∀ (s : State) (c : Cmd), s.Ready c → c.payload = [0x3C, 0xC3] → 16 ≤ c.ch.val ∧ c.ch.val ≤ 23 ∨ s.rd R.PWR_STAT_PFSEQ = 1 →
    s.Refuses (.hubReset c) c 0x03 stNotPermitted) ∧
  (∀ (s : State) (c : Cmd), s.Ready c → c.payload.length = 2 → c.payload ≠ [0x3C, 0xC3] → s.Refuses (.hubReset c) c 0x03 stBadParam) ∧
  (∀ (s : State) (n : Nat), s.spoke.rstAt = some n → s.repliesLeft 0x83 = true ∨ n ≤ s.ticks →
    exec .hubResetStart s = .next ({ s with spoke.rstAt := none }.hubReset 3)) ∧
  (∀ (s : State) (n : Nat), s.spoke.rstAt = some n → s.repliesLeft 0x83 = false → s.ticks < n → exec .hubResetStart s = .next s) ∧
  (∀ s : State, s.spoke.rstAt = none → exec .hubResetStart s = .next s) ∧
  (∀ (s : State) (c : Cmd), s.Ready c → c.payload.length = 4 → ofLe c.payload ∈ [115200, 230400, 460800, 921600, 1500000, 3000000] →
    c.ch.val < 16 → s.host.uart = true → ∃ t, exec (.hostBaud c) s = .next t ∧ s.Answers c 0x06 stOk [] t ∧
    t.host = { s.host with nextBaud := some (ofLe c.payload) } ∧ s.Frame [.spoke, .host] t) ∧
  (∀ (s : State) (c : Cmd), s.Ready c → c.payload.length = 4 → ofLe c.payload ∈ [115200, 230400, 460800, 921600, 1500000, 3000000] →
    16 ≤ c.ch.val ∨ s.host.uart = false → s.Refuses (.hostBaud c) c 0x06 stNotPermitted) ∧
  (∀ (s : State) (c : Cmd), s.Ready c → c.payload.length = 4 → ofLe c.payload ∉ [115200, 230400, 460800, 921600, 1500000, 3000000] →
    s.Refuses (.hostBaud c) c 0x06 stBadParam) ∧
  (∀ (s : State) (b : Nat), s.host.nextBaud = some b → s.repliesLeft 0x86 = true → s.baudChanges =
    { s with host := { s.host with nextBaud := none, prevBaud := some s.host.baud, baud := b, baudEnd := s.ticks + 2048 } }) ∧
  (∀ (s : State) (b : Nat), s.host.prevBaud = some b → s.host.baudEnd ≤ s.ticks → ∃ t, exec .hostBaudRevert s = .next t ∧
    t.host.baud = b ∧ t.host.prevBaud = none ∧
    t.rxPath 0 = { s.rxPath 0 with frmDisc := satAdd 0xFFFF (s.rxPath 0).frmDisc 1 } ∧ s.Frame [.spoke, .host] t) ∧
  (∀ s : State, s.host.prevBaud = none ∨ s.ticks < s.host.baudEnd → exec .hostBaudRevert s = .next s)

/-- For a known attribute ATTR_READ answers its ID, its size and its bytes, all fields sampled at one instant, and then, but for a
quiet read of channel 31, its RC fields are 0, CAD_OVR's first record goes, and the indexes of CAD_TBL and DSP_TILE advance; no
other field changes. ATTR_READ_MULTI does the same for each ID in order. ATTR_INFO answers size and flags and changes nothing. An
unknown ID ends each with BAD_PARAM and a wrong length with BAD_LENGTH, and nothing is read. -/
def Obligations.AttrReads : Prop :=
  (∀ (s : State) (c : Cmd) (id : Nat), s.Ready c → c.payload = le 2 id → id < 65536 → knownAttr id = true →
    ∃ t, exec (.attrRead c) s = .next t ∧
    s.Answers c 0x08 stOk (le 2 id ++ le 2 (attrSize id) ++ le (attrSize id) (s.sample id)) t ∧
    (c.ch.val = 31 → s.dbg.loud = false → s.Frame [.spoke] t) ∧
    (c.ch.val ≠ 31 ∨ s.dbg.loud = true →
      t.cad = { s.cad with ovr := if id = 0x0103 then s.cad.ovr.drop 1 else s.cad.ovr } ∧
      s.Fields (if id = 0x0103 then [] else if id = 0x0107 then [(R.CAD_TBL_IDX_INDEX, (s.rd R.CAD_TBL_IDX_INDEX + 1) % 512)]
        else if id = 0x6008 then [(R.DSP_TILE_IDX_INDEX, (s.rd R.DSP_TILE_IDX_INDEX + 1) % 300)] else clearedByRead id) t ∧
      s.Frame [.regs, .cad, .spoke] t)) ∧
  (∀ (s : State) (c : Cmd), s.Ready c → 2 ≤ c.payload.length → c.payload.length ≤ 64 → c.payload.length % 2 = 0 →
    ((multiIds c.payload).all knownAttr) = true → ∃ u, u = s.readMany (c.ch.val == 31 && !s.dbg.loud) (multiIds c.payload) ∧
    ∃ t, exec (.attrReadMulti c) s = .next t ∧ s.Answers c 0x0A stOk u.1 t ∧
    t.regs = u.2.regs ∧ t.cad = u.2.cad ∧ s.Frame [.regs, .cad, .spoke] t) ∧
  (∀ (s : State) (quiet : Bool) (id : Nat) (ids : List Nat), ∃ u v, u = s.readOne quiet id ∧ v = u.2.readMany quiet ids ∧
    s.readMany quiet (id :: ids) = (le 2 id ++ le 2 (attrSize id) ++ u.1 ++ v.1, v.2)) ∧
  (∀ (s : State) (c : Cmd) (id : Nat), s.Ready c → c.payload = le 2 id → id < 65536 → knownAttr id = true →
    ∃ t, exec (.attrInfo c) s = .next t ∧ s.Answers c 0x0C stOk (le 2 id ++ le 2 (attrSize id) ++
      [(if accessMask id (fun a => decide (a = .rw ∨ a = .w1c ∨ a = .wo)) = 0 then 0 else 1) +
        (if accessMask id (fun a => decide (a = .rc ∨ a = .ra)) = 0 then 0 else 2)]) t ∧ s.Frame [.spoke] t) ∧
  (∀ (s : State) (c : Cmd) (id : Nat), s.Ready c → c.payload = le 2 id → id < 65536 → knownAttr id = false →
    s.Refuses (.attrRead c) c 0x08 stBadParam ∧ s.Refuses (.attrInfo c) c 0x0C stBadParam) ∧
  (∀ (s : State) (c : Cmd), s.Ready c → 2 ≤ c.payload.length → c.payload.length ≤ 64 → c.payload.length % 2 = 0 →
    ((multiIds c.payload).all knownAttr) = false → s.Refuses (.attrReadMulti c) c 0x0A stBadParam) ∧
  (∀ (s : State) (c : Cmd), s.Ready c → c.payload.length ≠ 2 →
    s.Refuses (.attrRead c) c 0x08 stBadLength ∧ s.Refuses (.attrInfo c) c 0x0C stBadLength ∧
    (c.payload.length % 2 = 1 → s.Refuses (.attrReadMulti c) c 0x0A stBadLength))

/-- For a known attribute and a value of its size that its owner takes, ATTR_WRITE sets the fields and does what the owner says, and
then answers OK: RW fields take their bits, ones written to W1C fields clear them, and no other field of the attribute is set.
ATTR_MODIFY writes the value whose masked bits come from the command and whose other RW bits stay, when the mask selects bits of RW
and WO fields only, else BAD_PARAM. An unknown ID is BAD_PARAM, judged before the size, a wrong size BAD_LENGTH, then the value
and the state are judged by the owner; bits [15:12] of a 12-bit container are refused with BAD_PARAM. -/
def Obligations.AttrWrites : Prop :=
  (∀ (s : State) (c : Cmd) (id v : Nat), s.Ready c → c.payload = le 2 id ++ le (attrSize id) v → id < 65536 → knownAttr id = true →
    v < 2 ^ (8 * attrSize id) → s.writeStatus c.ch id v = stOk →
    ∃ u, u = s.begin c 0x09 ∧ exec (.attrWrite c) s = .next ((u.2.writeAttr id v).ok u.1)) ∧
  (∀ (s : State) (id v : Nat) (a : AttrDesc), id ≠ 0x2401 → attrOf id = some a → (a.fields.map (·.lo)).Nodup →
    ∃ t, t = s.setFields id v ∧ s.Frame [.regs] t ∧
    (∀ d ∈ a.fields, t.rd (regKey id d.lo) =
      if d.access = .rw then bits v d.lo d.width
      else if d.access = .w1c then s.rd (regKey id d.lo) &&& ((2 ^ d.width - 1) ^^^ bits v d.lo d.width) else s.rd (regKey id d.lo)) ∧
    (∀ k, (∀ d ∈ a.fields, k ≠ regKey id d.lo) → t.rd k = s.rd k)) ∧
  (∀ (s : State) (id mask v i : Nat), (s.modified id mask v).testBit i =
    if mask.testBit i then v.testBit i else (s.sample id).testBit i && (accessMask id fun a => decide (a = .rw)).testBit i) ∧
  (∀ (s : State) (c : Cmd) (id mask v : Nat), s.Ready c → c.payload = le 2 id ++ le (attrSize id) mask ++ le (attrSize id) v → id < 65536 →
    mask < 2 ^ (8 * attrSize id) → v < 2 ^ (8 * attrSize id) → knownAttr id = true →
    mask &&& accessMask id (fun a => decide (a = .rw ∨ a = .wo)) = mask → s.writeStatus c.ch id (s.modified id mask v) = stOk →
    ∃ u, u = s.begin c 0x0B ∧ exec (.attrModify c) s = .next ((u.2.writeAttr id (s.modified id mask v)).ok u.1)) ∧
  (∀ (s : State) (c : Cmd) (id mask v : Nat), s.Ready c → c.payload = le 2 id ++ le (attrSize id) mask ++ le (attrSize id) v → id < 65536 →
    mask < 2 ^ (8 * attrSize id) → v < 2 ^ (8 * attrSize id) → knownAttr id = true →
    mask &&& accessMask id (fun a => decide (a = .rw ∨ a = .wo)) ≠ mask → s.Refuses (.attrModify c) c 0x0B stBadParam) ∧
  (∀ (s : State) (ch id v : Nat), s.writeStatus ch id v =
    if nibbleBad id v = true then stBadParam else if s.ownerCheck id v ≠ stOk then s.ownerCheck id v
    else if s.ownerPermits ch id v = true then stOk else stNotPermitted) ∧
  (∀ (s : State) (c : Cmd) (id v : Nat), s.Ready c → c.payload = le 2 id ++ le (attrSize id) v → id < 65536 → knownAttr id = true →
    v < 2 ^ (8 * attrSize id) → s.writeStatus c.ch id v ≠ stOk → s.Refuses (.attrWrite c) c 0x09 (s.writeStatus c.ch id v)) ∧
  (∀ (s : State) (c : Cmd) (id : Nat) (rest : Bytes), s.Ready c → c.payload = le 2 id ++ rest → id < 65536 → knownAttr id = false →
    s.Refuses (.attrWrite c) c 0x09 stBadParam ∧ s.Refuses (.attrModify c) c 0x0B stBadParam) ∧
  (∀ (s : State) (c : Cmd) (id : Nat) (rest : Bytes), s.Ready c → c.payload = le 2 id ++ rest → id < 65536 → knownAttr id = true →
    (rest.length ≠ attrSize id → s.Refuses (.attrWrite c) c 0x09 stBadLength) ∧
    (rest.length ≠ 2 * attrSize id → s.Refuses (.attrModify c) c 0x0B stBadLength))

/-- An event reaches exactly the channels of R84: it takes the channel's next sequence number, is posted while one of the 15 shared
entries is free (behind the report of the events lost before it, which takes a number of its own), and is counted as lost
otherwise. EVENTS_LOST posts that report once there is space. A rejection or ACCEPTED reply that finds the shared entries taken is
dropped and counted; a final reply takes its kept entry, or waits for one. The next command of a channel to start is one no earlier
command of which, not yet ended, belongs to one of its subsystems. -/
def Obligations.QueuesAndEvents : Prop :=
  (∀ (s : State) (code : Nat) (payload : Bytes), s.Raises code payload (s.event code payload) ∧ s.Frame [.spoke] (s.event code payload)) ∧
  (∀ (ch code : Nat) (payload : Bytes) (c : Channel), wants ch code c = true → c.lost = none → c.bind = none → outCount c .shared < 15 →
    raiseOn ch code payload c = { c with
      seq := (c.seq + 1) % 65536, outq := c.outq ++ [⟨.shared, 127, replyOpcode code, le 2 c.seq ++ payload, []⟩] }) ∧
  (∀ (ch code : Nat) (payload : Bytes) (c : Channel), wants ch code c = true → outCount c .shared = 15 →
    raiseOn ch code payload c = { c with
      seq := (c.seq + 1) % 65536, lostCnt := satAdd 0xFFFF c.lostCnt 1
      lost := match c.lost with
        | none => some (1, c.seq, c.seq)
        | some (n, first, _) => some (satAdd 0xFFFF n 1, first, c.seq) }) ∧
  (∀ (ch code : Nat) (payload : Bytes) (c : Channel), wants ch code c = false → raiseOn ch code payload c = c) ∧
  (∀ (s : State) (ch : Fin 32) (n first last : Nat), (s.chan ch).lost = some (n, first, last) → (s.chan ch).isOpen = true →
    (s.chan ch).bind = none → outCount (s.chan ch) .shared < 15 → outCount (s.chan ch) .lost = 0 →
    ∃ t, exec (.eventsLost ch) s = .next t ∧
    t.chan ch = { s.chan ch with
      seq := ((s.chan ch).seq + 1) % 65536, lost := none
      outq := (s.chan ch).outq ++ [⟨.lost, 127, 0x81, le 2 (s.chan ch).seq ++ le 2 n ++ le 2 first ++ le 2 last, []⟩] } ∧
    (∀ k, k ≠ ch.val → t.chan k = s.chan k) ∧ s.Frame [.spoke] t) ∧
  (∀ (s : State) (ch : Fin 32), (s.chan ch).lost = none ∨ (s.chan ch).isOpen = false ∨ 15 ≤ outCount (s.chan ch) .shared ∨
    outCount (s.chan ch) .lost ≠ 0 →
    ∃ t, exec (.eventsLost ch) s = .next t ∧ (∀ k, t.chan k = s.chan k) ∧ s.Frame [.spoke] t) ∧
  (∀ (s : State) (ch tag op status : Nat), ∃ t, t = s.reject ch tag op status ∧ (t.chan ch).uses = (s.chan ch).uses ∧
    (15 ≤ outCount (s.chan ch) .shared → t.chan ch = { s.chan ch with drops := satAdd 0xFFFF (s.chan ch).drops 1 }) ∧
    (outCount (s.chan ch) .shared < 15 → status = stAuthFail ∨ (s.chan ch).bind = none →
      t.chan ch = { s.chan ch with outq := (s.chan ch).outq ++ [⟨.shared, tag, replyOpcode op, le 1 status, []⟩] })) ∧
  (∀ (s : State) (r : Ref) (status : Nat) (extra : Bytes), (s.chan r.ch).epoch = r.epoch → s.touchedBy r = false →
    (s.chan r.ch).waits = [] → (s.chan r.ch).bind = none → ∃ t, t = s.finish r status extra ∧ s.Frame [.spoke] t ∧
    t.chan r.ch = (if outCount (s.chan r.ch) .final < 16 then { s.chan r.ch with
          uses := (s.chan r.ch).uses.filter fun u => u.tag != r.tag
          outq := (s.chan r.ch).outq ++ [⟨.final, r.tag, replyOpcode r.op, le 1 status ++ extra, []⟩] }
        else { s.chan r.ch with waits := [⟨.final, r.tag, replyOpcode r.op, le 1 status ++ extra, []⟩] })) ∧
  (∀ (s : State) (l : List Use) (u : Use), s.startable [] l = some u → ∃ n ∈ List.range l.length, l[n]? = some u ∧ u.started = false ∧
    (∀ b ∈ l.take n, ∀ x ∈ subsystems b.op b.payload, x ∉ subsystems u.op u.payload) ∧
    (∀ v ∈ s.flt.recov, unitTouches v.unit u.op u.payload = false))

/-- Every transaction on an SPI interface out of reset sends the preamble of FLAGS, RX_FREE and TX_AVAIL as they stand at its start,
and WOVF, WCUT and DISC are cleared by it. A WRITE of exactly LEN bytes that fit RX_FREE is committed and the frames in it
separated; one whose LEN exceeds RX_FREE is discarded and sets WOVF, one of another length is discarded and sets WCUT. A READ sends
up to LEN bytes of the transmit FIFO, those leave it, and zeros follow. FLUSH drops the bytes of an incomplete frame and keeps the
complete ones. In reset and in UART mode HST_MISO carries nothing (here: no bytes) and nothing else changes. -/
def Obligations.SpiTransactions : Prop :=
  (∀ s : State, s.spiPreamble.1 = [0xC5] ++ le 1 s.spiFlags ++ le 2 s.rxFree ++ le 2 s.host.tx.length ∧
    s.spiFlags = (if s.ready then 1 else 0) + (if s.pktWhole then 2 else 0) + (if s.host.wovf then 4 else 0) + (if s.host.wcut then 8 else 0) +
      (if s.host.disc then 16 else 0)) ∧
  (∀ s : State, s.spiOn = true → exec .spiStatus s =
    .next { s with host := { s.host with miso := s.spiPreamble.1, wovf := false, wcut := false, disc := false } }) ∧
  (∀ (s : State) (len : Nat) (data : Bytes), s.spiOn = true → len ≤ s.rxFree → data.length = len → len < 65536 →
    ∃ t, exec (.spiWrite len data) s = .next t ∧
    t.rxPath 0 = separate ((s.rxPath 0).part.length + len) { s.rxPath 0 with part := (s.rxPath 0).part ++ data } ∧
    t.host.miso = s.spiPreamble.1 ++ List.replicate len 0 ∧ t.host.wovf = false ∧ t.host.wcut = false ∧ t.host.tx = s.host.tx ∧
    (∀ ch, t.chan ch = s.chan ch) ∧ s.Frame [.spoke, .host] t) ∧
  (∀ (s : State) (len : Nat) (data : Bytes), s.spiOn = true → len < 65536 → s.rxFree < len ∨ data.length ≠ len →
    exec (.spiWrite len data) s = .next { s with host := { s.host with
      miso := s.spiPreamble.1 ++ List.replicate data.length 0, disc := false
      wovf := decide (s.rxFree < len), wcut := decide (len ≤ s.rxFree) } }) ∧
  (∀ (s : State) (len clocked n : Nat), s.spiOn = true → len < 65536 → n = min (min len clocked) s.host.tx.length →
    ∃ t, exec (.spiRead len clocked) s = .next t ∧ t.host.miso = s.spiPreamble.1 ++ s.host.tx.take n ++ List.replicate (clocked - n) 0 ∧
    t.host.tx = s.host.tx.drop n ∧ t.host.wovf = false ∧ t.host.wcut = false ∧ t.host.disc = false ∧ s.Frame [.host] t) ∧
  (∀ s : State, s.spiOn = true → ∃ t, exec .spiFlush s = .next t ∧ t.rxPath 0 = { s.rxPath 0 with part := [] } ∧
    t.host.miso = s.spiPreamble.1 ∧ t.host.wovf = false ∧ t.host.wcut = false ∧ t.host.disc = false ∧ s.Frame [.spoke, .host] t) ∧
  (∀ (s : State) (len : Nat) (data : Bytes), s.spiOn = false → exec .spiStatus s = .next { s with host.miso := [] } ∧
    exec (.spiWrite len data) s = .next { s with host.miso := [] } ∧ exec (.spiRead len len) s = .next { s with host.miso := [] } ∧
    exec .spiFlush s = .next { s with host.miso := [] })

/-- OK opens the closed, available console at its menu and tells CONSOLE; a closed console takes no other key. The menu offers item 1
while a block is staged, 2 while something is latched, 3 while a pairing slot is empty, and 4; UP and DOWN move, BACK closes, OK
takes the item. In item 1 a digit joins the value, and OK on eight digits sends PAD_COMMIT with it on channel 24. The console
closes at its menu, when it is no longer available, and at the 600th stage without a key: the menu is reset, a pending pairing
START is rejected, DSP_FILL and DSP_PRESENT follow on channel 24, and CONSOLE tells STATE 0. Otherwise these rows change nothing. -/
def Obligations.InstallerConsole : Prop :=
  (∀ s : State, s.console.isOpen = false → s.consoleReady = true → ∃ u, u = { s with console := { s.console with
      isOpen := true, mode := .menu, sel := 0, digits := [], idle := 0, awaits := none, draw := 61 } } ∧
    exec .consoleOpen s = .next (u.event 0x02 [1, 0]) ∧ exec (.consoleKey 0x0D) s = exec .consoleOpen s) ∧
  (∀ (s : State) (k : Byte), s.console.isOpen = false → k ≠ 0x0D ∨ s.consoleReady = false → exec (.consoleKey k) s = .next s) ∧
  (∀ s : State, s.console.isOpen = true ∨ s.consoleReady = false → exec .consoleOpen s = .next s) ∧
  (∀ s : State, 4 ∈ s.consoleItems ∧ (1 ∈ s.consoleItems ↔ s.rd R.PAD_STAT_STAGED = 1) ∧ (2 ∈ s.consoleItems ↔ s.latched ≠ []) ∧
    (3 ∈ s.consoleItems ↔ ∃ n ∈ List.range 16, 8 ≤ n ∧ s.rd (R.SEC_SLOT_KIND n) = 0)) ∧
  (∀ (s : State) (n : Nat), s.console.isOpen = true → s.console.mode = .menu → n = min s.console.sel (s.consoleItems.length - 1) →
    exec (.consoleKey 0x11) s = .next { s with console := { s.console with idle := 0, sel := n - 1, draw := 61 } } ∧
    exec (.consoleKey 0x12) s =
      .next { s with console := { s.console with idle := 0, sel := min (n + 1) (s.consoleItems.length - 1), draw := 61 } } ∧
    exec (.consoleKey 0x1B) s = .next ({ s with console.idle := 0 }.consoleCloses) ∧
    (s.consoleItems[n]? ≠ some 3 → exec (.consoleKey 0x0D) s = .next { s with console := { s.console with
      idle := 0, sel := 0, digits := [], mode := .item (s.consoleItems.getD n 4) 0, draw := 61 } })) ∧
  (∀ (s : State) (page : Nat) (k : Byte) (x : Nat), s.console.isOpen = true → s.console.mode = .item 1 page →
    s.rd R.PAD_STAGED_FIRST_BAD = 0xFF → s.console.digits.length < 8 → keyDigit k.toNat = some x → k ≠ 0x0D → k ≠ 0x08 → k ≠ 0x1B →
    exec (.consoleKey k) s = .next { s with console := { s.console with idle := 0, digits := s.console.digits ++ [x], draw := 61 } }) ∧
  (∀ (s : State) (page : Nat), s.console.isOpen = true → s.console.mode = .item 1 page → s.rd R.PAD_STAGED_FIRST_BAD = 0xFF →
    s.console.digits.length = 8 → (s.chan 24).uses.length < 16 → ∃ t, exec (.consoleKey 0x0D) s = .next t ∧
    (t.chan 24).uses = (s.chan 24).uses ++
      [⟨s.console.tag, 0x41, le 4 (s.console.digits.foldl (fun n x => 16 * n + x) 0), false, false⟩] ∧
    t.console = { s.console with
      idle := 0, tag := (s.console.tag + 1) % 127, awaits := some s.console.tag, mode := .waiting 1 0, draw := 61 } ∧
    s.Frame [.spoke, .console] t) ∧
  (∀ (s : State) (l : Bytes), s.console.isOpen = true → l = le 1 (s.rd R.DSP_CFG_DIS_LEVEL) → ∃ u, u = { s with console := { s.console with
      isOpen := false, mode := .menu, sel := 0, digits := [], idle := 0, awaits := none, draw := 0 } } ∧
    s.consoleCloses = ((((if s.sec.pair.isSome then u.pairAnswer false else u).consoleSend 0x62
      ([0, 0, 0, 0, 0x40, 1, 0xF0, 0] ++ l ++ l ++ l)).consoleSend 0x63 []).event 0x02 ([0] ++ le 1 s.console.mode.at_))) ∧
  (∀ s : State, s.console.isOpen = true → s.console.mode = .menu ∨ s.consoleReady = false → exec .consoleClose s = .next s.consoleCloses) ∧
  (∀ s : State, s.console.isOpen = false ∨ s.console.mode ≠ .menu ∧ s.consoleReady = true → exec .consoleClose s = .next s) ∧
  (∀ s : State, s.console.isOpen = true → 599 ≤ s.console.idle → exec .consoleIdleTimeout s = .next s.consoleCloses) ∧
  (∀ s : State, s.console.isOpen = false ∨ s.console.idle < 599 → exec .consoleIdleTimeout s = .next s)

/-! ### Zones (04_zones_loops.md) -/

/-- Every entry takes the zone's next SEQ and the stage's low 16 bits; with fewer than 31 unread entries it joins the queue and
ZONE_NOTE tells zone and entry, otherwise it counts as lost. SENSOR_LOST after 10 consecutive invalid runs: SENSOR_LOST reads 1, the
demand is FAIL_DUTY, the entry is added and a ZONE fault queued. UNOCCUPIED after OCC_DELAY stages without evidence: OCC reads 0.
WINDOW_CLOSE, WIN_MAX stages after the opening: WINDOW reads 0 and detection is muted for WIN_MAX stages. HOLD_END of a timed hold
whose HOLD_LEFT is 0: the hold's fields clear. GAP, once a read has freed an entry: one entry that counts the lost ones. Where its
condition does not hold, a row changes nothing. -/
def Obligations.ZoneEvents : Prop :=
  (∀ (s : State) (n kind data value e : Nat),
    e = (s.zone n).seq + 2 ^ 16 * kind + 2 ^ 24 * data + 2 ^ 32 * value + 2 ^ 48 * (s.stage % 65536) →
    ((s.zone n).entries.length < 31 → ∃ t, t = s.zonEntry n kind data value ∧
      t.zone n = { s.zone n with seq := ((s.zone n).seq + 1) % 65536, entries := (s.zone n).entries ++ [e] } ∧
      s.Raises 0x10 (le 1 n ++ le 8 e) t ∧ (∀ k, k ≠ n → t.zone k = s.zone k) ∧ s.Frame [.spoke, .zones] t) ∧
    (31 ≤ (s.zone n).entries.length → ∃ t, t = s.zonEntry n kind data value ∧
      t.zone n = { s.zone n with seq := ((s.zone n).seq + 1) % 65536, lost := satAdd 0xFFF (s.zone n).lost 1 } ∧
      (∀ k, k ≠ n → t.zone k = s.zone k) ∧ s.Frame [.zones] t)) ∧
  (∀ (s : State) (n : Fin 48), 10 ≤ (s.zone n).bad → s.rd (R.ZON_STAT_SENSOR_LOST n) ≠ 1 →
    ∃ u, u = s.wrs [(R.ZON_STAT_SENSOR_LOST n, 1), (R.ZON_STAT_DUTY n, s.rd (R.ZON_LOOP_FAIL_DUTY n))] ∧
    exec (.sensorLost n) s = .next ((u.zonEntry n 0x06 (s.rd (R.ZON_CFG_SRC_KIND n)) (s.rd (R.ZON_LOOP_FAIL_DUTY n))).fault
      clZone 0x10 0x06 n (s.rd (R.ZON_LOOP_FAIL_DUTY n)))) ∧
  (∀ (s : State) (n : Fin 48), (s.zone n).bad < 10 ∨ s.rd (R.ZON_STAT_SENSOR_LOST n) = 1 → exec (.sensorLost n) s = .next s) ∧
  (∀ (s : State) (n : Fin 48) (at_ : Nat), (s.zone n).lastEv = some at_ → s.rd (R.ZON_STAT_OCC n) = 1 →
    at_ + s.rd (R.ZON_CFG_OCC_DELAY n) ≤ s.stage → exec (.unoccupied n) s = .next ((s.wr (R.ZON_STAT_OCC n) 0).zonEntry n 0x05 0 0)) ∧
  (∀ (s : State) (n : Fin 48) (at_ : Nat), (s.zone n).lastEv = none ∨ (s.zone n).lastEv = some at_ ∧ (s.rd (R.ZON_STAT_OCC n) ≠ 1 ∨
    s.stage < at_ + s.rd (R.ZON_CFG_OCC_DELAY n)) → exec (.unoccupied n) s = .next s) ∧
  (∀ (s : State) (n : Fin 48), s.rd (R.ZON_STAT_WINDOW n) = 1 → (s.zone n).winAt + s.rd (R.ZON_CFG_WIN_MAX n) ≤ s.stage →
    ∃ u, u = (s.wr (R.ZON_STAT_WINDOW n) 0).modZone n (fun z => { z with winMute := some (s.stage + s.rd (R.ZON_CFG_WIN_MAX n)) }) ∧
    exec (.windowClose n) s = .next (u.zonEntry n 0x03 0 (s.rd (R.ZON_STAT_TEMP n)))) ∧
  (∀ (s : State) (n : Fin 48), s.rd (R.ZON_STAT_WINDOW n) ≠ 1 ∨ s.stage < (s.zone n).winAt + s.rd (R.ZON_CFG_WIN_MAX n) →
    exec (.windowClose n) s = .next s) ∧
  (∀ (s : State) (n : Fin 48), s.rd (R.ZON_INPUT_HOLD_MODE n) = 1 → s.rd (R.ZON_INPUT_HOLD_LEFT n) = 0 → s.rd (R.ZON_STAT_HOLD n) = 1 →
    ∃ u, u = (s.wrs [(R.ZON_STAT_HOLD n, 0), (R.ZON_INPUT_HOLD_MODE n, 0), (R.ZON_INPUT_HOLD_LEFT n, 0),
      (R.ZON_INPUT_HOLD_SP n, 0)]).modZone n (fun z => { z with holdPt := none }) ∧
    exec (.holdEnd n) s = .next (u.zonEntry n 0x09 0 (s.rd (R.ZON_INPUT_HOLD_SP n)))) ∧
  (∀ (s : State) (n : Fin 48), s.rd (R.ZON_INPUT_HOLD_MODE n) ≠ 1 ∨ s.rd (R.ZON_INPUT_HOLD_LEFT n) ≠ 0 ∨ s.rd (R.ZON_STAT_HOLD n) ≠ 1 →
    exec (.holdEnd n) s = .next s) ∧
  (∀ (s : State) (n : Fin 48) (e : Nat), (s.zone n).gapDue = true → (s.zone n).entries.length < 32 →
    e = (s.zone n).seq + 2 ^ 16 * 0x0B + 2 ^ 32 * (s.zone n).lost + 2 ^ 48 * (s.stage % 65536) → ∃ t, exec (.gap n) s = .next t ∧
    t.zone n = { s.zone n with
      seq := ((s.zone n).seq + 1) % 65536, entries := (s.zone n).entries ++ [e], lost := 0, gapDue := false } ∧
    s.Raises 0x10 (le 1 n ++ le 8 e) t ∧ (∀ k, k ≠ n.val → t.zone k = s.zone k) ∧ s.Frame [.spoke, .zones] t) ∧
  (∀ (s : State) (n : Fin 48), (s.zone n).gapDue = false ∨ 32 ≤ (s.zone n).entries.length → exec (.gap n) s = .next s)

/-- Outside limp mode and on an enabled zone, with allowed values: ZON_HOLD records its hold, ZON_WINDOW its state, ZON_PRESENCE the
evidence, ZON_LOOP_RESET the reset, ZON_REMOTE_T the values it carries with the stage of delivery, all for the zone's next run, each
with OK. In limp mode, and where the zone may not take the command, NOT_PERMITTED; a zone above 47 or a refused value BAD_PARAM.
ZON_EVT_READ removes up to MAX entries and returns them, and makes GAP due when entries were lost. A ZON_CLOCK write with
allowed values sets the time and VALID; a ZON_ENABLE write without zones to disable sets the bits and the zones it adds are
occupied; refused values change nothing. -/
def Obligations.ZoneOpcodes : Prop :=
  (∀ (s : State) (c : Cmd) (n mode sp dur : Nat), s.Ready c → c.payload = le 1 n ++ le 1 mode ++ le 2 sp ++ le 4 dur → n < 48 →
    s.limp = false → s.zoneOn n = true →
    mode = 0 ∧ dur = 0 ∧ sp < 4096 ∨ s.rd (R.ZON_CFG_FROST n) ≤ sp ∧ sp ≤ s.rd (R.ZON_CFG_MAX n) ∧ sp < 4096 ∧
      (mode = 1 ∧ 1 ≤ dur ∧ dur ≤ 31536000 ∨ mode = 2 ∧ dur = 0 ∧ s.rd R.ZON_CLOCK_VALID = 1 ∨ mode = 3 ∧ dur = 0) →
    ∃ t, exec (.zonHold c) s = .next t ∧ s.Answers c 0x10 stOk [] t ∧
    t.zone n = { s.zone n with holdCmd := some (mode, sp, dur) } ∧ (∀ k, k ≠ n → t.zone k = s.zone k) ∧ s.Frame [.spoke, .zones] t) ∧
  (∀ (s : State) (c : Cmd) (n v : Nat), s.Ready c → c.payload = le 1 n ++ le 1 v → n < 48 → v < 2 → s.limp = false → s.zoneOn n = true →
    ∃ t, exec (.zonWindow c) s = .next t ∧ s.Answers c 0x14 stOk [] t ∧
    t.zone n = { s.zone n with winCmd := some (v == 1) } ∧ (∀ k, k ≠ n → t.zone k = s.zone k) ∧ s.Frame [.spoke, .zones] t) ∧
  (∀ (s : State) (c : Cmd) (n : Nat), s.Ready c → c.payload = le 1 n → n < 48 → s.limp = false → s.zoneOn n = true →
    ∃ t, exec (.zonPresence c) s = .next t ∧ s.Answers c 0x15 stOk [] t ∧
    t.zone n = { s.zone n with presence := true } ∧ (∀ k, k ≠ n → t.zone k = s.zone k) ∧ s.Frame [.spoke, .zones] t) ∧
  (∀ (s : State) (c : Cmd) (n : Nat), s.Ready c → c.payload = le 1 n → n < 48 → s.limp = false →
    ∃ t, exec (.zonLoopReset c) s = .next t ∧ s.Answers c 0x18 stOk [] t ∧
    t.zone n = { s.zone n with iReset := true } ∧ (∀ k, k ≠ n → t.zone k = s.zone k) ∧ s.Frame [.spoke, .zones] t) ∧
  (∀ (s : State) (c : Cmd) (n f v h : Nat), s.Ready c → c.payload = le 1 n ++ le 1 f ++ le 2 v ++ le 2 h → n < 48 → 1 ≤ f → f ≤ 3 →
    v < 65536 → h < 65536 → (f % 2 = 1 → v < 4096) → (2 ≤ f → h ≤ 0xFA0) → s.limp = false → (f % 2 = 1 → s.rd (R.ZON_CFG_SRC_KIND n) = 3) → (2 ≤ f → s.rd (R.ZON_CFG_HUM_KIND n) = 3) →
    ∃ t, exec (.zonRemoteT c) s = .next t ∧ s.Answers c 0x13 stOk [] t ∧
    t.zone n = { s.zone n with
      remT := if f % 2 = 1 then some (v, s.stage) else (s.zone n).remT
      remH := if 2 ≤ f then some (h, s.stage) else (s.zone n).remH } ∧
    (∀ k, k ≠ n → t.zone k = s.zone k) ∧ s.Frame [.spoke, .zones] t) ∧
  (∀ (s : State) (c : Cmd) (n v : Nat), s.Ready c → n < 48 → v < 2 → s.limp = true ∨ s.zoneOn n = false →
    (c.payload = le 1 n ++ le 1 v → s.Refuses (.zonWindow c) c 0x14 stNotPermitted) ∧
    (c.payload = le 1 n → s.Refuses (.zonPresence c) c 0x15 stNotPermitted) ∧
    (c.payload = le 1 n → s.limp = true → s.Refuses (.zonLoopReset c) c 0x18 stNotPermitted)) ∧
  (∀ (s : State) (c : Cmd) (n : Nat) (rest : Bytes), s.Ready c → c.payload = le 1 n ++ rest → 48 ≤ n → n < 256 →
    (rest.length = 7 → s.Refuses (.zonHold c) c 0x10 stBadParam) ∧ (rest.length = 5 → s.Refuses (.zonRemoteT c) c 0x13 stBadParam) ∧
    (rest.length = 1 → s.Refuses (.zonWindow c) c 0x14 stBadParam ∧ s.Refuses (.zonEvtRead c) c 0x17 stBadParam ∧
      s.Refuses (.zonSchedRead c) c 0x12 stBadParam) ∧
    (rest.length = 0 → s.Refuses (.zonPresence c) c 0x15 stBadParam ∧ s.Refuses (.zonLoopReset c) c 0x18 stBadParam)) ∧
  (∀ (s : State) (c : Cmd) (n m : Nat) (l : List Nat), s.Ready c → c.payload = le 1 n ++ le 1 m → n < 48 → 1 ≤ m → m ≤ 16 →
    l = (s.zone n).entries.take m → ∃ t, exec (.zonEvtRead c) s = .next t ∧
    s.Answers c 0x17 stOk (le 1 l.length ++ l.flatMap (le 8)) t ∧
    t.zone n = { s.zone n with
      entries := (s.zone n).entries.drop m, gapDue := (s.zone n).gapDue || (decide (0 < (s.zone n).lost) && !l.isEmpty) } ∧
    (∀ k, k ≠ n → t.zone k = s.zone k) ∧ s.Frame [.spoke, .zones] t) ∧
  (∀ (s : State) (v : BitVec 64), bits v.toNat 0 6 ≤ 59 → bits v.toNat 6 11 ≤ 1439 → bits v.toNat 17 3 ≤ 6 →
    ∃ t, exec (.zonClockWrite v) s = .next t ∧ s.Fields [(R.ZON_CLOCK_VALID, 1), (R.ZON_CLOCK_DAY, bits v.toNat 17 3),
      (R.ZON_CLOCK_MINUTE, bits v.toNat 6 11), (R.ZON_CLOCK_SECOND, bits v.toNat 0 6)] t ∧ s.Frame [.regs] t) ∧
  (∀ (s : State) (v : BitVec 64), 59 < bits v.toNat 0 6 ∨ 1439 < bits v.toNat 6 11 ∨ bits v.toNat 17 3 = 7 →
    exec (.zonClockWrite v) s = .next s) ∧
  (∀ (s : State) (v : BitVec 64), s.zonCheck 0x1000 v.toNat = stOk → (∀ n < 48, bit (s.rd R.ZON_ENABLE_EN) n = true → bit v.toNat n = true) →
    ∃ t, exec (.zonEnableWrite v) s = .next t ∧ t.rd R.ZON_ENABLE_EN = bits v.toNat 0 48 ∧
    (∀ n < 48, t.rd (R.ZON_STAT_OCC n) = if bit v.toNat n = true ∧ bit (s.rd R.ZON_ENABLE_EN) n = false then 1 else s.rd (R.ZON_STAT_OCC n)) ∧
    s.Frame [.regs] t) ∧
  (∀ (s : State) (v : BitVec 64), s.zonCheck 0x1000 v.toNat ≠ stOk → exec (.zonEnableWrite v) s = .next s) ∧
  (∀ (s : State) (v n : Nat), n < 48 → bit v n = true → s.zoneOn n = false →
    s.rd (R.ZON_CFG_SRC_KIND n) = 0 ∨ s.rd (R.ZON_CFG_OUT_KIND n) = 0 → s.zonCheck 0x1000 v = stBadParam)

/-- A ZON_SCHED_WRITE that is taken answers ACCEPTED, and for a zone with no other write waiting one request in queue 249 stands for
every named day, in order of the days. When the page of a day has been committed, ZON_SCHED_DAY_STORED ends that write; with no such
end nothing changes. ZON_SCHED_READ returns the day program as stored. ZON_SAVE asks for one page per named object with the values
of that moment, and with no bit set is OK at once. In limp mode the two writes end with NOT_PERMITTED; wrong values with BAD_PARAM. -/
def Obligations.ZoneStores : Prop :=
  (∀ (s : State) (c : Cmd) (n days : Nat) (pts : List SwPoint), s.Ready c →
    c.payload = le 1 n ++ le 1 days ++ le 1 pts.length ++ [0] ++ pts.flatMap (fun p => le 2 p.minute ++ le 2 p.sp) →
    n < 48 → 1 ≤ days → days ≤ 127 → pts.length ≤ 12 → ascending (pts.map (·.minute)) = true →
    (∀ p ∈ pts, p.minute ≤ 1439 ∧ p.sp ≤ 4095) → s.limp = false → s.gatesClosed = false →
    (∀ q ∈ s.hay.scheds, q.zone ≠ n ∧ q.id ≠ s.hay.nextId) →
    ∃ t, exec (.zonSchedWrite c) s = .next t ∧ s.Accepts c 0x11 t ∧
    t.hay.scheds = s.hay.scheds ++ [⟨s.hay.nextId, s.refOf c 0x11, n, days, 0, pts, false⟩] ∧
    t.hay.reqs = s.hay.reqs ++ (((List.range 7).filter fun d => bit days d).mapIdx fun i d =>
      (⟨s.hay.nextId + 1 + i, 249, .sched s.hay.nextId d, s.ticks, false⟩ : HayReq)) ∧ s.Frame [.spoke, .hay] t) ∧
  (∀ (s : State) (c : Cmd) (n days : Nat) (pts : List SwPoint), s.Ready c →
    c.payload = le 1 n ++ le 1 days ++ le 1 pts.length ++ [0] ++ pts.flatMap (fun p => le 2 p.minute ++ le 2 p.sp) →
    n < 48 → 1 ≤ days → days ≤ 127 → pts.length ≤ 12 → ascending (pts.map (·.minute)) = true →
    (∀ p ∈ pts, p.minute ≤ 1439 ∧ p.sp ≤ 4095) → s.limp = false →
    ∃ u, u = ((s.begin c 0x11).2.accepted (s.refOf c 0x11)).schedSupersede n days ∧
    ∃ v, v = { u with hay.nextId := s.hay.nextId + 1, hay.scheds := u.hay.scheds ++ [(⟨s.hay.nextId, s.refOf c 0x11, n, days, 0, pts, false⟩ : SchedReq)] } ∧
    exec (.zonSchedWrite c) s = .next (v.each ((List.range 7).filter fun d => bit days d) fun v d =>
      if (v.schedOf s.hay.nextId).isSome then v.hayAsk 249 (.sched s.hay.nextId d) else v)) ∧
  (∀ (s : State) (c : Cmd) (n days : Nat) (pts : List SwPoint), s.Ready c →
    c.payload = le 1 n ++ le 1 days ++ le 1 pts.length ++ [0] ++ pts.flatMap (fun p => le 2 p.minute ++ le 2 p.sp) →
    n < 48 → 1 ≤ days → days ≤ 127 → pts.length ≤ 12 → ascending (pts.map (·.minute)) = true →
    (∀ p ∈ pts, p.minute ≤ 1439 ∧ p.sp ≤ 4095) → s.limp = true → s.Refuses (.zonSchedWrite c) c 0x11 stNotPermitted) ∧
  (∀ (s : State) (n : Fin 48) (d : Fin 7), s.dayEnded n d = true → exec (.zonSchedDayStored n d) s = .next s.hayWriteEnd) ∧
  (∀ (s : State) (n : Fin 48) (d : Fin 7), s.dayEnded n d = false → exec (.zonSchedDayStored n d) s = .next s) ∧
  (∀ (s : State) (c : Cmd) (n d : Nat) (pts : List SwPoint), s.Ready c → c.payload = le 1 n ++ le 1 d → n < 48 → d < 7 →
    pts = (mget? (s.zone n).newDays d).getD (mget [] (s.zone n).days d) → ∃ t, exec (.zonSchedRead c) s = .next t ∧
    s.Answers c 0x12 stOk (le 1 pts.length ++ pts.flatMap fun p => le 2 p.minute ++ le 2 p.sp) t ∧ s.Frame [.spoke] t) ∧
  (∀ (s : State) (c : Cmd), s.Ready c → c.payload = [0, 0, 0, 0, 0, 0, 0, 0] → s.limp = false → ∃ t, exec (.zonSave c) s = .next t ∧
    s.Answers c 0x16 stOk [] t ∧ s.Frame [.spoke] t) ∧
  (∀ (s : State) (c : Cmd) (m : Nat), s.Ready c → c.payload = le 8 m → 0 < m → m < 2 ^ 49 → s.limp = false → s.gatesClosed = false →
    ∃ t, exec (.zonSave c) s = .next t ∧ s.Accepts c 0x16 t ∧
    t.hay = { s.hay with
      nextId := s.hay.nextId + 1
      reqs := s.hay.reqs ++ [⟨s.hay.nextId, 249, .save (some (s.refOf c 0x16)) []
        (((List.range 48).filter fun n => bit m n).map (fun n => (0x20 + n, s.zoneImage n)) ++
          if bit m 48 then [(0x10, s.attrImage [0x1003])] else []), s.ticks, false⟩] } ∧ s.Frame [.spoke, .hay] t) ∧
  (∀ (s : State) (c : Cmd) (m : Nat), s.Ready c → c.payload = le 8 m → m < 2 ^ 64 →
    (2 ^ 49 ≤ m → s.Refuses (.zonSave c) c 0x16 stBadParam) ∧
    (m < 2 ^ 49 → s.limp = true → s.Refuses (.zonSave c) c 0x16 stNotPermitted))

/-- In units of 1/65,536 duty code, with P = 256·KP·e and I' = I + KI·e: when P + I' exceeds 4,095·65,536 and e > 0, or is below 0
and e < 0, I stays and LIMITED is set; otherwise I is I' clamped to 0 .. 4,095·65,536 and LIMITED is clear. The demand is (P + I) /
65,536 to the nearest integer, halves upward, clamped to 0 .. 4,095. A run with T_VALID 1 and SENSOR_LOST 0 takes this step with
e = EFF − TEMP and writes INTEG, LIMITED and DUTY; a run without changes nothing. The worked case gives demand 1,889. -/
def Obligations.LoopStep : Prop :=
  (piStep 22 1024 2048 (1800 * 65536) = (1800 * 65536 + 45056, false, 1889)) ∧
  (∀ (e : Int) (kp ki : Nat) (i : Int), ∃ lim, lim = (4095 * 65536 : Int) ∧
    ∃ b, b = decide (lim < kp * e * 256 + (i + ki * e) ∧ 0 < e ∨ kp * e * 256 + (i + ki * e) < 0 ∧ e < 0) ∧
    ∃ i2, i2 = (if b = true then i else if i + ki * e < 0 then 0 else if lim < i + ki * e then lim else i + ki * e) ∧
    ∃ d, d = (piStep e kp ki i).2.2 ∧ piStep e kp ki i = (i2, b, d) ∧ d ≤ 4095 ∧
      (0 < d → (d : Int) * 65536 ≤ kp * e * 256 + i2 + 32768) ∧ (d < 4095 → kp * e * 256 + i2 + 32768 < ((d : Int) + 1) * 65536)) ∧
  (∀ (s : State) (n : Nat) (i : Int) (b : Bool) (d : Nat), (s.zone n).iReset = false → s.rd (R.ZON_STAT_T_VALID n) = 1 →
    s.rd (R.ZON_STAT_SENSOR_LOST n) ≠ 1 →
    piStep ((s.rd (R.ZON_SETPT_EFF n) : Int) - s.rd (R.ZON_STAT_TEMP n)) (s.rd (R.ZON_LOOP_KP n)) (s.rd (R.ZON_LOOP_KI n))
      (s.rd (R.ZON_STAT_INTEG n)) = (i, b, d) →
    s.Fields [(R.ZON_STAT_DUTY n, d), (R.ZON_STAT_LIMITED n, b2n b), (R.ZON_STAT_INTEG n, i.toNat)] (s.zonPi n) ∧ s.Frame [.regs] (s.zonPi n)) ∧
  (∀ (s : State) (n : Nat), (s.zone n).iReset = false → s.rd (R.ZON_STAT_T_VALID n) ≠ 1 ∨ s.rd (R.ZON_STAT_SENSOR_LOST n) = 1 →
    s.zonPi n = s)

/-! ### The PWM engine (05_pwm_engine.md) -/

/-- An output is decided by the first of: a Kickstand force or a held configuration error, a latch, a cut, FULL, the waveform of Table
5-3 (high from ON to OFF, through the boundary when ON > OFF, low when they are equal). A latch-off sets LATCHED, its reason and the
bit of PWM_LATCH and tells PWM_NOTE; a latched channel stays as it is. CUT_REQUEST on a pulsing channel of an enabled group sets
CUT_NOW and counts the period, and the eighth in a row latches off with reason 2; it does nothing to a channel that is cut or
latched, has no pulse, or has no comparator. KILL_REQUEST latches off with reason 1; two kills of one bridge in one period or within
1 us are a bridge short. GFLT_ASSERT sets FLT_IN and FLT_SEEN, and cuts or latches the group by FLT_MODE; GFLT_RELEASE clears FLT_IN.
PWM_CLR_LATCH releases the named channels, and names of channels 48 to 79 are NOT_PERMITTED. -/
def Obligations.PwmLatches : Prop :=
  (∀ (s : State) (n : Nat), s.pwmLevel n =
    if s.grpForced (n / 8) = true ∨ s.rd (R.PWM_CH_CFG_ERR n) = 1 then s.ksEntry n
    else if s.rd (R.PWM_CH_LATCHED n) = 1 ∨ s.rd (R.PWM_CH_CUT_NOW n) = 1 then 0
    else if waveHigh (s.pch n).full (s.rd (R.PWM_CH_ON_ACT n)) (s.rd (R.PWM_CH_OFF_ACT n)) (s.grpCount (n / 8)) = true then 1 else 0) ∧
  (∀ on off count : Nat, waveHigh true on off count = true ∧ (on = off → waveHigh false on off count = false) ∧
    (on < off → (waveHigh false on off count = true ↔ on ≤ count ∧ count < off)) ∧
    (off < on → (waveHigh false on off count = true ↔ on ≤ count ∨ count < off))) ∧
  (∀ (s : State) (n why : Nat), s.rd (R.PWM_CH_LATCHED n) ≠ 1 → ∃ t, t = s.latchOff n why ∧
    s.Fields [(R.PWM_LATCH_LATCHED, setBit (s.rd R.PWM_LATCH_LATCHED) n true), (R.PWM_CH_LATCH_WHY n, why), (R.PWM_CH_LATCHED n, 1)] t ∧
    s.Raises 0x20 (le 1 1 ++ le 1 (n / 8) ++ le 1 n ++ le 1 why) t ∧ s.Frame [.regs, .spoke] t) ∧
  (∀ (s : State) (n why : Nat), s.rd (R.PWM_CH_LATCHED n) = 1 → s.latchOff n why = s) ∧
  (∀ (s : State) (ch : Fin 96), ch.val < 80 → s.rd (R.PWM_CH_CUT_NOW ch) ≠ 1 → s.rd (R.PWM_CH_LATCHED ch) ≠ 1 → s.pulses ch = true →
    s.grpOn (ch / 8) = true → s.pwm.stopped = false → s.rd (R.PWM_CH_CUTS ch) < 7 → ∃ t, exec (.cutRequest ch) s = .next t ∧
    s.Fields [(R.PWM_CH_CUTS ch, s.rd (R.PWM_CH_CUTS ch) + 1), (R.PWM_CH_CUT_NOW ch, 1)] t ∧ s.Frame [.regs] t) ∧
  (∀ (s : State) (ch : Fin 96), ch.val < 80 → s.rd (R.PWM_CH_CUT_NOW ch) ≠ 1 → s.rd (R.PWM_CH_LATCHED ch) ≠ 1 → s.pulses ch = true →
    s.grpOn (ch / 8) = true → s.pwm.stopped = false → 7 ≤ s.rd (R.PWM_CH_CUTS ch) →
    exec (.cutRequest ch) s = .next ((s.wr (R.PWM_CH_CUT_NOW ch) 1).latchOff ch 2)) ∧
  (∀ (s : State) (ch : Fin 96), 80 ≤ ch.val ∨ s.rd (R.PWM_CH_CUT_NOW ch) = 1 ∨ s.rd (R.PWM_CH_LATCHED ch) = 1 ∨ s.pulses ch = false ∨
    s.grpOn (ch / 8) = false ∨ s.pwm.stopped = true → exec (.cutRequest ch) s = .next s) ∧
  (∀ (s : State) (ch : Fin 96) (cycle : Nat), ch.val < 48 → ∃ u, u = (s.latchOff ch 1).modPch ch (fun c => { c with
      killAt := some (cycle, (s.grp (ch / 8)).num) }) ∧ exec (.killRequest ch cycle) s = .next (u.valveKilled ch)) ∧
  (∀ (s : State) (ch : Fin 96) (cycle : Nat), 48 ≤ ch.val → ch.val < 80 → ∃ u, u = (s.latchOff ch 1).modPch ch (fun c => { c with
      killAt := some (cycle, (s.grp (ch / 8)).num) }) ∧ exec (.killRequest ch cycle) s = .next (
      match (u.pch (if ch.val % 2 = 0 then ch.val + 1 else ch.val - 1)).killAt with
      | some (cy, pd) => if pd = (s.grp (ch / 8)).num ∨ cycle ≤ cy + 196 ∧ cy ≤ cycle + 196 then u.bridgeShort ((ch.val - 48) / 2)
        else u.legLatched ((ch.val - 48) / 2)
      | none => u.legLatched ((ch.val - 48) / 2))) ∧
  (∀ (s : State) (ch : Fin 96) (cycle : Nat), 80 ≤ ch.val → exec (.killRequest ch cycle) s = .next s) ∧
  (∀ (s : State) (ch : Fin 96), s.rd (R.PWM_CH_CUTS ch) = 7 → exec (.cutLatchOff ch) s = .next (s.latchOff ch 2)) ∧
  (∀ (s : State) (ch : Fin 96), s.rd (R.PWM_CH_CUTS ch) ≠ 7 → exec (.cutLatchOff ch) s = .next s) ∧
  (∀ (s : State) (g : Fin 12), s.rd (R.PWM_GRP_FLT_IN g) ≠ 1 →
    ∃ u, u = s.wrs [(R.PWM_GRP_FLT_IN g, 1), (R.PWM_GRP_FLT_SEEN g, 1)] ∧ ∃ v, v = u.event 0x20 ([2] ++ le 1 g ++ [0xFF, 0]) ∧
    exec (.gfltAssert g) s = .next (
      if s.rd (R.PWM_GRP_FLT_MODE g) = 1 then v.each ((List.range 8).map (· + 8 * g.val)) State.cut
      else if s.rd (R.PWM_GRP_FLT_MODE g) = 2 then v.each ((List.range 8).map (· + 8 * g.val)) fun s n => s.latchOff n 3 else u)) ∧
  (∀ (s : State) (g : Fin 12), s.rd (R.PWM_GRP_FLT_IN g) = 1 → exec (.gfltAssert g) s = .next s) ∧
  (∀ (s : State) (g : Fin 12), ∃ t, exec (.gfltRelease g) s = .next t ∧ s.Fields [(R.PWM_GRP_FLT_IN g, 0)] t ∧ s.Frame [.regs] t) ∧
  (∀ (s : State) (c : Cmd) (m : Nat), s.Ready c → c.payload = le 12 m → 0 < m → m < 2 ^ 96 → bits m 48 32 = 0 →
    ∃ u, u = s.begin c 0x23 ∧
    exec (.pwmClrLatch c) s = .next ((u.2.each ((List.range 96).filter fun n => bit m n) State.valveUnlatch).ok u.1)) ∧
  (∀ (s : State) (n : Nat), ∃ t, t = s.unlatch n ∧
    s.Fields [(R.PWM_LATCH_LATCHED, setBit (s.rd R.PWM_LATCH_LATCHED) n false), (R.PWM_CH_CUTS n, 0), (R.PWM_CH_LATCH_WHY n, 0),
      (R.PWM_CH_LATCHED n, 0)] t ∧ (80 ≤ n → s.valveUnlatch n = t)) ∧
  (∀ (s : State) (c : Cmd) (m : Nat), s.Ready c → c.payload = le 12 m → m < 2 ^ 96 →
    (m = 0 → s.Refuses (.pwmClrLatch c) c 0x23 stBadParam) ∧ (bits m 48 32 ≠ 0 → s.Refuses (.pwmClrLatch c) c 0x23 stNotPermitted))

/-- The copies of a boundary: after a load strobe, or at an enable, PER and every channel of the group; in mode 0 what has landed; in
mode 1 without a strobe nothing; LOAD_PEND clears. PERIOD_BOUNDARY of a running group makes them, counts from 0, ends the period of a
restart, sets ZERO and counts it; a group that does not run is left alone. PWM_CLOCK_RESTART: every enabled counter is 0 and its
outputs stay at Kickstand for one period. DELAY_LINE_CAL_DONE: a line of 32 to 128 elements waits for its group's boundary or is
active at once, any other sets CAL_ERR with its note and DEGRADE fault. PWM_LOAD_ALL strobes the groups named, all of mode 1;
PWM_SYNC takes the named enabled groups through a boundary; PWM_GROUP_CTL disables, then enables. Bad masks are refused. -/
def Obligations.PwmTimebases : Prop :=
  (∀ (s : State) (g : Nat) (all_ : Bool), ∃ t, t = s.copies g all_ ∧
    ∃ full, full = (all_ || s.rd (R.PWM_GRP_LOAD_PEND g) == 1) ∧ ∃ landed, landed = (s.rd (R.PWM_GRP_UPD_MODE g) == 0) ∧
    t.rd (R.PWM_GRP_PER_ACT g) = s.rd (if (full || landed && (s.grp g).dirty) = true then R.PWM_GRP_PER g else R.PWM_GRP_PER_ACT g) ∧
    t.rd (R.PWM_GRP_LOAD_PEND g) = (if full = true then 0 else s.rd (R.PWM_GRP_LOAD_PEND g)) ∧
    (∀ n ∈ (List.range 8).map (· + 8 * g),
      t.rd (R.PWM_CH_ON_ACT n) = s.rd (if (full || landed && (s.pch n).dirty) = true then R.PWM_CH_ON n else R.PWM_CH_ON_ACT n) ∧
      t.rd (R.PWM_CH_OFF_ACT n) = s.rd (if (full || landed && (s.pch n).dirty) = true then R.PWM_CH_OFF n else R.PWM_CH_OFF_ACT n) ∧
      (t.pch n).full = (if (full || landed && (s.pch n).dirty) = true then s.rd (R.PWM_CH_FULL n) == 1 else (s.pch n).full)) ∧
    s.Frame [.regs, .pwm, .act] t) ∧
  (∀ (s : State) (g : Fin 12), s.grpOn g = true → s.pwm.stopped = false →
    ∃ u, u = ((s.copies g false).swapLine g).modGrp g (fun x => { x with cnt := 0, num := x.num + 1, hold := false }) ∧
    ∃ v, v = ((if (s.grp g).hold = true ∧ s.pwr.force = [] then u.valvesRestart g else u).pwmFlag (R.PWM_GRP_EV_ZERO g)
      (R.PWM_GRP_IE_ZERO g)).count (R.PWM_GRP_ZERO_CNT g) 0xFFFF 1 ∧ exec (.periodBoundary g) s = .next (v.pass g 0 1)) ∧
  (∀ (s : State) (g : Fin 12), s.grpOn g = false ∨ s.pwm.stopped = true → exec (.periodBoundary g) s = .next s) ∧
  (∀ s : State, s.pwm.stopped = true → ∃ u, u = ({ s with pwm.stopped := false }.each ((List.range 12).filter s.grpOn) fun s g =>
      s.modGrp g fun x => { x with cnt := 0, hold := true }) ∧ exec .pwmClockRestart s = .next (u.forceOff 3 true)) ∧
  (∀ s : State, s.pwm.stopped = false → exec .pwmClockRestart s = .next (s.forceOff 3 true)) ∧
  (∀ (s : State) (lines : List (BitVec 8)), s.pwm.calRun = true → exec (.delayLineCalDone lines) s = .next (
    { s with pwm.calRun := false }.each [6, 7, 8, 9] fun s g =>
      if 32 ≤ (lines.map BitVec.toNat).getD (g - 6) 0 ∧ (lines.map BitVec.toNat).getD (g - 6) 0 ≤ 128 then
        if s.grpOn g = true ∧ s.pwm.stopped = false then
          s.modGrp g fun x => { x with
            standby := (lines.map BitVec.toNat).getD (g - 6) 0, swap := some ((lines.map BitVec.toNat).getD (g - 6) 0) }
        else (s.modGrp g fun x => { x with
            standby := (lines.map BitVec.toNat).getD (g - 6) 0, swap := some ((lines.map BitVec.toNat).getD (g - 6) 0) }).swapLine g
      else (((s.wr R.PWM_STAT_CAL_ERR 1).event 0x20 ([3] ++ le 1 g ++ [0xFF, 0])).fault clDegrade 0x20 3 0 0))) ∧
  (∀ (s : State) (g n : Nat), (s.grp g).swap = some n → ∃ t, t = s.swapLine g ∧ (t.grp g).swap = none ∧
    (t.grp g).passAt = some s.stage ∧ (6 ≤ g → g ≤ 9 → t.rd (R.PWM_CAL_ELEM6 + 8 * (g - 6)) = n) ∧ s.Frame [.regs, .pwm] t) ∧
  (∀ (s : State) (lines : List (BitVec 8)), s.pwm.calRun = false → exec (.delayLineCalDone lines) s = .next s) ∧
  (∀ (s : State) (c : Cmd) (m : Nat), s.Ready c → c.payload = le 2 m → 1 ≤ m → m ≤ 4095 →
    (∀ g < 12, bit m g = true → s.rd (R.PWM_GRP_UPD_MODE g) ≠ 0) → ∃ t, exec (.pwmLoadAll c) s = .next t ∧
    s.Answers c 0x21 stOk [] t ∧
    s.Fields (((List.range 12).filter fun g => bit m g).map fun g => (R.PWM_GRP_LOAD_PEND g, 1)) t ∧ s.Frame [.regs, .spoke] t) ∧
  (∀ (s : State) (c : Cmd) (m : Nat), s.Ready c → c.payload = le 2 m → m < 65536 →
    m = 0 ∨ 4095 < m ∨ (((List.range 12).any fun g => bit m g && s.rd (R.PWM_GRP_UPD_MODE g) == 0) = true) →
    s.Refuses (.pwmLoadAll c) c 0x21 stBadParam) ∧
  (∀ (s : State) (c : Cmd) (m : Nat), s.Ready c → c.payload = le 2 m → 1 ≤ m → m ≤ 4095 → (∀ g < 12, bit m g = true → s.grpOn g = true) →
    ∃ u, u = s.begin c 0x22 ∧
    exec (.pwmSync c) s = .next ((u.2.each ((List.range 12).filter fun g => bit m g) fun s g => s.boundary g).ok u.1)) ∧
  (∀ (s : State) (c : Cmd) (m : Nat), s.Ready c → c.payload = le 2 m → 1 ≤ m → m ≤ 4095 →
    (((List.range 12).any fun g => bit m g && !s.grpOn g) = true) → s.Refuses (.pwmSync c) c 0x22 stNotPermitted) ∧
  (∀ (s : State) (c : Cmd) (en dis : Nat), s.Ready c → c.payload = le 2 en ++ le 2 dis → en ≤ 4095 → dis ≤ 4095 → en &&& dis = 0 →
    en = 0 ∨ s.actRefused = false → ∃ u, u = s.begin c 0x20 ∧
    exec (.pwmGroupCtl c) s = .next (((u.2.each ((List.range 12).filter fun g => bit dis g) State.groupOff).each
      ((List.range 12).filter fun g => bit en g) State.grpEnable).ok u.1)) ∧
  (∀ (s : State) (g : Nat), (s.grpOn g = false → ∃ u, u = (s.wr R.PWM_STAT_EN (setBit (s.rd R.PWM_STAT_EN) g true)).boundary g true ∧
      s.grpEnable g = if s.pwr.force = [] then u.valvesRestart g else u) ∧
    (s.grpOn g = true → s.grpEnable g = s) ∧ (s.grpOn g = false → s.grpDisable g = s) ∧
    (s.grpOn g = true → ∃ t, t = s.grpDisable g ∧ t.rd R.PWM_STAT_EN = setBit (s.rd R.PWM_STAT_EN) g false ∧
      (t.grp g).cnt = 0 ∧ (t.grp g).hold = false ∧ s.Frame [.regs, .pwm] t)) ∧
  (∀ (s : State) (c : Cmd) (en dis : Nat), s.Ready c → c.payload = le 2 en ++ le 2 dis → en < 65536 → dis < 65536 →
    (4095 < en ∨ 4095 < dis ∨ en &&& dis ≠ 0 → s.Refuses (.pwmGroupCtl c) c 0x20 stBadParam) ∧
    (0 < en → en ≤ 4095 → dis ≤ 4095 → en &&& dis = 0 → s.actRefused = true → s.Refuses (.pwmGroupCtl c) c 0x20 stNotPermitted))

/-! ### Actuator channels (06_actuator_channels.md) -/

/-- Each actuator opcode joins its command queue (224 valves, 225 bridges, 226 fans, 227 ramps, 228 auxiliary), 16 deep, and has no
reply yet; a full queue answers QUEUE_FULL. ACT_CMD judges it there: a bad one ends with its status, the others wait for the next
ACT_UPD commit, and a move or a ramp that is not at its target answers ACCEPTED. At the commit a valve takes its demand, a fan or
auxiliary channel its duty, a ramp its target (superseding an earlier ACT_RAMP), a cleared bridge loses its latches. ACT_SAVE asks
for one stored object with the values of that moment. A write of ACT_KS is staged as a whole for the next AON edge, and one that
R178 or R7 refuses changes nothing. -/
def Obligations.ActuatorCommands : Prop :=
  (∀ (s : State) (c : Cmd) (i : Instr) (op k : Nat) (q : List ActReq),
    (i, op, k) ∈ [(Instr.actValve c, 0x28, 0), (.actBrMove c, 0x29, 1), (.actBrClear c, 0x2A, 1), (.actFan c, 0x2B, 2), (.actRamp c, 0x2C, 3),
      (.actAux c, 0x2D, 4)] → s.Ready c → q = mget [] s.act.queues k →
    (q.length < 16 → ∃ t, exec i s = .next t ∧ s.Holds c op t ∧
      t.act = { s.act with queues := mput [] s.act.queues k (q ++ [⟨s.refOf c op, c.payload⟩]) } ∧ s.Frame [.spoke, .act] t) ∧
    (16 ≤ q.length → s.Refuses i c op stQueueFull)) ∧
  (∀ (s : State) (a : ActReq), (s.actCheck a.cmd.op a.payload ≠ stOk → s.actTake a = s.finish a.cmd (s.actCheck a.cmd.op a.payload)) ∧
    (s.actCheck a.cmd.op a.payload = stOk → ∃ u, u = (if a.cmd.op = 0x29 ∧ u8 a.payload 1 ≠ 0 ∨
        a.cmd.op = 0x2C ∧ u16 a.payload 2 ≠ s.rd (R.ACT_VOUT_CODE (u8 a.payload 0)) then s.accepted a.cmd else s) ∧
      s.actTake a = { u with act.taken := u.act.taken ++ [a] })) ∧
  (∀ (s : State) (p : Bytes), p.length = 4 → u8 p 0 < 48 → u16 p 2 < 4096 →
    s.actCheck 0x28 p = if s.rd R.PWR_STAT_PFSEQ = 1 ∨ s.dbg.halted ≠ 0 ∨ (s.ownerOf 1 (u8 p 0)).isSome = true then stNotPermitted else stOk) ∧
  (∀ (s : State) (r : Ref) (p : Bytes),
    (r.op = 0x28 → s.actApply ⟨r, p⟩ = (s.modValve (u8 p 0) fun v => { v with cmd := u16 p 2 }).ok r) ∧
    (r.op = 0x2A → s.actApply ⟨r, p⟩ = (s.bridgeClear (u8 p 0)).ok r) ∧
    (r.op = 0x2B → s.actApply ⟨r, p⟩ = (s.fanSet (u8 p 0) (u16 p 2) (u8 p 1 == 1)).ok r) ∧
    (r.op = 0x2C → u16 p 2 ≠ s.rd (R.ACT_VOUT_CODE (u8 p 0)) → s.actApply ⟨r, p⟩ = s.rampTo (u8 p 0) (u16 p 2) r) ∧
    (r.op = 0x2D → s.actApply ⟨r, p⟩ = (s.wrs [(R.ACT_AUX_DUTY (u8 p 0), u16 p 2), (R.ACT_AUX_FULL (u8 p 0), u8 p 1 % 2)]).ok r)) ∧
  (∀ (s : State) (v target : Nat) (r : Ref), s.rampTo v target r = (s.modRamp v fun x => { x with
    next := some target, cmd := some r, ks := false, zone := false }).finish? (s.ramp v).cmd stSuperseded) ∧
  (∀ (s : State) (k : Nat), k < 16 → 5 ≤ s.rd (R.ACT_BR_STATE k) → ∃ t, t = s.bridgeClear k ∧ t.rd (R.ACT_BR_STATE k) = 0 ∧
    t.rd (R.ACT_BR_POS_OK k) = 0 ∧ t.rd (R.PWM_CH_LATCHED (48 + 2 * k)) = 0 ∧ t.rd (R.PWM_CH_LATCHED (49 + 2 * k)) = 0 ∧
    t.rd (R.PWM_CH_CUTS (48 + 2 * k)) = 0 ∧ t.rd (R.PWM_CH_CUTS (49 + 2 * k)) = 0) ∧
  (∀ (s : State) (c : Cmd), s.Ready c → c.payload = [] → s.gatesClosed = false → ∃ t, exec (.actSave c) s = .next t ∧ s.Accepts c 0x2E t ∧
    t.hay = { s.hay with
      nextId := s.hay.nextId + 1
      reqs := s.hay.reqs ++ [⟨s.hay.nextId, 249, .save (some (s.refOf c 0x2E)) [] [(0x60, s.actImage)], s.ticks, false⟩] } ∧
    s.Frame [.spoke, .hay] t) ∧
  (∀ (s : State) (c : Cmd), s.Ready c → c.payload ≠ [] → s.Refuses (.actSave c) c 0x2E stBadLength) ∧
  (∀ (s : State) (v : BitVec 512), ksRefused (bits v.toNat 0 320) = false → ∃ t, exec (.actKsWrite v) s = .next t ∧
    t.pwr = { s.pwr with ksStage := some (ksOf (bits v.toNat 0 320)) } ∧ s.Fields [(R.PWR_KSTAT_PENDING, 1)] t ∧ s.Frame [.regs, .pwr] t) ∧
  (∀ (s : State) (v : BitVec 512), ksRefused (bits v.toNat 0 320) = true → exec (.actKsWrite v) s = .next s) ∧
  (∀ v : Nat, ksRefused v = true ↔ (∃ n ∈ List.range 96, bits v (2 * n) 2 = 3 ∨ ((48 ≤ n ∧ n < 80) ∨ 91 ≤ n) ∧ bits v (2 * n) 2 ≠ 0) ∨
    (∃ g ∈ List.range 6, 2 < ((List.range 8).filter fun i => bits v (2 * (8 * g + i)) 2 == 1).length) ∨
    (∃ i ∈ List.range 8, bits v (204 + 16 * i) 4 ≠ 0))

/-- A valve's cycle starts when its demand has risen from 0 or its cycle has ended: the on-time is D·CYCLE/4,096 rounded, 0 or the whole
cycle within MIN_ON of either end. At the on-time's end the channel is off. The run that counts out the inrush timer commits hold.
Recovery starts with RECOV 1 and PAUSED 0, and ends with ACT_NOTE 4, naming the shorted channel or setting VG_OVER with its DEGRADE
fault; at the tenth run with GSNS high the group is disabled with a PLANT fault. A move that has used its ticks ends, an end run at
its end's POS with POS_OK 1. A coast that has run out drives the new direction; a reversal not admitted in 1,024 ticks ends with
ACT_NOTE 9 and a NOTE fault. A stalled fan sets STALL with ACT_NOTE 7 and a DEGRADE fault. A ramp at its target answers its command;
one step of a ramp moves P toward TARGET × 32 by at most SLEW and never past it. Where its condition does not hold, a row changes
nothing. -/
def Obligations.ActuatorEvents : Prop :=
  (∀ (s : State) (n : Fin 48), s.rd (R.ACT_VLV_STATE n) ≠ 4 → s.valveDemand n ≠ 0 →
    (s.valve n).cycling = false ∨ (s.valve n).cycEnd ≤ s.ticks →
    ∃ on, on = onStages (s.valveDemand n) (s.rd (R.ACT_VLV_CYCLE n)) (s.rd (R.ACT_VLV_MIN_ON n)) ∧ ∃ t, exec (.valveCycleStart n) s = .next t ∧
    t.rd (R.ACT_VLV_DEMAND n) = s.valveDemand n ∧ (t.valve n).cycling = true ∧
    (t.valve n).cycEnd = s.ticks + 1024 * s.rd (R.ACT_VLV_CYCLE n) ∧ (t.valve n).onEnd = s.ticks + 1024 * on ∧
    t.rd (R.ACT_VLV_STATE n) = (if on = 0 then 0 else if s.rd (R.ACT_VLV_STATE n) = 0 then 1 else s.rd (R.ACT_VLV_STATE n)) ∧
    s.Frame [.regs, .act] t) ∧
  (∀ (s : State) (n : Fin 48), s.rd (R.ACT_VLV_STATE n) = 4 ∨ s.valveDemand n = 0 ∨ (s.valve n).cycling = true ∧ s.ticks < (s.valve n).cycEnd →
    exec (.valveCycleStart n) s = .next s) ∧
  (∀ d cycle m : Nat, ∃ x, x = (2 * (d * cycle) + 4096) / 8192 ∧
    onStages d cycle m = if cycle - (if x < m then 0 else x) < m then cycle else if x < m then 0 else x) ∧
  (∀ (s : State) (n : Fin 48), (s.valve n).cycling = true → (s.valve n).onEnd ≤ s.ticks → s.rd (R.ACT_VLV_STATE n) ≠ 4 →
    ∃ t, exec (.valveOnTimeEnd n) s = .next t ∧ t.valve n = { s.valve n with rose := false } ∧
    s.Fields [(R.ACT_VLV_LEFT n, 0), (R.ACT_VLV_STATE n, 0)] t ∧ s.Frame [.regs, .act] t) ∧
  (∀ (s : State) (n : Fin 48), (s.valve n).cycling = false ∨ s.ticks < (s.valve n).onEnd ∨ s.rd (R.ACT_VLV_STATE n) = 4 →
    exec (.valveOnTimeEnd n) s = .next s) ∧
  (∀ (s : State) (n : Fin 48), s.rd (R.ACT_VLV_STATE n) = 2 → s.rd (R.ACT_VLV_LEFT n) ≤ 1 → (s.valve n).rose = true →
    s.rd (R.ACT_VGRP_RECOV (n / 8)) ≠ 1 → ∃ t, exec (.inrushEnd n) s = .next t ∧
    s.Fields [(R.ACT_VLV_STATE n, 3), (R.ACT_VLV_LEFT n, 0)] t ∧ s.Frame [.regs] t) ∧
  (∀ (s : State) (n : Fin 48), s.rd (R.ACT_VLV_STATE n) ≠ 2 ∨ 1 < s.rd (R.ACT_VLV_LEFT n) ∨ (s.valve n).rose = false ∨
    s.rd (R.ACT_VGRP_RECOV (n / 8)) = 1 → exec (.inrushEnd n) s = .next s) ∧
  (∀ (s : State) (g : Fin 6), ∃ t, exec (.groupRecoveryStart g) s = .next t ∧
    t.vgrp g = (if s.rd (R.ACT_VGRP_RECOV g) = 1 then { s.vgrp g with low := 0 } else { s.vgrp g with low := 0, runs := 0, short := none }) ∧
    s.Fields ((R.ACT_VGRP_GSNS_HI g, 1) :: if s.rd (R.ACT_VGRP_RECOV g) = 1 then [] else [(R.ACT_VGRP_PAUSED g, 0), (R.ACT_VGRP_RECOV g, 1)]) t ∧
    s.Frame [.regs, .act] t) ∧
  (∀ (s : State) (g : Fin 6) (low : Bool), s.rd (R.ACT_VGRP_RECOV g) = 1 → low = true ∨ 9 ≤ (s.vgrp g).runs →
    ∃ u, u = ((if low then s.wr (R.ACT_VGRP_GSNS_HI g) 0 else s).wr (R.ACT_VGRP_RECOV g) 0).note 0x28 4 g (s.rd (R.ACT_VGRP_PAUSED g)) ∧
    ∃ v, v = (match (s.vgrp g).short with
      | some c => u.wrs [(R.ACT_VGRP_LAST_SHORT g, c), (R.ACT_VGRP_LS_VALID g, 1)]
      | none => (((u.wr R.ACT_STAT_VG_OVER (setBit (s.rd R.ACT_STAT_VG_OVER) g true)).note 0x28 5 g 0).fault clDegrade 0x24 5 g 0)) ∧
    ∃ w, w = v.modVgrp g (fun x => { x with runs := 0, short := none }) ∧
    exec (.groupRecoveryEnd g low) s = .next (if low = false ∧ s.rd (R.ACT_VGRP_GSNS_HI g) = 1 then
      ((w.grpDisable g).note 0x28 6 g 0).fault clPlant 0x24 6 g 0 else w)) ∧
  (∀ (s : State) (g : Fin 6), s.rd (R.ACT_VGRP_RECOV g) ≠ 1 → ∃ t, exec (.groupRecoveryEnd g true) s = .next t ∧
    s.Fields [(R.ACT_VGRP_GSNS_HI g, 0)] t ∧ s.Frame [.regs] t) ∧
  (∀ (s : State) (g : Fin 6), s.rd (R.ACT_VGRP_RECOV g) ≠ 1 ∨ (s.vgrp g).runs < 9 → exec (.groupRecoveryEnd g false) s = .next s) ∧
  (∀ (s : State) (b : Fin 16), s.rd (R.ACT_BR_STATE b) = 1 ∨ s.rd (R.ACT_BR_STATE b) = 2 → s.rd (R.ACT_BR_LEFT b) = 0 →
    ∃ u, u = (if (s.bridge b).endRun = true then (s.wrs [(R.ACT_BR_POS b, if (s.bridge b).dir = 1 then 0xFFF else 0),
        (R.ACT_BR_POS_OK b, 1)]).modBridge b (fun x => { x with frac := 0 }) else s) ∧
    exec (.bridgeMoveEnd b) s = .next ((u.bridgeStopped b).finish? (s.bridge b).cmd stOk)) ∧
  (∀ (s : State) (b : Fin 16), ¬ (s.rd (R.ACT_BR_STATE b) = 1 ∨ s.rd (R.ACT_BR_STATE b) = 2) ∨ s.rd (R.ACT_BR_LEFT b) ≠ 0 →
    exec (.bridgeMoveEnd b) s = .next s) ∧
  (∀ (s : State) (b : Fin 16), s.rd (R.ACT_BR_STATE b) = 3 → (s.bridge b).coast = 0 → exec (.reversalCoastEnd b) s =
    .next ((s.wrs [(R.ACT_BR_STATE b, (s.bridge b).dir), (R.ACT_BR_LEFT b, (s.bridge b).ticks)]).escEnd (.reversal b))) ∧
  (∀ (s : State) (b : Fin 16), s.rd (R.ACT_BR_STATE b) ≠ 3 ∨ (s.bridge b).coast ≠ 0 → exec (.reversalCoastEnd b) s = .next s) ∧
  (∀ (s : State) (b : Fin 16), s.rd (R.ACT_BR_STATE b) = 4 → (∃ r ∈ s.pwr.wait, r.kind = .reversal b ∧ r.since + 1024 ≤ s.ticks) →
    exec (.reversalNotAdmitted b) s = .next (((s.bridgeEnd b stFault).note 0x28 9 b 0).fault clNote 0x24 9 b 0)) ∧
  (∀ (s : State) (b : Fin 16), s.rd (R.ACT_BR_STATE b) ≠ 4 ∨ (∀ r ∈ s.pwr.wait, r.kind = .reversal b → s.ticks < r.since + 1024) →
    exec (.reversalNotAdmitted b) s = .next s) ∧
  (∀ (s : State) (f : Fin 8), s.rd (R.ACT_FAN_STALL_T f) ≤ (s.fan f).slow → 0 < (s.fan f).slow → s.rd (R.ACT_FAN_STALL f) ≠ 1 →
    exec (.fanStall f) s = .next (((s.wr (R.ACT_FAN_STALL f) 1).note 0x28 7 f (s.rd (R.ACT_FAN_RPM f))).fault clDegrade 0x24 7 f
      (s.rd (R.ACT_FAN_RPM f)))) ∧
  (∀ (s : State) (f : Fin 8), (s.fan f).slow < s.rd (R.ACT_FAN_STALL_T f) ∨ (s.fan f).slow = 0 ∨ s.rd (R.ACT_FAN_STALL f) = 1 →
    exec (.fanStall f) s = .next s) ∧
  (∀ (s : State) (v : Fin 8) (r : Ref), (s.ramp v).cmd = some r → (s.ramp v).next = none → s.rd (R.ACT_VOUT_CODE v) = s.rd (R.ACT_VOUT_TARGET v) →
    exec (.rampArrived v) s = .next ((s.modRamp v fun x => { x with cmd := none }).finish r stOk)) ∧
  (∀ (s : State) (v : Fin 8), (s.ramp v).cmd = none ∨ (s.ramp v).next ≠ none ∨ s.rd (R.ACT_VOUT_CODE v) ≠ s.rd (R.ACT_VOUT_TARGET v) →
    exec (.rampArrived v) s = .next s) ∧
  (∀ p goal step : Nat, (p ≤ goal → p ≤ approach p goal step ∧ approach p goal step ≤ goal ∧ approach p goal step ≤ p + step) ∧
    (goal ≤ p → goal ≤ approach p goal step ∧ approach p goal step ≤ p ∧ p ≤ approach p goal step + step))

/-! ### Converters and sensor ports (07_adc_sensing.md) -/

/-- A conversion of a running sequence writes ADC_SR_u_e (code, flags, bank, input, tick, VALID) and the sequence goes on, or ends
after its last entry and frees the unit for a pending single. A single conversion writes ADC_DATA with NEW, and OVERRUN when NEW
was still set; with neither under way nothing changes. Table 7-1: on a unit that may work, a sequence start runs, is lost with
GO_LOST, its note and a NOTE fault while a sequence runs, or waits for a single; an empty bank sets NULL_SEQ; a single start runs,
pends behind a sequence or the reservation, or is lost with SGL_LOST. A GO write of ADC_CTL is a single start of INPUT. ADC_CONVERT on
an idle unit starts its single, whose end answers it; a busy hub is NOT_PERMITTED. ADC_SAVE asks for the stored image. -/
def Obligations.Converters : Prop :=
  (∀ (s : State) (u : Fin 2) (code : BitVec 12) (ovr unr : Bool) (q : SeqRun), (s.adcu u).seq = some q →
    ∃ v, v = (s.wrs [(R.ADC_SR_CODE u q.done, code.toNat), (R.ADC_SR_OVR u q.done, b2n ovr), (R.ADC_SR_UNR u q.done, b2n unr),
      (R.ADC_SR_BANK u q.done, q.bank), (R.ADC_SR_VALID u q.done, 1), (R.ADC_SR_INPUT u q.done, q.inputs.getD q.done 0),
      (R.ADC_SR_TICK u q.done, q.tick)]).modAdcu u (fun x => { x with res := x.res ++ [⟨q.inputs.getD q.done 0, code.toNat, ovr, unr⟩] }) ∧
    exec (.adcConversionEnd u code ovr unr) s = .next (if q.done + 1 < q.inputs.length then
        v.modAdcu u fun x => { x with seq := some { q with done := q.done + 1 } }
      else ((v.wr (seqField u) 0).modAdcu u fun x => { x with seq := none, rsv := false }).pendStart u)) ∧
  (∀ (s : State) (u : Fin 2) (code : BitVec 12) (ovr unr : Bool), (s.adcu u).seq = none →
    exec (.adcConversionEnd u code ovr unr) s = exec (.adcSingleDone u code ovr unr) s) ∧
  (∀ (s : State) (u : Fin 2) (code : BitVec 12) (ovr unr : Bool) (i : Nat), (s.adcu u).single = some i → (s.adcu u).pend = none →
    (s.adcu u).seqPend = false → s.adc.conv = none → ∃ t, exec (.adcSingleDone u code ovr unr) s = .next t ∧
    t.adcu u = { s.adcu u with single := none } ∧
    s.Fields [(R.ADC_DATA_NEW, 1), (R.ADC_DATA_OVERRUN, if s.rd R.ADC_DATA_NEW = 1 ∨ s.rd R.ADC_DATA_OVERRUN = 1 then 1 else 0),
      (R.ADC_DATA_UNR, b2n unr), (R.ADC_DATA_OVR, b2n ovr), (R.ADC_DATA_INPUT, i), (R.ADC_DATA_CODE, code.toNat)] t ∧ s.Frame [.regs, .adc] t) ∧
  (∀ (s : State) (u : Fin 2) (code : BitVec 12) (ovr unr : Bool) (i : Nat) (r : Ref), (s.adcu u).single = some i → (s.adcu u).pend = none →
    (s.adcu u).seqPend = false → s.adc.conv = some r →
    ∃ v, v = { (s.modAdcu u fun x => { x with single := none }).wrs [(R.ADC_DATA_CODE, code.toNat), (R.ADC_DATA_INPUT, i),
      (R.ADC_DATA_OVR, b2n ovr), (R.ADC_DATA_UNR, b2n unr),
      (R.ADC_DATA_OVERRUN, if s.rd R.ADC_DATA_NEW = 1 ∨ s.rd R.ADC_DATA_OVERRUN = 1 then 1 else 0), (R.ADC_DATA_NEW, 1),
      (R.ADC_DATA_NEW, 0), (R.ADC_DATA_OVERRUN, 0)] with adc.conv := none } ∧
    exec (.adcSingleDone u code ovr unr) s = .next ((v.finish r stOk (le 2 code.toNat ++ le 1 (b2n ovr + 2 * b2n unr))).pendStart u)) ∧
  (∀ (s : State) (u : Fin 2) (code : BitVec 12) (ovr unr : Bool), (s.adcu u).single = none →
    exec (.adcSingleDone u code ovr unr) s = .next s) ∧
  (∀ (s : State) (u : Fin 2), (s.adcu u).seq = none → (s.adcu u).rsv = false → (s.adcu u).single = none → (s.adcu u).pend ≠ none →
    exec (.adcSinglePendingStart u) s = .next (s.modAdcu u fun x => { x with single := x.pend, pend := none })) ∧
  (∀ (s : State) (u : Fin 2), (s.adcu u).seq ≠ none ∨ (s.adcu u).rsv = true ∨ (s.adcu u).single ≠ none ∨ (s.adcu u).pend = none →
    exec (.adcSinglePendingStart u) s = .next s) ∧
  (∀ (s : State) (u : Nat), u < 2 → s.unitOff u = false →
    ((s.adcu u).seq ≠ none → s.seqStart u = ((s.wr (lostField u) 1).note 0x30 6 u 0).fault clNote 0x30 6 u 0) ∧
    ((s.adcu u).seq = none → (s.adcu u).single ≠ none → s.seqStart u = s.modAdcu u fun x => { x with seqPend := true }) ∧
    ((s.adcu u).seq = none → (s.adcu u).single = none → (s.seqBank u).2 = [] → s.seqStart u = (s.wr (nullField u) 1).note 0x30 7 u 0) ∧
    ((s.adcu u).seq = none → (s.adcu u).single = none → (s.seqBank u).2 ≠ [] → s.seqStart u = (s.wr (seqField u) 1).modAdcu u fun x =>
      { x with seq := some ⟨s.tick, (s.seqBank u).1, (s.seqBank u).2, 0, true⟩, seqPend := false })) ∧
  (∀ (s : State) (v : BitVec 32) (i u : Nat), i = bits v.toNat 0 6 → u = i / 32 → bit v.toNat 8 = true → s.unitOff u = false →
    ((s.adcu u).single ≠ none ∨ (s.adcu u).pend ≠ none → ∃ t, exec (.adcCtlGo v) s = .next t ∧
      t.rd R.ADC_STAT_SGL_LOST = 1 ∧ s.Frame [.regs] t) ∧
    ((s.adcu u).single = none → (s.adcu u).pend = none → (s.adcu u).seq ≠ none ∨ (s.adcu u).rsv = true →
      ∃ t, exec (.adcCtlGo v) s = .next t ∧ t.adcu u = { s.adcu u with pend := some i } ∧ s.Frame [.regs, .adc] t) ∧
    ((s.adcu u).single = none → (s.adcu u).pend = none → (s.adcu u).seq = none → (s.adcu u).rsv = false →
      ∃ t, exec (.adcCtlGo v) s = .next t ∧ t.adcu u = { s.adcu u with single := some i } ∧ s.Frame [.regs, .adc] t)) ∧
  (∀ (s : State) (v : BitVec 32), bit v.toNat 8 = false → ∃ t, exec (.adcCtlGo v) s = .next t ∧ s.Frame [.regs] t ∧
    (∀ k, k / 1024 ≠ 0x3000 → t.rd k = s.rd k)) ∧
  (∀ (s : State) (c : Cmd) (i u : Nat), s.Ready c → c.payload = le 1 i → i < 64 → u = i / 32 → s.adcBusy = false →
    s.limp = false ∨ i < 32 → s.unitOff u = false → (s.adcu u).seq = none → (s.adcu u).rsv = false → ∃ t, exec (.adcConvert c) s = .next t ∧
    s.Holds c 0x30 t ∧ t.adcu u = { s.adcu u with single := some i } ∧ t.adc.conv = some (s.refOf c 0x30) ∧ s.Frame [.spoke, .adc] t) ∧
  (∀ (s : State) (c : Cmd) (i : Nat), s.Ready c → c.payload = le 1 i → i < 256 → (63 < i → s.Refuses (.adcConvert c) c 0x30 stBadParam) ∧
    (i < 64 → s.adcBusy = true ∨ s.limp = true ∧ 31 < i → s.Refuses (.adcConvert c) c 0x30 stNotPermitted)) ∧
  (∀ (s : State) (c : Cmd), s.Ready c → c.payload = [] → s.gatesClosed = false → ∃ t, exec (.adcSave c) s = .next t ∧ s.Accepts c 0x31 t ∧
    t.hay = { s.hay with
      nextId := s.hay.nextId + 1
      reqs := s.hay.reqs ++ [⟨s.hay.nextId, 249, .save (some (s.refOf c 0x31)) [] [(0x61, s.attrImage adcAttrs)], s.ticks, false⟩] } ∧
    s.Frame [.spoke, .hay] t)

/-- DEVICE_DUE of a described device, while the ports work: it waits since now, or counts as late when it still waited, and falls due
again PERIOD ticks on. TRANSACTION_END: the port is free, its outcome waits for SPT_SVC, and an error records ERR, drops a partial
frame, and after a good result raises SNS_NOTE 2; TRANSACTION_TIMEOUT is the error TIMEOUT; with no transaction nothing changes.
DEVICE_INVALID at an AGE of 8: VALID reads 0. A posted result sets RAW, VALUE, OPEN and SHORT as R193 and R194 say. -/
def Obligations.SensorPorts : Prop :=
  (∀ (s : State) (d : Fin 16), s.devOn d = true → s.portsWork = true → ∃ t, exec (.deviceDue d) s = .next t ∧
    t.dev d = { s.dev d with
      due := if (s.dev d).due = none then some s.ticks else (s.dev d).due, next := some (s.ticks + s.rd (R.ADC_DEV_PERIOD d)) } ∧
    (∀ k, k ≠ d.val → t.dev k = s.dev k) ∧
    s.Fields (if (s.dev d).due = none then [] else [(R.ADC_SPT_LATE, satAdd 255 (s.rd R.ADC_SPT_LATE) 1)]) t ∧ s.Frame [.regs, .adc] t) ∧
  (∀ (s : State) (d : Fin 16), s.devOn d = false ∨ s.portsWork = false → exec (.deviceDue d) s = .next s) ∧
  (∀ (s : State) (p : Fin 3) (data : Bytes) (tr : Trans), (s.port p).run = some tr → ∃ t, exec (.transactionEnd p 0 data) s = .next t ∧
    t.port p = { s.port p with run := none, res := some ⟨tr, 0, data⟩ } ∧
    s.Fields [(R.ADC_SPT_ACTIVE, setBit (s.rd R.ADC_SPT_ACTIVE) p false)] t ∧ s.Frame [.regs, .adc] t) ∧
  (∀ (s : State) (p err : Fin 3) (data : Bytes) (tr : Trans), (s.port p).run = some tr → err ≠ 0 →
    ∃ u, u = (s.wr R.ADC_SPT_ACTIVE (setBit (s.rd R.ADC_SPT_ACTIVE) p false)).modPort p (fun x => { x with
      run := none, res := some ⟨tr, err, data⟩ }) ∧
    exec (.transactionEnd p err data) s = .next (u.devError tr.dev err)) ∧
  (∀ (s : State) (d err : Nat), ∃ u, u = (s.wr (R.ADC_DEVR_ERR d) err).modDev d (fun x => { x with err := true, chunk := 0, part := [] }) ∧
    s.devError d err = if (s.dev d).good = true ∧ (s.dev d).err = false then u.note 0x30 2 d err else u) ∧
  (∀ (s : State) (p : Fin 3) (tr : Trans), (s.port p).run = some tr →
    ∃ u, u = (s.wr R.ADC_SPT_ACTIVE (setBit (s.rd R.ADC_SPT_ACTIVE) p false)).modPort p (fun x => { x with
      run := none, res := some ⟨tr, 3, []⟩ }) ∧ exec (.transactionTimeout p) s = .next (u.devError tr.dev 3)) ∧
  (∀ (s : State) (p err : Fin 3) (data : Bytes), (s.port p).run = none →
    exec (.transactionEnd p err data) s = .next s ∧ exec (.transactionTimeout p) s = .next s) ∧
  (∀ (s : State) (d : Fin 16), 8 ≤ s.rd (R.ADC_DEVR_AGE d) → ∃ t, exec (.deviceInvalid d) s = .next t ∧
    s.Fields [(R.ADC_DEVR_VALID d, 0)] t ∧ s.Frame [.regs] t) ∧
  (∀ (s : State) (d : Fin 16), s.rd (R.ADC_DEVR_AGE d) < 8 → exec (.deviceInvalid d) s = .next s) ∧
  (∀ (s : State) (u : Nat) (r : AdcRes), s.rd (R.ADC_INCFG_NOTE (32 * u + r.input)) ≠ 1 → ∃ n, n = 32 * u + r.input ∧
    ∃ t, t = s.postAin u r ∧ t.rd (R.ADC_AIN_RAW n) = r.code ∧ t.rd (R.ADC_AIN_VALID n) = 1 ∧
    t.rd (R.ADC_AIN_VALUE n) = s.linearise (s.rd (R.ADC_INCFG_LIN n)) r.code ∧
    t.rd (R.ADC_AIN_OVR n) = b2n r.ovr ∧ t.rd (R.ADC_AIN_UNR n) = b2n r.unr ∧
    (s.rd (R.ADC_INCFG_DET n) ≠ 1 → t.rd (R.ADC_AIN_OPEN n) = 0 ∧ t.rd (R.ADC_AIN_SHORT n) = 0) ∧
    (s.rd (R.ADC_INCFG_DET n) = 1 →
      (t.rd (R.ADC_AIN_OPEN n) = 1 ↔ s.rd (R.ADC_INCFG_OPEN_THR n) ≤ r.code ∨ r.ovr = true) ∧
      (t.rd (R.ADC_AIN_SHORT n) = 1 ↔ r.code ≤ s.rd (R.ADC_INCFG_SHORT_THR n) ∨ r.unr = true)) ∧ t.ainAge n = 0 ∧ s.Frame [.regs, .adc] t) ∧
  (∀ (s : State) (lin raw : Nat), raw < 4096 → (lin = 0 → s.linearise lin raw = raw) ∧
    (0 < lin → ∃ a, a = (s.rd (R.ADC_LINTAB_E (lin - 1) (raw / 128)) : Int) ∧ ∃ b, b = (s.rd (R.ADC_LINTAB_E (lin - 1) (raw / 128 + 1)) : Int) ∧
      ∃ y, y = (a * 128 + (b - a) * (raw % 128 : Nat) + 64) / 128 ∧
      (s.linearise lin raw : Int) = if y < 0 then 0 else if 4095 < y then 4095 else y))

/-! ### Paddock (08_paddock.md) -/

/-- Without VDD_PAD none of these rows changes anything. With it each changes the Paddock alone, as follows, and where its condition
does not hold it leaves the Paddock as it is: SAFETY_INPUT_FILTER sets a channel's filtered state; DISCREPANT latches on an enabled
input whose channels differ; FB_FAULT and WELD latch on a mismatch of a used output; PROOF_WINDOW_OPEN sets DUE at 32,400,000
rounds; PROOF_DEADLINE starts a test by itself at 43,200,000; PROOF_TEST_END passes the test with the contact open, and otherwise
fails it; SLT trips on its 21st decision, releases after 5 or waits for restart; SLT_SENS sets after 3 and clears after 5; SDIR
releases after 5; SLP_FAULT latches after 3; frost demand turns on and off after 5; CLK_FAULT and LANE_FAULT latch and de-energise
every output; the heartbeat lapses at 32 rounds into REARM with its window of 1,108, the window's end leads to UNARMED, 16 valid
responses to ARMED; a staged block expires; a commit takes effect. -/
def Obligations.PaddockEvents : Prop :=
  (∀ (s : State) (i : Instr), i ∈ [Instr.sltTrip, .sltRelease, .sltSens, .sdirRelease, .slpFault, .frostDemandOn, .frostDemandOff, .clkFault,
    .laneFault, .heartbeatLapse, .rearmWindowEnd, .armed, .stagedBlockExpire, .padCommitActivate] → s.pwr.pad = false → exec i s = .next s) ∧
  (∀ (s : State) (n : Fin 4) (m : Fin 8) (i : Instr), i ∈ [Instr.fbFault n, .weld n, .proofWindowOpen n, .proofDeadline n, .proofTestEnd n,
    .discrepant m, .safetyInputFilter m true false, .safetyInputFilter m false true, .heartbeatResponse 7] → s.pwr.pad = false →
    exec i s = .next s) ∧
  (∀ (s : State) (n : Fin 8) (b c : Bool), s.pwr.pad = true → s.PadStep (.safetyInputFilter n b c) (s.pad.modSin n fun i =>
    if (if b then i.b else i.a) = c then i else if b then { i with b := c, split := 0 } else { i with a := c, split := 0 })) ∧
  (∀ (s : State) (n : Fin 8), s.pwr.pad = true → s.PadStep (.discrepant n)
    (if prmSinEn s.pad.block n = true ∧ (s.pad.sin n).a ≠ (s.pad.sin n).b ∧ (s.pad.sin n).disc = false then
      (s.pad.modSin n fun i => { i with disc := true }).note 3 n 0 clPlant else s.pad)) ∧
  (∀ (s : State) (n : Fin 4), s.pwr.pad = true → s.PadStep (.fbFault n)
    (if (s.pad.outp n).on = true ∧ (s.pad.outp n).fb = false ∧ (s.pad.outp n).fbFault = false ∧ prmRole s.pad.block n ≠ 0 then
      (s.pad.modOut n fun o => { o with fbFault := true }).note 6 n 0 clPlant else s.pad)) ∧
  (∀ (s : State) (n : Fin 4), s.pwr.pad = true → s.PadStep (.weld n)
    (if (s.pad.outp n).on = false ∧ (s.pad.outp n).fb = true ∧ (s.pad.outp n).weld = false ∧ prmRole s.pad.block n ≠ 0 then
      (s.pad.modOut n fun o => { o with weld := true, fell := false }).note 6 n 1 clPlant else s.pad)) ∧
  (∀ (s : State) (n : Fin 4), s.pwr.pad = true → s.PadStep (.proofWindowOpen n)
    (if 32400000 ≤ (s.pad.outp n).age ∧ (s.pad.outp n).due = false ∧ prmRole s.pad.block n ≠ 0 then
      (s.pad.modOut n fun o => { o with due := true }).note 9 n 0 clNone else s.pad)) ∧
  (∀ (s : State) (n : Fin 4), s.pwr.pad = true → s.PadStep (.proofDeadline n)
    (if 43200000 ≤ (s.pad.outp n).age ∧ (s.pad.outp n).test = false ∧ (s.pad.outp n).weld = false ∧ prmRole s.pad.block n ≠ 0 then
      if (s.pad.outp n).on = false ∧ (s.pad.outp n).fb = false then s.pad.pass n
      else (s.pad.modOut n fun o => { o with test := true, testN := 0, cmds := [] }).drive n false
    else s.pad)) ∧
  (∀ (s : State) (n : Fin 4) (l : List Ref), s.pwr.pad = true → (s.pad.outp n).test = true → (s.pad.outp n).cmds = l →
    ∃ q, q = s.pad.modOut n (fun o => { o with test := false, testN := 0, cmds := [] }) ∧
    s.PadStep (.proofTestEnd n) (if (s.pad.outp n).fb = false then
        { q.pass n with res := s.pad.res ++ l.map fun r => ⟨r, stOk, []⟩ }
      else { ((q.modOut n fun o => { o with pass := false, fail := true }).weld n).note 8 n 0 clPlant with
        res := s.pad.res ++ l.map fun r => ⟨r, stFault, []⟩ })) ∧
  (∀ (s : State) (n : Fin 4), s.pwr.pad = true → (s.pad.outp n).test = false → s.PadStep (.proofTestEnd n) s.pad) ∧
  (∀ s : State, s.pwr.pad = true → s.PadStep .sltTrip (if 21 ≤ s.pad.sltHi ∧ s.pad.slt = false then
    { s.pad with slt := true, sltWait := false, sltLo := 0 }.note 4 0 (s.pad.temp 1) clPlant else s.pad)) ∧
  (∀ s : State, s.pwr.pad = true → s.PadStep .sltRelease (if s.pad.sltLo < 5 then s.pad else if s.pad.slt = true then
      if prmSltLatch s.pad.block = true then { s.pad with slt := false, sltWait := true } else { s.pad with slt := false }.note 5 0 0 clNone
    else if s.pad.sltWait = true ∧ s.pad.sltRst = true then { s.pad with sltWait := false }.note 5 0 0 clNone else s.pad)) ∧
  (∀ s : State, s.pwr.pad = true → s.PadStep .sltSens (if 3 ≤ s.pad.opn ∧ s.pad.sens = false then
      { s.pad with sens := true }.note 0 0 0 clPlant
    else if 5 ≤ s.pad.shut ∧ s.pad.sens = true then { s.pad with sens := false } else s.pad)) ∧
  (∀ s : State, s.pwr.pad = true → s.PadStep .sdirRelease (if 5 ≤ s.pad.sdirLo then { s.pad with sdir := false } else s.pad)) ∧
  (∀ s : State, s.pwr.pad = true → s.PadStep .slpFault
    (if prmSlpOn s.pad.block = true ∧ s.pad.slpFault = false ∧ (3 ≤ s.pad.slpEnd ∨ 3 ≤ s.pad.slpErr) then
      { s.pad with slpFault := true }.note 0 0 0 clDegrade else s.pad)) ∧
  (∀ s : State, s.pwr.pad = true → s.PadStep .frostDemandOn (if 5 ≤ s.pad.frLo ∧ s.pad.frost = false ∧ s.pad.flags 0 = 0 then
      { s.pad with frost := true }.note 11 0 1 clNote else s.pad)) ∧
  (∀ s : State, s.pwr.pad = true → s.PadStep .frostDemandOff (if s.pad.frost = true ∧ (5 ≤ s.pad.frHi ∨ s.pad.flags 0 ≠ 0) then
      { s.pad with frost := false }.note 11 0 0 clNone else s.pad)) ∧
  (∀ s : State, s.pwr.pad = true → (s.pad.clk = true → s.PadStep .clkFault s.pad) ∧
    (3 ≤ s.pad.laneBad → s.pad.lane = false → ∃ t, exec .laneFault s = .next t ∧ t.pad.lane = true ∧ t.pad.clk = s.pad.clk ∧
      t.pad.notes = s.pad.notes ++ [⟨14, 0, 0, clPlant⟩] ∧ (∀ n, n < 4 → (t.pad.outp n).on = false) ∧ s.Frame [.regs, .pwr, .pad] t) ∧
    (s.pad.laneBad < 3 ∨ s.pad.lane = true → s.PadStep .laneFault s.pad) ∧
    (s.pad.clk = false → ∃ t, exec .clkFault s = .next t ∧ t.pad.clk = true ∧ t.pad.notes = s.pad.notes ++ [⟨14, 0, 1, clPlant⟩] ∧
      t.pad.lane = s.pad.lane ∧ (∀ n, n < 4 → (t.pad.outp n).on = false) ∧ s.Frame [.regs, .pwr, .pad] t)) ∧
  (∀ s : State, s.pwr.pad = true → s.PadStep .heartbeatLapse (if s.pad.state = 0 ∧ 32 ≤ s.pad.quiet then
    { s.pad with state := 1, window := 1108, hbOk := 0, rearmed := true }.note 10 0 1 clNone else s.pad)) ∧
  (∀ s : State, s.pwr.pad = true → s.PadStep .rearmWindowEnd (if s.pad.state = 1 ∧ s.pad.window = 0 then
    { s.pad with state := 2 }.note 10 0 2 clNone else s.pad)) ∧
  (∀ s : State, s.pwr.pad = true → s.PadStep .armed (if s.pad.state ≠ 0 ∧ 16 ≤ s.pad.hbOk then
    { s.pad with state := 0, quiet := 0, window := 0, rearmed := false }.note 10 0 0 (if s.pad.rearmed = true then clDegrade else clNone)
    else s.pad)) ∧
  (∀ s : State, s.pwr.pad = true → s.PadStep .stagedBlockExpire (if s.pad.staged.map (·.left) = some 0 then
    { s.pad with staged := none } else s.pad)) ∧
  (∀ s : State, s.pwr.pad = true → s.pad.writing = none → s.PadStep .padCommitActivate s.pad) ∧
  (∀ (s : State) (w : PadWrite), s.pwr.pad = true → s.pad.writing = some w → ∃ t, exec .padCommitActivate s = .next t ∧
    t.pad.active = some w.block ∧ t.pad.writing = none ∧ t.pad.offRound = true ∧ t.pad.state = s.pad.state ∧
    (∀ n, n < 4 → (t.pad.outp n).on = false ∧ (t.pad.outp n).test = false) ∧
    (∀ n, n < 8 → (t.pad.sin n).stop = ((s.pad.sin n).stop || (!prmSinEn s.pad.block n && prmSinEn w.block n))) ∧
    (t.pad.sltHi, t.pad.sltLo, t.pad.sdir, t.pad.sdirLo) = (s.pad.sltHi, s.pad.sltLo, s.pad.sdir, s.pad.sdirLo) ∧
    (t.pad.slpEnd, t.pad.slpErr, t.pad.slpFault) = (s.pad.slpEnd, s.pad.slpErr, s.pad.slpFault) ∧
    t.pad.res.getLast? = some ⟨w.cmd, stOk, []⟩ ∧ s.Frame [.regs, .pwr, .pad] t)

/-- A round end takes the feedback, the end stop and the proposal; after it no stopped output is energised, no output is energised under
LANE_FAULT or CLK_FAULT, the ceiling is at most the Paddock's own, and one round of every ten is a decision. An output is energised
only when R218 decides it and neither lane de-energises it. A stop is each cause of R218, REFUSE and INHIBIT are those of R224. The
response to C is C rotated left by 5, XOR 0x5A3C; a valid one counts HB_OK, a wrong one HB_BAD, sets HB_OK to 0 and takes ARMED to
REARM. PAD_STAGE, PAD_COMMIT, PAD_CANCEL, PAD_PROOF and PAD_RESTART go to the mailbox, or are refused as Table 8-18 says. The Paddock
stages a block with its check value and first bad byte, counts wrong check values and drops the block at the third, and refuses a
block that fails Table 8-7, a missing block, or a commit under a latched fault; a good one starts the store write. -/
def Obligations.PaddockRound : Prop :=
  (∀ (s : State) (i : RoundIn), s.pwr.pad = false → exec (.roundEnd i) s = .next s) ∧
  (∀ (s : State) (i : RoundIn), s.pwr.pad = true → ∃ t, exec (.roundEnd i) s = .next t ∧ t.pad.endh = i.endh ∧ t.pad.prop = none ∧
    (∀ n, n < 4 → (t.pad.outp n).fb = i.pfb.getLsbD n ∧ ((t.pad.outp n).on = true → (t.pad.outp n).stop = false ∧ i.off.getLsbD n = false)) ∧
    (t.pad.lane = true ∨ t.pad.clk = true → ∀ n, n < 4 → (t.pad.outp n).on = false) ∧
    t.pad.ceil ≤ i.ceil.toNat ∧ (i.inh = true → t.pad.inhibit = true) ∧
    t.pad.phase = (if s.pad.phase + 1 < 10 then s.pad.phase + 1 else 0) ∧
    (s.pad.phase + 1 < 10 → (t.pad.pts0, t.pad.pts1, t.pad.pos) = (s.pad.pts0, s.pad.pts1, s.pad.pos)) ∧
    (10 ≤ s.pad.phase + 1 → t.pad.decided = true ∧ (t.pad.pts0, t.pad.pts1, t.pad.pos) = (i.pts0.toNat, i.pts1.toNat, i.pos.toNat)) ∧
    s.Frame [.regs, .free, .pwr, .pad] t) ∧
  (∀ (s : State) (i : RoundIn) (x : Nat × Nat × Bool × Bool), s.pwr.pad = true → s.pad.prop = some x →
    ∃ t, exec (.roundEnd i) s = .next t ∧ (t.pad.dem, t.pad.flow, t.pad.call, t.pad.remStop) = x) ∧
  (∀ (p : Pad) (i : RoundIn) (n : Nat), n < 4 → ((p.outputs i).outp n).on = true →
    p.plant n = true ∧ p.stops n = false ∧ i.off.getLsbD n = false ∧ p.offRound = false ∧ (p.outp n).test = false) ∧
  (∀ (p : Pad) (n : Nat), p.stops n = true ↔
    (∃ i ∈ List.range 8, prmSinEn p.block i = true ∧ ((p.sin i).stop = true ∨ (p.sin i).disc = true) ∧ prmSinStops p.block i n = true) ∨
    (p.remStop = true ∨ p.state ≠ 0) ∧ prmRem p.block n = true ∨ prmRole p.block n = 1 ∧ (p.slt = true ∨ p.sltWait = true) ∨
    (p.outp n).fbFault = true ∨ (∃ k ∈ List.range 4, (p.outp k).weld = true ∧ prmGroup p.block k = prmGroup p.block n) ∨
    p.lane = true ∨ p.clk = true ∨ prmRole p.block n = 0) ∧
  (∀ (p : Pad) (n : Nat), p.plant n = true ↔ p.stops n = false ∧ (p.outp n).test = false ∧ p.offRound = false ∧
    (p.state = 0 ∧ p.active ≠ none ∧ bit p.dem n = true ∧ ¬ (prmRole p.block n = 1 ∧ (p.sens = true ∨ p.decided = false)) ∨
      p.state = 1 ∧ (p.outp n).on = true ∨
      p.frost = true ∧ (prmRole p.block n = 2 ∨ prmRole p.block n = 1 ∧ p.decided = true ∧ (p.sens = false ∨ prmFrostHs p.block = true)))) ∧
  (∀ p : Pad, (p.inhibits = true ↔ p.sdir = true ∧ prmMixEn p.block = true ∨ p.slt = true ∨ p.sltWait = true ∨ p.slpActs = true) ∧
    (p.refuses = true ↔ ∀ n ∈ List.range 4, prmRole p.block n = 1 → { p with dem := 15, frost := false, state := if p.state = 0 then 0 else 2 }.plant n = false) ∧
    (prmPvEn p.block = true → p.ceiling = if p.refuses = true then 0 else if p.sdir = true ∧ prmMixEn p.block = true then prmPvNear p.block
      else prmPvCeil p.block)) ∧
  (∀ c : BitVec 16, heartbeat c.toNat = (c.rotateLeft 5 ^^^ 0x5A3C).toNat) ∧
  (∀ (s : State) (v : BitVec 16), s.pwr.pad = true → s.pad.chalDue = false → s.pad.chalAge < 16 → v.toNat = heartbeat s.pad.chal →
    ∃ q : Pad, q = { s.pad with hbOk := min 255 (s.pad.hbOk + 1), quiet := 0, chalDue := true } ∧
    s.PadStep (.heartbeatResponse v) (if s.pad.state ≠ 0 ∧ 15 ≤ s.pad.hbOk then
      { q with state := 0, window := 0, rearmed := false }.note 10 0 0 (if s.pad.rearmed = true then clDegrade else clNone) else q)) ∧
  (∀ (s : State) (v : BitVec 16), s.pwr.pad = true → s.pad.chalDue = false → v.toNat ≠ heartbeat s.pad.chal →
    ∃ q : Pad, q = { s.pad with hbBad := min 255 (s.pad.hbBad + 1), hbOk := 0 } ∧
    s.PadStep (.heartbeatResponse v) (if s.pad.state = 0 then
      { q with state := 1, window := 1108, rearmed := true }.note 10 0 1 clNone else q)) ∧
  (∀ (s : State) (c : Cmd), s.Ready c →
    (c.payload.length = 56 → 24 ≤ c.ch.val → s.on R.PWR_STAT_PFSEQ = false → ∃ t, exec (.padStage c) s = .next t ∧ s.Holds c 0x40 t ∧
      t.pad = { s.pad with out := s.pad.out ++ [⟨s.refOf c 0x40, c.payload⟩] } ∧ s.Frame [.spoke, .pad] t) ∧
    (c.payload.length = 4 → c.ch = 24 → ∃ t, exec (.padCommit c) s = .next t ∧ s.Holds c 0x41 t ∧
      t.pad = { s.pad with out := s.pad.out ++ [⟨s.refOf c 0x41, c.payload⟩] } ∧ s.Frame [.spoke, .pad] t) ∧
    (c.payload = [] → ∃ t, exec (.padCancel c) s = .next t ∧ s.Holds c 0x42 t ∧
      t.pad = { s.pad with out := s.pad.out ++ [⟨s.refOf c 0x42, []⟩] } ∧ s.Frame [.spoke, .pad] t) ∧
    (c.payload.length = 1 → u8 c.payload 0 ≤ 3 → ∃ t, exec (.padProof c) s = .next t ∧ s.Holds c 0x43 t ∧
      t.pad = { s.pad with out := s.pad.out ++ [⟨s.refOf c 0x43, c.payload⟩] } ∧ s.Frame [.spoke, .pad] t) ∧
    (c.payload.length = 2 → u16 c.payload 0 ≠ 0 → bits (u16 c.payload 0) 10 2 = 0 → 24 ≤ c.ch.val → c.ch.val ≤ 30 →
      ∃ t, exec (.padRestart c) s = .next t ∧ s.Holds c 0x44 t ∧
      t.pad = { s.pad with out := s.pad.out ++ [⟨s.refOf c 0x44, c.payload⟩] } ∧ s.Frame [.spoke, .pad] t)) ∧
  (∀ (s : State) (c : Cmd), s.Ready c → (c.payload.length ≠ 56 → s.Refuses (.padStage c) c 0x40 stBadLength) ∧
    (c.payload.length = 56 → c.ch.val < 24 → s.Refuses (.padStage c) c 0x40 stNotPermitted) ∧
    (c.payload.length ≠ 4 → s.Refuses (.padCommit c) c 0x41 stBadLength) ∧
    (c.payload.length = 4 → c.ch ≠ 24 → s.Refuses (.padCommit c) c 0x41 stNotPermitted) ∧
    (c.payload ≠ [] → s.Refuses (.padCancel c) c 0x42 stBadLength) ∧
    (c.payload.length ≠ 1 → s.Refuses (.padProof c) c 0x43 stBadLength) ∧
    (c.payload.length = 1 → 3 < u8 c.payload 0 → s.Refuses (.padProof c) c 0x43 stBadParam) ∧
    (c.payload.length ≠ 2 → s.Refuses (.padRestart c) c 0x44 stBadLength) ∧
    (c.payload.length = 2 → u16 c.payload 0 = 0 ∨ bits (u16 c.payload 0) 10 2 ≠ 0 → s.Refuses (.padRestart c) c 0x44 stBadParam) ∧
    (c.payload.length = 2 → u16 c.payload 0 ≠ 0 → bits (u16 c.payload 0) 10 2 = 0 → c.ch.val < 24 ∨ c.ch.val = 31 →
      s.Refuses (.padRestart c) c 0x44 stNotPermitted)) ∧
  (∀ (p : Pad) (r : Ref) (b : Bytes), r.op = 0x40 → p.take ⟨r, b⟩ =
    { p with staged := some ⟨b, 332000, 0⟩, res := p.res ++ [⟨r, stOk, le 4 (crc32 b) ++ [BitVec.ofNat 8 (prmFirstBad b)]⟩] }) ∧
  (∀ (p : Pad) (r : Ref) (b : Bytes), r.op = 0x41 → p.staged = none →
    p.take ⟨r, b⟩ = { p with res := p.res ++ [⟨r, stNotPermitted, []⟩] }) ∧
  (∀ (p : Pad) (r : Ref) (b : Bytes) (g : PadStaged), r.op = 0x41 → p.staged = some g →
    (u32 b 0 ≠ crc32 g.block → p.take ⟨r, b⟩ = { p with
      staged := if g.tries < 2 then some { g with tries := g.tries + 1 } else none, res := p.res ++ [⟨r, stBadParam, [0xFF]⟩] }) ∧
    (u32 b 0 = crc32 g.block → prmFirstBad g.block ≠ 0xFF →
      p.take ⟨r, b⟩ = { p with res := p.res ++ [⟨r, stBadParam, [BitVec.ofNat 8 (prmFirstBad g.block)]⟩] }) ∧
    (u32 b 0 = crc32 g.block → prmFirstBad g.block = 0xFF → p.lane = true ∨ p.clk = true →
      p.take ⟨r, b⟩ = { p with res := p.res ++ [⟨r, stNotPermitted, []⟩] }) ∧
    (u32 b 0 = crc32 g.block → prmFirstBad g.block = 0xFF → p.lane = false → p.clk = false →
      p.take ⟨r, b⟩ = { p with staged := none, writing := some ⟨g.block, r, 0⟩, res := p.res ++ [⟨r, stAccepted, []⟩] })) ∧
  (∀ (s : State) (e : PadNote), s.padReport e = (let u := if e.kind = 0 then s else s.note 0x40 e.kind e.unit e.data
    if e.cls = 6 then u.hayAsk 249 (.odInc (3 + e.unit) none) else if e.cls = clNone then u else u.fault e.cls 0x40 e.kind e.unit e.data))

/-! ### Bus ports and Golposen (09_bus_golposen.md) -/

/-- Port events: a frame that ends on a running port whose DE is low waits with its receive tick; an overflow counts and queues a NOTE;
a client timeout reports BUS_RX kind 2 and lets the next request go; Reply Postponed is sent; a lost token counts, queues a NOTE and
leads to Poll For Master; a partial Spoke frame goes after a stage; the last stop bit lowers DE when nothing waits, starts the response
timeout and answers BUS_TX. A host producer sends its PDU, numbered one higher, as GP_TX on its channel. A watchdog that has run out
fails its connection with WHY 1. Table 9-5: a PDU for a matched consumer is accepted, or discarded and counted, or fails the
connection with its WHY; a PDU of no consumer counts as corrupt for every candidate, or as UNMATCHED. REM_RUN is 1 exactly when some
enabled PADSTOP consumer exists and each is in RUN with bit 0 set. BUS_PORT_CTL starts and stops a port, BUS_TX queues a frame,
BUS_GP_RESTART restarts what it names, BUS_GP_PDU is judged, BUS_SAVE asks for the stored image; a wrong length is BAD_LENGTH. -/
def Obligations.BusPorts : Prop :=
  (∀ (s : State) (p : Fin 2) (d : Bytes) (e : Bool), s.busOn p = true → (s.busPort p).de = false → ∃ t, exec (.busFrameEnd p d e) s = .next t ∧
    t.busPort p = { s.busPort p with rx := (s.busPort p).rx ++ [⟨d, e, s.ticks⟩] } ∧ t.busPort (1 - p.val) = s.busPort (1 - p.val) ∧
    t.bus.conns = s.bus.conns ∧ s.Frame [.bus] t) ∧
  (∀ (s : State) (p : Fin 2) (d : Bytes) (e : Bool), s.busOn p = false ∨ (s.busPort p).de = true →
    exec (.busFrameEnd p d e) s = .next s ∧ exec (.busRxOverflow p d) s = .next s) ∧
  (∀ (s : State) (p : Fin 2) (d : Bytes), s.busOn p = true → (s.busPort p).de = false →
    ∃ u, u = (s.wr (R.BUS_CNT_OVERFLOW p) (min 0xFFFF (s.rd (R.BUS_CNT_OVERFLOW p) + 1))).modBus p (fun x => { x with disc := x.disc + 1 }) ∧
    exec (.busRxOverflow p d) s = .next ((if (s.busPort p).disc = 64 then u.fault clNote 0x48 0 0 0 else u).fault clNote 0x48 0 0 0)) ∧
  (∀ (s : State) (p : Fin 2) (o : BusOut) (d : Nat), s.busOn p = true → s.rd (R.BUS_CFG_MODE p) = 3 → (s.busPort p).out = some o → o.due = some d →
    (s.busPort p).send = [] → ∃ t, exec (.modbusClientTimeout p) s = .next t ∧ t.busPort p = { s.busPort p with out := none } ∧
    s.Fields [(R.BUS_CNT_TIMEOUT p, min 0xFFFF (s.rd (R.BUS_CNT_TIMEOUT p) + 1))] t ∧
    s.Raises 0x48 (le 1 p ++ le 1 2 ++ le 1 o.dest ++ le 1 0) t ∧ s.Frame [.regs, .spoke, .bus] t) ∧
  (∀ (s : State) (p : Fin 2) (o : BusOut) (d : Nat) (f : HostFrame) (rest : List BusSend), s.busOn p = true → s.rd (R.BUS_CFG_MODE p) = 3 →
    (s.busPort p).out = some o → o.due = some d → (s.busPort p).send = .host f :: rest → ∃ t, exec (.modbusClientTimeout p) s = .next t ∧
    t.busPort p = { s.busPort p with send := rest, out := some ⟨f.dest, false, none⟩, de := true, tx := (s.busPort p).tx ++ [⟨modbusFrame f.dest f.data, some f.cmd⟩] }) ∧
  (∀ (s : State) (p : Fin 2), s.busOn p = false ∨ s.rd (R.BUS_CFG_MODE p) ≠ 3 ∨ (s.busPort p).out = none →
    exec (.modbusClientTimeout p) s = .next s) ∧
  (∀ (s : State) (p : Fin 2) (src n : Nat), (s.busPort p).expect = some (src, n) → ∃ t, exec (.replyPostponed p) s = .next t ∧
    t.busPort p = { s.busPort p with expect := none, de := true, tx := (s.busPort p).tx ++ [⟨mstpFrame 7 src (s.rd (R.BUS_CFG_ADDR p)) [], none⟩] } ∧ s.Frame [.bus] t) ∧
  (∀ (s : State) (p : Fin 2), (s.busPort p).expect = none → exec (.replyPostponed p) s = .next s) ∧
  (∀ (s : State) (p : Fin 2), s.busOn p = true → s.rd (R.BUS_CFG_MODE p) = 1 → s.pwr.held = false →
    ∃ u, u = (s.wr (R.BUS_CNT_TIMEOUT p) (min 0xFFFF (s.rd (R.BUS_CNT_TIMEOUT p) + 1))).fault clNote 0x48 0 0 0 ∧
    exec (.mstpTokenLost p) s = .next ((u.modBus p fun x => { x with nextStation := none, token := false }).mstpPoll p
      (if s.rd (R.BUS_CFG_MAX_MASTER p) ≤ s.rd (R.BUS_CFG_ADDR p) then 0 else s.rd (R.BUS_CFG_ADDR p) + 1))) ∧
  (∀ (s : State) (p : Fin 2), s.busOn p = false ∨ s.rd (R.BUS_CFG_MODE p) ≠ 1 → exec (.mstpTokenLost p) s = .next s) ∧
  (∀ (s : State) (p : Fin 2), ∃ t, exec (.busPartialFrameDiscard p) s = .next t ∧ s.Frame [.spoke, .host] t ∧
    (s.ticks < (s.busPort p).spokeAt + 1024 ∨ (s.rxPath (p + 1)).part = [] → t = s) ∧
    ((s.busPort p).spokeAt + 1024 ≤ s.ticks → (s.rxPath (p + 1)).part ≠ [] → t = s.rxDiscard (p + 1))) ∧
  (∀ (s : State) (p : Fin 2) (f : TxFrame) (rest : List TxFrame), (s.busPort p).tx = f :: rest →
    ∃ u, u = s.modBus p (fun x => { x with tx := rest, de := !rest.isEmpty, out := x.out.map fun o =>
      if o.due = none then { o with due := some (s.ticks + msTicks (s.rd (R.BUS_CFG_RSP_TMO p))) } else o }) ∧
    exec (.busTxDone p) s = .next (match f.cmd with
      | none => u
      | some r => u.finish r stOk)) ∧
  (∀ (s : State) (p : Fin 2), (s.busPort p).tx = [] → exec (.busTxDone p) s = .next s) ∧
  (∀ (s : State) (n : Fin 16), s.rd (R.BUS_GP_CFG_EN n) = 1 → s.rd (R.BUS_GP_CFG_DIR n) = 1 → s.rd (R.BUS_GP_CFG_TRANSPORT n) = 2 →
    ∃ seq : Nat, seq = (if (s.conn n).begun = true then (s.rd (R.BUS_GP_STAT_LAST_SEQ n) + 1) % 65536 else 0) ∧
    ∃ b : Bytes, b = le 1 (s.rd (R.BUS_GP_CFG_LEN n)) ++ le 2 seq ++ le 4 (s.ticks % 2 ^ 32) ++ le 2 (s.rd (R.BUS_GP_CFG_WDT n)) ++
      le (s.rd (R.BUS_GP_CFG_LEN n)) (s.rd (R.BUS_GP_DATA_DATA n)) ∧
    ∃ ch : Nat, ch = s.rd (R.BUS_GP_CFG_ADDR n) % 16 ∧ ∃ t, exec (.golposenSend n) s = .next t ∧
    t.chan ch = raiseOn ch 0x4A (le 1 n ++ b ++ le 4 (crc32 (le 2 (s.rd (R.BUS_GP_CFG_IDENT n)) ++ b))) (s.chan ch) ∧
    s.Fields [(R.BUS_GP_STAT_LAST_TS n, s.ticks % 2 ^ 32), (R.BUS_GP_STAT_LAST_SEQ n, seq)] t ∧
    t.conn n = { s.conn n with begun := true, sentAt := s.ticks } ∧ s.Frame [.regs, .spoke, .bus] t) ∧
  (∀ (s : State) (n : Fin 16) (p : Nat), s.rd (R.BUS_GP_CFG_EN n) = 1 → s.rd (R.BUS_GP_CFG_DIR n) = 1 → s.rd (R.BUS_GP_CFG_TRANSPORT n) = p →
    p < 2 → s.busOn p = true → s.rd (R.BUS_CFG_MODE p) = 3 → ∃ t, exec (.golposenSend n) s = .next t ∧
    t.busPort p = { s.busPort p with send := (s.busPort p).send ++ [.gp n] } ∧ t.conn n = { s.conn n with sentAt := s.ticks } ∧ s.Frame [.bus] t) ∧
  (∀ (s : State) (n : Fin 16), s.rd (R.BUS_GP_CFG_EN n) ≠ 1 ∨ s.rd (R.BUS_GP_CFG_DIR n) ≠ 1 → exec (.golposenSend n) s = .next s) ∧
  (∀ (s : State) (n : Fin 16), s.rd (R.BUS_GP_CFG_EN n) = 1 → s.rd (R.BUS_GP_CFG_DIR n) ≠ 1 →
    s.rd (R.BUS_GP_STAT_STATE n) = 1 ∨ s.rd (R.BUS_GP_STAT_STATE n) = 2 →
    (s.rd (R.BUS_GP_CFG_WDT n) * 1024 + 999) / 1000 ≤ s.ticks - (s.conn n).last → exec (.golposenWatchdog n) s =
      .next ((s.gpState n 3 1).fault (if s.rd (R.BUS_GP_CFG_PADSTOP n) = 1 then clPlant else clDegrade) 0x48 0 0 0)) ∧
  (∀ (s : State) (n : Fin 16), s.rd (R.BUS_GP_CFG_EN n) ≠ 1 ∨ s.rd (R.BUS_GP_CFG_DIR n) = 1 ∨
    s.ticks - (s.conn n).last < (s.rd (R.BUS_GP_CFG_WDT n) * 1024 + 999) / 1000 → exec (.golposenWatchdog n) s = .next s) ∧
  (∀ (s : State) (c w : Nat) (k : Nat), s.rd (R.BUS_GP_CFG_DIR c) ≠ 1 → s.rd (R.BUS_GP_STAT_STATE c) ≠ k → k < 4 → k ≠ 2 →
    ∃ t, t = s.gpState c k w ∧ s.Raises 0x49 [BitVec.ofNat 8 c, BitVec.ofNat 8 k, BitVec.ofNat 8 w, 0] t ∧
    s.Fields [(R.BUS_GP_DATA_DATA c, 0), (R.BUS_STAT_GP_FAILED, setBit (s.rd R.BUS_STAT_GP_FAILED) c (k == 3)),
      (R.BUS_STAT_GP_RUN, setBit (s.rd R.BUS_STAT_GP_RUN) c false), (R.BUS_GP_STAT_WHY c, w), (R.BUS_GP_STAT_STATE c, k)] t ∧
    s.Frame [.regs, .spoke] t) ∧
  (∀ (s : State) (c : Nat) (b : Bytes) (rt seq ts d : Nat) (dt : Int), seq = u16 b 1 → ts = u32 b 3 →
    d = (seq + 65536 - s.rd (R.BUS_GP_STAT_LAST_SEQ c)) % 65536 → dt = signed 32 (ts + 2 ^ 32 - s.rd (R.BUS_GP_STAT_LAST_TS c)) →
    s.rd (R.BUS_GP_STAT_STATE c) = 2 → u8 b 0 % 32 = s.rd (R.BUS_GP_CFG_LEN c) → u16 b 7 = s.rd (R.BUS_GP_CFG_WDT c) →
    s.gpJudge c b rt = if d = 0 then s.wr (R.BUS_GP_STAT_REPEAT c) (min 255 (s.rd (R.BUS_GP_STAT_REPEAT c) + 1))
      else if 32768 ≤ d then s.wr (R.BUS_GP_STAT_OLD c) (min 255 (s.rd (R.BUS_GP_STAT_OLD c) + 1))
      else if s.rd (R.BUS_GP_CFG_LOSS_MAX c) + 1 < d then s.gpFail c 4
      else if dt ≤ 0 then s.gpFail c 5
      else if (s.rd (R.BUS_GP_CFG_DLY_MAX c) : Int) < ((rt : Int) - (s.conn c).last) - dt then
        s.wr (R.BUS_GP_STAT_DELAYED c) (min 255 (s.rd (R.BUS_GP_STAT_DELAYED c) + 1))
      else (s.wr (R.BUS_GP_STAT_LOST c) (min 255 (s.rd (R.BUS_GP_STAT_LOST c) + (d - 1)))).gpAccept c seq ts rt (sub b 9 (s.rd (R.BUS_GP_CFG_LEN c)))) ∧
  (∀ (s : State) (c : Nat) (b : Bytes) (rt : Nat), (s.rd (R.BUS_GP_STAT_STATE c) = 3 → s.gpJudge c b rt = s) ∧
    (s.rd (R.BUS_GP_STAT_STATE c) ≠ 3 → u8 b 0 % 32 ≠ s.rd (R.BUS_GP_CFG_LEN c) ∨ u16 b 7 ≠ s.rd (R.BUS_GP_CFG_WDT c) → s.gpJudge c b rt = s.gpFail c 3) ∧
    (s.rd (R.BUS_GP_STAT_STATE c) = 1 → u8 b 0 % 32 = s.rd (R.BUS_GP_CFG_LEN c) → u16 b 7 = s.rd (R.BUS_GP_CFG_WDT c) →
      s.gpJudge c b rt = s.gpAccept c (u16 b 1) (u32 b 3) rt (sub b 9 (s.rd (R.BUS_GP_CFG_LEN c))))) ∧
  (∀ (s : State) (tr : Nat) (path : Option Nat) (b : Bytes) (rt : Nat) (cand : List Nat),
    cand = (List.range 16).filter (fun c => s.rd (R.BUS_GP_CFG_EN c) = 1 && s.rd (R.BUS_GP_CFG_DIR c) ≠ 1 && s.rd (R.BUS_GP_CFG_TRANSPORT c) = tr &&
      (path = none || path = some (s.rd (R.BUS_GP_CFG_ADDR c)))) →
    (16 < u8 b 0 ∨ b.length ≠ 13 + u8 b 0 → s.gpReceive tr path b rt = s.each cand State.gpCorrupt) ∧
    (u8 b 0 ≤ 16 → b.length = 13 + u8 b 0 → (∀ c ∈ List.range 16, s.consumes c = true →
        gpCrc (s.rd (R.BUS_GP_CFG_IDENT c)) (b.take (9 + u8 b 0)) ≠ sub b (9 + u8 b 0) 4) → s.gpReceive tr path b rt =
      if cand = [] ∧ tr < 2 then s.wr (R.BUS_CNT_UNMATCHED tr) (min 0xFFFF (s.rd (R.BUS_CNT_UNMATCHED tr) + 1)) else s.each cand State.gpCorrupt)) ∧
  (∀ s : State, s.Frame [.regs] s.remRun ∧ (∀ k, k ≠ R.BUS_STAT_REM_RUN → s.remRun.rd k = s.rd k) ∧ (s.remRun.rd R.BUS_STAT_REM_RUN = 1 ↔
    (∃ c ∈ List.range 16, s.rd (R.BUS_GP_CFG_EN c) = 1 ∧ s.rd (R.BUS_GP_CFG_DIR c) ≠ 1 ∧ s.rd (R.BUS_GP_CFG_PADSTOP c) = 1) ∧
    (∀ c ∈ List.range 16, s.rd (R.BUS_GP_CFG_EN c) = 1 → s.rd (R.BUS_GP_CFG_DIR c) ≠ 1 → s.rd (R.BUS_GP_CFG_PADSTOP c) = 1 →
      s.rd (R.BUS_GP_STAT_STATE c) = 2 ∧ s.rd (R.BUS_GP_DATA_DATA c) % 2 = 1))) ∧
  (∀ (s : State) (c : Cmd) (p : Nat), s.Ready c → c.payload = le 1 p ++ le 1 1 → p < 2 → s.rd (R.BUS_CFG_MODE p) ≠ 0 → s.busOn p = false →
    s.rd R.PWR_STAT_PFSEQ ≠ 1 → s.limp = false → ∃ t, exec (.busPortCtl c) s = .next t ∧ s.Answers c 0x48 stOk [] t ∧
    s.Fields [(busOnField p, 1)] t ∧ t.busPort p = { spokeAt := s.ticks } ∧ t.bus.conns = s.bus.conns ∧ s.Frame [.regs, .spoke, .bus] t) ∧
  (∀ (s : State) (c : Cmd) (p : Nat), s.Ready c → c.payload = le 1 p ++ le 1 0 → p < 2 → s.consumersOf p = [] → (s.busPort p).refs = [] →
    s.rd R.PWR_STAT_PFSEQ ≠ 1 → s.limp = false → s.busOn p = true → ∃ t, exec (.busPortCtl c) s = .next t ∧ s.Answers c 0x48 stOk [] t ∧
    s.Fields [(busOnField p, 0)] t ∧ t.busPort p = {} ∧ s.Frame [.regs, .spoke, .bus] t) ∧
  (∀ (s : State) (c : Cmd), s.Ready c → (c.payload.length ≠ 2 → s.Refuses (.busPortCtl c) c 0x48 stBadLength) ∧
    (c.payload.length = 2 → 1 < u8 c.payload 0 ∨ 1 < u8 c.payload 1 ∨ u8 c.payload 1 = 1 ∧ s.rd (R.BUS_CFG_MODE (u8 c.payload 0)) = 0 →
      s.Refuses (.busPortCtl c) c 0x48 stBadParam)) ∧
  (∀ (s : State) (c : Cmd) (p dest ft : Nat) (d : Bytes), s.Ready c → c.payload = le 1 p ++ le 1 0 ++ le 1 dest ++ le 1 ft ++ d → p < 2 →
    dest < 256 → ft < 256 → 2 ≤ s.rd (R.BUS_CFG_MODE p) → d ≠ [] → d.length ≤ 253 → u8 d 0 ≠ 0x41 → u8 d 0 ≠ 0x42 → s.busOn p = true →
    (s.busPort p).send = [] → ∃ t, exec (.busTx c) s = .next t ∧ s.Holds c 0x49 t ∧
    t.busPort p = { s.busPort p with send := [.host ⟨s.refOf c 0x49, false, dest, ft, d⟩] } ∧ s.Frame [.spoke, .bus] t) ∧
  (∀ (s : State) (c : Cmd), s.Ready c → (c.payload = [] → s.Refuses (.busTx c) c 0x49 stBadLength) ∧
    (c.payload ≠ [] → 1 < u8 c.payload 0 → s.Refuses (.busTx c) c 0x49 stBadParam) ∧
    (4 < c.payload.length → c.payload.length ≤ 257 → u8 c.payload 0 ≤ 1 → 2 ≤ s.rd (R.BUS_CFG_MODE (u8 c.payload 0)) →
      u8 c.payload 4 = 0x41 ∨ u8 c.payload 4 = 0x42 → s.Refuses (.busTx c) c 0x49 stBadParam) ∧
    (4 < c.payload.length → c.payload.length ≤ 257 → u8 c.payload 0 ≤ 1 → u8 c.payload 1 = 0 → 2 ≤ s.rd (R.BUS_CFG_MODE (u8 c.payload 0)) →
      u8 c.payload 4 ≠ 0x41 → u8 c.payload 4 ≠ 0x42 → s.busOn (u8 c.payload 0) = false → s.Refuses (.busTx c) c 0x49 stNotPermitted)) ∧
  (∀ (s : State) (c : Cmd) (k : Nat), s.Ready c → c.payload = le 2 (2 ^ k) → k < 16 → s.rd (R.BUS_GP_CFG_EN k) = 1 → s.rd (R.BUS_GP_CFG_DIR k) ≠ 1 →
    s.rd (R.BUS_GP_STAT_STATE k) = 3 → s.rd (R.BUS_GP_CFG_PADSTOP k) ≠ 1 ∨ (24 ≤ c.ch.val ∧ c.ch.val ≤ 30) → (∀ n ∈ List.range 32, wants n 0x49 (s.chan n) = false) →
    ∃ t, exec (.busGpRestart c) s = .next t ∧ s.Answers c 0x4A stOk (le 2 (2 ^ k)) t ∧ t.rd (R.BUS_GP_STAT_STATE k) = 1 ∧
    t.rd (R.BUS_GP_STAT_WHY k) = 0 ∧ t.conn k = { last := s.ticks, sentAt := s.ticks } ∧ s.Frame [.regs, .spoke, .bus] t) ∧
  (∀ (s : State) (c : Cmd), s.Ready c → (c.payload.length ≠ 2 → s.Refuses (.busGpRestart c) c 0x4A stBadLength) ∧
    (c.payload = [0, 0] → s.Refuses (.busGpRestart c) c 0x4A stBadParam) ∧
    (c.payload.length = 2 → u16 c.payload 0 ≠ 0 → (∃ k ∈ List.range 16, bit (u16 c.payload 0) k = true ∧ s.rd (R.BUS_GP_CFG_PADSTOP k) = 1) →
      c.ch.val < 24 ∨ c.ch.val = 31 → s.Refuses (.busGpRestart c) c 0x4A stNotPermitted)) ∧
  (∀ (s : State) (c : Cmd), s.Ready c → 13 ≤ c.payload.length → c.payload.length ≤ 29 → c.ch.val ≤ 15 → (∀ n ∈ List.range 16, s.consumes n = false) →
    ∃ t, exec (.busGpPdu c) s = .next t ∧ s.Answers c 0x4B stOk [] t ∧ s.Frame [.spoke] t) ∧
  (∀ (s : State) (c : Cmd), s.Ready c → (c.payload.length < 13 ∨ 29 < c.payload.length → s.Refuses (.busGpPdu c) c 0x4B stBadLength) ∧
    (13 ≤ c.payload.length → c.payload.length ≤ 29 → 15 < c.ch.val → s.Refuses (.busGpPdu c) c 0x4B stNotPermitted)) ∧
  (∀ (s : State) (c : Cmd), s.Ready c → c.payload = [] → s.gatesClosed = false → ∃ t, exec (.busSave c) s = .next t ∧ s.Accepts c 0x4C t ∧
    t.hay = { s.hay with
      nextId := s.hay.nextId + 1
      reqs := s.hay.reqs ++ [⟨s.hay.nextId, 249, .save (some (s.refOf c 0x4C)) [] [(0x62, s.attrImage busAttrs)], s.ticks, false⟩] } ∧
    s.Frame [.spoke, .hay] t) ∧
  (∀ (s : State) (c : Cmd), s.Ready c → c.payload ≠ [] → s.Refuses (.busSave c) c 0x4C stBadLength)

/-! ### Hayloft (10_hayloft.md) -/

/-- A phase that ends moves the write of Table 10-3: mark, up to three erase pulses, up to two program pulses; when the last has passed,
the page holds the new image and no other page has changed; a failed third erase or second program ends the write as failed, no page
changed. HAYLOFT_WRITE_END releases a write that has ended and answers its owner. A log page is asked for once when it is due; an
OVERFLOW record takes the next SEQ and carries COUNT, FIRST and LAST. HAY_READ and HAY_LOG_READ wait in queue 248, HAY_WRITE and
HAY_OD_INC are ACCEPTED and wait there, a full queue is QUEUE_FULL; HAY_WRITE without data is OK at once, outside the customer region,
or with NVM_WP low for a page below BOUND whose content it would change, NOT_PERMITTED. HAY_LOG_APPEND queues the record with the next
SEQ and answers it. HAY_LOG_FLUSH answers OK at once, or is ACCEPTED and waits for what is not committed. During recall each is BUSY. -/
def Obligations.Hayloft : Prop :=
  (∀ (s : State) (v : Bool), (∀ w ∈ s.hay.cur, w.ended = true ∨ w.go = false ∧ s.pwr.held = false) →
    exec (.hayloftPhaseEnd v) s = .next s) ∧
  (∀ (s : State) (v : Bool) (w : HayWrite), s.hay.cur = some w → w.ended = false → w.failed = false → w.go = true ∨ s.pwr.held = true →
    ∃ u, u = phaseEnd w v ∧ ∃ t, exec (.hayloftPhaseEnd v) s = .next t ∧ t.hay.cur = some u ∧ t.hay.reqs = s.hay.reqs ∧
    (u.ended = true → u.failed = false → ∀ q, t.page q = if q = w.page then padTo 64 0xFF w.image else s.page q) ∧
    (u.ended = false ∨ u.failed = true → ∀ q, t.page q = s.page q) ∧
    (u.ended = true → u.failed = false → mget 0 t.hay.ecc w.page = 0) ∧ s.Frame [.regs, .hay] t) ∧
  (∀ (w : HayWrite) (v : Bool), w.ended = false → w.failed = false → ∃ u, u = phaseEnd w v ∧ u.phase = w.phase + 1 ∧ u.marked = true ∧ u.go = false ∧
    (w.pair = true → u.ended = true ∧ u.failed = false) ∧
    (w.pair = false → w.marked = false → u.ended = false ∧ u.erases = w.erases ∧ u.progs = w.progs) ∧
    (w.pair = false → w.marked = true → w.erased = false → u.erases = w.erases + 1 ∧ u.progs = w.progs ∧ u.erased = v ∧
      (u.ended = true ↔ v = false ∧ 3 ≤ w.erases + 1) ∧ (u.failed = true ↔ v = false ∧ 3 ≤ w.erases + 1)) ∧
    (w.pair = false → w.marked = true → w.erased = true → u.erases = w.erases ∧ u.progs = w.progs + 1 ∧
      (u.ended = true ↔ v = true ∨ 2 ≤ w.progs + 1) ∧ (u.failed = true ↔ v = false ∧ 2 ≤ w.progs + 1))) ∧
  (∀ s : State, (∀ w ∈ s.hay.cur, w.ended = false) → exec .hayloftWriteEnd s = .next s) ∧
  (∀ (s : State) (w : HayWrite) (r : Ref) (a : Nat) (d : Bytes) (n : Nat), s.hay.cur = some w → w.ended = true → w.failed = false →
    w.req.what = .write r a d n → d.length ≤ 64 - a % 64 → s.hay.reqs = [w.req] → s.hay.groom = [] → s.hay.owed = [] →
    exec .hayloftWriteEnd s = .next ({ s.escEnd (.commit w.req.id) with hay.cur := none, hay.reqs := [] }.finish r stOk)) ∧
  (∀ (s : State) (w : HayWrite), 0 < s.rd R.HAY_STAT_SPARES → s.rd R.HAY_STAT_SPARES ≤ 32 → ∃ t, t = s.writeFailed w ∧ t.page w.page = w.image ∧
    (∀ q, q ≠ w.page → t.page q = s.page q) ∧ t.rd R.HAY_STAT_SPARES = s.rd R.HAY_STAT_SPARES - 1 ∧
    mget? t.hay.spare w.page = some (32 - s.rd R.HAY_STAT_SPARES) ∧ t.hay.owed.head? = some ⟨w.req.id, 249, .complete w.page, s.ticks, false⟩) ∧
  (∀ (s : State) (k : Fin 16), (s.log k).kept < (s.log k).open_.length → (s.log k).asked = false → (s.log k).busy = false →
    2 ≤ (s.log k).open_.length ∨ (s.log k).since + s.rd R.HAY_CFG_LOG_HOLD ≤ s.ticks → s.gatesClosed = false →
    ∃ t, exec (.logHoldExpire k) s = .next t ∧ t.log k = { s.log k with asked := true } ∧ (∀ j, j ≠ k.val → t.log j = s.log j) ∧
    t.hay.reqs = s.hay.reqs ++ [⟨s.hay.nextId, 249, .logPage k, s.ticks, false⟩] ∧ s.Frame [.hay] t) ∧
  (∀ (s : State) (k : Fin 16), (s.log k).open_.length ≤ (s.log k).kept ∨ (s.log k).asked = true ∨ (s.log k).busy = true →
    exec (.logHoldExpire k) s = .next s) ∧
  (∀ (s : State) (k : Fin 16) (n a b : Nat), (s.log k).lost = some (n, a, b) → (s.log k).queue.length < 63 → s.pwr.held = true →
    ∃ t, exec (.overflow k) s = .next t ∧ t.log k = { s.log k with
      lost := none, next := ((s.log k).next + 1) % 2 ^ 32
      queue := (s.log k).queue ++ [logBytes (s.log k).next (s.stage % 2 ^ 32) s.tpos k 1 (le 4 n ++ le 4 a ++ le 4 b ++ [0])] } ∧
    s.Fields [(R.HAY_LOG_OVERFLOWS k, min 255 (s.rd (R.HAY_LOG_OVERFLOWS k) + 1))] t ∧
    s.Raises 0x50 ([4, BitVec.ofNat 8 k] ++ le 2 (min 0xFFFF n)) t ∧ s.Frame [.regs, .spoke, .hay] t) ∧
  (∀ (s : State) (k : Fin 16), (s.log k).lost ≠ none → (s.log k).queue.length < 63 → ∃ t, exec (.overflow k) s = .next t ∧
    (t.log k).lost = none ∧ (t.log k).queue.length = (s.log k).queue.length + 1 ∧ (s.pwr.held = false → s.flt.queue.length < 16 →
      (t.flt.queue.length = s.flt.queue.length + 1))) ∧
  (∀ (s : State) (k : Fin 16), (s.log k).lost = none ∨ 63 ≤ (s.log k).queue.length → exec (.overflow k) s = .next s) ∧
  (∀ (s : State) (c : Cmd) (a n : Nat), s.Ready c → c.payload = le 4 a ++ le 2 n → a < 2 ^ 32 → 0 < n → n ≤ 2048 →
    a + n ≤ 0x20000 ∨ 0x20000 ≤ a ∧ a + n ≤ 0x23000 → s.rd R.HAY_STAT_RECALL ≠ 1 →
    (16 ≤ s.hayDepth 248 → s.Refuses (.hayRead c) c 0x50 stQueueFull) ∧
    (s.hayDepth 248 < 16 → ∃ t, exec (.hayRead c) s = .next t ∧ s.Holds c 0x50 t ∧ t.hay = { s.hay with
      nextId := s.hay.nextId + 1, reqs := s.hay.reqs ++ [⟨s.hay.nextId, 248, .read (s.refOf c 0x50) a n, s.ticks, false⟩] } ∧
      s.Frame [.spoke, .hay] t)) ∧
  (∀ (s : State) (c : Cmd) (a n : Nat), s.Ready c → (c.payload.length ≠ 6 → s.Refuses (.hayRead c) c 0x50 stBadLength) ∧
    (c.payload = le 4 a ++ le 2 n → a < 2 ^ 32 → n < 2 ^ 16 → n = 0 ∨ 2048 < n ∨ 0x20000 < a + n ∧ a < 0x20000 ∨ 0x24000 < a + n →
      s.Refuses (.hayRead c) c 0x50 stBadParam) ∧
    (c.payload = le 4 a ++ le 2 n → 0 < n → n ≤ 2048 → 0x20000 ≤ a → 0x23000 < a + n → a + n ≤ 0x24000 →
      s.Refuses (.hayRead c) c 0x50 stNotPermitted) ∧
    (c.payload = le 4 a ++ le 2 n → 0 < n → n ≤ 2048 → a + n ≤ 0x20000 → s.rd R.HAY_STAT_RECALL = 1 → s.Refuses (.hayRead c) c 0x50 stBusy)) ∧
  (∀ (s : State) (c : Cmd) (a : Nat) (d : Bytes), s.Ready c → c.payload = le 4 a ++ d → d ≠ [] → d.length ≤ 1024 → 0x9400 ≤ a → a + d.length ≤ 0x10000 →
    s.rd R.HAY_STAT_WP ≠ 1 → s.rd R.HAY_STAT_RECALL ≠ 1 → s.hayDepth 248 < 16 → s.gatesClosed = false →
    ∃ t, exec (.hayWrite c) s = .next t ∧ s.Accepts c 0x51 t ∧ t.hay = { s.hay with
      nextId := s.hay.nextId + 1, reqs := s.hay.reqs ++ [⟨s.hay.nextId, 248, .write (s.refOf c 0x51) a d 0, s.ticks, false⟩] } ∧
    s.Frame [.spoke, .hay] t) ∧
  (∀ (s : State) (c : Cmd) (a : Nat) (d : Bytes), s.Ready c → (c.payload.length < 4 ∨ 1028 < c.payload.length → s.Refuses (.hayWrite c) c 0x51 stBadLength) ∧
    (c.payload = le 4 a ++ d → a < 2 ^ 32 → d.length ≤ 1024 → 0x20000 < a + d.length → s.Refuses (.hayWrite c) c 0x51 stBadParam) ∧
    (c.payload = le 4 a ++ d → d ≠ [] → d.length ≤ 1024 → a + d.length ≤ 0x20000 → a < 0x9400 ∨ 0x10000 < a + d.length →
      s.Refuses (.hayWrite c) c 0x51 stNotPermitted) ∧
    (c.payload = le 4 a ++ d → d ≠ [] → d.length ≤ 1024 → a + d.length ≤ 0x20000 → s.rd R.HAY_STAT_WP = 1 →
      (∃ p ∈ pagesOf a d.length, p < 0x400 ∧ p < s.rd R.HAY_CFG_BOUND ∧ s.changesPage a d p = true) → s.Refuses (.hayWrite c) c 0x51 stNotPermitted) ∧
    (c.payload = le 4 a → a ≤ 0x20000 → s.rd R.HAY_STAT_RECALL ≠ 1 → s.Refuses (.hayWrite c) c 0x51 stOk)) ∧
  (∀ (s : State) (c : Cmd) (k m f : Nat), s.Ready c → c.payload = le 1 k ++ le 1 m ++ le 4 f → k ≤ 15 → 0 < m → m ≤ 64 → f < 2 ^ 32 →
    s.rd R.HAY_STAT_RECALL ≠ 1 → s.hayDepth 248 < 16 → ∃ t, exec (.hayLogRead c) s = .next t ∧ s.Holds c 0x52 t ∧ t.hay = { s.hay with
      nextId := s.hay.nextId + 1, reqs := s.hay.reqs ++ [⟨s.hay.nextId, 248, .logRead (s.refOf c 0x52) k m f, s.ticks, false⟩] } ∧
    s.Frame [.spoke, .hay] t) ∧
  (∀ (s : State) (c : Cmd), s.Ready c → (c.payload.length ≠ 6 → s.Refuses (.hayLogRead c) c 0x52 stBadLength) ∧
    (c.payload.length = 6 → 15 < u8 c.payload 0 ∨ u8 c.payload 1 = 0 ∨ 64 < u8 c.payload 1 → s.Refuses (.hayLogRead c) c 0x52 stBadParam)) ∧
  (∀ (s : State) (q : HayReq) (r : Ref) (a n : Nat), q.what = .read r a n → (∀ p ∈ pagesOf a n, s.hay.bad.contains p = false ∧ mget 0 s.hay.ecc p = 0) →
    s.hayServe q = (s.hayDrop q).ok r ((List.range n).map fun i => (s.page ((a + i) / 64)).getD ((a + i) % 64) 0xFF)) ∧
  (∀ (s : State) (c : Cmd) (k n : Nat) (d : Bytes), s.Ready c → c.payload = le 1 k ++ le 1 n ++ d → 8 ≤ k → k ≤ 15 → 0x80 ≤ n → n ≤ 0xFF → d.length ≤ 16 →
    s.rd R.HAY_STAT_RECALL ≠ 1 → (63 ≤ (s.log k).queue.length → s.Refuses (.hayLogAppend c) c 0x53 stQueueFull) ∧
    ((s.log k).queue.length < 63 → ∃ t, exec (.hayLogAppend c) s = .next t ∧ s.Answers c 0x53 stOk (le 4 (s.log k).next) t ∧
      t.log k = { s.log k with
        next := ((s.log k).next + 1) % 2 ^ 32
        queue := (s.log k).queue ++ [logBytes (s.log k).next (s.stage % 2 ^ 32) s.tpos k n d] } ∧
      (∀ j, j ≠ k → t.log j = s.log j) ∧ s.Frame [.spoke, .hay] t)) ∧
  (∀ (s : State) (c : Cmd), s.Ready c → (c.payload.length < 2 ∨ 18 < c.payload.length → s.Refuses (.hayLogAppend c) c 0x53 stBadLength) ∧
    (2 ≤ c.payload.length → c.payload.length ≤ 18 → u8 c.payload 0 < 8 ∨ 15 < u8 c.payload 0 ∨ u8 c.payload 1 < 0x80 →
      s.Refuses (.hayLogAppend c) c 0x53 stBadParam)) ∧
  (∀ (s : State) (c : Cmd), s.Ready c → c.payload.length = 2 → u16 c.payload 0 ≠ 0 → s.rd R.HAY_STAT_RECALL ≠ 1 →
    (∀ k ∈ List.range 16, bit (u16 c.payload 0) k = true → (s.log k).queue = [] ∧ (s.log k).open_.length ≤ (s.log k).kept) →
    ∃ t, exec (.hayLogFlush c) s = .next t ∧ s.Answers c 0x54 stOk [] t ∧ s.Frame [.spoke] t) ∧
  (∀ (s : State) (c : Cmd), s.Ready c → c.payload.length = 2 → s.rd R.HAY_STAT_RECALL ≠ 1 →
    (∃ k ∈ List.range 16, bit (u16 c.payload 0) k = true ∧ (s.log k).queue ≠ []) → ∃ t, exec (.hayLogFlush c) s = .next t ∧ s.Accepts c 0x54 t ∧
    t.hay.logs = s.hay.logs ∧ t.hay.flushes.length = s.hay.flushes.length + 1 ∧ t.hay.flushes.getLast?.map (·.cmd) = some (s.refOf c 0x54) ∧
    s.Frame [.spoke, .hay] t) ∧
  (∀ (s : State) (c : Cmd), s.Ready c → (c.payload.length ≠ 2 → s.Refuses (.hayLogFlush c) c 0x54 stBadLength) ∧
    (c.payload = [0, 0] → s.Refuses (.hayLogFlush c) c 0x54 stBadParam)) ∧
  (∀ (s : State) (c : Cmd) (k : Nat), s.Ready c → c.payload = le 1 k → 16 ≤ k → k ≤ 31 → s.rd R.HAY_STAT_RECALL ≠ 1 → s.gatesClosed = false →
    (16 ≤ s.hayDepth 248 → s.Refuses (.hayOdInc c) c 0x55 stQueueFull) ∧
    (s.hayDepth 248 < 16 → ∃ t, exec (.hayOdInc c) s = .next t ∧ s.Accepts c 0x55 t ∧ t.hay = { s.hay with
      nextId := s.hay.nextId + 1, reqs := s.hay.reqs ++ [⟨s.hay.nextId, 248, .odInc k (some (s.refOf c 0x55)), s.ticks, false⟩] } ∧
      s.Frame [.spoke, .hay] t)) ∧
  (∀ (s : State) (c : Cmd), s.Ready c → (c.payload.length ≠ 1 → s.Refuses (.hayOdInc c) c 0x55 stBadLength) ∧
    (c.payload.length = 1 → u8 c.payload 0 < 16 ∨ 31 < u8 c.payload 0 → s.Refuses (.hayOdInc c) c 0x55 stBadParam)) ∧
  (∀ (s : State) (k : Nat), ∃ v, v = s.odo k ∧ (0xFFFFFFFF ≤ v → s.odoWrite k = none) ∧
    (v < 0xFFFFFFFF → ∀ w ∈ s.odoWrite k, w.2.2 = false → odoGood w.2.1 = true ∧ odoPageValue w.2.1 = v + 1))

/-! ### Stable (11_stable_engine.md, 12_stable_scratchpad.md) -/

/-- While Stable is off no operation does anything. An operation that meets a fault as it issues puts its task into FAULT with that WHY.
Otherwise, in a stall with no operation under way and nothing on its way to memory: NOP only advances the task; SETR, ADDR, LOOP and an
incrementing TLOAD change their register, modulo 2^16; JUMP and LOOP go to their target; TLOAD sends its tile to a latch; MACT sends
N vectors of sums plus latch times activations; ACT sends R299 of each sum; POOL sends the maximum or the rounded mean of K vectors;
MOVE sends N vectors; STORE sends N vectors to its ring's head, which advances by N; RADV advances the tail or the head; RWAIT goes on
when the ring meets it and otherwise ends the tile at this operation; NSEND with enough credit takes it and sends N vectors to the
neighbour, and without enough credit sends none and counts a DEGRADE fault; WAITT ends the tile and lets T - 1 due ticks pass; END
makes the task READY. A write that lands is what its unit then reads. A read of bad parity faults the task with WHY 5, a TLOAD of an
uncorrectable word or a poisoned block with WHY 6. -/
def Obligations.StableOperations : Prop :=
  (∀ (s : State) (q k : Fin 4) (w : BitVec 32) (i : Instr), i ∈ [Instr.nop q k w, .setr q k w, .addr q k w, .tload q k w, .mact q k w,
    .act q k w, .pool q k w, .store q k w, .radv q k w, .rwait q k w, .nsend q k w, .loop q k w, .waitt q k w, .move q k w, .jump q k w,
    .opEnd q k w] → s.rd R.STB_STAT_OFF = 1 → exec i s = .next s) ∧
  (∀ (s : State) (q k : Fin 4) (w : BitVec 32) (i : Instr) (opc why : Nat), (i, opc) ∈ [(Instr.nop q k w, 0x0), (.setr q k w, 0x1), (.addr q k w, 0x2),
    (.tload q k w, 0x3), (.mact q k w, 0x4), (.act q k w, 0x5), (.pool q k w, 0x6), (.store q k w, 0x7), (.radv q k w, 0x8), (.rwait q k w, 0x9),
    (.nsend q k w, 0xA), (.loop q k w, 0xB), (.waitt q k w, 0xC), (.move q k w, 0xD), (.jump q k w, 0xE), (.opEnd q k w, 0xF)] →
    s.rd R.STB_STAT_OFF ≠ 1 → (s.stall q).cur = none → (s.stall q).pend = [] → (s.stall q).order = [] → (s.task q k).stop = [] →
    s.opFault q k opc (opWord opc w) = some why → ∃ t, exec i s = .next t ∧ t.rd (R.STB_TASK_STATE q k) = 5 ∧ t.rd (R.STB_TASK_WHY q k) = why ∧
    t.rd (R.STB_TASK_PC q k) = s.rd (R.STB_TASK_PC q k) ∧ (t.stall q).cur = none ∧ (t.stall q).pend = [] ∧
    (t.stall q).act = (s.stall q).act ∧ (t.stall q).psum = (s.stall q).psum ∧ s.Frame [.regs, .spoke, .stb, .flt] t) ∧
  (∀ (s : State) (q k : Fin 4) (w : BitVec 32), s.Issues q k 0x0 w →
    s.Runs (.nop q k w) q k ((s.rd (R.STB_TASK_PC q k) + 1) % 4096) 1 [] []) ∧
  (∀ (s : State) (q k : Fin 4) (w : BitVec 32) (rd imm : Nat), s.Issues q k 0x1 w → s.Issues q k 0x2 w → rd = bits w.toNat 25 3 → imm = bits w.toNat 0 16 →
    ∃ t u, exec (.setr q k w) s = .next t ∧ (t.areg q k rd = imm ∧ (∀ n, n ≠ rd → t.areg q k n = s.areg q k n) ∧ (t.stall q).pend = [] ∧
        s.Fields [(R.STB_TASK_PC q k, (s.rd (R.STB_TASK_PC q k) + 1) % 4096)] t ∧ s.Frame [.regs, .stb] t) ∧
      exec (.addr q k w) s = .next u ∧ (u.areg q k rd = (s.areg q k rd + imm) % 65536 ∧ (∀ n, n ≠ rd → u.areg q k n = s.areg q k n) ∧
        (u.stall q).pend = [] ∧ s.Fields [(R.STB_TASK_PC q k, (s.rd (R.STB_TASK_PC q k) + 1) % 4096)] u ∧ s.Frame [.regs, .stb] u)) ∧
  (∀ (s : State) (q k : Fin 4) (w : BitVec 32) (u : Nat), s.Issues q k 0x3 w → u = s.operand q k .weight (bits w.toNat 25 3) →
    (∀ j ∈ List.range 8, mget? (s.stall q).wErr (8 * u + j) = none) → (s.stall q).poison.contains (u / 16) = false →
    ∃ t, exec (.tload q k w) s = .next t ∧ (t.stall q).pend.map (fun l => (l.mem, l.unit, l.val)) =
      [(.latch, b2n (bit w.toNat 24), s.unitAt q .weight u)] ∧ (∀ l ∈ (t.stall q).pend, l.cycle = (t.stall q).cycle + 5) ∧
    t.areg q k (bits w.toNat 25 3) = (if bit w.toNat 23 = true then (s.areg q k (bits w.toNat 25 3) + 1) % 65536 else s.areg q k (bits w.toNat 25 3)) ∧
    s.Fields [(R.STB_TASK_PC q k, (s.rd (R.STB_TASK_PC q k) + 1) % 4096)] t ∧ s.Frame [.regs, .stb] t) ∧
  (∀ (s : State) (q k : Fin 4) (w : BitVec 32) (u : Nat), s.Issues q k 0x3 w → u = s.operand q k .weight (bits w.toNat 25 3) →
    (∃ j ∈ List.range 8, mget 0 (s.stall q).wErr (8 * u + j) = 2) ∨ (s.stall q).poison.contains (u / 16) = true → (s.task q k).stop = [] →
    (s.stall q).order = [] → ∃ t, exec (.tload q k w) s = .next t ∧ t.rd (R.STB_TASK_STATE q k) = 5 ∧ t.rd (R.STB_TASK_WHY q k) = 6 ∧
    (t.stall q).latch = (s.stall q).latch ∧ (t.stall q).pend = []) ∧
  (∀ (s : State) (q k : Fin 4) (w : BitVec 32) (a p n : Nat), s.Issues q k 0x4 w → (s.stall q).parBad = [] → n = opN w.toNat →
    a = s.operand q k .act (bits w.toNat 25 3) → p = s.operand q k .psum (bits w.toNat 22 3) →
    s.Runs (.mact q k w) q k ((s.rd (R.STB_TASK_PC q k) + 1) % 4096) n ((List.range n).map fun i => (.psum, p + i,
      macVector (s.unitAt q .latch (b2n (bit w.toNat 20))) (s.unitAt q .act (s.accessUnit q .act a i))
        (if bit w.toNat 21 = true then 0 else s.unitAt q .psum (p + i)))) []) ∧
  (∀ (s : State) (q k : Fin 4) (w : BitVec 32) (a p n : Nat), s.Issues q k 0x5 w → (s.stall q).parBad = [] → n = opN w.toNat →
    p = s.operand q k .psum (bits w.toNat 25 3) → a = s.operand q k .act (bits w.toNat 22 3) →
    s.Runs (.act q k w) q k ((s.rd (R.STB_TASK_PC q k) + 1) % 4096) n ((List.range n).map fun i => (.act, s.accessUnit q .act a i,
      vecOf ((List.range 8).map fun j => activate (bits w.toNat 19 3) (bits w.toNat 14 5) (sumAt (s.unitAt q .psum (p + i)) j)))) []) ∧
  (∀ (s : State) (q k : Fin 4) (w : BitVec 32) (a b n m : Nat), s.Issues q k 0x6 w → (s.stall q).parBad = [] → n = opN w.toNat → m = opK w.toNat →
    a = s.operand q k .act (bits w.toNat 25 3) → b = s.operand q k .act (bits w.toNat 22 3) →
    s.Runs (.pool q k w) q k ((s.rd (R.STB_TASK_PC q k) + 1) % 4096) (n * m) ((List.range n).map fun o => (.act, s.accessUnit q .act b o,
      vecOf ((List.range 8).map fun j =>
        let xs := (List.range m).map fun i => vecAt (s.unitAt q .act (s.accessUnit q .act a (m * o + i))) j
        if bit w.toNat 21 = true then roundDiv xs.sum m else xs.foldl max (xs.headD 0)))) []) ∧
  (∀ (s : State) (q k : Fin 4) (w : BitVec 32) (a b n : Nat) (m : StallMem), s.Issues q k 0xD w → (s.stall q).parBad = [] → n = opN w.toNat →
    m = (if bit w.toNat 21 = true then .psum else .act) → a = s.operand q k m (bits w.toNat 25 3) → b = s.operand q k m (bits w.toNat 22 3) →
    s.Runs (.move q k w) q k ((s.rd (R.STB_TASK_PC q k) + 1) % 4096) n
      ((List.range n).map fun i => (m, s.accessUnit q m b i, s.unitAt q m (s.accessUnit q m a i))) []) ∧
  (∀ (s : State) (q k : Fin 4) (w : BitVec 32) (a n r : Nat), s.Issues q k 0x7 w → (s.stall q).parBad = [] → n = opN w.toNat → r = opRing w.toNat →
    a = s.operand q k .act (bits w.toNat 25 3) →
    s.Runs (.store q k w) q k ((s.rd (R.STB_TASK_PC q k) + 1) % 4096) n
      ((List.range n).map fun i => (.act, s.ringUnit q r (s.rd (R.STB_RING_HEAD q r) + i), s.unitAt q .act (s.accessUnit q .act a i)))
      [(R.STB_RING_FILL q r, s.rd (R.STB_RING_FILL q r) + n), (R.STB_RING_HEAD q r, (s.rd (R.STB_RING_HEAD q r) + n) % s.rd (R.STB_RING_SIZE q r))]) ∧
  (∀ (s : State) (q k : Fin 4) (w : BitVec 32) (n r : Nat), s.Issues q k 0x8 w → n = opN w.toNat → r = opRing w.toNat → s.rd (R.STB_RING_ROLE q r) ≠ 3 →
    s.Runs (.radv q k w) q k ((s.rd (R.STB_TASK_PC q k) + 1) % 4096) 1 [] (if bit w.toNat 20 = true then
      [(R.STB_RING_FILL q r, s.rd (R.STB_RING_FILL q r) + n), (R.STB_RING_HEAD q r, (s.rd (R.STB_RING_HEAD q r) + n) % s.rd (R.STB_RING_SIZE q r))]
      else [(R.STB_RING_FILL q r, s.rd (R.STB_RING_FILL q r) - n), (R.STB_RING_TAIL q r, (s.rd (R.STB_RING_TAIL q r) + n) % s.rd (R.STB_RING_SIZE q r))])) ∧
  (∀ (s : State) (q k : Fin 4) (w : BitVec 32) (n r : Nat), s.Issues q k 0x8 w → n = opN w.toNat → r = opRing w.toNat → s.rd (R.STB_RING_ROLE q r) = 3 →
    ∃ t, exec (.radv q k w) s = .next t ∧ bit w.toNat 20 = false ∧ 64 * (t.ring q r).grants + (t.ring q r).count = 64 * (s.ring q r).grants + (s.ring q r).count + n ∧
    (t.ring q r).count < 64 ∧ t.rd (R.STB_RING_FILL q r) + n = s.rd (R.STB_RING_FILL q r) ∧ s.Frame [.regs, .stb] t) ∧
  (∀ (s : State) (q k : Fin 4) (w : BitVec 32), s.Issues q k 0x9 w →
    (if bit w.toNat 20 = true then s.rd (R.STB_RING_FILL q (opRing w.toNat)) + opN w.toNat ≤ s.rd (R.STB_RING_SIZE q (opRing w.toNat))
      else opN w.toNat ≤ s.rd (R.STB_RING_FILL q (opRing w.toNat))) →
    s.Runs (.rwait q k w) q k ((s.rd (R.STB_TASK_PC q k) + 1) % 4096) 1 [] []) ∧
  (∀ (s : State) (q k : Fin 4) (w : BitVec 32), s.Issues q k 0x9 w → (s.stall q).order = [k.val] → (s.task q k).stop = [] →
    ¬ (if bit w.toNat 20 = true then s.rd (R.STB_RING_FILL q (opRing w.toNat)) + opN w.toNat ≤ s.rd (R.STB_RING_SIZE q (opRing w.toNat))
      else opN w.toNat ≤ s.rd (R.STB_RING_FILL q (opRing w.toNat))) →
    ∃ t, exec (.rwait q k w) s = .next t ∧ (t.stall q).order = [] ∧ (t.stall q).cur = none ∧ (∀ r, t.rd r = s.rd r) ∧ s.Frame [.stb] t) ∧
  (∀ (s : State) (q k : Fin 4) (w : BitVec 32) (a n r d : Nat), s.Issues q k 0xA w → (s.stall q).parBad = [] → n = opN w.toNat → r = opRing w.toNat →
    d = b2n (bit w.toNat 20) → a = s.operand q k .act (bits w.toNat 25 3) → n ≤ s.rd (credKey q d r) →
    ∃ t, exec (.nsend q k w) s = .next t ∧ (t.stall q).pend = [] ∧ (t.stall q).cur = none ∧
    (t.stall (neighbour q d)).pend.take (s.stall (neighbour q d)).pend.length = (s.stall (neighbour q d)).pend ∧
    ((t.stall (neighbour q d)).pend.drop (s.stall (neighbour q d)).pend.length).map (fun l => (l.mem, l.val, l.ring)) =
      (List.range n).map (fun i => (StallMem.act, s.unitAt q .act (s.accessUnit q .act a i), some r)) ∧
    (∀ l ∈ (t.stall (neighbour q d)).pend.drop (s.stall (neighbour q d)).pend.length,
      (s.stall q).cycle + 8 ≤ l.cycle ∧ l.cycle ≤ (t.stall q).cycle + 7) ∧
    s.Fields [(R.STB_TASK_PC q k, (s.rd (R.STB_TASK_PC q k) + 1) % 4096), (credKey q d r, s.rd (credKey q d r) - n)] t ∧ s.Frame [.regs, .stb] t) ∧
  (∀ (s : State) (q k : Fin 4) (w : BitVec 32) (n r d : Nat), s.Issues q k 0xA w → n = opN w.toNat → r = opRing w.toNat → d = b2n (bit w.toNat 20) →
    s.rd (credKey q d r) < n → ∃ t, exec (.nsend q k w) s = .next t ∧ (∀ x, x ≠ q.val → t.stall x = s.stall x) ∧ (t.stall q).pend = [] ∧
    t.rd (credKey q d r) = s.rd (credKey q d r) ∧ bit (t.rd R.STB_SP_STAT_CREDIT_FAULT) q = true ∧
    s.Raises 0x58 ([16, BitVec.ofNat 8 (16 * neighbour q d + r)] ++ le 2 n) t ∧ t.rd (R.STB_TASK_PC q k) = (s.rd (R.STB_TASK_PC q k) + 1) % 4096 ∧
    t.rd (R.STB_TASK_STATE q k) = s.rd (R.STB_TASK_STATE q k) ∧ s.Frame [.regs, .spoke, .stb, .flt] t) ∧
  (∀ (s : State) (q k : Fin 4) (w : BitVec 32) (n v : Nat), s.Issues q k 0xB w → n = 6 + b2n (bit w.toNat 24) → v = (s.areg q k n + 65535) % 65536 →
    ∃ t, exec (.loop q k w) s = .next t ∧ t.areg q k n = v ∧ (∀ m, m ≠ n → t.areg q k m = s.areg q k m) ∧
    s.Fields [(R.STB_TASK_PC q k, if v = 0 then (s.rd (R.STB_TASK_PC q k) + 1) % 4096 else (s.rd (R.STB_TASK_PC q k) + 4096 - opN w.toNat) % 4096)] t ∧
    s.Frame [.regs, .stb] t) ∧
  (∀ (s : State) (q k : Fin 4) (w : BitVec 32), s.Issues q k 0xC w → (s.stall q).order = [k.val] → (s.task q k).stop = [] →
    ∃ t, exec (.waitt q k w) s = .next t ∧ (t.task q k) = { s.task q k with skip := opN w.toNat - 1 } ∧ (t.stall q).order = [] ∧
    s.Fields [(R.STB_TASK_PC q k, (s.rd (R.STB_TASK_PC q k) + 1) % 4096)] t ∧ s.Frame [.regs, .stb] t) ∧
  (∀ (s : State) (q k : Fin 4) (w : BitVec 32), s.Issues q k 0xE w → s.Runs (.jump q k w) q k (opN w.toNat) 1 [] []) ∧
  (∀ (s : State) (q k : Fin 4) (w : BitVec 32), s.Issues q k 0xF w → (s.stall q).order = [k.val] → (s.task q k).stop = [] →
    ∃ t, exec (.opEnd q k w) s = .next t ∧ t.task q k = { s.task q k with ar := [] } ∧ (t.stall q).order = [] ∧
    (t.stall q).act = (s.stall q).act ∧ (t.stall q).psum = (s.stall q).psum ∧
    s.Fields [(R.STB_STAT_FAULTED, setBit (s.rd R.STB_STAT_FAULTED) (4 * q + k) false), (R.STB_STAT_RUN, setBit (s.rd R.STB_STAT_RUN) (4 * q + k) false),
      (R.STB_TASK_WHY q k, 0), (R.STB_TASK_STATE q k, 2)] t ∧ s.Frame [.regs, .spoke, .stb] t) ∧
  (∀ (s : State) (q : Nat) (l : Landing), s.rd R.STB_SP_STAT_AUDIT ≠ 1 → l.ring = none → l.val < 256 ^ unitBytes l.mem →
    (s.land q l).unitAt q l.mem l.unit = l.val ∧ (∀ u, u ≠ l.unit → (s.land q l).unitAt q l.mem u = s.unitAt q l.mem u) ∧ s.Frame [.stb] (s.land q l)) ∧
  (∀ (s : State) (q k : Fin 4) (w : BitVec 32) (p : Nat), s.Issues q k 0x5 w → p = s.operand q k .psum (bits w.toNat 25 3) → 0 < opN w.toNat →
    s.parityBad q .psum p = true → (s.task q k).stop = [] → (s.stall q).order = [] → ∃ t, exec (.act q k w) s = .next t ∧
    t.rd (R.STB_TASK_STATE q k) = 5 ∧ t.rd (R.STB_TASK_WHY q k) = 5 ∧ t.rd (R.STB_SP_PAR q) = min 0xFFFF (s.rd (R.STB_SP_PAR q) + 1) ∧
    bit (t.rd R.STB_SP_STAT_PARITY) q = true ∧ (t.stall q).pend = []) ∧
  (∀ (fn sh : Nat) (x : Int), sh < 32 → ∃ y : Int, y = (if sh = 0 then x else (x + 2 ^ (sh - 1)) / 2 ^ sh) ∧ ∃ z : Int, z = max (-2048) (min 2047 y) ∧
    (fn = 0 → activate fn sh x = z) ∧ (fn = 1 → activate fn sh x = max 0 z) ∧ (fn = 2 → activate fn sh x = max 0 (min 1536 z)) ∧
    (fn = 3 → activate fn sh x = sigmoid z) ∧ (fn = 4 → activate fn sh x = tanhFix z)) ∧
  (activate 3 4 (-7000) = 314 ∧ activate 3 4 1843 = 1250 ∧ sigmoid 0 = 1024 ∧ sigmoid 2047 = 2046 ∧ tanhFix (-256) = -1559)

/-- STALL_WINDOW_CLOSE ends the window: in a late stall the running task is in FAULT with WHY 1 and each task that had not started counts
one in SKIPPED, the other tasks stay as they are, and every enabled ring publishes its fill. A narrow write puts its word into activation
or partial-sum memory, never into weight memory; a narrow read of a correctable weight word counts it, of an uncorrectable one poisons its
block. A cached access counts a hit or a miss, writes through, and fills a line on a read. SCRUB reads one word, corrects it, moves on and
counts a pass at the end. ROW_REPAIR_COPY puts the spares of a committed map into use outside the window. The audit and cache enables
wait for tile release and for the lap edge, where the switch is made or refused. STB_LOAD_BEGIN, DATA and END load a program, and refuse a
bad header, a wrong OFFSET and a wrong CRC; STB_TASK_START starts a READY task whose budget fits; STB_TASK_STOP stops a task; STB_FEED
waits for STB_SVC. While OFF every opcode but STB_TASK_STOP is NOT_PERMITTED. -/
def Obligations.StableTasks : Prop :=
  (∀ s : State, s.stb.window = false → exec .stallWindowClose s = .next s) ∧
  (∀ (s : State) (q k : Fin 4) (rest : List Nat), s.stb.window = true → (s.stall q).order = k.val :: rest → (k.val :: rest).Nodup → (∀ j ∈ rest, j < 4) →
    (s.task q k).stop = [] → (∀ n ∈ List.range 4, (n ≠ q.val → (s.stall n).order = []) ∧ (s.stall n).copyDue = []) → ∃ t, exec .stallWindowClose s = .next t ∧ t.stb.window = false ∧
    t.rd (R.STB_TASK_STATE q k) = 5 ∧ t.rd (R.STB_TASK_WHY q k) = 1 ∧ (t.stall q).order = [] ∧ (t.stall q).pend = [] ∧
    t.rd (R.STB_STALL_LAST q) = (s.stall q).used ∧
    (∀ j ∈ rest, t.rd (R.STB_TASK_STATE q j) = s.rd (R.STB_TASK_STATE q j) ∧ t.rd (R.STB_TASK_SKIPPED q j) = min 0xFFFF (s.rd (R.STB_TASK_SKIPPED q j) + 1))) ∧
  (∀ (s : State) (q k : Fin 4) (r : Fin 16), s.stb.window = true → (∀ n ∈ List.range 4, (s.stall n).order = [] ∧ (s.stall n).copyDue = []) →
    ∃ t, exec .stallWindowClose s = .next t ∧ t.stb.window = false ∧ t.rd (R.STB_TASK_STATE q k) = s.rd (R.STB_TASK_STATE q k) ∧
    (s.rd (R.STB_RING_EN q r) = 1 → (t.ring q r).pub = t.rd (R.STB_RING_FILL q r) - (s.ring q r).taken) ∧
    t.rd (R.STB_STALL_LAST q) = (s.stall q).used) ∧
  (∀ (s : State) (q : Fin 4) (a : BitVec 20) (v : BitVec 32) (m : StallMem) (b : Nat), narrowPlace a.toNat = some (m, b) → m ≠ .weight →
    s.rd R.STB_SP_STAT_AUDIT ≠ 1 → ∃ t, exec (.narrowAccess q false a (some v)) s = .next t ∧
    (t.stall q).bytesAt q m (b / 4 * 4) 4 = le 4 v.toNat ∧ (∀ x, x < b / 4 * 4 ∨ b / 4 * 4 + 4 ≤ x → (t.stall q).byteAt q m x = (s.stall q).byteAt q m x) ∧
    (t.stall q).weight = (s.stall q).weight ∧ s.Frame [.stb] t) ∧
  (∀ (s : State) (q : Fin 4) (a : BitVec 20) (v : BitVec 32), a.toNat < 0x40000 → exec (.narrowAccess q false a (some v)) s = .next s) ∧
  (∀ (s : State) (q : Fin 4) (a : BitVec 20), a.toNat < 0x28000 → ∃ t, exec (.narrowAccess q false a none) s = .next t ∧
    (mget 0 (s.stall q).wErr (a.toNat / 8) = 0 → mget? (s.stall q).wErr (a.toNat / 8) = none → t = s) ∧
    (mget 0 (s.stall q).wErr (a.toNat / 8) = 1 → s.Fields [(R.STB_SP_CORR q, min 0xFFFF (s.rd (R.STB_SP_CORR q) + 1))] t ∧ s.Frame [.regs] t) ∧
    (2 ≤ mget 0 (s.stall q).wErr (a.toNat / 8) → (t.stall q).poison.contains (a.toNat / 1024) = true ∧
      t.rd (R.STB_SP_DOUBLE q) = min 0xFFFF (s.rd (R.STB_SP_DOUBLE q) + 1) ∧ s.Frame [.regs, .spoke, .stb, .flt] t)) ∧
  (∀ (s : State) (q : Fin 4) (a : BitVec 20) (o : Option (BitVec 32)), bit (s.rd R.STB_CACHE_ACTIVE) q = false ∨ 0xC0000 ≤ a.toNat →
    exec (.narrowAccess q true a o) s = .next s) ∧
  (∀ (s : State) (q : Fin 4) (a : BitVec 20) (v : BitVec 32), bit (s.rd R.STB_CACHE_ACTIVE) q = true → a.toNat < 0xC0000 → (s.stall q).parBad = [] →
    ∃ t, exec (.narrowAccess q true a (some v)) s = .next t ∧ cellsGet 0 t.dbg.sram (a.toNat / 4 * 4) 4 = le 4 v.toNat ∧ t.stb = s.stb ∧
    (if (cacheEntry (s.stall q) (a.toNat / 32)).isSome = true then s.Fields [(R.STB_CACHE_HITS, min 0xFFFF (s.rd R.STB_CACHE_HITS + 1))] t
      else s.Fields [(R.STB_CACHE_MISSES, min 0xFFFF (s.rd R.STB_CACHE_MISSES + 1))] t) ∧ s.Frame [.regs, .dbg] t) ∧
  (∀ (s : State) (q : Fin 4) (a : BitVec 20), bit (s.rd R.STB_CACHE_ACTIVE) q = true → a.toNat < 0xC0000 → (s.stall q).parBad = [] →
    ∃ t, exec (.narrowAccess q true a none) s = .next t ∧ ((cacheEntry (s.stall q) (a.toNat / 32)).isSome = true →
      s.Fields [(R.STB_CACHE_HITS, min 0xFFFF (s.rd R.STB_CACHE_HITS + 1))] t ∧ s.Frame [.regs] t) ∧
    (cacheEntry (s.stall q) (a.toNat / 32) = none → s.Fields [(R.STB_CACHE_MISSES, min 0xFFFF (s.rd R.STB_CACHE_MISSES + 1))] t ∧
      (∃ e ∈ List.range 1024, e / 4 = a.toNat / 32 % 256 ∧ mget? (t.stall q).cache e = some (a.toNat / 32)) ∧ t.dbg = s.dbg ∧
      s.Frame [.regs, .free, .stb] t)) ∧
  (∀ (s : State) (q : Fin 4), s.rd R.STB_STAT_OFF ≠ 1 → mget? (s.stall q).blocks ((s.stall q).scrub / 128) = none → (s.stall q).scrub < 20480 →
    ∃ t, exec (.scrub q) s = .next t ∧ (t.stall q).scrub = ((s.stall q).scrub + 1) % 20480 ∧
    t.rd (R.STB_SP_PASSES q) = (if (s.stall q).scrub = 20479 then (s.rd (R.STB_SP_PASSES q) + 1) % 65536 else s.rd (R.STB_SP_PASSES q)) ∧
    (mget? (s.stall q).wErr (s.stall q).scrub = some 1 → mget? (t.stall q).wErr (s.stall q).scrub = none ∧
      t.rd (R.STB_SP_CORR q) = min 0xFFFF (s.rd (R.STB_SP_CORR q) + 1) ∧ (t.stall q).poison = (s.stall q).poison) ∧
    (mget? (s.stall q).wErr (s.stall q).scrub = some 2 → (t.stall q).wErr = (s.stall q).wErr ∧ (t.stall q).poison.contains ((s.stall q).scrub / 128) = true) ∧
    (mget? (s.stall q).wErr (s.stall q).scrub = none → (t.stall q).wErr = (s.stall q).wErr ∧ s.Frame [.regs, .stb] t) ∧
    s.Frame [.regs, .spoke, .stb, .flt] t) ∧
  (∀ (s : State) (q : Fin 4) (crc : Nat), s.rd R.STB_STAT_OFF ≠ 1 → (s.stall q).scrub % 128 = 127 → (s.stall q).scrub < 20479 →
    mget? (s.stall q).wErr (s.stall q).scrub = none → mget? (s.stall q).blocks ((s.stall q).scrub / 128) = some crc → ∃ t, exec (.scrub q) s = .next t ∧
    (s.blockCrc q ((s.stall q).scrub / 128) = crc → (t.stall q).poison = (s.stall q).poison ∧ s.Frame [.stb] t) ∧
    (s.blockCrc q ((s.stall q).scrub / 128) ≠ crc → (t.stall q).poison.contains ((s.stall q).scrub / 128) = true ∧
      t.rd (R.STB_SP_CRC_ERR q) = min 0xFFFF (s.rd (R.STB_SP_CRC_ERR q) + 1))) ∧
  (∀ (s : State) (q : Fin 4), s.rd R.STB_STAT_OFF = 1 → exec (.scrub q) s = .next s) ∧
  (∀ (s : State) (q : Fin 4) (row sp : Nat), s.stb.window = false → (s.stall q).copyDue = [(row, sp)] → ∃ t, exec (.rowRepairCopy q) s = .next t ∧
    (t.stall q).copyDue = [] ∧ mget? (t.stall q).mapped row = some sp ∧ (t.stall q).poison = (s.stall q).poison ∧
    (∀ w, wordRow w = row → mget? (t.stall q).wErr w ≠ some 1) ∧ s.Raises 0x58 ([19, BitVec.ofNat 8 q] ++ le 2 (row % 128 + 256 * (row / 128) + 4096 * (sp % 8))) t ∧
    s.Frame [.regs, .spoke, .stb, .flt] t) ∧
  (∀ (s : State) (q : Fin 4), s.stb.window = true → exec (.rowRepairCopy q) s = .next s) ∧
  (∀ (s : State) (v : BitVec 8), ∃ t, exec (.stbAuditWrite v) s = .next t ∧ t.rd R.STB_AUDIT_EN = v.toNat % 2 ∧ t.stb = { s.stb with auditDue := some (v.toNat % 2 == 1) } ∧
    (∀ k, k ≠ R.STB_AUDIT_EN → k ≠ R.SEC_STAT_CERT → k / 1024 / 256 ≠ 0x78 → t.rd k = s.rd k) ∧ s.Frame [.regs, .spoke, .stb, .flt] t) ∧
  (∀ (s : State) (v : BitVec 8), ∃ t, exec (.stbCacheWrite v) s = .next t ∧
    s.Fields [(R.STB_CACHE_PEND, v.toNat % 16 ^^^ s.rd R.STB_CACHE_ACTIVE), (R.STB_CACHE_EN, v.toNat % 16)] t ∧ s.Frame [.regs] t) ∧
  (∀ s : State, s.rd R.STB_CACHE_PEND = 0 → exec .cacheSwitch s = .next s) ∧
  (∀ (s : State) (q : Fin 4), s.rd R.STB_CACHE_PEND = 2 ^ q.val → ∃ t, exec .cacheSwitch s = .next t ∧ t.rd R.STB_CACHE_PEND = 0 ∧
    ∃ no : Bool, no = ((s.tasksIn q [1, 3, 4]).any (fun k => decide (4096 < s.rd (R.STB_TASK_A_BOUND q k))) ||
      (List.range 16).any fun r => s.on (R.STB_RING_EN q r) && decide (4096 < s.rd (R.STB_RING_BASE q r) + s.rd (R.STB_RING_SIZE q r))) ∧
    (bit (s.rd R.STB_CACHE_EN) q = true → no = true → bit (t.rd R.STB_CACHE_EN) q = false ∧ t.rd R.STB_CACHE_ACTIVE = s.rd R.STB_CACHE_ACTIVE ∧ t.stb = s.stb) ∧
    (bit (s.rd R.STB_CACHE_EN) q = true → no = false → bit (t.rd R.STB_CACHE_ACTIVE) q = true ∧ t.rd R.STB_CACHE_EN = s.rd R.STB_CACHE_EN ∧ (t.stall q).cache = []) ∧
    (bit (s.rd R.STB_CACHE_EN) q = false → bit (t.rd R.STB_CACHE_ACTIVE) q = false ∧ (t.stall q).cache = []) ∧ s.Frame [.regs, .free, .spoke, .stb] t) ∧
  (∀ (s : State) (c : Cmd) (q k : Nat) (h : Bytes), s.Ready c → c.payload = le 1 q ++ le 1 k ++ h → q < 4 → k < 4 → h.length = 64 →
    h.take 4 = [0x46, 0x41, 0x4C, 0x31] → u8 h 4 = 1 → u32 h 60 = crc32 (h.take 60) → u16 h 22 < u16 h 6 → u32 h 16 ≤ 168000 →
    u16 h 6 ≤ s.rd (R.STB_TASK_C_BOUND q k) - s.rd (R.STB_TASK_C_BASE q k) →
    u32 h 8 ≤ (s.rd (R.STB_TASK_W_BOUND q k) - s.rd (R.STB_TASK_W_BASE q k)) * 64 →
    u16 h 12 ≤ s.rd (R.STB_TASK_A_BOUND q k) - s.rd (R.STB_TASK_A_BASE q k) →
    u16 h 14 ≤ s.rd (R.STB_TASK_P_BOUND q k) - s.rd (R.STB_TASK_P_BASE q k) → s.rd R.STB_STAT_OFF ≠ 1 →
    s.rd (R.STB_TASK_STATE q k) = 0 ∨ s.rd (R.STB_TASK_STATE q k) = 2 ∨ s.rd (R.STB_TASK_STATE q k) = 5 →
    (∀ n ∈ List.range 32, wants n 0x58 (s.chan n) = false) → ∃ t, exec (.stbLoadBegin c) s = .next t ∧ s.Answers c 0x58 stOk [] t ∧
    t.task q k = { rings := u16 h 20, entry := u16 h 22, codeLen := u16 h 6, wLen := u32 h 8, crc := u32 h 56 } ∧
    t.rd (R.STB_TASK_STATE q k) = 1 ∧ t.rd (R.STB_TASK_BUDGET q k) = u32 h 16 ∧ t.rd (R.STB_TASK_KIND q k) = u8 h 5 % 16 ∧ s.Frame [.regs, .spoke, .stb] t) ∧
  (∀ (s : State) (c : Cmd), s.Ready c → (c.payload.length ≠ 66 → s.Refuses (.stbLoadBegin c) c 0x58 stBadLength) ∧
    (c.payload.length = 66 → 3 < u8 c.payload 0 ∨ 3 < u8 c.payload 1 ∨ u32 c.payload 2 ≠ 0x314C4146 ∨ u8 c.payload 6 ≠ 1 ∨ 168000 < u32 c.payload 18 →
      s.Refuses (.stbLoadBegin c) c 0x58 stBadParam) ∧
    (c.payload.length = 66 → u8 c.payload 0 ≤ 3 → u8 c.payload 1 ≤ 3 → s.headerRefused (u8 c.payload 0) (u8 c.payload 1) (c.payload.drop 2) = false →
      s.rd R.STB_STAT_OFF = 1 ∨ s.rd (R.STB_TASK_STATE (u8 c.payload 0) (u8 c.payload 1)) = 3 → s.Refuses (.stbLoadBegin c) c 0x58 stNotPermitted)) ∧
  (∀ (s : State) (c : Cmd) (q k : Nat) (b : Bytes), s.Ready c → q < 4 → k < 4 → c.payload = le 1 q ++ le 1 k ++ le 4 (s.task q k).image.length ++ b →
    0 < b.length → b.length ≤ 4000 → (s.task q k).image.length + b.length ≤ 4 * (s.task q k).codeLen + (s.task q k).wLen →
    (s.task q k).image.length < 2 ^ 32 → s.rd R.STB_STAT_OFF ≠ 1 → s.rd (R.STB_TASK_STATE q k) = 1 →
    ∃ t, exec (.stbLoadData c) s = .next t ∧ s.Answers c 0x59 stOk [] t ∧ t.task q k = { s.task q k with image := (s.task q k).image ++ b } ∧
    ((s.task q k).image.length + b.length ≤ 4 * (s.task q k).codeLen →
      (t.stall q).bytesAt q .code (4 * s.rd (R.STB_TASK_C_BASE q k) + (s.task q k).image.length) b.length = b) ∧ s.Frame [.spoke, .stb] t) ∧
  (∀ (s : State) (c : Cmd), s.Ready c → (c.payload.length < 7 ∨ 4006 < c.payload.length → s.Refuses (.stbLoadData c) c 0x59 stBadLength) ∧
    (7 ≤ c.payload.length → c.payload.length ≤ 4006 → u8 c.payload 0 ≤ 3 → u8 c.payload 1 ≤ 3 →
      s.rd (R.STB_TASK_STATE (u8 c.payload 0) (u8 c.payload 1)) = 1 → u32 c.payload 2 ≠ (s.task (u8 c.payload 0) (u8 c.payload 1)).image.length →
      s.Refuses (.stbLoadData c) c 0x59 stBadParam) ∧
    (7 ≤ c.payload.length → c.payload.length ≤ 4006 → u8 c.payload 0 ≤ 3 → u8 c.payload 1 ≤ 3 →
      s.rd (R.STB_TASK_STATE (u8 c.payload 0) (u8 c.payload 1)) ≠ 1 → s.Refuses (.stbLoadData c) c 0x59 stNotPermitted)) ∧
  (∀ (s : State) (c : Cmd) (q k : Nat), s.Ready c → q < 4 → k < 4 → c.payload = le 1 q ++ le 1 k → s.rd R.STB_STAT_OFF ≠ 1 →
    s.rd (R.STB_TASK_STATE q k) = 1 → (∀ n ∈ List.range 32, wants n 0x58 (s.chan n) = false) → ∃ t, exec (.stbLoadEnd c) s = .next t ∧
    ∃ bad : Option Nat, bad = (if (s.task q k).image.length ≠ 4 * (s.task q k).codeLen + (s.task q k).wLen ∨ crc32 (s.task q k).image ≠ (s.task q k).crc
      then some 0xFFFF else (List.range (s.task q k).codeLen).find? fun i => opRefused (s.task q k).codeLen i (u32 (s.task q k).image (4 * i))) ∧
    (bad = none → s.Answers c 0x5A stOk [] t ∧ t.rd (R.STB_TASK_STATE q k) = 2) ∧
    (∀ i ∈ bad, s.Answers c 0x5A stBadParam (le 2 i) t ∧ t.rd (R.STB_TASK_STATE q k) = 0 ∧ t.task q k = {}) ∧ s.Frame [.regs, .spoke, .stb] t) ∧
  (∀ (s : State) (c : Cmd), s.Ready c → (c.payload.length ≠ 2 → s.Refuses (.stbLoadEnd c) c 0x5A stBadLength) ∧
    (c.payload.length = 2 → u8 c.payload 0 ≤ 3 → u8 c.payload 1 ≤ 3 → s.rd (R.STB_TASK_STATE (u8 c.payload 0) (u8 c.payload 1)) ≠ 1 →
      s.Refuses (.stbLoadEnd c) c 0x5A stNotPermitted)) ∧
  (∀ (s : State) (c : Cmd) (q k : Nat), s.Ready c → q < 4 → k < 4 → c.payload = le 1 q ++ le 1 k → s.rd R.STB_STAT_OFF ≠ 1 →
    s.rd (R.STB_TASK_STATE q k) = 2 ∨ s.rd (R.STB_TASK_STATE q k) = 5 ∧ s.rd (R.STB_TASK_WHY q k) ≠ 6 → s.ringsReady q k = true →
    s.commitment q + s.rd (R.STB_TASK_BUDGET q k) ≤ 168000 * (4 - s.rd R.STB_STAT_SKIPQ) / 4 → (∀ n ∈ List.range 32, wants n 0x58 (s.chan n) = false) →
    ∃ t, exec (.stbTaskStart c) s = .next t ∧ s.Answers c 0x5B stOk [] t ∧ t.task q k = { s.task q k with ar := [], skip := 0 } ∧
    s.Fields [(R.STB_STAT_FAULTED, setBit (s.rd R.STB_STAT_FAULTED) (4 * q + k) false), (R.STB_STAT_RUN, setBit (s.rd R.STB_STAT_RUN) (4 * q + k) true),
      (R.STB_TASK_WHY q k, 0), (R.STB_TASK_STATE q k, 3), (R.STB_TASK_PC q k, (s.task q k).entry)] t ∧ s.Frame [.regs, .spoke, .stb] t) ∧
  (∀ (s : State) (c : Cmd), s.Ready c → (c.payload.length ≠ 2 → s.Refuses (.stbTaskStart c) c 0x5B stBadLength) ∧
    (c.payload.length = 2 → u8 c.payload 0 ≤ 3 → u8 c.payload 1 ≤ 3 → s.ringsReady (u8 c.payload 0) (u8 c.payload 1) = false →
      s.Refuses (.stbTaskStart c) c 0x5B stBadParam) ∧
    (c.payload.length = 2 → u8 c.payload 0 ≤ 3 → u8 c.payload 1 ≤ 3 → s.ringsReady (u8 c.payload 0) (u8 c.payload 1) = true →
      s.rd R.STB_STAT_OFF = 1 ∨ s.rd (R.STB_TASK_STATE (u8 c.payload 0) (u8 c.payload 1)) < 2 ∨
        168000 * (4 - s.rd R.STB_STAT_SKIPQ) / 4 < s.commitment (u8 c.payload 0) + s.rd (R.STB_TASK_BUDGET (u8 c.payload 0) (u8 c.payload 1)) →
      s.Refuses (.stbTaskStart c) c 0x5B stNotPermitted)) ∧
  (∀ (s : State) (c : Cmd) (q k : Nat), s.Ready c → q < 4 → k < 4 → c.payload = le 1 q ++ le 1 k → 3 ≤ s.rd (R.STB_TASK_STATE q k) →
    s.rd (R.STB_TASK_STATE q k) ≤ 5 → (s.task q k).stop = [] → (s.stall q).order.head? ≠ some k → (∀ n ∈ List.range 32, wants n 0x58 (s.chan n) = false) →
    ∃ t, exec (.stbTaskStop c) s = .next t ∧ s.Answers c 0x5C stOk [] t ∧ t.rd (R.STB_TASK_STATE q k) = 2 ∧ t.rd (R.STB_TASK_WHY q k) = 7 ∧
    (t.stall q).order = (s.stall q).order.filter (· != k) ∧ s.Frame [.regs, .spoke, .stb] t) ∧
  (∀ (s : State) (c : Cmd) (q k : Nat), s.Ready c → q < 4 → k < 4 → c.payload = le 1 q ++ le 1 k → 3 ≤ s.rd (R.STB_TASK_STATE q k) →
    s.rd (R.STB_TASK_STATE q k) ≤ 5 → (s.stall q).order.head? = some k → ∃ t, exec (.stbTaskStop c) s = .next t ∧ s.Holds c 0x5C t ∧
    t.task q k = { s.task q k with stop := (s.task q k).stop ++ [s.refOf c 0x5C] } ∧ (t.stall q).order = (s.stall q).order ∧ s.Frame [.spoke, .stb] t) ∧
  (∀ (s : State) (c : Cmd), s.Ready c → (c.payload.length ≠ 2 → s.Refuses (.stbTaskStop c) c 0x5C stBadLength) ∧
    (c.payload.length = 2 → u8 c.payload 0 ≤ 3 → u8 c.payload 1 ≤ 3 → s.rd (R.STB_TASK_STATE (u8 c.payload 0) (u8 c.payload 1)) < 3 →
      s.Refuses (.stbTaskStop c) c 0x5C stNotPermitted)) ∧
  (∀ (s : State) (c : Cmd) (q r : Nat) (d : Bytes), s.Ready c → q < 4 → r < 16 → c.payload = le 1 q ++ le 1 r ++ d → d ≠ [] → d.length % 16 = 0 →
    d.length ≤ 4080 → (∀ i ∈ List.range 2040, u16 d (2 * i) ≤ 0xFFF) → s.rd R.STB_STAT_OFF ≠ 1 → s.rd (R.STB_RING_EN q r) = 1 → s.rd (R.STB_RING_ROLE q r) = 1 →
    s.rd (R.STB_RING_SRC q r) = 0 → ∃ t, exec (.stbFeed c) s = .next t ∧ s.Holds c 0x5D t ∧
    t.stb = { s.stb with feeds := s.stb.feeds ++ [⟨s.refOf c 0x5D, q, r, d⟩] } ∧ s.Frame [.spoke, .stb] t) ∧
  (∀ (s : State) (c : Cmd), s.Ready c → (c.payload.length % 16 ≠ 2 ∨ c.payload.length < 18 ∨ 4082 < c.payload.length → s.Refuses (.stbFeed c) c 0x5D stBadLength) ∧
    (c.payload.length = 18 → 3 < u8 c.payload 0 ∨ 15 < u8 c.payload 1 ∨ (∃ i ∈ List.range 8, 0xFFF < u16 c.payload (2 + 2 * i)) →
      s.Refuses (.stbFeed c) c 0x5D stBadParam) ∧
    (c.payload.length = 18 → u8 c.payload 0 ≤ 3 → u8 c.payload 1 ≤ 15 → (∀ i ∈ List.range 8, u16 c.payload (2 + 2 * i) ≤ 0xFFF) →
      s.rd R.STB_STAT_OFF = 1 ∨ s.isInput (u8 c.payload 0) (u8 c.payload 1) 0 = false → s.Refuses (.stbFeed c) c 0x5D stNotPermitted))

/-! ### Matrix panel (13_panel_matrix.md) -/

/-- A lap edge in ON or BLANKING adds each tile's H to its accumulator, saturating, and a tile trips when the sum is above the limit
with H of the same sign. The lap's frame is full when LAP is a multiple of 2^RATE, otherwise settle, balance or none; in Lantern mode
lap 0 alone carries a Lantern frame. A present is latched at a full-frame lap, or without driving when no normal frames are driven:
LEVEL takes NEXT, and with OD_EN each changed subpixel gets its overdrive level. Power-on steps check VSRC_OK, VGL_PG and VGH_PG, and
a failed check starts the discharge and ends the command with FAULT. An orderly off drives a blank frame and then discharges; an
abrupt off discharges at once and is not restarted. DISCHARGE_END leaves OFF, or FAULT after a supply cause. Each opcode enters
queue 208 or is refused, and DSP_SVC applies it; a gamma write takes its 64 entries or nothing. -/
def Obligations.MatrixPanel : Prop :=
  (∀ s : State, s.dsp.lapAt = some s.cad.now → exec .panelLapEdge s = .next s) ∧
  (∀ (s : State) (n : Nat), n < 300 → s.dsp.lapAt ≠ some s.cad.now → s.rd R.DSP_STAT_STATE = 3 ∨ s.rd R.DSP_STAT_STATE = 4 →
    s.dsp.gpos = some (s.ladder false) → s.dsp.gneg = some (s.ladder true) → ∃ t, exec .panelLapEdge s = .next t ∧
    mget 0 t.dsp.acc n = clamp (-(2 ^ 31 - 1)) (2 ^ 31 - 1) (mget 0 s.dsp.acc n + s.tileH n) ∧
    (n ∈ t.dsp.trips ↔ (s.rd R.DSP_DC_DC_LIM : Int) < |mget 0 t.dsp.acc n| ∧ s.tileH n ≠ 0 ∧ 0 < mget 0 t.dsp.acc n * s.tileH n)) ∧
  (∀ s : State, s.dsp.lapAt ≠ some s.cad.now → s.rd R.DSP_STAT_STATE = 3 → s.rd R.DSP_STAT_LANTERN ≠ 1 → s.rd R.THM_STAT_LEVEL = 0 →
    s.dsp.modeDue = none → s.dsp.off = none → s.dsp.plain = false → s.dsp.presents = [] → s.dsp.parBad = [] →
    ∃ t, exec .panelLapEdge s = .next t ∧ t.dsp.level = s.dsp.level ∧ t.dsp.nxt = s.dsp.nxt ∧ t.rd R.DSP_STAT_RATE_ACT = s.rd R.DSP_CFG_RATE ∧
    t.dsp.kind = (if s.lap % 2 ^ s.rd R.DSP_CFG_RATE = 0 then 1 else if s.dsp.settle ≠ [] then 2 else if t.dsp.trips = [] then 0 else 3) ∧
    t.rd R.DSP_STAT_FRAMES = (if s.lap % 2 ^ s.rd R.DSP_CFG_RATE = 0 then min 0xFFFF (s.rd R.DSP_STAT_FRAMES + 1) else s.rd R.DSP_STAT_FRAMES) ∧
    (s.lap % 2 ^ s.rd R.DSP_CFG_RATE = 0 → ∀ y, y < 240 → mget 0 t.dsp.flips y = 1 - mget 0 s.dsp.flips y)) ∧
  (∀ s : State, s.dsp.lapAt ≠ some s.cad.now → s.rd R.DSP_STAT_STATE = 3 → s.dsp.modeDue = some true → s.dsp.modeCmds = [] → s.dsp.off = none →
    s.dsp.presents = [] → s.dsp.parBad = [] → ∃ t, exec .panelLapEdge s = .next t ∧ t.rd R.DSP_STAT_LANTERN = 1 ∧ t.dsp.modeDue = none ∧
    t.dsp.level = s.dsp.level ∧ t.dsp.nxt = s.dsp.nxt ∧ t.dsp.lantern = s.dsp.lantern ∧ t.dsp.od = [] ∧ (s.lap = 0 → t.dsp.kind = 4) ∧
    (s.lap ≠ 0 → t.dsp.kind ≠ 1 ∧ t.dsp.kind ≠ 4)) ∧
  (∀ s : State, s.dsp.lapAt ≠ some s.cad.now → s.rd R.DSP_STAT_STATE = 3 → s.rd R.DSP_STAT_LANTERN = 1 → s.dsp.modeDue = some false →
    s.dsp.off = none → s.dsp.parBad = [] → ∃ t, exec .panelLapEdge s = .next t ∧ t.rd R.DSP_STAT_LANTERN = 0 ∧ t.dsp.kind = 1 ∧ t.dsp.od = []) ∧
  (∀ s : State, s.dsp.lapAt ≠ some s.cad.now → s.rd R.DSP_STAT_STATE = 0 ∨ s.rd R.DSP_STAT_STATE = 3 ∧ s.rd R.DSP_STAT_LANTERN = 1 →
    s.dsp.modeDue = none → s.dsp.off = none → s.dsp.presents ≠ [] → s.dsp.parBad = [] → ∃ t, exec .panelLapEdge s = .next t ∧
    t.dsp.level = s.dsp.nxt ∧ t.dsp.nxt = s.dsp.nxt ∧ t.dsp.presents = [] ∧ t.dsp.shown = s.dsp.shown ++ s.dsp.presents ∧ t.dsp.od = [] ∧
    t.dsp.presenting = false ∧ t.rd R.DSP_STAT_PRES_PEND = 0) ∧
  (∀ (s : State) (i : Nat), s.dsp.lapAt ≠ some s.cad.now → s.rd R.DSP_STAT_STATE = 3 → s.rd R.DSP_STAT_LANTERN ≠ 1 → s.rd R.THM_STAT_LEVEL = 0 →
    s.dsp.modeDue = none → s.dsp.off = none → s.dsp.plain = false → s.dsp.presents ≠ [] → s.dsp.parBad = [] → s.lap % 2 ^ s.rd R.DSP_CFG_RATE = 0 →
    ∃ t, exec .panelLapEdge s = .next t ∧ t.dsp.level = s.dsp.nxt ∧ t.dsp.nxt = s.dsp.nxt ∧ t.dsp.kind = 1 ∧ t.dsp.presenting = true ∧
    t.dsp.presents = [] ∧ t.dsp.shown = s.dsp.shown ++ s.dsp.presents ∧ t.rd R.DSP_STAT_PRES_PEND = 0 ∧
    (mget? t.dsp.od i).getD (t.level i) = (if s.rd R.DSP_CFG_OD_EN = 1 ∧ s.level i ≠ mget 0 s.dsp.nxt i then
      overdrive s.odEntry (s.level i) (mget 0 s.dsp.nxt i) else mget 0 s.dsp.nxt i)) ∧
  (∀ s : State, s.dsp.lapAt ≠ some s.cad.now → s.rd R.DSP_STAT_STATE = 3 → s.rd R.DSP_STAT_LANTERN ≠ 1 → s.rd R.THM_STAT_LEVEL = 0 →
    s.dsp.modeDue = none → s.dsp.off = none → s.dsp.plain = false → s.dsp.parBad = [] → s.lap % 2 ^ s.rd R.DSP_CFG_RATE ≠ 0 →
    ∃ t, exec .panelLapEdge s = .next t ∧ t.dsp.level = s.dsp.level ∧ t.dsp.presents = s.dsp.presents ∧
    t.rd R.DSP_STAT_PRES_PEND = s.rd R.DSP_STAT_PRES_PEND) ∧
  (∀ e : (Nat → Nat → Nat), e 2 4 = 168 → e 3 4 = 160 → e 2 5 = 204 → e 3 5 = 196 → overdrive e 20 40 = 46) ∧
  (∀ (e : Nat → Nat → Nat) (p n : Nat), (∀ i ∈ List.range 8, ∀ j ∈ List.range 8, e i j = 36 * j) → p < 64 → n < 64 → overdrive e p n = n) ∧
  (∀ e : (Nat → Nat → Nat), e 7 0 ≤ 252 → overdrive e 63 0 = (e 7 0 + 2) / 4) ∧
  (∀ (s : State) (h l : Bool), s.dsp.stepAt ≠ some s.cad.now → s.dsp.step = 1 → s.rd R.DSP_STAT_VSRC_OK = 1 → s.rd R.DSP_STAT_STATE = 1 →
    ∃ t, exec (.panelPowerOnStep h l) s = .next t ∧
    s.Fields [(R.DSP_STAT_STATE, 2), (R.DSP_STAT_VGL_PG, b2n l), (R.DSP_STAT_VGH_PG, b2n h)] t ∧
    t.dsp = { s.dsp with stepAt := some s.cad.now, step := 2, vglEn := true } ∧ s.Raises 0x60 [1, BitVec.ofNat 8 (s.rd R.DSP_STAT_WHY), 2, 0] t ∧
    s.Frame [.regs, .spoke, .dsp] t) ∧
  (∀ (s : State) (h l : Bool), s.dsp.stepAt ≠ some s.cad.now → s.dsp.step = 2 ∧ l = true ∨ s.dsp.step = 3 ∧ h = true →
    ∃ t, exec (.panelPowerOnStep h l) s = .next t ∧ s.Fields [(R.DSP_STAT_VGL_PG, b2n l), (R.DSP_STAT_VGH_PG, b2n h)] t ∧
    t.dsp = { s.dsp with stepAt := some s.cad.now, step := s.dsp.step + 1, vghEn := s.dsp.step == 2 || s.dsp.vghEn } ∧ s.Frame [.regs, .dsp] t) ∧
  (∀ (s : State) (h l : Bool), s.dsp.stepAt ≠ some s.cad.now → s.dsp.step = 4 → s.rd R.DSP_STAT_STATE = 2 → s.dsp.parBad = [] →
    ∃ t, exec (.panelPowerOnStep h l) s = .next t ∧ t.rd R.DSP_STAT_STATE = 3 ∧ t.dsp = { s.dsp with
      stepAt := some s.cad.now, step := 0, acc := [], kind := 1, onDue := true, plain := false, od := [], hZero := false
      polBase := s.rd R.DSP_CFG_POL_MODE, flips := [] } ∧
    t.rd R.DSP_STAT_FRAMES = min 0xFFFF (s.rd R.DSP_STAT_FRAMES + 1) ∧ s.Raises 0x60 [1, BitVec.ofNat 8 (s.rd R.DSP_STAT_WHY), 3, 0] t ∧
    s.Frame [.regs, .spoke, .dsp] t) ∧
  (∀ (s : State) (h l : Bool) (r : Ref), s.dsp.stepAt ≠ some s.cad.now → s.rd R.DSP_STAT_STATE = 2 → s.dsp.disch = none → s.dsp.onCmds = [] →
    s.dsp.step = 1 ∧ s.rd R.DSP_STAT_VSRC_OK ≠ 1 ∨ s.dsp.step = 2 ∧ l = false ∨ s.dsp.step = 3 ∧ h = false →
    ∃ t, exec (.panelPowerOnStep h l) s = .next t ∧ t.rd R.DSP_STAT_STATE = 5 ∧ t.rd R.DSP_STAT_WHY = (if s.dsp.step = 1 then 4 else 5) ∧
    t.dsp.disch = some ⟨!h, true⟩ ∧ t.dsp.step = 0 ∧
    t.flt = (s.fault clDegrade 0x60 2 (if s.dsp.step = 1 then 2 else s.dsp.step - 2) 0).flt ∧
    exec (.panelPowerOnStep h l) { s with dsp.onCmds := [r] } = .next (t.finish r stFault) ∧ s.Frame [.regs, .spoke, .dsp, .flt] t) ∧
  (∀ s : State, s.rd R.DSP_STAT_STATE ≠ 4 → s.dsp.off = none → exec .orderlyOff s = .next s) ∧
  (∀ (s : State) (w : Nat), s.rd R.DSP_STAT_STATE = 3 → s.dsp.off = some w → w < 16 → s.dsp.parBad = [] → ∃ t, exec .orderlyOff s = .next t ∧
    s.Fields [(R.DSP_STAT_FRAMES, min 0xFFFF (s.rd R.DSP_STAT_FRAMES + 1)), (R.DSP_STAT_STATE, 4), (R.DSP_STAT_WHY, w)] t ∧
    t.dsp = { s.dsp with kind := 5, off := none, flips := t.dsp.flips } ∧ (∀ y, y < 240 → mget 0 t.dsp.flips y = 1 - mget 0 s.dsp.flips y) ∧
    (∀ x y c, t.driveLevel x y c = s.rd R.DSP_CFG_DIS_LEVEL) ∧ s.Raises 0x60 [1, BitVec.ofNat 8 w, 4, 0] t ∧ s.Frame [.regs, .spoke, .dsp] t) ∧
  (∀ (s : State) (r : Ref), s.rd R.DSP_STAT_STATE = 4 → s.dsp.disch = none → s.dsp.onCmds = [] → ∃ t, exec .orderlyOff s = .next t ∧
    s.Fields [(R.DSP_STAT_STATE, 5)] t ∧ t.dsp = { s.dsp with
      disch := some ⟨s.rd R.DSP_STAT_VGH_PG != 1, false⟩, off := none, step := 0, kind := 0, onDue := false, od := [], settle := []
      presenting := false } ∧ s.Raises 0x60 [1, BitVec.ofNat 8 (s.rd R.DSP_STAT_WHY), 5, 0] t ∧ s.Frame [.regs, .spoke, .dsp] t) ∧
  (∀ (s : State) (r : Ref) (w : Nat), s.rd R.DSP_STAT_STATE = 2 → s.dsp.off = some w → s.dsp.disch = none → s.dsp.onCmds = [] →
    ∃ t, exec .orderlyOff s = .next t ∧ t.rd R.DSP_STAT_STATE = 5 ∧ t.rd R.DSP_STAT_WHY = w ∧
    t.dsp.disch = some ⟨s.rd R.DSP_STAT_VGH_PG != 1, false⟩ ∧ t.dsp.off = none ∧ s.Frame [.regs, .spoke, .dsp] t) ∧
  (∀ s : State, s.rd R.DSP_STAT_STATE = 0 ∨ s.rd R.DSP_STAT_STATE = 6 ∨ s.rd R.DSP_STAT_STATE = 5 ∧ s.dsp.disch ≠ none → exec .abruptOff s = .next s) ∧
  (∀ s : State, s.rd R.DSP_STAT_STATE = 2 ∨ s.rd R.DSP_STAT_STATE = 3 ∨ s.rd R.DSP_STAT_STATE = 4 → s.dsp.disch = none → s.dsp.onCmds = [] →
    ∃ t, exec .abruptOff s = .next t ∧ ∃ w : Nat, w = (if s.rd R.PWR_STAT_PFI = 1 then 2 else if s.limp = true then 8 else 0) ∧
    s.Fields [(R.DSP_STAT_STATE, 5), (R.DSP_STAT_WHY, w)] t ∧ t.dsp = { s.dsp with
      disch := some ⟨s.rd R.DSP_STAT_VGH_PG != 1, false⟩, off := none, step := 0, kind := 0, onDue := false, od := [], settle := []
      presenting := false } ∧ s.Raises 0x60 [1, BitVec.ofNat 8 w, 5, 0] t ∧ s.Frame [.regs, .spoke, .dsp] t) ∧
  (∀ (s : State) (r : Ref), s.rd R.DSP_STAT_STATE = 1 → s.dsp.onCmds = [] → ∃ t, exec .abruptOff s = .next t ∧ t.rd R.DSP_STAT_STATE = 0 ∧
    (∀ e ∈ t.pwr.wait, e.kind ≠ EscKind.panel) ∧ (∀ e ∈ t.pwr.hold, e.kind ≠ EscKind.panel) ∧ t.dsp.step = 0 ∧ t.dsp.disch = s.dsp.disch ∧
    exec .abruptOff { s with dsp.onCmds := [r] } = .next (t.finish r stFault) ∧ s.Frame [.regs, .pwr, .spoke, .dsp] t) ∧
  (∀ s : State, s.rd R.DSP_STAT_STATE = 3 ∨ s.rd R.DSP_STAT_STATE = 4 → s.rd R.DSP_STAT_VGH_PG ≠ 1 ∨ s.rd R.DSP_STAT_VGL_PG ≠ 1 → s.dsp.disch = none →
    s.dsp.onCmds = [] → ∃ t, exec .powerGoodLow s = .next t ∧ t.rd R.DSP_STAT_STATE = 5 ∧ t.rd R.DSP_STAT_WHY = 5 ∧
    t.dsp.disch = some ⟨s.rd R.DSP_STAT_VGH_PG != 1, true⟩ ∧
    t.flt = (s.fault clDegrade 0x60 2 (if s.rd R.DSP_STAT_VGL_PG = 1 then 1 else 0) 0).flt ∧ s.Frame [.regs, .spoke, .dsp, .flt] t) ∧
  (∀ s : State, s.rd R.DSP_STAT_STATE ≠ 3 → s.rd R.DSP_STAT_STATE ≠ 4 → exec .powerGoodLow s = .next s) ∧
  (∀ s : State, s.rd R.DSP_STAT_STATE = 2 ∨ s.rd R.DSP_STAT_STATE = 3 ∨ s.rd R.DSP_STAT_STATE = 4 → s.dsp.disch = none → s.dsp.onCmds = [] →
    ∃ t, exec .vsrcFail s = .next t ∧ t.rd R.DSP_STAT_STATE = 5 ∧ t.rd R.DSP_STAT_WHY = 4 ∧ t.rd R.DSP_STAT_VSRC_OK = 0 ∧
    t.dsp.disch = some ⟨s.rd R.DSP_STAT_VGH_PG != 1, true⟩ ∧ t.flt = (s.fault clDegrade 0x60 2 2 0).flt ∧ s.Frame [.regs, .spoke, .dsp, .flt] t) ∧
  (∀ s : State, s.rd R.DSP_STAT_STATE = 0 ∨ s.rd R.DSP_STAT_STATE = 6 → ∃ t, exec .vsrcFail s = .next t ∧ s.Fields [(R.DSP_STAT_VSRC_OK, 0)] t ∧
    s.Frame [.regs] t) ∧
  (∀ s : State, s.dsp.disch = none → exec .dischargeEnd s = .next s) ∧
  (∀ (s : State) (d : Discharge) (r : Ref), s.dsp.disch = some d → s.rd R.DSP_STAT_STATE = 5 → s.dsp.offCmds = [] → s.dsp.rstDue = false →
    ∃ t, exec .dischargeEnd s = .next t ∧ s.Fields [(R.DSP_STAT_STATE, if d.fault = true then 6 else 0)] t ∧ t.dsp = { s.dsp with
      disch := none, acc := [], hZero := true, trips := [], vghEn := false, vglEn := false, resDue := true } ∧
    s.Raises 0x60 [1, BitVec.ofNat 8 (s.rd R.DSP_STAT_WHY), if d.fault = true then 6 else 0, 0] t ∧
    exec .dischargeEnd { s with dsp.offCmds := [r] } = .next (t.finish r (if d.fault = true then stFault else stOk)) ∧
    s.Frame [.regs, .spoke, .dsp] t) ∧
  (∀ s : State, s.dsp.disch ≠ none → s.dsp.offCmds = [] → s.dsp.rstDue = true → ∃ t, exec .dischargeEnd s = .next t ∧ t.dsp.level = [] ∧
    t.dsp.nxt = [] ∧ t.dsp.lantern = [] ∧ t.rd R.DSP_CFG_VCOM = 245 ∧ t.rd R.DSP_CFG_POL_MODE = 1 ∧ t.rd R.DSP_STAT_STATE = 0 ∧
    s.Frame [.regs, .spoke, .dsp] t) ∧
  (∀ (s : State) (c : Cmd), s.Ready c → s.limp = false → s.dsp.queue.length < 32 → s.console.isOpen = false →
    c.payload = [0] ∨ c.payload = [1] ∧ (s.rd R.DSP_STAT_STATE = 3 ∨ s.onRefused = false) → ∃ t, exec (.dspPower c) s = .next t ∧ s.Holds c 0x60 t ∧
    t.dsp = { s.dsp with queue := s.dsp.queue ++ [⟨s.refOf c 0x60, c.payload, 0⟩] } ∧ s.Frame [.spoke, .dsp] t) ∧
  (∀ (s : State) (c : Cmd), s.Ready c → (c.payload.length ≠ 1 → s.Refuses (.dspPower c) c 0x60 stBadLength) ∧
    (c.payload.length = 1 → 1 < u8 c.payload 0 → s.Refuses (.dspPower c) c 0x60 stBadParam) ∧
    (c.payload = [1] → s.rd R.DSP_STAT_STATE ≠ 3 → s.rd R.DSP_STAT_VSRC_OK ≠ 1 ∨ s.rd R.DSP_STAT_STATE = 4 ∨ s.rd R.DSP_STAT_STATE = 5 ∨
      s.rd R.PWR_STAT_PFSEQ = 1 ∨ s.rd R.PWR_STAT_MODE = 1 → s.Refuses (.dspPower c) c 0x60 stNotPermitted) ∧
    (c.payload = [1] ∨ c.payload = [0] → s.limp = true → s.Refuses (.dspPower c) c 0x60 stNotPermitted) ∧
    (c.payload = [0] → s.limp = false → s.console.isOpen = false → 32 ≤ s.dsp.queue.length → s.Refuses (.dspPower c) c 0x60 stQueueFull)) ∧
  (∀ (s : State) (c : Cmd) (i : Instr) (op : Nat), s.Ready c → s.limp = false → s.dsp.queue.length < 32 → s.console.isOpen = false →
    (i, op) = (Instr.dspWrite c, 0x61) ∧ 8 ≤ c.payload.length ∧ c.payload.length = 8 + 3 * (u16 c.payload 4 * u16 c.payload 6) ∧
        rectOutside c.payload = false ∧ pixelBad (c.payload.drop 8) = false ∨
      (i, op) = (Instr.dspFill c, 0x62) ∧ c.payload.length = 11 ∧ rectOutside c.payload = false ∧ pixelBad (c.payload.drop 8) = false ∨
      (i, op) = (Instr.dspPresent c, 0x63) ∧ c.payload = [] ∨
      (i, op) = (Instr.dspLwWrite c, 0x64) ∧ 5 < c.payload.length ∧ c.payload.length = 5 + u16 c.payload 3 ∧ u16 c.payload 3 ≤ 320 ∧
        u8 c.payload 0 < 16 * (s.rd R.DSP_LW_HT + 1) ∧ u16 c.payload 1 + u16 c.payload 3 ≤ 16 * (s.rd R.DSP_LW_WT + 1) ∧
        (c.payload.drop 5).all (fun x => decide (x.toNat ≤ 7)) = true ∨
      (i, op) = (Instr.dspMode c, 0x65) ∧ (c.payload = [0] ∨ c.payload = [1]) ∧ s.rd R.PWR_STAT_MODE ≠ 1 →
    ∃ t, exec i s = .next t ∧ s.Holds c op t ∧
    t.dsp = { s.dsp with queue := s.dsp.queue ++ [⟨s.refOf c op, c.payload, 0⟩] } ∧ s.Frame [.spoke, .dsp] t) ∧
  (∀ (s : State) (c : Cmd), s.Ready c →
    (c.payload.length < 8 ∨ c.payload.length ≠ 8 + 3 * (u16 c.payload 4 * u16 c.payload 6) → s.Refuses (.dspWrite c) c 0x61 stBadLength) ∧
    (8 ≤ c.payload.length → c.payload.length = 8 + 3 * (u16 c.payload 4 * u16 c.payload 6) → 320 < u16 c.payload 0 + u16 c.payload 4 ∨
      240 < u16 c.payload 2 + u16 c.payload 6 ∨ (∃ x ∈ c.payload.drop 8, 63 < x.toNat) → s.Refuses (.dspWrite c) c 0x61 stBadParam) ∧
    (c.payload.length ≠ 11 → s.Refuses (.dspFill c) c 0x62 stBadLength) ∧
    (c.payload.length = 11 → 320 < u16 c.payload 0 + u16 c.payload 4 ∨ 240 < u16 c.payload 2 + u16 c.payload 6 ∨
      (∃ x ∈ c.payload.drop 8, 63 < x.toNat) → s.Refuses (.dspFill c) c 0x62 stBadParam) ∧
    (c.payload ≠ [] → s.Refuses (.dspPresent c) c 0x63 stBadLength) ∧
    (c.payload.length ≠ 5 + u16 c.payload 3 ∨ u16 c.payload 3 = 0 ∨ 320 < u16 c.payload 3 → s.Refuses (.dspLwWrite c) c 0x64 stBadLength) ∧
    (5 < c.payload.length → c.payload.length = 5 + u16 c.payload 3 → u16 c.payload 3 ≤ 320 → 16 * (s.rd R.DSP_LW_HT + 1) ≤ u8 c.payload 0 ∨
      (∃ x ∈ c.payload.drop 5, 7 < x.toNat) → s.Refuses (.dspLwWrite c) c 0x64 stBadParam) ∧
    (c.payload.length = 1 → 1 < u8 c.payload 0 → s.Refuses (.dspMode c) c 0x65 stBadParam) ∧
    (c.payload = [0] ∨ c.payload = [1] → s.limp = true ∨ s.rd R.PWR_STAT_MODE = 1 → s.Refuses (.dspMode c) c 0x65 stNotPermitted) ∧
    (c.payload = [] → s.limp = true → s.Refuses (.dspPresent c) c 0x63 stNotPermitted) ∧
    (c.payload = [] → s.limp = false → s.console.isOpen = false → 32 ≤ s.dsp.queue.length → s.Refuses (.dspPresent c) c 0x63 stQueueFull)) ∧
  (∀ (s : State) (r : Ref) (p : Bytes) (x y w h : Nat), s.dsp.queue = [⟨r, p, 0⟩] → r.op = 0x61 → x = u16 p 0 → y = u16 p 2 → w = u16 p 4 → h = u16 p 6 →
    p.length = 8 + 3 * (w * h) → x + w ≤ 320 → w * h ≤ 1362 → s.dsp.onDue = false → s.dsp.shown = [] → s.dsp.presenting = false →
    (∀ a b c, a < w → b < h → c < 3 → mget 0 s.dspRun.dsp.nxt (subpixel (x + a) (y + b) c) = u8 p (8 + 3 * (w * b + a) + c)) ∧
    (∀ a b c, a < 320 → c < 3 → a < x ∨ x + w ≤ a ∨ b < y ∨ y + h ≤ b →
      mget 0 s.dspRun.dsp.nxt (subpixel a b c) = mget 0 s.dsp.nxt (subpixel a b c)) ∧
    s.dspRun = { s with dsp.nxt := s.dspRun.dsp.nxt, dsp.queue := [] }.ok r) ∧
  (∀ (s : State) (r : Ref) (p : Bytes) (x y w h : Nat), s.dsp.queue = [⟨r, p, 0⟩] → r.op = 0x62 → x = u16 p 0 → y = u16 p 2 → w = u16 p 4 → h = u16 p 6 →
    p.length = 11 → x + w ≤ 320 → w * h ≤ 32512 → s.dsp.onDue = false → s.dsp.shown = [] → s.dsp.presenting = false →
    (∀ a b c, a < w → b < h → c < 3 → mget 0 s.dspRun.dsp.nxt (subpixel (x + a) (y + b) c) = u8 p (8 + c)) ∧
    (∀ a b c, a < 320 → c < 3 → a < x ∨ x + w ≤ a ∨ b < y ∨ y + h ≤ b →
      mget 0 s.dspRun.dsp.nxt (subpixel a b c) = mget 0 s.dsp.nxt (subpixel a b c)) ∧
    s.dspRun = { s with dsp.nxt := s.dspRun.dsp.nxt, dsp.queue := [] }.ok r) ∧
  (∀ (s : State) (r : Ref) (p : Bytes) (l : List DspReq), s.dsp.queue = ⟨r, p, 0⟩ :: l → s.dsp.presenting = true ∧ (r.op = 0x61 ∨ r.op = 0x62) ∨
    r.op = 0x64 ∧ s.lap = 0 → s.dsp.onDue = false → s.dsp.presenting = true ∨ s.dsp.shown = [] → s.dspRun = s) ∧
  (∀ (s : State) (r : Ref) (p : Bytes), s.dsp.queue = [⟨r, p, 0⟩] → r.op = 0x64 → s.lap ≠ 0 → p.length = 5 + u16 p 3 → u16 p 3 ≤ 320 →
    s.dsp.onDue = false → s.dsp.shown = [] → s.dsp.presenting = false →
    (∀ k, k < u16 p 3 → mget 0 s.dspRun.dsp.lantern (320 * u8 p 0 + u16 p 1 + k) = u8 p (5 + k)) ∧
    s.dspRun = { s with dsp.lantern := s.dspRun.dsp.lantern, dsp.queue := [] }.ok r) ∧
  (∀ (s : State) (r : Ref) (p : Bytes), s.dsp.queue = [⟨r, p, 0⟩] → r.op = 0x63 → s.dsp.onDue = false → s.dsp.shown = [] →
    s.dspRun = { (s.accepted r).wr R.DSP_STAT_PRES_PEND 1 with dsp.queue := [], dsp.presents := s.dsp.presents ++ [r] }) ∧
  (∀ (s : State) (r : Ref) (p : Bytes), s.dsp.queue = [⟨r, p, 0⟩] → r.op = 0x65 → s.dsp.onDue = false → s.dsp.shown = [] →
    s.dspRun = { s with
      dsp.queue := [], dsp.mode := u8 p 0 == 1, dsp.modeDue := some (u8 p 0 == 1), dsp.modeCmds := s.dsp.modeCmds ++ [r] }) ∧
  (∀ (s : State) (r : Ref), s.dsp.queue = [⟨r, [1], 0⟩] → r.op = 0x60 → s.dsp.onDue = false → s.dsp.shown = [] → s.rd R.DSP_STAT_STATE = 0 →
    s.onRefused = false → s.dspRun.rd R.DSP_STAT_STATE = 1 ∧ s.dspRun.pwr.wait = s.pwr.wait ++ [⟨0, s.rd R.PWR_CLASS_RES_A, .panel, s.ticks⟩] ∧
    s.dspRun.dsp = { s.dsp with queue := [], onCmds := s.dsp.onCmds ++ [r] } ∧ s.Frame [.regs, .pwr, .spoke, .dsp] s.dspRun) ∧
  (∀ (s : State) (r : Ref), s.dsp.queue = [⟨r, [0], 0⟩] → r.op = 0x60 → s.dsp.onDue = false → s.dsp.shown = [] → s.rd R.DSP_STAT_STATE = 3 →
    s.dsp.off = none → s.dspRun = { s.accepted r with dsp.queue := [], dsp.off := some 1, dsp.offCmds := s.dsp.offCmds ++ [r] }) ∧
  (∀ (s : State) (n : Bool) (v : BitVec 512), (∀ k ∈ List.range 64, bits v.toNat (8 * k) 8 ≤ 240) → ∃ t, exec (.dspGammaWrite n v) s = .next t ∧
    (∀ k ∈ List.range 64, t.rd (if n = true then R.DSP_GAMMA_NEG_GV k else R.DSP_GAMMA_POS_GV k) = bits v.toNat (8 * k) 8) ∧
    (∀ k, k / 1024 ≠ (if n = true then 0x6005 else 0x6004) → t.rd k = s.rd k) ∧ s.Frame [.regs] t) ∧
  (∀ (s : State) (n : Bool) (v : BitVec 512), (∃ k ∈ List.range 64, 240 < bits v.toNat (8 * k) 8) → exec (.dspGammaWrite n v) s = .next s)

/-! ### Segment panel (14_panel_segments.md) -/

/-- A common is at VLCD and then 0 in its two ticks and at VLCD/4 and 3 VLCD/4 in every other; a segment line at 0 then VLCD for a 1
and at VLCD/2 for a 0, so each pair of ticks has mean zero; a stopped driver holds 0. A committed swap copies the captured back
pattern into the shown one, counts in SWAPS, clears ALT and leaves the back pattern. VLCD_LOW begins and ends with SEG_NOTE kind 1,
and its beginning is a NOTE fault. The alternate pattern is shown at the first lap edge after a loss of the main rails with ALT_EN.
LOSS_T stops the driver and the return of the rails restarts it, each with kind 2. A SEG_CFG write with VLCD above 250 changes
nothing. SEG_WRITE and SEG_SHOW enter queue 212 or are refused; DSP_SVC writes the back pattern and takes the swap request, which
the next tick edge commits. -/
def Obligations.SegmentPanel : Prop :=
  (∀ (s : State) (c : Fin 8) (n : Fin 48), s.rd R.SEG_STAT_RUN = 1 → s.comLevel c (2 * c) = 4 ∧ s.comLevel c (2 * c + 1) = 0 ∧
    (∀ k : Fin 8, k ≠ c → s.comLevel k (2 * c) = 1 ∧ s.comLevel k (2 * c + 1) = 3) ∧ (∃ b : Bool, b = bit (s.rd (if s.rd R.SEG_STAT_ALT = 1
      then R.SEG_ALT_SEG n else R.SEG_PAT_SEG n)) c ∧ s.segLevel n (2 * c) = (if b = true then 0 else 2) ∧
      s.segLevel n (2 * c + 1) = (if b = true then 4 else 2)) ∧
    (∀ k : Fin 8, ((s.comLevel k (2 * c) : Int) - s.segLevel n (2 * c)) + (s.comLevel k (2 * c + 1) - s.segLevel n (2 * c + 1)) = 0)) ∧
  (∀ (s : State) (c n t : Nat), s.rd R.SEG_STAT_RUN ≠ 1 → s.comLevel c t = 0 ∧ s.segLevel n t = 0) ∧
  (∀ s : State, s.seg.swap = none → exec .segmentSwap s = .next s) ∧
  (∀ (s : State) (p : List Nat), s.seg.swap = some p → p.length = 48 → ∃ t, exec .segmentSwap s = .next t ∧
    (∀ n, n < 48 → t.rd (R.SEG_PAT_SEG n) = p.getD n 0 ∧ t.rd (R.SEG_BACK_SEG n) = s.rd (R.SEG_BACK_SEG n)) ∧ t.rd R.SEG_STAT_ALT = 0 ∧
    t.rd R.SEG_STAT_SWAPS = min 0xFFFF (s.rd R.SEG_STAT_SWAPS + 1) ∧
    t.seg = { s.seg with swap := none, ready := [], done := s.seg.done ++ s.seg.ready } ∧
    (∀ k, k / 1024 ≠ 0x6402 → k ≠ R.SEG_STAT_ALT → k ≠ R.SEG_STAT_SWAPS → t.rd k = s.rd k) ∧ s.Frame [.regs, .seg] t) ∧
  (∀ s : State, s.rd R.SEG_STAT_VLCD_LOW = 0 → ∃ t, exec .vlcdLow s = .next t ∧ t.rd R.SEG_STAT_VLCD_LOW = 1 ∧
    (∀ k, k ≠ R.SEG_STAT_VLCD_LOW → k / 1024 / 256 ≠ 0x78 → t.rd k = s.rd k) ∧ s.Raises 0x66 [1, 0, 1, 0] t ∧ t.flt = (s.fault clNote 0x64 1 0 1).flt ∧ s.Frame [.regs, .spoke, .flt] t) ∧
  (∀ s : State, s.rd R.SEG_STAT_VLCD_LOW = 1 → exec .vlcdLow s = .next s) ∧
  (∀ s : State, s.rd R.SEG_STAT_VLCD_LOW = 1 → ∃ t, exec .vlcdLowEnd s = .next t ∧ s.Fields [(R.SEG_STAT_VLCD_LOW, 0)] t ∧
    s.Raises 0x66 [1, 0, 0, 0] t ∧ s.Frame [.regs, .spoke] t) ∧
  (∀ s : State, s.rd R.SEG_STAT_VLCD_LOW = 0 → exec .vlcdLowEnd s = .next s) ∧
  (∀ s : State, s.seg.altDue = true → s.rd R.SEG_CFG_ALT_EN = 1 → s.seg.noMain = true → ∃ t, exec .altPattern s = .next t ∧
    s.Fields [(R.SEG_STAT_ALT, 1)] t ∧ s.Raises 0x66 [3, 0, 0, 0] t ∧ t.seg = { s.seg with altDue := false } ∧ s.Frame [.regs, .spoke, .seg] t) ∧
  (∀ s : State, s.rd R.SEG_CFG_ALT_EN ≠ 1 ∨ s.seg.noMain = false → ∃ t, exec .altPattern s = .next t ∧ t.seg = { s.seg with altDue := false } ∧
    s.Frame [.seg] t) ∧
  (∀ s : State, s.seg.noMain = true → s.rd R.SEG_CFG_LOSS_T ≠ 0 → s.rd R.SEG_STAT_RUN = 1 → ∃ t, exec .lossTStop s = .next t ∧
    s.Fields [(R.SEG_STAT_STOPPED_LOSS, 1), (R.SEG_STAT_RUN, 0)] t ∧ s.Raises 0x66 [2, 0, 1, 0] t ∧ s.Frame [.regs, .spoke] t) ∧
  (∀ s : State, s.seg.noMain = false ∨ s.rd R.SEG_CFG_LOSS_T = 0 ∨ s.rd R.SEG_STAT_RUN ≠ 1 → exec .lossTStop s = .next s) ∧
  (∀ s : State, s.seg.noMain = true → s.seg.loss < 65535 → s.segStage.seg = { s.seg with loss := s.seg.loss + 1 } ∧
    (s.rd R.SEG_CFG_LOSS_T = 0 ∨ s.seg.loss + 1 < s.rd R.SEG_CFG_LOSS_T → s.Frame [.seg] s.segStage) ∧
    (s.rd R.SEG_CFG_LOSS_T ≠ 0 → s.rd R.SEG_CFG_LOSS_T ≤ s.seg.loss + 1 → s.rd R.SEG_STAT_RUN = 1 →
      s.segStage.rd R.SEG_STAT_RUN = 0 ∧ s.segStage.rd R.SEG_STAT_STOPPED_LOSS = 1)) ∧
  (∀ s : State, s.seg.noMain = false → s.rd R.SEG_STAT_STOPPED_LOSS = 1 → ∃ t, exec .segmentRestart s = .next t ∧
    s.Fields [(R.SEG_STAT_RUN, s.rd R.SEG_CFG_EN), (R.SEG_STAT_STOPPED_LOSS, 0)] t ∧ t.seg = { s.seg with stby := false, loss := 0 } ∧
    s.Raises 0x66 [2, 0, 0, 0] t ∧ s.Frame [.regs, .spoke, .seg] t) ∧
  (∀ s : State, s.seg.noMain = false → s.rd R.SEG_STAT_STOPPED_LOSS = 0 → s.seg.stby = true → ∃ t, exec .segmentRestart s = .next t ∧
    s.Fields [(R.SEG_STAT_RUN, s.rd R.SEG_CFG_EN)] t ∧ t.seg = { s.seg with stby := false, loss := 0 } ∧ s.Frame [.regs, .seg] t) ∧
  (∀ s : State, s.seg.noMain = true ∨ s.rd R.SEG_STAT_STOPPED_LOSS ≠ 1 ∧ s.seg.stby = false → exec .segmentRestart s = .next s) ∧
  (∀ (s : State) (v : BitVec 32), v.toNat / 2 ^ 8 % 2 ^ 8 ≤ 250 → ∃ t, exec (.segCfgWrite v) s = .next t ∧ s.Fields [
      (R.SEG_CFG_LOSS_T, v.toNat / 2 ^ 16 % 2 ^ 16), (R.SEG_CFG_VLCD, v.toNat / 2 ^ 8 % 2 ^ 8), (R.SEG_CFG_ALT_EN, v.toNat / 4 % 2),
      (R.SEG_CFG_STBY, v.toNat / 2 % 2), (R.SEG_CFG_EN, v.toNat % 2)] t ∧ s.Frame [.regs] t) ∧
  (∀ (s : State) (v : BitVec 32), 250 < v.toNat / 2 ^ 8 % 2 ^ 8 → exec (.segCfgWrite v) s = .next s) ∧
  (∀ s : State, s.seg.lapAt ≠ some s.cad.now → s.rd R.SEG_STAT_STOPPED_LOSS = 0 → s.seg.stby = false → s.seg.swap = none → s.seg.altDue = false →
    s.Fields [(R.SEG_STAT_RUN, if s.rd R.SEG_CFG_EN = 1 then 1 else 0)] s.segLap ∧
    s.segLap.seg = { s.seg with lapAt := some s.cad.now, vlcd := s.rd R.SEG_CFG_VLCD } ∧ s.Frame [.regs, .seg] s.segLap) ∧
  (∀ (s : State) (c : Cmd), s.Ready c → 2 ≤ c.payload.length → c.payload.length = 2 + u8 c.payload 1 → u8 c.payload 0 + u8 c.payload 1 ≤ 48 →
    s.seg.queue.length < 32 → ∃ t, exec (.segWrite c) s = .next t ∧ s.Holds c 0x66 t ∧
    t.seg = { s.seg with queue := s.seg.queue ++ [⟨s.refOf c 0x66, c.payload, 0⟩] } ∧ s.Frame [.spoke, .seg] t) ∧
  (∀ (s : State) (c : Cmd), s.Ready c → (c.payload.length < 2 ∨ c.payload.length ≠ 2 + u8 c.payload 1 → s.Refuses (.segWrite c) c 0x66 stBadLength) ∧
    (2 ≤ c.payload.length → c.payload.length = 2 + u8 c.payload 1 → 48 < u8 c.payload 0 + u8 c.payload 1 → s.Refuses (.segWrite c) c 0x66 stBadParam) ∧
    (2 ≤ c.payload.length → c.payload.length = 2 + u8 c.payload 1 → u8 c.payload 0 + u8 c.payload 1 ≤ 48 → 32 ≤ s.seg.queue.length →
      s.Refuses (.segWrite c) c 0x66 stQueueFull)) ∧
  (∀ (s : State) (c : Cmd), s.Ready c → c.payload = [] → s.rd R.SEG_CFG_EN = 1 → s.seg.queue.length < 32 → ∃ t, exec (.segShow c) s = .next t ∧
    s.Holds c 0x67 t ∧ t.seg = { s.seg with queue := s.seg.queue ++ [⟨s.refOf c 0x67, [], 0⟩] } ∧ s.Frame [.spoke, .seg] t) ∧
  (∀ (s : State) (c : Cmd), s.Ready c → (c.payload ≠ [] → s.Refuses (.segShow c) c 0x67 stBadLength) ∧
    (c.payload = [] → s.rd R.SEG_CFG_EN ≠ 1 → s.Refuses (.segShow c) c 0x67 stNotPermitted) ∧
    (c.payload = [] → s.rd R.SEG_CFG_EN = 1 → 32 ≤ s.seg.queue.length → s.Refuses (.segShow c) c 0x67 stQueueFull)) ∧
  (∀ (s : State) (r : Ref) (p : Bytes), s.seg.queue = [⟨r, p, 0⟩] → s.seg.done = [] → r.op = 0x66 → u8 p 0 + u8 p 1 ≤ 48 →
    (∀ n, n < 48 → s.segRun.rd (R.SEG_BACK_SEG n) = (if u8 p 0 ≤ n ∧ n < u8 p 0 + u8 p 1 then u8 p (2 + n - u8 p 0) else s.rd (R.SEG_BACK_SEG n)) ∧
      s.segRun.rd (R.SEG_PAT_SEG n) = s.rd (R.SEG_PAT_SEG n)) ∧
    ∃ u : State, u = { s with seg.queue := [], regs := s.segRun.regs } ∧ s.segRun = u.ok r) ∧
  (∀ (s : State) (r : Ref), s.seg.queue = [⟨r, [], 0⟩] → s.seg.done = [] → r.op = 0x67 →
    s.segRun = { s.accepted r with seg.queue := [], seg.shows := s.seg.shows ++ [r] }) ∧
  (∀ (s : State) (r : Ref), s.seg.queue = [] → s.seg.done = [r] → s.segRun = { s with seg.done := [] }.ok r) ∧
  (∀ s : State, s.seg.shows ≠ [] → s.segTick = { s with
    seg.ready := s.seg.ready ++ s.seg.shows, seg.shows := [], seg.swap := some ((List.range 48).map fun n => s.rd (R.SEG_BACK_SEG n)) })

/-! ### Die temperature (15_die_thermal.md) -/

/-- At the end of a grace with nothing enforced the target level is enforced, with a DEGRADE fault. The alarm starts at the fourth
evaluation with DELTA of 0x010 or more, the act ends at the eighth below 0x028, and the thermal level falls to the target at the
eighth evaluation below it, never while the act is in force. The enforced level takes effect at the lap edge: LEVEL at once, and in
Run the SYS divisor, Stable's q and at levels 2 and 3 the throttled slot table; a waiting THM_FLOOR gets OK. The orderly stop ends in
a hub reset with cause THERM_STOP, and the cut sensor's trip writes THM_LAST and resets with cause THERM_CUT. THM_FLOOR sets FLOOR or
is refused. A read marks the rings valid, an evaluation takes HOT, DELTA, the prohibitions and the target from it, starts the orderly
stop at SHUTDOWN, and enforces level 3 when no ring is valid. -/
def Obligations.DieThermal : Prop :=
  (∀ s : State, 0 < s.rd R.THM_STAT_TARGET → s.enforced = 0 → s.rd R.THM_STAT_GRACE ≤ 1 → s.rd R.THM_STAT_TARGET < 4 → ∃ t, exec .graceExpire s = .next t ∧
    t.thm = { s.thm with level := s.rd R.THM_STAT_TARGET } ∧ t.rd R.THM_STAT_GRACE = 0 ∧ t.enforced = s.rd R.THM_STAT_TARGET ∧
    s.Raises 0x3C ([3, BitVec.ofNat 8 (s.rd R.THM_STAT_TARGET)] ++ le 2 (s.rd R.THM_STAT_HOT)) t ∧
    t.flt = (s.fault clDegrade 0x38 3 (s.rd R.THM_STAT_TARGET) (s.rd R.THM_STAT_HOT)).flt ∧ s.Frame [.regs, .spoke, .thm, .flt] t) ∧
  (∀ s : State, s.rd R.THM_STAT_TARGET = 0 ∨ s.enforced ≠ 0 ∨ 1 < s.rd R.THM_STAT_GRACE → exec .graceExpire s = .next s) ∧
  (∀ (s : State) (d : Nat), 3 ≤ s.rd R.THM_STAT_STREAK → s.rd R.THM_STAT_DELTA = d → 0x10 ≤ d → d < 0x800 → s.rd R.THM_STAT_ALARM = 0 →
    ∃ t, exec .riseAlarm s = .next t ∧ t.rd R.THM_STAT_STREAK = 4 ∧ t.rd R.THM_STAT_ALARM = 1 ∧ s.Raises 0x3C ([1, 0] ++ le 2 d) t ∧
    t.flt = (s.fault clNote 0x38 1 0 d).flt ∧ s.Frame [.regs, .spoke, .flt] t) ∧
  (∀ (s : State) (d : Nat), 3 ≤ s.rd R.THM_STAT_STREAK → s.rd R.THM_STAT_DELTA = d → 0x10 ≤ d → d < 0x800 → s.rd R.THM_STAT_ALARM = 1 →
    ∃ t, exec .riseAlarm s = .next t ∧ s.Fields [(R.THM_STAT_STREAK, 4)] t ∧ s.Frame [.regs] t) ∧
  (∀ s : State, s.rd R.THM_STAT_STREAK < 3 ∨ s.rd R.THM_STAT_DELTA < 0x10 ∨ 0x800 ≤ s.rd R.THM_STAT_DELTA ∧ s.rd R.THM_STAT_DELTA < 0x1000 →
    exec .riseAlarm s = .next s) ∧
  (∀ s : State, 7 ≤ s.thm.calm → s.rd R.THM_STAT_DELTA < 0x28 ∨ 0x800 ≤ s.rd R.THM_STAT_DELTA ∧ s.rd R.THM_STAT_DELTA < 0x1000 →
    ∃ t, exec .riseActEnd s = .next t ∧ s.Fields [(R.THM_STAT_ACT, 0)] t ∧ t.thm = { s.thm with calm := 8 } ∧ s.Frame [.regs, .thm] t) ∧
  (∀ s : State, s.thm.calm < 7 ∨ 0x28 ≤ s.rd R.THM_STAT_DELTA ∧ s.rd R.THM_STAT_DELTA < 0x800 → exec .riseActEnd s = .next s) ∧
  (∀ s : State, 7 ≤ s.thm.below → s.rd R.THM_STAT_TARGET < s.thm.level → s.rd R.THM_STAT_ACT = 0 → s.rd R.THM_STAT_FLOOR ≤ s.rd R.THM_STAT_TARGET →
    s.rd R.THM_STAT_TARGET < 4 → ∃ t, exec .levelFall s = .next t ∧ t.thm = { s.thm with below := 0, level := s.rd R.THM_STAT_TARGET } ∧
    s.Raises 0x3C ([3, BitVec.ofNat 8 (s.rd R.THM_STAT_TARGET)] ++ le 2 (s.rd R.THM_STAT_HOT)) t ∧ s.Frame [.spoke, .thm] t) ∧
  (∀ s : State, 7 ≤ s.thm.below → s.rd R.THM_STAT_TARGET < s.thm.level → s.rd R.THM_STAT_ACT = 1 → ∃ t, exec .levelFall s = .next t ∧
    t.thm = { s.thm with below := 8 } ∧ s.Frame [.thm] t) ∧
  (∀ s : State, s.thm.below < 7 → exec .levelFall s = .next s) ∧
  (∀ (s : State) (r : Ref), s.thm.floors = [] → s.rd R.PWR_STAT_MODE = 0 → s.enforced < 4 → ∃ t, exec .levelTakesEffect s = .next t ∧
    s.Fields [(R.STB_STAT_SKIPQ, s.enforced), (R.THM_STAT_LEVEL, s.enforced)] t ∧
    t.thm = { s.thm with div := if s.enforced = 0 ∨ s.enforced = 1 then 1 else if s.enforced = 2 then 2 else 4 } ∧
    t.cad = { s.cad with active := if s.limp = true ∨ (2 ≤ s.rd R.THM_STAT_LEVEL ↔ 2 ≤ s.enforced) then s.cad.active
      else if 2 ≤ s.enforced then { base := .throttled } else s.cad.source } ∧
    exec .levelTakesEffect { s with thm.floors := [r] } = .next (t.ok r) ∧ s.Frame [.regs, .cad, .thm] t) ∧
  (∀ s : State, s.thm.floors = [] → s.rd R.PWR_STAT_MODE ≠ 0 → ∃ t, exec .levelTakesEffect s = .next t ∧
    s.Fields [(R.THM_STAT_LEVEL, s.enforced)] t ∧ s.Frame [.regs] t) ∧
  (∀ s : State, s.rd R.THM_STAT_STOPPING = 1 → s.thm.end_ ≤ s.ticks ∨ (s.rd R.DSP_STAT_STATE = 0 ∨ s.rd R.DSP_STAT_STATE = 6) ∧ s.dsp.disch = none ∧
    (∀ v ∈ List.range 8, (s.ramp v).next = none ∧ s.rd (R.ACT_VOUT_CODE v) = s.rd (R.ACT_VOUT_TARGET v)) → exec .thermStop s = .next (s.hubReset 6)) ∧
  (∀ s : State, s.rd R.THM_STAT_STOPPING ≠ 1 ∨ s.ticks < s.thm.end_ ∧ s.rd R.DSP_STAT_STATE ≠ 0 ∧ s.rd R.DSP_STAT_STATE ≠ 6 →
    exec .thermStop s = .next s) ∧
  (∀ s : State, s.thm.cut = true → exec .cutSensorTrip s = .next s) ∧
  (∀ s : State, s.thm.cut = false → ∃ u, u = { s with
      thm.staged := none, thm.cut := true
      regs := if s.rd R.THM_LAST_PEND = 1 ∧ ¬(s.rd R.THM_STAT_STOPPING = 1 ∧ s.thm.mine = true) then s.regs else
        (s.wrs [(R.THM_LAST_PEND, 1), (R.THM_LAST_CUT, 1), (R.THM_LAST_LEVEL, s.rd R.THM_STAT_LEVEL), (R.THM_LAST_DIE, s.rd R.THM_STAT_HOT),
          (R.THM_LAST_STAGE, s.stage % 2 ^ 32)]).regs } ∧ exec .cutSensorTrip s = .next (u.hubReset 7) ∧
    (u.hubReset 7).thm.cut = true) ∧
  (∀ s : State, exec .cutSensorRelease s = .next { s with thm.cut := false }) ∧
  (∀ (s : State) (c : Cmd) (l : Nat), s.Ready c → c.payload = le 1 l → l ≤ 3 → s.rd R.THM_STAT_STOPPING = 0 → ∃ t, exec (.thmFloor c) s = .next t ∧
    s.Fields [(R.THM_STAT_FLOOR, l)] t ∧ t.thm = { s.thm with floors := s.thm.floors ++ [s.refOf c 0x3C] } ∧ t.enforced = max s.thm.level l ∧
    ((∀ n ∈ List.range 32, wants n 0x3C (s.chan n) = false) → s.Holds c 0x3C t) ∧ s.Frame [.regs, .spoke, .thm] t) ∧
  (∀ (s : State) (c : Cmd), s.Ready c → (c.payload.length ≠ 1 → s.Refuses (.thmFloor c) c 0x3C stBadLength) ∧
    (c.payload.length = 1 → 3 < u8 c.payload 0 → s.Refuses (.thmFloor c) c 0x3C stBadParam) ∧
    (c.payload.length = 1 → u8 c.payload 0 ≤ 3 → s.rd R.THM_STAT_STOPPING = 1 → s.Refuses (.thmFloor c) c 0x3C stNotPermitted)) ∧
  (∀ (s : State) (l : List (BitVec 12)) (n : Nat), l.length = 8 → n < 8 → ∃ c, c = (l.getD n 0).toNat ∧ (s.thmRead l).rd (R.THM_SENS_T n) = c ∧
    (bit ((s.thmRead l).rd R.THM_STAT_RINGS) n = true ↔ 0x0E0 ≤ c ∧ c ≤ 0xD60) ∧ s.Frame [.regs] (s.thmRead l)) ∧
  (∀ h b : Nat, b ≤ 3 → (levelOf h b = 3 ↔ 0xB30 ≤ h ∨ b = 3 ∧ 0xAE0 ≤ h) ∧ (2 ≤ levelOf h b ↔ 0xAE0 ≤ h ∨ 2 ≤ b ∧ 0xA90 ≤ h) ∧
    (1 ≤ levelOf h b ↔ 0xA40 ≤ h ∨ 1 ≤ b ∧ 0x9F0 ≤ h) ∧ levelOf h b ≤ 3) ∧
  (∀ s : State, ∃ m, m = s.hottest ∧ (∀ h i, m = some (h, i) → s.thmEval.rd R.THM_STAT_HOT = h ∧ s.thmEval.rd R.THM_STAT_HOT_IDX = i ∧
      s.thmEval.rd R.THM_STAT_VALID = 1 ∧ s.thmEval.thm.prev = some h ∧
      s.thmEval.rd R.THM_STAT_DELTA = (match s.thm.prev with | none => 0 | some p => unsigned 12 ((h : Int) - p)) ∧
      (s.thmEval.rd R.THM_STAT_HAY_INH = 1 ↔ h < 0x220 ∨ 0x9F0 < h) ∧ (s.thmEval.rd R.THM_STAT_CHG_INH = 1 ↔ h < 0x400 ∨ 0x860 < h) ∧
      s.thmEval.rd R.THM_STAT_TARGET = min 3 (levelOf h s.thm.base + s.thmEval.rd R.THM_STAT_ACT) ∧
      (0xB80 ≤ h → s.thmEval.rd R.THM_STAT_STOPPING = 1) ∧ (h < 0xB80 → s.thmEval.rd R.THM_STAT_STOPPING = s.rd R.THM_STAT_STOPPING)) ∧
    (m = none → s.thmEval.rd R.THM_STAT_VALID = 0 ∧ s.thmEval.rd R.THM_STAT_TARGET = 3 ∧ s.thmEval.thm.level = 3 ∧
      s.thmEval.rd R.THM_STAT_HAY_INH = 1 ∧ s.thmEval.rd R.THM_STAT_CHG_INH = 1 ∧ s.thmEval.rd R.THM_STAT_DELTA = 0 ∧ s.thmEval.thm.prev = none))

/-! ### Security (16_security.md) -/

/-- SEC_HELLO with a usable slot of its mode answers ACCEPTED and OK with HN and in mode 0 HP, and keeps the handshake for 16,384 ticks.
SEC_AUTH ends the handshake: what it proves binds the channel with both counters at 0 and clears the failure count; otherwise
AUTH_FAIL, one more failure, and at the fifth a lockout of 65,536 ticks. A handshake and a lockout end at their ticks. OPEN opens a
window of 120 stages, START is served once per window and shows its code on channels 24 to 30, CONFIRM stores the key or rejects, and
the window's end is told. SEC_CRYPT seals under a fresh nonce and opens or answers FAULT 0x01; SEC_RANDOM answers COUNT bytes; with
the entropy failed both end with FAULT. The DRBG reseeds after 64 stages; a health failure stops it; NVM_WP is shown, and CERT
follows. The random numbers are free values (log entry 3), and the cryptography is uninterpreted (log entry 4). -/
def Obligations.Handshakes : Prop :=
  (∀ (s : State) (c : Cmd) (mode slot : Nat) (cn : Bytes), s.Ready c → c.payload = le 1 mode ++ le 1 slot ++ cn → cn.length = 16 →
    s.rd R.SEC_STAT_LIFECYCLE = 1 ∨ s.rd R.SEC_STAT_LIFECYCLE = 2 →
    mode = 0 ∧ c.ch.val < 24 ∧ 2 ≤ slot ∧ slot ≤ 5 ∧ (s.keySlot slot).kind = 1 ∧
        bit (s.keySlot slot).use (if c.ch.val < 16 then 0 else if c.ch.val < 20 then 1 else 2) = true ∨
      mode = 1 ∧ c.ch.val < 16 ∧ 8 ≤ slot ∧ slot ≤ 15 ∧ (s.keySlot slot).kind = 3 →
    s.locked c.ch = false → s.rd R.PWR_STAT_PFSEQ ≠ 1 → s.sec.drbg = true → s.rd R.SEC_STAT_ENT_FAIL ≠ 1 → ∃ hn, hn = s.random 16 ∧
    ∃ d, d = (if mode = 0 then hn.2.random 32 else ([], hn.2)) ∧ ∃ hp : Bytes, hp = (if mode = 0 then Config.p256Public d.1 else []) ∧
    ∃ t, exec (.secHello c) s = .next t ∧ s.Posts c [interimPkt c 0x68, finalPkt c 0x68 stOk (hn.1 ++ hp)] t ∧
    (t.chan c.ch).uses = (s.chan c.ch).uses ∧ (t.chan c.ch).hello = some ⟨mode, slot, cn, hn.1, [], d.1, hp, s.ticks + 16384, false⟩ ∧
    (t.chan c.ch).bind = none ∧ s.Frame [.free, .spoke] t) ∧
  (∀ (s : State) (c : Cmd), s.Ready c → (c.payload.length ≠ 18 → s.Refuses (.secHello c) c 0x68 stBadLength) ∧
    (c.payload.length = 18 → 1 < u8 c.payload 0 ∨ s.helloSlot (u8 c.payload 0) (u8 c.payload 1) c.ch = false →
      s.Refuses (.secHello c) c 0x68 stBadParam) ∧
    (c.payload.length = 18 → u8 c.payload 0 ≤ 1 → s.helloSlot (u8 c.payload 0) (u8 c.payload 1) c.ch = true → 24 ≤ c.ch.val ∨
      s.locked c.ch = true ∨ u8 c.payload 0 = 1 ∧ 16 ≤ c.ch.val ∨ s.rd R.PWR_STAT_PFSEQ = 1 → s.Refuses (.secHello c) c 0x68 stNotPermitted) ∧
    (c.payload.length = 18 → u8 c.payload 0 ≤ 1 → s.helloSlot (u8 c.payload 0) (u8 c.payload 1) c.ch = true → c.ch.val < 16 →
      s.locked c.ch = false → s.rd R.PWR_STAT_PFSEQ ≠ 1 → s.sec.drbg = false ∨ s.rd R.SEC_STAT_ENT_FAIL = 1 →
      s.Refuses (.secHello c) c 0x68 stFault)) ∧
  (∀ (s : State) (c : Cmd) (h : Hello), s.Ready c → (s.chan c.ch).uses = [] → (s.chan c.ch).hello = some h → s.ticks ≤ h.until_ ∨ h.inTime = true →
    c.payload.length = (if h.mode = 0 then 128 else 16) → s.rd R.PWR_STAT_PFSEQ ≠ 1 → (s.chan c.ch).fails < 4 → ∃ t, exec (.secAuth c) s = .next t ∧
    ∃ a, a = s.authenticate c.ch h c.payload ∧ (t.chan c.ch).hello = none ∧ (t.chan c.ch).uses = [] ∧
    t.hay = (s.sessionRecord c.ch h.mode h.slot (if a = none then 1 else 0)).hay ∧
    (a = none → s.Posts c [interimPkt c 0x69, finalPkt c 0x69 stAuthFail] t ∧ (t.chan c.ch).fails = (s.chan c.ch).fails + 1 ∧ (t.chan c.ch).bind = none) ∧
    (∀ e ∈ a, s.Posts c [interimPkt c 0x69, finalPkt c 0x69 stOk e.2] t ∧ (t.chan c.ch).fails = 0 ∧
      (t.chan c.ch).bind = some ⟨e.1, h.slot, 0, 0⟩) ∧ s.Frame [.spoke, .hay] t) ∧
  (∀ (s : State) (c : Cmd) (h : Hello), s.Ready c → (s.chan c.ch).uses = [] → (s.chan c.ch).hello = some h → s.ticks ≤ h.until_ ∨ h.inTime = true →
    c.payload.length = (if h.mode = 0 then 128 else 16) → s.rd R.PWR_STAT_PFSEQ ≠ 1 → (s.chan c.ch).fails = 4 →
    (s.keySlot h.slot).kind ≠ (if h.mode = 0 then 1 else 3) → (∀ n ∈ List.range 32, wants n 0x68 (s.chan n) = false) → ∃ t, exec (.secAuth c) s = .next t ∧
    s.Posts c [interimPkt c 0x69, finalPkt c 0x69 stAuthFail] t ∧ (t.chan c.ch).fails = 0 ∧ (t.chan c.ch).lockEnd = some (s.ticks + 65536) ∧
    t.locked c.ch = true ∧ t.flt = (s.fault clNote 0x68 3 c.ch 0).flt ∧ s.Frame [.regs, .spoke, .hay, .flt] t) ∧
  (∀ (s : State) (c : Cmd), s.Ready c → (c.payload.length ≠ 128 → c.payload.length ≠ 16 → s.Refuses (.secAuth c) c 0x69 stBadLength) ∧
    (c.payload.length = 16 → (∀ h ∈ (s.chan c.ch).hello, h.mode ≠ 0 ∧ h.until_ < s.ticks ∧ h.inTime = false) →
      s.Refuses (.secAuth c) c 0x69 stNotPermitted)) ∧
  (∀ (s : State) (n : Fin 32) (h : Hello), (s.chan n).hello = some h → ∃ t, exec (.handshakeLapse n) s = .next t ∧
    t.chan n = { s.chan n with hello := if h.inTime = true ∨ s.ticks ≤ h.until_ then some h else none } ∧ (∀ k, k ≠ n.val → t.chan k = s.chan k) ∧
    s.Frame [.spoke] t) ∧
  (∀ (s : State) (n : Fin 32) (e : Nat), (s.chan n).lockEnd = some e → ∃ t, exec (.lockoutEnd n) s = .next t ∧
    t.chan n = { s.chan n with lockEnd := if s.ticks < e then some e else none } ∧ (∀ k, k ≠ n.val → t.chan k = s.chan k) ∧
    s.Frame [.spoke] t) ∧
  (∀ (s : State) (c : Cmd) (slot : Nat), s.Ready c → c.payload = [0] ++ le 1 slot → 8 ≤ slot → slot ≤ 15 → 24 ≤ c.ch.val → c.ch.val ≤ 30 →
    s.rd R.PWR_STAT_PFSEQ ≠ 1 → s.rd R.SEC_STAT_LIFECYCLE = 1 ∨ s.rd R.SEC_STAT_LIFECYCLE = 2 → (s.keySlot slot).kind = 0 → s.sec.pairWin = none →
    ∃ t, exec (.secPairOpen c) s = .next t ∧ s.Answers c 0x6A stOk [] t ∧ s.Fields [(R.SEC_STAT_PAIR_WIN, 1)] t ∧
    t.sec = { s.sec with pairWin := some (slot, s.stage + 120), pairUsed := false } ∧ s.Frame [.regs, .spoke, .sec] t) ∧
  (∀ (s : State) (c : Cmd), s.Ready c → (c.payload.length ≠ 2 → c.payload ≠ [] → s.Refuses (.secPairOpen c) c 0x6A stBadLength) ∧
    (c.payload.length = 2 → u8 c.payload 1 < 8 ∨ 15 < u8 c.payload 1 → s.Refuses (.secPairOpen c) c 0x6A stBadParam) ∧
    (c.payload.length = 2 → 8 ≤ u8 c.payload 1 → u8 c.payload 1 ≤ 15 → c.ch.val < 24 ∨ c.ch.val = 31 ∨ s.rd R.SEC_STAT_LIFECYCLE = 0 ∨
      s.rd R.SEC_STAT_LIFECYCLE = 3 → s.Refuses (.secPairOpen c) c 0x6A stNotPermitted)) ∧
  (∀ (s : State) (c : Cmd) (ep en : Bytes), s.Ready c → c.payload = [1] ++ ep ++ en → ep.length = 64 → en.length = 16 → c.ch.val < 16 →
    s.sec.pairWin ≠ none → s.sec.pairUsed = false → s.rd R.PWR_STAT_PFSEQ ≠ 1 → s.sec.drbg = true → s.rd R.SEC_STAT_ENT_FAIL ≠ 1 →
    ∃ hn, hn = s.random 16 ∧ ∃ sk, sk = hn.2.random 32 ∧ ∃ hp, hp = Config.p256Public sk.1 ∧ ∃ z, z = Config.ecdh sk.1 ep ∧
    ∃ t, exec (.secPairStart c) s = .next t ∧ (t.chan c.ch).outq = (s.chan c.ch).outq ++ [interimPkt c 0x6A (hp ++ hn.1)] ∧
    t.sec = { s.sec with pair := some ⟨s.refOf c 0x6A, z, hp, ep, hn.1, en⟩, pairUsed := true } ∧
    (∀ n, 24 ≤ n → n ≤ 30 → t.chan n = raiseOn n 0x68 ([1, BitVec.ofNat 8 c.ch] ++
      le 4 (u32 (Config.sha256 (z ++ hp ++ ep ++ hn.1 ++ en)) 0 % 1000000)) (s.chan n)) ∧ s.Frame [.free, .spoke, .sec] t) ∧
  (∀ (s : State) (c : Cmd), s.Ready c → (c.payload.length ≠ 81 → c.payload ≠ [] → s.Refuses (.secPairStart c) c 0x6A stBadLength) ∧
    (c.payload.length = 81 → 16 ≤ c.ch.val ∨ s.sec.pairWin = none ∨ s.rd R.PWR_STAT_PFSEQ = 1 → s.Refuses (.secPairStart c) c 0x6A stNotPermitted) ∧
    (c.payload.length = 81 → c.ch.val < 16 → s.sec.pairWin ≠ none → s.sec.pairUsed = false → s.rd R.PWR_STAT_PFSEQ ≠ 1 →
      s.sec.drbg = false → s.Refuses (.secPairStart c) c 0x6A stFault)) ∧
  (∀ (s : State) (c : Cmd), s.Ready c → c.payload.length = 81 → c.ch.val < 16 → s.sec.pairWin ≠ none → s.sec.pairUsed = true →
    s.rd R.PWR_STAT_PFSEQ ≠ 1 → ∃ t, exec (.secPairStart c) s = .next t ∧ t.sec = { s.sec with pair := none } ∧ s.Frame [.spoke, .sec] t) ∧
  (∀ (s : State) (c : Cmd) (x : PairStart) (slot e : Nat), s.Ready c → c.payload = [2, 1] → 24 ≤ c.ch.val → c.ch.val ≤ 30 → s.sec.pair = some x →
    s.sec.pairWin = some (slot, e) → s.rd R.PWR_STAT_PFSEQ ≠ 1 → s.sec.ops = [] → s.sec.burn = none → s.gatesClosed = false →
    ∃ k : Slot, k = ⟨3, 0, s.nextGen slot, (Config.hmac x.z (x.hp ++ x.ep ++ x.hn ++ x.en)).take 16⟩ ∧
    ∃ t, exec (.secPairConfirm c) s = .next t ∧ s.Answers c 0x6A stOk [] t ∧ s.Fields [(R.SEC_STAT_PAIR_WIN, 0)] t ∧ t.sec = { s.sec with
      pairWin := none, pairUsed := false, pair := none, nextId := s.sec.nextId + 1, made := mins s.sec.made slot k
      ops := [⟨s.sec.nextId, some x.cmd, .pair slot k, none, 0, 1⟩] } ∧
    t.hay = { s.hay with
      nextId := s.hay.nextId + 1
      reqs := s.hay.reqs ++ [⟨s.hay.nextId, 249, .sec (0x8C0 + slot) (s.slotImage slot k) s.sec.nextId, s.ticks, false⟩] } ∧
    s.Frame [.regs, .spoke, .hay, .sec] t) ∧
  (∀ (s : State) (c : Cmd) (x : PairStart), s.Ready c → c.payload = [2, 0] → 24 ≤ c.ch.val → c.ch.val ≤ 30 → s.sec.pair = some x →
    s.sec.pairWin ≠ none → s.rd R.PWR_STAT_PFSEQ ≠ 1 → ∃ t, exec (.secPairConfirm c) s = .next t ∧ s.Fields [(R.SEC_STAT_PAIR_WIN, 0)] t ∧
    t.sec = { s.sec with pairWin := none, pairUsed := false, pair := none } ∧ s.Frame [.regs, .spoke, .sec] t) ∧
  (∀ (s : State) (c : Cmd), s.Ready c → (c.payload.length ≠ 2 → c.payload ≠ [] → s.Refuses (.secPairConfirm c) c 0x6A stBadLength) ∧
    (c.payload.length = 2 → 1 < u8 c.payload 1 → s.Refuses (.secPairConfirm c) c 0x6A stBadParam) ∧
    (c.payload.length = 2 → u8 c.payload 1 ≤ 1 → c.ch.val < 24 ∨ c.ch.val = 31 ∨ s.sec.pair = none → s.Refuses (.secPairConfirm c) c 0x6A stNotPermitted)) ∧
  (∀ (s : State) (slot e : Nat), s.sec.pairWin = some (slot, e) → e ≤ s.stage → s.sec.pair = none → ∃ t, exec .pairingWindowEnd s = .next t ∧
    s.Fields [(R.SEC_STAT_PAIR_WIN, 0)] t ∧ t.sec = { s.sec with pairWin := none, pairUsed := false } ∧
    s.Raises 0x68 [2, BitVec.ofNat 8 slot, 2, 0, 0, 0] t ∧ s.Frame [.regs, .spoke, .sec] t) ∧
  (∀ s : State, (∀ w ∈ s.sec.pairWin, s.stage < w.2) → exec .pairingWindowEnd s = .next s) ∧
  (∀ (s : State) (c : Cmd) (slot : Nat) (aad d : Bytes), s.Ready c → c.payload = [0] ++ le 1 slot ++ le 2 aad.length ++ aad ++ d →
    aad.length + d.length ≤ 1024 → 16 ≤ slot → slot ≤ 31 → (s.keySlot slot).kind = 4 → s.rd R.PWR_STAT_PFSEQ ≠ 1 →
    s.rd R.SEC_STAT_LIFECYCLE = 1 ∨ s.rd R.SEC_STAT_LIFECYCLE = 2 → s.sec.drbg = true → s.rd R.SEC_STAT_ENT_FAIL ≠ 1 → ∃ n, n = s.random 12 ∧
    ∃ t, exec (.secCryptSeal c) s = .next t ∧ s.Answers c 0x6C stOk (n.1 ++ Config.gcmSeal (s.keySlot slot).key n.1 aad d) t ∧
    s.Frame [.free, .spoke] t) ∧
  (∀ (s : State) (c : Cmd) (slot : Nat) (aad d : Bytes), s.Ready c → c.payload = [0] ++ le 1 slot ++ le 2 aad.length ++ aad ++ d →
    aad.length + d.length ≤ 1024 → 16 ≤ slot → slot ≤ 31 → (s.keySlot slot).kind = 4 → s.rd R.PWR_STAT_PFSEQ ≠ 1 →
    s.rd R.SEC_STAT_LIFECYCLE = 1 ∨ s.rd R.SEC_STAT_LIFECYCLE = 2 → s.sec.drbg = false ∨ s.rd R.SEC_STAT_ENT_FAIL = 1 →
    ∃ t, exec (.secCryptSeal c) s = .next t ∧ s.Answers c 0x6C stFault [2] t ∧ s.Frame [.spoke] t) ∧
  (∀ (s : State) (c : Cmd) (slot : Nat) (aad n d : Bytes), s.Ready c → c.payload = [1] ++ le 1 slot ++ le 2 aad.length ++ aad ++ n ++ d →
    n.length = 12 → 16 ≤ d.length → aad.length + d.length ≤ 1040 → 16 ≤ slot → slot ≤ 31 → (s.keySlot slot).kind = 4 → s.rd R.PWR_STAT_PFSEQ ≠ 1 →
    s.rd R.SEC_STAT_LIFECYCLE = 1 ∨ s.rd R.SEC_STAT_LIFECYCLE = 2 → ∃ t, exec (.secCryptOpen c) s = .next t ∧
    ∃ m, m = Config.gcmOpen (s.keySlot slot).key n aad d ∧ (m = none → s.Answers c 0x6C stFault [1] t) ∧
    (∀ x ∈ m, s.Answers c 0x6C stOk x t) ∧ s.Frame [.spoke] t) ∧
  (∀ (s : State) (c : Cmd), s.Ready c → c.payload ≠ [] →
    (c.payload.length < 4 ∨ c.payload.length < 4 + u16 c.payload 2 ∨ 1028 < c.payload.length → s.Refuses (.secCryptSeal c) c 0x6C stBadLength) ∧
    (c.payload.length < 4 ∨ c.payload.length < 32 + u16 c.payload 2 ∨ 1056 < c.payload.length → s.Refuses (.secCryptOpen c) c 0x6C stBadLength) ∧
    (32 + u16 c.payload 2 ≤ c.payload.length → c.payload.length ≤ 1028 → s.cryptSlot (u8 c.payload 1) = false →
      s.Refuses (.secCryptSeal c) c 0x6C stBadParam ∧ s.Refuses (.secCryptOpen c) c 0x6C stBadParam) ∧
    (4 + u16 c.payload 2 ≤ c.payload.length → c.payload.length ≤ 1028 → s.cryptSlot (u8 c.payload 1) = true →
      s.rd R.SEC_STAT_LIFECYCLE = 0 ∨ s.rd R.SEC_STAT_LIFECYCLE = 3 ∨ s.rd R.PWR_STAT_PFSEQ = 1 → s.Refuses (.secCryptSeal c) c 0x6C stNotPermitted)) ∧
  (∀ (s : State) (c : Cmd) (n : Nat), s.Ready c → c.payload = le 1 n → 1 ≤ n → n ≤ 64 → s.sec.drbg = true → s.rd R.SEC_STAT_ENT_FAIL ≠ 1 →
    ∃ d, d = s.random n ∧ ∃ t, exec (.secRandom c) s = .next t ∧ s.Answers c 0x6F stOk d.1 t ∧ d.1.length = n ∧ s.Frame [.free, .spoke] t) ∧
  (∀ (s : State) (c : Cmd), s.Ready c → (c.payload.length ≠ 1 → s.Refuses (.secRandom c) c 0x6F stBadLength) ∧
    (c.payload.length = 1 → u8 c.payload 0 = 0 ∨ 64 < u8 c.payload 0 → s.Refuses (.secRandom c) c 0x6F stBadParam) ∧
    (c.payload.length = 1 → 1 ≤ u8 c.payload 0 → u8 c.payload 0 ≤ 64 → s.sec.drbg = false → s.Refuses (.secRandom c) c 0x6F stFault)) ∧
  (∀ s : State, exec .drbgReseed s = .next (if s.sec.drbg = true ∧ s.rd R.SEC_STAT_ENT_FAIL ≠ 1 ∧ s.sec.seedAt + 64 ≤ s.stage then
    { s with sec := { s.sec with seedAt := s.stage } } else s)) ∧
  (∀ s : State, s.rd R.SEC_STAT_ENT_FAIL ≠ 1 → ∃ t, exec .entropyFail s = .next t ∧ t.rd R.SEC_STAT_ENT_FAIL = 1 ∧ t.rd R.SEC_STAT_CERT ≠ 1 ∧
    t.sec = { s.sec with drbg := false } ∧ t.randomOk = false ∧ t.hay = (s.record 2 0x16 [0]).hay ∧
    (s.rd R.SEC_STAT_CERT ≠ 1 → t.flt = (s.fault clDegrade 0x68 7 0 0).flt ∧ s.Raises 0x68 [7, 0, 0, 0, 0, 0] t) ∧
    s.Frame [.regs, .spoke, .hay, .sec, .flt] t) ∧
  (∀ s : State, s.rd R.SEC_STAT_ENT_FAIL = 1 → exec .entropyFail s = .next s) ∧
  (∀ (s : State) (low : Bool), ∃ t, exec (.nvmWpChange low) s = .next t ∧ t.rd R.SEC_STAT_WP_LOW = b2n low ∧ t.rd R.HAY_STAT_WP = b2n low ∧
    (t.rd R.SEC_STAT_CERT = 1 ↔ s.rd R.SEC_STAT_LIFECYCLE = 2 ∧ s.rd R.SEC_STAT_DBG_UNLOCKED ≠ 1 ∧ low = false ∧ s.rd R.SEC_STAT_PATCH_OK = 1 ∧
      s.rd R.SEC_STAT_AUDIT ≠ 1 ∧ s.rd R.STB_AUDIT_EN ≠ 1 ∧ s.rd R.SEC_STAT_ENT_FAIL ≠ 1) ∧
    ((t.rd R.SEC_STAT_CERT = 1 ↔ s.rd R.SEC_STAT_CERT = 1) → s.Fields [(R.HAY_STAT_WP, b2n low), (R.SEC_STAT_WP_LOW, b2n low)] t ∧ s.Frame [.regs] t) ∧
    (t.rd R.SEC_STAT_CERT = 1 → s.rd R.SEC_STAT_CERT ≠ 1 → s.Raises 0x68 [8, 0, 9, 0, 0, 0] t) ∧
    (t.rd R.SEC_STAT_CERT ≠ 1 → s.rd R.SEC_STAT_CERT = 1 → t.flt = (s.fault clDegrade 0x68 8 0 0).flt ∧
      s.Raises 0x68 ([8, 0] ++ le 4 (4 * s.rd R.SEC_STAT_LIFECYCLE)) t) ∧ s.Frame [.regs, .spoke, .flt] t)

/-- An owner-signed SEC_KEY or SEC_LIFECYCLE is accepted exactly when its signature, SERIAL and CMDSEQ are (R405): it then replies
ACCEPTED and asks hayloft to commit the security record with the new CMDSEQ before its action; otherwise AUTH_FAIL. When that commit
has ended CMDSEQ is stored and the action's own page is asked for, and when that has ended the slot holds the key, a KEY record is
made and OK carries GEN. TARGET 1 generates the identity key and asks for slot 0's page; a lifecycle change asks for the burn as a
class D action of 40 units. An admitted burn changes LIFECYCLE, and at RETURNED empties every slot, ends every binding, closes every
channel and starts the erasure of the 32 pages. The cryptography is uninterpreted (log entry 4). -/
def Obligations.KeysAndLifecycle : Prop :=
  (∀ (s : State) (c : Cmd) (slot use : Nat) (b : Bytes), s.Ready c → c.payload = [0] ++ le 1 slot ++ le 1 use ++ b → b.length = 141 → slot ≤ 5 →
    use < 256 → use = 0 ∨ 2 ≤ slot → s.rd R.SEC_STAT_LIFECYCLE = 1 ∨ s.rd R.SEC_STAT_LIFECYCLE = 2 → s.rd R.PWR_STAT_PFSEQ ≠ 1 → s.gatesClosed = false →
    s.sec.ops = [] → s.sec.burn = none → ∃ k : Slot, k = ⟨1, use, s.nextGen slot, (b.drop 1).take 64⟩ ∧
    ∃ q : Nat, q = u32 c.payload 76 ∧ ∃ p : Nat × Bytes, p = s.secRecordPage (s.recordWithSeq q) ∧ ∃ t, exec (.secKeyPut c) s = .next t ∧
    ∃ v : Bool, v = Config.p256Valid k.key ∧ ∃ o : Bool, o = s.ownerSigned 0x6B c.payload ∧
    (v = false → s.Answers c 0x6B stBadParam [] t ∧ s.Frame [.spoke] t) ∧ (v = true → o = false → s.Answers c 0x6B stAuthFail [] t ∧ s.Frame [.spoke] t) ∧
    (v = true → o = true → s.Accepts c 0x6B t ∧ t.sec = { s.sec with
        nextId := s.sec.nextId + 1, ops := [⟨s.sec.nextId, some (s.refOf c 0x6B), .key slot k 0, some q, 0, 1⟩] } ∧
      t.hay = { s.hay with
        nextId := s.hay.nextId + 1, reqs := s.hay.reqs ++ [⟨s.hay.nextId, 249, .sec p.1 p.2 s.sec.nextId, s.ticks, false⟩] } ∧
      s.Frame [.spoke, .hay, .sec] t)) ∧
  (∀ (s : State) (c : Cmd) (slot : Nat) (b : Bytes) (i : Instr) (sub : Nat) (a : SecAct), s.Ready c →
    c.payload = le 1 sub ++ le 1 slot ++ [0, 0] ++ b → b.length = 76 →
    (i, sub, a) = (Instr.secKeyGen c, 1, SecAct.gen slot) ∧ 16 ≤ slot ∧ slot ≤ 31 ∨
      (i, sub, a) = (Instr.secKeyDelete c, 2, SecAct.key slot ⟨0, 0, s.nextGen slot, []⟩ 2) ∧ slot < 32 ∧ slot ≠ 0 ∧ slot ≠ 6 ∧ slot ≠ 7 →
    s.rd R.SEC_STAT_LIFECYCLE = 1 ∨ s.rd R.SEC_STAT_LIFECYCLE = 2 → s.rd R.PWR_STAT_PFSEQ ≠ 1 → s.gatesClosed = false →
    s.sec.ops = [] → s.sec.burn = none → ∃ q : Nat, q = u32 c.payload 12 ∧ ∃ p : Nat × Bytes, p = s.secRecordPage (s.recordWithSeq q) ∧ ∃ t, exec i s = .next t ∧
    ∃ o : Bool, o = s.ownerSigned 0x6B c.payload ∧ (o = false → s.Answers c 0x6B stAuthFail [] t ∧ s.Frame [.spoke] t) ∧
    (o = true → s.Accepts c 0x6B t ∧ t.sec = { s.sec with
        nextId := s.sec.nextId + 1, ops := [⟨s.sec.nextId, some (s.refOf c 0x6B), a, some q, 0, 1⟩] } ∧
      t.hay = { s.hay with
        nextId := s.hay.nextId + 1, reqs := s.hay.reqs ++ [⟨s.hay.nextId, 249, .sec p.1 p.2 s.sec.nextId, s.ticks, false⟩] } ∧
      s.Frame [.spoke, .hay, .sec] t)) ∧
  (∀ (s : State) (c : Cmd), s.Ready c → c.payload ≠ [] → (c.payload.length ≠ 144 → s.Refuses (.secKeyPut c) c 0x6B stBadLength) ∧
    (c.payload.length ≠ 80 → s.Refuses (.secKeyGen c) c 0x6B stBadLength ∧ s.Refuses (.secKeyDelete c) c 0x6B stBadLength) ∧
    (c.payload.length = 144 → 5 < u8 c.payload 1 ∨ u8 c.payload 1 < 2 ∧ u8 c.payload 2 ≠ 0 → s.Refuses (.secKeyPut c) c 0x6B stBadParam) ∧
    (c.payload.length = 80 → u8 c.payload 1 < 16 ∨ 31 < u8 c.payload 1 ∨ u8 c.payload 2 ≠ 0 → s.Refuses (.secKeyGen c) c 0x6B stBadParam) ∧
    (c.payload.length = 80 → u8 c.payload 1 = 0 ∨ u8 c.payload 1 = 6 ∨ u8 c.payload 1 = 7 → s.Refuses (.secKeyDelete c) c 0x6B stBadParam) ∧
    (c.payload.length = 80 → 16 ≤ u8 c.payload 1 → u8 c.payload 1 ≤ 31 → u8 c.payload 2 = 0 → s.rd R.SEC_STAT_LIFECYCLE = 0 ∨
      s.rd R.SEC_STAT_LIFECYCLE = 3 ∨ s.rd R.PWR_STAT_PFSEQ = 1 →
      s.Refuses (.secKeyGen c) c 0x6B stNotPermitted ∧ s.Refuses (.secKeyDelete c) c 0x6B stNotPermitted)) ∧
  (∀ (s : State) (o : SecOp) (n : Nat) (k : Slot) (x q : Nat), s.sec.ops = [o] → o.act = .key n k x → o.cmdseq = some q → o.phase = 1 → o.asked = 1 →
    s.sec.burn = none → s.gatesClosed = false → s.Fields [(R.SEC_STAT_CMDSEQ, q)] s.secAdvance ∧ s.secAdvance.sec = { s.sec with
      made := mins s.sec.made n k, ops := [{ o with cmdseq := none, phase := 0, asked := 1 }] } ∧
    s.secAdvance.hay = { s.hay with
      nextId := s.hay.nextId + 1
      reqs := s.hay.reqs ++ [⟨s.hay.nextId, 249, .sec (0x8C0 + n) (s.slotImage n k) o.id, s.ticks, false⟩] } ∧
    s.Frame [.regs, .hay, .sec] s.secAdvance) ∧
  (∀ (s : State) (o : SecOp) (n : Nat) (k : Slot) (x : Nat) (r : Ref), s.sec.ops = [o] → o.act = .key n k x → o.cmdseq = none → o.cmd = some r →
    o.phase = 1 → o.asked = 1 → s.sec.burn = none → n ≠ 6 → ∃ u : State, u = { s.record 2 0x12 (le 1 n ++ le 1 x ++ le 2 k.gen) with
      sec.slots := mins s.sec.slots n k, sec.ops := []
      regs := (s.wrs [(R.SEC_SLOT_KIND n, k.kind), (R.SEC_SLOT_USE n, k.use), (R.SEC_SLOT_GEN n, k.gen)]).regs } ∧
    s.secAdvance = u.ok r (le 2 k.gen)) ∧
  (∀ (s : State) (c : Cmd) (root : Bytes), s.Ready c → c.payload = [1] ++ root → root.length = 64 → s.rd R.SEC_STAT_LIFECYCLE = 0 →
    c.ch.val < 16 ∨ c.ch.val = 31 → s.rd R.PWR_STAT_PFSEQ ≠ 1 → s.sec.drbg = true → s.rd R.SEC_STAT_ENT_FAIL ≠ 1 → s.gatesClosed = false →
    s.sec.ops = [] → s.sec.burn = none → ∃ d, d = s.random 32 ∧ ∃ k : Slot, k = ⟨1, 0, s.nextGen 0, root⟩ ∧
    ∃ t, exec (.secLifecycleProvision c) s = .next t ∧ (Config.p256Valid root = false → s.Answers c 0x6D stBadParam [] t ∧ s.Frame [.spoke] t) ∧
    (Config.p256Valid root = true → s.Accepts c 0x6D t ∧ t.sec = { s.sec with
        nextId := s.sec.nextId + 1, made := mins s.sec.made 0 k
        ops := [⟨s.sec.nextId, some (s.refOf c 0x6D), .provision root d.1, none, 0, 1⟩] } ∧
      t.hay = { s.hay with
        nextId := s.hay.nextId + 1
        reqs := s.hay.reqs ++ [⟨s.hay.nextId, 249, .sec 0x8C0 (s.slotImage 0 k) s.sec.nextId, s.ticks, false⟩] } ∧
      s.Frame [.free, .spoke, .hay, .sec] t)) ∧
  (∀ (s : State) (c : Cmd) (i : Instr) (target : Nat), s.Ready c → c.payload.length = 80 → c.payload.take 1 = le 1 target →
    (i, target) = (Instr.secLifecycleField c, 2) ∧ s.rd R.SEC_STAT_LIFECYCLE = 1 ∨
      (i, target) = (Instr.secLifecycleReturn c, 3) ∧ (s.rd R.SEC_STAT_LIFECYCLE = 1 ∨ s.rd R.SEC_STAT_LIFECYCLE = 2) →
    s.rd R.PWR_STAT_PFSEQ ≠ 1 → s.gatesClosed = false → s.sec.ops = [] → s.sec.burn = none → ∃ q : Nat, q = u32 c.payload 12 ∧
    ∃ p : Nat × Bytes, p = s.secRecordPage (s.recordWithSeq q) ∧ ∃ t, exec i s = .next t ∧ ∃ o : Bool, o = s.ownerSigned 0x6D c.payload ∧
    (o = false → s.Answers c 0x6D stAuthFail [] t ∧ s.Frame [.spoke] t) ∧
    (o = true → s.Accepts c 0x6D t ∧ t.sec = { s.sec with
        nextId := s.sec.nextId + 1, ops := [⟨s.sec.nextId, some (s.refOf c 0x6D), .life target, some q, 0, 1⟩] } ∧
      t.hay = { s.hay with
        nextId := s.hay.nextId + 1, reqs := s.hay.reqs ++ [⟨s.hay.nextId, 249, .sec p.1 p.2 s.sec.nextId, s.ticks, false⟩] } ∧
      s.Frame [.spoke, .hay, .sec] t)) ∧
  (∀ (s : State) (c : Cmd), s.Ready c → c.payload ≠ [] → (c.payload.length ≠ 65 → s.Refuses (.secLifecycleProvision c) c 0x6D stBadLength) ∧
    (c.payload.length ≠ 80 → s.Refuses (.secLifecycleField c) c 0x6D stBadLength ∧ s.Refuses (.secLifecycleReturn c) c 0x6D stBadLength) ∧
    (c.payload.length = 65 → s.rd R.SEC_STAT_LIFECYCLE ≠ 0 → s.Refuses (.secLifecycleProvision c) c 0x6D stBadParam) ∧
    (c.payload.length = 80 → s.rd R.SEC_STAT_LIFECYCLE = 0 ∨ s.rd R.SEC_STAT_LIFECYCLE = 3 →
      s.Refuses (.secLifecycleField c) c 0x6D stBadParam ∧ s.Refuses (.secLifecycleReturn c) c 0x6D stBadParam) ∧
    (c.payload.length = 80 → s.rd R.SEC_STAT_LIFECYCLE = 1 → s.rd R.PWR_STAT_PFSEQ = 1 → s.Refuses (.secLifecycleField c) c 0x6D stNotPermitted)) ∧
  (∀ (s : State) (o : SecOp) (target q : Nat), s.sec.ops = [o] → o.act = .life target → o.cmdseq = some q → o.phase = 1 → o.asked = 1 →
    s.sec.burn = none → s.transition target = true → s.gatesClosed = false → s.Fields [(R.SEC_STAT_CMDSEQ, q)] s.secAdvance ∧
    s.secAdvance.sec.burn = some (target, o.cmd) ∧ s.secAdvance.sec.burning = false ∧
    s.secAdvance.pwr.wait = s.pwr.wait ++ [⟨3, 40, .fuse, s.ticks⟩] ∧ s.Frame [.regs, .pwr, .sec] s.secAdvance) ∧
  (∀ s : State, s.sec.burn = none ∨ s.sec.burning = false → exec .fuseBurnEnd s = .next s) ∧
  (∀ (s : State) (target : Nat), s.sec.burn = some (target, none) → s.sec.burning = true → target = 1 ∨ target = 2 → s.sec.ops.length ≤ 1 →
    ∃ t, exec .fuseBurnEnd s = .next t ∧ t.rd R.SEC_STAT_LIFECYCLE = target ∧ t.sec = { s.sec with burn := none, burning := false, ops := [] } ∧
    t.hay = (s.record 2 0x13 (le 1 (s.rd R.SEC_STAT_LIFECYCLE) ++ le 1 target)).hay ∧ (∀ e ∈ t.pwr.hold, e.kind ≠ EscKind.fuse) ∧
    s.Frame [.regs, .pwr, .spoke, .hay, .sec, .flt] t) ∧
  (∀ s : State, s.sec.burn = some (3, none) → s.sec.burning = true → s.sec.ops.length ≤ 1 → s.gatesClosed = false → ∃ t, exec .fuseBurnEnd s = .next t ∧
    t.rd R.SEC_STAT_LIFECYCLE = 3 ∧ t.sec.returned = true ∧ t.sec.slots = [] ∧ t.sec.burn = none ∧ t.sec.pairWin = none ∧ t.sec.pair = none ∧
    (∀ n, n < 32 → t.rd (R.SEC_SLOT_KIND n) = 0) ∧ (∀ n, n < 32 → (t.chan n).isOpen = false ∧ (t.chan n).bind = none ∧ (t.chan n).hello = none) ∧
    t.sec.ops.map (·.act) = (List.range 32).map SecAct.erase ∧ t.keysUsable = false ∧ s.Frame [.regs, .free, .pwr, .spoke, .hay, .sec, .flt] t)

/-- BEGIN with a header that passes erases the bank that is not running and writes the header; a failing header is refused with its
RESULT. DATA at OFFSET equal to RECEIVED is written after what came before; any other OFFSET is refused, with a RESULT the spec does
not give (a free value, log entry 3). END that passes writes an intact bank record with SEQ one above the running bank's, and otherwise
answers its RESULT. CONFIRM asks for the security record with the running SEQ confirmed, and ABORT ends the update. TRIAL_EXPIRE asks
for the record with the running SEQ rejected. When the record's commit has ended the trial is over, with an UPDATE record. At boot a
bank runs only if its record is intact, it is not skipped and it passes every check. -/
def Obligations.Updates : Prop :=
  (∀ (s : State) (c : Cmd) (h : Bytes) (x : Nat), s.Ready c → c.payload = [0] ++ h → h.length = 192 → s.headerResult h = 0 → s.sec.upd = none →
    s.rd R.SEC_STAT_TRIAL ≠ 1 → s.rd R.PWR_STAT_PFSEQ ≠ 1 → s.sec.flashBad = false →
    ∃ b : Nat, b = (if s.rd R.SEC_BOOT_PATCH = 1 then 1 - s.rd R.SEC_BOOT_BANK else 0) ∧ ∃ t, exec (.secUpdateBegin c) s = .next t ∧
    s.Posts c [interimPkt c 0x6E, finalPkt c 0x6E stOk] t ∧ (t.chan c.ch).uses = (s.chan c.ch).uses ∧
    t.sec = { s.sec with upd := some ⟨b, h⟩, flash := t.sec.flash } ∧ t.bankBytes b 0 192 = h ∧ recordIntact (t.bankRecord b) = false ∧
    (192 ≤ x → x < 0x80000 → cellGet 0xFF t.sec.flash (0x80000 * b + x) = 0xFF) ∧
    (x < 0x80000 * b ∨ 0x80000 * (b + 1) ≤ x → cellGet 0xFF t.sec.flash x = cellGet 0xFF s.sec.flash x) ∧
    s.Fields [(R.SEC_UPD_RECEIVED, 0), (R.SEC_UPD_CHAN, c.ch), (R.SEC_UPD_STATE, 1)] t ∧ s.Frame [.regs, .spoke, .sec] t) ∧
  (∀ (s : State) (c : Cmd) (h : Bytes), s.Ready c → c.payload = [0] ++ h → h.length = 192 → s.headerResult h ≠ 0 → ∃ t, exec (.secUpdateBegin c) s = .next t ∧
    s.Answers c 0x6E stBadParam (le 1 (s.headerResult h)) t ∧ s.Frame [.spoke] t) ∧
  (∀ (s : State) (h : Bytes), (s.headerResult h = 2 ↔ ¬(h.length = 192 → sub h 0 4 = [0x57, 0x50, 0x41, 0x54] ∧ u8 h 4 = 1 ∧ u8 h 5 < 4 ∧ u8 h 6 < 64 ∧
      u8 h 7 = 0 ∧ (∀ x ∈ sub h 20 44, x = 0) ∧ 64 ≤ u32 h 8 ∧ u32 h 8 ≤ 262144 ∧ u32 h 8 % 64 = 0)) ∨ h.length ≠ 192) ∧
  (∀ (s : State) (h : Bytes), headerOk h = true → s.headerResult h = (if u32 h 12 ≠ s.rd R.SEC_BOOT_ROM_BUILD then 3
    else if u8 h 6 < s.rd R.SEC_BOOT_MIN_SVN then 4 else 0)) ∧
  (∀ (s : State) (c : Cmd) (u : Update) (d : Bytes), s.Ready c → s.sec.upd = some u → c.payload = [1] ++ le 4 (s.rd R.SEC_UPD_RECEIVED) ++ d → 1 ≤ d.length →
    d.length ≤ 4000 → s.rd R.SEC_UPD_RECEIVED < 2 ^ 32 → s.rd R.SEC_UPD_RECEIVED + d.length ≤ u32 u.header 8 → s.rd R.SEC_UPD_CHAN = c.ch →
    s.rd R.PWR_STAT_PFSEQ ≠ 1 → s.sec.flashBad = false → ∃ t, exec (.secUpdateData c) s = .next t ∧ s.Answers c 0x6E stOk [] t ∧
    s.Fields [(R.SEC_UPD_RECEIVED, s.rd R.SEC_UPD_RECEIVED + d.length)] t ∧ t.sec = { s.sec with flash := t.sec.flash } ∧
    t.bankBytes u.bank (192 + s.rd R.SEC_UPD_RECEIVED) d.length = d ∧
    (∀ x, x < 0x80000 * u.bank + 192 + s.rd R.SEC_UPD_RECEIVED ∨ 0x80000 * u.bank + 192 + s.rd R.SEC_UPD_RECEIVED + d.length ≤ x →
      cellGet 0xFF t.sec.flash x = cellGet 0xFF s.sec.flash x) ∧ s.Frame [.regs, .spoke, .sec] t) ∧
  (∀ (s : State) (c : Cmd), s.Ready c → 6 ≤ c.payload.length → c.payload.length ≤ 4005 → u32 c.payload 1 ≠ s.rd R.SEC_UPD_RECEIVED → ∃ d, d = s.draw 8 ∧
    ∃ t, exec (.secUpdateData c) s = .next t ∧ s.Answers c 0x6E stBadParam (le 1 d.1) t ∧ s.Frame [.free, .spoke] t) ∧
  (∀ (s : State) (c : Cmd) (u : Update), s.Ready c → s.sec.upd = some u → c.payload = [2] → s.rd R.SEC_UPD_CHAN = c.ch → s.rd R.PWR_STAT_PFSEQ ≠ 1 →
    s.sec.flashBad = false → s.sec.runSeq + 1 < 2 ^ 32 → ∃ h d : Bytes, h = s.bankHeader u.bank ∧ d = s.bankDigest u.bank ∧
    ∃ n : Nat, n = (if u8 h 6 < s.rd R.SEC_BOOT_MIN_SVN then 4 else s.signResult h d) ∧ ∃ t, exec (.secUpdateEnd c) s = .next t ∧
    s.Posts c [interimPkt c 0x6E, finalPkt c 0x6E (if n = 0 then stOk else stBadParam) (if n = 0 then [] else le 1 n)] t ∧
    (n ≠ 0 → s.Frame [.spoke] t) ∧
    (n = 0 → t.bankSeq u.bank = s.sec.runSeq + 1 ∧ sub (t.bankRecord u.bank) 0 4 = [0x4C, 0x42, 0x4B, 0x31] ∧
      t.sec = { s.sec with upd := none, trials := 0, flash := t.sec.flash } ∧ t.rd R.SEC_UPD_STATE = 2 ∧
      t.hay = (s.record 2 0x14 (le 1 0 ++ le 1 u.bank ++ le 1 (u8 u.header 6))).hay ∧ s.Frame [.regs, .spoke, .hay, .sec] t)) ∧
  (∀ (s : State) (c : Cmd), s.Ready c → c.payload = [3] → s.rd R.SEC_STAT_TRIAL = 1 → s.rd R.PWR_STAT_PFSEQ ≠ 1 → s.gatesClosed = false → s.sec.ops = [] →
    s.sec.burn = none → ∃ p : Nat × Bytes, p = s.secRecordPage (secRecord (s.rd R.SEC_STAT_CMDSEQ)
      (if s.sec.commitSvn = true then s.rd R.SEC_BOOT_SVN else s.rd R.SEC_BOOT_MIN_SVN) s.sec.runSeq s.sec.reject) ∧
    ∃ t, exec (.secUpdateConfirm c) s = .next t ∧ s.Holds c 0x6E t ∧ t.sec = { s.sec with
      nextId := s.sec.nextId + 1, ops := [⟨s.sec.nextId, some (s.refOf c 0x6E), .trial true, none, 0, 1⟩] } ∧
    t.hay = { s.hay with
      nextId := s.hay.nextId + 1, reqs := s.hay.reqs ++ [⟨s.hay.nextId, 249, .sec p.1 p.2 s.sec.nextId, s.ticks, false⟩] } ∧
    s.Frame [.spoke, .hay, .sec] t) ∧
  (∀ (s : State) (c : Cmd), s.Ready c → c.payload = [4] → s.sec.upd ≠ none → s.rd R.SEC_UPD_CHAN = c.ch → s.rd R.PWR_STAT_PFSEQ ≠ 1 →
    ∃ t, exec (.secUpdateAbort c) s = .next t ∧ s.Answers c 0x6E stOk [] t ∧ t.sec = { s.sec with upd := none } ∧
    s.Fields [(R.SEC_UPD_RECEIVED, 0), (R.SEC_UPD_CHAN, 0), (R.SEC_UPD_STATE, 0)] t ∧ s.Frame [.regs, .spoke, .sec] t) ∧
  (∀ (s : State) (c : Cmd), s.Ready c → c.payload ≠ [] → (c.payload.length ≠ 193 → s.Refuses (.secUpdateBegin c) c 0x6E stBadLength) ∧
    (c.payload.length < 6 ∨ 4005 < c.payload.length → s.Refuses (.secUpdateData c) c 0x6E stBadLength) ∧
    (c.payload.length ≠ 1 → s.Refuses (.secUpdateEnd c) c 0x6E stBadLength ∧ s.Refuses (.secUpdateConfirm c) c 0x6E stBadLength ∧
      s.Refuses (.secUpdateAbort c) c 0x6E stBadLength) ∧
    (c.payload.length = 1 → s.sec.upd = none ∨ s.rd R.SEC_UPD_CHAN ≠ c.ch ∨ s.rd R.PWR_STAT_PFSEQ = 1 →
      s.Refuses (.secUpdateEnd c) c 0x6E stNotPermitted ∧ s.Refuses (.secUpdateAbort c) c 0x6E stNotPermitted) ∧
    (c.payload.length = 1 → s.rd R.SEC_STAT_TRIAL ≠ 1 ∨ s.rd R.PWR_STAT_PFSEQ = 1 → s.Refuses (.secUpdateConfirm c) c 0x6E stNotPermitted)) ∧
  (∀ (s : State) (c : Cmd), s.Ready c → c.payload.length = 193 → s.headerResult (sub c.payload 1 192) = 0 → s.sec.upd ≠ none ∨ s.rd R.SEC_STAT_TRIAL = 1 ∨
    s.rd R.PWR_STAT_PFSEQ = 1 → s.Refuses (.secUpdateBegin c) c 0x6E stNotPermitted) ∧
  (∀ s : State, s.rd R.SEC_STAT_TRIAL = 1 → s.rd R.SEC_UPD_TRIAL_LEFT = 0 → s.gatesClosed = false → s.sec.ops = [] → s.sec.burn = none → s.sec.skipped = none →
    ∃ p : Nat × Bytes, p = s.secRecordPage (secRecord (s.rd R.SEC_STAT_CMDSEQ) (s.rd R.SEC_BOOT_MIN_SVN) s.sec.confirmed (some s.sec.runSeq)) ∧
    ∃ t, exec .trialExpire s = .next t ∧ t.sec = { s.sec with nextId := s.sec.nextId + 1, ops := [⟨s.sec.nextId, none, .trial false, none, 0, 1⟩] } ∧
    t.hay = { s.hay with
      nextId := s.hay.nextId + 1, reqs := s.hay.reqs ++ [⟨s.hay.nextId, 249, .sec p.1 p.2 s.sec.nextId, s.ticks, false⟩] } ∧ s.Frame [.hay, .sec] t) ∧
  (∀ s : State, s.rd R.SEC_STAT_TRIAL ≠ 1 ∨ s.rd R.SEC_UPD_TRIAL_LEFT ≠ 0 → exec .trialExpire s = .next s) ∧
  (∀ (s : State) (o : SecOp), s.sec.ops = [o] → o.act = .trial true → o.cmdseq = none → o.phase = 1 → o.asked = 1 → s.sec.burn = none →
    s.rd R.SEC_STAT_TRIAL = 1 → s.sec.skipped = none → s.secAdvance.sec = { s.sec with ops := [], confirmed := s.sec.runSeq, trials := 0 } ∧
    s.Fields [(R.SEC_UPD_STATE, 0), (R.SEC_UPD_TRIAL_LEFT, 0), (R.SEC_STAT_TRIAL, 0),
      (R.SEC_BOOT_MIN_SVN, if s.sec.commitSvn = true then s.rd R.SEC_BOOT_SVN else s.rd R.SEC_BOOT_MIN_SVN)] s.secAdvance ∧
    s.secAdvance.hay = (s.record 2 0x14 (le 1 2 ++ le 1 (s.rd R.SEC_BOOT_BANK) ++ le 1 (s.rd R.SEC_BOOT_SVN))).hay) ∧
  (∀ (s : State) (o : SecOp), s.sec.ops = [o] → o.act = .trial false → o.cmd = none → o.cmdseq = none → o.phase = 1 → o.asked = 1 → s.sec.burn = none →
    s.rd R.SEC_STAT_TRIAL = 1 → s.sec.skipped = none → ∃ u, u = { s with sec.ops := [] }.trialEnded false ∧
    u.sec = { s.sec with ops := [], reject := some s.sec.runSeq, trials := 0 } ∧ u.rd R.SEC_STAT_TRIAL = 0 ∧
    u.hay = (s.record 2 0x14 (le 1 3 ++ le 1 (s.rd R.SEC_BOOT_BANK) ++ le 1 (s.rd R.SEC_BOOT_SVN))).hay ∧
    s.secAdvance = u.hubFault 0x68 6 (s.rd R.SEC_BOOT_BANK) 1 none 0x5) ∧
  (∀ s : State, s.sec.flashBad = true ∨ (∀ b ∈ List.range 2, recordIntact (s.bankRecord b) = false) → s.secureBoot.rd R.SEC_BOOT_PATCH = 0 ∧
    s.secureBoot.rd R.SEC_STAT_PATCH_OK = 0 ∧ s.secureBoot.rd R.SEC_BOOT_RESULT = (if s.sec.flashBad = true then 7 else 1) ∧
    s.secureBoot.sec.runSeq = 0) ∧
  (∀ s : State, s.secureBoot.rd R.SEC_BOOT_PATCH ≠ 1 ∨ ∃ b ∈ List.range 2, s.secureBoot.rd R.SEC_BOOT_BANK = b ∧ recordIntact (s.bankRecord b) = true ∧
    s.bankResult b = 0 ∧ s.sec.reject ≠ some (s.bankSeq b) ∧ ¬(s.sec.confirmed < s.bankSeq b ∧ 3 ≤ s.sec.trials) ∧
    s.secureBoot.sec.runSeq = s.bankSeq b ∧ s.secureBoot.rd R.SEC_BOOT_SVN = u8 (s.bankHeader b) 6)

/-! ### Faults and recovery (17_faults.md) -/

/-- A HUB fault writes FLT_LAST and asserts its reset at the second AON edge after it. A core that has completed no run in 16 ticks raises
one that names it. The reset of a unit whose marker is placed takes effect once: Stable's tasks become EMPTY and its rings empty with
their configuration kept, and the segment driver drops its swap. When a complete recovery ends, each channel gets the final replies of
its touched commands, ABORTED without a result, then the OK of the resets that wait, then RECOVERED, and a RECOVERY record is made.
STREAK is cleared after 300 calm stages, counts fault resets at boot, and 3 boots into limp mode; the limp hold, LIMP_ENTER and
LIMP_EXIT set it and reset with cause COMMAND, and FLT_CTL is refused in the other mode, in the power-fail sequence and in DEBUG_HOLD.
The LIMP_ENTER and LIMP_EXIT rows judge permission as from channel 0, which is the model's choice (log entry 38). FLT_SVC records the
highest class first, sets PLANT for a PLANT fault, and resets a unit at DEG_MAX attributed faults. -/
def Obligations.FaultsAndRecovery : Prop :=
  (∀ s : State, s.flt.hubDue = none → exec .hubFaultReset s = .next s) ∧
  (∀ (s : State) (c : Nat), s.flt.hubDue = some c → exec .hubFaultReset s = .next (s.hubReset c)) ∧
  (∀ (s : State) (src code unit data : Nat) (core : Option Nat) (cause : Nat), s.pwr.held = false → s.flt.hubDue = none →
    ∃ t, t = s.hubFault src code unit data core cause ∧ s.Fields [(R.FLT_LAST_RECORD, faultBits (s.faultRec 4 src code unit data)),
      (R.FLT_LAST_DISCARDED, s.flt.queue.length), (R.FLT_LAST_CORE_VALID, b2n core.isSome), (R.FLT_LAST_CORE, core.getD 0), (R.FLT_LAST_PEND, 1)] t ∧
    t.flt = { s.flt with hubDue := some cause, hubEdges := 2, calm := 0, byFault := true } ∧ s.Frame [.regs, .flt] t) ∧
  (∀ (s : State) (c : Nat), s.flt.hubDue = some c → s.hubFaultEdge = (if 1 < s.flt.hubEdges then
    { s with flt := { s.flt with hubEdges := s.flt.hubEdges - 1 } } else s.hubReset c)) ∧
  (∀ (s : State) (n : Fin 2), 16 ≤ (if n = 0 then s.cad.wd0 else s.cad.wd1) → s.pwr.held = false → s.flt.hubDue = none →
    ∃ t, exec (.coreWatchdog n) s = .next t ∧ t.flt.hubDue = some 5 ∧ t.flt.hubEdges = 2 ∧ t.rd R.FLT_LAST_PEND = 1 ∧ t.rd R.FLT_LAST_CORE = n.val ∧
    t.rd R.FLT_LAST_CORE_VALID = 1 ∧ t.rd R.FLT_LAST_RECORD = faultBits (s.faultRec 4 0x70 0 0 0) ∧ s.Frame [.regs, .cad, .flt] t) ∧
  (∀ (s : State) (n : Fin 2), (if n = 0 then s.cad.wd0 else s.cad.wd1) < 16 → exec (.coreWatchdog n) s = .next s) ∧
  (∀ (s : State) (u : Fin 8), (∀ v ∈ s.flt.recov, v.unit = u.val → v.done = true) → exec (.subsysUnitReset u) s = .next s) ∧
  (∀ (s : State) (q k : Fin 4) (r : Fin 16), (∃ v ∈ s.flt.recov, v.unit = 5 ∧ v.done = false) → ∃ t, exec (.subsysUnitReset 5) s = .next t ∧
    t.rd (R.STB_TASK_STATE q k) = 0 ∧ t.rd (R.STB_RING_FILL q r) = 0 ∧ t.rd (R.STB_RING_HEAD q r) = 0 ∧ t.rd (R.STB_RING_TAIL q r) = 0 ∧
    t.rd (R.STB_RING_EN q r) = s.rd (R.STB_RING_EN q r) ∧ t.rd (R.STB_RING_SIZE q r) = s.rd (R.STB_RING_SIZE q r) ∧
    (∀ v ∈ t.flt.recov, v.unit = 5 → v.done = true)) ∧
  (∀ (s : State) (n : Nat), n < 48 → (∃ v ∈ s.flt.recov, v.unit = 7 ∧ v.done = false) → ∃ t, exec (.subsysUnitReset 7) s = .next t ∧
    t.seg.queue = [] ∧ t.seg.swap = none ∧ t.rd (R.SEG_BACK_SEG n) = s.rd (R.SEG_PAT_SEG n) ∧ t.rd (R.SEG_PAT_SEG n) = s.rd (R.SEG_PAT_SEG n) ∧
    t.rd R.SEG_STAT_RUN = s.rd R.SEG_STAT_RUN ∧ s.Frame [.regs, .seg, .flt] t) ∧
  (∀ (s : State) (u : Fin 8), (∃ v ∈ s.flt.recov, v.unit = u.val ∧ v.done = false) → ∃ m, m = { s with flt.recov := s.flt.recov.map (recovTook u) } ∧
    exec (.subsysUnitReset u) s = .next (if u = 1 then m.adcReset else if u = 2 then m.portsReset else if u = 3 then m.busUnitReset 0
      else if u = 4 then m.busUnitReset 1 else if u = 5 then m.stbUnitReset else if u = 6 then m.dspUnitReset else m.segUnitReset) ∧
    (u = 6 → m.dspUnitReset.dsp.queue = []) ∧ (u = 1 → m.adcReset.adc.ages = [])) ∧
  (∀ (s : State) (v : Recovery) (u : Fin 8), s.flt.recov = [v] → v.unit = u.val → v.done = true → v.touched = [] → v.waiters = [] →
    u.val ≠ 6 ∨ s.dsp.rstDue = false → ∃ t, exec (.recoveryEnd u) s = .next t ∧ t.flt = { s.flt with recov := [] } ∧
    s.Raises 0x79 [BitVec.ofNat 8 u, 0, 0, 0] t ∧ (t.log 1).next = ((s.log 1).next + 1) % 2 ^ 32 ∧ s.Frame [.spoke, .hay, .flt] t) ∧
  (∀ (s : State) (u : Fin 8) (r w : Ref), s.flt.recov = [⟨u, [⟨r, none⟩], [w], false, true⟩] → u.val ≠ 6 ∨ s.dsp.rstDue = false → r.ch < 32 → w.ch = r.ch →
    (s.chan r.ch).epoch = r.epoch → (s.chan r.ch).epoch = w.epoch → outCount (s.chan r.ch) .final ≤ 14 → (s.chan r.ch).waits = [] →
    (s.chan r.ch).bind = none → wants r.ch 0x79 (s.chan r.ch) = false → ∃ t, exec (.recoveryEnd u) s = .next t ∧ t.flt.recov = [] ∧
    (t.chan r.ch).outq = (s.chan r.ch).outq ++ [⟨.final, r.tag, replyOpcode r.op, le 1 stAborted, []⟩, ⟨.final, w.tag, replyOpcode w.op, le 1 stOk, []⟩]) ∧
  (∀ (s : State) (u : Fin 8), (∀ v ∈ s.flt.recov, v.unit = u.val → v.done = false ∨ u = 6 ∧ s.dsp.rstDue = true) → exec (.recoveryEnd u) s = .next s) ∧
  (∀ s : State, 300 ≤ s.flt.calm → ∃ t, exec .streakClear s = .next t ∧ s.Fields [(R.FLT_LAST_STREAK, 0)] t ∧ s.Frame [.regs] t) ∧
  (∀ s : State, s.flt.calm < 300 → exec .streakClear s = .next s) ∧
  (∀ s : State, s.rd R.FLT_STAT_LEVEL = 1 → 0 < s.rd R.FLT_CFG_LIMP_HOLD → s.rd R.FLT_CFG_LIMP_HOLD ≤ s.flt.limpFor → ∃ u, u = s.wrs [(R.FLT_LAST_STREAK, 2),
      (R.FLT_LAST_LIMP_OWED, 1), (R.FLT_LAST_LIMP_CORE, s.rd R.FLT_STAT_LIMP_CORE)] ∧ exec .limpHoldExpire s = .next (u.hubReset 3)) ∧
  (∀ s : State, s.rd R.FLT_STAT_LEVEL ≠ 1 ∨ s.rd R.FLT_CFG_LIMP_HOLD = 0 ∨ s.flt.limpFor < s.rd R.FLT_CFG_LIMP_HOLD → exec .limpHoldExpire s = .next s) ∧
  (∀ (s : State) (v : BitVec 8), bit v.toNat 1 = true → bit v.toNat 2 = false → s.rd R.FLT_STAT_LEVEL ≠ 1 → s.rd R.PWR_STAT_PFSEQ ≠ 1 → s.dbg.halted = 0 →
    exec (.limpEnter v) s = .next ((s.wr R.FLT_LAST_STREAK 3).hubReset 3)) ∧
  (∀ (s : State) (v : BitVec 8), bit v.toNat 1 = false ∨ bit v.toNat 2 = true ∨ s.rd R.FLT_STAT_LEVEL = 1 ∨ s.rd R.PWR_STAT_PFSEQ = 1 ∨ s.dbg.halted ≠ 0 →
    exec (.limpEnter v) s = .next s) ∧
  (∀ (s : State) (v : BitVec 8), bit v.toNat 2 = true → bit v.toNat 1 = false → s.rd R.FLT_STAT_LEVEL = 1 → s.rd R.PWR_STAT_PFSEQ ≠ 1 → s.dbg.halted = 0 →
    ∃ u, u = s.wrs [(R.FLT_LAST_STREAK, 2), (R.FLT_LAST_LIMP_OWED, 1), (R.FLT_LAST_LIMP_CORE, s.rd R.FLT_STAT_LIMP_CORE)] ∧
    exec (.limpExit v) s = .next (u.hubReset 3)) ∧
  (∀ (s : State) (v : BitVec 8), bit v.toNat 2 = false ∨ bit v.toNat 1 = true ∨ s.rd R.FLT_STAT_LEVEL ≠ 1 ∨ s.rd R.PWR_STAT_PFSEQ = 1 ∨ s.dbg.halted ≠ 0 →
    exec (.limpExit v) s = .next s) ∧
  (∀ s : State, ∃ n, n = (if s.rd R.PWR_CAUSE_CAUSE = 4 ∨ s.rd R.PWR_CAUSE_CAUSE = 5 then min 3 (s.rd R.FLT_LAST_STREAK + 1) else s.rd R.FLT_LAST_STREAK) ∧
    s.Fields [(R.FLT_STAT_LIMP_CORE, if n = 3 ∧ (s.rd R.PWR_CAUSE_CAUSE = 4 ∨ s.rd R.PWR_CAUSE_CAUSE = 5) ∧ s.flt.byFault = true ∧
        s.rd R.FLT_LAST_CORE_VALID = 1 ∧ s.rd R.FLT_LAST_CORE = 0 then 1 else 0),
      (R.FLT_STAT_LEVEL, if n = 3 then 1 else 2), (R.FLT_LAST_STREAK, n)] s.fltBoot ∧ s.Frame [.regs, .flt] s.fltBoot) ∧
  (∀ (s : State) (i : FaultItem), s.flt.queue = [i] → s.flt.inHand = [] → s.flt.recov = [] → i.attrib = 0 ∨ i.record.cls ≠ clDegrade →
    s.fltSvc.flt = { s.flt with queue := [] } ∧ s.Raises 0x78 (le 12 (faultBits i.record)) s.fltSvc ∧
    s.fltSvc.hay = (s.record 1 0x10 (le 12 (faultBits i.record))).hay ∧
    s.Fields ((if i.record.cls = clPlant then [(R.FLT_STAT_PLANT, 1)] else []) ++ [(R.FLT_STAT_HANDLED, min 0xFFFF (s.rd R.FLT_STAT_HANDLED + 1))]) s.fltSvc ∧
    s.Frame [.regs, .spoke, .hay, .flt] s.fltSvc) ∧
  (∀ (s : State) (i : FaultItem), s.flt.queue = [i] → s.flt.inHand = [] → s.flt.recov = [] → i.record.cls = clDegrade → i.attrib = 1 ∨ i.attrib = 2 ∨
      i.attrib = 5 ∨ i.attrib = 6 → bit (s.rd R.FLT_CFG_AUTO) (i.attrib - 1) = true → 0 < s.rd R.FLT_CFG_DEG_MAX → s.rd R.FLT_CFG_DEG_MAX < 16 →
    s.rd R.FLT_CFG_DEG_MAX ≤ (s.attributed i.attrib).length + 1 → (s.autoResets i.attrib).length < 3 →
    s.fltSvc.flt.recov = [⟨i.attrib, s.touchedNow i.attrib, [], true, false⟩] ∧ s.fltSvc.flt.inHand = [⟨i, true⟩] ∧
    mget [] s.fltSvc.flt.attrib i.attrib = [] ∧ mget [] s.fltSvc.flt.autos i.attrib = s.stage :: s.autoResets i.attrib)

/-! ### Debug and test port (18_debug_port.md) -/

/-- Without the TAP's supply no instruction does anything (log entry 29); the reset of the TAP selects IDCODE. An instruction becomes
active and fills the data register; EXTEST, HIGHZ and CLAMP hold the controller domain in hub reset with cause DEBUG, and EXTEST drives
a bridge with both legs high low. A vendor instruction without its scope captures zeros and does nothing else. A challenge holds
SERIAL, a nonce, LIFECYCLE and SCOPE; a response is judged once, unlocks the scope, or counts as invalid, expired after 60 stages, and
after three no challenge is issued. HALT leaves a request that the core meets, which starts DEBUG_HOLD with its Kickstand force and
note; RESUME ends it at the slot edge; both at once set CONFLICT. RELOCK drops deferred halts, resumes, and at the slot edge ends the
scope and loud reads. DBG_MEM reads and writes aligned words of system SRAM, and answers STATUS 3 to what is unaligned or unmapped, to
a write of weight memory, and 2 without scope bit 2. DBG_SPOKE pushes and pops bytes of channel 31. -/
def Obligations.DebugPort : Prop :=
  (∀ (s : State) (i : Instr), i ∈ [Instr.extest 5, .samplePreload 5, .idcode, .highz, .clamp, .bypass, .dbgStatus, .dbgChal 1, .dbgResp 9, .halt 1 false,
    .resume 1, .dbgReset, .relock, .flush, .dbgMemRead 4 true, .dbgMemWrite 4 5 true, .dbgSpokePush 7, .dbgSpokePop] → s.tapOn = false →
    exec i s = .next s) ∧
  (∀ s : State, exec .tapReset s = .next { s with dbg := { s.dbg with ir := 2, tapHold := false } }) ∧
  (∀ s : State, s.tapOn = true → exec .idcode s = .next { s with dbg := { s.dbg with ir := 2, tapHold := false, dr := 0x14864A3D } }) ∧
  (∀ s : State, s.tapOn = true → exec .bypass s = .next { s with dbg := { s.dbg with ir := 0x1F, tapHold := false, dr := 0 } }) ∧
  (∀ (s : State) (i : Instr) (n : Nat), s.tapOn = true → (i, n) = (Instr.highz, 3) ∨ (i, n) = (Instr.clamp, 4) → s.pwr.held = false → ∃ u,
    u = { s with dbg := { s.dbg with ir := n, tapHold := true } }.hubReset 9 ∧ ∃ t, exec i s = .next t ∧ t = { u with dbg := { u.dbg with dr := 0 } } ∧
    t.pwr.held = true ∧ t.dbg.tapHold = true ∧ t.released = false ∧ t.rd R.PWR_CAUSE_CAUSE = 9) ∧
  (∀ (s : State) (n : Nat), s.tapOn = true → s.pwr.held = false → ∃ u, u = { s with dbg := { s.dbg with ir := 0, tapHold := true } }.hubReset 9 ∧
    ∃ d, d = u.draw 480 ∧ ∃ t, exec (.extest n) s = .next t ∧ t = { d.2 with dbg := { u.dbg with bsr := n, dr := n % 2 ^ 32 + 2 ^ 32 * d.1 } } ∧
    t.pwr.held = true ∧ t.released = false ∧ t.rd R.PWR_CAUSE_CAUSE = 9) ∧
  (∀ n b : Nat, b < 16 → bits (legsDriven n) (2 * b) 2 = if bits n (2 * b) 2 = 3 then 0 else bits n (2 * b) 2) ∧
  (∀ (s : State) (n : Nat), s.tapOn = true → ∃ d, d = s.draw 512 ∧ exec (.samplePreload n) s = .next { d.2 with
    dbg := { s.dbg with ir := 1, tapHold := false, bsr := n, dr := d.1 } }) ∧
  (∀ s : State, s.tapOn = true → s.rd R.SEC_STAT_LIFECYCLE < 4 → s.rd R.SEC_STAT_DBG_SCOPE < 8 → s.dbg.halted < 4 → s.dbg.haltPend < 4 → s.sec.tries < 4 →
    s.sec.result < 4 → ∃ t, exec .dbgStatus s = .next t ∧ t.dbg = { s.dbg with ir := 0x10, tapHold := false, dr := t.dbg.dr } ∧
    bits t.dbg.dr 0 2 = s.rd R.SEC_STAT_LIFECYCLE ∧ bits t.dbg.dr 3 3 = (if s.rd R.SEC_STAT_LIFECYCLE = 2 then s.rd R.SEC_STAT_DBG_SCOPE else 7) ∧
    (bit t.dbg.dr 2 = true ↔ s.rd R.SEC_STAT_DBG_UNLOCKED = 1 ∨ s.rd R.SEC_STAT_LIFECYCLE ≠ 2) ∧ bits t.dbg.dr 6 2 = s.dbg.halted ∧
    bits t.dbg.dr 8 2 = s.dbg.haltPend ∧ (bit t.dbg.dr 10 = true ↔ s.dbg.halted ≠ 0) ∧ bit t.dbg.dr 11 = s.chalLive ∧ bits t.dbg.dr 12 2 = s.sec.tries ∧
    bits t.dbg.dr 14 2 = s.sec.result ∧ bit t.dbg.dr 16 = !s.pwr.held ∧ bit t.dbg.dr 17 = s.dbg.conflict ∧ bit t.dbg.dr 18 = s.dbg.loud ∧
    (bit t.dbg.dr 19 = true ↔ s.dbg.tst = true ∧ s.rd R.SEC_STAT_LIFECYCLE = 0) ∧ s.Frame [.dbg] t) ∧
  (∀ (s : State) (k : BitVec 8), s.tapOn = true → s.sec.tries < 3 → s.sec.drbg = true → s.rd R.SEC_STAT_ENT_FAIL ≠ 1 → ∃ n, n = s.random 32 ∧ ∃ b : Bytes,
    b = le 8 (s.rd R.SEC_DEV_SERIAL) ++ n.1 ++ le 1 (s.rd R.SEC_STAT_LIFECYCLE) ++ [k] ++ [0, 0, 0, 0, 0, 0] ∧ b.length = 48 ∧
    exec (.dbgChal k) s = .next { n.2 with
      sec := { s.sec with chal := some ⟨b, k.toNat, s.stage⟩ }, dbg := { s.dbg with ir := 0x11, tapHold := false, dr := ofLe b } }) ∧
  (∀ (s : State) (k : BitVec 8), s.tapOn = true → 3 ≤ s.sec.tries ∨ s.sec.drbg = false → exec (.dbgChal k) s =
    .next { s with dbg := { s.dbg with ir := 0x11, tapHold := false, dr := 0 } }) ∧
  (∀ (s : State) (v : BitVec 512), s.tapOn = true → exec (.dbgResp v) s = .next { s with
    sec := { s.sec with resp := some (le 64 v.toNat) }, dbg := { s.dbg with ir := 0x12, tapHold := false, dr := 0 } }) ∧
  (∀ s : State, s.sec.resp = none → exec .debugResponseJudged s = .next s) ∧
  (∀ (s : State) (p : Bytes) (c : Challenge), s.sec.resp = some p → s.sec.chal = some c → ∃ t, exec .debugResponseJudged s = .next t ∧ t.sec.resp = none ∧
    ∃ g : Bool, g = (decide (s.stage - c.stage ≤ 60) && (s.keySlot 1).kind != 0 &&
      Config.ecdsaVerify (s.keySlot 1).key (Config.sha256 c.bytes) p) ∧
    (g = false → t.sec = { s.sec with
        resp := none, tries := min 3 (s.sec.tries + 1), result := if 60 < s.stage - c.stage then 3 else 2
        chal := if 2 ≤ s.sec.tries then none else some c } ∧
      t.hay = (s.record 2 0x15 (le 1 c.scope ++ [1])).hay ∧ s.Frame [.hay, .sec] t) ∧
    (g = true → t.sec = { s.sec with resp := none, result := 1, chal := none } ∧ t.rd R.SEC_STAT_DBG_UNLOCKED = 1 ∧
      t.rd R.SEC_STAT_DBG_SCOPE = c.scope % 8 ∧ t.hay = (s.record 2 0x15 (le 1 c.scope ++ [0])).hay ∧ t.rd R.SEC_STAT_CERT ≠ 1)) ∧
  (∀ (s : State) (p : Bytes), s.sec.resp = some p → s.sec.chal = none → ∃ t, exec .debugResponseJudged s = .next t ∧ t.sec = { s.sec with
    resp := none, tries := min 3 (s.sec.tries + 1), result := 2 } ∧ s.Frame [.hay, .sec] t) ∧
  (∀ (s : State) (i : Instr) (n : Nat), s.tapOn = true → s.rd R.SEC_STAT_LIFECYCLE = 2 → bit (s.rd R.SEC_STAT_DBG_SCOPE) 0 = false →
    (i, n) ∈ [(Instr.halt 0 false, 0x13), (.halt 1 false, 0x13), (.halt 1 true, 0x13), (.resume 0, 0x13), (.resume 1, 0x13), (.dbgReset, 0x13),
      (.relock, 0x13), (.flush, 0x13), (.dbgMemRead 4 true, 0x14), (.dbgMemWrite 4 5 true, 0x14)] → exec i s =
    .next { s with dbg := { s.dbg with ir := n, tapHold := false, dr := 0 } }) ∧
  (∀ (s : State) (i : Instr), s.tapOn = true → s.rd R.SEC_STAT_LIFECYCLE = 2 → bit (s.rd R.SEC_STAT_DBG_SCOPE) 1 = false →
    i ∈ [Instr.dbgSpokePush 7, .dbgSpokePop] → exec i s = .next { s with dbg := { s.dbg with ir := 0x15, tapHold := false, dr := 0 } }) ∧
  (∀ (s : State) (k : Fin 2) (both : Bool), s.tapOn = true → s.scope 0 = true → ∃ t, exec (.halt k both) s = .next t ∧ t.dbg = { s.dbg with
    ir := 0x13, tapHold := false, dr := 0, conflict := both
    haltPend := if both = true ∨ s.dbg.noHalt = true ∨ bit s.dbg.halted k = true then s.dbg.haltPend else setBit s.dbg.haltPend k true } ∧
    s.Frame [.dbg] t) ∧
  (∀ (s : State) (k : Fin 2), s.pwr.held = true ∨ bit s.dbg.haltPend k = false → exec (.coreHalt k) s = .next s) ∧
  (∀ (s : State) (k : Fin 2), s.pwr.held = false → bit s.dbg.haltPend k = true → s.dbg.halted = 0 → ∃ t, exec (.coreHalt k) s = .next t ∧
    t.dbg = { s.dbg with halted := 2 ^ k.val, haltPend := setBit s.dbg.haltPend k false } ∧ 2 ∈ t.pwr.force ∧
    (s.pwr.pad = true → s.pad.state = 0 → t.pad.state = 1) ∧ s.Raises 0x70 [1, BitVec.ofNat 8 (2 ^ k.val), 0, 0] t ∧
    (∀ r ∈ s.run k, r.done = false → ∀ x ∈ t.run k, x.held = true)) ∧
  (∀ (s : State) (k : Fin 2), s.pwr.held = false → bit s.dbg.haltPend k = true → s.dbg.halted ≠ 0 → ∃ t, exec (.coreHalt k) s = .next t ∧
    t.dbg = { s.dbg with halted := setBit s.dbg.halted k true, haltPend := setBit s.dbg.haltPend k false } ∧ s.Frame [.cad, .dbg] t) ∧
  (∀ (s : State) (k : Fin 2), s.tapOn = true → s.scope 0 = true → ∃ t, exec (.resume k) s = .next t ∧ t.dbg = { s.dbg with
    ir := 0x13, tapHold := false, dr := 0, conflict := false
    resume := if bit s.dbg.halted k = true then setBit s.dbg.resume k true else s.dbg.resume } ∧ s.Frame [.dbg] t) ∧
  (∀ (s : State) (k : Fin 2), bit s.dbg.resume k = false → exec (.coreResume k) s = .next s) ∧
  (∀ (s : State) (k : Fin 2), bit s.dbg.resume k = true → s.dbg.halted = 2 ^ k.val → ∃ t, exec (.coreResume k) s = .next t ∧
    t.dbg = { s.dbg with halted := 0, resume := setBit s.dbg.resume k false } ∧ 2 ∉ t.pwr.force ∧ t.run k = none ∧ s.Raises 0x70 [2, 0, 0, 0] t) ∧
  (∀ (s : State) (k : Fin 2), bit s.dbg.resume k = true → setBit s.dbg.halted k false ≠ 0 → ∃ t, exec (.coreResume k) s = .next t ∧
    t.dbg = { s.dbg with halted := setBit s.dbg.halted k false, resume := setBit s.dbg.resume k false } ∧ t.run k = none ∧ s.Frame [.cad, .dbg] t) ∧
  (∀ s : State, s.tapOn = true → s.scope 0 = true → ∃ u, u = { s with dbg := { s.dbg with ir := 0x13, tapHold := false, conflict := false } }.hubReset 9 ∧
    exec .dbgReset s = .next { u with dbg := { u.dbg with dr := 0 } }) ∧
  (∀ s : State, s.tapOn = true → s.scope 0 = true → exec .relock s = .next { s with
    dbg := { s.dbg with ir := 0x13, tapHold := false, dr := 0, conflict := false, haltPend := 0, resume := s.dbg.halted, relock := true } }) ∧
  (∀ s : State, s.dbg.relock = true → s.relocks.dbg = { s.dbg with relock := false, loud := false } ∧ s.relocks.rd R.SEC_STAT_DBG_UNLOCKED = 0 ∧
    s.relocks.rd R.SEC_STAT_DBG_SCOPE = 0 ∧ s.relocks.hay = (s.record 2 0x15 (le 1 (s.rd R.SEC_STAT_DBG_SCOPE) ++ [2])).hay) ∧
  (∀ s : State, s.tapOn = true → s.scope 0 = true → exec .flush s = .next ({ s with
    dbg := { s.dbg with ir := 0x13, tapHold := false, conflict := false } }.rxDiscard 3 |> fun u => { u with dbg := { u.dbg with dr := 0 } })) ∧
  (∀ (s : State) (a : BitVec 32) (inc : Bool), s.tapOn = true → s.scope 0 = true → s.pwr.held = false → a.toNat % 4 = 0 → a.toNat < 0xC0000 →
    ∃ d : Nat, d = ofLe (cellsGet 0 s.dbg.sram a.toNat 4) ∧ ∃ n : Nat, n = (if inc = true then a.toNat + 4 else a.toNat) ∧
    exec (.dbgMemRead a inc) s = .next { s with
      dbg := { s.dbg with ir := 0x14, tapHold := false, addr := n, data := d, status := 0, dr := n + 2 ^ 32 * d + 2 ^ 65 * b2n inc } }) ∧
  (∀ (s : State) (a v : BitVec 32) (inc : Bool), s.tapOn = true → s.scope 0 = true → s.pwr.held = false → a.toNat % 4 ≠ 0 ∨ 0xC0000 ≤ a.toNat ∧
    stallPlace a.toNat = none → (∃ t, exec (.dbgMemRead a inc) s = .next t ∧ t.dbg.status = 3 ∧ t.dbg.addr = a.toNat ∧ s.Frame [.free, .dbg] t ∧
    t.dbg.sram = s.dbg.sram) ∧ ∃ u, exec (.dbgMemWrite a v inc) s = .next u ∧ u.dbg.status = 3 ∧ u.dbg.sram = s.dbg.sram ∧ s.Frame [.dbg] u) ∧
  (∀ (s : State) (a v : BitVec 32) (inc : Bool), s.tapOn = true → s.scope 0 = true → s.pwr.held = false → a.toNat % 4 = 0 → a.toNat < 0xC0000 →
    ∃ t, exec (.dbgMemWrite a v inc) s = .next t ∧ cellsGet 0 t.dbg.sram a.toNat 4 = le 4 v.toNat ∧
    (∀ x, x < a.toNat ∨ a.toNat + 4 ≤ x → cellGet 0 t.dbg.sram x = cellGet 0 s.dbg.sram x) ∧ t.dbg.status = 0 ∧
    t.dbg.addr = (if inc = true then a.toNat + 4 else a.toNat) ∧ s.Frame [.stb, .dbg] t) ∧
  (∀ (s : State) (a v : BitVec 32) (inc : Bool) (q x : Nat) (m : StallMem) (b : Nat), s.tapOn = true → s.scope 0 = true → s.scope 2 = true → s.pwr.held = false →
    a.toNat % 4 = 0 → stallPlace a.toNat = some (q, x) → narrowPlace x = some (m, b) → m ≠ .weight → s.rd R.STB_SP_STAT_AUDIT ≠ 1 →
    ∃ t, exec (.dbgMemWrite a v inc) s = .next t ∧ (t.stall q).bytesAt q m b 4 = le 4 v.toNat ∧ t.dbg.status = 0 ∧ t.dbg.sram = s.dbg.sram ∧
    s.Frame [.stb, .dbg] t) ∧
  (∀ (s : State) (a v : BitVec 32) (inc : Bool), s.tapOn = true → s.scope 0 = true → s.scope 2 = true → s.pwr.held = false → a.toNat % 4 = 0 →
    0x10000000 ≤ a.toNat → a.toNat < 0x10400000 → a.toNat % 0x100000 < 0x28000 → ∃ t, exec (.dbgMemWrite a v inc) s = .next t ∧ t.dbg.status = 3 ∧
    s.Frame [.dbg] t) ∧
  (∀ (s : State) (a v : BitVec 32) (inc : Bool), s.tapOn = true → s.scope 0 = true → s.scope 2 = false → s.pwr.held = false → a.toNat % 4 = 0 →
    stallPlace a.toNat ≠ none → (∃ t, exec (.dbgMemRead a inc) s = .next t ∧ t.dbg.status = 2 ∧ t.dbg.sram = s.dbg.sram ∧ s.Frame [.free, .dbg] t) ∧
    ∃ u, exec (.dbgMemWrite a v inc) s = .next u ∧ u.dbg.status = 2 ∧ s.Frame [.dbg] u) ∧
  (∀ (s : State) (b : Byte), s.tapOn = true → s.scope 1 = true → s.dbgRxFull = false → ∃ t, exec (.dbgSpokePush b) s = .next t ∧
    t.dbg = { s.dbg with ir := 0x15, tapHold := false } ∧ t.spoke = (s.rxBytes 3 [b]).spoke ∧ s.Frame [.spoke, .dbg] t) ∧
  (∀ (s : State) (b : Byte), s.tapOn = true → s.scope 1 = true → s.dbgRxFull = true → ∃ t, exec (.dbgSpokePush b) s = .next t ∧
    t.spoke = (s.rxDiscard 3).spoke ∧ s.Frame [.spoke, .dbg] t) ∧
  (∀ (s : State) (b : Byte) (l : Bytes), s.tapOn = true → s.scope 1 = true → s.stream 3 = b :: l → ∃ t, exec .dbgSpokePop s = .next t ∧
    t.stream 3 = l ∧ t.dbg = { s.dbg with ir := 0x15, tapHold := false, dr := b.toNat + 256 + 512 * b2n s.dbgRxFull } ∧ s.Frame [.spoke, .dbg] t) ∧
  (∀ s : State, s.tapOn = true → s.scope 1 = true → s.stream 3 = [] → exec .dbgSpokePop s = .next { s with
    dbg := { s.dbg with ir := 0x15, tapHold := false, dr := 512 * b2n s.dbgRxFull } }) ∧
  (∀ (s : State) (c : Cmd) (m : Nat), s.Ready c → c.payload = le 1 m → m ≤ 1 → c.ch.val = 31 → ∃ t, exec (.dbgReadMode c) s = .next t ∧
    s.Answers c 0x70 stOk [] t ∧ t.dbg = { s.dbg with loud := m == 1 } ∧ s.Frame [.spoke, .dbg] t) ∧
  (∀ (s : State) (c : Cmd), s.Ready c → (c.payload.length ≠ 1 → s.Refuses (.dbgReadMode c) c 0x70 stBadLength) ∧
    (c.payload.length = 1 → 1 < u8 c.payload 0 → s.Refuses (.dbgReadMode c) c 0x70 stBadParam) ∧
    (c.payload.length = 1 → u8 c.payload 0 ≤ 1 → c.ch.val ≠ 31 → s.Refuses (.dbgReadMode c) c 0x70 stNotPermitted))
end

