-- ==== Sys2Proof/Laws/Maps.lean ====
section
/-!
SUPPORT. Sys2Proof/Laws/Maps.lean: sparse maps and byte memories: what a read after a write gives, and that every operation keeps
the canonical form and whatever holds of every value.
-/

namespace Sys2Proof.Machine

variable {β : Type}

/-! ### Read after write -/

theorem mget?_mins (m : Map β) (k j : Nat) (v : β) : mget? (mins m k v) j = if k = j then some v else mget? m j := by
  induction m with
  | nil => simp [mins, mget?]
  | cons e rest ih =>
    obtain ⟨i, w⟩ := e
    unfold mins
    split
    · simp only [mget?, beq_iff_eq]
    · split
      · rename_i h1 h2
        have hk : k = i := by simpa using h2
        subst hk
        by_cases hj : k = j <;> simp [mget?, hj]
      · rename_i h1 h2
        have hk : k ≠ i := by simpa using h2
        simp only [mget?, beq_iff_eq, ih]
        by_cases hi : i = j
        · subst hi; simp [hk]
        · simp [hi]

theorem mget?_mdel (m : Map β) (k j : Nat) : mget? (mdel m k) j = if k = j then none else mget? m j := by
  induction m with
  | nil => simp [mdel, mget?]
  | cons e rest ih =>
    obtain ⟨i, w⟩ := e
    have e1 : mdel ((i, w) :: rest) k = if i = k then mdel rest k else (i, w) :: mdel rest k := by
      by_cases h : i = k <;> simp [mdel, h]
    rw [e1]
    by_cases h : i = k
    · subst h
      by_cases hj : i = j
      · subst hj; simp [ih]
      · simp [ih, mget?, hj]
    · rw [if_neg h]
      simp only [mget?, beq_iff_eq, ih]
      by_cases hi : i = j
      · subst hi; simp [Ne.symm h]
      · simp [hi]

/-- A read after a write: the value written at its index, every other index as before. -/
theorem mget_mput [DecidableEq β] (d : β) (m : Map β) (k j : Nat) (v : β) :
    mget d (mput d m k v) j = if k = j then v else mget d m j := by
  unfold mput mget
  split
  · rename_i h
    rw [mget?_mdel]
    by_cases hj : k = j <;> simp [hj, h]
  · rw [mget?_mins]
    by_cases hj : k = j <;> simp [hj]

/-! ### Canonical form -/

theorem mins_bound {m : Map β} {i k : Nat} {v : β} (h : (m.all fun e => decide (i < e.1)) = true) (hk : i < k) :
    ((mins m k v).all fun e => decide (i < e.1)) = true := by
  induction m with
  | nil => simpa [mins] using hk
  | cons e rest ih =>
    obtain ⟨a, b⟩ := e
    simp only [List.all_cons, Bool.and_eq_true, decide_eq_true_eq] at h
    unfold mins
    split
    · simp only [List.all_cons, Bool.and_eq_true, decide_eq_true_eq]; exact ⟨hk, h.1, h.2⟩
    · split
      · simp only [List.all_cons, Bool.and_eq_true, decide_eq_true_eq]; exact ⟨hk, h.2⟩
      · simp only [List.all_cons, Bool.and_eq_true, decide_eq_true_eq]; exact ⟨h.1, ih h.2⟩

theorem all_filter {m : Map β} {p q : Nat × β → Bool} (h : m.all p = true) : (m.filter q).all p = true := by
  simp only [List.all_eq_true] at *
  exact fun e he => h e (List.mem_filter.mp he).1

theorem mwf_filter [DecidableEq β] {d : β} {m : Map β} (p : Nat × β → Bool) (h : mwf d m = true) : mwf d (m.filter p) = true := by
  induction m with
  | nil => rfl
  | cons e rest ih =>
    obtain ⟨i, v⟩ := e
    simp only [mwf, Bool.and_eq_true] at h
    by_cases hp : p (i, v) = true
    · rw [List.filter_cons_of_pos hp]
      simp only [mwf, Bool.and_eq_true]
      exact ⟨⟨h.1.1, all_filter h.1.2⟩, ih h.2⟩
    · rw [List.filter_cons_of_neg hp]
      exact ih h.2

theorem mwf_mins [DecidableEq β] {d : β} {m : Map β} {k : Nat} {v : β} (hv : v ≠ d) (h : mwf d m = true) :
    mwf d (mins m k v) = true := by
  induction m with
  | nil => simp [mins, mwf, hv]
  | cons e rest ih =>
    obtain ⟨i, w⟩ := e
    simp only [mwf, Bool.and_eq_true, decide_eq_true_eq] at h
    unfold mins
    split
    · rename_i hk
      have hr : (rest.all fun e => decide (k < e.1)) = true := by
        simp only [List.all_eq_true, decide_eq_true_eq] at *
        exact fun e he => lt_trans hk (h.1.2 e he)
      simp [mwf, hv, hk, h.1.1, h.1.2, h.2, hr]
    · split
      · rename_i h2
        have hk : k = i := by simpa using h2
        subst hk
        simp [mwf, hv, h.1.2, h.2]
      · rename_i h1 h2
        have hk : i < k := by
          have : k ≠ i := by simpa using h2
          omega
        simp [mwf, h.1.1, mins_bound h.1.2 hk, ih h.2]

/-- A write keeps the canonical form of a map. -/
theorem mwf_mput [DecidableEq β] {d : β} {m : Map β} (k : Nat) (v : β) (h : mwf d m = true) : mwf d (mput d m k v) = true := by
  unfold mput mdel
  split
  · exact mwf_filter _ h
  · rename_i hv
    exact mwf_mins hv h

/-- Writing bytes keeps the canonical form of a memory. -/
theorem mwf_cellsPut {d : Byte} (b : Bytes) : ∀ {m : List Host.Cell} (a : Nat), mwf d m = true → mwf d (cellsPut d m a b) = true := by
  induction b with
  | nil => exact fun _ h => h
  | cons x rest ih => exact fun a h => ih (a + 1) (mwf_mput a x h)

/-- Writing bytes leaves every byte outside them as it was, and each byte of them as written. -/
theorem cellGet_cellsPut (d : Byte) (b : Bytes) : ∀ (m : List Host.Cell) (a j : Nat),
    cellGet d (cellsPut d m a b) j = if a ≤ j ∧ j < a + b.length then b.getD (j - a) 0 else cellGet d m j := by
  induction b with
  | nil => intro m a j; simp only [cellsPut, List.length_nil]; rw [if_neg (by omega)]
  | cons x rest ih =>
    intro m a j
    simp only [cellsPut, ih, List.length_cons]
    by_cases h1 : a + 1 ≤ j ∧ j < a + 1 + rest.length
    · rw [if_pos h1, if_pos (by omega)]
      obtain ⟨n, rfl⟩ : ∃ n, j = a + 1 + n := ⟨j - (a + 1), by omega⟩
      have : a + 1 + n - a = n + 1 := by omega
      have h2 : a + 1 + n - (a + 1) = n := by omega
      rw [this, h2]; rfl
    · rw [if_neg h1]
      unfold cellGet
      rw [mget_mput]
      by_cases h2 : a = j
      · subst h2; simp
      · rw [if_neg h2, if_neg (by omega)]

/-! ### The register file -/

theorem regsWf_filter {m : Map Nat} (p : Nat × Nat → Bool) (h : regsWf m = true) : regsWf (m.filter p) = true := by
  induction m with
  | nil => rfl
  | cons e rest ih =>
    obtain ⟨i, v⟩ := e
    simp only [regsWf, Bool.and_eq_true] at h
    by_cases hp : p (i, v) = true
    · rw [List.filter_cons_of_pos hp]
      simp only [regsWf, Bool.and_eq_true]
      exact ⟨⟨h.1.1, all_filter h.1.2⟩, ih h.2⟩
    · rw [List.filter_cons_of_neg hp]
      exact ih h.2

theorem regsWf_mins {m : Map Nat} {k v : Nat} (hv : v ≠ resetOf k) (h : regsWf m = true) : regsWf (mins m k v) = true := by
  induction m with
  | nil => simp [mins, regsWf, hv]
  | cons e rest ih =>
    obtain ⟨i, w⟩ := e
    simp only [regsWf, Bool.and_eq_true, decide_eq_true_eq] at h
    unfold mins
    split
    · rename_i hk
      have hr : (rest.all fun e => decide (k < e.1)) = true := by
        simp only [List.all_eq_true, decide_eq_true_eq] at *
        exact fun e he => lt_trans hk (h.1.2 e he)
      simp [regsWf, hv, hk, h.1.1, h.1.2, h.2, hr]
    · split
      · rename_i h2
        have hk : k = i := by simpa using h2
        subst hk
        simp [regsWf, hv, h.1.2, h.2]
      · rename_i h1 h2
        have hk : i < k := by
          have : k ≠ i := by simpa using h2
          omega
        simp [regsWf, h.1.1, mins_bound h.1.2 hk, ih h.2]

/-- A write keeps the canonical form of the register file. -/
theorem regsWf_mput {m : Map Nat} (k v : Nat) (h : regsWf m = true) : regsWf (mput (resetOf k) m k v) = true := by
  unfold mput mdel
  split
  · exact regsWf_filter _ h
  · rename_i hv
    exact regsWf_mins hv h

/-- A field read after a write of a field. -/
theorem rd_wr (s : State) (k j v : Nat) : (s.wr k v).rd j = if k = j then v else s.rd j := by
  unfold State.rd State.wr mput
  dsimp only
  split
  · rename_i h
    rw [mget?_mdel]
    by_cases hj : k = j
    · subst hj; simp [h]
    · simp [hj]
  · rw [mget?_mins]
    by_cases hj : k = j <;> simp [hj]

/-- A filter on the indexes. -/
theorem mget?_filter (p : Nat → Bool) (k : Nat) : ∀ m : Map β, mget? (m.filter fun e => p e.1) k = if p k then mget? m k else none
  | [] => by simp [mget?]
  | (i, v) :: m => by
    rw [List.filter_cons]
    by_cases h : p i = true
    · simp only [h, if_true, mget?]
      by_cases e : i = k
      · subst e; simp [h]
      · simp [e, mget?_filter p k m]
    · simp only [h, mget?]
      by_cases e : i = k
      · subst e; simp [mget?_filter p i m, h]
      · simp [e, mget?_filter p k m]

/-- A field read after an attribute has returned to its Reset values. -/
theorem rd_clearAttr (s : State) (id k : Nat) : (s.clearAttr id).rd k = if k / 1024 = id then resetOf k else s.rd k := by
  unfold State.rd State.clearAttr
  dsimp only
  rw [mget?_filter (fun x => x / 1024 != id)]
  by_cases h : k / 1024 = id <;> simp [h]

/-! ### What holds of every value -/

theorem all_mins {P : β → Prop} {m : Map β} {k : Nat} {v : β} (h : ∀ e ∈ m, P e.2) (hv : P v) : ∀ e ∈ mins m k v, P e.2 := by
  induction m with
  | nil => intro e he; simp only [mins, List.mem_singleton] at he; subst he; exact hv
  | cons x rest ih =>
    obtain ⟨i, w⟩ := x
    have hr : ∀ e ∈ rest, P e.2 := fun e he => h e (List.mem_cons_of_mem _ he)
    have hw : P w := h (i, w) List.mem_cons_self
    unfold mins
    split
    · intro e he
      rcases List.mem_cons.mp he with rfl | he
      · exact hv
      · exact h e he
    · split
      · intro e he
        rcases List.mem_cons.mp he with rfl | he
        · exact hv
        · exact hr e he
      · intro e he
        rcases List.mem_cons.mp he with rfl | he
        · exact hw
        · exact ih hr e he

theorem all_mput [DecidableEq β] {P : β → Prop} {d : β} {m : Map β} {k : Nat} {v : β} (h : ∀ e ∈ m, P e.2) (hv : P v) :
    ∀ e ∈ mput d m k v, P e.2 := by
  unfold mput mdel
  split
  · exact fun e he => h e (List.mem_filter.mp he).1
  · exact all_mins h hv

theorem of_mget? {P : β → Prop} {m : Map β} {k : Nat} {v : β} (h : ∀ e ∈ m, P e.2) (hv : mget? m k = some v) : P v := by
  induction m with
  | nil => simp [mget?] at hv
  | cons x rest ih =>
    obtain ⟨i, w⟩ := x
    simp only [mget?] at hv
    split at hv
    · exact Option.some.inj hv ▸ h (i, w) List.mem_cons_self
    · exact ih (fun e he => h e (List.mem_cons_of_mem _ he)) hv

theorem of_mget {P : β → Prop} {d : β} {m : Map β} {k : Nat} (h : ∀ e ∈ m, P e.2) (hd : P d) : P (mget d m k) := by
  unfold mget
  cases hv : mget? m k with
  | none => exact hd
  | some v => exact of_mget? h hv

theorem all_mmod [DecidableEq β] {P : β → Prop} {d : β} {m : Map β} {k : Nat} {f : β → β} (h : ∀ e ∈ m, P e.2) (hd : P d)
    (hf : ∀ x, P x → P (f x)) : ∀ e ∈ mmod d m k f, P e.2 := all_mput h (hf _ (of_mget h hd))

end Sys2Proof.Machine
end

