-- ==== Sys2Proof/Laws/Good.lean ====
section
/-!
SUPPORT. Sys2Proof/Laws/Good.lean: what every operation of the hub keeps: the queue of waiting commands, the count of slot
edges, and the invariant of Safety.lean. The other files of this group say it of one operation after another.
-/

namespace Sys2Proof.Machine

/-- A state with the queue q and the count of slot edges n, which keeps the invariant. -/
structure State.Good (q : List Instr) (n : Nat) (s : State) : Prop where
  pending : s.pending = q
  now : s.cad.now = n
  inv : s.Inv

/-- The out queue of a channel within its parts. -/
abbrev Channel.Good (c : Channel) : Prop := c.fits

/-- The event queue of a zone within its 32 entries. -/
def Zone.Good (z : Zone) : Prop := z.entries.length ≤ 32

/-- A log queue within its 64 entries. -/
def LogStream.Good (l : LogStream) : Prop := l.queue.length ≤ 64

variable {q : List Instr} {n : Nat} {s t : State}

theorem State.Good.of_inv (h : s.Inv) : State.Good s.pending s.cad.now s := ⟨rfl, rfl, h⟩

/-- The invariant reads eleven parts of a state. -/
theorem State.Good.of_eq (h : State.Good q n s) (e1 : t.pending = s.pending) (e2 : t.cad.now = s.cad.now) (e3 : t.regs = s.regs)
    (e4 : t.spoke.chans = s.spoke.chans) (e5 : t.flt.queue = s.flt.queue) (e6 : t.cad.ovr = s.cad.ovr)
    (e7 : t.hay.logs = s.hay.logs) (e8 : t.zones = s.zones) (e9 : t.hay.mem = s.hay.mem) (e10 : t.sec.flash = s.sec.flash)
    (e11 : t.dbg.sram = s.dbg.sram) : State.Good q n t :=
  ⟨e1.trans h.pending, e2.trans h.now, e3 ▸ h.inv.regs, e4 ▸ h.inv.chans, e5 ▸ h.inv.faults, e6 ▸ h.inv.overruns,
    e7 ▸ h.inv.logs, e8 ▸ h.inv.zones, e9 ▸ h.inv.hayloft, e10 ▸ h.inv.flash, e11 ▸ h.inv.sram⟩

theorem Channel.Good.of_eq {c d : Channel} (h : c.Good) (e : d.outq = c.outq) (w : d.waits = c.waits) : d.Good := by
  unfold Channel.Good Channel.fits outCount at *
  rw [e, w]; exact h

/-- An unused channel. -/
theorem Channel.good_empty : Channel.Good {} := ⟨by decide, by decide, by decide, fun _ h => absurd h (List.not_mem_nil)⟩

theorem Zone.Good.of_eq {c d : Zone} (h : c.Good) (e : d.entries = c.entries) : d.Good := by
  unfold Zone.Good at *
  rw [e]; exact h

theorem LogStream.Good.of_eq {c d : LogStream} (h : c.Good) (e : d.queue = c.queue) : d.Good := by
  unfold LogStream.Good at *
  rw [e]; exact h

/-- What an outcome must keep. -/
def State.GoodOut (q : List Instr) (n : Nat) (o : Host.Outcome State Fault Refusal) : Prop := ∃ t, o = .next t ∧ State.Good q n t

theorem good_next (h : State.Good q n s) : State.GoodOut q n (.next s) := ⟨s, rfl, h⟩

theorem good_ite {c : Prop} {_ : Decidable c} {a b : State} (h : State.Good q n a) (g : State.Good q n b) :
    State.Good q n (if c then a else b) := by split <;> assumption

theorem good_ite' {c : Prop} {_ : Decidable c} {a b : State} (h : c → State.Good q n a) (g : ¬c → State.Good q n b) :
    State.Good q n (if c then a else b) := by
  split
  · exact h ‹_›
  · exact g ‹_›

theorem good_dite {c : Prop} {_ : Decidable c} {a : c → State} {b : ¬c → State} (h : ∀ x, State.Good q n (a x))
    (g : ∀ x, State.Good q n (b x)) : State.Good q n (dite c a b) := by
  by_cases x : c
  · rw [dif_pos x]; exact h x
  · rw [dif_neg x]; exact g x

theorem good_out_ite {c : Prop} {_ : Decidable c} {a b : Host.Outcome State Fault Refusal} (h : State.GoodOut q n a)
    (g : State.GoodOut q n b) : State.GoodOut q n (if c then a else b) := by split <;> assumption

theorem good_fst_ite {β : Type} {c : Prop} {_ : Decidable c} {a b : State × β} (h : State.Good q n a.1) (g : State.Good q n b.1) :
    State.Good q n (if c then a else b).1 := by split <;> assumption

theorem good_snd_ite {β : Type} {c : Prop} {_ : Decidable c} {a b : β × State} (h : State.Good q n a.2) (g : State.Good q n b.2) :
    State.Good q n (if c then a else b).2 := by split <;> assumption

theorem good_chan_ite {c : Prop} {_ : Decidable c} {a b : Channel} (h : a.Good) (g : b.Good) : (if c then a else b).Good := by
  split <;> assumption

theorem good_zone_ite {c : Prop} {_ : Decidable c} {a b : Zone} (h : a.Good) (g : b.Good) : (if c then a else b).Good := by
  split <;> assumption

theorem good_log_ite {c : Prop} {_ : Decidable c} {a b : LogStream} (h : a.Good) (g : b.Good) : (if c then a else b).Good := by
  split <;> assumption

theorem good_mk_fst {β : Type} {b : β} (h : State.Good q n s) : State.Good q n (s, b).1 := h

theorem good_mk_snd {β : Type} {b : β} (h : State.Good q n s) : State.Good q n (b, s).2 := h

theorem good_mk_snd_fst {β γ : Type} {b : β} {p : State × γ} (h : State.Good q n p.1) : State.Good q n (b, p).2.1 := h

theorem good_chan_mk_snd {β : Type} {b : β} {c : Channel} (h : c.Good) : (b, c).2.Good := h

theorem good_foldl {α : Type} {l : List α} {f : State → α → State} (h : State.Good q n s)
    (hf : ∀ t a, State.Good q n t → State.Good q n (f t a)) : State.Good q n (l.foldl f s) := by
  induction l generalizing s with
  | nil => exact h
  | cons x rest ih => exact ih (hf s x h)

theorem good_foldl_fst {α β : Type} {l : List α} {f : State × β → α → State × β} {p : State × β} (h : State.Good q n p.1)
    (hf : ∀ t a, State.Good q n t.1 → State.Good q n (f t a).1) : State.Good q n (l.foldl f p).1 := by
  induction l generalizing p with
  | nil => exact h
  | cons x rest ih => exact ih (hf p x h)

theorem good_foldl_snd {α β : Type} {l : List α} {f : β × State → α → β × State} {p : β × State} (h : State.Good q n p.2)
    (hf : ∀ t a, State.Good q n t.2 → State.Good q n (f t a).2) : State.Good q n (l.foldl f p).2 := by
  induction l generalizing p with
  | nil => exact h
  | cons x rest ih => exact ih (hf p x h)

theorem good_foldl_thd {α β γ : Type} {l : List α} {f : β × γ × State → α → β × γ × State} {p : β × γ × State}
    (h : State.Good q n p.2.2) (hf : ∀ t a, State.Good q n t.2.2 → State.Good q n (f t a).2.2) : State.Good q n (l.foldl f p).2.2 := by
  induction l generalizing p with
  | nil => exact h
  | cons x rest ih => exact ih (hf p x h)

theorem times_good {k : Nat} {f : State → State} (hf : ∀ t, State.Good q n t → State.Good q n (f t)) (h : State.Good q n s) :
    State.Good q n (times k f s) := by
  induction k generalizing s with
  | zero => exact h
  | succ k ih => exact ih (hf s h)

theorem State.each_good {α : Type} {l : List α} {f : State → α → State} (h : State.Good q n s)
    (hf : ∀ t a, State.Good q n t → State.Good q n (f t a)) : State.Good q n (s.each l f) := good_foldl h hf

theorem State.when_good {c : Bool} {f : State → State} (h : State.Good q n s)
    (hf : ∀ t, State.Good q n t → State.Good q n (f t)) : State.Good q n (s.when c f) := good_ite (hf s h) h

/-! ### Parts of the state -/

theorem State.Good.withRegs (h : State.Good q n s) {m : Map Nat} (hm : regsWf m = true) : State.Good q n { s with regs := m } :=
  ⟨h.pending, h.now, hm, h.inv.chans, h.inv.faults, h.inv.overruns, h.inv.logs, h.inv.zones, h.inv.hayloft, h.inv.flash, h.inv.sram⟩

theorem State.Good.withChans (h : State.Good q n s) {m : Map Channel} (hm : ∀ e ∈ m, e.2.fits) :
    State.Good q n { s with spoke.chans := m } :=
  ⟨h.pending, h.now, h.inv.regs, hm, h.inv.faults, h.inv.overruns, h.inv.logs, h.inv.zones, h.inv.hayloft, h.inv.flash, h.inv.sram⟩

theorem State.Good.withFaults (h : State.Good q n s) {m : List FaultItem} (hm : m.length ≤ 16) :
    State.Good q n { s with flt.queue := m } :=
  ⟨h.pending, h.now, h.inv.regs, h.inv.chans, hm, h.inv.overruns, h.inv.logs, h.inv.zones, h.inv.hayloft, h.inv.flash, h.inv.sram⟩

theorem State.Good.withOvr (h : State.Good q n s) {m : List OvrRec} (hm : m.length ≤ 8) :
    State.Good q n { s with cad.ovr := m } :=
  ⟨h.pending, h.now, h.inv.regs, h.inv.chans, h.inv.faults, hm, h.inv.logs, h.inv.zones, h.inv.hayloft, h.inv.flash, h.inv.sram⟩

theorem State.Good.withLogs (h : State.Good q n s) {m : Map LogStream} (hm : ∀ e ∈ m, e.2.queue.length ≤ 64) :
    State.Good q n { s with hay.logs := m } :=
  ⟨h.pending, h.now, h.inv.regs, h.inv.chans, h.inv.faults, h.inv.overruns, hm, h.inv.zones, h.inv.hayloft, h.inv.flash, h.inv.sram⟩

theorem State.Good.withZones (h : State.Good q n s) {m : Map Zone} (hm : ∀ e ∈ m, e.2.entries.length ≤ 32) :
    State.Good q n { s with zones := m } :=
  ⟨h.pending, h.now, h.inv.regs, h.inv.chans, h.inv.faults, h.inv.overruns, h.inv.logs, hm, h.inv.hayloft, h.inv.flash, h.inv.sram⟩

theorem State.Good.withHayMem (h : State.Good q n s) {m : List Host.Cell} (hm : mwf 0xFF m = true) :
    State.Good q n { s with hay.mem := m } :=
  ⟨h.pending, h.now, h.inv.regs, h.inv.chans, h.inv.faults, h.inv.overruns, h.inv.logs, h.inv.zones, hm, h.inv.flash, h.inv.sram⟩

theorem State.Good.withFlash (h : State.Good q n s) {m : List Host.Cell} (hm : mwf 0xFF m = true) :
    State.Good q n { s with sec.flash := m } :=
  ⟨h.pending, h.now, h.inv.regs, h.inv.chans, h.inv.faults, h.inv.overruns, h.inv.logs, h.inv.zones, h.inv.hayloft, hm, h.inv.sram⟩

theorem State.Good.withSram (h : State.Good q n s) {m : List Host.Cell} (hm : mwf 0 m = true) :
    State.Good q n { s with dbg.sram := m } :=
  ⟨h.pending, h.now, h.inv.regs, h.inv.chans, h.inv.faults, h.inv.overruns, h.inv.logs, h.inv.zones, h.inv.hayloft, h.inv.flash, hm⟩

theorem State.chan_good {c : Nat} (h : State.Good q n s) : (s.chan c).Good :=
  of_mget (P := Channel.fits) h.inv.chans Channel.good_empty

theorem State.log_good {k : Nat} (h : State.Good q n s) : (s.log k).Good :=
  of_mget (P := fun l : LogStream => l.queue.length ≤ 64) h.inv.logs (Nat.zero_le _)

theorem State.zone_good {k : Nat} (h : State.Good q n s) : (s.zone k).Good :=
  of_mget (P := fun z : Zone => z.entries.length ≤ 32) h.inv.zones (Nat.zero_le _)

/-- The count of slot edges set to a value. -/
theorem State.Good.withNow (h : State.Good q n s) {m : Nat} : State.Good q m { s with cad.now := m } :=
  ⟨h.pending, rfl, h.inv.regs, h.inv.chans, h.inv.faults, h.inv.overruns, h.inv.logs, h.inv.zones, h.inv.hayloft, h.inv.flash,
    h.inv.sram⟩

/-- Slots that pass while the sequencer stands are counted (R34). -/
theorem State.aonPass_moves {slots : Nat} (h : State.Good q n s) :
    State.Good q (if s.pwr.standby || !s.cad.refOn then n + slots else n) (s.aonPass slots) := by
  unfold State.aonPass
  split
  · rw [← h.now]; exact h.withNow
  · exact h

/-! ### Registers -/

theorem State.wr_good {r v : Nat} (h : State.Good q n s) : State.Good q n (s.wr r v) := h.withRegs (regsWf_mput r v h.inv.regs)

theorem State.clearAttr_good {id : Nat} (h : State.Good q n s) : State.Good q n (s.clearAttr id) :=
  h.withRegs (regsWf_filter _ h.inv.regs)

/-! ### Channels -/

theorem State.modChan_good {c : Nat} {f : Channel → Channel} (h : State.Good q n s) (hf : ∀ x : Channel, x.Good → (f x).Good) :
    State.Good q n (s.modChan c f) := h.withChans (all_mmod (P := Channel.fits) h.inv.chans Channel.good_empty hf)

/-- Setting one channel to a given image. -/
theorem State.modChan_good_at {c : Nat} {f : Channel → Channel} (h : State.Good q n s) (hf : (f (s.chan c)).Good) :
    State.Good q n (s.modChan c f) := h.withChans (all_mput (P := Channel.fits) h.inv.chans hf)

theorem post_outCount (ch : Nat) (a : Bool) (p : Pkt) (c : Channel) (k : PktKind) :
    outCount (post ch a p c) k = outCount c k + if p.kind = k then 1 else 0 := by
  unfold post tagOut outCount
  by_cases h : p.kind = k <;> cases a <;> cases c.bind <;> simp [h]

theorem post_waits (ch : Nat) (a : Bool) (p : Pkt) (c : Channel) : (post ch a p c).waits = c.waits := by
  unfold post tagOut
  cases a <;> cases c.bind <;> rfl

theorem post_keeps {ch : Nat} {a : Bool} {p : Pkt} {c : Channel} (h : ∀ p ∈ c.waits, p.kind = .final) :
    ∀ x ∈ (post ch a p c).waits, x.kind = .final := by rw [post_waits]; exact h

theorem postShared_good {ch : Nat} {a : Bool} {p : Pkt} (hp : p.kind = .shared) {c : Channel} (h : c.Good) : (postShared ch a p c).Good := by
  unfold postShared
  split
  · rename_i hc
    obtain ⟨h1, h2, h3, h4⟩ := h
    refine ⟨?_, ?_, ?_, post_keeps h4⟩ <;> rw [post_outCount, hp] <;> simp <;> omega
  · exact h.of_eq rfl rfl

theorem postWaits_good {ch : Nat} {l : List Pkt} {c : Channel} (hl : ∀ p ∈ l, p.kind = .final) (h : c.Good) :
    (postWaits ch l c).Good := by
  induction l generalizing c with
  | nil => exact ⟨h.1, h.2.1, h.2.2.1, fun _ h => absurd h (List.not_mem_nil)⟩
  | cons p rest ih =>
    unfold postWaits
    split
    · rename_i hc
      refine ih (fun x hx => hl x (List.mem_cons_of_mem _ hx)) ?_
      obtain ⟨h1, h2, h3, h4⟩ := h
      have hp := hl p List.mem_cons_self
      have e : ∀ k, outCount { c with uses := c.uses.filter fun u => u.tag != p.tag } k = outCount c k := fun _ => rfl
      refine ⟨?_, ?_, ?_, post_keeps h4⟩ <;> rw [post_outCount, hp, e] <;> simp <;> omega
    · exact ⟨h.1, h.2.1, h.2.2.1, hl⟩

/-- A packet of the kind of EVENTS_LOST goes out only while none is there. -/
theorem lostReport_good {ch : Nat} {c : Channel} (h : c.Good) : (lostReport ch c).Good := by
  unfold lostReport
  split
  · exact h
  · split
    · rename_i hc
      simp only [Bool.and_eq_true, decide_eq_true_eq] at hc
      obtain ⟨h1, h2, h3, h4⟩ := h
      refine ⟨?_, ?_, ?_, post_keeps h4⟩ <;> rw [post_outCount]
      · simpa [outCount] using h1
      · simpa [outCount] using h2
      · have := hc.2
        simp only [outCount] at this ⊢
        simp [this]
    · exact h

theorem refillOut_good {ch : Nat} {c : Channel} (h : c.Good) : (refillOut ch c).Good := lostReport_good (postWaits_good h.2.2.2 h)

theorem raiseOn_good {ch code : Nat} {payload : Bytes} {c : Channel} (h : c.Good) : (raiseOn ch code payload c).Good := by
  unfold raiseOn
  split
  · extract_lets -merge +onlyGivenNames d
    have hd : d.Good := lostReport_good h
    clear_value d
    extract_lets k e
    have he : e.Good := hd.of_eq rfl rfl
    split
    · rename_i hc
      obtain ⟨h1, h2, h3, h4⟩ := he
      refine ⟨?_, ?_, ?_, post_keeps h4⟩ <;> rw [post_outCount] <;> simp <;> omega
    · exact he.of_eq rfl rfl
  · exact h

theorem State.reject_good {ch tag op status : Nat} (h : State.Good q n s) : State.Good q n (s.reject ch tag op status) :=
  State.modChan_good h fun _ hx => postShared_good rfl hx

theorem State.accepted_good {r : Ref} {extra : Bytes} (h : State.Good q n s) : State.Good q n (s.accepted r extra) :=
  good_ite (State.modChan_good h fun _ hx => postShared_good rfl hx) h

theorem State.postFinal_good {r : Ref} {payload : Bytes} (h : State.Good q n s) : State.Good q n (s.postFinal r payload) := by
  refine State.modChan_good h fun x hx => postWaits_good (fun p hp => ?_) hx
  rcases List.mem_append.mp hp with hp | hp
  · exact hx.2.2.2 p hp
  · rw [List.mem_singleton.mp hp]

theorem State.event_good {code : Nat} {payload : Bytes} (h : State.Good q n s) : State.Good q n (s.event code payload) :=
  State.each_good h fun _ _ ht => good_ite (State.modChan_good ht fun _ hx => raiseOn_good hx) ht

/-! ### Logs and faults -/

theorem State.modLog_good {k : Nat} {f : LogStream → LogStream} (h : State.Good q n s) (hf : ∀ x : LogStream, x.Good → (f x).Good) :
    State.Good q n (s.modLog k f) :=
  h.withLogs (all_mmod (P := fun l : LogStream => l.queue.length ≤ 64) h.inv.logs (Nat.zero_le _) hf)

theorem State.record_good {stream kind : Nat} {data : Bytes} (h : State.Good q n s) : State.Good q n (s.record stream kind data) := by
  refine State.modLog_good h fun x hx => ?_
  dsimp only
  split
  · rename_i hc
    show (_ ++ [_]).length ≤ 64
    rw [List.length_append]
    exact Nat.add_le_add (Nat.le_of_lt hc) (Nat.le_refl 1)
  · exact hx

theorem dropNewest_length (cls : Nat) (l : List FaultItem) : (dropNewest cls l).length ≤ l.length := by
  unfold dropNewest
  rw [List.length_reverse]
  exact (List.eraseP_sublist).length_le.trans (List.length_reverse).le

/-- A class that is in a queue loses one entry. -/
theorem dropNewest_lt {cls : Nat} {l : List FaultItem} (h : ∃ i ∈ l, i.record.cls = cls) : (dropNewest cls l).length < l.length := by
  obtain ⟨i, hi, hc⟩ := h
  have hl := List.length_pos_of_mem hi
  unfold dropNewest
  rw [List.length_reverse, List.length_eraseP_of_mem (List.mem_reverse.mpr hi) (by simp [hc]), List.length_reverse]
  omega

theorem lowestClass_mem {l : List FaultItem} (h : l ≠ []) : ∃ i ∈ l, i.record.cls = lowestClass l := by
  cases l with
  | nil => exact absurd rfl h
  | cons x rest =>
    have key : ∀ (r : List FaultItem) (m : Nat), (r.foldl (fun m i => min m i.record.cls) m = m) ∨
        ∃ i ∈ r, i.record.cls = r.foldl (fun m i => min m i.record.cls) m := by
      intro r
      induction r with
      | nil => exact fun _ => .inl rfl
      | cons y ys ih =>
        intro m
        rcases ih (min m y.record.cls) with e | ⟨i, hi, e⟩
        · rcases Nat.le_total m y.record.cls with hm | hm
          · exact .inl (e.trans (Nat.min_eq_left hm))
          · exact .inr ⟨y, List.mem_cons_self, (e.trans (Nat.min_eq_right hm)).symm⟩
        · exact .inr ⟨i, List.mem_cons_of_mem _ hi, e⟩
    rcases key rest x.record.cls with e | ⟨i, hi, e⟩
    · exact ⟨x, List.mem_cons_self, e.symm⟩
    · exact ⟨i, List.mem_cons_of_mem _ hi, e⟩

theorem State.enqueueFault_good {i : FaultItem} (h : State.Good q n s) : State.Good q n (s.enqueueFault i) := by
  have hq := h.inv.faults
  unfold State.enqueueFault
  dsimp only
  split
  · rename_i hc
    exact h.withFaults (by simpa using hc)
  · rename_i hc
    have hw : State.Good q n (s.count R.FLT_STAT_LOST 0xFFFF 1) := State.wr_good h
    split
    · have hne : s.flt.queue ≠ [] := by
        intro e
        rw [e] at hc
        exact hc (by decide)
      have := dropNewest_lt (lowestClass_mem hne)
      exact hw.withFaults (by simp; omega)
    · exact hw

/-! ### Memories -/

theorem State.putPage_good {p : Nat} {image : Bytes} (h : State.Good q n s) : State.Good q n (s.putPage p image) :=
  (h.withHayMem (mwf_cellsPut (padTo 64 0xFF image) (64 * p) h.inv.hayloft)).of_eq rfl rfl rfl rfl rfl rfl rfl rfl rfl rfl rfl

theorem State.bankErase_good {bank : Nat} (h : State.Good q n s) : State.Good q n (s.bankErase bank) :=
  h.withFlash (mwf_filter _ h.inv.flash)

theorem State.bankWrite_good {bank off : Nat} {b : Bytes} (h : State.Good q n s) : State.Good q n (s.bankWrite bank off b) :=
  h.withFlash (mwf_cellsPut _ _ h.inv.flash)

/-! ### Zones -/

theorem State.modZone_good {k : Nat} {f : Zone → Zone} (h : State.Good q n s) (hf : ∀ x : Zone, x.Good → (f x).Good) :
    State.Good q n (s.modZone k f) :=
  h.withZones (all_mmod (P := fun z : Zone => z.entries.length ≤ 32) h.inv.zones (Nat.zero_le _) hf)

/-- Setting one zone to a given image. -/
theorem State.modZone_good_at {k : Nat} {f : Zone → Zone} (h : State.Good q n s) (hf : (f (s.zone k)).Good) :
    State.Good q n (s.modZone k f) := h.withZones (all_mput (P := fun z : Zone => z.entries.length ≤ 32) h.inv.zones hf)

theorem State.zonEntry_good {k kind data value : Nat} (h : State.Good q n s) : State.Good q n (s.zonEntry k kind data value) := by
  unfold State.zonEntry
  dsimp only
  split
  · rename_i hc
    refine State.event_good (State.modZone_good_at h ?_)
    show (_ ++ [_]).length ≤ 32
    rw [List.length_append]
    exact Nat.add_le_add (Nat.le_of_lt hc) (Nat.le_refl 1)
  · exact State.modZone_good h fun x hx => hx.of_eq rfl

theorem State.zonGap_good {k : Nat} (h : State.Good q n s) : State.Good q n (s.zonGap k) := by
  unfold State.zonGap
  dsimp only
  split
  · rename_i hc
    simp only [Bool.and_eq_true, decide_eq_true_eq] at hc
    refine State.event_good (State.modZone_good_at h ?_)
    show (_ ++ [_]).length ≤ 32
    rw [List.length_append]
    exact Nat.succ_le_of_lt hc.2
  · exact h

end Sys2Proof.Machine
end

