-- ==== Sys2Proof/Laws/Good1.lean ====
section
/-!
SUPPORT. Sys2Proof/Laws/Good1.lean: the operations of Ops, Escrow, Hayloft, Zones, Command, Pwm keep
the queue, the count of slot edges and the invariant.
-/

namespace Sys2Proof.Machine

variable {q : List Instr} {n : Nat}

/-! ### Ops -/

theorem State.wrs_good {x1} {x2} (g1 : State.Good q n x1) :
    State.Good q n (State.wrs x1 x2) := by
  delta State.wrs
  refine good_foldl ?_ ?_
  · exact g1
  · intro x1 x3 h2
    exact State.wr_good h2

theorem State.hubFault_good {x1} {x2} {x3} {x4} {x5} {x6} {x7} (g1 : State.Good q n x1) :
    State.Good q n (State.hubFault x1 x2 x3 x4 x5 x6 x7) := by
  delta State.hubFault
  refine good_ite ?_ ?_
  · exact g1
  · extract_lets -merge -underBinder +onlyGivenNames y1 y2
    have h3 : State.Good q n y2 := by subst y2; exact State.wrs_good g1
    try clear_value y2
    extract_lets -merge -underBinder +onlyGivenNames y4 y5
    exact h3.of_eq rfl rfl rfl rfl rfl rfl rfl rfl rfl rfl rfl

theorem tagOut_good {x1} {x2} {x3} (g2 : Channel.Good x2) :
    Channel.Good (tagOut x1 x2 x3).2 := by
  delta tagOut
  split
  · exact good_chan_mk_snd g2
  · exact good_chan_mk_snd (g2.of_eq rfl rfl)

theorem State.wrap_good {x1} {x2} {x3} {x4} (g1 : State.Good q n x1) :
    State.Good q n (State.wrap x1 x2 x3 x4) := by
  delta State.wrap
  exact State.wr_good g1

theorem State.count_good {x1} {x2} {x3} {x4} (g1 : State.Good q n x1) :
    State.Good q n (State.count x1 x2 x3 x4) := by
  delta State.count
  exact State.wr_good g1

theorem State.setRw_good {x1} {x2} {x3} (g1 : State.Good q n x1) :
    State.Good q n (State.setRw x1 x2 x3) := by
  delta State.setRw
  split
  · exact g1
  · refine State.each_good ?_ ?_
    · exact g1
    · intro x1 x3 h2
      exact State.wr_good h2

theorem State.note_good {x1} {x2} {x3} {x4} {x5} (g1 : State.Good q n x1) :
    State.Good q n (State.note x1 x2 x3 x4 x5) := by
  delta State.note
  exact State.event_good g1

theorem State.latchFault_good {x1} {x2} (g1 : State.Good q n x1) :
    State.Good q n (State.latchFault x1 x2) := by
  delta State.latchFault
  extract_lets -merge -underBinder +onlyGivenNames y1
  have h2 : State.Good q n y1 := by
    subst y1
    refine good_ite ?_ ?_
    · exact g1
    · exact State.wrs_good g1
  try clear_value y1
  refine good_ite ?_ ?_
  · exact h2
  · exact State.wrs_good h2

theorem State.wrB_good {x1} {x2} {x3} (g1 : State.Good q n x1) :
    State.Good q n (State.wrB x1 x2 x3) := by
  delta State.wrB
  exact State.wr_good g1

theorem State.secNote_good {x1} {x2} {x3} {x4} (g1 : State.Good q n x1) :
    State.Good q n (State.secNote x1 x2 x3 x4) := by
  delta State.secNote
  exact State.event_good g1

theorem State.draw_good {x1} {x2} (g1 : State.Good q n x1) :
    State.Good q n (State.draw x1 x2).2 := by
  delta State.draw
  exact good_mk_snd (g1.of_eq rfl rfl rfl rfl rfl rfl rfl rfl rfl rfl rfl)

theorem State.finish_good {x1} {x2} {x3} {x4} (g1 : State.Good q n x1) :
    State.Good q n (State.finish x1 x2 x3 x4) := by
  delta State.finish
  refine good_ite ?_ ?_
  · exact g1.of_eq rfl rfl rfl rfl rfl rfl rfl rfl rfl rfl rfl
  · refine good_ite ?_ ?_
    · exact g1.of_eq rfl rfl rfl rfl rfl rfl rfl rfl rfl rfl rfl
    · exact State.postFinal_good g1

theorem State.finish?_good {x1} {x2} {x3} {x4} (g1 : State.Good q n x1) :
    State.Good q n (State.finish? x1 x2 x3 x4) := by
  delta State.finish?
  split
  · exact g1
  · exact State.finish_good g1

theorem State.setImage_good {x1} {x2} {x3} (g1 : State.Good q n x1) :
    State.Good q n (State.setImage x1 x2 x3) := by
  delta State.setImage
  refine good_foldl_fst ?_ ?_
  · exact good_mk_fst g1
  · intro x1 x3 h2
    exact good_mk_fst (State.setRw_good h2)

theorem State.fault_good {x1} {x2} {x3} {x4} {x5} {x6} {x7} (g1 : State.Good q n x1) :
    State.Good q n (State.fault x1 x2 x3 x4 x5 x6 x7) := by
  delta State.fault
  refine good_ite ?_ ?_
  · exact g1
  · extract_lets -merge -underBinder +onlyGivenNames y1
    exact State.enqueueFault_good (State.latchFault_good g1)

theorem State.ok_good {x1} {x2} {x3} (g1 : State.Good q n x1) :
    State.Good q n (State.ok x1 x2 x3) := by
  delta State.ok
  exact State.finish_good g1

theorem State.recert_good {x1} (g1 : State.Good q n x1) :
    State.Good q n (State.recert x1) := by
  delta State.recert
  extract_lets -merge -underBinder +onlyGivenNames y1
  refine good_ite ?_ ?_
  · exact g1
  · extract_lets -merge -underBinder +onlyGivenNames y2
    have h3 : State.Good q n y2 := by subst y2; exact State.secNote_good (State.wrB_good g1)
    try clear_value y2
    refine good_ite ?_ ?_
    · exact h3
    · exact State.fault_good h3

/-! ### Escrow -/

theorem State.escAsk_good {x1} {x2} {x3} {x4} (g1 : State.Good q n x1) :
    State.Good q n (State.escAsk x1 x2 x3 x4) := by
  delta State.escAsk
  exact g1.of_eq rfl rfl rfl rfl rfl rfl rfl rfl rfl rfl rfl

theorem judge_good {s l} (h : State.Good q n s) : State.Good q n (judge s l).1 := by
  induction l generalizing s with
  | nil => exact h
  | cons r rest ih =>
    unfold judge
    exact good_fst_ite (ih (h.of_eq rfl rfl rfl rfl rfl rfl rfl rfl rfl rfl rfl)) (ih h)

theorem State.escEnd_good {x1} {x2} (g1 : State.Good q n x1) :
    State.Good q n (State.escEnd x1 x2) := by
  delta State.escEnd
  exact g1.of_eq rfl rfl rfl rfl rfl rfl rfl rfl rfl rfl rfl

theorem State.gaugeSample_good {x1} {x2} (g1 : State.Good q n x1) :
    State.Good q n (State.gaugeSample x1 x2) := by
  delta State.gaugeSample
  extract_lets -merge -underBinder +onlyGivenNames y1
  have h2 : State.Good q n y1 := by subst y1; exact State.wr_good g1
  try clear_value y1
  exact h2.of_eq rfl rfl rfl rfl rfl rfl rfl rfl rfl rfl rfl

theorem State.gauge_good {x1} (g1 : State.Good q n x1) :
    State.Good q n (State.gauge x1).1 := by
  delta State.gauge
  extract_lets -merge -underBinder +onlyGivenNames y1
  have h2 : State.Good q n y1.1 := by subst y1; exact judge_good g1
  try clear_value y1
  extract_lets -merge -underBinder +onlyGivenNames y3 y4
  have h5 : State.Good q n y4 := by subst y4; exact h2
  try clear_value y4
  extract_lets -merge -underBinder +onlyGivenNames y6
  have h9 : State.Good q n y6 := by
    subst y6
    refine State.when_good ?_ ?_
    · exact h5
    · intro x7 h8
      exact State.count_good h8
  try clear_value y6
  extract_lets -merge -underBinder +onlyGivenNames y10
  have h13 : State.Good q n y10 := by
    subst y10
    refine State.when_good ?_ ?_
    · exact h9
    · intro x11 h12
      exact State.count_good h12
  try clear_value y10
  extract_lets -merge -underBinder +onlyGivenNames y14
  have h17 : State.Good q n y14 := by
    subst y14
    refine State.when_good ?_ ?_
    · exact h13
    · intro x15 h16
      exact State.count_good h16
  try clear_value y14
  extract_lets -merge -underBinder +onlyGivenNames y18
  have h21 : State.Good q n y18 := by
    subst y18
    refine State.when_good ?_ ?_
    · exact h17
    · intro x19 h20
      exact State.wr_good h20
  try clear_value y18
  exact good_mk_fst h21

/-! ### Hayloft -/

theorem State.hayGo_good {x1} (g1 : State.Good q n x1) :
    State.Good q n (State.hayGo x1) := by
  delta State.hayGo
  split
  · exact g1
  · refine good_ite ?_ ?_
    · exact g1
    · exact g1.of_eq rfl rfl rfl rfl rfl rfl rfl rfl rfl rfl rfl

theorem State.hayLoad_good {x1} {x2} {x3} {x4} {x5} {x6} (g1 : State.Good q n x1) :
    State.Good q n (State.hayLoad x1 x2 x3 x4 x5 x6) := by
  delta State.hayLoad
  extract_lets -merge -underBinder +onlyGivenNames y1
  have h6 : State.Good q n y1 := by
    subst y1
    split
    · refine State.modLog_good ?_ ?_
      · exact g1
      · intro x2 h3
        exact h3.of_eq rfl
    · refine State.modLog_good ?_ ?_
      · exact g1
      · intro x4 h5
        exact h5.of_eq rfl
    · exact g1
  try clear_value y1
  extract_lets -merge -underBinder +onlyGivenNames y7
  have h8 : State.Good q n y7 := by subst y7; exact State.wr_good h6
  try clear_value y7
  exact h8.of_eq rfl rfl rfl rfl rfl rfl rfl rfl rfl rfl rfl

theorem State.sweepNext_good {x1} (g1 : State.Good q n x1) :
    State.Good q n (State.sweepNext x1) := by
  delta State.sweepNext
  refine good_ite ?_ ?_
  · exact State.wr_good g1
  · refine good_ite ?_ ?_
    · exact g1.of_eq rfl rfl rfl rfl rfl rfl rfl rfl rfl rfl rfl
    · extract_lets -merge -underBinder +onlyGivenNames y1
      have h2 : State.Good q n y1 := by subst y1; exact State.wrap_good (State.wr_good g1)
      try clear_value y1
      exact h2.of_eq rfl rfl rfl rfl rfl rfl rfl rfl rfl rfl rfl

theorem State.hayFix_good {x1} (g1 : State.Good q n x1) :
    State.Good q n (State.hayFix x1) := by
  delta State.hayFix
  split
  · exact g1.of_eq rfl rfl rfl rfl rfl rfl rfl rfl rfl rfl rfl
  · exact g1

theorem State.hayNote_good {x1} {x2} {x3} {x4} (g1 : State.Good q n x1) :
    State.Good q n (State.hayNote x1 x2 x3 x4) := by
  delta State.hayNote
  exact State.note_good g1

theorem State.schedFail_good {x1} {x2} (g1 : State.Good q n x1) :
    State.Good q n (State.schedFail x1 x2) := by
  delta State.schedFail
  split
  · exact g1
  · extract_lets -merge -underBinder +onlyGivenNames y1 y2
    have h3 : State.Good q n y2 := by subst y2; exact g1.of_eq rfl rfl rfl rfl rfl rfl rfl rfl rfl rfl rfl
    try clear_value y2
    exact State.finish_good h3

theorem State.recordsCommitted_good {x1} {x2} {x3} (g1 : State.Good q n x1) :
    State.Good q n (State.recordsCommitted x1 x2 x3) := by
  delta State.recordsCommitted
  refine State.each_good ?_ ?_
  · exact g1
  · intro x1 x3 h2
    extract_lets -merge -underBinder +onlyGivenNames y4 y5
    refine good_ite ?_ ?_
    · exact State.wr_good h2
    · refine good_ite ?_ ?_
      · exact State.wr_good h2
      · refine good_ite ?_ ?_
        · exact State.wr_good h2
        · exact h2

theorem State.hayPresent_good {x1} (g1 : State.Good q n x1) :
    State.Good q n (State.hayPresent x1) := by
  delta State.hayPresent
  extract_lets -merge -underBinder +onlyGivenNames y1
  have h2 : State.Good q n y1 := by subst y1; exact State.hayFix_good g1
  try clear_value y1
  split
  · split
    · refine good_ite ?_ ?_
      · exact h2
      · exact h2.of_eq rfl rfl rfl rfl rfl rfl rfl rfl rfl rfl rfl
    · exact h2
  · exact h2

theorem State.secCommitted_good {x1} {x2} (g1 : State.Good q n x1) :
    State.Good q n (State.secCommitted x1 x2) := by
  delta State.secCommitted
  exact g1.of_eq rfl rfl rfl rfl rfl rfl rfl rfl rfl rfl rfl

theorem State.hayPhaseEnd_good {x1} {x2} (g1 : State.Good q n x1) :
    State.Good q n (State.hayPhaseEnd x1 x2) := by
  delta State.hayPhaseEnd
  split
  · exact g1
  · refine good_ite ?_ ?_
    · extract_lets -merge -underBinder +onlyGivenNames y1 y2 y3
      have h4 : State.Good q n y3 := by subst y3; exact g1.of_eq rfl rfl rfl rfl rfl rfl rfl rfl rfl rfl rfl
      try clear_value y3
      refine good_ite ?_ ?_
      · extract_lets -merge -underBinder +onlyGivenNames y5
        have h6 : State.Good q n y5 := by subst y5; exact State.putPage_good h4
        try clear_value y5
        extract_lets -merge -underBinder +onlyGivenNames y7 y8
        have h9 : State.Good q n y8 := by subst y8; exact h6.of_eq rfl rfl rfl rfl rfl rfl rfl rfl rfl rfl rfl
        try clear_value y8
        refine good_ite ?_ ?_
        · exact State.recordsCommitted_good h9
        · exact h9
      · exact h4
    · exact g1

theorem State.hayRest_good {x1} {x2} {x3} (g1 : State.Good q n x1) :
    State.Good q n (State.hayRest x1 x2 x3) := by
  delta State.hayRest
  exact g1.of_eq rfl rfl rfl rfl rfl rfl rfl rfl rfl rfl rfl

theorem fillPage_good {k : Nat} {l : LogStream} (h : l.Good) : (fillPage k l).Good := by
  unfold fillPage LogStream.Good at *
  dsimp only
  split
  · exact h
  · simp only [List.length_drop]
    split <;> exact (Nat.sub_le _ _).trans h

theorem State.wpRefuse_good {x1} {x2} (g1 : State.Good q n x1) :
    State.Good q n (State.wpRefuse x1 x2) := by
  delta State.wpRefuse
  exact State.record_good (State.hayNote_good (State.count_good g1))

theorem State.flushFail_good {x1} {x2} (g1 : State.Good q n x1) :
    State.Good q n (State.flushFail x1 x2) := by
  delta State.flushFail
  extract_lets -merge -underBinder +onlyGivenNames y1
  refine State.each_good ?_ ?_
  · exact g1.of_eq rfl rfl rfl rfl rfl rfl rfl rfl rfl rfl rfl
  · intro x2 x4 h3
    exact State.finish_good h3

theorem State.hayDrop_good {x1} {x2} (g1 : State.Good q n x1) :
    State.Good q n (State.hayDrop x1 x2) := by
  delta State.hayDrop
  extract_lets -merge -underBinder +onlyGivenNames y1
  have h2 : State.Good q n y1 := by subst y1; exact State.escEnd_good g1
  try clear_value y1
  exact h2.of_eq rfl rfl rfl rfl rfl rfl rfl rfl rfl rfl rfl

theorem State.flushDone_good {x1} (g1 : State.Good q n x1) :
    State.Good q n (State.flushDone x1) := by
  delta State.flushDone
  extract_lets -merge -underBinder +onlyGivenNames y1
  refine State.each_good ?_ ?_
  · exact g1.of_eq rfl rfl rfl rfl rfl rfl rfl rfl rfl rfl rfl
  · intro x2 x4 h3
    exact State.ok_good h3

theorem State.schedStored_good {s req day} (h : State.Good q n s) : State.Good q n (State.schedStored s req day) := by
  unfold State.schedStored
  split
  · exact h
  · rename_i r _
    have hy : ∀ d, State.Good q n { s with zones := mmod {} s.zones r.zone fun z => { z with newDays := mins z.newDays day d } } :=
      fun d => h.withZones (all_mmod (P := fun z : Zone => z.entries.length ≤ 32) h.inv.zones (Nat.zero_le _) fun _ hx => hx)
    refine good_ite (State.ok_good ((hy r.prog).of_eq rfl rfl rfl rfl rfl rfl rfl rfl rfl rfl rfl))
      ((hy r.prog).of_eq rfl rfl rfl rfl rfl rfl rfl rfl rfl rfl rfl)

theorem State.overflow_good {s stream cause} (h : State.Good q n s) : State.Good q n (State.overflow s stream cause) := by
  unfold State.overflow
  dsimp only
  split
  · exact h
  · refine good_ite' (fun _ => h) fun hc => State.fault_good (State.hayNote_good (State.count_good (h.withLogs ?_)))
    refine all_mput (P := fun l : LogStream => l.queue.length ≤ 64) h.inv.logs ?_
    show (_ ++ [_]).length ≤ 64
    rw [List.length_append]
    exact Nat.succ_le_of_lt (Nat.lt_trans (Nat.lt_of_not_le hc) (Nat.lt_succ_self 63))

theorem State.uncorrectable_good {x1} {x2} (g1 : State.Good q n x1) :
    State.Good q n (State.uncorrectable x1 x2) := by
  delta State.uncorrectable
  refine good_ite ?_ ?_
  · exact g1
  · extract_lets -merge -underBinder +onlyGivenNames y1 y2
    have h3 : State.Good q n y2 := by subst y2; exact g1.of_eq rfl rfl rfl rfl rfl rfl rfl rfl rfl rfl rfl
    try clear_value y2
    extract_lets -merge -underBinder +onlyGivenNames y4
    have h5 : State.Good q n y4 := by subst y4; exact State.wrs_good h3
    try clear_value y4
    extract_lets -merge -underBinder +onlyGivenNames y6
    have h7 : State.Good q n y6 := by subst y6; exact State.hayNote_good (State.record_good h5)
    try clear_value y6
    exact State.fault_good h7

theorem State.readPages_good {s l} (h : State.Good q n s) : State.Good q n (State.readPages s l).1 := by
  induction l generalizing s with
  | nil => exact h
  | cons r rest ih =>
    unfold State.readPages
    exact good_fst_ite h (good_fst_ite (State.uncorrectable_good h) (good_fst_ite (ih (State.count_good h)) (ih h)))

theorem State.logWritten_good {x1} {x2} {x3} (g1 : State.Good q n x1) :
    State.Good q n (State.logWritten x1 x2 x3) := by
  delta State.logWritten
  extract_lets -merge -underBinder +onlyGivenNames y1
  have h4 : State.Good q n y1 := by
    subst y1
    refine State.modLog_good ?_ ?_
    · exact g1
    · intro x2 h3
      exact h3.of_eq rfl
  try clear_value y1
  exact State.flushDone_good h4

theorem State.pageDone_good {x1} {x2} {x3} (g1 : State.Good q n x1) :
    State.Good q n (State.pageDone x1 x2 x3) := by
  delta State.pageDone
  split
  · extract_lets -merge -underBinder +onlyGivenNames y1
    refine good_ite ?_ ?_
    · exact State.ok_good (State.hayDrop_good g1)
    · exact State.hayRest_good g1
  · refine good_ite ?_ ?_
    · exact State.finish?_good (State.hayDrop_good g1)
    · exact State.hayRest_good g1
  · exact State.finish?_good (State.hayDrop_good g1)
  · exact State.schedStored_good (State.hayDrop_good g1)
  · exact State.logWritten_good (State.hayDrop_good g1)
  · exact State.logWritten_good (State.hayDrop_good g1)
  · exact State.secCommitted_good (State.hayDrop_good g1)
  · exact State.hayDrop_good g1
  · exact State.hayNote_good (State.record_good (State.count_good (State.hayDrop_good g1)))
  · extract_lets -merge -underBinder +onlyGivenNames y2
    have h3 : State.Good q n y2 := by subst y2; exact State.hayDrop_good g1
    try clear_value y2
    exact h3.of_eq rfl rfl rfl rfl rfl rfl rfl rfl rfl rfl rfl
  · exact g1
  · exact g1

theorem State.secFail_good {x1} {x2} (g1 : State.Good q n x1) :
    State.Good q n (State.secFail x1 x2) := by
  delta State.secFail
  split
  · exact g1
  · extract_lets -merge -underBinder +onlyGivenNames y1 y2
    have h3 : State.Good q n y2 := by subst y2; exact State.finish?_good (g1.of_eq rfl rfl rfl rfl rfl rfl rfl rfl rfl rfl rfl)
    try clear_value y2
    refine good_ite ?_ ?_
    · exact State.hubFault_good h3
    · exact h3

theorem State.completionDone_good {x1} {x2} {x3} {x4} (g1 : State.Good q n x1) :
    State.Good q n (State.completionDone x1 x2 x3 x4) := by
  delta State.completionDone
  split
  · exact g1
  · refine good_ite ?_ ?_
    · exact State.pageDone_good g1
    · exact g1

theorem State.hayServe_good {x1} {x2} (g1 : State.Good q n x1) :
    State.Good q n (State.hayServe x1 x2) := by
  delta State.hayServe
  split
  · extract_lets -merge -underBinder +onlyGivenNames y1
    have h2 : State.Good q n y1.1 := by subst y1; exact State.readPages_good g1
    try clear_value y1
    extract_lets -merge -underBinder +onlyGivenNames y3
    have h4 : State.Good q n y3 := by subst y3; exact State.hayDrop_good h2
    try clear_value y3
    split
    · exact State.finish_good h4
    · exact State.ok_good h4
  · extract_lets -merge -underBinder +onlyGivenNames y5
    exact State.ok_good (State.hayDrop_good g1)
  · exact State.finish?_good (State.hayDrop_good g1)
  · exact State.ok_good (State.hayDrop_good g1)
  · exact State.finish?_good (State.hayDrop_good g1)
  · exact State.hayDrop_good g1

theorem State.hayFail_good {x1} {x2} (g1 : State.Good q n x1) :
    State.Good q n (State.hayFail x1 x2) := by
  delta State.hayFail
  extract_lets -merge -underBinder +onlyGivenNames y1
  have h2 : State.Good q n y1 := by subst y1; exact State.hayDrop_good g1
  try clear_value y1
  split
  · exact State.finish_good h2
  · exact State.finish_good h2
  · exact State.finish_good h2
  · exact State.finish?_good h2
  · exact State.finish?_good h2
  · exact State.schedFail_good h2
  · refine State.flushFail_good ?_
    refine State.modLog_good ?_ ?_
    · exact h2
    · intro x3 h4
      exact h4.of_eq rfl
  · refine State.modLog_good ?_ ?_
    · exact h2
    · intro x5 h6
      exact h6.of_eq rfl
  · exact State.secFail_good h2
  · exact h2
  · exact h2
  · exact h2

theorem State.hayAsk_good {x1} {x2} {x3} (g1 : State.Good q n x1) :
    State.Good q n (State.hayAsk x1 x2 x3) := by
  delta State.hayAsk
  extract_lets -merge -underBinder +onlyGivenNames y1 y2 y3
  have h4 : State.Good q n y3 := by subst y3; exact g1.of_eq rfl rfl rfl rfl rfl rfl rfl rfl rfl rfl rfl
  try clear_value y3
  refine good_ite ?_ ?_
  · exact State.hayFail_good h4
  · split
    · exact h4.of_eq rfl rfl rfl rfl rfl rfl rfl rfl rfl rfl rfl
    · exact h4.of_eq rfl rfl rfl rfl rfl rfl rfl rfl rfl rfl rfl
    · exact h4.of_eq rfl rfl rfl rfl rfl rfl rfl rfl rfl rfl rfl
    · refine good_ite ?_ ?_
      · exact h4.of_eq rfl rfl rfl rfl rfl rfl rfl rfl rfl rfl rfl
      · exact h4.of_eq rfl rfl rfl rfl rfl rfl rfl rfl rfl rfl rfl

theorem State.groomSweep_good {x1} (g1 : State.Good q n x1) :
    State.Good q n (State.groomSweep x1) := by
  delta State.groomSweep
  refine good_ite ?_ ?_
  · exact g1
  · refine good_ite ?_ ?_
    · exact State.count_good g1
    · extract_lets -merge -underBinder +onlyGivenNames y1 y2 y3
      have h4 : State.Good q n y3 := by subst y3; exact State.sweepNext_good g1
      try clear_value y3
      refine good_ite ?_ ?_
      · exact h4
      · refine good_ite ?_ ?_
        · exact State.uncorrectable_good h4
        · extract_lets -merge -underBinder +onlyGivenNames y5
          have h8 : State.Good q n y5 := by
            subst y5
            refine State.when_good ?_ ?_
            · exact h4
            · intro x6 h7
              exact State.count_good h7
          try clear_value y5
          refine good_ite ?_ ?_
          · extract_lets -merge -underBinder +onlyGivenNames y9
            have h10 : State.Good q n y9 := by subst y9; exact State.count_good h8
            try clear_value y9
            refine good_ite ?_ ?_
            · exact h10
            · exact State.hayAsk_good h10
          · exact h8

theorem State.hayStep_good {x1} (g1 : State.Good q n x1) :
    State.Good q n (State.hayStep x1).1 := by
  delta State.hayStep
  extract_lets -merge -underBinder +onlyGivenNames y1
  have h2 : State.Good q n y1 := by subst y1; exact State.hayFix_good g1
  try clear_value y1
  split
  · split
    · exact good_mk_fst (State.hayServe_good h2)
    · refine good_fst_ite ?_ ?_
      · refine good_fst_ite ?_ ?_
        · exact good_mk_fst (State.hayFail_good (State.wpRefuse_good h2))
        · exact good_mk_fst h2
      · refine good_fst_ite ?_ ?_
        · exact good_mk_fst h2
        · refine good_fst_ite ?_ ?_
          · exact good_mk_fst (State.hayFail_good h2)
          · refine good_fst_ite ?_ ?_
            · refine good_fst_ite ?_ ?_
              · exact good_mk_fst h2
              · exact good_mk_fst (State.hayLoad_good h2)
            · refine good_fst_ite ?_ ?_
              · exact good_mk_fst (State.hayLoad_good h2)
              · exact good_mk_fst h2
  · exact good_mk_fst h2

theorem State.writeFailed_good {x1} {x2} (g1 : State.Good q n x1) :
    State.Good q n (State.writeFailed x1 x2) := by
  delta State.writeFailed
  extract_lets -merge -underBinder +onlyGivenNames y1 y2
  have h3 : State.Good q n y2 := by subst y2; exact State.escEnd_good g1
  try clear_value y2
  refine good_ite ?_ ?_
  · extract_lets -merge -underBinder +onlyGivenNames y4 y5
    have h6 : State.Good q n y5 := by subst y5; exact State.wr_good h3
    try clear_value y5
    extract_lets -merge -underBinder +onlyGivenNames y7 y8
    have h9 : State.Good q n y8 := by subst y8; exact h6.of_eq rfl rfl rfl rfl rfl rfl rfl rfl rfl rfl rfl
    try clear_value y8
    extract_lets -merge -underBinder +onlyGivenNames y10 y11
    have h12 : State.Good q n y11 := by subst y11; exact h9.of_eq rfl rfl rfl rfl rfl rfl rfl rfl rfl rfl rfl
    try clear_value y11
    exact State.fault_good (State.hayNote_good (State.record_good h12))
  · extract_lets -merge -underBinder +onlyGivenNames y13 y14
    have h15 : State.Good q n y14 := by subst y14; exact h3.of_eq rfl rfl rfl rfl rfl rfl rfl rfl rfl rfl rfl
    try clear_value y14
    extract_lets -merge -underBinder +onlyGivenNames y16
    have h17 : State.Good q n y16 := by subst y16; exact State.fault_good (State.hayNote_good (State.record_good h15))
    try clear_value y16
    exact State.hayFail_good h17

theorem State.hayFailAll_good {x1} {x2} (g1 : State.Good q n x1) :
    State.Good q n (State.hayFailAll x1 x2) := by
  delta State.hayFailAll
  refine State.each_good ?_ ?_
  · exact g1
  · intro x1 x3 h2
    refine good_ite ?_ ?_
    · exact State.hayFail_good h2
    · exact h2

theorem State.groomRepair_good {x1} {x2} (g1 : State.Good q n x1) :
    State.Good q n (State.groomRepair x1 x2) := by
  delta State.groomRepair
  extract_lets -merge -underBinder +onlyGivenNames y1
  refine good_ite ?_ ?_
  · exact g1
  · extract_lets -merge -underBinder +onlyGivenNames y2 y3 y4
    have h5 : State.Good q n y4 := by subst y4; exact g1.of_eq rfl rfl rfl rfl rfl rfl rfl rfl rfl rfl rfl
    try clear_value y4
    extract_lets -merge -underBinder +onlyGivenNames y6
    have h10 : State.Good q n y6 := by
      subst y6
      refine State.each_good ?_ ?_
      · exact h5
      · intro x7 x9 h8
        exact State.fault_good (State.note_good h8)
    try clear_value y6
    refine good_ite ?_ ?_
    · exact h10
    · exact State.hayAsk_good h10

theorem State.commitPage_good {x1} {x2} (g1 : State.Good q n x1) :
    State.Good q n (State.commitPage x1 x2) := by
  delta State.commitPage
  refine good_ite ?_ ?_
  · refine State.hayAsk_good ?_
    refine State.modLog_good ?_ ?_
    · exact g1
    · intro x1 h2
      exact h2.of_eq rfl
  · exact g1

theorem State.hayWriteEnd_good {x1} (g1 : State.Good q n x1) :
    State.Good q n (State.hayWriteEnd x1) := by
  delta State.hayWriteEnd
  split
  · exact g1
  · refine good_ite ?_ ?_
    · exact g1
    · extract_lets -merge -underBinder +onlyGivenNames y1 y2
      have h3 : State.Good q n y2 := by subst y2; exact g1.of_eq rfl rfl rfl rfl rfl rfl rfl rfl rfl rfl rfl
      try clear_value y2
      refine good_ite ?_ ?_
      · exact State.writeFailed_good h3
      · extract_lets -merge -underBinder +onlyGivenNames y4
        have h5 : State.Good q n y4 := by subst y4; exact State.escEnd_good h3
        try clear_value y4
        split
        · exact State.completionDone_good (State.hayDrop_good h5)
        · exact State.pageDone_good h5

theorem State.hayLoop_good {k s} (h : State.Good q n s) : State.Good q n (State.hayLoop k s) := by
  induction k generalizing s with
  | zero => exact h
  | succ k ih => exact good_ite (ih (State.hayStep_good h)) (State.hayStep_good h)

theorem State.logStream_good {x1} {x2} (g1 : State.Good q n x1) :
    State.Good q n (State.logStream x1 x2) := by
  delta State.logStream
  extract_lets -merge -underBinder +onlyGivenNames y1 y2
  have h5 : State.Good q n y2 := by
    subst y2
    refine State.modLog_good ?_ ?_
    · exact g1
    · intro x3 h4
      exact fillPage_good h4
  try clear_value y2
  extract_lets -merge -underBinder +onlyGivenNames y6
  have h7 : State.Good q n y6 := by
    subst y6
    refine good_ite ?_ ?_
    · exact State.overflow_good h5
    · exact h5
  try clear_value y6
  exact State.commitPage_good h7

theorem State.logSvc_good {x1} (g1 : State.Good q n x1) :
    State.Good q n (State.logSvc x1) := by
  delta State.logSvc
  refine State.each_good ?_ ?_
  · exact g1
  · intro x1 x3 h2
    exact State.logStream_good h2

theorem State.haySvc_good {x1} (g1 : State.Good q n x1) :
    State.Good q n (State.haySvc x1) := by
  delta State.haySvc
  extract_lets -merge -underBinder +onlyGivenNames y1
  have h2 : State.Good q n y1 := by subst y1; exact State.hayWriteEnd_good g1
  try clear_value y1
  exact State.hayLoop_good h2

/-! ### Zones -/

theorem State.zonOwed_good {x1} {x2} (g1 : State.Good q n x1) :
    State.Good q n (State.zonOwed x1 x2) := by
  delta State.zonOwed
  extract_lets -merge -underBinder +onlyGivenNames y1
  have h4 : State.Good q n y1 := by
    subst y1
    refine good_ite ?_ ?_
    · refine State.zonEntry_good ?_
      refine State.modZone_good ?_ ?_
      · exact g1
      · intro x2 h3
        exact h3.of_eq rfl
    · exact g1
  try clear_value y1
  split
  · exact h4
  · refine State.zonEntry_good ?_
    refine State.modZone_good ?_ ?_
    · exact h4
    · intro x5 h6
      exact h6.of_eq rfl

theorem State.zonUnoccupied_good {x1} {x2} (g1 : State.Good q n x1) :
    State.Good q n (State.zonUnoccupied x1 x2) := by
  delta State.zonUnoccupied
  split
  · exact g1
  · refine good_ite ?_ ?_
    · exact State.zonEntry_good (State.wr_good g1)
    · exact g1

theorem State.zonEnable_good {x1} {x2} (g1 : State.Good q n x1) :
    State.Good q n (State.zonEnable x1 x2) := by
  delta State.zonEnable
  exact State.wr_good g1

theorem State.zonHoldEnd_good {x1} {x2} {x3} (g1 : State.Good q n x1) :
    State.Good q n (State.zonHoldEnd x1 x2 x3) := by
  delta State.zonHoldEnd
  refine good_ite ?_ ?_
  · extract_lets -merge -underBinder +onlyGivenNames y1 y2
    have h3 : State.Good q n y2 := by subst y2; exact State.wrs_good g1
    try clear_value y2
    refine State.zonEntry_good ?_
    refine State.modZone_good ?_ ?_
    · exact h3
    · intro x4 h5
      exact h5.of_eq rfl
  · exact g1

theorem State.zonWindowOpen_good {x1} {x2} {x3} (g1 : State.Good q n x1) :
    State.Good q n (State.zonWindowOpen x1 x2 x3) := by
  delta State.zonWindowOpen
  refine good_ite ?_ ?_
  · exact g1
  · extract_lets -merge -underBinder +onlyGivenNames y1
    have h4 : State.Good q n y1 := by
      subst y1
      refine State.modZone_good ?_ ?_
      · exact State.wr_good g1
      · intro x2 h3
        exact h3.of_eq rfl
    try clear_value y1
    exact State.zonEntry_good h4

theorem zoneKept_good {x1} (g1 : Zone.Good x1) :
    Zone.Good (zoneKept x1) := by
  delta zoneKept
  exact g1.of_eq rfl

theorem State.zonOccupancy_good {x1} {x2} (g1 : State.Good q n x1) :
    State.Good q n (State.zonOccupancy x1 x2) := by
  delta State.zonOccupancy
  extract_lets -merge -underBinder +onlyGivenNames y1 y2 y3
  have h6 : State.Good q n y3 := by
    subst y3
    refine State.modZone_good ?_ ?_
    · exact g1
    · intro x4 h5
      exact h5.of_eq rfl
  try clear_value y3
  extract_lets -merge -underBinder +onlyGivenNames y7
  have h8 : State.Good q n y7 := by
    subst y7
    refine good_ite ?_ ?_
    · exact State.wr_good h6
    · exact h6
  try clear_value y7
  refine good_ite ?_ ?_
  · refine good_ite ?_ ?_
    · exact h8
    · exact State.zonEntry_good (State.wr_good h8)
  · exact State.zonUnoccupied_good h8

theorem State.zonDays_good {x1} {x2} (g1 : State.Good q n x1) :
    State.Good q n (State.zonDays x1 x2) := by
  delta State.zonDays
  refine State.modZone_good ?_ ?_
  · exact g1
  · intro x1 h2
    exact h2.of_eq rfl

theorem State.zonWindowClose_good {x1} {x2} {x3} (g1 : State.Good q n x1) :
    State.Good q n (State.zonWindowClose x1 x2 x3) := by
  delta State.zonWindowClose
  refine good_ite ?_ ?_
  · extract_lets -merge -underBinder +onlyGivenNames y1 y2
    have h5 : State.Good q n y2 := by
      subst y2
      refine State.modZone_good ?_ ?_
      · exact State.wr_good g1
      · intro x3 h4
        exact h4.of_eq rfl
    try clear_value y2
    exact State.zonEntry_good h5
  · exact g1

theorem State.zonHoldTake_good {x1} {x2} {x3} (g1 : State.Good q n x1) :
    State.Good q n (State.zonHoldTake x1 x2 x3) := by
  delta State.zonHoldTake
  split
  · exact g1
  · extract_lets -merge -underBinder +onlyGivenNames y1
    have h4 : State.Good q n y1 := by
      subst y1
      refine State.modZone_good ?_ ?_
      · exact g1
      · intro x2 h3
        exact h3.of_eq rfl
    try clear_value y1
    refine good_ite ?_ ?_
    · exact State.zonHoldEnd_good h4
    · extract_lets -merge -underBinder +onlyGivenNames y5
      have h6 : State.Good q n y5 := by subst y5; exact State.wrs_good h4
      try clear_value y5
      refine State.modZone_good ?_ ?_
      · exact h6
      · intro x7 h8
        exact h8.of_eq rfl

theorem State.zonWindowExpire_good {x1} {x2} (g1 : State.Good q n x1) :
    State.Good q n (State.zonWindowExpire x1 x2) := by
  delta State.zonWindowExpire
  refine good_ite ?_ ?_
  · exact State.zonWindowClose_good g1
  · exact g1

theorem State.zonPi_good {x1} {x2} (g1 : State.Good q n x1) :
    State.Good q n (State.zonPi x1 x2) := by
  delta State.zonPi
  extract_lets -merge -underBinder +onlyGivenNames y1
  have h4 : State.Good q n y1 := by
    subst y1
    refine good_ite ?_ ?_
    · refine State.modZone_good ?_ ?_
      · exact State.wr_good g1
      · intro x2 h3
        exact h3.of_eq rfl
    · exact g1
  try clear_value y1
  refine good_ite ?_ ?_
  · extract_lets -merge -underBinder +onlyGivenNames y5
    exact State.wrs_good h4
  · exact h4

theorem State.zonSkip_good {x1} {x2} (g1 : State.Good q n x1) :
    State.Good q n (State.zonSkip x1 x2) := by
  delta State.zonSkip
  refine good_ite ?_ ?_
  · exact State.zonEntry_good g1
  · exact g1

theorem State.zonDisable_good {x1} {x2} (g1 : State.Good q n x1) :
    State.Good q n (State.zonDisable x1 x2) := by
  delta State.zonDisable
  extract_lets -merge -underBinder +onlyGivenNames y1
  have h2 : State.Good q n y1 := by subst y1; exact State.zonWindowClose_good (State.zonHoldEnd_good g1)
  try clear_value y1
  extract_lets -merge -underBinder +onlyGivenNames y3
  have h4 : State.Good q n y3 := by subst y3; exact State.clearAttr_good (State.clearAttr_good (State.clearAttr_good h2))
  try clear_value y3
  refine State.modZone_good ?_ ?_
  · exact h4
  · intro x5 h6
    exact zoneKept_good h6

theorem State.zonSetpoint_good {x1} {x2} {x3} {x4} (g1 : State.Good q n x1) :
    State.Good q n (State.zonSetpoint x1 x2 x3 x4) := by
  delta State.zonSetpoint
  extract_lets -merge -underBinder +onlyGivenNames y1 y2
  have h3 : State.Good q n y2 := by subst y2; exact State.wrs_good g1
  try clear_value y2
  refine good_ite ?_ ?_
  · exact h3
  · exact State.zonEntry_good h3

theorem State.zonWindowRun_good {s k} (h : State.Good q n s) : State.Good q n (State.zonWindowRun s k) := by
  unfold State.zonWindowRun
  extract_lets -merge -underBinder +onlyGivenNames y1 cmd y2 y3 y4
  have h1 : State.Good q n y1 := State.zonWindowExpire_good h
  clear_value y1
  have h2 : State.Good q n y2 := State.modZone_good h1 fun _ hx => hx.of_eq rfl
  clear_value y2 cmd
  have h3 : State.Good q n y3 := by
    subst y3
    rcases cmd with _ | _ | _
    · exact h2
    · exact State.zonWindowClose_good h2
    · exact State.zonWindowOpen_good h2
  clear_value y3
  have h4 : State.Good q n y4 := good_ite (State.zonWindowOpen_good h3) h3
  clear_value y4
  exact good_ite (State.modZone_good h4 fun _ hx => hx.of_eq rfl) h4

theorem State.zonHook_good {x1} {x2} {x3} (g1 : State.Good q n x1) :
    State.Good q n (State.zonHook x1 x2 x3) := by
  delta State.zonHook
  refine good_ite ?_ ?_
  · refine State.each_good ?_ ?_
    · exact g1
    · intro x1 x3 h2
      refine good_ite ?_ ?_
      · exact State.zonDisable_good h2
      · refine good_ite ?_ ?_
        · exact State.zonEnable_good h2
        · exact h2
  · refine good_ite ?_ ?_
    · exact State.wr_good g1
    · exact g1

theorem State.heatCall_good {x1} (g1 : State.Good q n x1) :
    State.Good q n (State.heatCall x1) := by
  delta State.heatCall
  extract_lets -merge -underBinder +onlyGivenNames y1 y2 y3 y4 y5 y6 y7
  exact State.wrs_good g1

theorem State.zonSvc_good {x1} (g1 : State.Good q n x1) :
    State.Good q n (State.zonSvc x1) := by
  delta State.zonSvc
  refine State.each_good ?_ ?_
  · exact g1
  · intro x1 x3 h2
    exact State.zonGap_good h2

theorem State.zonValid_good {x1} {x2} {x3} (g1 : State.Good q n x1) :
    State.Good q n (State.zonValid x1 x2 x3) := by
  delta State.zonValid
  extract_lets -merge -underBinder +onlyGivenNames y1 y2 y3
  have h6 : State.Good q n y3 := by
    subst y3
    refine State.modZone_good ?_ ?_
    · exact g1
    · intro x4 h5
      exact h5.of_eq rfl
  try clear_value y3
  extract_lets -merge -underBinder +onlyGivenNames y7 y8
  have h9 : State.Good q n y8 := by subst y8; exact State.wrs_good h6
  try clear_value y8
  refine good_ite ?_ ?_
  · exact State.zonEntry_good (State.wr_good h9)
  · exact h9

theorem State.zonStage_good {x1} (g1 : State.Good q n x1) :
    State.Good q n (State.zonStage x1) := by
  delta State.zonStage
  extract_lets -merge -underBinder +onlyGivenNames y1
  have h5 : State.Good q n y1 := by
    subst y1
    refine State.each_good ?_ ?_
    · exact g1
    · intro x2 x4 h3
      refine good_ite ?_ ?_
      · exact State.wr_good h3
      · exact h3
  try clear_value y1
  extract_lets -merge -underBinder +onlyGivenNames y6
  refine good_ite ?_ ?_
  · exact State.wrs_good h5
  · exact h5

theorem State.zonArbitrate_good {x1} {x2} (g1 : State.Good q n x1) :
    State.Good q n (State.zonArbitrate x1 x2) := by
  delta State.zonArbitrate
  extract_lets -merge -underBinder +onlyGivenNames y1 y2 y3 y4 y5 y6 y7
  have h8 : State.Good q n y7 := by subst y7; exact State.wrs_good g1
  try clear_value y7
  extract_lets -merge -underBinder +onlyGivenNames y9 y10
  have h11 : State.Good q n y10 := by subst y10; exact State.zonSetpoint_good h8
  try clear_value y10
  refine good_ite ?_ ?_
  · exact State.zonEntry_good h11
  · exact h11

theorem State.zonHoldExpire_good {x1} {x2} (g1 : State.Good q n x1) :
    State.Good q n (State.zonHoldExpire x1 x2) := by
  delta State.zonHoldExpire
  refine good_ite ?_ ?_
  · exact State.zonHoldEnd_good g1
  · exact g1

theorem State.zonSensorLost_good {x1} {x2} (g1 : State.Good q n x1) :
    State.Good q n (State.zonSensorLost x1 x2) := by
  delta State.zonSensorLost
  refine good_ite ?_ ?_
  · extract_lets -merge -underBinder +onlyGivenNames y1 y2
    have h3 : State.Good q n y2 := by subst y2; exact State.wrs_good g1
    try clear_value y2
    extract_lets -merge -underBinder +onlyGivenNames y4
    exact State.fault_good (State.zonEntry_good h3)
  · exact g1

theorem State.zonHoldRun_good {x1} {x2} (g1 : State.Good q n x1) :
    State.Good q n (State.zonHoldRun x1 x2) := by
  delta State.zonHoldRun
  extract_lets -merge -underBinder +onlyGivenNames y1 y2
  have h3 : State.Good q n y2 := by subst y2; exact State.zonHoldExpire_good g1
  try clear_value y2
  extract_lets -merge -underBinder +onlyGivenNames y4
  have h5 : State.Good q n y4 := by
    subst y4
    refine good_ite ?_ ?_
    · exact State.zonHoldEnd_good h3
    · exact h3
  try clear_value y4
  exact State.zonHoldTake_good h5

theorem State.zonInvalid_good {x1} {x2} (g1 : State.Good q n x1) :
    State.Good q n (State.zonInvalid x1 x2) := by
  delta State.zonInvalid
  extract_lets -merge -underBinder +onlyGivenNames y1
  have h4 : State.Good q n y1 := by
    subst y1
    refine State.modZone_good ?_ ?_
    · exact State.wr_good g1
    · intro x2 h3
      exact h3.of_eq rfl
  try clear_value y1
  exact State.zonSensorLost_good h4

theorem State.zonSampleRun_good {x1} {x2} (g1 : State.Good q n x1) :
    State.Good q n (State.zonSampleRun x1 x2) := by
  delta State.zonSampleRun
  extract_lets -merge -underBinder +onlyGivenNames y1
  try clear_value y1
  extract_lets -merge -underBinder +onlyGivenNames y2
  have h5 : State.Good q n y2 := by
    subst y2
    refine good_ite ?_ ?_
    · exact g1
    · refine State.modZone_good ?_ ?_
      · exact g1
      · intro x3 h4
        exact h4.of_eq rfl
  try clear_value y2
  extract_lets -merge -underBinder +onlyGivenNames y6
  have h7 : State.Good q n y6 := by
    subst y6
    split
    · exact State.wr_good h5
    · exact State.wrs_good h5
  try clear_value y6
  split
  · exact State.zonInvalid_good h7
  · exact State.zonValid_good h7

theorem State.zonLimp_good {x1} {x2} (g1 : State.Good q n x1) :
    State.Good q n (State.zonLimp x1 x2) := by
  delta State.zonLimp
  extract_lets -merge -underBinder +onlyGivenNames y1 y2
  have h3 : State.Good q n y2 := by subst y2; exact State.zonSetpoint_good g1
  try clear_value y2
  refine good_ite ?_ ?_
  · extract_lets -merge -underBinder +onlyGivenNames y4
    have h5 : State.Good q n y4 := by subst y4; exact State.zonSampleRun_good h3
    try clear_value y4
    extract_lets -merge -underBinder +onlyGivenNames y6
    refine good_ite ?_ ?_
    · refine good_ite ?_ ?_
      · exact State.wr_good h5
      · refine good_ite ?_ ?_
        · exact State.wr_good h5
        · exact h5
    · exact h5
  · exact State.wr_good h3

theorem State.zonLoop_good {x1} {x2} (g1 : State.Good q n x1) :
    State.Good q n (State.zonLoop x1 x2) := by
  delta State.zonLoop
  extract_lets -merge -underBinder +onlyGivenNames y1
  have h2 : State.Good q n y1 := by subst y1; exact State.zonDays_good (State.zonOwed_good (State.zonGap_good g1))
  try clear_value y1
  extract_lets -merge -underBinder +onlyGivenNames y3
  have h4 : State.Good q n y3 := by
    subst y3
    refine good_ite ?_ ?_
    · exact State.zonLimp_good h2
    · exact State.zonPi_good (State.zonArbitrate_good (State.zonOccupancy_good (State.zonHoldRun_good (State.zonWindowRun_good (State.zonSampleRun_good h2)))))
  try clear_value y3
  extract_lets -merge -underBinder +onlyGivenNames y5
  have h6 : State.Good q n y5 := by
    subst y5
    refine good_ite ?_ ?_
    · exact State.wr_good h4
    · exact g1
  try clear_value y5
  exact State.heatCall_good h6

/-! ### Command -/

theorem State.checked_good {x1} {x2} {x3} {x4} (g1 : State.Good q n x1) (g4 : ∀ z1, State.Good q n z1 → State.Good q n (x4 z1)) :
    State.Good q n (State.checked x1 x2 x3 x4) := by
  delta State.checked
  refine good_ite ?_ ?_
  · refine g4 _ ?_
    exact g1
  · exact State.finish_good g1

theorem State.begin_good {x1} {x2} {x3} (g1 : State.Good q n x1) :
    State.Good q n (State.begin x1 x2 x3).2 := by
  delta State.begin
  refine good_mk_snd ?_
  refine State.modChan_good ?_ ?_
  · exact g1
  · intro x1 h2
    exact h2.of_eq rfl rfl

theorem State.command_good {x1} {x2} {x3} {x4} (g1 : State.Good q n x1) (g4 : ∀ z1 z2 z3, State.Good q n z1 → State.Good q n (x4 z1 z2 z3)) :
    State.Good q n (State.command x1 x2 x3 x4) := by
  delta State.command
  extract_lets -merge -underBinder +onlyGivenNames y1
  have h2 : State.Good q n y1.2 := by subst y1; exact State.begin_good g1
  try clear_value y1
  refine g4 _ _ _ ?_
  exact h2

theorem State.saveFirmware_good {x1} {x2} (g1 : State.Good q n x1) :
    State.Good q n (State.saveFirmware x1 x2) := by
  delta State.saveFirmware
  exact State.hayAsk_good g1

theorem State.saveObjects_good {x1} {x2} {x3} (g1 : State.Good q n x1) :
    State.Good q n (State.saveObjects x1 x2 x3) := by
  delta State.saveObjects
  refine good_ite ?_ ?_
  · exact State.ok_good g1
  · exact State.hayAsk_good (State.accepted_good g1)

/-! ### Pwm -/

theorem State.pwmStop_good {x1} (g1 : State.Good q n x1) :
    State.Good q n (State.pwmStop x1) := by
  delta State.pwmStop
  exact g1.of_eq rfl rfl rfl rfl rfl rfl rfl rfl rfl rfl rfl

theorem State.cfgCheck_good {x1} {x2} (g1 : State.Good q n x1) :
    State.Good q n (State.cfgCheck x1 x2) := by
  delta State.cfgCheck
  extract_lets -merge -underBinder +onlyGivenNames y1
  refine State.each_good ?_ ?_
  · exact State.wrB_good g1
  · intro x2 x4 h3
    exact State.wrB_good h3

theorem State.pwmNote_good {x1} {x2} {x3} {x4} {x5} (g1 : State.Good q n x1) :
    State.Good q n (State.pwmNote x1 x2 x3 x4 x5) := by
  delta State.pwmNote
  exact State.event_good g1

theorem State.ksTest_good {x1} (g1 : State.Good q n x1) :
    State.Good q n (State.ksTest x1) := by
  delta State.ksTest
  refine State.when_good ?_ ?_
  · exact g1
  · intro x1 h2
    exact State.wr_good h2

theorem State.valvesRestart_good {x1} {x2} (g1 : State.Good q n x1) :
    State.Good q n (State.valvesRestart x1 x2) := by
  delta State.valvesRestart
  refine good_ite ?_ ?_
  · refine State.each_good ?_ ?_
    · exact g1
    · intro x1 x3 h2
      refine good_ite ?_ ?_
      · extract_lets -merge -underBinder +onlyGivenNames y4 y5
        have h6 : State.Good q n y5 := by subst y5; exact State.wrs_good h2
        try clear_value y5
        exact h6.of_eq rfl rfl rfl rfl rfl rfl rfl rfl rfl rfl rfl
      · exact h2
  · exact g1

theorem State.pwmFlag_good {x1} {x2} {x3} (g1 : State.Good q n x1) :
    State.Good q n (State.pwmFlag x1 x2 x3) := by
  delta State.pwmFlag
  extract_lets -merge -underBinder +onlyGivenNames y1
  have h2 : State.Good q n y1 := by subst y1; exact State.wr_good g1
  try clear_value y1
  refine good_ite ?_ ?_
  · exact h2.of_eq rfl rfl rfl rfl rfl rfl rfl rfl rfl rfl rfl
  · exact h2

theorem State.strobe_good {x1} {x2} (g1 : State.Good q n x1) :
    State.Good q n (State.strobe x1 x2) := by
  delta State.strobe
  exact State.wr_good g1

theorem State.modGrp_good {x1} {x2} {x3} (g1 : State.Good q n x1) :
    State.Good q n (State.modGrp x1 x2 x3) := by
  delta State.modGrp
  exact g1.of_eq rfl rfl rfl rfl rfl rfl rfl rfl rfl rfl rfl

theorem State.pwmRestart_good {x1} (g1 : State.Good q n x1) :
    State.Good q n (State.pwmRestart x1) := by
  delta State.pwmRestart
  refine good_ite ?_ ?_
  · refine State.each_good ?_ ?_
    · exact g1.of_eq rfl rfl rfl rfl rfl rfl rfl rfl rfl rfl rfl
    · intro x1 x3 h2
      exact State.modGrp_good h2
  · exact g1

theorem State.modPch_good {x1} {x2} {x3} (g1 : State.Good q n x1) :
    State.Good q n (State.modPch x1 x2 x3) := by
  delta State.modPch
  exact g1.of_eq rfl rfl rfl rfl rfl rfl rfl rfl rfl rfl rfl

theorem State.unlatch_good {x1} {x2} (g1 : State.Good q n x1) :
    State.Good q n (State.unlatch x1 x2) := by
  delta State.unlatch
  extract_lets -merge -underBinder +onlyGivenNames y1
  have h2 : State.Good q n y1 := by subst y1; exact State.wrs_good g1
  try clear_value y1
  extract_lets -merge -underBinder +onlyGivenNames y3
  have h4 : State.Good q n y3 := by subst y3; exact State.modPch_good h2
  try clear_value y3
  exact h4.of_eq rfl rfl rfl rfl rfl rfl rfl rfl rfl rfl rfl

theorem State.latchOff_good {x1} {x2} {x3} (g1 : State.Good q n x1) :
    State.Good q n (State.latchOff x1 x2 x3) := by
  delta State.latchOff
  refine good_ite ?_ ?_
  · exact g1
  · exact State.pwmNote_good (State.wrs_good g1)

theorem State.copyChannel_good {x1} {x2} (g1 : State.Good q n x1) :
    State.Good q n (State.copyChannel x1 x2) := by
  delta State.copyChannel
  extract_lets -merge -underBinder +onlyGivenNames y1
  have h2 : State.Good q n y1 := by subst y1; exact State.wrs_good g1
  try clear_value y1
  extract_lets -merge -underBinder +onlyGivenNames y3
  have h4 : State.Good q n y3 := by subst y3; exact State.modPch_good h2
  try clear_value y3
  refine good_ite ?_ ?_
  · exact h4.of_eq rfl rfl rfl rfl rfl rfl rfl rfl rfl rfl rfl
  · exact h4

theorem State.grpDisable_good {x1} {x2} (g1 : State.Good q n x1) :
    State.Good q n (State.grpDisable x1 x2) := by
  delta State.grpDisable
  refine good_ite ?_ ?_
  · exact State.ksTest_good (State.modGrp_good (State.wr_good g1))
  · exact g1

theorem State.copyGroup_good {x1} {x2} (g1 : State.Good q n x1) :
    State.Good q n (State.copyGroup x1 x2) := by
  delta State.copyGroup
  exact State.modGrp_good (State.wr_good g1)

theorem State.swapLine_good {x1} {x2} (g1 : State.Good q n x1) :
    State.Good q n (State.swapLine x1 x2) := by
  delta State.swapLine
  split
  · exact g1
  · exact State.modGrp_good (State.wr_good g1)

theorem State.copies_good {x1} {x2} {x3} (g1 : State.Good q n x1) :
    State.Good q n (State.copies x1 x2 x3) := by
  delta State.copies
  extract_lets -merge -underBinder +onlyGivenNames y1 y2 y3
  have h4 : State.Good q n y3 := by
    subst y3
    refine good_ite ?_ ?_
    · exact State.copyGroup_good g1
    · exact g1
  try clear_value y3
  extract_lets -merge -underBinder +onlyGivenNames y5
  have h9 : State.Good q n y5 := by
    subst y5
    refine State.each_good ?_ ?_
    · exact h4
    · intro x6 x8 h7
      refine good_ite ?_ ?_
      · exact State.copyChannel_good h7
      · exact h7
  try clear_value y5
  refine State.cfgCheck_good ?_
  refine good_ite ?_ ?_
  · exact State.wr_good h9
  · exact h9

theorem State.cutPeriod_good {x1} {x2} (g1 : State.Good q n x1) :
    State.Good q n (State.cutPeriod x1 x2) := by
  delta State.cutPeriod
  refine good_ite ?_ ?_
  · exact State.wr_good g1
  · exact State.latchOff_good g1

theorem State.calDone_good {x1} {x2} (g1 : State.Good q n x1) :
    State.Good q n (State.calDone x1 x2) := by
  delta State.calDone
  refine good_ite ?_ ?_
  · refine State.each_good ?_ ?_
    · exact g1.of_eq rfl rfl rfl rfl rfl rfl rfl rfl rfl rfl rfl
    · intro x1 x3 h2
      extract_lets -merge -underBinder +onlyGivenNames y4
      refine good_ite ?_ ?_
      · extract_lets -merge -underBinder +onlyGivenNames y5
        have h6 : State.Good q n y5 := by subst y5; exact State.modGrp_good h2
        try clear_value y5
        refine good_ite ?_ ?_
        · exact h6
        · exact State.swapLine_good h6
      · exact State.fault_good (State.pwmNote_good (State.wr_good h2))
  · exact g1

theorem State.cut_good {x1} {x2} (g1 : State.Good q n x1) :
    State.Good q n (State.cut x1 x2) := by
  delta State.cut
  refine good_ite ?_ ?_
  · exact g1
  · exact State.cutPeriod_good (State.wr_good g1)

theorem State.groupFault_good {x1} {x2} (g1 : State.Good q n x1) :
    State.Good q n (State.groupFault x1 x2) := by
  delta State.groupFault
  refine good_ite ?_ ?_
  · exact g1
  · extract_lets -merge -underBinder +onlyGivenNames y1
    have h2 : State.Good q n y1 := by subst y1; exact State.wrs_good g1
    try clear_value y1
    split
    · refine State.each_good ?_ ?_
      · exact State.pwmNote_good h2
      · intro x3 x5 h4
        exact State.cut_good h4
    · refine State.each_good ?_ ?_
      · exact State.pwmNote_good h2
      · intro x6 x8 h7
        exact State.latchOff_good h7
    · exact h2

theorem State.rise_good {x1} {x2} (g1 : State.Good q n x1) :
    State.Good q n (State.rise x1 x2) := by
  delta State.rise
  refine good_ite ?_ ?_
  · extract_lets -merge -underBinder +onlyGivenNames y1
    have h2 : State.Good q n y1 := by
      subst y1
      refine good_ite ?_ ?_
      · exact State.wr_good g1
      · exact State.wr_good g1
    try clear_value y1
    extract_lets -merge -underBinder +onlyGivenNames y3
    have h4 : State.Good q n y3 := by
      subst y3
      refine good_ite ?_ ?_
      · exact State.cut_good h2
      · exact h2
    try clear_value y3
    refine good_ite ?_ ?_
    · exact h4.of_eq rfl rfl rfl rfl rfl rfl rfl rfl rfl rfl rfl
    · exact h4
  · exact g1

theorem State.pass_good {x1} {x2} {x3} {x4} (g1 : State.Good q n x1) :
    State.Good q n (State.pass x1 x2 x3 x4) := by
  delta State.pass
  extract_lets -merge -underBinder +onlyGivenNames y1 y2 y3 y4
  have h5 : State.Good q n y4 := by
    subst y4
    refine good_ite ?_ ?_
    · exact State.pwmFlag_good g1
    · exact g1
  try clear_value y4
  refine State.each_good ?_ ?_
  · exact h5
  · intro x6 x8 h7
    extract_lets -merge -underBinder +onlyGivenNames y9 y10 y11
    have h12 : State.Good q n y11 := by
      subst y11
      refine good_ite ?_ ?_
      · exact State.pwmFlag_good h7
      · exact h7
    try clear_value y11
    extract_lets -merge -underBinder +onlyGivenNames y13
    have h14 : State.Good q n y13 := by
      subst y13
      refine good_ite ?_ ?_
      · exact State.pwmFlag_good h12
      · exact h12
    try clear_value y13
    refine good_ite ?_ ?_
    · exact State.rise_good h14
    · exact h14

theorem State.boundary_good {x1} {x2} {x3} (g1 : State.Good q n x1) :
    State.Good q n (State.boundary x1 x2 x3) := by
  delta State.boundary
  extract_lets -merge -underBinder +onlyGivenNames y1 y2
  have h3 : State.Good q n y2 := by subst y2; exact State.modGrp_good (State.swapLine_good (State.copies_good g1))
  try clear_value y2
  extract_lets -merge -underBinder +onlyGivenNames y4
  have h5 : State.Good q n y4 := by
    subst y4
    refine good_ite ?_ ?_
    · exact State.valvesRestart_good h3
    · exact h3
  try clear_value y4
  extract_lets -merge -underBinder +onlyGivenNames y6
  have h7 : State.Good q n y6 := by subst y6; exact State.pwmFlag_good h5
  try clear_value y6
  extract_lets -merge -underBinder +onlyGivenNames y8
  have h9 : State.Good q n y8 := by subst y8; exact State.count_good h7
  try clear_value y8
  exact State.pass_good h9

theorem State.grpEnable_good {x1} {x2} (g1 : State.Good q n x1) :
    State.Good q n (State.grpEnable x1 x2) := by
  delta State.grpEnable
  refine good_ite ?_ ?_
  · exact g1
  · extract_lets -merge -underBinder +onlyGivenNames y1
    have h2 : State.Good q n y1 := by subst y1; exact State.wr_good g1
    try clear_value y1
    extract_lets -merge -underBinder +onlyGivenNames y3
    have h4 : State.Good q n y3 := by subst y3; exact State.boundary_good h2
    try clear_value y3
    refine good_ite ?_ ?_
    · exact State.valvesRestart_good h4
    · exact h4

theorem State.periods_good {x1} {x2} {x3} (g1 : State.Good q n x1) :
    State.Good q n (State.periods x1 x2 x3) := by
  delta State.periods
  refine good_ite ?_ ?_
  · exact g1
  · extract_lets -merge -underBinder +onlyGivenNames y1
    have h2 : State.Good q n y1 := by subst y1; exact State.modGrp_good (State.count_good g1)
    try clear_value y1
    refine State.each_good ?_ ?_
    · exact h2
    · intro x3 x5 h4
      exact State.pass_good (State.pass_good h4)

theorem State.grpRun_good {x1} {x2} {x3} (g1 : State.Good q n x1) :
    State.Good q n (State.grpRun x1 x2 x3) := by
  delta State.grpRun
  extract_lets -merge -underBinder +onlyGivenNames y1 y2
  refine good_ite ?_ ?_
  · exact State.modGrp_good (State.pass_good g1)
  · extract_lets -merge -underBinder +onlyGivenNames y3
    have h4 : State.Good q n y3 := by subst y3; exact State.boundary_good (State.pass_good g1)
    try clear_value y3
    extract_lets -merge -underBinder +onlyGivenNames y5 y6
    refine good_ite ?_ ?_
    · exact State.count_good h4
    · extract_lets -merge -underBinder +onlyGivenNames y7
      have h8 : State.Good q n y7 := by subst y7; exact State.periods_good h4
      try clear_value y7
      exact State.modGrp_good (State.pass_good h8)

theorem State.pwmSlot_good {x1} (g1 : State.Good q n x1) :
    State.Good q n (State.pwmSlot x1) := by
  delta State.pwmSlot
  refine good_ite ?_ ?_
  · exact g1
  · refine State.each_good ?_ ?_
    · exact g1
    · intro x1 x3 h2
      extract_lets -merge -underBinder +onlyGivenNames y4 y5
      have h6 : State.Good q n y5 := by subst y5; exact State.grpRun_good h2
      try clear_value y5
      refine good_ite ?_ ?_
      · exact State.boundary_good (State.pass_good h6)
      · exact h6

end Sys2Proof.Machine
end

