-- ==== Sys2Proof/Laws/Good2.lean ====
section
/-!
SUPPORT. Sys2Proof/Laws/Good2.lean: the operations of Actuators, PwmCommands, ActuatorCommands, Converters, Transport keep
the queue, the count of slot edges and the invariant.
-/

namespace Sys2Proof.Machine

variable {q : List Instr} {n : Nat}

/-! ### Actuators -/

theorem State.drive_good {x1} {x2} (g1 : State.Good q n x1) :
    State.Good q n (State.drive x1 x2) := by
  delta State.drive
  extract_lets -merge -underBinder +onlyGivenNames y1 y2
  refine good_ite ?_ ?_
  · exact g1
  · exact State.modPch_good (State.wrs_good g1)

theorem State.actNote_good {x1} {x2} {x3} {x4} (g1 : State.Good q n x1) :
    State.Good q n (State.actNote x1 x2 x3 x4) := by
  delta State.actNote
  exact State.note_good g1

theorem State.actPlace_good {x1} {x2} {x3} (g1 : State.Good q n x1) :
    State.Good q n (State.actPlace x1 x2 x3) := by
  delta State.actPlace
  extract_lets -merge -underBinder +onlyGivenNames y1
  refine good_ite ?_ ?_
  · exact State.finish_good g1
  · exact g1.of_eq rfl rfl rfl rfl rfl rfl rfl rfl rfl rfl rfl

theorem State.rampShow_good {x1} {x2} (g1 : State.Good q n x1) :
    State.Good q n (State.rampShow x1 x2) := by
  delta State.rampShow
  extract_lets -merge -underBinder +onlyGivenNames y1 y2
  exact State.wrs_good g1

theorem State.strobes_good {x1} (g1 : State.Good q n x1) :
    State.Good q n (State.strobes x1) := by
  delta State.strobes
  refine State.each_good ?_ ?_
  · exact g1
  · intro x1 x3 h2
    refine good_ite ?_ ?_
    · exact State.strobe_good h2
    · exact h2

theorem State.modRamp_good {x1} {x2} {x3} (g1 : State.Good q n x1) :
    State.Good q n (State.modRamp x1 x2 x3) := by
  delta State.modRamp
  exact g1.of_eq rfl rfl rfl rfl rfl rfl rfl rfl rfl rfl rfl

theorem State.modVgrp_good {x1} {x2} {x3} (g1 : State.Good q n x1) :
    State.Good q n (State.modVgrp x1 x2 x3) := by
  delta State.modVgrp
  exact g1.of_eq rfl rfl rfl rfl rfl rfl rfl rfl rfl rfl rfl

theorem State.modValve_good {x1} {x2} {x3} (g1 : State.Good q n x1) :
    State.Good q n (State.modValve x1 x2 x3) := by
  delta State.modValve
  exact g1.of_eq rfl rfl rfl rfl rfl rfl rfl rfl rfl rfl rfl

theorem State.actTake_good {x1} {x2} (g1 : State.Good q n x1) :
    State.Good q n (State.actTake x1 x2) := by
  delta State.actTake
  extract_lets -merge -underBinder +onlyGivenNames y1
  refine good_ite ?_ ?_
  · exact State.finish_good g1
  · extract_lets -merge -underBinder +onlyGivenNames y2 y3
    have h4 : State.Good q n y3 := by
      subst y3
      refine good_ite ?_ ?_
      · exact State.accepted_good g1
      · exact g1
    try clear_value y3
    exact h4.of_eq rfl rfl rfl rfl rfl rfl rfl rfl rfl rfl rfl

theorem State.forceOff_good {x1} {x2} {x3} (g1 : State.Good q n x1) :
    State.Good q n (State.forceOff x1 x2 x3) := by
  delta State.forceOff
  refine good_ite ?_ ?_
  · extract_lets -merge -underBinder +onlyGivenNames y1 y2
    have h3 : State.Good q n y2 := by subst y2; exact g1.of_eq rfl rfl rfl rfl rfl rfl rfl rfl rfl rfl rfl
    try clear_value y2
    refine good_ite ?_ ?_
    · extract_lets -merge -underBinder +onlyGivenNames y4
      have h8 : State.Good q n y4 := by
        subst y4
        refine State.each_good ?_ ?_
        · exact h3
        · intro x5 x7 h6
          exact State.modRamp_good h6
      try clear_value y4
      refine State.each_good ?_ ?_
      · exact h8
      · intro x9 x11 h10
        refine good_ite ?_ ?_
        · exact State.modGrp_good h10
        · exact State.valvesRestart_good h10
    · exact h3
  · exact g1

theorem State.rampStep_good {x1} {x2} (g1 : State.Good q n x1) :
    State.Good q n (State.rampStep x1 x2) := by
  delta State.rampStep
  extract_lets -merge -underBinder +onlyGivenNames y1
  have h2 : State.Good q n y1 := by
    subst y1
    split
    · exact g1
    · exact State.modRamp_good (State.wr_good g1)
  try clear_value y1
  extract_lets -merge -underBinder +onlyGivenNames y3 y4
  exact State.rampShow_good (State.modRamp_good h2)

theorem State.inrushEnd_good {x1} {x2} (g1 : State.Good q n x1) :
    State.Good q n (State.inrushEnd x1 x2) := by
  delta State.inrushEnd
  refine good_ite ?_ ?_
  · exact State.wr_good g1
  · exact g1

theorem State.modFan_good {x1} {x2} {x3} (g1 : State.Good q n x1) :
    State.Good q n (State.modFan x1 x2 x3) := by
  delta State.modFan
  exact g1.of_eq rfl rfl rfl rfl rfl rfl rfl rfl rfl rfl rfl

theorem State.coastEnd_good {x1} {x2} (g1 : State.Good q n x1) :
    State.Good q n (State.coastEnd x1 x2) := by
  delta State.coastEnd
  refine good_ite ?_ ?_
  · exact State.escEnd_good (State.wrs_good g1)
  · exact g1

theorem State.rampZone_good {x1} {x2} (g1 : State.Good q n x1) :
    State.Good q n (State.rampZone x1 x2) := by
  delta State.rampZone
  split
  · extract_lets -merge -underBinder +onlyGivenNames y1
    refine good_ite ?_ ?_
    · exact State.modRamp_good g1
    · exact g1
  · refine good_ite ?_ ?_
    · exact State.modRamp_good g1
    · exact g1

theorem State.grantOne_good {x1} {x2} (g1 : State.Good q n x1) :
    State.Good q n (State.grantOne x1 x2) := by
  delta State.grantOne
  refine good_ite ?_ ?_
  · exact g1
  · split
    · exact g1
    · exact State.modValve_good (State.wrs_good g1)

theorem State.modBridge_good {x1} {x2} {x3} (g1 : State.Good q n x1) :
    State.Good q n (State.modBridge x1 x2 x3) := by
  delta State.modBridge
  exact g1.of_eq rfl rfl rfl rfl rfl rfl rfl rfl rfl rfl rfl

theorem State.valveWait_good {x1} {x2} (g1 : State.Good q n x1) :
    State.Good q n (State.valveWait x1 x2) := by
  delta State.valveWait
  extract_lets -merge -underBinder +onlyGivenNames y1
  exact State.modValve_good (State.wrs_good g1)

theorem State.recoveryStart_good {x1} {x2} (g1 : State.Good q n x1) :
    State.Good q n (State.recoveryStart x1 x2) := by
  delta State.recoveryStart
  refine good_ite ?_ ?_
  · exact g1
  · exact State.modVgrp_good (State.wrs_good g1)

theorem State.recoveryEnd_good {x1} {x2} {x3} (g1 : State.Good q n x1) :
    State.Good q n (State.recoveryEnd x1 x2 x3) := by
  delta State.recoveryEnd
  refine good_ite ?_ ?_
  · extract_lets -merge -underBinder +onlyGivenNames y1
    try clear_value y1
    extract_lets -merge -underBinder +onlyGivenNames y2
    have h3 : State.Good q n y2 := by subst y2; exact State.actNote_good (State.wr_good g1)
    try clear_value y2
    extract_lets -merge -underBinder +onlyGivenNames y4
    have h5 : State.Good q n y4 := by
      subst y4
      split
      · exact State.wrs_good h3
      · exact State.fault_good (State.actNote_good (State.wr_good h3))
    try clear_value y4
    extract_lets -merge -underBinder +onlyGivenNames y6
    have h7 : State.Good q n y6 := by subst y6; exact State.modVgrp_good h5
    try clear_value y6
    refine good_ite ?_ ?_
    · exact State.fault_good (State.actNote_good (State.grpDisable_good h7))
    · exact h7
  · exact g1

theorem State.rampTo_good {x1} {x2} {x3} {x4} (g1 : State.Good q n x1) :
    State.Good q n (State.rampTo x1 x2 x3 x4) := by
  delta State.rampTo
  extract_lets -merge -underBinder +onlyGivenNames y1 y2
  have h3 : State.Good q n y2 := by subst y2; exact State.modRamp_good g1
  try clear_value y2
  exact State.finish?_good h3

theorem State.bridgeStopped_good {x1} {x2} (g1 : State.Good q n x1) :
    State.Good q n (State.bridgeStopped x1 x2) := by
  delta State.bridgeStopped
  extract_lets -merge -underBinder +onlyGivenNames y1 y2 y3
  have h4 : State.Good q n y3 := by subst y3; exact State.modBridge_good g1
  try clear_value y3
  exact State.escEnd_good (State.wrs_good h4)

theorem State.valveOff_good {x1} {x2} (g1 : State.Good q n x1) :
    State.Good q n (State.valveOff x1 x2) := by
  delta State.valveOff
  exact State.modValve_good (State.wrs_good g1)

theorem State.cycleStart_good {x1} {x2} (g1 : State.Good q n x1) :
    State.Good q n (State.cycleStart x1 x2) := by
  delta State.cycleStart
  extract_lets -merge -underBinder +onlyGivenNames y1 y2 y3 y4 y5
  have h6 : State.Good q n y5 := by subst y5; exact State.modValve_good g1
  try clear_value y5
  refine good_ite ?_ ?_
  · exact State.valveOff_good h6
  · refine good_ite ?_ ?_
    · exact State.valveWait_good h6
    · exact h6

theorem State.actCmd_good {x1} (g1 : State.Good q n x1) :
    State.Good q n (State.actCmd x1) := by
  delta State.actCmd
  refine State.each_good ?_ ?_
  · exact g1.of_eq rfl rfl rfl rfl rfl rfl rfl rfl rfl rfl rfl
  · intro x1 x3 h2
    exact State.actTake_good h2

theorem State.recoveryTick_good {x1} {x2} (g1 : State.Good q n x1) :
    State.Good q n (State.recoveryTick x1 x2) := by
  delta State.recoveryTick
  refine good_ite ?_ ?_
  · extract_lets -merge -underBinder +onlyGivenNames y1 y2
    have h3 : State.Good q n y2 := by subst y2; exact State.modVgrp_good g1
    try clear_value y2
    refine good_ite ?_ ?_
    · exact State.recoveryEnd_good h3
    · refine good_ite ?_ ?_
      · exact State.recoveryEnd_good h3
      · exact State.wr_good h3
  · exact g1

theorem State.bridgeEnd_good {x1} {x2} {x3} (g1 : State.Good q n x1) :
    State.Good q n (State.bridgeEnd x1 x2 x3) := by
  delta State.bridgeEnd
  exact State.finish?_good (State.bridgeStopped_good g1)

theorem State.valveUnlatch_good {x1} {x2} (g1 : State.Good q n x1) :
    State.Good q n (State.valveUnlatch x1 x2) := by
  delta State.valveUnlatch
  extract_lets -merge -underBinder +onlyGivenNames y1
  have h2 : State.Good q n y1 := by subst y1; exact State.unlatch_good g1
  try clear_value y1
  refine good_ite ?_ ?_
  · extract_lets -merge -underBinder +onlyGivenNames y3
    have h4 : State.Good q n y3 := by subst y3; exact State.valvesRestart_good h2
    try clear_value y3
    refine good_ite ?_ ?_
    · exact State.valveWait_good h4
    · exact State.valveOff_good h4
  · exact h2

theorem State.gsnsSlot_good {x1} {x2} (g1 : State.Good q n x1) :
    State.Good q n (State.gsnsSlot x1 x2) := by
  delta State.gsnsSlot
  refine State.each_good ?_ ?_
  · exact g1
  · intro x1 x3 h2
    refine good_ite ?_ ?_
    · extract_lets -merge -underBinder +onlyGivenNames y4
      have h5 : State.Good q n y4 := by
        subst y4
        refine good_ite ?_ ?_
        · exact h2
        · exact State.recoveryStart_good h2
      try clear_value y4
      exact State.modVgrp_good (State.wr_good h5)
    · exact State.modVgrp_good (State.wr_good h2)

theorem State.bridgeMoveEnd_good {x1} {x2} (g1 : State.Good q n x1) :
    State.Good q n (State.bridgeMoveEnd x1 x2) := by
  delta State.bridgeMoveEnd
  refine good_ite ?_ ?_
  · extract_lets -merge -underBinder +onlyGivenNames y1
    have h2 : State.Good q n y1 := by
      subst y1
      refine good_ite ?_ ?_
      · exact State.modBridge_good (State.wrs_good g1)
      · exact g1
    try clear_value y1
    exact State.bridgeEnd_good h2
  · exact g1

theorem State.rampSlot_good {x1} (g1 : State.Good q n x1) :
    State.Good q n (State.rampSlot x1) := by
  delta State.rampSlot
  refine State.each_good ?_ ?_
  · exact g1
  · intro x1 x3 h2
    exact State.rampStep_good h2

theorem State.valveKilled_good {x1} {x2} (g1 : State.Good q n x1) :
    State.Good q n (State.valveKilled x1 x2) := by
  delta State.valveKilled
  exact State.modVgrp_good (State.recoveryStart_good g1)

theorem State.onTimeEnd_good {x1} {x2} (g1 : State.Good q n x1) :
    State.Good q n (State.onTimeEnd x1 x2) := by
  delta State.onTimeEnd
  refine good_ite ?_ ?_
  · exact State.valveOff_good g1
  · exact g1

theorem State.fanStall_good {x1} {x2} (g1 : State.Good q n x1) :
    State.Good q n (State.fanStall x1 x2) := by
  delta State.fanStall
  refine good_ite ?_ ?_
  · extract_lets -merge -underBinder +onlyGivenNames y1
    exact State.fault_good (State.actNote_good (State.wr_good g1))
  · exact g1

theorem State.fanSet_good {x1} {x2} {x3} {x4} (g1 : State.Good q n x1) :
    State.Good q n (State.fanSet x1 x2 x3 x4) := by
  delta State.fanSet
  extract_lets -merge -underBinder +onlyGivenNames y1 y2
  have h3 : State.Good q n y2 := by subst y2; exact State.wrs_good g1
  try clear_value y2
  refine good_ite ?_ ?_
  · exact State.modFan_good h3
  · exact h3

theorem State.inrushTick_good {x1} {x2} (g1 : State.Good q n x1) :
    State.Good q n (State.inrushTick x1 x2) := by
  delta State.inrushTick
  refine good_ite ?_ ?_
  · exact State.inrushEnd_good (State.wr_good g1)
  · exact g1

theorem State.forceEnds_good {x1} {x2} {x3} (g1 : State.Good q n x1) :
    State.Good q n (State.forceEnds x1 x2 x3) := by
  delta State.forceEnds
  extract_lets -merge -underBinder +onlyGivenNames y1
  have h5 : State.Good q n y1 := by
    subst y1
    refine State.each_good ?_ ?_
    · exact g1
    · intro x2 x4 h3
      refine good_ite ?_ ?_
      · exact State.wr_good (State.bridgeEnd_good h3)
      · exact h3
  try clear_value y1
  refine State.each_good ?_ ?_
  · exact h5
  · intro x6 x8 h7
    exact State.finish?_good (State.modRamp_good h7)

theorem State.reversalAdmitted_good {x1} {x2} (g1 : State.Good q n x1) :
    State.Good q n (State.reversalAdmitted x1 x2) := by
  delta State.reversalAdmitted
  exact State.modBridge_good (State.wr_good g1)

theorem State.bridgePos_good {x1} {x2} {x3} (g1 : State.Good q n x1) :
    State.Good q n (State.bridgePos x1 x2 x3) := by
  delta State.bridgePos
  refine good_ite ?_ ?_
  · exact g1
  · extract_lets -merge -underBinder +onlyGivenNames y1 y2 y3
    exact State.modBridge_good (State.wr_good g1)

theorem State.rampArrived_good {x1} {x2} (g1 : State.Good q n x1) :
    State.Good q n (State.rampArrived x1 x2) := by
  delta State.rampArrived
  split
  · refine good_ite ?_ ?_
    · exact State.ok_good (State.modRamp_good g1)
    · exact g1
  · exact g1

theorem State.legLatched_good {x1} {x2} (g1 : State.Good q n x1) :
    State.Good q n (State.legLatched x1 x2) := by
  delta State.legLatched
  refine good_ite ?_ ?_
  · exact State.wrs_good (State.bridgeEnd_good g1)
  · exact g1

theorem State.fanStage_good {x1} {x2} {x3} (g1 : State.Good q n x1) :
    State.Good q n (State.fanStage x1 x2 x3) := by
  delta State.fanStage
  extract_lets -merge -underBinder +onlyGivenNames y1 y2
  have h3 : State.Good q n y2 := by subst y2; exact State.wr_good g1
  try clear_value y2
  extract_lets -merge -underBinder +onlyGivenNames y4
  refine good_ite ?_ ?_
  · exact State.actNote_good (State.modFan_good (State.wr_good h3))
  · refine good_ite ?_ ?_
    · exact State.modFan_good h3
    · refine good_ite ?_ ?_
      · exact State.modFan_good h3
      · exact State.fanStall_good (State.modFan_good h3)

theorem State.reversalFail_good {x1} {x2} (g1 : State.Good q n x1) :
    State.Good q n (State.reversalFail x1 x2) := by
  delta State.reversalFail
  refine good_ite ?_ ?_
  · exact State.fault_good (State.actNote_good (State.bridgeEnd_good g1))
  · exact g1

theorem State.bridgeClear_good {x1} {x2} (g1 : State.Good q n x1) :
    State.Good q n (State.bridgeClear x1 x2) := by
  delta State.bridgeClear
  extract_lets -merge -underBinder +onlyGivenNames y1
  have h2 : State.Good q n y1 := by
    subst y1
    refine good_ite ?_ ?_
    · exact State.bridgeEnd_good g1
    · exact g1
  try clear_value y1
  exact State.wrs_good (State.unlatch_good (State.unlatch_good h2))

theorem State.bridgeStart_good {x1} {x2} {x3} {x4} {x5} {x6} (g1 : State.Good q n x1) :
    State.Good q n (State.bridgeStart x1 x2 x3 x4 x5 x6) := by
  delta State.bridgeStart
  extract_lets -merge -underBinder +onlyGivenNames y1 y2
  have h3 : State.Good q n y2 := by
    subst y2
    refine good_ite ?_ ?_
    · exact State.bridgeEnd_good g1
    · exact g1
  try clear_value y2
  extract_lets -merge -underBinder +onlyGivenNames y4 y5 y6
  have h7 : State.Good q n y6 := by subst y6; exact State.modBridge_good h3
  try clear_value y6
  refine good_ite ?_ ?_
  · extract_lets -merge -underBinder +onlyGivenNames y8
    have h9 : State.Good q n y8 := by subst y8; exact State.wr_good h7
    try clear_value y8
    refine good_ite ?_ ?_
    · exact State.reversalFail_good h9
    · exact State.escAsk_good h9
  · exact State.wrs_good h7

theorem State.valveCycle_good {x1} {x2} (g1 : State.Good q n x1) :
    State.Good q n (State.valveCycle x1 x2) := by
  delta State.valveCycle
  extract_lets -merge -underBinder +onlyGivenNames y1 y2
  have h3 : State.Good q n y2 := by subst y2; exact State.wrs_good g1
  try clear_value y2
  refine good_ite ?_ ?_
  · exact h3
  · refine good_ite ?_ ?_
    · refine good_ite ?_ ?_
      · exact State.modValve_good (State.valveOff_good h3)
      · exact h3
    · refine good_ite ?_ ?_
      · exact State.cycleStart_good h3
      · exact State.onTimeEnd_good h3

theorem State.actApply_good {x1} {x2} (g1 : State.Good q n x1) :
    State.Good q n (State.actApply x1 x2) := by
  delta State.actApply
  extract_lets -merge -underBinder +onlyGivenNames y1
  try clear_value y1
  extract_lets -merge -underBinder +onlyGivenNames y2
  try clear_value y2
  split
  · exact State.ok_good (State.modValve_good g1)
  · split
    · refine State.ok_good ?_
      refine good_ite ?_ ?_
      · exact State.bridgeEnd_good g1
      · exact g1
    · exact State.bridgeStart_good g1
    · exact State.bridgeStart_good g1
    · exact State.bridgeStart_good g1
    · exact State.bridgeStart_good g1
  · exact State.ok_good (State.bridgeClear_good g1)
  · exact State.ok_good (State.fanSet_good g1)
  · refine good_ite ?_ ?_
    · extract_lets -merge -underBinder +onlyGivenNames y3
      have h4 : State.Good q n y3 := by subst y3; exact State.modRamp_good (State.rampTo_good g1)
      try clear_value y3
      exact State.ok_good h4
    · exact State.rampTo_good g1
  · exact State.ok_good (State.wrs_good g1)

theorem State.forceOn_good {x1} {x2} (g1 : State.Good q n x1) :
    State.Good q n (State.forceOn x1 x2) := by
  delta State.forceOn
  refine good_ite ?_ ?_
  · exact g1
  · extract_lets -merge -underBinder +onlyGivenNames y1
    have h2 : State.Good q n y1 := by subst y1; exact State.ksTest_good g1
    try clear_value y1
    extract_lets -merge -underBinder +onlyGivenNames y3 y4
    have h5 : State.Good q n y4 := by subst y4; exact h2.of_eq rfl rfl rfl rfl rfl rfl rfl rfl rfl rfl rfl
    try clear_value y4
    extract_lets -merge -underBinder +onlyGivenNames y6
    have h7 : State.Good q n y6 := by subst y6; exact State.forceEnds_good h5
    try clear_value y6
    refine State.each_good ?_ ?_
    · exact h7
    · intro x8 x10 h9
      extract_lets -merge -underBinder +onlyGivenNames y11
      exact State.modRamp_good (State.wr_good h9)

theorem State.latchSeen_good {s k} (h : State.Good q n s) : State.Good q n (State.latchSeen s k) := by
  unfold State.latchSeen
  refine good_ite ?_ h
  extract_lets -merge -underBinder +onlyGivenNames y1 y2
  have h2 : State.Good q n y2 := h.of_eq rfl rfl rfl rfl rfl rfl rfl rfl rfl rfl rfl
  exact good_ite (State.fault_good (State.actNote_good (good_ite (State.wrs_good (State.wrs_good h2)) (State.wrs_good h2))))
    (good_ite (State.fault_good (State.actNote_good (State.legLatched_good h2))) (good_ite (State.fault_good h2) h2))

theorem State.groupOff_good {x1} {x2} (g1 : State.Good q n x1) :
    State.Good q n (State.groupOff x1 x2) := by
  delta State.groupOff
  extract_lets -merge -underBinder +onlyGivenNames y1 y2
  have h3 : State.Good q n y2 := by subst y2; exact State.grpDisable_good g1
  try clear_value y2
  refine good_ite ?_ ?_
  · exact State.forceEnds_good h3
  · exact h3

theorem State.bridgeZone_good {x1} {x2} {x3} (g1 : State.Good q n x1) :
    State.Good q n (State.bridgeZone x1 x2 x3) := by
  delta State.bridgeZone
  extract_lets -merge -underBinder +onlyGivenNames y1 y2 y3 y4
  refine good_ite ?_ ?_
  · refine good_ite ?_ ?_
    · exact State.bridgeStart_good g1
    · exact g1
  · refine good_ite ?_ ?_
    · refine good_ite ?_ ?_
      · exact g1
      · exact State.bridgeStart_good g1
    · refine good_ite ?_ ?_
      · refine good_ite ?_ ?_
        · exact g1
        · exact State.bridgeStart_good g1
      · extract_lets -merge -underBinder +onlyGivenNames y5
        refine good_ite ?_ ?_
        · exact State.bridgeStart_good g1
        · exact g1

theorem State.bridgeShort_good {x1} {x2} (g1 : State.Good q n x1) :
    State.Good q n (State.bridgeShort x1 x2) := by
  delta State.bridgeShort
  extract_lets -merge -underBinder +onlyGivenNames y1
  have h2 : State.Good q n y1 := by subst y1; exact State.wr_good (State.legLatched_good g1)
  try clear_value y1
  extract_lets -merge -underBinder +onlyGivenNames y3 y4
  have h5 : State.Good q n y4 := by subst y4; exact h2.of_eq rfl rfl rfl rfl rfl rfl rfl rfl rfl rfl rfl
  try clear_value y4
  exact State.fault_good (State.actNote_good h5)

theorem State.bridgeTick_good {x1} {x2} (g1 : State.Good q n x1) :
    State.Good q n (State.bridgeTick x1 x2) := by
  delta State.bridgeTick
  extract_lets -merge -underBinder +onlyGivenNames y1
  try clear_value y1
  extract_lets -merge -underBinder +onlyGivenNames y2
  have h3 : State.Good q n y2 := by
    subst y2
    refine good_ite ?_ ?_
    · exact State.bridgeMoveEnd_good (State.wr_good (State.bridgePos_good g1))
    · refine good_ite ?_ ?_
      · exact State.coastEnd_good (State.modBridge_good g1)
      · refine good_ite ?_ ?_
        · exact State.reversalFail_good g1
        · exact g1
  try clear_value y2
  refine good_ite ?_ ?_
  · split
    · refine good_ite ?_ ?_
      · exact State.bridgeZone_good h3
      · exact h3
    · exact h3
  · exact h3

theorem State.actUpd_good {x1} (g1 : State.Good q n x1) :
    State.Good q n (State.actUpd x1) := by
  delta State.actUpd
  extract_lets -merge -underBinder +onlyGivenNames y1 y2
  have h3 : State.Good q n y2 := by subst y2; exact g1.of_eq rfl rfl rfl rfl rfl rfl rfl rfl rfl rfl rfl
  try clear_value y2
  extract_lets -merge -underBinder +onlyGivenNames y4
  have h11 : State.Good q n y4 := by
    subst y4
    refine State.each_good ?_ ?_
    · refine State.each_good ?_ ?_
      · exact h3
      · intro x5 x7 h6
        exact State.latchSeen_good h6
    · intro x8 x10 h9
      exact State.recoveryTick_good h9
  try clear_value y4
  extract_lets -merge -underBinder +onlyGivenNames y12
  have h16 : State.Good q n y12 := by
    subst y12
    refine State.each_good ?_ ?_
    · exact h11
    · intro x13 x15 h14
      exact State.rampArrived_good h14
  try clear_value y12
  extract_lets -merge -underBinder +onlyGivenNames y17 y18
  have h22 : State.Good q n y18 := by
    subst y18
    refine State.each_good ?_ ?_
    · exact h16.of_eq rfl rfl rfl rfl rfl rfl rfl rfl rfl rfl rfl
    · intro x19 x21 h20
      exact State.actApply_good h20
  try clear_value y18
  extract_lets -merge -underBinder +onlyGivenNames y23
  have h30 : State.Good q n y23 := by
    subst y23
    refine State.each_good ?_ ?_
    · refine State.each_good ?_ ?_
      · exact h22
      · intro x24 x26 h25
        exact State.valveCycle_good h25
    · intro x27 x29 h28
      exact State.inrushTick_good h28
  try clear_value y23
  extract_lets -merge -underBinder +onlyGivenNames y31
  have h35 : State.Good q n y31 := by
    subst y31
    refine State.each_good ?_ ?_
    · exact h30
    · intro x32 x34 h33
      exact State.grantOne_good (State.grantOne_good h33)
  try clear_value y31
  extract_lets -merge -underBinder +onlyGivenNames y36
  have h43 : State.Good q n y36 := by
    subst y36
    refine State.each_good ?_ ?_
    · refine State.each_good ?_ ?_
      · exact h35
      · intro x37 x39 h38
        exact State.bridgeTick_good h38
    · intro x40 x42 h41
      exact State.rampZone_good h41
  try clear_value y36
  refine State.strobes_good ?_
  refine State.each_good ?_ ?_
  · exact h43
  · intro x44 x46 h45
    exact State.drive_good h45

/-! ### PwmCommands -/

theorem execGfltRelease_good {x1} {x2} (g2 : State.Good q n x2) :
    State.GoodOut q n (execGfltRelease x1 x2) := by
  delta execGfltRelease
  exact good_next (State.wr_good g2)

theorem State.pwmHook_good {x1} {x2} (g1 : State.Good q n x1) :
    State.Good q n (State.pwmHook x1 x2) := by
  delta State.pwmHook
  refine good_ite ?_ ?_
  · exact State.modGrp_good g1
  · refine good_ite ?_ ?_
    · exact State.modPch_good g1
    · exact g1

theorem execPwmClockRestart_good {x1} (g1 : State.Good q n x1) :
    State.GoodOut q n (execPwmClockRestart x1) := by
  delta execPwmClockRestart
  exact good_next (State.forceOff_good (State.pwmRestart_good g1))

theorem State.doPwmClrLatch_good {x1} {x2} {x3} (g1 : State.Good q n x1) :
    State.Good q n (State.doPwmClrLatch x1 x2 x3) := by
  delta State.doPwmClrLatch
  extract_lets -merge -underBinder +onlyGivenNames y1 y2
  refine State.checked_good ?_ ?_
  · exact g1
  · intro x3 h4
    refine State.ok_good ?_
    refine State.each_good ?_ ?_
    · exact h4
    · intro x5 x7 h6
      exact State.valveUnlatch_good h6

theorem execPwmClrLatch_good {x1} {x2} (g2 : State.Good q n x2) :
    State.GoodOut q n (execPwmClrLatch x1 x2) := by
  delta execPwmClrLatch
  refine good_next ?_
  refine State.command_good ?_ ?_
  · exact g2
  · intro x1 x3 x4 h2
    exact State.doPwmClrLatch_good h2

theorem execCutLatchOff_good {x1} {x2} (g2 : State.Good q n x2) :
    State.GoodOut q n (execCutLatchOff x1 x2) := by
  delta execCutLatchOff
  refine good_next ?_
  refine good_ite ?_ ?_
  · exact State.latchOff_good g2
  · exact g2

theorem State.doPwmLoadAll_good {x1} {x2} {x3} (g1 : State.Good q n x1) :
    State.Good q n (State.doPwmLoadAll x1 x2 x3) := by
  delta State.doPwmLoadAll
  extract_lets -merge -underBinder +onlyGivenNames y1 y2
  refine State.checked_good ?_ ?_
  · exact g1
  · intro x3 h4
    refine State.ok_good ?_
    refine State.each_good ?_ ?_
    · exact h4
    · intro x5 x7 h6
      exact State.strobe_good h6

theorem execPwmLoadAll_good {x1} {x2} (g2 : State.Good q n x2) :
    State.GoodOut q n (execPwmLoadAll x1 x2) := by
  delta execPwmLoadAll
  refine good_next ?_
  refine State.command_good ?_ ?_
  · exact g2
  · intro x1 x3 x4 h2
    exact State.doPwmLoadAll_good h2

theorem State.kill_good {x1} {x2} {x3} (g1 : State.Good q n x1) :
    State.Good q n (State.kill x1 x2 x3) := by
  delta State.kill
  extract_lets -merge -underBinder +onlyGivenNames y1
  try clear_value y1
  extract_lets -merge -underBinder +onlyGivenNames y2
  have h3 : State.Good q n y2 := by subst y2; exact State.modPch_good (State.latchOff_good g1)
  try clear_value y2
  refine good_ite ?_ ?_
  · exact State.valveKilled_good h3
  · extract_lets -merge -underBinder +onlyGivenNames y4
    try clear_value y4
    split
    · refine good_ite ?_ ?_
      · exact State.bridgeShort_good h3
      · exact State.legLatched_good h3
    · exact State.legLatched_good h3

theorem execDelayLineCalDone_good {x1} {x2} (g2 : State.Good q n x2) :
    State.GoodOut q n (execDelayLineCalDone x1 x2) := by
  delta execDelayLineCalDone
  exact good_next (State.calDone_good g2)

theorem execKillRequest_good {x1} {x2} {x3} (g3 : State.Good q n x3) :
    State.GoodOut q n (execKillRequest x1 x2 x3) := by
  delta execKillRequest
  refine good_next ?_
  refine good_ite ?_ ?_
  · exact State.kill_good g3
  · exact g3

theorem execCutRequest_good {x1} {x2} (g2 : State.Good q n x2) :
    State.GoodOut q n (execCutRequest x1 x2) := by
  delta execCutRequest
  refine good_next ?_
  refine good_ite ?_ ?_
  · exact State.cut_good g2
  · exact g2

theorem execGfltAssert_good {x1} {x2} (g2 : State.Good q n x2) :
    State.GoodOut q n (execGfltAssert x1 x2) := by
  delta execGfltAssert
  exact good_next (State.groupFault_good g2)

theorem State.doPwmGroupCtl_good {x1} {x2} {x3} (g1 : State.Good q n x1) :
    State.Good q n (State.doPwmGroupCtl x1 x2 x3) := by
  delta State.doPwmGroupCtl
  extract_lets -merge -underBinder +onlyGivenNames y1 y2
  refine State.checked_good ?_ ?_
  · exact g1
  · intro x3 h4
    extract_lets -merge -underBinder +onlyGivenNames y5
    have h9 : State.Good q n y5 := by
      subst y5
      refine State.each_good ?_ ?_
      · exact h4
      · intro x6 x8 h7
        exact State.groupOff_good h7
    try clear_value y5
    refine State.ok_good ?_
    refine State.each_good ?_ ?_
    · exact h9
    · intro x10 x12 h11
      exact State.grpEnable_good h11

theorem execPeriodBoundary_good {x1} {x2} (g2 : State.Good q n x2) :
    State.GoodOut q n (execPeriodBoundary x1 x2) := by
  delta execPeriodBoundary
  refine good_next ?_
  refine good_ite ?_ ?_
  · exact State.boundary_good g2
  · exact g2

theorem State.doPwmSync_good {x1} {x2} {x3} (g1 : State.Good q n x1) :
    State.Good q n (State.doPwmSync x1 x2 x3) := by
  delta State.doPwmSync
  extract_lets -merge -underBinder +onlyGivenNames y1 y2
  refine State.checked_good ?_ ?_
  · exact g1
  · intro x3 h4
    refine State.ok_good ?_
    refine State.each_good ?_ ?_
    · exact h4
    · intro x5 x7 h6
      exact State.boundary_good h6

theorem execPwmSync_good {x1} {x2} (g2 : State.Good q n x2) :
    State.GoodOut q n (execPwmSync x1 x2) := by
  delta execPwmSync
  refine good_next ?_
  refine State.command_good ?_ ?_
  · exact g2
  · intro x1 x3 x4 h2
    exact State.doPwmSync_good h2

theorem execPwmGroupCtl_good {x1} {x2} (g2 : State.Good q n x2) :
    State.GoodOut q n (execPwmGroupCtl x1 x2) := by
  delta execPwmGroupCtl
  refine good_next ?_
  refine State.command_good ?_ ?_
  · exact g2
  · intro x1 x3 x4 h2
    exact State.doPwmGroupCtl_good h2

/-! ### ActuatorCommands -/

theorem State.ksStageImage_good {x1} {x2} (g1 : State.Good q n x1) :
    State.Good q n (State.ksStageImage x1 x2) := by
  delta State.ksStageImage
  extract_lets -merge -underBinder +onlyGivenNames y1
  have h2 : State.Good q n y1 := by subst y1; exact State.wr_good g1
  try clear_value y1
  exact h2.of_eq rfl rfl rfl rfl rfl rfl rfl rfl rfl rfl rfl

theorem execReversalCoastEnd_good {x1} {x2} (g2 : State.Good q n x2) :
    State.GoodOut q n (execReversalCoastEnd x1 x2) := by
  delta execReversalCoastEnd
  exact good_next (State.coastEnd_good g2)

theorem execGroupRecoveryEnd_good {x1} {x2} {x3} (g3 : State.Good q n x3) :
    State.GoodOut q n (execGroupRecoveryEnd x1 x2 x3) := by
  delta execGroupRecoveryEnd
  refine good_next ?_
  refine good_ite ?_ ?_
  · exact State.recoveryEnd_good (State.wr_good g3)
  · refine good_ite ?_ ?_
    · exact State.recoveryEnd_good g3
    · exact g3

theorem execRampArrived_good {x1} {x2} (g2 : State.Good q n x2) :
    State.GoodOut q n (execRampArrived x1 x2) := by
  delta execRampArrived
  exact good_next (State.rampArrived_good g2)

theorem execActBrClear_good {x1} {x2} (g2 : State.Good q n x2) :
    State.GoodOut q n (execActBrClear x1 x2) := by
  delta execActBrClear
  refine good_next ?_
  refine State.command_good ?_ ?_
  · exact g2
  · intro x1 x3 x4 h2
    exact State.actPlace_good h2

theorem execBridgeMoveEnd_good {x1} {x2} (g2 : State.Good q n x2) :
    State.GoodOut q n (execBridgeMoveEnd x1 x2) := by
  delta execBridgeMoveEnd
  exact good_next (State.bridgeMoveEnd_good g2)

theorem execActValve_good {x1} {x2} (g2 : State.Good q n x2) :
    State.GoodOut q n (execActValve x1 x2) := by
  delta execActValve
  refine good_next ?_
  refine State.command_good ?_ ?_
  · exact g2
  · intro x1 x3 x4 h2
    exact State.actPlace_good h2

theorem execActKsWrite_good {x1} {x2} (g2 : State.Good q n x2) :
    State.GoodOut q n (execActKsWrite x1 x2) := by
  delta execActKsWrite
  extract_lets -merge -underBinder +onlyGivenNames y1
  refine good_next ?_
  refine good_ite ?_ ?_
  · exact State.ksStageImage_good g2
  · exact g2

theorem execValveCycleStart_good {x1} {x2} (g2 : State.Good q n x2) :
    State.GoodOut q n (execValveCycleStart x1 x2) := by
  delta execValveCycleStart
  extract_lets -merge -underBinder +onlyGivenNames y1
  refine good_next ?_
  refine good_ite ?_ ?_
  · exact State.cycleStart_good (State.wr_good g2)
  · exact g2

theorem execValveOnTimeEnd_good {x1} {x2} (g2 : State.Good q n x2) :
    State.GoodOut q n (execValveOnTimeEnd x1 x2) := by
  delta execValveOnTimeEnd
  exact good_next (State.onTimeEnd_good g2)

theorem execActRamp_good {x1} {x2} (g2 : State.Good q n x2) :
    State.GoodOut q n (execActRamp x1 x2) := by
  delta execActRamp
  refine good_next ?_
  refine State.command_good ?_ ?_
  · exact g2
  · intro x1 x3 x4 h2
    exact State.actPlace_good h2

theorem execInrushEnd_good {x1} {x2} (g2 : State.Good q n x2) :
    State.GoodOut q n (execInrushEnd x1 x2) := by
  delta execInrushEnd
  refine good_next ?_
  refine good_ite ?_ ?_
  · exact State.inrushTick_good g2
  · exact g2

theorem execGroupRecoveryStart_good {x1} {x2} (g2 : State.Good q n x2) :
    State.GoodOut q n (execGroupRecoveryStart x1 x2) := by
  delta execGroupRecoveryStart
  exact good_next (State.modVgrp_good (State.wr_good (State.recoveryStart_good g2)))

theorem execFanStall_good {x1} {x2} (g2 : State.Good q n x2) :
    State.GoodOut q n (execFanStall x1 x2) := by
  delta execFanStall
  exact good_next (State.fanStall_good g2)

theorem execActBrMove_good {x1} {x2} (g2 : State.Good q n x2) :
    State.GoodOut q n (execActBrMove x1 x2) := by
  delta execActBrMove
  refine good_next ?_
  refine State.command_good ?_ ?_
  · exact g2
  · intro x1 x3 x4 h2
    exact State.actPlace_good h2

theorem execActFan_good {x1} {x2} (g2 : State.Good q n x2) :
    State.GoodOut q n (execActFan x1 x2) := by
  delta execActFan
  refine good_next ?_
  refine State.command_good ?_ ?_
  · exact g2
  · intro x1 x3 x4 h2
    exact State.actPlace_good h2

theorem execActAux_good {x1} {x2} (g2 : State.Good q n x2) :
    State.GoodOut q n (execActAux x1 x2) := by
  delta execActAux
  refine good_next ?_
  refine State.command_good ?_ ?_
  · exact g2
  · intro x1 x3 x4 h2
    exact State.actPlace_good h2

theorem State.doActSave_good {x1} {x2} {x3} (g1 : State.Good q n x1) :
    State.Good q n (State.doActSave x1 x2 x3) := by
  delta State.doActSave
  refine State.checked_good ?_ ?_
  · exact g1
  · intro x1 h2
    exact State.saveObjects_good h2

theorem execReversalNotAdmitted_good {x1} {x2} (g2 : State.Good q n x2) :
    State.GoodOut q n (execReversalNotAdmitted x1 x2) := by
  delta execReversalNotAdmitted
  refine good_next ?_
  refine good_ite ?_ ?_
  · exact State.reversalFail_good g2
  · exact g2

theorem execActSave_good {x1} {x2} (g2 : State.Good q n x2) :
    State.GoodOut q n (execActSave x1 x2) := by
  delta execActSave
  refine good_next ?_
  refine State.command_good ?_ ?_
  · exact g2
  · intro x1 x3 x4 h2
    exact State.doActSave_good h2

/-! ### Converters -/

theorem State.modDev_good {x1} {x2} {x3} (g1 : State.Good q n x1) :
    State.Good q n (State.modDev x1 x2 x3) := by
  delta State.modDev
  exact g1.of_eq rfl rfl rfl rfl rfl rfl rfl rfl rfl rfl rfl

theorem State.portsReset_good {x1} (g1 : State.Good q n x1) :
    State.Good q n (State.portsReset x1) := by
  delta State.portsReset
  extract_lets -merge -underBinder +onlyGivenNames y1
  have h5 : State.Good q n y1 := by
    subst y1
    refine State.each_good ?_ ?_
    · exact g1
    · intro x2 x4 h3
      exact State.clearAttr_good h3
  try clear_value y1
  exact h5.of_eq rfl rfl rfl rfl rfl rfl rfl rfl rfl rfl rfl

theorem State.snsNote_good {x1} {x2} {x3} {x4} (g1 : State.Good q n x1) :
    State.Good q n (State.snsNote x1 x2 x3 x4) := by
  delta State.snsNote
  exact State.note_good g1

theorem State.modPort_good {x1} {x2} {x3} (g1 : State.Good q n x1) :
    State.Good q n (State.modPort x1 x2 x3) := by
  delta State.modPort
  exact g1.of_eq rfl rfl rfl rfl rfl rfl rfl rfl rfl rfl rfl

theorem State.postAin_good {x1} {x2} {x3} (g1 : State.Good q n x1) :
    State.Good q n (State.postAin x1 x2 x3) := by
  delta State.postAin
  extract_lets -merge -underBinder +onlyGivenNames y1 y2 y3 y4
  have h5 : State.Good q n y4 := by subst y4; exact State.wrs_good g1
  try clear_value y4
  extract_lets -merge -underBinder +onlyGivenNames y6 y7 y8
  have h9 : State.Good q n y8 := by subst y8; exact h5.of_eq rfl rfl rfl rfl rfl rfl rfl rfl rfl rfl rfl
  try clear_value y8
  refine good_ite ?_ ?_
  · exact State.snsNote_good h9
  · exact h9

theorem State.deviceInvalid_good {x1} {x2} (g1 : State.Good q n x1) :
    State.Good q n (State.deviceInvalid x1 x2) := by
  delta State.deviceInvalid
  refine good_ite ?_ ?_
  · exact State.wr_good g1
  · exact g1

theorem State.portPrepare_good {x1} {x2} (g1 : State.Good q n x1) :
    State.Good q n (State.portPrepare x1 x2) := by
  delta State.portPrepare
  split
  · exact g1
  · exact State.modPort_good (State.modDev_good g1)

theorem State.devGood_good {x1} {x2} (g1 : State.Good q n x1) :
    State.Good q n (State.devGood x1 x2) := by
  delta State.devGood
  extract_lets -merge -underBinder +onlyGivenNames y1 y2
  have h3 : State.Good q n y2 := by subst y2; exact State.modDev_good (State.wrs_good g1)
  try clear_value y2
  refine good_ite ?_ ?_
  · exact State.snsNote_good h3
  · exact h3

theorem State.portFreed_good {x1} {x2} (g1 : State.Good q n x1) :
    State.Good q n (State.portFreed x1 x2) := by
  delta State.portFreed
  refine good_ite ?_ ?_
  · exact State.snsNote_good (State.wr_good g1)
  · exact g1

theorem State.modAdcu_good {x1} {x2} {x3} (g1 : State.Good q n x1) :
    State.Good q n (State.modAdcu x1 x2 x3) := by
  delta State.modAdcu
  exact g1.of_eq rfl rfl rfl rfl rfl rfl rfl rfl rfl rfl rfl

theorem State.devStage_good {x1} (g1 : State.Good q n x1) :
    State.Good q n (State.devStage x1) := by
  delta State.devStage
  refine State.each_good ?_ ?_
  · exact g1
  · intro x1 x3 h2
    exact State.deviceInvalid_good (State.count_good h2)

theorem State.devError_good {x1} {x2} {x3} (g1 : State.Good q n x1) :
    State.Good q n (State.devError x1 x2 x3) := by
  delta State.devError
  extract_lets -merge -underBinder +onlyGivenNames y1 y2
  have h3 : State.Good q n y2 := by subst y2; exact State.modDev_good (State.wr_good g1)
  try clear_value y2
  refine good_ite ?_ ?_
  · exact State.snsNote_good h3
  · exact h3

theorem State.singleStart_good {x1} {x2} (g1 : State.Good q n x1) :
    State.Good q n (State.singleStart x1 x2) := by
  delta State.singleStart
  extract_lets -merge -underBinder +onlyGivenNames y1 y2
  refine good_ite ?_ ?_
  · exact g1
  · refine good_ite ?_ ?_
    · exact State.wr_good g1
    · refine good_ite ?_ ?_
      · exact State.modAdcu_good g1
      · exact State.modAdcu_good g1

theorem State.arrayChunk_good {x1} {x2} {x3} (g1 : State.Good q n x1) :
    State.Good q n (State.arrayChunk x1 x2 x3) := by
  delta State.arrayChunk
  extract_lets -merge -underBinder +onlyGivenNames y1 y2 y3
  have h4 : State.Good q n y3 := by subst y3; exact State.devGood_good g1
  try clear_value y3
  refine good_ite ?_ ?_
  · exact State.modDev_good (State.wrap_good h4)
  · exact State.modDev_good h4

theorem execDeviceInvalid_good {x1} {x2} (g2 : State.Good q n x2) :
    State.GoodOut q n (execDeviceInvalid x1 x2) := by
  delta execDeviceInvalid
  exact good_next (State.deviceInvalid_good g2)

theorem State.adcTick_good {x1} (g1 : State.Good q n x1) :
    State.Good q n (State.adcTick x1) := by
  delta State.adcTick
  refine State.each_good ?_ ?_
  · exact g1
  · intro x1 x3 h2
    exact State.modAdcu_good h2

theorem State.adcRes_good {x1} {x2} (g1 : State.Good q n x1) :
    State.Good q n (State.adcRes x1 x2) := by
  delta State.adcRes
  extract_lets -merge -underBinder +onlyGivenNames y1 y2
  have h3 : State.Good q n y2 := by subst y2; exact State.modAdcu_good g1
  try clear_value y2
  extract_lets -merge -underBinder +onlyGivenNames y4
  have h8 : State.Good q n y4 := by
    subst y4
    refine State.each_good ?_ ?_
    · exact h3
    · intro x5 x7 h6
      exact h6.of_eq rfl rfl rfl rfl rfl rfl rfl rfl rfl rfl rfl
  try clear_value y4
  refine State.each_good ?_ ?_
  · exact h8
  · intro x9 x11 h10
    exact State.postAin_good h10

theorem State.deviceDue_good {x1} {x2} (g1 : State.Good q n x1) :
    State.Good q n (State.deviceDue x1 x2) := by
  delta State.deviceDue
  extract_lets -merge -underBinder +onlyGivenNames y1 y2
  have h3 : State.Good q n y2 := by
    subst y2
    refine good_ite ?_ ?_
    · exact State.count_good g1
    · exact State.modDev_good g1
  try clear_value y2
  exact State.modDev_good h3

theorem execDeviceDue_good {x1} {x2} (g2 : State.Good q n x2) :
    State.GoodOut q n (execDeviceDue x1 x2) := by
  delta execDeviceDue
  refine good_next ?_
  refine good_ite ?_ ?_
  · exact State.deviceDue_good g2
  · exact g2

theorem State.doAdcConvert_good {x1} {x2} {x3} (g1 : State.Good q n x1) :
    State.Good q n (State.doAdcConvert x1 x2 x3) := by
  delta State.doAdcConvert
  extract_lets -merge -underBinder +onlyGivenNames y1
  refine State.checked_good ?_ ?_
  · exact g1
  · intro x2 h3
    extract_lets -merge -underBinder +onlyGivenNames y4
    have h5 : State.Good q n y4 := by subst y4; exact State.singleStart_good h3
    try clear_value y4
    exact h5.of_eq rfl rfl rfl rfl rfl rfl rfl rfl rfl rfl rfl

theorem State.seqGo_good {x1} {x2} (g1 : State.Good q n x1) :
    State.Good q n (State.seqGo x1 x2) := by
  delta State.seqGo
  extract_lets -merge -underBinder +onlyGivenNames y1
  refine good_ite ?_ ?_
  · exact State.snsNote_good (State.wr_good g1)
  · exact State.modAdcu_good (State.wr_good g1)

theorem State.pendStart_good {x1} {x2} (g1 : State.Good q n x1) :
    State.Good q n (State.pendStart x1 x2) := by
  delta State.pendStart
  extract_lets -merge -underBinder +onlyGivenNames y1
  refine good_ite ?_ ?_
  · exact State.modAdcu_good g1
  · exact g1

theorem State.seqStart_good {x1} {x2} (g1 : State.Good q n x1) :
    State.Good q n (State.seqStart x1 x2) := by
  delta State.seqStart
  refine good_ite ?_ ?_
  · exact g1
  · refine good_ite ?_ ?_
    · exact State.fault_good (State.snsNote_good (State.wr_good g1))
    · refine good_ite ?_ ?_
      · exact State.modAdcu_good g1
      · exact State.seqGo_good g1

theorem State.adcHook_good {x1} {x2} {x3} {x4} (g1 : State.Good q n x1) :
    State.Good q n (State.adcHook x1 x2 x3 x4) := by
  delta State.adcHook
  refine good_ite ?_ ?_
  · refine good_ite ?_ ?_
    · exact State.singleStart_good g1
    · exact g1
  · refine good_ite ?_ ?_
    · exact State.modAdcu_good g1
    · refine good_ite ?_ ?_
      · exact State.modDev_good g1
      · exact g1

theorem State.reserveUnits_good {x1} (g1 : State.Good q n x1) :
    State.Good q n (State.reserveUnits x1) := by
  delta State.reserveUnits
  refine State.each_good ?_ ?_
  · exact g1
  · intro x1 x3 h2
    exact State.modAdcu_good h2

theorem State.singleDone_good {x1} {x2} {x3} {x4} {x5} (g1 : State.Good q n x1) :
    State.Good q n (State.singleDone x1 x2 x3 x4 x5) := by
  delta State.singleDone
  split
  · exact g1
  · extract_lets -merge -underBinder +onlyGivenNames y1
    have h2 : State.Good q n y1 := by subst y1; exact State.modAdcu_good g1
    try clear_value y1
    extract_lets -merge -underBinder +onlyGivenNames y3
    have h4 : State.Good q n y3 := by subst y3; exact State.wrs_good h2
    try clear_value y3
    extract_lets -merge -underBinder +onlyGivenNames y5
    have h8 : State.Good q n y5 := by
      subst y5
      split
      · exact h4
      · refine State.ok_good ?_
        extract_lets -merge -underBinder +onlyGivenNames y6
        have h7 : State.Good q n y6 := by subst y6; exact State.wrs_good h4
        try clear_value y6
        exact h7.of_eq rfl rfl rfl rfl rfl rfl rfl rfl rfl rfl rfl
    try clear_value y5
    refine good_ite ?_ ?_
    · exact State.seqGo_good h8
    · exact State.pendStart_good h8

theorem State.portEnd_good {x1} {x2} {x3} {x4} (g1 : State.Good q n x1) :
    State.Good q n (State.portEnd x1 x2 x3 x4) := by
  delta State.portEnd
  split
  · exact g1
  · extract_lets -merge -underBinder +onlyGivenNames y1
    have h2 : State.Good q n y1 := by subst y1; exact State.modPort_good (State.wr_good g1)
    try clear_value y1
    refine good_ite ?_ ?_
    · exact h2
    · exact State.devError_good h2

theorem State.seqResult_good {x1} {x2} {x3} {x4} {x5} {x6} (g1 : State.Good q n x1) :
    State.Good q n (State.seqResult x1 x2 x3 x4 x5 x6) := by
  delta State.seqResult
  extract_lets -merge -underBinder +onlyGivenNames y1 y2 y3
  have h4 : State.Good q n y3 := by subst y3; exact State.wrs_good g1
  try clear_value y3
  extract_lets -merge -underBinder +onlyGivenNames y5
  have h6 : State.Good q n y5 := by subst y5; exact State.modAdcu_good h4
  try clear_value y5
  refine good_ite ?_ ?_
  · exact State.modAdcu_good h6
  · exact State.pendStart_good (State.modAdcu_good (State.wr_good h6))

theorem execAdcConvert_good {x1} {x2} (g2 : State.Good q n x2) :
    State.GoodOut q n (execAdcConvert x1 x2) := by
  delta execAdcConvert
  refine good_next ?_
  refine State.command_good ?_ ?_
  · exact g2
  · intro x1 x3 x4 h2
    exact State.doAdcConvert_good h2

theorem execTransactionEnd_good {x1} {x2} {x3} {x4} (g4 : State.Good q n x4) :
    State.GoodOut q n (execTransactionEnd x1 x2 x3 x4) := by
  delta execTransactionEnd
  exact good_next (State.portEnd_good g4)

theorem State.convEnd_good {x1} {x2} {x3} {x4} {x5} (g1 : State.Good q n x1) :
    State.Good q n (State.convEnd x1 x2 x3 x4 x5) := by
  delta State.convEnd
  split
  · exact State.seqResult_good g1
  · exact State.singleDone_good g1

theorem State.releaseUnits_good {x1} (g1 : State.Good q n x1) :
    State.Good q n (State.releaseUnits x1) := by
  delta State.releaseUnits
  refine State.each_good ?_ ?_
  · exact g1
  · intro x1 x3 h2
    refine good_ite ?_ ?_
    · exact State.pendStart_good (State.modAdcu_good h2)
    · exact h2

theorem execAdcSingleDone_good {x1} {x2} {x3} {x4} {x5} (g5 : State.Good q n x5) :
    State.GoodOut q n (execAdcSingleDone x1 x2 x3 x4 x5) := by
  delta execAdcSingleDone
  exact good_next (State.singleDone_good g5)

theorem State.portTimeout_good {x1} {x2} (g1 : State.Good q n x1) :
    State.Good q n (State.portTimeout x1 x2) := by
  delta State.portTimeout
  exact State.portEnd_good g1

theorem State.adcResLost_good {x1} {x2} (g1 : State.Good q n x1) :
    State.Good q n (State.adcResLost x1 x2) := by
  delta State.adcResLost
  exact State.modAdcu_good g1

theorem State.htResult_good {x1} {x2} {x3} (g1 : State.Good q n x1) :
    State.Good q n (State.htResult x1 x2 x3) := by
  delta State.htResult
  extract_lets -merge -underBinder +onlyGivenNames y1 y2
  refine good_ite ?_ ?_
  · exact State.devError_good g1
  · extract_lets -merge -underBinder +onlyGivenNames y3 y4
    exact State.devGood_good (State.wrs_good g1)

theorem State.adcReset_good {x1} (g1 : State.Good q n x1) :
    State.Good q n (State.adcReset x1) := by
  delta State.adcReset
  extract_lets -merge -underBinder +onlyGivenNames y1 y2 y3
  have h7 : State.Good q n y3 := by
    subst y3
    refine State.each_good ?_ ?_
    · exact g1
    · intro x4 x6 h5
      exact State.clearAttr_good h5
  try clear_value y3
  refine State.finish?_good ?_
  extract_lets -merge -underBinder +onlyGivenNames y8
  have h9 : State.Good q n y8 := by subst y8; exact State.wrB_good h7
  try clear_value y8
  exact h9.of_eq rfl rfl rfl rfl rfl rfl rfl rfl rfl rfl rfl

theorem execAdcSinglePendingStart_good {x1} {x2} (g2 : State.Good q n x2) :
    State.GoodOut q n (execAdcSinglePendingStart x1 x2) := by
  delta execAdcSinglePendingStart
  exact good_next (State.pendStart_good g2)

theorem State.devTick_good {x1} (g1 : State.Good q n x1) :
    State.Good q n (State.devTick x1) := by
  delta State.devTick
  refine good_ite ?_ ?_
  · refine State.each_good ?_ ?_
    · exact g1
    · intro x1 x3 h2
      split
      · exact State.modDev_good h2
      · refine good_ite ?_ ?_
        · exact State.deviceDue_good h2
        · exact h2
  · exact g1

theorem State.portTake_good {x1} {x2} (g1 : State.Good q n x1) :
    State.Good q n (State.portTake x1 x2) := by
  delta State.portTake
  split
  · exact g1
  · extract_lets -merge -underBinder +onlyGivenNames y1
    have h2 : State.Good q n y1 := by subst y1; exact State.modPort_good g1
    try clear_value y1
    extract_lets -merge -underBinder +onlyGivenNames y3
    try clear_value y3
    refine good_ite ?_ ?_
    · exact h2
    · split
      · refine good_ite ?_ ?_
        · exact State.modDev_good h2
        · exact State.htResult_good h2
      · exact State.arrayChunk_good h2
      · extract_lets -merge -underBinder +onlyGivenNames y4
        have h5 : State.Good q n y4 := by subst y4; exact State.devGood_good h2
        try clear_value y4
        refine good_ite ?_ ?_
        · exact h5.of_eq rfl rfl rfl rfl rfl rfl rfl rfl rfl rfl rfl
        · exact h5

theorem execAdcCtlGo_good {x1} {x2} (g2 : State.Good q n x2) :
    State.GoodOut q n (execAdcCtlGo x1 x2) := by
  delta execAdcCtlGo
  exact good_next (State.adcHook_good (State.setRw_good g2))

theorem State.winFire_good {x1} {x2} (g1 : State.Good q n x1) :
    State.Good q n (State.winFire x1 x2) := by
  delta State.winFire
  split
  · exact g1
  · exact State.pendStart_good (State.modAdcu_good (State.wrs_good g1))

theorem State.sptSvc_good {x1} (g1 : State.Good q n x1) :
    State.Good q n (State.sptSvc x1) := by
  delta State.sptSvc
  refine good_ite ?_ ?_
  · refine State.each_good ?_ ?_
    · refine State.each_good ?_ ?_
      · exact g1
      · intro x1 x3 h2
        exact State.portTake_good h2
    · intro x4 x6 h5
      exact State.portPrepare_good h5
  · exact g1

theorem execTransactionTimeout_good {x1} {x2} (g2 : State.Good q n x2) :
    State.GoodOut q n (execTransactionTimeout x1 x2) := by
  delta execTransactionTimeout
  exact good_next (State.portTimeout_good g2)

theorem State.portGo_good {x1} {x2} {x3} {x4} (g1 : State.Good q n x1) :
    State.Good q n (State.portGo x1 x2 x3 x4) := by
  delta State.portGo
  split
  · exact g1
  · extract_lets -merge -underBinder +onlyGivenNames y1
    have h2 : State.Good q n y1 := by subst y1; exact State.modPort_good (State.wr_good g1)
    try clear_value y1
    refine good_ite ?_ ?_
    · refine good_ite ?_ ?_
      · exact State.portFreed_good (State.count_good h2)
      · extract_lets -merge -underBinder +onlyGivenNames y3
        have h4 : State.Good q n y3 := by subst y3; exact State.wr_good (State.portEnd_good h2)
        try clear_value y3
        exact State.fault_good (State.snsNote_good h4)
    · exact State.portFreed_good h2

theorem execAdcConversionEnd_good {x1} {x2} {x3} {x4} {x5} (g5 : State.Good q n x5) :
    State.GoodOut q n (execAdcConversionEnd x1 x2 x3 x4 x5) := by
  delta execAdcConversionEnd
  exact good_next (State.convEnd_good g5)

theorem State.portsGo_good {x1} {x2} {x3} (g1 : State.Good q n x1) :
    State.Good q n (State.portsGo x1 x2 x3) := by
  delta State.portsGo
  refine good_ite ?_ ?_
  · refine State.each_good ?_ ?_
    · exact g1
    · intro x1 x3 h2
      exact State.portGo_good h2
  · exact g1

theorem State.doAdcSave_good {x1} {x2} {x3} (g1 : State.Good q n x1) :
    State.Good q n (State.doAdcSave x1 x2 x3) := by
  delta State.doAdcSave
  refine State.checked_good ?_ ?_
  · exact g1
  · intro x1 h2
    exact State.saveObjects_good h2

theorem execAdcSave_good {x1} {x2} (g2 : State.Good q n x2) :
    State.GoodOut q n (execAdcSave x1 x2) := by
  delta execAdcSave
  refine good_next ?_
  refine State.command_good ?_ ?_
  · exact g2
  · intro x1 x3 x4 h2
    exact State.doAdcSave_good h2

/-! ### Transport -/

theorem State.popOut_good {s ch} (h : State.Good q n s) : State.Good q n (State.popOut s ch) := by
  refine State.modChan_good h fun c hc => refillOut_good ⟨?_, ?_, ?_, hc.2.2.2⟩
  · exact (List.Sublist.filter _ (List.drop_sublist 1 c.outq)).length_le.trans hc.1
  · exact (List.Sublist.filter _ (List.drop_sublist 1 c.outq)).length_le.trans hc.2.1
  · exact (List.Sublist.filter _ (List.drop_sublist 1 c.outq)).length_le.trans hc.2.2.1

theorem State.fillStream_good {s t need rr k} (h : State.Good q n s) : State.Good q n (State.fillStream s t need rr k).1 := by
  induction k generalizing s rr with
  | zero => exact h
  | succ k ih =>
    unfold State.fillStream
    refine good_fst_ite h ?_
    split
    · exact h
    · dsimp only
      split
      · exact h
      · exact ih (State.popOut_good (h.of_eq rfl rfl rfl rfl rfl rfl rfl rfl rfl rfl rfl))

theorem State.rtsUpdate_good {x1} (g1 : State.Good q n x1) :
    State.Good q n (State.rtsUpdate x1) := by
  delta State.rtsUpdate
  refine good_ite ?_ ?_
  · exact g1.of_eq rfl rfl rfl rfl rfl rfl rfl rfl rfl rfl rfl
  · refine good_ite ?_ ?_
    · exact g1.of_eq rfl rfl rfl rfl rfl rfl rfl rfl rfl rfl rfl
    · exact g1

theorem State.takeStream_good {x1} {x2} {x3} {x4} (g1 : State.Good q n x1) :
    State.Good q n (State.takeStream x1 x2 x3 x4).2.1 := by
  delta State.takeStream
  extract_lets -merge -underBinder +onlyGivenNames y1
  have h2 : State.Good q n y1.1 := by subst y1; exact State.fillStream_good g1
  try clear_value y1
  extract_lets -merge -underBinder +onlyGivenNames y3
  refine good_mk_snd_fst ?_
  refine good_mk_fst ?_
  extract_lets -merge -underBinder +onlyGivenNames y4
  have h5 : State.Good q n y4 := by subst y4; exact h2
  try clear_value y4
  exact h5.of_eq rfl rfl rfl rfl rfl rfl rfl rfl rfl rfl rfl

theorem State.setRx_good {x1} {x2} {x3} (g1 : State.Good q n x1) :
    State.Good q n (State.setRx x1 x2 x3) := by
  delta State.setRx
  extract_lets -merge -underBinder +onlyGivenNames y1 y2 y3
  have h4 : State.Good q n y3 := by subst y3; exact g1.of_eq rfl rfl rfl rfl rfl rfl rfl rfl rfl rfl rfl
  try clear_value y3
  refine good_ite ?_ ?_
  · refine State.rtsUpdate_good ?_
    refine State.when_good ?_ ?_
    · exact h4
    · intro x5 h6
      exact h6.of_eq rfl rfl rfl rfl rfl rfl rfl rfl rfl rfl rfl
  · exact h4

theorem State.rxDiscard_good {x1} {x2} (g1 : State.Good q n x1) :
    State.Good q n (State.rxDiscard x1 x2) := by
  delta State.rxDiscard
  extract_lets -merge -underBinder +onlyGivenNames y1
  refine good_ite ?_ ?_
  · exact g1
  · exact State.setRx_good g1

theorem State.rxBytes_good {x1} {x2} {x3} (g1 : State.Good q n x1) :
    State.Good q n (State.rxBytes x1 x2 x3) := by
  delta State.rxBytes
  extract_lets -merge -underBinder +onlyGivenNames y1
  exact State.setRx_good g1

end Sys2Proof.Machine
end

