-- ==== Sys2Proof/Laws/Good3.lean ====
section
/-!
SUPPORT. Sys2Proof/Laws/Good3.lean: the operations of Bus, Stall, Stable keep
the queue, the count of slot edges and the invariant.
-/

namespace Sys2Proof.Machine

variable {q : List Instr} {n : Nat}

/-! ### Bus -/

theorem State.modBus_good {x1} {x2} {x3} (g1 : State.Good q n x1) :
    State.Good q n (State.modBus x1 x2 x3) := by
  delta State.modBus
  exact g1.of_eq rfl rfl rfl rfl rfl rfl rfl rfl rfl rfl rfl

theorem State.remRun_good {x1} (g1 : State.Good q n x1) :
    State.Good q n (State.remRun x1) := by
  delta State.remRun
  extract_lets -merge -underBinder +onlyGivenNames y1
  exact State.wrB_good g1

theorem State.busFrameEnd_good {x1} {x2} {x3} {x4} (g1 : State.Good q n x1) :
    State.Good q n (State.busFrameEnd x1 x2 x3 x4) := by
  delta State.busFrameEnd
  extract_lets -merge -underBinder +onlyGivenNames y1
  refine good_ite ?_ ?_
  · exact State.modBus_good g1
  · exact g1

theorem State.busStart_good {x1} {x2} (g1 : State.Good q n x1) :
    State.Good q n (State.busStart x1 x2) := by
  delta State.busStart
  extract_lets -merge -underBinder +onlyGivenNames y1
  refine good_ite ?_ ?_
  · exact g1
  · exact State.modBus_good (State.wr_good g1)

theorem State.modConn_good {x1} {x2} {x3} (g1 : State.Good q n x1) :
    State.Good q n (State.modConn x1 x2 x3) := by
  delta State.modConn
  exact g1.of_eq rfl rfl rfl rfl rfl rfl rfl rfl rfl rfl rfl

theorem State.gpPdu_good {x1} {x2} (g1 : State.Good q n x1) :
    State.Good q n (State.gpPdu x1 x2).2 := by
  delta State.gpPdu
  extract_lets -merge -underBinder +onlyGivenNames y1 y2 y3 y4 y5
  exact good_mk_snd (State.modConn_good (State.wrs_good g1))

theorem State.gpState_good {x1} {x2} {x3} {x4} (g1 : State.Good q n x1) :
    State.Good q n (State.gpState x1 x2 x3 x4) := by
  delta State.gpState
  extract_lets -merge -underBinder +onlyGivenNames y1 y2
  have h3 : State.Good q n y2 := by subst y2; exact State.wrs_good g1
  try clear_value y2
  extract_lets -merge -underBinder +onlyGivenNames y4
  have h7 : State.Good q n y4 := by
    subst y4
    refine State.when_good ?_ ?_
    · exact h3
    · intro x5 h6
      exact State.wr_good h6
  try clear_value y4
  refine good_ite ?_ ?_
  · exact h7
  · exact State.event_good h7

theorem State.eventOn_good {x1} {x2} {x3} {x4} (g1 : State.Good q n x1) :
    State.Good q n (State.eventOn x1 x2 x3 x4) := by
  delta State.eventOn
  refine State.modChan_good ?_ ?_
  · exact g1
  · intro x1 h2
    exact raiseOn_good h2

theorem State.busRx_good {x1} {x2} {x3} {x4} {x5} {x6} (g1 : State.Good q n x1) :
    State.Good q n (State.busRx x1 x2 x3 x4 x5 x6) := by
  delta State.busRx
  exact State.event_good g1

theorem State.doBusTx_good {x1} {x2} {x3} (g1 : State.Good q n x1) :
    State.Good q n (State.doBusTx x1 x2 x3) := by
  delta State.doBusTx
  extract_lets -merge -underBinder +onlyGivenNames y1 y2 y3 y4 y5 y6
  refine State.checked_good ?_ ?_
  · exact g1
  · intro x7 h8
    exact State.modBus_good h8

theorem State.busTransmit_good {x1} {x2} {x3} {x4} (g1 : State.Good q n x1) :
    State.Good q n (State.busTransmit x1 x2 x3 x4) := by
  delta State.busTransmit
  exact State.modBus_good g1

theorem State.gpFrame_good {x1} {x2} {x3} (g1 : State.Good q n x1) :
    State.Good q n (State.gpFrame x1 x2 x3).2 := by
  delta State.gpFrame
  extract_lets -merge -underBinder +onlyGivenNames y1
  have h2 : State.Good q n y1.2 := by subst y1; exact State.gpPdu_good g1
  try clear_value y1
  refine good_snd_ite ?_ ?_
  · exact good_mk_snd h2
  · exact good_mk_snd h2

theorem State.modbusTimeout_good {x1} {x2} (g1 : State.Good q n x1) :
    State.Good q n (State.modbusTimeout x1 x2) := by
  delta State.modbusTimeout
  split
  · exact g1
  · split
    · exact g1
    · exact State.busRx_good (State.count_good (State.modBus_good g1))

theorem State.modbusNext_good {x1} {x2} (g1 : State.Good q n x1) :
    State.Good q n (State.modbusNext x1 x2) := by
  delta State.modbusNext
  refine good_ite ?_ ?_
  · exact g1
  · split
    · exact g1
    · exact State.busTransmit_good (State.modBus_good g1)
    · extract_lets -merge -underBinder +onlyGivenNames y1
      have h2 : State.Good q n y1 := by subst y1; exact State.modBus_good g1
      try clear_value y1
      refine good_ite ?_ ?_
      · exact h2
      · extract_lets -merge -underBinder +onlyGivenNames y3
        have h4 : State.Good q n y3.2 := by subst y3; exact State.gpFrame_good h2
        try clear_value y3
        exact State.busTransmit_good (State.modBus_good h4)

theorem State.busTxDone_good {x1} {x2} (g1 : State.Good q n x1) :
    State.Good q n (State.busTxDone x1 x2) := by
  delta State.busTxDone
  split
  · exact g1
  · extract_lets -merge -underBinder +onlyGivenNames y1
    exact State.finish?_good (State.modBus_good g1)

theorem State.gpOff_good {x1} {x2} (g1 : State.Good q n x1) :
    State.Good q n (State.gpOff x1 x2) := by
  delta State.gpOff
  exact State.gpState_good (State.modConn_good g1)

theorem State.mstpPoll_good {x1} {x2} {x3} (g1 : State.Good q n x1) :
    State.Good q n (State.mstpPoll x1 x2 x3) := by
  delta State.mstpPoll
  extract_lets -merge -underBinder +onlyGivenNames y1 y2
  refine good_ite ?_ ?_
  · exact State.modBus_good g1
  · exact State.busTransmit_good (State.modBus_good g1)

theorem State.spokeService_good {x1} {x2} {x3} {x4} (g1 : State.Good q n x1) :
    State.Good q n (State.spokeService x1 x2 x3 x4) := by
  delta State.spokeService
  extract_lets -merge -underBinder +onlyGivenNames y1
  refine good_ite ?_ ?_
  · exact g1
  · extract_lets -merge -underBinder +onlyGivenNames y2 y3
    have h4 : State.Good q n y3 := by subst y3; exact State.modBus_good (State.rxBytes_good g1)
    try clear_value y3
    refine good_ite ?_ ?_
    · exact h4
    · extract_lets -merge -underBinder +onlyGivenNames y5
      have h6 : State.Good q n y5.2.1 := by subst y5; exact State.takeStream_good h4
      try clear_value y5
      exact State.busTransmit_good (State.modBus_good h6)

theorem State.gpFail_good {x1} {x2} {x3} (g1 : State.Good q n x1) :
    State.Good q n (State.gpFail x1 x2 x3) := by
  delta State.gpFail
  extract_lets -merge -underBinder +onlyGivenNames y1 y2
  have h3 : State.Good q n y2 := by subst y2; exact State.gpState_good g1
  try clear_value y2
  refine good_ite ?_ ?_
  · exact h3
  · exact State.fault_good h3

theorem State.mstpReply_good {x1} {x2} (g1 : State.Good q n x1) :
    State.Good q n (State.mstpReply x1 x2) := by
  delta State.mstpReply
  refine good_ite ?_ ?_
  · exact g1
  · split
    · exact g1
    · exact State.busTransmit_good (State.modBus_good g1)

theorem State.busPartial_good {x1} {x2} (g1 : State.Good q n x1) :
    State.Good q n (State.busPartial x1 x2) := by
  delta State.busPartial
  refine good_ite ?_ ?_
  · exact State.rxDiscard_good g1
  · exact g1

theorem State.gpAccept_good {x1} {x2} {x3} {x4} {x5} {x6} (g1 : State.Good q n x1) :
    State.Good q n (State.gpAccept x1 x2 x3 x4 x5 x6) := by
  delta State.gpAccept
  extract_lets -merge -underBinder +onlyGivenNames y1
  have h2 : State.Good q n y1 := by subst y1; exact State.modConn_good (State.wrs_good g1)
  try clear_value y1
  exact State.wr_good (State.gpState_good h2)

theorem State.mstpPostpone_good {x1} {x2} (g1 : State.Good q n x1) :
    State.Good q n (State.mstpPostpone x1 x2) := by
  delta State.mstpPostpone
  split
  · exact g1
  · exact State.busTransmit_good (State.modBus_good g1)

theorem State.mstpPass_good {x1} {x2} (g1 : State.Good q n x1) :
    State.Good q n (State.mstpPass x1 x2) := by
  delta State.mstpPass
  split
  · exact State.busTransmit_good (State.modBus_good g1)
  · exact State.mstpPoll_good g1

theorem State.gpStart_good {x1} {x2} (g1 : State.Good q n x1) :
    State.Good q n (State.gpStart x1 x2) := by
  delta State.gpStart
  extract_lets -merge -underBinder +onlyGivenNames y1 y2
  have h3 : State.Good q n y2 := by subst y2; exact State.modConn_good g1
  try clear_value y2
  refine good_ite ?_ ?_
  · exact State.wr_good h3
  · exact State.gpState_good h3

theorem State.golposenSend_good {x1} {x2} (g1 : State.Good q n x1) :
    State.Good q n (State.golposenSend x1 x2) := by
  delta State.golposenSend
  refine good_ite ?_ ?_
  · exact g1
  · extract_lets -merge -underBinder +onlyGivenNames y1 y2
    refine good_ite ?_ ?_
    · extract_lets -merge -underBinder +onlyGivenNames y3
      have h4 : State.Good q n y3.2 := by subst y3; exact State.gpPdu_good g1
      try clear_value y3
      exact State.eventOn_good h4
    · refine good_ite ?_ ?_
      · exact g1
      · refine good_ite ?_ ?_
        · exact State.modConn_good (State.modBus_good g1)
        · refine good_ite ?_ ?_
          · extract_lets -merge -underBinder +onlyGivenNames y5
            have h6 : State.Good q n y5.2 := by subst y5; exact State.gpFrame_good g1
            try clear_value y5
            exact State.modBus_good (State.busTransmit_good h6)
          · exact g1

theorem State.busDiscard_good {x1} {x2} {x3} (g1 : State.Good q n x1) :
    State.Good q n (State.busDiscard x1 x2 x3) := by
  delta State.busDiscard
  extract_lets -merge -underBinder +onlyGivenNames y1
  have h2 : State.Good q n y1 := by subst y1; exact State.modBus_good (State.count_good g1)
  try clear_value y1
  refine good_ite ?_ ?_
  · exact State.fault_good h2
  · exact h2

theorem State.mstpTokenLost_good {x1} {x2} (g1 : State.Good q n x1) :
    State.Good q n (State.mstpTokenLost x1 x2) := by
  delta State.mstpTokenLost
  refine good_ite ?_ ?_
  · exact State.mstpPoll_good (State.modBus_good (State.fault_good (State.count_good g1)))
  · exact g1

theorem State.mstpHold_good {s p k} (h : State.Good q n s) : State.Good q n (State.mstpHold s p k) := by
  induction k generalizing s with
  | zero => exact State.mstpPass_good h
  | succ k ih =>
    unfold State.mstpHold
    split
    · exact ih (State.golposenSend_good h)
    · split
      · exact State.mstpPass_good h
      · exact ih (State.busTransmit_good (State.modBus_good h))

theorem State.busOverflow_good {x1} {x2} (g1 : State.Good q n x1) :
    State.Good q n (State.busOverflow x1 x2) := by
  delta State.busOverflow
  refine good_ite ?_ ?_
  · exact State.fault_good (State.busDiscard_good g1)
  · exact g1

theorem State.busStage_good {x1} (g1 : State.Good q n x1) :
    State.Good q n (State.busStage x1) := by
  delta State.busStage
  extract_lets -merge -underBinder +onlyGivenNames y1
  have h5 : State.Good q n y1 := by
    subst y1
    refine State.each_good ?_ ?_
    · exact g1
    · intro x2 x4 h3
      exact State.modConn_good h3
  try clear_value y1
  refine State.each_good ?_ ?_
  · exact h5
  · intro x6 x8 h7
    exact State.busPartial_good (State.modBus_good h7)

theorem State.busWork_good {x1} {x2} (g1 : State.Good q n x1) :
    State.Good q n (State.busWork x1 x2) := by
  delta State.busWork
  split
  · extract_lets -merge -underBinder +onlyGivenNames y1
    have h2 : State.Good q n y1 := by subst y1; exact State.mstpReply_good g1
    try clear_value y1
    extract_lets -merge -underBinder +onlyGivenNames y3
    have h6 : State.Good q n y3 := by
      subst y3
      refine State.when_good ?_ ?_
      · exact h2
      · intro x4 h5
        exact State.mstpPostpone_good h5
    try clear_value y3
    extract_lets -merge -underBinder +onlyGivenNames y7
    have h8 : State.Good q n y7 := by
      subst y7
      split
      · refine good_ite ?_ ?_
        · exact State.mstpPoll_good h6
        · exact h6
      · exact h6
    try clear_value y7
    refine State.when_good ?_ ?_
    · exact h8
    · intro x9 h10
      exact State.mstpHold_good h10
  · refine State.each_good ?_ ?_
    · exact g1
    · intro x11 x13 h12
      split
      · exact State.busTransmit_good (State.modBus_good h12)
      · exact State.modBus_good h12
  · extract_lets -merge -underBinder +onlyGivenNames y14
    have h17 : State.Good q n y14 := by
      subst y14
      refine State.when_good ?_ ?_
      · exact g1
      · intro x15 h16
        exact State.modbusTimeout_good h16
    try clear_value y14
    extract_lets -merge -underBinder +onlyGivenNames y18
    have h22 : State.Good q n y18 := by
      subst y18
      refine State.each_good ?_ ?_
      · exact h17
      · intro x19 x21 h20
        exact State.golposenSend_good h20
    try clear_value y18
    exact State.modbusNext_good h22

theorem State.doBusGpRestart_good {x1} {x2} {x3} (g1 : State.Good q n x1) :
    State.Good q n (State.doBusGpRestart x1 x2 x3) := by
  delta State.doBusGpRestart
  extract_lets -merge -underBinder +onlyGivenNames y1 y2
  refine State.checked_good ?_ ?_
  · exact g1
  · intro x3 h4
    extract_lets -merge -underBinder +onlyGivenNames y5
    refine State.ok_good ?_
    refine State.each_good ?_ ?_
    · exact h4
    · intro x6 x8 h7
      exact State.gpStart_good h7

theorem State.gpCorrupt_good {x1} {x2} (g1 : State.Good q n x1) :
    State.Good q n (State.gpCorrupt x1 x2) := by
  delta State.gpCorrupt
  extract_lets -merge -underBinder +onlyGivenNames y1
  have h2 : State.Good q n y1 := by subst y1; exact State.modConn_good (State.count_good g1)
  try clear_value y1
  refine good_ite ?_ ?_
  · exact State.gpFail_good h2
  · exact h2

theorem State.busStop_good {x1} {x2} (g1 : State.Good q n x1) :
    State.Good q n (State.busStop x1 x2) := by
  delta State.busStop
  refine good_ite ?_ ?_
  · exact g1
  · extract_lets -merge -underBinder +onlyGivenNames y1 y2
    have h3 : State.Good q n y2 := by subst y2; exact State.modBus_good (State.wr_good g1)
    try clear_value y2
    extract_lets -merge -underBinder +onlyGivenNames y4
    have h8 : State.Good q n y4 := by
      subst y4
      refine State.each_good ?_ ?_
      · exact h3
      · intro x5 x7 h6
        exact State.finish_good h6
    try clear_value y4
    refine State.each_good ?_ ?_
    · exact h8
    · intro x9 x11 h10
      exact State.gpFail_good h10

theorem State.busBoot_good {x1} (g1 : State.Good q n x1) :
    State.Good q n (State.busBoot x1) := by
  delta State.busBoot
  extract_lets -merge -underBinder +onlyGivenNames y1
  have h5 : State.Good q n y1 := by
    subst y1
    refine State.each_good ?_ ?_
    · exact g1
    · intro x2 x4 h3
      exact State.busStart_good h3
  try clear_value y1
  refine State.each_good ?_ ?_
  · exact h5
  · intro x6 x8 h7
    exact State.gpStart_good h7

theorem State.gpJudge_good {x1} {x2} {x3} {x4} (g1 : State.Good q n x1) :
    State.Good q n (State.gpJudge x1 x2 x3 x4) := by
  delta State.gpJudge
  extract_lets -merge -underBinder +onlyGivenNames y1 y2 y3 y4 y5
  refine good_ite ?_ ?_
  · exact g1
  · refine good_ite ?_ ?_
    · exact State.gpFail_good g1
    · refine good_ite ?_ ?_
      · exact State.gpAccept_good g1
      · refine good_ite ?_ ?_
        · exact State.count_good g1
        · refine good_ite ?_ ?_
          · exact State.count_good g1
          · refine good_ite ?_ ?_
            · exact State.gpFail_good g1
            · refine good_ite ?_ ?_
              · exact State.gpFail_good g1
              · refine good_ite ?_ ?_
                · exact State.count_good g1
                · exact State.gpAccept_good (State.count_good g1)

theorem State.busStopAll_good {x1} (g1 : State.Good q n x1) :
    State.Good q n (State.busStopAll x1) := by
  delta State.busStopAll
  refine State.each_good ?_ ?_
  · exact State.busStop_good (State.busStop_good g1)
  · intro x3 x5 h4
    refine State.each_good ?_ ?_
    · exact h4
    · intro x6 x8 h7
      exact State.gpFail_good h7

theorem State.gpWatchdog_good {x1} {x2} (g1 : State.Good q n x1) :
    State.Good q n (State.gpWatchdog x1 x2) := by
  delta State.gpWatchdog
  refine good_ite ?_ ?_
  · exact State.gpFail_good g1
  · exact g1

theorem State.doBusSave_good {x1} {x2} {x3} (g1 : State.Good q n x1) :
    State.Good q n (State.doBusSave x1 x2 x3) := by
  delta State.doBusSave
  refine State.checked_good ?_ ?_
  · exact g1
  · intro x1 h2
    exact State.saveObjects_good h2

theorem State.busTick_good {x1} (g1 : State.Good q n x1) :
    State.Good q n (State.busTick x1) := by
  delta State.busTick
  extract_lets -merge -underBinder +onlyGivenNames y1
  have h5 : State.Good q n y1 := by
    subst y1
    refine State.each_good ?_ ?_
    · exact g1
    · intro x2 x4 h3
      exact State.gpWatchdog_good h3
  try clear_value y1
  refine State.each_good ?_ ?_
  · exact h5
  · intro x6 x8 h7
    exact State.golposenSend_good h7

theorem State.busUnitReset_good {x1} {x2} (g1 : State.Good q n x1) :
    State.Good q n (State.busUnitReset x1 x2) := by
  delta State.busUnitReset
  extract_lets -merge -underBinder +onlyGivenNames y1 y2
  have h3 : State.Good q n y2 := by subst y2; exact State.modBus_good g1
  try clear_value y2
  refine State.each_good ?_ ?_
  · exact h3
  · intro x4 x6 h5
    refine good_ite ?_ ?_
    · exact State.gpStart_good h5
    · exact State.gpOff_good h5

theorem State.busHook_good {x1} {x2} {x3} (g1 : State.Good q n x1) :
    State.Good q n (State.busHook x1 x2 x3) := by
  delta State.busHook
  refine good_ite ?_ ?_
  · extract_lets -merge -underBinder +onlyGivenNames y1
    refine good_ite ?_ ?_
    · exact g1
    · refine good_ite ?_ ?_
      · exact State.gpOff_good g1
      · exact State.gpStart_good g1
  · refine good_ite ?_ ?_
    · extract_lets -merge -underBinder +onlyGivenNames y2
      exact State.wr_good g1
    · exact g1

theorem State.doBusPortCtl_good {x1} {x2} {x3} (g1 : State.Good q n x1) :
    State.Good q n (State.doBusPortCtl x1 x2 x3) := by
  delta State.doBusPortCtl
  extract_lets -merge -underBinder +onlyGivenNames y1 y2
  refine State.checked_good ?_ ?_
  · exact g1
  · intro x3 h4
    refine State.ok_good ?_
    refine good_ite ?_ ?_
    · exact State.busStart_good h4
    · exact State.busStop_good h4

theorem State.gpReceive_good {x1} {x2} {x3} {x4} {x5} (g1 : State.Good q n x1) :
    State.Good q n (State.gpReceive x1 x2 x3 x4 x5) := by
  delta State.gpReceive
  extract_lets -merge -underBinder +onlyGivenNames y1
  try clear_value y1
  extract_lets -merge -underBinder +onlyGivenNames y2
  try clear_value y2
  extract_lets -merge -underBinder +onlyGivenNames y3
  try clear_value y3
  refine good_ite ?_ ?_
  · refine State.each_good ?_ ?_
    · exact g1
    · intro x4 x6 h5
      exact State.gpCorrupt_good h5
  · split
    · refine good_ite ?_ ?_
      · exact State.count_good g1
      · refine State.each_good ?_ ?_
        · exact g1
        · intro x7 x9 h8
          exact State.gpCorrupt_good h8
    · refine good_ite ?_ ?_
      · exact State.gpJudge_good g1
      · exact State.gpFail_good g1

theorem State.doBusGpPdu_good {x1} {x2} {x3} (g1 : State.Good q n x1) :
    State.Good q n (State.doBusGpPdu x1 x2 x3) := by
  delta State.doBusGpPdu
  refine State.checked_good ?_ ?_
  · exact g1
  · intro x1 h2
    exact State.ok_good (State.gpReceive_good h2)

theorem State.gpService_good {x1} {x2} {x3} {x4} {x5} (g1 : State.Good q n x1) :
    State.Good q n (State.gpService x1 x2 x3 x4 x5) := by
  delta State.gpService
  extract_lets -merge -underBinder +onlyGivenNames y1
  have h2 : State.Good q n y1 := by subst y1; exact State.gpReceive_good g1
  try clear_value y1
  refine good_ite ?_ ?_
  · exact h2
  · extract_lets -merge -underBinder +onlyGivenNames y3
    have h4 : State.Good q n y3.2 := by
      subst y3
      split
      · exact good_mk_snd h2
      · exact State.gpPdu_good h2
    try clear_value y3
    exact State.busTransmit_good h4

theorem State.mstpVendor_good {x1} {x2} {x3} {x4} {x5} (g1 : State.Good q n x1) :
    State.Good q n (State.mstpVendor x1 x2 x3 x4 x5) := by
  delta State.mstpVendor
  refine good_ite ?_ ?_
  · exact State.gpReceive_good g1
  · exact State.busRx_good g1

theorem State.modbusTake_good {x1} {x2} {x3} (g1 : State.Good q n x1) :
    State.Good q n (State.modbusTake x1 x2 x3) := by
  delta State.modbusTake
  extract_lets -merge -underBinder +onlyGivenNames y1
  try clear_value y1
  extract_lets -merge -underBinder +onlyGivenNames y2
  try clear_value y2
  extract_lets -merge -underBinder +onlyGivenNames y3
  try clear_value y3
  refine good_ite ?_ ?_
  · refine good_ite ?_ ?_
    · exact g1
    · refine good_ite ?_ ?_
      · exact State.spokeService_good g1
      · refine good_ite ?_ ?_
        · exact State.gpService_good g1
        · exact State.busRx_good g1
  · split
    · exact g1
    · refine good_ite ?_ ?_
      · exact g1
      · extract_lets -merge -underBinder +onlyGivenNames y4
        have h5 : State.Good q n y4 := by subst y4; exact State.modBus_good g1
        try clear_value y4
        refine good_ite ?_ ?_
        · refine good_ite ?_ ?_
          · exact State.gpReceive_good h5
          · exact h5
        · exact State.busRx_good h5

theorem State.mstpTake_good {x1} {x2} {x3} {x4} {x5} {x6} {x7} (g1 : State.Good q n x1) :
    State.Good q n (State.mstpTake x1 x2 x3 x4 x5 x6 x7) := by
  delta State.mstpTake
  extract_lets -merge -underBinder +onlyGivenNames y1 y2
  refine good_ite ?_ ?_
  · exact g1
  · refine good_ite ?_ ?_
    · refine good_ite ?_ ?_
      · exact State.modBus_good g1
      · exact g1
    · refine good_ite ?_ ?_
      · refine good_ite ?_ ?_
        · exact State.busTransmit_good g1
        · exact g1
      · refine good_ite ?_ ?_
        · refine good_ite ?_ ?_
          · exact State.mstpPass_good (State.modBus_good g1)
          · exact g1
        · refine good_ite ?_ ?_
          · refine good_ite ?_ ?_
            · exact State.busTransmit_good g1
            · exact g1
          · refine good_ite ?_ ?_
            · refine State.when_good ?_ ?_
              · exact State.busRx_good g1
              · intro x3 h4
                exact State.modBus_good h4
            · refine good_ite ?_ ?_
              · exact State.busRx_good g1
              · refine good_ite ?_ ?_
                · exact State.mstpVendor_good g1
                · refine good_ite ?_ ?_
                  · exact State.busRx_good g1
                  · exact g1

theorem State.mstpJudge_good {x1} {x2} {x3} (g1 : State.Good q n x1) :
    State.Good q n (State.mstpJudge x1 x2 x3) := by
  delta State.mstpJudge
  refine good_ite ?_ ?_
  · exact State.busDiscard_good g1
  · split
    · exact State.busDiscard_good g1
    · refine good_ite ?_ ?_
      · exact State.busDiscard_good g1
      · exact State.mstpTake_good (State.count_good g1)

theorem State.modbusJudge_good {x1} {x2} {x3} (g1 : State.Good q n x1) :
    State.Good q n (State.modbusJudge x1 x2 x3) := by
  delta State.modbusJudge
  extract_lets -merge -underBinder +onlyGivenNames y1
  refine good_ite ?_ ?_
  · exact State.busDiscard_good g1
  · refine good_ite ?_ ?_
    · exact State.busDiscard_good g1
    · exact State.modbusTake_good (State.count_good g1)

theorem State.busRun_good {x1} {x2} (g1 : State.Good q n x1) :
    State.Good q n (State.busRun x1 x2) := by
  delta State.busRun
  refine good_ite ?_ ?_
  · exact State.remRun_good g1
  · extract_lets -merge -underBinder +onlyGivenNames y1 y2
    have h3 : State.Good q n y2 := by subst y2; exact State.modBus_good g1
    try clear_value y2
    extract_lets -merge -underBinder +onlyGivenNames y4
    have h8 : State.Good q n y4 := by
      subst y4
      refine State.each_good ?_ ?_
      · exact h3
      · intro x5 x7 h6
        refine good_ite ?_ ?_
        · exact State.mstpJudge_good h6
        · exact State.modbusJudge_good h6
    try clear_value y4
    exact State.remRun_good (State.busWork_good h8)

/-! ### Stall -/

theorem State.modStall_good {x1} {x2} {x3} (g1 : State.Good q n x1) :
    State.Good q n (State.modStall x1 x2 x3) := by
  delta State.modStall
  exact g1.of_eq rfl rfl rfl rfl rfl rfl rfl rfl rfl rfl rfl

theorem State.modRing_good {x1} {x2} {x3} {x4} (g1 : State.Good q n x1) :
    State.Good q n (State.modRing x1 x2 x3 x4) := by
  delta State.modRing
  exact State.modStall_good g1

theorem State.cycleWork_good {s x u v} (h : State.Good q n s) : State.Good q n (State.cycleWork s x u v).1 := by
  unfold State.cycleWork
  extract_lets v0 emit
  have he : ∀ m w, State.Good q n (emit m w).1 := fun _ _ => h
  clear_value emit
  split
  · exact he _ _
  · exact he _ _
  · exact good_fst_ite h h
  · exact h
  · exact good_fst_ite h (State.modStall_good h)
  · exact he _ _
  · exact h

theorem State.wrBit_good {x1} {x2} {x3} {x4} (g1 : State.Good q n x1) :
    State.Good q n (State.wrBit x1 x2 x3 x4) := by
  delta State.wrBit
  exact State.wr_good g1

theorem State.tileStart_good {x1} {x2} (g1 : State.Good q n x1) :
    State.Good q n (State.tileStart x1 x2) := by
  delta State.tileStart
  split
  · exact g1
  · extract_lets -merge -underBinder +onlyGivenNames y1
    have h2 : State.Good q n y1 := by subst y1; exact State.modStall_good g1
    try clear_value y1
    exact State.wrap_good (State.count_good h2)

theorem State.ringPop_good {x1} {x2} {x3} {x4} (g1 : State.Good q n x1) :
    State.Good q n (State.ringPop x1 x2 x3 x4) := by
  delta State.ringPop
  exact State.wrs_good g1

theorem State.stbNote_good {x1} {x2} {x3} {x4} (g1 : State.Good q n x1) :
    State.Good q n (State.stbNote x1 x2 x3 x4) := by
  delta State.stbNote
  exact State.note_good g1

theorem State.ringPush_good {x1} {x2} {x3} {x4} (g1 : State.Good q n x1) :
    State.Good q n (State.ringPush x1 x2 x3 x4) := by
  delta State.ringPush
  refine good_ite ?_ ?_
  · exact State.wrs_good g1
  · exact g1

theorem State.modTask_good {x1} {x2} {x3} {x4} (g1 : State.Good q n x1) :
    State.Good q n (State.modTask x1 x2 x3 x4) := by
  delta State.modTask
  exact State.modStall_good g1

theorem State.poisonShow_good {x1} {x2} (g1 : State.Good q n x1) :
    State.Good q n (State.poisonShow x1 x2) := by
  delta State.poisonShow
  extract_lets -merge -underBinder +onlyGivenNames y1
  exact State.wrBit_good (State.wr_good g1)

theorem State.rowRequest_good {x1} {x2} {x3} (g1 : State.Good q n x1) :
    State.Good q n (State.rowRequest x1 x2 x3) := by
  delta State.rowRequest
  refine good_ite ?_ ?_
  · exact g1
  · exact State.stbNote_good (State.modStall_good g1)

theorem State.hazard_good {x1} {x2} {x3} {x4} {x5} {x6} {x7} (g1 : State.Good q n x1) :
    State.Good q n (State.hazard x1 x2 x3 x4 x5 x6 x7) := by
  delta State.hazard
  extract_lets -merge -underBinder +onlyGivenNames y1 y2
  have h3 : State.Good q n y2 := by subst y2; exact State.count_good (State.wrBit_good g1)
  try clear_value y2
  extract_lets -merge -underBinder +onlyGivenNames y4
  have h5 : State.Good q n y4 := by
    subst y4
    refine good_ite ?_ ?_
    · exact h3
    · exact State.wrs_good h3
  try clear_value y4
  refine good_ite ?_ ?_
  · exact h5
  · exact State.fault_good (State.stbNote_good (State.modStall_good h5))

theorem State.opBegin_good {x1} {x2} {x3} {x4} {x5} (g1 : State.Good q n x1) :
    State.Good q n (State.opBegin x1 x2 x3 x4 x5) := by
  delta State.opBegin
  extract_lets -merge -underBinder +onlyGivenNames y1
  try clear_value y1
  extract_lets -merge -underBinder +onlyGivenNames y2
  try clear_value y2
  extract_lets -merge -underBinder +onlyGivenNames y3
  have h13 : State.Good q n y3 := by
    subst y3
    split
    · exact State.modStall_good (State.ringPush_good g1)
    · extract_lets -merge -underBinder +onlyGivenNames y4 y5
      refine good_ite ?_ ?_
      · exact State.modStall_good (State.wr_good g1)
      · extract_lets -merge -underBinder +onlyGivenNames y6 y7
        have h8 : State.Good q n y7 := by subst y7; exact State.modStall_good g1
        try clear_value y7
        exact State.fault_good (State.stbNote_good (State.wrBit_good h8))
    · extract_lets -merge -underBinder +onlyGivenNames y9
      have h10 : State.Good q n y9 := by subst y9; exact State.modStall_good g1
      try clear_value y9
      refine good_ite ?_ ?_
      · exact State.ringPush_good h10
      · extract_lets -merge -underBinder +onlyGivenNames y11
        have h12 : State.Good q n y11 := by subst y11; exact State.ringPop_good h10
        try clear_value y11
        refine good_ite ?_ ?_
        · exact State.modRing_good h12
        · exact h12
    · exact State.modStall_good g1
  try clear_value y3
  exact h13

theorem State.parityFound_good {x1} {x2} {x3} {x4} (g1 : State.Good q n x1) :
    State.Good q n (State.parityFound x1 x2 x3 x4) := by
  delta State.parityFound
  exact State.stbNote_good (State.count_good (State.wrBit_good g1))

theorem State.poisonBlock_good {x1} {x2} {x3} (g1 : State.Good q n x1) :
    State.Good q n (State.poisonBlock x1 x2 x3) := by
  delta State.poisonBlock
  refine good_ite ?_ ?_
  · exact g1
  · extract_lets -merge -underBinder +onlyGivenNames y1
    have h2 : State.Good q n y1 := by subst y1; exact State.modStall_good g1
    try clear_value y1
    exact State.fault_good (State.stbNote_good (State.poisonShow_good h2))

theorem State.tagWrite_good {x1} {x2} {x3} {x4} {x5} {x6} (g1 : State.Good q n x1) :
    State.Good q n (State.tagWrite x1 x2 x3 x4 x5 x6) := by
  delta State.tagWrite
  refine good_ite ?_ ?_
  · extract_lets -merge -underBinder +onlyGivenNames y1 y2
    have h3 : State.Good q n y2 := by
      subst y2
      refine good_ite ?_ ?_
      · exact State.hazard_good g1
      · exact g1
    try clear_value y2
    extract_lets -merge -underBinder +onlyGivenNames y4
    exact State.modStall_good h3
  · exact g1

theorem State.taskTo_good {x1} {x2} {x3} {x4} {x5} (g1 : State.Good q n x1) :
    State.Good q n (State.taskTo x1 x2 x3 x4 x5) := by
  delta State.taskTo
  extract_lets -merge -underBinder +onlyGivenNames y1 y2 y3
  have h4 : State.Good q n y3 := by subst y3; exact State.wrBit_good (State.wrs_good g1)
  try clear_value y3
  extract_lets -merge -underBinder +onlyGivenNames y5
  have h6 : State.Good q n y5 := by subst y5; exact State.wrBit_good h4
  try clear_value y5
  extract_lets -merge -underBinder +onlyGivenNames y7
  have h8 : State.Good q n y7 := by
    subst y7
    refine good_ite ?_ ?_
    · exact h6
    · exact State.stbNote_good h6
  try clear_value y7
  refine good_ite ?_ ?_
  · exact State.fault_good h8
  · exact h8

theorem State.weightWord_good {x1} {x2} {x3} (g1 : State.Good q n x1) :
    State.Good q n (State.weightWord x1 x2 x3).2 := by
  delta State.weightWord
  split
  · exact good_mk_snd g1
  · exact good_mk_snd (State.count_good g1)
  · exact good_mk_snd (State.rowRequest_good (State.poisonBlock_good (State.count_good g1)))

theorem State.tagRead_good {x1} {x2} {x3} {x4} {x5} {x6} {x7} (g1 : State.Good q n x1) :
    State.Good q n (State.tagRead x1 x2 x3 x4 x5 x6 x7) := by
  delta State.tagRead
  refine good_ite ?_ ?_
  · extract_lets -merge -underBinder +onlyGivenNames y1 y2
    have h3 : State.Good q n y2 := by
      subst y2
      refine good_ite ?_ ?_
      · exact State.hazard_good g1
      · exact g1
    try clear_value y2
    exact State.modStall_good h3
  · exact g1

theorem State.setAreg_good {x1} {x2} {x3} {x4} {x5} (g1 : State.Good q n x1) :
    State.Good q n (State.setAreg x1 x2 x3 x4 x5) := by
  delta State.setAreg
  exact State.modTask_good g1

theorem State.land_good {x1} {x2} {x3} (g1 : State.Good q n x1) :
    State.Good q n (State.land x1 x2 x3) := by
  delta State.land
  extract_lets -merge -underBinder +onlyGivenNames y1
  try clear_value y1
  extract_lets -merge -underBinder +onlyGivenNames y2
  have h3 : State.Good q n y2 := by subst y2; exact State.modStall_good (State.tagWrite_good g1)
  try clear_value y2
  split
  · exact h3
  · exact State.ringPush_good h3

theorem State.landDue_good {x1} {x2} (g1 : State.Good q n x1) :
    State.Good q n (State.landDue x1 x2) := by
  delta State.landDue
  extract_lets -merge -underBinder +onlyGivenNames y1 y2
  refine good_ite ?_ ?_
  · exact g1
  · extract_lets -merge -underBinder +onlyGivenNames y3
    have h4 : State.Good q n y3 := by subst y3; exact State.modStall_good g1
    try clear_value y3
    refine State.each_good ?_ ?_
    · refine State.each_good ?_ ?_
      · exact h4
      · intro x5 x7 h6
        exact State.land_good h6
    · intro x8 x10 h9
      exact State.land_good h9

theorem State.readUnits_good {s x k pc l} (h : State.Good q n s) : State.Good q n (State.readUnits s x k pc l).2.2 :=
  good_foldl_thd h fun _ _ ht => good_ite (State.parityFound_good (State.tagRead_good ht)) (State.tagRead_good ht)

theorem State.stopDone_good {x1} {x2} {x3} (g1 : State.Good q n x1) :
    State.Good q n (State.stopDone x1 x2 x3) := by
  delta State.stopDone
  extract_lets -merge -underBinder +onlyGivenNames y1
  refine good_ite ?_ ?_
  · exact g1
  · extract_lets -merge -underBinder +onlyGivenNames y2
    have h3 : State.Good q n y2 := by subst y2; exact State.taskTo_good (State.modTask_good g1)
    try clear_value y2
    refine State.each_good ?_ ?_
    · exact h3
    · intro x4 x6 h5
      exact State.ok_good h5

theorem State.tloadRead_good {s x unit} (h : State.Good q n s) : State.Good q n (State.tloadRead s x unit).2 := by
  unfold State.tloadRead
  generalize List.range 8 = l
  exact good_foldl_snd h fun _ _ ht => State.weightWord_good ht

theorem State.landAll_good {x1} {x2} (g1 : State.Good q n x1) :
    State.Good q n (State.landAll x1 x2) := by
  delta State.landAll
  extract_lets -merge -underBinder +onlyGivenNames y1 y2
  have h3 : State.Good q n y2 := by subst y2; exact State.modStall_good g1
  try clear_value y2
  refine State.each_good ?_ ?_
  · exact h3
  · intro x4 x6 h5
    exact State.land_good h5

theorem State.tileEnd_good {x1} {x2} {x3} (g1 : State.Good q n x1) :
    State.Good q n (State.tileEnd x1 x2 x3) := by
  delta State.tileEnd
  extract_lets -merge -underBinder +onlyGivenNames y1
  have h2 : State.Good q n y1 := by subst y1; exact State.modStall_good g1
  try clear_value y1
  extract_lets -merge -underBinder +onlyGivenNames y3
  have h4 : State.Good q n y3 := by subst y3; exact State.stopDone_good h2
  try clear_value y3
  refine good_ite ?_ ?_
  · exact State.tileStart_good (State.modStall_good h4)
  · exact h4

theorem State.opFinish_good {s x u} (h : State.Good q n s) : State.Good q n (State.opFinish s x u) := by
  unfold State.opFinish
  extract_lets k w reg at_ y pc next
  have hy : State.Good q n y := State.modStall_good h
  clear_value y
  have hp : ∀ m t, State.Good q n t → State.Good q n (pc m t) := fun _ _ ht => State.wr_good ht
  clear_value pc
  have hn : ∀ t, State.Good q n t → State.Good q n (next t) := fun t ht => hp _ t ht
  clear_value next
  split
  · exact hn _ (State.setAreg_good hy)
  · exact hn _ (State.setAreg_good hy)
  · exact hn _ (good_ite (State.setAreg_good hy) hy)
  · exact good_ite (hn _ hy) (State.tileEnd_good hy)
  · exact good_ite (hn _ (State.setAreg_good hy)) (hp _ _ (State.setAreg_good hy))
  · exact State.tileEnd_good (State.modTask_good (hn _ hy))
  · exact hp _ _ hy
  · exact State.tileEnd_good (State.taskTo_good (State.modTask_good hy))
  · exact hn _ hy

theorem State.taskFault_good {x1} {x2} {x3} {x4} (g1 : State.Good q n x1) :
    State.Good q n (State.taskFault x1 x2 x3 x4) := by
  delta State.taskFault
  exact State.tileEnd_good (State.taskTo_good g1)

theorem State.opCycle_good {x1} {x2} {x3} (g1 : State.Good q n x1) :
    State.Good q n (State.opCycle x1 x2 x3) := by
  delta State.opCycle
  extract_lets -merge -underBinder +onlyGivenNames y1
  have h2 : State.Good q n y1.2.2 := by subst y1; exact State.readUnits_good g1
  try clear_value y1
  refine good_ite ?_ ?_
  · exact State.taskFault_good h2
  · extract_lets -merge -underBinder +onlyGivenNames y3
    have h4 : State.Good q n y3.2 := by
      subst y3
      refine good_snd_ite ?_ ?_
      · exact State.tloadRead_good h2
      · exact good_mk_snd h2
    try clear_value y3
    refine good_ite ?_ ?_
    · exact State.taskFault_good h4
    · extract_lets -merge -underBinder +onlyGivenNames y5
      have h6 : State.Good q n y5 := by subst y5; exact h4
      try clear_value y5
      extract_lets -merge -underBinder +onlyGivenNames y7 y8
      have h9 : State.Good q n y8.1 := by
        subst y8
        refine good_fst_ite ?_ ?_
        · exact good_mk_fst h6
        · exact State.cycleWork_good h6
      try clear_value y8
      extract_lets -merge -underBinder +onlyGivenNames y10 y11
      refine good_ite ?_ ?_
      · exact State.modStall_good h9
      · exact State.opFinish_good h9

theorem State.opStart_good {x1} {x2} {x3} {x4} {x5} {x6} (g1 : State.Good q n x1) :
    State.Good q n (State.opStart x1 x2 x3 x4 x5 x6) := by
  delta State.opStart
  split
  · exact State.taskFault_good g1
  · extract_lets -merge -underBinder +onlyGivenNames y1
    try clear_value y1
    extract_lets -merge -underBinder +onlyGivenNames y2
    try clear_value y2
    extract_lets -merge -underBinder +onlyGivenNames y3
    have h4 : State.Good q n y3 := by subst y3; exact State.opBegin_good g1
    try clear_value y3
    split
    · exact h4
    · exact State.opCycle_good h4

theorem State.opFetch_good {x1} {x2} {x3} (g1 : State.Good q n x1) :
    State.Good q n (State.opFetch x1 x2 x3) := by
  delta State.opFetch
  extract_lets -merge -underBinder +onlyGivenNames y1 y2
  refine good_ite ?_ ?_
  · exact State.taskFault_good g1
  · extract_lets -merge -underBinder +onlyGivenNames y3
    exact State.opStart_good g1

theorem State.stallWork_good {x1} {x2} (g1 : State.Good q n x1) :
    State.Good q n (State.stallWork x1 x2) := by
  delta State.stallWork
  extract_lets -merge -underBinder +onlyGivenNames y1
  split
  · exact State.opCycle_good g1
  · split
    · exact g1
    · refine good_ite ?_ ?_
      · exact State.modStall_good g1
      · exact State.opFetch_good g1

theorem State.stallCycle_good {x1} {x2} (g1 : State.Good q n x1) :
    State.Good q n (State.stallCycle x1 x2) := by
  delta State.stallCycle
  extract_lets -merge -underBinder +onlyGivenNames y1
  have h2 : State.Good q n y1 := by subst y1; exact State.landDue_good g1
  try clear_value y1
  extract_lets -merge -underBinder +onlyGivenNames y3 y4
  have h5 : State.Good q n y4 := by
    subst y4
    refine good_ite ?_ ?_
    · exact h2
    · exact State.stallWork_good h2
  try clear_value y4
  exact State.modStall_good h5

theorem State.opDrain_good {k x s} (h : State.Good q n s) : State.Good q n (State.opDrain k x s) := by
  induction k generalizing s with
  | zero => exact h
  | succ k ih => exact good_ite h (ih (State.stallCycle_good h))

theorem State.stallSpan_good {k s} (h : State.Good q n s) : State.Good q n (State.stallSpan k s) := by
  induction k generalizing s with
  | zero => exact h
  | succ k ih => exact good_ite h (ih (State.each_good h fun _ _ => State.stallCycle_good))

theorem State.runOp_good {x1} {x2} {x3} {x4} {x5} (g1 : State.Good q n x1) :
    State.Good q n (State.runOp x1 x2 x3 x4 x5) := by
  delta State.runOp
  extract_lets -merge -underBinder +onlyGivenNames y1
  have h2 : State.Good q n y1 := by subst y1; exact State.opDrain_good g1
  try clear_value y1
  extract_lets -merge -underBinder +onlyGivenNames y3
  have h4 : State.Good q n y3 := by
    subst y3
    refine good_ite ?_ ?_
    · exact State.modStall_good h2
    · exact h2
  try clear_value y3
  extract_lets -merge -underBinder +onlyGivenNames y5
  have h6 : State.Good q n y5 := by subst y5; exact State.opStart_good (State.landDue_good h4)
  try clear_value y5
  exact State.opDrain_good (State.modStall_good h6)

/-! ### Stable -/

theorem State.cacheHook_good {x1} (g1 : State.Good q n x1) :
    State.Good q n (State.cacheHook x1) := by
  delta State.cacheHook
  exact State.wr_good g1

theorem State.bank7Lose_good {x1} {x2} (g1 : State.Good q n x1) :
    State.Good q n (State.bank7Lose x1 x2) := by
  delta State.bank7Lose
  extract_lets -merge -underBinder +onlyGivenNames y1
  exact State.modStall_good (g1.of_eq rfl rfl rfl rfl rfl rfl rfl rfl rfl rfl rfl)

theorem State.creditRelease_good {x1} {x2} {x3} (g1 : State.Good q n x1) :
    State.Good q n (State.creditRelease x1 x2 x3) := by
  delta State.creditRelease
  refine good_ite ?_ ?_
  · extract_lets -merge -underBinder +onlyGivenNames y1 y2 y3
    exact State.modRing_good (State.wr_good g1)
  · exact g1

theorem State.loadBytes_good {x1} {x2} {x3} {x4} {x5} (g1 : State.Good q n x1) :
    State.Good q n (State.loadBytes x1 x2 x3 x4 x5) := by
  delta State.loadBytes
  extract_lets -merge -underBinder +onlyGivenNames y1 y2 y3 y4 y5
  have h6 : State.Good q n y5 := by subst y5; exact State.modStall_good g1
  try clear_value y5
  extract_lets -merge -underBinder +onlyGivenNames y7
  have h8 : State.Good q n y7 := by
    subst y7
    refine good_ite ?_ ?_
    · exact h6
    · exact State.modStall_good h6
  try clear_value y7
  exact State.modTask_good h8

theorem State.doStbFeed_good {x1} {x2} {x3} (g1 : State.Good q n x1) :
    State.Good q n (State.doStbFeed x1 x2 x3) := by
  delta State.doStbFeed
  extract_lets -merge -underBinder +onlyGivenNames y1 y2
  refine State.checked_good ?_ ?_
  · exact g1
  · intro x3 h4
    exact h4.of_eq rfl rfl rfl rfl rfl rfl rfl rfl rfl rfl rfl

theorem State.pointerRelease_good {x1} {x2} {x3} (g1 : State.Good q n x1) :
    State.Good q n (State.pointerRelease x1 x2 x3) := by
  delta State.pointerRelease
  extract_lets -merge -underBinder +onlyGivenNames y1
  refine good_ite ?_ ?_
  · exact g1
  · extract_lets -merge -underBinder +onlyGivenNames y2
    have h5 : State.Good q n y2 := by
      subst y2
      refine State.when_good ?_ ?_
      · exact State.ringPush_good g1
      · intro x3 h4
        exact State.ringPop_good h4
    try clear_value y2
    exact State.modRing_good h5

theorem State.cacheSwitchStall_good {x1} {x2} (g1 : State.Good q n x1) :
    State.Good q n (State.cacheSwitchStall x1 x2) := by
  delta State.cacheSwitchStall
  refine good_ite ?_ ?_
  · extract_lets -merge -underBinder +onlyGivenNames y1
    have h2 : State.Good q n y1 := by subst y1; exact State.wrBit_good g1
    try clear_value y1
    refine good_ite ?_ ?_
    · refine good_ite ?_ ?_
      · exact State.stbNote_good (State.wrBit_good h2)
      · exact State.stbNote_good (State.modStall_good (State.bank7Lose_good (State.wrBit_good h2)))
    · exact State.stbNote_good (State.modStall_good (State.bank7Lose_good (State.wrBit_good h2)))
  · exact g1

theorem State.pointerPublish_good {x1} {x2} {x3} (g1 : State.Good q n x1) :
    State.Good q n (State.pointerPublish x1 x2 x3) := by
  delta State.pointerPublish
  refine good_ite ?_ ?_
  · exact State.modRing_good g1
  · exact g1

theorem State.clearTags_good {x1} {x2} {x3} (g1 : State.Good q n x1) :
    State.Good q n (State.clearTags x1 x2 x3) := by
  delta State.clearTags
  extract_lets -merge -underBinder +onlyGivenNames y1 y2 y3
  exact State.modStall_good g1

theorem State.ringStop_good {x1} {x2} {x3} (g1 : State.Good q n x1) :
    State.Good q n (State.ringStop x1 x2 x3) := by
  delta State.ringStop
  exact State.modRing_good (State.wrs_good g1)

theorem State.stbOn_good {x1} (g1 : State.Good q n x1) :
    State.Good q n (State.stbOn x1) := by
  delta State.stbOn
  exact State.wr_good g1

theorem State.eachRing_good {x1} {x2} (g1 : State.Good q n x1) (g2 : ∀ z1 z2 z3, State.Good q n z1 → State.Good q n (x2 z1 z2 z3)) :
    State.Good q n (State.eachRing x1 x2) := by
  delta State.eachRing
  refine State.each_good ?_ ?_
  · exact g1
  · intro x1 x3 h2
    refine State.each_good ?_ ?_
    · exact h2
    · intro x4 x6 h5
      refine g2 _ _ _ ?_
      exact h5

theorem State.loadBlocks_good {x1} {x2} {x3} (g1 : State.Good q n x1) :
    State.Good q n (State.loadBlocks x1 x2 x3) := by
  delta State.loadBlocks
  extract_lets -merge -underBinder +onlyGivenNames y1 y2
  refine good_ite ?_ ?_
  · exact g1
  · extract_lets -merge -underBinder +onlyGivenNames y3 y4 y5
    have h6 : State.Good q n y5 := by subst y5; exact State.modStall_good g1
    try clear_value y5
    extract_lets -merge -underBinder +onlyGivenNames y7
    exact State.poisonShow_good (State.modStall_good h6)

theorem State.cacheInvalidate_good {x1} {x2} (g1 : State.Good q n x1) :
    State.Good q n (State.cacheInvalidate x1 x2) := by
  delta State.cacheInvalidate
  refine State.each_good ?_ ?_
  · exact g1
  · intro x1 x3 h2
    refine good_ite ?_ ?_
    · exact State.modStall_good h2
    · exact h2

theorem State.cacheAccess_good {s k a w} (h : State.Good q n s) : State.Good q n (State.cacheAccess s k a w) := by
  unfold State.cacheAccess
  refine good_ite h ?_
  extract_lets -merge -underBinder +onlyGivenNames line y1 hit bad y2
  have h1 : State.Good q n y1 := by
    subst y1
    cases w with
    | none => exact h
    | some v => exact h.withSram (mwf_cellsPut _ _ h.inv.sram)
  clear_value y1
  have h2 : State.Good q n y2 := State.when_good h1 fun _ ht => State.count_good ht
  clear_value y2
  refine good_ite (State.count_good h2) ?_
  extract_lets -merge -underBinder +onlyGivenNames y3
  have h3 : State.Good q n y3 := State.count_good h2
  clear_value y3
  exact good_ite h3 (State.modStall_good (State.draw_good h3))

theorem State.ringStart_good {x1} {x2} {x3} (g1 : State.Good q n x1) :
    State.Good q n (State.ringStart x1 x2 x3) := by
  delta State.ringStart
  exact State.modRing_good (State.wrs_good g1)

theorem State.stbLose_good {x1} (g1 : State.Good q n x1) :
    State.Good q n (State.stbLose x1) := by
  delta State.stbLose
  extract_lets -merge -underBinder +onlyGivenNames y1
  refine State.each_good ?_ ?_
  · exact g1.of_eq rfl rfl rfl rfl rfl rfl rfl rfl rfl rfl rfl
  · intro x2 x4 h3
    exact State.modStall_good h3

theorem State.stallsHalt_good {x1} (g1 : State.Good q n x1) :
    State.Good q n (State.stallsHalt x1) := by
  delta State.stallsHalt
  extract_lets -merge -underBinder +onlyGivenNames y1
  have h5 : State.Good q n y1 := by
    subst y1
    refine State.each_good ?_ ?_
    · exact g1
    · intro x2 x4 h3
      exact State.modStall_good h3
  try clear_value y1
  exact h5.of_eq rfl rfl rfl rfl rfl rfl rfl rfl rfl rfl rfl

theorem State.takeDue_good {x1} {x2} {x3} (g1 : State.Good q n x1) :
    State.Good q n (State.takeDue x1 x2 x3) := by
  delta State.takeDue
  refine good_ite ?_ ?_
  · refine good_ite ?_ ?_
    · exact State.modTask_good g1
    · exact State.modStall_good g1
  · exact g1

theorem State.resumeFit_good {s x l} (h : State.Good q n s) : State.Good q n (State.resumeFit s x l) := by
  induction l generalizing s with
  | nil => exact h
  | cons k rest ih => exact good_ite (ih (State.taskTo_good h)) h

theorem State.scrubWord_good {x1} {x2} (g1 : State.Good q n x1) :
    State.Good q n (State.scrubWord x1 x2) := by
  delta State.scrubWord
  extract_lets -merge -underBinder +onlyGivenNames y1
  try clear_value y1
  extract_lets -merge -underBinder +onlyGivenNames y2
  try clear_value y2
  extract_lets -merge -underBinder +onlyGivenNames y3
  have h4 : State.Good q n y3 := by subst y3; exact State.weightWord_good g1
  try clear_value y3
  extract_lets -merge -underBinder +onlyGivenNames y5
  try clear_value y5
  extract_lets -merge -underBinder +onlyGivenNames y6 y7
  try clear_value y7
  extract_lets -merge -underBinder +onlyGivenNames y8
  try clear_value y8
  extract_lets -merge -underBinder +onlyGivenNames y9
  have h10 : State.Good q n y9 := by subst y9; exact State.modStall_good h4
  try clear_value y9
  extract_lets -merge -underBinder +onlyGivenNames y11
  have h12 : State.Good q n y11 := by
    subst y11
    refine good_ite ?_ ?_
    · refine good_ite ?_ ?_
      · exact State.rowRequest_good h10
      · exact h10
    · exact h4
  try clear_value y11
  extract_lets -merge -underBinder +onlyGivenNames y13
  try clear_value y13
  extract_lets -merge -underBinder +onlyGivenNames y14
  have h15 : State.Good q n y14 := by
    subst y14
    split
    · exact h12
    · refine good_ite ?_ ?_
      · exact h12
      · exact State.poisonBlock_good (State.count_good h12)
  try clear_value y14
  refine good_ite ?_ ?_
  · exact State.wrap_good (State.modStall_good h15)
  · exact State.modStall_good h15

theorem State.cacheSwitch_good {x1} (g1 : State.Good q n x1) :
    State.Good q n (State.cacheSwitch x1) := by
  delta State.cacheSwitch
  refine State.each_good ?_ ?_
  · exact g1
  · intro x1 x3 h2
    exact State.cacheSwitchStall_good h2

theorem State.rowCopy_good {x1} {x2} (g1 : State.Good q n x1) :
    State.Good q n (State.rowCopy x1 x2) := by
  delta State.rowCopy
  extract_lets -merge -underBinder +onlyGivenNames y1 y2
  have h3 : State.Good q n y2 := by subst y2; exact State.modStall_good g1
  try clear_value y2
  refine State.each_good ?_ ?_
  · exact h3
  · intro x4 x6 h5
    extract_lets -merge -underBinder +onlyGivenNames y7 y8
    have h9 : State.Good q n y8 := by subst y8; exact State.modStall_good h5
    try clear_value y8
    exact State.fault_good (State.stbNote_good h9)

theorem State.resultLost_good {x1} {x2} (g1 : State.Good q n x1) :
    State.Good q n (State.resultLost x1 x2) := by
  delta State.resultLost
  exact State.fault_good (State.stbNote_good (State.count_good g1))

theorem State.pauseOver_good {x1} {x2} (g1 : State.Good q n x1) :
    State.Good q n (State.pauseOver x1 x2) := by
  delta State.pauseOver
  refine State.each_good ?_ ?_
  · exact g1
  · intro x1 x3 h2
    refine good_ite ?_ ?_
    · exact State.taskTo_good h2
    · exact h2

theorem State.doStbLoadBegin_good {x1} {x2} {x3} (g1 : State.Good q n x1) :
    State.Good q n (State.doStbLoadBegin x1 x2 x3) := by
  delta State.doStbLoadBegin
  extract_lets -merge -underBinder +onlyGivenNames y1 y2 y3
  refine State.checked_good ?_ ?_
  · exact g1
  · intro x4 h5
    extract_lets -merge -underBinder +onlyGivenNames y6
    have h7 : State.Good q n y6 := by subst y6; exact State.wrs_good (State.modTask_good h5)
    try clear_value y6
    exact State.ok_good (State.taskTo_good h7)

theorem State.doStbLoadData_good {x1} {x2} {x3} (g1 : State.Good q n x1) :
    State.Good q n (State.doStbLoadData x1 x2 x3) := by
  delta State.doStbLoadData
  extract_lets -merge -underBinder +onlyGivenNames y1 y2 y3 y4 y5
  refine State.checked_good ?_ ?_
  · exact g1
  · intro x6 h7
    exact State.ok_good (State.loadBytes_good h7)

theorem State.takeVector_good {x1} {x2} {x3} {x4} (g1 : State.Good q n x1) :
    State.Good q n (State.takeVector x1 x2 x3 x4).2 := by
  delta State.takeVector
  extract_lets -merge -underBinder +onlyGivenNames y1 y2
  have h3 : State.Good q n y2 := by subst y2; exact State.tagRead_good g1
  try clear_value y2
  refine good_snd_ite ?_ ?_
  · exact good_mk_snd (State.fault_good (State.parityFound_good h3))
  · exact good_mk_snd h3

theorem State.taskEmpty_good {x1} {x2} {x3} {x4} (g1 : State.Good q n x1) :
    State.Good q n (State.taskEmpty x1 x2 x3 x4) := by
  delta State.taskEmpty
  extract_lets -merge -underBinder +onlyGivenNames y1 y2
  have h3 : State.Good q n y2 := by subst y2; exact State.taskTo_good (State.modTask_good g1)
  try clear_value y2
  refine State.each_good ?_ ?_
  · exact h3
  · intro x4 x6 h5
    exact State.finish_good h5

theorem State.mapEntry_good {x1} {x2} {x3} {x4} (g1 : State.Good q n x1) :
    State.Good q n (State.mapEntry x1 x2 x3 x4) := by
  delta State.mapEntry
  extract_lets -merge -underBinder +onlyGivenNames y1
  refine good_ite ?_ ?_
  · refine good_ite ?_ ?_
    · exact State.fault_good (State.stbNote_good g1)
    · exact State.modStall_good g1
  · exact g1

theorem State.narrowRead_good {x1} {x2} {x3} {x4} (g1 : State.Good q n x1) :
    State.Good q n (State.narrowRead x1 x2 x3 x4).2 := by
  delta State.narrowRead
  split
  · exact good_mk_snd g1
  · extract_lets -merge -underBinder +onlyGivenNames y1
    refine good_snd_ite ?_ ?_
    · extract_lets -merge -underBinder +onlyGivenNames y2
      have h3 : State.Good q n y2.2 := by subst y2; exact State.weightWord_good g1
      try clear_value y2
      exact good_mk_snd h3
    · extract_lets -merge -underBinder +onlyGivenNames y4 y5
      have h6 : State.Good q n y5 := by
        subst y5
        refine good_ite ?_ ?_
        · exact State.tagRead_good g1
        · exact g1
      try clear_value y5
      extract_lets -merge -underBinder +onlyGivenNames y7
      have h8 : State.Good q n y7 := by
        subst y7
        refine good_ite ?_ ?_
        · exact State.parityFound_good h6
        · exact h6
      try clear_value y7
      exact good_mk_snd h8

theorem State.doStbTaskStart_good {x1} {x2} {x3} (g1 : State.Good q n x1) :
    State.Good q n (State.doStbTaskStart x1 x2 x3) := by
  delta State.doStbTaskStart
  extract_lets -merge -underBinder +onlyGivenNames y1 y2 y3 y4
  refine State.checked_good ?_ ?_
  · exact g1
  · intro x5 h6
    extract_lets -merge -underBinder +onlyGivenNames y7
    have h8 : State.Good q n y7 := by subst y7; exact State.modTask_good (State.clearTags_good h6)
    try clear_value y7
    exact State.ok_good (State.taskTo_good (State.wr_good h8))

theorem State.stbReset_good {x1} (g1 : State.Good q n x1) :
    State.Good q n (State.stbReset x1) := by
  delta State.stbReset
  exact State.stbLose_good (g1.of_eq rfl rfl rfl rfl rfl rfl rfl rfl rfl rfl rfl)

theorem State.stbOff_good {x1} (g1 : State.Good q n x1) :
    State.Good q n (State.stbOff x1) := by
  delta State.stbOff
  extract_lets -merge -underBinder +onlyGivenNames y1
  have h2 : State.Good q n y1 := by subst y1; exact State.stallsHalt_good g1
  try clear_value y1
  extract_lets -merge -underBinder +onlyGivenNames y3
  have h10 : State.Good q n y3 := by
    subst y3
    refine State.each_good ?_ ?_
    · exact h2
    · intro x4 x6 h5
      refine State.each_good ?_ ?_
      · exact h5
      · intro x7 x9 h8
        exact State.taskEmpty_good h8
  try clear_value y3
  extract_lets -merge -underBinder +onlyGivenNames y11 y12 y13
  have h17 : State.Good q n y13 := by
    subst y13
    refine State.each_good ?_ ?_
    · exact h10.of_eq rfl rfl rfl rfl rfl rfl rfl rfl rfl rfl rfl
    · intro x14 x16 h15
      exact State.finish_good h15
  try clear_value y13
  exact State.wr_good (State.stbLose_good h17)

theorem State.narrowWrite_good {x1} {x2} {x3} {x4} {x5} (g1 : State.Good q n x1) :
    State.Good q n (State.narrowWrite x1 x2 x3 x4 x5) := by
  delta State.narrowWrite
  split
  · exact g1
  · refine good_ite ?_ ?_
    · exact g1
    · extract_lets -merge -underBinder +onlyGivenNames y1
      have h2 : State.Good q n y1 := by
        subst y1
        refine good_ite ?_ ?_
        · exact State.tagWrite_good g1
        · exact g1
      try clear_value y1
      exact State.modStall_good h2

theorem State.throttleTasks_good {x1} {x2} (g1 : State.Good q n x1) :
    State.Good q n (State.throttleTasks x1 x2) := by
  delta State.throttleTasks
  extract_lets -merge -underBinder +onlyGivenNames y1
  have h2 : State.Good q n y1 := by
    subst y1
    refine good_ite ?_ ?_
    · exact State.pauseOver_good g1
    · exact g1
  try clear_value y1
  refine good_ite ?_ ?_
  · exact State.resumeFit_good h2
  · exact h2

theorem State.doStbLoadEnd_good {s r p} (h : State.Good q n s) : State.Good q n (State.doStbLoadEnd s r p) := by
  unfold State.doStbLoadEnd
  extract_lets x k
  refine State.checked_good h fun t ht => ?_
  extract_lets u fail
  have hf : ∀ i, State.Good q n (fail i) := fun i => State.finish_good (State.taskTo_good (State.modTask_good ht))
  clear_value fail
  refine good_ite (hf _) ?_
  split
  · exact hf _
  · exact State.ok_good (State.taskTo_good (State.modTask_good (State.loadBlocks_good ht)))

theorem State.scrubTick_good {x1} {x2} (g1 : State.Good q n x1) :
    State.Good q n (State.scrubTick x1 x2) := by
  delta State.scrubTick
  extract_lets -merge -underBinder +onlyGivenNames y1 y2 y3
  have h4 : State.Good q n y3 := by subst y3; exact State.modStall_good g1
  try clear_value y3
  refine good_ite ?_ ?_
  · extract_lets -merge -underBinder +onlyGivenNames y5
    exact State.wrap_good (State.modStall_good h4)
  · refine times_good ?_ ?_
    · intro x6 h7
      exact State.scrubWord_good h7
    · exact h4

theorem State.stallRelease_good {x1} {x2} (g1 : State.Good q n x1) :
    State.Good q n (State.stallRelease x1 x2) := by
  delta State.stallRelease
  extract_lets -merge -underBinder +onlyGivenNames y1
  have h2 : State.Good q n y1 := by subst y1; exact State.throttleTasks_good g1
  try clear_value y1
  extract_lets -merge -underBinder +onlyGivenNames y3
  have h4 : State.Good q n y3 := by subst y3; exact State.modStall_good h2
  try clear_value y3
  refine State.tileStart_good ?_
  refine State.each_good ?_ ?_
  · exact h4
  · intro x5 x7 h6
    exact State.takeDue_good h6

theorem State.feedRing_good {x1} {x2} {x3} {x4} (g1 : State.Good q n x1) :
    State.Good q n (State.feedRing x1 x2 x3 x4) := by
  delta State.feedRing
  extract_lets -merge -underBinder +onlyGivenNames y1 y2
  have h7 : State.Good q n y2 := by
    subst y2
    refine State.each_good ?_ ?_
    · exact g1
    · intro x3 x5 h4
      extract_lets -merge -underBinder +onlyGivenNames y6
      exact State.modStall_good (State.tagWrite_good h4)
  try clear_value y2
  exact State.modRing_good h7

theorem State.deliver_good {x1} {x2} {x3} {x4} {x5} (g1 : State.Good q n x1) :
    State.Good q n (State.deliver x1 x2 x3 x4 x5) := by
  delta State.deliver
  refine good_ite ?_ ?_
  · exact State.resultLost_good g1
  · split
    · refine State.modZone_good ?_ ?_
      · exact State.wr_good g1
      · intro x1 h2
        exact h2.of_eq rfl
    · refine good_ite ?_ ?_
      · refine State.modZone_good ?_ ?_
        · exact g1
        · intro x3 h4
          exact h4.of_eq rfl
      · exact g1
    · refine State.modZone_good ?_ ?_
      · exact g1
      · intro x5 h6
        exact h6.of_eq rfl

theorem State.takeVectors_good {s x r k} (h : State.Good q n s) : State.Good q n (State.takeVectors s x r k).2 :=
  good_foldl_snd h fun _ _ ht => State.takeVector_good ht

theorem State.stbBoot_good {x1} (g1 : State.Good q n x1) :
    State.Good q n (State.stbBoot x1) := by
  delta State.stbBoot
  refine State.each_good ?_ ?_
  · exact g1
  · intro x1 x3 h2
    extract_lets -merge -underBinder +onlyGivenNames y4
    refine good_ite ?_ ?_
    · exact h2
    · refine good_ite ?_ ?_
      · refine State.each_good ?_ ?_
        · exact h2
        · intro x5 x7 h6
          exact State.mapEntry_good h6
      · exact State.fault_good (State.stbNote_good h2)

theorem State.stbUnitReset_good {x1} (g1 : State.Good q n x1) :
    State.Good q n (State.stbUnitReset x1) := by
  delta State.stbUnitReset
  extract_lets -merge -underBinder +onlyGivenNames y1
  have h2 : State.Good q n y1 := by subst y1; exact State.stallsHalt_good g1
  try clear_value y1
  extract_lets -merge -underBinder +onlyGivenNames y3
  have h10 : State.Good q n y3 := by
    subst y3
    refine State.each_good ?_ ?_
    · exact h2
    · intro x4 x6 h5
      refine State.each_good ?_ ?_
      · exact h5
      · intro x7 x9 h8
        exact State.taskEmpty_good h8
  try clear_value y3
  refine State.eachRing_good ?_ ?_
  · exact h10
  · intro x11 x13 x14 h12
    exact State.modRing_good (State.wrs_good h12)

theorem State.inputSet_good {x1} {x2} {x3} {x4} (g1 : State.Good q n x1) :
    State.Good q n (State.inputSet x1 x2 x3 x4) := by
  delta State.inputSet
  refine good_ite ?_ ?_
  · exact State.feedRing_good g1
  · exact State.fault_good (State.stbNote_good (State.count_good g1))

theorem State.feedRun_good {x1} {x2} (g1 : State.Good q n x1) :
    State.Good q n (State.feedRun x1 x2) := by
  delta State.feedRun
  extract_lets -merge -underBinder +onlyGivenNames y1
  refine good_ite ?_ ?_
  · exact State.finish_good g1
  · refine good_ite ?_ ?_
    · exact State.ok_good (State.feedRing_good g1)
    · exact State.finish_good g1

theorem State.doStbTaskStop_good {x1} {x2} {x3} (g1 : State.Good q n x1) :
    State.Good q n (State.doStbTaskStop x1 x2 x3) := by
  delta State.doStbTaskStop
  extract_lets -merge -underBinder +onlyGivenNames y1 y2
  refine State.checked_good ?_ ?_
  · exact g1
  · intro x3 h4
    extract_lets -merge -underBinder +onlyGivenNames y5
    have h6 : State.Good q n y5 := by subst y5; exact State.modTask_good h4
    try clear_value y5
    refine good_ite ?_ ?_
    · exact h6
    · exact State.stopDone_good (State.modStall_good h6)

theorem State.stallOverrun_good {x1} {x2} (g1 : State.Good q n x1) :
    State.Good q n (State.stallOverrun x1 x2) := by
  delta State.stallOverrun
  split
  · exact g1
  · extract_lets -merge -underBinder +onlyGivenNames y1
    have h2 : State.Good q n y1 := by subst y1; exact State.modStall_good g1
    try clear_value y1
    extract_lets -merge -underBinder +onlyGivenNames y3
    have h4 : State.Good q n y3 := by subst y3; exact State.stopDone_good (State.taskTo_good h2)
    try clear_value y3
    refine State.each_good ?_ ?_
    · exact h4
    · intro x5 x7 h6
      exact State.count_good h6

theorem State.stbOverrun_good {x1} (g1 : State.Good q n x1) :
    State.Good q n (State.stbOverrun x1) := by
  delta State.stbOverrun
  refine State.each_good ?_ ?_
  · exact g1
  · intro x1 x3 h2
    exact State.stallOverrun_good h2

theorem State.auditRelease_good {x1} (g1 : State.Good q n x1) :
    State.Good q n (State.auditRelease x1) := by
  delta State.auditRelease
  split
  · exact g1
  · extract_lets -merge -underBinder +onlyGivenNames y1 y2
    have h3 : State.Good q n y2 := by subst y2; exact g1.of_eq rfl rfl rfl rfl rfl rfl rfl rfl rfl rfl rfl
    try clear_value y2
    extract_lets -merge -underBinder +onlyGivenNames y4
    have h8 : State.Good q n y4 := by
      subst y4
      refine State.each_good ?_ ?_
      · exact h3
      · intro x5 x7 h6
        exact State.modStall_good h6
    try clear_value y4
    exact State.recert_good (State.wrB_good (State.wrB_good h8))

theorem State.ringInput_good {x1} {x2} {x3} (g1 : State.Good q n x1) :
    State.Good q n (State.ringInput x1 x2 x3) := by
  delta State.ringInput
  refine good_ite ?_ ?_
  · split
    · exact State.inputSet_good g1
    · exact g1
  · refine good_ite ?_ ?_
    · exact State.inputSet_good g1
    · exact g1

theorem State.ringDeliver_good {x1} {x2} {x3} (g1 : State.Good q n x1) :
    State.Good q n (State.ringDeliver x1 x2 x3) := by
  delta State.ringDeliver
  extract_lets -merge -underBinder +onlyGivenNames y1
  refine good_ite ?_ ?_
  · extract_lets -merge -underBinder +onlyGivenNames y2
    have h3 : State.Good q n y2.2 := by subst y2; exact State.takeVectors_good g1
    try clear_value y2
    extract_lets -merge -underBinder +onlyGivenNames y4
    have h5 : State.Good q n y4 := by subst y4; exact State.modRing_good h3
    try clear_value y4
    refine good_ite ?_ ?_
    · refine State.each_good ?_ ?_
      · exact h5
      · intro x6 x8 h7
        refine State.each_good ?_ ?_
        · exact h7
        · intro x9 x11 h10
          exact State.deliver_good h10
    · refine good_ite ?_ ?_
      · exact h5
      · exact State.event_good h5
  · exact g1

theorem State.auditHook_good {x1} (g1 : State.Good q n x1) :
    State.Good q n (State.auditHook x1) := by
  delta State.auditHook
  exact State.recert_good (g1.of_eq rfl rfl rfl rfl rfl rfl rfl rfl rfl rfl rfl)

theorem State.stbSvc_good {x1} (g1 : State.Good q n x1) :
    State.Good q n (State.stbSvc x1) := by
  delta State.stbSvc
  refine good_ite ?_ ?_
  · exact g1
  · extract_lets -merge -underBinder +onlyGivenNames y1
    have h6 : State.Good q n y1 := by
      subst y1
      refine State.eachRing_good ?_ ?_
      · exact g1
      · intro x2 x4 x5 h3
        exact State.ringDeliver_good h3
    try clear_value y1
    extract_lets -merge -underBinder +onlyGivenNames y7 y8 y9
    have h13 : State.Good q n y9 := by
      subst y9
      refine State.each_good ?_ ?_
      · exact h6.of_eq rfl rfl rfl rfl rfl rfl rfl rfl rfl rfl rfl
      · intro x10 x12 h11
        exact State.feedRun_good h11
    try clear_value y9
    extract_lets -merge -underBinder +onlyGivenNames y14
    have h19 : State.Good q n y14 := by
      subst y14
      refine State.eachRing_good ?_ ?_
      · exact h13
      · intro x15 x17 x18 h16
        exact State.ringInput_good h16
    try clear_value y14
    refine State.each_good ?_ ?_
    · exact h19
    · intro x20 x22 h21
      refine good_ite ?_ ?_
      · exact State.modDev_good h21
      · exact h21

theorem State.stbClose_good {x1} (g1 : State.Good q n x1) :
    State.Good q n (State.stbClose x1) := by
  delta State.stbClose
  refine good_ite ?_ ?_
  · extract_lets -merge -underBinder +onlyGivenNames y1
    have h2 : State.Good q n y1 := by subst y1; exact State.stbOverrun_good g1
    try clear_value y1
    extract_lets -merge -underBinder +onlyGivenNames y3
    have h7 : State.Good q n y3 := by
      subst y3
      refine State.each_good ?_ ?_
      · exact h2
      · intro x4 x6 h5
        exact State.wr_good (State.landAll_good h5)
    try clear_value y3
    extract_lets -merge -underBinder +onlyGivenNames y8
    have h16 : State.Good q n y8 := by
      subst y8
      refine State.each_good ?_ ?_
      · refine State.eachRing_good ?_ ?_
        · exact h7
        · intro x9 x11 x12 h10
          exact State.pointerPublish_good h10
      · intro x13 x15 h14
        exact State.rowCopy_good h14
    try clear_value y8
    exact h16.of_eq rfl rfl rfl rfl rfl rfl rfl rfl rfl rfl rfl
  · exact g1

theorem State.stbRelease_good {x1} (g1 : State.Good q n x1) :
    State.Good q n (State.stbRelease x1) := by
  delta State.stbRelease
  refine good_ite ?_ ?_
  · exact g1
  · extract_lets -merge -underBinder +onlyGivenNames y1
    have h2 : State.Good q n y1 := by subst y1; exact State.auditRelease_good g1
    try clear_value y1
    extract_lets -merge -underBinder +onlyGivenNames y3 y4
    have h5 : State.Good q n y4 := by subst y4; exact h2.of_eq rfl rfl rfl rfl rfl rfl rfl rfl rfl rfl rfl
    try clear_value y4
    extract_lets -merge -underBinder +onlyGivenNames y6
    have h15 : State.Good q n y6 := by
      subst y6
      refine State.eachRing_good ?_ ?_
      · refine State.eachRing_good ?_ ?_
        · exact h5
        · intro x7 x9 x10 h8
          exact State.creditRelease_good h8
      · intro x11 x13 x14 h12
        exact State.pointerRelease_good h12
    try clear_value y6
    extract_lets -merge -underBinder +onlyGivenNames y16
    have h20 : State.Good q n y16 := by
      subst y16
      refine State.each_good ?_ ?_
      · exact h15
      · intro x17 x19 h18
        exact State.stallRelease_good h18
    try clear_value y16
    exact h20.of_eq rfl rfl rfl rfl rfl rfl rfl rfl rfl rfl rfl

theorem State.stbHook_good {x1} {x2} {x3} (g1 : State.Good q n x1) :
    State.Good q n (State.stbHook x1 x2 x3) := by
  delta State.stbHook
  refine good_ite ?_ ?_
  · extract_lets -merge -underBinder +onlyGivenNames y1 y2 y3 y4
    refine good_ite ?_ ?_
    · exact g1
    · extract_lets -merge -underBinder +onlyGivenNames y5
      have h6 : State.Good q n y5 := by
        subst y5
        refine good_ite ?_ ?_
        · exact State.ringStop_good g1
        · exact g1
      try clear_value y5
      refine good_ite ?_ ?_
      · exact State.ringStart_good h6
      · exact h6
  · refine good_ite ?_ ?_
    · exact State.cacheHook_good g1
    · refine good_ite ?_ ?_
      · exact State.auditHook_good g1
      · exact g1

end Sys2Proof.Machine
end

