-- ==== Sys2Proof/Laws/Good4.lean ====
section
/-!
SUPPORT. Sys2Proof/Laws/Good4.lean: the operations of Security, SecurityCommands, Console keep
the queue, the count of slot edges and the invariant.
-/

namespace Sys2Proof.Machine

variable {q : List Instr} {n : Nat}

/-! ### Security -/

theorem State.helloAdmit_good {x1} {x2} (g1 : State.Good q n x1) :
    State.Good q n (State.helloAdmit x1 x2) := by
  delta State.helloAdmit
  refine State.modChan_good ?_ ?_
  · exact g1
  · intro x1 h2
    exact h2.of_eq rfl rfl

theorem State.secPut_good {x1} {x2} (g1 : State.Good q n x1) :
    State.Good q n (State.secPut x1 x2) := by
  delta State.secPut
  exact g1.of_eq rfl rfl rfl rfl rfl rfl rfl rfl rfl rfl rfl

theorem State.pairCode_good {x1} {x2} {x3} (g1 : State.Good q n x1) :
    State.Good q n (State.pairCode x1 x2 x3) := by
  delta State.pairCode
  extract_lets -merge -underBinder +onlyGivenNames y1
  refine State.each_good ?_ ?_
  · exact g1
  · intro x2 x4 h3
    refine State.modChan_good ?_ ?_
    · exact h3
    · intro x5 h6
      exact raiseOn_good h6

theorem State.updateRecord_good {x1} {x2} {x3} {x4} (g1 : State.Good q n x1) :
    State.Good q n (State.updateRecord x1 x2 x3 x4) := by
  delta State.updateRecord
  exact State.record_good g1

theorem State.burnAdmitted_good {x1} (g1 : State.Good q n x1) :
    State.Good q n (State.burnAdmitted x1) := by
  delta State.burnAdmitted
  exact g1.of_eq rfl rfl rfl rfl rfl rfl rfl rfl rfl rfl rfl

theorem State.helloLapse_good {x1} {x2} (g1 : State.Good q n x1) :
    State.Good q n (State.helloLapse x1 x2) := by
  delta State.helloLapse
  refine State.modChan_good ?_ ?_
  · exact g1
  · intro x1 h2
    exact h2.of_eq rfl rfl

theorem State.keyRecord_good {x1} {x2} {x3} {x4} (g1 : State.Good q n x1) :
    State.Good q n (State.keyRecord x1 x2 x3 x4) := by
  delta State.keyRecord
  exact State.record_good g1

theorem State.random_good {x1} {x2} (g1 : State.Good q n x1) :
    State.Good q n (State.random x1 x2).2 := by
  delta State.random
  extract_lets -merge -underBinder +onlyGivenNames y1
  have h2 : State.Good q n y1.2 := by subst y1; exact State.draw_good g1
  try clear_value y1
  exact good_mk_snd h2

theorem State.sessionRecord_good {x1} {x2} {x3} {x4} {x5} (g1 : State.Good q n x1) :
    State.Good q n (State.sessionRecord x1 x2 x3 x4 x5) := by
  delta State.sessionRecord
  exact State.record_good g1

theorem State.seed_good {x1} (g1 : State.Good q n x1) :
    State.Good q n (State.seed x1) := by
  delta State.seed
  exact g1.of_eq rfl rfl rfl rfl rfl rfl rfl rfl rfl rfl rfl

theorem State.secDrop_good {x1} {x2} (g1 : State.Good q n x1) :
    State.Good q n (State.secDrop x1 x2) := by
  delta State.secDrop
  exact g1.of_eq rfl rfl rfl rfl rfl rfl rfl rfl rfl rfl rfl

theorem State.showSlot_good {x1} {x2} (g1 : State.Good q n x1) :
    State.Good q n (State.showSlot x1 x2) := by
  delta State.showSlot
  extract_lets -merge -underBinder +onlyGivenNames y1 y2
  have h3 : State.Good q n y2 := by subst y2; exact State.wrs_good g1
  try clear_value y2
  refine good_ite ?_ ?_
  · exact State.wr_good h3
  · exact h3

theorem State.secureBoot_good {x1} (g1 : State.Good q n x1) :
    State.Good q n (State.secureBoot x1) := by
  delta State.secureBoot
  extract_lets -merge -underBinder +onlyGivenNames y1
  try clear_value y1
  extract_lets -merge -underBinder +onlyGivenNames y2
  try clear_value y2
  extract_lets -merge -underBinder +onlyGivenNames y3 y4
  have h5 : State.Good q n y4 := by subst y4; exact g1.of_eq rfl rfl rfl rfl rfl rfl rfl rfl rfl rfl rfl
  try clear_value y4
  extract_lets -merge -underBinder +onlyGivenNames y6
  try clear_value y6
  split
  · extract_lets -merge -underBinder +onlyGivenNames y7
    have h8 : State.Good q n y7 := by subst y7; exact State.wrs_good h5
    try clear_value y7
    exact h8.of_eq rfl rfl rfl rfl rfl rfl rfl rfl rfl rfl rfl
  · extract_lets -merge -underBinder +onlyGivenNames y9 y10 y11
    have h12 : State.Good q n y11 := by subst y11; exact h5.of_eq rfl rfl rfl rfl rfl rfl rfl rfl rfl rfl rfl
    try clear_value y11
    exact State.wrs_good h12

theorem State.updateDrop_good {x1} (g1 : State.Good q n x1) :
    State.Good q n (State.updateDrop x1) := by
  delta State.updateDrop
  refine good_ite ?_ ?_
  · extract_lets -merge -underBinder +onlyGivenNames y1
    have h2 : State.Good q n y1 := by subst y1; exact State.wrs_good g1
    try clear_value y1
    exact h2.of_eq rfl rfl rfl rfl rfl rfl rfl rfl rfl rfl rfl
  · exact g1

theorem State.closeChannels_good {x1} (g1 : State.Good q n x1) :
    State.Good q n (State.closeChannels x1) := by
  delta State.closeChannels
  refine State.each_good ?_ ?_
  · exact g1
  · intro x1 x3 h2
    refine State.modChan_good ?_ ?_
    · exact h2
    · intro x4 h5
      exact h5.of_eq rfl rfl

theorem State.secReset_good {x1} {x2} (g1 : State.Good q n x1) :
    State.Good q n (State.secReset x1 x2) := by
  delta State.secReset
  extract_lets -merge -underBinder +onlyGivenNames y1 y2
  have h3 : State.Good q n y2 := by subst y2; exact State.wrs_good g1
  try clear_value y2
  extract_lets -merge -underBinder +onlyGivenNames y4
  have h5 : State.Good q n y4 := by subst y4; exact State.clearAttr_good h3
  try clear_value y4
  exact h5.of_eq rfl rfl rfl rfl rfl rfl rfl rfl rfl rfl rfl

theorem State.lockoutEnd_good {x1} {x2} (g1 : State.Good q n x1) :
    State.Good q n (State.lockoutEnd x1 x2) := by
  delta State.lockoutEnd
  refine State.modChan_good ?_ ?_
  · exact g1
  · intro x1 h2
    exact h2.of_eq rfl rfl

theorem State.reseed_good {x1} (g1 : State.Good q n x1) :
    State.Good q n (State.reseed x1) := by
  delta State.reseed
  refine good_ite ?_ ?_
  · exact State.seed_good g1
  · exact g1

theorem State.trialEnded_good {x1} {x2} (g1 : State.Good q n x1) :
    State.Good q n (State.trialEnded x1 x2) := by
  delta State.trialEnded
  extract_lets -merge -underBinder +onlyGivenNames y1 y2 y3 y4 y5 y6 y7
  have h8 : State.Good q n y7 := by subst y7; exact State.wr_good g1
  try clear_value y7
  extract_lets -merge -underBinder +onlyGivenNames y9 y10
  have h11 : State.Good q n y10 := by subst y10; exact h8.of_eq rfl rfl rfl rfl rfl rfl rfl rfl rfl rfl rfl
  try clear_value y10
  extract_lets -merge -underBinder +onlyGivenNames y12
  have h13 : State.Good q n y12 := by
    subst y12
    refine good_ite ?_ ?_
    · exact h11
    · exact State.wrs_good h11
  try clear_value y12
  extract_lets -merge -underBinder +onlyGivenNames y14
  exact State.secNote_good (State.updateRecord_good h13)

theorem State.lockout_good {x1} {x2} {x3} {x4} (g1 : State.Good q n x1) :
    State.Good q n (State.lockout x1 x2 x3 x4) := by
  delta State.lockout
  extract_lets -merge -underBinder +onlyGivenNames y1
  have h4 : State.Good q n y1 := by
    subst y1
    refine State.modChan_good ?_ ?_
    · exact g1
    · intro x2 h3
      exact h3.of_eq rfl rfl
  try clear_value y1
  exact State.fault_good (State.secNote_good (State.sessionRecord_good h4))

theorem State.burnAsk_good {x1} {x2} {x3} (g1 : State.Good q n x1) :
    State.Good q n (State.burnAsk x1 x2 x3) := by
  delta State.burnAsk
  refine good_ite ?_ ?_
  · exact State.finish?_good (State.secDrop_good g1)
  · exact State.escAsk_good (g1.of_eq rfl rfl rfl rfl rfl rfl rfl rfl rfl rfl rfl)

theorem State.setSlot_good {x1} {x2} {x3} (g1 : State.Good q n x1) :
    State.Good q n (State.setSlot x1 x2 x3) := by
  delta State.setSlot
  extract_lets -merge -underBinder +onlyGivenNames y1 y2
  have h3 : State.Good q n y2 := by subst y2; exact g1.of_eq rfl rfl rfl rfl rfl rfl rfl rfl rfl rfl rfl
  try clear_value y2
  exact State.showSlot_good h3

theorem State.updateReset_good {x1} {x2} (g1 : State.Good q n x1) :
    State.Good q n (State.updateReset x1 x2) := by
  delta State.updateReset
  refine good_ite ?_ ?_
  · exact State.updateDrop_good g1
  · exact g1

theorem State.loadSlots_good {x1} (g1 : State.Good q n x1) :
    State.Good q n (State.loadSlots x1) := by
  delta State.loadSlots
  refine State.each_good ?_ ?_
  · exact g1
  · intro x1 x3 h2
    exact State.setSlot_good h2

theorem State.pairFinish_good {x1} {x2} (g1 : State.Good q n x1) :
    State.Good q n (State.pairFinish x1 x2) := by
  delta State.pairFinish
  extract_lets -merge -underBinder +onlyGivenNames y1
  exact State.finish?_good (g1.of_eq rfl rfl rfl rfl rfl rfl rfl rfl rfl rfl rfl)

theorem State.burnWithdraw_good {x1} (g1 : State.Good q n x1) :
    State.Good q n (State.burnWithdraw x1) := by
  delta State.burnWithdraw
  split
  · exact g1
  · refine good_ite ?_ ?_
    · exact g1
    · exact State.finish?_good (State.escEnd_good (g1.of_eq rfl rfl rfl rfl rfl rfl rfl rfl rfl rfl rfl))

theorem State.authDone_good {x1} {x2} {x3} {x4} {x5} (g1 : State.Good q n x1) :
    State.Good q n (State.authDone x1 x2 x3 x4 x5) := by
  delta State.authDone
  extract_lets -merge -underBinder +onlyGivenNames y1
  have h2 : State.Good q n y1 := by subst y1; exact State.ok_good (State.sessionRecord_good g1)
  try clear_value y1
  refine State.modChan_good ?_ ?_
  · exact h2
  · intro x3 h4
    refine good_chan_ite ?_ ?_
    · exact h4.of_eq rfl rfl
    · exact h4

theorem State.entropyFailed_good {x1} (g1 : State.Good q n x1) :
    State.Good q n (State.entropyFailed x1) := by
  delta State.entropyFailed
  refine good_ite ?_ ?_
  · exact g1
  · extract_lets -merge -underBinder +onlyGivenNames y1
    have h2 : State.Good q n y1 := by subst y1; exact State.wr_good g1
    try clear_value y1
    extract_lets -merge -underBinder +onlyGivenNames y3 y4
    have h5 : State.Good q n y4 := by subst y4; exact h2.of_eq rfl rfl rfl rfl rfl rfl rfl rfl rfl rfl rfl
    try clear_value y4
    extract_lets -merge -underBinder +onlyGivenNames y6
    have h7 : State.Good q n y6 := by subst y6; exact State.fault_good (State.record_good (State.secNote_good h5))
    try clear_value y6
    exact State.recert_good h7

theorem State.secAsk_good {x1} {x2} {x3} {x4} (g1 : State.Good q n x1) :
    State.Good q n (State.secAsk x1 x2 x3 x4) := by
  delta State.secAsk
  exact State.hayAsk_good (State.secPut_good g1)

theorem State.authFailed_good {x1} {x2} {x3} (g1 : State.Good q n x1) :
    State.Good q n (State.authFailed x1 x2 x3) := by
  delta State.authFailed
  extract_lets -merge -underBinder +onlyGivenNames y1
  have h4 : State.Good q n y1 := by
    subst y1
    refine State.modChan_good ?_ ?_
    · exact g1
    · intro x2 h3
      exact h3.of_eq rfl rfl
  try clear_value y1
  extract_lets -merge -underBinder +onlyGivenNames y5
  have h6 : State.Good q n y5 := by subst y5; exact State.finish_good (State.sessionRecord_good h4)
  try clear_value y5
  refine good_ite ?_ ?_
  · exact State.lockout_good h6
  · exact h6

theorem State.secBoot_good {x1} (g1 : State.Good q n x1) :
    State.Good q n (State.secBoot x1) := by
  delta State.secBoot
  extract_lets -merge -underBinder +onlyGivenNames y1
  have h5 : State.Good q n y1 := by
    subst y1
    split
    · exact g1
    · extract_lets -merge -underBinder +onlyGivenNames y2 y3
      have h4 : State.Good q n y3 := by subst y3; exact State.wrs_good g1
      try clear_value y3
      exact h4.of_eq rfl rfl rfl rfl rfl rfl rfl rfl rfl rfl rfl
  try clear_value y1
  exact State.seed_good (State.secureBoot_good (State.loadSlots_good h5))

theorem State.secEffect_good {x1} {x2} (g1 : State.Good q n x1) :
    State.Good q n (State.secEffect x1 x2) := by
  delta State.secEffect
  split
  · exact State.finish?_good (State.keyRecord_good (State.setSlot_good (State.secDrop_good g1)))
  · exact g1
  · exact State.secNote_good (State.finish?_good (State.keyRecord_good (State.setSlot_good (State.secDrop_good g1))))
  · refine good_ite ?_ ?_
    · exact g1
    · exact State.burnAsk_good g1
  · refine good_ite ?_ ?_
    · exact g1
    · extract_lets -merge -underBinder +onlyGivenNames y1
      have h2 : State.Good q n y1 := by subst y1; exact State.setSlot_good g1
      try clear_value y1
      extract_lets -merge -underBinder +onlyGivenNames y3 y4
      have h5 : State.Good q n y4 := by subst y4; exact h2.of_eq rfl rfl rfl rfl rfl rfl rfl rfl rfl rfl rfl
      try clear_value y4
      exact State.burnAsk_good h5
  · extract_lets -merge -underBinder +onlyGivenNames y6
    have h7 : State.Good q n y6 := by subst y6; exact State.finish?_good (State.secDrop_good g1)
    try clear_value y6
    extract_lets -merge -underBinder +onlyGivenNames y8 y9
    have h10 : State.Good q n y9 := by subst y9; exact State.trialEnded_good h7
    try clear_value y9
    refine good_ite ?_ ?_
    · exact h10
    · exact State.hubFault_good h10
  · exact State.setSlot_good (State.secDrop_good g1)

theorem State.wpChange_good {x1} {x2} (g1 : State.Good q n x1) :
    State.Good q n (State.wpChange x1 x2) := by
  delta State.wpChange
  exact State.recert_good (State.wrB_good (State.wrB_good g1))

theorem State.pairEnd_good {x1} {x2} (g1 : State.Good q n x1) :
    State.Good q n (State.pairEnd x1 x2) := by
  delta State.pairEnd
  split
  · exact g1
  · refine State.secNote_good ?_
    refine State.pairFinish_good ?_
    extract_lets -merge -underBinder +onlyGivenNames y1
    have h2 : State.Good q n y1 := by subst y1; exact State.wr_good g1
    try clear_value y1
    exact h2.of_eq rfl rfl rfl rfl rfl rfl rfl rfl rfl rfl rfl

theorem State.secPageOrEffect_good {x1} {x2} (g1 : State.Good q n x1) :
    State.Good q n (State.secPageOrEffect x1 x2) := by
  delta State.secPageOrEffect
  split
  · extract_lets -merge -underBinder +onlyGivenNames y1 y2
    have h3 : State.Good q n y2 := by subst y2; exact g1.of_eq rfl rfl rfl rfl rfl rfl rfl rfl rfl rfl rfl
    try clear_value y2
    exact State.secAsk_good h3
  · exact State.secAsk_good g1
  · exact State.secEffect_good g1

theorem State.pairExpire_good {x1} (g1 : State.Good q n x1) :
    State.Good q n (State.pairExpire x1) := by
  delta State.pairExpire
  split
  · exact g1
  · refine good_ite ?_ ?_
    · exact State.pairEnd_good g1
    · exact g1

theorem State.entropyRecovered_good {x1} (g1 : State.Good q n x1) :
    State.Good q n (State.entropyRecovered x1) := by
  delta State.entropyRecovered
  refine good_ite ?_ ?_
  · extract_lets -merge -underBinder +onlyGivenNames y1
    have h2 : State.Good q n y1 := by subst y1; exact State.wr_good (State.seed_good g1)
    try clear_value y1
    exact State.recert_good (State.record_good (State.secNote_good h2))
  · exact g1

theorem State.secAction_good {x1} {x2} (g1 : State.Good q n x1) :
    State.Good q n (State.secAction x1 x2) := by
  delta State.secAction
  split
  · refine good_ite ?_ ?_
    · extract_lets -merge -underBinder +onlyGivenNames y1
      have h2 : State.Good q n y1.2 := by subst y1; exact State.random_good g1
      try clear_value y1
      extract_lets -merge -underBinder +onlyGivenNames y3
      exact State.secPageOrEffect_good (State.secPut_good h2)
    · exact State.finish?_good (State.secDrop_good g1)
  · refine good_ite ?_ ?_
    · exact State.secPageOrEffect_good g1
    · exact State.finish?_good (State.secDrop_good g1)
  · exact State.secPageOrEffect_good g1

theorem State.secNext_good {x1} {x2} (g1 : State.Good q n x1) :
    State.Good q n (State.secNext x1 x2) := by
  delta State.secNext
  split
  · exact State.secAction_good g1
  · refine good_ite ?_ ?_
    · extract_lets -merge -underBinder +onlyGivenNames y1
      exact State.secAsk_good g1
    · extract_lets -merge -underBinder +onlyGivenNames y2
      exact State.secAction_good (State.secPut_good (State.wr_good g1))

theorem State.secLoop_good {k s} (h : State.Good q n s) : State.Good q n (State.secLoop k s) := by
  induction k generalizing s with
  | zero => exact h
  | succ k ih =>
    unfold State.secLoop
    split
    · rename_i e1 e2
      cases e1
      exact good_ite h (ih (State.secNext_good h))
    · exact h

theorem State.secAdvance_good {x1} (g1 : State.Good q n x1) :
    State.Good q n (State.secAdvance x1) := by
  delta State.secAdvance
  exact State.secLoop_good g1

theorem State.secStart_good {x1} {x2} {x3} {x4} (g1 : State.Good q n x1) :
    State.Good q n (State.secStart x1 x2 x3 x4) := by
  delta State.secStart
  extract_lets -merge -underBinder +onlyGivenNames y1
  exact State.secAdvance_good (g1.of_eq rfl rfl rfl rfl rfl rfl rfl rfl rfl rfl rfl)

theorem State.trialExpired_good {x1} (g1 : State.Good q n x1) :
    State.Good q n (State.trialExpired x1) := by
  delta State.trialExpired
  refine good_ite ?_ ?_
  · exact State.secStart_good g1
  · exact g1

theorem State.trialStart_good {x1} (g1 : State.Good q n x1) :
    State.Good q n (State.trialStart x1) := by
  delta State.trialStart
  extract_lets -merge -underBinder +onlyGivenNames y1
  have h2 : State.Good q n y1 := by subst y1; exact State.wrs_good g1
  try clear_value y1
  extract_lets -merge -underBinder +onlyGivenNames y3
  have h4 : State.Good q n y3 := by
    subst y3
    refine good_ite ?_ ?_
    · exact State.secNote_good (State.updateRecord_good h2)
    · exact g1
  try clear_value y3
  refine good_ite ?_ ?_
  · exact State.secStart_good h4
  · exact h4

theorem State.destroyKeys_good {x1} (g1 : State.Good q n x1) :
    State.Good q n (State.destroyKeys x1) := by
  delta State.destroyKeys
  extract_lets -merge -underBinder +onlyGivenNames y1 y2
  have h3 : State.Good q n y2 := by subst y2; exact g1.of_eq rfl rfl rfl rfl rfl rfl rfl rfl rfl rfl rfl
  try clear_value y2
  extract_lets -merge -underBinder +onlyGivenNames y4
  have h8 : State.Good q n y4 := by
    subst y4
    refine State.each_good ?_ ?_
    · exact h3
    · intro x5 x7 h6
      exact State.showSlot_good h6
  try clear_value y4
  refine State.each_good ?_ ?_
  · exact State.wr_good h8
  · intro x9 x11 h10
    exact State.secStart_good h10

theorem State.trialStage_good {x1} (g1 : State.Good q n x1) :
    State.Good q n (State.trialStage x1) := by
  delta State.trialStage
  refine good_ite ?_ ?_
  · exact State.trialExpired_good (State.wr_good g1)
  · exact g1

theorem State.eraseAgain_good {x1} (g1 : State.Good q n x1) :
    State.Good q n (State.eraseAgain x1) := by
  delta State.eraseAgain
  refine good_ite ?_ ?_
  · refine State.each_good ?_ ?_
    · exact g1
    · intro x1 x3 h2
      exact State.secStart_good h2
  · exact g1

theorem State.burnEnd_good {s} (h : State.Good q n s) : State.Good q n (State.burnEnd s) := by
  unfold State.burnEnd
  split
  · exact h
  · refine good_ite h ?_
    extract_lets -merge -underBinder +onlyGivenNames old pair src sec y1 y2 y3 cert y4
    have h0 : State.Good q n src := State.wr_good h
    have h1 : State.Good q n y1 := State.escEnd_good (h0.of_eq rfl rfl rfl rfl rfl rfl rfl rfl rfl rfl rfl)
    have h2 : State.Good q n y2 := State.showSlot_good (State.record_good h1)
    have h3 : State.Good q n y3 := State.finish?_good h2
    have h4 : State.Good q n y4 := State.recert_good h3
    exact good_ite (State.closeChannels_good (State.destroyKeys_good (State.finish?_good (good_ite (State.secNote_good h4) h4))))
      (State.secAdvance_good h4)

theorem State.secFirstTick_good {x1} (g1 : State.Good q n x1) :
    State.Good q n (State.secFirstTick x1) := by
  delta State.secFirstTick
  extract_lets -merge -underBinder +onlyGivenNames y1 y2
  have h3 : State.Good q n y2 := by subst y2; exact State.record_good g1
  try clear_value y2
  extract_lets -merge -underBinder +onlyGivenNames y4
  have h5 : State.Good q n y4 := by
    subst y4
    refine good_ite ?_ ?_
    · exact h3
    · exact State.fault_good h3
  try clear_value y4
  exact State.recert_good (State.eraseAgain_good (State.trialStart_good h5))

/-! ### SecurityCommands -/

theorem State.updateVerified_good {x1} {x2} (g1 : State.Good q n x1) :
    State.Good q n (State.updateVerified x1 x2) := by
  delta State.updateVerified
  extract_lets -merge -underBinder +onlyGivenNames y1
  have h2 : State.Good q n y1 := by subst y1; exact State.bankWrite_good g1
  try clear_value y1
  extract_lets -merge -underBinder +onlyGivenNames y3
  have h4 : State.Good q n y3 := by subst y3; exact State.wr_good h2
  try clear_value y3
  extract_lets -merge -underBinder +onlyGivenNames y5 y6
  have h7 : State.Good q n y6 := by subst y6; exact h4.of_eq rfl rfl rfl rfl rfl rfl rfl rfl rfl rfl rfl
  try clear_value y6
  exact State.updateRecord_good h7

theorem execLockoutEnd_good {x1} {x2} (g2 : State.Good q n x2) :
    State.GoodOut q n (execLockoutEnd x1 x2) := by
  delta execLockoutEnd
  exact good_next (State.lockoutEnd_good g2)

theorem State.pairStart_good {x1} {x2} {x3} (g1 : State.Good q n x1) :
    State.Good q n (State.pairStart x1 x2 x3) := by
  delta State.pairStart
  extract_lets -merge -underBinder +onlyGivenNames y1
  have h2 : State.Good q n y1.2 := by subst y1; exact State.random_good g1
  try clear_value y1
  extract_lets -merge -underBinder +onlyGivenNames y3
  have h4 : State.Good q n y3.2 := by subst y3; exact State.random_good h2
  try clear_value y3
  extract_lets -merge -underBinder +onlyGivenNames y5 y6 y7
  refine State.pairCode_good ?_
  refine State.accepted_good ?_
  extract_lets -merge -underBinder +onlyGivenNames y8
  have h9 : State.Good q n y8 := by subst y8; exact h4
  try clear_value y8
  exact h9.of_eq rfl rfl rfl rfl rfl rfl rfl rfl rfl rfl rfl

theorem State.subCommand_good {s r p} {l : List (State → Ref → Bytes → State)} (h : State.Good q n s)
    (hl : ∀ f ∈ l, ∀ t r p, State.Good q n t → State.Good q n (f t r p)) : State.Good q n (State.subCommand s r p l) := by
  unfold State.subCommand
  refine good_ite (State.finish_good h) ?_
  split
  · exact State.finish_good h
  · rename_i f e
    exact hl f (List.mem_of_getElem? e) _ _ _ h

theorem execHandshakeLapse_good {x1} {x2} (g2 : State.Good q n x2) :
    State.GoodOut q n (execHandshakeLapse x1 x2) := by
  delta execHandshakeLapse
  exact good_next (State.helloLapse_good g2)

theorem State.updateBegin_good {x1} {x2} {x3} (g1 : State.Good q n x1) :
    State.Good q n (State.updateBegin x1 x2 x3) := by
  delta State.updateBegin
  extract_lets -merge -underBinder +onlyGivenNames y1
  have h2 : State.Good q n y1 := by subst y1; exact State.accepted_good g1
  try clear_value y1
  refine good_ite ?_ ?_
  · exact State.finish_good h2
  · extract_lets -merge -underBinder +onlyGivenNames y3 y4
    have h5 : State.Good q n y4 := by subst y4; exact State.bankWrite_good (State.bankErase_good h2)
    try clear_value y4
    refine State.ok_good ?_
    extract_lets -merge -underBinder +onlyGivenNames y6
    have h7 : State.Good q n y6 := by subst y6; exact State.wrs_good h5
    try clear_value y6
    exact h7.of_eq rfl rfl rfl rfl rfl rfl rfl rfl rfl rfl rfl

theorem State.doSecRandom_good {x1} {x2} {x3} (g1 : State.Good q n x1) :
    State.Good q n (State.doSecRandom x1 x2 x3) := by
  delta State.doSecRandom
  refine State.checked_good ?_ ?_
  · exact g1
  · intro x1 h2
    extract_lets -merge -underBinder +onlyGivenNames y3
    have h4 : State.Good q n y3.2 := by subst y3; exact State.random_good h2
    try clear_value y3
    exact State.ok_good h4

theorem execDrbgReseed_good {x1} (g1 : State.Good q n x1) :
    State.GoodOut q n (execDrbgReseed x1) := by
  delta execDrbgReseed
  exact good_next (State.reseed_good g1)

theorem State.subRow_good {x1} {x2} {x3} {x4} {x5} (g1 : State.Good q n x1) (g5 : ∀ z1 z2 z3, State.Good q n z1 → State.Good q n (x5 z1 z2 z3)) :
    State.Good q n (State.subRow x1 x2 x3 x4 x5) := by
  delta State.subRow
  refine State.command_good ?_ ?_
  · exact g1
  · intro x1 x3 x4 h2
    refine g5 _ _ _ ?_
    exact h2

theorem execSecRandom_good {x1} {x2} (g2 : State.Good q n x2) :
    State.GoodOut q n (execSecRandom x1 x2) := by
  delta execSecRandom
  refine good_next ?_
  refine State.command_good ?_ ?_
  · exact g2
  · intro x1 x3 x4 h2
    exact State.doSecRandom_good h2

theorem State.doSecCryptOpen_good {x1} {x2} {x3} (g1 : State.Good q n x1) :
    State.Good q n (State.doSecCryptOpen x1 x2 x3) := by
  delta State.doSecCryptOpen
  refine State.checked_good ?_ ?_
  · exact g1
  · intro x1 h2
    extract_lets -merge -underBinder +onlyGivenNames y3
    try clear_value y3
    split
    · exact State.finish_good h2
    · exact State.ok_good h2

theorem State.doSecPairStart_good {x1} {x2} {x3} (g1 : State.Good q n x1) :
    State.Good q n (State.doSecPairStart x1 x2 x3) := by
  delta State.doSecPairStart
  refine State.checked_good ?_ ?_
  · exact g1
  · intro x1 h2
    refine good_ite ?_ ?_
    · exact State.finish_good (State.pairFinish_good h2)
    · refine good_ite ?_ ?_
      · exact State.finish_good h2
      · exact State.pairStart_good h2

theorem State.doSecUpdateAbort_good {x1} {x2} {x3} (g1 : State.Good q n x1) :
    State.Good q n (State.doSecUpdateAbort x1 x2 x3) := by
  delta State.doSecUpdateAbort
  refine State.checked_good ?_ ?_
  · exact g1
  · intro x1 h2
    exact State.ok_good (State.updateDrop_good h2)

theorem execSecCryptOpen_good {x1} {x2} (g2 : State.Good q n x2) :
    State.GoodOut q n (execSecCryptOpen x1 x2) := by
  delta execSecCryptOpen
  refine good_next ?_
  refine State.subRow_good ?_ ?_
  · exact g2
  · intro x1 x3 x4 h2
    exact State.doSecCryptOpen_good h2

theorem State.updateEnd_good {x1} {x2} (g1 : State.Good q n x1) :
    State.Good q n (State.updateEnd x1 x2) := by
  delta State.updateEnd
  split
  · exact g1
  · extract_lets -merge -underBinder +onlyGivenNames y1
    have h2 : State.Good q n y1 := by subst y1; exact State.accepted_good g1
    try clear_value y1
    refine good_ite ?_ ?_
    · exact State.finish_good h2
    · refine good_ite ?_ ?_
      · exact State.ok_good (State.updateVerified_good h2)
      · exact State.finish_good h2

theorem State.updateData_good {x1} {x2} {x3} (g1 : State.Good q n x1) :
    State.Good q n (State.updateData x1 x2 x3) := by
  delta State.updateData
  split
  · exact g1
  · refine good_ite ?_ ?_
    · exact State.finish_good g1
    · exact State.ok_good (State.wr_good (State.bankWrite_good g1))

theorem State.helloStart_good {x1} {x2} {x3} (g1 : State.Good q n x1) :
    State.Good q n (State.helloStart x1 x2 x3) := by
  delta State.helloStart
  extract_lets -merge -underBinder +onlyGivenNames y1 y2
  have h3 : State.Good q n y2.2 := by subst y2; exact State.random_good g1
  try clear_value y2
  extract_lets -merge -underBinder +onlyGivenNames y4
  have h5 : State.Good q n y4.2 := by
    subst y4
    refine good_snd_ite ?_ ?_
    · exact State.random_good h3
    · exact good_mk_snd h3
  try clear_value y4
  extract_lets -merge -underBinder +onlyGivenNames y6 y7
  refine State.ok_good ?_
  refine State.modChan_good ?_ ?_
  · exact State.accepted_good h5
  · intro x8 h9
    exact h9.of_eq rfl rfl

theorem State.doSecUpdateBegin_good {x1} {x2} {x3} (g1 : State.Good q n x1) :
    State.Good q n (State.doSecUpdateBegin x1 x2 x3) := by
  delta State.doSecUpdateBegin
  extract_lets -merge -underBinder +onlyGivenNames y1
  refine good_ite ?_ ?_
  · exact State.finish_good g1
  · refine good_ite ?_ ?_
    · exact State.finish_good g1
    · refine State.checked_good ?_ ?_
      · exact g1
      · intro x2 h3
        exact State.updateBegin_good h3

theorem State.doSecCryptSeal_good {x1} {x2} {x3} (g1 : State.Good q n x1) :
    State.Good q n (State.doSecCryptSeal x1 x2 x3) := by
  delta State.doSecCryptSeal
  refine State.checked_good ?_ ?_
  · exact g1
  · intro x1 h2
    refine good_ite ?_ ?_
    · exact State.finish_good h2
    · extract_lets -merge -underBinder +onlyGivenNames y3
      have h4 : State.Good q n y3.2 := by subst y3; exact State.random_good h2
      try clear_value y3
      exact State.ok_good h4

theorem State.doSecUpdateEnd_good {x1} {x2} {x3} (g1 : State.Good q n x1) :
    State.Good q n (State.doSecUpdateEnd x1 x2 x3) := by
  delta State.doSecUpdateEnd
  refine State.checked_good ?_ ?_
  · exact g1
  · intro x1 h2
    exact State.updateEnd_good h2

theorem execSecCryptSeal_good {x1} {x2} (g2 : State.Good q n x2) :
    State.GoodOut q n (execSecCryptSeal x1 x2) := by
  delta execSecCryptSeal
  refine good_next ?_
  refine State.subRow_good ?_ ?_
  · exact g2
  · intro x1 x3 x4 h2
    exact State.doSecCryptSeal_good h2

theorem execSecPairStart_good {x1} {x2} (g2 : State.Good q n x2) :
    State.GoodOut q n (execSecPairStart x1 x2) := by
  delta execSecPairStart
  refine good_next ?_
  refine State.subRow_good ?_ ?_
  · exact g2
  · intro x1 x3 x4 h2
    exact State.doSecPairStart_good h2

theorem State.doSecUpdateData_good {x1} {x2} {x3} (g1 : State.Good q n x1) :
    State.Good q n (State.doSecUpdateData x1 x2 x3) := by
  delta State.doSecUpdateData
  extract_lets -merge -underBinder +onlyGivenNames y1
  refine good_ite ?_ ?_
  · exact State.finish_good g1
  · refine good_ite ?_ ?_
    · extract_lets -merge -underBinder +onlyGivenNames y2
      have h3 : State.Good q n y2.2 := by subst y2; exact State.draw_good g1
      try clear_value y2
      exact State.finish_good h3
    · refine State.checked_good ?_ ?_
      · exact g1
      · intro x4 h5
        exact State.updateData_good h5

theorem State.doSecAuth_good {s r p} (h : State.Good q n s) : State.Good q n (State.doSecAuth s r p) := by
  unfold State.doSecAuth
  extract_lets g alone
  refine State.checked_good h fun t ht => ?_
  clear_value g
  split
  · exact ht
  · extract_lets y
    have hy : State.Good q n y := State.modChan_good (State.accepted_good ht) fun _ hx => hx.of_eq rfl rfl
    clear_value y
    split
    · exact State.authFailed_good hy
    · exact State.authDone_good hy

theorem execSecUpdateEnd_good {x1} {x2} (g2 : State.Good q n x2) :
    State.GoodOut q n (execSecUpdateEnd x1 x2) := by
  delta execSecUpdateEnd
  refine good_next ?_
  refine State.subRow_good ?_ ?_
  · exact g2
  · intro x1 x3 x4 h2
    exact State.doSecUpdateEnd_good h2

theorem execSecUpdateAbort_good {x1} {x2} (g2 : State.Good q n x2) :
    State.GoodOut q n (execSecUpdateAbort x1 x2) := by
  delta execSecUpdateAbort
  refine good_next ?_
  refine State.subRow_good ?_ ?_
  · exact g2
  · intro x1 x3 x4 h2
    exact State.doSecUpdateAbort_good h2

theorem State.doSecCrypt_good {s r p} (h : State.Good q n s) : State.Good q n (State.doSecCrypt s r p) := by
  refine State.subCommand_good h fun f hf => ?_
  simp only [List.mem_cons, List.not_mem_nil, or_false] at hf
  rcases hf with rfl | rfl <;> intro t r p ht
  · exact State.doSecCryptSeal_good ht
  · exact State.doSecCryptOpen_good ht

theorem State.doSecPairOpen_good {x1} {x2} {x3} (g1 : State.Good q n x1) :
    State.Good q n (State.doSecPairOpen x1 x2 x3) := by
  delta State.doSecPairOpen
  extract_lets -merge -underBinder +onlyGivenNames y1
  refine State.checked_good ?_ ?_
  · exact g1
  · intro x2 h3
    extract_lets -merge -underBinder +onlyGivenNames y4
    have h5 : State.Good q n y4 := by subst y4; exact State.pairEnd_good h3
    try clear_value y4
    refine State.ok_good ?_
    extract_lets -merge -underBinder +onlyGivenNames y6
    have h7 : State.Good q n y6 := by subst y6; exact State.wr_good h5
    try clear_value y6
    exact h7.of_eq rfl rfl rfl rfl rfl rfl rfl rfl rfl rfl rfl

theorem execEntropyFail_good {x1} (g1 : State.Good q n x1) :
    State.GoodOut q n (execEntropyFail x1) := by
  delta execEntropyFail
  exact good_next (State.entropyFailed_good g1)

theorem State.doSecHello_good {x1} {x2} {x3} (g1 : State.Good q n x1) :
    State.Good q n (State.doSecHello x1 x2 x3) := by
  delta State.doSecHello
  extract_lets -merge -underBinder +onlyGivenNames y1 y2
  refine State.checked_good ?_ ?_
  · exact g1
  · intro x3 h4
    exact State.helloStart_good h4

theorem execNvmWpChange_good {x1} {x2} (g2 : State.Good q n x2) :
    State.GoodOut q n (execNvmWpChange x1 x2) := by
  delta execNvmWpChange
  exact good_next (State.wpChange_good g2)

theorem execSecUpdateBegin_good {x1} {x2} (g2 : State.Good q n x2) :
    State.GoodOut q n (execSecUpdateBegin x1 x2) := by
  delta execSecUpdateBegin
  refine good_next ?_
  refine State.subRow_good ?_ ?_
  · exact g2
  · intro x1 x3 x4 h2
    exact State.doSecUpdateBegin_good h2

theorem execSecUpdateData_good {x1} {x2} (g2 : State.Good q n x2) :
    State.GoodOut q n (execSecUpdateData x1 x2) := by
  delta execSecUpdateData
  refine good_next ?_
  refine State.subRow_good ?_ ?_
  · exact g2
  · intro x1 x3 x4 h2
    exact State.doSecUpdateData_good h2

theorem execPairingWindowEnd_good {x1} (g1 : State.Good q n x1) :
    State.GoodOut q n (execPairingWindowEnd x1) := by
  delta execPairingWindowEnd
  exact good_next (State.pairExpire_good g1)

theorem execSecHello_good {x1} {x2} (g2 : State.Good q n x2) :
    State.GoodOut q n (execSecHello x1 x2) := by
  delta execSecHello
  refine good_next ?_
  refine State.command_good ?_ ?_
  · exact g2
  · intro x1 x3 x4 h2
    exact State.doSecHello_good h2

theorem execSecPairOpen_good {x1} {x2} (g2 : State.Good q n x2) :
    State.GoodOut q n (execSecPairOpen x1 x2) := by
  delta execSecPairOpen
  refine good_next ?_
  refine State.subRow_good ?_ ?_
  · exact g2
  · intro x1 x3 x4 h2
    exact State.doSecPairOpen_good h2

theorem execSecAuth_good {x1} {x2} (g2 : State.Good q n x2) :
    State.GoodOut q n (execSecAuth x1 x2) := by
  delta execSecAuth
  refine good_next ?_
  refine State.command_good ?_ ?_
  · exact g2
  · intro x1 x3 x4 h2
    exact State.doSecAuth_good h2

theorem execTrialExpire_good {x1} (g1 : State.Good q n x1) :
    State.GoodOut q n (execTrialExpire x1) := by
  delta execTrialExpire
  exact good_next (State.trialExpired_good g1)

theorem State.provision_good {x1} {x2} {x3} (g1 : State.Good q n x1) :
    State.Good q n (State.provision x1 x2 x3) := by
  delta State.provision
  refine good_ite ?_ ?_
  · exact State.finish_good g1
  · extract_lets -merge -underBinder +onlyGivenNames y1
    have h2 : State.Good q n y1.2 := by subst y1; exact State.random_good (State.accepted_good g1)
    try clear_value y1
    exact State.secStart_good h2

theorem State.pairAnswer_good {x1} {x2} (g1 : State.Good q n x1) :
    State.Good q n (State.pairAnswer x1 x2) := by
  delta State.pairAnswer
  split
  · refine good_ite ?_ ?_
    · extract_lets -merge -underBinder +onlyGivenNames y1
      have h2 : State.Good q n y1 := by subst y1; exact State.wr_good g1
      try clear_value y1
      extract_lets -merge -underBinder +onlyGivenNames y3 y4
      have h5 : State.Good q n y4 := by subst y4; exact h2.of_eq rfl rfl rfl rfl rfl rfl rfl rfl rfl rfl rfl
      try clear_value y4
      exact State.secStart_good h5
    · exact State.pairEnd_good g1
  · exact g1

theorem State.doSecKeyGen_good {x1} {x2} {x3} (g1 : State.Good q n x1) :
    State.Good q n (State.doSecKeyGen x1 x2 x3) := by
  delta State.doSecKeyGen
  extract_lets -merge -underBinder +onlyGivenNames y1
  refine State.checked_good ?_ ?_
  · exact g1
  · intro x2 h3
    exact State.secStart_good (State.accepted_good h3)

theorem State.doSecKeyDelete_good {x1} {x2} {x3} (g1 : State.Good q n x1) :
    State.Good q n (State.doSecKeyDelete x1 x2 x3) := by
  delta State.doSecKeyDelete
  extract_lets -merge -underBinder +onlyGivenNames y1
  refine State.checked_good ?_ ?_
  · exact g1
  · intro x2 h3
    exact State.secStart_good (State.accepted_good h3)

theorem State.doSecKeyPut_good {x1} {x2} {x3} (g1 : State.Good q n x1) :
    State.Good q n (State.doSecKeyPut x1 x2 x3) := by
  delta State.doSecKeyPut
  extract_lets -merge -underBinder +onlyGivenNames y1 y2
  refine State.checked_good ?_ ?_
  · exact g1
  · intro x3 h4
    exact State.secStart_good (State.accepted_good h4)

theorem State.lifecycleSigned_good {x1} {x2} {x3} {x4} (g1 : State.Good q n x1) :
    State.Good q n (State.lifecycleSigned x1 x2 x3 x4) := by
  delta State.lifecycleSigned
  refine State.checked_good ?_ ?_
  · exact g1
  · intro x1 h2
    exact State.secStart_good (State.accepted_good h2)

theorem State.doSecLifecycleProvision_good {x1} {x2} {x3} (g1 : State.Good q n x1) :
    State.Good q n (State.doSecLifecycleProvision x1 x2 x3) := by
  delta State.doSecLifecycleProvision
  extract_lets -merge -underBinder +onlyGivenNames y1
  refine State.checked_good ?_ ?_
  · exact g1
  · intro x2 h3
    exact State.provision_good h3

theorem State.doSecKey_good {s r p} (h : State.Good q n s) : State.Good q n (State.doSecKey s r p) := by
  refine State.subCommand_good h fun f hf => ?_
  simp only [List.mem_cons, List.not_mem_nil, or_false] at hf
  rcases hf with rfl | rfl | rfl <;> intro t r p ht
  · exact State.doSecKeyPut_good ht
  · exact State.doSecKeyGen_good ht
  · exact State.doSecKeyDelete_good ht

theorem State.doSecUpdateConfirm_good {x1} {x2} {x3} (g1 : State.Good q n x1) :
    State.Good q n (State.doSecUpdateConfirm x1 x2 x3) := by
  delta State.doSecUpdateConfirm
  refine State.checked_good ?_ ?_
  · exact g1
  · intro x1 h2
    exact State.secStart_good h2

theorem State.doSecPairConfirm_good {x1} {x2} {x3} (g1 : State.Good q n x1) :
    State.Good q n (State.doSecPairConfirm x1 x2 x3) := by
  delta State.doSecPairConfirm
  refine State.checked_good ?_ ?_
  · exact g1
  · intro x1 h2
    exact State.pairAnswer_good (State.ok_good h2)

theorem execSecKeyPut_good {x1} {x2} (g2 : State.Good q n x2) :
    State.GoodOut q n (execSecKeyPut x1 x2) := by
  delta execSecKeyPut
  refine good_next ?_
  refine State.subRow_good ?_ ?_
  · exact g2
  · intro x1 x3 x4 h2
    exact State.doSecKeyPut_good h2

theorem execSecKeyGen_good {x1} {x2} (g2 : State.Good q n x2) :
    State.GoodOut q n (execSecKeyGen x1 x2) := by
  delta execSecKeyGen
  refine good_next ?_
  refine State.subRow_good ?_ ?_
  · exact g2
  · intro x1 x3 x4 h2
    exact State.doSecKeyGen_good h2

theorem State.doSecLifecycleReturn_good {x1} {x2} {x3} (g1 : State.Good q n x1) :
    State.Good q n (State.doSecLifecycleReturn x1 x2 x3) := by
  delta State.doSecLifecycleReturn
  exact State.lifecycleSigned_good g1

theorem execSecLifecycleReturn_good {x1} {x2} (g2 : State.Good q n x2) :
    State.GoodOut q n (execSecLifecycleReturn x1 x2) := by
  delta execSecLifecycleReturn
  refine good_next ?_
  refine State.subRow_good ?_ ?_
  · exact g2
  · intro x1 x3 x4 h2
    exact State.doSecLifecycleReturn_good h2

theorem State.doSecUpdate_good {s r p} (h : State.Good q n s) : State.Good q n (State.doSecUpdate s r p) := by
  refine State.subCommand_good h fun f hf => ?_
  simp only [List.mem_cons, List.not_mem_nil, or_false] at hf
  rcases hf with rfl | rfl | rfl | rfl | rfl <;> intro t r p ht
  · exact State.doSecUpdateBegin_good ht
  · exact State.doSecUpdateData_good ht
  · exact State.doSecUpdateEnd_good ht
  · exact State.doSecUpdateConfirm_good ht
  · exact State.doSecUpdateAbort_good ht

theorem State.doSecPair_good {s r p} (h : State.Good q n s) : State.Good q n (State.doSecPair s r p) := by
  refine State.subCommand_good h fun f hf => ?_
  simp only [List.mem_cons, List.not_mem_nil, or_false] at hf
  rcases hf with rfl | rfl | rfl <;> intro t r p ht
  · exact State.doSecPairOpen_good ht
  · exact State.doSecPairStart_good ht
  · exact State.doSecPairConfirm_good ht

theorem execSecKeyDelete_good {x1} {x2} (g2 : State.Good q n x2) :
    State.GoodOut q n (execSecKeyDelete x1 x2) := by
  delta execSecKeyDelete
  refine good_next ?_
  refine State.subRow_good ?_ ?_
  · exact g2
  · intro x1 x3 x4 h2
    exact State.doSecKeyDelete_good h2

theorem execSecLifecycleProvision_good {x1} {x2} (g2 : State.Good q n x2) :
    State.GoodOut q n (execSecLifecycleProvision x1 x2) := by
  delta execSecLifecycleProvision
  refine good_next ?_
  refine State.subRow_good ?_ ?_
  · exact g2
  · intro x1 x3 x4 h2
    exact State.doSecLifecycleProvision_good h2

theorem State.doSecLifecycleField_good {x1} {x2} {x3} (g1 : State.Good q n x1) :
    State.Good q n (State.doSecLifecycleField x1 x2 x3) := by
  delta State.doSecLifecycleField
  exact State.lifecycleSigned_good g1

theorem execSecLifecycleField_good {x1} {x2} (g2 : State.Good q n x2) :
    State.GoodOut q n (execSecLifecycleField x1 x2) := by
  delta execSecLifecycleField
  refine good_next ?_
  refine State.subRow_good ?_ ?_
  · exact g2
  · intro x1 x3 x4 h2
    exact State.doSecLifecycleField_good h2

theorem execSecUpdateConfirm_good {x1} {x2} (g2 : State.Good q n x2) :
    State.GoodOut q n (execSecUpdateConfirm x1 x2) := by
  delta execSecUpdateConfirm
  refine good_next ?_
  refine State.subRow_good ?_ ?_
  · exact g2
  · intro x1 x3 x4 h2
    exact State.doSecUpdateConfirm_good h2

theorem execFuseBurnEnd_good {x1} (g1 : State.Good q n x1) :
    State.GoodOut q n (execFuseBurnEnd x1) := by
  delta execFuseBurnEnd
  exact good_next (State.burnEnd_good g1)

theorem execSecPairConfirm_good {x1} {x2} (g2 : State.Good q n x2) :
    State.GoodOut q n (execSecPairConfirm x1 x2) := by
  delta execSecPairConfirm
  refine good_next ?_
  refine State.subRow_good ?_ ?_
  · exact g2
  · intro x1 x3 x4 h2
    exact State.doSecPairConfirm_good h2

theorem State.doSecLifecycle_good {s r p} (h : State.Good q n s) : State.Good q n (State.doSecLifecycle s r p) := by
  refine State.subCommand_good h fun f hf => ?_
  simp only [List.mem_cons, List.not_mem_nil, or_false] at hf
  rcases hf with rfl | rfl | rfl | rfl <;> intro t r p ht
  · exact State.finish_good ht
  · exact State.doSecLifecycleProvision_good ht
  · exact State.doSecLifecycleField_good ht
  · exact State.doSecLifecycleReturn_good ht

/-! ### Console -/

theorem State.consoleSend_good {x1} {x2} {x3} (g1 : State.Good q n x1) :
    State.Good q n (State.consoleSend x1 x2 x3) := by
  delta State.consoleSend
  refine good_ite ?_ ?_
  · extract_lets -merge -underBinder +onlyGivenNames y1 y2 y3
    have h4 : State.Good q n y3 := by subst y3; exact g1.of_eq rfl rfl rfl rfl rfl rfl rfl rfl rfl rfl rfl
    try clear_value y3
    refine State.modChan_good ?_ ?_
    · exact h4
    · intro x5 h6
      exact h6.of_eq rfl rfl
  · exact g1

theorem State.consoleAsk_good {x1} {x2} {x3} {x4} {x5} (g1 : State.Good q n x1) :
    State.Good q n (State.consoleAsk x1 x2 x3 x4 x5) := by
  delta State.consoleAsk
  extract_lets -merge -underBinder +onlyGivenNames y1 y2
  have h3 : State.Good q n y2 := by subst y2; exact State.consoleSend_good g1
  try clear_value y2
  exact h3.of_eq rfl rfl rfl rfl rfl rfl rfl rfl rfl rfl rfl

theorem State.consoleTold_good {x1} {x2} {x3} (g1 : State.Good q n x1) :
    State.Good q n (State.consoleTold x1 x2 x3) := by
  delta State.consoleTold
  exact State.event_good g1

theorem State.consoleDraw_good {x1} (g1 : State.Good q n x1) :
    State.Good q n (State.consoleDraw x1) := by
  delta State.consoleDraw
  exact g1.of_eq rfl rfl rfl rfl rfl rfl rfl rfl rfl rfl rfl

theorem State.consolePaint_good {x1} (g1 : State.Good q n x1) :
    State.Good q n (State.consolePaint x1) := by
  delta State.consolePaint
  split
  · exact g1
  · extract_lets -merge -underBinder +onlyGivenNames y1
    have h2 : State.Good q n y1 := by subst y1; exact State.consoleSend_good g1
    try clear_value y1
    exact h2.of_eq rfl rfl rfl rfl rfl rfl rfl rfl rfl rfl rfl
  · extract_lets -merge -underBinder +onlyGivenNames y3
    have h4 : State.Good q n y3.2 := by subst y3; exact State.draw_good g1
    try clear_value y3
    extract_lets -merge -underBinder +onlyGivenNames y5
    have h6 : State.Good q n y5 := by subst y5; exact State.consoleSend_good h4
    try clear_value y5
    exact h6.of_eq rfl rfl rfl rfl rfl rfl rfl rfl rfl rfl rfl

theorem State.consoleShow_good {x1} {x2} (g1 : State.Good q n x1) :
    State.Good q n (State.consoleShow x1 x2) := by
  delta State.consoleShow
  exact State.consoleDraw_good (g1.of_eq rfl rfl rfl rfl rfl rfl rfl rfl rfl rfl rfl)

theorem State.consoleOpens_good {x1} (g1 : State.Good q n x1) :
    State.Good q n (State.consoleOpens x1) := by
  delta State.consoleOpens
  refine good_ite ?_ ?_
  · exact g1
  · exact State.consoleTold_good (State.consoleDraw_good (g1.of_eq rfl rfl rfl rfl rfl rfl rfl rfl rfl rfl rfl))

theorem State.restartKey_good {x1} {x2} (g1 : State.Good q n x1) :
    State.Good q n (State.restartKey x1 x2) := by
  delta State.restartKey
  extract_lets -merge -underBinder +onlyGivenNames y1
  try clear_value y1
  extract_lets -merge -underBinder +onlyGivenNames y2
  try clear_value y2
  split
  · exact State.consoleDraw_good (g1.of_eq rfl rfl rfl rfl rfl rfl rfl rfl rfl rfl rfl)
  · exact State.consoleDraw_good (g1.of_eq rfl rfl rfl rfl rfl rfl rfl rfl rfl rfl rfl)
  · split
    · exact g1
    · exact State.consoleDraw_good (State.consoleAsk_good g1)
  · exact State.consoleShow_good g1
  · exact g1

theorem State.consolePaints_good {k s} (h : State.Good q n s) : State.Good q n (State.consolePaints k s) := by
  induction k generalizing s with
  | zero => exact h
  | succ k ih => exact good_ite h (ih (State.consolePaint_good h))

theorem State.pairKeyed_good {x1} {x2} (g1 : State.Good q n x1) :
    State.Good q n (State.pairKeyed x1 x2) := by
  delta State.pairKeyed
  refine good_ite ?_ ?_
  · refine good_ite ?_ ?_
    · exact State.consoleDraw_good (State.consoleAsk_good g1)
    · refine good_ite ?_ ?_
      · exact State.consoleDraw_good (State.consoleAsk_good g1)
      · exact g1
  · refine good_ite ?_ ?_
    · exact State.consoleShow_good g1
    · exact g1

theorem State.consoleReply_good {x1} {x2} (g1 : State.Good q n x1) :
    State.Good q n (State.consoleReply x1 x2) := by
  delta State.consoleReply
  extract_lets -merge -underBinder +onlyGivenNames y1 y2
  have h3 : State.Good q n y2 := by subst y2; exact g1.of_eq rfl rfl rfl rfl rfl rfl rfl rfl rfl rfl rfl
  try clear_value y2
  split
  · refine good_ite ?_ ?_
    · exact State.consoleShow_good h3
    · exact State.consoleShow_good h3
  · exact State.consoleShow_good h3
  · exact h3

theorem State.consoleTake_good {x1} {x2} (g1 : State.Good q n x1) :
    State.Good q n (State.consoleTake x1 x2) := by
  delta State.consoleTake
  extract_lets -merge -underBinder +onlyGivenNames y1 y2
  have h3 : State.Good q n y2 := by subst y2; exact g1.of_eq rfl rfl rfl rfl rfl rfl rfl rfl rfl rfl rfl
  try clear_value y2
  split
  · split
    · exact State.consoleShow_good h3
    · exact State.consoleDraw_good (State.consoleAsk_good h3)
  · exact State.consoleShow_good h3

theorem State.commissionKey_good {x1} {x2} (g1 : State.Good q n x1) :
    State.Good q n (State.commissionKey x1 x2) := by
  delta State.commissionKey
  extract_lets -merge -underBinder +onlyGivenNames y1
  try clear_value y1
  refine good_ite ?_ ?_
  · exact State.consoleShow_good (g1.of_eq rfl rfl rfl rfl rfl rfl rfl rfl rfl rfl rfl)
  · refine good_ite ?_ ?_
    · exact g1
    · refine good_ite ?_ ?_
      · exact State.consoleDraw_good (g1.of_eq rfl rfl rfl rfl rfl rfl rfl rfl rfl rfl rfl)
      · refine good_ite ?_ ?_
        · refine good_ite ?_ ?_
          · exact State.consoleDraw_good (State.consoleAsk_good g1)
          · exact g1
        · split
          · exact g1
          · refine good_ite ?_ ?_
            · exact State.consoleDraw_good (g1.of_eq rfl rfl rfl rfl rfl rfl rfl rfl rfl rfl rfl)
            · exact g1

theorem State.consoleTakes_good {s} (h : State.Good q n s) : State.Good q n (State.consoleTakes s) := by
  unfold State.consoleTakes
  extract_lets l y
  have hy : State.Good q n y := State.modChan_good h fun c hc => refillOut_good ⟨Nat.zero_le _, Nat.zero_le _, Nat.zero_le _, hc.2.2.2⟩
  clear_value y
  exact State.each_good hy fun _ _ ht => good_ite (State.consoleReply_good ht) ht

theorem State.consoleCloses_good {x1} (g1 : State.Good q n x1) :
    State.Good q n (State.consoleCloses x1) := by
  delta State.consoleCloses
  refine good_ite ?_ ?_
  · extract_lets -merge -underBinder +onlyGivenNames y1 y2 y3 y4
    have h5 : State.Good q n y4 := by subst y4; exact g1.of_eq rfl rfl rfl rfl rfl rfl rfl rfl rfl rfl rfl
    try clear_value y4
    extract_lets -merge -underBinder +onlyGivenNames y6
    have h7 : State.Good q n y6 := by
      subst y6
      refine good_ite ?_ ?_
      · exact State.pairAnswer_good h5
      · exact h5
    try clear_value y6
    extract_lets -merge -underBinder +onlyGivenNames y8
    have h9 : State.Good q n y8 := by subst y8; exact State.consoleSend_good h7
    try clear_value y8
    exact State.consoleTold_good (State.consoleSend_good h9)
  · exact g1

theorem State.consoleWatch_good {x1} (g1 : State.Good q n x1) :
    State.Good q n (State.consoleWatch x1) := by
  delta State.consoleWatch
  refine good_ite ?_ ?_
  · exact State.consoleCloses_good g1
  · exact g1

theorem State.menuKey_good {x1} {x2} (g1 : State.Good q n x1) :
    State.Good q n (State.menuKey x1 x2) := by
  delta State.menuKey
  extract_lets -merge -underBinder +onlyGivenNames y1
  try clear_value y1
  extract_lets -merge -underBinder +onlyGivenNames y2
  try clear_value y2
  split
  · exact State.consoleDraw_good (g1.of_eq rfl rfl rfl rfl rfl rfl rfl rfl rfl rfl rfl)
  · exact State.consoleDraw_good (g1.of_eq rfl rfl rfl rfl rfl rfl rfl rfl rfl rfl rfl)
  · exact State.consoleTake_good g1
  · exact State.consoleCloses_good g1
  · exact g1

theorem State.consoleStage_good {x1} (g1 : State.Good q n x1) :
    State.Good q n (State.consoleStage x1) := by
  delta State.consoleStage
  refine good_ite ?_ ?_
  · extract_lets -merge -underBinder +onlyGivenNames y1 y2
    have h3 : State.Good q n y2 := by subst y2; exact g1.of_eq rfl rfl rfl rfl rfl rfl rfl rfl rfl rfl rfl
    try clear_value y2
    refine good_ite ?_ ?_
    · exact State.consoleCloses_good h3
    · exact h3
  · exact g1

theorem State.consoleKeyed_good {x1} {x2} (g1 : State.Good q n x1) :
    State.Good q n (State.consoleKeyed x1 x2) := by
  delta State.consoleKeyed
  refine good_ite ?_ ?_
  · extract_lets -merge -underBinder +onlyGivenNames y1 y2
    have h3 : State.Good q n y2 := by subst y2; exact g1.of_eq rfl rfl rfl rfl rfl rfl rfl rfl rfl rfl rfl
    try clear_value y2
    split
    · exact State.menuKey_good h3
    · exact State.commissionKey_good h3
    · exact State.restartKey_good h3
    · exact State.pairKeyed_good h3
    · refine good_ite ?_ ?_
      · exact State.consoleShow_good h3
      · exact h3
    · exact h3
    · refine good_ite ?_ ?_
      · exact State.consoleShow_good h3
      · exact h3
  · refine good_ite ?_ ?_
    · exact State.consoleOpens_good g1
    · exact g1

theorem State.consoleRun_good {x1} (g1 : State.Good q n x1) :
    State.Good q n (State.consoleRun x1) := by
  delta State.consoleRun
  extract_lets -merge -underBinder +onlyGivenNames y1
  have h2 : State.Good q n y1 := by subst y1; exact State.consoleTakes_good g1
  try clear_value y1
  extract_lets -merge -underBinder +onlyGivenNames y3 y4 y5
  have h6 : State.Good q n y5 := by subst y5; exact h2.of_eq rfl rfl rfl rfl rfl rfl rfl rfl rfl rfl rfl
  try clear_value y5
  refine State.consolePaints_good ?_
  refine State.each_good ?_ ?_
  · exact h6
  · intro x7 x9 h8
    exact State.consoleKeyed_good h8

end Sys2Proof.Machine
end

