-- ==== Sys2Proof/Laws/Good5.lean ====
section
/-!
SUPPORT. Sys2Proof/Laws/Good5.lean: the operations of Panel, Segment, Faults, Thermal, Cadence, Wake, Paddock keep
the queue, the count of slot edges and the invariant.
-/

namespace Sys2Proof.Machine

variable {q : List Instr} {n : Nat}

/-! ### Panel -/

theorem State.frameLose_good {x1} (g1 : State.Good q n x1) :
    State.Good q n (State.frameLose x1) := by
  delta State.frameLose
  exact g1.of_eq rfl rfl rfl rfl rfl rfl rfl rfl rfl rfl rfl

theorem State.latchPresent_good {x1} (g1 : State.Good q n x1) :
    State.Good q n (State.latchPresent x1) := by
  delta State.latchPresent
  extract_lets -merge -underBinder +onlyGivenNames y1 y2 y3 y4
  have h5 : State.Good q n y4 := by subst y4; exact State.wr_good g1
  try clear_value y4
  exact h5.of_eq rfl rfl rfl rfl rfl rfl rfl rfl rfl rfl rfl

theorem State.dcEdge_good {x1} (g1 : State.Good q n x1) :
    State.Good q n (State.dcEdge x1) := by
  delta State.dcEdge
  refine good_ite ?_ ?_
  · extract_lets -merge -underBinder +onlyGivenNames y1
    try clear_value y1
    extract_lets -merge -underBinder +onlyGivenNames y2
    try clear_value y2
    extract_lets -merge -underBinder +onlyGivenNames y3
    try clear_value y3
    extract_lets -merge -underBinder +onlyGivenNames y4
    try clear_value y4
    extract_lets -merge -underBinder +onlyGivenNames y5
    try clear_value y5
    extract_lets -merge -underBinder +onlyGivenNames y6 y7
    have h8 : State.Good q n y7 := by subst y7; exact g1.of_eq rfl rfl rfl rfl rfl rfl rfl rfl rfl rfl rfl
    try clear_value y7
    split
    · exact h8
    · exact State.wr_good (State.count_good h8)
  · exact g1.of_eq rfl rfl rfl rfl rfl rfl rfl rfl rfl rfl rfl

theorem State.dspClear_good {x1} (g1 : State.Good q n x1) :
    State.Good q n (State.dspClear x1) := by
  delta State.dspClear
  extract_lets -merge -underBinder +onlyGivenNames y1 y2
  have h6 : State.Good q n y2 := by
    subst y2
    refine State.each_good ?_ ?_
    · exact g1
    · intro x3 x5 h4
      exact State.clearAttr_good h4
  try clear_value y2
  extract_lets -merge -underBinder +onlyGivenNames y7
  have h8 : State.Good q n y7 := by subst y7; exact State.wrs_good h6
  try clear_value y7
  exact h8.of_eq rfl rfl rfl rfl rfl rfl rfl rfl rfl rfl rfl

theorem State.panelFreewheel_good {x1} {x2} (g1 : State.Good q n x1) :
    State.Good q n (State.panelFreewheel x1 x2) := by
  delta State.panelFreewheel
  refine good_ite ?_ ?_
  · refine good_ite ?_ ?_
    · exact g1.of_eq rfl rfl rfl rfl rfl rfl rfl rfl rfl rfl rfl
    · exact g1
  · exact g1.of_eq rfl rfl rfl rfl rfl rfl rfl rfl rfl rfl rfl

theorem State.applyFill_good {x1} {x2} {x3} (g1 : State.Good q n x1) :
    State.Good q n (State.applyFill x1 x2 x3) := by
  delta State.applyFill
  exact g1.of_eq rfl rfl rfl rfl rfl rfl rfl rfl rfl rfl rfl

theorem State.dspTake_good {x1} (g1 : State.Good q n x1) :
    State.Good q n (State.dspTake x1) := by
  delta State.dspTake
  extract_lets -merge -underBinder +onlyGivenNames y1
  have h2 : State.Good q n y1 := by subst y1; exact State.wr_good g1
  try clear_value y1
  exact h2.of_eq rfl rfl rfl rfl rfl rfl rfl rfl rfl rfl rfl

theorem State.dspPlace_good {x1} {x2} {x3} (g1 : State.Good q n x1) :
    State.Good q n (State.dspPlace x1 x2 x3) := by
  delta State.dspPlace
  refine good_ite ?_ ?_
  · exact g1.of_eq rfl rfl rfl rfl rfl rfl rfl rfl rfl rfl rfl
  · exact State.finish_good g1

theorem State.dspNote_good {x1} {x2} {x3} {x4} (g1 : State.Good q n x1) :
    State.Good q n (State.dspNote x1 x2 x3 x4) := by
  delta State.dspNote
  exact State.note_good g1

theorem State.doDspPresent_good {x1} {x2} {x3} (g1 : State.Good q n x1) :
    State.Good q n (State.doDspPresent x1 x2 x3) := by
  delta State.doDspPresent
  refine State.checked_good ?_ ?_
  · exact g1
  · intro x1 h2
    exact State.dspPlace_good h2

theorem State.doDspFill_good {x1} {x2} {x3} (g1 : State.Good q n x1) :
    State.Good q n (State.doDspFill x1 x2 x3) := by
  delta State.doDspFill
  refine State.checked_good ?_ ?_
  · exact g1
  · intro x1 h2
    exact State.dspPlace_good h2

theorem State.doDspMode_good {x1} {x2} {x3} (g1 : State.Good q n x1) :
    State.Good q n (State.doDspMode x1 x2 x3) := by
  delta State.doDspMode
  refine State.checked_good ?_ ?_
  · exact g1
  · intro x1 h2
    exact State.dspPlace_good h2

theorem State.dspTo_good {x1} {x2} (g1 : State.Good q n x1) :
    State.Good q n (State.dspTo x1 x2) := by
  delta State.dspTo
  refine good_ite ?_ ?_
  · exact g1
  · exact State.dspNote_good (State.wr_good g1)

theorem State.applyOn_good {x1} {x2} (g1 : State.Good q n x1) :
    State.Good q n (State.applyOn x1 x2) := by
  delta State.applyOn
  refine good_ite ?_ ?_
  · exact State.ok_good g1
  · refine good_ite ?_ ?_
    · exact State.finish_good g1
    · extract_lets -merge -underBinder +onlyGivenNames y1
      have h2 : State.Good q n y1 := by subst y1; exact State.accepted_good g1
      try clear_value y1
      extract_lets -merge -underBinder +onlyGivenNames y3 y4
      have h5 : State.Good q n y4 := by subst y4; exact h2.of_eq rfl rfl rfl rfl rfl rfl rfl rfl rfl rfl rfl
      try clear_value y4
      refine good_ite ?_ ?_
      · exact h5
      · exact State.escAsk_good (State.dspTo_good h5)

theorem State.dischargeStart_good {x1} {x2} {x3} (g1 : State.Good q n x1) :
    State.Good q n (State.dischargeStart x1 x2 x3) := by
  delta State.dischargeStart
  split
  · exact g1.of_eq rfl rfl rfl rfl rfl rfl rfl rfl rfl rfl rfl
  · extract_lets -merge -underBinder +onlyGivenNames y1 y2
    have h3 : State.Good q n y2 := by subst y2; exact State.dspTo_good (State.wr_good g1)
    try clear_value y2
    extract_lets -merge -underBinder +onlyGivenNames y4 y5
    have h6 : State.Good q n y5 := by subst y5; exact h3.of_eq rfl rfl rfl rfl rfl rfl rfl rfl rfl rfl rfl
    try clear_value y5
    refine State.each_good ?_ ?_
    · exact h6
    · intro x7 x9 h8
      exact State.finish_good h8

theorem State.doDspLwWrite_good {x1} {x2} {x3} (g1 : State.Good q n x1) :
    State.Good q n (State.doDspLwWrite x1 x2 x3) := by
  delta State.doDspLwWrite
  refine State.checked_good ?_ ?_
  · exact g1
  · intro x1 h2
    exact State.dspPlace_good h2

theorem State.applyWrite_good {x1} {x2} (g1 : State.Good q n x1) :
    State.Good q n (State.applyWrite x1 x2) := by
  delta State.applyWrite
  extract_lets -merge -underBinder +onlyGivenNames y1
  exact State.ok_good (g1.of_eq rfl rfl rfl rfl rfl rfl rfl rfl rfl rfl rfl)

theorem State.orderlyOff_good {x1} {x2} (g1 : State.Good q n x1) :
    State.Good q n (State.orderlyOff x1 x2) := by
  delta State.orderlyOff
  split
  · extract_lets -merge -underBinder +onlyGivenNames y1 y2
    have h3 : State.Good q n y2 := by subst y2; exact State.wr_good (State.escEnd_good g1)
    try clear_value y2
    extract_lets -merge -underBinder +onlyGivenNames y4 y5
    have h6 : State.Good q n y5 := by subst y5; exact State.dspTo_good (h3.of_eq rfl rfl rfl rfl rfl rfl rfl rfl rfl rfl rfl)
    try clear_value y5
    refine State.each_good ?_ ?_
    · exact h6
    · intro x7 x9 h8
      exact State.finish_good h8
  · exact g1.of_eq rfl rfl rfl rfl rfl rfl rfl rfl rfl rfl rfl
  · exact g1.of_eq rfl rfl rfl rfl rfl rfl rfl rfl rfl rfl rfl
  · exact g1

theorem State.doDspWrite_good {x1} {x2} {x3} (g1 : State.Good q n x1) :
    State.Good q n (State.doDspWrite x1 x2 x3) := by
  delta State.doDspWrite
  refine State.checked_good ?_ ?_
  · exact g1
  · intro x1 h2
    exact State.dspPlace_good h2

theorem State.dspUnitReset_good {x1} (g1 : State.Good q n x1) :
    State.Good q n (State.dspUnitReset x1) := by
  delta State.dspUnitReset
  extract_lets -merge -underBinder +onlyGivenNames y1 y2
  have h3 : State.Good q n y2 := by subst y2; exact g1.of_eq rfl rfl rfl rfl rfl rfl rfl rfl rfl rfl rfl
  try clear_value y2
  extract_lets -merge -underBinder +onlyGivenNames y4
  have h5 : State.Good q n y4 := by subst y4; exact State.orderlyOff_good h3
  try clear_value y4
  refine good_ite ?_ ?_
  · exact State.dspClear_good h5
  · exact h5

theorem State.scanParity_good {x1} {x2} (g1 : State.Good q n x1) :
    State.Good q n (State.scanParity x1 x2) := by
  delta State.scanParity
  extract_lets -merge -underBinder +onlyGivenNames y1 y2 y3
  have h4 : State.Good q n y3 := by subst y3; exact g1.of_eq rfl rfl rfl rfl rfl rfl rfl rfl rfl rfl rfl
  try clear_value y3
  exact State.fault_good (State.dspNote_good (State.count_good h4))

theorem State.modeEdge_good {x1} (g1 : State.Good q n x1) :
    State.Good q n (State.modeEdge x1) := by
  delta State.modeEdge
  split
  · exact g1
  · extract_lets -merge -underBinder +onlyGivenNames y1 y2 y3
    have h4 : State.Good q n y3 := by subst y3; exact State.wrB_good g1
    try clear_value y3
    extract_lets -merge -underBinder +onlyGivenNames y5 y6
    have h7 : State.Good q n y6 := by subst y6; exact h4.of_eq rfl rfl rfl rfl rfl rfl rfl rfl rfl rfl rfl
    try clear_value y6
    refine State.each_good ?_ ?_
    · exact h7
    · intro x8 x10 h9
      exact State.ok_good h9

theorem State.applyLw_good {x1} {x2} (g1 : State.Good q n x1) :
    State.Good q n (State.applyLw x1 x2) := by
  delta State.applyLw
  extract_lets -merge -underBinder +onlyGivenNames y1 y2 y3
  exact State.ok_good (g1.of_eq rfl rfl rfl rfl rfl rfl rfl rfl rfl rfl rfl)

theorem State.abruptOff_good {x1} {x2} {x3} (g1 : State.Good q n x1) :
    State.Good q n (State.abruptOff x1 x2 x3) := by
  delta State.abruptOff
  split
  · exact g1
  · exact g1
  · extract_lets -merge -underBinder +onlyGivenNames y1 y2
    have h3 : State.Good q n y2 := by subst y2; exact State.wr_good (State.escEnd_good g1)
    try clear_value y2
    extract_lets -merge -underBinder +onlyGivenNames y4 y5
    have h6 : State.Good q n y5 := by subst y5; exact State.dspTo_good (h3.of_eq rfl rfl rfl rfl rfl rfl rfl rfl rfl rfl rfl)
    try clear_value y5
    refine State.each_good ?_ ?_
    · exact h6
    · intro x7 x9 h8
      exact State.finish_good h8
  · exact State.dischargeStart_good g1

theorem State.dspSupply_good {x1} {x2} (g1 : State.Good q n x1) :
    State.Good q n (State.dspSupply x1 x2) := by
  delta State.dspSupply
  exact State.abruptOff_good (State.fault_good (State.dspNote_good g1))

theorem State.dischargeEnd_good {x1} (g1 : State.Good q n x1) :
    State.Good q n (State.dischargeEnd x1) := by
  delta State.dischargeEnd
  split
  · exact g1
  · extract_lets -merge -underBinder +onlyGivenNames y1 y2 y3
    have h4 : State.Good q n y3 := by subst y3; exact g1.of_eq rfl rfl rfl rfl rfl rfl rfl rfl rfl rfl rfl
    try clear_value y3
    extract_lets -merge -underBinder +onlyGivenNames y5
    have h6 : State.Good q n y5 := by subst y5; exact State.dspTo_good h4
    try clear_value y5
    extract_lets -merge -underBinder +onlyGivenNames y7
    have h11 : State.Good q n y7 := by
      subst y7
      refine State.each_good ?_ ?_
      · exact h6
      · intro x8 x10 h9
        exact State.finish_good h9
    try clear_value y7
    refine good_ite ?_ ?_
    · exact State.dspClear_good h11
    · exact h11

theorem State.applyOff_good {x1} {x2} (g1 : State.Good q n x1) :
    State.Good q n (State.applyOff x1 x2) := by
  delta State.applyOff
  extract_lets -merge -underBinder +onlyGivenNames y1
  refine good_ite ?_ ?_
  · exact State.ok_good g1
  · refine good_ite ?_ ?_
    · exact State.ok_good (State.dspTo_good g1)
    · refine good_ite ?_ ?_
      · exact State.ok_good (State.orderlyOff_good (State.accepted_good g1))
      · extract_lets -merge -underBinder +onlyGivenNames y2
        have h3 : State.Good q n y2 := by subst y2; exact State.orderlyOff_good (State.accepted_good g1)
        try clear_value y2
        exact h3.of_eq rfl rfl rfl rfl rfl rfl rfl rfl rfl rfl rfl

theorem State.driveFrame_good {s b} (h : State.Good q n s) : State.Good q n (State.driveFrame s b) := by
  have h1 : State.Good q n (if b then { s with dsp.polBase := s.rd R.DSP_CFG_POL_MODE, dsp.flips := [], dsp.hZero := false }
      else { s with dsp.flips := s.driven.foldl (fun m y => mput 0 m y (1 - mget 0 m y)) s.dsp.flips }) :=
    good_ite (h.of_eq rfl rfl rfl rfl rfl rfl rfl rfl rfl rfl rfl) (h.of_eq rfl rfl rfl rfl rfl rfl rfl rfl rfl rfl rfl)
  exact State.each_good (good_ite (State.count_good h1) h1) fun _ _ ht => State.scanParity_good ht

theorem State.powerGoodLow_good {x1} (g1 : State.Good q n x1) :
    State.Good q n (State.powerGoodLow x1) := by
  delta State.powerGoodLow
  extract_lets -merge -underBinder +onlyGivenNames y1
  refine good_ite ?_ ?_
  · exact State.dspSupply_good g1
  · exact g1

theorem State.powerOnStep_good {x1} {x2} {x3} (g1 : State.Good q n x1) :
    State.Good q n (State.powerOnStep x1 x2 x3) := by
  delta State.powerOnStep
  extract_lets -merge -underBinder +onlyGivenNames y1
  have h2 : State.Good q n y1 := by subst y1; exact State.wrB_good (State.wrB_good g1)
  try clear_value y1
  refine good_ite ?_ ?_
  · exact h2
  · extract_lets -merge -underBinder +onlyGivenNames y3 y4
    have h5 : State.Good q n y4 := by subst y4; exact h2.of_eq rfl rfl rfl rfl rfl rfl rfl rfl rfl rfl rfl
    try clear_value y4
    split
    · extract_lets -merge -underBinder +onlyGivenNames y6
      have h7 : State.Good q n y6 := by subst y6; exact State.dspTo_good h5
      try clear_value y6
      refine good_ite ?_ ?_
      · exact h7.of_eq rfl rfl rfl rfl rfl rfl rfl rfl rfl rfl rfl
      · exact State.dspSupply_good h7
    · refine good_ite ?_ ?_
      · exact h5.of_eq rfl rfl rfl rfl rfl rfl rfl rfl rfl rfl rfl
      · exact State.dspSupply_good h5
    · refine good_ite ?_ ?_
      · exact h5.of_eq rfl rfl rfl rfl rfl rfl rfl rfl rfl rfl rfl
      · exact State.dspSupply_good h5
    · extract_lets -merge -underBinder +onlyGivenNames y8 y9
      have h10 : State.Good q n y9 := by subst y9; exact h5.of_eq rfl rfl rfl rfl rfl rfl rfl rfl rfl rfl rfl
      try clear_value y9
      exact State.driveFrame_good (State.dspTo_good h10)
    · exact h5

theorem State.lapBegin_good {x1} (g1 : State.Good q n x1) :
    State.Good q n (State.lapBegin x1) := by
  delta State.lapBegin
  extract_lets -merge -underBinder +onlyGivenNames y1
  have h4 : State.Good q n y1 := by
    subst y1
    refine State.when_good ?_ ?_
    · exact g1
    · intro x2 h3
      exact State.count_good h3
  try clear_value y1
  extract_lets -merge -underBinder +onlyGivenNames y5 y6
  have h7 : State.Good q n y6 := by subst y6; exact h4.of_eq rfl rfl rfl rfl rfl rfl rfl rfl rfl rfl rfl
  try clear_value y6
  extract_lets -merge -underBinder +onlyGivenNames y8
  have h9 : State.Good q n y8 := by subst y8; exact State.modeEdge_good (State.dcEdge_good (State.dspTake_good h7))
  try clear_value y8
  exact h9.of_eq rfl rfl rfl rfl rfl rfl rfl rfl rfl rfl rfl

theorem State.dspReset_good {x1} (g1 : State.Good q n x1) :
    State.Good q n (State.dspReset x1) := by
  delta State.dspReset
  extract_lets -merge -underBinder +onlyGivenNames y1
  have h2 : State.Good q n y1 := by subst y1; exact State.abruptOff_good g1
  try clear_value y1
  extract_lets -merge -underBinder +onlyGivenNames y3
  try clear_value y3
  extract_lets -merge -underBinder +onlyGivenNames y4
  have h5 : State.Good q n y4 := by subst y4; exact State.dspClear_good h2
  try clear_value y4
  split
  · exact h5
  · exact State.wr_good (h5.of_eq rfl rfl rfl rfl rfl rfl rfl rfl rfl rfl rfl)

theorem State.applyDsp_good {x1} {x2} (g1 : State.Good q n x1) :
    State.Good q n (State.applyDsp x1 x2) := by
  delta State.applyDsp
  split
  · refine good_ite ?_ ?_
    · exact State.applyOn_good g1
    · exact State.applyOff_good g1
  · exact State.applyWrite_good g1
  · extract_lets -merge -underBinder +onlyGivenNames y1
    have h2 : State.Good q n y1 := by subst y1; exact State.wr_good (State.accepted_good g1)
    try clear_value y1
    exact h2.of_eq rfl rfl rfl rfl rfl rfl rfl rfl rfl rfl rfl
  · exact State.applyLw_good g1
  · extract_lets -merge -underBinder +onlyGivenNames y3
    exact g1.of_eq rfl rfl rfl rfl rfl rfl rfl rfl rfl rfl rfl
  · exact g1

theorem State.vsrcFail_good {x1} (g1 : State.Good q n x1) :
    State.Good q n (State.vsrcFail x1) := by
  delta State.vsrcFail
  extract_lets -merge -underBinder +onlyGivenNames y1
  have h2 : State.Good q n y1 := by subst y1; exact State.wr_good g1
  try clear_value y1
  extract_lets -merge -underBinder +onlyGivenNames y3
  refine good_ite ?_ ?_
  · exact h2
  · exact State.dspSupply_good h2

theorem State.dspLevels_good {x1} {x2} {x3} {x4} (g1 : State.Good q n x1) :
    State.Good q n (State.dspLevels x1 x2 x3 x4) := by
  delta State.dspLevels
  extract_lets -merge -underBinder +onlyGivenNames y1
  have h2 : State.Good q n y1 := by subst y1; exact State.wrB_good (State.wrB_good g1)
  try clear_value y1
  extract_lets -merge -underBinder +onlyGivenNames y3
  have h4 : State.Good q n y3 := by
    subst y3
    refine good_ite ?_ ?_
    · exact State.wr_good h2
    · exact State.vsrcFail_good h2
  try clear_value y3
  extract_lets -merge -underBinder +onlyGivenNames y5 y6 y7
  have h8 : State.Good q n y7 := by subst y7; exact h4.of_eq rfl rfl rfl rfl rfl rfl rfl rfl rfl rfl rfl
  try clear_value y7
  refine good_ite ?_ ?_
  · exact State.powerGoodLow_good h8
  · exact h8

theorem State.lapFrame_good {x1} {x2} {x3} (g1 : State.Good q n x1) :
    State.Good q n (State.lapFrame x1 x2 x3) := by
  delta State.lapFrame
  extract_lets -merge -underBinder +onlyGivenNames y1 y2 y3
  have h4 : State.Good q n y3 := by subst y3; exact g1.of_eq rfl rfl rfl rfl rfl rfl rfl rfl rfl rfl rfl
  try clear_value y3
  extract_lets -merge -underBinder +onlyGivenNames y5
  have h6 : State.Good q n y5 := by subst y5; exact State.driveFrame_good h4
  try clear_value y5
  exact h6.of_eq rfl rfl rfl rfl rfl rfl rfl rfl rfl rfl rfl

theorem dspLoop_good {k b s} (h : State.Good q n s) : State.Good q n (dspLoop k b s) := by
  induction k generalizing b s with
  | zero =>
    unfold dspLoop
    exact h
  | succ k ih =>
    unfold dspLoop
    split
    · exact h
    · exact h
    · rename_i e1 e2
      cases e1
      refine good_ite h (good_ite (good_ite h ?_) (good_ite h (ih (State.applyDsp_good (h.of_eq rfl rfl rfl rfl rfl rfl rfl rfl rfl rfl rfl)))))
      extract_lets left total j y
      have hy : State.Good q n y := State.applyFill_good h
      clear_value y
      exact good_ite (ih (State.ok_good (hy.of_eq rfl rfl rfl rfl rfl rfl rfl rfl rfl rfl rfl)))
        (hy.of_eq rfl rfl rfl rfl rfl rfl rfl rfl rfl rfl rfl)

theorem State.lapPresent_good {x1} (g1 : State.Good q n x1) :
    State.Good q n (State.lapPresent x1) := by
  delta State.lapPresent
  extract_lets -merge -underBinder +onlyGivenNames y1 y2 y3 y4
  have h5 : State.Good q n y4 := by subst y4; exact g1.of_eq rfl rfl rfl rfl rfl rfl rfl rfl rfl rfl rfl
  try clear_value y4
  extract_lets -merge -underBinder +onlyGivenNames y6
  have h9 : State.Good q n y6 := by
    subst y6
    refine State.when_good ?_ ?_
    · exact h5
    · intro x7 h8
      exact State.latchPresent_good h8
  try clear_value y6
  exact State.lapFrame_good h9

theorem State.orderlyStep_good {x1} (g1 : State.Good q n x1) :
    State.Good q n (State.orderlyStep x1) := by
  delta State.orderlyStep
  refine good_ite ?_ ?_
  · exact State.dischargeStart_good g1
  · split
    · exact g1
    · extract_lets -merge -underBinder +onlyGivenNames y1
      have h2 : State.Good q n y1 := by subst y1; exact State.wr_good g1
      try clear_value y1
      refine good_ite ?_ ?_
      · refine State.driveFrame_good ?_
        extract_lets -merge -underBinder +onlyGivenNames y3
        have h4 : State.Good q n y3 := by subst y3; exact State.dspTo_good h2
        try clear_value y3
        exact h4.of_eq rfl rfl rfl rfl rfl rfl rfl rfl rfl rfl rfl
      · refine good_ite ?_ ?_
        · extract_lets -merge -underBinder +onlyGivenNames y5 y6 y7
          have h11 : State.Good q n y7 := by
            subst y7
            refine State.each_good ?_ ?_
            · exact h2.of_eq rfl rfl rfl rfl rfl rfl rfl rfl rfl rfl rfl
            · intro x8 x10 h9
              exact State.finish_good h9
          try clear_value y7
          exact State.dischargeStart_good h11
        · exact h2.of_eq rfl rfl rfl rfl rfl rfl rfl rfl rfl rfl rfl

theorem State.dspRun_good {x1} (g1 : State.Good q n x1) :
    State.Good q n (State.dspRun x1) := by
  delta State.dspRun
  extract_lets -merge -underBinder +onlyGivenNames y1 y2 y3
  have h7 : State.Good q n y3 := by
    subst y3
    refine good_ite ?_ ?_
    · refine State.each_good ?_ ?_
      · exact g1.of_eq rfl rfl rfl rfl rfl rfl rfl rfl rfl rfl rfl
      · intro x4 x6 h5
        exact State.ok_good h5
    · exact g1
  try clear_value y3
  extract_lets -merge -underBinder +onlyGivenNames y8 y9 y10
  have h14 : State.Good q n y10 := by
    subst y10
    refine good_ite ?_ ?_
    · exact h7
    · refine State.each_good ?_ ?_
      · exact h7.of_eq rfl rfl rfl rfl rfl rfl rfl rfl rfl rfl rfl
      · intro x11 x13 h12
        exact State.ok_good h12
  try clear_value y10
  exact dspLoop_good h14

theorem State.lapEnd_good {x1} (g1 : State.Good q n x1) :
    State.Good q n (State.lapEnd x1) := by
  delta State.lapEnd
  extract_lets -merge -underBinder +onlyGivenNames y1
  refine good_ite ?_ ?_
  · exact State.orderlyStep_good g1
  · refine good_ite ?_ ?_
    · exact State.orderlyStep_good (State.lapPresent_good g1)
    · exact State.lapPresent_good g1

theorem State.panelLap_good {x1} (g1 : State.Good q n x1) :
    State.Good q n (State.panelLap x1) := by
  delta State.panelLap
  refine good_ite ?_ ?_
  · exact g1
  · exact State.lapEnd_good (State.lapBegin_good g1)

theorem State.doDspPower_good {x1} {x2} {x3} (g1 : State.Good q n x1) :
    State.Good q n (State.doDspPower x1 x2 x3) := by
  delta State.doDspPower
  refine State.checked_good ?_ ?_
  · exact g1
  · intro x1 h2
    refine State.dspPlace_good ?_
    refine good_ite ?_ ?_
    · exact State.consoleCloses_good h2
    · exact h2

/-! ### Segment -/

theorem State.segNote_good {x1} {x2} {x3} (g1 : State.Good q n x1) :
    State.Good q n (State.segNote x1 x2 x3) := by
  delta State.segNote
  exact State.note_good g1

theorem State.segPlace_good {x1} {x2} {x3} (g1 : State.Good q n x1) :
    State.Good q n (State.segPlace x1 x2 x3) := by
  delta State.segPlace
  refine good_ite ?_ ?_
  · exact g1.of_eq rfl rfl rfl rfl rfl rfl rfl rfl rfl rfl rfl
  · exact State.finish_good g1

theorem State.segStandby_good {x1} (g1 : State.Good q n x1) :
    State.Good q n (State.segStandby x1) := by
  delta State.segStandby
  refine good_ite ?_ ?_
  · exact g1
  · extract_lets -merge -underBinder +onlyGivenNames y1
    have h2 : State.Good q n y1 := by subst y1; exact State.wr_good g1
    try clear_value y1
    exact h2.of_eq rfl rfl rfl rfl rfl rfl rfl rfl rfl rfl rfl

theorem State.segTick_good {x1} (g1 : State.Good q n x1) :
    State.Good q n (State.segTick x1) := by
  delta State.segTick
  refine good_ite ?_ ?_
  · exact g1
  · exact g1.of_eq rfl rfl rfl rfl rfl rfl rfl rfl rfl rfl rfl

theorem State.segRestart_good {x1} (g1 : State.Good q n x1) :
    State.Good q n (State.segRestart x1) := by
  delta State.segRestart
  refine good_ite ?_ ?_
  · exact g1
  · extract_lets -merge -underBinder +onlyGivenNames y1
    refine good_ite ?_ ?_
    · extract_lets -merge -underBinder +onlyGivenNames y2
      have h3 : State.Good q n y2 := by subst y2; exact State.wr_good g1
      try clear_value y2
      extract_lets -merge -underBinder +onlyGivenNames y4 y5
      have h6 : State.Good q n y5 := by subst y5; exact h3.of_eq rfl rfl rfl rfl rfl rfl rfl rfl rfl rfl rfl
      try clear_value y5
      extract_lets -merge -underBinder +onlyGivenNames y7
      have h8 : State.Good q n y7 := by subst y7; exact State.wr_good h6
      try clear_value y7
      refine good_ite ?_ ?_
      · exact State.segNote_good h8
      · exact h8
    · exact g1

theorem State.segMainsBack_good {x1} (g1 : State.Good q n x1) :
    State.Good q n (State.segMainsBack x1) := by
  delta State.segMainsBack
  exact g1.of_eq rfl rfl rfl rfl rfl rfl rfl rfl rfl rfl rfl

theorem State.segPowerUp_good {x1} (g1 : State.Good q n x1) :
    State.Good q n (State.segPowerUp x1) := by
  delta State.segPowerUp
  extract_lets -merge -underBinder +onlyGivenNames y1
  have h5 : State.Good q n y1 := by
    subst y1
    refine State.each_good ?_ ?_
    · exact g1
    · intro x2 x4 h3
      exact State.clearAttr_good h3
  try clear_value y1
  exact h5.of_eq rfl rfl rfl rfl rfl rfl rfl rfl rfl rfl rfl

theorem State.segStore_good {x1} {x2} {x3} (g1 : State.Good q n x1) :
    State.Good q n (State.segStore x1 x2 x3) := by
  delta State.segStore
  refine State.each_good ?_ ?_
  · exact g1
  · intro x1 x3 h2
    exact State.wr_good h2

theorem State.lossStop_good {x1} (g1 : State.Good q n x1) :
    State.Good q n (State.lossStop x1) := by
  delta State.lossStop
  refine good_ite ?_ ?_
  · exact State.segNote_good (State.wr_good (State.wr_good g1))
  · exact g1

theorem State.segAlt_good {x1} (g1 : State.Good q n x1) :
    State.Good q n (State.segAlt x1) := by
  delta State.segAlt
  refine good_ite ?_ ?_
  · exact State.segNote_good (State.wr_good (g1.of_eq rfl rfl rfl rfl rfl rfl rfl rfl rfl rfl rfl))
  · exact g1.of_eq rfl rfl rfl rfl rfl rfl rfl rfl rfl rfl rfl

theorem State.segMainsLost_good {x1} (g1 : State.Good q n x1) :
    State.Good q n (State.segMainsLost x1) := by
  delta State.segMainsLost
  refine good_ite ?_ ?_
  · exact g1
  · exact g1.of_eq rfl rfl rfl rfl rfl rfl rfl rfl rfl rfl rfl

theorem State.segStage_good {x1} (g1 : State.Good q n x1) :
    State.Good q n (State.segStage x1) := by
  delta State.segStage
  refine good_ite ?_ ?_
  · extract_lets -merge -underBinder +onlyGivenNames y1 y2 y3
    have h4 : State.Good q n y3 := by subst y3; exact g1.of_eq rfl rfl rfl rfl rfl rfl rfl rfl rfl rfl rfl
    try clear_value y3
    refine good_ite ?_ ?_
    · exact State.lossStop_good h4
    · exact h4
  · exact g1

theorem State.segSwap_good {x1} (g1 : State.Good q n x1) :
    State.Good q n (State.segSwap x1) := by
  delta State.segSwap
  split
  · exact g1
  · extract_lets -merge -underBinder +onlyGivenNames y1
    have h2 : State.Good q n y1 := by subst y1; exact State.wr_good (State.count_good (State.segStore_good g1))
    try clear_value y1
    exact h2.of_eq rfl rfl rfl rfl rfl rfl rfl rfl rfl rfl rfl

theorem State.doSegShow_good {x1} {x2} {x3} (g1 : State.Good q n x1) :
    State.Good q n (State.doSegShow x1 x2 x3) := by
  delta State.doSegShow
  refine State.checked_good ?_ ?_
  · exact g1
  · intro x1 h2
    exact State.segPlace_good h2

theorem State.vlcdLow_good {x1} {x2} (g1 : State.Good q n x1) :
    State.Good q n (State.vlcdLow x1 x2) := by
  delta State.vlcdLow
  refine good_ite ?_ ?_
  · exact g1
  · extract_lets -merge -underBinder +onlyGivenNames y1
    have h2 : State.Good q n y1 := by subst y1; exact State.segNote_good (State.wrB_good g1)
    try clear_value y1
    refine good_ite ?_ ?_
    · exact State.fault_good h2
    · exact h2

theorem State.segDrop_good {x1} {x2} (g1 : State.Good q n x1) :
    State.Good q n (State.segDrop x1 x2) := by
  delta State.segDrop
  extract_lets -merge -underBinder +onlyGivenNames y1
  have h2 : State.Good q n y1 := by subst y1; exact State.segStore_good g1
  try clear_value y1
  exact h2.of_eq rfl rfl rfl rfl rfl rfl rfl rfl rfl rfl rfl

theorem State.doSegWrite_good {x1} {x2} {x3} (g1 : State.Good q n x1) :
    State.Good q n (State.doSegWrite x1 x2 x3) := by
  delta State.doSegWrite
  refine State.checked_good ?_ ?_
  · exact g1
  · intro x1 h2
    exact State.segPlace_good h2

theorem State.segLap_good {x1} (g1 : State.Good q n x1) :
    State.Good q n (State.segLap x1) := by
  delta State.segLap
  refine good_ite ?_ ?_
  · exact g1
  · extract_lets -merge -underBinder +onlyGivenNames y1 y2
    have h3 : State.Good q n y2 := by subst y2; exact g1.of_eq rfl rfl rfl rfl rfl rfl rfl rfl rfl rfl rfl
    try clear_value y2
    extract_lets -merge -underBinder +onlyGivenNames y4
    have h5 : State.Good q n y4 := by subst y4; exact State.segRestart_good (State.segAlt_good (State.segSwap_good h3))
    try clear_value y4
    exact State.wrB_good h5

theorem State.segUnitReset_good {x1} (g1 : State.Good q n x1) :
    State.Good q n (State.segUnitReset x1) := by
  delta State.segUnitReset
  exact State.segDrop_good g1

theorem State.segReset_good {x1} (g1 : State.Good q n x1) :
    State.Good q n (State.segReset x1) := by
  delta State.segReset
  exact State.wr_good (State.segDrop_good g1)

theorem State.applySeg_good {x1} {x2} (g1 : State.Good q n x1) :
    State.Good q n (State.applySeg x1 x2) := by
  delta State.applySeg
  refine good_ite ?_ ?_
  · refine State.ok_good ?_
    refine State.each_good ?_ ?_
    · exact g1
    · intro x1 x3 h2
      exact State.wr_good h2
  · extract_lets -merge -underBinder +onlyGivenNames y4
    have h5 : State.Good q n y4 := by subst y4; exact State.accepted_good g1
    try clear_value y4
    exact h5.of_eq rfl rfl rfl rfl rfl rfl rfl rfl rfl rfl rfl

theorem State.segRun_good {x1} (g1 : State.Good q n x1) :
    State.Good q n (State.segRun x1) := by
  delta State.segRun
  extract_lets -merge -underBinder +onlyGivenNames y1 y2 y3
  have h7 : State.Good q n y3 := by
    subst y3
    refine State.each_good ?_ ?_
    · exact g1.of_eq rfl rfl rfl rfl rfl rfl rfl rfl rfl rfl rfl
    · intro x4 x6 h5
      exact State.ok_good h5
  try clear_value y3
  extract_lets -merge -underBinder +onlyGivenNames y8
  refine State.each_good ?_ ?_
  · exact h7.of_eq rfl rfl rfl rfl rfl rfl rfl rfl rfl rfl rfl
  · intro x9 x11 h10
    exact State.applySeg_good h10

theorem State.dspSvc_good {x1} (g1 : State.Good q n x1) :
    State.Good q n (State.dspSvc x1) := by
  delta State.dspSvc
  exact State.segRun_good (State.dspRun_good g1)

/-! ### Faults -/

theorem State.recoverStart_good {x1} {x2} {x3} (g1 : State.Good q n x1) :
    State.Good q n (State.recoverStart x1 x2 x3) := by
  delta State.recoverStart
  refine good_ite ?_ ?_
  · exact g1.of_eq rfl rfl rfl rfl rfl rfl rfl rfl rfl rfl rfl
  · exact g1.of_eq rfl rfl rfl rfl rfl rfl rfl rfl rfl rfl rfl

theorem State.fltStage_good {x1} (g1 : State.Good q n x1) :
    State.Good q n (State.fltStage x1) := by
  delta State.fltStage
  refine good_ite ?_ ?_
  · exact g1.of_eq rfl rfl rfl rfl rfl rfl rfl rfl rfl rfl rfl
  · exact g1.of_eq rfl rfl rfl rfl rfl rfl rfl rfl rfl rfl rfl

theorem State.clearLatches_good {x1} (g1 : State.Good q n x1) :
    State.Good q n (State.clearLatches x1) := by
  delta State.clearLatches
  exact State.clearAttr_good (State.clearAttr_good g1)

theorem State.coreWatch_good {x1} {x2} (g1 : State.Good q n x1) :
    State.Good q n (State.coreWatch x1 x2) := by
  delta State.coreWatch
  refine good_ite ?_ ?_
  · refine good_ite ?_ ?_
    · exact State.hubFault_good (g1.of_eq rfl rfl rfl rfl rfl rfl rfl rfl rfl rfl rfl)
    · exact g1
  · refine good_ite ?_ ?_
    · exact State.hubFault_good (g1.of_eq rfl rfl rfl rfl rfl rfl rfl rfl rfl rfl rfl)
    · exact g1

theorem State.limpLeaving_good {x1} (g1 : State.Good q n x1) :
    State.Good q n (State.limpLeaving x1) := by
  delta State.limpLeaving
  exact State.wrs_good g1

theorem State.fltFirstTick_good {x1} (g1 : State.Good q n x1) :
    State.Good q n (State.fltFirstTick x1) := by
  delta State.fltFirstTick
  extract_lets -merge -underBinder +onlyGivenNames y1
  have h4 : State.Good q n y1 := by
    subst y1
    refine State.when_good ?_ ?_
    · exact g1
    · intro x2 h3
      exact State.record_good h3
  try clear_value y1
  extract_lets -merge -underBinder +onlyGivenNames y5
  have h8 : State.Good q n y5 := by
    subst y5
    refine State.when_good ?_ ?_
    · exact h4
    · intro x6 h7
      exact State.record_good h7
  try clear_value y5
  refine State.when_good ?_ ?_
  · exact h8
  · intro x9 h10
    exact State.record_good h10

theorem State.fltReset_good {s} (h : State.Good q n s) : State.Good q n (State.fltReset s) :=
  ((State.each_good (l := [0x7000, 0x7001, 0x7002, 0x7003, 0x7005, 0x7006]) h fun _ _ => State.clearAttr_good).withFaults
    (m := []) (Nat.zero_le _)).of_eq rfl rfl rfl rfl rfl rfl rfl rfl rfl rfl rfl

theorem State.fltBoot_good {x1} (g1 : State.Good q n x1) :
    State.Good q n (State.fltBoot x1) := by
  delta State.fltBoot
  extract_lets -merge -underBinder +onlyGivenNames y1 y2 y3
  have h6 : State.Good q n y3 := by
    subst y3
    refine State.when_good ?_ ?_
    · exact g1
    · intro x4 h5
      exact State.wr_good h5
  try clear_value y3
  extract_lets -merge -underBinder +onlyGivenNames y7 y8 y9
  have h10 : State.Good q n y9 := by subst y9; exact h6.of_eq rfl rfl rfl rfl rfl rfl rfl rfl rfl rfl rfl
  try clear_value y9
  refine good_ite ?_ ?_
  · exact State.wrs_good h10
  · exact State.wrs_good h10

theorem State.streakClear_good {x1} (g1 : State.Good q n x1) :
    State.Good q n (State.streakClear x1) := by
  delta State.streakClear
  refine good_ite ?_ ?_
  · exact State.wr_good g1
  · exact g1

theorem execCoreWatchdog_good {x1} {x2} (g2 : State.Good q n x2) :
    State.GoodOut q n (execCoreWatchdog x1 x2) := by
  delta execCoreWatchdog
  exact good_next (State.coreWatch_good g2)

theorem State.fltAct_good {x1} {x2} (g1 : State.Good q n x1) :
    State.Good q n (State.fltAct x1 x2) := by
  delta State.fltAct
  extract_lets -merge -underBinder +onlyGivenNames y1 y2 y3
  have h4 : State.Good q n y3 := by subst y3; exact g1.of_eq rfl rfl rfl rfl rfl rfl rfl rfl rfl rfl rfl
  try clear_value y3
  exact State.recoverStart_good h4

theorem State.hayForget_good {x1} {x2} (g1 : State.Good q n x1) :
    State.Good q n (State.hayForget x1 x2) := by
  delta State.hayForget
  exact g1.of_eq rfl rfl rfl rfl rfl rfl rfl rfl rfl rfl rfl

theorem execClrLatch_good {x1} {x2} (g2 : State.Good q n x2) :
    State.GoodOut q n (execClrLatch x1 x2) := by
  delta execClrLatch
  refine good_next ?_
  refine good_ite ?_ ?_
  · exact State.clearLatches_good g2
  · exact g2

theorem State.attribute_good {x1} {x2} (g1 : State.Good q n x1) :
    State.Good q n (State.attribute x1 x2) := by
  delta State.attribute
  exact g1.of_eq rfl rfl rfl rfl rfl rfl rfl rfl rfl rfl rfl

theorem State.doPwrSubsysReset_good {x1} {x2} {x3} (g1 : State.Good q n x1) :
    State.Good q n (State.doPwrSubsysReset x1 x2 x3) := by
  delta State.doPwrSubsysReset
  refine State.checked_good ?_ ?_
  · exact g1
  · intro x1 h2
    exact State.recoverStart_good h2

theorem execStreakClear_good {x1} (g1 : State.Good q n x1) :
    State.GoodOut q n (execStreakClear x1) := by
  delta execStreakClear
  exact good_next (State.streakClear_good g1)

theorem State.fltRecord_good {s i} (h : State.Good q n s) : State.Good q n (State.fltRecord s i) := by
  unfold State.fltRecord
  extract_lets -merge -underBinder +onlyGivenNames b f y1 y2 y3
  have h1 : State.Good q n y1 := h.withFaults (List.erase_sublist.length_le.trans h.inv.faults)
  clear_value y1
  have h2 : State.Good q n y2 := State.count_good (State.event_good (State.record_good h1))
  clear_value y2
  have h3 : State.Good q n y3 := State.when_good h2 fun _ ht => State.wr_good ht
  clear_value y3
  refine good_ite ?_ h3
  extract_lets -merge -underBinder +onlyGivenNames y4
  have h4 : State.Good q n y4 := State.attribute_good h3
  clear_value y4
  exact good_ite (h4.of_eq rfl rfl rfl rfl rfl rfl rfl rfl rfl rfl rfl) h4

theorem State.fltStep_good {x1} (g1 : State.Good q n x1) :
    State.Good q n (State.fltStep x1) := by
  delta State.fltStep
  extract_lets -merge -underBinder +onlyGivenNames y1
  try clear_value y1
  extract_lets -merge -underBinder +onlyGivenNames y2
  try clear_value y2
  split
  · refine good_ite ?_ ?_
    · exact g1.of_eq rfl rfl rfl rfl rfl rfl rfl rfl rfl rfl rfl
    · exact State.fltAct_good g1
  · split
    · exact State.fltRecord_good g1
    · exact g1

theorem State.recoverPost_good {x1} {x2} {x3} (g1 : State.Good q n x1) :
    State.Good q n (State.recoverPost x1 x2 x3) := by
  delta State.recoverPost
  extract_lets -merge -underBinder +onlyGivenNames y1 y2 y3
  have h7 : State.Good q n y3 := by
    subst y3
    refine State.each_good ?_ ?_
    · exact g1
    · intro x4 x6 h5
      exact State.finish_good h5
  try clear_value y3
  extract_lets -merge -underBinder +onlyGivenNames y8
  have h12 : State.Good q n y8 := by
    subst y8
    refine State.each_good ?_ ?_
    · exact h7
    · intro x9 x11 h10
      exact State.ok_good h10
  try clear_value y8
  refine State.modChan_good ?_ ?_
  · exact h12
  · intro x13 h14
    exact raiseOn_good h14

theorem execPwrSubsysReset_good {x1} {x2} (g2 : State.Good q n x2) :
    State.GoodOut q n (execPwrSubsysReset x1 x2) := by
  delta execPwrSubsysReset
  refine good_next ?_
  refine State.command_good ?_ ?_
  · exact g2
  · intro x1 x3 x4 h2
    exact State.doPwrSubsysReset_good h2

theorem State.recoverEnd_good {x1} {x2} (g1 : State.Good q n x1) :
    State.Good q n (State.recoverEnd x1 x2) := by
  delta State.recoverEnd
  extract_lets -merge -underBinder +onlyGivenNames y1 y2
  have h3 : State.Good q n y2 := by subst y2; exact g1.of_eq rfl rfl rfl rfl rfl rfl rfl rfl rfl rfl rfl
  try clear_value y2
  extract_lets -merge -underBinder +onlyGivenNames y4
  have h5 : State.Good q n y4 := by subst y4; exact State.hayForget_good h3
  try clear_value y4
  extract_lets -merge -underBinder +onlyGivenNames y6
  have h10 : State.Good q n y6 := by
    subst y6
    refine State.each_good ?_ ?_
    · exact h5
    · intro x7 x9 h8
      exact State.recoverPost_good h8
  try clear_value y6
  exact State.record_good h10

theorem execRecoveryEnd_good {x1} {x2} (g2 : State.Good q n x2) :
    State.GoodOut q n (execRecoveryEnd x1 x2) := by
  delta execRecoveryEnd
  refine good_next ?_
  refine State.each_good ?_ ?_
  · exact g2
  · intro x1 x3 h2
    exact State.recoverEnd_good h2

theorem State.recoverEnds_good {x1} (g1 : State.Good q n x1) :
    State.Good q n (State.recoverEnds x1) := by
  delta State.recoverEnds
  refine State.each_good ?_ ?_
  · exact g1
  · intro x1 x3 h2
    exact State.recoverEnd_good h2

theorem State.resetUnit_good {x1} {x2} (g1 : State.Good q n x1) :
    State.Good q n (State.resetUnit x1 x2) := by
  delta State.resetUnit
  split
  · exact State.adcReset_good g1
  · exact State.portsReset_good g1
  · exact State.busUnitReset_good g1
  · exact State.busUnitReset_good g1
  · exact State.stbUnitReset_good g1
  · exact State.dspUnitReset_good g1
  · exact State.segUnitReset_good g1

theorem State.fltSvc_good {x1} (g1 : State.Good q n x1) :
    State.Good q n (State.fltSvc x1) := by
  delta State.fltSvc
  refine times_good ?_ ?_
  · intro x1 h2
    exact State.fltStep_good h2
  · exact State.recoverEnds_good g1

theorem State.unitEffect_good {x1} {x2} (g1 : State.Good q n x1) :
    State.Good q n (State.unitEffect x1 x2) := by
  delta State.unitEffect
  refine good_ite ?_ ?_
  · exact State.resetUnit_good (g1.of_eq rfl rfl rfl rfl rfl rfl rfl rfl rfl rfl rfl)
  · exact g1

theorem State.unitEffects_good {x1} (g1 : State.Good q n x1) :
    State.Good q n (State.unitEffects x1) := by
  delta State.unitEffects
  refine State.each_good ?_ ?_
  · exact g1
  · intro x1 x3 h2
    exact State.unitEffect_good h2

theorem execSubsysUnitReset_good {x1} {x2} (g2 : State.Good q n x2) :
    State.GoodOut q n (execSubsysUnitReset x1 x2) := by
  delta execSubsysUnitReset
  exact good_next (State.unitEffect_good g2)

/-! ### Thermal -/

theorem State.thmNote_good {x1} {x2} {x3} {x4} (g1 : State.Good q n x1) :
    State.Good q n (State.thmNote x1 x2 x3 x4) := by
  delta State.thmNote
  exact State.note_good g1

theorem State.thmReset_good {x1} (g1 : State.Good q n x1) :
    State.Good q n (State.thmReset x1) := by
  delta State.thmReset
  extract_lets -merge -underBinder +onlyGivenNames y1
  have h5 : State.Good q n y1 := by
    subst y1
    refine State.each_good ?_ ?_
    · exact g1
    · intro x2 x4 h3
      exact State.clearAttr_good h3
  try clear_value y1
  exact h5.of_eq rfl rfl rfl rfl rfl rfl rfl rfl rfl rfl rfl

theorem State.thmLatch_good {x1} {x2} (g1 : State.Good q n x1) :
    State.Good q n (State.thmLatch x1 x2) := by
  delta State.thmLatch
  exact State.wrs_good g1

theorem State.thmPeak_good {x1} {x2} (g1 : State.Good q n x1) :
    State.Good q n (State.thmPeak x1 x2) := by
  delta State.thmPeak
  refine good_ite ?_ ?_
  · exact g1
  · exact State.wrs_good g1

theorem State.levelFall_good {x1} (g1 : State.Good q n x1) :
    State.Good q n (State.levelFall x1) := by
  delta State.levelFall
  extract_lets -merge -underBinder +onlyGivenNames y1
  refine good_ite ?_ ?_
  · extract_lets -merge -underBinder +onlyGivenNames y2
    refine good_ite ?_ ?_
    · exact g1.of_eq rfl rfl rfl rfl rfl rfl rfl rfl rfl rfl rfl
    · exact g1.of_eq rfl rfl rfl rfl rfl rfl rfl rfl rfl rfl rfl
  · exact g1.of_eq rfl rfl rfl rfl rfl rfl rfl rfl rfl rfl rfl

theorem State.thmCommit_good {x1} (g1 : State.Good q n x1) :
    State.Good q n (State.thmCommit x1) := by
  delta State.thmCommit
  split
  · exact g1
  · extract_lets -merge -underBinder +onlyGivenNames y1
    have h2 : State.Good q n y1 := by subst y1; exact State.thmLatch_good g1
    try clear_value y1
    exact h2.of_eq rfl rfl rfl rfl rfl rfl rfl rfl rfl rfl rfl

theorem State.thmRead_good {x1} {x2} (g1 : State.Good q n x1) :
    State.Good q n (State.thmRead x1 x2) := by
  delta State.thmRead
  extract_lets -merge -underBinder +onlyGivenNames y1
  refine State.wr_good ?_
  refine State.each_good ?_ ?_
  · exact g1
  · intro x2 x4 h3
    exact State.wr_good h3

theorem State.riseAct_good {x1} {x2} (g1 : State.Good q n x1) :
    State.Good q n (State.riseAct x1 x2) := by
  delta State.riseAct
  refine good_ite ?_ ?_
  · extract_lets -merge -underBinder +onlyGivenNames y1 y2
    have h3 : State.Good q n y2 := by subst y2; exact State.wr_good g1
    try clear_value y2
    extract_lets -merge -underBinder +onlyGivenNames y4 y5
    have h6 : State.Good q n y5 := by subst y5; exact h3.of_eq rfl rfl rfl rfl rfl rfl rfl rfl rfl rfl rfl
    try clear_value y5
    refine good_ite ?_ ?_
    · exact h6
    · exact State.thmNote_good h6
  · extract_lets -merge -underBinder +onlyGivenNames y7 y8 y9
    have h10 : State.Good q n y9 := by subst y9; exact g1.of_eq rfl rfl rfl rfl rfl rfl rfl rfl rfl rfl rfl
    try clear_value y9
    refine good_ite ?_ ?_
    · exact State.wr_good h10
    · exact h10

theorem State.prohibit_good {x1} {x2} {x3} {x4} {x5} (g1 : State.Good q n x1) :
    State.Good q n (State.prohibit x1 x2 x3 x4 x5) := by
  delta State.prohibit
  extract_lets -merge -underBinder +onlyGivenNames y1 y2
  refine good_ite ?_ ?_
  · exact g1
  · exact State.thmNote_good (State.wrB_good g1)

theorem State.cutRecord_good {x1} (g1 : State.Good q n x1) :
    State.Good q n (State.cutRecord x1) := by
  delta State.cutRecord
  extract_lets -merge -underBinder +onlyGivenNames y1 y2
  have h3 : State.Good q n y2 := by subst y2; exact g1.of_eq rfl rfl rfl rfl rfl rfl rfl rfl rfl rfl rfl
  try clear_value y2
  refine good_ite ?_ ?_
  · exact h3
  · exact State.thmLatch_good h3

theorem State.thmHot_good {x1} (g1 : State.Good q n x1) :
    State.Good q n (State.thmHot x1) := by
  delta State.thmHot
  split
  · exact State.wr_good g1
  · exact State.thmPeak_good (State.wrs_good g1)

theorem State.ringsTold_good {x1} (g1 : State.Good q n x1) :
    State.Good q n (State.ringsTold x1) := by
  delta State.ringsTold
  extract_lets -merge -underBinder +onlyGivenNames y1 y2
  have h3 : State.Good q n y2 := by subst y2; exact g1.of_eq rfl rfl rfl rfl rfl rfl rfl rfl rfl rfl rfl
  try clear_value y2
  refine State.each_good ?_ ?_
  · exact h3
  · intro x4 x6 h5
    refine good_ite ?_ ?_
    · exact h5
    · exact State.fault_good (State.thmNote_good (h5.of_eq rfl rfl rfl rfl rfl rfl rfl rfl rfl rfl rfl))

theorem State.enforcedTold_good {x1} {x2} {x3} (g1 : State.Good q n x1) :
    State.Good q n (State.enforcedTold x1 x2 x3) := by
  delta State.enforcedTold
  extract_lets -merge -underBinder +onlyGivenNames y1
  refine good_ite ?_ ?_
  · exact g1
  · extract_lets -merge -underBinder +onlyGivenNames y2 y3
    have h4 : State.Good q n y3 := by subst y3; exact State.thmNote_good g1
    try clear_value y3
    refine good_ite ?_ ?_
    · exact State.fault_good h4
    · exact h4

theorem State.thmLap_good {x1} (g1 : State.Good q n x1) :
    State.Good q n (State.thmLap x1) := by
  delta State.thmLap
  extract_lets -merge -underBinder +onlyGivenNames y1 y2 y3 y4
  have h5 : State.Good q n y4 := by subst y4; exact State.wr_good g1
  try clear_value y4
  extract_lets -merge -underBinder +onlyGivenNames y6 y7
  have h11 : State.Good q n y7 := by
    subst y7
    refine State.each_good ?_ ?_
    · exact h5.of_eq rfl rfl rfl rfl rfl rfl rfl rfl rfl rfl rfl
    · intro x8 x10 h9
      exact State.ok_good h9
  try clear_value y7
  refine good_ite ?_ ?_
  · extract_lets -merge -underBinder +onlyGivenNames y12
    have h13 : State.Good q n y12 := by subst y12; exact State.wr_good h11
    try clear_value y12
    extract_lets -merge -underBinder +onlyGivenNames y14 y15
    have h16 : State.Good q n y15 := by subst y15; exact h13.of_eq rfl rfl rfl rfl rfl rfl rfl rfl rfl rfl rfl
    try clear_value y15
    refine good_ite ?_ ?_
    · exact h16
    · exact h16.of_eq rfl rfl rfl rfl rfl rfl rfl rfl rfl rfl rfl
  · exact h11

theorem State.shedRequest_good {x1} {x2} (g1 : State.Good q n x1) :
    State.Good q n (State.shedRequest x1 x2) := by
  delta State.shedRequest
  exact State.fault_good (State.thmNote_good (State.wr_good g1))

theorem State.prohibitions_good {x1} (g1 : State.Good q n x1) :
    State.Good q n (State.prohibitions x1) := by
  delta State.prohibitions
  exact State.prohibit_good (State.prohibit_good g1)

theorem State.doThmFloor_good {x1} {x2} {x3} (g1 : State.Good q n x1) :
    State.Good q n (State.doThmFloor x1 x2 x3) := by
  delta State.doThmFloor
  refine State.checked_good ?_ ?_
  · exact g1
  · intro x1 h2
    extract_lets -merge -underBinder +onlyGivenNames y3 y4
    have h5 : State.Good q n y4 := by subst y4; exact State.wr_good h2
    try clear_value y4
    extract_lets -merge -underBinder +onlyGivenNames y6 y7
    have h8 : State.Good q n y7 := by subst y7; exact h5.of_eq rfl rfl rfl rfl rfl rfl rfl rfl rfl rfl rfl
    try clear_value y7
    exact State.enforcedTold_good h8

theorem State.levelRise_good {x1} {x2} (g1 : State.Good q n x1) :
    State.Good q n (State.levelRise x1 x2) := by
  delta State.levelRise
  extract_lets -merge -underBinder +onlyGivenNames y1 y2 y3
  have h4 : State.Good q n y3 := by subst y3; exact State.wr_good g1
  try clear_value y3
  refine good_ite ?_ ?_
  · extract_lets -merge -underBinder +onlyGivenNames y5
    have h6 : State.Good q n y5 := by subst y5; exact State.wr_good h4
    try clear_value y5
    exact h6.of_eq rfl rfl rfl rfl rfl rfl rfl rfl rfl rfl rfl
  · refine good_ite ?_ ?_
    · exact State.wr_good h4
    · refine good_ite ?_ ?_
      · exact State.shedRequest_good h4
      · refine good_ite ?_ ?_
        · extract_lets -merge -underBinder +onlyGivenNames y7
          have h8 : State.Good q n y7 := by subst y7; exact State.wr_good h4
          try clear_value y7
          exact h8.of_eq rfl rfl rfl rfl rfl rfl rfl rfl rfl rfl rfl
        · exact State.wr_good h4

theorem State.riseAlarm_good {x1} {x2} (g1 : State.Good q n x1) :
    State.Good q n (State.riseAlarm x1 x2) := by
  delta State.riseAlarm
  extract_lets -merge -underBinder +onlyGivenNames y1 y2 y3
  have h4 : State.Good q n y3 := by subst y3; exact State.wrB_good (State.wr_good g1)
  try clear_value y3
  refine good_ite ?_ ?_
  · exact State.fault_good (State.thmNote_good h4)
  · exact h4

theorem State.noRing_good {x1} (g1 : State.Good q n x1) :
    State.Good q n (State.noRing x1) := by
  delta State.noRing
  extract_lets -merge -underBinder +onlyGivenNames y1
  have h2 : State.Good q n y1 := by subst y1; exact State.wrs_good g1
  try clear_value y1
  extract_lets -merge -underBinder +onlyGivenNames y3 y4
  have h5 : State.Good q n y4 := by subst y4; exact h2.of_eq rfl rfl rfl rfl rfl rfl rfl rfl rfl rfl rfl
  try clear_value y4
  refine good_ite ?_ ?_
  · exact h5
  · exact State.fault_good (h5.of_eq rfl rfl rfl rfl rfl rfl rfl rfl rfl rfl rfl)

theorem State.orderlyStop_good {x1} (g1 : State.Good q n x1) :
    State.Good q n (State.orderlyStop x1) := by
  delta State.orderlyStop
  extract_lets -merge -underBinder +onlyGivenNames y1 y2
  have h3 : State.Good q n y2 := by subst y2; exact State.thmNote_good (State.wr_good g1)
  try clear_value y2
  extract_lets -merge -underBinder +onlyGivenNames y4 y5
  have h6 : State.Good q n y5 := by subst y5; exact h3.of_eq rfl rfl rfl rfl rfl rfl rfl rfl rfl rfl rfl
  try clear_value y5
  extract_lets -merge -underBinder +onlyGivenNames y7
  have h8 : State.Good q n y7 := by subst y7; exact State.orderlyOff_good h6
  try clear_value y7
  extract_lets -merge -underBinder +onlyGivenNames y9
  have h15 : State.Good q n y9 := by
    subst y9
    refine State.each_good ?_ ?_
    · exact h8
    · intro x10 x12 h11
      refine State.when_good ?_ ?_
      · exact h11
      · intro x13 h14
        exact State.grpDisable_good h14
  try clear_value y9
  extract_lets -merge -underBinder +onlyGivenNames y16
  have h17 : State.Good q n y16 := by subst y16; exact State.forceEnds_good h15
  try clear_value y16
  refine State.each_good ?_ ?_
  · exact h17
  · intro x18 x20 h19
    exact State.modRamp_good (State.wr_good h19)

theorem State.thmFirst_good {x1} {x2} (g1 : State.Good q n x1) :
    State.Good q n (State.thmFirst x1 x2) := by
  delta State.thmFirst
  exact State.prohibitions_good (State.thmHot_good (State.thmRead_good (g1.of_eq rfl rfl rfl rfl rfl rfl rfl rfl rfl rfl rfl)))

theorem State.stopJudge_good {x1} (g1 : State.Good q n x1) :
    State.Good q n (State.stopJudge x1) := by
  delta State.stopJudge
  refine good_ite ?_ ?_
  · exact State.orderlyStop_good g1
  · exact g1

theorem State.thmLevels_good {x1} (g1 : State.Good q n x1) :
    State.Good q n (State.thmLevels x1) := by
  delta State.thmLevels
  extract_lets -merge -underBinder +onlyGivenNames y1
  refine good_ite ?_ ?_
  · extract_lets -merge -underBinder +onlyGivenNames y2 y3 y4
    have h5 : State.Good q n y4 := by subst y4; exact g1.of_eq rfl rfl rfl rfl rfl rfl rfl rfl rfl rfl rfl
    try clear_value y4
    exact State.enforcedTold_good (State.levelFall_good (State.levelRise_good h5))
  · exact State.enforcedTold_good (State.noRing_good g1)

theorem State.thmEval_good {x1} (g1 : State.Good q n x1) :
    State.Good q n (State.thmEval x1) := by
  delta State.thmEval
  extract_lets -merge -underBinder +onlyGivenNames y1
  have h2 : State.Good q n y1 := by subst y1; exact State.prohibitions_good (State.thmHot_good (State.ringsTold_good g1))
  try clear_value y1
  extract_lets -merge -underBinder +onlyGivenNames y3 y4
  have h5 : State.Good q n y4 := by subst y4; exact State.wr_good h2
  try clear_value y4
  extract_lets -merge -underBinder +onlyGivenNames y6 y7
  have h8 : State.Good q n y7 := by subst y7; exact h5.of_eq rfl rfl rfl rfl rfl rfl rfl rfl rfl rfl rfl
  try clear_value y7
  exact State.stopJudge_good (State.thmLevels_good (State.riseAct_good (State.riseAlarm_good h8)))

/-! ### Cadence -/

theorem State.overrunTold_good {s core job entry} (h : State.Good q n s) : State.Good q n (State.overrunTold s core job entry) := by
  have hy : State.Good q n ((s.wr R.CAD_STAT_OVR 1).count R.CAD_OVRCNT_COUNT 0xFFFFFFFF 1) := State.count_good (State.wr_good h)
  refine good_ite' (fun hc => hy.withOvr ?_) fun _ => hy
  rw [List.length_append]
  exact Nat.succ_le_of_lt hc

theorem State.setRun_good {x1} {x2} {x3} (g1 : State.Good q n x1) :
    State.Good q n (State.setRun x1 x2 x3) := by
  delta State.setRun
  refine good_ite ?_ ?_
  · exact g1.of_eq rfl rfl rfl rfl rfl rfl rfl rfl rfl rfl rfl
  · exact g1.of_eq rfl rfl rfl rfl rfl rfl rfl rfl rfl rfl rfl

theorem State.debugRunHold_good {x1} {x2} (g1 : State.Good q n x1) :
    State.Good q n (State.debugRunHold x1 x2) := by
  delta State.debugRunHold
  exact State.setRun_good g1

theorem State.runDone_good {x1} {x2} {x3} (g1 : State.Good q n x1) :
    State.Good q n (State.runDone x1 x2 x3) := by
  delta State.runDone
  split
  · exact g1
  · extract_lets -merge -underBinder +onlyGivenNames y1 y2
    have h3 : State.Good q n y2 := by subst y2; exact State.setRun_good g1
    try clear_value y2
    extract_lets -merge -underBinder +onlyGivenNames y4 y5
    have h6 : State.Good q n y5 := by subst y5; exact h3.of_eq rfl rfl rfl rfl rfl rfl rfl rfl rfl rfl rfl
    try clear_value y5
    extract_lets -merge -underBinder +onlyGivenNames y7 y8 y9
    have h10 : State.Good q n y9 := by
      subst y9
      refine good_ite ?_ ?_
      · exact h6.of_eq rfl rfl rfl rfl rfl rfl rfl rfl rfl rfl rfl
      · exact h6.of_eq rfl rfl rfl rfl rfl rfl rfl rfl rfl rfl rfl
    try clear_value y9
    refine good_ite ?_ ?_
    · exact State.wrs_good h10
    · exact h10

theorem State.watchTick_good {x1} (g1 : State.Good q n x1) :
    State.Good q n (State.watchTick x1) := by
  delta State.watchTick
  extract_lets -merge -underBinder +onlyGivenNames y1 y2 y3 y4 y5
  have h6 : State.Good q n y5 := by subst y5; exact g1.of_eq rfl rfl rfl rfl rfl rfl rfl rfl rfl rfl rfl
  try clear_value y5
  exact State.coreWatch_good (State.coreWatch_good h6)

theorem State.tableLoad_good {x1} {x2} (g1 : State.Good q n x1) :
    State.Good q n (State.tableLoad x1 x2) := by
  delta State.tableLoad
  extract_lets -merge -underBinder +onlyGivenNames y1
  exact g1.of_eq rfl rfl rfl rfl rfl rfl rfl rfl rfl rfl rfl

theorem State.cadReset_good {s} (h : State.Good q n s) : State.Good q n (State.cadReset s) := by
  have e : ∀ (l : List Nat) (t : State), (t.each l State.clearAttr).cad = t.cad := fun l => by
    induction l with
    | nil => exact fun _ => rfl
    | cons x rest ih => exact fun t => ih (t.clearAttr x)
  have hc := (State.each_good (l := [0x0101, 0x0102, 0x0103, 0x0104, 0x0105, 0x0106]) (f := State.clearAttr) h
    fun _ _ => State.clearAttr_good).withOvr (m := []) (Nat.zero_le _)
  refine hc.of_eq rfl ?_ rfl rfl rfl rfl rfl rfl rfl rfl rfl
  show s.cad.now = (s.each [0x0101, 0x0102, 0x0103, 0x0104, 0x0105, 0x0106] State.clearAttr).cad.now
  rw [e]

theorem State.debugRunEnd_good {x1} {x2} (g1 : State.Good q n x1) :
    State.Good q n (State.debugRunEnd x1 x2) := by
  delta State.debugRunEnd
  exact State.setRun_good g1

theorem State.tableSwap_good {x1} (g1 : State.Good q n x1) :
    State.Good q n (State.tableSwap x1) := by
  delta State.tableSwap
  refine good_ite ?_ ?_
  · extract_lets -merge -underBinder +onlyGivenNames y1 y2
    have h3 : State.Good q n y2 := by subst y2; exact State.wr_good g1
    try clear_value y2
    exact h3.of_eq rfl rfl rfl rfl rfl rfl rfl rfl rfl rfl rfl
  · exact g1

theorem State.dspLapEdge_good {x1} (g1 : State.Good q n x1) :
    State.Good q n (State.dspLapEdge x1) := by
  delta State.dspLapEdge
  exact g1.of_eq rfl rfl rfl rfl rfl rfl rfl rfl rfl rfl rfl

theorem State.aonReturn_good {x1} (g1 : State.Good q n x1) :
    State.Good q n (State.aonReturn x1) := by
  delta State.aonReturn
  refine good_ite ?_ ?_
  · extract_lets -merge -underBinder +onlyGivenNames y1
    have h2 : State.Good q n y1 := by subst y1; exact State.wr_good g1
    try clear_value y1
    exact h2.of_eq rfl rfl rfl rfl rfl rfl rfl rfl rfl rfl rfl
  · exact g1

theorem State.tableReload_good {x1} (g1 : State.Good q n x1) :
    State.Good q n (State.tableReload x1) := by
  delta State.tableReload
  refine good_ite ?_ ?_
  · extract_lets -merge -underBinder +onlyGivenNames y1
    have h2 : State.Good q n y1 := by subst y1; exact State.wr_good g1
    try clear_value y1
    exact h2.of_eq rfl rfl rfl rfl rfl rfl rfl rfl rfl rfl rfl
  · exact g1

theorem State.dispatch_good {x1} {x2} {x3} (g1 : State.Good q n x1) :
    State.Good q n (State.dispatch x1 x2 x3) := by
  delta State.dispatch
  extract_lets -merge -underBinder +onlyGivenNames y1
  refine good_ite ?_ ?_
  · exact g1
  · extract_lets -merge -underBinder +onlyGivenNames y2 y3
    have h4 : State.Good q n y3 := by subst y3; exact State.setRun_good g1
    try clear_value y3
    refine good_ite ?_ ?_
    · exact h4
    · refine good_ite ?_ ?_
      · exact h4.of_eq rfl rfl rfl rfl rfl rfl rfl rfl rfl rfl rfl
      · exact h4.of_eq rfl rfl rfl rfl rfl rfl rfl rfl rfl rfl rfl

theorem State.overrunFault_good {x1} {x2} {x3} {x4} {x5} (g1 : State.Good q n x1) :
    State.Good q n (State.overrunFault x1 x2 x3 x4 x5) := by
  delta State.overrunFault
  exact State.fault_good g1

theorem State.slotEntry_good {x1} (g1 : State.Good q n x1) :
    State.Good q n (State.slotEntry x1).2 := by
  delta State.slotEntry
  extract_lets -merge -underBinder +onlyGivenNames y1
  refine good_snd_ite ?_ ?_
  · exact good_mk_snd g1
  · refine good_mk_snd ?_
    refine State.fault_good ?_
    extract_lets -merge -underBinder +onlyGivenNames y2
    have h3 : State.Good q n y2 := by subst y2; exact State.wr_good g1
    try clear_value y2
    exact h3.of_eq rfl rfl rfl rfl rfl rfl rfl rfl rfl rfl rfl

theorem State.ctlOverrun_good {s core job} (h : State.Good q n s) : State.Good q n (State.ctlOverrun s core job) := by
  unfold State.ctlOverrun
  extract_lets -merge -underBinder +onlyGivenNames k c y1 y2
  have h1 : State.Good q n y1 := h.of_eq rfl rfl rfl rfl rfl rfl rfl rfl rfl rfl rfl
  have h2 : State.Good q n y2 := good_ite (State.zonSkip_good h1) h1
  exact good_ite (State.hubFault_good h2) (State.overrunFault_good h2)

theorem State.trimStage_good {x1} {x2} {x3} (g1 : State.Good q n x1) :
    State.Good q n (State.trimStage x1 x2 x3) := by
  delta State.trimStage
  refine good_ite ?_ ?_
  · exact State.wr_good g1
  · extract_lets -merge -underBinder +onlyGivenNames y1 y2 y3
    have h4 : State.Good q n y3 := by subst y3; exact State.wrs_good g1
    try clear_value y3
    extract_lets -merge -underBinder +onlyGivenNames y5 y6
    have h7 : State.Good q n y6 := by subst y6; exact h4.of_eq rfl rfl rfl rfl rfl rfl rfl rfl rfl rfl rfl
    try clear_value y6
    refine good_ite ?_ ?_
    · exact h7
    · exact State.fault_good (State.wr_good h7)

theorem State.aonLose_good {x1} (g1 : State.Good q n x1) :
    State.Good q n (State.aonLose x1) := by
  delta State.aonLose
  refine good_ite ?_ ?_
  · exact g1
  · refine State.fault_good ?_
    extract_lets -merge -underBinder +onlyGivenNames y1
    have h2 : State.Good q n y1 := by subst y1; exact State.wrs_good g1
    try clear_value y1
    exact h2.of_eq rfl rfl rfl rfl rfl rfl rfl rfl rfl rfl rfl

theorem State.ioOverrun_good {x1} {x2} {x3} (g1 : State.Good q n x1) :
    State.Good q n (State.ioOverrun x1 x2 x3) := by
  delta State.ioOverrun
  extract_lets -merge -underBinder +onlyGivenNames y1 y2 y3
  have h4 : State.Good q n y3 := by subst y3; exact g1.of_eq rfl rfl rfl rfl rfl rfl rfl rfl rfl rfl rfl
  try clear_value y3
  refine good_ite ?_ ?_
  · exact State.overrunFault_good h4
  · exact h4

theorem State.dspOverrun_good {x1} {x2} (g1 : State.Good q n x1) :
    State.Good q n (State.dspOverrun x1 x2) := by
  delta State.dspOverrun
  extract_lets -merge -underBinder +onlyGivenNames y1 y2 y3 y4
  have h5 : State.Good q n y4 := by subst y4; exact g1.of_eq rfl rfl rfl rfl rfl rfl rfl rfl rfl rfl rfl
  try clear_value y4
  refine good_ite ?_ ?_
  · exact State.overrunFault_good (h5.of_eq rfl rfl rfl rfl rfl rfl rfl rfl rfl rfl rfl)
  · exact State.overrunFault_good h5

theorem State.overrun_good {x1} {x2} {x3} {x4} (g1 : State.Good q n x1) :
    State.Good q n (State.overrun x1 x2 x3 x4) := by
  delta State.overrun
  extract_lets -merge -underBinder +onlyGivenNames y1
  have h2 : State.Good q n y1 := by subst y1; exact State.overrunTold_good g1
  try clear_value y1
  split
  · exact State.overrunFault_good (State.adcResLost_good h2)
  · exact State.overrunFault_good (State.adcResLost_good h2)
  · exact State.overrunFault_good h2
  · exact State.overrunFault_good (State.stbOverrun_good h2)
  · split
    · exact State.ctlOverrun_good h2
    · exact State.overrunFault_good h2
    · exact State.dspOverrun_good h2
    · exact State.overrunFault_good h2
    · exact State.ioOverrun_good h2

theorem State.runEnd_good {x1} {x2} {x3} (g1 : State.Good q n x1) :
    State.Good q n (State.runEnd x1 x2 x3) := by
  delta State.runEnd
  split
  · exact g1
  · refine good_ite ?_ ?_
    · exact State.setRun_good g1
    · exact State.overrun_good (State.setRun_good g1)

theorem State.guardStb_good {x1} {x2} (g1 : State.Good q n x1) :
    State.Good q n (State.guardStb x1 x2) := by
  delta State.guardStb
  split
  · exact g1
  · extract_lets -merge -underBinder +onlyGivenNames y1 y2
    have h3 : State.Good q n y2 := by subst y2; exact g1.of_eq rfl rfl rfl rfl rfl rfl rfl rfl rfl rfl rfl
    try clear_value y2
    refine good_ite ?_ ?_
    · exact State.overrun_good h3
    · exact h3

theorem State.guardAdc_good {x1} (g1 : State.Good q n x1) :
    State.Good q n (State.guardAdc x1) := by
  delta State.guardAdc
  split
  · exact g1
  · extract_lets -merge -underBinder +onlyGivenNames y1 y2 y3
    have h4 : State.Good q n y3 := by subst y3; exact g1.of_eq rfl rfl rfl rfl rfl rfl rfl rfl rfl rfl rfl
    try clear_value y3
    refine good_ite ?_ ?_
    · exact h4
    · refine State.overrun_good ?_
      refine State.each_good ?_ ?_
      · exact h4
      · intro x5 x7 h6
        exact State.winFire_good h6

theorem State.guardCores_good {x1} {x2} {x3} (g1 : State.Good q n x1) :
    State.Good q n (State.guardCores x1 x2 x3) := by
  delta State.guardCores
  refine State.each_good ?_ ?_
  · exact g1
  · intro x1 x3 h2
    refine good_ite ?_ ?_
    · exact h2
    · exact State.runEnd_good h2

/-! ### Wake -/

theorem State.wakeFires_good {x1} {x2} (g1 : State.Good q n x1) :
    State.Good q n (State.wakeFires x1 x2) := by
  delta State.wakeFires
  refine good_ite ?_ ?_
  · refine good_ite ?_ ?_
    · extract_lets -merge -underBinder +onlyGivenNames y1
      have h2 : State.Good q n y1 := by subst y1; exact State.wr_good g1
      try clear_value y1
      exact h2.of_eq rfl rfl rfl rfl rfl rfl rfl rfl rfl rfl rfl
    · split
      · extract_lets -merge -underBinder +onlyGivenNames y3
        have h4 : State.Good q n y3 := by subst y3; exact State.wr_good g1
        try clear_value y3
        exact h4.of_eq rfl rfl rfl rfl rfl rfl rfl rfl rfl rfl rfl
      · refine good_ite ?_ ?_
        · extract_lets -merge -underBinder +onlyGivenNames y5
          have h6 : State.Good q n y5 := by subst y5; exact State.wr_good g1
          try clear_value y5
          exact h6.of_eq rfl rfl rfl rfl rfl rfl rfl rfl rfl rfl rfl
        · exact g1
  · exact g1

/-! ### Paddock -/

theorem State.padSnapReset_good {x1} (g1 : State.Good q n x1) :
    State.Good q n (State.padSnapReset x1) := by
  delta State.padSnapReset
  refine State.each_good ?_ ?_
  · exact g1
  · intro x1 x3 h2
    exact State.clearAttr_good h2

theorem State.padAsk_good {x1} {x2} {x3} (g1 : State.Good q n x1) :
    State.Good q n (State.padAsk x1 x2 x3) := by
  delta State.padAsk
  exact g1.of_eq rfl rfl rfl rfl rfl rfl rfl rfl rfl rfl rfl

theorem State.mixFollow_good {x1} (g1 : State.Good q n x1) :
    State.Good q n (State.mixFollow x1) := by
  delta State.mixFollow
  extract_lets -merge -underBinder +onlyGivenNames y1
  exact State.wrs_good g1

theorem State.padDo_good {x1} {x2} (g1 : State.Good q n x1) :
    State.Good q n (State.padDo x1 x2) := by
  delta State.padDo
  refine good_ite ?_ ?_
  · exact g1
  · extract_lets -merge -underBinder +onlyGivenNames y1
    refine State.when_good ?_ ?_
    · exact State.mixFollow_good (g1.of_eq rfl rfl rfl rfl rfl rfl rfl rfl rfl rfl rfl)
    · intro x2 h3
      exact State.wakeFires_good h3

theorem State.doPadStage_good {x1} {x2} {x3} (g1 : State.Good q n x1) :
    State.Good q n (State.doPadStage x1 x2 x3) := by
  delta State.doPadStage
  refine State.checked_good ?_ ?_
  · exact g1
  · intro x1 h2
    exact State.padAsk_good h2

theorem State.drawChallenge_good {x1} (g1 : State.Good q n x1) :
    State.Good q n (State.drawChallenge x1).2 := by
  delta State.drawChallenge
  exact good_mk_snd (State.draw_good g1)

theorem State.doPadProof_good {x1} {x2} {x3} (g1 : State.Good q n x1) :
    State.Good q n (State.doPadProof x1 x2 x3) := by
  delta State.doPadProof
  refine State.checked_good ?_ ?_
  · exact g1
  · intro x1 h2
    exact State.padAsk_good h2

theorem State.doPadCancel_good {x1} {x2} {x3} (g1 : State.Good q n x1) :
    State.Good q n (State.doPadCancel x1 x2 x3) := by
  delta State.doPadCancel
  refine State.checked_good ?_ ?_
  · exact g1
  · intro x1 h2
    exact State.padAsk_good h2

theorem State.doPadRestart_good {x1} {x2} {x3} (g1 : State.Good q n x1) :
    State.Good q n (State.doPadRestart x1 x2 x3) := by
  delta State.doPadRestart
  refine State.checked_good ?_ ?_
  · exact g1
  · intro x1 h2
    exact State.padAsk_good h2

theorem State.doPadCommit_good {x1} {x2} {x3} (g1 : State.Good q n x1) :
    State.Good q n (State.doPadCommit x1 x2 x3) := by
  delta State.doPadCommit
  refine State.checked_good ?_ ?_
  · exact g1
  · intro x1 h2
    exact State.padAsk_good h2

theorem State.padRound_good {x1} {x2} (g1 : State.Good q n x1) :
    State.Good q n (State.padRound x1 x2) := by
  delta State.padRound
  refine good_ite ?_ ?_
  · exact g1
  · refine good_ite ?_ ?_
    · extract_lets -merge -underBinder +onlyGivenNames y1
      have h2 : State.Good q n y1.2 := by subst y1; exact State.drawChallenge_good g1
      try clear_value y1
      exact State.padDo_good h2
    · exact State.padDo_good g1

theorem State.padReport_good {x1} {x2} (g1 : State.Good q n x1) :
    State.Good q n (State.padReport x1 x2) := by
  delta State.padReport
  extract_lets -merge -underBinder +onlyGivenNames y1
  have h2 : State.Good q n y1 := by
    subst y1
    refine good_ite ?_ ?_
    · exact g1
    · exact State.note_good g1
  try clear_value y1
  refine good_ite ?_ ?_
  · exact State.hayAsk_good h2
  · refine good_ite ?_ ?_
    · exact h2
    · exact State.fault_good h2

theorem State.padXch_good {x1} (g1 : State.Good q n x1) :
    State.Good q n (State.padXch x1) := by
  delta State.padXch
  extract_lets -merge -underBinder +onlyGivenNames y1 y2 y3
  have h7 : State.Good q n y3 := by
    subst y3
    refine State.each_good ?_ ?_
    · exact g1.of_eq rfl rfl rfl rfl rfl rfl rfl rfl rfl rfl rfl
    · intro x4 x6 h5
      refine good_ite ?_ ?_
      · exact State.accepted_good h5
      · exact State.finish_good h5
  try clear_value y3
  refine good_ite ?_ ?_
  · refine good_ite ?_ ?_
    · exact h7
    · exact State.fault_good (h7.of_eq rfl rfl rfl rfl rfl rfl rfl rfl rfl rfl rfl)
  · extract_lets -merge -underBinder +onlyGivenNames y8 y9
    have h10 : State.Good q n y9 := by subst y9; exact State.count_good (State.wrs_good h7)
    try clear_value y9
    extract_lets -merge -underBinder +onlyGivenNames y11
    have h12 : State.Good q n y11 := by subst y11; exact h10.of_eq rfl rfl rfl rfl rfl rfl rfl rfl rfl rfl rfl
    try clear_value y11
    extract_lets -merge -underBinder +onlyGivenNames y13
    have h17 : State.Good q n y13 := by
      subst y13
      refine State.each_good ?_ ?_
      · exact h12
      · intro x14 x16 h15
        exact State.padReport_good h15
    try clear_value y13
    exact State.padDo_good (h17.of_eq rfl rfl rfl rfl rfl rfl rfl rfl rfl rfl rfl)

end Sys2Proof.Machine
end

