-- ==== Sys2Proof/Laws/Good6.lean ====
section
/-!
SUPPORT. Sys2Proof/Laws/Good6.lean: the operations of ZoneCommands, Reset, Power, PowerCommands, HayloftCommands, AttrAccess, BusCommands, Debug keep
the queue, the count of slot edges and the invariant.
-/

namespace Sys2Proof.Machine

variable {q : List Instr} {n : Nat}

/-! ### ZoneCommands -/

theorem execWindowClose_good {x1} {x2} (g2 : State.Good q n x2) :
    State.GoodOut q n (execWindowClose x1 x2) := by
  delta execWindowClose
  exact good_next (State.zonWindowExpire_good g2)

theorem execGap_good {x1} {x2} (g2 : State.Good q n x2) :
    State.GoodOut q n (execGap x1 x2) := by
  delta execGap
  exact good_next (State.zonGap_good g2)

theorem execUnoccupied_good {x1} {x2} (g2 : State.Good q n x2) :
    State.GoodOut q n (execUnoccupied x1 x2) := by
  delta execUnoccupied
  exact good_next (State.zonUnoccupied_good g2)

theorem State.schedSupersede_good {x1} {x2} {x3} (g1 : State.Good q n x1) :
    State.Good q n (State.schedSupersede x1 x2 x3) := by
  delta State.schedSupersede
  refine State.each_good ?_ ?_
  · exact g1
  · intro x1 x3 h2
    extract_lets -merge -underBinder +onlyGivenNames y4 y5 y6 y7
    have h11 : State.Good q n y7 := by
      subst y7
      refine State.each_good ?_ ?_
      · exact h2
      · intro x8 x10 h9
        exact State.hayDrop_good h9
    try clear_value y7
    refine good_ite ?_ ?_
    · exact h11
    · extract_lets -merge -underBinder +onlyGivenNames y12
      refine good_ite ?_ ?_
      · exact State.finish_good (h11.of_eq rfl rfl rfl rfl rfl rfl rfl rfl rfl rfl rfl)
      · exact h11.of_eq rfl rfl rfl rfl rfl rfl rfl rfl rfl rfl rfl

theorem State.zonWrite_good {x1} {x2} {x3} (g1 : State.Good q n x1) :
    State.Good q n (State.zonWrite x1 x2 x3) := by
  delta State.zonWrite
  refine good_ite ?_ ?_
  · exact State.zonHook_good (State.setRw_good g1)
  · exact g1

theorem State.doZonRemoteT_good {x1} {x2} {x3} (g1 : State.Good q n x1) :
    State.Good q n (State.doZonRemoteT x1 x2 x3) := by
  delta State.doZonRemoteT
  extract_lets -merge -underBinder +onlyGivenNames y1 y2 y3 y4
  refine State.checked_good ?_ ?_
  · exact g1
  · intro x5 h6
    refine State.ok_good ?_
    refine State.modZone_good ?_ ?_
    · exact h6
    · intro x7 h8
      exact h8.of_eq rfl

theorem State.doZonWindow_good {x1} {x2} {x3} (g1 : State.Good q n x1) :
    State.Good q n (State.doZonWindow x1 x2 x3) := by
  delta State.doZonWindow
  extract_lets -merge -underBinder +onlyGivenNames y1
  refine State.checked_good ?_ ?_
  · exact g1
  · intro x2 h3
    refine State.ok_good ?_
    refine State.modZone_good ?_ ?_
    · exact h3
    · intro x4 h5
      exact h5.of_eq rfl

theorem execZonWindow_good {x1} {x2} (g2 : State.Good q n x2) :
    State.GoodOut q n (execZonWindow x1 x2) := by
  delta execZonWindow
  refine good_next ?_
  refine State.command_good ?_ ?_
  · exact g2
  · intro x1 x3 x4 h2
    exact State.doZonWindow_good h2

theorem State.doZonSchedRead_good {x1} {x2} {x3} (g1 : State.Good q n x1) :
    State.Good q n (State.doZonSchedRead x1 x2 x3) := by
  delta State.doZonSchedRead
  extract_lets -merge -underBinder +onlyGivenNames y1 y2
  refine State.checked_good ?_ ?_
  · exact g1
  · intro x3 h4
    extract_lets -merge -underBinder +onlyGivenNames y5
    have h6 : Zone.Good y5 := by subst y5; exact State.zone_good (q := q) (n := n) h4
    try clear_value y5
    extract_lets -merge -underBinder +onlyGivenNames y7
    exact State.ok_good h4

theorem execZonClockWrite_good {x1} {x2} (g2 : State.Good q n x2) :
    State.GoodOut q n (execZonClockWrite x1 x2) := by
  delta execZonClockWrite
  exact good_next (State.zonWrite_good g2)

theorem execSensorLost_good {x1} {x2} (g2 : State.Good q n x2) :
    State.GoodOut q n (execSensorLost x1 x2) := by
  delta execSensorLost
  exact good_next (State.zonSensorLost_good g2)

theorem State.doZonPresence_good {x1} {x2} {x3} (g1 : State.Good q n x1) :
    State.Good q n (State.doZonPresence x1 x2 x3) := by
  delta State.doZonPresence
  extract_lets -merge -underBinder +onlyGivenNames y1
  refine State.checked_good ?_ ?_
  · exact g1
  · intro x2 h3
    refine State.ok_good ?_
    refine State.modZone_good ?_ ?_
    · exact h3
    · intro x4 h5
      exact h5.of_eq rfl

theorem execHoldEnd_good {x1} {x2} (g2 : State.Good q n x2) :
    State.GoodOut q n (execHoldEnd x1 x2) := by
  delta execHoldEnd
  exact good_next (State.zonHoldExpire_good g2)

theorem execZonRemoteT_good {x1} {x2} (g2 : State.Good q n x2) :
    State.GoodOut q n (execZonRemoteT x1 x2) := by
  delta execZonRemoteT
  refine good_next ?_
  refine State.command_good ?_ ?_
  · exact g2
  · intro x1 x3 x4 h2
    exact State.doZonRemoteT_good h2

theorem execZonEnableWrite_good {x1} {x2} (g2 : State.Good q n x2) :
    State.GoodOut q n (execZonEnableWrite x1 x2) := by
  delta execZonEnableWrite
  exact good_next (State.zonWrite_good g2)

theorem State.doZonLoopReset_good {x1} {x2} {x3} (g1 : State.Good q n x1) :
    State.Good q n (State.doZonLoopReset x1 x2 x3) := by
  delta State.doZonLoopReset
  extract_lets -merge -underBinder +onlyGivenNames y1
  refine State.checked_good ?_ ?_
  · exact g1
  · intro x2 h3
    refine State.ok_good ?_
    refine State.modZone_good ?_ ?_
    · exact h3
    · intro x4 h5
      exact h5.of_eq rfl

theorem execZonPresence_good {x1} {x2} (g2 : State.Good q n x2) :
    State.GoodOut q n (execZonPresence x1 x2) := by
  delta execZonPresence
  refine good_next ?_
  refine State.command_good ?_ ?_
  · exact g2
  · intro x1 x3 x4 h2
    exact State.doZonPresence_good h2

theorem State.doZonHold_good {x1} {x2} {x3} (g1 : State.Good q n x1) :
    State.Good q n (State.doZonHold x1 x2 x3) := by
  delta State.doZonHold
  extract_lets -merge -underBinder +onlyGivenNames y1 y2 y3 y4
  refine State.checked_good ?_ ?_
  · exact g1
  · intro x5 h6
    refine State.ok_good ?_
    refine State.modZone_good ?_ ?_
    · exact h6
    · intro x7 h8
      exact h8.of_eq rfl

theorem State.doZonEvtRead_good {s r p} (h : State.Good q n s) : State.Good q n (State.doZonEvtRead s r p) := by
  refine State.checked_good h fun t ht => State.ok_good (State.modZone_good ht fun x hx => ?_)
  show (x.entries.drop _).length ≤ 32
  rw [List.length_drop]
  exact (Nat.sub_le _ _).trans hx

theorem execZonHold_good {x1} {x2} (g2 : State.Good q n x2) :
    State.GoodOut q n (execZonHold x1 x2) := by
  delta execZonHold
  refine good_next ?_
  refine State.command_good ?_ ?_
  · exact g2
  · intro x1 x3 x4 h2
    exact State.doZonHold_good h2

theorem execZonSchedRead_good {x1} {x2} (g2 : State.Good q n x2) :
    State.GoodOut q n (execZonSchedRead x1 x2) := by
  delta execZonSchedRead
  refine good_next ?_
  refine State.command_good ?_ ?_
  · exact g2
  · intro x1 x3 x4 h2
    exact State.doZonSchedRead_good h2

theorem execZonEvtRead_good {x1} {x2} (g2 : State.Good q n x2) :
    State.GoodOut q n (execZonEvtRead x1 x2) := by
  delta execZonEvtRead
  refine good_next ?_
  refine State.command_good ?_ ?_
  · exact g2
  · intro x1 x3 x4 h2
    exact State.doZonEvtRead_good h2

theorem execZonLoopReset_good {x1} {x2} (g2 : State.Good q n x2) :
    State.GoodOut q n (execZonLoopReset x1 x2) := by
  delta execZonLoopReset
  refine good_next ?_
  refine State.command_good ?_ ?_
  · exact g2
  · intro x1 x3 x4 h2
    exact State.doZonLoopReset_good h2

theorem State.doZonSave_good {x1} {x2} {x3} (g1 : State.Good q n x1) :
    State.Good q n (State.doZonSave x1 x2 x3) := by
  delta State.doZonSave
  extract_lets -merge -underBinder +onlyGivenNames y1
  refine State.checked_good ?_ ?_
  · exact g1
  · intro x2 h3
    exact State.saveObjects_good h3

theorem State.doZonSchedWrite_good {x1} {x2} {x3} (g1 : State.Good q n x1) :
    State.Good q n (State.doZonSchedWrite x1 x2 x3) := by
  delta State.doZonSchedWrite
  extract_lets -merge -underBinder +onlyGivenNames y1 y2 y3 y4
  refine State.checked_good ?_ ?_
  · exact g1
  · intro x5 h6
    extract_lets -merge -underBinder +onlyGivenNames y7 y8
    have h9 : State.Good q n y8 := by subst y8; exact State.schedSupersede_good (State.accepted_good h6)
    try clear_value y8
    extract_lets -merge -underBinder +onlyGivenNames y10 y11
    have h12 : State.Good q n y11 := by subst y11; exact h9.of_eq rfl rfl rfl rfl rfl rfl rfl rfl rfl rfl rfl
    try clear_value y11
    refine State.each_good ?_ ?_
    · exact h12
    · intro x13 x15 h14
      refine good_ite ?_ ?_
      · exact State.hayAsk_good h14
      · exact h14

theorem execZonSchedWrite_good {x1} {x2} (g2 : State.Good q n x2) :
    State.GoodOut q n (execZonSchedWrite x1 x2) := by
  delta execZonSchedWrite
  refine good_next ?_
  refine State.command_good ?_ ?_
  · exact g2
  · intro x1 x3 x4 h2
    exact State.doZonSchedWrite_good h2

theorem execZonSave_good {x1} {x2} (g2 : State.Good q n x2) :
    State.GoodOut q n (execZonSave x1 x2) := by
  delta execZonSave
  refine good_next ?_
  refine State.command_good ?_ ?_
  · exact g2
  · intro x1 x3 x4 h2
    exact State.doZonSave_good h2

theorem execZonSchedDayStored_good {x1} {x2} {x3} (g3 : State.Good q n x3) :
    State.GoodOut q n (execZonSchedDayStored x1 x2 x3) := by
  delta execZonSchedDayStored
  refine good_next ?_
  refine State.when_good ?_ ?_
  · exact g3
  · intro x1 h2
    exact State.hayWriteEnd_good h2

/-! ### Reset -/

theorem State.pwrReset_good {x1} (g1 : State.Good q n x1) :
    State.Good q n (State.pwrReset x1) := by
  delta State.pwrReset
  exact g1.of_eq rfl rfl rfl rfl rfl rfl rfl rfl rfl rfl rfl

theorem State.sessionsBoot_good {x1} (g1 : State.Good q n x1) :
    State.Good q n (State.sessionsBoot x1) := by
  delta State.sessionsBoot
  extract_lets -merge -underBinder +onlyGivenNames y1
  have h4 : State.Good q n y1 := by
    subst y1
    refine State.modChan_good ?_ ?_
    · exact g1
    · intro x2 h3
      exact raiseOn_good h3
  try clear_value y1
  refine State.modChan_good ?_ ?_
  · exact h4
  · intro x5 h6
    exact h6.of_eq rfl rfl

theorem State.hayInterrupt_good {x1} (g1 : State.Good q n x1) :
    State.Good q n (State.hayInterrupt x1) := by
  delta State.hayInterrupt
  split
  · exact g1
  · extract_lets -merge -underBinder +onlyGivenNames y1 y2
    have h3 : State.Good q n y2 := by subst y2; exact g1.of_eq rfl rfl rfl rfl rfl rfl rfl rfl rfl rfl rfl
    try clear_value y2
    refine good_ite ?_ ?_
    · exact h3
    · refine good_ite ?_ ?_
      · extract_lets -merge -underBinder +onlyGivenNames y4
        have h5 : State.Good q n y4.2 := by subst y4; exact State.draw_good h3
        try clear_value y4
        refine good_ite ?_ ?_
        · exact State.putPage_good h5
        · exact h5
      · refine good_ite ?_ ?_
        · exact h3.of_eq rfl rfl rfl rfl rfl rfl rfl rfl rfl rfl rfl
        · exact h3.of_eq rfl rfl rfl rfl rfl rfl rfl rfl rfl rfl rfl

theorem State.logHead_good {x1} {x2} (g1 : State.Good q n x1) :
    State.Good q n (State.logHead x1 x2) := by
  delta State.logHead
  split
  · exact g1
  · extract_lets -merge -underBinder +onlyGivenNames y1
    refine State.modLog_good ?_ ?_
    · exact g1
    · intro x2 h3
      exact h3.of_eq rfl

theorem State.hayFinish_good {x1} (g1 : State.Good q n x1) :
    State.Good q n (State.hayFinish x1) := by
  delta State.hayFinish
  split
  · exact g1
  · extract_lets -merge -underBinder +onlyGivenNames y1
    have h4 : State.Good q n y1 := by
      subst y1
      refine times_good ?_ ?_
      · intro x2 h3
        exact State.hayPhaseEnd_good h3
      · exact g1
    try clear_value y1
    extract_lets -merge -underBinder +onlyGivenNames y5 y6
    have h7 : State.Good q n y6 := by subst y6; exact h4.of_eq rfl rfl rfl rfl rfl rfl rfl rfl rfl rfl rfl
    try clear_value y6
    refine good_ite ?_ ?_
    · exact h7.of_eq rfl rfl rfl rfl rfl rfl rfl rfl rfl rfl rfl
    · exact h7

theorem State.spokeReset_good {s} (h : State.Good q n s) : State.Good q n (State.spokeReset s) := by
  refine (h.withChans (m := s.spoke.chans.map fun (e : Nat × Channel) => (e.1, { epoch := e.2.epoch + 1 })) fun e he => ?_).of_eq
    rfl rfl rfl rfl rfl rfl rfl rfl rfl rfl rfl
  obtain ⟨x, -, rfl⟩ := List.mem_map.mp he
  exact ⟨Nat.zero_le _, Nat.zero_le _, Nat.zero_le _, fun _ h => absurd h (List.not_mem_nil)⟩

theorem State.actReset_good {x1} (g1 : State.Good q n x1) :
    State.Good q n (State.actReset x1) := by
  delta State.actReset
  exact g1.of_eq rfl rfl rfl rfl rfl rfl rfl rfl rfl rfl rfl

theorem State.zonReset_good {s} (h : State.Good q n s) : State.Good q n (State.zonReset s) := by
  refine h.withZones ?_
  have key : ∀ (l : List (Nat × Zone)) (m : Map Zone), (∀ e ∈ m, e.2.entries.length ≤ 32) →
      ∀ e ∈ l.foldl (fun m (e : Nat × Zone) => mput {} m e.1 { seq := e.2.seq }) m, e.2.entries.length ≤ 32 := by
    intro l
    induction l with
    | nil => exact fun _ h => h
    | cons x rest ih => exact fun m hm => ih _ (all_mput (P := fun z : Zone => z.entries.length ≤ 32) hm (Nat.zero_le _))
  exact key _ _ fun _ h => absurd h (List.not_mem_nil)

theorem State.hayReset_good {s} (h : State.Good q n s) : State.Good q n (State.hayReset s) := by
  have key : ∀ (l : List Nat) (m : Map LogStream), (∀ e ∈ m, e.2.queue.length ≤ 64) →
      ∀ e ∈ l.foldl (fun m i => mput {} m i { next := (s.log i).next }) m, e.2.queue.length ≤ 64 := by
    intro l
    induction l with
    | nil => exact fun _ h => h
    | cons x rest ih => exact fun m hm => ih _ (all_mput (P := fun z : LogStream => z.queue.length ≤ 64) hm (Nat.zero_le _))
  exact (h.withLogs (key (List.range 16) [] fun _ h => absurd h (List.not_mem_nil))).of_eq rfl rfl rfl rfl rfl rfl rfl rfl rfl rfl rfl

theorem State.dbgClear_good {x1} (g1 : State.Good q n x1) :
    State.Good q n (State.dbgClear x1) := by
  delta State.dbgClear
  exact g1.of_eq rfl rfl rfl rfl rfl rfl rfl rfl rfl rfl rfl

theorem State.causeLatch_good {x1} {x2} (g1 : State.Good q n x1) :
    State.Good q n (State.causeLatch x1 x2) := by
  delta State.causeLatch
  exact State.wrs_good g1

theorem State.restore_good {x1} {x2} {x3} (g1 : State.Good q n x1) :
    State.Good q n (State.restore x1 x2 x3) := by
  delta State.restore
  split
  · exact g1
  · exact State.setImage_good g1

theorem State.actBoot_good {x1} (g1 : State.Good q n x1) :
    State.Good q n (State.actBoot x1) := by
  delta State.actBoot
  split
  · exact g1
  · extract_lets -merge -underBinder +onlyGivenNames y1
    have h2 : State.Good q n y1 := by subst y1; exact State.setImage_good g1
    try clear_value y1
    extract_lets -merge -underBinder +onlyGivenNames y3
    have h4 : State.Good q n y3 := by subst y3; exact State.setImage_good h2
    try clear_value y3
    extract_lets -merge -underBinder +onlyGivenNames y5
    have h6 : State.Good q n y5 := by subst y5; exact State.ksStageImage_good h4
    try clear_value y5
    exact h6.of_eq rfl rfl rfl rfl rfl rfl rfl rfl rfl rfl rfl

theorem State.firstRelease_good {x1} (g1 : State.Good q n x1) :
    State.Good q n (State.firstRelease x1) := by
  delta State.firstRelease
  extract_lets -merge -underBinder +onlyGivenNames y1
  have h4 : State.Good q n y1 := by
    subst y1
    refine State.when_good ?_ ?_
    · exact g1
    · intro x2 h3
      exact State.fault_good (h3.of_eq rfl rfl rfl rfl rfl rfl rfl rfl rfl rfl rfl)
  try clear_value y1
  exact State.forceOff_good h4

theorem State.recall_good {x1} (g1 : State.Good q n x1) :
    State.Good q n (State.recall x1) := by
  delta State.recall
  extract_lets -merge -underBinder +onlyGivenNames y1
  have h2 : State.Good q n y1 := by subst y1; exact State.wr_good (State.hayFinish_good g1)
  try clear_value y1
  extract_lets -merge -underBinder +onlyGivenNames y3
  have h7 : State.Good q n y3 := by
    subst y3
    refine State.each_good ?_ ?_
    · exact h2
    · intro x4 x6 h5
      exact State.logHead_good h5
  try clear_value y3
  split
  · exact h7
  · exact State.wrs_good h7

theorem State.zoneBoot_good {x1} {x2} (g1 : State.Good q n x1) :
    State.Good q n (State.zoneBoot x1 x2) := by
  delta State.zoneBoot
  extract_lets -merge -underBinder +onlyGivenNames y1
  have h2 : State.Good q n y1 := by subst y1; exact State.restore_good g1
  try clear_value y1
  extract_lets -merge -underBinder +onlyGivenNames y3 y4
  have h7 : State.Good q n y4 := by
    subst y4
    refine State.modZone_good ?_ ?_
    · exact h2
    · intro x5 h6
      exact h6.of_eq rfl
  try clear_value y4
  extract_lets -merge -underBinder +onlyGivenNames y8 y9 y10
  refine good_ite ?_ ?_
  · refine State.modZone_good ?_ ?_
    · exact State.zonEnable_good (State.wr_good h7)
    · intro x11 h12
      exact h12.of_eq rfl
  · exact h7

theorem State.brokenTold_good {x1} (g1 : State.Good q n x1) :
    State.Good q n (State.brokenTold x1) := by
  delta State.brokenTold
  extract_lets -merge -underBinder +onlyGivenNames y1
  have h5 : State.Good q n y1 := by
    subst y1
    refine State.each_good ?_ ?_
    · exact g1
    · intro x2 x4 h3
      exact State.fault_good h3
  try clear_value y1
  refine State.each_good ?_ ?_
  · exact h5
  · intro x6 x8 h7
    exact State.fault_good h7

theorem State.resetLost_good {x1} {x2} (g1 : State.Good q n x1) :
    State.Good q n (State.resetLost x1 x2) := by
  delta State.resetLost
  extract_lets -merge -underBinder +onlyGivenNames y1 y2
  refine good_ite ?_ ?_
  · refine State.overflow_good ?_
    refine State.modLog_good ?_ ?_
    · exact g1
    · intro x3 h4
      exact h4.of_eq rfl
  · exact g1

theorem State.causeJoin_good {x1} {x2} (g1 : State.Good q n x1) :
    State.Good q n (State.causeJoin x1 x2) := by
  delta State.causeJoin
  refine good_ite ?_ ?_
  · exact State.causeLatch_good g1
  · exact g1

theorem State.restoreAll_good {x1} (g1 : State.Good q n x1) :
    State.Good q n (State.restoreAll x1) := by
  delta State.restoreAll
  extract_lets -merge -underBinder +onlyGivenNames y1
  have h2 : State.Good q n y1 := by subst y1; exact State.restore_good (State.restore_good g1)
  try clear_value y1
  extract_lets -merge -underBinder +onlyGivenNames y3
  have h7 : State.Good q n y3 := by
    subst y3
    refine State.each_good ?_ ?_
    · exact State.restore_good h2
    · intro x4 x6 h5
      exact State.zoneBoot_good h5
  try clear_value y3
  exact State.restore_good (State.restore_good (State.actBoot_good h7))

theorem State.bootRun_good {s u r} (h : State.Good q n s) : State.Good q n (State.bootRun s u r) := by
  unfold State.bootRun
  extract_lets -merge -underBinder +onlyGivenNames y1 y2 y3 y4 y5 y6 y7 y8
  have h5 : State.Good q n y5 := (h.withSram (m := []) rfl).of_eq rfl rfl rfl rfl rfl rfl rfl rfl rfl rfl rfl
  have h6 : State.Good q n y6 := State.stbBoot_good (State.restoreAll_good (State.fltBoot_good (State.secBoot_good (State.recall_good h5))))
  clear_value y6
  have h7 : State.Good q n y7 := State.tableLoad_good h6
  clear_value y7
  have h8 : State.Good q n y8 := State.thmFirst_good (State.wrB_good h7)
  clear_value y8
  exact h8.of_eq rfl rfl rfl rfl rfl rfl rfl rfl rfl rfl rfl

theorem State.portsBoot_good {x1} (g1 : State.Good q n x1) :
    State.Good q n (State.portsBoot x1) := by
  delta State.portsBoot
  extract_lets -merge -underBinder +onlyGivenNames y1
  have h2 : State.Good q n y1 := by subst y1; exact State.busBoot_good g1
  try clear_value y1
  refine good_ite ?_ ?_
  · exact State.busStopAll_good h2
  · exact h2

theorem State.firstOdometers_good {x1} (g1 : State.Good q n x1) :
    State.Good q n (State.firstOdometers x1) := by
  delta State.firstOdometers
  extract_lets -merge -underBinder +onlyGivenNames y1
  have h2 : State.Good q n y1 := by subst y1; exact State.hayAsk_good g1
  try clear_value y1
  extract_lets -merge -underBinder +onlyGivenNames y3 y4
  have h5 : State.Good q n y4 := by
    subst y4
    refine good_ite ?_ ?_
    · exact State.hayAsk_good (h2.of_eq rfl rfl rfl rfl rfl rfl rfl rfl rfl rfl rfl)
    · exact h2
  try clear_value y4
  refine good_ite ?_ ?_
  · exact State.hayAsk_good (State.record_good h5)
  · exact h5

theorem State.domainReset_good {s c} (h : State.Good q n s) : State.Good q n (State.domainReset s c) := by
  unfold State.domainReset
  extract_lets -merge -underBinder +onlyGivenNames p y1 y2 y3 y4
  have h1 : State.Good q n y1 := State.forceOn_good (h.of_eq rfl rfl rfl rfl rfl rfl rfl rfl rfl rfl rfl)
  clear_value y1
  have h2 : State.Good q n y2 := State.padDo_good h1
  clear_value y2
  have h3 : State.Good q n y3 := State.cadReset_good (State.fltReset_good (State.secReset_good (State.thmReset_good
    (State.stbReset_good (State.segReset_good (State.dspReset_good h2))))))
  clear_value y3
  have h4 : State.Good q n y4 := State.pwrReset_good (State.dbgClear_good (State.actReset_good (State.zonReset_good
    (State.spokeReset_good (State.hayReset_good h3)))))
  clear_value y4
  exact State.wrs_good ((h4.withRegs (regsWf_filter (fun e => keptAtReset e.1) h4.inv.regs)).of_eq rfl rfl rfl rfl rfl rfl rfl rfl rfl rfl rfl)

theorem State.recallTold_good {x1} (g1 : State.Good q n x1) :
    State.Good q n (State.recallTold x1) := by
  delta State.recallTold
  extract_lets -merge -underBinder +onlyGivenNames y1
  have h2 : State.Good q n y1 := by
    subst y1
    split
    · exact g1
    · exact State.fault_good (State.hayNote_good (State.record_good (g1.of_eq rfl rfl rfl rfl rfl rfl rfl rfl rfl rfl rfl)))
  try clear_value y1
  refine State.each_good ?_ ?_
  · exact h2
  · intro x3 x5 h4
    exact State.hayAsk_good h4

theorem State.boot_good {x1} {x2} {x3} (g1 : State.Good q n x1) :
    State.Good q n (State.boot x1 x2 x3) := by
  delta State.boot
  refine good_ite ?_ ?_
  · exact State.bootRun_good g1
  · exact g1

theorem State.hubReset_good {x1} {x2} (g1 : State.Good q n x1) :
    State.Good q n (State.hubReset x1 x2) := by
  delta State.hubReset
  refine good_ite ?_ ?_
  · exact State.causeJoin_good g1
  · exact State.domainReset_good (State.causeLatch_good (State.wr_good g1))

theorem State.groupsBoot_good {x1} (g1 : State.Good q n x1) :
    State.Good q n (State.groupsBoot x1) := by
  delta State.groupsBoot
  extract_lets -merge -underBinder +onlyGivenNames y1
  refine State.each_good ?_ ?_
  · exact g1.of_eq rfl rfl rfl rfl rfl rfl rfl rfl rfl rfl rfl
  · intro x2 x4 h3
    exact State.grpEnable_good h3

/-! ### Power -/

theorem loseQueue_good {l : LogStream} (h : l.Good) : (loseQueue l).Good := by
  unfold loseQueue
  split
  · exact Nat.zero_le _
  · exact h

theorem State.tapReset_good {x1} (g1 : State.Good q n x1) :
    State.Good q n (State.tapReset x1) := by
  delta State.tapReset
  exact g1.of_eq rfl rfl rfl rfl rfl rfl rfl rfl rfl rfl rfl

theorem State.wake_moves {s} {source slots : Nat} (h : State.Good q n s) :
    State.Good q (if s.pwr.standby || !s.cad.refOn then n + slots else n) (s.wake source slots) := by
  unfold State.wake
  have h1 := State.aonPass_moves (slots := slots) h
  have h2 := State.wakeFires_good (x2 := source) h1
  refine good_ite h1 (good_ite ?_ h2)
  extract_lets -merge -underBinder +onlyGivenNames p y3
  have h3 : State.Good q _ y3 := h2.of_eq rfl rfl rfl rfl rfl rfl rfl rfl rfl rfl rfl
  exact good_ite (State.causeLatch_good h3) h3

/-- A wake at a slot edge: no slot passes besides. -/
theorem State.wake_good {s source} (h : State.Good q n s) : State.Good q n (State.wake s source 0) := by
  have h1 := State.wake_moves (source := source) (slots := 0) h
  rw [Nat.add_zero, ite_self] at h1
  exact h1

theorem State.ksCommit_good {x1} (g1 : State.Good q n x1) :
    State.Good q n (State.ksCommit x1) := by
  delta State.ksCommit
  split
  · exact g1
  · extract_lets -merge -underBinder +onlyGivenNames y1
    have h2 : State.Good q n y1 := by subst y1; exact State.wr_good g1
    try clear_value y1
    extract_lets -merge -underBinder +onlyGivenNames y3 y4
    have h5 : State.Good q n y4 := by subst y4; exact h2.of_eq rfl rfl rfl rfl rfl rfl rfl rfl rfl rfl rfl
    try clear_value y4
    refine good_ite ?_ ?_
    · exact h5
    · refine State.each_good ?_ ?_
      · exact h5
      · intro x6 x8 h7
        exact State.wr_good h7

theorem State.sequencerWatchdog_good {x1} (g1 : State.Good q n x1) :
    State.Good q n (State.sequencerWatchdog x1) := by
  delta State.sequencerWatchdog
  exact State.hubFault_good g1

theorem State.runEntry_good {x1} (g1 : State.Good q n x1) :
    State.Good q n (State.runEntry x1) := by
  delta State.runEntry
  refine good_ite ?_ ?_
  · extract_lets -merge -underBinder +onlyGivenNames y1 y2
    have h3 : State.Good q n y2 := by subst y2; exact State.wrs_good g1
    try clear_value y2
    extract_lets -merge -underBinder +onlyGivenNames y4 y5 y6 y7
    have h8 : State.Good q n y7 := by subst y7; exact h3.of_eq rfl rfl rfl rfl rfl rfl rfl rfl rfl rfl rfl
    try clear_value y7
    exact State.panelFreewheel_good (State.stbOn_good h8)
  · exact g1

theorem State.pfiRelease_good {x1} (g1 : State.Good q n x1) :
    State.Good q n (State.pfiRelease x1) := by
  delta State.pfiRelease
  refine good_ite ?_ ?_
  · extract_lets -merge -underBinder +onlyGivenNames y1
    have h2 : State.Good q n y1 := by subst y1; exact State.wr_good g1
    try clear_value y1
    extract_lets -merge -underBinder +onlyGivenNames y3 y4
    have h5 : State.Good q n y4 := by subst y4; exact h2.of_eq rfl rfl rfl rfl rfl rfl rfl rfl rfl rfl rfl
    try clear_value y4
    refine good_ite ?_ ?_
    · exact State.wakeFires_good h5
    · exact h5
  · exact g1

theorem State.quiesceFw2_good {x1} (g1 : State.Good q n x1) :
    State.Good q n (State.quiesceFw2 x1) := by
  delta State.quiesceFw2
  extract_lets -merge -underBinder +onlyGivenNames y1
  have h2 : State.Good q n y1 := by subst y1; exact State.wrs_good g1
  try clear_value y1
  extract_lets -merge -underBinder +onlyGivenNames y3 y4
  have h5 : State.Good q n y4 := by subst y4; exact h2.of_eq rfl rfl rfl rfl rfl rfl rfl rfl rfl rfl rfl
  try clear_value y4
  refine good_ite ?_ ?_
  · exact State.wakeFires_good h5
  · exact h5

theorem State.railsGood_good {x1} {x2} (g1 : State.Good q n x1) :
    State.Good q n (State.railsGood x1 x2) := by
  delta State.railsGood
  refine good_ite ?_ ?_
  · exact g1
  · extract_lets -merge -underBinder +onlyGivenNames y1 y2 y3
    have h4 : State.Good q n y3 := by subst y3; exact g1.of_eq rfl rfl rfl rfl rfl rfl rfl rfl rfl rfl rfl
    try clear_value y3
    refine good_ite ?_ ?_
    · refine State.segMainsBack_good ?_
      extract_lets -merge -underBinder +onlyGivenNames y5
      have h6 : State.Good q n y5 := by subst y5; exact State.tapReset_good h4
      try clear_value y5
      exact h6.of_eq rfl rfl rfl rfl rfl rfl rfl rfl rfl rfl rfl
    · exact h4

theorem State.fw2Entry_good {x1} (g1 : State.Good q n x1) :
    State.Good q n (State.fw2Entry x1) := by
  delta State.fw2Entry
  refine good_ite ?_ ?_
  · extract_lets -merge -underBinder +onlyGivenNames y1
    have h2 : State.Good q n y1 := by subst y1; exact State.wr_good g1
    try clear_value y1
    extract_lets -merge -underBinder +onlyGivenNames y3 y4
    have h5 : State.Good q n y4 := by subst y4; exact h2.of_eq rfl rfl rfl rfl rfl rfl rfl rfl rfl rfl rfl
    try clear_value y4
    exact State.orderlyOff_good (State.stbOff_good h5)
  · exact g1

theorem State.fw1Entry_good {x1} (g1 : State.Good q n x1) :
    State.Good q n (State.fw1Entry x1) := by
  delta State.fw1Entry
  refine good_ite ?_ ?_
  · extract_lets -merge -underBinder +onlyGivenNames y1
    have h2 : State.Good q n y1 := by subst y1; exact State.wr_good g1
    try clear_value y1
    extract_lets -merge -underBinder +onlyGivenNames y3 y4 y5 y6
    have h7 : State.Good q n y6 := by subst y6; exact h2.of_eq rfl rfl rfl rfl rfl rfl rfl rfl rfl rfl rfl
    try clear_value y6
    exact State.panelFreewheel_good (State.stbOff_good h7)
  · exact g1

theorem State.doPwrSetMode_good {x1} {x2} {x3} (g1 : State.Good q n x1) :
    State.Good q n (State.doPwrSetMode x1 x2 x3) := by
  delta State.doPwrSetMode
  refine State.checked_good ?_ ?_
  · exact g1
  · intro x1 h2
    extract_lets -merge -underBinder +onlyGivenNames y3
    have h4 : State.Good q n y3 := by subst y3; exact State.ok_good h2
    try clear_value y3
    exact h4.of_eq rfl rfl rfl rfl rfl rfl rfl rfl rfl rfl rfl

theorem State.fw2ClockStop_good {x1} (g1 : State.Good q n x1) :
    State.Good q n (State.fw2ClockStop x1) := by
  delta State.fw2ClockStop
  refine good_ite ?_ ?_
  · extract_lets -merge -underBinder +onlyGivenNames y1 y2 y3
    have h4 : State.Good q n y3 := by subst y3; exact g1.of_eq rfl rfl rfl rfl rfl rfl rfl rfl rfl rfl rfl
    try clear_value y3
    extract_lets -merge -underBinder +onlyGivenNames y5
    have h6 : State.Good q n y5 := by subst y5; exact State.frameLose_good (State.busStopAll_good h4)
    try clear_value y5
    extract_lets -merge -underBinder +onlyGivenNames y7 y8
    have h9 : State.Good q n y8 := by subst y8; exact h6.of_eq rfl rfl rfl rfl rfl rfl rfl rfl rfl rfl rfl
    try clear_value y8
    refine State.each_good ?_ ?_
    · exact h9
    · intro x10 x12 h11
      exact State.wr_good h11
  · exact g1

theorem State.standbyEntry_good {x1} (g1 : State.Good q n x1) :
    State.Good q n (State.standbyEntry x1) := by
  delta State.standbyEntry
  refine good_ite ?_ ?_
  · extract_lets -merge -underBinder +onlyGivenNames y1
    have h2 : State.Good q n y1 := by subst y1; exact State.orderlyOff_good g1
    try clear_value y1
    refine good_ite ?_ ?_
    · extract_lets -merge -underBinder +onlyGivenNames y3
      have h4 : State.Good q n y3 := by subst y3; exact State.causeLatch_good (State.wr_good h2)
      try clear_value y3
      extract_lets -merge -underBinder +onlyGivenNames y5
      have h6 : State.Good q n y5 := by subst y5; exact State.domainReset_good (State.segStandby_good h4)
      try clear_value y5
      exact h6.of_eq rfl rfl rfl rfl rfl rfl rfl rfl rfl rfl rfl
    · exact h2
  · exact g1

theorem State.fw2PwmStop_good {x1} (g1 : State.Good q n x1) :
    State.Good q n (State.fw2PwmStop x1) := by
  delta State.fw2PwmStop
  refine good_ite ?_ ?_
  · extract_lets -merge -underBinder +onlyGivenNames y1
    have h2 : State.Good q n y1 := by subst y1; exact State.forceOn_good (State.pwmStop_good g1)
    try clear_value y1
    exact h2.of_eq rfl rfl rfl rfl rfl rfl rfl rfl rfl rfl rfl
  · exact g1

theorem State.quiesce_good {x1} (g1 : State.Good q n x1) :
    State.Good q n (State.quiesce x1) := by
  delta State.quiesce
  refine good_ite ?_ ?_
  · exact g1
  · extract_lets -merge -underBinder +onlyGivenNames y1 y2
    have h3 : State.Good q n y2 := by subst y2; exact State.stbOff_good (State.busStopAll_good (State.pwmStop_good (State.forceOn_good (g1.of_eq rfl rfl rfl rfl rfl rfl rfl rfl rfl rfl rfl))))
    try clear_value y2
    refine good_ite ?_ ?_
    · exact State.quiesceFw2_good h3
    · exact h3

theorem State.pfStart_good {x1} (g1 : State.Good q n x1) :
    State.Good q n (State.pfStart x1) := by
  delta State.pfStart
  refine good_ite ?_ ?_
  · extract_lets -merge -underBinder +onlyGivenNames y1
    have h2 : State.Good q n y1 := by subst y1; exact State.wr_good g1
    try clear_value y1
    extract_lets -merge -underBinder +onlyGivenNames y3 y4 y5
    have h6 : State.Good q n y5 := by subst y5; exact h2.of_eq rfl rfl rfl rfl rfl rfl rfl rfl rfl rfl rfl
    try clear_value y5
    exact State.event_good (State.abruptOff_good h6)
  · exact g1

theorem State.pfRecord_good {x1} (g1 : State.Good q n x1) :
    State.Good q n (State.pfRecord x1) := by
  delta State.pfRecord
  extract_lets -merge -underBinder +onlyGivenNames y1 y2
  have h9 : State.Good q n y2 := by
    subst y2
    refine State.modLog_good ?_ ?_
    · exact g1
    · intro x3 h4
      extract_lets -merge -underBinder +onlyGivenNames y5
      have h6 : LogStream.Good y5 := by subst y5; exact loseQueue_good h4
      try clear_value y5
      extract_lets -merge -underBinder +onlyGivenNames y7
      have h8 : LogStream.Good y7 := by subst y7; exact h6.of_eq rfl
      try clear_value y7
      exact h8.of_eq rfl
  try clear_value y2
  exact State.hayAsk_good h9

theorem State.modeEntry_good {x1} (g1 : State.Good q n x1) :
    State.Good q n (State.modeEntry x1) := by
  delta State.modeEntry
  refine good_ite ?_ ?_
  · split
    · refine good_ite ?_ ?_
      · exact State.runEntry_good g1
      · exact g1.of_eq rfl rfl rfl rfl rfl rfl rfl rfl rfl rfl rfl
    · refine good_ite ?_ ?_
      · exact State.fw1Entry_good g1
      · exact g1.of_eq rfl rfl rfl rfl rfl rfl rfl rfl rfl rfl rfl
    · exact State.fw2Entry_good g1
    · exact State.standbyEntry_good g1
  · exact g1

theorem State.cutTrip_good {x1} (g1 : State.Good q n x1) :
    State.Good q n (State.cutTrip x1) := by
  delta State.cutTrip
  refine good_ite ?_ ?_
  · exact g1
  · exact State.hubReset_good (State.cutRecord_good g1)

theorem State.railFall_good {x1} {x2} (g1 : State.Good q n x1) :
    State.Good q n (State.railFall x1 x2) := by
  delta State.railFall
  extract_lets -merge -underBinder +onlyGivenNames y1 y2
  have h3 : State.Good q n y2 := by subst y2; exact g1.of_eq rfl rfl rfl rfl rfl rfl rfl rfl rfl rfl rfl
  try clear_value y2
  refine good_ite ?_ ?_
  · exact h3
  · extract_lets -merge -underBinder +onlyGivenNames y4
    have h5 : State.Good q n y4 := by
      subst y4
      refine good_ite ?_ ?_
      · exact h3
      · exact State.hayInterrupt_good h3
    try clear_value y4
    extract_lets -merge -underBinder +onlyGivenNames y6
    have h7 : State.Good q n y6 := by subst y6; exact State.segMainsLost_good h5
    try clear_value y6
    refine good_ite ?_ ?_
    · exact h7
    · exact State.hubReset_good h7

theorem State.hubFaultReset_good {x1} (g1 : State.Good q n x1) :
    State.Good q n (State.hubFaultReset x1) := by
  delta State.hubFaultReset
  split
  · exact g1
  · exact State.hubReset_good g1

theorem State.thermStop_good {x1} (g1 : State.Good q n x1) :
    State.Good q n (State.thermStop x1) := by
  delta State.thermStop
  refine good_ite ?_ ?_
  · exact State.hubReset_good g1
  · exact g1

theorem State.gatesClose_good {x1} (g1 : State.Good q n x1) :
    State.Good q n (State.gatesClose x1) := by
  delta State.gatesClose
  refine State.hayFailAll_good ?_
  refine State.each_good ?_ ?_
  · exact State.burnWithdraw_good g1
  · intro x1 x3 h2
    exact State.reversalFail_good h2

theorem State.limpHoldExpire_good {x1} (g1 : State.Good q n x1) :
    State.Good q n (State.limpHoldExpire x1) := by
  delta State.limpHoldExpire
  refine good_ite ?_ ?_
  · exact State.hubReset_good (State.limpLeaving_good g1)
  · exact g1

theorem State.pfEnd_good {x1} (g1 : State.Good q n x1) :
    State.Good q n (State.pfEnd x1) := by
  delta State.pfEnd
  refine good_ite ?_ ?_
  · exact State.hubReset_good g1
  · exact g1

theorem State.escTimeouts_good {x1} (g1 : State.Good q n x1) :
    State.Good q n (State.escTimeouts x1) := by
  delta State.escTimeouts
  extract_lets -merge -underBinder +onlyGivenNames y1
  have h2 : State.Good q n y1 := by subst y1; exact State.hayFailAll_good g1
  try clear_value y1
  extract_lets -merge -underBinder +onlyGivenNames y3
  have h6 : State.Good q n y3 := by
    subst y3
    refine State.when_good ?_ ?_
    · exact h2
    · intro x4 h5
      exact State.burnWithdraw_good h5
  try clear_value y3
  extract_lets -merge -underBinder +onlyGivenNames y7
  have h11 : State.Good q n y7 := by
    subst y7
    refine State.each_good ?_ ?_
    · exact h6
    · intro x8 x10 h9
      exact State.reversalFail_good h9
  try clear_value y7
  refine State.when_good ?_ ?_
  · exact h11
  · intro x12 h13
    exact State.abruptOff_good h13

theorem State.hubFaultEdge_good {x1} (g1 : State.Good q n x1) :
    State.Good q n (State.hubFaultEdge x1) := by
  delta State.hubFaultEdge
  refine good_ite ?_ ?_
  · refine good_ite ?_ ?_
    · exact State.hubFaultReset_good g1
    · exact g1.of_eq rfl rfl rfl rfl rfl rfl rfl rfl rfl rfl rfl
  · exact g1

theorem State.pfTick_good {x1} (g1 : State.Good q n x1) :
    State.Good q n (State.pfTick x1) := by
  delta State.pfTick
  refine good_ite ?_ ?_
  · extract_lets -merge -underBinder +onlyGivenNames y1 y2 y3
    have h4 : State.Good q n y3 := by subst y3; exact g1.of_eq rfl rfl rfl rfl rfl rfl rfl rfl rfl rfl rfl
    try clear_value y3
    refine good_ite ?_ ?_
    · exact State.pfEnd_good (State.quiesce_good h4)
    · exact h4
  · exact State.pfEnd_good g1

theorem State.pfPrepare_good {x1} (g1 : State.Good q n x1) :
    State.Good q n (State.pfPrepare x1) := by
  delta State.pfPrepare
  extract_lets -merge -underBinder +onlyGivenNames y1 y2
  have h3 : State.Good q n y2 := by subst y2; exact g1.of_eq rfl rfl rfl rfl rfl rfl rfl rfl rfl rfl rfl
  try clear_value y2
  extract_lets -merge -underBinder +onlyGivenNames y4 y5
  have h6 : State.Good q n y5 := by subst y5; exact h3.of_eq rfl rfl rfl rfl rfl rfl rfl rfl rfl rfl rfl
  try clear_value y5
  exact State.pfRecord_good (State.gatesClose_good h6)

theorem State.pfi_good {x1} (g1 : State.Good q n x1) :
    State.Good q n (State.pfi x1) := by
  delta State.pfi
  refine good_ite ?_ ?_
  · exact g1
  · extract_lets -merge -underBinder +onlyGivenNames y1
    have h2 : State.Good q n y1 := by subst y1; exact State.wr_good g1
    try clear_value y1
    extract_lets -merge -underBinder +onlyGivenNames y3 y4
    have h5 : State.Good q n y4 := by subst y4; exact h2.of_eq rfl rfl rfl rfl rfl rfl rfl rfl rfl rfl rfl
    try clear_value y4
    refine good_ite ?_ ?_
    · exact h5.of_eq rfl rfl rfl rfl rfl rfl rfl rfl rfl rfl rfl
    · refine good_ite ?_ ?_
      · exact h5
      · exact State.pfPrepare_good h5

/-! ### PowerCommands -/

theorem execPfiRelease_good {x1} (g1 : State.Good q n x1) :
    State.GoodOut q n (execPfiRelease x1) := by
  delta execPfiRelease
  exact good_next (State.pfiRelease_good g1)

theorem execAonRetentionLoss_good {x1} (g1 : State.Good q n x1) :
    State.GoodOut q n (execAonRetentionLoss x1) := by
  delta execAonRetentionLoss
  exact good_next (g1.of_eq rfl rfl rfl rfl rfl rfl rfl rfl rfl rfl rfl)

theorem execChargeResume_good {x1} (g1 : State.Good q n x1) :
    State.GoodOut q n (execChargeResume x1) := by
  delta execChargeResume
  exact good_next (g1.of_eq rfl rfl rfl rfl rfl rfl rfl rfl rfl rfl rfl)

theorem execChargeStop_good {x1} (g1 : State.Good q n x1) :
    State.GoodOut q n (execChargeStop x1) := by
  delta execChargeStop
  refine good_next ?_
  refine good_ite ?_ ?_
  · exact g1
  · exact g1.of_eq rfl rfl rfl rfl rfl rfl rfl rfl rfl rfl rfl

theorem execSequencerWatchdog_good {x1} (g1 : State.Good q n x1) :
    State.GoodOut q n (execSequencerWatchdog x1) := by
  delta execSequencerWatchdog
  exact good_next (State.sequencerWatchdog_good g1)

theorem execKickstandCommit_good {x1} (g1 : State.Good q n x1) :
    State.GoodOut q n (execKickstandCommit x1) := by
  delta execKickstandCommit
  exact good_next (State.ksCommit_good g1)

theorem execAonResync_good {x1} (g1 : State.Good q n x1) :
    State.GoodOut q n (execAonResync x1) := by
  delta execAonResync
  exact good_next (State.aonReturn_good g1)

theorem execBootContinue_good {x1} (g1 : State.Good q n x1) :
    State.GoodOut q n (execBootContinue x1) := by
  delta execBootContinue
  refine good_next ?_
  refine good_ite ?_ ?_
  · exact g1
  · exact g1.of_eq rfl rfl rfl rfl rfl rfl rfl rfl rfl rfl rfl

theorem execPwrSetMode_good {x1} {x2} (g2 : State.Good q n x2) :
    State.GoodOut q n (execPwrSetMode x1 x2) := by
  delta execPwrSetMode
  refine good_next ?_
  refine State.command_good ?_ ?_
  · exact g2
  · intro x1 x3 x4 h2
    exact State.doPwrSetMode_good h2

theorem execFreewheel1Entry_good {x1} (g1 : State.Good q n x1) :
    State.GoodOut q n (execFreewheel1Entry x1) := by
  delta execFreewheel1Entry
  exact good_next (State.fw1Entry_good g1)

theorem execMainRailsGood_good {x1} {x2} (g2 : State.Good q n x2) :
    State.GoodOut q n (execMainRailsGood x1 x2) := by
  delta execMainRailsGood
  exact good_next (State.railsGood_good g2)

theorem execFreewheel2Entry_good {x1} (g1 : State.Good q n x1) :
    State.GoodOut q n (execFreewheel2Entry x1) := by
  delta execFreewheel2Entry
  exact good_next (State.fw2Entry_good g1)

theorem execAonLost_good {x1} (g1 : State.Good q n x1) :
    State.GoodOut q n (execAonLost x1) := by
  delta execAonLost
  exact good_next (State.aonLose_good g1)

theorem execQuiesce_good {x1} (g1 : State.Good q n x1) :
    State.GoodOut q n (execQuiesce x1) := by
  delta execQuiesce
  refine good_next ?_
  refine good_ite ?_ ?_
  · exact State.quiesce_good g1
  · exact g1

theorem execPowerFailSequenceStart_good {x1} (g1 : State.Good q n x1) :
    State.GoodOut q n (execPowerFailSequenceStart x1) := by
  delta execPowerFailSequenceStart
  exact good_next (State.pfStart_good g1)

theorem execBoot_good {x1} {x2} {x3} (g3 : State.Good q n x3) :
    State.GoodOut q n (execBoot x1 x2 x3) := by
  delta execBoot
  exact good_next (State.boot_good g3)

theorem execStandbyEntry_good {x1} (g1 : State.Good q n x1) :
    State.GoodOut q n (execStandbyEntry x1) := by
  delta execStandbyEntry
  exact good_next (State.standbyEntry_good g1)

theorem execFw2PwmClockStop_good {x1} (g1 : State.Good q n x1) :
    State.GoodOut q n (execFw2PwmClockStop x1) := by
  delta execFw2PwmClockStop
  exact good_next (State.fw2PwmStop_good g1)

theorem execFw2ClockStop_good {x1} (g1 : State.Good q n x1) :
    State.GoodOut q n (execFw2ClockStop x1) := by
  delta execFw2ClockStop
  exact good_next (State.fw2ClockStop_good g1)

theorem State.limpExit_good {x1} (g1 : State.Good q n x1) :
    State.Good q n (State.limpExit x1) := by
  delta State.limpExit
  exact State.hubReset_good (State.limpLeaving_good g1)

theorem execHubFaultReset_good {x1} (g1 : State.Good q n x1) :
    State.GoodOut q n (execHubFaultReset x1) := by
  delta execHubFaultReset
  exact good_next (State.hubFaultReset_good g1)

theorem execLimpHoldExpire_good {x1} (g1 : State.Good q n x1) :
    State.GoodOut q n (execLimpHoldExpire x1) := by
  delta execLimpHoldExpire
  exact good_next (State.limpHoldExpire_good g1)

theorem execPfEnd_good {x1} (g1 : State.Good q n x1) :
    State.GoodOut q n (execPfEnd x1) := by
  delta execPfEnd
  exact good_next (State.pfEnd_good g1)

theorem execEscrowTimeout_good {x1} (g1 : State.Good q n x1) :
    State.GoodOut q n (execEscrowTimeout x1) := by
  delta execEscrowTimeout
  exact good_next (State.escTimeouts_good g1)

theorem State.limpEnter_good {x1} (g1 : State.Good q n x1) :
    State.Good q n (State.limpEnter x1) := by
  delta State.limpEnter
  exact State.hubReset_good (State.wr_good g1)

theorem execHubResetAssert_good {x1} {x2} (g2 : State.Good q n x2) :
    State.GoodOut q n (execHubResetAssert x1 x2) := by
  delta execHubResetAssert
  refine good_next ?_
  refine good_ite ?_ ?_
  · exact State.hubReset_good g2
  · exact g2

theorem execHubRstnQualified_good {x1} (g1 : State.Good q n x1) :
    State.GoodOut q n (execHubRstnQualified x1) := by
  delta execHubRstnQualified
  exact good_next (State.hubReset_good g1)

theorem execLimpExit_good {x1} {x2} (g2 : State.Good q n x2) :
    State.GoodOut q n (execLimpExit x1 x2) := by
  delta execLimpExit
  refine good_next ?_
  refine good_ite ?_ ?_
  · exact State.limpExit_good g2
  · exact g2

theorem execMainRailFall_good {x1} {x2} (g2 : State.Good q n x2) :
    State.GoodOut q n (execMainRailFall x1 x2) := by
  delta execMainRailFall
  exact good_next (State.railFall_good g2)

theorem execLimpEnter_good {x1} {x2} (g2 : State.Good q n x2) :
    State.GoodOut q n (execLimpEnter x1 x2) := by
  delta execLimpEnter
  refine good_next ?_
  refine good_ite ?_ ?_
  · exact State.limpEnter_good g2
  · exact g2

theorem execPfiQualified_good {x1} (g1 : State.Good q n x1) :
    State.GoodOut q n (execPfiQualified x1) := by
  delta execPfiQualified
  exact good_next (State.pfi_good g1)

/-! ### HayloftCommands -/

theorem execHayloftPhaseEnd_good {x1} {x2} (g2 : State.Good q n x2) :
    State.GoodOut q n (execHayloftPhaseEnd x1 x2) := by
  delta execHayloftPhaseEnd
  exact good_next (State.hayPhaseEnd_good g2)

theorem State.doHayLogFlush_good {x1} {x2} {x3} (g1 : State.Good q n x1) :
    State.Good q n (State.doHayLogFlush x1 x2 x3) := by
  delta State.doHayLogFlush
  extract_lets -merge -underBinder +onlyGivenNames y1 y2
  refine State.checked_good ?_ ?_
  · exact g1
  · intro x3 h4
    refine good_ite ?_ ?_
    · exact State.ok_good h4
    · extract_lets -merge -underBinder +onlyGivenNames y5
      have h6 : State.Good q n y5 := by subst y5; exact State.accepted_good h4
      try clear_value y5
      exact h6.of_eq rfl rfl rfl rfl rfl rfl rfl rfl rfl rfl rfl

theorem execOverflow_good {x1} {x2} (g2 : State.Good q n x2) :
    State.GoodOut q n (execOverflow x1 x2) := by
  delta execOverflow
  exact good_next (State.overflow_good g2)

theorem State.doHayLogAppend_good {x1} {x2} {x3} (g1 : State.Good q n x1) :
    State.Good q n (State.doHayLogAppend x1 x2 x3) := by
  delta State.doHayLogAppend
  extract_lets -merge -underBinder +onlyGivenNames y1 y2
  refine State.checked_good ?_ ?_
  · exact g1
  · intro x3 h4
    exact State.ok_good (State.record_good h4)

theorem execHayLogFlush_good {x1} {x2} (g2 : State.Good q n x2) :
    State.GoodOut q n (execHayLogFlush x1 x2) := by
  delta execHayLogFlush
  refine good_next ?_
  refine State.command_good ?_ ?_
  · exact g2
  · intro x1 x3 x4 h2
    exact State.doHayLogFlush_good h2

theorem State.doHayOdInc_good {x1} {x2} {x3} (g1 : State.Good q n x1) :
    State.Good q n (State.doHayOdInc x1 x2 x3) := by
  delta State.doHayOdInc
  extract_lets -merge -underBinder +onlyGivenNames y1
  refine State.checked_good ?_ ?_
  · exact g1
  · intro x2 h3
    refine good_ite ?_ ?_
    · exact State.finish_good h3
    · exact State.hayAsk_good (State.accepted_good h3)

theorem execHayLogAppend_good {x1} {x2} (g2 : State.Good q n x2) :
    State.GoodOut q n (execHayLogAppend x1 x2) := by
  delta execHayLogAppend
  refine good_next ?_
  refine State.command_good ?_ ?_
  · exact g2
  · intro x1 x3 x4 h2
    exact State.doHayLogAppend_good h2

theorem State.hayHook_good {x1} {x2} (g1 : State.Good q n x1) :
    State.Good q n (State.hayHook x1 x2) := by
  delta State.hayHook
  refine good_ite ?_ ?_
  · exact State.saveFirmware_good g1
  · exact g1

theorem State.doHayWrite_good {x1} {x2} {x3} (g1 : State.Good q n x1) :
    State.Good q n (State.doHayWrite x1 x2 x3) := by
  delta State.doHayWrite
  extract_lets -merge -underBinder +onlyGivenNames y1 y2 y3
  refine State.checked_good ?_ ?_
  · exact g1
  · intro x4 h5
    refine good_ite ?_ ?_
    · exact State.ok_good h5
    · refine good_ite ?_ ?_
      · exact State.finish_good h5
      · exact State.hayAsk_good (State.accepted_good h5)

theorem State.hayQueue_good {x1} {x2} {x3} (g1 : State.Good q n x1) :
    State.Good q n (State.hayQueue x1 x2 x3) := by
  delta State.hayQueue
  refine good_ite ?_ ?_
  · exact State.finish_good g1
  · exact State.hayAsk_good g1

theorem State.doHayLogRead_good {x1} {x2} {x3} (g1 : State.Good q n x1) :
    State.Good q n (State.doHayLogRead x1 x2 x3) := by
  delta State.doHayLogRead
  extract_lets -merge -underBinder +onlyGivenNames y1 y2
  refine State.checked_good ?_ ?_
  · exact g1
  · intro x3 h4
    exact State.hayQueue_good h4

theorem execHayOdInc_good {x1} {x2} (g2 : State.Good q n x2) :
    State.GoodOut q n (execHayOdInc x1 x2) := by
  delta execHayOdInc
  refine good_next ?_
  refine State.command_good ?_ ?_
  · exact g2
  · intro x1 x3 x4 h2
    exact State.doHayOdInc_good h2

theorem execHayLogRead_good {x1} {x2} (g2 : State.Good q n x2) :
    State.GoodOut q n (execHayLogRead x1 x2) := by
  delta execHayLogRead
  refine good_next ?_
  refine State.command_good ?_ ?_
  · exact g2
  · intro x1 x3 x4 h2
    exact State.doHayLogRead_good h2

theorem execHayWrite_good {x1} {x2} (g2 : State.Good q n x2) :
    State.GoodOut q n (execHayWrite x1 x2) := by
  delta execHayWrite
  refine good_next ?_
  refine State.command_good ?_ ?_
  · exact g2
  · intro x1 x3 x4 h2
    exact State.doHayWrite_good h2

theorem execLogHoldExpire_good {x1} {x2} (g2 : State.Good q n x2) :
    State.GoodOut q n (execLogHoldExpire x1 x2) := by
  delta execLogHoldExpire
  exact good_next (State.commitPage_good g2)

theorem State.doHayRead_good {x1} {x2} {x3} (g1 : State.Good q n x1) :
    State.Good q n (State.doHayRead x1 x2 x3) := by
  delta State.doHayRead
  extract_lets -merge -underBinder +onlyGivenNames y1 y2
  refine State.checked_good ?_ ?_
  · exact g1
  · intro x3 h4
    exact State.hayQueue_good h4

theorem execHayRead_good {x1} {x2} (g2 : State.Good q n x2) :
    State.GoodOut q n (execHayRead x1 x2) := by
  delta execHayRead
  refine good_next ?_
  refine State.command_good ?_ ?_
  · exact g2
  · intro x1 x3 x4 h2
    exact State.doHayRead_good h2

theorem execHayloftWriteEnd_good {x1} (g1 : State.Good q n x1) :
    State.GoodOut q n (execHayloftWriteEnd x1) := by
  delta execHayloftWriteEnd
  refine good_next ?_
  refine good_ite ?_ ?_
  · exact State.haySvc_good g1
  · exact g1

/-! ### AttrAccess -/

theorem State.setFields_good {x1} {x2} {x3} (g1 : State.Good q n x1) :
    State.Good q n (State.setFields x1 x2 x3) := by
  delta State.setFields
  refine good_ite ?_ ?_
  · exact State.ksStageImage_good g1
  · split
    · exact g1
    · refine State.each_good ?_ ?_
      · exact g1
      · intro x1 x3 h2
        extract_lets -merge -underBinder +onlyGivenNames y4
        try clear_value y4
        split
        · exact State.wr_good h2
        · exact State.wr_good h2
        · exact h2

theorem State.readEffect_good {s id} (h : State.Good q n s) : State.Good q n (State.readEffect s id) := by
  unfold State.readEffect
  refine good_ite (h.withOvr ?_) (good_ite (State.wrap_good h) (good_ite (State.wrap_good h) ?_))
  · rw [List.length_drop]
    exact (Nat.sub_le _ _).trans h.inv.overruns
  · split
    · exact h
    · exact State.each_good h fun _ _ => State.wr_good

theorem State.doAttrInfo_good {x1} {x2} {x3} (g1 : State.Good q n x1) :
    State.Good q n (State.doAttrInfo x1 x2 x3) := by
  delta State.doAttrInfo
  extract_lets -merge -underBinder +onlyGivenNames y1 y2 y3
  refine State.checked_good ?_ ?_
  · exact g1
  · intro x4 h5
    exact State.ok_good h5

theorem State.readOne_good {x1} {x2} {x3} (g1 : State.Good q n x1) :
    State.Good q n (State.readOne x1 x2 x3).2 := by
  delta State.readOne
  refine good_mk_snd ?_
  refine good_ite ?_ ?_
  · exact g1
  · exact State.readEffect_good g1

theorem execAttrInfo_good {x1} {x2} (g2 : State.Good q n x2) :
    State.GoodOut q n (execAttrInfo x1 x2) := by
  delta execAttrInfo
  refine good_next ?_
  refine State.command_good ?_ ?_
  · exact g2
  · intro x1 x3 x4 h2
    exact State.doAttrInfo_good h2

theorem State.doAttrRead_good {x1} {x2} {x3} (g1 : State.Good q n x1) :
    State.Good q n (State.doAttrRead x1 x2 x3) := by
  delta State.doAttrRead
  extract_lets -merge -underBinder +onlyGivenNames y1
  refine State.checked_good ?_ ?_
  · exact g1
  · intro x2 h3
    extract_lets -merge -underBinder +onlyGivenNames y4
    have h5 : State.Good q n y4.2 := by subst y4; exact State.readOne_good h3
    try clear_value y4
    exact State.ok_good h5

theorem State.readMany_good {s x l} (h : State.Good q n s) : State.Good q n (State.readMany s x l).2 :=
  good_foldl_snd h fun _ _ ht => State.readOne_good ht

theorem execAttrRead_good {x1} {x2} (g2 : State.Good q n x2) :
    State.GoodOut q n (execAttrRead x1 x2) := by
  delta execAttrRead
  refine good_next ?_
  refine State.command_good ?_ ?_
  · exact g2
  · intro x1 x3 x4 h2
    exact State.doAttrRead_good h2

theorem State.doAttrReadMulti_good {x1} {x2} {x3} (g1 : State.Good q n x1) :
    State.Good q n (State.doAttrReadMulti x1 x2 x3) := by
  delta State.doAttrReadMulti
  refine State.checked_good ?_ ?_
  · exact g1
  · intro x1 h2
    extract_lets -merge -underBinder +onlyGivenNames y3
    have h4 : State.Good q n y3.2 := by subst y3; exact State.readMany_good h2
    try clear_value y3
    exact State.ok_good h4

theorem execAttrReadMulti_good {x1} {x2} (g2 : State.Good q n x2) :
    State.GoodOut q n (execAttrReadMulti x1 x2) := by
  delta execAttrReadMulti
  refine good_next ?_
  refine State.command_good ?_ ?_
  · exact g2
  · intro x1 x3 x4 h2
    exact State.doAttrReadMulti_good h2

theorem State.fltCtlAct_good {x1} {x2} (g1 : State.Good q n x1) :
    State.Good q n (State.fltCtlAct x1 x2) := by
  delta State.fltCtlAct
  extract_lets -merge -underBinder +onlyGivenNames y1
  have h2 : State.Good q n y1 := by
    subst y1
    refine good_ite ?_ ?_
    · exact State.clearLatches_good g1
    · exact g1
  try clear_value y1
  refine good_ite ?_ ?_
  · exact State.limpEnter_good h2
  · refine good_ite ?_ ?_
    · exact State.limpExit_good h2
    · exact h2

theorem State.ownerHook_good {x1} {x2} {x3} {x4} {x5} (g1 : State.Good q n x1) (g2 : State.Good q n x2) :
    State.Good q n (State.ownerHook x1 x2 x3 x4 x5) := by
  delta State.ownerHook
  split
  · refine good_ite ?_ ?_
    · exact State.saveFirmware_good g1
    · exact g1
  · exact State.zonHook_good g1
  · exact State.pwmHook_good g1
  · exact State.adcHook_good g1
  · exact State.busHook_good g1
  · exact State.hayHook_good g1
  · exact State.stbHook_good g1
  · refine good_ite ?_ ?_
    · exact State.fltCtlAct_good g1
    · exact g1
  · exact g1

theorem State.writeAttr_good {x1} {x2} {x3} (g1 : State.Good q n x1) :
    State.Good q n (State.writeAttr x1 x2 x3) := by
  delta State.writeAttr
  refine State.ownerHook_good ?_ ?_
  · exact State.setFields_good g1
  · exact g1

theorem State.doAttrModify_good {x1} {x2} {x3} (g1 : State.Good q n x1) :
    State.Good q n (State.doAttrModify x1 x2 x3) := by
  delta State.doAttrModify
  extract_lets -merge -underBinder +onlyGivenNames y1 y2 y3 y4 y5
  refine State.checked_good ?_ ?_
  · exact g1
  · intro x6 h7
    exact State.ok_good (State.writeAttr_good h7)

theorem State.doAttrWrite_good {x1} {x2} {x3} (g1 : State.Good q n x1) :
    State.Good q n (State.doAttrWrite x1 x2 x3) := by
  delta State.doAttrWrite
  extract_lets -merge -underBinder +onlyGivenNames y1 y2
  refine State.checked_good ?_ ?_
  · exact g1
  · intro x3 h4
    exact State.ok_good (State.writeAttr_good h4)

theorem execAttrModify_good {x1} {x2} (g2 : State.Good q n x2) :
    State.GoodOut q n (execAttrModify x1 x2) := by
  delta execAttrModify
  refine good_next ?_
  refine State.command_good ?_ ?_
  · exact g2
  · intro x1 x3 x4 h2
    exact State.doAttrModify_good h2

theorem execAttrWrite_good {x1} {x2} (g2 : State.Good q n x2) :
    State.GoodOut q n (execAttrWrite x1 x2) := by
  delta execAttrWrite
  refine good_next ?_
  refine State.command_good ?_ ?_
  · exact g2
  · intro x1 x3 x4 h2
    exact State.doAttrWrite_good h2

/-! ### BusCommands -/

theorem execBusFrameEnd_good {x1} {x2} {x3} {x4} (g4 : State.Good q n x4) :
    State.GoodOut q n (execBusFrameEnd x1 x2 x3 x4) := by
  delta execBusFrameEnd
  exact good_next (State.busFrameEnd_good g4)

theorem execModbusClientTimeout_good {x1} {x2} (g2 : State.Good q n x2) :
    State.GoodOut q n (execModbusClientTimeout x1 x2) := by
  delta execModbusClientTimeout
  refine good_next ?_
  refine good_ite ?_ ?_
  · exact State.modbusNext_good (State.modbusTimeout_good g2)
  · exact g2

theorem execMstpTokenLost_good {x1} {x2} (g2 : State.Good q n x2) :
    State.GoodOut q n (execMstpTokenLost x1 x2) := by
  delta execMstpTokenLost
  exact good_next (State.mstpTokenLost_good g2)

theorem execBusTxDone_good {x1} {x2} (g2 : State.Good q n x2) :
    State.GoodOut q n (execBusTxDone x1 x2) := by
  delta execBusTxDone
  exact good_next (State.busTxDone_good g2)

theorem execBusRxOverflow_good {x1} {x2} {x3} (g3 : State.Good q n x3) :
    State.GoodOut q n (execBusRxOverflow x1 x2 x3) := by
  delta execBusRxOverflow
  exact good_next (State.busOverflow_good g3)

theorem execBusTx_good {x1} {x2} (g2 : State.Good q n x2) :
    State.GoodOut q n (execBusTx x1 x2) := by
  delta execBusTx
  refine good_next ?_
  refine State.command_good ?_ ?_
  · exact g2
  · intro x1 x3 x4 h2
    exact State.doBusTx_good h2

theorem execBusGpRestart_good {x1} {x2} (g2 : State.Good q n x2) :
    State.GoodOut q n (execBusGpRestart x1 x2) := by
  delta execBusGpRestart
  refine good_next ?_
  refine State.command_good ?_ ?_
  · exact g2
  · intro x1 x3 x4 h2
    exact State.doBusGpRestart_good h2

theorem execBusPartialFrameDiscard_good {x1} {x2} (g2 : State.Good q n x2) :
    State.GoodOut q n (execBusPartialFrameDiscard x1 x2) := by
  delta execBusPartialFrameDiscard
  exact good_next (State.busPartial_good g2)

theorem execGolposenSend_good {x1} {x2} (g2 : State.Good q n x2) :
    State.GoodOut q n (execGolposenSend x1 x2) := by
  delta execGolposenSend
  exact good_next (State.golposenSend_good g2)

theorem execReplyPostponed_good {x1} {x2} (g2 : State.Good q n x2) :
    State.GoodOut q n (execReplyPostponed x1 x2) := by
  delta execReplyPostponed
  exact good_next (State.mstpPostpone_good g2)

theorem execGolposenWatchdog_good {x1} {x2} (g2 : State.Good q n x2) :
    State.GoodOut q n (execGolposenWatchdog x1 x2) := by
  delta execGolposenWatchdog
  exact good_next (State.gpWatchdog_good g2)

theorem execBusSave_good {x1} {x2} (g2 : State.Good q n x2) :
    State.GoodOut q n (execBusSave x1 x2) := by
  delta execBusSave
  refine good_next ?_
  refine State.command_good ?_ ?_
  · exact g2
  · intro x1 x3 x4 h2
    exact State.doBusSave_good h2

theorem execBusPortCtl_good {x1} {x2} (g2 : State.Good q n x2) :
    State.GoodOut q n (execBusPortCtl x1 x2) := by
  delta execBusPortCtl
  refine good_next ?_
  refine State.command_good ?_ ?_
  · exact g2
  · intro x1 x3 x4 h2
    exact State.doBusPortCtl_good h2

theorem execBusGpPdu_good {x1} {x2} (g2 : State.Good q n x2) :
    State.GoodOut q n (execBusGpPdu x1 x2) := by
  delta execBusGpPdu
  refine good_next ?_
  refine State.command_good ?_ ?_
  · exact g2
  · intro x1 x3 x4 h2
    exact State.doBusGpPdu_good h2

/-! ### Debug -/

theorem State.resumeAsk_good {x1} {x2} (g1 : State.Good q n x1) :
    State.Good q n (State.resumeAsk x1 x2) := by
  delta State.resumeAsk
  extract_lets -merge -underBinder +onlyGivenNames y1 y2
  have h3 : State.Good q n y2 := by subst y2; exact g1.of_eq rfl rfl rfl rfl rfl rfl rfl rfl rfl rfl rfl
  try clear_value y2
  refine good_ite ?_ ?_
  · exact h3.of_eq rfl rfl rfl rfl rfl rfl rfl rfl rfl rfl rfl
  · exact h3

theorem State.capture_good {x1} {x2} (g1 : State.Good q n x1) :
    State.Good q n (State.capture x1 x2) := by
  delta State.capture
  exact g1.of_eq rfl rfl rfl rfl rfl rfl rfl rfl rfl rfl rfl

theorem State.challenge_good {x1} {x2} (g1 : State.Good q n x1) :
    State.Good q n (State.challenge x1 x2) := by
  delta State.challenge
  refine good_ite ?_ ?_
  · extract_lets -merge -underBinder +onlyGivenNames y1
    have h2 : State.Good q n y1.2 := by subst y1; exact State.random_good g1
    try clear_value y1
    extract_lets -merge -underBinder +onlyGivenNames y3
    refine State.capture_good ?_
    extract_lets -merge -underBinder +onlyGivenNames y4
    have h5 : State.Good q n y4 := by subst y4; exact h2
    try clear_value y4
    exact h5.of_eq rfl rfl rfl rfl rfl rfl rfl rfl rfl rfl rfl
  · exact State.capture_good g1

theorem State.relockAsk_good {x1} (g1 : State.Good q n x1) :
    State.Good q n (State.relockAsk x1) := by
  delta State.relockAsk
  exact g1.of_eq rfl rfl rfl rfl rfl rfl rfl rfl rfl rfl rfl

theorem State.haltAsk_good {x1} {x2} {x3} (g1 : State.Good q n x1) :
    State.Good q n (State.haltAsk x1 x2 x3) := by
  delta State.haltAsk
  refine good_ite ?_ ?_
  · exact g1.of_eq rfl rfl rfl rfl rfl rfl rfl rfl rfl rfl rfl
  · extract_lets -merge -underBinder +onlyGivenNames y1 y2
    have h3 : State.Good q n y2 := by subst y2; exact g1.of_eq rfl rfl rfl rfl rfl rfl rfl rfl rfl rfl rfl
    try clear_value y2
    refine good_ite ?_ ?_
    · exact h3
    · exact h3.of_eq rfl rfl rfl rfl rfl rfl rfl rfl rfl rfl rfl

theorem State.sampleDr_good {s cells} (h : State.Good q n s) : State.Good q n (State.sampleDr s cells) :=
  (State.draw_good h).of_eq rfl rfl rfl rfl rfl rfl rfl rfl rfl rfl rfl

theorem State.extestDr_good {s cells} (h : State.Good q n s) : State.Good q n (State.extestDr s cells) :=
  (State.draw_good h).of_eq rfl rfl rfl rfl rfl rfl rfl rfl rfl rfl rfl

theorem State.memDone_good {x1} {x2} {x3} {x4} {x5} {x6} (g1 : State.Good q n x1) :
    State.Good q n (State.memDone x1 x2 x3 x4 x5 x6) := by
  delta State.memDone
  extract_lets -merge -underBinder +onlyGivenNames y1 y2 y3
  have h4 : State.Good q n y3 := by subst y3; exact g1.of_eq rfl rfl rfl rfl rfl rfl rfl rfl rfl rfl rfl
  try clear_value y3
  exact State.capture_good h4

theorem State.responseBad_good {x1} {x2} {x3} (g1 : State.Good q n x1) :
    State.Good q n (State.responseBad x1 x2 x3) := by
  delta State.responseBad
  extract_lets -merge -underBinder +onlyGivenNames y1 y2
  have h3 : State.Good q n y2 := by subst y2; exact g1.of_eq rfl rfl rfl rfl rfl rfl rfl rfl rfl rfl rfl
  try clear_value y2
  exact State.record_good h3

theorem State.spokeFill_good {x1} (g1 : State.Good q n x1) :
    State.Good q n (State.spokeFill x1) := by
  delta State.spokeFill
  exact State.fillStream_good g1

theorem State.coreResumes_good {x1} {x2} (g1 : State.Good q n x1) :
    State.Good q n (State.coreResumes x1 x2) := by
  delta State.coreResumes
  refine good_ite ?_ ?_
  · extract_lets -merge -underBinder +onlyGivenNames y1 y2
    have h3 : State.Good q n y2 := by subst y2; exact g1.of_eq rfl rfl rfl rfl rfl rfl rfl rfl rfl rfl rfl
    try clear_value y2
    extract_lets -merge -underBinder +onlyGivenNames y4
    have h5 : State.Good q n y4 := by subst y4; exact State.debugRunEnd_good h3
    try clear_value y4
    refine good_ite ?_ ?_
    · exact State.note_good (State.forceOff_good h5)
    · exact h5
  · exact g1

theorem State.spokePop_good {x1} (g1 : State.Good q n x1) :
    State.Good q n (State.spokePop x1) := by
  delta State.spokePop
  extract_lets -merge -underBinder +onlyGivenNames y1
  try clear_value y1
  split
  · exact State.capture_good g1
  · exact State.capture_good (g1.of_eq rfl rfl rfl rfl rfl rfl rfl rfl rfl rfl rfl)

theorem State.memWrite_good {s addr v inc} (h : State.Good q n s) : State.Good q n (State.memWrite s addr v inc) := by
  unfold State.memWrite
  refine good_ite (State.memDone_good h) (good_ite (State.memDone_good h) (good_ite (State.memDone_good (State.cacheInvalidate_good
    (h.withSram (mwf_cellsPut _ _ h.inv.sram)))) ?_))
  split
  · exact State.memDone_good h
  · exact good_ite (State.memDone_good h) (good_ite (State.memDone_good h) (State.memDone_good (State.narrowWrite_good h)))

theorem State.spokePush_good {x1} {x2} (g1 : State.Good q n x1) :
    State.Good q n (State.spokePush x1 x2) := by
  delta State.spokePush
  refine good_ite ?_ ?_
  · exact State.rxDiscard_good g1
  · exact State.rxBytes_good g1

theorem State.memNone_good {x1} {x2} {x3} {x4} {x5} {x6} (g1 : State.Good q n x1) :
    State.Good q n (State.memNone x1 x2 x3 x4 x5 x6) := by
  delta State.memNone
  split
  · exact State.memDone_good g1
  · extract_lets -merge -underBinder +onlyGivenNames y1
    have h2 : State.Good q n y1.2 := by subst y1; exact State.draw_good g1
    try clear_value y1
    exact State.memDone_good h2

theorem State.doDbgReadMode_good {x1} {x2} {x3} (g1 : State.Good q n x1) :
    State.Good q n (State.doDbgReadMode x1 x2 x3) := by
  delta State.doDbgReadMode
  refine State.checked_good ?_ ?_
  · exact g1
  · intro x1 h2
    exact State.ok_good (h2.of_eq rfl rfl rfl rfl rfl rfl rfl rfl rfl rfl rfl)

theorem State.unlock_good {x1} {x2} (g1 : State.Good q n x1) :
    State.Good q n (State.unlock x1 x2) := by
  delta State.unlock
  extract_lets -merge -underBinder +onlyGivenNames y1 y2
  have h3 : State.Good q n y2 := by subst y2; exact g1.of_eq rfl rfl rfl rfl rfl rfl rfl rfl rfl rfl rfl
  try clear_value y2
  extract_lets -merge -underBinder +onlyGivenNames y4
  have h5 : State.Good q n y4 := by subst y4; exact State.wrs_good h3
  try clear_value y4
  extract_lets -merge -underBinder +onlyGivenNames y6
  have h7 : State.Good q n y6 := by subst y6; exact State.secNote_good (State.record_good h5)
  try clear_value y6
  exact State.recert_good (State.fault_good h7)

theorem State.responseJudge_good {x1} (g1 : State.Good q n x1) :
    State.Good q n (State.responseJudge x1) := by
  delta State.responseJudge
  split
  · exact g1
  · extract_lets -merge -underBinder +onlyGivenNames y1 y2
    have h3 : State.Good q n y2 := by subst y2; exact g1.of_eq rfl rfl rfl rfl rfl rfl rfl rfl rfl rfl rfl
    try clear_value y2
    split
    · exact State.responseBad_good h3
    · refine good_ite ?_ ?_
      · exact State.responseBad_good h3
      · refine good_ite ?_ ?_
        · exact State.unlock_good h3
        · exact State.responseBad_good h3

theorem State.relocks_good {x1} (g1 : State.Good q n x1) :
    State.Good q n (State.relocks x1) := by
  delta State.relocks
  refine good_ite ?_ ?_
  · extract_lets -merge -underBinder +onlyGivenNames y1 y2 y3
    have h4 : State.Good q n y3 := by subst y3; exact g1.of_eq rfl rfl rfl rfl rfl rfl rfl rfl rfl rfl rfl
    try clear_value y3
    extract_lets -merge -underBinder +onlyGivenNames y5
    have h6 : State.Good q n y5 := by subst y5; exact State.wrs_good h4
    try clear_value y5
    exact State.recert_good (State.note_good (State.record_good h6))
  · exact g1

theorem State.coreHalts_good {x1} {x2} (g1 : State.Good q n x1) :
    State.Good q n (State.coreHalts x1 x2) := by
  delta State.coreHalts
  refine good_ite ?_ ?_
  · exact g1
  · extract_lets -merge -underBinder +onlyGivenNames y1 y2 y3
    have h4 : State.Good q n y3 := by subst y3; exact g1.of_eq rfl rfl rfl rfl rfl rfl rfl rfl rfl rfl rfl
    try clear_value y3
    extract_lets -merge -underBinder +onlyGivenNames y5
    have h6 : State.Good q n y5 := by subst y5; exact State.debugRunHold_good h4
    try clear_value y5
    refine good_ite ?_ ?_
    · exact State.note_good (State.padDo_good (State.forceOn_good h6))
    · exact h6

theorem State.memRead_good {x1} {x2} {x3} (g1 : State.Good q n x1) :
    State.Good q n (State.memRead x1 x2 x3) := by
  delta State.memRead
  refine good_ite ?_ ?_
  · exact State.memNone_good g1
  · refine good_ite ?_ ?_
    · exact State.memNone_good g1
    · refine good_ite ?_ ?_
      · exact State.memDone_good g1
      · split
        · exact State.memNone_good g1
        · refine good_ite ?_ ?_
          · exact State.memNone_good g1
          · extract_lets -merge -underBinder +onlyGivenNames y1
            have h2 : State.Good q n y1.2 := by subst y1; exact State.narrowRead_good g1
            try clear_value y1
            split
            · exact State.memNone_good h2
            · exact State.memDone_good h2

theorem State.debugSlot_good {x1} (g1 : State.Good q n x1) :
    State.Good q n (State.debugSlot x1) := by
  delta State.debugSlot
  exact State.responseJudge_good (State.relocks_good (State.coreResumes_good (State.coreResumes_good g1)))

theorem State.selectIr_good {x1} {x2} (g1 : State.Good q n x1) :
    State.Good q n (State.selectIr x1 x2) := by
  delta State.selectIr
  extract_lets -merge -underBinder +onlyGivenNames y1 y2
  have h3 : State.Good q n y2 := by subst y2; exact g1.of_eq rfl rfl rfl rfl rfl rfl rfl rfl rfl rfl rfl
  try clear_value y2
  refine State.when_good ?_ ?_
  · exact h3
  · intro x4 h5
    exact State.hubReset_good h5

theorem State.tap_good {x1} {x2} {x3} (g1 : State.Good q n x1) (g3 : ∀ z1, State.Good q n z1 → State.Good q n (x3 z1)) :
    State.Good q n (State.tap x1 x2 x3) := by
  delta State.tap
  refine good_ite ?_ ?_
  · refine g3 _ ?_
    exact State.selectIr_good g1
  · exact g1

theorem State.vendor_good {x1} {x2} {x3} {x4} (g1 : State.Good q n x1) (g4 : ∀ z1, State.Good q n z1 → State.Good q n (x4 z1)) :
    State.Good q n (State.vendor x1 x2 x3 x4) := by
  delta State.vendor
  refine State.tap_good ?_ ?_
  · exact g1
  · intro x1 h2
    refine good_ite ?_ ?_
    · refine g4 _ ?_
      exact h2
    · exact State.capture_good h2

end Sys2Proof.Machine
end

