-- ==== Sys2Proof/Laws/Good7.lean ====
section
/-!
SUPPORT. Sys2Proof/Laws/Good7.lean: the operations of DebugCommands, PaddockCommands, StableCommands, ThermalCommands, PanelCommands, Spoke, Jobs, Sequencer, SpokeCommands keep
the queue, the count of slot edges and the invariant.
-/

namespace Sys2Proof.Machine

variable {q : List Instr} {n : Nat}

/-! ### DebugCommands -/

theorem execCoreResume_good {x1} {x2} (g2 : State.Good q n x2) :
    State.GoodOut q n (execCoreResume x1 x2) := by
  delta execCoreResume
  exact good_next (State.coreResumes_good g2)

theorem execTapReset_good {x1} (g1 : State.Good q n x1) :
    State.GoodOut q n (execTapReset x1) := by
  delta execTapReset
  exact good_next (State.tapReset_good g1)

theorem execDbgReadMode_good {x1} {x2} (g2 : State.Good q n x2) :
    State.GoodOut q n (execDbgReadMode x1 x2) := by
  delta execDbgReadMode
  refine good_next ?_
  refine State.command_good ?_ ?_
  · exact g2
  · intro x1 x3 x4 h2
    exact State.doDbgReadMode_good h2

theorem execDebugResponseJudged_good {x1} (g1 : State.Good q n x1) :
    State.GoodOut q n (execDebugResponseJudged x1) := by
  delta execDebugResponseJudged
  exact good_next (State.responseJudge_good g1)

theorem execCoreHalt_good {x1} {x2} (g2 : State.Good q n x2) :
    State.GoodOut q n (execCoreHalt x1 x2) := by
  delta execCoreHalt
  exact good_next (State.coreHalts_good g2)

theorem execDbgResp_good {x1} {x2} (g2 : State.Good q n x2) :
    State.GoodOut q n (execDbgResp x1 x2) := by
  delta execDbgResp
  refine good_next ?_
  refine State.tap_good ?_ ?_
  · exact g2
  · intro x1 h2
    exact State.capture_good (h2.of_eq rfl rfl rfl rfl rfl rfl rfl rfl rfl rfl rfl)

theorem execBypass_good {x1} (g1 : State.Good q n x1) :
    State.GoodOut q n (execBypass x1) := by
  delta execBypass
  refine good_next ?_
  refine State.tap_good ?_ ?_
  · exact g1
  · intro x1 h2
    exact State.capture_good h2

theorem execSamplePreload_good {x1} {x2} (g2 : State.Good q n x2) :
    State.GoodOut q n (execSamplePreload x1 x2) := by
  delta execSamplePreload
  refine good_next ?_
  refine State.tap_good ?_ ?_
  · exact g2
  · intro x1 h2
    exact State.sampleDr_good h2

theorem execClamp_good {x1} (g1 : State.Good q n x1) :
    State.GoodOut q n (execClamp x1) := by
  delta execClamp
  refine good_next ?_
  refine State.tap_good ?_ ?_
  · exact g1
  · intro x1 h2
    exact State.capture_good h2

theorem execDbgChal_good {x1} {x2} (g2 : State.Good q n x2) :
    State.GoodOut q n (execDbgChal x1 x2) := by
  delta execDbgChal
  refine good_next ?_
  refine State.tap_good ?_ ?_
  · exact g2
  · intro x1 h2
    exact State.challenge_good h2

theorem execHighz_good {x1} (g1 : State.Good q n x1) :
    State.GoodOut q n (execHighz x1) := by
  delta execHighz
  refine good_next ?_
  refine State.tap_good ?_ ?_
  · exact g1
  · intro x1 h2
    exact State.capture_good h2

theorem execIdcode_good {x1} (g1 : State.Good q n x1) :
    State.GoodOut q n (execIdcode x1) := by
  delta execIdcode
  refine good_next ?_
  refine State.tap_good ?_ ?_
  · exact g1
  · intro x1 h2
    exact State.capture_good h2

theorem execDbgStatus_good {x1} (g1 : State.Good q n x1) :
    State.GoodOut q n (execDbgStatus x1) := by
  delta execDbgStatus
  refine good_next ?_
  refine State.tap_good ?_ ?_
  · exact g1
  · intro x1 h2
    exact State.capture_good h2

theorem execExtest_good {x1} {x2} (g2 : State.Good q n x2) :
    State.GoodOut q n (execExtest x1 x2) := by
  delta execExtest
  refine good_next ?_
  refine State.tap_good ?_ ?_
  · exact g2
  · intro x1 h2
    exact State.extestDr_good h2

theorem execResume_good {x1} {x2} (g2 : State.Good q n x2) :
    State.GoodOut q n (execResume x1 x2) := by
  delta execResume
  refine good_next ?_
  refine State.vendor_good ?_ ?_
  · exact g2
  · intro x1 h2
    exact State.capture_good (State.resumeAsk_good h2)

theorem execHalt_good {x1} {x2} {x3} (g3 : State.Good q n x3) :
    State.GoodOut q n (execHalt x1 x2 x3) := by
  delta execHalt
  refine good_next ?_
  refine State.vendor_good ?_ ?_
  · exact g3
  · intro x1 h2
    exact State.capture_good (State.haltAsk_good h2)

theorem execDbgReset_good {x1} (g1 : State.Good q n x1) :
    State.GoodOut q n (execDbgReset x1) := by
  delta execDbgReset
  refine good_next ?_
  refine State.vendor_good ?_ ?_
  · exact g1
  · intro x1 h2
    exact State.capture_good (State.hubReset_good (h2.of_eq rfl rfl rfl rfl rfl rfl rfl rfl rfl rfl rfl))

theorem execDbgSpokePop_good {x1} (g1 : State.Good q n x1) :
    State.GoodOut q n (execDbgSpokePop x1) := by
  delta execDbgSpokePop
  refine good_next ?_
  refine State.vendor_good ?_ ?_
  · exact g1
  · intro x1 h2
    exact State.spokePop_good h2

theorem execDbgMemWrite_good {x1} {x2} {x3} {x4} (g4 : State.Good q n x4) :
    State.GoodOut q n (execDbgMemWrite x1 x2 x3 x4) := by
  delta execDbgMemWrite
  refine good_next ?_
  refine State.vendor_good ?_ ?_
  · exact g4
  · intro x1 h2
    exact State.memWrite_good h2

theorem execFlush_good {x1} (g1 : State.Good q n x1) :
    State.GoodOut q n (execFlush x1) := by
  delta execFlush
  refine good_next ?_
  refine State.vendor_good ?_ ?_
  · exact g1
  · intro x1 h2
    exact State.capture_good (State.rxDiscard_good (h2.of_eq rfl rfl rfl rfl rfl rfl rfl rfl rfl rfl rfl))

theorem execRelock_good {x1} (g1 : State.Good q n x1) :
    State.GoodOut q n (execRelock x1) := by
  delta execRelock
  refine good_next ?_
  refine State.vendor_good ?_ ?_
  · exact g1
  · intro x1 h2
    exact State.capture_good (State.relockAsk_good h2)

theorem execDbgSpokePush_good {x1} {x2} (g2 : State.Good q n x2) :
    State.GoodOut q n (execDbgSpokePush x1 x2) := by
  delta execDbgSpokePush
  refine good_next ?_
  refine State.vendor_good ?_ ?_
  · exact g2
  · intro x1 h2
    exact State.spokePush_good h2

theorem execDbgMemRead_good {x1} {x2} {x3} (g3 : State.Good q n x3) :
    State.GoodOut q n (execDbgMemRead x1 x2 x3) := by
  delta execDbgMemRead
  refine good_next ?_
  refine State.vendor_good ?_ ?_
  · exact g3
  · intro x1 h2
    exact State.memRead_good h2

/-! ### PaddockCommands -/

theorem execFrostDemandOff_good {x1} (g1 : State.Good q n x1) :
    State.GoodOut q n (execFrostDemandOff x1) := by
  delta execFrostDemandOff
  exact good_next (State.padDo_good g1)

theorem execArmed_good {x1} (g1 : State.Good q n x1) :
    State.GoodOut q n (execArmed x1) := by
  delta execArmed
  exact good_next (State.padDo_good g1)

theorem execFrostDemandOn_good {x1} (g1 : State.Good q n x1) :
    State.GoodOut q n (execFrostDemandOn x1) := by
  delta execFrostDemandOn
  exact good_next (State.padDo_good g1)

theorem execSafetyInputFilter_good {x1} {x2} {x3} {x4} (g4 : State.Good q n x4) :
    State.GoodOut q n (execSafetyInputFilter x1 x2 x3 x4) := by
  delta execSafetyInputFilter
  exact good_next (State.padDo_good g4)

theorem execProofWindowOpen_good {x1} {x2} (g2 : State.Good q n x2) :
    State.GoodOut q n (execProofWindowOpen x1 x2) := by
  delta execProofWindowOpen
  exact good_next (State.padDo_good g2)

theorem execPadCommitActivate_good {x1} (g1 : State.Good q n x1) :
    State.GoodOut q n (execPadCommitActivate x1) := by
  delta execPadCommitActivate
  exact good_next (State.padDo_good g1)

theorem execPadPowerUp_good {x1} (g1 : State.Good q n x1) :
    State.GoodOut q n (execPadPowerUp x1) := by
  delta execPadPowerUp
  extract_lets -merge -underBinder +onlyGivenNames y1
  have h2 : State.Good q n y1.2 := by subst y1; exact State.drawChallenge_good g1
  try clear_value y1
  refine good_next ?_
  refine State.mixFollow_good ?_
  refine State.padSnapReset_good ?_
  extract_lets -merge -underBinder +onlyGivenNames y3
  have h4 : State.Good q n y3 := by subst y3; exact h2
  try clear_value y3
  exact h4.of_eq rfl rfl rfl rfl rfl rfl rfl rfl rfl rfl rfl

theorem execProofDeadline_good {x1} {x2} (g2 : State.Good q n x2) :
    State.GoodOut q n (execProofDeadline x1 x2) := by
  delta execProofDeadline
  exact good_next (State.padDo_good g2)

theorem execRearmWindowEnd_good {x1} (g1 : State.Good q n x1) :
    State.GoodOut q n (execRearmWindowEnd x1) := by
  delta execRearmWindowEnd
  exact good_next (State.padDo_good g1)

theorem execSltRelease_good {x1} (g1 : State.Good q n x1) :
    State.GoodOut q n (execSltRelease x1) := by
  delta execSltRelease
  exact good_next (State.padDo_good g1)

theorem execHeartbeatResponse_good {x1} {x2} (g2 : State.Good q n x2) :
    State.GoodOut q n (execHeartbeatResponse x1 x2) := by
  delta execHeartbeatResponse
  exact good_next (State.padDo_good g2)

theorem execWeld_good {x1} {x2} (g2 : State.Good q n x2) :
    State.GoodOut q n (execWeld x1 x2) := by
  delta execWeld
  exact good_next (State.padDo_good g2)

theorem execLaneFault_good {x1} (g1 : State.Good q n x1) :
    State.GoodOut q n (execLaneFault x1) := by
  delta execLaneFault
  exact good_next (State.padDo_good g1)

theorem execClkFault_good {x1} (g1 : State.Good q n x1) :
    State.GoodOut q n (execClkFault x1) := by
  delta execClkFault
  exact good_next (State.padDo_good g1)

theorem execSltSens_good {x1} (g1 : State.Good q n x1) :
    State.GoodOut q n (execSltSens x1) := by
  delta execSltSens
  exact good_next (State.padDo_good g1)

theorem execSdirRelease_good {x1} (g1 : State.Good q n x1) :
    State.GoodOut q n (execSdirRelease x1) := by
  delta execSdirRelease
  exact good_next (State.padDo_good g1)

theorem execSlpFault_good {x1} (g1 : State.Good q n x1) :
    State.GoodOut q n (execSlpFault x1) := by
  delta execSlpFault
  exact good_next (State.padDo_good g1)

theorem execDiscrepant_good {x1} {x2} (g2 : State.Good q n x2) :
    State.GoodOut q n (execDiscrepant x1 x2) := by
  delta execDiscrepant
  exact good_next (State.padDo_good g2)

theorem execVddPadLoss_good {x1} (g1 : State.Good q n x1) :
    State.GoodOut q n (execVddPadLoss x1) := by
  delta execVddPadLoss
  extract_lets -merge -underBinder +onlyGivenNames y1
  have h2 : State.Good q n y1.2 := by subst y1; exact State.draw_good g1
  try clear_value y1
  extract_lets -merge -underBinder +onlyGivenNames y3
  have h4 : State.Good q n y3.2 := by subst y3; exact State.draw_good h2
  try clear_value y3
  refine good_next ?_
  refine State.mixFollow_good ?_
  extract_lets -merge -underBinder +onlyGivenNames y5
  have h6 : State.Good q n y5 := by subst y5; exact h4
  try clear_value y5
  exact h6.of_eq rfl rfl rfl rfl rfl rfl rfl rfl rfl rfl rfl

theorem execFbFault_good {x1} {x2} (g2 : State.Good q n x2) :
    State.GoodOut q n (execFbFault x1 x2) := by
  delta execFbFault
  exact good_next (State.padDo_good g2)

theorem execProofTestEnd_good {x1} {x2} (g2 : State.Good q n x2) :
    State.GoodOut q n (execProofTestEnd x1 x2) := by
  delta execProofTestEnd
  exact good_next (State.padDo_good g2)

theorem execSltTrip_good {x1} (g1 : State.Good q n x1) :
    State.GoodOut q n (execSltTrip x1) := by
  delta execSltTrip
  exact good_next (State.padDo_good g1)

theorem execStagedBlockExpire_good {x1} (g1 : State.Good q n x1) :
    State.GoodOut q n (execStagedBlockExpire x1) := by
  delta execStagedBlockExpire
  exact good_next (State.padDo_good g1)

theorem execHeartbeatLapse_good {x1} (g1 : State.Good q n x1) :
    State.GoodOut q n (execHeartbeatLapse x1) := by
  delta execHeartbeatLapse
  exact good_next (State.padDo_good g1)

theorem execPadStage_good {x1} {x2} (g2 : State.Good q n x2) :
    State.GoodOut q n (execPadStage x1 x2) := by
  delta execPadStage
  refine good_next ?_
  refine State.command_good ?_ ?_
  · exact g2
  · intro x1 x3 x4 h2
    exact State.doPadStage_good h2

theorem execPadCommit_good {x1} {x2} (g2 : State.Good q n x2) :
    State.GoodOut q n (execPadCommit x1 x2) := by
  delta execPadCommit
  refine good_next ?_
  refine State.command_good ?_ ?_
  · exact g2
  · intro x1 x3 x4 h2
    exact State.doPadCommit_good h2

theorem execPadProof_good {x1} {x2} (g2 : State.Good q n x2) :
    State.GoodOut q n (execPadProof x1 x2) := by
  delta execPadProof
  refine good_next ?_
  refine State.command_good ?_ ?_
  · exact g2
  · intro x1 x3 x4 h2
    exact State.doPadProof_good h2

theorem execPadRestart_good {x1} {x2} (g2 : State.Good q n x2) :
    State.GoodOut q n (execPadRestart x1 x2) := by
  delta execPadRestart
  refine good_next ?_
  refine State.command_good ?_ ?_
  · exact g2
  · intro x1 x3 x4 h2
    exact State.doPadRestart_good h2

theorem execRoundEnd_good {x1} {x2} (g2 : State.Good q n x2) :
    State.GoodOut q n (execRoundEnd x1 x2) := by
  delta execRoundEnd
  exact good_next (State.padRound_good g2)

theorem execPadCancel_good {x1} {x2} (g2 : State.Good q n x2) :
    State.GoodOut q n (execPadCancel x1 x2) := by
  delta execPadCancel
  refine good_next ?_
  refine State.command_good ?_ ?_
  · exact g2
  · intro x1 x3 x4 h2
    exact State.doPadCancel_good h2

/-! ### StableCommands -/

theorem execStbCacheWrite_good {x1} {x2} (g2 : State.Good q n x2) :
    State.GoodOut q n (execStbCacheWrite x1 x2) := by
  delta execStbCacheWrite
  exact good_next (State.cacheHook_good (State.wr_good g2))

theorem execStbFeed_good {x1} {x2} (g2 : State.Good q n x2) :
    State.GoodOut q n (execStbFeed x1 x2) := by
  delta execStbFeed
  refine good_next ?_
  refine State.command_good ?_ ?_
  · exact g2
  · intro x1 x3 x4 h2
    exact State.doStbFeed_good h2

theorem execCacheSwitch_good {x1} (g1 : State.Good q n x1) :
    State.GoodOut q n (execCacheSwitch x1) := by
  delta execCacheSwitch
  exact good_next (State.cacheSwitch_good g1)

theorem execScrub_good {x1} {x2} (g2 : State.Good q n x2) :
    State.GoodOut q n (execScrub x1 x2) := by
  delta execScrub
  refine good_next ?_
  refine good_ite ?_ ?_
  · exact g2
  · exact State.scrubWord_good g2

theorem execNarrowAccess_good {x1} {x2} {x3} {x4} {x5} (g5 : State.Good q n x5) :
    State.GoodOut q n (execNarrowAccess x1 x2 x3 x4 x5) := by
  delta execNarrowAccess
  refine good_next ?_
  refine good_ite ?_ ?_
  · exact State.cacheAccess_good g5
  · split
    · exact State.narrowWrite_good g5
    · exact State.narrowRead_good g5

theorem execStbLoadEnd_good {x1} {x2} (g2 : State.Good q n x2) :
    State.GoodOut q n (execStbLoadEnd x1 x2) := by
  delta execStbLoadEnd
  refine good_next ?_
  refine State.command_good ?_ ?_
  · exact g2
  · intro x1 x3 x4 h2
    exact State.doStbLoadEnd_good h2

theorem execStbTaskStart_good {x1} {x2} (g2 : State.Good q n x2) :
    State.GoodOut q n (execStbTaskStart x1 x2) := by
  delta execStbTaskStart
  refine good_next ?_
  refine State.command_good ?_ ?_
  · exact g2
  · intro x1 x3 x4 h2
    exact State.doStbTaskStart_good h2

theorem execStbLoadData_good {x1} {x2} (g2 : State.Good q n x2) :
    State.GoodOut q n (execStbLoadData x1 x2) := by
  delta execStbLoadData
  refine good_next ?_
  refine State.command_good ?_ ?_
  · exact g2
  · intro x1 x3 x4 h2
    exact State.doStbLoadData_good h2

theorem execRowRepairCopy_good {x1} {x2} (g2 : State.Good q n x2) :
    State.GoodOut q n (execRowRepairCopy x1 x2) := by
  delta execRowRepairCopy
  refine good_next ?_
  refine good_ite ?_ ?_
  · exact g2
  · exact State.rowCopy_good g2

theorem execStbLoadBegin_good {x1} {x2} (g2 : State.Good q n x2) :
    State.GoodOut q n (execStbLoadBegin x1 x2) := by
  delta execStbLoadBegin
  refine good_next ?_
  refine State.command_good ?_ ?_
  · exact g2
  · intro x1 x3 x4 h2
    exact State.doStbLoadBegin_good h2

theorem execStbTaskStop_good {x1} {x2} (g2 : State.Good q n x2) :
    State.GoodOut q n (execStbTaskStop x1 x2) := by
  delta execStbTaskStop
  refine good_next ?_
  refine State.command_good ?_ ?_
  · exact g2
  · intro x1 x3 x4 h2
    exact State.doStbTaskStop_good h2

theorem execStbAuditWrite_good {x1} {x2} (g2 : State.Good q n x2) :
    State.GoodOut q n (execStbAuditWrite x1 x2) := by
  delta execStbAuditWrite
  exact good_next (State.auditHook_good (State.wr_good g2))

theorem execStallWindowClose_good {x1} (g1 : State.Good q n x1) :
    State.GoodOut q n (execStallWindowClose x1) := by
  delta execStallWindowClose
  exact good_next (State.stbClose_good g1)

theorem State.opRow_good {x1} {x2} {x3} {x4} {x5} (g1 : State.Good q n x1) :
    State.Good q n (State.opRow x1 x2 x3 x4 x5) := by
  delta State.opRow
  refine good_ite ?_ ?_
  · exact g1
  · exact State.runOp_good g1

theorem execNop_good {x1} {x2} {x3} {x4} (g4 : State.Good q n x4) :
    State.GoodOut q n (execNop x1 x2 x3 x4) := by
  delta execNop
  exact good_next (State.opRow_good g4)

theorem execNsend_good {x1} {x2} {x3} {x4} (g4 : State.Good q n x4) :
    State.GoodOut q n (execNsend x1 x2 x3 x4) := by
  delta execNsend
  exact good_next (State.opRow_good g4)

theorem execStore_good {x1} {x2} {x3} {x4} (g4 : State.Good q n x4) :
    State.GoodOut q n (execStore x1 x2 x3 x4) := by
  delta execStore
  exact good_next (State.opRow_good g4)

theorem execTload_good {x1} {x2} {x3} {x4} (g4 : State.Good q n x4) :
    State.GoodOut q n (execTload x1 x2 x3 x4) := by
  delta execTload
  exact good_next (State.opRow_good g4)

theorem execMact_good {x1} {x2} {x3} {x4} (g4 : State.Good q n x4) :
    State.GoodOut q n (execMact x1 x2 x3 x4) := by
  delta execMact
  exact good_next (State.opRow_good g4)

theorem execPool_good {x1} {x2} {x3} {x4} (g4 : State.Good q n x4) :
    State.GoodOut q n (execPool x1 x2 x3 x4) := by
  delta execPool
  exact good_next (State.opRow_good g4)

theorem execAct_good {x1} {x2} {x3} {x4} (g4 : State.Good q n x4) :
    State.GoodOut q n (execAct x1 x2 x3 x4) := by
  delta execAct
  exact good_next (State.opRow_good g4)

theorem execSetr_good {x1} {x2} {x3} {x4} (g4 : State.Good q n x4) :
    State.GoodOut q n (execSetr x1 x2 x3 x4) := by
  delta execSetr
  exact good_next (State.opRow_good g4)

theorem execRadv_good {x1} {x2} {x3} {x4} (g4 : State.Good q n x4) :
    State.GoodOut q n (execRadv x1 x2 x3 x4) := by
  delta execRadv
  exact good_next (State.opRow_good g4)

theorem execAddr_good {x1} {x2} {x3} {x4} (g4 : State.Good q n x4) :
    State.GoodOut q n (execAddr x1 x2 x3 x4) := by
  delta execAddr
  exact good_next (State.opRow_good g4)

theorem execLoop_good {x1} {x2} {x3} {x4} (g4 : State.Good q n x4) :
    State.GoodOut q n (execLoop x1 x2 x3 x4) := by
  delta execLoop
  exact good_next (State.opRow_good g4)

theorem execMove_good {x1} {x2} {x3} {x4} (g4 : State.Good q n x4) :
    State.GoodOut q n (execMove x1 x2 x3 x4) := by
  delta execMove
  exact good_next (State.opRow_good g4)

theorem execWaitt_good {x1} {x2} {x3} {x4} (g4 : State.Good q n x4) :
    State.GoodOut q n (execWaitt x1 x2 x3 x4) := by
  delta execWaitt
  exact good_next (State.opRow_good g4)

theorem execOpEnd_good {x1} {x2} {x3} {x4} (g4 : State.Good q n x4) :
    State.GoodOut q n (execOpEnd x1 x2 x3 x4) := by
  delta execOpEnd
  exact good_next (State.opRow_good g4)

theorem execRwait_good {x1} {x2} {x3} {x4} (g4 : State.Good q n x4) :
    State.GoodOut q n (execRwait x1 x2 x3 x4) := by
  delta execRwait
  exact good_next (State.opRow_good g4)

theorem execJump_good {x1} {x2} {x3} {x4} (g4 : State.Good q n x4) :
    State.GoodOut q n (execJump x1 x2 x3 x4) := by
  delta execJump
  exact good_next (State.opRow_good g4)

/-! ### ThermalCommands -/

theorem execCutSensorRelease_good {x1} (g1 : State.Good q n x1) :
    State.GoodOut q n (execCutSensorRelease x1) := by
  delta execCutSensorRelease
  exact good_next (g1.of_eq rfl rfl rfl rfl rfl rfl rfl rfl rfl rfl rfl)

theorem execRiseActEnd_good {x1} (g1 : State.Good q n x1) :
    State.GoodOut q n (execRiseActEnd x1) := by
  delta execRiseActEnd
  refine good_next ?_
  refine good_ite ?_ ?_
  · exact State.riseAct_good g1
  · exact g1

theorem execLevelFall_good {x1} (g1 : State.Good q n x1) :
    State.GoodOut q n (execLevelFall x1) := by
  delta execLevelFall
  refine good_next ?_
  refine good_ite ?_ ?_
  · exact State.enforcedTold_good (State.levelFall_good g1)
  · exact g1

theorem execRiseAlarm_good {x1} (g1 : State.Good q n x1) :
    State.GoodOut q n (execRiseAlarm x1) := by
  delta execRiseAlarm
  refine good_next ?_
  refine good_ite ?_ ?_
  · exact State.riseAlarm_good g1
  · exact g1

theorem execGraceExpire_good {x1} (g1 : State.Good q n x1) :
    State.GoodOut q n (execGraceExpire x1) := by
  delta execGraceExpire
  extract_lets -merge -underBinder +onlyGivenNames y1
  refine good_next ?_
  refine good_ite ?_ ?_
  · refine State.enforcedTold_good ?_
    extract_lets -merge -underBinder +onlyGivenNames y2
    have h3 : State.Good q n y2 := by subst y2; exact State.wr_good g1
    try clear_value y2
    exact h3.of_eq rfl rfl rfl rfl rfl rfl rfl rfl rfl rfl rfl
  · exact g1

theorem execThmFloor_good {x1} {x2} (g2 : State.Good q n x2) :
    State.GoodOut q n (execThmFloor x1 x2) := by
  delta execThmFloor
  refine good_next ?_
  refine State.command_good ?_ ?_
  · exact g2
  · intro x1 x3 x4 h2
    exact State.doThmFloor_good h2

theorem execLevelTakesEffect_good {x1} (g1 : State.Good q n x1) :
    State.GoodOut q n (execLevelTakesEffect x1) := by
  delta execLevelTakesEffect
  exact good_next (State.thmLap_good g1)

theorem execCutSensorTrip_good {x1} (g1 : State.Good q n x1) :
    State.GoodOut q n (execCutSensorTrip x1) := by
  delta execCutSensorTrip
  exact good_next (State.cutTrip_good g1)

theorem execThermStop_good {x1} (g1 : State.Good q n x1) :
    State.GoodOut q n (execThermStop x1) := by
  delta execThermStop
  exact good_next (State.thermStop_good g1)

/-! ### PanelCommands -/

theorem execSegCfgWrite_good {x1} {x2} (g2 : State.Good q n x2) :
    State.GoodOut q n (execSegCfgWrite x1 x2) := by
  delta execSegCfgWrite
  refine good_next ?_
  refine good_ite ?_ ?_
  · exact State.setRw_good g2
  · exact g2

theorem execDspGammaWrite_good {x1} {x2} {x3} (g3 : State.Good q n x3) :
    State.GoodOut q n (execDspGammaWrite x1 x2 x3) := by
  delta execDspGammaWrite
  extract_lets -merge -underBinder +onlyGivenNames y1
  refine good_next ?_
  refine good_ite ?_ ?_
  · exact State.setRw_good g3
  · exact g3

theorem execAltPattern_good {x1} (g1 : State.Good q n x1) :
    State.GoodOut q n (execAltPattern x1) := by
  delta execAltPattern
  exact good_next (State.segAlt_good g1)

theorem execLossTStop_good {x1} (g1 : State.Good q n x1) :
    State.GoodOut q n (execLossTStop x1) := by
  delta execLossTStop
  refine good_next ?_
  refine good_ite ?_ ?_
  · exact State.lossStop_good g1
  · exact g1

theorem execSegmentSwap_good {x1} (g1 : State.Good q n x1) :
    State.GoodOut q n (execSegmentSwap x1) := by
  delta execSegmentSwap
  exact good_next (State.segSwap_good g1)

theorem execSegmentRestart_good {x1} (g1 : State.Good q n x1) :
    State.GoodOut q n (execSegmentRestart x1) := by
  delta execSegmentRestart
  exact good_next (State.segRestart_good g1)

theorem execSegWrite_good {x1} {x2} (g2 : State.Good q n x2) :
    State.GoodOut q n (execSegWrite x1 x2) := by
  delta execSegWrite
  refine good_next ?_
  refine State.command_good ?_ ?_
  · exact g2
  · intro x1 x3 x4 h2
    exact State.doSegWrite_good h2

theorem execVlcdLow_good {x1} (g1 : State.Good q n x1) :
    State.GoodOut q n (execVlcdLow x1) := by
  delta execVlcdLow
  exact good_next (State.vlcdLow_good g1)

theorem execDspLwWrite_good {x1} {x2} (g2 : State.Good q n x2) :
    State.GoodOut q n (execDspLwWrite x1 x2) := by
  delta execDspLwWrite
  refine good_next ?_
  refine State.command_good ?_ ?_
  · exact g2
  · intro x1 x3 x4 h2
    exact State.doDspLwWrite_good h2

theorem execDspWrite_good {x1} {x2} (g2 : State.Good q n x2) :
    State.GoodOut q n (execDspWrite x1 x2) := by
  delta execDspWrite
  refine good_next ?_
  refine State.command_good ?_ ?_
  · exact g2
  · intro x1 x3 x4 h2
    exact State.doDspWrite_good h2

theorem execSegShow_good {x1} {x2} (g2 : State.Good q n x2) :
    State.GoodOut q n (execSegShow x1 x2) := by
  delta execSegShow
  refine good_next ?_
  refine State.command_good ?_ ?_
  · exact g2
  · intro x1 x3 x4 h2
    exact State.doSegShow_good h2

theorem execDspFill_good {x1} {x2} (g2 : State.Good q n x2) :
    State.GoodOut q n (execDspFill x1 x2) := by
  delta execDspFill
  refine good_next ?_
  refine State.command_good ?_ ?_
  · exact g2
  · intro x1 x3 x4 h2
    exact State.doDspFill_good h2

theorem execDspPresent_good {x1} {x2} (g2 : State.Good q n x2) :
    State.GoodOut q n (execDspPresent x1 x2) := by
  delta execDspPresent
  refine good_next ?_
  refine State.command_good ?_ ?_
  · exact g2
  · intro x1 x3 x4 h2
    exact State.doDspPresent_good h2

theorem execDspMode_good {x1} {x2} (g2 : State.Good q n x2) :
    State.GoodOut q n (execDspMode x1 x2) := by
  delta execDspMode
  refine good_next ?_
  refine State.command_good ?_ ?_
  · exact g2
  · intro x1 x3 x4 h2
    exact State.doDspMode_good h2

theorem execVlcdLowEnd_good {x1} (g1 : State.Good q n x1) :
    State.GoodOut q n (execVlcdLowEnd x1) := by
  delta execVlcdLowEnd
  exact good_next (State.vlcdLow_good g1)

theorem execDischargeEnd_good {x1} (g1 : State.Good q n x1) :
    State.GoodOut q n (execDischargeEnd x1) := by
  delta execDischargeEnd
  exact good_next (State.dischargeEnd_good g1)

theorem execPanelPowerOnStep_good {x1} {x2} {x3} (g3 : State.Good q n x3) :
    State.GoodOut q n (execPanelPowerOnStep x1 x2 x3) := by
  delta execPanelPowerOnStep
  exact good_next (State.powerOnStep_good g3)

theorem execPowerGoodLow_good {x1} (g1 : State.Good q n x1) :
    State.GoodOut q n (execPowerGoodLow x1) := by
  delta execPowerGoodLow
  exact good_next (State.powerGoodLow_good g1)

theorem execAbruptOff_good {x1} (g1 : State.Good q n x1) :
    State.GoodOut q n (execAbruptOff x1) := by
  delta execAbruptOff
  exact good_next (State.abruptOff_good g1)

theorem execVsrcFail_good {x1} (g1 : State.Good q n x1) :
    State.GoodOut q n (execVsrcFail x1) := by
  delta execVsrcFail
  exact good_next (State.vsrcFail_good g1)

theorem execOrderlyOff_good {x1} (g1 : State.Good q n x1) :
    State.GoodOut q n (execOrderlyOff x1) := by
  delta execOrderlyOff
  exact good_next (State.orderlyStep_good g1)

theorem execPanelLapEdge_good {x1} (g1 : State.Good q n x1) :
    State.GoodOut q n (execPanelLapEdge x1) := by
  delta execPanelLapEdge
  exact good_next (State.panelLap_good g1)

theorem execDspPower_good {x1} {x2} (g2 : State.Good q n x2) :
    State.GoodOut q n (execDspPower x1 x2) := by
  delta execDspPower
  refine good_next ?_
  refine State.command_good ?_ ?_
  · exact g2
  · intro x1 x3 x4 h2
    exact State.doDspPower_good h2

/-! ### Spoke -/

theorem countIn_good {x1} (g1 : Channel.Good x1) :
    Channel.Good (countIn x1) := by
  delta countIn
  exact g1.of_eq rfl rfl

theorem State.infoClear_good {x1} {x2} (g1 : State.Good q n x1) :
    State.Good q n (State.infoClear x1 x2) := by
  delta State.infoClear
  extract_lets -merge -underBinder +onlyGivenNames y1 y2 y3
  have h4 : State.Good q n y3 := by subst y3; exact g1.of_eq rfl rfl rfl rfl rfl rfl rfl rfl rfl rfl rfl
  try clear_value y3
  refine State.modChan_good ?_ ?_
  · exact h4
  · intro x5 h6
    exact h6.of_eq rfl rfl

theorem State.baudChanges_good {x1} (g1 : State.Good q n x1) :
    State.Good q n (State.baudChanges x1) := by
  delta State.baudChanges
  split
  · exact g1
  · refine good_ite ?_ ?_
    · exact g1.of_eq rfl rfl rfl rfl rfl rfl rfl rfl rfl rfl rfl
    · exact g1

theorem State.spiPreamble_good {x1} (g1 : State.Good q n x1) :
    State.Good q n (State.spiPreamble x1).2 := by
  delta State.spiPreamble
  exact good_mk_snd (g1.of_eq rfl rfl rfl rfl rfl rfl rfl rfl rfl rfl rfl)

theorem State.hostFill_good {s k} (h : State.Good q n s) : State.Good q n (State.hostFill s k) := by
  induction k generalizing s with
  | zero => exact h
  | succ k ih =>
    unfold State.hostFill
    split
    · exact h
    · split
      · exact h
      · exact good_ite (ih (State.popOut_good (h.of_eq rfl rfl rfl rfl rfl rfl rfl rfl rfl rfl rfl))) h

theorem markStarted_good {x1} {x2} (g2 : Channel.Good x2) :
    Channel.Good (markStarted x1 x2) := by
  delta markStarted
  exact g2.of_eq rfl rfl

theorem State.txTake_good {x1} {x2} (g1 : State.Good q n x1) :
    State.Good q n (State.txTake x1 x2).2 := by
  delta State.txTake
  extract_lets -merge -underBinder +onlyGivenNames y1
  exact good_mk_snd (g1.of_eq rfl rfl rfl rfl rfl rfl rfl rfl rfl rfl rfl)

theorem State.irqUpdate_good {x1} (g1 : State.Good q n x1) :
    State.Good q n (State.irqUpdate x1) := by
  delta State.irqUpdate
  refine good_ite ?_ ?_
  · exact g1.of_eq rfl rfl rfl rfl rfl rfl rfl rfl rfl rfl rfl
  · exact g1

theorem State.uartSlot_good {x1} (g1 : State.Good q n x1) :
    State.Good q n (State.uartSlot x1) := by
  delta State.uartSlot
  refine good_ite ?_ ?_
  · extract_lets -merge -underBinder +onlyGivenNames y1
    have h2 : State.Good q n y1 := by
      subst y1
      refine good_ite ?_ ?_
      · exact State.txTake_good g1
      · exact g1
    try clear_value y1
    exact h2.of_eq rfl rfl rfl rfl rfl rfl rfl rfl rfl rfl rfl
  · exact g1

theorem State.enqueue_good {x1} {x2} (g1 : State.Good q n x1) :
    State.Good q n (State.enqueue x1 x2) := by
  delta State.enqueue
  extract_lets -merge -underBinder +onlyGivenNames y1
  have h2 : State.Good q n y1 := by
    subst y1
    refine good_ite ?_ ?_
    · exact State.helloAdmit_good g1
    · exact g1
  try clear_value y1
  refine State.modChan_good ?_ ?_
  · exact h2
  · intro x3 h4
    exact h4.of_eq rfl rfl

theorem State.spi_good {x1} {x2} (g1 : State.Good q n x1) (g2 : ∀ z1, State.Good q n z1 → State.Good q n (x2 z1).2) :
    State.Good q n (State.spi x1 x2) := by
  delta State.spi
  refine good_ite ?_ ?_
  · extract_lets -merge -underBinder +onlyGivenNames y1
    have h2 : State.Good q n y1.2 := by subst y1; exact State.spiPreamble_good g1
    try clear_value y1
    extract_lets -merge -underBinder +onlyGivenNames y3
    have h4 : State.Good q n y3.2 := by
      subst y3
      refine g2 _ ?_
      exact h2
    try clear_value y3
    extract_lets -merge -underBinder +onlyGivenNames y5
    have h6 : State.Good q n y5 := by subst y5; exact h4
    try clear_value y5
    exact h6.of_eq rfl rfl rfl rfl rfl rfl rfl rfl rfl rfl rfl
  · exact g1.of_eq rfl rfl rfl rfl rfl rfl rfl rfl rfl rfl rfl

theorem State.hostRx_good {x1} {x2} (g1 : State.Good q n x1) (g2 : ∀ z1, State.Good q n z1 → State.Good q n (x2 z1)) :
    State.Good q n (State.hostRx x1 x2) := by
  delta State.hostRx
  extract_lets -merge -underBinder +onlyGivenNames y1
  have h2 : State.Good q n y1 := by
    subst y1
    refine g2 _ ?_
    exact g1
  try clear_value y1
  refine good_ite ?_ ?_
  · exact h2.of_eq rfl rfl rfl rfl rfl rfl rfl rfl rfl rfl rfl
  · exact h2

theorem resetChan_good {c : Channel} : (resetChan c).Good := ⟨Nat.zero_le _, Nat.zero_le _, Nat.zero_le _, fun _ h => absurd h (List.not_mem_nil)⟩

theorem State.loudEnds_good {x1} {x2} (g1 : State.Good q n x1) :
    State.Good q n (State.loudEnds x1 x2) := by
  delta State.loudEnds
  refine good_ite ?_ ?_
  · exact g1.of_eq rfl rfl rfl rfl rfl rfl rfl rfl rfl rfl rfl
  · exact g1

theorem State.doSubscribe_good {x1} {x2} {x3} (g1 : State.Good q n x1) :
    State.Good q n (State.doSubscribe x1 x2 x3) := by
  delta State.doSubscribe
  extract_lets -merge -underBinder +onlyGivenNames y1
  refine State.checked_good ?_ ?_
  · exact g1
  · intro x2 h3
    refine State.modChan_good ?_ ?_
    · exact State.ok_good h3
    · intro x4 h5
      exact h5.of_eq rfl rfl

theorem State.doSessionOpen_good {x1} {x2} {x3} (g1 : State.Good q n x1) :
    State.Good q n (State.doSessionOpen x1 x2 x3) := by
  delta State.doSessionOpen
  refine State.checked_good ?_ ?_
  · exact g1
  · intro x1 h2
    extract_lets -merge -underBinder +onlyGivenNames y3
    have h6 : State.Good q n y3 := by
      subst y3
      refine State.modChan_good ?_ ?_
      · exact h2
      · intro x4 h5
        refine good_chan_ite ?_ ?_
        · exact h5
        · exact h5.of_eq rfl rfl
    try clear_value y3
    exact State.ok_good h6

theorem State.loudEnds_chans (s : State) (ch : Nat) : (s.loudEnds ch).spoke.chans = s.spoke.chans := by
  unfold State.loudEnds
  split <;> rfl

theorem State.sessionReset_good {s ch tag} (h : State.Good q n s) : State.Good q n (State.sessionReset s ch tag) := by
  unfold State.sessionReset
  extract_lets -merge -underBinder +onlyGivenNames c running spoke y
  have hy : State.Good q n y := h.of_eq rfl rfl rfl rfl rfl rfl rfl rfl rfl rfl rfl
  have h1 : State.Good q n (((y.updateReset ch).modChan ch resetChan).loudEnds ch) :=
    State.loudEnds_good (State.modChan_good (State.updateReset_good hy) fun _ _ => resetChan_good)
  refine State.modChan_good_at h1 ?_
  have e : (((y.updateReset ch).modChan ch resetChan).loudEnds ch).chan ch = resetChan ((y.updateReset ch).chan ch) := by
    unfold State.chan
    rw [State.loudEnds_chans]
    show mget {} (mmod {} _ ch resetChan) ch = _
    unfold mmod
    rw [mget_mput, if_pos rfl]
  rw [e]
  refine ⟨?_, ?_, ?_, post_keeps fun _ h => absurd h (List.not_mem_nil)⟩ <;> rw [post_outCount]
  · exact (by decide : 0 + 1 ≤ 16)
  · exact (by decide : 0 + 0 ≤ 15)
  · exact (by decide : 0 + 0 ≤ 1)

theorem State.spiWrite_good {x1} {x2} {x3} (g1 : State.Good q n x1) :
    State.Good q n (State.spiWrite x1 x2 x3) := by
  delta State.spiWrite
  extract_lets -merge -underBinder +onlyGivenNames y1
  refine State.spi_good ?_ ?_
  · exact g1
  · intro x2 h3
    refine good_mk_snd ?_
    refine good_ite ?_ ?_
    · exact h3.of_eq rfl rfl rfl rfl rfl rfl rfl rfl rfl rfl rfl
    · refine good_ite ?_ ?_
      · exact h3.of_eq rfl rfl rfl rfl rfl rfl rfl rfl rfl rfl rfl
      · refine State.hostRx_good ?_ ?_
        · exact h3
        · intro x4 h5
          exact State.rxBytes_good h5

theorem State.doSessionInfo_good {x1} {x2} {x3} (g1 : State.Good q n x1) :
    State.Good q n (State.doSessionInfo x1 x2 x3) := by
  delta State.doSessionInfo
  refine State.checked_good ?_ ?_
  · exact g1
  · intro x1 h2
    extract_lets -merge -underBinder +onlyGivenNames y3
    have h4 : Channel.Good y3 := by subst y3; exact State.chan_good (q := q) (n := n) h2
    try clear_value y3
    extract_lets -merge -underBinder +onlyGivenNames y5 y6 y7 y8
    refine State.ok_good ?_
    refine State.when_good ?_ ?_
    · exact h2
    · intro x9 h10
      exact State.infoClear_good h10

theorem State.resetSession_good {x1} {x2} (g1 : State.Good q n x1) :
    State.Good q n (State.resetSession x1 x2) := by
  delta State.resetSession
  refine good_ite ?_ ?_
  · exact State.sessionReset_good g1
  · exact State.reject_good g1

theorem State.spiRead_good {x1} {x2} {x3} (g1 : State.Good q n x1) :
    State.Good q n (State.spiRead x1 x2 x3) := by
  delta State.spiRead
  refine State.spi_good ?_ ?_
  · exact g1
  · intro x1 h2
    extract_lets -merge -underBinder +onlyGivenNames y3 y4
    have h5 : State.Good q n y4.2 := by subst y4; exact State.txTake_good h2
    try clear_value y4
    exact good_mk_snd h5

theorem State.uartByte_good {x1} {x2} (g1 : State.Good q n x1) :
    State.Good q n (State.uartByte x1 x2) := by
  delta State.uartByte
  refine State.hostRx_good ?_ ?_
  · exact g1
  · intro x1 h2
    refine good_ite ?_ ?_
    · exact State.rxDiscard_good h2
    · exact State.rxBytes_good h2

theorem State.doHostBaud_good {x1} {x2} {x3} (g1 : State.Good q n x1) :
    State.Good q n (State.doHostBaud x1 x2 x3) := by
  delta State.doHostBaud
  refine State.checked_good ?_ ?_
  · exact g1
  · intro x1 h2
    extract_lets -merge -underBinder +onlyGivenNames y3
    have h4 : State.Good q n y3 := by subst y3; exact State.ok_good h2
    try clear_value y3
    exact h4.of_eq rfl rfl rfl rfl rfl rfl rfl rfl rfl rfl rfl

theorem State.framingDiscard_good {x1} {x2} (g1 : State.Good q n x1) :
    State.Good q n (State.framingDiscard x1 x2) := by
  delta State.framingDiscard
  extract_lets -merge -underBinder +onlyGivenNames y1
  exact State.setRx_good g1

theorem State.closeChan_good {x1} {x2} (g1 : State.Good q n x1) :
    State.Good q n (State.closeChan x1 x2) := by
  delta State.closeChan
  refine State.loudEnds_good ?_
  refine State.modChan_good ?_ ?_
  · exact g1
  · intro x1 h2
    exact h2.of_eq rfl rfl

theorem State.doHubReset_good {x1} {x2} {x3} (g1 : State.Good q n x1) :
    State.Good q n (State.doHubReset x1 x2 x3) := by
  delta State.doHubReset
  extract_lets -merge -underBinder +onlyGivenNames y1
  refine State.checked_good ?_ ?_
  · exact g1
  · intro x2 h3
    extract_lets -merge -underBinder +onlyGivenNames y4
    have h5 : State.Good q n y4 := by subst y4; exact State.ok_good h3
    try clear_value y4
    exact h5.of_eq rfl rfl rfl rfl rfl rfl rfl rfl rfl rfl rfl

theorem State.spiFlush_good {x1} (g1 : State.Good q n x1) :
    State.Good q n (State.spiFlush x1) := by
  delta State.spiFlush
  refine State.spi_good ?_ ?_
  · exact g1
  · intro x1 h2
    exact good_mk_snd (State.setRx_good h2)

theorem State.doPing_good {x1} {x2} {x3} (g1 : State.Good q n x1) :
    State.Good q n (State.doPing x1 x2 x3) := by
  delta State.doPing
  refine State.checked_good ?_ ?_
  · exact g1
  · intro x1 h2
    exact State.ok_good h2

theorem State.received_good {x1} {x2} {x3} (g1 : State.Good q n x1) :
    State.Good q n (State.received x1 x2 x3) := by
  delta State.received
  split
  · refine good_ite ?_ ?_
    · exact g1
    · refine good_ite ?_ ?_
      · refine State.each_good ?_ ?_
        · exact g1
        · intro x1 x3 h2
          exact State.uartByte_good h2
      · refine good_ite ?_ ?_
        · refine State.hostRx_good ?_ ?_
          · exact g1
          · intro x4 h5
            exact State.rxBytes_good h5
        · exact g1
  · refine good_ite ?_ ?_
    · refine State.each_good ?_ ?_
      · exact g1
      · intro x6 x8 h7
        exact State.spokePush_good h7
    · exact g1
  · refine good_ite ?_ ?_
    · exact State.modBus_good (State.rxBytes_good g1)
    · exact g1

theorem State.baudReverts_good {x1} (g1 : State.Good q n x1) :
    State.Good q n (State.baudReverts x1) := by
  delta State.baudReverts
  split
  · exact g1
  · refine good_ite ?_ ?_
    · exact State.framingDiscard_good (g1.of_eq rfl rfl rfl rfl rfl rfl rfl rfl rfl rfl rfl)
    · exact g1

theorem State.admitFrame_good {x1} {x2} {x3} (g1 : State.Good q n x1) :
    State.Good q n (State.admitFrame x1 x2 x3) := by
  delta State.admitFrame
  refine good_ite ?_ ?_
  · exact State.framingDiscard_good g1
  · extract_lets -merge -underBinder +onlyGivenNames y1
    refine good_ite ?_ ?_
    · exact State.reject_good g1
    · extract_lets -merge -underBinder +onlyGivenNames y2
      have h5 : State.Good q n y2 := by
        subst y2
        refine good_ite ?_ ?_
        · refine State.modChan_good ?_ ?_
          · exact g1
          · intro x3 h4
            exact countIn_good h4
        · exact g1
      try clear_value y2
      extract_lets -merge -underBinder +onlyGivenNames y6
      refine good_ite ?_ ?_
      · exact State.reject_good h5
      · refine good_ite ?_ ?_
        · exact State.sessionReset_good h5
        · exact State.enqueue_good h5

theorem State.doSessionClose_good {x1} {x2} {x3} (g1 : State.Good q n x1) :
    State.Good q n (State.doSessionClose x1 x2 x3) := by
  delta State.doSessionClose
  refine State.checked_good ?_ ?_
  · exact g1
  · intro x1 h2
    refine good_ite ?_ ?_
    · exact State.finish_good h2
    · exact State.closeChan_good (State.ok_good h2)

theorem State.admitNext_good {x1} {x2} (g1 : State.Good q n x1) :
    State.Good q n (State.admitNext x1 x2) := by
  delta State.admitNext
  extract_lets -merge -underBinder +onlyGivenNames y1
  split
  · exact g1
  · exact State.admitFrame_good (State.setRx_good g1)

theorem State.admitAll_good {x1} {x2} (g1 : State.Good q n x1) :
    State.Good q n (State.admitAll x1 x2) := by
  delta State.admitAll
  refine times_good ?_ ?_
  · intro x1 h2
    exact State.admitNext_good h2
  · exact g1

theorem State.hubResetStarts_good {x1} (g1 : State.Good q n x1) :
    State.Good q n (State.hubResetStarts x1) := by
  delta State.hubResetStarts
  split
  · exact g1
  · refine good_ite ?_ ?_
    · exact State.hubReset_good (g1.of_eq rfl rfl rfl rfl rfl rfl rfl rfl rfl rfl rfl)
    · exact g1

theorem State.hostSvc_good {x1} (g1 : State.Good q n x1) :
    State.Good q n (State.hostSvc x1) := by
  delta State.hostSvc
  extract_lets -merge -underBinder +onlyGivenNames y1
  have h5 : State.Good q n y1 := by
    subst y1
    refine good_ite ?_ ?_
    · refine State.each_good ?_ ?_
      · exact g1
      · intro x2 x4 h3
        exact State.admitAll_good h3
    · exact g1
  try clear_value y1
  extract_lets -merge -underBinder +onlyGivenNames y6
  have h7 : State.Good q n y6 := by subst y6; exact State.spokeFill_good (State.hostFill_good h5)
  try clear_value y6
  exact h7.of_eq rfl rfl rfl rfl rfl rfl rfl rfl rfl rfl rfl

theorem State.perform_good {x1} {x2} {x3} (g1 : State.Good q n x1) :
    State.Good q n (State.perform x1 x2 x3) := by
  delta State.perform
  split
  · exact State.doSessionOpen_good g1
  · exact State.doSessionClose_good g1
  · exact State.doHubReset_good g1
  · exact State.doSubscribe_good g1
  · exact State.doPing_good g1
  · exact State.doHostBaud_good g1
  · exact State.doSessionInfo_good g1
  · exact State.doAttrRead_good g1
  · exact State.doAttrWrite_good g1
  · exact State.doAttrReadMulti_good g1
  · exact State.doAttrModify_good g1
  · exact State.doAttrInfo_good g1
  · exact State.doZonHold_good g1
  · exact State.doZonSchedWrite_good g1
  · exact State.doZonSchedRead_good g1
  · exact State.doZonRemoteT_good g1
  · exact State.doZonWindow_good g1
  · exact State.doZonPresence_good g1
  · exact State.doZonSave_good g1
  · exact State.doZonEvtRead_good g1
  · exact State.doZonLoopReset_good g1
  · exact State.doPwmGroupCtl_good g1
  · exact State.doPwmLoadAll_good g1
  · exact State.doPwmSync_good g1
  · exact State.doPwmClrLatch_good g1
  · exact State.actPlace_good g1
  · exact State.actPlace_good g1
  · exact State.actPlace_good g1
  · exact State.actPlace_good g1
  · exact State.actPlace_good g1
  · exact State.actPlace_good g1
  · exact State.doActSave_good g1
  · exact State.doAdcConvert_good g1
  · exact State.doAdcSave_good g1
  · exact State.doPwrSetMode_good g1
  · exact State.doPwrSubsysReset_good g1
  · exact State.doThmFloor_good g1
  · exact State.doPadStage_good g1
  · exact State.doPadCommit_good g1
  · exact State.doPadCancel_good g1
  · exact State.doPadProof_good g1
  · exact State.doPadRestart_good g1
  · exact State.doBusPortCtl_good g1
  · exact State.doBusTx_good g1
  · exact State.doBusGpRestart_good g1
  · exact State.doBusGpPdu_good g1
  · exact State.doBusSave_good g1
  · exact State.doHayRead_good g1
  · exact State.doHayWrite_good g1
  · exact State.doHayLogRead_good g1
  · exact State.doHayLogAppend_good g1
  · exact State.doHayLogFlush_good g1
  · exact State.doHayOdInc_good g1
  · exact State.doStbLoadBegin_good g1
  · exact State.doStbLoadData_good g1
  · exact State.doStbLoadEnd_good g1
  · exact State.doStbTaskStart_good g1
  · exact State.doStbTaskStop_good g1
  · exact State.doStbFeed_good g1
  · exact State.doDspPower_good g1
  · exact State.doDspWrite_good g1
  · exact State.doDspFill_good g1
  · exact State.doDspPresent_good g1
  · exact State.doDspLwWrite_good g1
  · exact State.doDspMode_good g1
  · exact State.doSegWrite_good g1
  · exact State.doSegShow_good g1
  · exact State.doSecHello_good g1
  · exact State.doSecAuth_good g1
  · exact State.doSecPair_good g1
  · exact State.doSecKey_good g1
  · exact State.doSecCrypt_good g1
  · exact State.doSecLifecycle_good g1
  · exact State.doSecUpdate_good g1
  · exact State.doSecRandom_good g1
  · exact State.doDbgReadMode_good g1
  · exact State.finish_good g1

theorem State.runChannel_good {s ch k} (h : State.Good q n s) : State.Good q n (State.runChannel s ch k) := by
  induction k generalizing s with
  | zero => exact h
  | succ k ih =>
    unfold State.runChannel
    split
    · exact h
    · exact ih (State.perform_good (State.modChan_good h fun _ hx => hx.of_eq rfl rfl))

theorem State.spokeRun_good {x1} (g1 : State.Good q n x1) :
    State.Good q n (State.spokeRun x1) := by
  delta State.spokeRun
  refine good_ite ?_ ?_
  · extract_lets -merge -underBinder +onlyGivenNames y1
    have h5 : State.Good q n y1 := by
      subst y1
      refine State.each_good ?_ ?_
      · exact g1
      · intro x2 x4 h3
        refine good_ite ?_ ?_
        · exact State.runChannel_good h3
        · exact h3
    try clear_value y1
    refine good_ite ?_ ?_
    · exact State.consoleRun_good h5
    · exact h5
  · exact g1

/-! ### Jobs -/

theorem State.panelReleases_good {x1} (g1 : State.Good q n x1) :
    State.Good q n (State.panelReleases x1) := by
  delta State.panelReleases
  refine good_ite ?_ ?_
  · extract_lets -merge -underBinder +onlyGivenNames y1
    have h2 : State.Good q n y1 := by subst y1; exact State.escEnd_good g1
    try clear_value y1
    exact h2.of_eq rfl rfl rfl rfl rfl rfl rfl rfl rfl rfl rfl
  · exact g1

theorem State.escAdmitted_good {x1} {x2} (g1 : State.Good q n x1) :
    State.Good q n (State.escAdmitted x1 x2) := by
  delta State.escAdmitted
  split
  · exact g1.of_eq rfl rfl rfl rfl rfl rfl rfl rfl rfl rfl rfl
  · exact State.reversalAdmitted_good g1
  · exact State.burnAdmitted_good g1
  · exact g1
  · exact g1

theorem State.panelReserve_good {x1} (g1 : State.Good q n x1) :
    State.Good q n (State.panelReserve x1) := by
  delta State.panelReserve
  refine good_ite ?_ ?_
  · exact State.event_good (State.abruptOff_good (State.wr_good g1))
  · exact g1

theorem State.gaugeRun_good {x1} (g1 : State.Good q n x1) :
    State.Good q n (State.gaugeRun x1) := by
  delta State.gaugeRun
  extract_lets -merge -underBinder +onlyGivenNames y1
  have h2 : State.Good q n y1.1 := by subst y1; exact State.gauge_good (State.hayPresent_good (State.panelReserve_good (State.panelReleases_good g1)))
  try clear_value y1
  refine State.each_good ?_ ?_
  · exact h2
  · intro x3 x5 h4
    exact State.escAdmitted_good h4

theorem State.coreFires_good {x1} {x2} (g1 : State.Good q n x1) :
    State.Good q n (State.coreFires x1 x2) := by
  delta State.coreFires
  refine good_ite ?_ ?_
  · exact State.runEnd_good g1
  · exact g1

theorem State.hskRun_good {x1} {x2} (g1 : State.Good q n x1) :
    State.Good q n (State.hskRun x1 x2) := by
  delta State.hskRun
  extract_lets -merge -underBinder +onlyGivenNames y1
  have h2 : State.Good q n y1 := by
    subst y1
    refine good_ite ?_ ?_
    · exact State.groomSweep_good g1
    · exact g1
  try clear_value y1
  extract_lets -merge -underBinder +onlyGivenNames y3
  have h7 : State.Good q n y3 := by
    subst y3
    refine good_ite ?_ ?_
    · refine State.each_good ?_ ?_
      · exact h2
      · intro x4 x6 h5
        exact State.groomRepair_good h5
    · exact h2
  try clear_value y3
  refine good_ite ?_ ?_
  · exact State.thmEval_good h7
  · exact h7

theorem execTickGuardFire_good {x1} {x2} (g2 : State.Good q n x2) :
    State.GoodOut q n (execTickGuardFire x1 x2) := by
  delta execTickGuardFire
  refine good_next ?_
  split
  · exact State.coreFires_good g2
  · exact State.coreFires_good g2
  · refine good_ite ?_ ?_
    · exact State.guardAdc_good g2
    · exact g2
  · refine good_ite ?_ ?_
    · exact State.guardStb_good g2
    · exact g2

theorem State.jobWork_good {x1} {x2} {x3} (g1 : State.Good q n x1) :
    State.Good q n (State.jobWork x1 x2 x3) := by
  delta State.jobWork
  split
  · exact State.fltSvc_good g1
  · exact State.sptSvc_good g1
  · exact State.gaugeRun_good g1
  · exact State.adcRes_good g1
  · exact State.adcRes_good g1
  · exact State.zonSvc_good g1
  · refine good_ite ?_ ?_
    · exact State.zonLoop_good g1
    · exact State.zonSvc_good g1
  · exact State.actCmd_good g1
  · exact State.actUpd_good g1
  · exact State.padXch_good g1
  · exact State.hostSvc_good g1
  · exact State.spokeRun_good g1
  · exact State.busRun_good g1
  · exact State.busRun_good g1
  · exact State.logSvc_good g1
  · exact State.secAdvance_good (State.haySvc_good g1)
  · exact State.dspSvc_good g1
  · exact State.stbSvc_good g1
  · exact State.hskRun_good g1
  · exact g1

theorem State.jobCommit_good {x1} {x2} {x3} (g1 : State.Good q n x1) :
    State.Good q n (State.jobCommit x1 x2 x3) := by
  delta State.jobCommit
  refine good_ite ?_ ?_
  · split
    · exact g1
    · exact State.runDone_good (State.jobWork_good g1)
  · exact g1

theorem execJobCommit_good {x1} {x2} {x3} (g3 : State.Good q n x3) :
    State.GoodOut q n (execJobCommit x1 x2 x3) := by
  delta execJobCommit
  exact good_next (State.jobCommit_good g3)

/-! ### Sequencer -/

theorem State.whileWalking_good {x1} {x2} (g1 : State.Good q n x1) (g2 : ∀ z1, State.Good q n z1 → State.Good q n (x2 z1)) :
    State.Good q n (State.whileWalking x1 x2) := by
  delta State.whileWalking
  refine good_ite ?_ ?_
  · refine g2 _ ?_
    exact g1
  · exact g1

theorem execSlotTableReload_good {x1} (g1 : State.Good q n x1) :
    State.GoodOut q n (execSlotTableReload x1) := by
  delta execSlotTableReload
  exact good_next (State.tableReload_good g1)

theorem execSlotTableSwap_good {x1} (g1 : State.Good q n x1) :
    State.GoodOut q n (execSlotTableSwap x1) := by
  delta execSlotTableSwap
  exact good_next (State.tableSwap_good g1)

theorem State.helloTick_good {x1} (g1 : State.Good q n x1) :
    State.Good q n (State.helloTick x1) := by
  delta State.helloTick
  refine State.each_good ?_ ?_
  · exact g1
  · intro x1 x3 h2
    refine good_ite ?_ ?_
    · exact State.lockoutEnd_good (State.helloLapse_good h2)
    · exact h2

theorem State.adcSlot_good {x1} (g1 : State.Good q n x1) :
    State.Good q n (State.adcSlot x1) := by
  delta State.adcSlot
  refine good_ite ?_ ?_
  · exact State.reserveUnits_good g1
  · refine good_ite ?_ ?_
    · exact State.releaseUnits_good g1
    · exact g1

theorem State.panelSlot_good {x1} {x2} (g1 : State.Good q n x1) :
    State.Good q n (State.panelSlot x1 x2) := by
  delta State.panelSlot
  extract_lets -merge -underBinder +onlyGivenNames y1
  have h2 : State.Good q n y1 := by subst y1; exact State.dspLevels_good g1
  try clear_value y1
  refine good_ite ?_ ?_
  · exact State.orderlyStep_good h2
  · exact h2

theorem State.aonEdge_good {x1} {x2} (g1 : State.Good q n x1) :
    State.Good q n (State.aonEdge x1 x2) := by
  delta State.aonEdge
  extract_lets -merge -underBinder +onlyGivenNames y1
  have h2 : State.Good q n y1 := by
    subst y1
    refine good_ite ?_ ?_
    · exact State.thmCommit_good (State.ksCommit_good g1)
    · exact g1
  try clear_value y1
  extract_lets -merge -underBinder +onlyGivenNames y3
  have h4 : State.Good q n y3 := by
    subst y3
    refine good_ite ?_ ?_
    · exact State.segLap_good h2
    · exact h2
  try clear_value y3
  extract_lets -merge -underBinder +onlyGivenNames y5
  have h6 : State.Good q n y5 := by
    subst y5
    refine good_ite ?_ ?_
    · exact State.segTick_good h4
    · exact h4
  try clear_value y5
  extract_lets -merge -underBinder +onlyGivenNames y7
  have h8 : State.Good q n y7 := by
    subst y7
    refine good_ite ?_ ?_
    · exact State.wake_good (State.segStage_good h6)
    · exact h6
  try clear_value y7
  exact State.rampSlot_good (State.hubFaultEdge_good h8)

theorem State.tickEdge_good {x1} (g1 : State.Good q n x1) :
    State.Good q n (State.tickEdge x1) := by
  delta State.tickEdge
  extract_lets -merge -underBinder +onlyGivenNames y1
  have h2 : State.Good q n y1 := by subst y1; exact State.watchTick_good (State.pfTick_good g1)
  try clear_value y1
  extract_lets -merge -underBinder +onlyGivenNames y3
  have h4 : State.Good q n y3 := by subst y3; exact State.helloTick_good (State.busTick_good (State.devTick_good (State.adcTick_good h2)))
  try clear_value y3
  exact State.thermStop_good (State.fw2ClockStop_good (State.fw2PwmStop_good (State.escTimeouts_good h4)))

theorem State.guardEdge_good {x1} (g1 : State.Good q n x1) :
    State.Good q n (State.guardEdge x1) := by
  delta State.guardEdge
  extract_lets -merge -underBinder +onlyGivenNames y1 y2
  have h3 : State.Good q n y2 := by subst y2; exact State.guardAdc_good (State.guardCores_good g1)
  try clear_value y2
  refine good_ite ?_ ?_
  · refine State.each_good ?_ ?_
    · exact State.stbClose_good (State.guardStb_good h3)
    · intro x4 x6 h5
      exact State.scrubTick_good h5
  · exact h3

theorem State.raiseGo_good {x1} {x2} {x3} (g1 : State.Good q n x1) :
    State.Good q n (State.raiseGo x1 x2 x3) := by
  delta State.raiseGo
  extract_lets -merge -underBinder +onlyGivenNames y1 y2 y3
  have h4 : State.Good q n y3 := by
    subst y3
    refine good_ite ?_ ?_
    · exact g1.of_eq rfl rfl rfl rfl rfl rfl rfl rfl rfl rfl rfl
    · exact g1
  try clear_value y3
  extract_lets -merge -underBinder +onlyGivenNames y5
  have h6 : State.Good q n y5 := by
    subst y5
    refine good_ite ?_ ?_
    · exact State.seqStart_good h4
    · exact h4
  try clear_value y5
  extract_lets -merge -underBinder +onlyGivenNames y7
  have h8 : State.Good q n y7 := by
    subst y7
    refine good_ite ?_ ?_
    · exact State.seqStart_good h6
    · exact h6
  try clear_value y7
  extract_lets -merge -underBinder +onlyGivenNames y9
  have h10 : State.Good q n y9 := by
    subst y9
    refine good_ite ?_ ?_
    · exact State.portsGo_good h8
    · exact h8
  try clear_value y9
  extract_lets -merge -underBinder +onlyGivenNames y11
  have h12 : State.Good q n y11 := by subst y11; exact State.stbRelease_good h10
  try clear_value y11
  extract_lets -merge -underBinder +onlyGivenNames y13 y14
  have h15 : State.Good q n y14 := by
    subst y14
    refine good_ite ?_ ?_
    · exact h12.of_eq rfl rfl rfl rfl rfl rfl rfl rfl rfl rfl rfl
    · exact h10
  try clear_value y14
  extract_lets -merge -underBinder +onlyGivenNames y16
  have h17 : State.Good q n y16 := by
    subst y16
    refine good_ite ?_ ?_
    · exact State.hayGo_good h15
    · exact h15
  try clear_value y16
  extract_lets -merge -underBinder +onlyGivenNames y18
  have h19 : State.Good q n y18 := by
    subst y18
    refine good_ite ?_ ?_
    · exact State.gaugeSample_good h17
    · exact h17
  try clear_value y18
  extract_lets -merge -underBinder +onlyGivenNames y20
  have h21 : State.Good q n y20 := by
    subst y20
    refine good_ite ?_ ?_
    · exact State.thmRead_good h19
    · exact h19
  try clear_value y20
  refine good_ite ?_ ?_
  · exact h21.of_eq rfl rfl rfl rfl rfl rfl rfl rfl rfl rfl rfl
  · exact h21

theorem State.slotBegins_good {x1} {x2} (g1 : State.Good q n x1) :
    State.Good q n (State.slotBegins x1 x2) := by
  delta State.slotBegins
  extract_lets -merge -underBinder +onlyGivenNames y1
  have h2 : State.Good q n y1.2 := by subst y1; exact State.slotEntry_good g1
  try clear_value y1
  extract_lets -merge -underBinder +onlyGivenNames y3
  have h4 : State.Good q n y3 := by subst y3; exact State.adcSlot_good h2
  try clear_value y3
  extract_lets -merge -underBinder +onlyGivenNames y5
  have h6 : State.Good q n y5 := by subst y5; exact State.coreHalts_good (State.coreHalts_good (State.raiseGo_good h4))
  try clear_value y5
  exact State.dispatch_good (State.dispatch_good h6)

theorem State.lapEdge_good {x1} {x2} {x3} (g1 : State.Good q n x1) :
    State.Good q n (State.lapEdge x1 x2 x3) := by
  delta State.lapEdge
  extract_lets -merge -underBinder +onlyGivenNames y1
  have h2 : State.Good q n y1 := by subst y1; exact State.tableSwap_good (State.dspLapEdge_good g1)
  try clear_value y1
  extract_lets -merge -underBinder +onlyGivenNames y3
  have h4 : State.Good q n y3 := by subst y3; exact State.powerOnStep_good (State.panelLap_good h2)
  try clear_value y3
  exact State.modeEntry_good (State.cacheSwitch_good (State.thmLap_good h4))

theorem State.cadenceStarts_good {x1} (g1 : State.Good q n x1) :
    State.Good q n (State.cadenceStarts x1) := by
  delta State.cadenceStarts
  extract_lets -merge -underBinder +onlyGivenNames y1
  have h2 : State.Good q n y1 := by subst y1; exact State.tickEdge_good g1
  try clear_value y1
  extract_lets -merge -underBinder +onlyGivenNames y3
  have h6 : State.Good q n y3 := by
    subst y3
    refine State.whileWalking_good ?_ ?_
    · exact h2
    · intro x4 h5
      refine good_ite ?_ ?_
      · exact State.lapEdge_good (State.segLap_good h5)
      · exact h5
  try clear_value y3
  refine State.whileWalking_good ?_ ?_
  · exact h6
  · intro x7 h8
    exact State.slotBegins_good h8

theorem State.stageWork_good {x1} {x2} {x3} {x4} {x5} (g1 : State.Good q n x1) :
    State.Good q n (State.stageWork x1 x2 x3 x4 x5) := by
  delta State.stageWork
  refine good_ite ?_ ?_
  · exact g1
  · extract_lets -merge -underBinder +onlyGivenNames y1 y2
    have h3 : State.Good q n y2 := by subst y2; exact State.trimStage_good (g1.of_eq rfl rfl rfl rfl rfl rfl rfl rfl rfl rfl rfl)
    try clear_value y2
    extract_lets -merge -underBinder +onlyGivenNames y4
    have h5 : State.Good q n y4 := by subst y4; exact State.reseed_good (State.tableReload_good h3)
    try clear_value y4
    extract_lets -merge -underBinder +onlyGivenNames y6
    have h7 : State.Good q n y6 := by
      subst y6
      refine good_ite ?_ ?_
      · exact State.entropyRecovered_good h5
      · exact State.entropyFailed_good h5
    try clear_value y6
    extract_lets -merge -underBinder +onlyGivenNames y8
    have h9 : State.Good q n y8 := by subst y8; exact State.devStage_good (State.busStage_good (State.pairExpire_good (State.trialStage_good h7)))
    try clear_value y8
    extract_lets -merge -underBinder +onlyGivenNames y10
    have h14 : State.Good q n y10 := by
      subst y10
      refine State.each_good ?_ ?_
      · exact h9
      · intro x11 x13 h12
        exact State.fanStage_good h12
    try clear_value y10
    exact State.limpHoldExpire_good (State.consoleStage_good (State.streakClear_good (State.fltStage_good (State.zonStage_good h14))))

theorem State.slotWork_good {x1} (g1 : State.Good q n x1) :
    State.Good q n (State.slotWork x1) := by
  delta State.slotWork
  extract_lets -merge -underBinder +onlyGivenNames y1
  have h2 : State.Good q n y1 := by subst y1; exact State.consoleWatch_good (State.pfStart_good (State.debugSlot_good (State.unitEffects_good g1)))
  try clear_value y1
  extract_lets -merge -underBinder +onlyGivenNames y3
  have h4 : State.Good q n y3 := by
    subst y3
    refine good_ite ?_ ?_
    · exact h2
    · exact State.irqUpdate_good h2
  try clear_value y3
  exact State.hubResetStarts_good (State.baudReverts_good (State.baudChanges_good h4))

theorem execStageEdge_good {x1} {x2} {x3} {x4} (g4 : State.Good q n x4) :
    State.GoodOut q n (execStageEdge x1 x2 x3 x4) := by
  delta execStageEdge
  refine good_next ?_
  refine State.whileWalking_good ?_ ?_
  · exact g4
  · intro x1 h2
    refine good_ite ?_ ?_
    · exact State.stageWork_good h2
    · exact h2

theorem State.edges_good {x1} {x2} (g1 : State.Good q n x1) :
    State.Good q n (State.edges x1 x2) := by
  delta State.edges
  extract_lets -merge -underBinder +onlyGivenNames y1
  have h2 : State.Good q n y1 := by
    subst y1
    refine good_ite ?_ ?_
    · exact State.tickEdge_good g1
    · exact g1
  try clear_value y1
  extract_lets -merge -underBinder +onlyGivenNames y3
  have h6 : State.Good q n y3 := by
    subst y3
    refine State.whileWalking_good ?_ ?_
    · exact h2
    · intro x4 h5
      refine good_ite ?_ ?_
      · exact State.lapEdge_good h5
      · exact h5
  try clear_value y3
  refine State.whileWalking_good ?_ ?_
  · exact h6
  · intro x7 h8
    refine good_ite ?_ ?_
    · exact State.stageWork_good h8
    · exact h8

theorem State.controllerEdge_good {x1} {x2} (g1 : State.Good q n x1) :
    State.Good q n (State.controllerEdge x1 x2) := by
  delta State.controllerEdge
  extract_lets -merge -underBinder +onlyGivenNames y1
  have h2 : State.Good q n y1 := by subst y1; exact State.guardEdge_good g1
  try clear_value y1
  extract_lets -merge -underBinder +onlyGivenNames y3
  have h6 : State.Good q n y3 := by
    subst y3
    refine State.whileWalking_good ?_ ?_
    · exact h2
    · intro x4 h5
      exact State.slotWork_good h5
  try clear_value y3
  extract_lets -merge -underBinder +onlyGivenNames y7
  have h10 : State.Good q n y7 := by
    subst y7
    refine State.whileWalking_good ?_ ?_
    · exact h6
    · intro x8 h9
      exact State.panelSlot_good h9
  try clear_value y7
  extract_lets -merge -underBinder +onlyGivenNames y11
  have h14 : State.Good q n y11 := by
    subst y11
    refine State.whileWalking_good ?_ ?_
    · exact h10
    · intro x12 h13
      exact State.edges_good h13
  try clear_value y11
  refine State.whileWalking_good ?_ ?_
  · exact h14
  · intro x15 h16
    exact State.slotBegins_good h16

theorem State.stallSlot_good {x1} (g1 : State.Good q n x1) :
    State.Good q n (State.stallSlot x1) := by
  delta State.stallSlot
  refine good_ite ?_ ?_
  · exact State.stallSpan_good g1
  · exact g1

theorem State.doneIn_good {x1} {x2} {x3} (g1 : State.Good q n x1) :
    State.Good q n (State.doneIn x1 x2 x3) := by
  delta State.doneIn
  split
  · exact g1
  · exact State.jobCommit_good g1

theorem State.slotEnds_good {x1} {x2} (g1 : State.Good q n x1) :
    State.Good q n (State.slotEnds x1 x2) := by
  delta State.slotEnds
  exact State.stallSlot_good (State.pwmSlot_good (State.gsnsSlot_good (State.doneIn_good (State.doneIn_good g1))))

/-! ### SpokeCommands -/

theorem execUartCtsHigh_good {x1} (g1 : State.Good q n x1) :
    State.GoodOut q n (execUartCtsHigh x1) := by
  delta execUartCtsHigh
  refine good_next ?_
  refine good_ite ?_ ?_
  · exact g1.of_eq rfl rfl rfl rfl rfl rfl rfl rfl rfl rfl rfl
  · exact g1

theorem execSpiStatus_good {x1} (g1 : State.Good q n x1) :
    State.GoodOut q n (execSpiStatus x1) := by
  delta execSpiStatus
  refine good_next ?_
  refine State.spi_good ?_ ?_
  · exact g1
  · intro x1 h2
    exact good_mk_snd h2

theorem execEventsLost_good {x1} {x2} (g2 : State.Good q n x2) :
    State.GoodOut q n (execEventsLost x1 x2) := by
  delta execEventsLost
  refine good_next ?_
  refine State.modChan_good ?_ ?_
  · exact g2
  · intro x1 h2
    exact lostReport_good h2

theorem execConsoleOpen_good {x1} (g1 : State.Good q n x1) :
    State.GoodOut q n (execConsoleOpen x1) := by
  delta execConsoleOpen
  exact good_next (State.consoleOpens_good g1)

theorem execSubscribe_good {x1} {x2} (g2 : State.Good q n x2) :
    State.GoodOut q n (execSubscribe x1 x2) := by
  delta execSubscribe
  refine good_next ?_
  refine State.command_good ?_ ?_
  · exact g2
  · intro x1 x3 x4 h2
    exact State.doSubscribe_good h2

theorem execUartByteGapTimeout_good {x1} (g1 : State.Good q n x1) :
    State.GoodOut q n (execUartByteGapTimeout x1) := by
  delta execUartByteGapTimeout
  refine good_next ?_
  refine good_ite ?_ ?_
  · exact State.rxDiscard_good g1
  · exact g1

theorem execHubReset_good {x1} {x2} (g2 : State.Good q n x2) :
    State.GoodOut q n (execHubReset x1 x2) := by
  delta execHubReset
  refine good_next ?_
  refine State.command_good ?_ ?_
  · exact g2
  · intro x1 x3 x4 h2
    exact State.doHubReset_good h2

theorem execHostBaud_good {x1} {x2} (g2 : State.Good q n x2) :
    State.GoodOut q n (execHostBaud x1 x2) := by
  delta execHostBaud
  refine good_next ?_
  refine State.command_good ?_ ?_
  · exact g2
  · intro x1 x3 x4 h2
    exact State.doHostBaud_good h2

theorem execSessionInfo_good {x1} {x2} (g2 : State.Good q n x2) :
    State.GoodOut q n (execSessionInfo x1 x2) := by
  delta execSessionInfo
  refine good_next ?_
  refine State.command_good ?_ ?_
  · exact g2
  · intro x1 x3 x4 h2
    exact State.doSessionInfo_good h2

theorem execSpiFlush_good {x1} (g1 : State.Good q n x1) :
    State.GoodOut q n (execSpiFlush x1) := by
  delta execSpiFlush
  exact good_next (State.spiFlush_good g1)

theorem execSpiWrite_good {x1} {x2} {x3} (g3 : State.Good q n x3) :
    State.GoodOut q n (execSpiWrite x1 x2 x3) := by
  delta execSpiWrite
  exact good_next (State.spiWrite_good g3)

theorem execPing_good {x1} {x2} (g2 : State.Good q n x2) :
    State.GoodOut q n (execPing x1 x2) := by
  delta execPing
  refine good_next ?_
  refine State.command_good ?_ ?_
  · exact g2
  · intro x1 x3 x4 h2
    exact State.doPing_good h2

theorem execSessionOpen_good {x1} {x2} (g2 : State.Good q n x2) :
    State.GoodOut q n (execSessionOpen x1 x2) := by
  delta execSessionOpen
  refine good_next ?_
  refine State.command_good ?_ ?_
  · exact g2
  · intro x1 x3 x4 h2
    exact State.doSessionOpen_good h2

theorem execSpiRead_good {x1} {x2} {x3} (g3 : State.Good q n x3) :
    State.GoodOut q n (execSpiRead x1 x2 x3) := by
  delta execSpiRead
  exact good_next (State.spiRead_good g3)

theorem execSessionReset_good {x1} {x2} (g2 : State.Good q n x2) :
    State.GoodOut q n (execSessionReset x1 x2) := by
  delta execSessionReset
  exact good_next (State.resetSession_good g2)

theorem execFrameReceive_good {x1} {x2} {x3} (g3 : State.Good q n x3) :
    State.GoodOut q n (execFrameReceive x1 x2 x3) := by
  delta execFrameReceive
  exact good_next (State.received_good g3)

theorem execSessionClose_good {x1} {x2} (g2 : State.Good q n x2) :
    State.GoodOut q n (execSessionClose x1 x2) := by
  delta execSessionClose
  refine good_next ?_
  refine State.command_good ?_ ?_
  · exact g2
  · intro x1 x3 x4 h2
    exact State.doSessionClose_good h2

theorem execHostBaudRevert_good {x1} (g1 : State.Good q n x1) :
    State.GoodOut q n (execHostBaudRevert x1) := by
  delta execHostBaudRevert
  exact good_next (State.baudReverts_good g1)

theorem execHubResetStart_good {x1} (g1 : State.Good q n x1) :
    State.GoodOut q n (execHubResetStart x1) := by
  delta execHubResetStart
  exact good_next (State.hubResetStarts_good g1)

theorem execFrameAdmission_good {x1} {x2} (g2 : State.Good q n x2) :
    State.GoodOut q n (execFrameAdmission x1 x2) := by
  delta execFrameAdmission
  refine good_next ?_
  refine good_ite ?_ ?_
  · exact State.admitNext_good g2
  · exact g2

theorem execConsoleClose_good {x1} (g1 : State.Good q n x1) :
    State.GoodOut q n (execConsoleClose x1) := by
  delta execConsoleClose
  refine good_next ?_
  refine good_ite ?_ ?_
  · exact State.consoleCloses_good g1
  · exact g1

theorem execConsoleIdleTimeout_good {x1} (g1 : State.Good q n x1) :
    State.GoodOut q n (execConsoleIdleTimeout x1) := by
  delta execConsoleIdleTimeout
  refine good_next ?_
  refine good_ite ?_ ?_
  · exact State.consoleCloses_good g1
  · exact g1

theorem execConsoleKey_good {x1} {x2} (g2 : State.Good q n x2) :
    State.GoodOut q n (execConsoleKey x1 x2) := by
  delta execConsoleKey
  exact good_next (State.consoleKeyed_good g2)

end Sys2Proof.Machine
end

