-- ==== Sys2Proof/Laws/Clock.lean ====
section
/-!
SUPPORT. Sys2Proof/Laws/Clock.lean: the operations that move the count of slot edges (R14, R33, R34, R38): by how much, and that
they keep the queue and the invariant.
-/

namespace Sys2Proof.Machine

variable {q : List Instr} {n m : Nat} {s : State}

/-- Power-on reset starts the count at 0 (R38, Table 1-10). -/
theorem State.aonPowerUp_moves (h : State.Good q n s) : State.Good q 0 s.aonPowerUp := by
  unfold State.aonPowerUp
  extract_lets -merge -underBinder +onlyGivenNames p y1 y2 y3 y4
  have h1 : State.Good q n y1 := h.of_eq rfl rfl rfl rfl rfl rfl rfl rfl rfl rfl rfl
  have h2 : State.Good q n y2 := State.hubReset_good h1
  clear_value y2
  have h3 : State.Good q n y3 := State.segPowerUp_good (State.each_good h2 fun _ _ => State.clearAttr_good)
  clear_value y3
  have h4 : State.Good q n y4 := State.each_good h3 fun t i ht => State.modLog_good ht fun _ hx => hx.of_eq rfl
  clear_value y4
  exact ((h4.withZones (m := []) fun _ h => absurd h (List.not_mem_nil)).withNow (m := 0)).of_eq
    rfl rfl rfl rfl rfl rfl rfl rfl rfl rfl rfl

/-- The first tick starts at a tick edge (R106). -/
theorem State.firstTickRun_moves {l : List Nat} (h : State.Good q n s) : State.Good q ((n + 31) / 32 * 32) (s.firstTickRun l) := by
  unfold State.firstTickRun
  extract_lets -merge -underBinder +onlyGivenNames c p y1 y2 y3 y4 y5 y6
  have h1 : State.Good q ((n + 31) / 32 * 32) y1 :=
    (h.withNow (m := (n + 31) / 32 * 32)).of_eq rfl (by rw [← h.now]) rfl rfl rfl rfl rfl rfl rfl rfl rfl
  clear_value y1
  have h2 := State.each_good (l := l) h1 fun t a ht => State.gaugeSample_good (x2 := a) ht
  have h3 : State.Good q _ y3 := State.when_good (State.sessionsBoot_good h2) fun _ ht => State.aonLose_good ht
  clear_value y3
  have h4 : State.Good q _ y4 := State.recallTold_good (State.each_good h3 fun _ _ ht => State.resetLost_good ht)
  clear_value y4
  have h5 : State.Good q _ y5 := State.record_good h4
  clear_value y5
  have h6 : State.Good q _ y6 := State.stbBoot_good (State.brokenTold_good (State.secFirstTick_good (State.fltFirstTick_good
    (State.firstOdometers_good h5))))
  clear_value y6
  exact State.portsBoot_good (State.groupsBoot_good (State.firstRelease_good h6))

/-- The sequencer resumes at the next tick edge of the always-on count (R34). -/
theorem State.fw2Resume_moves {slots : Nat} {rings : List (BitVec 12)} (h : State.Good q n s) :
    State.Good q (if s.pwr.fwStep = 5 ∧ s.pwr.wakeDue ∧ !s.pwr.held then (n + slots + 31) / 32 * 32 else n) (s.fw2Resume slots rings) := by
  unfold State.fw2Resume
  by_cases hc : s.pwr.fwStep = 5 ∧ s.pwr.wakeDue ∧ !s.pwr.held
  · rw [if_pos hc, if_pos hc]
    extract_lets -merge -underBinder +onlyGivenNames now lvl c p a y1 y2 th y3 m pw y4
    have h1 : State.Good q ((n + slots + 31) / 32 * 32) y1 :=
      (h.withNow (m := (n + slots + 31) / 32 * 32)).of_eq rfl (by rw [← h.now]) rfl rfl rfl rfl rfl rfl rfl rfl rfl
    clear_value y1
    have h2 : State.Good q _ y2 := State.stbOn_good (State.thmFirst_good (State.wrs_good h1))
    clear_value y2
    have h3 : State.Good q _ y3 := State.forceOff_good (State.forceOff_good (State.pwmRestart_good
      (h2.of_eq rfl rfl rfl rfl rfl rfl rfl rfl rfl rfl rfl)))
    clear_value y3
    have h4 : State.Good q _ y4 := State.each_good (h3.of_eq rfl rfl rfl rfl rfl rfl rfl rfl rfl rfl rfl)
      fun _ _ ht => State.grpEnable_good ht
    clear_value y4
    exact good_ite (State.pfPrepare_good h4) h4
  · rw [if_neg hc, if_neg hc]; exact h

/-- Every slot edge counts one (R14, R33). -/
theorem State.slotEdge_moves {i : SlotIn} (h : State.Good q n s) : State.Good q (n + 1) (s.slotEdge i) := by
  unfold State.slotEdge
  extract_lets -merge -underBinder +onlyGivenNames y1 posted c y2
  have h1 : State.Good q n y1 := State.uartSlot_good (State.whileWalking_good h fun _ ht => State.slotEnds_good ht)
  clear_value y1
  have h2 : State.Good q (n + 1) y2 := State.aonEdge_good ((h1.withNow (m := n + 1)).of_eq rfl (by rw [← h1.now])
    rfl rfl rfl rfl rfl rfl rfl rfl rfl)
  exact State.whileWalking_good h2 fun _ ht => State.controllerEdge_good ht

end Sys2Proof.Machine
end

