-- ==== Sys2Proof/Laws/Frame.lean ====
section
/-!
SUPPORT. Sys2Proof/Laws/Frame.lean: which parts of the state an operation can change. The other files of this group say it of
one operation after another.
-/

namespace Sys2Proof.Machine

/-- Every part of one list is in another. -/
def Covers (a l : List Part) : Prop := ∀ p ∈ a, p ∈ l

theorem Covers.sub {a b l : List Part} (h : Covers b l) (e : (a.all fun p => b.contains p) = true) : Covers a l := fun p hp =>
  h p (by simpa using List.all_eq_true.mp e p hp)

/-- What an outcome leaves as it was. -/
def State.FrameOut (l : List Part) (s : State) (o : Host.Outcome State Fault Refusal) : Prop := ∃ t, o = .next t ∧ State.Frame l s t

variable {l : List Part} {z s t : State}

theorem State.Frame.refl : State.Frame l s s := fun p _ => by cases p <;> rfl

theorem State.same.trans {p : Part} (h : State.same p z s) (g : State.same p s t) : State.same p z t := by
  cases p <;> exact Eq.trans g h

theorem State.Frame.trans (h : State.Frame l z s) (g : State.Frame l s t) : State.Frame l z t := fun p hp => (h p hp).trans (g p hp)

theorem State.Frame.mono {a : List Part} (h : State.Frame a s t) (hl : Covers a l) : State.Frame l s t := fun p hp =>
  h p fun ha => hp (hl p ha)

theorem State.Frame.pending (h : State.Frame l z s) (hl : Part.pending ∈ l) {v} : State.Frame l z { s with pending := v } := fun p hp => by
  cases p <;> first | exact h _ hp | exact absurd hl hp

theorem State.Frame.regs (h : State.Frame l z s) (hl : Part.regs ∈ l) {v} : State.Frame l z { s with regs := v } := fun p hp => by
  cases p <;> first | exact h _ hp | exact absurd hl hp

theorem State.Frame.free (h : State.Frame l z s) (hl : Part.free ∈ l) {v} : State.Frame l z { s with free := v } := fun p hp => by
  cases p <;> first | exact h _ hp | exact absurd hl hp

theorem State.Frame.cad (h : State.Frame l z s) (hl : Part.cad ∈ l) {v} : State.Frame l z { s with cad := v } := fun p hp => by
  cases p <;> first | exact h _ hp | exact absurd hl hp

theorem State.Frame.pwr (h : State.Frame l z s) (hl : Part.pwr ∈ l) {v} : State.Frame l z { s with pwr := v } := fun p hp => by
  cases p <;> first | exact h _ hp | exact absurd hl hp

theorem State.Frame.spoke (h : State.Frame l z s) (hl : Part.spoke ∈ l) {v} : State.Frame l z { s with spoke := v } := fun p hp => by
  cases p <;> first | exact h _ hp | exact absurd hl hp

theorem State.Frame.host (h : State.Frame l z s) (hl : Part.host ∈ l) {v} : State.Frame l z { s with host := v } := fun p hp => by
  cases p <;> first | exact h _ hp | exact absurd hl hp

theorem State.Frame.console (h : State.Frame l z s) (hl : Part.console ∈ l) {v} : State.Frame l z { s with console := v } := fun p hp => by
  cases p <;> first | exact h _ hp | exact absurd hl hp

theorem State.Frame.zones (h : State.Frame l z s) (hl : Part.zones ∈ l) {v} : State.Frame l z { s with zones := v } := fun p hp => by
  cases p <;> first | exact h _ hp | exact absurd hl hp

theorem State.Frame.pwm (h : State.Frame l z s) (hl : Part.pwm ∈ l) {v} : State.Frame l z { s with pwm := v } := fun p hp => by
  cases p <;> first | exact h _ hp | exact absurd hl hp

theorem State.Frame.act (h : State.Frame l z s) (hl : Part.act ∈ l) {v} : State.Frame l z { s with act := v } := fun p hp => by
  cases p <;> first | exact h _ hp | exact absurd hl hp

theorem State.Frame.adc (h : State.Frame l z s) (hl : Part.adc ∈ l) {v} : State.Frame l z { s with adc := v } := fun p hp => by
  cases p <;> first | exact h _ hp | exact absurd hl hp

theorem State.Frame.pad (h : State.Frame l z s) (hl : Part.pad ∈ l) {v} : State.Frame l z { s with pad := v } := fun p hp => by
  cases p <;> first | exact h _ hp | exact absurd hl hp

theorem State.Frame.bus (h : State.Frame l z s) (hl : Part.bus ∈ l) {v} : State.Frame l z { s with bus := v } := fun p hp => by
  cases p <;> first | exact h _ hp | exact absurd hl hp

theorem State.Frame.hay (h : State.Frame l z s) (hl : Part.hay ∈ l) {v} : State.Frame l z { s with hay := v } := fun p hp => by
  cases p <;> first | exact h _ hp | exact absurd hl hp

theorem State.Frame.stb (h : State.Frame l z s) (hl : Part.stb ∈ l) {v} : State.Frame l z { s with stb := v } := fun p hp => by
  cases p <;> first | exact h _ hp | exact absurd hl hp

theorem State.Frame.dsp (h : State.Frame l z s) (hl : Part.dsp ∈ l) {v} : State.Frame l z { s with dsp := v } := fun p hp => by
  cases p <;> first | exact h _ hp | exact absurd hl hp

theorem State.Frame.seg (h : State.Frame l z s) (hl : Part.seg ∈ l) {v} : State.Frame l z { s with seg := v } := fun p hp => by
  cases p <;> first | exact h _ hp | exact absurd hl hp

theorem State.Frame.thm (h : State.Frame l z s) (hl : Part.thm ∈ l) {v} : State.Frame l z { s with thm := v } := fun p hp => by
  cases p <;> first | exact h _ hp | exact absurd hl hp

theorem State.Frame.sec (h : State.Frame l z s) (hl : Part.sec ∈ l) {v} : State.Frame l z { s with sec := v } := fun p hp => by
  cases p <;> first | exact h _ hp | exact absurd hl hp

theorem State.Frame.flt (h : State.Frame l z s) (hl : Part.flt ∈ l) {v} : State.Frame l z { s with flt := v } := fun p hp => by
  cases p <;> first | exact h _ hp | exact absurd hl hp

theorem State.Frame.dbg (h : State.Frame l z s) (hl : Part.dbg ∈ l) {v} : State.Frame l z { s with dbg := v } := fun p hp => by
  cases p <;> first | exact h _ hp | exact absurd hl hp

theorem State.Frame.upd {m : List Part} (h : State.Frame l z s) (hl : Covers m l) (e : State.Frame m s t) : State.Frame l z t :=
  h.trans (e.mono hl)

theorem frame_next (h : State.Frame l z s) : State.FrameOut l z (.next s) := ⟨s, rfl, h⟩

theorem frame_ite {c : Prop} {_ : Decidable c} {a b : State} (h : State.Frame l z a) (g : State.Frame l z b) :
    State.Frame l z (if c then a else b) := by split <;> assumption

theorem frame_out_ite {c : Prop} {_ : Decidable c} {a b : Host.Outcome State Fault Refusal} (h : State.FrameOut l z a)
    (g : State.FrameOut l z b) : State.FrameOut l z (if c then a else b) := by split <;> assumption

theorem frame_fst_ite {β : Type} {c : Prop} {_ : Decidable c} {a b : State × β} (h : State.Frame l z a.1) (g : State.Frame l z b.1) :
    State.Frame l z (if c then a else b).1 := by split <;> assumption

theorem frame_snd_ite {β : Type} {c : Prop} {_ : Decidable c} {a b : β × State} (h : State.Frame l z a.2) (g : State.Frame l z b.2) :
    State.Frame l z (if c then a else b).2 := by split <;> assumption

theorem frame_mk_fst {β : Type} {b : β} (h : State.Frame l z s) : State.Frame l z (s, b).1 := h

theorem frame_mk_snd {β : Type} {b : β} (h : State.Frame l z s) : State.Frame l z (b, s).2 := h

theorem frame_mk_snd_fst {β γ : Type} {b : β} {p : State × γ} (h : State.Frame l z p.1) : State.Frame l z (b, p).2.1 := h

theorem frame_mk_snd_snd {β γ : Type} {b : β} {p : γ × State} (h : State.Frame l z p.2) : State.Frame l z (b, p).2.2 := h

theorem frame_foldl {α : Type} {m : List α} {f : State → α → State} (h : State.Frame l z s)
    (hf : ∀ t a, State.Frame l z t → State.Frame l z (f t a)) : State.Frame l z (m.foldl f s) := by
  induction m generalizing s with
  | nil => exact h
  | cons x rest ih => exact ih (hf s x h)

theorem frame_foldl_fst {α β : Type} {m : List α} {f : State × β → α → State × β} {p : State × β} (h : State.Frame l z p.1)
    (hf : ∀ t a, State.Frame l z t.1 → State.Frame l z (f t a).1) : State.Frame l z (m.foldl f p).1 := by
  induction m generalizing p with
  | nil => exact h
  | cons x rest ih => exact ih (hf p x h)

theorem frame_foldl_snd {α β : Type} {m : List α} {f : β × State → α → β × State} {p : β × State} (h : State.Frame l z p.2)
    (hf : ∀ t a, State.Frame l z t.2 → State.Frame l z (f t a).2) : State.Frame l z (m.foldl f p).2 := by
  induction m generalizing p with
  | nil => exact h
  | cons x rest ih => exact ih (hf p x h)

theorem frame_foldl_snd_snd {α β γ : Type} {m : List α} {f : β × γ × State → α → β × γ × State} {p : β × γ × State}
    (h : State.Frame l z p.2.2) (hf : ∀ t a, State.Frame l z t.2.2 → State.Frame l z (f t a).2.2) :
    State.Frame l z (m.foldl f p).2.2 := by
  induction m generalizing p with
  | nil => exact h
  | cons x rest ih => exact ih (hf p x h)

theorem State.each_frame {α : Type} {m : List α} {f : State → α → State} (h : State.Frame l z s)
    (hf : ∀ t a, State.Frame l z t → State.Frame l z (f t a)) : State.Frame l z (s.each m f) := frame_foldl h hf

theorem State.when_frame {c : Bool} {f : State → State} (h : State.Frame l z s)
    (hf : ∀ t, State.Frame l z t → State.Frame l z (f t)) : State.Frame l z (s.when c f) := frame_ite (hf s h) h

theorem times_frame {k : Nat} {f : State → State} (hf : ∀ t, State.Frame l z t → State.Frame l z (f t)) (h : State.Frame l z s) :
    State.Frame l z (times k f s) := by
  induction k generalizing s with
  | zero => exact h
  | succ k ih => exact ih (hf s h)

end Sys2Proof.Machine
end

