-- ==== Sys2Proof/Laws/Frame1.lean ====
section
/-!
SUPPORT. Sys2Proof/Laws/Frame1.lean: the operations of Ops, Escrow, Hayloft, Zones, Command, Pwm and the parts
of the state they can change.
-/

namespace Sys2Proof.Machine

variable {l : List Part} {z : State}

/-! ### Ops -/

theorem State.modLog_frame {x1} {x2} {x3} (hl : Covers [.hay] l) (g1 : State.Frame l z x1) :
    State.Frame l z (State.modLog x1 x2 x3) := by
  delta State.modLog
  exact g1.hay (hl .hay (by decide))

theorem State.clearAttr_frame {x1} {x2} (hl : Covers [.regs] l) (g1 : State.Frame l z x1) :
    State.Frame l z (State.clearAttr x1 x2) := by
  delta State.clearAttr
  exact g1.regs (hl .regs (by decide))

theorem State.modChan_frame {x1} {x2} {x3} (hl : Covers [.spoke] l) (g1 : State.Frame l z x1) :
    State.Frame l z (State.modChan x1 x2 x3) := by
  delta State.modChan
  exact g1.spoke (hl .spoke (by decide))

theorem State.reject_frame {x1} {x2} {x3} {x4} {x5} (hl : Covers [.spoke] l) (g1 : State.Frame l z x1) :
    State.Frame l z (State.reject x1 x2 x3 x4 x5) := by
  delta State.reject
  exact State.modChan_frame (hl.sub rfl) g1

theorem State.wr_frame {x1} {x2} {x3} (hl : Covers [.regs] l) (g1 : State.Frame l z x1) :
    State.Frame l z (State.wr x1 x2 x3) := by
  delta State.wr
  exact g1.regs (hl .regs (by decide))

theorem State.accepted_frame {x1} {x2} {x3} (hl : Covers [.spoke] l) (g1 : State.Frame l z x1) :
    State.Frame l z (State.accepted x1 x2 x3) := by
  delta State.accepted
  refine frame_ite ?_ ?_
  · exact State.modChan_frame (hl.sub rfl) g1
  · exact g1

theorem State.draw_frame {x1} {x2} (hl : Covers [.free] l) (g1 : State.Frame l z x1) :
    State.Frame l z (State.draw x1 x2).2 := by
  delta State.draw
  exact frame_mk_snd (g1.free (hl .free (by decide)))

theorem State.postFinal_frame {x1} {x2} {x3} (hl : Covers [.spoke] l) (g1 : State.Frame l z x1) :
    State.Frame l z (State.postFinal x1 x2 x3) := by
  delta State.postFinal
  exact State.modChan_frame (hl.sub rfl) g1

theorem State.finish_frame {x1} {x2} {x3} {x4} (hl : Covers [.spoke, .flt] l) (g1 : State.Frame l z x1) :
    State.Frame l z (State.finish x1 x2 x3 x4) := by
  delta State.finish
  refine frame_ite ?_ ?_
  · exact g1.spoke (hl .spoke (by decide))
  · refine frame_ite ?_ ?_
    · exact g1.flt (hl .flt (by decide))
    · exact State.postFinal_frame (hl.sub rfl) g1

theorem State.wrs_frame {x1} {x2} (hl : Covers [.regs] l) (g1 : State.Frame l z x1) :
    State.Frame l z (State.wrs x1 x2) := by
  delta State.wrs
  refine frame_foldl ?_ ?_
  · exact g1
  · intro x1 x3 h2
    exact State.wr_frame (hl.sub rfl) h2

theorem State.record_frame {x1} {x2} {x3} {x4} (hl : Covers [.hay] l) (g1 : State.Frame l z x1) :
    State.Frame l z (State.record x1 x2 x3 x4) := by
  delta State.record
  exact State.modLog_frame (hl.sub rfl) g1

theorem State.event_frame {x1} {x2} {x3} (hl : Covers [.spoke] l) (g1 : State.Frame l z x1) :
    State.Frame l z (State.event x1 x2 x3) := by
  delta State.event
  refine State.each_frame ?_ ?_
  · exact g1
  · intro x1 x3 h2
    refine frame_ite ?_ ?_
    · exact State.modChan_frame (hl.sub rfl) h2
    · exact h2

theorem State.hubFault_frame {x1} {x2} {x3} {x4} {x5} {x6} {x7} (hl : Covers [.regs, .flt] l) (g1 : State.Frame l z x1) :
    State.Frame l z (State.hubFault x1 x2 x3 x4 x5 x6 x7) := by
  delta State.hubFault
  refine frame_ite ?_ ?_
  · exact g1
  · extract_lets -merge -underBinder +onlyGivenNames y1 y2
    have h3 : State.Frame l z y2 := by subst y2; exact State.wrs_frame (hl.sub rfl) g1
    try clear_value y2
    extract_lets -merge -underBinder +onlyGivenNames y4 y5
    exact h3.flt (hl .flt (by decide))

theorem State.finish?_frame {x1} {x2} {x3} {x4} (hl : Covers [.spoke, .flt] l) (g1 : State.Frame l z x1) :
    State.Frame l z (State.finish? x1 x2 x3 x4) := by
  delta State.finish?
  split
  · exact g1
  · exact State.finish_frame (hl.sub rfl) g1

theorem State.wrap_frame {x1} {x2} {x3} {x4} (hl : Covers [.regs] l) (g1 : State.Frame l z x1) :
    State.Frame l z (State.wrap x1 x2 x3 x4) := by
  delta State.wrap
  exact State.wr_frame (hl.sub rfl) g1

theorem State.count_frame {x1} {x2} {x3} {x4} (hl : Covers [.regs] l) (g1 : State.Frame l z x1) :
    State.Frame l z (State.count x1 x2 x3 x4) := by
  delta State.count
  exact State.wr_frame (hl.sub rfl) g1

theorem State.setRw_frame {x1} {x2} {x3} (hl : Covers [.regs] l) (g1 : State.Frame l z x1) :
    State.Frame l z (State.setRw x1 x2 x3) := by
  delta State.setRw
  split
  · exact g1
  · refine State.each_frame ?_ ?_
    · exact g1
    · intro x1 x3 h2
      exact State.wr_frame (hl.sub rfl) h2

theorem State.note_frame {x1} {x2} {x3} {x4} {x5} (hl : Covers [.spoke] l) (g1 : State.Frame l z x1) :
    State.Frame l z (State.note x1 x2 x3 x4 x5) := by
  delta State.note
  exact State.event_frame (hl.sub rfl) g1

theorem State.latchFault_frame {x1} {x2} (hl : Covers [.regs] l) (g1 : State.Frame l z x1) :
    State.Frame l z (State.latchFault x1 x2) := by
  delta State.latchFault
  extract_lets -merge -underBinder +onlyGivenNames y1
  have h2 : State.Frame l z y1 := by
    subst y1
    refine frame_ite ?_ ?_
    · exact g1
    · exact State.wrs_frame (hl.sub rfl) g1
  try clear_value y1
  refine frame_ite ?_ ?_
  · exact h2
  · exact State.wrs_frame (hl.sub rfl) h2

theorem State.wrB_frame {x1} {x2} {x3} (hl : Covers [.regs] l) (g1 : State.Frame l z x1) :
    State.Frame l z (State.wrB x1 x2 x3) := by
  delta State.wrB
  exact State.wr_frame (hl.sub rfl) g1

theorem State.secNote_frame {x1} {x2} {x3} {x4} (hl : Covers [.spoke] l) (g1 : State.Frame l z x1) :
    State.Frame l z (State.secNote x1 x2 x3 x4) := by
  delta State.secNote
  exact State.event_frame (hl.sub rfl) g1

theorem State.ok_frame {x1} {x2} {x3} (hl : Covers [.spoke, .flt] l) (g1 : State.Frame l z x1) :
    State.Frame l z (State.ok x1 x2 x3) := by
  delta State.ok
  exact State.finish_frame (hl.sub rfl) g1

theorem State.setImage_frame {x1} {x2} {x3} (hl : Covers [.regs] l) (g1 : State.Frame l z x1) :
    State.Frame l z (State.setImage x1 x2 x3) := by
  delta State.setImage
  refine frame_foldl_fst ?_ ?_
  · exact frame_mk_fst g1
  · intro x1 x3 h2
    exact frame_mk_fst (State.setRw_frame (hl.sub rfl) h2)

theorem State.enqueueFault_frame {x1} {x2} (hl : Covers [.regs, .flt] l) (g1 : State.Frame l z x1) :
    State.Frame l z (State.enqueueFault x1 x2) := by
  delta State.enqueueFault
  extract_lets -merge -underBinder +onlyGivenNames y1
  refine frame_ite ?_ ?_
  · exact g1.flt (hl .flt (by decide))
  · extract_lets -merge -underBinder +onlyGivenNames y2
    have h3 : State.Frame l z y2 := by subst y2; exact State.count_frame (hl.sub rfl) g1
    try clear_value y2
    refine frame_ite ?_ ?_
    · exact h3.flt (hl .flt (by decide))
    · exact h3

theorem State.fault_frame {x1} {x2} {x3} {x4} {x5} {x6} {x7} (hl : Covers [.regs, .flt] l) (g1 : State.Frame l z x1) :
    State.Frame l z (State.fault x1 x2 x3 x4 x5 x6 x7) := by
  delta State.fault
  refine frame_ite ?_ ?_
  · exact g1
  · extract_lets -merge -underBinder +onlyGivenNames y1
    exact State.enqueueFault_frame (hl.sub rfl) (State.latchFault_frame (hl.sub rfl) g1)

theorem State.recert_frame {x1} (hl : Covers [.regs, .spoke, .flt] l) (g1 : State.Frame l z x1) :
    State.Frame l z (State.recert x1) := by
  delta State.recert
  extract_lets -merge -underBinder +onlyGivenNames y1
  refine frame_ite ?_ ?_
  · exact g1
  · extract_lets -merge -underBinder +onlyGivenNames y2
    have h3 : State.Frame l z y2 := by subst y2; exact State.secNote_frame (hl.sub rfl) (State.wrB_frame (hl.sub rfl) g1)
    try clear_value y2
    refine frame_ite ?_ ?_
    · exact h3
    · exact State.fault_frame (hl.sub rfl) h3

/-! ### Escrow -/

theorem State.escAsk_frame {x1} {x2} {x3} {x4} (hl : Covers [.pwr] l) (g1 : State.Frame l z x1) :
    State.Frame l z (State.escAsk x1 x2 x3 x4) := by
  delta State.escAsk
  exact g1.pwr (hl .pwr (by decide))

theorem judge_frame {s m} (hl : Covers [.pwr] l) (h : State.Frame l z s) : State.Frame l z (judge s m).1 := by
  induction m generalizing s with
  | nil => exact h
  | cons r rest ih =>
    unfold judge
    exact frame_fst_ite (ih (h.pwr (hl .pwr (by decide)))) (ih h)

theorem State.escEnd_frame {x1} {x2} (hl : Covers [.pwr] l) (g1 : State.Frame l z x1) :
    State.Frame l z (State.escEnd x1 x2) := by
  delta State.escEnd
  exact g1.pwr (hl .pwr (by decide))

theorem State.gaugeSample_frame {x1} {x2} (hl : Covers [.regs, .pwr] l) (g1 : State.Frame l z x1) :
    State.Frame l z (State.gaugeSample x1 x2) := by
  delta State.gaugeSample
  extract_lets -merge -underBinder +onlyGivenNames y1
  have h2 : State.Frame l z y1 := by subst y1; exact State.wr_frame (hl.sub rfl) g1
  try clear_value y1
  exact h2.pwr (hl .pwr (by decide))

theorem State.gauge_frame {x1} (hl : Covers [.regs, .pwr] l) (g1 : State.Frame l z x1) :
    State.Frame l z (State.gauge x1).1 := by
  delta State.gauge
  extract_lets -merge -underBinder +onlyGivenNames y1
  have h2 : State.Frame l z y1.1 := by subst y1; exact judge_frame (hl.sub rfl) g1
  try clear_value y1
  extract_lets -merge -underBinder +onlyGivenNames y3 y4
  have h5 : State.Frame l z y4 := by subst y4; exact h2
  try clear_value y4
  extract_lets -merge -underBinder +onlyGivenNames y6
  have h9 : State.Frame l z y6 := by
    subst y6
    refine State.when_frame ?_ ?_
    · exact h5
    · intro x7 h8
      exact State.count_frame (hl.sub rfl) h8
  try clear_value y6
  extract_lets -merge -underBinder +onlyGivenNames y10
  have h13 : State.Frame l z y10 := by
    subst y10
    refine State.when_frame ?_ ?_
    · exact h9
    · intro x11 h12
      exact State.count_frame (hl.sub rfl) h12
  try clear_value y10
  extract_lets -merge -underBinder +onlyGivenNames y14
  have h17 : State.Frame l z y14 := by
    subst y14
    refine State.when_frame ?_ ?_
    · exact h13
    · intro x15 h16
      exact State.count_frame (hl.sub rfl) h16
  try clear_value y14
  extract_lets -merge -underBinder +onlyGivenNames y18
  have h21 : State.Frame l z y18 := by
    subst y18
    refine State.when_frame ?_ ?_
    · exact h17
    · intro x19 h20
      exact State.wr_frame (hl.sub rfl) h20
  try clear_value y18
  exact frame_mk_fst h21

/-! ### Hayloft -/

theorem State.hayGo_frame {x1} (hl : Covers [.hay] l) (g1 : State.Frame l z x1) :
    State.Frame l z (State.hayGo x1) := by
  delta State.hayGo
  split
  · exact g1
  · refine frame_ite ?_ ?_
    · exact g1
    · exact g1.hay (hl .hay (by decide))

theorem State.hayLoad_frame {x1} {x2} {x3} {x4} {x5} {x6} (hl : Covers [.regs, .hay] l) (g1 : State.Frame l z x1) :
    State.Frame l z (State.hayLoad x1 x2 x3 x4 x5 x6) := by
  delta State.hayLoad
  extract_lets -merge -underBinder +onlyGivenNames y1
  have h2 : State.Frame l z y1 := by
    subst y1
    split
    · exact State.modLog_frame (hl.sub rfl) g1
    · exact State.modLog_frame (hl.sub rfl) g1
    · exact g1
  try clear_value y1
  extract_lets -merge -underBinder +onlyGivenNames y3
  have h4 : State.Frame l z y3 := by subst y3; exact State.wr_frame (hl.sub rfl) h2
  try clear_value y3
  exact h4.hay (hl .hay (by decide))

theorem State.hayFix_frame {x1} (hl : Covers [.hay] l) (g1 : State.Frame l z x1) :
    State.Frame l z (State.hayFix x1) := by
  delta State.hayFix
  split
  · exact g1.hay (hl .hay (by decide))
  · exact g1

theorem State.schedFail_frame {x1} {x2} (hl : Covers [.spoke, .hay, .flt] l) (g1 : State.Frame l z x1) :
    State.Frame l z (State.schedFail x1 x2) := by
  delta State.schedFail
  split
  · exact g1
  · extract_lets -merge -underBinder +onlyGivenNames y1 y2
    have h3 : State.Frame l z y2 := by subst y2; exact g1.hay (hl .hay (by decide))
    try clear_value y2
    exact State.finish_frame (hl.sub rfl) h3

theorem State.recordsCommitted_frame {x1} {x2} {x3} (hl : Covers [.regs] l) (g1 : State.Frame l z x1) :
    State.Frame l z (State.recordsCommitted x1 x2 x3) := by
  delta State.recordsCommitted
  refine State.each_frame ?_ ?_
  · exact g1
  · intro x1 x3 h2
    extract_lets -merge -underBinder +onlyGivenNames y4 y5
    refine frame_ite ?_ ?_
    · exact State.wr_frame (hl.sub rfl) h2
    · refine frame_ite ?_ ?_
      · exact State.wr_frame (hl.sub rfl) h2
      · refine frame_ite ?_ ?_
        · exact State.wr_frame (hl.sub rfl) h2
        · exact h2

theorem State.hayPresent_frame {x1} (hl : Covers [.pwr, .hay] l) (g1 : State.Frame l z x1) :
    State.Frame l z (State.hayPresent x1) := by
  delta State.hayPresent
  extract_lets -merge -underBinder +onlyGivenNames y1
  have h2 : State.Frame l z y1 := by subst y1; exact State.hayFix_frame (hl.sub rfl) g1
  try clear_value y1
  split
  · split
    · refine frame_ite ?_ ?_
      · exact h2
      · exact h2.pwr (hl .pwr (by decide))
    · exact h2
  · exact h2

theorem State.secCommitted_frame {x1} {x2} (hl : Covers [.sec] l) (g1 : State.Frame l z x1) :
    State.Frame l z (State.secCommitted x1 x2) := by
  delta State.secCommitted
  exact g1.sec (hl .sec (by decide))

theorem State.hayRest_frame {x1} {x2} {x3} (hl : Covers [.hay] l) (g1 : State.Frame l z x1) :
    State.Frame l z (State.hayRest x1 x2 x3) := by
  delta State.hayRest
  exact g1.hay (hl .hay (by decide))

theorem State.putPage_frame {x1} {x2} {x3} (hl : Covers [.hay] l) (g1 : State.Frame l z x1) :
    State.Frame l z (State.putPage x1 x2 x3) := by
  delta State.putPage
  exact g1.hay (hl .hay (by decide))

theorem State.flushFail_frame {x1} {x2} (hl : Covers [.spoke, .hay, .flt] l) (g1 : State.Frame l z x1) :
    State.Frame l z (State.flushFail x1 x2) := by
  delta State.flushFail
  extract_lets -merge -underBinder +onlyGivenNames y1
  refine State.each_frame ?_ ?_
  · exact g1.hay (hl .hay (by decide))
  · intro x2 x4 h3
    exact State.finish_frame (hl.sub rfl) h3

theorem State.hayDrop_frame {x1} {x2} (hl : Covers [.pwr, .hay] l) (g1 : State.Frame l z x1) :
    State.Frame l z (State.hayDrop x1 x2) := by
  delta State.hayDrop
  extract_lets -merge -underBinder +onlyGivenNames y1
  have h2 : State.Frame l z y1 := by subst y1; exact State.escEnd_frame (hl.sub rfl) g1
  try clear_value y1
  exact h2.hay (hl .hay (by decide))

theorem State.flushDone_frame {x1} (hl : Covers [.spoke, .hay, .flt] l) (g1 : State.Frame l z x1) :
    State.Frame l z (State.flushDone x1) := by
  delta State.flushDone
  extract_lets -merge -underBinder +onlyGivenNames y1
  refine State.each_frame ?_ ?_
  · exact g1.hay (hl .hay (by decide))
  · intro x2 x4 h3
    exact State.ok_frame (hl.sub rfl) h3

theorem State.sweepNext_frame {x1} (hl : Covers [.regs, .hay] l) (g1 : State.Frame l z x1) :
    State.Frame l z (State.sweepNext x1) := by
  delta State.sweepNext
  refine frame_ite ?_ ?_
  · exact State.wr_frame (hl.sub rfl) g1
  · refine frame_ite ?_ ?_
    · exact g1.hay (hl .hay (by decide))
    · extract_lets -merge -underBinder +onlyGivenNames y1
      have h2 : State.Frame l z y1 := by subst y1; exact State.wrap_frame (hl.sub rfl) (State.wr_frame (hl.sub rfl) g1)
      try clear_value y1
      exact h2.hay (hl .hay (by decide))

theorem State.hayNote_frame {x1} {x2} {x3} {x4} (hl : Covers [.spoke] l) (g1 : State.Frame l z x1) :
    State.Frame l z (State.hayNote x1 x2 x3 x4) := by
  delta State.hayNote
  exact State.note_frame (hl.sub rfl) g1

theorem State.schedStored_frame {x1} {x2} {x3} (hl : Covers [.spoke, .zones, .hay, .flt] l) (g1 : State.Frame l z x1) :
    State.Frame l z (State.schedStored x1 x2 x3) := by
  delta State.schedStored
  split
  · exact g1
  · extract_lets -merge -underBinder +onlyGivenNames y1 y2
    have h3 : State.Frame l z y2 := by subst y2; exact g1.zones (hl .zones (by decide))
    try clear_value y2
    refine frame_ite ?_ ?_
    · exact State.ok_frame (hl.sub rfl) (h3.hay (hl .hay (by decide)))
    · exact h3.hay (hl .hay (by decide))

theorem State.hayPhaseEnd_frame {x1} {x2} (hl : Covers [.regs, .hay] l) (g1 : State.Frame l z x1) :
    State.Frame l z (State.hayPhaseEnd x1 x2) := by
  delta State.hayPhaseEnd
  split
  · exact g1
  · refine frame_ite ?_ ?_
    · extract_lets -merge -underBinder +onlyGivenNames y1 y2 y3
      have h4 : State.Frame l z y3 := by subst y3; exact g1.hay (hl .hay (by decide))
      try clear_value y3
      refine frame_ite ?_ ?_
      · extract_lets -merge -underBinder +onlyGivenNames y5
        have h6 : State.Frame l z y5 := by subst y5; exact State.putPage_frame (hl.sub rfl) h4
        try clear_value y5
        extract_lets -merge -underBinder +onlyGivenNames y7 y8
        have h9 : State.Frame l z y8 := by subst y8; exact h6.hay (hl .hay (by decide))
        try clear_value y8
        refine frame_ite ?_ ?_
        · exact State.recordsCommitted_frame (hl.sub rfl) h9
        · exact h9
      · exact h4
    · exact g1

theorem State.wpRefuse_frame {x1} {x2} (hl : Covers [.regs, .spoke, .hay] l) (g1 : State.Frame l z x1) :
    State.Frame l z (State.wpRefuse x1 x2) := by
  delta State.wpRefuse
  exact State.record_frame (hl.sub rfl) (State.hayNote_frame (hl.sub rfl) (State.count_frame (hl.sub rfl) g1))

theorem State.logWritten_frame {x1} {x2} {x3} (hl : Covers [.spoke, .hay, .flt] l) (g1 : State.Frame l z x1) :
    State.Frame l z (State.logWritten x1 x2 x3) := by
  delta State.logWritten
  extract_lets -merge -underBinder +onlyGivenNames y1
  have h2 : State.Frame l z y1 := by subst y1; exact State.modLog_frame (hl.sub rfl) g1
  try clear_value y1
  exact State.flushDone_frame (hl.sub rfl) h2

theorem State.pageDone_frame {x1} {x2} {x3} (hl : Covers [.regs, .pwr, .spoke, .zones, .hay, .stb, .sec, .flt] l) (g1 : State.Frame l z x1) :
    State.Frame l z (State.pageDone x1 x2 x3) := by
  delta State.pageDone
  split
  · extract_lets -merge -underBinder +onlyGivenNames y1
    refine frame_ite ?_ ?_
    · exact State.ok_frame (hl.sub rfl) (State.hayDrop_frame (hl.sub rfl) g1)
    · exact State.hayRest_frame (hl.sub rfl) g1
  · refine frame_ite ?_ ?_
    · exact State.finish?_frame (hl.sub rfl) (State.hayDrop_frame (hl.sub rfl) g1)
    · exact State.hayRest_frame (hl.sub rfl) g1
  · exact State.finish?_frame (hl.sub rfl) (State.hayDrop_frame (hl.sub rfl) g1)
  · exact State.schedStored_frame (hl.sub rfl) (State.hayDrop_frame (hl.sub rfl) g1)
  · exact State.logWritten_frame (hl.sub rfl) (State.hayDrop_frame (hl.sub rfl) g1)
  · exact State.logWritten_frame (hl.sub rfl) (State.hayDrop_frame (hl.sub rfl) g1)
  · exact State.secCommitted_frame (hl.sub rfl) (State.hayDrop_frame (hl.sub rfl) g1)
  · exact State.hayDrop_frame (hl.sub rfl) g1
  · exact State.hayNote_frame (hl.sub rfl) (State.record_frame (hl.sub rfl) (State.count_frame (hl.sub rfl) (State.hayDrop_frame (hl.sub rfl) g1)))
  · extract_lets -merge -underBinder +onlyGivenNames y2
    have h3 : State.Frame l z y2 := by subst y2; exact State.hayDrop_frame (hl.sub rfl) g1
    try clear_value y2
    exact h3.stb (hl .stb (by decide))
  · exact g1
  · exact g1

theorem State.secFail_frame {x1} {x2} (hl : Covers [.regs, .spoke, .sec, .flt] l) (g1 : State.Frame l z x1) :
    State.Frame l z (State.secFail x1 x2) := by
  delta State.secFail
  split
  · exact g1
  · extract_lets -merge -underBinder +onlyGivenNames y1 y2
    have h3 : State.Frame l z y2 := by subst y2; exact State.finish?_frame (hl.sub rfl) (g1.sec (hl .sec (by decide)))
    try clear_value y2
    refine frame_ite ?_ ?_
    · exact State.hubFault_frame (hl.sub rfl) h3
    · exact h3

theorem State.completionDone_frame {x1} {x2} {x3} {x4} (hl : Covers [.regs, .pwr, .spoke, .zones, .hay, .stb, .sec, .flt] l) (g1 : State.Frame l z x1) :
    State.Frame l z (State.completionDone x1 x2 x3 x4) := by
  delta State.completionDone
  split
  · exact g1
  · refine frame_ite ?_ ?_
    · exact State.pageDone_frame (hl.sub rfl) g1
    · exact g1

theorem State.overflow_frame {x1} {x2} {x3} (hl : Covers [.regs, .spoke, .hay, .flt] l) (g1 : State.Frame l z x1) :
    State.Frame l z (State.overflow x1 x2 x3) := by
  delta State.overflow
  extract_lets -merge -underBinder +onlyGivenNames y1
  split
  · exact g1
  · refine frame_ite ?_ ?_
    · exact g1
    · extract_lets -merge -underBinder +onlyGivenNames y2 y3
      have h4 : State.Frame l z y3 := by subst y3; exact State.modLog_frame (hl.sub rfl) g1
      try clear_value y3
      extract_lets -merge -underBinder +onlyGivenNames y5
      have h6 : State.Frame l z y5 := by subst y5; exact State.count_frame (hl.sub rfl) h4
      try clear_value y5
      exact State.fault_frame (hl.sub rfl) (State.hayNote_frame (hl.sub rfl) h6)

theorem State.uncorrectable_frame {x1} {x2} (hl : Covers [.regs, .spoke, .hay, .flt] l) (g1 : State.Frame l z x1) :
    State.Frame l z (State.uncorrectable x1 x2) := by
  delta State.uncorrectable
  refine frame_ite ?_ ?_
  · exact g1
  · extract_lets -merge -underBinder +onlyGivenNames y1 y2
    have h3 : State.Frame l z y2 := by subst y2; exact g1.hay (hl .hay (by decide))
    try clear_value y2
    extract_lets -merge -underBinder +onlyGivenNames y4
    have h5 : State.Frame l z y4 := by subst y4; exact State.wrs_frame (hl.sub rfl) h3
    try clear_value y4
    extract_lets -merge -underBinder +onlyGivenNames y6
    have h7 : State.Frame l z y6 := by subst y6; exact State.hayNote_frame (hl.sub rfl) (State.record_frame (hl.sub rfl) h5)
    try clear_value y6
    exact State.fault_frame (hl.sub rfl) h7

theorem State.readPages_frame {s m} (hl : Covers [.regs, .spoke, .hay, .flt] l) (h : State.Frame l z s) : State.Frame l z (State.readPages s m).1 := by
  induction m generalizing s with
  | nil => exact h
  | cons r rest ih =>
    unfold State.readPages
    exact frame_fst_ite h (frame_fst_ite (State.uncorrectable_frame (hl.sub rfl) h)
      (frame_fst_ite (ih (State.count_frame (hl.sub rfl) h)) (ih h)))

theorem State.hayFail_frame {x1} {x2} (hl : Covers [.regs, .pwr, .spoke, .hay, .sec, .flt] l) (g1 : State.Frame l z x1) :
    State.Frame l z (State.hayFail x1 x2) := by
  delta State.hayFail
  extract_lets -merge -underBinder +onlyGivenNames y1
  have h2 : State.Frame l z y1 := by subst y1; exact State.hayDrop_frame (hl.sub rfl) g1
  try clear_value y1
  split
  · exact State.finish_frame (hl.sub rfl) h2
  · exact State.finish_frame (hl.sub rfl) h2
  · exact State.finish_frame (hl.sub rfl) h2
  · exact State.finish?_frame (hl.sub rfl) h2
  · exact State.finish?_frame (hl.sub rfl) h2
  · exact State.schedFail_frame (hl.sub rfl) h2
  · exact State.flushFail_frame (hl.sub rfl) (State.modLog_frame (hl.sub rfl) h2)
  · exact State.modLog_frame (hl.sub rfl) h2
  · exact State.secFail_frame (hl.sub rfl) h2
  · exact h2
  · exact h2
  · exact h2

theorem State.hayAsk_frame {x1} {x2} {x3} (hl : Covers [.regs, .pwr, .spoke, .hay, .sec, .flt] l) (g1 : State.Frame l z x1) :
    State.Frame l z (State.hayAsk x1 x2 x3) := by
  delta State.hayAsk
  extract_lets -merge -underBinder +onlyGivenNames y1 y2 y3
  have h4 : State.Frame l z y3 := by subst y3; exact g1.hay (hl .hay (by decide))
  try clear_value y3
  refine frame_ite ?_ ?_
  · exact State.hayFail_frame (hl.sub rfl) h4
  · split
    · exact h4.hay (hl .hay (by decide))
    · exact h4.hay (hl .hay (by decide))
    · exact h4.hay (hl .hay (by decide))
    · refine frame_ite ?_ ?_
      · exact h4.hay (hl .hay (by decide))
      · exact h4.hay (hl .hay (by decide))

theorem State.groomSweep_frame {x1} (hl : Covers [.regs, .pwr, .spoke, .hay, .sec, .flt] l) (g1 : State.Frame l z x1) :
    State.Frame l z (State.groomSweep x1) := by
  delta State.groomSweep
  refine frame_ite ?_ ?_
  · exact g1
  · refine frame_ite ?_ ?_
    · exact State.count_frame (hl.sub rfl) g1
    · extract_lets -merge -underBinder +onlyGivenNames y1 y2 y3
      have h4 : State.Frame l z y3 := by subst y3; exact State.sweepNext_frame (hl.sub rfl) g1
      try clear_value y3
      refine frame_ite ?_ ?_
      · exact h4
      · refine frame_ite ?_ ?_
        · exact State.uncorrectable_frame (hl.sub rfl) h4
        · extract_lets -merge -underBinder +onlyGivenNames y5
          have h8 : State.Frame l z y5 := by
            subst y5
            refine State.when_frame ?_ ?_
            · exact h4
            · intro x6 h7
              exact State.count_frame (hl.sub rfl) h7
          try clear_value y5
          refine frame_ite ?_ ?_
          · extract_lets -merge -underBinder +onlyGivenNames y9
            have h10 : State.Frame l z y9 := by subst y9; exact State.count_frame (hl.sub rfl) h8
            try clear_value y9
            refine frame_ite ?_ ?_
            · exact h10
            · exact State.hayAsk_frame (hl.sub rfl) h10
          · exact h8

theorem State.writeFailed_frame {x1} {x2} (hl : Covers [.regs, .pwr, .spoke, .hay, .sec, .flt] l) (g1 : State.Frame l z x1) :
    State.Frame l z (State.writeFailed x1 x2) := by
  delta State.writeFailed
  extract_lets -merge -underBinder +onlyGivenNames y1 y2
  have h3 : State.Frame l z y2 := by subst y2; exact State.escEnd_frame (hl.sub rfl) g1
  try clear_value y2
  refine frame_ite ?_ ?_
  · extract_lets -merge -underBinder +onlyGivenNames y4 y5
    have h6 : State.Frame l z y5 := by subst y5; exact State.wr_frame (hl.sub rfl) h3
    try clear_value y5
    extract_lets -merge -underBinder +onlyGivenNames y7 y8
    have h9 : State.Frame l z y8 := by subst y8; exact h6.hay (hl .hay (by decide))
    try clear_value y8
    extract_lets -merge -underBinder +onlyGivenNames y10 y11
    have h12 : State.Frame l z y11 := by subst y11; exact h9.hay (hl .hay (by decide))
    try clear_value y11
    exact State.fault_frame (hl.sub rfl) (State.hayNote_frame (hl.sub rfl) (State.record_frame (hl.sub rfl) h12))
  · extract_lets -merge -underBinder +onlyGivenNames y13 y14
    have h15 : State.Frame l z y14 := by subst y14; exact h3.hay (hl .hay (by decide))
    try clear_value y14
    extract_lets -merge -underBinder +onlyGivenNames y16
    have h17 : State.Frame l z y16 := by subst y16; exact State.fault_frame (hl.sub rfl) (State.hayNote_frame (hl.sub rfl) (State.record_frame (hl.sub rfl) h15))
    try clear_value y16
    exact State.hayFail_frame (hl.sub rfl) h17

theorem State.hayFailAll_frame {x1} {x2} (hl : Covers [.regs, .pwr, .spoke, .hay, .sec, .flt] l) (g1 : State.Frame l z x1) :
    State.Frame l z (State.hayFailAll x1 x2) := by
  delta State.hayFailAll
  refine State.each_frame ?_ ?_
  · exact g1
  · intro x1 x3 h2
    refine frame_ite ?_ ?_
    · exact State.hayFail_frame (hl.sub rfl) h2
    · exact h2

theorem State.groomRepair_frame {x1} {x2} (hl : Covers [.regs, .pwr, .spoke, .hay, .stb, .sec, .flt] l) (g1 : State.Frame l z x1) :
    State.Frame l z (State.groomRepair x1 x2) := by
  delta State.groomRepair
  extract_lets -merge -underBinder +onlyGivenNames y1
  refine frame_ite ?_ ?_
  · exact g1
  · extract_lets -merge -underBinder +onlyGivenNames y2 y3 y4
    have h5 : State.Frame l z y4 := by subst y4; exact g1.stb (hl .stb (by decide))
    try clear_value y4
    extract_lets -merge -underBinder +onlyGivenNames y6
    have h10 : State.Frame l z y6 := by
      subst y6
      refine State.each_frame ?_ ?_
      · exact h5
      · intro x7 x9 h8
        exact State.fault_frame (hl.sub rfl) (State.note_frame (hl.sub rfl) h8)
    try clear_value y6
    refine frame_ite ?_ ?_
    · exact h10
    · exact State.hayAsk_frame (hl.sub rfl) h10

theorem State.hayServe_frame {x1} {x2} (hl : Covers [.regs, .pwr, .spoke, .hay, .flt] l) (g1 : State.Frame l z x1) :
    State.Frame l z (State.hayServe x1 x2) := by
  delta State.hayServe
  split
  · extract_lets -merge -underBinder +onlyGivenNames y1
    have h2 : State.Frame l z y1.1 := by subst y1; exact State.readPages_frame (hl.sub rfl) g1
    try clear_value y1
    extract_lets -merge -underBinder +onlyGivenNames y3
    have h4 : State.Frame l z y3 := by subst y3; exact State.hayDrop_frame (hl.sub rfl) h2
    try clear_value y3
    split
    · exact State.finish_frame (hl.sub rfl) h4
    · exact State.ok_frame (hl.sub rfl) h4
  · extract_lets -merge -underBinder +onlyGivenNames y5
    exact State.ok_frame (hl.sub rfl) (State.hayDrop_frame (hl.sub rfl) g1)
  · exact State.finish?_frame (hl.sub rfl) (State.hayDrop_frame (hl.sub rfl) g1)
  · exact State.ok_frame (hl.sub rfl) (State.hayDrop_frame (hl.sub rfl) g1)
  · exact State.finish?_frame (hl.sub rfl) (State.hayDrop_frame (hl.sub rfl) g1)
  · exact State.hayDrop_frame (hl.sub rfl) g1

theorem State.commitPage_frame {x1} {x2} (hl : Covers [.regs, .pwr, .spoke, .hay, .sec, .flt] l) (g1 : State.Frame l z x1) :
    State.Frame l z (State.commitPage x1 x2) := by
  delta State.commitPage
  refine frame_ite ?_ ?_
  · exact State.hayAsk_frame (hl.sub rfl) (State.modLog_frame (hl.sub rfl) g1)
  · exact g1

theorem State.hayWriteEnd_frame {x1} (hl : Covers [.regs, .pwr, .spoke, .zones, .hay, .stb, .sec, .flt] l) (g1 : State.Frame l z x1) :
    State.Frame l z (State.hayWriteEnd x1) := by
  delta State.hayWriteEnd
  split
  · exact g1
  · refine frame_ite ?_ ?_
    · exact g1
    · extract_lets -merge -underBinder +onlyGivenNames y1 y2
      have h3 : State.Frame l z y2 := by subst y2; exact g1.hay (hl .hay (by decide))
      try clear_value y2
      refine frame_ite ?_ ?_
      · exact State.writeFailed_frame (hl.sub rfl) h3
      · extract_lets -merge -underBinder +onlyGivenNames y4
        have h5 : State.Frame l z y4 := by subst y4; exact State.escEnd_frame (hl.sub rfl) h3
        try clear_value y4
        split
        · exact State.completionDone_frame (hl.sub rfl) (State.hayDrop_frame (hl.sub rfl) h5)
        · exact State.pageDone_frame (hl.sub rfl) h5

theorem State.hayStep_frame {x1} (hl : Covers [.regs, .pwr, .spoke, .hay, .sec, .flt] l) (g1 : State.Frame l z x1) :
    State.Frame l z (State.hayStep x1).1 := by
  delta State.hayStep
  extract_lets -merge -underBinder +onlyGivenNames y1
  have h2 : State.Frame l z y1 := by subst y1; exact State.hayFix_frame (hl.sub rfl) g1
  try clear_value y1
  split
  · split
    · exact frame_mk_fst (State.hayServe_frame (hl.sub rfl) h2)
    · refine frame_fst_ite ?_ ?_
      · refine frame_fst_ite ?_ ?_
        · exact frame_mk_fst (State.hayFail_frame (hl.sub rfl) (State.wpRefuse_frame (hl.sub rfl) h2))
        · exact frame_mk_fst h2
      · refine frame_fst_ite ?_ ?_
        · exact frame_mk_fst h2
        · refine frame_fst_ite ?_ ?_
          · exact frame_mk_fst (State.hayFail_frame (hl.sub rfl) h2)
          · refine frame_fst_ite ?_ ?_
            · refine frame_fst_ite ?_ ?_
              · exact frame_mk_fst h2
              · exact frame_mk_fst (State.hayLoad_frame (hl.sub rfl) h2)
            · refine frame_fst_ite ?_ ?_
              · exact frame_mk_fst (State.hayLoad_frame (hl.sub rfl) h2)
              · exact frame_mk_fst h2
  · exact frame_mk_fst h2

theorem State.logStream_frame {x1} {x2} (hl : Covers [.regs, .pwr, .spoke, .hay, .sec, .flt] l) (g1 : State.Frame l z x1) :
    State.Frame l z (State.logStream x1 x2) := by
  delta State.logStream
  extract_lets -merge -underBinder +onlyGivenNames y1 y2
  have h3 : State.Frame l z y2 := by subst y2; exact State.modLog_frame (hl.sub rfl) g1
  try clear_value y2
  extract_lets -merge -underBinder +onlyGivenNames y4
  have h5 : State.Frame l z y4 := by
    subst y4
    refine frame_ite ?_ ?_
    · exact State.overflow_frame (hl.sub rfl) h3
    · exact h3
  try clear_value y4
  exact State.commitPage_frame (hl.sub rfl) h5

theorem State.logSvc_frame {x1} (hl : Covers [.regs, .pwr, .spoke, .hay, .sec, .flt] l) (g1 : State.Frame l z x1) :
    State.Frame l z (State.logSvc x1) := by
  delta State.logSvc
  refine State.each_frame ?_ ?_
  · exact g1
  · intro x1 x3 h2
    exact State.logStream_frame (hl.sub rfl) h2

theorem State.hayLoop_frame {k s} (hl : Covers [.regs, .pwr, .spoke, .hay, .sec, .flt] l) (h : State.Frame l z s) : State.Frame l z (State.hayLoop k s) := by
  induction k generalizing s with
  | zero => exact h
  | succ k ih => exact frame_ite (ih (State.hayStep_frame (hl.sub rfl) h)) (State.hayStep_frame (hl.sub rfl) h)

theorem State.haySvc_frame {x1} (hl : Covers [.regs, .pwr, .spoke, .zones, .hay, .stb, .sec, .flt] l) (g1 : State.Frame l z x1) :
    State.Frame l z (State.haySvc x1) := by
  delta State.haySvc
  extract_lets -merge -underBinder +onlyGivenNames y1
  have h2 : State.Frame l z y1 := by subst y1; exact State.hayWriteEnd_frame (hl.sub rfl) g1
  try clear_value y1
  exact State.hayLoop_frame (hl.sub rfl) h2

/-! ### Zones -/

theorem State.zonEnable_frame {x1} {x2} (hl : Covers [.regs] l) (g1 : State.Frame l z x1) :
    State.Frame l z (State.zonEnable x1 x2) := by
  delta State.zonEnable
  exact State.wr_frame (hl.sub rfl) g1

theorem State.modZone_frame {x1} {x2} {x3} (hl : Covers [.zones] l) (g1 : State.Frame l z x1) :
    State.Frame l z (State.modZone x1 x2 x3) := by
  delta State.modZone
  exact g1.zones (hl .zones (by decide))

theorem State.zonDays_frame {x1} {x2} (hl : Covers [.zones] l) (g1 : State.Frame l z x1) :
    State.Frame l z (State.zonDays x1 x2) := by
  delta State.zonDays
  exact State.modZone_frame (hl.sub rfl) g1

theorem State.zonPi_frame {x1} {x2} (hl : Covers [.regs, .zones] l) (g1 : State.Frame l z x1) :
    State.Frame l z (State.zonPi x1 x2) := by
  delta State.zonPi
  extract_lets -merge -underBinder +onlyGivenNames y1
  have h2 : State.Frame l z y1 := by
    subst y1
    refine frame_ite ?_ ?_
    · exact State.modZone_frame (hl.sub rfl) (State.wr_frame (hl.sub rfl) g1)
    · exact g1
  try clear_value y1
  refine frame_ite ?_ ?_
  · extract_lets -merge -underBinder +onlyGivenNames y3
    exact State.wrs_frame (hl.sub rfl) h2
  · exact h2

theorem State.zonEntry_frame {x1} {x2} {x3} {x4} {x5} (hl : Covers [.spoke, .zones] l) (g1 : State.Frame l z x1) :
    State.Frame l z (State.zonEntry x1 x2 x3 x4 x5) := by
  delta State.zonEntry
  extract_lets -merge -underBinder +onlyGivenNames y1 y2
  refine frame_ite ?_ ?_
  · exact State.event_frame (hl.sub rfl) (State.modZone_frame (hl.sub rfl) g1)
  · exact State.modZone_frame (hl.sub rfl) g1

theorem State.heatCall_frame {x1} (hl : Covers [.regs] l) (g1 : State.Frame l z x1) :
    State.Frame l z (State.heatCall x1) := by
  delta State.heatCall
  extract_lets -merge -underBinder +onlyGivenNames y1 y2 y3 y4 y5 y6 y7
  exact State.wrs_frame (hl.sub rfl) g1

theorem State.zonGap_frame {x1} {x2} (hl : Covers [.spoke, .zones] l) (g1 : State.Frame l z x1) :
    State.Frame l z (State.zonGap x1 x2) := by
  delta State.zonGap
  extract_lets -merge -underBinder +onlyGivenNames y1
  refine frame_ite ?_ ?_
  · extract_lets -merge -underBinder +onlyGivenNames y2
    exact State.event_frame (hl.sub rfl) (State.modZone_frame (hl.sub rfl) g1)
  · exact g1

theorem State.zonValid_frame {x1} {x2} {x3} (hl : Covers [.regs, .spoke, .zones] l) (g1 : State.Frame l z x1) :
    State.Frame l z (State.zonValid x1 x2 x3) := by
  delta State.zonValid
  extract_lets -merge -underBinder +onlyGivenNames y1 y2 y3
  have h4 : State.Frame l z y3 := by subst y3; exact State.modZone_frame (hl.sub rfl) g1
  try clear_value y3
  extract_lets -merge -underBinder +onlyGivenNames y5 y6
  have h7 : State.Frame l z y6 := by subst y6; exact State.wrs_frame (hl.sub rfl) h4
  try clear_value y6
  refine frame_ite ?_ ?_
  · exact State.zonEntry_frame (hl.sub rfl) (State.wr_frame (hl.sub rfl) h7)
  · exact h7

theorem State.zonStage_frame {x1} (hl : Covers [.regs] l) (g1 : State.Frame l z x1) :
    State.Frame l z (State.zonStage x1) := by
  delta State.zonStage
  extract_lets -merge -underBinder +onlyGivenNames y1
  have h5 : State.Frame l z y1 := by
    subst y1
    refine State.each_frame ?_ ?_
    · exact g1
    · intro x2 x4 h3
      refine frame_ite ?_ ?_
      · exact State.wr_frame (hl.sub rfl) h3
      · exact h3
  try clear_value y1
  extract_lets -merge -underBinder +onlyGivenNames y6
  refine frame_ite ?_ ?_
  · exact State.wrs_frame (hl.sub rfl) h5
  · exact h5

theorem State.zonOwed_frame {x1} {x2} (hl : Covers [.spoke, .zones] l) (g1 : State.Frame l z x1) :
    State.Frame l z (State.zonOwed x1 x2) := by
  delta State.zonOwed
  extract_lets -merge -underBinder +onlyGivenNames y1
  have h2 : State.Frame l z y1 := by
    subst y1
    refine frame_ite ?_ ?_
    · exact State.zonEntry_frame (hl.sub rfl) (State.modZone_frame (hl.sub rfl) g1)
    · exact g1
  try clear_value y1
  split
  · exact h2
  · exact State.zonEntry_frame (hl.sub rfl) (State.modZone_frame (hl.sub rfl) h2)

theorem State.zonUnoccupied_frame {x1} {x2} (hl : Covers [.regs, .spoke, .zones] l) (g1 : State.Frame l z x1) :
    State.Frame l z (State.zonUnoccupied x1 x2) := by
  delta State.zonUnoccupied
  split
  · exact g1
  · refine frame_ite ?_ ?_
    · exact State.zonEntry_frame (hl.sub rfl) (State.wr_frame (hl.sub rfl) g1)
    · exact g1

theorem State.zonHoldEnd_frame {x1} {x2} {x3} (hl : Covers [.regs, .spoke, .zones] l) (g1 : State.Frame l z x1) :
    State.Frame l z (State.zonHoldEnd x1 x2 x3) := by
  delta State.zonHoldEnd
  refine frame_ite ?_ ?_
  · extract_lets -merge -underBinder +onlyGivenNames y1 y2
    have h3 : State.Frame l z y2 := by subst y2; exact State.wrs_frame (hl.sub rfl) g1
    try clear_value y2
    exact State.zonEntry_frame (hl.sub rfl) (State.modZone_frame (hl.sub rfl) h3)
  · exact g1

theorem State.zonWindowOpen_frame {x1} {x2} {x3} (hl : Covers [.regs, .spoke, .zones] l) (g1 : State.Frame l z x1) :
    State.Frame l z (State.zonWindowOpen x1 x2 x3) := by
  delta State.zonWindowOpen
  refine frame_ite ?_ ?_
  · exact g1
  · extract_lets -merge -underBinder +onlyGivenNames y1
    have h2 : State.Frame l z y1 := by subst y1; exact State.modZone_frame (hl.sub rfl) (State.wr_frame (hl.sub rfl) g1)
    try clear_value y1
    exact State.zonEntry_frame (hl.sub rfl) h2

theorem State.zonOccupancy_frame {x1} {x2} (hl : Covers [.regs, .spoke, .zones] l) (g1 : State.Frame l z x1) :
    State.Frame l z (State.zonOccupancy x1 x2) := by
  delta State.zonOccupancy
  extract_lets -merge -underBinder +onlyGivenNames y1 y2 y3
  have h4 : State.Frame l z y3 := by subst y3; exact State.modZone_frame (hl.sub rfl) g1
  try clear_value y3
  extract_lets -merge -underBinder +onlyGivenNames y5
  have h6 : State.Frame l z y5 := by
    subst y5
    refine frame_ite ?_ ?_
    · exact State.wr_frame (hl.sub rfl) h4
    · exact h4
  try clear_value y5
  refine frame_ite ?_ ?_
  · refine frame_ite ?_ ?_
    · exact h6
    · exact State.zonEntry_frame (hl.sub rfl) (State.wr_frame (hl.sub rfl) h6)
  · exact State.zonUnoccupied_frame (hl.sub rfl) h6

theorem State.zonWindowClose_frame {x1} {x2} {x3} (hl : Covers [.regs, .spoke, .zones] l) (g1 : State.Frame l z x1) :
    State.Frame l z (State.zonWindowClose x1 x2 x3) := by
  delta State.zonWindowClose
  refine frame_ite ?_ ?_
  · extract_lets -merge -underBinder +onlyGivenNames y1 y2
    have h3 : State.Frame l z y2 := by subst y2; exact State.modZone_frame (hl.sub rfl) (State.wr_frame (hl.sub rfl) g1)
    try clear_value y2
    exact State.zonEntry_frame (hl.sub rfl) h3
  · exact g1

theorem State.zonHoldTake_frame {x1} {x2} {x3} (hl : Covers [.regs, .spoke, .zones] l) (g1 : State.Frame l z x1) :
    State.Frame l z (State.zonHoldTake x1 x2 x3) := by
  delta State.zonHoldTake
  split
  · exact g1
  · extract_lets -merge -underBinder +onlyGivenNames y1
    have h2 : State.Frame l z y1 := by subst y1; exact State.modZone_frame (hl.sub rfl) g1
    try clear_value y1
    refine frame_ite ?_ ?_
    · exact State.zonHoldEnd_frame (hl.sub rfl) h2
    · extract_lets -merge -underBinder +onlyGivenNames y3
      have h4 : State.Frame l z y3 := by subst y3; exact State.wrs_frame (hl.sub rfl) h2
      try clear_value y3
      exact State.modZone_frame (hl.sub rfl) h4

theorem State.zonWindowExpire_frame {x1} {x2} (hl : Covers [.regs, .spoke, .zones] l) (g1 : State.Frame l z x1) :
    State.Frame l z (State.zonWindowExpire x1 x2) := by
  delta State.zonWindowExpire
  refine frame_ite ?_ ?_
  · exact State.zonWindowClose_frame (hl.sub rfl) g1
  · exact g1

theorem State.zonSkip_frame {x1} {x2} (hl : Covers [.spoke, .zones] l) (g1 : State.Frame l z x1) :
    State.Frame l z (State.zonSkip x1 x2) := by
  delta State.zonSkip
  refine frame_ite ?_ ?_
  · exact State.zonEntry_frame (hl.sub rfl) g1
  · exact g1

theorem State.zonDisable_frame {x1} {x2} (hl : Covers [.regs, .spoke, .zones] l) (g1 : State.Frame l z x1) :
    State.Frame l z (State.zonDisable x1 x2) := by
  delta State.zonDisable
  extract_lets -merge -underBinder +onlyGivenNames y1
  have h2 : State.Frame l z y1 := by subst y1; exact State.zonWindowClose_frame (hl.sub rfl) (State.zonHoldEnd_frame (hl.sub rfl) g1)
  try clear_value y1
  extract_lets -merge -underBinder +onlyGivenNames y3
  have h4 : State.Frame l z y3 := by subst y3; exact State.clearAttr_frame (hl.sub rfl) (State.clearAttr_frame (hl.sub rfl) (State.clearAttr_frame (hl.sub rfl) h2))
  try clear_value y3
  exact State.modZone_frame (hl.sub rfl) h4

theorem State.zonSetpoint_frame {x1} {x2} {x3} {x4} (hl : Covers [.regs, .spoke, .zones] l) (g1 : State.Frame l z x1) :
    State.Frame l z (State.zonSetpoint x1 x2 x3 x4) := by
  delta State.zonSetpoint
  extract_lets -merge -underBinder +onlyGivenNames y1 y2
  have h3 : State.Frame l z y2 := by subst y2; exact State.wrs_frame (hl.sub rfl) g1
  try clear_value y2
  refine frame_ite ?_ ?_
  · exact h3
  · exact State.zonEntry_frame (hl.sub rfl) h3

theorem State.zonWindowRun_frame {x1} {x2} (hl : Covers [.regs, .spoke, .zones] l) (g1 : State.Frame l z x1) :
    State.Frame l z (State.zonWindowRun x1 x2) := by
  delta State.zonWindowRun
  extract_lets -merge -underBinder +onlyGivenNames y1
  have h2 : State.Frame l z y1 := by subst y1; exact State.zonWindowExpire_frame (hl.sub rfl) g1
  try clear_value y1
  extract_lets -merge -underBinder +onlyGivenNames y3
  try clear_value y3
  extract_lets -merge -underBinder +onlyGivenNames y4
  have h5 : State.Frame l z y4 := by subst y4; exact State.modZone_frame (hl.sub rfl) h2
  try clear_value y4
  extract_lets -merge -underBinder +onlyGivenNames y6
  have h7 : State.Frame l z y6 := by
    subst y6
    split
    · exact State.zonWindowOpen_frame (hl.sub rfl) h5
    · exact State.zonWindowClose_frame (hl.sub rfl) h5
    · exact h5
  try clear_value y6
  extract_lets -merge -underBinder +onlyGivenNames y8
  have h9 : State.Frame l z y8 := by
    subst y8
    refine frame_ite ?_ ?_
    · exact State.zonWindowOpen_frame (hl.sub rfl) h7
    · exact h7
  try clear_value y8
  refine frame_ite ?_ ?_
  · exact State.modZone_frame (hl.sub rfl) h9
  · exact h9

theorem State.zonHook_frame {x1} {x2} {x3} (hl : Covers [.regs, .spoke, .zones] l) (g1 : State.Frame l z x1) :
    State.Frame l z (State.zonHook x1 x2 x3) := by
  delta State.zonHook
  refine frame_ite ?_ ?_
  · refine State.each_frame ?_ ?_
    · exact g1
    · intro x1 x3 h2
      refine frame_ite ?_ ?_
      · exact State.zonDisable_frame (hl.sub rfl) h2
      · refine frame_ite ?_ ?_
        · exact State.zonEnable_frame (hl.sub rfl) h2
        · exact h2
  · refine frame_ite ?_ ?_
    · exact State.wr_frame (hl.sub rfl) g1
    · exact g1

theorem State.zonSensorLost_frame {x1} {x2} (hl : Covers [.regs, .spoke, .zones, .flt] l) (g1 : State.Frame l z x1) :
    State.Frame l z (State.zonSensorLost x1 x2) := by
  delta State.zonSensorLost
  refine frame_ite ?_ ?_
  · extract_lets -merge -underBinder +onlyGivenNames y1 y2
    have h3 : State.Frame l z y2 := by subst y2; exact State.wrs_frame (hl.sub rfl) g1
    try clear_value y2
    extract_lets -merge -underBinder +onlyGivenNames y4
    exact State.fault_frame (hl.sub rfl) (State.zonEntry_frame (hl.sub rfl) h3)
  · exact g1

theorem State.zonSvc_frame {x1} (hl : Covers [.spoke, .zones] l) (g1 : State.Frame l z x1) :
    State.Frame l z (State.zonSvc x1) := by
  delta State.zonSvc
  refine State.each_frame ?_ ?_
  · exact g1
  · intro x1 x3 h2
    exact State.zonGap_frame (hl.sub rfl) h2

theorem State.zonArbitrate_frame {x1} {x2} (hl : Covers [.regs, .spoke, .zones] l) (g1 : State.Frame l z x1) :
    State.Frame l z (State.zonArbitrate x1 x2) := by
  delta State.zonArbitrate
  extract_lets -merge -underBinder +onlyGivenNames y1 y2 y3 y4 y5 y6 y7
  have h8 : State.Frame l z y7 := by subst y7; exact State.wrs_frame (hl.sub rfl) g1
  try clear_value y7
  extract_lets -merge -underBinder +onlyGivenNames y9 y10
  have h11 : State.Frame l z y10 := by subst y10; exact State.zonSetpoint_frame (hl.sub rfl) h8
  try clear_value y10
  refine frame_ite ?_ ?_
  · exact State.zonEntry_frame (hl.sub rfl) h11
  · exact h11

theorem State.zonHoldExpire_frame {x1} {x2} (hl : Covers [.regs, .spoke, .zones] l) (g1 : State.Frame l z x1) :
    State.Frame l z (State.zonHoldExpire x1 x2) := by
  delta State.zonHoldExpire
  refine frame_ite ?_ ?_
  · exact State.zonHoldEnd_frame (hl.sub rfl) g1
  · exact g1

theorem State.zonInvalid_frame {x1} {x2} (hl : Covers [.regs, .spoke, .zones, .flt] l) (g1 : State.Frame l z x1) :
    State.Frame l z (State.zonInvalid x1 x2) := by
  delta State.zonInvalid
  extract_lets -merge -underBinder +onlyGivenNames y1
  have h2 : State.Frame l z y1 := by subst y1; exact State.modZone_frame (hl.sub rfl) (State.wr_frame (hl.sub rfl) g1)
  try clear_value y1
  exact State.zonSensorLost_frame (hl.sub rfl) h2

theorem State.zonHoldRun_frame {x1} {x2} (hl : Covers [.regs, .spoke, .zones] l) (g1 : State.Frame l z x1) :
    State.Frame l z (State.zonHoldRun x1 x2) := by
  delta State.zonHoldRun
  extract_lets -merge -underBinder +onlyGivenNames y1 y2
  have h3 : State.Frame l z y2 := by subst y2; exact State.zonHoldExpire_frame (hl.sub rfl) g1
  try clear_value y2
  extract_lets -merge -underBinder +onlyGivenNames y4
  have h5 : State.Frame l z y4 := by
    subst y4
    refine frame_ite ?_ ?_
    · exact State.zonHoldEnd_frame (hl.sub rfl) h3
    · exact h3
  try clear_value y4
  exact State.zonHoldTake_frame (hl.sub rfl) h5

theorem State.zonSampleRun_frame {x1} {x2} (hl : Covers [.regs, .spoke, .zones, .flt] l) (g1 : State.Frame l z x1) :
    State.Frame l z (State.zonSampleRun x1 x2) := by
  delta State.zonSampleRun
  extract_lets -merge -underBinder +onlyGivenNames y1
  try clear_value y1
  extract_lets -merge -underBinder +onlyGivenNames y2
  have h3 : State.Frame l z y2 := by
    subst y2
    refine frame_ite ?_ ?_
    · exact g1
    · exact State.modZone_frame (hl.sub rfl) g1
  try clear_value y2
  extract_lets -merge -underBinder +onlyGivenNames y4
  have h5 : State.Frame l z y4 := by
    subst y4
    split
    · exact State.wr_frame (hl.sub rfl) h3
    · exact State.wrs_frame (hl.sub rfl) h3
  try clear_value y4
  split
  · exact State.zonInvalid_frame (hl.sub rfl) h5
  · exact State.zonValid_frame (hl.sub rfl) h5

theorem State.zonLimp_frame {x1} {x2} (hl : Covers [.regs, .spoke, .zones, .flt] l) (g1 : State.Frame l z x1) :
    State.Frame l z (State.zonLimp x1 x2) := by
  delta State.zonLimp
  extract_lets -merge -underBinder +onlyGivenNames y1 y2
  have h3 : State.Frame l z y2 := by subst y2; exact State.zonSetpoint_frame (hl.sub rfl) g1
  try clear_value y2
  refine frame_ite ?_ ?_
  · extract_lets -merge -underBinder +onlyGivenNames y4
    have h5 : State.Frame l z y4 := by subst y4; exact State.zonSampleRun_frame (hl.sub rfl) h3
    try clear_value y4
    extract_lets -merge -underBinder +onlyGivenNames y6
    refine frame_ite ?_ ?_
    · refine frame_ite ?_ ?_
      · exact State.wr_frame (hl.sub rfl) h5
      · refine frame_ite ?_ ?_
        · exact State.wr_frame (hl.sub rfl) h5
        · exact h5
    · exact h5
  · exact State.wr_frame (hl.sub rfl) h3

theorem State.zonLoop_frame {x1} {x2} (hl : Covers [.regs, .spoke, .zones, .flt] l) (g1 : State.Frame l z x1) :
    State.Frame l z (State.zonLoop x1 x2) := by
  delta State.zonLoop
  extract_lets -merge -underBinder +onlyGivenNames y1
  have h2 : State.Frame l z y1 := by subst y1; exact State.zonDays_frame (hl.sub rfl) (State.zonOwed_frame (hl.sub rfl) (State.zonGap_frame (hl.sub rfl) g1))
  try clear_value y1
  extract_lets -merge -underBinder +onlyGivenNames y3
  have h4 : State.Frame l z y3 := by
    subst y3
    refine frame_ite ?_ ?_
    · exact State.zonLimp_frame (hl.sub rfl) h2
    · exact State.zonPi_frame (hl.sub rfl) (State.zonArbitrate_frame (hl.sub rfl) (State.zonOccupancy_frame (hl.sub rfl) (State.zonHoldRun_frame (hl.sub rfl) (State.zonWindowRun_frame (hl.sub rfl) (State.zonSampleRun_frame (hl.sub rfl) h2)))))
  try clear_value y3
  extract_lets -merge -underBinder +onlyGivenNames y5
  have h6 : State.Frame l z y5 := by
    subst y5
    refine frame_ite ?_ ?_
    · exact State.wr_frame (hl.sub rfl) h4
    · exact g1
  try clear_value y5
  exact State.heatCall_frame (hl.sub rfl) h6

/-! ### Command -/

theorem State.checked_frame {x1} {x2} {x3} {x4} (hl : Covers [.spoke, .flt] l) (g1 : State.Frame l z x1) (g4 : ∀ z1, State.Frame l z z1 → State.Frame l z (x4 z1)) :
    State.Frame l z (State.checked x1 x2 x3 x4) := by
  delta State.checked
  refine frame_ite ?_ ?_
  · refine g4 _ ?_
    exact g1
  · exact State.finish_frame (hl.sub rfl) g1

theorem State.begin_frame {x1} {x2} {x3} (hl : Covers [.spoke] l) (g1 : State.Frame l z x1) :
    State.Frame l z (State.begin x1 x2 x3).2 := by
  delta State.begin
  exact frame_mk_snd (State.modChan_frame (hl.sub rfl) g1)

theorem State.command_frame {x1} {x2} {x3} {x4} (hl : Covers [.spoke] l) (g1 : State.Frame l z x1) (g4 : ∀ z1 z2 z3, State.Frame l z z1 → State.Frame l z (x4 z1 z2 z3)) :
    State.Frame l z (State.command x1 x2 x3 x4) := by
  delta State.command
  extract_lets -merge -underBinder +onlyGivenNames y1
  have h2 : State.Frame l z y1.2 := by subst y1; exact State.begin_frame (hl.sub rfl) g1
  try clear_value y1
  refine g4 _ _ _ ?_
  exact h2

theorem State.saveFirmware_frame {x1} {x2} (hl : Covers [.regs, .pwr, .spoke, .hay, .sec, .flt] l) (g1 : State.Frame l z x1) :
    State.Frame l z (State.saveFirmware x1 x2) := by
  delta State.saveFirmware
  exact State.hayAsk_frame (hl.sub rfl) g1

theorem State.saveObjects_frame {x1} {x2} {x3} (hl : Covers [.regs, .pwr, .spoke, .hay, .sec, .flt] l) (g1 : State.Frame l z x1) :
    State.Frame l z (State.saveObjects x1 x2 x3) := by
  delta State.saveObjects
  refine frame_ite ?_ ?_
  · exact State.ok_frame (hl.sub rfl) g1
  · exact State.hayAsk_frame (hl.sub rfl) (State.accepted_frame (hl.sub rfl) g1)

/-! ### Pwm -/

theorem State.pwmStop_frame {x1} (hl : Covers [.pwm] l) (g1 : State.Frame l z x1) :
    State.Frame l z (State.pwmStop x1) := by
  delta State.pwmStop
  exact g1.pwm (hl .pwm (by decide))

theorem State.ksTest_frame {x1} (hl : Covers [.regs] l) (g1 : State.Frame l z x1) :
    State.Frame l z (State.ksTest x1) := by
  delta State.ksTest
  refine State.when_frame ?_ ?_
  · exact g1
  · intro x1 h2
    exact State.wr_frame (hl.sub rfl) h2

theorem State.pwmFlag_frame {x1} {x2} {x3} (hl : Covers [.regs, .pwm] l) (g1 : State.Frame l z x1) :
    State.Frame l z (State.pwmFlag x1 x2 x3) := by
  delta State.pwmFlag
  extract_lets -merge -underBinder +onlyGivenNames y1
  have h2 : State.Frame l z y1 := by subst y1; exact State.wr_frame (hl.sub rfl) g1
  try clear_value y1
  refine frame_ite ?_ ?_
  · exact h2.pwm (hl .pwm (by decide))
  · exact h2

theorem State.strobe_frame {x1} {x2} (hl : Covers [.regs] l) (g1 : State.Frame l z x1) :
    State.Frame l z (State.strobe x1 x2) := by
  delta State.strobe
  exact State.wr_frame (hl.sub rfl) g1

theorem State.modGrp_frame {x1} {x2} {x3} (hl : Covers [.pwm] l) (g1 : State.Frame l z x1) :
    State.Frame l z (State.modGrp x1 x2 x3) := by
  delta State.modGrp
  exact g1.pwm (hl .pwm (by decide))

theorem State.pwmRestart_frame {x1} (hl : Covers [.pwm] l) (g1 : State.Frame l z x1) :
    State.Frame l z (State.pwmRestart x1) := by
  delta State.pwmRestart
  refine frame_ite ?_ ?_
  · refine State.each_frame ?_ ?_
    · exact g1.pwm (hl .pwm (by decide))
    · intro x1 x3 h2
      exact State.modGrp_frame (hl.sub rfl) h2
  · exact g1

theorem State.modPch_frame {x1} {x2} {x3} (hl : Covers [.pwm] l) (g1 : State.Frame l z x1) :
    State.Frame l z (State.modPch x1 x2 x3) := by
  delta State.modPch
  exact g1.pwm (hl .pwm (by decide))

theorem State.unlatch_frame {x1} {x2} (hl : Covers [.regs, .pwm, .act] l) (g1 : State.Frame l z x1) :
    State.Frame l z (State.unlatch x1 x2) := by
  delta State.unlatch
  extract_lets -merge -underBinder +onlyGivenNames y1
  have h2 : State.Frame l z y1 := by subst y1; exact State.wrs_frame (hl.sub rfl) g1
  try clear_value y1
  extract_lets -merge -underBinder +onlyGivenNames y3
  have h4 : State.Frame l z y3 := by subst y3; exact State.modPch_frame (hl.sub rfl) h2
  try clear_value y3
  exact h4.act (hl .act (by decide))

theorem State.cfgCheck_frame {x1} {x2} (hl : Covers [.regs] l) (g1 : State.Frame l z x1) :
    State.Frame l z (State.cfgCheck x1 x2) := by
  delta State.cfgCheck
  extract_lets -merge -underBinder +onlyGivenNames y1
  refine State.each_frame ?_ ?_
  · exact State.wrB_frame (hl.sub rfl) g1
  · intro x2 x4 h3
    exact State.wrB_frame (hl.sub rfl) h3

theorem State.pwmNote_frame {x1} {x2} {x3} {x4} {x5} (hl : Covers [.spoke] l) (g1 : State.Frame l z x1) :
    State.Frame l z (State.pwmNote x1 x2 x3 x4 x5) := by
  delta State.pwmNote
  exact State.event_frame (hl.sub rfl) g1

theorem State.copyChannel_frame {x1} {x2} (hl : Covers [.regs, .pwm, .act] l) (g1 : State.Frame l z x1) :
    State.Frame l z (State.copyChannel x1 x2) := by
  delta State.copyChannel
  extract_lets -merge -underBinder +onlyGivenNames y1
  have h2 : State.Frame l z y1 := by subst y1; exact State.wrs_frame (hl.sub rfl) g1
  try clear_value y1
  extract_lets -merge -underBinder +onlyGivenNames y3
  have h4 : State.Frame l z y3 := by subst y3; exact State.modPch_frame (hl.sub rfl) h2
  try clear_value y3
  refine frame_ite ?_ ?_
  · exact h4.act (hl .act (by decide))
  · exact h4

theorem State.valvesRestart_frame {x1} {x2} (hl : Covers [.regs, .act] l) (g1 : State.Frame l z x1) :
    State.Frame l z (State.valvesRestart x1 x2) := by
  delta State.valvesRestart
  refine frame_ite ?_ ?_
  · refine State.each_frame ?_ ?_
    · exact g1
    · intro x1 x3 h2
      refine frame_ite ?_ ?_
      · extract_lets -merge -underBinder +onlyGivenNames y4 y5
        have h6 : State.Frame l z y5 := by subst y5; exact State.wrs_frame (hl.sub rfl) h2
        try clear_value y5
        exact h6.act (hl .act (by decide))
      · exact h2
  · exact g1

theorem State.grpDisable_frame {x1} {x2} (hl : Covers [.regs, .pwm] l) (g1 : State.Frame l z x1) :
    State.Frame l z (State.grpDisable x1 x2) := by
  delta State.grpDisable
  refine frame_ite ?_ ?_
  · exact State.ksTest_frame (hl.sub rfl) (State.modGrp_frame (hl.sub rfl) (State.wr_frame (hl.sub rfl) g1))
  · exact g1

theorem State.copyGroup_frame {x1} {x2} (hl : Covers [.regs, .pwm] l) (g1 : State.Frame l z x1) :
    State.Frame l z (State.copyGroup x1 x2) := by
  delta State.copyGroup
  exact State.modGrp_frame (hl.sub rfl) (State.wr_frame (hl.sub rfl) g1)

theorem State.swapLine_frame {x1} {x2} (hl : Covers [.regs, .pwm] l) (g1 : State.Frame l z x1) :
    State.Frame l z (State.swapLine x1 x2) := by
  delta State.swapLine
  split
  · exact g1
  · exact State.modGrp_frame (hl.sub rfl) (State.wr_frame (hl.sub rfl) g1)

theorem State.copies_frame {x1} {x2} {x3} (hl : Covers [.regs, .pwm, .act] l) (g1 : State.Frame l z x1) :
    State.Frame l z (State.copies x1 x2 x3) := by
  delta State.copies
  extract_lets -merge -underBinder +onlyGivenNames y1 y2 y3
  have h4 : State.Frame l z y3 := by
    subst y3
    refine frame_ite ?_ ?_
    · exact State.copyGroup_frame (hl.sub rfl) g1
    · exact g1
  try clear_value y3
  extract_lets -merge -underBinder +onlyGivenNames y5
  have h9 : State.Frame l z y5 := by
    subst y5
    refine State.each_frame ?_ ?_
    · exact h4
    · intro x6 x8 h7
      refine frame_ite ?_ ?_
      · exact State.copyChannel_frame (hl.sub rfl) h7
      · exact h7
  try clear_value y5
  refine State.cfgCheck_frame (hl.sub rfl) ?_
  refine frame_ite ?_ ?_
  · exact State.wr_frame (hl.sub rfl) h9
  · exact h9

theorem State.calDone_frame {x1} {x2} (hl : Covers [.regs, .spoke, .pwm, .flt] l) (g1 : State.Frame l z x1) :
    State.Frame l z (State.calDone x1 x2) := by
  delta State.calDone
  refine frame_ite ?_ ?_
  · refine State.each_frame ?_ ?_
    · exact g1.pwm (hl .pwm (by decide))
    · intro x1 x3 h2
      extract_lets -merge -underBinder +onlyGivenNames y4
      refine frame_ite ?_ ?_
      · extract_lets -merge -underBinder +onlyGivenNames y5
        have h6 : State.Frame l z y5 := by subst y5; exact State.modGrp_frame (hl.sub rfl) h2
        try clear_value y5
        refine frame_ite ?_ ?_
        · exact h6
        · exact State.swapLine_frame (hl.sub rfl) h6
      · exact State.fault_frame (hl.sub rfl) (State.pwmNote_frame (hl.sub rfl) (State.wr_frame (hl.sub rfl) h2))
  · exact g1

theorem State.latchOff_frame {x1} {x2} {x3} (hl : Covers [.regs, .spoke] l) (g1 : State.Frame l z x1) :
    State.Frame l z (State.latchOff x1 x2 x3) := by
  delta State.latchOff
  refine frame_ite ?_ ?_
  · exact g1
  · exact State.pwmNote_frame (hl.sub rfl) (State.wrs_frame (hl.sub rfl) g1)

theorem State.cutPeriod_frame {x1} {x2} (hl : Covers [.regs, .spoke] l) (g1 : State.Frame l z x1) :
    State.Frame l z (State.cutPeriod x1 x2) := by
  delta State.cutPeriod
  refine frame_ite ?_ ?_
  · exact State.wr_frame (hl.sub rfl) g1
  · exact State.latchOff_frame (hl.sub rfl) g1

theorem State.cut_frame {x1} {x2} (hl : Covers [.regs, .spoke] l) (g1 : State.Frame l z x1) :
    State.Frame l z (State.cut x1 x2) := by
  delta State.cut
  refine frame_ite ?_ ?_
  · exact g1
  · exact State.cutPeriod_frame (hl.sub rfl) (State.wr_frame (hl.sub rfl) g1)

theorem State.groupFault_frame {x1} {x2} (hl : Covers [.regs, .spoke] l) (g1 : State.Frame l z x1) :
    State.Frame l z (State.groupFault x1 x2) := by
  delta State.groupFault
  refine frame_ite ?_ ?_
  · exact g1
  · extract_lets -merge -underBinder +onlyGivenNames y1
    have h2 : State.Frame l z y1 := by subst y1; exact State.wrs_frame (hl.sub rfl) g1
    try clear_value y1
    split
    · refine State.each_frame ?_ ?_
      · exact State.pwmNote_frame (hl.sub rfl) h2
      · intro x3 x5 h4
        exact State.cut_frame (hl.sub rfl) h4
    · refine State.each_frame ?_ ?_
      · exact State.pwmNote_frame (hl.sub rfl) h2
      · intro x6 x8 h7
        exact State.latchOff_frame (hl.sub rfl) h7
    · exact h2

theorem State.rise_frame {x1} {x2} (hl : Covers [.regs, .spoke, .act] l) (g1 : State.Frame l z x1) :
    State.Frame l z (State.rise x1 x2) := by
  delta State.rise
  refine frame_ite ?_ ?_
  · extract_lets -merge -underBinder +onlyGivenNames y1
    have h2 : State.Frame l z y1 := by
      subst y1
      refine frame_ite ?_ ?_
      · exact State.wr_frame (hl.sub rfl) g1
      · exact State.wr_frame (hl.sub rfl) g1
    try clear_value y1
    extract_lets -merge -underBinder +onlyGivenNames y3
    have h4 : State.Frame l z y3 := by
      subst y3
      refine frame_ite ?_ ?_
      · exact State.cut_frame (hl.sub rfl) h2
      · exact h2
    try clear_value y3
    refine frame_ite ?_ ?_
    · exact h4.act (hl .act (by decide))
    · exact h4
  · exact g1

theorem State.pass_frame {x1} {x2} {x3} {x4} (hl : Covers [.regs, .spoke, .pwm, .act] l) (g1 : State.Frame l z x1) :
    State.Frame l z (State.pass x1 x2 x3 x4) := by
  delta State.pass
  extract_lets -merge -underBinder +onlyGivenNames y1 y2 y3 y4
  have h5 : State.Frame l z y4 := by
    subst y4
    refine frame_ite ?_ ?_
    · exact State.pwmFlag_frame (hl.sub rfl) g1
    · exact g1
  try clear_value y4
  refine State.each_frame ?_ ?_
  · exact h5
  · intro x6 x8 h7
    extract_lets -merge -underBinder +onlyGivenNames y9 y10 y11
    have h12 : State.Frame l z y11 := by
      subst y11
      refine frame_ite ?_ ?_
      · exact State.pwmFlag_frame (hl.sub rfl) h7
      · exact h7
    try clear_value y11
    extract_lets -merge -underBinder +onlyGivenNames y13
    have h14 : State.Frame l z y13 := by
      subst y13
      refine frame_ite ?_ ?_
      · exact State.pwmFlag_frame (hl.sub rfl) h12
      · exact h12
    try clear_value y13
    refine frame_ite ?_ ?_
    · exact State.rise_frame (hl.sub rfl) h14
    · exact h14

theorem State.boundary_frame {x1} {x2} {x3} (hl : Covers [.regs, .spoke, .pwm, .act] l) (g1 : State.Frame l z x1) :
    State.Frame l z (State.boundary x1 x2 x3) := by
  delta State.boundary
  extract_lets -merge -underBinder +onlyGivenNames y1 y2
  have h3 : State.Frame l z y2 := by subst y2; exact State.modGrp_frame (hl.sub rfl) (State.swapLine_frame (hl.sub rfl) (State.copies_frame (hl.sub rfl) g1))
  try clear_value y2
  extract_lets -merge -underBinder +onlyGivenNames y4
  have h5 : State.Frame l z y4 := by
    subst y4
    refine frame_ite ?_ ?_
    · exact State.valvesRestart_frame (hl.sub rfl) h3
    · exact h3
  try clear_value y4
  extract_lets -merge -underBinder +onlyGivenNames y6
  have h7 : State.Frame l z y6 := by subst y6; exact State.pwmFlag_frame (hl.sub rfl) h5
  try clear_value y6
  extract_lets -merge -underBinder +onlyGivenNames y8
  have h9 : State.Frame l z y8 := by subst y8; exact State.count_frame (hl.sub rfl) h7
  try clear_value y8
  exact State.pass_frame (hl.sub rfl) h9

theorem State.grpEnable_frame {x1} {x2} (hl : Covers [.regs, .spoke, .pwm, .act] l) (g1 : State.Frame l z x1) :
    State.Frame l z (State.grpEnable x1 x2) := by
  delta State.grpEnable
  refine frame_ite ?_ ?_
  · exact g1
  · extract_lets -merge -underBinder +onlyGivenNames y1
    have h2 : State.Frame l z y1 := by subst y1; exact State.wr_frame (hl.sub rfl) g1
    try clear_value y1
    extract_lets -merge -underBinder +onlyGivenNames y3
    have h4 : State.Frame l z y3 := by subst y3; exact State.boundary_frame (hl.sub rfl) h2
    try clear_value y3
    refine frame_ite ?_ ?_
    · exact State.valvesRestart_frame (hl.sub rfl) h4
    · exact h4

theorem State.periods_frame {x1} {x2} {x3} (hl : Covers [.regs, .spoke, .pwm, .act] l) (g1 : State.Frame l z x1) :
    State.Frame l z (State.periods x1 x2 x3) := by
  delta State.periods
  refine frame_ite ?_ ?_
  · exact g1
  · extract_lets -merge -underBinder +onlyGivenNames y1
    have h2 : State.Frame l z y1 := by subst y1; exact State.modGrp_frame (hl.sub rfl) (State.count_frame (hl.sub rfl) g1)
    try clear_value y1
    refine State.each_frame ?_ ?_
    · exact h2
    · intro x3 x5 h4
      exact State.pass_frame (hl.sub rfl) (State.pass_frame (hl.sub rfl) h4)

theorem State.grpRun_frame {x1} {x2} {x3} (hl : Covers [.regs, .spoke, .pwm, .act] l) (g1 : State.Frame l z x1) :
    State.Frame l z (State.grpRun x1 x2 x3) := by
  delta State.grpRun
  extract_lets -merge -underBinder +onlyGivenNames y1 y2
  refine frame_ite ?_ ?_
  · exact State.modGrp_frame (hl.sub rfl) (State.pass_frame (hl.sub rfl) g1)
  · extract_lets -merge -underBinder +onlyGivenNames y3
    have h4 : State.Frame l z y3 := by subst y3; exact State.boundary_frame (hl.sub rfl) (State.pass_frame (hl.sub rfl) g1)
    try clear_value y3
    extract_lets -merge -underBinder +onlyGivenNames y5 y6
    refine frame_ite ?_ ?_
    · exact State.count_frame (hl.sub rfl) h4
    · extract_lets -merge -underBinder +onlyGivenNames y7
      have h8 : State.Frame l z y7 := by subst y7; exact State.periods_frame (hl.sub rfl) h4
      try clear_value y7
      exact State.modGrp_frame (hl.sub rfl) (State.pass_frame (hl.sub rfl) h8)

theorem State.pwmSlot_frame {x1} (hl : Covers [.regs, .spoke, .pwm, .act] l) (g1 : State.Frame l z x1) :
    State.Frame l z (State.pwmSlot x1) := by
  delta State.pwmSlot
  refine frame_ite ?_ ?_
  · exact g1
  · refine State.each_frame ?_ ?_
    · exact g1
    · intro x1 x3 h2
      extract_lets -merge -underBinder +onlyGivenNames y4 y5
      have h6 : State.Frame l z y5 := by subst y5; exact State.grpRun_frame (hl.sub rfl) h2
      try clear_value y5
      refine frame_ite ?_ ?_
      · exact State.boundary_frame (hl.sub rfl) (State.pass_frame (hl.sub rfl) h6)
      · exact h6

end Sys2Proof.Machine
end

