-- ==== Sys2Proof/Laws/Frame2.lean ====
section
/-!
SUPPORT. Sys2Proof/Laws/Frame2.lean: the operations of Actuators, PwmCommands, ActuatorCommands, Converters, Transport and the parts
of the state they can change.
-/

namespace Sys2Proof.Machine

variable {l : List Part} {z : State}

/-! ### Actuators -/

theorem State.actPlace_frame {x1} {x2} {x3} (hl : Covers [.spoke, .act, .flt] l) (g1 : State.Frame l z x1) :
    State.Frame l z (State.actPlace x1 x2 x3) := by
  delta State.actPlace
  extract_lets -merge -underBinder +onlyGivenNames y1
  refine frame_ite ?_ ?_
  · exact State.finish_frame (hl.sub rfl) g1
  · exact g1.act (hl .act (by decide))

theorem State.strobes_frame {x1} (hl : Covers [.regs] l) (g1 : State.Frame l z x1) :
    State.Frame l z (State.strobes x1) := by
  delta State.strobes
  refine State.each_frame ?_ ?_
  · exact g1
  · intro x1 x3 h2
    refine frame_ite ?_ ?_
    · exact State.strobe_frame (hl.sub rfl) h2
    · exact h2

theorem State.modRamp_frame {x1} {x2} {x3} (hl : Covers [.act] l) (g1 : State.Frame l z x1) :
    State.Frame l z (State.modRamp x1 x2 x3) := by
  delta State.modRamp
  exact g1.act (hl .act (by decide))

theorem State.modVgrp_frame {x1} {x2} {x3} (hl : Covers [.act] l) (g1 : State.Frame l z x1) :
    State.Frame l z (State.modVgrp x1 x2 x3) := by
  delta State.modVgrp
  exact g1.act (hl .act (by decide))

theorem State.modValve_frame {x1} {x2} {x3} (hl : Covers [.act] l) (g1 : State.Frame l z x1) :
    State.Frame l z (State.modValve x1 x2 x3) := by
  delta State.modValve
  exact g1.act (hl .act (by decide))

theorem State.actTake_frame {x1} {x2} (hl : Covers [.spoke, .act, .flt] l) (g1 : State.Frame l z x1) :
    State.Frame l z (State.actTake x1 x2) := by
  delta State.actTake
  extract_lets -merge -underBinder +onlyGivenNames y1
  refine frame_ite ?_ ?_
  · exact State.finish_frame (hl.sub rfl) g1
  · extract_lets -merge -underBinder +onlyGivenNames y2 y3
    have h4 : State.Frame l z y3 := by
      subst y3
      refine frame_ite ?_ ?_
      · exact State.accepted_frame (hl.sub rfl) g1
      · exact g1
    try clear_value y3
    exact h4.act (hl .act (by decide))

theorem State.inrushEnd_frame {x1} {x2} (hl : Covers [.regs] l) (g1 : State.Frame l z x1) :
    State.Frame l z (State.inrushEnd x1 x2) := by
  delta State.inrushEnd
  refine frame_ite ?_ ?_
  · exact State.wr_frame (hl.sub rfl) g1
  · exact g1

theorem State.modFan_frame {x1} {x2} {x3} (hl : Covers [.act] l) (g1 : State.Frame l z x1) :
    State.Frame l z (State.modFan x1 x2 x3) := by
  delta State.modFan
  exact g1.act (hl .act (by decide))

theorem State.rampZone_frame {x1} {x2} (hl : Covers [.act] l) (g1 : State.Frame l z x1) :
    State.Frame l z (State.rampZone x1 x2) := by
  delta State.rampZone
  split
  · extract_lets -merge -underBinder +onlyGivenNames y1
    refine frame_ite ?_ ?_
    · exact State.modRamp_frame (hl.sub rfl) g1
    · exact g1
  · refine frame_ite ?_ ?_
    · exact State.modRamp_frame (hl.sub rfl) g1
    · exact g1

theorem State.modBridge_frame {x1} {x2} {x3} (hl : Covers [.act] l) (g1 : State.Frame l z x1) :
    State.Frame l z (State.modBridge x1 x2 x3) := by
  delta State.modBridge
  exact g1.act (hl .act (by decide))

theorem State.drive_frame {x1} {x2} (hl : Covers [.regs, .pwm] l) (g1 : State.Frame l z x1) :
    State.Frame l z (State.drive x1 x2) := by
  delta State.drive
  extract_lets -merge -underBinder +onlyGivenNames y1 y2
  refine frame_ite ?_ ?_
  · exact g1
  · exact State.modPch_frame (hl.sub rfl) (State.wrs_frame (hl.sub rfl) g1)

theorem State.recoveryStart_frame {x1} {x2} (hl : Covers [.regs, .act] l) (g1 : State.Frame l z x1) :
    State.Frame l z (State.recoveryStart x1 x2) := by
  delta State.recoveryStart
  refine frame_ite ?_ ?_
  · exact g1
  · exact State.modVgrp_frame (hl.sub rfl) (State.wrs_frame (hl.sub rfl) g1)

theorem State.actNote_frame {x1} {x2} {x3} {x4} (hl : Covers [.spoke] l) (g1 : State.Frame l z x1) :
    State.Frame l z (State.actNote x1 x2 x3 x4) := by
  delta State.actNote
  exact State.note_frame (hl.sub rfl) g1

theorem State.rampTo_frame {x1} {x2} {x3} {x4} (hl : Covers [.spoke, .act, .flt] l) (g1 : State.Frame l z x1) :
    State.Frame l z (State.rampTo x1 x2 x3 x4) := by
  delta State.rampTo
  extract_lets -merge -underBinder +onlyGivenNames y1 y2
  have h3 : State.Frame l z y2 := by subst y2; exact State.modRamp_frame (hl.sub rfl) g1
  try clear_value y2
  exact State.finish?_frame (hl.sub rfl) h3

theorem State.bridgeStopped_frame {x1} {x2} (hl : Covers [.regs, .pwr, .act] l) (g1 : State.Frame l z x1) :
    State.Frame l z (State.bridgeStopped x1 x2) := by
  delta State.bridgeStopped
  extract_lets -merge -underBinder +onlyGivenNames y1 y2 y3
  have h4 : State.Frame l z y3 := by subst y3; exact State.modBridge_frame (hl.sub rfl) g1
  try clear_value y3
  exact State.escEnd_frame (hl.sub rfl) (State.wrs_frame (hl.sub rfl) h4)

theorem State.rampShow_frame {x1} {x2} (hl : Covers [.regs] l) (g1 : State.Frame l z x1) :
    State.Frame l z (State.rampShow x1 x2) := by
  delta State.rampShow
  extract_lets -merge -underBinder +onlyGivenNames y1 y2
  exact State.wrs_frame (hl.sub rfl) g1

theorem State.valveOff_frame {x1} {x2} (hl : Covers [.regs, .act] l) (g1 : State.Frame l z x1) :
    State.Frame l z (State.valveOff x1 x2) := by
  delta State.valveOff
  exact State.modValve_frame (hl.sub rfl) (State.wrs_frame (hl.sub rfl) g1)

theorem State.actCmd_frame {x1} (hl : Covers [.spoke, .act, .flt] l) (g1 : State.Frame l z x1) :
    State.Frame l z (State.actCmd x1) := by
  delta State.actCmd
  refine State.each_frame ?_ ?_
  · exact g1.act (hl .act (by decide))
  · intro x1 x3 h2
    exact State.actTake_frame (hl.sub rfl) h2

theorem State.bridgeEnd_frame {x1} {x2} {x3} (hl : Covers [.regs, .pwr, .spoke, .act, .flt] l) (g1 : State.Frame l z x1) :
    State.Frame l z (State.bridgeEnd x1 x2 x3) := by
  delta State.bridgeEnd
  exact State.finish?_frame (hl.sub rfl) (State.bridgeStopped_frame (hl.sub rfl) g1)

theorem State.gsnsSlot_frame {x1} {x2} (hl : Covers [.regs, .act] l) (g1 : State.Frame l z x1) :
    State.Frame l z (State.gsnsSlot x1 x2) := by
  delta State.gsnsSlot
  refine State.each_frame ?_ ?_
  · exact g1
  · intro x1 x3 h2
    refine frame_ite ?_ ?_
    · extract_lets -merge -underBinder +onlyGivenNames y4
      have h5 : State.Frame l z y4 := by
        subst y4
        refine frame_ite ?_ ?_
        · exact h2
        · exact State.recoveryStart_frame (hl.sub rfl) h2
      try clear_value y4
      exact State.modVgrp_frame (hl.sub rfl) (State.wr_frame (hl.sub rfl) h5)
    · exact State.modVgrp_frame (hl.sub rfl) (State.wr_frame (hl.sub rfl) h2)

theorem State.bridgeMoveEnd_frame {x1} {x2} (hl : Covers [.regs, .pwr, .spoke, .act, .flt] l) (g1 : State.Frame l z x1) :
    State.Frame l z (State.bridgeMoveEnd x1 x2) := by
  delta State.bridgeMoveEnd
  refine frame_ite ?_ ?_
  · extract_lets -merge -underBinder +onlyGivenNames y1
    have h2 : State.Frame l z y1 := by
      subst y1
      refine frame_ite ?_ ?_
      · exact State.modBridge_frame (hl.sub rfl) (State.wrs_frame (hl.sub rfl) g1)
      · exact g1
    try clear_value y1
    exact State.bridgeEnd_frame (hl.sub rfl) h2
  · exact g1

theorem State.valveKilled_frame {x1} {x2} (hl : Covers [.regs, .act] l) (g1 : State.Frame l z x1) :
    State.Frame l z (State.valveKilled x1 x2) := by
  delta State.valveKilled
  exact State.modVgrp_frame (hl.sub rfl) (State.recoveryStart_frame (hl.sub rfl) g1)

theorem State.onTimeEnd_frame {x1} {x2} (hl : Covers [.regs, .act] l) (g1 : State.Frame l z x1) :
    State.Frame l z (State.onTimeEnd x1 x2) := by
  delta State.onTimeEnd
  refine frame_ite ?_ ?_
  · exact State.valveOff_frame (hl.sub rfl) g1
  · exact g1

theorem State.fanSet_frame {x1} {x2} {x3} {x4} (hl : Covers [.regs, .act] l) (g1 : State.Frame l z x1) :
    State.Frame l z (State.fanSet x1 x2 x3 x4) := by
  delta State.fanSet
  extract_lets -merge -underBinder +onlyGivenNames y1 y2
  have h3 : State.Frame l z y2 := by subst y2; exact State.wrs_frame (hl.sub rfl) g1
  try clear_value y2
  refine frame_ite ?_ ?_
  · exact State.modFan_frame (hl.sub rfl) h3
  · exact h3

theorem State.forceOff_frame {x1} {x2} {x3} (hl : Covers [.regs, .pwr, .pwm, .act] l) (g1 : State.Frame l z x1) :
    State.Frame l z (State.forceOff x1 x2 x3) := by
  delta State.forceOff
  refine frame_ite ?_ ?_
  · extract_lets -merge -underBinder +onlyGivenNames y1 y2
    have h3 : State.Frame l z y2 := by subst y2; exact g1.pwr (hl .pwr (by decide))
    try clear_value y2
    refine frame_ite ?_ ?_
    · extract_lets -merge -underBinder +onlyGivenNames y4
      have h8 : State.Frame l z y4 := by
        subst y4
        refine State.each_frame ?_ ?_
        · exact h3
        · intro x5 x7 h6
          exact State.modRamp_frame (hl.sub rfl) h6
      try clear_value y4
      refine State.each_frame ?_ ?_
      · exact h8
      · intro x9 x11 h10
        refine frame_ite ?_ ?_
        · exact State.modGrp_frame (hl.sub rfl) h10
        · exact State.valvesRestart_frame (hl.sub rfl) h10
    · exact h3
  · exact g1

theorem State.rampStep_frame {x1} {x2} (hl : Covers [.regs, .act] l) (g1 : State.Frame l z x1) :
    State.Frame l z (State.rampStep x1 x2) := by
  delta State.rampStep
  extract_lets -merge -underBinder +onlyGivenNames y1
  have h2 : State.Frame l z y1 := by
    subst y1
    split
    · exact g1
    · exact State.modRamp_frame (hl.sub rfl) (State.wr_frame (hl.sub rfl) g1)
  try clear_value y1
  extract_lets -merge -underBinder +onlyGivenNames y3 y4
  exact State.rampShow_frame (hl.sub rfl) (State.modRamp_frame (hl.sub rfl) h2)

theorem State.inrushTick_frame {x1} {x2} (hl : Covers [.regs] l) (g1 : State.Frame l z x1) :
    State.Frame l z (State.inrushTick x1 x2) := by
  delta State.inrushTick
  refine frame_ite ?_ ?_
  · exact State.inrushEnd_frame (hl.sub rfl) (State.wr_frame (hl.sub rfl) g1)
  · exact g1

theorem State.forceEnds_frame {x1} {x2} {x3} (hl : Covers [.regs, .pwr, .spoke, .act, .flt] l) (g1 : State.Frame l z x1) :
    State.Frame l z (State.forceEnds x1 x2 x3) := by
  delta State.forceEnds
  extract_lets -merge -underBinder +onlyGivenNames y1
  have h5 : State.Frame l z y1 := by
    subst y1
    refine State.each_frame ?_ ?_
    · exact g1
    · intro x2 x4 h3
      refine frame_ite ?_ ?_
      · exact State.wr_frame (hl.sub rfl) (State.bridgeEnd_frame (hl.sub rfl) h3)
      · exact h3
  try clear_value y1
  refine State.each_frame ?_ ?_
  · exact h5
  · intro x6 x8 h7
    exact State.finish?_frame (hl.sub rfl) (State.modRamp_frame (hl.sub rfl) h7)

theorem State.coastEnd_frame {x1} {x2} (hl : Covers [.regs, .pwr] l) (g1 : State.Frame l z x1) :
    State.Frame l z (State.coastEnd x1 x2) := by
  delta State.coastEnd
  refine frame_ite ?_ ?_
  · exact State.escEnd_frame (hl.sub rfl) (State.wrs_frame (hl.sub rfl) g1)
  · exact g1

theorem State.reversalAdmitted_frame {x1} {x2} (hl : Covers [.regs, .act] l) (g1 : State.Frame l z x1) :
    State.Frame l z (State.reversalAdmitted x1 x2) := by
  delta State.reversalAdmitted
  exact State.modBridge_frame (hl.sub rfl) (State.wr_frame (hl.sub rfl) g1)

theorem State.bridgePos_frame {x1} {x2} {x3} (hl : Covers [.regs, .act] l) (g1 : State.Frame l z x1) :
    State.Frame l z (State.bridgePos x1 x2 x3) := by
  delta State.bridgePos
  refine frame_ite ?_ ?_
  · exact g1
  · extract_lets -merge -underBinder +onlyGivenNames y1 y2 y3
    exact State.modBridge_frame (hl.sub rfl) (State.wr_frame (hl.sub rfl) g1)

theorem State.rampArrived_frame {x1} {x2} (hl : Covers [.spoke, .act, .flt] l) (g1 : State.Frame l z x1) :
    State.Frame l z (State.rampArrived x1 x2) := by
  delta State.rampArrived
  split
  · refine frame_ite ?_ ?_
    · exact State.ok_frame (hl.sub rfl) (State.modRamp_frame (hl.sub rfl) g1)
    · exact g1
  · exact g1

theorem State.grantOne_frame {x1} {x2} (hl : Covers [.regs, .act] l) (g1 : State.Frame l z x1) :
    State.Frame l z (State.grantOne x1 x2) := by
  delta State.grantOne
  refine frame_ite ?_ ?_
  · exact g1
  · split
    · exact g1
    · exact State.modValve_frame (hl.sub rfl) (State.wrs_frame (hl.sub rfl) g1)

theorem State.legLatched_frame {x1} {x2} (hl : Covers [.regs, .pwr, .spoke, .act, .flt] l) (g1 : State.Frame l z x1) :
    State.Frame l z (State.legLatched x1 x2) := by
  delta State.legLatched
  refine frame_ite ?_ ?_
  · exact State.wrs_frame (hl.sub rfl) (State.bridgeEnd_frame (hl.sub rfl) g1)
  · exact g1

theorem State.valveWait_frame {x1} {x2} (hl : Covers [.regs, .act] l) (g1 : State.Frame l z x1) :
    State.Frame l z (State.valveWait x1 x2) := by
  delta State.valveWait
  extract_lets -merge -underBinder +onlyGivenNames y1
  exact State.modValve_frame (hl.sub rfl) (State.wrs_frame (hl.sub rfl) g1)

theorem State.recoveryEnd_frame {x1} {x2} {x3} (hl : Covers [.regs, .spoke, .pwm, .act, .flt] l) (g1 : State.Frame l z x1) :
    State.Frame l z (State.recoveryEnd x1 x2 x3) := by
  delta State.recoveryEnd
  refine frame_ite ?_ ?_
  · extract_lets -merge -underBinder +onlyGivenNames y1
    try clear_value y1
    extract_lets -merge -underBinder +onlyGivenNames y2
    have h3 : State.Frame l z y2 := by subst y2; exact State.actNote_frame (hl.sub rfl) (State.wr_frame (hl.sub rfl) g1)
    try clear_value y2
    extract_lets -merge -underBinder +onlyGivenNames y4
    have h5 : State.Frame l z y4 := by
      subst y4
      split
      · exact State.wrs_frame (hl.sub rfl) h3
      · exact State.fault_frame (hl.sub rfl) (State.actNote_frame (hl.sub rfl) (State.wr_frame (hl.sub rfl) h3))
    try clear_value y4
    extract_lets -merge -underBinder +onlyGivenNames y6
    have h7 : State.Frame l z y6 := by subst y6; exact State.modVgrp_frame (hl.sub rfl) h5
    try clear_value y6
    refine frame_ite ?_ ?_
    · exact State.fault_frame (hl.sub rfl) (State.actNote_frame (hl.sub rfl) (State.grpDisable_frame (hl.sub rfl) h7))
    · exact h7
  · exact g1

theorem State.reversalFail_frame {x1} {x2} (hl : Covers [.regs, .pwr, .spoke, .act, .flt] l) (g1 : State.Frame l z x1) :
    State.Frame l z (State.reversalFail x1 x2) := by
  delta State.reversalFail
  refine frame_ite ?_ ?_
  · exact State.fault_frame (hl.sub rfl) (State.actNote_frame (hl.sub rfl) (State.bridgeEnd_frame (hl.sub rfl) g1))
  · exact g1

theorem State.bridgeClear_frame {x1} {x2} (hl : Covers [.regs, .pwr, .spoke, .pwm, .act, .flt] l) (g1 : State.Frame l z x1) :
    State.Frame l z (State.bridgeClear x1 x2) := by
  delta State.bridgeClear
  extract_lets -merge -underBinder +onlyGivenNames y1
  have h2 : State.Frame l z y1 := by
    subst y1
    refine frame_ite ?_ ?_
    · exact State.bridgeEnd_frame (hl.sub rfl) g1
    · exact g1
  try clear_value y1
  exact State.wrs_frame (hl.sub rfl) (State.unlatch_frame (hl.sub rfl) (State.unlatch_frame (hl.sub rfl) h2))

theorem State.bridgeStart_frame {x1} {x2} {x3} {x4} {x5} {x6} (hl : Covers [.regs, .pwr, .spoke, .act, .flt] l) (g1 : State.Frame l z x1) :
    State.Frame l z (State.bridgeStart x1 x2 x3 x4 x5 x6) := by
  delta State.bridgeStart
  extract_lets -merge -underBinder +onlyGivenNames y1 y2
  have h3 : State.Frame l z y2 := by
    subst y2
    refine frame_ite ?_ ?_
    · exact State.bridgeEnd_frame (hl.sub rfl) g1
    · exact g1
  try clear_value y2
  extract_lets -merge -underBinder +onlyGivenNames y4 y5 y6
  have h7 : State.Frame l z y6 := by subst y6; exact State.modBridge_frame (hl.sub rfl) h3
  try clear_value y6
  refine frame_ite ?_ ?_
  · extract_lets -merge -underBinder +onlyGivenNames y8
    have h9 : State.Frame l z y8 := by subst y8; exact State.wr_frame (hl.sub rfl) h7
    try clear_value y8
    refine frame_ite ?_ ?_
    · exact State.reversalFail_frame (hl.sub rfl) h9
    · exact State.escAsk_frame (hl.sub rfl) h9
  · exact State.wrs_frame (hl.sub rfl) h7

theorem State.cycleStart_frame {x1} {x2} (hl : Covers [.regs, .act] l) (g1 : State.Frame l z x1) :
    State.Frame l z (State.cycleStart x1 x2) := by
  delta State.cycleStart
  extract_lets -merge -underBinder +onlyGivenNames y1 y2 y3 y4 y5
  have h6 : State.Frame l z y5 := by subst y5; exact State.modValve_frame (hl.sub rfl) g1
  try clear_value y5
  refine frame_ite ?_ ?_
  · exact State.valveOff_frame (hl.sub rfl) h6
  · refine frame_ite ?_ ?_
    · exact State.valveWait_frame (hl.sub rfl) h6
    · exact h6

theorem State.recoveryTick_frame {x1} {x2} (hl : Covers [.regs, .spoke, .pwm, .act, .flt] l) (g1 : State.Frame l z x1) :
    State.Frame l z (State.recoveryTick x1 x2) := by
  delta State.recoveryTick
  refine frame_ite ?_ ?_
  · extract_lets -merge -underBinder +onlyGivenNames y1 y2
    have h3 : State.Frame l z y2 := by subst y2; exact State.modVgrp_frame (hl.sub rfl) g1
    try clear_value y2
    refine frame_ite ?_ ?_
    · exact State.recoveryEnd_frame (hl.sub rfl) h3
    · refine frame_ite ?_ ?_
      · exact State.recoveryEnd_frame (hl.sub rfl) h3
      · exact State.wr_frame (hl.sub rfl) h3
  · exact g1

theorem State.valveUnlatch_frame {x1} {x2} (hl : Covers [.regs, .pwm, .act] l) (g1 : State.Frame l z x1) :
    State.Frame l z (State.valveUnlatch x1 x2) := by
  delta State.valveUnlatch
  extract_lets -merge -underBinder +onlyGivenNames y1
  have h2 : State.Frame l z y1 := by subst y1; exact State.unlatch_frame (hl.sub rfl) g1
  try clear_value y1
  refine frame_ite ?_ ?_
  · extract_lets -merge -underBinder +onlyGivenNames y3
    have h4 : State.Frame l z y3 := by subst y3; exact State.valvesRestart_frame (hl.sub rfl) h2
    try clear_value y3
    refine frame_ite ?_ ?_
    · exact State.valveWait_frame (hl.sub rfl) h4
    · exact State.valveOff_frame (hl.sub rfl) h4
  · exact h2

theorem State.valveCycle_frame {x1} {x2} (hl : Covers [.regs, .act] l) (g1 : State.Frame l z x1) :
    State.Frame l z (State.valveCycle x1 x2) := by
  delta State.valveCycle
  extract_lets -merge -underBinder +onlyGivenNames y1 y2
  have h3 : State.Frame l z y2 := by subst y2; exact State.wrs_frame (hl.sub rfl) g1
  try clear_value y2
  refine frame_ite ?_ ?_
  · exact h3
  · refine frame_ite ?_ ?_
    · refine frame_ite ?_ ?_
      · exact State.modValve_frame (hl.sub rfl) (State.valveOff_frame (hl.sub rfl) h3)
      · exact h3
    · refine frame_ite ?_ ?_
      · exact State.cycleStart_frame (hl.sub rfl) h3
      · exact State.onTimeEnd_frame (hl.sub rfl) h3

theorem State.actApply_frame {x1} {x2} (hl : Covers [.regs, .pwr, .spoke, .pwm, .act, .flt] l) (g1 : State.Frame l z x1) :
    State.Frame l z (State.actApply x1 x2) := by
  delta State.actApply
  extract_lets -merge -underBinder +onlyGivenNames y1
  try clear_value y1
  extract_lets -merge -underBinder +onlyGivenNames y2
  try clear_value y2
  split
  · exact State.ok_frame (hl.sub rfl) (State.modValve_frame (hl.sub rfl) g1)
  · split
    · refine State.ok_frame (hl.sub rfl) ?_
      refine frame_ite ?_ ?_
      · exact State.bridgeEnd_frame (hl.sub rfl) g1
      · exact g1
    · exact State.bridgeStart_frame (hl.sub rfl) g1
    · exact State.bridgeStart_frame (hl.sub rfl) g1
    · exact State.bridgeStart_frame (hl.sub rfl) g1
    · exact State.bridgeStart_frame (hl.sub rfl) g1
  · exact State.ok_frame (hl.sub rfl) (State.bridgeClear_frame (hl.sub rfl) g1)
  · exact State.ok_frame (hl.sub rfl) (State.fanSet_frame (hl.sub rfl) g1)
  · refine frame_ite ?_ ?_
    · extract_lets -merge -underBinder +onlyGivenNames y3
      have h4 : State.Frame l z y3 := by subst y3; exact State.modRamp_frame (hl.sub rfl) (State.rampTo_frame (hl.sub rfl) g1)
      try clear_value y3
      exact State.ok_frame (hl.sub rfl) h4
    · exact State.rampTo_frame (hl.sub rfl) g1
  · exact State.ok_frame (hl.sub rfl) (State.wrs_frame (hl.sub rfl) g1)

theorem State.rampSlot_frame {x1} (hl : Covers [.regs, .act] l) (g1 : State.Frame l z x1) :
    State.Frame l z (State.rampSlot x1) := by
  delta State.rampSlot
  refine State.each_frame ?_ ?_
  · exact g1
  · intro x1 x3 h2
    exact State.rampStep_frame (hl.sub rfl) h2

theorem State.forceOn_frame {x1} {x2} (hl : Covers [.regs, .pwr, .spoke, .act, .flt] l) (g1 : State.Frame l z x1) :
    State.Frame l z (State.forceOn x1 x2) := by
  delta State.forceOn
  refine frame_ite ?_ ?_
  · exact g1
  · extract_lets -merge -underBinder +onlyGivenNames y1
    have h2 : State.Frame l z y1 := by subst y1; exact State.ksTest_frame (hl.sub rfl) g1
    try clear_value y1
    extract_lets -merge -underBinder +onlyGivenNames y3 y4
    have h5 : State.Frame l z y4 := by subst y4; exact h2.pwr (hl .pwr (by decide))
    try clear_value y4
    extract_lets -merge -underBinder +onlyGivenNames y6
    have h7 : State.Frame l z y6 := by subst y6; exact State.forceEnds_frame (hl.sub rfl) h5
    try clear_value y6
    refine State.each_frame ?_ ?_
    · exact h7
    · intro x8 x10 h9
      extract_lets -merge -underBinder +onlyGivenNames y11
      exact State.modRamp_frame (hl.sub rfl) (State.wr_frame (hl.sub rfl) h9)

theorem State.latchSeen_frame {s k} (hl : Covers [.regs, .pwr, .spoke, .act, .flt] l) (h : State.Frame l z s) : State.Frame l z (State.latchSeen s k) := by
  unfold State.latchSeen
  refine frame_ite ?_ h
  extract_lets -merge -underBinder +onlyGivenNames y1 y2
  have h2 : State.Frame l z y2 := h.act (hl .act (by decide))
  have hw : ∀ t m, State.Frame l z t → State.Frame l z (State.wrs t m) := fun _ _ => State.wrs_frame (hl.sub rfl)
  have hn : ∀ t a b c, State.Frame l z t → State.Frame l z (State.actNote t a b c) := fun _ _ _ _ => State.actNote_frame (hl.sub rfl)
  have hf : ∀ t a b c d e f, State.Frame l z t → State.Frame l z (State.fault t a b c d e f) := fun _ _ _ _ _ _ _ =>
    State.fault_frame (hl.sub rfl)
  exact frame_ite (hf _ _ _ _ _ _ _ (hn _ _ _ _ (frame_ite (hw _ _ (hw _ _ h2)) (hw _ _ h2))))
    (frame_ite (hf _ _ _ _ _ _ _ (hn _ _ _ _ (State.legLatched_frame (hl.sub rfl) h2))) (frame_ite (hf _ _ _ _ _ _ _ h2) h2))

theorem State.groupOff_frame {x1} {x2} (hl : Covers [.regs, .pwr, .spoke, .pwm, .act, .flt] l) (g1 : State.Frame l z x1) :
    State.Frame l z (State.groupOff x1 x2) := by
  delta State.groupOff
  extract_lets -merge -underBinder +onlyGivenNames y1 y2
  have h3 : State.Frame l z y2 := by subst y2; exact State.grpDisable_frame (hl.sub rfl) g1
  try clear_value y2
  refine frame_ite ?_ ?_
  · exact State.forceEnds_frame (hl.sub rfl) h3
  · exact h3

theorem State.bridgeZone_frame {x1} {x2} {x3} (hl : Covers [.regs, .pwr, .spoke, .act, .flt] l) (g1 : State.Frame l z x1) :
    State.Frame l z (State.bridgeZone x1 x2 x3) := by
  delta State.bridgeZone
  extract_lets -merge -underBinder +onlyGivenNames y1 y2 y3 y4
  refine frame_ite ?_ ?_
  · refine frame_ite ?_ ?_
    · exact State.bridgeStart_frame (hl.sub rfl) g1
    · exact g1
  · refine frame_ite ?_ ?_
    · refine frame_ite ?_ ?_
      · exact g1
      · exact State.bridgeStart_frame (hl.sub rfl) g1
    · refine frame_ite ?_ ?_
      · refine frame_ite ?_ ?_
        · exact g1
        · exact State.bridgeStart_frame (hl.sub rfl) g1
      · extract_lets -merge -underBinder +onlyGivenNames y5
        refine frame_ite ?_ ?_
        · exact State.bridgeStart_frame (hl.sub rfl) g1
        · exact g1

theorem State.fanStall_frame {x1} {x2} (hl : Covers [.regs, .spoke, .flt] l) (g1 : State.Frame l z x1) :
    State.Frame l z (State.fanStall x1 x2) := by
  delta State.fanStall
  refine frame_ite ?_ ?_
  · extract_lets -merge -underBinder +onlyGivenNames y1
    exact State.fault_frame (hl.sub rfl) (State.actNote_frame (hl.sub rfl) (State.wr_frame (hl.sub rfl) g1))
  · exact g1

theorem State.bridgeShort_frame {x1} {x2} (hl : Covers [.regs, .pwr, .spoke, .act, .flt] l) (g1 : State.Frame l z x1) :
    State.Frame l z (State.bridgeShort x1 x2) := by
  delta State.bridgeShort
  extract_lets -merge -underBinder +onlyGivenNames y1
  have h2 : State.Frame l z y1 := by subst y1; exact State.wr_frame (hl.sub rfl) (State.legLatched_frame (hl.sub rfl) g1)
  try clear_value y1
  extract_lets -merge -underBinder +onlyGivenNames y3 y4
  have h5 : State.Frame l z y4 := by subst y4; exact h2.act (hl .act (by decide))
  try clear_value y4
  exact State.fault_frame (hl.sub rfl) (State.actNote_frame (hl.sub rfl) h5)

theorem State.bridgeTick_frame {x1} {x2} (hl : Covers [.regs, .pwr, .spoke, .act, .flt] l) (g1 : State.Frame l z x1) :
    State.Frame l z (State.bridgeTick x1 x2) := by
  delta State.bridgeTick
  extract_lets -merge -underBinder +onlyGivenNames y1
  try clear_value y1
  extract_lets -merge -underBinder +onlyGivenNames y2
  have h3 : State.Frame l z y2 := by
    subst y2
    refine frame_ite ?_ ?_
    · exact State.bridgeMoveEnd_frame (hl.sub rfl) (State.wr_frame (hl.sub rfl) (State.bridgePos_frame (hl.sub rfl) g1))
    · refine frame_ite ?_ ?_
      · exact State.coastEnd_frame (hl.sub rfl) (State.modBridge_frame (hl.sub rfl) g1)
      · refine frame_ite ?_ ?_
        · exact State.reversalFail_frame (hl.sub rfl) g1
        · exact g1
  try clear_value y2
  refine frame_ite ?_ ?_
  · split
    · refine frame_ite ?_ ?_
      · exact State.bridgeZone_frame (hl.sub rfl) h3
      · exact h3
    · exact h3
  · exact h3

theorem State.fanStage_frame {x1} {x2} {x3} (hl : Covers [.regs, .spoke, .act, .flt] l) (g1 : State.Frame l z x1) :
    State.Frame l z (State.fanStage x1 x2 x3) := by
  delta State.fanStage
  extract_lets -merge -underBinder +onlyGivenNames y1 y2
  have h3 : State.Frame l z y2 := by subst y2; exact State.wr_frame (hl.sub rfl) g1
  try clear_value y2
  extract_lets -merge -underBinder +onlyGivenNames y4
  refine frame_ite ?_ ?_
  · exact State.actNote_frame (hl.sub rfl) (State.modFan_frame (hl.sub rfl) (State.wr_frame (hl.sub rfl) h3))
  · refine frame_ite ?_ ?_
    · exact State.modFan_frame (hl.sub rfl) h3
    · refine frame_ite ?_ ?_
      · exact State.modFan_frame (hl.sub rfl) h3
      · exact State.fanStall_frame (hl.sub rfl) (State.modFan_frame (hl.sub rfl) h3)

theorem State.actUpd_frame {x1} (hl : Covers [.regs, .pwr, .spoke, .pwm, .act, .flt] l) (g1 : State.Frame l z x1) :
    State.Frame l z (State.actUpd x1) := by
  delta State.actUpd
  extract_lets -merge -underBinder +onlyGivenNames y1 y2
  have h3 : State.Frame l z y2 := by subst y2; exact g1.pwm (hl .pwm (by decide))
  try clear_value y2
  extract_lets -merge -underBinder +onlyGivenNames y4
  have h11 : State.Frame l z y4 := by
    subst y4
    refine State.each_frame ?_ ?_
    · refine State.each_frame ?_ ?_
      · exact h3
      · intro x5 x7 h6
        exact State.latchSeen_frame (hl.sub rfl) h6
    · intro x8 x10 h9
      exact State.recoveryTick_frame (hl.sub rfl) h9
  try clear_value y4
  extract_lets -merge -underBinder +onlyGivenNames y12
  have h16 : State.Frame l z y12 := by
    subst y12
    refine State.each_frame ?_ ?_
    · exact h11
    · intro x13 x15 h14
      exact State.rampArrived_frame (hl.sub rfl) h14
  try clear_value y12
  extract_lets -merge -underBinder +onlyGivenNames y17 y18
  have h22 : State.Frame l z y18 := by
    subst y18
    refine State.each_frame ?_ ?_
    · exact h16.act (hl .act (by decide))
    · intro x19 x21 h20
      exact State.actApply_frame (hl.sub rfl) h20
  try clear_value y18
  extract_lets -merge -underBinder +onlyGivenNames y23
  have h30 : State.Frame l z y23 := by
    subst y23
    refine State.each_frame ?_ ?_
    · refine State.each_frame ?_ ?_
      · exact h22
      · intro x24 x26 h25
        exact State.valveCycle_frame (hl.sub rfl) h25
    · intro x27 x29 h28
      exact State.inrushTick_frame (hl.sub rfl) h28
  try clear_value y23
  extract_lets -merge -underBinder +onlyGivenNames y31
  have h35 : State.Frame l z y31 := by
    subst y31
    refine State.each_frame ?_ ?_
    · exact h30
    · intro x32 x34 h33
      exact State.grantOne_frame (hl.sub rfl) (State.grantOne_frame (hl.sub rfl) h33)
  try clear_value y31
  extract_lets -merge -underBinder +onlyGivenNames y36
  have h43 : State.Frame l z y36 := by
    subst y36
    refine State.each_frame ?_ ?_
    · refine State.each_frame ?_ ?_
      · exact h35
      · intro x37 x39 h38
        exact State.bridgeTick_frame (hl.sub rfl) h38
    · intro x40 x42 h41
      exact State.rampZone_frame (hl.sub rfl) h41
  try clear_value y36
  refine State.strobes_frame (hl.sub rfl) ?_
  refine State.each_frame ?_ ?_
  · exact h43
  · intro x44 x46 h45
    exact State.drive_frame (hl.sub rfl) h45

/-! ### PwmCommands -/

theorem execGfltRelease_frame {x1} {x2} (hl : Covers [.regs] l) (g2 : State.Frame l z x2) :
    State.FrameOut l z (execGfltRelease x1 x2) := by
  delta execGfltRelease
  exact frame_next (State.wr_frame (hl.sub rfl) g2)

theorem State.pwmHook_frame {x1} {x2} (hl : Covers [.pwm] l) (g1 : State.Frame l z x1) :
    State.Frame l z (State.pwmHook x1 x2) := by
  delta State.pwmHook
  refine frame_ite ?_ ?_
  · exact State.modGrp_frame (hl.sub rfl) g1
  · refine frame_ite ?_ ?_
    · exact State.modPch_frame (hl.sub rfl) g1
    · exact g1

theorem State.doPwmLoadAll_frame {x1} {x2} {x3} (hl : Covers [.regs, .spoke, .flt] l) (g1 : State.Frame l z x1) :
    State.Frame l z (State.doPwmLoadAll x1 x2 x3) := by
  delta State.doPwmLoadAll
  extract_lets -merge -underBinder +onlyGivenNames y1 y2
  refine State.checked_frame (hl.sub rfl) ?_ ?_
  · exact g1
  · intro x3 h4
    refine State.ok_frame (hl.sub rfl) ?_
    refine State.each_frame ?_ ?_
    · exact h4
    · intro x5 x7 h6
      exact State.strobe_frame (hl.sub rfl) h6

theorem execPwmLoadAll_frame {x1} {x2} (hl : Covers [.regs, .spoke, .flt] l) (g2 : State.Frame l z x2) :
    State.FrameOut l z (execPwmLoadAll x1 x2) := by
  delta execPwmLoadAll
  refine frame_next ?_
  refine State.command_frame (hl.sub rfl) ?_ ?_
  · exact g2
  · intro x1 x3 x4 h2
    exact State.doPwmLoadAll_frame (hl.sub rfl) h2

theorem execPwmClockRestart_frame {x1} (hl : Covers [.regs, .pwr, .pwm, .act] l) (g1 : State.Frame l z x1) :
    State.FrameOut l z (execPwmClockRestart x1) := by
  delta execPwmClockRestart
  exact frame_next (State.forceOff_frame (hl.sub rfl) (State.pwmRestart_frame (hl.sub rfl) g1))

theorem State.kill_frame {x1} {x2} {x3} (hl : Covers [.regs, .pwr, .spoke, .pwm, .act, .flt] l) (g1 : State.Frame l z x1) :
    State.Frame l z (State.kill x1 x2 x3) := by
  delta State.kill
  extract_lets -merge -underBinder +onlyGivenNames y1
  try clear_value y1
  extract_lets -merge -underBinder +onlyGivenNames y2
  have h3 : State.Frame l z y2 := by subst y2; exact State.modPch_frame (hl.sub rfl) (State.latchOff_frame (hl.sub rfl) g1)
  try clear_value y2
  refine frame_ite ?_ ?_
  · exact State.valveKilled_frame (hl.sub rfl) h3
  · extract_lets -merge -underBinder +onlyGivenNames y4
    try clear_value y4
    split
    · refine frame_ite ?_ ?_
      · exact State.bridgeShort_frame (hl.sub rfl) h3
      · exact State.legLatched_frame (hl.sub rfl) h3
    · exact State.legLatched_frame (hl.sub rfl) h3

theorem State.doPwmClrLatch_frame {x1} {x2} {x3} (hl : Covers [.regs, .spoke, .pwm, .act, .flt] l) (g1 : State.Frame l z x1) :
    State.Frame l z (State.doPwmClrLatch x1 x2 x3) := by
  delta State.doPwmClrLatch
  extract_lets -merge -underBinder +onlyGivenNames y1 y2
  refine State.checked_frame (hl.sub rfl) ?_ ?_
  · exact g1
  · intro x3 h4
    refine State.ok_frame (hl.sub rfl) ?_
    refine State.each_frame ?_ ?_
    · exact h4
    · intro x5 x7 h6
      exact State.valveUnlatch_frame (hl.sub rfl) h6

theorem execPwmClrLatch_frame {x1} {x2} (hl : Covers [.regs, .spoke, .pwm, .act, .flt] l) (g2 : State.Frame l z x2) :
    State.FrameOut l z (execPwmClrLatch x1 x2) := by
  delta execPwmClrLatch
  refine frame_next ?_
  refine State.command_frame (hl.sub rfl) ?_ ?_
  · exact g2
  · intro x1 x3 x4 h2
    exact State.doPwmClrLatch_frame (hl.sub rfl) h2

theorem execCutLatchOff_frame {x1} {x2} (hl : Covers [.regs, .spoke] l) (g2 : State.Frame l z x2) :
    State.FrameOut l z (execCutLatchOff x1 x2) := by
  delta execCutLatchOff
  refine frame_next ?_
  refine frame_ite ?_ ?_
  · exact State.latchOff_frame (hl.sub rfl) g2
  · exact g2

theorem execDelayLineCalDone_frame {x1} {x2} (hl : Covers [.regs, .spoke, .pwm, .flt] l) (g2 : State.Frame l z x2) :
    State.FrameOut l z (execDelayLineCalDone x1 x2) := by
  delta execDelayLineCalDone
  exact frame_next (State.calDone_frame (hl.sub rfl) g2)

theorem execKillRequest_frame {x1} {x2} {x3} (hl : Covers [.regs, .pwr, .spoke, .pwm, .act, .flt] l) (g3 : State.Frame l z x3) :
    State.FrameOut l z (execKillRequest x1 x2 x3) := by
  delta execKillRequest
  refine frame_next ?_
  refine frame_ite ?_ ?_
  · exact State.kill_frame (hl.sub rfl) g3
  · exact g3

theorem execCutRequest_frame {x1} {x2} (hl : Covers [.regs, .spoke] l) (g2 : State.Frame l z x2) :
    State.FrameOut l z (execCutRequest x1 x2) := by
  delta execCutRequest
  refine frame_next ?_
  refine frame_ite ?_ ?_
  · exact State.cut_frame (hl.sub rfl) g2
  · exact g2

theorem execGfltAssert_frame {x1} {x2} (hl : Covers [.regs, .spoke] l) (g2 : State.Frame l z x2) :
    State.FrameOut l z (execGfltAssert x1 x2) := by
  delta execGfltAssert
  exact frame_next (State.groupFault_frame (hl.sub rfl) g2)

theorem State.doPwmGroupCtl_frame {x1} {x2} {x3} (hl : Covers [.regs, .pwr, .spoke, .pwm, .act, .flt] l) (g1 : State.Frame l z x1) :
    State.Frame l z (State.doPwmGroupCtl x1 x2 x3) := by
  delta State.doPwmGroupCtl
  extract_lets -merge -underBinder +onlyGivenNames y1 y2
  refine State.checked_frame (hl.sub rfl) ?_ ?_
  · exact g1
  · intro x3 h4
    extract_lets -merge -underBinder +onlyGivenNames y5
    have h9 : State.Frame l z y5 := by
      subst y5
      refine State.each_frame ?_ ?_
      · exact h4
      · intro x6 x8 h7
        exact State.groupOff_frame (hl.sub rfl) h7
    try clear_value y5
    refine State.ok_frame (hl.sub rfl) ?_
    refine State.each_frame ?_ ?_
    · exact h9
    · intro x10 x12 h11
      exact State.grpEnable_frame (hl.sub rfl) h11

theorem execPeriodBoundary_frame {x1} {x2} (hl : Covers [.regs, .spoke, .pwm, .act] l) (g2 : State.Frame l z x2) :
    State.FrameOut l z (execPeriodBoundary x1 x2) := by
  delta execPeriodBoundary
  refine frame_next ?_
  refine frame_ite ?_ ?_
  · exact State.boundary_frame (hl.sub rfl) g2
  · exact g2

theorem State.doPwmSync_frame {x1} {x2} {x3} (hl : Covers [.regs, .spoke, .pwm, .act, .flt] l) (g1 : State.Frame l z x1) :
    State.Frame l z (State.doPwmSync x1 x2 x3) := by
  delta State.doPwmSync
  extract_lets -merge -underBinder +onlyGivenNames y1 y2
  refine State.checked_frame (hl.sub rfl) ?_ ?_
  · exact g1
  · intro x3 h4
    refine State.ok_frame (hl.sub rfl) ?_
    refine State.each_frame ?_ ?_
    · exact h4
    · intro x5 x7 h6
      exact State.boundary_frame (hl.sub rfl) h6

theorem execPwmSync_frame {x1} {x2} (hl : Covers [.regs, .spoke, .pwm, .act, .flt] l) (g2 : State.Frame l z x2) :
    State.FrameOut l z (execPwmSync x1 x2) := by
  delta execPwmSync
  refine frame_next ?_
  refine State.command_frame (hl.sub rfl) ?_ ?_
  · exact g2
  · intro x1 x3 x4 h2
    exact State.doPwmSync_frame (hl.sub rfl) h2

theorem execPwmGroupCtl_frame {x1} {x2} (hl : Covers [.regs, .pwr, .spoke, .pwm, .act, .flt] l) (g2 : State.Frame l z x2) :
    State.FrameOut l z (execPwmGroupCtl x1 x2) := by
  delta execPwmGroupCtl
  refine frame_next ?_
  refine State.command_frame (hl.sub rfl) ?_ ?_
  · exact g2
  · intro x1 x3 x4 h2
    exact State.doPwmGroupCtl_frame (hl.sub rfl) h2

/-! ### ActuatorCommands -/

theorem State.ksStageImage_frame {x1} {x2} (hl : Covers [.regs, .pwr] l) (g1 : State.Frame l z x1) :
    State.Frame l z (State.ksStageImage x1 x2) := by
  delta State.ksStageImage
  extract_lets -merge -underBinder +onlyGivenNames y1
  have h2 : State.Frame l z y1 := by subst y1; exact State.wr_frame (hl.sub rfl) g1
  try clear_value y1
  exact h2.pwr (hl .pwr (by decide))

theorem execRampArrived_frame {x1} {x2} (hl : Covers [.spoke, .act, .flt] l) (g2 : State.Frame l z x2) :
    State.FrameOut l z (execRampArrived x1 x2) := by
  delta execRampArrived
  exact frame_next (State.rampArrived_frame (hl.sub rfl) g2)

theorem execActBrClear_frame {x1} {x2} (hl : Covers [.spoke, .act, .flt] l) (g2 : State.Frame l z x2) :
    State.FrameOut l z (execActBrClear x1 x2) := by
  delta execActBrClear
  refine frame_next ?_
  refine State.command_frame (hl.sub rfl) ?_ ?_
  · exact g2
  · intro x1 x3 x4 h2
    exact State.actPlace_frame (hl.sub rfl) h2

theorem execBridgeMoveEnd_frame {x1} {x2} (hl : Covers [.regs, .pwr, .spoke, .act, .flt] l) (g2 : State.Frame l z x2) :
    State.FrameOut l z (execBridgeMoveEnd x1 x2) := by
  delta execBridgeMoveEnd
  exact frame_next (State.bridgeMoveEnd_frame (hl.sub rfl) g2)

theorem execActValve_frame {x1} {x2} (hl : Covers [.spoke, .act, .flt] l) (g2 : State.Frame l z x2) :
    State.FrameOut l z (execActValve x1 x2) := by
  delta execActValve
  refine frame_next ?_
  refine State.command_frame (hl.sub rfl) ?_ ?_
  · exact g2
  · intro x1 x3 x4 h2
    exact State.actPlace_frame (hl.sub rfl) h2

theorem execActKsWrite_frame {x1} {x2} (hl : Covers [.regs, .pwr] l) (g2 : State.Frame l z x2) :
    State.FrameOut l z (execActKsWrite x1 x2) := by
  delta execActKsWrite
  extract_lets -merge -underBinder +onlyGivenNames y1
  refine frame_next ?_
  refine frame_ite ?_ ?_
  · exact State.ksStageImage_frame (hl.sub rfl) g2
  · exact g2

theorem execValveOnTimeEnd_frame {x1} {x2} (hl : Covers [.regs, .act] l) (g2 : State.Frame l z x2) :
    State.FrameOut l z (execValveOnTimeEnd x1 x2) := by
  delta execValveOnTimeEnd
  exact frame_next (State.onTimeEnd_frame (hl.sub rfl) g2)

theorem execActRamp_frame {x1} {x2} (hl : Covers [.spoke, .act, .flt] l) (g2 : State.Frame l z x2) :
    State.FrameOut l z (execActRamp x1 x2) := by
  delta execActRamp
  refine frame_next ?_
  refine State.command_frame (hl.sub rfl) ?_ ?_
  · exact g2
  · intro x1 x3 x4 h2
    exact State.actPlace_frame (hl.sub rfl) h2

theorem execInrushEnd_frame {x1} {x2} (hl : Covers [.regs] l) (g2 : State.Frame l z x2) :
    State.FrameOut l z (execInrushEnd x1 x2) := by
  delta execInrushEnd
  refine frame_next ?_
  refine frame_ite ?_ ?_
  · exact State.inrushTick_frame (hl.sub rfl) g2
  · exact g2

theorem execGroupRecoveryStart_frame {x1} {x2} (hl : Covers [.regs, .act] l) (g2 : State.Frame l z x2) :
    State.FrameOut l z (execGroupRecoveryStart x1 x2) := by
  delta execGroupRecoveryStart
  exact frame_next (State.modVgrp_frame (hl.sub rfl) (State.wr_frame (hl.sub rfl) (State.recoveryStart_frame (hl.sub rfl) g2)))

theorem execReversalCoastEnd_frame {x1} {x2} (hl : Covers [.regs, .pwr] l) (g2 : State.Frame l z x2) :
    State.FrameOut l z (execReversalCoastEnd x1 x2) := by
  delta execReversalCoastEnd
  exact frame_next (State.coastEnd_frame (hl.sub rfl) g2)

theorem execActBrMove_frame {x1} {x2} (hl : Covers [.spoke, .act, .flt] l) (g2 : State.Frame l z x2) :
    State.FrameOut l z (execActBrMove x1 x2) := by
  delta execActBrMove
  refine frame_next ?_
  refine State.command_frame (hl.sub rfl) ?_ ?_
  · exact g2
  · intro x1 x3 x4 h2
    exact State.actPlace_frame (hl.sub rfl) h2

theorem execActFan_frame {x1} {x2} (hl : Covers [.spoke, .act, .flt] l) (g2 : State.Frame l z x2) :
    State.FrameOut l z (execActFan x1 x2) := by
  delta execActFan
  refine frame_next ?_
  refine State.command_frame (hl.sub rfl) ?_ ?_
  · exact g2
  · intro x1 x3 x4 h2
    exact State.actPlace_frame (hl.sub rfl) h2

theorem execActAux_frame {x1} {x2} (hl : Covers [.spoke, .act, .flt] l) (g2 : State.Frame l z x2) :
    State.FrameOut l z (execActAux x1 x2) := by
  delta execActAux
  refine frame_next ?_
  refine State.command_frame (hl.sub rfl) ?_ ?_
  · exact g2
  · intro x1 x3 x4 h2
    exact State.actPlace_frame (hl.sub rfl) h2

theorem execGroupRecoveryEnd_frame {x1} {x2} {x3} (hl : Covers [.regs, .spoke, .pwm, .act, .flt] l) (g3 : State.Frame l z x3) :
    State.FrameOut l z (execGroupRecoveryEnd x1 x2 x3) := by
  delta execGroupRecoveryEnd
  refine frame_next ?_
  refine frame_ite ?_ ?_
  · exact State.recoveryEnd_frame (hl.sub rfl) (State.wr_frame (hl.sub rfl) g3)
  · refine frame_ite ?_ ?_
    · exact State.recoveryEnd_frame (hl.sub rfl) g3
    · exact g3

theorem execValveCycleStart_frame {x1} {x2} (hl : Covers [.regs, .act] l) (g2 : State.Frame l z x2) :
    State.FrameOut l z (execValveCycleStart x1 x2) := by
  delta execValveCycleStart
  extract_lets -merge -underBinder +onlyGivenNames y1
  refine frame_next ?_
  refine frame_ite ?_ ?_
  · exact State.cycleStart_frame (hl.sub rfl) (State.wr_frame (hl.sub rfl) g2)
  · exact g2

theorem State.doActSave_frame {x1} {x2} {x3} (hl : Covers [.regs, .pwr, .spoke, .hay, .sec, .flt] l) (g1 : State.Frame l z x1) :
    State.Frame l z (State.doActSave x1 x2 x3) := by
  delta State.doActSave
  refine State.checked_frame (hl.sub rfl) ?_ ?_
  · exact g1
  · intro x1 h2
    exact State.saveObjects_frame (hl.sub rfl) h2

theorem execReversalNotAdmitted_frame {x1} {x2} (hl : Covers [.regs, .pwr, .spoke, .act, .flt] l) (g2 : State.Frame l z x2) :
    State.FrameOut l z (execReversalNotAdmitted x1 x2) := by
  delta execReversalNotAdmitted
  refine frame_next ?_
  refine frame_ite ?_ ?_
  · exact State.reversalFail_frame (hl.sub rfl) g2
  · exact g2

theorem execFanStall_frame {x1} {x2} (hl : Covers [.regs, .spoke, .flt] l) (g2 : State.Frame l z x2) :
    State.FrameOut l z (execFanStall x1 x2) := by
  delta execFanStall
  exact frame_next (State.fanStall_frame (hl.sub rfl) g2)

theorem execActSave_frame {x1} {x2} (hl : Covers [.regs, .pwr, .spoke, .hay, .sec, .flt] l) (g2 : State.Frame l z x2) :
    State.FrameOut l z (execActSave x1 x2) := by
  delta execActSave
  refine frame_next ?_
  refine State.command_frame (hl.sub rfl) ?_ ?_
  · exact g2
  · intro x1 x3 x4 h2
    exact State.doActSave_frame (hl.sub rfl) h2

/-! ### Converters -/

theorem State.modDev_frame {x1} {x2} {x3} (hl : Covers [.adc] l) (g1 : State.Frame l z x1) :
    State.Frame l z (State.modDev x1 x2 x3) := by
  delta State.modDev
  exact g1.adc (hl .adc (by decide))

theorem State.portsReset_frame {x1} (hl : Covers [.regs, .adc] l) (g1 : State.Frame l z x1) :
    State.Frame l z (State.portsReset x1) := by
  delta State.portsReset
  extract_lets -merge -underBinder +onlyGivenNames y1
  have h5 : State.Frame l z y1 := by
    subst y1
    refine State.each_frame ?_ ?_
    · exact g1
    · intro x2 x4 h3
      exact State.clearAttr_frame (hl.sub rfl) h3
  try clear_value y1
  exact h5.adc (hl .adc (by decide))

theorem State.modPort_frame {x1} {x2} {x3} (hl : Covers [.adc] l) (g1 : State.Frame l z x1) :
    State.Frame l z (State.modPort x1 x2 x3) := by
  delta State.modPort
  exact g1.adc (hl .adc (by decide))

theorem State.deviceInvalid_frame {x1} {x2} (hl : Covers [.regs] l) (g1 : State.Frame l z x1) :
    State.Frame l z (State.deviceInvalid x1 x2) := by
  delta State.deviceInvalid
  refine frame_ite ?_ ?_
  · exact State.wr_frame (hl.sub rfl) g1
  · exact g1

theorem State.portPrepare_frame {x1} {x2} (hl : Covers [.adc] l) (g1 : State.Frame l z x1) :
    State.Frame l z (State.portPrepare x1 x2) := by
  delta State.portPrepare
  split
  · exact g1
  · exact State.modPort_frame (hl.sub rfl) (State.modDev_frame (hl.sub rfl) g1)

theorem State.modAdcu_frame {x1} {x2} {x3} (hl : Covers [.adc] l) (g1 : State.Frame l z x1) :
    State.Frame l z (State.modAdcu x1 x2 x3) := by
  delta State.modAdcu
  exact g1.adc (hl .adc (by decide))

theorem State.singleStart_frame {x1} {x2} (hl : Covers [.regs, .adc] l) (g1 : State.Frame l z x1) :
    State.Frame l z (State.singleStart x1 x2) := by
  delta State.singleStart
  extract_lets -merge -underBinder +onlyGivenNames y1 y2
  refine frame_ite ?_ ?_
  · exact g1
  · refine frame_ite ?_ ?_
    · exact State.wr_frame (hl.sub rfl) g1
    · refine frame_ite ?_ ?_
      · exact State.modAdcu_frame (hl.sub rfl) g1
      · exact State.modAdcu_frame (hl.sub rfl) g1

theorem execDeviceInvalid_frame {x1} {x2} (hl : Covers [.regs] l) (g2 : State.Frame l z x2) :
    State.FrameOut l z (execDeviceInvalid x1 x2) := by
  delta execDeviceInvalid
  exact frame_next (State.deviceInvalid_frame (hl.sub rfl) g2)

theorem State.adcTick_frame {x1} (hl : Covers [.adc] l) (g1 : State.Frame l z x1) :
    State.Frame l z (State.adcTick x1) := by
  delta State.adcTick
  refine State.each_frame ?_ ?_
  · exact g1
  · intro x1 x3 h2
    exact State.modAdcu_frame (hl.sub rfl) h2

theorem State.deviceDue_frame {x1} {x2} (hl : Covers [.regs, .adc] l) (g1 : State.Frame l z x1) :
    State.Frame l z (State.deviceDue x1 x2) := by
  delta State.deviceDue
  extract_lets -merge -underBinder +onlyGivenNames y1 y2
  have h3 : State.Frame l z y2 := by
    subst y2
    refine frame_ite ?_ ?_
    · exact State.count_frame (hl.sub rfl) g1
    · exact State.modDev_frame (hl.sub rfl) g1
  try clear_value y2
  exact State.modDev_frame (hl.sub rfl) h3

theorem execDeviceDue_frame {x1} {x2} (hl : Covers [.regs, .adc] l) (g2 : State.Frame l z x2) :
    State.FrameOut l z (execDeviceDue x1 x2) := by
  delta execDeviceDue
  refine frame_next ?_
  refine frame_ite ?_ ?_
  · exact State.deviceDue_frame (hl.sub rfl) g2
  · exact g2

theorem State.doAdcConvert_frame {x1} {x2} {x3} (hl : Covers [.regs, .spoke, .adc, .flt] l) (g1 : State.Frame l z x1) :
    State.Frame l z (State.doAdcConvert x1 x2 x3) := by
  delta State.doAdcConvert
  extract_lets -merge -underBinder +onlyGivenNames y1
  refine State.checked_frame (hl.sub rfl) ?_ ?_
  · exact g1
  · intro x2 h3
    extract_lets -merge -underBinder +onlyGivenNames y4
    have h5 : State.Frame l z y4 := by subst y4; exact State.singleStart_frame (hl.sub rfl) h3
    try clear_value y4
    exact h5.adc (hl .adc (by decide))

theorem State.pendStart_frame {x1} {x2} (hl : Covers [.adc] l) (g1 : State.Frame l z x1) :
    State.Frame l z (State.pendStart x1 x2) := by
  delta State.pendStart
  extract_lets -merge -underBinder +onlyGivenNames y1
  refine frame_ite ?_ ?_
  · exact State.modAdcu_frame (hl.sub rfl) g1
  · exact g1

theorem State.adcHook_frame {x1} {x2} {x3} {x4} (hl : Covers [.regs, .adc] l) (g1 : State.Frame l z x1) :
    State.Frame l z (State.adcHook x1 x2 x3 x4) := by
  delta State.adcHook
  refine frame_ite ?_ ?_
  · refine frame_ite ?_ ?_
    · exact State.singleStart_frame (hl.sub rfl) g1
    · exact g1
  · refine frame_ite ?_ ?_
    · exact State.modAdcu_frame (hl.sub rfl) g1
    · refine frame_ite ?_ ?_
      · exact State.modDev_frame (hl.sub rfl) g1
      · exact g1

theorem State.snsNote_frame {x1} {x2} {x3} {x4} (hl : Covers [.spoke] l) (g1 : State.Frame l z x1) :
    State.Frame l z (State.snsNote x1 x2 x3 x4) := by
  delta State.snsNote
  exact State.note_frame (hl.sub rfl) g1

theorem State.reserveUnits_frame {x1} (hl : Covers [.adc] l) (g1 : State.Frame l z x1) :
    State.Frame l z (State.reserveUnits x1) := by
  delta State.reserveUnits
  refine State.each_frame ?_ ?_
  · exact g1
  · intro x1 x3 h2
    exact State.modAdcu_frame (hl.sub rfl) h2

theorem State.postAin_frame {x1} {x2} {x3} (hl : Covers [.regs, .spoke, .adc] l) (g1 : State.Frame l z x1) :
    State.Frame l z (State.postAin x1 x2 x3) := by
  delta State.postAin
  extract_lets -merge -underBinder +onlyGivenNames y1 y2 y3 y4
  have h5 : State.Frame l z y4 := by subst y4; exact State.wrs_frame (hl.sub rfl) g1
  try clear_value y4
  extract_lets -merge -underBinder +onlyGivenNames y6 y7 y8
  have h9 : State.Frame l z y8 := by subst y8; exact h5.adc (hl .adc (by decide))
  try clear_value y8
  refine frame_ite ?_ ?_
  · exact State.snsNote_frame (hl.sub rfl) h9
  · exact h9

theorem State.seqResult_frame {x1} {x2} {x3} {x4} {x5} {x6} (hl : Covers [.regs, .adc] l) (g1 : State.Frame l z x1) :
    State.Frame l z (State.seqResult x1 x2 x3 x4 x5 x6) := by
  delta State.seqResult
  extract_lets -merge -underBinder +onlyGivenNames y1 y2 y3
  have h4 : State.Frame l z y3 := by subst y3; exact State.wrs_frame (hl.sub rfl) g1
  try clear_value y3
  extract_lets -merge -underBinder +onlyGivenNames y5
  have h6 : State.Frame l z y5 := by subst y5; exact State.modAdcu_frame (hl.sub rfl) h4
  try clear_value y5
  refine frame_ite ?_ ?_
  · exact State.modAdcu_frame (hl.sub rfl) h6
  · exact State.pendStart_frame (hl.sub rfl) (State.modAdcu_frame (hl.sub rfl) (State.wr_frame (hl.sub rfl) h6))

theorem State.devGood_frame {x1} {x2} (hl : Covers [.regs, .spoke, .adc] l) (g1 : State.Frame l z x1) :
    State.Frame l z (State.devGood x1 x2) := by
  delta State.devGood
  extract_lets -merge -underBinder +onlyGivenNames y1 y2
  have h3 : State.Frame l z y2 := by subst y2; exact State.modDev_frame (hl.sub rfl) (State.wrs_frame (hl.sub rfl) g1)
  try clear_value y2
  refine frame_ite ?_ ?_
  · exact State.snsNote_frame (hl.sub rfl) h3
  · exact h3

theorem execAdcConvert_frame {x1} {x2} (hl : Covers [.regs, .spoke, .adc, .flt] l) (g2 : State.Frame l z x2) :
    State.FrameOut l z (execAdcConvert x1 x2) := by
  delta execAdcConvert
  refine frame_next ?_
  refine State.command_frame (hl.sub rfl) ?_ ?_
  · exact g2
  · intro x1 x3 x4 h2
    exact State.doAdcConvert_frame (hl.sub rfl) h2

theorem State.releaseUnits_frame {x1} (hl : Covers [.adc] l) (g1 : State.Frame l z x1) :
    State.Frame l z (State.releaseUnits x1) := by
  delta State.releaseUnits
  refine State.each_frame ?_ ?_
  · exact g1
  · intro x1 x3 h2
    refine frame_ite ?_ ?_
    · exact State.pendStart_frame (hl.sub rfl) (State.modAdcu_frame (hl.sub rfl) h2)
    · exact h2

theorem State.portFreed_frame {x1} {x2} (hl : Covers [.regs, .spoke] l) (g1 : State.Frame l z x1) :
    State.Frame l z (State.portFreed x1 x2) := by
  delta State.portFreed
  refine frame_ite ?_ ?_
  · exact State.snsNote_frame (hl.sub rfl) (State.wr_frame (hl.sub rfl) g1)
  · exact g1

theorem State.adcResLost_frame {x1} {x2} (hl : Covers [.adc] l) (g1 : State.Frame l z x1) :
    State.Frame l z (State.adcResLost x1 x2) := by
  delta State.adcResLost
  exact State.modAdcu_frame (hl.sub rfl) g1

theorem State.devStage_frame {x1} (hl : Covers [.regs] l) (g1 : State.Frame l z x1) :
    State.Frame l z (State.devStage x1) := by
  delta State.devStage
  refine State.each_frame ?_ ?_
  · exact g1
  · intro x1 x3 h2
    exact State.deviceInvalid_frame (hl.sub rfl) (State.count_frame (hl.sub rfl) h2)

theorem State.adcReset_frame {x1} (hl : Covers [.regs, .spoke, .adc, .flt] l) (g1 : State.Frame l z x1) :
    State.Frame l z (State.adcReset x1) := by
  delta State.adcReset
  extract_lets -merge -underBinder +onlyGivenNames y1 y2 y3
  have h7 : State.Frame l z y3 := by
    subst y3
    refine State.each_frame ?_ ?_
    · exact g1
    · intro x4 x6 h5
      exact State.clearAttr_frame (hl.sub rfl) h5
  try clear_value y3
  refine State.finish?_frame (hl.sub rfl) ?_
  extract_lets -merge -underBinder +onlyGivenNames y8
  have h9 : State.Frame l z y8 := by subst y8; exact State.wrB_frame (hl.sub rfl) h7
  try clear_value y8
  exact h9.adc (hl .adc (by decide))

theorem State.devError_frame {x1} {x2} {x3} (hl : Covers [.regs, .spoke, .adc] l) (g1 : State.Frame l z x1) :
    State.Frame l z (State.devError x1 x2 x3) := by
  delta State.devError
  extract_lets -merge -underBinder +onlyGivenNames y1 y2
  have h3 : State.Frame l z y2 := by subst y2; exact State.modDev_frame (hl.sub rfl) (State.wr_frame (hl.sub rfl) g1)
  try clear_value y2
  refine frame_ite ?_ ?_
  · exact State.snsNote_frame (hl.sub rfl) h3
  · exact h3

theorem execAdcSinglePendingStart_frame {x1} {x2} (hl : Covers [.adc] l) (g2 : State.Frame l z x2) :
    State.FrameOut l z (execAdcSinglePendingStart x1 x2) := by
  delta execAdcSinglePendingStart
  exact frame_next (State.pendStart_frame (hl.sub rfl) g2)

theorem State.devTick_frame {x1} (hl : Covers [.regs, .adc] l) (g1 : State.Frame l z x1) :
    State.Frame l z (State.devTick x1) := by
  delta State.devTick
  refine frame_ite ?_ ?_
  · refine State.each_frame ?_ ?_
    · exact g1
    · intro x1 x3 h2
      split
      · exact State.modDev_frame (hl.sub rfl) h2
      · refine frame_ite ?_ ?_
        · exact State.deviceDue_frame (hl.sub rfl) h2
        · exact h2
  · exact g1

theorem State.arrayChunk_frame {x1} {x2} {x3} (hl : Covers [.regs, .spoke, .adc] l) (g1 : State.Frame l z x1) :
    State.Frame l z (State.arrayChunk x1 x2 x3) := by
  delta State.arrayChunk
  extract_lets -merge -underBinder +onlyGivenNames y1 y2 y3
  have h4 : State.Frame l z y3 := by subst y3; exact State.devGood_frame (hl.sub rfl) g1
  try clear_value y3
  refine frame_ite ?_ ?_
  · exact State.modDev_frame (hl.sub rfl) (State.wrap_frame (hl.sub rfl) h4)
  · exact State.modDev_frame (hl.sub rfl) h4

theorem State.adcRes_frame {x1} {x2} (hl : Covers [.regs, .spoke, .adc] l) (g1 : State.Frame l z x1) :
    State.Frame l z (State.adcRes x1 x2) := by
  delta State.adcRes
  extract_lets -merge -underBinder +onlyGivenNames y1 y2
  have h3 : State.Frame l z y2 := by subst y2; exact State.modAdcu_frame (hl.sub rfl) g1
  try clear_value y2
  extract_lets -merge -underBinder +onlyGivenNames y4
  have h8 : State.Frame l z y4 := by
    subst y4
    refine State.each_frame ?_ ?_
    · exact h3
    · intro x5 x7 h6
      exact h6.adc (hl .adc (by decide))
  try clear_value y4
  refine State.each_frame ?_ ?_
  · exact h8
  · intro x9 x11 h10
    exact State.postAin_frame (hl.sub rfl) h10

theorem execAdcCtlGo_frame {x1} {x2} (hl : Covers [.regs, .adc] l) (g2 : State.Frame l z x2) :
    State.FrameOut l z (execAdcCtlGo x1 x2) := by
  delta execAdcCtlGo
  exact frame_next (State.adcHook_frame (hl.sub rfl) (State.setRw_frame (hl.sub rfl) g2))

theorem State.winFire_frame {x1} {x2} (hl : Covers [.regs, .adc] l) (g1 : State.Frame l z x1) :
    State.Frame l z (State.winFire x1 x2) := by
  delta State.winFire
  split
  · exact g1
  · exact State.pendStart_frame (hl.sub rfl) (State.modAdcu_frame (hl.sub rfl) (State.wrs_frame (hl.sub rfl) g1))

theorem State.seqGo_frame {x1} {x2} (hl : Covers [.regs, .spoke, .adc] l) (g1 : State.Frame l z x1) :
    State.Frame l z (State.seqGo x1 x2) := by
  delta State.seqGo
  extract_lets -merge -underBinder +onlyGivenNames y1
  refine frame_ite ?_ ?_
  · exact State.snsNote_frame (hl.sub rfl) (State.wr_frame (hl.sub rfl) g1)
  · exact State.modAdcu_frame (hl.sub rfl) (State.wr_frame (hl.sub rfl) g1)

theorem State.seqStart_frame {x1} {x2} (hl : Covers [.regs, .spoke, .adc, .flt] l) (g1 : State.Frame l z x1) :
    State.Frame l z (State.seqStart x1 x2) := by
  delta State.seqStart
  refine frame_ite ?_ ?_
  · exact g1
  · refine frame_ite ?_ ?_
    · exact State.fault_frame (hl.sub rfl) (State.snsNote_frame (hl.sub rfl) (State.wr_frame (hl.sub rfl) g1))
    · refine frame_ite ?_ ?_
      · exact State.modAdcu_frame (hl.sub rfl) g1
      · exact State.seqGo_frame (hl.sub rfl) g1

theorem State.singleDone_frame {x1} {x2} {x3} {x4} {x5} (hl : Covers [.regs, .spoke, .adc, .flt] l) (g1 : State.Frame l z x1) :
    State.Frame l z (State.singleDone x1 x2 x3 x4 x5) := by
  delta State.singleDone
  split
  · exact g1
  · extract_lets -merge -underBinder +onlyGivenNames y1
    have h2 : State.Frame l z y1 := by subst y1; exact State.modAdcu_frame (hl.sub rfl) g1
    try clear_value y1
    extract_lets -merge -underBinder +onlyGivenNames y3
    have h4 : State.Frame l z y3 := by subst y3; exact State.wrs_frame (hl.sub rfl) h2
    try clear_value y3
    extract_lets -merge -underBinder +onlyGivenNames y5
    have h8 : State.Frame l z y5 := by
      subst y5
      split
      · exact h4
      · refine State.ok_frame (hl.sub rfl) ?_
        extract_lets -merge -underBinder +onlyGivenNames y6
        have h7 : State.Frame l z y6 := by subst y6; exact State.wrs_frame (hl.sub rfl) h4
        try clear_value y6
        exact h7.adc (hl .adc (by decide))
    try clear_value y5
    refine frame_ite ?_ ?_
    · exact State.seqGo_frame (hl.sub rfl) h8
    · exact State.pendStart_frame (hl.sub rfl) h8

theorem State.portEnd_frame {x1} {x2} {x3} {x4} (hl : Covers [.regs, .spoke, .adc] l) (g1 : State.Frame l z x1) :
    State.Frame l z (State.portEnd x1 x2 x3 x4) := by
  delta State.portEnd
  split
  · exact g1
  · extract_lets -merge -underBinder +onlyGivenNames y1
    have h2 : State.Frame l z y1 := by subst y1; exact State.modPort_frame (hl.sub rfl) (State.wr_frame (hl.sub rfl) g1)
    try clear_value y1
    refine frame_ite ?_ ?_
    · exact h2
    · exact State.devError_frame (hl.sub rfl) h2

theorem execTransactionEnd_frame {x1} {x2} {x3} {x4} (hl : Covers [.regs, .spoke, .adc] l) (g4 : State.Frame l z x4) :
    State.FrameOut l z (execTransactionEnd x1 x2 x3 x4) := by
  delta execTransactionEnd
  exact frame_next (State.portEnd_frame (hl.sub rfl) g4)

theorem State.convEnd_frame {x1} {x2} {x3} {x4} {x5} (hl : Covers [.regs, .spoke, .adc, .flt] l) (g1 : State.Frame l z x1) :
    State.Frame l z (State.convEnd x1 x2 x3 x4 x5) := by
  delta State.convEnd
  split
  · exact State.seqResult_frame (hl.sub rfl) g1
  · exact State.singleDone_frame (hl.sub rfl) g1

theorem execAdcSingleDone_frame {x1} {x2} {x3} {x4} {x5} (hl : Covers [.regs, .spoke, .adc, .flt] l) (g5 : State.Frame l z x5) :
    State.FrameOut l z (execAdcSingleDone x1 x2 x3 x4 x5) := by
  delta execAdcSingleDone
  exact frame_next (State.singleDone_frame (hl.sub rfl) g5)

theorem State.portTimeout_frame {x1} {x2} (hl : Covers [.regs, .spoke, .adc] l) (g1 : State.Frame l z x1) :
    State.Frame l z (State.portTimeout x1 x2) := by
  delta State.portTimeout
  exact State.portEnd_frame (hl.sub rfl) g1

theorem State.doAdcSave_frame {x1} {x2} {x3} (hl : Covers [.regs, .pwr, .spoke, .hay, .sec, .flt] l) (g1 : State.Frame l z x1) :
    State.Frame l z (State.doAdcSave x1 x2 x3) := by
  delta State.doAdcSave
  refine State.checked_frame (hl.sub rfl) ?_ ?_
  · exact g1
  · intro x1 h2
    exact State.saveObjects_frame (hl.sub rfl) h2

theorem State.htResult_frame {x1} {x2} {x3} (hl : Covers [.regs, .spoke, .adc] l) (g1 : State.Frame l z x1) :
    State.Frame l z (State.htResult x1 x2 x3) := by
  delta State.htResult
  extract_lets -merge -underBinder +onlyGivenNames y1 y2
  refine frame_ite ?_ ?_
  · exact State.devError_frame (hl.sub rfl) g1
  · extract_lets -merge -underBinder +onlyGivenNames y3 y4
    exact State.devGood_frame (hl.sub rfl) (State.wrs_frame (hl.sub rfl) g1)

theorem State.portTake_frame {x1} {x2} (hl : Covers [.regs, .spoke, .adc] l) (g1 : State.Frame l z x1) :
    State.Frame l z (State.portTake x1 x2) := by
  delta State.portTake
  split
  · exact g1
  · extract_lets -merge -underBinder +onlyGivenNames y1
    have h2 : State.Frame l z y1 := by subst y1; exact State.modPort_frame (hl.sub rfl) g1
    try clear_value y1
    extract_lets -merge -underBinder +onlyGivenNames y3
    try clear_value y3
    refine frame_ite ?_ ?_
    · exact h2
    · split
      · refine frame_ite ?_ ?_
        · exact State.modDev_frame (hl.sub rfl) h2
        · exact State.htResult_frame (hl.sub rfl) h2
      · exact State.arrayChunk_frame (hl.sub rfl) h2
      · extract_lets -merge -underBinder +onlyGivenNames y4
        have h5 : State.Frame l z y4 := by subst y4; exact State.devGood_frame (hl.sub rfl) h2
        try clear_value y4
        refine frame_ite ?_ ?_
        · exact h5.adc (hl .adc (by decide))
        · exact h5

theorem State.sptSvc_frame {x1} (hl : Covers [.regs, .spoke, .adc] l) (g1 : State.Frame l z x1) :
    State.Frame l z (State.sptSvc x1) := by
  delta State.sptSvc
  refine frame_ite ?_ ?_
  · refine State.each_frame ?_ ?_
    · refine State.each_frame ?_ ?_
      · exact g1
      · intro x1 x3 h2
        exact State.portTake_frame (hl.sub rfl) h2
    · intro x4 x6 h5
      exact State.portPrepare_frame (hl.sub rfl) h5
  · exact g1

theorem execTransactionTimeout_frame {x1} {x2} (hl : Covers [.regs, .spoke, .adc] l) (g2 : State.Frame l z x2) :
    State.FrameOut l z (execTransactionTimeout x1 x2) := by
  delta execTransactionTimeout
  exact frame_next (State.portTimeout_frame (hl.sub rfl) g2)

theorem State.portGo_frame {x1} {x2} {x3} {x4} (hl : Covers [.regs, .spoke, .adc, .flt] l) (g1 : State.Frame l z x1) :
    State.Frame l z (State.portGo x1 x2 x3 x4) := by
  delta State.portGo
  split
  · exact g1
  · extract_lets -merge -underBinder +onlyGivenNames y1
    have h2 : State.Frame l z y1 := by subst y1; exact State.modPort_frame (hl.sub rfl) (State.wr_frame (hl.sub rfl) g1)
    try clear_value y1
    refine frame_ite ?_ ?_
    · refine frame_ite ?_ ?_
      · exact State.portFreed_frame (hl.sub rfl) (State.count_frame (hl.sub rfl) h2)
      · extract_lets -merge -underBinder +onlyGivenNames y3
        have h4 : State.Frame l z y3 := by subst y3; exact State.wr_frame (hl.sub rfl) (State.portEnd_frame (hl.sub rfl) h2)
        try clear_value y3
        exact State.fault_frame (hl.sub rfl) (State.snsNote_frame (hl.sub rfl) h4)
    · exact State.portFreed_frame (hl.sub rfl) h2

theorem execAdcConversionEnd_frame {x1} {x2} {x3} {x4} {x5} (hl : Covers [.regs, .spoke, .adc, .flt] l) (g5 : State.Frame l z x5) :
    State.FrameOut l z (execAdcConversionEnd x1 x2 x3 x4 x5) := by
  delta execAdcConversionEnd
  exact frame_next (State.convEnd_frame (hl.sub rfl) g5)

theorem execAdcSave_frame {x1} {x2} (hl : Covers [.regs, .pwr, .spoke, .hay, .sec, .flt] l) (g2 : State.Frame l z x2) :
    State.FrameOut l z (execAdcSave x1 x2) := by
  delta execAdcSave
  refine frame_next ?_
  refine State.command_frame (hl.sub rfl) ?_ ?_
  · exact g2
  · intro x1 x3 x4 h2
    exact State.doAdcSave_frame (hl.sub rfl) h2

theorem State.portsGo_frame {x1} {x2} {x3} (hl : Covers [.regs, .spoke, .adc, .flt] l) (g1 : State.Frame l z x1) :
    State.Frame l z (State.portsGo x1 x2 x3) := by
  delta State.portsGo
  refine frame_ite ?_ ?_
  · refine State.each_frame ?_ ?_
    · exact g1
    · intro x1 x3 h2
      exact State.portGo_frame (hl.sub rfl) h2
  · exact g1

/-! ### Transport -/

theorem State.popOut_frame {x1} {x2} (hl : Covers [.spoke] l) (g1 : State.Frame l z x1) :
    State.Frame l z (State.popOut x1 x2) := by
  delta State.popOut
  exact State.modChan_frame (hl.sub rfl) g1

theorem State.fillStream_frame {s t need rr k} (hl : Covers [.spoke] l) (h : State.Frame l z s) :
    State.Frame l z (State.fillStream s t need rr k).1 := by
  induction k generalizing s rr with
  | zero => exact h
  | succ k ih =>
    unfold State.fillStream
    refine frame_fst_ite h ?_
    split
    · exact h
    · dsimp only
      split
      · exact h
      · exact ih (State.popOut_frame (hl.sub rfl) (h.spoke (hl .spoke (by decide))))

theorem State.rtsUpdate_frame {x1} (hl : Covers [.host] l) (g1 : State.Frame l z x1) :
    State.Frame l z (State.rtsUpdate x1) := by
  delta State.rtsUpdate
  refine frame_ite ?_ ?_
  · exact g1.host (hl .host (by decide))
  · refine frame_ite ?_ ?_
    · exact g1.host (hl .host (by decide))
    · exact g1

theorem State.takeStream_frame {x1} {x2} {x3} {x4} (hl : Covers [.spoke] l) (g1 : State.Frame l z x1) :
    State.Frame l z (State.takeStream x1 x2 x3 x4).2.1 := by
  delta State.takeStream
  extract_lets -merge -underBinder +onlyGivenNames y1
  have h2 : State.Frame l z y1.1 := by subst y1; exact State.fillStream_frame (hl.sub rfl) g1
  try clear_value y1
  extract_lets -merge -underBinder +onlyGivenNames y3
  refine frame_mk_snd_fst ?_
  refine frame_mk_fst ?_
  extract_lets -merge -underBinder +onlyGivenNames y4
  have h5 : State.Frame l z y4 := by subst y4; exact h2
  try clear_value y4
  exact h5.spoke (hl .spoke (by decide))

theorem State.setRx_frame {x1} {x2} {x3} (hl : Covers [.spoke, .host] l) (g1 : State.Frame l z x1) :
    State.Frame l z (State.setRx x1 x2 x3) := by
  delta State.setRx
  extract_lets -merge -underBinder +onlyGivenNames y1 y2 y3
  have h4 : State.Frame l z y3 := by subst y3; exact g1.spoke (hl .spoke (by decide))
  try clear_value y3
  refine frame_ite ?_ ?_
  · refine State.rtsUpdate_frame (hl.sub rfl) ?_
    refine State.when_frame ?_ ?_
    · exact h4
    · intro x5 h6
      exact h6.host (hl .host (by decide))
  · exact h4

theorem State.rxDiscard_frame {x1} {x2} (hl : Covers [.spoke, .host] l) (g1 : State.Frame l z x1) :
    State.Frame l z (State.rxDiscard x1 x2) := by
  delta State.rxDiscard
  extract_lets -merge -underBinder +onlyGivenNames y1
  refine frame_ite ?_ ?_
  · exact g1
  · exact State.setRx_frame (hl.sub rfl) g1

theorem State.rxBytes_frame {x1} {x2} {x3} (hl : Covers [.spoke, .host] l) (g1 : State.Frame l z x1) :
    State.Frame l z (State.rxBytes x1 x2 x3) := by
  delta State.rxBytes
  extract_lets -merge -underBinder +onlyGivenNames y1
  exact State.setRx_frame (hl.sub rfl) g1

end Sys2Proof.Machine
end

