-- ==== Sys2Proof/Laws/Frame3.lean ====
section
/-!
SUPPORT. Sys2Proof/Laws/Frame3.lean: the operations of Bus, Stall and the parts
of the state they can change.
-/

namespace Sys2Proof.Machine

variable {l : List Part} {z : State}

/-! ### Bus -/

theorem State.modBus_frame {x1} {x2} {x3} (hl : Covers [.bus] l) (g1 : State.Frame l z x1) :
    State.Frame l z (State.modBus x1 x2 x3) := by
  delta State.modBus
  exact g1.bus (hl .bus (by decide))

theorem State.busFrameEnd_frame {x1} {x2} {x3} {x4} (hl : Covers [.bus] l) (g1 : State.Frame l z x1) :
    State.Frame l z (State.busFrameEnd x1 x2 x3 x4) := by
  delta State.busFrameEnd
  extract_lets -merge -underBinder +onlyGivenNames y1
  refine frame_ite ?_ ?_
  · exact State.modBus_frame (hl.sub rfl) g1
  · exact g1

theorem State.busStart_frame {x1} {x2} (hl : Covers [.regs, .bus] l) (g1 : State.Frame l z x1) :
    State.Frame l z (State.busStart x1 x2) := by
  delta State.busStart
  extract_lets -merge -underBinder +onlyGivenNames y1
  refine frame_ite ?_ ?_
  · exact g1
  · exact State.modBus_frame (hl.sub rfl) (State.wr_frame (hl.sub rfl) g1)

theorem State.modConn_frame {x1} {x2} {x3} (hl : Covers [.bus] l) (g1 : State.Frame l z x1) :
    State.Frame l z (State.modConn x1 x2 x3) := by
  delta State.modConn
  exact g1.bus (hl .bus (by decide))

theorem State.eventOn_frame {x1} {x2} {x3} {x4} (hl : Covers [.spoke] l) (g1 : State.Frame l z x1) :
    State.Frame l z (State.eventOn x1 x2 x3 x4) := by
  delta State.eventOn
  exact State.modChan_frame (hl.sub rfl) g1

theorem State.doBusTx_frame {x1} {x2} {x3} (hl : Covers [.spoke, .bus, .flt] l) (g1 : State.Frame l z x1) :
    State.Frame l z (State.doBusTx x1 x2 x3) := by
  delta State.doBusTx
  extract_lets -merge -underBinder +onlyGivenNames y1 y2 y3 y4 y5 y6
  refine State.checked_frame (hl.sub rfl) ?_ ?_
  · exact g1
  · intro x7 h8
    exact State.modBus_frame (hl.sub rfl) h8

theorem State.busTransmit_frame {x1} {x2} {x3} {x4} (hl : Covers [.bus] l) (g1 : State.Frame l z x1) :
    State.Frame l z (State.busTransmit x1 x2 x3 x4) := by
  delta State.busTransmit
  exact State.modBus_frame (hl.sub rfl) g1

theorem State.busTxDone_frame {x1} {x2} (hl : Covers [.spoke, .bus, .flt] l) (g1 : State.Frame l z x1) :
    State.Frame l z (State.busTxDone x1 x2) := by
  delta State.busTxDone
  split
  · exact g1
  · extract_lets -merge -underBinder +onlyGivenNames y1
    exact State.finish?_frame (hl.sub rfl) (State.modBus_frame (hl.sub rfl) g1)

theorem State.mstpPoll_frame {x1} {x2} {x3} (hl : Covers [.bus] l) (g1 : State.Frame l z x1) :
    State.Frame l z (State.mstpPoll x1 x2 x3) := by
  delta State.mstpPoll
  extract_lets -merge -underBinder +onlyGivenNames y1 y2
  refine frame_ite ?_ ?_
  · exact State.modBus_frame (hl.sub rfl) g1
  · exact State.busTransmit_frame (hl.sub rfl) (State.modBus_frame (hl.sub rfl) g1)

theorem State.spokeService_frame {x1} {x2} {x3} {x4} (hl : Covers [.spoke, .host, .bus] l) (g1 : State.Frame l z x1) :
    State.Frame l z (State.spokeService x1 x2 x3 x4) := by
  delta State.spokeService
  extract_lets -merge -underBinder +onlyGivenNames y1
  refine frame_ite ?_ ?_
  · exact g1
  · extract_lets -merge -underBinder +onlyGivenNames y2 y3
    have h4 : State.Frame l z y3 := by subst y3; exact State.modBus_frame (hl.sub rfl) (State.rxBytes_frame (hl.sub rfl) g1)
    try clear_value y3
    refine frame_ite ?_ ?_
    · exact h4
    · extract_lets -merge -underBinder +onlyGivenNames y5
      have h6 : State.Frame l z y5.2.1 := by subst y5; exact State.takeStream_frame (hl.sub rfl) h4
      try clear_value y5
      exact State.busTransmit_frame (hl.sub rfl) (State.modBus_frame (hl.sub rfl) h6)

theorem State.remRun_frame {x1} (hl : Covers [.regs] l) (g1 : State.Frame l z x1) :
    State.Frame l z (State.remRun x1) := by
  delta State.remRun
  extract_lets -merge -underBinder +onlyGivenNames y1
  exact State.wrB_frame (hl.sub rfl) g1

theorem State.mstpReply_frame {x1} {x2} (hl : Covers [.bus] l) (g1 : State.Frame l z x1) :
    State.Frame l z (State.mstpReply x1 x2) := by
  delta State.mstpReply
  refine frame_ite ?_ ?_
  · exact g1
  · split
    · exact g1
    · exact State.busTransmit_frame (hl.sub rfl) (State.modBus_frame (hl.sub rfl) g1)

theorem State.busPartial_frame {x1} {x2} (hl : Covers [.spoke, .host] l) (g1 : State.Frame l z x1) :
    State.Frame l z (State.busPartial x1 x2) := by
  delta State.busPartial
  refine frame_ite ?_ ?_
  · exact State.rxDiscard_frame (hl.sub rfl) g1
  · exact g1

theorem State.mstpPostpone_frame {x1} {x2} (hl : Covers [.bus] l) (g1 : State.Frame l z x1) :
    State.Frame l z (State.mstpPostpone x1 x2) := by
  delta State.mstpPostpone
  split
  · exact g1
  · exact State.busTransmit_frame (hl.sub rfl) (State.modBus_frame (hl.sub rfl) g1)

theorem State.gpPdu_frame {x1} {x2} (hl : Covers [.regs, .bus] l) (g1 : State.Frame l z x1) :
    State.Frame l z (State.gpPdu x1 x2).2 := by
  delta State.gpPdu
  extract_lets -merge -underBinder +onlyGivenNames y1 y2 y3 y4 y5
  exact frame_mk_snd (State.modConn_frame (hl.sub rfl) (State.wrs_frame (hl.sub rfl) g1))

theorem State.mstpPass_frame {x1} {x2} (hl : Covers [.bus] l) (g1 : State.Frame l z x1) :
    State.Frame l z (State.mstpPass x1 x2) := by
  delta State.mstpPass
  split
  · exact State.busTransmit_frame (hl.sub rfl) (State.modBus_frame (hl.sub rfl) g1)
  · exact State.mstpPoll_frame (hl.sub rfl) g1

theorem State.gpState_frame {x1} {x2} {x3} {x4} (hl : Covers [.regs, .spoke] l) (g1 : State.Frame l z x1) :
    State.Frame l z (State.gpState x1 x2 x3 x4) := by
  delta State.gpState
  extract_lets -merge -underBinder +onlyGivenNames y1 y2
  have h3 : State.Frame l z y2 := by subst y2; exact State.wrs_frame (hl.sub rfl) g1
  try clear_value y2
  extract_lets -merge -underBinder +onlyGivenNames y4
  have h7 : State.Frame l z y4 := by
    subst y4
    refine State.when_frame ?_ ?_
    · exact h3
    · intro x5 h6
      exact State.wr_frame (hl.sub rfl) h6
  try clear_value y4
  refine frame_ite ?_ ?_
  · exact h7
  · exact State.event_frame (hl.sub rfl) h7

theorem State.busRx_frame {x1} {x2} {x3} {x4} {x5} {x6} (hl : Covers [.spoke] l) (g1 : State.Frame l z x1) :
    State.Frame l z (State.busRx x1 x2 x3 x4 x5 x6) := by
  delta State.busRx
  exact State.event_frame (hl.sub rfl) g1

theorem State.busStage_frame {x1} (hl : Covers [.spoke, .host, .bus] l) (g1 : State.Frame l z x1) :
    State.Frame l z (State.busStage x1) := by
  delta State.busStage
  extract_lets -merge -underBinder +onlyGivenNames y1
  have h5 : State.Frame l z y1 := by
    subst y1
    refine State.each_frame ?_ ?_
    · exact g1
    · intro x2 x4 h3
      exact State.modConn_frame (hl.sub rfl) h3
  try clear_value y1
  refine State.each_frame ?_ ?_
  · exact h5
  · intro x6 x8 h7
    exact State.busPartial_frame (hl.sub rfl) (State.modBus_frame (hl.sub rfl) h7)

theorem State.gpFrame_frame {x1} {x2} {x3} (hl : Covers [.regs, .bus] l) (g1 : State.Frame l z x1) :
    State.Frame l z (State.gpFrame x1 x2 x3).2 := by
  delta State.gpFrame
  extract_lets -merge -underBinder +onlyGivenNames y1
  have h2 : State.Frame l z y1.2 := by subst y1; exact State.gpPdu_frame (hl.sub rfl) g1
  try clear_value y1
  refine frame_snd_ite ?_ ?_
  · exact frame_mk_snd h2
  · exact frame_mk_snd h2

theorem State.modbusTimeout_frame {x1} {x2} (hl : Covers [.regs, .spoke, .bus] l) (g1 : State.Frame l z x1) :
    State.Frame l z (State.modbusTimeout x1 x2) := by
  delta State.modbusTimeout
  split
  · exact g1
  · split
    · exact g1
    · exact State.busRx_frame (hl.sub rfl) (State.count_frame (hl.sub rfl) (State.modBus_frame (hl.sub rfl) g1))

theorem State.modbusNext_frame {x1} {x2} (hl : Covers [.regs, .bus] l) (g1 : State.Frame l z x1) :
    State.Frame l z (State.modbusNext x1 x2) := by
  delta State.modbusNext
  refine frame_ite ?_ ?_
  · exact g1
  · split
    · exact g1
    · exact State.busTransmit_frame (hl.sub rfl) (State.modBus_frame (hl.sub rfl) g1)
    · extract_lets -merge -underBinder +onlyGivenNames y1
      have h2 : State.Frame l z y1 := by subst y1; exact State.modBus_frame (hl.sub rfl) g1
      try clear_value y1
      refine frame_ite ?_ ?_
      · exact h2
      · extract_lets -merge -underBinder +onlyGivenNames y3
        have h4 : State.Frame l z y3.2 := by subst y3; exact State.gpFrame_frame (hl.sub rfl) h2
        try clear_value y3
        exact State.busTransmit_frame (hl.sub rfl) (State.modBus_frame (hl.sub rfl) h4)

theorem State.gpOff_frame {x1} {x2} (hl : Covers [.regs, .spoke, .bus] l) (g1 : State.Frame l z x1) :
    State.Frame l z (State.gpOff x1 x2) := by
  delta State.gpOff
  exact State.gpState_frame (hl.sub rfl) (State.modConn_frame (hl.sub rfl) g1)

theorem State.doBusSave_frame {x1} {x2} {x3} (hl : Covers [.regs, .pwr, .spoke, .hay, .sec, .flt] l) (g1 : State.Frame l z x1) :
    State.Frame l z (State.doBusSave x1 x2 x3) := by
  delta State.doBusSave
  refine State.checked_frame (hl.sub rfl) ?_ ?_
  · exact g1
  · intro x1 h2
    exact State.saveObjects_frame (hl.sub rfl) h2

theorem State.gpFail_frame {x1} {x2} {x3} (hl : Covers [.regs, .spoke, .flt] l) (g1 : State.Frame l z x1) :
    State.Frame l z (State.gpFail x1 x2 x3) := by
  delta State.gpFail
  extract_lets -merge -underBinder +onlyGivenNames y1 y2
  have h3 : State.Frame l z y2 := by subst y2; exact State.gpState_frame (hl.sub rfl) g1
  try clear_value y2
  refine frame_ite ?_ ?_
  · exact h3
  · exact State.fault_frame (hl.sub rfl) h3

theorem State.gpAccept_frame {x1} {x2} {x3} {x4} {x5} {x6} (hl : Covers [.regs, .spoke, .bus] l) (g1 : State.Frame l z x1) :
    State.Frame l z (State.gpAccept x1 x2 x3 x4 x5 x6) := by
  delta State.gpAccept
  extract_lets -merge -underBinder +onlyGivenNames y1
  have h2 : State.Frame l z y1 := by subst y1; exact State.modConn_frame (hl.sub rfl) (State.wrs_frame (hl.sub rfl) g1)
  try clear_value y1
  exact State.wr_frame (hl.sub rfl) (State.gpState_frame (hl.sub rfl) h2)

theorem State.gpStart_frame {x1} {x2} (hl : Covers [.regs, .spoke, .bus] l) (g1 : State.Frame l z x1) :
    State.Frame l z (State.gpStart x1 x2) := by
  delta State.gpStart
  extract_lets -merge -underBinder +onlyGivenNames y1 y2
  have h3 : State.Frame l z y2 := by subst y2; exact State.modConn_frame (hl.sub rfl) g1
  try clear_value y2
  refine frame_ite ?_ ?_
  · exact State.wr_frame (hl.sub rfl) h3
  · exact State.gpState_frame (hl.sub rfl) h3

theorem State.golposenSend_frame {x1} {x2} (hl : Covers [.regs, .spoke, .bus] l) (g1 : State.Frame l z x1) :
    State.Frame l z (State.golposenSend x1 x2) := by
  delta State.golposenSend
  refine frame_ite ?_ ?_
  · exact g1
  · extract_lets -merge -underBinder +onlyGivenNames y1 y2
    refine frame_ite ?_ ?_
    · extract_lets -merge -underBinder +onlyGivenNames y3
      have h4 : State.Frame l z y3.2 := by subst y3; exact State.gpPdu_frame (hl.sub rfl) g1
      try clear_value y3
      exact State.eventOn_frame (hl.sub rfl) h4
    · refine frame_ite ?_ ?_
      · exact g1
      · refine frame_ite ?_ ?_
        · exact State.modConn_frame (hl.sub rfl) (State.modBus_frame (hl.sub rfl) g1)
        · refine frame_ite ?_ ?_
          · extract_lets -merge -underBinder +onlyGivenNames y5
            have h6 : State.Frame l z y5.2 := by subst y5; exact State.gpFrame_frame (hl.sub rfl) g1
            try clear_value y5
            exact State.modBus_frame (hl.sub rfl) (State.busTransmit_frame (hl.sub rfl) h6)
          · exact g1

theorem State.busDiscard_frame {x1} {x2} {x3} (hl : Covers [.regs, .bus, .flt] l) (g1 : State.Frame l z x1) :
    State.Frame l z (State.busDiscard x1 x2 x3) := by
  delta State.busDiscard
  extract_lets -merge -underBinder +onlyGivenNames y1
  have h2 : State.Frame l z y1 := by subst y1; exact State.modBus_frame (hl.sub rfl) (State.count_frame (hl.sub rfl) g1)
  try clear_value y1
  refine frame_ite ?_ ?_
  · exact State.fault_frame (hl.sub rfl) h2
  · exact h2

theorem State.mstpTokenLost_frame {x1} {x2} (hl : Covers [.regs, .bus, .flt] l) (g1 : State.Frame l z x1) :
    State.Frame l z (State.mstpTokenLost x1 x2) := by
  delta State.mstpTokenLost
  refine frame_ite ?_ ?_
  · exact State.mstpPoll_frame (hl.sub rfl) (State.modBus_frame (hl.sub rfl) (State.fault_frame (hl.sub rfl) (State.count_frame (hl.sub rfl) g1)))
  · exact g1

theorem State.mstpHold_frame {s p k} (hl : Covers [.regs, .spoke, .bus] l) (h : State.Frame l z s) : State.Frame l z (State.mstpHold s p k) := by
  induction k generalizing s with
  | zero => exact State.mstpPass_frame (hl.sub rfl) h
  | succ k ih =>
    unfold State.mstpHold
    split
    · exact ih (State.golposenSend_frame (hl.sub rfl) h)
    · split
      · exact State.mstpPass_frame (hl.sub rfl) h
      · exact ih (State.busTransmit_frame (hl.sub rfl) (State.modBus_frame (hl.sub rfl) h))

theorem State.busOverflow_frame {x1} {x2} (hl : Covers [.regs, .bus, .flt] l) (g1 : State.Frame l z x1) :
    State.Frame l z (State.busOverflow x1 x2) := by
  delta State.busOverflow
  refine frame_ite ?_ ?_
  · exact State.fault_frame (hl.sub rfl) (State.busDiscard_frame (hl.sub rfl) g1)
  · exact g1

theorem State.busWork_frame {x1} {x2} (hl : Covers [.regs, .spoke, .bus] l) (g1 : State.Frame l z x1) :
    State.Frame l z (State.busWork x1 x2) := by
  delta State.busWork
  split
  · extract_lets -merge -underBinder +onlyGivenNames y1
    have h2 : State.Frame l z y1 := by subst y1; exact State.mstpReply_frame (hl.sub rfl) g1
    try clear_value y1
    extract_lets -merge -underBinder +onlyGivenNames y3
    have h6 : State.Frame l z y3 := by
      subst y3
      refine State.when_frame ?_ ?_
      · exact h2
      · intro x4 h5
        exact State.mstpPostpone_frame (hl.sub rfl) h5
    try clear_value y3
    extract_lets -merge -underBinder +onlyGivenNames y7
    have h8 : State.Frame l z y7 := by
      subst y7
      split
      · refine frame_ite ?_ ?_
        · exact State.mstpPoll_frame (hl.sub rfl) h6
        · exact h6
      · exact h6
    try clear_value y7
    refine State.when_frame ?_ ?_
    · exact h8
    · intro x9 h10
      exact State.mstpHold_frame (hl.sub rfl) h10
  · refine State.each_frame ?_ ?_
    · exact g1
    · intro x11 x13 h12
      split
      · exact State.busTransmit_frame (hl.sub rfl) (State.modBus_frame (hl.sub rfl) h12)
      · exact State.modBus_frame (hl.sub rfl) h12
  · extract_lets -merge -underBinder +onlyGivenNames y14
    have h17 : State.Frame l z y14 := by
      subst y14
      refine State.when_frame ?_ ?_
      · exact g1
      · intro x15 h16
        exact State.modbusTimeout_frame (hl.sub rfl) h16
    try clear_value y14
    extract_lets -merge -underBinder +onlyGivenNames y18
    have h22 : State.Frame l z y18 := by
      subst y18
      refine State.each_frame ?_ ?_
      · exact h17
      · intro x19 x21 h20
        exact State.golposenSend_frame (hl.sub rfl) h20
    try clear_value y18
    exact State.modbusNext_frame (hl.sub rfl) h22

theorem State.doBusGpRestart_frame {x1} {x2} {x3} (hl : Covers [.regs, .spoke, .bus, .flt] l) (g1 : State.Frame l z x1) :
    State.Frame l z (State.doBusGpRestart x1 x2 x3) := by
  delta State.doBusGpRestart
  extract_lets -merge -underBinder +onlyGivenNames y1 y2
  refine State.checked_frame (hl.sub rfl) ?_ ?_
  · exact g1
  · intro x3 h4
    extract_lets -merge -underBinder +onlyGivenNames y5
    refine State.ok_frame (hl.sub rfl) ?_
    refine State.each_frame ?_ ?_
    · exact h4
    · intro x6 x8 h7
      exact State.gpStart_frame (hl.sub rfl) h7

theorem State.gpCorrupt_frame {x1} {x2} (hl : Covers [.regs, .spoke, .bus, .flt] l) (g1 : State.Frame l z x1) :
    State.Frame l z (State.gpCorrupt x1 x2) := by
  delta State.gpCorrupt
  extract_lets -merge -underBinder +onlyGivenNames y1
  have h2 : State.Frame l z y1 := by subst y1; exact State.modConn_frame (hl.sub rfl) (State.count_frame (hl.sub rfl) g1)
  try clear_value y1
  refine frame_ite ?_ ?_
  · exact State.gpFail_frame (hl.sub rfl) h2
  · exact h2

theorem State.busStop_frame {x1} {x2} (hl : Covers [.regs, .spoke, .bus, .flt] l) (g1 : State.Frame l z x1) :
    State.Frame l z (State.busStop x1 x2) := by
  delta State.busStop
  refine frame_ite ?_ ?_
  · exact g1
  · extract_lets -merge -underBinder +onlyGivenNames y1 y2
    have h3 : State.Frame l z y2 := by subst y2; exact State.modBus_frame (hl.sub rfl) (State.wr_frame (hl.sub rfl) g1)
    try clear_value y2
    extract_lets -merge -underBinder +onlyGivenNames y4
    have h8 : State.Frame l z y4 := by
      subst y4
      refine State.each_frame ?_ ?_
      · exact h3
      · intro x5 x7 h6
        exact State.finish_frame (hl.sub rfl) h6
    try clear_value y4
    refine State.each_frame ?_ ?_
    · exact h8
    · intro x9 x11 h10
      exact State.gpFail_frame (hl.sub rfl) h10

theorem State.busBoot_frame {x1} (hl : Covers [.regs, .spoke, .bus] l) (g1 : State.Frame l z x1) :
    State.Frame l z (State.busBoot x1) := by
  delta State.busBoot
  extract_lets -merge -underBinder +onlyGivenNames y1
  have h5 : State.Frame l z y1 := by
    subst y1
    refine State.each_frame ?_ ?_
    · exact g1
    · intro x2 x4 h3
      exact State.busStart_frame (hl.sub rfl) h3
  try clear_value y1
  refine State.each_frame ?_ ?_
  · exact h5
  · intro x6 x8 h7
    exact State.gpStart_frame (hl.sub rfl) h7

theorem State.gpJudge_frame {x1} {x2} {x3} {x4} (hl : Covers [.regs, .spoke, .bus, .flt] l) (g1 : State.Frame l z x1) :
    State.Frame l z (State.gpJudge x1 x2 x3 x4) := by
  delta State.gpJudge
  extract_lets -merge -underBinder +onlyGivenNames y1 y2 y3 y4 y5
  refine frame_ite ?_ ?_
  · exact g1
  · refine frame_ite ?_ ?_
    · exact State.gpFail_frame (hl.sub rfl) g1
    · refine frame_ite ?_ ?_
      · exact State.gpAccept_frame (hl.sub rfl) g1
      · refine frame_ite ?_ ?_
        · exact State.count_frame (hl.sub rfl) g1
        · refine frame_ite ?_ ?_
          · exact State.count_frame (hl.sub rfl) g1
          · refine frame_ite ?_ ?_
            · exact State.gpFail_frame (hl.sub rfl) g1
            · refine frame_ite ?_ ?_
              · exact State.gpFail_frame (hl.sub rfl) g1
              · refine frame_ite ?_ ?_
                · exact State.count_frame (hl.sub rfl) g1
                · exact State.gpAccept_frame (hl.sub rfl) (State.count_frame (hl.sub rfl) g1)

theorem State.busStopAll_frame {x1} (hl : Covers [.regs, .spoke, .bus, .flt] l) (g1 : State.Frame l z x1) :
    State.Frame l z (State.busStopAll x1) := by
  delta State.busStopAll
  refine State.each_frame ?_ ?_
  · exact State.busStop_frame (hl.sub rfl) (State.busStop_frame (hl.sub rfl) g1)
  · intro x3 x5 h4
    refine State.each_frame ?_ ?_
    · exact h4
    · intro x6 x8 h7
      exact State.gpFail_frame (hl.sub rfl) h7

theorem State.gpWatchdog_frame {x1} {x2} (hl : Covers [.regs, .spoke, .flt] l) (g1 : State.Frame l z x1) :
    State.Frame l z (State.gpWatchdog x1 x2) := by
  delta State.gpWatchdog
  refine frame_ite ?_ ?_
  · exact State.gpFail_frame (hl.sub rfl) g1
  · exact g1

theorem State.busTick_frame {x1} (hl : Covers [.regs, .spoke, .bus, .flt] l) (g1 : State.Frame l z x1) :
    State.Frame l z (State.busTick x1) := by
  delta State.busTick
  extract_lets -merge -underBinder +onlyGivenNames y1
  have h5 : State.Frame l z y1 := by
    subst y1
    refine State.each_frame ?_ ?_
    · exact g1
    · intro x2 x4 h3
      exact State.gpWatchdog_frame (hl.sub rfl) h3
  try clear_value y1
  refine State.each_frame ?_ ?_
  · exact h5
  · intro x6 x8 h7
    exact State.golposenSend_frame (hl.sub rfl) h7

theorem State.busUnitReset_frame {x1} {x2} (hl : Covers [.regs, .spoke, .bus] l) (g1 : State.Frame l z x1) :
    State.Frame l z (State.busUnitReset x1 x2) := by
  delta State.busUnitReset
  extract_lets -merge -underBinder +onlyGivenNames y1 y2
  have h3 : State.Frame l z y2 := by subst y2; exact State.modBus_frame (hl.sub rfl) g1
  try clear_value y2
  refine State.each_frame ?_ ?_
  · exact h3
  · intro x4 x6 h5
    refine frame_ite ?_ ?_
    · exact State.gpStart_frame (hl.sub rfl) h5
    · exact State.gpOff_frame (hl.sub rfl) h5

theorem State.busHook_frame {x1} {x2} {x3} (hl : Covers [.regs, .spoke, .bus] l) (g1 : State.Frame l z x1) :
    State.Frame l z (State.busHook x1 x2 x3) := by
  delta State.busHook
  refine frame_ite ?_ ?_
  · extract_lets -merge -underBinder +onlyGivenNames y1
    refine frame_ite ?_ ?_
    · exact g1
    · refine frame_ite ?_ ?_
      · exact State.gpOff_frame (hl.sub rfl) g1
      · exact State.gpStart_frame (hl.sub rfl) g1
  · refine frame_ite ?_ ?_
    · extract_lets -merge -underBinder +onlyGivenNames y2
      exact State.wr_frame (hl.sub rfl) g1
    · exact g1

theorem State.doBusPortCtl_frame {x1} {x2} {x3} (hl : Covers [.regs, .spoke, .bus, .flt] l) (g1 : State.Frame l z x1) :
    State.Frame l z (State.doBusPortCtl x1 x2 x3) := by
  delta State.doBusPortCtl
  extract_lets -merge -underBinder +onlyGivenNames y1 y2
  refine State.checked_frame (hl.sub rfl) ?_ ?_
  · exact g1
  · intro x3 h4
    refine State.ok_frame (hl.sub rfl) ?_
    refine frame_ite ?_ ?_
    · exact State.busStart_frame (hl.sub rfl) h4
    · exact State.busStop_frame (hl.sub rfl) h4

theorem State.gpReceive_frame {x1} {x2} {x3} {x4} {x5} (hl : Covers [.regs, .spoke, .bus, .flt] l) (g1 : State.Frame l z x1) :
    State.Frame l z (State.gpReceive x1 x2 x3 x4 x5) := by
  delta State.gpReceive
  extract_lets -merge -underBinder +onlyGivenNames y1
  try clear_value y1
  extract_lets -merge -underBinder +onlyGivenNames y2
  try clear_value y2
  extract_lets -merge -underBinder +onlyGivenNames y3
  try clear_value y3
  refine frame_ite ?_ ?_
  · refine State.each_frame ?_ ?_
    · exact g1
    · intro x4 x6 h5
      exact State.gpCorrupt_frame (hl.sub rfl) h5
  · split
    · refine frame_ite ?_ ?_
      · exact State.count_frame (hl.sub rfl) g1
      · refine State.each_frame ?_ ?_
        · exact g1
        · intro x7 x9 h8
          exact State.gpCorrupt_frame (hl.sub rfl) h8
    · refine frame_ite ?_ ?_
      · exact State.gpJudge_frame (hl.sub rfl) g1
      · exact State.gpFail_frame (hl.sub rfl) g1

theorem State.doBusGpPdu_frame {x1} {x2} {x3} (hl : Covers [.regs, .spoke, .bus, .flt] l) (g1 : State.Frame l z x1) :
    State.Frame l z (State.doBusGpPdu x1 x2 x3) := by
  delta State.doBusGpPdu
  refine State.checked_frame (hl.sub rfl) ?_ ?_
  · exact g1
  · intro x1 h2
    exact State.ok_frame (hl.sub rfl) (State.gpReceive_frame (hl.sub rfl) h2)

theorem State.gpService_frame {x1} {x2} {x3} {x4} {x5} (hl : Covers [.regs, .spoke, .bus, .flt] l) (g1 : State.Frame l z x1) :
    State.Frame l z (State.gpService x1 x2 x3 x4 x5) := by
  delta State.gpService
  extract_lets -merge -underBinder +onlyGivenNames y1
  have h2 : State.Frame l z y1 := by subst y1; exact State.gpReceive_frame (hl.sub rfl) g1
  try clear_value y1
  refine frame_ite ?_ ?_
  · exact h2
  · extract_lets -merge -underBinder +onlyGivenNames y3
    have h4 : State.Frame l z y3.2 := by
      subst y3
      split
      · exact frame_mk_snd h2
      · exact State.gpPdu_frame (hl.sub rfl) h2
    try clear_value y3
    exact State.busTransmit_frame (hl.sub rfl) h4

theorem State.mstpVendor_frame {x1} {x2} {x3} {x4} {x5} (hl : Covers [.regs, .spoke, .bus, .flt] l) (g1 : State.Frame l z x1) :
    State.Frame l z (State.mstpVendor x1 x2 x3 x4 x5) := by
  delta State.mstpVendor
  refine frame_ite ?_ ?_
  · exact State.gpReceive_frame (hl.sub rfl) g1
  · exact State.busRx_frame (hl.sub rfl) g1

theorem State.modbusTake_frame {x1} {x2} {x3} (hl : Covers [.regs, .spoke, .host, .bus, .flt] l) (g1 : State.Frame l z x1) :
    State.Frame l z (State.modbusTake x1 x2 x3) := by
  delta State.modbusTake
  extract_lets -merge -underBinder +onlyGivenNames y1
  try clear_value y1
  extract_lets -merge -underBinder +onlyGivenNames y2
  try clear_value y2
  extract_lets -merge -underBinder +onlyGivenNames y3
  try clear_value y3
  refine frame_ite ?_ ?_
  · refine frame_ite ?_ ?_
    · exact g1
    · refine frame_ite ?_ ?_
      · exact State.spokeService_frame (hl.sub rfl) g1
      · refine frame_ite ?_ ?_
        · exact State.gpService_frame (hl.sub rfl) g1
        · exact State.busRx_frame (hl.sub rfl) g1
  · split
    · exact g1
    · refine frame_ite ?_ ?_
      · exact g1
      · extract_lets -merge -underBinder +onlyGivenNames y4
        have h5 : State.Frame l z y4 := by subst y4; exact State.modBus_frame (hl.sub rfl) g1
        try clear_value y4
        refine frame_ite ?_ ?_
        · refine frame_ite ?_ ?_
          · exact State.gpReceive_frame (hl.sub rfl) h5
          · exact h5
        · exact State.busRx_frame (hl.sub rfl) h5

theorem State.mstpTake_frame {x1} {x2} {x3} {x4} {x5} {x6} {x7} (hl : Covers [.regs, .spoke, .bus, .flt] l) (g1 : State.Frame l z x1) :
    State.Frame l z (State.mstpTake x1 x2 x3 x4 x5 x6 x7) := by
  delta State.mstpTake
  extract_lets -merge -underBinder +onlyGivenNames y1 y2
  refine frame_ite ?_ ?_
  · exact g1
  · refine frame_ite ?_ ?_
    · refine frame_ite ?_ ?_
      · exact State.modBus_frame (hl.sub rfl) g1
      · exact g1
    · refine frame_ite ?_ ?_
      · refine frame_ite ?_ ?_
        · exact State.busTransmit_frame (hl.sub rfl) g1
        · exact g1
      · refine frame_ite ?_ ?_
        · refine frame_ite ?_ ?_
          · exact State.mstpPass_frame (hl.sub rfl) (State.modBus_frame (hl.sub rfl) g1)
          · exact g1
        · refine frame_ite ?_ ?_
          · refine frame_ite ?_ ?_
            · exact State.busTransmit_frame (hl.sub rfl) g1
            · exact g1
          · refine frame_ite ?_ ?_
            · refine State.when_frame ?_ ?_
              · exact State.busRx_frame (hl.sub rfl) g1
              · intro x3 h4
                exact State.modBus_frame (hl.sub rfl) h4
            · refine frame_ite ?_ ?_
              · exact State.busRx_frame (hl.sub rfl) g1
              · refine frame_ite ?_ ?_
                · exact State.mstpVendor_frame (hl.sub rfl) g1
                · refine frame_ite ?_ ?_
                  · exact State.busRx_frame (hl.sub rfl) g1
                  · exact g1

theorem State.mstpJudge_frame {x1} {x2} {x3} (hl : Covers [.regs, .spoke, .bus, .flt] l) (g1 : State.Frame l z x1) :
    State.Frame l z (State.mstpJudge x1 x2 x3) := by
  delta State.mstpJudge
  refine frame_ite ?_ ?_
  · exact State.busDiscard_frame (hl.sub rfl) g1
  · split
    · exact State.busDiscard_frame (hl.sub rfl) g1
    · refine frame_ite ?_ ?_
      · exact State.busDiscard_frame (hl.sub rfl) g1
      · exact State.mstpTake_frame (hl.sub rfl) (State.count_frame (hl.sub rfl) g1)

theorem State.modbusJudge_frame {x1} {x2} {x3} (hl : Covers [.regs, .spoke, .host, .bus, .flt] l) (g1 : State.Frame l z x1) :
    State.Frame l z (State.modbusJudge x1 x2 x3) := by
  delta State.modbusJudge
  extract_lets -merge -underBinder +onlyGivenNames y1
  refine frame_ite ?_ ?_
  · exact State.busDiscard_frame (hl.sub rfl) g1
  · refine frame_ite ?_ ?_
    · exact State.busDiscard_frame (hl.sub rfl) g1
    · exact State.modbusTake_frame (hl.sub rfl) (State.count_frame (hl.sub rfl) g1)

theorem State.busRun_frame {x1} {x2} (hl : Covers [.regs, .spoke, .host, .bus, .flt] l) (g1 : State.Frame l z x1) :
    State.Frame l z (State.busRun x1 x2) := by
  delta State.busRun
  refine frame_ite ?_ ?_
  · exact State.remRun_frame (hl.sub rfl) g1
  · extract_lets -merge -underBinder +onlyGivenNames y1 y2
    have h3 : State.Frame l z y2 := by subst y2; exact State.modBus_frame (hl.sub rfl) g1
    try clear_value y2
    extract_lets -merge -underBinder +onlyGivenNames y4
    have h8 : State.Frame l z y4 := by
      subst y4
      refine State.each_frame ?_ ?_
      · exact h3
      · intro x5 x7 h6
        refine frame_ite ?_ ?_
        · exact State.mstpJudge_frame (hl.sub rfl) h6
        · exact State.modbusJudge_frame (hl.sub rfl) h6
    try clear_value y4
    exact State.remRun_frame (hl.sub rfl) (State.busWork_frame (hl.sub rfl) h8)

/-! ### Stall -/

theorem State.modStall_frame {x1} {x2} {x3} (hl : Covers [.stb] l) (g1 : State.Frame l z x1) :
    State.Frame l z (State.modStall x1 x2 x3) := by
  delta State.modStall
  exact g1.stb (hl .stb (by decide))

theorem State.modRing_frame {x1} {x2} {x3} {x4} (hl : Covers [.stb] l) (g1 : State.Frame l z x1) :
    State.Frame l z (State.modRing x1 x2 x3 x4) := by
  delta State.modRing
  exact State.modStall_frame (hl.sub rfl) g1

theorem State.cycleWork_frame {s x u v} (hl : Covers [.stb] l) (h : State.Frame l z s) : State.Frame l z (State.cycleWork s x u v).1 := by
  unfold State.cycleWork
  extract_lets v0 emit
  have he : ∀ m w, State.Frame l z (emit m w).1 := fun _ _ => h
  clear_value emit
  split
  · exact he _ _
  · exact he _ _
  · exact frame_fst_ite h h
  · exact h
  · exact frame_fst_ite h (State.modStall_frame (hl.sub rfl) h)
  · exact he _ _
  · exact h

theorem State.wrBit_frame {x1} {x2} {x3} {x4} (hl : Covers [.regs] l) (g1 : State.Frame l z x1) :
    State.Frame l z (State.wrBit x1 x2 x3 x4) := by
  delta State.wrBit
  exact State.wr_frame (hl.sub rfl) g1

theorem State.modTask_frame {x1} {x2} {x3} {x4} (hl : Covers [.stb] l) (g1 : State.Frame l z x1) :
    State.Frame l z (State.modTask x1 x2 x3 x4) := by
  delta State.modTask
  exact State.modStall_frame (hl.sub rfl) g1

theorem State.poisonShow_frame {x1} {x2} (hl : Covers [.regs] l) (g1 : State.Frame l z x1) :
    State.Frame l z (State.poisonShow x1 x2) := by
  delta State.poisonShow
  extract_lets -merge -underBinder +onlyGivenNames y1
  exact State.wrBit_frame (hl.sub rfl) (State.wr_frame (hl.sub rfl) g1)

theorem State.tileStart_frame {x1} {x2} (hl : Covers [.regs, .stb] l) (g1 : State.Frame l z x1) :
    State.Frame l z (State.tileStart x1 x2) := by
  delta State.tileStart
  split
  · exact g1
  · extract_lets -merge -underBinder +onlyGivenNames y1
    have h2 : State.Frame l z y1 := by subst y1; exact State.modStall_frame (hl.sub rfl) g1
    try clear_value y1
    exact State.wrap_frame (hl.sub rfl) (State.count_frame (hl.sub rfl) h2)

theorem State.ringPop_frame {x1} {x2} {x3} {x4} (hl : Covers [.regs] l) (g1 : State.Frame l z x1) :
    State.Frame l z (State.ringPop x1 x2 x3 x4) := by
  delta State.ringPop
  exact State.wrs_frame (hl.sub rfl) g1

theorem State.stbNote_frame {x1} {x2} {x3} {x4} (hl : Covers [.spoke] l) (g1 : State.Frame l z x1) :
    State.Frame l z (State.stbNote x1 x2 x3 x4) := by
  delta State.stbNote
  exact State.note_frame (hl.sub rfl) g1

theorem State.setAreg_frame {x1} {x2} {x3} {x4} {x5} (hl : Covers [.stb] l) (g1 : State.Frame l z x1) :
    State.Frame l z (State.setAreg x1 x2 x3 x4 x5) := by
  delta State.setAreg
  exact State.modTask_frame (hl.sub rfl) g1

theorem State.ringPush_frame {x1} {x2} {x3} {x4} (hl : Covers [.regs] l) (g1 : State.Frame l z x1) :
    State.Frame l z (State.ringPush x1 x2 x3 x4) := by
  delta State.ringPush
  refine frame_ite ?_ ?_
  · exact State.wrs_frame (hl.sub rfl) g1
  · exact g1

theorem State.rowRequest_frame {x1} {x2} {x3} (hl : Covers [.spoke, .stb] l) (g1 : State.Frame l z x1) :
    State.Frame l z (State.rowRequest x1 x2 x3) := by
  delta State.rowRequest
  refine frame_ite ?_ ?_
  · exact g1
  · exact State.stbNote_frame (hl.sub rfl) (State.modStall_frame (hl.sub rfl) g1)

theorem State.hazard_frame {x1} {x2} {x3} {x4} {x5} {x6} {x7} (hl : Covers [.regs, .spoke, .stb, .flt] l) (g1 : State.Frame l z x1) :
    State.Frame l z (State.hazard x1 x2 x3 x4 x5 x6 x7) := by
  delta State.hazard
  extract_lets -merge -underBinder +onlyGivenNames y1 y2
  have h3 : State.Frame l z y2 := by subst y2; exact State.count_frame (hl.sub rfl) (State.wrBit_frame (hl.sub rfl) g1)
  try clear_value y2
  extract_lets -merge -underBinder +onlyGivenNames y4
  have h5 : State.Frame l z y4 := by
    subst y4
    refine frame_ite ?_ ?_
    · exact h3
    · exact State.wrs_frame (hl.sub rfl) h3
  try clear_value y4
  refine frame_ite ?_ ?_
  · exact h5
  · exact State.fault_frame (hl.sub rfl) (State.stbNote_frame (hl.sub rfl) (State.modStall_frame (hl.sub rfl) h5))

theorem State.opBegin_frame {x1} {x2} {x3} {x4} {x5} (hl : Covers [.regs, .spoke, .stb, .flt] l) (g1 : State.Frame l z x1) :
    State.Frame l z (State.opBegin x1 x2 x3 x4 x5) := by
  delta State.opBegin
  extract_lets -merge -underBinder +onlyGivenNames y1
  try clear_value y1
  extract_lets -merge -underBinder +onlyGivenNames y2
  try clear_value y2
  extract_lets -merge -underBinder +onlyGivenNames y3
  have h13 : State.Frame l z y3 := by
    subst y3
    split
    · exact State.modStall_frame (hl.sub rfl) (State.ringPush_frame (hl.sub rfl) g1)
    · extract_lets -merge -underBinder +onlyGivenNames y4 y5
      refine frame_ite ?_ ?_
      · exact State.modStall_frame (hl.sub rfl) (State.wr_frame (hl.sub rfl) g1)
      · extract_lets -merge -underBinder +onlyGivenNames y6 y7
        have h8 : State.Frame l z y7 := by subst y7; exact State.modStall_frame (hl.sub rfl) g1
        try clear_value y7
        exact State.fault_frame (hl.sub rfl) (State.stbNote_frame (hl.sub rfl) (State.wrBit_frame (hl.sub rfl) h8))
    · extract_lets -merge -underBinder +onlyGivenNames y9
      have h10 : State.Frame l z y9 := by subst y9; exact State.modStall_frame (hl.sub rfl) g1
      try clear_value y9
      refine frame_ite ?_ ?_
      · exact State.ringPush_frame (hl.sub rfl) h10
      · extract_lets -merge -underBinder +onlyGivenNames y11
        have h12 : State.Frame l z y11 := by subst y11; exact State.ringPop_frame (hl.sub rfl) h10
        try clear_value y11
        refine frame_ite ?_ ?_
        · exact State.modRing_frame (hl.sub rfl) h12
        · exact h12
    · exact State.modStall_frame (hl.sub rfl) g1
  try clear_value y3
  exact h13

theorem State.parityFound_frame {x1} {x2} {x3} {x4} (hl : Covers [.regs, .spoke] l) (g1 : State.Frame l z x1) :
    State.Frame l z (State.parityFound x1 x2 x3 x4) := by
  delta State.parityFound
  exact State.stbNote_frame (hl.sub rfl) (State.count_frame (hl.sub rfl) (State.wrBit_frame (hl.sub rfl) g1))

theorem State.poisonBlock_frame {x1} {x2} {x3} (hl : Covers [.regs, .spoke, .stb, .flt] l) (g1 : State.Frame l z x1) :
    State.Frame l z (State.poisonBlock x1 x2 x3) := by
  delta State.poisonBlock
  refine frame_ite ?_ ?_
  · exact g1
  · extract_lets -merge -underBinder +onlyGivenNames y1
    have h2 : State.Frame l z y1 := by subst y1; exact State.modStall_frame (hl.sub rfl) g1
    try clear_value y1
    exact State.fault_frame (hl.sub rfl) (State.stbNote_frame (hl.sub rfl) (State.poisonShow_frame (hl.sub rfl) h2))

theorem State.tagWrite_frame {x1} {x2} {x3} {x4} {x5} {x6} (hl : Covers [.regs, .spoke, .stb, .flt] l) (g1 : State.Frame l z x1) :
    State.Frame l z (State.tagWrite x1 x2 x3 x4 x5 x6) := by
  delta State.tagWrite
  refine frame_ite ?_ ?_
  · extract_lets -merge -underBinder +onlyGivenNames y1 y2
    have h3 : State.Frame l z y2 := by
      subst y2
      refine frame_ite ?_ ?_
      · exact State.hazard_frame (hl.sub rfl) g1
      · exact g1
    try clear_value y2
    extract_lets -merge -underBinder +onlyGivenNames y4
    exact State.modStall_frame (hl.sub rfl) h3
  · exact g1

theorem State.taskTo_frame {x1} {x2} {x3} {x4} {x5} (hl : Covers [.regs, .spoke, .flt] l) (g1 : State.Frame l z x1) :
    State.Frame l z (State.taskTo x1 x2 x3 x4 x5) := by
  delta State.taskTo
  extract_lets -merge -underBinder +onlyGivenNames y1 y2 y3
  have h4 : State.Frame l z y3 := by subst y3; exact State.wrBit_frame (hl.sub rfl) (State.wrs_frame (hl.sub rfl) g1)
  try clear_value y3
  extract_lets -merge -underBinder +onlyGivenNames y5
  have h6 : State.Frame l z y5 := by subst y5; exact State.wrBit_frame (hl.sub rfl) h4
  try clear_value y5
  extract_lets -merge -underBinder +onlyGivenNames y7
  have h8 : State.Frame l z y7 := by
    subst y7
    refine frame_ite ?_ ?_
    · exact h6
    · exact State.stbNote_frame (hl.sub rfl) h6
  try clear_value y7
  refine frame_ite ?_ ?_
  · exact State.fault_frame (hl.sub rfl) h8
  · exact h8

theorem State.weightWord_frame {x1} {x2} {x3} (hl : Covers [.regs, .spoke, .stb, .flt] l) (g1 : State.Frame l z x1) :
    State.Frame l z (State.weightWord x1 x2 x3).2 := by
  delta State.weightWord
  split
  · exact frame_mk_snd g1
  · exact frame_mk_snd (State.count_frame (hl.sub rfl) g1)
  · exact frame_mk_snd (State.rowRequest_frame (hl.sub rfl) (State.poisonBlock_frame (hl.sub rfl) (State.count_frame (hl.sub rfl) g1)))

theorem State.tagRead_frame {x1} {x2} {x3} {x4} {x5} {x6} {x7} (hl : Covers [.regs, .spoke, .stb, .flt] l) (g1 : State.Frame l z x1) :
    State.Frame l z (State.tagRead x1 x2 x3 x4 x5 x6 x7) := by
  delta State.tagRead
  refine frame_ite ?_ ?_
  · extract_lets -merge -underBinder +onlyGivenNames y1 y2
    have h3 : State.Frame l z y2 := by
      subst y2
      refine frame_ite ?_ ?_
      · exact State.hazard_frame (hl.sub rfl) g1
      · exact g1
    try clear_value y2
    exact State.modStall_frame (hl.sub rfl) h3
  · exact g1

theorem State.land_frame {x1} {x2} {x3} (hl : Covers [.regs, .spoke, .stb, .flt] l) (g1 : State.Frame l z x1) :
    State.Frame l z (State.land x1 x2 x3) := by
  delta State.land
  extract_lets -merge -underBinder +onlyGivenNames y1
  try clear_value y1
  extract_lets -merge -underBinder +onlyGivenNames y2
  have h3 : State.Frame l z y2 := by subst y2; exact State.modStall_frame (hl.sub rfl) (State.tagWrite_frame (hl.sub rfl) g1)
  try clear_value y2
  split
  · exact h3
  · exact State.ringPush_frame (hl.sub rfl) h3

theorem State.landDue_frame {x1} {x2} (hl : Covers [.regs, .spoke, .stb, .flt] l) (g1 : State.Frame l z x1) :
    State.Frame l z (State.landDue x1 x2) := by
  delta State.landDue
  extract_lets -merge -underBinder +onlyGivenNames y1 y2
  refine frame_ite ?_ ?_
  · exact g1
  · extract_lets -merge -underBinder +onlyGivenNames y3
    have h4 : State.Frame l z y3 := by subst y3; exact State.modStall_frame (hl.sub rfl) g1
    try clear_value y3
    refine State.each_frame ?_ ?_
    · refine State.each_frame ?_ ?_
      · exact h4
      · intro x5 x7 h6
        exact State.land_frame (hl.sub rfl) h6
    · intro x8 x10 h9
      exact State.land_frame (hl.sub rfl) h9

theorem State.readUnits_frame {x1} {x2} {x3} {x4} {x5} (hl : Covers [.regs, .spoke, .stb, .flt] l) (g1 : State.Frame l z x1) :
    State.Frame l z (State.readUnits x1 x2 x3 x4 x5).2.2 := by
  delta State.readUnits
  refine frame_foldl_snd_snd ?_ ?_
  · exact frame_mk_snd_snd (frame_mk_snd g1)
  · intro x1 x3 h2
    extract_lets -merge -underBinder +onlyGivenNames y4
    have h5 : State.Frame l z y4 := by subst y4; exact State.tagRead_frame (hl.sub rfl) h2
    try clear_value y4
    extract_lets -merge -underBinder +onlyGivenNames y6
    refine frame_mk_snd_snd ?_
    refine frame_mk_snd ?_
    refine frame_ite ?_ ?_
    · exact State.parityFound_frame (hl.sub rfl) h5
    · exact h5

theorem State.stopDone_frame {x1} {x2} {x3} (hl : Covers [.regs, .spoke, .stb, .flt] l) (g1 : State.Frame l z x1) :
    State.Frame l z (State.stopDone x1 x2 x3) := by
  delta State.stopDone
  extract_lets -merge -underBinder +onlyGivenNames y1
  refine frame_ite ?_ ?_
  · exact g1
  · extract_lets -merge -underBinder +onlyGivenNames y2
    have h3 : State.Frame l z y2 := by subst y2; exact State.taskTo_frame (hl.sub rfl) (State.modTask_frame (hl.sub rfl) g1)
    try clear_value y2
    refine State.each_frame ?_ ?_
    · exact h3
    · intro x4 x6 h5
      exact State.ok_frame (hl.sub rfl) h5

theorem State.tloadRead_frame {x1} {x2} {x3} (hl : Covers [.regs, .spoke, .stb, .flt] l) (g1 : State.Frame l z x1) :
    State.Frame l z (State.tloadRead x1 x2 x3).2 := by
  delta State.tloadRead
  extract_lets -merge -underBinder +onlyGivenNames y1
  have h7 : State.Frame l z y1.2 := by
    subst y1
    refine frame_foldl_snd ?_ ?_
    · exact frame_mk_snd g1
    · intro x2 x4 h3
      extract_lets -merge -underBinder +onlyGivenNames y5
      have h6 : State.Frame l z y5.2 := by subst y5; exact State.weightWord_frame (hl.sub rfl) h3
      try clear_value y5
      exact frame_mk_snd h6
  try clear_value y1
  exact frame_mk_snd h7

theorem State.landAll_frame {x1} {x2} (hl : Covers [.regs, .spoke, .stb, .flt] l) (g1 : State.Frame l z x1) :
    State.Frame l z (State.landAll x1 x2) := by
  delta State.landAll
  extract_lets -merge -underBinder +onlyGivenNames y1 y2
  have h3 : State.Frame l z y2 := by subst y2; exact State.modStall_frame (hl.sub rfl) g1
  try clear_value y2
  refine State.each_frame ?_ ?_
  · exact h3
  · intro x4 x6 h5
    exact State.land_frame (hl.sub rfl) h5

theorem State.tileEnd_frame {x1} {x2} {x3} (hl : Covers [.regs, .spoke, .stb, .flt] l) (g1 : State.Frame l z x1) :
    State.Frame l z (State.tileEnd x1 x2 x3) := by
  delta State.tileEnd
  extract_lets -merge -underBinder +onlyGivenNames y1
  have h2 : State.Frame l z y1 := by subst y1; exact State.modStall_frame (hl.sub rfl) g1
  try clear_value y1
  extract_lets -merge -underBinder +onlyGivenNames y3
  have h4 : State.Frame l z y3 := by subst y3; exact State.stopDone_frame (hl.sub rfl) h2
  try clear_value y3
  refine frame_ite ?_ ?_
  · exact State.tileStart_frame (hl.sub rfl) (State.modStall_frame (hl.sub rfl) h4)
  · exact h4

theorem State.opFinish_frame {s x u} (hl : Covers [.regs, .spoke, .stb, .flt] l) (h : State.Frame l z s) : State.Frame l z (State.opFinish s x u) := by
  unfold State.opFinish
  extract_lets k w reg at_ y pc next
  have hy : State.Frame l z y := State.modStall_frame (hl.sub rfl) h
  clear_value y
  have hp : ∀ m t, State.Frame l z t → State.Frame l z (pc m t) := fun _ _ ht => State.wr_frame (hl.sub rfl) ht
  clear_value pc
  have hn : ∀ t, State.Frame l z t → State.Frame l z (next t) := fun t ht => hp _ t ht
  clear_value next
  split
  · exact hn _ (State.setAreg_frame (hl.sub rfl) hy)
  · exact hn _ (State.setAreg_frame (hl.sub rfl) hy)
  · exact hn _ (frame_ite (State.setAreg_frame (hl.sub rfl) hy) hy)
  · exact frame_ite (hn _ hy) (State.tileEnd_frame (hl.sub rfl) hy)
  · exact frame_ite (hn _ (State.setAreg_frame (hl.sub rfl) hy)) (hp _ _ (State.setAreg_frame (hl.sub rfl) hy))
  · exact State.tileEnd_frame (hl.sub rfl) (State.modTask_frame (hl.sub rfl) (hn _ hy))
  · exact hp _ _ hy
  · exact State.tileEnd_frame (hl.sub rfl) (State.taskTo_frame (hl.sub rfl) (State.modTask_frame (hl.sub rfl) hy))
  · exact hn _ hy

theorem State.taskFault_frame {x1} {x2} {x3} {x4} (hl : Covers [.regs, .spoke, .stb, .flt] l) (g1 : State.Frame l z x1) :
    State.Frame l z (State.taskFault x1 x2 x3 x4) := by
  delta State.taskFault
  exact State.tileEnd_frame (hl.sub rfl) (State.taskTo_frame (hl.sub rfl) g1)

theorem State.opCycle_frame {x1} {x2} {x3} (hl : Covers [.regs, .spoke, .stb, .flt] l) (g1 : State.Frame l z x1) :
    State.Frame l z (State.opCycle x1 x2 x3) := by
  delta State.opCycle
  extract_lets -merge -underBinder +onlyGivenNames y1
  have h2 : State.Frame l z y1.2.2 := by subst y1; exact State.readUnits_frame (hl.sub rfl) g1
  try clear_value y1
  refine frame_ite ?_ ?_
  · exact State.taskFault_frame (hl.sub rfl) h2
  · extract_lets -merge -underBinder +onlyGivenNames y3
    have h4 : State.Frame l z y3.2 := by
      subst y3
      refine frame_snd_ite ?_ ?_
      · exact State.tloadRead_frame (hl.sub rfl) h2
      · exact frame_mk_snd h2
    try clear_value y3
    refine frame_ite ?_ ?_
    · exact State.taskFault_frame (hl.sub rfl) h4
    · extract_lets -merge -underBinder +onlyGivenNames y5
      have h6 : State.Frame l z y5 := by subst y5; exact h4
      try clear_value y5
      extract_lets -merge -underBinder +onlyGivenNames y7 y8
      have h9 : State.Frame l z y8.1 := by
        subst y8
        refine frame_fst_ite ?_ ?_
        · exact frame_mk_fst h6
        · exact State.cycleWork_frame (hl.sub rfl) h6
      try clear_value y8
      extract_lets -merge -underBinder +onlyGivenNames y10 y11
      refine frame_ite ?_ ?_
      · exact State.modStall_frame (hl.sub rfl) h9
      · exact State.opFinish_frame (hl.sub rfl) h9

theorem State.opStart_frame {x1} {x2} {x3} {x4} {x5} {x6} (hl : Covers [.regs, .spoke, .stb, .flt] l) (g1 : State.Frame l z x1) :
    State.Frame l z (State.opStart x1 x2 x3 x4 x5 x6) := by
  delta State.opStart
  split
  · exact State.taskFault_frame (hl.sub rfl) g1
  · extract_lets -merge -underBinder +onlyGivenNames y1
    try clear_value y1
    extract_lets -merge -underBinder +onlyGivenNames y2
    try clear_value y2
    extract_lets -merge -underBinder +onlyGivenNames y3
    have h4 : State.Frame l z y3 := by subst y3; exact State.opBegin_frame (hl.sub rfl) g1
    try clear_value y3
    split
    · exact h4
    · exact State.opCycle_frame (hl.sub rfl) h4

theorem State.opFetch_frame {x1} {x2} {x3} (hl : Covers [.regs, .spoke, .stb, .flt] l) (g1 : State.Frame l z x1) :
    State.Frame l z (State.opFetch x1 x2 x3) := by
  delta State.opFetch
  extract_lets -merge -underBinder +onlyGivenNames y1 y2
  refine frame_ite ?_ ?_
  · exact State.taskFault_frame (hl.sub rfl) g1
  · extract_lets -merge -underBinder +onlyGivenNames y3
    exact State.opStart_frame (hl.sub rfl) g1

theorem State.stallWork_frame {x1} {x2} (hl : Covers [.regs, .spoke, .stb, .flt] l) (g1 : State.Frame l z x1) :
    State.Frame l z (State.stallWork x1 x2) := by
  delta State.stallWork
  extract_lets -merge -underBinder +onlyGivenNames y1
  split
  · exact State.opCycle_frame (hl.sub rfl) g1
  · split
    · exact g1
    · refine frame_ite ?_ ?_
      · exact State.modStall_frame (hl.sub rfl) g1
      · exact State.opFetch_frame (hl.sub rfl) g1

theorem State.stallCycle_frame {x1} {x2} (hl : Covers [.regs, .spoke, .stb, .flt] l) (g1 : State.Frame l z x1) :
    State.Frame l z (State.stallCycle x1 x2) := by
  delta State.stallCycle
  extract_lets -merge -underBinder +onlyGivenNames y1
  have h2 : State.Frame l z y1 := by subst y1; exact State.landDue_frame (hl.sub rfl) g1
  try clear_value y1
  extract_lets -merge -underBinder +onlyGivenNames y3 y4
  have h5 : State.Frame l z y4 := by
    subst y4
    refine frame_ite ?_ ?_
    · exact h2
    · exact State.stallWork_frame (hl.sub rfl) h2
  try clear_value y4
  exact State.modStall_frame (hl.sub rfl) h5

theorem State.opDrain_frame {k x s} (hl : Covers [.regs, .spoke, .stb, .flt] l) (h : State.Frame l z s) : State.Frame l z (State.opDrain k x s) := by
  induction k generalizing s with
  | zero => exact h
  | succ k ih => exact frame_ite h (ih (State.stallCycle_frame (hl.sub rfl) h))

theorem State.stallSpan_frame {k s} (hl : Covers [.regs, .spoke, .stb, .flt] l) (h : State.Frame l z s) : State.Frame l z (State.stallSpan k s) := by
  induction k generalizing s with
  | zero => exact h
  | succ k ih => exact frame_ite h (ih (State.each_frame h fun _ _ => State.stallCycle_frame (hl.sub rfl)))

theorem State.runOp_frame {x1} {x2} {x3} {x4} {x5} (hl : Covers [.regs, .spoke, .stb, .flt] l) (g1 : State.Frame l z x1) :
    State.Frame l z (State.runOp x1 x2 x3 x4 x5) := by
  delta State.runOp
  extract_lets -merge -underBinder +onlyGivenNames y1
  have h2 : State.Frame l z y1 := by subst y1; exact State.opDrain_frame (hl.sub rfl) g1
  try clear_value y1
  extract_lets -merge -underBinder +onlyGivenNames y3
  have h4 : State.Frame l z y3 := by
    subst y3
    refine frame_ite ?_ ?_
    · exact State.modStall_frame (hl.sub rfl) h2
    · exact h2
  try clear_value y3
  extract_lets -merge -underBinder +onlyGivenNames y5
  have h6 : State.Frame l z y5 := by subst y5; exact State.opStart_frame (hl.sub rfl) (State.landDue_frame (hl.sub rfl) h4)
  try clear_value y5
  exact State.opDrain_frame (hl.sub rfl) (State.modStall_frame (hl.sub rfl) h6)

end Sys2Proof.Machine
end

