-- ==== Sys2Proof/Laws/Frame4.lean ====
section
/-!
SUPPORT. Sys2Proof/Laws/Frame4.lean: the operations of Stable, Security and the parts
of the state they can change.
-/

namespace Sys2Proof.Machine

variable {l : List Part} {z : State}

/-! ### Stable -/

theorem State.cacheHook_frame {x1} (hl : Covers [.regs] l) (g1 : State.Frame l z x1) :
    State.Frame l z (State.cacheHook x1) := by
  delta State.cacheHook
  exact State.wr_frame (hl.sub rfl) g1

theorem State.bank7Lose_frame {x1} {x2} (hl : Covers [.free, .stb] l) (g1 : State.Frame l z x1) :
    State.Frame l z (State.bank7Lose x1 x2) := by
  delta State.bank7Lose
  extract_lets -merge -underBinder +onlyGivenNames y1
  exact State.modStall_frame (hl.sub rfl) (g1.free (hl .free (by decide)))

theorem State.creditRelease_frame {x1} {x2} {x3} (hl : Covers [.regs, .stb] l) (g1 : State.Frame l z x1) :
    State.Frame l z (State.creditRelease x1 x2 x3) := by
  delta State.creditRelease
  refine frame_ite ?_ ?_
  · extract_lets -merge -underBinder +onlyGivenNames y1 y2 y3
    exact State.modRing_frame (hl.sub rfl) (State.wr_frame (hl.sub rfl) g1)
  · exact g1

theorem State.loadBytes_frame {x1} {x2} {x3} {x4} {x5} (hl : Covers [.stb] l) (g1 : State.Frame l z x1) :
    State.Frame l z (State.loadBytes x1 x2 x3 x4 x5) := by
  delta State.loadBytes
  extract_lets -merge -underBinder +onlyGivenNames y1 y2 y3 y4 y5
  have h6 : State.Frame l z y5 := by subst y5; exact State.modStall_frame (hl.sub rfl) g1
  try clear_value y5
  extract_lets -merge -underBinder +onlyGivenNames y7
  have h8 : State.Frame l z y7 := by
    subst y7
    refine frame_ite ?_ ?_
    · exact h6
    · exact State.modStall_frame (hl.sub rfl) h6
  try clear_value y7
  exact State.modTask_frame (hl.sub rfl) h8

theorem State.doStbFeed_frame {x1} {x2} {x3} (hl : Covers [.spoke, .stb, .flt] l) (g1 : State.Frame l z x1) :
    State.Frame l z (State.doStbFeed x1 x2 x3) := by
  delta State.doStbFeed
  extract_lets -merge -underBinder +onlyGivenNames y1 y2
  refine State.checked_frame (hl.sub rfl) ?_ ?_
  · exact g1
  · intro x3 h4
    exact h4.stb (hl .stb (by decide))

theorem State.pointerPublish_frame {x1} {x2} {x3} (hl : Covers [.stb] l) (g1 : State.Frame l z x1) :
    State.Frame l z (State.pointerPublish x1 x2 x3) := by
  delta State.pointerPublish
  refine frame_ite ?_ ?_
  · exact State.modRing_frame (hl.sub rfl) g1
  · exact g1

theorem State.clearTags_frame {x1} {x2} {x3} (hl : Covers [.stb] l) (g1 : State.Frame l z x1) :
    State.Frame l z (State.clearTags x1 x2 x3) := by
  delta State.clearTags
  extract_lets -merge -underBinder +onlyGivenNames y1 y2 y3
  exact State.modStall_frame (hl.sub rfl) g1

theorem State.stbOn_frame {x1} (hl : Covers [.regs] l) (g1 : State.Frame l z x1) :
    State.Frame l z (State.stbOn x1) := by
  delta State.stbOn
  exact State.wr_frame (hl.sub rfl) g1

theorem State.eachRing_frame {x1} {x2} (g1 : State.Frame l z x1) (g2 : ∀ z1 z2 z3, State.Frame l z z1 → State.Frame l z (x2 z1 z2 z3)) :
    State.Frame l z (State.eachRing x1 x2) := by
  delta State.eachRing
  refine State.each_frame ?_ ?_
  · exact g1
  · intro x1 x3 h2
    refine State.each_frame ?_ ?_
    · exact h2
    · intro x4 x6 h5
      refine g2 _ _ _ ?_
      exact h5

theorem State.loadBlocks_frame {x1} {x2} {x3} (hl : Covers [.regs, .stb] l) (g1 : State.Frame l z x1) :
    State.Frame l z (State.loadBlocks x1 x2 x3) := by
  delta State.loadBlocks
  extract_lets -merge -underBinder +onlyGivenNames y1 y2
  refine frame_ite ?_ ?_
  · exact g1
  · extract_lets -merge -underBinder +onlyGivenNames y3 y4 y5
    have h6 : State.Frame l z y5 := by subst y5; exact State.modStall_frame (hl.sub rfl) g1
    try clear_value y5
    extract_lets -merge -underBinder +onlyGivenNames y7
    exact State.poisonShow_frame (hl.sub rfl) (State.modStall_frame (hl.sub rfl) h6)

theorem State.cacheInvalidate_frame {x1} {x2} (hl : Covers [.stb] l) (g1 : State.Frame l z x1) :
    State.Frame l z (State.cacheInvalidate x1 x2) := by
  delta State.cacheInvalidate
  refine State.each_frame ?_ ?_
  · exact g1
  · intro x1 x3 h2
    refine frame_ite ?_ ?_
    · exact State.modStall_frame (hl.sub rfl) h2
    · exact h2

theorem State.stbLose_frame {x1} (hl : Covers [.free, .stb] l) (g1 : State.Frame l z x1) :
    State.Frame l z (State.stbLose x1) := by
  delta State.stbLose
  extract_lets -merge -underBinder +onlyGivenNames y1
  refine State.each_frame ?_ ?_
  · exact g1.free (hl .free (by decide))
  · intro x2 x4 h3
    exact State.modStall_frame (hl.sub rfl) h3

theorem State.stallsHalt_frame {x1} (hl : Covers [.stb] l) (g1 : State.Frame l z x1) :
    State.Frame l z (State.stallsHalt x1) := by
  delta State.stallsHalt
  extract_lets -merge -underBinder +onlyGivenNames y1
  have h5 : State.Frame l z y1 := by
    subst y1
    refine State.each_frame ?_ ?_
    · exact g1
    · intro x2 x4 h3
      exact State.modStall_frame (hl.sub rfl) h3
  try clear_value y1
  exact h5.stb (hl .stb (by decide))

theorem State.takeDue_frame {x1} {x2} {x3} (hl : Covers [.stb] l) (g1 : State.Frame l z x1) :
    State.Frame l z (State.takeDue x1 x2 x3) := by
  delta State.takeDue
  refine frame_ite ?_ ?_
  · refine frame_ite ?_ ?_
    · exact State.modTask_frame (hl.sub rfl) g1
    · exact State.modStall_frame (hl.sub rfl) g1
  · exact g1

theorem State.pointerRelease_frame {x1} {x2} {x3} (hl : Covers [.regs, .stb] l) (g1 : State.Frame l z x1) :
    State.Frame l z (State.pointerRelease x1 x2 x3) := by
  delta State.pointerRelease
  extract_lets -merge -underBinder +onlyGivenNames y1
  refine frame_ite ?_ ?_
  · exact g1
  · extract_lets -merge -underBinder +onlyGivenNames y2
    have h5 : State.Frame l z y2 := by
      subst y2
      refine State.when_frame ?_ ?_
      · exact State.ringPush_frame (hl.sub rfl) g1
      · intro x3 h4
        exact State.ringPop_frame (hl.sub rfl) h4
    try clear_value y2
    exact State.modRing_frame (hl.sub rfl) h5

theorem State.cacheSwitchStall_frame {x1} {x2} (hl : Covers [.regs, .free, .spoke, .stb] l) (g1 : State.Frame l z x1) :
    State.Frame l z (State.cacheSwitchStall x1 x2) := by
  delta State.cacheSwitchStall
  refine frame_ite ?_ ?_
  · extract_lets -merge -underBinder +onlyGivenNames y1
    have h2 : State.Frame l z y1 := by subst y1; exact State.wrBit_frame (hl.sub rfl) g1
    try clear_value y1
    refine frame_ite ?_ ?_
    · refine frame_ite ?_ ?_
      · exact State.stbNote_frame (hl.sub rfl) (State.wrBit_frame (hl.sub rfl) h2)
      · exact State.stbNote_frame (hl.sub rfl) (State.modStall_frame (hl.sub rfl) (State.bank7Lose_frame (hl.sub rfl) (State.wrBit_frame (hl.sub rfl) h2)))
    · exact State.stbNote_frame (hl.sub rfl) (State.modStall_frame (hl.sub rfl) (State.bank7Lose_frame (hl.sub rfl) (State.wrBit_frame (hl.sub rfl) h2)))
  · exact g1

theorem State.doStbLoadData_frame {x1} {x2} {x3} (hl : Covers [.spoke, .stb, .flt] l) (g1 : State.Frame l z x1) :
    State.Frame l z (State.doStbLoadData x1 x2 x3) := by
  delta State.doStbLoadData
  extract_lets -merge -underBinder +onlyGivenNames y1 y2 y3 y4 y5
  refine State.checked_frame (hl.sub rfl) ?_ ?_
  · exact g1
  · intro x6 h7
    exact State.ok_frame (hl.sub rfl) (State.loadBytes_frame (hl.sub rfl) h7)

theorem State.ringStop_frame {x1} {x2} {x3} (hl : Covers [.regs, .stb] l) (g1 : State.Frame l z x1) :
    State.Frame l z (State.ringStop x1 x2 x3) := by
  delta State.ringStop
  exact State.modRing_frame (hl.sub rfl) (State.wrs_frame (hl.sub rfl) g1)

theorem State.cacheAccess_frame {x1} {x2} {x3} {x4} (hl : Covers [.regs, .free, .stb, .dbg] l) (g1 : State.Frame l z x1) :
    State.Frame l z (State.cacheAccess x1 x2 x3 x4) := by
  delta State.cacheAccess
  refine frame_ite ?_ ?_
  · exact g1
  · extract_lets -merge -underBinder +onlyGivenNames y1
    try clear_value y1
    extract_lets -merge -underBinder +onlyGivenNames y2
    have h3 : State.Frame l z y2 := by
      subst y2
      split
      · exact g1.dbg (hl .dbg (by decide))
      · exact g1
    try clear_value y2
    extract_lets -merge -underBinder +onlyGivenNames y4 y5 y6
    have h9 : State.Frame l z y6 := by
      subst y6
      refine State.when_frame ?_ ?_
      · exact h3
      · intro x7 h8
        exact State.count_frame (hl.sub rfl) h8
    try clear_value y6
    refine frame_ite ?_ ?_
    · exact State.count_frame (hl.sub rfl) h9
    · extract_lets -merge -underBinder +onlyGivenNames y10
      have h11 : State.Frame l z y10 := by subst y10; exact State.count_frame (hl.sub rfl) h9
      try clear_value y10
      refine frame_ite ?_ ?_
      · exact h11
      · extract_lets -merge -underBinder +onlyGivenNames y12
        have h13 : State.Frame l z y12.2 := by subst y12; exact State.draw_frame (hl.sub rfl) h11
        try clear_value y12
        extract_lets -merge -underBinder +onlyGivenNames y14
        exact State.modStall_frame (hl.sub rfl) h13

theorem State.stbReset_frame {x1} (hl : Covers [.free, .stb] l) (g1 : State.Frame l z x1) :
    State.Frame l z (State.stbReset x1) := by
  delta State.stbReset
  exact State.stbLose_frame (hl.sub rfl) (g1.stb (hl .stb (by decide)))

theorem State.ringStart_frame {x1} {x2} {x3} (hl : Covers [.regs, .stb] l) (g1 : State.Frame l z x1) :
    State.Frame l z (State.ringStart x1 x2 x3) := by
  delta State.ringStart
  exact State.modRing_frame (hl.sub rfl) (State.wrs_frame (hl.sub rfl) g1)

theorem State.resumeFit_frame {s x m} (hl : Covers [.regs, .spoke, .flt] l) (h : State.Frame l z s) : State.Frame l z (State.resumeFit s x m) := by
  induction m generalizing s with
  | nil => exact h
  | cons k rest ih => exact frame_ite (ih (State.taskTo_frame (hl.sub rfl) h)) h

theorem State.scrubWord_frame {x1} {x2} (hl : Covers [.regs, .spoke, .stb, .flt] l) (g1 : State.Frame l z x1) :
    State.Frame l z (State.scrubWord x1 x2) := by
  delta State.scrubWord
  extract_lets -merge -underBinder +onlyGivenNames y1
  try clear_value y1
  extract_lets -merge -underBinder +onlyGivenNames y2
  try clear_value y2
  extract_lets -merge -underBinder +onlyGivenNames y3
  have h4 : State.Frame l z y3 := by subst y3; exact State.weightWord_frame (hl.sub rfl) g1
  try clear_value y3
  extract_lets -merge -underBinder +onlyGivenNames y5
  try clear_value y5
  extract_lets -merge -underBinder +onlyGivenNames y6 y7
  try clear_value y7
  extract_lets -merge -underBinder +onlyGivenNames y8
  try clear_value y8
  extract_lets -merge -underBinder +onlyGivenNames y9
  have h10 : State.Frame l z y9 := by subst y9; exact State.modStall_frame (hl.sub rfl) h4
  try clear_value y9
  extract_lets -merge -underBinder +onlyGivenNames y11
  have h12 : State.Frame l z y11 := by
    subst y11
    refine frame_ite ?_ ?_
    · refine frame_ite ?_ ?_
      · exact State.rowRequest_frame (hl.sub rfl) h10
      · exact h10
    · exact h4
  try clear_value y11
  extract_lets -merge -underBinder +onlyGivenNames y13
  try clear_value y13
  extract_lets -merge -underBinder +onlyGivenNames y14
  have h15 : State.Frame l z y14 := by
    subst y14
    split
    · exact h12
    · refine frame_ite ?_ ?_
      · exact h12
      · exact State.poisonBlock_frame (hl.sub rfl) (State.count_frame (hl.sub rfl) h12)
  try clear_value y14
  refine frame_ite ?_ ?_
  · exact State.wrap_frame (hl.sub rfl) (State.modStall_frame (hl.sub rfl) h15)
  · exact State.modStall_frame (hl.sub rfl) h15

theorem State.cacheSwitch_frame {x1} (hl : Covers [.regs, .free, .spoke, .stb] l) (g1 : State.Frame l z x1) :
    State.Frame l z (State.cacheSwitch x1) := by
  delta State.cacheSwitch
  refine State.each_frame ?_ ?_
  · exact g1
  · intro x1 x3 h2
    exact State.cacheSwitchStall_frame (hl.sub rfl) h2

theorem State.rowCopy_frame {x1} {x2} (hl : Covers [.regs, .spoke, .stb, .flt] l) (g1 : State.Frame l z x1) :
    State.Frame l z (State.rowCopy x1 x2) := by
  delta State.rowCopy
  extract_lets -merge -underBinder +onlyGivenNames y1 y2
  have h3 : State.Frame l z y2 := by subst y2; exact State.modStall_frame (hl.sub rfl) g1
  try clear_value y2
  refine State.each_frame ?_ ?_
  · exact h3
  · intro x4 x6 h5
    extract_lets -merge -underBinder +onlyGivenNames y7 y8
    have h9 : State.Frame l z y8 := by subst y8; exact State.modStall_frame (hl.sub rfl) h5
    try clear_value y8
    exact State.fault_frame (hl.sub rfl) (State.stbNote_frame (hl.sub rfl) h9)

theorem State.resultLost_frame {x1} {x2} (hl : Covers [.regs, .spoke, .flt] l) (g1 : State.Frame l z x1) :
    State.Frame l z (State.resultLost x1 x2) := by
  delta State.resultLost
  exact State.fault_frame (hl.sub rfl) (State.stbNote_frame (hl.sub rfl) (State.count_frame (hl.sub rfl) g1))

theorem State.pauseOver_frame {x1} {x2} (hl : Covers [.regs, .spoke, .flt] l) (g1 : State.Frame l z x1) :
    State.Frame l z (State.pauseOver x1 x2) := by
  delta State.pauseOver
  refine State.each_frame ?_ ?_
  · exact g1
  · intro x1 x3 h2
    refine frame_ite ?_ ?_
    · exact State.taskTo_frame (hl.sub rfl) h2
    · exact h2

theorem State.doStbLoadBegin_frame {x1} {x2} {x3} (hl : Covers [.regs, .spoke, .stb, .flt] l) (g1 : State.Frame l z x1) :
    State.Frame l z (State.doStbLoadBegin x1 x2 x3) := by
  delta State.doStbLoadBegin
  extract_lets -merge -underBinder +onlyGivenNames y1 y2 y3
  refine State.checked_frame (hl.sub rfl) ?_ ?_
  · exact g1
  · intro x4 h5
    extract_lets -merge -underBinder +onlyGivenNames y6
    have h7 : State.Frame l z y6 := by subst y6; exact State.wrs_frame (hl.sub rfl) (State.modTask_frame (hl.sub rfl) h5)
    try clear_value y6
    exact State.ok_frame (hl.sub rfl) (State.taskTo_frame (hl.sub rfl) h7)

theorem State.takeVector_frame {x1} {x2} {x3} {x4} (hl : Covers [.regs, .spoke, .stb, .flt] l) (g1 : State.Frame l z x1) :
    State.Frame l z (State.takeVector x1 x2 x3 x4).2 := by
  delta State.takeVector
  extract_lets -merge -underBinder +onlyGivenNames y1 y2
  have h3 : State.Frame l z y2 := by subst y2; exact State.tagRead_frame (hl.sub rfl) g1
  try clear_value y2
  refine frame_snd_ite ?_ ?_
  · exact frame_mk_snd (State.fault_frame (hl.sub rfl) (State.parityFound_frame (hl.sub rfl) h3))
  · exact frame_mk_snd h3

theorem State.taskEmpty_frame {x1} {x2} {x3} {x4} (hl : Covers [.regs, .spoke, .stb, .flt] l) (g1 : State.Frame l z x1) :
    State.Frame l z (State.taskEmpty x1 x2 x3 x4) := by
  delta State.taskEmpty
  extract_lets -merge -underBinder +onlyGivenNames y1 y2
  have h3 : State.Frame l z y2 := by subst y2; exact State.taskTo_frame (hl.sub rfl) (State.modTask_frame (hl.sub rfl) g1)
  try clear_value y2
  refine State.each_frame ?_ ?_
  · exact h3
  · intro x4 x6 h5
    exact State.finish_frame (hl.sub rfl) h5

theorem State.mapEntry_frame {x1} {x2} {x3} {x4} (hl : Covers [.regs, .spoke, .stb, .flt] l) (g1 : State.Frame l z x1) :
    State.Frame l z (State.mapEntry x1 x2 x3 x4) := by
  delta State.mapEntry
  extract_lets -merge -underBinder +onlyGivenNames y1
  refine frame_ite ?_ ?_
  · refine frame_ite ?_ ?_
    · exact State.fault_frame (hl.sub rfl) (State.stbNote_frame (hl.sub rfl) g1)
    · exact State.modStall_frame (hl.sub rfl) g1
  · exact g1

theorem State.narrowRead_frame {x1} {x2} {x3} {x4} (hl : Covers [.regs, .spoke, .stb, .flt] l) (g1 : State.Frame l z x1) :
    State.Frame l z (State.narrowRead x1 x2 x3 x4).2 := by
  delta State.narrowRead
  split
  · exact frame_mk_snd g1
  · extract_lets -merge -underBinder +onlyGivenNames y1
    refine frame_snd_ite ?_ ?_
    · extract_lets -merge -underBinder +onlyGivenNames y2
      have h3 : State.Frame l z y2.2 := by subst y2; exact State.weightWord_frame (hl.sub rfl) g1
      try clear_value y2
      exact frame_mk_snd h3
    · extract_lets -merge -underBinder +onlyGivenNames y4 y5
      have h6 : State.Frame l z y5 := by
        subst y5
        refine frame_ite ?_ ?_
        · exact State.tagRead_frame (hl.sub rfl) g1
        · exact g1
      try clear_value y5
      extract_lets -merge -underBinder +onlyGivenNames y7
      have h8 : State.Frame l z y7 := by
        subst y7
        refine frame_ite ?_ ?_
        · exact State.parityFound_frame (hl.sub rfl) h6
        · exact h6
      try clear_value y7
      exact frame_mk_snd h8

theorem State.doStbTaskStart_frame {x1} {x2} {x3} (hl : Covers [.regs, .spoke, .stb, .flt] l) (g1 : State.Frame l z x1) :
    State.Frame l z (State.doStbTaskStart x1 x2 x3) := by
  delta State.doStbTaskStart
  extract_lets -merge -underBinder +onlyGivenNames y1 y2 y3 y4
  refine State.checked_frame (hl.sub rfl) ?_ ?_
  · exact g1
  · intro x5 h6
    extract_lets -merge -underBinder +onlyGivenNames y7
    have h8 : State.Frame l z y7 := by subst y7; exact State.modTask_frame (hl.sub rfl) (State.clearTags_frame (hl.sub rfl) h6)
    try clear_value y7
    exact State.ok_frame (hl.sub rfl) (State.taskTo_frame (hl.sub rfl) (State.wr_frame (hl.sub rfl) h8))

theorem State.stbOff_frame {x1} (hl : Covers [.regs, .free, .spoke, .stb, .flt] l) (g1 : State.Frame l z x1) :
    State.Frame l z (State.stbOff x1) := by
  delta State.stbOff
  extract_lets -merge -underBinder +onlyGivenNames y1
  have h2 : State.Frame l z y1 := by subst y1; exact State.stallsHalt_frame (hl.sub rfl) g1
  try clear_value y1
  extract_lets -merge -underBinder +onlyGivenNames y3
  have h10 : State.Frame l z y3 := by
    subst y3
    refine State.each_frame ?_ ?_
    · exact h2
    · intro x4 x6 h5
      refine State.each_frame ?_ ?_
      · exact h5
      · intro x7 x9 h8
        exact State.taskEmpty_frame (hl.sub rfl) h8
  try clear_value y3
  extract_lets -merge -underBinder +onlyGivenNames y11 y12 y13
  have h17 : State.Frame l z y13 := by
    subst y13
    refine State.each_frame ?_ ?_
    · exact h10.stb (hl .stb (by decide))
    · intro x14 x16 h15
      exact State.finish_frame (hl.sub rfl) h15
  try clear_value y13
  exact State.wr_frame (hl.sub rfl) (State.stbLose_frame (hl.sub rfl) h17)

theorem State.narrowWrite_frame {x1} {x2} {x3} {x4} {x5} (hl : Covers [.regs, .spoke, .stb, .flt] l) (g1 : State.Frame l z x1) :
    State.Frame l z (State.narrowWrite x1 x2 x3 x4 x5) := by
  delta State.narrowWrite
  split
  · exact g1
  · refine frame_ite ?_ ?_
    · exact g1
    · extract_lets -merge -underBinder +onlyGivenNames y1
      have h2 : State.Frame l z y1 := by
        subst y1
        refine frame_ite ?_ ?_
        · exact State.tagWrite_frame (hl.sub rfl) g1
        · exact g1
      try clear_value y1
      exact State.modStall_frame (hl.sub rfl) h2

theorem State.throttleTasks_frame {x1} {x2} (hl : Covers [.regs, .spoke, .flt] l) (g1 : State.Frame l z x1) :
    State.Frame l z (State.throttleTasks x1 x2) := by
  delta State.throttleTasks
  extract_lets -merge -underBinder +onlyGivenNames y1
  have h2 : State.Frame l z y1 := by
    subst y1
    refine frame_ite ?_ ?_
    · exact State.pauseOver_frame (hl.sub rfl) g1
    · exact g1
  try clear_value y1
  refine frame_ite ?_ ?_
  · exact State.resumeFit_frame (hl.sub rfl) h2
  · exact h2

theorem State.doStbLoadEnd_frame {s r p} (hl : Covers [.regs, .spoke, .stb, .flt] l) (h : State.Frame l z s) :
    State.Frame l z (State.doStbLoadEnd s r p) := by
  unfold State.doStbLoadEnd
  extract_lets x k
  refine State.checked_frame (hl.sub rfl) h fun t ht => ?_
  extract_lets u fail
  have hf : ∀ i, State.Frame l z (fail i) := fun i =>
    State.finish_frame (hl.sub rfl) (State.taskTo_frame (hl.sub rfl) (State.modTask_frame (hl.sub rfl) ht))
  clear_value fail
  refine frame_ite (hf _) ?_
  split
  · exact hf _
  · exact State.ok_frame (hl.sub rfl) (State.taskTo_frame (hl.sub rfl) (State.modTask_frame (hl.sub rfl) (State.loadBlocks_frame (hl.sub rfl) ht)))

theorem State.scrubTick_frame {x1} {x2} (hl : Covers [.regs, .spoke, .stb, .flt] l) (g1 : State.Frame l z x1) :
    State.Frame l z (State.scrubTick x1 x2) := by
  delta State.scrubTick
  extract_lets -merge -underBinder +onlyGivenNames y1 y2 y3
  have h4 : State.Frame l z y3 := by subst y3; exact State.modStall_frame (hl.sub rfl) g1
  try clear_value y3
  refine frame_ite ?_ ?_
  · extract_lets -merge -underBinder +onlyGivenNames y5
    exact State.wrap_frame (hl.sub rfl) (State.modStall_frame (hl.sub rfl) h4)
  · refine times_frame ?_ ?_
    · intro x6 h7
      exact State.scrubWord_frame (hl.sub rfl) h7
    · exact h4

theorem State.stallRelease_frame {x1} {x2} (hl : Covers [.regs, .spoke, .stb, .flt] l) (g1 : State.Frame l z x1) :
    State.Frame l z (State.stallRelease x1 x2) := by
  delta State.stallRelease
  extract_lets -merge -underBinder +onlyGivenNames y1
  have h2 : State.Frame l z y1 := by subst y1; exact State.throttleTasks_frame (hl.sub rfl) g1
  try clear_value y1
  extract_lets -merge -underBinder +onlyGivenNames y3
  have h4 : State.Frame l z y3 := by subst y3; exact State.modStall_frame (hl.sub rfl) h2
  try clear_value y3
  refine State.tileStart_frame (hl.sub rfl) ?_
  refine State.each_frame ?_ ?_
  · exact h4
  · intro x5 x7 h6
    exact State.takeDue_frame (hl.sub rfl) h6

theorem State.feedRing_frame {x1} {x2} {x3} {x4} (hl : Covers [.regs, .spoke, .stb, .flt] l) (g1 : State.Frame l z x1) :
    State.Frame l z (State.feedRing x1 x2 x3 x4) := by
  delta State.feedRing
  extract_lets -merge -underBinder +onlyGivenNames y1 y2
  have h7 : State.Frame l z y2 := by
    subst y2
    refine State.each_frame ?_ ?_
    · exact g1
    · intro x3 x5 h4
      extract_lets -merge -underBinder +onlyGivenNames y6
      exact State.modStall_frame (hl.sub rfl) (State.tagWrite_frame (hl.sub rfl) h4)
  try clear_value y2
  exact State.modRing_frame (hl.sub rfl) h7

theorem State.deliver_frame {x1} {x2} {x3} {x4} {x5} (hl : Covers [.regs, .spoke, .zones, .flt] l) (g1 : State.Frame l z x1) :
    State.Frame l z (State.deliver x1 x2 x3 x4 x5) := by
  delta State.deliver
  refine frame_ite ?_ ?_
  · exact State.resultLost_frame (hl.sub rfl) g1
  · split
    · exact State.modZone_frame (hl.sub rfl) (State.wr_frame (hl.sub rfl) g1)
    · refine frame_ite ?_ ?_
      · exact State.modZone_frame (hl.sub rfl) g1
      · exact g1
    · exact State.modZone_frame (hl.sub rfl) g1

theorem State.takeVectors_frame {x1} {x2} {x3} {x4} (hl : Covers [.regs, .spoke, .stb, .flt] l) (g1 : State.Frame l z x1) :
    State.Frame l z (State.takeVectors x1 x2 x3 x4).2 := by
  delta State.takeVectors
  refine frame_foldl_snd ?_ ?_
  · exact frame_mk_snd g1
  · intro x1 x3 h2
    extract_lets -merge -underBinder +onlyGivenNames y4
    have h5 : State.Frame l z y4.2 := by subst y4; exact State.takeVector_frame (hl.sub rfl) h2
    try clear_value y4
    exact frame_mk_snd h5

theorem State.stbBoot_frame {x1} (hl : Covers [.regs, .spoke, .stb, .flt] l) (g1 : State.Frame l z x1) :
    State.Frame l z (State.stbBoot x1) := by
  delta State.stbBoot
  refine State.each_frame ?_ ?_
  · exact g1
  · intro x1 x3 h2
    extract_lets -merge -underBinder +onlyGivenNames y4
    refine frame_ite ?_ ?_
    · exact h2
    · refine frame_ite ?_ ?_
      · refine State.each_frame ?_ ?_
        · exact h2
        · intro x5 x7 h6
          exact State.mapEntry_frame (hl.sub rfl) h6
      · exact State.fault_frame (hl.sub rfl) (State.stbNote_frame (hl.sub rfl) h2)

theorem State.stbUnitReset_frame {x1} (hl : Covers [.regs, .spoke, .stb, .flt] l) (g1 : State.Frame l z x1) :
    State.Frame l z (State.stbUnitReset x1) := by
  delta State.stbUnitReset
  extract_lets -merge -underBinder +onlyGivenNames y1
  have h2 : State.Frame l z y1 := by subst y1; exact State.stallsHalt_frame (hl.sub rfl) g1
  try clear_value y1
  extract_lets -merge -underBinder +onlyGivenNames y3
  have h10 : State.Frame l z y3 := by
    subst y3
    refine State.each_frame ?_ ?_
    · exact h2
    · intro x4 x6 h5
      refine State.each_frame ?_ ?_
      · exact h5
      · intro x7 x9 h8
        exact State.taskEmpty_frame (hl.sub rfl) h8
  try clear_value y3
  refine State.eachRing_frame ?_ ?_
  · exact h10
  · intro x11 x13 x14 h12
    exact State.modRing_frame (hl.sub rfl) (State.wrs_frame (hl.sub rfl) h12)

theorem State.inputSet_frame {x1} {x2} {x3} {x4} (hl : Covers [.regs, .spoke, .stb, .flt] l) (g1 : State.Frame l z x1) :
    State.Frame l z (State.inputSet x1 x2 x3 x4) := by
  delta State.inputSet
  refine frame_ite ?_ ?_
  · exact State.feedRing_frame (hl.sub rfl) g1
  · exact State.fault_frame (hl.sub rfl) (State.stbNote_frame (hl.sub rfl) (State.count_frame (hl.sub rfl) g1))

theorem State.feedRun_frame {x1} {x2} (hl : Covers [.regs, .spoke, .stb, .flt] l) (g1 : State.Frame l z x1) :
    State.Frame l z (State.feedRun x1 x2) := by
  delta State.feedRun
  extract_lets -merge -underBinder +onlyGivenNames y1
  refine frame_ite ?_ ?_
  · exact State.finish_frame (hl.sub rfl) g1
  · refine frame_ite ?_ ?_
    · exact State.ok_frame (hl.sub rfl) (State.feedRing_frame (hl.sub rfl) g1)
    · exact State.finish_frame (hl.sub rfl) g1

theorem State.doStbTaskStop_frame {x1} {x2} {x3} (hl : Covers [.regs, .spoke, .stb, .flt] l) (g1 : State.Frame l z x1) :
    State.Frame l z (State.doStbTaskStop x1 x2 x3) := by
  delta State.doStbTaskStop
  extract_lets -merge -underBinder +onlyGivenNames y1 y2
  refine State.checked_frame (hl.sub rfl) ?_ ?_
  · exact g1
  · intro x3 h4
    extract_lets -merge -underBinder +onlyGivenNames y5
    have h6 : State.Frame l z y5 := by subst y5; exact State.modTask_frame (hl.sub rfl) h4
    try clear_value y5
    refine frame_ite ?_ ?_
    · exact h6
    · exact State.stopDone_frame (hl.sub rfl) (State.modStall_frame (hl.sub rfl) h6)

theorem State.stallOverrun_frame {x1} {x2} (hl : Covers [.regs, .spoke, .stb, .flt] l) (g1 : State.Frame l z x1) :
    State.Frame l z (State.stallOverrun x1 x2) := by
  delta State.stallOverrun
  split
  · exact g1
  · extract_lets -merge -underBinder +onlyGivenNames y1
    have h2 : State.Frame l z y1 := by subst y1; exact State.modStall_frame (hl.sub rfl) g1
    try clear_value y1
    extract_lets -merge -underBinder +onlyGivenNames y3
    have h4 : State.Frame l z y3 := by subst y3; exact State.stopDone_frame (hl.sub rfl) (State.taskTo_frame (hl.sub rfl) h2)
    try clear_value y3
    refine State.each_frame ?_ ?_
    · exact h4
    · intro x5 x7 h6
      exact State.count_frame (hl.sub rfl) h6

theorem State.stbOverrun_frame {x1} (hl : Covers [.regs, .spoke, .stb, .flt] l) (g1 : State.Frame l z x1) :
    State.Frame l z (State.stbOverrun x1) := by
  delta State.stbOverrun
  refine State.each_frame ?_ ?_
  · exact g1
  · intro x1 x3 h2
    exact State.stallOverrun_frame (hl.sub rfl) h2

theorem State.auditRelease_frame {x1} (hl : Covers [.regs, .spoke, .stb, .flt] l) (g1 : State.Frame l z x1) :
    State.Frame l z (State.auditRelease x1) := by
  delta State.auditRelease
  split
  · exact g1
  · extract_lets -merge -underBinder +onlyGivenNames y1 y2
    have h3 : State.Frame l z y2 := by subst y2; exact g1.stb (hl .stb (by decide))
    try clear_value y2
    extract_lets -merge -underBinder +onlyGivenNames y4
    have h8 : State.Frame l z y4 := by
      subst y4
      refine State.each_frame ?_ ?_
      · exact h3
      · intro x5 x7 h6
        exact State.modStall_frame (hl.sub rfl) h6
    try clear_value y4
    exact State.recert_frame (hl.sub rfl) (State.wrB_frame (hl.sub rfl) (State.wrB_frame (hl.sub rfl) h8))

theorem State.ringInput_frame {x1} {x2} {x3} (hl : Covers [.regs, .spoke, .stb, .flt] l) (g1 : State.Frame l z x1) :
    State.Frame l z (State.ringInput x1 x2 x3) := by
  delta State.ringInput
  refine frame_ite ?_ ?_
  · split
    · exact State.inputSet_frame (hl.sub rfl) g1
    · exact g1
  · refine frame_ite ?_ ?_
    · exact State.inputSet_frame (hl.sub rfl) g1
    · exact g1

theorem State.ringDeliver_frame {x1} {x2} {x3} (hl : Covers [.regs, .spoke, .zones, .stb, .flt] l) (g1 : State.Frame l z x1) :
    State.Frame l z (State.ringDeliver x1 x2 x3) := by
  delta State.ringDeliver
  extract_lets -merge -underBinder +onlyGivenNames y1
  refine frame_ite ?_ ?_
  · extract_lets -merge -underBinder +onlyGivenNames y2
    have h3 : State.Frame l z y2.2 := by subst y2; exact State.takeVectors_frame (hl.sub rfl) g1
    try clear_value y2
    extract_lets -merge -underBinder +onlyGivenNames y4
    have h5 : State.Frame l z y4 := by subst y4; exact State.modRing_frame (hl.sub rfl) h3
    try clear_value y4
    refine frame_ite ?_ ?_
    · refine State.each_frame ?_ ?_
      · exact h5
      · intro x6 x8 h7
        refine State.each_frame ?_ ?_
        · exact h7
        · intro x9 x11 h10
          exact State.deliver_frame (hl.sub rfl) h10
    · refine frame_ite ?_ ?_
      · exact h5
      · exact State.event_frame (hl.sub rfl) h5
  · exact g1

theorem State.auditHook_frame {x1} (hl : Covers [.regs, .spoke, .stb, .flt] l) (g1 : State.Frame l z x1) :
    State.Frame l z (State.auditHook x1) := by
  delta State.auditHook
  exact State.recert_frame (hl.sub rfl) (g1.stb (hl .stb (by decide)))

theorem State.stbSvc_frame {x1} (hl : Covers [.regs, .spoke, .zones, .adc, .stb, .flt] l) (g1 : State.Frame l z x1) :
    State.Frame l z (State.stbSvc x1) := by
  delta State.stbSvc
  refine frame_ite ?_ ?_
  · exact g1
  · extract_lets -merge -underBinder +onlyGivenNames y1
    have h6 : State.Frame l z y1 := by
      subst y1
      refine State.eachRing_frame ?_ ?_
      · exact g1
      · intro x2 x4 x5 h3
        exact State.ringDeliver_frame (hl.sub rfl) h3
    try clear_value y1
    extract_lets -merge -underBinder +onlyGivenNames y7 y8 y9
    have h13 : State.Frame l z y9 := by
      subst y9
      refine State.each_frame ?_ ?_
      · exact h6.stb (hl .stb (by decide))
      · intro x10 x12 h11
        exact State.feedRun_frame (hl.sub rfl) h11
    try clear_value y9
    extract_lets -merge -underBinder +onlyGivenNames y14
    have h19 : State.Frame l z y14 := by
      subst y14
      refine State.eachRing_frame ?_ ?_
      · exact h13
      · intro x15 x17 x18 h16
        exact State.ringInput_frame (hl.sub rfl) h16
    try clear_value y14
    refine State.each_frame ?_ ?_
    · exact h19
    · intro x20 x22 h21
      refine frame_ite ?_ ?_
      · exact State.modDev_frame (hl.sub rfl) h21
      · exact h21

theorem State.stbClose_frame {x1} (hl : Covers [.regs, .spoke, .stb, .flt] l) (g1 : State.Frame l z x1) :
    State.Frame l z (State.stbClose x1) := by
  delta State.stbClose
  refine frame_ite ?_ ?_
  · extract_lets -merge -underBinder +onlyGivenNames y1
    have h2 : State.Frame l z y1 := by subst y1; exact State.stbOverrun_frame (hl.sub rfl) g1
    try clear_value y1
    extract_lets -merge -underBinder +onlyGivenNames y3
    have h7 : State.Frame l z y3 := by
      subst y3
      refine State.each_frame ?_ ?_
      · exact h2
      · intro x4 x6 h5
        exact State.wr_frame (hl.sub rfl) (State.landAll_frame (hl.sub rfl) h5)
    try clear_value y3
    extract_lets -merge -underBinder +onlyGivenNames y8
    have h16 : State.Frame l z y8 := by
      subst y8
      refine State.each_frame ?_ ?_
      · refine State.eachRing_frame ?_ ?_
        · exact h7
        · intro x9 x11 x12 h10
          exact State.pointerPublish_frame (hl.sub rfl) h10
      · intro x13 x15 h14
        exact State.rowCopy_frame (hl.sub rfl) h14
    try clear_value y8
    exact h16.stb (hl .stb (by decide))
  · exact g1

theorem State.stbRelease_frame {x1} (hl : Covers [.regs, .spoke, .stb, .flt] l) (g1 : State.Frame l z x1) :
    State.Frame l z (State.stbRelease x1) := by
  delta State.stbRelease
  refine frame_ite ?_ ?_
  · exact g1
  · extract_lets -merge -underBinder +onlyGivenNames y1
    have h2 : State.Frame l z y1 := by subst y1; exact State.auditRelease_frame (hl.sub rfl) g1
    try clear_value y1
    extract_lets -merge -underBinder +onlyGivenNames y3 y4
    have h5 : State.Frame l z y4 := by subst y4; exact h2.stb (hl .stb (by decide))
    try clear_value y4
    extract_lets -merge -underBinder +onlyGivenNames y6
    have h15 : State.Frame l z y6 := by
      subst y6
      refine State.eachRing_frame ?_ ?_
      · refine State.eachRing_frame ?_ ?_
        · exact h5
        · intro x7 x9 x10 h8
          exact State.creditRelease_frame (hl.sub rfl) h8
      · intro x11 x13 x14 h12
        exact State.pointerRelease_frame (hl.sub rfl) h12
    try clear_value y6
    extract_lets -merge -underBinder +onlyGivenNames y16
    have h20 : State.Frame l z y16 := by
      subst y16
      refine State.each_frame ?_ ?_
      · exact h15
      · intro x17 x19 h18
        exact State.stallRelease_frame (hl.sub rfl) h18
    try clear_value y16
    exact h20.stb (hl .stb (by decide))

theorem State.stbHook_frame {x1} {x2} {x3} (hl : Covers [.regs, .spoke, .stb, .flt] l) (g1 : State.Frame l z x1) :
    State.Frame l z (State.stbHook x1 x2 x3) := by
  delta State.stbHook
  refine frame_ite ?_ ?_
  · extract_lets -merge -underBinder +onlyGivenNames y1 y2 y3 y4
    refine frame_ite ?_ ?_
    · exact g1
    · extract_lets -merge -underBinder +onlyGivenNames y5
      have h6 : State.Frame l z y5 := by
        subst y5
        refine frame_ite ?_ ?_
        · exact State.ringStop_frame (hl.sub rfl) g1
        · exact g1
      try clear_value y5
      refine frame_ite ?_ ?_
      · exact State.ringStart_frame (hl.sub rfl) h6
      · exact h6
  · refine frame_ite ?_ ?_
    · exact State.cacheHook_frame (hl.sub rfl) g1
    · refine frame_ite ?_ ?_
      · exact State.auditHook_frame (hl.sub rfl) g1
      · exact g1

/-! ### Security -/

theorem State.helloAdmit_frame {x1} {x2} (hl : Covers [.spoke] l) (g1 : State.Frame l z x1) :
    State.Frame l z (State.helloAdmit x1 x2) := by
  delta State.helloAdmit
  exact State.modChan_frame (hl.sub rfl) g1

theorem State.secPut_frame {x1} {x2} (hl : Covers [.sec] l) (g1 : State.Frame l z x1) :
    State.Frame l z (State.secPut x1 x2) := by
  delta State.secPut
  exact g1.sec (hl .sec (by decide))

theorem State.pairCode_frame {x1} {x2} {x3} (hl : Covers [.spoke] l) (g1 : State.Frame l z x1) :
    State.Frame l z (State.pairCode x1 x2 x3) := by
  delta State.pairCode
  extract_lets -merge -underBinder +onlyGivenNames y1
  refine State.each_frame ?_ ?_
  · exact g1
  · intro x2 x4 h3
    exact State.modChan_frame (hl.sub rfl) h3

theorem State.burnAdmitted_frame {x1} (hl : Covers [.sec] l) (g1 : State.Frame l z x1) :
    State.Frame l z (State.burnAdmitted x1) := by
  delta State.burnAdmitted
  exact g1.sec (hl .sec (by decide))

theorem State.helloLapse_frame {x1} {x2} (hl : Covers [.spoke] l) (g1 : State.Frame l z x1) :
    State.Frame l z (State.helloLapse x1 x2) := by
  delta State.helloLapse
  exact State.modChan_frame (hl.sub rfl) g1

theorem State.random_frame {x1} {x2} (hl : Covers [.free] l) (g1 : State.Frame l z x1) :
    State.Frame l z (State.random x1 x2).2 := by
  delta State.random
  extract_lets -merge -underBinder +onlyGivenNames y1
  have h2 : State.Frame l z y1.2 := by subst y1; exact State.draw_frame (hl.sub rfl) g1
  try clear_value y1
  exact frame_mk_snd h2

theorem State.bankErase_frame {x1} {x2} (hl : Covers [.sec] l) (g1 : State.Frame l z x1) :
    State.Frame l z (State.bankErase x1 x2) := by
  delta State.bankErase
  exact g1.sec (hl .sec (by decide))

theorem State.seed_frame {x1} (hl : Covers [.sec] l) (g1 : State.Frame l z x1) :
    State.Frame l z (State.seed x1) := by
  delta State.seed
  exact g1.sec (hl .sec (by decide))

theorem State.secDrop_frame {x1} {x2} (hl : Covers [.sec] l) (g1 : State.Frame l z x1) :
    State.Frame l z (State.secDrop x1 x2) := by
  delta State.secDrop
  exact g1.sec (hl .sec (by decide))

theorem State.closeChannels_frame {x1} (hl : Covers [.spoke] l) (g1 : State.Frame l z x1) :
    State.Frame l z (State.closeChannels x1) := by
  delta State.closeChannels
  refine State.each_frame ?_ ?_
  · exact g1
  · intro x1 x3 h2
    exact State.modChan_frame (hl.sub rfl) h2

theorem State.bankWrite_frame {x1} {x2} {x3} {x4} (hl : Covers [.sec] l) (g1 : State.Frame l z x1) :
    State.Frame l z (State.bankWrite x1 x2 x3 x4) := by
  delta State.bankWrite
  exact g1.sec (hl .sec (by decide))

theorem State.lockoutEnd_frame {x1} {x2} (hl : Covers [.spoke] l) (g1 : State.Frame l z x1) :
    State.Frame l z (State.lockoutEnd x1 x2) := by
  delta State.lockoutEnd
  exact State.modChan_frame (hl.sub rfl) g1

theorem State.reseed_frame {x1} (hl : Covers [.sec] l) (g1 : State.Frame l z x1) :
    State.Frame l z (State.reseed x1) := by
  delta State.reseed
  refine frame_ite ?_ ?_
  · exact State.seed_frame (hl.sub rfl) g1
  · exact g1

theorem State.burnAsk_frame {x1} {x2} {x3} (hl : Covers [.pwr, .spoke, .sec, .flt] l) (g1 : State.Frame l z x1) :
    State.Frame l z (State.burnAsk x1 x2 x3) := by
  delta State.burnAsk
  refine frame_ite ?_ ?_
  · exact State.finish?_frame (hl.sub rfl) (State.secDrop_frame (hl.sub rfl) g1)
  · exact State.escAsk_frame (hl.sub rfl) (g1.sec (hl .sec (by decide)))

theorem State.updateRecord_frame {x1} {x2} {x3} {x4} (hl : Covers [.hay] l) (g1 : State.Frame l z x1) :
    State.Frame l z (State.updateRecord x1 x2 x3 x4) := by
  delta State.updateRecord
  exact State.record_frame (hl.sub rfl) g1

theorem State.keyRecord_frame {x1} {x2} {x3} {x4} (hl : Covers [.hay] l) (g1 : State.Frame l z x1) :
    State.Frame l z (State.keyRecord x1 x2 x3 x4) := by
  delta State.keyRecord
  exact State.record_frame (hl.sub rfl) g1

theorem State.sessionRecord_frame {x1} {x2} {x3} {x4} {x5} (hl : Covers [.hay] l) (g1 : State.Frame l z x1) :
    State.Frame l z (State.sessionRecord x1 x2 x3 x4 x5) := by
  delta State.sessionRecord
  exact State.record_frame (hl.sub rfl) g1

theorem State.showSlot_frame {x1} {x2} (hl : Covers [.regs] l) (g1 : State.Frame l z x1) :
    State.Frame l z (State.showSlot x1 x2) := by
  delta State.showSlot
  extract_lets -merge -underBinder +onlyGivenNames y1 y2
  have h3 : State.Frame l z y2 := by subst y2; exact State.wrs_frame (hl.sub rfl) g1
  try clear_value y2
  refine frame_ite ?_ ?_
  · exact State.wr_frame (hl.sub rfl) h3
  · exact h3

theorem State.pairFinish_frame {x1} {x2} (hl : Covers [.spoke, .sec, .flt] l) (g1 : State.Frame l z x1) :
    State.Frame l z (State.pairFinish x1 x2) := by
  delta State.pairFinish
  extract_lets -merge -underBinder +onlyGivenNames y1
  exact State.finish?_frame (hl.sub rfl) (g1.sec (hl .sec (by decide)))

theorem State.secureBoot_frame {x1} (hl : Covers [.regs, .sec] l) (g1 : State.Frame l z x1) :
    State.Frame l z (State.secureBoot x1) := by
  delta State.secureBoot
  extract_lets -merge -underBinder +onlyGivenNames y1
  try clear_value y1
  extract_lets -merge -underBinder +onlyGivenNames y2
  try clear_value y2
  extract_lets -merge -underBinder +onlyGivenNames y3 y4
  have h5 : State.Frame l z y4 := by subst y4; exact g1.sec (hl .sec (by decide))
  try clear_value y4
  extract_lets -merge -underBinder +onlyGivenNames y6
  try clear_value y6
  split
  · extract_lets -merge -underBinder +onlyGivenNames y7
    have h8 : State.Frame l z y7 := by subst y7; exact State.wrs_frame (hl.sub rfl) h5
    try clear_value y7
    exact h8.sec (hl .sec (by decide))
  · extract_lets -merge -underBinder +onlyGivenNames y9 y10 y11
    have h12 : State.Frame l z y11 := by subst y11; exact h5.sec (hl .sec (by decide))
    try clear_value y11
    exact State.wrs_frame (hl.sub rfl) h12

theorem State.updateDrop_frame {x1} (hl : Covers [.regs, .sec] l) (g1 : State.Frame l z x1) :
    State.Frame l z (State.updateDrop x1) := by
  delta State.updateDrop
  refine frame_ite ?_ ?_
  · extract_lets -merge -underBinder +onlyGivenNames y1
    have h2 : State.Frame l z y1 := by subst y1; exact State.wrs_frame (hl.sub rfl) g1
    try clear_value y1
    exact h2.sec (hl .sec (by decide))
  · exact g1

theorem State.burnWithdraw_frame {x1} (hl : Covers [.pwr, .spoke, .sec, .flt] l) (g1 : State.Frame l z x1) :
    State.Frame l z (State.burnWithdraw x1) := by
  delta State.burnWithdraw
  split
  · exact g1
  · refine frame_ite ?_ ?_
    · exact g1
    · exact State.finish?_frame (hl.sub rfl) (State.escEnd_frame (hl.sub rfl) (g1.sec (hl .sec (by decide))))

theorem State.secReset_frame {x1} {x2} (hl : Covers [.regs, .sec] l) (g1 : State.Frame l z x1) :
    State.Frame l z (State.secReset x1 x2) := by
  delta State.secReset
  extract_lets -merge -underBinder +onlyGivenNames y1 y2
  have h3 : State.Frame l z y2 := by subst y2; exact State.wrs_frame (hl.sub rfl) g1
  try clear_value y2
  extract_lets -merge -underBinder +onlyGivenNames y4
  have h5 : State.Frame l z y4 := by subst y4; exact State.clearAttr_frame (hl.sub rfl) h3
  try clear_value y4
  exact h5.sec (hl .sec (by decide))

theorem State.authDone_frame {x1} {x2} {x3} {x4} {x5} (hl : Covers [.spoke, .hay, .flt] l) (g1 : State.Frame l z x1) :
    State.Frame l z (State.authDone x1 x2 x3 x4 x5) := by
  delta State.authDone
  extract_lets -merge -underBinder +onlyGivenNames y1
  have h2 : State.Frame l z y1 := by subst y1; exact State.ok_frame (hl.sub rfl) (State.sessionRecord_frame (hl.sub rfl) g1)
  try clear_value y1
  exact State.modChan_frame (hl.sub rfl) h2

theorem State.trialEnded_frame {x1} {x2} (hl : Covers [.regs, .spoke, .hay, .sec] l) (g1 : State.Frame l z x1) :
    State.Frame l z (State.trialEnded x1 x2) := by
  delta State.trialEnded
  extract_lets -merge -underBinder +onlyGivenNames y1 y2 y3 y4 y5 y6 y7
  have h8 : State.Frame l z y7 := by subst y7; exact State.wr_frame (hl.sub rfl) g1
  try clear_value y7
  extract_lets -merge -underBinder +onlyGivenNames y9 y10
  have h11 : State.Frame l z y10 := by subst y10; exact h8.sec (hl .sec (by decide))
  try clear_value y10
  extract_lets -merge -underBinder +onlyGivenNames y12
  have h13 : State.Frame l z y12 := by
    subst y12
    refine frame_ite ?_ ?_
    · exact h11
    · exact State.wrs_frame (hl.sub rfl) h11
  try clear_value y12
  extract_lets -merge -underBinder +onlyGivenNames y14
  exact State.secNote_frame (hl.sub rfl) (State.updateRecord_frame (hl.sub rfl) h13)

theorem State.secAsk_frame {x1} {x2} {x3} {x4} (hl : Covers [.regs, .pwr, .spoke, .hay, .sec, .flt] l) (g1 : State.Frame l z x1) :
    State.Frame l z (State.secAsk x1 x2 x3 x4) := by
  delta State.secAsk
  exact State.hayAsk_frame (hl.sub rfl) (State.secPut_frame (hl.sub rfl) g1)

theorem State.lockout_frame {x1} {x2} {x3} {x4} (hl : Covers [.regs, .spoke, .hay, .flt] l) (g1 : State.Frame l z x1) :
    State.Frame l z (State.lockout x1 x2 x3 x4) := by
  delta State.lockout
  extract_lets -merge -underBinder +onlyGivenNames y1
  have h2 : State.Frame l z y1 := by subst y1; exact State.modChan_frame (hl.sub rfl) g1
  try clear_value y1
  exact State.fault_frame (hl.sub rfl) (State.secNote_frame (hl.sub rfl) (State.sessionRecord_frame (hl.sub rfl) h2))

theorem State.setSlot_frame {x1} {x2} {x3} (hl : Covers [.regs, .sec] l) (g1 : State.Frame l z x1) :
    State.Frame l z (State.setSlot x1 x2 x3) := by
  delta State.setSlot
  extract_lets -merge -underBinder +onlyGivenNames y1 y2
  have h3 : State.Frame l z y2 := by subst y2; exact g1.sec (hl .sec (by decide))
  try clear_value y2
  exact State.showSlot_frame (hl.sub rfl) h3

theorem State.updateReset_frame {x1} {x2} (hl : Covers [.regs, .sec] l) (g1 : State.Frame l z x1) :
    State.Frame l z (State.updateReset x1 x2) := by
  delta State.updateReset
  refine frame_ite ?_ ?_
  · exact State.updateDrop_frame (hl.sub rfl) g1
  · exact g1

theorem State.pairEnd_frame {x1} {x2} (hl : Covers [.regs, .spoke, .sec, .flt] l) (g1 : State.Frame l z x1) :
    State.Frame l z (State.pairEnd x1 x2) := by
  delta State.pairEnd
  split
  · exact g1
  · refine State.secNote_frame (hl.sub rfl) ?_
    refine State.pairFinish_frame (hl.sub rfl) ?_
    extract_lets -merge -underBinder +onlyGivenNames y1
    have h2 : State.Frame l z y1 := by subst y1; exact State.wr_frame (hl.sub rfl) g1
    try clear_value y1
    exact h2.sec (hl .sec (by decide))

theorem State.loadSlots_frame {x1} (hl : Covers [.regs, .sec] l) (g1 : State.Frame l z x1) :
    State.Frame l z (State.loadSlots x1) := by
  delta State.loadSlots
  refine State.each_frame ?_ ?_
  · exact g1
  · intro x1 x3 h2
    exact State.setSlot_frame (hl.sub rfl) h2

theorem State.pairExpire_frame {x1} (hl : Covers [.regs, .spoke, .sec, .flt] l) (g1 : State.Frame l z x1) :
    State.Frame l z (State.pairExpire x1) := by
  delta State.pairExpire
  split
  · exact g1
  · refine frame_ite ?_ ?_
    · exact State.pairEnd_frame (hl.sub rfl) g1
    · exact g1

theorem State.entropyFailed_frame {x1} (hl : Covers [.regs, .spoke, .hay, .sec, .flt] l) (g1 : State.Frame l z x1) :
    State.Frame l z (State.entropyFailed x1) := by
  delta State.entropyFailed
  refine frame_ite ?_ ?_
  · exact g1
  · extract_lets -merge -underBinder +onlyGivenNames y1
    have h2 : State.Frame l z y1 := by subst y1; exact State.wr_frame (hl.sub rfl) g1
    try clear_value y1
    extract_lets -merge -underBinder +onlyGivenNames y3 y4
    have h5 : State.Frame l z y4 := by subst y4; exact h2.sec (hl .sec (by decide))
    try clear_value y4
    extract_lets -merge -underBinder +onlyGivenNames y6
    have h7 : State.Frame l z y6 := by subst y6; exact State.fault_frame (hl.sub rfl) (State.record_frame (hl.sub rfl) (State.secNote_frame (hl.sub rfl) h5))
    try clear_value y6
    exact State.recert_frame (hl.sub rfl) h7

theorem State.authFailed_frame {x1} {x2} {x3} (hl : Covers [.regs, .spoke, .hay, .flt] l) (g1 : State.Frame l z x1) :
    State.Frame l z (State.authFailed x1 x2 x3) := by
  delta State.authFailed
  extract_lets -merge -underBinder +onlyGivenNames y1
  have h2 : State.Frame l z y1 := by subst y1; exact State.modChan_frame (hl.sub rfl) g1
  try clear_value y1
  extract_lets -merge -underBinder +onlyGivenNames y3
  have h4 : State.Frame l z y3 := by subst y3; exact State.finish_frame (hl.sub rfl) (State.sessionRecord_frame (hl.sub rfl) h2)
  try clear_value y3
  refine frame_ite ?_ ?_
  · exact State.lockout_frame (hl.sub rfl) h4
  · exact h4

theorem State.secBoot_frame {x1} (hl : Covers [.regs, .sec] l) (g1 : State.Frame l z x1) :
    State.Frame l z (State.secBoot x1) := by
  delta State.secBoot
  extract_lets -merge -underBinder +onlyGivenNames y1
  have h5 : State.Frame l z y1 := by
    subst y1
    split
    · exact g1
    · extract_lets -merge -underBinder +onlyGivenNames y2 y3
      have h4 : State.Frame l z y3 := by subst y3; exact State.wrs_frame (hl.sub rfl) g1
      try clear_value y3
      exact h4.sec (hl .sec (by decide))
  try clear_value y1
  exact State.seed_frame (hl.sub rfl) (State.secureBoot_frame (hl.sub rfl) (State.loadSlots_frame (hl.sub rfl) h5))

theorem State.secEffect_frame {x1} {x2} (hl : Covers [.regs, .pwr, .spoke, .hay, .sec, .flt] l) (g1 : State.Frame l z x1) :
    State.Frame l z (State.secEffect x1 x2) := by
  delta State.secEffect
  split
  · exact State.finish?_frame (hl.sub rfl) (State.keyRecord_frame (hl.sub rfl) (State.setSlot_frame (hl.sub rfl) (State.secDrop_frame (hl.sub rfl) g1)))
  · exact g1
  · exact State.secNote_frame (hl.sub rfl) (State.finish?_frame (hl.sub rfl) (State.keyRecord_frame (hl.sub rfl) (State.setSlot_frame (hl.sub rfl) (State.secDrop_frame (hl.sub rfl) g1))))
  · refine frame_ite ?_ ?_
    · exact g1
    · exact State.burnAsk_frame (hl.sub rfl) g1
  · refine frame_ite ?_ ?_
    · exact g1
    · extract_lets -merge -underBinder +onlyGivenNames y1
      have h2 : State.Frame l z y1 := by subst y1; exact State.setSlot_frame (hl.sub rfl) g1
      try clear_value y1
      extract_lets -merge -underBinder +onlyGivenNames y3 y4
      have h5 : State.Frame l z y4 := by subst y4; exact h2.sec (hl .sec (by decide))
      try clear_value y4
      exact State.burnAsk_frame (hl.sub rfl) h5
  · extract_lets -merge -underBinder +onlyGivenNames y6
    have h7 : State.Frame l z y6 := by subst y6; exact State.finish?_frame (hl.sub rfl) (State.secDrop_frame (hl.sub rfl) g1)
    try clear_value y6
    extract_lets -merge -underBinder +onlyGivenNames y8 y9
    have h10 : State.Frame l z y9 := by subst y9; exact State.trialEnded_frame (hl.sub rfl) h7
    try clear_value y9
    refine frame_ite ?_ ?_
    · exact h10
    · exact State.hubFault_frame (hl.sub rfl) h10
  · exact State.setSlot_frame (hl.sub rfl) (State.secDrop_frame (hl.sub rfl) g1)

theorem State.wpChange_frame {x1} {x2} (hl : Covers [.regs, .spoke, .flt] l) (g1 : State.Frame l z x1) :
    State.Frame l z (State.wpChange x1 x2) := by
  delta State.wpChange
  exact State.recert_frame (hl.sub rfl) (State.wrB_frame (hl.sub rfl) (State.wrB_frame (hl.sub rfl) g1))

theorem State.secPageOrEffect_frame {x1} {x2} (hl : Covers [.regs, .pwr, .spoke, .hay, .sec, .flt] l) (g1 : State.Frame l z x1) :
    State.Frame l z (State.secPageOrEffect x1 x2) := by
  delta State.secPageOrEffect
  split
  · extract_lets -merge -underBinder +onlyGivenNames y1 y2
    have h3 : State.Frame l z y2 := by subst y2; exact g1.sec (hl .sec (by decide))
    try clear_value y2
    exact State.secAsk_frame (hl.sub rfl) h3
  · exact State.secAsk_frame (hl.sub rfl) g1
  · exact State.secEffect_frame (hl.sub rfl) g1

theorem State.entropyRecovered_frame {x1} (hl : Covers [.regs, .spoke, .hay, .sec, .flt] l) (g1 : State.Frame l z x1) :
    State.Frame l z (State.entropyRecovered x1) := by
  delta State.entropyRecovered
  refine frame_ite ?_ ?_
  · extract_lets -merge -underBinder +onlyGivenNames y1
    have h2 : State.Frame l z y1 := by subst y1; exact State.wr_frame (hl.sub rfl) (State.seed_frame (hl.sub rfl) g1)
    try clear_value y1
    exact State.recert_frame (hl.sub rfl) (State.record_frame (hl.sub rfl) (State.secNote_frame (hl.sub rfl) h2))
  · exact g1

theorem State.secAction_frame {x1} {x2} (hl : Covers [.regs, .free, .pwr, .spoke, .hay, .sec, .flt] l) (g1 : State.Frame l z x1) :
    State.Frame l z (State.secAction x1 x2) := by
  delta State.secAction
  split
  · refine frame_ite ?_ ?_
    · extract_lets -merge -underBinder +onlyGivenNames y1
      have h2 : State.Frame l z y1.2 := by subst y1; exact State.random_frame (hl.sub rfl) g1
      try clear_value y1
      extract_lets -merge -underBinder +onlyGivenNames y3
      exact State.secPageOrEffect_frame (hl.sub rfl) (State.secPut_frame (hl.sub rfl) h2)
    · exact State.finish?_frame (hl.sub rfl) (State.secDrop_frame (hl.sub rfl) g1)
  · refine frame_ite ?_ ?_
    · exact State.secPageOrEffect_frame (hl.sub rfl) g1
    · exact State.finish?_frame (hl.sub rfl) (State.secDrop_frame (hl.sub rfl) g1)
  · exact State.secPageOrEffect_frame (hl.sub rfl) g1

theorem State.secNext_frame {x1} {x2} (hl : Covers [.regs, .free, .pwr, .spoke, .hay, .sec, .flt] l) (g1 : State.Frame l z x1) :
    State.Frame l z (State.secNext x1 x2) := by
  delta State.secNext
  split
  · exact State.secAction_frame (hl.sub rfl) g1
  · refine frame_ite ?_ ?_
    · extract_lets -merge -underBinder +onlyGivenNames y1
      exact State.secAsk_frame (hl.sub rfl) g1
    · extract_lets -merge -underBinder +onlyGivenNames y2
      exact State.secAction_frame (hl.sub rfl) (State.secPut_frame (hl.sub rfl) (State.wr_frame (hl.sub rfl) g1))

theorem State.secLoop_frame {k s} (hl : Covers [.regs, .free, .pwr, .spoke, .hay, .sec, .flt] l) (h : State.Frame l z s) : State.Frame l z (State.secLoop k s) := by
  induction k generalizing s with
  | zero => exact h
  | succ k ih =>
    unfold State.secLoop
    split
    · rename_i e1 e2
      cases e1
      exact frame_ite h (ih (State.secNext_frame (hl.sub rfl) h))
    · exact h

theorem State.secAdvance_frame {x1} (hl : Covers [.regs, .free, .pwr, .spoke, .hay, .sec, .flt] l) (g1 : State.Frame l z x1) :
    State.Frame l z (State.secAdvance x1) := by
  delta State.secAdvance
  exact State.secLoop_frame (hl.sub rfl) g1

theorem State.secStart_frame {x1} {x2} {x3} {x4} (hl : Covers [.regs, .free, .pwr, .spoke, .hay, .sec, .flt] l) (g1 : State.Frame l z x1) :
    State.Frame l z (State.secStart x1 x2 x3 x4) := by
  delta State.secStart
  extract_lets -merge -underBinder +onlyGivenNames y1
  exact State.secAdvance_frame (hl.sub rfl) (g1.sec (hl .sec (by decide)))

theorem State.trialExpired_frame {x1} (hl : Covers [.regs, .free, .pwr, .spoke, .hay, .sec, .flt] l) (g1 : State.Frame l z x1) :
    State.Frame l z (State.trialExpired x1) := by
  delta State.trialExpired
  refine frame_ite ?_ ?_
  · exact State.secStart_frame (hl.sub rfl) g1
  · exact g1

theorem State.trialStart_frame {x1} (hl : Covers [.regs, .free, .pwr, .spoke, .hay, .sec, .flt] l) (g1 : State.Frame l z x1) :
    State.Frame l z (State.trialStart x1) := by
  delta State.trialStart
  extract_lets -merge -underBinder +onlyGivenNames y1
  have h2 : State.Frame l z y1 := by subst y1; exact State.wrs_frame (hl.sub rfl) g1
  try clear_value y1
  extract_lets -merge -underBinder +onlyGivenNames y3
  have h4 : State.Frame l z y3 := by
    subst y3
    refine frame_ite ?_ ?_
    · exact State.secNote_frame (hl.sub rfl) (State.updateRecord_frame (hl.sub rfl) h2)
    · exact g1
  try clear_value y3
  refine frame_ite ?_ ?_
  · exact State.secStart_frame (hl.sub rfl) h4
  · exact h4

theorem State.destroyKeys_frame {x1} (hl : Covers [.regs, .free, .pwr, .spoke, .hay, .sec, .flt] l) (g1 : State.Frame l z x1) :
    State.Frame l z (State.destroyKeys x1) := by
  delta State.destroyKeys
  extract_lets -merge -underBinder +onlyGivenNames y1 y2
  have h3 : State.Frame l z y2 := by subst y2; exact g1.sec (hl .sec (by decide))
  try clear_value y2
  extract_lets -merge -underBinder +onlyGivenNames y4
  have h8 : State.Frame l z y4 := by
    subst y4
    refine State.each_frame ?_ ?_
    · exact h3
    · intro x5 x7 h6
      exact State.showSlot_frame (hl.sub rfl) h6
  try clear_value y4
  refine State.each_frame ?_ ?_
  · exact State.wr_frame (hl.sub rfl) h8
  · intro x9 x11 h10
    exact State.secStart_frame (hl.sub rfl) h10

theorem State.trialStage_frame {x1} (hl : Covers [.regs, .free, .pwr, .spoke, .hay, .sec, .flt] l) (g1 : State.Frame l z x1) :
    State.Frame l z (State.trialStage x1) := by
  delta State.trialStage
  refine frame_ite ?_ ?_
  · exact State.trialExpired_frame (hl.sub rfl) (State.wr_frame (hl.sub rfl) g1)
  · exact g1

theorem State.eraseAgain_frame {x1} (hl : Covers [.regs, .free, .pwr, .spoke, .hay, .sec, .flt] l) (g1 : State.Frame l z x1) :
    State.Frame l z (State.eraseAgain x1) := by
  delta State.eraseAgain
  refine frame_ite ?_ ?_
  · refine State.each_frame ?_ ?_
    · exact g1
    · intro x1 x3 h2
      exact State.secStart_frame (hl.sub rfl) h2
  · exact g1

theorem State.burnEnd_frame {s} (hl : Covers [.regs, .free, .pwr, .spoke, .hay, .sec, .flt] l) (h : State.Frame l z s) : State.Frame l z (State.burnEnd s) := by
  unfold State.burnEnd
  split
  · exact h
  · refine frame_ite h ?_
    extract_lets -merge -underBinder +onlyGivenNames old pair src sec y1 y2 y3 cert y4
    have h0 : State.Frame l z src := State.wr_frame (hl.sub rfl) h
    have h1 : State.Frame l z y1 := State.escEnd_frame (hl.sub rfl) (h0.sec (hl .sec (by decide)))
    have h2 : State.Frame l z y2 := State.showSlot_frame (hl.sub rfl) (State.record_frame (hl.sub rfl) h1)
    have h3 : State.Frame l z y3 := State.finish?_frame (hl.sub rfl) h2
    have h4 : State.Frame l z y4 := State.recert_frame (hl.sub rfl) h3
    exact frame_ite (State.closeChannels_frame (hl.sub rfl) (State.destroyKeys_frame (hl.sub rfl) (State.finish?_frame (hl.sub rfl)
      (frame_ite (State.secNote_frame (hl.sub rfl) h4) h4)))) (State.secAdvance_frame (hl.sub rfl) h4)

theorem State.secFirstTick_frame {x1} (hl : Covers [.regs, .free, .pwr, .spoke, .hay, .sec, .flt] l) (g1 : State.Frame l z x1) :
    State.Frame l z (State.secFirstTick x1) := by
  delta State.secFirstTick
  extract_lets -merge -underBinder +onlyGivenNames y1 y2
  have h3 : State.Frame l z y2 := by subst y2; exact State.record_frame (hl.sub rfl) g1
  try clear_value y2
  extract_lets -merge -underBinder +onlyGivenNames y4
  have h5 : State.Frame l z y4 := by
    subst y4
    refine frame_ite ?_ ?_
    · exact h3
    · exact State.fault_frame (hl.sub rfl) h3
  try clear_value y4
  exact State.recert_frame (hl.sub rfl) (State.eraseAgain_frame (hl.sub rfl) (State.trialStart_frame (hl.sub rfl) h5))

end Sys2Proof.Machine
end

