-- ==== Sys2Proof/Laws/Frame5.lean ====
section
/-!
SUPPORT. Sys2Proof/Laws/Frame5.lean: the operations of SecurityCommands, Console, Panel, Segment and the parts
of the state they can change.
-/

namespace Sys2Proof.Machine

variable {l : List Part} {z : State}

/-! ### SecurityCommands -/

theorem execLockoutEnd_frame {x1} {x2} (hl : Covers [.spoke] l) (g2 : State.Frame l z x2) :
    State.FrameOut l z (execLockoutEnd x1 x2) := by
  delta execLockoutEnd
  exact frame_next (State.lockoutEnd_frame (hl.sub rfl) g2)

theorem State.pairStart_frame {x1} {x2} {x3} (hl : Covers [.free, .spoke, .sec] l) (g1 : State.Frame l z x1) :
    State.Frame l z (State.pairStart x1 x2 x3) := by
  delta State.pairStart
  extract_lets -merge -underBinder +onlyGivenNames y1
  have h2 : State.Frame l z y1.2 := by subst y1; exact State.random_frame (hl.sub rfl) g1
  try clear_value y1
  extract_lets -merge -underBinder +onlyGivenNames y3
  have h4 : State.Frame l z y3.2 := by subst y3; exact State.random_frame (hl.sub rfl) h2
  try clear_value y3
  extract_lets -merge -underBinder +onlyGivenNames y5 y6 y7
  refine State.pairCode_frame (hl.sub rfl) ?_
  refine State.accepted_frame (hl.sub rfl) ?_
  extract_lets -merge -underBinder +onlyGivenNames y8
  have h9 : State.Frame l z y8 := by subst y8; exact h4
  try clear_value y8
  exact h9.sec (hl .sec (by decide))

theorem State.subCommand_frame {s r p} {m : List (State → Ref → Bytes → State)} (hl : Covers [.spoke, .flt] l) (h : State.Frame l z s)
    (hf : ∀ f ∈ m, ∀ t r p, State.Frame l z t → State.Frame l z (f t r p)) : State.Frame l z (State.subCommand s r p m) := by
  unfold State.subCommand
  refine frame_ite (State.finish_frame (hl.sub rfl) h) ?_
  split
  · exact State.finish_frame (hl.sub rfl) h
  · rename_i f e
    exact hf f (List.mem_of_getElem? e) _ _ _ h

theorem execHandshakeLapse_frame {x1} {x2} (hl : Covers [.spoke] l) (g2 : State.Frame l z x2) :
    State.FrameOut l z (execHandshakeLapse x1 x2) := by
  delta execHandshakeLapse
  exact frame_next (State.helloLapse_frame (hl.sub rfl) g2)

theorem State.updateBegin_frame {x1} {x2} {x3} (hl : Covers [.regs, .spoke, .sec, .flt] l) (g1 : State.Frame l z x1) :
    State.Frame l z (State.updateBegin x1 x2 x3) := by
  delta State.updateBegin
  extract_lets -merge -underBinder +onlyGivenNames y1
  have h2 : State.Frame l z y1 := by subst y1; exact State.accepted_frame (hl.sub rfl) g1
  try clear_value y1
  refine frame_ite ?_ ?_
  · exact State.finish_frame (hl.sub rfl) h2
  · extract_lets -merge -underBinder +onlyGivenNames y3 y4
    have h5 : State.Frame l z y4 := by subst y4; exact State.bankWrite_frame (hl.sub rfl) (State.bankErase_frame (hl.sub rfl) h2)
    try clear_value y4
    refine State.ok_frame (hl.sub rfl) ?_
    extract_lets -merge -underBinder +onlyGivenNames y6
    have h7 : State.Frame l z y6 := by subst y6; exact State.wrs_frame (hl.sub rfl) h5
    try clear_value y6
    exact h7.sec (hl .sec (by decide))

theorem State.doSecRandom_frame {x1} {x2} {x3} (hl : Covers [.free, .spoke, .flt] l) (g1 : State.Frame l z x1) :
    State.Frame l z (State.doSecRandom x1 x2 x3) := by
  delta State.doSecRandom
  refine State.checked_frame (hl.sub rfl) ?_ ?_
  · exact g1
  · intro x1 h2
    extract_lets -merge -underBinder +onlyGivenNames y3
    have h4 : State.Frame l z y3.2 := by subst y3; exact State.random_frame (hl.sub rfl) h2
    try clear_value y3
    exact State.ok_frame (hl.sub rfl) h4

theorem execDrbgReseed_frame {x1} (hl : Covers [.sec] l) (g1 : State.Frame l z x1) :
    State.FrameOut l z (execDrbgReseed x1) := by
  delta execDrbgReseed
  exact frame_next (State.reseed_frame (hl.sub rfl) g1)

theorem State.subRow_frame {x1} {x2} {x3} {x4} {x5} (hl : Covers [.spoke] l) (g1 : State.Frame l z x1) (g5 : ∀ z1 z2 z3, State.Frame l z z1 → State.Frame l z (x5 z1 z2 z3)) :
    State.Frame l z (State.subRow x1 x2 x3 x4 x5) := by
  delta State.subRow
  refine State.command_frame (hl.sub rfl) ?_ ?_
  · exact g1
  · intro x1 x3 x4 h2
    refine g5 _ _ _ ?_
    exact h2

theorem execSecRandom_frame {x1} {x2} (hl : Covers [.free, .spoke, .flt] l) (g2 : State.Frame l z x2) :
    State.FrameOut l z (execSecRandom x1 x2) := by
  delta execSecRandom
  refine frame_next ?_
  refine State.command_frame (hl.sub rfl) ?_ ?_
  · exact g2
  · intro x1 x3 x4 h2
    exact State.doSecRandom_frame (hl.sub rfl) h2

theorem State.doSecCryptOpen_frame {x1} {x2} {x3} (hl : Covers [.spoke, .flt] l) (g1 : State.Frame l z x1) :
    State.Frame l z (State.doSecCryptOpen x1 x2 x3) := by
  delta State.doSecCryptOpen
  refine State.checked_frame (hl.sub rfl) ?_ ?_
  · exact g1
  · intro x1 h2
    extract_lets -merge -underBinder +onlyGivenNames y3
    try clear_value y3
    split
    · exact State.finish_frame (hl.sub rfl) h2
    · exact State.ok_frame (hl.sub rfl) h2

theorem State.doSecPairStart_frame {x1} {x2} {x3} (hl : Covers [.free, .spoke, .sec, .flt] l) (g1 : State.Frame l z x1) :
    State.Frame l z (State.doSecPairStart x1 x2 x3) := by
  delta State.doSecPairStart
  refine State.checked_frame (hl.sub rfl) ?_ ?_
  · exact g1
  · intro x1 h2
    refine frame_ite ?_ ?_
    · exact State.finish_frame (hl.sub rfl) (State.pairFinish_frame (hl.sub rfl) h2)
    · refine frame_ite ?_ ?_
      · exact State.finish_frame (hl.sub rfl) h2
      · exact State.pairStart_frame (hl.sub rfl) h2

theorem State.doSecUpdateAbort_frame {x1} {x2} {x3} (hl : Covers [.regs, .spoke, .sec, .flt] l) (g1 : State.Frame l z x1) :
    State.Frame l z (State.doSecUpdateAbort x1 x2 x3) := by
  delta State.doSecUpdateAbort
  refine State.checked_frame (hl.sub rfl) ?_ ?_
  · exact g1
  · intro x1 h2
    exact State.ok_frame (hl.sub rfl) (State.updateDrop_frame (hl.sub rfl) h2)

theorem State.updateVerified_frame {x1} {x2} (hl : Covers [.regs, .hay, .sec] l) (g1 : State.Frame l z x1) :
    State.Frame l z (State.updateVerified x1 x2) := by
  delta State.updateVerified
  extract_lets -merge -underBinder +onlyGivenNames y1
  have h2 : State.Frame l z y1 := by subst y1; exact State.bankWrite_frame (hl.sub rfl) g1
  try clear_value y1
  extract_lets -merge -underBinder +onlyGivenNames y3
  have h4 : State.Frame l z y3 := by subst y3; exact State.wr_frame (hl.sub rfl) h2
  try clear_value y3
  extract_lets -merge -underBinder +onlyGivenNames y5 y6
  have h7 : State.Frame l z y6 := by subst y6; exact h4.sec (hl .sec (by decide))
  try clear_value y6
  exact State.updateRecord_frame (hl.sub rfl) h7

theorem execSecCryptOpen_frame {x1} {x2} (hl : Covers [.spoke, .flt] l) (g2 : State.Frame l z x2) :
    State.FrameOut l z (execSecCryptOpen x1 x2) := by
  delta execSecCryptOpen
  refine frame_next ?_
  refine State.subRow_frame (hl.sub rfl) ?_ ?_
  · exact g2
  · intro x1 x3 x4 h2
    exact State.doSecCryptOpen_frame (hl.sub rfl) h2

theorem State.updateEnd_frame {x1} {x2} (hl : Covers [.regs, .spoke, .hay, .sec, .flt] l) (g1 : State.Frame l z x1) :
    State.Frame l z (State.updateEnd x1 x2) := by
  delta State.updateEnd
  split
  · exact g1
  · extract_lets -merge -underBinder +onlyGivenNames y1
    have h2 : State.Frame l z y1 := by subst y1; exact State.accepted_frame (hl.sub rfl) g1
    try clear_value y1
    refine frame_ite ?_ ?_
    · exact State.finish_frame (hl.sub rfl) h2
    · refine frame_ite ?_ ?_
      · exact State.ok_frame (hl.sub rfl) (State.updateVerified_frame (hl.sub rfl) h2)
      · exact State.finish_frame (hl.sub rfl) h2

theorem State.updateData_frame {x1} {x2} {x3} (hl : Covers [.regs, .spoke, .sec, .flt] l) (g1 : State.Frame l z x1) :
    State.Frame l z (State.updateData x1 x2 x3) := by
  delta State.updateData
  split
  · exact g1
  · refine frame_ite ?_ ?_
    · exact State.finish_frame (hl.sub rfl) g1
    · exact State.ok_frame (hl.sub rfl) (State.wr_frame (hl.sub rfl) (State.bankWrite_frame (hl.sub rfl) g1))

theorem State.helloStart_frame {x1} {x2} {x3} (hl : Covers [.free, .spoke, .flt] l) (g1 : State.Frame l z x1) :
    State.Frame l z (State.helloStart x1 x2 x3) := by
  delta State.helloStart
  extract_lets -merge -underBinder +onlyGivenNames y1 y2
  have h3 : State.Frame l z y2.2 := by subst y2; exact State.random_frame (hl.sub rfl) g1
  try clear_value y2
  extract_lets -merge -underBinder +onlyGivenNames y4
  have h5 : State.Frame l z y4.2 := by
    subst y4
    refine frame_snd_ite ?_ ?_
    · exact State.random_frame (hl.sub rfl) h3
    · exact frame_mk_snd h3
  try clear_value y4
  extract_lets -merge -underBinder +onlyGivenNames y6 y7
  exact State.ok_frame (hl.sub rfl) (State.modChan_frame (hl.sub rfl) (State.accepted_frame (hl.sub rfl) h5))

theorem State.doSecUpdateBegin_frame {x1} {x2} {x3} (hl : Covers [.regs, .spoke, .sec, .flt] l) (g1 : State.Frame l z x1) :
    State.Frame l z (State.doSecUpdateBegin x1 x2 x3) := by
  delta State.doSecUpdateBegin
  extract_lets -merge -underBinder +onlyGivenNames y1
  refine frame_ite ?_ ?_
  · exact State.finish_frame (hl.sub rfl) g1
  · refine frame_ite ?_ ?_
    · exact State.finish_frame (hl.sub rfl) g1
    · refine State.checked_frame (hl.sub rfl) ?_ ?_
      · exact g1
      · intro x2 h3
        exact State.updateBegin_frame (hl.sub rfl) h3

theorem State.doSecCryptSeal_frame {x1} {x2} {x3} (hl : Covers [.free, .spoke, .flt] l) (g1 : State.Frame l z x1) :
    State.Frame l z (State.doSecCryptSeal x1 x2 x3) := by
  delta State.doSecCryptSeal
  refine State.checked_frame (hl.sub rfl) ?_ ?_
  · exact g1
  · intro x1 h2
    refine frame_ite ?_ ?_
    · exact State.finish_frame (hl.sub rfl) h2
    · extract_lets -merge -underBinder +onlyGivenNames y3
      have h4 : State.Frame l z y3.2 := by subst y3; exact State.random_frame (hl.sub rfl) h2
      try clear_value y3
      exact State.ok_frame (hl.sub rfl) h4

theorem State.doSecUpdateEnd_frame {x1} {x2} {x3} (hl : Covers [.regs, .spoke, .hay, .sec, .flt] l) (g1 : State.Frame l z x1) :
    State.Frame l z (State.doSecUpdateEnd x1 x2 x3) := by
  delta State.doSecUpdateEnd
  refine State.checked_frame (hl.sub rfl) ?_ ?_
  · exact g1
  · intro x1 h2
    exact State.updateEnd_frame (hl.sub rfl) h2

theorem execSecCryptSeal_frame {x1} {x2} (hl : Covers [.free, .spoke, .flt] l) (g2 : State.Frame l z x2) :
    State.FrameOut l z (execSecCryptSeal x1 x2) := by
  delta execSecCryptSeal
  refine frame_next ?_
  refine State.subRow_frame (hl.sub rfl) ?_ ?_
  · exact g2
  · intro x1 x3 x4 h2
    exact State.doSecCryptSeal_frame (hl.sub rfl) h2

theorem execSecPairStart_frame {x1} {x2} (hl : Covers [.free, .spoke, .sec, .flt] l) (g2 : State.Frame l z x2) :
    State.FrameOut l z (execSecPairStart x1 x2) := by
  delta execSecPairStart
  refine frame_next ?_
  refine State.subRow_frame (hl.sub rfl) ?_ ?_
  · exact g2
  · intro x1 x3 x4 h2
    exact State.doSecPairStart_frame (hl.sub rfl) h2

theorem State.doSecUpdateData_frame {x1} {x2} {x3} (hl : Covers [.regs, .free, .spoke, .sec, .flt] l) (g1 : State.Frame l z x1) :
    State.Frame l z (State.doSecUpdateData x1 x2 x3) := by
  delta State.doSecUpdateData
  extract_lets -merge -underBinder +onlyGivenNames y1
  refine frame_ite ?_ ?_
  · exact State.finish_frame (hl.sub rfl) g1
  · refine frame_ite ?_ ?_
    · extract_lets -merge -underBinder +onlyGivenNames y2
      have h3 : State.Frame l z y2.2 := by subst y2; exact State.draw_frame (hl.sub rfl) g1
      try clear_value y2
      exact State.finish_frame (hl.sub rfl) h3
    · refine State.checked_frame (hl.sub rfl) ?_ ?_
      · exact g1
      · intro x4 h5
        exact State.updateData_frame (hl.sub rfl) h5

theorem execSecUpdateEnd_frame {x1} {x2} (hl : Covers [.regs, .spoke, .hay, .sec, .flt] l) (g2 : State.Frame l z x2) :
    State.FrameOut l z (execSecUpdateEnd x1 x2) := by
  delta execSecUpdateEnd
  refine frame_next ?_
  refine State.subRow_frame (hl.sub rfl) ?_ ?_
  · exact g2
  · intro x1 x3 x4 h2
    exact State.doSecUpdateEnd_frame (hl.sub rfl) h2

theorem execSecUpdateAbort_frame {x1} {x2} (hl : Covers [.regs, .spoke, .sec, .flt] l) (g2 : State.Frame l z x2) :
    State.FrameOut l z (execSecUpdateAbort x1 x2) := by
  delta execSecUpdateAbort
  refine frame_next ?_
  refine State.subRow_frame (hl.sub rfl) ?_ ?_
  · exact g2
  · intro x1 x3 x4 h2
    exact State.doSecUpdateAbort_frame (hl.sub rfl) h2

theorem State.doSecCrypt_frame {s r p} (hl : Covers [.free, .spoke, .flt] l) (h : State.Frame l z s) : State.Frame l z (State.doSecCrypt s r p) := by
  refine State.subCommand_frame (hl.sub rfl) h fun f hf => ?_
  simp only [List.mem_cons, List.not_mem_nil, or_false] at hf
  rcases hf with rfl | rfl <;> intro t r p ht
  · exact State.doSecCryptSeal_frame (hl.sub rfl) ht
  · exact State.doSecCryptOpen_frame (hl.sub rfl) ht

theorem State.doSecPairOpen_frame {x1} {x2} {x3} (hl : Covers [.regs, .spoke, .sec, .flt] l) (g1 : State.Frame l z x1) :
    State.Frame l z (State.doSecPairOpen x1 x2 x3) := by
  delta State.doSecPairOpen
  extract_lets -merge -underBinder +onlyGivenNames y1
  refine State.checked_frame (hl.sub rfl) ?_ ?_
  · exact g1
  · intro x2 h3
    extract_lets -merge -underBinder +onlyGivenNames y4
    have h5 : State.Frame l z y4 := by subst y4; exact State.pairEnd_frame (hl.sub rfl) h3
    try clear_value y4
    refine State.ok_frame (hl.sub rfl) ?_
    extract_lets -merge -underBinder +onlyGivenNames y6
    have h7 : State.Frame l z y6 := by subst y6; exact State.wr_frame (hl.sub rfl) h5
    try clear_value y6
    exact h7.sec (hl .sec (by decide))

theorem State.doSecHello_frame {x1} {x2} {x3} (hl : Covers [.free, .spoke, .flt] l) (g1 : State.Frame l z x1) :
    State.Frame l z (State.doSecHello x1 x2 x3) := by
  delta State.doSecHello
  extract_lets -merge -underBinder +onlyGivenNames y1 y2
  refine State.checked_frame (hl.sub rfl) ?_ ?_
  · exact g1
  · intro x3 h4
    exact State.helloStart_frame (hl.sub rfl) h4

theorem execSecUpdateBegin_frame {x1} {x2} (hl : Covers [.regs, .spoke, .sec, .flt] l) (g2 : State.Frame l z x2) :
    State.FrameOut l z (execSecUpdateBegin x1 x2) := by
  delta execSecUpdateBegin
  refine frame_next ?_
  refine State.subRow_frame (hl.sub rfl) ?_ ?_
  · exact g2
  · intro x1 x3 x4 h2
    exact State.doSecUpdateBegin_frame (hl.sub rfl) h2

theorem execSecUpdateData_frame {x1} {x2} (hl : Covers [.regs, .free, .spoke, .sec, .flt] l) (g2 : State.Frame l z x2) :
    State.FrameOut l z (execSecUpdateData x1 x2) := by
  delta execSecUpdateData
  refine frame_next ?_
  refine State.subRow_frame (hl.sub rfl) ?_ ?_
  · exact g2
  · intro x1 x3 x4 h2
    exact State.doSecUpdateData_frame (hl.sub rfl) h2

theorem execPairingWindowEnd_frame {x1} (hl : Covers [.regs, .spoke, .sec, .flt] l) (g1 : State.Frame l z x1) :
    State.FrameOut l z (execPairingWindowEnd x1) := by
  delta execPairingWindowEnd
  exact frame_next (State.pairExpire_frame (hl.sub rfl) g1)

theorem execSecHello_frame {x1} {x2} (hl : Covers [.free, .spoke, .flt] l) (g2 : State.Frame l z x2) :
    State.FrameOut l z (execSecHello x1 x2) := by
  delta execSecHello
  refine frame_next ?_
  refine State.command_frame (hl.sub rfl) ?_ ?_
  · exact g2
  · intro x1 x3 x4 h2
    exact State.doSecHello_frame (hl.sub rfl) h2

theorem execSecPairOpen_frame {x1} {x2} (hl : Covers [.regs, .spoke, .sec, .flt] l) (g2 : State.Frame l z x2) :
    State.FrameOut l z (execSecPairOpen x1 x2) := by
  delta execSecPairOpen
  refine frame_next ?_
  refine State.subRow_frame (hl.sub rfl) ?_ ?_
  · exact g2
  · intro x1 x3 x4 h2
    exact State.doSecPairOpen_frame (hl.sub rfl) h2

theorem State.doSecAuth_frame {x1} {x2} {x3} (hl : Covers [.regs, .spoke, .hay, .flt] l) (g1 : State.Frame l z x1) :
    State.Frame l z (State.doSecAuth x1 x2 x3) := by
  delta State.doSecAuth
  extract_lets -merge -underBinder +onlyGivenNames y1
  try clear_value y1
  extract_lets -merge -underBinder +onlyGivenNames y2
  try clear_value y2
  refine State.checked_frame (hl.sub rfl) ?_ ?_
  · exact g1
  · intro x3 h4
    split
    · exact h4
    · extract_lets -merge -underBinder +onlyGivenNames y5
      have h6 : State.Frame l z y5 := by subst y5; exact State.modChan_frame (hl.sub rfl) (State.accepted_frame (hl.sub rfl) h4)
      try clear_value y5
      split
      · exact State.authFailed_frame (hl.sub rfl) h6
      · exact State.authDone_frame (hl.sub rfl) h6

theorem execEntropyFail_frame {x1} (hl : Covers [.regs, .spoke, .hay, .sec, .flt] l) (g1 : State.Frame l z x1) :
    State.FrameOut l z (execEntropyFail x1) := by
  delta execEntropyFail
  exact frame_next (State.entropyFailed_frame (hl.sub rfl) g1)

theorem execNvmWpChange_frame {x1} {x2} (hl : Covers [.regs, .spoke, .flt] l) (g2 : State.Frame l z x2) :
    State.FrameOut l z (execNvmWpChange x1 x2) := by
  delta execNvmWpChange
  exact frame_next (State.wpChange_frame (hl.sub rfl) g2)

theorem execSecAuth_frame {x1} {x2} (hl : Covers [.regs, .spoke, .hay, .flt] l) (g2 : State.Frame l z x2) :
    State.FrameOut l z (execSecAuth x1 x2) := by
  delta execSecAuth
  refine frame_next ?_
  refine State.command_frame (hl.sub rfl) ?_ ?_
  · exact g2
  · intro x1 x3 x4 h2
    exact State.doSecAuth_frame (hl.sub rfl) h2

theorem execTrialExpire_frame {x1} (hl : Covers [.regs, .free, .pwr, .spoke, .hay, .sec, .flt] l) (g1 : State.Frame l z x1) :
    State.FrameOut l z (execTrialExpire x1) := by
  delta execTrialExpire
  exact frame_next (State.trialExpired_frame (hl.sub rfl) g1)

theorem State.provision_frame {x1} {x2} {x3} (hl : Covers [.regs, .free, .pwr, .spoke, .hay, .sec, .flt] l) (g1 : State.Frame l z x1) :
    State.Frame l z (State.provision x1 x2 x3) := by
  delta State.provision
  refine frame_ite ?_ ?_
  · exact State.finish_frame (hl.sub rfl) g1
  · extract_lets -merge -underBinder +onlyGivenNames y1
    have h2 : State.Frame l z y1.2 := by subst y1; exact State.random_frame (hl.sub rfl) (State.accepted_frame (hl.sub rfl) g1)
    try clear_value y1
    exact State.secStart_frame (hl.sub rfl) h2

theorem State.pairAnswer_frame {x1} {x2} (hl : Covers [.regs, .free, .pwr, .spoke, .hay, .sec, .flt] l) (g1 : State.Frame l z x1) :
    State.Frame l z (State.pairAnswer x1 x2) := by
  delta State.pairAnswer
  split
  · refine frame_ite ?_ ?_
    · extract_lets -merge -underBinder +onlyGivenNames y1
      have h2 : State.Frame l z y1 := by subst y1; exact State.wr_frame (hl.sub rfl) g1
      try clear_value y1
      extract_lets -merge -underBinder +onlyGivenNames y3 y4
      have h5 : State.Frame l z y4 := by subst y4; exact h2.sec (hl .sec (by decide))
      try clear_value y4
      exact State.secStart_frame (hl.sub rfl) h5
    · exact State.pairEnd_frame (hl.sub rfl) g1
  · exact g1

theorem State.doSecKeyGen_frame {x1} {x2} {x3} (hl : Covers [.regs, .free, .pwr, .spoke, .hay, .sec, .flt] l) (g1 : State.Frame l z x1) :
    State.Frame l z (State.doSecKeyGen x1 x2 x3) := by
  delta State.doSecKeyGen
  extract_lets -merge -underBinder +onlyGivenNames y1
  refine State.checked_frame (hl.sub rfl) ?_ ?_
  · exact g1
  · intro x2 h3
    exact State.secStart_frame (hl.sub rfl) (State.accepted_frame (hl.sub rfl) h3)

theorem State.doSecKeyDelete_frame {x1} {x2} {x3} (hl : Covers [.regs, .free, .pwr, .spoke, .hay, .sec, .flt] l) (g1 : State.Frame l z x1) :
    State.Frame l z (State.doSecKeyDelete x1 x2 x3) := by
  delta State.doSecKeyDelete
  extract_lets -merge -underBinder +onlyGivenNames y1
  refine State.checked_frame (hl.sub rfl) ?_ ?_
  · exact g1
  · intro x2 h3
    exact State.secStart_frame (hl.sub rfl) (State.accepted_frame (hl.sub rfl) h3)

theorem State.doSecKeyPut_frame {x1} {x2} {x3} (hl : Covers [.regs, .free, .pwr, .spoke, .hay, .sec, .flt] l) (g1 : State.Frame l z x1) :
    State.Frame l z (State.doSecKeyPut x1 x2 x3) := by
  delta State.doSecKeyPut
  extract_lets -merge -underBinder +onlyGivenNames y1 y2
  refine State.checked_frame (hl.sub rfl) ?_ ?_
  · exact g1
  · intro x3 h4
    exact State.secStart_frame (hl.sub rfl) (State.accepted_frame (hl.sub rfl) h4)

theorem State.lifecycleSigned_frame {x1} {x2} {x3} {x4} (hl : Covers [.regs, .free, .pwr, .spoke, .hay, .sec, .flt] l) (g1 : State.Frame l z x1) :
    State.Frame l z (State.lifecycleSigned x1 x2 x3 x4) := by
  delta State.lifecycleSigned
  refine State.checked_frame (hl.sub rfl) ?_ ?_
  · exact g1
  · intro x1 h2
    exact State.secStart_frame (hl.sub rfl) (State.accepted_frame (hl.sub rfl) h2)

theorem State.doSecLifecycleProvision_frame {x1} {x2} {x3} (hl : Covers [.regs, .free, .pwr, .spoke, .hay, .sec, .flt] l) (g1 : State.Frame l z x1) :
    State.Frame l z (State.doSecLifecycleProvision x1 x2 x3) := by
  delta State.doSecLifecycleProvision
  extract_lets -merge -underBinder +onlyGivenNames y1
  refine State.checked_frame (hl.sub rfl) ?_ ?_
  · exact g1
  · intro x2 h3
    exact State.provision_frame (hl.sub rfl) h3

theorem State.doSecKey_frame {s r p} (hl : Covers [.regs, .free, .pwr, .spoke, .hay, .sec, .flt] l) (h : State.Frame l z s) : State.Frame l z (State.doSecKey s r p) := by
  refine State.subCommand_frame (hl.sub rfl) h fun f hf => ?_
  simp only [List.mem_cons, List.not_mem_nil, or_false] at hf
  rcases hf with rfl | rfl | rfl <;> intro t r p ht
  · exact State.doSecKeyPut_frame (hl.sub rfl) ht
  · exact State.doSecKeyGen_frame (hl.sub rfl) ht
  · exact State.doSecKeyDelete_frame (hl.sub rfl) ht

theorem State.doSecUpdateConfirm_frame {x1} {x2} {x3} (hl : Covers [.regs, .free, .pwr, .spoke, .hay, .sec, .flt] l) (g1 : State.Frame l z x1) :
    State.Frame l z (State.doSecUpdateConfirm x1 x2 x3) := by
  delta State.doSecUpdateConfirm
  refine State.checked_frame (hl.sub rfl) ?_ ?_
  · exact g1
  · intro x1 h2
    exact State.secStart_frame (hl.sub rfl) h2

theorem State.doSecPairConfirm_frame {x1} {x2} {x3} (hl : Covers [.regs, .free, .pwr, .spoke, .hay, .sec, .flt] l) (g1 : State.Frame l z x1) :
    State.Frame l z (State.doSecPairConfirm x1 x2 x3) := by
  delta State.doSecPairConfirm
  refine State.checked_frame (hl.sub rfl) ?_ ?_
  · exact g1
  · intro x1 h2
    exact State.pairAnswer_frame (hl.sub rfl) (State.ok_frame (hl.sub rfl) h2)

theorem execSecKeyPut_frame {x1} {x2} (hl : Covers [.regs, .free, .pwr, .spoke, .hay, .sec, .flt] l) (g2 : State.Frame l z x2) :
    State.FrameOut l z (execSecKeyPut x1 x2) := by
  delta execSecKeyPut
  refine frame_next ?_
  refine State.subRow_frame (hl.sub rfl) ?_ ?_
  · exact g2
  · intro x1 x3 x4 h2
    exact State.doSecKeyPut_frame (hl.sub rfl) h2

theorem execSecKeyGen_frame {x1} {x2} (hl : Covers [.regs, .free, .pwr, .spoke, .hay, .sec, .flt] l) (g2 : State.Frame l z x2) :
    State.FrameOut l z (execSecKeyGen x1 x2) := by
  delta execSecKeyGen
  refine frame_next ?_
  refine State.subRow_frame (hl.sub rfl) ?_ ?_
  · exact g2
  · intro x1 x3 x4 h2
    exact State.doSecKeyGen_frame (hl.sub rfl) h2

theorem State.doSecLifecycleReturn_frame {x1} {x2} {x3} (hl : Covers [.regs, .free, .pwr, .spoke, .hay, .sec, .flt] l) (g1 : State.Frame l z x1) :
    State.Frame l z (State.doSecLifecycleReturn x1 x2 x3) := by
  delta State.doSecLifecycleReturn
  exact State.lifecycleSigned_frame (hl.sub rfl) g1

theorem execSecLifecycleReturn_frame {x1} {x2} (hl : Covers [.regs, .free, .pwr, .spoke, .hay, .sec, .flt] l) (g2 : State.Frame l z x2) :
    State.FrameOut l z (execSecLifecycleReturn x1 x2) := by
  delta execSecLifecycleReturn
  refine frame_next ?_
  refine State.subRow_frame (hl.sub rfl) ?_ ?_
  · exact g2
  · intro x1 x3 x4 h2
    exact State.doSecLifecycleReturn_frame (hl.sub rfl) h2

theorem State.doSecUpdate_frame {s r p} (hl : Covers [.regs, .free, .pwr, .spoke, .hay, .sec, .flt] l) (h : State.Frame l z s) : State.Frame l z (State.doSecUpdate s r p) := by
  refine State.subCommand_frame (hl.sub rfl) h fun f hf => ?_
  simp only [List.mem_cons, List.not_mem_nil, or_false] at hf
  rcases hf with rfl | rfl | rfl | rfl | rfl <;> intro t r p ht
  · exact State.doSecUpdateBegin_frame (hl.sub rfl) ht
  · exact State.doSecUpdateData_frame (hl.sub rfl) ht
  · exact State.doSecUpdateEnd_frame (hl.sub rfl) ht
  · exact State.doSecUpdateConfirm_frame (hl.sub rfl) ht
  · exact State.doSecUpdateAbort_frame (hl.sub rfl) ht

theorem State.doSecPair_frame {s r p} (hl : Covers [.regs, .free, .pwr, .spoke, .hay, .sec, .flt] l) (h : State.Frame l z s) : State.Frame l z (State.doSecPair s r p) := by
  refine State.subCommand_frame (hl.sub rfl) h fun f hf => ?_
  simp only [List.mem_cons, List.not_mem_nil, or_false] at hf
  rcases hf with rfl | rfl | rfl <;> intro t r p ht
  · exact State.doSecPairOpen_frame (hl.sub rfl) ht
  · exact State.doSecPairStart_frame (hl.sub rfl) ht
  · exact State.doSecPairConfirm_frame (hl.sub rfl) ht

theorem execSecKeyDelete_frame {x1} {x2} (hl : Covers [.regs, .free, .pwr, .spoke, .hay, .sec, .flt] l) (g2 : State.Frame l z x2) :
    State.FrameOut l z (execSecKeyDelete x1 x2) := by
  delta execSecKeyDelete
  refine frame_next ?_
  refine State.subRow_frame (hl.sub rfl) ?_ ?_
  · exact g2
  · intro x1 x3 x4 h2
    exact State.doSecKeyDelete_frame (hl.sub rfl) h2

theorem execSecLifecycleProvision_frame {x1} {x2} (hl : Covers [.regs, .free, .pwr, .spoke, .hay, .sec, .flt] l) (g2 : State.Frame l z x2) :
    State.FrameOut l z (execSecLifecycleProvision x1 x2) := by
  delta execSecLifecycleProvision
  refine frame_next ?_
  refine State.subRow_frame (hl.sub rfl) ?_ ?_
  · exact g2
  · intro x1 x3 x4 h2
    exact State.doSecLifecycleProvision_frame (hl.sub rfl) h2

theorem State.doSecLifecycleField_frame {x1} {x2} {x3} (hl : Covers [.regs, .free, .pwr, .spoke, .hay, .sec, .flt] l) (g1 : State.Frame l z x1) :
    State.Frame l z (State.doSecLifecycleField x1 x2 x3) := by
  delta State.doSecLifecycleField
  exact State.lifecycleSigned_frame (hl.sub rfl) g1

theorem execSecLifecycleField_frame {x1} {x2} (hl : Covers [.regs, .free, .pwr, .spoke, .hay, .sec, .flt] l) (g2 : State.Frame l z x2) :
    State.FrameOut l z (execSecLifecycleField x1 x2) := by
  delta execSecLifecycleField
  refine frame_next ?_
  refine State.subRow_frame (hl.sub rfl) ?_ ?_
  · exact g2
  · intro x1 x3 x4 h2
    exact State.doSecLifecycleField_frame (hl.sub rfl) h2

theorem execSecUpdateConfirm_frame {x1} {x2} (hl : Covers [.regs, .free, .pwr, .spoke, .hay, .sec, .flt] l) (g2 : State.Frame l z x2) :
    State.FrameOut l z (execSecUpdateConfirm x1 x2) := by
  delta execSecUpdateConfirm
  refine frame_next ?_
  refine State.subRow_frame (hl.sub rfl) ?_ ?_
  · exact g2
  · intro x1 x3 x4 h2
    exact State.doSecUpdateConfirm_frame (hl.sub rfl) h2

theorem execFuseBurnEnd_frame {x1} (hl : Covers [.regs, .free, .pwr, .spoke, .hay, .sec, .flt] l) (g1 : State.Frame l z x1) :
    State.FrameOut l z (execFuseBurnEnd x1) := by
  delta execFuseBurnEnd
  exact frame_next (State.burnEnd_frame (hl.sub rfl) g1)

theorem execSecPairConfirm_frame {x1} {x2} (hl : Covers [.regs, .free, .pwr, .spoke, .hay, .sec, .flt] l) (g2 : State.Frame l z x2) :
    State.FrameOut l z (execSecPairConfirm x1 x2) := by
  delta execSecPairConfirm
  refine frame_next ?_
  refine State.subRow_frame (hl.sub rfl) ?_ ?_
  · exact g2
  · intro x1 x3 x4 h2
    exact State.doSecPairConfirm_frame (hl.sub rfl) h2

theorem State.doSecLifecycle_frame {s r p} (hl : Covers [.regs, .free, .pwr, .spoke, .hay, .sec, .flt] l) (h : State.Frame l z s) :
    State.Frame l z (State.doSecLifecycle s r p) := by
  refine State.subCommand_frame (hl.sub rfl) h fun f hf => ?_
  simp only [List.mem_cons, List.not_mem_nil, or_false] at hf
  rcases hf with rfl | rfl | rfl | rfl <;> intro t r p ht
  · exact State.finish_frame (hl.sub rfl) ht
  · exact State.doSecLifecycleProvision_frame (hl.sub rfl) ht
  · exact State.doSecLifecycleField_frame (hl.sub rfl) ht
  · exact State.doSecLifecycleReturn_frame (hl.sub rfl) ht

/-! ### Console -/

theorem State.consoleSend_frame {x1} {x2} {x3} (hl : Covers [.spoke, .console] l) (g1 : State.Frame l z x1) :
    State.Frame l z (State.consoleSend x1 x2 x3) := by
  delta State.consoleSend
  refine frame_ite ?_ ?_
  · extract_lets -merge -underBinder +onlyGivenNames y1 y2 y3
    have h4 : State.Frame l z y3 := by subst y3; exact g1.console (hl .console (by decide))
    try clear_value y3
    exact State.modChan_frame (hl.sub rfl) h4
  · exact g1

theorem State.consoleAsk_frame {x1} {x2} {x3} {x4} {x5} (hl : Covers [.spoke, .console] l) (g1 : State.Frame l z x1) :
    State.Frame l z (State.consoleAsk x1 x2 x3 x4 x5) := by
  delta State.consoleAsk
  extract_lets -merge -underBinder +onlyGivenNames y1 y2
  have h3 : State.Frame l z y2 := by subst y2; exact State.consoleSend_frame (hl.sub rfl) g1
  try clear_value y2
  exact h3.console (hl .console (by decide))

theorem State.consoleDraw_frame {x1} (hl : Covers [.console] l) (g1 : State.Frame l z x1) :
    State.Frame l z (State.consoleDraw x1) := by
  delta State.consoleDraw
  exact g1.console (hl .console (by decide))

theorem State.consolePaint_frame {x1} (hl : Covers [.free, .spoke, .console] l) (g1 : State.Frame l z x1) :
    State.Frame l z (State.consolePaint x1) := by
  delta State.consolePaint
  split
  · exact g1
  · extract_lets -merge -underBinder +onlyGivenNames y1
    have h2 : State.Frame l z y1 := by subst y1; exact State.consoleSend_frame (hl.sub rfl) g1
    try clear_value y1
    exact h2.console (hl .console (by decide))
  · extract_lets -merge -underBinder +onlyGivenNames y3
    have h4 : State.Frame l z y3.2 := by subst y3; exact State.draw_frame (hl.sub rfl) g1
    try clear_value y3
    extract_lets -merge -underBinder +onlyGivenNames y5
    have h6 : State.Frame l z y5 := by subst y5; exact State.consoleSend_frame (hl.sub rfl) h4
    try clear_value y5
    exact h6.console (hl .console (by decide))

theorem State.consoleShow_frame {x1} {x2} (hl : Covers [.console] l) (g1 : State.Frame l z x1) :
    State.Frame l z (State.consoleShow x1 x2) := by
  delta State.consoleShow
  exact State.consoleDraw_frame (hl.sub rfl) (g1.console (hl .console (by decide)))

theorem State.restartKey_frame {x1} {x2} (hl : Covers [.spoke, .console] l) (g1 : State.Frame l z x1) :
    State.Frame l z (State.restartKey x1 x2) := by
  delta State.restartKey
  extract_lets -merge -underBinder +onlyGivenNames y1
  try clear_value y1
  extract_lets -merge -underBinder +onlyGivenNames y2
  try clear_value y2
  split
  · exact State.consoleDraw_frame (hl.sub rfl) (g1.console (hl .console (by decide)))
  · exact State.consoleDraw_frame (hl.sub rfl) (g1.console (hl .console (by decide)))
  · split
    · exact g1
    · exact State.consoleDraw_frame (hl.sub rfl) (State.consoleAsk_frame (hl.sub rfl) g1)
  · exact State.consoleShow_frame (hl.sub rfl) g1
  · exact g1

theorem State.consolePaints_frame {k s} (hl : Covers [.free, .spoke, .console] l) (h : State.Frame l z s) : State.Frame l z (State.consolePaints k s) := by
  induction k generalizing s with
  | zero => exact h
  | succ k ih => exact frame_ite h (ih (State.consolePaint_frame (hl.sub rfl) h))

theorem State.pairKeyed_frame {x1} {x2} (hl : Covers [.spoke, .console] l) (g1 : State.Frame l z x1) :
    State.Frame l z (State.pairKeyed x1 x2) := by
  delta State.pairKeyed
  refine frame_ite ?_ ?_
  · refine frame_ite ?_ ?_
    · exact State.consoleDraw_frame (hl.sub rfl) (State.consoleAsk_frame (hl.sub rfl) g1)
    · refine frame_ite ?_ ?_
      · exact State.consoleDraw_frame (hl.sub rfl) (State.consoleAsk_frame (hl.sub rfl) g1)
      · exact g1
  · refine frame_ite ?_ ?_
    · exact State.consoleShow_frame (hl.sub rfl) g1
    · exact g1

theorem State.consoleReply_frame {x1} {x2} (hl : Covers [.console] l) (g1 : State.Frame l z x1) :
    State.Frame l z (State.consoleReply x1 x2) := by
  delta State.consoleReply
  extract_lets -merge -underBinder +onlyGivenNames y1 y2
  have h3 : State.Frame l z y2 := by subst y2; exact g1.console (hl .console (by decide))
  try clear_value y2
  split
  · refine frame_ite ?_ ?_
    · exact State.consoleShow_frame (hl.sub rfl) h3
    · exact State.consoleShow_frame (hl.sub rfl) h3
  · exact State.consoleShow_frame (hl.sub rfl) h3
  · exact h3

theorem State.consoleTold_frame {x1} {x2} {x3} (hl : Covers [.spoke] l) (g1 : State.Frame l z x1) :
    State.Frame l z (State.consoleTold x1 x2 x3) := by
  delta State.consoleTold
  exact State.event_frame (hl.sub rfl) g1

theorem State.consoleTake_frame {x1} {x2} (hl : Covers [.spoke, .console] l) (g1 : State.Frame l z x1) :
    State.Frame l z (State.consoleTake x1 x2) := by
  delta State.consoleTake
  extract_lets -merge -underBinder +onlyGivenNames y1 y2
  have h3 : State.Frame l z y2 := by subst y2; exact g1.console (hl .console (by decide))
  try clear_value y2
  split
  · split
    · exact State.consoleShow_frame (hl.sub rfl) h3
    · exact State.consoleDraw_frame (hl.sub rfl) (State.consoleAsk_frame (hl.sub rfl) h3)
  · exact State.consoleShow_frame (hl.sub rfl) h3

theorem State.commissionKey_frame {x1} {x2} (hl : Covers [.spoke, .console] l) (g1 : State.Frame l z x1) :
    State.Frame l z (State.commissionKey x1 x2) := by
  delta State.commissionKey
  extract_lets -merge -underBinder +onlyGivenNames y1
  try clear_value y1
  refine frame_ite ?_ ?_
  · exact State.consoleShow_frame (hl.sub rfl) (g1.console (hl .console (by decide)))
  · refine frame_ite ?_ ?_
    · exact g1
    · refine frame_ite ?_ ?_
      · exact State.consoleDraw_frame (hl.sub rfl) (g1.console (hl .console (by decide)))
      · refine frame_ite ?_ ?_
        · refine frame_ite ?_ ?_
          · exact State.consoleDraw_frame (hl.sub rfl) (State.consoleAsk_frame (hl.sub rfl) g1)
          · exact g1
        · split
          · exact g1
          · refine frame_ite ?_ ?_
            · exact State.consoleDraw_frame (hl.sub rfl) (g1.console (hl .console (by decide)))
            · exact g1

theorem State.consoleOpens_frame {x1} (hl : Covers [.spoke, .console] l) (g1 : State.Frame l z x1) :
    State.Frame l z (State.consoleOpens x1) := by
  delta State.consoleOpens
  refine frame_ite ?_ ?_
  · exact g1
  · exact State.consoleTold_frame (hl.sub rfl) (State.consoleDraw_frame (hl.sub rfl) (g1.console (hl .console (by decide))))

theorem State.consoleTakes_frame {x1} (hl : Covers [.spoke, .console] l) (g1 : State.Frame l z x1) :
    State.Frame l z (State.consoleTakes x1) := by
  delta State.consoleTakes
  extract_lets -merge -underBinder +onlyGivenNames y1 y2
  have h3 : State.Frame l z y2 := by subst y2; exact State.modChan_frame (hl.sub rfl) g1
  try clear_value y2
  refine State.each_frame ?_ ?_
  · exact h3
  · intro x4 x6 h5
    refine frame_ite ?_ ?_
    · exact State.consoleReply_frame (hl.sub rfl) h5
    · exact h5

theorem State.consoleCloses_frame {x1} (hl : Covers [.regs, .free, .pwr, .spoke, .console, .hay, .sec, .flt] l) (g1 : State.Frame l z x1) :
    State.Frame l z (State.consoleCloses x1) := by
  delta State.consoleCloses
  refine frame_ite ?_ ?_
  · extract_lets -merge -underBinder +onlyGivenNames y1 y2 y3 y4
    have h5 : State.Frame l z y4 := by subst y4; exact g1.console (hl .console (by decide))
    try clear_value y4
    extract_lets -merge -underBinder +onlyGivenNames y6
    have h7 : State.Frame l z y6 := by
      subst y6
      refine frame_ite ?_ ?_
      · exact State.pairAnswer_frame (hl.sub rfl) h5
      · exact h5
    try clear_value y6
    extract_lets -merge -underBinder +onlyGivenNames y8
    have h9 : State.Frame l z y8 := by subst y8; exact State.consoleSend_frame (hl.sub rfl) h7
    try clear_value y8
    exact State.consoleTold_frame (hl.sub rfl) (State.consoleSend_frame (hl.sub rfl) h9)
  · exact g1

theorem State.consoleWatch_frame {x1} (hl : Covers [.regs, .free, .pwr, .spoke, .console, .hay, .sec, .flt] l) (g1 : State.Frame l z x1) :
    State.Frame l z (State.consoleWatch x1) := by
  delta State.consoleWatch
  refine frame_ite ?_ ?_
  · exact State.consoleCloses_frame (hl.sub rfl) g1
  · exact g1

theorem State.menuKey_frame {x1} {x2} (hl : Covers [.regs, .free, .pwr, .spoke, .console, .hay, .sec, .flt] l) (g1 : State.Frame l z x1) :
    State.Frame l z (State.menuKey x1 x2) := by
  delta State.menuKey
  extract_lets -merge -underBinder +onlyGivenNames y1
  try clear_value y1
  extract_lets -merge -underBinder +onlyGivenNames y2
  try clear_value y2
  split
  · exact State.consoleDraw_frame (hl.sub rfl) (g1.console (hl .console (by decide)))
  · exact State.consoleDraw_frame (hl.sub rfl) (g1.console (hl .console (by decide)))
  · exact State.consoleTake_frame (hl.sub rfl) g1
  · exact State.consoleCloses_frame (hl.sub rfl) g1
  · exact g1

theorem State.consoleStage_frame {x1} (hl : Covers [.regs, .free, .pwr, .spoke, .console, .hay, .sec, .flt] l) (g1 : State.Frame l z x1) :
    State.Frame l z (State.consoleStage x1) := by
  delta State.consoleStage
  refine frame_ite ?_ ?_
  · extract_lets -merge -underBinder +onlyGivenNames y1 y2
    have h3 : State.Frame l z y2 := by subst y2; exact g1.console (hl .console (by decide))
    try clear_value y2
    refine frame_ite ?_ ?_
    · exact State.consoleCloses_frame (hl.sub rfl) h3
    · exact h3
  · exact g1

theorem State.consoleKeyed_frame {x1} {x2} (hl : Covers [.regs, .free, .pwr, .spoke, .console, .hay, .sec, .flt] l) (g1 : State.Frame l z x1) :
    State.Frame l z (State.consoleKeyed x1 x2) := by
  delta State.consoleKeyed
  refine frame_ite ?_ ?_
  · extract_lets -merge -underBinder +onlyGivenNames y1 y2
    have h3 : State.Frame l z y2 := by subst y2; exact g1.console (hl .console (by decide))
    try clear_value y2
    split
    · exact State.menuKey_frame (hl.sub rfl) h3
    · exact State.commissionKey_frame (hl.sub rfl) h3
    · exact State.restartKey_frame (hl.sub rfl) h3
    · exact State.pairKeyed_frame (hl.sub rfl) h3
    · refine frame_ite ?_ ?_
      · exact State.consoleShow_frame (hl.sub rfl) h3
      · exact h3
    · exact h3
    · refine frame_ite ?_ ?_
      · exact State.consoleShow_frame (hl.sub rfl) h3
      · exact h3
  · refine frame_ite ?_ ?_
    · exact State.consoleOpens_frame (hl.sub rfl) g1
    · exact g1

theorem State.consoleRun_frame {x1} (hl : Covers [.regs, .free, .pwr, .spoke, .console, .adc, .hay, .sec, .flt] l) (g1 : State.Frame l z x1) :
    State.Frame l z (State.consoleRun x1) := by
  delta State.consoleRun
  extract_lets -merge -underBinder +onlyGivenNames y1
  have h2 : State.Frame l z y1 := by subst y1; exact State.consoleTakes_frame (hl.sub rfl) g1
  try clear_value y1
  extract_lets -merge -underBinder +onlyGivenNames y3 y4 y5
  have h6 : State.Frame l z y5 := by subst y5; exact h2.adc (hl .adc (by decide))
  try clear_value y5
  refine State.consolePaints_frame (hl.sub rfl) ?_
  refine State.each_frame ?_ ?_
  · exact h6
  · intro x7 x9 h8
    exact State.consoleKeyed_frame (hl.sub rfl) h8

/-! ### Panel -/

theorem State.frameLose_frame {x1} (hl : Covers [.dsp] l) (g1 : State.Frame l z x1) :
    State.Frame l z (State.frameLose x1) := by
  delta State.frameLose
  exact g1.dsp (hl .dsp (by decide))

theorem State.latchPresent_frame {x1} (hl : Covers [.regs, .dsp] l) (g1 : State.Frame l z x1) :
    State.Frame l z (State.latchPresent x1) := by
  delta State.latchPresent
  extract_lets -merge -underBinder +onlyGivenNames y1 y2 y3 y4
  have h5 : State.Frame l z y4 := by subst y4; exact State.wr_frame (hl.sub rfl) g1
  try clear_value y4
  exact h5.dsp (hl .dsp (by decide))

theorem State.panelFreewheel_frame {x1} {x2} (hl : Covers [.dsp] l) (g1 : State.Frame l z x1) :
    State.Frame l z (State.panelFreewheel x1 x2) := by
  delta State.panelFreewheel
  refine frame_ite ?_ ?_
  · refine frame_ite ?_ ?_
    · exact g1.dsp (hl .dsp (by decide))
    · exact g1
  · exact g1.dsp (hl .dsp (by decide))

theorem State.applyFill_frame {x1} {x2} {x3} (hl : Covers [.dsp] l) (g1 : State.Frame l z x1) :
    State.Frame l z (State.applyFill x1 x2 x3) := by
  delta State.applyFill
  exact g1.dsp (hl .dsp (by decide))

theorem State.dspTake_frame {x1} (hl : Covers [.regs, .dsp] l) (g1 : State.Frame l z x1) :
    State.Frame l z (State.dspTake x1) := by
  delta State.dspTake
  extract_lets -merge -underBinder +onlyGivenNames y1
  have h2 : State.Frame l z y1 := by subst y1; exact State.wr_frame (hl.sub rfl) g1
  try clear_value y1
  exact h2.dsp (hl .dsp (by decide))

theorem State.dspPlace_frame {x1} {x2} {x3} (hl : Covers [.spoke, .dsp, .flt] l) (g1 : State.Frame l z x1) :
    State.Frame l z (State.dspPlace x1 x2 x3) := by
  delta State.dspPlace
  refine frame_ite ?_ ?_
  · exact g1.dsp (hl .dsp (by decide))
  · exact State.finish_frame (hl.sub rfl) g1

theorem State.doDspPresent_frame {x1} {x2} {x3} (hl : Covers [.spoke, .dsp, .flt] l) (g1 : State.Frame l z x1) :
    State.Frame l z (State.doDspPresent x1 x2 x3) := by
  delta State.doDspPresent
  refine State.checked_frame (hl.sub rfl) ?_ ?_
  · exact g1
  · intro x1 h2
    exact State.dspPlace_frame (hl.sub rfl) h2

theorem State.doDspFill_frame {x1} {x2} {x3} (hl : Covers [.spoke, .dsp, .flt] l) (g1 : State.Frame l z x1) :
    State.Frame l z (State.doDspFill x1 x2 x3) := by
  delta State.doDspFill
  refine State.checked_frame (hl.sub rfl) ?_ ?_
  · exact g1
  · intro x1 h2
    exact State.dspPlace_frame (hl.sub rfl) h2

theorem State.doDspMode_frame {x1} {x2} {x3} (hl : Covers [.spoke, .dsp, .flt] l) (g1 : State.Frame l z x1) :
    State.Frame l z (State.doDspMode x1 x2 x3) := by
  delta State.doDspMode
  refine State.checked_frame (hl.sub rfl) ?_ ?_
  · exact g1
  · intro x1 h2
    exact State.dspPlace_frame (hl.sub rfl) h2

theorem State.dcEdge_frame {x1} (hl : Covers [.regs, .dsp] l) (g1 : State.Frame l z x1) :
    State.Frame l z (State.dcEdge x1) := by
  delta State.dcEdge
  refine frame_ite ?_ ?_
  · extract_lets -merge -underBinder +onlyGivenNames y1
    try clear_value y1
    extract_lets -merge -underBinder +onlyGivenNames y2
    try clear_value y2
    extract_lets -merge -underBinder +onlyGivenNames y3
    try clear_value y3
    extract_lets -merge -underBinder +onlyGivenNames y4
    try clear_value y4
    extract_lets -merge -underBinder +onlyGivenNames y5
    try clear_value y5
    extract_lets -merge -underBinder +onlyGivenNames y6 y7
    have h8 : State.Frame l z y7 := by subst y7; exact g1.dsp (hl .dsp (by decide))
    try clear_value y7
    split
    · exact h8
    · exact State.wr_frame (hl.sub rfl) (State.count_frame (hl.sub rfl) h8)
  · exact g1.dsp (hl .dsp (by decide))

theorem State.doDspLwWrite_frame {x1} {x2} {x3} (hl : Covers [.spoke, .dsp, .flt] l) (g1 : State.Frame l z x1) :
    State.Frame l z (State.doDspLwWrite x1 x2 x3) := by
  delta State.doDspLwWrite
  refine State.checked_frame (hl.sub rfl) ?_ ?_
  · exact g1
  · intro x1 h2
    exact State.dspPlace_frame (hl.sub rfl) h2

theorem State.dspClear_frame {x1} (hl : Covers [.regs, .dsp] l) (g1 : State.Frame l z x1) :
    State.Frame l z (State.dspClear x1) := by
  delta State.dspClear
  extract_lets -merge -underBinder +onlyGivenNames y1 y2
  have h6 : State.Frame l z y2 := by
    subst y2
    refine State.each_frame ?_ ?_
    · exact g1
    · intro x3 x5 h4
      exact State.clearAttr_frame (hl.sub rfl) h4
  try clear_value y2
  extract_lets -merge -underBinder +onlyGivenNames y7
  have h8 : State.Frame l z y7 := by subst y7; exact State.wrs_frame (hl.sub rfl) h6
  try clear_value y7
  exact h8.dsp (hl .dsp (by decide))

theorem State.applyWrite_frame {x1} {x2} (hl : Covers [.spoke, .dsp, .flt] l) (g1 : State.Frame l z x1) :
    State.Frame l z (State.applyWrite x1 x2) := by
  delta State.applyWrite
  extract_lets -merge -underBinder +onlyGivenNames y1
  exact State.ok_frame (hl.sub rfl) (g1.dsp (hl .dsp (by decide)))

theorem State.doDspWrite_frame {x1} {x2} {x3} (hl : Covers [.spoke, .dsp, .flt] l) (g1 : State.Frame l z x1) :
    State.Frame l z (State.doDspWrite x1 x2 x3) := by
  delta State.doDspWrite
  refine State.checked_frame (hl.sub rfl) ?_ ?_
  · exact g1
  · intro x1 h2
    exact State.dspPlace_frame (hl.sub rfl) h2

theorem State.modeEdge_frame {x1} (hl : Covers [.regs, .spoke, .dsp, .flt] l) (g1 : State.Frame l z x1) :
    State.Frame l z (State.modeEdge x1) := by
  delta State.modeEdge
  split
  · exact g1
  · extract_lets -merge -underBinder +onlyGivenNames y1 y2 y3
    have h4 : State.Frame l z y3 := by subst y3; exact State.wrB_frame (hl.sub rfl) g1
    try clear_value y3
    extract_lets -merge -underBinder +onlyGivenNames y5 y6
    have h7 : State.Frame l z y6 := by subst y6; exact h4.dsp (hl .dsp (by decide))
    try clear_value y6
    refine State.each_frame ?_ ?_
    · exact h7
    · intro x8 x10 h9
      exact State.ok_frame (hl.sub rfl) h9

theorem State.applyLw_frame {x1} {x2} (hl : Covers [.spoke, .dsp, .flt] l) (g1 : State.Frame l z x1) :
    State.Frame l z (State.applyLw x1 x2) := by
  delta State.applyLw
  extract_lets -merge -underBinder +onlyGivenNames y1 y2 y3
  exact State.ok_frame (hl.sub rfl) (g1.dsp (hl .dsp (by decide)))

theorem State.dspNote_frame {x1} {x2} {x3} {x4} (hl : Covers [.spoke] l) (g1 : State.Frame l z x1) :
    State.Frame l z (State.dspNote x1 x2 x3 x4) := by
  delta State.dspNote
  exact State.note_frame (hl.sub rfl) g1

theorem State.dspTo_frame {x1} {x2} (hl : Covers [.regs, .spoke] l) (g1 : State.Frame l z x1) :
    State.Frame l z (State.dspTo x1 x2) := by
  delta State.dspTo
  refine frame_ite ?_ ?_
  · exact g1
  · exact State.dspNote_frame (hl.sub rfl) (State.wr_frame (hl.sub rfl) g1)

theorem State.applyOn_frame {x1} {x2} (hl : Covers [.regs, .pwr, .spoke, .dsp, .flt] l) (g1 : State.Frame l z x1) :
    State.Frame l z (State.applyOn x1 x2) := by
  delta State.applyOn
  refine frame_ite ?_ ?_
  · exact State.ok_frame (hl.sub rfl) g1
  · refine frame_ite ?_ ?_
    · exact State.finish_frame (hl.sub rfl) g1
    · extract_lets -merge -underBinder +onlyGivenNames y1
      have h2 : State.Frame l z y1 := by subst y1; exact State.accepted_frame (hl.sub rfl) g1
      try clear_value y1
      extract_lets -merge -underBinder +onlyGivenNames y3 y4
      have h5 : State.Frame l z y4 := by subst y4; exact h2.dsp (hl .dsp (by decide))
      try clear_value y4
      refine frame_ite ?_ ?_
      · exact h5
      · exact State.escAsk_frame (hl.sub rfl) (State.dspTo_frame (hl.sub rfl) h5)

theorem State.dischargeStart_frame {x1} {x2} {x3} (hl : Covers [.regs, .spoke, .dsp, .flt] l) (g1 : State.Frame l z x1) :
    State.Frame l z (State.dischargeStart x1 x2 x3) := by
  delta State.dischargeStart
  split
  · exact g1.dsp (hl .dsp (by decide))
  · extract_lets -merge -underBinder +onlyGivenNames y1 y2
    have h3 : State.Frame l z y2 := by subst y2; exact State.dspTo_frame (hl.sub rfl) (State.wr_frame (hl.sub rfl) g1)
    try clear_value y2
    extract_lets -merge -underBinder +onlyGivenNames y4 y5
    have h6 : State.Frame l z y5 := by subst y5; exact h3.dsp (hl .dsp (by decide))
    try clear_value y5
    refine State.each_frame ?_ ?_
    · exact h6
    · intro x7 x9 h8
      exact State.finish_frame (hl.sub rfl) h8

theorem State.orderlyOff_frame {x1} {x2} (hl : Covers [.regs, .pwr, .spoke, .dsp, .flt] l) (g1 : State.Frame l z x1) :
    State.Frame l z (State.orderlyOff x1 x2) := by
  delta State.orderlyOff
  split
  · extract_lets -merge -underBinder +onlyGivenNames y1 y2
    have h3 : State.Frame l z y2 := by subst y2; exact State.wr_frame (hl.sub rfl) (State.escEnd_frame (hl.sub rfl) g1)
    try clear_value y2
    extract_lets -merge -underBinder +onlyGivenNames y4 y5
    have h6 : State.Frame l z y5 := by subst y5; exact State.dspTo_frame (hl.sub rfl) (h3.dsp (hl .dsp (by decide)))
    try clear_value y5
    refine State.each_frame ?_ ?_
    · exact h6
    · intro x7 x9 h8
      exact State.finish_frame (hl.sub rfl) h8
  · exact g1.dsp (hl .dsp (by decide))
  · exact g1.dsp (hl .dsp (by decide))
  · exact g1

theorem State.dspUnitReset_frame {x1} (hl : Covers [.regs, .pwr, .spoke, .dsp, .flt] l) (g1 : State.Frame l z x1) :
    State.Frame l z (State.dspUnitReset x1) := by
  delta State.dspUnitReset
  extract_lets -merge -underBinder +onlyGivenNames y1 y2
  have h3 : State.Frame l z y2 := by subst y2; exact g1.dsp (hl .dsp (by decide))
  try clear_value y2
  extract_lets -merge -underBinder +onlyGivenNames y4
  have h5 : State.Frame l z y4 := by subst y4; exact State.orderlyOff_frame (hl.sub rfl) h3
  try clear_value y4
  refine frame_ite ?_ ?_
  · exact State.dspClear_frame (hl.sub rfl) h5
  · exact h5

theorem State.lapBegin_frame {x1} (hl : Covers [.regs, .spoke, .dsp, .flt] l) (g1 : State.Frame l z x1) :
    State.Frame l z (State.lapBegin x1) := by
  delta State.lapBegin
  extract_lets -merge -underBinder +onlyGivenNames y1
  have h4 : State.Frame l z y1 := by
    subst y1
    refine State.when_frame ?_ ?_
    · exact g1
    · intro x2 h3
      exact State.count_frame (hl.sub rfl) h3
  try clear_value y1
  extract_lets -merge -underBinder +onlyGivenNames y5 y6
  have h7 : State.Frame l z y6 := by subst y6; exact h4.dsp (hl .dsp (by decide))
  try clear_value y6
  extract_lets -merge -underBinder +onlyGivenNames y8
  have h9 : State.Frame l z y8 := by subst y8; exact State.modeEdge_frame (hl.sub rfl) (State.dcEdge_frame (hl.sub rfl) (State.dspTake_frame (hl.sub rfl) h7))
  try clear_value y8
  exact h9.dsp (hl .dsp (by decide))

theorem State.scanParity_frame {x1} {x2} (hl : Covers [.regs, .spoke, .dsp, .flt] l) (g1 : State.Frame l z x1) :
    State.Frame l z (State.scanParity x1 x2) := by
  delta State.scanParity
  extract_lets -merge -underBinder +onlyGivenNames y1 y2 y3
  have h4 : State.Frame l z y3 := by subst y3; exact g1.dsp (hl .dsp (by decide))
  try clear_value y3
  exact State.fault_frame (hl.sub rfl) (State.dspNote_frame (hl.sub rfl) (State.count_frame (hl.sub rfl) h4))

theorem State.abruptOff_frame {x1} {x2} {x3} (hl : Covers [.regs, .pwr, .spoke, .dsp, .flt] l) (g1 : State.Frame l z x1) :
    State.Frame l z (State.abruptOff x1 x2 x3) := by
  delta State.abruptOff
  split
  · exact g1
  · exact g1
  · extract_lets -merge -underBinder +onlyGivenNames y1 y2
    have h3 : State.Frame l z y2 := by subst y2; exact State.wr_frame (hl.sub rfl) (State.escEnd_frame (hl.sub rfl) g1)
    try clear_value y2
    extract_lets -merge -underBinder +onlyGivenNames y4 y5
    have h6 : State.Frame l z y5 := by subst y5; exact State.dspTo_frame (hl.sub rfl) (h3.dsp (hl .dsp (by decide)))
    try clear_value y5
    refine State.each_frame ?_ ?_
    · exact h6
    · intro x7 x9 h8
      exact State.finish_frame (hl.sub rfl) h8
  · exact State.dischargeStart_frame (hl.sub rfl) g1

theorem State.dspSupply_frame {x1} {x2} (hl : Covers [.regs, .pwr, .spoke, .dsp, .flt] l) (g1 : State.Frame l z x1) :
    State.Frame l z (State.dspSupply x1 x2) := by
  delta State.dspSupply
  exact State.abruptOff_frame (hl.sub rfl) (State.fault_frame (hl.sub rfl) (State.dspNote_frame (hl.sub rfl) g1))

theorem State.dischargeEnd_frame {x1} (hl : Covers [.regs, .spoke, .dsp, .flt] l) (g1 : State.Frame l z x1) :
    State.Frame l z (State.dischargeEnd x1) := by
  delta State.dischargeEnd
  split
  · exact g1
  · extract_lets -merge -underBinder +onlyGivenNames y1 y2 y3
    have h4 : State.Frame l z y3 := by subst y3; exact g1.dsp (hl .dsp (by decide))
    try clear_value y3
    extract_lets -merge -underBinder +onlyGivenNames y5
    have h6 : State.Frame l z y5 := by subst y5; exact State.dspTo_frame (hl.sub rfl) h4
    try clear_value y5
    extract_lets -merge -underBinder +onlyGivenNames y7
    have h11 : State.Frame l z y7 := by
      subst y7
      refine State.each_frame ?_ ?_
      · exact h6
      · intro x8 x10 h9
        exact State.finish_frame (hl.sub rfl) h9
    try clear_value y7
    refine frame_ite ?_ ?_
    · exact State.dspClear_frame (hl.sub rfl) h11
    · exact h11

theorem State.applyOff_frame {x1} {x2} (hl : Covers [.regs, .pwr, .spoke, .dsp, .flt] l) (g1 : State.Frame l z x1) :
    State.Frame l z (State.applyOff x1 x2) := by
  delta State.applyOff
  extract_lets -merge -underBinder +onlyGivenNames y1
  refine frame_ite ?_ ?_
  · exact State.ok_frame (hl.sub rfl) g1
  · refine frame_ite ?_ ?_
    · exact State.ok_frame (hl.sub rfl) (State.dspTo_frame (hl.sub rfl) g1)
    · refine frame_ite ?_ ?_
      · exact State.ok_frame (hl.sub rfl) (State.orderlyOff_frame (hl.sub rfl) (State.accepted_frame (hl.sub rfl) g1))
      · extract_lets -merge -underBinder +onlyGivenNames y2
        have h3 : State.Frame l z y2 := by subst y2; exact State.orderlyOff_frame (hl.sub rfl) (State.accepted_frame (hl.sub rfl) g1)
        try clear_value y2
        exact h3.dsp (hl .dsp (by decide))

theorem State.driveFrame_frame {s b} (hl : Covers [.regs, .spoke, .dsp, .flt] l) (h : State.Frame l z s) : State.Frame l z (State.driveFrame s b) := by
  have h1 : State.Frame l z (if b then { s with dsp.polBase := s.rd R.DSP_CFG_POL_MODE, dsp.flips := [], dsp.hZero := false }
      else { s with dsp.flips := s.driven.foldl (fun m y => mput 0 m y (1 - mget 0 m y)) s.dsp.flips }) :=
    frame_ite (h.dsp (hl .dsp (by decide))) (h.dsp (hl .dsp (by decide)))
  exact State.each_frame (frame_ite (State.count_frame (hl.sub rfl) h1) h1) fun _ _ ht => State.scanParity_frame (hl.sub rfl) ht

theorem State.powerGoodLow_frame {x1} (hl : Covers [.regs, .pwr, .spoke, .dsp, .flt] l) (g1 : State.Frame l z x1) :
    State.Frame l z (State.powerGoodLow x1) := by
  delta State.powerGoodLow
  extract_lets -merge -underBinder +onlyGivenNames y1
  refine frame_ite ?_ ?_
  · exact State.dspSupply_frame (hl.sub rfl) g1
  · exact g1

theorem State.powerOnStep_frame {x1} {x2} {x3} (hl : Covers [.regs, .pwr, .spoke, .dsp, .flt] l) (g1 : State.Frame l z x1) :
    State.Frame l z (State.powerOnStep x1 x2 x3) := by
  delta State.powerOnStep
  extract_lets -merge -underBinder +onlyGivenNames y1
  have h2 : State.Frame l z y1 := by subst y1; exact State.wrB_frame (hl.sub rfl) (State.wrB_frame (hl.sub rfl) g1)
  try clear_value y1
  refine frame_ite ?_ ?_
  · exact h2
  · extract_lets -merge -underBinder +onlyGivenNames y3 y4
    have h5 : State.Frame l z y4 := by subst y4; exact h2.dsp (hl .dsp (by decide))
    try clear_value y4
    split
    · extract_lets -merge -underBinder +onlyGivenNames y6
      have h7 : State.Frame l z y6 := by subst y6; exact State.dspTo_frame (hl.sub rfl) h5
      try clear_value y6
      refine frame_ite ?_ ?_
      · exact h7.dsp (hl .dsp (by decide))
      · exact State.dspSupply_frame (hl.sub rfl) h7
    · refine frame_ite ?_ ?_
      · exact h5.dsp (hl .dsp (by decide))
      · exact State.dspSupply_frame (hl.sub rfl) h5
    · refine frame_ite ?_ ?_
      · exact h5.dsp (hl .dsp (by decide))
      · exact State.dspSupply_frame (hl.sub rfl) h5
    · extract_lets -merge -underBinder +onlyGivenNames y8 y9
      have h10 : State.Frame l z y9 := by subst y9; exact h5.dsp (hl .dsp (by decide))
      try clear_value y9
      exact State.driveFrame_frame (hl.sub rfl) (State.dspTo_frame (hl.sub rfl) h10)
    · exact h5

theorem State.dspReset_frame {x1} (hl : Covers [.regs, .pwr, .spoke, .dsp, .flt] l) (g1 : State.Frame l z x1) :
    State.Frame l z (State.dspReset x1) := by
  delta State.dspReset
  extract_lets -merge -underBinder +onlyGivenNames y1
  have h2 : State.Frame l z y1 := by subst y1; exact State.abruptOff_frame (hl.sub rfl) g1
  try clear_value y1
  extract_lets -merge -underBinder +onlyGivenNames y3
  try clear_value y3
  extract_lets -merge -underBinder +onlyGivenNames y4
  have h5 : State.Frame l z y4 := by subst y4; exact State.dspClear_frame (hl.sub rfl) h2
  try clear_value y4
  split
  · exact h5
  · exact State.wr_frame (hl.sub rfl) (h5.dsp (hl .dsp (by decide)))

theorem State.applyDsp_frame {x1} {x2} (hl : Covers [.regs, .pwr, .spoke, .dsp, .flt] l) (g1 : State.Frame l z x1) :
    State.Frame l z (State.applyDsp x1 x2) := by
  delta State.applyDsp
  split
  · refine frame_ite ?_ ?_
    · exact State.applyOn_frame (hl.sub rfl) g1
    · exact State.applyOff_frame (hl.sub rfl) g1
  · exact State.applyWrite_frame (hl.sub rfl) g1
  · extract_lets -merge -underBinder +onlyGivenNames y1
    have h2 : State.Frame l z y1 := by subst y1; exact State.wr_frame (hl.sub rfl) (State.accepted_frame (hl.sub rfl) g1)
    try clear_value y1
    exact h2.dsp (hl .dsp (by decide))
  · exact State.applyLw_frame (hl.sub rfl) g1
  · extract_lets -merge -underBinder +onlyGivenNames y3
    exact g1.dsp (hl .dsp (by decide))
  · exact g1

theorem State.vsrcFail_frame {x1} (hl : Covers [.regs, .pwr, .spoke, .dsp, .flt] l) (g1 : State.Frame l z x1) :
    State.Frame l z (State.vsrcFail x1) := by
  delta State.vsrcFail
  extract_lets -merge -underBinder +onlyGivenNames y1
  have h2 : State.Frame l z y1 := by subst y1; exact State.wr_frame (hl.sub rfl) g1
  try clear_value y1
  extract_lets -merge -underBinder +onlyGivenNames y3
  refine frame_ite ?_ ?_
  · exact h2
  · exact State.dspSupply_frame (hl.sub rfl) h2

theorem State.dspLevels_frame {x1} {x2} {x3} {x4} (hl : Covers [.regs, .pwr, .spoke, .dsp, .flt] l) (g1 : State.Frame l z x1) :
    State.Frame l z (State.dspLevels x1 x2 x3 x4) := by
  delta State.dspLevels
  extract_lets -merge -underBinder +onlyGivenNames y1
  have h2 : State.Frame l z y1 := by subst y1; exact State.wrB_frame (hl.sub rfl) (State.wrB_frame (hl.sub rfl) g1)
  try clear_value y1
  extract_lets -merge -underBinder +onlyGivenNames y3
  have h4 : State.Frame l z y3 := by
    subst y3
    refine frame_ite ?_ ?_
    · exact State.wr_frame (hl.sub rfl) h2
    · exact State.vsrcFail_frame (hl.sub rfl) h2
  try clear_value y3
  extract_lets -merge -underBinder +onlyGivenNames y5 y6 y7
  have h8 : State.Frame l z y7 := by subst y7; exact h4.dsp (hl .dsp (by decide))
  try clear_value y7
  refine frame_ite ?_ ?_
  · exact State.powerGoodLow_frame (hl.sub rfl) h8
  · exact h8

theorem State.lapFrame_frame {x1} {x2} {x3} (hl : Covers [.regs, .spoke, .dsp, .flt] l) (g1 : State.Frame l z x1) :
    State.Frame l z (State.lapFrame x1 x2 x3) := by
  delta State.lapFrame
  extract_lets -merge -underBinder +onlyGivenNames y1 y2 y3
  have h4 : State.Frame l z y3 := by subst y3; exact g1.dsp (hl .dsp (by decide))
  try clear_value y3
  extract_lets -merge -underBinder +onlyGivenNames y5
  have h6 : State.Frame l z y5 := by subst y5; exact State.driveFrame_frame (hl.sub rfl) h4
  try clear_value y5
  exact h6.dsp (hl .dsp (by decide))

theorem dspLoop_frame {k b s} (hl : Covers [.regs, .pwr, .spoke, .dsp, .flt] l) (h : State.Frame l z s) : State.Frame l z (dspLoop k b s) := by
  induction k generalizing b s with
  | zero =>
    unfold dspLoop
    exact h
  | succ k ih =>
    unfold dspLoop
    split
    · exact h
    · exact h
    · rename_i e1 e2
      cases e1
      refine frame_ite h (frame_ite (frame_ite h ?_) (frame_ite h (ih (State.applyDsp_frame (hl.sub rfl) (h.dsp (hl .dsp (by decide)))))))
      extract_lets left total j y
      have hy : State.Frame l z y := State.applyFill_frame (hl.sub rfl) h
      clear_value y
      exact frame_ite (ih (State.ok_frame (hl.sub rfl) (hy.dsp (hl .dsp (by decide))))) (hy.dsp (hl .dsp (by decide)))

theorem State.lapPresent_frame {x1} (hl : Covers [.regs, .spoke, .dsp, .flt] l) (g1 : State.Frame l z x1) :
    State.Frame l z (State.lapPresent x1) := by
  delta State.lapPresent
  extract_lets -merge -underBinder +onlyGivenNames y1 y2 y3 y4
  have h5 : State.Frame l z y4 := by subst y4; exact g1.dsp (hl .dsp (by decide))
  try clear_value y4
  extract_lets -merge -underBinder +onlyGivenNames y6
  have h9 : State.Frame l z y6 := by
    subst y6
    refine State.when_frame ?_ ?_
    · exact h5
    · intro x7 h8
      exact State.latchPresent_frame (hl.sub rfl) h8
  try clear_value y6
  exact State.lapFrame_frame (hl.sub rfl) h9

theorem State.orderlyStep_frame {x1} (hl : Covers [.regs, .spoke, .dsp, .flt] l) (g1 : State.Frame l z x1) :
    State.Frame l z (State.orderlyStep x1) := by
  delta State.orderlyStep
  refine frame_ite ?_ ?_
  · exact State.dischargeStart_frame (hl.sub rfl) g1
  · split
    · exact g1
    · extract_lets -merge -underBinder +onlyGivenNames y1
      have h2 : State.Frame l z y1 := by subst y1; exact State.wr_frame (hl.sub rfl) g1
      try clear_value y1
      refine frame_ite ?_ ?_
      · refine State.driveFrame_frame (hl.sub rfl) ?_
        extract_lets -merge -underBinder +onlyGivenNames y3
        have h4 : State.Frame l z y3 := by subst y3; exact State.dspTo_frame (hl.sub rfl) h2
        try clear_value y3
        exact h4.dsp (hl .dsp (by decide))
      · refine frame_ite ?_ ?_
        · extract_lets -merge -underBinder +onlyGivenNames y5 y6 y7
          have h11 : State.Frame l z y7 := by
            subst y7
            refine State.each_frame ?_ ?_
            · exact h2.dsp (hl .dsp (by decide))
            · intro x8 x10 h9
              exact State.finish_frame (hl.sub rfl) h9
          try clear_value y7
          exact State.dischargeStart_frame (hl.sub rfl) h11
        · exact h2.dsp (hl .dsp (by decide))

theorem State.dspRun_frame {x1} (hl : Covers [.regs, .pwr, .spoke, .dsp, .flt] l) (g1 : State.Frame l z x1) :
    State.Frame l z (State.dspRun x1) := by
  delta State.dspRun
  extract_lets -merge -underBinder +onlyGivenNames y1 y2 y3
  have h7 : State.Frame l z y3 := by
    subst y3
    refine frame_ite ?_ ?_
    · refine State.each_frame ?_ ?_
      · exact g1.dsp (hl .dsp (by decide))
      · intro x4 x6 h5
        exact State.ok_frame (hl.sub rfl) h5
    · exact g1
  try clear_value y3
  extract_lets -merge -underBinder +onlyGivenNames y8 y9 y10
  have h14 : State.Frame l z y10 := by
    subst y10
    refine frame_ite ?_ ?_
    · exact h7
    · refine State.each_frame ?_ ?_
      · exact h7.dsp (hl .dsp (by decide))
      · intro x11 x13 h12
        exact State.ok_frame (hl.sub rfl) h12
  try clear_value y10
  exact dspLoop_frame (hl.sub rfl) h14

theorem State.lapEnd_frame {x1} (hl : Covers [.regs, .spoke, .dsp, .flt] l) (g1 : State.Frame l z x1) :
    State.Frame l z (State.lapEnd x1) := by
  delta State.lapEnd
  extract_lets -merge -underBinder +onlyGivenNames y1
  refine frame_ite ?_ ?_
  · exact State.orderlyStep_frame (hl.sub rfl) g1
  · refine frame_ite ?_ ?_
    · exact State.orderlyStep_frame (hl.sub rfl) (State.lapPresent_frame (hl.sub rfl) g1)
    · exact State.lapPresent_frame (hl.sub rfl) g1

theorem State.panelLap_frame {x1} (hl : Covers [.regs, .spoke, .dsp, .flt] l) (g1 : State.Frame l z x1) :
    State.Frame l z (State.panelLap x1) := by
  delta State.panelLap
  refine frame_ite ?_ ?_
  · exact g1
  · exact State.lapEnd_frame (hl.sub rfl) (State.lapBegin_frame (hl.sub rfl) g1)

theorem State.doDspPower_frame {x1} {x2} {x3} (hl : Covers [.regs, .free, .pwr, .spoke, .console, .hay, .dsp, .sec, .flt] l) (g1 : State.Frame l z x1) :
    State.Frame l z (State.doDspPower x1 x2 x3) := by
  delta State.doDspPower
  refine State.checked_frame (hl.sub rfl) ?_ ?_
  · exact g1
  · intro x1 h2
    refine State.dspPlace_frame (hl.sub rfl) ?_
    refine frame_ite ?_ ?_
    · exact State.consoleCloses_frame (hl.sub rfl) h2
    · exact h2

/-! ### Segment -/

theorem State.segPlace_frame {x1} {x2} {x3} (hl : Covers [.spoke, .seg, .flt] l) (g1 : State.Frame l z x1) :
    State.Frame l z (State.segPlace x1 x2 x3) := by
  delta State.segPlace
  refine frame_ite ?_ ?_
  · exact g1.seg (hl .seg (by decide))
  · exact State.finish_frame (hl.sub rfl) g1

theorem State.segStandby_frame {x1} (hl : Covers [.regs, .seg] l) (g1 : State.Frame l z x1) :
    State.Frame l z (State.segStandby x1) := by
  delta State.segStandby
  refine frame_ite ?_ ?_
  · exact g1
  · extract_lets -merge -underBinder +onlyGivenNames y1
    have h2 : State.Frame l z y1 := by subst y1; exact State.wr_frame (hl.sub rfl) g1
    try clear_value y1
    exact h2.seg (hl .seg (by decide))

theorem State.segTick_frame {x1} (hl : Covers [.seg] l) (g1 : State.Frame l z x1) :
    State.Frame l z (State.segTick x1) := by
  delta State.segTick
  refine frame_ite ?_ ?_
  · exact g1
  · exact g1.seg (hl .seg (by decide))

theorem State.segMainsBack_frame {x1} (hl : Covers [.seg] l) (g1 : State.Frame l z x1) :
    State.Frame l z (State.segMainsBack x1) := by
  delta State.segMainsBack
  exact g1.seg (hl .seg (by decide))

theorem State.segPowerUp_frame {x1} (hl : Covers [.regs, .seg] l) (g1 : State.Frame l z x1) :
    State.Frame l z (State.segPowerUp x1) := by
  delta State.segPowerUp
  extract_lets -merge -underBinder +onlyGivenNames y1
  have h5 : State.Frame l z y1 := by
    subst y1
    refine State.each_frame ?_ ?_
    · exact g1
    · intro x2 x4 h3
      exact State.clearAttr_frame (hl.sub rfl) h3
  try clear_value y1
  exact h5.seg (hl .seg (by decide))

theorem State.segStore_frame {x1} {x2} {x3} (hl : Covers [.regs] l) (g1 : State.Frame l z x1) :
    State.Frame l z (State.segStore x1 x2 x3) := by
  delta State.segStore
  refine State.each_frame ?_ ?_
  · exact g1
  · intro x1 x3 h2
    exact State.wr_frame (hl.sub rfl) h2

theorem State.segMainsLost_frame {x1} (hl : Covers [.seg] l) (g1 : State.Frame l z x1) :
    State.Frame l z (State.segMainsLost x1) := by
  delta State.segMainsLost
  refine frame_ite ?_ ?_
  · exact g1
  · exact g1.seg (hl .seg (by decide))

theorem State.doSegShow_frame {x1} {x2} {x3} (hl : Covers [.spoke, .seg, .flt] l) (g1 : State.Frame l z x1) :
    State.Frame l z (State.doSegShow x1 x2 x3) := by
  delta State.doSegShow
  refine State.checked_frame (hl.sub rfl) ?_ ?_
  · exact g1
  · intro x1 h2
    exact State.segPlace_frame (hl.sub rfl) h2

theorem State.segDrop_frame {x1} {x2} (hl : Covers [.regs, .seg] l) (g1 : State.Frame l z x1) :
    State.Frame l z (State.segDrop x1 x2) := by
  delta State.segDrop
  extract_lets -merge -underBinder +onlyGivenNames y1
  have h2 : State.Frame l z y1 := by subst y1; exact State.segStore_frame (hl.sub rfl) g1
  try clear_value y1
  exact h2.seg (hl .seg (by decide))

theorem State.segNote_frame {x1} {x2} {x3} (hl : Covers [.spoke] l) (g1 : State.Frame l z x1) :
    State.Frame l z (State.segNote x1 x2 x3) := by
  delta State.segNote
  exact State.note_frame (hl.sub rfl) g1

theorem State.doSegWrite_frame {x1} {x2} {x3} (hl : Covers [.spoke, .seg, .flt] l) (g1 : State.Frame l z x1) :
    State.Frame l z (State.doSegWrite x1 x2 x3) := by
  delta State.doSegWrite
  refine State.checked_frame (hl.sub rfl) ?_ ?_
  · exact g1
  · intro x1 h2
    exact State.segPlace_frame (hl.sub rfl) h2

theorem State.segRestart_frame {x1} (hl : Covers [.regs, .spoke, .seg] l) (g1 : State.Frame l z x1) :
    State.Frame l z (State.segRestart x1) := by
  delta State.segRestart
  refine frame_ite ?_ ?_
  · exact g1
  · extract_lets -merge -underBinder +onlyGivenNames y1
    refine frame_ite ?_ ?_
    · extract_lets -merge -underBinder +onlyGivenNames y2
      have h3 : State.Frame l z y2 := by subst y2; exact State.wr_frame (hl.sub rfl) g1
      try clear_value y2
      extract_lets -merge -underBinder +onlyGivenNames y4 y5
      have h6 : State.Frame l z y5 := by subst y5; exact h3.seg (hl .seg (by decide))
      try clear_value y5
      extract_lets -merge -underBinder +onlyGivenNames y7
      have h8 : State.Frame l z y7 := by subst y7; exact State.wr_frame (hl.sub rfl) h6
      try clear_value y7
      refine frame_ite ?_ ?_
      · exact State.segNote_frame (hl.sub rfl) h8
      · exact h8
    · exact g1

theorem State.lossStop_frame {x1} (hl : Covers [.regs, .spoke] l) (g1 : State.Frame l z x1) :
    State.Frame l z (State.lossStop x1) := by
  delta State.lossStop
  refine frame_ite ?_ ?_
  · exact State.segNote_frame (hl.sub rfl) (State.wr_frame (hl.sub rfl) (State.wr_frame (hl.sub rfl) g1))
  · exact g1

theorem State.segAlt_frame {x1} (hl : Covers [.regs, .spoke, .seg] l) (g1 : State.Frame l z x1) :
    State.Frame l z (State.segAlt x1) := by
  delta State.segAlt
  refine frame_ite ?_ ?_
  · exact State.segNote_frame (hl.sub rfl) (State.wr_frame (hl.sub rfl) (g1.seg (hl .seg (by decide))))
  · exact g1.seg (hl .seg (by decide))

theorem State.segUnitReset_frame {x1} (hl : Covers [.regs, .seg] l) (g1 : State.Frame l z x1) :
    State.Frame l z (State.segUnitReset x1) := by
  delta State.segUnitReset
  exact State.segDrop_frame (hl.sub rfl) g1

theorem State.segStage_frame {x1} (hl : Covers [.regs, .spoke, .seg] l) (g1 : State.Frame l z x1) :
    State.Frame l z (State.segStage x1) := by
  delta State.segStage
  refine frame_ite ?_ ?_
  · extract_lets -merge -underBinder +onlyGivenNames y1 y2 y3
    have h4 : State.Frame l z y3 := by subst y3; exact g1.seg (hl .seg (by decide))
    try clear_value y3
    refine frame_ite ?_ ?_
    · exact State.lossStop_frame (hl.sub rfl) h4
    · exact h4
  · exact g1

theorem State.segSwap_frame {x1} (hl : Covers [.regs, .seg] l) (g1 : State.Frame l z x1) :
    State.Frame l z (State.segSwap x1) := by
  delta State.segSwap
  split
  · exact g1
  · extract_lets -merge -underBinder +onlyGivenNames y1
    have h2 : State.Frame l z y1 := by subst y1; exact State.wr_frame (hl.sub rfl) (State.count_frame (hl.sub rfl) (State.segStore_frame (hl.sub rfl) g1))
    try clear_value y1
    exact h2.seg (hl .seg (by decide))

theorem State.segReset_frame {x1} (hl : Covers [.regs, .seg] l) (g1 : State.Frame l z x1) :
    State.Frame l z (State.segReset x1) := by
  delta State.segReset
  exact State.wr_frame (hl.sub rfl) (State.segDrop_frame (hl.sub rfl) g1)

theorem State.applySeg_frame {x1} {x2} (hl : Covers [.regs, .spoke, .seg, .flt] l) (g1 : State.Frame l z x1) :
    State.Frame l z (State.applySeg x1 x2) := by
  delta State.applySeg
  refine frame_ite ?_ ?_
  · refine State.ok_frame (hl.sub rfl) ?_
    refine State.each_frame ?_ ?_
    · exact g1
    · intro x1 x3 h2
      exact State.wr_frame (hl.sub rfl) h2
  · extract_lets -merge -underBinder +onlyGivenNames y4
    have h5 : State.Frame l z y4 := by subst y4; exact State.accepted_frame (hl.sub rfl) g1
    try clear_value y4
    exact h5.seg (hl .seg (by decide))

theorem State.vlcdLow_frame {x1} {x2} (hl : Covers [.regs, .spoke, .flt] l) (g1 : State.Frame l z x1) :
    State.Frame l z (State.vlcdLow x1 x2) := by
  delta State.vlcdLow
  refine frame_ite ?_ ?_
  · exact g1
  · extract_lets -merge -underBinder +onlyGivenNames y1
    have h2 : State.Frame l z y1 := by subst y1; exact State.segNote_frame (hl.sub rfl) (State.wrB_frame (hl.sub rfl) g1)
    try clear_value y1
    refine frame_ite ?_ ?_
    · exact State.fault_frame (hl.sub rfl) h2
    · exact h2

theorem State.segLap_frame {x1} (hl : Covers [.regs, .spoke, .seg] l) (g1 : State.Frame l z x1) :
    State.Frame l z (State.segLap x1) := by
  delta State.segLap
  refine frame_ite ?_ ?_
  · exact g1
  · extract_lets -merge -underBinder +onlyGivenNames y1 y2
    have h3 : State.Frame l z y2 := by subst y2; exact g1.seg (hl .seg (by decide))
    try clear_value y2
    extract_lets -merge -underBinder +onlyGivenNames y4
    have h5 : State.Frame l z y4 := by subst y4; exact State.segRestart_frame (hl.sub rfl) (State.segAlt_frame (hl.sub rfl) (State.segSwap_frame (hl.sub rfl) h3))
    try clear_value y4
    exact State.wrB_frame (hl.sub rfl) h5

theorem State.segRun_frame {x1} (hl : Covers [.regs, .spoke, .seg, .flt] l) (g1 : State.Frame l z x1) :
    State.Frame l z (State.segRun x1) := by
  delta State.segRun
  extract_lets -merge -underBinder +onlyGivenNames y1 y2 y3
  have h7 : State.Frame l z y3 := by
    subst y3
    refine State.each_frame ?_ ?_
    · exact g1.seg (hl .seg (by decide))
    · intro x4 x6 h5
      exact State.ok_frame (hl.sub rfl) h5
  try clear_value y3
  extract_lets -merge -underBinder +onlyGivenNames y8
  refine State.each_frame ?_ ?_
  · exact h7.seg (hl .seg (by decide))
  · intro x9 x11 h10
    exact State.applySeg_frame (hl.sub rfl) h10

theorem State.dspSvc_frame {x1} (hl : Covers [.regs, .pwr, .spoke, .dsp, .seg, .flt] l) (g1 : State.Frame l z x1) :
    State.Frame l z (State.dspSvc x1) := by
  delta State.dspSvc
  exact State.segRun_frame (hl.sub rfl) (State.dspRun_frame (hl.sub rfl) g1)

end Sys2Proof.Machine
end

