-- ==== Sys2Proof/Laws/Frame6.lean ====
section
/-!
SUPPORT. Sys2Proof/Laws/Frame6.lean: the operations of Faults, Thermal, Cadence, Wake, Paddock, ZoneCommands, Reset and the parts
of the state they can change.
-/

namespace Sys2Proof.Machine

variable {l : List Part} {z : State}

/-! ### Faults -/

theorem State.recoverStart_frame {x1} {x2} {x3} (hl : Covers [.flt] l) (g1 : State.Frame l z x1) :
    State.Frame l z (State.recoverStart x1 x2 x3) := by
  delta State.recoverStart
  refine frame_ite ?_ ?_
  · exact g1.flt (hl .flt (by decide))
  · exact g1.flt (hl .flt (by decide))

theorem State.fltStage_frame {x1} (hl : Covers [.flt] l) (g1 : State.Frame l z x1) :
    State.Frame l z (State.fltStage x1) := by
  delta State.fltStage
  refine frame_ite ?_ ?_
  · exact g1.flt (hl .flt (by decide))
  · exact g1.flt (hl .flt (by decide))

theorem State.clearLatches_frame {x1} (hl : Covers [.regs] l) (g1 : State.Frame l z x1) :
    State.Frame l z (State.clearLatches x1) := by
  delta State.clearLatches
  exact State.clearAttr_frame (hl.sub rfl) (State.clearAttr_frame (hl.sub rfl) g1)

theorem State.fltReset_frame {x1} (hl : Covers [.regs, .flt] l) (g1 : State.Frame l z x1) :
    State.Frame l z (State.fltReset x1) := by
  delta State.fltReset
  extract_lets -merge -underBinder +onlyGivenNames y1
  have h5 : State.Frame l z y1 := by
    subst y1
    refine State.each_frame ?_ ?_
    · exact g1
    · intro x2 x4 h3
      exact State.clearAttr_frame (hl.sub rfl) h3
  try clear_value y1
  exact h5.flt (hl .flt (by decide))

theorem State.streakClear_frame {x1} (hl : Covers [.regs] l) (g1 : State.Frame l z x1) :
    State.Frame l z (State.streakClear x1) := by
  delta State.streakClear
  refine frame_ite ?_ ?_
  · exact State.wr_frame (hl.sub rfl) g1
  · exact g1

theorem State.fltAct_frame {x1} {x2} (hl : Covers [.flt] l) (g1 : State.Frame l z x1) :
    State.Frame l z (State.fltAct x1 x2) := by
  delta State.fltAct
  extract_lets -merge -underBinder +onlyGivenNames y1 y2 y3
  have h4 : State.Frame l z y3 := by subst y3; exact g1.flt (hl .flt (by decide))
  try clear_value y3
  exact State.recoverStart_frame (hl.sub rfl) h4

theorem State.hayForget_frame {x1} {x2} (hl : Covers [.hay] l) (g1 : State.Frame l z x1) :
    State.Frame l z (State.hayForget x1 x2) := by
  delta State.hayForget
  exact g1.hay (hl .hay (by decide))

theorem execClrLatch_frame {x1} {x2} (hl : Covers [.regs] l) (g2 : State.Frame l z x2) :
    State.FrameOut l z (execClrLatch x1 x2) := by
  delta execClrLatch
  refine frame_next ?_
  refine frame_ite ?_ ?_
  · exact State.clearLatches_frame (hl.sub rfl) g2
  · exact g2

theorem State.attribute_frame {x1} {x2} (hl : Covers [.flt] l) (g1 : State.Frame l z x1) :
    State.Frame l z (State.attribute x1 x2) := by
  delta State.attribute
  exact g1.flt (hl .flt (by decide))

theorem State.doPwrSubsysReset_frame {x1} {x2} {x3} (hl : Covers [.spoke, .flt] l) (g1 : State.Frame l z x1) :
    State.Frame l z (State.doPwrSubsysReset x1 x2 x3) := by
  delta State.doPwrSubsysReset
  refine State.checked_frame (hl.sub rfl) ?_ ?_
  · exact g1
  · intro x1 h2
    exact State.recoverStart_frame (hl.sub rfl) h2

theorem execStreakClear_frame {x1} (hl : Covers [.regs] l) (g1 : State.Frame l z x1) :
    State.FrameOut l z (execStreakClear x1) := by
  delta execStreakClear
  exact frame_next (State.streakClear_frame (hl.sub rfl) g1)

theorem State.fltRecord_frame {x1} {x2} (hl : Covers [.regs, .spoke, .hay, .flt] l) (g1 : State.Frame l z x1) :
    State.Frame l z (State.fltRecord x1 x2) := by
  delta State.fltRecord
  extract_lets -merge -underBinder +onlyGivenNames y1 y2 y3
  have h4 : State.Frame l z y3 := by subst y3; exact g1.flt (hl .flt (by decide))
  try clear_value y3
  extract_lets -merge -underBinder +onlyGivenNames y5
  have h6 : State.Frame l z y5 := by subst y5; exact State.count_frame (hl.sub rfl) (State.event_frame (hl.sub rfl) (State.record_frame (hl.sub rfl) h4))
  try clear_value y5
  extract_lets -merge -underBinder +onlyGivenNames y7
  have h10 : State.Frame l z y7 := by
    subst y7
    refine State.when_frame ?_ ?_
    · exact h6
    · intro x8 h9
      exact State.wr_frame (hl.sub rfl) h9
  try clear_value y7
  refine frame_ite ?_ ?_
  · extract_lets -merge -underBinder +onlyGivenNames y11
    have h12 : State.Frame l z y11 := by subst y11; exact State.attribute_frame (hl.sub rfl) h10
    try clear_value y11
    refine frame_ite ?_ ?_
    · exact h12.flt (hl .flt (by decide))
    · exact h12
  · exact h10

theorem State.coreWatch_frame {x1} {x2} (hl : Covers [.regs, .cad, .flt] l) (g1 : State.Frame l z x1) :
    State.Frame l z (State.coreWatch x1 x2) := by
  delta State.coreWatch
  refine frame_ite ?_ ?_
  · refine frame_ite ?_ ?_
    · exact State.hubFault_frame (hl.sub rfl) (g1.cad (hl .cad (by decide)))
    · exact g1
  · refine frame_ite ?_ ?_
    · exact State.hubFault_frame (hl.sub rfl) (g1.cad (hl .cad (by decide)))
    · exact g1

theorem State.limpLeaving_frame {x1} (hl : Covers [.regs] l) (g1 : State.Frame l z x1) :
    State.Frame l z (State.limpLeaving x1) := by
  delta State.limpLeaving
  exact State.wrs_frame (hl.sub rfl) g1

theorem State.fltStep_frame {x1} (hl : Covers [.regs, .spoke, .hay, .flt] l) (g1 : State.Frame l z x1) :
    State.Frame l z (State.fltStep x1) := by
  delta State.fltStep
  extract_lets -merge -underBinder +onlyGivenNames y1
  try clear_value y1
  extract_lets -merge -underBinder +onlyGivenNames y2
  try clear_value y2
  split
  · refine frame_ite ?_ ?_
    · exact g1.flt (hl .flt (by decide))
    · exact State.fltAct_frame (hl.sub rfl) g1
  · split
    · exact State.fltRecord_frame (hl.sub rfl) g1
    · exact g1

theorem State.fltFirstTick_frame {x1} (hl : Covers [.hay] l) (g1 : State.Frame l z x1) :
    State.Frame l z (State.fltFirstTick x1) := by
  delta State.fltFirstTick
  extract_lets -merge -underBinder +onlyGivenNames y1
  have h4 : State.Frame l z y1 := by
    subst y1
    refine State.when_frame ?_ ?_
    · exact g1
    · intro x2 h3
      exact State.record_frame (hl.sub rfl) h3
  try clear_value y1
  extract_lets -merge -underBinder +onlyGivenNames y5
  have h8 : State.Frame l z y5 := by
    subst y5
    refine State.when_frame ?_ ?_
    · exact h4
    · intro x6 h7
      exact State.record_frame (hl.sub rfl) h7
  try clear_value y5
  refine State.when_frame ?_ ?_
  · exact h8
  · intro x9 h10
    exact State.record_frame (hl.sub rfl) h10

theorem State.recoverPost_frame {x1} {x2} {x3} (hl : Covers [.spoke, .flt] l) (g1 : State.Frame l z x1) :
    State.Frame l z (State.recoverPost x1 x2 x3) := by
  delta State.recoverPost
  extract_lets -merge -underBinder +onlyGivenNames y1 y2 y3
  have h7 : State.Frame l z y3 := by
    subst y3
    refine State.each_frame ?_ ?_
    · exact g1
    · intro x4 x6 h5
      exact State.finish_frame (hl.sub rfl) h5
  try clear_value y3
  extract_lets -merge -underBinder +onlyGivenNames y8
  have h12 : State.Frame l z y8 := by
    subst y8
    refine State.each_frame ?_ ?_
    · exact h7
    · intro x9 x11 h10
      exact State.ok_frame (hl.sub rfl) h10
  try clear_value y8
  exact State.modChan_frame (hl.sub rfl) h12

theorem State.fltBoot_frame {x1} (hl : Covers [.regs, .flt] l) (g1 : State.Frame l z x1) :
    State.Frame l z (State.fltBoot x1) := by
  delta State.fltBoot
  extract_lets -merge -underBinder +onlyGivenNames y1 y2 y3
  have h6 : State.Frame l z y3 := by
    subst y3
    refine State.when_frame ?_ ?_
    · exact g1
    · intro x4 h5
      exact State.wr_frame (hl.sub rfl) h5
  try clear_value y3
  extract_lets -merge -underBinder +onlyGivenNames y7 y8 y9
  have h10 : State.Frame l z y9 := by subst y9; exact h6.flt (hl .flt (by decide))
  try clear_value y9
  refine frame_ite ?_ ?_
  · exact State.wrs_frame (hl.sub rfl) h10
  · exact State.wrs_frame (hl.sub rfl) h10

theorem execCoreWatchdog_frame {x1} {x2} (hl : Covers [.regs, .cad, .flt] l) (g2 : State.Frame l z x2) :
    State.FrameOut l z (execCoreWatchdog x1 x2) := by
  delta execCoreWatchdog
  exact frame_next (State.coreWatch_frame (hl.sub rfl) g2)

theorem execPwrSubsysReset_frame {x1} {x2} (hl : Covers [.spoke, .flt] l) (g2 : State.Frame l z x2) :
    State.FrameOut l z (execPwrSubsysReset x1 x2) := by
  delta execPwrSubsysReset
  refine frame_next ?_
  refine State.command_frame (hl.sub rfl) ?_ ?_
  · exact g2
  · intro x1 x3 x4 h2
    exact State.doPwrSubsysReset_frame (hl.sub rfl) h2

theorem State.recoverEnd_frame {x1} {x2} (hl : Covers [.spoke, .hay, .flt] l) (g1 : State.Frame l z x1) :
    State.Frame l z (State.recoverEnd x1 x2) := by
  delta State.recoverEnd
  extract_lets -merge -underBinder +onlyGivenNames y1 y2
  have h3 : State.Frame l z y2 := by subst y2; exact g1.flt (hl .flt (by decide))
  try clear_value y2
  extract_lets -merge -underBinder +onlyGivenNames y4
  have h5 : State.Frame l z y4 := by subst y4; exact State.hayForget_frame (hl.sub rfl) h3
  try clear_value y4
  extract_lets -merge -underBinder +onlyGivenNames y6
  have h10 : State.Frame l z y6 := by
    subst y6
    refine State.each_frame ?_ ?_
    · exact h5
    · intro x7 x9 h8
      exact State.recoverPost_frame (hl.sub rfl) h8
  try clear_value y6
  exact State.record_frame (hl.sub rfl) h10

theorem execRecoveryEnd_frame {x1} {x2} (hl : Covers [.spoke, .hay, .flt] l) (g2 : State.Frame l z x2) :
    State.FrameOut l z (execRecoveryEnd x1 x2) := by
  delta execRecoveryEnd
  refine frame_next ?_
  refine State.each_frame ?_ ?_
  · exact g2
  · intro x1 x3 h2
    exact State.recoverEnd_frame (hl.sub rfl) h2

theorem State.recoverEnds_frame {x1} (hl : Covers [.spoke, .hay, .flt] l) (g1 : State.Frame l z x1) :
    State.Frame l z (State.recoverEnds x1) := by
  delta State.recoverEnds
  refine State.each_frame ?_ ?_
  · exact g1
  · intro x1 x3 h2
    exact State.recoverEnd_frame (hl.sub rfl) h2

theorem State.fltSvc_frame {x1} (hl : Covers [.regs, .spoke, .hay, .flt] l) (g1 : State.Frame l z x1) :
    State.Frame l z (State.fltSvc x1) := by
  delta State.fltSvc
  refine times_frame ?_ ?_
  · intro x1 h2
    exact State.fltStep_frame (hl.sub rfl) h2
  · exact State.recoverEnds_frame (hl.sub rfl) g1

theorem State.resetUnit_frame {x1} {x2} (hl : Covers [.regs, .pwr, .spoke, .adc, .bus, .stb, .dsp, .seg, .flt] l) (g1 : State.Frame l z x1) :
    State.Frame l z (State.resetUnit x1 x2) := by
  delta State.resetUnit
  split
  · exact State.adcReset_frame (hl.sub rfl) g1
  · exact State.portsReset_frame (hl.sub rfl) g1
  · exact State.busUnitReset_frame (hl.sub rfl) g1
  · exact State.busUnitReset_frame (hl.sub rfl) g1
  · exact State.stbUnitReset_frame (hl.sub rfl) g1
  · exact State.dspUnitReset_frame (hl.sub rfl) g1
  · exact State.segUnitReset_frame (hl.sub rfl) g1

theorem State.unitEffect_frame {x1} {x2} (hl : Covers [.regs, .pwr, .spoke, .adc, .bus, .stb, .dsp, .seg, .flt] l) (g1 : State.Frame l z x1) :
    State.Frame l z (State.unitEffect x1 x2) := by
  delta State.unitEffect
  refine frame_ite ?_ ?_
  · exact State.resetUnit_frame (hl.sub rfl) (g1.flt (hl .flt (by decide)))
  · exact g1

theorem State.unitEffects_frame {x1} (hl : Covers [.regs, .pwr, .spoke, .adc, .bus, .stb, .dsp, .seg, .flt] l) (g1 : State.Frame l z x1) :
    State.Frame l z (State.unitEffects x1) := by
  delta State.unitEffects
  refine State.each_frame ?_ ?_
  · exact g1
  · intro x1 x3 h2
    exact State.unitEffect_frame (hl.sub rfl) h2

theorem execSubsysUnitReset_frame {x1} {x2} (hl : Covers [.regs, .pwr, .spoke, .adc, .bus, .stb, .dsp, .seg, .flt] l) (g2 : State.Frame l z x2) :
    State.FrameOut l z (execSubsysUnitReset x1 x2) := by
  delta execSubsysUnitReset
  exact frame_next (State.unitEffect_frame (hl.sub rfl) g2)

/-! ### Thermal -/

theorem State.thmReset_frame {x1} (hl : Covers [.regs, .thm] l) (g1 : State.Frame l z x1) :
    State.Frame l z (State.thmReset x1) := by
  delta State.thmReset
  extract_lets -merge -underBinder +onlyGivenNames y1
  have h5 : State.Frame l z y1 := by
    subst y1
    refine State.each_frame ?_ ?_
    · exact g1
    · intro x2 x4 h3
      exact State.clearAttr_frame (hl.sub rfl) h3
  try clear_value y1
  exact h5.thm (hl .thm (by decide))

theorem State.levelFall_frame {x1} (hl : Covers [.thm] l) (g1 : State.Frame l z x1) :
    State.Frame l z (State.levelFall x1) := by
  delta State.levelFall
  extract_lets -merge -underBinder +onlyGivenNames y1
  refine frame_ite ?_ ?_
  · extract_lets -merge -underBinder +onlyGivenNames y2
    refine frame_ite ?_ ?_
    · exact g1.thm (hl .thm (by decide))
    · exact g1.thm (hl .thm (by decide))
  · exact g1.thm (hl .thm (by decide))

theorem State.thmRead_frame {x1} {x2} (hl : Covers [.regs] l) (g1 : State.Frame l z x1) :
    State.Frame l z (State.thmRead x1 x2) := by
  delta State.thmRead
  extract_lets -merge -underBinder +onlyGivenNames y1
  refine State.wr_frame (hl.sub rfl) ?_
  refine State.each_frame ?_ ?_
  · exact g1
  · intro x2 x4 h3
    exact State.wr_frame (hl.sub rfl) h3

theorem State.thmNote_frame {x1} {x2} {x3} {x4} (hl : Covers [.spoke] l) (g1 : State.Frame l z x1) :
    State.Frame l z (State.thmNote x1 x2 x3 x4) := by
  delta State.thmNote
  exact State.note_frame (hl.sub rfl) g1

theorem State.thmLatch_frame {x1} {x2} (hl : Covers [.regs] l) (g1 : State.Frame l z x1) :
    State.Frame l z (State.thmLatch x1 x2) := by
  delta State.thmLatch
  exact State.wrs_frame (hl.sub rfl) g1

theorem State.thmPeak_frame {x1} {x2} (hl : Covers [.regs] l) (g1 : State.Frame l z x1) :
    State.Frame l z (State.thmPeak x1 x2) := by
  delta State.thmPeak
  refine frame_ite ?_ ?_
  · exact g1
  · exact State.wrs_frame (hl.sub rfl) g1

theorem State.thmLap_frame {x1} (hl : Covers [.regs, .cad, .spoke, .thm, .flt] l) (g1 : State.Frame l z x1) :
    State.Frame l z (State.thmLap x1) := by
  delta State.thmLap
  extract_lets -merge -underBinder +onlyGivenNames y1 y2 y3 y4
  have h5 : State.Frame l z y4 := by subst y4; exact State.wr_frame (hl.sub rfl) g1
  try clear_value y4
  extract_lets -merge -underBinder +onlyGivenNames y6 y7
  have h11 : State.Frame l z y7 := by
    subst y7
    refine State.each_frame ?_ ?_
    · exact h5.thm (hl .thm (by decide))
    · intro x8 x10 h9
      exact State.ok_frame (hl.sub rfl) h9
  try clear_value y7
  refine frame_ite ?_ ?_
  · extract_lets -merge -underBinder +onlyGivenNames y12
    have h13 : State.Frame l z y12 := by subst y12; exact State.wr_frame (hl.sub rfl) h11
    try clear_value y12
    extract_lets -merge -underBinder +onlyGivenNames y14 y15
    have h16 : State.Frame l z y15 := by subst y15; exact h13.thm (hl .thm (by decide))
    try clear_value y15
    refine frame_ite ?_ ?_
    · exact h16
    · exact h16.cad (hl .cad (by decide))
  · exact h11

theorem State.thmCommit_frame {x1} (hl : Covers [.regs, .thm] l) (g1 : State.Frame l z x1) :
    State.Frame l z (State.thmCommit x1) := by
  delta State.thmCommit
  split
  · exact g1
  · extract_lets -merge -underBinder +onlyGivenNames y1
    have h2 : State.Frame l z y1 := by subst y1; exact State.thmLatch_frame (hl.sub rfl) g1
    try clear_value y1
    exact h2.thm (hl .thm (by decide))

theorem State.riseAct_frame {x1} {x2} (hl : Covers [.regs, .spoke, .thm] l) (g1 : State.Frame l z x1) :
    State.Frame l z (State.riseAct x1 x2) := by
  delta State.riseAct
  refine frame_ite ?_ ?_
  · extract_lets -merge -underBinder +onlyGivenNames y1 y2
    have h3 : State.Frame l z y2 := by subst y2; exact State.wr_frame (hl.sub rfl) g1
    try clear_value y2
    extract_lets -merge -underBinder +onlyGivenNames y4 y5
    have h6 : State.Frame l z y5 := by subst y5; exact h3.thm (hl .thm (by decide))
    try clear_value y5
    refine frame_ite ?_ ?_
    · exact h6
    · exact State.thmNote_frame (hl.sub rfl) h6
  · extract_lets -merge -underBinder +onlyGivenNames y7 y8 y9
    have h10 : State.Frame l z y9 := by subst y9; exact g1.thm (hl .thm (by decide))
    try clear_value y9
    refine frame_ite ?_ ?_
    · exact State.wr_frame (hl.sub rfl) h10
    · exact h10

theorem State.prohibit_frame {x1} {x2} {x3} {x4} {x5} (hl : Covers [.regs, .spoke] l) (g1 : State.Frame l z x1) :
    State.Frame l z (State.prohibit x1 x2 x3 x4 x5) := by
  delta State.prohibit
  extract_lets -merge -underBinder +onlyGivenNames y1 y2
  refine frame_ite ?_ ?_
  · exact g1
  · exact State.thmNote_frame (hl.sub rfl) (State.wrB_frame (hl.sub rfl) g1)

theorem State.cutRecord_frame {x1} (hl : Covers [.regs, .thm] l) (g1 : State.Frame l z x1) :
    State.Frame l z (State.cutRecord x1) := by
  delta State.cutRecord
  extract_lets -merge -underBinder +onlyGivenNames y1 y2
  have h3 : State.Frame l z y2 := by subst y2; exact g1.thm (hl .thm (by decide))
  try clear_value y2
  refine frame_ite ?_ ?_
  · exact h3
  · exact State.thmLatch_frame (hl.sub rfl) h3

theorem State.thmHot_frame {x1} (hl : Covers [.regs] l) (g1 : State.Frame l z x1) :
    State.Frame l z (State.thmHot x1) := by
  delta State.thmHot
  split
  · exact State.wr_frame (hl.sub rfl) g1
  · exact State.thmPeak_frame (hl.sub rfl) (State.wrs_frame (hl.sub rfl) g1)

theorem State.ringsTold_frame {x1} (hl : Covers [.regs, .spoke, .thm, .flt] l) (g1 : State.Frame l z x1) :
    State.Frame l z (State.ringsTold x1) := by
  delta State.ringsTold
  extract_lets -merge -underBinder +onlyGivenNames y1 y2
  have h3 : State.Frame l z y2 := by subst y2; exact g1.thm (hl .thm (by decide))
  try clear_value y2
  refine State.each_frame ?_ ?_
  · exact h3
  · intro x4 x6 h5
    refine frame_ite ?_ ?_
    · exact h5
    · exact State.fault_frame (hl.sub rfl) (State.thmNote_frame (hl.sub rfl) (h5.thm (hl .thm (by decide))))

theorem State.enforcedTold_frame {x1} {x2} {x3} (hl : Covers [.regs, .spoke, .flt] l) (g1 : State.Frame l z x1) :
    State.Frame l z (State.enforcedTold x1 x2 x3) := by
  delta State.enforcedTold
  extract_lets -merge -underBinder +onlyGivenNames y1
  refine frame_ite ?_ ?_
  · exact g1
  · extract_lets -merge -underBinder +onlyGivenNames y2 y3
    have h4 : State.Frame l z y3 := by subst y3; exact State.thmNote_frame (hl.sub rfl) g1
    try clear_value y3
    refine frame_ite ?_ ?_
    · exact State.fault_frame (hl.sub rfl) h4
    · exact h4

theorem State.shedRequest_frame {x1} {x2} (hl : Covers [.regs, .spoke, .flt] l) (g1 : State.Frame l z x1) :
    State.Frame l z (State.shedRequest x1 x2) := by
  delta State.shedRequest
  exact State.fault_frame (hl.sub rfl) (State.thmNote_frame (hl.sub rfl) (State.wr_frame (hl.sub rfl) g1))

theorem State.prohibitions_frame {x1} (hl : Covers [.regs, .spoke] l) (g1 : State.Frame l z x1) :
    State.Frame l z (State.prohibitions x1) := by
  delta State.prohibitions
  exact State.prohibit_frame (hl.sub rfl) (State.prohibit_frame (hl.sub rfl) g1)

theorem State.doThmFloor_frame {x1} {x2} {x3} (hl : Covers [.regs, .spoke, .thm, .flt] l) (g1 : State.Frame l z x1) :
    State.Frame l z (State.doThmFloor x1 x2 x3) := by
  delta State.doThmFloor
  refine State.checked_frame (hl.sub rfl) ?_ ?_
  · exact g1
  · intro x1 h2
    extract_lets -merge -underBinder +onlyGivenNames y3 y4
    have h5 : State.Frame l z y4 := by subst y4; exact State.wr_frame (hl.sub rfl) h2
    try clear_value y4
    extract_lets -merge -underBinder +onlyGivenNames y6 y7
    have h8 : State.Frame l z y7 := by subst y7; exact h5.thm (hl .thm (by decide))
    try clear_value y7
    exact State.enforcedTold_frame (hl.sub rfl) h8

theorem State.levelRise_frame {x1} {x2} (hl : Covers [.regs, .spoke, .thm, .flt] l) (g1 : State.Frame l z x1) :
    State.Frame l z (State.levelRise x1 x2) := by
  delta State.levelRise
  extract_lets -merge -underBinder +onlyGivenNames y1 y2 y3
  have h4 : State.Frame l z y3 := by subst y3; exact State.wr_frame (hl.sub rfl) g1
  try clear_value y3
  refine frame_ite ?_ ?_
  · extract_lets -merge -underBinder +onlyGivenNames y5
    have h6 : State.Frame l z y5 := by subst y5; exact State.wr_frame (hl.sub rfl) h4
    try clear_value y5
    exact h6.thm (hl .thm (by decide))
  · refine frame_ite ?_ ?_
    · exact State.wr_frame (hl.sub rfl) h4
    · refine frame_ite ?_ ?_
      · exact State.shedRequest_frame (hl.sub rfl) h4
      · refine frame_ite ?_ ?_
        · extract_lets -merge -underBinder +onlyGivenNames y7
          have h8 : State.Frame l z y7 := by subst y7; exact State.wr_frame (hl.sub rfl) h4
          try clear_value y7
          exact h8.thm (hl .thm (by decide))
        · exact State.wr_frame (hl.sub rfl) h4

theorem State.riseAlarm_frame {x1} {x2} (hl : Covers [.regs, .spoke, .flt] l) (g1 : State.Frame l z x1) :
    State.Frame l z (State.riseAlarm x1 x2) := by
  delta State.riseAlarm
  extract_lets -merge -underBinder +onlyGivenNames y1 y2 y3
  have h4 : State.Frame l z y3 := by subst y3; exact State.wrB_frame (hl.sub rfl) (State.wr_frame (hl.sub rfl) g1)
  try clear_value y3
  refine frame_ite ?_ ?_
  · exact State.fault_frame (hl.sub rfl) (State.thmNote_frame (hl.sub rfl) h4)
  · exact h4

theorem State.noRing_frame {x1} (hl : Covers [.regs, .thm, .flt] l) (g1 : State.Frame l z x1) :
    State.Frame l z (State.noRing x1) := by
  delta State.noRing
  extract_lets -merge -underBinder +onlyGivenNames y1
  have h2 : State.Frame l z y1 := by subst y1; exact State.wrs_frame (hl.sub rfl) g1
  try clear_value y1
  extract_lets -merge -underBinder +onlyGivenNames y3 y4
  have h5 : State.Frame l z y4 := by subst y4; exact h2.thm (hl .thm (by decide))
  try clear_value y4
  refine frame_ite ?_ ?_
  · exact h5
  · exact State.fault_frame (hl.sub rfl) (h5.thm (hl .thm (by decide)))

theorem State.orderlyStop_frame {x1} (hl : Covers [.regs, .pwr, .spoke, .pwm, .act, .dsp, .thm, .flt] l) (g1 : State.Frame l z x1) :
    State.Frame l z (State.orderlyStop x1) := by
  delta State.orderlyStop
  extract_lets -merge -underBinder +onlyGivenNames y1 y2
  have h3 : State.Frame l z y2 := by subst y2; exact State.thmNote_frame (hl.sub rfl) (State.wr_frame (hl.sub rfl) g1)
  try clear_value y2
  extract_lets -merge -underBinder +onlyGivenNames y4 y5
  have h6 : State.Frame l z y5 := by subst y5; exact h3.thm (hl .thm (by decide))
  try clear_value y5
  extract_lets -merge -underBinder +onlyGivenNames y7
  have h8 : State.Frame l z y7 := by subst y7; exact State.orderlyOff_frame (hl.sub rfl) h6
  try clear_value y7
  extract_lets -merge -underBinder +onlyGivenNames y9
  have h15 : State.Frame l z y9 := by
    subst y9
    refine State.each_frame ?_ ?_
    · exact h8
    · intro x10 x12 h11
      refine State.when_frame ?_ ?_
      · exact h11
      · intro x13 h14
        exact State.grpDisable_frame (hl.sub rfl) h14
  try clear_value y9
  extract_lets -merge -underBinder +onlyGivenNames y16
  have h17 : State.Frame l z y16 := by subst y16; exact State.forceEnds_frame (hl.sub rfl) h15
  try clear_value y16
  refine State.each_frame ?_ ?_
  · exact h17
  · intro x18 x20 h19
    exact State.modRamp_frame (hl.sub rfl) (State.wr_frame (hl.sub rfl) h19)

theorem State.thmFirst_frame {x1} {x2} (hl : Covers [.regs, .spoke, .thm] l) (g1 : State.Frame l z x1) :
    State.Frame l z (State.thmFirst x1 x2) := by
  delta State.thmFirst
  exact State.prohibitions_frame (hl.sub rfl) (State.thmHot_frame (hl.sub rfl) (State.thmRead_frame (hl.sub rfl) (g1.thm (hl .thm (by decide)))))

theorem State.stopJudge_frame {x1} (hl : Covers [.regs, .pwr, .spoke, .pwm, .act, .dsp, .thm, .flt] l) (g1 : State.Frame l z x1) :
    State.Frame l z (State.stopJudge x1) := by
  delta State.stopJudge
  refine frame_ite ?_ ?_
  · exact State.orderlyStop_frame (hl.sub rfl) g1
  · exact g1

theorem State.thmLevels_frame {x1} (hl : Covers [.regs, .spoke, .thm, .flt] l) (g1 : State.Frame l z x1) :
    State.Frame l z (State.thmLevels x1) := by
  delta State.thmLevels
  extract_lets -merge -underBinder +onlyGivenNames y1
  refine frame_ite ?_ ?_
  · extract_lets -merge -underBinder +onlyGivenNames y2 y3 y4
    have h5 : State.Frame l z y4 := by subst y4; exact g1.thm (hl .thm (by decide))
    try clear_value y4
    exact State.enforcedTold_frame (hl.sub rfl) (State.levelFall_frame (hl.sub rfl) (State.levelRise_frame (hl.sub rfl) h5))
  · exact State.enforcedTold_frame (hl.sub rfl) (State.noRing_frame (hl.sub rfl) g1)

theorem State.thmEval_frame {x1} (hl : Covers [.regs, .pwr, .spoke, .pwm, .act, .dsp, .thm, .flt] l) (g1 : State.Frame l z x1) :
    State.Frame l z (State.thmEval x1) := by
  delta State.thmEval
  extract_lets -merge -underBinder +onlyGivenNames y1
  have h2 : State.Frame l z y1 := by subst y1; exact State.prohibitions_frame (hl.sub rfl) (State.thmHot_frame (hl.sub rfl) (State.ringsTold_frame (hl.sub rfl) g1))
  try clear_value y1
  extract_lets -merge -underBinder +onlyGivenNames y3 y4
  have h5 : State.Frame l z y4 := by subst y4; exact State.wr_frame (hl.sub rfl) h2
  try clear_value y4
  extract_lets -merge -underBinder +onlyGivenNames y6 y7
  have h8 : State.Frame l z y7 := by subst y7; exact h5.thm (hl .thm (by decide))
  try clear_value y7
  exact State.stopJudge_frame (hl.sub rfl) (State.thmLevels_frame (hl.sub rfl) (State.riseAct_frame (hl.sub rfl) (State.riseAlarm_frame (hl.sub rfl) h8)))

/-! ### Cadence -/

theorem State.setRun_frame {x1} {x2} {x3} (hl : Covers [.cad] l) (g1 : State.Frame l z x1) :
    State.Frame l z (State.setRun x1 x2 x3) := by
  delta State.setRun
  refine frame_ite ?_ ?_
  · exact g1.cad (hl .cad (by decide))
  · exact g1.cad (hl .cad (by decide))

theorem State.debugRunHold_frame {x1} {x2} (hl : Covers [.cad] l) (g1 : State.Frame l z x1) :
    State.Frame l z (State.debugRunHold x1 x2) := by
  delta State.debugRunHold
  exact State.setRun_frame (hl.sub rfl) g1

theorem State.tableLoad_frame {x1} {x2} (hl : Covers [.cad] l) (g1 : State.Frame l z x1) :
    State.Frame l z (State.tableLoad x1 x2) := by
  delta State.tableLoad
  extract_lets -merge -underBinder +onlyGivenNames y1
  exact g1.cad (hl .cad (by decide))

theorem State.cadReset_frame {x1} (hl : Covers [.regs, .cad] l) (g1 : State.Frame l z x1) :
    State.Frame l z (State.cadReset x1) := by
  delta State.cadReset
  extract_lets -merge -underBinder +onlyGivenNames y1
  have h5 : State.Frame l z y1 := by
    subst y1
    refine State.each_frame ?_ ?_
    · exact g1
    · intro x2 x4 h3
      exact State.clearAttr_frame (hl.sub rfl) h3
  try clear_value y1
  exact h5.cad (hl .cad (by decide))

theorem State.debugRunEnd_frame {x1} {x2} (hl : Covers [.cad] l) (g1 : State.Frame l z x1) :
    State.Frame l z (State.debugRunEnd x1 x2) := by
  delta State.debugRunEnd
  exact State.setRun_frame (hl.sub rfl) g1

theorem State.tableSwap_frame {x1} (hl : Covers [.regs, .cad] l) (g1 : State.Frame l z x1) :
    State.Frame l z (State.tableSwap x1) := by
  delta State.tableSwap
  refine frame_ite ?_ ?_
  · extract_lets -merge -underBinder +onlyGivenNames y1 y2
    have h3 : State.Frame l z y2 := by subst y2; exact State.wr_frame (hl.sub rfl) g1
    try clear_value y2
    exact h3.cad (hl .cad (by decide))
  · exact g1

theorem State.dspLapEdge_frame {x1} (hl : Covers [.cad] l) (g1 : State.Frame l z x1) :
    State.Frame l z (State.dspLapEdge x1) := by
  delta State.dspLapEdge
  exact g1.cad (hl .cad (by decide))

theorem State.aonReturn_frame {x1} (hl : Covers [.regs, .cad] l) (g1 : State.Frame l z x1) :
    State.Frame l z (State.aonReturn x1) := by
  delta State.aonReturn
  refine frame_ite ?_ ?_
  · extract_lets -merge -underBinder +onlyGivenNames y1
    have h2 : State.Frame l z y1 := by subst y1; exact State.wr_frame (hl.sub rfl) g1
    try clear_value y1
    exact h2.cad (hl .cad (by decide))
  · exact g1

theorem State.tableReload_frame {x1} (hl : Covers [.regs, .cad] l) (g1 : State.Frame l z x1) :
    State.Frame l z (State.tableReload x1) := by
  delta State.tableReload
  refine frame_ite ?_ ?_
  · extract_lets -merge -underBinder +onlyGivenNames y1
    have h2 : State.Frame l z y1 := by subst y1; exact State.wr_frame (hl.sub rfl) g1
    try clear_value y1
    exact h2.cad (hl .cad (by decide))
  · exact g1

theorem State.dispatch_frame {x1} {x2} {x3} (hl : Covers [.cad] l) (g1 : State.Frame l z x1) :
    State.Frame l z (State.dispatch x1 x2 x3) := by
  delta State.dispatch
  extract_lets -merge -underBinder +onlyGivenNames y1
  refine frame_ite ?_ ?_
  · exact g1
  · extract_lets -merge -underBinder +onlyGivenNames y2 y3
    have h4 : State.Frame l z y3 := by subst y3; exact State.setRun_frame (hl.sub rfl) g1
    try clear_value y3
    refine frame_ite ?_ ?_
    · exact h4
    · refine frame_ite ?_ ?_
      · exact h4.cad (hl .cad (by decide))
      · exact h4.cad (hl .cad (by decide))

theorem State.overrunTold_frame {x1} {x2} {x3} {x4} (hl : Covers [.regs, .cad] l) (g1 : State.Frame l z x1) :
    State.Frame l z (State.overrunTold x1 x2 x3 x4) := by
  delta State.overrunTold
  extract_lets -merge -underBinder +onlyGivenNames y1
  have h2 : State.Frame l z y1 := by subst y1; exact State.count_frame (hl.sub rfl) (State.wr_frame (hl.sub rfl) g1)
  try clear_value y1
  extract_lets -merge -underBinder +onlyGivenNames y3
  refine frame_ite ?_ ?_
  · exact h2.cad (hl .cad (by decide))
  · exact h2

theorem State.runDone_frame {x1} {x2} {x3} (hl : Covers [.regs, .cad] l) (g1 : State.Frame l z x1) :
    State.Frame l z (State.runDone x1 x2 x3) := by
  delta State.runDone
  split
  · exact g1
  · extract_lets -merge -underBinder +onlyGivenNames y1 y2
    have h3 : State.Frame l z y2 := by subst y2; exact State.setRun_frame (hl.sub rfl) g1
    try clear_value y2
    extract_lets -merge -underBinder +onlyGivenNames y4 y5
    have h6 : State.Frame l z y5 := by subst y5; exact h3.cad (hl .cad (by decide))
    try clear_value y5
    extract_lets -merge -underBinder +onlyGivenNames y7 y8 y9
    have h10 : State.Frame l z y9 := by
      subst y9
      refine frame_ite ?_ ?_
      · exact h6.cad (hl .cad (by decide))
      · exact h6.cad (hl .cad (by decide))
    try clear_value y9
    refine frame_ite ?_ ?_
    · exact State.wrs_frame (hl.sub rfl) h10
    · exact h10

theorem State.watchTick_frame {x1} (hl : Covers [.regs, .cad, .flt] l) (g1 : State.Frame l z x1) :
    State.Frame l z (State.watchTick x1) := by
  delta State.watchTick
  extract_lets -merge -underBinder +onlyGivenNames y1 y2 y3 y4 y5
  have h6 : State.Frame l z y5 := by subst y5; exact g1.cad (hl .cad (by decide))
  try clear_value y5
  exact State.coreWatch_frame (hl.sub rfl) (State.coreWatch_frame (hl.sub rfl) h6)

theorem State.overrunFault_frame {x1} {x2} {x3} {x4} {x5} (hl : Covers [.regs, .flt] l) (g1 : State.Frame l z x1) :
    State.Frame l z (State.overrunFault x1 x2 x3 x4 x5) := by
  delta State.overrunFault
  exact State.fault_frame (hl.sub rfl) g1

theorem State.slotEntry_frame {x1} (hl : Covers [.regs, .cad, .flt] l) (g1 : State.Frame l z x1) :
    State.Frame l z (State.slotEntry x1).2 := by
  delta State.slotEntry
  extract_lets -merge -underBinder +onlyGivenNames y1
  refine frame_snd_ite ?_ ?_
  · exact frame_mk_snd g1
  · refine frame_mk_snd ?_
    refine State.fault_frame (hl.sub rfl) ?_
    extract_lets -merge -underBinder +onlyGivenNames y2
    have h3 : State.Frame l z y2 := by subst y2; exact State.wr_frame (hl.sub rfl) g1
    try clear_value y2
    exact h3.cad (hl .cad (by decide))

theorem State.ctlOverrun_frame {s core job} (hl : Covers [.regs, .cad, .spoke, .zones, .flt] l) (h : State.Frame l z s) : State.Frame l z (State.ctlOverrun s core job) := by
  unfold State.ctlOverrun
  extract_lets -merge -underBinder +onlyGivenNames k c y1 y2
  have h1 : State.Frame l z y1 := h.cad (hl .cad (by decide))
  have h2 : State.Frame l z y2 := frame_ite (State.zonSkip_frame (hl.sub rfl) h1) h1
  exact frame_ite (State.hubFault_frame (hl.sub rfl) h2) (State.overrunFault_frame (hl.sub rfl) h2)

theorem State.trimStage_frame {x1} {x2} {x3} (hl : Covers [.regs, .cad, .flt] l) (g1 : State.Frame l z x1) :
    State.Frame l z (State.trimStage x1 x2 x3) := by
  delta State.trimStage
  refine frame_ite ?_ ?_
  · exact State.wr_frame (hl.sub rfl) g1
  · extract_lets -merge -underBinder +onlyGivenNames y1 y2 y3
    have h4 : State.Frame l z y3 := by subst y3; exact State.wrs_frame (hl.sub rfl) g1
    try clear_value y3
    extract_lets -merge -underBinder +onlyGivenNames y5 y6
    have h7 : State.Frame l z y6 := by subst y6; exact h4.cad (hl .cad (by decide))
    try clear_value y6
    refine frame_ite ?_ ?_
    · exact h7
    · exact State.fault_frame (hl.sub rfl) (State.wr_frame (hl.sub rfl) h7)

theorem State.aonLose_frame {x1} (hl : Covers [.regs, .cad, .flt] l) (g1 : State.Frame l z x1) :
    State.Frame l z (State.aonLose x1) := by
  delta State.aonLose
  refine frame_ite ?_ ?_
  · exact g1
  · refine State.fault_frame (hl.sub rfl) ?_
    extract_lets -merge -underBinder +onlyGivenNames y1
    have h2 : State.Frame l z y1 := by subst y1; exact State.wrs_frame (hl.sub rfl) g1
    try clear_value y1
    exact h2.cad (hl .cad (by decide))

theorem State.ioOverrun_frame {x1} {x2} {x3} (hl : Covers [.regs, .cad, .flt] l) (g1 : State.Frame l z x1) :
    State.Frame l z (State.ioOverrun x1 x2 x3) := by
  delta State.ioOverrun
  extract_lets -merge -underBinder +onlyGivenNames y1 y2 y3
  have h4 : State.Frame l z y3 := by subst y3; exact g1.cad (hl .cad (by decide))
  try clear_value y3
  refine frame_ite ?_ ?_
  · exact State.overrunFault_frame (hl.sub rfl) h4
  · exact h4

theorem State.dspOverrun_frame {x1} {x2} (hl : Covers [.regs, .cad, .dsp, .flt] l) (g1 : State.Frame l z x1) :
    State.Frame l z (State.dspOverrun x1 x2) := by
  delta State.dspOverrun
  extract_lets -merge -underBinder +onlyGivenNames y1 y2 y3 y4
  have h5 : State.Frame l z y4 := by subst y4; exact g1.upd (m := [.cad, .dsp]) (hl.sub rfl) fun p hp => by cases p <;> first | exact absurd (by decide) hp | rfl
  try clear_value y4
  refine frame_ite ?_ ?_
  · exact State.overrunFault_frame (hl.sub rfl) (h5.cad (hl .cad (by decide)))
  · exact State.overrunFault_frame (hl.sub rfl) h5

theorem State.overrun_frame {x1} {x2} {x3} {x4} (hl : Covers [.regs, .cad, .spoke, .zones, .adc, .stb, .dsp, .flt] l) (g1 : State.Frame l z x1) :
    State.Frame l z (State.overrun x1 x2 x3 x4) := by
  delta State.overrun
  extract_lets -merge -underBinder +onlyGivenNames y1
  have h2 : State.Frame l z y1 := by subst y1; exact State.overrunTold_frame (hl.sub rfl) g1
  try clear_value y1
  split
  · exact State.overrunFault_frame (hl.sub rfl) (State.adcResLost_frame (hl.sub rfl) h2)
  · exact State.overrunFault_frame (hl.sub rfl) (State.adcResLost_frame (hl.sub rfl) h2)
  · exact State.overrunFault_frame (hl.sub rfl) h2
  · exact State.overrunFault_frame (hl.sub rfl) (State.stbOverrun_frame (hl.sub rfl) h2)
  · split
    · exact State.ctlOverrun_frame (hl.sub rfl) h2
    · exact State.overrunFault_frame (hl.sub rfl) h2
    · exact State.dspOverrun_frame (hl.sub rfl) h2
    · exact State.overrunFault_frame (hl.sub rfl) h2
    · exact State.ioOverrun_frame (hl.sub rfl) h2

theorem State.runEnd_frame {x1} {x2} {x3} (hl : Covers [.regs, .cad, .spoke, .zones, .adc, .stb, .dsp, .flt] l) (g1 : State.Frame l z x1) :
    State.Frame l z (State.runEnd x1 x2 x3) := by
  delta State.runEnd
  split
  · exact g1
  · refine frame_ite ?_ ?_
    · exact State.setRun_frame (hl.sub rfl) g1
    · exact State.overrun_frame (hl.sub rfl) (State.setRun_frame (hl.sub rfl) g1)

theorem State.guardStb_frame {x1} {x2} (hl : Covers [.regs, .cad, .spoke, .zones, .adc, .stb, .dsp, .flt] l) (g1 : State.Frame l z x1) :
    State.Frame l z (State.guardStb x1 x2) := by
  delta State.guardStb
  split
  · exact g1
  · extract_lets -merge -underBinder +onlyGivenNames y1 y2
    have h3 : State.Frame l z y2 := by subst y2; exact g1.cad (hl .cad (by decide))
    try clear_value y2
    refine frame_ite ?_ ?_
    · exact State.overrun_frame (hl.sub rfl) h3
    · exact h3

theorem State.guardAdc_frame {x1} (hl : Covers [.regs, .cad, .spoke, .zones, .adc, .stb, .dsp, .flt] l) (g1 : State.Frame l z x1) :
    State.Frame l z (State.guardAdc x1) := by
  delta State.guardAdc
  split
  · exact g1
  · extract_lets -merge -underBinder +onlyGivenNames y1 y2 y3
    have h4 : State.Frame l z y3 := by subst y3; exact g1.cad (hl .cad (by decide))
    try clear_value y3
    refine frame_ite ?_ ?_
    · exact h4
    · refine State.overrun_frame (hl.sub rfl) ?_
      refine State.each_frame ?_ ?_
      · exact h4
      · intro x5 x7 h6
        exact State.winFire_frame (hl.sub rfl) h6

theorem State.guardCores_frame {x1} {x2} {x3} (hl : Covers [.regs, .cad, .spoke, .zones, .adc, .stb, .dsp, .flt] l) (g1 : State.Frame l z x1) :
    State.Frame l z (State.guardCores x1 x2 x3) := by
  delta State.guardCores
  refine State.each_frame ?_ ?_
  · exact g1
  · intro x1 x3 h2
    refine frame_ite ?_ ?_
    · exact h2
    · exact State.runEnd_frame (hl.sub rfl) h2

/-! ### Wake -/

theorem State.wakeFires_frame {x1} {x2} (hl : Covers [.regs, .pwr] l) (g1 : State.Frame l z x1) :
    State.Frame l z (State.wakeFires x1 x2) := by
  delta State.wakeFires
  refine frame_ite ?_ ?_
  · refine frame_ite ?_ ?_
    · extract_lets -merge -underBinder +onlyGivenNames y1
      have h2 : State.Frame l z y1 := by subst y1; exact State.wr_frame (hl.sub rfl) g1
      try clear_value y1
      exact h2.pwr (hl .pwr (by decide))
    · split
      · extract_lets -merge -underBinder +onlyGivenNames y3
        have h4 : State.Frame l z y3 := by subst y3; exact State.wr_frame (hl.sub rfl) g1
        try clear_value y3
        exact h4.pwr (hl .pwr (by decide))
      · refine frame_ite ?_ ?_
        · extract_lets -merge -underBinder +onlyGivenNames y5
          have h6 : State.Frame l z y5 := by subst y5; exact State.wr_frame (hl.sub rfl) g1
          try clear_value y5
          exact h6.pwr (hl .pwr (by decide))
        · exact g1
  · exact g1

/-! ### Paddock -/

theorem State.padSnapReset_frame {x1} (hl : Covers [.regs] l) (g1 : State.Frame l z x1) :
    State.Frame l z (State.padSnapReset x1) := by
  delta State.padSnapReset
  refine State.each_frame ?_ ?_
  · exact g1
  · intro x1 x3 h2
    exact State.clearAttr_frame (hl.sub rfl) h2

theorem State.padAsk_frame {x1} {x2} {x3} (hl : Covers [.pad] l) (g1 : State.Frame l z x1) :
    State.Frame l z (State.padAsk x1 x2 x3) := by
  delta State.padAsk
  exact g1.pad (hl .pad (by decide))

theorem State.doPadStage_frame {x1} {x2} {x3} (hl : Covers [.spoke, .pad, .flt] l) (g1 : State.Frame l z x1) :
    State.Frame l z (State.doPadStage x1 x2 x3) := by
  delta State.doPadStage
  refine State.checked_frame (hl.sub rfl) ?_ ?_
  · exact g1
  · intro x1 h2
    exact State.padAsk_frame (hl.sub rfl) h2

theorem State.drawChallenge_frame {x1} (hl : Covers [.free] l) (g1 : State.Frame l z x1) :
    State.Frame l z (State.drawChallenge x1).2 := by
  delta State.drawChallenge
  exact frame_mk_snd (State.draw_frame (hl.sub rfl) g1)

theorem State.doPadProof_frame {x1} {x2} {x3} (hl : Covers [.spoke, .pad, .flt] l) (g1 : State.Frame l z x1) :
    State.Frame l z (State.doPadProof x1 x2 x3) := by
  delta State.doPadProof
  refine State.checked_frame (hl.sub rfl) ?_ ?_
  · exact g1
  · intro x1 h2
    exact State.padAsk_frame (hl.sub rfl) h2

theorem State.doPadCancel_frame {x1} {x2} {x3} (hl : Covers [.spoke, .pad, .flt] l) (g1 : State.Frame l z x1) :
    State.Frame l z (State.doPadCancel x1 x2 x3) := by
  delta State.doPadCancel
  refine State.checked_frame (hl.sub rfl) ?_ ?_
  · exact g1
  · intro x1 h2
    exact State.padAsk_frame (hl.sub rfl) h2

theorem State.doPadRestart_frame {x1} {x2} {x3} (hl : Covers [.spoke, .pad, .flt] l) (g1 : State.Frame l z x1) :
    State.Frame l z (State.doPadRestart x1 x2 x3) := by
  delta State.doPadRestart
  refine State.checked_frame (hl.sub rfl) ?_ ?_
  · exact g1
  · intro x1 h2
    exact State.padAsk_frame (hl.sub rfl) h2

theorem State.doPadCommit_frame {x1} {x2} {x3} (hl : Covers [.spoke, .pad, .flt] l) (g1 : State.Frame l z x1) :
    State.Frame l z (State.doPadCommit x1 x2 x3) := by
  delta State.doPadCommit
  refine State.checked_frame (hl.sub rfl) ?_ ?_
  · exact g1
  · intro x1 h2
    exact State.padAsk_frame (hl.sub rfl) h2

theorem State.mixFollow_frame {x1} (hl : Covers [.regs] l) (g1 : State.Frame l z x1) :
    State.Frame l z (State.mixFollow x1) := by
  delta State.mixFollow
  extract_lets -merge -underBinder +onlyGivenNames y1
  exact State.wrs_frame (hl.sub rfl) g1

theorem State.padDo_frame {x1} {x2} (hl : Covers [.regs, .pwr, .pad] l) (g1 : State.Frame l z x1) :
    State.Frame l z (State.padDo x1 x2) := by
  delta State.padDo
  refine frame_ite ?_ ?_
  · exact g1
  · extract_lets -merge -underBinder +onlyGivenNames y1
    refine State.when_frame ?_ ?_
    · exact State.mixFollow_frame (hl.sub rfl) (g1.pad (hl .pad (by decide)))
    · intro x2 h3
      exact State.wakeFires_frame (hl.sub rfl) h3

theorem State.padReport_frame {x1} {x2} (hl : Covers [.regs, .pwr, .spoke, .hay, .sec, .flt] l) (g1 : State.Frame l z x1) :
    State.Frame l z (State.padReport x1 x2) := by
  delta State.padReport
  extract_lets -merge -underBinder +onlyGivenNames y1
  have h2 : State.Frame l z y1 := by
    subst y1
    refine frame_ite ?_ ?_
    · exact g1
    · exact State.note_frame (hl.sub rfl) g1
  try clear_value y1
  refine frame_ite ?_ ?_
  · exact State.hayAsk_frame (hl.sub rfl) h2
  · refine frame_ite ?_ ?_
    · exact h2
    · exact State.fault_frame (hl.sub rfl) h2

theorem State.padXch_frame {x1} (hl : Covers [.regs, .pwr, .spoke, .pad, .hay, .sec, .flt] l) (g1 : State.Frame l z x1) :
    State.Frame l z (State.padXch x1) := by
  delta State.padXch
  extract_lets -merge -underBinder +onlyGivenNames y1 y2 y3
  have h7 : State.Frame l z y3 := by
    subst y3
    refine State.each_frame ?_ ?_
    · exact g1.pad (hl .pad (by decide))
    · intro x4 x6 h5
      refine frame_ite ?_ ?_
      · exact State.accepted_frame (hl.sub rfl) h5
      · exact State.finish_frame (hl.sub rfl) h5
  try clear_value y3
  refine frame_ite ?_ ?_
  · refine frame_ite ?_ ?_
    · exact h7
    · exact State.fault_frame (hl.sub rfl) (h7.pad (hl .pad (by decide)))
  · extract_lets -merge -underBinder +onlyGivenNames y8 y9
    have h10 : State.Frame l z y9 := by subst y9; exact State.count_frame (hl.sub rfl) (State.wrs_frame (hl.sub rfl) h7)
    try clear_value y9
    extract_lets -merge -underBinder +onlyGivenNames y11
    have h12 : State.Frame l z y11 := by subst y11; exact h10.pad (hl .pad (by decide))
    try clear_value y11
    extract_lets -merge -underBinder +onlyGivenNames y13
    have h17 : State.Frame l z y13 := by
      subst y13
      refine State.each_frame ?_ ?_
      · exact h12
      · intro x14 x16 h15
        exact State.padReport_frame (hl.sub rfl) h15
    try clear_value y13
    exact State.padDo_frame (hl.sub rfl) (h17.pad (hl .pad (by decide)))

theorem State.padRound_frame {x1} {x2} (hl : Covers [.regs, .free, .pwr, .pad] l) (g1 : State.Frame l z x1) :
    State.Frame l z (State.padRound x1 x2) := by
  delta State.padRound
  refine frame_ite ?_ ?_
  · exact g1
  · refine frame_ite ?_ ?_
    · extract_lets -merge -underBinder +onlyGivenNames y1
      have h2 : State.Frame l z y1.2 := by subst y1; exact State.drawChallenge_frame (hl.sub rfl) g1
      try clear_value y1
      exact State.padDo_frame (hl.sub rfl) h2
    · exact State.padDo_frame (hl.sub rfl) g1

/-! ### ZoneCommands -/

theorem State.schedSupersede_frame {x1} {x2} {x3} (hl : Covers [.pwr, .spoke, .hay, .flt] l) (g1 : State.Frame l z x1) :
    State.Frame l z (State.schedSupersede x1 x2 x3) := by
  delta State.schedSupersede
  refine State.each_frame ?_ ?_
  · exact g1
  · intro x1 x3 h2
    extract_lets -merge -underBinder +onlyGivenNames y4 y5 y6 y7
    have h11 : State.Frame l z y7 := by
      subst y7
      refine State.each_frame ?_ ?_
      · exact h2
      · intro x8 x10 h9
        exact State.hayDrop_frame (hl.sub rfl) h9
    try clear_value y7
    refine frame_ite ?_ ?_
    · exact h11
    · extract_lets -merge -underBinder +onlyGivenNames y12
      refine frame_ite ?_ ?_
      · exact State.finish_frame (hl.sub rfl) (h11.hay (hl .hay (by decide)))
      · exact h11.hay (hl .hay (by decide))

theorem State.doZonRemoteT_frame {x1} {x2} {x3} (hl : Covers [.spoke, .zones, .flt] l) (g1 : State.Frame l z x1) :
    State.Frame l z (State.doZonRemoteT x1 x2 x3) := by
  delta State.doZonRemoteT
  extract_lets -merge -underBinder +onlyGivenNames y1 y2 y3 y4
  refine State.checked_frame (hl.sub rfl) ?_ ?_
  · exact g1
  · intro x5 h6
    exact State.ok_frame (hl.sub rfl) (State.modZone_frame (hl.sub rfl) h6)

theorem State.doZonWindow_frame {x1} {x2} {x3} (hl : Covers [.spoke, .zones, .flt] l) (g1 : State.Frame l z x1) :
    State.Frame l z (State.doZonWindow x1 x2 x3) := by
  delta State.doZonWindow
  extract_lets -merge -underBinder +onlyGivenNames y1
  refine State.checked_frame (hl.sub rfl) ?_ ?_
  · exact g1
  · intro x2 h3
    exact State.ok_frame (hl.sub rfl) (State.modZone_frame (hl.sub rfl) h3)

theorem execGap_frame {x1} {x2} (hl : Covers [.spoke, .zones] l) (g2 : State.Frame l z x2) :
    State.FrameOut l z (execGap x1 x2) := by
  delta execGap
  exact frame_next (State.zonGap_frame (hl.sub rfl) g2)

theorem execZonWindow_frame {x1} {x2} (hl : Covers [.spoke, .zones, .flt] l) (g2 : State.Frame l z x2) :
    State.FrameOut l z (execZonWindow x1 x2) := by
  delta execZonWindow
  refine frame_next ?_
  refine State.command_frame (hl.sub rfl) ?_ ?_
  · exact g2
  · intro x1 x3 x4 h2
    exact State.doZonWindow_frame (hl.sub rfl) h2

theorem State.doZonSchedRead_frame {x1} {x2} {x3} (hl : Covers [.spoke, .flt] l) (g1 : State.Frame l z x1) :
    State.Frame l z (State.doZonSchedRead x1 x2 x3) := by
  delta State.doZonSchedRead
  extract_lets -merge -underBinder +onlyGivenNames y1 y2
  refine State.checked_frame (hl.sub rfl) ?_ ?_
  · exact g1
  · intro x3 h4
    extract_lets -merge -underBinder +onlyGivenNames y5 y6
    exact State.ok_frame (hl.sub rfl) h4

theorem State.doZonPresence_frame {x1} {x2} {x3} (hl : Covers [.spoke, .zones, .flt] l) (g1 : State.Frame l z x1) :
    State.Frame l z (State.doZonPresence x1 x2 x3) := by
  delta State.doZonPresence
  extract_lets -merge -underBinder +onlyGivenNames y1
  refine State.checked_frame (hl.sub rfl) ?_ ?_
  · exact g1
  · intro x2 h3
    exact State.ok_frame (hl.sub rfl) (State.modZone_frame (hl.sub rfl) h3)

theorem execZonRemoteT_frame {x1} {x2} (hl : Covers [.spoke, .zones, .flt] l) (g2 : State.Frame l z x2) :
    State.FrameOut l z (execZonRemoteT x1 x2) := by
  delta execZonRemoteT
  refine frame_next ?_
  refine State.command_frame (hl.sub rfl) ?_ ?_
  · exact g2
  · intro x1 x3 x4 h2
    exact State.doZonRemoteT_frame (hl.sub rfl) h2

theorem State.doZonLoopReset_frame {x1} {x2} {x3} (hl : Covers [.spoke, .zones, .flt] l) (g1 : State.Frame l z x1) :
    State.Frame l z (State.doZonLoopReset x1 x2 x3) := by
  delta State.doZonLoopReset
  extract_lets -merge -underBinder +onlyGivenNames y1
  refine State.checked_frame (hl.sub rfl) ?_ ?_
  · exact g1
  · intro x2 h3
    exact State.ok_frame (hl.sub rfl) (State.modZone_frame (hl.sub rfl) h3)

theorem execZonPresence_frame {x1} {x2} (hl : Covers [.spoke, .zones, .flt] l) (g2 : State.Frame l z x2) :
    State.FrameOut l z (execZonPresence x1 x2) := by
  delta execZonPresence
  refine frame_next ?_
  refine State.command_frame (hl.sub rfl) ?_ ?_
  · exact g2
  · intro x1 x3 x4 h2
    exact State.doZonPresence_frame (hl.sub rfl) h2

theorem State.doZonHold_frame {x1} {x2} {x3} (hl : Covers [.spoke, .zones, .flt] l) (g1 : State.Frame l z x1) :
    State.Frame l z (State.doZonHold x1 x2 x3) := by
  delta State.doZonHold
  extract_lets -merge -underBinder +onlyGivenNames y1 y2 y3 y4
  refine State.checked_frame (hl.sub rfl) ?_ ?_
  · exact g1
  · intro x5 h6
    exact State.ok_frame (hl.sub rfl) (State.modZone_frame (hl.sub rfl) h6)

theorem State.doZonEvtRead_frame {x1} {x2} {x3} (hl : Covers [.spoke, .zones, .flt] l) (g1 : State.Frame l z x1) :
    State.Frame l z (State.doZonEvtRead x1 x2 x3) := by
  delta State.doZonEvtRead
  extract_lets -merge -underBinder +onlyGivenNames y1 y2
  refine State.checked_frame (hl.sub rfl) ?_ ?_
  · exact g1
  · intro x3 h4
    extract_lets -merge -underBinder +onlyGivenNames y5
    exact State.ok_frame (hl.sub rfl) (State.modZone_frame (hl.sub rfl) h4)

theorem execWindowClose_frame {x1} {x2} (hl : Covers [.regs, .spoke, .zones] l) (g2 : State.Frame l z x2) :
    State.FrameOut l z (execWindowClose x1 x2) := by
  delta execWindowClose
  exact frame_next (State.zonWindowExpire_frame (hl.sub rfl) g2)

theorem execZonHold_frame {x1} {x2} (hl : Covers [.spoke, .zones, .flt] l) (g2 : State.Frame l z x2) :
    State.FrameOut l z (execZonHold x1 x2) := by
  delta execZonHold
  refine frame_next ?_
  refine State.command_frame (hl.sub rfl) ?_ ?_
  · exact g2
  · intro x1 x3 x4 h2
    exact State.doZonHold_frame (hl.sub rfl) h2

theorem execZonSchedRead_frame {x1} {x2} (hl : Covers [.spoke, .flt] l) (g2 : State.Frame l z x2) :
    State.FrameOut l z (execZonSchedRead x1 x2) := by
  delta execZonSchedRead
  refine frame_next ?_
  refine State.command_frame (hl.sub rfl) ?_ ?_
  · exact g2
  · intro x1 x3 x4 h2
    exact State.doZonSchedRead_frame (hl.sub rfl) h2

theorem execSensorLost_frame {x1} {x2} (hl : Covers [.regs, .spoke, .zones, .flt] l) (g2 : State.Frame l z x2) :
    State.FrameOut l z (execSensorLost x1 x2) := by
  delta execSensorLost
  exact frame_next (State.zonSensorLost_frame (hl.sub rfl) g2)

theorem execZonEvtRead_frame {x1} {x2} (hl : Covers [.spoke, .zones, .flt] l) (g2 : State.Frame l z x2) :
    State.FrameOut l z (execZonEvtRead x1 x2) := by
  delta execZonEvtRead
  refine frame_next ?_
  refine State.command_frame (hl.sub rfl) ?_ ?_
  · exact g2
  · intro x1 x3 x4 h2
    exact State.doZonEvtRead_frame (hl.sub rfl) h2

theorem execZonLoopReset_frame {x1} {x2} (hl : Covers [.spoke, .zones, .flt] l) (g2 : State.Frame l z x2) :
    State.FrameOut l z (execZonLoopReset x1 x2) := by
  delta execZonLoopReset
  refine frame_next ?_
  refine State.command_frame (hl.sub rfl) ?_ ?_
  · exact g2
  · intro x1 x3 x4 h2
    exact State.doZonLoopReset_frame (hl.sub rfl) h2

theorem execUnoccupied_frame {x1} {x2} (hl : Covers [.regs, .spoke, .zones] l) (g2 : State.Frame l z x2) :
    State.FrameOut l z (execUnoccupied x1 x2) := by
  delta execUnoccupied
  exact frame_next (State.zonUnoccupied_frame (hl.sub rfl) g2)

theorem State.doZonSave_frame {x1} {x2} {x3} (hl : Covers [.regs, .pwr, .spoke, .hay, .sec, .flt] l) (g1 : State.Frame l z x1) :
    State.Frame l z (State.doZonSave x1 x2 x3) := by
  delta State.doZonSave
  extract_lets -merge -underBinder +onlyGivenNames y1
  refine State.checked_frame (hl.sub rfl) ?_ ?_
  · exact g1
  · intro x2 h3
    exact State.saveObjects_frame (hl.sub rfl) h3

theorem State.doZonSchedWrite_frame {x1} {x2} {x3} (hl : Covers [.regs, .pwr, .spoke, .hay, .sec, .flt] l) (g1 : State.Frame l z x1) :
    State.Frame l z (State.doZonSchedWrite x1 x2 x3) := by
  delta State.doZonSchedWrite
  extract_lets -merge -underBinder +onlyGivenNames y1 y2 y3 y4
  refine State.checked_frame (hl.sub rfl) ?_ ?_
  · exact g1
  · intro x5 h6
    extract_lets -merge -underBinder +onlyGivenNames y7 y8
    have h9 : State.Frame l z y8 := by subst y8; exact State.schedSupersede_frame (hl.sub rfl) (State.accepted_frame (hl.sub rfl) h6)
    try clear_value y8
    extract_lets -merge -underBinder +onlyGivenNames y10 y11
    have h12 : State.Frame l z y11 := by subst y11; exact h9.hay (hl .hay (by decide))
    try clear_value y11
    refine State.each_frame ?_ ?_
    · exact h12
    · intro x13 x15 h14
      refine frame_ite ?_ ?_
      · exact State.hayAsk_frame (hl.sub rfl) h14
      · exact h14

theorem State.zonWrite_frame {x1} {x2} {x3} (hl : Covers [.regs, .spoke, .zones] l) (g1 : State.Frame l z x1) :
    State.Frame l z (State.zonWrite x1 x2 x3) := by
  delta State.zonWrite
  refine frame_ite ?_ ?_
  · exact State.zonHook_frame (hl.sub rfl) (State.setRw_frame (hl.sub rfl) g1)
  · exact g1

theorem execZonSchedWrite_frame {x1} {x2} (hl : Covers [.regs, .pwr, .spoke, .hay, .sec, .flt] l) (g2 : State.Frame l z x2) :
    State.FrameOut l z (execZonSchedWrite x1 x2) := by
  delta execZonSchedWrite
  refine frame_next ?_
  refine State.command_frame (hl.sub rfl) ?_ ?_
  · exact g2
  · intro x1 x3 x4 h2
    exact State.doZonSchedWrite_frame (hl.sub rfl) h2

theorem execZonClockWrite_frame {x1} {x2} (hl : Covers [.regs, .spoke, .zones] l) (g2 : State.Frame l z x2) :
    State.FrameOut l z (execZonClockWrite x1 x2) := by
  delta execZonClockWrite
  exact frame_next (State.zonWrite_frame (hl.sub rfl) g2)

theorem execHoldEnd_frame {x1} {x2} (hl : Covers [.regs, .spoke, .zones] l) (g2 : State.Frame l z x2) :
    State.FrameOut l z (execHoldEnd x1 x2) := by
  delta execHoldEnd
  exact frame_next (State.zonHoldExpire_frame (hl.sub rfl) g2)

theorem execZonEnableWrite_frame {x1} {x2} (hl : Covers [.regs, .spoke, .zones] l) (g2 : State.Frame l z x2) :
    State.FrameOut l z (execZonEnableWrite x1 x2) := by
  delta execZonEnableWrite
  exact frame_next (State.zonWrite_frame (hl.sub rfl) g2)

theorem execZonSave_frame {x1} {x2} (hl : Covers [.regs, .pwr, .spoke, .hay, .sec, .flt] l) (g2 : State.Frame l z x2) :
    State.FrameOut l z (execZonSave x1 x2) := by
  delta execZonSave
  refine frame_next ?_
  refine State.command_frame (hl.sub rfl) ?_ ?_
  · exact g2
  · intro x1 x3 x4 h2
    exact State.doZonSave_frame (hl.sub rfl) h2

theorem execZonSchedDayStored_frame {x1} {x2} {x3} (hl : Covers [.regs, .pwr, .spoke, .zones, .hay, .stb, .sec, .flt] l) (g3 : State.Frame l z x3) :
    State.FrameOut l z (execZonSchedDayStored x1 x2 x3) := by
  delta execZonSchedDayStored
  refine frame_next ?_
  refine State.when_frame ?_ ?_
  · exact g3
  · intro x1 h2
    exact State.hayWriteEnd_frame (hl.sub rfl) h2

/-! ### Reset -/

theorem State.pwrReset_frame {x1} (hl : Covers [.pwr] l) (g1 : State.Frame l z x1) :
    State.Frame l z (State.pwrReset x1) := by
  delta State.pwrReset
  exact g1.pwr (hl .pwr (by decide))

theorem State.sessionsBoot_frame {x1} (hl : Covers [.spoke] l) (g1 : State.Frame l z x1) :
    State.Frame l z (State.sessionsBoot x1) := by
  delta State.sessionsBoot
  extract_lets -merge -underBinder +onlyGivenNames y1
  have h2 : State.Frame l z y1 := by subst y1; exact State.modChan_frame (hl.sub rfl) g1
  try clear_value y1
  exact State.modChan_frame (hl.sub rfl) h2

theorem State.hayInterrupt_frame {x1} (hl : Covers [.free, .hay] l) (g1 : State.Frame l z x1) :
    State.Frame l z (State.hayInterrupt x1) := by
  delta State.hayInterrupt
  split
  · exact g1
  · extract_lets -merge -underBinder +onlyGivenNames y1 y2
    have h3 : State.Frame l z y2 := by subst y2; exact g1.hay (hl .hay (by decide))
    try clear_value y2
    refine frame_ite ?_ ?_
    · exact h3
    · refine frame_ite ?_ ?_
      · extract_lets -merge -underBinder +onlyGivenNames y4
        have h5 : State.Frame l z y4.2 := by subst y4; exact State.draw_frame (hl.sub rfl) h3
        try clear_value y4
        refine frame_ite ?_ ?_
        · exact State.putPage_frame (hl.sub rfl) h5
        · exact h5
      · refine frame_ite ?_ ?_
        · exact h3.hay (hl .hay (by decide))
        · exact h3.hay (hl .hay (by decide))

theorem State.logHead_frame {x1} {x2} (hl : Covers [.hay] l) (g1 : State.Frame l z x1) :
    State.Frame l z (State.logHead x1 x2) := by
  delta State.logHead
  split
  · exact g1
  · extract_lets -merge -underBinder +onlyGivenNames y1
    exact State.modLog_frame (hl.sub rfl) g1

theorem State.spokeReset_frame {x1} (hl : Covers [.spoke, .host, .console] l) (g1 : State.Frame l z x1) :
    State.Frame l z (State.spokeReset x1) := by
  delta State.spokeReset
  exact g1.upd (m := [.spoke, .host, .console]) (hl.sub rfl) fun p hp => by cases p <;> first | exact absurd (by decide) hp | rfl

theorem State.actReset_frame {x1} (hl : Covers [.act] l) (g1 : State.Frame l z x1) :
    State.Frame l z (State.actReset x1) := by
  delta State.actReset
  exact g1.act (hl .act (by decide))

theorem State.zonReset_frame {x1} (hl : Covers [.zones] l) (g1 : State.Frame l z x1) :
    State.Frame l z (State.zonReset x1) := by
  delta State.zonReset
  exact g1.zones (hl .zones (by decide))

theorem State.hayReset_frame {x1} (hl : Covers [.hay] l) (g1 : State.Frame l z x1) :
    State.Frame l z (State.hayReset x1) := by
  delta State.hayReset
  extract_lets -merge -underBinder +onlyGivenNames y1 y2
  exact g1.hay (hl .hay (by decide))

theorem State.dbgClear_frame {x1} (hl : Covers [.dbg] l) (g1 : State.Frame l z x1) :
    State.Frame l z (State.dbgClear x1) := by
  delta State.dbgClear
  exact g1.dbg (hl .dbg (by decide))

theorem State.hayFinish_frame {x1} (hl : Covers [.regs, .hay] l) (g1 : State.Frame l z x1) :
    State.Frame l z (State.hayFinish x1) := by
  delta State.hayFinish
  split
  · exact g1
  · extract_lets -merge -underBinder +onlyGivenNames y1
    have h4 : State.Frame l z y1 := by
      subst y1
      refine times_frame ?_ ?_
      · intro x2 h3
        exact State.hayPhaseEnd_frame (hl.sub rfl) h3
      · exact g1
    try clear_value y1
    extract_lets -merge -underBinder +onlyGivenNames y5 y6
    have h7 : State.Frame l z y6 := by subst y6; exact h4.hay (hl .hay (by decide))
    try clear_value y6
    refine frame_ite ?_ ?_
    · exact h7.hay (hl .hay (by decide))
    · exact h7

theorem State.causeLatch_frame {x1} {x2} (hl : Covers [.regs] l) (g1 : State.Frame l z x1) :
    State.Frame l z (State.causeLatch x1 x2) := by
  delta State.causeLatch
  exact State.wrs_frame (hl.sub rfl) g1

theorem State.restore_frame {x1} {x2} {x3} (hl : Covers [.regs] l) (g1 : State.Frame l z x1) :
    State.Frame l z (State.restore x1 x2 x3) := by
  delta State.restore
  split
  · exact g1
  · exact State.setImage_frame (hl.sub rfl) g1

theorem State.actBoot_frame {x1} (hl : Covers [.regs, .pwr, .act] l) (g1 : State.Frame l z x1) :
    State.Frame l z (State.actBoot x1) := by
  delta State.actBoot
  split
  · exact g1
  · extract_lets -merge -underBinder +onlyGivenNames y1
    have h2 : State.Frame l z y1 := by subst y1; exact State.setImage_frame (hl.sub rfl) g1
    try clear_value y1
    extract_lets -merge -underBinder +onlyGivenNames y3
    have h4 : State.Frame l z y3 := by subst y3; exact State.setImage_frame (hl.sub rfl) h2
    try clear_value y3
    extract_lets -merge -underBinder +onlyGivenNames y5
    have h6 : State.Frame l z y5 := by subst y5; exact State.ksStageImage_frame (hl.sub rfl) h4
    try clear_value y5
    exact h6.act (hl .act (by decide))

theorem State.firstRelease_frame {x1} (hl : Covers [.regs, .pwr, .pwm, .act, .flt] l) (g1 : State.Frame l z x1) :
    State.Frame l z (State.firstRelease x1) := by
  delta State.firstRelease
  extract_lets -merge -underBinder +onlyGivenNames y1
  have h4 : State.Frame l z y1 := by
    subst y1
    refine State.when_frame ?_ ?_
    · exact g1
    · intro x2 h3
      exact State.fault_frame (hl.sub rfl) (h3.pwr (hl .pwr (by decide)))
  try clear_value y1
  exact State.forceOff_frame (hl.sub rfl) h4

theorem State.recall_frame {x1} (hl : Covers [.regs, .hay] l) (g1 : State.Frame l z x1) :
    State.Frame l z (State.recall x1) := by
  delta State.recall
  extract_lets -merge -underBinder +onlyGivenNames y1
  have h2 : State.Frame l z y1 := by subst y1; exact State.wr_frame (hl.sub rfl) (State.hayFinish_frame (hl.sub rfl) g1)
  try clear_value y1
  extract_lets -merge -underBinder +onlyGivenNames y3
  have h7 : State.Frame l z y3 := by
    subst y3
    refine State.each_frame ?_ ?_
    · exact h2
    · intro x4 x6 h5
      exact State.logHead_frame (hl.sub rfl) h5
  try clear_value y3
  split
  · exact h7
  · exact State.wrs_frame (hl.sub rfl) h7

theorem State.zoneBoot_frame {x1} {x2} (hl : Covers [.regs, .zones] l) (g1 : State.Frame l z x1) :
    State.Frame l z (State.zoneBoot x1 x2) := by
  delta State.zoneBoot
  extract_lets -merge -underBinder +onlyGivenNames y1
  have h2 : State.Frame l z y1 := by subst y1; exact State.restore_frame (hl.sub rfl) g1
  try clear_value y1
  extract_lets -merge -underBinder +onlyGivenNames y3 y4
  have h5 : State.Frame l z y4 := by subst y4; exact State.modZone_frame (hl.sub rfl) h2
  try clear_value y4
  extract_lets -merge -underBinder +onlyGivenNames y6 y7 y8
  refine frame_ite ?_ ?_
  · exact State.modZone_frame (hl.sub rfl) (State.zonEnable_frame (hl.sub rfl) (State.wr_frame (hl.sub rfl) h5))
  · exact h5

theorem State.firstOdometers_frame {x1} (hl : Covers [.regs, .pwr, .spoke, .hay, .sec, .flt] l) (g1 : State.Frame l z x1) :
    State.Frame l z (State.firstOdometers x1) := by
  delta State.firstOdometers
  extract_lets -merge -underBinder +onlyGivenNames y1
  have h2 : State.Frame l z y1 := by subst y1; exact State.hayAsk_frame (hl.sub rfl) g1
  try clear_value y1
  extract_lets -merge -underBinder +onlyGivenNames y3 y4
  have h5 : State.Frame l z y4 := by
    subst y4
    refine frame_ite ?_ ?_
    · exact State.hayAsk_frame (hl.sub rfl) (h2.hay (hl .hay (by decide)))
    · exact h2
  try clear_value y4
  refine frame_ite ?_ ?_
  · exact State.hayAsk_frame (hl.sub rfl) (State.record_frame (hl.sub rfl) h5)
  · exact h5

theorem State.brokenTold_frame {x1} (hl : Covers [.regs, .flt] l) (g1 : State.Frame l z x1) :
    State.Frame l z (State.brokenTold x1) := by
  delta State.brokenTold
  extract_lets -merge -underBinder +onlyGivenNames y1
  have h5 : State.Frame l z y1 := by
    subst y1
    refine State.each_frame ?_ ?_
    · exact g1
    · intro x2 x4 h3
      exact State.fault_frame (hl.sub rfl) h3
  try clear_value y1
  refine State.each_frame ?_ ?_
  · exact h5
  · intro x6 x8 h7
    exact State.fault_frame (hl.sub rfl) h7

theorem State.resetLost_frame {x1} {x2} (hl : Covers [.regs, .spoke, .hay, .flt] l) (g1 : State.Frame l z x1) :
    State.Frame l z (State.resetLost x1 x2) := by
  delta State.resetLost
  extract_lets -merge -underBinder +onlyGivenNames y1 y2
  refine frame_ite ?_ ?_
  · exact State.overflow_frame (hl.sub rfl) (State.modLog_frame (hl.sub rfl) g1)
  · exact g1

theorem State.causeJoin_frame {x1} {x2} (hl : Covers [.regs] l) (g1 : State.Frame l z x1) :
    State.Frame l z (State.causeJoin x1 x2) := by
  delta State.causeJoin
  refine frame_ite ?_ ?_
  · exact State.causeLatch_frame (hl.sub rfl) g1
  · exact g1

theorem State.restoreAll_frame {x1} (hl : Covers [.regs, .pwr, .zones, .act] l) (g1 : State.Frame l z x1) :
    State.Frame l z (State.restoreAll x1) := by
  delta State.restoreAll
  extract_lets -merge -underBinder +onlyGivenNames y1
  have h2 : State.Frame l z y1 := by subst y1; exact State.restore_frame (hl.sub rfl) (State.restore_frame (hl.sub rfl) g1)
  try clear_value y1
  extract_lets -merge -underBinder +onlyGivenNames y3
  have h7 : State.Frame l z y3 := by
    subst y3
    refine State.each_frame ?_ ?_
    · exact State.restore_frame (hl.sub rfl) h2
    · intro x4 x6 h5
      exact State.zoneBoot_frame (hl.sub rfl) h5
  try clear_value y3
  exact State.restore_frame (hl.sub rfl) (State.restore_frame (hl.sub rfl) (State.actBoot_frame (hl.sub rfl) h7))

theorem State.recallTold_frame {x1} (hl : Covers [.regs, .pwr, .spoke, .hay, .sec, .flt] l) (g1 : State.Frame l z x1) :
    State.Frame l z (State.recallTold x1) := by
  delta State.recallTold
  extract_lets -merge -underBinder +onlyGivenNames y1
  have h2 : State.Frame l z y1 := by
    subst y1
    split
    · exact g1
    · exact State.fault_frame (hl.sub rfl) (State.hayNote_frame (hl.sub rfl) (State.record_frame (hl.sub rfl) (g1.hay (hl .hay (by decide)))))
  try clear_value y1
  refine State.each_frame ?_ ?_
  · exact h2
  · intro x3 x5 h4
    exact State.hayAsk_frame (hl.sub rfl) h4

theorem State.bootRun_frame {x1} {x2} {x3} (hl : Covers [.regs, .cad, .pwr, .spoke, .host, .zones, .pwm, .act, .hay, .stb, .thm, .sec, .flt, .dbg] l) (g1 : State.Frame l z x1) :
    State.Frame l z (State.bootRun x1 x2 x3) := by
  delta State.bootRun
  extract_lets -merge -underBinder +onlyGivenNames y1 y2 y3 y4 y5
  have h6 : State.Frame l z y5 := by subst y5; exact g1.upd (m := [.cad, .host, .pwm, .dbg]) (hl.sub rfl) fun p hp => by cases p <;> first | exact absurd (by decide) hp | rfl
  try clear_value y5
  extract_lets -merge -underBinder +onlyGivenNames y7
  have h8 : State.Frame l z y7 := by subst y7; exact State.stbBoot_frame (hl.sub rfl) (State.restoreAll_frame (hl.sub rfl) (State.fltBoot_frame (hl.sub rfl) (State.secBoot_frame (hl.sub rfl) (State.recall_frame (hl.sub rfl) h6))))
  try clear_value y7
  extract_lets -merge -underBinder +onlyGivenNames y9
  have h10 : State.Frame l z y9 := by subst y9; exact State.tableLoad_frame (hl.sub rfl) h8
  try clear_value y9
  extract_lets -merge -underBinder +onlyGivenNames y11
  have h12 : State.Frame l z y11 := by subst y11; exact State.thmFirst_frame (hl.sub rfl) (State.wrB_frame (hl.sub rfl) h10)
  try clear_value y11
  exact h12.pwr (hl .pwr (by decide))

theorem State.portsBoot_frame {x1} (hl : Covers [.regs, .spoke, .bus, .flt] l) (g1 : State.Frame l z x1) :
    State.Frame l z (State.portsBoot x1) := by
  delta State.portsBoot
  extract_lets -merge -underBinder +onlyGivenNames y1
  have h2 : State.Frame l z y1 := by subst y1; exact State.busBoot_frame (hl.sub rfl) g1
  try clear_value y1
  refine frame_ite ?_ ?_
  · exact State.busStopAll_frame (hl.sub rfl) h2
  · exact h2

theorem State.domainReset_frame {x1} {x2} (hl : Covers [.regs, .free, .cad, .pwr, .spoke, .host, .console, .zones, .pwm, .act, .adc, .pad, .bus, .hay, .stb, .dsp, .seg, .thm, .sec, .flt, .dbg] l) (g1 : State.Frame l z x1) :
    State.Frame l z (State.domainReset x1 x2) := by
  delta State.domainReset
  extract_lets -merge -underBinder +onlyGivenNames y1 y2
  have h3 : State.Frame l z y2 := by subst y2; exact State.forceOn_frame (hl.sub rfl) (g1.pwr (hl .pwr (by decide)))
  try clear_value y2
  extract_lets -merge -underBinder +onlyGivenNames y4
  have h5 : State.Frame l z y4 := by subst y4; exact State.padDo_frame (hl.sub rfl) h3
  try clear_value y4
  extract_lets -merge -underBinder +onlyGivenNames y6
  have h7 : State.Frame l z y6 := by subst y6; exact State.cadReset_frame (hl.sub rfl) (State.fltReset_frame (hl.sub rfl) (State.secReset_frame (hl.sub rfl) (State.thmReset_frame (hl.sub rfl) (State.stbReset_frame (hl.sub rfl) (State.segReset_frame (hl.sub rfl) (State.dspReset_frame (hl.sub rfl) h5))))))
  try clear_value y6
  extract_lets -merge -underBinder +onlyGivenNames y8
  have h9 : State.Frame l z y8 := by subst y8; exact State.pwrReset_frame (hl.sub rfl) (State.dbgClear_frame (hl.sub rfl) (State.actReset_frame (hl.sub rfl) (State.zonReset_frame (hl.sub rfl) (State.spokeReset_frame (hl.sub rfl) (State.hayReset_frame (hl.sub rfl) h7)))))
  try clear_value y8
  extract_lets -merge -underBinder +onlyGivenNames y10 y11
  have h12 : State.Frame l z y11 := by subst y11; exact h9.upd (m := [.regs, .pwm, .adc, .pad, .bus]) (hl.sub rfl) fun p hp => by cases p <;> first | exact absurd (by decide) hp | rfl
  try clear_value y11
  exact State.wrs_frame (hl.sub rfl) h12

theorem State.boot_frame {x1} {x2} {x3} (hl : Covers [.regs, .cad, .pwr, .spoke, .host, .zones, .pwm, .act, .hay, .stb, .thm, .sec, .flt, .dbg] l) (g1 : State.Frame l z x1) :
    State.Frame l z (State.boot x1 x2 x3) := by
  delta State.boot
  refine frame_ite ?_ ?_
  · exact State.bootRun_frame (hl.sub rfl) g1
  · exact g1

theorem State.hubReset_frame {x1} {x2} (hl : Covers [.regs, .free, .cad, .pwr, .spoke, .host, .console, .zones, .pwm, .act, .adc, .pad, .bus, .hay, .stb, .dsp, .seg, .thm, .sec, .flt, .dbg] l) (g1 : State.Frame l z x1) :
    State.Frame l z (State.hubReset x1 x2) := by
  delta State.hubReset
  refine frame_ite ?_ ?_
  · exact State.causeJoin_frame (hl.sub rfl) g1
  · exact State.domainReset_frame (hl.sub rfl) (State.causeLatch_frame (hl.sub rfl) (State.wr_frame (hl.sub rfl) g1))

theorem State.groupsBoot_frame {x1} (hl : Covers [.regs, .spoke, .pwm, .act] l) (g1 : State.Frame l z x1) :
    State.Frame l z (State.groupsBoot x1) := by
  delta State.groupsBoot
  extract_lets -merge -underBinder +onlyGivenNames y1
  refine State.each_frame ?_ ?_
  · exact g1.act (hl .act (by decide))
  · intro x2 x4 h3
    exact State.grpEnable_frame (hl.sub rfl) h3

theorem State.firstTickRun_frame {x1} {x2} (hl : Covers [.regs, .free, .cad, .pwr, .spoke, .pwm, .act, .bus, .hay, .stb, .sec, .flt] l) (g1 : State.Frame l z x1) :
    State.Frame l z (State.firstTickRun x1 x2) := by
  delta State.firstTickRun
  extract_lets -merge -underBinder +onlyGivenNames y1 y2 y3
  have h4 : State.Frame l z y3 := by subst y3; exact g1.upd (m := [.cad, .pwr]) (hl.sub rfl) fun p hp => by cases p <;> first | exact absurd (by decide) hp | rfl
  try clear_value y3
  extract_lets -merge -underBinder +onlyGivenNames y5
  have h9 : State.Frame l z y5 := by
    subst y5
    refine State.each_frame ?_ ?_
    · exact h4
    · intro x6 x8 h7
      exact State.gaugeSample_frame (hl.sub rfl) h7
  try clear_value y5
  extract_lets -merge -underBinder +onlyGivenNames y10
  have h13 : State.Frame l z y10 := by
    subst y10
    refine State.when_frame ?_ ?_
    · exact State.sessionsBoot_frame (hl.sub rfl) h9
    · intro x11 h12
      exact State.aonLose_frame (hl.sub rfl) h12
  try clear_value y10
  extract_lets -merge -underBinder +onlyGivenNames y14
  have h18 : State.Frame l z y14 := by
    subst y14
    refine State.recallTold_frame (hl.sub rfl) ?_
    refine State.each_frame ?_ ?_
    · exact h13
    · intro x15 x17 h16
      exact State.resetLost_frame (hl.sub rfl) h16
  try clear_value y14
  extract_lets -merge -underBinder +onlyGivenNames y19
  have h20 : State.Frame l z y19 := by subst y19; exact State.record_frame (hl.sub rfl) h18
  try clear_value y19
  extract_lets -merge -underBinder +onlyGivenNames y21
  have h22 : State.Frame l z y21 := by subst y21; exact State.stbBoot_frame (hl.sub rfl) (State.brokenTold_frame (hl.sub rfl) (State.secFirstTick_frame (hl.sub rfl) (State.fltFirstTick_frame (hl.sub rfl) (State.firstOdometers_frame (hl.sub rfl) h20))))
  try clear_value y21
  exact State.portsBoot_frame (hl.sub rfl) (State.groupsBoot_frame (hl.sub rfl) (State.firstRelease_frame (hl.sub rfl) h22))

end Sys2Proof.Machine
end

