-- ==== Sys2Proof/Laws/Frame7.lean ====
section
/-!
SUPPORT. Sys2Proof/Laws/Frame7.lean: the operations of Power, PowerCommands, HayloftCommands, AttrAccess, BusCommands, Debug and the parts
of the state they can change.
-/

namespace Sys2Proof.Machine

variable {l : List Part} {z : State}

/-! ### Power -/

theorem State.aonPass_frame {x1} {x2} (hl : Covers [.cad] l) (g1 : State.Frame l z x1) :
    State.Frame l z (State.aonPass x1 x2) := by
  delta State.aonPass
  refine frame_ite ?_ ?_
  · exact g1.cad (hl .cad (by decide))
  · exact g1

theorem State.tapReset_frame {x1} (hl : Covers [.dbg] l) (g1 : State.Frame l z x1) :
    State.Frame l z (State.tapReset x1) := by
  delta State.tapReset
  exact g1.dbg (hl .dbg (by decide))

theorem State.ksCommit_frame {x1} (hl : Covers [.regs, .pwr] l) (g1 : State.Frame l z x1) :
    State.Frame l z (State.ksCommit x1) := by
  delta State.ksCommit
  split
  · exact g1
  · extract_lets -merge -underBinder +onlyGivenNames y1
    have h2 : State.Frame l z y1 := by subst y1; exact State.wr_frame (hl.sub rfl) g1
    try clear_value y1
    extract_lets -merge -underBinder +onlyGivenNames y3 y4
    have h5 : State.Frame l z y4 := by subst y4; exact h2.pwr (hl .pwr (by decide))
    try clear_value y4
    refine frame_ite ?_ ?_
    · exact h5
    · refine State.each_frame ?_ ?_
      · exact h5
      · intro x6 x8 h7
        exact State.wr_frame (hl.sub rfl) h7

theorem State.pfiRelease_frame {x1} (hl : Covers [.regs, .pwr] l) (g1 : State.Frame l z x1) :
    State.Frame l z (State.pfiRelease x1) := by
  delta State.pfiRelease
  refine frame_ite ?_ ?_
  · extract_lets -merge -underBinder +onlyGivenNames y1
    have h2 : State.Frame l z y1 := by subst y1; exact State.wr_frame (hl.sub rfl) g1
    try clear_value y1
    extract_lets -merge -underBinder +onlyGivenNames y3 y4
    have h5 : State.Frame l z y4 := by subst y4; exact h2.pwr (hl .pwr (by decide))
    try clear_value y4
    refine frame_ite ?_ ?_
    · exact State.wakeFires_frame (hl.sub rfl) h5
    · exact h5
  · exact g1

theorem State.railsGood_frame {x1} {x2} (hl : Covers [.pwr, .seg, .dbg] l) (g1 : State.Frame l z x1) :
    State.Frame l z (State.railsGood x1 x2) := by
  delta State.railsGood
  refine frame_ite ?_ ?_
  · exact g1
  · extract_lets -merge -underBinder +onlyGivenNames y1 y2 y3
    have h4 : State.Frame l z y3 := by subst y3; exact g1.pwr (hl .pwr (by decide))
    try clear_value y3
    refine frame_ite ?_ ?_
    · refine State.segMainsBack_frame (hl.sub rfl) ?_
      extract_lets -merge -underBinder +onlyGivenNames y5
      have h6 : State.Frame l z y5 := by subst y5; exact State.tapReset_frame (hl.sub rfl) h4
      try clear_value y5
      exact h6.dbg (hl .dbg (by decide))
    · exact h4

theorem State.wake_frame {x1} {x2} {x3} (hl : Covers [.regs, .cad, .pwr] l) (g1 : State.Frame l z x1) :
    State.Frame l z (State.wake x1 x2 x3) := by
  delta State.wake
  extract_lets -merge -underBinder +onlyGivenNames y1
  have h2 : State.Frame l z y1 := by subst y1; exact State.aonPass_frame (hl.sub rfl) g1
  try clear_value y1
  refine frame_ite ?_ ?_
  · exact h2
  · extract_lets -merge -underBinder +onlyGivenNames y3
    have h4 : State.Frame l z y3 := by subst y3; exact State.wakeFires_frame (hl.sub rfl) h2
    try clear_value y3
    refine frame_ite ?_ ?_
    · extract_lets -merge -underBinder +onlyGivenNames y5 y6
      have h7 : State.Frame l z y6 := by subst y6; exact h4.pwr (hl .pwr (by decide))
      try clear_value y6
      refine frame_ite ?_ ?_
      · exact State.causeLatch_frame (hl.sub rfl) h7
      · exact h7
    · exact h4

theorem State.sequencerWatchdog_frame {x1} (hl : Covers [.regs, .flt] l) (g1 : State.Frame l z x1) :
    State.Frame l z (State.sequencerWatchdog x1) := by
  delta State.sequencerWatchdog
  exact State.hubFault_frame (hl.sub rfl) g1

theorem State.runEntry_frame {x1} (hl : Covers [.regs, .cad, .pwr, .dsp, .thm] l) (g1 : State.Frame l z x1) :
    State.Frame l z (State.runEntry x1) := by
  delta State.runEntry
  refine frame_ite ?_ ?_
  · extract_lets -merge -underBinder +onlyGivenNames y1 y2
    have h3 : State.Frame l z y2 := by subst y2; exact State.wrs_frame (hl.sub rfl) g1
    try clear_value y2
    extract_lets -merge -underBinder +onlyGivenNames y4 y5 y6 y7
    have h8 : State.Frame l z y7 := by subst y7; exact h3.upd (m := [.cad, .pwr, .thm]) (hl.sub rfl) fun p hp => by cases p <;> first | exact absurd (by decide) hp | rfl
    try clear_value y7
    exact State.panelFreewheel_frame (hl.sub rfl) (State.stbOn_frame (hl.sub rfl) h8)
  · exact g1

theorem State.quiesceFw2_frame {x1} (hl : Covers [.regs, .pwr] l) (g1 : State.Frame l z x1) :
    State.Frame l z (State.quiesceFw2 x1) := by
  delta State.quiesceFw2
  extract_lets -merge -underBinder +onlyGivenNames y1
  have h2 : State.Frame l z y1 := by subst y1; exact State.wrs_frame (hl.sub rfl) g1
  try clear_value y1
  extract_lets -merge -underBinder +onlyGivenNames y3 y4
  have h5 : State.Frame l z y4 := by subst y4; exact h2.pwr (hl .pwr (by decide))
  try clear_value y4
  refine frame_ite ?_ ?_
  · exact State.wakeFires_frame (hl.sub rfl) h5
  · exact h5

theorem State.doPwrSetMode_frame {x1} {x2} {x3} (hl : Covers [.pwr, .spoke, .flt] l) (g1 : State.Frame l z x1) :
    State.Frame l z (State.doPwrSetMode x1 x2 x3) := by
  delta State.doPwrSetMode
  refine State.checked_frame (hl.sub rfl) ?_ ?_
  · exact g1
  · intro x1 h2
    extract_lets -merge -underBinder +onlyGivenNames y3
    have h4 : State.Frame l z y3 := by subst y3; exact State.ok_frame (hl.sub rfl) h2
    try clear_value y3
    exact h4.pwr (hl .pwr (by decide))

theorem State.fw2PwmStop_frame {x1} (hl : Covers [.regs, .pwr, .spoke, .pwm, .act, .flt] l) (g1 : State.Frame l z x1) :
    State.Frame l z (State.fw2PwmStop x1) := by
  delta State.fw2PwmStop
  refine frame_ite ?_ ?_
  · extract_lets -merge -underBinder +onlyGivenNames y1
    have h2 : State.Frame l z y1 := by subst y1; exact State.forceOn_frame (hl.sub rfl) (State.pwmStop_frame (hl.sub rfl) g1)
    try clear_value y1
    exact h2.pwr (hl .pwr (by decide))
  · exact g1

theorem State.fw2Entry_frame {x1} (hl : Covers [.regs, .free, .pwr, .spoke, .stb, .dsp, .flt] l) (g1 : State.Frame l z x1) :
    State.Frame l z (State.fw2Entry x1) := by
  delta State.fw2Entry
  refine frame_ite ?_ ?_
  · extract_lets -merge -underBinder +onlyGivenNames y1
    have h2 : State.Frame l z y1 := by subst y1; exact State.wr_frame (hl.sub rfl) g1
    try clear_value y1
    extract_lets -merge -underBinder +onlyGivenNames y3 y4
    have h5 : State.Frame l z y4 := by subst y4; exact h2.pwr (hl .pwr (by decide))
    try clear_value y4
    exact State.orderlyOff_frame (hl.sub rfl) (State.stbOff_frame (hl.sub rfl) h5)
  · exact g1

theorem State.fw1Entry_frame {x1} (hl : Covers [.regs, .free, .cad, .pwr, .spoke, .stb, .dsp, .thm, .flt] l) (g1 : State.Frame l z x1) :
    State.Frame l z (State.fw1Entry x1) := by
  delta State.fw1Entry
  refine frame_ite ?_ ?_
  · extract_lets -merge -underBinder +onlyGivenNames y1
    have h2 : State.Frame l z y1 := by subst y1; exact State.wr_frame (hl.sub rfl) g1
    try clear_value y1
    extract_lets -merge -underBinder +onlyGivenNames y3 y4 y5 y6
    have h7 : State.Frame l z y6 := by subst y6; exact h2.upd (m := [.cad, .pwr, .thm]) (hl.sub rfl) fun p hp => by cases p <;> first | exact absurd (by decide) hp | rfl
    try clear_value y6
    exact State.panelFreewheel_frame (hl.sub rfl) (State.stbOff_frame (hl.sub rfl) h7)
  · exact g1

theorem State.pfRecord_frame {x1} (hl : Covers [.regs, .pwr, .spoke, .hay, .sec, .flt] l) (g1 : State.Frame l z x1) :
    State.Frame l z (State.pfRecord x1) := by
  delta State.pfRecord
  extract_lets -merge -underBinder +onlyGivenNames y1 y2
  have h3 : State.Frame l z y2 := by subst y2; exact State.modLog_frame (hl.sub rfl) g1
  try clear_value y2
  exact State.hayAsk_frame (hl.sub rfl) h3

theorem State.fw2ClockStop_frame {x1} (hl : Covers [.regs, .cad, .pwr, .spoke, .adc, .bus, .dsp, .flt] l) (g1 : State.Frame l z x1) :
    State.Frame l z (State.fw2ClockStop x1) := by
  delta State.fw2ClockStop
  refine frame_ite ?_ ?_
  · extract_lets -merge -underBinder +onlyGivenNames y1 y2 y3
    have h4 : State.Frame l z y3 := by subst y3; exact g1.upd (m := [.cad, .pwr]) (hl.sub rfl) fun p hp => by cases p <;> first | exact absurd (by decide) hp | rfl
    try clear_value y3
    extract_lets -merge -underBinder +onlyGivenNames y5
    have h6 : State.Frame l z y5 := by subst y5; exact State.frameLose_frame (hl.sub rfl) (State.busStopAll_frame (hl.sub rfl) h4)
    try clear_value y5
    extract_lets -merge -underBinder +onlyGivenNames y7 y8
    have h9 : State.Frame l z y8 := by subst y8; exact h6.adc (hl .adc (by decide))
    try clear_value y8
    refine State.each_frame ?_ ?_
    · exact h9
    · intro x10 x12 h11
      exact State.wr_frame (hl.sub rfl) h11
  · exact g1

theorem State.standbyEntry_frame {x1} (hl : Covers [.regs, .free, .cad, .pwr, .spoke, .host, .console, .zones, .pwm, .act, .adc, .pad, .bus, .hay, .stb, .dsp, .seg, .thm, .sec, .flt, .dbg] l) (g1 : State.Frame l z x1) :
    State.Frame l z (State.standbyEntry x1) := by
  delta State.standbyEntry
  refine frame_ite ?_ ?_
  · extract_lets -merge -underBinder +onlyGivenNames y1
    have h2 : State.Frame l z y1 := by subst y1; exact State.orderlyOff_frame (hl.sub rfl) g1
    try clear_value y1
    refine frame_ite ?_ ?_
    · extract_lets -merge -underBinder +onlyGivenNames y3
      have h4 : State.Frame l z y3 := by subst y3; exact State.causeLatch_frame (hl.sub rfl) (State.wr_frame (hl.sub rfl) h2)
      try clear_value y3
      extract_lets -merge -underBinder +onlyGivenNames y5
      have h6 : State.Frame l z y5 := by subst y5; exact State.domainReset_frame (hl.sub rfl) (State.segStandby_frame (hl.sub rfl) h4)
      try clear_value y5
      exact h6.upd (m := [.cad, .pwr]) (hl.sub rfl) fun p hp => by cases p <;> first | exact absurd (by decide) hp | rfl
    · exact h2
  · exact g1

theorem State.quiesce_frame {x1} (hl : Covers [.regs, .free, .pwr, .spoke, .pwm, .act, .bus, .stb, .flt] l) (g1 : State.Frame l z x1) :
    State.Frame l z (State.quiesce x1) := by
  delta State.quiesce
  refine frame_ite ?_ ?_
  · exact g1
  · extract_lets -merge -underBinder +onlyGivenNames y1 y2
    have h3 : State.Frame l z y2 := by subst y2; exact State.stbOff_frame (hl.sub rfl) (State.busStopAll_frame (hl.sub rfl) (State.pwmStop_frame (hl.sub rfl) (State.forceOn_frame (hl.sub rfl) (g1.pwr (hl .pwr (by decide))))))
    try clear_value y2
    refine frame_ite ?_ ?_
    · exact State.quiesceFw2_frame (hl.sub rfl) h3
    · exact h3

theorem State.gatesClose_frame {x1} (hl : Covers [.regs, .pwr, .spoke, .act, .hay, .sec, .flt] l) (g1 : State.Frame l z x1) :
    State.Frame l z (State.gatesClose x1) := by
  delta State.gatesClose
  refine State.hayFailAll_frame (hl.sub rfl) ?_
  refine State.each_frame ?_ ?_
  · exact State.burnWithdraw_frame (hl.sub rfl) g1
  · intro x1 x3 h2
    exact State.reversalFail_frame (hl.sub rfl) h2

theorem State.escTimeouts_frame {x1} (hl : Covers [.regs, .pwr, .spoke, .act, .hay, .dsp, .sec, .flt] l) (g1 : State.Frame l z x1) :
    State.Frame l z (State.escTimeouts x1) := by
  delta State.escTimeouts
  extract_lets -merge -underBinder +onlyGivenNames y1
  have h2 : State.Frame l z y1 := by subst y1; exact State.hayFailAll_frame (hl.sub rfl) g1
  try clear_value y1
  extract_lets -merge -underBinder +onlyGivenNames y3
  have h6 : State.Frame l z y3 := by
    subst y3
    refine State.when_frame ?_ ?_
    · exact h2
    · intro x4 h5
      exact State.burnWithdraw_frame (hl.sub rfl) h5
  try clear_value y3
  extract_lets -merge -underBinder +onlyGivenNames y7
  have h11 : State.Frame l z y7 := by
    subst y7
    refine State.each_frame ?_ ?_
    · exact h6
    · intro x8 x10 h9
      exact State.reversalFail_frame (hl.sub rfl) h9
  try clear_value y7
  refine State.when_frame ?_ ?_
  · exact h11
  · intro x12 h13
    exact State.abruptOff_frame (hl.sub rfl) h13

theorem State.pfStart_frame {x1} (hl : Covers [.regs, .pwr, .spoke, .hay, .dsp, .flt] l) (g1 : State.Frame l z x1) :
    State.Frame l z (State.pfStart x1) := by
  delta State.pfStart
  refine frame_ite ?_ ?_
  · extract_lets -merge -underBinder +onlyGivenNames y1
    have h2 : State.Frame l z y1 := by subst y1; exact State.wr_frame (hl.sub rfl) g1
    try clear_value y1
    extract_lets -merge -underBinder +onlyGivenNames y3 y4 y5
    have h6 : State.Frame l z y5 := by subst y5; exact h2.upd (m := [.pwr, .hay]) (hl.sub rfl) fun p hp => by cases p <;> first | exact absurd (by decide) hp | rfl
    try clear_value y5
    exact State.event_frame (hl.sub rfl) (State.abruptOff_frame (hl.sub rfl) h6)
  · exact g1

theorem State.modeEntry_frame {x1} (hl : Covers [.regs, .free, .cad, .pwr, .spoke, .host, .console, .zones, .pwm, .act, .adc, .pad, .bus, .hay, .stb, .dsp, .seg, .thm, .sec, .flt, .dbg] l) (g1 : State.Frame l z x1) :
    State.Frame l z (State.modeEntry x1) := by
  delta State.modeEntry
  refine frame_ite ?_ ?_
  · split
    · refine frame_ite ?_ ?_
      · exact State.runEntry_frame (hl.sub rfl) g1
      · exact g1.pwr (hl .pwr (by decide))
    · refine frame_ite ?_ ?_
      · exact State.fw1Entry_frame (hl.sub rfl) g1
      · exact g1.pwr (hl .pwr (by decide))
    · exact State.fw2Entry_frame (hl.sub rfl) g1
    · exact State.standbyEntry_frame (hl.sub rfl) g1
  · exact g1

theorem State.cutTrip_frame {x1} (hl : Covers [.regs, .free, .cad, .pwr, .spoke, .host, .console, .zones, .pwm, .act, .adc, .pad, .bus, .hay, .stb, .dsp, .seg, .thm, .sec, .flt, .dbg] l) (g1 : State.Frame l z x1) :
    State.Frame l z (State.cutTrip x1) := by
  delta State.cutTrip
  refine frame_ite ?_ ?_
  · exact g1
  · exact State.hubReset_frame (hl.sub rfl) (State.cutRecord_frame (hl.sub rfl) g1)

theorem State.railFall_frame {x1} {x2} (hl : Covers [.regs, .free, .cad, .pwr, .spoke, .host, .console, .zones, .pwm, .act, .adc, .pad, .bus, .hay, .stb, .dsp, .seg, .thm, .sec, .flt, .dbg] l) (g1 : State.Frame l z x1) :
    State.Frame l z (State.railFall x1 x2) := by
  delta State.railFall
  extract_lets -merge -underBinder +onlyGivenNames y1 y2
  have h3 : State.Frame l z y2 := by subst y2; exact g1.pwr (hl .pwr (by decide))
  try clear_value y2
  refine frame_ite ?_ ?_
  · exact h3
  · extract_lets -merge -underBinder +onlyGivenNames y4
    have h5 : State.Frame l z y4 := by
      subst y4
      refine frame_ite ?_ ?_
      · exact h3
      · exact State.hayInterrupt_frame (hl.sub rfl) h3
    try clear_value y4
    extract_lets -merge -underBinder +onlyGivenNames y6
    have h7 : State.Frame l z y6 := by subst y6; exact State.segMainsLost_frame (hl.sub rfl) h5
    try clear_value y6
    refine frame_ite ?_ ?_
    · exact h7
    · exact State.hubReset_frame (hl.sub rfl) h7

theorem State.hubFaultReset_frame {x1} (hl : Covers [.regs, .free, .cad, .pwr, .spoke, .host, .console, .zones, .pwm, .act, .adc, .pad, .bus, .hay, .stb, .dsp, .seg, .thm, .sec, .flt, .dbg] l) (g1 : State.Frame l z x1) :
    State.Frame l z (State.hubFaultReset x1) := by
  delta State.hubFaultReset
  split
  · exact g1
  · exact State.hubReset_frame (hl.sub rfl) g1

theorem State.thermStop_frame {x1} (hl : Covers [.regs, .free, .cad, .pwr, .spoke, .host, .console, .zones, .pwm, .act, .adc, .pad, .bus, .hay, .stb, .dsp, .seg, .thm, .sec, .flt, .dbg] l) (g1 : State.Frame l z x1) :
    State.Frame l z (State.thermStop x1) := by
  delta State.thermStop
  refine frame_ite ?_ ?_
  · exact State.hubReset_frame (hl.sub rfl) g1
  · exact g1

theorem State.pfPrepare_frame {x1} (hl : Covers [.regs, .pwr, .spoke, .act, .hay, .sec, .flt, .dbg] l) (g1 : State.Frame l z x1) :
    State.Frame l z (State.pfPrepare x1) := by
  delta State.pfPrepare
  extract_lets -merge -underBinder +onlyGivenNames y1 y2
  have h3 : State.Frame l z y2 := by subst y2; exact g1.pwr (hl .pwr (by decide))
  try clear_value y2
  extract_lets -merge -underBinder +onlyGivenNames y4 y5
  have h6 : State.Frame l z y5 := by subst y5; exact h3.dbg (hl .dbg (by decide))
  try clear_value y5
  exact State.pfRecord_frame (hl.sub rfl) (State.gatesClose_frame (hl.sub rfl) h6)

theorem State.pfi_frame {x1} (hl : Covers [.regs, .pwr, .spoke, .act, .hay, .sec, .flt, .dbg] l) (g1 : State.Frame l z x1) :
    State.Frame l z (State.pfi x1) := by
  delta State.pfi
  refine frame_ite ?_ ?_
  · exact g1
  · extract_lets -merge -underBinder +onlyGivenNames y1
    have h2 : State.Frame l z y1 := by subst y1; exact State.wr_frame (hl.sub rfl) g1
    try clear_value y1
    extract_lets -merge -underBinder +onlyGivenNames y3 y4
    have h5 : State.Frame l z y4 := by subst y4; exact h2.pwr (hl .pwr (by decide))
    try clear_value y4
    refine frame_ite ?_ ?_
    · exact h5.pwr (hl .pwr (by decide))
    · refine frame_ite ?_ ?_
      · exact h5
      · exact State.pfPrepare_frame (hl.sub rfl) h5

theorem State.limpHoldExpire_frame {x1} (hl : Covers [.regs, .free, .cad, .pwr, .spoke, .host, .console, .zones, .pwm, .act, .adc, .pad, .bus, .hay, .stb, .dsp, .seg, .thm, .sec, .flt, .dbg] l) (g1 : State.Frame l z x1) :
    State.Frame l z (State.limpHoldExpire x1) := by
  delta State.limpHoldExpire
  refine frame_ite ?_ ?_
  · exact State.hubReset_frame (hl.sub rfl) (State.limpLeaving_frame (hl.sub rfl) g1)
  · exact g1

theorem State.aonPowerUp_frame {x1} (hl : Covers [.regs, .free, .cad, .pwr, .spoke, .host, .console, .zones, .pwm, .act, .adc, .pad, .bus, .hay, .stb, .dsp, .seg, .thm, .sec, .flt, .dbg] l) (g1 : State.Frame l z x1) :
    State.Frame l z (State.aonPowerUp x1) := by
  delta State.aonPowerUp
  extract_lets -merge -underBinder +onlyGivenNames y1 y2
  have h3 : State.Frame l z y2 := by subst y2; exact g1.pwr (hl .pwr (by decide))
  try clear_value y2
  extract_lets -merge -underBinder +onlyGivenNames y4
  have h5 : State.Frame l z y4 := by subst y4; exact State.hubReset_frame (hl.sub rfl) h3
  try clear_value y4
  extract_lets -merge -underBinder +onlyGivenNames y6
  have h10 : State.Frame l z y6 := by
    subst y6
    refine State.segPowerUp_frame (hl.sub rfl) ?_
    refine State.each_frame ?_ ?_
    · exact h5
    · intro x7 x9 h8
      exact State.clearAttr_frame (hl.sub rfl) h8
  try clear_value y6
  extract_lets -merge -underBinder +onlyGivenNames y11
  have h15 : State.Frame l z y11 := by
    subst y11
    refine State.each_frame ?_ ?_
    · exact h10
    · intro x12 x14 h13
      exact State.modLog_frame (hl.sub rfl) h13
  try clear_value y11
  exact h15.upd (m := [.cad, .pwr, .zones, .thm, .sec]) (hl.sub rfl) fun p hp => by cases p <;> first | exact absurd (by decide) hp | rfl

theorem State.pfEnd_frame {x1} (hl : Covers [.regs, .free, .cad, .pwr, .spoke, .host, .console, .zones, .pwm, .act, .adc, .pad, .bus, .hay, .stb, .dsp, .seg, .thm, .sec, .flt, .dbg] l) (g1 : State.Frame l z x1) :
    State.Frame l z (State.pfEnd x1) := by
  delta State.pfEnd
  refine frame_ite ?_ ?_
  · exact State.hubReset_frame (hl.sub rfl) g1
  · exact g1

theorem State.hubFaultEdge_frame {x1} (hl : Covers [.regs, .free, .cad, .pwr, .spoke, .host, .console, .zones, .pwm, .act, .adc, .pad, .bus, .hay, .stb, .dsp, .seg, .thm, .sec, .flt, .dbg] l) (g1 : State.Frame l z x1) :
    State.Frame l z (State.hubFaultEdge x1) := by
  delta State.hubFaultEdge
  refine frame_ite ?_ ?_
  · refine frame_ite ?_ ?_
    · exact State.hubFaultReset_frame (hl.sub rfl) g1
    · exact g1.flt (hl .flt (by decide))
  · exact g1

theorem State.pfTick_frame {x1} (hl : Covers [.regs, .free, .cad, .pwr, .spoke, .host, .console, .zones, .pwm, .act, .adc, .pad, .bus, .hay, .stb, .dsp, .seg, .thm, .sec, .flt, .dbg] l) (g1 : State.Frame l z x1) :
    State.Frame l z (State.pfTick x1) := by
  delta State.pfTick
  refine frame_ite ?_ ?_
  · extract_lets -merge -underBinder +onlyGivenNames y1 y2 y3
    have h4 : State.Frame l z y3 := by subst y3; exact g1.pwr (hl .pwr (by decide))
    try clear_value y3
    refine frame_ite ?_ ?_
    · exact State.pfEnd_frame (hl.sub rfl) (State.quiesce_frame (hl.sub rfl) h4)
    · exact h4
  · exact State.pfEnd_frame (hl.sub rfl) g1

theorem State.fw2Resume_frame {x1} {x2} {x3} (hl : Covers [.regs, .cad, .pwr, .spoke, .pwm, .act, .adc, .hay, .thm, .sec, .flt, .dbg] l) (g1 : State.Frame l z x1) :
    State.Frame l z (State.fw2Resume x1 x2 x3) := by
  delta State.fw2Resume
  refine frame_ite ?_ ?_
  · extract_lets -merge -underBinder +onlyGivenNames y1 y2 y3 y4 y5 y6
    have h7 : State.Frame l z y6 := by subst y6; exact g1.upd (m := [.cad, .pwr, .adc]) (hl.sub rfl) fun p hp => by cases p <;> first | exact absurd (by decide) hp | rfl
    try clear_value y6
    extract_lets -merge -underBinder +onlyGivenNames y8
    have h9 : State.Frame l z y8 := by subst y8; exact State.stbOn_frame (hl.sub rfl) (State.thmFirst_frame (hl.sub rfl) (State.wrs_frame (hl.sub rfl) h7))
    try clear_value y8
    extract_lets -merge -underBinder +onlyGivenNames y10 y11
    have h12 : State.Frame l z y11 := by subst y11; exact State.forceOff_frame (hl.sub rfl) (State.forceOff_frame (hl.sub rfl) (State.pwmRestart_frame (hl.sub rfl) (h9.thm (hl .thm (by decide)))))
    try clear_value y11
    extract_lets -merge -underBinder +onlyGivenNames y13 y14 y15
    have h19 : State.Frame l z y15 := by
      subst y15
      refine State.each_frame ?_ ?_
      · exact h12.pwr (hl .pwr (by decide))
      · intro x16 x18 h17
        exact State.grpEnable_frame (hl.sub rfl) h17
    try clear_value y15
    refine frame_ite ?_ ?_
    · exact State.pfPrepare_frame (hl.sub rfl) h19
    · exact h19
  · exact g1

/-! ### PowerCommands -/

theorem execPfiRelease_frame {x1} (hl : Covers [.regs, .pwr] l) (g1 : State.Frame l z x1) :
    State.FrameOut l z (execPfiRelease x1) := by
  delta execPfiRelease
  exact frame_next (State.pfiRelease_frame (hl.sub rfl) g1)

theorem execAonRetentionLoss_frame {x1} (hl : Covers [.pwr] l) (g1 : State.Frame l z x1) :
    State.FrameOut l z (execAonRetentionLoss x1) := by
  delta execAonRetentionLoss
  exact frame_next (g1.pwr (hl .pwr (by decide)))

theorem execChargeResume_frame {x1} (hl : Covers [.pwr] l) (g1 : State.Frame l z x1) :
    State.FrameOut l z (execChargeResume x1) := by
  delta execChargeResume
  exact frame_next (g1.pwr (hl .pwr (by decide)))

theorem execChargeStop_frame {x1} (hl : Covers [.pwr] l) (g1 : State.Frame l z x1) :
    State.FrameOut l z (execChargeStop x1) := by
  delta execChargeStop
  refine frame_next ?_
  refine frame_ite ?_ ?_
  · exact g1
  · exact g1.pwr (hl .pwr (by decide))

theorem execKickstandCommit_frame {x1} (hl : Covers [.regs, .pwr] l) (g1 : State.Frame l z x1) :
    State.FrameOut l z (execKickstandCommit x1) := by
  delta execKickstandCommit
  exact frame_next (State.ksCommit_frame (hl.sub rfl) g1)

theorem execAonResync_frame {x1} (hl : Covers [.regs, .cad] l) (g1 : State.Frame l z x1) :
    State.FrameOut l z (execAonResync x1) := by
  delta execAonResync
  exact frame_next (State.aonReturn_frame (hl.sub rfl) g1)

theorem execBootContinue_frame {x1} (hl : Covers [.pwr] l) (g1 : State.Frame l z x1) :
    State.FrameOut l z (execBootContinue x1) := by
  delta execBootContinue
  refine frame_next ?_
  refine frame_ite ?_ ?_
  · exact g1
  · exact g1.pwr (hl .pwr (by decide))

theorem execPwrSetMode_frame {x1} {x2} (hl : Covers [.pwr, .spoke, .flt] l) (g2 : State.Frame l z x2) :
    State.FrameOut l z (execPwrSetMode x1 x2) := by
  delta execPwrSetMode
  refine frame_next ?_
  refine State.command_frame (hl.sub rfl) ?_ ?_
  · exact g2
  · intro x1 x3 x4 h2
    exact State.doPwrSetMode_frame (hl.sub rfl) h2

theorem execMainRailsGood_frame {x1} {x2} (hl : Covers [.pwr, .seg, .dbg] l) (g2 : State.Frame l z x2) :
    State.FrameOut l z (execMainRailsGood x1 x2) := by
  delta execMainRailsGood
  exact frame_next (State.railsGood_frame (hl.sub rfl) g2)

theorem execSequencerWatchdog_frame {x1} (hl : Covers [.regs, .flt] l) (g1 : State.Frame l z x1) :
    State.FrameOut l z (execSequencerWatchdog x1) := by
  delta execSequencerWatchdog
  exact frame_next (State.sequencerWatchdog_frame (hl.sub rfl) g1)

theorem execWake_frame {x1} {x2} {x3} (hl : Covers [.regs, .cad, .pwr] l) (g3 : State.Frame l z x3) :
    State.FrameOut l z (execWake x1 x2 x3) := by
  delta execWake
  exact frame_next (State.wake_frame (hl.sub rfl) g3)

theorem execFreewheel1Entry_frame {x1} (hl : Covers [.regs, .free, .cad, .pwr, .spoke, .stb, .dsp, .thm, .flt] l) (g1 : State.Frame l z x1) :
    State.FrameOut l z (execFreewheel1Entry x1) := by
  delta execFreewheel1Entry
  exact frame_next (State.fw1Entry_frame (hl.sub rfl) g1)

theorem execFreewheel2Entry_frame {x1} (hl : Covers [.regs, .free, .pwr, .spoke, .stb, .dsp, .flt] l) (g1 : State.Frame l z x1) :
    State.FrameOut l z (execFreewheel2Entry x1) := by
  delta execFreewheel2Entry
  exact frame_next (State.fw2Entry_frame (hl.sub rfl) g1)

theorem execAonLost_frame {x1} (hl : Covers [.regs, .cad, .flt] l) (g1 : State.Frame l z x1) :
    State.FrameOut l z (execAonLost x1) := by
  delta execAonLost
  exact frame_next (State.aonLose_frame (hl.sub rfl) g1)

theorem execFw2PwmClockStop_frame {x1} (hl : Covers [.regs, .pwr, .spoke, .pwm, .act, .flt] l) (g1 : State.Frame l z x1) :
    State.FrameOut l z (execFw2PwmClockStop x1) := by
  delta execFw2PwmClockStop
  exact frame_next (State.fw2PwmStop_frame (hl.sub rfl) g1)

theorem execQuiesce_frame {x1} (hl : Covers [.regs, .free, .pwr, .spoke, .pwm, .act, .bus, .stb, .flt] l) (g1 : State.Frame l z x1) :
    State.FrameOut l z (execQuiesce x1) := by
  delta execQuiesce
  refine frame_next ?_
  refine frame_ite ?_ ?_
  · exact State.quiesce_frame (hl.sub rfl) g1
  · exact g1

theorem execPowerFailSequenceStart_frame {x1} (hl : Covers [.regs, .pwr, .spoke, .hay, .dsp, .flt] l) (g1 : State.Frame l z x1) :
    State.FrameOut l z (execPowerFailSequenceStart x1) := by
  delta execPowerFailSequenceStart
  exact frame_next (State.pfStart_frame (hl.sub rfl) g1)

theorem execEscrowTimeout_frame {x1} (hl : Covers [.regs, .pwr, .spoke, .act, .hay, .dsp, .sec, .flt] l) (g1 : State.Frame l z x1) :
    State.FrameOut l z (execEscrowTimeout x1) := by
  delta execEscrowTimeout
  exact frame_next (State.escTimeouts_frame (hl.sub rfl) g1)

theorem execBoot_frame {x1} {x2} {x3} (hl : Covers [.regs, .cad, .pwr, .spoke, .host, .zones, .pwm, .act, .hay, .stb, .thm, .sec, .flt, .dbg] l) (g3 : State.Frame l z x3) :
    State.FrameOut l z (execBoot x1 x2 x3) := by
  delta execBoot
  exact frame_next (State.boot_frame (hl.sub rfl) g3)

theorem execStandbyEntry_frame {x1} (hl : Covers [.regs, .free, .cad, .pwr, .spoke, .host, .console, .zones, .pwm, .act, .adc, .pad, .bus, .hay, .stb, .dsp, .seg, .thm, .sec, .flt, .dbg] l) (g1 : State.Frame l z x1) :
    State.FrameOut l z (execStandbyEntry x1) := by
  delta execStandbyEntry
  exact frame_next (State.standbyEntry_frame (hl.sub rfl) g1)

theorem execFw2ClockStop_frame {x1} (hl : Covers [.regs, .cad, .pwr, .spoke, .adc, .bus, .dsp, .flt] l) (g1 : State.Frame l z x1) :
    State.FrameOut l z (execFw2ClockStop x1) := by
  delta execFw2ClockStop
  exact frame_next (State.fw2ClockStop_frame (hl.sub rfl) g1)

theorem State.limpExit_frame {x1} (hl : Covers [.regs, .free, .cad, .pwr, .spoke, .host, .console, .zones, .pwm, .act, .adc, .pad, .bus, .hay, .stb, .dsp, .seg, .thm, .sec, .flt, .dbg] l) (g1 : State.Frame l z x1) :
    State.Frame l z (State.limpExit x1) := by
  delta State.limpExit
  exact State.hubReset_frame (hl.sub rfl) (State.limpLeaving_frame (hl.sub rfl) g1)

theorem execHubFaultReset_frame {x1} (hl : Covers [.regs, .free, .cad, .pwr, .spoke, .host, .console, .zones, .pwm, .act, .adc, .pad, .bus, .hay, .stb, .dsp, .seg, .thm, .sec, .flt, .dbg] l) (g1 : State.Frame l z x1) :
    State.FrameOut l z (execHubFaultReset x1) := by
  delta execHubFaultReset
  exact frame_next (State.hubFaultReset_frame (hl.sub rfl) g1)

theorem execLimpHoldExpire_frame {x1} (hl : Covers [.regs, .free, .cad, .pwr, .spoke, .host, .console, .zones, .pwm, .act, .adc, .pad, .bus, .hay, .stb, .dsp, .seg, .thm, .sec, .flt, .dbg] l) (g1 : State.Frame l z x1) :
    State.FrameOut l z (execLimpHoldExpire x1) := by
  delta execLimpHoldExpire
  exact frame_next (State.limpHoldExpire_frame (hl.sub rfl) g1)

theorem execPfEnd_frame {x1} (hl : Covers [.regs, .free, .cad, .pwr, .spoke, .host, .console, .zones, .pwm, .act, .adc, .pad, .bus, .hay, .stb, .dsp, .seg, .thm, .sec, .flt, .dbg] l) (g1 : State.Frame l z x1) :
    State.FrameOut l z (execPfEnd x1) := by
  delta execPfEnd
  exact frame_next (State.pfEnd_frame (hl.sub rfl) g1)

theorem execAonPowerUp_frame {x1} (hl : Covers [.regs, .free, .cad, .pwr, .spoke, .host, .console, .zones, .pwm, .act, .adc, .pad, .bus, .hay, .stb, .dsp, .seg, .thm, .sec, .flt, .dbg] l) (g1 : State.Frame l z x1) :
    State.FrameOut l z (execAonPowerUp x1) := by
  delta execAonPowerUp
  exact frame_next (State.aonPowerUp_frame (hl.sub rfl) g1)

theorem State.limpEnter_frame {x1} (hl : Covers [.regs, .free, .cad, .pwr, .spoke, .host, .console, .zones, .pwm, .act, .adc, .pad, .bus, .hay, .stb, .dsp, .seg, .thm, .sec, .flt, .dbg] l) (g1 : State.Frame l z x1) :
    State.Frame l z (State.limpEnter x1) := by
  delta State.limpEnter
  exact State.hubReset_frame (hl.sub rfl) (State.wr_frame (hl.sub rfl) g1)

theorem execHubResetAssert_frame {x1} {x2} (hl : Covers [.regs, .free, .cad, .pwr, .spoke, .host, .console, .zones, .pwm, .act, .adc, .pad, .bus, .hay, .stb, .dsp, .seg, .thm, .sec, .flt, .dbg] l) (g2 : State.Frame l z x2) :
    State.FrameOut l z (execHubResetAssert x1 x2) := by
  delta execHubResetAssert
  refine frame_next ?_
  refine frame_ite ?_ ?_
  · exact State.hubReset_frame (hl.sub rfl) g2
  · exact g2

theorem execHubRstnQualified_frame {x1} (hl : Covers [.regs, .free, .cad, .pwr, .spoke, .host, .console, .zones, .pwm, .act, .adc, .pad, .bus, .hay, .stb, .dsp, .seg, .thm, .sec, .flt, .dbg] l) (g1 : State.Frame l z x1) :
    State.FrameOut l z (execHubRstnQualified x1) := by
  delta execHubRstnQualified
  exact frame_next (State.hubReset_frame (hl.sub rfl) g1)

theorem execLimpExit_frame {x1} {x2} (hl : Covers [.regs, .free, .cad, .pwr, .spoke, .host, .console, .zones, .pwm, .act, .adc, .pad, .bus, .hay, .stb, .dsp, .seg, .thm, .sec, .flt, .dbg] l) (g2 : State.Frame l z x2) :
    State.FrameOut l z (execLimpExit x1 x2) := by
  delta execLimpExit
  refine frame_next ?_
  refine frame_ite ?_ ?_
  · exact State.limpExit_frame (hl.sub rfl) g2
  · exact g2

theorem execMainRailFall_frame {x1} {x2} (hl : Covers [.regs, .free, .cad, .pwr, .spoke, .host, .console, .zones, .pwm, .act, .adc, .pad, .bus, .hay, .stb, .dsp, .seg, .thm, .sec, .flt, .dbg] l) (g2 : State.Frame l z x2) :
    State.FrameOut l z (execMainRailFall x1 x2) := by
  delta execMainRailFall
  exact frame_next (State.railFall_frame (hl.sub rfl) g2)

theorem execPfiQualified_frame {x1} (hl : Covers [.regs, .pwr, .spoke, .act, .hay, .sec, .flt, .dbg] l) (g1 : State.Frame l z x1) :
    State.FrameOut l z (execPfiQualified x1) := by
  delta execPfiQualified
  exact frame_next (State.pfi_frame (hl.sub rfl) g1)

theorem execLimpEnter_frame {x1} {x2} (hl : Covers [.regs, .free, .cad, .pwr, .spoke, .host, .console, .zones, .pwm, .act, .adc, .pad, .bus, .hay, .stb, .dsp, .seg, .thm, .sec, .flt, .dbg] l) (g2 : State.Frame l z x2) :
    State.FrameOut l z (execLimpEnter x1 x2) := by
  delta execLimpEnter
  refine frame_next ?_
  refine frame_ite ?_ ?_
  · exact State.limpEnter_frame (hl.sub rfl) g2
  · exact g2

/-! ### HayloftCommands -/

theorem State.doHayLogFlush_frame {x1} {x2} {x3} (hl : Covers [.spoke, .hay, .flt] l) (g1 : State.Frame l z x1) :
    State.Frame l z (State.doHayLogFlush x1 x2 x3) := by
  delta State.doHayLogFlush
  extract_lets -merge -underBinder +onlyGivenNames y1 y2
  refine State.checked_frame (hl.sub rfl) ?_ ?_
  · exact g1
  · intro x3 h4
    refine frame_ite ?_ ?_
    · exact State.ok_frame (hl.sub rfl) h4
    · extract_lets -merge -underBinder +onlyGivenNames y5
      have h6 : State.Frame l z y5 := by subst y5; exact State.accepted_frame (hl.sub rfl) h4
      try clear_value y5
      exact h6.hay (hl .hay (by decide))

theorem execHayloftPhaseEnd_frame {x1} {x2} (hl : Covers [.regs, .hay] l) (g2 : State.Frame l z x2) :
    State.FrameOut l z (execHayloftPhaseEnd x1 x2) := by
  delta execHayloftPhaseEnd
  exact frame_next (State.hayPhaseEnd_frame (hl.sub rfl) g2)

theorem State.doHayLogAppend_frame {x1} {x2} {x3} (hl : Covers [.spoke, .hay, .flt] l) (g1 : State.Frame l z x1) :
    State.Frame l z (State.doHayLogAppend x1 x2 x3) := by
  delta State.doHayLogAppend
  extract_lets -merge -underBinder +onlyGivenNames y1 y2
  refine State.checked_frame (hl.sub rfl) ?_ ?_
  · exact g1
  · intro x3 h4
    exact State.ok_frame (hl.sub rfl) (State.record_frame (hl.sub rfl) h4)

theorem execHayLogFlush_frame {x1} {x2} (hl : Covers [.spoke, .hay, .flt] l) (g2 : State.Frame l z x2) :
    State.FrameOut l z (execHayLogFlush x1 x2) := by
  delta execHayLogFlush
  refine frame_next ?_
  refine State.command_frame (hl.sub rfl) ?_ ?_
  · exact g2
  · intro x1 x3 x4 h2
    exact State.doHayLogFlush_frame (hl.sub rfl) h2

theorem State.doHayOdInc_frame {x1} {x2} {x3} (hl : Covers [.regs, .pwr, .spoke, .hay, .sec, .flt] l) (g1 : State.Frame l z x1) :
    State.Frame l z (State.doHayOdInc x1 x2 x3) := by
  delta State.doHayOdInc
  extract_lets -merge -underBinder +onlyGivenNames y1
  refine State.checked_frame (hl.sub rfl) ?_ ?_
  · exact g1
  · intro x2 h3
    refine frame_ite ?_ ?_
    · exact State.finish_frame (hl.sub rfl) h3
    · exact State.hayAsk_frame (hl.sub rfl) (State.accepted_frame (hl.sub rfl) h3)

theorem execHayLogAppend_frame {x1} {x2} (hl : Covers [.spoke, .hay, .flt] l) (g2 : State.Frame l z x2) :
    State.FrameOut l z (execHayLogAppend x1 x2) := by
  delta execHayLogAppend
  refine frame_next ?_
  refine State.command_frame (hl.sub rfl) ?_ ?_
  · exact g2
  · intro x1 x3 x4 h2
    exact State.doHayLogAppend_frame (hl.sub rfl) h2

theorem State.hayHook_frame {x1} {x2} (hl : Covers [.regs, .pwr, .spoke, .hay, .sec, .flt] l) (g1 : State.Frame l z x1) :
    State.Frame l z (State.hayHook x1 x2) := by
  delta State.hayHook
  refine frame_ite ?_ ?_
  · exact State.saveFirmware_frame (hl.sub rfl) g1
  · exact g1

theorem State.doHayWrite_frame {x1} {x2} {x3} (hl : Covers [.regs, .pwr, .spoke, .hay, .sec, .flt] l) (g1 : State.Frame l z x1) :
    State.Frame l z (State.doHayWrite x1 x2 x3) := by
  delta State.doHayWrite
  extract_lets -merge -underBinder +onlyGivenNames y1 y2 y3
  refine State.checked_frame (hl.sub rfl) ?_ ?_
  · exact g1
  · intro x4 h5
    refine frame_ite ?_ ?_
    · exact State.ok_frame (hl.sub rfl) h5
    · refine frame_ite ?_ ?_
      · exact State.finish_frame (hl.sub rfl) h5
      · exact State.hayAsk_frame (hl.sub rfl) (State.accepted_frame (hl.sub rfl) h5)

theorem execOverflow_frame {x1} {x2} (hl : Covers [.regs, .spoke, .hay, .flt] l) (g2 : State.Frame l z x2) :
    State.FrameOut l z (execOverflow x1 x2) := by
  delta execOverflow
  exact frame_next (State.overflow_frame (hl.sub rfl) g2)

theorem State.hayQueue_frame {x1} {x2} {x3} (hl : Covers [.regs, .pwr, .spoke, .hay, .sec, .flt] l) (g1 : State.Frame l z x1) :
    State.Frame l z (State.hayQueue x1 x2 x3) := by
  delta State.hayQueue
  refine frame_ite ?_ ?_
  · exact State.finish_frame (hl.sub rfl) g1
  · exact State.hayAsk_frame (hl.sub rfl) g1

theorem State.doHayLogRead_frame {x1} {x2} {x3} (hl : Covers [.regs, .pwr, .spoke, .hay, .sec, .flt] l) (g1 : State.Frame l z x1) :
    State.Frame l z (State.doHayLogRead x1 x2 x3) := by
  delta State.doHayLogRead
  extract_lets -merge -underBinder +onlyGivenNames y1 y2
  refine State.checked_frame (hl.sub rfl) ?_ ?_
  · exact g1
  · intro x3 h4
    exact State.hayQueue_frame (hl.sub rfl) h4

theorem execHayOdInc_frame {x1} {x2} (hl : Covers [.regs, .pwr, .spoke, .hay, .sec, .flt] l) (g2 : State.Frame l z x2) :
    State.FrameOut l z (execHayOdInc x1 x2) := by
  delta execHayOdInc
  refine frame_next ?_
  refine State.command_frame (hl.sub rfl) ?_ ?_
  · exact g2
  · intro x1 x3 x4 h2
    exact State.doHayOdInc_frame (hl.sub rfl) h2

theorem execHayLogRead_frame {x1} {x2} (hl : Covers [.regs, .pwr, .spoke, .hay, .sec, .flt] l) (g2 : State.Frame l z x2) :
    State.FrameOut l z (execHayLogRead x1 x2) := by
  delta execHayLogRead
  refine frame_next ?_
  refine State.command_frame (hl.sub rfl) ?_ ?_
  · exact g2
  · intro x1 x3 x4 h2
    exact State.doHayLogRead_frame (hl.sub rfl) h2

theorem execHayWrite_frame {x1} {x2} (hl : Covers [.regs, .pwr, .spoke, .hay, .sec, .flt] l) (g2 : State.Frame l z x2) :
    State.FrameOut l z (execHayWrite x1 x2) := by
  delta execHayWrite
  refine frame_next ?_
  refine State.command_frame (hl.sub rfl) ?_ ?_
  · exact g2
  · intro x1 x3 x4 h2
    exact State.doHayWrite_frame (hl.sub rfl) h2

theorem execLogHoldExpire_frame {x1} {x2} (hl : Covers [.regs, .pwr, .spoke, .hay, .sec, .flt] l) (g2 : State.Frame l z x2) :
    State.FrameOut l z (execLogHoldExpire x1 x2) := by
  delta execLogHoldExpire
  exact frame_next (State.commitPage_frame (hl.sub rfl) g2)

theorem State.doHayRead_frame {x1} {x2} {x3} (hl : Covers [.regs, .pwr, .spoke, .hay, .sec, .flt] l) (g1 : State.Frame l z x1) :
    State.Frame l z (State.doHayRead x1 x2 x3) := by
  delta State.doHayRead
  extract_lets -merge -underBinder +onlyGivenNames y1 y2
  refine State.checked_frame (hl.sub rfl) ?_ ?_
  · exact g1
  · intro x3 h4
    exact State.hayQueue_frame (hl.sub rfl) h4

theorem execHayRead_frame {x1} {x2} (hl : Covers [.regs, .pwr, .spoke, .hay, .sec, .flt] l) (g2 : State.Frame l z x2) :
    State.FrameOut l z (execHayRead x1 x2) := by
  delta execHayRead
  refine frame_next ?_
  refine State.command_frame (hl.sub rfl) ?_ ?_
  · exact g2
  · intro x1 x3 x4 h2
    exact State.doHayRead_frame (hl.sub rfl) h2

theorem execHayloftWriteEnd_frame {x1} (hl : Covers [.regs, .pwr, .spoke, .zones, .hay, .stb, .sec, .flt] l) (g1 : State.Frame l z x1) :
    State.FrameOut l z (execHayloftWriteEnd x1) := by
  delta execHayloftWriteEnd
  refine frame_next ?_
  refine frame_ite ?_ ?_
  · exact State.haySvc_frame (hl.sub rfl) g1
  · exact g1

/-! ### AttrAccess -/

theorem State.setFields_frame {x1} {x2} {x3} (hl : Covers [.regs, .pwr] l) (g1 : State.Frame l z x1) :
    State.Frame l z (State.setFields x1 x2 x3) := by
  delta State.setFields
  refine frame_ite ?_ ?_
  · exact State.ksStageImage_frame (hl.sub rfl) g1
  · split
    · exact g1
    · refine State.each_frame ?_ ?_
      · exact g1
      · intro x1 x3 h2
        extract_lets -merge -underBinder +onlyGivenNames y4
        try clear_value y4
        split
        · exact State.wr_frame (hl.sub rfl) h2
        · exact State.wr_frame (hl.sub rfl) h2
        · exact h2

theorem State.doAttrInfo_frame {x1} {x2} {x3} (hl : Covers [.spoke, .flt] l) (g1 : State.Frame l z x1) :
    State.Frame l z (State.doAttrInfo x1 x2 x3) := by
  delta State.doAttrInfo
  extract_lets -merge -underBinder +onlyGivenNames y1 y2 y3
  refine State.checked_frame (hl.sub rfl) ?_ ?_
  · exact g1
  · intro x4 h5
    exact State.ok_frame (hl.sub rfl) h5

theorem execAttrInfo_frame {x1} {x2} (hl : Covers [.spoke, .flt] l) (g2 : State.Frame l z x2) :
    State.FrameOut l z (execAttrInfo x1 x2) := by
  delta execAttrInfo
  refine frame_next ?_
  refine State.command_frame (hl.sub rfl) ?_ ?_
  · exact g2
  · intro x1 x3 x4 h2
    exact State.doAttrInfo_frame (hl.sub rfl) h2

theorem State.readEffect_frame {x1} {x2} (hl : Covers [.regs, .cad] l) (g1 : State.Frame l z x1) :
    State.Frame l z (State.readEffect x1 x2) := by
  delta State.readEffect
  refine frame_ite ?_ ?_
  · exact g1.cad (hl .cad (by decide))
  · refine frame_ite ?_ ?_
    · exact State.wrap_frame (hl.sub rfl) g1
    · refine frame_ite ?_ ?_
      · exact State.wrap_frame (hl.sub rfl) g1
      · split
        · exact g1
        · refine State.each_frame ?_ ?_
          · exact g1
          · intro x1 x3 h2
            exact State.wr_frame (hl.sub rfl) h2

theorem State.readOne_frame {x1} {x2} {x3} (hl : Covers [.regs, .cad] l) (g1 : State.Frame l z x1) :
    State.Frame l z (State.readOne x1 x2 x3).2 := by
  delta State.readOne
  refine frame_mk_snd ?_
  refine frame_ite ?_ ?_
  · exact g1
  · exact State.readEffect_frame (hl.sub rfl) g1

theorem State.doAttrRead_frame {x1} {x2} {x3} (hl : Covers [.regs, .cad, .spoke, .flt] l) (g1 : State.Frame l z x1) :
    State.Frame l z (State.doAttrRead x1 x2 x3) := by
  delta State.doAttrRead
  extract_lets -merge -underBinder +onlyGivenNames y1
  refine State.checked_frame (hl.sub rfl) ?_ ?_
  · exact g1
  · intro x2 h3
    extract_lets -merge -underBinder +onlyGivenNames y4
    have h5 : State.Frame l z y4.2 := by subst y4; exact State.readOne_frame (hl.sub rfl) h3
    try clear_value y4
    exact State.ok_frame (hl.sub rfl) h5

theorem State.readMany_frame {x1} {x2} {x3} (hl : Covers [.regs, .cad] l) (g1 : State.Frame l z x1) :
    State.Frame l z (State.readMany x1 x2 x3).2 := by
  delta State.readMany
  refine frame_foldl_snd ?_ ?_
  · exact frame_mk_snd g1
  · intro x1 x3 h2
    extract_lets -merge -underBinder +onlyGivenNames y4
    have h5 : State.Frame l z y4.2 := by subst y4; exact State.readOne_frame (hl.sub rfl) h2
    try clear_value y4
    exact frame_mk_snd h5

theorem execAttrRead_frame {x1} {x2} (hl : Covers [.regs, .cad, .spoke, .flt] l) (g2 : State.Frame l z x2) :
    State.FrameOut l z (execAttrRead x1 x2) := by
  delta execAttrRead
  refine frame_next ?_
  refine State.command_frame (hl.sub rfl) ?_ ?_
  · exact g2
  · intro x1 x3 x4 h2
    exact State.doAttrRead_frame (hl.sub rfl) h2

theorem State.doAttrReadMulti_frame {x1} {x2} {x3} (hl : Covers [.regs, .cad, .spoke, .flt] l) (g1 : State.Frame l z x1) :
    State.Frame l z (State.doAttrReadMulti x1 x2 x3) := by
  delta State.doAttrReadMulti
  refine State.checked_frame (hl.sub rfl) ?_ ?_
  · exact g1
  · intro x1 h2
    extract_lets -merge -underBinder +onlyGivenNames y3
    have h4 : State.Frame l z y3.2 := by subst y3; exact State.readMany_frame (hl.sub rfl) h2
    try clear_value y3
    exact State.ok_frame (hl.sub rfl) h4

theorem execAttrReadMulti_frame {x1} {x2} (hl : Covers [.regs, .cad, .spoke, .flt] l) (g2 : State.Frame l z x2) :
    State.FrameOut l z (execAttrReadMulti x1 x2) := by
  delta execAttrReadMulti
  refine frame_next ?_
  refine State.command_frame (hl.sub rfl) ?_ ?_
  · exact g2
  · intro x1 x3 x4 h2
    exact State.doAttrReadMulti_frame (hl.sub rfl) h2

theorem State.fltCtlAct_frame {x1} {x2} (hl : Covers [.regs, .free, .cad, .pwr, .spoke, .host, .console, .zones, .pwm, .act, .adc, .pad, .bus, .hay, .stb, .dsp, .seg, .thm, .sec, .flt, .dbg] l) (g1 : State.Frame l z x1) :
    State.Frame l z (State.fltCtlAct x1 x2) := by
  delta State.fltCtlAct
  extract_lets -merge -underBinder +onlyGivenNames y1
  have h2 : State.Frame l z y1 := by
    subst y1
    refine frame_ite ?_ ?_
    · exact State.clearLatches_frame (hl.sub rfl) g1
    · exact g1
  try clear_value y1
  refine frame_ite ?_ ?_
  · exact State.limpEnter_frame (hl.sub rfl) h2
  · refine frame_ite ?_ ?_
    · exact State.limpExit_frame (hl.sub rfl) h2
    · exact h2

theorem State.ownerHook_frame {x1} {x2} {x3} {x4} {x5} (hl : Covers [.regs, .free, .cad, .pwr, .spoke, .host, .console, .zones, .pwm, .act, .adc, .pad, .bus, .hay, .stb, .dsp, .seg, .thm, .sec, .flt, .dbg] l) (g1 : State.Frame l z x1) (g2 : State.Frame l z x2) :
    State.Frame l z (State.ownerHook x1 x2 x3 x4 x5) := by
  delta State.ownerHook
  split
  · refine frame_ite ?_ ?_
    · exact State.saveFirmware_frame (hl.sub rfl) g1
    · exact g1
  · exact State.zonHook_frame (hl.sub rfl) g1
  · exact State.pwmHook_frame (hl.sub rfl) g1
  · exact State.adcHook_frame (hl.sub rfl) g1
  · exact State.busHook_frame (hl.sub rfl) g1
  · exact State.hayHook_frame (hl.sub rfl) g1
  · exact State.stbHook_frame (hl.sub rfl) g1
  · refine frame_ite ?_ ?_
    · exact State.fltCtlAct_frame (hl.sub rfl) g1
    · exact g1
  · exact g1

theorem State.writeAttr_frame {x1} {x2} {x3} (hl : Covers [.regs, .free, .cad, .pwr, .spoke, .host, .console, .zones, .pwm, .act, .adc, .pad, .bus, .hay, .stb, .dsp, .seg, .thm, .sec, .flt, .dbg] l) (g1 : State.Frame l z x1) :
    State.Frame l z (State.writeAttr x1 x2 x3) := by
  delta State.writeAttr
  refine State.ownerHook_frame (hl.sub rfl) ?_ ?_
  · exact State.setFields_frame (hl.sub rfl) g1
  · exact g1

theorem State.doAttrModify_frame {x1} {x2} {x3} (hl : Covers [.regs, .free, .cad, .pwr, .spoke, .host, .console, .zones, .pwm, .act, .adc, .pad, .bus, .hay, .stb, .dsp, .seg, .thm, .sec, .flt, .dbg] l) (g1 : State.Frame l z x1) :
    State.Frame l z (State.doAttrModify x1 x2 x3) := by
  delta State.doAttrModify
  extract_lets -merge -underBinder +onlyGivenNames y1 y2 y3 y4 y5
  refine State.checked_frame (hl.sub rfl) ?_ ?_
  · exact g1
  · intro x6 h7
    exact State.ok_frame (hl.sub rfl) (State.writeAttr_frame (hl.sub rfl) h7)

theorem State.doAttrWrite_frame {x1} {x2} {x3} (hl : Covers [.regs, .free, .cad, .pwr, .spoke, .host, .console, .zones, .pwm, .act, .adc, .pad, .bus, .hay, .stb, .dsp, .seg, .thm, .sec, .flt, .dbg] l) (g1 : State.Frame l z x1) :
    State.Frame l z (State.doAttrWrite x1 x2 x3) := by
  delta State.doAttrWrite
  extract_lets -merge -underBinder +onlyGivenNames y1 y2
  refine State.checked_frame (hl.sub rfl) ?_ ?_
  · exact g1
  · intro x3 h4
    exact State.ok_frame (hl.sub rfl) (State.writeAttr_frame (hl.sub rfl) h4)

theorem execAttrModify_frame {x1} {x2} (hl : Covers [.regs, .free, .cad, .pwr, .spoke, .host, .console, .zones, .pwm, .act, .adc, .pad, .bus, .hay, .stb, .dsp, .seg, .thm, .sec, .flt, .dbg] l) (g2 : State.Frame l z x2) :
    State.FrameOut l z (execAttrModify x1 x2) := by
  delta execAttrModify
  refine frame_next ?_
  refine State.command_frame (hl.sub rfl) ?_ ?_
  · exact g2
  · intro x1 x3 x4 h2
    exact State.doAttrModify_frame (hl.sub rfl) h2

theorem execAttrWrite_frame {x1} {x2} (hl : Covers [.regs, .free, .cad, .pwr, .spoke, .host, .console, .zones, .pwm, .act, .adc, .pad, .bus, .hay, .stb, .dsp, .seg, .thm, .sec, .flt, .dbg] l) (g2 : State.Frame l z x2) :
    State.FrameOut l z (execAttrWrite x1 x2) := by
  delta execAttrWrite
  refine frame_next ?_
  refine State.command_frame (hl.sub rfl) ?_ ?_
  · exact g2
  · intro x1 x3 x4 h2
    exact State.doAttrWrite_frame (hl.sub rfl) h2

/-! ### BusCommands -/

theorem execBusFrameEnd_frame {x1} {x2} {x3} {x4} (hl : Covers [.bus] l) (g4 : State.Frame l z x4) :
    State.FrameOut l z (execBusFrameEnd x1 x2 x3 x4) := by
  delta execBusFrameEnd
  exact frame_next (State.busFrameEnd_frame (hl.sub rfl) g4)

theorem execBusTxDone_frame {x1} {x2} (hl : Covers [.spoke, .bus, .flt] l) (g2 : State.Frame l z x2) :
    State.FrameOut l z (execBusTxDone x1 x2) := by
  delta execBusTxDone
  exact frame_next (State.busTxDone_frame (hl.sub rfl) g2)

theorem execBusTx_frame {x1} {x2} (hl : Covers [.spoke, .bus, .flt] l) (g2 : State.Frame l z x2) :
    State.FrameOut l z (execBusTx x1 x2) := by
  delta execBusTx
  refine frame_next ?_
  refine State.command_frame (hl.sub rfl) ?_ ?_
  · exact g2
  · intro x1 x3 x4 h2
    exact State.doBusTx_frame (hl.sub rfl) h2

theorem execBusPartialFrameDiscard_frame {x1} {x2} (hl : Covers [.spoke, .host] l) (g2 : State.Frame l z x2) :
    State.FrameOut l z (execBusPartialFrameDiscard x1 x2) := by
  delta execBusPartialFrameDiscard
  exact frame_next (State.busPartial_frame (hl.sub rfl) g2)

theorem execReplyPostponed_frame {x1} {x2} (hl : Covers [.bus] l) (g2 : State.Frame l z x2) :
    State.FrameOut l z (execReplyPostponed x1 x2) := by
  delta execReplyPostponed
  exact frame_next (State.mstpPostpone_frame (hl.sub rfl) g2)

theorem execModbusClientTimeout_frame {x1} {x2} (hl : Covers [.regs, .spoke, .bus] l) (g2 : State.Frame l z x2) :
    State.FrameOut l z (execModbusClientTimeout x1 x2) := by
  delta execModbusClientTimeout
  refine frame_next ?_
  refine frame_ite ?_ ?_
  · exact State.modbusNext_frame (hl.sub rfl) (State.modbusTimeout_frame (hl.sub rfl) g2)
  · exact g2

theorem execMstpTokenLost_frame {x1} {x2} (hl : Covers [.regs, .bus, .flt] l) (g2 : State.Frame l z x2) :
    State.FrameOut l z (execMstpTokenLost x1 x2) := by
  delta execMstpTokenLost
  exact frame_next (State.mstpTokenLost_frame (hl.sub rfl) g2)

theorem execBusRxOverflow_frame {x1} {x2} {x3} (hl : Covers [.regs, .bus, .flt] l) (g3 : State.Frame l z x3) :
    State.FrameOut l z (execBusRxOverflow x1 x2 x3) := by
  delta execBusRxOverflow
  exact frame_next (State.busOverflow_frame (hl.sub rfl) g3)

theorem execBusGpRestart_frame {x1} {x2} (hl : Covers [.regs, .spoke, .bus, .flt] l) (g2 : State.Frame l z x2) :
    State.FrameOut l z (execBusGpRestart x1 x2) := by
  delta execBusGpRestart
  refine frame_next ?_
  refine State.command_frame (hl.sub rfl) ?_ ?_
  · exact g2
  · intro x1 x3 x4 h2
    exact State.doBusGpRestart_frame (hl.sub rfl) h2

theorem execBusSave_frame {x1} {x2} (hl : Covers [.regs, .pwr, .spoke, .hay, .sec, .flt] l) (g2 : State.Frame l z x2) :
    State.FrameOut l z (execBusSave x1 x2) := by
  delta execBusSave
  refine frame_next ?_
  refine State.command_frame (hl.sub rfl) ?_ ?_
  · exact g2
  · intro x1 x3 x4 h2
    exact State.doBusSave_frame (hl.sub rfl) h2

theorem execGolposenSend_frame {x1} {x2} (hl : Covers [.regs, .spoke, .bus] l) (g2 : State.Frame l z x2) :
    State.FrameOut l z (execGolposenSend x1 x2) := by
  delta execGolposenSend
  exact frame_next (State.golposenSend_frame (hl.sub rfl) g2)

theorem execGolposenWatchdog_frame {x1} {x2} (hl : Covers [.regs, .spoke, .flt] l) (g2 : State.Frame l z x2) :
    State.FrameOut l z (execGolposenWatchdog x1 x2) := by
  delta execGolposenWatchdog
  exact frame_next (State.gpWatchdog_frame (hl.sub rfl) g2)

theorem execBusPortCtl_frame {x1} {x2} (hl : Covers [.regs, .spoke, .bus, .flt] l) (g2 : State.Frame l z x2) :
    State.FrameOut l z (execBusPortCtl x1 x2) := by
  delta execBusPortCtl
  refine frame_next ?_
  refine State.command_frame (hl.sub rfl) ?_ ?_
  · exact g2
  · intro x1 x3 x4 h2
    exact State.doBusPortCtl_frame (hl.sub rfl) h2

theorem execBusGpPdu_frame {x1} {x2} (hl : Covers [.regs, .spoke, .bus, .flt] l) (g2 : State.Frame l z x2) :
    State.FrameOut l z (execBusGpPdu x1 x2) := by
  delta execBusGpPdu
  refine frame_next ?_
  refine State.command_frame (hl.sub rfl) ?_ ?_
  · exact g2
  · intro x1 x3 x4 h2
    exact State.doBusGpPdu_frame (hl.sub rfl) h2

/-! ### Debug -/

theorem State.resumeAsk_frame {x1} {x2} (hl : Covers [.dbg] l) (g1 : State.Frame l z x1) :
    State.Frame l z (State.resumeAsk x1 x2) := by
  delta State.resumeAsk
  extract_lets -merge -underBinder +onlyGivenNames y1 y2
  have h3 : State.Frame l z y2 := by subst y2; exact g1.dbg (hl .dbg (by decide))
  try clear_value y2
  refine frame_ite ?_ ?_
  · exact h3.dbg (hl .dbg (by decide))
  · exact h3

theorem State.capture_frame {x1} {x2} (hl : Covers [.dbg] l) (g1 : State.Frame l z x1) :
    State.Frame l z (State.capture x1 x2) := by
  delta State.capture
  exact g1.dbg (hl .dbg (by decide))

theorem State.challenge_frame {x1} {x2} (hl : Covers [.free, .sec, .dbg] l) (g1 : State.Frame l z x1) :
    State.Frame l z (State.challenge x1 x2) := by
  delta State.challenge
  refine frame_ite ?_ ?_
  · extract_lets -merge -underBinder +onlyGivenNames y1
    have h2 : State.Frame l z y1.2 := by subst y1; exact State.random_frame (hl.sub rfl) g1
    try clear_value y1
    extract_lets -merge -underBinder +onlyGivenNames y3
    refine State.capture_frame (hl.sub rfl) ?_
    extract_lets -merge -underBinder +onlyGivenNames y4
    have h5 : State.Frame l z y4 := by subst y4; exact h2
    try clear_value y4
    exact h5.sec (hl .sec (by decide))
  · exact State.capture_frame (hl.sub rfl) g1

theorem State.relockAsk_frame {x1} (hl : Covers [.dbg] l) (g1 : State.Frame l z x1) :
    State.Frame l z (State.relockAsk x1) := by
  delta State.relockAsk
  exact g1.dbg (hl .dbg (by decide))

theorem State.haltAsk_frame {x1} {x2} {x3} (hl : Covers [.dbg] l) (g1 : State.Frame l z x1) :
    State.Frame l z (State.haltAsk x1 x2 x3) := by
  delta State.haltAsk
  refine frame_ite ?_ ?_
  · exact g1.dbg (hl .dbg (by decide))
  · extract_lets -merge -underBinder +onlyGivenNames y1 y2
    have h3 : State.Frame l z y2 := by subst y2; exact g1.dbg (hl .dbg (by decide))
    try clear_value y2
    refine frame_ite ?_ ?_
    · exact h3
    · exact h3.dbg (hl .dbg (by decide))

theorem State.sampleDr_frame {x1} {x2} (hl : Covers [.free, .dbg] l) (g1 : State.Frame l z x1) :
    State.Frame l z (State.sampleDr x1 x2) := by
  delta State.sampleDr
  extract_lets -merge -underBinder +onlyGivenNames y1
  have h2 : State.Frame l z y1.2 := by subst y1; exact State.draw_frame (hl.sub rfl) g1
  try clear_value y1
  extract_lets -merge -underBinder +onlyGivenNames y3
  have h4 : State.Frame l z y3 := by subst y3; exact h2
  try clear_value y3
  exact h4.dbg (hl .dbg (by decide))

theorem State.extestDr_frame {x1} {x2} (hl : Covers [.free, .dbg] l) (g1 : State.Frame l z x1) :
    State.Frame l z (State.extestDr x1 x2) := by
  delta State.extestDr
  extract_lets -merge -underBinder +onlyGivenNames y1
  have h2 : State.Frame l z y1.2 := by subst y1; exact State.draw_frame (hl.sub rfl) g1
  try clear_value y1
  extract_lets -merge -underBinder +onlyGivenNames y3
  have h4 : State.Frame l z y3 := by subst y3; exact h2
  try clear_value y3
  exact h4.dbg (hl .dbg (by decide))

theorem State.memDone_frame {x1} {x2} {x3} {x4} {x5} {x6} (hl : Covers [.dbg] l) (g1 : State.Frame l z x1) :
    State.Frame l z (State.memDone x1 x2 x3 x4 x5 x6) := by
  delta State.memDone
  extract_lets -merge -underBinder +onlyGivenNames y1 y2 y3
  have h4 : State.Frame l z y3 := by subst y3; exact g1.dbg (hl .dbg (by decide))
  try clear_value y3
  exact State.capture_frame (hl.sub rfl) h4

theorem State.spokeFill_frame {x1} (hl : Covers [.spoke] l) (g1 : State.Frame l z x1) :
    State.Frame l z (State.spokeFill x1) := by
  delta State.spokeFill
  exact State.fillStream_frame (hl.sub rfl) g1

theorem State.spokePop_frame {x1} (hl : Covers [.spoke, .dbg] l) (g1 : State.Frame l z x1) :
    State.Frame l z (State.spokePop x1) := by
  delta State.spokePop
  extract_lets -merge -underBinder +onlyGivenNames y1
  try clear_value y1
  split
  · exact State.capture_frame (hl.sub rfl) g1
  · exact State.capture_frame (hl.sub rfl) (g1.spoke (hl .spoke (by decide)))

theorem State.spokePush_frame {x1} {x2} (hl : Covers [.spoke, .host] l) (g1 : State.Frame l z x1) :
    State.Frame l z (State.spokePush x1 x2) := by
  delta State.spokePush
  refine frame_ite ?_ ?_
  · exact State.rxDiscard_frame (hl.sub rfl) g1
  · exact State.rxBytes_frame (hl.sub rfl) g1

theorem State.memNone_frame {x1} {x2} {x3} {x4} {x5} {x6} (hl : Covers [.free, .dbg] l) (g1 : State.Frame l z x1) :
    State.Frame l z (State.memNone x1 x2 x3 x4 x5 x6) := by
  delta State.memNone
  split
  · exact State.memDone_frame (hl.sub rfl) g1
  · extract_lets -merge -underBinder +onlyGivenNames y1
    have h2 : State.Frame l z y1.2 := by subst y1; exact State.draw_frame (hl.sub rfl) g1
    try clear_value y1
    exact State.memDone_frame (hl.sub rfl) h2

theorem State.doDbgReadMode_frame {x1} {x2} {x3} (hl : Covers [.spoke, .flt, .dbg] l) (g1 : State.Frame l z x1) :
    State.Frame l z (State.doDbgReadMode x1 x2 x3) := by
  delta State.doDbgReadMode
  refine State.checked_frame (hl.sub rfl) ?_ ?_
  · exact g1
  · intro x1 h2
    exact State.ok_frame (hl.sub rfl) (h2.dbg (hl .dbg (by decide)))

theorem State.responseBad_frame {x1} {x2} {x3} (hl : Covers [.hay, .sec] l) (g1 : State.Frame l z x1) :
    State.Frame l z (State.responseBad x1 x2 x3) := by
  delta State.responseBad
  extract_lets -merge -underBinder +onlyGivenNames y1 y2
  have h3 : State.Frame l z y2 := by subst y2; exact g1.sec (hl .sec (by decide))
  try clear_value y2
  exact State.record_frame (hl.sub rfl) h3

theorem State.coreResumes_frame {x1} {x2} (hl : Covers [.regs, .cad, .pwr, .spoke, .pwm, .act, .dbg] l) (g1 : State.Frame l z x1) :
    State.Frame l z (State.coreResumes x1 x2) := by
  delta State.coreResumes
  refine frame_ite ?_ ?_
  · extract_lets -merge -underBinder +onlyGivenNames y1 y2
    have h3 : State.Frame l z y2 := by subst y2; exact g1.dbg (hl .dbg (by decide))
    try clear_value y2
    extract_lets -merge -underBinder +onlyGivenNames y4
    have h5 : State.Frame l z y4 := by subst y4; exact State.debugRunEnd_frame (hl.sub rfl) h3
    try clear_value y4
    refine frame_ite ?_ ?_
    · exact State.note_frame (hl.sub rfl) (State.forceOff_frame (hl.sub rfl) h5)
    · exact h5
  · exact g1

theorem State.memWrite_frame {x1} {x2} {x3} {x4} (hl : Covers [.regs, .spoke, .stb, .flt, .dbg] l) (g1 : State.Frame l z x1) :
    State.Frame l z (State.memWrite x1 x2 x3 x4) := by
  delta State.memWrite
  refine frame_ite ?_ ?_
  · exact State.memDone_frame (hl.sub rfl) g1
  · refine frame_ite ?_ ?_
    · exact State.memDone_frame (hl.sub rfl) g1
    · refine frame_ite ?_ ?_
      · exact State.memDone_frame (hl.sub rfl) (State.cacheInvalidate_frame (hl.sub rfl) (g1.dbg (hl .dbg (by decide))))
      · split
        · exact State.memDone_frame (hl.sub rfl) g1
        · refine frame_ite ?_ ?_
          · exact State.memDone_frame (hl.sub rfl) g1
          · refine frame_ite ?_ ?_
            · exact State.memDone_frame (hl.sub rfl) g1
            · exact State.memDone_frame (hl.sub rfl) (State.narrowWrite_frame (hl.sub rfl) g1)

theorem State.coreHalts_frame {x1} {x2} (hl : Covers [.regs, .cad, .pwr, .spoke, .act, .pad, .flt, .dbg] l) (g1 : State.Frame l z x1) :
    State.Frame l z (State.coreHalts x1 x2) := by
  delta State.coreHalts
  refine frame_ite ?_ ?_
  · exact g1
  · extract_lets -merge -underBinder +onlyGivenNames y1 y2 y3
    have h4 : State.Frame l z y3 := by subst y3; exact g1.dbg (hl .dbg (by decide))
    try clear_value y3
    extract_lets -merge -underBinder +onlyGivenNames y5
    have h6 : State.Frame l z y5 := by subst y5; exact State.debugRunHold_frame (hl.sub rfl) h4
    try clear_value y5
    refine frame_ite ?_ ?_
    · exact State.note_frame (hl.sub rfl) (State.padDo_frame (hl.sub rfl) (State.forceOn_frame (hl.sub rfl) h6))
    · exact h6

theorem State.memRead_frame {x1} {x2} {x3} (hl : Covers [.regs, .free, .spoke, .stb, .flt, .dbg] l) (g1 : State.Frame l z x1) :
    State.Frame l z (State.memRead x1 x2 x3) := by
  delta State.memRead
  refine frame_ite ?_ ?_
  · exact State.memNone_frame (hl.sub rfl) g1
  · refine frame_ite ?_ ?_
    · exact State.memNone_frame (hl.sub rfl) g1
    · refine frame_ite ?_ ?_
      · exact State.memDone_frame (hl.sub rfl) g1
      · split
        · exact State.memNone_frame (hl.sub rfl) g1
        · refine frame_ite ?_ ?_
          · exact State.memNone_frame (hl.sub rfl) g1
          · extract_lets -merge -underBinder +onlyGivenNames y1
            have h2 : State.Frame l z y1.2 := by subst y1; exact State.narrowRead_frame (hl.sub rfl) g1
            try clear_value y1
            split
            · exact State.memNone_frame (hl.sub rfl) h2
            · exact State.memDone_frame (hl.sub rfl) h2

theorem State.unlock_frame {x1} {x2} (hl : Covers [.regs, .spoke, .hay, .sec, .flt] l) (g1 : State.Frame l z x1) :
    State.Frame l z (State.unlock x1 x2) := by
  delta State.unlock
  extract_lets -merge -underBinder +onlyGivenNames y1 y2
  have h3 : State.Frame l z y2 := by subst y2; exact g1.sec (hl .sec (by decide))
  try clear_value y2
  extract_lets -merge -underBinder +onlyGivenNames y4
  have h5 : State.Frame l z y4 := by subst y4; exact State.wrs_frame (hl.sub rfl) h3
  try clear_value y4
  extract_lets -merge -underBinder +onlyGivenNames y6
  have h7 : State.Frame l z y6 := by subst y6; exact State.secNote_frame (hl.sub rfl) (State.record_frame (hl.sub rfl) h5)
  try clear_value y6
  exact State.recert_frame (hl.sub rfl) (State.fault_frame (hl.sub rfl) h7)

theorem State.responseJudge_frame {x1} (hl : Covers [.regs, .spoke, .hay, .sec, .flt] l) (g1 : State.Frame l z x1) :
    State.Frame l z (State.responseJudge x1) := by
  delta State.responseJudge
  split
  · exact g1
  · extract_lets -merge -underBinder +onlyGivenNames y1 y2
    have h3 : State.Frame l z y2 := by subst y2; exact g1.sec (hl .sec (by decide))
    try clear_value y2
    split
    · exact State.responseBad_frame (hl.sub rfl) h3
    · refine frame_ite ?_ ?_
      · exact State.responseBad_frame (hl.sub rfl) h3
      · refine frame_ite ?_ ?_
        · exact State.unlock_frame (hl.sub rfl) h3
        · exact State.responseBad_frame (hl.sub rfl) h3

theorem State.relocks_frame {x1} (hl : Covers [.regs, .spoke, .hay, .flt, .dbg] l) (g1 : State.Frame l z x1) :
    State.Frame l z (State.relocks x1) := by
  delta State.relocks
  refine frame_ite ?_ ?_
  · extract_lets -merge -underBinder +onlyGivenNames y1 y2 y3
    have h4 : State.Frame l z y3 := by subst y3; exact g1.dbg (hl .dbg (by decide))
    try clear_value y3
    extract_lets -merge -underBinder +onlyGivenNames y5
    have h6 : State.Frame l z y5 := by subst y5; exact State.wrs_frame (hl.sub rfl) h4
    try clear_value y5
    exact State.recert_frame (hl.sub rfl) (State.note_frame (hl.sub rfl) (State.record_frame (hl.sub rfl) h6))
  · exact g1

theorem State.debugSlot_frame {x1} (hl : Covers [.regs, .cad, .pwr, .spoke, .pwm, .act, .hay, .sec, .flt, .dbg] l) (g1 : State.Frame l z x1) :
    State.Frame l z (State.debugSlot x1) := by
  delta State.debugSlot
  exact State.responseJudge_frame (hl.sub rfl) (State.relocks_frame (hl.sub rfl) (State.coreResumes_frame (hl.sub rfl) (State.coreResumes_frame (hl.sub rfl) g1)))

theorem State.selectIr_frame {x1} {x2} (hl : Covers [.regs, .free, .cad, .pwr, .spoke, .host, .console, .zones, .pwm, .act, .adc, .pad, .bus, .hay, .stb, .dsp, .seg, .thm, .sec, .flt, .dbg] l) (g1 : State.Frame l z x1) :
    State.Frame l z (State.selectIr x1 x2) := by
  delta State.selectIr
  extract_lets -merge -underBinder +onlyGivenNames y1 y2
  have h3 : State.Frame l z y2 := by subst y2; exact g1.dbg (hl .dbg (by decide))
  try clear_value y2
  refine State.when_frame ?_ ?_
  · exact h3
  · intro x4 h5
    exact State.hubReset_frame (hl.sub rfl) h5

theorem State.tap_frame {x1} {x2} {x3} (hl : Covers [.regs, .free, .cad, .pwr, .spoke, .host, .console, .zones, .pwm, .act, .adc, .pad, .bus, .hay, .stb, .dsp, .seg, .thm, .sec, .flt, .dbg] l) (g1 : State.Frame l z x1) (g3 : ∀ z1, State.Frame l z z1 → State.Frame l z (x3 z1)) :
    State.Frame l z (State.tap x1 x2 x3) := by
  delta State.tap
  refine frame_ite ?_ ?_
  · refine g3 _ ?_
    exact State.selectIr_frame (hl.sub rfl) g1
  · exact g1

theorem State.vendor_frame {x1} {x2} {x3} {x4} (hl : Covers [.regs, .free, .cad, .pwr, .spoke, .host, .console, .zones, .pwm, .act, .adc, .pad, .bus, .hay, .stb, .dsp, .seg, .thm, .sec, .flt, .dbg] l) (g1 : State.Frame l z x1) (g4 : ∀ z1, State.Frame l z z1 → State.Frame l z (x4 z1)) :
    State.Frame l z (State.vendor x1 x2 x3 x4) := by
  delta State.vendor
  refine State.tap_frame (hl.sub rfl) ?_ ?_
  · exact g1
  · intro x1 h2
    refine frame_ite ?_ ?_
    · refine g4 _ ?_
      exact h2
    · exact State.capture_frame (hl.sub rfl) h2

end Sys2Proof.Machine
end

