-- ==== Sys2Proof/Laws/Frame8.lean ====
section
/-!
SUPPORT. Sys2Proof/Laws/Frame8.lean: the operations of DebugCommands, PaddockCommands, StableCommands, ThermalCommands, PanelCommands, Spoke, Jobs and the parts
of the state they can change.
-/

namespace Sys2Proof.Machine

variable {l : List Part} {z : State}

/-! ### DebugCommands -/

theorem execTapReset_frame {x1} (hl : Covers [.dbg] l) (g1 : State.Frame l z x1) :
    State.FrameOut l z (execTapReset x1) := by
  delta execTapReset
  exact frame_next (State.tapReset_frame (hl.sub rfl) g1)

theorem execCoreResume_frame {x1} {x2} (hl : Covers [.regs, .cad, .pwr, .spoke, .pwm, .act, .dbg] l) (g2 : State.Frame l z x2) :
    State.FrameOut l z (execCoreResume x1 x2) := by
  delta execCoreResume
  exact frame_next (State.coreResumes_frame (hl.sub rfl) g2)

theorem execDbgReadMode_frame {x1} {x2} (hl : Covers [.spoke, .flt, .dbg] l) (g2 : State.Frame l z x2) :
    State.FrameOut l z (execDbgReadMode x1 x2) := by
  delta execDbgReadMode
  refine frame_next ?_
  refine State.command_frame (hl.sub rfl) ?_ ?_
  · exact g2
  · intro x1 x3 x4 h2
    exact State.doDbgReadMode_frame (hl.sub rfl) h2

theorem execCoreHalt_frame {x1} {x2} (hl : Covers [.regs, .cad, .pwr, .spoke, .act, .pad, .flt, .dbg] l) (g2 : State.Frame l z x2) :
    State.FrameOut l z (execCoreHalt x1 x2) := by
  delta execCoreHalt
  exact frame_next (State.coreHalts_frame (hl.sub rfl) g2)

theorem execDebugResponseJudged_frame {x1} (hl : Covers [.regs, .spoke, .hay, .sec, .flt] l) (g1 : State.Frame l z x1) :
    State.FrameOut l z (execDebugResponseJudged x1) := by
  delta execDebugResponseJudged
  exact frame_next (State.responseJudge_frame (hl.sub rfl) g1)

theorem execDbgResp_frame {x1} {x2} (hl : Covers [.regs, .free, .cad, .pwr, .spoke, .host, .console, .zones, .pwm, .act, .adc, .pad, .bus, .hay, .stb, .dsp, .seg, .thm, .sec, .flt, .dbg] l) (g2 : State.Frame l z x2) :
    State.FrameOut l z (execDbgResp x1 x2) := by
  delta execDbgResp
  refine frame_next ?_
  refine State.tap_frame (hl.sub rfl) ?_ ?_
  · exact g2
  · intro x1 h2
    exact State.capture_frame (hl.sub rfl) (h2.sec (hl .sec (by decide)))

theorem execBypass_frame {x1} (hl : Covers [.regs, .free, .cad, .pwr, .spoke, .host, .console, .zones, .pwm, .act, .adc, .pad, .bus, .hay, .stb, .dsp, .seg, .thm, .sec, .flt, .dbg] l) (g1 : State.Frame l z x1) :
    State.FrameOut l z (execBypass x1) := by
  delta execBypass
  refine frame_next ?_
  refine State.tap_frame (hl.sub rfl) ?_ ?_
  · exact g1
  · intro x1 h2
    exact State.capture_frame (hl.sub rfl) h2

theorem execSamplePreload_frame {x1} {x2} (hl : Covers [.regs, .free, .cad, .pwr, .spoke, .host, .console, .zones, .pwm, .act, .adc, .pad, .bus, .hay, .stb, .dsp, .seg, .thm, .sec, .flt, .dbg] l) (g2 : State.Frame l z x2) :
    State.FrameOut l z (execSamplePreload x1 x2) := by
  delta execSamplePreload
  refine frame_next ?_
  refine State.tap_frame (hl.sub rfl) ?_ ?_
  · exact g2
  · intro x1 h2
    exact State.sampleDr_frame (hl.sub rfl) h2

theorem execClamp_frame {x1} (hl : Covers [.regs, .free, .cad, .pwr, .spoke, .host, .console, .zones, .pwm, .act, .adc, .pad, .bus, .hay, .stb, .dsp, .seg, .thm, .sec, .flt, .dbg] l) (g1 : State.Frame l z x1) :
    State.FrameOut l z (execClamp x1) := by
  delta execClamp
  refine frame_next ?_
  refine State.tap_frame (hl.sub rfl) ?_ ?_
  · exact g1
  · intro x1 h2
    exact State.capture_frame (hl.sub rfl) h2

theorem execDbgChal_frame {x1} {x2} (hl : Covers [.regs, .free, .cad, .pwr, .spoke, .host, .console, .zones, .pwm, .act, .adc, .pad, .bus, .hay, .stb, .dsp, .seg, .thm, .sec, .flt, .dbg] l) (g2 : State.Frame l z x2) :
    State.FrameOut l z (execDbgChal x1 x2) := by
  delta execDbgChal
  refine frame_next ?_
  refine State.tap_frame (hl.sub rfl) ?_ ?_
  · exact g2
  · intro x1 h2
    exact State.challenge_frame (hl.sub rfl) h2

theorem execHighz_frame {x1} (hl : Covers [.regs, .free, .cad, .pwr, .spoke, .host, .console, .zones, .pwm, .act, .adc, .pad, .bus, .hay, .stb, .dsp, .seg, .thm, .sec, .flt, .dbg] l) (g1 : State.Frame l z x1) :
    State.FrameOut l z (execHighz x1) := by
  delta execHighz
  refine frame_next ?_
  refine State.tap_frame (hl.sub rfl) ?_ ?_
  · exact g1
  · intro x1 h2
    exact State.capture_frame (hl.sub rfl) h2

theorem execIdcode_frame {x1} (hl : Covers [.regs, .free, .cad, .pwr, .spoke, .host, .console, .zones, .pwm, .act, .adc, .pad, .bus, .hay, .stb, .dsp, .seg, .thm, .sec, .flt, .dbg] l) (g1 : State.Frame l z x1) :
    State.FrameOut l z (execIdcode x1) := by
  delta execIdcode
  refine frame_next ?_
  refine State.tap_frame (hl.sub rfl) ?_ ?_
  · exact g1
  · intro x1 h2
    exact State.capture_frame (hl.sub rfl) h2

theorem execDbgStatus_frame {x1} (hl : Covers [.regs, .free, .cad, .pwr, .spoke, .host, .console, .zones, .pwm, .act, .adc, .pad, .bus, .hay, .stb, .dsp, .seg, .thm, .sec, .flt, .dbg] l) (g1 : State.Frame l z x1) :
    State.FrameOut l z (execDbgStatus x1) := by
  delta execDbgStatus
  refine frame_next ?_
  refine State.tap_frame (hl.sub rfl) ?_ ?_
  · exact g1
  · intro x1 h2
    exact State.capture_frame (hl.sub rfl) h2

theorem execExtest_frame {x1} {x2} (hl : Covers [.regs, .free, .cad, .pwr, .spoke, .host, .console, .zones, .pwm, .act, .adc, .pad, .bus, .hay, .stb, .dsp, .seg, .thm, .sec, .flt, .dbg] l) (g2 : State.Frame l z x2) :
    State.FrameOut l z (execExtest x1 x2) := by
  delta execExtest
  refine frame_next ?_
  refine State.tap_frame (hl.sub rfl) ?_ ?_
  · exact g2
  · intro x1 h2
    exact State.extestDr_frame (hl.sub rfl) h2

theorem execResume_frame {x1} {x2} (hl : Covers [.regs, .free, .cad, .pwr, .spoke, .host, .console, .zones, .pwm, .act, .adc, .pad, .bus, .hay, .stb, .dsp, .seg, .thm, .sec, .flt, .dbg] l) (g2 : State.Frame l z x2) :
    State.FrameOut l z (execResume x1 x2) := by
  delta execResume
  refine frame_next ?_
  refine State.vendor_frame (hl.sub rfl) ?_ ?_
  · exact g2
  · intro x1 h2
    exact State.capture_frame (hl.sub rfl) (State.resumeAsk_frame (hl.sub rfl) h2)

theorem execHalt_frame {x1} {x2} {x3} (hl : Covers [.regs, .free, .cad, .pwr, .spoke, .host, .console, .zones, .pwm, .act, .adc, .pad, .bus, .hay, .stb, .dsp, .seg, .thm, .sec, .flt, .dbg] l) (g3 : State.Frame l z x3) :
    State.FrameOut l z (execHalt x1 x2 x3) := by
  delta execHalt
  refine frame_next ?_
  refine State.vendor_frame (hl.sub rfl) ?_ ?_
  · exact g3
  · intro x1 h2
    exact State.capture_frame (hl.sub rfl) (State.haltAsk_frame (hl.sub rfl) h2)

theorem execDbgReset_frame {x1} (hl : Covers [.regs, .free, .cad, .pwr, .spoke, .host, .console, .zones, .pwm, .act, .adc, .pad, .bus, .hay, .stb, .dsp, .seg, .thm, .sec, .flt, .dbg] l) (g1 : State.Frame l z x1) :
    State.FrameOut l z (execDbgReset x1) := by
  delta execDbgReset
  refine frame_next ?_
  refine State.vendor_frame (hl.sub rfl) ?_ ?_
  · exact g1
  · intro x1 h2
    exact State.capture_frame (hl.sub rfl) (State.hubReset_frame (hl.sub rfl) (h2.dbg (hl .dbg (by decide))))

theorem execDbgSpokePop_frame {x1} (hl : Covers [.regs, .free, .cad, .pwr, .spoke, .host, .console, .zones, .pwm, .act, .adc, .pad, .bus, .hay, .stb, .dsp, .seg, .thm, .sec, .flt, .dbg] l) (g1 : State.Frame l z x1) :
    State.FrameOut l z (execDbgSpokePop x1) := by
  delta execDbgSpokePop
  refine frame_next ?_
  refine State.vendor_frame (hl.sub rfl) ?_ ?_
  · exact g1
  · intro x1 h2
    exact State.spokePop_frame (hl.sub rfl) h2

theorem execDbgMemWrite_frame {x1} {x2} {x3} {x4} (hl : Covers [.regs, .free, .cad, .pwr, .spoke, .host, .console, .zones, .pwm, .act, .adc, .pad, .bus, .hay, .stb, .dsp, .seg, .thm, .sec, .flt, .dbg] l) (g4 : State.Frame l z x4) :
    State.FrameOut l z (execDbgMemWrite x1 x2 x3 x4) := by
  delta execDbgMemWrite
  refine frame_next ?_
  refine State.vendor_frame (hl.sub rfl) ?_ ?_
  · exact g4
  · intro x1 h2
    exact State.memWrite_frame (hl.sub rfl) h2

theorem execFlush_frame {x1} (hl : Covers [.regs, .free, .cad, .pwr, .spoke, .host, .console, .zones, .pwm, .act, .adc, .pad, .bus, .hay, .stb, .dsp, .seg, .thm, .sec, .flt, .dbg] l) (g1 : State.Frame l z x1) :
    State.FrameOut l z (execFlush x1) := by
  delta execFlush
  refine frame_next ?_
  refine State.vendor_frame (hl.sub rfl) ?_ ?_
  · exact g1
  · intro x1 h2
    exact State.capture_frame (hl.sub rfl) (State.rxDiscard_frame (hl.sub rfl) (h2.dbg (hl .dbg (by decide))))

theorem execRelock_frame {x1} (hl : Covers [.regs, .free, .cad, .pwr, .spoke, .host, .console, .zones, .pwm, .act, .adc, .pad, .bus, .hay, .stb, .dsp, .seg, .thm, .sec, .flt, .dbg] l) (g1 : State.Frame l z x1) :
    State.FrameOut l z (execRelock x1) := by
  delta execRelock
  refine frame_next ?_
  refine State.vendor_frame (hl.sub rfl) ?_ ?_
  · exact g1
  · intro x1 h2
    exact State.capture_frame (hl.sub rfl) (State.relockAsk_frame (hl.sub rfl) h2)

theorem execDbgSpokePush_frame {x1} {x2} (hl : Covers [.regs, .free, .cad, .pwr, .spoke, .host, .console, .zones, .pwm, .act, .adc, .pad, .bus, .hay, .stb, .dsp, .seg, .thm, .sec, .flt, .dbg] l) (g2 : State.Frame l z x2) :
    State.FrameOut l z (execDbgSpokePush x1 x2) := by
  delta execDbgSpokePush
  refine frame_next ?_
  refine State.vendor_frame (hl.sub rfl) ?_ ?_
  · exact g2
  · intro x1 h2
    exact State.spokePush_frame (hl.sub rfl) h2

theorem execDbgMemRead_frame {x1} {x2} {x3} (hl : Covers [.regs, .free, .cad, .pwr, .spoke, .host, .console, .zones, .pwm, .act, .adc, .pad, .bus, .hay, .stb, .dsp, .seg, .thm, .sec, .flt, .dbg] l) (g3 : State.Frame l z x3) :
    State.FrameOut l z (execDbgMemRead x1 x2 x3) := by
  delta execDbgMemRead
  refine frame_next ?_
  refine State.vendor_frame (hl.sub rfl) ?_ ?_
  · exact g3
  · intro x1 h2
    exact State.memRead_frame (hl.sub rfl) h2

/-! ### PaddockCommands -/

theorem execFrostDemandOff_frame {x1} (hl : Covers [.regs, .pwr, .pad] l) (g1 : State.Frame l z x1) :
    State.FrameOut l z (execFrostDemandOff x1) := by
  delta execFrostDemandOff
  exact frame_next (State.padDo_frame (hl.sub rfl) g1)

theorem execPadStage_frame {x1} {x2} (hl : Covers [.spoke, .pad, .flt] l) (g2 : State.Frame l z x2) :
    State.FrameOut l z (execPadStage x1 x2) := by
  delta execPadStage
  refine frame_next ?_
  refine State.command_frame (hl.sub rfl) ?_ ?_
  · exact g2
  · intro x1 x3 x4 h2
    exact State.doPadStage_frame (hl.sub rfl) h2

theorem execArmed_frame {x1} (hl : Covers [.regs, .pwr, .pad] l) (g1 : State.Frame l z x1) :
    State.FrameOut l z (execArmed x1) := by
  delta execArmed
  exact frame_next (State.padDo_frame (hl.sub rfl) g1)

theorem execFrostDemandOn_frame {x1} (hl : Covers [.regs, .pwr, .pad] l) (g1 : State.Frame l z x1) :
    State.FrameOut l z (execFrostDemandOn x1) := by
  delta execFrostDemandOn
  exact frame_next (State.padDo_frame (hl.sub rfl) g1)

theorem execSafetyInputFilter_frame {x1} {x2} {x3} {x4} (hl : Covers [.regs, .pwr, .pad] l) (g4 : State.Frame l z x4) :
    State.FrameOut l z (execSafetyInputFilter x1 x2 x3 x4) := by
  delta execSafetyInputFilter
  exact frame_next (State.padDo_frame (hl.sub rfl) g4)

theorem execProofWindowOpen_frame {x1} {x2} (hl : Covers [.regs, .pwr, .pad] l) (g2 : State.Frame l z x2) :
    State.FrameOut l z (execProofWindowOpen x1 x2) := by
  delta execProofWindowOpen
  exact frame_next (State.padDo_frame (hl.sub rfl) g2)

theorem execPadCommitActivate_frame {x1} (hl : Covers [.regs, .pwr, .pad] l) (g1 : State.Frame l z x1) :
    State.FrameOut l z (execPadCommitActivate x1) := by
  delta execPadCommitActivate
  exact frame_next (State.padDo_frame (hl.sub rfl) g1)

theorem execPadCommit_frame {x1} {x2} (hl : Covers [.spoke, .pad, .flt] l) (g2 : State.Frame l z x2) :
    State.FrameOut l z (execPadCommit x1 x2) := by
  delta execPadCommit
  refine frame_next ?_
  refine State.command_frame (hl.sub rfl) ?_ ?_
  · exact g2
  · intro x1 x3 x4 h2
    exact State.doPadCommit_frame (hl.sub rfl) h2

theorem execPadProof_frame {x1} {x2} (hl : Covers [.spoke, .pad, .flt] l) (g2 : State.Frame l z x2) :
    State.FrameOut l z (execPadProof x1 x2) := by
  delta execPadProof
  refine frame_next ?_
  refine State.command_frame (hl.sub rfl) ?_ ?_
  · exact g2
  · intro x1 x3 x4 h2
    exact State.doPadProof_frame (hl.sub rfl) h2

theorem execPadPowerUp_frame {x1} (hl : Covers [.regs, .free, .pwr, .pad] l) (g1 : State.Frame l z x1) :
    State.FrameOut l z (execPadPowerUp x1) := by
  delta execPadPowerUp
  extract_lets -merge -underBinder +onlyGivenNames y1
  have h2 : State.Frame l z y1.2 := by subst y1; exact State.drawChallenge_frame (hl.sub rfl) g1
  try clear_value y1
  refine frame_next ?_
  refine State.mixFollow_frame (hl.sub rfl) ?_
  refine State.padSnapReset_frame (hl.sub rfl) ?_
  extract_lets -merge -underBinder +onlyGivenNames y3
  have h4 : State.Frame l z y3 := by subst y3; exact h2
  try clear_value y3
  exact h4.upd (m := [.pwr, .pad]) (hl.sub rfl) fun p hp => by cases p <;> first | exact absurd (by decide) hp | rfl

theorem execProofDeadline_frame {x1} {x2} (hl : Covers [.regs, .pwr, .pad] l) (g2 : State.Frame l z x2) :
    State.FrameOut l z (execProofDeadline x1 x2) := by
  delta execProofDeadline
  exact frame_next (State.padDo_frame (hl.sub rfl) g2)

theorem execRearmWindowEnd_frame {x1} (hl : Covers [.regs, .pwr, .pad] l) (g1 : State.Frame l z x1) :
    State.FrameOut l z (execRearmWindowEnd x1) := by
  delta execRearmWindowEnd
  exact frame_next (State.padDo_frame (hl.sub rfl) g1)

theorem execSltRelease_frame {x1} (hl : Covers [.regs, .pwr, .pad] l) (g1 : State.Frame l z x1) :
    State.FrameOut l z (execSltRelease x1) := by
  delta execSltRelease
  exact frame_next (State.padDo_frame (hl.sub rfl) g1)

theorem execHeartbeatResponse_frame {x1} {x2} (hl : Covers [.regs, .pwr, .pad] l) (g2 : State.Frame l z x2) :
    State.FrameOut l z (execHeartbeatResponse x1 x2) := by
  delta execHeartbeatResponse
  exact frame_next (State.padDo_frame (hl.sub rfl) g2)

theorem execPadRestart_frame {x1} {x2} (hl : Covers [.spoke, .pad, .flt] l) (g2 : State.Frame l z x2) :
    State.FrameOut l z (execPadRestart x1 x2) := by
  delta execPadRestart
  refine frame_next ?_
  refine State.command_frame (hl.sub rfl) ?_ ?_
  · exact g2
  · intro x1 x3 x4 h2
    exact State.doPadRestart_frame (hl.sub rfl) h2

theorem execWeld_frame {x1} {x2} (hl : Covers [.regs, .pwr, .pad] l) (g2 : State.Frame l z x2) :
    State.FrameOut l z (execWeld x1 x2) := by
  delta execWeld
  exact frame_next (State.padDo_frame (hl.sub rfl) g2)

theorem execLaneFault_frame {x1} (hl : Covers [.regs, .pwr, .pad] l) (g1 : State.Frame l z x1) :
    State.FrameOut l z (execLaneFault x1) := by
  delta execLaneFault
  exact frame_next (State.padDo_frame (hl.sub rfl) g1)

theorem execClkFault_frame {x1} (hl : Covers [.regs, .pwr, .pad] l) (g1 : State.Frame l z x1) :
    State.FrameOut l z (execClkFault x1) := by
  delta execClkFault
  exact frame_next (State.padDo_frame (hl.sub rfl) g1)

theorem execSltSens_frame {x1} (hl : Covers [.regs, .pwr, .pad] l) (g1 : State.Frame l z x1) :
    State.FrameOut l z (execSltSens x1) := by
  delta execSltSens
  exact frame_next (State.padDo_frame (hl.sub rfl) g1)

theorem execSdirRelease_frame {x1} (hl : Covers [.regs, .pwr, .pad] l) (g1 : State.Frame l z x1) :
    State.FrameOut l z (execSdirRelease x1) := by
  delta execSdirRelease
  exact frame_next (State.padDo_frame (hl.sub rfl) g1)

theorem execSlpFault_frame {x1} (hl : Covers [.regs, .pwr, .pad] l) (g1 : State.Frame l z x1) :
    State.FrameOut l z (execSlpFault x1) := by
  delta execSlpFault
  exact frame_next (State.padDo_frame (hl.sub rfl) g1)

theorem execDiscrepant_frame {x1} {x2} (hl : Covers [.regs, .pwr, .pad] l) (g2 : State.Frame l z x2) :
    State.FrameOut l z (execDiscrepant x1 x2) := by
  delta execDiscrepant
  exact frame_next (State.padDo_frame (hl.sub rfl) g2)

theorem execPadCancel_frame {x1} {x2} (hl : Covers [.spoke, .pad, .flt] l) (g2 : State.Frame l z x2) :
    State.FrameOut l z (execPadCancel x1 x2) := by
  delta execPadCancel
  refine frame_next ?_
  refine State.command_frame (hl.sub rfl) ?_ ?_
  · exact g2
  · intro x1 x3 x4 h2
    exact State.doPadCancel_frame (hl.sub rfl) h2

theorem execVddPadLoss_frame {x1} (hl : Covers [.regs, .free, .pwr, .pad] l) (g1 : State.Frame l z x1) :
    State.FrameOut l z (execVddPadLoss x1) := by
  delta execVddPadLoss
  extract_lets -merge -underBinder +onlyGivenNames y1
  have h2 : State.Frame l z y1.2 := by subst y1; exact State.draw_frame (hl.sub rfl) g1
  try clear_value y1
  extract_lets -merge -underBinder +onlyGivenNames y3
  have h4 : State.Frame l z y3.2 := by subst y3; exact State.draw_frame (hl.sub rfl) h2
  try clear_value y3
  refine frame_next ?_
  refine State.mixFollow_frame (hl.sub rfl) ?_
  extract_lets -merge -underBinder +onlyGivenNames y5
  have h6 : State.Frame l z y5 := by subst y5; exact h4
  try clear_value y5
  exact h6.upd (m := [.pwr, .pad]) (hl.sub rfl) fun p hp => by cases p <;> first | exact absurd (by decide) hp | rfl

theorem execFbFault_frame {x1} {x2} (hl : Covers [.regs, .pwr, .pad] l) (g2 : State.Frame l z x2) :
    State.FrameOut l z (execFbFault x1 x2) := by
  delta execFbFault
  exact frame_next (State.padDo_frame (hl.sub rfl) g2)

theorem execProofTestEnd_frame {x1} {x2} (hl : Covers [.regs, .pwr, .pad] l) (g2 : State.Frame l z x2) :
    State.FrameOut l z (execProofTestEnd x1 x2) := by
  delta execProofTestEnd
  exact frame_next (State.padDo_frame (hl.sub rfl) g2)

theorem execSltTrip_frame {x1} (hl : Covers [.regs, .pwr, .pad] l) (g1 : State.Frame l z x1) :
    State.FrameOut l z (execSltTrip x1) := by
  delta execSltTrip
  exact frame_next (State.padDo_frame (hl.sub rfl) g1)

theorem execStagedBlockExpire_frame {x1} (hl : Covers [.regs, .pwr, .pad] l) (g1 : State.Frame l z x1) :
    State.FrameOut l z (execStagedBlockExpire x1) := by
  delta execStagedBlockExpire
  exact frame_next (State.padDo_frame (hl.sub rfl) g1)

theorem execHeartbeatLapse_frame {x1} (hl : Covers [.regs, .pwr, .pad] l) (g1 : State.Frame l z x1) :
    State.FrameOut l z (execHeartbeatLapse x1) := by
  delta execHeartbeatLapse
  exact frame_next (State.padDo_frame (hl.sub rfl) g1)

theorem execRoundEnd_frame {x1} {x2} (hl : Covers [.regs, .free, .pwr, .pad] l) (g2 : State.Frame l z x2) :
    State.FrameOut l z (execRoundEnd x1 x2) := by
  delta execRoundEnd
  exact frame_next (State.padRound_frame (hl.sub rfl) g2)

/-! ### StableCommands -/

theorem execStbCacheWrite_frame {x1} {x2} (hl : Covers [.regs] l) (g2 : State.Frame l z x2) :
    State.FrameOut l z (execStbCacheWrite x1 x2) := by
  delta execStbCacheWrite
  exact frame_next (State.cacheHook_frame (hl.sub rfl) (State.wr_frame (hl.sub rfl) g2))

theorem execStbFeed_frame {x1} {x2} (hl : Covers [.spoke, .stb, .flt] l) (g2 : State.Frame l z x2) :
    State.FrameOut l z (execStbFeed x1 x2) := by
  delta execStbFeed
  refine frame_next ?_
  refine State.command_frame (hl.sub rfl) ?_ ?_
  · exact g2
  · intro x1 x3 x4 h2
    exact State.doStbFeed_frame (hl.sub rfl) h2

theorem execStbLoadData_frame {x1} {x2} (hl : Covers [.spoke, .stb, .flt] l) (g2 : State.Frame l z x2) :
    State.FrameOut l z (execStbLoadData x1 x2) := by
  delta execStbLoadData
  refine frame_next ?_
  refine State.command_frame (hl.sub rfl) ?_ ?_
  · exact g2
  · intro x1 x3 x4 h2
    exact State.doStbLoadData_frame (hl.sub rfl) h2

theorem execCacheSwitch_frame {x1} (hl : Covers [.regs, .free, .spoke, .stb] l) (g1 : State.Frame l z x1) :
    State.FrameOut l z (execCacheSwitch x1) := by
  delta execCacheSwitch
  exact frame_next (State.cacheSwitch_frame (hl.sub rfl) g1)

theorem execScrub_frame {x1} {x2} (hl : Covers [.regs, .spoke, .stb, .flt] l) (g2 : State.Frame l z x2) :
    State.FrameOut l z (execScrub x1 x2) := by
  delta execScrub
  refine frame_next ?_
  refine frame_ite ?_ ?_
  · exact g2
  · exact State.scrubWord_frame (hl.sub rfl) g2

theorem execNarrowAccess_frame {x1} {x2} {x3} {x4} {x5} (hl : Covers [.regs, .free, .spoke, .stb, .flt, .dbg] l) (g5 : State.Frame l z x5) :
    State.FrameOut l z (execNarrowAccess x1 x2 x3 x4 x5) := by
  delta execNarrowAccess
  refine frame_next ?_
  refine frame_ite ?_ ?_
  · exact State.cacheAccess_frame (hl.sub rfl) g5
  · split
    · exact State.narrowWrite_frame (hl.sub rfl) g5
    · exact State.narrowRead_frame (hl.sub rfl) g5

theorem execStbLoadEnd_frame {x1} {x2} (hl : Covers [.regs, .spoke, .stb, .flt] l) (g2 : State.Frame l z x2) :
    State.FrameOut l z (execStbLoadEnd x1 x2) := by
  delta execStbLoadEnd
  refine frame_next ?_
  refine State.command_frame (hl.sub rfl) ?_ ?_
  · exact g2
  · intro x1 x3 x4 h2
    exact State.doStbLoadEnd_frame (hl.sub rfl) h2

theorem execStbTaskStart_frame {x1} {x2} (hl : Covers [.regs, .spoke, .stb, .flt] l) (g2 : State.Frame l z x2) :
    State.FrameOut l z (execStbTaskStart x1 x2) := by
  delta execStbTaskStart
  refine frame_next ?_
  refine State.command_frame (hl.sub rfl) ?_ ?_
  · exact g2
  · intro x1 x3 x4 h2
    exact State.doStbTaskStart_frame (hl.sub rfl) h2

theorem execRowRepairCopy_frame {x1} {x2} (hl : Covers [.regs, .spoke, .stb, .flt] l) (g2 : State.Frame l z x2) :
    State.FrameOut l z (execRowRepairCopy x1 x2) := by
  delta execRowRepairCopy
  refine frame_next ?_
  refine frame_ite ?_ ?_
  · exact g2
  · exact State.rowCopy_frame (hl.sub rfl) g2

theorem execStbLoadBegin_frame {x1} {x2} (hl : Covers [.regs, .spoke, .stb, .flt] l) (g2 : State.Frame l z x2) :
    State.FrameOut l z (execStbLoadBegin x1 x2) := by
  delta execStbLoadBegin
  refine frame_next ?_
  refine State.command_frame (hl.sub rfl) ?_ ?_
  · exact g2
  · intro x1 x3 x4 h2
    exact State.doStbLoadBegin_frame (hl.sub rfl) h2

theorem execStbTaskStop_frame {x1} {x2} (hl : Covers [.regs, .spoke, .stb, .flt] l) (g2 : State.Frame l z x2) :
    State.FrameOut l z (execStbTaskStop x1 x2) := by
  delta execStbTaskStop
  refine frame_next ?_
  refine State.command_frame (hl.sub rfl) ?_ ?_
  · exact g2
  · intro x1 x3 x4 h2
    exact State.doStbTaskStop_frame (hl.sub rfl) h2

theorem execStbAuditWrite_frame {x1} {x2} (hl : Covers [.regs, .spoke, .stb, .flt] l) (g2 : State.Frame l z x2) :
    State.FrameOut l z (execStbAuditWrite x1 x2) := by
  delta execStbAuditWrite
  exact frame_next (State.auditHook_frame (hl.sub rfl) (State.wr_frame (hl.sub rfl) g2))

theorem execStallWindowClose_frame {x1} (hl : Covers [.regs, .spoke, .stb, .flt] l) (g1 : State.Frame l z x1) :
    State.FrameOut l z (execStallWindowClose x1) := by
  delta execStallWindowClose
  exact frame_next (State.stbClose_frame (hl.sub rfl) g1)

theorem State.opRow_frame {x1} {x2} {x3} {x4} {x5} (hl : Covers [.regs, .spoke, .stb, .flt] l) (g1 : State.Frame l z x1) :
    State.Frame l z (State.opRow x1 x2 x3 x4 x5) := by
  delta State.opRow
  refine frame_ite ?_ ?_
  · exact g1
  · exact State.runOp_frame (hl.sub rfl) g1

theorem execNop_frame {x1} {x2} {x3} {x4} (hl : Covers [.regs, .spoke, .stb, .flt] l) (g4 : State.Frame l z x4) :
    State.FrameOut l z (execNop x1 x2 x3 x4) := by
  delta execNop
  exact frame_next (State.opRow_frame (hl.sub rfl) g4)

theorem execNsend_frame {x1} {x2} {x3} {x4} (hl : Covers [.regs, .spoke, .stb, .flt] l) (g4 : State.Frame l z x4) :
    State.FrameOut l z (execNsend x1 x2 x3 x4) := by
  delta execNsend
  exact frame_next (State.opRow_frame (hl.sub rfl) g4)

theorem execStore_frame {x1} {x2} {x3} {x4} (hl : Covers [.regs, .spoke, .stb, .flt] l) (g4 : State.Frame l z x4) :
    State.FrameOut l z (execStore x1 x2 x3 x4) := by
  delta execStore
  exact frame_next (State.opRow_frame (hl.sub rfl) g4)

theorem execTload_frame {x1} {x2} {x3} {x4} (hl : Covers [.regs, .spoke, .stb, .flt] l) (g4 : State.Frame l z x4) :
    State.FrameOut l z (execTload x1 x2 x3 x4) := by
  delta execTload
  exact frame_next (State.opRow_frame (hl.sub rfl) g4)

theorem execMact_frame {x1} {x2} {x3} {x4} (hl : Covers [.regs, .spoke, .stb, .flt] l) (g4 : State.Frame l z x4) :
    State.FrameOut l z (execMact x1 x2 x3 x4) := by
  delta execMact
  exact frame_next (State.opRow_frame (hl.sub rfl) g4)

theorem execPool_frame {x1} {x2} {x3} {x4} (hl : Covers [.regs, .spoke, .stb, .flt] l) (g4 : State.Frame l z x4) :
    State.FrameOut l z (execPool x1 x2 x3 x4) := by
  delta execPool
  exact frame_next (State.opRow_frame (hl.sub rfl) g4)

theorem execAct_frame {x1} {x2} {x3} {x4} (hl : Covers [.regs, .spoke, .stb, .flt] l) (g4 : State.Frame l z x4) :
    State.FrameOut l z (execAct x1 x2 x3 x4) := by
  delta execAct
  exact frame_next (State.opRow_frame (hl.sub rfl) g4)

theorem execSetr_frame {x1} {x2} {x3} {x4} (hl : Covers [.regs, .spoke, .stb, .flt] l) (g4 : State.Frame l z x4) :
    State.FrameOut l z (execSetr x1 x2 x3 x4) := by
  delta execSetr
  exact frame_next (State.opRow_frame (hl.sub rfl) g4)

theorem execRadv_frame {x1} {x2} {x3} {x4} (hl : Covers [.regs, .spoke, .stb, .flt] l) (g4 : State.Frame l z x4) :
    State.FrameOut l z (execRadv x1 x2 x3 x4) := by
  delta execRadv
  exact frame_next (State.opRow_frame (hl.sub rfl) g4)

theorem execAddr_frame {x1} {x2} {x3} {x4} (hl : Covers [.regs, .spoke, .stb, .flt] l) (g4 : State.Frame l z x4) :
    State.FrameOut l z (execAddr x1 x2 x3 x4) := by
  delta execAddr
  exact frame_next (State.opRow_frame (hl.sub rfl) g4)

theorem execLoop_frame {x1} {x2} {x3} {x4} (hl : Covers [.regs, .spoke, .stb, .flt] l) (g4 : State.Frame l z x4) :
    State.FrameOut l z (execLoop x1 x2 x3 x4) := by
  delta execLoop
  exact frame_next (State.opRow_frame (hl.sub rfl) g4)

theorem execMove_frame {x1} {x2} {x3} {x4} (hl : Covers [.regs, .spoke, .stb, .flt] l) (g4 : State.Frame l z x4) :
    State.FrameOut l z (execMove x1 x2 x3 x4) := by
  delta execMove
  exact frame_next (State.opRow_frame (hl.sub rfl) g4)

theorem execWaitt_frame {x1} {x2} {x3} {x4} (hl : Covers [.regs, .spoke, .stb, .flt] l) (g4 : State.Frame l z x4) :
    State.FrameOut l z (execWaitt x1 x2 x3 x4) := by
  delta execWaitt
  exact frame_next (State.opRow_frame (hl.sub rfl) g4)

theorem execOpEnd_frame {x1} {x2} {x3} {x4} (hl : Covers [.regs, .spoke, .stb, .flt] l) (g4 : State.Frame l z x4) :
    State.FrameOut l z (execOpEnd x1 x2 x3 x4) := by
  delta execOpEnd
  exact frame_next (State.opRow_frame (hl.sub rfl) g4)

theorem execRwait_frame {x1} {x2} {x3} {x4} (hl : Covers [.regs, .spoke, .stb, .flt] l) (g4 : State.Frame l z x4) :
    State.FrameOut l z (execRwait x1 x2 x3 x4) := by
  delta execRwait
  exact frame_next (State.opRow_frame (hl.sub rfl) g4)

theorem execJump_frame {x1} {x2} {x3} {x4} (hl : Covers [.regs, .spoke, .stb, .flt] l) (g4 : State.Frame l z x4) :
    State.FrameOut l z (execJump x1 x2 x3 x4) := by
  delta execJump
  exact frame_next (State.opRow_frame (hl.sub rfl) g4)

/-! ### ThermalCommands -/

theorem execCutSensorRelease_frame {x1} (hl : Covers [.thm] l) (g1 : State.Frame l z x1) :
    State.FrameOut l z (execCutSensorRelease x1) := by
  delta execCutSensorRelease
  exact frame_next (g1.thm (hl .thm (by decide)))

theorem execLevelTakesEffect_frame {x1} (hl : Covers [.regs, .cad, .spoke, .thm, .flt] l) (g1 : State.Frame l z x1) :
    State.FrameOut l z (execLevelTakesEffect x1) := by
  delta execLevelTakesEffect
  exact frame_next (State.thmLap_frame (hl.sub rfl) g1)

theorem execRiseActEnd_frame {x1} (hl : Covers [.regs, .spoke, .thm] l) (g1 : State.Frame l z x1) :
    State.FrameOut l z (execRiseActEnd x1) := by
  delta execRiseActEnd
  refine frame_next ?_
  refine frame_ite ?_ ?_
  · exact State.riseAct_frame (hl.sub rfl) g1
  · exact g1

theorem execLevelFall_frame {x1} (hl : Covers [.regs, .spoke, .thm, .flt] l) (g1 : State.Frame l z x1) :
    State.FrameOut l z (execLevelFall x1) := by
  delta execLevelFall
  refine frame_next ?_
  refine frame_ite ?_ ?_
  · exact State.enforcedTold_frame (hl.sub rfl) (State.levelFall_frame (hl.sub rfl) g1)
  · exact g1

theorem execRiseAlarm_frame {x1} (hl : Covers [.regs, .spoke, .flt] l) (g1 : State.Frame l z x1) :
    State.FrameOut l z (execRiseAlarm x1) := by
  delta execRiseAlarm
  refine frame_next ?_
  refine frame_ite ?_ ?_
  · exact State.riseAlarm_frame (hl.sub rfl) g1
  · exact g1

theorem execGraceExpire_frame {x1} (hl : Covers [.regs, .spoke, .thm, .flt] l) (g1 : State.Frame l z x1) :
    State.FrameOut l z (execGraceExpire x1) := by
  delta execGraceExpire
  extract_lets -merge -underBinder +onlyGivenNames y1
  refine frame_next ?_
  refine frame_ite ?_ ?_
  · refine State.enforcedTold_frame (hl.sub rfl) ?_
    extract_lets -merge -underBinder +onlyGivenNames y2
    have h3 : State.Frame l z y2 := by subst y2; exact State.wr_frame (hl.sub rfl) g1
    try clear_value y2
    exact h3.thm (hl .thm (by decide))
  · exact g1

theorem execThmFloor_frame {x1} {x2} (hl : Covers [.regs, .spoke, .thm, .flt] l) (g2 : State.Frame l z x2) :
    State.FrameOut l z (execThmFloor x1 x2) := by
  delta execThmFloor
  refine frame_next ?_
  refine State.command_frame (hl.sub rfl) ?_ ?_
  · exact g2
  · intro x1 x3 x4 h2
    exact State.doThmFloor_frame (hl.sub rfl) h2

theorem execCutSensorTrip_frame {x1} (hl : Covers [.regs, .free, .cad, .pwr, .spoke, .host, .console, .zones, .pwm, .act, .adc, .pad, .bus, .hay, .stb, .dsp, .seg, .thm, .sec, .flt, .dbg] l) (g1 : State.Frame l z x1) :
    State.FrameOut l z (execCutSensorTrip x1) := by
  delta execCutSensorTrip
  exact frame_next (State.cutTrip_frame (hl.sub rfl) g1)

theorem execThermStop_frame {x1} (hl : Covers [.regs, .free, .cad, .pwr, .spoke, .host, .console, .zones, .pwm, .act, .adc, .pad, .bus, .hay, .stb, .dsp, .seg, .thm, .sec, .flt, .dbg] l) (g1 : State.Frame l z x1) :
    State.FrameOut l z (execThermStop x1) := by
  delta execThermStop
  exact frame_next (State.thermStop_frame (hl.sub rfl) g1)

/-! ### PanelCommands -/

theorem execSegWrite_frame {x1} {x2} (hl : Covers [.spoke, .seg, .flt] l) (g2 : State.Frame l z x2) :
    State.FrameOut l z (execSegWrite x1 x2) := by
  delta execSegWrite
  refine frame_next ?_
  refine State.command_frame (hl.sub rfl) ?_ ?_
  · exact g2
  · intro x1 x3 x4 h2
    exact State.doSegWrite_frame (hl.sub rfl) h2

theorem execSegCfgWrite_frame {x1} {x2} (hl : Covers [.regs] l) (g2 : State.Frame l z x2) :
    State.FrameOut l z (execSegCfgWrite x1 x2) := by
  delta execSegCfgWrite
  refine frame_next ?_
  refine frame_ite ?_ ?_
  · exact State.setRw_frame (hl.sub rfl) g2
  · exact g2

theorem execDspGammaWrite_frame {x1} {x2} {x3} (hl : Covers [.regs] l) (g3 : State.Frame l z x3) :
    State.FrameOut l z (execDspGammaWrite x1 x2 x3) := by
  delta execDspGammaWrite
  extract_lets -merge -underBinder +onlyGivenNames y1
  refine frame_next ?_
  refine frame_ite ?_ ?_
  · exact State.setRw_frame (hl.sub rfl) g3
  · exact g3

theorem execAltPattern_frame {x1} (hl : Covers [.regs, .spoke, .seg] l) (g1 : State.Frame l z x1) :
    State.FrameOut l z (execAltPattern x1) := by
  delta execAltPattern
  exact frame_next (State.segAlt_frame (hl.sub rfl) g1)

theorem execLossTStop_frame {x1} (hl : Covers [.regs, .spoke] l) (g1 : State.Frame l z x1) :
    State.FrameOut l z (execLossTStop x1) := by
  delta execLossTStop
  refine frame_next ?_
  refine frame_ite ?_ ?_
  · exact State.lossStop_frame (hl.sub rfl) g1
  · exact g1

theorem execDspLwWrite_frame {x1} {x2} (hl : Covers [.spoke, .dsp, .flt] l) (g2 : State.Frame l z x2) :
    State.FrameOut l z (execDspLwWrite x1 x2) := by
  delta execDspLwWrite
  refine frame_next ?_
  refine State.command_frame (hl.sub rfl) ?_ ?_
  · exact g2
  · intro x1 x3 x4 h2
    exact State.doDspLwWrite_frame (hl.sub rfl) h2

theorem execDspWrite_frame {x1} {x2} (hl : Covers [.spoke, .dsp, .flt] l) (g2 : State.Frame l z x2) :
    State.FrameOut l z (execDspWrite x1 x2) := by
  delta execDspWrite
  refine frame_next ?_
  refine State.command_frame (hl.sub rfl) ?_ ?_
  · exact g2
  · intro x1 x3 x4 h2
    exact State.doDspWrite_frame (hl.sub rfl) h2

theorem execSegShow_frame {x1} {x2} (hl : Covers [.spoke, .seg, .flt] l) (g2 : State.Frame l z x2) :
    State.FrameOut l z (execSegShow x1 x2) := by
  delta execSegShow
  refine frame_next ?_
  refine State.command_frame (hl.sub rfl) ?_ ?_
  · exact g2
  · intro x1 x3 x4 h2
    exact State.doSegShow_frame (hl.sub rfl) h2

theorem execDspFill_frame {x1} {x2} (hl : Covers [.spoke, .dsp, .flt] l) (g2 : State.Frame l z x2) :
    State.FrameOut l z (execDspFill x1 x2) := by
  delta execDspFill
  refine frame_next ?_
  refine State.command_frame (hl.sub rfl) ?_ ?_
  · exact g2
  · intro x1 x3 x4 h2
    exact State.doDspFill_frame (hl.sub rfl) h2

theorem execDspPresent_frame {x1} {x2} (hl : Covers [.spoke, .dsp, .flt] l) (g2 : State.Frame l z x2) :
    State.FrameOut l z (execDspPresent x1 x2) := by
  delta execDspPresent
  refine frame_next ?_
  refine State.command_frame (hl.sub rfl) ?_ ?_
  · exact g2
  · intro x1 x3 x4 h2
    exact State.doDspPresent_frame (hl.sub rfl) h2

theorem execSegmentSwap_frame {x1} (hl : Covers [.regs, .seg] l) (g1 : State.Frame l z x1) :
    State.FrameOut l z (execSegmentSwap x1) := by
  delta execSegmentSwap
  exact frame_next (State.segSwap_frame (hl.sub rfl) g1)

theorem execSegmentRestart_frame {x1} (hl : Covers [.regs, .spoke, .seg] l) (g1 : State.Frame l z x1) :
    State.FrameOut l z (execSegmentRestart x1) := by
  delta execSegmentRestart
  exact frame_next (State.segRestart_frame (hl.sub rfl) g1)

theorem execDspMode_frame {x1} {x2} (hl : Covers [.spoke, .dsp, .flt] l) (g2 : State.Frame l z x2) :
    State.FrameOut l z (execDspMode x1 x2) := by
  delta execDspMode
  refine frame_next ?_
  refine State.command_frame (hl.sub rfl) ?_ ?_
  · exact g2
  · intro x1 x3 x4 h2
    exact State.doDspMode_frame (hl.sub rfl) h2

theorem execVlcdLow_frame {x1} (hl : Covers [.regs, .spoke, .flt] l) (g1 : State.Frame l z x1) :
    State.FrameOut l z (execVlcdLow x1) := by
  delta execVlcdLow
  exact frame_next (State.vlcdLow_frame (hl.sub rfl) g1)

theorem execVlcdLowEnd_frame {x1} (hl : Covers [.regs, .spoke, .flt] l) (g1 : State.Frame l z x1) :
    State.FrameOut l z (execVlcdLowEnd x1) := by
  delta execVlcdLowEnd
  exact frame_next (State.vlcdLow_frame (hl.sub rfl) g1)

theorem execDischargeEnd_frame {x1} (hl : Covers [.regs, .spoke, .dsp, .flt] l) (g1 : State.Frame l z x1) :
    State.FrameOut l z (execDischargeEnd x1) := by
  delta execDischargeEnd
  exact frame_next (State.dischargeEnd_frame (hl.sub rfl) g1)

theorem execPanelPowerOnStep_frame {x1} {x2} {x3} (hl : Covers [.regs, .pwr, .spoke, .dsp, .flt] l) (g3 : State.Frame l z x3) :
    State.FrameOut l z (execPanelPowerOnStep x1 x2 x3) := by
  delta execPanelPowerOnStep
  exact frame_next (State.powerOnStep_frame (hl.sub rfl) g3)

theorem execPowerGoodLow_frame {x1} (hl : Covers [.regs, .pwr, .spoke, .dsp, .flt] l) (g1 : State.Frame l z x1) :
    State.FrameOut l z (execPowerGoodLow x1) := by
  delta execPowerGoodLow
  exact frame_next (State.powerGoodLow_frame (hl.sub rfl) g1)

theorem execAbruptOff_frame {x1} (hl : Covers [.regs, .pwr, .spoke, .dsp, .flt] l) (g1 : State.Frame l z x1) :
    State.FrameOut l z (execAbruptOff x1) := by
  delta execAbruptOff
  exact frame_next (State.abruptOff_frame (hl.sub rfl) g1)

theorem execVsrcFail_frame {x1} (hl : Covers [.regs, .pwr, .spoke, .dsp, .flt] l) (g1 : State.Frame l z x1) :
    State.FrameOut l z (execVsrcFail x1) := by
  delta execVsrcFail
  exact frame_next (State.vsrcFail_frame (hl.sub rfl) g1)

theorem execOrderlyOff_frame {x1} (hl : Covers [.regs, .spoke, .dsp, .flt] l) (g1 : State.Frame l z x1) :
    State.FrameOut l z (execOrderlyOff x1) := by
  delta execOrderlyOff
  exact frame_next (State.orderlyStep_frame (hl.sub rfl) g1)

theorem execPanelLapEdge_frame {x1} (hl : Covers [.regs, .spoke, .dsp, .flt] l) (g1 : State.Frame l z x1) :
    State.FrameOut l z (execPanelLapEdge x1) := by
  delta execPanelLapEdge
  exact frame_next (State.panelLap_frame (hl.sub rfl) g1)

theorem execDspPower_frame {x1} {x2} (hl : Covers [.regs, .free, .pwr, .spoke, .console, .hay, .dsp, .sec, .flt] l) (g2 : State.Frame l z x2) :
    State.FrameOut l z (execDspPower x1 x2) := by
  delta execDspPower
  refine frame_next ?_
  refine State.command_frame (hl.sub rfl) ?_ ?_
  · exact g2
  · intro x1 x3 x4 h2
    exact State.doDspPower_frame (hl.sub rfl) h2

/-! ### Spoke -/

theorem State.infoClear_frame {x1} {x2} (hl : Covers [.spoke] l) (g1 : State.Frame l z x1) :
    State.Frame l z (State.infoClear x1 x2) := by
  delta State.infoClear
  extract_lets -merge -underBinder +onlyGivenNames y1 y2 y3
  have h4 : State.Frame l z y3 := by subst y3; exact g1.spoke (hl .spoke (by decide))
  try clear_value y3
  exact State.modChan_frame (hl.sub rfl) h4

theorem State.baudChanges_frame {x1} (hl : Covers [.host] l) (g1 : State.Frame l z x1) :
    State.Frame l z (State.baudChanges x1) := by
  delta State.baudChanges
  split
  · exact g1
  · refine frame_ite ?_ ?_
    · exact g1.host (hl .host (by decide))
    · exact g1

theorem State.spiPreamble_frame {x1} (hl : Covers [.host] l) (g1 : State.Frame l z x1) :
    State.Frame l z (State.spiPreamble x1).2 := by
  delta State.spiPreamble
  exact frame_mk_snd (g1.host (hl .host (by decide)))

theorem State.hostFill_frame {s k} (hl : Covers [.spoke, .host] l) (h : State.Frame l z s) : State.Frame l z (State.hostFill s k) := by
  induction k generalizing s with
  | zero => exact h
  | succ k ih =>
    unfold State.hostFill
    split
    · exact h
    · split
      · exact h
      · exact frame_ite (ih (State.popOut_frame (hl.sub rfl) (h.host (hl .host (by decide))))) h

theorem State.txTake_frame {x1} {x2} (hl : Covers [.host] l) (g1 : State.Frame l z x1) :
    State.Frame l z (State.txTake x1 x2).2 := by
  delta State.txTake
  extract_lets -merge -underBinder +onlyGivenNames y1
  exact frame_mk_snd (g1.host (hl .host (by decide)))

theorem State.irqUpdate_frame {x1} (hl : Covers [.host] l) (g1 : State.Frame l z x1) :
    State.Frame l z (State.irqUpdate x1) := by
  delta State.irqUpdate
  refine frame_ite ?_ ?_
  · exact g1.host (hl .host (by decide))
  · exact g1

theorem State.uartSlot_frame {x1} (hl : Covers [.host] l) (g1 : State.Frame l z x1) :
    State.Frame l z (State.uartSlot x1) := by
  delta State.uartSlot
  refine frame_ite ?_ ?_
  · extract_lets -merge -underBinder +onlyGivenNames y1
    have h2 : State.Frame l z y1 := by
      subst y1
      refine frame_ite ?_ ?_
      · exact State.txTake_frame (hl.sub rfl) g1
      · exact g1
    try clear_value y1
    exact h2.host (hl .host (by decide))
  · exact g1

theorem State.enqueue_frame {x1} {x2} (hl : Covers [.spoke] l) (g1 : State.Frame l z x1) :
    State.Frame l z (State.enqueue x1 x2) := by
  delta State.enqueue
  extract_lets -merge -underBinder +onlyGivenNames y1
  have h2 : State.Frame l z y1 := by
    subst y1
    refine frame_ite ?_ ?_
    · exact State.helloAdmit_frame (hl.sub rfl) g1
    · exact g1
  try clear_value y1
  exact State.modChan_frame (hl.sub rfl) h2

theorem State.spi_frame {x1} {x2} (hl : Covers [.host] l) (g1 : State.Frame l z x1) (g2 : ∀ z1, State.Frame l z z1 → State.Frame l z (x2 z1).2) :
    State.Frame l z (State.spi x1 x2) := by
  delta State.spi
  refine frame_ite ?_ ?_
  · extract_lets -merge -underBinder +onlyGivenNames y1
    have h2 : State.Frame l z y1.2 := by subst y1; exact State.spiPreamble_frame (hl.sub rfl) g1
    try clear_value y1
    extract_lets -merge -underBinder +onlyGivenNames y3
    have h4 : State.Frame l z y3.2 := by
      subst y3
      refine g2 _ ?_
      exact h2
    try clear_value y3
    extract_lets -merge -underBinder +onlyGivenNames y5
    have h6 : State.Frame l z y5 := by subst y5; exact h4
    try clear_value y5
    exact h6.host (hl .host (by decide))
  · exact g1.host (hl .host (by decide))

theorem State.hostRx_frame {x1} {x2} (hl : Covers [.host] l) (g1 : State.Frame l z x1) (g2 : ∀ z1, State.Frame l z z1 → State.Frame l z (x2 z1)) :
    State.Frame l z (State.hostRx x1 x2) := by
  delta State.hostRx
  extract_lets -merge -underBinder +onlyGivenNames y1
  have h2 : State.Frame l z y1 := by
    subst y1
    refine g2 _ ?_
    exact g1
  try clear_value y1
  refine frame_ite ?_ ?_
  · exact h2.host (hl .host (by decide))
  · exact h2

theorem State.loudEnds_frame {x1} {x2} (hl : Covers [.dbg] l) (g1 : State.Frame l z x1) :
    State.Frame l z (State.loudEnds x1 x2) := by
  delta State.loudEnds
  refine frame_ite ?_ ?_
  · exact g1.dbg (hl .dbg (by decide))
  · exact g1

theorem State.doSubscribe_frame {x1} {x2} {x3} (hl : Covers [.spoke, .flt] l) (g1 : State.Frame l z x1) :
    State.Frame l z (State.doSubscribe x1 x2 x3) := by
  delta State.doSubscribe
  extract_lets -merge -underBinder +onlyGivenNames y1
  refine State.checked_frame (hl.sub rfl) ?_ ?_
  · exact g1
  · intro x2 h3
    exact State.modChan_frame (hl.sub rfl) (State.ok_frame (hl.sub rfl) h3)

theorem State.doSessionOpen_frame {x1} {x2} {x3} (hl : Covers [.spoke, .flt] l) (g1 : State.Frame l z x1) :
    State.Frame l z (State.doSessionOpen x1 x2 x3) := by
  delta State.doSessionOpen
  refine State.checked_frame (hl.sub rfl) ?_ ?_
  · exact g1
  · intro x1 h2
    extract_lets -merge -underBinder +onlyGivenNames y3
    have h4 : State.Frame l z y3 := by subst y3; exact State.modChan_frame (hl.sub rfl) h2
    try clear_value y3
    exact State.ok_frame (hl.sub rfl) h4

theorem State.spiWrite_frame {x1} {x2} {x3} (hl : Covers [.spoke, .host] l) (g1 : State.Frame l z x1) :
    State.Frame l z (State.spiWrite x1 x2 x3) := by
  delta State.spiWrite
  extract_lets -merge -underBinder +onlyGivenNames y1
  refine State.spi_frame (hl.sub rfl) ?_ ?_
  · exact g1
  · intro x2 h3
    refine frame_mk_snd ?_
    refine frame_ite ?_ ?_
    · exact h3.host (hl .host (by decide))
    · refine frame_ite ?_ ?_
      · exact h3.host (hl .host (by decide))
      · refine State.hostRx_frame (hl.sub rfl) ?_ ?_
        · exact h3
        · intro x4 h5
          exact State.rxBytes_frame (hl.sub rfl) h5

theorem State.doSessionInfo_frame {x1} {x2} {x3} (hl : Covers [.spoke, .flt] l) (g1 : State.Frame l z x1) :
    State.Frame l z (State.doSessionInfo x1 x2 x3) := by
  delta State.doSessionInfo
  refine State.checked_frame (hl.sub rfl) ?_ ?_
  · exact g1
  · intro x1 h2
    extract_lets -merge -underBinder +onlyGivenNames y3 y4 y5 y6 y7
    refine State.ok_frame (hl.sub rfl) ?_
    refine State.when_frame ?_ ?_
    · exact h2
    · intro x8 h9
      exact State.infoClear_frame (hl.sub rfl) h9

theorem State.spiRead_frame {x1} {x2} {x3} (hl : Covers [.host] l) (g1 : State.Frame l z x1) :
    State.Frame l z (State.spiRead x1 x2 x3) := by
  delta State.spiRead
  refine State.spi_frame (hl.sub rfl) ?_ ?_
  · exact g1
  · intro x1 h2
    extract_lets -merge -underBinder +onlyGivenNames y3 y4
    have h5 : State.Frame l z y4.2 := by subst y4; exact State.txTake_frame (hl.sub rfl) h2
    try clear_value y4
    exact frame_mk_snd h5

theorem State.uartByte_frame {x1} {x2} (hl : Covers [.spoke, .host] l) (g1 : State.Frame l z x1) :
    State.Frame l z (State.uartByte x1 x2) := by
  delta State.uartByte
  refine State.hostRx_frame (hl.sub rfl) ?_ ?_
  · exact g1
  · intro x1 h2
    refine frame_ite ?_ ?_
    · exact State.rxDiscard_frame (hl.sub rfl) h2
    · exact State.rxBytes_frame (hl.sub rfl) h2

theorem State.doHostBaud_frame {x1} {x2} {x3} (hl : Covers [.spoke, .host, .flt] l) (g1 : State.Frame l z x1) :
    State.Frame l z (State.doHostBaud x1 x2 x3) := by
  delta State.doHostBaud
  refine State.checked_frame (hl.sub rfl) ?_ ?_
  · exact g1
  · intro x1 h2
    extract_lets -merge -underBinder +onlyGivenNames y3
    have h4 : State.Frame l z y3 := by subst y3; exact State.ok_frame (hl.sub rfl) h2
    try clear_value y3
    exact h4.host (hl .host (by decide))

theorem State.framingDiscard_frame {x1} {x2} (hl : Covers [.spoke, .host] l) (g1 : State.Frame l z x1) :
    State.Frame l z (State.framingDiscard x1 x2) := by
  delta State.framingDiscard
  extract_lets -merge -underBinder +onlyGivenNames y1
  exact State.setRx_frame (hl.sub rfl) g1

theorem State.closeChan_frame {x1} {x2} (hl : Covers [.spoke, .dbg] l) (g1 : State.Frame l z x1) :
    State.Frame l z (State.closeChan x1 x2) := by
  delta State.closeChan
  exact State.loudEnds_frame (hl.sub rfl) (State.modChan_frame (hl.sub rfl) g1)

theorem State.doHubReset_frame {x1} {x2} {x3} (hl : Covers [.spoke, .flt] l) (g1 : State.Frame l z x1) :
    State.Frame l z (State.doHubReset x1 x2 x3) := by
  delta State.doHubReset
  extract_lets -merge -underBinder +onlyGivenNames y1
  refine State.checked_frame (hl.sub rfl) ?_ ?_
  · exact g1
  · intro x2 h3
    extract_lets -merge -underBinder +onlyGivenNames y4
    have h5 : State.Frame l z y4 := by subst y4; exact State.ok_frame (hl.sub rfl) h3
    try clear_value y4
    exact h5.spoke (hl .spoke (by decide))

theorem State.spiFlush_frame {x1} (hl : Covers [.spoke, .host] l) (g1 : State.Frame l z x1) :
    State.Frame l z (State.spiFlush x1) := by
  delta State.spiFlush
  refine State.spi_frame (hl.sub rfl) ?_ ?_
  · exact g1
  · intro x1 h2
    exact frame_mk_snd (State.setRx_frame (hl.sub rfl) h2)

theorem State.doPing_frame {x1} {x2} {x3} (hl : Covers [.spoke, .flt] l) (g1 : State.Frame l z x1) :
    State.Frame l z (State.doPing x1 x2 x3) := by
  delta State.doPing
  refine State.checked_frame (hl.sub rfl) ?_ ?_
  · exact g1
  · intro x1 h2
    exact State.ok_frame (hl.sub rfl) h2

theorem State.received_frame {x1} {x2} {x3} (hl : Covers [.spoke, .host, .bus] l) (g1 : State.Frame l z x1) :
    State.Frame l z (State.received x1 x2 x3) := by
  delta State.received
  split
  · refine frame_ite ?_ ?_
    · exact g1
    · refine frame_ite ?_ ?_
      · refine State.each_frame ?_ ?_
        · exact g1
        · intro x1 x3 h2
          exact State.uartByte_frame (hl.sub rfl) h2
      · refine frame_ite ?_ ?_
        · refine State.hostRx_frame (hl.sub rfl) ?_ ?_
          · exact g1
          · intro x4 h5
            exact State.rxBytes_frame (hl.sub rfl) h5
        · exact g1
  · refine frame_ite ?_ ?_
    · refine State.each_frame ?_ ?_
      · exact g1
      · intro x6 x8 h7
        exact State.spokePush_frame (hl.sub rfl) h7
    · exact g1
  · refine frame_ite ?_ ?_
    · exact State.modBus_frame (hl.sub rfl) (State.rxBytes_frame (hl.sub rfl) g1)
    · exact g1

theorem State.sessionReset_frame {x1} {x2} {x3} (hl : Covers [.regs, .spoke, .sec, .dbg] l) (g1 : State.Frame l z x1) :
    State.Frame l z (State.sessionReset x1 x2 x3) := by
  delta State.sessionReset
  extract_lets -merge -underBinder +onlyGivenNames y1 y2 y3 y4
  have h5 : State.Frame l z y4 := by subst y4; exact g1.spoke (hl .spoke (by decide))
  try clear_value y4
  extract_lets -merge -underBinder +onlyGivenNames y6
  have h7 : State.Frame l z y6 := by subst y6; exact State.loudEnds_frame (hl.sub rfl) (State.modChan_frame (hl.sub rfl) (State.updateReset_frame (hl.sub rfl) h5))
  try clear_value y6
  exact State.modChan_frame (hl.sub rfl) h7

theorem State.baudReverts_frame {x1} (hl : Covers [.spoke, .host] l) (g1 : State.Frame l z x1) :
    State.Frame l z (State.baudReverts x1) := by
  delta State.baudReverts
  split
  · exact g1
  · refine frame_ite ?_ ?_
    · exact State.framingDiscard_frame (hl.sub rfl) (g1.host (hl .host (by decide)))
    · exact g1

theorem State.admitFrame_frame {x1} {x2} {x3} (hl : Covers [.regs, .spoke, .host, .sec, .dbg] l) (g1 : State.Frame l z x1) :
    State.Frame l z (State.admitFrame x1 x2 x3) := by
  delta State.admitFrame
  refine frame_ite ?_ ?_
  · exact State.framingDiscard_frame (hl.sub rfl) g1
  · extract_lets -merge -underBinder +onlyGivenNames y1
    refine frame_ite ?_ ?_
    · exact State.reject_frame (hl.sub rfl) g1
    · extract_lets -merge -underBinder +onlyGivenNames y2
      have h3 : State.Frame l z y2 := by
        subst y2
        refine frame_ite ?_ ?_
        · exact State.modChan_frame (hl.sub rfl) g1
        · exact g1
      try clear_value y2
      extract_lets -merge -underBinder +onlyGivenNames y4
      refine frame_ite ?_ ?_
      · exact State.reject_frame (hl.sub rfl) h3
      · refine frame_ite ?_ ?_
        · exact State.sessionReset_frame (hl.sub rfl) h3
        · exact State.enqueue_frame (hl.sub rfl) h3

theorem State.resetSession_frame {x1} {x2} (hl : Covers [.regs, .spoke, .sec, .dbg] l) (g1 : State.Frame l z x1) :
    State.Frame l z (State.resetSession x1 x2) := by
  delta State.resetSession
  refine frame_ite ?_ ?_
  · exact State.sessionReset_frame (hl.sub rfl) g1
  · exact State.reject_frame (hl.sub rfl) g1

theorem State.doSessionClose_frame {x1} {x2} {x3} (hl : Covers [.spoke, .flt, .dbg] l) (g1 : State.Frame l z x1) :
    State.Frame l z (State.doSessionClose x1 x2 x3) := by
  delta State.doSessionClose
  refine State.checked_frame (hl.sub rfl) ?_ ?_
  · exact g1
  · intro x1 h2
    refine frame_ite ?_ ?_
    · exact State.finish_frame (hl.sub rfl) h2
    · exact State.closeChan_frame (hl.sub rfl) (State.ok_frame (hl.sub rfl) h2)

theorem State.admitNext_frame {x1} {x2} (hl : Covers [.regs, .spoke, .host, .sec, .dbg] l) (g1 : State.Frame l z x1) :
    State.Frame l z (State.admitNext x1 x2) := by
  delta State.admitNext
  extract_lets -merge -underBinder +onlyGivenNames y1
  split
  · exact g1
  · exact State.admitFrame_frame (hl.sub rfl) (State.setRx_frame (hl.sub rfl) g1)

theorem State.admitAll_frame {x1} {x2} (hl : Covers [.regs, .spoke, .host, .sec, .dbg] l) (g1 : State.Frame l z x1) :
    State.Frame l z (State.admitAll x1 x2) := by
  delta State.admitAll
  refine times_frame ?_ ?_
  · intro x1 h2
    exact State.admitNext_frame (hl.sub rfl) h2
  · exact g1

theorem State.hostSvc_frame {x1} (hl : Covers [.regs, .spoke, .host, .sec, .dbg] l) (g1 : State.Frame l z x1) :
    State.Frame l z (State.hostSvc x1) := by
  delta State.hostSvc
  extract_lets -merge -underBinder +onlyGivenNames y1
  have h5 : State.Frame l z y1 := by
    subst y1
    refine frame_ite ?_ ?_
    · refine State.each_frame ?_ ?_
      · exact g1
      · intro x2 x4 h3
        exact State.admitAll_frame (hl.sub rfl) h3
    · exact g1
  try clear_value y1
  extract_lets -merge -underBinder +onlyGivenNames y6
  have h7 : State.Frame l z y6 := by subst y6; exact State.spokeFill_frame (hl.sub rfl) (State.hostFill_frame (hl.sub rfl) h5)
  try clear_value y6
  exact h7.host (hl .host (by decide))

theorem State.hubResetStarts_frame {x1} (hl : Covers [.regs, .free, .cad, .pwr, .spoke, .host, .console, .zones, .pwm, .act, .adc, .pad, .bus, .hay, .stb, .dsp, .seg, .thm, .sec, .flt, .dbg] l) (g1 : State.Frame l z x1) :
    State.Frame l z (State.hubResetStarts x1) := by
  delta State.hubResetStarts
  split
  · exact g1
  · refine frame_ite ?_ ?_
    · exact State.hubReset_frame (hl.sub rfl) (g1.spoke (hl .spoke (by decide)))
    · exact g1

theorem State.perform_frame {x1} {x2} {x3} (hl : Covers [.regs, .free, .cad, .pwr, .spoke, .host, .console, .zones, .pwm, .act, .adc, .pad, .bus, .hay, .stb, .dsp, .seg, .thm, .sec, .flt, .dbg] l) (g1 : State.Frame l z x1) :
    State.Frame l z (State.perform x1 x2 x3) := by
  delta State.perform
  split
  · exact State.doSessionOpen_frame (hl.sub rfl) g1
  · exact State.doSessionClose_frame (hl.sub rfl) g1
  · exact State.doHubReset_frame (hl.sub rfl) g1
  · exact State.doSubscribe_frame (hl.sub rfl) g1
  · exact State.doPing_frame (hl.sub rfl) g1
  · exact State.doHostBaud_frame (hl.sub rfl) g1
  · exact State.doSessionInfo_frame (hl.sub rfl) g1
  · exact State.doAttrRead_frame (hl.sub rfl) g1
  · exact State.doAttrWrite_frame (hl.sub rfl) g1
  · exact State.doAttrReadMulti_frame (hl.sub rfl) g1
  · exact State.doAttrModify_frame (hl.sub rfl) g1
  · exact State.doAttrInfo_frame (hl.sub rfl) g1
  · exact State.doZonHold_frame (hl.sub rfl) g1
  · exact State.doZonSchedWrite_frame (hl.sub rfl) g1
  · exact State.doZonSchedRead_frame (hl.sub rfl) g1
  · exact State.doZonRemoteT_frame (hl.sub rfl) g1
  · exact State.doZonWindow_frame (hl.sub rfl) g1
  · exact State.doZonPresence_frame (hl.sub rfl) g1
  · exact State.doZonSave_frame (hl.sub rfl) g1
  · exact State.doZonEvtRead_frame (hl.sub rfl) g1
  · exact State.doZonLoopReset_frame (hl.sub rfl) g1
  · exact State.doPwmGroupCtl_frame (hl.sub rfl) g1
  · exact State.doPwmLoadAll_frame (hl.sub rfl) g1
  · exact State.doPwmSync_frame (hl.sub rfl) g1
  · exact State.doPwmClrLatch_frame (hl.sub rfl) g1
  · exact State.actPlace_frame (hl.sub rfl) g1
  · exact State.actPlace_frame (hl.sub rfl) g1
  · exact State.actPlace_frame (hl.sub rfl) g1
  · exact State.actPlace_frame (hl.sub rfl) g1
  · exact State.actPlace_frame (hl.sub rfl) g1
  · exact State.actPlace_frame (hl.sub rfl) g1
  · exact State.doActSave_frame (hl.sub rfl) g1
  · exact State.doAdcConvert_frame (hl.sub rfl) g1
  · exact State.doAdcSave_frame (hl.sub rfl) g1
  · exact State.doPwrSetMode_frame (hl.sub rfl) g1
  · exact State.doPwrSubsysReset_frame (hl.sub rfl) g1
  · exact State.doThmFloor_frame (hl.sub rfl) g1
  · exact State.doPadStage_frame (hl.sub rfl) g1
  · exact State.doPadCommit_frame (hl.sub rfl) g1
  · exact State.doPadCancel_frame (hl.sub rfl) g1
  · exact State.doPadProof_frame (hl.sub rfl) g1
  · exact State.doPadRestart_frame (hl.sub rfl) g1
  · exact State.doBusPortCtl_frame (hl.sub rfl) g1
  · exact State.doBusTx_frame (hl.sub rfl) g1
  · exact State.doBusGpRestart_frame (hl.sub rfl) g1
  · exact State.doBusGpPdu_frame (hl.sub rfl) g1
  · exact State.doBusSave_frame (hl.sub rfl) g1
  · exact State.doHayRead_frame (hl.sub rfl) g1
  · exact State.doHayWrite_frame (hl.sub rfl) g1
  · exact State.doHayLogRead_frame (hl.sub rfl) g1
  · exact State.doHayLogAppend_frame (hl.sub rfl) g1
  · exact State.doHayLogFlush_frame (hl.sub rfl) g1
  · exact State.doHayOdInc_frame (hl.sub rfl) g1
  · exact State.doStbLoadBegin_frame (hl.sub rfl) g1
  · exact State.doStbLoadData_frame (hl.sub rfl) g1
  · exact State.doStbLoadEnd_frame (hl.sub rfl) g1
  · exact State.doStbTaskStart_frame (hl.sub rfl) g1
  · exact State.doStbTaskStop_frame (hl.sub rfl) g1
  · exact State.doStbFeed_frame (hl.sub rfl) g1
  · exact State.doDspPower_frame (hl.sub rfl) g1
  · exact State.doDspWrite_frame (hl.sub rfl) g1
  · exact State.doDspFill_frame (hl.sub rfl) g1
  · exact State.doDspPresent_frame (hl.sub rfl) g1
  · exact State.doDspLwWrite_frame (hl.sub rfl) g1
  · exact State.doDspMode_frame (hl.sub rfl) g1
  · exact State.doSegWrite_frame (hl.sub rfl) g1
  · exact State.doSegShow_frame (hl.sub rfl) g1
  · exact State.doSecHello_frame (hl.sub rfl) g1
  · exact State.doSecAuth_frame (hl.sub rfl) g1
  · exact State.doSecPair_frame (hl.sub rfl) g1
  · exact State.doSecKey_frame (hl.sub rfl) g1
  · exact State.doSecCrypt_frame (hl.sub rfl) g1
  · exact State.doSecLifecycle_frame (hl.sub rfl) g1
  · exact State.doSecUpdate_frame (hl.sub rfl) g1
  · exact State.doSecRandom_frame (hl.sub rfl) g1
  · exact State.doDbgReadMode_frame (hl.sub rfl) g1
  · exact State.finish_frame (hl.sub rfl) g1

theorem State.runChannel_frame {s ch k} (hl : Covers [.regs, .free, .cad, .pwr, .spoke, .host, .console, .zones, .pwm, .act, .adc, .pad, .bus, .hay, .stb, .dsp, .seg, .thm, .sec, .flt, .dbg] l) (h : State.Frame l z s) : State.Frame l z (State.runChannel s ch k) := by
  induction k generalizing s with
  | zero => exact h
  | succ k ih =>
    unfold State.runChannel
    split
    · exact h
    · exact ih (State.perform_frame (hl.sub rfl) (State.modChan_frame (hl.sub rfl) h))

theorem State.spokeRun_frame {x1} (hl : Covers [.regs, .free, .cad, .pwr, .spoke, .host, .console, .zones, .pwm, .act, .adc, .pad, .bus, .hay, .stb, .dsp, .seg, .thm, .sec, .flt, .dbg] l) (g1 : State.Frame l z x1) :
    State.Frame l z (State.spokeRun x1) := by
  delta State.spokeRun
  refine frame_ite ?_ ?_
  · extract_lets -merge -underBinder +onlyGivenNames y1
    have h5 : State.Frame l z y1 := by
      subst y1
      refine State.each_frame ?_ ?_
      · exact g1
      · intro x2 x4 h3
        refine frame_ite ?_ ?_
        · exact State.runChannel_frame (hl.sub rfl) h3
        · exact h3
    try clear_value y1
    refine frame_ite ?_ ?_
    · exact State.consoleRun_frame (hl.sub rfl) h5
    · exact h5
  · exact g1

/-! ### Jobs -/

theorem State.panelReleases_frame {x1} (hl : Covers [.pwr, .dsp] l) (g1 : State.Frame l z x1) :
    State.Frame l z (State.panelReleases x1) := by
  delta State.panelReleases
  refine frame_ite ?_ ?_
  · extract_lets -merge -underBinder +onlyGivenNames y1
    have h2 : State.Frame l z y1 := by subst y1; exact State.escEnd_frame (hl.sub rfl) g1
    try clear_value y1
    exact h2.dsp (hl .dsp (by decide))
  · exact g1

theorem State.escAdmitted_frame {x1} {x2} (hl : Covers [.regs, .act, .dsp, .sec] l) (g1 : State.Frame l z x1) :
    State.Frame l z (State.escAdmitted x1 x2) := by
  delta State.escAdmitted
  split
  · exact g1.dsp (hl .dsp (by decide))
  · exact State.reversalAdmitted_frame (hl.sub rfl) g1
  · exact State.burnAdmitted_frame (hl.sub rfl) g1
  · exact g1
  · exact g1

theorem State.panelReserve_frame {x1} (hl : Covers [.regs, .pwr, .spoke, .dsp, .flt] l) (g1 : State.Frame l z x1) :
    State.Frame l z (State.panelReserve x1) := by
  delta State.panelReserve
  refine frame_ite ?_ ?_
  · exact State.event_frame (hl.sub rfl) (State.abruptOff_frame (hl.sub rfl) (State.wr_frame (hl.sub rfl) g1))
  · exact g1

theorem State.gaugeRun_frame {x1} (hl : Covers [.regs, .pwr, .spoke, .act, .hay, .dsp, .sec, .flt] l) (g1 : State.Frame l z x1) :
    State.Frame l z (State.gaugeRun x1) := by
  delta State.gaugeRun
  extract_lets -merge -underBinder +onlyGivenNames y1
  have h2 : State.Frame l z y1.1 := by subst y1; exact State.gauge_frame (hl.sub rfl) (State.hayPresent_frame (hl.sub rfl) (State.panelReserve_frame (hl.sub rfl) (State.panelReleases_frame (hl.sub rfl) g1)))
  try clear_value y1
  refine State.each_frame ?_ ?_
  · exact h2
  · intro x3 x5 h4
    exact State.escAdmitted_frame (hl.sub rfl) h4

theorem State.coreFires_frame {x1} {x2} (hl : Covers [.regs, .cad, .spoke, .zones, .adc, .stb, .dsp, .flt] l) (g1 : State.Frame l z x1) :
    State.Frame l z (State.coreFires x1 x2) := by
  delta State.coreFires
  refine frame_ite ?_ ?_
  · exact State.runEnd_frame (hl.sub rfl) g1
  · exact g1

theorem State.hskRun_frame {x1} {x2} (hl : Covers [.regs, .pwr, .spoke, .pwm, .act, .hay, .stb, .dsp, .thm, .sec, .flt] l) (g1 : State.Frame l z x1) :
    State.Frame l z (State.hskRun x1 x2) := by
  delta State.hskRun
  extract_lets -merge -underBinder +onlyGivenNames y1
  have h2 : State.Frame l z y1 := by
    subst y1
    refine frame_ite ?_ ?_
    · exact State.groomSweep_frame (hl.sub rfl) g1
    · exact g1
  try clear_value y1
  extract_lets -merge -underBinder +onlyGivenNames y3
  have h7 : State.Frame l z y3 := by
    subst y3
    refine frame_ite ?_ ?_
    · refine State.each_frame ?_ ?_
      · exact h2
      · intro x4 x6 h5
        exact State.groomRepair_frame (hl.sub rfl) h5
    · exact h2
  try clear_value y3
  refine frame_ite ?_ ?_
  · exact State.thmEval_frame (hl.sub rfl) h7
  · exact h7

theorem execTickGuardFire_frame {x1} {x2} (hl : Covers [.regs, .cad, .spoke, .zones, .adc, .stb, .dsp, .flt] l) (g2 : State.Frame l z x2) :
    State.FrameOut l z (execTickGuardFire x1 x2) := by
  delta execTickGuardFire
  refine frame_next ?_
  split
  · exact State.coreFires_frame (hl.sub rfl) g2
  · exact State.coreFires_frame (hl.sub rfl) g2
  · refine frame_ite ?_ ?_
    · exact State.guardAdc_frame (hl.sub rfl) g2
    · exact g2
  · refine frame_ite ?_ ?_
    · exact State.guardStb_frame (hl.sub rfl) g2
    · exact g2

theorem State.jobWork_frame {x1} {x2} {x3} (hl : Covers [.regs, .free, .cad, .pwr, .spoke, .host, .console, .zones, .pwm, .act, .adc, .pad, .bus, .hay, .stb, .dsp, .seg, .thm, .sec, .flt, .dbg] l) (g1 : State.Frame l z x1) :
    State.Frame l z (State.jobWork x1 x2 x3) := by
  delta State.jobWork
  split
  · exact State.fltSvc_frame (hl.sub rfl) g1
  · exact State.sptSvc_frame (hl.sub rfl) g1
  · exact State.gaugeRun_frame (hl.sub rfl) g1
  · exact State.adcRes_frame (hl.sub rfl) g1
  · exact State.adcRes_frame (hl.sub rfl) g1
  · exact State.zonSvc_frame (hl.sub rfl) g1
  · refine frame_ite ?_ ?_
    · exact State.zonLoop_frame (hl.sub rfl) g1
    · exact State.zonSvc_frame (hl.sub rfl) g1
  · exact State.actCmd_frame (hl.sub rfl) g1
  · exact State.actUpd_frame (hl.sub rfl) g1
  · exact State.padXch_frame (hl.sub rfl) g1
  · exact State.hostSvc_frame (hl.sub rfl) g1
  · exact State.spokeRun_frame (hl.sub rfl) g1
  · exact State.busRun_frame (hl.sub rfl) g1
  · exact State.busRun_frame (hl.sub rfl) g1
  · exact State.logSvc_frame (hl.sub rfl) g1
  · exact State.secAdvance_frame (hl.sub rfl) (State.haySvc_frame (hl.sub rfl) g1)
  · exact State.dspSvc_frame (hl.sub rfl) g1
  · exact State.stbSvc_frame (hl.sub rfl) g1
  · exact State.hskRun_frame (hl.sub rfl) g1
  · exact g1

theorem State.jobCommit_frame {x1} {x2} {x3} (hl : Covers [.regs, .free, .cad, .pwr, .spoke, .host, .console, .zones, .pwm, .act, .adc, .pad, .bus, .hay, .stb, .dsp, .seg, .thm, .sec, .flt, .dbg] l) (g1 : State.Frame l z x1) :
    State.Frame l z (State.jobCommit x1 x2 x3) := by
  delta State.jobCommit
  refine frame_ite ?_ ?_
  · split
    · exact g1
    · exact State.runDone_frame (hl.sub rfl) (State.jobWork_frame (hl.sub rfl) g1)
  · exact g1

theorem execJobCommit_frame {x1} {x2} {x3} (hl : Covers [.regs, .free, .cad, .pwr, .spoke, .host, .console, .zones, .pwm, .act, .adc, .pad, .bus, .hay, .stb, .dsp, .seg, .thm, .sec, .flt, .dbg] l) (g3 : State.Frame l z x3) :
    State.FrameOut l z (execJobCommit x1 x2 x3) := by
  delta execJobCommit
  exact frame_next (State.jobCommit_frame (hl.sub rfl) g3)

end Sys2Proof.Machine
end

