-- ==== Sys2Proof/Laws/Frame9.lean ====
section
/-!
SUPPORT. Sys2Proof/Laws/Frame9.lean: the operations of Sequencer, SpokeCommands and the parts
of the state they can change.
-/

namespace Sys2Proof.Machine

variable {l : List Part} {z : State}

/-! ### Sequencer -/

theorem State.whileWalking_frame {x1} {x2} (g1 : State.Frame l z x1) (g2 : ∀ z1, State.Frame l z z1 → State.Frame l z (x2 z1)) :
    State.Frame l z (State.whileWalking x1 x2) := by
  delta State.whileWalking
  refine frame_ite ?_ ?_
  · refine g2 _ ?_
    exact g1
  · exact g1

theorem execSlotTableReload_frame {x1} (hl : Covers [.regs, .cad] l) (g1 : State.Frame l z x1) :
    State.FrameOut l z (execSlotTableReload x1) := by
  delta execSlotTableReload
  exact frame_next (State.tableReload_frame (hl.sub rfl) g1)

theorem execSlotTableSwap_frame {x1} (hl : Covers [.regs, .cad] l) (g1 : State.Frame l z x1) :
    State.FrameOut l z (execSlotTableSwap x1) := by
  delta execSlotTableSwap
  exact frame_next (State.tableSwap_frame (hl.sub rfl) g1)

theorem State.helloTick_frame {x1} (hl : Covers [.spoke] l) (g1 : State.Frame l z x1) :
    State.Frame l z (State.helloTick x1) := by
  delta State.helloTick
  refine State.each_frame ?_ ?_
  · exact g1
  · intro x1 x3 h2
    refine frame_ite ?_ ?_
    · exact State.lockoutEnd_frame (hl.sub rfl) (State.helloLapse_frame (hl.sub rfl) h2)
    · exact h2

theorem State.adcSlot_frame {x1} (hl : Covers [.adc] l) (g1 : State.Frame l z x1) :
    State.Frame l z (State.adcSlot x1) := by
  delta State.adcSlot
  refine frame_ite ?_ ?_
  · exact State.reserveUnits_frame (hl.sub rfl) g1
  · refine frame_ite ?_ ?_
    · exact State.releaseUnits_frame (hl.sub rfl) g1
    · exact g1

theorem State.panelSlot_frame {x1} {x2} (hl : Covers [.regs, .pwr, .spoke, .dsp, .flt] l) (g1 : State.Frame l z x1) :
    State.Frame l z (State.panelSlot x1 x2) := by
  delta State.panelSlot
  extract_lets -merge -underBinder +onlyGivenNames y1
  have h2 : State.Frame l z y1 := by subst y1; exact State.dspLevels_frame (hl.sub rfl) g1
  try clear_value y1
  refine frame_ite ?_ ?_
  · exact State.orderlyStep_frame (hl.sub rfl) h2
  · exact h2

theorem State.aonEdge_frame {x1} {x2} (hl : Covers [.regs, .free, .cad, .pwr, .spoke, .host, .console, .zones, .pwm, .act, .adc, .pad, .bus, .hay, .stb, .dsp, .seg, .thm, .sec, .flt, .dbg] l) (g1 : State.Frame l z x1) :
    State.Frame l z (State.aonEdge x1 x2) := by
  delta State.aonEdge
  extract_lets -merge -underBinder +onlyGivenNames y1
  have h2 : State.Frame l z y1 := by
    subst y1
    refine frame_ite ?_ ?_
    · exact State.thmCommit_frame (hl.sub rfl) (State.ksCommit_frame (hl.sub rfl) g1)
    · exact g1
  try clear_value y1
  extract_lets -merge -underBinder +onlyGivenNames y3
  have h4 : State.Frame l z y3 := by
    subst y3
    refine frame_ite ?_ ?_
    · exact State.segLap_frame (hl.sub rfl) h2
    · exact h2
  try clear_value y3
  extract_lets -merge -underBinder +onlyGivenNames y5
  have h6 : State.Frame l z y5 := by
    subst y5
    refine frame_ite ?_ ?_
    · exact State.segTick_frame (hl.sub rfl) h4
    · exact h4
  try clear_value y5
  extract_lets -merge -underBinder +onlyGivenNames y7
  have h8 : State.Frame l z y7 := by
    subst y7
    refine frame_ite ?_ ?_
    · exact State.wake_frame (hl.sub rfl) (State.segStage_frame (hl.sub rfl) h6)
    · exact h6
  try clear_value y7
  exact State.rampSlot_frame (hl.sub rfl) (State.hubFaultEdge_frame (hl.sub rfl) h8)

theorem State.tickEdge_frame {x1} (hl : Covers [.regs, .free, .cad, .pwr, .spoke, .host, .console, .zones, .pwm, .act, .adc, .pad, .bus, .hay, .stb, .dsp, .seg, .thm, .sec, .flt, .dbg] l) (g1 : State.Frame l z x1) :
    State.Frame l z (State.tickEdge x1) := by
  delta State.tickEdge
  extract_lets -merge -underBinder +onlyGivenNames y1
  have h2 : State.Frame l z y1 := by subst y1; exact State.watchTick_frame (hl.sub rfl) (State.pfTick_frame (hl.sub rfl) g1)
  try clear_value y1
  extract_lets -merge -underBinder +onlyGivenNames y3
  have h4 : State.Frame l z y3 := by subst y3; exact State.helloTick_frame (hl.sub rfl) (State.busTick_frame (hl.sub rfl) (State.devTick_frame (hl.sub rfl) (State.adcTick_frame (hl.sub rfl) h2)))
  try clear_value y3
  exact State.thermStop_frame (hl.sub rfl) (State.fw2ClockStop_frame (hl.sub rfl) (State.fw2PwmStop_frame (hl.sub rfl) (State.escTimeouts_frame (hl.sub rfl) h4)))

theorem State.guardEdge_frame {x1} (hl : Covers [.regs, .cad, .spoke, .zones, .adc, .stb, .dsp, .flt] l) (g1 : State.Frame l z x1) :
    State.Frame l z (State.guardEdge x1) := by
  delta State.guardEdge
  extract_lets -merge -underBinder +onlyGivenNames y1 y2
  have h3 : State.Frame l z y2 := by subst y2; exact State.guardAdc_frame (hl.sub rfl) (State.guardCores_frame (hl.sub rfl) g1)
  try clear_value y2
  refine frame_ite ?_ ?_
  · refine State.each_frame ?_ ?_
    · exact State.stbClose_frame (hl.sub rfl) (State.guardStb_frame (hl.sub rfl) h3)
    · intro x4 x6 h5
      exact State.scrubTick_frame (hl.sub rfl) h5
  · exact h3

theorem State.raiseGo_frame {x1} {x2} {x3} (hl : Covers [.regs, .cad, .pwr, .spoke, .pwm, .adc, .hay, .stb, .flt] l) (g1 : State.Frame l z x1) :
    State.Frame l z (State.raiseGo x1 x2 x3) := by
  delta State.raiseGo
  extract_lets -merge -underBinder +onlyGivenNames y1 y2 y3
  have h4 : State.Frame l z y3 := by
    subst y3
    refine frame_ite ?_ ?_
    · exact g1.cad (hl .cad (by decide))
    · exact g1
  try clear_value y3
  extract_lets -merge -underBinder +onlyGivenNames y5
  have h6 : State.Frame l z y5 := by
    subst y5
    refine frame_ite ?_ ?_
    · exact State.seqStart_frame (hl.sub rfl) h4
    · exact h4
  try clear_value y5
  extract_lets -merge -underBinder +onlyGivenNames y7
  have h8 : State.Frame l z y7 := by
    subst y7
    refine frame_ite ?_ ?_
    · exact State.seqStart_frame (hl.sub rfl) h6
    · exact h6
  try clear_value y7
  extract_lets -merge -underBinder +onlyGivenNames y9
  have h10 : State.Frame l z y9 := by
    subst y9
    refine frame_ite ?_ ?_
    · exact State.portsGo_frame (hl.sub rfl) h8
    · exact h8
  try clear_value y9
  extract_lets -merge -underBinder +onlyGivenNames y11
  have h12 : State.Frame l z y11 := by subst y11; exact State.stbRelease_frame (hl.sub rfl) h10
  try clear_value y11
  extract_lets -merge -underBinder +onlyGivenNames y13 y14
  have h15 : State.Frame l z y14 := by
    subst y14
    refine frame_ite ?_ ?_
    · exact h12.cad (hl .cad (by decide))
    · exact h10
  try clear_value y14
  extract_lets -merge -underBinder +onlyGivenNames y16
  have h17 : State.Frame l z y16 := by
    subst y16
    refine frame_ite ?_ ?_
    · exact State.hayGo_frame (hl.sub rfl) h15
    · exact h15
  try clear_value y16
  extract_lets -merge -underBinder +onlyGivenNames y18
  have h19 : State.Frame l z y18 := by
    subst y18
    refine frame_ite ?_ ?_
    · exact State.gaugeSample_frame (hl.sub rfl) h17
    · exact h17
  try clear_value y18
  extract_lets -merge -underBinder +onlyGivenNames y20
  have h21 : State.Frame l z y20 := by
    subst y20
    refine frame_ite ?_ ?_
    · exact State.thmRead_frame (hl.sub rfl) h19
    · exact h19
  try clear_value y20
  refine frame_ite ?_ ?_
  · exact h21.pwm (hl .pwm (by decide))
  · exact h21

theorem State.slotBegins_frame {x1} {x2} (hl : Covers [.regs, .cad, .pwr, .spoke, .pwm, .act, .adc, .pad, .hay, .stb, .flt, .dbg] l) (g1 : State.Frame l z x1) :
    State.Frame l z (State.slotBegins x1 x2) := by
  delta State.slotBegins
  extract_lets -merge -underBinder +onlyGivenNames y1
  have h2 : State.Frame l z y1.2 := by subst y1; exact State.slotEntry_frame (hl.sub rfl) g1
  try clear_value y1
  extract_lets -merge -underBinder +onlyGivenNames y3
  have h4 : State.Frame l z y3 := by subst y3; exact State.adcSlot_frame (hl.sub rfl) h2
  try clear_value y3
  extract_lets -merge -underBinder +onlyGivenNames y5
  have h6 : State.Frame l z y5 := by subst y5; exact State.coreHalts_frame (hl.sub rfl) (State.coreHalts_frame (hl.sub rfl) (State.raiseGo_frame (hl.sub rfl) h4))
  try clear_value y5
  exact State.dispatch_frame (hl.sub rfl) (State.dispatch_frame (hl.sub rfl) h6)

theorem State.lapEdge_frame {x1} {x2} {x3} (hl : Covers [.regs, .free, .cad, .pwr, .spoke, .host, .console, .zones, .pwm, .act, .adc, .pad, .bus, .hay, .stb, .dsp, .seg, .thm, .sec, .flt, .dbg] l) (g1 : State.Frame l z x1) :
    State.Frame l z (State.lapEdge x1 x2 x3) := by
  delta State.lapEdge
  extract_lets -merge -underBinder +onlyGivenNames y1
  have h2 : State.Frame l z y1 := by subst y1; exact State.tableSwap_frame (hl.sub rfl) (State.dspLapEdge_frame (hl.sub rfl) g1)
  try clear_value y1
  extract_lets -merge -underBinder +onlyGivenNames y3
  have h4 : State.Frame l z y3 := by subst y3; exact State.powerOnStep_frame (hl.sub rfl) (State.panelLap_frame (hl.sub rfl) h2)
  try clear_value y3
  exact State.modeEntry_frame (hl.sub rfl) (State.cacheSwitch_frame (hl.sub rfl) (State.thmLap_frame (hl.sub rfl) h4))

theorem State.cadenceStarts_frame {x1} (hl : Covers [.regs, .free, .cad, .pwr, .spoke, .host, .console, .zones, .pwm, .act, .adc, .pad, .bus, .hay, .stb, .dsp, .seg, .thm, .sec, .flt, .dbg] l) (g1 : State.Frame l z x1) :
    State.Frame l z (State.cadenceStarts x1) := by
  delta State.cadenceStarts
  extract_lets -merge -underBinder +onlyGivenNames y1
  have h2 : State.Frame l z y1 := by subst y1; exact State.tickEdge_frame (hl.sub rfl) g1
  try clear_value y1
  extract_lets -merge -underBinder +onlyGivenNames y3
  have h6 : State.Frame l z y3 := by
    subst y3
    refine State.whileWalking_frame ?_ ?_
    · exact h2
    · intro x4 h5
      refine frame_ite ?_ ?_
      · exact State.lapEdge_frame (hl.sub rfl) (State.segLap_frame (hl.sub rfl) h5)
      · exact h5
  try clear_value y3
  refine State.whileWalking_frame ?_ ?_
  · exact h6
  · intro x7 h8
    exact State.slotBegins_frame (hl.sub rfl) h8

theorem execFw2Resume_frame {x1} {x2} {x3} (hl : Covers [.regs, .free, .cad, .pwr, .spoke, .host, .console, .zones, .pwm, .act, .adc, .pad, .bus, .hay, .stb, .dsp, .seg, .thm, .sec, .flt, .dbg] l) (g3 : State.Frame l z x3) :
    State.FrameOut l z (execFw2Resume x1 x2 x3) := by
  delta execFw2Resume
  refine frame_next ?_
  refine frame_ite ?_ ?_
  · exact State.cadenceStarts_frame (hl.sub rfl) (State.fw2Resume_frame (hl.sub rfl) g3)
  · exact g3

theorem State.stageWork_frame {x1} {x2} {x3} {x4} {x5} (hl : Covers [.regs, .free, .cad, .pwr, .spoke, .host, .console, .zones, .pwm, .act, .adc, .pad, .bus, .hay, .stb, .dsp, .seg, .thm, .sec, .flt, .dbg] l) (g1 : State.Frame l z x1) :
    State.Frame l z (State.stageWork x1 x2 x3 x4 x5) := by
  delta State.stageWork
  refine frame_ite ?_ ?_
  · exact g1
  · extract_lets -merge -underBinder +onlyGivenNames y1 y2
    have h3 : State.Frame l z y2 := by subst y2; exact State.trimStage_frame (hl.sub rfl) (g1.cad (hl .cad (by decide)))
    try clear_value y2
    extract_lets -merge -underBinder +onlyGivenNames y4
    have h5 : State.Frame l z y4 := by subst y4; exact State.reseed_frame (hl.sub rfl) (State.tableReload_frame (hl.sub rfl) h3)
    try clear_value y4
    extract_lets -merge -underBinder +onlyGivenNames y6
    have h7 : State.Frame l z y6 := by
      subst y6
      refine frame_ite ?_ ?_
      · exact State.entropyRecovered_frame (hl.sub rfl) h5
      · exact State.entropyFailed_frame (hl.sub rfl) h5
    try clear_value y6
    extract_lets -merge -underBinder +onlyGivenNames y8
    have h9 : State.Frame l z y8 := by subst y8; exact State.devStage_frame (hl.sub rfl) (State.busStage_frame (hl.sub rfl) (State.pairExpire_frame (hl.sub rfl) (State.trialStage_frame (hl.sub rfl) h7)))
    try clear_value y8
    extract_lets -merge -underBinder +onlyGivenNames y10
    have h14 : State.Frame l z y10 := by
      subst y10
      refine State.each_frame ?_ ?_
      · exact h9
      · intro x11 x13 h12
        exact State.fanStage_frame (hl.sub rfl) h12
    try clear_value y10
    exact State.limpHoldExpire_frame (hl.sub rfl) (State.consoleStage_frame (hl.sub rfl) (State.streakClear_frame (hl.sub rfl) (State.fltStage_frame (hl.sub rfl) (State.zonStage_frame (hl.sub rfl) h14))))

theorem State.slotWork_frame {x1} (hl : Covers [.regs, .free, .cad, .pwr, .spoke, .host, .console, .zones, .pwm, .act, .adc, .pad, .bus, .hay, .stb, .dsp, .seg, .thm, .sec, .flt, .dbg] l) (g1 : State.Frame l z x1) :
    State.Frame l z (State.slotWork x1) := by
  delta State.slotWork
  extract_lets -merge -underBinder +onlyGivenNames y1
  have h2 : State.Frame l z y1 := by subst y1; exact State.consoleWatch_frame (hl.sub rfl) (State.pfStart_frame (hl.sub rfl) (State.debugSlot_frame (hl.sub rfl) (State.unitEffects_frame (hl.sub rfl) g1)))
  try clear_value y1
  extract_lets -merge -underBinder +onlyGivenNames y3
  have h4 : State.Frame l z y3 := by
    subst y3
    refine frame_ite ?_ ?_
    · exact h2
    · exact State.irqUpdate_frame (hl.sub rfl) h2
  try clear_value y3
  exact State.hubResetStarts_frame (hl.sub rfl) (State.baudReverts_frame (hl.sub rfl) (State.baudChanges_frame (hl.sub rfl) h4))

theorem execStageEdge_frame {x1} {x2} {x3} {x4} (hl : Covers [.regs, .free, .cad, .pwr, .spoke, .host, .console, .zones, .pwm, .act, .adc, .pad, .bus, .hay, .stb, .dsp, .seg, .thm, .sec, .flt, .dbg] l) (g4 : State.Frame l z x4) :
    State.FrameOut l z (execStageEdge x1 x2 x3 x4) := by
  delta execStageEdge
  refine frame_next ?_
  refine State.whileWalking_frame ?_ ?_
  · exact g4
  · intro x1 h2
    refine frame_ite ?_ ?_
    · exact State.stageWork_frame (hl.sub rfl) h2
    · exact h2

theorem execFirstTick_frame {x1} {x2} {x3} {x4} {x5} (hl : Covers [.regs, .free, .cad, .pwr, .spoke, .host, .console, .zones, .pwm, .act, .adc, .pad, .bus, .hay, .stb, .dsp, .seg, .thm, .sec, .flt, .dbg] l) (g5 : State.Frame l z x5) :
    State.FrameOut l z (execFirstTick x1 x2 x3 x4 x5) := by
  delta execFirstTick
  refine frame_next ?_
  refine frame_ite ?_ ?_
  · exact State.cadenceStarts_frame (hl.sub rfl) (State.firstTickRun_frame (hl.sub rfl) g5)
  · exact g5

theorem State.edges_frame {x1} {x2} (hl : Covers [.regs, .free, .cad, .pwr, .spoke, .host, .console, .zones, .pwm, .act, .adc, .pad, .bus, .hay, .stb, .dsp, .seg, .thm, .sec, .flt, .dbg] l) (g1 : State.Frame l z x1) :
    State.Frame l z (State.edges x1 x2) := by
  delta State.edges
  extract_lets -merge -underBinder +onlyGivenNames y1
  have h2 : State.Frame l z y1 := by
    subst y1
    refine frame_ite ?_ ?_
    · exact State.tickEdge_frame (hl.sub rfl) g1
    · exact g1
  try clear_value y1
  extract_lets -merge -underBinder +onlyGivenNames y3
  have h6 : State.Frame l z y3 := by
    subst y3
    refine State.whileWalking_frame ?_ ?_
    · exact h2
    · intro x4 h5
      refine frame_ite ?_ ?_
      · exact State.lapEdge_frame (hl.sub rfl) h5
      · exact h5
  try clear_value y3
  refine State.whileWalking_frame ?_ ?_
  · exact h6
  · intro x7 h8
    refine frame_ite ?_ ?_
    · exact State.stageWork_frame (hl.sub rfl) h8
    · exact h8

theorem State.controllerEdge_frame {x1} {x2} (hl : Covers [.regs, .free, .cad, .pwr, .spoke, .host, .console, .zones, .pwm, .act, .adc, .pad, .bus, .hay, .stb, .dsp, .seg, .thm, .sec, .flt, .dbg] l) (g1 : State.Frame l z x1) :
    State.Frame l z (State.controllerEdge x1 x2) := by
  delta State.controllerEdge
  extract_lets -merge -underBinder +onlyGivenNames y1
  have h2 : State.Frame l z y1 := by subst y1; exact State.guardEdge_frame (hl.sub rfl) g1
  try clear_value y1
  extract_lets -merge -underBinder +onlyGivenNames y3
  have h6 : State.Frame l z y3 := by
    subst y3
    refine State.whileWalking_frame ?_ ?_
    · exact h2
    · intro x4 h5
      exact State.slotWork_frame (hl.sub rfl) h5
  try clear_value y3
  extract_lets -merge -underBinder +onlyGivenNames y7
  have h10 : State.Frame l z y7 := by
    subst y7
    refine State.whileWalking_frame ?_ ?_
    · exact h6
    · intro x8 h9
      exact State.panelSlot_frame (hl.sub rfl) h9
  try clear_value y7
  extract_lets -merge -underBinder +onlyGivenNames y11
  have h14 : State.Frame l z y11 := by
    subst y11
    refine State.whileWalking_frame ?_ ?_
    · exact h10
    · intro x12 h13
      exact State.edges_frame (hl.sub rfl) h13
  try clear_value y11
  refine State.whileWalking_frame ?_ ?_
  · exact h14
  · intro x15 h16
    exact State.slotBegins_frame (hl.sub rfl) h16

theorem State.stallSlot_frame {x1} (hl : Covers [.regs, .spoke, .stb, .flt] l) (g1 : State.Frame l z x1) :
    State.Frame l z (State.stallSlot x1) := by
  delta State.stallSlot
  refine frame_ite ?_ ?_
  · exact State.stallSpan_frame (hl.sub rfl) g1
  · exact g1

theorem State.doneIn_frame {x1} {x2} {x3} (hl : Covers [.regs, .free, .cad, .pwr, .spoke, .host, .console, .zones, .pwm, .act, .adc, .pad, .bus, .hay, .stb, .dsp, .seg, .thm, .sec, .flt, .dbg] l) (g1 : State.Frame l z x1) :
    State.Frame l z (State.doneIn x1 x2 x3) := by
  delta State.doneIn
  split
  · exact g1
  · exact State.jobCommit_frame (hl.sub rfl) g1

theorem State.slotEnds_frame {x1} {x2} (hl : Covers [.regs, .free, .cad, .pwr, .spoke, .host, .console, .zones, .pwm, .act, .adc, .pad, .bus, .hay, .stb, .dsp, .seg, .thm, .sec, .flt, .dbg] l) (g1 : State.Frame l z x1) :
    State.Frame l z (State.slotEnds x1 x2) := by
  delta State.slotEnds
  exact State.stallSlot_frame (hl.sub rfl) (State.pwmSlot_frame (hl.sub rfl) (State.gsnsSlot_frame (hl.sub rfl) (State.doneIn_frame (hl.sub rfl) (State.doneIn_frame (hl.sub rfl) g1))))

theorem State.slotEdge_frame {x1} {x2} (hl : Covers [.regs, .free, .cad, .pwr, .spoke, .host, .console, .zones, .pwm, .act, .adc, .pad, .bus, .hay, .stb, .dsp, .seg, .thm, .sec, .flt, .dbg] l) (g1 : State.Frame l z x1) :
    State.Frame l z (State.slotEdge x1 x2) := by
  delta State.slotEdge
  extract_lets -merge -underBinder +onlyGivenNames y1
  have h4 : State.Frame l z y1 := by
    subst y1
    refine State.uartSlot_frame (hl.sub rfl) ?_
    refine State.whileWalking_frame ?_ ?_
    · exact g1
    · intro x2 h3
      exact State.slotEnds_frame (hl.sub rfl) h3
  try clear_value y1
  extract_lets -merge -underBinder +onlyGivenNames y5 y6 y7
  have h8 : State.Frame l z y7 := by subst y7; exact State.aonEdge_frame (hl.sub rfl) (h4.cad (hl .cad (by decide)))
  try clear_value y7
  refine State.whileWalking_frame ?_ ?_
  · exact h8
  · intro x9 h10
    exact State.controllerEdge_frame (hl.sub rfl) h10

theorem execSlotEdge_frame {x1} {x2} (hl : Covers [.regs, .free, .cad, .pwr, .spoke, .host, .console, .zones, .pwm, .act, .adc, .pad, .bus, .hay, .stb, .dsp, .seg, .thm, .sec, .flt, .dbg] l) (g2 : State.Frame l z x2) :
    State.FrameOut l z (execSlotEdge x1 x2) := by
  delta execSlotEdge
  exact frame_next (State.slotEdge_frame (hl.sub rfl) g2)

/-! ### SpokeCommands -/

theorem execUartCtsHigh_frame {x1} (hl : Covers [.host] l) (g1 : State.Frame l z x1) :
    State.FrameOut l z (execUartCtsHigh x1) := by
  delta execUartCtsHigh
  refine frame_next ?_
  refine frame_ite ?_ ?_
  · exact g1.host (hl .host (by decide))
  · exact g1

theorem execSpiStatus_frame {x1} (hl : Covers [.host] l) (g1 : State.Frame l z x1) :
    State.FrameOut l z (execSpiStatus x1) := by
  delta execSpiStatus
  refine frame_next ?_
  refine State.spi_frame (hl.sub rfl) ?_ ?_
  · exact g1
  · intro x1 h2
    exact frame_mk_snd h2

theorem execEventsLost_frame {x1} {x2} (hl : Covers [.spoke] l) (g2 : State.Frame l z x2) :
    State.FrameOut l z (execEventsLost x1 x2) := by
  delta execEventsLost
  exact frame_next (State.modChan_frame (hl.sub rfl) g2)

theorem execSubscribe_frame {x1} {x2} (hl : Covers [.spoke, .flt] l) (g2 : State.Frame l z x2) :
    State.FrameOut l z (execSubscribe x1 x2) := by
  delta execSubscribe
  refine frame_next ?_
  refine State.command_frame (hl.sub rfl) ?_ ?_
  · exact g2
  · intro x1 x3 x4 h2
    exact State.doSubscribe_frame (hl.sub rfl) h2

theorem execUartByteGapTimeout_frame {x1} (hl : Covers [.spoke, .host] l) (g1 : State.Frame l z x1) :
    State.FrameOut l z (execUartByteGapTimeout x1) := by
  delta execUartByteGapTimeout
  refine frame_next ?_
  refine frame_ite ?_ ?_
  · exact State.rxDiscard_frame (hl.sub rfl) g1
  · exact g1

theorem execHubReset_frame {x1} {x2} (hl : Covers [.spoke, .flt] l) (g2 : State.Frame l z x2) :
    State.FrameOut l z (execHubReset x1 x2) := by
  delta execHubReset
  refine frame_next ?_
  refine State.command_frame (hl.sub rfl) ?_ ?_
  · exact g2
  · intro x1 x3 x4 h2
    exact State.doHubReset_frame (hl.sub rfl) h2

theorem execHostBaud_frame {x1} {x2} (hl : Covers [.spoke, .host, .flt] l) (g2 : State.Frame l z x2) :
    State.FrameOut l z (execHostBaud x1 x2) := by
  delta execHostBaud
  refine frame_next ?_
  refine State.command_frame (hl.sub rfl) ?_ ?_
  · exact g2
  · intro x1 x3 x4 h2
    exact State.doHostBaud_frame (hl.sub rfl) h2

theorem execSessionInfo_frame {x1} {x2} (hl : Covers [.spoke, .flt] l) (g2 : State.Frame l z x2) :
    State.FrameOut l z (execSessionInfo x1 x2) := by
  delta execSessionInfo
  refine frame_next ?_
  refine State.command_frame (hl.sub rfl) ?_ ?_
  · exact g2
  · intro x1 x3 x4 h2
    exact State.doSessionInfo_frame (hl.sub rfl) h2

theorem execSpiFlush_frame {x1} (hl : Covers [.spoke, .host] l) (g1 : State.Frame l z x1) :
    State.FrameOut l z (execSpiFlush x1) := by
  delta execSpiFlush
  exact frame_next (State.spiFlush_frame (hl.sub rfl) g1)

theorem execSpiWrite_frame {x1} {x2} {x3} (hl : Covers [.spoke, .host] l) (g3 : State.Frame l z x3) :
    State.FrameOut l z (execSpiWrite x1 x2 x3) := by
  delta execSpiWrite
  exact frame_next (State.spiWrite_frame (hl.sub rfl) g3)

theorem execPing_frame {x1} {x2} (hl : Covers [.spoke, .flt] l) (g2 : State.Frame l z x2) :
    State.FrameOut l z (execPing x1 x2) := by
  delta execPing
  refine frame_next ?_
  refine State.command_frame (hl.sub rfl) ?_ ?_
  · exact g2
  · intro x1 x3 x4 h2
    exact State.doPing_frame (hl.sub rfl) h2

theorem execSessionOpen_frame {x1} {x2} (hl : Covers [.spoke, .flt] l) (g2 : State.Frame l z x2) :
    State.FrameOut l z (execSessionOpen x1 x2) := by
  delta execSessionOpen
  refine frame_next ?_
  refine State.command_frame (hl.sub rfl) ?_ ?_
  · exact g2
  · intro x1 x3 x4 h2
    exact State.doSessionOpen_frame (hl.sub rfl) h2

theorem execSpiRead_frame {x1} {x2} {x3} (hl : Covers [.host] l) (g3 : State.Frame l z x3) :
    State.FrameOut l z (execSpiRead x1 x2 x3) := by
  delta execSpiRead
  exact frame_next (State.spiRead_frame (hl.sub rfl) g3)

theorem execConsoleOpen_frame {x1} (hl : Covers [.spoke, .console] l) (g1 : State.Frame l z x1) :
    State.FrameOut l z (execConsoleOpen x1) := by
  delta execConsoleOpen
  exact frame_next (State.consoleOpens_frame (hl.sub rfl) g1)

theorem execFrameReceive_frame {x1} {x2} {x3} (hl : Covers [.spoke, .host, .bus] l) (g3 : State.Frame l z x3) :
    State.FrameOut l z (execFrameReceive x1 x2 x3) := by
  delta execFrameReceive
  exact frame_next (State.received_frame (hl.sub rfl) g3)

theorem execSessionClose_frame {x1} {x2} (hl : Covers [.spoke, .flt, .dbg] l) (g2 : State.Frame l z x2) :
    State.FrameOut l z (execSessionClose x1 x2) := by
  delta execSessionClose
  refine frame_next ?_
  refine State.command_frame (hl.sub rfl) ?_ ?_
  · exact g2
  · intro x1 x3 x4 h2
    exact State.doSessionClose_frame (hl.sub rfl) h2

theorem execHostBaudRevert_frame {x1} (hl : Covers [.spoke, .host] l) (g1 : State.Frame l z x1) :
    State.FrameOut l z (execHostBaudRevert x1) := by
  delta execHostBaudRevert
  exact frame_next (State.baudReverts_frame (hl.sub rfl) g1)

theorem execSessionReset_frame {x1} {x2} (hl : Covers [.regs, .spoke, .sec, .dbg] l) (g2 : State.Frame l z x2) :
    State.FrameOut l z (execSessionReset x1 x2) := by
  delta execSessionReset
  exact frame_next (State.resetSession_frame (hl.sub rfl) g2)

theorem execFrameAdmission_frame {x1} {x2} (hl : Covers [.regs, .spoke, .host, .sec, .dbg] l) (g2 : State.Frame l z x2) :
    State.FrameOut l z (execFrameAdmission x1 x2) := by
  delta execFrameAdmission
  refine frame_next ?_
  refine frame_ite ?_ ?_
  · exact State.admitNext_frame (hl.sub rfl) g2
  · exact g2

theorem execHubResetStart_frame {x1} (hl : Covers [.regs, .free, .cad, .pwr, .spoke, .host, .console, .zones, .pwm, .act, .adc, .pad, .bus, .hay, .stb, .dsp, .seg, .thm, .sec, .flt, .dbg] l) (g1 : State.Frame l z x1) :
    State.FrameOut l z (execHubResetStart x1) := by
  delta execHubResetStart
  exact frame_next (State.hubResetStarts_frame (hl.sub rfl) g1)

theorem execConsoleClose_frame {x1} (hl : Covers [.regs, .free, .pwr, .spoke, .console, .hay, .sec, .flt] l) (g1 : State.Frame l z x1) :
    State.FrameOut l z (execConsoleClose x1) := by
  delta execConsoleClose
  refine frame_next ?_
  refine frame_ite ?_ ?_
  · exact State.consoleCloses_frame (hl.sub rfl) g1
  · exact g1

theorem execConsoleIdleTimeout_frame {x1} (hl : Covers [.regs, .free, .pwr, .spoke, .console, .hay, .sec, .flt] l) (g1 : State.Frame l z x1) :
    State.FrameOut l z (execConsoleIdleTimeout x1) := by
  delta execConsoleIdleTimeout
  refine frame_next ?_
  refine frame_ite ?_ ?_
  · exact State.consoleCloses_frame (hl.sub rfl) g1
  · exact g1

theorem execConsoleKey_frame {x1} {x2} (hl : Covers [.regs, .free, .pwr, .spoke, .console, .hay, .sec, .flt] l) (g2 : State.Frame l z x2) :
    State.FrameOut l z (execConsoleKey x1 x2) := by
  delta execConsoleKey
  exact frame_next (State.consoleKeyed_frame (hl.sub rfl) g2)

end Sys2Proof.Machine
end

