-- ==== Sys2Proof/Laws/State.lean ====
section
/-!
SUPPORT. Sys2Proof/Laws/State.lean: what each update of a part of the state leaves alone, and what it makes a read give.
-/

namespace Sys2Proof.Machine

variable (s : State)

/-! ### wr -/

@[simp] theorem State.wr_pending (r v : Nat) : (s.wr r v).pending = s.pending := rfl
@[simp] theorem State.wr_free (r v : Nat) : (s.wr r v).free = s.free := rfl
@[simp] theorem State.wr_cad (r v : Nat) : (s.wr r v).cad = s.cad := rfl
@[simp] theorem State.wr_pwr (r v : Nat) : (s.wr r v).pwr = s.pwr := rfl
@[simp] theorem State.wr_spoke (r v : Nat) : (s.wr r v).spoke = s.spoke := rfl
@[simp] theorem State.wr_host (r v : Nat) : (s.wr r v).host = s.host := rfl
@[simp] theorem State.wr_console (r v : Nat) : (s.wr r v).console = s.console := rfl
@[simp] theorem State.wr_zones (r v : Nat) : (s.wr r v).zones = s.zones := rfl
@[simp] theorem State.wr_pwm (r v : Nat) : (s.wr r v).pwm = s.pwm := rfl
@[simp] theorem State.wr_act (r v : Nat) : (s.wr r v).act = s.act := rfl
@[simp] theorem State.wr_adc (r v : Nat) : (s.wr r v).adc = s.adc := rfl
@[simp] theorem State.wr_pad (r v : Nat) : (s.wr r v).pad = s.pad := rfl
@[simp] theorem State.wr_bus (r v : Nat) : (s.wr r v).bus = s.bus := rfl
@[simp] theorem State.wr_hay (r v : Nat) : (s.wr r v).hay = s.hay := rfl
@[simp] theorem State.wr_stb (r v : Nat) : (s.wr r v).stb = s.stb := rfl
@[simp] theorem State.wr_dsp (r v : Nat) : (s.wr r v).dsp = s.dsp := rfl
@[simp] theorem State.wr_seg (r v : Nat) : (s.wr r v).seg = s.seg := rfl
@[simp] theorem State.wr_thm (r v : Nat) : (s.wr r v).thm = s.thm := rfl
@[simp] theorem State.wr_sec (r v : Nat) : (s.wr r v).sec = s.sec := rfl
@[simp] theorem State.wr_flt (r v : Nat) : (s.wr r v).flt = s.flt := rfl
@[simp] theorem State.wr_dbg (r v : Nat) : (s.wr r v).dbg = s.dbg := rfl

/-! ### clearAttr -/

@[simp] theorem State.clearAttr_pending (id : Nat) : (s.clearAttr id).pending = s.pending := rfl
@[simp] theorem State.clearAttr_free (id : Nat) : (s.clearAttr id).free = s.free := rfl
@[simp] theorem State.clearAttr_cad (id : Nat) : (s.clearAttr id).cad = s.cad := rfl
@[simp] theorem State.clearAttr_pwr (id : Nat) : (s.clearAttr id).pwr = s.pwr := rfl
@[simp] theorem State.clearAttr_spoke (id : Nat) : (s.clearAttr id).spoke = s.spoke := rfl
@[simp] theorem State.clearAttr_host (id : Nat) : (s.clearAttr id).host = s.host := rfl
@[simp] theorem State.clearAttr_console (id : Nat) : (s.clearAttr id).console = s.console := rfl
@[simp] theorem State.clearAttr_zones (id : Nat) : (s.clearAttr id).zones = s.zones := rfl
@[simp] theorem State.clearAttr_pwm (id : Nat) : (s.clearAttr id).pwm = s.pwm := rfl
@[simp] theorem State.clearAttr_act (id : Nat) : (s.clearAttr id).act = s.act := rfl
@[simp] theorem State.clearAttr_adc (id : Nat) : (s.clearAttr id).adc = s.adc := rfl
@[simp] theorem State.clearAttr_pad (id : Nat) : (s.clearAttr id).pad = s.pad := rfl
@[simp] theorem State.clearAttr_bus (id : Nat) : (s.clearAttr id).bus = s.bus := rfl
@[simp] theorem State.clearAttr_hay (id : Nat) : (s.clearAttr id).hay = s.hay := rfl
@[simp] theorem State.clearAttr_stb (id : Nat) : (s.clearAttr id).stb = s.stb := rfl
@[simp] theorem State.clearAttr_dsp (id : Nat) : (s.clearAttr id).dsp = s.dsp := rfl
@[simp] theorem State.clearAttr_seg (id : Nat) : (s.clearAttr id).seg = s.seg := rfl
@[simp] theorem State.clearAttr_thm (id : Nat) : (s.clearAttr id).thm = s.thm := rfl
@[simp] theorem State.clearAttr_sec (id : Nat) : (s.clearAttr id).sec = s.sec := rfl
@[simp] theorem State.clearAttr_flt (id : Nat) : (s.clearAttr id).flt = s.flt := rfl
@[simp] theorem State.clearAttr_dbg (id : Nat) : (s.clearAttr id).dbg = s.dbg := rfl

/-! ### modChan -/

@[simp] theorem State.modChan_pending (k : Nat) (f : Channel → Channel) : (s.modChan k f).pending = s.pending := rfl
@[simp] theorem State.modChan_regs (k : Nat) (f : Channel → Channel) : (s.modChan k f).regs = s.regs := rfl
@[simp] theorem State.modChan_free (k : Nat) (f : Channel → Channel) : (s.modChan k f).free = s.free := rfl
@[simp] theorem State.modChan_cad (k : Nat) (f : Channel → Channel) : (s.modChan k f).cad = s.cad := rfl
@[simp] theorem State.modChan_pwr (k : Nat) (f : Channel → Channel) : (s.modChan k f).pwr = s.pwr := rfl
@[simp] theorem State.modChan_host (k : Nat) (f : Channel → Channel) : (s.modChan k f).host = s.host := rfl
@[simp] theorem State.modChan_console (k : Nat) (f : Channel → Channel) : (s.modChan k f).console = s.console := rfl
@[simp] theorem State.modChan_zones (k : Nat) (f : Channel → Channel) : (s.modChan k f).zones = s.zones := rfl
@[simp] theorem State.modChan_pwm (k : Nat) (f : Channel → Channel) : (s.modChan k f).pwm = s.pwm := rfl
@[simp] theorem State.modChan_act (k : Nat) (f : Channel → Channel) : (s.modChan k f).act = s.act := rfl
@[simp] theorem State.modChan_adc (k : Nat) (f : Channel → Channel) : (s.modChan k f).adc = s.adc := rfl
@[simp] theorem State.modChan_pad (k : Nat) (f : Channel → Channel) : (s.modChan k f).pad = s.pad := rfl
@[simp] theorem State.modChan_bus (k : Nat) (f : Channel → Channel) : (s.modChan k f).bus = s.bus := rfl
@[simp] theorem State.modChan_hay (k : Nat) (f : Channel → Channel) : (s.modChan k f).hay = s.hay := rfl
@[simp] theorem State.modChan_stb (k : Nat) (f : Channel → Channel) : (s.modChan k f).stb = s.stb := rfl
@[simp] theorem State.modChan_dsp (k : Nat) (f : Channel → Channel) : (s.modChan k f).dsp = s.dsp := rfl
@[simp] theorem State.modChan_seg (k : Nat) (f : Channel → Channel) : (s.modChan k f).seg = s.seg := rfl
@[simp] theorem State.modChan_thm (k : Nat) (f : Channel → Channel) : (s.modChan k f).thm = s.thm := rfl
@[simp] theorem State.modChan_sec (k : Nat) (f : Channel → Channel) : (s.modChan k f).sec = s.sec := rfl
@[simp] theorem State.modChan_flt (k : Nat) (f : Channel → Channel) : (s.modChan k f).flt = s.flt := rfl
@[simp] theorem State.modChan_dbg (k : Nat) (f : Channel → Channel) : (s.modChan k f).dbg = s.dbg := rfl
@[simp] theorem State.modChan_rd (k : Nat) (f : Channel → Channel) (j : Nat) : (s.modChan k f).rd j = s.rd j := rfl
@[simp] theorem State.modChan_on (k : Nat) (f : Channel → Channel) (j : Nat) : (s.modChan k f).on j = s.on j := rfl
theorem State.modChan_chan (k : Nat) (f : Channel → Channel) (j : Nat) : (s.modChan k f).chan j = if k = j then f (s.chan k) else s.chan j := by
  unfold State.chan State.modChan mmod
  dsimp only
  rw [mget_mput]

/-! ### modLog -/

@[simp] theorem State.modLog_pending (k : Nat) (f : LogStream → LogStream) : (s.modLog k f).pending = s.pending := rfl
@[simp] theorem State.modLog_regs (k : Nat) (f : LogStream → LogStream) : (s.modLog k f).regs = s.regs := rfl
@[simp] theorem State.modLog_free (k : Nat) (f : LogStream → LogStream) : (s.modLog k f).free = s.free := rfl
@[simp] theorem State.modLog_cad (k : Nat) (f : LogStream → LogStream) : (s.modLog k f).cad = s.cad := rfl
@[simp] theorem State.modLog_pwr (k : Nat) (f : LogStream → LogStream) : (s.modLog k f).pwr = s.pwr := rfl
@[simp] theorem State.modLog_spoke (k : Nat) (f : LogStream → LogStream) : (s.modLog k f).spoke = s.spoke := rfl
@[simp] theorem State.modLog_host (k : Nat) (f : LogStream → LogStream) : (s.modLog k f).host = s.host := rfl
@[simp] theorem State.modLog_console (k : Nat) (f : LogStream → LogStream) : (s.modLog k f).console = s.console := rfl
@[simp] theorem State.modLog_zones (k : Nat) (f : LogStream → LogStream) : (s.modLog k f).zones = s.zones := rfl
@[simp] theorem State.modLog_pwm (k : Nat) (f : LogStream → LogStream) : (s.modLog k f).pwm = s.pwm := rfl
@[simp] theorem State.modLog_act (k : Nat) (f : LogStream → LogStream) : (s.modLog k f).act = s.act := rfl
@[simp] theorem State.modLog_adc (k : Nat) (f : LogStream → LogStream) : (s.modLog k f).adc = s.adc := rfl
@[simp] theorem State.modLog_pad (k : Nat) (f : LogStream → LogStream) : (s.modLog k f).pad = s.pad := rfl
@[simp] theorem State.modLog_bus (k : Nat) (f : LogStream → LogStream) : (s.modLog k f).bus = s.bus := rfl
@[simp] theorem State.modLog_stb (k : Nat) (f : LogStream → LogStream) : (s.modLog k f).stb = s.stb := rfl
@[simp] theorem State.modLog_dsp (k : Nat) (f : LogStream → LogStream) : (s.modLog k f).dsp = s.dsp := rfl
@[simp] theorem State.modLog_seg (k : Nat) (f : LogStream → LogStream) : (s.modLog k f).seg = s.seg := rfl
@[simp] theorem State.modLog_thm (k : Nat) (f : LogStream → LogStream) : (s.modLog k f).thm = s.thm := rfl
@[simp] theorem State.modLog_sec (k : Nat) (f : LogStream → LogStream) : (s.modLog k f).sec = s.sec := rfl
@[simp] theorem State.modLog_flt (k : Nat) (f : LogStream → LogStream) : (s.modLog k f).flt = s.flt := rfl
@[simp] theorem State.modLog_dbg (k : Nat) (f : LogStream → LogStream) : (s.modLog k f).dbg = s.dbg := rfl
@[simp] theorem State.modLog_rd (k : Nat) (f : LogStream → LogStream) (j : Nat) : (s.modLog k f).rd j = s.rd j := rfl
@[simp] theorem State.modLog_on (k : Nat) (f : LogStream → LogStream) (j : Nat) : (s.modLog k f).on j = s.on j := rfl
theorem State.modLog_log (k : Nat) (f : LogStream → LogStream) (j : Nat) : (s.modLog k f).log j = if k = j then f (s.log k) else s.log j := by
  unfold State.log State.modLog mmod
  dsimp only
  rw [mget_mput]

/-! ### modZone -/

@[simp] theorem State.modZone_pending (k : Nat) (f : Zone → Zone) : (s.modZone k f).pending = s.pending := rfl
@[simp] theorem State.modZone_regs (k : Nat) (f : Zone → Zone) : (s.modZone k f).regs = s.regs := rfl
@[simp] theorem State.modZone_free (k : Nat) (f : Zone → Zone) : (s.modZone k f).free = s.free := rfl
@[simp] theorem State.modZone_cad (k : Nat) (f : Zone → Zone) : (s.modZone k f).cad = s.cad := rfl
@[simp] theorem State.modZone_pwr (k : Nat) (f : Zone → Zone) : (s.modZone k f).pwr = s.pwr := rfl
@[simp] theorem State.modZone_spoke (k : Nat) (f : Zone → Zone) : (s.modZone k f).spoke = s.spoke := rfl
@[simp] theorem State.modZone_host (k : Nat) (f : Zone → Zone) : (s.modZone k f).host = s.host := rfl
@[simp] theorem State.modZone_console (k : Nat) (f : Zone → Zone) : (s.modZone k f).console = s.console := rfl
@[simp] theorem State.modZone_pwm (k : Nat) (f : Zone → Zone) : (s.modZone k f).pwm = s.pwm := rfl
@[simp] theorem State.modZone_act (k : Nat) (f : Zone → Zone) : (s.modZone k f).act = s.act := rfl
@[simp] theorem State.modZone_adc (k : Nat) (f : Zone → Zone) : (s.modZone k f).adc = s.adc := rfl
@[simp] theorem State.modZone_pad (k : Nat) (f : Zone → Zone) : (s.modZone k f).pad = s.pad := rfl
@[simp] theorem State.modZone_bus (k : Nat) (f : Zone → Zone) : (s.modZone k f).bus = s.bus := rfl
@[simp] theorem State.modZone_hay (k : Nat) (f : Zone → Zone) : (s.modZone k f).hay = s.hay := rfl
@[simp] theorem State.modZone_stb (k : Nat) (f : Zone → Zone) : (s.modZone k f).stb = s.stb := rfl
@[simp] theorem State.modZone_dsp (k : Nat) (f : Zone → Zone) : (s.modZone k f).dsp = s.dsp := rfl
@[simp] theorem State.modZone_seg (k : Nat) (f : Zone → Zone) : (s.modZone k f).seg = s.seg := rfl
@[simp] theorem State.modZone_thm (k : Nat) (f : Zone → Zone) : (s.modZone k f).thm = s.thm := rfl
@[simp] theorem State.modZone_sec (k : Nat) (f : Zone → Zone) : (s.modZone k f).sec = s.sec := rfl
@[simp] theorem State.modZone_flt (k : Nat) (f : Zone → Zone) : (s.modZone k f).flt = s.flt := rfl
@[simp] theorem State.modZone_dbg (k : Nat) (f : Zone → Zone) : (s.modZone k f).dbg = s.dbg := rfl
@[simp] theorem State.modZone_rd (k : Nat) (f : Zone → Zone) (j : Nat) : (s.modZone k f).rd j = s.rd j := rfl
@[simp] theorem State.modZone_on (k : Nat) (f : Zone → Zone) (j : Nat) : (s.modZone k f).on j = s.on j := rfl
theorem State.modZone_zone (k : Nat) (f : Zone → Zone) (j : Nat) : (s.modZone k f).zone j = if k = j then f (s.zone k) else s.zone j := by
  unfold State.zone State.modZone mmod
  dsimp only
  rw [mget_mput]

/-! ### modGrp -/

@[simp] theorem State.modGrp_pending (k : Nat) (f : PwmGrp → PwmGrp) : (s.modGrp k f).pending = s.pending := rfl
@[simp] theorem State.modGrp_regs (k : Nat) (f : PwmGrp → PwmGrp) : (s.modGrp k f).regs = s.regs := rfl
@[simp] theorem State.modGrp_free (k : Nat) (f : PwmGrp → PwmGrp) : (s.modGrp k f).free = s.free := rfl
@[simp] theorem State.modGrp_cad (k : Nat) (f : PwmGrp → PwmGrp) : (s.modGrp k f).cad = s.cad := rfl
@[simp] theorem State.modGrp_pwr (k : Nat) (f : PwmGrp → PwmGrp) : (s.modGrp k f).pwr = s.pwr := rfl
@[simp] theorem State.modGrp_spoke (k : Nat) (f : PwmGrp → PwmGrp) : (s.modGrp k f).spoke = s.spoke := rfl
@[simp] theorem State.modGrp_host (k : Nat) (f : PwmGrp → PwmGrp) : (s.modGrp k f).host = s.host := rfl
@[simp] theorem State.modGrp_console (k : Nat) (f : PwmGrp → PwmGrp) : (s.modGrp k f).console = s.console := rfl
@[simp] theorem State.modGrp_zones (k : Nat) (f : PwmGrp → PwmGrp) : (s.modGrp k f).zones = s.zones := rfl
@[simp] theorem State.modGrp_act (k : Nat) (f : PwmGrp → PwmGrp) : (s.modGrp k f).act = s.act := rfl
@[simp] theorem State.modGrp_adc (k : Nat) (f : PwmGrp → PwmGrp) : (s.modGrp k f).adc = s.adc := rfl
@[simp] theorem State.modGrp_pad (k : Nat) (f : PwmGrp → PwmGrp) : (s.modGrp k f).pad = s.pad := rfl
@[simp] theorem State.modGrp_bus (k : Nat) (f : PwmGrp → PwmGrp) : (s.modGrp k f).bus = s.bus := rfl
@[simp] theorem State.modGrp_hay (k : Nat) (f : PwmGrp → PwmGrp) : (s.modGrp k f).hay = s.hay := rfl
@[simp] theorem State.modGrp_stb (k : Nat) (f : PwmGrp → PwmGrp) : (s.modGrp k f).stb = s.stb := rfl
@[simp] theorem State.modGrp_dsp (k : Nat) (f : PwmGrp → PwmGrp) : (s.modGrp k f).dsp = s.dsp := rfl
@[simp] theorem State.modGrp_seg (k : Nat) (f : PwmGrp → PwmGrp) : (s.modGrp k f).seg = s.seg := rfl
@[simp] theorem State.modGrp_thm (k : Nat) (f : PwmGrp → PwmGrp) : (s.modGrp k f).thm = s.thm := rfl
@[simp] theorem State.modGrp_sec (k : Nat) (f : PwmGrp → PwmGrp) : (s.modGrp k f).sec = s.sec := rfl
@[simp] theorem State.modGrp_flt (k : Nat) (f : PwmGrp → PwmGrp) : (s.modGrp k f).flt = s.flt := rfl
@[simp] theorem State.modGrp_dbg (k : Nat) (f : PwmGrp → PwmGrp) : (s.modGrp k f).dbg = s.dbg := rfl
@[simp] theorem State.modGrp_rd (k : Nat) (f : PwmGrp → PwmGrp) (j : Nat) : (s.modGrp k f).rd j = s.rd j := rfl
@[simp] theorem State.modGrp_on (k : Nat) (f : PwmGrp → PwmGrp) (j : Nat) : (s.modGrp k f).on j = s.on j := rfl
theorem State.modGrp_grp (k : Nat) (f : PwmGrp → PwmGrp) (j : Nat) : (s.modGrp k f).grp j = if k = j then f (s.grp k) else s.grp j := by
  unfold State.grp State.modGrp mmod
  dsimp only
  rw [mget_mput]

/-! ### modPch -/

@[simp] theorem State.modPch_pending (k : Nat) (f : PwmCh → PwmCh) : (s.modPch k f).pending = s.pending := rfl
@[simp] theorem State.modPch_regs (k : Nat) (f : PwmCh → PwmCh) : (s.modPch k f).regs = s.regs := rfl
@[simp] theorem State.modPch_free (k : Nat) (f : PwmCh → PwmCh) : (s.modPch k f).free = s.free := rfl
@[simp] theorem State.modPch_cad (k : Nat) (f : PwmCh → PwmCh) : (s.modPch k f).cad = s.cad := rfl
@[simp] theorem State.modPch_pwr (k : Nat) (f : PwmCh → PwmCh) : (s.modPch k f).pwr = s.pwr := rfl
@[simp] theorem State.modPch_spoke (k : Nat) (f : PwmCh → PwmCh) : (s.modPch k f).spoke = s.spoke := rfl
@[simp] theorem State.modPch_host (k : Nat) (f : PwmCh → PwmCh) : (s.modPch k f).host = s.host := rfl
@[simp] theorem State.modPch_console (k : Nat) (f : PwmCh → PwmCh) : (s.modPch k f).console = s.console := rfl
@[simp] theorem State.modPch_zones (k : Nat) (f : PwmCh → PwmCh) : (s.modPch k f).zones = s.zones := rfl
@[simp] theorem State.modPch_act (k : Nat) (f : PwmCh → PwmCh) : (s.modPch k f).act = s.act := rfl
@[simp] theorem State.modPch_adc (k : Nat) (f : PwmCh → PwmCh) : (s.modPch k f).adc = s.adc := rfl
@[simp] theorem State.modPch_pad (k : Nat) (f : PwmCh → PwmCh) : (s.modPch k f).pad = s.pad := rfl
@[simp] theorem State.modPch_bus (k : Nat) (f : PwmCh → PwmCh) : (s.modPch k f).bus = s.bus := rfl
@[simp] theorem State.modPch_hay (k : Nat) (f : PwmCh → PwmCh) : (s.modPch k f).hay = s.hay := rfl
@[simp] theorem State.modPch_stb (k : Nat) (f : PwmCh → PwmCh) : (s.modPch k f).stb = s.stb := rfl
@[simp] theorem State.modPch_dsp (k : Nat) (f : PwmCh → PwmCh) : (s.modPch k f).dsp = s.dsp := rfl
@[simp] theorem State.modPch_seg (k : Nat) (f : PwmCh → PwmCh) : (s.modPch k f).seg = s.seg := rfl
@[simp] theorem State.modPch_thm (k : Nat) (f : PwmCh → PwmCh) : (s.modPch k f).thm = s.thm := rfl
@[simp] theorem State.modPch_sec (k : Nat) (f : PwmCh → PwmCh) : (s.modPch k f).sec = s.sec := rfl
@[simp] theorem State.modPch_flt (k : Nat) (f : PwmCh → PwmCh) : (s.modPch k f).flt = s.flt := rfl
@[simp] theorem State.modPch_dbg (k : Nat) (f : PwmCh → PwmCh) : (s.modPch k f).dbg = s.dbg := rfl
@[simp] theorem State.modPch_rd (k : Nat) (f : PwmCh → PwmCh) (j : Nat) : (s.modPch k f).rd j = s.rd j := rfl
@[simp] theorem State.modPch_on (k : Nat) (f : PwmCh → PwmCh) (j : Nat) : (s.modPch k f).on j = s.on j := rfl
theorem State.modPch_pch (k : Nat) (f : PwmCh → PwmCh) (j : Nat) : (s.modPch k f).pch j = if k = j then f (s.pch k) else s.pch j := by
  unfold State.pch State.modPch mmod
  dsimp only
  rw [mget_mput]

/-! ### modValve -/

@[simp] theorem State.modValve_pending (k : Nat) (f : Valve → Valve) : (s.modValve k f).pending = s.pending := rfl
@[simp] theorem State.modValve_regs (k : Nat) (f : Valve → Valve) : (s.modValve k f).regs = s.regs := rfl
@[simp] theorem State.modValve_free (k : Nat) (f : Valve → Valve) : (s.modValve k f).free = s.free := rfl
@[simp] theorem State.modValve_cad (k : Nat) (f : Valve → Valve) : (s.modValve k f).cad = s.cad := rfl
@[simp] theorem State.modValve_pwr (k : Nat) (f : Valve → Valve) : (s.modValve k f).pwr = s.pwr := rfl
@[simp] theorem State.modValve_spoke (k : Nat) (f : Valve → Valve) : (s.modValve k f).spoke = s.spoke := rfl
@[simp] theorem State.modValve_host (k : Nat) (f : Valve → Valve) : (s.modValve k f).host = s.host := rfl
@[simp] theorem State.modValve_console (k : Nat) (f : Valve → Valve) : (s.modValve k f).console = s.console := rfl
@[simp] theorem State.modValve_zones (k : Nat) (f : Valve → Valve) : (s.modValve k f).zones = s.zones := rfl
@[simp] theorem State.modValve_pwm (k : Nat) (f : Valve → Valve) : (s.modValve k f).pwm = s.pwm := rfl
@[simp] theorem State.modValve_adc (k : Nat) (f : Valve → Valve) : (s.modValve k f).adc = s.adc := rfl
@[simp] theorem State.modValve_pad (k : Nat) (f : Valve → Valve) : (s.modValve k f).pad = s.pad := rfl
@[simp] theorem State.modValve_bus (k : Nat) (f : Valve → Valve) : (s.modValve k f).bus = s.bus := rfl
@[simp] theorem State.modValve_hay (k : Nat) (f : Valve → Valve) : (s.modValve k f).hay = s.hay := rfl
@[simp] theorem State.modValve_stb (k : Nat) (f : Valve → Valve) : (s.modValve k f).stb = s.stb := rfl
@[simp] theorem State.modValve_dsp (k : Nat) (f : Valve → Valve) : (s.modValve k f).dsp = s.dsp := rfl
@[simp] theorem State.modValve_seg (k : Nat) (f : Valve → Valve) : (s.modValve k f).seg = s.seg := rfl
@[simp] theorem State.modValve_thm (k : Nat) (f : Valve → Valve) : (s.modValve k f).thm = s.thm := rfl
@[simp] theorem State.modValve_sec (k : Nat) (f : Valve → Valve) : (s.modValve k f).sec = s.sec := rfl
@[simp] theorem State.modValve_flt (k : Nat) (f : Valve → Valve) : (s.modValve k f).flt = s.flt := rfl
@[simp] theorem State.modValve_dbg (k : Nat) (f : Valve → Valve) : (s.modValve k f).dbg = s.dbg := rfl
@[simp] theorem State.modValve_rd (k : Nat) (f : Valve → Valve) (j : Nat) : (s.modValve k f).rd j = s.rd j := rfl
@[simp] theorem State.modValve_on (k : Nat) (f : Valve → Valve) (j : Nat) : (s.modValve k f).on j = s.on j := rfl
theorem State.modValve_valve (k : Nat) (f : Valve → Valve) (j : Nat) : (s.modValve k f).valve j = if k = j then f (s.valve k) else s.valve j := by
  unfold State.valve State.modValve mmod
  dsimp only
  rw [mget_mput]

/-! ### modVgrp -/

@[simp] theorem State.modVgrp_pending (k : Nat) (f : VGrp → VGrp) : (s.modVgrp k f).pending = s.pending := rfl
@[simp] theorem State.modVgrp_regs (k : Nat) (f : VGrp → VGrp) : (s.modVgrp k f).regs = s.regs := rfl
@[simp] theorem State.modVgrp_free (k : Nat) (f : VGrp → VGrp) : (s.modVgrp k f).free = s.free := rfl
@[simp] theorem State.modVgrp_cad (k : Nat) (f : VGrp → VGrp) : (s.modVgrp k f).cad = s.cad := rfl
@[simp] theorem State.modVgrp_pwr (k : Nat) (f : VGrp → VGrp) : (s.modVgrp k f).pwr = s.pwr := rfl
@[simp] theorem State.modVgrp_spoke (k : Nat) (f : VGrp → VGrp) : (s.modVgrp k f).spoke = s.spoke := rfl
@[simp] theorem State.modVgrp_host (k : Nat) (f : VGrp → VGrp) : (s.modVgrp k f).host = s.host := rfl
@[simp] theorem State.modVgrp_console (k : Nat) (f : VGrp → VGrp) : (s.modVgrp k f).console = s.console := rfl
@[simp] theorem State.modVgrp_zones (k : Nat) (f : VGrp → VGrp) : (s.modVgrp k f).zones = s.zones := rfl
@[simp] theorem State.modVgrp_pwm (k : Nat) (f : VGrp → VGrp) : (s.modVgrp k f).pwm = s.pwm := rfl
@[simp] theorem State.modVgrp_adc (k : Nat) (f : VGrp → VGrp) : (s.modVgrp k f).adc = s.adc := rfl
@[simp] theorem State.modVgrp_pad (k : Nat) (f : VGrp → VGrp) : (s.modVgrp k f).pad = s.pad := rfl
@[simp] theorem State.modVgrp_bus (k : Nat) (f : VGrp → VGrp) : (s.modVgrp k f).bus = s.bus := rfl
@[simp] theorem State.modVgrp_hay (k : Nat) (f : VGrp → VGrp) : (s.modVgrp k f).hay = s.hay := rfl
@[simp] theorem State.modVgrp_stb (k : Nat) (f : VGrp → VGrp) : (s.modVgrp k f).stb = s.stb := rfl
@[simp] theorem State.modVgrp_dsp (k : Nat) (f : VGrp → VGrp) : (s.modVgrp k f).dsp = s.dsp := rfl
@[simp] theorem State.modVgrp_seg (k : Nat) (f : VGrp → VGrp) : (s.modVgrp k f).seg = s.seg := rfl
@[simp] theorem State.modVgrp_thm (k : Nat) (f : VGrp → VGrp) : (s.modVgrp k f).thm = s.thm := rfl
@[simp] theorem State.modVgrp_sec (k : Nat) (f : VGrp → VGrp) : (s.modVgrp k f).sec = s.sec := rfl
@[simp] theorem State.modVgrp_flt (k : Nat) (f : VGrp → VGrp) : (s.modVgrp k f).flt = s.flt := rfl
@[simp] theorem State.modVgrp_dbg (k : Nat) (f : VGrp → VGrp) : (s.modVgrp k f).dbg = s.dbg := rfl
@[simp] theorem State.modVgrp_rd (k : Nat) (f : VGrp → VGrp) (j : Nat) : (s.modVgrp k f).rd j = s.rd j := rfl
@[simp] theorem State.modVgrp_on (k : Nat) (f : VGrp → VGrp) (j : Nat) : (s.modVgrp k f).on j = s.on j := rfl
theorem State.modVgrp_vgrp (k : Nat) (f : VGrp → VGrp) (j : Nat) : (s.modVgrp k f).vgrp j = if k = j then f (s.vgrp k) else s.vgrp j := by
  unfold State.vgrp State.modVgrp mmod
  dsimp only
  rw [mget_mput]

/-! ### modBridge -/

@[simp] theorem State.modBridge_pending (k : Nat) (f : Bridge → Bridge) : (s.modBridge k f).pending = s.pending := rfl
@[simp] theorem State.modBridge_regs (k : Nat) (f : Bridge → Bridge) : (s.modBridge k f).regs = s.regs := rfl
@[simp] theorem State.modBridge_free (k : Nat) (f : Bridge → Bridge) : (s.modBridge k f).free = s.free := rfl
@[simp] theorem State.modBridge_cad (k : Nat) (f : Bridge → Bridge) : (s.modBridge k f).cad = s.cad := rfl
@[simp] theorem State.modBridge_pwr (k : Nat) (f : Bridge → Bridge) : (s.modBridge k f).pwr = s.pwr := rfl
@[simp] theorem State.modBridge_spoke (k : Nat) (f : Bridge → Bridge) : (s.modBridge k f).spoke = s.spoke := rfl
@[simp] theorem State.modBridge_host (k : Nat) (f : Bridge → Bridge) : (s.modBridge k f).host = s.host := rfl
@[simp] theorem State.modBridge_console (k : Nat) (f : Bridge → Bridge) : (s.modBridge k f).console = s.console := rfl
@[simp] theorem State.modBridge_zones (k : Nat) (f : Bridge → Bridge) : (s.modBridge k f).zones = s.zones := rfl
@[simp] theorem State.modBridge_pwm (k : Nat) (f : Bridge → Bridge) : (s.modBridge k f).pwm = s.pwm := rfl
@[simp] theorem State.modBridge_adc (k : Nat) (f : Bridge → Bridge) : (s.modBridge k f).adc = s.adc := rfl
@[simp] theorem State.modBridge_pad (k : Nat) (f : Bridge → Bridge) : (s.modBridge k f).pad = s.pad := rfl
@[simp] theorem State.modBridge_bus (k : Nat) (f : Bridge → Bridge) : (s.modBridge k f).bus = s.bus := rfl
@[simp] theorem State.modBridge_hay (k : Nat) (f : Bridge → Bridge) : (s.modBridge k f).hay = s.hay := rfl
@[simp] theorem State.modBridge_stb (k : Nat) (f : Bridge → Bridge) : (s.modBridge k f).stb = s.stb := rfl
@[simp] theorem State.modBridge_dsp (k : Nat) (f : Bridge → Bridge) : (s.modBridge k f).dsp = s.dsp := rfl
@[simp] theorem State.modBridge_seg (k : Nat) (f : Bridge → Bridge) : (s.modBridge k f).seg = s.seg := rfl
@[simp] theorem State.modBridge_thm (k : Nat) (f : Bridge → Bridge) : (s.modBridge k f).thm = s.thm := rfl
@[simp] theorem State.modBridge_sec (k : Nat) (f : Bridge → Bridge) : (s.modBridge k f).sec = s.sec := rfl
@[simp] theorem State.modBridge_flt (k : Nat) (f : Bridge → Bridge) : (s.modBridge k f).flt = s.flt := rfl
@[simp] theorem State.modBridge_dbg (k : Nat) (f : Bridge → Bridge) : (s.modBridge k f).dbg = s.dbg := rfl
@[simp] theorem State.modBridge_rd (k : Nat) (f : Bridge → Bridge) (j : Nat) : (s.modBridge k f).rd j = s.rd j := rfl
@[simp] theorem State.modBridge_on (k : Nat) (f : Bridge → Bridge) (j : Nat) : (s.modBridge k f).on j = s.on j := rfl
theorem State.modBridge_bridge (k : Nat) (f : Bridge → Bridge) (j : Nat) : (s.modBridge k f).bridge j = if k = j then f (s.bridge k) else s.bridge j := by
  unfold State.bridge State.modBridge mmod
  dsimp only
  rw [mget_mput]

/-! ### modFan -/

@[simp] theorem State.modFan_pending (k : Nat) (f : Fan → Fan) : (s.modFan k f).pending = s.pending := rfl
@[simp] theorem State.modFan_regs (k : Nat) (f : Fan → Fan) : (s.modFan k f).regs = s.regs := rfl
@[simp] theorem State.modFan_free (k : Nat) (f : Fan → Fan) : (s.modFan k f).free = s.free := rfl
@[simp] theorem State.modFan_cad (k : Nat) (f : Fan → Fan) : (s.modFan k f).cad = s.cad := rfl
@[simp] theorem State.modFan_pwr (k : Nat) (f : Fan → Fan) : (s.modFan k f).pwr = s.pwr := rfl
@[simp] theorem State.modFan_spoke (k : Nat) (f : Fan → Fan) : (s.modFan k f).spoke = s.spoke := rfl
@[simp] theorem State.modFan_host (k : Nat) (f : Fan → Fan) : (s.modFan k f).host = s.host := rfl
@[simp] theorem State.modFan_console (k : Nat) (f : Fan → Fan) : (s.modFan k f).console = s.console := rfl
@[simp] theorem State.modFan_zones (k : Nat) (f : Fan → Fan) : (s.modFan k f).zones = s.zones := rfl
@[simp] theorem State.modFan_pwm (k : Nat) (f : Fan → Fan) : (s.modFan k f).pwm = s.pwm := rfl
@[simp] theorem State.modFan_adc (k : Nat) (f : Fan → Fan) : (s.modFan k f).adc = s.adc := rfl
@[simp] theorem State.modFan_pad (k : Nat) (f : Fan → Fan) : (s.modFan k f).pad = s.pad := rfl
@[simp] theorem State.modFan_bus (k : Nat) (f : Fan → Fan) : (s.modFan k f).bus = s.bus := rfl
@[simp] theorem State.modFan_hay (k : Nat) (f : Fan → Fan) : (s.modFan k f).hay = s.hay := rfl
@[simp] theorem State.modFan_stb (k : Nat) (f : Fan → Fan) : (s.modFan k f).stb = s.stb := rfl
@[simp] theorem State.modFan_dsp (k : Nat) (f : Fan → Fan) : (s.modFan k f).dsp = s.dsp := rfl
@[simp] theorem State.modFan_seg (k : Nat) (f : Fan → Fan) : (s.modFan k f).seg = s.seg := rfl
@[simp] theorem State.modFan_thm (k : Nat) (f : Fan → Fan) : (s.modFan k f).thm = s.thm := rfl
@[simp] theorem State.modFan_sec (k : Nat) (f : Fan → Fan) : (s.modFan k f).sec = s.sec := rfl
@[simp] theorem State.modFan_flt (k : Nat) (f : Fan → Fan) : (s.modFan k f).flt = s.flt := rfl
@[simp] theorem State.modFan_dbg (k : Nat) (f : Fan → Fan) : (s.modFan k f).dbg = s.dbg := rfl
@[simp] theorem State.modFan_rd (k : Nat) (f : Fan → Fan) (j : Nat) : (s.modFan k f).rd j = s.rd j := rfl
@[simp] theorem State.modFan_on (k : Nat) (f : Fan → Fan) (j : Nat) : (s.modFan k f).on j = s.on j := rfl
theorem State.modFan_fan (k : Nat) (f : Fan → Fan) (j : Nat) : (s.modFan k f).fan j = if k = j then f (s.fan k) else s.fan j := by
  unfold State.fan State.modFan mmod
  dsimp only
  rw [mget_mput]

/-! ### modRamp -/

@[simp] theorem State.modRamp_pending (k : Nat) (f : Ramp → Ramp) : (s.modRamp k f).pending = s.pending := rfl
@[simp] theorem State.modRamp_regs (k : Nat) (f : Ramp → Ramp) : (s.modRamp k f).regs = s.regs := rfl
@[simp] theorem State.modRamp_free (k : Nat) (f : Ramp → Ramp) : (s.modRamp k f).free = s.free := rfl
@[simp] theorem State.modRamp_cad (k : Nat) (f : Ramp → Ramp) : (s.modRamp k f).cad = s.cad := rfl
@[simp] theorem State.modRamp_pwr (k : Nat) (f : Ramp → Ramp) : (s.modRamp k f).pwr = s.pwr := rfl
@[simp] theorem State.modRamp_spoke (k : Nat) (f : Ramp → Ramp) : (s.modRamp k f).spoke = s.spoke := rfl
@[simp] theorem State.modRamp_host (k : Nat) (f : Ramp → Ramp) : (s.modRamp k f).host = s.host := rfl
@[simp] theorem State.modRamp_console (k : Nat) (f : Ramp → Ramp) : (s.modRamp k f).console = s.console := rfl
@[simp] theorem State.modRamp_zones (k : Nat) (f : Ramp → Ramp) : (s.modRamp k f).zones = s.zones := rfl
@[simp] theorem State.modRamp_pwm (k : Nat) (f : Ramp → Ramp) : (s.modRamp k f).pwm = s.pwm := rfl
@[simp] theorem State.modRamp_adc (k : Nat) (f : Ramp → Ramp) : (s.modRamp k f).adc = s.adc := rfl
@[simp] theorem State.modRamp_pad (k : Nat) (f : Ramp → Ramp) : (s.modRamp k f).pad = s.pad := rfl
@[simp] theorem State.modRamp_bus (k : Nat) (f : Ramp → Ramp) : (s.modRamp k f).bus = s.bus := rfl
@[simp] theorem State.modRamp_hay (k : Nat) (f : Ramp → Ramp) : (s.modRamp k f).hay = s.hay := rfl
@[simp] theorem State.modRamp_stb (k : Nat) (f : Ramp → Ramp) : (s.modRamp k f).stb = s.stb := rfl
@[simp] theorem State.modRamp_dsp (k : Nat) (f : Ramp → Ramp) : (s.modRamp k f).dsp = s.dsp := rfl
@[simp] theorem State.modRamp_seg (k : Nat) (f : Ramp → Ramp) : (s.modRamp k f).seg = s.seg := rfl
@[simp] theorem State.modRamp_thm (k : Nat) (f : Ramp → Ramp) : (s.modRamp k f).thm = s.thm := rfl
@[simp] theorem State.modRamp_sec (k : Nat) (f : Ramp → Ramp) : (s.modRamp k f).sec = s.sec := rfl
@[simp] theorem State.modRamp_flt (k : Nat) (f : Ramp → Ramp) : (s.modRamp k f).flt = s.flt := rfl
@[simp] theorem State.modRamp_dbg (k : Nat) (f : Ramp → Ramp) : (s.modRamp k f).dbg = s.dbg := rfl
@[simp] theorem State.modRamp_rd (k : Nat) (f : Ramp → Ramp) (j : Nat) : (s.modRamp k f).rd j = s.rd j := rfl
@[simp] theorem State.modRamp_on (k : Nat) (f : Ramp → Ramp) (j : Nat) : (s.modRamp k f).on j = s.on j := rfl
theorem State.modRamp_ramp (k : Nat) (f : Ramp → Ramp) (j : Nat) : (s.modRamp k f).ramp j = if k = j then f (s.ramp k) else s.ramp j := by
  unfold State.ramp State.modRamp mmod
  dsimp only
  rw [mget_mput]

/-! ### modAdcu -/

@[simp] theorem State.modAdcu_pending (k : Nat) (f : AdcUnit → AdcUnit) : (s.modAdcu k f).pending = s.pending := rfl
@[simp] theorem State.modAdcu_regs (k : Nat) (f : AdcUnit → AdcUnit) : (s.modAdcu k f).regs = s.regs := rfl
@[simp] theorem State.modAdcu_free (k : Nat) (f : AdcUnit → AdcUnit) : (s.modAdcu k f).free = s.free := rfl
@[simp] theorem State.modAdcu_cad (k : Nat) (f : AdcUnit → AdcUnit) : (s.modAdcu k f).cad = s.cad := rfl
@[simp] theorem State.modAdcu_pwr (k : Nat) (f : AdcUnit → AdcUnit) : (s.modAdcu k f).pwr = s.pwr := rfl
@[simp] theorem State.modAdcu_spoke (k : Nat) (f : AdcUnit → AdcUnit) : (s.modAdcu k f).spoke = s.spoke := rfl
@[simp] theorem State.modAdcu_host (k : Nat) (f : AdcUnit → AdcUnit) : (s.modAdcu k f).host = s.host := rfl
@[simp] theorem State.modAdcu_console (k : Nat) (f : AdcUnit → AdcUnit) : (s.modAdcu k f).console = s.console := rfl
@[simp] theorem State.modAdcu_zones (k : Nat) (f : AdcUnit → AdcUnit) : (s.modAdcu k f).zones = s.zones := rfl
@[simp] theorem State.modAdcu_pwm (k : Nat) (f : AdcUnit → AdcUnit) : (s.modAdcu k f).pwm = s.pwm := rfl
@[simp] theorem State.modAdcu_act (k : Nat) (f : AdcUnit → AdcUnit) : (s.modAdcu k f).act = s.act := rfl
@[simp] theorem State.modAdcu_pad (k : Nat) (f : AdcUnit → AdcUnit) : (s.modAdcu k f).pad = s.pad := rfl
@[simp] theorem State.modAdcu_bus (k : Nat) (f : AdcUnit → AdcUnit) : (s.modAdcu k f).bus = s.bus := rfl
@[simp] theorem State.modAdcu_hay (k : Nat) (f : AdcUnit → AdcUnit) : (s.modAdcu k f).hay = s.hay := rfl
@[simp] theorem State.modAdcu_stb (k : Nat) (f : AdcUnit → AdcUnit) : (s.modAdcu k f).stb = s.stb := rfl
@[simp] theorem State.modAdcu_dsp (k : Nat) (f : AdcUnit → AdcUnit) : (s.modAdcu k f).dsp = s.dsp := rfl
@[simp] theorem State.modAdcu_seg (k : Nat) (f : AdcUnit → AdcUnit) : (s.modAdcu k f).seg = s.seg := rfl
@[simp] theorem State.modAdcu_thm (k : Nat) (f : AdcUnit → AdcUnit) : (s.modAdcu k f).thm = s.thm := rfl
@[simp] theorem State.modAdcu_sec (k : Nat) (f : AdcUnit → AdcUnit) : (s.modAdcu k f).sec = s.sec := rfl
@[simp] theorem State.modAdcu_flt (k : Nat) (f : AdcUnit → AdcUnit) : (s.modAdcu k f).flt = s.flt := rfl
@[simp] theorem State.modAdcu_dbg (k : Nat) (f : AdcUnit → AdcUnit) : (s.modAdcu k f).dbg = s.dbg := rfl
@[simp] theorem State.modAdcu_rd (k : Nat) (f : AdcUnit → AdcUnit) (j : Nat) : (s.modAdcu k f).rd j = s.rd j := rfl
@[simp] theorem State.modAdcu_on (k : Nat) (f : AdcUnit → AdcUnit) (j : Nat) : (s.modAdcu k f).on j = s.on j := rfl
theorem State.modAdcu_adcu (k : Nat) (f : AdcUnit → AdcUnit) (j : Nat) : (s.modAdcu k f).adcu j = if k = j then f (s.adcu k) else s.adcu j := by
  unfold State.adcu State.modAdcu mmod
  dsimp only
  rw [mget_mput]

/-! ### modPort -/

@[simp] theorem State.modPort_pending (k : Nat) (f : Port → Port) : (s.modPort k f).pending = s.pending := rfl
@[simp] theorem State.modPort_regs (k : Nat) (f : Port → Port) : (s.modPort k f).regs = s.regs := rfl
@[simp] theorem State.modPort_free (k : Nat) (f : Port → Port) : (s.modPort k f).free = s.free := rfl
@[simp] theorem State.modPort_cad (k : Nat) (f : Port → Port) : (s.modPort k f).cad = s.cad := rfl
@[simp] theorem State.modPort_pwr (k : Nat) (f : Port → Port) : (s.modPort k f).pwr = s.pwr := rfl
@[simp] theorem State.modPort_spoke (k : Nat) (f : Port → Port) : (s.modPort k f).spoke = s.spoke := rfl
@[simp] theorem State.modPort_host (k : Nat) (f : Port → Port) : (s.modPort k f).host = s.host := rfl
@[simp] theorem State.modPort_console (k : Nat) (f : Port → Port) : (s.modPort k f).console = s.console := rfl
@[simp] theorem State.modPort_zones (k : Nat) (f : Port → Port) : (s.modPort k f).zones = s.zones := rfl
@[simp] theorem State.modPort_pwm (k : Nat) (f : Port → Port) : (s.modPort k f).pwm = s.pwm := rfl
@[simp] theorem State.modPort_act (k : Nat) (f : Port → Port) : (s.modPort k f).act = s.act := rfl
@[simp] theorem State.modPort_pad (k : Nat) (f : Port → Port) : (s.modPort k f).pad = s.pad := rfl
@[simp] theorem State.modPort_bus (k : Nat) (f : Port → Port) : (s.modPort k f).bus = s.bus := rfl
@[simp] theorem State.modPort_hay (k : Nat) (f : Port → Port) : (s.modPort k f).hay = s.hay := rfl
@[simp] theorem State.modPort_stb (k : Nat) (f : Port → Port) : (s.modPort k f).stb = s.stb := rfl
@[simp] theorem State.modPort_dsp (k : Nat) (f : Port → Port) : (s.modPort k f).dsp = s.dsp := rfl
@[simp] theorem State.modPort_seg (k : Nat) (f : Port → Port) : (s.modPort k f).seg = s.seg := rfl
@[simp] theorem State.modPort_thm (k : Nat) (f : Port → Port) : (s.modPort k f).thm = s.thm := rfl
@[simp] theorem State.modPort_sec (k : Nat) (f : Port → Port) : (s.modPort k f).sec = s.sec := rfl
@[simp] theorem State.modPort_flt (k : Nat) (f : Port → Port) : (s.modPort k f).flt = s.flt := rfl
@[simp] theorem State.modPort_dbg (k : Nat) (f : Port → Port) : (s.modPort k f).dbg = s.dbg := rfl
@[simp] theorem State.modPort_rd (k : Nat) (f : Port → Port) (j : Nat) : (s.modPort k f).rd j = s.rd j := rfl
@[simp] theorem State.modPort_on (k : Nat) (f : Port → Port) (j : Nat) : (s.modPort k f).on j = s.on j := rfl
theorem State.modPort_port (k : Nat) (f : Port → Port) (j : Nat) : (s.modPort k f).port j = if k = j then f (s.port k) else s.port j := by
  unfold State.port State.modPort mmod
  dsimp only
  rw [mget_mput]

/-! ### modDev -/

@[simp] theorem State.modDev_pending (k : Nat) (f : Dev → Dev) : (s.modDev k f).pending = s.pending := rfl
@[simp] theorem State.modDev_regs (k : Nat) (f : Dev → Dev) : (s.modDev k f).regs = s.regs := rfl
@[simp] theorem State.modDev_free (k : Nat) (f : Dev → Dev) : (s.modDev k f).free = s.free := rfl
@[simp] theorem State.modDev_cad (k : Nat) (f : Dev → Dev) : (s.modDev k f).cad = s.cad := rfl
@[simp] theorem State.modDev_pwr (k : Nat) (f : Dev → Dev) : (s.modDev k f).pwr = s.pwr := rfl
@[simp] theorem State.modDev_spoke (k : Nat) (f : Dev → Dev) : (s.modDev k f).spoke = s.spoke := rfl
@[simp] theorem State.modDev_host (k : Nat) (f : Dev → Dev) : (s.modDev k f).host = s.host := rfl
@[simp] theorem State.modDev_console (k : Nat) (f : Dev → Dev) : (s.modDev k f).console = s.console := rfl
@[simp] theorem State.modDev_zones (k : Nat) (f : Dev → Dev) : (s.modDev k f).zones = s.zones := rfl
@[simp] theorem State.modDev_pwm (k : Nat) (f : Dev → Dev) : (s.modDev k f).pwm = s.pwm := rfl
@[simp] theorem State.modDev_act (k : Nat) (f : Dev → Dev) : (s.modDev k f).act = s.act := rfl
@[simp] theorem State.modDev_pad (k : Nat) (f : Dev → Dev) : (s.modDev k f).pad = s.pad := rfl
@[simp] theorem State.modDev_bus (k : Nat) (f : Dev → Dev) : (s.modDev k f).bus = s.bus := rfl
@[simp] theorem State.modDev_hay (k : Nat) (f : Dev → Dev) : (s.modDev k f).hay = s.hay := rfl
@[simp] theorem State.modDev_stb (k : Nat) (f : Dev → Dev) : (s.modDev k f).stb = s.stb := rfl
@[simp] theorem State.modDev_dsp (k : Nat) (f : Dev → Dev) : (s.modDev k f).dsp = s.dsp := rfl
@[simp] theorem State.modDev_seg (k : Nat) (f : Dev → Dev) : (s.modDev k f).seg = s.seg := rfl
@[simp] theorem State.modDev_thm (k : Nat) (f : Dev → Dev) : (s.modDev k f).thm = s.thm := rfl
@[simp] theorem State.modDev_sec (k : Nat) (f : Dev → Dev) : (s.modDev k f).sec = s.sec := rfl
@[simp] theorem State.modDev_flt (k : Nat) (f : Dev → Dev) : (s.modDev k f).flt = s.flt := rfl
@[simp] theorem State.modDev_dbg (k : Nat) (f : Dev → Dev) : (s.modDev k f).dbg = s.dbg := rfl
@[simp] theorem State.modDev_rd (k : Nat) (f : Dev → Dev) (j : Nat) : (s.modDev k f).rd j = s.rd j := rfl
@[simp] theorem State.modDev_on (k : Nat) (f : Dev → Dev) (j : Nat) : (s.modDev k f).on j = s.on j := rfl
theorem State.modDev_dev (k : Nat) (f : Dev → Dev) (j : Nat) : (s.modDev k f).dev j = if k = j then f (s.dev k) else s.dev j := by
  unfold State.dev State.modDev mmod
  dsimp only
  rw [mget_mput]

/-! ### modBus -/

@[simp] theorem State.modBus_pending (k : Nat) (f : BusPort → BusPort) : (s.modBus k f).pending = s.pending := rfl
@[simp] theorem State.modBus_regs (k : Nat) (f : BusPort → BusPort) : (s.modBus k f).regs = s.regs := rfl
@[simp] theorem State.modBus_free (k : Nat) (f : BusPort → BusPort) : (s.modBus k f).free = s.free := rfl
@[simp] theorem State.modBus_cad (k : Nat) (f : BusPort → BusPort) : (s.modBus k f).cad = s.cad := rfl
@[simp] theorem State.modBus_pwr (k : Nat) (f : BusPort → BusPort) : (s.modBus k f).pwr = s.pwr := rfl
@[simp] theorem State.modBus_spoke (k : Nat) (f : BusPort → BusPort) : (s.modBus k f).spoke = s.spoke := rfl
@[simp] theorem State.modBus_host (k : Nat) (f : BusPort → BusPort) : (s.modBus k f).host = s.host := rfl
@[simp] theorem State.modBus_console (k : Nat) (f : BusPort → BusPort) : (s.modBus k f).console = s.console := rfl
@[simp] theorem State.modBus_zones (k : Nat) (f : BusPort → BusPort) : (s.modBus k f).zones = s.zones := rfl
@[simp] theorem State.modBus_pwm (k : Nat) (f : BusPort → BusPort) : (s.modBus k f).pwm = s.pwm := rfl
@[simp] theorem State.modBus_act (k : Nat) (f : BusPort → BusPort) : (s.modBus k f).act = s.act := rfl
@[simp] theorem State.modBus_adc (k : Nat) (f : BusPort → BusPort) : (s.modBus k f).adc = s.adc := rfl
@[simp] theorem State.modBus_pad (k : Nat) (f : BusPort → BusPort) : (s.modBus k f).pad = s.pad := rfl
@[simp] theorem State.modBus_hay (k : Nat) (f : BusPort → BusPort) : (s.modBus k f).hay = s.hay := rfl
@[simp] theorem State.modBus_stb (k : Nat) (f : BusPort → BusPort) : (s.modBus k f).stb = s.stb := rfl
@[simp] theorem State.modBus_dsp (k : Nat) (f : BusPort → BusPort) : (s.modBus k f).dsp = s.dsp := rfl
@[simp] theorem State.modBus_seg (k : Nat) (f : BusPort → BusPort) : (s.modBus k f).seg = s.seg := rfl
@[simp] theorem State.modBus_thm (k : Nat) (f : BusPort → BusPort) : (s.modBus k f).thm = s.thm := rfl
@[simp] theorem State.modBus_sec (k : Nat) (f : BusPort → BusPort) : (s.modBus k f).sec = s.sec := rfl
@[simp] theorem State.modBus_flt (k : Nat) (f : BusPort → BusPort) : (s.modBus k f).flt = s.flt := rfl
@[simp] theorem State.modBus_dbg (k : Nat) (f : BusPort → BusPort) : (s.modBus k f).dbg = s.dbg := rfl
@[simp] theorem State.modBus_rd (k : Nat) (f : BusPort → BusPort) (j : Nat) : (s.modBus k f).rd j = s.rd j := rfl
@[simp] theorem State.modBus_on (k : Nat) (f : BusPort → BusPort) (j : Nat) : (s.modBus k f).on j = s.on j := rfl
theorem State.modBus_busPort (k : Nat) (f : BusPort → BusPort) (j : Nat) : (s.modBus k f).busPort j = if k = j then f (s.busPort k) else s.busPort j := by
  unfold State.busPort State.modBus mmod
  dsimp only
  rw [mget_mput]

/-! ### modConn -/

@[simp] theorem State.modConn_pending (k : Nat) (f : Conn → Conn) : (s.modConn k f).pending = s.pending := rfl
@[simp] theorem State.modConn_regs (k : Nat) (f : Conn → Conn) : (s.modConn k f).regs = s.regs := rfl
@[simp] theorem State.modConn_free (k : Nat) (f : Conn → Conn) : (s.modConn k f).free = s.free := rfl
@[simp] theorem State.modConn_cad (k : Nat) (f : Conn → Conn) : (s.modConn k f).cad = s.cad := rfl
@[simp] theorem State.modConn_pwr (k : Nat) (f : Conn → Conn) : (s.modConn k f).pwr = s.pwr := rfl
@[simp] theorem State.modConn_spoke (k : Nat) (f : Conn → Conn) : (s.modConn k f).spoke = s.spoke := rfl
@[simp] theorem State.modConn_host (k : Nat) (f : Conn → Conn) : (s.modConn k f).host = s.host := rfl
@[simp] theorem State.modConn_console (k : Nat) (f : Conn → Conn) : (s.modConn k f).console = s.console := rfl
@[simp] theorem State.modConn_zones (k : Nat) (f : Conn → Conn) : (s.modConn k f).zones = s.zones := rfl
@[simp] theorem State.modConn_pwm (k : Nat) (f : Conn → Conn) : (s.modConn k f).pwm = s.pwm := rfl
@[simp] theorem State.modConn_act (k : Nat) (f : Conn → Conn) : (s.modConn k f).act = s.act := rfl
@[simp] theorem State.modConn_adc (k : Nat) (f : Conn → Conn) : (s.modConn k f).adc = s.adc := rfl
@[simp] theorem State.modConn_pad (k : Nat) (f : Conn → Conn) : (s.modConn k f).pad = s.pad := rfl
@[simp] theorem State.modConn_hay (k : Nat) (f : Conn → Conn) : (s.modConn k f).hay = s.hay := rfl
@[simp] theorem State.modConn_stb (k : Nat) (f : Conn → Conn) : (s.modConn k f).stb = s.stb := rfl
@[simp] theorem State.modConn_dsp (k : Nat) (f : Conn → Conn) : (s.modConn k f).dsp = s.dsp := rfl
@[simp] theorem State.modConn_seg (k : Nat) (f : Conn → Conn) : (s.modConn k f).seg = s.seg := rfl
@[simp] theorem State.modConn_thm (k : Nat) (f : Conn → Conn) : (s.modConn k f).thm = s.thm := rfl
@[simp] theorem State.modConn_sec (k : Nat) (f : Conn → Conn) : (s.modConn k f).sec = s.sec := rfl
@[simp] theorem State.modConn_flt (k : Nat) (f : Conn → Conn) : (s.modConn k f).flt = s.flt := rfl
@[simp] theorem State.modConn_dbg (k : Nat) (f : Conn → Conn) : (s.modConn k f).dbg = s.dbg := rfl
@[simp] theorem State.modConn_rd (k : Nat) (f : Conn → Conn) (j : Nat) : (s.modConn k f).rd j = s.rd j := rfl
@[simp] theorem State.modConn_on (k : Nat) (f : Conn → Conn) (j : Nat) : (s.modConn k f).on j = s.on j := rfl
theorem State.modConn_conn (k : Nat) (f : Conn → Conn) (j : Nat) : (s.modConn k f).conn j = if k = j then f (s.conn k) else s.conn j := by
  unfold State.conn State.modConn mmod
  dsimp only
  rw [mget_mput]

/-! ### modStall -/

@[simp] theorem State.modStall_pending (k : Nat) (f : Stall → Stall) : (s.modStall k f).pending = s.pending := rfl
@[simp] theorem State.modStall_regs (k : Nat) (f : Stall → Stall) : (s.modStall k f).regs = s.regs := rfl
@[simp] theorem State.modStall_free (k : Nat) (f : Stall → Stall) : (s.modStall k f).free = s.free := rfl
@[simp] theorem State.modStall_cad (k : Nat) (f : Stall → Stall) : (s.modStall k f).cad = s.cad := rfl
@[simp] theorem State.modStall_pwr (k : Nat) (f : Stall → Stall) : (s.modStall k f).pwr = s.pwr := rfl
@[simp] theorem State.modStall_spoke (k : Nat) (f : Stall → Stall) : (s.modStall k f).spoke = s.spoke := rfl
@[simp] theorem State.modStall_host (k : Nat) (f : Stall → Stall) : (s.modStall k f).host = s.host := rfl
@[simp] theorem State.modStall_console (k : Nat) (f : Stall → Stall) : (s.modStall k f).console = s.console := rfl
@[simp] theorem State.modStall_zones (k : Nat) (f : Stall → Stall) : (s.modStall k f).zones = s.zones := rfl
@[simp] theorem State.modStall_pwm (k : Nat) (f : Stall → Stall) : (s.modStall k f).pwm = s.pwm := rfl
@[simp] theorem State.modStall_act (k : Nat) (f : Stall → Stall) : (s.modStall k f).act = s.act := rfl
@[simp] theorem State.modStall_adc (k : Nat) (f : Stall → Stall) : (s.modStall k f).adc = s.adc := rfl
@[simp] theorem State.modStall_pad (k : Nat) (f : Stall → Stall) : (s.modStall k f).pad = s.pad := rfl
@[simp] theorem State.modStall_bus (k : Nat) (f : Stall → Stall) : (s.modStall k f).bus = s.bus := rfl
@[simp] theorem State.modStall_hay (k : Nat) (f : Stall → Stall) : (s.modStall k f).hay = s.hay := rfl
@[simp] theorem State.modStall_dsp (k : Nat) (f : Stall → Stall) : (s.modStall k f).dsp = s.dsp := rfl
@[simp] theorem State.modStall_seg (k : Nat) (f : Stall → Stall) : (s.modStall k f).seg = s.seg := rfl
@[simp] theorem State.modStall_thm (k : Nat) (f : Stall → Stall) : (s.modStall k f).thm = s.thm := rfl
@[simp] theorem State.modStall_sec (k : Nat) (f : Stall → Stall) : (s.modStall k f).sec = s.sec := rfl
@[simp] theorem State.modStall_flt (k : Nat) (f : Stall → Stall) : (s.modStall k f).flt = s.flt := rfl
@[simp] theorem State.modStall_dbg (k : Nat) (f : Stall → Stall) : (s.modStall k f).dbg = s.dbg := rfl
@[simp] theorem State.modStall_rd (k : Nat) (f : Stall → Stall) (j : Nat) : (s.modStall k f).rd j = s.rd j := rfl
@[simp] theorem State.modStall_on (k : Nat) (f : Stall → Stall) (j : Nat) : (s.modStall k f).on j = s.on j := rfl
theorem State.modStall_stall (k : Nat) (f : Stall → Stall) (j : Nat) : (s.modStall k f).stall j = if k = j then f (s.stall k) else s.stall j := by
  unfold State.stall State.modStall mmod
  dsimp only
  rw [mget_mput]

/-! ### Reads after writes -/

theorem State.wr_rd (r v j : Nat) : (s.wr r v).rd j = if r = j then v else s.rd j := rd_wr s r j v

@[simp] theorem State.wr_rd_same (r v : Nat) : (s.wr r v).rd r = v := by rw [State.wr_rd, if_pos rfl]

theorem State.wr_rd_other {r j : Nat} (v : Nat) (h : r ≠ j) : (s.wr r v).rd j = s.rd j := by rw [State.wr_rd, if_neg h]

@[simp] theorem State.wrs_nil : s.wrs [] = s := rfl

@[simp] theorem State.wrs_cons (r v : Nat) (l : List (Nat × Nat)) : s.wrs ((r, v) :: l) = (s.wr r v).wrs l := rfl

end Sys2Proof.Machine
end

