-- ==== Sys2Proof/Laws/Shared.lean ====
section
/-!
SUPPORT. Sys2Proof/Laws/Shared.lean: what the shared operations leave alone: replies, events, notes, log records and faults.
-/

namespace Sys2Proof.Machine

variable (s : State)

/-! ### event -/

@[simp] theorem State.event_pending (code : Nat) (b : Bytes) : (s.event code b).pending = s.pending :=
  (State.event_frame (l := [.spoke]) (fun _ h => h) State.Frame.refl) .pending (by decide)
@[simp] theorem State.event_regs (code : Nat) (b : Bytes) : (s.event code b).regs = s.regs :=
  (State.event_frame (l := [.spoke]) (fun _ h => h) State.Frame.refl) .regs (by decide)
@[simp] theorem State.event_free (code : Nat) (b : Bytes) : (s.event code b).free = s.free :=
  (State.event_frame (l := [.spoke]) (fun _ h => h) State.Frame.refl) .free (by decide)
@[simp] theorem State.event_cad (code : Nat) (b : Bytes) : (s.event code b).cad = s.cad :=
  (State.event_frame (l := [.spoke]) (fun _ h => h) State.Frame.refl) .cad (by decide)
@[simp] theorem State.event_pwr (code : Nat) (b : Bytes) : (s.event code b).pwr = s.pwr :=
  (State.event_frame (l := [.spoke]) (fun _ h => h) State.Frame.refl) .pwr (by decide)
@[simp] theorem State.event_host (code : Nat) (b : Bytes) : (s.event code b).host = s.host :=
  (State.event_frame (l := [.spoke]) (fun _ h => h) State.Frame.refl) .host (by decide)
@[simp] theorem State.event_console (code : Nat) (b : Bytes) : (s.event code b).console = s.console :=
  (State.event_frame (l := [.spoke]) (fun _ h => h) State.Frame.refl) .console (by decide)
@[simp] theorem State.event_zones (code : Nat) (b : Bytes) : (s.event code b).zones = s.zones :=
  (State.event_frame (l := [.spoke]) (fun _ h => h) State.Frame.refl) .zones (by decide)
@[simp] theorem State.event_pwm (code : Nat) (b : Bytes) : (s.event code b).pwm = s.pwm :=
  (State.event_frame (l := [.spoke]) (fun _ h => h) State.Frame.refl) .pwm (by decide)
@[simp] theorem State.event_act (code : Nat) (b : Bytes) : (s.event code b).act = s.act :=
  (State.event_frame (l := [.spoke]) (fun _ h => h) State.Frame.refl) .act (by decide)
@[simp] theorem State.event_adc (code : Nat) (b : Bytes) : (s.event code b).adc = s.adc :=
  (State.event_frame (l := [.spoke]) (fun _ h => h) State.Frame.refl) .adc (by decide)
@[simp] theorem State.event_pad (code : Nat) (b : Bytes) : (s.event code b).pad = s.pad :=
  (State.event_frame (l := [.spoke]) (fun _ h => h) State.Frame.refl) .pad (by decide)
@[simp] theorem State.event_bus (code : Nat) (b : Bytes) : (s.event code b).bus = s.bus :=
  (State.event_frame (l := [.spoke]) (fun _ h => h) State.Frame.refl) .bus (by decide)
@[simp] theorem State.event_hay (code : Nat) (b : Bytes) : (s.event code b).hay = s.hay :=
  (State.event_frame (l := [.spoke]) (fun _ h => h) State.Frame.refl) .hay (by decide)
@[simp] theorem State.event_stb (code : Nat) (b : Bytes) : (s.event code b).stb = s.stb :=
  (State.event_frame (l := [.spoke]) (fun _ h => h) State.Frame.refl) .stb (by decide)
@[simp] theorem State.event_dsp (code : Nat) (b : Bytes) : (s.event code b).dsp = s.dsp :=
  (State.event_frame (l := [.spoke]) (fun _ h => h) State.Frame.refl) .dsp (by decide)
@[simp] theorem State.event_seg (code : Nat) (b : Bytes) : (s.event code b).seg = s.seg :=
  (State.event_frame (l := [.spoke]) (fun _ h => h) State.Frame.refl) .seg (by decide)
@[simp] theorem State.event_thm (code : Nat) (b : Bytes) : (s.event code b).thm = s.thm :=
  (State.event_frame (l := [.spoke]) (fun _ h => h) State.Frame.refl) .thm (by decide)
@[simp] theorem State.event_sec (code : Nat) (b : Bytes) : (s.event code b).sec = s.sec :=
  (State.event_frame (l := [.spoke]) (fun _ h => h) State.Frame.refl) .sec (by decide)
@[simp] theorem State.event_flt (code : Nat) (b : Bytes) : (s.event code b).flt = s.flt :=
  (State.event_frame (l := [.spoke]) (fun _ h => h) State.Frame.refl) .flt (by decide)
@[simp] theorem State.event_dbg (code : Nat) (b : Bytes) : (s.event code b).dbg = s.dbg :=
  (State.event_frame (l := [.spoke]) (fun _ h => h) State.Frame.refl) .dbg (by decide)
@[simp] theorem State.event_rd (code : Nat) (b : Bytes) (j : Nat) : (s.event code b).rd j = s.rd j := by unfold State.rd; rw [State.event_regs]
@[simp] theorem State.event_on (code : Nat) (b : Bytes) (j : Nat) : (s.event code b).on j = s.on j := by unfold State.on; rw [State.event_rd]
@[simp] theorem State.event_zone (code : Nat) (b : Bytes) (j : Nat) : (s.event code b).zone j = s.zone j := by unfold State.zone; rw [State.event_zones]

/-! ### note -/

@[simp] theorem State.note_pending (code kind unit data : Nat) : (s.note code kind unit data).pending = s.pending :=
  (State.note_frame (l := [.spoke]) (fun _ h => h) State.Frame.refl) .pending (by decide)
@[simp] theorem State.note_regs (code kind unit data : Nat) : (s.note code kind unit data).regs = s.regs :=
  (State.note_frame (l := [.spoke]) (fun _ h => h) State.Frame.refl) .regs (by decide)
@[simp] theorem State.note_free (code kind unit data : Nat) : (s.note code kind unit data).free = s.free :=
  (State.note_frame (l := [.spoke]) (fun _ h => h) State.Frame.refl) .free (by decide)
@[simp] theorem State.note_cad (code kind unit data : Nat) : (s.note code kind unit data).cad = s.cad :=
  (State.note_frame (l := [.spoke]) (fun _ h => h) State.Frame.refl) .cad (by decide)
@[simp] theorem State.note_pwr (code kind unit data : Nat) : (s.note code kind unit data).pwr = s.pwr :=
  (State.note_frame (l := [.spoke]) (fun _ h => h) State.Frame.refl) .pwr (by decide)
@[simp] theorem State.note_host (code kind unit data : Nat) : (s.note code kind unit data).host = s.host :=
  (State.note_frame (l := [.spoke]) (fun _ h => h) State.Frame.refl) .host (by decide)
@[simp] theorem State.note_console (code kind unit data : Nat) : (s.note code kind unit data).console = s.console :=
  (State.note_frame (l := [.spoke]) (fun _ h => h) State.Frame.refl) .console (by decide)
@[simp] theorem State.note_zones (code kind unit data : Nat) : (s.note code kind unit data).zones = s.zones :=
  (State.note_frame (l := [.spoke]) (fun _ h => h) State.Frame.refl) .zones (by decide)
@[simp] theorem State.note_pwm (code kind unit data : Nat) : (s.note code kind unit data).pwm = s.pwm :=
  (State.note_frame (l := [.spoke]) (fun _ h => h) State.Frame.refl) .pwm (by decide)
@[simp] theorem State.note_act (code kind unit data : Nat) : (s.note code kind unit data).act = s.act :=
  (State.note_frame (l := [.spoke]) (fun _ h => h) State.Frame.refl) .act (by decide)
@[simp] theorem State.note_adc (code kind unit data : Nat) : (s.note code kind unit data).adc = s.adc :=
  (State.note_frame (l := [.spoke]) (fun _ h => h) State.Frame.refl) .adc (by decide)
@[simp] theorem State.note_pad (code kind unit data : Nat) : (s.note code kind unit data).pad = s.pad :=
  (State.note_frame (l := [.spoke]) (fun _ h => h) State.Frame.refl) .pad (by decide)
@[simp] theorem State.note_bus (code kind unit data : Nat) : (s.note code kind unit data).bus = s.bus :=
  (State.note_frame (l := [.spoke]) (fun _ h => h) State.Frame.refl) .bus (by decide)
@[simp] theorem State.note_hay (code kind unit data : Nat) : (s.note code kind unit data).hay = s.hay :=
  (State.note_frame (l := [.spoke]) (fun _ h => h) State.Frame.refl) .hay (by decide)
@[simp] theorem State.note_stb (code kind unit data : Nat) : (s.note code kind unit data).stb = s.stb :=
  (State.note_frame (l := [.spoke]) (fun _ h => h) State.Frame.refl) .stb (by decide)
@[simp] theorem State.note_dsp (code kind unit data : Nat) : (s.note code kind unit data).dsp = s.dsp :=
  (State.note_frame (l := [.spoke]) (fun _ h => h) State.Frame.refl) .dsp (by decide)
@[simp] theorem State.note_seg (code kind unit data : Nat) : (s.note code kind unit data).seg = s.seg :=
  (State.note_frame (l := [.spoke]) (fun _ h => h) State.Frame.refl) .seg (by decide)
@[simp] theorem State.note_thm (code kind unit data : Nat) : (s.note code kind unit data).thm = s.thm :=
  (State.note_frame (l := [.spoke]) (fun _ h => h) State.Frame.refl) .thm (by decide)
@[simp] theorem State.note_sec (code kind unit data : Nat) : (s.note code kind unit data).sec = s.sec :=
  (State.note_frame (l := [.spoke]) (fun _ h => h) State.Frame.refl) .sec (by decide)
@[simp] theorem State.note_flt (code kind unit data : Nat) : (s.note code kind unit data).flt = s.flt :=
  (State.note_frame (l := [.spoke]) (fun _ h => h) State.Frame.refl) .flt (by decide)
@[simp] theorem State.note_dbg (code kind unit data : Nat) : (s.note code kind unit data).dbg = s.dbg :=
  (State.note_frame (l := [.spoke]) (fun _ h => h) State.Frame.refl) .dbg (by decide)
@[simp] theorem State.note_rd (code kind unit data : Nat) (j : Nat) : (s.note code kind unit data).rd j = s.rd j := by unfold State.rd; rw [State.note_regs]
@[simp] theorem State.note_on (code kind unit data : Nat) (j : Nat) : (s.note code kind unit data).on j = s.on j := by unfold State.on; rw [State.note_rd]
@[simp] theorem State.note_zone (code kind unit data : Nat) (j : Nat) : (s.note code kind unit data).zone j = s.zone j := by unfold State.zone; rw [State.note_zones]

/-! ### secNote -/

@[simp] theorem State.secNote_pending (kind unit data : Nat) : (s.secNote kind unit data).pending = s.pending :=
  (State.secNote_frame (l := [.spoke]) (fun _ h => h) State.Frame.refl) .pending (by decide)
@[simp] theorem State.secNote_regs (kind unit data : Nat) : (s.secNote kind unit data).regs = s.regs :=
  (State.secNote_frame (l := [.spoke]) (fun _ h => h) State.Frame.refl) .regs (by decide)
@[simp] theorem State.secNote_free (kind unit data : Nat) : (s.secNote kind unit data).free = s.free :=
  (State.secNote_frame (l := [.spoke]) (fun _ h => h) State.Frame.refl) .free (by decide)
@[simp] theorem State.secNote_cad (kind unit data : Nat) : (s.secNote kind unit data).cad = s.cad :=
  (State.secNote_frame (l := [.spoke]) (fun _ h => h) State.Frame.refl) .cad (by decide)
@[simp] theorem State.secNote_pwr (kind unit data : Nat) : (s.secNote kind unit data).pwr = s.pwr :=
  (State.secNote_frame (l := [.spoke]) (fun _ h => h) State.Frame.refl) .pwr (by decide)
@[simp] theorem State.secNote_host (kind unit data : Nat) : (s.secNote kind unit data).host = s.host :=
  (State.secNote_frame (l := [.spoke]) (fun _ h => h) State.Frame.refl) .host (by decide)
@[simp] theorem State.secNote_console (kind unit data : Nat) : (s.secNote kind unit data).console = s.console :=
  (State.secNote_frame (l := [.spoke]) (fun _ h => h) State.Frame.refl) .console (by decide)
@[simp] theorem State.secNote_zones (kind unit data : Nat) : (s.secNote kind unit data).zones = s.zones :=
  (State.secNote_frame (l := [.spoke]) (fun _ h => h) State.Frame.refl) .zones (by decide)
@[simp] theorem State.secNote_pwm (kind unit data : Nat) : (s.secNote kind unit data).pwm = s.pwm :=
  (State.secNote_frame (l := [.spoke]) (fun _ h => h) State.Frame.refl) .pwm (by decide)
@[simp] theorem State.secNote_act (kind unit data : Nat) : (s.secNote kind unit data).act = s.act :=
  (State.secNote_frame (l := [.spoke]) (fun _ h => h) State.Frame.refl) .act (by decide)
@[simp] theorem State.secNote_adc (kind unit data : Nat) : (s.secNote kind unit data).adc = s.adc :=
  (State.secNote_frame (l := [.spoke]) (fun _ h => h) State.Frame.refl) .adc (by decide)
@[simp] theorem State.secNote_pad (kind unit data : Nat) : (s.secNote kind unit data).pad = s.pad :=
  (State.secNote_frame (l := [.spoke]) (fun _ h => h) State.Frame.refl) .pad (by decide)
@[simp] theorem State.secNote_bus (kind unit data : Nat) : (s.secNote kind unit data).bus = s.bus :=
  (State.secNote_frame (l := [.spoke]) (fun _ h => h) State.Frame.refl) .bus (by decide)
@[simp] theorem State.secNote_hay (kind unit data : Nat) : (s.secNote kind unit data).hay = s.hay :=
  (State.secNote_frame (l := [.spoke]) (fun _ h => h) State.Frame.refl) .hay (by decide)
@[simp] theorem State.secNote_stb (kind unit data : Nat) : (s.secNote kind unit data).stb = s.stb :=
  (State.secNote_frame (l := [.spoke]) (fun _ h => h) State.Frame.refl) .stb (by decide)
@[simp] theorem State.secNote_dsp (kind unit data : Nat) : (s.secNote kind unit data).dsp = s.dsp :=
  (State.secNote_frame (l := [.spoke]) (fun _ h => h) State.Frame.refl) .dsp (by decide)
@[simp] theorem State.secNote_seg (kind unit data : Nat) : (s.secNote kind unit data).seg = s.seg :=
  (State.secNote_frame (l := [.spoke]) (fun _ h => h) State.Frame.refl) .seg (by decide)
@[simp] theorem State.secNote_thm (kind unit data : Nat) : (s.secNote kind unit data).thm = s.thm :=
  (State.secNote_frame (l := [.spoke]) (fun _ h => h) State.Frame.refl) .thm (by decide)
@[simp] theorem State.secNote_sec (kind unit data : Nat) : (s.secNote kind unit data).sec = s.sec :=
  (State.secNote_frame (l := [.spoke]) (fun _ h => h) State.Frame.refl) .sec (by decide)
@[simp] theorem State.secNote_flt (kind unit data : Nat) : (s.secNote kind unit data).flt = s.flt :=
  (State.secNote_frame (l := [.spoke]) (fun _ h => h) State.Frame.refl) .flt (by decide)
@[simp] theorem State.secNote_dbg (kind unit data : Nat) : (s.secNote kind unit data).dbg = s.dbg :=
  (State.secNote_frame (l := [.spoke]) (fun _ h => h) State.Frame.refl) .dbg (by decide)
@[simp] theorem State.secNote_rd (kind unit data : Nat) (j : Nat) : (s.secNote kind unit data).rd j = s.rd j := by unfold State.rd; rw [State.secNote_regs]
@[simp] theorem State.secNote_on (kind unit data : Nat) (j : Nat) : (s.secNote kind unit data).on j = s.on j := by unfold State.on; rw [State.secNote_rd]
@[simp] theorem State.secNote_zone (kind unit data : Nat) (j : Nat) : (s.secNote kind unit data).zone j = s.zone j := by unfold State.zone; rw [State.secNote_zones]

/-! ### pwmNote -/

@[simp] theorem State.pwmNote_pending (kind g ch why : Nat) : (s.pwmNote kind g ch why).pending = s.pending :=
  (State.pwmNote_frame (l := [.spoke]) (fun _ h => h) State.Frame.refl) .pending (by decide)
@[simp] theorem State.pwmNote_regs (kind g ch why : Nat) : (s.pwmNote kind g ch why).regs = s.regs :=
  (State.pwmNote_frame (l := [.spoke]) (fun _ h => h) State.Frame.refl) .regs (by decide)
@[simp] theorem State.pwmNote_free (kind g ch why : Nat) : (s.pwmNote kind g ch why).free = s.free :=
  (State.pwmNote_frame (l := [.spoke]) (fun _ h => h) State.Frame.refl) .free (by decide)
@[simp] theorem State.pwmNote_cad (kind g ch why : Nat) : (s.pwmNote kind g ch why).cad = s.cad :=
  (State.pwmNote_frame (l := [.spoke]) (fun _ h => h) State.Frame.refl) .cad (by decide)
@[simp] theorem State.pwmNote_pwr (kind g ch why : Nat) : (s.pwmNote kind g ch why).pwr = s.pwr :=
  (State.pwmNote_frame (l := [.spoke]) (fun _ h => h) State.Frame.refl) .pwr (by decide)
@[simp] theorem State.pwmNote_host (kind g ch why : Nat) : (s.pwmNote kind g ch why).host = s.host :=
  (State.pwmNote_frame (l := [.spoke]) (fun _ h => h) State.Frame.refl) .host (by decide)
@[simp] theorem State.pwmNote_console (kind g ch why : Nat) : (s.pwmNote kind g ch why).console = s.console :=
  (State.pwmNote_frame (l := [.spoke]) (fun _ h => h) State.Frame.refl) .console (by decide)
@[simp] theorem State.pwmNote_zones (kind g ch why : Nat) : (s.pwmNote kind g ch why).zones = s.zones :=
  (State.pwmNote_frame (l := [.spoke]) (fun _ h => h) State.Frame.refl) .zones (by decide)
@[simp] theorem State.pwmNote_pwm (kind g ch why : Nat) : (s.pwmNote kind g ch why).pwm = s.pwm :=
  (State.pwmNote_frame (l := [.spoke]) (fun _ h => h) State.Frame.refl) .pwm (by decide)
@[simp] theorem State.pwmNote_act (kind g ch why : Nat) : (s.pwmNote kind g ch why).act = s.act :=
  (State.pwmNote_frame (l := [.spoke]) (fun _ h => h) State.Frame.refl) .act (by decide)
@[simp] theorem State.pwmNote_adc (kind g ch why : Nat) : (s.pwmNote kind g ch why).adc = s.adc :=
  (State.pwmNote_frame (l := [.spoke]) (fun _ h => h) State.Frame.refl) .adc (by decide)
@[simp] theorem State.pwmNote_pad (kind g ch why : Nat) : (s.pwmNote kind g ch why).pad = s.pad :=
  (State.pwmNote_frame (l := [.spoke]) (fun _ h => h) State.Frame.refl) .pad (by decide)
@[simp] theorem State.pwmNote_bus (kind g ch why : Nat) : (s.pwmNote kind g ch why).bus = s.bus :=
  (State.pwmNote_frame (l := [.spoke]) (fun _ h => h) State.Frame.refl) .bus (by decide)
@[simp] theorem State.pwmNote_hay (kind g ch why : Nat) : (s.pwmNote kind g ch why).hay = s.hay :=
  (State.pwmNote_frame (l := [.spoke]) (fun _ h => h) State.Frame.refl) .hay (by decide)
@[simp] theorem State.pwmNote_stb (kind g ch why : Nat) : (s.pwmNote kind g ch why).stb = s.stb :=
  (State.pwmNote_frame (l := [.spoke]) (fun _ h => h) State.Frame.refl) .stb (by decide)
@[simp] theorem State.pwmNote_dsp (kind g ch why : Nat) : (s.pwmNote kind g ch why).dsp = s.dsp :=
  (State.pwmNote_frame (l := [.spoke]) (fun _ h => h) State.Frame.refl) .dsp (by decide)
@[simp] theorem State.pwmNote_seg (kind g ch why : Nat) : (s.pwmNote kind g ch why).seg = s.seg :=
  (State.pwmNote_frame (l := [.spoke]) (fun _ h => h) State.Frame.refl) .seg (by decide)
@[simp] theorem State.pwmNote_thm (kind g ch why : Nat) : (s.pwmNote kind g ch why).thm = s.thm :=
  (State.pwmNote_frame (l := [.spoke]) (fun _ h => h) State.Frame.refl) .thm (by decide)
@[simp] theorem State.pwmNote_sec (kind g ch why : Nat) : (s.pwmNote kind g ch why).sec = s.sec :=
  (State.pwmNote_frame (l := [.spoke]) (fun _ h => h) State.Frame.refl) .sec (by decide)
@[simp] theorem State.pwmNote_flt (kind g ch why : Nat) : (s.pwmNote kind g ch why).flt = s.flt :=
  (State.pwmNote_frame (l := [.spoke]) (fun _ h => h) State.Frame.refl) .flt (by decide)
@[simp] theorem State.pwmNote_dbg (kind g ch why : Nat) : (s.pwmNote kind g ch why).dbg = s.dbg :=
  (State.pwmNote_frame (l := [.spoke]) (fun _ h => h) State.Frame.refl) .dbg (by decide)
@[simp] theorem State.pwmNote_rd (kind g ch why : Nat) (j : Nat) : (s.pwmNote kind g ch why).rd j = s.rd j := by unfold State.rd; rw [State.pwmNote_regs]
@[simp] theorem State.pwmNote_on (kind g ch why : Nat) (j : Nat) : (s.pwmNote kind g ch why).on j = s.on j := by unfold State.on; rw [State.pwmNote_rd]
@[simp] theorem State.pwmNote_zone (kind g ch why : Nat) (j : Nat) : (s.pwmNote kind g ch why).zone j = s.zone j := by unfold State.zone; rw [State.pwmNote_zones]

/-! ### actNote -/

@[simp] theorem State.actNote_pending (kind unit data : Nat) : (s.actNote kind unit data).pending = s.pending :=
  (State.actNote_frame (l := [.spoke]) (fun _ h => h) State.Frame.refl) .pending (by decide)
@[simp] theorem State.actNote_regs (kind unit data : Nat) : (s.actNote kind unit data).regs = s.regs :=
  (State.actNote_frame (l := [.spoke]) (fun _ h => h) State.Frame.refl) .regs (by decide)
@[simp] theorem State.actNote_free (kind unit data : Nat) : (s.actNote kind unit data).free = s.free :=
  (State.actNote_frame (l := [.spoke]) (fun _ h => h) State.Frame.refl) .free (by decide)
@[simp] theorem State.actNote_cad (kind unit data : Nat) : (s.actNote kind unit data).cad = s.cad :=
  (State.actNote_frame (l := [.spoke]) (fun _ h => h) State.Frame.refl) .cad (by decide)
@[simp] theorem State.actNote_pwr (kind unit data : Nat) : (s.actNote kind unit data).pwr = s.pwr :=
  (State.actNote_frame (l := [.spoke]) (fun _ h => h) State.Frame.refl) .pwr (by decide)
@[simp] theorem State.actNote_host (kind unit data : Nat) : (s.actNote kind unit data).host = s.host :=
  (State.actNote_frame (l := [.spoke]) (fun _ h => h) State.Frame.refl) .host (by decide)
@[simp] theorem State.actNote_console (kind unit data : Nat) : (s.actNote kind unit data).console = s.console :=
  (State.actNote_frame (l := [.spoke]) (fun _ h => h) State.Frame.refl) .console (by decide)
@[simp] theorem State.actNote_zones (kind unit data : Nat) : (s.actNote kind unit data).zones = s.zones :=
  (State.actNote_frame (l := [.spoke]) (fun _ h => h) State.Frame.refl) .zones (by decide)
@[simp] theorem State.actNote_pwm (kind unit data : Nat) : (s.actNote kind unit data).pwm = s.pwm :=
  (State.actNote_frame (l := [.spoke]) (fun _ h => h) State.Frame.refl) .pwm (by decide)
@[simp] theorem State.actNote_act (kind unit data : Nat) : (s.actNote kind unit data).act = s.act :=
  (State.actNote_frame (l := [.spoke]) (fun _ h => h) State.Frame.refl) .act (by decide)
@[simp] theorem State.actNote_adc (kind unit data : Nat) : (s.actNote kind unit data).adc = s.adc :=
  (State.actNote_frame (l := [.spoke]) (fun _ h => h) State.Frame.refl) .adc (by decide)
@[simp] theorem State.actNote_pad (kind unit data : Nat) : (s.actNote kind unit data).pad = s.pad :=
  (State.actNote_frame (l := [.spoke]) (fun _ h => h) State.Frame.refl) .pad (by decide)
@[simp] theorem State.actNote_bus (kind unit data : Nat) : (s.actNote kind unit data).bus = s.bus :=
  (State.actNote_frame (l := [.spoke]) (fun _ h => h) State.Frame.refl) .bus (by decide)
@[simp] theorem State.actNote_hay (kind unit data : Nat) : (s.actNote kind unit data).hay = s.hay :=
  (State.actNote_frame (l := [.spoke]) (fun _ h => h) State.Frame.refl) .hay (by decide)
@[simp] theorem State.actNote_stb (kind unit data : Nat) : (s.actNote kind unit data).stb = s.stb :=
  (State.actNote_frame (l := [.spoke]) (fun _ h => h) State.Frame.refl) .stb (by decide)
@[simp] theorem State.actNote_dsp (kind unit data : Nat) : (s.actNote kind unit data).dsp = s.dsp :=
  (State.actNote_frame (l := [.spoke]) (fun _ h => h) State.Frame.refl) .dsp (by decide)
@[simp] theorem State.actNote_seg (kind unit data : Nat) : (s.actNote kind unit data).seg = s.seg :=
  (State.actNote_frame (l := [.spoke]) (fun _ h => h) State.Frame.refl) .seg (by decide)
@[simp] theorem State.actNote_thm (kind unit data : Nat) : (s.actNote kind unit data).thm = s.thm :=
  (State.actNote_frame (l := [.spoke]) (fun _ h => h) State.Frame.refl) .thm (by decide)
@[simp] theorem State.actNote_sec (kind unit data : Nat) : (s.actNote kind unit data).sec = s.sec :=
  (State.actNote_frame (l := [.spoke]) (fun _ h => h) State.Frame.refl) .sec (by decide)
@[simp] theorem State.actNote_flt (kind unit data : Nat) : (s.actNote kind unit data).flt = s.flt :=
  (State.actNote_frame (l := [.spoke]) (fun _ h => h) State.Frame.refl) .flt (by decide)
@[simp] theorem State.actNote_dbg (kind unit data : Nat) : (s.actNote kind unit data).dbg = s.dbg :=
  (State.actNote_frame (l := [.spoke]) (fun _ h => h) State.Frame.refl) .dbg (by decide)
@[simp] theorem State.actNote_rd (kind unit data : Nat) (j : Nat) : (s.actNote kind unit data).rd j = s.rd j := by unfold State.rd; rw [State.actNote_regs]
@[simp] theorem State.actNote_on (kind unit data : Nat) (j : Nat) : (s.actNote kind unit data).on j = s.on j := by unfold State.on; rw [State.actNote_rd]
@[simp] theorem State.actNote_zone (kind unit data : Nat) (j : Nat) : (s.actNote kind unit data).zone j = s.zone j := by unfold State.zone; rw [State.actNote_zones]

/-! ### snsNote -/

@[simp] theorem State.snsNote_pending (kind unit data : Nat) : (s.snsNote kind unit data).pending = s.pending :=
  (State.snsNote_frame (l := [.spoke]) (fun _ h => h) State.Frame.refl) .pending (by decide)
@[simp] theorem State.snsNote_regs (kind unit data : Nat) : (s.snsNote kind unit data).regs = s.regs :=
  (State.snsNote_frame (l := [.spoke]) (fun _ h => h) State.Frame.refl) .regs (by decide)
@[simp] theorem State.snsNote_free (kind unit data : Nat) : (s.snsNote kind unit data).free = s.free :=
  (State.snsNote_frame (l := [.spoke]) (fun _ h => h) State.Frame.refl) .free (by decide)
@[simp] theorem State.snsNote_cad (kind unit data : Nat) : (s.snsNote kind unit data).cad = s.cad :=
  (State.snsNote_frame (l := [.spoke]) (fun _ h => h) State.Frame.refl) .cad (by decide)
@[simp] theorem State.snsNote_pwr (kind unit data : Nat) : (s.snsNote kind unit data).pwr = s.pwr :=
  (State.snsNote_frame (l := [.spoke]) (fun _ h => h) State.Frame.refl) .pwr (by decide)
@[simp] theorem State.snsNote_host (kind unit data : Nat) : (s.snsNote kind unit data).host = s.host :=
  (State.snsNote_frame (l := [.spoke]) (fun _ h => h) State.Frame.refl) .host (by decide)
@[simp] theorem State.snsNote_console (kind unit data : Nat) : (s.snsNote kind unit data).console = s.console :=
  (State.snsNote_frame (l := [.spoke]) (fun _ h => h) State.Frame.refl) .console (by decide)
@[simp] theorem State.snsNote_zones (kind unit data : Nat) : (s.snsNote kind unit data).zones = s.zones :=
  (State.snsNote_frame (l := [.spoke]) (fun _ h => h) State.Frame.refl) .zones (by decide)
@[simp] theorem State.snsNote_pwm (kind unit data : Nat) : (s.snsNote kind unit data).pwm = s.pwm :=
  (State.snsNote_frame (l := [.spoke]) (fun _ h => h) State.Frame.refl) .pwm (by decide)
@[simp] theorem State.snsNote_act (kind unit data : Nat) : (s.snsNote kind unit data).act = s.act :=
  (State.snsNote_frame (l := [.spoke]) (fun _ h => h) State.Frame.refl) .act (by decide)
@[simp] theorem State.snsNote_adc (kind unit data : Nat) : (s.snsNote kind unit data).adc = s.adc :=
  (State.snsNote_frame (l := [.spoke]) (fun _ h => h) State.Frame.refl) .adc (by decide)
@[simp] theorem State.snsNote_pad (kind unit data : Nat) : (s.snsNote kind unit data).pad = s.pad :=
  (State.snsNote_frame (l := [.spoke]) (fun _ h => h) State.Frame.refl) .pad (by decide)
@[simp] theorem State.snsNote_bus (kind unit data : Nat) : (s.snsNote kind unit data).bus = s.bus :=
  (State.snsNote_frame (l := [.spoke]) (fun _ h => h) State.Frame.refl) .bus (by decide)
@[simp] theorem State.snsNote_hay (kind unit data : Nat) : (s.snsNote kind unit data).hay = s.hay :=
  (State.snsNote_frame (l := [.spoke]) (fun _ h => h) State.Frame.refl) .hay (by decide)
@[simp] theorem State.snsNote_stb (kind unit data : Nat) : (s.snsNote kind unit data).stb = s.stb :=
  (State.snsNote_frame (l := [.spoke]) (fun _ h => h) State.Frame.refl) .stb (by decide)
@[simp] theorem State.snsNote_dsp (kind unit data : Nat) : (s.snsNote kind unit data).dsp = s.dsp :=
  (State.snsNote_frame (l := [.spoke]) (fun _ h => h) State.Frame.refl) .dsp (by decide)
@[simp] theorem State.snsNote_seg (kind unit data : Nat) : (s.snsNote kind unit data).seg = s.seg :=
  (State.snsNote_frame (l := [.spoke]) (fun _ h => h) State.Frame.refl) .seg (by decide)
@[simp] theorem State.snsNote_thm (kind unit data : Nat) : (s.snsNote kind unit data).thm = s.thm :=
  (State.snsNote_frame (l := [.spoke]) (fun _ h => h) State.Frame.refl) .thm (by decide)
@[simp] theorem State.snsNote_sec (kind unit data : Nat) : (s.snsNote kind unit data).sec = s.sec :=
  (State.snsNote_frame (l := [.spoke]) (fun _ h => h) State.Frame.refl) .sec (by decide)
@[simp] theorem State.snsNote_flt (kind unit data : Nat) : (s.snsNote kind unit data).flt = s.flt :=
  (State.snsNote_frame (l := [.spoke]) (fun _ h => h) State.Frame.refl) .flt (by decide)
@[simp] theorem State.snsNote_dbg (kind unit data : Nat) : (s.snsNote kind unit data).dbg = s.dbg :=
  (State.snsNote_frame (l := [.spoke]) (fun _ h => h) State.Frame.refl) .dbg (by decide)
@[simp] theorem State.snsNote_rd (kind unit data : Nat) (j : Nat) : (s.snsNote kind unit data).rd j = s.rd j := by unfold State.rd; rw [State.snsNote_regs]
@[simp] theorem State.snsNote_on (kind unit data : Nat) (j : Nat) : (s.snsNote kind unit data).on j = s.on j := by unfold State.on; rw [State.snsNote_rd]
@[simp] theorem State.snsNote_zone (kind unit data : Nat) (j : Nat) : (s.snsNote kind unit data).zone j = s.zone j := by unfold State.zone; rw [State.snsNote_zones]

/-! ### hayNote -/

@[simp] theorem State.hayNote_pending (kind unit data : Nat) : (s.hayNote kind unit data).pending = s.pending :=
  (State.hayNote_frame (l := [.spoke]) (fun _ h => h) State.Frame.refl) .pending (by decide)
@[simp] theorem State.hayNote_regs (kind unit data : Nat) : (s.hayNote kind unit data).regs = s.regs :=
  (State.hayNote_frame (l := [.spoke]) (fun _ h => h) State.Frame.refl) .regs (by decide)
@[simp] theorem State.hayNote_free (kind unit data : Nat) : (s.hayNote kind unit data).free = s.free :=
  (State.hayNote_frame (l := [.spoke]) (fun _ h => h) State.Frame.refl) .free (by decide)
@[simp] theorem State.hayNote_cad (kind unit data : Nat) : (s.hayNote kind unit data).cad = s.cad :=
  (State.hayNote_frame (l := [.spoke]) (fun _ h => h) State.Frame.refl) .cad (by decide)
@[simp] theorem State.hayNote_pwr (kind unit data : Nat) : (s.hayNote kind unit data).pwr = s.pwr :=
  (State.hayNote_frame (l := [.spoke]) (fun _ h => h) State.Frame.refl) .pwr (by decide)
@[simp] theorem State.hayNote_host (kind unit data : Nat) : (s.hayNote kind unit data).host = s.host :=
  (State.hayNote_frame (l := [.spoke]) (fun _ h => h) State.Frame.refl) .host (by decide)
@[simp] theorem State.hayNote_console (kind unit data : Nat) : (s.hayNote kind unit data).console = s.console :=
  (State.hayNote_frame (l := [.spoke]) (fun _ h => h) State.Frame.refl) .console (by decide)
@[simp] theorem State.hayNote_zones (kind unit data : Nat) : (s.hayNote kind unit data).zones = s.zones :=
  (State.hayNote_frame (l := [.spoke]) (fun _ h => h) State.Frame.refl) .zones (by decide)
@[simp] theorem State.hayNote_pwm (kind unit data : Nat) : (s.hayNote kind unit data).pwm = s.pwm :=
  (State.hayNote_frame (l := [.spoke]) (fun _ h => h) State.Frame.refl) .pwm (by decide)
@[simp] theorem State.hayNote_act (kind unit data : Nat) : (s.hayNote kind unit data).act = s.act :=
  (State.hayNote_frame (l := [.spoke]) (fun _ h => h) State.Frame.refl) .act (by decide)
@[simp] theorem State.hayNote_adc (kind unit data : Nat) : (s.hayNote kind unit data).adc = s.adc :=
  (State.hayNote_frame (l := [.spoke]) (fun _ h => h) State.Frame.refl) .adc (by decide)
@[simp] theorem State.hayNote_pad (kind unit data : Nat) : (s.hayNote kind unit data).pad = s.pad :=
  (State.hayNote_frame (l := [.spoke]) (fun _ h => h) State.Frame.refl) .pad (by decide)
@[simp] theorem State.hayNote_bus (kind unit data : Nat) : (s.hayNote kind unit data).bus = s.bus :=
  (State.hayNote_frame (l := [.spoke]) (fun _ h => h) State.Frame.refl) .bus (by decide)
@[simp] theorem State.hayNote_hay (kind unit data : Nat) : (s.hayNote kind unit data).hay = s.hay :=
  (State.hayNote_frame (l := [.spoke]) (fun _ h => h) State.Frame.refl) .hay (by decide)
@[simp] theorem State.hayNote_stb (kind unit data : Nat) : (s.hayNote kind unit data).stb = s.stb :=
  (State.hayNote_frame (l := [.spoke]) (fun _ h => h) State.Frame.refl) .stb (by decide)
@[simp] theorem State.hayNote_dsp (kind unit data : Nat) : (s.hayNote kind unit data).dsp = s.dsp :=
  (State.hayNote_frame (l := [.spoke]) (fun _ h => h) State.Frame.refl) .dsp (by decide)
@[simp] theorem State.hayNote_seg (kind unit data : Nat) : (s.hayNote kind unit data).seg = s.seg :=
  (State.hayNote_frame (l := [.spoke]) (fun _ h => h) State.Frame.refl) .seg (by decide)
@[simp] theorem State.hayNote_thm (kind unit data : Nat) : (s.hayNote kind unit data).thm = s.thm :=
  (State.hayNote_frame (l := [.spoke]) (fun _ h => h) State.Frame.refl) .thm (by decide)
@[simp] theorem State.hayNote_sec (kind unit data : Nat) : (s.hayNote kind unit data).sec = s.sec :=
  (State.hayNote_frame (l := [.spoke]) (fun _ h => h) State.Frame.refl) .sec (by decide)
@[simp] theorem State.hayNote_flt (kind unit data : Nat) : (s.hayNote kind unit data).flt = s.flt :=
  (State.hayNote_frame (l := [.spoke]) (fun _ h => h) State.Frame.refl) .flt (by decide)
@[simp] theorem State.hayNote_dbg (kind unit data : Nat) : (s.hayNote kind unit data).dbg = s.dbg :=
  (State.hayNote_frame (l := [.spoke]) (fun _ h => h) State.Frame.refl) .dbg (by decide)
@[simp] theorem State.hayNote_rd (kind unit data : Nat) (j : Nat) : (s.hayNote kind unit data).rd j = s.rd j := by unfold State.rd; rw [State.hayNote_regs]
@[simp] theorem State.hayNote_on (kind unit data : Nat) (j : Nat) : (s.hayNote kind unit data).on j = s.on j := by unfold State.on; rw [State.hayNote_rd]
@[simp] theorem State.hayNote_zone (kind unit data : Nat) (j : Nat) : (s.hayNote kind unit data).zone j = s.zone j := by unfold State.zone; rw [State.hayNote_zones]

/-! ### dspNote -/

@[simp] theorem State.dspNote_pending (kind unit data : Nat) : (s.dspNote kind unit data).pending = s.pending :=
  (State.dspNote_frame (l := [.spoke]) (fun _ h => h) State.Frame.refl) .pending (by decide)
@[simp] theorem State.dspNote_regs (kind unit data : Nat) : (s.dspNote kind unit data).regs = s.regs :=
  (State.dspNote_frame (l := [.spoke]) (fun _ h => h) State.Frame.refl) .regs (by decide)
@[simp] theorem State.dspNote_free (kind unit data : Nat) : (s.dspNote kind unit data).free = s.free :=
  (State.dspNote_frame (l := [.spoke]) (fun _ h => h) State.Frame.refl) .free (by decide)
@[simp] theorem State.dspNote_cad (kind unit data : Nat) : (s.dspNote kind unit data).cad = s.cad :=
  (State.dspNote_frame (l := [.spoke]) (fun _ h => h) State.Frame.refl) .cad (by decide)
@[simp] theorem State.dspNote_pwr (kind unit data : Nat) : (s.dspNote kind unit data).pwr = s.pwr :=
  (State.dspNote_frame (l := [.spoke]) (fun _ h => h) State.Frame.refl) .pwr (by decide)
@[simp] theorem State.dspNote_host (kind unit data : Nat) : (s.dspNote kind unit data).host = s.host :=
  (State.dspNote_frame (l := [.spoke]) (fun _ h => h) State.Frame.refl) .host (by decide)
@[simp] theorem State.dspNote_console (kind unit data : Nat) : (s.dspNote kind unit data).console = s.console :=
  (State.dspNote_frame (l := [.spoke]) (fun _ h => h) State.Frame.refl) .console (by decide)
@[simp] theorem State.dspNote_zones (kind unit data : Nat) : (s.dspNote kind unit data).zones = s.zones :=
  (State.dspNote_frame (l := [.spoke]) (fun _ h => h) State.Frame.refl) .zones (by decide)
@[simp] theorem State.dspNote_pwm (kind unit data : Nat) : (s.dspNote kind unit data).pwm = s.pwm :=
  (State.dspNote_frame (l := [.spoke]) (fun _ h => h) State.Frame.refl) .pwm (by decide)
@[simp] theorem State.dspNote_act (kind unit data : Nat) : (s.dspNote kind unit data).act = s.act :=
  (State.dspNote_frame (l := [.spoke]) (fun _ h => h) State.Frame.refl) .act (by decide)
@[simp] theorem State.dspNote_adc (kind unit data : Nat) : (s.dspNote kind unit data).adc = s.adc :=
  (State.dspNote_frame (l := [.spoke]) (fun _ h => h) State.Frame.refl) .adc (by decide)
@[simp] theorem State.dspNote_pad (kind unit data : Nat) : (s.dspNote kind unit data).pad = s.pad :=
  (State.dspNote_frame (l := [.spoke]) (fun _ h => h) State.Frame.refl) .pad (by decide)
@[simp] theorem State.dspNote_bus (kind unit data : Nat) : (s.dspNote kind unit data).bus = s.bus :=
  (State.dspNote_frame (l := [.spoke]) (fun _ h => h) State.Frame.refl) .bus (by decide)
@[simp] theorem State.dspNote_hay (kind unit data : Nat) : (s.dspNote kind unit data).hay = s.hay :=
  (State.dspNote_frame (l := [.spoke]) (fun _ h => h) State.Frame.refl) .hay (by decide)
@[simp] theorem State.dspNote_stb (kind unit data : Nat) : (s.dspNote kind unit data).stb = s.stb :=
  (State.dspNote_frame (l := [.spoke]) (fun _ h => h) State.Frame.refl) .stb (by decide)
@[simp] theorem State.dspNote_dsp (kind unit data : Nat) : (s.dspNote kind unit data).dsp = s.dsp :=
  (State.dspNote_frame (l := [.spoke]) (fun _ h => h) State.Frame.refl) .dsp (by decide)
@[simp] theorem State.dspNote_seg (kind unit data : Nat) : (s.dspNote kind unit data).seg = s.seg :=
  (State.dspNote_frame (l := [.spoke]) (fun _ h => h) State.Frame.refl) .seg (by decide)
@[simp] theorem State.dspNote_thm (kind unit data : Nat) : (s.dspNote kind unit data).thm = s.thm :=
  (State.dspNote_frame (l := [.spoke]) (fun _ h => h) State.Frame.refl) .thm (by decide)
@[simp] theorem State.dspNote_sec (kind unit data : Nat) : (s.dspNote kind unit data).sec = s.sec :=
  (State.dspNote_frame (l := [.spoke]) (fun _ h => h) State.Frame.refl) .sec (by decide)
@[simp] theorem State.dspNote_flt (kind unit data : Nat) : (s.dspNote kind unit data).flt = s.flt :=
  (State.dspNote_frame (l := [.spoke]) (fun _ h => h) State.Frame.refl) .flt (by decide)
@[simp] theorem State.dspNote_dbg (kind unit data : Nat) : (s.dspNote kind unit data).dbg = s.dbg :=
  (State.dspNote_frame (l := [.spoke]) (fun _ h => h) State.Frame.refl) .dbg (by decide)
@[simp] theorem State.dspNote_rd (kind unit data : Nat) (j : Nat) : (s.dspNote kind unit data).rd j = s.rd j := by unfold State.rd; rw [State.dspNote_regs]
@[simp] theorem State.dspNote_on (kind unit data : Nat) (j : Nat) : (s.dspNote kind unit data).on j = s.on j := by unfold State.on; rw [State.dspNote_rd]
@[simp] theorem State.dspNote_zone (kind unit data : Nat) (j : Nat) : (s.dspNote kind unit data).zone j = s.zone j := by unfold State.zone; rw [State.dspNote_zones]

/-! ### segNote -/

@[simp] theorem State.segNote_pending (kind data : Nat) : (s.segNote kind data).pending = s.pending :=
  (State.segNote_frame (l := [.spoke]) (fun _ h => h) State.Frame.refl) .pending (by decide)
@[simp] theorem State.segNote_regs (kind data : Nat) : (s.segNote kind data).regs = s.regs :=
  (State.segNote_frame (l := [.spoke]) (fun _ h => h) State.Frame.refl) .regs (by decide)
@[simp] theorem State.segNote_free (kind data : Nat) : (s.segNote kind data).free = s.free :=
  (State.segNote_frame (l := [.spoke]) (fun _ h => h) State.Frame.refl) .free (by decide)
@[simp] theorem State.segNote_cad (kind data : Nat) : (s.segNote kind data).cad = s.cad :=
  (State.segNote_frame (l := [.spoke]) (fun _ h => h) State.Frame.refl) .cad (by decide)
@[simp] theorem State.segNote_pwr (kind data : Nat) : (s.segNote kind data).pwr = s.pwr :=
  (State.segNote_frame (l := [.spoke]) (fun _ h => h) State.Frame.refl) .pwr (by decide)
@[simp] theorem State.segNote_host (kind data : Nat) : (s.segNote kind data).host = s.host :=
  (State.segNote_frame (l := [.spoke]) (fun _ h => h) State.Frame.refl) .host (by decide)
@[simp] theorem State.segNote_console (kind data : Nat) : (s.segNote kind data).console = s.console :=
  (State.segNote_frame (l := [.spoke]) (fun _ h => h) State.Frame.refl) .console (by decide)
@[simp] theorem State.segNote_zones (kind data : Nat) : (s.segNote kind data).zones = s.zones :=
  (State.segNote_frame (l := [.spoke]) (fun _ h => h) State.Frame.refl) .zones (by decide)
@[simp] theorem State.segNote_pwm (kind data : Nat) : (s.segNote kind data).pwm = s.pwm :=
  (State.segNote_frame (l := [.spoke]) (fun _ h => h) State.Frame.refl) .pwm (by decide)
@[simp] theorem State.segNote_act (kind data : Nat) : (s.segNote kind data).act = s.act :=
  (State.segNote_frame (l := [.spoke]) (fun _ h => h) State.Frame.refl) .act (by decide)
@[simp] theorem State.segNote_adc (kind data : Nat) : (s.segNote kind data).adc = s.adc :=
  (State.segNote_frame (l := [.spoke]) (fun _ h => h) State.Frame.refl) .adc (by decide)
@[simp] theorem State.segNote_pad (kind data : Nat) : (s.segNote kind data).pad = s.pad :=
  (State.segNote_frame (l := [.spoke]) (fun _ h => h) State.Frame.refl) .pad (by decide)
@[simp] theorem State.segNote_bus (kind data : Nat) : (s.segNote kind data).bus = s.bus :=
  (State.segNote_frame (l := [.spoke]) (fun _ h => h) State.Frame.refl) .bus (by decide)
@[simp] theorem State.segNote_hay (kind data : Nat) : (s.segNote kind data).hay = s.hay :=
  (State.segNote_frame (l := [.spoke]) (fun _ h => h) State.Frame.refl) .hay (by decide)
@[simp] theorem State.segNote_stb (kind data : Nat) : (s.segNote kind data).stb = s.stb :=
  (State.segNote_frame (l := [.spoke]) (fun _ h => h) State.Frame.refl) .stb (by decide)
@[simp] theorem State.segNote_dsp (kind data : Nat) : (s.segNote kind data).dsp = s.dsp :=
  (State.segNote_frame (l := [.spoke]) (fun _ h => h) State.Frame.refl) .dsp (by decide)
@[simp] theorem State.segNote_seg (kind data : Nat) : (s.segNote kind data).seg = s.seg :=
  (State.segNote_frame (l := [.spoke]) (fun _ h => h) State.Frame.refl) .seg (by decide)
@[simp] theorem State.segNote_thm (kind data : Nat) : (s.segNote kind data).thm = s.thm :=
  (State.segNote_frame (l := [.spoke]) (fun _ h => h) State.Frame.refl) .thm (by decide)
@[simp] theorem State.segNote_sec (kind data : Nat) : (s.segNote kind data).sec = s.sec :=
  (State.segNote_frame (l := [.spoke]) (fun _ h => h) State.Frame.refl) .sec (by decide)
@[simp] theorem State.segNote_flt (kind data : Nat) : (s.segNote kind data).flt = s.flt :=
  (State.segNote_frame (l := [.spoke]) (fun _ h => h) State.Frame.refl) .flt (by decide)
@[simp] theorem State.segNote_dbg (kind data : Nat) : (s.segNote kind data).dbg = s.dbg :=
  (State.segNote_frame (l := [.spoke]) (fun _ h => h) State.Frame.refl) .dbg (by decide)
@[simp] theorem State.segNote_rd (kind data : Nat) (j : Nat) : (s.segNote kind data).rd j = s.rd j := by unfold State.rd; rw [State.segNote_regs]
@[simp] theorem State.segNote_on (kind data : Nat) (j : Nat) : (s.segNote kind data).on j = s.on j := by unfold State.on; rw [State.segNote_rd]
@[simp] theorem State.segNote_zone (kind data : Nat) (j : Nat) : (s.segNote kind data).zone j = s.zone j := by unfold State.zone; rw [State.segNote_zones]

/-! ### stbNote -/

@[simp] theorem State.stbNote_pending (kind unit data : Nat) : (s.stbNote kind unit data).pending = s.pending :=
  (State.stbNote_frame (l := [.spoke]) (fun _ h => h) State.Frame.refl) .pending (by decide)
@[simp] theorem State.stbNote_regs (kind unit data : Nat) : (s.stbNote kind unit data).regs = s.regs :=
  (State.stbNote_frame (l := [.spoke]) (fun _ h => h) State.Frame.refl) .regs (by decide)
@[simp] theorem State.stbNote_free (kind unit data : Nat) : (s.stbNote kind unit data).free = s.free :=
  (State.stbNote_frame (l := [.spoke]) (fun _ h => h) State.Frame.refl) .free (by decide)
@[simp] theorem State.stbNote_cad (kind unit data : Nat) : (s.stbNote kind unit data).cad = s.cad :=
  (State.stbNote_frame (l := [.spoke]) (fun _ h => h) State.Frame.refl) .cad (by decide)
@[simp] theorem State.stbNote_pwr (kind unit data : Nat) : (s.stbNote kind unit data).pwr = s.pwr :=
  (State.stbNote_frame (l := [.spoke]) (fun _ h => h) State.Frame.refl) .pwr (by decide)
@[simp] theorem State.stbNote_host (kind unit data : Nat) : (s.stbNote kind unit data).host = s.host :=
  (State.stbNote_frame (l := [.spoke]) (fun _ h => h) State.Frame.refl) .host (by decide)
@[simp] theorem State.stbNote_console (kind unit data : Nat) : (s.stbNote kind unit data).console = s.console :=
  (State.stbNote_frame (l := [.spoke]) (fun _ h => h) State.Frame.refl) .console (by decide)
@[simp] theorem State.stbNote_zones (kind unit data : Nat) : (s.stbNote kind unit data).zones = s.zones :=
  (State.stbNote_frame (l := [.spoke]) (fun _ h => h) State.Frame.refl) .zones (by decide)
@[simp] theorem State.stbNote_pwm (kind unit data : Nat) : (s.stbNote kind unit data).pwm = s.pwm :=
  (State.stbNote_frame (l := [.spoke]) (fun _ h => h) State.Frame.refl) .pwm (by decide)
@[simp] theorem State.stbNote_act (kind unit data : Nat) : (s.stbNote kind unit data).act = s.act :=
  (State.stbNote_frame (l := [.spoke]) (fun _ h => h) State.Frame.refl) .act (by decide)
@[simp] theorem State.stbNote_adc (kind unit data : Nat) : (s.stbNote kind unit data).adc = s.adc :=
  (State.stbNote_frame (l := [.spoke]) (fun _ h => h) State.Frame.refl) .adc (by decide)
@[simp] theorem State.stbNote_pad (kind unit data : Nat) : (s.stbNote kind unit data).pad = s.pad :=
  (State.stbNote_frame (l := [.spoke]) (fun _ h => h) State.Frame.refl) .pad (by decide)
@[simp] theorem State.stbNote_bus (kind unit data : Nat) : (s.stbNote kind unit data).bus = s.bus :=
  (State.stbNote_frame (l := [.spoke]) (fun _ h => h) State.Frame.refl) .bus (by decide)
@[simp] theorem State.stbNote_hay (kind unit data : Nat) : (s.stbNote kind unit data).hay = s.hay :=
  (State.stbNote_frame (l := [.spoke]) (fun _ h => h) State.Frame.refl) .hay (by decide)
@[simp] theorem State.stbNote_stb (kind unit data : Nat) : (s.stbNote kind unit data).stb = s.stb :=
  (State.stbNote_frame (l := [.spoke]) (fun _ h => h) State.Frame.refl) .stb (by decide)
@[simp] theorem State.stbNote_dsp (kind unit data : Nat) : (s.stbNote kind unit data).dsp = s.dsp :=
  (State.stbNote_frame (l := [.spoke]) (fun _ h => h) State.Frame.refl) .dsp (by decide)
@[simp] theorem State.stbNote_seg (kind unit data : Nat) : (s.stbNote kind unit data).seg = s.seg :=
  (State.stbNote_frame (l := [.spoke]) (fun _ h => h) State.Frame.refl) .seg (by decide)
@[simp] theorem State.stbNote_thm (kind unit data : Nat) : (s.stbNote kind unit data).thm = s.thm :=
  (State.stbNote_frame (l := [.spoke]) (fun _ h => h) State.Frame.refl) .thm (by decide)
@[simp] theorem State.stbNote_sec (kind unit data : Nat) : (s.stbNote kind unit data).sec = s.sec :=
  (State.stbNote_frame (l := [.spoke]) (fun _ h => h) State.Frame.refl) .sec (by decide)
@[simp] theorem State.stbNote_flt (kind unit data : Nat) : (s.stbNote kind unit data).flt = s.flt :=
  (State.stbNote_frame (l := [.spoke]) (fun _ h => h) State.Frame.refl) .flt (by decide)
@[simp] theorem State.stbNote_dbg (kind unit data : Nat) : (s.stbNote kind unit data).dbg = s.dbg :=
  (State.stbNote_frame (l := [.spoke]) (fun _ h => h) State.Frame.refl) .dbg (by decide)
@[simp] theorem State.stbNote_rd (kind unit data : Nat) (j : Nat) : (s.stbNote kind unit data).rd j = s.rd j := by unfold State.rd; rw [State.stbNote_regs]
@[simp] theorem State.stbNote_on (kind unit data : Nat) (j : Nat) : (s.stbNote kind unit data).on j = s.on j := by unfold State.on; rw [State.stbNote_rd]
@[simp] theorem State.stbNote_zone (kind unit data : Nat) (j : Nat) : (s.stbNote kind unit data).zone j = s.zone j := by unfold State.zone; rw [State.stbNote_zones]

/-! ### thmNote -/

@[simp] theorem State.thmNote_pending (kind unit data : Nat) : (s.thmNote kind unit data).pending = s.pending :=
  (State.thmNote_frame (l := [.spoke]) (fun _ h => h) State.Frame.refl) .pending (by decide)
@[simp] theorem State.thmNote_regs (kind unit data : Nat) : (s.thmNote kind unit data).regs = s.regs :=
  (State.thmNote_frame (l := [.spoke]) (fun _ h => h) State.Frame.refl) .regs (by decide)
@[simp] theorem State.thmNote_free (kind unit data : Nat) : (s.thmNote kind unit data).free = s.free :=
  (State.thmNote_frame (l := [.spoke]) (fun _ h => h) State.Frame.refl) .free (by decide)
@[simp] theorem State.thmNote_cad (kind unit data : Nat) : (s.thmNote kind unit data).cad = s.cad :=
  (State.thmNote_frame (l := [.spoke]) (fun _ h => h) State.Frame.refl) .cad (by decide)
@[simp] theorem State.thmNote_pwr (kind unit data : Nat) : (s.thmNote kind unit data).pwr = s.pwr :=
  (State.thmNote_frame (l := [.spoke]) (fun _ h => h) State.Frame.refl) .pwr (by decide)
@[simp] theorem State.thmNote_host (kind unit data : Nat) : (s.thmNote kind unit data).host = s.host :=
  (State.thmNote_frame (l := [.spoke]) (fun _ h => h) State.Frame.refl) .host (by decide)
@[simp] theorem State.thmNote_console (kind unit data : Nat) : (s.thmNote kind unit data).console = s.console :=
  (State.thmNote_frame (l := [.spoke]) (fun _ h => h) State.Frame.refl) .console (by decide)
@[simp] theorem State.thmNote_zones (kind unit data : Nat) : (s.thmNote kind unit data).zones = s.zones :=
  (State.thmNote_frame (l := [.spoke]) (fun _ h => h) State.Frame.refl) .zones (by decide)
@[simp] theorem State.thmNote_pwm (kind unit data : Nat) : (s.thmNote kind unit data).pwm = s.pwm :=
  (State.thmNote_frame (l := [.spoke]) (fun _ h => h) State.Frame.refl) .pwm (by decide)
@[simp] theorem State.thmNote_act (kind unit data : Nat) : (s.thmNote kind unit data).act = s.act :=
  (State.thmNote_frame (l := [.spoke]) (fun _ h => h) State.Frame.refl) .act (by decide)
@[simp] theorem State.thmNote_adc (kind unit data : Nat) : (s.thmNote kind unit data).adc = s.adc :=
  (State.thmNote_frame (l := [.spoke]) (fun _ h => h) State.Frame.refl) .adc (by decide)
@[simp] theorem State.thmNote_pad (kind unit data : Nat) : (s.thmNote kind unit data).pad = s.pad :=
  (State.thmNote_frame (l := [.spoke]) (fun _ h => h) State.Frame.refl) .pad (by decide)
@[simp] theorem State.thmNote_bus (kind unit data : Nat) : (s.thmNote kind unit data).bus = s.bus :=
  (State.thmNote_frame (l := [.spoke]) (fun _ h => h) State.Frame.refl) .bus (by decide)
@[simp] theorem State.thmNote_hay (kind unit data : Nat) : (s.thmNote kind unit data).hay = s.hay :=
  (State.thmNote_frame (l := [.spoke]) (fun _ h => h) State.Frame.refl) .hay (by decide)
@[simp] theorem State.thmNote_stb (kind unit data : Nat) : (s.thmNote kind unit data).stb = s.stb :=
  (State.thmNote_frame (l := [.spoke]) (fun _ h => h) State.Frame.refl) .stb (by decide)
@[simp] theorem State.thmNote_dsp (kind unit data : Nat) : (s.thmNote kind unit data).dsp = s.dsp :=
  (State.thmNote_frame (l := [.spoke]) (fun _ h => h) State.Frame.refl) .dsp (by decide)
@[simp] theorem State.thmNote_seg (kind unit data : Nat) : (s.thmNote kind unit data).seg = s.seg :=
  (State.thmNote_frame (l := [.spoke]) (fun _ h => h) State.Frame.refl) .seg (by decide)
@[simp] theorem State.thmNote_thm (kind unit data : Nat) : (s.thmNote kind unit data).thm = s.thm :=
  (State.thmNote_frame (l := [.spoke]) (fun _ h => h) State.Frame.refl) .thm (by decide)
@[simp] theorem State.thmNote_sec (kind unit data : Nat) : (s.thmNote kind unit data).sec = s.sec :=
  (State.thmNote_frame (l := [.spoke]) (fun _ h => h) State.Frame.refl) .sec (by decide)
@[simp] theorem State.thmNote_flt (kind unit data : Nat) : (s.thmNote kind unit data).flt = s.flt :=
  (State.thmNote_frame (l := [.spoke]) (fun _ h => h) State.Frame.refl) .flt (by decide)
@[simp] theorem State.thmNote_dbg (kind unit data : Nat) : (s.thmNote kind unit data).dbg = s.dbg :=
  (State.thmNote_frame (l := [.spoke]) (fun _ h => h) State.Frame.refl) .dbg (by decide)
@[simp] theorem State.thmNote_rd (kind unit data : Nat) (j : Nat) : (s.thmNote kind unit data).rd j = s.rd j := by unfold State.rd; rw [State.thmNote_regs]
@[simp] theorem State.thmNote_on (kind unit data : Nat) (j : Nat) : (s.thmNote kind unit data).on j = s.on j := by unfold State.on; rw [State.thmNote_rd]
@[simp] theorem State.thmNote_zone (kind unit data : Nat) (j : Nat) : (s.thmNote kind unit data).zone j = s.zone j := by unfold State.zone; rw [State.thmNote_zones]

/-! ### record -/

@[simp] theorem State.record_pending (stream kind : Nat) (b : Bytes) : (s.record stream kind b).pending = s.pending :=
  (State.record_frame (l := [.hay]) (fun _ h => h) State.Frame.refl) .pending (by decide)
@[simp] theorem State.record_regs (stream kind : Nat) (b : Bytes) : (s.record stream kind b).regs = s.regs :=
  (State.record_frame (l := [.hay]) (fun _ h => h) State.Frame.refl) .regs (by decide)
@[simp] theorem State.record_free (stream kind : Nat) (b : Bytes) : (s.record stream kind b).free = s.free :=
  (State.record_frame (l := [.hay]) (fun _ h => h) State.Frame.refl) .free (by decide)
@[simp] theorem State.record_cad (stream kind : Nat) (b : Bytes) : (s.record stream kind b).cad = s.cad :=
  (State.record_frame (l := [.hay]) (fun _ h => h) State.Frame.refl) .cad (by decide)
@[simp] theorem State.record_pwr (stream kind : Nat) (b : Bytes) : (s.record stream kind b).pwr = s.pwr :=
  (State.record_frame (l := [.hay]) (fun _ h => h) State.Frame.refl) .pwr (by decide)
@[simp] theorem State.record_spoke (stream kind : Nat) (b : Bytes) : (s.record stream kind b).spoke = s.spoke :=
  (State.record_frame (l := [.hay]) (fun _ h => h) State.Frame.refl) .spoke (by decide)
@[simp] theorem State.record_host (stream kind : Nat) (b : Bytes) : (s.record stream kind b).host = s.host :=
  (State.record_frame (l := [.hay]) (fun _ h => h) State.Frame.refl) .host (by decide)
@[simp] theorem State.record_console (stream kind : Nat) (b : Bytes) : (s.record stream kind b).console = s.console :=
  (State.record_frame (l := [.hay]) (fun _ h => h) State.Frame.refl) .console (by decide)
@[simp] theorem State.record_zones (stream kind : Nat) (b : Bytes) : (s.record stream kind b).zones = s.zones :=
  (State.record_frame (l := [.hay]) (fun _ h => h) State.Frame.refl) .zones (by decide)
@[simp] theorem State.record_pwm (stream kind : Nat) (b : Bytes) : (s.record stream kind b).pwm = s.pwm :=
  (State.record_frame (l := [.hay]) (fun _ h => h) State.Frame.refl) .pwm (by decide)
@[simp] theorem State.record_act (stream kind : Nat) (b : Bytes) : (s.record stream kind b).act = s.act :=
  (State.record_frame (l := [.hay]) (fun _ h => h) State.Frame.refl) .act (by decide)
@[simp] theorem State.record_adc (stream kind : Nat) (b : Bytes) : (s.record stream kind b).adc = s.adc :=
  (State.record_frame (l := [.hay]) (fun _ h => h) State.Frame.refl) .adc (by decide)
@[simp] theorem State.record_pad (stream kind : Nat) (b : Bytes) : (s.record stream kind b).pad = s.pad :=
  (State.record_frame (l := [.hay]) (fun _ h => h) State.Frame.refl) .pad (by decide)
@[simp] theorem State.record_bus (stream kind : Nat) (b : Bytes) : (s.record stream kind b).bus = s.bus :=
  (State.record_frame (l := [.hay]) (fun _ h => h) State.Frame.refl) .bus (by decide)
@[simp] theorem State.record_stb (stream kind : Nat) (b : Bytes) : (s.record stream kind b).stb = s.stb :=
  (State.record_frame (l := [.hay]) (fun _ h => h) State.Frame.refl) .stb (by decide)
@[simp] theorem State.record_dsp (stream kind : Nat) (b : Bytes) : (s.record stream kind b).dsp = s.dsp :=
  (State.record_frame (l := [.hay]) (fun _ h => h) State.Frame.refl) .dsp (by decide)
@[simp] theorem State.record_seg (stream kind : Nat) (b : Bytes) : (s.record stream kind b).seg = s.seg :=
  (State.record_frame (l := [.hay]) (fun _ h => h) State.Frame.refl) .seg (by decide)
@[simp] theorem State.record_thm (stream kind : Nat) (b : Bytes) : (s.record stream kind b).thm = s.thm :=
  (State.record_frame (l := [.hay]) (fun _ h => h) State.Frame.refl) .thm (by decide)
@[simp] theorem State.record_sec (stream kind : Nat) (b : Bytes) : (s.record stream kind b).sec = s.sec :=
  (State.record_frame (l := [.hay]) (fun _ h => h) State.Frame.refl) .sec (by decide)
@[simp] theorem State.record_flt (stream kind : Nat) (b : Bytes) : (s.record stream kind b).flt = s.flt :=
  (State.record_frame (l := [.hay]) (fun _ h => h) State.Frame.refl) .flt (by decide)
@[simp] theorem State.record_dbg (stream kind : Nat) (b : Bytes) : (s.record stream kind b).dbg = s.dbg :=
  (State.record_frame (l := [.hay]) (fun _ h => h) State.Frame.refl) .dbg (by decide)
@[simp] theorem State.record_rd (stream kind : Nat) (b : Bytes) (j : Nat) : (s.record stream kind b).rd j = s.rd j := by unfold State.rd; rw [State.record_regs]
@[simp] theorem State.record_on (stream kind : Nat) (b : Bytes) (j : Nat) : (s.record stream kind b).on j = s.on j := by unfold State.on; rw [State.record_rd]
@[simp] theorem State.record_zone (stream kind : Nat) (b : Bytes) (j : Nat) : (s.record stream kind b).zone j = s.zone j := by unfold State.zone; rw [State.record_zones]

/-! ### fault -/

@[simp] theorem State.fault_pending (cls source code unit data attrib : Nat) : (s.fault cls source code unit data attrib).pending = s.pending :=
  (State.fault_frame (l := [.regs, .flt]) (fun _ h => h) State.Frame.refl) .pending (by decide)
@[simp] theorem State.fault_free (cls source code unit data attrib : Nat) : (s.fault cls source code unit data attrib).free = s.free :=
  (State.fault_frame (l := [.regs, .flt]) (fun _ h => h) State.Frame.refl) .free (by decide)
@[simp] theorem State.fault_cad (cls source code unit data attrib : Nat) : (s.fault cls source code unit data attrib).cad = s.cad :=
  (State.fault_frame (l := [.regs, .flt]) (fun _ h => h) State.Frame.refl) .cad (by decide)
@[simp] theorem State.fault_pwr (cls source code unit data attrib : Nat) : (s.fault cls source code unit data attrib).pwr = s.pwr :=
  (State.fault_frame (l := [.regs, .flt]) (fun _ h => h) State.Frame.refl) .pwr (by decide)
@[simp] theorem State.fault_spoke (cls source code unit data attrib : Nat) : (s.fault cls source code unit data attrib).spoke = s.spoke :=
  (State.fault_frame (l := [.regs, .flt]) (fun _ h => h) State.Frame.refl) .spoke (by decide)
@[simp] theorem State.fault_host (cls source code unit data attrib : Nat) : (s.fault cls source code unit data attrib).host = s.host :=
  (State.fault_frame (l := [.regs, .flt]) (fun _ h => h) State.Frame.refl) .host (by decide)
@[simp] theorem State.fault_console (cls source code unit data attrib : Nat) : (s.fault cls source code unit data attrib).console = s.console :=
  (State.fault_frame (l := [.regs, .flt]) (fun _ h => h) State.Frame.refl) .console (by decide)
@[simp] theorem State.fault_zones (cls source code unit data attrib : Nat) : (s.fault cls source code unit data attrib).zones = s.zones :=
  (State.fault_frame (l := [.regs, .flt]) (fun _ h => h) State.Frame.refl) .zones (by decide)
@[simp] theorem State.fault_pwm (cls source code unit data attrib : Nat) : (s.fault cls source code unit data attrib).pwm = s.pwm :=
  (State.fault_frame (l := [.regs, .flt]) (fun _ h => h) State.Frame.refl) .pwm (by decide)
@[simp] theorem State.fault_act (cls source code unit data attrib : Nat) : (s.fault cls source code unit data attrib).act = s.act :=
  (State.fault_frame (l := [.regs, .flt]) (fun _ h => h) State.Frame.refl) .act (by decide)
@[simp] theorem State.fault_adc (cls source code unit data attrib : Nat) : (s.fault cls source code unit data attrib).adc = s.adc :=
  (State.fault_frame (l := [.regs, .flt]) (fun _ h => h) State.Frame.refl) .adc (by decide)
@[simp] theorem State.fault_pad (cls source code unit data attrib : Nat) : (s.fault cls source code unit data attrib).pad = s.pad :=
  (State.fault_frame (l := [.regs, .flt]) (fun _ h => h) State.Frame.refl) .pad (by decide)
@[simp] theorem State.fault_bus (cls source code unit data attrib : Nat) : (s.fault cls source code unit data attrib).bus = s.bus :=
  (State.fault_frame (l := [.regs, .flt]) (fun _ h => h) State.Frame.refl) .bus (by decide)
@[simp] theorem State.fault_hay (cls source code unit data attrib : Nat) : (s.fault cls source code unit data attrib).hay = s.hay :=
  (State.fault_frame (l := [.regs, .flt]) (fun _ h => h) State.Frame.refl) .hay (by decide)
@[simp] theorem State.fault_stb (cls source code unit data attrib : Nat) : (s.fault cls source code unit data attrib).stb = s.stb :=
  (State.fault_frame (l := [.regs, .flt]) (fun _ h => h) State.Frame.refl) .stb (by decide)
@[simp] theorem State.fault_dsp (cls source code unit data attrib : Nat) : (s.fault cls source code unit data attrib).dsp = s.dsp :=
  (State.fault_frame (l := [.regs, .flt]) (fun _ h => h) State.Frame.refl) .dsp (by decide)
@[simp] theorem State.fault_seg (cls source code unit data attrib : Nat) : (s.fault cls source code unit data attrib).seg = s.seg :=
  (State.fault_frame (l := [.regs, .flt]) (fun _ h => h) State.Frame.refl) .seg (by decide)
@[simp] theorem State.fault_thm (cls source code unit data attrib : Nat) : (s.fault cls source code unit data attrib).thm = s.thm :=
  (State.fault_frame (l := [.regs, .flt]) (fun _ h => h) State.Frame.refl) .thm (by decide)
@[simp] theorem State.fault_sec (cls source code unit data attrib : Nat) : (s.fault cls source code unit data attrib).sec = s.sec :=
  (State.fault_frame (l := [.regs, .flt]) (fun _ h => h) State.Frame.refl) .sec (by decide)
@[simp] theorem State.fault_dbg (cls source code unit data attrib : Nat) : (s.fault cls source code unit data attrib).dbg = s.dbg :=
  (State.fault_frame (l := [.regs, .flt]) (fun _ h => h) State.Frame.refl) .dbg (by decide)
@[simp] theorem State.fault_zone (cls source code unit data attrib : Nat) (j : Nat) : (s.fault cls source code unit data attrib).zone j = s.zone j := by unfold State.zone; rw [State.fault_zones]

/-! ### hubFault -/

@[simp] theorem State.hubFault_pending (source code unit data : Nat) (core : Option Nat) (cause : Nat) : (s.hubFault source code unit data core cause).pending = s.pending :=
  (State.hubFault_frame (l := [.regs, .flt]) (fun _ h => h) State.Frame.refl) .pending (by decide)
@[simp] theorem State.hubFault_free (source code unit data : Nat) (core : Option Nat) (cause : Nat) : (s.hubFault source code unit data core cause).free = s.free :=
  (State.hubFault_frame (l := [.regs, .flt]) (fun _ h => h) State.Frame.refl) .free (by decide)
@[simp] theorem State.hubFault_cad (source code unit data : Nat) (core : Option Nat) (cause : Nat) : (s.hubFault source code unit data core cause).cad = s.cad :=
  (State.hubFault_frame (l := [.regs, .flt]) (fun _ h => h) State.Frame.refl) .cad (by decide)
@[simp] theorem State.hubFault_pwr (source code unit data : Nat) (core : Option Nat) (cause : Nat) : (s.hubFault source code unit data core cause).pwr = s.pwr :=
  (State.hubFault_frame (l := [.regs, .flt]) (fun _ h => h) State.Frame.refl) .pwr (by decide)
@[simp] theorem State.hubFault_spoke (source code unit data : Nat) (core : Option Nat) (cause : Nat) : (s.hubFault source code unit data core cause).spoke = s.spoke :=
  (State.hubFault_frame (l := [.regs, .flt]) (fun _ h => h) State.Frame.refl) .spoke (by decide)
@[simp] theorem State.hubFault_host (source code unit data : Nat) (core : Option Nat) (cause : Nat) : (s.hubFault source code unit data core cause).host = s.host :=
  (State.hubFault_frame (l := [.regs, .flt]) (fun _ h => h) State.Frame.refl) .host (by decide)
@[simp] theorem State.hubFault_console (source code unit data : Nat) (core : Option Nat) (cause : Nat) : (s.hubFault source code unit data core cause).console = s.console :=
  (State.hubFault_frame (l := [.regs, .flt]) (fun _ h => h) State.Frame.refl) .console (by decide)
@[simp] theorem State.hubFault_zones (source code unit data : Nat) (core : Option Nat) (cause : Nat) : (s.hubFault source code unit data core cause).zones = s.zones :=
  (State.hubFault_frame (l := [.regs, .flt]) (fun _ h => h) State.Frame.refl) .zones (by decide)
@[simp] theorem State.hubFault_pwm (source code unit data : Nat) (core : Option Nat) (cause : Nat) : (s.hubFault source code unit data core cause).pwm = s.pwm :=
  (State.hubFault_frame (l := [.regs, .flt]) (fun _ h => h) State.Frame.refl) .pwm (by decide)
@[simp] theorem State.hubFault_act (source code unit data : Nat) (core : Option Nat) (cause : Nat) : (s.hubFault source code unit data core cause).act = s.act :=
  (State.hubFault_frame (l := [.regs, .flt]) (fun _ h => h) State.Frame.refl) .act (by decide)
@[simp] theorem State.hubFault_adc (source code unit data : Nat) (core : Option Nat) (cause : Nat) : (s.hubFault source code unit data core cause).adc = s.adc :=
  (State.hubFault_frame (l := [.regs, .flt]) (fun _ h => h) State.Frame.refl) .adc (by decide)
@[simp] theorem State.hubFault_pad (source code unit data : Nat) (core : Option Nat) (cause : Nat) : (s.hubFault source code unit data core cause).pad = s.pad :=
  (State.hubFault_frame (l := [.regs, .flt]) (fun _ h => h) State.Frame.refl) .pad (by decide)
@[simp] theorem State.hubFault_bus (source code unit data : Nat) (core : Option Nat) (cause : Nat) : (s.hubFault source code unit data core cause).bus = s.bus :=
  (State.hubFault_frame (l := [.regs, .flt]) (fun _ h => h) State.Frame.refl) .bus (by decide)
@[simp] theorem State.hubFault_hay (source code unit data : Nat) (core : Option Nat) (cause : Nat) : (s.hubFault source code unit data core cause).hay = s.hay :=
  (State.hubFault_frame (l := [.regs, .flt]) (fun _ h => h) State.Frame.refl) .hay (by decide)
@[simp] theorem State.hubFault_stb (source code unit data : Nat) (core : Option Nat) (cause : Nat) : (s.hubFault source code unit data core cause).stb = s.stb :=
  (State.hubFault_frame (l := [.regs, .flt]) (fun _ h => h) State.Frame.refl) .stb (by decide)
@[simp] theorem State.hubFault_dsp (source code unit data : Nat) (core : Option Nat) (cause : Nat) : (s.hubFault source code unit data core cause).dsp = s.dsp :=
  (State.hubFault_frame (l := [.regs, .flt]) (fun _ h => h) State.Frame.refl) .dsp (by decide)
@[simp] theorem State.hubFault_seg (source code unit data : Nat) (core : Option Nat) (cause : Nat) : (s.hubFault source code unit data core cause).seg = s.seg :=
  (State.hubFault_frame (l := [.regs, .flt]) (fun _ h => h) State.Frame.refl) .seg (by decide)
@[simp] theorem State.hubFault_thm (source code unit data : Nat) (core : Option Nat) (cause : Nat) : (s.hubFault source code unit data core cause).thm = s.thm :=
  (State.hubFault_frame (l := [.regs, .flt]) (fun _ h => h) State.Frame.refl) .thm (by decide)
@[simp] theorem State.hubFault_sec (source code unit data : Nat) (core : Option Nat) (cause : Nat) : (s.hubFault source code unit data core cause).sec = s.sec :=
  (State.hubFault_frame (l := [.regs, .flt]) (fun _ h => h) State.Frame.refl) .sec (by decide)
@[simp] theorem State.hubFault_dbg (source code unit data : Nat) (core : Option Nat) (cause : Nat) : (s.hubFault source code unit data core cause).dbg = s.dbg :=
  (State.hubFault_frame (l := [.regs, .flt]) (fun _ h => h) State.Frame.refl) .dbg (by decide)
@[simp] theorem State.hubFault_zone (source code unit data : Nat) (core : Option Nat) (cause : Nat) (j : Nat) : (s.hubFault source code unit data core cause).zone j = s.zone j := by unfold State.zone; rw [State.hubFault_zones]

/-! ### accepted -/

@[simp] theorem State.accepted_pending (r : Ref) (b : Bytes) : (s.accepted r b).pending = s.pending :=
  (State.accepted_frame (l := [.spoke]) (fun _ h => h) State.Frame.refl) .pending (by decide)
@[simp] theorem State.accepted_regs (r : Ref) (b : Bytes) : (s.accepted r b).regs = s.regs :=
  (State.accepted_frame (l := [.spoke]) (fun _ h => h) State.Frame.refl) .regs (by decide)
@[simp] theorem State.accepted_free (r : Ref) (b : Bytes) : (s.accepted r b).free = s.free :=
  (State.accepted_frame (l := [.spoke]) (fun _ h => h) State.Frame.refl) .free (by decide)
@[simp] theorem State.accepted_cad (r : Ref) (b : Bytes) : (s.accepted r b).cad = s.cad :=
  (State.accepted_frame (l := [.spoke]) (fun _ h => h) State.Frame.refl) .cad (by decide)
@[simp] theorem State.accepted_pwr (r : Ref) (b : Bytes) : (s.accepted r b).pwr = s.pwr :=
  (State.accepted_frame (l := [.spoke]) (fun _ h => h) State.Frame.refl) .pwr (by decide)
@[simp] theorem State.accepted_host (r : Ref) (b : Bytes) : (s.accepted r b).host = s.host :=
  (State.accepted_frame (l := [.spoke]) (fun _ h => h) State.Frame.refl) .host (by decide)
@[simp] theorem State.accepted_console (r : Ref) (b : Bytes) : (s.accepted r b).console = s.console :=
  (State.accepted_frame (l := [.spoke]) (fun _ h => h) State.Frame.refl) .console (by decide)
@[simp] theorem State.accepted_zones (r : Ref) (b : Bytes) : (s.accepted r b).zones = s.zones :=
  (State.accepted_frame (l := [.spoke]) (fun _ h => h) State.Frame.refl) .zones (by decide)
@[simp] theorem State.accepted_pwm (r : Ref) (b : Bytes) : (s.accepted r b).pwm = s.pwm :=
  (State.accepted_frame (l := [.spoke]) (fun _ h => h) State.Frame.refl) .pwm (by decide)
@[simp] theorem State.accepted_act (r : Ref) (b : Bytes) : (s.accepted r b).act = s.act :=
  (State.accepted_frame (l := [.spoke]) (fun _ h => h) State.Frame.refl) .act (by decide)
@[simp] theorem State.accepted_adc (r : Ref) (b : Bytes) : (s.accepted r b).adc = s.adc :=
  (State.accepted_frame (l := [.spoke]) (fun _ h => h) State.Frame.refl) .adc (by decide)
@[simp] theorem State.accepted_pad (r : Ref) (b : Bytes) : (s.accepted r b).pad = s.pad :=
  (State.accepted_frame (l := [.spoke]) (fun _ h => h) State.Frame.refl) .pad (by decide)
@[simp] theorem State.accepted_bus (r : Ref) (b : Bytes) : (s.accepted r b).bus = s.bus :=
  (State.accepted_frame (l := [.spoke]) (fun _ h => h) State.Frame.refl) .bus (by decide)
@[simp] theorem State.accepted_hay (r : Ref) (b : Bytes) : (s.accepted r b).hay = s.hay :=
  (State.accepted_frame (l := [.spoke]) (fun _ h => h) State.Frame.refl) .hay (by decide)
@[simp] theorem State.accepted_stb (r : Ref) (b : Bytes) : (s.accepted r b).stb = s.stb :=
  (State.accepted_frame (l := [.spoke]) (fun _ h => h) State.Frame.refl) .stb (by decide)
@[simp] theorem State.accepted_dsp (r : Ref) (b : Bytes) : (s.accepted r b).dsp = s.dsp :=
  (State.accepted_frame (l := [.spoke]) (fun _ h => h) State.Frame.refl) .dsp (by decide)
@[simp] theorem State.accepted_seg (r : Ref) (b : Bytes) : (s.accepted r b).seg = s.seg :=
  (State.accepted_frame (l := [.spoke]) (fun _ h => h) State.Frame.refl) .seg (by decide)
@[simp] theorem State.accepted_thm (r : Ref) (b : Bytes) : (s.accepted r b).thm = s.thm :=
  (State.accepted_frame (l := [.spoke]) (fun _ h => h) State.Frame.refl) .thm (by decide)
@[simp] theorem State.accepted_sec (r : Ref) (b : Bytes) : (s.accepted r b).sec = s.sec :=
  (State.accepted_frame (l := [.spoke]) (fun _ h => h) State.Frame.refl) .sec (by decide)
@[simp] theorem State.accepted_flt (r : Ref) (b : Bytes) : (s.accepted r b).flt = s.flt :=
  (State.accepted_frame (l := [.spoke]) (fun _ h => h) State.Frame.refl) .flt (by decide)
@[simp] theorem State.accepted_dbg (r : Ref) (b : Bytes) : (s.accepted r b).dbg = s.dbg :=
  (State.accepted_frame (l := [.spoke]) (fun _ h => h) State.Frame.refl) .dbg (by decide)
@[simp] theorem State.accepted_rd (r : Ref) (b : Bytes) (j : Nat) : (s.accepted r b).rd j = s.rd j := by unfold State.rd; rw [State.accepted_regs]
@[simp] theorem State.accepted_on (r : Ref) (b : Bytes) (j : Nat) : (s.accepted r b).on j = s.on j := by unfold State.on; rw [State.accepted_rd]
@[simp] theorem State.accepted_zone (r : Ref) (b : Bytes) (j : Nat) : (s.accepted r b).zone j = s.zone j := by unfold State.zone; rw [State.accepted_zones]

/-! ### finish -/

@[simp] theorem State.finish_pending (r : Ref) (status : Nat) (b : Bytes) : (s.finish r status b).pending = s.pending :=
  (State.finish_frame (l := [.spoke, .flt]) (fun _ h => h) State.Frame.refl) .pending (by decide)
@[simp] theorem State.finish_regs (r : Ref) (status : Nat) (b : Bytes) : (s.finish r status b).regs = s.regs :=
  (State.finish_frame (l := [.spoke, .flt]) (fun _ h => h) State.Frame.refl) .regs (by decide)
@[simp] theorem State.finish_free (r : Ref) (status : Nat) (b : Bytes) : (s.finish r status b).free = s.free :=
  (State.finish_frame (l := [.spoke, .flt]) (fun _ h => h) State.Frame.refl) .free (by decide)
@[simp] theorem State.finish_cad (r : Ref) (status : Nat) (b : Bytes) : (s.finish r status b).cad = s.cad :=
  (State.finish_frame (l := [.spoke, .flt]) (fun _ h => h) State.Frame.refl) .cad (by decide)
@[simp] theorem State.finish_pwr (r : Ref) (status : Nat) (b : Bytes) : (s.finish r status b).pwr = s.pwr :=
  (State.finish_frame (l := [.spoke, .flt]) (fun _ h => h) State.Frame.refl) .pwr (by decide)
@[simp] theorem State.finish_host (r : Ref) (status : Nat) (b : Bytes) : (s.finish r status b).host = s.host :=
  (State.finish_frame (l := [.spoke, .flt]) (fun _ h => h) State.Frame.refl) .host (by decide)
@[simp] theorem State.finish_console (r : Ref) (status : Nat) (b : Bytes) : (s.finish r status b).console = s.console :=
  (State.finish_frame (l := [.spoke, .flt]) (fun _ h => h) State.Frame.refl) .console (by decide)
@[simp] theorem State.finish_zones (r : Ref) (status : Nat) (b : Bytes) : (s.finish r status b).zones = s.zones :=
  (State.finish_frame (l := [.spoke, .flt]) (fun _ h => h) State.Frame.refl) .zones (by decide)
@[simp] theorem State.finish_pwm (r : Ref) (status : Nat) (b : Bytes) : (s.finish r status b).pwm = s.pwm :=
  (State.finish_frame (l := [.spoke, .flt]) (fun _ h => h) State.Frame.refl) .pwm (by decide)
@[simp] theorem State.finish_act (r : Ref) (status : Nat) (b : Bytes) : (s.finish r status b).act = s.act :=
  (State.finish_frame (l := [.spoke, .flt]) (fun _ h => h) State.Frame.refl) .act (by decide)
@[simp] theorem State.finish_adc (r : Ref) (status : Nat) (b : Bytes) : (s.finish r status b).adc = s.adc :=
  (State.finish_frame (l := [.spoke, .flt]) (fun _ h => h) State.Frame.refl) .adc (by decide)
@[simp] theorem State.finish_pad (r : Ref) (status : Nat) (b : Bytes) : (s.finish r status b).pad = s.pad :=
  (State.finish_frame (l := [.spoke, .flt]) (fun _ h => h) State.Frame.refl) .pad (by decide)
@[simp] theorem State.finish_bus (r : Ref) (status : Nat) (b : Bytes) : (s.finish r status b).bus = s.bus :=
  (State.finish_frame (l := [.spoke, .flt]) (fun _ h => h) State.Frame.refl) .bus (by decide)
@[simp] theorem State.finish_hay (r : Ref) (status : Nat) (b : Bytes) : (s.finish r status b).hay = s.hay :=
  (State.finish_frame (l := [.spoke, .flt]) (fun _ h => h) State.Frame.refl) .hay (by decide)
@[simp] theorem State.finish_stb (r : Ref) (status : Nat) (b : Bytes) : (s.finish r status b).stb = s.stb :=
  (State.finish_frame (l := [.spoke, .flt]) (fun _ h => h) State.Frame.refl) .stb (by decide)
@[simp] theorem State.finish_dsp (r : Ref) (status : Nat) (b : Bytes) : (s.finish r status b).dsp = s.dsp :=
  (State.finish_frame (l := [.spoke, .flt]) (fun _ h => h) State.Frame.refl) .dsp (by decide)
@[simp] theorem State.finish_seg (r : Ref) (status : Nat) (b : Bytes) : (s.finish r status b).seg = s.seg :=
  (State.finish_frame (l := [.spoke, .flt]) (fun _ h => h) State.Frame.refl) .seg (by decide)
@[simp] theorem State.finish_thm (r : Ref) (status : Nat) (b : Bytes) : (s.finish r status b).thm = s.thm :=
  (State.finish_frame (l := [.spoke, .flt]) (fun _ h => h) State.Frame.refl) .thm (by decide)
@[simp] theorem State.finish_sec (r : Ref) (status : Nat) (b : Bytes) : (s.finish r status b).sec = s.sec :=
  (State.finish_frame (l := [.spoke, .flt]) (fun _ h => h) State.Frame.refl) .sec (by decide)
@[simp] theorem State.finish_dbg (r : Ref) (status : Nat) (b : Bytes) : (s.finish r status b).dbg = s.dbg :=
  (State.finish_frame (l := [.spoke, .flt]) (fun _ h => h) State.Frame.refl) .dbg (by decide)
@[simp] theorem State.finish_rd (r : Ref) (status : Nat) (b : Bytes) (j : Nat) : (s.finish r status b).rd j = s.rd j := by unfold State.rd; rw [State.finish_regs]
@[simp] theorem State.finish_on (r : Ref) (status : Nat) (b : Bytes) (j : Nat) : (s.finish r status b).on j = s.on j := by unfold State.on; rw [State.finish_rd]
@[simp] theorem State.finish_zone (r : Ref) (status : Nat) (b : Bytes) (j : Nat) : (s.finish r status b).zone j = s.zone j := by unfold State.zone; rw [State.finish_zones]

/-! ### ok -/

@[simp] theorem State.ok_pending (r : Ref) (b : Bytes) : (s.ok r b).pending = s.pending :=
  (State.ok_frame (l := [.spoke, .flt]) (fun _ h => h) State.Frame.refl) .pending (by decide)
@[simp] theorem State.ok_regs (r : Ref) (b : Bytes) : (s.ok r b).regs = s.regs :=
  (State.ok_frame (l := [.spoke, .flt]) (fun _ h => h) State.Frame.refl) .regs (by decide)
@[simp] theorem State.ok_free (r : Ref) (b : Bytes) : (s.ok r b).free = s.free :=
  (State.ok_frame (l := [.spoke, .flt]) (fun _ h => h) State.Frame.refl) .free (by decide)
@[simp] theorem State.ok_cad (r : Ref) (b : Bytes) : (s.ok r b).cad = s.cad :=
  (State.ok_frame (l := [.spoke, .flt]) (fun _ h => h) State.Frame.refl) .cad (by decide)
@[simp] theorem State.ok_pwr (r : Ref) (b : Bytes) : (s.ok r b).pwr = s.pwr :=
  (State.ok_frame (l := [.spoke, .flt]) (fun _ h => h) State.Frame.refl) .pwr (by decide)
@[simp] theorem State.ok_host (r : Ref) (b : Bytes) : (s.ok r b).host = s.host :=
  (State.ok_frame (l := [.spoke, .flt]) (fun _ h => h) State.Frame.refl) .host (by decide)
@[simp] theorem State.ok_console (r : Ref) (b : Bytes) : (s.ok r b).console = s.console :=
  (State.ok_frame (l := [.spoke, .flt]) (fun _ h => h) State.Frame.refl) .console (by decide)
@[simp] theorem State.ok_zones (r : Ref) (b : Bytes) : (s.ok r b).zones = s.zones :=
  (State.ok_frame (l := [.spoke, .flt]) (fun _ h => h) State.Frame.refl) .zones (by decide)
@[simp] theorem State.ok_pwm (r : Ref) (b : Bytes) : (s.ok r b).pwm = s.pwm :=
  (State.ok_frame (l := [.spoke, .flt]) (fun _ h => h) State.Frame.refl) .pwm (by decide)
@[simp] theorem State.ok_act (r : Ref) (b : Bytes) : (s.ok r b).act = s.act :=
  (State.ok_frame (l := [.spoke, .flt]) (fun _ h => h) State.Frame.refl) .act (by decide)
@[simp] theorem State.ok_adc (r : Ref) (b : Bytes) : (s.ok r b).adc = s.adc :=
  (State.ok_frame (l := [.spoke, .flt]) (fun _ h => h) State.Frame.refl) .adc (by decide)
@[simp] theorem State.ok_pad (r : Ref) (b : Bytes) : (s.ok r b).pad = s.pad :=
  (State.ok_frame (l := [.spoke, .flt]) (fun _ h => h) State.Frame.refl) .pad (by decide)
@[simp] theorem State.ok_bus (r : Ref) (b : Bytes) : (s.ok r b).bus = s.bus :=
  (State.ok_frame (l := [.spoke, .flt]) (fun _ h => h) State.Frame.refl) .bus (by decide)
@[simp] theorem State.ok_hay (r : Ref) (b : Bytes) : (s.ok r b).hay = s.hay :=
  (State.ok_frame (l := [.spoke, .flt]) (fun _ h => h) State.Frame.refl) .hay (by decide)
@[simp] theorem State.ok_stb (r : Ref) (b : Bytes) : (s.ok r b).stb = s.stb :=
  (State.ok_frame (l := [.spoke, .flt]) (fun _ h => h) State.Frame.refl) .stb (by decide)
@[simp] theorem State.ok_dsp (r : Ref) (b : Bytes) : (s.ok r b).dsp = s.dsp :=
  (State.ok_frame (l := [.spoke, .flt]) (fun _ h => h) State.Frame.refl) .dsp (by decide)
@[simp] theorem State.ok_seg (r : Ref) (b : Bytes) : (s.ok r b).seg = s.seg :=
  (State.ok_frame (l := [.spoke, .flt]) (fun _ h => h) State.Frame.refl) .seg (by decide)
@[simp] theorem State.ok_thm (r : Ref) (b : Bytes) : (s.ok r b).thm = s.thm :=
  (State.ok_frame (l := [.spoke, .flt]) (fun _ h => h) State.Frame.refl) .thm (by decide)
@[simp] theorem State.ok_sec (r : Ref) (b : Bytes) : (s.ok r b).sec = s.sec :=
  (State.ok_frame (l := [.spoke, .flt]) (fun _ h => h) State.Frame.refl) .sec (by decide)
@[simp] theorem State.ok_dbg (r : Ref) (b : Bytes) : (s.ok r b).dbg = s.dbg :=
  (State.ok_frame (l := [.spoke, .flt]) (fun _ h => h) State.Frame.refl) .dbg (by decide)
@[simp] theorem State.ok_rd (r : Ref) (b : Bytes) (j : Nat) : (s.ok r b).rd j = s.rd j := by unfold State.rd; rw [State.ok_regs]
@[simp] theorem State.ok_on (r : Ref) (b : Bytes) (j : Nat) : (s.ok r b).on j = s.on j := by unfold State.on; rw [State.ok_rd]
@[simp] theorem State.ok_zone (r : Ref) (b : Bytes) (j : Nat) : (s.ok r b).zone j = s.zone j := by unfold State.zone; rw [State.ok_zones]

/-! ### finish? -/

@[simp] theorem State.finish?_pending (r : Option Ref) (status : Nat) (b : Bytes) : (s.finish? r status b).pending = s.pending :=
  (State.finish?_frame (l := [.spoke, .flt]) (fun _ h => h) State.Frame.refl) .pending (by decide)
@[simp] theorem State.finish?_regs (r : Option Ref) (status : Nat) (b : Bytes) : (s.finish? r status b).regs = s.regs :=
  (State.finish?_frame (l := [.spoke, .flt]) (fun _ h => h) State.Frame.refl) .regs (by decide)
@[simp] theorem State.finish?_free (r : Option Ref) (status : Nat) (b : Bytes) : (s.finish? r status b).free = s.free :=
  (State.finish?_frame (l := [.spoke, .flt]) (fun _ h => h) State.Frame.refl) .free (by decide)
@[simp] theorem State.finish?_cad (r : Option Ref) (status : Nat) (b : Bytes) : (s.finish? r status b).cad = s.cad :=
  (State.finish?_frame (l := [.spoke, .flt]) (fun _ h => h) State.Frame.refl) .cad (by decide)
@[simp] theorem State.finish?_pwr (r : Option Ref) (status : Nat) (b : Bytes) : (s.finish? r status b).pwr = s.pwr :=
  (State.finish?_frame (l := [.spoke, .flt]) (fun _ h => h) State.Frame.refl) .pwr (by decide)
@[simp] theorem State.finish?_host (r : Option Ref) (status : Nat) (b : Bytes) : (s.finish? r status b).host = s.host :=
  (State.finish?_frame (l := [.spoke, .flt]) (fun _ h => h) State.Frame.refl) .host (by decide)
@[simp] theorem State.finish?_console (r : Option Ref) (status : Nat) (b : Bytes) : (s.finish? r status b).console = s.console :=
  (State.finish?_frame (l := [.spoke, .flt]) (fun _ h => h) State.Frame.refl) .console (by decide)
@[simp] theorem State.finish?_zones (r : Option Ref) (status : Nat) (b : Bytes) : (s.finish? r status b).zones = s.zones :=
  (State.finish?_frame (l := [.spoke, .flt]) (fun _ h => h) State.Frame.refl) .zones (by decide)
@[simp] theorem State.finish?_pwm (r : Option Ref) (status : Nat) (b : Bytes) : (s.finish? r status b).pwm = s.pwm :=
  (State.finish?_frame (l := [.spoke, .flt]) (fun _ h => h) State.Frame.refl) .pwm (by decide)
@[simp] theorem State.finish?_act (r : Option Ref) (status : Nat) (b : Bytes) : (s.finish? r status b).act = s.act :=
  (State.finish?_frame (l := [.spoke, .flt]) (fun _ h => h) State.Frame.refl) .act (by decide)
@[simp] theorem State.finish?_adc (r : Option Ref) (status : Nat) (b : Bytes) : (s.finish? r status b).adc = s.adc :=
  (State.finish?_frame (l := [.spoke, .flt]) (fun _ h => h) State.Frame.refl) .adc (by decide)
@[simp] theorem State.finish?_pad (r : Option Ref) (status : Nat) (b : Bytes) : (s.finish? r status b).pad = s.pad :=
  (State.finish?_frame (l := [.spoke, .flt]) (fun _ h => h) State.Frame.refl) .pad (by decide)
@[simp] theorem State.finish?_bus (r : Option Ref) (status : Nat) (b : Bytes) : (s.finish? r status b).bus = s.bus :=
  (State.finish?_frame (l := [.spoke, .flt]) (fun _ h => h) State.Frame.refl) .bus (by decide)
@[simp] theorem State.finish?_hay (r : Option Ref) (status : Nat) (b : Bytes) : (s.finish? r status b).hay = s.hay :=
  (State.finish?_frame (l := [.spoke, .flt]) (fun _ h => h) State.Frame.refl) .hay (by decide)
@[simp] theorem State.finish?_stb (r : Option Ref) (status : Nat) (b : Bytes) : (s.finish? r status b).stb = s.stb :=
  (State.finish?_frame (l := [.spoke, .flt]) (fun _ h => h) State.Frame.refl) .stb (by decide)
@[simp] theorem State.finish?_dsp (r : Option Ref) (status : Nat) (b : Bytes) : (s.finish? r status b).dsp = s.dsp :=
  (State.finish?_frame (l := [.spoke, .flt]) (fun _ h => h) State.Frame.refl) .dsp (by decide)
@[simp] theorem State.finish?_seg (r : Option Ref) (status : Nat) (b : Bytes) : (s.finish? r status b).seg = s.seg :=
  (State.finish?_frame (l := [.spoke, .flt]) (fun _ h => h) State.Frame.refl) .seg (by decide)
@[simp] theorem State.finish?_thm (r : Option Ref) (status : Nat) (b : Bytes) : (s.finish? r status b).thm = s.thm :=
  (State.finish?_frame (l := [.spoke, .flt]) (fun _ h => h) State.Frame.refl) .thm (by decide)
@[simp] theorem State.finish?_sec (r : Option Ref) (status : Nat) (b : Bytes) : (s.finish? r status b).sec = s.sec :=
  (State.finish?_frame (l := [.spoke, .flt]) (fun _ h => h) State.Frame.refl) .sec (by decide)
@[simp] theorem State.finish?_dbg (r : Option Ref) (status : Nat) (b : Bytes) : (s.finish? r status b).dbg = s.dbg :=
  (State.finish?_frame (l := [.spoke, .flt]) (fun _ h => h) State.Frame.refl) .dbg (by decide)
@[simp] theorem State.finish?_rd (r : Option Ref) (status : Nat) (b : Bytes) (j : Nat) : (s.finish? r status b).rd j = s.rd j := by unfold State.rd; rw [State.finish?_regs]
@[simp] theorem State.finish?_on (r : Option Ref) (status : Nat) (b : Bytes) (j : Nat) : (s.finish? r status b).on j = s.on j := by unfold State.on; rw [State.finish?_rd]
@[simp] theorem State.finish?_zone (r : Option Ref) (status : Nat) (b : Bytes) (j : Nat) : (s.finish? r status b).zone j = s.zone j := by unfold State.zone; rw [State.finish?_zones]

/-! ### reject -/

@[simp] theorem State.reject_pending (ch tag op status : Nat) : (s.reject ch tag op status).pending = s.pending :=
  (State.reject_frame (l := [.spoke]) (fun _ h => h) State.Frame.refl) .pending (by decide)
@[simp] theorem State.reject_regs (ch tag op status : Nat) : (s.reject ch tag op status).regs = s.regs :=
  (State.reject_frame (l := [.spoke]) (fun _ h => h) State.Frame.refl) .regs (by decide)
@[simp] theorem State.reject_free (ch tag op status : Nat) : (s.reject ch tag op status).free = s.free :=
  (State.reject_frame (l := [.spoke]) (fun _ h => h) State.Frame.refl) .free (by decide)
@[simp] theorem State.reject_cad (ch tag op status : Nat) : (s.reject ch tag op status).cad = s.cad :=
  (State.reject_frame (l := [.spoke]) (fun _ h => h) State.Frame.refl) .cad (by decide)
@[simp] theorem State.reject_pwr (ch tag op status : Nat) : (s.reject ch tag op status).pwr = s.pwr :=
  (State.reject_frame (l := [.spoke]) (fun _ h => h) State.Frame.refl) .pwr (by decide)
@[simp] theorem State.reject_host (ch tag op status : Nat) : (s.reject ch tag op status).host = s.host :=
  (State.reject_frame (l := [.spoke]) (fun _ h => h) State.Frame.refl) .host (by decide)
@[simp] theorem State.reject_console (ch tag op status : Nat) : (s.reject ch tag op status).console = s.console :=
  (State.reject_frame (l := [.spoke]) (fun _ h => h) State.Frame.refl) .console (by decide)
@[simp] theorem State.reject_zones (ch tag op status : Nat) : (s.reject ch tag op status).zones = s.zones :=
  (State.reject_frame (l := [.spoke]) (fun _ h => h) State.Frame.refl) .zones (by decide)
@[simp] theorem State.reject_pwm (ch tag op status : Nat) : (s.reject ch tag op status).pwm = s.pwm :=
  (State.reject_frame (l := [.spoke]) (fun _ h => h) State.Frame.refl) .pwm (by decide)
@[simp] theorem State.reject_act (ch tag op status : Nat) : (s.reject ch tag op status).act = s.act :=
  (State.reject_frame (l := [.spoke]) (fun _ h => h) State.Frame.refl) .act (by decide)
@[simp] theorem State.reject_adc (ch tag op status : Nat) : (s.reject ch tag op status).adc = s.adc :=
  (State.reject_frame (l := [.spoke]) (fun _ h => h) State.Frame.refl) .adc (by decide)
@[simp] theorem State.reject_pad (ch tag op status : Nat) : (s.reject ch tag op status).pad = s.pad :=
  (State.reject_frame (l := [.spoke]) (fun _ h => h) State.Frame.refl) .pad (by decide)
@[simp] theorem State.reject_bus (ch tag op status : Nat) : (s.reject ch tag op status).bus = s.bus :=
  (State.reject_frame (l := [.spoke]) (fun _ h => h) State.Frame.refl) .bus (by decide)
@[simp] theorem State.reject_hay (ch tag op status : Nat) : (s.reject ch tag op status).hay = s.hay :=
  (State.reject_frame (l := [.spoke]) (fun _ h => h) State.Frame.refl) .hay (by decide)
@[simp] theorem State.reject_stb (ch tag op status : Nat) : (s.reject ch tag op status).stb = s.stb :=
  (State.reject_frame (l := [.spoke]) (fun _ h => h) State.Frame.refl) .stb (by decide)
@[simp] theorem State.reject_dsp (ch tag op status : Nat) : (s.reject ch tag op status).dsp = s.dsp :=
  (State.reject_frame (l := [.spoke]) (fun _ h => h) State.Frame.refl) .dsp (by decide)
@[simp] theorem State.reject_seg (ch tag op status : Nat) : (s.reject ch tag op status).seg = s.seg :=
  (State.reject_frame (l := [.spoke]) (fun _ h => h) State.Frame.refl) .seg (by decide)
@[simp] theorem State.reject_thm (ch tag op status : Nat) : (s.reject ch tag op status).thm = s.thm :=
  (State.reject_frame (l := [.spoke]) (fun _ h => h) State.Frame.refl) .thm (by decide)
@[simp] theorem State.reject_sec (ch tag op status : Nat) : (s.reject ch tag op status).sec = s.sec :=
  (State.reject_frame (l := [.spoke]) (fun _ h => h) State.Frame.refl) .sec (by decide)
@[simp] theorem State.reject_flt (ch tag op status : Nat) : (s.reject ch tag op status).flt = s.flt :=
  (State.reject_frame (l := [.spoke]) (fun _ h => h) State.Frame.refl) .flt (by decide)
@[simp] theorem State.reject_dbg (ch tag op status : Nat) : (s.reject ch tag op status).dbg = s.dbg :=
  (State.reject_frame (l := [.spoke]) (fun _ h => h) State.Frame.refl) .dbg (by decide)
@[simp] theorem State.reject_rd (ch tag op status : Nat) (j : Nat) : (s.reject ch tag op status).rd j = s.rd j := by unfold State.rd; rw [State.reject_regs]
@[simp] theorem State.reject_on (ch tag op status : Nat) (j : Nat) : (s.reject ch tag op status).on j = s.on j := by unfold State.on; rw [State.reject_rd]
@[simp] theorem State.reject_zone (ch tag op status : Nat) (j : Nat) : (s.reject ch tag op status).zone j = s.zone j := by unfold State.zone; rw [State.reject_zones]

/-! ### zonEntry -/

@[simp] theorem State.zonEntry_pending (k kind data value : Nat) : (s.zonEntry k kind data value).pending = s.pending :=
  (State.zonEntry_frame (l := [.spoke, .zones]) (fun _ h => h) State.Frame.refl) .pending (by decide)
@[simp] theorem State.zonEntry_regs (k kind data value : Nat) : (s.zonEntry k kind data value).regs = s.regs :=
  (State.zonEntry_frame (l := [.spoke, .zones]) (fun _ h => h) State.Frame.refl) .regs (by decide)
@[simp] theorem State.zonEntry_free (k kind data value : Nat) : (s.zonEntry k kind data value).free = s.free :=
  (State.zonEntry_frame (l := [.spoke, .zones]) (fun _ h => h) State.Frame.refl) .free (by decide)
@[simp] theorem State.zonEntry_cad (k kind data value : Nat) : (s.zonEntry k kind data value).cad = s.cad :=
  (State.zonEntry_frame (l := [.spoke, .zones]) (fun _ h => h) State.Frame.refl) .cad (by decide)
@[simp] theorem State.zonEntry_pwr (k kind data value : Nat) : (s.zonEntry k kind data value).pwr = s.pwr :=
  (State.zonEntry_frame (l := [.spoke, .zones]) (fun _ h => h) State.Frame.refl) .pwr (by decide)
@[simp] theorem State.zonEntry_host (k kind data value : Nat) : (s.zonEntry k kind data value).host = s.host :=
  (State.zonEntry_frame (l := [.spoke, .zones]) (fun _ h => h) State.Frame.refl) .host (by decide)
@[simp] theorem State.zonEntry_console (k kind data value : Nat) : (s.zonEntry k kind data value).console = s.console :=
  (State.zonEntry_frame (l := [.spoke, .zones]) (fun _ h => h) State.Frame.refl) .console (by decide)
@[simp] theorem State.zonEntry_pwm (k kind data value : Nat) : (s.zonEntry k kind data value).pwm = s.pwm :=
  (State.zonEntry_frame (l := [.spoke, .zones]) (fun _ h => h) State.Frame.refl) .pwm (by decide)
@[simp] theorem State.zonEntry_act (k kind data value : Nat) : (s.zonEntry k kind data value).act = s.act :=
  (State.zonEntry_frame (l := [.spoke, .zones]) (fun _ h => h) State.Frame.refl) .act (by decide)
@[simp] theorem State.zonEntry_adc (k kind data value : Nat) : (s.zonEntry k kind data value).adc = s.adc :=
  (State.zonEntry_frame (l := [.spoke, .zones]) (fun _ h => h) State.Frame.refl) .adc (by decide)
@[simp] theorem State.zonEntry_pad (k kind data value : Nat) : (s.zonEntry k kind data value).pad = s.pad :=
  (State.zonEntry_frame (l := [.spoke, .zones]) (fun _ h => h) State.Frame.refl) .pad (by decide)
@[simp] theorem State.zonEntry_bus (k kind data value : Nat) : (s.zonEntry k kind data value).bus = s.bus :=
  (State.zonEntry_frame (l := [.spoke, .zones]) (fun _ h => h) State.Frame.refl) .bus (by decide)
@[simp] theorem State.zonEntry_hay (k kind data value : Nat) : (s.zonEntry k kind data value).hay = s.hay :=
  (State.zonEntry_frame (l := [.spoke, .zones]) (fun _ h => h) State.Frame.refl) .hay (by decide)
@[simp] theorem State.zonEntry_stb (k kind data value : Nat) : (s.zonEntry k kind data value).stb = s.stb :=
  (State.zonEntry_frame (l := [.spoke, .zones]) (fun _ h => h) State.Frame.refl) .stb (by decide)
@[simp] theorem State.zonEntry_dsp (k kind data value : Nat) : (s.zonEntry k kind data value).dsp = s.dsp :=
  (State.zonEntry_frame (l := [.spoke, .zones]) (fun _ h => h) State.Frame.refl) .dsp (by decide)
@[simp] theorem State.zonEntry_seg (k kind data value : Nat) : (s.zonEntry k kind data value).seg = s.seg :=
  (State.zonEntry_frame (l := [.spoke, .zones]) (fun _ h => h) State.Frame.refl) .seg (by decide)
@[simp] theorem State.zonEntry_thm (k kind data value : Nat) : (s.zonEntry k kind data value).thm = s.thm :=
  (State.zonEntry_frame (l := [.spoke, .zones]) (fun _ h => h) State.Frame.refl) .thm (by decide)
@[simp] theorem State.zonEntry_sec (k kind data value : Nat) : (s.zonEntry k kind data value).sec = s.sec :=
  (State.zonEntry_frame (l := [.spoke, .zones]) (fun _ h => h) State.Frame.refl) .sec (by decide)
@[simp] theorem State.zonEntry_flt (k kind data value : Nat) : (s.zonEntry k kind data value).flt = s.flt :=
  (State.zonEntry_frame (l := [.spoke, .zones]) (fun _ h => h) State.Frame.refl) .flt (by decide)
@[simp] theorem State.zonEntry_dbg (k kind data value : Nat) : (s.zonEntry k kind data value).dbg = s.dbg :=
  (State.zonEntry_frame (l := [.spoke, .zones]) (fun _ h => h) State.Frame.refl) .dbg (by decide)
@[simp] theorem State.zonEntry_rd (k kind data value : Nat) (j : Nat) : (s.zonEntry k kind data value).rd j = s.rd j := by unfold State.rd; rw [State.zonEntry_regs]
@[simp] theorem State.zonEntry_on (k kind data value : Nat) (j : Nat) : (s.zonEntry k kind data value).on j = s.on j := by unfold State.on; rw [State.zonEntry_rd]

/-! ### wrs -/

@[simp] theorem State.wrs_pending (m : List (Nat × Nat)) : (s.wrs m).pending = s.pending :=
  (State.wrs_frame (l := [.regs]) (fun _ h => h) State.Frame.refl) .pending (by decide)
@[simp] theorem State.wrs_free (m : List (Nat × Nat)) : (s.wrs m).free = s.free :=
  (State.wrs_frame (l := [.regs]) (fun _ h => h) State.Frame.refl) .free (by decide)
@[simp] theorem State.wrs_cad (m : List (Nat × Nat)) : (s.wrs m).cad = s.cad :=
  (State.wrs_frame (l := [.regs]) (fun _ h => h) State.Frame.refl) .cad (by decide)
@[simp] theorem State.wrs_pwr (m : List (Nat × Nat)) : (s.wrs m).pwr = s.pwr :=
  (State.wrs_frame (l := [.regs]) (fun _ h => h) State.Frame.refl) .pwr (by decide)
@[simp] theorem State.wrs_spoke (m : List (Nat × Nat)) : (s.wrs m).spoke = s.spoke :=
  (State.wrs_frame (l := [.regs]) (fun _ h => h) State.Frame.refl) .spoke (by decide)
@[simp] theorem State.wrs_host (m : List (Nat × Nat)) : (s.wrs m).host = s.host :=
  (State.wrs_frame (l := [.regs]) (fun _ h => h) State.Frame.refl) .host (by decide)
@[simp] theorem State.wrs_console (m : List (Nat × Nat)) : (s.wrs m).console = s.console :=
  (State.wrs_frame (l := [.regs]) (fun _ h => h) State.Frame.refl) .console (by decide)
@[simp] theorem State.wrs_zones (m : List (Nat × Nat)) : (s.wrs m).zones = s.zones :=
  (State.wrs_frame (l := [.regs]) (fun _ h => h) State.Frame.refl) .zones (by decide)
@[simp] theorem State.wrs_pwm (m : List (Nat × Nat)) : (s.wrs m).pwm = s.pwm :=
  (State.wrs_frame (l := [.regs]) (fun _ h => h) State.Frame.refl) .pwm (by decide)
@[simp] theorem State.wrs_act (m : List (Nat × Nat)) : (s.wrs m).act = s.act :=
  (State.wrs_frame (l := [.regs]) (fun _ h => h) State.Frame.refl) .act (by decide)
@[simp] theorem State.wrs_adc (m : List (Nat × Nat)) : (s.wrs m).adc = s.adc :=
  (State.wrs_frame (l := [.regs]) (fun _ h => h) State.Frame.refl) .adc (by decide)
@[simp] theorem State.wrs_pad (m : List (Nat × Nat)) : (s.wrs m).pad = s.pad :=
  (State.wrs_frame (l := [.regs]) (fun _ h => h) State.Frame.refl) .pad (by decide)
@[simp] theorem State.wrs_bus (m : List (Nat × Nat)) : (s.wrs m).bus = s.bus :=
  (State.wrs_frame (l := [.regs]) (fun _ h => h) State.Frame.refl) .bus (by decide)
@[simp] theorem State.wrs_hay (m : List (Nat × Nat)) : (s.wrs m).hay = s.hay :=
  (State.wrs_frame (l := [.regs]) (fun _ h => h) State.Frame.refl) .hay (by decide)
@[simp] theorem State.wrs_stb (m : List (Nat × Nat)) : (s.wrs m).stb = s.stb :=
  (State.wrs_frame (l := [.regs]) (fun _ h => h) State.Frame.refl) .stb (by decide)
@[simp] theorem State.wrs_dsp (m : List (Nat × Nat)) : (s.wrs m).dsp = s.dsp :=
  (State.wrs_frame (l := [.regs]) (fun _ h => h) State.Frame.refl) .dsp (by decide)
@[simp] theorem State.wrs_seg (m : List (Nat × Nat)) : (s.wrs m).seg = s.seg :=
  (State.wrs_frame (l := [.regs]) (fun _ h => h) State.Frame.refl) .seg (by decide)
@[simp] theorem State.wrs_thm (m : List (Nat × Nat)) : (s.wrs m).thm = s.thm :=
  (State.wrs_frame (l := [.regs]) (fun _ h => h) State.Frame.refl) .thm (by decide)
@[simp] theorem State.wrs_sec (m : List (Nat × Nat)) : (s.wrs m).sec = s.sec :=
  (State.wrs_frame (l := [.regs]) (fun _ h => h) State.Frame.refl) .sec (by decide)
@[simp] theorem State.wrs_flt (m : List (Nat × Nat)) : (s.wrs m).flt = s.flt :=
  (State.wrs_frame (l := [.regs]) (fun _ h => h) State.Frame.refl) .flt (by decide)
@[simp] theorem State.wrs_dbg (m : List (Nat × Nat)) : (s.wrs m).dbg = s.dbg :=
  (State.wrs_frame (l := [.regs]) (fun _ h => h) State.Frame.refl) .dbg (by decide)
@[simp] theorem State.wrs_zone (m : List (Nat × Nat)) (j : Nat) : (s.wrs m).zone j = s.zone j := by unfold State.zone; rw [State.wrs_zones]

/-! ### wrB -/

@[simp] theorem State.wrB_pending (r : Nat) (b : Bool) : (s.wrB r b).pending = s.pending :=
  (State.wrB_frame (l := [.regs]) (fun _ h => h) State.Frame.refl) .pending (by decide)
@[simp] theorem State.wrB_free (r : Nat) (b : Bool) : (s.wrB r b).free = s.free :=
  (State.wrB_frame (l := [.regs]) (fun _ h => h) State.Frame.refl) .free (by decide)
@[simp] theorem State.wrB_cad (r : Nat) (b : Bool) : (s.wrB r b).cad = s.cad :=
  (State.wrB_frame (l := [.regs]) (fun _ h => h) State.Frame.refl) .cad (by decide)
@[simp] theorem State.wrB_pwr (r : Nat) (b : Bool) : (s.wrB r b).pwr = s.pwr :=
  (State.wrB_frame (l := [.regs]) (fun _ h => h) State.Frame.refl) .pwr (by decide)
@[simp] theorem State.wrB_spoke (r : Nat) (b : Bool) : (s.wrB r b).spoke = s.spoke :=
  (State.wrB_frame (l := [.regs]) (fun _ h => h) State.Frame.refl) .spoke (by decide)
@[simp] theorem State.wrB_host (r : Nat) (b : Bool) : (s.wrB r b).host = s.host :=
  (State.wrB_frame (l := [.regs]) (fun _ h => h) State.Frame.refl) .host (by decide)
@[simp] theorem State.wrB_console (r : Nat) (b : Bool) : (s.wrB r b).console = s.console :=
  (State.wrB_frame (l := [.regs]) (fun _ h => h) State.Frame.refl) .console (by decide)
@[simp] theorem State.wrB_zones (r : Nat) (b : Bool) : (s.wrB r b).zones = s.zones :=
  (State.wrB_frame (l := [.regs]) (fun _ h => h) State.Frame.refl) .zones (by decide)
@[simp] theorem State.wrB_pwm (r : Nat) (b : Bool) : (s.wrB r b).pwm = s.pwm :=
  (State.wrB_frame (l := [.regs]) (fun _ h => h) State.Frame.refl) .pwm (by decide)
@[simp] theorem State.wrB_act (r : Nat) (b : Bool) : (s.wrB r b).act = s.act :=
  (State.wrB_frame (l := [.regs]) (fun _ h => h) State.Frame.refl) .act (by decide)
@[simp] theorem State.wrB_adc (r : Nat) (b : Bool) : (s.wrB r b).adc = s.adc :=
  (State.wrB_frame (l := [.regs]) (fun _ h => h) State.Frame.refl) .adc (by decide)
@[simp] theorem State.wrB_pad (r : Nat) (b : Bool) : (s.wrB r b).pad = s.pad :=
  (State.wrB_frame (l := [.regs]) (fun _ h => h) State.Frame.refl) .pad (by decide)
@[simp] theorem State.wrB_bus (r : Nat) (b : Bool) : (s.wrB r b).bus = s.bus :=
  (State.wrB_frame (l := [.regs]) (fun _ h => h) State.Frame.refl) .bus (by decide)
@[simp] theorem State.wrB_hay (r : Nat) (b : Bool) : (s.wrB r b).hay = s.hay :=
  (State.wrB_frame (l := [.regs]) (fun _ h => h) State.Frame.refl) .hay (by decide)
@[simp] theorem State.wrB_stb (r : Nat) (b : Bool) : (s.wrB r b).stb = s.stb :=
  (State.wrB_frame (l := [.regs]) (fun _ h => h) State.Frame.refl) .stb (by decide)
@[simp] theorem State.wrB_dsp (r : Nat) (b : Bool) : (s.wrB r b).dsp = s.dsp :=
  (State.wrB_frame (l := [.regs]) (fun _ h => h) State.Frame.refl) .dsp (by decide)
@[simp] theorem State.wrB_seg (r : Nat) (b : Bool) : (s.wrB r b).seg = s.seg :=
  (State.wrB_frame (l := [.regs]) (fun _ h => h) State.Frame.refl) .seg (by decide)
@[simp] theorem State.wrB_thm (r : Nat) (b : Bool) : (s.wrB r b).thm = s.thm :=
  (State.wrB_frame (l := [.regs]) (fun _ h => h) State.Frame.refl) .thm (by decide)
@[simp] theorem State.wrB_sec (r : Nat) (b : Bool) : (s.wrB r b).sec = s.sec :=
  (State.wrB_frame (l := [.regs]) (fun _ h => h) State.Frame.refl) .sec (by decide)
@[simp] theorem State.wrB_flt (r : Nat) (b : Bool) : (s.wrB r b).flt = s.flt :=
  (State.wrB_frame (l := [.regs]) (fun _ h => h) State.Frame.refl) .flt (by decide)
@[simp] theorem State.wrB_dbg (r : Nat) (b : Bool) : (s.wrB r b).dbg = s.dbg :=
  (State.wrB_frame (l := [.regs]) (fun _ h => h) State.Frame.refl) .dbg (by decide)
@[simp] theorem State.wrB_zone (r : Nat) (b : Bool) (j : Nat) : (s.wrB r b).zone j = s.zone j := by unfold State.zone; rw [State.wrB_zones]

/-! ### count -/

@[simp] theorem State.count_pending (r top k : Nat) : (s.count r top k).pending = s.pending :=
  (State.count_frame (l := [.regs]) (fun _ h => h) State.Frame.refl) .pending (by decide)
@[simp] theorem State.count_free (r top k : Nat) : (s.count r top k).free = s.free :=
  (State.count_frame (l := [.regs]) (fun _ h => h) State.Frame.refl) .free (by decide)
@[simp] theorem State.count_cad (r top k : Nat) : (s.count r top k).cad = s.cad :=
  (State.count_frame (l := [.regs]) (fun _ h => h) State.Frame.refl) .cad (by decide)
@[simp] theorem State.count_pwr (r top k : Nat) : (s.count r top k).pwr = s.pwr :=
  (State.count_frame (l := [.regs]) (fun _ h => h) State.Frame.refl) .pwr (by decide)
@[simp] theorem State.count_spoke (r top k : Nat) : (s.count r top k).spoke = s.spoke :=
  (State.count_frame (l := [.regs]) (fun _ h => h) State.Frame.refl) .spoke (by decide)
@[simp] theorem State.count_host (r top k : Nat) : (s.count r top k).host = s.host :=
  (State.count_frame (l := [.regs]) (fun _ h => h) State.Frame.refl) .host (by decide)
@[simp] theorem State.count_console (r top k : Nat) : (s.count r top k).console = s.console :=
  (State.count_frame (l := [.regs]) (fun _ h => h) State.Frame.refl) .console (by decide)
@[simp] theorem State.count_zones (r top k : Nat) : (s.count r top k).zones = s.zones :=
  (State.count_frame (l := [.regs]) (fun _ h => h) State.Frame.refl) .zones (by decide)
@[simp] theorem State.count_pwm (r top k : Nat) : (s.count r top k).pwm = s.pwm :=
  (State.count_frame (l := [.regs]) (fun _ h => h) State.Frame.refl) .pwm (by decide)
@[simp] theorem State.count_act (r top k : Nat) : (s.count r top k).act = s.act :=
  (State.count_frame (l := [.regs]) (fun _ h => h) State.Frame.refl) .act (by decide)
@[simp] theorem State.count_adc (r top k : Nat) : (s.count r top k).adc = s.adc :=
  (State.count_frame (l := [.regs]) (fun _ h => h) State.Frame.refl) .adc (by decide)
@[simp] theorem State.count_pad (r top k : Nat) : (s.count r top k).pad = s.pad :=
  (State.count_frame (l := [.regs]) (fun _ h => h) State.Frame.refl) .pad (by decide)
@[simp] theorem State.count_bus (r top k : Nat) : (s.count r top k).bus = s.bus :=
  (State.count_frame (l := [.regs]) (fun _ h => h) State.Frame.refl) .bus (by decide)
@[simp] theorem State.count_hay (r top k : Nat) : (s.count r top k).hay = s.hay :=
  (State.count_frame (l := [.regs]) (fun _ h => h) State.Frame.refl) .hay (by decide)
@[simp] theorem State.count_stb (r top k : Nat) : (s.count r top k).stb = s.stb :=
  (State.count_frame (l := [.regs]) (fun _ h => h) State.Frame.refl) .stb (by decide)
@[simp] theorem State.count_dsp (r top k : Nat) : (s.count r top k).dsp = s.dsp :=
  (State.count_frame (l := [.regs]) (fun _ h => h) State.Frame.refl) .dsp (by decide)
@[simp] theorem State.count_seg (r top k : Nat) : (s.count r top k).seg = s.seg :=
  (State.count_frame (l := [.regs]) (fun _ h => h) State.Frame.refl) .seg (by decide)
@[simp] theorem State.count_thm (r top k : Nat) : (s.count r top k).thm = s.thm :=
  (State.count_frame (l := [.regs]) (fun _ h => h) State.Frame.refl) .thm (by decide)
@[simp] theorem State.count_sec (r top k : Nat) : (s.count r top k).sec = s.sec :=
  (State.count_frame (l := [.regs]) (fun _ h => h) State.Frame.refl) .sec (by decide)
@[simp] theorem State.count_flt (r top k : Nat) : (s.count r top k).flt = s.flt :=
  (State.count_frame (l := [.regs]) (fun _ h => h) State.Frame.refl) .flt (by decide)
@[simp] theorem State.count_dbg (r top k : Nat) : (s.count r top k).dbg = s.dbg :=
  (State.count_frame (l := [.regs]) (fun _ h => h) State.Frame.refl) .dbg (by decide)
@[simp] theorem State.count_zone (r top k : Nat) (j : Nat) : (s.count r top k).zone j = s.zone j := by unfold State.zone; rw [State.count_zones]

/-! ### wrap -/

@[simp] theorem State.wrap_pending (r modulus k : Nat) : (s.wrap r modulus k).pending = s.pending :=
  (State.wrap_frame (l := [.regs]) (fun _ h => h) State.Frame.refl) .pending (by decide)
@[simp] theorem State.wrap_free (r modulus k : Nat) : (s.wrap r modulus k).free = s.free :=
  (State.wrap_frame (l := [.regs]) (fun _ h => h) State.Frame.refl) .free (by decide)
@[simp] theorem State.wrap_cad (r modulus k : Nat) : (s.wrap r modulus k).cad = s.cad :=
  (State.wrap_frame (l := [.regs]) (fun _ h => h) State.Frame.refl) .cad (by decide)
@[simp] theorem State.wrap_pwr (r modulus k : Nat) : (s.wrap r modulus k).pwr = s.pwr :=
  (State.wrap_frame (l := [.regs]) (fun _ h => h) State.Frame.refl) .pwr (by decide)
@[simp] theorem State.wrap_spoke (r modulus k : Nat) : (s.wrap r modulus k).spoke = s.spoke :=
  (State.wrap_frame (l := [.regs]) (fun _ h => h) State.Frame.refl) .spoke (by decide)
@[simp] theorem State.wrap_host (r modulus k : Nat) : (s.wrap r modulus k).host = s.host :=
  (State.wrap_frame (l := [.regs]) (fun _ h => h) State.Frame.refl) .host (by decide)
@[simp] theorem State.wrap_console (r modulus k : Nat) : (s.wrap r modulus k).console = s.console :=
  (State.wrap_frame (l := [.regs]) (fun _ h => h) State.Frame.refl) .console (by decide)
@[simp] theorem State.wrap_zones (r modulus k : Nat) : (s.wrap r modulus k).zones = s.zones :=
  (State.wrap_frame (l := [.regs]) (fun _ h => h) State.Frame.refl) .zones (by decide)
@[simp] theorem State.wrap_pwm (r modulus k : Nat) : (s.wrap r modulus k).pwm = s.pwm :=
  (State.wrap_frame (l := [.regs]) (fun _ h => h) State.Frame.refl) .pwm (by decide)
@[simp] theorem State.wrap_act (r modulus k : Nat) : (s.wrap r modulus k).act = s.act :=
  (State.wrap_frame (l := [.regs]) (fun _ h => h) State.Frame.refl) .act (by decide)
@[simp] theorem State.wrap_adc (r modulus k : Nat) : (s.wrap r modulus k).adc = s.adc :=
  (State.wrap_frame (l := [.regs]) (fun _ h => h) State.Frame.refl) .adc (by decide)
@[simp] theorem State.wrap_pad (r modulus k : Nat) : (s.wrap r modulus k).pad = s.pad :=
  (State.wrap_frame (l := [.regs]) (fun _ h => h) State.Frame.refl) .pad (by decide)
@[simp] theorem State.wrap_bus (r modulus k : Nat) : (s.wrap r modulus k).bus = s.bus :=
  (State.wrap_frame (l := [.regs]) (fun _ h => h) State.Frame.refl) .bus (by decide)
@[simp] theorem State.wrap_hay (r modulus k : Nat) : (s.wrap r modulus k).hay = s.hay :=
  (State.wrap_frame (l := [.regs]) (fun _ h => h) State.Frame.refl) .hay (by decide)
@[simp] theorem State.wrap_stb (r modulus k : Nat) : (s.wrap r modulus k).stb = s.stb :=
  (State.wrap_frame (l := [.regs]) (fun _ h => h) State.Frame.refl) .stb (by decide)
@[simp] theorem State.wrap_dsp (r modulus k : Nat) : (s.wrap r modulus k).dsp = s.dsp :=
  (State.wrap_frame (l := [.regs]) (fun _ h => h) State.Frame.refl) .dsp (by decide)
@[simp] theorem State.wrap_seg (r modulus k : Nat) : (s.wrap r modulus k).seg = s.seg :=
  (State.wrap_frame (l := [.regs]) (fun _ h => h) State.Frame.refl) .seg (by decide)
@[simp] theorem State.wrap_thm (r modulus k : Nat) : (s.wrap r modulus k).thm = s.thm :=
  (State.wrap_frame (l := [.regs]) (fun _ h => h) State.Frame.refl) .thm (by decide)
@[simp] theorem State.wrap_sec (r modulus k : Nat) : (s.wrap r modulus k).sec = s.sec :=
  (State.wrap_frame (l := [.regs]) (fun _ h => h) State.Frame.refl) .sec (by decide)
@[simp] theorem State.wrap_flt (r modulus k : Nat) : (s.wrap r modulus k).flt = s.flt :=
  (State.wrap_frame (l := [.regs]) (fun _ h => h) State.Frame.refl) .flt (by decide)
@[simp] theorem State.wrap_dbg (r modulus k : Nat) : (s.wrap r modulus k).dbg = s.dbg :=
  (State.wrap_frame (l := [.regs]) (fun _ h => h) State.Frame.refl) .dbg (by decide)
@[simp] theorem State.wrap_zone (r modulus k : Nat) (j : Nat) : (s.wrap r modulus k).zone j = s.zone j := by unfold State.zone; rw [State.wrap_zones]

end Sys2Proof.Machine
end

