-- ==== Sys2Proof/Laws/Commands.lean ====
section
/-!
SUPPORT. Sys2Proof/Laws/Commands.lean: how a command starts and how its replies go out, when nothing stands in its way.
-/

namespace Sys2Proof.Machine

variable {s u : State} {c : Cmd} {op : Nat}

theorem checked_ok {r : Ref} {l : List (Bool × Nat)} {k : State → State} (h : firstBad l = stOk) : s.checked r l k = k s :=
  if_pos h

theorem begin_ref : (s.begin c op).1 = s.refOf c op := rfl

/-- A fresh tag comes into use behind the others. -/
theorem startUse_fresh {tag : Nat} {payload : Bytes} {loud : Bool} {l : List Use} (h : ∀ u ∈ l, u.tag ≠ tag) :
    startUse op tag payload loud l = l ++ [{ tag := tag, op := op, payload := payload, started := true, loud := loud }] := by
  unfold startUse
  rw [if_neg]
  simpa using h

/-- The channel of a command that has just been started. -/
theorem begin_chan (h : s.Ready c) : (s.begin c op).2.chan c.ch =
    { s.chan c.ch with uses := (s.chan c.ch).uses ++
      [{ tag := c.tag, op := op, payload := c.payload, started := true, loud := s.dbg.loud }] } := by
  unfold State.begin
  dsimp only
  rw [State.modChan_chan, if_pos rfl, startUse_fresh h.tag]

theorem begin_chan_other {k : Nat} (h : k ≠ c.ch.val) : (s.begin c op).2.chan k = s.chan k := by
  unfold State.begin
  dsimp only
  rw [State.modChan_chan, if_neg (Ne.symm h)]

theorem chan_congr {a b : State} (h : a.spoke = b.spoke) (k : Nat) : a.chan k = b.chan k := by
  unfold State.chan
  rw [h]

/-- A final reply goes straight out, and its tag is free again. -/
theorem finish_answers {status : Nat} {extra : Bytes} (h : s.Ready c) (e : u.spoke = (s.begin c op).2.spoke) (f : u.flt.recov = []) :
    s.Answers c op status extra (u.finish (s.refOf c op) status extra) := by
  have hc := (chan_congr e c.ch).trans (begin_chan h)
  have ho : ∀ k, k ≠ c.ch.val → u.chan k = s.chan k := fun k hk => (chan_congr e k).trans (begin_chan_other hk)
  have he : ¬ (u.chan (s.refOf c op).ch).epoch ≠ (s.refOf c op).epoch := by
    show ¬ (u.chan c.ch).epoch ≠ (s.chan c.ch).epoch
    rw [hc]; exact fun h => h rfl
  have ht : ¬ u.touchedBy (s.refOf c op) = true := by
    unfold State.touchedBy
    rw [f]; exact Bool.false_ne_true
  unfold State.finish State.postFinal
  rw [if_neg he, if_neg ht]
  have hw := h.waits
  have hp : postWaits c.ch ((u.chan c.ch).waits ++ [finalPkt c op status extra]) (u.chan c.ch) =
      { u.chan c.ch with
        outq := (s.chan c.ch).outq ++ [finalPkt c op status extra]
        uses := (s.chan c.ch).uses, waits := [] } := by
    rw [hc, hw]
    have hn : outCount { s.chan c.ch with uses := (s.chan c.ch).uses ++
        [{ tag := c.tag, op := op, payload := c.payload, started := true, loud := s.dbg.loud }], waits := [] } .final < 16 := h.final
    have hf : ((s.chan c.ch).uses ++ [({ tag := c.tag, op := op, payload := c.payload, started := true, loud := s.dbg.loud } : Use)]).filter
        (fun u => u.tag != (finalPkt c op status extra).tag) = (s.chan c.ch).uses := by
      rw [List.filter_append, List.filter_eq_self.mpr fun x hx => by simpa [finalPkt] using h.tag x hx]
      simp [finalPkt]
    simp only [List.nil_append, postWaits]
    rw [if_pos (by simpa [outCount] using h.final)]
    unfold post tagOut
    simp only [h.bind, hf]
    cases decide (u8 (finalPkt c op status extra).payload 0 ≠ stAuthFail) <;> simp
  refine ⟨⟨?_, fun k hk => ?_⟩, ?_⟩
  · show ((u.modChan c.ch fun x => postWaits c.ch (x.waits ++ [finalPkt c op status extra]) x).chan c.ch).outq = _
    rw [State.modChan_chan, if_pos rfl, hp]
  · show (u.modChan c.ch _).chan k = _
    rw [State.modChan_chan, if_neg (Ne.symm hk), ho k hk]
  · show ((u.modChan c.ch fun x => postWaits c.ch (x.waits ++ [finalPkt c op status extra]) x).chan c.ch).uses = _
    rw [State.modChan_chan, if_pos rfl, hp]

theorem ok_answers {extra : Bytes} (h : s.Ready c) (e : u.spoke = (s.begin c op).2.spoke) (f : u.flt.recov = []) :
    s.Answers c op stOk extra (u.ok (s.refOf c op) extra) := finish_answers h e f

end Sys2Proof.Machine
end

