-- ==== Sys2Proof/Laws/Effects.lean ====
section
/-!
SUPPORT. Sys2Proof/Laws/Effects.lean: how the predicates of Safety.lean build up along the shared operations.
-/

namespace Sys2Proof.Machine

variable {s t u : State} {c : Cmd} {op : Nat}

/-! ### Reads of a state given part by part -/

section
variable {x0 : List Instr} {x1 : Map Nat} {x2 : Nat} {x3 : Cad} {x4 : Pwr} {x5 : Spoke} {x6 : HostIf} {x7 : Console} {x8 : Map Zone}
  {x9 : Pwm} {x10 : Act} {x11 : Adc} {x12 : Pad} {x13 : Bus} {x14 : Hay} {x15 : Stb} {x16 : Dsp} {x17 : Seg} {x18 : Thm} {x19 : Sec}
  {x20 : Flt} {x21 : Dbg}

@[simp] theorem State.rd_mk (k : Nat) : (State.mk x0 x1 x2 x3 x4 x5 x6 x7 x8 x9 x10 x11 x12 x13 x14 x15 x16 x17 x18 x19 x20 x21).rd k =
    (mget? x1 k).getD (resetOf k) := rfl
@[simp] theorem State.on_mk (k : Nat) : (State.mk x0 x1 x2 x3 x4 x5 x6 x7 x8 x9 x10 x11 x12 x13 x14 x15 x16 x17 x18 x19 x20 x21).on k =
    ((mget? x1 k).getD (resetOf k) == 1) := rfl
@[simp] theorem State.chan_mk (k : Nat) : (State.mk x0 x1 x2 x3 x4 x5 x6 x7 x8 x9 x10 x11 x12 x13 x14 x15 x16 x17 x18 x19 x20 x21).chan k =
    mget {} x5.chans k := rfl
@[simp] theorem State.zone_mk (k : Nat) : (State.mk x0 x1 x2 x3 x4 x5 x6 x7 x8 x9 x10 x11 x12 x13 x14 x15 x16 x17 x18 x19 x20 x21).zone k =
    mget {} x8 k := rfl
@[simp] theorem State.log_mk (k : Nat) : (State.mk x0 x1 x2 x3 x4 x5 x6 x7 x8 x9 x10 x11 x12 x13 x14 x15 x16 x17 x18 x19 x20 x21).log k =
    mget {} x14.logs k := rfl
end

@[simp] theorem State.regs_rd (s : State) (k : Nat) : (mget? s.regs k).getD (resetOf k) = s.rd k := rfl
@[simp] theorem State.chans_chan (s : State) (k : Nat) : mget {} s.spoke.chans k = s.chan k := rfl
@[simp] theorem State.zones_zone (s : State) (k : Nat) : mget {} s.zones k = s.zone k := rfl
@[simp] theorem State.logs_log (s : State) (k : Nat) : mget {} s.hay.logs k = s.log k := rfl
@[simp] theorem State.on_wr (s : State) (k j v : Nat) : (s.wr k v).on j = if k = j then v == 1 else s.on j := by
  unfold State.on; rw [rd_wr]; split <;> rfl

/-! ### Fields -/

theorem State.Fields.refl : State.Fields [] s s := fun _ => rfl

theorem State.Fields.of_regs {l : Map Nat} (h : State.Fields l s u) (e : t.regs = u.regs) : State.Fields l s t := fun k => by
  rw [← h k]; unfold State.rd; rw [e]

theorem State.Fields.wr {l : Map Nat} {k v : Nat} (h : State.Fields l s u) : State.Fields ((k, v) :: l) s (u.wr k v) := fun j => by
  rw [rd_wr]
  by_cases hk : k = j
  · simp [mget?, hk]
  · simp [mget?, hk, h j]

theorem State.Fields.wrs {l : Map Nat} : ∀ {w : Map Nat} {u : State}, State.Fields l s u → State.Fields (w.reverse ++ l) s (u.wrs w)
  | [], _, h => h
  | e :: w, u, h => by
    have := State.Fields.wrs (w := w) (h.wr (k := e.1) (v := e.2))
    simpa [State.wrs] using this

/-- Every field that a hub reset does not keep reads its Reset value after it, but for the recall that is due. -/
theorem State.domainReset_rd {s : State} {b : Bool} {k : Nat} (h : keptAtReset k = false) (h1 : R.HAY_STAT_RECALL ≠ k)
    (h2 : R.PWR_KSTAT_PENDING ≠ k) : (s.domainReset b).rd k = resetOf k := by
  have key : ∀ z y : State, z.regs = y.regs.filter (fun e => keptAtReset e.1) →
      (z.wrs [(R.HAY_STAT_RECALL, 1), (R.PWR_KSTAT_PENDING, 0)]).rd k = resetOf k := fun z y e => by
    rw [State.wrs_cons, State.wrs_cons]
    show ((z.wr R.HAY_STAT_RECALL 1).wr R.PWR_KSTAT_PENDING 0).rd k = _
    rw [rd_wr, if_neg h2, rd_wr, if_neg h1]
    unfold State.rd
    rw [e, mget?_filter, h]
    rfl
  unfold State.domainReset
  extract_lets -merge -underBinder +onlyGivenNames p y1 y2 y3 y4
  clear_value y4
  exact key _ y4 rfl

/-! ### Events -/

/-- Raising an event that a channel does not receive leaves it as it is. -/
theorem raiseOn_unwanted {ch code : Nat} {b : Bytes} {x : Channel} (h : wants ch code x = false) : raiseOn ch code b x = x := by
  unfold raiseOn; simp [h]

/-- What an event does to each channel. -/
theorem State.event_raises (s : State) (code : Nat) (b : Bytes) : s.Raises code b (s.event code b) := by
  have key : ∀ (l : List Nat) (s : State), l.Nodup → ∀ ch, (s.each l fun s ch =>
      if wants ch code (s.chan ch) then s.modChan ch (raiseOn ch code b) else s).chan ch =
      if ch ∈ l then raiseOn ch code b (s.chan ch) else s.chan ch := by
    intro l
    induction l with
    | nil => intro s _ ch; simp [State.each]
    | cons a l ih =>
      intro s hn ch
      have hn' := List.nodup_cons.mp hn
      show (State.each _ l _).chan ch = _
      rw [ih _ hn'.2]
      have hstep : ∀ ch, (if wants a code (s.chan a) then s.modChan a (raiseOn a code b) else s).chan ch =
          if a = ch then raiseOn a code b (s.chan a) else s.chan ch := by
        intro ch
        split
        · rw [State.modChan_chan]
        · rename_i hw
          by_cases h : a = ch
          · subst h; rw [if_pos rfl, raiseOn_unwanted (by simpa using hw)]
          · rw [if_neg h]
      rw [hstep]
      by_cases h : a = ch
      · subst h; simp [hn'.1]
      · rw [if_neg h]
        have : (ch ∈ a :: l) ↔ ch ∈ l := by simp [Ne.symm h]
        simp only [this]
  intro ch
  unfold State.event
  rw [key (List.range 32) s List.nodup_range ch]
  simp only [List.mem_range]

theorem State.note_raises (s : State) (code kind unit data : Nat) :
    s.Raises code (le 1 kind ++ le 1 unit ++ le 2 data) (s.note code kind unit data) := State.event_raises _ _ _

end Sys2Proof.Machine
end

