-- ==== Sys2Proof/Tests/Slice0.lean ====
section
/-!
SUPPORT. Sys2Proof/Tests/Slice0.lean: the model's own tests. Expected values are the spec's worked cases. The last part shows, for
every obligation, states and operands that meet its premises together, clause by clause.
-/

namespace Sys2Proof.Tests

open Sys2Proof.Machine

set_option Elab.async false

/-- A hub that runs: booted, its table walked, no force and no reset in force. -/
def st : State :=
  { State.reset with
    pwr := { State.reset.pwr with held := false, booted := true, force := [] }
    cad := { State.reset.cad with now := 1000, walking := true, refOn := true, active := { base := .dflt }, shadow := { base := .dflt }, source := { base := .dflt } } }
/-- A header of a program image of one operation (Table 11-5). -/
def hdr : Bytes :=
  let b := [0x46, 0x41, 0x4C, 0x31, 1, 1] ++ le 2 1 ++ le 4 0 ++ le 2 0 ++ le 2 0 ++ le 4 1180 ++ le 2 0 ++ le 2 0 ++ le 4 7 ++ List.replicate 28 0 ++ le 4 (crc32 [0, 0, 0, 0xF0])
  b ++ le 4 (crc32 b)

/-! ### WellFormed: an ill-formed term for each check -/

theorem test_wf_payload : (Instr.ping ⟨0, 0, List.replicate 4096 0⟩).wf = false := by decide +kernel
theorem test_wf_payload_last : (Instr.ping ⟨0, 0, List.replicate 4095 0⟩).wf = true := by decide +kernel
theorem test_wf_slot_rings : (Instr.slotEdge { rings := List.replicate 9 0 }).wf = false := by decide +kernel
theorem test_wf_slot_tach : (Instr.slotEdge { tach := List.replicate 9 0 }).wf = false := by decide +kernel
theorem test_wf_boot : (Instr.boot false (List.replicate 9 0)).wf = false := by decide +kernel
theorem test_wf_fw2Resume : (Instr.fw2Resume 0 (List.replicate 9 0)).wf = false := by decide +kernel
theorem test_wf_frameReceive : (Instr.frameReceive 0 (List.replicate 8193 0)).wf = false := by decide +kernel
theorem test_wf_spiWrite : (Instr.spiWrite 65536 []).wf = false := by decide +kernel
theorem test_wf_spiRead : (Instr.spiRead 65536 0).wf = false := by decide +kernel
theorem test_wf_delayLine : (Instr.delayLineCalDone (List.replicate 13 0)).wf = false := by decide +kernel

/-! ### Words, codes and checks the spec works out -/

/-- R69, 03_spoke_packets.md: CRC-16 of "123456789". -/
theorem test_crc16 : crc16 [0x31, 0x32, 0x33, 0x34, 0x35, 0x36, 0x37, 0x38, 0x39] = 0x29B1 := by decide +kernel
/-- R232, 08_paddock.md: CRC-32 of "123456789". -/
theorem test_crc32 : crc32 [0x31, 0x32, 0x33, 0x34, 0x35, 0x36, 0x37, 0x38, 0x39] = 0xCBF43926 := by decide +kernel
/-- Worked case of 03_spoke_packets.md: the host's frame. -/
theorem test_frame_command : crc16 (headerOf false 0 5 0x08 2 ++ [0x01, 0x01]) = 0xF9B9 := by decide +kernel
/-- Worked case of 03_spoke_packets.md: the hub's reply. -/
theorem test_frame_reply : frameBytes 0 ⟨.final, 5, replyOpcode 0x08, [0x00, 0x01, 0x01, 0x02, 0x00, 0x08, 0x00], []⟩ =
    [0x5A, 0x01, 0x00, 0x05, 0x88, 0x07, 0x00, 0x00, 0x01, 0x01, 0x02, 0x00, 0x08, 0x00, 0x70, 0x85] := by decide +kernel
/-- R9, 00_scope.md. -/
theorem test_replyOpcode : replyOpcode 0x12 = 0x92 := by decide
/-- Worked case of 01_cadence.md: D, and the ticks it adjusts. -/
theorem test_trim : trim true 24576590 (-6) = 584 ∧ tickAdjust 584 0 = 0 ∧ tickAdjust 584 1 = 1 := by decide +kernel
/-- Worked case of 02_power_reset.md: the reserve at 12.0 V. -/
theorem test_reserve : (State.reset.wrs [(R.PWR_HOLD_CFG_CAP, 220), (R.PWR_HOLD_CFG_VFLOOR, 7000), (R.PWR_HOLD_CFG_DIV, 80)]
    |> fun s => (s.gaugeSample 0xC80).gaugeSample 0xC80 |>.gaugeSample 0xC80 |>.gaugeSample 0xC80 |>.reserve) = 10450 := by decide +kernel
/-- Worked case of 02_power_reset.md: the lowest of the last four samples counts. -/
theorem test_reserve_low : (State.reset.wrs [(R.PWR_HOLD_CFG_CAP, 220), (R.PWR_HOLD_CFG_VFLOOR, 7000), (R.PWR_HOLD_CFG_DIV, 80)]
    |> fun s => (s.gaugeSample 0xC80).gaugeSample 0xC80 |>.gaugeSample 0xC80 |>.gaugeSample 0xB40 |>.reserve) = 7440 := by decide +kernel
/-- Worked case of 04_zones_loops.md: the filter of zone 7. -/
theorem test_filter : filterStep (some 0x5280) 0x530 2 = 0x52A0 := by decide +kernel
/-- Worked case of 04_zones_loops.md: the PI step of zone 7. -/
theorem test_pi : piStep 22 0x0400 0x0800 (1800 * 65536) = (1800 * 65536 + 45056, false, 1889) := by decide +kernel
/-- Worked case of 08_paddock.md (R225): heartbeat responses. -/
theorem test_heartbeat : heartbeat 0x1234 = 0x1CBE := by decide +kernel
/-- 11_stable_engine.md: the fields of an encoded ACT and STORE. -/
theorem test_op_fields : bits 0x54D90001 28 4 = 5 ∧ bits 0x54D90001 25 3 = 2 ∧ bits 0x54D90001 22 3 = 3 ∧ opN 0x54D90001 = 1 ∧
    bits 0x76200001 28 4 = 7 ∧ bits 0x76200001 25 3 = 3 ∧ opRing 0x76200001 = 1 ∧ opN 0x76200001 = 1 := by decide +kernel
/-- Table 18-2: both legs of a bridge high are driven low. -/
theorem test_legs : legsDriven 0xF6 = 0x06 := by decide +kernel
/-- Worked case of 11_stable_engine.md: ACT 0x54D90001 on the last layer's sums. -/
theorem test_act : activate 3 4 (-7000) = 314 ∧ activate 3 4 1843 = 1250 := by decide +kernel
/-- Worked case of 13_panel_matrix.md: the overdrive table it states, and the table at Reset. -/
theorem test_overdrive : overdrive (fun i j => if (i, j) = (2, 4) then 168 else if (i, j) = (3, 4) then 160 else if (i, j) = (2, 5) then 204 else
    if (i, j) = (3, 5) then 196 else 36 * j) 20 40 = 46 ∧ overdrive (fun _ j => 36 * j) 20 40 = 40 := by decide +kernel

/-! ### One step -/

/-- PING (03_spoke_packets.md): answers with its own four bytes. -/
theorem test_ping : (match exec (.ping ⟨1, 5, [1, 2, 3, 4]⟩) st with
    | .next t => (t.chan 1).outq == [⟨.final, 5, replyOpcode 0x05, [0, 1, 2, 3, 4], []⟩]
    | _ => false) = true := by decide +kernel
/-- Worked case of 03_spoke_packets.md: ATTR_READ of CAD_STAT with only OVR set. -/
theorem test_attrRead : (match exec (.attrRead ⟨0, 5, [0x01, 0x01]⟩) (st.wr R.CAD_STAT_OVR 1) with
    | .next t => (t.chan 0).outq == [⟨.final, 5, 0x88, [0x00, 0x01, 0x01, 0x02, 0x00, 0x08, 0x00], []⟩]
    | _ => false) = true := by decide +kernel
/-- R92: an attribute that does not exist. -/
theorem test_attrRead_none : (match exec (.attrRead ⟨0, 5, [0xFF, 0x0F]⟩) st with
    | .next t => (t.chan 0).outq.map (·.payload.take 1) == [le 1 stBadParam]
    | _ => false) = true := by decide +kernel
/-- R445: IDCODE. -/
theorem test_idcode : (match exec .idcode st with
    | .next t => t.dbg.dr == 0x14864A3D
    | _ => false) = true := by decide +kernel
/-- Log entry 1: an empty queue idles; a command that waits is taken from the front. -/
theorem test_step : step st = .next st ∧ (match step { st with pending := [.tapReset, .idcode] } with
    | .next t => t.pending == [Instr.idcode]
    | _ => false) = true := ⟨rfl, by decide +kernel⟩

/-! ### The premises of the obligations hold together -/

theorem ready (s : State) (c : Cmd) (h : (∀ u ∈ (s.chan c.ch).uses, u.tag ≠ c.tag.val) ∧ outCount (s.chan c.ch) .final < 16 ∧
    outCount (s.chan c.ch) .shared < 15 ∧ (s.chan c.ch).waits = [] ∧ (s.chan c.ch).bind = none ∧ s.flt.recov = []) : s.Ready c :=
  ⟨h.1, h.2.1, h.2.2.1, h.2.2.2.1, h.2.2.2.2.1, h.2.2.2.2.2⟩
theorem inv (s : State) (h : regsWf s.regs = true ∧ (∀ e ∈ s.spoke.chans, outCount e.2 .final ≤ 16 ∧ outCount e.2 .shared ≤ 15 ∧ outCount e.2 .lost ≤ 1 ∧ ∀ p ∈ e.2.waits, p.kind = .final) ∧ s.flt.queue.length ≤ 16 ∧ s.cad.ovr.length ≤ 8 ∧
    (∀ e ∈ s.hay.logs, e.2.queue.length ≤ 64) ∧ (∀ e ∈ s.zones, e.2.entries.length ≤ 32) ∧ mwf 0xFF s.hay.mem = true ∧ mwf 0xFF s.sec.flash = true ∧
    mwf 0 s.dbg.sram = true) : s.Inv :=
  ⟨h.1, h.2.1, h.2.2.1, h.2.2.2.1, h.2.2.2.2.1, h.2.2.2.2.2.1, h.2.2.2.2.2.2.1, h.2.2.2.2.2.2.2.1, h.2.2.2.2.2.2.2.2⟩

theorem issues (s : State) (q k opc : Nat) (w : BitVec 32) (h : s.rd R.STB_STAT_OFF ≠ 1 ∧ (s.stall q).cur = none ∧ (s.stall q).pend = [] ∧
    s.opFault q k opc (opWord opc w) = none ∧ s.rd R.STB_SP_STAT_AUDIT ≠ 1) : s.Issues q k opc w := ⟨h.1, h.2.1, h.2.2.1, h.2.2.2.1, h.2.2.2.2⟩

/-- The premises of EmptyQueueIdles hold together. -/
theorem meets_EmptyQueueIdles :
  (∃ (s : State), s.pending = []) :=
  ⟨st, by decide +kernel⟩

/-- The premises of QueueOnlyShrinks hold together. -/
theorem meets_QueueOnlyShrinks :
  (∃ (s t : State), step s = .next t) :=
  ⟨{ st with pending := [.idcode] }, _, rfl⟩

/-- The premises of StepKeepsInvariant hold together. -/
theorem meets_StepKeepsInvariant :
  (∃ (s t : State), s.Inv ∧ step s = .next t) :=
  ⟨{ st with pending := [.idcode] }, _, inv _ (by decide +kernel), rfl⟩

/-- The premises of FaultLatches hold together. -/
theorem meets_FaultLatches :
  (∃ (s : State), s.pwr.held = false) ∧
  (∃ (v : BitVec 8), fltCheck 0x7005 v.toNat = stOk ∧ bit v.toNat 0 = true) ∧
  (∃ (s : State) (cause : Fin 16), cause.val ≤ 0xA ∧ ¬ (s.pwr.held = true ∧ s.pwr.booted = false)) :=
  ⟨⟨{ st with pwr.held := false }, by decide +kernel⟩,
   ⟨1, by decide +kernel⟩,
   ⟨st, 1, by decide +kernel⟩⟩

/-- The premises of SlotCount hold together. -/
theorem meets_SlotCount :
  (∃ (c : Instr) (s t : State), s.Inv ∧ exec c s = .next t) :=
  ⟨.idcode, st, _, inv _ (by decide +kernel), rfl⟩

/-- The premises of SlotTableCopies hold together. -/
theorem meets_SlotTableCopies :
  (∃ (s : State), s.rd R.CAD_STAT_SWAP_PEND = 1) ∧
  (∃ (s : State), s.rd R.CAD_STAT_SWAP_PEND ≠ 1) ∧
  (∃ (s : State), s.cad.reloadPend = true) ∧
  (∃ (s : State), s.cad.reloadPend = false) :=
  ⟨⟨(st.wr (R.CAD_STAT_SWAP_PEND) (1)), by decide +kernel⟩,
   ⟨st, by decide +kernel⟩,
   ⟨{ st with cad.reloadPend := true }, by decide +kernel⟩,
   ⟨{ st with cad.reloadPend := false }, by decide +kernel⟩⟩

/-- The premises of MarginSlots hold together. -/
theorem meets_MarginSlots :
  (∃ (i : Nat), i % 16 = 15) ∧
  (∃ (s : State), s.slot = 15 ∨ s.slot = 31) ∧
  (∃ (s : State), s.slot = 15 ∨ s.slot = 31) :=
  ⟨⟨31, by decide +kernel⟩,
   ⟨{ st with cad.now := 47 }, by decide +kernel⟩,
   ⟨{ st with cad.now := 31 }, by decide +kernel⟩⟩

/-- The premises of SlotDispatch hold together. -/
theorem meets_SlotDispatch :
  (∃ (core : Nat), core < 2) ∧
  (∃ (core : Nat), core < 2) ∧
  (∃ (s : State), evenOnes (s.cad.active.entry (s.cad.now % 512)) = false) ∧
  (∃ (s : State), evenOnes (s.cad.active.entry (s.cad.now % 512)) = true) ∧
  (∃ (s : State), s.cad.reloadPend = true) :=
  ⟨⟨1, by decide +kernel⟩,
   ⟨0, by decide +kernel⟩,
   ⟨{ st with cad.active := { base := .dflt, edits := [(488, 1)] } }, by decide +kernel⟩,
   ⟨st, by decide +kernel⟩,
   ⟨{ st with cad.reloadPend := true }, by decide +kernel⟩⟩

/-- The premises of SlotOrder hold together. -/
theorem meets_SlotOrder :
  (∃ (s : State), s.Inv) ∧
  (∃ (s : State), s.cad.walking = false ∨ s.pwr.held = true) ∧
  (∃ (s : State), s.cad.walking = true ∧ s.pwr.held = false) :=
  ⟨⟨st, inv _ (by decide +kernel)⟩,
   ⟨{ st with cad.walking := false }, by decide +kernel⟩,
   ⟨{ { st with cad.walking := true } with pwr.held := false }, by decide +kernel⟩⟩

/-- The premises of JobCompletes hold together. -/
theorem meets_JobCompletes :
  (∃ (s : State) (core : Fin 2) (r : Run), s.run core = some r ∧ r.done = false ∧ r.held = false) ∧
  (∃ (s : State) (core : Fin 2) (r : Run), s.run core = some r ∧ r.done = false ∧ r.held = false ∧ (r.job ∈ [0x01, 0x14, 0x15] ∨ 0x16 < r.job)) ∧
  (∃ (s : State) (core : Fin 2), s.runLive core = false) :=
  ⟨⟨{ st with cad.run0 := some ⟨0x01, 3, false, false⟩ }, 0, ⟨0x01, 3, false, false⟩, by decide +kernel⟩,
   ⟨{ st with cad.run0 := some ⟨0x01, 3, false, false⟩ }, 0, ⟨0x01, 3, false, false⟩, by decide +kernel⟩,
   ⟨st, 1, by decide +kernel⟩⟩

/-- The premises of GuardFires hold together. -/
theorem meets_GuardFires :
  (∃ (s : State) (source : Fin 4) (r : Run), source.val < 2 ∧ s.run source = some r ∧ r.done = false ∧ r.held = false) ∧
  (∃ (s : State) (source : Fin 4), source.val < 2 ∧ s.runLive source = false) ∧
  (∃ (s : State) (e : Nat), s.cad.adcWin = some e ∧ (s.winLate 0 = true ∨ s.winLate 1 = true)) ∧
  (∃ (s : State) (e : Nat), s.cad.stbWin = some e ∧ s.stbLate = true) ∧
  (∃ (s : State), s.winLate 0 = false ∧ s.winLate 1 = false) ∧
  (∃ (s : State), s.stbLate = false) :=
  ⟨⟨{ st with cad.run1 := some ⟨0x0D, 3, false, false⟩ }, 1, ⟨0x0D, 3, false, false⟩, by decide +kernel⟩,
   ⟨st, 1, by decide +kernel⟩,
   ⟨{ st with cad.adcWin := some 1, adc.units := [(1, { seq := some ⟨3, 0, [1, 2], 0, true⟩ })] }, 1, by decide +kernel⟩,
   ⟨{ st with cad.stbWin := some 16, stb.stalls := [(2, { order := [1] })] }, 16, by decide +kernel⟩,
   ⟨st, by decide +kernel⟩,
   ⟨st, by decide +kernel⟩⟩

/-- The premises of StageTrim hold together. -/
theorem meets_StageTrim :
  (∃ (s : State), s.rd R.CAD_STAT_AON_LOST ≠ 1) ∧
  (∃ (s : State), s.rd R.CAD_STAT_AON_LOST = 1) ∧
  (∃ (s : State), s.cad.walking = true ∧ s.pwr.held = false ∧ s.cad.now % 32768 = 0 ∧ s.cad.stageAt ≠ some s.cad.now) ∧
  (∃ (s : State), s.cad.walking = true ∧ s.pwr.held = false ∧ s.cad.now % 32768 = 0 ∧ s.cad.stageAt ≠ some s.cad.now) ∧
  (∃ (s : State), s.cad.walking = false ∨ s.pwr.held = true ∨ s.cad.now % 32768 ≠ 0 ∨ s.cad.stageAt = some s.cad.now) :=
  ⟨⟨st, by decide +kernel⟩,
   ⟨(st.wr (R.CAD_STAT_AON_LOST) (1)), by decide +kernel⟩,
   ⟨{ st with cad.now := 65536 }, by decide +kernel⟩,
   ⟨{ st with cad.now := 65536 }, by decide +kernel⟩,
   ⟨{ st with cad.walking := false }, by decide +kernel⟩⟩

/-- The premises of AonEdges hold together. -/
theorem meets_AonEdges :
  (∃ (s : State), s.rd R.CAD_STAT_AON_LOST ≠ 1) ∧
  (∃ (s : State), s.rd R.CAD_STAT_AON_LOST = 1) ∧
  (∃ (s : State), s.rd R.CAD_STAT_AON_LOST = 1) ∧
  (∃ (s : State), s.rd R.CAD_STAT_AON_LOST ≠ 1) ∧
  (∃ (s : State), s.pwr.held = true) ∧
  (∃ (s : State), s.pwr.held = false) :=
  ⟨⟨st, by decide +kernel⟩,
   ⟨(st.wr (R.CAD_STAT_AON_LOST) (1)), by decide +kernel⟩,
   ⟨(st.wr (R.CAD_STAT_AON_LOST) (1)), by decide +kernel⟩,
   ⟨st, by decide +kernel⟩,
   ⟨{ st with pwr.held := true }, by decide +kernel⟩,
   ⟨{ st with pwr.held := false }, by decide +kernel⟩⟩

/-- The premises of SupplyEdges hold together. -/
theorem meets_SupplyEdges :
  (∃ (s : State), s.mainGood = true) ∧
  (∃ (s : State), s.mainGood = false) ∧
  (∃ (s : State), s.mainGood = false) :=
  ⟨⟨st, by decide +kernel⟩,
   ⟨{ st with pwr.adc := false }, by decide +kernel⟩,
   ⟨{ st.wr R.PWR_STAT_MODE 2 with pwr.adc := false }, by decide +kernel⟩⟩

/-- The premises of HubResetScope hold together. -/
theorem meets_HubResetScope :
  (∃ (c : Fin 16), c.val ≤ 0xA) ∧
  (∃ (c : Fin 16), 0xA < c.val) ∧
  (∃ (s : State), s.pwr.held = true ∧ s.pwr.booted = false) ∧
  (∃ (s : State), s.pwr.held = true ∧ s.pwr.booted = false) ∧
  (∃ (s : State), s.pwr.held = false ∨ s.pwr.booted = true) :=
  ⟨⟨1, by decide +kernel⟩,
   ⟨11, by decide +kernel⟩,
   ⟨{ st with pwr.held := true, pwr.booted := false }.wr R.PWR_CAUSE_CAUSE 2, by decide +kernel⟩,
   ⟨{ st with pwr.held := true, pwr.booted := false }, by decide +kernel⟩,
   ⟨{ st with pwr.held := false }, by decide +kernel⟩⟩

/-- The premises of BootToFirstTick hold together. -/
theorem meets_BootToFirstTick :
  (∃ (s : State) (k : KsImage), s.pwr.ksStage = some k ∧ s.pwr.force = []) ∧
  (∃ (s : State) (k : KsImage), s.pwr.ksStage = some k ∧ s.pwr.force ≠ []) ∧
  (∃ (s : State), s.pwr.ksStage = none) ∧
  (∃ (s : State), s.released = false) ∧
  (∃ (s : State), s.released = true) ∧
  (∃ (s : State), s.rd R.PWR_STAT_PFI ≠ 1) ∧
  (∃ (s : State), s.rd R.PWR_STAT_PFI = 1) ∧
  (∃ (s : State), s.startupDone = true) ∧
  (∃ (s : State), s.Inv ∧ s.startupDone = true) ∧
  (∃ (s : State), s.startupDone = false) :=
  ⟨⟨{ { st with pwr.ksStage := some ({ chan := [(3, 2)], ramp := [(1, 77)] }) } with pwr.force := [] }, { chan := [(3, 2)], ramp := [(1, 77)] }, by decide +kernel⟩,
   ⟨{ st with pwr.ksStage := some { chan := [(3, 2)], ramp := [(1, 77)] }, pwr.force := [2] }, { chan := [(3, 2)], ramp := [(1, 77)] }, by decide +kernel⟩,
   ⟨{ st with pwr.ksStage := none }, by decide +kernel⟩,
   ⟨st, by decide +kernel⟩,
   ⟨{ State.reset with pwr.force := [] }, by decide +kernel⟩,
   ⟨st, by decide +kernel⟩,
   ⟨(st.wr (R.PWR_STAT_PFI) (1)), by decide +kernel⟩,
   ⟨{ State.reset with pwr.booted := true }, by decide +kernel⟩,
   ⟨{ State.reset with pwr.booted := true }, inv _ (by decide +kernel), by decide +kernel⟩,
   ⟨st, by decide +kernel⟩⟩

/-- The premises of GaugeReserve hold together. -/
theorem meets_GaugeReserve :
  (∃ (s : State), s.pwr.samples ≠ []) ∧
  (∃ (s : State), s.gaugeV64 ≤ 64 * s.rd R.PWR_HOLD_CFG_VFLOOR) ∧
  (∃ (s : State), s.gaugeCode < 4096 ∧ s.rd R.PWR_HOLD_CFG_DIV < 256 ∧ s.rd R.PWR_HOLD_CFG_CAP < 65536 ∧ 64 * s.rd R.PWR_HOLD_CFG_VFLOOR < s.gaugeV64) ∧
  (∃ (s : State), s.gaugeCode < 4096 ∧ s.rd R.PWR_HOLD_CFG_DIV < 256 ∧ s.rd R.PWR_HOLD_CFG_CAP < 65536 ∧ 64 * s.rd R.PWR_HOLD_CFG_VFLOOR < s.gaugeV64) ∧
  (∃ (s : State), s.pwr.held = false) ∧
  (∃ (s : State), s.pwr.fwStep = 5 ∧ s.pwr.wakeDue = true ∧ s.pwr.held = false) ∧
  (∃ (s : State), s.rd R.PWR_HOLD_CFG_CAP = 220 ∧ s.rd R.PWR_HOLD_CFG_VFLOOR = 7000 ∧ s.rd R.PWR_HOLD_CFG_DIV = 80) ∧
  (∃ (s : State), s.rd R.PWR_HOLD_CFG_CAP = 220 ∧ s.rd R.PWR_HOLD_CFG_VFLOOR = 7000 ∧ s.rd R.PWR_HOLD_CFG_DIV = 80) :=
  ⟨⟨{ st with pwr.samples := [5, 3, 9, 4] }, by decide +kernel⟩,
   ⟨st, by decide +kernel⟩,
   ⟨{ st with pwr.samples := [3100, 3000, 3005, 3200] }, by decide +kernel⟩,
   ⟨{ st with pwr.samples := [4095] }.wrs [(R.PWR_HOLD_CFG_CAP, 65535), (R.PWR_HOLD_CFG_DIV, 255)], by decide +kernel⟩,
   ⟨{ st with pwr.held := false }, by decide +kernel⟩,
   ⟨{ { { st with pwr.fwStep := 5 } with pwr.wakeDue := true } with pwr.held := false }, by decide +kernel⟩,
   ⟨{ st with pwr.samples := [3200] }.wrs [(R.PWR_HOLD_CFG_CAP, 220), (R.PWR_HOLD_CFG_VFLOOR, 7000), (R.PWR_HOLD_CFG_DIV, 80)], by decide +kernel⟩,
   ⟨{ st with pwr.samples := [2880, 3200] }.wrs [(R.PWR_HOLD_CFG_CAP, 220), (R.PWR_HOLD_CFG_VFLOOR, 7000), (R.PWR_HOLD_CFG_DIV, 80)], by decide +kernel⟩⟩

/-- The premises of EscrowAdmission hold together. -/
theorem meets_EscrowAdmission :
  (∃ (s : State) (r : EscReq), s.admits r = true) ∧
  (∃ (s : State) (r : EscReq), s.admits r = false) ∧
  (∃ (c : Nat), c < 4) :=
  ⟨⟨{ st with pwr.samples := [4095], pwr.wait := [⟨1, 18, .commit 3, 5⟩] }, ⟨1, 18, .commit 3, 5⟩, by decide +kernel⟩,
   ⟨st, ⟨1, 18, .commit 3, 5⟩, by decide +kernel⟩,
   ⟨1, by decide +kernel⟩⟩

/-- The premises of PowerFail hold together. -/
theorem meets_PowerFail :
  (∃ (s : State), s.pwr.standby = true ∨ s.rd R.PWR_STAT_PFI = 1) ∧
  (∃ (s : State), s.pwr.standby = false ∧ s.rd R.PWR_STAT_PFI ≠ 1 ∧ s.pwr.held = true) ∧
  (∃ (s : State), s.pwr.standby = false ∧ s.rd R.PWR_STAT_PFI ≠ 1 ∧ s.pwr.held = false ∧ (s.rd R.PWR_STAT_PFSEQ = 1 ∨ s.pwr.pfDue = true ∨ s.cad.refOn = false)) ∧
  (∃ (s : State), s.pwr.standby = false ∧ s.rd R.PWR_STAT_PFI ≠ 1 ∧ s.pwr.held = false ∧ s.rd R.PWR_STAT_PFSEQ ≠ 1 ∧ s.pwr.pfDue = false ∧ s.cad.refOn = true) ∧
  (∃ (s : State), s.pwr.pfDue = true) ∧
  (∃ (s : State), s.pwr.pfDue = false) ∧
  (∃ (s : State), s.pwr.pfTicks < 20 ∨ s.rd R.PWR_STAT_PFSEQ ≠ 1 ∨ s.pwr.quiet = true) ∧
  (∃ (s : State), 20 ≤ s.pwr.pfTicks ∧ s.rd R.PWR_STAT_PFSEQ = 1 ∧ s.pwr.quiet = false) ∧
  (∃ (s : State), 20 ≤ s.pwr.pfTicks ∧ s.rd R.PWR_STAT_PFSEQ = 1 ∧ s.pwr.quiet = false) ∧
  (∃ (s : State), s.rd R.PWR_STAT_PFI ≠ 1) ∧
  (∃ (s : State), s.rd R.PWR_STAT_PFI = 1) ∧
  (∃ (s : State), s.rd R.PWR_STAT_PFSEQ = 1 ∧ s.pwr.quiet = true ∧ s.rd R.PWR_HOLD_CFG_PFI_FW2 ≠ 1 ∧ s.rd R.PWR_STAT_PFI ≠ 1) ∧
  (∃ (s : State), s.rd R.PWR_STAT_PFSEQ ≠ 1 ∨ s.pwr.quiet = false ∨ s.rd R.PWR_HOLD_CFG_PFI_FW2 = 1 ∨ s.rd R.PWR_STAT_PFI = 1) ∧
  (∃ (s : State), s.pwr.wait = [] ∧ (∀ r ∈ s.hay.reqs ++ s.hay.groom, s.hayExpired r = false)) :=
  ⟨⟨{ st with pwr.standby := true }, by decide +kernel⟩,
   ⟨{ { st with pwr.standby := false } with pwr.held := true }, by decide +kernel⟩,
   ⟨({ { st with pwr.standby := false } with pwr.held := false }.wr (R.PWR_STAT_PFSEQ) (1)), by decide +kernel⟩,
   ⟨{ { { { st with pwr.standby := false } with pwr.held := false } with pwr.pfDue := false } with cad.refOn := true }, by decide +kernel⟩,
   ⟨{ st with pwr.pfDue := true }, by decide +kernel⟩,
   ⟨{ st with pwr.pfDue := false }, by decide +kernel⟩,
   ⟨st, by decide +kernel⟩,
   ⟨{ st.wr R.PWR_STAT_PFSEQ 1 with pwr.pfTicks := 20, pwr.force := [2] }, by decide +kernel⟩,
   ⟨({ st.wr R.PWR_STAT_PFSEQ 1 with pwr.pfTicks := 20, pwr.force := [2] }).wr R.PWR_HOLD_CFG_PFI_FW2 1, by decide +kernel⟩,
   ⟨st, by decide +kernel⟩,
   ⟨(st.wr (R.PWR_STAT_PFI) (1)), by decide +kernel⟩,
   ⟨{ (st.wr (R.PWR_STAT_PFSEQ) (1)) with pwr.quiet := true }, by decide +kernel⟩,
   ⟨st, by decide +kernel⟩,
   ⟨{ st with pwr.wait := [] }, by decide +kernel⟩⟩

/-- The premises of PowerModes hold together. -/
theorem meets_PowerModes :
  (∃ (s : State) (c : Cmd) (m : Byte), s.Ready c ∧ c.payload = [m] ∧ m.toNat ≤ 3 ∧ s.modeRefused m.toNat = false ∧ s.rd R.PWR_STAT_PFSEQ ≠ 1 ∧ s.pwr.pfDue = false ∧ s.debugHold = false) ∧
  (∃ (s : State) (c : Cmd) (m : Byte), s.Ready c ∧ c.payload = [m] ∧ m.toNat ≤ 3 ∧ (s.modeRefused m.toNat = true ∨ s.rd R.PWR_STAT_PFSEQ = 1 ∨ s.debugHold = true)) ∧
  (∃ (s : State), s.pwr.pendMode = some 1 ∧ s.rd R.PWR_STAT_MODE = 0) ∧
  (∃ (s : State), s.pwr.pendMode ≠ some 1 ∨ s.rd R.PWR_STAT_MODE ≠ 0) ∧
  (∃ (s : State), s.pwr.pendMode = some 2 ∧ s.rd R.PWR_STAT_MODE ≠ 2) ∧
  (∃ (s : State), s.pwr.pendMode ≠ some 2 ∨ s.rd R.PWR_STAT_MODE = 2) ∧
  (∃ (s : State), s.pwr.fwStep = 1 ∧ s.panelIdle = true ∧ s.hay.cur = none) ∧
  (∃ (s : State), s.pwr.fwStep ≠ 1 ∨ s.panelIdle = false ∨ s.hay.cur ≠ none) ∧
  (∃ (s : State), s.pwr.fwStep = 4 ∧ s.voutsArrived = true) ∧
  (∃ (s : State), s.pwr.fwStep ≠ 4 ∨ s.voutsArrived = false) ∧
  (∃ (s : State), s.pwr.pendMode = some 3 ∧ (s.orderlyOff 7).panelIdle = true) ∧
  (∃ (s : State), s.pwr.pendMode = some 3 ∧ (s.orderlyOff 7).panelIdle = false) ∧
  (∃ (s : State), s.pwr.pendMode ≠ some 3) :=
  ⟨⟨{ st with pwr.pfDue := false }, (⟨1, 5, [(1)]⟩ : Cmd), 1, ready _ _ (by decide +kernel), by decide +kernel, by decide +kernel, by decide +kernel, by decide +kernel, by decide +kernel, by decide +kernel⟩,
   ⟨st.wrs [(R.PWR_WAKE_EN_HOST, 0), (R.PWR_WAKE_EN_PFI, 0), (R.PWR_WAKE_EN_PAD, 0)], (⟨1, 5, [(2)]⟩ : Cmd), 2, ready _ _ (by decide +kernel), by decide +kernel, by decide +kernel, by decide +kernel⟩,
   ⟨({ st with pwr.pendMode := some 1 }.wr (R.PWR_STAT_MODE) (0)), by decide +kernel⟩,
   ⟨st, by decide +kernel⟩,
   ⟨{ st with pwr.pendMode := some 2 }, by decide +kernel⟩,
   ⟨st, by decide +kernel⟩,
   ⟨{ { st with pwr.fwStep := 1 } with hay.cur := none }, by decide +kernel⟩,
   ⟨st, by decide +kernel⟩,
   ⟨{ st with pwr.fwStep := 4 }, by decide +kernel⟩,
   ⟨st, by decide +kernel⟩,
   ⟨{ st with pwr.pendMode := some 3 }, by decide +kernel⟩,
   ⟨{ st with pwr.pendMode := some 3 }.wr R.DSP_STAT_STATE 3, by decide +kernel⟩,
   ⟨st, by decide +kernel⟩⟩

/-- The premises of WakeAndCharge hold together. -/
theorem meets_WakeAndCharge :
  (∃ (s : State) (src : Fin 8), s.cad.refOn = true ∧ s.pwr.standby = false ∧ (src.val = 0 ∨ 4 < src.val ∨ s.wakeEnabled src = false ∨ (src.val = 1 ∧ s.stage % 2 ^ 32 ≠ s.rd R.PWR_WAKE_ALARM))) ∧
  (∃ (s : State) (src : Fin 8), s.cad.refOn = true ∧ s.pwr.standby = false ∧ (src.val = 0 ∨ 4 < src.val ∨ s.wakeEnabled src = false ∨ (src.val = 1 ∧ s.stage % 2 ^ 32 ≠ s.rd R.PWR_WAKE_ALARM))) ∧
  (∃ (s : State) (src : Fin 8), 2 ≤ src.val ∧ src.val ≤ 4 ∧ s.wakeEnabled src = true ∧ s.pwr.standby = false ∧ s.rd R.PWR_STAT_MODE = 2) ∧
  (∃ (s : State) (src : Fin 8), 2 ≤ src.val ∧ src.val ≤ 4 ∧ s.wakeEnabled src = true ∧ s.pwr.standby = false ∧ s.cad.refOn = true ∧ s.rd R.PWR_STAT_MODE = 1 ∧ s.pwr.pendMode = none) ∧
  (∃ (s : State) (src : Fin 8) (m : Nat), 2 ≤ src.val ∧ src.val ≤ 4 ∧ s.wakeEnabled src = true ∧ s.pwr.standby = false ∧ s.cad.refOn = true ∧ s.rd R.PWR_STAT_MODE ≠ 2 ∧ s.pwr.pendMode = some (m + 1)) ∧
  (∃ (s : State) (src : Fin 8), 2 ≤ src.val ∧ src.val ≤ 4 ∧ s.wakeEnabled src = true ∧ s.pwr.standby = true) ∧
  (∃ (s : State), ¬ (s.pwr.fwStep = 5 ∧ s.pwr.wakeDue = true ∧ s.pwr.held = false)) ∧
  (∃ (s : State), s.pwr.fwStep = 5 ∧ s.pwr.wakeDue = true ∧ s.pwr.held = false) ∧
  (∃ (s : State), s.rd R.PWR_CHG_MODE ≠ 0) ∧
  (∃ (s : State), s.rd R.PWR_CHG_MODE = 0) ∧
  (∃ (s : State) (c : Cmd) (u : Byte), s.Ready c ∧ c.payload = [u] ∧ 1 ≤ u.toNat ∧ u.toNat ≤ 7 ∧ s.rd R.PWR_STAT_PFSEQ ≠ 1) ∧
  (∃ (s : State) (c : Cmd) (u : Byte), s.Ready c ∧ c.payload = [u] ∧ 1 ≤ u.toNat ∧ u.toNat ≤ 7 ∧ s.rd R.PWR_STAT_PFSEQ = 1) :=
  ⟨⟨st, 0, by decide +kernel⟩,
   ⟨st, 5, by decide +kernel⟩,
   ⟨({ st with pwr.standby := false }.wr (R.PWR_STAT_MODE) (2)), 2, by decide +kernel⟩,
   ⟨{ ({ { st with pwr.standby := false } with cad.refOn := true }.wr (R.PWR_STAT_MODE) (1)) with pwr.pendMode := none }, 2, by decide +kernel⟩,
   ⟨{ { { st with pwr.standby := false } with cad.refOn := true } with pwr.pendMode := some ((3) + 1) }, 2, 3, by decide +kernel⟩,
   ⟨{ st with pwr.standby := true }, 2, by decide +kernel⟩,
   ⟨st, by decide +kernel⟩,
   ⟨{ { { st with pwr.fwStep := 5 } with pwr.wakeDue := true } with pwr.held := false }, by decide +kernel⟩,
   ⟨(st.wr (R.PWR_CHG_MODE) 1), by decide +kernel⟩,
   ⟨(st.wr (R.PWR_CHG_MODE) (0)), by decide +kernel⟩,
   ⟨st, (⟨1, 5, [(1)]⟩ : Cmd), 1, ready _ _ (by decide +kernel), by decide +kernel, by decide +kernel, by decide +kernel, by decide +kernel⟩,
   ⟨(st.wr (R.PWR_STAT_PFSEQ) (1)), (⟨1, 5, [(1)]⟩ : Cmd), 1, ready _ _ (by decide +kernel), by decide +kernel, by decide +kernel, by decide +kernel, by decide +kernel⟩⟩

/-- The premises of FrameRoundTrip hold together. -/
theorem meets_FrameRoundTrip :
  (∃ (x : RxPath) (payload auth junk : Bytes), x.part = [] ∧ payload.length < 4096 ∧ (auth.length = 0 ∨ auth.length = 8) ∧ junk.all (fun b => b != 0x5A) = true) ∧
  (∃ (x : RxPath) (payload auth junk : Bytes), x.part = [] ∧ payload.length < 4096 ∧ (auth.length = 0 ∨ auth.length = 8) ∧ junk.all (fun b => b != 0x5A) = true) :=
  ⟨⟨{}, [1, 1], [], [1, 2, 0xFF], by decide +kernel⟩,
   ⟨{}, [0x5A, 0x5A, 0, 0x5A], [1, 2, 3, 4, 5, 6, 7, 8], [], by decide +kernel⟩⟩

/-- The premises of Receiving hold together. -/
theorem meets_Receiving :
  (∃ (x : RxPath) (h : Byte) (rest : Bytes), x.part = h :: rest ∧ h ≠ 0x5A) ∧
  (∃ (x : RxPath) (rest : Bytes), x.part = 0x5A :: rest ∧ 6 ≤ rest.length ∧ headerGood x.part = false) ∧
  (∃ (x : RxPath) (rest : Bytes), x.part = 0x5A :: rest ∧ 6 ≤ rest.length ∧ headerGood x.part = true ∧ frameLength x.part ≤ x.part.length ∧ frameGood x.part = false) ∧
  (∃ (x : RxPath) (rest : Bytes), x.part = 0x5A :: rest ∧ (rest.length < 6 ∨ headerGood x.part = true ∧ x.part.length < frameLength x.part)) ∧
  (∃ (s : State) (data : Bytes), s.hostOn = true ∧ s.host.uart = false ∧ data.length ≤ s.rxFree) ∧
  (∃ (s : State), s.hostOn = true ∧ s.host.uart = true) ∧
  (∃ (s : State), s.hostOn = true ∧ s.host.uart = true ∧ s.rxFree ≠ 0) ∧
  (∃ (s : State), s.hostOn = false) ∧
  (∃ (s : State), s.hostOn = true ∧ s.host.uart = true ∧ (s.rxPath 0).part ≠ []) ∧
  (∃ (s : State), s.hostOn = false ∨ s.host.uart = false ∨ (s.rxPath 0).part = []) ∧
  (∃ (s : State), s.hostOn = false ∨ s.host.uart = false ∨ (s.rxPath 0).part = []) ∧
  (∃ (s : State), s.host.uart = true) ∧
  (∃ (s : State), s.host.uart = false) :=
  ⟨⟨{ part := [1, 2] }, 1, [2], by decide +kernel⟩,
   ⟨{ part := [0x5A, 2, 3, 4, 5, 0, 0] }, [2, 3, 4, 5, 0, 0], by decide +kernel⟩,
   ⟨{ part := [0x5A, 1, 0, 5, 8, 0, 0, 9, 9] }, [1, 0, 5, 8, 0, 0, 9, 9], by decide +kernel⟩,
   ⟨{ part := [0x5A, 1, 0, 5, 8, 0, 0, 9] }, [1, 0, 5, 8, 0, 0, 9], by decide +kernel⟩,
   ⟨{ st with host.uart := false }, [0x5A, 0x01, 0x00, 0x05, 0x08, 0x02, 0x00, 0x01, 0x01, 0xF9, 0xB9], by decide +kernel⟩,
   ⟨{ st with host.uart := true }, by decide +kernel⟩,
   ⟨{ st with host.uart := true }, by decide +kernel⟩,
   ⟨State.reset, by decide +kernel⟩,
   ⟨{ st with host.uart := true, spoke.rx := [(0, { part := [0x5A, 1] })] }, by decide +kernel⟩,
   ⟨{ st with host.uart := true }, by decide +kernel⟩,
   ⟨st, by decide +kernel⟩,
   ⟨{ st with host.uart := true }, by decide +kernel⟩,
   ⟨{ st with host.uart := false }, by decide +kernel⟩⟩

/-- The premises of AdmissionChecks hold together. -/
theorem meets_AdmissionChecks :
  (∃ (s : State) (tr : Fin 4) (b : Bytes) (rest : List Bytes), s.ready = true ∧ (s.rxPath tr).frames = b :: rest) ∧
  (∃ (tr : Nat) (f : Frame), f.tag = 127 ∨ transportOf f.ch ≠ tr) ∧
  (∃ (tr : Nat) (f : Frame), f.tag ≠ 127 ∧ transportOf f.ch = tr) ∧
  (∃ (f : Frame), f.op ≠ 0x69) ∧
  (∃ (s : State) (tr : Fin 4), s.ready = false ∨ (s.rxPath tr).frames = []) :=
  ⟨⟨{ st with spoke.rx := [(0, { frames := [frameBytes 0 ⟨.final, 5, 0, [1], []⟩] })] }, 0, (frameBytes 0 ⟨.final, 5, 0, [1], []⟩), [], by decide +kernel⟩,
   ⟨3, (frameOf [0x5A, 0x01, 0x00, 0x05, 0x08, 0x02, 0x00, 0x01, 0x01, 0xF9, 0xB9]), by decide +kernel⟩,
   ⟨0, (frameOf [0x5A, 0x01, 0x00, 0x05, 0x08, 0x02, 0x00, 0x01, 0x01, 0xF9, 0xB9]), by decide +kernel⟩,
   ⟨(frameOf [0x5A, 0x01, 0x00, 0x05, 0x08, 0x02, 0x00, 0x01, 0x01, 0xF9, 0xB9]), by decide +kernel⟩,
   ⟨st, 1, by decide +kernel⟩⟩

/-- The premises of Sessions hold together. -/
theorem meets_Sessions :
  (∃ (s : State) (c : Cmd), s.Ready c ∧ c.payload = [1]) ∧
  (∃ (s : State) (c : Cmd) (v : Byte), s.Ready c ∧ c.payload = [v] ∧ v ≠ 1) ∧
  (∃ (s : State) (c : Cmd), s.Ready c ∧ c.payload = [] ∧ (s.chan c.ch).uses = []) ∧
  (∃ (s : State) (c : Cmd), s.Ready c ∧ c.payload = [] ∧ (s.chan c.ch).uses ≠ []) ∧
  (∃ (s : State) (c : Cmd), c.payload = [] ∧ s.rd R.SEC_UPD_CHAN ≠ c.ch.val) ∧
  (∃ (s : State) (c : Cmd), s.Ready c ∧ c.payload.length = 16 ∧ ((List.range 128).all fun n => !bit (ofLe c.payload) n || definedEvents.contains n) = true) ∧
  (∃ (s : State) (c : Cmd), s.Ready c ∧ c.payload.length = 16 ∧ ((List.range 128).all fun n => !bit (ofLe c.payload) n || definedEvents.contains n) = false) ∧
  (∃ (s : State) (c : Cmd), s.Ready c ∧ c.payload.length = 4) ∧
  (∃ (s : State) (c : Cmd) (x : RxPath), s.Ready c ∧ c.payload = [] ∧ x = s.rxPath (transportOf c.ch)) ∧
  (∃ (s : State) (c : Cmd), s.Ready c) :=
  ⟨⟨st, (⟨1, 5, [1]⟩ : Cmd), ready _ _ (by decide +kernel), by decide +kernel⟩,
   ⟨st, ⟨1, 5, [2]⟩, 2, ready _ _ (by decide +kernel), by decide +kernel, by decide +kernel⟩,
   ⟨{ st with spoke.chans := [(1, { isOpen := true, mask := 8 })] }, (⟨1, 5, []⟩ : Cmd), ready _ _ (by decide +kernel), by decide +kernel, by decide +kernel⟩,
   ⟨{ st with spoke.chans := [(1, { isOpen := true, uses := [⟨9, 5, [], true, false⟩] })] }, (⟨1, 5, []⟩ : Cmd), ready _ _ (by decide +kernel), by decide +kernel, by decide +kernel⟩,
   ⟨{ st with spoke.chans := [(1, { isOpen := true, mask := 8, seq := 9, drops := 4, uses := [⟨9, 5, [], true, false⟩, ⟨5, 5, [], false, false⟩], outq := [⟨.final, 3, 0x85, [0], []⟩] })] }, (⟨1, 5, []⟩ : Cmd), by decide +kernel⟩,
   ⟨st, ⟨1, 5, [1, 0, 0, 0, 0, 0, 0, 0, 0, 0, 0, 0, 0, 0, 0, 3]⟩, ready _ _ (by decide +kernel), by decide +kernel, by decide +kernel⟩,
   ⟨st, ⟨1, 5, [0x08, 0, 0, 0, 0, 0, 0, 0, 0, 0, 0, 0, 0, 0, 0, 0]⟩, ready _ _ (by decide +kernel), by decide +kernel, by decide +kernel⟩,
   ⟨st, ⟨1, 5, [1, 2, 3, 4]⟩, ready _ _ (by decide +kernel), by decide +kernel⟩,
   ⟨{ st with spoke.chans := [(1, { isOpen := true, drops := 7 })] }, (⟨1, 5, []⟩ : Cmd), {}, ready _ _ (by decide +kernel), by decide +kernel, by decide +kernel⟩,
   ⟨st, ⟨1, 5, [1, 2]⟩, ready _ _ (by decide +kernel)⟩⟩

/-- The premises of ResetAndRate hold together. -/
theorem meets_ResetAndRate :
  (∃ (s : State) (c : Cmd), s.Ready c ∧ c.payload = [0x3C, 0xC3] ∧ (c.ch.val < 16 ∨ 23 < c.ch.val) ∧ s.rd R.PWR_STAT_PFSEQ ≠ 1) ∧
  (∃ (s : State) (c : Cmd), s.Ready c ∧ c.payload = [0x3C, 0xC3] ∧ (16 ≤ c.ch.val ∧ c.ch.val ≤ 23 ∨ s.rd R.PWR_STAT_PFSEQ = 1)) ∧
  (∃ (s : State) (c : Cmd), s.Ready c ∧ c.payload = [0x3C, 0xC3] ∧ (16 ≤ c.ch.val ∧ c.ch.val ≤ 23 ∨ s.rd R.PWR_STAT_PFSEQ = 1)) ∧
  (∃ (s : State) (c : Cmd), s.Ready c ∧ c.payload.length = 2 ∧ c.payload ≠ [0x3C, 0xC3]) ∧
  (∃ (s : State) (n : Nat), s.spoke.rstAt = some n ∧ (s.repliesLeft 0x83 = true ∨ n ≤ s.ticks)) ∧
  (∃ (s : State) (n : Nat), s.spoke.rstAt = some n ∧ s.repliesLeft 0x83 = false ∧ s.ticks < n) ∧
  (∃ (s : State), s.spoke.rstAt = none) ∧
  (∃ (s : State) (c : Cmd), s.Ready c ∧ c.payload.length = 4 ∧ ofLe c.payload ∈ [115200, 230400, 460800, 921600, 1500000, 3000000] ∧ c.ch.val < 16 ∧ s.host.uart = true) ∧
  (∃ (s : State) (c : Cmd), s.Ready c ∧ c.payload.length = 4 ∧ ofLe c.payload ∈ [115200, 230400, 460800, 921600, 1500000, 3000000] ∧ (16 ≤ c.ch.val ∨ s.host.uart = false)) ∧
  (∃ (s : State) (c : Cmd), s.Ready c ∧ c.payload.length = 4 ∧ ofLe c.payload ∉ [115200, 230400, 460800, 921600, 1500000, 3000000]) ∧
  (∃ (s : State) (b : Nat), s.host.nextBaud = some b ∧ s.repliesLeft 0x86 = true) ∧
  (∃ (s : State) (b : Nat), s.host.prevBaud = some b ∧ s.host.baudEnd ≤ s.ticks) ∧
  (∃ (s : State), s.host.prevBaud = none ∨ s.ticks < s.host.baudEnd) :=
  ⟨⟨st, (⟨1, 5, [0x3C, 0xC3]⟩ : Cmd), ready _ _ (by decide +kernel), by decide +kernel, by decide +kernel, by decide +kernel⟩,
   ⟨st, ⟨17, 5, [0x3C, 0xC3]⟩, ready _ _ (by decide +kernel), by decide +kernel, by decide +kernel⟩,
   ⟨(st.wr R.PWR_STAT_PFSEQ 1), ⟨0, 5, [0x3C, 0xC3]⟩, ready _ _ (by decide +kernel), by decide +kernel, by decide +kernel⟩,
   ⟨st, ⟨1, 5, [0x3C, 0xC2]⟩, ready _ _ (by decide +kernel), by decide +kernel, by decide +kernel⟩,
   ⟨{ st with spoke.rstAt := some 99999 }, 99999, by decide +kernel⟩,
   ⟨{ st with spoke.rstAt := some 99999, spoke.chans := [(1, { outq := [⟨.final, 3, 0x83, [0], []⟩] })] }, 99999, by decide +kernel⟩,
   ⟨{ st with spoke.rstAt := none }, by decide +kernel⟩,
   ⟨{ st with host.uart := true }, ⟨1, 5, [0, 0x84, 3, 0]⟩, ready _ _ (by decide +kernel), by decide +kernel, by decide +kernel, by decide +kernel, by decide +kernel⟩,
   ⟨st, ⟨1, 5, [0, 0x84, 3, 0]⟩, ready _ _ (by decide +kernel), by decide +kernel, by decide +kernel, by decide +kernel⟩,
   ⟨st, ⟨1, 5, [0, 0x84, 3, 1]⟩, ready _ _ (by decide +kernel), by decide +kernel, by decide +kernel⟩,
   ⟨{ st with host.nextBaud := some 230400 }, 230400, by decide +kernel⟩,
   ⟨{ st with host.prevBaud := some 230400 }, 230400, by decide +kernel⟩,
   ⟨{ st with host.prevBaud := none }, by decide +kernel⟩⟩

/-- The premises of AttrReads hold together. -/
theorem meets_AttrReads :
  (∃ (s : State) (c : Cmd) (id : Nat), s.Ready c ∧ c.payload = le 2 id ∧ id < 65536 ∧ knownAttr id = true) ∧
  (∃ (s : State) (c : Cmd) (id : Nat), s.Ready c ∧ c.payload = le 2 id ∧ id < 65536 ∧ knownAttr id = true) ∧
  (∃ (s : State) (c : Cmd), s.Ready c ∧ 2 ≤ c.payload.length ∧ c.payload.length ≤ 64 ∧ c.payload.length % 2 = 0 ∧ ((multiIds c.payload).all knownAttr) = true) ∧
  (∃ (s : State) (c : Cmd) (id : Nat), s.Ready c ∧ c.payload = le 2 id ∧ id < 65536 ∧ knownAttr id = true) ∧
  (∃ (s : State) (c : Cmd) (id : Nat), s.Ready c ∧ c.payload = le 2 id ∧ id < 65536 ∧ knownAttr id = false) ∧
  (∃ (s : State) (c : Cmd), s.Ready c ∧ 2 ≤ c.payload.length ∧ c.payload.length ≤ 64 ∧ c.payload.length % 2 = 0 ∧ ((multiIds c.payload).all knownAttr) = false) ∧
  (∃ (s : State) (c : Cmd), s.Ready c ∧ c.payload.length ≠ 2) :=
  ⟨⟨(st.wr R.CAD_STAT_OVR 1), ⟨1, 5, [1, 1]⟩, 0x0101, ready _ _ (by decide +kernel), by decide +kernel, by decide +kernel, by decide +kernel⟩,
   ⟨{ st with cad.ovr := [⟨1, 2, 3, 4, 5⟩] }, ⟨1, 5, [3, 1]⟩, 0x0103, ready _ _ (by decide +kernel), by decide +kernel, by decide +kernel, by decide +kernel⟩,
   ⟨st, ⟨1, 5, [1, 1, 3, 1]⟩, ready _ _ (by decide +kernel), by decide +kernel, by decide +kernel, by decide +kernel, by decide +kernel⟩,
   ⟨st, ⟨1, 5, [1, 1]⟩, 0x0101, ready _ _ (by decide +kernel), by decide +kernel, by decide +kernel, by decide +kernel⟩,
   ⟨st, ⟨1, 5, [0xFF, 0xFF]⟩, 0xFFFF, ready _ _ (by decide +kernel), by decide +kernel, by decide +kernel, by decide +kernel⟩,
   ⟨st, ⟨1, 5, [1, 1, 0xFF, 0xFF]⟩, ready _ _ (by decide +kernel), by decide +kernel, by decide +kernel, by decide +kernel, by decide +kernel⟩,
   ⟨st, ⟨1, 5, [1, 1, 7]⟩, ready _ _ (by decide +kernel), by decide +kernel⟩⟩

/-- The premises of AttrWrites hold together. -/
theorem meets_AttrWrites :
  (∃ (s : State) (c : Cmd) (id v : Nat), s.Ready c ∧ c.payload = le 2 id ++ le (attrSize id) v ∧ id < 65536 ∧ knownAttr id = true ∧ v < 2 ^ (8 * attrSize id) ∧ s.writeStatus c.ch id v = stOk) ∧
  (∃ (id : Nat) (a : AttrDesc), id ≠ 0x2401 ∧ attrOf id = some a ∧ (a.fields.map (·.lo)).Nodup) ∧
  (∃ (s : State) (c : Cmd) (id mask v : Nat), s.Ready c ∧ c.payload = le 2 id ++ le (attrSize id) mask ++ le (attrSize id) v ∧ id < 65536 ∧ mask < 2 ^ (8 * attrSize id) ∧ v < 2 ^ (8 * attrSize id) ∧ knownAttr id = true ∧ mask &&& accessMask id (fun a => decide (a = .rw ∨ a = .wo)) = mask ∧ s.writeStatus c.ch id (s.modified id mask v) = stOk) ∧
  (∃ (s : State) (c : Cmd) (id mask v : Nat), s.Ready c ∧ c.payload = le 2 id ++ le (attrSize id) mask ++ le (attrSize id) v ∧ id < 65536 ∧ mask < 2 ^ (8 * attrSize id) ∧ v < 2 ^ (8 * attrSize id) ∧ knownAttr id = true ∧ mask &&& accessMask id (fun a => decide (a = .rw ∨ a = .wo)) ≠ mask) ∧
  (∃ (s : State) (c : Cmd) (id v : Nat), s.Ready c ∧ c.payload = le 2 id ++ le (attrSize id) v ∧ id < 65536 ∧ knownAttr id = true ∧ v < 2 ^ (8 * attrSize id) ∧ s.writeStatus c.ch id v ≠ stOk) ∧
  (∃ (s : State) (c : Cmd) (id : Nat) (rest : Bytes), s.Ready c ∧ c.payload = le 2 id ++ rest ∧ id < 65536 ∧ knownAttr id = false) ∧
  (∃ (s : State) (c : Cmd) (id : Nat) (rest : Bytes), s.Ready c ∧ c.payload = le 2 id ++ rest ∧ id < 65536 ∧ knownAttr id = true) :=
  ⟨⟨st, ⟨1, 5, le 2 0x0106 ++ le (attrSize 0x0106) 7⟩, 0x0106, 7, ready _ _ (by decide +kernel), by decide +kernel, by decide +kernel, by decide +kernel, by decide +kernel, by decide +kernel⟩,
   ⟨0x0101, ((attrOf 0x0101).getD ⟨0, 0, 0, []⟩), by decide +kernel⟩,
   ⟨st, ⟨1, 5, le 2 0x0106 ++ le (attrSize 0x0106) 0x1FF ++ le (attrSize 0x0106) 9⟩, 0x0106, 0x1FF, 9, ready _ _ (by decide +kernel), by decide +kernel, by decide +kernel, by decide +kernel, by decide +kernel, by decide +kernel, by decide +kernel, by decide +kernel⟩,
   ⟨st, ⟨1, 5, le 2 0x0106 ++ le (attrSize 0x0106) 0xFFFF ++ le (attrSize 0x0106) 9⟩, 0x0106, 0xFFFF, 9, ready _ _ (by decide +kernel), by decide +kernel, by decide +kernel, by decide +kernel, by decide +kernel, by decide +kernel, by decide +kernel⟩,
   ⟨st, ⟨1, 5, le 2 0x0203 ++ le (attrSize 0x0203) 0⟩, 0x0203, 0, ready _ _ (by decide +kernel), by decide +kernel, by decide +kernel, by decide +kernel, by decide +kernel, by decide +kernel⟩,
   ⟨st, ⟨1, 5, [0xFF, 0xFF]⟩, 0xFFFF, [], ready _ _ (by decide +kernel), by decide +kernel, by decide +kernel, by decide +kernel⟩,
   ⟨st, ⟨1, 5, [1, 1]⟩, 0x0101, [], ready _ _ (by decide +kernel), by decide +kernel, by decide +kernel, by decide +kernel⟩⟩

/-- The premises of QueuesAndEvents hold together. -/
theorem meets_QueuesAndEvents :
  (∃ (ch code : Nat) (c : Channel), wants ch code c = true ∧ c.lost = none ∧ c.bind = none ∧ outCount c .shared < 15) ∧
  (∃ (ch code : Nat) (c : Channel), wants ch code c = true ∧ outCount c .shared = 15) ∧
  (∃ (ch code : Nat) (c : Channel), wants ch code c = false) ∧
  (∃ (s : State) (ch : Fin 32) (n first last : Nat), (s.chan ch).lost = some (n, first, last) ∧ (s.chan ch).isOpen = true ∧ (s.chan ch).bind = none ∧ outCount (s.chan ch) .shared < 15 ∧ outCount (s.chan ch) .lost = 0) ∧
  (∃ (s : State) (ch : Fin 32), (s.chan ch).lost = none ∨ (s.chan ch).isOpen = false ∨ 15 ≤ outCount (s.chan ch) .shared ∨ outCount (s.chan ch) .lost ≠ 0) ∧
  (∃ (s : State) (r : Ref), (s.chan r.ch).epoch = r.epoch ∧ s.touchedBy r = false ∧ (s.chan r.ch).waits = [] ∧ (s.chan r.ch).bind = none) ∧
  (∃ (s : State) (r : Ref), (s.chan r.ch).epoch = r.epoch ∧ s.touchedBy r = false ∧ (s.chan r.ch).waits = [] ∧ (s.chan r.ch).bind = none) ∧
  (∃ (s : State) (l : List Use) (u : Use), s.startable [] l = some u) :=
  ⟨⟨1, 0x10, { isOpen := true, mask := 65536, seq := 65535 }, by decide +kernel⟩,
   ⟨1, 0x10, { isOpen := true, mask := 65536, lost := some (2, 5, 6), seq := 7, outq := List.replicate 15 ⟨.shared, 1, 0x85, [], []⟩ }, by decide +kernel⟩,
   ⟨1, 0x10, {}, by decide +kernel⟩,
   ⟨{ st with spoke.chans := [(1, { isOpen := true, lost := some (2, 5, 6), seq := 7 })] }, 1, 2, 5, 6, by decide +kernel⟩,
   ⟨st, 1, by decide +kernel⟩,
   ⟨{ st with spoke.chans := [(1, { uses := [⟨5, 8, [], true, false⟩] })] }, ⟨1, 5, 8, 0⟩, by decide +kernel⟩,
   ⟨{ st with spoke.chans := [(1, { uses := [⟨5, 8, [], true, false⟩], outq := List.replicate 16 ⟨.final, 1, 0x85, [0], []⟩ })] }, ⟨1, 5, 8, 0⟩, by decide +kernel⟩,
   ⟨st, [⟨5, 8, [1, 1], true, false⟩, ⟨6, 0x10, [], false, false⟩], ⟨6, 0x10, [], false, false⟩, by decide +kernel⟩⟩

/-- The premises of SpiTransactions hold together. -/
theorem meets_SpiTransactions :
  (∃ (s : State), s.spiOn = true) ∧
  (∃ (s : State) (len : Nat) (data : Bytes), s.spiOn = true ∧ len ≤ s.rxFree ∧ data.length = len ∧ len < 65536) ∧
  (∃ (s : State) (len : Nat) (data : Bytes), s.spiOn = true ∧ len < 65536 ∧ (s.rxFree < len ∨ data.length ≠ len)) ∧
  (∃ (s : State) (len : Nat) (data : Bytes), s.spiOn = true ∧ len < 65536 ∧ (s.rxFree < len ∨ data.length ≠ len)) ∧
  (∃ (s : State) (len clocked n : Nat), s.spiOn = true ∧ len < 65536 ∧ n = min (min len clocked) s.host.tx.length) ∧
  (∃ (s : State), s.spiOn = true) ∧
  (∃ (s : State), s.spiOn = false) :=
  ⟨⟨{ st with host.disc := true }, by decide +kernel⟩,
   ⟨{ st with host.disc := true }, 11, [0x5A, 0x01, 0x00, 0x05, 0x08, 0x02, 0x00, 0x01, 0x01, 0xF9, 0xB9], by decide +kernel⟩,
   ⟨{ st with host.wcut := true }, 9000, [1], by decide +kernel⟩,
   ⟨{ st with host.wcut := true }, 9, [1], by decide +kernel⟩,
   ⟨{ st with host.tx := [1, 2, 3, 4], host.txPkts := [3, 1], host.txOps := [0x85, 0x86] }, 3, 5, 3, by decide +kernel⟩,
   ⟨{ st with spoke.rx := [(0, { part := [0x5A, 1], frames := [[1, 2]] })] }, by decide +kernel⟩,
   ⟨State.reset, by decide +kernel⟩⟩

/-- The premises of InstallerConsole hold together. -/
theorem meets_InstallerConsole :
  (∃ (s : State), s.console.isOpen = false ∧ s.consoleReady = true) ∧
  (∃ (s : State) (k : Byte), s.console.isOpen = false ∧ (k ≠ 0x0D ∨ s.consoleReady = false)) ∧
  (∃ (s : State), s.console.isOpen = true ∨ s.consoleReady = false) ∧
  (∃ (s : State) (n : Nat), s.console.isOpen = true ∧ s.console.mode = .menu ∧ n = min s.console.sel (s.consoleItems.length - 1)) ∧
  (∃ (s : State) (page : Nat) (k : Byte) (x : Nat), s.console.isOpen = true ∧ s.console.mode = .item 1 page ∧ s.rd R.PAD_STAGED_FIRST_BAD = 0xFF ∧ s.console.digits.length < 8 ∧ keyDigit k.toNat = some x ∧ k ≠ 0x0D ∧ k ≠ 0x08 ∧ k ≠ 0x1B) ∧
  (∃ (s : State) (page : Nat), s.console.isOpen = true ∧ s.console.mode = .item 1 page ∧ s.rd R.PAD_STAGED_FIRST_BAD = 0xFF ∧ s.console.digits.length = 8 ∧ (s.chan 24).uses.length < 16) ∧
  (∃ (s : State) (l : Bytes), s.console.isOpen = true ∧ l = le 1 (s.rd R.DSP_CFG_DIS_LEVEL)) ∧
  (∃ (s : State), s.console.isOpen = true ∧ (s.console.mode = .menu ∨ s.consoleReady = false)) ∧
  (∃ (s : State), s.console.isOpen = false ∨ s.console.mode ≠ .menu ∧ s.consoleReady = true) ∧
  (∃ (s : State), s.console.isOpen = true ∧ 599 ≤ s.console.idle) ∧
  (∃ (s : State), s.console.isOpen = false ∨ s.console.idle < 599) :=
  ⟨⟨st.wrs [(R.ADC_DEV_KIND 2, 3), (R.ADC_DEVR_VALID 2, 1), (R.DSP_STAT_STATE, 3)], by decide +kernel⟩,
   ⟨st, 0x41, by decide +kernel⟩,
   ⟨{ st with console.isOpen := true }, by decide +kernel⟩,
   ⟨{ st with console := { isOpen := true } }, 0, by decide +kernel⟩,
   ⟨{ st with console := { isOpen := true, mode := .item 1 0, digits := [1, 2] } }, 0, 0x41, 10, by decide +kernel⟩,
   ⟨{ st with console := { isOpen := true, mode := .item 1 0, digits := [1, 2, 3, 4, 5, 6, 7, 15] } }, 0, by decide +kernel⟩,
   ⟨{ st with console := { isOpen := true, sel := 2 } }, le 1 (st.rd R.DSP_CFG_DIS_LEVEL), by decide +kernel⟩,
   ⟨{ { st with console.isOpen := true } with console.mode := .menu }, by decide +kernel⟩,
   ⟨{ st with console.isOpen := false }, by decide +kernel⟩,
   ⟨{ st with console := { isOpen := true, idle := 599 } }, by decide +kernel⟩,
   ⟨{ st with console.isOpen := false }, by decide +kernel⟩⟩

/-- The premises of ZoneEvents hold together. -/
theorem meets_ZoneEvents :
  (∃ (s : State) (n kind data value e : Nat), e = (s.zone n).seq + 2 ^ 16 * kind + 2 ^ 24 * data + 2 ^ 32 * value + 2 ^ 48 * (s.stage % 65536)) ∧
  (∃ (s : State) (n : Fin 48), 10 ≤ (s.zone n).bad ∧ s.rd (R.ZON_STAT_SENSOR_LOST n) ≠ 1) ∧
  (∃ (s : State) (n : Fin 48), (s.zone n).bad < 10 ∨ s.rd (R.ZON_STAT_SENSOR_LOST n) = 1) ∧
  (∃ (s : State) (n : Fin 48) (at_ : Nat), (s.zone n).lastEv = some at_ ∧ s.rd (R.ZON_STAT_OCC n) = 1 ∧ at_ + s.rd (R.ZON_CFG_OCC_DELAY n) ≤ s.stage) ∧
  (∃ (s : State) (n : Fin 48) (at_ : Nat), (s.zone n).lastEv = none ∨ (s.zone n).lastEv = some at_ ∧ (s.rd (R.ZON_STAT_OCC n) ≠ 1 ∨ s.stage < at_ + s.rd (R.ZON_CFG_OCC_DELAY n))) ∧
  (∃ (s : State) (n : Fin 48), s.rd (R.ZON_STAT_WINDOW n) = 1 ∧ (s.zone n).winAt + s.rd (R.ZON_CFG_WIN_MAX n) ≤ s.stage) ∧
  (∃ (s : State) (n : Fin 48), s.rd (R.ZON_STAT_WINDOW n) ≠ 1 ∨ s.stage < (s.zone n).winAt + s.rd (R.ZON_CFG_WIN_MAX n)) ∧
  (∃ (s : State) (n : Fin 48), s.rd (R.ZON_INPUT_HOLD_MODE n) = 1 ∧ s.rd (R.ZON_INPUT_HOLD_LEFT n) = 0 ∧ s.rd (R.ZON_STAT_HOLD n) = 1) ∧
  (∃ (s : State) (n : Fin 48), s.rd (R.ZON_INPUT_HOLD_MODE n) ≠ 1 ∨ s.rd (R.ZON_INPUT_HOLD_LEFT n) ≠ 0 ∨ s.rd (R.ZON_STAT_HOLD n) ≠ 1) ∧
  (∃ (s : State) (n : Fin 48) (e : Nat), (s.zone n).gapDue = true ∧ (s.zone n).entries.length < 32 ∧ e = (s.zone n).seq + 2 ^ 16 * 0x0B + 2 ^ 32 * (s.zone n).lost + 2 ^ 48 * (s.stage % 65536)) ∧
  (∃ (s : State) (n : Fin 48), (s.zone n).gapDue = false ∨ 32 ≤ (s.zone n).entries.length) :=
  ⟨⟨st, 5, 1, 2, 0x520, (2 ^ 16 * 1 + 2 ^ 24 * 2 + 2 ^ 32 * 0x520), by decide +kernel⟩,
   ⟨{ st with zones := [(5, { bad := 10 })] }, 5, by decide +kernel⟩,
   ⟨st, 1, by decide +kernel⟩,
   ⟨{ (st.wr (R.ZON_STAT_OCC 5) 1).wr (R.ZON_CFG_OCC_DELAY 5) 1 with zones := [(5, { lastEv := some 3 })], cad.now := 140000 }, 5, 3, by decide +kernel⟩,
   ⟨{ st with zones := [(5, { lastEv := some 3 })] }, 5, 3, by decide +kernel⟩,
   ⟨{ (st.wr (R.ZON_STAT_WINDOW 5) 1).wr (R.ZON_CFG_WIN_MAX 5) 2 with cad.now := 140000 }, 5, by decide +kernel⟩,
   ⟨st, 1, by decide +kernel⟩,
   ⟨st.wrs [(R.ZON_STAT_HOLD 5, 1), (R.ZON_INPUT_HOLD_MODE 5, 1), (R.ZON_INPUT_HOLD_SP 5, 0x500)], 5, by decide +kernel⟩,
   ⟨st, 1, by decide +kernel⟩,
   ⟨{ st with zones := [(5, { seq := 40, lost := 3, gapDue := true })] }, 5, (40 + 2 ^ 16 * 0x0B + 2 ^ 32 * 3), by decide +kernel⟩,
   ⟨st, 1, by decide +kernel⟩⟩

/-- The premises of ZoneOpcodes hold together. -/
theorem meets_ZoneOpcodes :
  (∃ (s : State) (c : Cmd) (n mode sp dur : Nat), s.Ready c ∧ c.payload = le 1 n ++ le 1 mode ++ le 2 sp ++ le 4 dur ∧ n < 48 ∧ s.limp = false ∧ s.zoneOn n = true ∧ (mode = 0 ∧ dur = 0 ∧ sp < 4096 ∨ s.rd (R.ZON_CFG_FROST n) ≤ sp ∧ sp ≤ s.rd (R.ZON_CFG_MAX n) ∧ sp < 4096 ∧ (mode = 1 ∧ 1 ≤ dur ∧ dur ≤ 31536000 ∨ mode = 2 ∧ dur = 0 ∧ s.rd R.ZON_CLOCK_VALID = 1 ∨ mode = 3 ∧ dur = 0))) ∧
  (∃ (s : State) (c : Cmd) (n v : Nat), s.Ready c ∧ c.payload = le 1 n ++ le 1 v ∧ n < 48 ∧ v < 2 ∧ s.limp = false ∧ s.zoneOn n = true) ∧
  (∃ (s : State) (c : Cmd) (n : Nat), s.Ready c ∧ c.payload = le 1 n ∧ n < 48 ∧ s.limp = false ∧ s.zoneOn n = true) ∧
  (∃ (s : State) (c : Cmd) (n : Nat), s.Ready c ∧ c.payload = le 1 n ∧ n < 48 ∧ s.limp = false) ∧
  (∃ (s : State) (c : Cmd) (n f v h : Nat), s.Ready c ∧ c.payload = le 1 n ++ le 1 f ++ le 2 v ++ le 2 h ∧ n < 48 ∧ 1 ≤ f ∧ f ≤ 3 ∧ v < 65536 ∧ h < 65536 ∧ (f % 2 = 1 → v < 4096) ∧ (2 ≤ f → h ≤ 0xFA0) ∧ s.limp = false ∧ (f % 2 = 1 → s.rd (R.ZON_CFG_SRC_KIND n) = 3) ∧ (2 ≤ f → s.rd (R.ZON_CFG_HUM_KIND n) = 3)) ∧
  (∃ (s : State) (c : Cmd) (n v : Nat), s.Ready c ∧ n < 48 ∧ v < 2 ∧ (s.limp = true ∨ s.zoneOn n = false)) ∧
  (∃ (s : State) (c : Cmd) (n v : Nat), s.Ready c ∧ n < 48 ∧ v < 2 ∧ (s.limp = true ∨ s.zoneOn n = false)) ∧
  (∃ (s : State) (c : Cmd) (n : Nat) (rest : Bytes), s.Ready c ∧ c.payload = le 1 n ++ rest ∧ 48 ≤ n ∧ n < 256) ∧
  (∃ (s : State) (c : Cmd) (n m : Nat) (l : List Nat), s.Ready c ∧ c.payload = le 1 n ++ le 1 m ∧ n < 48 ∧ 1 ≤ m ∧ m ≤ 16 ∧ l = (s.zone n).entries.take m) ∧
  (∃ (v : BitVec 64), bits v.toNat 0 6 ≤ 59 ∧ bits v.toNat 6 11 ≤ 1439 ∧ bits v.toNat 17 3 ≤ 6) ∧
  (∃ (v : BitVec 64), 59 < bits v.toNat 0 6 ∨ 1439 < bits v.toNat 6 11 ∨ bits v.toNat 17 3 = 7) ∧
  (∃ (s : State) (v : BitVec 64), s.zonCheck 0x1000 v.toNat = stOk ∧ (∀ n < 48, bit (s.rd R.ZON_ENABLE_EN) n = true → bit v.toNat n = true)) ∧
  (∃ (s : State) (v : BitVec 64), s.zonCheck 0x1000 v.toNat ≠ stOk) ∧
  (∃ (s : State) (v n : Nat), n < 48 ∧ bit v n = true ∧ s.zoneOn n = false ∧ (s.rd (R.ZON_CFG_SRC_KIND n) = 0 ∨ s.rd (R.ZON_CFG_OUT_KIND n) = 0)) :=
  ⟨⟨(st.wr R.ZON_ENABLE_EN 32), ⟨1, 5, [5, 1, 0x00, 0x05, 10, 0, 0, 0]⟩, 5, 1, 0x500, 10, ready _ _ (by decide +kernel), by decide +kernel, by decide +kernel, by decide +kernel, by decide +kernel, by decide +kernel⟩,
   ⟨(st.wr R.ZON_ENABLE_EN 32), ⟨1, 5, [5, 1]⟩, 5, 1, ready _ _ (by decide +kernel), by decide +kernel, by decide +kernel, by decide +kernel, by decide +kernel, by decide +kernel⟩,
   ⟨(st.wr R.ZON_ENABLE_EN 32), ⟨1, 5, [5]⟩, 5, ready _ _ (by decide +kernel), by decide +kernel, by decide +kernel, by decide +kernel, by decide +kernel⟩,
   ⟨st, ⟨1, 5, [5]⟩, 5, ready _ _ (by decide +kernel), by decide +kernel, by decide +kernel, by decide +kernel⟩,
   ⟨st.wrs [(R.ZON_CFG_SRC_KIND 5, 3), (R.ZON_CFG_HUM_KIND 5, 2)], ⟨1, 5, [5, 1, 0x20, 5, 0, 0]⟩, 5, 1, 0x520, 0, ready _ _ (by decide +kernel), by decide +kernel, by decide +kernel, by decide +kernel, by decide +kernel, by decide +kernel, by decide +kernel, by decide +kernel, by decide +kernel, by decide +kernel, by decide +kernel, by decide +kernel⟩,
   ⟨(st.wr R.FLT_STAT_LEVEL 1), ⟨1, 5, [5, 1]⟩, 5, 1, ready _ _ (by decide +kernel), by decide +kernel, by decide +kernel, by decide +kernel⟩,
   ⟨st, ⟨1, 5, [5, 1]⟩, 5, 1, ready _ _ (by decide +kernel), by decide +kernel, by decide +kernel, by decide +kernel⟩,
   ⟨st, ⟨1, 5, [48, 1]⟩, 48, [1], ready _ _ (by decide +kernel), by decide +kernel, by decide +kernel, by decide +kernel⟩,
   ⟨{ st with zones := [(5, { entries := [1, 2, 3], lost := 2 })] }, ⟨1, 5, [5, 2]⟩, 5, 2, [1, 2], ready _ _ (by decide +kernel), by decide +kernel, by decide +kernel, by decide +kernel, by decide +kernel, by decide +kernel⟩,
   ⟨0x60FBB, by decide +kernel⟩,
   ⟨60, by decide +kernel⟩,
   ⟨st.wrs [(R.ZON_CFG_SRC_KIND 5, 3), (R.ZON_CFG_OUT_KIND 5, 1), (R.ZON_CFG_OUT_IDX 5, 9)], 32, by decide +kernel⟩,
   ⟨st, 32, by decide +kernel⟩,
   ⟨(st.wr (R.ZON_CFG_SRC_KIND (5)) (0)), 0x20, 5, by decide +kernel⟩⟩

/-- The premises of ZoneStores hold together. -/
theorem meets_ZoneStores :
  (∃ (s : State) (c : Cmd) (n days : Nat) (pts : List SwPoint), s.Ready c ∧ c.payload = le 1 n ++ le 1 days ++ le 1 pts.length ++ [0] ++ pts.flatMap (fun p => le 2 p.minute ++ le 2 p.sp) ∧ n < 48 ∧ 1 ≤ days ∧ days ≤ 127 ∧ pts.length ≤ 12 ∧ ascending (pts.map (·.minute)) = true ∧ (∀ p ∈ pts, p.minute ≤ 1439 ∧ p.sp ≤ 4095) ∧ s.limp = false ∧ s.gatesClosed = false ∧ (∀ q ∈ s.hay.scheds, q.zone ≠ n ∧ q.id ≠ s.hay.nextId)) ∧
  (∃ (s : State) (c : Cmd) (n days : Nat) (pts : List SwPoint), s.Ready c ∧ c.payload = le 1 n ++ le 1 days ++ le 1 pts.length ++ [0] ++ pts.flatMap (fun p => le 2 p.minute ++ le 2 p.sp) ∧ n < 48 ∧ 1 ≤ days ∧ days ≤ 127 ∧ pts.length ≤ 12 ∧ ascending (pts.map (·.minute)) = true ∧ (∀ p ∈ pts, p.minute ≤ 1439 ∧ p.sp ≤ 4095) ∧ s.limp = false) ∧
  (∃ (s : State) (c : Cmd) (n days : Nat) (pts : List SwPoint), s.Ready c ∧ c.payload = le 1 n ++ le 1 days ++ le 1 pts.length ++ [0] ++ pts.flatMap (fun p => le 2 p.minute ++ le 2 p.sp) ∧ n < 48 ∧ 1 ≤ days ∧ days ≤ 127 ∧ pts.length ≤ 12 ∧ ascending (pts.map (·.minute)) = true ∧ (∀ p ∈ pts, p.minute ≤ 1439 ∧ p.sp ≤ 4095) ∧ s.limp = true) ∧
  (∃ (s : State) (n : Fin 48) (d : Fin 7), s.dayEnded n d = true) ∧
  (∃ (s : State) (n : Fin 48) (d : Fin 7), s.dayEnded n d = false) ∧
  (∃ (s : State) (c : Cmd) (n d : Nat) (pts : List SwPoint), s.Ready c ∧ c.payload = le 1 n ++ le 1 d ∧ n < 48 ∧ d < 7 ∧ pts = (mget? (s.zone n).newDays d).getD (mget [] (s.zone n).days d)) ∧
  (∃ (s : State) (c : Cmd), s.Ready c ∧ c.payload = [0, 0, 0, 0, 0, 0, 0, 0] ∧ s.limp = false) ∧
  (∃ (s : State) (c : Cmd) (m : Nat), s.Ready c ∧ c.payload = le 8 m ∧ 0 < m ∧ m < 2 ^ 49 ∧ s.limp = false ∧ s.gatesClosed = false) ∧
  (∃ (s : State) (c : Cmd) (m : Nat), s.Ready c ∧ c.payload = le 8 m ∧ m < 2 ^ 64) :=
  ⟨⟨st, ⟨1, 5, [5, 0x03, 1, 0, 60, 0, 0x10, 5]⟩, 5, 3, [⟨60, 0x510⟩], ready _ _ (by decide +kernel), by decide +kernel, by decide +kernel, by decide +kernel, by decide +kernel, by decide +kernel, by decide +kernel, by decide +kernel, by decide +kernel, by decide +kernel, by decide +kernel⟩,
   ⟨{ st with hay.scheds := [⟨0, ⟨1, 9, 0x11, 0⟩, 5, 1, 0, [], false⟩], hay.reqs := [⟨1, 249, .sched 0 0, 3, false⟩], hay.nextId := 2 }, ⟨1, 5, [5, 0x03, 1, 0, 60, 0, 0x10, 5]⟩, 5, 3, [⟨60, 0x510⟩], ready _ _ (by decide +kernel), by decide +kernel, by decide +kernel, by decide +kernel, by decide +kernel, by decide +kernel, by decide +kernel, by decide +kernel, by decide +kernel⟩,
   ⟨(st.wr R.FLT_STAT_LEVEL 1), ⟨1, 5, [5, 0x03, 1, 0, 60, 0, 0x10, 5]⟩, 5, 3, [⟨60, 0x510⟩], ready _ _ (by decide +kernel), by decide +kernel, by decide +kernel, by decide +kernel, by decide +kernel, by decide +kernel, by decide +kernel, by decide +kernel, by decide +kernel⟩,
   ⟨{ st with hay := { cur := some ⟨⟨7, 249, .sched 3 2, 0, true⟩, 40, [], false, false, 3, false, true, true, 0, 0, true, false⟩, scheds := [⟨3, ⟨1, 5, 0x11, 0⟩, 5, 4, 0, [], false⟩] } }, 5, 2, by decide +kernel⟩,
   ⟨st, 1, 1, by decide +kernel⟩,
   ⟨{ st with zones := [(5, { days := [(2, [⟨60, 0x510⟩])] })] }, ⟨1, 5, [5, 2]⟩, 5, 2, [⟨60, 0x510⟩], ready _ _ (by decide +kernel), by decide +kernel, by decide +kernel, by decide +kernel, by decide +kernel⟩,
   ⟨st, ⟨1, 5, [0, 0, 0, 0, 0, 0, 0, 0]⟩, ready _ _ (by decide +kernel), by decide +kernel, by decide +kernel⟩,
   ⟨st, ⟨1, 5, [0x21, 0, 0, 0, 0, 0, 1, 0]⟩, 0x1000000000021, ready _ _ (by decide +kernel), by decide +kernel, by decide +kernel, by decide +kernel, by decide +kernel, by decide +kernel⟩,
   ⟨st, ⟨1, 5, [0, 0, 0, 0, 0, 0, 2, 0]⟩, 0x2000000000000, ready _ _ (by decide +kernel), by decide +kernel, by decide +kernel⟩⟩

/-- The premises of LoopStep hold together. -/
theorem meets_LoopStep :
  (∃ (s : State) (n : Nat) (i : Int) (b : Bool) (d : Nat), (s.zone n).iReset = false ∧ s.rd (R.ZON_STAT_T_VALID n) = 1 ∧ s.rd (R.ZON_STAT_SENSOR_LOST n) ≠ 1 ∧ piStep ((s.rd (R.ZON_SETPT_EFF n) : Int) - s.rd (R.ZON_STAT_TEMP n)) (s.rd (R.ZON_LOOP_KP n)) (s.rd (R.ZON_LOOP_KI n)) (s.rd (R.ZON_STAT_INTEG n)) = (i, b, d)) ∧
  (∃ (s : State) (n : Nat), (s.zone n).iReset = false ∧ (s.rd (R.ZON_STAT_T_VALID n) ≠ 1 ∨ s.rd (R.ZON_STAT_SENSOR_LOST n) = 1)) :=
  ⟨⟨st.wrs [(R.ZON_STAT_T_VALID 5, 1), (R.ZON_STAT_TEMP 5, 0x52A), (R.ZON_SETPT_EFF 5, 0x540), (R.ZON_LOOP_KP 5, 0x400), (R.ZON_LOOP_KI 5, 0x800), (R.ZON_STAT_INTEG 5, 117964800)], 5, (117964800 + 45056), false, 1889, by decide +kernel⟩,
   ⟨st, 3, by decide +kernel⟩⟩

/-- The premises of PwmLatches hold together. -/
theorem meets_PwmLatches :
  (∃ (s : State) (n : Nat), s.rd (R.PWM_CH_LATCHED n) ≠ 1) ∧
  (∃ (s : State) (n : Nat), s.rd (R.PWM_CH_LATCHED n) = 1) ∧
  (∃ (s : State) (ch : Fin 96), ch.val < 80 ∧ s.rd (R.PWM_CH_CUT_NOW ch) ≠ 1 ∧ s.rd (R.PWM_CH_LATCHED ch) ≠ 1 ∧ s.pulses ch = true ∧ s.grpOn (ch / 8) = true ∧ s.pwm.stopped = false ∧ s.rd (R.PWM_CH_CUTS ch) < 7) ∧
  (∃ (s : State) (ch : Fin 96), ch.val < 80 ∧ s.rd (R.PWM_CH_CUT_NOW ch) ≠ 1 ∧ s.rd (R.PWM_CH_LATCHED ch) ≠ 1 ∧ s.pulses ch = true ∧ s.grpOn (ch / 8) = true ∧ s.pwm.stopped = false ∧ 7 ≤ s.rd (R.PWM_CH_CUTS ch)) ∧
  (∃ (s : State) (ch : Fin 96), 80 ≤ ch.val ∨ s.rd (R.PWM_CH_CUT_NOW ch) = 1 ∨ s.rd (R.PWM_CH_LATCHED ch) = 1 ∨ s.pulses ch = false ∨ s.grpOn (ch / 8) = false ∨ s.pwm.stopped = true) ∧
  (∃ (ch : Fin 96), ch.val < 48) ∧
  (∃ (ch : Fin 96), 48 ≤ ch.val ∧ ch.val < 80) ∧
  (∃ (ch : Fin 96), 48 ≤ ch.val ∧ ch.val < 80) ∧
  (∃ (ch : Fin 96), 80 ≤ ch.val) ∧
  (∃ (s : State) (ch : Fin 96), s.rd (R.PWM_CH_CUTS ch) = 7) ∧
  (∃ (s : State) (ch : Fin 96), s.rd (R.PWM_CH_CUTS ch) ≠ 7) ∧
  (∃ (s : State) (g : Fin 12), s.rd (R.PWM_GRP_FLT_IN g) ≠ 1) ∧
  (∃ (s : State) (g : Fin 12), s.rd (R.PWM_GRP_FLT_IN g) ≠ 1) ∧
  (∃ (s : State) (g : Fin 12), s.rd (R.PWM_GRP_FLT_IN g) = 1) ∧
  (∃ (s : State) (c : Cmd) (m : Nat), s.Ready c ∧ c.payload = le 12 m ∧ 0 < m ∧ m < 2 ^ 96 ∧ bits m 48 32 = 0) ∧
  (∃ (s : State) (c : Cmd) (m : Nat), s.Ready c ∧ c.payload = le 12 m ∧ m < 2 ^ 96) :=
  ⟨⟨st, 50, by decide +kernel⟩,
   ⟨(st.wr (R.PWM_CH_LATCHED (3)) (1)), 3, by decide +kernel⟩,
   ⟨(st.wrs [(R.PWM_STAT_EN, 32), (R.PWM_CH_OFF_ACT 41, 9)]), 41, by decide +kernel⟩,
   ⟨(st.wrs [(R.PWM_STAT_EN, 32), (R.PWM_CH_OFF_ACT 41, 9), (R.PWM_CH_CUTS 41, 7)]), 41, by decide +kernel⟩,
   ⟨st, 82, by decide +kernel⟩,
   ⟨41, by decide +kernel⟩,
   ⟨51, by decide +kernel⟩,
   ⟨51, by decide +kernel⟩,
   ⟨80, by decide +kernel⟩,
   ⟨(st.wr (R.PWM_CH_CUTS 41) 7), 41, by decide +kernel⟩,
   ⟨st, 1, by decide +kernel⟩,
   ⟨(st.wr (R.PWM_GRP_FLT_MODE 6) 1), 6, by decide +kernel⟩,
   ⟨(st.wr (R.PWM_GRP_FLT_MODE 6) 2), 6, by decide +kernel⟩,
   ⟨(st.wr (R.PWM_GRP_FLT_IN 6) 1), 6, by decide +kernel⟩,
   ⟨(st.wr (R.PWM_CH_LATCHED 82) 1), ⟨1, 5, [0, 0, 0, 0, 0, 0, 0, 0, 0, 0, 5, 0]⟩, (2 ^ 80 + 2 ^ 82), ready _ _ (by decide +kernel), by decide +kernel, by decide +kernel, by decide +kernel, by decide +kernel⟩,
   ⟨st, ⟨1, 5, [0, 0, 0, 0, 0, 0, 4, 0, 0, 0, 5, 0]⟩, (2 ^ 50 + 2 ^ 80 + 2 ^ 82), ready _ _ (by decide +kernel), by decide +kernel, by decide +kernel⟩⟩

/-- The premises of PwmTimebases hold together. -/
theorem meets_PwmTimebases :
  (∃ (s : State) (g : Fin 12), s.grpOn g = true ∧ s.pwm.stopped = false) ∧
  (∃ (s : State) (g : Fin 12), s.grpOn g = false ∨ s.pwm.stopped = true) ∧
  (∃ (s : State), s.pwm.stopped = true) ∧
  (∃ (s : State), s.pwm.stopped = false) ∧
  (∃ (s : State), s.pwm.calRun = true) ∧
  (∃ (s : State) (g n : Nat), (s.grp g).swap = some n) ∧
  (∃ (s : State), s.pwm.calRun = false) ∧
  (∃ (s : State) (c : Cmd) (m : Nat), s.Ready c ∧ c.payload = le 2 m ∧ 1 ≤ m ∧ m ≤ 4095 ∧ (∀ g < 12, bit m g = true → s.rd (R.PWM_GRP_UPD_MODE g) ≠ 0)) ∧
  (∃ (s : State) (c : Cmd) (m : Nat), s.Ready c ∧ c.payload = le 2 m ∧ m < 65536 ∧ (m = 0 ∨ 4095 < m ∨ (((List.range 12).any fun g => bit m g && s.rd (R.PWM_GRP_UPD_MODE g) == 0) = true))) ∧
  (∃ (s : State) (c : Cmd) (m : Nat), s.Ready c ∧ c.payload = le 2 m ∧ m < 65536 ∧ (m = 0 ∨ 4095 < m ∨ (((List.range 12).any fun g => bit m g && s.rd (R.PWM_GRP_UPD_MODE g) == 0) = true))) ∧
  (∃ (s : State) (c : Cmd) (m : Nat), s.Ready c ∧ c.payload = le 2 m ∧ 1 ≤ m ∧ m ≤ 4095 ∧ (∀ g < 12, bit m g = true → s.grpOn g = true)) ∧
  (∃ (s : State) (c : Cmd) (m : Nat), s.Ready c ∧ c.payload = le 2 m ∧ 1 ≤ m ∧ m ≤ 4095 ∧ (((List.range 12).any fun g => bit m g && !s.grpOn g) = true)) ∧
  (∃ (s : State) (c : Cmd) (en dis : Nat), s.Ready c ∧ c.payload = le 2 en ++ le 2 dis ∧ en ≤ 4095 ∧ dis ≤ 4095 ∧ en &&& dis = 0 ∧ (en = 0 ∨ s.actRefused = false)) ∧
  (∃ (s : State) (c : Cmd) (en dis : Nat), s.Ready c ∧ c.payload = le 2 en ++ le 2 dis ∧ en < 65536 ∧ dis < 65536) :=
  ⟨⟨(st.wrs [(R.PWM_STAT_EN, 64), (R.PWM_GRP_PER 6, 9600)]), 6, by decide +kernel⟩,
   ⟨st, 1, by decide +kernel⟩,
   ⟨{ st.wr R.PWM_STAT_EN 64 with pwm.stopped := true, pwm.grps := [(6, { cnt := 77 })], pwr.force := [3] }, by decide +kernel⟩,
   ⟨{ st with pwm.stopped := false }, by decide +kernel⟩,
   ⟨{ st.wr R.PWM_STAT_EN 64 with pwm.calRun := true }, by decide +kernel⟩,
   ⟨{ st with pwm.grps := [(6, { swap := some 100 })] }, 6, 100, by decide +kernel⟩,
   ⟨{ st with pwm.calRun := false }, by decide +kernel⟩,
   ⟨(st.wrs [(R.PWM_GRP_UPD_MODE 6, 1), (R.PWM_GRP_UPD_MODE 7, 1)]), ⟨1, 5, [0xC0, 0]⟩, 0xC0, ready _ _ (by decide +kernel), by decide +kernel, by decide +kernel, by decide +kernel, by decide +kernel⟩,
   ⟨st, ⟨1, 5, [0x40, 0]⟩, 0x40, ready _ _ (by decide +kernel), by decide +kernel, by decide +kernel, by decide +kernel⟩,
   ⟨st, ⟨1, 5, [0, 0x10]⟩, 0x1000, ready _ _ (by decide +kernel), by decide +kernel, by decide +kernel, by decide +kernel⟩,
   ⟨(st.wr R.PWM_STAT_EN 64), ⟨1, 5, [0x40, 0]⟩, 0x40, ready _ _ (by decide +kernel), by decide +kernel, by decide +kernel, by decide +kernel, by decide +kernel⟩,
   ⟨st, ⟨1, 5, [0x40, 0]⟩, 0x40, ready _ _ (by decide +kernel), by decide +kernel, by decide +kernel, by decide +kernel, by decide +kernel⟩,
   ⟨(st.wr R.PWM_STAT_EN 64), ⟨1, 5, [1, 0, 0x40, 0]⟩, 1, 0x40, ready _ _ (by decide +kernel), by decide +kernel, by decide +kernel, by decide +kernel, by decide +kernel, by decide +kernel⟩,
   ⟨st, ⟨1, 5, [1, 0, 1, 0]⟩, 1, 1, ready _ _ (by decide +kernel), by decide +kernel, by decide +kernel, by decide +kernel⟩⟩

/-- The premises of ActuatorCommands hold together. -/
theorem meets_ActuatorCommands :
  (∃ (s : State) (c : Cmd) (i : Instr) (op k : Nat) (q : List ActReq), (i, op, k) ∈ [(Instr.actValve c, 0x28, 0), (.actBrMove c, 0x29, 1), (.actBrClear c, 0x2A, 1), (.actFan c, 0x2B, 2), (.actRamp c, 0x2C, 3), (.actAux c, 0x2D, 4)] ∧ s.Ready c ∧ q = mget [] s.act.queues k) ∧
  (∃ (s : State) (c : Cmd) (i : Instr) (op k : Nat) (q : List ActReq), (i, op, k) ∈ [(Instr.actValve c, 0x28, 0), (.actBrMove c, 0x29, 1), (.actBrClear c, 0x2A, 1), (.actFan c, 0x2B, 2), (.actRamp c, 0x2C, 3), (.actAux c, 0x2D, 4)] ∧ s.Ready c ∧ q = mget [] s.act.queues k) ∧
  (∃ (p : Bytes), p.length = 4 ∧ u8 p 0 < 48 ∧ u16 p 2 < 4096) ∧
  (∃ (s : State) (k : Nat), k < 16 ∧ 5 ≤ s.rd (R.ACT_BR_STATE k)) ∧
  (∃ (s : State) (c : Cmd), s.Ready c ∧ c.payload = [] ∧ s.gatesClosed = false) ∧
  (∃ (s : State) (c : Cmd), s.Ready c ∧ c.payload ≠ []) ∧
  (∃ (v : BitVec 512), ksRefused (bits v.toNat 0 320) = false) ∧
  (∃ (v : BitVec 512), ksRefused (bits v.toNat 0 320) = true) :=
  ⟨⟨st, ⟨1, 5, [5, 0, 0x10, 2]⟩, .actValve ⟨1, 5, [5, 0, 0x10, 2]⟩, 0x28, 0, [], by decide +kernel, ready _ _ (by decide +kernel), by decide +kernel⟩,
   ⟨st, ⟨1, 5, [5, 0, 0x10, 2]⟩, .actAux ⟨1, 5, [5, 0, 0x10, 2]⟩, 0x2D, 4, [], by decide +kernel, ready _ _ (by decide +kernel), by decide +kernel⟩,
   ⟨[9, 0, 0x10, 2], by decide +kernel⟩,
   ⟨(st.wrs [(R.ACT_BR_STATE 3, 6), (R.PWM_CH_LATCHED 54, 1), (R.PWM_CH_LATCHED 55, 1), (R.PWM_CH_CUTS 54, 3), (R.ACT_BR_POS_OK 3, 1)]), 3, by decide +kernel⟩,
   ⟨st, ⟨1, 5, []⟩, ready _ _ (by decide +kernel), by decide +kernel, by decide +kernel⟩,
   ⟨st, ⟨1, 5, [1]⟩, ready _ _ (by decide +kernel), by decide +kernel⟩,
   ⟨0x10101, by decide +kernel⟩,
   ⟨0x15, by decide +kernel⟩⟩

/-- The premises of ActuatorEvents hold together. -/
theorem meets_ActuatorEvents :
  (∃ (s : State) (n : Fin 48), s.rd (R.ACT_VLV_STATE n) ≠ 4 ∧ s.valveDemand n ≠ 0 ∧ ((s.valve n).cycling = false ∨ (s.valve n).cycEnd ≤ s.ticks)) ∧
  (∃ (s : State) (n : Fin 48), s.rd (R.ACT_VLV_STATE n) = 4 ∨ s.valveDemand n = 0 ∨ (s.valve n).cycling = true ∧ s.ticks < (s.valve n).cycEnd) ∧
  (∃ (s : State) (n : Fin 48), (s.valve n).cycling = true ∧ (s.valve n).onEnd ≤ s.ticks ∧ s.rd (R.ACT_VLV_STATE n) ≠ 4) ∧
  (∃ (s : State) (n : Fin 48), (s.valve n).cycling = false ∨ s.ticks < (s.valve n).onEnd ∨ s.rd (R.ACT_VLV_STATE n) = 4) ∧
  (∃ (s : State) (n : Fin 48), s.rd (R.ACT_VLV_STATE n) = 2 ∧ s.rd (R.ACT_VLV_LEFT n) ≤ 1 ∧ (s.valve n).rose = true ∧ s.rd (R.ACT_VGRP_RECOV (n / 8)) ≠ 1) ∧
  (∃ (s : State) (n : Fin 48), s.rd (R.ACT_VLV_STATE n) ≠ 2 ∨ 1 < s.rd (R.ACT_VLV_LEFT n) ∨ (s.valve n).rose = false ∨ s.rd (R.ACT_VGRP_RECOV (n / 8)) = 1) ∧
  (∃ (s : State) (g : Fin 6) (low : Bool), s.rd (R.ACT_VGRP_RECOV g) = 1 ∧ (low = true ∨ 9 ≤ (s.vgrp g).runs)) ∧
  (∃ (s : State) (g : Fin 6) (low : Bool), s.rd (R.ACT_VGRP_RECOV g) = 1 ∧ (low = true ∨ 9 ≤ (s.vgrp g).runs)) ∧
  (∃ (s : State) (g : Fin 6), s.rd (R.ACT_VGRP_RECOV g) ≠ 1) ∧
  (∃ (s : State) (g : Fin 6), s.rd (R.ACT_VGRP_RECOV g) ≠ 1 ∨ (s.vgrp g).runs < 9) ∧
  (∃ (s : State) (b : Fin 16), (s.rd (R.ACT_BR_STATE b) = 1 ∨ s.rd (R.ACT_BR_STATE b) = 2) ∧ s.rd (R.ACT_BR_LEFT b) = 0) ∧
  (∃ (s : State) (b : Fin 16), (s.rd (R.ACT_BR_STATE b) = 1 ∨ s.rd (R.ACT_BR_STATE b) = 2) ∧ s.rd (R.ACT_BR_LEFT b) = 0) ∧
  (∃ (s : State) (b : Fin 16), ¬ (s.rd (R.ACT_BR_STATE b) = 1 ∨ s.rd (R.ACT_BR_STATE b) = 2) ∨ s.rd (R.ACT_BR_LEFT b) ≠ 0) ∧
  (∃ (s : State) (b : Fin 16), s.rd (R.ACT_BR_STATE b) = 3 ∧ (s.bridge b).coast = 0) ∧
  (∃ (s : State) (b : Fin 16), s.rd (R.ACT_BR_STATE b) ≠ 3 ∨ (s.bridge b).coast ≠ 0) ∧
  (∃ (s : State) (b : Fin 16), s.rd (R.ACT_BR_STATE b) = 4) ∧
  (∃ (s : State) (b : Fin 16), s.rd (R.ACT_BR_STATE b) ≠ 4 ∨ (∀ r ∈ s.pwr.wait, r.kind = .reversal b → s.ticks < r.since + 1024)) ∧
  (∃ (s : State) (f : Fin 8), s.rd (R.ACT_FAN_STALL_T f) ≤ (s.fan f).slow ∧ 0 < (s.fan f).slow ∧ s.rd (R.ACT_FAN_STALL f) ≠ 1) ∧
  (∃ (s : State) (f : Fin 8), (s.fan f).slow < s.rd (R.ACT_FAN_STALL_T f) ∨ (s.fan f).slow = 0 ∨ s.rd (R.ACT_FAN_STALL f) = 1) ∧
  (∃ (s : State) (v : Fin 8) (r : Ref), (s.ramp v).cmd = some r ∧ (s.ramp v).next = none ∧ s.rd (R.ACT_VOUT_CODE v) = s.rd (R.ACT_VOUT_TARGET v)) ∧
  (∃ (s : State) (v : Fin 8), (s.ramp v).cmd = none ∨ (s.ramp v).next ≠ none ∨ s.rd (R.ACT_VOUT_CODE v) ≠ s.rd (R.ACT_VOUT_TARGET v)) :=
  ⟨⟨{ st with act.valves := [(5, { cmd := 0x800 })] }, 5, by decide +kernel⟩,
   ⟨(st.wr (R.ACT_VLV_STATE (1)) (4)), 1, by decide +kernel⟩,
   ⟨{ st.wr (R.ACT_VLV_STATE 5) 3 with act.valves := [(5, { cycling := true })] }, 5, by decide +kernel⟩,
   ⟨st, 1, by decide +kernel⟩,
   ⟨{ st.wrs [(R.ACT_VLV_STATE 5, 2), (R.ACT_VLV_LEFT 5, 1)] with act.valves := [(5, { rose := true })] }, 5, by decide +kernel⟩,
   ⟨st, 1, by decide +kernel⟩,
   ⟨{ st.wrs [(R.ACT_VGRP_RECOV 2, 1), (R.ACT_VGRP_PAUSED 2, 3), (R.ACT_VGRP_GSNS_HI 2, 1)] with act.vgrps := [(2, { runs := 9, short := some 4 })] }, 2, true, by decide +kernel⟩,
   ⟨{ st.wrs [(R.ACT_VGRP_RECOV 2, 1), (R.ACT_VGRP_PAUSED 2, 3), (R.ACT_VGRP_GSNS_HI 2, 1), (R.PWM_STAT_EN, 4)] with act.vgrps := [(2, { runs := 9 })] }, 2, false, by decide +kernel⟩,
   ⟨st, 2, by decide +kernel⟩,
   ⟨st, 1, by decide +kernel⟩,
   ⟨(st.wrs [(R.ACT_BR_STATE 3, 1)]), 3, by decide +kernel⟩,
   ⟨{ st.wrs [(R.ACT_BR_STATE 3, 1)] with act.bridges := [(3, { dir := 1, endRun := true, cmd := some ⟨1, 5, 0x29, 0⟩ })] }, 3, by decide +kernel⟩,
   ⟨st, 1, by decide +kernel⟩,
   ⟨{ st.wrs [(R.ACT_BR_STATE 3, 3)] with act.bridges := [(3, { dir := 2, ticks := 40 })] }, 3, by decide +kernel⟩,
   ⟨st, 1, by decide +kernel⟩,
   ⟨{ st.wrs [(R.ACT_BR_STATE 3, 4)] with pwr.wait := [⟨2, 40, .reversal 3, 0⟩], cad.now := 40000 }, 3, by decide +kernel⟩,
   ⟨st, 1, by decide +kernel⟩,
   ⟨{ st.wrs [(R.ACT_FAN_STALL_T 2, 3)] with act.fans := [(2, { slow := 3 })] }, 2, by decide +kernel⟩,
   ⟨st, 2, by decide +kernel⟩,
   ⟨{ st with act.ramps := [(2, { cmd := some ⟨1, 5, 0x2C, 0⟩ })] }, 2, ⟨1, 5, 0x2C, 0⟩, by decide +kernel⟩,
   ⟨st, 2, by decide +kernel⟩⟩

/-- The premises of Converters hold together. -/
theorem meets_Converters :
  (∃ (s : State) (u : Fin 2) (q : SeqRun), (s.adcu u).seq = some q) ∧
  (∃ (s : State) (u : Fin 2) (q : SeqRun), (s.adcu u).seq = some q) ∧
  (∃ (s : State) (u : Fin 2), (s.adcu u).seq = none) ∧
  (∃ (s : State) (u : Fin 2) (i : Nat), (s.adcu u).single = some i ∧ (s.adcu u).pend = none ∧ (s.adcu u).seqPend = false ∧ s.adc.conv = none) ∧
  (∃ (s : State) (u : Fin 2) (i : Nat) (r : Ref), (s.adcu u).single = some i ∧ (s.adcu u).pend = none ∧ (s.adcu u).seqPend = false ∧ s.adc.conv = some r) ∧
  (∃ (s : State) (u : Fin 2), (s.adcu u).single = none) ∧
  (∃ (s : State) (u : Fin 2), (s.adcu u).seq = none ∧ (s.adcu u).rsv = false ∧ (s.adcu u).single = none ∧ (s.adcu u).pend ≠ none) ∧
  (∃ (s : State) (u : Fin 2), (s.adcu u).seq ≠ none ∨ (s.adcu u).rsv = true ∨ (s.adcu u).single ≠ none ∨ (s.adcu u).pend = none) ∧
  (∃ (s : State) (u : Nat), u < 2 ∧ s.unitOff u = false) ∧
  (∃ (s : State) (u : Nat), u < 2 ∧ s.unitOff u = false) ∧
  (∃ (s : State) (v : BitVec 32) (i u : Nat), i = bits v.toNat 0 6 ∧ u = i / 32 ∧ bit v.toNat 8 = true ∧ s.unitOff u = false) ∧
  (∃ (s : State) (v : BitVec 32) (i u : Nat), i = bits v.toNat 0 6 ∧ u = i / 32 ∧ bit v.toNat 8 = true ∧ s.unitOff u = false) ∧
  (∃ (v : BitVec 32), bit v.toNat 8 = false) ∧
  (∃ (s : State) (c : Cmd) (i u : Nat), s.Ready c ∧ c.payload = le 1 i ∧ i < 64 ∧ u = i / 32 ∧ s.adcBusy = false ∧ (s.limp = false ∨ i < 32) ∧ s.unitOff u = false ∧ (s.adcu u).seq = none ∧ (s.adcu u).rsv = false) ∧
  (∃ (s : State) (c : Cmd) (i : Nat), s.Ready c ∧ c.payload = le 1 i ∧ i < 256) ∧
  (∃ (s : State) (c : Cmd) (i : Nat), s.Ready c ∧ c.payload = le 1 i ∧ i < 256) ∧
  (∃ (s : State) (c : Cmd), s.Ready c ∧ c.payload = [] ∧ s.gatesClosed = false) :=
  ⟨⟨{ st with adc.units := [(1, { seq := some ⟨3, 0, [7, 9], 0, true⟩ })] }, 1, ⟨3, 0, [7, 9], 0, true⟩, by decide +kernel⟩,
   ⟨{ st with adc.units := [(1, { seq := some ⟨3, 0, [7, 9], 1, true⟩, pend := some 40 })] }, 1, ⟨3, 0, [7, 9], 1, true⟩, by decide +kernel⟩,
   ⟨st, 1, by decide +kernel⟩,
   ⟨{ st.wr R.ADC_DATA_NEW 1 with adc.units := [(1, { single := some 40 })] }, 1, 40, by decide +kernel⟩,
   ⟨{ st with adc.units := [(1, { single := some 40 })], adc.conv := some ⟨1, 5, 0x30, 0⟩, spoke.chans := [(1, { uses := [⟨5, 0x30, [40], true, false⟩] })] }, 1, 40, ⟨1, 5, 0x30, 0⟩, by decide +kernel⟩,
   ⟨st, 1, by decide +kernel⟩,
   ⟨{ st with adc.units := [(1, { pend := some 40 })] }, 1, by decide +kernel⟩,
   ⟨st, 1, by decide +kernel⟩,
   ⟨st, 1, by decide +kernel⟩,
   ⟨{ st with adc.units := [(1, { seq := some ⟨3, 0, [7, 9], 0, true⟩ })] }, 1, by decide +kernel⟩,
   ⟨st, (0x100 + 40), 40, 1, by decide +kernel⟩,
   ⟨{ st with adc.units := [(1, { rsv := true })] }, (0x100 + 40), 40, 1, by decide +kernel⟩,
   ⟨40, by decide +kernel⟩,
   ⟨st, ⟨1, 5, [40]⟩, 40, 1, ready _ _ (by decide +kernel), by decide +kernel, by decide +kernel, by decide +kernel, by decide +kernel, by decide +kernel, by decide +kernel, by decide +kernel, by decide +kernel⟩,
   ⟨{ st with adc.units := [(1, { single := some 40 })] }, ⟨1, 5, [40]⟩, 40, ready _ _ (by decide +kernel), by decide +kernel, by decide +kernel⟩,
   ⟨{ st with adc.units := [(1, { single := some 40 })] }, ⟨1, 5, [64]⟩, 64, ready _ _ (by decide +kernel), by decide +kernel, by decide +kernel⟩,
   ⟨st, ⟨1, 5, []⟩, ready _ _ (by decide +kernel), by decide +kernel, by decide +kernel⟩⟩

/-- The premises of SensorPorts hold together. -/
theorem meets_SensorPorts :
  (∃ (s : State) (d : Fin 16), s.devOn d = true ∧ s.portsWork = true) ∧
  (∃ (s : State) (d : Fin 16), s.devOn d = true ∧ s.portsWork = true) ∧
  (∃ (s : State) (d : Fin 16), s.devOn d = false ∨ s.portsWork = false) ∧
  (∃ (s : State) (p : Fin 3) (tr : Trans), (s.port p).run = some tr) ∧
  (∃ (s : State) (p err : Fin 3) (tr : Trans), (s.port p).run = some tr ∧ err ≠ 0) ∧
  (∃ (s : State) (p : Fin 3) (tr : Trans), (s.port p).run = some tr) ∧
  (∃ (s : State) (p : Fin 3), (s.port p).run = none) ∧
  (∃ (s : State) (d : Fin 16), 8 ≤ s.rd (R.ADC_DEVR_AGE d)) ∧
  (∃ (s : State) (d : Fin 16), s.rd (R.ADC_DEVR_AGE d) < 8) ∧
  (∃ (s : State) (u : Nat) (r : AdcRes), s.rd (R.ADC_INCFG_NOTE (32 * u + r.input)) ≠ 1) ∧
  (∃ (raw : Nat), raw < 4096) ∧
  (∃ (raw : Nat), raw < 4096) :=
  ⟨⟨st.wrs [(R.ADC_DEV_PORT 4, 1), (R.ADC_DEV_KIND 4, 1), (R.ADC_DEV_PERIOD 4, 100)], 4, by decide +kernel⟩,
   ⟨{ st.wrs [(R.ADC_DEV_PORT 4, 1), (R.ADC_DEV_KIND 4, 1), (R.ADC_DEV_PERIOD 4, 100)] with adc.devs := [(4, { due := some 3 })] }, 4, by decide +kernel⟩,
   ⟨st, 1, by decide +kernel⟩,
   ⟨{ st.wr R.ADC_SPT_ACTIVE 2 with adc.ports := [(1, { run := some ⟨4, 2⟩ })] }, 1, ⟨4, 2⟩, by decide +kernel⟩,
   ⟨{ st.wr R.ADC_SPT_ACTIVE 2 with adc.ports := [(1, { run := some ⟨4, 2⟩ })], adc.devs := [(4, { good := true, part := [1] })] }, 1, 2, ⟨4, 2⟩, by decide +kernel⟩,
   ⟨{ st.wr R.ADC_SPT_ACTIVE 2 with adc.ports := [(1, { run := some ⟨4, 2⟩ })] }, 1, ⟨4, 2⟩, by decide +kernel⟩,
   ⟨st, 1, by decide +kernel⟩,
   ⟨(st.wrs [(R.ADC_DEVR_AGE 4, 8), (R.ADC_DEVR_VALID 4, 1)]), 4, by decide +kernel⟩,
   ⟨(st.wr (R.ADC_DEVR_AGE 1) 3), 1, by decide +kernel⟩,
   ⟨(st.wr (R.ADC_INCFG_NOTE 7) 0), 0, ⟨7, 0x914, false, false⟩, by decide +kernel⟩,
   ⟨0x914, by decide +kernel⟩,
   ⟨0x914, by decide +kernel⟩⟩

/-- The premises of PaddockEvents hold together. -/
theorem meets_PaddockEvents :
  (∃ (s : State) (i : Instr), i ∈ [Instr.sltTrip, .sltRelease, .sltSens, .sdirRelease, .slpFault, .frostDemandOn, .frostDemandOff, .clkFault, .laneFault, .heartbeatLapse, .rearmWindowEnd, .armed, .stagedBlockExpire, .padCommitActivate] ∧ s.pwr.pad = false) ∧
  (∃ (s : State) (n : Fin 4) (m : Fin 8) (i : Instr), i ∈ [Instr.fbFault n, .weld n, .proofWindowOpen n, .proofDeadline n, .proofTestEnd n, .discrepant m, .safetyInputFilter m true false, .safetyInputFilter m false true, .heartbeatResponse 7] ∧ s.pwr.pad = false) ∧
  (∃ (s : State), s.pwr.pad = true) ∧
  (∃ (s : State), s.pwr.pad = true) ∧
  (∃ (s : State), s.pwr.pad = true) ∧
  (∃ (s : State), s.pwr.pad = true) ∧
  (∃ (s : State), s.pwr.pad = true) ∧
  (∃ (s : State), s.pwr.pad = true) ∧
  (∃ (s : State) (n : Fin 4) (l : List Ref), s.pwr.pad = true ∧ (s.pad.outp n).test = true ∧ (s.pad.outp n).cmds = l) ∧
  (∃ (s : State) (n : Fin 4), s.pwr.pad = true ∧ (s.pad.outp n).test = false) ∧
  (∃ (s : State), s.pwr.pad = true) ∧
  (∃ (s : State), s.pwr.pad = true) ∧
  (∃ (s : State), s.pwr.pad = true) ∧
  (∃ (s : State), s.pwr.pad = true) ∧
  (∃ (s : State), s.pwr.pad = true) ∧
  (∃ (s : State), s.pwr.pad = true) ∧
  (∃ (s : State), s.pwr.pad = true) ∧
  (∃ (s : State), s.pwr.pad = true) ∧
  (∃ (s : State), s.pwr.pad = true) ∧
  (∃ (s : State), s.pwr.pad = true) ∧
  (∃ (s : State), s.pwr.pad = true) ∧
  (∃ (s : State), s.pwr.pad = true) ∧
  (∃ (s : State), s.pwr.pad = true ∧ s.pad.writing = none) ∧
  (∃ (s : State) (w : PadWrite), s.pwr.pad = true ∧ s.pad.writing = some w) :=
  ⟨⟨{ st with pwr.pad := false, pad.sltHi := 21 }, .sltTrip, by decide +kernel⟩,
   ⟨{ st with pwr.pad := false, pad.outs := [(2, { on := true })] }, 2, 5, .fbFault 2, by decide +kernel⟩,
   ⟨st, by decide +kernel⟩,
   ⟨{ st with pad.active := some (padDefaults.set 28 1), pad.sins := [(3, { a := true })] }, by decide +kernel⟩,
   ⟨{ st with pad.outs := [(1, { on := true })] }, by decide +kernel⟩,
   ⟨{ st with pad.outs := [(1, { fb := true })] }, by decide +kernel⟩,
   ⟨{ st with pad.outs := [(1, { age := 32400000 })] }, by decide +kernel⟩,
   ⟨{ st with pad.outs := [(1, { age := 43200000, on := true })] }, by decide +kernel⟩,
   ⟨{ st with pad.outs := [(1, { test := true, fb := true, cmds := [⟨1, 5, 0x43, 0⟩] })] }, 1, [⟨1, 5, 0x43, 0⟩], by decide +kernel⟩,
   ⟨{ st with pwr.pad := true }, 1, by decide +kernel⟩,
   ⟨{ st with pad.sltHi := 21 }, by decide +kernel⟩,
   ⟨{ st with pad.sltLo := 5, pad.slt := true }, by decide +kernel⟩,
   ⟨{ st with pad.opn := 3 }, by decide +kernel⟩,
   ⟨{ st with pad.sdirLo := 5, pad.sdir := true }, by decide +kernel⟩,
   ⟨{ st with pad.active := some (padDefaults.set 3 0x0A), pad.slpErr := 3 }, by decide +kernel⟩,
   ⟨{ st with pad.frLo := 5 }, by decide +kernel⟩,
   ⟨{ st with pad.frHi := 5, pad.frost := true }, by decide +kernel⟩,
   ⟨{ st with pad.outs := [(1, { on := true }), (2, { on := true })], pad.laneBad := 3 }, by decide +kernel⟩,
   ⟨{ st with pad.state := 0, pad.quiet := 32 }, by decide +kernel⟩,
   ⟨{ st with pad.state := 1 }, by decide +kernel⟩,
   ⟨{ st with pad.hbOk := 16, pad.rearmed := true }, by decide +kernel⟩,
   ⟨{ st with pad.staged := some ⟨padDefaults, 0, 0⟩ }, by decide +kernel⟩,
   ⟨{ { st with pwr.pad := true } with pad.writing := none }, by decide +kernel⟩,
   ⟨{ st with pad.writing := some ⟨padDefaults.set 24 1, ⟨24, 3, 0x41, 0⟩, 12⟩, pad.outs := [(1, { on := true, test := true })] }, ⟨padDefaults.set 24 1, ⟨24, 3, 0x41, 0⟩, 12⟩, by decide +kernel⟩⟩

/-- The premises of PaddockRound hold together. -/
theorem meets_PaddockRound :
  (∃ (s : State), s.pwr.pad = false) ∧
  (∃ (s : State), s.pwr.pad = true) ∧
  (∃ (s : State) (x : Nat × Nat × Bool × Bool), s.pwr.pad = true ∧ s.pad.prop = some x) ∧
  (∃ (p : Pad) (i : RoundIn) (n : Nat), n < 4 ∧ ((p.outputs i).outp n).on = true) ∧
  (∃ (s : State) (v : BitVec 16), s.pwr.pad = true ∧ s.pad.chalDue = false ∧ s.pad.chalAge < 16 ∧ v.toNat = heartbeat s.pad.chal) ∧
  (∃ (s : State) (v : BitVec 16), s.pwr.pad = true ∧ s.pad.chalDue = false ∧ v.toNat ≠ heartbeat s.pad.chal) ∧
  (∃ (s : State) (c : Cmd), s.Ready c) ∧
  (∃ (s : State) (c : Cmd), s.Ready c) ∧
  (∃ (s : State) (c : Cmd), s.Ready c) ∧
  (∃ (r : Ref), r.op = 0x40) ∧
  (∃ (p : Pad) (r : Ref), r.op = 0x41 ∧ p.staged = none) ∧
  (∃ (p : Pad) (r : Ref) (g : PadStaged), r.op = 0x41 ∧ p.staged = some g) ∧
  (∃ (p : Pad) (r : Ref) (g : PadStaged), r.op = 0x41 ∧ p.staged = some g) :=
  ⟨⟨{ st with pwr.pad := false }, by decide +kernel⟩,
   ⟨{ st with pad.outs := [(1, { on := true })], pad.prop := some (2, 0x5A0, true, false) }, by decide +kernel⟩,
   ⟨{ st with pad.prop := some (2, 0x5A0, true, false) }, (2, 0x5A0, true, false), by decide +kernel⟩,
   ⟨{ st.pad with active := some padDefaults, state := 0, dem := 2 }, {}, 1, by decide +kernel⟩,
   ⟨{ st with pad.chal := 0x1234, pad.hbOk := 3 }, 0x1CBE, by decide +kernel⟩,
   ⟨{ st with pad.chal := 0x1234, pad.state := 0 }, 0x1CBF, by decide +kernel⟩,
   ⟨st, ⟨24, 5, [1, 2, 3, 4]⟩, ready _ _ (by decide +kernel)⟩,
   ⟨st, ⟨23, 5, [1, 2, 3, 4]⟩, ready _ _ (by decide +kernel)⟩,
   ⟨st, ⟨1, 5, []⟩, ready _ _ (by decide +kernel)⟩,
   ⟨⟨1, 5, 0x40, 0⟩, by decide +kernel⟩,
   ⟨st.pad, ⟨1, 5, 0x41, 0⟩, by decide +kernel⟩,
   ⟨{ st.pad with staged := some ⟨padDefaults, 9, 2⟩ }, ⟨1, 5, 0x41, 0⟩, ⟨padDefaults, 9, 2⟩, by decide +kernel⟩,
   ⟨{ st.pad with staged := some ⟨padDefaults.set 17 0, 9, 2⟩ }, ⟨1, 5, 0x41, 0⟩, ⟨padDefaults.set 17 0, 9, 2⟩, by decide +kernel⟩⟩

/-- The premises of BusPorts hold together. -/
theorem meets_BusPorts :
  (∃ (s : State) (p : Fin 2), s.busOn p = true ∧ (s.busPort p).de = false) ∧
  (∃ (s : State) (p : Fin 2), s.busOn p = false ∨ (s.busPort p).de = true) ∧
  (∃ (s : State) (p : Fin 2), s.busOn p = false ∨ (s.busPort p).de = true) ∧
  (∃ (s : State) (p : Fin 2), s.busOn p = true ∧ (s.busPort p).de = false) ∧
  (∃ (s : State) (p : Fin 2), s.busOn p = true ∧ (s.busPort p).de = false) ∧
  (∃ (s : State) (p : Fin 2) (o : BusOut) (d : Nat), s.busOn p = true ∧ s.rd (R.BUS_CFG_MODE p) = 3 ∧ (s.busPort p).out = some o ∧ o.due = some d ∧ (s.busPort p).send = []) ∧
  (∃ (s : State) (p : Fin 2) (o : BusOut) (d : Nat) (f : HostFrame) (rest : List BusSend), s.busOn p = true ∧ s.rd (R.BUS_CFG_MODE p) = 3 ∧ (s.busPort p).out = some o ∧ o.due = some d ∧ (s.busPort p).send = .host f :: rest) ∧
  (∃ (s : State) (p : Fin 2), s.busOn p = false ∨ s.rd (R.BUS_CFG_MODE p) ≠ 3 ∨ (s.busPort p).out = none) ∧
  (∃ (s : State) (p : Fin 2) (src n : Nat), (s.busPort p).expect = some (src, n)) ∧
  (∃ (s : State) (p : Fin 2), (s.busPort p).expect = none) ∧
  (∃ (s : State) (p : Fin 2), s.busOn p = true ∧ s.rd (R.BUS_CFG_MODE p) = 1 ∧ s.pwr.held = false) ∧
  (∃ (s : State) (p : Fin 2), s.busOn p = false ∨ s.rd (R.BUS_CFG_MODE p) ≠ 1) ∧
  (∃ (s : State) (p : Fin 2) (f : TxFrame) (rest : List TxFrame), (s.busPort p).tx = f :: rest) ∧
  (∃ (s : State) (p : Fin 2) (f : TxFrame) (rest : List TxFrame), (s.busPort p).tx = f :: rest) ∧
  (∃ (s : State) (p : Fin 2), (s.busPort p).tx = []) ∧
  (∃ (s : State) (n : Fin 16), s.rd (R.BUS_GP_CFG_EN n) = 1 ∧ s.rd (R.BUS_GP_CFG_DIR n) = 1 ∧ s.rd (R.BUS_GP_CFG_TRANSPORT n) = 2) ∧
  (∃ (s : State) (n : Fin 16) (p : Nat), s.rd (R.BUS_GP_CFG_EN n) = 1 ∧ s.rd (R.BUS_GP_CFG_DIR n) = 1 ∧ s.rd (R.BUS_GP_CFG_TRANSPORT n) = p ∧ p < 2 ∧ s.busOn p = true ∧ s.rd (R.BUS_CFG_MODE p) = 3) ∧
  (∃ (s : State) (n : Fin 16), s.rd (R.BUS_GP_CFG_EN n) ≠ 1 ∨ s.rd (R.BUS_GP_CFG_DIR n) ≠ 1) ∧
  (∃ (s : State) (n : Fin 16), s.rd (R.BUS_GP_CFG_EN n) = 1 ∧ s.rd (R.BUS_GP_CFG_DIR n) ≠ 1 ∧ (s.rd (R.BUS_GP_STAT_STATE n) = 1 ∨ s.rd (R.BUS_GP_STAT_STATE n) = 2) ∧ (s.rd (R.BUS_GP_CFG_WDT n) * 1024 + 999) / 1000 ≤ s.ticks - (s.conn n).last) ∧
  (∃ (s : State) (n : Fin 16), s.rd (R.BUS_GP_CFG_EN n) ≠ 1 ∨ s.rd (R.BUS_GP_CFG_DIR n) = 1 ∨ s.ticks - (s.conn n).last < (s.rd (R.BUS_GP_CFG_WDT n) * 1024 + 999) / 1000) ∧
  (∃ (s : State) (c k : Nat), s.rd (R.BUS_GP_CFG_DIR c) ≠ 1 ∧ s.rd (R.BUS_GP_STAT_STATE c) ≠ k ∧ k < 4 ∧ k ≠ 2) ∧
  (∃ (s : State) (c : Nat) (b : Bytes) (seq ts d : Nat) (dt : Int), seq = u16 b 1 ∧ ts = u32 b 3 ∧ d = (seq + 65536 - s.rd (R.BUS_GP_STAT_LAST_SEQ c)) % 65536 ∧ dt = signed 32 (ts + 2 ^ 32 - s.rd (R.BUS_GP_STAT_LAST_TS c)) ∧ s.rd (R.BUS_GP_STAT_STATE c) = 2 ∧ u8 b 0 % 32 = s.rd (R.BUS_GP_CFG_LEN c) ∧ u16 b 7 = s.rd (R.BUS_GP_CFG_WDT c)) ∧
  (∃ (s : State) (c : Nat) (b : Bytes) (seq ts d : Nat) (dt : Int), seq = u16 b 1 ∧ ts = u32 b 3 ∧ d = (seq + 65536 - s.rd (R.BUS_GP_STAT_LAST_SEQ c)) % 65536 ∧ dt = signed 32 (ts + 2 ^ 32 - s.rd (R.BUS_GP_STAT_LAST_TS c)) ∧ s.rd (R.BUS_GP_STAT_STATE c) = 2 ∧ u8 b 0 % 32 = s.rd (R.BUS_GP_CFG_LEN c) ∧ u16 b 7 = s.rd (R.BUS_GP_CFG_WDT c)) ∧
  (∃ (s : State) (tr : Nat) (path : Option Nat) (cand : List Nat), cand = (List.range 16).filter (fun c => s.rd (R.BUS_GP_CFG_EN c) = 1 && s.rd (R.BUS_GP_CFG_DIR c) ≠ 1 && s.rd (R.BUS_GP_CFG_TRANSPORT c) = tr && (path = none || path = some (s.rd (R.BUS_GP_CFG_ADDR c))))) ∧
  (∃ (s : State) (tr : Nat) (path : Option Nat) (cand : List Nat), cand = (List.range 16).filter (fun c => s.rd (R.BUS_GP_CFG_EN c) = 1 && s.rd (R.BUS_GP_CFG_DIR c) ≠ 1 && s.rd (R.BUS_GP_CFG_TRANSPORT c) = tr && (path = none || path = some (s.rd (R.BUS_GP_CFG_ADDR c))))) ∧
  (∃ (s : State) (c : Cmd) (p : Nat), s.Ready c ∧ c.payload = le 1 p ++ le 1 1 ∧ p < 2 ∧ s.rd (R.BUS_CFG_MODE p) ≠ 0 ∧ s.busOn p = false ∧ s.rd R.PWR_STAT_PFSEQ ≠ 1 ∧ s.limp = false) ∧
  (∃ (s : State) (c : Cmd) (p : Nat), s.Ready c ∧ c.payload = le 1 p ++ le 1 0 ∧ p < 2 ∧ s.consumersOf p = [] ∧ (s.busPort p).refs = [] ∧ s.rd R.PWR_STAT_PFSEQ ≠ 1 ∧ s.limp = false ∧ s.busOn p = true) ∧
  (∃ (s : State) (c : Cmd), s.Ready c) ∧
  (∃ (s : State) (c : Cmd), s.Ready c) ∧
  (∃ (s : State) (c : Cmd) (p dest ft : Nat) (d : Bytes), s.Ready c ∧ c.payload = le 1 p ++ le 1 0 ++ le 1 dest ++ le 1 ft ++ d ∧ p < 2 ∧ dest < 256 ∧ ft < 256 ∧ 2 ≤ s.rd (R.BUS_CFG_MODE p) ∧ d ≠ [] ∧ d.length ≤ 253 ∧ u8 d 0 ≠ 0x41 ∧ u8 d 0 ≠ 0x42 ∧ s.busOn p = true ∧ (s.busPort p).send = []) ∧
  (∃ (s : State) (c : Cmd), s.Ready c) ∧
  (∃ (s : State) (c : Cmd), s.Ready c) ∧
  (∃ (s : State) (c : Cmd) (k : Nat), s.Ready c ∧ c.payload = le 2 (2 ^ k) ∧ k < 16 ∧ s.rd (R.BUS_GP_CFG_EN k) = 1 ∧ s.rd (R.BUS_GP_CFG_DIR k) ≠ 1 ∧ s.rd (R.BUS_GP_STAT_STATE k) = 3 ∧ (s.rd (R.BUS_GP_CFG_PADSTOP k) ≠ 1 ∨ (24 ≤ c.ch.val ∧ c.ch.val ≤ 30)) ∧ (∀ n ∈ List.range 32, wants n 0x49 (s.chan n) = false)) ∧
  (∃ (s : State) (c : Cmd), s.Ready c) ∧
  (∃ (s : State) (c : Cmd), s.Ready c ∧ 13 ≤ c.payload.length ∧ c.payload.length ≤ 29 ∧ c.ch.val ≤ 15 ∧ (∀ n ∈ List.range 16, s.consumes n = false)) ∧
  (∃ (s : State) (c : Cmd), s.Ready c) ∧
  (∃ (s : State) (c : Cmd), s.Ready c) ∧
  (∃ (s : State) (c : Cmd), s.Ready c ∧ c.payload = [] ∧ s.gatesClosed = false) ∧
  (∃ (s : State) (c : Cmd), s.Ready c ∧ c.payload ≠ []) :=
  ⟨⟨st.wr R.BUS_STAT_ON1 1, 1, by decide +kernel⟩,
   ⟨st, 1, by decide +kernel⟩,
   ⟨{ st.wr R.BUS_STAT_ON1 1 with bus.ports := [(1, { de := true })] }, 1, by decide +kernel⟩,
   ⟨{ st.wr R.BUS_STAT_ON1 1 with bus.ports := [(1, { disc := 64 })] }, 1, by decide +kernel⟩,
   ⟨st.wr R.BUS_STAT_ON0 1, 0, by decide +kernel⟩,
   ⟨{ st.wrs [(R.BUS_STAT_ON1, 1), (R.BUS_CFG_MODE 1, 3)] with bus.ports := [(1, { out := some ⟨9, false, some 40⟩ })], spoke.chans := [(2, { isOpen := true, mask := 2^0x48 })] }, 1, ⟨9, false, some 40⟩, 40, by decide +kernel⟩,
   ⟨{ st.wrs [(R.BUS_STAT_ON1, 1), (R.BUS_CFG_MODE 1, 3)] with bus.ports := [(1, { out := some ⟨9, false, some 40⟩, send := [.host ⟨⟨1, 5, 0x49, 0⟩, false, 7, 0, [3, 1]⟩] })] }, 1, ⟨9, false, some 40⟩, 40, ⟨⟨1, 5, 0x49, 0⟩, false, 7, 0, [3, 1]⟩, [], by decide +kernel⟩,
   ⟨st, 1, by decide +kernel⟩,
   ⟨{ st with bus.ports := [(1, { expect := some (9, 40) })] }, 1, 9, 40, by decide +kernel⟩,
   ⟨st, 1, by decide +kernel⟩,
   ⟨{ st.wrs [(R.BUS_STAT_ON1, 1), (R.BUS_CFG_MODE 1, 1)] with bus.ports := [(1, { nextStation := some 4, token := true })] }, 1, by decide +kernel⟩,
   ⟨st, 1, by decide +kernel⟩,
   ⟨{ st with bus.ports := [(1, { de := true, tx := [⟨[1, 2], none⟩] })] }, 1, ⟨[1, 2], none⟩, [], by decide +kernel⟩,
   ⟨{ st with bus.ports := [(1, { de := true, out := some ⟨9, true, none⟩, tx := [⟨[1, 2], some ⟨1, 5, 0x49, 0⟩⟩, ⟨[3], none⟩] })], spoke.chans := [(1, { uses := [⟨5, 0x49, [40], true, false⟩] })] }, 1, ⟨[1, 2], some ⟨1, 5, 0x49, 0⟩⟩, [⟨[3], none⟩], by decide +kernel⟩,
   ⟨st, 1, by decide +kernel⟩,
   ⟨{ st.wrs [(R.BUS_GP_CFG_EN 4, 1), (R.BUS_GP_CFG_DIR 4, 1), (R.BUS_GP_CFG_TRANSPORT 4, 2), (R.BUS_GP_CFG_ADDR 4, 2), (R.BUS_GP_DATA_DATA 4, 9)] with spoke.chans := [(2, { isOpen := true, mask := 2^0x4A })] }, 4, by decide +kernel⟩,
   ⟨st.wrs [(R.BUS_GP_CFG_EN 4, 1), (R.BUS_GP_CFG_DIR 4, 1), (R.BUS_GP_CFG_TRANSPORT 4, 1), (R.BUS_STAT_ON1, 1), (R.BUS_CFG_MODE 1, 3)], 4, 1, by decide +kernel⟩,
   ⟨st, 1, by decide +kernel⟩,
   ⟨{ st.wrs [(R.BUS_GP_CFG_EN 4, 1), (R.BUS_GP_STAT_STATE 4, 2), (R.BUS_GP_CFG_PADSTOP 4, 1)] with cad.now := 32 * 206 }, 4, by decide +kernel⟩,
   ⟨st, 1, by decide +kernel⟩,
   ⟨st.wrs [(R.BUS_GP_CFG_EN 4, 1), (R.BUS_GP_STAT_STATE 4, 2), (R.BUS_GP_DATA_DATA 4, 7)], 4, 1, by decide +kernel⟩,
   ⟨st.wrs [(R.BUS_GP_CFG_EN 4, 1), (R.BUS_GP_STAT_STATE 4, 2)], 4, [1, 3, 0, 9, 0, 0, 0, 200, 0, 1], 3, 9, 3, 9, by decide +kernel⟩,
   ⟨st.wrs [(R.BUS_GP_CFG_EN 4, 1), (R.BUS_GP_STAT_STATE 4, 2), (R.BUS_GP_STAT_LAST_SEQ 4, 1), (R.BUS_GP_STAT_LAST_TS 4, 5)], 4, [1, 3, 0, 9, 0, 0, 0, 200, 0, 1], 3, 9, 2, 4, by decide +kernel⟩,
   ⟨st.wrs [(R.BUS_GP_CFG_EN 4, 1), (R.BUS_GP_STAT_STATE 4, 2), (R.BUS_GP_CFG_TRANSPORT 4, 2), (R.BUS_GP_CFG_ADDR 4, 3)], 2, some 3, [4], by decide +kernel⟩,
   ⟨st.wrs [(R.BUS_GP_CFG_EN 4, 1), (R.BUS_GP_STAT_STATE 4, 2), (R.BUS_GP_CFG_TRANSPORT 4, 2), (R.BUS_GP_CFG_ADDR 4, 3)], 1, none, [], by decide +kernel⟩,
   ⟨st.wr (R.BUS_CFG_MODE 1) 2, ⟨1, 5, [1, 1]⟩, 1, ready _ _ (by decide +kernel), by decide +kernel, by decide +kernel, by decide +kernel, by decide +kernel, by decide +kernel, by decide +kernel⟩,
   ⟨st.wrs [(R.BUS_STAT_ON1, 1), (R.BUS_CFG_MODE 1, 2)], ⟨1, 5, [1, 0]⟩, 1, ready _ _ (by decide +kernel), by decide +kernel, by decide +kernel, by decide +kernel, by decide +kernel, by decide +kernel, by decide +kernel, by decide +kernel⟩,
   ⟨st, ⟨1, 5, [2, 1]⟩, ready _ _ (by decide +kernel)⟩,
   ⟨st, ⟨1, 5, [1, 1]⟩, ready _ _ (by decide +kernel)⟩,
   ⟨st.wrs [(R.BUS_STAT_ON1, 1), (R.BUS_CFG_MODE 1, 3)], ⟨1, 5, [1, 0, 9, 0, 3, 1]⟩, 1, 9, 0, [3, 1], ready _ _ (by decide +kernel), by decide +kernel, by decide +kernel, by decide +kernel, by decide +kernel, by decide +kernel, by decide +kernel, by decide +kernel, by decide +kernel, by decide +kernel, by decide +kernel, by decide +kernel⟩,
   ⟨st.wr (R.BUS_CFG_MODE 1) 3, ⟨1, 5, [1, 0, 9, 0, 0x42, 1]⟩, ready _ _ (by decide +kernel)⟩,
   ⟨st.wr (R.BUS_CFG_MODE 1) 3, ⟨1, 5, [1, 0, 9, 0, 3, 1]⟩, ready _ _ (by decide +kernel)⟩,
   ⟨st.wrs [(R.BUS_GP_CFG_EN 4, 1), (R.BUS_GP_STAT_STATE 4, 3), (R.BUS_GP_STAT_WHY 4, 1)], ⟨1, 5, [16, 0]⟩, 4, ready _ _ (by decide +kernel), by decide +kernel, by decide +kernel, by decide +kernel, by decide +kernel, by decide +kernel, by decide +kernel, by decide +kernel⟩,
   ⟨st.wrs [(R.BUS_GP_CFG_PADSTOP 4, 1)], ⟨1, 5, [16, 0]⟩, ready _ _ (by decide +kernel)⟩,
   ⟨st, ⟨1, 5, [0, 3, 0, 9, 0, 0, 0, 200, 0, 1, 2, 3, 4]⟩, ready _ _ (by decide +kernel), by decide +kernel, by decide +kernel, by decide +kernel, by decide +kernel⟩,
   ⟨st, ⟨1, 5, [0, 3, 0]⟩, ready _ _ (by decide +kernel)⟩,
   ⟨st, ⟨16, 5, [0, 3, 0, 9, 0, 0, 0, 200, 0, 1, 2, 3, 4]⟩, ready _ _ (by decide +kernel)⟩,
   ⟨st, (⟨1, 5, []⟩ : Cmd), ready _ _ (by decide +kernel), by decide +kernel, by decide +kernel⟩,
   ⟨st, ⟨1, 5, [1]⟩, ready _ _ (by decide +kernel), by decide +kernel⟩⟩

/-- The premises of Hayloft hold together. -/
theorem meets_Hayloft :
  (∃ (s : State), (∀ w ∈ s.hay.cur, w.ended = true ∨ w.go = false ∧ s.pwr.held = false)) ∧
  (∃ (s : State), (∀ w ∈ s.hay.cur, w.ended = true ∨ w.go = false ∧ s.pwr.held = false)) ∧
  (∃ (s : State) (w : HayWrite), s.hay.cur = some w ∧ w.ended = false ∧ w.failed = false ∧ (w.go = true ∨ s.pwr.held = true)) ∧
  (∃ (s : State) (w : HayWrite), s.hay.cur = some w ∧ w.ended = false ∧ w.failed = false ∧ (w.go = true ∨ s.pwr.held = true)) ∧
  (∃ (w : HayWrite), w.ended = false ∧ w.failed = false) ∧
  (∃ (w : HayWrite), w.ended = false ∧ w.failed = false) ∧
  (∃ (s : State), (∀ w ∈ s.hay.cur, w.ended = false)) ∧
  (∃ (s : State) (w : HayWrite) (r : Ref) (a : Nat) (d : Bytes) (n : Nat), s.hay.cur = some w ∧ w.ended = true ∧ w.failed = false ∧ w.req.what = .write r a d n ∧ d.length ≤ 64 - a % 64 ∧ s.hay.reqs = [w.req] ∧ s.hay.groom = [] ∧ s.hay.owed = []) ∧
  (∃ (s : State), 0 < s.rd R.HAY_STAT_SPARES ∧ s.rd R.HAY_STAT_SPARES ≤ 32) ∧
  (∃ (s : State) (k : Fin 16), (s.log k).kept < (s.log k).open_.length ∧ (s.log k).asked = false ∧ (s.log k).busy = false ∧ (2 ≤ (s.log k).open_.length ∨ (s.log k).since + s.rd R.HAY_CFG_LOG_HOLD ≤ s.ticks) ∧ s.gatesClosed = false) ∧
  (∃ (s : State) (k : Fin 16), (s.log k).open_.length ≤ (s.log k).kept ∨ (s.log k).asked = true ∨ (s.log k).busy = true) ∧
  (∃ (s : State) (k : Fin 16), (s.log k).open_.length ≤ (s.log k).kept ∨ (s.log k).asked = true ∨ (s.log k).busy = true) ∧
  (∃ (s : State) (k : Fin 16) (n a b : Nat), (s.log k).lost = some (n, a, b) ∧ (s.log k).queue.length < 63 ∧ s.pwr.held = true) ∧
  (∃ (s : State) (k : Fin 16), (s.log k).lost ≠ none ∧ (s.log k).queue.length < 63) ∧
  (∃ (s : State) (k : Fin 16), (s.log k).lost = none ∨ 63 ≤ (s.log k).queue.length) ∧
  (∃ (s : State) (c : Cmd) (a n : Nat), s.Ready c ∧ c.payload = le 4 a ++ le 2 n ∧ a < 2 ^ 32 ∧ 0 < n ∧ n ≤ 2048 ∧ (a + n ≤ 0x20000 ∨ 0x20000 ≤ a ∧ a + n ≤ 0x23000) ∧ s.rd R.HAY_STAT_RECALL ≠ 1) ∧
  (∃ (s : State) (c : Cmd), s.Ready c) ∧
  (∃ (s : State) (c : Cmd), s.Ready c) ∧
  (∃ (s : State) (c : Cmd) (a : Nat) (d : Bytes), s.Ready c ∧ c.payload = le 4 a ++ d ∧ d ≠ [] ∧ d.length ≤ 1024 ∧ 0x9400 ≤ a ∧ a + d.length ≤ 0x10000 ∧ s.rd R.HAY_STAT_WP ≠ 1 ∧ s.rd R.HAY_STAT_RECALL ≠ 1 ∧ s.hayDepth 248 < 16 ∧ s.gatesClosed = false) ∧
  (∃ (s : State) (c : Cmd), s.Ready c) ∧
  (∃ (s : State) (c : Cmd), s.Ready c) ∧
  (∃ (s : State) (c : Cmd) (k m f : Nat), s.Ready c ∧ c.payload = le 1 k ++ le 1 m ++ le 4 f ∧ k ≤ 15 ∧ 0 < m ∧ m ≤ 64 ∧ f < 2 ^ 32 ∧ s.rd R.HAY_STAT_RECALL ≠ 1 ∧ s.hayDepth 248 < 16) ∧
  (∃ (s : State) (c : Cmd), s.Ready c) ∧
  (∃ (s : State) (q : HayReq) (r : Ref) (a n : Nat), q.what = .read r a n ∧ (∀ p ∈ pagesOf a n, s.hay.bad.contains p = false ∧ mget 0 s.hay.ecc p = 0)) ∧
  (∃ (s : State) (c : Cmd) (k n : Nat) (d : Bytes), s.Ready c ∧ c.payload = le 1 k ++ le 1 n ++ d ∧ 8 ≤ k ∧ k ≤ 15 ∧ 0x80 ≤ n ∧ n ≤ 0xFF ∧ d.length ≤ 16 ∧ s.rd R.HAY_STAT_RECALL ≠ 1) ∧
  (∃ (s : State) (c : Cmd), s.Ready c) ∧
  (∃ (s : State) (c : Cmd), s.Ready c ∧ c.payload.length = 2 ∧ u16 c.payload 0 ≠ 0 ∧ s.rd R.HAY_STAT_RECALL ≠ 1 ∧ (∀ k ∈ List.range 16, bit (u16 c.payload 0) k = true → (s.log k).queue = [] ∧ (s.log k).open_.length ≤ (s.log k).kept)) ∧
  (∃ (s : State) (c : Cmd), s.Ready c ∧ c.payload.length = 2 ∧ s.rd R.HAY_STAT_RECALL ≠ 1) ∧
  (∃ (s : State) (c : Cmd), s.Ready c) ∧
  (∃ (s : State) (c : Cmd) (k : Nat), s.Ready c ∧ c.payload = le 1 k ∧ 16 ≤ k ∧ k ≤ 31 ∧ s.rd R.HAY_STAT_RECALL ≠ 1 ∧ s.gatesClosed = false) ∧
  (∃ (s : State) (c : Cmd), s.Ready c) :=
  ⟨⟨st, by decide +kernel⟩,
   ⟨{ st with hay.cur := some ⟨⟨1, 249, .logPage 1, 0, true⟩, 0x440, [], false, false, 2, false, true, false, 1, 0, false, false⟩ }, by decide +kernel⟩,
   ⟨{ st with hay.cur := some ⟨⟨1, 249, .logPage 1, 0, true⟩, 0x440, [1, 2, 3], false, false, 2, true, true, true, 1, 0, false, false⟩ }, ⟨⟨1, 249, .logPage 1, 0, true⟩, 0x440, [1, 2, 3], false, false, 2, true, true, true, 1, 0, false, false⟩, by decide +kernel⟩,
   ⟨{ st with hay.held := [(0x440, [7])], hay.cur := some ⟨⟨1, 249, .logPage 1, 0, true⟩, 0x440, [1, 2, 3], false, false, 2, true, true, true, 1, 1, false, false⟩ }, ⟨⟨1, 249, .logPage 1, 0, true⟩, 0x440, [1, 2, 3], false, false, 2, true, true, true, 1, 1, false, false⟩, by decide +kernel⟩,
   ⟨⟨⟨1, 249, .logPage 1, 0, true⟩, 0x440, [1, 2, 3], false, false, 2, true, true, false, 2, 0, false, false⟩, by decide +kernel⟩,
   ⟨⟨⟨1, 249, .logPage 1, 0, true⟩, 0x440, [1, 2, 3], false, false, 2, true, true, true, 2, 1, false, false⟩, by decide +kernel⟩,
   ⟨st, by decide +kernel⟩,
   ⟨{ st with pwr.hold := [⟨1, 18, .commit 7, 0⟩], hay.reqs := [⟨7, 248, .write ⟨1, 5, 0x51, 0⟩ 0x9400 [1, 2] 0, 0, true⟩], hay.cur := some ⟨⟨7, 248, .write ⟨1, 5, 0x51, 0⟩ 0x9400 [1, 2] 0, 0, true⟩, 0x250, [1, 2], false, false, 3, false, true, true, 1, 1, true, false⟩, spoke.chans := [(1, { uses := [⟨5, 0x51, [], true, false⟩] })] }, ⟨⟨7, 248, .write ⟨1, 5, 0x51, 0⟩ 0x9400 [1, 2] 0, 0, true⟩, 0x250, [1, 2], false, false, 3, false, true, true, 1, 1, true, false⟩, ⟨1, 5, 0x51, 0⟩, 0x9400, [1, 2], 0, by decide +kernel⟩,
   ⟨{ st with hay.reqs := [⟨7, 248, .write ⟨1, 5, 0x51, 0⟩ 0x9400 [1, 2] 0, 0, true⟩] }, by decide +kernel⟩,
   ⟨{ st with hay.logs := [(9, { open_ := [[1], [2]], kept := 1 })] }, 9, by decide +kernel⟩,
   ⟨st, 9, by decide +kernel⟩,
   ⟨{ st with hay.logs := [(9, { open_ := [[1], [2]], kept := 1, busy := true })] }, 9, by decide +kernel⟩,
   ⟨{ st with pwr.held := true, hay.logs := [(1, { queue := [[1]], next := 1070, lost := some (7, 1063, 1069) })] }, 1, 7, 1063, 1069, by decide +kernel⟩,
   ⟨{ st with hay.logs := [(1, { next := 1070, lost := some (7, 1063, 1069) })] }, 1, by decide +kernel⟩,
   ⟨st, 1, by decide +kernel⟩,
   ⟨(st.wr R.HAY_STAT_RECALL 0), ⟨1, 5, [0, 0x94, 0, 0, 64, 0]⟩, 0x9400, 64, ready _ _ (by decide +kernel), by decide +kernel, by decide +kernel, by decide +kernel, by decide +kernel, by decide +kernel, by decide +kernel⟩,
   ⟨(st.wr R.HAY_STAT_RECALL 1), ⟨1, 5, [0, 0x94, 0, 0, 64, 0]⟩, ready _ _ (by decide +kernel)⟩,
   ⟨(st.wr R.HAY_STAT_RECALL 0), ⟨1, 5, [0, 0x30, 2, 0, 64, 0]⟩, ready _ _ (by decide +kernel)⟩,
   ⟨(st.wr R.HAY_STAT_RECALL 0), ⟨1, 5, [0, 0x94, 0, 0, 64, 0]⟩, 0x9400, [64, 0], ready _ _ (by decide +kernel), by decide +kernel, by decide +kernel, by decide +kernel, by decide +kernel, by decide +kernel, by decide +kernel, by decide +kernel, by decide +kernel, by decide +kernel⟩,
   ⟨((st.wr R.HAY_STAT_RECALL 0).wr R.HAY_STAT_WP 1).wr R.HAY_CFG_BOUND 0x300, ⟨1, 5, [0, 0x94, 0, 0, 64, 0]⟩, ready _ _ (by decide +kernel)⟩,
   ⟨(st.wr R.HAY_STAT_RECALL 0), ⟨1, 5, [0, 0xA0, 0, 0]⟩, ready _ _ (by decide +kernel)⟩,
   ⟨(st.wr R.HAY_STAT_RECALL 0), ⟨1, 5, [9, 64, 7, 0, 0, 0]⟩, 9, 64, 7, ready _ _ (by decide +kernel), by decide +kernel, by decide +kernel, by decide +kernel, by decide +kernel, by decide +kernel, by decide +kernel, by decide +kernel⟩,
   ⟨st, ⟨1, 5, [16, 64, 7, 0, 0, 0]⟩, ready _ _ (by decide +kernel)⟩,
   ⟨st, ⟨7, 248, .read ⟨1, 5, 0x50, 0⟩ 0x9400 4, 0, false⟩, ⟨1, 5, 0x50, 0⟩, 0x9400, 4, by decide +kernel⟩,
   ⟨(st.wr R.HAY_STAT_RECALL 0), ⟨1, 5, [9, 0x80, 7, 8]⟩, 9, 0x80, [7, 8], ready _ _ (by decide +kernel), by decide +kernel, by decide +kernel, by decide +kernel, by decide +kernel, by decide +kernel, by decide +kernel, by decide +kernel⟩,
   ⟨st, ⟨1, 5, [9, 0x7F, 7, 8]⟩, ready _ _ (by decide +kernel)⟩,
   ⟨(st.wr R.HAY_STAT_RECALL 0), ⟨1, 5, [0, 2]⟩, ready _ _ (by decide +kernel), by decide +kernel, by decide +kernel, by decide +kernel, by decide +kernel⟩,
   ⟨{ st.wr R.HAY_STAT_RECALL 0 with hay.logs := [(9, { queue := [[7, 0, 0, 0]] })] }, ⟨1, 5, [0, 2]⟩, ready _ _ (by decide +kernel), by decide +kernel, by decide +kernel⟩,
   ⟨st, ⟨1, 5, [0, 0]⟩, ready _ _ (by decide +kernel)⟩,
   ⟨(st.wr R.HAY_STAT_RECALL 0), ⟨1, 5, [20]⟩, 20, ready _ _ (by decide +kernel), by decide +kernel, by decide +kernel, by decide +kernel, by decide +kernel, by decide +kernel⟩,
   ⟨st, ⟨1, 5, [32]⟩, ready _ _ (by decide +kernel)⟩⟩

/-- The premises of StableOperations hold together. -/
theorem meets_StableOperations :
  (∃ (s : State) (q k : Fin 4) (w : BitVec 32) (i : Instr), i ∈ [Instr.nop q k w, .setr q k w, .addr q k w, .tload q k w, .mact q k w, .act q k w, .pool q k w, .store q k w, .radv q k w, .rwait q k w, .nsend q k w, .loop q k w, .waitt q k w, .move q k w, .jump q k w, .opEnd q k w] ∧ s.rd R.STB_STAT_OFF = 1) ∧
  (∃ (s : State) (q k : Fin 4) (w : BitVec 32) (i : Instr) (opc why : Nat), (i, opc) ∈ [(Instr.nop q k w, 0x0), (.setr q k w, 0x1), (.addr q k w, 0x2), (.tload q k w, 0x3), (.mact q k w, 0x4), (.act q k w, 0x5), (.pool q k w, 0x6), (.store q k w, 0x7), (.radv q k w, 0x8), (.rwait q k w, 0x9), (.nsend q k w, 0xA), (.loop q k w, 0xB), (.waitt q k w, 0xC), (.move q k w, 0xD), (.jump q k w, 0xE), (.opEnd q k w, 0xF)] ∧ s.rd R.STB_STAT_OFF ≠ 1 ∧ (s.stall q).cur = none ∧ (s.stall q).pend = [] ∧ (s.stall q).order = [] ∧ (s.task q k).stop = [] ∧ s.opFault q k opc (opWord opc w) = some why) ∧
  (∃ (s : State) (q k : Fin 4) (w : BitVec 32) (i : Instr) (opc why : Nat), (i, opc) ∈ [(Instr.nop q k w, 0x0), (.setr q k w, 0x1), (.addr q k w, 0x2), (.tload q k w, 0x3), (.mact q k w, 0x4), (.act q k w, 0x5), (.pool q k w, 0x6), (.store q k w, 0x7), (.radv q k w, 0x8), (.rwait q k w, 0x9), (.nsend q k w, 0xA), (.loop q k w, 0xB), (.waitt q k w, 0xC), (.move q k w, 0xD), (.jump q k w, 0xE), (.opEnd q k w, 0xF)] ∧ s.rd R.STB_STAT_OFF ≠ 1 ∧ (s.stall q).cur = none ∧ (s.stall q).pend = [] ∧ (s.stall q).order = [] ∧ (s.task q k).stop = [] ∧ s.opFault q k opc (opWord opc w) = some why) ∧
  (∃ (s : State) (q k : Fin 4) (w : BitVec 32), s.Issues q k 0x0 w) ∧
  (∃ (s : State) (q k : Fin 4) (w : BitVec 32) (rd imm : Nat), s.Issues q k 0x1 w ∧ s.Issues q k 0x2 w ∧ rd = bits w.toNat 25 3 ∧ imm = bits w.toNat 0 16) ∧
  (∃ (s : State) (q k : Fin 4) (w : BitVec 32) (u : Nat), s.Issues q k 0x3 w ∧ u = s.operand q k .weight (bits w.toNat 25 3) ∧ (∀ j ∈ List.range 8, mget? (s.stall q).wErr (8 * u + j) = none) ∧ (s.stall q).poison.contains (u / 16) = false) ∧
  (∃ (s : State) (q k : Fin 4) (w : BitVec 32) (u : Nat), s.Issues q k 0x3 w ∧ u = s.operand q k .weight (bits w.toNat 25 3)) ∧
  (∃ (s : State) (q k : Fin 4) (w : BitVec 32) (u : Nat), s.Issues q k 0x3 w ∧ u = s.operand q k .weight (bits w.toNat 25 3)) ∧
  (∃ (s : State) (q k : Fin 4) (w : BitVec 32) (a p n : Nat), s.Issues q k 0x4 w ∧ (s.stall q).parBad = [] ∧ n = opN w.toNat ∧ a = s.operand q k .act (bits w.toNat 25 3) ∧ p = s.operand q k .psum (bits w.toNat 22 3)) ∧
  (∃ (s : State) (q k : Fin 4) (w : BitVec 32) (a p n : Nat), s.Issues q k 0x5 w ∧ (s.stall q).parBad = [] ∧ n = opN w.toNat ∧ p = s.operand q k .psum (bits w.toNat 25 3) ∧ a = s.operand q k .act (bits w.toNat 22 3)) ∧
  (∃ (s : State) (q k : Fin 4) (w : BitVec 32) (a b n m : Nat), s.Issues q k 0x6 w ∧ (s.stall q).parBad = [] ∧ n = opN w.toNat ∧ m = opK w.toNat ∧ a = s.operand q k .act (bits w.toNat 25 3) ∧ b = s.operand q k .act (bits w.toNat 22 3)) ∧
  (∃ (s : State) (q k : Fin 4) (w : BitVec 32) (a b n m : Nat), s.Issues q k 0x6 w ∧ (s.stall q).parBad = [] ∧ n = opN w.toNat ∧ m = opK w.toNat ∧ a = s.operand q k .act (bits w.toNat 25 3) ∧ b = s.operand q k .act (bits w.toNat 22 3)) ∧
  (∃ (s : State) (q k : Fin 4) (w : BitVec 32) (a b n : Nat) (m : StallMem), s.Issues q k 0xD w ∧ (s.stall q).parBad = [] ∧ n = opN w.toNat ∧ m = (if bit w.toNat 21 = true then .psum else .act) ∧ a = s.operand q k m (bits w.toNat 25 3) ∧ b = s.operand q k m (bits w.toNat 22 3)) ∧
  (∃ (s : State) (q k : Fin 4) (w : BitVec 32) (a b n : Nat) (m : StallMem), s.Issues q k 0xD w ∧ (s.stall q).parBad = [] ∧ n = opN w.toNat ∧ m = (if bit w.toNat 21 = true then .psum else .act) ∧ a = s.operand q k m (bits w.toNat 25 3) ∧ b = s.operand q k m (bits w.toNat 22 3)) ∧
  (∃ (s : State) (q k : Fin 4) (w : BitVec 32) (a n r : Nat), s.Issues q k 0x7 w ∧ (s.stall q).parBad = [] ∧ n = opN w.toNat ∧ r = opRing w.toNat ∧ a = s.operand q k .act (bits w.toNat 25 3)) ∧
  (∃ (s : State) (q k : Fin 4) (w : BitVec 32) (n r : Nat), s.Issues q k 0x8 w ∧ n = opN w.toNat ∧ r = opRing w.toNat ∧ s.rd (R.STB_RING_ROLE q r) ≠ 3) ∧
  (∃ (s : State) (q k : Fin 4) (w : BitVec 32) (n r : Nat), s.Issues q k 0x8 w ∧ n = opN w.toNat ∧ r = opRing w.toNat ∧ s.rd (R.STB_RING_ROLE q r) ≠ 3) ∧
  (∃ (s : State) (q k : Fin 4) (w : BitVec 32) (n r : Nat), s.Issues q k 0x8 w ∧ n = opN w.toNat ∧ r = opRing w.toNat ∧ s.rd (R.STB_RING_ROLE q r) = 3) ∧
  (∃ (s : State) (q k : Fin 4) (w : BitVec 32), s.Issues q k 0x9 w ∧ (if bit w.toNat 20 = true then s.rd (R.STB_RING_FILL q (opRing w.toNat)) + opN w.toNat ≤ s.rd (R.STB_RING_SIZE q (opRing w.toNat)) else opN w.toNat ≤ s.rd (R.STB_RING_FILL q (opRing w.toNat)))) ∧
  (∃ (s : State) (q k : Fin 4) (w : BitVec 32), s.Issues q k 0x9 w ∧ (if bit w.toNat 20 = true then s.rd (R.STB_RING_FILL q (opRing w.toNat)) + opN w.toNat ≤ s.rd (R.STB_RING_SIZE q (opRing w.toNat)) else opN w.toNat ≤ s.rd (R.STB_RING_FILL q (opRing w.toNat)))) ∧
  (∃ (s : State) (q k : Fin 4) (w : BitVec 32), s.Issues q k 0x9 w ∧ (s.stall q).order = [k.val] ∧ (s.task q k).stop = [] ∧ ¬ (if bit w.toNat 20 = true then s.rd (R.STB_RING_FILL q (opRing w.toNat)) + opN w.toNat ≤ s.rd (R.STB_RING_SIZE q (opRing w.toNat)) else opN w.toNat ≤ s.rd (R.STB_RING_FILL q (opRing w.toNat)))) ∧
  (∃ (s : State) (q k : Fin 4) (w : BitVec 32) (a n r d : Nat), s.Issues q k 0xA w ∧ (s.stall q).parBad = [] ∧ n = opN w.toNat ∧ r = opRing w.toNat ∧ d = b2n (bit w.toNat 20) ∧ a = s.operand q k .act (bits w.toNat 25 3) ∧ n ≤ s.rd (credKey q d r)) ∧
  (∃ (s : State) (q k : Fin 4) (w : BitVec 32) (a n r d : Nat), s.Issues q k 0xA w ∧ (s.stall q).parBad = [] ∧ n = opN w.toNat ∧ r = opRing w.toNat ∧ d = b2n (bit w.toNat 20) ∧ a = s.operand q k .act (bits w.toNat 25 3) ∧ n ≤ s.rd (credKey q d r)) ∧
  (∃ (s : State) (q k : Fin 4) (w : BitVec 32) (n r d : Nat), s.Issues q k 0xA w ∧ n = opN w.toNat ∧ r = opRing w.toNat ∧ d = b2n (bit w.toNat 20) ∧ s.rd (credKey q d r) < n) ∧
  (∃ (s : State) (q k : Fin 4) (w : BitVec 32) (n v : Nat), s.Issues q k 0xB w ∧ n = 6 + b2n (bit w.toNat 24) ∧ v = (s.areg q k n + 65535) % 65536) ∧
  (∃ (s : State) (q k : Fin 4) (w : BitVec 32) (n v : Nat), s.Issues q k 0xB w ∧ n = 6 + b2n (bit w.toNat 24) ∧ v = (s.areg q k n + 65535) % 65536) ∧
  (∃ (s : State) (q k : Fin 4) (w : BitVec 32), s.Issues q k 0xC w ∧ (s.stall q).order = [k.val] ∧ (s.task q k).stop = []) ∧
  (∃ (s : State) (q k : Fin 4) (w : BitVec 32), s.Issues q k 0xE w) ∧
  (∃ (s : State) (q k : Fin 4) (w : BitVec 32), s.Issues q k 0xF w ∧ (s.stall q).order = [k.val] ∧ (s.task q k).stop = []) ∧
  (∃ (s : State) (l : Landing), s.rd R.STB_SP_STAT_AUDIT ≠ 1 ∧ l.ring = none ∧ l.val < 256 ^ unitBytes l.mem) ∧
  (∃ (s : State) (q k : Fin 4) (w : BitVec 32) (p : Nat), s.Issues q k 0x5 w ∧ p = s.operand q k .psum (bits w.toNat 25 3) ∧ 0 < opN w.toNat ∧ s.parityBad q .psum p = true ∧ (s.task q k).stop = [] ∧ (s.stall q).order = []) :=
  ⟨⟨st.wr R.STB_STAT_OFF 1, 2, 1, 0x1000, .mact 2 1 0x1000, by decide +kernel⟩,
   ⟨(st.wrs [(R.STB_TASK_A_BOUND 2 1, 64)]), 2, 1, 0x2, .mact 2 1 0x2, 4, 2, by decide +kernel⟩,
   ⟨(st.wrs [(R.STB_TASK_A_BOUND 2 1, 64)]), 2, 1, 0x2, .store 2 1 0x2, 7, 3, by decide +kernel⟩,
   ⟨st, 2, 1, 0, issues _ _ _ _ _ (by decide +kernel)⟩,
   ⟨st, 2, 1, 0x0200FFFF, 1, 0xFFFF, issues _ _ _ _ _ (by decide +kernel), issues _ _ _ _ _ (by decide +kernel), by decide +kernel, by decide +kernel⟩,
   ⟨(st.wrs [(R.STB_TASK_W_BOUND 2 1, 64)]), 2, 1, 0x01800000, 0, issues _ _ _ _ _ (by decide +kernel), by decide +kernel, by decide +kernel, by decide +kernel⟩,
   ⟨{ st.wrs [(R.STB_TASK_W_BOUND 2 1, 64)] with stb.stalls := [(2, { wErr := [(3, 2)] })] }, 2, 1, 0x01800000, 0, issues _ _ _ _ _ (by decide +kernel), by decide +kernel⟩,
   ⟨{ st.wrs [(R.STB_TASK_W_BOUND 2 1, 64)] with stb.stalls := [(2, { poison := [0] })] }, 2, 1, 0x01800000, 0, issues _ _ _ _ _ (by decide +kernel), by decide +kernel⟩,
   ⟨(st.wrs [(R.STB_TASK_A_BOUND 2 1, 64), (R.STB_TASK_P_BOUND 2 1, 64)]), 2, 1, 40, 0, 0, 40, issues _ _ _ _ _ (by decide +kernel), by decide +kernel, by decide +kernel, by decide +kernel, by decide +kernel⟩,
   ⟨(st.wrs [(R.STB_TASK_A_BOUND 2 1, 64), (R.STB_TASK_P_BOUND 2 1, 64)]), 2, 1, (3 * 2^19 + 4 * 2^14 + 5), 0, 0, 5, issues _ _ _ _ _ (by decide +kernel), by decide +kernel, by decide +kernel, by decide +kernel, by decide +kernel⟩,
   ⟨(st.wrs [(R.STB_TASK_A_BOUND 2 1, 64)]), 2, 1, (2 * 2^18 + 2^21 + 5), 0, 0, 5, 3, issues _ _ _ _ _ (by decide +kernel), by decide +kernel, by decide +kernel, by decide +kernel, by decide +kernel, by decide +kernel⟩,
   ⟨(st.wrs [(R.STB_TASK_A_BOUND 2 1, 64)]), 2, 1, (2 * 2^18 + 5), 0, 0, 5, 3, issues _ _ _ _ _ (by decide +kernel), by decide +kernel, by decide +kernel, by decide +kernel, by decide +kernel, by decide +kernel⟩,
   ⟨(st.wrs [(R.STB_TASK_P_BOUND 2 1, 64)]), 2, 1, (2^21 + 5), 0, 0, 5, .psum, issues _ _ _ _ _ (by decide +kernel), by decide +kernel, by decide +kernel, by decide +kernel, by decide +kernel, by decide +kernel⟩,
   ⟨(st.wrs [(R.STB_TASK_A_BOUND 2 1, 64)]), 2, 1, 5, 0, 0, 5, .act, issues _ _ _ _ _ (by decide +kernel), by decide +kernel, by decide +kernel, by decide +kernel, by decide +kernel, by decide +kernel⟩,
   ⟨(st.wrs [(R.STB_TASK_A_BOUND 2 1, 64), (R.STB_RING_EN 2 3, 1), (R.STB_RING_BASE 2 3, 8), (R.STB_RING_SIZE 2 3, 16), (R.STB_RING_HEAD 2 3, 14), (R.STB_RING_FILL 2 3, 4)]), 2, 1, (3 * 2^21 + 5), 0, 5, 3, issues _ _ _ _ _ (by decide +kernel), by decide +kernel, by decide +kernel, by decide +kernel, by decide +kernel⟩,
   ⟨(st.wrs [(R.STB_RING_EN 2 3, 1), (R.STB_RING_SIZE 2 3, 16), (R.STB_RING_TAIL 2 3, 14), (R.STB_RING_FILL 2 3, 4)]), 2, 1, (3 * 2^21 + 3), 3, 3, issues _ _ _ _ _ (by decide +kernel), by decide +kernel, by decide +kernel, by decide +kernel⟩,
   ⟨(st.wrs [(R.STB_RING_EN 2 3, 1), (R.STB_RING_SIZE 2 3, 16), (R.STB_RING_HEAD 2 3, 14), (R.STB_RING_FILL 2 3, 4)]), 2, 1, (3 * 2^21 + 2^20 + 3), 3, 3, issues _ _ _ _ _ (by decide +kernel), by decide +kernel, by decide +kernel, by decide +kernel⟩,
   ⟨{ st.wrs [(R.STB_RING_EN 2 3, 1), (R.STB_RING_ROLE 2 3, 3), (R.STB_RING_SIZE 2 3, 128), (R.STB_RING_FILL 2 3, 96)] with stb.stalls := [(2, { rings := [(3, { count := 32 })] })] }, 2, 1, (3 * 2^21 + 96), 96, 3, issues _ _ _ _ _ (by decide +kernel), by decide +kernel, by decide +kernel, by decide +kernel⟩,
   ⟨(st.wrs [(R.STB_RING_EN 2 3, 1), (R.STB_RING_SIZE 2 3, 16), (R.STB_RING_FILL 2 3, 4)]), 2, 1, (3 * 2^21 + 4), issues _ _ _ _ _ (by decide +kernel), by decide +kernel⟩,
   ⟨(st.wrs [(R.STB_RING_EN 2 3, 1), (R.STB_RING_SIZE 2 3, 16), (R.STB_RING_FILL 2 3, 4)]), 2, 1, (3 * 2^21 + 2^20 + 12), issues _ _ _ _ _ (by decide +kernel), by decide +kernel⟩,
   ⟨{ st.wrs [(R.STB_RING_EN 2 3, 1), (R.STB_RING_SIZE 2 3, 16), (R.STB_RING_FILL 2 3, 4)] with stb.stalls := [(2, { order := [1] })] }, 2, 1, (3 * 2^21 + 5), issues _ _ _ _ _ (by decide +kernel), by decide +kernel, by decide +kernel, by decide +kernel⟩,
   ⟨(st.wrs [(R.STB_TASK_A_BOUND 2 1, 64), (R.STB_CRED_UP 2 3, 9)]), 2, 1, (3 * 2^21 + 9), 0, 9, 3, 0, issues _ _ _ _ _ (by decide +kernel), by decide +kernel, by decide +kernel, by decide +kernel, by decide +kernel, by decide +kernel, by decide +kernel⟩,
   ⟨(st.wrs [(R.STB_TASK_A_BOUND 2 1, 64), (R.STB_CRED_DOWN 2 3, 9)]), 2, 1, (3 * 2^21 + 2^20 + 5), 0, 5, 3, 1, issues _ _ _ _ _ (by decide +kernel), by decide +kernel, by decide +kernel, by decide +kernel, by decide +kernel, by decide +kernel, by decide +kernel⟩,
   ⟨(st.wrs [(R.STB_TASK_A_BOUND 2 1, 64), (R.STB_CRED_UP 2 3, 8)]), 2, 1, (3 * 2^21 + 9), 9, 3, 0, issues _ _ _ _ _ (by decide +kernel), by decide +kernel, by decide +kernel, by decide +kernel, by decide +kernel⟩,
   ⟨{ st.wr (R.STB_TASK_PC 2 1) 9 with stb.stalls := [(2, { tasks := [(1, { ar := [(7, 4)] })] })] }, 2, 1, (2^24 + 3), 7, 3, issues _ _ _ _ _ (by decide +kernel), by decide +kernel, by decide +kernel⟩,
   ⟨{ st.wr (R.STB_TASK_PC 2 1) 9 with stb.stalls := [(2, { tasks := [(1, { ar := [(6, 1)] })] })] }, 2, 1, 3, 6, 0, issues _ _ _ _ _ (by decide +kernel), by decide +kernel, by decide +kernel⟩,
   ⟨{ st with stb.stalls := [(2, { order := [1] })] }, 2, 1, 5, issues _ _ _ _ _ (by decide +kernel), by decide +kernel, by decide +kernel⟩,
   ⟨st, 1, 1, 1, issues _ _ _ _ _ (by decide +kernel)⟩,
   ⟨{ st.wr (R.STB_TASK_STATE 2 1) 3 with stb.stalls := [(2, { order := [1] })] }, 2, 1, 5, issues _ _ _ _ _ (by decide +kernel), by decide +kernel, by decide +kernel⟩,
   ⟨st, ⟨9, .act, 7, 0x123, 1, 4, none⟩, by decide +kernel⟩,
   ⟨{ st.wrs [(R.STB_TASK_A_BOUND 2 1, 64), (R.STB_TASK_P_BOUND 2 1, 64)] with stb.stalls := [(2, { parBad := [24577] })] }, 2, 1, 5, 0, issues _ _ _ _ _ (by decide +kernel), by decide +kernel, by decide +kernel, by decide +kernel, by decide +kernel, by decide +kernel⟩⟩

/-- The premises of StableTasks hold together. -/
theorem meets_StableTasks :
  (∃ (s : State), s.stb.window = false) ∧
  (∃ (s : State) (q k : Fin 4) (rest : List Nat), s.stb.window = true ∧ (s.stall q).order = k.val :: rest ∧ (k.val :: rest).Nodup ∧ (∀ j ∈ rest, j < 4) ∧ (s.task q k).stop = [] ∧ (∀ n ∈ List.range 4, (n ≠ q.val → (s.stall n).order = []) ∧ (s.stall n).copyDue = [])) ∧
  (∃ (s : State), s.stb.window = true ∧ (∀ n ∈ List.range 4, (s.stall n).order = [] ∧ (s.stall n).copyDue = [])) ∧
  (∃ (s : State) (a : BitVec 20) (m : StallMem) (b : Nat), narrowPlace a.toNat = some (m, b) ∧ m ≠ .weight ∧ s.rd R.STB_SP_STAT_AUDIT ≠ 1) ∧
  (∃ (s : State) (a : BitVec 20) (m : StallMem) (b : Nat), narrowPlace a.toNat = some (m, b) ∧ m ≠ .weight ∧ s.rd R.STB_SP_STAT_AUDIT ≠ 1) ∧
  (∃ (a : BitVec 20), a.toNat < 0x40000) ∧
  (∃ (a : BitVec 20), a.toNat < 0x40000) ∧
  (∃ (a : BitVec 20), a.toNat < 0x28000) ∧
  (∃ (a : BitVec 20), a.toNat < 0x28000) ∧
  (∃ (s : State) (q : Fin 4) (a : BitVec 20), bit (s.rd R.STB_CACHE_ACTIVE) q = false ∨ 0xC0000 ≤ a.toNat) ∧
  (∃ (s : State) (q : Fin 4) (a : BitVec 20), bit (s.rd R.STB_CACHE_ACTIVE) q = true ∧ a.toNat < 0xC0000 ∧ (s.stall q).parBad = []) ∧
  (∃ (s : State) (q : Fin 4) (a : BitVec 20), bit (s.rd R.STB_CACHE_ACTIVE) q = true ∧ a.toNat < 0xC0000 ∧ (s.stall q).parBad = []) ∧
  (∃ (s : State) (q : Fin 4) (a : BitVec 20), bit (s.rd R.STB_CACHE_ACTIVE) q = true ∧ a.toNat < 0xC0000 ∧ (s.stall q).parBad = []) ∧
  (∃ (s : State) (q : Fin 4) (a : BitVec 20), bit (s.rd R.STB_CACHE_ACTIVE) q = true ∧ a.toNat < 0xC0000 ∧ (s.stall q).parBad = []) ∧
  (∃ (s : State) (q : Fin 4), s.rd R.STB_STAT_OFF ≠ 1 ∧ mget? (s.stall q).blocks ((s.stall q).scrub / 128) = none ∧ (s.stall q).scrub < 20480) ∧
  (∃ (s : State) (q : Fin 4), s.rd R.STB_STAT_OFF ≠ 1 ∧ mget? (s.stall q).blocks ((s.stall q).scrub / 128) = none ∧ (s.stall q).scrub < 20480) ∧
  (∃ (s : State) (q : Fin 4) (crc : Nat), s.rd R.STB_STAT_OFF ≠ 1 ∧ (s.stall q).scrub % 128 = 127 ∧ (s.stall q).scrub < 20479 ∧ mget? (s.stall q).wErr (s.stall q).scrub = none ∧ mget? (s.stall q).blocks ((s.stall q).scrub / 128) = some crc) ∧
  (∃ (s : State), s.rd R.STB_STAT_OFF = 1) ∧
  (∃ (s : State) (q : Fin 4) (row sp : Nat), s.stb.window = false ∧ (s.stall q).copyDue = [(row, sp)]) ∧
  (∃ (s : State), s.stb.window = true) ∧
  (∃ (s : State), s.rd R.STB_CACHE_PEND = 0) ∧
  (∃ (s : State) (q : Fin 4), s.rd R.STB_CACHE_PEND = 2 ^ q.val) ∧
  (∃ (s : State) (q : Fin 4), s.rd R.STB_CACHE_PEND = 2 ^ q.val) ∧
  (∃ (s : State) (c : Cmd) (q k : Nat) (h : Bytes), s.Ready c ∧ c.payload = le 1 q ++ le 1 k ++ h ∧ q < 4 ∧ k < 4 ∧ h.length = 64 ∧ h.take 4 = [0x46, 0x41, 0x4C, 0x31] ∧ u8 h 4 = 1 ∧ u32 h 60 = crc32 (h.take 60) ∧ u16 h 22 < u16 h 6 ∧ u32 h 16 ≤ 168000 ∧ u16 h 6 ≤ s.rd (R.STB_TASK_C_BOUND q k) - s.rd (R.STB_TASK_C_BASE q k) ∧ u32 h 8 ≤ (s.rd (R.STB_TASK_W_BOUND q k) - s.rd (R.STB_TASK_W_BASE q k)) * 64 ∧ u16 h 12 ≤ s.rd (R.STB_TASK_A_BOUND q k) - s.rd (R.STB_TASK_A_BASE q k) ∧ u16 h 14 ≤ s.rd (R.STB_TASK_P_BOUND q k) - s.rd (R.STB_TASK_P_BASE q k) ∧ s.rd R.STB_STAT_OFF ≠ 1 ∧ (s.rd (R.STB_TASK_STATE q k) = 0 ∨ s.rd (R.STB_TASK_STATE q k) = 2 ∨ s.rd (R.STB_TASK_STATE q k) = 5) ∧ (∀ n ∈ List.range 32, wants n 0x58 (s.chan n) = false)) ∧
  (∃ (s : State) (c : Cmd), s.Ready c) ∧
  (∃ (s : State) (c : Cmd), s.Ready c) ∧
  (∃ (s : State) (c : Cmd) (q k : Nat) (b : Bytes), s.Ready c ∧ q < 4 ∧ k < 4 ∧ c.payload = le 1 q ++ le 1 k ++ le 4 (s.task q k).image.length ++ b ∧ 0 < b.length ∧ b.length ≤ 4000 ∧ (s.task q k).image.length + b.length ≤ 4 * (s.task q k).codeLen + (s.task q k).wLen ∧ (s.task q k).image.length < 2 ^ 32 ∧ s.rd R.STB_STAT_OFF ≠ 1 ∧ s.rd (R.STB_TASK_STATE q k) = 1) ∧
  (∃ (s : State) (c : Cmd), s.Ready c) ∧
  (∃ (s : State) (c : Cmd), s.Ready c) ∧
  (∃ (s : State) (c : Cmd) (q k : Nat), s.Ready c ∧ q < 4 ∧ k < 4 ∧ c.payload = le 1 q ++ le 1 k ∧ s.rd R.STB_STAT_OFF ≠ 1 ∧ s.rd (R.STB_TASK_STATE q k) = 1 ∧ (∀ n ∈ List.range 32, wants n 0x58 (s.chan n) = false)) ∧
  (∃ (s : State) (c : Cmd) (q k : Nat), s.Ready c ∧ q < 4 ∧ k < 4 ∧ c.payload = le 1 q ++ le 1 k ∧ s.rd R.STB_STAT_OFF ≠ 1 ∧ s.rd (R.STB_TASK_STATE q k) = 1 ∧ (∀ n ∈ List.range 32, wants n 0x58 (s.chan n) = false)) ∧
  (∃ (s : State) (c : Cmd), s.Ready c) ∧
  (∃ (s : State) (c : Cmd) (q k : Nat), s.Ready c ∧ q < 4 ∧ k < 4 ∧ c.payload = le 1 q ++ le 1 k ∧ s.rd R.STB_STAT_OFF ≠ 1 ∧ (s.rd (R.STB_TASK_STATE q k) = 2 ∨ s.rd (R.STB_TASK_STATE q k) = 5 ∧ s.rd (R.STB_TASK_WHY q k) ≠ 6) ∧ s.ringsReady q k = true ∧ s.commitment q + s.rd (R.STB_TASK_BUDGET q k) ≤ 168000 * (4 - s.rd R.STB_STAT_SKIPQ) / 4 ∧ (∀ n ∈ List.range 32, wants n 0x58 (s.chan n) = false)) ∧
  (∃ (s : State) (c : Cmd), s.Ready c) ∧
  (∃ (s : State) (c : Cmd) (q k : Nat), s.Ready c ∧ q < 4 ∧ k < 4 ∧ c.payload = le 1 q ++ le 1 k ∧ 3 ≤ s.rd (R.STB_TASK_STATE q k) ∧ s.rd (R.STB_TASK_STATE q k) ≤ 5 ∧ (s.task q k).stop = [] ∧ (s.stall q).order.head? ≠ some k ∧ (∀ n ∈ List.range 32, wants n 0x58 (s.chan n) = false)) ∧
  (∃ (s : State) (c : Cmd) (q k : Nat), s.Ready c ∧ q < 4 ∧ k < 4 ∧ c.payload = le 1 q ++ le 1 k ∧ 3 ≤ s.rd (R.STB_TASK_STATE q k) ∧ s.rd (R.STB_TASK_STATE q k) ≤ 5 ∧ (s.stall q).order.head? = some k) ∧
  (∃ (s : State) (c : Cmd), s.Ready c) ∧
  (∃ (s : State) (c : Cmd) (q r : Nat) (d : Bytes), s.Ready c ∧ q < 4 ∧ r < 16 ∧ c.payload = le 1 q ++ le 1 r ++ d ∧ d ≠ [] ∧ d.length % 16 = 0 ∧ d.length ≤ 4080 ∧ (∀ i ∈ List.range 2040, u16 d (2 * i) ≤ 0xFFF) ∧ s.rd R.STB_STAT_OFF ≠ 1 ∧ s.rd (R.STB_RING_EN q r) = 1 ∧ s.rd (R.STB_RING_ROLE q r) = 1 ∧ s.rd (R.STB_RING_SRC q r) = 0) ∧
  (∃ (s : State) (c : Cmd), s.Ready c) ∧
  (∃ (s : State) (c : Cmd), s.Ready c) :=
  ⟨⟨{ st with stb.window := false }, by decide +kernel⟩,
   ⟨{ st.wrs [(R.STB_TASK_STATE 2 1, 3), (R.STB_TASK_STATE 2 3, 3), (R.STB_RING_EN 2 5, 1), (R.STB_RING_SIZE 2 5, 16), (R.STB_RING_FILL 2 5, 9)] with stb.window := true, stb.stalls := [(2, { order := [1, 3], used := 44, rings := [(5, { taken := 2 })] })] }, 2, 1, [3], by decide +kernel⟩,
   ⟨{ st.wrs [(R.STB_TASK_STATE 2 1, 3), (R.STB_RING_EN 2 5, 1), (R.STB_RING_SIZE 2 5, 16), (R.STB_RING_FILL 2 5, 9)] with stb.window := true, stb.stalls := [(2, { used := 44, rings := [(5, { taken := 2 })] })] }, by decide +kernel⟩,
   ⟨st, 0x40124, .act, 0x124, by decide +kernel⟩,
   ⟨st, 0x60124, .psum, 0x124, by decide +kernel⟩,
   ⟨0x00124, by decide +kernel⟩,
   ⟨0x30000, by decide +kernel⟩,
   ⟨0x00124, by decide +kernel⟩,
   ⟨0x00124, by decide +kernel⟩,
   ⟨st, 2, 0x124, by decide +kernel⟩,
   ⟨{ st.wr R.STB_CACHE_ACTIVE 4 with stb.stalls := [(2, { cache := [(37, 9)] })] }, 2, 0x124, by decide +kernel⟩,
   ⟨{ st.wr R.STB_CACHE_ACTIVE 4 with stb.stalls := [(2, { cache := [(37, 9)] })] }, 2, 0x224, by decide +kernel⟩,
   ⟨{ st.wr R.STB_CACHE_ACTIVE 4 with stb.stalls := [(2, { cache := [(37, 9)] })] }, 2, 0x124, by decide +kernel⟩,
   ⟨{ st.wr R.STB_CACHE_ACTIVE 4 with stb.stalls := [(2, { cache := [(36, 9)] })] }, 2, 0x224, by decide +kernel⟩,
   ⟨{ st with stb.stalls := [(2, { scrub := 20479, pass := 3 })] }, 2, by decide +kernel⟩,
   ⟨{ st with stb.stalls := [(2, { scrub := 77, wErr := [(77, 1)] })] }, 2, by decide +kernel⟩,
   ⟨{ st with stb.stalls := [(2, { scrub := 127, blocks := [(0, 5)] })] }, 2, 5, by decide +kernel⟩,
   ⟨(st.wr (R.STB_STAT_OFF) (1)), by decide +kernel⟩,
   ⟨{ st with stb.stalls := [(2, { copyDue := [(130, 9)], wErr := [(4160, 1), (4161, 2)] })] }, 2, 130, 9, by decide +kernel⟩,
   ⟨{ st with stb.window := true, stb.stalls := [(2, { copyDue := [(130, 9)] })] }, by decide +kernel⟩,
   ⟨(st.wr (R.STB_CACHE_PEND) (0)), by decide +kernel⟩,
   ⟨st.wrs [(R.STB_CACHE_EN, 4), (R.STB_CACHE_PEND, 4)], 2, by decide +kernel⟩,
   ⟨st.wrs [(R.STB_CACHE_EN, 4), (R.STB_CACHE_PEND, 4), (R.STB_TASK_STATE 2 1, 1), (R.STB_TASK_A_BOUND 2 1, 4097)], 2, by decide +kernel⟩,
   ⟨(st.wrs [(R.STB_TASK_C_BOUND 2 1, 64)]), ⟨1, 5, [2, 1] ++ hdr⟩, 2, 1, hdr, ready _ _ (by decide +kernel), by decide +kernel, by decide +kernel, by decide +kernel, by decide +kernel, by decide +kernel, by decide +kernel, by decide +kernel, by decide +kernel, by decide +kernel, by decide +kernel, by decide +kernel, by decide +kernel, by decide +kernel, by decide +kernel, by decide +kernel, by decide +kernel⟩,
   ⟨st, ⟨1, 5, [2, 1] ++ hdr.set 3 0⟩, ready _ _ (by decide +kernel)⟩,
   ⟨st, ⟨1, 5, [2, 4] ++ hdr⟩, ready _ _ (by decide +kernel)⟩,
   ⟨{ st.wrs [(R.STB_TASK_C_BOUND 2 1, 64), (R.STB_TASK_STATE 2 1, 1)] with stb.stalls := [(2, { tasks := [(1, { codeLen := 2, image := [1, 2, 3] })] })] }, ⟨1, 5, [2, 1, 3, 0, 0, 0, 9, 9]⟩, 2, 1, [9, 9], ready _ _ (by decide +kernel), by decide +kernel, by decide +kernel, by decide +kernel, by decide +kernel, by decide +kernel, by decide +kernel, by decide +kernel, by decide +kernel, by decide +kernel⟩,
   ⟨{ st.wrs [(R.STB_TASK_C_BOUND 2 1, 64), (R.STB_TASK_STATE 2 1, 1)] with stb.stalls := [(2, { tasks := [(1, { codeLen := 2, image := [1, 2, 3] })] })] }, ⟨1, 5, [2, 1, 4, 0, 0, 0, 9, 9]⟩, ready _ _ (by decide +kernel)⟩,
   ⟨st, ⟨1, 5, [2, 1, 4, 0, 0, 0, 9, 9]⟩, ready _ _ (by decide +kernel)⟩,
   ⟨{ st.wrs [(R.STB_TASK_STATE 2 1, 1)] with stb.stalls := [(2, { tasks := [(1, { codeLen := 1, image := [0, 0, 0, 0xF0], crc := crc32 [0, 0, 0, 0xF0] })] })] }, ⟨1, 5, [2, 1]⟩, 2, 1, ready _ _ (by decide +kernel), by decide +kernel, by decide +kernel, by decide +kernel, by decide +kernel, by decide +kernel, by decide +kernel⟩,
   ⟨{ st.wrs [(R.STB_TASK_STATE 2 1, 1)] with stb.stalls := [(2, { tasks := [(1, { codeLen := 1, image := [0, 0, 0, 0x90], crc := crc32 [0, 0, 0, 0x90] })] })] }, ⟨1, 5, [2, 1]⟩, 2, 1, ready _ _ (by decide +kernel), by decide +kernel, by decide +kernel, by decide +kernel, by decide +kernel, by decide +kernel, by decide +kernel⟩,
   ⟨st, ⟨1, 5, [2, 1]⟩, ready _ _ (by decide +kernel)⟩,
   ⟨{ st.wrs [(R.STB_TASK_STATE 2 1, 2), (R.STB_TASK_BUDGET 2 1, 70000), (R.STB_TASK_STATE 2 0, 4), (R.STB_TASK_BUDGET 2 0, 98000)] with stb.stalls := [(2, { tasks := [(1, { entry := 3, ar := [(2, 2)] })] })] }, ⟨1, 5, [2, 1]⟩, 2, 1, ready _ _ (by decide +kernel), by decide +kernel, by decide +kernel, by decide +kernel, by decide +kernel, by decide +kernel, by decide +kernel, by decide +kernel, by decide +kernel⟩,
   ⟨{ st.wrs [(R.STB_TASK_STATE 2 1, 2), (R.STB_TASK_BUDGET 2 1, 70001), (R.STB_TASK_STATE 2 0, 4), (R.STB_TASK_BUDGET 2 0, 98000)] with stb.stalls := [(2, { tasks := [(1, { entry := 3, ar := [(2, 2)] })] })] }, ⟨1, 5, [2, 1]⟩, ready _ _ (by decide +kernel)⟩,
   ⟨{ st.wrs [(R.STB_TASK_STATE 2 1, 4)] with stb.stalls := [(2, { order := [3, 1] })] }, ⟨1, 5, [2, 1]⟩, 2, 1, ready _ _ (by decide +kernel), by decide +kernel, by decide +kernel, by decide +kernel, by decide +kernel, by decide +kernel, by decide +kernel, by decide +kernel, by decide +kernel⟩,
   ⟨{ st.wrs [(R.STB_TASK_STATE 2 1, 3)] with stb.stalls := [(2, { order := [1, 3] })] }, ⟨1, 5, [2, 1]⟩, 2, 1, ready _ _ (by decide +kernel), by decide +kernel, by decide +kernel, by decide +kernel, by decide +kernel, by decide +kernel, by decide +kernel⟩,
   ⟨st, ⟨1, 5, [2, 1]⟩, ready _ _ (by decide +kernel)⟩,
   ⟨st.wrs [(R.STB_RING_EN 2 3, 1), (R.STB_RING_ROLE 2 3, 1)], ⟨1, 5, [2, 3] ++ List.replicate 16 0⟩, 2, 3, List.replicate 16 0, ready _ _ (by decide +kernel), by decide +kernel, by decide +kernel, by decide +kernel, by decide +kernel, by decide +kernel, by decide +kernel, by decide +kernel, by decide +kernel, by decide +kernel, by decide +kernel, by decide +kernel⟩,
   ⟨st, ⟨1, 5, [2, 3] ++ List.replicate 15 0 ++ [0x20]⟩, ready _ _ (by decide +kernel)⟩,
   ⟨st, ⟨1, 5, [2, 3] ++ List.replicate 16 0⟩, ready _ _ (by decide +kernel)⟩⟩

/-- The premises of MatrixPanel hold together. -/
theorem meets_MatrixPanel :
  (∃ (s : State), s.dsp.lapAt = some s.cad.now) ∧
  (∃ (s : State) (n : Nat), n < 300 ∧ s.dsp.lapAt ≠ some s.cad.now ∧ (s.rd R.DSP_STAT_STATE = 3 ∨ s.rd R.DSP_STAT_STATE = 4) ∧ s.dsp.gpos = some (s.ladder false) ∧ s.dsp.gneg = some (s.ladder true)) ∧
  (∃ (s : State), s.dsp.lapAt ≠ some s.cad.now ∧ s.rd R.DSP_STAT_STATE = 3 ∧ s.rd R.DSP_STAT_LANTERN ≠ 1 ∧ s.rd R.THM_STAT_LEVEL = 0 ∧ s.dsp.modeDue = none ∧ s.dsp.off = none ∧ s.dsp.plain = false ∧ s.dsp.presents = [] ∧ s.dsp.parBad = []) ∧
  (∃ (s : State), s.dsp.lapAt ≠ some s.cad.now ∧ s.rd R.DSP_STAT_STATE = 3 ∧ s.rd R.DSP_STAT_LANTERN ≠ 1 ∧ s.rd R.THM_STAT_LEVEL = 0 ∧ s.dsp.modeDue = none ∧ s.dsp.off = none ∧ s.dsp.plain = false ∧ s.dsp.presents = [] ∧ s.dsp.parBad = []) ∧
  (∃ (s : State), s.dsp.lapAt ≠ some s.cad.now ∧ s.rd R.DSP_STAT_STATE = 3 ∧ s.dsp.modeDue = some true ∧ s.dsp.modeCmds = [] ∧ s.dsp.off = none ∧ s.dsp.presents = [] ∧ s.dsp.parBad = []) ∧
  (∃ (s : State), s.dsp.lapAt ≠ some s.cad.now ∧ s.rd R.DSP_STAT_STATE = 3 ∧ s.dsp.modeDue = some true ∧ s.dsp.modeCmds = [] ∧ s.dsp.off = none ∧ s.dsp.presents = [] ∧ s.dsp.parBad = []) ∧
  (∃ (s : State), s.dsp.lapAt ≠ some s.cad.now ∧ s.rd R.DSP_STAT_STATE = 3 ∧ s.rd R.DSP_STAT_LANTERN = 1 ∧ s.dsp.modeDue = some false ∧ s.dsp.off = none ∧ s.dsp.parBad = []) ∧
  (∃ (s : State), s.dsp.lapAt ≠ some s.cad.now ∧ (s.rd R.DSP_STAT_STATE = 0 ∨ s.rd R.DSP_STAT_STATE = 3 ∧ s.rd R.DSP_STAT_LANTERN = 1) ∧ s.dsp.modeDue = none ∧ s.dsp.off = none ∧ s.dsp.presents ≠ [] ∧ s.dsp.parBad = []) ∧
  (∃ (s : State), s.dsp.lapAt ≠ some s.cad.now ∧ (s.rd R.DSP_STAT_STATE = 0 ∨ s.rd R.DSP_STAT_STATE = 3 ∧ s.rd R.DSP_STAT_LANTERN = 1) ∧ s.dsp.modeDue = none ∧ s.dsp.off = none ∧ s.dsp.presents ≠ [] ∧ s.dsp.parBad = []) ∧
  (∃ (s : State), s.dsp.lapAt ≠ some s.cad.now ∧ s.rd R.DSP_STAT_STATE = 3 ∧ s.rd R.DSP_STAT_LANTERN ≠ 1 ∧ s.rd R.THM_STAT_LEVEL = 0 ∧ s.dsp.modeDue = none ∧ s.dsp.off = none ∧ s.dsp.plain = false ∧ s.dsp.presents ≠ [] ∧ s.dsp.parBad = [] ∧ s.lap % 2 ^ s.rd R.DSP_CFG_RATE = 0) ∧
  (∃ (s : State), s.dsp.lapAt ≠ some s.cad.now ∧ s.rd R.DSP_STAT_STATE = 3 ∧ s.rd R.DSP_STAT_LANTERN ≠ 1 ∧ s.rd R.THM_STAT_LEVEL = 0 ∧ s.dsp.modeDue = none ∧ s.dsp.off = none ∧ s.dsp.plain = false ∧ s.dsp.presents ≠ [] ∧ s.dsp.parBad = [] ∧ s.lap % 2 ^ s.rd R.DSP_CFG_RATE = 0) ∧
  (∃ (s : State), s.dsp.lapAt ≠ some s.cad.now ∧ s.rd R.DSP_STAT_STATE = 3 ∧ s.rd R.DSP_STAT_LANTERN ≠ 1 ∧ s.rd R.THM_STAT_LEVEL = 0 ∧ s.dsp.modeDue = none ∧ s.dsp.off = none ∧ s.dsp.plain = false ∧ s.dsp.parBad = [] ∧ s.lap % 2 ^ s.rd R.DSP_CFG_RATE ≠ 0) ∧
  (∃ (e : (Nat → Nat → Nat)), e 2 4 = 168 ∧ e 3 4 = 160 ∧ e 2 5 = 204 ∧ e 3 5 = 196) ∧
  (∃ (e : Nat → Nat → Nat) (p n : Nat), (∀ i ∈ List.range 8, ∀ j ∈ List.range 8, e i j = 36 * j) ∧ p < 64 ∧ n < 64) ∧
  (∃ (e : (Nat → Nat → Nat)), e 7 0 ≤ 252) ∧
  (∃ (s : State), s.dsp.stepAt ≠ some s.cad.now ∧ s.dsp.step = 1 ∧ s.rd R.DSP_STAT_VSRC_OK = 1 ∧ s.rd R.DSP_STAT_STATE = 1) ∧
  (∃ (s : State) (h l : Bool), s.dsp.stepAt ≠ some s.cad.now ∧ (s.dsp.step = 2 ∧ l = true ∨ s.dsp.step = 3 ∧ h = true)) ∧
  (∃ (s : State) (h l : Bool), s.dsp.stepAt ≠ some s.cad.now ∧ (s.dsp.step = 2 ∧ l = true ∨ s.dsp.step = 3 ∧ h = true)) ∧
  (∃ (s : State), s.dsp.stepAt ≠ some s.cad.now ∧ s.dsp.step = 4 ∧ s.rd R.DSP_STAT_STATE = 2 ∧ s.dsp.parBad = []) ∧
  (∃ (s : State) (h l : Bool), s.dsp.stepAt ≠ some s.cad.now ∧ s.rd R.DSP_STAT_STATE = 2 ∧ s.dsp.disch = none ∧ s.dsp.onCmds = [] ∧ (s.dsp.step = 1 ∧ s.rd R.DSP_STAT_VSRC_OK ≠ 1 ∨ s.dsp.step = 2 ∧ l = false ∨ s.dsp.step = 3 ∧ h = false)) ∧
  (∃ (s : State) (h l : Bool), s.dsp.stepAt ≠ some s.cad.now ∧ s.rd R.DSP_STAT_STATE = 2 ∧ s.dsp.disch = none ∧ s.dsp.onCmds = [] ∧ (s.dsp.step = 1 ∧ s.rd R.DSP_STAT_VSRC_OK ≠ 1 ∨ s.dsp.step = 2 ∧ l = false ∨ s.dsp.step = 3 ∧ h = false)) ∧
  (∃ (s : State), s.rd R.DSP_STAT_STATE ≠ 4 ∧ s.dsp.off = none) ∧
  (∃ (s : State) (w : Nat), s.rd R.DSP_STAT_STATE = 3 ∧ s.dsp.off = some w ∧ w < 16 ∧ s.dsp.parBad = []) ∧
  (∃ (s : State), s.rd R.DSP_STAT_STATE = 4 ∧ s.dsp.disch = none ∧ s.dsp.onCmds = []) ∧
  (∃ (s : State) (w : Nat), s.rd R.DSP_STAT_STATE = 2 ∧ s.dsp.off = some w ∧ s.dsp.disch = none ∧ s.dsp.onCmds = []) ∧
  (∃ (s : State), s.rd R.DSP_STAT_STATE = 0 ∨ s.rd R.DSP_STAT_STATE = 6 ∨ s.rd R.DSP_STAT_STATE = 5 ∧ s.dsp.disch ≠ none) ∧
  (∃ (s : State), s.rd R.DSP_STAT_STATE = 0 ∨ s.rd R.DSP_STAT_STATE = 6 ∨ s.rd R.DSP_STAT_STATE = 5 ∧ s.dsp.disch ≠ none) ∧
  (∃ (s : State), (s.rd R.DSP_STAT_STATE = 2 ∨ s.rd R.DSP_STAT_STATE = 3 ∨ s.rd R.DSP_STAT_STATE = 4) ∧ s.dsp.disch = none ∧ s.dsp.onCmds = []) ∧
  (∃ (s : State), (s.rd R.DSP_STAT_STATE = 2 ∨ s.rd R.DSP_STAT_STATE = 3 ∨ s.rd R.DSP_STAT_STATE = 4) ∧ s.dsp.disch = none ∧ s.dsp.onCmds = []) ∧
  (∃ (s : State), s.rd R.DSP_STAT_STATE = 1 ∧ s.dsp.onCmds = []) ∧
  (∃ (s : State), (s.rd R.DSP_STAT_STATE = 3 ∨ s.rd R.DSP_STAT_STATE = 4) ∧ (s.rd R.DSP_STAT_VGH_PG ≠ 1 ∨ s.rd R.DSP_STAT_VGL_PG ≠ 1) ∧ s.dsp.disch = none ∧ s.dsp.onCmds = []) ∧
  (∃ (s : State), (s.rd R.DSP_STAT_STATE = 3 ∨ s.rd R.DSP_STAT_STATE = 4) ∧ (s.rd R.DSP_STAT_VGH_PG ≠ 1 ∨ s.rd R.DSP_STAT_VGL_PG ≠ 1) ∧ s.dsp.disch = none ∧ s.dsp.onCmds = []) ∧
  (∃ (s : State), s.rd R.DSP_STAT_STATE ≠ 3 ∧ s.rd R.DSP_STAT_STATE ≠ 4) ∧
  (∃ (s : State), (s.rd R.DSP_STAT_STATE = 2 ∨ s.rd R.DSP_STAT_STATE = 3 ∨ s.rd R.DSP_STAT_STATE = 4) ∧ s.dsp.disch = none ∧ s.dsp.onCmds = []) ∧
  (∃ (s : State), s.rd R.DSP_STAT_STATE = 0 ∨ s.rd R.DSP_STAT_STATE = 6) ∧
  (∃ (s : State), s.dsp.disch = none) ∧
  (∃ (s : State) (d : Discharge), s.dsp.disch = some d ∧ s.rd R.DSP_STAT_STATE = 5 ∧ s.dsp.offCmds = [] ∧ s.dsp.rstDue = false) ∧
  (∃ (s : State) (d : Discharge), s.dsp.disch = some d ∧ s.rd R.DSP_STAT_STATE = 5 ∧ s.dsp.offCmds = [] ∧ s.dsp.rstDue = false) ∧
  (∃ (s : State), s.dsp.disch ≠ none ∧ s.dsp.offCmds = [] ∧ s.dsp.rstDue = true) ∧
  (∃ (s : State) (c : Cmd), s.Ready c ∧ s.limp = false ∧ s.dsp.queue.length < 32 ∧ s.console.isOpen = false ∧ (c.payload = [0] ∨ c.payload = [1] ∧ (s.rd R.DSP_STAT_STATE = 3 ∨ s.onRefused = false))) ∧
  (∃ (s : State) (c : Cmd), s.Ready c ∧ s.limp = false ∧ s.dsp.queue.length < 32 ∧ s.console.isOpen = false ∧ (c.payload = [0] ∨ c.payload = [1] ∧ (s.rd R.DSP_STAT_STATE = 3 ∨ s.onRefused = false))) ∧
  (∃ (s : State) (c : Cmd), s.Ready c) ∧
  (∃ (s : State) (c : Cmd), s.Ready c) ∧
  (∃ (s : State) (c : Cmd) (i : Instr) (op : Nat), s.Ready c ∧ s.limp = false ∧ s.dsp.queue.length < 32 ∧ s.console.isOpen = false ∧ ((i, op) = (Instr.dspWrite c, 0x61) ∧ 8 ≤ c.payload.length ∧ c.payload.length = 8 + 3 * (u16 c.payload 4 * u16 c.payload 6) ∧ rectOutside c.payload = false ∧ pixelBad (c.payload.drop 8) = false ∨ (i, op) = (Instr.dspFill c, 0x62) ∧ c.payload.length = 11 ∧ rectOutside c.payload = false ∧ pixelBad (c.payload.drop 8) = false ∨ (i, op) = (Instr.dspPresent c, 0x63) ∧ c.payload = [] ∨ (i, op) = (Instr.dspLwWrite c, 0x64) ∧ 5 < c.payload.length ∧ c.payload.length = 5 + u16 c.payload 3 ∧ u16 c.payload 3 ≤ 320 ∧ u8 c.payload 0 < 16 * (s.rd R.DSP_LW_HT + 1) ∧ u16 c.payload 1 + u16 c.payload 3 ≤ 16 * (s.rd R.DSP_LW_WT + 1) ∧ (c.payload.drop 5).all (fun x => decide (x.toNat ≤ 7)) = true ∨ (i, op) = (Instr.dspMode c, 0x65) ∧ (c.payload = [0] ∨ c.payload = [1]) ∧ s.rd R.PWR_STAT_MODE ≠ 1)) ∧
  (∃ (s : State) (c : Cmd) (i : Instr) (op : Nat), s.Ready c ∧ s.limp = false ∧ s.dsp.queue.length < 32 ∧ s.console.isOpen = false ∧ ((i, op) = (Instr.dspWrite c, 0x61) ∧ 8 ≤ c.payload.length ∧ c.payload.length = 8 + 3 * (u16 c.payload 4 * u16 c.payload 6) ∧ rectOutside c.payload = false ∧ pixelBad (c.payload.drop 8) = false ∨ (i, op) = (Instr.dspFill c, 0x62) ∧ c.payload.length = 11 ∧ rectOutside c.payload = false ∧ pixelBad (c.payload.drop 8) = false ∨ (i, op) = (Instr.dspPresent c, 0x63) ∧ c.payload = [] ∨ (i, op) = (Instr.dspLwWrite c, 0x64) ∧ 5 < c.payload.length ∧ c.payload.length = 5 + u16 c.payload 3 ∧ u16 c.payload 3 ≤ 320 ∧ u8 c.payload 0 < 16 * (s.rd R.DSP_LW_HT + 1) ∧ u16 c.payload 1 + u16 c.payload 3 ≤ 16 * (s.rd R.DSP_LW_WT + 1) ∧ (c.payload.drop 5).all (fun x => decide (x.toNat ≤ 7)) = true ∨ (i, op) = (Instr.dspMode c, 0x65) ∧ (c.payload = [0] ∨ c.payload = [1]) ∧ s.rd R.PWR_STAT_MODE ≠ 1)) ∧
  (∃ (s : State) (c : Cmd), s.Ready c) ∧
  (∃ (s : State) (c : Cmd), s.Ready c) ∧
  (∃ (s : State) (r : Ref) (p : Bytes) (x y w h : Nat), s.dsp.queue = [⟨r, p, 0⟩] ∧ r.op = 0x61 ∧ x = u16 p 0 ∧ y = u16 p 2 ∧ w = u16 p 4 ∧ h = u16 p 6 ∧ p.length = 8 + 3 * (w * h) ∧ x + w ≤ 320 ∧ w * h ≤ 1362 ∧ s.dsp.onDue = false ∧ s.dsp.shown = [] ∧ s.dsp.presenting = false) ∧
  (∃ (s : State) (r : Ref) (p : Bytes) (x y w h : Nat), s.dsp.queue = [⟨r, p, 0⟩] ∧ r.op = 0x62 ∧ x = u16 p 0 ∧ y = u16 p 2 ∧ w = u16 p 4 ∧ h = u16 p 6 ∧ p.length = 11 ∧ x + w ≤ 320 ∧ w * h ≤ 32512 ∧ s.dsp.onDue = false ∧ s.dsp.shown = [] ∧ s.dsp.presenting = false) ∧
  (∃ (s : State) (r : Ref) (p : Bytes) (l : List DspReq), s.dsp.queue = ⟨r, p, 0⟩ :: l ∧ (s.dsp.presenting = true ∧ (r.op = 0x61 ∨ r.op = 0x62) ∨ r.op = 0x64 ∧ s.lap = 0) ∧ s.dsp.onDue = false ∧ (s.dsp.presenting = true ∨ s.dsp.shown = [])) ∧
  (∃ (s : State) (r : Ref) (p : Bytes) (l : List DspReq), s.dsp.queue = ⟨r, p, 0⟩ :: l ∧ (s.dsp.presenting = true ∧ (r.op = 0x61 ∨ r.op = 0x62) ∨ r.op = 0x64 ∧ s.lap = 0) ∧ s.dsp.onDue = false ∧ (s.dsp.presenting = true ∨ s.dsp.shown = [])) ∧
  (∃ (s : State) (r : Ref) (p : Bytes), s.dsp.queue = [⟨r, p, 0⟩] ∧ r.op = 0x64 ∧ s.lap ≠ 0 ∧ p.length = 5 + u16 p 3 ∧ u16 p 3 ≤ 320 ∧ s.dsp.onDue = false ∧ s.dsp.shown = [] ∧ s.dsp.presenting = false) ∧
  (∃ (s : State) (r : Ref) (p : Bytes), s.dsp.queue = [⟨r, p, 0⟩] ∧ r.op = 0x63 ∧ s.dsp.onDue = false ∧ s.dsp.shown = []) ∧
  (∃ (s : State) (r : Ref) (p : Bytes), s.dsp.queue = [⟨r, p, 0⟩] ∧ r.op = 0x65 ∧ s.dsp.onDue = false ∧ s.dsp.shown = []) ∧
  (∃ (s : State) (r : Ref), s.dsp.queue = [⟨r, [1], 0⟩] ∧ r.op = 0x60 ∧ s.dsp.onDue = false ∧ s.dsp.shown = [] ∧ s.rd R.DSP_STAT_STATE = 0 ∧ s.onRefused = false) ∧
  (∃ (s : State) (r : Ref), s.dsp.queue = [⟨r, [0], 0⟩] ∧ r.op = 0x60 ∧ s.dsp.onDue = false ∧ s.dsp.shown = [] ∧ s.rd R.DSP_STAT_STATE = 3 ∧ s.dsp.off = none) ∧
  (∃ (v : BitVec 512), (∀ k ∈ List.range 64, bits v.toNat (8 * k) 8 ≤ 240)) ∧
  (∃ (v : BitVec 512), (∀ k ∈ List.range 64, bits v.toNat (8 * k) 8 ≤ 240)) :=
  ⟨⟨{ st with dsp.lapAt := some 1000 }, by decide +kernel⟩,
   ⟨{ st.wr R.DSP_STAT_STATE 3 with dsp.hZero := false, dsp.level := [(0, 63)], dsp.acc := [(0, -491000), (1, 491000), (2, 2147483647)], dsp.gpos := some (st.ladder false), dsp.gneg := some (st.ladder true) }, 0, by decide +kernel⟩,
   ⟨{ st.wr R.DSP_STAT_STATE 3 with cad.now := 32768 }, by decide +kernel⟩,
   ⟨{ st.wrs [(R.DSP_STAT_STATE, 3), (R.DSP_CFG_RATE, 2)] with cad.now := 34816 }, by decide +kernel⟩,
   ⟨{ st.wr R.DSP_STAT_STATE 3 with cad.now := 33280, dsp.modeDue := some true }, by decide +kernel⟩,
   ⟨{ st.wr R.DSP_STAT_STATE 3 with cad.now := 32768, dsp.modeDue := some true }, by decide +kernel⟩,
   ⟨{ st.wrs [(R.DSP_STAT_STATE, 3), (R.DSP_STAT_LANTERN, 1), (R.DSP_CFG_RATE, 2), (R.DSP_CFG_OD_EN, 1)] with cad.now := 33280, dsp.modeDue := some false, dsp.nxt := [(5, 7)] }, by decide +kernel⟩,
   ⟨{ st.wr R.DSP_CFG_OD_EN 1 with dsp.nxt := [(5, 7)], dsp.presents := [⟨1, 5, 0x63, 0⟩] }, by decide +kernel⟩,
   ⟨{ st.wrs [(R.DSP_STAT_STATE, 3), (R.DSP_STAT_LANTERN, 1)] with dsp.nxt := [(5, 7)], dsp.presents := [⟨1, 5, 0x63, 0⟩] }, by decide +kernel⟩,
   ⟨{ st.wrs [(R.DSP_STAT_STATE, 3), (R.DSP_CFG_OD_EN, 1), (R.DSP_OD_E 20, 168), (R.DSP_OD_E 28, 160), (R.DSP_OD_E 21, 204), (R.DSP_OD_E 29, 196)] with cad.now := 10752, dsp.level := [(48300, 20), (48301, 10)], dsp.nxt := [(48300, 40), (48301, 10)], dsp.presents := [⟨1, 5, 0x63, 0⟩] }, by decide +kernel⟩,
   ⟨{ st.wrs [(R.DSP_STAT_STATE, 3), (R.DSP_CFG_OD_EN, 0), (R.DSP_OD_E 20, 168), (R.DSP_OD_E 28, 160), (R.DSP_OD_E 21, 204), (R.DSP_OD_E 29, 196)] with cad.now := 10752, dsp.level := [(48300, 20), (48301, 10)], dsp.nxt := [(48300, 40), (48301, 10)], dsp.presents := [⟨1, 5, 0x63, 0⟩] }, by decide +kernel⟩,
   ⟨{ st.wrs [(R.DSP_STAT_STATE, 3), (R.DSP_CFG_RATE, 2), (R.DSP_STAT_PRES_PEND, 1)] with cad.now := 33280, dsp.nxt := [(5, 7)], dsp.presents := [⟨1, 5, 0x63, 0⟩] }, by decide +kernel⟩,
   ⟨fun i j => if i = 2 ∧ j = 4 then 168 else if i = 3 ∧ j = 4 then 160 else if i = 2 ∧ j = 5 then 204 else if i = 3 ∧ j = 5 then 196 else 36 * j, by decide +kernel⟩,
   ⟨fun _ j => 36 * j, 17, 62, by decide +kernel⟩,
   ⟨fun _ _ => 252, by decide +kernel⟩,
   ⟨{ st.wrs [(R.DSP_STAT_STATE, 1), (R.DSP_STAT_VSRC_OK, 1)] with dsp.step := 1 }, by decide +kernel⟩,
   ⟨{ st.wrs [(R.DSP_STAT_STATE, 2), (R.DSP_STAT_VSRC_OK, 1)] with dsp.step := 2 }, false, true, by decide +kernel⟩,
   ⟨{ st.wrs [(R.DSP_STAT_STATE, 2), (R.DSP_STAT_VSRC_OK, 1)] with dsp.step := 3 }, true, false, by decide +kernel⟩,
   ⟨{ st.wrs [(R.DSP_STAT_STATE, 2), (R.DSP_STAT_VSRC_OK, 1)] with dsp.step := 4 }, by decide +kernel⟩,
   ⟨{ st.wrs [(R.DSP_STAT_STATE, 2)] with dsp.step := 1 }, false, true, by decide +kernel⟩,
   ⟨{ st.wrs [(R.DSP_STAT_STATE, 2)] with dsp.step := 2 }, true, false, by decide +kernel⟩,
   ⟨st.wr R.DSP_STAT_STATE 3, by decide +kernel⟩,
   ⟨{ st.wr R.DSP_STAT_STATE 3 with dsp.off := some 7 }, 7, by decide +kernel⟩,
   ⟨st.wrs [(R.DSP_STAT_STATE, 4), (R.DSP_STAT_VGH_PG, 1), (R.DSP_STAT_WHY, 1)], by decide +kernel⟩,
   ⟨{ st.wrs [(R.DSP_STAT_STATE, 2)] with dsp.off := some 1 }, 1, by decide +kernel⟩,
   ⟨st.wrs [(R.DSP_STAT_STATE, 6)], by decide +kernel⟩,
   ⟨{ st.wrs [(R.DSP_STAT_STATE, 5)] with dsp.disch := some ⟨true, false⟩ }, by decide +kernel⟩,
   ⟨{ st.wrs [(R.DSP_STAT_STATE, 3), (R.PWR_STAT_PFI, 1), (R.DSP_STAT_VGH_PG, 1)] with dsp.kind := 1 }, by decide +kernel⟩,
   ⟨{ st.wrs [(R.DSP_STAT_STATE, 4), (R.FLT_STAT_LEVEL, 1)] with dsp.kind := 1 }, by decide +kernel⟩,
   ⟨{ st.wrs [(R.DSP_STAT_STATE, 1)] with pwr.wait := [⟨0, 3, .panel, 5⟩], dsp.step := 1 }, by decide +kernel⟩,
   ⟨st.wrs [(R.DSP_STAT_STATE, 3), (R.DSP_STAT_VGH_PG, 1)], by decide +kernel⟩,
   ⟨st.wrs [(R.DSP_STAT_STATE, 4), (R.DSP_STAT_VGL_PG, 1)], by decide +kernel⟩,
   ⟨st, by decide +kernel⟩,
   ⟨st.wrs [(R.DSP_STAT_STATE, 3), (R.DSP_STAT_VSRC_OK, 1)], by decide +kernel⟩,
   ⟨st.wrs [(R.DSP_STAT_STATE, 0), (R.DSP_STAT_VSRC_OK, 1)], by decide +kernel⟩,
   ⟨{ st with dsp.disch := none }, by decide +kernel⟩,
   ⟨{ st.wrs [(R.DSP_STAT_STATE, 5), (R.DSP_STAT_WHY, 1)] with dsp.disch := some ⟨false, false⟩, dsp.acc := [(3, 9)], dsp.vghEn := true, dsp.vglEn := true }, ⟨false, false⟩, by decide +kernel⟩,
   ⟨{ st.wrs [(R.DSP_STAT_STATE, 5), (R.DSP_STAT_WHY, 5)] with dsp.disch := some ⟨true, true⟩, dsp.acc := [(3, 9)] }, ⟨true, true⟩, by decide +kernel⟩,
   ⟨{ st.wrs [(R.DSP_STAT_STATE, 5), (R.DSP_CFG_VCOM, 200)] with dsp.disch := some ⟨false, false⟩, dsp.level := [(3, 9)], dsp.lantern := [(3, 1)], dsp.rstDue := true }, by decide +kernel⟩,
   ⟨st.wrs [(R.DSP_STAT_VSRC_OK, 1)], ⟨1, 5, [1]⟩, ready _ _ (by decide +kernel), by decide +kernel, by decide +kernel, by decide +kernel, by decide +kernel⟩,
   ⟨st, ⟨1, 5, [0]⟩, ready _ _ (by decide +kernel), by decide +kernel, by decide +kernel, by decide +kernel, by decide +kernel⟩,
   ⟨st, ⟨1, 5, [1]⟩, ready _ _ (by decide +kernel)⟩,
   ⟨{ st.wrs [(R.DSP_STAT_VSRC_OK, 1)] with dsp.queue := List.replicate 32 ⟨⟨1, 6, 0x63, 0⟩, [], 0⟩ }, ⟨1, 5, [0]⟩, ready _ _ (by decide +kernel)⟩,
   ⟨st, ⟨1, 5, [100, 0, 50, 0, 1, 0, 1, 0, 40, 10, 10]⟩, .dspWrite ⟨1, 5, [100, 0, 50, 0, 1, 0, 1, 0, 40, 10, 10]⟩, 0x61, ready _ _ (by decide +kernel), by decide +kernel, by decide +kernel, by decide +kernel, by decide +kernel⟩,
   ⟨st, ⟨1, 5, [100, 0, 50, 0, 1, 0, 180, 0, 40, 10, 10]⟩, .dspFill ⟨1, 5, [100, 0, 50, 0, 1, 0, 180, 0, 40, 10, 10]⟩, 0x62, ready _ _ (by decide +kernel), by decide +kernel, by decide +kernel, by decide +kernel, by decide +kernel⟩,
   ⟨st, ⟨1, 5, [100, 0, 50, 0, 1, 0, 1, 0, 40, 10, 64]⟩, ready _ _ (by decide +kernel)⟩,
   ⟨st, ⟨1, 5, [64, 1, 50, 0, 1, 0, 1, 0, 40, 10, 6]⟩, ready _ _ (by decide +kernel)⟩,
   ⟨{ st with dsp.queue := [⟨⟨1, 5, 0x61, 0⟩, [100, 0, 50, 0, 2, 0, 2, 0, 40, 10, 10, 1, 2, 3, 4, 5, 6, 7, 8, 9], 0⟩] }, ⟨1, 5, 0x61, 0⟩, [100, 0, 50, 0, 2, 0, 2, 0, 40, 10, 10, 1, 2, 3, 4, 5, 6, 7, 8, 9], 100, 50, 2, 2, by decide +kernel⟩,
   ⟨{ st with dsp.queue := [⟨⟨1, 5, 0x62, 0⟩, [100, 0, 50, 0, 2, 0, 2, 0, 40, 10, 11], 0⟩] }, ⟨1, 5, 0x62, 0⟩, [100, 0, 50, 0, 2, 0, 2, 0, 40, 10, 11], 100, 50, 2, 2, by decide +kernel⟩,
   ⟨{ st with dsp.queue := [⟨⟨1, 5, 0x61, 0⟩, [0, 0, 0, 0, 0, 0, 0, 0], 0⟩], dsp.presenting := true }, ⟨1, 5, 0x61, 0⟩, [0, 0, 0, 0, 0, 0, 0, 0], [], by decide +kernel⟩,
   ⟨{ st with cad.now := 32768, dsp.queue := [⟨⟨1, 5, 0x64, 0⟩, [0, 0, 0, 1, 0, 1], 0⟩] }, ⟨1, 5, 0x64, 0⟩, [0, 0, 0, 1, 0, 1], [], by decide +kernel⟩,
   ⟨{ st with cad.now := 33280, dsp.queue := [⟨⟨1, 5, 0x64, 0⟩, [3, 60, 1, 2, 0, 7, 1], 0⟩] }, ⟨1, 5, 0x64, 0⟩, [3, 60, 1, 2, 0, 7, 1], by decide +kernel⟩,
   ⟨{ st with dsp.queue := [⟨⟨1, 5, 0x63, 0⟩, [], 0⟩] }, ⟨1, 5, 0x63, 0⟩, [], by decide +kernel⟩,
   ⟨{ st with dsp.queue := [⟨⟨1, 5, 0x65, 0⟩, [1], 0⟩] }, ⟨1, 5, 0x65, 0⟩, [1], by decide +kernel⟩,
   ⟨{ st.wrs [(R.DSP_STAT_VSRC_OK, 1), (R.PWR_CLASS_RES_A, 300)] with dsp.queue := [⟨⟨1, 5, 0x60, 0⟩, [1], 0⟩] }, ⟨1, 5, 0x60, 0⟩, by decide +kernel⟩,
   ⟨{ st.wrs [(R.DSP_STAT_STATE, 3)] with dsp.queue := [⟨⟨1, 5, 0x60, 0⟩, [0], 0⟩] }, ⟨1, 5, 0x60, 0⟩, by decide +kernel⟩,
   ⟨0x0102030405, by decide +kernel⟩,
   ⟨0x0102030405, by decide +kernel⟩⟩

/-- The premises of SegmentPanel hold together. -/
theorem meets_SegmentPanel :
  (∃ (s : State), s.rd R.SEG_STAT_RUN = 1) ∧
  (∃ (s : State), s.rd R.SEG_STAT_RUN = 1) ∧
  (∃ (s : State), s.rd R.SEG_STAT_RUN ≠ 1) ∧
  (∃ (s : State), s.seg.swap = none) ∧
  (∃ (s : State) (p : List Nat), s.seg.swap = some p ∧ p.length = 48) ∧
  (∃ (s : State), s.rd R.SEG_STAT_VLCD_LOW = 0) ∧
  (∃ (s : State), s.rd R.SEG_STAT_VLCD_LOW = 1) ∧
  (∃ (s : State), s.rd R.SEG_STAT_VLCD_LOW = 1) ∧
  (∃ (s : State), s.rd R.SEG_STAT_VLCD_LOW = 0) ∧
  (∃ (s : State), s.seg.altDue = true ∧ s.rd R.SEG_CFG_ALT_EN = 1 ∧ s.seg.noMain = true) ∧
  (∃ (s : State), s.rd R.SEG_CFG_ALT_EN ≠ 1 ∨ s.seg.noMain = false) ∧
  (∃ (s : State), s.seg.noMain = true ∧ s.rd R.SEG_CFG_LOSS_T ≠ 0 ∧ s.rd R.SEG_STAT_RUN = 1) ∧
  (∃ (s : State), s.seg.noMain = false ∨ s.rd R.SEG_CFG_LOSS_T = 0 ∨ s.rd R.SEG_STAT_RUN ≠ 1) ∧
  (∃ (s : State), s.seg.noMain = true ∧ s.seg.loss < 65535) ∧
  (∃ (s : State), s.seg.noMain = true ∧ s.seg.loss < 65535) ∧
  (∃ (s : State), s.seg.noMain = false ∧ s.rd R.SEG_STAT_STOPPED_LOSS = 1) ∧
  (∃ (s : State), s.seg.noMain = false ∧ s.rd R.SEG_STAT_STOPPED_LOSS = 0 ∧ s.seg.stby = true) ∧
  (∃ (s : State), s.seg.noMain = true ∨ s.rd R.SEG_STAT_STOPPED_LOSS ≠ 1 ∧ s.seg.stby = false) ∧
  (∃ (s : State), s.seg.noMain = true ∨ s.rd R.SEG_STAT_STOPPED_LOSS ≠ 1 ∧ s.seg.stby = false) ∧
  (∃ (v : BitVec 32), v.toNat / 2 ^ 8 % 2 ^ 8 ≤ 250) ∧
  (∃ (v : BitVec 32), 250 < v.toNat / 2 ^ 8 % 2 ^ 8) ∧
  (∃ (s : State), s.seg.lapAt ≠ some s.cad.now ∧ s.rd R.SEG_STAT_STOPPED_LOSS = 0 ∧ s.seg.stby = false ∧ s.seg.swap = none ∧ s.seg.altDue = false) ∧
  (∃ (s : State), s.seg.lapAt ≠ some s.cad.now ∧ s.rd R.SEG_STAT_STOPPED_LOSS = 0 ∧ s.seg.stby = false ∧ s.seg.swap = none ∧ s.seg.altDue = false) ∧
  (∃ (s : State) (c : Cmd), s.Ready c ∧ 2 ≤ c.payload.length ∧ c.payload.length = 2 + u8 c.payload 1 ∧ u8 c.payload 0 + u8 c.payload 1 ≤ 48 ∧ s.seg.queue.length < 32) ∧
  (∃ (s : State) (c : Cmd), s.Ready c ∧ 2 ≤ c.payload.length ∧ c.payload.length = 2 + u8 c.payload 1 ∧ u8 c.payload 0 + u8 c.payload 1 ≤ 48 ∧ s.seg.queue.length < 32) ∧
  (∃ (s : State) (c : Cmd), s.Ready c) ∧
  (∃ (s : State) (c : Cmd), s.Ready c) ∧
  (∃ (s : State) (c : Cmd), s.Ready c ∧ c.payload = [] ∧ s.rd R.SEG_CFG_EN = 1 ∧ s.seg.queue.length < 32) ∧
  (∃ (s : State) (c : Cmd), s.Ready c) ∧
  (∃ (s : State) (c : Cmd), s.Ready c) ∧
  (∃ (s : State) (r : Ref) (p : Bytes), s.seg.queue = [⟨r, p, 0⟩] ∧ s.seg.done = [] ∧ r.op = 0x66 ∧ u8 p 0 + u8 p 1 ≤ 48) ∧
  (∃ (s : State) (r : Ref), s.seg.queue = [⟨r, [], 0⟩] ∧ s.seg.done = [] ∧ r.op = 0x67) ∧
  (∃ (s : State) (r : Ref), s.seg.queue = [] ∧ s.seg.done = [r]) ∧
  (∃ (s : State), s.seg.shows ≠ []) :=
  ⟨⟨st.wrs [(R.SEG_STAT_RUN, 1), (R.SEG_PAT_SEG 19, 8)], by decide +kernel⟩,
   ⟨st.wrs [(R.SEG_STAT_RUN, 1), (R.SEG_PAT_SEG 19, 8), (R.SEG_ALT_SEG 19, 1), (R.SEG_STAT_ALT, 1)], by decide +kernel⟩,
   ⟨st, by decide +kernel⟩,
   ⟨{ st with seg.swap := none }, by decide +kernel⟩,
   ⟨{ st.wrs [(R.SEG_STAT_ALT, 1), (R.SEG_PAT_SEG 3, 1), (R.SEG_BACK_SEG 3, 9)] with seg.swap := some (List.replicate 48 5), seg.ready := [⟨1, 5, 0x67, 0⟩] }, List.replicate 48 5, by decide +kernel⟩,
   ⟨st, by decide +kernel⟩,
   ⟨(st.wr (R.SEG_STAT_VLCD_LOW) (1)), by decide +kernel⟩,
   ⟨(st.wr (R.SEG_STAT_VLCD_LOW) (1)), by decide +kernel⟩,
   ⟨(st.wr (R.SEG_STAT_VLCD_LOW) (0)), by decide +kernel⟩,
   ⟨{ st.wr R.SEG_CFG_ALT_EN 1 with seg.altDue := true, seg.noMain := true }, by decide +kernel⟩,
   ⟨{ st with seg.altDue := true }, by decide +kernel⟩,
   ⟨{ st.wrs [(R.SEG_CFG_LOSS_T, 5), (R.SEG_STAT_RUN, 1)] with seg.noMain := true }, by decide +kernel⟩,
   ⟨st, by decide +kernel⟩,
   ⟨{ st.wrs [(R.SEG_CFG_LOSS_T, 5), (R.SEG_STAT_RUN, 1)] with seg.noMain := true, seg.loss := 4 }, by decide +kernel⟩,
   ⟨{ st.wrs [(R.SEG_CFG_LOSS_T, 5), (R.SEG_STAT_RUN, 1)] with seg.noMain := true, seg.loss := 3 }, by decide +kernel⟩,
   ⟨{ st.wrs [(R.SEG_CFG_EN, 1), (R.SEG_STAT_STOPPED_LOSS, 1), (R.SEG_PAT_SEG 4, 9)] with seg.loss := 7 }, by decide +kernel⟩,
   ⟨{ st.wr R.SEG_CFG_EN 1 with seg.stby := true }, by decide +kernel⟩,
   ⟨{ st with seg.noMain := true, seg.stby := true }, by decide +kernel⟩,
   ⟨st, by decide +kernel⟩,
   ⟨0x0012C807, by decide +kernel⟩,
   ⟨0xFB07, by decide +kernel⟩,
   ⟨{ st.wrs [(R.SEG_CFG_EN, 1), (R.SEG_CFG_VLCD, 192)] with seg.vlcd := 50 }, by decide +kernel⟩,
   ⟨{ st.wrs [(R.SEG_STAT_RUN, 1)] with seg.vlcd := 50 }, by decide +kernel⟩,
   ⟨st, ⟨1, 5, [46, 2, 7, 8]⟩, ready _ _ (by decide +kernel), by decide +kernel, by decide +kernel, by decide +kernel, by decide +kernel⟩,
   ⟨st, ⟨1, 5, [48, 0]⟩, ready _ _ (by decide +kernel), by decide +kernel, by decide +kernel, by decide +kernel, by decide +kernel⟩,
   ⟨st, ⟨1, 5, [46, 3, 7, 8, 9]⟩, ready _ _ (by decide +kernel)⟩,
   ⟨st, ⟨1, 5, [46, 3, 7, 8]⟩, ready _ _ (by decide +kernel)⟩,
   ⟨st.wr R.SEG_CFG_EN 1, ⟨1, 5, []⟩, ready _ _ (by decide +kernel), by decide +kernel, by decide +kernel, by decide +kernel⟩,
   ⟨st, ⟨1, 5, [1]⟩, ready _ _ (by decide +kernel)⟩,
   ⟨st, ⟨1, 5, []⟩, ready _ _ (by decide +kernel)⟩,
   ⟨{ st with seg.queue := [⟨⟨1, 5, 0x66, 0⟩, [46, 2, 7, 8], 0⟩] }, ⟨1, 5, 0x66, 0⟩, [46, 2, 7, 8], by decide +kernel⟩,
   ⟨{ st with seg.queue := [⟨⟨1, 5, 0x67, 0⟩, [], 0⟩] }, ⟨1, 5, 0x67, 0⟩, by decide +kernel⟩,
   ⟨{ st with seg.done := [⟨1, 5, 0x67, 0⟩] }, ⟨1, 5, 0x67, 0⟩, by decide +kernel⟩,
   ⟨{ st.wr (R.SEG_BACK_SEG 4) 9 with seg.shows := [⟨1, 5, 0x67, 0⟩] }, by decide +kernel⟩⟩

/-- The premises of DieThermal hold together. -/
theorem meets_DieThermal :
  (∃ (s : State), 0 < s.rd R.THM_STAT_TARGET ∧ s.enforced = 0 ∧ s.rd R.THM_STAT_GRACE ≤ 1 ∧ s.rd R.THM_STAT_TARGET < 4) ∧
  (∃ (s : State), s.rd R.THM_STAT_TARGET = 0 ∨ s.enforced ≠ 0 ∨ 1 < s.rd R.THM_STAT_GRACE) ∧
  (∃ (s : State) (d : Nat), 3 ≤ s.rd R.THM_STAT_STREAK ∧ s.rd R.THM_STAT_DELTA = d ∧ 0x10 ≤ d ∧ d < 0x800 ∧ s.rd R.THM_STAT_ALARM = 0) ∧
  (∃ (s : State) (d : Nat), 3 ≤ s.rd R.THM_STAT_STREAK ∧ s.rd R.THM_STAT_DELTA = d ∧ 0x10 ≤ d ∧ d < 0x800 ∧ s.rd R.THM_STAT_ALARM = 1) ∧
  (∃ (s : State), s.rd R.THM_STAT_STREAK < 3 ∨ s.rd R.THM_STAT_DELTA < 0x10 ∨ 0x800 ≤ s.rd R.THM_STAT_DELTA ∧ s.rd R.THM_STAT_DELTA < 0x1000) ∧
  (∃ (s : State), 7 ≤ s.thm.calm ∧ (s.rd R.THM_STAT_DELTA < 0x28 ∨ 0x800 ≤ s.rd R.THM_STAT_DELTA ∧ s.rd R.THM_STAT_DELTA < 0x1000)) ∧
  (∃ (s : State), s.thm.calm < 7 ∨ 0x28 ≤ s.rd R.THM_STAT_DELTA ∧ s.rd R.THM_STAT_DELTA < 0x800) ∧
  (∃ (s : State), 7 ≤ s.thm.below ∧ s.rd R.THM_STAT_TARGET < s.thm.level ∧ s.rd R.THM_STAT_ACT = 0 ∧ s.rd R.THM_STAT_FLOOR ≤ s.rd R.THM_STAT_TARGET ∧ s.rd R.THM_STAT_TARGET < 4) ∧
  (∃ (s : State), 7 ≤ s.thm.below ∧ s.rd R.THM_STAT_TARGET < s.thm.level ∧ s.rd R.THM_STAT_ACT = 1) ∧
  (∃ (s : State), s.thm.below < 7) ∧
  (∃ (s : State), s.thm.floors = [] ∧ s.rd R.PWR_STAT_MODE = 0 ∧ s.enforced < 4) ∧
  (∃ (s : State), s.thm.floors = [] ∧ s.rd R.PWR_STAT_MODE = 0 ∧ s.enforced < 4) ∧
  (∃ (s : State), s.thm.floors = [] ∧ s.rd R.PWR_STAT_MODE ≠ 0) ∧
  (∃ (s : State), s.rd R.THM_STAT_STOPPING = 1 ∧ (s.thm.end_ ≤ s.ticks ∨ (s.rd R.DSP_STAT_STATE = 0 ∨ s.rd R.DSP_STAT_STATE = 6) ∧ s.dsp.disch = none ∧ (∀ v ∈ List.range 8, (s.ramp v).next = none ∧ s.rd (R.ACT_VOUT_CODE v) = s.rd (R.ACT_VOUT_TARGET v)))) ∧
  (∃ (s : State), s.rd R.THM_STAT_STOPPING = 1 ∧ (s.thm.end_ ≤ s.ticks ∨ (s.rd R.DSP_STAT_STATE = 0 ∨ s.rd R.DSP_STAT_STATE = 6) ∧ s.dsp.disch = none ∧ (∀ v ∈ List.range 8, (s.ramp v).next = none ∧ s.rd (R.ACT_VOUT_CODE v) = s.rd (R.ACT_VOUT_TARGET v)))) ∧
  (∃ (s : State), s.rd R.THM_STAT_STOPPING ≠ 1 ∨ s.ticks < s.thm.end_ ∧ s.rd R.DSP_STAT_STATE ≠ 0 ∧ s.rd R.DSP_STAT_STATE ≠ 6) ∧
  (∃ (s : State), s.thm.cut = true) ∧
  (∃ (s : State), s.thm.cut = false) ∧
  (∃ (s : State), s.thm.cut = false) ∧
  (∃ (s : State) (c : Cmd) (l : Nat), s.Ready c ∧ c.payload = le 1 l ∧ l ≤ 3 ∧ s.rd R.THM_STAT_STOPPING = 0) ∧
  (∃ (s : State) (c : Cmd), s.Ready c) ∧
  (∃ (s : State) (c : Cmd), s.Ready c) ∧
  (∃ (l : List (BitVec 12)) (n : Nat), l.length = 8 ∧ n < 8) ∧
  (∃ (b : Nat), b ≤ 3) ∧
  (∃ (b : Nat), b ≤ 3) :=
  ⟨⟨st.wrs [(R.THM_STAT_TARGET, 2), (R.THM_STAT_GRACE, 1), (R.THM_STAT_HOT, 0xAA4)], by decide +kernel⟩,
   ⟨st.wrs [(R.THM_STAT_TARGET, 2), (R.THM_STAT_GRACE, 2)], by decide +kernel⟩,
   ⟨st.wrs [(R.THM_STAT_STREAK, 3), (R.THM_STAT_DELTA, 0x010)], 0x10, by decide +kernel⟩,
   ⟨st.wrs [(R.THM_STAT_STREAK, 4), (R.THM_STAT_DELTA, 0x010), (R.THM_STAT_ALARM, 1)], 0x10, by decide +kernel⟩,
   ⟨st.wrs [(R.THM_STAT_STREAK, 4), (R.THM_STAT_DELTA, 0xFF0)], by decide +kernel⟩,
   ⟨{ st.wrs [(R.THM_STAT_ACT, 1), (R.THM_STAT_DELTA, 0xFF0)] with thm.calm := 7 }, by decide +kernel⟩,
   ⟨{ st.wrs [(R.THM_STAT_ACT, 1), (R.THM_STAT_DELTA, 0x28)] with thm.calm := 7 }, by decide +kernel⟩,
   ⟨{ st.wrs [(R.THM_STAT_TARGET, 1), (R.THM_STAT_HOT, 0xA00)] with thm.level := 3, thm.below := 7 }, by decide +kernel⟩,
   ⟨{ st.wrs [(R.THM_STAT_TARGET, 1), (R.THM_STAT_ACT, 1)] with thm.level := 3, thm.below := 7 }, by decide +kernel⟩,
   ⟨st, by decide +kernel⟩,
   ⟨{ st with thm.level := 2 }, by decide +kernel⟩,
   ⟨{ st.wr R.THM_STAT_LEVEL 3 with thm.level := 1 }, by decide +kernel⟩,
   ⟨{ st.wr R.PWR_STAT_MODE 1 with thm.level := 2 }, by decide +kernel⟩,
   ⟨{ st.wr R.THM_STAT_STOPPING 1 with thm.end_ := 5 }, by decide +kernel⟩,
   ⟨{ st.wr R.THM_STAT_STOPPING 1 with thm.end_ := 500 }, by decide +kernel⟩,
   ⟨{ st.wrs [(R.THM_STAT_STOPPING, 1), (R.DSP_STAT_STATE, 4)] with thm.end_ := 500 }, by decide +kernel⟩,
   ⟨{ st with thm.cut := true }, by decide +kernel⟩,
   ⟨{ st.wrs [(R.THM_STAT_LEVEL, 2), (R.THM_STAT_HOT, 0xB90)] with thm.staged := some ⟨false, 1, 2, 3⟩ }, by decide +kernel⟩,
   ⟨{ st.wrs [(R.THM_STAT_LEVEL, 2), (R.THM_STAT_HOT, 0xB90), (R.THM_LAST_PEND, 1), (R.THM_STAT_STOPPING, 1)] with thm.mine := true }, by decide +kernel⟩,
   ⟨st, ⟨1, 5, [2]⟩, 2, ready _ _ (by decide +kernel), by decide +kernel, by decide +kernel, by decide +kernel⟩,
   ⟨st, ⟨1, 5, [4]⟩, ready _ _ (by decide +kernel)⟩,
   ⟨st.wr R.THM_STAT_STOPPING 1, ⟨1, 5, [3]⟩, ready _ _ (by decide +kernel)⟩,
   ⟨[0x640, 0xDF, 0xD61, 0xD60, 0xE0, 0, 0x700, 0xFFF], 3, by decide +kernel⟩,
   ⟨0, by decide +kernel⟩,
   ⟨3, by decide +kernel⟩⟩

/-- The premises of Handshakes hold together. -/
theorem meets_Handshakes :
  (∃ (s : State) (c : Cmd) (mode slot : Nat) (cn : Bytes), s.Ready c ∧ c.payload = le 1 mode ++ le 1 slot ++ cn ∧ cn.length = 16 ∧ (s.rd R.SEC_STAT_LIFECYCLE = 1 ∨ s.rd R.SEC_STAT_LIFECYCLE = 2) ∧ (mode = 0 ∧ c.ch.val < 24 ∧ 2 ≤ slot ∧ slot ≤ 5 ∧ (s.keySlot slot).kind = 1 ∧ bit (s.keySlot slot).use (if c.ch.val < 16 then 0 else if c.ch.val < 20 then 1 else 2) = true ∨ mode = 1 ∧ c.ch.val < 16 ∧ 8 ≤ slot ∧ slot ≤ 15 ∧ (s.keySlot slot).kind = 3) ∧ s.locked c.ch = false ∧ s.rd R.PWR_STAT_PFSEQ ≠ 1 ∧ s.sec.drbg = true ∧ s.rd R.SEC_STAT_ENT_FAIL ≠ 1) ∧
  (∃ (s : State) (c : Cmd) (mode slot : Nat) (cn : Bytes), s.Ready c ∧ c.payload = le 1 mode ++ le 1 slot ++ cn ∧ cn.length = 16 ∧ (s.rd R.SEC_STAT_LIFECYCLE = 1 ∨ s.rd R.SEC_STAT_LIFECYCLE = 2) ∧ (mode = 0 ∧ c.ch.val < 24 ∧ 2 ≤ slot ∧ slot ≤ 5 ∧ (s.keySlot slot).kind = 1 ∧ bit (s.keySlot slot).use (if c.ch.val < 16 then 0 else if c.ch.val < 20 then 1 else 2) = true ∨ mode = 1 ∧ c.ch.val < 16 ∧ 8 ≤ slot ∧ slot ≤ 15 ∧ (s.keySlot slot).kind = 3) ∧ s.locked c.ch = false ∧ s.rd R.PWR_STAT_PFSEQ ≠ 1 ∧ s.sec.drbg = true ∧ s.rd R.SEC_STAT_ENT_FAIL ≠ 1) ∧
  (∃ (s : State) (c : Cmd), s.Ready c) ∧
  (∃ (s : State) (c : Cmd), s.Ready c) ∧
  (∃ (s : State) (c : Cmd) (h : Hello), s.Ready c ∧ (s.chan c.ch).uses = [] ∧ (s.chan c.ch).hello = some h ∧ (s.ticks ≤ h.until_ ∨ h.inTime = true) ∧ c.payload.length = (if h.mode = 0 then 128 else 16) ∧ s.rd R.PWR_STAT_PFSEQ ≠ 1 ∧ (s.chan c.ch).fails < 4) ∧
  (∃ (s : State) (c : Cmd) (h : Hello), s.Ready c ∧ (s.chan c.ch).uses = [] ∧ (s.chan c.ch).hello = some h ∧ (s.ticks ≤ h.until_ ∨ h.inTime = true) ∧ c.payload.length = (if h.mode = 0 then 128 else 16) ∧ s.rd R.PWR_STAT_PFSEQ ≠ 1 ∧ (s.chan c.ch).fails < 4) ∧
  (∃ (s : State) (c : Cmd) (h : Hello), s.Ready c ∧ (s.chan c.ch).uses = [] ∧ (s.chan c.ch).hello = some h ∧ (s.ticks ≤ h.until_ ∨ h.inTime = true) ∧ c.payload.length = (if h.mode = 0 then 128 else 16) ∧ s.rd R.PWR_STAT_PFSEQ ≠ 1 ∧ (s.chan c.ch).fails = 4 ∧ (s.keySlot h.slot).kind ≠ (if h.mode = 0 then 1 else 3) ∧ (∀ n ∈ List.range 32, wants n 0x68 (s.chan n) = false)) ∧
  (∃ (s : State) (c : Cmd), s.Ready c) ∧
  (∃ (s : State) (c : Cmd), s.Ready c) ∧
  (∃ (s : State) (n : Fin 32) (h : Hello), (s.chan n).hello = some h) ∧
  (∃ (s : State) (n : Fin 32) (h : Hello), (s.chan n).hello = some h) ∧
  (∃ (s : State) (n : Fin 32) (e : Nat), (s.chan n).lockEnd = some e) ∧
  (∃ (s : State) (n : Fin 32) (e : Nat), (s.chan n).lockEnd = some e) ∧
  (∃ (s : State) (c : Cmd) (slot : Nat), s.Ready c ∧ c.payload = [0] ++ le 1 slot ∧ 8 ≤ slot ∧ slot ≤ 15 ∧ 24 ≤ c.ch.val ∧ c.ch.val ≤ 30 ∧ s.rd R.PWR_STAT_PFSEQ ≠ 1 ∧ (s.rd R.SEC_STAT_LIFECYCLE = 1 ∨ s.rd R.SEC_STAT_LIFECYCLE = 2) ∧ (s.keySlot slot).kind = 0 ∧ s.sec.pairWin = none) ∧
  (∃ (s : State) (c : Cmd), s.Ready c) ∧
  (∃ (s : State) (c : Cmd), s.Ready c) ∧
  (∃ (s : State) (c : Cmd) (ep en : Bytes), s.Ready c ∧ c.payload = [1] ++ ep ++ en ∧ ep.length = 64 ∧ en.length = 16 ∧ c.ch.val < 16 ∧ s.sec.pairWin ≠ none ∧ s.sec.pairUsed = false ∧ s.rd R.PWR_STAT_PFSEQ ≠ 1 ∧ s.sec.drbg = true ∧ s.rd R.SEC_STAT_ENT_FAIL ≠ 1) ∧
  (∃ (s : State) (c : Cmd), s.Ready c) ∧
  (∃ (s : State) (c : Cmd), s.Ready c) ∧
  (∃ (s : State) (c : Cmd), s.Ready c ∧ c.payload.length = 81 ∧ c.ch.val < 16 ∧ s.sec.pairWin ≠ none ∧ s.sec.pairUsed = true ∧ s.rd R.PWR_STAT_PFSEQ ≠ 1) ∧
  (∃ (s : State) (c : Cmd) (x : PairStart) (slot e : Nat), s.Ready c ∧ c.payload = [2, 1] ∧ 24 ≤ c.ch.val ∧ c.ch.val ≤ 30 ∧ s.sec.pair = some x ∧ s.sec.pairWin = some (slot, e) ∧ s.rd R.PWR_STAT_PFSEQ ≠ 1 ∧ s.sec.ops = [] ∧ s.sec.burn = none ∧ s.gatesClosed = false) ∧
  (∃ (s : State) (c : Cmd) (x : PairStart), s.Ready c ∧ c.payload = [2, 0] ∧ 24 ≤ c.ch.val ∧ c.ch.val ≤ 30 ∧ s.sec.pair = some x ∧ s.sec.pairWin ≠ none ∧ s.rd R.PWR_STAT_PFSEQ ≠ 1) ∧
  (∃ (s : State) (c : Cmd), s.Ready c) ∧
  (∃ (s : State) (c : Cmd), s.Ready c) ∧
  (∃ (s : State) (slot e : Nat), s.sec.pairWin = some (slot, e) ∧ e ≤ s.stage ∧ s.sec.pair = none) ∧
  (∃ (s : State), (∀ w ∈ s.sec.pairWin, s.stage < w.2)) ∧
  (∃ (s : State) (c : Cmd) (slot : Nat) (aad d : Bytes), s.Ready c ∧ c.payload = [0] ++ le 1 slot ++ le 2 aad.length ++ aad ++ d ∧ aad.length + d.length ≤ 1024 ∧ 16 ≤ slot ∧ slot ≤ 31 ∧ (s.keySlot slot).kind = 4 ∧ s.rd R.PWR_STAT_PFSEQ ≠ 1 ∧ (s.rd R.SEC_STAT_LIFECYCLE = 1 ∨ s.rd R.SEC_STAT_LIFECYCLE = 2) ∧ s.sec.drbg = true ∧ s.rd R.SEC_STAT_ENT_FAIL ≠ 1) ∧
  (∃ (s : State) (c : Cmd) (slot : Nat) (aad d : Bytes), s.Ready c ∧ c.payload = [0] ++ le 1 slot ++ le 2 aad.length ++ aad ++ d ∧ aad.length + d.length ≤ 1024 ∧ 16 ≤ slot ∧ slot ≤ 31 ∧ (s.keySlot slot).kind = 4 ∧ s.rd R.PWR_STAT_PFSEQ ≠ 1 ∧ (s.rd R.SEC_STAT_LIFECYCLE = 1 ∨ s.rd R.SEC_STAT_LIFECYCLE = 2) ∧ (s.sec.drbg = false ∨ s.rd R.SEC_STAT_ENT_FAIL = 1)) ∧
  (∃ (s : State) (c : Cmd) (slot : Nat) (aad n d : Bytes), s.Ready c ∧ c.payload = [1] ++ le 1 slot ++ le 2 aad.length ++ aad ++ n ++ d ∧ n.length = 12 ∧ 16 ≤ d.length ∧ aad.length + d.length ≤ 1040 ∧ 16 ≤ slot ∧ slot ≤ 31 ∧ (s.keySlot slot).kind = 4 ∧ s.rd R.PWR_STAT_PFSEQ ≠ 1 ∧ (s.rd R.SEC_STAT_LIFECYCLE = 1 ∨ s.rd R.SEC_STAT_LIFECYCLE = 2)) ∧
  (∃ (s : State) (c : Cmd), s.Ready c ∧ c.payload ≠ []) ∧
  (∃ (s : State) (c : Cmd), s.Ready c ∧ c.payload ≠ []) ∧
  (∃ (s : State) (c : Cmd) (n : Nat), s.Ready c ∧ c.payload = le 1 n ∧ 1 ≤ n ∧ n ≤ 64 ∧ s.sec.drbg = true ∧ s.rd R.SEC_STAT_ENT_FAIL ≠ 1) ∧
  (∃ (s : State) (c : Cmd), s.Ready c) ∧
  (∃ (s : State) (c : Cmd), s.Ready c) ∧
  (∃ (s : State), s.rd R.SEC_STAT_ENT_FAIL ≠ 1) ∧
  (∃ (s : State), s.rd R.SEC_STAT_ENT_FAIL ≠ 1) ∧
  (∃ (s : State), s.rd R.SEC_STAT_ENT_FAIL = 1) :=
  ⟨⟨{ st.wrs [(R.SEC_STAT_LIFECYCLE, 2)] with sec.drbg := true, sec.slots := [(3, ⟨1, 2, 5, List.replicate 64 9⟩)] }, ⟨17, 5, [0, 3] ++ List.replicate 16 7⟩, 0, 3, List.replicate 16 7, ready _ _ (by decide +kernel), by decide +kernel, by decide +kernel, by decide +kernel, by decide +kernel, by decide +kernel, by decide +kernel, by decide +kernel, by decide +kernel⟩,
   ⟨{ st.wrs [(R.SEC_STAT_LIFECYCLE, 1)] with sec.drbg := true, sec.slots := [(9, ⟨3, 0, 5, List.replicate 16 9⟩)] }, ⟨2, 5, [1, 9] ++ List.replicate 16 7⟩, 1, 9, List.replicate 16 7, ready _ _ (by decide +kernel), by decide +kernel, by decide +kernel, by decide +kernel, by decide +kernel, by decide +kernel, by decide +kernel, by decide +kernel, by decide +kernel⟩,
   ⟨st, ⟨1, 5, [0, 3]⟩, ready _ _ (by decide +kernel)⟩,
   ⟨st.wr R.SEC_STAT_LIFECYCLE 2, ⟨1, 5, [0, 3] ++ List.replicate 16 7⟩, ready _ _ (by decide +kernel)⟩,
   ⟨{ st with spoke.chans := [(2, { hello := some ⟨1, 9, [], [], [], [], [], 40, false⟩, fails := 3 })], sec.slots := [(9, ⟨3, 0, 5, List.replicate 16 9⟩)] }, ⟨2, 5, List.replicate 16 7⟩, ⟨1, 9, [], [], [], [], [], 40, false⟩, ready _ _ (by decide +kernel), by decide +kernel, by decide +kernel, by decide +kernel, by decide +kernel, by decide +kernel, by decide +kernel⟩,
   ⟨{ st with spoke.chans := [(17, { hello := some ⟨0, 3, [], [], [], [], [], 0, true⟩ })], sec.slots := [(3, ⟨1, 2, 5, List.replicate 64 9⟩)] }, ⟨17, 5, List.replicate 128 7⟩, ⟨0, 3, [], [], [], [], [], 0, true⟩, ready _ _ (by decide +kernel), by decide +kernel, by decide +kernel, by decide +kernel, by decide +kernel, by decide +kernel, by decide +kernel⟩,
   ⟨{ st with spoke.chans := [(2, { hello := some ⟨1, 9, [], [], [], [], [], 40, false⟩, fails := 4 })] }, ⟨2, 5, List.replicate 16 7⟩, ⟨1, 9, [], [], [], [], [], 40, false⟩, ready _ _ (by decide +kernel), by decide +kernel, by decide +kernel, by decide +kernel, by decide +kernel, by decide +kernel, by decide +kernel, by decide +kernel, by decide +kernel⟩,
   ⟨st, ⟨1, 5, List.replicate 16 7⟩, ready _ _ (by decide +kernel)⟩,
   ⟨{ st with spoke.chans := [(2, { hello := some ⟨1, 9, [], [], [], [], [], 30, false⟩ })] }, ⟨2, 5, List.replicate 16 7⟩, ready _ _ (by decide +kernel)⟩,
   ⟨{ st with spoke.chans := [(2, { hello := some ⟨1, 9, [], [], [], [], [], 30, false⟩, fails := 3 })] }, 2, ⟨1, 9, [], [], [], [], [], 30, false⟩, by decide +kernel⟩,
   ⟨{ st with spoke.chans := [(2, { hello := some ⟨1, 9, [], [], [], [], [], 31, false⟩, fails := 3 })] }, 2, ⟨1, 9, [], [], [], [], [], 31, false⟩, by decide +kernel⟩,
   ⟨{ st with spoke.chans := [(2, { lockEnd := some 31 })] }, 2, 31, by decide +kernel⟩,
   ⟨{ st with spoke.chans := [(2, { lockEnd := some 32 })] }, 2, 32, by decide +kernel⟩,
   ⟨st.wr R.SEC_STAT_LIFECYCLE 1, ⟨24, 5, [0, 9]⟩, 9, ready _ _ (by decide +kernel), by decide +kernel, by decide +kernel, by decide +kernel, by decide +kernel, by decide +kernel, by decide +kernel, by decide +kernel, by decide +kernel, by decide +kernel⟩,
   ⟨st, ⟨24, 5, [0, 9]⟩, ready _ _ (by decide +kernel)⟩,
   ⟨st.wr R.SEC_STAT_LIFECYCLE 1, ⟨24, 5, [0, 16]⟩, ready _ _ (by decide +kernel)⟩,
   ⟨{ st with sec.drbg := true, sec.pairWin := some (9, 30), spoke.chans := [(24, { isOpen := true, mask := 2 ^ 104 })] }, ⟨2, 5, [1] ++ List.replicate 80 7⟩, List.replicate 64 7, List.replicate 16 7, ready _ _ (by decide +kernel), by decide +kernel, by decide +kernel, by decide +kernel, by decide +kernel, by decide +kernel, by decide +kernel, by decide +kernel, by decide +kernel, by decide +kernel⟩,
   ⟨st, ⟨2, 5, [1] ++ List.replicate 80 7⟩, ready _ _ (by decide +kernel)⟩,
   ⟨{ st with sec.pairWin := some (9, 30) }, ⟨2, 5, [1] ++ List.replicate 80 7⟩, ready _ _ (by decide +kernel)⟩,
   ⟨{ st with sec.pairWin := some (9, 30), sec.pairUsed := true, sec.pair := some ⟨⟨3, 5, 0x6A, 0⟩, [], [], [], [], []⟩ }, ⟨2, 5, [1] ++ List.replicate 80 7⟩, ready _ _ (by decide +kernel), by decide +kernel, by decide +kernel, by decide +kernel, by decide +kernel, by decide +kernel⟩,
   ⟨{ st with sec.pairWin := some (9, 30), sec.pairUsed := true, sec.pair := some ⟨⟨3, 5, 0x6A, 0⟩, [], [], [], [], []⟩ }, ⟨24, 5, [2, 1]⟩, ⟨⟨3, 5, 0x6A, 0⟩, [], [], [], [], []⟩, 9, 30, ready _ _ (by decide +kernel), by decide +kernel, by decide +kernel, by decide +kernel, by decide +kernel, by decide +kernel, by decide +kernel, by decide +kernel, by decide +kernel, by decide +kernel⟩,
   ⟨{ st with sec.pairWin := some (9, 30), sec.pairUsed := true, sec.pair := some ⟨⟨3, 5, 0x6A, 0⟩, [], [], [], [], []⟩ }, ⟨24, 5, [2, 0]⟩, ⟨⟨3, 5, 0x6A, 0⟩, [], [], [], [], []⟩, ready _ _ (by decide +kernel), by decide +kernel, by decide +kernel, by decide +kernel, by decide +kernel, by decide +kernel, by decide +kernel⟩,
   ⟨st, ⟨24, 5, [2, 2]⟩, ready _ _ (by decide +kernel)⟩,
   ⟨st, ⟨24, 5, [2, 1]⟩, ready _ _ (by decide +kernel)⟩,
   ⟨{ st.wr R.SEC_STAT_PAIR_WIN 1 with sec.pairWin := some (9, 0), sec.pairUsed := true }, 9, 0, by decide +kernel⟩,
   ⟨{ st with sec.pairWin := some (9, 1) }, by decide +kernel⟩,
   ⟨{ st.wr R.SEC_STAT_LIFECYCLE 2 with sec.drbg := true, sec.slots := [(20, ⟨4, 0, 5, List.replicate 32 9⟩)] }, ⟨2, 5, [0, 20, 2, 0, 1, 2, 3]⟩, 20, [1, 2], [3], ready _ _ (by decide +kernel), by decide +kernel, by decide +kernel, by decide +kernel, by decide +kernel, by decide +kernel, by decide +kernel, by decide +kernel, by decide +kernel, by decide +kernel⟩,
   ⟨{ st.wr R.SEC_STAT_LIFECYCLE 2 with sec.slots := [(20, ⟨4, 0, 5, List.replicate 32 9⟩)] }, ⟨2, 5, [0, 20, 2, 0, 1, 2, 3]⟩, 20, [1, 2], [3], ready _ _ (by decide +kernel), by decide +kernel, by decide +kernel, by decide +kernel, by decide +kernel, by decide +kernel, by decide +kernel, by decide +kernel, by decide +kernel⟩,
   ⟨{ st.wr R.SEC_STAT_LIFECYCLE 2 with sec.slots := [(20, ⟨4, 0, 5, List.replicate 32 9⟩)] }, ⟨2, 5, [1, 20, 2, 0, 1, 2] ++ List.replicate 29 3⟩, 20, [1, 2], List.replicate 12 3, List.replicate 17 3, ready _ _ (by decide +kernel), by decide +kernel, by decide +kernel, by decide +kernel, by decide +kernel, by decide +kernel, by decide +kernel, by decide +kernel, by decide +kernel, by decide +kernel⟩,
   ⟨st, ⟨2, 5, [0, 20, 2, 0, 1]⟩, ready _ _ (by decide +kernel), by decide +kernel⟩,
   ⟨st, ⟨2, 5, [0, 20, 1, 0, 1] ++ List.replicate 28 0⟩, ready _ _ (by decide +kernel), by decide +kernel⟩,
   ⟨{ st with sec.drbg := true }, ⟨2, 5, [64]⟩, 64, ready _ _ (by decide +kernel), by decide +kernel, by decide +kernel, by decide +kernel, by decide +kernel, by decide +kernel⟩,
   ⟨st, ⟨2, 5, [65]⟩, ready _ _ (by decide +kernel)⟩,
   ⟨st, ⟨2, 5, [64]⟩, ready _ _ (by decide +kernel)⟩,
   ⟨{ st with sec.drbg := true }, by decide +kernel⟩,
   ⟨{ st.wr R.SEC_STAT_CERT 1 with sec.drbg := true }, by decide +kernel⟩,
   ⟨(st.wr (R.SEC_STAT_ENT_FAIL) (1)), by decide +kernel⟩⟩

/-- The premises of KeysAndLifecycle hold together. -/
theorem meets_KeysAndLifecycle :
  (∃ (s : State) (c : Cmd) (slot use : Nat) (b : Bytes), s.Ready c ∧ c.payload = [0] ++ le 1 slot ++ le 1 use ++ b ∧ b.length = 141 ∧ slot ≤ 5 ∧ use < 256 ∧ (use = 0 ∨ 2 ≤ slot) ∧ (s.rd R.SEC_STAT_LIFECYCLE = 1 ∨ s.rd R.SEC_STAT_LIFECYCLE = 2) ∧ s.rd R.PWR_STAT_PFSEQ ≠ 1 ∧ s.gatesClosed = false ∧ s.sec.ops = [] ∧ s.sec.burn = none) ∧
  (∃ (s : State) (c : Cmd) (slot : Nat) (b : Bytes) (i : Instr) (sub : Nat) (a : SecAct), s.Ready c ∧ c.payload = le 1 sub ++ le 1 slot ++ [0, 0] ++ b ∧ b.length = 76 ∧ ((i, sub, a) = (Instr.secKeyGen c, 1, SecAct.gen slot) ∧ 16 ≤ slot ∧ slot ≤ 31 ∨ (i, sub, a) = (Instr.secKeyDelete c, 2, SecAct.key slot ⟨0, 0, s.nextGen slot, []⟩ 2) ∧ slot < 32 ∧ slot ≠ 0 ∧ slot ≠ 6 ∧ slot ≠ 7) ∧ (s.rd R.SEC_STAT_LIFECYCLE = 1 ∨ s.rd R.SEC_STAT_LIFECYCLE = 2) ∧ s.rd R.PWR_STAT_PFSEQ ≠ 1 ∧ s.gatesClosed = false ∧ s.sec.ops = [] ∧ s.sec.burn = none) ∧
  (∃ (s : State) (c : Cmd) (slot : Nat) (b : Bytes) (i : Instr) (sub : Nat) (a : SecAct), s.Ready c ∧ c.payload = le 1 sub ++ le 1 slot ++ [0, 0] ++ b ∧ b.length = 76 ∧ ((i, sub, a) = (Instr.secKeyGen c, 1, SecAct.gen slot) ∧ 16 ≤ slot ∧ slot ≤ 31 ∨ (i, sub, a) = (Instr.secKeyDelete c, 2, SecAct.key slot ⟨0, 0, s.nextGen slot, []⟩ 2) ∧ slot < 32 ∧ slot ≠ 0 ∧ slot ≠ 6 ∧ slot ≠ 7) ∧ (s.rd R.SEC_STAT_LIFECYCLE = 1 ∨ s.rd R.SEC_STAT_LIFECYCLE = 2) ∧ s.rd R.PWR_STAT_PFSEQ ≠ 1 ∧ s.gatesClosed = false ∧ s.sec.ops = [] ∧ s.sec.burn = none) ∧
  (∃ (s : State) (c : Cmd), s.Ready c ∧ c.payload ≠ []) ∧
  (∃ (s : State) (c : Cmd), s.Ready c ∧ c.payload ≠ []) ∧
  (∃ (s : State) (o : SecOp) (n : Nat) (k : Slot) (x q : Nat), s.sec.ops = [o] ∧ o.act = .key n k x ∧ o.cmdseq = some q ∧ o.phase = 1 ∧ o.asked = 1 ∧ s.sec.burn = none ∧ s.gatesClosed = false) ∧
  (∃ (s : State) (o : SecOp) (n : Nat) (k : Slot) (x : Nat) (r : Ref), s.sec.ops = [o] ∧ o.act = .key n k x ∧ o.cmdseq = none ∧ o.cmd = some r ∧ o.phase = 1 ∧ o.asked = 1 ∧ s.sec.burn = none ∧ n ≠ 6) ∧
  (∃ (s : State) (c : Cmd) (root : Bytes), s.Ready c ∧ c.payload = [1] ++ root ∧ root.length = 64 ∧ s.rd R.SEC_STAT_LIFECYCLE = 0 ∧ (c.ch.val < 16 ∨ c.ch.val = 31) ∧ s.rd R.PWR_STAT_PFSEQ ≠ 1 ∧ s.sec.drbg = true ∧ s.rd R.SEC_STAT_ENT_FAIL ≠ 1 ∧ s.gatesClosed = false ∧ s.sec.ops = [] ∧ s.sec.burn = none) ∧
  (∃ (s : State) (c : Cmd) (root : Bytes), s.Ready c ∧ c.payload = [1] ++ root ∧ root.length = 64 ∧ s.rd R.SEC_STAT_LIFECYCLE = 0 ∧ (c.ch.val < 16 ∨ c.ch.val = 31) ∧ s.rd R.PWR_STAT_PFSEQ ≠ 1 ∧ s.sec.drbg = true ∧ s.rd R.SEC_STAT_ENT_FAIL ≠ 1 ∧ s.gatesClosed = false ∧ s.sec.ops = [] ∧ s.sec.burn = none) ∧
  (∃ (s : State) (c : Cmd) (i : Instr) (target : Nat), s.Ready c ∧ c.payload.length = 80 ∧ c.payload.take 1 = le 1 target ∧ ((i, target) = (Instr.secLifecycleField c, 2) ∧ s.rd R.SEC_STAT_LIFECYCLE = 1 ∨ (i, target) = (Instr.secLifecycleReturn c, 3) ∧ (s.rd R.SEC_STAT_LIFECYCLE = 1 ∨ s.rd R.SEC_STAT_LIFECYCLE = 2)) ∧ s.rd R.PWR_STAT_PFSEQ ≠ 1 ∧ s.gatesClosed = false ∧ s.sec.ops = [] ∧ s.sec.burn = none) ∧
  (∃ (s : State) (c : Cmd) (i : Instr) (target : Nat), s.Ready c ∧ c.payload.length = 80 ∧ c.payload.take 1 = le 1 target ∧ ((i, target) = (Instr.secLifecycleField c, 2) ∧ s.rd R.SEC_STAT_LIFECYCLE = 1 ∨ (i, target) = (Instr.secLifecycleReturn c, 3) ∧ (s.rd R.SEC_STAT_LIFECYCLE = 1 ∨ s.rd R.SEC_STAT_LIFECYCLE = 2)) ∧ s.rd R.PWR_STAT_PFSEQ ≠ 1 ∧ s.gatesClosed = false ∧ s.sec.ops = [] ∧ s.sec.burn = none) ∧
  (∃ (s : State) (c : Cmd), s.Ready c ∧ c.payload ≠ []) ∧
  (∃ (s : State) (c : Cmd), s.Ready c ∧ c.payload ≠ []) ∧
  (∃ (s : State) (o : SecOp) (target q : Nat), s.sec.ops = [o] ∧ o.act = .life target ∧ o.cmdseq = some q ∧ o.phase = 1 ∧ o.asked = 1 ∧ s.sec.burn = none ∧ s.transition target = true ∧ s.gatesClosed = false) ∧
  (∃ (s : State), s.sec.burn = none ∨ s.sec.burning = false) ∧
  (∃ (s : State) (target : Nat), s.sec.burn = some (target, none) ∧ s.sec.burning = true ∧ (target = 1 ∨ target = 2) ∧ s.sec.ops.length ≤ 1) ∧
  (∃ (s : State), s.sec.burn = some (3, none) ∧ s.sec.burning = true ∧ s.sec.ops.length ≤ 1 ∧ s.gatesClosed = false) :=
  ⟨⟨st.wr R.SEC_STAT_LIFECYCLE 2, ⟨2, 5, [0, 3, 2] ++ List.replicate 141 7⟩, 3, 2, List.replicate 141 7, ready _ _ (by decide +kernel), by decide +kernel, by decide +kernel, by decide +kernel, by decide +kernel, by decide +kernel, by decide +kernel, by decide +kernel, by decide +kernel, by decide +kernel, by decide +kernel⟩,
   ⟨st.wr R.SEC_STAT_LIFECYCLE 2, ⟨2, 5, [1, 16, 0, 0] ++ List.replicate 76 7⟩, 16, List.replicate 76 7, .secKeyGen ⟨2, 5, [1, 16, 0, 0] ++ List.replicate 76 7⟩, 1, .gen 16, ready _ _ (by decide +kernel), by decide +kernel, by decide +kernel, by decide +kernel, by decide +kernel, by decide +kernel, by decide +kernel, by decide +kernel, by decide +kernel⟩,
   ⟨st.wr R.SEC_STAT_LIFECYCLE 2, ⟨2, 5, [2, 9, 0, 0] ++ List.replicate 76 7⟩, 9, List.replicate 76 7, .secKeyDelete ⟨2, 5, [2, 9, 0, 0] ++ List.replicate 76 7⟩, 2, .key 9 ⟨0, 0, 1, []⟩ 2, ready _ _ (by decide +kernel), by decide +kernel, by decide +kernel, by decide +kernel, by decide +kernel, by decide +kernel, by decide +kernel, by decide +kernel, by decide +kernel⟩,
   ⟨st, ⟨2, 5, [0, 3, 2] ++ List.replicate 141 7⟩, ready _ _ (by decide +kernel), by decide +kernel⟩,
   ⟨st, ⟨2, 5, [0, 6, 0] ++ List.replicate 141 7⟩, ready _ _ (by decide +kernel), by decide +kernel⟩,
   ⟨{ st with sec.ops := [⟨4, some ⟨2, 5, 0x6B, 0⟩, .key 3 ⟨1, 2, 1, [7]⟩ 0, some 77, 1, 1⟩] }, ⟨4, some ⟨2, 5, 0x6B, 0⟩, .key 3 ⟨1, 2, 1, [7]⟩ 0, some 77, 1, 1⟩, 3, ⟨1, 2, 1, [7]⟩, 0, 77, by decide +kernel⟩,
   ⟨{ st with sec.ops := [⟨4, some ⟨2, 5, 0x6B, 0⟩, .key 3 ⟨1, 2, 1, [7]⟩ 0, none, 1, 1⟩] }, ⟨4, some ⟨2, 5, 0x6B, 0⟩, .key 3 ⟨1, 2, 1, [7]⟩ 0, none, 1, 1⟩, 3, ⟨1, 2, 1, [7]⟩, 0, ⟨2, 5, 0x6B, 0⟩, by decide +kernel⟩,
   ⟨{ st with sec.drbg := true }, ⟨2, 5, [1] ++ List.replicate 64 7⟩, List.replicate 64 7, ready _ _ (by decide +kernel), by decide +kernel, by decide +kernel, by decide +kernel, by decide +kernel, by decide +kernel, by decide +kernel, by decide +kernel, by decide +kernel, by decide +kernel, by decide +kernel⟩,
   ⟨{ st with sec.drbg := true }, ⟨31, 5, [1] ++ List.replicate 64 7⟩, List.replicate 64 7, ready _ _ (by decide +kernel), by decide +kernel, by decide +kernel, by decide +kernel, by decide +kernel, by decide +kernel, by decide +kernel, by decide +kernel, by decide +kernel, by decide +kernel, by decide +kernel⟩,
   ⟨st.wr R.SEC_STAT_LIFECYCLE 1, ⟨2, 5, [2, 0, 0, 0] ++ List.replicate 76 7⟩, .secLifecycleField ⟨2, 5, [2, 0, 0, 0] ++ List.replicate 76 7⟩, 2, ready _ _ (by decide +kernel), by decide +kernel, by decide +kernel, by decide +kernel, by decide +kernel, by decide +kernel, by decide +kernel, by decide +kernel⟩,
   ⟨st.wr R.SEC_STAT_LIFECYCLE 2, ⟨2, 5, [3, 0, 0, 0] ++ List.replicate 76 7⟩, .secLifecycleReturn ⟨2, 5, [3, 0, 0, 0] ++ List.replicate 76 7⟩, 3, ready _ _ (by decide +kernel), by decide +kernel, by decide +kernel, by decide +kernel, by decide +kernel, by decide +kernel, by decide +kernel, by decide +kernel⟩,
   ⟨st.wr R.SEC_STAT_LIFECYCLE 3, ⟨2, 5, [1] ++ List.replicate 64 7⟩, ready _ _ (by decide +kernel), by decide +kernel⟩,
   ⟨st.wr R.SEC_STAT_LIFECYCLE 3, ⟨2, 5, [2, 0, 0, 0] ++ List.replicate 76 7⟩, ready _ _ (by decide +kernel), by decide +kernel⟩,
   ⟨{ st.wr R.SEC_STAT_LIFECYCLE 1 with sec.ops := [⟨4, some ⟨2, 5, 0x6D, 0⟩, .life 2, some 77, 1, 1⟩] }, ⟨4, some ⟨2, 5, 0x6D, 0⟩, .life 2, some 77, 1, 1⟩, 2, 77, by decide +kernel⟩,
   ⟨{ st with sec.burn := some (2, none) }, by decide +kernel⟩,
   ⟨{ st.wr R.SEC_STAT_LIFECYCLE 1 with sec.burn := some (2, none), sec.burning := true, sec.ops := [⟨4, none, .life 2, none, 0, 0⟩], pwr.hold := [⟨3, 40, .fuse, 9⟩] }, 2, by decide +kernel⟩,
   ⟨{ st.wr R.SEC_STAT_LIFECYCLE 2 with sec.burn := some (3, none), sec.burning := true, sec.ops := [⟨4, none, .life 3, none, 0, 0⟩], sec.slots := [(3, ⟨1, 2, 1, [7]⟩)], spoke.chans := [(2, { isOpen := true, mask := 5, bind := some ⟨[], 3, 1, 1⟩ })] }, by decide +kernel⟩⟩

/-- The premises of Updates hold together. -/
theorem meets_Updates :
  (∃ (s : State) (c : Cmd) (h : Bytes), s.Ready c ∧ c.payload = [0] ++ h ∧ h.length = 192 ∧ s.headerResult h = 0 ∧ s.sec.upd = none ∧ s.rd R.SEC_STAT_TRIAL ≠ 1 ∧ s.rd R.PWR_STAT_PFSEQ ≠ 1 ∧ s.sec.flashBad = false) ∧
  (∃ (s : State) (c : Cmd) (h : Bytes), s.Ready c ∧ c.payload = [0] ++ h ∧ h.length = 192 ∧ s.headerResult h ≠ 0) ∧
  (∃ (h : Bytes), headerOk h = true) ∧
  (∃ (h : Bytes), headerOk h = true) ∧
  (∃ (s : State) (c : Cmd) (u : Update) (d : Bytes), s.Ready c ∧ s.sec.upd = some u ∧ c.payload = [1] ++ le 4 (s.rd R.SEC_UPD_RECEIVED) ++ d ∧ 1 ≤ d.length ∧ d.length ≤ 4000 ∧ s.rd R.SEC_UPD_RECEIVED < 2 ^ 32 ∧ s.rd R.SEC_UPD_RECEIVED + d.length ≤ u32 u.header 8 ∧ s.rd R.SEC_UPD_CHAN = c.ch ∧ s.rd R.PWR_STAT_PFSEQ ≠ 1 ∧ s.sec.flashBad = false) ∧
  (∃ (s : State) (c : Cmd), s.Ready c ∧ 6 ≤ c.payload.length ∧ c.payload.length ≤ 4005 ∧ u32 c.payload 1 ≠ s.rd R.SEC_UPD_RECEIVED) ∧
  (∃ (s : State) (c : Cmd) (u : Update), s.Ready c ∧ s.sec.upd = some u ∧ c.payload = [2] ∧ s.rd R.SEC_UPD_CHAN = c.ch ∧ s.rd R.PWR_STAT_PFSEQ ≠ 1 ∧ s.sec.flashBad = false ∧ s.sec.runSeq + 1 < 2 ^ 32) ∧
  (∃ (s : State) (c : Cmd), s.Ready c ∧ c.payload = [3] ∧ s.rd R.SEC_STAT_TRIAL = 1 ∧ s.rd R.PWR_STAT_PFSEQ ≠ 1 ∧ s.gatesClosed = false ∧ s.sec.ops = [] ∧ s.sec.burn = none) ∧
  (∃ (s : State) (c : Cmd), s.Ready c ∧ c.payload = [4] ∧ s.sec.upd ≠ none ∧ s.rd R.SEC_UPD_CHAN = c.ch ∧ s.rd R.PWR_STAT_PFSEQ ≠ 1) ∧
  (∃ (s : State) (c : Cmd), s.Ready c ∧ c.payload ≠ []) ∧
  (∃ (s : State) (c : Cmd), s.Ready c ∧ c.payload ≠ []) ∧
  (∃ (s : State) (c : Cmd), s.Ready c ∧ c.payload.length = 193 ∧ s.headerResult (sub c.payload 1 192) = 0 ∧ (s.sec.upd ≠ none ∨ s.rd R.SEC_STAT_TRIAL = 1 ∨ s.rd R.PWR_STAT_PFSEQ = 1)) ∧
  (∃ (s : State), s.rd R.SEC_STAT_TRIAL = 1 ∧ s.rd R.SEC_UPD_TRIAL_LEFT = 0 ∧ s.gatesClosed = false ∧ s.sec.ops = [] ∧ s.sec.burn = none ∧ s.sec.skipped = none) ∧
  (∃ (s : State), s.rd R.SEC_STAT_TRIAL ≠ 1 ∨ s.rd R.SEC_UPD_TRIAL_LEFT ≠ 0) ∧
  (∃ (s : State) (o : SecOp), s.sec.ops = [o] ∧ o.act = .trial true ∧ o.cmdseq = none ∧ o.phase = 1 ∧ o.asked = 1 ∧ s.sec.burn = none ∧ s.rd R.SEC_STAT_TRIAL = 1 ∧ s.sec.skipped = none) ∧
  (∃ (s : State) (o : SecOp), s.sec.ops = [o] ∧ o.act = .trial false ∧ o.cmd = none ∧ o.cmdseq = none ∧ o.phase = 1 ∧ o.asked = 1 ∧ s.sec.burn = none ∧ s.rd R.SEC_STAT_TRIAL = 1 ∧ s.sec.skipped = none) ∧
  (∃ (s : State), s.sec.flashBad = true ∨ (∀ b ∈ List.range 2, recordIntact (s.bankRecord b) = false)) ∧
  (∃ (s : State), s.sec.flashBad = true ∨ (∀ b ∈ List.range 2, recordIntact (s.bankRecord b) = false)) :=
  ⟨⟨{ st with sec.flash := [(0, 5), (0x80000, 6), (0x80100, 7)] }.wrs [(R.SEC_BOOT_PATCH, 1)], ⟨2, 5, [0, 0x57, 0x50, 0x41, 0x54, 1, 0, 0, 0, 64, 0, 0, 0] ++ le 4 0 ++ List.replicate 176 0⟩, [0x57, 0x50, 0x41, 0x54, 1, 0, 0, 0, 64, 0, 0, 0] ++ le 4 0 ++ List.replicate 176 0, ready _ _ (by decide +kernel), by decide +kernel, by decide +kernel, by decide +kernel, by decide +kernel, by decide +kernel, by decide +kernel, by decide +kernel⟩,
   ⟨st, ⟨2, 5, [0] ++ List.replicate 192 1⟩, List.replicate 192 1, ready _ _ (by decide +kernel), by decide +kernel, by decide +kernel, by decide +kernel⟩,
   ⟨[0x57, 0x50, 0x41, 0x54, 1, 0, 0, 0, 64, 0, 0, 0, 1] ++ List.replicate 179 0, by decide +kernel⟩,
   ⟨[0x57, 0x50, 0x41, 0x54, 1, 0, 2, 0, 64, 0, 0, 0] ++ List.replicate 180 0, by decide +kernel⟩,
   ⟨{ st with sec.upd := some ⟨1, [0, 0, 0, 0, 0, 0, 0, 0, 64, 0, 0, 0]⟩ }.wrs [(R.SEC_UPD_CHAN, 2), (R.SEC_UPD_RECEIVED, 60)], ⟨2, 5, [1, 60, 0, 0, 0, 9, 8, 7, 6]⟩, ⟨1, [0, 0, 0, 0, 0, 0, 0, 0, 64, 0, 0, 0]⟩, [9, 8, 7, 6], ready _ _ (by decide +kernel), by decide +kernel, by decide +kernel, by decide +kernel, by decide +kernel, by decide +kernel, by decide +kernel, by decide +kernel, by decide +kernel, by decide +kernel⟩,
   ⟨{ st with sec.upd := some ⟨1, [0, 0, 0, 0, 0, 0, 0, 0, 64, 0, 0, 0]⟩ }.wrs [(R.SEC_UPD_CHAN, 2), (R.SEC_UPD_RECEIVED, 60)], ⟨2, 5, [1, 61, 0, 0, 0, 9, 8, 7, 6]⟩, ready _ _ (by decide +kernel), by decide +kernel, by decide +kernel, by decide +kernel⟩,
   ⟨{ st with sec.upd := some ⟨1, [0, 0, 0, 0, 0, 0, 3, 0, 64, 0, 0, 0]⟩ }.wrs [(R.SEC_UPD_CHAN, 2), (R.SEC_UPD_RECEIVED, 64)], ⟨2, 5, [2]⟩, ⟨1, [0, 0, 0, 0, 0, 0, 3, 0, 64, 0, 0, 0]⟩, ready _ _ (by decide +kernel), by decide +kernel, by decide +kernel, by decide +kernel, by decide +kernel, by decide +kernel, by decide +kernel⟩,
   ⟨{ st with sec.runSeq := 9, sec.commitSvn := true }.wrs [(R.SEC_STAT_TRIAL, 1), (R.SEC_BOOT_SVN, 5)], ⟨2, 5, [3]⟩, ready _ _ (by decide +kernel), by decide +kernel, by decide +kernel, by decide +kernel, by decide +kernel, by decide +kernel, by decide +kernel⟩,
   ⟨{ st with sec.upd := some ⟨1, []⟩ }.wrs [(R.SEC_UPD_CHAN, 2), (R.SEC_UPD_RECEIVED, 60), (R.SEC_UPD_STATE, 1)], ⟨2, 5, [4]⟩, ready _ _ (by decide +kernel), by decide +kernel, by decide +kernel, by decide +kernel, by decide +kernel⟩,
   ⟨st, ⟨2, 5, [2]⟩, ready _ _ (by decide +kernel), by decide +kernel⟩,
   ⟨{ st with sec.upd := some ⟨1, []⟩ }, ⟨2, 5, [2, 2]⟩, ready _ _ (by decide +kernel), by decide +kernel⟩,
   ⟨{ st with sec.upd := some ⟨1, []⟩ }, ⟨2, 5, [0, 0x57, 0x50, 0x41, 0x54, 1, 0, 0, 0, 64, 0, 0, 0] ++ List.replicate 180 0⟩, ready _ _ (by decide +kernel), by decide +kernel, by decide +kernel, by decide +kernel⟩,
   ⟨{ st with sec.runSeq := 9, sec.confirmed := 4 }.wr R.SEC_STAT_TRIAL 1, by decide +kernel⟩,
   ⟨st.wrs [(R.SEC_STAT_TRIAL, 1), (R.SEC_UPD_TRIAL_LEFT, 1)], by decide +kernel⟩,
   ⟨{ st with sec.runSeq := 9, sec.commitSvn := true, sec.ops := [⟨4, some ⟨2, 5, 0x6E, 0⟩, .trial true, none, 1, 1⟩] }.wrs [(R.SEC_STAT_TRIAL, 1), (R.SEC_BOOT_SVN, 5), (R.SEC_UPD_TRIAL_LEFT, 7), (R.SEC_UPD_STATE, 3)], ⟨4, some ⟨2, 5, 0x6E, 0⟩, .trial true, none, 1, 1⟩, by decide +kernel⟩,
   ⟨{ st with sec.runSeq := 9, sec.ops := [⟨4, none, .trial false, none, 1, 1⟩] }.wrs [(R.SEC_STAT_TRIAL, 1), (R.SEC_BOOT_SVN, 5), (R.SEC_UPD_STATE, 3)], ⟨4, none, .trial false, none, 1, 1⟩, by decide +kernel⟩,
   ⟨{ st with sec.flashBad := true }, by decide +kernel⟩,
   ⟨st, by decide +kernel⟩⟩

/-- The premises of FaultsAndRecovery hold together. -/
theorem meets_FaultsAndRecovery :
  (∃ (s : State), s.flt.hubDue = none) ∧
  (∃ (s : State) (c : Nat), s.flt.hubDue = some c) ∧
  (∃ (s : State), s.pwr.held = false ∧ s.flt.hubDue = none) ∧
  (∃ (s : State) (c : Nat), s.flt.hubDue = some c) ∧
  (∃ (s : State) (c : Nat), s.flt.hubDue = some c) ∧
  (∃ (s : State) (n : Fin 2), 16 ≤ (if n = 0 then s.cad.wd0 else s.cad.wd1) ∧ s.pwr.held = false ∧ s.flt.hubDue = none) ∧
  (∃ (s : State) (n : Fin 2), 16 ≤ (if n = 0 then s.cad.wd0 else s.cad.wd1) ∧ s.pwr.held = false ∧ s.flt.hubDue = none) ∧
  (∃ (s : State) (n : Fin 2), (if n = 0 then s.cad.wd0 else s.cad.wd1) < 16) ∧
  (∃ (s : State) (u : Fin 8), (∀ v ∈ s.flt.recov, v.unit = u.val → v.done = true)) ∧
  (∃ (n : Nat), n < 48) ∧
  (∃ (s : State) (v : Recovery) (u : Fin 8), s.flt.recov = [v] ∧ v.unit = u.val ∧ v.done = true ∧ v.touched = [] ∧ v.waiters = [] ∧ (u.val ≠ 6 ∨ s.dsp.rstDue = false)) ∧
  (∃ (s : State) (u : Fin 8) (r w : Ref), s.flt.recov = [⟨u, [⟨r, none⟩], [w], false, true⟩] ∧ (u.val ≠ 6 ∨ s.dsp.rstDue = false) ∧ r.ch < 32 ∧ w.ch = r.ch ∧ (s.chan r.ch).epoch = r.epoch ∧ (s.chan r.ch).epoch = w.epoch ∧ outCount (s.chan r.ch) .final ≤ 14 ∧ (s.chan r.ch).waits = [] ∧ (s.chan r.ch).bind = none ∧ wants r.ch 0x79 (s.chan r.ch) = false) ∧
  (∃ (s : State) (u : Fin 8), (∀ v ∈ s.flt.recov, v.unit = u.val → v.done = false ∨ u = 6 ∧ s.dsp.rstDue = true)) ∧
  (∃ (s : State) (u : Fin 8), (∀ v ∈ s.flt.recov, v.unit = u.val → v.done = false ∨ u = 6 ∧ s.dsp.rstDue = true)) ∧
  (∃ (s : State), 300 ≤ s.flt.calm) ∧
  (∃ (s : State), s.flt.calm < 300) ∧
  (∃ (s : State), s.rd R.FLT_STAT_LEVEL = 1 ∧ 0 < s.rd R.FLT_CFG_LIMP_HOLD ∧ s.rd R.FLT_CFG_LIMP_HOLD ≤ s.flt.limpFor) ∧
  (∃ (s : State), s.rd R.FLT_STAT_LEVEL ≠ 1 ∨ s.rd R.FLT_CFG_LIMP_HOLD = 0 ∨ s.flt.limpFor < s.rd R.FLT_CFG_LIMP_HOLD) ∧
  (∃ (s : State), s.rd R.FLT_STAT_LEVEL ≠ 1 ∨ s.rd R.FLT_CFG_LIMP_HOLD = 0 ∨ s.flt.limpFor < s.rd R.FLT_CFG_LIMP_HOLD) ∧
  (∃ (s : State) (v : BitVec 8), bit v.toNat 1 = true ∧ bit v.toNat 2 = false ∧ s.rd R.FLT_STAT_LEVEL ≠ 1 ∧ s.rd R.PWR_STAT_PFSEQ ≠ 1 ∧ s.dbg.halted = 0) ∧
  (∃ (s : State) (v : BitVec 8), bit v.toNat 1 = false ∨ bit v.toNat 2 = true ∨ s.rd R.FLT_STAT_LEVEL = 1 ∨ s.rd R.PWR_STAT_PFSEQ = 1 ∨ s.dbg.halted ≠ 0) ∧
  (∃ (s : State) (v : BitVec 8), bit v.toNat 1 = false ∨ bit v.toNat 2 = true ∨ s.rd R.FLT_STAT_LEVEL = 1 ∨ s.rd R.PWR_STAT_PFSEQ = 1 ∨ s.dbg.halted ≠ 0) ∧
  (∃ (s : State) (v : BitVec 8), bit v.toNat 2 = true ∧ bit v.toNat 1 = false ∧ s.rd R.FLT_STAT_LEVEL = 1 ∧ s.rd R.PWR_STAT_PFSEQ ≠ 1 ∧ s.dbg.halted = 0) ∧
  (∃ (s : State) (v : BitVec 8), bit v.toNat 2 = false ∨ bit v.toNat 1 = true ∨ s.rd R.FLT_STAT_LEVEL ≠ 1 ∨ s.rd R.PWR_STAT_PFSEQ = 1 ∨ s.dbg.halted ≠ 0) ∧
  (∃ (s : State) (v : BitVec 8), bit v.toNat 2 = false ∨ bit v.toNat 1 = true ∨ s.rd R.FLT_STAT_LEVEL ≠ 1 ∨ s.rd R.PWR_STAT_PFSEQ = 1 ∨ s.dbg.halted ≠ 0) ∧
  (∃ (s : State) (i : FaultItem), s.flt.queue = [i] ∧ s.flt.inHand = [] ∧ s.flt.recov = [] ∧ (i.attrib = 0 ∨ i.record.cls ≠ clDegrade)) ∧
  (∃ (s : State) (i : FaultItem), s.flt.queue = [i] ∧ s.flt.inHand = [] ∧ s.flt.recov = [] ∧ (i.attrib = 0 ∨ i.record.cls ≠ clDegrade)) ∧
  (∃ (s : State) (i : FaultItem), s.flt.queue = [i] ∧ s.flt.inHand = [] ∧ s.flt.recov = [] ∧ i.record.cls = clDegrade ∧ (i.attrib = 1 ∨ i.attrib = 2 ∨ i.attrib = 5 ∨ i.attrib = 6) ∧ bit (s.rd R.FLT_CFG_AUTO) (i.attrib - 1) = true ∧ 0 < s.rd R.FLT_CFG_DEG_MAX ∧ s.rd R.FLT_CFG_DEG_MAX < 16 ∧ s.rd R.FLT_CFG_DEG_MAX ≤ (s.attributed i.attrib).length + 1 ∧ (s.autoResets i.attrib).length < 3) :=
  ⟨⟨{ st with flt.hubDue := none }, by decide +kernel⟩,
   ⟨{ st with flt.hubDue := some 5 }, 5, by decide +kernel⟩,
   ⟨{ st with flt.queue := [⟨⟨0, 1, 2, 3, 4, 5, 6⟩, 0⟩] }, by decide +kernel⟩,
   ⟨{ st with flt.hubDue := some 5, flt.hubEdges := 2 }, 5, by decide +kernel⟩,
   ⟨{ st with flt.hubDue := some 5, flt.hubEdges := 1 }, 5, by decide +kernel⟩,
   ⟨{ st with cad.wd0 := 16 }, 0, by decide +kernel⟩,
   ⟨{ st with cad.wd1 := 17 }, 1, by decide +kernel⟩,
   ⟨{ st with cad.wd0 := 15, cad.wd1 := 30 }, 0, by decide +kernel⟩,
   ⟨{ st with flt.recov := [⟨5, [], [], true, true⟩] }, 5, by decide +kernel⟩,
   ⟨7, by decide +kernel⟩,
   ⟨{ st with flt.recov := [⟨5, [], [], true, true⟩], spoke.chans := [(2, { isOpen := true, mask := 2 ^ 121 })] }, ⟨5, [], [], true, true⟩, 5, by decide +kernel⟩,
   ⟨{ st with flt.recov := [⟨5, [⟨⟨2, 20, 0x5C, 0⟩, none⟩], [⟨2, 22, 0x39, 0⟩], false, true⟩], spoke.chans := [(2, { uses := [⟨20, 0x5C, [1, 0], true, false⟩, ⟨22, 0x39, [5], true, false⟩] })] }, 5, ⟨2, 20, 0x5C, 0⟩, ⟨2, 22, 0x39, 0⟩, by decide +kernel⟩,
   ⟨{ st with flt.recov := [⟨5, [], [], true, false⟩] }, 5, by decide +kernel⟩,
   ⟨{ st with flt.recov := [⟨6, [], [], true, true⟩], dsp.rstDue := true }, 6, by decide +kernel⟩,
   ⟨{ st.wr R.FLT_LAST_STREAK 2 with flt.calm := 300 }, by decide +kernel⟩,
   ⟨{ st.wr R.FLT_LAST_STREAK 2 with flt.calm := 299 }, by decide +kernel⟩,
   ⟨{ st.wr R.FLT_STAT_LEVEL 1 with flt.limpFor := 3600 }, by decide +kernel⟩,
   ⟨{ st.wr R.FLT_STAT_LEVEL 1 with flt.limpFor := 3599 }, by decide +kernel⟩,
   ⟨{ st.wr R.FLT_CFG_LIMP_HOLD 0 with flt.limpFor := 9000 }, by decide +kernel⟩,
   ⟨st, 2, by decide +kernel⟩,
   ⟨st.wr R.FLT_STAT_LEVEL 1, 2, by decide +kernel⟩,
   ⟨st, 6, by decide +kernel⟩,
   ⟨st.wr R.FLT_STAT_LEVEL 1, 4, by decide +kernel⟩,
   ⟨st, 4, by decide +kernel⟩,
   ⟨st.wr R.FLT_STAT_LEVEL 1, 6, by decide +kernel⟩,
   ⟨{ st with flt.queue := [⟨⟨3, 0x30, 2, 3, 4, 5, 6⟩, 0⟩] }, ⟨⟨3, 0x30, 2, 3, 4, 5, 6⟩, 0⟩, by decide +kernel⟩,
   ⟨{ st with flt.queue := [⟨⟨1, 0x30, 2, 3, 4, 5, 6⟩, 0⟩] }, ⟨⟨1, 0x30, 2, 3, 4, 5, 6⟩, 0⟩, by decide +kernel⟩,
   ⟨{ st with flt.queue := [⟨⟨1, 0x30, 2, 3, 4, 5, 6⟩, 1⟩], flt.attrib := [(1, [0, 0, 0])] }, ⟨⟨1, 0x30, 2, 3, 4, 5, 6⟩, 1⟩, by decide +kernel⟩⟩

/-- The premises of DebugPort hold together. -/
theorem meets_DebugPort :
  (∃ (s : State) (i : Instr), i ∈ [Instr.extest 5, .samplePreload 5, .idcode, .highz, .clamp, .bypass, .dbgStatus, .dbgChal 1, .dbgResp 9, .halt 1 false, .resume 1, .dbgReset, .relock, .flush, .dbgMemRead 4 true, .dbgMemWrite 4 5 true, .dbgSpokePush 7, .dbgSpokePop] ∧ s.tapOn = false) ∧
  (∃ (s : State) (i : Instr), i ∈ [Instr.extest 5, .samplePreload 5, .idcode, .highz, .clamp, .bypass, .dbgStatus, .dbgChal 1, .dbgResp 9, .halt 1 false, .resume 1, .dbgReset, .relock, .flush, .dbgMemRead 4 true, .dbgMemWrite 4 5 true, .dbgSpokePush 7, .dbgSpokePop] ∧ s.tapOn = false) ∧
  (∃ (s : State), s.tapOn = true) ∧
  (∃ (s : State), s.tapOn = true) ∧
  (∃ (s : State) (i : Instr) (n : Nat), s.tapOn = true ∧ ((i, n) = (Instr.highz, 3) ∨ (i, n) = (Instr.clamp, 4)) ∧ s.pwr.held = false) ∧
  (∃ (s : State) (i : Instr) (n : Nat), s.tapOn = true ∧ ((i, n) = (Instr.highz, 3) ∨ (i, n) = (Instr.clamp, 4)) ∧ s.pwr.held = false) ∧
  (∃ (s : State), s.tapOn = true ∧ s.pwr.held = false) ∧
  (∃ (b : Nat), b < 16) ∧
  (∃ (s : State), s.tapOn = true) ∧
  (∃ (s : State), s.tapOn = true ∧ s.rd R.SEC_STAT_LIFECYCLE < 4 ∧ s.rd R.SEC_STAT_DBG_SCOPE < 8 ∧ s.dbg.halted < 4 ∧ s.dbg.haltPend < 4 ∧ s.sec.tries < 4 ∧ s.sec.result < 4) ∧
  (∃ (s : State), s.tapOn = true ∧ s.sec.tries < 3 ∧ s.sec.drbg = true ∧ s.rd R.SEC_STAT_ENT_FAIL ≠ 1) ∧
  (∃ (s : State), s.tapOn = true ∧ (3 ≤ s.sec.tries ∨ s.sec.drbg = false)) ∧
  (∃ (s : State), s.tapOn = true) ∧
  (∃ (s : State), s.sec.resp = none) ∧
  (∃ (s : State) (p : Bytes) (c : Challenge), s.sec.resp = some p ∧ s.sec.chal = some c) ∧
  (∃ (s : State) (p : Bytes) (c : Challenge), s.sec.resp = some p ∧ s.sec.chal = some c) ∧
  (∃ (s : State) (p : Bytes), s.sec.resp = some p ∧ s.sec.chal = none) ∧
  (∃ (s : State) (i : Instr) (n : Nat), s.tapOn = true ∧ s.rd R.SEC_STAT_LIFECYCLE = 2 ∧ bit (s.rd R.SEC_STAT_DBG_SCOPE) 0 = false ∧ (i, n) ∈ [(Instr.halt 0 false, 0x13), (.halt 1 false, 0x13), (.halt 1 true, 0x13), (.resume 0, 0x13), (.resume 1, 0x13), (.dbgReset, 0x13), (.relock, 0x13), (.flush, 0x13), (.dbgMemRead 4 true, 0x14), (.dbgMemWrite 4 5 true, 0x14)]) ∧
  (∃ (s : State) (i : Instr) (n : Nat), s.tapOn = true ∧ s.rd R.SEC_STAT_LIFECYCLE = 2 ∧ bit (s.rd R.SEC_STAT_DBG_SCOPE) 0 = false ∧ (i, n) ∈ [(Instr.halt 0 false, 0x13), (.halt 1 false, 0x13), (.halt 1 true, 0x13), (.resume 0, 0x13), (.resume 1, 0x13), (.dbgReset, 0x13), (.relock, 0x13), (.flush, 0x13), (.dbgMemRead 4 true, 0x14), (.dbgMemWrite 4 5 true, 0x14)]) ∧
  (∃ (s : State) (i : Instr), s.tapOn = true ∧ s.rd R.SEC_STAT_LIFECYCLE = 2 ∧ bit (s.rd R.SEC_STAT_DBG_SCOPE) 1 = false ∧ i ∈ [Instr.dbgSpokePush 7, .dbgSpokePop]) ∧
  (∃ (s : State), s.tapOn = true ∧ s.scope 0 = true) ∧
  (∃ (s : State), s.tapOn = true ∧ s.scope 0 = true) ∧
  (∃ (s : State) (k : Fin 2), s.pwr.held = true ∨ bit s.dbg.haltPend k = false) ∧
  (∃ (s : State) (k : Fin 2), s.pwr.held = true ∨ bit s.dbg.haltPend k = false) ∧
  (∃ (s : State) (k : Fin 2), s.pwr.held = false ∧ bit s.dbg.haltPend k = true ∧ s.dbg.halted = 0) ∧
  (∃ (s : State) (k : Fin 2), s.pwr.held = false ∧ bit s.dbg.haltPend k = true ∧ s.dbg.halted ≠ 0) ∧
  (∃ (s : State), s.tapOn = true ∧ s.scope 0 = true) ∧
  (∃ (s : State), s.tapOn = true ∧ s.scope 0 = true) ∧
  (∃ (s : State) (k : Fin 2), bit s.dbg.resume k = false) ∧
  (∃ (s : State) (k : Fin 2), bit s.dbg.resume k = true ∧ s.dbg.halted = 2 ^ k.val) ∧
  (∃ (s : State) (k : Fin 2), bit s.dbg.resume k = true ∧ setBit s.dbg.halted k false ≠ 0) ∧
  (∃ (s : State), s.tapOn = true ∧ s.scope 0 = true) ∧
  (∃ (s : State), s.tapOn = true ∧ s.scope 0 = true) ∧
  (∃ (s : State), s.dbg.relock = true) ∧
  (∃ (s : State), s.tapOn = true ∧ s.scope 0 = true) ∧
  (∃ (s : State) (a : BitVec 32), s.tapOn = true ∧ s.scope 0 = true ∧ s.pwr.held = false ∧ a.toNat % 4 = 0 ∧ a.toNat < 0xC0000) ∧
  (∃ (s : State) (a : BitVec 32), s.tapOn = true ∧ s.scope 0 = true ∧ s.pwr.held = false ∧ (a.toNat % 4 ≠ 0 ∨ 0xC0000 ≤ a.toNat ∧ stallPlace a.toNat = none)) ∧
  (∃ (s : State) (a : BitVec 32), s.tapOn = true ∧ s.scope 0 = true ∧ s.pwr.held = false ∧ (a.toNat % 4 ≠ 0 ∨ 0xC0000 ≤ a.toNat ∧ stallPlace a.toNat = none)) ∧
  (∃ (s : State) (a : BitVec 32), s.tapOn = true ∧ s.scope 0 = true ∧ s.pwr.held = false ∧ a.toNat % 4 = 0 ∧ a.toNat < 0xC0000) ∧
  (∃ (s : State) (a : BitVec 32) (q x : Nat) (m : StallMem) (b : Nat), s.tapOn = true ∧ s.scope 0 = true ∧ s.scope 2 = true ∧ s.pwr.held = false ∧ a.toNat % 4 = 0 ∧ stallPlace a.toNat = some (q, x) ∧ narrowPlace x = some (m, b) ∧ m ≠ .weight ∧ s.rd R.STB_SP_STAT_AUDIT ≠ 1) ∧
  (∃ (s : State) (a : BitVec 32), s.tapOn = true ∧ s.scope 0 = true ∧ s.scope 2 = true ∧ s.pwr.held = false ∧ a.toNat % 4 = 0 ∧ 0x10000000 ≤ a.toNat ∧ a.toNat < 0x10400000 ∧ a.toNat % 0x100000 < 0x28000) ∧
  (∃ (s : State) (a : BitVec 32), s.tapOn = true ∧ s.scope 0 = true ∧ s.scope 2 = false ∧ s.pwr.held = false ∧ a.toNat % 4 = 0 ∧ stallPlace a.toNat ≠ none) ∧
  (∃ (s : State), s.tapOn = true ∧ s.scope 1 = true ∧ s.dbgRxFull = false) ∧
  (∃ (s : State), s.tapOn = true ∧ s.scope 1 = true ∧ s.dbgRxFull = true) ∧
  (∃ (s : State) (b : Byte) (l : Bytes), s.tapOn = true ∧ s.scope 1 = true ∧ s.stream 3 = b :: l) ∧
  (∃ (s : State), s.tapOn = true ∧ s.scope 1 = true ∧ s.stream 3 = []) ∧
  (∃ (s : State) (c : Cmd) (m : Nat), s.Ready c ∧ c.payload = le 1 m ∧ m ≤ 1 ∧ c.ch.val = 31) ∧
  (∃ (s : State) (c : Cmd), s.Ready c) ∧
  (∃ (s : State) (c : Cmd), s.Ready c) :=
  ⟨⟨{ st with pwr.core := false }, .idcode, by decide +kernel⟩,
   ⟨{ st with pwr.io := false }, .bypass, by decide +kernel⟩,
   ⟨st, by decide +kernel⟩,
   ⟨st, by decide +kernel⟩,
   ⟨st, .highz, 3, by decide +kernel⟩,
   ⟨st, .clamp, 4, by decide +kernel⟩,
   ⟨st, by decide +kernel⟩,
   ⟨1, by decide +kernel⟩,
   ⟨st, by decide +kernel⟩,
   ⟨{ st.wrs [(R.SEC_STAT_LIFECYCLE, 2), (R.SEC_STAT_DBG_SCOPE, 5), (R.SEC_STAT_DBG_UNLOCKED, 1)] with dbg.halted := 2, dbg.loud := true, sec.tries := 1, sec.result := 1 }, by decide +kernel⟩,
   ⟨{ st.wr R.SEC_STAT_LIFECYCLE 2 with sec.drbg := true, sec.tries := 2 }, by decide +kernel⟩,
   ⟨{ st with sec.drbg := true, sec.tries := 3 }, by decide +kernel⟩,
   ⟨st, by decide +kernel⟩,
   ⟨{ st with sec.resp := none }, by decide +kernel⟩,
   ⟨{ st with sec.resp := some [], sec.chal := some ⟨[], 5, 0⟩ }, [], ⟨[], 5, 0⟩, by decide +kernel⟩,
   ⟨{ st with cad.now := 2000000, sec.tries := 2, sec.resp := some [], sec.chal := some ⟨[], 5, 0⟩ }, [], ⟨[], 5, 0⟩, by decide +kernel⟩,
   ⟨{ st with sec.resp := some [] }, [], by decide +kernel⟩,
   ⟨st.wr R.SEC_STAT_LIFECYCLE 2, .relock, 0x13, by decide +kernel⟩,
   ⟨st.wrs [(R.SEC_STAT_LIFECYCLE, 2), (R.SEC_STAT_DBG_SCOPE, 6)], .halt 1 false, 0x13, by decide +kernel⟩,
   ⟨st.wrs [(R.SEC_STAT_LIFECYCLE, 2), (R.SEC_STAT_DBG_SCOPE, 5)], .dbgSpokePop, by decide +kernel⟩,
   ⟨st, by decide +kernel⟩,
   ⟨{ st with dbg.haltPend := 2 }, by decide +kernel⟩,
   ⟨{ st with dbg.haltPend := 3, pwr.held := true }, 1, by decide +kernel⟩,
   ⟨{ st with dbg.haltPend := 1 }, 1, by decide +kernel⟩,
   ⟨{ st with dbg.haltPend := 3, cad.run1 := some ⟨0x14, 3, false, false⟩ }, 1, by decide +kernel⟩,
   ⟨{ st with dbg.haltPend := 2, dbg.halted := 1, pwr.force := [2], cad.run1 := some ⟨0x14, 3, false, false⟩ }, 1, by decide +kernel⟩,
   ⟨{ st with dbg.halted := 2 }, by decide +kernel⟩,
   ⟨{ st with dbg.halted := 2 }, by decide +kernel⟩,
   ⟨st, 1, by decide +kernel⟩,
   ⟨{ st with dbg.halted := 2, dbg.resume := 2, pwr.force := [2], cad.run1 := some ⟨0x14, 3, false, true⟩ }, 1, by decide +kernel⟩,
   ⟨{ st with dbg.halted := 3, dbg.resume := 2, pwr.force := [2], cad.run1 := some ⟨0x14, 3, false, true⟩ }, 1, by decide +kernel⟩,
   ⟨st, by decide +kernel⟩,
   ⟨{ st with dbg.halted := 1, dbg.haltPend := 2 }, by decide +kernel⟩,
   ⟨{ st.wrs [(R.SEC_STAT_LIFECYCLE, 2), (R.SEC_STAT_DBG_SCOPE, 5), (R.SEC_STAT_DBG_UNLOCKED, 1)] with dbg.relock := true, dbg.loud := true }, by decide +kernel⟩,
   ⟨{ st with spoke.rx := [(3, { part := [0x5A, 1] })] }, by decide +kernel⟩,
   ⟨{ st with dbg.sram := [(8, 1), (10, 3)] }, 8, by decide +kernel⟩,
   ⟨st, 6, by decide +kernel⟩,
   ⟨st, 0x20000000, by decide +kernel⟩,
   ⟨{ st with dbg.sram := [(8, 1), (13, 3)] }, 8, by decide +kernel⟩,
   ⟨st, 0x10240124, 2, 0x40124, .act, 0x124, by decide +kernel⟩,
   ⟨st, 0x10200124, by decide +kernel⟩,
   ⟨st.wrs [(R.SEC_STAT_LIFECYCLE, 2), (R.SEC_STAT_DBG_SCOPE, 1)], 0x10240124, by decide +kernel⟩,
   ⟨{ st with spoke.rx := [(3, { part := [0x5A] })] }, by decide +kernel⟩,
   ⟨{ st with spoke.rx := [(3, { part := List.replicate 512 0x5A })] }, by decide +kernel⟩,
   ⟨{ st with spoke.streams := [(3, [0x5A, 7])] }, 0x5A, [7], by decide +kernel⟩,
   ⟨st, by decide +kernel⟩,
   ⟨st, ⟨31, 5, [1]⟩, 1, ready _ _ (by decide +kernel), by decide +kernel, by decide +kernel, by decide +kernel⟩,
   ⟨st, ⟨30, 5, [1]⟩, ready _ _ (by decide +kernel)⟩,
   ⟨st, ⟨31, 5, [2]⟩, ready _ _ (by decide +kernel)⟩⟩

/-- The premises of FaultArrives hold clause by clause: with a queue that has room, and with one that is full. -/
theorem meets_FaultArrives :
  (∃ s : State, s.pwr.held = true) ∧
  (∃ s : State, s.pwr.held = false ∧ s.flt.queue.length < 16) ∧
  (∃ s : State, s.pwr.held = false ∧ 16 ≤ s.flt.queue.length) :=
  ⟨⟨{ st with pwr.held := true }, by decide +kernel⟩,
   ⟨{ st with flt.queue := List.replicate 15 ⟨st.faultRec 1 0x10 2 7 0, 15⟩ }, by decide +kernel⟩,
   ⟨{ st with flt.queue := List.replicate 16 ⟨st.faultRec 1 0x10 2 7 0, 15⟩ }, by decide +kernel⟩⟩

/-- The premise of FaultLatches holds with empty latches and with one that holds a record. -/
theorem meets_FaultLatches_both :
  (∃ s : State, s.pwr.held = false ∧ s.rd R.FLT_FIRST_VALID = 0) ∧
  (∃ s : State, s.pwr.held = false ∧ s.rd R.FLT_FIRST_VALID = 1) :=
  ⟨⟨st, by decide +kernel⟩, ⟨st.wr R.FLT_FIRST_VALID 1, by decide +kernel⟩⟩

end Sys2Proof.Tests
end

section
/-!
PROOFS. What every command of the dispatcher keeps (00_scope.md): the invariant of Safety.lean, and every part of the state outside
the command's own list. Both are one case split over the dispatcher's rows, each closed by the law of its row.
-/

namespace Sys2Proof.Machine

variable {q : List Instr} {n : Nat} {s : State}

/-! ### The rows that move the count of slot edges -/

theorem execSlotEdge_moves {x : SlotIn} (h : State.Good q n s) : State.GoodOut q (n + 1) (execSlotEdge x s) :=
  good_next (State.slotEdge_moves h)

theorem execAonPowerUp_moves (h : State.Good q n s) : State.GoodOut q 0 (execAonPowerUp s) :=
  good_next (State.aonPowerUp_moves h)

theorem execWake_moves {source : Fin 8} {slots : Nat} (h : State.Good q n s) :
    State.GoodOut q (if s.pwr.standby || !s.cad.refOn then n + slots else n) (execWake source slots s) :=
  good_next (State.wake_moves h)

theorem execFirstTick_moves {h0 h1 h2 h3 : BitVec 12} (h : State.Good q n s) :
    State.GoodOut q (if s.startupDone then (n + 31) / 32 * 32 else n) (execFirstTick h0 h1 h2 h3 s) := by
  refine good_next ?_
  split
  · exact State.cadenceStarts_good (State.firstTickRun_moves h)
  · exact h

theorem execFw2Resume_moves {slots : Nat} {rings : List (BitVec 12)} (h : State.Good q n s) :
    State.GoodOut q (if s.pwr.fwStep = 5 ∧ s.pwr.wakeDue = true ∧ s.pwr.held = false then (n + slots + 31) / 32 * 32 else n)
      (execFw2Resume slots rings s) := by
  refine good_next ?_
  split
  · rename_i hc
    have resumed := State.fw2Resume_moves (slots := slots) (rings := rings) h
    rw [if_pos (by simpa using hc)] at resumed
    exact State.cadenceStarts_good resumed
  · exact h

/-! ### The dispatcher, row by row -/

/-- Every command completes, leaves the queue behind it as it is and keeps the invariant, whatever it does to the count of slot
edges. -/
theorem exec_good (h : State.Good q n s) (c : Instr) : ∃ m, State.GoodOut q m (exec c s) :=
  match c with
  | .slotEdge .. => ⟨_, execSlotEdge_moves h⟩
  | .jobCommit .. => ⟨n, execJobCommit_good h⟩
  | .tickGuardFire .. => ⟨n, execTickGuardFire_good h⟩
  | .slotTableSwap => ⟨n, execSlotTableSwap_good h⟩
  | .slotTableReload => ⟨n, execSlotTableReload_good h⟩
  | .stageEdge .. => ⟨n, execStageEdge_good h⟩
  | .sequencerWatchdog => ⟨n, execSequencerWatchdog_good h⟩
  | .aonLost => ⟨n, execAonLost_good h⟩
  | .aonResync => ⟨n, execAonResync_good h⟩
  | .mainRailsGood .. => ⟨n, execMainRailsGood_good h⟩
  | .mainRailFall .. => ⟨n, execMainRailFall_good h⟩
  | .aonPowerUp => ⟨_, execAonPowerUp_moves h⟩
  | .aonRetentionLoss => ⟨n, execAonRetentionLoss_good h⟩
  | .padPowerUp => ⟨n, execPadPowerUp_good h⟩
  | .hubRstnQualified => ⟨n, execHubRstnQualified_good h⟩
  | .hubResetAssert .. => ⟨n, execHubResetAssert_good h⟩
  | .kickstandCommit => ⟨n, execKickstandCommit_good h⟩
  | .boot .. => ⟨n, execBoot_good h⟩
  | .firstTick .. => ⟨_, execFirstTick_moves h⟩
  | .escrowTimeout => ⟨n, execEscrowTimeout_good h⟩
  | .pfiQualified => ⟨n, execPfiQualified_good h⟩
  | .powerFailSequenceStart => ⟨n, execPowerFailSequenceStart_good h⟩
  | .quiesce => ⟨n, execQuiesce_good h⟩
  | .pfiRelease => ⟨n, execPfiRelease_good h⟩
  | .pfEnd => ⟨n, execPfEnd_good h⟩
  | .pwrSetMode .. => ⟨n, execPwrSetMode_good h⟩
  | .freewheel1Entry => ⟨n, execFreewheel1Entry_good h⟩
  | .freewheel2Entry => ⟨n, execFreewheel2Entry_good h⟩
  | .fw2PwmClockStop => ⟨n, execFw2PwmClockStop_good h⟩
  | .fw2ClockStop => ⟨n, execFw2ClockStop_good h⟩
  | .standbyEntry => ⟨n, execStandbyEntry_good h⟩
  | .wake .. => ⟨_, execWake_moves h⟩
  | .fw2Resume .. => ⟨_, execFw2Resume_moves h⟩
  | .pwrSubsysReset .. => ⟨n, execPwrSubsysReset_good h⟩
  | .chargeStop => ⟨n, execChargeStop_good h⟩
  | .chargeResume => ⟨n, execChargeResume_good h⟩
  | .frameReceive .. => ⟨n, execFrameReceive_good h⟩
  | .uartByteGapTimeout => ⟨n, execUartByteGapTimeout_good h⟩
  | .uartCtsHigh => ⟨n, execUartCtsHigh_good h⟩
  | .frameAdmission .. => ⟨n, execFrameAdmission_good h⟩
  | .sessionOpen .. => ⟨n, execSessionOpen_good h⟩
  | .sessionClose .. => ⟨n, execSessionClose_good h⟩
  | .sessionReset .. => ⟨n, execSessionReset_good h⟩
  | .hubReset .. => ⟨n, execHubReset_good h⟩
  | .hubResetStart => ⟨n, execHubResetStart_good h⟩
  | .subscribe .. => ⟨n, execSubscribe_good h⟩
  | .ping .. => ⟨n, execPing_good h⟩
  | .hostBaud .. => ⟨n, execHostBaud_good h⟩
  | .hostBaudRevert => ⟨n, execHostBaudRevert_good h⟩
  | .sessionInfo .. => ⟨n, execSessionInfo_good h⟩
  | .attrRead .. => ⟨n, execAttrRead_good h⟩
  | .attrWrite .. => ⟨n, execAttrWrite_good h⟩
  | .attrReadMulti .. => ⟨n, execAttrReadMulti_good h⟩
  | .attrModify .. => ⟨n, execAttrModify_good h⟩
  | .attrInfo .. => ⟨n, execAttrInfo_good h⟩
  | .eventsLost .. => ⟨n, execEventsLost_good h⟩
  | .spiStatus => ⟨n, execSpiStatus_good h⟩
  | .spiWrite .. => ⟨n, execSpiWrite_good h⟩
  | .spiRead .. => ⟨n, execSpiRead_good h⟩
  | .spiFlush => ⟨n, execSpiFlush_good h⟩
  | .consoleOpen => ⟨n, execConsoleOpen_good h⟩
  | .consoleKey .. => ⟨n, execConsoleKey_good h⟩
  | .consoleClose => ⟨n, execConsoleClose_good h⟩
  | .consoleIdleTimeout => ⟨n, execConsoleIdleTimeout_good h⟩
  | .sensorLost .. => ⟨n, execSensorLost_good h⟩
  | .unoccupied .. => ⟨n, execUnoccupied_good h⟩
  | .windowClose .. => ⟨n, execWindowClose_good h⟩
  | .holdEnd .. => ⟨n, execHoldEnd_good h⟩
  | .gap .. => ⟨n, execGap_good h⟩
  | .zonHold .. => ⟨n, execZonHold_good h⟩
  | .zonSchedWrite .. => ⟨n, execZonSchedWrite_good h⟩
  | .zonSchedDayStored .. => ⟨n, execZonSchedDayStored_good h⟩
  | .zonSchedRead .. => ⟨n, execZonSchedRead_good h⟩
  | .zonRemoteT .. => ⟨n, execZonRemoteT_good h⟩
  | .zonWindow .. => ⟨n, execZonWindow_good h⟩
  | .zonPresence .. => ⟨n, execZonPresence_good h⟩
  | .zonSave .. => ⟨n, execZonSave_good h⟩
  | .zonEvtRead .. => ⟨n, execZonEvtRead_good h⟩
  | .zonLoopReset .. => ⟨n, execZonLoopReset_good h⟩
  | .zonClockWrite .. => ⟨n, execZonClockWrite_good h⟩
  | .zonEnableWrite .. => ⟨n, execZonEnableWrite_good h⟩
  | .periodBoundary .. => ⟨n, execPeriodBoundary_good h⟩
  | .cutRequest .. => ⟨n, execCutRequest_good h⟩
  | .killRequest .. => ⟨n, execKillRequest_good h⟩
  | .cutLatchOff .. => ⟨n, execCutLatchOff_good h⟩
  | .gfltAssert .. => ⟨n, execGfltAssert_good h⟩
  | .pwmClockRestart => ⟨n, execPwmClockRestart_good h⟩
  | .delayLineCalDone .. => ⟨n, execDelayLineCalDone_good h⟩
  | .pwmGroupCtl .. => ⟨n, execPwmGroupCtl_good h⟩
  | .pwmLoadAll .. => ⟨n, execPwmLoadAll_good h⟩
  | .pwmSync .. => ⟨n, execPwmSync_good h⟩
  | .pwmClrLatch .. => ⟨n, execPwmClrLatch_good h⟩
  | .valveCycleStart .. => ⟨n, execValveCycleStart_good h⟩
  | .valveOnTimeEnd .. => ⟨n, execValveOnTimeEnd_good h⟩
  | .inrushEnd .. => ⟨n, execInrushEnd_good h⟩
  | .groupRecoveryStart .. => ⟨n, execGroupRecoveryStart_good h⟩
  | .groupRecoveryEnd .. => ⟨n, execGroupRecoveryEnd_good h⟩
  | .bridgeMoveEnd .. => ⟨n, execBridgeMoveEnd_good h⟩
  | .reversalCoastEnd .. => ⟨n, execReversalCoastEnd_good h⟩
  | .reversalNotAdmitted .. => ⟨n, execReversalNotAdmitted_good h⟩
  | .fanStall .. => ⟨n, execFanStall_good h⟩
  | .rampArrived .. => ⟨n, execRampArrived_good h⟩
  | .actValve .. => ⟨n, execActValve_good h⟩
  | .actBrMove .. => ⟨n, execActBrMove_good h⟩
  | .actBrClear .. => ⟨n, execActBrClear_good h⟩
  | .actFan .. => ⟨n, execActFan_good h⟩
  | .actRamp .. => ⟨n, execActRamp_good h⟩
  | .actAux .. => ⟨n, execActAux_good h⟩
  | .actSave .. => ⟨n, execActSave_good h⟩
  | .actKsWrite .. => ⟨n, execActKsWrite_good h⟩
  | .adcConversionEnd .. => ⟨n, execAdcConversionEnd_good h⟩
  | .adcCtlGo .. => ⟨n, execAdcCtlGo_good h⟩
  | .adcSinglePendingStart .. => ⟨n, execAdcSinglePendingStart_good h⟩
  | .adcSingleDone .. => ⟨n, execAdcSingleDone_good h⟩
  | .deviceDue .. => ⟨n, execDeviceDue_good h⟩
  | .transactionEnd .. => ⟨n, execTransactionEnd_good h⟩
  | .transactionTimeout .. => ⟨n, execTransactionTimeout_good h⟩
  | .deviceInvalid .. => ⟨n, execDeviceInvalid_good h⟩
  | .adcConvert .. => ⟨n, execAdcConvert_good h⟩
  | .adcSave .. => ⟨n, execAdcSave_good h⟩
  | .roundEnd .. => ⟨n, execRoundEnd_good h⟩
  | .safetyInputFilter .. => ⟨n, execSafetyInputFilter_good h⟩
  | .discrepant .. => ⟨n, execDiscrepant_good h⟩
  | .fbFault .. => ⟨n, execFbFault_good h⟩
  | .weld .. => ⟨n, execWeld_good h⟩
  | .proofWindowOpen .. => ⟨n, execProofWindowOpen_good h⟩
  | .proofDeadline .. => ⟨n, execProofDeadline_good h⟩
  | .proofTestEnd .. => ⟨n, execProofTestEnd_good h⟩
  | .sltTrip => ⟨n, execSltTrip_good h⟩
  | .sltRelease => ⟨n, execSltRelease_good h⟩
  | .sltSens => ⟨n, execSltSens_good h⟩
  | .sdirRelease => ⟨n, execSdirRelease_good h⟩
  | .slpFault => ⟨n, execSlpFault_good h⟩
  | .frostDemandOn => ⟨n, execFrostDemandOn_good h⟩
  | .frostDemandOff => ⟨n, execFrostDemandOff_good h⟩
  | .clkFault => ⟨n, execClkFault_good h⟩
  | .laneFault => ⟨n, execLaneFault_good h⟩
  | .heartbeatResponse .. => ⟨n, execHeartbeatResponse_good h⟩
  | .heartbeatLapse => ⟨n, execHeartbeatLapse_good h⟩
  | .rearmWindowEnd => ⟨n, execRearmWindowEnd_good h⟩
  | .armed => ⟨n, execArmed_good h⟩
  | .stagedBlockExpire => ⟨n, execStagedBlockExpire_good h⟩
  | .padCommitActivate => ⟨n, execPadCommitActivate_good h⟩
  | .padStage .. => ⟨n, execPadStage_good h⟩
  | .padCommit .. => ⟨n, execPadCommit_good h⟩
  | .padCancel .. => ⟨n, execPadCancel_good h⟩
  | .padProof .. => ⟨n, execPadProof_good h⟩
  | .padRestart .. => ⟨n, execPadRestart_good h⟩
  | .busFrameEnd .. => ⟨n, execBusFrameEnd_good h⟩
  | .busRxOverflow _ data => ⟨n, execBusRxOverflow_good (x2 := data) h⟩
  | .modbusClientTimeout .. => ⟨n, execModbusClientTimeout_good h⟩
  | .replyPostponed .. => ⟨n, execReplyPostponed_good h⟩
  | .mstpTokenLost .. => ⟨n, execMstpTokenLost_good h⟩
  | .busPartialFrameDiscard .. => ⟨n, execBusPartialFrameDiscard_good h⟩
  | .busTxDone .. => ⟨n, execBusTxDone_good h⟩
  | .golposenSend .. => ⟨n, execGolposenSend_good h⟩
  | .golposenWatchdog .. => ⟨n, execGolposenWatchdog_good h⟩
  | .busPortCtl .. => ⟨n, execBusPortCtl_good h⟩
  | .busTx .. => ⟨n, execBusTx_good h⟩
  | .busGpRestart .. => ⟨n, execBusGpRestart_good h⟩
  | .busGpPdu .. => ⟨n, execBusGpPdu_good h⟩
  | .busSave .. => ⟨n, execBusSave_good h⟩
  | .hayloftPhaseEnd .. => ⟨n, execHayloftPhaseEnd_good h⟩
  | .hayloftWriteEnd => ⟨n, execHayloftWriteEnd_good h⟩
  | .logHoldExpire .. => ⟨n, execLogHoldExpire_good h⟩
  | .overflow .. => ⟨n, execOverflow_good h⟩
  | .hayRead .. => ⟨n, execHayRead_good h⟩
  | .hayWrite .. => ⟨n, execHayWrite_good h⟩
  | .hayLogRead .. => ⟨n, execHayLogRead_good h⟩
  | .hayLogAppend .. => ⟨n, execHayLogAppend_good h⟩
  | .hayLogFlush .. => ⟨n, execHayLogFlush_good h⟩
  | .hayOdInc .. => ⟨n, execHayOdInc_good h⟩
  | .stallWindowClose => ⟨n, execStallWindowClose_good h⟩
  | .nop .. => ⟨n, execNop_good h⟩
  | .setr .. => ⟨n, execSetr_good h⟩
  | .addr .. => ⟨n, execAddr_good h⟩
  | .tload .. => ⟨n, execTload_good h⟩
  | .mact .. => ⟨n, execMact_good h⟩
  | .act .. => ⟨n, execAct_good h⟩
  | .pool .. => ⟨n, execPool_good h⟩
  | .store .. => ⟨n, execStore_good h⟩
  | .radv .. => ⟨n, execRadv_good h⟩
  | .rwait .. => ⟨n, execRwait_good h⟩
  | .nsend .. => ⟨n, execNsend_good h⟩
  | .loop .. => ⟨n, execLoop_good h⟩
  | .waitt .. => ⟨n, execWaitt_good h⟩
  | .move .. => ⟨n, execMove_good h⟩
  | .jump .. => ⟨n, execJump_good h⟩
  | .opEnd .. => ⟨n, execOpEnd_good h⟩
  | .narrowAccess .. => ⟨n, execNarrowAccess_good h⟩
  | .scrub .. => ⟨n, execScrub_good h⟩
  | .rowRepairCopy .. => ⟨n, execRowRepairCopy_good h⟩
  | .stbAuditWrite .. => ⟨n, execStbAuditWrite_good h⟩
  | .stbCacheWrite .. => ⟨n, execStbCacheWrite_good h⟩
  | .cacheSwitch => ⟨n, execCacheSwitch_good h⟩
  | .stbLoadBegin .. => ⟨n, execStbLoadBegin_good h⟩
  | .stbLoadData .. => ⟨n, execStbLoadData_good h⟩
  | .stbLoadEnd .. => ⟨n, execStbLoadEnd_good h⟩
  | .stbTaskStart .. => ⟨n, execStbTaskStart_good h⟩
  | .stbTaskStop .. => ⟨n, execStbTaskStop_good h⟩
  | .stbFeed .. => ⟨n, execStbFeed_good h⟩
  | .panelLapEdge => ⟨n, execPanelLapEdge_good h⟩
  | .panelPowerOnStep .. => ⟨n, execPanelPowerOnStep_good h⟩
  | .orderlyOff => ⟨n, execOrderlyOff_good h⟩
  | .abruptOff => ⟨n, execAbruptOff_good h⟩
  | .powerGoodLow => ⟨n, execPowerGoodLow_good h⟩
  | .vsrcFail => ⟨n, execVsrcFail_good h⟩
  | .dischargeEnd => ⟨n, execDischargeEnd_good h⟩
  | .dspPower .. => ⟨n, execDspPower_good h⟩
  | .dspWrite .. => ⟨n, execDspWrite_good h⟩
  | .dspFill .. => ⟨n, execDspFill_good h⟩
  | .dspPresent .. => ⟨n, execDspPresent_good h⟩
  | .dspLwWrite .. => ⟨n, execDspLwWrite_good h⟩
  | .dspMode .. => ⟨n, execDspMode_good h⟩
  | .dspGammaWrite .. => ⟨n, execDspGammaWrite_good h⟩
  | .segmentSwap => ⟨n, execSegmentSwap_good h⟩
  | .vlcdLow => ⟨n, execVlcdLow_good h⟩
  | .altPattern => ⟨n, execAltPattern_good h⟩
  | .lossTStop => ⟨n, execLossTStop_good h⟩
  | .segmentRestart => ⟨n, execSegmentRestart_good h⟩
  | .segCfgWrite .. => ⟨n, execSegCfgWrite_good h⟩
  | .segWrite .. => ⟨n, execSegWrite_good h⟩
  | .segShow .. => ⟨n, execSegShow_good h⟩
  | .graceExpire => ⟨n, execGraceExpire_good h⟩
  | .riseAlarm => ⟨n, execRiseAlarm_good h⟩
  | .riseActEnd => ⟨n, execRiseActEnd_good h⟩
  | .levelFall => ⟨n, execLevelFall_good h⟩
  | .levelTakesEffect => ⟨n, execLevelTakesEffect_good h⟩
  | .thermStop => ⟨n, execThermStop_good h⟩
  | .cutSensorTrip => ⟨n, execCutSensorTrip_good h⟩
  | .cutSensorRelease => ⟨n, execCutSensorRelease_good h⟩
  | .thmFloor .. => ⟨n, execThmFloor_good h⟩
  | .secHello .. => ⟨n, execSecHello_good h⟩
  | .secAuth .. => ⟨n, execSecAuth_good h⟩
  | .handshakeLapse .. => ⟨n, execHandshakeLapse_good h⟩
  | .lockoutEnd .. => ⟨n, execLockoutEnd_good h⟩
  | .secPairOpen .. => ⟨n, execSecPairOpen_good h⟩
  | .secPairStart .. => ⟨n, execSecPairStart_good h⟩
  | .secPairConfirm .. => ⟨n, execSecPairConfirm_good h⟩
  | .pairingWindowEnd => ⟨n, execPairingWindowEnd_good h⟩
  | .secKeyPut .. => ⟨n, execSecKeyPut_good h⟩
  | .secKeyGen .. => ⟨n, execSecKeyGen_good h⟩
  | .secKeyDelete .. => ⟨n, execSecKeyDelete_good h⟩
  | .secCryptSeal .. => ⟨n, execSecCryptSeal_good h⟩
  | .secCryptOpen .. => ⟨n, execSecCryptOpen_good h⟩
  | .secLifecycleProvision .. => ⟨n, execSecLifecycleProvision_good h⟩
  | .secLifecycleField .. => ⟨n, execSecLifecycleField_good h⟩
  | .secLifecycleReturn .. => ⟨n, execSecLifecycleReturn_good h⟩
  | .fuseBurnEnd => ⟨n, execFuseBurnEnd_good h⟩
  | .secUpdateBegin .. => ⟨n, execSecUpdateBegin_good h⟩
  | .secUpdateData .. => ⟨n, execSecUpdateData_good h⟩
  | .secUpdateEnd .. => ⟨n, execSecUpdateEnd_good h⟩
  | .secUpdateConfirm .. => ⟨n, execSecUpdateConfirm_good h⟩
  | .secUpdateAbort .. => ⟨n, execSecUpdateAbort_good h⟩
  | .secRandom .. => ⟨n, execSecRandom_good h⟩
  | .trialExpire => ⟨n, execTrialExpire_good h⟩
  | .drbgReseed => ⟨n, execDrbgReseed_good h⟩
  | .entropyFail => ⟨n, execEntropyFail_good h⟩
  | .hubFaultReset => ⟨n, execHubFaultReset_good h⟩
  | .subsysUnitReset .. => ⟨n, execSubsysUnitReset_good h⟩
  | .recoveryEnd .. => ⟨n, execRecoveryEnd_good h⟩
  | .coreWatchdog .. => ⟨n, execCoreWatchdog_good h⟩
  | .streakClear => ⟨n, execStreakClear_good h⟩
  | .limpHoldExpire => ⟨n, execLimpHoldExpire_good h⟩
  | .clrLatch .. => ⟨n, execClrLatch_good h⟩
  | .limpEnter .. => ⟨n, execLimpEnter_good h⟩
  | .limpExit .. => ⟨n, execLimpExit_good h⟩
  | .tapReset => ⟨n, execTapReset_good h⟩
  | .extest .. => ⟨n, execExtest_good h⟩
  | .samplePreload .. => ⟨n, execSamplePreload_good h⟩
  | .idcode => ⟨n, execIdcode_good h⟩
  | .highz => ⟨n, execHighz_good h⟩
  | .clamp => ⟨n, execClamp_good h⟩
  | .bypass => ⟨n, execBypass_good h⟩
  | .dbgStatus => ⟨n, execDbgStatus_good h⟩
  | .dbgChal .. => ⟨n, execDbgChal_good h⟩
  | .dbgResp .. => ⟨n, execDbgResp_good h⟩
  | .debugResponseJudged => ⟨n, execDebugResponseJudged_good h⟩
  | .halt .. => ⟨n, execHalt_good h⟩
  | .coreHalt .. => ⟨n, execCoreHalt_good h⟩
  | .resume .. => ⟨n, execResume_good h⟩
  | .coreResume .. => ⟨n, execCoreResume_good h⟩
  | .dbgReset => ⟨n, execDbgReset_good h⟩
  | .relock => ⟨n, execRelock_good h⟩
  | .flush => ⟨n, execFlush_good h⟩
  | .dbgMemRead .. => ⟨n, execDbgMemRead_good h⟩
  | .dbgMemWrite .. => ⟨n, execDbgMemWrite_good h⟩
  | .dbgSpokePush .. => ⟨n, execDbgSpokePush_good h⟩
  | .dbgSpokePop => ⟨n, execDbgSpokePop_good h⟩
  | .dbgReadMode .. => ⟨n, execDbgReadMode_good h⟩
  | .vddPadLoss => ⟨n, execVddPadLoss_good h⟩
  | .nvmWpChange .. => ⟨n, execNvmWpChange_good h⟩
  | .bootContinue => ⟨n, execBootContinue_good h⟩
  | .vlcdLowEnd => ⟨n, execVlcdLowEnd_good h⟩
  | .gfltRelease .. => ⟨n, execGfltRelease_good h⟩

theorem Covers.refl {l : List Part} : Covers l l := fun _ hp => hp

/-- Every command completes and changes nothing but the parts that `touches` lists for it. -/
theorem exec_frame (c : Instr) (s : State) : State.FrameOut (touches c) s (exec c s) :=
  match c with
  | .slotEdge .. => execSlotEdge_frame Covers.refl .refl
  | .jobCommit .. => execJobCommit_frame Covers.refl .refl
  | .tickGuardFire .. => execTickGuardFire_frame Covers.refl .refl
  | .slotTableSwap => execSlotTableSwap_frame Covers.refl .refl
  | .slotTableReload => execSlotTableReload_frame Covers.refl .refl
  | .stageEdge .. => execStageEdge_frame Covers.refl .refl
  | .sequencerWatchdog => execSequencerWatchdog_frame Covers.refl .refl
  | .aonLost => execAonLost_frame Covers.refl .refl
  | .aonResync => execAonResync_frame Covers.refl .refl
  | .mainRailsGood .. => execMainRailsGood_frame Covers.refl .refl
  | .mainRailFall .. => execMainRailFall_frame Covers.refl .refl
  | .aonPowerUp => execAonPowerUp_frame Covers.refl .refl
  | .aonRetentionLoss => execAonRetentionLoss_frame Covers.refl .refl
  | .padPowerUp => execPadPowerUp_frame Covers.refl .refl
  | .hubRstnQualified => execHubRstnQualified_frame Covers.refl .refl
  | .hubResetAssert .. => execHubResetAssert_frame Covers.refl .refl
  | .kickstandCommit => execKickstandCommit_frame Covers.refl .refl
  | .boot .. => execBoot_frame Covers.refl .refl
  | .firstTick .. => execFirstTick_frame Covers.refl .refl
  | .escrowTimeout => execEscrowTimeout_frame Covers.refl .refl
  | .pfiQualified => execPfiQualified_frame Covers.refl .refl
  | .powerFailSequenceStart => execPowerFailSequenceStart_frame Covers.refl .refl
  | .quiesce => execQuiesce_frame Covers.refl .refl
  | .pfiRelease => execPfiRelease_frame Covers.refl .refl
  | .pfEnd => execPfEnd_frame Covers.refl .refl
  | .pwrSetMode .. => execPwrSetMode_frame Covers.refl .refl
  | .freewheel1Entry => execFreewheel1Entry_frame Covers.refl .refl
  | .freewheel2Entry => execFreewheel2Entry_frame Covers.refl .refl
  | .fw2PwmClockStop => execFw2PwmClockStop_frame Covers.refl .refl
  | .fw2ClockStop => execFw2ClockStop_frame Covers.refl .refl
  | .standbyEntry => execStandbyEntry_frame Covers.refl .refl
  | .wake .. => execWake_frame Covers.refl .refl
  | .fw2Resume .. => execFw2Resume_frame Covers.refl .refl
  | .pwrSubsysReset .. => execPwrSubsysReset_frame Covers.refl .refl
  | .chargeStop => execChargeStop_frame Covers.refl .refl
  | .chargeResume => execChargeResume_frame Covers.refl .refl
  | .frameReceive .. => execFrameReceive_frame Covers.refl .refl
  | .uartByteGapTimeout => execUartByteGapTimeout_frame Covers.refl .refl
  | .uartCtsHigh => execUartCtsHigh_frame Covers.refl .refl
  | .frameAdmission .. => execFrameAdmission_frame Covers.refl .refl
  | .sessionOpen .. => execSessionOpen_frame Covers.refl .refl
  | .sessionClose .. => execSessionClose_frame Covers.refl .refl
  | .sessionReset .. => execSessionReset_frame Covers.refl .refl
  | .hubReset .. => execHubReset_frame Covers.refl .refl
  | .hubResetStart => execHubResetStart_frame Covers.refl .refl
  | .subscribe .. => execSubscribe_frame Covers.refl .refl
  | .ping .. => execPing_frame Covers.refl .refl
  | .hostBaud .. => execHostBaud_frame Covers.refl .refl
  | .hostBaudRevert => execHostBaudRevert_frame Covers.refl .refl
  | .sessionInfo .. => execSessionInfo_frame Covers.refl .refl
  | .attrRead .. => execAttrRead_frame Covers.refl .refl
  | .attrWrite .. => execAttrWrite_frame Covers.refl .refl
  | .attrReadMulti .. => execAttrReadMulti_frame Covers.refl .refl
  | .attrModify .. => execAttrModify_frame Covers.refl .refl
  | .attrInfo .. => execAttrInfo_frame Covers.refl .refl
  | .eventsLost .. => execEventsLost_frame Covers.refl .refl
  | .spiStatus => execSpiStatus_frame Covers.refl .refl
  | .spiWrite .. => execSpiWrite_frame Covers.refl .refl
  | .spiRead .. => execSpiRead_frame Covers.refl .refl
  | .spiFlush => execSpiFlush_frame Covers.refl .refl
  | .consoleOpen => execConsoleOpen_frame Covers.refl .refl
  | .consoleKey .. => execConsoleKey_frame Covers.refl .refl
  | .consoleClose => execConsoleClose_frame Covers.refl .refl
  | .consoleIdleTimeout => execConsoleIdleTimeout_frame Covers.refl .refl
  | .sensorLost .. => execSensorLost_frame Covers.refl .refl
  | .unoccupied .. => execUnoccupied_frame Covers.refl .refl
  | .windowClose .. => execWindowClose_frame Covers.refl .refl
  | .holdEnd .. => execHoldEnd_frame Covers.refl .refl
  | .gap .. => execGap_frame Covers.refl .refl
  | .zonHold .. => execZonHold_frame Covers.refl .refl
  | .zonSchedWrite .. => execZonSchedWrite_frame Covers.refl .refl
  | .zonSchedDayStored .. => execZonSchedDayStored_frame Covers.refl .refl
  | .zonSchedRead .. => execZonSchedRead_frame Covers.refl .refl
  | .zonRemoteT .. => execZonRemoteT_frame Covers.refl .refl
  | .zonWindow .. => execZonWindow_frame Covers.refl .refl
  | .zonPresence .. => execZonPresence_frame Covers.refl .refl
  | .zonSave .. => execZonSave_frame Covers.refl .refl
  | .zonEvtRead .. => execZonEvtRead_frame Covers.refl .refl
  | .zonLoopReset .. => execZonLoopReset_frame Covers.refl .refl
  | .zonClockWrite .. => execZonClockWrite_frame Covers.refl .refl
  | .zonEnableWrite .. => execZonEnableWrite_frame Covers.refl .refl
  | .periodBoundary .. => execPeriodBoundary_frame Covers.refl .refl
  | .cutRequest .. => execCutRequest_frame Covers.refl .refl
  | .killRequest .. => execKillRequest_frame Covers.refl .refl
  | .cutLatchOff .. => execCutLatchOff_frame Covers.refl .refl
  | .gfltAssert .. => execGfltAssert_frame Covers.refl .refl
  | .pwmClockRestart => execPwmClockRestart_frame Covers.refl .refl
  | .delayLineCalDone .. => execDelayLineCalDone_frame Covers.refl .refl
  | .pwmGroupCtl .. => execPwmGroupCtl_frame Covers.refl .refl
  | .pwmLoadAll .. => execPwmLoadAll_frame Covers.refl .refl
  | .pwmSync .. => execPwmSync_frame Covers.refl .refl
  | .pwmClrLatch .. => execPwmClrLatch_frame Covers.refl .refl
  | .valveCycleStart .. => execValveCycleStart_frame Covers.refl .refl
  | .valveOnTimeEnd .. => execValveOnTimeEnd_frame Covers.refl .refl
  | .inrushEnd .. => execInrushEnd_frame Covers.refl .refl
  | .groupRecoveryStart .. => execGroupRecoveryStart_frame Covers.refl .refl
  | .groupRecoveryEnd .. => execGroupRecoveryEnd_frame Covers.refl .refl
  | .bridgeMoveEnd .. => execBridgeMoveEnd_frame Covers.refl .refl
  | .reversalCoastEnd .. => execReversalCoastEnd_frame Covers.refl .refl
  | .reversalNotAdmitted .. => execReversalNotAdmitted_frame Covers.refl .refl
  | .fanStall .. => execFanStall_frame Covers.refl .refl
  | .rampArrived .. => execRampArrived_frame Covers.refl .refl
  | .actValve .. => execActValve_frame Covers.refl .refl
  | .actBrMove .. => execActBrMove_frame Covers.refl .refl
  | .actBrClear .. => execActBrClear_frame Covers.refl .refl
  | .actFan .. => execActFan_frame Covers.refl .refl
  | .actRamp .. => execActRamp_frame Covers.refl .refl
  | .actAux .. => execActAux_frame Covers.refl .refl
  | .actSave .. => execActSave_frame Covers.refl .refl
  | .actKsWrite .. => execActKsWrite_frame Covers.refl .refl
  | .adcConversionEnd .. => execAdcConversionEnd_frame Covers.refl .refl
  | .adcCtlGo .. => execAdcCtlGo_frame Covers.refl .refl
  | .adcSinglePendingStart .. => execAdcSinglePendingStart_frame Covers.refl .refl
  | .adcSingleDone .. => execAdcSingleDone_frame Covers.refl .refl
  | .deviceDue .. => execDeviceDue_frame Covers.refl .refl
  | .transactionEnd .. => execTransactionEnd_frame Covers.refl .refl
  | .transactionTimeout .. => execTransactionTimeout_frame Covers.refl .refl
  | .deviceInvalid .. => execDeviceInvalid_frame Covers.refl .refl
  | .adcConvert .. => execAdcConvert_frame Covers.refl .refl
  | .adcSave .. => execAdcSave_frame Covers.refl .refl
  | .roundEnd .. => execRoundEnd_frame Covers.refl .refl
  | .safetyInputFilter .. => execSafetyInputFilter_frame Covers.refl .refl
  | .discrepant .. => execDiscrepant_frame Covers.refl .refl
  | .fbFault .. => execFbFault_frame Covers.refl .refl
  | .weld .. => execWeld_frame Covers.refl .refl
  | .proofWindowOpen .. => execProofWindowOpen_frame Covers.refl .refl
  | .proofDeadline .. => execProofDeadline_frame Covers.refl .refl
  | .proofTestEnd .. => execProofTestEnd_frame Covers.refl .refl
  | .sltTrip => execSltTrip_frame Covers.refl .refl
  | .sltRelease => execSltRelease_frame Covers.refl .refl
  | .sltSens => execSltSens_frame Covers.refl .refl
  | .sdirRelease => execSdirRelease_frame Covers.refl .refl
  | .slpFault => execSlpFault_frame Covers.refl .refl
  | .frostDemandOn => execFrostDemandOn_frame Covers.refl .refl
  | .frostDemandOff => execFrostDemandOff_frame Covers.refl .refl
  | .clkFault => execClkFault_frame Covers.refl .refl
  | .laneFault => execLaneFault_frame Covers.refl .refl
  | .heartbeatResponse .. => execHeartbeatResponse_frame Covers.refl .refl
  | .heartbeatLapse => execHeartbeatLapse_frame Covers.refl .refl
  | .rearmWindowEnd => execRearmWindowEnd_frame Covers.refl .refl
  | .armed => execArmed_frame Covers.refl .refl
  | .stagedBlockExpire => execStagedBlockExpire_frame Covers.refl .refl
  | .padCommitActivate => execPadCommitActivate_frame Covers.refl .refl
  | .padStage .. => execPadStage_frame Covers.refl .refl
  | .padCommit .. => execPadCommit_frame Covers.refl .refl
  | .padCancel .. => execPadCancel_frame Covers.refl .refl
  | .padProof .. => execPadProof_frame Covers.refl .refl
  | .padRestart .. => execPadRestart_frame Covers.refl .refl
  | .busFrameEnd .. => execBusFrameEnd_frame Covers.refl .refl
  | .busRxOverflow _ data => execBusRxOverflow_frame (x2 := data) Covers.refl .refl
  | .modbusClientTimeout .. => execModbusClientTimeout_frame Covers.refl .refl
  | .replyPostponed .. => execReplyPostponed_frame Covers.refl .refl
  | .mstpTokenLost .. => execMstpTokenLost_frame Covers.refl .refl
  | .busPartialFrameDiscard .. => execBusPartialFrameDiscard_frame Covers.refl .refl
  | .busTxDone .. => execBusTxDone_frame Covers.refl .refl
  | .golposenSend .. => execGolposenSend_frame Covers.refl .refl
  | .golposenWatchdog .. => execGolposenWatchdog_frame Covers.refl .refl
  | .busPortCtl .. => execBusPortCtl_frame Covers.refl .refl
  | .busTx .. => execBusTx_frame Covers.refl .refl
  | .busGpRestart .. => execBusGpRestart_frame Covers.refl .refl
  | .busGpPdu .. => execBusGpPdu_frame Covers.refl .refl
  | .busSave .. => execBusSave_frame Covers.refl .refl
  | .hayloftPhaseEnd .. => execHayloftPhaseEnd_frame Covers.refl .refl
  | .hayloftWriteEnd => execHayloftWriteEnd_frame Covers.refl .refl
  | .logHoldExpire .. => execLogHoldExpire_frame Covers.refl .refl
  | .overflow .. => execOverflow_frame Covers.refl .refl
  | .hayRead .. => execHayRead_frame Covers.refl .refl
  | .hayWrite .. => execHayWrite_frame Covers.refl .refl
  | .hayLogRead .. => execHayLogRead_frame Covers.refl .refl
  | .hayLogAppend .. => execHayLogAppend_frame Covers.refl .refl
  | .hayLogFlush .. => execHayLogFlush_frame Covers.refl .refl
  | .hayOdInc .. => execHayOdInc_frame Covers.refl .refl
  | .stallWindowClose => execStallWindowClose_frame Covers.refl .refl
  | .nop .. => execNop_frame Covers.refl .refl
  | .setr .. => execSetr_frame Covers.refl .refl
  | .addr .. => execAddr_frame Covers.refl .refl
  | .tload .. => execTload_frame Covers.refl .refl
  | .mact .. => execMact_frame Covers.refl .refl
  | .act .. => execAct_frame Covers.refl .refl
  | .pool .. => execPool_frame Covers.refl .refl
  | .store .. => execStore_frame Covers.refl .refl
  | .radv .. => execRadv_frame Covers.refl .refl
  | .rwait .. => execRwait_frame Covers.refl .refl
  | .nsend .. => execNsend_frame Covers.refl .refl
  | .loop .. => execLoop_frame Covers.refl .refl
  | .waitt .. => execWaitt_frame Covers.refl .refl
  | .move .. => execMove_frame Covers.refl .refl
  | .jump .. => execJump_frame Covers.refl .refl
  | .opEnd .. => execOpEnd_frame Covers.refl .refl
  | .narrowAccess .. => execNarrowAccess_frame Covers.refl .refl
  | .scrub .. => execScrub_frame Covers.refl .refl
  | .rowRepairCopy .. => execRowRepairCopy_frame Covers.refl .refl
  | .stbAuditWrite .. => execStbAuditWrite_frame Covers.refl .refl
  | .stbCacheWrite .. => execStbCacheWrite_frame Covers.refl .refl
  | .cacheSwitch => execCacheSwitch_frame Covers.refl .refl
  | .stbLoadBegin .. => execStbLoadBegin_frame Covers.refl .refl
  | .stbLoadData .. => execStbLoadData_frame Covers.refl .refl
  | .stbLoadEnd .. => execStbLoadEnd_frame Covers.refl .refl
  | .stbTaskStart .. => execStbTaskStart_frame Covers.refl .refl
  | .stbTaskStop .. => execStbTaskStop_frame Covers.refl .refl
  | .stbFeed .. => execStbFeed_frame Covers.refl .refl
  | .panelLapEdge => execPanelLapEdge_frame Covers.refl .refl
  | .panelPowerOnStep .. => execPanelPowerOnStep_frame Covers.refl .refl
  | .orderlyOff => execOrderlyOff_frame Covers.refl .refl
  | .abruptOff => execAbruptOff_frame Covers.refl .refl
  | .powerGoodLow => execPowerGoodLow_frame Covers.refl .refl
  | .vsrcFail => execVsrcFail_frame Covers.refl .refl
  | .dischargeEnd => execDischargeEnd_frame Covers.refl .refl
  | .dspPower .. => execDspPower_frame Covers.refl .refl
  | .dspWrite .. => execDspWrite_frame Covers.refl .refl
  | .dspFill .. => execDspFill_frame Covers.refl .refl
  | .dspPresent .. => execDspPresent_frame Covers.refl .refl
  | .dspLwWrite .. => execDspLwWrite_frame Covers.refl .refl
  | .dspMode .. => execDspMode_frame Covers.refl .refl
  | .dspGammaWrite .. => execDspGammaWrite_frame Covers.refl .refl
  | .segmentSwap => execSegmentSwap_frame Covers.refl .refl
  | .vlcdLow => execVlcdLow_frame Covers.refl .refl
  | .altPattern => execAltPattern_frame Covers.refl .refl
  | .lossTStop => execLossTStop_frame Covers.refl .refl
  | .segmentRestart => execSegmentRestart_frame Covers.refl .refl
  | .segCfgWrite .. => execSegCfgWrite_frame Covers.refl .refl
  | .segWrite .. => execSegWrite_frame Covers.refl .refl
  | .segShow .. => execSegShow_frame Covers.refl .refl
  | .graceExpire => execGraceExpire_frame Covers.refl .refl
  | .riseAlarm => execRiseAlarm_frame Covers.refl .refl
  | .riseActEnd => execRiseActEnd_frame Covers.refl .refl
  | .levelFall => execLevelFall_frame Covers.refl .refl
  | .levelTakesEffect => execLevelTakesEffect_frame Covers.refl .refl
  | .thermStop => execThermStop_frame Covers.refl .refl
  | .cutSensorTrip => execCutSensorTrip_frame Covers.refl .refl
  | .cutSensorRelease => execCutSensorRelease_frame Covers.refl .refl
  | .thmFloor .. => execThmFloor_frame Covers.refl .refl
  | .secHello .. => execSecHello_frame Covers.refl .refl
  | .secAuth .. => execSecAuth_frame Covers.refl .refl
  | .handshakeLapse .. => execHandshakeLapse_frame Covers.refl .refl
  | .lockoutEnd .. => execLockoutEnd_frame Covers.refl .refl
  | .secPairOpen .. => execSecPairOpen_frame Covers.refl .refl
  | .secPairStart .. => execSecPairStart_frame Covers.refl .refl
  | .secPairConfirm .. => execSecPairConfirm_frame Covers.refl .refl
  | .pairingWindowEnd => execPairingWindowEnd_frame Covers.refl .refl
  | .secKeyPut .. => execSecKeyPut_frame Covers.refl .refl
  | .secKeyGen .. => execSecKeyGen_frame Covers.refl .refl
  | .secKeyDelete .. => execSecKeyDelete_frame Covers.refl .refl
  | .secCryptSeal .. => execSecCryptSeal_frame Covers.refl .refl
  | .secCryptOpen .. => execSecCryptOpen_frame Covers.refl .refl
  | .secLifecycleProvision .. => execSecLifecycleProvision_frame Covers.refl .refl
  | .secLifecycleField .. => execSecLifecycleField_frame Covers.refl .refl
  | .secLifecycleReturn .. => execSecLifecycleReturn_frame Covers.refl .refl
  | .fuseBurnEnd => execFuseBurnEnd_frame Covers.refl .refl
  | .secUpdateBegin .. => execSecUpdateBegin_frame Covers.refl .refl
  | .secUpdateData .. => execSecUpdateData_frame Covers.refl .refl
  | .secUpdateEnd .. => execSecUpdateEnd_frame Covers.refl .refl
  | .secUpdateConfirm .. => execSecUpdateConfirm_frame Covers.refl .refl
  | .secUpdateAbort .. => execSecUpdateAbort_frame Covers.refl .refl
  | .secRandom .. => execSecRandom_frame Covers.refl .refl
  | .trialExpire => execTrialExpire_frame Covers.refl .refl
  | .drbgReseed => execDrbgReseed_frame Covers.refl .refl
  | .entropyFail => execEntropyFail_frame Covers.refl .refl
  | .hubFaultReset => execHubFaultReset_frame Covers.refl .refl
  | .subsysUnitReset .. => execSubsysUnitReset_frame Covers.refl .refl
  | .recoveryEnd .. => execRecoveryEnd_frame Covers.refl .refl
  | .coreWatchdog .. => execCoreWatchdog_frame Covers.refl .refl
  | .streakClear => execStreakClear_frame Covers.refl .refl
  | .limpHoldExpire => execLimpHoldExpire_frame Covers.refl .refl
  | .clrLatch .. => execClrLatch_frame Covers.refl .refl
  | .limpEnter .. => execLimpEnter_frame Covers.refl .refl
  | .limpExit .. => execLimpExit_frame Covers.refl .refl
  | .tapReset => execTapReset_frame Covers.refl .refl
  | .extest .. => execExtest_frame Covers.refl .refl
  | .samplePreload .. => execSamplePreload_frame Covers.refl .refl
  | .idcode => execIdcode_frame Covers.refl .refl
  | .highz => execHighz_frame Covers.refl .refl
  | .clamp => execClamp_frame Covers.refl .refl
  | .bypass => execBypass_frame Covers.refl .refl
  | .dbgStatus => execDbgStatus_frame Covers.refl .refl
  | .dbgChal .. => execDbgChal_frame Covers.refl .refl
  | .dbgResp .. => execDbgResp_frame Covers.refl .refl
  | .debugResponseJudged => execDebugResponseJudged_frame Covers.refl .refl
  | .halt .. => execHalt_frame Covers.refl .refl
  | .coreHalt .. => execCoreHalt_frame Covers.refl .refl
  | .resume .. => execResume_frame Covers.refl .refl
  | .coreResume .. => execCoreResume_frame Covers.refl .refl
  | .dbgReset => execDbgReset_frame Covers.refl .refl
  | .relock => execRelock_frame Covers.refl .refl
  | .flush => execFlush_frame Covers.refl .refl
  | .dbgMemRead .. => execDbgMemRead_frame Covers.refl .refl
  | .dbgMemWrite .. => execDbgMemWrite_frame Covers.refl .refl
  | .dbgSpokePush .. => execDbgSpokePush_frame Covers.refl .refl
  | .dbgSpokePop => execDbgSpokePop_frame Covers.refl .refl
  | .dbgReadMode .. => execDbgReadMode_frame Covers.refl .refl
  | .vddPadLoss => execVddPadLoss_frame Covers.refl .refl
  | .nvmWpChange .. => execNvmWpChange_frame Covers.refl .refl
  | .bootContinue => execBootContinue_frame Covers.refl .refl
  | .vlcdLowEnd => execVlcdLowEnd_frame Covers.refl .refl
  | .gfltRelease .. => execGfltRelease_frame Covers.refl .refl

/-- The invariant does not read the queue of waiting commands. -/
theorem State.Inv.withPending (h : s.Inv) : State.Inv { s with pending := q } :=
  ⟨h.regs, h.chans, h.faults, h.overruns, h.logs, h.zones, h.hayloft, h.flash, h.sram⟩

/-- Settles O5: a step idles on an empty queue, and otherwise runs one command, which keeps the invariant. -/
theorem stepKeepsInvariant : Obligations.StepKeepsInvariant := by
  unfold Obligations.StepKeepsInvariant
  intro s t hinv hstep
  unfold step at hstep
  split at hstep
  case h_1 =>
    obtain rfl : s = t := Host.Outcome.next.inj hstep
    exact hinv
  case h_2 c rest _ =>
    obtain ⟨m, u, hu, good⟩ := exec_good (State.Good.of_inv hinv.withPending) c
    obtain rfl : u = t := Host.Outcome.next.inj (hu.symm.trans hstep)
    exact good.inv

/-- Settles O4, by the frame of each row. -/
theorem everyCommandCompletes : Obligations.EveryCommandCompletes := fun c s => exec_frame c s

end Sys2Proof.Machine
end

section
/-!
PROOFS. What the byte strings of a payload stand for, and how a Spoke command that is Ready runs: it is refused by the first check
that fails, and its reply changes nothing but its channel (R6, 00_scope.md; R80, R82, R496, 03_spoke_packets.md).
-/

namespace Sys2Proof.Machine

/-! ### Little-endian bytes -/

@[simp] theorem le_length (n v : Nat) : (le n v).length = n := by
  induction n generalizing v with
  | zero => rfl
  | succ n ih => simp [le, ih]

/-- The n-byte form of a number keeps its lowest 8 * n bits. -/
theorem ofLe_le (n v : Nat) : ofLe (le n v) = v % 256 ^ n := by
  induction n generalizing v with
  | zero => simp [le, ofLe, Nat.mod_one]
  | succ n ih => simp [le, ofLe, ih, Nat.pow_succ', Nat.mod_mul]

theorem ofLe_le_of_lt {n v : Nat} (h : v < 2 ^ (8 * n)) : ofLe (le n v) = v := by
  rw [ofLe_le, Nat.mod_eq_of_lt]
  rwa [Nat.pow_mul] at h

/-- The ID at the front of a payload. -/
theorem u16_le_append {id : Nat} (h : id < 65536) (rest : Bytes) : u16 (le 2 id ++ rest) 0 = id := by
  unfold u16 sub
  rw [List.drop_zero, List.take_left' (le_length 2 id), ofLe_le_of_lt h]

theorem u16_le {id : Nat} (h : id < 65536) : u16 (le 2 id) 0 = id := by
  simpa using u16_le_append h []

/-! ### Checks, refusals and replies -/

section
variable {s u : State} {c : Cmd} {op status : Nat} {r : Ref} {l : List (Bool × Nat)} {k : State → State}

@[simp] theorem firstBad_pass (status : Nat) (l : List (Bool × Nat)) : firstBad ((false, status) :: l) = firstBad l := rfl

@[simp] theorem firstBad_fail (status : Nat) (l : List (Bool × Nat)) : firstBad ((true, status) :: l) = status := rfl

/-- A check that passes may be left out. -/
theorem checked_pass {bad : Bool} (h : bad = false) : u.checked r ((bad, status) :: l) k = u.checked r l k := by
  rw [h]; rfl

theorem checked_refused (h : firstBad l = status) (hne : status ≠ stOk) : u.checked r l k = u.finish r status := by
  unfold State.checked
  rw [if_neg (h ▸ hne), h]

/-- While no unit recovers, a final reply changes nothing but the channels (R80, R435). -/
theorem finish_frame_of_calm {extra : Bytes} (h : u.flt.recov = []) : State.Frame [.spoke] u (u.finish r status extra) := by
  have untouched : ¬ u.touchedBy r = true := by
    unfold State.touchedBy
    rw [h]
    exact Bool.false_ne_true
  unfold State.finish
  rw [if_neg untouched]
  exact frame_ite (State.Frame.refl.spoke (by decide)) (State.postFinal_frame (fun _ hp => hp) .refl)

theorem begin_frame_spoke : State.Frame [.spoke] s (s.begin c op).2 := State.begin_frame (fun _ hp => hp) .refl

theorem begin_calm (h : s.Ready c) : (s.begin c op).2.flt.recov = [] := h.calm

/-- A command whose checks fail is refused with the status of the first that fails, and nothing but its reply happens (R82). -/
theorem refuses_of_check {i : Instr} {f : State → Ref → Bytes → State} (h : s.Ready c) (row : exec i s = .next (s.command c op f))
    (checks : ∃ k, f (s.begin c op).2 (s.refOf c op) c.payload = (s.begin c op).2.checked (s.refOf c op) l k)
    (hbad : firstBad l = status) (hne : status ≠ stOk) : s.Refuses i c op status := by
  obtain ⟨k, hk⟩ := checks
  have runs : s.command c op f = (s.begin c op).2.finish (s.refOf c op) status := hk.trans (checked_refused hbad hne)
  rw [runs] at row
  exact ⟨_, row, finish_answers h rfl (begin_calm h), begin_frame_spoke.trans (finish_frame_of_calm (begin_calm h))⟩

end

/-! ### Starting a command: what it leaves alone -/

variable (s : State) (k : Nat) (f : Channel → Channel)

@[simp] theorem State.modChan_sample (id : Nat) : (s.modChan k f).sample id = s.sample id := rfl

theorem begin_sample (c : Cmd) (op id : Nat) : (s.begin c op).2.sample id = s.sample id := s.modChan_sample _ _ id

theorem begin_modified (c : Cmd) (op id mask v : Nat) : (s.begin c op).2.modified id mask v = s.modified id mask v := by
  unfold State.modified
  rw [begin_sample]

/-- Starting a command leaves every channel's binding as it is. -/
theorem begin_bind (c : Cmd) (op ch : Nat) : ((s.begin c op).2.chan ch).bind = (s.chan ch).bind := by
  unfold State.begin
  rw [State.modChan_chan]
  split
  · rename_i h
    rw [h]
  · rfl

theorem begin_ownerPermits (c : Cmd) (op ch id v : Nat) : (s.begin c op).2.ownerPermits ch id v = s.ownerPermits ch id v := by
  have bus : (s.begin c op).2.busPermits ch id v = s.busPermits ch id v := by
    unfold State.busPermits
    rw [begin_bind]
    rfl
  have flt : (s.begin c op).2.fltPermits ch id v = s.fltPermits ch id v := by
    unfold State.fltPermits
    rw [begin_bind]
    rfl
  unfold State.ownerPermits
  rw [bus, flt]
  rfl

/-- The refusals of a write are the same when its command has started. -/
theorem begin_writeStatus (c : Cmd) (op ch id v : Nat) : (s.begin c op).2.writeStatus ch id v = s.writeStatus ch id v := by
  unfold State.writeStatus
  rw [begin_ownerPermits]
  rfl

/-- A command of channel 31 reads quietly unless the debugger's loud reads are on as it starts (R456, R461). -/
theorem begin_quietRead {s : State} {c : Cmd} {op : Nat} (h : s.Ready c) :
    (s.begin c op).2.quietRead (s.refOf c op) = (c.ch.val == 31 && !s.dbg.loud) := by
  have started : ((s.begin c op).2.chan c.ch).uses.any (fun u => u.tag == c.tag.val && u.loud) = s.dbg.loud := by
    have others : ((s.chan c.ch).uses.any fun u => u.tag == c.tag.val && u.loud) = false := by
      simpa using fun u hu ht => absurd ht (h.tag u hu)
    rw [begin_chan h, List.any_append, others]
    simp
  show (c.ch.val == 31 && !((s.begin c op).2.chan 31).uses.any (fun u => u.tag == c.tag.val && u.loud)) = _
  by_cases hch : c.ch.val = 31
  · rw [← hch, started]
  · rw [beq_false_of_ne hch, Bool.false_and, Bool.false_and]

end Sys2Proof.Machine
end

section
/-!
PROOFS. Reading attributes (R10, R12, R107, R456): what one read clears or advances, how reads run in order, and the three read
opcodes.
-/

namespace Sys2Proof.Machine

/-! ### What one read clears or advances -/

section
variable {s : State} {id : Nat}

/-- Clearing the fields of a list clears these, and no other field. -/
theorem each_clear_fields (id : Nat) (l : List FieldDesc) (s : State) :
    s.Fields (l.map fun d => (regKey id d.lo, 0)) (s.each l fun s d => s.wr (regKey id d.lo) 0) := by
  induction l generalizing s with
  | nil => exact State.Fields.refl
  | cons d rest ih =>
    intro j
    have zeros : ∀ m : List FieldDesc, mget? (m.map fun d => (regKey id d.lo, 0)) j = none ∨
        mget? (m.map fun d => (regKey id d.lo, 0)) j = some 0 := by
      intro m
      induction m with
      | nil => exact .inl rfl
      | cons e m ihm =>
        by_cases he : regKey id e.lo = j
        · simp [mget?, he]
        · simpa [mget?, he] using ihm
    have later := ih (s.wr (regKey id d.lo) 0) j
    rw [rd_wr] at later
    show (State.each (s.wr (regKey id d.lo) 0) rest _).rd j = _
    rw [later]
    by_cases hd : regKey id d.lo = j
    · rcases zeros rest with h | h <;> simp [mget?, hd, h]
    · simp [mget?, hd]

/-- Of the cadence block a read changes CAD_OVR alone: its first record goes (R13). -/
theorem readEffect_cad (s : State) (id : Nat) :
    (s.readEffect id).cad = { s.cad with ovr := if id = 0x0103 then s.cad.ovr.drop 1 else s.cad.ovr } := by
  unfold State.readEffect
  split
  · rfl
  · split
    · rfl
    · split
      · rfl
      · split
        · rfl
        · exact (State.each_frame (l := [.regs]) .refl fun _ _ ht => State.wr_frame (fun _ hp => hp) ht) .cad (by decide)

/-- The fields that a read changes: the index of a table entry advances, or the RC fields are cleared (R10, R13). -/
theorem readEffect_fields (s : State) (id : Nat) :
    s.Fields (if id = 0x0103 then [] else if id = 0x0107 then [(R.CAD_TBL_IDX_INDEX, (s.rd R.CAD_TBL_IDX_INDEX + 1) % 512)]
      else if id = 0x6008 then [(R.DSP_TILE_IDX_INDEX, (s.rd R.DSP_TILE_IDX_INDEX + 1) % 300)] else clearedByRead id)
      (s.readEffect id) := by
  unfold State.readEffect
  split
  · exact fun _ => rfl
  · split
    · exact State.Fields.refl.wr
    · split
      · exact State.Fields.refl.wr
      · unfold clearedByRead
        cases attrOf id with
        | none => exact State.Fields.refl
        | some a => exact each_clear_fields id _ s

theorem readEffect_frame (s : State) (id : Nat) : State.Frame [.regs, .cad] s (s.readEffect id) :=
  State.readEffect_frame (fun _ hp => hp) .refl

theorem readOne_frame (s : State) (quiet : Bool) (id : Nat) : State.Frame [.regs, .cad] s (s.readOne quiet id).2 :=
  State.readOne_frame (fun _ hp => hp) .refl

/-! ### Reads in order -/

/-- What a sequence of reads answers stands behind what was read before. -/
theorem foldl_readOne (quiet : Bool) (ids : List Nat) (b : Bytes) (s : State) :
    ids.foldl (fun (a : Bytes × State) id => (a.1 ++ attrHead id ++ (a.2.readOne quiet id).1, (a.2.readOne quiet id).2)) (b, s) =
      (b ++ (s.readMany quiet ids).1, (s.readMany quiet ids).2) := by
  unfold State.readMany
  induction ids generalizing b s with
  | nil => simp
  | cons id ids ih =>
    simp only [List.foldl_cons]
    rw [ih, ih ([] ++ _ ++ _)]
    simp

theorem readMany_cons (s : State) (quiet : Bool) (id : Nat) (ids : List Nat) :
    s.readMany quiet (id :: ids) = (attrHead id ++ (s.readOne quiet id).1 ++ ((s.readOne quiet id).2.readMany quiet ids).1,
      ((s.readOne quiet id).2.readMany quiet ids).2) := foldl_readOne quiet ids _ _

theorem readMany_frame (quiet : Bool) (ids : List Nat) (s : State) : State.Frame [.regs, .cad] s (s.readMany quiet ids).2 := by
  induction ids generalizing s with
  | nil => exact .refl
  | cons id ids ih =>
    rw [readMany_cons]
    exact (readOne_frame s quiet id).trans (ih _)

/-! ### A read of a state whose channels differ -/

theorem readEffect_modChan (k : Nat) (f : Channel → Channel) (s : State) (id : Nat) :
    (s.modChan k f).readEffect id = (s.readEffect id).modChan k f := by
  have clears : ∀ (l : List FieldDesc) (s : State), (s.modChan k f).each l (fun s d => s.wr (regKey id d.lo) 0) =
      (s.each l fun s d => s.wr (regKey id d.lo) 0).modChan k f := by
    intro l
    induction l with
    | nil => exact fun _ => rfl
    | cons d l ih => exact fun s => ih (s.wr (regKey id d.lo) 0)
  unfold State.readEffect
  split
  · rfl
  · split
    · rfl
    · split
      · rfl
      · split
        · rfl
        · exact clears _ s

theorem readOne_modChan (k : Nat) (f : Channel → Channel) (s : State) (quiet : Bool) (id : Nat) :
    (s.modChan k f).readOne quiet id = ((s.readOne quiet id).1, (s.readOne quiet id).2.modChan k f) := by
  cases quiet
  · exact congrArg (Prod.mk _) (readEffect_modChan k f s id)
  · rfl

/-- What the channels hold makes no difference to what reads answer, and reads leave it as it is. -/
theorem readMany_modChan (k : Nat) (f : Channel → Channel) (quiet : Bool) (ids : List Nat) (s : State) :
    (s.modChan k f).readMany quiet ids = ((s.readMany quiet ids).1, (s.readMany quiet ids).2.modChan k f) := by
  induction ids generalizing s with
  | nil => rfl
  | cons id ids ih => rw [readMany_cons, readOne_modChan, ih, readMany_cons]

/-- A command that has just started reads what the state it started from would have read. -/
theorem begin_readMany (s : State) (c : Cmd) (op : Nat) (quiet : Bool) (ids : List Nat) :
    ∃ f, (s.begin c op).2.readMany quiet ids = ((s.readMany quiet ids).1, (s.readMany quiet ids).2.modChan c.ch f) :=
  ⟨_, readMany_modChan _ _ quiet ids s⟩

end

/-! ### The read opcodes -/

section
variable {s u : State} {c : Cmd} {id op : Nat}

/-- The final reply of a command that has only read: the parts that reading changes, and the reply. -/
theorem reads_answer {extra : Bytes} (h : s.Ready c) (reads : State.Frame [.regs, .cad] (s.begin c op).2 u) :
    s.Answers c op stOk extra (u.ok (s.refOf c op) extra) ∧ State.Frame [.spoke] u (u.ok (s.refOf c op) extra) ∧
      s.Frame [.regs, .cad, .spoke] (u.ok (s.refOf c op) extra) := by
  have calm : u.flt.recov = [] := (congrArg Flt.recov (reads .flt (by decide))).trans (begin_calm h)
  have reply : State.Frame [.spoke] u (u.ok (s.refOf c op) extra) := finish_frame_of_calm calm
  exact ⟨ok_answers h (reads .spoke (by decide)) calm, reply, ((begin_frame_spoke.mono (Covers.refl.sub rfl)).trans
    (reads.mono (Covers.refl.sub rfl))).trans (reply.mono (Covers.refl.sub rfl))⟩

theorem exec_attrRead (h : s.Ready c) (hp : c.payload = le 2 id) (hid : id < 65536) (known : knownAttr id = true) :
    exec (.attrRead c) s = .next (((s.begin c 0x08).2.readOne (c.ch.val == 31 && !s.dbg.loud) id).2.ok (s.refOf c 0x08)
      (attrHead id ++ le (attrSize id) (s.sample id))) := by
  show Host.Outcome.next ((s.begin c 0x08).2.doAttrRead (s.refOf c 0x08) c.payload) = _
  unfold State.doAttrRead
  dsimp only
  rw [hp, u16_le hid, checked_ok (by simp [lengthIs, param, known, firstBad]), begin_quietRead h]
  rfl

/-- A payload of 1 to 32 whole IDs passes the length check of ATTR_READ_MULTI (R107). -/
theorem multiLength_ok {p : Bytes} (two : 2 ≤ p.length) (most : p.length ≤ 64) (even : p.length % 2 = 0) :
    decide (p.length = 0 ∨ 64 < p.length ∨ p.length % 2 = 1) = false := decide_eq_false (by omega)

theorem exec_attrReadMulti (h : s.Ready c) (two : 2 ≤ c.payload.length) (most : c.payload.length ≤ 64)
    (even : c.payload.length % 2 = 0) (known : (multiIds c.payload).all knownAttr = true) :
    exec (.attrReadMulti c) s = .next
      (((s.begin c 0x0A).2.readMany (c.ch.val == 31 && !s.dbg.loud) (multiIds c.payload)).2.ok (s.refOf c 0x0A)
        (s.readMany (c.ch.val == 31 && !s.dbg.loud) (multiIds c.payload)).1) := by
  have all_known : ((multiIds c.payload).any fun id => !knownAttr id) = false := by simpa using known
  obtain ⟨f, same⟩ := begin_readMany s c 0x0A (c.ch.val == 31 && !s.dbg.loud) (multiIds c.payload)
  show Host.Outcome.next ((s.begin c 0x0A).2.doAttrReadMulti (s.refOf c 0x0A) c.payload) = _
  unfold State.doAttrReadMulti
  rw [multiLength_ok two most even, all_known, checked_ok (by rfl)]
  dsimp only
  rw [begin_quietRead h, congrArg Prod.fst same]

/-- The flags of ATTR_INFO in one byte: bit 0 writable, bit 1 changed by a read (R107). -/
theorem infoFlags (writable clears : Nat) : le 1 (b2n (writable != 0) + 2 * b2n (clears != 0)) =
    [(if writable = 0 then 0 else 1) + (if clears = 0 then 0 else 2)] := by
  by_cases hw : writable = 0 <;> by_cases hc : clears = 0 <;> simp [le, b2n, hw, hc]

theorem exec_attrInfo (hp : c.payload = le 2 id) (hid : id < 65536) (known : knownAttr id = true) :
    exec (.attrInfo c) s = .next ((s.begin c 0x0C).2.ok (s.refOf c 0x0C) (attrHead id ++
      [(if accessMask id (fun a => decide (a = .rw ∨ a = .w1c ∨ a = .wo)) = 0 then 0 else 1) +
        (if accessMask id (fun a => decide (a = .rc ∨ a = .ra)) = 0 then 0 else 2)])) := by
  show Host.Outcome.next ((s.begin c 0x0C).2.doAttrInfo (s.refOf c 0x0C) c.payload) = _
  unfold State.doAttrInfo
  dsimp only
  rw [hp, u16_le hid, checked_ok (by simp [lengthIs, param, known, firstBad]), infoFlags]

/-! ### The checks of the read opcodes, in their order (R496) -/

theorem doAttrRead_checks (s : State) (r : Ref) (p : Bytes) :
    ∃ k, s.doAttrRead r p = s.checked r [lengthIs p 2, param (!knownAttr (u16 p 0))] k := by
  unfold State.doAttrRead
  exact ⟨_, rfl⟩

theorem doAttrReadMulti_checks (s : State) (r : Ref) (p : Bytes) :
    ∃ k, s.doAttrReadMulti r p = s.checked r [(decide (p.length = 0 ∨ 64 < p.length ∨ p.length % 2 = 1), stBadLength),
      param ((multiIds p).any fun id => !knownAttr id)] k := by
  unfold State.doAttrReadMulti
  exact ⟨_, rfl⟩

theorem doAttrInfo_checks (s : State) (r : Ref) (p : Bytes) :
    ∃ k, s.doAttrInfo r p = s.checked r [lengthIs p 2, param (!knownAttr (u16 p 0))] k := by
  unfold State.doAttrInfo
  exact ⟨_, rfl⟩

end

/-- Settles O32: what the read opcodes answer, how reads run in order, and the refusals by the first check that fails. -/
theorem attrReads : Obligations.AttrReads := by
  unfold Obligations.AttrReads
  refine ⟨?read, ?multi, ?order, ?info, ?unknown, ?multiUnknown, ?length⟩
  case read =>
    intro s c id h hp hid known
    have reads := readOne_frame (s.begin c 0x08).2 (c.ch.val == 31 && !s.dbg.loud) id
    obtain ⟨answers, reply, frame⟩ := reads_answer (extra := attrHead id ++ le (attrSize id) (s.sample id)) h reads
    refine ⟨_, exec_attrRead h hp hid known, answers, fun hch hloud => ?_, fun hloud => ?_⟩
    · rw [show (c.ch.val == 31 && !s.dbg.loud) = true by simp [hch, hloud]] at reply ⊢
      exact begin_frame_spoke.trans reply
    · have loud : (c.ch.val == 31 && !s.dbg.loud) = false := by
        rcases hloud with hch | hl
        · simp [hch]
        · simp [hl]
      rw [loud] at reply frame ⊢
      exact ⟨Eq.trans (reply .cad (by decide)) (readEffect_cad _ id),
        (readEffect_fields (s.begin c 0x08).2 id).of_regs (reply .regs (by decide)), frame⟩
  case multi =>
    intro s c h two most even known
    obtain ⟨f, same⟩ := begin_readMany s c 0x0A (c.ch.val == 31 && !s.dbg.loud) (multiIds c.payload)
    obtain ⟨answers, reply, frame⟩ := reads_answer (op := 0x0A) h (readMany_frame _ (multiIds c.payload) _)
    exact ⟨_, rfl, _, exec_attrReadMulti h two most even known, answers,
      Eq.trans (reply .regs (by decide)) (congrArg (fun r => r.2.regs) same),
      Eq.trans (reply .cad (by decide)) (congrArg (fun r => r.2.cad) same), frame⟩
  case order =>
    exact fun s quiet id ids => ⟨_, _, rfl, rfl, readMany_cons s quiet id ids⟩
  case info =>
    intro s c id h hp hid known
    exact ⟨_, exec_attrInfo hp hid known, ok_answers h rfl (begin_calm h),
      begin_frame_spoke.trans (finish_frame_of_calm (begin_calm h))⟩
  case unknown =>
    intro s c id h hp hid unknown
    have bad : firstBad [lengthIs c.payload 2, param (!knownAttr (u16 c.payload 0))] = stBadParam := by
      rw [hp, u16_le hid, unknown]
      rfl
    exact ⟨refuses_of_check h rfl (doAttrRead_checks _ _ _) bad (by decide),
      refuses_of_check h rfl (doAttrInfo_checks _ _ _) bad (by decide)⟩
  case multiUnknown =>
    intro s c h two most even unknown
    refine refuses_of_check h rfl (doAttrReadMulti_checks _ _ _) ?_ (by decide)
    have one : ((multiIds c.payload).any fun id => !knownAttr id) = true := by simpa using unknown
    rw [multiLength_ok two most even, one]
    rfl
  case length =>
    intro s c h wrong
    have bad (b : Bool) : firstBad [lengthIs c.payload 2, param b] = stBadLength := by simp [lengthIs, wrong]
    refine ⟨refuses_of_check h rfl (doAttrRead_checks _ _ _) (bad _) (by decide),
      refuses_of_check h rfl (doAttrInfo_checks _ _ _) (bad _) (by decide), fun odd => ?_⟩
    refine refuses_of_check h rfl (doAttrReadMulti_checks _ _ _) ?_ (by decide)
    rw [show decide (c.payload.length = 0 ∨ 64 < c.payload.length ∨ c.payload.length % 2 = 1) = true by simp [odd]]
    rfl

end Sys2Proof.Machine
end

section
/-!
PROOFS. Writing attributes (R7, R10, R107, R496): what a written value does to each field, which value ATTR_MODIFY writes, and the
two write opcodes with their refusals in order.
-/

namespace Sys2Proof.Machine

/-! ### The fields take a value -/

section
variable {s : State} {id v : Nat} {d : FieldDesc}

/-- What one field takes from a written value (R10). -/
def State.setField (id v : Nat) (s : State) (d : FieldDesc) : State :=
  match d.access with
  | .rw => s.wr (regKey id d.lo) (bits v d.lo d.width)
  | .w1c => s.wr (regKey id d.lo) (s.rd (regKey id d.lo) &&& ((2 ^ d.width - 1) ^^^ bits v d.lo d.width))
  | _ => s

/-- A write sets the fields of its map in turn; ACT_KS is staged instead (R41). -/
theorem setFields_eq {a : AttrDesc} (hid : id ≠ 0x2401) (ha : attrOf id = some a) :
    s.setFields id v = s.each a.fields (State.setField id v) := by
  unfold State.setFields
  rw [if_neg hid, ha]
  rfl

/-- Access by access: RW takes its bits, ones clear W1C, and any other field stays (R10). -/
theorem setField_rd_same : (State.setField id v s d).rd (regKey id d.lo) =
    if d.access = .rw then bits v d.lo d.width
    else if d.access = .w1c then s.rd (regKey id d.lo) &&& ((2 ^ d.width - 1) ^^^ bits v d.lo d.width)
    else s.rd (regKey id d.lo) := by
  unfold State.setField
  cases d.access <;> simp

theorem setField_rd_other {k : Nat} (h : k ≠ regKey id d.lo) : (State.setField id v s d).rd k = s.rd k := by
  unfold State.setField
  cases d.access <;> simp [State.wr_rd_other, h.symm]

theorem setField_frame : State.Frame [.regs] s (State.setField id v s d) := by
  unfold State.setField
  cases d.access
  case rw | w1c => exact State.wr_frame Covers.refl .refl
  all_goals exact .refl

theorem each_setField_frame (l : List FieldDesc) : State.Frame [.regs] s (s.each l (State.setField id v)) :=
  State.each_frame .refl fun _ _ ht => ht.trans setField_frame

theorem each_setField_rd_other {k : Nat} {l : List FieldDesc} (h : ∀ d ∈ l, k ≠ regKey id d.lo) :
    (s.each l (State.setField id v)).rd k = s.rd k := by
  induction l generalizing s with
  | nil => rfl
  | cons d rest ih =>
    exact (ih fun e he => h e (List.mem_cons_of_mem _ he)).trans (setField_rd_other (h d List.mem_cons_self))

theorem regKey_inj {a b : Nat} : regKey id a = regKey id b ↔ a = b := by
  unfold regKey
  omega

/-- Fields at different bits do not disturb each other: each is set from the state before the write. -/
theorem each_setField_rd_mem {l : List FieldDesc} (distinct : (l.map (·.lo)).Nodup) (hd : d ∈ l) :
    (s.each l (State.setField id v)).rd (regKey id d.lo) = (State.setField id v s d).rd (regKey id d.lo) := by
  induction l generalizing s with
  | nil => exact absurd hd List.not_mem_nil
  | cons e rest ih =>
    obtain ⟨fresh, distinct⟩ := List.nodup_cons.mp distinct
    rcases List.mem_cons.mp hd with rfl | hd
    · show ((State.setField id v s d).each rest (State.setField id v)).rd _ = _
      exact each_setField_rd_other fun e he heq => fresh (List.mem_map.mpr ⟨e, he, (regKey_inj.mp heq).symm⟩)
    · have apart : regKey id d.lo ≠ regKey id e.lo := fun heq => fresh (List.mem_map.mpr ⟨d, hd, regKey_inj.mp heq⟩)
      exact (ih distinct hd).trans (by rw [setField_rd_same, setField_rd_same, setField_rd_other apart])

end

/-! ### The value ATTR_MODIFY writes -/

/-- Masked bits come from the command, the other bits of RW fields stay, and every other bit is 0 (R107). -/
theorem modified_testBit (s : State) (id mask v i : Nat) : (s.modified id mask v).testBit i =
    if mask.testBit i then v.testBit i else (s.sample id).testBit i && (accessMask id fun a => decide (a = .rw)).testBit i := by
  unfold State.modified
  simp only [Nat.testBit_or, Nat.testBit_and, Nat.testBit_xor]
  cases mask.testBit i <;> simp

/-! ### The write opcodes -/

section
variable {s : State} {c : Cmd} {id : Nat} {r : Ref}

/-- What follows the ID of a payload. -/
theorem drop_le_append (id : Nat) (body : Bytes) : (le 2 id ++ body).drop 2 = body := List.drop_left' (le_length 2 id)

/-- The checks of ATTR_WRITE in the order of R496, for a payload that holds an ID. -/
theorem doAttrWrite_checks (s : State) (r : Ref) (hid : id < 65536) (body : Bytes) :
    s.doAttrWrite r (le 2 id ++ body) = s.checked r [param (!knownAttr id), (decide (body.length ≠ attrSize id), stBadLength),
      (s.writeStatus r.ch id (ofLe body) != stOk, s.writeStatus r.ch id (ofLe body))]
      fun s => (s.writeAttr id (ofLe body)).ok r := by
  unfold State.doAttrWrite
  dsimp only
  rw [u16_le_append hid, drop_le_append, checked_pass (decide_eq_false (by simp; omega))]
  simp

/-- The checks of ATTR_MODIFY in the order of R496, for a payload that holds an ID. -/
theorem doAttrModify_checks (s : State) (r : Ref) (hid : id < 65536) (body : Bytes) {n mask v : Nat} (hn : n = attrSize id)
    (hmask : mask = ofLe (body.take n)) (hv : v = s.modified id mask (ofLe ((body.drop n).take n))) :
    s.doAttrModify r (le 2 id ++ body) = s.checked r [param (!knownAttr id), (decide (body.length ≠ 2 * n), stBadLength),
      param (decide (mask &&& accessMask id (fun a => decide (a = .rw ∨ a = .wo)) ≠ mask)),
      (s.writeStatus r.ch id v != stOk, s.writeStatus r.ch id v)] fun s => (s.writeAttr id v).ok r := by
  subst hn hmask hv
  unfold State.doAttrModify sub
  dsimp only
  rw [u16_le_append hid, ← List.drop_drop, drop_le_append, checked_pass (decide_eq_false (by simp; omega))]
  simp

theorem exec_attrWrite {v : Nat} (hp : c.payload = le 2 id ++ le (attrSize id) v) (hid : id < 65536) (known : knownAttr id = true)
    (hv : v < 2 ^ (8 * attrSize id)) (taken : s.writeStatus c.ch id v = stOk) :
    exec (.attrWrite c) s = .next (((s.begin c 0x09).2.writeAttr id v).ok (s.refOf c 0x09)) := by
  show Host.Outcome.next ((s.begin c 0x09).2.doAttrWrite (s.refOf c 0x09) c.payload) = _
  have status : (s.begin c 0x09).2.writeStatus (s.refOf c 0x09).ch id v = stOk := (begin_writeStatus ..).trans taken
  rw [hp, doAttrWrite_checks _ _ hid, ofLe_le_of_lt hv, checked_ok]
  simp [param, known, status, firstBad]

/-- The mask and the value of an ATTR_MODIFY, as its payload gives them. -/
theorem modify_operands {n mask v : Nat} (hmask : mask < 2 ^ (8 * n)) (hv : v < 2 ^ (8 * n)) :
    ofLe ((le n mask ++ le n v).take n) = mask ∧ ofLe (((le n mask ++ le n v).drop n).take n) = v := by
  rw [List.take_left' (le_length n mask), List.drop_left' (le_length n mask), List.take_of_length_le (le_length n v).le]
  exact ⟨ofLe_le_of_lt hmask, ofLe_le_of_lt hv⟩

theorem exec_attrModify {mask v : Nat} (hp : c.payload = le 2 id ++ le (attrSize id) mask ++ le (attrSize id) v) (hid : id < 65536)
    (hmask : mask < 2 ^ (8 * attrSize id)) (hv : v < 2 ^ (8 * attrSize id)) (known : knownAttr id = true)
    (may : mask &&& accessMask id (fun a => decide (a = .rw ∨ a = .wo)) = mask)
    (taken : s.writeStatus c.ch id (s.modified id mask v) = stOk) :
    exec (.attrModify c) s = .next (((s.begin c 0x0B).2.writeAttr id (s.modified id mask v)).ok (s.refOf c 0x0B)) := by
  obtain ⟨maskBytes, valueBytes⟩ := modify_operands hmask hv
  have value : s.modified id mask v = (s.begin c 0x0B).2.modified id mask
      (ofLe (((le (attrSize id) mask ++ le (attrSize id) v).drop (attrSize id)).take (attrSize id))) := by
    rw [valueBytes, begin_modified]
  have status : (s.begin c 0x0B).2.writeStatus (s.refOf c 0x0B).ch id (s.modified id mask v) = stOk :=
    (begin_writeStatus ..).trans taken
  have size : decide ((le (attrSize id) mask ++ le (attrSize id) v).length ≠ 2 * attrSize id) = false := by simp [two_mul]
  have covered : decide (mask &&& accessMask id (fun a => decide (a = .rw ∨ a = .wo)) ≠ mask) = false :=
    decide_eq_false (not_not.mpr may)
  show Host.Outcome.next ((s.begin c 0x0B).2.doAttrModify (s.refOf c 0x0B) c.payload) = _
  rw [hp, List.append_assoc, doAttrModify_checks _ _ hid _ rfl maskBytes.symm value, known, size, covered, status,
    checked_ok (by rfl)]

end

/-- Settles O33, clause by clause: the value as a whole, field by field, the refusals by the first check that fails. -/
theorem attrWrites : Obligations.AttrWrites := by
  unfold Obligations.AttrWrites
  refine ⟨?write, ?fields, modified_testBit, ?modify, ?mask, fun _ _ _ _ => rfl, ?refused, ?unknown, ?length⟩
  case write =>
    intro s c id v _ hp hid known hv taken
    exact ⟨_, rfl, exec_attrWrite hp hid known hv taken⟩
  case fields =>
    intro s id v a hid ha distinct
    rw [setFields_eq hid ha]
    exact ⟨_, rfl, each_setField_frame _, fun d hd => (each_setField_rd_mem distinct hd).trans setField_rd_same,
      fun k hk => each_setField_rd_other hk⟩
  case modify =>
    intro s c id mask v _ hp hid hmask hv known may taken
    exact ⟨_, rfl, exec_attrModify hp hid hmask hv known may taken⟩
  case mask =>
    intro s c id mask v h hp hid hmask hv known mayNot
    rw [List.append_assoc] at hp
    refine refuses_of_check h rfl ⟨_, hp ▸ doAttrModify_checks _ _ hid _ rfl (modify_operands hmask hv).1.symm rfl⟩ ?_ (by decide)
    rw [known, decide_eq_true mayNot, decide_eq_false (by simp [two_mul])]
    rfl
  case refused =>
    intro s c id v h hp hid known hv refused
    have status : (s.begin c 0x09).2.writeStatus (s.refOf c 0x09).ch id (ofLe (le (attrSize id) v)) = s.writeStatus c.ch id v := by
      rw [ofLe_le_of_lt hv]
      exact begin_writeStatus ..
    refine refuses_of_check h rfl ⟨_, hp ▸ doAttrWrite_checks _ _ hid _⟩ ?_ refused
    rw [status]
    simp [param, known, refused, firstBad]
  case unknown =>
    intro s c id rest h hp hid unknown
    refine ⟨refuses_of_check h rfl ⟨_, hp ▸ doAttrWrite_checks _ _ hid rest⟩ ?_ (by decide),
      refuses_of_check h rfl ⟨_, hp ▸ doAttrModify_checks _ _ hid rest rfl rfl rfl⟩ ?_ (by decide)⟩ <;>
    simp [param, unknown]
  case length =>
    intro s c id rest h hp hid known
    refine ⟨fun wrong => refuses_of_check h rfl ⟨_, hp ▸ doAttrWrite_checks _ _ hid rest⟩ ?_ (by decide),
      fun wrong => refuses_of_check h rfl ⟨_, hp ▸ doAttrModify_checks _ _ hid rest rfl rfl rfl⟩ ?_ (by decide)⟩ <;>
    simp [param, known, wrong]

end Sys2Proof.Machine
end

section
/-!
PROOFS. The copies of the slot table and the slot that begins (R14, R18, R20 to R24, 01_cadence.md): what an entry reads, when its
GO bits fire, which runs it starts, and the order of work on a slot edge.
-/

namespace Sys2Proof.Machine

variable {s : State} {e core : Nat}

/-! ### What a fault leaves alone -/

/-- A field of a later block is another field. -/
theorem ne_of_block {r k b : Nat} (hr : b ≤ r / 1024) (h : k / 1024 < b) : r ≠ k := by
  rintro rfl
  omega

/-- Fields that no element of a list of writes names keep their values. -/
theorem wrs_rd_other {k : Nat} {l : List (Nat × Nat)} (h : ∀ w ∈ l, w.1 ≠ k) : (s.wrs l).rd k = s.rd k := by
  induction l generalizing s with
  | nil => rfl
  | cons w l ih =>
    obtain ⟨hw, hl⟩ := List.forall_mem_cons.mp h
    exact (ih hl).trans (State.wr_rd_other _ _ hw)

theorem latchFault_rd_other {k : Nat} (r : FaultRec) (h : k / 1024 < 0x7000) : (s.latchFault r).rd k = s.rd k := by
  have first : ∀ u : State, (u.wrs [(R.FLT_FIRST_RECORD, faultBits r), (R.FLT_FIRST_VALID, 1)]).rd k = u.rd k :=
    fun _ => wrs_rd_other (by simpa using ⟨ne_of_block (by decide) h, ne_of_block (by decide) h⟩)
  have high : ∀ u : State, (u.wrs [(R.FLT_HIGH_RECORD, faultBits r), (R.FLT_HIGH_VALID, 1)]).rd k = u.rd k :=
    fun _ => wrs_rd_other (by simpa using ⟨ne_of_block (by decide) h, ne_of_block (by decide) h⟩)
  unfold State.latchFault
  dsimp only
  split <;> split
  · rfl
  · exact high s
  · exact first s
  · exact (high _).trans (first s)

theorem enqueueFault_rd_other {k : Nat} (i : FaultItem) (h : k / 1024 < 0x7000) : (s.enqueueFault i).rd k = s.rd k := by
  have lost : (s.count R.FLT_STAT_LOST 0xFFFF 1).rd k = s.rd k := State.wr_rd_other _ _ (ne_of_block (by decide) h)
  unfold State.enqueueFault
  dsimp only
  split
  · rfl
  · split <;> exact lost

/-- A fault writes no field outside the fault chapter's blocks. -/
theorem fault_rd_other {k : Nat} (cls source code unit data attrib : Nat) (h : k / 1024 < 0x7000) :
    (s.fault cls source code unit data attrib).rd k = s.rd k := by
  unfold State.fault
  split
  · rfl
  · exact (enqueueFault_rd_other _ h).trans (latchFault_rd_other _ h)

/-- While the queue has room a fault joins its end (R427). -/
theorem fault_queue_of_room (cls source code unit data attrib : Nat) (live : s.pwr.held = false) (room : s.flt.queue.length < 16) :
    (s.fault cls source code unit data attrib).flt.queue =
      s.flt.queue ++ [⟨s.faultRec cls source code unit data, attrib⟩] := by
  have latched : ∀ r, (s.latchFault r).flt = s.flt :=
    fun _ => (State.latchFault_frame (l := [.regs]) (fun _ hp => hp) .refl) .flt (by decide)
  unfold State.fault State.enqueueFault
  rw [if_neg (by rw [live]; exact Bool.false_ne_true)]
  dsimp only
  rw [latched, if_pos room]

/-! ### The copies of the table (R18, R22) -/

theorem State.on_iff {k : Nat} : s.on k = true ↔ s.rd k = 1 := beq_iff_eq

theorem tableSwap_of_pend (h : s.rd R.CAD_STAT_SWAP_PEND = 1) :
    s.tableSwap = { s.wr R.CAD_STAT_SWAP_PEND 0 with cad := { s.cad with active := s.cad.shadow, shadow := s.cad.active } } :=
  if_pos (State.on_iff.mpr h)

theorem tableSwap_of_not_pend (h : s.rd R.CAD_STAT_SWAP_PEND ≠ 1) : s.tableSwap = s := if_neg (mt State.on_iff.mp h)

theorem tableReload_of_due (h : s.cad.reloadPend = true) : s.tableReload =
    { s.wr R.CAD_STAT_SWAP_PEND 1 with cad := { s.cad with shadow := s.tableSource, reloadPend := false } } := if_pos h

theorem tableReload_of_not_due (h : s.cad.reloadPend = false) : s.tableReload = s := if_neg (by rw [h]; exact Bool.false_ne_true)

/-- A reloaded copy waits for a swap, and the swap puts it in force. -/
theorem tableSwap_tableReload_active (h : s.cad.reloadPend = true) :
    s.tableReload.rd R.CAD_STAT_SWAP_PEND = 1 ∧ s.tableReload.tableSwap.cad.active = s.tableSource := by
  have pend : s.tableReload.rd R.CAD_STAT_SWAP_PEND = 1 := by
    rw [tableReload_of_due h]
    exact State.wr_rd_same s R.CAD_STAT_SWAP_PEND 1
  refine ⟨pend, ?_⟩
  rw [tableSwap_of_pend pend, tableReload_of_due h]

/-! ### Entries (R20, R22) -/

/-- A margin entry reads as 0, whatever the copy holds. -/
theorem entry_margin (t : SlotTable) {i : Nat} (h : i % 16 = 15) : t.entry i = 0 := if_pos (beq_iff_eq.mpr h)

theorem slotEntry_of_even (h : evenOnes (s.cad.active.entry (s.cad.now % 512)) = true) :
    s.slotEntry = (s.cad.active.entry (s.cad.now % 512), s) := if_pos h

theorem slotEntry_of_odd (h : evenOnes (s.cad.active.entry (s.cad.now % 512)) = false) : s.slotEntry =
    (0, { s.wr R.CAD_STAT_PAR_ERR 1 with cad := { s.cad with reloadPend := true } }.fault clDegrade 0x01 0 0 0) :=
  if_neg (by rw [h]; exact Bool.false_ne_true)

/-! ### GO bits (R20, R23) -/

theorem goFires_iff {lap : Nat} : goFires e lap = true ↔ bits e 26 2 = 0 ∨ bits e 26 2 = 1 ∧ lap < 48 ∨
    bits e 26 2 = 2 ∧ 48 ≤ lap ∨ bits e 26 2 = 3 ∧ lap = 48 := by
  have two : bits e 26 2 < 4 := Nat.mod_lt _ (by decide)
  unfold goFires
  generalize bits e 26 2 = g at two ⊢
  interval_cases g <;> simp

theorem goBits_zero (s : State) : s.goBits 0 = 0 := ite_self 0

theorem raiseGo_zero (s : State) (i : SlotIn) : s.raiseGo i 0 = s := by simp [State.raiseGo, bit]

/-! ### The runs that begin (R21, R24 step 3) -/

theorem dispatch_starts_iff {slot : Nat} : (continues e slot core || bits e (8 * core) 8 == 0) = false ↔
    bits e (8 * core) 8 ≠ 0 ∧ (bit e (24 + core) = false ∨ slot = 0 ∨ slot = 16) := by
  unfold continues
  cases bit e (24 + core) <;> simp [or_iff_not_imp_left, and_comm]

theorem dispatch_of_not_starts (h : (continues e s.slot core || bits e (8 * core) 8 == 0) = true) : s.dispatch e core = s := if_pos h

theorem setRun_run (s : State) (core : Nat) (r : Option Run) : (s.setRun core r).run core = r := by
  unfold State.setRun State.run
  split <;> rfl

/-- Noting that a core is watched in this tick leaves its run. -/
theorem watch_run (s : State) (core : Nat) :
    (if core = 0 then { s with cad.watch0 := true } else { s with cad.watch1 := true }).run core = s.run core := by
  split <;> rfl

theorem dispatch_run_of_starts (h : (continues e s.slot core || bits e (8 * core) 8 == 0) = false) :
    (s.dispatch e core).run core = some ⟨bits e (8 * core) 8, s.cad.now % 512, false, bit s.dbg.halted core⟩ := by
  unfold State.dispatch
  dsimp only
  rw [if_neg (by rw [h]; exact Bool.false_ne_true)]
  split
  · exact setRun_run ..
  · exact (watch_run ..).trans (setRun_run ..)

theorem dispatch_zero (s : State) (core : Nat) : s.dispatch 0 core = s := dispatch_of_not_starts (by simp [bits])

/-- A slot whose entry reads 0 and tells nothing begins with the halts a debugger has asked for, and nothing else. -/
theorem slotBegins_of_idle (i : SlotIn) (idle : s.slotEntry = (0, s)) (h1 : s.slot ≠ 1) (h2 : s.slot ≠ 2) :
    s.slotBegins i = (s.coreHalts 0).coreHalts 1 := by
  unfold State.slotBegins State.adcSlot
  rw [idle]
  dsimp only
  rw [if_neg h1, if_neg h2, goBits_zero, raiseGo_zero, dispatch_zero, dispatch_zero]

/-! ### The order of work on a slot edge (R24) -/

theorem whileWalking_of_walks (f : State → State) (walks : s.cad.walking = true) (live : s.pwr.held = false) :
    s.whileWalking f = f s := if_pos (by rw [walks, live]; rfl)

theorem whileWalking_of_stands (f : State → State) (h : s.cad.walking = false ∨ s.pwr.held = true) : s.whileWalking f = s :=
  if_neg (by rcases h with h | h <;> rw [h] <;> simp)

theorem uartSlot_cad (s : State) : s.uartSlot.cad = s.cad :=
  (State.uartSlot_frame (l := [.host, .spoke]) (Covers.refl.sub rfl) .refl) .cad (by decide)

/-- Settles O10: a swap and a reload, each as its case equation says. -/
theorem slotTableCopies : Obligations.SlotTableCopies := by
  unfold Obligations.SlotTableCopies
  refine ⟨fun s h => ?_, fun s h => congrArg Host.Outcome.next (tableSwap_of_not_pend h), fun s h => ?_,
    fun s h => congrArg Host.Outcome.next (tableReload_of_not_due h)⟩
  · exact ⟨_, congrArg Host.Outcome.next (tableSwap_of_pend h), rfl, State.Fields.refl.wr.of_regs rfl,
      (State.wr_frame (Covers.refl.sub rfl) .refl).cad (by decide)⟩
  · exact ⟨_, congrArg Host.Outcome.next (tableReload_of_due h), rfl, State.Fields.refl.wr.of_regs rfl,
      (State.wr_frame (Covers.refl.sub rfl) .refl).cad (by decide)⟩

/-- Settles O11: the entry of a margin slot is 0, of even parity, so the slot begins idle. -/
theorem marginSlots : Obligations.MarginSlots := by
  unfold Obligations.MarginSlots
  refine ⟨fun t i => entry_margin t, fun s i margin => ?_⟩
  have place : s.cad.now % 512 % 16 = 15 := by
    unfold State.slot at margin
    omega
  have zero := entry_margin s.cad.active place
  have idle : s.slotEntry = (0, s) := by
    rw [slotEntry_of_even (by rw [zero]; decide), zero]
  exact ⟨idle, goBits_zero s, slotBegins_of_idle i idle (by omega) (by omega)⟩

/-- Settles O12, clause by clause: the runs, an odd and an even entry, the reload that repairs the copy, and the GO bits. -/
theorem slotDispatch : Obligations.SlotDispatch := by
  unfold Obligations.SlotDispatch
  refine ⟨fun s e core _ => ?run, fun s odd => ?odd, fun s => slotEntry_of_even, fun s due => ?reload, fun s e => ?go⟩
  case run =>
    by_cases starts : bits e (8 * core) 8 ≠ 0 ∧ (bit e (24 + core) = false ∨ s.slot = 0 ∨ s.slot = 16)
    · rw [if_pos starts, dispatch_run_of_starts (dispatch_starts_iff.mpr starts)]
    · rw [if_neg starts, dispatch_of_not_starts (Bool.eq_true_of_not_eq_false (mt dispatch_starts_iff.mp starts))]
  case odd =>
    rw [slotEntry_of_odd odd]
    refine ⟨rfl, ?_, ?_, fun live room => ?_⟩
    · exact (fault_rd_other _ _ _ _ _ _ (by decide)).trans (State.wr_rd_same s R.CAD_STAT_PAR_ERR 1)
    · exact State.fault_cad ..
    · exact fault_queue_of_room _ _ _ _ _ _ live room
  case reload =>
    obtain ⟨pend, active⟩ := tableSwap_tableReload_active due
    exact ⟨_, _, rfl, pend, rfl, active⟩
  case go =>
    unfold State.goBits
    simp only [goFires_iff]

/-- Settles O13: the count from the law of the slot edge, the order from its definition in each mode. -/
theorem slotOrder : Obligations.SlotOrder := by
  unfold Obligations.SlotOrder
  refine ⟨fun s i hinv => ?count, fun s i stands => ?stands, fun s i walks live => ?walks, fun s i => ⟨_, _, rfl, rfl, rfl⟩⟩
  case count =>
    exact ⟨_, rfl, (State.slotEdge_moves (State.Good.of_inv hinv)).now⟩
  case stands =>
    refine ⟨_, rfl, congrArg Host.Outcome.next ?_⟩
    unfold State.slotEdge
    dsimp only
    rw [whileWalking_of_stands _ stands, uartSlot_cad]
  case walks =>
    refine ⟨_, rfl, congrArg Host.Outcome.next ?_⟩
    unfold State.slotEdge State.controllerEdge
    rw [whileWalking_of_walks _ walks live]

end Sys2Proof.Machine
end

section
/-!
PROOFS. Runs that complete and runs that overrun (R26 to R29, Table 1-7, Table 1-15, R431, 01_cadence.md): what JOB_COMMIT does, and
what the guard does for each class of job.
-/

namespace Sys2Proof.Machine

variable {s : State} {core job entry : Nat} {r : Run}

/-! ### A run that can complete -/

theorem runLive_of_run (hr : s.run core = some r) (hd : r.done = false) (hh : r.held = false) : s.runLive core = true := by
  unfold State.runLive
  rw [hr, Option.any_some, hd, hh]
  rfl

theorem jobCommit_of_run (slack : Nat) (hr : s.run core = some r) (hd : r.done = false) (hh : r.held = false) :
    s.jobCommit core slack = (s.jobWork core r.job).runDone core slack := by
  unfold State.jobCommit
  rw [if_pos (runLive_of_run hr hd hh), hr]

theorem jobCommit_of_not_live (slack : Nat) (h : s.runLive core = false) : s.jobCommit core slack = s :=
  if_neg (by rw [h]; exact Bool.false_ne_true)

/-- CAD_SVC, APP, CAD_END and the jobs that a patch adds have no work of their own. -/
theorem jobWork_of_idle_job (s : State) (core : Nat) (h : job ∈ [0x01, 0x14, 0x15] ∨ 0x16 < job) : s.jobWork core job = s := by
  unfold State.jobWork
  split
  case h_20 => rfl
  all_goals simp at h

/-! ### The run has completed (R26, R27, R431) -/

/-- The cadence block after a run has completed. -/
def Cad.runDone (c : Cad) (core : Nat) (r : Run) : Cad :=
  { c with
    run0 := if core = 0 then some { r with done := true } else c.run0
    run1 := if core = 0 then c.run1 else some { r with done := true }
    streak := mdel c.streak (jobKey core r.job)
    susp := mdel c.susp (jobKey core r.job)
    comp0 := if core = 0 then true else c.comp0
    comp1 := if core = 0 then c.comp1 else true }

theorem runDone_run {c : Cad} (h : s.cad = c.runDone core r) : s.run core = some { r with done := true } := by
  unfold State.run
  rw [h]
  by_cases first : core = 0 <;> simp [Cad.runDone, first]

/-- Whether CAD_SLACK takes the slack of a completed run: its job is of class CTL, and the slack is the smallest (Table 1-15). -/
abbrev State.slackTaken (s : State) (job slack : Nat) : Prop :=
  jobClass job = 0 ∧ (s.rd R.CAD_SLACK_VALID = 0 ∨ slack < s.rd R.CAD_SLACK_MIN)

/-- A completed run changes the cadence block, and then CAD_SLACK if it takes the slack. -/
theorem runDone_eq (slack : Nat) (hr : s.run core = some r) : ∃ u, u = { s with cad := s.cad.runDone core r } ∧
    s.runDone core slack = if s.slackTaken r.job slack then
      u.wrs [(R.CAD_SLACK_MIN, slack), (R.CAD_SLACK_JOB, r.job), (R.CAD_SLACK_VALID, 1)] else u := by
  refine ⟨_, rfl, ?_⟩
  unfold State.runDone
  rw [hr]
  cases core with
  | zero => rfl
  | succ _ => rfl

/-- Settles O14: the work of the job, then what its completion changes. -/
theorem jobCompletes : Obligations.JobCompletes := by
  unfold Obligations.JobCompletes
  refine ⟨fun s core slack r hr hd hh => congrArg Host.Outcome.next (jobCommit_of_run _ hr hd hh),
    fun s core slack r hr hd hh idle => ?_, fun s core slack h => congrArg Host.Outcome.next (jobCommit_of_not_live _ h)⟩
  obtain ⟨u, marked, done⟩ := runDone_eq slack hr
  have commit : s.jobCommit core slack = s.runDone core slack := by
    rw [jobCommit_of_run _ hr hd hh, jobWork_of_idle_job _ _ idle]
  have cad : (s.runDone core slack).cad = s.cad.runDone core r := by
    rw [done, marked]
    split <;> rfl
  have fields : s.Fields (if s.slackTaken r.job slack then
      [(R.CAD_SLACK_VALID, 1), (R.CAD_SLACK_JOB, r.job), (R.CAD_SLACK_MIN, slack.val)] else []) (s.runDone core slack) := by
    have start : s.Fields [] u := by
      rw [marked]
      exact fun _ => rfl
    rw [done]
    split
    · exact start.wrs
    · exact start
  have frame : s.Frame [.regs, .cad] (s.runDone core slack) := State.runDone_frame (fun _ hp => hp) .refl
  refine ⟨_, congrArg Host.Outcome.next commit, ?_, ?_, ?_, ?_, ?_, fields, frame⟩
  · exact runDone_run cad
  · rw [cad]
    exact (mget?_mdel ..).trans (if_pos rfl)
  · rw [cad]
    exact (mget?_mdel ..).trans (if_pos rfl)
  · rw [cad]
    fin_cases core <;> simp [Cad.runDone]
  · rw [cad]
    fin_cases core <;> simp [Cad.runDone]

end Sys2Proof.Machine
end

section
/-!
PROOFS. Overruns (R27 to R29, Table 1-7, 01_cadence.md): what the guard records of each, and its outcome by the class of the job.
-/

namespace Sys2Proof.Machine

variable {s : State} {core job entry : Nat}

/-! ### What an overrun tells (R28, Corners) -/

theorem overrunTold_fields (s : State) (core job entry : Nat) :
    s.Fields [(R.CAD_OVRCNT_COUNT, satAdd 0xFFFFFFFF (s.rd R.CAD_OVRCNT_COUNT) 1), (R.CAD_STAT_OVR, 1)]
      (s.overrunTold core job entry) := by
  have counted : s.Fields [(R.CAD_OVRCNT_COUNT, satAdd 0xFFFFFFFF (s.rd R.CAD_OVRCNT_COUNT) 1), (R.CAD_STAT_OVR, 1)]
      ((s.wr R.CAD_STAT_OVR 1).count R.CAD_OVRCNT_COUNT 0xFFFFFFFF 1) := by
    unfold State.count
    rw [State.wr_rd_other _ _ (by decide)]
    exact State.Fields.refl.wr.wr
  unfold State.overrunTold
  dsimp only
  split <;> exact counted.of_regs rfl

theorem overrunTold_ovr (s : State) (core job entry : Nat) : (s.overrunTold core job entry).cad.ovr =
    if s.cad.ovr.length < 8 then s.cad.ovr ++ [⟨job, core, entry, jobClass job, s.stage % 256⟩] else s.cad.ovr :=
  apply_ite (fun t : State => t.cad.ovr) ..

theorem overrunTold_frame (s : State) (core job entry : Nat) : s.Frame [.regs, .cad] (s.overrunTold core job entry) :=
  State.overrunTold_frame (fun _ hp => hp) .refl

/-! ### The outcome by class (Table 1-7) -/

/-- ADC_RES_u, ADC_WIN and STB_WIN have outcomes of their own; every other job has the outcome of its class. -/
theorem overrun_of_class (h : job ∉ [0x05, 0x06, 0xF0, 0xF1]) : s.overrun core job entry =
    if jobClass job = 0 then (s.overrunTold core job entry).ctlOverrun core job
    else if jobClass job = 1 ∨ jobClass job = 4 then (s.overrunTold core job entry).overrunFault clDegrade core job
    else if jobClass job = 3 then (s.overrunTold core job entry).dspOverrun core
    else (s.overrunTold core job entry).ioOverrun core job := by
  unfold State.overrun
  dsimp only
  split
  case h_5 => split <;> simp_all
  all_goals simp at h

/-- The jobs with outcomes of their own are of the classes SNS and INF. -/
theorem not_mem_of_class (h1 : jobClass job ≠ 1) (h4 : jobClass job ≠ 4) : job ∉ [0x05, 0x06, 0xF0, 0xF1] := by
  intro listed
  simp only [List.mem_cons, List.not_mem_nil, or_false] at listed
  rcases listed with rfl | rfl | rfl | rfl
  · exact h1 rfl
  · exact h1 rfl
  · exact h1 rfl
  · exact h4 rfl

theorem overrun_adcRes (h : job = 0x05 ∨ job = 0x06) : s.overrun core job entry =
    ((s.overrunTold core job entry).adcResLost (job - 0x05)).fault clDegrade 0x01 job core 0 1 := by
  rcases h with rfl | rfl <;> rfl

theorem overrun_degrade (unlisted : job ∉ [0x05, 0x06, 0xF0, 0xF1]) (h : jobClass job = 1 ∨ jobClass job = 4) :
    s.overrun core job entry = (s.overrunTold core job entry).fault clDegrade 0x01 job core 0 := by
  rw [overrun_of_class unlisted, if_neg (by omega), if_pos h]
  rfl

theorem overrun_suspends (h : jobClass job = 2 ∨ jobClass job = 5) :
    s.overrun core job entry = (s.overrunTold core job entry).ioOverrun core job := by
  rw [overrun_of_class (not_mem_of_class (by omega) (by omega)), if_neg (by omega), if_neg (by omega), if_neg (by omega)]

theorem overrun_ctl (h : jobClass job = 0) : s.overrun core job entry = (s.overrunTold core job entry).ctlOverrun core job := by
  rw [overrun_of_class (not_mem_of_class (by omega) (by omega)), if_pos h]

theorem overrun_dsp (h : jobClass job = 3) : s.overrun core job entry = (s.overrunTold core job entry).dspOverrun core := by
  rw [overrun_of_class (not_mem_of_class (by omega) (by omega)), if_neg (by omega), if_neg (by omega), if_pos h]

/-- A suspended run is counted up to 65; the 64th raises a NOTE. -/
theorem ioOverrun_eq (s : State) (core job : Nat) :
    ∃ v, v.cad = { s.cad with susp := mput 0 s.cad.susp (jobKey core job) (min 65 (mget 0 s.cad.susp (jobKey core job) + 1)) } ∧
      s.Frame [.cad] v ∧ s.ioOverrun core job =
        if mget 0 s.cad.susp (jobKey core job) = 63 then v.fault clNote 0x01 job core 0 else v := by
  refine ⟨_, rfl, State.Frame.refl.cad (by decide), ?_⟩
  have last : min 65 (mget 0 s.cad.susp (jobKey core job) + 1) = 64 ↔ mget 0 s.cad.susp (jobKey core job) = 63 := by omega
  unfold State.ioOverrun
  simp only [last]
  rfl

/-- A stopped CTL run is counted up to 2, and the third in a row is of class HUB (R29). -/
theorem ctlOverrun_eq (s : State) (core job : Nat) :
    ∃ v w, s.Frame [.cad] v ∧ w = (if job = 0x08 ∧ v.lap < 48 then v.zonSkip v.lap else v) ∧
      mget 0 v.cad.streak (jobKey core job) = (if mget 0 s.cad.streak (jobKey core job) = 2 then 0
        else mget 0 s.cad.streak (jobKey core job) + 1) ∧
      s.ctlOverrun core job =
        if mget 0 s.cad.streak (jobKey core job) = 2 then w.hubFault 0x01 job core 0 (some core) 0x5
        else w.fault (if job = 0x07 ∨ job = 0x08 then clZone else clPlant) 0x01 job core 0 := by
  have third : mget 0 s.cad.streak (jobKey core job) + 1 = 3 ↔ mget 0 s.cad.streak (jobKey core job) = 2 := by omega
  refine ⟨{ s with cad.streak := mput 0 s.cad.streak (jobKey core job) (if mget 0 s.cad.streak (jobKey core job) = 2 then 0
    else mget 0 s.cad.streak (jobKey core job) + 1) }, _, State.Frame.refl.cad (by decide), rfl, ?_, ?_⟩
  · exact (mget_mput ..).trans (if_pos rfl)
  · unfold State.ctlOverrun
    simp only [third]
    rfl

/-- A stopped DSP run makes its lap count once, and the first of the 16th counting lap in a row is of class DEGRADE. -/
theorem dspOverrun_eq (s : State) (core : Nat) :
    ∃ v, s.Frame [.cad, .dsp] v ∧ v.dsp = { s.dsp with stopped := true } ∧
      v.cad = { s.cad with
        dspLap := true
        dspLaps := if s.cad.dspLap = true then s.cad.dspLaps else if s.cad.dspLaps = 15 then 0 else s.cad.dspLaps + 1 } ∧
      s.dspOverrun core =
        if s.cad.dspLap = false ∧ s.cad.dspLaps = 15 then v.fault clDegrade 0x01 0x12 core 0 6 else v.fault clNote 0x01 0x12 core 0 := by
  have stops : State.Frame [.cad, .dsp] s { s with dsp := { s.dsp with stopped := true } } := State.Frame.refl.dsp (by decide)
  refine ⟨{ s with dsp := { s.dsp with stopped := true }, cad := { s.cad with
      dspLap := true
      dspLaps := if s.cad.dspLap = true then s.cad.dspLaps else if s.cad.dspLaps = 15 then 0 else s.cad.dspLaps + 1 } },
    stops.cad (by decide), rfl, rfl, ?_⟩
  unfold State.dspOverrun State.overrunFault
  by_cases counted : s.cad.dspLap = true
  · simp [counted]
  · by_cases last : s.cad.dspLaps = 15 <;> simp [counted, last]

/-! ### The guard's own rows (R27) -/

theorem coreFires_of_run {r : Run} (hr : s.run core = some r) (hd : r.done = false) (hh : r.held = false) :
    s.coreFires core = (s.setRun core none).overrun core r.job (s.cad.now % 512) := by
  unfold State.coreFires State.runEnd
  rw [if_pos (runLive_of_run hr hd hh), hr]
  simp [hd, hh]

theorem coreFires_of_not_live (h : s.runLive core = false) : s.coreFires core = s := if_neg (by rw [h]; exact Bool.false_ne_true)

/-- The sources 0 and 1 are the allotments of the two cores. -/
theorem exec_tickGuardFire_core {source : Fin 4} (h : source.val < 2) (s : State) :
    exec (.tickGuardFire source) s = .next (s.coreFires source) := by
  match source, h with
  | 0, _ => rfl
  | 1, _ => rfl

theorem guardAdc_of_late {e : Nat} (opened : s.cad.adcWin = some e) (late : s.winLate 0 = true ∨ s.winLate 1 = true) :
    s.guardAdc = ({ s with cad.adcWin := none }.each ([0, 1].filter s.winLate) State.winFire).overrun 0 0xF0 e := by
  have some_late : ([0, 1].filter s.winLate).isEmpty = false := by
    rcases late with h | h <;> simp [h]
  unfold State.guardAdc
  rw [opened]
  dsimp only
  rw [some_late]
  rfl

theorem guardStb_of_late {e last : Nat} (opened : s.cad.stbWin = some e) (late : s.stbLate = true) :
    s.guardStb last = { s with cad.stbWin := none }.overrun 0 0xF1 last := by
  unfold State.guardStb
  rw [opened]
  exact if_pos late

/-- Settles O15: the record of an overrun and its outcome class by class, then when each source of the guard fires. -/
theorem guardFires : Obligations.GuardFires := by
  unfold Obligations.GuardFires
  refine ⟨fun s core job entry => ⟨_, rfl, overrunTold_fields _ _ _ _, overrunTold_ovr _ _ _ _,
      overrunTold_frame _ _ _ _, overrun_adcRes, ?window, ?stall, overrun_degrade, ?io, ?ctl, ?dsp⟩,
    fun s source r core hr hd hh => ?fires, fun s source core h => ?idle, fun s e opened late => ?adc,
    fun s e opened late => ?stb, fun s h0 h1 => ?adcOnTime, fun s onTime => ?stbOnTime⟩
  case window =>
    rintro rfl
    rfl
  case stall =>
    rintro rfl
    rfl
  case io =>
    intro h
    rw [overrun_suspends h]
    exact ioOverrun_eq ..
  case ctl =>
    intro h
    rw [overrun_ctl h]
    exact ctlOverrun_eq ..
  case dsp =>
    intro h
    rw [overrun_dsp h]
    exact dspOverrun_eq ..
  case fires => rw [exec_tickGuardFire_core core, coreFires_of_run hr hd hh]
  case idle => rw [exec_tickGuardFire_core core, coreFires_of_not_live h]
  case adc =>
    refine congrArg Host.Outcome.next (Eq.trans (if_pos ?_) (guardAdc_of_late opened late))
    simpa using late
  case stb => exact congrArg Host.Outcome.next (Eq.trans (if_pos late) (guardStb_of_late opened late))
  case adcOnTime => exact congrArg Host.Outcome.next (if_neg (by simp [h0, h1]))
  case stbOnTime => exact congrArg Host.Outcome.next (if_neg (by simp [onTime]))

end Sys2Proof.Machine
end

section
/-!
PROOFS. The always-on domain's edges against the cadence (R15 to R17, R30, R33, R495, Corners, 01_cadence.md): the trim of a stage and
how it is spread over the ticks, the loss and return of the AON edges, and the sequencer watchdog.
-/

namespace Sys2Proof.Machine

variable {s : State}

/-! ### The trim of a stage edge (R15, R17) -/

/-- The trim that a stage edge stores while AON edges are present: DRIFT, clamped, and PHASE; N counts from then on. -/
def State.trimSet (s : State) (n : Nat) (p : Int) : State :=
  { s.wrs [(R.CAD_TRIM_DRIFT, unsigned 16 (clamp (-4096) 4096 (trim s.cad.nValid n p))), (R.CAD_TRIM_PHASE, unsigned 16 p)] with
    cad.nValid := true }

theorem trimSet_fields (s : State) (n : Nat) (p : Int) : s.Fields [(R.CAD_TRIM_PHASE, unsigned 16 p),
    (R.CAD_TRIM_DRIFT, unsigned 16 (clamp (-4096) 4096 (trim s.cad.nValid n p)))] (s.trimSet n p) :=
  State.Fields.refl.wr.wr.of_regs rfl

theorem trimSet_frame (s : State) (n : Nat) (p : Int) : s.Frame [.regs, .cad] (s.trimSet n p) :=
  (State.wrs_frame (Covers.refl.sub rfl) .refl).cad (by decide)

/-- Without AON edges D is 0. -/
theorem trimStage_of_lost (n : Nat) (p : Int) (h : s.rd R.CAD_STAT_AON_LOST = 1) : s.trimStage n p = s.wr R.CAD_TRIM_DRIFT 0 :=
  if_pos (State.on_iff.mpr h)

/-- With AON edges the trim is stored, and a clamp that acts is told. -/
theorem trimStage_of_present (n : Nat) (p : Int) (h : s.rd R.CAD_STAT_AON_LOST ≠ 1) : s.trimStage n p =
    if clamp (-4096) 4096 (trim s.cad.nValid n p) = trim s.cad.nValid n p then s.trimSet n p
    else ((s.trimSet n p).wr R.CAD_STAT_SKEW 1).fault clDegrade 0x01 0 0 0 := if_neg (mt State.on_iff.mp h)

/-- A thing that leaves the state as it is does so under any condition. -/
theorem whileWalking_of_fixed {f : State → State} (h : f s = s) : s.whileWalking f = s := by
  unfold State.whileWalking
  rw [h, ite_self]

theorem stageWork_of_taken {n : Nat} {p : Int} {e : Bool} {tach : List Nat} (h : s.cad.stageAt = some s.cad.now) :
    s.stageWork n p e tach = s := if_pos h

/-- A stage edge is taken once, and only while the hub walks its table. -/
theorem exec_stageEdge_of_due {n : Nat} {p : Int} {e : Bool} (walks : s.cad.walking = true) (live : s.pwr.held = false)
    (edge : s.cad.now % 32768 = 0) : exec (.stageEdge n p e) s = .next (s.stageWork n p e []) :=
  congrArg Host.Outcome.next ((whileWalking_of_walks _ walks live).trans (if_pos edge))

/-- Settles O16: the trim with and without AON edges, and a stage edge that is due or is not. -/
theorem stageTrim : Obligations.StageTrim := by
  unfold Obligations.StageTrim
  refine ⟨fun s n p present => ?present, fun s n p lost => ?lost, fun s n p e walks live edge fresh => ?due,
    fun s n p e h => ?notDue⟩
  case present =>
    have stage := trimStage_of_present n p present
    by_cases within : clamp (-4096) 4096 (trim s.cad.nValid n p) = trim s.cad.nValid n p
    · rw [if_pos within] at stage
      exact ⟨_, s.trimSet n p, rfl, rfl, trimSet_frame s n p, fun _ => ⟨stage, trimSet_fields s n p⟩,
        fun beyond => absurd within beyond⟩
    · rw [if_neg within] at stage
      exact ⟨_, (s.trimSet n p).wr R.CAD_STAT_SKEW 1, rfl, rfl, State.wr_frame (Covers.refl.sub rfl) (trimSet_frame s n p),
        fun inside => absurd inside within, fun _ => ⟨stage, (trimSet_fields s n p).wr⟩⟩
  case lost =>
    rw [trimStage_of_lost n p lost]
    exact State.Fields.refl.wr
  case due =>
    exact ⟨_, _, rfl, rfl, (exec_stageEdge_of_due walks live edge).trans (congrArg Host.Outcome.next (if_neg fresh))⟩
  case notDue =>
    rcases h with stands | held | between | taken
    · exact congrArg Host.Outcome.next (whileWalking_of_stands _ (.inl stands))
    · exact congrArg Host.Outcome.next (whileWalking_of_stands _ (.inr held))
    · exact congrArg Host.Outcome.next (whileWalking_of_fixed (if_neg between))
    · exact congrArg Host.Outcome.next (whileWalking_of_fixed (by simp [stageWork_of_taken taken]))

/-! ### The trim over the ticks of a stage (R16) -/

/-- The share of a stage's adjustments that falls before the end of a tick never falls. -/
theorem tickShare_le (a t : Nat) : t * a / 1024 ≤ (t + 1) * a / 1024 :=
  Nat.div_le_div_right (Nat.mul_le_mul_right _ (Nat.le_succ t))

/-- The steps of a tick: those by which the share of the stage up to its end exceeds the share up to its start. -/
theorem tickAdjust_natAbs (d : Int) (t : Nat) :
    (tickAdjust d t).natAbs = (t + 1) * d.natAbs / 1024 - t * d.natAbs / 1024 := by
  have rises := tickShare_le d.natAbs t
  unfold tickAdjust
  dsimp only
  split <;> omega

theorem tickAdjust_sign (d : Int) (t : Nat) : (0 ≤ d → 0 ≤ tickAdjust d t) ∧ (d ≤ 0 → tickAdjust d t ≤ 0) := by
  have rises := tickShare_le d.natAbs t
  unfold tickAdjust
  dsimp only
  refine ⟨fun h => ?_, fun h => ?_⟩
  · rw [if_neg (by omega)]
    omega
  · split
    · omega
    · obtain rfl : d = 0 := by omega
      simp

/-- A tick takes the whole part of |D| / 1,024 or one more. -/
theorem tickShare_step (a t : Nat) : (t + 1) * a / 1024 - t * a / 1024 = a / 1024 ∨ (t + 1) * a / 1024 - t * a / 1024 = a / 1024 + 1 := by
  rw [Nat.succ_mul]
  generalize t * a = b
  omega

/-- The adjustments of the first n ticks add up to the share of D that belongs to them. -/
theorem tickAdjust_sum (d : Int) (n : Nat) : ((List.range n).map (tickAdjust d)).sum =
    if d < 0 then -((n * d.natAbs / 1024 : Nat) : Int) else ((n * d.natAbs / 1024 : Nat) : Int) := by
  induction n with
  | zero => simp
  | succ n ih =>
    rw [List.range_succ, List.map_append, List.sum_append, ih]
    simp only [List.map_cons, List.map_nil, List.sum_singleton, tickAdjust]
    split <;> omega

/-- Settles O17: each tick is a difference of two floors, so the stage's sum telescopes. -/
theorem trimSpread : Obligations.TrimSpread := by
  unfold Obligations.TrimSpread
  refine ⟨fun d t => ⟨tickAdjust_natAbs d t, (tickAdjust_sign d t).1, (tickAdjust_sign d t).2, ?_⟩, fun d => ?_⟩
  · rw [tickAdjust_natAbs]
    exact tickShare_step d.natAbs t
  · rw [tickAdjust_sum]
    split <;> omega

/-! ### AON edges lost and found, and the sequencer watchdog (R30, R495, Corners) -/

/-- The state in which AON edges are absent, before their fault arrives. -/
def State.aonAbsent (s : State) : State := { s.wrs [(R.CAD_STAT_AON_LOST, 1), (R.CAD_TRIM_DRIFT, 0)] with cad.aonOn := false }

theorem aonLose_of_present (h : s.rd R.CAD_STAT_AON_LOST ≠ 1) : s.aonLose = s.aonAbsent.fault clDegrade 0x01 0 0 0 :=
  if_neg (mt State.on_iff.mp h)

theorem aonLose_of_lost (h : s.rd R.CAD_STAT_AON_LOST = 1) : s.aonLose = s := if_pos (State.on_iff.mpr h)

theorem aonReturn_of_lost (h : s.rd R.CAD_STAT_AON_LOST = 1) :
    s.aonReturn = { s.wr R.CAD_STAT_AON_LOST 0 with cad.aonOn := true, cad.nValid := false } := if_pos (State.on_iff.mpr h)

theorem aonReturn_of_present (h : s.rd R.CAD_STAT_AON_LOST ≠ 1) : s.aonReturn = s := if_neg (mt State.on_iff.mp h)

theorem sequencerWatchdog_of_held (h : s.pwr.held = true) : s.sequencerWatchdog = s := if_pos h

/-- A fault of class HUB with no core writes FLT_LAST and makes its reset due (R429). -/
theorem sequencerWatchdog_of_live (h : s.pwr.held = false) : s.sequencerWatchdog =
    { s.wrs [(R.FLT_LAST_PEND, 1), (R.FLT_LAST_CORE, 0), (R.FLT_LAST_CORE_VALID, 0), (R.FLT_LAST_DISCARDED, s.flt.queue.length),
        (R.FLT_LAST_RECORD, faultBits (s.faultRec 4 0x01 0 0 0))] with
      flt := { s.flt with
        hubDue := some (match s.flt.hubDue with | none => 4 | some c => if causeRank c ≤ causeRank 4 then c else 4)
        hubEdges := if s.flt.hubDue.isSome then s.flt.hubEdges else 2
        calm := 0
        byFault := true } } := by
  unfold State.sequencerWatchdog State.hubFault
  rw [if_neg (by rw [h]; exact Bool.false_ne_true)]
  rfl

/-- Settles O18, row by row: AON_LOST, AON_RESYNC and SEQUENCER_WATCHDOG, each with and without its condition. -/
theorem aonEdges : Obligations.AonEdges := by
  unfold Obligations.AonEdges
  refine ⟨fun s present => ?lost, fun s lost => congrArg Host.Outcome.next (aonLose_of_lost lost), fun s lost => ?resync,
    fun s present => congrArg Host.Outcome.next (aonReturn_of_present present),
    fun s held => congrArg Host.Outcome.next (sequencerWatchdog_of_held held), fun s live => ?watchdog⟩
  case lost =>
    exact ⟨_, congrArg Host.Outcome.next (aonLose_of_present present), State.Fields.refl.wr.wr.of_regs rfl, rfl,
      (State.wrs_frame (Covers.refl.sub rfl) .refl).cad (by decide)⟩
  case resync =>
    exact ⟨_, congrArg Host.Outcome.next (aonReturn_of_lost lost), State.Fields.refl.wr.of_regs rfl, rfl,
      (State.wr_frame (Covers.refl.sub rfl) .refl).cad (by decide)⟩
  case watchdog =>
    exact ⟨_, congrArg Host.Outcome.next (sequencerWatchdog_of_live live), State.Fields.refl.wr.wr.wr.wr.wr.of_regs rfl, rfl, rfl,
      rfl, rfl, (State.wrs_frame (Covers.refl.sub rfl) .refl).flt (by decide)⟩

end Sys2Proof.Machine
end

section
/-!
PROOFS. The count of slots that CAD_NOW shows, over every command (R33, R34, R38, R106, 01_cadence.md): a row that may change the
cadence block has its law of Laws/Good or Laws/Clock; any other row leaves the block as it is.
-/

namespace Sys2Proof.Machine

variable {q : List Instr} {m : Nat} {c : Instr} {s t : State}

/-- The count that a row's law gives is the count of the state it answers. -/
theorem now_of_good (run : exec c s = .next t) (law : State.GoodOut q m (exec c s)) : t.cad.now = m := by
  obtain ⟨u, hu, good⟩ := law
  obtain rfl : u = t := Host.Outcome.next.inj (hu.symm.trans run)
  exact good.now

/-- A row that cannot touch the cadence block leaves the count as it is. -/
theorem now_of_frame (run : exec c s = .next t) (untouched : (touches c).contains .cad = false) : t.cad.now = s.cad.now := by
  obtain ⟨u, hu, frame⟩ := exec_frame c s
  obtain rfl : u = t := Host.Outcome.next.inj (hu.symm.trans run)
  exact congrArg Cad.now (frame .cad (by simpa using untouched))

/-- Settles O9, row by row: five rows move the count, the rows that may change the cadence block otherwise keep it. -/
theorem slotCount : Obligations.SlotCount := by
  unfold Obligations.SlotCount
  intro c s t hinv run
  have good := State.Good.of_inv hinv
  cases c
  case slotEdge => exact now_of_good run (execSlotEdge_moves good)
  case aonPowerUp => exact now_of_good run (execAonPowerUp_moves good)
  case firstTick => exact now_of_good run (execFirstTick_moves good)
  case wake => exact now_of_good run (execWake_moves good)
  case fw2Resume => exact now_of_good run (execFw2Resume_moves good)
  case jobCommit => exact now_of_good run (execJobCommit_good good)
  case tickGuardFire => exact now_of_good run (execTickGuardFire_good good)
  case slotTableSwap => exact now_of_good run (execSlotTableSwap_good good)
  case slotTableReload => exact now_of_good run (execSlotTableReload_good good)
  case stageEdge => exact now_of_good run (execStageEdge_good good)
  case aonLost => exact now_of_good run (execAonLost_good good)
  case aonResync => exact now_of_good run (execAonResync_good good)
  case mainRailFall => exact now_of_good run (execMainRailFall_good good)
  case hubRstnQualified => exact now_of_good run (execHubRstnQualified_good good)
  case hubResetAssert => exact now_of_good run (execHubResetAssert_good good)
  case boot => exact now_of_good run (execBoot_good good)
  case pfEnd => exact now_of_good run (execPfEnd_good good)
  case freewheel1Entry => exact now_of_good run (execFreewheel1Entry_good good)
  case fw2ClockStop => exact now_of_good run (execFw2ClockStop_good good)
  case standbyEntry => exact now_of_good run (execStandbyEntry_good good)
  case hubResetStart => exact now_of_good run (execHubResetStart_good good)
  case attrRead => exact now_of_good run (execAttrRead_good good)
  case attrWrite => exact now_of_good run (execAttrWrite_good good)
  case attrReadMulti => exact now_of_good run (execAttrReadMulti_good good)
  case attrModify => exact now_of_good run (execAttrModify_good good)
  case levelTakesEffect => exact now_of_good run (execLevelTakesEffect_good good)
  case thermStop => exact now_of_good run (execThermStop_good good)
  case cutSensorTrip => exact now_of_good run (execCutSensorTrip_good good)
  case hubFaultReset => exact now_of_good run (execHubFaultReset_good good)
  case coreWatchdog => exact now_of_good run (execCoreWatchdog_good good)
  case limpHoldExpire => exact now_of_good run (execLimpHoldExpire_good good)
  case limpEnter => exact now_of_good run (execLimpEnter_good good)
  case limpExit => exact now_of_good run (execLimpExit_good good)
  case extest => exact now_of_good run (execExtest_good good)
  case samplePreload => exact now_of_good run (execSamplePreload_good good)
  case idcode => exact now_of_good run (execIdcode_good good)
  case highz => exact now_of_good run (execHighz_good good)
  case clamp => exact now_of_good run (execClamp_good good)
  case bypass => exact now_of_good run (execBypass_good good)
  case dbgStatus => exact now_of_good run (execDbgStatus_good good)
  case dbgChal => exact now_of_good run (execDbgChal_good good)
  case dbgResp => exact now_of_good run (execDbgResp_good good)
  case halt => exact now_of_good run (execHalt_good good)
  case coreHalt => exact now_of_good run (execCoreHalt_good good)
  case resume => exact now_of_good run (execResume_good good)
  case coreResume => exact now_of_good run (execCoreResume_good good)
  case dbgReset => exact now_of_good run (execDbgReset_good good)
  case relock => exact now_of_good run (execRelock_good good)
  case flush => exact now_of_good run (execFlush_good good)
  case dbgMemRead => exact now_of_good run (execDbgMemRead_good good)
  case dbgMemWrite => exact now_of_good run (execDbgMemWrite_good good)
  case dbgSpokePush => exact now_of_good run (execDbgSpokePush_good good)
  case dbgSpokePop => exact now_of_good run (execDbgSpokePop_good good)
  all_goals exact now_of_frame run rfl

end Sys2Proof.Machine
end

section
/-!
PROOFS. The hub reset (R38, R40, R44, R45, R105, Table 2-2, 02_power_reset.md): how its cause is latched and joined, and what the
controller domain holds once it is reset.
-/

namespace Sys2Proof.Machine

variable {s : State}

/-! ### The cause latch (R45) -/

theorem causeLatch_fields (cause : Nat) : s.Fields [(R.PWR_CAUSE_STAGE, s.stage % 2 ^ 32), (R.PWR_CAUSE_DIE, s.rd R.THM_STAT_HOT),
    (R.PWR_CAUSE_CAUSE, cause)] (s.causeLatch cause) := State.Fields.refl.wr.wr.wr

theorem causeLatch_frame_regs (cause : Nat) : s.Frame [.regs] (s.causeLatch cause) :=
  State.causeLatch_frame (Covers.refl.sub rfl) .refl

/-- Noting the last cause leaves DIE and STAGE as the new cause finds them. -/
theorem causeLatch_after_prev (cause : Nat) : (s.wr R.PWR_CAUSE_PREV (s.rd R.PWR_CAUSE_CAUSE)).causeLatch cause =
    s.wrs [(R.PWR_CAUSE_PREV, s.rd R.PWR_CAUSE_CAUSE), (R.PWR_CAUSE_CAUSE, cause), (R.PWR_CAUSE_DIE, s.rd R.THM_STAT_HOT),
      (R.PWR_CAUSE_STAGE, s.stage % 2 ^ 32)] := by
  unfold State.causeLatch
  rw [s.wr_rd_other _ (by decide)]
  rfl

/-- A cause that comes during a hub reset joins it. -/
theorem hubReset_of_inForce (cause : Nat) (held : s.pwr.held = true) (unbooted : s.pwr.booted = false) :
    s.hubReset cause = s.causeJoin cause := if_pos (by rw [held, unbooted]; rfl)

/-- With no hub reset in force a cause starts one. -/
theorem hubReset_of_notInForce (cause : Nat) (h : s.pwr.held = false ∨ s.pwr.booted = true) :
    s.hubReset cause = (s.wrs [(R.PWR_CAUSE_PREV, s.rd R.PWR_CAUSE_CAUSE), (R.PWR_CAUSE_CAUSE, cause),
      (R.PWR_CAUSE_DIE, s.rd R.THM_STAT_HOT), (R.PWR_CAUSE_STAGE, s.stage % 2 ^ 32)]).domainReset (cause == 3) := by
  rw [← causeLatch_after_prev]
  exact if_neg (by rcases h with h | h <;> simp [h])

/-! ### The stages of the domain's reset (R44, Table 2-2) -/

/-- The Kickstand force and the resets that come before the tack room's: Paddock lines, panels, Stable and thermal. -/
def State.outputsReset (s : State) : State :=
  ((((({ s with pwr.ksFault := s.pwr.ksFault || s.pwr.ks.bad }.forceOn 1).padDo Pad.rearmLine).dspReset).segReset).stbReset).thmReset

/-- The state whose own units are reset, before the shared storage and the register file are. -/
def State.unitsReset (s : State) (commanded : Bool) : State := ((s.outputsReset.secReset commanded).fltReset).cadReset

/-- The state before the registers outside the scope return to their Reset values. -/
def State.storesReset (s : State) (commanded : Bool) : State :=
  (((((s.unitsReset commanded).hayReset).spokeReset).zonReset).actReset).dbgClear.pwrReset

/-- After the stages the rest is the register file's: the fields kept, the recall that is due, and no image waiting. -/
theorem domainReset_eq (s : State) (commanded : Bool) : s.domainReset commanded =
    ({ s.storesReset commanded with
      pwm := {}, adc := {}, bus := {}, pad := { (s.storesReset commanded).pad with out := [], lossSeen := false }
      regs := (s.storesReset commanded).regs.filter fun e => keptAtReset e.1 }).wrs
        [(R.HAY_STAT_RECALL, 1), (R.PWR_KSTAT_PENDING, 0)] := rfl

/-- The outputs' reset does not reach the slot count, hayloft, the tack room or the debug port. -/
theorem outputsReset_frame (s : State) :
    s.Frame [.regs, .free, .pwr, .spoke, .act, .pad, .stb, .dsp, .seg, .thm, .flt] s.outputsReset :=
  State.thmReset_frame (Covers.refl.sub rfl) (State.stbReset_frame (Covers.refl.sub rfl) (State.segReset_frame (Covers.refl.sub rfl)
    (State.dspReset_frame (Covers.refl.sub rfl) (State.padDo_frame (Covers.refl.sub rfl) (State.forceOn_frame (Covers.refl.sub rfl)
      (State.Frame.refl.pwr (by decide)))))))

theorem unitsReset_hay (s : State) (commanded : Bool) : (s.unitsReset commanded).hay = s.hay :=
  (State.cadReset_frame (Covers.refl.sub rfl) (State.fltReset_frame (Covers.refl.sub rfl) (State.secReset_frame (Covers.refl.sub rfl)
    ((outputsReset_frame s).mono (l := [.regs, .free, .cad, .pwr, .spoke, .act, .pad, .stb, .dsp, .seg, .thm, .sec, .flt])
      (Covers.refl.sub rfl))))) .hay (by decide)

/-- The cadence block after a hub reset: the count of slots goes on, and no core has a run (R18). -/
theorem domainReset_cad (s : State) (commanded : Bool) : (s.domainReset commanded).cad =
    { now := s.cad.now, refOn := s.cad.refOn, aonOn := s.cad.aonOn, stageAt := s.cad.stageAt } := by
  have before : ((s.outputsReset.secReset commanded).fltReset).cad = s.cad :=
    (State.fltReset_frame (Covers.refl.sub rfl) (State.secReset_frame (Covers.refl.sub rfl)
      ((outputsReset_frame s).mono (l := [.regs, .free, .pwr, .spoke, .act, .pad, .stb, .dsp, .seg, .thm, .sec, .flt])
        (Covers.refl.sub rfl)))) .cad (by decide)
  rw [← before]
  rfl

theorem secReset_keeps (s : State) (commanded : Bool) :
    (s.secReset commanded).sec.flash = s.sec.flash ∧ (s.secReset commanded).sec.slots = s.sec.slots := ⟨rfl, rfl⟩

/-- The tack room keeps its boot flash and its key slots (R40, Table 2-2). -/
theorem domainReset_sec (s : State) (commanded : Bool) :
    (s.domainReset commanded).sec.flash = s.sec.flash ∧ (s.domainReset commanded).sec.slots = s.sec.slots := by
  have before : s.outputsReset.sec = s.sec := outputsReset_frame s .sec (by decide)
  have after : (s.domainReset commanded).sec = (s.outputsReset.secReset commanded).sec := rfl
  rw [after, ← before]
  exact secReset_keeps s.outputsReset commanded

/-- Hayloft keeps its contents and the write it has loaded (R40). -/
theorem domainReset_hay (s : State) (commanded : Bool) :
    (s.domainReset commanded).hay.mem = s.hay.mem ∧ (s.domainReset commanded).hay.cur = s.hay.cur := by
  rw [← unitsReset_hay s commanded]
  exact ⟨rfl, rfl⟩

/-- The supplies and the escrow: held, nothing asked, held or staged, and the force of the reset alone (R41, R44). -/
theorem domainReset_pwr (s : State) (commanded : Bool) : ∃ p : Pwr, (s.domainReset commanded).pwr = { p with
    held := true, booted := false, bootWait := false, pfTicks := 0, pfDue := false, quiet := false, pfSnap := [],
    pfGroups := 0, samples := [], wait := [], hold := [], pendMode := none, fwStep := 0, wakeDue := false, force := [1],
    ksStage := none } := ⟨((((((s.unitsReset commanded).hayReset).spokeReset).zonReset).actReset).dbgClear).pwr, rfl⟩

/-- No fault is queued and no recovery goes on (R436, R500). -/
theorem domainReset_flt (s : State) (commanded : Bool) :
    (s.domainReset commanded).flt = { byFault := (s.outputsReset.secReset commanded).flt.byFault } := rfl

theorem domainReset_halted (s : State) (commanded : Bool) : (s.domainReset commanded).dbg.halted = 0 := rfl

/-! ### Spoke (R105) -/

theorem mget?_map {β γ : Type} (f : β → γ) (m : Map β) (k : Nat) : mget? (m.map fun e => (e.1, f e.2)) k = (mget? m k).map f := by
  induction m with
  | nil => rfl
  | cons e m ih => by_cases h : e.1 = k <;> simp [mget?, h, ih]

/-- Every channel is closed and empty; only its session number tells that it was used. -/
theorem spokeReset_chan (s : State) (ch : Nat) : ∃ n, s.spokeReset.chan ch = { epoch := n } := by
  show ∃ n, mget {} (s.spoke.chans.map fun e => (e.1, ({ epoch := e.2.epoch + 1 } : Channel))) ch = _
  unfold mget
  rw [mget?_map fun c : Channel => ({ epoch := c.epoch + 1 } : Channel)]
  cases mget? s.spoke.chans ch with
  | none => exact ⟨0, rfl⟩
  | some c => exact ⟨c.epoch + 1, rfl⟩

theorem domainReset_chan (s : State) (commanded : Bool) (ch : Nat) : ∃ n, (s.domainReset commanded).chan ch = { epoch := n } := by
  have spoke : (s.domainReset commanded).spoke = ((s.unitsReset commanded).hayReset.spokeReset).spoke := rfl
  rw [chan_congr spoke]
  exact spokeReset_chan _ ch

/-! ### The fields that the reset itself writes -/

theorem domainReset_recall (s : State) (commanded : Bool) : (s.domainReset commanded).rd R.HAY_STAT_RECALL = 1 := by
  rw [domainReset_eq, State.wrs_cons, State.wrs_cons, State.wrs_nil, State.wr_rd_other _ _ (by decide), State.wr_rd_same]

theorem domainReset_pending (s : State) (commanded : Bool) : (s.domainReset commanded).rd R.PWR_KSTAT_PENDING = 0 := by
  rw [domainReset_eq, State.wrs_cons, State.wrs_cons, State.wrs_nil, State.wr_rd_same]

/-- Settles O20, clause by clause: the two rows, a cause that joins a reset in force, and a cause that starts one. -/
theorem hubResetScope : Obligations.HubResetScope := by
  unfold Obligations.HubResetScope
  refine ⟨fun s => rfl, fun s c used => congrArg Host.Outcome.next (if_pos used),
    fun s c unused => congrArg Host.Outcome.next (if_neg (Nat.not_le.mpr unused)), fun s c held unbooted => ?joins, fun s c h => ?starts⟩
  case joins =>
    rw [hubReset_of_inForce c held unbooted]
    unfold State.causeJoin
    split
    · exact ⟨causeLatch_fields c, causeLatch_frame_regs c⟩
    · rfl
  case starts =>
    refine ⟨_, _, rfl, rfl, hubReset_of_notInForce c h, ?_⟩
    generalize latched : s.wrs [(R.PWR_CAUSE_PREV, s.rd R.PWR_CAUSE_CAUSE), (R.PWR_CAUSE_CAUSE, c),
      (R.PWR_CAUSE_DIE, s.rd R.THM_STAT_HOT), (R.PWR_CAUSE_STAGE, s.stage % 2 ^ 32)] = u
    have same : s.Frame [.regs] u := latched ▸ State.wrs_frame (Covers.refl.sub rfl) .refl
    have cad : u.cad = s.cad := same .cad (by decide)
    have hay : u.hay = s.hay := same .hay (by decide)
    have sec : u.sec = s.sec := same .sec (by decide)
    obtain ⟨p, pwr⟩ := domainReset_pwr u (c == 3)
    obtain ⟨mem, cur⟩ := domainReset_hay u (c == 3)
    obtain ⟨flash, slots⟩ := domainReset_sec u (c == 3)
    rw [pwr, domainReset_cad, domainReset_flt, mem, cur, flash, slots, cad, hay, sec]
    refine ⟨fun k scope notRecall notPending => State.domainReset_rd scope (Ne.symm notRecall) (Ne.symm notPending), domainReset_recall u _,
      domainReset_pending u _, rfl, rfl, rfl, rfl, rfl, rfl, rfl, rfl, rfl, rfl, fun ch => ?_, rfl, rfl, rfl, rfl, rfl, rfl,
      domainReset_halted u _⟩
    obtain ⟨n, chan⟩ := domainReset_chan u (c == 3) ch
    rw [chan]
    exact ⟨rfl, rfl, rfl, rfl⟩

end Sys2Proof.Machine
end

section
/-!
PROOFS. The actuator commands (R41, R157, R166, R170, R173, R178, R179, R181, 06_actuator_channels.md): how a command enters its
queue, what ACT_CMD finds in it, what it does at the commit of ACT_UPD, ACT_SAVE, and the Kickstand image a write of ACT_KS stages.
-/

namespace Sys2Proof.Machine

/-! ### A command that waits: no reply, or ACCEPTED (R77, R80) -/

section
variable {s u : State} {c : Cmd} {op : Nat}

/-- The entry of a command that has just started. -/
def State.useOf (s : State) (c : Cmd) (op : Nat) : Use :=
  { tag := c.tag, op := op, payload := c.payload, started := true, loud := s.dbg.loud }

/-- A started command whose channels nothing else has changed holds its tag and has sent nothing. -/
theorem holds_of_begin (h : s.Ready c) (e : u.spoke = (s.begin c op).2.spoke) : s.Holds c op u := by
  have own := (chan_congr e c.ch).trans (begin_chan h)
  refine ⟨⟨?_, fun k hk => (chan_congr e k).trans (begin_chan_other hk)⟩, s.useOf c op, ?_, rfl, rfl⟩
  · rw [own, List.append_nil]
  · rw [own]
    rfl

theorem tagOut_of_unbound {ch : Nat} {p : Pkt} {x : Channel} (unbound : x.bind = none) : tagOut ch x p = (p, x) := by
  unfold tagOut
  rw [unbound]

/-- A shared entry is free, and the channel's frames are not authenticated: the packet joins the out queue as it is. -/
theorem postShared_of_room {ch : Nat} {p : Pkt} {x : Channel} (room : outCount x .shared < 15) (unbound : x.bind = none) :
    postShared ch true p x = { x with outq := x.outq ++ [p] } := by
  unfold postShared post
  rw [if_pos room, if_pos rfl, tagOut_of_unbound unbound]

/-- A started command that is accepted posts ACCEPTED and keeps its tag. -/
theorem accepts_of_begin (h : s.Ready c) (e : u.spoke = ((s.begin c op).2.accepted (s.refOf c op)).spoke) : s.Accepts c op u := by
  have started := begin_chan (op := op) h
  have live : ((s.begin c op).2.chan (s.refOf c op).ch).epoch = (s.refOf c op).epoch := by
    show ((s.begin c op).2.chan c.ch).epoch = _
    rw [started]
    rfl
  have posted : (s.begin c op).2.accepted (s.refOf c op) = (s.begin c op).2.modChan c.ch (postShared c.ch true (interimPkt c op)) :=
    if_pos live
  rw [posted] at e
  have own : u.chan c.ch = { s.chan c.ch with
      uses := (s.chan c.ch).uses ++ [s.useOf c op], outq := (s.chan c.ch).outq ++ [interimPkt c op] } := by
    rw [chan_congr e, State.modChan_chan, if_pos rfl, started]
    exact postShared_of_room h.shared h.bind
  have others : ∀ k, k ≠ c.ch.val → u.chan k = s.chan k := fun k hk => by
    rw [chan_congr e, State.modChan_chan, if_neg (Ne.symm hk), begin_chan_other hk]
  refine ⟨⟨?_, others⟩, s.useOf c op, ?_, rfl, rfl⟩ <;> rw [own]

end

/-! ### The command queues (R157) -/

section
variable {s : State} {c : Cmd} {op : Nat} {r : Ref} {p : Bytes}

theorem actPlace_of_full (h : 16 ≤ (mget [] s.act.queues (actQueue r.op)).length) : s.actPlace r p = s.finish r stQueueFull := if_pos h

theorem actPlace_of_room (h : (mget [] s.act.queues (actQueue r.op)).length < 16) : s.actPlace r p =
    { s with act.queues := mput [] s.act.queues (actQueue r.op) (mget [] s.act.queues (actQueue r.op) ++ [⟨r, p⟩]) } :=
  if_neg (Nat.not_le.mpr h)

/-- The rows of the actuator opcodes place their command, each in the queue of its opcode. -/
theorem exec_actuator {i : Instr} {k : Nat} (row : (i, op, k) ∈ [(Instr.actValve c, 0x28, 0), (.actBrMove c, 0x29, 1),
    (.actBrClear c, 0x2A, 1), (.actFan c, 0x2B, 2), (.actRamp c, 0x2C, 3), (.actAux c, 0x2D, 4)]) (s : State) :
    exec i s = .next (s.command c op State.actPlace) ∧ actQueue op = k := by
  simp only [List.mem_cons, Prod.mk.injEq, List.not_mem_nil, or_false] at row
  obtain ⟨rfl, rfl, rfl⟩ | ⟨rfl, rfl, rfl⟩ | ⟨rfl, rfl, rfl⟩ | ⟨rfl, rfl, rfl⟩ | ⟨rfl, rfl, rfl⟩ | ⟨rfl, rfl, rfl⟩ := row <;>
    exact ⟨rfl, rfl⟩

/-- With room in its queue a command waits there, and has no reply yet. -/
theorem place_of_room (h : s.Ready c) (room : (mget [] s.act.queues (actQueue op)).length < 16) :
    ∃ t, s.command c op State.actPlace = t ∧ s.Holds c op t ∧ t.act = { s.act with
      queues := mput [] s.act.queues (actQueue op) (mget [] s.act.queues (actQueue op) ++ [⟨s.refOf c op, c.payload⟩]) } ∧
      s.Frame [.spoke, .act] t := by
  have placed : s.command c op State.actPlace = _ := actPlace_of_room (s := (s.begin c op).2) (r := s.refOf c op) room
  exact ⟨_, placed, holds_of_begin h rfl, rfl, (begin_frame_spoke.mono (Covers.refl.sub rfl)).act (by decide)⟩

/-- A full queue answers QUEUE_FULL. -/
theorem place_of_full {i : Instr} (h : s.Ready c) (row : exec i s = .next (s.command c op State.actPlace))
    (full : 16 ≤ (mget [] s.act.queues (actQueue op)).length) : s.Refuses i c op stQueueFull := by
  have placed : s.command c op State.actPlace = _ := actPlace_of_full (s := (s.begin c op).2) (r := s.refOf c op) full
  rw [placed] at row
  exact ⟨_, row, finish_answers h rfl (begin_calm h), begin_frame_spoke.trans (finish_frame_of_calm (begin_calm h))⟩

end

/-! ### What ACT_CMD finds (R157, R181) -/

section
variable {s : State} {a : ActReq}

theorem actTake_of_bad (h : s.actCheck a.cmd.op a.payload ≠ stOk) : s.actTake a = s.finish a.cmd (s.actCheck a.cmd.op a.payload) :=
  if_pos h

/-- A command that passes waits for the next commit; a move, or a ramp that is not at its target, is told so. -/
theorem actTake_of_good (h : s.actCheck a.cmd.op a.payload = stOk) : ∃ u,
    u = (if a.cmd.op = 0x29 ∧ u8 a.payload 1 ≠ 0 ∨ a.cmd.op = 0x2C ∧ u16 a.payload 2 ≠ s.rd (R.ACT_VOUT_CODE (u8 a.payload 0)) then
      s.accepted a.cmd else s) ∧ s.actTake a = { u with act.taken := u.act.taken ++ [a] } := by
  have waits : ((a.cmd.op == 0x29 && u8 a.payload 1 != 0) ||
      (a.cmd.op == 0x2C && decide (u16 a.payload 2 ≠ s.rd (R.ACT_VOUT_CODE (u8 a.payload 0))))) = true ↔
      a.cmd.op = 0x29 ∧ u8 a.payload 1 ≠ 0 ∨ a.cmd.op = 0x2C ∧ u16 a.payload 2 ≠ s.rd (R.ACT_VOUT_CODE (u8 a.payload 0)) := by
    simp
  refine ⟨_, rfl, ?_⟩
  unfold State.actTake
  simp only [waits]
  exact if_neg (not_not.mpr h)

theorem actRefused_iff : s.actRefused = true ↔ s.rd R.PWR_STAT_PFSEQ = 1 ∨ s.dbg.halted ≠ 0 := by
  simp [State.actRefused, State.on]

/-- A well-formed ACT_VALVE is refused in a power-fail sequence, in a debug halt, and for a channel a zone owns (R181). -/
theorem actCheck_valve {p : Bytes} (len : p.length = 4) (valve : u8 p 0 < 48) (demand : u16 p 2 < 4096) : s.actCheck 0x28 p =
    if s.rd R.PWR_STAT_PFSEQ = 1 ∨ s.dbg.halted ≠ 0 ∨ (s.ownerOf 1 (u8 p 0)).isSome = true then stNotPermitted else stOk := by
  have form : s.actCheck 0x28 p = firstBad [lengthIs p 4, param (decide (47 < u8 p 0 ∨ 4095 < u16 p 2)),
    permitted (!s.actRefused && (s.ownerOf 1 (u8 p 0)).isNone)] := rfl
  have inRange : ¬ (47 < u8 p 0 ∨ 4095 < u16 p 2) := by omega
  rw [form, lengthIs, param, permitted, decide_eq_false (not_not.mpr len), decide_eq_false inRange, firstBad_pass, firstBad_pass]
  simp only [← or_assoc, ← actRefused_iff]
  cases s.actRefused <;> cases s.ownerOf 1 (u8 p 0) <;> rfl

end

/-! ### A cleared bridge (R170) -/

section
variable {s : State} {n k j : Nat}

theorem unlatch_rd (s : State) (n j : Nat) : (s.unlatch n).rd j = if R.PWM_LATCH_LATCHED = j then setBit (s.rd R.PWM_LATCH_LATCHED) n false
    else if R.PWM_CH_CUTS n = j ∨ R.PWM_CH_LATCH_WHY n = j ∨ R.PWM_CH_LATCHED n = j then 0 else s.rd j := by
  show (s.wrs [(R.PWM_CH_LATCHED n, 0), (R.PWM_CH_LATCH_WHY n, 0), (R.PWM_CH_CUTS n, 0),
    (R.PWM_LATCH_LATCHED, setBit (s.rd R.PWM_LATCH_LATCHED) n false)]).rd j = _
  simp only [State.wrs_cons, State.wrs_nil, State.wr_rd, ite_or]

/-- A latch that has been cleared reads 0, and so does its channel's count of cut periods. -/
theorem unlatch_clears (s : State) (n : Nat) :
    (s.unlatch n).rd (R.PWM_CH_LATCHED n) = 0 ∧ (s.unlatch n).rd (R.PWM_CH_CUTS n) = 0 := by
  constructor
  · rw [unlatch_rd, if_neg (by unfold R.PWM_LATCH_LATCHED R.PWM_CH_LATCHED; omega), if_pos (.inr (.inr rfl))]
  · rw [unlatch_rd, if_neg (by unfold R.PWM_LATCH_LATCHED R.PWM_CH_CUTS; omega), if_pos (.inl rfl)]

/-- Clearing a channel's latch leaves the other channels' fields. -/
theorem unlatch_rd_other (channels : 0x2020 ≤ j / 1024) (other : j / 1024 ≠ 0x2020 + n) : (s.unlatch n).rd j = s.rd j := by
  have summary : R.PWM_LATCH_LATCHED ≠ j := by unfold R.PWM_LATCH_LATCHED; omega
  have own : ∀ i < 1024, 1024 * (0x2020 + n) + i ≠ j := fun i hi => by omega
  rw [unlatch_rd, if_neg summary,
    if_neg (not_or.mpr ⟨own 82 (by decide), not_or.mpr ⟨own 86 (by decide), own 85 (by decide)⟩⟩)]

theorem latched_block (n : Nat) : R.PWM_CH_LATCHED n / 1024 = 0x2020 + n := by unfold R.PWM_CH_LATCHED; omega

theorem cuts_block (n : Nat) : R.PWM_CH_CUTS n / 1024 = 0x2020 + n := by unfold R.PWM_CH_CUTS; omega

/-- In a latched state no move is under way, so a clear has none to end. -/
theorem bridgeClear_of_latched (h : 5 ≤ s.rd (R.ACT_BR_STATE k)) : s.bridgeClear k =
    ((s.unlatch (48 + 2 * k)).unlatch (49 + 2 * k)).wrs [(R.ACT_BR_STATE k, 0), (R.ACT_BR_POS_OK k, 0)] := by
  unfold State.bridgeClear
  rw [if_neg (by omega)]

/-- The bridge's own two fields lie in a later block than its legs' channels. -/
theorem wrs_bridge_rd_channel (u : State) (k : Nat) {key : Nat} (h : key / 1024 < 0x2450) :
    (u.wrs [(R.ACT_BR_STATE k, 0), (R.ACT_BR_POS_OK k, 0)]).rd key = u.rd key := by
  have state : R.ACT_BR_STATE k ≠ key := ne_of_block (by unfold R.ACT_BR_STATE; omega) h
  have posOk : R.ACT_BR_POS_OK k ≠ key := ne_of_block (by unfold R.ACT_BR_POS_OK; omega) h
  exact wrs_rd_other (by simp [state, posOk])

/-- Both legs are cleared, the second without touching the first, and the bridge starts afresh. -/
theorem bridgeClear_fields (hk : k < 16) (h : 5 ≤ s.rd (R.ACT_BR_STATE k)) :
    (s.bridgeClear k).rd (R.ACT_BR_STATE k) = 0 ∧ (s.bridgeClear k).rd (R.ACT_BR_POS_OK k) = 0 ∧
    (s.bridgeClear k).rd (R.PWM_CH_LATCHED (48 + 2 * k)) = 0 ∧ (s.bridgeClear k).rd (R.PWM_CH_LATCHED (49 + 2 * k)) = 0 ∧
    (s.bridgeClear k).rd (R.PWM_CH_CUTS (48 + 2 * k)) = 0 ∧ (s.bridgeClear k).rd (R.PWM_CH_CUTS (49 + 2 * k)) = 0 := by
  obtain ⟨latched0, cuts0⟩ := unlatch_clears s (48 + 2 * k)
  obtain ⟨latched1, cuts1⟩ := unlatch_clears (s.unlatch (48 + 2 * k)) (49 + 2 * k)
  have first : 48 + 2 * k ≤ 49 + 2 * k := by omega
  have channel : ∀ n ≤ 49 + 2 * k, ∀ key, key / 1024 = 0x2020 + n → (s.bridgeClear k).rd key =
      ((s.unlatch (48 + 2 * k)).unlatch (49 + 2 * k)).rd key := fun n hn key block => by
    rw [bridgeClear_of_latched h, wrs_bridge_rd_channel _ k (by omega)]
  have keeps : ∀ key, key / 1024 = 0x2020 + (48 + 2 * k) → ((s.unlatch (48 + 2 * k)).unlatch (49 + 2 * k)).rd key =
      (s.unlatch (48 + 2 * k)).rd key := fun key block => unlatch_rd_other (by omega) (by omega)
  have own : R.ACT_BR_POS_OK k ≠ R.ACT_BR_STATE k := by unfold R.ACT_BR_POS_OK R.ACT_BR_STATE; omega
  refine ⟨?_, ?_, (channel _ first _ (latched_block _)).trans ((keeps _ (latched_block _)).trans latched0),
    (channel _ le_rfl _ (latched_block _)).trans latched1, (channel _ first _ (cuts_block _)).trans ((keeps _ (cuts_block _)).trans cuts0),
    (channel _ le_rfl _ (cuts_block _)).trans cuts1⟩ <;> rw [bridgeClear_of_latched h]
  · exact (State.wr_rd_other _ _ own).trans (State.wr_rd_same _ _ _)
  · exact State.wr_rd_same _ _ _

end

/-! ### ACT_SAVE (R179) -/

section
variable {s : State} {c : Cmd} {op : Nat}

/-- While the gate of R54 is open a save waits behind the requests made before it. -/
theorem hayAsk_save_of_open (cmd : Option Ref) (pages : List (Nat × Bytes × Bool)) (objs : List (Nat × Bytes))
    (gate : s.gatesClosed = false) : s.hayAsk 249 (.save cmd pages objs) = { s with hay := { s.hay with
      nextId := s.hay.nextId + 1, reqs := s.hay.reqs ++ [⟨s.hay.nextId, 249, .save cmd pages objs, s.ticks, false⟩] } } := by
  have still : ({ s with hay.nextId := s.hay.nextId + 1 } : State).gatesClosed = false := gate
  unfold State.hayAsk
  dsimp only
  rw [still]
  rfl

/-- The image that ACT_SAVE stores does not depend on the channels. -/
theorem begin_actImage (s : State) (c : Cmd) (op : Nat) : (s.begin c op).2.actImage = s.actImage := rfl

theorem exec_actSave (h : c.payload = []) : exec (.actSave c) s = .next
    (((s.begin c 0x2E).2.accepted (s.refOf c 0x2E)).hayAsk 249 (.save (some (s.refOf c 0x2E)) [] [(0x60, s.actImage)])) := by
  show Host.Outcome.next ((s.begin c 0x2E).2.doActSave (s.refOf c 0x2E) c.payload) = _
  unfold State.doActSave
  rw [h, checked_ok rfl, begin_actImage]
  rfl

end

/-! ### A write of ACT_KS (R7, R41, R178) -/

section
variable {s : State}

theorem ksValueCheck (v : Nat) : actValueCheck 0x2401 v = if ksRefused v then stBadParam else stOk := rfl

theorem exec_actKsWrite_of_good {v : BitVec 512} (h : ksRefused (bits v.toNat 0 320) = false) :
    exec (.actKsWrite v) s = .next (s.ksStageImage (bits v.toNat 0 320)) :=
  congrArg Host.Outcome.next (if_pos (by rw [ksValueCheck, h]; rfl))

theorem exec_actKsWrite_of_refused {v : BitVec 512} (h : ksRefused (bits v.toNat 0 320) = true) : exec (.actKsWrite v) s = .next s :=
  congrArg Host.Outcome.next (if_neg (by rw [ksValueCheck, h]; decide))

/-- How many of a group's eight entries are full, counted by the channel's place in its group. -/
theorem groupFull_length (v g : Nat) : ((channelsOf g).filter fun n => bits v (2 * n) 2 == 1).length =
    ((List.range 8).filter fun i => bits v (2 * (8 * g + i)) 2 == 1).length := by
  unfold channelsOf
  rw [List.filter_map, List.length_map]
  simp only [Function.comp_def, Nat.add_comm]

/-- The three reasons to refuse an image: an entry that may not have its value, too many full valves in a group, a reserved nibble. -/
theorem ksRefused_iff (v : Nat) : ksRefused v = true ↔
    (∃ n ∈ List.range 96, bits v (2 * n) 2 = 3 ∨ ((48 ≤ n ∧ n < 80) ∨ 91 ≤ n) ∧ bits v (2 * n) 2 ≠ 0) ∨
    (∃ g ∈ List.range 6, 2 < ((List.range 8).filter fun i => bits v (2 * (8 * g + i)) 2 == 1).length) ∨
    (∃ i ∈ List.range 8, bits v (204 + 16 * i) 4 ≠ 0) := by
  unfold ksRefused
  simp only [groupFull_length, Bool.or_eq_true, List.any_eq_true, Bool.and_eq_true, decide_eq_true_eq, beq_iff_eq, bne_iff_ne, or_assoc]

end

/-- Settles O43, clause by clause: the queues, ACT_CMD, the commit, a cleared bridge, ACT_SAVE and ACT_KS. -/
theorem actuatorCommands : Obligations.ActuatorCommands := by
  unfold Obligations.ActuatorCommands
  refine ⟨fun s c i op k q row h hq => ?place, fun s a => ⟨actTake_of_bad, actTake_of_good⟩,
    fun s p len valve demand => actCheck_valve len valve demand, fun s r p => ?apply, fun s v target r => rfl,
    fun s k hk latched => ⟨_, rfl, bridgeClear_fields hk latched⟩, fun s c h empty gate => ?save, fun s c h long => ?saveLong,
    fun s v good => ?staged, fun s v bad => exec_actKsWrite_of_refused bad, ksRefused_iff⟩
  case place =>
    obtain ⟨runs, rfl⟩ := exec_actuator row s
    subst hq
    refine ⟨fun room => ?_, fun full => place_of_full h runs full⟩
    obtain ⟨t, placed, rest⟩ := place_of_room (op := op) h room
    exact ⟨t, placed ▸ runs, rest⟩
  case apply =>
    obtain ⟨ch, tag, op, epoch⟩ := r
    refine ⟨?_, ?_, ?_, ?_, ?_⟩ <;> rintro rfl
    · rfl
    · rfl
    · rfl
    · exact fun away => if_neg away
    · rfl
  case save =>
    have gate' : ((s.begin c 0x2E).2.accepted (s.refOf c 0x2E)).gatesClosed = false := by
      unfold State.gatesClosed
      rw [State.accepted_on]
      exact gate
    have runs := exec_actSave (s := s) empty
    rw [hayAsk_save_of_open _ _ _ gate'] at runs
    refine ⟨_, runs, accepts_of_begin h rfl, ?_, ?_⟩
    · unfold State.ticks
      rw [State.accepted_hay, State.accepted_cad]
      rfl
    · exact (State.accepted_frame (Covers.refl.sub rfl) (begin_frame_spoke.mono (Covers.refl.sub rfl))).hay (by decide)
  case saveLong =>
    have long' : decide (c.payload.length ≠ 0) = true := decide_eq_true (mt List.eq_nil_of_length_eq_zero long)
    exact refuses_of_check h rfl ⟨_, rfl⟩ (by rw [lengthIs, long']; rfl) (by decide)
  case staged =>
    exact ⟨_, exec_actKsWrite_of_good good, rfl, State.Fields.refl.wr.of_regs rfl,
      (State.wr_frame (Covers.refl.sub rfl) .refl).pwr (by decide)⟩

end Sys2Proof.Machine
end

section
/-!
PROOFS. Frames on a transport (R68, R69, R72, R497, Tables 3-2, 3-3, 03_spoke_packets.md): what the fields of a frame read, what one
step of the search does with the bytes received, and that every frame the layout allows is found whole and taken apart again.
-/

namespace Sys2Proof.Machine

/-! ### The CRC of a frame has 16 bits (R69) -/

theorem crcLeftStep_lt (w poly c : Nat) : crcLeftStep w poly c < 2 ^ w := by
  unfold crcLeftStep
  split <;> exact Nat.mod_lt _ (Nat.two_pow_pos w)

/-- What a step always makes true holds after one step or more. -/
theorem times_succ_of_step {α : Type} {P : α → Prop} {f : α → α} (step : ∀ x, P (f x)) (n : Nat) (x : α) : P (times (n + 1) f x) := by
  induction n generalizing x with
  | zero => exact step x
  | succ n ih => exact ih (f x)

theorem crc16_lt (b : Bytes) : crc16 b < 65536 := by
  have bound : ∀ (b : Bytes) (c : Nat), c < 65536 →
      b.foldl (fun c x => times 8 (crcLeftStep 16 0x1021) (c ^^^ (x.toNat <<< 8))) c < 65536 := by
    intro b
    induction b with
    | nil => exact fun _ h => h
    | cons x b ih => exact fun c _ => ih _ (times_succ_of_step (P := (· < 65536)) (crcLeftStep_lt 16 0x1021) 7 _)
  exact bound b 0xFFFF (by decide)

theorem ofBe_be {n v : Nat} (h : v < 2 ^ (8 * n)) : ofBe (be n v) = v := by
  unfold ofBe be
  rw [List.reverse_reverse, ofLe_le_of_lt h]

/-- The bytes between a front part and a rest. -/
theorem sub_middle {l a m c : Bytes} {off n : Nat} (h : l = a ++ (m ++ c)) (front : a.length = off) (middle : m.length = n) :
    sub l off n = m := by
  unfold sub
  rw [h, List.drop_left' front, List.take_left' middle]

/-! ### The search (R72) -/

section
variable {x : RxPath} {n : Nat} {rest : Bytes}

/-- With nothing left to look at the search ends. -/
theorem separate_nil (h : x.part = []) : separate n x = x := by
  cases n with
  | zero => rfl
  | succ n => unfold separate; rw [h]

/-- A byte that is no SYNC goes. -/
theorem separate_skip {b : Byte} (h : x.part = b :: rest) (other : b ≠ 0x5A) :
    separate (n + 1) x = separate n { x with part := rest } := by
  rw [separate, h]
  exact if_pos other

/-- At a SYNC the search goes by the length of the header, by R68, by the length of the frame, and by the CRC. -/
theorem separate_sync (h : x.part = 0x5A :: rest) : separate (n + 1) x =
    if rest.length < 6 then x
    else if headerGood x.part = false then separate n { x with part := rest, frmDisc := satAdd 0xFFFF x.frmDisc 1 }
    else if x.part.length < frameLength x.part then x
    else if frameGood x.part = true then
      separate n { x with part := x.part.drop (frameLength x.part), frames := x.frames ++ [x.part.take (frameLength x.part)] }
    else separate n { x with part := rest, crcDisc := satAdd 0xFFFF x.crcDisc 1 } := by
  have seven : ((0x5A : Byte) :: rest).length < 7 ↔ rest.length < 6 := Nat.succ_lt_succ_iff
  rw [separate, h]
  simp only [seven, ne_eq, not_true_eq_false, if_false, Bool.not_eq_true']

/-- A short header, or a good one whose frame is short, waits. -/
theorem separate_of_short (h : x.part = 0x5A :: rest)
    (short : rest.length < 6 ∨ headerGood x.part = true ∧ x.part.length < frameLength x.part) : separate n x = x := by
  cases n with
  | zero => rfl
  | succ n =>
    rw [separate_sync h]
    split
    · rfl
    · obtain ⟨good, frame⟩ := short.resolve_left ‹_›
      rw [if_neg (by simp [good]), if_pos frame]

theorem separate_of_bad_header (h : x.part = 0x5A :: rest) (six : 6 ≤ rest.length) (bad : headerGood x.part = false) :
    separate (n + 1) x = separate n { x with part := rest, frmDisc := satAdd 0xFFFF x.frmDisc 1 } := by
  rw [separate_sync h, if_neg (by omega), if_pos bad]

theorem separate_of_bad_crc (h : x.part = 0x5A :: rest) (six : 6 ≤ rest.length) (good : headerGood x.part = true)
    (whole : frameLength x.part ≤ x.part.length) (bad : frameGood x.part = false) :
    separate (n + 1) x = separate n { x with part := rest, crcDisc := satAdd 0xFFFF x.crcDisc 1 } := by
  rw [separate_sync h, if_neg (by omega), if_neg (by simp [good]), if_neg (by omega), if_neg (by simp [bad])]

theorem separate_of_frame (h : x.part = 0x5A :: rest) (six : 6 ≤ rest.length) (good : headerGood x.part = true)
    (whole : frameLength x.part = x.part.length) (crc : frameGood x.part = true) :
    separate (n + 1) x = separate n { x with part := [], frames := x.frames ++ [x.part] } := by
  rw [separate_sync h, if_neg (by omega), if_neg (by simp [good]), if_neg (by omega), if_pos crc, whole, List.drop_length,
    List.take_length]

/-- Bytes without a SYNC go one by one, and the search comes to what stands behind them. -/
theorem separate_junk {junk : Bytes} (noSync : ∀ b ∈ junk, b ≠ 0x5A) (x : RxPath) (h : x.part = junk ++ rest) :
    separate (junk.length + n) x = separate n { x with part := rest } := by
  induction junk generalizing x with
  | nil =>
    have whole : x.part = rest := h
    rw [List.length_nil, Nat.zero_add, ← whole]
  | cons b junk ih =>
    obtain ⟨hb, hj⟩ := List.forall_mem_cons.mp noSync
    rw [List.length_cons, Nat.add_right_comm, separate_skip h hb]
    exact ih hj { x with part := junk ++ rest } rfl

end

/-! ### The fields of a frame (R68, Tables 3-2, 3-3) -/

/-- A packet that Tables 3-2 and 3-3 have room for: its channel, tag, opcode and length, and no AUTHTAG or one of 8 bytes. -/
structure Pkt.Allowed (ch : Nat) (p : Pkt) : Prop where
  ch : ch < 32
  tag : p.tag < 128
  opcode : p.opcode < 256
  payload : p.payload.length < 4096
  auth : p.auth.length = 0 ∨ p.auth.length = 8

section
variable {ch : Nat} {p : Pkt}

/-- The header of a frame. -/
def Pkt.header (ch : Nat) (p : Pkt) : Bytes := headerOf (!p.auth.isEmpty) ch p.tag p.opcode p.payload.length

theorem header_length (ch : Nat) (p : Pkt) : (p.header ch).length = 6 := rfl

theorem frameBytes_eq (ch : Nat) (p : Pkt) : frameBytes ch p =
    0x5A :: (p.header ch ++ (p.payload ++ (p.auth ++ be 2 (crc16 (p.header ch ++ p.payload))))) := by
  unfold frameBytes
  simp only [List.append_assoc]
  rfl

theorem frameBytes_length (ch : Nat) (p : Pkt) : (frameBytes ch p).length = 9 + p.payload.length + p.auth.length := by
  rw [frameBytes_eq]
  simp [header_length, be]
  omega

/-- What the bytes of a header read, whatever follows it. -/
theorem frame_fields (h : p.Allowed ch) : u8 (frameBytes ch p) 1 = 1 + 16 * b2n (!p.auth.isEmpty) ∧ u8 (frameBytes ch p) 2 = ch ∧
    u8 (frameBytes ch p) 3 = p.tag ∧ u8 (frameBytes ch p) 4 = p.opcode ∧ u16 (frameBytes ch p) 5 = p.payload.length := by
  have byte {v : Nat} (hv : v < 256) : ofLe (le 1 v) = v := ofLe_le_of_lt hv
  rw [frameBytes_eq]
  refine ⟨byte (by cases p.auth.isEmpty <;> decide), byte (h.ch.trans (by decide)), byte (h.tag.trans (by decide)), byte h.opcode, ?_⟩
  exact ofLe_le_of_lt (n := 2) (h.payload.trans (by decide))

/-- Bit 4 of the first header byte tells whether an AUTHTAG follows. -/
theorem frame_auth (h : p.Allowed ch) : bit (u8 (frameBytes ch p) 1) 4 = !p.auth.isEmpty := by
  obtain ⟨version, -, -, -, -⟩ := frame_fields h
  rw [version]
  cases p.auth.isEmpty <;> decide

theorem auth_length (h : p.Allowed ch) : (if (!p.auth.isEmpty) = true then 8 else 0) = p.auth.length := by
  have full := h.auth
  cases ha : p.auth with
  | nil => rfl
  | cons a l => simpa [ha] using full.symm

theorem frameLength_frameBytes (h : p.Allowed ch) : frameLength (frameBytes ch p) = (frameBytes ch p).length := by
  obtain ⟨-, -, -, -, len⟩ := frame_fields h
  unfold frameLength
  rw [len, frame_auth h, auth_length h, frameBytes_length]

theorem headerGood_frameBytes (h : p.Allowed ch) : headerGood (frameBytes ch p) = true := by
  obtain ⟨version, hch, tag, -, len⟩ := frame_fields h
  unfold headerGood
  rw [version, hch, tag, len]
  have := h.ch
  have := h.tag
  have := h.payload
  cases p.auth <;> simp [b2n, *]

theorem frameGood_frameBytes (h : p.Allowed ch) : frameGood (frameBytes ch p) = true := by
  obtain ⟨-, -, -, -, len⟩ := frame_fields h
  have covered : sub (frameBytes ch p) 1 (6 + p.payload.length) = p.header ch ++ p.payload :=
    sub_middle (a := [0x5A]) (by rw [frameBytes_eq, List.append_assoc]; rfl) rfl (by rw [List.length_append, header_length])
  have crc : sub (frameBytes ch p) ((frameBytes ch p).length - 2) 2 = be 2 (crc16 (p.header ch ++ p.payload)) := by
    refine sub_middle (a := 0x5A :: (p.header ch ++ (p.payload ++ p.auth))) (c := []) ?_ ?_ rfl
    · rw [frameBytes_eq]
      simp
    · rw [frameBytes_length]
      simp [header_length]
      omega
  unfold frameGood
  rw [frameLength_frameBytes h, len, covered, crc, ofBe_be (crc16_lt _)]
  exact beq_self_eq_true _

/-- A frame on its own is found whole. -/
theorem separate_frameBytes (h : p.Allowed ch) {x : RxPath} (hx : x.part = frameBytes ch p) (n : Nat) :
    separate (n + 1) x = { x with part := [], frames := x.frames ++ [frameBytes ch p] } := by
  rw [separate_of_frame (hx.trans (frameBytes_eq ch p)) (by simp [header_length]) (hx ▸ headerGood_frameBytes h)
    (hx ▸ frameLength_frameBytes h) (hx ▸ frameGood_frameBytes h), hx]
  exact separate_nil rfl

/-- Taking a frame apart gives back what it was made of. -/
theorem frameOf_frameBytes (h : p.Allowed ch) : frameOf (frameBytes ch p) =
    { auth := !p.auth.isEmpty, ch := ch, tag := p.tag, op := p.opcode, payload := p.payload, header := p.header ch,
      authTag := p.auth } := by
  obtain ⟨-, hch, tag, op, len⟩ := frame_fields h
  have header : sub (frameBytes ch p) 1 6 = p.header ch := sub_middle (a := [0x5A]) (frameBytes_eq ch p) rfl rfl
  have payload : sub (frameBytes ch p) 7 p.payload.length = p.payload :=
    sub_middle (a := 0x5A :: p.header ch) (frameBytes_eq ch p) rfl rfl
  have authTag : (if (!p.auth.isEmpty) = true then sub (frameBytes ch p) (7 + p.payload.length) 8 else []) = p.auth := by
    have eight := auth_length h
    split
    next tagged =>
      rw [if_pos tagged] at eight
      refine sub_middle (a := 0x5A :: (p.header ch ++ p.payload)) (by rw [frameBytes_eq]; simp; rfl) ?_ eight.symm
      simp [header_length]
      omega
    next untagged =>
      rw [if_neg untagged] at eight
      exact (List.eq_nil_of_length_eq_zero eight.symm).symm
  unfold frameOf
  dsimp only
  rw [hch, tag, op, len, frame_auth h, header, payload, authTag]

end

/-- Settles O27: the bytes ahead of the frame hold no SYNC and go, then the frame is found whole; its fields read as they were put. -/
theorem frameRoundTrip : Obligations.FrameRoundTrip := by
  unfold Obligations.FrameRoundTrip
  intro x ch tag op payload auth junk empty short full noSync
  have allowed : Pkt.Allowed ch ⟨.final, tag, op.toNat, payload, auth⟩ := ⟨ch.isLt, tag.isLt, op.isLt, short, full⟩
  have tagged : (!auth.isEmpty) = decide (auth.length = 8) := by
    rcases full with full | full
    · rw [List.eq_nil_of_length_eq_zero full]
      rfl
    · cases auth <;> simp_all
  refine ⟨_, rfl, ?_, ?_⟩
  · obtain ⟨n, byte⟩ : ∃ n, (frameBytes ch ⟨.final, tag, op.toNat, payload, auth⟩).length = n + 1 :=
      Nat.exists_eq_succ_of_ne_zero (by rw [frameBytes_length]; omega)
    rw [List.length_append, byte, separate_junk (by simpa using noSync) _ rfl, separate_frameBytes allowed rfl, ← empty]
  · rw [frameOf_frameBytes allowed]
    unfold Pkt.header
    dsimp only
    rw [tagged]

end Sys2Proof.Machine
end

section
/-!
PROOFS. The receive paths (R72, R73, R99, R102, R103, R497, 03_spoke_packets.md): what a change of the host's path brings with it, the
rows that receive, and the checks of admission in their order (R74, R78, Table 3-4).
-/

namespace Sys2Proof.Machine

/-! ### A change of a receive path -/

section
variable {s t : State} {x : RxPath} {f : State → State}

theorem rtsUpdate_eq (s : State) : ∃ low, s.rtsUpdate = { s with host.rtsLow := low } := by
  unfold State.rtsUpdate
  split
  · exact ⟨_, rfl⟩
  · split
    · exact ⟨_, rfl⟩
    · exact ⟨s.host.rtsLow, rfl⟩

/-- A discard counted on the host's path sets DISC, and HST_RTSN follows the free space (R102, Table 3-8). -/
theorem setRx_host_eq (s : State) (x : RxPath) : ∃ low, s.setRx 0 x = { s with
    spoke.rx := mput {} s.spoke.rx 0 x
    host := { s.host with
      disc := s.host.disc || decide ((s.rxPath 0).crcDisc < x.crcDisc ∨ (s.rxPath 0).frmDisc < x.frmDisc), rtsLow := low } } := by
  unfold State.setRx State.when
  dsimp only
  rw [if_pos rfl]
  by_cases more : (s.rxPath 0).crcDisc < x.crcDisc ∨ (s.rxPath 0).frmDisc < x.frmDisc
  · rw [if_pos (decide_eq_true more), decide_eq_true more, Bool.or_true]
    exact rtsUpdate_eq _
  · rw [if_neg (by simpa using more), decide_eq_false more, Bool.or_false]
    exact rtsUpdate_eq _

/-- The host's receive path becomes x. Beside it only DISC, HST_RTSN and the wait of R103 may follow. -/
structure State.TakesIn (s : State) (x : RxPath) (t : State) : Prop where
  path : t.rxPath 0 = x
  disc : t.host.disc = (s.host.disc || decide ((s.rxPath 0).crcDisc < x.crcDisc ∨ (s.rxPath 0).frmDisc < x.frmDisc))
  host : t.host = { s.host with disc := t.host.disc, rtsLow := t.host.rtsLow, prevBaud := t.host.prevBaud }
  chans : ∀ ch, t.chan ch = s.chan ch
  frame : s.Frame [.spoke, .host] t

theorem setRx_takesIn (s : State) (x : RxPath) : s.TakesIn x (s.setRx 0 x) := by
  have frame : State.Frame [.spoke, .host] s (s.setRx 0 x) := State.setRx_frame (Covers.refl.sub rfl) .refl
  obtain ⟨low, eq⟩ := setRx_host_eq s x
  rw [eq] at frame ⊢
  exact ⟨(mget_mput _ _ _ _ _).trans (if_pos rfl), rfl, rfl, fun _ => rfl, frame⟩

theorem setRx_prevBaud (s : State) (x : RxPath) : (s.setRx 0 x).host.prevBaud = s.host.prevBaud := by
  obtain ⟨low, eq⟩ := setRx_host_eq s x
  rw [eq]

/-- A good frame ends the wait of R103, and nothing else of what has been taken in changes. -/
theorem hostRx_takesIn (h : s.TakesIn x (f s)) : s.TakesIn x (s.hostRx f) := by
  unfold State.hostRx
  dsimp only
  split
  · exact ⟨h.path, h.disc, congrArg (fun v => { v with prevBaud := none }) h.host, h.chans, h.frame.host (by decide)⟩
  · exact h

/-- Bytes for the host's path join what stands there, and the frames in it are separated (R497). -/
theorem rxBytes_takesIn (s : State) (data : Bytes) : s.TakesIn
    (separate ((s.rxPath 0).part.length + data.length) { s.rxPath 0 with part := (s.rxPath 0).part ++ data }) (s.rxBytes 0 data) :=
  setRx_takesIn s _

/-- The frame under way is discarded, and the search goes on behind its SYNC (R72). -/
theorem rxDiscard_takesIn (h : (s.rxPath 0).part ≠ []) : s.TakesIn
    (separate (s.rxPath 0).part.length
      { s.rxPath 0 with part := (s.rxPath 0).part.drop 1, frmDisc := satAdd 0xFFFF (s.rxPath 0).frmDisc 1 }) (s.rxDiscard 0) := by
  unfold State.rxDiscard
  dsimp only
  rw [if_neg (by simpa using h)]
  exact setRx_takesIn s _

theorem rxDiscard_of_empty {k : Nat} (h : (s.rxPath k).part = []) : s.rxDiscard k = s := by
  unfold State.rxDiscard
  dsimp only
  rw [h]
  rfl

end

/-! ### FRAME_RECEIVE and the two events of the line -/

section
variable {s : State} {data : Bytes}

/-- What comes from the host is dropped in reset, taken byte by byte from the UART, and on SPI taken if it fits. -/
theorem received_host (s : State) (data : Bytes) : s.received 0 data =
    if !s.hostOn then s
    else if s.host.uart then s.each data State.uartByte
    else if data.length ≤ s.rxFree then s.hostRx fun s => s.rxBytes 0 data else s := rfl

/-- With room in the FIFO the bytes of a transaction are taken in whole. -/
theorem hostBytes_takesIn (s : State) (data : Bytes) : s.TakesIn
    (separate ((s.rxPath 0).part.length + data.length) { s.rxPath 0 with part := (s.rxPath 0).part ++ data })
    (s.hostRx fun s => s.rxBytes 0 data) := hostRx_takesIn (f := fun s => s.rxBytes 0 data) (rxBytes_takesIn s data)

theorem uartByte_takesIn {b : Byte} (room : s.rxFree ≠ 0) : s.TakesIn
    (separate ((s.rxPath 0).part.length + 1) { s.rxPath 0 with part := (s.rxPath 0).part ++ [b] }) (s.uartByte b) := by
  unfold State.uartByte
  refine hostRx_takesIn ?_
  dsimp only
  rw [if_neg room]
  exact rxBytes_takesIn s [b]

end

/-- Settles O28: the search step by step, then each row by what it does to the host's path. -/
theorem receiving : Obligations.Receiving := by
  unfold Obligations.Receiving
  refine ⟨fun x n b rest => separate_skip, fun x n rest => separate_of_bad_header, fun x n rest => separate_of_bad_crc,
    fun x n rest => separate_of_short, fun s data on spi fits => ?spi, fun s data on uart => ?uart,
    fun s b on uart room => ⟨_, rfl, (uartByte_takesIn room).path⟩, fun s data off => ?reset, fun s on uart under => ?gap, fun s none => ?noGap, fun s uart => ?cts, fun s spi => ?noCts⟩
  case spi =>
    have takes := hostBytes_takesIn s data
    refine ⟨_, congrArg Host.Outcome.next ((received_host s data).trans ?_), takes.path, fun more => ?_, takes.chans, takes.frame⟩
    · simp [on, spi, fits]
    · rw [takes.path] at more
      rw [takes.disc, decide_eq_true more, Bool.or_true]
  case uart =>
    refine congrArg Host.Outcome.next ((received_host s data).trans ?_)
    simp [on, uart]
  case reset =>
    refine congrArg Host.Outcome.next ((received_host s data).trans ?_)
    simp [off]
  case gap =>
    have takes := rxDiscard_takesIn under
    exact ⟨_, congrArg Host.Outcome.next (if_pos (by simp [on, uart])), takes.path, takes.chans, takes.frame⟩
  case noGap =>
    refine congrArg Host.Outcome.next ?_
    split
    · rename_i live
      obtain ⟨on, uart⟩ := Bool.and_eq_true_iff.mp live
      exact rxDiscard_of_empty (by simpa [on, uart] using none)
    · rfl
  case cts => exact congrArg Host.Outcome.next (if_pos uart)
  case noCts => exact congrArg Host.Outcome.next (if_neg (by simp [spi]))

/-! ### Admission (R74, Table 3-4) -/

section
variable {s u : State} {k : Nat} {f : Frame}

theorem admitNext_of_frame {b : Bytes} {rest : List Bytes} (h : (s.rxPath k).frames = b :: rest) :
    s.admitNext k = (s.setRx k { s.rxPath k with frames := rest }).admitFrame k (frameOf b) := by
  unfold State.admitNext
  dsimp only
  rw [h]

theorem admitNext_of_none (h : (s.rxPath k).frames = []) : s.admitNext k = s := by
  unfold State.admitNext
  dsimp only
  rw [h]

/-- Checks 1 and 2: a frame that is no command of its transport is discarded. -/
theorem admitFrame_of_stray (h : f.tag = 127 ∨ transportOf f.ch ≠ k) : s.admitFrame k f = s.framingDiscard k := if_pos h

/-- Checks 4 to 8, in their order. -/
theorem admitStatus_eq (u : State) (f : Frame) : u.admitStatus f =
    if (u.chan f.ch).isOpen = false ∧ f.op ≠ 0x00 ∧ f.op ≠ 0x02 then stNotPermitted
    else if lengthAllowed f.op f.payload.length = none then stUnknownOpcode
    else if lengthAllowed f.op f.payload.length = some false then stBadLength
    else if f.op = 0x02 then stOk
    else if ((u.chan f.ch).uses.any fun x => x.tag == f.tag) = true then stTagInUse
    else if u.roomFor f.ch = false then stBusy
    else stOk := by
  have closed : (!(u.chan f.ch).isOpen && !(f.op == 0x00 || f.op == 0x02)) = true ↔
      (u.chan f.ch).isOpen = false ∧ f.op ≠ 0x00 ∧ f.op ≠ 0x02 := by simp
  unfold State.admitStatus
  simp only [closed]
  match lengthAllowed f.op f.payload.length with
  | none => rfl
  | some false => rfl
  | some true => cases u.roomFor f.ch <;> simp

/-- A frame that the authentication rule has let pass is refused by the first check that fails, or does what it asks for. -/
theorem judged_eq (u : State) (f : Frame) :
    (if u.admitStatus f ≠ stOk then u.reject f.ch f.tag f.op (u.admitStatus f)
      else if f.op = 0x02 then u.sessionReset f.ch f.tag else u.enqueue f) =
    if (u.chan f.ch).isOpen = false ∧ f.op ≠ 0x00 ∧ f.op ≠ 0x02 then u.reject f.ch f.tag f.op stNotPermitted
    else if lengthAllowed f.op f.payload.length = none then u.reject f.ch f.tag f.op stUnknownOpcode
    else if lengthAllowed f.op f.payload.length = some false then u.reject f.ch f.tag f.op stBadLength
    else if f.op = 0x02 then u.sessionReset f.ch f.tag
    else if ((u.chan f.ch).uses.any fun x => x.tag == f.tag) = true then u.reject f.ch f.tag f.op stTagInUse
    else if u.roomFor f.ch = false then u.reject f.ch f.tag f.op stBusy
    else u.enqueue f := by
  rw [admitStatus_eq]
  split
  case isTrue => rfl
  split
  case isTrue => rfl
  split
  case isTrue => rfl
  split
  case isTrue reset => exact if_neg (not_not.mpr rfl)
  split
  case isTrue => rfl
  split
  case isTrue => rfl
  case isFalse => exact if_neg (not_not.mpr rfl)

/-- Check 3 comes first: the authentication rule, whose counter advances only for an accepted frame. -/
theorem admitFrame_of_own (tag : f.tag ≠ 127) (own : transportOf f.ch = k)
    (counted : u = if (s.authRule f).2 = true then s.modChan f.ch countIn else s) :
    s.admitFrame k f = if (s.authRule f).1 = false then s.reject f.ch f.tag f.op stAuthFail
      else if u.admitStatus f ≠ stOk then u.reject f.ch f.tag f.op (u.admitStatus f)
      else if f.op = 0x02 then u.sessionReset f.ch f.tag else u.enqueue f := by
  have mine : ¬ (f.tag = 127 ∨ transportOf f.ch ≠ k) := not_or.mpr ⟨tag, not_not.mpr own⟩
  unfold State.admitFrame
  rw [if_neg mine, counted]
  simp only [Bool.not_eq_true']

/-- But for SEC_AUTH, whose handshake is noted too, an admitted command only enters the in queue of its channel. -/
theorem enqueue_eq (h : f.op ≠ 0x69) : s.enqueue f = s.modChan f.ch fun c => { c with
    uses := c.uses ++ [⟨f.tag, f.op, f.payload, false, s.dbg.loud⟩] } := by
  unfold State.enqueue
  rw [if_neg h]

end

/-- Settles O29: the frame that is taken, the checks in their order, what admission puts into the in queue, and when nothing comes. -/
theorem admissionChecks : Obligations.AdmissionChecks := by
  unfold Obligations.AdmissionChecks
  refine ⟨fun s tr b rest ready h => ?takes, fun s tr f stray => admitFrame_of_stray stray, fun s tr f tag own => ?judges,
    fun s f op => ?enters, fun s tr h => ?idle⟩
  case takes => exact ⟨_, rfl, congrArg Host.Outcome.next ((if_pos ready).trans (admitNext_of_frame h))⟩
  case judges => exact ⟨_, rfl, (admitFrame_of_own tag own rfl).trans (by rw [judged_eq])⟩
  case enters =>
    refine ⟨_, rfl, ?_, fun k hk => ?_, State.enqueue_frame (Covers.refl.sub rfl) .refl⟩
    · rw [enqueue_eq op, State.modChan_chan, if_pos rfl]
    · rw [enqueue_eq op, State.modChan_chan, if_neg hk.symm]
  case idle =>
    refine congrArg Host.Outcome.next ?_
    split
    · exact admitNext_of_none (h.resolve_left (by simp [*]))
    · rfl

end Sys2Proof.Machine
end

section
/-!
PROOFS. The session opcodes (R83, R84, R104, R105, R107, 03_spoke_packets.md): the final reply of a command that has changed its own
channel, and what SESSION_OPEN, SESSION_CLOSE, SESSION_RESET, SUBSCRIBE, PING and SESSION_INFO do.
-/

namespace Sys2Proof.Machine

/-! ### Replies of a command that is Ready -/

section
variable {s u : State} {c : Cmd} {op status : Nat} {r : Ref} {extra : Bytes}

/-- A command that only ends with a status is refused. -/
theorem refuses_of_finish {i : Instr} (h : s.Ready c) (row : exec i s = .next ((s.begin c op).2.finish (s.refOf c op) status)) :
    s.Refuses i c op status :=
  ⟨_, row, finish_answers h rfl (begin_calm h), begin_frame_spoke.trans (finish_frame_of_calm (begin_calm h))⟩

theorem touchedBy_of_calm (calm : u.flt.recov = []) : u.touchedBy r = false := by
  unfold State.touchedBy
  rw [calm]
  rfl

theorem post_of_unbound {ch : Nat} {b : Bool} {p : Pkt} {x : Channel} (unbound : x.bind = none) :
    post ch b p x = { x with outq := x.outq ++ [p] } := by
  unfold post
  rw [tagOut_of_unbound unbound, ite_self]

/-- With room a reply goes out at once, and the tag it answers is free. -/
theorem postWaits_of_room {ch : Nat} {p : Pkt} {x : Channel} (room : outCount x .final < 16) (unbound : x.bind = none) :
    postWaits ch [p] x = { x with uses := x.uses.filter fun v => v.tag != p.tag, outq := x.outq ++ [p], waits := [] } := by
  have posted := post_of_unbound (ch := ch) (b := decide (u8 p.payload 0 ≠ stAuthFail)) (p := p)
    (x := { x with uses := x.uses.filter fun v => v.tag != p.tag }) unbound
  rw [postWaits, if_pos room, posted, postWaits]

/-- With no recovery under way a final reply that finds room is posted at once, and frees its tag (R77, R80, R87). -/
theorem finish_chan (live : (u.chan r.ch).epoch = r.epoch) (calm : u.flt.recov = []) (room : outCount (u.chan r.ch) .final < 16)
    (waits : (u.chan r.ch).waits = []) (unbound : (u.chan r.ch).bind = none) : (u.finish r status extra).chan r.ch =
    { u.chan r.ch with
      uses := (u.chan r.ch).uses.filter fun v => v.tag != r.tag
      outq := (u.chan r.ch).outq ++ [⟨.final, r.tag, replyOpcode r.op, le 1 status ++ extra, []⟩], waits := [] } := by
  unfold State.finish State.postFinal
  rw [if_neg (not_not.mpr live), touchedBy_of_calm calm, if_neg Bool.false_ne_true, State.modChan_chan, if_pos rfl, waits,
    List.nil_append, postWaits_of_room room unbound]

/-- A final reply changes no other channel. -/
theorem finish_chan_other (calm : u.flt.recov = []) {k : Nat} (h : k ≠ r.ch) : (u.finish r status extra).chan k = u.chan k := by
  unfold State.finish State.postFinal
  rw [touchedBy_of_calm calm, if_neg Bool.false_ne_true]
  split
  · rfl
  · rw [State.modChan_chan, if_neg h.symm]

/-- A final reply leaves the receive paths. -/
theorem finish_rxPath (k : Nat) : (u.finish r status extra).rxPath k = u.rxPath k := by
  unfold State.finish
  split
  · rfl
  · split <;> rfl

/-- The final reply of a command that has changed what its channel subscribes to, counts and has lost. -/
theorem finish_chan_of_started {o : Bool} {m n d k : Nat} {l : Option (Nat × Nat × Nat)} (h : s.Ready c) (calm : u.flt.recov = [])
    (own : u.chan c.ch = { s.chan c.ch with
      isOpen := o, mask := m, seq := n, drops := d, lostCnt := k, lost := l, uses := (s.chan c.ch).uses ++ [s.useOf c op] }) :
    (u.finish (s.refOf c op) status extra).chan c.ch = { s.chan c.ch with
      isOpen := o, mask := m, seq := n, drops := d, lostCnt := k, lost := l
      outq := (s.chan c.ch).outq ++ [finalPkt c op status extra] } := by
  have freed : ((s.chan c.ch).uses ++ [s.useOf c op]).filter (fun v => v.tag != c.tag.val) = (s.chan c.ch).uses := by
    rw [List.filter_append, List.filter_eq_self.mpr fun v hv => by simpa using h.tag v hv]
    simp [State.useOf]
  have live : (u.chan c.ch).epoch = (s.chan c.ch).epoch := by rw [own]
  have room : outCount (u.chan c.ch) .final < 16 := by rw [own]; exact h.final
  have waits : (u.chan c.ch).waits = [] := by rw [own]; exact h.waits
  have unbound : (u.chan c.ch).bind = none := by rw [own]; exact h.bind
  refine (finish_chan (r := s.refOf c op) live calm room waits unbound).trans ?_
  show { u.chan c.ch with
    uses := (u.chan c.ch).uses.filter fun v => v.tag != c.tag.val
    outq := (u.chan c.ch).outq ++ [finalPkt c op status extra], waits := [] } = _
  rw [own]
  dsimp only
  rw [freed, h.waits]

/-- The answer of a command that has changed its own channel alone. -/
theorem answers_of_started {o : Bool} {m n d k : Nat} {l : Option (Nat × Nat × Nat)} (h : s.Ready c) (calm : u.flt.recov = [])
    (own : u.chan c.ch = { s.chan c.ch with
      isOpen := o, mask := m, seq := n, drops := d, lostCnt := k, lost := l, uses := (s.chan c.ch).uses ++ [s.useOf c op] })
    (others : ∀ j, j ≠ c.ch.val → u.chan j = s.chan j) : s.Answers c op status extra (u.finish (s.refOf c op) status extra) := by
  have replied := finish_chan_of_started (status := status) (extra := extra) h calm own
  exact ⟨⟨congrArg Channel.outq replied, fun j hj => (finish_chan_other calm hj).trans (others j hj)⟩,
    (congrArg Channel.uses replied :)⟩

/-- An answer is in the channels alone. -/
theorem State.Answers.of_chans {t v : State} (h : s.Answers c op status extra t) (same : v.spoke.chans = t.spoke.chans) :
    s.Answers c op status extra v := by
  have chan : ∀ k, v.chan k = t.chan k := fun k => by
    unfold State.chan
    rw [same]
  obtain ⟨⟨posted, others⟩, freed⟩ := h
  exact ⟨⟨(congrArg Channel.outq (chan _)).trans posted, fun k hk => (chan k).trans (others k hk)⟩,
    (congrArg Channel.uses (chan _)).trans freed⟩

/-- Once answered, a command may change its channel's other fields. -/
theorem State.Answers.modChan {t : State} {f : Channel → Channel} (h : s.Answers c op status extra t)
    (outq : ∀ x, (f x).outq = x.outq) (uses : ∀ x, (f x).uses = x.uses) : s.Answers c op status extra (t.modChan c.ch f) := by
  obtain ⟨⟨posted, others⟩, freed⟩ := h
  have own := (State.modChan_chan t c.ch f c.ch).trans (if_pos rfl)
  exact ⟨⟨(congrArg Channel.outq own).trans ((outq _).trans posted),
    fun k hk => ((State.modChan_chan t c.ch f k).trans (if_neg hk.symm)).trans (others k hk)⟩,
    (congrArg Channel.uses own).trans ((uses _).trans freed)⟩

/-- A command that only answers, whatever it answers, changes nothing but the channels. -/
theorem reply_frame (h : s.Ready c) : s.Frame [.spoke] ((s.begin c op).2.finish (s.refOf c op) status extra) :=
  begin_frame_spoke.trans (finish_frame_of_calm (begin_calm h))

/-! ### The length check comes first (R496) -/

theorem firstBad_of_length {p : Bytes} {n : Nat} (h : p.length = n) (l : List (Bool × Nat)) :
    firstBad (lengthIs p n :: l) = firstBad l := by
  rw [lengthIs, decide_eq_false (not_not.mpr h), firstBad_pass]

theorem firstBad_of_badLength {p : Bytes} {n : Nat} (h : p.length ≠ n) (l : List (Bool × Nat)) :
    firstBad (lengthIs p n :: l) = stBadLength := by
  rw [lengthIs, decide_eq_true h, firstBad_fail]

end

/-! ### SESSION_OPEN and SESSION_CLOSE (R83, R84, R107) -/

section
variable {s : State} {c : Cmd}

/-- Opening: a closed channel starts afresh, an open one stays as it is. -/
def openChan (x : Channel) : Channel := if x.isOpen then x else { x with isOpen := true, mask := 0, seq := 0, lost := none }

theorem openChan_eq (x : Channel) : openChan x = { x with
    isOpen := true, mask := if x.isOpen then x.mask else 0, seq := if x.isOpen then x.seq else 0
    lost := if x.isOpen then x.lost else none } := by
  unfold openChan
  cases x with
  | mk isOpen => cases isOpen <;> rfl

theorem exec_sessionOpen (hp : c.payload = [1]) : exec (.sessionOpen c) s = .next
    (((s.begin c 0x00).2.modChan c.ch openChan).ok (s.refOf c 0x00) ([1, 16, 64, 0xFF, 0x0F] ++ le 4 Config.firmwareBuild.toNat)) := by
  show Host.Outcome.next ((s.begin c 0x00).2.doSessionOpen (s.refOf c 0x00) c.payload) = _
  unfold State.doSessionOpen
  rw [hp, checked_ok (by decide)]
  rfl

theorem sessionOpen_chan (h : s.Ready c) : ((s.begin c 0x00).2.modChan c.ch openChan).chan c.ch = { s.chan c.ch with
    isOpen := true, mask := if (s.chan c.ch).isOpen then (s.chan c.ch).mask else 0
    seq := if (s.chan c.ch).isOpen then (s.chan c.ch).seq else 0
    lost := if (s.chan c.ch).isOpen then (s.chan c.ch).lost else none
    uses := (s.chan c.ch).uses ++ [s.useOf c 0x00] } := by
  rw [State.modChan_chan, if_pos rfl, openChan_eq, begin_chan h]
  rfl

/-- Loud reads end with the session of channel 31 alone (R457). -/
theorem loudEnds_eq (s : State) (ch : Nat) : s.loudEnds ch = { s with dbg.loud := s.dbg.loud && ch != 31 } := by
  unfold State.loudEnds
  by_cases h : ch = 31
  · simp [h]
  · rw [if_neg h, bne_iff_ne.mpr h, Bool.and_true]

/-- What a closed channel keeps. -/
def shutChan (x : Channel) : Channel := { x with isOpen := false, mask := 0, lost := none, bind := none, hello := none }

theorem closeChan_eq (s : State) (ch : Nat) :
    s.closeChan ch = { s.modChan ch shutChan with dbg.loud := s.dbg.loud && ch != 31 } := loudEnds_eq _ ch

theorem closeChan_chan (s : State) (ch k : Nat) : (s.closeChan ch).chan k = if ch = k then shutChan (s.chan ch) else s.chan k := by
  rw [closeChan_eq]
  exact State.modChan_chan s ch shutChan k

theorem closeChan_answers {t : State} {op status : Nat} {extra : Bytes} (h : s.Answers c op status extra t) :
    s.Answers c op status extra (t.closeChan c.ch) := by
  rw [closeChan_eq]
  exact h.modChan (f := shutChan) (fun _ => rfl) fun _ => rfl

theorem closeChan_loud (s : State) (ch : Nat) : (s.closeChan ch).dbg.loud = (s.dbg.loud && ch != 31) := by rw [closeChan_eq]

/-- A close finds only its own command in use, or is BUSY. -/
theorem exec_sessionClose (h : s.Ready c) (hp : c.payload = []) : exec (.sessionClose c) s = .next
    (if (s.chan c.ch).uses = [] then ((s.begin c 0x01).2.ok (s.refOf c 0x01)).closeChan c.ch
      else (s.begin c 0x01).2.finish (s.refOf c 0x01) stBusy) := by
  have others : (((s.begin c 0x01).2.chan c.ch).uses.any fun u => u.tag != c.tag.val) = true ↔ (s.chan c.ch).uses ≠ [] := by
    rw [begin_chan h, List.any_append]
    cases hu : (s.chan c.ch).uses with
    | nil => simp
    | cons v l => simp [h.tag v (hu ▸ List.mem_cons_self)]
  show Host.Outcome.next ((s.begin c 0x01).2.doSessionClose (s.refOf c 0x01) c.payload) = _
  unfold State.doSessionClose
  rw [hp, checked_ok (by decide)]
  by_cases empty : (s.chan c.ch).uses = []
  · rw [if_pos empty]
    exact congrArg Host.Outcome.next (if_neg (fun any => others.mp any empty))
  · rw [if_neg empty]
    exact congrArg Host.Outcome.next (if_pos (others.mpr empty))

end

/-! ### SESSION_RESET (R105) -/

section
variable {s : State} {ch tag : Nat}

/-- A channel after its reset: steps 1 to 4 of R105, and the OK reply. -/
def freshChan (tag : Nat) (x : Channel) : Channel := { resetChan x with outq := [⟨.final, tag, 0x82, [0], []⟩] }

/-- The commands of a channel that have been started and have not ended. -/
def State.running (s : State) (ch : Nat) : List Ref :=
  ((s.chan ch).live.filter (·.started)).map fun u => ⟨ch, u.tag, u.op, (s.chan ch).epoch⟩

/-- A reset of a channel that holds no update. -/
theorem sessionReset_eq (h : s.rd R.SEC_UPD_CHAN ≠ ch) : s.sessionReset ch tag =
    { ({ s with spoke.orphans := s.spoke.orphans ++ s.running ch }.modChan ch resetChan) with
      dbg.loud := s.dbg.loud && ch != 31 }.modChan ch (post ch true ⟨.final, tag, 0x82, le 1 stOk, []⟩) := by
  have keeps : ({ s with spoke.orphans := s.spoke.orphans ++ s.running ch } : State).updateReset ch =
      { s with spoke.orphans := s.spoke.orphans ++ s.running ch } := if_neg h
  unfold State.sessionReset
  dsimp only
  unfold State.running at keeps
  rw [keeps, loudEnds_eq]
  rfl

theorem sessionReset_chan (h : s.rd R.SEC_UPD_CHAN ≠ ch) : (s.sessionReset ch tag).chan ch = freshChan tag (s.chan ch) := by
  rw [sessionReset_eq h, State.modChan_chan, if_pos rfl]
  have shut := State.modChan_chan { s with spoke.orphans := s.spoke.orphans ++ s.running ch } ch resetChan ch
  rw [if_pos rfl] at shut
  exact (congrArg (post ch true ⟨.final, tag, 0x82, le 1 stOk, []⟩) shut).trans rfl

theorem sessionReset_chan_other (h : s.rd R.SEC_UPD_CHAN ≠ ch) {k : Nat} (hk : k ≠ ch) :
    (s.sessionReset ch tag).chan k = s.chan k := by
  rw [sessionReset_eq h, State.modChan_chan, if_neg hk.symm]
  exact (State.modChan_chan _ ch resetChan k).trans (if_neg hk.symm)

theorem sessionReset_frame_of_noUpdate (h : s.rd R.SEC_UPD_CHAN ≠ ch) : s.Frame [.spoke, .dbg] (s.sessionReset ch tag) := by
  rw [sessionReset_eq h]
  exact ((State.Frame.refl.spoke (by decide)).spoke (by decide)).dbg (by decide) |>.spoke (by decide)

end

/-! ### SUBSCRIBE, PING and SESSION_INFO (R73, R84, R107) -/

section
variable {s : State} {c : Cmd}

/-- The mask check of SUBSCRIBE fails where a bit stands for no event. -/
theorem maskCheck_eq (m : Nat) : ((List.range 128).any fun n => bit m n && !definedEvents.contains n) =
    !((List.range 128).all fun n => !bit m n || definedEvents.contains n) := by
  rw [List.not_all_eq_any_not]
  simp

theorem doSubscribe_checks (s : State) (r : Ref) (p : Bytes) : ∃ k, s.doSubscribe r p = s.checked r
    [lengthIs p 16, param ((List.range 128).any fun n => bit (ofLe p) n && !definedEvents.contains n)] k := by
  unfold State.doSubscribe
  exact ⟨_, rfl⟩

theorem exec_subscribe (len : c.payload.length = 16)
    (defined : ((List.range 128).all fun n => !bit (ofLe c.payload) n || definedEvents.contains n) = true) :
    exec (.subscribe c) s = .next (((s.begin c 0x04).2.ok (s.refOf c 0x04)).modChan c.ch fun x =>
      { x with mask := ofLe c.payload }) := by
  show Host.Outcome.next ((s.begin c 0x04).2.doSubscribe (s.refOf c 0x04) c.payload) = _
  unfold State.doSubscribe
  dsimp only
  rw [checked_ok (by rw [firstBad_of_length len, maskCheck_eq, defined]; rfl)]
  rfl

theorem exec_ping (len : c.payload.length = 4) : exec (.ping c) s = .next ((s.begin c 0x05).2.ok (s.refOf c 0x05) c.payload) := by
  show Host.Outcome.next ((s.begin c 0x05).2.doPing (s.refOf c 0x05) c.payload) = _
  unfold State.doPing
  rw [checked_ok (firstBad_of_length len [])]

/-- The 11 bytes of SESSION_INFO: state, commands in use with its own, and the four counts. -/
def State.info (s : State) (ch : Nat) : Bytes :=
  le 1 (b2n (s.chan ch).isOpen) ++ le 1 ((s.chan ch).uses.length + 1) ++ le 2 (s.rxPath (transportOf ch)).crcDisc ++
    le 2 (s.rxPath (transportOf ch)).frmDisc ++ le 2 (s.chan ch).drops ++ le 2 (s.chan ch).lostCnt

theorem exec_sessionInfo (h : s.Ready c) (hp : c.payload = []) : exec (.sessionInfo c) s = .next
    ((if (c.ch.val == 31 && !s.dbg.loud) = true then (s.begin c 0x07).2 else (s.begin c 0x07).2.infoClear c.ch).ok (s.refOf c 0x07)
      (s.info c.ch)) := by
  have unbound : (if (!(s.chan c.ch).isOpen) = true then 0 else if (s.chan c.ch).bind.isSome = true then 2 else 1) =
      b2n (s.chan c.ch).isOpen := by
    rw [h.bind]
    cases (s.chan c.ch).isOpen <;> rfl
  show Host.Outcome.next ((s.begin c 0x07).2.doSessionInfo (s.refOf c 0x07) c.payload) = _
  unfold State.doSessionInfo
  rw [hp, checked_ok (by decide)]
  dsimp only
  rw [begin_quietRead h, show (s.refOf c 0x07).ch = c.ch.val from rfl, begin_chan h]
  dsimp only
  rw [unbound, List.length_append]
  cases (c.ch.val == 31 && !s.dbg.loud) <;> rfl

theorem infoClear_rxPath (s : State) (ch : Nat) : (s.infoClear ch).rxPath (transportOf ch) =
    { s.rxPath (transportOf ch) with crcDisc := 0, frmDisc := 0 } := (mget_mput _ _ _ _ _).trans (if_pos rfl)

theorem infoClear_chan (s : State) (ch k : Nat) : (s.infoClear ch).chan k =
    if ch = k then { s.chan ch with drops := 0, lostCnt := 0 } else s.chan k := State.modChan_chan _ ch _ k

end

/-- Settles O30, opcode by opcode: what the started command makes of its channel, its reply, and the refusals by the first check. -/
theorem sessions : Obligations.Sessions := by
  unfold Obligations.Sessions
  refine ⟨fun s c h hp => ?opens, fun s c v h hp wrong => ?version, fun s c h hp unused => ?closes, fun s c h hp used => ?busy,
    fun s c hp noUpdate => ?resets, fun s c h len defined => ?subscribes, fun s c h len undefined => ?mask, fun s c h len => ?pings,
    fun s c x h hp hx => ?informs, fun s c h => ?lengths⟩
  case opens =>
    have own := sessionOpen_chan h
    have calm : ((s.begin c 0x00).2.modChan c.ch openChan).flt.recov = [] := (begin_calm (op := 0x00) h :)
    have replied := finish_chan_of_started (status := stOk)
      (extra := [1, 16, 64, 0xFF, 0x0F] ++ le 4 Config.firmwareBuild.toNat) h calm own
    refine ⟨_, exec_sessionOpen hp, answers_of_started h calm own fun k hk => ?_, congrArg Channel.isOpen replied, fun closed => ?_,
      fun opened => ?_, (State.modChan_frame (Covers.refl.sub rfl) begin_frame_spoke).trans (finish_frame_of_calm calm)⟩
    · rw [State.modChan_chan, if_neg hk.symm, begin_chan_other hk]
    · exact ⟨(congrArg Channel.mask replied).trans (by simp [closed]), (congrArg Channel.seq replied).trans (by simp [closed])⟩
    · exact ⟨(congrArg Channel.mask replied).trans (if_pos opened), (congrArg Channel.seq replied).trans (if_pos opened)⟩
  case version =>
    refine refuses_of_check h rfl ⟨_, rfl⟩ ?_ (by decide)
    have other : decide (u8 c.payload 0 ≠ 1) = true := by
      rw [hp]
      simpa [u8, sub, ofLe] using fun one => wrong (BitVec.eq_of_toNat_eq one)
    rw [firstBad_of_length (by rw [hp]; rfl), other]
    rfl
  case closes =>
    have own := (closeChan_chan ((s.begin c 0x01).2.ok (s.refOf c 0x01)) c.ch c.ch).trans (if_pos rfl)
    refine ⟨_, (exec_sessionClose h hp).trans (congrArg Host.Outcome.next (if_pos unused)),
      closeChan_answers (ok_answers h rfl (begin_calm h)), congrArg Channel.isOpen own, congrArg Channel.mask own, ?_,
      State.closeChan_frame (Covers.refl.sub rfl) ((reply_frame h).mono (Covers.refl.sub rfl))⟩
    exact (closeChan_loud _ _).trans (congrArg (fun d : Dbg => d.loud && c.ch.val != 31) (reply_frame h .dbg (by decide)))
  case busy => exact refuses_of_finish h ((exec_sessionClose h hp).trans (congrArg Host.Outcome.next (if_neg used)))
  case resets =>
    have runs : s.resetSession c = s.sessionReset c.ch c.tag := if_pos (by rw [hp]; rfl)
    refine ⟨_, congrArg Host.Outcome.next runs, sessionReset_chan noUpdate, ?_, fun k => sessionReset_chan_other noUpdate, ?_,
      sessionReset_frame_of_noUpdate noUpdate⟩ <;>
    rw [sessionReset_eq noUpdate] <;> rfl
  case subscribes =>
    have own := (State.modChan_chan ((s.begin c 0x04).2.ok (s.refOf c 0x04)) c.ch (fun x => { x with mask := ofLe c.payload })
      c.ch).trans (if_pos rfl)
    exact ⟨_, exec_subscribe len defined, (ok_answers h rfl (begin_calm h)).modChan (fun _ => rfl) fun _ => rfl,
      congrArg Channel.mask own, State.modChan_frame (Covers.refl.sub rfl) (reply_frame h)⟩
  case mask =>
    refine refuses_of_check h rfl (doSubscribe_checks _ _ _) ?_ (by decide)
    rw [firstBad_of_length len, maskCheck_eq, undefined]
    rfl
  case pings => exact ⟨_, exec_ping len, ok_answers h rfl (begin_calm h), reply_frame h⟩
  case informs =>
    subst hx
    have runs := exec_sessionInfo h hp
    by_cases quiet : (c.ch.val == 31 && !s.dbg.loud) = true
    · rw [if_pos quiet] at runs
      have replied := finish_chan_of_started (status := stOk) (extra := s.info c.ch) h (begin_calm h) (begin_chan (op := 0x07) h)
      refine ⟨_, runs, ok_answers h rfl (begin_calm h), fun loud => ?_,
        fun _ _ => ⟨(congrArg Channel.drops replied :), finish_rxPath _⟩, reply_frame h⟩
      obtain ⟨ch, silent⟩ : c.ch.val = 31 ∧ s.dbg.loud = false := by simpa using quiet
      exact absurd loud (by simp [ch, silent])
    · rw [if_neg quiet] at runs
      have calm : ((s.begin c 0x07).2.infoClear c.ch).flt.recov = [] := (begin_calm (op := 0x07) h :)
      have own := (infoClear_chan (s.begin c 0x07).2 c.ch c.ch).trans (if_pos rfl)
      rw [begin_chan h] at own
      have replied := finish_chan_of_started (status := stOk) (extra := s.info c.ch) h calm own
      refine ⟨_, runs, answers_of_started h calm own fun k hk => ?_, fun _ => ⟨congrArg Channel.drops replied,
        congrArg Channel.lostCnt replied, (finish_rxPath _).trans (infoClear_rxPath _ _)⟩, fun ch silent => ?_,
        (State.infoClear_frame (Covers.refl.sub rfl) begin_frame_spoke).trans (finish_frame_of_calm calm)⟩
      · rw [infoClear_chan, if_neg hk.symm, begin_chan_other hk]
      · exact absurd (by rw [ch, silent]; rfl) quiet
  case lengths =>
    have bad {n : Nat} (wrong : c.payload.length ≠ n) (l : List (Bool × Nat)) := firstBad_of_badLength wrong l
    exact ⟨fun wrong => refuses_of_check h rfl ⟨_, rfl⟩ (bad wrong _) (by decide),
      fun wrong => ⟨refuses_of_check h rfl ⟨_, rfl⟩ (bad wrong _) (by decide),
        refuses_of_check h rfl ⟨_, rfl⟩ (bad wrong _) (by decide)⟩,
      fun wrong => refuses_of_check h rfl (doSubscribe_checks _ _ _) (bad wrong _) (by decide),
      fun wrong => refuses_of_check h rfl ⟨_, rfl⟩ (bad wrong _) (by decide)⟩

end Sys2Proof.Machine
end

section
/-!
PROOFS. The host interface (R92 to R103, R107, 03_spoke_packets.md): HUB_RESET and HOST_BAUD with the rows that follow them, and the
SPI transactions.
-/

namespace Sys2Proof.Machine

/-! ### HUB_RESET (R107) -/

section
variable {s : State} {c : Cmd}

/-- The last check of HUB_RESET fails on an unauthenticated bus channel, and during the power-fail sequence. -/
theorem hubReset_permitted (h : s.Ready c) : (!(decide (16 ≤ c.ch.val ∧ c.ch.val ≤ 23) &&
      ((s.begin c 0x03).2.chan c.ch).bind.isNone) && !(s.begin c 0x03).2.on R.PWR_STAT_PFSEQ) =
    !decide (16 ≤ c.ch.val ∧ c.ch.val ≤ 23 ∨ s.rd R.PWR_STAT_PFSEQ = 1) := by
  rw [begin_bind, h.bind]
  rw [Option.isNone_none, Bool.and_true, Bool.decide_or, Bool.not_or]
  rfl

theorem doHubReset_checks (h : s.Ready c) : ∃ k, (s.begin c 0x03).2.doHubReset (s.refOf c 0x03) c.payload =
      (s.begin c 0x03).2.checked (s.refOf c 0x03) [lengthIs c.payload 2, param (decide (c.payload ≠ [0x3C, 0xC3])),
        permitted (!decide (16 ≤ c.ch.val ∧ c.ch.val ≤ 23 ∨ s.rd R.PWR_STAT_PFSEQ = 1))] k := by
  unfold State.doHubReset
  dsimp only
  rw [← hubReset_permitted h]
  exact ⟨_, rfl⟩

theorem exec_hubReset (h : s.Ready c) (hp : c.payload = [0x3C, 0xC3]) (bound : ¬ (16 ≤ c.ch.val ∧ c.ch.val ≤ 23))
    (calm : s.rd R.PWR_STAT_PFSEQ ≠ 1) :
    exec (.hubReset c) s = .next { (s.begin c 0x03).2.ok (s.refOf c 0x03) with spoke.rstAt := some (s.ticks + 1024) } := by
  show Host.Outcome.next ((s.begin c 0x03).2.doHubReset (s.refOf c 0x03) c.payload) = _
  unfold State.doHubReset
  dsimp only
  rw [checked_ok]
  · rfl
  · rw [show (s.refOf c 0x03).ch = c.ch.val from rfl, hubReset_permitted h, decide_eq_false (not_or.mpr ⟨bound, calm⟩), hp]
    rfl

theorem hubResetStarts_of_due {n : Nat} (h : s.spoke.rstAt = some n) (due : s.repliesLeft 0x83 = true ∨ n ≤ s.ticks) :
    s.hubResetStarts = { s with spoke.rstAt := none }.hubReset 3 := by
  unfold State.hubResetStarts
  rw [h]
  exact if_pos (by simpa using due)

theorem hubResetStarts_of_early {n : Nat} (h : s.spoke.rstAt = some n) (waits : s.repliesLeft 0x83 = false) (early : s.ticks < n) :
    s.hubResetStarts = s := by
  unfold State.hubResetStarts
  rw [h]
  exact if_neg (by simpa [waits] using early)

theorem hubResetStarts_of_none (h : s.spoke.rstAt = none) : s.hubResetStarts = s := by
  unfold State.hubResetStarts
  rw [h]

end

/-! ### HOST_BAUD and the rate it sets (R101, R103, R107) -/

section
variable {s : State} {c : Cmd}

theorem u32_of_length {p : Bytes} (h : p.length = 4) : u32 p 0 = ofLe p := by
  unfold u32 sub
  rw [List.drop_zero, List.take_of_length_le h.le]

/-- The checks of HOST_BAUD on a payload of the right length. -/
theorem baudChecks (len : c.payload.length = 4) : firstBad [lengthIs c.payload 4, param (!bauds.contains (u32 c.payload 0)),
      permitted (decide ((s.refOf c 0x06).ch < 16) && (s.begin c 0x06).2.host.uart)] =
    if ofLe c.payload ∉ bauds then stBadParam else if 16 ≤ c.ch.val ∨ s.host.uart = false then stNotPermitted else stOk := by
  have unknown : (!bauds.contains (ofLe c.payload)) = true ↔ ofLe c.payload ∉ bauds := by simp
  have elsewhere : (!(decide ((s.refOf c 0x06).ch < 16) && (s.begin c 0x06).2.host.uart)) = true ↔
      16 ≤ c.ch.val ∨ s.host.uart = false := by
    rw [Bool.not_and, Bool.or_eq_true, Bool.not_eq_true', Bool.not_eq_true', decide_eq_false_iff_not, Nat.not_lt]
    rfl
  rw [firstBad_of_length len, u32_of_length len]
  simp only [param, permitted, firstBad, unknown, elsewhere]

theorem exec_hostBaud (len : c.payload.length = 4) (rate : ofLe c.payload ∈ bauds) (host : c.ch.val < 16) (uart : s.host.uart = true) :
    exec (.hostBaud c) s = .next { (s.begin c 0x06).2.ok (s.refOf c 0x06) with host.nextBaud := some (ofLe c.payload) } := by
  show Host.Outcome.next ((s.begin c 0x06).2.doHostBaud (s.refOf c 0x06) c.payload) = _
  unfold State.doHostBaud
  rw [checked_ok ((baudChecks len).trans (by simp [rate, host, uart])), u32_of_length len]

theorem baudChanges_of_sent {b : Nat} (h : s.host.nextBaud = some b) (sent : s.repliesLeft 0x86 = true) : s.baudChanges =
    { s with host := { s.host with nextBaud := none, prevBaud := some s.host.baud, baud := b, baudEnd := s.ticks + 2048 } } := by
  unfold State.baudChanges
  rw [h]
  exact if_pos sent

theorem baudReverts_of_due {b : Nat} (h : s.host.prevBaud = some b) (due : s.host.baudEnd ≤ s.ticks) : s.baudReverts =
    { s with host := { s.host with prevBaud := none, baud := b } }.setRx 0
      { s.rxPath 0 with frmDisc := satAdd 0xFFFF (s.rxPath 0).frmDisc 1 } := by
  unfold State.baudReverts
  rw [h]
  exact if_pos due

theorem baudReverts_of_not_due (h : s.host.prevBaud = none ∨ s.ticks < s.host.baudEnd) : s.baudReverts = s := by
  unfold State.baudReverts
  cases hb : s.host.prevBaud with
  | none => rfl
  | some b => exact if_neg (Nat.not_le.mpr (h.resolve_left (by simp [hb])))

end

/-- Settles O31: HUB_RESET and HOST_BAUD by their checks in order, then each row that follows them, due or not. -/
theorem resetAndRate : Obligations.ResetAndRate := by
  unfold Obligations.ResetAndRate
  refine ⟨fun s c h hp bound calm => ?reset, fun s c h hp kept => ?kept, fun s c h len wrong => ?wrong,
    fun s n h due => congrArg Host.Outcome.next (hubResetStarts_of_due h due),
    fun s n h waits early => congrArg Host.Outcome.next (hubResetStarts_of_early h waits early),
    fun s h => congrArg Host.Outcome.next (hubResetStarts_of_none h), fun s c h len rate host uart => ?baud,
    fun s c h len rate elsewhere => ?elsewhere, fun s c h len other => ?other, fun s b => baudChanges_of_sent,
    fun s b h due => ?reverts, fun s h => congrArg Host.Outcome.next (baudReverts_of_not_due h)⟩
  case reset =>
    exact ⟨_, exec_hubReset h hp (by omega) calm, (ok_answers h rfl (begin_calm h)).of_chans rfl, rfl,
      (reply_frame h).spoke (by decide)⟩
  case kept =>
    refine refuses_of_check h rfl (doHubReset_checks h) ?_ (by decide)
    rw [hp, decide_eq_true kept]
    rfl
  case wrong =>
    refine refuses_of_check h rfl (doHubReset_checks h) ?_ (by decide)
    rw [firstBad_of_length len, decide_eq_true wrong]
    rfl
  case baud =>
    refine ⟨_, exec_hostBaud len rate host uart, (ok_answers h rfl (begin_calm h)).of_chans rfl, ?_,
      ((reply_frame h).mono (Covers.refl.sub rfl)).host (by decide)⟩
    exact congrArg (fun i : HostIf => { i with nextBaud := some (ofLe c.payload) }) (reply_frame h .host (by decide))
  case elsewhere =>
    exact refuses_of_check h rfl ⟨_, rfl⟩ ((baudChecks len).trans ((if_neg (not_not.mpr rate)).trans (if_pos elsewhere))) (by decide)
  case other => exact refuses_of_check h rfl ⟨_, rfl⟩ ((baudChecks len).trans (if_pos other)) (by decide)
  case reverts =>
    have takes := setRx_takesIn { s with host := { s.host with prevBaud := none, baud := b } }
      { s.rxPath 0 with frmDisc := satAdd 0xFFFF (s.rxPath 0).frmDisc 1 }
    exact ⟨_, congrArg Host.Outcome.next (baudReverts_of_due h due), (congrArg HostIf.baud takes.host :), setRx_prevBaud _ _,
      takes.path, (State.Frame.refl.host (by decide)).trans takes.frame⟩

/-! ### SPI transactions (R93 to R99) -/

section
variable {s : State} {f : State → Bytes × State} {len : Nat} {data : Bytes}

/-- What HST_MISO carries in a transaction. -/
def State.sends (s : State) (m : Bytes) : State := { s with host.miso := m }

@[simp] theorem State.sends_miso (s : State) (m : Bytes) : (s.sends m).host.miso = m := rfl

@[simp] theorem State.sends_disc (s : State) (m : Bytes) : (s.sends m).host.disc = s.host.disc := rfl

/-- A transaction sends its preamble, clears WOVF, WCUT and DISC, and then does what its OP does. -/
theorem spi_of_on (on : s.spiOn = true) : s.spi f = (f s.spiPreamble.2).2.sends (s.spiPreamble.1 ++ (f s.spiPreamble.2).1) :=
  if_pos on

theorem spi_of_off (off : s.spiOn = false) : s.spi f = { s with host.miso := [] } := if_neg (by rw [off]; exact Bool.false_ne_true)

theorem spiFlags_eq (s : State) : s.spiFlags = (if s.ready then 1 else 0) + (if s.pktWhole then 2 else 0) +
    (if s.host.wovf then 4 else 0) + (if s.host.wcut then 8 else 0) + (if s.host.disc then 16 else 0) := by
  unfold State.spiFlags b2n
  simp only [mul_ite, mul_one, mul_zero]

theorem spiPreamble_frame_host (s : State) : s.Frame [.host] s.spiPreamble.2 := State.Frame.refl.host (by decide)

@[simp] theorem spiPreamble_rxPath (s : State) (k : Nat) : s.spiPreamble.2.rxPath k = s.rxPath k := rfl

@[simp] theorem spiPreamble_disc (s : State) : s.spiPreamble.2.host.disc = false := rfl

/-- A transaction that takes bytes in, or drops some: the path is the new one, the preamble has cleared WOVF and WCUT, and the
transmit FIFO and the channels are as they were. -/
theorem State.TakesIn.transaction {t : State} {x : RxPath} (h : s.spiPreamble.2.TakesIn x t) (m : Bytes) :
    (t.sends m).rxPath 0 = x ∧ (t.sends m).host.wovf = false ∧ (t.sends m).host.wcut = false ∧ (t.sends m).host.tx = s.host.tx ∧
      (∀ ch, (t.sends m).chan ch = s.chan ch) ∧ s.Frame [.spoke, .host] (t.sends m) :=
  ⟨h.path, (congrArg HostIf.wovf h.host :), (congrArg HostIf.wcut h.host :), (congrArg HostIf.tx h.host :), h.chans,
    (((spiPreamble_frame_host s).mono (Covers.refl.sub rfl)).trans h.frame).host (by decide)⟩

/-- A WRITE of exactly LEN bytes that fit is committed. -/
theorem spiWrite_of_good (on : s.spiOn = true) (small : data.length < 65536) (fits : data.length ≤ s.rxFree) :
    s.spiWrite data.length data = (s.spiPreamble.2.hostRx fun s => s.rxBytes 0 data).sends (s.spiPreamble.1 ++ zeros data.length) := by
  unfold State.spiWrite
  rw [spi_of_on on]
  dsimp only
  rw [Nat.mod_eq_of_lt small, if_neg (Nat.not_lt.mpr fits), if_neg (not_not.mpr rfl)]

/-- A WRITE that does not fit sets WOVF, another of the wrong length WCUT, and neither is committed. -/
theorem spiWrite_of_bad (on : s.spiOn = true) (small : len < 65536) (bad : s.rxFree < len ∨ data.length ≠ len) :
    s.spiWrite len data = { s with host := { s.host with
      miso := s.spiPreamble.1 ++ zeros data.length, disc := false
      wovf := decide (s.rxFree < len), wcut := decide (len ≤ s.rxFree) } } := by
  unfold State.spiWrite
  rw [spi_of_on on]
  dsimp only
  rw [Nat.mod_eq_of_lt small]
  by_cases large : s.rxFree < len
  · rw [if_pos large, decide_eq_true large, decide_eq_false (Nat.not_le.mpr large)]
    rfl
  · rw [if_neg large, if_pos (bad.resolve_left large), decide_eq_false large, decide_eq_true (Nat.not_lt.mp large)]
    rfl

theorem spiWrite_of_off (off : s.spiOn = false) : s.spiWrite len data = { s with host.miso := [] } := by
  unfold State.spiWrite
  exact spi_of_off off

theorem spiRead_of_off {clocked : Nat} (off : s.spiOn = false) : s.spiRead len clocked = { s with host.miso := [] } := by
  unfold State.spiRead
  exact spi_of_off off

/-- A READ takes min(LEN, TX_AVAIL) bytes off the transmit FIFO, no more than are clocked. -/
theorem spiRead_eq {clocked n : Nat} (on : s.spiOn = true) (small : len < 65536) (hn : n = min (min len clocked) s.host.tx.length) :
    s.spiRead len clocked = (s.spiPreamble.2.txTake n).2.sends
      (s.spiPreamble.1 ++ (s.host.tx.take n ++ zeros (clocked - n))) := by
  unfold State.spiRead
  rw [spi_of_on on]
  dsimp only
  rw [Nat.mod_eq_of_lt small]
  subst hn
  rfl

/-- A FLUSH empties what stands of an incomplete frame. -/
theorem spiFlush_of_on (on : s.spiOn = true) : s.spiFlush = (s.spiPreamble.2.setRx 0 { s.rxPath 0 with part := [] }).sends
    (s.spiPreamble.1 ++ []) := spi_of_on on

end

/-- Settles O35, transaction by transaction: the preamble, then what the OP does to the FIFOs. -/
theorem spiTransactions : Obligations.SpiTransactions := by
  unfold Obligations.SpiTransactions
  refine ⟨fun s => ⟨rfl, spiFlags_eq s⟩, fun s on => ?status, fun s len data on fits whole small => ?write,
    fun s len data on small bad => congrArg Host.Outcome.next (spiWrite_of_bad on small bad), fun s len clocked n on small hn => ?read,
    fun s on => ?flush, fun s len data off => ?off⟩
  case status =>
    refine congrArg Host.Outcome.next ((spi_of_on on).trans ?_)
    dsimp only
    rw [List.append_nil]
    rfl
  case write =>
    subst whole
    have takes := hostBytes_takesIn s.spiPreamble.2 data
    rw [spiPreamble_rxPath] at takes
    obtain ⟨path, wovf, wcut, tx, chans, frame⟩ := takes.transaction (s.spiPreamble.1 ++ zeros data.length)
    exact ⟨_, congrArg Host.Outcome.next (spiWrite_of_good on small fits), path, State.sends_miso _ _, wovf, wcut, tx, chans, frame⟩
  case read =>
    exact ⟨_, congrArg Host.Outcome.next (spiRead_eq on small hn), (List.append_assoc ..).symm, rfl, rfl, rfl, rfl,
      (State.txTake_frame (Covers.refl.sub rfl) (spiPreamble_frame_host s)).host (by decide)⟩
  case flush =>
    have takes := setRx_takesIn s.spiPreamble.2 { s.rxPath 0 with part := [] }
    obtain ⟨path, wovf, wcut, -, -, frame⟩ := takes.transaction (s.spiPreamble.1 ++ [])
    have disc : ((s.spiPreamble.2.setRx 0 { s.rxPath 0 with part := [] }).sends (s.spiPreamble.1 ++ [])).host.disc = false := by
      rw [State.sends_disc, takes.disc, spiPreamble_rxPath, spiPreamble_disc]
      simp only [lt_self_iff_false, or_self, decide_false, Bool.or_self]
    exact ⟨_, congrArg Host.Outcome.next (spiFlush_of_on on), path,
      (State.sends_miso _ _).trans (List.append_nil _), wovf, wcut, disc, frame⟩
  case off =>
    exact ⟨congrArg Host.Outcome.next (spi_of_off off), congrArg Host.Outcome.next (spiWrite_of_off off),
      congrArg Host.Outcome.next (spiRead_of_off off), congrArg Host.Outcome.next (spi_of_off off)⟩

end Sys2Proof.Machine
end

section
/-!
PROOFS. The installer console (R64 to R67, 03_spoke_packets.md; R237, 08_paddock.md): what a key does at the menu and in item 1, what
the menu offers, and when the console opens and closes.
-/

namespace Sys2Proof.Machine

variable {s : State} {k : Nat}

/-! ### Opening, and keys by the mode (R65) -/

/-- The console as OK opens it. -/
def State.consoleOpened (s : State) : State := { s with console := { s.console with
  isOpen := true, mode := .menu, sel := 0, digits := [], idle := 0, awaits := none, draw := 61 } }

theorem consoleOpens_of_ready (closed : s.console.isOpen = false) (ready : s.consoleReady = true) :
    s.consoleOpens = s.consoleOpened.event 0x02 [1, 0] := if_neg (by simp [closed, ready])

theorem consoleOpens_of_not (h : s.console.isOpen = true ∨ s.consoleReady = false) : s.consoleOpens = s := if_pos (by simpa using h)

/-- A closed console takes no key but OK. -/
theorem consoleKeyed_of_closed (closed : s.console.isOpen = false) : s.consoleKeyed k = if k = 0x0D then s.consoleOpens else s :=
  if_neg (by rw [closed]; exact Bool.false_ne_true)

/-- A key at the menu. -/
theorem consoleKeyed_menu (opened : s.console.isOpen = true) (mode : s.console.mode = .menu) :
    s.consoleKeyed k = { s with console.idle := 0 }.menuKey k := by
  unfold State.consoleKeyed
  rw [if_pos opened]
  dsimp only
  rw [mode]

/-- A key in item 1. -/
theorem consoleKeyed_commission {page : Nat} (opened : s.console.isOpen = true) (mode : s.console.mode = .item 1 page) :
    s.consoleKeyed k = { s with console.idle := 0 }.commissionKey k := by
  unfold State.consoleKeyed
  rw [if_pos opened]
  dsimp only
  rw [mode]
  rfl

/-! ### What the menu offers (R66) -/

theorem emptyPairSlot_isSome_iff : s.emptyPairSlot.isSome = true ↔ ∃ n ∈ List.range 16, 8 ≤ n ∧ s.rd (R.SEC_SLOT_KIND n) = 0 := by
  have slots : ∀ n, n ∈ ([8, 9, 10, 11, 12, 13, 14, 15] : List Nat) ↔ n ∈ List.range 16 ∧ 8 ≤ n := fun n => by
    simp only [List.mem_cons, List.not_mem_nil, or_false, List.mem_range]
    omega
  unfold State.emptyPairSlot
  simp only [List.find?_isSome, slots, beq_iff_eq, and_assoc]

/-- An item is offered when its condition holds, and item 4 always. -/
theorem mem_consoleItems {n : Nat} : n ∈ s.consoleItems ↔ n = 1 ∧ s.on R.PAD_STAT_STAGED = true ∨ n = 2 ∧ s.latched ≠ [] ∨
    n = 3 ∧ s.emptyPairSlot.isSome = true ∨ n = 4 := by
  have offered (b : Prop) [Decidable b] (m : Nat) : n ∈ (if b then [m] else []) ↔ n = m ∧ b := by split <;> simp [*]
  have withheld (b : Prop) [Decidable b] (m : Nat) : n ∈ (if b then [] else [m]) ↔ n = m ∧ ¬ b := by split <;> simp [*]
  unfold State.consoleItems
  simp only [List.mem_append, offered, withheld, List.mem_singleton, List.isEmpty_iff, or_assoc, ne_eq]

/-! ### Keys at the menu -/

/-- An item other than pairing opens at its first page. -/
theorem consoleTake_of_ne {n : Nat} (h : n ≠ 3) : s.consoleTake n =
    { s with console := { s.console with sel := 0, digits := [], mode := .item n 0, draw := 61 } } := by
  unfold State.consoleTake
  split
  · exact absurd rfl h
  · rfl

/-- Where the selection stands, and the item under it. -/
def State.menuAt (s : State) : Nat := min s.console.sel (s.consoleItems.length - 1)

theorem menuKey_ok_of_ne (h : s.consoleItems[s.menuAt]? ≠ some 3) : s.menuKey 0x0D = { s with console := { s.console with
    sel := 0, digits := [], mode := .item (s.consoleItems.getD s.menuAt 4) 0, draw := 61 } } := by
  refine consoleTake_of_ne fun three => h ?_
  rw [List.getD_eq_getElem?_getD] at three
  unfold State.menuAt
  cases item : s.consoleItems[min s.console.sel (s.consoleItems.length - 1)]? with
  | none => rw [item] at three; exact absurd three (by decide)
  | some n => rw [item] at three; exact congrArg some three

/-! ### Keys in item 1 (R237) -/

theorem commissionKey_digit {x : Nat} (good : s.rd R.PAD_STAGED_FIRST_BAD = 0xFF) (room : s.console.digits.length < 8)
    (digit : keyDigit k = some x) (ok : k ≠ 0x0D) (del : k ≠ 0x08) (back : k ≠ 0x1B) :
    s.commissionKey k = { s with console := { s.console with digits := s.console.digits ++ [x], draw := 61 } } := by
  unfold State.commissionKey
  dsimp only
  rw [if_neg back, if_neg (not_not.mpr good), if_neg del, if_neg ok, digit]
  exact if_pos room

/-- OK on eight digits sends them. -/
theorem commissionKey_ok (good : s.rd R.PAD_STAGED_FIRST_BAD = 0xFF) (eight : s.console.digits.length = 8) : s.commissionKey 0x0D =
    (s.consoleAsk 1 0 0x41 (le 4 (s.console.digits.foldl (fun n x => 16 * n + x) 0))).consoleDraw := by
  unfold State.commissionKey
  dsimp only
  rw [if_neg (by decide), if_neg (not_not.mpr good), if_neg (by decide), if_pos rfl, if_pos eight]

/-- The command of the console enters the in queue of channel 24 with the console's next tag. -/
theorem consoleSend_of_room {op : Nat} {p : Bytes} (room : (s.chan 24).uses.length < 16) : s.consoleSend op p =
    ({ s with console.tag := (s.console.tag + 1) % 127 } : State).modChan 24 fun c => { c with
      uses := c.uses ++ [{ tag := s.console.tag, op := op, payload := p, started := false }] } := if_pos room

/-- What an item asks for: the command on channel 24, and its reply awaited. -/
theorem consoleAsk_of_room {n page op : Nat} {p : Bytes} (room : (s.chan 24).uses.length < 16) :
    ((s.consoleAsk n page op p).consoleDraw.chan 24).uses = (s.chan 24).uses ++ [⟨s.console.tag, op, p, false, false⟩] ∧
    (s.consoleAsk n page op p).consoleDraw.console = { s.console with
      tag := (s.console.tag + 1) % 127, awaits := some s.console.tag, mode := .waiting n page, draw := 61 } ∧
    s.Frame [.spoke, .console] (s.consoleAsk n page op p).consoleDraw := by
  unfold State.consoleAsk
  rw [consoleSend_of_room room]
  refine ⟨?_, rfl, ?_⟩
  · exact congrArg Channel.uses ((State.modChan_chan _ 24 _ 24).trans (if_pos rfl))
  · exact ((State.modChan_frame (Covers.refl.sub rfl) (State.Frame.refl.console (by decide))).console (by decide)).console (by decide)

/-! ### Closing (R65, R67) -/

/-- The console as it closes. -/
def State.consoleShut (s : State) : State := { s with console := { s.console with
  isOpen := false, mode := .menu, sel := 0, digits := [], idle := 0, awaits := none, draw := 0 } }

/-- A close rejects a pending pairing START, fills the panel with DIS_LEVEL and presents it, and tells CONSOLE. -/
theorem consoleCloses_of_open (opened : s.console.isOpen = true) : s.consoleCloses =
    (((if s.sec.pair.isSome then s.consoleShut.pairAnswer false else s.consoleShut).consoleSend 0x62
      ([0, 0, 0, 0, 0x40, 1, 0xF0, 0] ++ le 1 (s.rd R.DSP_CFG_DIS_LEVEL) ++ le 1 (s.rd R.DSP_CFG_DIS_LEVEL) ++
        le 1 (s.rd R.DSP_CFG_DIS_LEVEL))).consoleSend 0x63 []).event 0x02 ([0] ++ le 1 s.console.mode.at_) := if_pos opened

/-- Settles O36: opening, the menu and its keys, item 1, and what each of the three rows that may close the console asks for. -/
theorem installerConsole : Obligations.InstallerConsole := by
  unfold Obligations.InstallerConsole
  refine ⟨fun s closed ready => ?opens, fun s k closed h => ?deaf, fun s h => congrArg Host.Outcome.next (consoleOpens_of_not h),
    fun s => ?items, fun s n opened mode hn => ?menu, fun s page k x opened mode good room digit ok del back => ?digit,
    fun s page opened mode good eight room => ?sends, fun s l opened hl => ?closing, fun s opened h => ?close, fun s h => ?stays,
    fun s opened idle => ?idle, fun s h => ?notIdle⟩
  case opens =>
    exact ⟨_, rfl, congrArg Host.Outcome.next (consoleOpens_of_ready closed ready),
      congrArg Host.Outcome.next (consoleKeyed_of_closed closed)⟩
  case deaf =>
    refine congrArg Host.Outcome.next ((consoleKeyed_of_closed closed).trans ?_)
    split
    · rename_i isOk
      exact consoleOpens_of_not (.inr (h.resolve_left fun other => other (BitVec.eq_of_toNat_eq isOk)))
    · rfl
  case items => simp [mem_consoleItems, emptyPairSlot_isSome_iff, State.on_iff]
  case menu =>
    subst hn
    refine ⟨congrArg Host.Outcome.next ((consoleKeyed_menu opened mode).trans rfl),
      congrArg Host.Outcome.next ((consoleKeyed_menu opened mode).trans rfl),
      congrArg Host.Outcome.next ((consoleKeyed_menu opened mode).trans rfl), fun other => ?_⟩
    exact congrArg Host.Outcome.next ((consoleKeyed_menu opened mode).trans (menuKey_ok_of_ne other))
  case digit =>
    have key {v : Byte} (h : k ≠ v) : k.toNat ≠ v.toNat := fun same => h (BitVec.eq_of_toNat_eq same)
    exact congrArg Host.Outcome.next ((consoleKeyed_commission opened mode).trans
      (commissionKey_digit good room digit (key ok) (key del) (key back)))
  case sends =>
    have asks := consoleAsk_of_room (s := { s with console.idle := 0 }) (n := 1) (page := 0) (op := 0x41)
      (p := le 4 (s.console.digits.foldl (fun n x => 16 * n + x) 0)) room
    obtain ⟨uses, console, frame⟩ := asks
    exact ⟨_, congrArg Host.Outcome.next ((consoleKeyed_commission opened mode).trans (commissionKey_ok good eight)), uses, console,
      (State.Frame.refl.console (by decide)).trans frame⟩
  case closing =>
    subst hl
    exact ⟨_, rfl, consoleCloses_of_open opened⟩
  case close =>
    refine congrArg Host.Outcome.next (if_pos ?_)
    rw [opened]
    simpa using h.symm
  case stays =>
    refine congrArg Host.Outcome.next (if_neg ?_)
    rcases h with closed | ⟨mode, ready⟩
    · simp [closed]
    · simp [mode, ready]
  case idle => exact congrArg Host.Outcome.next (if_pos (by rw [opened]; simpa using idle))
  case notIdle =>
    refine congrArg Host.Outcome.next (if_neg ?_)
    rcases h with closed | early
    · simp [closed]
    · simp [Nat.not_le.mpr early]

end Sys2Proof.Machine
end

section
/-!
PROOFS. Zone entries and the rows that the stage brings a zone (R112, R119, R120, R121, R128 to R130, 04_zones_loops.md): how an
entry joins the queue or is lost, and what SENSOR_LOST, UNOCCUPIED, WINDOW_CLOSE, HOLD_END and GAP do, each with and without its
condition.
-/

namespace Sys2Proof.Machine

section
variable {s : State} {n : Nat}

/-! ### A zone that changes, and the ZONE_NOTE that tells it (R128) -/

theorem modZone_zone_same (f : Zone → Zone) : (s.modZone n f).zone n = f (s.zone n) := by rw [State.modZone_zone, if_pos rfl]

theorem modZone_zone_other (f : Zone → Zone) {k : Nat} (h : k ≠ n) : (s.modZone n f).zone k = s.zone k := by
  rw [State.modZone_zone, if_neg h.symm]

/-- Telling a change of one zone: that zone, the event, and nothing else. -/
theorem modZone_event_effect (f : Zone → Zone) (code : Nat) (b : Bytes) :
    ((s.modZone n f).event code b).zone n = f (s.zone n) ∧ s.Raises code b ((s.modZone n f).event code b) ∧
      (∀ k, k ≠ n → ((s.modZone n f).event code b).zone k = s.zone k) ∧ s.Frame [.spoke, .zones] ((s.modZone n f).event code b) :=
  ⟨(State.event_zone _ _ _ _).trans (modZone_zone_same f), State.event_raises (s.modZone n f) code b,
    fun _ hk => (State.event_zone _ _ _ _).trans (modZone_zone_other f hk),
    State.event_frame (Covers.refl.sub rfl) (State.modZone_frame (Covers.refl.sub rfl) .refl)⟩

/-! ### How an entry is made (R128, R129, R130) -/

theorem zonEntry_of_room {kind data value : Nat} (room : (s.zone n).entries.length < 31) : s.zonEntry n kind data value =
    (s.modZone n fun z => { z with
      seq := (z.seq + 1) % 65536
      entries := z.entries ++ [zoneEntry (s.zone n).seq kind data value s.stage] }).event 0x10
        (le 1 n ++ le 8 (zoneEntry (s.zone n).seq kind data value s.stage)) := if_pos room

theorem zonEntry_of_full {kind data value : Nat} (full : 31 ≤ (s.zone n).entries.length) : s.zonEntry n kind data value =
    s.modZone n fun z => { z with seq := (z.seq + 1) % 65536, lost := satAdd 0xFFF z.lost 1 } := if_neg (Nat.not_lt.mpr full)

theorem zonGap_of_due (due : (s.zone n).gapDue = true) (room : (s.zone n).entries.length < 32) : s.zonGap n =
    (s.modZone n fun z => { z with
      seq := (z.seq + 1) % 65536
      entries := z.entries ++ [zoneEntry (s.zone n).seq 0x0B 0 (s.zone n).lost s.stage]
      lost := 0
      gapDue := false }).event 0x10 (le 1 n ++ le 8 (zoneEntry (s.zone n).seq 0x0B 0 (s.zone n).lost s.stage)) :=
  if_pos (by simp [due, room])

theorem zonGap_of_not (h : (s.zone n).gapDue = false ∨ 32 ≤ (s.zone n).entries.length) : s.zonGap n = s :=
  if_neg (by rcases h with h | h <;> simp [h])

/-! ### A sensor that is lost (R112) -/

/-- Marking the sensor lost and setting the demand leave SRC_KIND as it was. -/
theorem sensorLost_keeps_srcKind (v d : Nat) :
    (s.wrs [(R.ZON_STAT_SENSOR_LOST n, v), (R.ZON_STAT_DUTY n, d)]).rd (R.ZON_CFG_SRC_KIND n) = s.rd (R.ZON_CFG_SRC_KIND n) := by
  rw [State.wrs_cons, State.wrs_cons, State.wrs_nil, State.wr_rd_other _ _ (by dsimp only [R.ZON_STAT_DUTY, R.ZON_CFG_SRC_KIND]; omega),
    State.wr_rd_other _ _ (by dsimp only [R.ZON_STAT_SENSOR_LOST, R.ZON_CFG_SRC_KIND]; omega)]

theorem zonSensorLost_of_due (bad : 10 ≤ (s.zone n).bad) (fresh : s.rd (R.ZON_STAT_SENSOR_LOST n) ≠ 1) : s.zonSensorLost n =
    ((s.wrs [(R.ZON_STAT_SENSOR_LOST n, 1), (R.ZON_STAT_DUTY n, s.rd (R.ZON_LOOP_FAIL_DUTY n))]).zonEntry n 0x06
      (s.rd (R.ZON_CFG_SRC_KIND n)) (s.rd (R.ZON_LOOP_FAIL_DUTY n))).fault clZone 0x10 0x06 n (s.rd (R.ZON_LOOP_FAIL_DUTY n)) := by
  rw [← sensorLost_keeps_srcKind 1 (s.rd (R.ZON_LOOP_FAIL_DUTY n))]
  exact if_pos (by simpa [bad, ← State.on_iff] using fresh)

theorem zonSensorLost_of_not (h : (s.zone n).bad < 10 ∨ s.rd (R.ZON_STAT_SENSOR_LOST n) = 1) : s.zonSensorLost n = s := by
  refine if_neg ?_
  rcases h with few | told
  · simp [Nat.not_le.mpr few]
  · simp [State.on_iff.mpr told]

/-! ### A zone that nobody occupies (R121) -/

theorem zonUnoccupied_of_evidence {t : Nat} (seen : (s.zone n).lastEv = some t) : s.zonUnoccupied n =
    if s.on (R.ZON_STAT_OCC n) && decide (t + s.rd (R.ZON_CFG_OCC_DELAY n) ≤ s.stage) then
      (s.wr (R.ZON_STAT_OCC n) 0).zonEntry n 0x05 0 0 else s := by
  unfold State.zonUnoccupied
  rw [seen]

theorem zonUnoccupied_of_due {t : Nat} (seen : (s.zone n).lastEv = some t) (occ : s.rd (R.ZON_STAT_OCC n) = 1)
    (late : t + s.rd (R.ZON_CFG_OCC_DELAY n) ≤ s.stage) : s.zonUnoccupied n = (s.wr (R.ZON_STAT_OCC n) 0).zonEntry n 0x05 0 0 :=
  (zonUnoccupied_of_evidence seen).trans (if_pos (by simp [State.on_iff.mpr occ, late]))

theorem zonUnoccupied_of_not {t : Nat} (h : (s.zone n).lastEv = none ∨ (s.zone n).lastEv = some t ∧
    (s.rd (R.ZON_STAT_OCC n) ≠ 1 ∨ s.stage < t + s.rd (R.ZON_CFG_OCC_DELAY n))) : s.zonUnoccupied n = s := by
  rcases h with never | ⟨seen, empty | early⟩
  · unfold State.zonUnoccupied
    rw [never]
  · exact (zonUnoccupied_of_evidence seen).trans (if_neg (by simp [mt State.on_iff.mp empty]))
  · exact (zonUnoccupied_of_evidence seen).trans (if_neg (by simp [early]))

/-! ### A window that has been open for WIN_MAX stages (R120) -/

/-- An open window closes: it reads closed, detection is muted, and the entry tells TEMP. -/
theorem zonWindowClose_of_open {how : Nat} (opened : s.rd (R.ZON_STAT_WINDOW n) = 1) : s.zonWindowClose n how =
    ((s.wr (R.ZON_STAT_WINDOW n) 0).modZone n fun z => { z with winMute := some (s.stage + s.rd (R.ZON_CFG_WIN_MAX n)) }).zonEntry n
      0x03 how (s.rd (R.ZON_STAT_TEMP n)) := by
  have temp : (s.wr (R.ZON_STAT_WINDOW n) 0).rd (R.ZON_STAT_TEMP n) = s.rd (R.ZON_STAT_TEMP n) :=
    State.wr_rd_other _ _ (by dsimp only [R.ZON_STAT_WINDOW, R.ZON_STAT_TEMP]; omega)
  rw [← temp]
  exact if_pos (State.on_iff.mpr opened)

theorem zonWindowExpire_of_due (opened : s.rd (R.ZON_STAT_WINDOW n) = 1)
    (late : (s.zone n).winAt + s.rd (R.ZON_CFG_WIN_MAX n) ≤ s.stage) : s.zonWindowExpire n = s.zonWindowClose n 0 :=
  if_pos (by simp [State.on_iff.mpr opened, late])

theorem zonWindowExpire_of_not (h : s.rd (R.ZON_STAT_WINDOW n) ≠ 1 ∨ s.stage < (s.zone n).winAt + s.rd (R.ZON_CFG_WIN_MAX n)) :
    s.zonWindowExpire n = s := by
  refine if_neg ?_
  rcases h with closed | early
  · simp [mt State.on_iff.mp closed]
  · simp [early]

/-! ### A timed hold that has run out (R119) -/

theorem zonHoldEnd_of_held {why : Nat} (held : s.rd (R.ZON_STAT_HOLD n) = 1) : s.zonHoldEnd n why =
    ((s.wrs [(R.ZON_STAT_HOLD n, 0), (R.ZON_INPUT_HOLD_MODE n, 0), (R.ZON_INPUT_HOLD_LEFT n, 0),
      (R.ZON_INPUT_HOLD_SP n, 0)]).modZone n fun z => { z with holdPt := none }).zonEntry n 0x09 why (s.rd (R.ZON_INPUT_HOLD_SP n)) :=
  if_pos (State.on_iff.mpr held)

theorem zonHoldEnd_of_not {why : Nat} (free : s.rd (R.ZON_STAT_HOLD n) ≠ 1) : s.zonHoldEnd n why = s :=
  if_neg (mt State.on_iff.mp free)

theorem zonHoldExpire_of_due (timed : s.rd (R.ZON_INPUT_HOLD_MODE n) = 1) (ended : s.rd (R.ZON_INPUT_HOLD_LEFT n) = 0) :
    s.zonHoldExpire n = s.zonHoldEnd n 0 := if_pos (by simp [timed, ended])

theorem zonHoldExpire_of_not (h : s.rd (R.ZON_INPUT_HOLD_MODE n) ≠ 1 ∨ s.rd (R.ZON_INPUT_HOLD_LEFT n) ≠ 0) : s.zonHoldExpire n = s :=
  if_neg (by rcases h with h | h <;> simp [h])

end

/-- Settles O37: an entry with and without room, then each row with and without its condition. -/
theorem zoneEvents : Obligations.ZoneEvents := by
  unfold Obligations.ZoneEvents
  refine ⟨fun s n kind data value e he => ⟨fun room => ?room, fun full => ?full⟩,
    fun s n bad fresh => ⟨_, rfl, congrArg Host.Outcome.next (zonSensorLost_of_due bad fresh)⟩,
    fun s n h => congrArg Host.Outcome.next (zonSensorLost_of_not h),
    fun s n t seen occ late => congrArg Host.Outcome.next (zonUnoccupied_of_due seen occ late),
    fun s n t h => congrArg Host.Outcome.next (zonUnoccupied_of_not h),
    fun s n opened late =>
      ⟨_, rfl, congrArg Host.Outcome.next ((zonWindowExpire_of_due opened late).trans (zonWindowClose_of_open opened))⟩,
    fun s n h => congrArg Host.Outcome.next (zonWindowExpire_of_not h),
    fun s n timed ended held =>
      ⟨_, rfl, congrArg Host.Outcome.next ((zonHoldExpire_of_due timed ended).trans (zonHoldEnd_of_held held))⟩,
    fun s n h => congrArg Host.Outcome.next ?noHold, fun s n e due room he => ?gap,
    fun s n h => congrArg Host.Outcome.next (zonGap_of_not h)⟩
  case room =>
    subst he
    exact ⟨_, (zonEntry_of_room room).symm, modZone_event_effect _ _ _⟩
  case full =>
    exact ⟨_, (zonEntry_of_full full).symm, modZone_zone_same _, fun k hk => modZone_zone_other _ hk,
      State.modZone_frame Covers.refl .refl⟩
  case noHold =>
    by_cases running : s.rd (R.ZON_INPUT_HOLD_MODE n) ≠ 1 ∨ s.rd (R.ZON_INPUT_HOLD_LEFT n) ≠ 0
    · exact zonHoldExpire_of_not running
    · obtain ⟨timed, ended⟩ := not_or.mp running
      have free : s.rd (R.ZON_STAT_HOLD n) ≠ 1 := (or_assoc.mpr h).resolve_left running
      exact (zonHoldExpire_of_due (not_not.mp timed) (not_not.mp ended)).trans (zonHoldEnd_of_not free)
  case gap =>
    subst he
    exact ⟨_, congrArg Host.Outcome.next (zonGap_of_due due room), modZone_event_effect _ _ _⟩

end Sys2Proof.Machine
end

section
/-!
PROOFS. One step of a zone's loop (R3, R124, 04_zones_loops.md): the nearest code to a quotient, and the PI step with what a loop
run writes of it.
-/

namespace Sys2Proof.Machine

/-! ### Rounding to a 12-bit code (R3) -/

/-- The nearest integer to a / b, halves upward, as the floor of a / b + 1/2. -/
theorem roundDiv_eq_ediv (a : Int) (b : Nat) : roundDiv a b = (2 * a + b) / (2 * b) :=
  Int.fdiv_eq_ediv_of_nonneg _ (by omega)

/-- The code nearest to a / 65,536: it fits 12 bits, and only saturation takes it away from a / 65,536. -/
theorem code12_roundDiv_bounds (a : Int) : code12 (roundDiv a 65536) ≤ 4095 ∧
    (0 < code12 (roundDiv a 65536) → (code12 (roundDiv a 65536) : Int) * 65536 ≤ a + 32768) ∧
    (code12 (roundDiv a 65536) < 4095 → a + 32768 < ((code12 (roundDiv a 65536) : Int) + 1) * 65536) := by
  rw [roundDiv_eq_ediv]
  unfold code12 clamp
  split
  · omega
  · split <;> omega

/-! ### The PI step (R124) -/

/-- The integrator stops where it would drive a demand further out of its range. -/
def windsUp (e p i' : Int) : Bool := decide (4095 * 65536 < p + i' ∧ 0 < e ∨ p + i' < 0 ∧ e < 0)

/-- The integrator after a step. -/
def nextIntegral (e p i i' : Int) : Int := if windsUp e p i' = true then i else clamp 0 (4095 * 65536) i'

theorem piStep_eq (e : Int) (kp ki : Nat) (i : Int) : piStep e kp ki i =
    (nextIntegral e (kp * e * 256) i (i + ki * e), windsUp e (kp * e * 256) (i + ki * e),
      code12 (roundDiv (kp * e * 256 + nextIntegral e (kp * e * 256) i (i + ki * e)) 65536)) := by
  simp only [piStep, nextIntegral, windsUp, Bool.decide_or, Bool.decide_and]

/-! ### A run of the loop (R124, R125) -/

section
variable {s : State} {n : Nat}

/-- A run whose temperature is valid takes the PI step. -/
theorem zonPi_of_valid {i : Int} {b : Bool} {d : Nat} (keeps : (s.zone n).iReset = false) (valid : s.rd (R.ZON_STAT_T_VALID n) = 1)
    (found : s.rd (R.ZON_STAT_SENSOR_LOST n) ≠ 1)
    (step : piStep ((s.rd (R.ZON_SETPT_EFF n) : Int) - s.rd (R.ZON_STAT_TEMP n)) (s.rd (R.ZON_LOOP_KP n)) (s.rd (R.ZON_LOOP_KI n))
      (s.rd (R.ZON_STAT_INTEG n)) = (i, b, d)) :
    s.zonPi n = s.wrs [(R.ZON_STAT_INTEG n, i.toNat), (R.ZON_STAT_LIMITED n, b2n b), (R.ZON_STAT_DUTY n, d)] := by
  unfold State.zonPi
  simp only [keeps, Bool.false_eq_true, if_false, step]
  exact if_pos (by simp [State.on_iff.mpr valid, mt State.on_iff.mp found])

theorem zonPi_of_invalid (keeps : (s.zone n).iReset = false)
    (h : s.rd (R.ZON_STAT_T_VALID n) ≠ 1 ∨ s.rd (R.ZON_STAT_SENSOR_LOST n) = 1) : s.zonPi n = s := by
  unfold State.zonPi
  simp only [keeps, Bool.false_eq_true, if_false]
  refine if_neg ?_
  rcases h with invalid | lost
  · simp [mt State.on_iff.mp invalid]
  · simp [State.on_iff.mpr lost]

end

/-- Settles O40: the worked case, the step by its equation, and a run with and without a valid temperature. -/
theorem loopStep : Obligations.LoopStep := by
  unfold Obligations.LoopStep
  refine ⟨by decide, fun e kp ki i => ?step, fun s n i b d keeps valid found step => ?run,
    fun s n keeps h => zonPi_of_invalid keeps h⟩
  case step =>
    exact ⟨_, rfl, windsUp e (kp * e * 256) (i + ki * e), rfl, nextIntegral e (kp * e * 256) i (i + ki * e), rfl, _,
      (congrArg (·.2.2) (piStep_eq e kp ki i)).symm, piStep_eq e kp ki i, code12_roundDiv_bounds _⟩
  case run =>
    rw [zonPi_of_valid keeps valid found step]
    exact ⟨State.Fields.refl.wr.wr.wr, State.wrs_frame Covers.refl .refl⟩

end Sys2Proof.Machine
end

section
/-!
PROOFS. The outputs and the latches of the PWM engine (R137, R144 to R148, R168, R169, 05_pwm_engine.md): what decides an output, a
latch-off, a cut, a kill, a group fault, and how latches are cleared.
-/

namespace Sys2Proof.Machine

section
variable {s : State} {n : Nat}

/-! ### What decides an output (R137, R144) -/

theorem pwmLevel_eq (s : State) (n : Nat) : s.pwmLevel n =
    if s.grpForced (n / 8) = true ∨ s.rd (R.PWM_CH_CFG_ERR n) = 1 then s.ksEntry n
    else if s.rd (R.PWM_CH_LATCHED n) = 1 ∨ s.rd (R.PWM_CH_CUT_NOW n) = 1 then 0
    else if waveHigh (s.pch n).full (s.rd (R.PWM_CH_ON_ACT n)) (s.rd (R.PWM_CH_OFF_ACT n)) (s.grpCount (n / 8)) = true then 1 else 0 := by
  simp only [State.pwmLevel, Bool.or_eq_true, State.on_iff, b2n]

theorem waveHigh_of_lt {on off count : Nat} (h : on < off) : waveHigh false on off count = true ↔ on ≤ count ∧ count < off := by
  simp [waveHigh, h, Nat.lt_asymm h]

theorem waveHigh_of_gt {on off count : Nat} (h : off < on) : waveHigh false on off count = true ↔ on ≤ count ∨ count < off := by
  simp [waveHigh, h, Nat.lt_asymm h]

/-! ### A latch-off (R146) -/

theorem latchOff_of_latched {why : Nat} (h : s.rd (R.PWM_CH_LATCHED n) = 1) : s.latchOff n why = s := if_pos (State.on_iff.mpr h)

theorem latchOff_of_clear {why : Nat} (h : s.rd (R.PWM_CH_LATCHED n) ≠ 1) : s.latchOff n why =
    (s.wrs [(R.PWM_CH_LATCHED n, 1), (R.PWM_CH_LATCH_WHY n, why),
      (R.PWM_LATCH_LATCHED, setBit (s.rd R.PWM_LATCH_LATCHED) n true)]).event 0x20 (le 1 1 ++ le 1 (n / 8) ++ le 1 n ++ le 1 why) :=
  if_neg (mt State.on_iff.mp h)

/-- A channel that was not latched has its latch, its reason, its bit of the summary and its note. -/
theorem latchOff_effect {why : Nat} (h : s.rd (R.PWM_CH_LATCHED n) ≠ 1) :
    s.Fields [(R.PWM_LATCH_LATCHED, setBit (s.rd R.PWM_LATCH_LATCHED) n true), (R.PWM_CH_LATCH_WHY n, why), (R.PWM_CH_LATCHED n, 1)]
      (s.latchOff n why) ∧
    s.Raises 0x20 (le 1 1 ++ le 1 (n / 8) ++ le 1 n ++ le 1 why) (s.latchOff n why) ∧ s.Frame [.regs, .spoke] (s.latchOff n why) := by
  refine ⟨?_, ?_, State.latchOff_frame Covers.refl .refl⟩ <;> rw [latchOff_of_clear h]
  · exact State.Fields.refl.wr.wr.wr.of_regs (State.event_regs _ _ _)
  · exact State.event_raises (s.wrs _) _ _

/-! ### A cut (R145, R146) -/

theorem cut_eq (s : State) (n : Nat) : s.cut n =
    if s.rd (R.PWM_CH_CUT_NOW n) = 1 ∨ s.rd (R.PWM_CH_LATCHED n) = 1 ∨ s.pulses n = false ∨ s.grpOn (n / 8) = false ∨
      s.pwm.stopped = true then s else (s.wr (R.PWM_CH_CUT_NOW n) 1).cutPeriod n := by
  simp only [State.cut, Bool.or_eq_true, State.on_iff, Bool.not_eq_true', or_assoc]

/-- A pulse of a running group is cut when it is neither cut nor latched already. -/
theorem cut_of_pulse (uncut : s.rd (R.PWM_CH_CUT_NOW n) ≠ 1) (clear : s.rd (R.PWM_CH_LATCHED n) ≠ 1) (pulse : s.pulses n = true)
    (enabled : s.grpOn (n / 8) = true) (runs : s.pwm.stopped = false) : s.cut n = (s.wr (R.PWM_CH_CUT_NOW n) 1).cutPeriod n := by
  rw [cut_eq, if_neg (by simp [uncut, clear, pulse, enabled, runs])]

/-- Marking the present period cut leaves the count of cut periods. -/
theorem cutNow_keeps_cuts (v : Nat) : (s.wr (R.PWM_CH_CUT_NOW n) v).rd (R.PWM_CH_CUTS n) = s.rd (R.PWM_CH_CUTS n) :=
  State.wr_rd_other _ _ (by unfold R.PWM_CH_CUT_NOW R.PWM_CH_CUTS; omega)

theorem cutPeriod_of_few (few : s.rd (R.PWM_CH_CUTS n) < 7) : (s.wr (R.PWM_CH_CUT_NOW n) 1).cutPeriod n =
    (s.wr (R.PWM_CH_CUT_NOW n) 1).wr (R.PWM_CH_CUTS n) (s.rd (R.PWM_CH_CUTS n) + 1) := by
  unfold State.cutPeriod
  rw [cutNow_keeps_cuts, if_pos few]

theorem cutPeriod_of_eighth (many : 7 ≤ s.rd (R.PWM_CH_CUTS n)) : (s.wr (R.PWM_CH_CUT_NOW n) 1).cutPeriod n =
    (s.wr (R.PWM_CH_CUT_NOW n) 1).latchOff n 2 := by
  unfold State.cutPeriod
  rw [cutNow_keeps_cuts, if_neg (Nat.not_lt.mpr many)]

theorem exec_cutRequest_of_comparator {ch : Fin 96} (h : ch.val < 80) : exec (.cutRequest ch) s = .next (s.cut ch) :=
  congrArg Host.Outcome.next (if_pos h)

theorem exec_cutRequest_of_not {ch : Fin 96} (h : 80 ≤ ch.val ∨ s.rd (R.PWM_CH_CUT_NOW ch) = 1 ∨ s.rd (R.PWM_CH_LATCHED ch) = 1 ∨
    s.pulses ch = false ∨ s.grpOn (ch / 8) = false ∨ s.pwm.stopped = true) : exec (.cutRequest ch) s = .next s := by
  by_cases comparator : ch.val < 80
  · rw [exec_cutRequest_of_comparator comparator, cut_eq, if_pos (h.resolve_left (Nat.not_le.mpr comparator))]
  · exact congrArg Host.Outcome.next (if_neg comparator)

/-! ### A kill (R146, R162, R168, R169) -/

/-- The state of a kill before its consequences: the channel is latched off, and the time of the kill is kept. -/
def State.killed (s : State) (n cycle : Nat) : State :=
  (s.latchOff n 1).modPch n fun c => { c with killAt := some (cycle, (s.grp (n / 8)).num) }

theorem kill_of_valve {cycle : Nat} (h : n < 48) : s.kill n cycle = (s.killed n cycle).valveKilled n := if_pos h

theorem killsTogether_iff {cycle period cy pd : Nat} :
    killsTogether (cycle, period) (cy, pd) = true ↔ pd = period ∨ cycle ≤ cy + 196 ∧ cy ≤ cycle + 196 := by
  rw [killsTogether, Bool.or_eq_true, beq_iff_eq, decide_eq_true_iff]
  exact or_congr_left eq_comm

/-- A kill on a bridge's leg: with a kill on the other leg close by it is a short, otherwise the leg is latched. -/
theorem kill_of_bridge {cycle : Nat} (h : 48 ≤ n) : s.kill n cycle =
    match ((s.killed n cycle).pch (if n % 2 = 0 then n + 1 else n - 1)).killAt with
    | some (cy, pd) => if pd = (s.grp (n / 8)).num ∨ cycle ≤ cy + 196 ∧ cy ≤ cycle + 196 then (s.killed n cycle).bridgeShort ((n - 48) / 2)
      else (s.killed n cycle).legLatched ((n - 48) / 2)
    | none => (s.killed n cycle).legLatched ((n - 48) / 2) := by
  have bridge : s.kill n cycle =
      match ((s.killed n cycle).pch (if n % 2 = 0 then n + 1 else n - 1)).killAt with
      | some other => if killsTogether (cycle, (s.grp (n / 8)).num) other then (s.killed n cycle).bridgeShort ((n - 48) / 2)
        else (s.killed n cycle).legLatched ((n - 48) / 2)
      | none => (s.killed n cycle).legLatched ((n - 48) / 2) := if_neg (Nat.not_lt.mpr h)
  rw [bridge]
  cases ((s.killed n cycle).pch (if n % 2 = 0 then n + 1 else n - 1)).killAt with
  | none => rfl
  | some other =>
    obtain ⟨cy, pd⟩ := other
    simp only [killsTogether_iff]

theorem exec_killRequest_of_comparator {ch : Fin 96} {cycle : Nat} (h : ch.val < 80) :
    exec (.killRequest ch cycle) s = .next (s.kill ch cycle) := congrArg Host.Outcome.next (if_pos h)

/-! ### A group fault (R147) -/

/-- The two fields that a group fault sets leave FLT_MODE. -/
theorem fltIn_keeps_mode (v w : Nat) :
    (s.wrs [(R.PWM_GRP_FLT_IN n, v), (R.PWM_GRP_FLT_SEEN n, w)]).rd (R.PWM_GRP_FLT_MODE n) = s.rd (R.PWM_GRP_FLT_MODE n) :=
  wrs_rd_other (by simp)

/-- A fault that was not asserted sets its two fields; in mode 1 it cuts the group's channels, in mode 2 it latches them. -/
theorem groupFault_of_release (h : s.rd (R.PWM_GRP_FLT_IN n) ≠ 1) :
    ∃ u, u = s.wrs [(R.PWM_GRP_FLT_IN n, 1), (R.PWM_GRP_FLT_SEEN n, 1)] ∧ ∃ v, v = u.event 0x20 ([2] ++ le 1 n ++ [0xFF, 0]) ∧
    s.groupFault n = if s.rd (R.PWM_GRP_FLT_MODE n) = 1 then v.each (channelsOf n) State.cut
      else if s.rd (R.PWM_GRP_FLT_MODE n) = 2 then v.each (channelsOf n) fun s n => s.latchOff n 3 else u := by
  refine ⟨_, rfl, _, rfl, ?_⟩
  unfold State.groupFault
  rw [if_neg (mt State.on_iff.mp h)]
  dsimp only
  rw [fltIn_keeps_mode]
  split
  case h_1 mode => rw [if_pos mode]; rfl
  case h_2 mode => rw [if_neg (by omega), if_pos mode]; rfl
  case h_3 not1 not2 => rw [if_neg not1, if_neg not2]

theorem groupFault_of_asserted (h : s.rd (R.PWM_GRP_FLT_IN n) = 1) : s.groupFault n = s := if_pos (State.on_iff.mpr h)

/-! ### Clearing latches (R148) -/

theorem unlatch_fields (s : State) (n : Nat) :
    s.Fields [(R.PWM_LATCH_LATCHED, setBit (s.rd R.PWM_LATCH_LATCHED) n false), (R.PWM_CH_CUTS n, 0), (R.PWM_CH_LATCH_WHY n, 0),
      (R.PWM_CH_LATCHED n, 0)] (s.unlatch n) := State.Fields.refl.wr.wr.wr.wr.of_regs rfl

/-- Beyond the valves a cleared latch has no further consequence. -/
theorem valveUnlatch_of_not_valve (h : 48 ≤ n) : s.valveUnlatch n = s.unlatch n := if_neg fun valve => Nat.not_lt.mpr h valve.1

theorem bits_eq_zero_iff {v lo w : Nat} : bits v lo w = 0 ↔ ∀ i < w, bit v (lo + i) = false := by
  have field : ∀ i, (bits v lo w).testBit i = (decide (i < w) && bit v (lo + i)) := fun i => by
    simp [bits, bit, Nat.testBit_mod_two_pow]
  constructor
  · intro h i hi
    simpa [h, hi] using (field i).symm
  · intro h
    refine Nat.eq_of_testBit_eq fun i => ?_
    rw [field, Nat.zero_testBit]
    by_cases hi : i < w
    · simp [h i hi]
    · simp [hi]

/-- No channel of a bridge is named. -/
theorem clrLatch_permitted (m : Nat) :
    (((List.range 96).filter fun n => bit m n).all fun n => decide (n < 48 ∨ 80 ≤ n)) = decide (bits m 48 32 = 0) := by
  rw [Bool.eq_iff_iff, decide_eq_true_iff, bits_eq_zero_iff]
  simp only [List.all_eq_true, List.mem_filter, List.mem_range, decide_eq_true_iff]
  constructor
  · intro h i hi
    by_contra named
    have := h (48 + i) ⟨by omega, by simpa using named⟩
    omega
  · rintro h n ⟨hn, named⟩
    by_contra bridge
    have := h (n - 48) (by omega)
    rw [show 48 + (n - 48) = n by omega, named] at this
    exact Bool.noConfusion this

/-- What PWM_CLR_LATCH does with a mask of 12 bytes: its checks, then the latches in order of the channels. -/
theorem doPwmClrLatch_of_mask (s : State) (r : Ref) {m : Nat} (h : m < 2 ^ 96) : s.doPwmClrLatch r (le 12 m) =
    s.checked r [param (decide (m = 0)), permitted (decide (bits m 48 32 = 0))] fun s =>
      (s.each ((List.range 96).filter fun n => bit m n) State.valveUnlatch).ok r := by
  unfold State.doPwmClrLatch
  dsimp only
  rw [List.take_of_length_le (le_length 12 m).le, ofLe_le_of_lt h, clrLatch_permitted]
  unfold State.checked
  rw [firstBad_of_length (le_length 12 m)]

end

/-- Settles O41, clause by clause: the output, a latch-off, a cut, a kill, a group fault and the clearing of latches. -/
theorem pwmLatches : Obligations.PwmLatches := by
  unfold Obligations.PwmLatches
  refine ⟨pwmLevel_eq,
    fun on off count => ⟨rfl, fun h => by simp [waveHigh, h], waveHigh_of_lt, waveHigh_of_gt⟩,
    fun s n why clear => ⟨_, rfl, latchOff_effect clear⟩, fun s n why => latchOff_of_latched,
    fun s ch comparator uncut clear pulse enabled runs few => ?cut,
    fun s ch comparator uncut clear pulse enabled runs many => ?eighth, fun s ch => exec_cutRequest_of_not,
    fun s ch cycle valve => ⟨_, rfl, ?killValve⟩, fun s ch cycle bridge comparator => ⟨_, rfl, ?killBridge⟩,
    fun s ch cycle h => congrArg Host.Outcome.next (if_neg (Nat.not_lt.mpr h)),
    fun s ch h => congrArg Host.Outcome.next (if_pos h), fun s ch h => congrArg Host.Outcome.next (if_neg h),
    fun s g released => ?assert, fun s g h => congrArg Host.Outcome.next (groupFault_of_asserted h),
    fun s g => ⟨_, rfl, State.Fields.refl.wr, State.wr_frame Covers.refl .refl⟩,
    fun s c m h payload named lt noBridge => ⟨_, rfl, ?clear⟩,
    fun s n => ⟨_, rfl, unlatch_fields s n, fun h => valveUnlatch_of_not_valve (by omega)⟩,
    fun s c m h payload lt => ⟨fun zero => ?zero, fun bridge => ?bridge⟩⟩
  case cut =>
    refine ⟨_, ?_, State.Fields.refl.wr.wr, State.wr_frame (Covers.refl.sub rfl) (State.wr_frame (Covers.refl.sub rfl) .refl)⟩
    rw [exec_cutRequest_of_comparator comparator, cut_of_pulse uncut clear pulse enabled runs, cutPeriod_of_few few]
  case eighth =>
    rw [exec_cutRequest_of_comparator comparator, cut_of_pulse uncut clear pulse enabled runs, cutPeriod_of_eighth many]
  case killValve =>
    rw [exec_killRequest_of_comparator (by omega), kill_of_valve valve]
    rfl
  case killBridge =>
    rw [exec_killRequest_of_comparator comparator, kill_of_bridge bridge]
    rfl
  case assert =>
    obtain ⟨u, hu, v, hv, asserted⟩ := groupFault_of_release released
    exact ⟨u, hu, v, hv, congrArg Host.Outcome.next asserted⟩
  case clear =>
    show Host.Outcome.next ((s.begin c 0x23).2.doPwmClrLatch (s.begin c 0x23).1 c.payload) = _
    rw [payload, doPwmClrLatch_of_mask _ _ lt, checked_ok (by simp [param, permitted, noBridge, Nat.ne_of_gt named, firstBad])]
  case zero =>
    exact refuses_of_check h rfl ⟨_, by rw [payload, doPwmClrLatch_of_mask _ _ lt]⟩ (by simp [param, zero]) (by decide)
  case bridge =>
    have named : m ≠ 0 := by rintro rfl; simp [bits] at bridge
    exact refuses_of_check h rfl ⟨_, by rw [payload, doPwmClrLatch_of_mask _ _ lt]⟩ (by simp [param, permitted, named, bridge])
      (by decide)

end Sys2Proof.Machine
end

section
/-!
PROOFS. The timebases of the PWM engine (R135, R140 to R142, R149, R150, R152, R153, 05_pwm_engine.md): the copies of a boundary, the
boundary itself, the restart of the PWM clock, the calibrated lines, and the opcodes that name groups by a mask.
-/

namespace Sys2Proof.Machine

/-! ### Work done element by element -/

section
variable {α β : Type} {f : State → α → State}

/-- What no element's step changes is as it was after all of them. -/
theorem each_keeps {φ : State → β} {l : List α} (h : ∀ s, ∀ a ∈ l, φ (f s a) = φ s) (s : State) : φ (s.each l f) = φ s := by
  induction l generalizing s with
  | nil => rfl
  | cons a l ih =>
    obtain ⟨first, rest⟩ := (List.forall_mem_cons (p := fun a => ∀ s, φ (f s a) = φ s)).mp fun a ha s => h s a ha
    exact (ih (fun s b hb => rest b hb s) (f s a)).trans (first s)

/-- Where each element has a view of the state that only its own step changes, that view changes once. -/
theorem each_view {φ : State → α → β} {F : β → β} (own : ∀ s a, φ (f s a) a = F (φ s a))
    (others : ∀ s a b, a ≠ b → φ (f s a) b = φ s b) {l : List α} (distinct : l.Nodup) {a : α} (ha : a ∈ l) (s : State) :
    φ (s.each l f) a = F (φ s a) := by
  induction l generalizing s with
  | nil => exact absurd ha List.not_mem_nil
  | cons b l ih =>
    obtain ⟨fresh, distinct⟩ := List.nodup_cons.mp distinct
    show φ ((f s b).each l f) a = _
    rcases List.mem_cons.mp ha with rfl | later
    · rw [each_keeps (φ := fun s => φ s a) (fun s c hc => others s c a fun e => fresh (e ▸ hc)), own]
    · rw [ih distinct later, others s b a fun e => fresh (e ▸ later)]

end

theorem channelsOf_nodup (g : Nat) : (channelsOf g).Nodup :=
  List.nodup_range.map fun _ _ h => Nat.add_right_cancel h

/-! ### The copy of a channel (R140) -/

/-- What the copy of a channel reads and writes: what has landed, its shadow, and its active values. -/
structure ChannelView where
  dirty : Bool
  full : Bool
  on : Nat
  off : Nat
  fullShadow : Nat
  onAct : Nat
  offAct : Nat

/-- The view of channel n. -/
def State.channelView (s : State) (n : Nat) : ChannelView :=
  ⟨(s.pch n).dirty, (s.pch n).full, s.rd (R.PWM_CH_ON n), s.rd (R.PWM_CH_OFF n), s.rd (R.PWM_CH_FULL n), s.rd (R.PWM_CH_ON_ACT n),
    s.rd (R.PWM_CH_OFF_ACT n)⟩

/-- The shadow becomes active. -/
def ChannelView.copied (v : ChannelView) : ChannelView :=
  { v with dirty := false, full := v.fullShadow == 1, onAct := v.on, offAct := v.off }

/-- The view after a boundary: copied by a strobe, or what has landed in mode 0. -/
def ChannelView.atBoundary (full landed : Bool) (v : ChannelView) : ChannelView :=
  if (full || landed && v.dirty) = true then v.copied else v

section
variable {s t : State} {g n : Nat}

/-- The view reads the channel and five of its fields. -/
theorem channelView_congr (ch : t.pch n = s.pch n)
    (fields : ∀ o ∈ [0, 16, 44, 48, 64], t.rd (1024 * (0x2020 + n) + o) = s.rd (1024 * (0x2020 + n) + o)) :
    t.channelView n = s.channelView n := by
  unfold State.channelView
  rw [ch, fields 0 (by decide), fields 16 (by decide), fields 44 (by decide), fields 48 (by decide), fields 64 (by decide)]

/-- Writes at PER_ACT, LOAD_PEND and the error bits of any block lie outside the view. -/
theorem channelView_of_offset (ch : t.pch n = s.pch n) (fields : ∀ j, j % 1024 ∉ [32, 53, 54, 88] → t.rd j = s.rd j) :
    t.channelView n = s.channelView n :=
  channelView_congr ch fun o ho => fields _ (by simp only [List.mem_cons, List.not_mem_nil, or_false] at ho ⊢; omega)

theorem copyChannel_rd (s : State) (n j : Nat) : (s.copyChannel n).rd j =
    if R.PWM_CH_OFF_ACT n = j then s.rd (R.PWM_CH_OFF n) else if R.PWM_CH_ON_ACT n = j then s.rd (R.PWM_CH_ON n) else s.rd j := by
  have written : (s.copyChannel n).rd j =
      (s.wrs [(R.PWM_CH_ON_ACT n, s.rd (R.PWM_CH_ON n)), (R.PWM_CH_OFF_ACT n, s.rd (R.PWM_CH_OFF n))]).rd j := by
    unfold State.copyChannel
    dsimp only
    split <;> rfl
  rw [written, State.wrs_cons, State.wrs_cons, State.wrs_nil, State.wr_rd, State.wr_rd]

theorem copyChannel_rd_other {j : Nat} (on : R.PWM_CH_ON_ACT n ≠ j) (off : R.PWM_CH_OFF_ACT n ≠ j) :
    (s.copyChannel n).rd j = s.rd j := by
  rw [copyChannel_rd, if_neg off, if_neg on]

theorem copyChannel_pch (s : State) (n j : Nat) : (s.copyChannel n).pch j =
    if n = j then { s.pch n with
      onF := s.rd (R.PWM_CH_ON_FINE n), offF := s.rd (R.PWM_CH_OFF_FINE n), full := s.on (R.PWM_CH_FULL n), dirty := false }
    else s.pch j := by
  have kept : ∀ o, o ≠ 48 → o ≠ 64 → (s.wrs [(R.PWM_CH_ON_ACT n, s.rd (R.PWM_CH_ON n)),
      (R.PWM_CH_OFF_ACT n, s.rd (R.PWM_CH_OFF n))]).rd (1024 * (0x2020 + n) + o) = s.rd (1024 * (0x2020 + n) + o) :=
    fun o on off => wrs_rd_other (by simp [on.symm, off.symm])
  have modified : (s.copyChannel n).pch j = ((s.wrs [(R.PWM_CH_ON_ACT n, s.rd (R.PWM_CH_ON n)),
      (R.PWM_CH_OFF_ACT n, s.rd (R.PWM_CH_OFF n))]).modPch n fun c => { c with
        onF := s.rd (R.PWM_CH_ON_FINE n), offF := s.rd (R.PWM_CH_OFF_FINE n), full := s.on (R.PWM_CH_FULL n), dirty := false }).pch j := by
    unfold State.copyChannel State.on
    dsimp only
    rw [kept 32 (by decide) (by decide), kept 38 (by decide) (by decide), kept 44 (by decide) (by decide)]
    split <;> rfl
  rw [modified, State.modPch_pch]
  rfl

theorem copyChannel_view (s : State) (n : Nat) : (s.copyChannel n).channelView n = (s.channelView n).copied := by
  unfold State.channelView ChannelView.copied
  simp [copyChannel_rd, copyChannel_pch, State.on]

theorem copyChannel_view_other {m : Nat} (h : n ≠ m) : (s.copyChannel n).channelView m = s.channelView m :=
  channelView_congr (by rw [copyChannel_pch, if_neg h]) fun o ho =>
    have small : o < 1024 := by simp only [List.mem_cons, List.not_mem_nil, or_false] at ho; omega
    copyChannel_rd_other (by unfold R.PWM_CH_ON_ACT; omega) (by unfold R.PWM_CH_OFF_ACT; omega)

/-! ### The copies of a boundary (R140, R141) -/

/-- The copy of PER and PRESC that is due. -/
def State.groupCopied (s : State) (g : Nat) (full landed : Bool) : State :=
  if full || (landed && (s.grp g).dirty) then s.copyGroup g else s

/-- The copy of a channel that is due. -/
def State.channelCopied (full landed : Bool) (s : State) (n : Nat) : State :=
  if full || (landed && (s.pch n).dirty) then s.copyChannel n else s

/-- The strobe ends with the copies. -/
def State.strobeTaken (s : State) (g : Nat) (full : Bool) : State := if full then s.wr (R.PWM_GRP_LOAD_PEND g) 0 else s

theorem copies_eq (s : State) (g : Nat) (all_ : Bool) : ∃ full, full = (all_ || s.rd (R.PWM_GRP_LOAD_PEND g) == 1) ∧
    ∃ landed, landed = (s.rd (R.PWM_GRP_UPD_MODE g) == 0) ∧ s.copies g all_ =
      (((s.groupCopied g full landed).each (channelsOf g) (State.channelCopied full landed)).strobeTaken g full).cfgCheck g :=
  ⟨_, rfl, _, rfl, rfl⟩

variable {full landed : Bool}

theorem groupCopied_rd_perAct : (s.groupCopied g full landed).rd (R.PWM_GRP_PER_ACT g) =
    s.rd (if (full || landed && (s.grp g).dirty) = true then R.PWM_GRP_PER g else R.PWM_GRP_PER_ACT g) := by
  unfold State.groupCopied
  split
  · exact State.wr_rd_same _ _ _
  · rfl

theorem groupCopied_rd_other {j : Nat} (h : j % 1024 ≠ 32) : (s.groupCopied g full landed).rd j = s.rd j := by
  unfold State.groupCopied
  split
  · exact State.wr_rd_other _ _ (by unfold R.PWM_GRP_PER_ACT; omega)
  · rfl

theorem groupCopied_view : (s.groupCopied g full landed).channelView n = s.channelView n := by
  refine channelView_of_offset ?_ fun j hj => groupCopied_rd_other fun e => hj (by simp [e])
  unfold State.groupCopied
  split <;> rfl

theorem channelCopied_view (s : State) (n : Nat) :
    (s.channelCopied full landed n).channelView n = (s.channelView n).atBoundary full landed := by
  by_cases due : (full || landed && (s.pch n).dirty) = true
  · exact (congrArg (State.channelView · n) (if_pos due)).trans ((copyChannel_view s n).trans (if_pos due).symm)
  · exact (congrArg (State.channelView · n) (if_neg due)).trans (if_neg due).symm

theorem channelCopied_view_other (s : State) (n m : Nat) (h : n ≠ m) :
    (s.channelCopied full landed n).channelView m = s.channelView m := by
  unfold State.channelCopied
  split
  · exact copyChannel_view_other h
  · rfl

theorem channelCopied_rd_other {j : Nat} (on : j % 1024 ≠ 48) (off : j % 1024 ≠ 64) : (s.channelCopied full landed n).rd j = s.rd j := by
  unfold State.channelCopied
  split
  · exact copyChannel_rd_other (by unfold R.PWM_CH_ON_ACT; omega) (by unfold R.PWM_CH_OFF_ACT; omega)
  · rfl

theorem strobeTaken_rd_other {j : Nat} (h : j % 1024 ≠ 54) : (s.strobeTaken g full).rd j = s.rd j := by
  unfold State.strobeTaken
  split
  · exact State.wr_rd_other _ _ (by unfold R.PWM_GRP_LOAD_PEND; omega)
  · rfl

theorem strobeTaken_rd_loadPend : (s.strobeTaken g full).rd (R.PWM_GRP_LOAD_PEND g) =
    if full = true then 0 else s.rd (R.PWM_GRP_LOAD_PEND g) := by
  unfold State.strobeTaken
  split
  · exact State.wr_rd_same _ _ _
  · rfl

theorem strobeTaken_view : (s.strobeTaken g full).channelView n = s.channelView n := by
  refine channelView_of_offset ?_ fun j hj => strobeTaken_rd_other fun e => hj (by simp [e])
  unfold State.strobeTaken
  split <;> rfl

/-- The check of R138 writes only the error bits. -/
theorem cfgCheck_rd_other {j : Nat} (grp : j % 1024 ≠ 53) (ch : j % 1024 ≠ 88) : (s.cfgCheck g).rd j = s.rd j := by
  unfold State.cfgCheck
  refine (each_keeps (φ := fun s => s.rd j) (fun s n _ => ?_) _).trans ?_
  · exact State.wr_rd_other _ _ (by unfold R.PWM_CH_CFG_ERR; omega)
  · exact State.wr_rd_other _ _ (by unfold R.PWM_GRP_CFG_ERR; omega)

theorem cfgCheck_view : (s.cfgCheck g).channelView n = s.channelView n := by
  have pwm : (s.cfgCheck g).pwm = s.pwm := State.cfgCheck_frame (l := [.regs]) Covers.refl .refl .pwm (by decide)
  refine channelView_of_offset ?_ fun j hj => cfgCheck_rd_other (fun e => hj (by simp [e])) fun e => hj (by simp [e])
  unfold State.pch
  rw [pwm]

/-- The copies of a boundary: PER, the strobe's end, and each channel's view. -/
theorem copies_effect (s : State) (g : Nat) (all_ : Bool) : ∃ full, full = (all_ || s.rd (R.PWM_GRP_LOAD_PEND g) == 1) ∧
    ∃ landed, landed = (s.rd (R.PWM_GRP_UPD_MODE g) == 0) ∧
    (s.copies g all_).rd (R.PWM_GRP_PER_ACT g) =
      s.rd (if (full || landed && (s.grp g).dirty) = true then R.PWM_GRP_PER g else R.PWM_GRP_PER_ACT g) ∧
    (s.copies g all_).rd (R.PWM_GRP_LOAD_PEND g) = (if full = true then 0 else s.rd (R.PWM_GRP_LOAD_PEND g)) ∧
    ∀ n ∈ channelsOf g, (s.copies g all_).channelView n = (s.channelView n).atBoundary full landed := by
  obtain ⟨full, hfull, landed, hlanded, shape⟩ := copies_eq s g all_
  have loop : ∀ j, j % 1024 ≠ 48 → j % 1024 ≠ 64 → ((s.groupCopied g full landed).each (channelsOf g)
      (State.channelCopied full landed)).rd j = (s.groupCopied g full landed).rd j := fun j on off =>
    each_keeps (φ := fun s => s.rd j) (fun s n _ => channelCopied_rd_other on off) _
  refine ⟨full, hfull, landed, hlanded, ?_, ?_, fun n hn => ?_⟩ <;> rw [shape]
  · rw [cfgCheck_rd_other (by unfold R.PWM_GRP_PER_ACT; omega) (by unfold R.PWM_GRP_PER_ACT; omega),
      strobeTaken_rd_other (by unfold R.PWM_GRP_PER_ACT; omega),
      loop _ (by unfold R.PWM_GRP_PER_ACT; omega) (by unfold R.PWM_GRP_PER_ACT; omega), groupCopied_rd_perAct]
  · rw [cfgCheck_rd_other (by unfold R.PWM_GRP_LOAD_PEND; omega) (by unfold R.PWM_GRP_LOAD_PEND; omega), strobeTaken_rd_loadPend,
      loop _ (by unfold R.PWM_GRP_LOAD_PEND; omega) (by unfold R.PWM_GRP_LOAD_PEND; omega),
      groupCopied_rd_other (by unfold R.PWM_GRP_LOAD_PEND; omega)]
  · rw [cfgCheck_view, strobeTaken_view,
      each_view (φ := State.channelView) channelCopied_view channelCopied_view_other (channelsOf_nodup g) hn, groupCopied_view]

/-- A view after a boundary, field by field. -/
theorem channelView_atBoundary (h : t.channelView n = (s.channelView n).atBoundary full landed) :
    t.rd (R.PWM_CH_ON_ACT n) = s.rd (if (full || landed && (s.pch n).dirty) = true then R.PWM_CH_ON n else R.PWM_CH_ON_ACT n) ∧
    t.rd (R.PWM_CH_OFF_ACT n) = s.rd (if (full || landed && (s.pch n).dirty) = true then R.PWM_CH_OFF n else R.PWM_CH_OFF_ACT n) ∧
    (t.pch n).full = (if (full || landed && (s.pch n).dirty) = true then s.rd (R.PWM_CH_FULL n) == 1 else (s.pch n).full) := by
  have on := congrArg ChannelView.onAct h
  have off := congrArg ChannelView.offAct h
  have high := congrArg ChannelView.full h
  by_cases due : (full || landed && (s.pch n).dirty) = true
  · rw [show (s.channelView n).atBoundary full landed = _ from if_pos due] at on off high
    simp only [if_pos due]
    exact ⟨on, off, high⟩
  · rw [show (s.channelView n).atBoundary full landed = _ from if_neg due] at on off high
    simp only [if_neg due]
    exact ⟨on, off, high⟩

/-! ### The boundary (R135, R149, R150) -/

theorem swapLine_of_swap {k : Nat} (h : (s.grp g).swap = some k) : s.swapLine g =
    (s.wr (calField g) k).modGrp g fun x => { x with swap := none, passAt := some s.stage } := by
  unfold State.swapLine
  rw [h]

theorem calField_of_fine (low : 6 ≤ g) (high : g ≤ 9) : calField g = R.PWM_CAL_ELEM6 + 8 * (g - 6) := by
  obtain rfl | rfl | rfl | rfl : g = 6 ∨ g = 7 ∨ g = 8 ∨ g = 9 := by omega
  all_goals rfl

/-- A line that waits becomes the active one, and its calibration is the latest. -/
theorem swapLine_effect {k : Nat} (h : (s.grp g).swap = some k) : ((s.swapLine g).grp g).swap = none ∧
    ((s.swapLine g).grp g).passAt = some s.stage ∧ (6 ≤ g → g ≤ 9 → (s.swapLine g).rd (R.PWM_CAL_ELEM6 + 8 * (g - 6)) = k) ∧
    s.Frame [.regs, .pwm] (s.swapLine g) := by
  refine ⟨?_, ?_, fun low high => ?_, State.swapLine_frame Covers.refl .refl⟩ <;> rw [swapLine_of_swap h]
  · rw [State.modGrp_grp, if_pos rfl]
  · rw [State.modGrp_grp, if_pos rfl]
  · rw [State.modGrp_rd, calField_of_fine low high, State.wr_rd_same]

theorem copies_swapLine_pwr (all_ : Bool) : ((s.copies g all_).swapLine g).pwr = s.pwr :=
  State.swapLine_frame (l := [.regs, .pwm, .act]) (Covers.refl.sub rfl) (State.copies_frame Covers.refl .refl) .pwr (by decide)

/-- A boundary: the copies and the line swap, the count from 0, the end of a restart's period, ZERO, and what lies at count 0. -/
theorem boundary_eq (s : State) (g : Nat) (all_ : Bool) :
    ∃ u, u = ((s.copies g all_).swapLine g).modGrp g (fun x => { x with cnt := 0, num := x.num + 1, hold := false }) ∧
    ∃ v, v = ((if (s.grp g).hold = true ∧ s.pwr.force = [] then u.valvesRestart g else u).pwmFlag (R.PWM_GRP_EV_ZERO g)
      (R.PWM_GRP_IE_ZERO g)).count (R.PWM_GRP_ZERO_CNT g) 0xFFFF 1 ∧ s.boundary g all_ = v.pass g 0 1 := by
  refine ⟨_, rfl, _, rfl, ?_⟩
  unfold State.boundary
  simp only [State.modGrp_pwr, copies_swapLine_pwr, Bool.and_eq_true, List.isEmpty_iff]

theorem boundary_pwr (all_ : Bool) : (s.boundary g all_).pwr = s.pwr :=
  State.boundary_frame (l := [.regs, .spoke, .pwm, .act]) Covers.refl .refl .pwr (by decide)

/-! ### Enabling and disabling (R142) -/

theorem grpEnable_of_on (h : s.grpOn g = true) : s.grpEnable g = s := if_pos h

theorem grpEnable_of_off (h : s.grpOn g = false) :
    ∃ u, u = (s.wr R.PWM_STAT_EN (setBit (s.rd R.PWM_STAT_EN) g true)).boundary g true ∧
      s.grpEnable g = if s.pwr.force = [] then u.valvesRestart g else u := by
  refine ⟨_, rfl, ?_⟩
  unfold State.grpEnable
  rw [if_neg (by rw [h]; exact Bool.false_ne_true)]
  simp only [boundary_pwr, State.wr_pwr, List.isEmpty_iff]

theorem grpDisable_of_off (h : s.grpOn g = false) : s.grpDisable g = s := if_neg (by rw [h]; exact Bool.false_ne_true)

theorem grpDisable_of_on (h : s.grpOn g = true) : s.grpDisable g =
    ((s.wr R.PWM_STAT_EN (setBit (s.rd R.PWM_STAT_EN) g false)).modGrp g fun x => { x with cnt := 0, hold := false }).ksTest := if_pos h

/-- The test of the Kickstand image sets at most its error bit. -/
theorem ksTest_rd_other {j : Nat} (h : R.PWR_KSTAT_CRC_ERR ≠ j) : s.ksTest.rd j = s.rd j := by
  unfold State.ksTest State.when
  split
  · exact State.wr_rd_other _ _ h
  · rfl

theorem ksTest_grp : s.ksTest.grp n = s.grp n := by
  have pwm : s.ksTest.pwm = s.pwm := State.ksTest_frame (l := [.regs]) Covers.refl .refl .pwm (by decide)
  unfold State.grp
  rw [pwm]

theorem grpDisable_effect (h : s.grpOn g = true) : (s.grpDisable g).rd R.PWM_STAT_EN = setBit (s.rd R.PWM_STAT_EN) g false ∧
    ((s.grpDisable g).grp g).cnt = 0 ∧ ((s.grpDisable g).grp g).hold = false ∧ s.Frame [.regs, .pwm] (s.grpDisable g) := by
  refine ⟨?_, ?_, ?_, State.grpDisable_frame Covers.refl .refl⟩ <;> rw [grpDisable_of_on h]
  · rw [ksTest_rd_other (by decide), State.modGrp_rd, State.wr_rd_same]
  · rw [ksTest_grp, State.modGrp_grp, if_pos rfl]
  · rw [ksTest_grp, State.modGrp_grp, if_pos rfl]

/-! ### Calibration ends (R152, R153) -/

theorem calDone_of_run {lines : List Nat} (h : s.pwm.calRun = true) : s.calDone lines =
    { s with pwm.calRun := false }.each [6, 7, 8, 9] fun s g =>
      if 32 ≤ lines.getD (g - 6) 0 ∧ lines.getD (g - 6) 0 ≤ 128 then
        if s.grpOn g = true ∧ s.pwm.stopped = false then
          s.modGrp g fun x => { x with standby := lines.getD (g - 6) 0, swap := some (lines.getD (g - 6) 0) }
        else (s.modGrp g fun x => { x with standby := lines.getD (g - 6) 0, swap := some (lines.getD (g - 6) 0) }).swapLine g
      else (((s.wr R.PWM_STAT_CAL_ERR 1).event 0x20 ([3] ++ le 1 g ++ [0xFF, 0])).fault clDegrade 0x20 3 0 0) := by
  unfold State.calDone
  rw [if_pos h]
  refine congrArg (State.each _ _) (funext₂ fun t g => ?_)
  have runs : ((t.grpOn g && !t.pwm.stopped) = true) = (t.grpOn g = true ∧ t.pwm.stopped = false) := by
    rw [Bool.and_eq_true, Bool.not_eq_true']
  simp only [← runs]
  rfl

theorem calDone_of_not {lines : List Nat} (h : s.pwm.calRun = false) : s.calDone lines = s :=
  if_neg (by rw [h]; exact Bool.false_ne_true)

/-! ### Strobes (R141) -/

theorem each_strobe_rd (l : List Nat) (s : State) (j : Nat) :
    (s.each l State.strobe).rd j = if j ∈ l.map R.PWM_GRP_LOAD_PEND then 1 else s.rd j := by
  induction l generalizing s with
  | nil => rfl
  | cons g l ih =>
    show ((s.strobe g).each l State.strobe).rd j = _
    rw [ih, State.strobe, State.wr_rd, List.map_cons]
    by_cases own : R.PWM_GRP_LOAD_PEND g = j
    · simp [own]
    · simp [own, Ne.symm own]

theorem mget?_const {l : List Nat} {v j : Nat} : mget? (l.map fun k => (k, v)) j = if j ∈ l then some v else none := by
  induction l with
  | nil => rfl
  | cons k l ih =>
    rw [List.map_cons, mget?, ih]
    by_cases own : k = j
    · simp [own]
    · simp [own, Ne.symm own]

/-- Strobes set LOAD_PEND of their groups, and no other field. -/
theorem each_strobe_fields (l : List Nat) (s : State) : s.Fields (l.map fun g => (R.PWM_GRP_LOAD_PEND g, 1)) (s.each l State.strobe) := by
  intro j
  have listed : l.map (fun g => (R.PWM_GRP_LOAD_PEND g, 1)) = (l.map R.PWM_GRP_LOAD_PEND).map fun k => (k, 1) := by
    rw [List.map_map]
    rfl
  rw [each_strobe_rd, listed, mget?_const]
  split <;> rfl

theorem each_strobe_frame (l : List Nat) (s : State) : s.Frame [.regs] (s.each l State.strobe) :=
  State.each_frame .refl fun _ _ ht => State.strobe_frame Covers.refl ht

end

/-! ### The opcodes that name groups (R141, R142) -/

section
variable {s : State} {c : Cmd} {m : Nat}

/-- PWM_LOAD_ALL judges its mask and the modes of the groups it names, then strobes them. -/
theorem doPwmLoadAll_of_mask (payload : c.payload = le 2 m) (h : m < 65536) :
    (s.begin c 0x21).2.doPwmLoadAll (s.refOf c 0x21) c.payload = (s.begin c 0x21).2.checked (s.refOf c 0x21)
      [param (decide (m = 0 ∨ 4095 < m) || ((List.range 12).any fun g => bit m g && s.rd (R.PWM_GRP_UPD_MODE g) == 0))]
      fun u => (u.each ((List.range 12).filter fun g => bit m g) State.strobe).ok (s.refOf c 0x21) := by
  unfold State.doPwmLoadAll
  dsimp only
  rw [payload, u16_le h, List.any_filter]
  unfold State.checked
  rw [firstBad_of_length (le_length 2 m)]
  rfl

/-- PWM_SYNC judges its mask and that the groups it names are enabled, then takes them through a boundary. -/
theorem doPwmSync_of_mask (payload : c.payload = le 2 m) (h : m < 65536) :
    (s.begin c 0x22).2.doPwmSync (s.refOf c 0x22) c.payload = (s.begin c 0x22).2.checked (s.refOf c 0x22)
      [param (decide (m = 0 ∨ 4095 < m)), permitted (!((List.range 12).any fun g => bit m g && !s.grpOn g))]
      fun u => (u.each ((List.range 12).filter fun g => bit m g) fun u g => u.boundary g).ok (s.refOf c 0x22) := by
  have enabled : (((List.range 12).filter fun g => bit m g).all s.grpOn) = !((List.range 12).any fun g => bit m g && !s.grpOn g) := by
    rw [← List.any_filter (p := fun g => bit m g), List.not_any_eq_all_not]
    simp only [Bool.not_not]
  rw [← enabled]
  unfold State.doPwmSync
  dsimp only
  rw [payload, u16_le h]
  unfold State.checked
  rw [firstBad_of_length (le_length 2 m)]
  rfl

/-- PWM_GROUP_CTL judges its masks, and an enable by the state of the hub; it disables, then enables. -/
theorem doPwmGroupCtl_of_masks {en dis : Nat} (payload : c.payload = le 2 en ++ le 2 dis) (hen : en < 65536) (hdis : dis < 65536) :
    (s.begin c 0x20).2.doPwmGroupCtl (s.refOf c 0x20) c.payload = (s.begin c 0x20).2.checked (s.refOf c 0x20)
      [param (decide (4095 < en ∨ 4095 < dis ∨ en &&& dis ≠ 0)), permitted (decide (en = 0) || !s.actRefused)] fun u =>
      ((u.each ((List.range 12).filter fun g => bit dis g) State.groupOff).each
        ((List.range 12).filter fun g => bit en g) State.grpEnable).ok (s.refOf c 0x20) := by
  have second : u16 (le 2 en ++ le 2 dis) 2 = dis := u16_le hdis
  unfold State.doPwmGroupCtl
  dsimp only
  rw [payload, u16_le_append hen, second]
  unfold State.checked
  rw [firstBad_of_length (by simp)]
  rfl

/-- With a mask that names groups of mode 1 alone, the strobes and the reply are all there is. -/
theorem exec_pwmLoadAll (h : s.Ready c) (payload : c.payload = le 2 m) (low : 1 ≤ m) (high : m ≤ 4095)
    (mode1 : ∀ g < 12, bit m g = true → s.rd (R.PWM_GRP_UPD_MODE g) ≠ 0) : ∃ t, exec (.pwmLoadAll c) s = .next t ∧
    s.Answers c 0x21 stOk [] t ∧
    s.Fields (((List.range 12).filter fun g => bit m g).map fun g => (R.PWM_GRP_LOAD_PEND g, 1)) t ∧ s.Frame [.regs, .spoke] t := by
  have inRange : ¬ (m = 0 ∨ 4095 < m) := by omega
  have noMode0 : ((List.range 12).any fun g => bit m g && s.rd (R.PWM_GRP_UPD_MODE g) == 0) = false := by simpa using mode1
  have strobes := each_strobe_frame ((List.range 12).filter fun g => bit m g) (s.begin c 0x21).2
  have calm : ((s.begin c 0x21).2.each ((List.range 12).filter fun g => bit m g) State.strobe).flt.recov = [] :=
    (congrArg Flt.recov (strobes .flt (by decide))).trans (begin_calm h)
  refine ⟨_, congrArg Host.Outcome.next ((doPwmLoadAll_of_mask payload (by omega)).trans (checked_ok ?_)),
    ok_answers h (strobes .spoke (by decide)) calm, (each_strobe_fields _ (s.begin c 0x21).2).of_regs (State.ok_regs _ _ _), ?_⟩
  · rw [noMode0, decide_eq_false inRange]
    rfl
  · exact (begin_frame_spoke.mono (Covers.refl.sub rfl)).trans
      ((strobes.mono (Covers.refl.sub rfl)).trans ((finish_frame_of_calm calm).mono (Covers.refl.sub rfl)))

end

/-- Settles O42, clause by clause: the copies and the boundary, restart, calibration, and the opcodes with their refusals. -/
theorem pwmTimebases : Obligations.PwmTimebases := by
  unfold Obligations.PwmTimebases
  refine ⟨fun s g all_ => ⟨_, rfl, ?copies⟩, fun s g enabled runs => ?boundary, fun s g h => ?still,
    fun s stopped => ⟨_, rfl, ?restart⟩, fun s runs => ?noRestart,
    fun s lines running => congrArg Host.Outcome.next (calDone_of_run running),
    fun s g n waiting => ⟨_, rfl, swapLine_effect waiting⟩, fun s lines idle => congrArg Host.Outcome.next (calDone_of_not idle),
    fun s c m h payload low high => exec_pwmLoadAll h payload low high, fun s c m h payload lt bad => ?loadAllRefused,
    fun s c m h payload low high enabled => ⟨_, rfl, congrArg Host.Outcome.next ?sync⟩, fun s c m h payload low high disabled => ?syncRefused,
    fun s c en dis h payload hen hdis apart allowed => ⟨_, rfl, congrArg Host.Outcome.next ?groupCtl⟩,
    fun s g => ⟨grpEnable_of_off, grpEnable_of_on, grpDisable_of_off, fun h => ⟨_, rfl, grpDisable_effect h⟩⟩,
    fun s c en dis h payload hen hdis => ⟨fun bad => ?badMasks, fun enables enLow disLow apart refused => ?notPermitted⟩⟩
  case copies =>
    obtain ⟨full, hfull, landed, hlanded, per, pend, channels⟩ := copies_effect s g all_
    exact ⟨full, hfull, landed, hlanded, per, pend, fun n hn => channelView_atBoundary (channels n hn),
      State.copies_frame Covers.refl .refl⟩
  case boundary =>
    obtain ⟨u, hu, v, hv, passed⟩ := boundary_eq s g false
    exact ⟨u, hu, v, hv, congrArg Host.Outcome.next ((if_pos (by simp [enabled, runs])).trans passed)⟩
  case still => exact congrArg Host.Outcome.next (if_neg (by rcases h with h | h <;> simp [h]))
  case restart =>
    exact congrArg (fun u : State => Host.Outcome.next (u.forceOff 3 true)) (if_pos stopped : s.pwmRestart = _)
  case noRestart =>
    exact congrArg (fun u : State => Host.Outcome.next (u.forceOff 3 true))
      (if_neg (by rw [runs]; exact Bool.false_ne_true) : s.pwmRestart = s)
  case loadAllRefused =>
    refine refuses_of_check h rfl ⟨_, doPwmLoadAll_of_mask payload lt⟩ ?_ (by decide)
    rw [param, Bool.or_eq_true_iff.mpr (by simpa [or_assoc] using bad), firstBad_fail]
  case sync =>
    have inRange : ¬ (m = 0 ∨ 4095 < m) := by omega
    have running : ((List.range 12).any fun g => bit m g && !s.grpOn g) = false := by simpa using enabled
    refine (doPwmSync_of_mask payload (by omega)).trans (checked_ok ?_)
    rw [running, decide_eq_false inRange]
    rfl
  case syncRefused =>
    have inRange : ¬ (m = 0 ∨ 4095 < m) := by omega
    refine refuses_of_check h rfl ⟨_, doPwmSync_of_mask payload (by omega)⟩ ?_ (by decide)
    rw [disabled, decide_eq_false inRange]
    rfl
  case groupCtl =>
    have inRange : ¬ (4095 < en ∨ 4095 < dis ∨ en &&& dis ≠ 0) := by omega
    have free : (decide (en = 0) || !s.actRefused) = true := by simpa using allowed
    refine (doPwmGroupCtl_of_masks payload (by omega) (by omega)).trans (checked_ok ?_)
    rw [free, decide_eq_false inRange]
    rfl
  case badMasks =>
    refine refuses_of_check h rfl ⟨_, doPwmGroupCtl_of_masks payload hen hdis⟩ ?_ (by decide)
    rw [param, decide_eq_true bad, firstBad_fail]
  case notPermitted =>
    have inRange : ¬ (4095 < en ∨ 4095 < dis ∨ en &&& dis ≠ 0) := by omega
    refine refuses_of_check h rfl ⟨_, doPwmGroupCtl_of_masks payload hen hdis⟩ ?_ (by decide)
    rw [refused, decide_eq_false inRange, decide_eq_false (Nat.ne_of_gt enables)]
    rfl

end Sys2Proof.Machine
end

section
/-!
PROOFS. The timed events of valves, valve groups, bridges, fans and ramp outputs (R159, R161 to R163, R166, R167, R171 to R173, R182,
06_actuator_channels.md): what each changes where its condition holds, and that it changes nothing where it does not.
-/

namespace Sys2Proof.Machine

/-! ### The cycle of a valve (R159) -/

section
variable {s : State} {n : Nat}

theorem modValve_valve_same (f : Valve → Valve) : (s.modValve n f).valve n = f (s.valve n) := by rw [State.modValve_valve, if_pos rfl]

theorem valveOff_fields : s.Fields [(R.ACT_VLV_LEFT n, 0), (R.ACT_VLV_STATE n, 0)] (s.valveOff n) :=
  State.Fields.refl.wr.wr.of_regs rfl

/-- The on-time that a cycle samples. -/
def State.onTime (s : State) (n : Nat) : Nat :=
  onStages (s.rd (R.ACT_VLV_DEMAND n)) (s.rd (R.ACT_VLV_CYCLE n)) (s.rd (R.ACT_VLV_MIN_ON n))

/-- The two ends of a cycle that starts now. -/
def State.cycleTimed (s : State) (n : Nat) : State :=
  s.modValve n fun v =>
    { v with cycling := true, cycEnd := s.ticks + 1024 * s.rd (R.ACT_VLV_CYCLE n), onEnd := s.ticks + 1024 * s.onTime n }

theorem cycleStart_eq (s : State) (n : Nat) : s.cycleStart n = if s.onTime n = 0 then (s.cycleTimed n).valveOff n
    else if s.rd (R.ACT_VLV_STATE n) = 0 then (s.cycleTimed n).valveWait n else s.cycleTimed n := rfl

/-- Turning a channel off, or letting it wait, leaves the two ends of its cycle. -/
theorem cycleStart_ends (s : State) (n : Nat) : ((s.cycleStart n).valve n).cycling = true ∧
    ((s.cycleStart n).valve n).cycEnd = s.ticks + 1024 * s.rd (R.ACT_VLV_CYCLE n) ∧
    ((s.cycleStart n).valve n).onEnd = s.ticks + 1024 * s.onTime n := by
  have timed : (s.cycleTimed n).valve n = _ := modValve_valve_same _
  have off : ((s.cycleTimed n).valveOff n).valve n = { (s.cycleTimed n).valve n with rose := false } := modValve_valve_same _
  have wait : ((s.cycleTimed n).valveWait n).valve n = { (s.cycleTimed n).valve n with waitAt := s.ticks, rose := false } :=
    modValve_valve_same _
  rw [cycleStart_eq]
  split
  · rw [off, timed]
    exact ⟨rfl, rfl, rfl⟩
  · split
    · rw [wait, timed]
      exact ⟨rfl, rfl, rfl⟩
    · rw [timed]
      exact ⟨rfl, rfl, rfl⟩

/-- A cycle with no on-time turns the channel off, another lets a channel that is off wait, and one that is on goes on. -/
theorem cycleStart_fields (s : State) (n : Nat) : s.Fields (if s.onTime n = 0 then [(R.ACT_VLV_LEFT n, 0), (R.ACT_VLV_STATE n, 0)]
    else if s.rd (R.ACT_VLV_STATE n) = 0 then [(R.ACT_VLV_LEFT n, 0), (R.ACT_VLV_STATE n, 1)] else []) (s.cycleStart n) := by
  rw [cycleStart_eq]
  split
  · exact State.Fields.refl.wr.wr.of_regs rfl
  · split
    · exact State.Fields.refl.wr.wr.of_regs rfl
    · exact State.Fields.refl.of_regs rfl

theorem cycleStart_state (s : State) (n : Nat) : (s.cycleStart n).rd (R.ACT_VLV_STATE n) =
    if s.onTime n = 0 then 0 else if s.rd (R.ACT_VLV_STATE n) = 0 then 1 else s.rd (R.ACT_VLV_STATE n) := by
  rw [cycleStart_fields s n]
  split_ifs <;> simp [mget?]

theorem cycleStart_demand (s : State) (n : Nat) : (s.cycleStart n).rd (R.ACT_VLV_DEMAND n) = s.rd (R.ACT_VLV_DEMAND n) := by
  rw [cycleStart_fields s n]
  split_ifs <;> simp [mget?]

/-- The demand that a cycle samples is not among the values the on-time is computed with. -/
theorem onTime_of_demand (d : Nat) : (s.wr (R.ACT_VLV_DEMAND n) d).onTime n =
    onStages d (s.rd (R.ACT_VLV_CYCLE n)) (s.rd (R.ACT_VLV_MIN_ON n)) := by
  unfold State.onTime
  rw [State.wr_rd_same, State.wr_rd_other _ _ (by simp), State.wr_rd_other _ _ (by simp)]

theorem exec_valveCycleStart_of_due {n : Fin 48} (live : s.rd (R.ACT_VLV_STATE n) ≠ 4) (demand : s.valveDemand n ≠ 0)
    (due : (s.valve n).cycling = false ∨ (s.valve n).cycEnd ≤ s.ticks) :
    exec (.valveCycleStart n) s = .next ((s.wr (R.ACT_VLV_DEMAND n) (s.valveDemand n)).cycleStart n) :=
  congrArg Host.Outcome.next (if_pos (by simp [live, demand, due]))

theorem exec_valveCycleStart_of_not {n : Fin 48} (h : s.rd (R.ACT_VLV_STATE n) = 4 ∨ s.valveDemand n = 0 ∨
    (s.valve n).cycling = true ∧ s.ticks < (s.valve n).cycEnd) : exec (.valveCycleStart n) s = .next s :=
  congrArg Host.Outcome.next (if_neg (by
    rcases h with latched | none_ | ⟨runs, early⟩
    · simp [latched]
    · simp [none_]
    · simp [runs, early]))

/-- The nearest stage to d · cycle / 4,096, then the two ends that MIN_ON clears. -/
theorem onStages_eq (d cycle m : Nat) : ∃ x, x = (2 * (d * cycle) + 4096) / 8192 ∧
    onStages d cycle m = if cycle - (if x < m then 0 else x) < m then cycle else if x < m then 0 else x := by
  have nearest : (roundDiv (d * cycle : Nat) 4096).toNat = (2 * (d * cycle) + 4096) / 8192 := by
    rw [roundDiv_eq_ediv]
    omega
  refine ⟨_, rfl, ?_⟩
  rw [← nearest]
  rfl

theorem onTimeEnd_of_due (runs : (s.valve n).cycling = true) (late : (s.valve n).onEnd ≤ s.ticks)
    (live : s.rd (R.ACT_VLV_STATE n) ≠ 4) : s.onTimeEnd n = s.valveOff n := if_pos (by simp [runs, late, live])

theorem onTimeEnd_of_not (h : (s.valve n).cycling = false ∨ s.ticks < (s.valve n).onEnd ∨ s.rd (R.ACT_VLV_STATE n) = 4) :
    s.onTimeEnd n = s := if_neg (by rcases h with h | h | h <;> simp [h])

/-! ### The end of the inrush (R161) -/

/-- The last run of the timer leaves 0, so the hold values are committed. -/
theorem exec_inrushEnd_of_due {n : Fin 48} (inrush : s.rd (R.ACT_VLV_STATE n) = 2) (last : s.rd (R.ACT_VLV_LEFT n) ≤ 1)
    (rose : (s.valve n).rose = true) (runs : s.rd (R.ACT_VGRP_RECOV (n / 8)) ≠ 1) :
    exec (.inrushEnd n) s = .next ((s.wr (R.ACT_VLV_LEFT n) 0).wr (R.ACT_VLV_STATE n) 3) := by
  have counted : exec (.inrushEnd n) s = .next (s.inrushTick n) := congrArg Host.Outcome.next (if_pos last)
  have ticked : s.inrushTick n = (s.wr (R.ACT_VLV_LEFT n) (s.rd (R.ACT_VLV_LEFT n) - 1)).inrushEnd n :=
    if_pos (by simp [inrush, rose, mt State.on_iff.mp runs])
  have none_left : s.rd (R.ACT_VLV_LEFT n) - 1 = 0 := by omega
  rw [counted, ticked, none_left]
  refine congrArg Host.Outcome.next (if_pos ⟨?_, State.wr_rd_same _ _ _⟩)
  rw [State.wr_rd_other _ _ (by simp), inrush]

theorem exec_inrushEnd_of_not {n : Fin 48} (h : s.rd (R.ACT_VLV_STATE n) ≠ 2 ∨ 1 < s.rd (R.ACT_VLV_LEFT n) ∨
    (s.valve n).rose = false ∨ s.rd (R.ACT_VGRP_RECOV (n / 8)) = 1) : exec (.inrushEnd n) s = .next s := by
  by_cases last : s.rd (R.ACT_VLV_LEFT n) ≤ 1
  · have ticked : s.inrushTick n = s := if_neg (by
      rcases h with h | h | h | h
      · simp [h]
      · omega
      · simp [h]
      · simp [State.on_iff.mpr h])
    exact congrArg Host.Outcome.next ((if_pos last).trans ticked)
  · exact congrArg Host.Outcome.next (if_neg last)

end

/-! ### The recovery of a valve group (R162, R163) -/

section
variable {s : State} {g : Nat}

theorem modVgrp_vgrp_same (f : VGrp → VGrp) : (s.modVgrp g f).vgrp g = f (s.vgrp g) := by rw [State.modVgrp_vgrp, if_pos rfl]

/-- Where a group recovers already its fields and its count of runs stay. -/
theorem recoveryStart_effect (s : State) (g : Nat) :
    s.Fields (if s.rd (R.ACT_VGRP_RECOV g) = 1 then [] else [(R.ACT_VGRP_PAUSED g, 0), (R.ACT_VGRP_RECOV g, 1)]) (s.recoveryStart g) ∧
    (s.recoveryStart g).vgrp g = if s.rd (R.ACT_VGRP_RECOV g) = 1 then s.vgrp g else { s.vgrp g with runs := 0, short := none } := by
  unfold State.recoveryStart
  simp only [State.on_iff]
  split
  · exact ⟨State.Fields.refl, rfl⟩
  · exact ⟨State.Fields.refl.wr.wr.of_regs rfl, modVgrp_vgrp_same _⟩

/-- What the end of a recovery tells of its cause: the channel that is short, or that the group as a whole drew too much. -/
def State.causeTold (s : State) (g vgOver : Nat) : Option Nat → State
  | some c => s.wrs [(R.ACT_VGRP_LAST_SHORT g, c), (R.ACT_VGRP_LS_VALID g, 1)]
  | none => ((s.wr R.ACT_STAT_VG_OVER vgOver).note 0x28 5 g 0).fault clDegrade 0x24 5 g 0

/-- A group whose recovery is over: what it knows of the short, the runs it paused, and VG_OVER once it names the group. -/
def State.recovered (s : State) (g : Nat) (short : Option Nat) (paused vgOver : Nat) : State :=
  (((s.wr (R.ACT_VGRP_RECOV g) 0).note 0x28 4 g paused).causeTold g vgOver short).modVgrp g fun x => { x with runs := 0, short := none }

/-- A group that still draws too much at its tenth run is disabled. -/
def State.groupGivenUp (s : State) (g : Nat) : State := ((s.grpDisable g).note 0x28 6 g 0).fault clPlant 0x24 6 g 0

theorem causeTold_keeps_gsns (hg : g < 6) (vgOver : Nat) (short : Option Nat) :
    (s.causeTold g vgOver short).rd (R.ACT_VGRP_GSNS_HI g) = s.rd (R.ACT_VGRP_GSNS_HI g) := by
  cases short with
  | some c => exact wrs_rd_other (by simp)
  | none =>
    refine (fault_rd_other _ _ _ _ _ _ (by unfold R.ACT_VGRP_GSNS_HI; omega)).trans ?_
    rw [State.note_rd, State.wr_rd_other _ _ (by unfold R.ACT_STAT_VG_OVER R.ACT_VGRP_GSNS_HI; omega)]

theorem recovered_keeps_gsns (hg : g < 6) (short : Option Nat) (paused vgOver : Nat) :
    (s.recovered g short paused vgOver).rd (R.ACT_VGRP_GSNS_HI g) = s.rd (R.ACT_VGRP_GSNS_HI g) := by
  unfold State.recovered
  rw [State.modVgrp_rd, causeTold_keeps_gsns hg, State.note_rd, State.wr_rd_other _ _ (by simp)]

/-- The writes ahead of VG_OVER are in the group's own block. -/
theorem recovTold_keeps_vgOver (s : State) (g paused : Nat) :
    ((s.wr (R.ACT_VGRP_RECOV g) 0).note 0x28 4 g paused).rd R.ACT_STAT_VG_OVER = s.rd R.ACT_STAT_VG_OVER := by
  rw [State.note_rd]
  exact State.wr_rd_other _ _ (by unfold R.ACT_STAT_VG_OVER R.ACT_VGRP_RECOV; omega)

theorem vgrp_congr {a b : State} (h : a.act = b.act) (g : Nat) : a.vgrp g = b.vgrp g := by
  unfold State.vgrp
  rw [h]

/-- The group's recovery is over; at the tenth run the group is given up if it still draws too much. -/
theorem recoveryEnd_of_recovering {tenth : Bool} (hg : g < 6) (recovering : s.rd (R.ACT_VGRP_RECOV g) = 1) : ∃ w,
    w = s.recovered g (s.vgrp g).short (s.rd (R.ACT_VGRP_PAUSED g)) (setBit (s.rd R.ACT_STAT_VG_OVER) g true) ∧
    s.recoveryEnd g tenth = if tenth = true ∧ s.rd (R.ACT_VGRP_GSNS_HI g) = 1 then w.groupGivenUp g else w := by
  refine ⟨_, rfl, ?_⟩
  rw [← recovered_keeps_gsns (s := s) hg (s.vgrp g).short (s.rd (R.ACT_VGRP_PAUSED g)) (setBit (s.rd R.ACT_STAT_VG_OVER) g true),
    ← recovTold_keeps_vgOver s g (s.rd (R.ACT_VGRP_PAUSED g))]
  have still : ((s.wr (R.ACT_VGRP_RECOV g) 0).note 0x28 4 g (s.rd (R.ACT_VGRP_PAUSED g))).vgrp g = s.vgrp g :=
    vgrp_congr (State.note_act _ _ _ _ _) g
  unfold State.recoveryEnd State.recovered State.causeTold State.groupGivenUp State.actNote
  rw [if_pos (State.on_iff.mpr recovering)]
  dsimp only
  rw [still]
  cases (s.vgrp g).short <;> simp only [Bool.and_eq_true, State.on_iff]

theorem recoveryEnd_of_not {tenth : Bool} (h : s.rd (R.ACT_VGRP_RECOV g) ≠ 1) : s.recoveryEnd g tenth = s :=
  if_neg (mt State.on_iff.mp h)

/-- The row reads all it tells from the state it finds: that GSNSg has gone low changes none of it. -/
theorem exec_groupRecoveryEnd_of_recovering {g : Fin 6} {low : Bool} (recovering : s.rd (R.ACT_VGRP_RECOV g) = 1)
    (ends : low = true ∨ 9 ≤ (s.vgrp g).runs) : ∃ w,
    w = (if low then s.wr (R.ACT_VGRP_GSNS_HI g) 0 else s).recovered g (s.vgrp g).short (s.rd (R.ACT_VGRP_PAUSED g))
      (setBit (s.rd R.ACT_STAT_VG_OVER) g true) ∧
    exec (.groupRecoveryEnd g low) s = .next (if low = false ∧ s.rd (R.ACT_VGRP_GSNS_HI g) = 1 then w.groupGivenUp g else w) := by
  cases low with
  | true =>
    have still : ∀ k, R.ACT_VGRP_GSNS_HI g ≠ k → (s.wr (R.ACT_VGRP_GSNS_HI g) 0).rd k = s.rd k := fun k => State.wr_rd_other _ _
    obtain ⟨w, hw, recovered⟩ := recoveryEnd_of_recovering (s := s.wr (R.ACT_VGRP_GSNS_HI g) 0) (tenth := false) g.isLt
      (by rw [still _ (by simp), recovering])
    rw [still _ (by simp), still _ (by unfold R.ACT_STAT_VG_OVER R.ACT_VGRP_GSNS_HI; omega)] at hw
    exact ⟨w, hw, congrArg Host.Outcome.next (recovered.trans (by simp))⟩
  | false =>
    obtain ⟨w, hw, recovered⟩ := recoveryEnd_of_recovering (tenth := true) g.isLt recovering
    have tenth : 9 ≤ (s.vgrp g).runs := ends.resolve_left Bool.false_ne_true
    exact ⟨w, hw, congrArg Host.Outcome.next ((if_pos tenth).trans (recovered.trans (by simp)))⟩

theorem exec_groupRecoveryEnd_of_not {g : Fin 6} (h : s.rd (R.ACT_VGRP_RECOV g) ≠ 1 ∨ (s.vgrp g).runs < 9) :
    exec (.groupRecoveryEnd g false) s = .next s := by
  by_cases tenth : 9 ≤ (s.vgrp g).runs
  · exact congrArg Host.Outcome.next ((if_pos tenth).trans (recoveryEnd_of_not (h.resolve_right (Nat.not_lt.mpr tenth))))
  · exact congrArg Host.Outcome.next (if_neg tenth)

end

/-! ### Bridges (R166, R167) -/

section
variable {s : State} {k : Nat}

/-- An end run that ends now is at its end's position. -/
def State.endReached (s : State) (k : Nat) : State :=
  if (s.bridge k).endRun = true then (s.wrs [(R.ACT_BR_POS k, if (s.bridge k).dir = 1 then 0xFFF else 0),
    (R.ACT_BR_POS_OK k, 1)]).modBridge k (fun x => { x with frac := 0 }) else s

/-- The position does not change which command the move belongs to. -/
theorem endReached_cmd (s : State) (k : Nat) : ((s.endReached k).bridge k).cmd = (s.bridge k).cmd := by
  unfold State.endReached
  split
  · rw [State.modBridge_bridge, if_pos rfl]
    rfl
  · rfl

theorem bridgeMoveEnd_of_due (moves : s.rd (R.ACT_BR_STATE k) = 1 ∨ s.rd (R.ACT_BR_STATE k) = 2) (ended : s.rd (R.ACT_BR_LEFT k) = 0) :
    s.bridgeMoveEnd k = ((s.endReached k).bridgeStopped k).finish? (s.bridge k).cmd stOk := by
  rw [← endReached_cmd s k]
  exact if_pos ⟨moves, ended⟩

theorem bridgeMoveEnd_of_not (h : ¬ (s.rd (R.ACT_BR_STATE k) = 1 ∨ s.rd (R.ACT_BR_STATE k) = 2) ∨ s.rd (R.ACT_BR_LEFT k) ≠ 0) :
    s.bridgeMoveEnd k = s := if_neg fun ⟨moves, ended⟩ => h.elim (· moves) (· ended)

theorem coastEnd_of_due (coasts : s.rd (R.ACT_BR_STATE k) = 3) (ended : (s.bridge k).coast = 0) : s.coastEnd k =
    (s.wrs [(R.ACT_BR_STATE k, (s.bridge k).dir), (R.ACT_BR_LEFT k, (s.bridge k).ticks)]).escEnd (.reversal k) :=
  if_pos ⟨coasts, ended⟩

theorem coastEnd_of_not (h : s.rd (R.ACT_BR_STATE k) ≠ 3 ∨ (s.bridge k).coast ≠ 0) : s.coastEnd k = s :=
  if_neg fun ⟨coasts, ended⟩ => h.elim (· coasts) (· ended)

theorem reversalExpired_iff : s.reversalExpired k = true ↔ ∃ r ∈ s.pwr.wait, r.kind = .reversal k ∧ r.since + 1024 ≤ s.ticks := by
  simp only [State.reversalExpired, List.any_eq_true, decide_eq_true_eq]

theorem exec_reversalNotAdmitted_of_due {b : Fin 16} (waits : s.rd (R.ACT_BR_STATE b) = 4)
    (expired : ∃ r ∈ s.pwr.wait, r.kind = .reversal b ∧ r.since + 1024 ≤ s.ticks) : exec (.reversalNotAdmitted b) s =
    .next (((s.bridgeEnd b stFault).note 0x28 9 b 0).fault clNote 0x24 9 b 0) :=
  congrArg Host.Outcome.next ((if_pos (reversalExpired_iff.mpr expired)).trans (if_pos waits))

theorem exec_reversalNotAdmitted_of_not {b : Fin 16} (h : s.rd (R.ACT_BR_STATE b) ≠ 4 ∨
    (∀ r ∈ s.pwr.wait, r.kind = .reversal b → s.ticks < r.since + 1024)) : exec (.reversalNotAdmitted b) s = .next s := by
  rcases h with idle | early
  · have fails : s.reversalFail b = s := if_neg idle
    exact congrArg Host.Outcome.next (by rw [fails, ite_self])
  · refine congrArg Host.Outcome.next (if_neg (mt reversalExpired_iff.mp ?_))
    rintro ⟨r, waits, own, expired⟩
    exact Nat.not_le.mpr (early r waits own) expired

end

/-! ### Fans and ramps (R171 to R173) -/

section
variable {s : State} {f v : Nat}

theorem fanStall_of_due (late : s.rd (R.ACT_FAN_STALL_T f) ≤ (s.fan f).slow) (slow : 0 < (s.fan f).slow)
    (fresh : s.rd (R.ACT_FAN_STALL f) ≠ 1) : s.fanStall f = ((s.wr (R.ACT_FAN_STALL f) 1).note 0x28 7 f
      (s.rd (R.ACT_FAN_RPM f))).fault clDegrade 0x24 7 f (s.rd (R.ACT_FAN_RPM f)) :=
  if_pos (by simp [late, slow, mt State.on_iff.mp fresh])

theorem fanStall_of_not (h : (s.fan f).slow < s.rd (R.ACT_FAN_STALL_T f) ∨ (s.fan f).slow = 0 ∨ s.rd (R.ACT_FAN_STALL f) = 1) :
    s.fanStall f = s := by
  refine if_neg ?_
  rcases h with early | turns | told
  · simp [Nat.not_le.mpr early]
  · simp [turns]
  · simp [State.on_iff.mpr told]

theorem rampArrived_of_cmd {r : Ref} (cmd : (s.ramp v).cmd = some r) (next : (s.ramp v).next = none) : s.rampArrived v =
    if s.rd (R.ACT_VOUT_CODE v) = s.rd (R.ACT_VOUT_TARGET v) then (s.modRamp v fun x => { x with cmd := none }).finish r stOk else s := by
  unfold State.rampArrived
  rw [cmd, next]
  rfl

theorem rampArrived_of_not (h : (s.ramp v).cmd = none ∨ (s.ramp v).next ≠ none ∨
    s.rd (R.ACT_VOUT_CODE v) ≠ s.rd (R.ACT_VOUT_TARGET v)) : s.rampArrived v = s := by
  unfold State.rampArrived
  split
  · rename_i r cmd next
    refine if_neg (h.elim (fun none_ => ?_) (·.resolve_left (not_not.mpr next)))
    rw [cmd] at none_
    exact absurd none_ (Option.some_ne_none r)
  · rfl

theorem approach_up {p goal : Nat} (step : Nat) (h : p ≤ goal) :
    p ≤ approach p goal step ∧ approach p goal step ≤ goal ∧ approach p goal step ≤ p + step := by
  unfold approach
  split <;> omega

theorem approach_down {p goal : Nat} (step : Nat) (h : goal ≤ p) :
    goal ≤ approach p goal step ∧ approach p goal step ≤ p ∧ p ≤ approach p goal step + step := by
  unfold approach
  rw [if_neg (Nat.not_lt.mpr h)]
  omega

end

/-- Settles O44, event by event: valves, the recovery of their groups, bridges, fans and ramps, each with and without its condition. -/
theorem actuatorEvents : Obligations.ActuatorEvents := by
  unfold Obligations.ActuatorEvents
  refine ⟨fun s n live demand due => ?cycle, fun s n => exec_valveCycleStart_of_not, onStages_eq,
    fun s n runs late live => ⟨_, congrArg Host.Outcome.next (onTimeEnd_of_due runs late live), modValve_valve_same _, valveOff_fields,
      State.valveOff_frame Covers.refl .refl⟩,
    fun s n h => congrArg Host.Outcome.next (onTimeEnd_of_not h),
    fun s n inrush last rose runs => ⟨_, exec_inrushEnd_of_due inrush last rose runs, State.Fields.refl.wr.wr,
      State.wr_frame Covers.refl (State.wr_frame Covers.refl .refl)⟩,
    fun s n => exec_inrushEnd_of_not, fun s g => ?recoveryStart,
    fun s g low recovering ends => ?recovery,
    fun s g idle => ⟨_, congrArg Host.Outcome.next (recoveryEnd_of_not ?stillIdle), State.Fields.refl.wr,
      State.wr_frame Covers.refl .refl⟩,
    fun s g => exec_groupRecoveryEnd_of_not,
    fun s b moves ended => ⟨_, rfl, congrArg Host.Outcome.next (bridgeMoveEnd_of_due moves ended)⟩,
    fun s b h => congrArg Host.Outcome.next (bridgeMoveEnd_of_not h),
    fun s b coasts ended => congrArg Host.Outcome.next (coastEnd_of_due coasts ended),
    fun s b h => congrArg Host.Outcome.next (coastEnd_of_not h),
    fun s b => exec_reversalNotAdmitted_of_due, fun s b => exec_reversalNotAdmitted_of_not,
    fun s f late slow fresh => congrArg Host.Outcome.next (fanStall_of_due late slow fresh),
    fun s f h => congrArg Host.Outcome.next (fanStall_of_not h),
    fun s v r cmd next arrived => congrArg Host.Outcome.next ((rampArrived_of_cmd cmd next).trans (if_pos arrived)),
    fun s v h => congrArg Host.Outcome.next (rampArrived_of_not h), fun p goal step => ⟨approach_up step, approach_down step⟩⟩
  case cycle =>
    have still : ∀ k, R.ACT_VLV_DEMAND n ≠ k → (s.wr (R.ACT_VLV_DEMAND n) (s.valveDemand n)).rd k = s.rd k :=
      fun k => State.wr_rd_other _ _
    have state := cycleStart_state (s.wr (R.ACT_VLV_DEMAND n) (s.valveDemand n)) n
    obtain ⟨cycling, cycEnd, onEnd⟩ := cycleStart_ends (s.wr (R.ACT_VLV_DEMAND n) (s.valveDemand n)) n
    rw [onTime_of_demand] at onEnd state
    rw [still _ (by simp)] at cycEnd state
    exact ⟨_, rfl, _, exec_valveCycleStart_of_due live demand due, (cycleStart_demand _ _).trans (State.wr_rd_same _ _ _), cycling,
      cycEnd, onEnd, state, State.cycleStart_frame Covers.refl (State.wr_frame (Covers.refl.sub rfl) .refl)⟩
  case recoveryStart =>
    obtain ⟨fields, group⟩ := recoveryStart_effect s g
    have low : (((s.recoveryStart g).wr (R.ACT_VGRP_GSNS_HI g) 1).modVgrp g fun x => { x with low := 0 }).vgrp g =
        { (s.recoveryStart g).vgrp g with low := 0 } := modVgrp_vgrp_same _
    refine ⟨_, rfl, low.trans ?_, fields.wr.of_regs rfl, State.modVgrp_frame (Covers.refl.sub rfl)
      (State.wr_frame (Covers.refl.sub rfl) (State.recoveryStart_frame Covers.refl .refl))⟩
    rw [group]
    split <;> rfl
  case recovery =>
    obtain ⟨w, rfl, ended⟩ := exec_groupRecoveryEnd_of_recovering recovering ends
    refine ⟨_, rfl, State.causeTold _ g (setBit (s.rd R.ACT_STAT_VG_OVER) g true) (s.vgrp g).short, ?_, _, rfl, ended⟩
    cases (s.vgrp g).short <;> rfl
  case stillIdle => rwa [State.wr_rd_other _ _ (by simp)]

end Sys2Proof.Machine
end

section
/-!
PROOFS. The converters (R185 to R188, R190, R191, R206, Table 7-1, 07_adc_sensing.md): what the end of a conversion does, the starts of
Table 7-1 with the state of the unit they meet, the write of ADC_CTL, and the opcodes ADC_CONVERT and ADC_SAVE.
-/

namespace Sys2Proof.Machine

/-! ### A pending single (Table 7-1) -/

section
variable {s : State} {u : Nat}

theorem modAdcu_adcu_same (f : AdcUnit → AdcUnit) : (s.modAdcu u f).adcu u = f (s.adcu u) := by rw [State.modAdcu_adcu, if_pos rfl]

theorem adcu_congr {a b : State} (h : a.adc.units = b.adc.units) (u : Nat) : a.adcu u = b.adcu u := by
  unfold State.adcu
  rw [h]

theorem pendStart_of_free (idle : (s.adcu u).seq = none) (unreserved : (s.adcu u).rsv = false) (free : (s.adcu u).single = none)
    (pends : (s.adcu u).pend ≠ none) : s.pendStart u = s.modAdcu u fun x => { x with single := x.pend, pend := none } :=
  if_pos (by simp [idle, unreserved, free, Option.isSome_iff_ne_none, pends])

theorem pendStart_of_not (h : (s.adcu u).seq ≠ none ∨ (s.adcu u).rsv = true ∨ (s.adcu u).single ≠ none ∨ (s.adcu u).pend = none) :
    s.pendStart u = s := by
  refine if_neg ?_
  rcases h with runs | reserved | runs | none_
  · simp [runs]
  · simp [reserved]
  · simp [runs]
  · simp [none_]

end

/-! ### The end of a conversion (R185, R188, R191) -/

section
variable {s : State} {u code i : Nat} {ovr unr : Bool}

/-- The unit is free of its single, and ADC_DATA holds the result; OVERRUN says that the result before was not read (R191). -/
def State.singleWritten (s : State) (u i code : Nat) (ovr unr : Bool) : State :=
  (s.modAdcu u fun x => { x with single := none }).wrs [(R.ADC_DATA_CODE, code), (R.ADC_DATA_INPUT, i), (R.ADC_DATA_OVR, b2n ovr),
    (R.ADC_DATA_UNR, b2n unr), (R.ADC_DATA_OVERRUN, if s.rd R.ADC_DATA_NEW = 1 ∨ s.rd R.ADC_DATA_OVERRUN = 1 then 1 else 0),
    (R.ADC_DATA_NEW, 1)]

/-- An ADC_CONVERT that waits answers with the result, which reads ADC_DATA (R206). -/
def State.convAnswered (s : State) (code : Nat) (ovr unr : Bool) : State :=
  match s.adc.conv with
  | none => s
  | some r => ({ s.wrs [(R.ADC_DATA_NEW, 0), (R.ADC_DATA_OVERRUN, 0)] with adc.conv := none }).ok r
      (le 2 code ++ le 1 (b2n ovr + 2 * b2n unr))

theorem singleWritten_adc (s : State) (u i code : Nat) (ovr unr : Bool) :
    (s.singleWritten u i code ovr unr).adc = (s.modAdcu u fun x => { x with single := none }).adc := State.wrs_adc _ _

/-- The answer leaves the units as they are. -/
theorem convAnswered_adcu (s : State) (code : Nat) (ovr unr : Bool) (u : Nat) : (s.convAnswered code ovr unr).adcu u = s.adcu u := by
  unfold State.convAnswered
  split
  · rfl
  · exact adcu_congr (congrArg Adc.units (State.ok_adc _ _ _)) u

theorem singleFreed_adcu (s : State) (u i code : Nat) (ovr unr : Bool) :
    ((s.singleWritten u i code ovr unr).convAnswered code ovr unr).adcu u = { s.adcu u with single := none } :=
  (convAnswered_adcu _ _ _ _ u).trans ((adcu_congr (congrArg Adc.units (singleWritten_adc ..)) u).trans (modAdcu_adcu_same _))

/-- With no sequence waiting for the single, its end lets a pending one start. -/
theorem singleDone_of_single (single : (s.adcu u).single = some i) (alone : (s.adcu u).seqPend = false) :
    s.singleDone u code ovr unr = ((s.singleWritten u i code ovr unr).convAnswered code ovr unr).pendStart u := by
  have overrun : b2n (s.on R.ADC_DATA_NEW || s.on R.ADC_DATA_OVERRUN) =
      if s.rd R.ADC_DATA_NEW = 1 ∨ s.rd R.ADC_DATA_OVERRUN = 1 then 1 else 0 := by
    simp only [b2n, Bool.or_eq_true, State.on_iff]
  have freed : (((s.singleWritten u i code ovr unr).convAnswered code ovr unr).adcu u).seqPend = false := by
    rw [singleFreed_adcu, alone]
  have done : s.singleDone u code ovr unr =
      if (((s.singleWritten u i code ovr unr).convAnswered code ovr unr).adcu u).seqPend then
        ((s.singleWritten u i code ovr unr).convAnswered code ovr unr).seqGo u
      else ((s.singleWritten u i code ovr unr).convAnswered code ovr unr).pendStart u := by
    unfold State.singleDone State.singleWritten State.convAnswered
    rw [single, ← overrun]
    rfl
  rw [done, if_neg (by rw [freed]; exact Bool.false_ne_true)]

theorem singleDone_of_none (h : (s.adcu u).single = none) : s.singleDone u code ovr unr = s := by
  unfold State.singleDone
  rw [h]

/-- With no ADC_CONVERT that waits and no single that pends, the end of a single only frees the unit and writes ADC_DATA. -/
theorem singleDone_unanswered (single : (s.adcu u).single = some i) (none_ : (s.adcu u).pend = none)
    (alone : (s.adcu u).seqPend = false) (silent : s.adc.conv = none) :
    s.singleDone u code ovr unr = s.singleWritten u i code ovr unr := by
  have unasked : (s.singleWritten u i code ovr unr).convAnswered code ovr unr = s.singleWritten u i code ovr unr := by
    unfold State.convAnswered
    rw [singleWritten_adc, show (s.modAdcu u fun x => { x with single := none }).adc.conv = none from silent]
  have freed := singleFreed_adcu s u i code ovr unr
  rw [unasked] at freed
  rw [singleDone_of_single single alone, unasked]
  exact pendStart_of_not (.inr (.inr (.inr (by rw [freed, none_]))))

theorem convAnswered_of_waiting {r : Ref} (waits : s.adc.conv = some r) : s.convAnswered code ovr unr =
    ({ s.wrs [(R.ADC_DATA_NEW, 0), (R.ADC_DATA_OVERRUN, 0)] with adc.conv := none }).ok r
      (le 2 code ++ le 1 (b2n ovr + 2 * b2n unr)) := by
  unfold State.convAnswered
  rw [waits]

theorem convEnd_of_seq {q : SeqRun} (runs : (s.adcu u).seq = some q) : s.convEnd u code ovr unr = s.seqResult u q code ovr unr := by
  unfold State.convEnd
  rw [runs]

theorem convEnd_of_idle (idle : (s.adcu u).seq = none) : s.convEnd u code ovr unr = s.singleDone u code ovr unr := by
  unfold State.convEnd
  rw [idle]

end

/-! ### The starts of Table 7-1 -/

section
variable {s : State} {u i : Nat}

theorem seqStart_of_running (works : s.unitOff u = false) (runs : (s.adcu u).seq ≠ none) :
    s.seqStart u = ((s.wr (lostField u) 1).note 0x30 6 u 0).fault clNote 0x30 6 u 0 :=
  (if_neg (by simp [works])).trans (if_pos (Option.isSome_iff_ne_none.mpr runs))

theorem seqStart_of_not_running (works : s.unitOff u = false) (idle : (s.adcu u).seq = none) : s.seqStart u =
    if (s.adcu u).single.isSome then s.modAdcu u fun x => { x with seqPend := true } else s.seqGo u :=
  (if_neg (by simp [works])).trans (if_neg (by simp [idle]))

theorem seqGo_of_empty (empty : (s.seqBank u).2 = []) : s.seqGo u = (s.wr (nullField u) 1).note 0x30 7 u 0 :=
  if_pos (List.isEmpty_iff.mpr empty)

theorem seqGo_of_inputs (inputs : (s.seqBank u).2 ≠ []) : s.seqGo u = (s.wr (seqField u) 1).modAdcu u fun x =>
    { x with seq := some ⟨s.tick, (s.seqBank u).1, (s.seqBank u).2, 0, true⟩, seqPend := false } :=
  if_neg (mt List.isEmpty_iff.mp inputs)

/-- A single start on a unit that may work, as far as what the unit holds decides it. -/
theorem singleStart_of_works (works : s.unitOff (i / 32) = false) : s.singleStart i =
    if (s.adcu (i / 32)).single.isSome || (s.adcu (i / 32)).pend.isSome then s.wr R.ADC_STAT_SGL_LOST 1
    else if (s.adcu (i / 32)).seq.isSome || (s.adcu (i / 32)).rsv then s.modAdcu (i / 32) fun x => { x with pend := some i }
    else s.modAdcu (i / 32) fun x => { x with single := some i } := if_neg (by simp [works])

theorem singleStart_of_taken (works : s.unitOff (i / 32) = false)
    (taken : (s.adcu (i / 32)).single ≠ none ∨ (s.adcu (i / 32)).pend ≠ none) : s.singleStart i = s.wr R.ADC_STAT_SGL_LOST 1 :=
  (singleStart_of_works works).trans (if_pos (by simpa [Option.isSome_iff_ne_none] using taken))

theorem singleStart_of_held (works : s.unitOff (i / 32) = false) (free : (s.adcu (i / 32)).single = none)
    (none_ : (s.adcu (i / 32)).pend = none) (held : (s.adcu (i / 32)).seq ≠ none ∨ (s.adcu (i / 32)).rsv = true) :
    s.singleStart i = s.modAdcu (i / 32) fun x => { x with pend := some i } := by
  rw [singleStart_of_works works, if_neg (by simp [free, none_]), if_pos (by simpa [Option.isSome_iff_ne_none] using held)]

theorem singleStart_of_free (works : s.unitOff (i / 32) = false) (free : (s.adcu (i / 32)).single = none)
    (none_ : (s.adcu (i / 32)).pend = none) (idle : (s.adcu (i / 32)).seq = none) (unreserved : (s.adcu (i / 32)).rsv = false) :
    s.singleStart i = s.modAdcu (i / 32) fun x => { x with single := some i } := by
  rw [singleStart_of_works works, if_neg (by simp [free, none_]), if_neg (by simp [idle, unreserved])]

end

/-! ### A write of ADC_CTL (R186) -/

section
variable {s : State} {v : BitVec 32}

/-- INPUT is the one field of ADC_CTL that keeps what is written. -/
theorem setRw_adcCtl (s : State) (v : Nat) : s.setRw 0x3000 v = s.wr R.ADC_CTL_INPUT (bits v 0 6) := by
  have known : attrOf 0x3000 = some attrAdcCtl := rfl
  unfold State.setRw
  rw [known]
  rfl

theorem adcHook_adcCtl (s : State) (v : Nat) (old : List Nat) :
    s.adcHook 0x3000 v old = if bit v 8 then s.singleStart (bits v 0 6) else s := if_pos rfl

theorem exec_adcCtlGo_of_go (go : bit v.toNat 8 = true) : exec (.adcCtlGo v) s =
    .next ((s.wr R.ADC_CTL_INPUT (bits v.toNat 0 6)).singleStart (bits v.toNat 0 6)) := by
  rw [← setRw_adcCtl]
  exact congrArg Host.Outcome.next ((adcHook_adcCtl ..).trans (if_pos go))

theorem exec_adcCtlGo_of_not (stay : bit v.toNat 8 = false) : exec (.adcCtlGo v) s =
    .next (s.wr R.ADC_CTL_INPUT (bits v.toNat 0 6)) := by
  rw [← setRw_adcCtl]
  exact congrArg Host.Outcome.next ((adcHook_adcCtl ..).trans (if_neg (by rw [stay]; exact Bool.false_ne_true)))

/-- Whether a unit may work does not depend on ADC_CTL. -/
theorem adcCtl_unitOff (s : State) (i u : Nat) : (s.wr R.ADC_CTL_INPUT i).unitOff u = s.unitOff u := by
  unfold State.unitOff State.limp
  rw [State.wr_rd_other _ _ (by decide), State.wr_adc]

end

/-! ### ADC_CONVERT and ADC_SAVE (R206) -/

section
variable {s : State} {c : Cmd} {i : Nat}

theorem u8_le {v : Nat} (h : v < 256) : u8 (le 1 v) 0 = v := by
  unfold u8 sub
  rw [List.drop_zero, List.take_of_length_le (le_length 1 v).le, ofLe_le_of_lt h]

/-- A hub that is not BUSY has no single under way and none that pends. -/
theorem free_of_not_busy (calm : s.adcBusy = false) {u : Nat} (h : u < 2) : (s.adcu u).single = none ∧ (s.adcu u).pend = none := by
  have both : ∀ u ∈ [0, 1], (s.adcu u).single = none ∧ (s.adcu u).pend = none := by simpa [State.adcBusy] using calm
  exact both u (by simp; omega)

/-- The checks of ADC_CONVERT for a payload of one byte, on the state the command started from. -/
theorem adcConvert_checks (payload : c.payload = le 1 i) (h : i < 256) :
    (s.begin c 0x30).2.doAdcConvert (s.refOf c 0x30) c.payload = (s.begin c 0x30).2.checked (s.refOf c 0x30)
      [param (decide (63 < i)), permitted (!s.adcBusy && !(s.limp && decide (31 < i)))]
      fun s' => { s'.singleStart i with adc.conv := some (s.refOf c 0x30) } := by
  unfold State.doAdcConvert lengthIs
  dsimp only
  rw [payload, u8_le h, checked_pass (decide_eq_false (by simp))]
  rfl

/-- A permitted ADC_CONVERT starts its single and waits for the end of it. -/
theorem exec_adcConvert (payload : c.payload = le 1 i) (known : i < 64) (calm : s.adcBusy = false) (powered : s.limp = false ∨ i < 32) :
    exec (.adcConvert c) s = .next { (s.begin c 0x30).2.singleStart i with adc.conv := some (s.refOf c 0x30) } := by
  have low : decide (63 < i) = false := decide_eq_false (by omega)
  have limps : (s.limp && decide (31 < i)) = false := by
    rcases powered with h | h
    · simp [h]
    · simp; omega
  refine congrArg Host.Outcome.next ((adcConvert_checks payload (by omega)).trans (checked_ok ?_))
  simp [param, permitted, low, calm, limps, firstBad]

/-- The image that ADC_SAVE stores does not depend on the channels. -/
theorem begin_attrImage (s : State) (c : Cmd) (op : Nat) (ids : List Nat) : (s.begin c op).2.attrImage ids = s.attrImage ids := rfl

theorem exec_adcSave (h : c.payload = []) : exec (.adcSave c) s = .next (((s.begin c 0x31).2.accepted (s.refOf c 0x31)).hayAsk 249
    (.save (some (s.refOf c 0x31)) [] [(0x61, s.attrImage adcAttrs)])) := by
  show Host.Outcome.next ((s.begin c 0x31).2.doAdcSave (s.refOf c 0x31) c.payload) = _
  unfold State.doAdcSave
  rw [h, checked_ok rfl, begin_attrImage]
  rfl

/-- A started command that is accepted, and asks hayloft for a save while the gate of R54 is open: the save waits, and nothing but
the channels and hayloft's requests has changed. -/
theorem accepted_save_effect {op : Nat} {objs : List (Nat × Bytes)} (h : s.Ready c) (gate : s.gatesClosed = false) :
    ∃ t, ((s.begin c op).2.accepted (s.refOf c op)).hayAsk 249 (.save (some (s.refOf c op)) [] objs) = t ∧ s.Accepts c op t ∧
    t.hay = { s.hay with
      nextId := s.hay.nextId + 1
      reqs := s.hay.reqs ++ [⟨s.hay.nextId, 249, .save (some (s.refOf c op)) [] objs, s.ticks, false⟩] } ∧
    s.Frame [.spoke, .hay] t := by
  have opened : ((s.begin c op).2.accepted (s.refOf c op)).gatesClosed = false := by
    unfold State.gatesClosed
    rw [State.accepted_on]
    exact gate
  refine ⟨_, hayAsk_save_of_open _ _ _ opened, accepts_of_begin h rfl, ?_, ?_⟩
  · unfold State.ticks
    rw [State.accepted_hay, State.accepted_cad]
    rfl
  · exact (State.accepted_frame (Covers.refl.sub rfl) (begin_frame_spoke.mono (Covers.refl.sub rfl))).hay (by decide)

end

/-- Settles O45, clause by clause: the ends of conversions, the starts of Table 7-1, ADC_CTL, ADC_CONVERT and ADC_SAVE. -/
theorem converters : Obligations.Converters := by
  unfold Obligations.Converters
  refine ⟨fun s u code ovr unr q runs => ⟨_, rfl, congrArg Host.Outcome.next (convEnd_of_seq runs)⟩,
    fun s u code ovr unr idle => congrArg Host.Outcome.next (convEnd_of_idle idle),
    fun s u code ovr unr i single none_ alone silent => ?unanswered,
    fun s u code ovr unr i r single none_ alone waits => ?answered,
    fun s u code ovr unr none_ => congrArg Host.Outcome.next (singleDone_of_none none_),
    fun s u idle unreserved free pends => congrArg Host.Outcome.next (pendStart_of_free idle unreserved free pends),
    fun s u h => congrArg Host.Outcome.next (pendStart_of_not h),
    fun s u _ works => ?seqStarts, fun s v i u hi hu go works => ?go, fun s v stay => ?stay,
    fun s c i u ready payload known hu calm powered works idle unreserved => ?convert,
    fun s c i ready payload byte => ⟨fun high => ?unknown, fun known barred => ?barred⟩, fun s c ready empty gate => ?save⟩
  case unanswered =>
    exact ⟨_, congrArg Host.Outcome.next (singleDone_unanswered single none_ alone silent),
      (adcu_congr (congrArg Adc.units (singleWritten_adc ..)) _).trans (modAdcu_adcu_same _), (State.Fields.refl.of_regs rfl).wrs,
      State.wrs_frame (Covers.refl.sub rfl) (State.modAdcu_frame (Covers.refl.sub rfl) .refl)⟩
  case answered =>
    have asked : (s.singleWritten u i code.toNat ovr unr).adc.conv = some r := (congrArg Adc.conv (singleWritten_adc ..)).trans waits
    refine ⟨_, rfl, congrArg Host.Outcome.next ((singleDone_of_single single alone).trans ?_)⟩
    rw [convAnswered_of_waiting asked]
    rfl
  case seqStarts =>
    refine ⟨seqStart_of_running works, fun idle single => ?_, fun idle free empty => ?_, fun idle free inputs => ?_⟩ <;>
      rw [seqStart_of_not_running works idle]
    · exact if_pos (Option.isSome_iff_ne_none.mpr single)
    · rw [if_neg (by simp [free]), seqGo_of_empty empty]
    · rw [if_neg (by simp [free]), seqGo_of_inputs inputs]
  case go =>
    subst hi hu
    have works' := (adcCtl_unitOff s (bits v.toNat 0 6) (bits v.toNat 0 6 / 32)).trans works
    have input : s.Frame [.regs] (s.wr R.ADC_CTL_INPUT (bits v.toNat 0 6)) := State.wr_frame Covers.refl .refl
    refine ⟨fun taken => ⟨_, (exec_adcCtlGo_of_go go).trans (congrArg _ (singleStart_of_taken works' taken)), State.wr_rd_same _ _ _,
        State.wr_frame Covers.refl input⟩,
      fun free none_ held => ⟨_, (exec_adcCtlGo_of_go go).trans (congrArg _ (singleStart_of_held works' free none_ held)), ?_, ?_⟩,
      fun free none_ idle unreserved => ⟨_, (exec_adcCtlGo_of_go go).trans
        (congrArg _ (singleStart_of_free works' free none_ idle unreserved)), ?_, ?_⟩⟩
    · exact modAdcu_adcu_same _
    · exact State.modAdcu_frame (Covers.refl.sub rfl) (input.mono (Covers.refl.sub rfl))
    · exact modAdcu_adcu_same _
    · exact State.modAdcu_frame (Covers.refl.sub rfl) (input.mono (Covers.refl.sub rfl))
  case stay =>
    exact ⟨_, exec_adcCtlGo_of_not stay, State.wr_frame Covers.refl .refl,
      fun k other => State.wr_rd_other _ _ (by unfold R.ADC_CTL_INPUT; omega)⟩
  case convert =>
    subst hu
    obtain ⟨free, none_⟩ := free_of_not_busy calm (show i / 32 < 2 by omega)
    have started : (s.begin c 0x30).2.singleStart i = _ := singleStart_of_free works free none_ idle unreserved
    have single : ((s.begin c 0x30).2.modAdcu (i / 32) fun x => { x with single := some i }).adcu (i / 32) =
        { s.adcu (i / 32) with single := some i } := modAdcu_adcu_same _
    have runs := exec_adcConvert payload known calm powered
    rw [started] at runs
    exact ⟨_, runs, holds_of_begin ready rfl, (adcu_congr rfl _).trans single, rfl,
      (State.modAdcu_frame (Covers.refl.sub rfl) (begin_frame_spoke.mono (Covers.refl.sub rfl))).adc (by decide)⟩
  case unknown =>
    exact refuses_of_check ready rfl ⟨_, adcConvert_checks payload byte⟩ (by simp [param, high]) (by decide)
  case barred =>
    have low : decide (63 < i) = false := decide_eq_false (by omega)
    have refused : (!s.adcBusy && !(s.limp && decide (31 < i))) = false := by
      rcases barred with busy | ⟨limps, high⟩
      · simp [busy]
      · simp [limps, high]
    exact refuses_of_check ready rfl ⟨_, adcConvert_checks payload byte⟩ (by rw [low, refused]; rfl) (by decide)
  case save =>
    obtain ⟨t, asked, rest⟩ := accepted_save_effect (objs := [(0x61, s.attrImage adcAttrs)]) ready gate
    exact ⟨t, asked ▸ exec_adcSave empty, rest⟩

end Sys2Proof.Machine
end

section
/-!
PROOFS. Sensor ports and posted results (R193, R194, R199, R203, 07_adc_sensing.md): when a device falls due, how a transaction ends,
when a device is not VALID, and what a result that is posted shows of its input.
-/

namespace Sys2Proof.Machine

/-! ### Devices fall due (R199) -/

section
variable {s : State} {d : Nat}

theorem modDev_dev_same (f : Dev → Dev) : (s.modDev d f).dev d = f (s.dev d) := by rw [State.modDev_dev, if_pos rfl]

theorem modDev_dev_other {k : Nat} (f : Dev → Dev) (h : k ≠ d) : (s.modDev d f).dev k = s.dev k := by
  rw [State.modDev_dev, if_neg (Ne.symm h)]

theorem deviceDue_of_served (served : (s.dev d).due = none) : s.deviceDue d = (s.modDev d fun x => { x with due := some s.ticks }).modDev d
    fun x => { x with next := some (s.ticks + s.rd (R.ADC_DEV_PERIOD d)) } := by
  unfold State.deviceDue
  rw [served]
  rfl

/-- Counting a late device leaves its period. -/
theorem deviceDue_of_waiting (waits : (s.dev d).due ≠ none) : s.deviceDue d = (s.count R.ADC_SPT_LATE 255 1).modDev d
    fun x => { x with next := some (s.ticks + s.rd (R.ADC_DEV_PERIOD d)) } := by
  have period : (s.count R.ADC_SPT_LATE 255 1).rd (R.ADC_DEV_PERIOD d) = s.rd (R.ADC_DEV_PERIOD d) :=
    State.wr_rd_other _ _ (by unfold R.ADC_SPT_LATE R.ADC_DEV_PERIOD; omega)
  unfold State.deviceDue
  dsimp only
  rw [if_pos (Option.isSome_iff_ne_none.mpr waits), period]

/-- A device that still waits keeps the time since when it has, and counts as late. -/
theorem deviceDue_effect (s : State) (d : Nat) : (s.deviceDue d).dev d = { s.dev d with
      due := if (s.dev d).due = none then some s.ticks else (s.dev d).due, next := some (s.ticks + s.rd (R.ADC_DEV_PERIOD d)) } ∧
    (∀ k, k ≠ d → (s.deviceDue d).dev k = s.dev k) ∧
    s.Fields (if (s.dev d).due = none then [] else [(R.ADC_SPT_LATE, satAdd 255 (s.rd R.ADC_SPT_LATE) 1)]) (s.deviceDue d) := by
  by_cases served : (s.dev d).due = none
  · rw [deviceDue_of_served served, if_pos served, if_pos served]
    refine ⟨?_, fun k other => ?_, State.Fields.refl.of_regs rfl⟩
    · rw [modDev_dev_same, modDev_dev_same]
    · rw [modDev_dev_other _ other, modDev_dev_other _ other]
  · rw [deviceDue_of_waiting served, if_neg served, if_neg served]
    exact ⟨modDev_dev_same _, fun k other => modDev_dev_other _ other, State.Fields.refl.wr.of_regs rfl⟩

theorem exec_deviceDue_of_works {d : Fin 16} (described : s.devOn d = true) (works : s.portsWork = true) :
    exec (.deviceDue d) s = .next (s.deviceDue d) := congrArg Host.Outcome.next (if_pos (by rw [described, works]; rfl))

theorem exec_deviceDue_of_not {d : Fin 16} (h : s.devOn d = false ∨ s.portsWork = false) : exec (.deviceDue d) s = .next s :=
  congrArg Host.Outcome.next (if_neg (by rcases h with h | h <;> simp [h]))

end

/-! ### The end of a transaction (R199, R203) -/

section
variable {s : State} {p err : Nat} {data : Bytes}

/-- The port is free, and the outcome of its transaction waits for SPT_SVC. -/
def State.transEnded (s : State) (p : Nat) (tr : Trans) (err : Nat) (data : Bytes) : State :=
  (s.wr R.ADC_SPT_ACTIVE (setBit (s.rd R.ADC_SPT_ACTIVE) p false)).modPort p fun x => { x with run := none, res := some ⟨tr, err, data⟩ }

theorem portEnd_of_run {tr : Trans} (runs : (s.port p).run = some tr) : s.portEnd p err data =
    if err = 0 then s.transEnded p tr err data else (s.transEnded p tr err data).devError tr.dev err := by
  unfold State.portEnd
  rw [runs]
  rfl

theorem portEnd_of_idle (idle : (s.port p).run = none) : s.portEnd p err data = s := by
  unfold State.portEnd
  rw [idle]

theorem transEnded_port (s : State) (p : Nat) (tr : Trans) (err : Nat) (data : Bytes) :
    (s.transEnded p tr err data).port p = { s.port p with run := none, res := some ⟨tr, err, data⟩ } := by
  unfold State.transEnded
  rw [State.modPort_port, if_pos rfl]
  rfl

/-- Only the first error after a good result is told. -/
theorem devError_eq (s : State) (d err : Nat) : ∃ u,
    u = (s.wr (R.ADC_DEVR_ERR d) err).modDev d (fun x => { x with err := true, chunk := 0, part := [] }) ∧
    s.devError d err = if (s.dev d).good = true ∧ (s.dev d).err = false then u.note 0x30 2 d err else u := by
  refine ⟨_, rfl, ?_⟩
  unfold State.devError State.snsNote
  simp only [Bool.and_eq_true, Bool.not_eq_true']

end

/-! ### What a posted result shows (R193, R194) -/

section
variable {s : State} {n u : Nat} {r : AdcRes}

/-- The fields of an input that a result sets. -/
def State.ainFields (s : State) (n : Nat) (r : AdcRes) : List (Nat × Nat) :=
  [(R.ADC_AIN_RAW n, r.code), (R.ADC_AIN_VALUE n, s.linearise (s.rd (R.ADC_INCFG_LIN n)) r.code),
    (R.ADC_AIN_OVR n, b2n r.ovr), (R.ADC_AIN_UNR n, b2n r.unr),
    (R.ADC_AIN_OPEN n, b2n (s.on (R.ADC_INCFG_DET n) && (decide (s.rd (R.ADC_INCFG_OPEN_THR n) ≤ r.code) || r.ovr))),
    (R.ADC_AIN_SHORT n, b2n (s.on (R.ADC_INCFG_DET n) && (decide (r.code ≤ s.rd (R.ADC_INCFG_SHORT_THR n)) || r.unr))),
    (R.ADC_AIN_VALID n, 1)]

/-- An input with a result of this tick. -/
def State.ainPosted (s : State) (n : Nat) (r : AdcRes) : State :=
  { s.wrs (s.ainFields n r) with adc.ages := mput {} s.adc.ages n ⟨some s.ticks, false⟩ }

theorem ainPosted_fields (s : State) (n : Nat) (r : AdcRes) : s.Fields (s.ainFields n r).reverse (s.ainPosted n r) := by
  rw [← List.append_nil (s.ainFields n r).reverse]
  exact State.Fields.refl.wrs.of_regs rfl

/-- The fields of an input lie ahead of the fields that configure it. -/
theorem ainFields_key_lt (s : State) (n : Nat) (r : AdcRes) : ∀ w ∈ s.ainFields n r, w.1 < R.ADC_INCFG_NOTE n := by
  unfold State.ainFields R.ADC_AIN_RAW R.ADC_AIN_VALUE R.ADC_AIN_OVR R.ADC_AIN_UNR R.ADC_AIN_OPEN R.ADC_AIN_SHORT R.ADC_AIN_VALID
    R.ADC_INCFG_NOTE
  simp only [List.forall_mem_cons]
  exact ⟨by omega, by omega, by omega, by omega, by omega, by omega, by omega, by simp⟩

/-- An input whose NOTE is 0 raises none. -/
theorem postAin_of_quiet (hn : n = 32 * u + r.input) (quiet : s.rd (R.ADC_INCFG_NOTE n) ≠ 1) : s.postAin u r = s.ainPosted n r := by
  subst hn
  have still : (s.ainPosted (32 * u + r.input) r).rd (R.ADC_INCFG_NOTE (32 * u + r.input)) =
      s.rd (R.ADC_INCFG_NOTE (32 * u + r.input)) := wrs_rd_other fun w hw => Nat.ne_of_lt (ainFields_key_lt _ _ _ w hw)
  exact if_neg fun told => quiet (still.symm.trans (State.on_iff.mp (Bool.and_eq_true_iff.mp told).1))

theorem ainPosted_shows (s : State) (n : Nat) (r : AdcRes) :
    (s.ainPosted n r).rd (R.ADC_AIN_RAW n) = r.code ∧ (s.ainPosted n r).rd (R.ADC_AIN_VALID n) = 1 ∧
    (s.ainPosted n r).rd (R.ADC_AIN_VALUE n) = s.linearise (s.rd (R.ADC_INCFG_LIN n)) r.code ∧
    (s.ainPosted n r).rd (R.ADC_AIN_OVR n) = b2n r.ovr ∧ (s.ainPosted n r).rd (R.ADC_AIN_UNR n) = b2n r.unr ∧
    (s.ainPosted n r).rd (R.ADC_AIN_OPEN n) =
      b2n (s.on (R.ADC_INCFG_DET n) && (decide (s.rd (R.ADC_INCFG_OPEN_THR n) ≤ r.code) || r.ovr)) ∧
    (s.ainPosted n r).rd (R.ADC_AIN_SHORT n) =
      b2n (s.on (R.ADC_INCFG_DET n) && (decide (r.code ≤ s.rd (R.ADC_INCFG_SHORT_THR n)) || r.unr)) := by
  simp only [ainPosted_fields s n r _]
  simp [State.ainFields, mget?]

/-- OPEN and SHORT stay 0 on an input whose DET is 0 (R193). -/
theorem ainPosted_undetected (r : AdcRes) (undetected : s.rd (R.ADC_INCFG_DET n) ≠ 1) :
    (s.ainPosted n r).rd (R.ADC_AIN_OPEN n) = 0 ∧ (s.ainPosted n r).rd (R.ADC_AIN_SHORT n) = 0 := by
  obtain ⟨-, -, -, -, -, opens, shorts⟩ := ainPosted_shows s n r
  rw [opens, shorts, Bool.eq_false_iff.mpr (mt State.on_iff.mp undetected)]
  exact ⟨rfl, rfl⟩

theorem b2n_eq_one {b : Bool} : b2n b = 1 ↔ b = true := by cases b <;> simp [b2n]

theorem ainPosted_detected (r : AdcRes) (detected : s.rd (R.ADC_INCFG_DET n) = 1) :
    ((s.ainPosted n r).rd (R.ADC_AIN_OPEN n) = 1 ↔ s.rd (R.ADC_INCFG_OPEN_THR n) ≤ r.code ∨ r.ovr = true) ∧
    ((s.ainPosted n r).rd (R.ADC_AIN_SHORT n) = 1 ↔ r.code ≤ s.rd (R.ADC_INCFG_SHORT_THR n) ∨ r.unr = true) := by
  obtain ⟨-, -, -, -, -, opens, shorts⟩ := ainPosted_shows s n r
  rw [opens, shorts, State.on_iff.mpr detected]
  simp [b2n_eq_one]

theorem ainPosted_age (s : State) (n : Nat) (r : AdcRes) : (s.ainPosted n r).ainAge n = 0 := by
  have posted : mget {} (s.ainPosted n r).adc.ages n = ⟨some s.ticks, false⟩ := by
    unfold State.ainPosted
    dsimp only
    rw [mget_mput, if_pos rfl]
  unfold State.ainAge
  rw [posted]
  show min 255 (s.ticks - s.ticks) = 0
  omega

theorem ainPosted_frame (s : State) (n : Nat) (r : AdcRes) : s.Frame [.regs, .adc] (s.ainPosted n r) :=
  (State.wrs_frame (Covers.refl.sub rfl) .refl).adc (by decide)

/-- The nearest code to the point of the line between two neighbours of the table, halves upward. -/
theorem linearise_of_table {lin raw : Nat} (h : 0 < lin) :
    ∃ a, a = (s.rd (R.ADC_LINTAB_E (lin - 1) (raw / 128)) : Int) ∧ ∃ b, b = (s.rd (R.ADC_LINTAB_E (lin - 1) (raw / 128 + 1)) : Int) ∧
      ∃ y, y = (a * 128 + (b - a) * (raw % 128 : Nat) + 64) / 128 ∧
      (s.linearise lin raw : Int) = if y < 0 then 0 else if 4095 < y then 4095 else y := by
  refine ⟨_, rfl, _, rfl, _, rfl, ?_⟩
  unfold State.linearise
  rw [if_neg (Nat.ne_of_gt h)]
  dsimp only
  generalize (s.rd (R.ADC_LINTAB_E (lin - 1) (raw / 128)) : Int) * 128 +
    ((s.rd (R.ADC_LINTAB_E (lin - 1) (raw / 128 + 1)) : Int) - s.rd (R.ADC_LINTAB_E (lin - 1) (raw / 128))) * (raw % 128 : Nat) = x
  have halved : Int.fdiv (2 * x + 128) 256 = (x + 64) / 128 := by
    rw [Int.fdiv_eq_ediv_of_nonneg _ (by decide)]
    omega
  rw [halved]
  unfold code12 clamp
  split_ifs <;> omega

end

/-- Settles O46, clause by clause: devices that fall due, the ends of transactions, devices not VALID, and posted results. -/
theorem sensorPorts : Obligations.SensorPorts := by
  unfold Obligations.SensorPorts
  refine ⟨fun s d described works => ?due, fun s d => exec_deviceDue_of_not, fun s p data tr runs => ?good,
    fun s p err data tr runs bad => ⟨_, rfl, congrArg Host.Outcome.next ((portEnd_of_run runs).trans (if_neg (Fin.val_ne_zero_iff.mpr bad)))⟩,
    devError_eq, fun s p tr runs => ⟨_, rfl, congrArg Host.Outcome.next (portEnd_of_run runs)⟩,
    fun s p err data idle => ⟨congrArg Host.Outcome.next (portEnd_of_idle idle), congrArg Host.Outcome.next (portEnd_of_idle idle)⟩,
    fun s d aged => ⟨_, congrArg Host.Outcome.next (if_pos aged), State.Fields.refl.wr, State.wr_frame Covers.refl .refl⟩,
    fun s d young => congrArg Host.Outcome.next (if_neg (Nat.not_le.mpr young)),
    fun s u r quiet => ⟨_, rfl, _, rfl, ?posted⟩, fun s lin raw _ => ⟨fun off => if_pos off, linearise_of_table⟩⟩
  case due =>
    obtain ⟨dev, others, fields⟩ := deviceDue_effect s d
    exact ⟨_, exec_deviceDue_of_works described works, dev, others, fields, State.deviceDue_frame Covers.refl .refl⟩
  case good =>
    exact ⟨_, congrArg Host.Outcome.next (portEnd_of_run runs), transEnded_port .., State.Fields.refl.wr.of_regs rfl,
      State.modPort_frame (Covers.refl.sub rfl) (State.wr_frame (Covers.refl.sub rfl) .refl)⟩
  case posted =>
    rw [postAin_of_quiet rfl quiet]
    obtain ⟨raw, valid, value, ovr, unr, -, -⟩ := ainPosted_shows s (32 * u + r.input) r
    exact ⟨raw, valid, value, ovr, unr, ainPosted_undetected r, ainPosted_detected r, ainPosted_age s _ r, ainPosted_frame s _ r⟩

end Sys2Proof.Machine
end

section
/-!
PROOFS. The Paddock's round (R209, R211, R218 to R220, R229, 08_paddock.md): what a round end takes in, which no later part of the
round changes, and what the outputs, the hot-leg gate and the ceiling are after it.
-/

namespace Sys2Proof.Machine

/-! ### Outputs one by one -/

section
variable {p : Pad} {n m : Nat}

theorem modOut_outp (f : PadOut → PadOut) : (p.modOut n f).outp m = if n = m then f (p.outp n) else p.outp m := mget_mput ..

theorem note_outp (kind unit data cls : Nat) : (p.note kind unit data cls).outp m = p.outp m := rfl

theorem forN_succ (k : Nat) (f : Pad → Nat → Pad) : p.forN (k + 1) f = f (p.forN k f) k := by
  unfold Pad.forN
  rw [List.range_succ, List.foldl_append]
  rfl

/-- What every step of a pass leaves as it was, the pass does. -/
theorem forN_keeps {α : Type} (read : Pad → α) {f : Pad → Nat → Pad} (h : ∀ q k, read (f q k) = read q) (k : Nat) :
    read (p.forN k f) = read p := by
  induction k with
  | zero => rfl
  | succ k ih => rw [forN_succ, h, ih]

theorem when_keeps {α : Type} (read : Pad → α) {c : Bool} {f : Pad → Pad} (h : read (f p) = read p) :
    read (p.when c f) = read p := by
  unfold Pad.when
  split
  · exact h
  · rfl

/-- A pass over the outputs that gives each its own reading, and no other, leaves every output it reached with its reading. -/
theorem forN_outp {α : Type} {f : Pad → Nat → Pad} {read : PadOut → α} {given : Nat → α}
    (step : ∀ q k m, read ((f q k).outp m) = if k = m then given k else read (q.outp m)) (k : Nat) (p : Pad) :
    read ((p.forN k f).outp m) = if m < k then given m else read (p.outp m) := by
  induction k with
  | zero => rfl
  | succ k ih =>
    rw [forN_succ, step, ih]
    by_cases last : k = m
    · rw [if_pos last, if_pos (by omega), last]
    · rw [if_neg last]
      exact if_congr (by omega) rfl rfl

/-- Energising or de-energising an output decides whether it is on, and no other. -/
theorem drive_outp_on (want : Bool) : ((p.drive n want).outp m).on = if n = m then want else (p.outp m).on := by
  unfold Pad.drive
  split
  case isTrue same =>
    split
    case isTrue here => rw [← here, same]
    case isFalse => rfl
  case isFalse =>
    split
    case isTrue up => rw [note_outp, modOut_outp, apply_ite PadOut.on, up]
    case isFalse down => rw [modOut_outp, apply_ite PadOut.on, Bool.eq_false_iff.mpr down]

/-- An update of an output that leaves a reading alone leaves it alone in every output. -/
theorem modOut_outp_keeps {α : Type} {f : PadOut → PadOut} (read : PadOut → α) (h : ∀ o, read (f o) = read o) :
    read ((p.modOut n f).outp m) = read (p.outp m) := by
  rw [modOut_outp, apply_ite read, h]
  exact ite_eq_right_iff.mpr fun here => by rw [here]

theorem drive_outp_stop (want : Bool) : ((p.drive n want).outp m).stop = (p.outp m).stop := by
  unfold Pad.drive
  split
  · rfl
  · split
    · rw [note_outp]
      exact modOut_outp_keeps PadOut.stop fun _ => rfl
    · exact modOut_outp_keeps PadOut.stop fun _ => rfl

theorem allOff_outp_on (below : n < 4) : (p.allOff.outp n).on = false :=
  (forN_outp (read := PadOut.on) (given := fun _ => false) (fun _ _ _ => drive_outp_on _) 4 p).trans (if_pos below)

end

/-! ### What a round end takes in -/

/-- What the round's inputs and its proposal have set: the end stop, the proposal that waits and the one in force, the decision's
place and samples, and the feedback of each output. -/
structure RoundView where
  endh : Bool
  prop : Option (Nat × Nat × Bool × Bool)
  proposal : Nat × Nat × Bool × Bool
  phase : Nat
  decided : Bool
  samples : Nat × Nat × Nat
  fb : Nat → Bool

def Pad.roundView (p : Pad) : RoundView where
  endh := p.endh
  prop := p.prop
  proposal := (p.dem, p.flow, p.call, p.remStop)
  phase := p.phase
  decided := p.decided
  samples := (p.pts0, p.pts1, p.pos)
  fb n := (p.outp n).fb

section
variable {p : Pad} {n : Nat}

theorem modOut_view {f : PadOut → PadOut} (h : ∀ o, (f o).fb = o.fb) : (p.modOut n f).roundView = p.roundView :=
  congrArg (fun fb => { p.roundView with fb := fb }) (funext fun _ => modOut_outp_keeps PadOut.fb h)

@[simp] theorem note_view (kind unit data cls : Nat) : (p.note kind unit data cls).roundView = p.roundView := rfl

@[simp] theorem reply_view (r : Ref) (status : Nat) (extra : Bytes) : (p.reply r status extra).roundView = p.roundView := rfl

@[simp] theorem modSin_view (f : PadSin → PadSin) : (p.modSin n f).roundView = p.roundView := rfl

@[simp] theorem replies_view (l : List Ref) (status : Nat) : (p.replies l status).roundView = p.roundView := by
  induction l generalizing p with
  | nil => rfl
  | cons r l ih => exact ih (p := p.reply r status)

/-! The plant outputs (R218 to R220). -/

@[simp] theorem drive_view (want : Bool) : (p.drive n want).roundView = p.roundView := by
  unfold Pad.drive
  split
  · rfl
  · split <;> simp [modOut_view]

@[simp] theorem pass_view : (p.pass n).roundView = p.roundView := by simp [Pad.pass, modOut_view]

@[simp] theorem weld_view : (p.weld n).roundView = p.roundView := by
  unfold Pad.weld
  dsimp only
  split
  · simp [modOut_view]
  · rfl

@[simp] theorem fbFault_view : (p.fbFault n).roundView = p.roundView := by
  unfold Pad.fbFault
  dsimp only
  split
  · simp [modOut_view]
  · rfl

@[simp] theorem proofStart_view (cmd : Option Ref) : (p.proofStart n cmd).roundView = p.roundView := by
  unfold Pad.proofStart
  dsimp only
  split
  · simp [modOut_view]
  · split <;> simp [modOut_view]

@[simp] theorem proofEnd_view : (p.proofEnd n).roundView = p.roundView := by
  unfold Pad.proofEnd
  dsimp only
  split
  · rfl
  · split <;> simp [modOut_view]

@[simp] theorem windowOpen_view : (p.windowOpen n).roundView = p.roundView := by
  unfold Pad.windowOpen
  dsimp only
  split
  · simp [modOut_view]
  · rfl

@[simp] theorem deadline_view : (p.deadline n).roundView = p.roundView := by
  unfold Pad.deadline
  dsimp only
  split
  · exact proofStart_view none
  · rfl

theorem feedback_view : (p.feedback n).roundView = p.roundView := by
  unfold Pad.feedback
  extract_lets cycles counted out judged passed ended
  have count : counted.roundView = p.roundView := modOut_view fun _ => by rfl
  have judge : judged.roundView = counted.roundView :=
    when_keeps Pad.roundView ((modOut_view fun _ => by rfl).trans (weld_view.trans fbFault_view))
  have pass : passed.roundView = judged.roundView := when_keeps Pad.roundView pass_view
  have proof : ended.roundView = passed.roundView := when_keeps Pad.roundView proofEnd_view
  rw [deadline_view, windowOpen_view, proof, pass, judge, count]

theorem allOff_view : p.allOff.roundView = p.roundView := forN_keeps Pad.roundView (fun _ _ => drive_view _) 4

/-! The safety inputs (R214 to R217). -/

@[simp] theorem discrepant_view : (p.discrepant n).roundView = p.roundView := by
  unfold Pad.discrepant
  dsimp only
  split
  · simp
  · rfl

@[simp] theorem stopIn_view : (p.stopIn n).roundView = p.roundView := by
  unfold Pad.stopIn
  split
  · rfl
  · simp

theorem inputEnd_view : (p.inputEnd n).roundView = p.roundView := by
  unfold Pad.inputEnd
  extract_lets b timed watched input judged
  split
  · exact modSin_view _
  · have time : timed.roundView = p.roundView := modSin_view _
    have watch : watched.roundView = timed.roundView := when_keeps Pad.roundView discrepant_view
    have judge : judged.roundView = watched.roundView := by
      clear_value watched
      unfold judged
      split
      · exact stopIn_view
      · split
        · rfl
        · split <;> rfl
    rw [modSin_view, judge, watch, time]

/-! The decision (R221 to R225). -/

theorem sltTrip_view : p.sltTrip.roundView = p.roundView := by
  unfold Pad.sltTrip
  split <;> rfl

theorem sltRelease_view : p.sltRelease.roundView = p.roundView := by
  unfold Pad.sltRelease
  split
  · split <;> rfl
  · split <;> rfl

theorem sltSens_view : p.sltSens.roundView = p.roundView := by
  unfold Pad.sltSens
  split
  · rfl
  · split <;> rfl

theorem sdirRelease_view : p.sdirRelease.roundView = p.roundView := by
  unfold Pad.sdirRelease
  split <;> rfl

theorem slpLatch_view : p.slpLatch.roundView = p.roundView := by
  unfold Pad.slpLatch
  split <;> rfl

theorem frostOn_view : p.frostOn.roundView = p.roundView := by
  unfold Pad.frostOn
  split <;> rfl

theorem frostOff_view : p.frostOff.roundView = p.roundView := by
  unfold Pad.frostOff
  split <;> rfl

theorem flagNote_view (old : Pad) (i : Nat) : (Pad.flagNote old p i).roundView = p.roundView := by
  unfold Pad.flagNote
  split <;> rfl

/-- A decision takes the three samples, and changes nothing else that the round has taken in. -/
theorem judge_view (i : RoundIn) : (p.judge i).roundView =
    { p.roundView with decided := true, samples := (i.pts0.toNat, i.pts1.toNat, i.pos.toNat) } := by
  unfold Pad.judge
  extract_lets decided noted b t lim near err counted
  have note : noted.roundView = decided.roundView := forN_keeps Pad.roundView (fun _ _ => flagNote_view _ _) 3
  have count : counted.roundView = noted.roundView := by
    clear_value noted
    rfl
  rw [frostOff_view, frostOn_view, slpLatch_view, sdirRelease_view, sltSens_view, sltRelease_view, sltTrip_view, count, note]
  rfl

/-! The heartbeat (R227, R228). -/

theorem setState_view (new : Nat) : (p.setState new).roundView = p.roundView := by
  unfold Pad.setState
  split
  · rfl
  · split
    · rfl
    · split <;> rfl

theorem windowEnd_view : p.windowEnd.roundView = p.roundView := when_keeps Pad.roundView (setState_view 2)

theorem lapse_view : p.lapse.roundView = p.roundView := when_keeps Pad.roundView (setState_view 1)

theorem beat_view (fresh : Nat) : (p.beat fresh).roundView = p.roundView := by
  unfold Pad.beat
  extract_lets challenged counted
  rw [lapse_view, windowEnd_view]
  show challenged.roundView = p.roundView
  unfold challenged
  split <;> rfl

/-! Requests and commits (R234 to R236, R240). -/

theorem activate_view : p.activate.roundView = p.roundView := by
  unfold Pad.activate
  split
  · rfl
  · extract_lets old activated ended stopped
    have stop : stopped.roundView = ended.roundView := forN_keeps Pad.roundView (fun _ _ => when_keeps Pad.roundView stopIn_view) 8
    have test : ended.roundView = activated.roundView :=
      forN_keeps Pad.roundView (fun _ _ => (drive_view _).trans ((replies_view _ _).trans (modOut_view fun _ => by rfl))) 4
    rw [reply_view, note_view, stop, test]
    rfl

theorem takeStage_view (q : PadReq) : (p.takeStage q).roundView = p.roundView := rfl

theorem takeCommit_view (q : PadReq) : (p.takeCommit q).roundView = p.roundView := by
  unfold Pad.takeCommit
  split
  · rfl
  · split
    · rfl
    · split
      · rfl
      · split <;> rfl

theorem takeProof_view (q : PadReq) : (p.takeProof q).roundView = p.roundView := by
  unfold Pad.takeProof
  dsimp only
  split <;> simp

theorem takeRestart_view (q : PadReq) : (p.takeRestart q).roundView = p.roundView := by
  unfold Pad.takeRestart
  extract_lets mask named cleared released
  have freed : released.roundView = cleared.roundView :=
    forN_keeps Pad.roundView (fun _ _ => when_keeps Pad.roundView (modOut_view fun _ => by rfl)) 4
  have marked : named.roundView = p.roundView :=
    forN_keeps Pad.roundView (fun _ _ => when_keeps Pad.roundView (modSin_view _)) 8
  exact freed.trans marked

theorem take_view (q : PadReq) : (p.take q).roundView = p.roundView := by
  unfold Pad.take
  split
  · exact takeStage_view q
  · exact takeCommit_view q
  · rfl
  · exact takeProof_view q
  · exact takeRestart_view q

theorem takeAll_view (l : List PadReq) : (p.takeAll l).roundView = p.roundView := by
  induction l generalizing p with
  | nil => rfl
  | cons q l ih =>
    unfold Pad.takeAll
    split
    · rfl
    · exact ih.trans (take_view q)

theorem ageStaged_view : p.ageStaged.roundView = p.roundView := by
  unfold Pad.ageStaged
  split <;> rfl

theorem expire_view : p.expire.roundView = p.roundView := by
  unfold Pad.expire
  split
  · split <;> rfl
  · rfl

theorem laneFault_view : p.laneFault.roundView = p.roundView := by
  unfold Pad.laneFault
  split
  · exact allOff_view
  · rfl

end

/-! ### The outputs, the gate and the ceiling (R209, R211, R218, R224) -/

section
variable {p : Pad} {n : Nat} {i : RoundIn}

theorem stops_iff (p : Pad) (n : Nat) : p.stops n = true ↔
    (∃ i ∈ List.range 8, prmSinEn p.block i = true ∧ ((p.sin i).stop = true ∨ (p.sin i).disc = true) ∧
      prmSinStops p.block i n = true) ∨
    (p.remStop = true ∨ p.state ≠ 0) ∧ prmRem p.block n = true ∨ prmRole p.block n = 1 ∧ (p.slt = true ∨ p.sltWait = true) ∨
    (p.outp n).fbFault = true ∨ (∃ k ∈ List.range 4, (p.outp k).weld = true ∧ prmGroup p.block k = prmGroup p.block n) ∨
    p.lane = true ∨ p.clk = true ∨ prmRole p.block n = 0 := by
  unfold Pad.stops
  simp only [Bool.or_eq_true, Bool.and_eq_true, List.any_eq_true, bne_iff_ne, beq_iff_eq, or_assoc, and_assoc]

theorem canCall_iff : p.canCall n = true ↔
    p.state = 0 ∧ p.active ≠ none ∧ ¬ (prmRole p.block n = 1 ∧ (p.sens = true ∨ p.decided = false)) := by
  unfold Pad.canCall
  rw [Bool.and_eq_true, Bool.and_eq_true, beq_iff_eq, Option.isSome_iff_ne_none, and_assoc, Bool.not_eq_true', ← Bool.not_eq_true,
    Bool.and_eq_true, beq_iff_eq, Bool.or_eq_true, Bool.not_eq_true']

theorem frostsTo_iff : p.frostsTo n = true ↔ p.frost = true ∧
    (prmRole p.block n = 2 ∨ prmRole p.block n = 1 ∧ p.decided = true ∧ (p.sens = false ∨ prmFrostHs p.block = true)) := by
  unfold Pad.frostsTo
  simp only [Bool.and_eq_true, Bool.or_eq_true, beq_iff_eq, Bool.not_eq_true', and_assoc]

theorem heldOff_eq_false_iff : p.heldOff n = false ↔ (p.outp n).test = false ∧ p.offRound = false := Bool.or_eq_false_iff

/-- The equation of R218. -/
theorem plant_iff (p : Pad) (n : Nat) : p.plant n = true ↔ p.stops n = false ∧ (p.outp n).test = false ∧ p.offRound = false ∧
    (p.state = 0 ∧ p.active ≠ none ∧ bit p.dem n = true ∧ ¬ (prmRole p.block n = 1 ∧ (p.sens = true ∨ p.decided = false)) ∨
      p.state = 1 ∧ (p.outp n).on = true ∨
      p.frost = true ∧
        (prmRole p.block n = 2 ∨ prmRole p.block n = 1 ∧ p.decided = true ∧ (p.sens = false ∨ prmFrostHs p.block = true))) := by
  have demanded : p.canCall n = true ∧ bit p.dem n = true ↔ p.state = 0 ∧ p.active ≠ none ∧ bit p.dem n = true ∧
      ¬ (prmRole p.block n = 1 ∧ (p.sens = true ∨ p.decided = false)) := by
    rw [canCall_iff]
    tauto
  unfold Pad.plant
  rw [Bool.and_eq_true, Bool.and_eq_true, Bool.or_eq_true, Bool.or_eq_true, Bool.and_eq_true, Bool.and_eq_true, beq_iff_eq,
    Bool.not_eq_true', Bool.not_eq_true', heldOff_eq_false_iff, demanded, frostsTo_iff, or_assoc, and_assoc, and_comm, and_assoc,
    and_assoc]

theorem plant_of_stops (h : p.stops n = true) : p.plant n = false :=
  Bool.eq_false_iff.mpr fun up => Bool.eq_false_iff.mp ((plant_iff p n).mp up).1 h

theorem stops_of_fault (h : p.lane = true ∨ p.clk = true) : p.stops n = true :=
  (stops_iff p n).mpr (.inr (.inr (.inr (.inr (.inr (by tauto))))))

/-- The gate, the ceiling and the count of disagreements of a round. -/
def Pad.gated (p : Pad) (i : RoundIn) (bad : Nat) : Pad :=
  { p with inhibit := p.inhibits || i.inh, refuse := p.refuses, ceil := min p.ceiling i.ceil.toNat, laneBad := bad }

/-- Each output as the two lanes decide it. -/
def Pad.switched (p : Pad) (i : RoundIn) (bad : Nat) : Pad :=
  (p.gated i bad).forN 4 fun q n => (q.modOut n fun o => { o with stop := ((List.range 4).map p.stops).getD n true }).drive n
    (((List.range 4).map p.plant).getD n false && !i.off.getLsbD n)

/-- Switching an output changes the outputs and the notes alone. -/
theorem drive_keeps {α : Type} (read : Pad → α) (h : ∀ q outs notes, read { q with outs := outs, notes := notes } = read q)
    (want : Bool) : read (p.drive n want) = read p := by
  unfold Pad.drive
  split
  · rfl
  · split
    · exact h p _ (p.notes ++ [⟨0, n, 0, 6⟩])
    · exact h p _ p.notes

theorem switched_keeps {α : Type} (read : Pad → α) (h : ∀ q outs notes, read { q with outs := outs, notes := notes } = read q)
    (bad : Nat) : read (p.switched i bad) = read (p.gated i bad) :=
  forN_keeps read (fun q _ => (drive_keeps read h _).trans (h q _ q.notes)) 4

theorem switched_view (bad : Nat) : (p.switched i bad).roundView = p.roundView :=
  (forN_keeps Pad.roundView (fun _ _ => (drive_view _).trans (modOut_view fun _ => by rfl)) 4).trans rfl

theorem range_map_getD {α : Type} (f : Nat → α) (below : n < 4) (d : α) : ((List.range 4).map f).getD n d = f n := by
  simp [List.getD, below]

theorem switched_outp_on (bad : Nat) (below : n < 4) : ((p.switched i bad).outp n).on = (p.plant n && !i.off.getLsbD n) := by
  refine (forN_outp (read := PadOut.on) (given := fun n => ((List.range 4).map p.plant).getD n false && !i.off.getLsbD n)
    (fun q k m => ?_) 4 (p.gated i bad)).trans ((if_pos below).trans (by rw [range_map_getD _ below]))
  rw [drive_outp_on, modOut_outp_keeps PadOut.on fun _ => by rfl]

theorem switched_outp_stop (bad : Nat) (below : n < 4) : ((p.switched i bad).outp n).stop = p.stops n := by
  refine (forN_outp (read := PadOut.stop) (given := fun n => ((List.range 4).map p.stops).getD n true)
    (fun q k m => ?_) 4 (p.gated i bad)).trans ((if_pos below).trans (range_map_getD _ below _))
  rw [drive_outp_stop, modOut_outp, apply_ite PadOut.stop]

/-- The round in which a commit holds every output off is over (R235). -/
def Pad.roundOver (p : Pad) : Pad := { p with offRound := false }

/-- The two lanes set the outputs, the gate and the ceiling; then only a LANE_FAULT can act. -/
theorem outputs_eq (p : Pad) (i : RoundIn) : ∃ bad, p.outputs i = (p.switched i bad).roundOver.laneFault := by
  unfold Pad.outputs
  extract_lets want stop inh ceil differ gated driven
  have same : driven = p.switched i (runOf 3 p.laneBad differ) := rfl
  exact ⟨_, by rw [same, Pad.roundOver]⟩

/-- What the two lanes leave for the comparison of the lanes. -/
theorem outputs_switched (p : Pad) (i : RoundIn) : ∃ q : Pad, p.outputs i = q.laneFault ∧ q.roundView = p.roundView ∧
    (∀ n, n < 4 → (q.outp n).on = (p.plant n && !i.off.getLsbD n) ∧ (q.outp n).stop = p.stops n) ∧
    q.inhibit = (p.inhibits || i.inh) ∧ q.ceil = min p.ceiling i.ceil.toNat ∧ q.lane = p.lane ∧ q.clk = p.clk := by
  obtain ⟨bad, ends⟩ := outputs_eq p i
  have view : (p.switched i bad).roundView = _ := switched_view bad
  have outs : ∀ n, n < 4 → ((p.switched i bad).outp n).on = _ ∧ ((p.switched i bad).outp n).stop = _ := fun n below =>
    ⟨switched_outp_on bad below, switched_outp_stop bad below⟩
  have inhibit : (p.switched i bad).inhibit = _ := switched_keeps Pad.inhibit (fun _ _ _ => rfl) bad
  have ceil : (p.switched i bad).ceil = _ := switched_keeps Pad.ceil (fun _ _ _ => rfl) bad
  have lane : (p.switched i bad).lane = _ := switched_keeps Pad.lane (fun _ _ _ => rfl) bad
  have clk : (p.switched i bad).clk = _ := switched_keeps Pad.clk (fun _ _ _ => rfl) bad
  generalize p.switched i bad = q at ends view outs inhibit ceil lane clk
  exact ⟨q.roundOver, ends, view, outs, inhibit, ceil, lane, clk⟩

/-! LANE_FAULT (R211). -/

theorem allOff_keeps {α : Type} (read : Pad → α) (h : ∀ q outs notes, read { q with outs := outs, notes := notes } = read q) :
    read p.allOff = read p := forN_keeps read (fun _ _ => drive_keeps read h _) 4

theorem allOff_outp_stop : (p.allOff.outp n).stop = (p.outp n).stop :=
  forN_keeps (fun q => (q.outp n).stop) (fun _ _ => drive_outp_stop _) 4

/-- Lanes that have disagreed for three rounds latch LANE_FAULT, and every output goes off; otherwise nothing happens. -/
theorem laneFault_cases (p : Pad) : p.laneFault = p ∨ p.laneFault = ({ p with lane := true }.note 14 0 0 clPlant).allOff := by
  unfold Pad.laneFault
  split
  · exact .inr rfl
  · exact .inl rfl

theorem laneFault_outp_on (below : n < 4) : (p.laneFault.outp n).on = false ∨ (p.laneFault.outp n).on = (p.outp n).on := by
  rcases laneFault_cases p with same | off
  · exact .inr (by rw [same])
  · exact .inl (by rw [off, allOff_outp_on below])

theorem laneFault_outp_stop : (p.laneFault.outp n).stop = (p.outp n).stop := by
  rcases laneFault_cases p with same | off
  · rw [same]
  · rw [off, allOff_outp_stop]
    rfl

/-- What LANE_FAULT, the outputs and the notes do not show stays as it was. -/
theorem laneFault_keeps {α : Type} (read : Pad → α)
    (h : ∀ q outs notes lane, read { q with outs := outs, notes := notes, lane := lane } = read q) : read p.laneFault = read p := by
  rcases laneFault_cases p with same | off
  · rw [same]
  · rw [off, allOff_keeps read fun q outs notes => h q outs notes q.lane]
    exact h p p.outs _ true

/-- Under LANE_FAULT or CLK_FAULT every output is off, if it was off under a fault that stood before. -/
theorem laneFault_off (below : n < 4) (stood : p.lane = true ∨ p.clk = true → (p.outp n).on = false)
    (h : p.laneFault.lane = true ∨ p.laneFault.clk = true) : (p.laneFault.outp n).on = false := by
  rcases laneFault_cases p with same | off
  · rw [same] at h ⊢
    exact stood h
  · rw [off, allOff_outp_on below]

/-! What the round's last step shows. -/

theorem outputs_view (p : Pad) (i : RoundIn) : (p.outputs i).roundView = p.roundView := by
  obtain ⟨q, ends, view, -⟩ := outputs_switched p i
  rw [ends, laneFault_view, view]

/-- After a round end an output is energised only when R218 decides it, and neither lane de-energises it (R211). -/
theorem outputs_on_imp (below : n < 4) (up : ((p.outputs i).outp n).on = true) : p.plant n = true ∧ i.off.getLsbD n = false := by
  obtain ⟨q, ends, -, outs, -⟩ := outputs_switched p i
  rw [ends] at up
  have driven : (q.outp n).on = true := by
    rcases laneFault_outp_on (p := q) below with off | same
    · exact absurd (off.symm.trans up) Bool.false_ne_true
    · rw [← same, up]
  simpa [(outs n below).1] using driven

theorem outputs_stop (below : n < 4) : ((p.outputs i).outp n).stop = p.stops n := by
  obtain ⟨q, ends, -, outs, -⟩ := outputs_switched p i
  rw [ends, laneFault_outp_stop, (outs n below).2]

/-- Under LANE_FAULT or CLK_FAULT every output is off, and it is also when this very round latches LANE_FAULT (R210, R211). -/
theorem outputs_off_of_fault (h : (p.outputs i).lane = true ∨ (p.outputs i).clk = true) (below : n < 4) :
    ((p.outputs i).outp n).on = false := by
  obtain ⟨q, ends, -, outs, -, -, lane, clk⟩ := outputs_switched p i
  rw [ends] at h ⊢
  refine laneFault_off below (fun stood => ?_) h
  rw [lane, clk] at stood
  rw [(outs n below).1, plant_of_stops (stops_of_fault stood), Bool.false_and]

theorem outputs_ceil (p : Pad) (i : RoundIn) : (p.outputs i).ceil = min p.ceiling i.ceil.toNat := by
  obtain ⟨q, ends, -, -, -, ceil, -⟩ := outputs_switched p i
  rw [ends, laneFault_keeps Pad.ceil fun _ _ _ _ => rfl, ceil]

theorem outputs_inhibit (p : Pad) (i : RoundIn) : (p.outputs i).inhibit = (p.inhibits || i.inh) := by
  obtain ⟨q, ends, -, -, inhibit, -⟩ := outputs_switched p i
  rw [ends, laneFault_keeps Pad.inhibit fun _ _ _ _ => rfl, inhibit]

end

/-! ### The round as a whole (R209, R229) -/

/-- A round end reads the end stop and the feedback of the four outputs. -/
def RoundView.readBack (v : RoundView) (i : RoundIn) : RoundView :=
  { v with endh := i.endh, fb := fun n => if n < 4 then i.pfb.getLsbD n else v.fb n }

/-- The proposal that waits takes effect (R229). -/
def RoundView.proposed (v : RoundView) : RoundView := { v with prop := none, proposal := v.prop.getD v.proposal }

/-- Every tenth round is a decision round, and takes the three samples (R209). -/
def RoundView.sampled (v : RoundView) (i : RoundIn) : RoundView :=
  if v.phase + 1 < 10 then { v with phase := v.phase + 1 }
  else { v with phase := 0, decided := true, samples := (i.pts0.toNat, i.pts1.toNat, i.pos.toNat) }

/-- All that a round end takes in. -/
def RoundView.roundEnd (v : RoundView) (i : RoundIn) : RoundView := ((v.readBack i).proposed).sampled i

theorem RoundView.roundEnd_fields (v : RoundView) (i : RoundIn) : (v.roundEnd i).endh = i.endh ∧ (v.roundEnd i).prop = none ∧
    (v.roundEnd i).proposal = v.prop.getD v.proposal ∧ (∀ n, n < 4 → (v.roundEnd i).fb n = i.pfb.getLsbD n) ∧
    (v.roundEnd i).phase = (if v.phase + 1 < 10 then v.phase + 1 else 0) ∧
    (v.phase + 1 < 10 → (v.roundEnd i).samples = v.samples) ∧
    (10 ≤ v.phase + 1 → (v.roundEnd i).decided = true ∧ (v.roundEnd i).samples = (i.pts0.toNat, i.pts1.toNat, i.pos.toNat)) := by
  have feedback (n : Nat) (below : n < 4) : (v.readBack i).fb n = i.pfb.getLsbD n := if_pos below
  by_cases early : v.phase + 1 < 10
  · have rounds : v.roundEnd i = { (v.readBack i).proposed with phase := v.phase + 1 } := if_pos early
    rw [rounds, if_pos early]
    exact ⟨rfl, rfl, rfl, feedback, rfl, fun _ => rfl, fun late => absurd early (Nat.not_lt.mpr late)⟩
  · have rounds : v.roundEnd i = { (v.readBack i).proposed with
        phase := 0, decided := true, samples := (i.pts0.toNat, i.pts1.toNat, i.pos.toNat) } := if_neg early
    rw [rounds, if_neg early]
    exact ⟨rfl, rfl, rfl, feedback, rfl, fun h => absurd h early, fun _ => ⟨rfl, rfl⟩⟩

section
variable {p : Pad} {i : RoundIn}

/-- The end stop and the feedback of each output, as a round end reads them. -/
def Pad.readBack (p : Pad) (i : RoundIn) : Pad :=
  { p with endh := i.endh }.forN 4 fun q n => q.modOut n fun o => { o with fb := i.pfb.getLsbD n }

/-- The proposal in the mailbox takes effect (R229). -/
def Pad.proposed (p : Pad) : Pad :=
  match p.prop with
  | some (dem, flow, call, rem) => { p with dem := dem, flow := flow, call := call, remStop := rem, prop := none }
  | none => p

/-- Every tenth round is a decision round. -/
def Pad.sampled (p : Pad) (i : RoundIn) : Pad :=
  if p.phase + 1 < 10 then { p with phase := p.phase + 1 } else ({ p with phase := 0 } : Pad).judge i

theorem readBack_outp_fb (n : Nat) : ((p.readBack i).outp n).fb = if n < 4 then i.pfb.getLsbD n else (p.outp n).fb :=
  forN_outp (read := PadOut.fb) (given := fun n => i.pfb.getLsbD n) (fun q k m => by rw [modOut_outp, apply_ite PadOut.fb]) 4
    { p with endh := i.endh }

/-- What the feedback of the outputs does not show is as it was, but for the end stop. -/
theorem readBack_keeps {α : Type} (read : Pad → α) (h : ∀ q outs, read { q with outs := outs } = read q) :
    read (p.readBack i) = read { p with endh := i.endh } := forN_keeps read (fun q _ => h q _) 4

theorem readBack_view : (p.readBack i).roundView = p.roundView.readBack i := by
  have feedback : (p.readBack i).roundView.fb = (p.roundView.readBack i).fb := funext readBack_outp_fb
  have others : { (p.readBack i).roundView with fb := fun _ => false } = { p.roundView.readBack i with fb := fun _ => false } :=
    readBack_keeps (fun q => { q.roundView with fb := fun _ => false }) fun _ _ => rfl
  calc (p.readBack i).roundView
      = { { (p.readBack i).roundView with fb := fun _ => false } with fb := (p.readBack i).roundView.fb } := rfl
    _ = p.roundView.readBack i := by rw [others, feedback]

theorem proposed_view : p.proposed.roundView = p.roundView.proposed := by
  unfold Pad.proposed RoundView.proposed
  split
  case h_1 dem flow call rem waits =>
    have proposal : p.roundView.prop = some (dem, flow, call, rem) := waits
    rw [proposal]
    rfl
  case h_2 empty =>
    have none_ : p.roundView.prop = none := empty
    rw [none_]
    exact congrArg (fun prop => { p.roundView with prop := prop }) none_

theorem sampled_view : (p.sampled i).roundView = p.roundView.sampled i := by
  unfold Pad.sampled RoundView.sampled
  split
  case isTrue early => exact (if_pos early).symm
  case isFalse late =>
    rw [judge_view]
    exact (if_neg late).symm

/-- A round end takes in what it reads, and ends with the two lanes' decision on the outputs. -/
theorem roundEnd_ends (p : Pad) (i : RoundIn) (fresh : Nat) :
    ∃ q : Pad, p.roundEnd i fresh = q.outputs i ∧ q.roundView = p.roundView.roundEnd i := by
  unfold Pad.roundEnd
  extract_lets heard beaten proposed sampled inputs released restarted fed written taken
  refine ⟨taken.ageStaged.expire, rfl, ?_⟩
  have read : heard.roundView = p.roundView.readBack i := readBack_view
  have kept : beaten.roundView = heard.roundView := beat_view fresh
  have accepted : proposed.roundView = beaten.roundView.proposed := proposed_view
  have store : written.roundView = fed.roundView := by
    clear_value fed
    unfold written
    split
    · split
      · exact activate_view
      · rfl
    · rfl
  calc taken.ageStaged.expire.roundView
      = taken.roundView := expire_view.trans ageStaged_view
    _ = written.roundView := takeAll_view _
    _ = fed.roundView := store
    _ = restarted.roundView := forN_keeps Pad.roundView (fun _ _ => feedback_view) 4
    _ = inputs.roundView := when_keeps Pad.roundView sltRelease_view
    _ = sampled.roundView := forN_keeps Pad.roundView (fun _ _ => inputEnd_view) 8
    _ = proposed.roundView.sampled i := sampled_view
    _ = p.roundView.roundEnd i := by rw [accepted, kept, read, RoundView.roundEnd]

end

/-- What a round end shows of the Paddock (R209, R211, R229): its inputs are taken in, and no output is on against a stop, a lane or
a latched fault. -/
theorem roundEnd_shows (p : Pad) (i : RoundIn) (fresh : Nat) : ∃ q, q = p.roundEnd i fresh ∧ q.endh = i.endh ∧ q.prop = none ∧
    (q.dem, q.flow, q.call, q.remStop) = p.prop.getD (p.dem, p.flow, p.call, p.remStop) ∧
    (∀ n, n < 4 → (q.outp n).fb = i.pfb.getLsbD n ∧ ((q.outp n).on = true → (q.outp n).stop = false ∧ i.off.getLsbD n = false)) ∧
    (q.lane = true ∨ q.clk = true → ∀ n, n < 4 → (q.outp n).on = false) ∧
    q.ceil ≤ i.ceil.toNat ∧ (i.inh = true → q.inhibit = true) ∧
    q.phase = (if p.phase + 1 < 10 then p.phase + 1 else 0) ∧
    (p.phase + 1 < 10 → (q.pts0, q.pts1, q.pos) = (p.pts0, p.pts1, p.pos)) ∧
    (10 ≤ p.phase + 1 → q.decided = true ∧ (q.pts0, q.pts1, q.pos) = (i.pts0.toNat, i.pts1.toNat, i.pos.toNat)) := by
  obtain ⟨u, ends, taken⟩ := roundEnd_ends p i fresh
  generalize p.roundEnd i fresh = q at ends
  have view : q.roundView = p.roundView.roundEnd i := by rw [ends, outputs_view, taken]
  obtain ⟨endh, prop, proposal, fb, phase, early, late⟩ := RoundView.roundEnd_fields p.roundView i
  rw [← view] at endh prop proposal fb phase early late
  refine ⟨q, rfl, endh, prop, proposal, fun n below => ⟨fb n below, ?switched⟩, ?off, ?ceil, ?inhibit, phase, early, late⟩
  all_goals rw [ends]
  case switched =>
    intro up
    obtain ⟨decided, both⟩ := outputs_on_imp below up
    exact ⟨(outputs_stop below).trans ((plant_iff u n).mp decided).1, both⟩
  case off => exact fun fault n below => outputs_off_of_fault fault below
  case ceil =>
    rw [outputs_ceil]
    exact Nat.min_le_right ..
  case inhibit =>
    intro inh
    rw [outputs_inhibit, inh, Bool.or_true]

end Sys2Proof.Machine
end

section
/-!
PROOFS. The Paddock in the hub (R37, R177, R218, R224, R227, R228, R230, R234, R240, Table 8-18, 08_paddock.md): a step of the
Paddock, REFUSE and INHIBIT, the answers to the heartbeat, the requests the Paddock takes, and the opcodes that send them.
-/

namespace Sys2Proof.Machine

section
variable {s : State} {i : Instr} {f : Pad → Pad}

/-! ### The Paddock in the hub (R37, R177, R224, R230) -/

theorem padDo_of_powered (power : s.pwr.pad = true) : s.padDo f =
    ({ s with pad := f s.pad }.mixFollow).when (padEvent s.pad (f s.pad)) fun s => s.wakeFires 4 := if_neg (by rw [power]; simp)

theorem mixFollow_fields (s : State) : s.Fields [(R.ACT_MIX_CEIL, s.pad.ceil), (R.ACT_MIX_PLANT_VOUT, bits (u8 s.pad.block 4) 4 3),
    (R.ACT_MIX_PV_EN, b2n (prmPvEn s.pad.block)), (R.ACT_MIX_INHIBIT, b2n s.pad.inhibit), (R.ACT_MIX_HOT_LEG, prmHotLeg s.pad.block),
    (R.ACT_MIX_BRIDGE, if prmMixEn s.pad.block then bits (u8 s.pad.block 4) 0 4 else 0x1F)] s.mixFollow := State.Fields.refl.wrs

theorem mixFollow_rd_other {k : Nat} (h : k ∉ padFields) : s.mixFollow.rd k = s.rd k := by
  simp only [padFields, List.mem_cons, List.not_mem_nil, or_false, not_or] at h
  obtain ⟨bridge, leg, inhibit, en, vout, ceil, -⟩ := h
  rw [mixFollow_fields s k]
  simp [mget?, Ne.symm bridge, Ne.symm leg, Ne.symm inhibit, Ne.symm en, Ne.symm vout, Ne.symm ceil]

/-- A wake writes the source it came from, and no other field. -/
theorem wakeFires_rd_other {k n : Nat} (h : k ≠ R.PWR_WAKE_LASTSRC) : (s.wakeFires n).rd k = s.rd k := by
  have written : (s.wr R.PWR_WAKE_LASTSRC n).rd k = s.rd k := State.wr_rd_other _ _ h.symm
  unfold State.wakeFires
  split
  · split
    · exact written
    · split
      · exact written
      · split
        · exact written
        · rfl
  · rfl

theorem wakeFires_pad (n : Nat) : (s.wakeFires n).pad = s.pad :=
  State.wakeFires_frame (l := [.regs, .pwr]) (fun _ h => h) .refl .pad (by decide)

/-- Whether or not a wake follows, what it leaves alone is as it was. -/
theorem when_wakeFires_rd_other {k : Nat} {c : Bool} (h : k ≠ R.PWR_WAKE_LASTSRC) :
    (s.when c fun s => s.wakeFires 4).rd k = s.rd k := by
  unfold State.when
  split
  · exact wakeFires_rd_other h
  · rfl

theorem when_wakeFires_pad {c : Bool} : (s.when c fun s => s.wakeFires 4).pad = s.pad := by
  unfold State.when
  split
  · exact wakeFires_pad 4
  · rfl

theorem padDo_pad (power : s.pwr.pad = true) : (s.padDo f).pad = f s.pad := by
  rw [padDo_of_powered power]
  exact when_wakeFires_pad.trans (State.wrs_pad _ _)

/-- A row that has the Paddock do one thing is a step of the Paddock. -/
theorem padStep_of_padDo (row : exec i s = .next (s.padDo f)) (power : s.pwr.pad = true) : s.PadStep i (f s.pad) := by
  refine ⟨_, row, padDo_pad power, ?inhibit, ?ceil, fun quiet => ?pwr, fun k other => ?fields, State.padDo_frame (fun _ h => h) .refl⟩
  all_goals rw [padDo_of_powered power]
  case inhibit => exact (when_wakeFires_rd_other (by decide)).trans (mixFollow_fields _ _)
  case ceil => exact (when_wakeFires_rd_other (by decide)).trans (mixFollow_fields _ _)
  case pwr =>
    rw [quiet]
    exact State.wrs_pwr _ _
  case fields =>
    have awake : k ≠ R.PWR_WAKE_LASTSRC := fun same => other (by rw [same]; decide)
    exact (when_wakeFires_rd_other awake).trans (mixFollow_rd_other other)

theorem heartbeatResponse_step (v : BitVec 16) (power : s.pwr.pad = true) :
    s.PadStep (.heartbeatResponse v) (s.pad.respond v.toNat) := padStep_of_padDo (f := fun p => p.respond v.toNat) rfl power

theorem drawChallenge_keeps (s : State) : s.drawChallenge.2.pad = s.pad ∧ s.drawChallenge.2.pwr = s.pwr :=
  have frame : s.Frame [.free] s.drawChallenge.2 := State.drawChallenge_frame (fun _ h => h) .refl
  ⟨frame .pad (by decide), frame .pwr (by decide)⟩

/-- With VDD_PAD a round end runs in the Paddock, with some value for a new challenge. -/
theorem padRound_pad (power : s.pwr.pad = true) (i : RoundIn) : ∃ fresh, (s.padRound i).pad = s.pad.roundEnd i fresh := by
  obtain ⟨pad, pwr⟩ := drawChallenge_keeps s
  unfold State.padRound
  rw [if_neg (by rw [power]; simp)]
  split
  · exact ⟨s.drawChallenge.1, (padDo_pad (by rw [pwr, power])).trans (by rw [pad])⟩
  · exact ⟨s.pad.chal, padDo_pad power⟩

end

/-! ### REFUSE, INHIBIT and the ceiling (R224) -/

section
variable {p : Pad} {n : Nat}

/-- The Paddock with demand of the controller alone, for every output. -/
def Pad.called (p : Pad) : Pad := { p with dem := 15, frost := false, state := if p.state = 0 then 0 else 2 }

theorem called_stops : p.called.stops n = p.stops n := by
  have armed : (p.called.state != 0) = (p.state != 0) := by
    unfold Pad.called
    by_cases h : p.state = 0 <;> simp [h]
  unfold Pad.stops
  rw [armed]
  rfl

theorem called_canCall : p.called.canCall n = p.canCall n := by
  have armed : (p.called.state == 0) = (p.state == 0) := by
    unfold Pad.called
    by_cases h : p.state = 0 <;> simp [h]
  unfold Pad.canCall
  rw [armed]
  rfl

theorem called_plant (below : n < 4) : p.called.plant n = (p.canCall n && !p.stops n && !p.heldOff n) := by
  have demanded : bit p.called.dem n = true := (Nat.testBit_two_pow_sub_one 4 n).trans (decide_eq_true below)
  have frozen : (p.called.state == 1) = false := by
    unfold Pad.called
    by_cases h : p.state = 0 <;> simp [h]
  unfold Pad.plant
  rw [called_canCall, called_stops, demanded, frozen, Bool.and_true, Bool.false_and, Bool.or_false]
  exact congrArg (fun b => b && !p.stops n && !p.heldOff n) (Bool.or_false _)

theorem refuses_iff (p : Pad) : p.refuses = true ↔ ∀ n ∈ List.range 4, prmRole p.block n = 1 → p.called.plant n = false := by
  have each (n : Nat) (member : n ∈ List.range 4) :
      (prmRole p.block n == 1 && p.canCall n && !p.stops n && !p.heldOff n) = (prmRole p.block n == 1 && p.called.plant n) := by
    rw [called_plant (List.mem_range.mp member), Bool.and_assoc, Bool.and_assoc, Bool.and_assoc]
  unfold Pad.refuses
  rw [Bool.not_eq_true', List.any_eq_false]
  refine forall₂_congr fun n member => ?_
  rw [each n member]
  simp

theorem inhibits_iff (p : Pad) :
    p.inhibits = true ↔ p.sdir = true ∧ prmMixEn p.block = true ∨ p.slt = true ∨ p.sltWait = true ∨ p.slpActs = true := by
  unfold Pad.inhibits Pad.sdirActs
  simp only [Bool.or_eq_true, Bool.and_eq_true, or_assoc]

theorem ceiling_of_pvEn (en : prmPvEn p.block = true) : p.ceiling = if p.refuses = true then 0
    else if p.sdir = true ∧ prmMixEn p.block = true then prmPvNear p.block else prmPvCeil p.block := by
  unfold Pad.ceiling Pad.sdirActs
  rw [en]
  simp only [Bool.not_true, Bool.false_or, Bool.and_eq_true]

end

/-! ### The heartbeat (R227, R228) -/

theorem heartbeat_eq (c : BitVec 16) : heartbeat c.toNat = (c.rotateLeft 5 ^^^ 0x5A3C).toNat := by
  have small : c.toNat < 65536 := c.isLt
  have rotated : (c.rotateLeft 5).toNat = (c.toNat * 32 + c.toNat / 2048) % 65536 := by
    have high : c.toNat <<< 5 % 65536 = (c.toNat % 2048) <<< 5 := by
      simp only [Nat.shiftLeft_eq]
      omega
    calc (c.rotateLeft 5).toNat
        = c.toNat <<< 5 % 65536 ||| c.toNat >>> 11 := BitVec.toNat_rotateLeft ..
      _ = (c.toNat % 2048) <<< 5 ||| c.toNat / 2048 := by rw [high, Nat.shiftRight_eq_div_pow]
      _ = (c.toNat % 2048) <<< 5 + c.toNat / 2048 := (Nat.shiftLeft_add_eq_or_of_lt (by omega) _).symm
      _ = (c.toNat * 32 + c.toNat / 2048) % 65536 := by
        rw [Nat.shiftLeft_eq]
        omega
  rw [BitVec.toNat_xor, rotated]
  rfl

section
variable {p : Pad} {v : Nat}

theorem setState_armed (h : p.state ≠ 0) : p.setState 0 =
    { p with state := 0, quiet := 0, window := 0, rearmed := false }.note 10 0 0 (if p.rearmed = true then clDegrade else clNone) :=
  (if_neg h).trans (if_pos rfl)

theorem setState_rearm (h : p.state ≠ 1) : p.setState 1 =
    { p with state := 1, window := 1108, hbOk := 0, rearmed := true }.note 10 0 1 clNone :=
  (if_neg h).trans ((if_neg (by decide)).trans (if_pos rfl))

theorem respond_of_valid (open_ : p.chalDue = false) (young : p.chalAge < 16) (valid : v = heartbeat p.chal) :
    p.respond v = { p with hbOk := min 255 (p.hbOk + 1), quiet := 0, chalDue := true }.arm := by
  unfold Pad.respond
  rw [open_, if_neg Bool.false_ne_true, if_pos valid, if_pos young]
  rfl

theorem respond_of_wrong (open_ : p.chalDue = false) (wrong : v ≠ heartbeat p.chal) :
    p.respond v = { p with hbBad := min 255 (p.hbBad + 1), hbOk := 0 }.rearmLine := by
  unfold Pad.respond
  rw [open_, if_neg Bool.false_ne_true, if_neg wrong]
  rfl

theorem arm_eq (p : Pad) : p.arm = if p.state ≠ 0 ∧ 16 ≤ p.hbOk then
    { p with state := 0, quiet := 0, window := 0, rearmed := false }.note 10 0 0 (if p.rearmed = true then clDegrade else clNone)
    else p := by
  have counted : (p.state != 0 && Nat.ble 16 p.hbOk) = true ↔ p.state ≠ 0 ∧ 16 ≤ p.hbOk := by
    rw [Bool.and_eq_true, bne_iff_ne, Nat.ble_eq]
  by_cases h : p.state ≠ 0 ∧ 16 ≤ p.hbOk
  · rw [if_pos h, ← setState_armed h.1]
    exact if_pos (counted.mpr h)
  · rw [if_neg h]
    exact if_neg (mt counted.mp h)

theorem rearmLine_eq (p : Pad) : p.rearmLine = if p.state = 0 then
    { p with state := 1, window := 1108, hbOk := 0, rearmed := true }.note 10 0 1 clNone else p := by
  by_cases h : p.state = 0
  · rw [if_pos h, ← setState_rearm (by rw [h]; decide)]
    exact if_pos (beq_iff_eq.mpr h)
  · rw [if_neg h]
    exact if_neg (mt beq_iff_eq.mp h)

/-- A valid response counts, and the 16th of a row arms the Paddock (R228). -/
theorem respond_valid (open_ : p.chalDue = false) (young : p.chalAge < 16) (valid : v = heartbeat p.chal) :
    ∃ q : Pad, q = { p with hbOk := min 255 (p.hbOk + 1), quiet := 0, chalDue := true } ∧
    p.respond v = if p.state ≠ 0 ∧ 15 ≤ p.hbOk then
      { q with state := 0, window := 0, rearmed := false }.note 10 0 0 (if p.rearmed = true then clDegrade else clNone) else q := by
  refine ⟨_, rfl, (respond_of_valid open_ young valid).trans ((arm_eq _).trans ?_)⟩
  refine if_congr (and_congr_right fun _ => ?_) rfl rfl
  show 16 ≤ min 255 (p.hbOk + 1) ↔ 15 ≤ p.hbOk
  omega

end

/-! ### Requests (R234, R240) -/

section
variable {p : Pad} {r : Ref} {b : Bytes}

theorem take_stage (op : r.op = 0x40) : p.take ⟨r, b⟩ =
    { p with staged := some ⟨b, 332000, 0⟩, res := p.res ++ [⟨r, stOk, le 4 (crc32 b) ++ [BitVec.ofNat 8 (prmFirstBad b)]⟩] } := by
  unfold Pad.take
  rw [op]
  rfl

theorem take_commit (op : r.op = 0x41) : p.take ⟨r, b⟩ = p.takeCommit ⟨r, b⟩ := by
  unfold Pad.take
  rw [op]
  rfl

theorem takeCommit_of_none (none_ : p.staged = none) :
    p.takeCommit ⟨r, b⟩ = { p with res := p.res ++ [⟨r, stNotPermitted, []⟩] } := by
  unfold Pad.takeCommit
  split
  case h_1 => rfl
  case h_2 staged => exact absurd (none_.symm.trans staged) (by simp)

/-- A commit of a staged block: the check value, Table 8-7 and the latched faults, in this order (R234). -/
theorem takeCommit_of_staged {g : PadStaged} (staged : p.staged = some g) : p.takeCommit ⟨r, b⟩ =
    if u32 b 0 ≠ crc32 g.block then { p with
      staged := if 3 ≤ g.tries + 1 then none else some { g with tries := g.tries + 1 }, res := p.res ++ [⟨r, stBadParam, [0xFF]⟩] }
    else if prmFirstBad g.block ≠ 0xFF then
      { p with res := p.res ++ [⟨r, stBadParam, [BitVec.ofNat 8 (prmFirstBad g.block)]⟩] }
    else if (p.lane || p.clk) = true then { p with res := p.res ++ [⟨r, stNotPermitted, []⟩] }
    else { p with staged := none, writing := some ⟨g.block, r, 0⟩, res := p.res ++ [⟨r, stAccepted, []⟩] } := by
  unfold Pad.takeCommit
  split
  case h_1 none_ => exact absurd (none_.symm.trans staged) (by simp)
  case h_2 held =>
    obtain rfl := Option.some.inj (staged.symm.trans held)
    rfl

theorem takeCommit_of_wrongCheck {g : PadStaged} (staged : p.staged = some g) (wrong : u32 b 0 ≠ crc32 g.block) :
    p.takeCommit ⟨r, b⟩ = { p with
      staged := if g.tries < 2 then some { g with tries := g.tries + 1 } else none, res := p.res ++ [⟨r, stBadParam, [0xFF]⟩] } := by
  have third : (if 3 ≤ g.tries + 1 then none else some { g with tries := g.tries + 1 }) =
      if g.tries < 2 then some { g with tries := g.tries + 1 } else none := by
    split
    · exact (if_neg (by omega)).symm
    · exact (if_pos (by omega)).symm
  rw [takeCommit_of_staged staged, if_pos wrong, third]

theorem takeCommit_of_badBlock {g : PadStaged} (staged : p.staged = some g) (right : u32 b 0 = crc32 g.block)
    (bad : prmFirstBad g.block ≠ 0xFF) :
    p.takeCommit ⟨r, b⟩ = { p with res := p.res ++ [⟨r, stBadParam, [BitVec.ofNat 8 (prmFirstBad g.block)]⟩] } := by
  rw [takeCommit_of_staged staged, if_neg (not_not.mpr right), if_pos bad]

theorem takeCommit_of_fault {g : PadStaged} (staged : p.staged = some g) (right : u32 b 0 = crc32 g.block)
    (good : prmFirstBad g.block = 0xFF) (fault : p.lane = true ∨ p.clk = true) :
    p.takeCommit ⟨r, b⟩ = { p with res := p.res ++ [⟨r, stNotPermitted, []⟩] } := by
  rw [takeCommit_of_staged staged, if_neg (not_not.mpr right), if_neg (not_not.mpr good), if_pos (Bool.or_eq_true_iff.mpr fault)]

theorem takeCommit_of_good {g : PadStaged} (staged : p.staged = some g) (right : u32 b 0 = crc32 g.block)
    (good : prmFirstBad g.block = 0xFF) (lane : p.lane = false) (clk : p.clk = false) : p.takeCommit ⟨r, b⟩ =
    { p with staged := none, writing := some ⟨g.block, r, 0⟩, res := p.res ++ [⟨r, stAccepted, []⟩] } := by
  rw [takeCommit_of_staged staged, if_neg (not_not.mpr right), if_neg (not_not.mpr good), if_neg (by simp [lane, clk])]

end

/-! ### The opcodes (R240, Table 8-18) -/

section
variable {s : State} {c : Cmd} {i : Instr} {op : Nat} {f : State → Ref → Bytes → State} {l : List (Bool × Nat)}

theorem firstBad_of_param {bad : Bool} (h : bad = false) (l : List (Bool × Nat)) : firstBad (param bad :: l) = firstBad l := by
  rw [h, param, firstBad_pass]

theorem firstBad_of_badParam {bad : Bool} (h : bad = true) (l : List (Bool × Nat)) : firstBad (param bad :: l) = stBadParam := by
  rw [h, param, firstBad_fail]

theorem firstBad_of_permitted {ok : Bool} (h : ok = true) (l : List (Bool × Nat)) : firstBad (permitted ok :: l) = firstBad l := by
  rw [h, permitted, Bool.not_true, firstBad_pass]

theorem firstBad_of_forbidden {ok : Bool} (h : ok = false) (l : List (Bool × Nat)) :
    firstBad (permitted ok :: l) = stNotPermitted := by
  rw [h, permitted, Bool.not_false, firstBad_fail]

/-- A row leaves a request for the next PAD_XCH, and its command holds its tag. -/
def State.AsksPad (s : State) (i : Instr) (c : Cmd) (op : Nat) (payload : Bytes) : Prop := ∃ t, exec i s = .next t ∧ s.Holds c op t ∧
  t.pad = { s.pad with out := s.pad.out ++ [⟨s.refOf c op, payload⟩] } ∧ s.Frame [.spoke, .pad] t

theorem asksPad_of_checks (h : s.Ready c) (row : exec i s = .next (s.command c op f))
    (checks : f (s.begin c op).2 (s.refOf c op) c.payload =
      (s.begin c op).2.checked (s.refOf c op) l fun u => u.padAsk (s.refOf c op) c.payload)
    (good : firstBad l = stOk) : s.AsksPad i c op c.payload := by
  have runs : s.command c op f = (s.begin c op).2.padAsk (s.refOf c op) c.payload := checks.trans (checked_ok good)
  rw [runs] at row
  have started : s.Frame [.spoke, .pad] (s.begin c op).2 := begin_frame_spoke.mono (Covers.refl.sub rfl)
  exact ⟨_, row, holds_of_begin h rfl, rfl, started.pad (by decide)⟩

/-- Of an unauthenticated channel, PAD_STAGE is permitted to the hub's own tasks alone (R234, R240). -/
theorem padStage_permits (h : s.Ready c) (op : Nat) :
    (decide (c.ch.val < 24) && ((s.begin c op).2.chan c.ch).bind.isNone) = decide (c.ch.val < 24) := by
  rw [begin_bind, h.bind]
  exact Bool.and_true _

/-- The checks of PAD_STAGE, on the state the command started from. -/
theorem padStage_checks (h : s.Ready c) : (s.begin c 0x40).2.doPadStage (s.refOf c 0x40) c.payload =
    (s.begin c 0x40).2.checked (s.refOf c 0x40) [lengthIs c.payload 56, permitted (!decide (c.ch.val < 24) && !s.on R.PWR_STAT_PFSEQ)]
      fun u => u.padAsk (s.refOf c 0x40) c.payload := by
  rw [← padStage_permits h 0x40]
  rfl

/-- The requests that Table 8-18 lets through wait for the next PAD_XCH. -/
theorem padRequests_wait (h : s.Ready c) :
    (c.payload.length = 56 → 24 ≤ c.ch.val → s.on R.PWR_STAT_PFSEQ = false → s.AsksPad (.padStage c) c 0x40 c.payload) ∧
    (c.payload.length = 4 → c.ch = 24 → s.AsksPad (.padCommit c) c 0x41 c.payload) ∧
    (c.payload = [] → s.AsksPad (.padCancel c) c 0x42 []) ∧
    (c.payload.length = 1 → u8 c.payload 0 ≤ 3 → s.AsksPad (.padProof c) c 0x43 c.payload) ∧
    (c.payload.length = 2 → u16 c.payload 0 ≠ 0 → bits (u16 c.payload 0) 10 2 = 0 → 24 ≤ c.ch.val → c.ch.val ≤ 30 →
      s.AsksPad (.padRestart c) c 0x44 c.payload) := by
  refine ⟨fun len own calm => asksPad_of_checks h rfl (padStage_checks h) ?stage, fun len own => asksPad_of_checks h rfl rfl ?commit,
    fun empty => ?cancel, fun len known => asksPad_of_checks h rfl rfl ?proof,
    fun len named clear low high => asksPad_of_checks h rfl rfl ?restart⟩
  case stage =>
    have ok : (!decide (c.ch.val < 24) && !s.on R.PWR_STAT_PFSEQ) = true := by rw [decide_eq_false (Nat.not_lt.mpr own), calm]; rfl
    exact (firstBad_of_length len _).trans (firstBad_of_permitted ok [])
  case commit => exact (firstBad_of_length len _).trans (firstBad_of_permitted (beq_iff_eq.mpr (congrArg Fin.val own)) [])
  case cancel =>
    rw [← empty]
    exact asksPad_of_checks h rfl rfl (firstBad_of_length (List.length_eq_zero_iff.mpr empty) [])
  case proof => exact (firstBad_of_length len _).trans (firstBad_of_param (decide_eq_false (Nat.not_lt.mpr known)) [])
  case restart =>
    have ok : (u16 c.payload 0 == 0 || bits (u16 c.payload 0) 10 2 != 0) = false := by simp [named, clear]
    exact (firstBad_of_length len _).trans
      ((firstBad_of_param ok _).trans (firstBad_of_permitted (decide_eq_true ⟨low, high⟩) []))

/-- What Table 8-18 refuses, with its status. -/
theorem padRequests_refused (h : s.Ready c) : (c.payload.length ≠ 56 → s.Refuses (.padStage c) c 0x40 stBadLength) ∧
    (c.payload.length = 56 → c.ch.val < 24 → s.Refuses (.padStage c) c 0x40 stNotPermitted) ∧
    (c.payload.length ≠ 4 → s.Refuses (.padCommit c) c 0x41 stBadLength) ∧
    (c.payload.length = 4 → c.ch ≠ 24 → s.Refuses (.padCommit c) c 0x41 stNotPermitted) ∧
    (c.payload ≠ [] → s.Refuses (.padCancel c) c 0x42 stBadLength) ∧
    (c.payload.length ≠ 1 → s.Refuses (.padProof c) c 0x43 stBadLength) ∧
    (c.payload.length = 1 → 3 < u8 c.payload 0 → s.Refuses (.padProof c) c 0x43 stBadParam) ∧
    (c.payload.length ≠ 2 → s.Refuses (.padRestart c) c 0x44 stBadLength) ∧
    (c.payload.length = 2 → u16 c.payload 0 = 0 ∨ bits (u16 c.payload 0) 10 2 ≠ 0 → s.Refuses (.padRestart c) c 0x44 stBadParam) ∧
    (c.payload.length = 2 → u16 c.payload 0 ≠ 0 → bits (u16 c.payload 0) 10 2 = 0 → c.ch.val < 24 ∨ c.ch.val = 31 →
      s.Refuses (.padRestart c) c 0x44 stNotPermitted) := by
  have refused {i : Instr} {op n : Nat} {f : State → Ref → Bytes → State} {l : List (Bool × Nat)}
      (row : exec i s = .next (s.command c op f)) (checks : ∃ k, f (s.begin c op).2 (s.refOf c op) c.payload =
        (s.begin c op).2.checked (s.refOf c op) (lengthIs c.payload n :: l) k)
      (len : c.payload.length ≠ n) : s.Refuses i c op stBadLength :=
    refuses_of_check h row checks (firstBad_of_badLength len l) (by decide)
  refine ⟨refused rfl ⟨_, padStage_checks h⟩, fun len other => ?stage, refused rfl ⟨_, rfl⟩, fun len other => ?commit,
    fun some_ => refused rfl ⟨_, rfl⟩ (mt List.length_eq_zero_iff.mp some_), refused rfl ⟨_, rfl⟩, fun len unknown => ?proof,
    refused rfl ⟨_, rfl⟩, fun len bad => ?param, fun len named clear other => ?restart⟩
  case stage =>
    have barred : (!decide (c.ch.val < 24) && !s.on R.PWR_STAT_PFSEQ) = false := by rw [decide_eq_true other]; rfl
    exact refuses_of_check h rfl ⟨_, padStage_checks h⟩ ((firstBad_of_length len _).trans (firstBad_of_forbidden barred []))
      (by decide)
  case commit =>
    have barred : (c.ch.val == 24) = false := beq_eq_false_iff_ne.mpr fun same => other (Fin.ext same)
    exact refuses_of_check h rfl ⟨_, rfl⟩ ((firstBad_of_length len _).trans (firstBad_of_forbidden barred [])) (by decide)
  case proof =>
    exact refuses_of_check h rfl ⟨_, rfl⟩ ((firstBad_of_length len _).trans (firstBad_of_badParam (decide_eq_true unknown) []))
      (by decide)
  case param =>
    have wrong : (u16 c.payload 0 == 0 || bits (u16 c.payload 0) 10 2 != 0) = true := by simpa using bad
    exact refuses_of_check h rfl ⟨_, rfl⟩ ((firstBad_of_length len _).trans (firstBad_of_badParam wrong _)) (by decide)
  case restart =>
    have ok : (u16 c.payload 0 == 0 || bits (u16 c.payload 0) 10 2 != 0) = false := by simp [named, clear]
    have barred : decide (24 ≤ c.ch.val ∧ c.ch.val ≤ 30) = false := decide_eq_false (by omega)
    exact refuses_of_check h rfl ⟨_, rfl⟩ ((firstBad_of_length len _).trans
      ((firstBad_of_param ok _).trans (firstBad_of_forbidden barred []))) (by decide)

end

/-- Settles O48, clause by clause: the round end, the equations of R218 and R224, the heartbeat, the opcodes and the requests that the
Paddock takes. -/
theorem paddockRound : Obligations.PaddockRound := by
  unfold Obligations.PaddockRound
  refine ⟨fun s i off => congrArg Host.Outcome.next (if_pos (by rw [off]; rfl)), fun s i power => ?round,
    fun s i x power waits => ?proposal, fun p i n below up => ?drives, stops_iff, plant_iff,
    fun p => ⟨inhibits_iff p, refuses_iff p, ceiling_of_pvEn⟩, heartbeat_eq, fun s v power open_ young valid => ?valid,
    fun s v power open_ wrong => ?wrong, fun s c => padRequests_wait, fun s c => padRequests_refused, fun p r b => take_stage,
    fun p r b op none_ => (take_commit op).trans (takeCommit_of_none none_),
    fun p r b g op staged => ⟨fun wrong => ?_, fun right bad => ?_, fun right good fault => ?_,
      fun right good lane clk => ?_⟩, fun s e => rfl⟩
  case round =>
    obtain ⟨fresh, runs⟩ := padRound_pad power i
    obtain ⟨q, ends, endh, prop, -, outs, off, ceil, inhibit, phase, early, late⟩ := roundEnd_shows s.pad i fresh
    rw [← ends] at runs
    subst runs
    exact ⟨s.padRound i, rfl, endh, prop, outs, off, ceil, inhibit, phase, early, late, State.padRound_frame Covers.refl .refl⟩
  case proposal =>
    obtain ⟨fresh, runs⟩ := padRound_pad power i
    obtain ⟨q, ends, -, -, proposal, -⟩ := roundEnd_shows s.pad i fresh
    rw [← ends] at runs
    subst runs
    exact ⟨s.padRound i, rfl, proposal.trans (by rw [waits, Option.getD_some])⟩
  case drives =>
    obtain ⟨decided, both⟩ := outputs_on_imp below up
    obtain ⟨free, test, offRound, -⟩ := (plant_iff p n).mp decided
    exact ⟨decided, free, both, offRound, test⟩
  case valid =>
    obtain ⟨q, hq, answered⟩ := respond_valid open_ young valid
    exact ⟨q, hq, answered ▸ heartbeatResponse_step v power⟩
  case wrong =>
    have step := heartbeatResponse_step v power
    rw [respond_of_wrong open_ wrong, rearmLine_eq] at step
    exact ⟨_, rfl, step⟩
  all_goals rw [take_commit op]
  · exact takeCommit_of_wrongCheck staged wrong
  · exact takeCommit_of_badBlock staged right bad
  · exact takeCommit_of_fault staged right good fault
  · exact takeCommit_of_good staged right good lane clk

end Sys2Proof.Machine
end

section
/-!
PROOFS. The bus ports and Golposen (R243, R245 to R250, R252 to R266, Table 9-5, 09_bus_golposen.md): frames in and out of a port and
the events of its two protocols, the connections with the judgement of what they receive, and the opcodes of the family.
-/

namespace Sys2Proof.Machine

/-! ### A port, a connection and a frame that leaves (R245) -/

section
variable {s u : State} {p c : Nat}

theorem modBus_busPort_same (f : BusPort → BusPort) : (s.modBus p f).busPort p = f (s.busPort p) := by
  rw [State.modBus_busPort, if_pos rfl]

theorem busPort_congr {a b : State} (h : a.bus = b.bus) (p : Nat) : a.busPort p = b.busPort p := by
  unfold State.busPort
  rw [h]

theorem modConn_conn_same (f : Conn → Conn) : (s.modConn c f).conn c = f (s.conn c) := by rw [State.modConn_conn, if_pos rfl]

theorem conn_congr {a b : State} (h : a.bus = b.bus) (c : Nat) : a.conn c = b.conn c := by
  unfold State.conn
  rw [h]

/-- What a connection keeps is no part of a port. -/
theorem modConn_busPort (f : Conn → Conn) : (s.modConn c f).busPort p = s.busPort p := rfl

theorem on_eq_false_iff {k : Nat} : s.on k = false ↔ s.rd k ≠ 1 := beq_eq_false_iff_ne

theorem count_eq (s : State) (k top n : Nat) : s.count k top n = s.wr k (min top (s.rd k + n)) := rfl

/-- A frame put on the line waits behind those before it, and DE is high. -/
theorem busTransmit_busPort (data : Bytes) (cmd : Option Ref) : (s.busTransmit p data cmd).busPort p =
    { s.busPort p with de := true, tx := (s.busPort p).tx ++ [⟨data, cmd⟩] } := modBus_busPort_same _

end

/-! ### The receiver (R245, R246) -/

section
variable {s : State} {p : Nat} {data : Bytes} {bad : Bool}

/-- A port hears the line while it runs and its DE is low. -/
theorem hears_of (on : s.busOn p = true) (low : (s.busPort p).de = false) : (s.busOn p && !(s.busPort p).de) = true := by
  rw [on, low]
  rfl

theorem not_hears_of (h : s.busOn p = false ∨ (s.busPort p).de = true) : ¬ (s.busOn p && !(s.busPort p).de) = true := by
  rcases h with off | high
  · simp [off]
  · simp [high]

theorem busFrameEnd_of_hears (on : s.busOn p = true) (low : (s.busPort p).de = false) :
    s.busFrameEnd p data bad = s.modBus p fun x => { x with rx := x.rx ++ [⟨data, bad, s.ticks⟩] } := if_pos (hears_of on low)

theorem busFrameEnd_of_not (h : s.busOn p = false ∨ (s.busPort p).de = true) : s.busFrameEnd p data bad = s := if_neg (not_hears_of h)

/-- The 65th discarded frame of a stage is told (R264). -/
theorem busDiscard_eq (s : State) (p k : Nat) :
    ∃ u, u = (s.wr k (min 0xFFFF (s.rd k + 1))).modBus p (fun x => { x with disc := x.disc + 1 }) ∧
    s.busDiscard p k = if (s.busPort p).disc = 64 then u.fault clNote 0x48 0 0 0 else u := by
  refine ⟨_, rfl, ?_⟩
  unfold State.busDiscard
  rw [count_eq]
  dsimp only
  rw [modBus_busPort_same]
  exact if_congr Nat.succ_inj rfl rfl

theorem busOverflow_of_hears (on : s.busOn p = true) (low : (s.busPort p).de = false) :
    s.busOverflow p = (s.busDiscard p (R.BUS_CNT_OVERFLOW p)).fault clNote 0x48 0 0 0 := if_pos (hears_of on low)

theorem busOverflow_of_not (h : s.busOn p = false ∨ (s.busPort p).de = true) : s.busOverflow p = s := if_neg (not_hears_of h)

end

/-! ### The client's response timeout (R249) -/

section
variable {s : State} {p : Nat} {o : BusOut} {d : Nat}

/-- The client gives its request up, and tells the host. -/
theorem modbusTimeout_of_due (out : (s.busPort p).out = some o) (due : o.due = some d) : s.modbusTimeout p =
    ((s.modBus p fun x => { x with out := none }).wr (R.BUS_CNT_TIMEOUT p) (min 0xFFFF (s.rd (R.BUS_CNT_TIMEOUT p) + 1))).busRx p 2
      o.dest 0 [] := by
  unfold State.modbusTimeout
  rw [out]
  dsimp only
  rw [due]
  rfl

/-- With its timeout run out, a request leaves its port without one. -/
theorem modbusTimeout_busPort (out : (s.busPort p).out = some o) (due : o.due = some d) :
    (s.modbusTimeout p).busPort p = { s.busPort p with out := none } := by
  rw [modbusTimeout_of_due out due]
  exact (busPort_congr (State.event_bus _ _ _) p).trans (modBus_busPort_same _)

theorem modbusTimeout_rd_mode (out : (s.busPort p).out = some o) (due : o.due = some d) :
    (s.modbusTimeout p).rd (R.BUS_CFG_MODE p) = s.rd (R.BUS_CFG_MODE p) := by
  rw [modbusTimeout_of_due out due]
  exact (State.event_rd _ _ _ _).trans (State.wr_rd_other _ _ (by unfold R.BUS_CNT_TIMEOUT R.BUS_CFG_MODE; omega))

/-- A request given up counts as a timeout, and the host is told. -/
theorem modbusTimeout_effect (out : (s.busPort p).out = some o) (due : o.due = some d) :
    s.Fields [(R.BUS_CNT_TIMEOUT p, min 0xFFFF (s.rd (R.BUS_CNT_TIMEOUT p) + 1))] (s.modbusTimeout p) ∧
    s.Raises 0x48 (le 1 p ++ le 1 2 ++ le 1 o.dest ++ le 1 0) (s.modbusTimeout p) ∧
    s.Frame [.regs, .spoke, .bus] (s.modbusTimeout p) := by
  have counted : s.Fields [(R.BUS_CNT_TIMEOUT p, min 0xFFFF (s.rd (R.BUS_CNT_TIMEOUT p) + 1))]
      ((s.modBus p fun x => { x with out := none }).wr (R.BUS_CNT_TIMEOUT p) (min 0xFFFF (s.rd (R.BUS_CNT_TIMEOUT p) + 1))) :=
    State.Fields.wr (u := s.modBus p fun x => { x with out := none }) (State.Fields.refl.of_regs rfl)
  refine ⟨?_, ?_, State.modbusTimeout_frame Covers.refl .refl⟩ <;> rw [modbusTimeout_of_due out due]
  · exact counted.of_regs (State.event_regs _ _ _)
  · unfold State.busRx
    rw [List.append_nil]
    exact State.event_raises ((s.modBus p fun x => { x with out := none }).wr _ _) 0x48 _

theorem modbusNext_of_empty (idle : (s.busPort p).out = none) (empty : (s.busPort p).send = []) : s.modbusNext p = s := by
  unfold State.modbusNext
  rw [idle, empty]
  rfl

/-- The next request in the queue goes out, and is outstanding until its response. -/
theorem modbusNext_of_host {f : HostFrame} {rest : List BusSend} (idle : (s.busPort p).out = none)
    (next : (s.busPort p).send = .host f :: rest) : s.modbusNext p =
    (s.modBus p fun x => { x with send := rest, out := some ⟨f.dest, false, none⟩ }).busTransmit p (s.hostFrame p f) (some f.cmd) := by
  unfold State.modbusNext
  rw [idle, next]
  rfl

theorem exec_modbusClientTimeout_of_due {p : Fin 2} (on : s.busOn p = true) (mode : s.rd (R.BUS_CFG_MODE p) = 3)
    (out : (s.busPort p).out = some o) (due : o.due = some d) :
    exec (.modbusClientTimeout p) s = .next ((s.modbusTimeout p).modbusNext p) :=
  congrArg Host.Outcome.next (if_pos (by rw [on, beq_iff_eq.mpr mode, out, Option.bind_some, due]; rfl))

theorem exec_modbusClientTimeout_of_not {p : Fin 2}
    (h : s.busOn p = false ∨ s.rd (R.BUS_CFG_MODE p) ≠ 3 ∨ (s.busPort p).out = none) : exec (.modbusClientTimeout p) s = .next s := by
  refine congrArg Host.Outcome.next (if_neg ?_)
  rcases h with off | other | idle
  · simp [off]
  · rw [beq_eq_false_iff_ne.mpr other, Bool.and_false, Bool.false_and]
    exact Bool.false_ne_true
  · simp [idle]

end

/-! ### MS/TP: Reply Postponed and a lost token (R250) -/

section
variable {s : State} {p : Nat}

theorem mstpPostpone_of_expected {src n : Nat} (expected : (s.busPort p).expect = some (src, n)) : s.mstpPostpone p =
    (s.modBus p fun x => { x with expect := none }).busTransmit p (mstpFrame 7 src (s.rd (R.BUS_CFG_ADDR p)) []) := by
  unfold State.mstpPostpone
  rw [expected]

theorem mstpPostpone_of_none (none_ : (s.busPort p).expect = none) : s.mstpPostpone p = s := by
  unfold State.mstpPostpone
  rw [none_]

/-- The node forgets its next station, and polls from the address after its own. -/
theorem mstpTokenLost_of_node (on : s.busOn p = true) (mode : s.rd (R.BUS_CFG_MODE p) = 1) : s.mstpTokenLost p =
    (((s.wr (R.BUS_CNT_TIMEOUT p) (min 0xFFFF (s.rd (R.BUS_CNT_TIMEOUT p) + 1))).fault clNote 0x48 0 0 0).modBus p fun x =>
      { x with nextStation := none, token := false }).mstpPoll p
        (if s.rd (R.BUS_CFG_MAX_MASTER p) ≤ s.rd (R.BUS_CFG_ADDR p) then 0 else s.rd (R.BUS_CFG_ADDR p) + 1) :=
  if_pos (by rw [on, beq_iff_eq.mpr mode]; rfl)

theorem mstpTokenLost_of_not (h : s.busOn p = false ∨ s.rd (R.BUS_CFG_MODE p) ≠ 1) : s.mstpTokenLost p = s := by
  refine if_neg ?_
  rcases h with off | other
  · simp [off]
  · rw [beq_eq_false_iff_ne.mpr other, Bool.and_false]
    exact Bool.false_ne_true

end

/-! ### A partial Spoke frame, and the last stop bit (R245, R249, R252) -/

section
variable {s : State} {p : Nat}

theorem busPartial_of_young (young : s.ticks < (s.busPort p).spokeAt + 1024) : s.busPartial p = s :=
  if_neg (by simp; omega)

theorem busPartial_of_old (old : (s.busPort p).spokeAt + 1024 ≤ s.ticks) : s.busPartial p = s.rxDiscard (p + 1) :=
  if_pos (by simp; omega)

/-- With nothing under way on the port's stream there is nothing to discard. -/
theorem busPartial_of_empty (empty : (s.rxPath (p + 1)).part = []) : s.busPartial p = s := by
  rcases Nat.lt_or_ge s.ticks ((s.busPort p).spokeAt + 1024) with young | old
  · exact busPartial_of_young young
  · rw [busPartial_of_old old, rxDiscard_of_empty empty]

/-- The frame has left: DE stays high while another waits, the client's timeout starts, and the BUS_TX command ends. -/
theorem busTxDone_of_cons {f : TxFrame} {rest : List TxFrame} (leaves : (s.busPort p).tx = f :: rest) : s.busTxDone p =
    (s.modBus p (fun x => { x with tx := rest, de := !rest.isEmpty, out := x.out.map fun o =>
      if o.due = none then { o with due := some (s.ticks + msTicks (s.rd (R.BUS_CFG_RSP_TMO p))) } else o })).finish? f.cmd stOk := by
  unfold State.busTxDone
  rw [leaves]
  simp only [Option.isNone_iff_eq_none]

theorem busTxDone_of_nil (idle : (s.busPort p).tx = []) : s.busTxDone p = s := by
  unfold State.busTxDone
  rw [idle]

end

/-! ### Connections and their state (R253, R256, R260) -/

section
variable {s : State} {c k w : Nat}

theorem consumes_iff : s.consumes c = true ↔ s.rd (R.BUS_GP_CFG_EN c) = 1 ∧ s.rd (R.BUS_GP_CFG_DIR c) ≠ 1 := by
  unfold State.consumes
  rw [Bool.and_eq_true, Bool.not_eq_true', on_eq_false_iff, State.on_iff]

theorem produces_iff : s.produces c = true ↔ s.rd (R.BUS_GP_CFG_EN c) = 1 ∧ s.rd (R.BUS_GP_CFG_DIR c) = 1 := by
  unfold State.produces
  rw [Bool.and_eq_true, State.on_iff, State.on_iff]

/-- The fields that tell a connection's state: STATE, WHY and its bits of the two summaries. -/
def State.gpTold (s : State) (c k w : Nat) : State :=
  s.wrs [(R.BUS_GP_STAT_STATE c, k), (R.BUS_GP_STAT_WHY c, w), (R.BUS_STAT_GP_RUN, setBit (s.rd R.BUS_STAT_GP_RUN) c (k == 2)),
    (R.BUS_STAT_GP_FAILED, setBit (s.rd R.BUS_STAT_GP_FAILED) c (k == 3))]

/-- A connection's state is told in its own status block and in BUS_STAT, and nowhere else. -/
theorem gpTold_rd_other {j : Nat} (own : j / 1024 ≠ 0x4840 + c) (summary : j / 1024 ≠ 0x4800) : (s.gpTold c k w).rd j = s.rd j := by
  unfold State.gpTold
  refine wrs_rd_other fun e he => ?_
  simp only [List.mem_cons, List.not_mem_nil, or_false] at he
  rcases he with rfl | rfl | rfl | rfl <;>
    dsimp only [R.BUS_GP_STAT_STATE, R.BUS_GP_STAT_WHY, R.BUS_STAT_GP_RUN, R.BUS_STAT_GP_FAILED] <;> omega

theorem gpTold_fields (s : State) (c k w : Nat) : s.Fields [(R.BUS_STAT_GP_FAILED, setBit (s.rd R.BUS_STAT_GP_FAILED) c (k == 3)),
    (R.BUS_STAT_GP_RUN, setBit (s.rd R.BUS_STAT_GP_RUN) c (k == 2)), (R.BUS_GP_STAT_WHY c, w), (R.BUS_GP_STAT_STATE c, k)]
    (s.gpTold c k w) := State.Fields.refl.wrs

/-- Only RUN delivers data: a consumer in another state reads DATA 0. -/
def State.gpSilenced (s : State) (c k w : Nat) : State :=
  (s.gpTold c k w).when (decide (k ≠ 2) && !(s.gpTold c k w).on (R.BUS_GP_CFG_DIR c)) fun s => s.wr (R.BUS_GP_DATA_DATA c) 0

theorem gpState_eq (s : State) (c k w : Nat) : s.gpState c k w = if s.rd (R.BUS_GP_STAT_STATE c) = k then s.gpSilenced c k w
    else (s.gpSilenced c k w).event 0x49 (le 1 c ++ le 1 k ++ le 1 w ++ le 1 0) := rfl

/-- A consumer that changes its state, but not to RUN, reads DATA 0 and tells its new state. -/
theorem gpState_of_consumer (consumer : s.rd (R.BUS_GP_CFG_DIR c) ≠ 1) (moves : s.rd (R.BUS_GP_STAT_STATE c) ≠ k) (silent : k ≠ 2) :
    s.gpState c k w = ((s.gpTold c k w).wr (R.BUS_GP_DATA_DATA c) 0).event 0x49 (le 1 c ++ le 1 k ++ le 1 w ++ le 1 0) := by
  have dir : (s.gpTold c k w).on (R.BUS_GP_CFG_DIR c) = false := by
    rw [on_eq_false_iff, gpTold_rd_other (by unfold R.BUS_GP_CFG_DIR; omega) (by unfold R.BUS_GP_CFG_DIR; omega)]
    exact consumer
  have told : s.gpSilenced c k w = (s.gpTold c k w).wr (R.BUS_GP_DATA_DATA c) 0 := if_pos (by rw [dir, decide_eq_true silent]; rfl)
  rw [gpState_eq, if_neg moves, told]

theorem gpState_effect (consumer : s.rd (R.BUS_GP_CFG_DIR c) ≠ 1) (moves : s.rd (R.BUS_GP_STAT_STATE c) ≠ k) (silent : k ≠ 2) :
    s.Raises 0x49 [BitVec.ofNat 8 c, BitVec.ofNat 8 k, BitVec.ofNat 8 w, 0] (s.gpState c k w) ∧
    s.Fields [(R.BUS_GP_DATA_DATA c, 0), (R.BUS_STAT_GP_FAILED, setBit (s.rd R.BUS_STAT_GP_FAILED) c (k == 3)),
      (R.BUS_STAT_GP_RUN, setBit (s.rd R.BUS_STAT_GP_RUN) c false), (R.BUS_GP_STAT_WHY c, w), (R.BUS_GP_STAT_STATE c, k)]
      (s.gpState c k w) ∧
    s.Frame [.regs, .spoke] (s.gpState c k w) := by
  refine ⟨?_, ?_, State.gpState_frame Covers.refl .refl⟩ <;> rw [gpState_of_consumer consumer moves silent]
  · exact State.event_raises ((s.gpTold c k w).wr (R.BUS_GP_DATA_DATA c) 0) 0x49 _
  · rw [← beq_eq_false_iff_ne.mpr silent]
    exact (State.Fields.wr (gpTold_fields s c k w)).of_regs (State.event_regs _ _ _)

/-- Of a connection's configuration a change of its state writes nothing. -/
theorem gpState_rd_cfg {j : Nat} (cfg : j / 1024 = 0x4820 + c) : (s.gpState c k w).rd j = s.rd j := by
  have told : (s.gpTold c k w).rd j = s.rd j := gpTold_rd_other (by omega) (by omega)
  have silenced : (s.gpSilenced c k w).rd j = s.rd j := by
    unfold State.gpSilenced State.when
    split
    · exact (State.wr_rd_other _ _ (by unfold R.BUS_GP_DATA_DATA; omega)).trans told
    · exact told
  rw [gpState_eq]
  split
  · exact silenced
  · exact (State.event_rd _ _ _ _).trans silenced

/-- A connection that fails brings a fault, of class PLANT where it may stop the plant (R264). -/
theorem gpFail_of_live (live : s.rd (R.BUS_GP_STAT_STATE c) ≠ 3) : s.gpFail c w =
    (s.gpState c 3 w).fault (if s.rd (R.BUS_GP_CFG_PADSTOP c) = 1 then clPlant else clDegrade) 0x48 0 0 0 := by
  have stop : (s.gpState c 3 w).rd (R.BUS_GP_CFG_PADSTOP c) = s.rd (R.BUS_GP_CFG_PADSTOP c) :=
    gpState_rd_cfg (by unfold R.BUS_GP_CFG_PADSTOP; omega)
  rw [← stop]
  unfold State.gpFail
  dsimp only
  rw [if_neg (by simpa using live)]
  simp only [State.on_iff]

end

/-! ### The watchdog (R258) -/

section
variable {s : State} {c : Nat}

theorem gpWatchdog_of_late (en : s.rd (R.BUS_GP_CFG_EN c) = 1) (dir : s.rd (R.BUS_GP_CFG_DIR c) ≠ 1)
    (state : s.rd (R.BUS_GP_STAT_STATE c) = 1 ∨ s.rd (R.BUS_GP_STAT_STATE c) = 2)
    (late : msTicks (s.rd (R.BUS_GP_CFG_WDT c)) ≤ s.ticks - (s.conn c).last) : s.gpWatchdog c = s.gpFail c 1 :=
  if_pos (by rw [consumes_iff.mpr ⟨en, dir⟩, decide_eq_true state, decide_eq_true late]; rfl)

theorem gpWatchdog_of_not (h : s.rd (R.BUS_GP_CFG_EN c) ≠ 1 ∨ s.rd (R.BUS_GP_CFG_DIR c) = 1 ∨
    s.ticks - (s.conn c).last < msTicks (s.rd (R.BUS_GP_CFG_WDT c))) : s.gpWatchdog c = s := by
  refine if_neg fun runs => ?_
  simp only [Bool.and_eq_true, decide_eq_true_eq] at runs
  obtain ⟨⟨consumer, -⟩, late⟩ := runs
  obtain ⟨en, dir⟩ := consumes_iff.mp consumer
  rcases h with off | producer | early
  · exact off en
  · exact dir producer
  · exact Nat.not_lt.mpr late early

end

/-! ### What a producer sends (R253, R254, R256) -/

section
variable {s : State} {c : Nat}

/-- SEQ of the next PDU: 0 for the first since the start, then one higher each time. -/
def State.gpSeq (s : State) (c : Nat) : Nat := if (s.conn c).begun then (s.rd (R.BUS_GP_STAT_LAST_SEQ c) + 1) % 65536 else 0

/-- The next PDU without its CRC: LEN, SEQ, TS, WDT and DATA. -/
def State.gpBody (s : State) (c : Nat) : Bytes :=
  le 1 (s.rd (R.BUS_GP_CFG_LEN c)) ++ le 2 (s.gpSeq c) ++ le 4 (s.ticks % 2 ^ 32) ++ le 2 (s.rd (R.BUS_GP_CFG_WDT c)) ++
    le (s.rd (R.BUS_GP_CFG_LEN c)) (s.rd (R.BUS_GP_DATA_DATA c))

/-- The state in which the next PDU has been sent. -/
def State.gpSent (s : State) (c : Nat) : State :=
  (s.wrs [(R.BUS_GP_STAT_LAST_SEQ c, s.gpSeq c), (R.BUS_GP_STAT_LAST_TS c, s.ticks % 2 ^ 32)]).modConn c
    fun x => { x with begun := true, sentAt := s.ticks }

theorem gpPdu_eq (s : State) (c : Nat) :
    s.gpPdu c = (s.gpBody c ++ gpCrc (s.rd (R.BUS_GP_CFG_IDENT c)) (s.gpBody c), s.gpSent c) := rfl

theorem gpSent_fields (s : State) (c : Nat) :
    s.Fields [(R.BUS_GP_STAT_LAST_TS c, s.ticks % 2 ^ 32), (R.BUS_GP_STAT_LAST_SEQ c, s.gpSeq c)] (s.gpSent c) :=
  State.Fields.of_regs (u := s.wrs [(R.BUS_GP_STAT_LAST_SEQ c, s.gpSeq c), (R.BUS_GP_STAT_LAST_TS c, s.ticks % 2 ^ 32)])
    State.Fields.refl.wrs rfl

theorem gpSent_conn (s : State) (c : Nat) : (s.gpSent c).conn c = { s.conn c with begun := true, sentAt := s.ticks } :=
  (modConn_conn_same _).trans (by rw [conn_congr (State.wrs_bus _ _)])

theorem gpSent_frame (s : State) (c : Nat) : s.Frame [.regs, .bus] (s.gpSent c) :=
  State.modConn_frame (Covers.refl.sub rfl) (State.wrs_frame (Covers.refl.sub rfl) .refl)

/-- On the host transport the PDU leaves as GP_TX on the connection's channel. -/
theorem golposenSend_of_host (producer : s.produces c = true) (host : s.rd (R.BUS_GP_CFG_TRANSPORT c) = 2) : s.golposenSend c =
    (s.gpPdu c).2.eventOn (s.rd (R.BUS_GP_CFG_ADDR c) % 16) 0x4A (le 1 c ++ (s.gpPdu c).1) := by
  unfold State.golposenSend
  rw [producer]
  exact if_pos host

/-- GP_TX goes to that channel, and the connection remembers what it has sent. -/
theorem exec_golposenSend_of_host {c : Fin 16} (en : s.rd (R.BUS_GP_CFG_EN c) = 1) (dir : s.rd (R.BUS_GP_CFG_DIR c) = 1)
    (host : s.rd (R.BUS_GP_CFG_TRANSPORT c) = 2) {ch : Nat} (hch : ch = s.rd (R.BUS_GP_CFG_ADDR c) % 16) :
    ∃ t, exec (.golposenSend c) s = .next t ∧
    t.chan ch = raiseOn ch 0x4A (le 1 c ++ s.gpBody c ++ gpCrc (s.rd (R.BUS_GP_CFG_IDENT c)) (s.gpBody c)) (s.chan ch) ∧
    s.Fields [(R.BUS_GP_STAT_LAST_TS c, s.ticks % 2 ^ 32), (R.BUS_GP_STAT_LAST_SEQ c, s.gpSeq c)] t ∧
    t.conn c = { s.conn c with begun := true, sentAt := s.ticks } ∧ s.Frame [.regs, .spoke, .bus] t := by
  have sent := golposenSend_of_host (produces_iff.mpr ⟨en, dir⟩) host
  rw [gpPdu_eq, ← hch, ← List.append_assoc] at sent
  refine ⟨_, congrArg Host.Outcome.next sent, ?_, (gpSent_fields s c).of_regs rfl, gpSent_conn s c,
    State.eventOn_frame (Covers.refl.sub rfl) ((gpSent_frame s c).mono (Covers.refl.sub rfl))⟩
  have same : (s.gpSent c).chan ch = s.chan ch := chan_congr (State.wrs_spoke _ _) ch
  rw [← same]
  exact (State.modChan_chan ..).trans (if_pos rfl)

/-- On a running port of mode 3 the connection's request enters the send queue. -/
theorem golposenSend_of_client {p : Nat} (producer : s.produces c = true) (port : s.rd (R.BUS_GP_CFG_TRANSPORT c) = p) (bus : p < 2)
    (on : s.busOn p = true) (mode : s.rd (R.BUS_CFG_MODE p) = 3) : s.golposenSend c =
    (s.modBus p fun x => { x with send := x.send ++ [.gp c] }).modConn c fun x => { x with sentAt := s.ticks } := by
  unfold State.golposenSend
  rw [producer]
  dsimp only
  rw [port, if_neg (by decide), if_neg (by omega), on, if_neg (by decide), if_pos mode]

theorem golposenSend_of_not (h : s.rd (R.BUS_GP_CFG_EN c) ≠ 1 ∨ s.rd (R.BUS_GP_CFG_DIR c) ≠ 1) : s.golposenSend c = s := by
  have none_ : s.produces c = false := Bool.eq_false_iff.mpr fun producer => by
    obtain ⟨en, dir⟩ := produces_iff.mp producer
    exact h.elim (· en) (· dir)
  unfold State.golposenSend
  rw [none_]
  rfl

end

/-! ### What a connection receives (Table 9-5, R257, R259) -/

section
variable {s : State} {c rt : Nat} {b : Bytes}

theorem gpJudge_of_failed (failed : s.rd (R.BUS_GP_STAT_STATE c) = 3) : s.gpJudge c b rt = s := if_pos failed

/-- A PDU of another LEN or WDT than the connection's fails it. -/
theorem gpJudge_of_unlike (live : s.rd (R.BUS_GP_STAT_STATE c) ≠ 3)
    (unlike : u8 b 0 % 32 ≠ s.rd (R.BUS_GP_CFG_LEN c) ∨ u16 b 7 ≠ s.rd (R.BUS_GP_CFG_WDT c)) : s.gpJudge c b rt = s.gpFail c 3 :=
  (if_neg live).trans (if_pos unlike)

/-- The first PDU in STARTUP is accepted. -/
theorem gpJudge_of_startup (startup : s.rd (R.BUS_GP_STAT_STATE c) = 1) (len : u8 b 0 % 32 = s.rd (R.BUS_GP_CFG_LEN c))
    (wdt : u16 b 7 = s.rd (R.BUS_GP_CFG_WDT c)) :
    s.gpJudge c b rt = s.gpAccept c (u16 b 1) (u32 b 3) rt (sub b 9 (s.rd (R.BUS_GP_CFG_LEN c))) := by
  rw [← len]
  exact (if_neg (by omega)).trans ((if_neg (by simp [len, wdt])).trans (if_pos startup))

/-- In RUN the rows of Table 9-5 go by SEQ, then by TS and the delay. -/
theorem gpJudge_of_run (run : s.rd (R.BUS_GP_STAT_STATE c) = 2) (len : u8 b 0 % 32 = s.rd (R.BUS_GP_CFG_LEN c))
    (wdt : u16 b 7 = s.rd (R.BUS_GP_CFG_WDT c)) {d : Nat} {dt : Int}
    (hd : d = (u16 b 1 + 65536 - s.rd (R.BUS_GP_STAT_LAST_SEQ c)) % 65536)
    (hdt : dt = signed 32 (u32 b 3 + 2 ^ 32 - s.rd (R.BUS_GP_STAT_LAST_TS c))) :
    s.gpJudge c b rt = if d = 0 then s.wr (R.BUS_GP_STAT_REPEAT c) (min 255 (s.rd (R.BUS_GP_STAT_REPEAT c) + 1))
      else if 32768 ≤ d then s.wr (R.BUS_GP_STAT_OLD c) (min 255 (s.rd (R.BUS_GP_STAT_OLD c) + 1))
      else if s.rd (R.BUS_GP_CFG_LOSS_MAX c) + 1 < d then s.gpFail c 4
      else if dt ≤ 0 then s.gpFail c 5
      else if (s.rd (R.BUS_GP_CFG_DLY_MAX c) : Int) < ((rt : Int) - (s.conn c).last) - dt then
        s.wr (R.BUS_GP_STAT_DELAYED c) (min 255 (s.rd (R.BUS_GP_STAT_DELAYED c) + 1))
      else (s.wr (R.BUS_GP_STAT_LOST c) (min 255 (s.rd (R.BUS_GP_STAT_LOST c) + (d - 1)))).gpAccept c (u16 b 1) (u32 b 3) rt
        (sub b 9 (s.rd (R.BUS_GP_CFG_LEN c))) := by
  subst hd hdt
  rw [← len]
  exact (if_neg (by omega)).trans ((if_neg (by simp [len, wdt])).trans (if_neg (by omega)))

/-- The consumers that a PDU of a transport, and of a path where it has one, may be for. -/
def State.gpCandidates (s : State) (tr : Nat) (path : Option Nat) : List Nat :=
  (List.range 16).filter fun c => s.rd (R.BUS_GP_CFG_EN c) = 1 && s.rd (R.BUS_GP_CFG_DIR c) ≠ 1 &&
    s.rd (R.BUS_GP_CFG_TRANSPORT c) = tr && (path = none || path = some (s.rd (R.BUS_GP_CFG_ADDR c)))

theorem gpCandidates_eq (s : State) (tr : Nat) (path : Option Nat) : (((List.range 16).filter s.consumes).filter fun c =>
    s.rd (R.BUS_GP_CFG_TRANSPORT c) == tr && (path.isNone || path == some (s.rd (R.BUS_GP_CFG_ADDR c)))) = s.gpCandidates tr path := by
  unfold State.gpCandidates
  rw [List.filter_filter]
  refine List.filter_congr fun c _ => Bool.eq_iff_iff.mpr ?_
  simp only [Bool.and_eq_true, Bool.or_eq_true, decide_eq_true_eq, beq_iff_eq, consumes_iff, Option.isNone_iff_eq_none]
  tauto

/-- A PDU whose length is not that of its LEN counts as corrupt for every candidate. -/
theorem gpReceive_of_misfit {tr : Nat} {path : Option Nat} (misfit : 16 < u8 b 0 ∨ b.length ≠ 13 + u8 b 0) :
    s.gpReceive tr path b rt = s.each (s.gpCandidates tr path) State.gpCorrupt := by
  rw [← gpCandidates_eq]
  exact if_pos misfit

/-- A PDU whose CRC no consumer's IDENT explains counts as corrupt for every candidate, and as UNMATCHED on a port without any. -/
theorem gpReceive_of_unmatched {tr : Nat} {path : Option Nat} (short : u8 b 0 ≤ 16) (fits : b.length = 13 + u8 b 0)
    (strange : ∀ c ∈ List.range 16, s.consumes c = true →
      gpCrc (s.rd (R.BUS_GP_CFG_IDENT c)) (b.take (9 + u8 b 0)) ≠ sub b (9 + u8 b 0) 4) :
    s.gpReceive tr path b rt = if s.gpCandidates tr path = [] ∧ tr < 2 then
      s.wr (R.BUS_CNT_UNMATCHED tr) (min 0xFFFF (s.rd (R.BUS_CNT_UNMATCHED tr) + 1))
    else s.each (s.gpCandidates tr path) State.gpCorrupt := by
  have nobody : ((List.range 16).filter s.consumes).find? (fun c =>
      gpCrc (s.rd (R.BUS_GP_CFG_IDENT c)) (b.take (9 + u8 b 0)) == sub b (9 + u8 b 0) 4) = none := by
    refine List.find?_eq_none.mpr fun c hc => ?_
    obtain ⟨known, consumer⟩ := List.mem_filter.mp hc
    simpa using strange c known consumer
  rw [← gpCandidates_eq]
  unfold State.gpReceive
  dsimp only
  rw [if_neg (by omega), nobody]
  simp only [List.isEmpty_iff, count_eq]

/-- With no consumer at all, what comes from the host changes nothing. -/
theorem gpReceive_host_of_no_consumer {path : Option Nat} (nobody : ∀ n ∈ List.range 16, s.consumes n = false) :
    s.gpReceive 2 path b rt = s := by
  have none_ : s.gpCandidates 2 path = [] := by
    rw [← gpCandidates_eq, List.filter_eq_nil_iff.mpr fun n hn => Bool.eq_false_iff.mp (nobody n hn)]
    rfl
  by_cases fits : 16 < u8 b 0 ∨ b.length ≠ 13 + u8 b 0
  · rw [gpReceive_of_misfit fits, none_]
    rfl
  · rw [gpReceive_of_unmatched (by omega) (by omega) fun c hc consumer => absurd consumer (Bool.eq_false_iff.mp (nobody c hc)),
      none_, if_neg (by omega)]
    rfl

end

/-! ### REM_RUN (R261) -/

section
variable {s : State}

theorem b2n_eq_one_iff {b : Bool} : b2n b = 1 ↔ b = true := by cases b <;> decide

/-- The enabled consumers that may stop the plant. -/
theorem mem_stoppers_iff {c : Nat} : c ∈ ((List.range 16).filter fun c => s.consumes c && s.on (R.BUS_GP_CFG_PADSTOP c)) ↔
    c ∈ List.range 16 ∧ s.rd (R.BUS_GP_CFG_EN c) = 1 ∧ s.rd (R.BUS_GP_CFG_DIR c) ≠ 1 ∧ s.rd (R.BUS_GP_CFG_PADSTOP c) = 1 := by
  rw [List.mem_filter, Bool.and_eq_true, consumes_iff, State.on_iff, and_assoc]

theorem remRun_rd : s.remRun.rd R.BUS_STAT_REM_RUN = 1 ↔
    (∃ c ∈ List.range 16, s.rd (R.BUS_GP_CFG_EN c) = 1 ∧ s.rd (R.BUS_GP_CFG_DIR c) ≠ 1 ∧ s.rd (R.BUS_GP_CFG_PADSTOP c) = 1) ∧
    (∀ c ∈ List.range 16, s.rd (R.BUS_GP_CFG_EN c) = 1 → s.rd (R.BUS_GP_CFG_DIR c) ≠ 1 → s.rd (R.BUS_GP_CFG_PADSTOP c) = 1 →
      s.rd (R.BUS_GP_STAT_STATE c) = 2 ∧ s.rd (R.BUS_GP_DATA_DATA c) % 2 = 1) := by
  have runs : ∀ c, (s.rd (R.BUS_GP_STAT_STATE c) == 2 && bit (s.rd (R.BUS_GP_DATA_DATA c)) 0) = true ↔
      s.rd (R.BUS_GP_STAT_STATE c) = 2 ∧ s.rd (R.BUS_GP_DATA_DATA c) % 2 = 1 := fun c => by
    rw [Bool.and_eq_true, beq_iff_eq, bit, Nat.testBit_zero, decide_eq_true_eq]
  unfold State.remRun State.wrB
  dsimp only
  rw [State.wr_rd_same, b2n_eq_one_iff, Bool.and_eq_true, List.all_eq_true]
  simp only [runs, mem_stoppers_iff, and_imp, Bool.not_eq_true', List.isEmpty_eq_false_iff_exists_mem]

theorem remRun_rd_other {j : Nat} (h : j ≠ R.BUS_STAT_REM_RUN) : s.remRun.rd j = s.rd j := State.wr_rd_other _ _ h.symm

end

/-! ### What the opcodes read of a payload, and the replies they end with -/

section
variable {s u : State} {c : Cmd} {op : Nat}

/-- A byte between a front part and a rest. -/
theorem u8_middle {l a x : Bytes} {off v : Nat} (h : l = a ++ (le 1 v ++ x)) (front : a.length = off) (byte : v < 256) :
    u8 l off = v := by
  unfold u8
  rw [sub_middle h front (le_length 1 v), ofLe_le_of_lt byte]

/-- The byte behind a front part is the first of the rest. -/
theorem u8_behind {a x : Bytes} {off : Nat} (front : a.length = off) : u8 (a ++ x) off = u8 x 0 := by
  unfold u8 sub
  rw [List.drop_left' front, List.drop_zero]

/-- A command that checks its length first refuses another length. -/
theorem refuses_of_badLength {i : Instr} {n : Nat} {f : State → Ref → Bytes → State} {l : List (Bool × Nat)} (h : s.Ready c)
    (row : exec i s = .next (s.command c op f)) (checks : ∃ k, f (s.begin c op).2 (s.refOf c op) c.payload =
      (s.begin c op).2.checked (s.refOf c op) (lengthIs c.payload n :: l) k) (len : c.payload.length ≠ n) :
    s.Refuses i c op stBadLength := refuses_of_check h row checks (firstBad_of_badLength len l) (by decide)

/-- While no unit recovers, an answer adds nothing but the reply to what a command has changed. -/
theorem ok_frame_of_calm {l : List Part} {r : Ref} {extra : Bytes} (done : s.Frame l u) (calm : u.flt.recov = []) (hl : .spoke ∈ l) :
    s.Frame l (u.ok r extra) :=
  done.trans ((finish_frame_of_calm calm).mono fun _ hp => List.mem_singleton.mp hp ▸ hl)

/-- Work that changes nothing for any element changes nothing. -/
theorem each_of_fixed {α : Type} {f : State → α → State} {l : List α} (h : ∀ a ∈ l, f s a = s) : s.each l f = s := by
  induction l with
  | nil => rfl
  | cons a l ih =>
    obtain ⟨first, rest⟩ := List.forall_mem_cons.mp h
    show (f s a).each l f = s
    rw [first, ih rest]

/-- An event that no channel receives changes nothing (R84). -/
theorem event_of_unwanted {code : Nat} {b : Bytes} (h : ∀ n ∈ List.range 32, wants n code (s.chan n) = false) :
    s.event code b = s := each_of_fixed fun n hn => if_neg (by rw [h n hn]; exact Bool.false_ne_true)

/-- Starting a command changes nothing of what its channel receives. -/
theorem begin_wants (n code : Nat) : wants n code ((s.begin c op).2.chan n) = wants n code (s.chan n) := by
  unfold State.begin
  rw [State.modChan_chan]
  split
  · rename_i same
    rw [← same]
    rfl
  · rfl

end

/-! ### BUS_PORT_CTL (R243, R263, R265) -/

section
variable {s : State} {c : Cmd} {p v : Nat}

theorem busOnField_block (p : Nat) : busOnField p / 1024 = 0x4800 := by
  unfold busOnField
  split <;> decide

theorem busStart_of_off (off : s.busOn p = false) :
    s.busStart p = (s.wr (busOnField p) 1).modBus p fun _ => { spokeAt := s.ticks } :=
  if_neg (by rw [off]; exact Bool.false_ne_true)

/-- The consumers on a transport do not depend on which ports run. -/
theorem wr_busOnField_consumersOf (s : State) (p v : Nat) (f : BusPort → BusPort) (t : Nat) :
    ((s.wr (busOnField p) v).modBus p f).consumersOf t = s.consumersOf t := by
  have block := busOnField_block p
  unfold State.consumersOf
  refine List.filter_congr fun k _ => Bool.eq_iff_iff.mpr ?_
  rw [Bool.and_eq_true, Bool.and_eq_true, consumes_iff, consumes_iff, State.modBus_rd, State.modBus_rd, State.modBus_rd,
    State.wr_rd_other _ _ (by unfold R.BUS_GP_CFG_EN; omega), State.wr_rd_other _ _ (by unfold R.BUS_GP_CFG_DIR; omega),
    State.wr_rd_other _ _ (by unfold R.BUS_GP_CFG_TRANSPORT; omega)]

/-- With no command waiting in it and no consumer on it, a port that stops only starts afresh, off. -/
theorem busStop_of_idle (on : s.busOn p = true) (quiet : (s.busPort p).refs = []) (free : s.consumersOf p = []) :
    s.busStop p = (s.wr (busOnField p) 0).modBus p fun _ => {} := by
  unfold State.busStop
  rw [on, quiet, if_neg (by decide)]
  show State.each _ (State.consumersOf ((s.wr (busOnField p) 0).modBus p fun _ => {}) p) _ = _
  rw [wr_busOnField_consumersOf, free]
  rfl

theorem doBusPortCtl_eq (s : State) (c : Cmd) (op : Nat) : (s.begin c op).2.doBusPortCtl (s.refOf c op) c.payload =
    (s.begin c op).2.checked (s.refOf c op) [lengthIs c.payload 2, param (decide (1 < u8 c.payload 0 ∨ 1 < u8 c.payload 1 ∨
      u8 c.payload 1 = 1 ∧ s.rd (R.BUS_CFG_MODE (u8 c.payload 0)) = 0)), permitted (!s.on R.PWR_STAT_PFSEQ && !s.limp)] fun u =>
        (if u8 c.payload 1 = 1 then u.busStart (u8 c.payload 0) else u.busStop (u8 c.payload 0)).ok (s.refOf c op) := rfl

/-- The two bytes of BUS_PORT_CTL. -/
theorem portCtl_operands (payload : c.payload = le 1 p ++ le 1 v) (port : p < 256) (on : v < 256) :
    c.payload.length = 2 ∧ u8 c.payload 0 = p ∧ u8 c.payload 1 = v := by
  refine ⟨by rw [payload, List.length_append, le_length, le_length], u8_middle (a := []) payload rfl port, ?_⟩
  rw [payload, u8_behind (le_length 1 p), u8_le on]

/-- A BUS_PORT_CTL that passes its checks starts or stops its port. -/
theorem exec_busPortCtl (payload : c.payload = le 1 p ++ le 1 v) (port : p < 2) (on : v ≤ 1)
    (mode : v = 1 → s.rd (R.BUS_CFG_MODE p) ≠ 0) (calm : s.rd R.PWR_STAT_PFSEQ ≠ 1) (powered : s.limp = false) :
    exec (.busPortCtl c) s = .next ((if v = 1 then (s.begin c 0x48).2.busStart p else (s.begin c 0x48).2.busStop p).ok
      (s.refOf c 0x48)) := by
  obtain ⟨len, hp, hv⟩ := portCtl_operands payload (by omega) (by omega)
  have known : decide (1 < u8 c.payload 0 ∨ 1 < u8 c.payload 1 ∨
      u8 c.payload 1 = 1 ∧ s.rd (R.BUS_CFG_MODE (u8 c.payload 0)) = 0) = false := by
    rw [hp, hv]
    exact decide_eq_false (by omega)
  have permits : (!s.on R.PWR_STAT_PFSEQ && !s.limp) = true := by rw [on_eq_false_iff.mpr calm, powered]; rfl
  have good := (firstBad_of_length len _).trans ((firstBad_of_param known _).trans (firstBad_of_permitted permits []))
  show Host.Outcome.next ((s.begin c 0x48).2.doBusPortCtl (s.refOf c 0x48) c.payload) = _
  rw [doBusPortCtl_eq, checked_ok good, hp, hv]

/-- What a port control leaves once it has answered: its port and the field that says whether it runs. -/
theorem portCtl_effect (h : s.Ready c) (x : BusPort) : ∃ t,
    (((s.begin c 0x48).2.wr (busOnField p) v).modBus p fun _ => x).ok (s.refOf c 0x48) = t ∧ s.Answers c 0x48 stOk [] t ∧
    s.Fields [(busOnField p, v)] t ∧ t.busPort p = x ∧ t.bus.conns = s.bus.conns ∧ s.Frame [.regs, .spoke, .bus] t := by
  have started : s.Frame [.regs, .spoke, .bus] (s.begin c 0x48).2 := begin_frame_spoke.mono (Covers.refl.sub rfl)
  have calm : (s.begin c 0x48).2.flt.recov = [] := begin_calm h
  refine ⟨_, rfl, ok_answers h rfl calm, ?_, ?_, ?_, ?_⟩
  · exact State.Fields.of_regs (State.Fields.wr (State.Fields.refl.of_regs rfl)) (State.ok_regs _ _ _)
  · exact (busPort_congr (State.ok_bus _ _ _) p).trans (modBus_busPort_same _)
  · exact (congrArg Bus.conns (State.ok_bus _ _ _)).trans rfl
  · exact ok_frame_of_calm (State.modBus_frame (Covers.refl.sub rfl) (State.wr_frame (Covers.refl.sub rfl) started)) calm (by decide)

end

/-! ### BUS_TX (R265) -/

section
variable {s : State} {c : Cmd} {r : Ref} {b : Bytes}

/-- The host frames that wait in a port's send queue. -/
def BusPort.hostWaiting (x : BusPort) : Nat :=
  (x.send.filter fun e => match e with
    | .host _ => true
    | .gp _ => false).length

/-- The checks of BUS_TX in their order (R496). -/
def State.busTxChecks (s : State) (b : Bytes) : List (Bool × Nat) :=
  [(b.isEmpty, stBadLength), param (decide (1 < u8 b 0)),
    (decide (b.length < 4 ∨ (s.rd (R.BUS_CFG_MODE (u8 b 0)) = 1 ∧ 501 < b.length - 4) ∨
      (1 < s.rd (R.BUS_CFG_MODE (u8 b 0)) ∧ (b.length - 4 = 0 ∨ 253 < b.length - 4)) ∨
      (s.rd (R.BUS_CFG_MODE (u8 b 0)) = 0 ∧ 501 < b.length - 4)), stBadLength),
    param (decide (2 ≤ u8 b 1 ∨ (s.rd (R.BUS_CFG_MODE (u8 b 0)) = 1 ∧ u8 b 3 ≠ 5 ∧ u8 b 3 ≠ 6) ∨
      (s.rd (R.BUS_CFG_MODE (u8 b 0)) ≠ 1 ∧ bit (u8 b 1) 0 = true) ∨
      (1 < s.rd (R.BUS_CFG_MODE (u8 b 0)) ∧ (u8 b 4 = 0x41 ∨ u8 b 4 = 0x42)))),
    permitted (s.busOn (u8 b 0)), (decide (32 ≤ (s.busPort (u8 b 0)).hostWaiting), stQueueFull)]

theorem doBusTx_eq (s : State) (r : Ref) (b : Bytes) : s.doBusTx r b = s.checked r (s.busTxChecks b) fun s =>
    s.modBus (u8 b 0) fun x => { x with send := x.send ++ [.host ⟨r, bit (u8 b 1) 0, u8 b 2, u8 b 3, b.drop 4⟩] } := rfl

/-- The checks that stand before those of the frame itself pass for a Modbus frame of 1 to 253 bytes. -/
theorem busTxChecks_of_sized (long : 4 < b.length) (short : b.length ≤ 257) (port : u8 b 0 ≤ 1)
    (modbus : 2 ≤ s.rd (R.BUS_CFG_MODE (u8 b 0))) : firstBad (s.busTxChecks b) = firstBad
      [param (decide (2 ≤ u8 b 1 ∨ bit (u8 b 1) 0 = true ∨ u8 b 4 = 0x41 ∨ u8 b 4 = 0x42)), permitted (s.busOn (u8 b 0)),
        (decide (32 ≤ (s.busPort (u8 b 0)).hostWaiting), stQueueFull)] := by
  have some_ : b.isEmpty = false := List.isEmpty_eq_false_iff.mpr (List.ne_nil_of_length_pos (by omega))
  have known : decide (1 < u8 b 0) = false := decide_eq_false (by omega)
  generalize hm : s.rd (R.BUS_CFG_MODE (u8 b 0)) = m at modbus
  have sized : decide (b.length < 4 ∨ (m = 1 ∧ 501 < b.length - 4) ∨ (1 < m ∧ (b.length - 4 = 0 ∨ 253 < b.length - 4)) ∨
      (m = 0 ∧ 501 < b.length - 4)) = false := decide_eq_false (by omega)
  have frame : (2 ≤ u8 b 1 ∨ (m = 1 ∧ u8 b 3 ≠ 5 ∧ u8 b 3 ≠ 6) ∨ (m ≠ 1 ∧ bit (u8 b 1) 0 = true) ∨
      (1 < m ∧ (u8 b 4 = 0x41 ∨ u8 b 4 = 0x42))) ↔ 2 ≤ u8 b 1 ∨ bit (u8 b 1) 0 = true ∨ u8 b 4 = 0x41 ∨ u8 b 4 = 0x42 := by
    simp only [show m ≠ 1 by omega, show 1 < m by omega, not_false_eq_true, ne_eq, false_and, false_or, true_and]
  unfold State.busTxChecks
  rw [hm, some_, known, sized, firstBad_pass, firstBad_of_param rfl, firstBad_pass, decide_eq_decide.mpr frame]

/-- The bytes of a BUS_TX with FLAGS 0. -/
theorem busTx_operands {p dest ft : Nat} {d : Bytes} (payload : b = le 1 p ++ le 1 0 ++ le 1 dest ++ le 1 ft ++ d) (port : p < 2)
    (hd : dest < 256) (hf : ft < 256) : b.length = 4 + d.length ∧ u8 b 0 = p ∧ u8 b 1 = 0 ∧ u8 b 2 = dest ∧ u8 b 3 = ft ∧
      u8 b 4 = u8 d 0 ∧ b.drop 4 = d := by
  have four : (le 1 p ++ le 1 0 ++ le 1 dest ++ le 1 ft).length = 4 := rfl
  subst payload
  refine ⟨by rw [List.length_append, four], u8_middle (a := []) (x := le 1 0 ++ le 1 dest ++ le 1 ft ++ d) rfl rfl (by omega),
    u8_middle (a := le 1 p) (x := le 1 dest ++ le 1 ft ++ d) rfl rfl (by omega),
    u8_middle (a := le 1 p ++ le 1 0) (x := le 1 ft ++ d) rfl rfl hd,
    u8_middle (a := le 1 p ++ le 1 0 ++ le 1 dest) (x := d) rfl rfl hf, u8_behind four, List.drop_left' four⟩

/-- A Modbus frame for a running port with an empty send queue waits there for its turn. -/
theorem exec_busTx {p dest ft : Nat} {d : Bytes} (payload : c.payload = le 1 p ++ le 1 0 ++ le 1 dest ++ le 1 ft ++ d) (port : p < 2)
    (hd : dest < 256) (hf : ft < 256) (modbus : 2 ≤ s.rd (R.BUS_CFG_MODE p)) (some_ : d ≠ []) (short : d.length ≤ 253)
    (spoke : u8 d 0 ≠ 0x41) (golposen : u8 d 0 ≠ 0x42) (on : s.busOn p = true) (empty : (s.busPort p).send = []) :
    exec (.busTx c) s = .next ((s.begin c 0x49).2.modBus p fun x =>
      { x with send := x.send ++ [.host ⟨s.refOf c 0x49, false, dest, ft, d⟩] }) := by
  obtain ⟨len, hp, flags, h2, h3, h4, rest⟩ := busTx_operands payload port hd hf
  have long := List.length_pos_of_ne_nil some_
  have good : firstBad ((s.begin c 0x49).2.busTxChecks c.payload) = stOk := by
    show firstBad (s.busTxChecks c.payload) = stOk
    rw [busTxChecks_of_sized (by omega) (by omega) (by omega) (by rw [hp]; exact modbus), hp, flags, h4, on,
      firstBad_of_param (decide_eq_false (by simp [bit, spoke, golposen])), firstBad_of_permitted rfl,
      show (s.busPort p).hostWaiting = 0 by unfold BusPort.hostWaiting; rw [empty]; rfl]
    rfl
  show Host.Outcome.next ((s.begin c 0x49).2.doBusTx (s.refOf c 0x49) c.payload) = _
  rw [doBusTx_eq, checked_ok good, hp, flags, h2, h3, rest]
  rfl

/-- What BUS_TX refuses, with its status. -/
theorem busTx_refused (h : s.Ready c) : (c.payload = [] → s.Refuses (.busTx c) c 0x49 stBadLength) ∧
    (c.payload ≠ [] → 1 < u8 c.payload 0 → s.Refuses (.busTx c) c 0x49 stBadParam) ∧
    (4 < c.payload.length → c.payload.length ≤ 257 → u8 c.payload 0 ≤ 1 → 2 ≤ s.rd (R.BUS_CFG_MODE (u8 c.payload 0)) →
      u8 c.payload 4 = 0x41 ∨ u8 c.payload 4 = 0x42 → s.Refuses (.busTx c) c 0x49 stBadParam) ∧
    (4 < c.payload.length → c.payload.length ≤ 257 → u8 c.payload 0 ≤ 1 → u8 c.payload 1 = 0 → 2 ≤ s.rd (R.BUS_CFG_MODE (u8 c.payload 0)) →
      u8 c.payload 4 ≠ 0x41 → u8 c.payload 4 ≠ 0x42 → s.busOn (u8 c.payload 0) = false → s.Refuses (.busTx c) c 0x49 stNotPermitted) := by
  have refused {status : Nat} (bad : firstBad (s.busTxChecks c.payload) = status) (hne : status ≠ stOk) :
      s.Refuses (.busTx c) c 0x49 status := refuses_of_check h rfl ⟨_, doBusTx_eq _ _ _⟩ bad hne
  refine ⟨fun empty => refused ?_ (by decide), fun some_ unknown => refused ?_ (by decide),
    fun long short port modbus service => refused ?_ (by decide),
    fun long short port flags modbus spoke golposen off => refused ?_ (by decide)⟩
  · rw [empty]
    rfl
  · unfold State.busTxChecks
    rw [List.isEmpty_eq_false_iff.mpr some_, firstBad_pass, firstBad_of_badParam (decide_eq_true unknown)]
  · rw [busTxChecks_of_sized long short port modbus]
    exact firstBad_of_badParam (decide_eq_true (.inr (.inr service))) _
  · rw [busTxChecks_of_sized long short port modbus, flags,
      firstBad_of_param (decide_eq_false (by simp [bit, spoke, golposen])), firstBad_of_forbidden off]

end

/-! ### BUS_GP_RESTART (R260, R265) -/

section
variable {s : State} {c : Cmd} {k : Nat}

/-- Whether a command comes from the hub's own tasks. -/
def ownTask (c : Cmd) : Bool := decide (24 ≤ c.ch.val ∧ c.ch.val ≤ 30)

/-- Whether a mask names a connection that may stop the plant. -/
def State.namesStopper (s : State) (mask : Nat) : Bool := (List.range 16).any fun k => bit mask k && s.on (R.BUS_GP_CFG_PADSTOP k)

/-- The connections of a mask that BUS_GP_RESTART restarts: producers, and consumers that have failed. -/
def State.restarts (s : State) (mask : Nat) : List Nat := (List.range 16).filter fun k => bit mask k &&
  (s.produces k || (s.consumes k && s.rd (R.BUS_GP_STAT_STATE k) == 3))

theorem doBusGpRestart_eq (s : State) (c : Cmd) (op : Nat) : (s.begin c op).2.doBusGpRestart (s.refOf c op) c.payload =
    (s.begin c op).2.checked (s.refOf c op) [lengthIs c.payload 2, param (u16 c.payload 0 == 0),
      permitted (ownTask c || !s.namesStopper (u16 c.payload 0))] fun u =>
        (u.each (u.restarts (u16 c.payload 0)) State.gpStart).ok (s.refOf c op)
          (le 2 (maskOf 16 fun k => (u.restarts (u16 c.payload 0)).contains k)) := rfl

theorem namesStopper_iff {mask : Nat} : s.namesStopper mask = true ↔
    ∃ k ∈ List.range 16, bit mask k = true ∧ s.rd (R.BUS_GP_CFG_PADSTOP k) = 1 := by
  unfold State.namesStopper
  simp only [List.any_eq_true, Bool.and_eq_true, State.on_iff]

theorem bit_two_pow {k i : Nat} : bit (2 ^ k) i = true ↔ k = i := by
  unfold bit
  rw [Nat.testBit_two_pow, decide_eq_true_eq]

/-- A mask that names one failed consumer alone restarts that one. -/
theorem restarts_of_failed (known : k < 16) (en : s.rd (R.BUS_GP_CFG_EN k) = 1) (dir : s.rd (R.BUS_GP_CFG_DIR k) ≠ 1)
    (failed : s.rd (R.BUS_GP_STAT_STATE k) = 3) : s.restarts (2 ^ k) = [k] := by
  have named : ∀ i ∈ List.range 16, (bit (2 ^ k) i && (s.produces i || (s.consumes i && s.rd (R.BUS_GP_STAT_STATE i) == 3))) =
      decide (i = k) := fun i _ => by
    rcases eq_or_ne i k with rfl | other
    · rw [bit_two_pow.mpr rfl, consumes_iff.mpr ⟨en, dir⟩, beq_iff_eq.mpr failed, Bool.and_true, Bool.or_true, decide_eq_true rfl]
      rfl
    · rw [Bool.eq_false_iff.mpr fun same => other (bit_two_pow.mp same).symm, decide_eq_false other]
      rfl
  unfold State.restarts
  rw [List.filter_congr named, List.filter_eq, List.count_eq_one_of_mem List.nodup_range (List.mem_range.mpr known)]
  rfl

theorem maskOf_singleton : ∀ k < 16, (maskOf 16 fun i => [k].contains i) = 2 ^ k := by decide

/-- A consumer that starts goes to STARTUP, with its times counted from now. -/
theorem gpStart_of_consumer (dir : s.rd (R.BUS_GP_CFG_DIR k) ≠ 1) :
    s.gpStart k = (s.modConn k fun _ => { last := s.ticks, sentAt := s.ticks }).gpState k 1 0 :=
  if_neg (by rw [State.modConn_on, on_eq_false_iff.mpr dir]; exact Bool.false_ne_true)

/-- STATE and WHY after a consumer has changed its state, but not to RUN. -/
theorem gpState_rd_told {w : Nat} {n : Nat} (consumer : s.rd (R.BUS_GP_CFG_DIR k) ≠ 1) (moves : s.rd (R.BUS_GP_STAT_STATE k) ≠ n)
    (silent : n ≠ 2) : (s.gpState k n w).rd (R.BUS_GP_STAT_STATE k) = n ∧ (s.gpState k n w).rd (R.BUS_GP_STAT_WHY k) = w := by
  obtain ⟨-, fields, -⟩ := gpState_effect (w := w) consumer moves silent
  constructor <;> rw [fields] <;> simp only [mget?, beq_iff_eq] <;>
    dsimp only [R.BUS_GP_DATA_DATA, R.BUS_STAT_GP_FAILED, R.BUS_STAT_GP_RUN, R.BUS_GP_STAT_WHY, R.BUS_GP_STAT_STATE]
  · rw [if_neg (by omega), if_neg (by omega), if_neg (by omega), if_neg (by omega), if_pos trivial, Option.getD_some]
  · rw [if_neg (by omega), if_neg (by omega), if_neg (by omega), if_pos trivial, Option.getD_some]

/-- A failed consumer that starts, before its new state is told. -/
theorem gpStart_of_failed (dir : s.rd (R.BUS_GP_CFG_DIR k) ≠ 1) (failed : s.rd (R.BUS_GP_STAT_STATE k) = 3) :
    ∃ u, u = s.modConn k (fun _ => { last := s.ticks, sentAt := s.ticks }) ∧ s.gpStart k = u.gpState k 1 0 ∧
      u.rd (R.BUS_GP_CFG_DIR k) ≠ 1 ∧ u.rd (R.BUS_GP_STAT_STATE k) ≠ 1 :=
  ⟨_, rfl, gpStart_of_consumer dir, dir, by rw [State.modConn_rd, failed]; decide⟩

theorem gpStart_told (dir : s.rd (R.BUS_GP_CFG_DIR k) ≠ 1) (failed : s.rd (R.BUS_GP_STAT_STATE k) = 3) :
    (s.gpStart k).rd (R.BUS_GP_STAT_STATE k) = 1 ∧ (s.gpStart k).rd (R.BUS_GP_STAT_WHY k) = 0 ∧
      (s.gpStart k).conn k = { last := s.ticks, sentAt := s.ticks } := by
  obtain ⟨u, hu, starts, dir, moves⟩ := gpStart_of_failed dir failed
  obtain ⟨state, why⟩ := gpState_rd_told (w := 0) dir moves (by decide)
  rw [starts]
  refine ⟨state, why, (conn_congr (State.gpState_frame Covers.refl .refl .bus (by decide)) k).trans ?_⟩
  rw [hu, modConn_conn_same]

/-- Where no channel receives GP_STATE, a consumer that starts leaves the channels. -/
theorem gpStart_spoke (dir : s.rd (R.BUS_GP_CFG_DIR k) ≠ 1) (failed : s.rd (R.BUS_GP_STAT_STATE k) = 3)
    (unheard : ∀ n ∈ List.range 32, wants n 0x49 (s.chan n) = false) : (s.gpStart k).spoke = s.spoke := by
  obtain ⟨u, hu, starts, dir, moves⟩ := gpStart_of_failed dir failed
  have told : ((u.gpTold k 1 0).wr (R.BUS_GP_DATA_DATA k) 0).spoke = s.spoke := by
    rw [State.wr_spoke, State.gpTold, State.wrs_spoke, hu, State.modConn_spoke]
  rw [starts, gpState_of_consumer dir moves (by decide), event_of_unwanted fun n hn => ?_, told]
  rw [chan_congr told, unheard n hn]

/-- A restart of one failed consumer. -/
theorem exec_busGpRestart (payload : c.payload = le 2 (2 ^ k)) (known : k < 16) (en : s.rd (R.BUS_GP_CFG_EN k) = 1)
    (dir : s.rd (R.BUS_GP_CFG_DIR k) ≠ 1) (failed : s.rd (R.BUS_GP_STAT_STATE k) = 3)
    (allowed : s.rd (R.BUS_GP_CFG_PADSTOP k) ≠ 1 ∨ 24 ≤ c.ch.val ∧ c.ch.val ≤ 30) :
    exec (.busGpRestart c) s = .next (((s.begin c 0x4A).2.gpStart k).ok (s.refOf c 0x4A) (le 2 (2 ^ k))) := by
  have mask : u16 c.payload 0 = 2 ^ k := by
    rw [payload, u16_le ((Nat.pow_lt_pow_right (by decide) known).trans_le (by decide))]
  have permits : (ownTask c || !s.namesStopper (2 ^ k)) = true := by
    rw [Bool.or_eq_true, Bool.not_eq_true', Bool.eq_false_iff, Ne, namesStopper_iff]
    refine allowed.symm.imp (fun own => decide_eq_true own) ?_
    rintro free ⟨i, -, same, stop⟩
    obtain rfl := bit_two_pow.mp same
    exact free stop
  have started : (s.begin c 0x4A).2.restarts (2 ^ k) = [k] := restarts_of_failed known en dir failed
  show Host.Outcome.next ((s.begin c 0x4A).2.doBusGpRestart (s.refOf c 0x4A) c.payload) = _
  rw [doBusGpRestart_eq, mask, checked_ok ((firstBad_of_length (by rw [payload, le_length]) _).trans
    ((firstBad_of_param (by simp) _).trans (firstBad_of_permitted permits []))), started, maskOf_singleton k known]
  rfl

/-- The connection is in STARTUP, with its times counted from now, and the mask of what restarted is answered. -/
theorem busGpRestart_effect (h : s.Ready c) (dir : s.rd (R.BUS_GP_CFG_DIR k) ≠ 1) (failed : s.rd (R.BUS_GP_STAT_STATE k) = 3)
    (unheard : ∀ n ∈ List.range 32, wants n 0x49 (s.chan n) = false) (extra : Bytes) : ∃ t,
    ((s.begin c 0x4A).2.gpStart k).ok (s.refOf c 0x4A) extra = t ∧ s.Answers c 0x4A stOk extra t ∧
    t.rd (R.BUS_GP_STAT_STATE k) = 1 ∧ t.rd (R.BUS_GP_STAT_WHY k) = 0 ∧ t.conn k = { last := s.ticks, sentAt := s.ticks } ∧
    s.Frame [.regs, .spoke, .bus] t := by
  have started : s.Frame [.regs, .spoke, .bus] ((s.begin c 0x4A).2.gpStart k) :=
    State.gpStart_frame Covers.refl (begin_frame_spoke.mono (Covers.refl.sub rfl))
  have calm : ((s.begin c 0x4A).2.gpStart k).flt.recov = [] := (congrArg Flt.recov (started .flt (by decide))).trans h.calm
  have silent : ((s.begin c 0x4A).2.gpStart k).spoke = (s.begin c 0x4A).2.spoke :=
    gpStart_spoke dir failed fun n hn => (begin_wants n _).trans (unheard n hn)
  obtain ⟨state, why, conn⟩ := gpStart_told (s := (s.begin c 0x4A).2) dir failed
  exact ⟨_, rfl, ok_answers h silent calm, (State.ok_rd _ _ _ _).trans state, (State.ok_rd _ _ _ _).trans why,
    (conn_congr (State.ok_bus _ _ _) k).trans conn, ok_frame_of_calm started calm (by decide)⟩

end

/-! ### BUS_GP_PDU and BUS_SAVE (R265) -/

section
variable {s : State} {c : Cmd}

/-- A PDU from the host that finds no consumer is taken without effect. -/
theorem exec_busGpPdu_of_no_consumer (long : 13 ≤ c.payload.length) (short : c.payload.length ≤ 29) (host : c.ch.val ≤ 15)
    (nobody : ∀ n ∈ List.range 16, s.consumes n = false) :
    exec (.busGpPdu c) s = .next ((s.begin c 0x4B).2.ok (s.refOf c 0x4B)) := by
  have nobody' : ∀ n ∈ List.range 16, (s.begin c 0x4B).2.consumes n = false := nobody
  show Host.Outcome.next ((s.begin c 0x4B).2.doBusGpPdu (s.refOf c 0x4B) c.payload) = _
  unfold State.doBusGpPdu
  rw [checked_pass (decide_eq_false (by omega)),
    checked_ok (firstBad_of_permitted (ok := decide ((s.refOf c 0x4B).ch ≤ 15)) (decide_eq_true host) []),
    gpReceive_host_of_no_consumer nobody']

theorem exec_busSave (h : c.payload = []) : exec (.busSave c) s = .next (((s.begin c 0x4C).2.accepted (s.refOf c 0x4C)).hayAsk 249
    (.save (some (s.refOf c 0x4C)) [] [(0x62, s.attrImage busAttrs)])) := by
  show Host.Outcome.next ((s.begin c 0x4C).2.doBusSave (s.refOf c 0x4C) c.payload) = _
  unfold State.doBusSave
  rw [h, checked_ok rfl, begin_attrImage]
  rfl

end

/-- Settles O49, clause by clause: the port's events, the connections and the judgement of what they receive, REM_RUN, the opcodes. -/
theorem busPorts : Obligations.BusPorts := by
  unfold Obligations.BusPorts
  refine ⟨fun s p d e on low => ?frameEnd,
    fun s p d e deaf => ⟨congrArg Host.Outcome.next (busFrameEnd_of_not deaf), congrArg Host.Outcome.next (busOverflow_of_not deaf)⟩,
    fun s p d on low => ?overflow, fun s p o d on mode out due empty => ?timeout, fun s p o d f rest on mode out due next => ?nextRequest,
    fun s p h => exec_modbusClientTimeout_of_not h, fun s p src n expected => ?postponed,
    fun s p none_ => congrArg Host.Outcome.next (mstpPostpone_of_none none_),
    fun s p on mode _ => ⟨_, rfl, congrArg Host.Outcome.next (mstpTokenLost_of_node on mode)⟩,
    fun s p h => congrArg Host.Outcome.next (mstpTokenLost_of_not h), fun s p => ?stream,
    fun s p f rest leaves => ⟨_, rfl, congrArg Host.Outcome.next ((busTxDone_of_cons leaves).trans ?txDone)⟩,
    fun s p idle => congrArg Host.Outcome.next (busTxDone_of_nil idle), fun s n en dir host => ?gpTx,
    fun s n p en dir port bus on mode => ?gpRequest, fun s n h => congrArg Host.Outcome.next (golposenSend_of_not h),
    fun s n en dir state late => ?watchdog, fun s n h => congrArg Host.Outcome.next (gpWatchdog_of_not h),
    fun s c w k consumer moves _ silent => ⟨_, rfl, gpState_effect consumer moves silent⟩,
    fun s c b rt seq ts d dt hseq hts hd hdt run len wdt => ?judged,
    fun s c b rt => ⟨gpJudge_of_failed, gpJudge_of_unlike, gpJudge_of_startup⟩, fun s tr path b rt cand hcand => ?received,
    fun s => ⟨State.remRun_frame Covers.refl .refl, fun k other => remRun_rd_other other, remRun_rd⟩,
    fun s c p ready payload port mode off calm powered => ?starts,
    fun s c p ready payload port free quiet calm powered on => ?stops, fun s c ready => ?portCtlRefused,
    fun s c p dest ft d ready payload port hdest hft modbus some_ short spoke golposen on empty => ?busTx,
    fun s c ready => busTx_refused ready, fun s c k ready payload known en dir failed allowed unheard => ?restart,
    fun s c ready => ?restartRefused, fun s c ready long short host nobody => ?pdu, fun s c ready => ?pduRefused,
    fun s c ready empty gate => ?save,
    fun s c ready some_ => refuses_of_badLength ready rfl ⟨_, rfl⟩ (mt List.length_eq_zero_iff.mp some_)⟩
  case frameEnd =>
    exact ⟨_, congrArg Host.Outcome.next (busFrameEnd_of_hears on low), modBus_busPort_same _,
      (State.modBus_busPort ..).trans (if_neg (by omega)), rfl, State.modBus_frame Covers.refl .refl⟩
  case overflow =>
    obtain ⟨u, hu, discarded⟩ := busDiscard_eq s p (R.BUS_CNT_OVERFLOW p)
    exact ⟨u, hu, congrArg Host.Outcome.next ((busOverflow_of_hears on low).trans
      (congrArg (fun v => State.fault v clNote 0x48 0 0 0) discarded))⟩
  case timeout =>
    have port := modbusTimeout_busPort out due
    have runs := exec_modbusClientTimeout_of_due on mode out due
    rw [modbusNext_of_empty (by rw [port]) (by rw [port, empty])] at runs
    exact ⟨_, runs, port, modbusTimeout_effect out due⟩
  case nextRequest =>
    have port := modbusTimeout_busPort out due
    have kind := (modbusTimeout_rd_mode out due).trans mode
    have line : (s.modbusTimeout p).hostFrame p f = modbusFrame f.dest f.data := if_neg (by rw [kind]; decide)
    refine ⟨_, exec_modbusClientTimeout_of_due on mode out due, ?_⟩
    rw [modbusNext_of_host (by rw [port]) (by rw [port, next]), line, busTransmit_busPort, modBus_busPort_same, port]
  case postponed =>
    exact ⟨_, congrArg Host.Outcome.next (mstpPostpone_of_expected expected), (busTransmit_busPort _ _).trans
      (by rw [modBus_busPort_same]), State.busTransmit_frame Covers.refl (State.modBus_frame Covers.refl .refl)⟩
  case stream =>
    refine ⟨_, rfl, State.busPartial_frame Covers.refl .refl, fun h => h.elim busPartial_of_young busPartial_of_empty,
      fun old _ => busPartial_of_old old⟩
  case txDone => cases f.cmd <;> rfl
  case gpTx =>
    exact ⟨s.gpSeq n, rfl, s.gpBody n, rfl, _, rfl, exec_golposenSend_of_host en dir host rfl⟩
  case gpRequest =>
    exact ⟨_, congrArg Host.Outcome.next (golposenSend_of_client (produces_iff.mpr ⟨en, dir⟩) port bus on mode),
      (modConn_busPort _).trans (modBus_busPort_same _), modConn_conn_same _,
      State.modConn_frame Covers.refl (State.modBus_frame Covers.refl .refl)⟩
  case watchdog =>
    exact congrArg Host.Outcome.next ((gpWatchdog_of_late en dir state late).trans (gpFail_of_live (by omega)))
  case judged =>
    subst hseq hts
    exact gpJudge_of_run run len wdt hd hdt
  case received =>
    subst hcand
    exact ⟨gpReceive_of_misfit, gpReceive_of_unmatched⟩
  case starts =>
    have runs := exec_busPortCtl payload port (le_refl 1) (fun _ => mode) calm powered
    rw [if_pos rfl, busStart_of_off (show (s.begin c 0x48).2.busOn p = false from off)] at runs
    obtain ⟨t, ht, effect⟩ := portCtl_effect (p := p) (v := 1) ready { spokeAt := s.ticks }
    exact ⟨t, ht ▸ runs, effect⟩
  case stops =>
    have runs := exec_busPortCtl payload port (Nat.zero_le 1) (fun h => absurd h (by decide)) calm powered
    rw [if_neg (by decide), busStop_of_idle (s := (s.begin c 0x48).2) on quiet free] at runs
    obtain ⟨t, ht, answers, fields, stopped, -, frame⟩ := portCtl_effect (p := p) (v := 0) ready {}
    exact ⟨t, ht ▸ runs, answers, fields, stopped, frame⟩
  case portCtlRefused =>
    exact ⟨refuses_of_badLength ready rfl ⟨_, doBusPortCtl_eq s c 0x48⟩,
      fun len bad => refuses_of_check ready rfl ⟨_, doBusPortCtl_eq s c 0x48⟩
      ((firstBad_of_length len _).trans (firstBad_of_badParam (decide_eq_true bad) _)) (by decide)⟩
  case busTx =>
    refine ⟨_, exec_busTx payload port hdest hft modbus some_ short spoke golposen on empty, holds_of_begin ready rfl,
      (modBus_busPort_same _).trans ?_, State.modBus_frame (Covers.refl.sub rfl) (begin_frame_spoke.mono (Covers.refl.sub rfl))⟩
    rw [show (s.begin c 0x49).2.busPort p = s.busPort p from rfl, empty, List.nil_append]
  case restart =>
    obtain ⟨t, ht, effect⟩ := busGpRestart_effect ready dir failed unheard (le 2 (2 ^ k))
    exact ⟨t, ht ▸ exec_busGpRestart payload known en dir failed allowed, effect⟩
  case restartRefused =>
    refine ⟨refuses_of_badLength ready rfl ⟨_, doBusGpRestart_eq s c 0x4A⟩, fun zero => ?_, fun len named stops other => ?_⟩
    · refine refuses_of_check ready rfl ⟨_, doBusGpRestart_eq s c 0x4A⟩ ?_ (by decide)
      rw [zero]
      rfl
    · have outside : (ownTask c || !s.namesStopper (u16 c.payload 0)) = false := by
        rw [namesStopper_iff.mpr stops, ownTask, decide_eq_false (by omega)]
        rfl
      exact refuses_of_check ready rfl ⟨_, doBusGpRestart_eq s c 0x4A⟩ ((firstBad_of_length len _).trans
        ((firstBad_of_param (beq_eq_false_iff_ne.mpr named) _).trans (firstBad_of_forbidden outside []))) (by decide)
  case pdu =>
    exact ⟨_, exec_busGpPdu_of_no_consumer long short host nobody, ok_answers ready rfl (begin_calm ready), reply_frame ready⟩
  case pduRefused =>
    refine ⟨fun size => ?_, fun long short other => ?_⟩
    · exact refuses_of_check ready rfl ⟨_, rfl⟩ (by rw [decide_eq_true size, firstBad_fail]) (by decide)
    · exact refuses_of_check ready rfl ⟨_, rfl⟩ (by
        rw [decide_eq_false (by omega), firstBad_pass]
        exact firstBad_of_forbidden (decide_eq_false (Nat.not_le.mpr other)) []) (by decide)
  case save =>
    obtain ⟨t, asked, rest⟩ := accepted_save_effect (objs := [(0x62, s.attrImage busAttrs)]) ready gate
    exact ⟨t, asked ▸ exec_busSave empty, rest⟩

end Sys2Proof.Machine
end

section
/-!
PROOFS. What the words, the numbers and the memories of a stall hold (R297 to R300, R322, 11_stable_engine.md, 12_stable_scratchpad.md):
the fields of an operation's word, the steps of an activation function, and what a unit reads after a write has landed.
-/

namespace Sys2Proof.Machine

/-! ### The word of an operation (R300) -/

section
variable {opc : Nat} {w : BitVec 32}

/-- The bits below OPC are those of the row. -/
theorem testBit_opWord {i : Nat} (h : i < 28) : (opWord opc w).testBit i = w.toNat.testBit i := by
  rw [opWord, Nat.add_comm, Nat.testBit_two_pow_mul_add _ (Nat.mod_lt _ (by decide)), if_pos h, Nat.testBit_mod_two_pow,
    decide_eq_true h, Bool.true_and]

@[simp] theorem bit_opWord {i : Nat} (h : i < 28) : bit (opWord opc w) i = bit w.toNat i := testBit_opWord h

@[simp] theorem bits_opWord {lo n : Nat} (h : lo + n ≤ 28) : bits (opWord opc w) lo n = bits w.toNat lo n := by
  refine Nat.eq_of_testBit_eq fun i => ?_
  simp only [bits, Nat.testBit_mod_two_pow, Nat.testBit_shiftRight]
  by_cases hi : i < n
  · rw [testBit_opWord (by omega)]
  · simp [hi]

@[simp] theorem opN_opWord : opN (opWord opc w) = opN w.toNat := bits_opWord (by decide)

@[simp] theorem opRing_opWord : opRing (opWord opc w) = opRing w.toNat := bits_opWord (by decide)

@[simp] theorem opK_opWord : opK (opWord opc w) = opK w.toNat := congrArg (· + 1) (bits_opWord (by decide))

end

theorem opN_lt (w : Nat) : opN w < 4096 := Nat.mod_lt _ (by decide)

theorem opRing_lt (w : Nat) : opRing w < 16 := Nat.mod_lt _ (by decide)

theorem opK_pos (w : Nat) : 0 < opK w := Nat.succ_pos _

theorem opK_le (w : Nat) : opK w ≤ 8 := Nat.succ_le_of_lt (Nat.mod_lt _ (by decide))

/-! ### Activation functions (R299) -/

/-- Saturation is a minimum and a maximum. -/
theorem clamp_eq_max_min {lo hi : Int} (h : lo ≤ hi) (v : Int) : clamp lo hi v = max lo (min hi v) := by
  unfold clamp
  split
  · omega
  · split <;> omega

/-- Division by a positive number rounds down. -/
theorem fdiv_two_pow (a : Int) (n : Nat) : fdiv a (2 ^ n) = a / 2 ^ n := by
  unfold fdiv
  rw [Int.fdiv_eq_ediv_of_nonneg _ (by positivity)]
  push_cast
  rfl

/-- The scaled sum, saturated to 12 bits: what FN is applied to. -/
theorem activate_eq (sh : Nat) (x : Int) : ∃ y : Int, y = (if sh = 0 then x else (x + 2 ^ (sh - 1)) / 2 ^ sh) ∧
    ∃ z : Int, z = max (-2048) (min 2047 y) ∧ (activate 0 sh x = z) ∧ (activate 1 sh x = max 0 z) ∧
      (activate 2 sh x = max 0 (min 1536 z)) ∧ (activate 3 sh x = sigmoid z) ∧ (activate 4 sh x = tanhFix z) := by
  have scaled : (if sh = 0 then x else fdiv (x + 2 ^ (sh - 1)) (2 ^ sh)) =
      (if sh = 0 then x else (x + 2 ^ (sh - 1)) / 2 ^ sh) := by
    rw [fdiv_two_pow]
  refine ⟨_, rfl, _, rfl, ?_⟩
  rw [← clamp_eq_max_min (by decide), ← clamp_eq_max_min (by decide), ← scaled]
  exact ⟨rfl, rfl, rfl, rfl, rfl⟩

/-! ### A unit after a write (R322, R338) -/

section
variable {x : Stall} {m : StallMem}

/-- Writing bytes leaves every byte outside them as it was. -/
theorem mget?_putRaw (b : Bytes) : ∀ (c : List Host.Cell) (a j : Nat),
    mget? (putRaw c a b) j = if a ≤ j ∧ j < a + b.length then b[j - a]? else mget? c j := by
  induction b with
  | nil => intro c a j; rw [if_neg (by simp)]; rfl
  | cons v rest ih =>
    intro c a j
    rw [putRaw, ih, mget?_mins, List.length_cons]
    obtain lt | rfl | gt := Nat.lt_trichotomy j a
    · rw [if_neg (by omega), if_neg (by omega), if_neg (by omega)]
    · rw [if_neg (by omega), if_pos rfl, if_pos (by omega), Nat.sub_self]
      rfl
    · rw [if_neg (show ¬ a = j by omega), show j - a = j - (a + 1) + 1 by omega, List.getElem?_cons_succ]
      exact if_congr (by omega) rfl rfl

@[simp] theorem cells_setCells (x : Stall) (m : StallMem) (c : List Host.Cell) : (x.setCells m c).cells m = c := by cases m <;> rfl

/-- New parity and check bits leave the contents of every memory as they are. -/
@[simp] theorem byteAt_regenerate (x : Stall) (m n : StallMem) (a l q j : Nat) :
    (x.regenerate m a l).byteAt q n j = x.byteAt q n j := by
  cases m <;> rfl

theorem byteAt_putBytes (q a j : Nat) (b : Bytes) : (x.putBytes m a b).byteAt q m j =
    if a ≤ j ∧ j < a + b.length then b.getD (j - a) 0 else x.byteAt q m j := by
  rw [Stall.putBytes, byteAt_regenerate]
  have epochs : ∀ c, (x.setCells m c).epoch = x.epoch ∧ (x.setCells m c).epoch7 = x.epoch7 := fun c => by cases m <;> exact ⟨rfl, rfl⟩
  simp only [Stall.byteAt, epochs, cells_setCells, mget?_putRaw]
  split
  · rename_i inside
    have : j - a < b.length := by omega
    simp [List.getD, this]
  · rfl

/-- The bytes of the unit written are those of its value. -/
theorem bytesAt_putUnit_same (q u v : Nat) :
    (x.putUnit m u v).bytesAt q m (unitBytes m * u) (unitBytes m) = le (unitBytes m) v := by
  refine List.ext_getElem (by simp [Stall.bytesAt]) fun i h _ => ?_
  have inside : i < unitBytes m := by simpa [Stall.bytesAt] using h
  simp [Stall.bytesAt, Stall.putUnit, byteAt_putBytes, inside, List.getD]

theorem bytesAt_putUnit_other {q u j v : Nat} (h : j ≠ u) :
    (x.putUnit m u v).bytesAt q m (unitBytes m * j) (unitBytes m) = x.bytesAt q m (unitBytes m * j) (unitBytes m) := by
  refine List.map_congr_left fun i hi => ?_
  have inside : i < unitBytes m := List.mem_range.mp hi
  have apart : unitBytes m * j + unitBytes m ≤ unitBytes m * u ∨ unitBytes m * u + unitBytes m ≤ unitBytes m * j := by
    obtain lt | gt := Nat.lt_or_gt_of_ne h
    · exact .inl (Nat.mul_le_mul_left (unitBytes m) lt)
    · exact .inr (Nat.mul_le_mul_left (unitBytes m) gt)
  rw [Stall.putUnit, byteAt_putBytes, le_length, if_neg (by omega)]

end

end Sys2Proof.Machine
end

section
/-!
PROOFS. The state of a stall under an operation (R301, R302, R308, R309, R312, R324, R326, R338): what each update of a stall, a task, a
ring or a field leaves alone, what a tile's end and a task fault do, and how a stall passes its cycles until its operation has ended.
-/

namespace Sys2Proof.Machine

section
variable {s t b : State} {q k r n c : Nat}

/-! ### Stalls, tasks and rings -/

/-- Two states with the same Stable have the same stalls. -/
theorem stall_congr (h : t.stb = s.stb) (n : Nat) : t.stall n = s.stall n := by unfold State.stall; rw [h]

theorem rd_congr (h : t.regs = s.regs) (k : Nat) : t.rd k = s.rd k := by unfold State.rd; rw [h]

@[simp] theorem State.wr_stall (s : State) (r v n : Nat) : (s.wr r v).stall n = s.stall n := rfl

@[simp] theorem State.modStall_same (s : State) (q : Nat) (f : Stall → Stall) : (s.modStall q f).stall q = f (s.stall q) := by
  rw [State.modStall_stall, if_pos rfl]

theorem State.modStall_other (f : Stall → Stall) (h : n ≠ q) : (s.modStall q f).stall n = s.stall n := by
  rw [State.modStall_stall, if_neg h.symm]

theorem State.modTask_stall (s : State) (q k : Nat) (f : Task → Task) :
    (s.modTask q k f).stall q = { s.stall q with tasks := mmod {} (s.stall q).tasks k f } := State.modStall_same ..

theorem State.modTask_task (s : State) (q k : Nat) (f : Task → Task) : (s.modTask q k f).task q k = f (s.task q k) := by
  unfold State.task
  rw [State.modTask_stall]
  dsimp only
  rw [mmod, mget_mput, if_pos rfl]

@[simp] theorem State.setAreg_pend (s : State) (q k n v : Nat) : ((s.setAreg q k n v).stall q).pend = (s.stall q).pend := by
  rw [State.setAreg, State.modTask_stall]

/-- A register reads what was set, modulo 2^16, and the others read what they did. -/
theorem State.setAreg_areg (s : State) (q k n v j : Nat) :
    (s.setAreg q k n v).areg q k j = if n = j then v % 65536 else s.areg q k j := by
  unfold State.areg
  rw [State.setAreg, State.modTask_task, mget_mput]

theorem State.modRing_ring (s : State) (q r : Nat) (f : RingSt → RingSt) : (s.modRing q r f).ring q r = f (s.ring q r) := by
  unfold State.ring State.modRing
  rw [State.modStall_same]
  dsimp only
  rw [mmod, mget_mput, if_pos rfl]

theorem task_congr (h : (t.stall q).tasks = (s.stall q).tasks) (k : Nat) : t.task q k = s.task q k := by
  unfold State.task; rw [h]

theorem areg_congr (h : (t.stall q).tasks = (s.stall q).tasks) (k n : Nat) : t.areg q k n = s.areg q k n := by
  unfold State.areg; rw [task_congr h]

theorem ring_congr (h : (t.stall q).rings = (s.stall q).rings) (r : Nat) : t.ring q r = s.ring q r := by
  unfold State.ring; rw [h]

/-- What a stall's memories hold, and which of it has bad parity. -/
structure Stall.SameContent (x y : Stall) : Prop where
  code : y.code = x.code
  weight : y.weight = x.weight
  act : y.act = x.act
  psum : y.psum = x.psum
  latch : y.latch = x.latch
  epoch : y.epoch = x.epoch
  epoch7 : y.epoch7 = x.epoch7

theorem unitAt_congr (h : (s.stall q).SameContent (t.stall q)) (m : StallMem) (u : Nat) : t.unitAt q m u = s.unitAt q m u := by
  obtain ⟨code, weight, act, psum, latch, epoch, epoch7⟩ := h
  have cells : (t.stall q).cells m = (s.stall q).cells m := by cases m <;> assumption
  simp only [State.unitAt, Stall.bytesAt, Stall.byteAt, cells, epoch, epoch7]

/-- Addresses of an access depend on no more than the rings' enables, bases and sizes. -/
theorem accessUnit_congr (en : ∀ r < 16, t.rd (R.STB_RING_EN q r) = s.rd (R.STB_RING_EN q r))
    (base : ∀ r < 16, t.rd (R.STB_RING_BASE q r) = s.rd (R.STB_RING_BASE q r))
    (size : ∀ r < 16, t.rd (R.STB_RING_SIZE q r) = s.rd (R.STB_RING_SIZE q r)) (m : StallMem) (a i : Nat) :
    t.accessUnit q m a i = s.accessUnit q m a i := by
  have at_ : t.ringAt q a = s.ringAt q a := by
    refine List.find?_congr fun r hr => ?_
    have lt := List.mem_range.mp hr
    simp only [State.on, en r lt, base r lt, size r lt]
  unfold State.accessUnit
  rw [at_]
  cases inside : s.ringAt q a with
  | none => rfl
  | some r =>
    have lt := List.mem_range.mp (List.mem_of_find?_eq_some inside)
    simp only [State.ringUnit, base r lt, size r lt]

/-! ### The end of a tile (R308, R309, R317) -/

theorem stopDone_of_none (h : (s.task q k).stop = []) : s.stopDone q k = s := by
  unfold State.stopDone; rw [h]; rfl

theorem tileStart_of_none (h : (s.stall q).order = []) : s.tileStart q = s := by
  unfold State.tileStart; rw [h]

/-- A tile of a context that is not first in the order, as when no window is open, ends by ending its operation. -/
theorem tileEnd_of_no_order (order : (s.stall q).order = []) (stop : (s.task q k).stop = []) :
    s.tileEnd q k = s.modStall q fun x => { x with cur := none } := by
  have quiet : ((s.modStall q fun x => { x with cur := none }).task q k).stop = [] := by
    rw [task_congr (s := s) (by rw [State.modStall_same]), stop]
  unfold State.tileEnd
  dsimp only
  rw [stopDone_of_none quiet, if_neg]
  rw [State.modStall_same, order]
  exact Option.some_ne_none k ∘ Eq.symm

/-- The last tile of a window ends, and none starts. -/
theorem tileEnd_of_last (order : (s.stall q).order = [k]) (stop : (s.task q k).stop = []) :
    s.tileEnd q k = (s.modStall q fun x => { x with cur := none }).modStall q fun x => { x with order := x.order.drop 1 } := by
  have quiet : ((s.modStall q fun x => { x with cur := none }).task q k).stop = [] := by
    rw [task_congr (s := s) (by rw [State.modStall_same]), stop]
  unfold State.tileEnd
  dsimp only
  rw [stopDone_of_none quiet, if_pos (by rw [State.modStall_same, order]; rfl), tileStart_of_none]
  rw [State.modStall_same, State.modStall_same, order]
  rfl

/-! ### A change of a task's state (R311, R312) -/

/-- The fields that show a task's state. -/
def State.taskShown (s : State) (q k state why : Nat) : State :=
  ((s.wrs [(R.STB_TASK_STATE q k, state), (R.STB_TASK_WHY q k, why)]).wrBit R.STB_STAT_RUN (4 * q + k) (state == 3)).wrBit
    R.STB_STAT_FAULTED (4 * q + k) (state == 5)

theorem taskTo_eq (s : State) (q k state why : Nat) : s.taskTo q k state why =
    let u := if s.rd (R.STB_TASK_STATE q k) = state then s.taskShown q k state why
      else (s.taskShown q k state why).stbNote 1 (4 * q + k) (state + 8 * why)
    if state = 5 ∧ why ≠ 1 then u.fault clDegrade 0x58 1 (4 * q + k) (state + 8 * why) else u := rfl

theorem taskShown_fields (s : State) (q k state why : Nat) :
    s.Fields [(R.STB_STAT_FAULTED, setBit (s.rd R.STB_STAT_FAULTED) (4 * q + k) (state == 5)),
      (R.STB_STAT_RUN, setBit (s.rd R.STB_STAT_RUN) (4 * q + k) (state == 3)), (R.STB_TASK_WHY q k, why), (R.STB_TASK_STATE q k, state)]
      (s.taskShown q k state why) := by
  have run : (s.wrs [(R.STB_TASK_STATE q k, state), (R.STB_TASK_WHY q k, why)]).rd R.STB_STAT_RUN = s.rd R.STB_STAT_RUN :=
    wrs_rd_other (by simp [R.STB_TASK_STATE, R.STB_TASK_WHY, R.STB_STAT_RUN]; omega)
  have faulted : (s.wrs [(R.STB_TASK_STATE q k, state), (R.STB_TASK_WHY q k, why), (R.STB_STAT_RUN,
      setBit (s.rd R.STB_STAT_RUN) (4 * q + k) (state == 3))]).rd R.STB_STAT_FAULTED = s.rd R.STB_STAT_FAULTED :=
    wrs_rd_other (by simp [R.STB_TASK_STATE, R.STB_TASK_WHY, R.STB_STAT_FAULTED]; omega)
  unfold State.taskShown State.wrBit
  rw [run]
  exact faulted ▸ State.Fields.refl.wr.wr.wr.wr

/-- A change of a task's state writes its own fields, and otherwise only those of the fault chapter. -/
theorem taskTo_rd (s : State) (q k state why : Nat) {j : Nat} (h : j / 1024 < 0x7000) :
    (s.taskTo q k state why).rd j = (s.taskShown q k state why).rd j := by
  rw [taskTo_eq]
  dsimp only
  split
  · rw [fault_rd_other _ _ _ _ _ _ h]
    split
    · rfl
    · exact State.stbNote_rd ..
  · split
    · rfl
    · exact State.stbNote_rd ..

@[simp] theorem taskTo_stb (s : State) (q k state why : Nat) : (s.taskTo q k state why).stb = s.stb :=
  (State.taskTo_frame (l := [.regs, .spoke, .flt]) (fun _ h => h) .refl) .stb (by decide)

@[simp] theorem taskTo_stall (s : State) (q k state why n : Nat) : (s.taskTo q k state why).stall n = s.stall n :=
  stall_congr (taskTo_stb ..) n

/-- A task that is not to fault raises no fault. -/
theorem taskTo_fields_of_not_fault {state : Nat} (h : state ≠ 5) (why : Nat) :
    s.Fields [(R.STB_STAT_FAULTED, setBit (s.rd R.STB_STAT_FAULTED) (4 * q + k) false),
      (R.STB_STAT_RUN, setBit (s.rd R.STB_STAT_RUN) (4 * q + k) (state == 3)), (R.STB_TASK_WHY q k, why), (R.STB_TASK_STATE q k, state)]
      (s.taskTo q k state why) ∧ s.Frame [.regs, .spoke] (s.taskTo q k state why) := by
  have shown := taskShown_fields s q k state why
  have frame : s.Frame [.regs, .spoke] (s.taskShown q k state why) :=
    State.wrBit_frame (Covers.refl.sub rfl) (State.wrBit_frame (Covers.refl.sub rfl)
      (State.wrs_frame (Covers.refl.sub rfl) .refl))
  rw [beq_eq_false_iff_ne.mpr h] at shown
  rw [taskTo_eq]
  dsimp only
  rw [if_neg (fun e => h e.1)]
  split
  · exact ⟨shown, frame⟩
  · exact ⟨shown.of_regs (State.stbNote_regs ..), State.stbNote_frame (Covers.refl.sub rfl) frame⟩

theorem mget?_cons {β : Type} (i : Nat) (v : β) (l : Map β) (j : Nat) : mget? ((i, v) :: l) j = if i = j then some v else mget? l j := by
  simp only [mget?, beq_iff_eq]

theorem mget?_of_unnamed {β : Type} {l : Map β} {j : Nat} (h : ∀ e ∈ l, e.1 ≠ j) : mget? l j = none := by
  induction l with
  | nil => rfl
  | cons e l ih =>
    obtain ⟨he, hl⟩ := List.forall_mem_cons.mp h
    rw [mget?_cons, if_neg he, ih hl]

/-- A field that no entry names is as it was. -/
theorem State.Fields.rd_other {l : Map Nat} (h : s.Fields l t) {j : Nat} (other : ∀ e ∈ l, e.1 ≠ j) : t.rd j = s.rd j := by
  rw [h j, mget?_of_unnamed other]
  rfl

/-- The fields of a task's state, and the summaries of the tasks that run and that are faulted. -/
def taskFields (q k : Nat) : List Nat := [R.STB_STAT_FAULTED, R.STB_STAT_RUN, R.STB_TASK_WHY q k, R.STB_TASK_STATE q k]

theorem taskTo_rd_state (hq : q < 4) (hk : k < 4) (state why : Nat) :
    (s.taskTo q k state why).rd (R.STB_TASK_STATE q k) = state ∧ (s.taskTo q k state why).rd (R.STB_TASK_WHY q k) = why := by
  have shown := taskShown_fields s q k state why
  constructor
  · rw [taskTo_rd _ _ _ _ _ (by unfold R.STB_TASK_STATE; omega), shown, mget?_cons,
      if_neg (by unfold R.STB_TASK_STATE R.STB_STAT_FAULTED; omega), mget?_cons,
      if_neg (by unfold R.STB_TASK_STATE R.STB_STAT_RUN; omega), mget?_cons,
      if_neg (by unfold R.STB_TASK_STATE R.STB_TASK_WHY; omega), mget?_cons, if_pos rfl]
    rfl
  · rw [taskTo_rd _ _ _ _ _ (by unfold R.STB_TASK_WHY; omega), shown, mget?_cons,
      if_neg (by unfold R.STB_TASK_WHY R.STB_STAT_FAULTED; omega), mget?_cons,
      if_neg (by unfold R.STB_TASK_WHY R.STB_STAT_RUN; omega), mget?_cons, if_pos rfl]
    rfl

theorem taskTo_rd_other {j : Nat} (block : j / 1024 < 0x7000) (other : j ∉ taskFields q k) (state why : Nat) :
    (s.taskTo q k state why).rd j = s.rd j := by
  rw [taskTo_rd _ _ _ _ _ block, (taskShown_fields s q k state why).rd_other]
  intro e he same
  refine other (same ▸ ?_)
  simp only [List.mem_cons, List.not_mem_nil, or_false] at he
  rcases he with rfl | rfl | rfl | rfl <;> simp [taskFields]

/-- A task fault ends its operation and leaves the rest of the stall as it was (R312). -/
theorem taskFault_eq (order : (s.stall q).order = []) (stop : (s.task q k).stop = []) (why : Nat) :
    s.taskFault q k why = (s.taskTo q k 5 why).modStall q fun x => { x with cur := none } :=
  tileEnd_of_no_order (by rw [taskTo_stall, order]) (by rw [task_congr (s := s) (by rw [taskTo_stall]), stop])

theorem taskFault_stall (order : (s.stall q).order = []) (stop : (s.task q k).stop = []) (why : Nat) :
    (s.taskFault q k why).stall q = { s.stall q with cur := none } := by
  rw [taskFault_eq order stop, State.modStall_same, taskTo_stall]

theorem taskFault_rd (order : (s.stall q).order = []) (stop : (s.task q k).stop = []) (why j : Nat) :
    (s.taskFault q k why).rd j = (s.taskTo q k 5 why).rd j := by
  rw [taskFault_eq order stop, State.modStall_rd]

end
end Sys2Proof.Machine
end

section
/-!
PROOFS. How an operation passes through its stall (R301, R320, R324 to R326, R329, R338): reads and landings outside audit mode, the
cycles of a stall that nothing lands in, and the operation that runs until it has ended.
-/

namespace Sys2Proof.Machine

section
variable {s t b : State} {q k r n c : Nat}

/-! ### Reads and landings outside audit mode (R325, R338) -/

theorem audited_eq_false (quiet : s.rd R.STB_SP_STAT_AUDIT ≠ 1) (m : StallMem) : s.audited m = false := by
  unfold State.audited
  rw [on_eq_false_iff.mpr quiet, Bool.false_and]

theorem tagRead_of_quiet (quiet : s.rd R.STB_SP_STAT_AUDIT ≠ 1) (q k pc : Nat) (m : StallMem) (u : Nat) (check : Bool) :
    s.tagRead q k pc m u check = s := if_neg (by rw [audited_eq_false quiet]; exact Bool.false_ne_true)

theorem tagWrite_of_quiet (quiet : s.rd R.STB_SP_STAT_AUDIT ≠ 1) (q k pc : Nat) (m : StallMem) (u : Nat) :
    s.tagWrite q k pc m u = s := if_neg (by rw [audited_eq_false quiet]; exact Bool.false_ne_true)

/-- Units with good parity are read, and nothing changes. -/
theorem readUnits_of_sound (quiet : s.rd R.STB_SP_STAT_AUDIT ≠ 1) {l : List (StallMem × Nat)}
    (sound : ∀ e ∈ l, s.parityBad q e.1 e.2 = false) (k pc : Nat) :
    s.readUnits q k pc l = (l.map fun e => s.unitAt q e.1 e.2, false, s) := by
  have step : ∀ (l : List (StallMem × Nat)) (vals : List Nat), (∀ e ∈ l, s.parityBad q e.1 e.2 = false) →
      l.foldl (fun (a : List Nat × Bool × State) e =>
        let s := a.2.2.tagRead q k pc e.1 e.2 true
        let bad := s.parityBad q e.1 e.2
        (a.1 ++ [s.unitAt q e.1 e.2], a.2.1 || bad, if bad then s.parityFound q e.1 e.2 else s)) (vals, false, s) =
      (vals ++ l.map fun e => s.unitAt q e.1 e.2, false, s) := by
    intro l
    induction l with
    | nil => intro vals _; rw [List.foldl_nil, List.map_nil, List.append_nil]
    | cons e l ih =>
      intro vals sound
      obtain ⟨he, hl⟩ := List.forall_mem_cons.mp sound
      rw [List.foldl_cons]
      simp only [tagRead_of_quiet quiet, he, Bool.or_false, Bool.false_eq_true, if_false]
      rw [ih _ hl, List.map_cons, List.append_assoc]
      rfl
  exact (step l [] sound).trans (by rw [List.nil_append])

/-- With no bad word in a stall's memories no unit has bad parity. -/
theorem parityBad_eq_false (h : (s.stall q).parBad = []) (m : StallMem) (u : Nat) : s.parityBad q m u = false := by
  unfold State.parityBad
  rw [h]
  exact List.any_eq_false.mpr fun _ _ => by simp

/-- A write that lands is what its unit then reads, and no other unit of its memory changes (R322). -/
theorem land_effect (quiet : s.rd R.STB_SP_STAT_AUDIT ≠ 1) {l : Landing} (own : l.ring = none)
    (fits : l.val < 256 ^ unitBytes l.mem) : (s.land q l).unitAt q l.mem l.unit = l.val ∧
    (∀ u, u ≠ l.unit → (s.land q l).unitAt q l.mem u = s.unitAt q l.mem u) ∧ s.Frame [.stb] (s.land q l) := by
  have lands : s.land q l = s.modStall q fun x => x.putUnit l.mem l.unit l.val := by
    unfold State.land
    rw [own]
    dsimp only
    rw [tagWrite_of_quiet quiet]
  rw [lands]
  refine ⟨?_, fun u other => ?_, State.modStall_frame Covers.refl .refl⟩
  · rw [State.unitAt, State.modStall_same, bytesAt_putUnit_same, ofLe_le, Nat.mod_eq_of_lt fits]
  · rw [State.unitAt, State.modStall_same, bytesAt_putUnit_other other]
    rfl

/-! ### A stall's clock (R301, R320) -/

/-- The stall's next cycle; `used` is what it has used of the window. -/
def State.onward (s : State) (q : Nat) (used : Stall → Nat) : State :=
  s.modStall q fun x => { x with cycle := x.cycle + 1, used := used x }

/-- The gap cycle that an operation lets pass before it issues (R320). -/
def State.passGap (s : State) (q : Nat) : State :=
  if (s.stall q).cycle % 32 = 31 then s.onward q (·.used) else s

theorem landDue_of_landed (h : (s.stall q).pend = []) : s.landDue q = s := by
  unfold State.landDue
  dsimp only
  rw [h]
  rfl

/-- In a gap cycle nothing happens but time. -/
theorem stallCycle_of_gap (landed : (s.stall q).pend = []) (gap : (s.stall q).cycle % 32 = 31) :
    ∃ v, s.stallCycle q = s.onward q v := by
  unfold State.stallCycle
  dsimp only
  rw [landDue_of_landed landed, if_pos gap]
  exact ⟨fun x => if !(s.stall q).order.isEmpty then x.cycle + 1 else x.used, rfl⟩

/-- In another cycle the operation that occupies the stall goes on. -/
theorem stallCycle_of_busy {u : OpRun} (landed : (s.stall q).pend = []) (work : ¬ (s.stall q).cycle % 32 = 31)
    (busy : (s.stall q).cur = some u) : ∃ v, s.stallCycle q = (s.opCycle q u).onward q v := by
  have goes : s.stallWork q = s.opCycle q u := by
    unfold State.stallWork
    dsimp only
    rw [busy]
  unfold State.stallCycle
  dsimp only
  rw [landDue_of_landed landed, if_neg work, goes]
  exact ⟨fun x => if !(s.stall q).order.isEmpty then x.cycle + 1 else x.used, rfl⟩

theorem opDrain_of_idle (h : (s.stall q).cur = none) (fuel : Nat) : State.opDrain fuel q s = s := by
  cases fuel with
  | zero => rfl
  | succ fuel => exact if_pos (by rw [h]; rfl)

/-- An operation of `len` cycles, `u i` before its cycle i, runs to its end: `Inv i c` holds before its cycle i when the stall is in its
cycle c. One cycle in 32 is a gap, so the fuel of a drain is enough. -/
theorem opDrain_ends {Inv : Nat → Nat → State → Prop} {Done : State → Prop} {u : Nat → OpRun} {len : Nat}
    (busy : ∀ i c t, Inv i c t → (t.stall q).cur = some (u i) ∧ (t.stall q).pend = [] ∧ (t.stall q).cycle = c)
    (wait : ∀ i c t v, Inv i c t → Inv i (c + 1) (t.onward q v))
    (work : ∀ i c t v, i + 1 < len → Inv i c t → Inv (i + 1) (c + 1) ((t.opCycle q (u i)).onward q v))
    (last : ∀ i c t v, i + 1 = len → Inv i c t → Done ((t.opCycle q (u i)).onward q v))
    (done : ∀ t, Done t → (t.stall q).cur = none) (fuel : Nat) :
    ∀ i c t, i < len → Inv i c t → len - i + (len - i + c % 32) / 31 ≤ fuel → Done (State.opDrain fuel q t) := by
  induction fuel with
  | zero => intro i c t hi _ enough; omega
  | succ fuel ih =>
    intro i c t hi inv enough
    obtain ⟨cur, landed, rfl⟩ := busy i c t inv
    have goes : State.opDrain (fuel + 1) q t = State.opDrain fuel q (t.stallCycle q) := if_neg (by rw [cur]; exact Bool.false_ne_true)
    rw [goes]
    by_cases gap : (t.stall q).cycle % 32 = 31
    · obtain ⟨v, hv⟩ := stallCycle_of_gap landed gap
      rw [hv]
      exact ih i _ _ hi (wait i _ t v inv) (by omega)
    · obtain ⟨v, hv⟩ := stallCycle_of_busy landed gap cur
      rw [hv]
      by_cases more : i + 1 < len
      · exact ih (i + 1) _ _ more (work i _ t v more inv) (by omega)
      · have ended := last i _ t v (by omega) inv
        rw [opDrain_of_idle (done _ ended)]
        exact ended

/-- The same from the cycle in which the operation issues. -/
theorem opDrain_first_ends {Inv : Nat → Nat → State → Prop} {Done : State → Prop} {u : Nat → OpRun} {len : Nat}
    (busy : ∀ i c t, Inv i c t → (t.stall q).cur = some (u i) ∧ (t.stall q).pend = [] ∧ (t.stall q).cycle = c)
    (wait : ∀ i c t v, Inv i c t → Inv i (c + 1) (t.onward q v))
    (work : ∀ i c t v, i + 1 < len → Inv i c t → Inv (i + 1) (c + 1) ((t.opCycle q (u i)).onward q v))
    (last : ∀ i c t v, i + 1 = len → Inv i c t → Done ((t.opCycle q (u i)).onward q v))
    (done : ∀ t, Done t → (t.stall q).cur = none) (pos : 0 < len) (short : len ≤ 32760) (start : Inv 0 c t) :
    Done (State.opDrain 40000 q ((t.opCycle q (u 0)).onward q (·.used))) := by
  by_cases more : 1 < len
  · exact opDrain_ends busy wait work last done 40000 1 _ _ more (work 0 c t _ more start) (by omega)
  · have ended := last 0 c t (·.used) (by omega) start
    rw [opDrain_of_idle (done _ ended)]
    exact ended

/-! ### A stall at rest but for the operation that occupies it -/

/-- `t` is `b` but for stall q, which is in its cycle c and is otherwise that of `b` with some operation under way. -/
structure State.Rests (b : State) (q c : Nat) (t : State) : Prop where
  own : t.stall q = { b.stall q with cycle := c, used := (t.stall q).used, cur := (t.stall q).cur }
  others : ∀ n, n ≠ q → t.stall n = b.stall n
  frame : b.Frame [.stb] t

theorem State.Rests.refl (s : State) (q : Nat) : s.Rests q (s.stall q).cycle s := ⟨rfl, fun _ _ => rfl, .refl⟩

section
variable (h : b.Rests q c t)
include h

theorem State.Rests.regs : t.regs = b.regs := h.frame .regs (by decide)

theorem State.Rests.rd (j : Nat) : t.rd j = b.rd j := rd_congr h.regs j

theorem State.Rests.cycle : (t.stall q).cycle = c := by rw [h.own]

theorem State.Rests.pend : (t.stall q).pend = (b.stall q).pend := by rw [h.own]

theorem State.Rests.order : (t.stall q).order = (b.stall q).order := by rw [h.own]

theorem State.Rests.task (k : Nat) : t.task q k = b.task q k := task_congr (by rw [h.own]) k

theorem State.Rests.areg (k n : Nat) : t.areg q k n = b.areg q k n := areg_congr (by rw [h.own]) k n

theorem State.Rests.unitAt (m : StallMem) (u : Nat) : t.unitAt q m u = b.unitAt q m u :=
  unitAt_congr ⟨by rw [h.own], by rw [h.own], by rw [h.own], by rw [h.own], by rw [h.own], by rw [h.own], by rw [h.own]⟩ m u

theorem State.Rests.accessUnit (m : StallMem) (a i : Nat) : t.accessUnit q m a i = b.accessUnit q m a i :=
  accessUnit_congr (fun _ _ => h.rd _) (fun _ _ => h.rd _) (fun _ _ => h.rd _) m a i

theorem State.Rests.ringUnit (r i : Nat) : t.ringUnit q r i = b.ringUnit q r i := by
  unfold State.ringUnit; rw [h.rd, h.rd]

theorem State.Rests.parityBad (m : StallMem) (u : Nat) : t.parityBad q m u = b.parityBad q m u := by
  unfold State.parityBad; rw [h.own]

/-- Time passes. -/
theorem State.Rests.onward (v : Stall → Nat) : b.Rests q (c + 1) (t.onward q v) where
  own := by rw [State.onward, State.modStall_same, h.own]
  others n hn := (State.modStall_other _ hn).trans (h.others n hn)
  frame := State.modStall_frame Covers.refl h.frame

/-- The operation under way moves on. -/
theorem State.Rests.setCur (u : Option OpRun) : b.Rests q c (t.modStall q fun x => { x with cur := u }) where
  own := by rw [State.modStall_same, h.own]
  others n hn := (State.modStall_other _ hn).trans (h.others n hn)
  frame := State.modStall_frame Covers.refl h.frame

/-- Both write a field. -/
theorem State.Rests.wr (r v : Nat) : (b.wr r v).Rests q c (t.wr r v) where
  own := h.own
  others := h.others
  frame p hp := by
    have same : b.same p t := h.frame p hp
    cases p with
    | regs => exact congrArg (fun m => mput (resetOf r) m r v) same
    | _ => exact same

theorem State.Rests.wrs (l : List (Nat × Nat)) : (b.wrs l).Rests q c (t.wrs l) := by
  induction l generalizing b t with
  | nil => exact h
  | cons e l ih => exact ih (h.wr e.1 e.2)

theorem State.Rests.ringPush (r n : Nat) : (b.ringPush q r n).Rests q c (t.ringPush q r n) := by
  unfold State.ringPush State.on
  rw [h.rd, h.rd, h.rd, h.rd]
  split
  · exact h.wrs _
  · exact h

theorem State.Rests.modRing (r : Nat) (f : RingSt → RingSt) : (b.modRing q r f).Rests q c (t.modRing q r f) where
  own := by rw [State.modRing, State.modRing, State.modStall_same, State.modStall_same, h.own]
  others n hn := by rw [State.modRing, State.modRing, State.modStall_other _ hn, State.modStall_other _ hn, h.others n hn]
  frame p hp := by
    have same : b.same p t := h.frame p hp
    cases p with
    | stb => exact absurd (by decide) hp
    | _ => exact same

theorem State.Rests.ringPop (r n : Nat) : (b.ringPop q r n).Rests q c (t.ringPop q r n) := by
  unfold State.ringPop
  rw [h.rd, h.rd, h.rd]
  exact h.wrs _

end

/-- A stall that is let pass its gap is at rest. -/
theorem passGap_rests (s : State) (q : Nat) : ∃ c, (s.stall q).cycle ≤ c ∧ s.Rests q c (s.passGap q) := by
  unfold State.passGap
  split
  · exact ⟨_, Nat.le_succ _, (State.Rests.refl s q).onward _⟩
  · exact ⟨_, le_rfl, State.Rests.refl s q⟩

/-- An operation of `len` cycles that leaves everything at rest until it finishes: in each cycle but its last it only moves on. -/
theorem run_of_steps {U : Nat → OpRun} {u : OpRun} {len : Nat} (landed : (b.stall q).pend = []) (pos : 0 < len) (short : len ≤ 32760)
    (start : b.Rests q c t) (busy : (t.stall q).cur = some (U 0))
    (step : ∀ i < len, ∀ c t, b.Rests q c t → t.opCycle q (U i) =
      if i + 1 < len then t.modStall q fun x => { x with cur := some (U (i + 1)) } else t.opFinish q u)
    (ends : ∀ c t, b.Rests q c t → ((t.opFinish q u).stall q).cur = none) :
    ∃ (d : Nat) (z : State) (v : Stall → Nat), b.Rests q d z ∧ c + len ≤ d + 1 ∧
      State.opDrain 40000 q ((t.opCycle q (U 0)).onward q (·.used)) = (z.opFinish q u).onward q v := by
  refine opDrain_first_ends (Inv := fun i d t => b.Rests q d t ∧ (t.stall q).cur = some (U i) ∧ c + i ≤ d)
    (Done := fun y => ∃ d z v, b.Rests q d z ∧ c + len ≤ d + 1 ∧ y = (z.opFinish q u).onward q v) (c := c)
    ?_ ?_ ?_ ?_ ?_ pos short ⟨start, busy, le_rfl⟩
  · rintro i d t ⟨rest, cur, -⟩
    exact ⟨cur, rest.pend.trans landed, rest.cycle⟩
  · rintro i d t v ⟨rest, cur, late⟩
    refine ⟨rest.onward v, ?_, by omega⟩
    rw [State.onward, State.modStall_same, cur]
  · rintro i d t v more ⟨rest, cur, late⟩
    rw [step i (by omega) d t rest, if_pos more]
    refine ⟨(rest.setCur _).onward v, ?_, by omega⟩
    rw [State.onward, State.modStall_same, State.modStall_same]
  · rintro i d t v final ⟨rest, cur, late⟩
    rw [step i (by omega) d t rest, if_neg (by omega)]
    exact ⟨d, t, v, rest, by omega, rfl⟩
  · rintro y ⟨d, z, v, rest, -, rfl⟩
    rw [State.onward, State.modStall_same]
    exact ends d z rest

end
end Sys2Proof.Machine
end

section
/-!
PROOFS. The issue and the end of a stall operation (R300 to R302, R308, R309, Tables 11-3 and 11-4, 11_stable_engine.md): the record of an
operation that issues, what its last cycle leaves of each opcode, and the opcodes of one cycle that read nothing.
-/

namespace Sys2Proof.Machine

/-! ### Issue -/

/-- The operation of a context as it issues (R301, R302). -/
def State.issued (s : State) (q k opc w : Nat) : OpRun :=
  { ctx := k, pc := s.rd (R.STB_TASK_PC q k), opc := opc, word := w, len := max 1 (opCycles opc w)
    src := match opSrc opc w with
      | some m => s.operand q k m (bits w 25 3)
      | none => 0
    dst := match opDst opc w with
      | some m => s.operand q k m (bits w 22 3)
      | none => 0 }

section
variable {s t b : State} {q k opc w n c : Nat}

theorem State.Rests.operand (h : b.Rests q c t) (k : Nat) (m : StallMem) (reg : Nat) : t.operand q k m reg = b.operand q k m reg := by
  unfold State.operand
  rw [h.areg]
  cases m <;> simp only [State.region, h.rd]

theorem State.Rests.issued (h : b.Rests q c t) (k opc w : Nat) : t.issued q k opc w = b.issued q k opc w := by
  unfold State.issued
  simp only [h.operand, h.rd]

theorem State.Rests.outside (h : b.Rests q c t) (k : Nat) (m : StallMem) (a n : Nat) : t.outside q k m a n = b.outside q k m a n := by
  unfold State.outside
  have region : t.region q k m = b.region q k m := by cases m <;> simp only [State.region, h.rd]
  simp only [region, h.accessUnit]

theorem State.Rests.opFault (h : b.Rests q c t) (k opc w : Nat) : t.opFault q k opc w = b.opFault q k opc w := by
  unfold State.opFault
  simp only [h.outside, h.operand, h.ringUnit, h.rd, State.on] <;> rfl

theorem opStart_of_fault {why : Nat} (h : s.opFault q k opc w = some why) (pc : Nat) : s.opStart q k pc opc w = s.taskFault q k why := by
  unfold State.opStart
  rw [h]

theorem opStart_of_sound {u : OpRun} (h : s.opFault q k opc w = none)
    (begun : ((s.opBegin q opc w (s.issued q k opc w)).stall q).cur = some u) :
    s.opStart q k (s.rd (R.STB_TASK_PC q k)) opc w = (s.opBegin q opc w (s.issued q k opc w)).opCycle q u := by
  have goes : s.opStart q k (s.rd (R.STB_TASK_PC q k)) opc w =
      match ((s.opBegin q opc w (s.issued q k opc w)).stall q).cur with
      | none => s.opBegin q opc w (s.issued q k opc w)
      | some u => (s.opBegin q opc w (s.issued q k opc w)).opCycle q u := by
    unfold State.opStart
    rw [h]
    rfl
  rw [goes, begun]

end

/-! ### The end of an operation (Table 11-3) -/

/-- The last cycle of an operation is over, and its writes are on their way (R301). -/
def State.opDone (s : State) (q : Nat) (u : OpRun) : State :=
  s.modStall q fun x => { x with cur := none, pend := x.pend ++ u.buf.map fun l => { l with cycle := (s.stall q).cycle + 6 } }

/-- The task goes on at an operation. -/
def State.opGoes (s : State) (q k pc : Nat) : State := s.wr (R.STB_TASK_PC q k) (pc % 4096)

section
variable {s t b : State} {q k n c : Nat} {u : OpRun}

theorem opFinish_setr (h : u.opc = 0x1) : s.opFinish q u =
    ((s.opDone q u).setAreg q u.ctx (bits u.word 25 3) (bits u.word 0 16)).opGoes q u.ctx (u.pc + 1) := by
  unfold State.opFinish; rw [h]; rfl

theorem opFinish_addr (h : u.opc = 0x2) : s.opFinish q u = ((s.opDone q u).setAreg q u.ctx (bits u.word 25 3)
    ((s.opDone q u).areg q u.ctx (bits u.word 25 3) + bits u.word 0 16)).opGoes q u.ctx (u.pc + 1) := by
  unfold State.opFinish; rw [h]; rfl

theorem opFinish_tload (h : u.opc = 0x3) : s.opFinish q u = (if bit u.word 23 then (s.opDone q u).setAreg q u.ctx (bits u.word 25 3)
    ((s.opDone q u).areg q u.ctx (bits u.word 25 3) + 1) else s.opDone q u).opGoes q u.ctx (u.pc + 1) := by
  unfold State.opFinish; rw [h]; rfl

theorem opFinish_rwait (h : u.opc = 0x9) : s.opFinish q u =
    if (s.opDone q u).ringMeets q u.word then (s.opDone q u).opGoes q u.ctx (u.pc + 1) else (s.opDone q u).tileEnd q u.ctx := by
  unfold State.opFinish; rw [h]; rfl

theorem opFinish_loop (h : u.opc = 0xB) {v : Nat} (hv : v = ((s.opDone q u).areg q u.ctx (6 + b2n (bit u.word 24)) + 65535) % 65536) :
    s.opFinish q u = ((s.opDone q u).setAreg q u.ctx (6 + b2n (bit u.word 24)) v).opGoes q u.ctx
      (if v = 0 then u.pc + 1 else u.pc + 4096 - opN u.word) := by
  have goes : s.opFinish q u =
      let y := s.opDone q u
      let r := 6 + b2n (bit u.word 24)
      let v := (y.areg q u.ctx r + 65535) % 65536
      if v = 0 then (y.setAreg q u.ctx r v).opGoes q u.ctx (u.pc + 1)
      else (y.setAreg q u.ctx r v).opGoes q u.ctx (u.pc + 4096 - opN u.word) := by
    unfold State.opFinish; rw [h]; rfl
  rw [goes]
  dsimp only
  rw [← hv]
  split <;> rfl

theorem opFinish_waitt (h : u.opc = 0xC) : s.opFinish q u =
    (((s.opDone q u).opGoes q u.ctx (u.pc + 1)).modTask q u.ctx fun t => { t with skip := opN u.word - 1 }).tileEnd q u.ctx := by
  unfold State.opFinish; rw [h]; rfl

theorem opFinish_jump (h : u.opc = 0xE) : s.opFinish q u = (s.opDone q u).opGoes q u.ctx (opN u.word) := by
  unfold State.opFinish; rw [h]; rfl

theorem opFinish_end (h : u.opc = 0xF) : s.opFinish q u =
    (((s.opDone q u).modTask q u.ctx fun t => { t with ar := [] }).taskTo q u.ctx 2 0).tileEnd q u.ctx := by
  unfold State.opFinish; rw [h]; rfl

/-- Every other operation only goes on. -/
theorem opFinish_next {opc : Nat} (h : u.opc = opc) (next : opc ∈ [0x0, 0x4, 0x5, 0x6, 0x7, 0x8, 0xA, 0xD]) :
    s.opFinish q u = (s.opDone q u).opGoes q u.ctx (u.pc + 1) := by
  unfold State.opFinish
  rw [h]
  simp only [List.mem_cons, List.not_mem_nil, or_false] at next
  rcases next with rfl | rfl | rfl | rfl | rfl | rfl | rfl | rfl <;> rfl

theorem opDone_cur (s : State) (q : Nat) (u : OpRun) : ((s.opDone q u).stall q).cur = none := by
  rw [State.opDone, State.modStall_same]

/-- The answers to a stop leave the operation under way as it is. -/
theorem stopDone_cur (s : State) (q k : Nat) : ((s.stopDone q k).stall q).cur = (s.stall q).cur := by
  unfold State.stopDone
  dsimp only
  split
  · rfl
  · have answers : ∀ (y : State) (refs : List Ref), (y.each refs fun s r => s.ok r).stb = y.stb := fun y refs =>
      (State.each_frame (l := [.spoke, .flt]) .refl fun _ _ => State.ok_frame Covers.refl) .stb (by decide)
    rw [stall_congr (answers ..), taskTo_stall, State.modTask_stall]

/-- A tile that has ended has no operation under way. -/
theorem tileEnd_cur (s : State) (q k : Nat) : ((s.tileEnd q k).stall q).cur = none := by
  have freed : ∀ y : State, (y.stall q).cur = none → ((y.tileStart q).stall q).cur = none := fun y hy => by
    unfold State.tileStart
    split
    · exact hy
    · dsimp only
      rw [stall_congr (State.wrap_stb ..), stall_congr (State.count_stb ..), State.modStall_same]
  have stopped : (((s.modStall q fun x => { x with cur := none }).stopDone q k).stall q).cur = none := by
    rw [stopDone_cur, State.modStall_same]
  unfold State.tileEnd
  dsimp only
  split
  · exact freed _ (by rw [State.modStall_same]; exact stopped)
  · exact stopped

/-- An operation that has ended is no longer under way. -/
theorem opFinish_cur (s : State) (q : Nat) (u : OpRun) : ((s.opFinish q u).stall q).cur = none := by
  have done := opDone_cur s q u
  have set : ∀ (y : State) k n v, ((y.setAreg q k n v).stall q).cur = (y.stall q).cur := fun y k n v => by
    rw [State.setAreg, State.modTask_stall]
  unfold State.opFinish
  extract_lets k w reg at_ y pc next
  have goes : ∀ (n : Nat) (y : State), ((pc n y).stall q).cur = (y.stall q).cur := fun _ _ => rfl
  change (y.stall q).cur = none at done
  clear_value y pc
  split
  · rw [goes, set, done]
  · rw [goes, set, done]
  · rw [goes]
    split
    · rw [set, done]
    · exact done
  · split
    · rw [goes, done]
    · exact tileEnd_cur ..
  · rename_i r v y' _ _
    have counted : (y'.stall q).cur = none := (set ..).trans done
    split
    · rw [goes, counted]
    · rw [goes, counted]
  · exact tileEnd_cur ..
  · rw [goes, done]
  · exact tileEnd_cur ..
  · rw [goes, done]

/-- An operation that writes nothing ends, and the stall is at rest. -/
theorem State.Rests.opDone (h : b.Rests q c t) (writes : u.buf = []) : b.Rests q c (t.opDone q u) where
  own := by rw [State.opDone, State.modStall_same, writes, List.map_nil, List.append_nil, h.own]
  others n hn := (State.modStall_other _ hn).trans (h.others n hn)
  frame := State.modStall_frame Covers.refl h.frame

end

/-! ### An operation that issues in a free stall -/

section
variable {s b : State} {q k : Fin 4} {opc : Nat} {w : BitVec 32} {U : Nat → OpRun} {u : OpRun} {len : Nat}

theorem opRow_of_idle (works : s.rd R.STB_STAT_OFF ≠ 1) (idle : (s.stall q).cur = none) (landed : (s.stall q).pend = []) :
    s.opRow q k opc w = State.opDrain 40000 q
      (((s.passGap q).opStart q k ((s.passGap q).rd (R.STB_TASK_PC q k)) opc (opWord opc w)).onward q (·.used)) := by
  obtain ⟨c, -, rest⟩ := passGap_rests s q
  unfold State.opRow
  rw [if_neg (by rw [on_eq_false_iff.mpr works]; exact Bool.false_ne_true)]
  unfold State.runOp
  dsimp only
  rw [opDrain_of_idle idle]
  have gap : (if (s.stall q).cycle % 32 = 31 then s.modStall q fun x => { x with cycle := x.cycle + 1 } else s) = s.passGap q := rfl
  rw [gap, landDue_of_landed (rest.pend.trans landed)]
  rfl

/-- An operation that leaves everything at rest but what its issue makes of the state runs to its end. -/
theorem opRow_of_steps (h : s.Issues q k opc w) (landed : (b.stall q).pend = []) (pos : 0 < len) (short : len ≤ 32760)
    (begins : ∀ c t, s.Rests q c t → b.Rests q c (t.opBegin q opc (opWord opc w) (s.issued q k opc (opWord opc w))) ∧
      ((t.opBegin q opc (opWord opc w) (s.issued q k opc (opWord opc w))).stall q).cur = some (U 0))
    (step : ∀ i < len, ∀ c t, b.Rests q c t → t.opCycle q (U i) =
      if i + 1 < len then t.modStall q fun x => { x with cur := some (U (i + 1)) } else t.opFinish q u) :
    ∃ (d : Nat) (z : State) (v : Stall → Nat), b.Rests q d z ∧ (s.stall q).cycle + len ≤ d + 1 ∧
      s.opRow q k opc w = (z.opFinish q u).onward q v := by
  obtain ⟨c, late, rest⟩ := passGap_rests s q
  obtain ⟨begun, cur⟩ := begins c _ rest
  rw [← rest.issued] at begun cur
  obtain ⟨d, z, v, ended, long, runs⟩ := run_of_steps landed pos short begun cur step fun _ t _ => opFinish_cur t q u
  refine ⟨d, z, v, ended, by omega, ?_⟩
  rw [opRow_of_idle h.works h.idle h.landed, opStart_of_sound ((rest.opFault ..).trans h.sound) cur]
  exact runs

/-- The operations of one cycle that read nothing. -/
def oneCycle : List Nat := [0x0, 0x1, 0x2, 0x8, 0x9, 0xB, 0xC, 0xE, 0xF]

theorem opCycles_of_oneCycle (h : opc ∈ oneCycle) (w : Nat) : opCycles opc w = 1 := by
  simp only [oneCycle, List.mem_cons, List.not_mem_nil, or_false] at h
  rcases h with rfl | rfl | rfl | rfl | rfl | rfl | rfl | rfl | rfl <;> rfl

/-- An operation that reads nothing and computes nothing in this cycle only lets it pass. -/
theorem opCycle_of_still {t : State} {q : Nat} {u : OpRun} (load : u.opc ≠ 0x3) (reads : t.cycleReads q u = [])
    (work : t.cycleWork q u [] = (t, u)) : t.opCycle q u =
      if u.i + 1 < u.len then t.modStall q fun x => { x with cur := some { u with i := u.i + 1 } }
      else t.opFinish q { u with i := u.i + 1 } := by
  unfold State.opCycle
  rw [reads, ite_self]
  have nothing : t.readUnits q u.ctx u.pc [] = ([], false, t) := rfl
  have noLoad : ¬ (u.opc = 0x3 ∧ u.i = 0) := fun h => load h.1
  simp only [nothing, Bool.false_eq_true, if_false, if_neg noLoad, work, ite_self]

/-- The one cycle of such an operation is its last. -/
theorem opCycle_of_oneCycle (t : State) (q : Nat) (h : opc ∈ oneCycle) (s : State) (k w : Nat) :
    t.opCycle q (s.issued q k opc w) = t.opFinish q { s.issued q k opc w with i := 1 } := by
  have len : (s.issued q k opc w).len = 1 := by rw [State.issued, opCycles_of_oneCycle h]; rfl
  have still : opc ≠ 0x3 ∧ t.cycleReads q (s.issued q k opc w) = [] ∧
      t.cycleWork q (s.issued q k opc w) [] = (t, s.issued q k opc w) := by
    simp only [oneCycle, List.mem_cons, List.not_mem_nil, or_false] at h
    rcases h with rfl | rfl | rfl | rfl | rfl | rfl | rfl | rfl | rfl <;> exact ⟨by decide, rfl, rfl⟩
  obtain ⟨load, reads, work⟩ := still
  rw [opCycle_of_still load reads work, len, if_neg (by exact Nat.lt_irrefl 1)]
  rfl

/-- The record of an operation of one cycle as it ends. -/
def State.endedOp (s : State) (q k opc : Nat) (w : BitVec 32) : OpRun := { s.issued q k opc (opWord opc w) with i := 1 }

/-- An operation of one cycle that reads nothing is over in its cycle of issue. -/
theorem opRow_of_oneCycle (h : s.Issues q k opc w) (one : opc ∈ oneCycle) (landed : (b.stall q).pend = [])
    (begins : ∀ c t, s.Rests q c t → b.Rests q c (t.opBegin q opc (opWord opc w) (s.issued q k opc (opWord opc w))) ∧
      ((t.opBegin q opc (opWord opc w) (s.issued q k opc (opWord opc w))).stall q).cur = some (s.issued q k opc (opWord opc w))) :
    ∃ (d : Nat) (z : State) (v : Stall → Nat), b.Rests q d z ∧ (s.stall q).cycle + 1 ≤ d + 1 ∧
      s.opRow q k opc w = (z.opFinish q (s.endedOp q k opc w)).onward q v :=
  opRow_of_steps (U := fun _ => s.issued q k opc (opWord opc w)) h landed Nat.one_pos (by decide) begins
    fun i hi c t _ => by rw [opCycle_of_oneCycle t q one, if_neg (by omega)]; rfl

/-- Most operations issue without any effect of their own. -/
theorem opBegin_of_other (t : State) (q : Nat) (h : opc ∉ [0x7, 0x8, 0xA]) (w : Nat) (u : OpRun) :
    t.opBegin q opc w u = t.modStall q fun x => { x with cur := some u } := by
  simp only [List.mem_cons, List.not_mem_nil, or_false, not_or] at h
  obtain ⟨store, radv, nsend⟩ := h
  unfold State.opBegin
  split
  · contradiction
  · contradiction
  · contradiction
  · rfl

theorem begins_of_other (h : opc ∉ [0x7, 0x8, 0xA]) (c : Nat) (t : State) (rest : s.Rests q c t) :
    s.Rests q c (t.opBegin q opc (opWord opc w) (s.issued q k opc (opWord opc w))) ∧
      ((t.opBegin q opc (opWord opc w) (s.issued q k opc (opWord opc w))).stall q).cur = some (s.issued q k opc (opWord opc w)) := by
  rw [opBegin_of_other t q h]
  exact ⟨rest.setCur _, by rw [State.modStall_same]⟩

end
end Sys2Proof.Machine
end

section
/-!
PROOFS. The operations of one cycle (R300, R301, R302, R304, R309, R312, R316, R330, Table 11-3): those that only go on, those that set a
register, the ring pointers, and the ends of a tile.
-/

namespace Sys2Proof.Machine

section
variable {s t b : State} {q k : Fin 4} {opc len pc cycles c : Nat} {w : BitVec 32} {i : Instr} {u : OpRun}

/-! ### Rows -/

/-- The sixteen rows of operations, with the OPC of each. -/
def opRows (q k : Fin 4) (w : BitVec 32) : List (Instr × Nat) :=
  [(.nop q k w, 0x0), (.setr q k w, 0x1), (.addr q k w, 0x2), (.tload q k w, 0x3), (.mact q k w, 0x4), (.act q k w, 0x5),
    (.pool q k w, 0x6), (.store q k w, 0x7), (.radv q k w, 0x8), (.rwait q k w, 0x9), (.nsend q k w, 0xA), (.loop q k w, 0xB),
    (.waitt q k w, 0xC), (.move q k w, 0xD), (.jump q k w, 0xE), (.opEnd q k w, 0xF)]

theorem exec_opRow (h : (i, opc) ∈ opRows q k w) (s : State) : exec i s = .next (s.opRow q k opc w) := by
  simp only [opRows, List.mem_cons, List.not_mem_nil, or_false, Prod.mk.injEq] at h
  rcases h with ⟨rfl, rfl⟩ | ⟨rfl, rfl⟩ | ⟨rfl, rfl⟩ | ⟨rfl, rfl⟩ | ⟨rfl, rfl⟩ | ⟨rfl, rfl⟩ | ⟨rfl, rfl⟩ | ⟨rfl, rfl⟩ | ⟨rfl, rfl⟩ |
    ⟨rfl, rfl⟩ | ⟨rfl, rfl⟩ | ⟨rfl, rfl⟩ | ⟨rfl, rfl⟩ | ⟨rfl, rfl⟩ | ⟨rfl, rfl⟩ | ⟨rfl, rfl⟩ <;> rfl

/-- While Stable is off no operation does anything (R316). -/
theorem exec_opRow_of_off (h : i ∈ (opRows q k w).map Prod.fst) (off : s.rd R.STB_STAT_OFF = 1) : exec i s = .next s := by
  obtain ⟨⟨i, opc⟩, row, rfl⟩ := List.mem_map.mp h
  rw [exec_opRow row, State.opRow, if_pos (State.on_iff.mpr off)]

theorem opRow_frame (s : State) (q k : Fin 4) (opc : Nat) (w : BitVec 32) : s.Frame [.regs, .spoke, .stb, .flt] (s.opRow q k opc w) :=
  frame_ite .refl (State.runOp_frame Covers.refl .refl)

/-- An operation that meets a fault as it issues ends in the fault of its task (R302, R304, R312). -/
theorem opRow_of_fault (works : s.rd R.STB_STAT_OFF ≠ 1) (idle : (s.stall q).cur = none) (landed : (s.stall q).pend = [])
    {why : Nat} (bad : s.opFault q k opc (opWord opc w) = some why) :
    ∃ c t, s.Rests q c t ∧ s.opRow q k opc w = State.opDrain 40000 q ((t.taskFault q k why).onward q (·.used)) := by
  obtain ⟨c, -, rest⟩ := passGap_rests s q
  exact ⟨c, _, rest, by rw [opRow_of_idle works idle landed, opStart_of_fault ((rest.opFault ..).trans bad)]⟩

/-- The state in which a task fault leaves its stall, seen from the state in which the operation issued. -/
theorem drained_taskFault (t : State) (q k : Fin 4) (order : (t.stall q).order = []) (stop : (t.task q k).stop = []) (why : Nat) :
    ∃ z, State.opDrain 40000 q ((t.taskFault q k why).onward q (·.used)) = z ∧ z.rd (R.STB_TASK_STATE q k) = 5 ∧
      z.rd (R.STB_TASK_WHY q k) = why ∧ z.stall q = { t.stall q with cycle := (t.stall q).cycle + 1, cur := none } ∧
      ∀ j, j / 1024 < 0x7000 → j ∉ taskFields q k → z.rd j = t.rd j := by
  have faulted := taskFault_stall order stop why
  have idle : (((t.taskFault q k why).onward q (·.used)).stall q).cur = none := by
    rw [State.onward, State.modStall_same, faulted]
  have rd : ∀ j, ((t.taskFault q k why).onward q (·.used)).rd j = (t.taskTo q k 5 why).rd j := taskFault_rd order stop why
  obtain ⟨state, reason⟩ := taskTo_rd_state (s := t) q.isLt k.isLt 5 why
  refine ⟨_, opDrain_of_idle idle _, (rd _).trans state, (rd _).trans reason, ?_, fun j block other =>
    (rd j).trans (taskTo_rd_other block other 5 why)⟩
  rw [State.onward, State.modStall_same, faulted]

/-! ### What an operation that goes on leaves -/

/-- The program counter is not a field of a task's state. -/
theorem pc_not_mem_taskFields (q k : Nat) : R.STB_TASK_PC q k ∉ taskFields q k := by
  simp only [taskFields, R.STB_TASK_PC, R.STB_STAT_FAULTED, R.STB_STAT_RUN, R.STB_TASK_WHY, R.STB_TASK_STATE, List.mem_cons,
    List.not_mem_nil, or_false]
  omega

/-- An operation that only makes writes and goes on (R301). -/
theorem runs_of_finish {l : List (StallMem × Nat × Nat)} {f : Map Nat} (row : (i, opc) ∈ opRows q k w) (h : s.Issues q k opc w)
    (ran : ∃ (d : Nat) (z : State) (v : Stall → Nat), b.Rests q d z ∧ (s.stall q).cycle + len ≤ d + 1 ∧
      s.opRow q k opc w = (z.opFinish q u).onward q v)
    (goes : ∀ c z, b.Rests q c z → z.opFinish q u = (z.opDone q u).opGoes q k pc) (long : cycles ≤ len)
    (writes : u.buf = l.map fun e => ⟨0, e.1, e.2.1, e.2.2, k, s.rd (R.STB_TASK_PC q k), none⟩)
    (same : b.stb = s.stb) (fields : s.Fields f b) (frame : s.Frame [.regs, .stb] b) : s.Runs i q k (pc % 4096) cycles l f := by
  obtain ⟨d, z, v, rest, late, ran⟩ := ran
  rw [goes d z rest] at ran
  have stall : ((((z.opDone q u).opGoes q k pc).onward q v).stall q) = { b.stall q with
      cycle := d + 1, used := v ((z.opDone q u).stall q), cur := none
      pend := (b.stall q).pend ++ u.buf.map fun l => { l with cycle := d + 6 } } := by
    rw [State.onward, State.modStall_same, State.opGoes, State.wr_stall, State.opDone, State.modStall_same, rest.cycle, rest.own]
  rw [stall_congr same, h.landed, List.nil_append, writes, List.map_map] at stall
  refine ⟨_, (exec_opRow row s).trans (congrArg _ ran), ?_, ?_, fun n hn => ?_, ?_, ?_⟩
  · rw [stall]
    dsimp only
    omega
  · rw [stall, ← h.idle]
    rfl
  · rw [State.onward, State.modStall_other _ hn, State.opGoes, State.wr_stall, State.opDone, State.modStall_other _ hn,
      rest.others n hn, stall_congr same]
  · exact (fields.of_regs rest.regs).wr.of_regs rfl
  · refine State.modStall_frame (Covers.refl.sub rfl) (State.wr_frame (Covers.refl.sub rfl)
      (State.modStall_frame (Covers.refl.sub rfl) (frame.trans (rest.frame.mono (Covers.refl.sub rfl)))))

/-- An operation of one cycle that changes nothing as it issues. -/
theorem oneCycle_of_other (h : s.Issues q k opc w) (one : opc ∈ oneCycle) (other : opc ≠ 0x8) :
    ∃ (d : Nat) (z : State) (v : Stall → Nat), s.Rests q d z ∧ (s.stall q).cycle + 1 ≤ d + 1 ∧
      s.opRow q k opc w = (z.opFinish q (s.endedOp q k opc w)).onward q v := by
  have plain : opc ∉ [0x7, 0x8, 0xA] := by
    simp only [oneCycle, List.mem_cons, List.not_mem_nil, or_false] at one ⊢
    omega
  exact opRow_of_oneCycle h one h.landed (begins_of_other plain)

theorem nop_runs (h : s.Issues q k 0x0 w) : s.Runs (.nop q k w) q k ((s.rd (R.STB_TASK_PC q k) + 1) % 4096) 1 [] [] :=
  runs_of_finish (by simp [opRows]) h (oneCycle_of_other h (by decide) (by decide)) (fun _ _ _ => opFinish_next (opc := 0x0) rfl (by decide)) le_rfl rfl rfl
    .refl .refl

theorem jump_runs (h : s.Issues q k 0xE w) : s.Runs (.jump q k w) q k (opN w.toNat) 1 [] [] := by
  have goes : ∀ c z, s.Rests q c z → z.opFinish q (s.endedOp q k 0xE w) =
      (z.opDone q (s.endedOp q k 0xE w)).opGoes q k (opN w.toNat) := fun _ z _ => by
    rw [opFinish_jump rfl]
    exact congrArg _ opN_opWord
  rw [← Nat.mod_eq_of_lt (opN_lt w.toNat)]
  exact runs_of_finish (by simp [opRows]) h (oneCycle_of_other h (by decide) (by decide)) goes le_rfl rfl rfl .refl .refl

/-! ### Registers (SETR, ADDR, LOOP) -/

/-- An operation that sets a register and goes on. -/
theorem setAreg_effect (landed : (s.stall q).pend = []) (rest : s.Rests q c t) (n v pc : Nat) (used : Stall → Nat) :
    ∃ z, ((t.setAreg q k n v).opGoes q k pc).onward q used = z ∧ z.areg q k n = v % 65536 ∧
      (∀ m, m ≠ n → z.areg q k m = s.areg q k m) ∧ (z.stall q).pend = [] ∧
      s.Fields [(R.STB_TASK_PC q k, pc % 4096)] z ∧ s.Frame [.regs, .stb] z := by
  have regs : ∀ m, (((t.setAreg q k n v).opGoes q k pc).onward q used).areg q k m = (t.setAreg q k n v).areg q k m :=
    areg_congr (by rw [State.onward, State.modStall_same, State.opGoes, State.wr_stall]) _
  refine ⟨_, rfl, ?_, fun m other => ?_, ?_, ?_, ?_⟩
  · rw [regs, State.setAreg_areg, if_pos rfl]
  · rw [regs, State.setAreg_areg, if_neg other.symm, rest.areg]
  · rw [State.onward, State.modStall_same, State.opGoes, State.wr_stall, State.setAreg_pend, rest.pend, landed]
  · exact ((State.Fields.refl (s := s)).of_regs rest.regs).wr.of_regs rfl
  · exact State.modStall_frame (Covers.refl.sub rfl) (State.wr_frame (Covers.refl.sub rfl)
      (State.modTask_frame (Covers.refl.sub rfl) (rest.frame.mono (Covers.refl.sub rfl))))

theorem setr_effect (h : s.Issues q k 0x1 w) : ∃ t, exec (.setr q k w) s = .next t ∧
    t.areg q k (bits w.toNat 25 3) = bits w.toNat 0 16 ∧ (∀ n, n ≠ bits w.toNat 25 3 → t.areg q k n = s.areg q k n) ∧
    (t.stall q).pend = [] ∧ s.Fields [(R.STB_TASK_PC q k, (s.rd (R.STB_TASK_PC q k) + 1) % 4096)] t ∧ s.Frame [.regs, .stb] t := by
  obtain ⟨d, z, v, rest, -, ran⟩ := oneCycle_of_other h (by decide) (by decide)
  obtain ⟨t, ht, set, kept⟩ := setAreg_effect (k := k) h.landed (rest.opDone (u := s.endedOp q k 0x1 w) rfl) (bits w.toNat 25 3) (bits w.toNat 0 16)
    (s.rd (R.STB_TASK_PC q k) + 1) v
  rw [opFinish_setr rfl] at ran
  simp only [State.endedOp, State.issued, bits_opWord, Nat.reduceAdd, Nat.reduceLeDiff] at ran ht
  refine ⟨t, (exec_opRow (by simp [opRows]) s).trans (congrArg _ (ran.trans ht)), set.trans (Nat.mod_eq_of_lt ?_), kept⟩
  exact Nat.mod_lt _ (by decide)

theorem addr_effect (h : s.Issues q k 0x2 w) : ∃ t, exec (.addr q k w) s = .next t ∧
    t.areg q k (bits w.toNat 25 3) = (s.areg q k (bits w.toNat 25 3) + bits w.toNat 0 16) % 65536 ∧
    (∀ n, n ≠ bits w.toNat 25 3 → t.areg q k n = s.areg q k n) ∧
    (t.stall q).pend = [] ∧ s.Fields [(R.STB_TASK_PC q k, (s.rd (R.STB_TASK_PC q k) + 1) % 4096)] t ∧ s.Frame [.regs, .stb] t := by
  obtain ⟨d, z, v, rest, -, ran⟩ := oneCycle_of_other h (by decide) (by decide)
  obtain ⟨t, ht, effect⟩ := setAreg_effect (k := k) h.landed (rest.opDone (u := s.endedOp q k 0x2 w) rfl) (bits w.toNat 25 3)
    (s.areg q k (bits w.toNat 25 3) + bits w.toNat 0 16) (s.rd (R.STB_TASK_PC q k) + 1) v
  rw [opFinish_addr rfl, (rest.opDone (u := s.endedOp q k 0x2 w) rfl).areg] at ran
  simp only [State.endedOp, State.issued, bits_opWord, Nat.reduceAdd, Nat.reduceLeDiff] at ran ht
  exact ⟨t, (exec_opRow (by simp [opRows]) s).trans (congrArg _ (ran.trans ht)), effect⟩

theorem loop_effect (h : s.Issues q k 0xB w) {n v : Nat} (hn : n = 6 + b2n (bit w.toNat 24))
    (hv : v = (s.areg q k n + 65535) % 65536) : ∃ t, exec (.loop q k w) s = .next t ∧ t.areg q k n = v ∧
    (∀ m, m ≠ n → t.areg q k m = s.areg q k m) ∧
    s.Fields [(R.STB_TASK_PC q k, if v = 0 then (s.rd (R.STB_TASK_PC q k) + 1) % 4096
      else (s.rd (R.STB_TASK_PC q k) + 4096 - opN w.toNat) % 4096)] t ∧ s.Frame [.regs, .stb] t := by
  obtain ⟨d, z, used, rest, -, ran⟩ := oneCycle_of_other h (by decide) (by decide)
  obtain ⟨t, ht, set, kept, -, fields, frame⟩ := setAreg_effect (k := k) h.landed (rest.opDone (u := s.endedOp q k 0xB w) rfl) n v
    (if v = 0 then s.rd (R.STB_TASK_PC q k) + 1 else s.rd (R.STB_TASK_PC q k) + 4096 - opN w.toNat) used
  have count : 6 + b2n (bit (opWord 0xB w) 24) = n := by rw [bit_opWord (by decide), hn]
  rw [opFinish_loop (v := v) rfl (by rw [(rest.opDone (u := s.endedOp q k 0xB w) rfl).areg]; exact hv.trans (by rw [← count]; rfl))] at ran
  simp only [State.endedOp, State.issued, count, opN_opWord] at ran ht
  refine ⟨t, (exec_opRow (by simp [opRows]) s).trans (congrArg _ (ran.trans ht)), set.trans ?_, kept, ?_, frame⟩
  · rw [hv, Nat.mod_mod]
  · rwa [apply_ite (· % 4096)] at fields

/-! ### The ends of a tile (RWAIT, WAITT, END) -/

/-- RWAIT's condition (Table 11-3). -/
theorem ringMeets_iff (s : State) (q opc : Nat) (w : BitVec 32) : s.ringMeets q (opWord opc w) = true ↔
    if bit w.toNat 20 = true then s.rd (R.STB_RING_FILL q (opRing w.toNat)) + opN w.toNat ≤ s.rd (R.STB_RING_SIZE q (opRing w.toNat))
      else opN w.toNat ≤ s.rd (R.STB_RING_FILL q (opRing w.toNat)) := by
  unfold State.ringMeets
  rw [bit_opWord (by decide), opRing_opWord, opN_opWord]
  split <;> exact decide_eq_true_iff

theorem State.Rests.ringMeets (h : b.Rests q c t) (w : Nat) : t.ringMeets q w = b.ringMeets q w := by
  unfold State.ringMeets
  simp only [h.rd]

theorem rwait_runs (h : s.Issues q k 0x9 w) (meets : s.ringMeets q (opWord 0x9 w) = true) :
    s.Runs (.rwait q k w) q k ((s.rd (R.STB_TASK_PC q k) + 1) % 4096) 1 [] [] := by
  have goes : ∀ c z, s.Rests q c z → z.opFinish q (s.endedOp q k 0x9 w) =
      (z.opDone q (s.endedOp q k 0x9 w)).opGoes q k (s.rd (R.STB_TASK_PC q k) + 1) := fun _ z rest => by
    have met : (z.opDone q (s.endedOp q k 0x9 w)).ringMeets q (s.endedOp q k 0x9 w).word = true :=
      ((rest.opDone (u := s.endedOp q k 0x9 w) rfl).ringMeets _).trans meets
    rw [opFinish_rwait rfl, if_pos met]
    rfl
  exact runs_of_finish (by simp [opRows]) h (oneCycle_of_other h (by decide) (by decide)) goes le_rfl rfl rfl .refl .refl

/-- The last tile of a window ends with its operation (R308, R309). -/
theorem lastTile_effect (order : (s.stall q).order = [k.val]) (stop : (s.task q k).stop = []) (v : Stall → Nat) :
    ∃ z, (s.tileEnd q k).onward q v = z ∧ (z.stall q).order = [] ∧ (z.stall q).cur = none ∧ (∀ j, z.task q j = s.task q j) ∧
      (z.stall q).act = (s.stall q).act ∧ (z.stall q).psum = (s.stall q).psum ∧ z.regs = s.regs ∧ s.Frame [.stb] z := by
  rw [tileEnd_of_last order stop]
  refine ⟨_, rfl, ?_, ?_, task_congr ?_, ?_, ?_, rfl, State.modStall_frame Covers.refl (State.modStall_frame Covers.refl
    (State.modStall_frame Covers.refl .refl))⟩ <;>
    rw [State.onward, State.modStall_same, State.modStall_same, State.modStall_same]
  rw [order]
  rfl

/-- RWAIT on a ring that does not meet it ends the tile at this operation (R309). -/
theorem rwait_waits (h : s.Issues q k 0x9 w) (order : (s.stall q).order = [k.val]) (stop : (s.task q k).stop = [])
    (waits : ¬ s.ringMeets q (opWord 0x9 w) = true) : ∃ t, exec (.rwait q k w) s = .next t ∧ (t.stall q).order = [] ∧
    (t.stall q).cur = none ∧ (∀ r, t.rd r = s.rd r) ∧ s.Frame [.stb] t := by
  obtain ⟨d, z, v, rest, -, ran⟩ := oneCycle_of_other h (by decide) (by decide)
  have rest := rest.opDone (u := s.endedOp q k 0x9 w) rfl
  have unmet : ¬ (z.opDone q (s.endedOp q k 0x9 w)).ringMeets q (s.endedOp q k 0x9 w).word = true := fun met =>
    waits ((rest.ringMeets _).symm.trans met)
  rw [opFinish_rwait rfl, if_neg unmet] at ran
  obtain ⟨t, ht, none_, idle, -, -, -, regs, frame⟩ := lastTile_effect (rest.order.trans order) ((congrArg _ (rest.task k)).trans stop) v
  exact ⟨t, (exec_opRow (by simp [opRows]) s).trans (congrArg _ (ran.trans ht)), none_, idle,
    rd_congr (regs.trans rest.regs), rest.frame.trans frame⟩

theorem waitt_effect (h : s.Issues q k 0xC w) (order : (s.stall q).order = [k.val]) (stop : (s.task q k).stop = []) :
    ∃ t, exec (.waitt q k w) s = .next t ∧ (t.task q k) = { s.task q k with skip := opN w.toNat - 1 } ∧ (t.stall q).order = [] ∧
    s.Fields [(R.STB_TASK_PC q k, (s.rd (R.STB_TASK_PC q k) + 1) % 4096)] t ∧ s.Frame [.regs, .stb] t := by
  obtain ⟨d, z, v, rest, -, ran⟩ := oneCycle_of_other h (by decide) (by decide)
  have rest := rest.opDone (u := s.endedOp q k 0xC w) rfl
  rw [opFinish_waitt rfl] at ran
  generalize hy : (((z.opDone q (s.endedOp q k 0xC w)).opGoes q (s.endedOp q k 0xC w).ctx ((s.endedOp q k 0xC w).pc + 1)).modTask q
    (s.endedOp q k 0xC w).ctx fun t => { t with skip := opN (s.endedOp q k 0xC w).word - 1 }) = y at ran
  have task : y.task q k = { s.task q k with skip := opN w.toNat - 1 } := by
    rw [← hy, ← rest.task k, ← opN_opWord (opc := 0xC)]
    exact State.modTask_task ..
  have first : (y.stall q).order = [k.val] := by
    rw [← hy, State.modTask_stall]
    exact rest.order.trans order
  obtain ⟨t, ht, none_, -, tasks, -, -, regs, frame⟩ := lastTile_effect first (by rw [task]; exact stop) v
  refine ⟨t, (exec_opRow (by simp [opRows]) s).trans (congrArg _ (ran.trans ht)), (tasks k).trans task, none_, ?_, ?_⟩
  · exact ((State.Fields.refl (s := s)).of_regs rest.regs).wr.of_regs (regs.trans (by rw [← hy]; rfl))
  · rw [← hy] at frame
    exact (rest.frame.mono (Covers.refl.sub rfl)).trans ((State.modTask_frame (Covers.refl.sub rfl)
      (State.wr_frame (Covers.refl.sub rfl) .refl)).trans (frame.mono (Covers.refl.sub rfl)))

/-- What is said of a state's fields holds of another with the same fields. -/
theorem State.Fields.of_base {l : Map Nat} (h : b.Fields l t) (e : b.regs = s.regs) : s.Fields l t := fun j => by
  rw [h j, rd_congr e]

theorem end_effect (h : s.Issues q k 0xF w) (order : (s.stall q).order = [k.val]) (stop : (s.task q k).stop = []) :
    ∃ t, exec (.opEnd q k w) s = .next t ∧ t.task q k = { s.task q k with ar := [] } ∧ (t.stall q).order = [] ∧
    (t.stall q).act = (s.stall q).act ∧ (t.stall q).psum = (s.stall q).psum ∧
    s.Fields [(R.STB_STAT_FAULTED, setBit (s.rd R.STB_STAT_FAULTED) (4 * q + k) false),
      (R.STB_STAT_RUN, setBit (s.rd R.STB_STAT_RUN) (4 * q + k) false), (R.STB_TASK_WHY q k, 0), (R.STB_TASK_STATE q k, 2)] t ∧
    s.Frame [.regs, .spoke, .stb] t := by
  obtain ⟨d, z, v, rest, -, ran⟩ := oneCycle_of_other h (by decide) (by decide)
  have rest := rest.opDone (u := s.endedOp q k 0xF w) rfl
  rw [opFinish_end rfl] at ran
  generalize hy : ((z.opDone q (s.endedOp q k 0xF w)).modTask q (s.endedOp q k 0xF w).ctx fun t => { t with ar := [] }) = y at ran
  have regs : y.regs = s.regs := by rw [← hy]; exact rest.regs
  have stall : y.stall q = { (z.opDone q (s.endedOp q k 0xF w)).stall q with tasks := (y.stall q).tasks } := by
    rw [← hy, State.modTask_stall]
  have task : y.task q k = { s.task q k with ar := [] } := by
    rw [← hy, ← rest.task k]
    exact State.modTask_task ..
  obtain ⟨fields, frame⟩ := taskTo_fields_of_not_fault (s := y) (q := q) (k := k) (state := 2) (by decide) 0
  obtain ⟨t, ht, none_, -, tasks, act, psum, regs', frame'⟩ := lastTile_effect (s := y.taskTo q k 2 0)
    (by rw [taskTo_stall, stall]; exact rest.order.trans order)
    (by rw [task_congr (s := y) (by rw [taskTo_stall]), task]; exact stop) v
  rw [taskTo_stall, stall] at act psum
  refine ⟨t, (exec_opRow (by simp [opRows]) s).trans (congrArg _ (ran.trans ht)), ?_, none_,
    act.trans (by rw [rest.own]), psum.trans (by rw [rest.own]), ?_, ?_⟩
  · rw [tasks, task_congr (s := y) (by rw [taskTo_stall]), task]
  · rw [rd_congr regs, rd_congr regs] at fields
    exact (fields.of_base regs).of_regs regs'
  · have start : s.Frame [.stb] y := by rw [← hy]; exact State.modTask_frame Covers.refl rest.frame
    exact (start.mono (Covers.refl.sub rfl)).trans ((frame.mono (Covers.refl.sub rfl)).trans (frame'.mono (Covers.refl.sub rfl)))

/-! ### Ring pointers (R303, R304, R330) -/

/-- The faults of an RADV (R304, R331). -/
theorem opFault_radv (s : State) (q k w : Nat) : s.opFault q k 0x8 w =
    if (!s.on (R.STB_RING_EN q (opRing w))) = true then some 4
    else if bit w 20 = true then (if (s.rd (R.STB_RING_ROLE q (opRing w)) == 3 ||
      decide (s.rd (R.STB_RING_SIZE q (opRing w)) < s.rd (R.STB_RING_FILL q (opRing w)) + opN w)) = true then some 4 else none)
    else if s.rd (R.STB_RING_FILL q (opRing w)) < opN w then some 4 else none := rfl

/-- What an RADV that meets no fault finds. -/
theorem radv_sound (h : s.opFault q k 0x8 (opWord 0x8 w) = none) : s.on (R.STB_RING_EN q (opRing w.toNat)) = true ∧
    (bit w.toNat 20 = true → s.rd (R.STB_RING_ROLE q (opRing w.toNat)) ≠ 3) ∧
    (bit w.toNat 20 = false → opN w.toNat ≤ s.rd (R.STB_RING_FILL q (opRing w.toNat))) := by
  rw [opFault_radv, opRing_opWord, opN_opWord, bit_opWord (by decide)] at h
  split at h
  · exact absurd h (Option.some_ne_none 4)
  · rename_i on
    refine ⟨by simpa using on, fun push role => ?_, fun pop => ?_⟩
    · rw [if_pos push, role] at h
      exact absurd h (Option.some_ne_none 4)
    · rw [if_neg (by rw [pop]; exact Bool.false_ne_true)] at h
      exact Nat.not_lt.mp fun short => absurd ((if_pos short).symm.trans h) (Option.some_ne_none 4)

theorem opBegin_radv (s : State) (q w : Nat) (u : OpRun) : s.opBegin q 0x8 w u =
    let y := s.modStall q fun x => { x with cur := some u }
    if bit w 20 = true then y.ringPush q (opRing w) (opN w)
    else if (y.ringPop q (opRing w) (opN w)).rd (R.STB_RING_ROLE q (opRing w)) = 3
      then (y.ringPop q (opRing w) (opN w)).modRing q (opRing w) (freed (opN w)) else y.ringPop q (opRing w) (opN w) := rfl

@[simp] theorem ringPush_stb (s : State) (q r n : Nat) : (s.ringPush q r n).stb = s.stb :=
  (State.ringPush_frame (l := [.regs]) (fun _ h => h) .refl) .stb (by decide)

theorem ringPush_fields {r n : Nat} (on : s.on (R.STB_RING_EN q r) = true) : s.Fields
    [(R.STB_RING_FILL q r, s.rd (R.STB_RING_FILL q r) + n),
      (R.STB_RING_HEAD q r, (s.rd (R.STB_RING_HEAD q r) + n) % s.rd (R.STB_RING_SIZE q r))] (s.ringPush q r n) := by
  unfold State.ringPush
  rw [if_pos on]
  exact State.Fields.refl.wrs

@[simp] theorem ringPop_stb (s : State) (q r n : Nat) : (s.ringPop q r n).stb = s.stb := rfl

theorem ringPop_fields (s : State) (q r n : Nat) : s.Fields [(R.STB_RING_FILL q r, s.rd (R.STB_RING_FILL q r) - n),
    (R.STB_RING_TAIL q r, (s.rd (R.STB_RING_TAIL q r) + n) % s.rd (R.STB_RING_SIZE q r))] (s.ringPop q r n) := State.Fields.refl.wrs

/-- A ring's role does not change as its tail advances. -/
theorem ringPop_role (s : State) (q r n : Nat) : (s.ringPop q r n).rd (R.STB_RING_ROLE q r) = s.rd (R.STB_RING_ROLE q r) := by
  refine (ringPop_fields s q r n).rd_other fun e he => ?_
  simp only [List.mem_cons, List.not_mem_nil, or_false] at he
  rcases he with rfl | rfl <;> dsimp only [R.STB_RING_FILL, R.STB_RING_TAIL, R.STB_RING_ROLE] <;> omega

theorem radv_runs (h : s.Issues q k 0x8 w) {n r : Nat} (hn : n = opN w.toNat) (hr : r = opRing w.toNat)
    (own : s.rd (R.STB_RING_ROLE q r) ≠ 3) : s.Runs (.radv q k w) q k ((s.rd (R.STB_TASK_PC q k) + 1) % 4096) 1 []
      (if bit w.toNat 20 = true then
      [(R.STB_RING_FILL q r, s.rd (R.STB_RING_FILL q r) + n), (R.STB_RING_HEAD q r, (s.rd (R.STB_RING_HEAD q r) + n) % s.rd (R.STB_RING_SIZE q r))]
      else [(R.STB_RING_FILL q r, s.rd (R.STB_RING_FILL q r) - n), (R.STB_RING_TAIL q r, (s.rd (R.STB_RING_TAIL q r) + n) % s.rd (R.STB_RING_SIZE q r))]) := by
  subst hn hr
  obtain ⟨on, -, -⟩ := radv_sound h.sound
  by_cases push : bit w.toNat 20 = true
  · rw [if_pos push]
    refine runs_of_finish (by simp [opRows]) h (opRow_of_oneCycle (b := s.ringPush q (opRing w.toNat) (opN w.toNat)) h (by decide) ?_
      fun c t rest => ?_) (fun _ _ _ => opFinish_next (opc := 0x8) rfl (by decide)) le_rfl rfl (ringPush_stb ..) (ringPush_fields on)
      (State.ringPush_frame (Covers.refl.sub rfl) .refl)
    · rw [stall_congr (ringPush_stb ..), h.landed]
    · rw [opBegin_radv, bit_opWord (by decide), opRing_opWord, opN_opWord]
      dsimp only
      rw [if_pos push]
      exact ⟨(rest.setCur _).ringPush _ _, by rw [stall_congr (ringPush_stb ..), State.modStall_same]⟩
  · rw [if_neg push]
    refine runs_of_finish (by simp [opRows]) h (opRow_of_oneCycle (b := s.ringPop q (opRing w.toNat) (opN w.toNat)) h (by decide) ?_
      fun c t rest => ?_) (fun _ _ _ => opFinish_next (opc := 0x8) rfl (by decide)) le_rfl rfl (ringPop_stb ..) (ringPop_fields _ _ _ _)
      (State.wrs_frame (Covers.refl.sub rfl) .refl)
    · rw [stall_congr (ringPop_stb ..), h.landed]
    · rw [opBegin_radv, bit_opWord (by decide), opRing_opWord, opN_opWord]
      dsimp only
      rw [if_neg push, ringPop_role, State.modStall_rd, rest.rd, if_neg own]
      exact ⟨(rest.setCur _).ringPop _ _, by rw [stall_congr (ringPop_stb ..), State.modStall_same]⟩

/-- A task's program counter is no field of a ring. -/
theorem pc_ne_fill (q k q' r : Nat) : R.STB_TASK_PC q k ≠ R.STB_RING_FILL q' r := by
  dsimp only [R.STB_TASK_PC, R.STB_RING_FILL]
  omega

/-- An RADV of a neighbour's ring counts what it frees toward credits (R330). -/
theorem radv_frees (h : s.Issues q k 0x8 w) {n r : Nat} (hn : n = opN w.toNat) (hr : r = opRing w.toNat)
    (role : s.rd (R.STB_RING_ROLE q r) = 3) : ∃ t, exec (.radv q k w) s = .next t ∧ bit w.toNat 20 = false ∧
    64 * (t.ring q r).grants + (t.ring q r).count = 64 * (s.ring q r).grants + (s.ring q r).count + n ∧
    (t.ring q r).count < 64 ∧ t.rd (R.STB_RING_FILL q r) + n = s.rd (R.STB_RING_FILL q r) ∧ s.Frame [.regs, .stb] t := by
  subst hn hr
  obtain ⟨on, foreign, enough⟩ := radv_sound h.sound
  have pop : bit w.toNat 20 = false := Bool.eq_false_iff.mpr fun push => foreign push role
  generalize hb : (s.ringPop q (opRing w.toNat) (opN w.toNat)).modRing q (opRing w.toNat) (freed (opN w.toNat)) = b
  have begins : ∀ c t, s.Rests q c t → b.Rests q c (t.opBegin q 0x8 (opWord 0x8 w) (s.issued q k 0x8 (opWord 0x8 w))) ∧
      ((t.opBegin q 0x8 (opWord 0x8 w) (s.issued q k 0x8 (opWord 0x8 w))).stall q).cur = some (s.issued q k 0x8 (opWord 0x8 w)) := by
    intro c t rest
    rw [opBegin_radv, bit_opWord (by decide), opRing_opWord, opN_opWord]
    dsimp only
    rw [pop, if_neg Bool.false_ne_true, ringPop_role, State.modStall_rd, rest.rd, if_pos role, ← hb]
    have popped := (rest.setCur (some (s.issued q k 0x8 (opWord 0x8 w)))).ringPop (opRing w.toNat) (opN w.toNat)
    refine ⟨popped.modRing _ _, ?_⟩
    rw [State.modRing, State.modStall_same, stall_congr (ringPop_stb ..), State.modStall_same]
  have landed : (b.stall q).pend = [] := by
    rw [← hb, State.modRing, State.modStall_same, stall_congr (ringPop_stb ..), h.landed]
  obtain ⟨d, z, v, rest, -, ran⟩ := opRow_of_oneCycle h (by decide) landed begins
  have rest := rest.opDone (u := s.endedOp q k 0x8 w) rfl
  rw [opFinish_next (opc := 0x8) rfl (by decide)] at ran
  have ring : b.ring q (opRing w.toNat) = freed (opN w.toNat) (s.ring q (opRing w.toNat)) := by
    rw [← hb, State.modRing_ring]
    rfl
  generalize ht : ((z.opDone q (s.endedOp q k 0x8 w)).opGoes q _ _).onward q v = t at ran
  have ends : t.ring q (opRing w.toNat) = freed (opN w.toNat) (s.ring q (opRing w.toNat)) := by
    rw [← ring, ← ht]
    exact ring_congr (by rw [State.onward, State.modStall_same, State.opGoes, State.wr_stall, rest.own]) _
  have fill : t.rd (R.STB_RING_FILL q (opRing w.toNat)) = s.rd (R.STB_RING_FILL q (opRing w.toNat)) - opN w.toNat := by
    have popped : b.rd (R.STB_RING_FILL q (opRing w.toNat)) = s.rd (R.STB_RING_FILL q (opRing w.toNat)) - opN w.toNat := by
      rw [← hb]
      exact (ringPop_fields s q (opRing w.toNat) (opN w.toNat) _).trans (by rw [mget?_cons, if_pos rfl]; rfl)
    rw [← popped, ← rest.rd, ← ht]
    exact State.wr_rd_other _ _ (pc_ne_fill _ _ _ _)
  refine ⟨t, (exec_opRow (by simp [opRows]) s).trans (congrArg _ ran), pop, ?_, ?_, ?_, ?_⟩
  · rw [ends, freed]
    dsimp only
    omega
  · rw [ends]
    exact Nat.mod_lt _ (by decide)
  · rw [fill, Nat.sub_add_cancel (enough pop)]
  · rw [← ht]
    have start : s.Frame [.regs, .stb] b := by
      rw [← hb]
      exact State.modRing_frame (Covers.refl.sub rfl) (State.wrs_frame (Covers.refl.sub rfl) .refl)
    exact State.modStall_frame (Covers.refl.sub rfl) (State.wr_frame (Covers.refl.sub rfl)
      (start.trans (rest.frame.mono (Covers.refl.sub rfl))))

end
end Sys2Proof.Machine
end

section
/-!
PROOFS. The operations that read and write vectors (R298, R299, R301, R303, R304, Tables 11-3 and 11-4): what an operation has written
before each of its cycles, and what MACT, ACT, POOL, MOVE and STORE leave on its way to memory.
-/

namespace Sys2Proof.Machine

/-- An operation before its cycle i, with the writes it has made and the vector that POOL has formed so far. -/
def OpRun.after (u : OpRun) (i : Nat) (l : List (StallMem × Nat × Nat)) (acc : List Int) : OpRun :=
  { u with i := i, buf := l.map fun e => ⟨0, e.1, e.2.1, e.2.2, u.ctx, u.pc, none⟩, acc := acc }

/-- An operation after one more cycle over a stall's memories. -/
def State.worked (s : State) (q : Nat) (u : OpRun) : OpRun :=
  let u' := (s.cycleWork q u ((s.cycleReads q u).map fun e => s.unitAt q e.1 e.2)).2
  { u' with i := u'.i + 1 }

section
variable {s t b : State} {q k opc n c : Nat} {u : OpRun}

theorem State.Rests.cycleReads (h : b.Rests q c t) (u : OpRun) : t.cycleReads q u = b.cycleReads q u := by
  unfold State.cycleReads
  simp only [h.accessUnit]

/-- But for a send, a cycle of an operation changes nothing in its stall. -/
theorem State.Rests.cycleWork (h : b.Rests q c t) (still : u.opc ≠ 0xA ∨ u.drop = true) (vals : List Nat) :
    t.cycleWork q u vals = (t, (b.cycleWork q u vals).2) := by
  unfold State.cycleWork
  simp only [h.unitAt, h.accessUnit, h.ringUnit]
  split
  · rfl
  · rfl
  · split <;> rfl
  · rfl
  · rename_i send
    rw [if_pos (still.resolve_left (not_not_intro send)), if_pos (still.resolve_left (not_not_intro send))]
  · rfl
  · rfl

/-- A cycle in which the units read have good parity. -/
theorem opCycle_of_sound (quiet : t.rd R.STB_SP_STAT_AUDIT ≠ 1)
    (sound : ∀ e ∈ t.cycleReads q u, t.parityBad q e.1 e.2 = false) (load : u.opc ≠ 0x3) (long : opCycles u.opc u.word ≠ 0)
    (more : u.i < u.len) : t.opCycle q u =
      let r := t.cycleWork q u ((t.cycleReads q u).map fun e => t.unitAt q e.1 e.2)
      let u' : OpRun := { r.2 with i := r.2.i + 1 }
      if u'.i < u'.len then r.1.modStall q fun x => { x with cur := some u' } else r.1.opFinish q u' := by
  have noLoad : ¬ (u.opc = 0x3 ∧ u.i = 0) := fun h => load h.1
  have reads : (if u.i < u.len ∧ opCycles u.opc u.word ≠ 0 then t.cycleReads q u else []) = t.cycleReads q u := if_pos ⟨more, long⟩
  unfold State.opCycle
  rw [reads, readUnits_of_sound quiet sound]
  simp only [Bool.false_eq_true, if_false, if_neg noLoad, if_neg long]

/-- A cycle of an operation that changes nothing but itself. -/
theorem opCycle_of_rests (rest : b.Rests q c t) (quiet : b.rd R.STB_SP_STAT_AUDIT ≠ 1)
    (sound : ∀ e ∈ b.cycleReads q u, b.parityBad q e.1 e.2 = false) (load : u.opc ≠ 0x3) (still : u.opc ≠ 0xA ∨ u.drop = true)
    (long : opCycles u.opc u.word ≠ 0) (more : u.i < u.len) : t.opCycle q u =
      if (b.worked q u).i < (b.worked q u).len then t.modStall q fun x => { x with cur := some (b.worked q u) }
      else t.opFinish q (b.worked q u) := by
  have good : ∀ e ∈ t.cycleReads q u, t.parityBad q e.1 e.2 = false := by
    rw [rest.cycleReads]
    exact fun e he => (rest.parityBad ..).trans (sound e he)
  rw [opCycle_of_sound (by rwa [rest.rd]) good load long more, rest.cycleReads, rest.cycleWork still]
  simp only [rest.unitAt]
  rfl

/-- A cycle of an operation that takes none of its own. -/
theorem opCycle_of_empty (load : u.opc ≠ 0x3) (empty : opCycles u.opc u.word = 0) : t.opCycle q u =
    if u.i + 1 < u.len then t.modStall q fun x => { x with cur := some { u with i := u.i + 1 } }
    else t.opFinish q { u with i := u.i + 1 } := by
  have nothing : t.readUnits q u.ctx u.pc [] = ([], false, t) := rfl
  have noLoad : ¬ (u.opc = 0x3 ∧ u.i = 0) := fun h => load h.1
  have reads : (if u.i < u.len ∧ opCycles u.opc u.word ≠ 0 then t.cycleReads q u else []) = [] := if_neg fun h => h.2 empty
  unfold State.opCycle
  rw [reads, nothing]
  simp only [Bool.false_eq_true, if_false, if_neg noLoad, if_pos empty]

/-- The cycles of an operation whose writes are W and whose formed vector is A. -/
theorem steps_of_pass (len : u.len = max 1 n) (cycles : opCycles u.opc u.word = n) (load : u.opc ≠ 0x3)
    (still : u.opc ≠ 0xA ∨ u.drop = true) (quiet : b.rd R.STB_SP_STAT_AUDIT ≠ 1) {W : Nat → List (StallMem × Nat × Nat)}
    {A : Nat → List Int} (sound : ∀ i < n, ∀ e ∈ b.cycleReads q (u.after i (W i) (A i)), b.parityBad q e.1 e.2 = false)
    (pass : ∀ i < n, b.worked q (u.after i (W i) (A i)) = u.after (i + 1) (W (i + 1)) (A (i + 1))) :
    ∀ i < max 1 n, ∀ c t, b.Rests q c t → t.opCycle q (u.after i (W i) (A i)) =
      if i + 1 < max 1 n then t.modStall q fun x => { x with cur := some (u.after (i + 1) (W (i + 1)) (A (i + 1))) }
      else t.opFinish q (u.after (max 1 n) (W n) (A n)) := by
  intro i hi c t rest
  obtain rfl | pos := n.eq_zero_or_pos
  · obtain rfl : i = 0 := by omega
    have ends : ¬ (u.after 0 (W 0) (A 0)).i + 1 < (u.after 0 (W 0) (A 0)).len := by
      show ¬ 0 + 1 < u.len
      rw [len]
      decide
    rw [opCycle_of_empty (u := u.after 0 (W 0) (A 0)) load cycles, if_neg ends]
    rfl
  · rw [max_eq_right pos] at hi len ⊢
    have long : opCycles (u.after i (W i) (A i)).opc (u.after i (W i) (A i)).word ≠ 0 := (cycles.trans_gt pos).ne'
    rw [opCycle_of_rests (u := u.after i (W i) (A i)) rest quiet (sound i hi) load still long (hi.trans_eq len.symm), pass i hi]
    obtain more | rfl := Nat.lt_or_eq_of_le (Nat.succ_le_of_lt hi)
    · exact (if_pos (more.trans_eq len.symm)).trans (if_pos more).symm
    · exact (if_neg (len.trans_le le_rfl).not_gt).trans (if_neg (Nat.lt_irrefl _)).symm

/-! ### One cycle of each -/

/-- A write made in a cycle joins those before it. -/
theorem after_write (u : OpRun) (i : Nat) (l : List (StallMem × Nat × Nat)) (acc acc' : List Int) (m : StallMem) (unit val : Nat) :
    { (u.after i l acc).write m unit val with i := i + 1, acc := acc' } = u.after (i + 1) (l ++ [(m, unit, val)]) acc' := by
  simp [OpRun.after, OpRun.write]

/-- The list of what a function gives for 0 to i grows at its end. -/
theorem map_range_succ {α : Type} (f : Nat → α) (i : Nat) : (List.range (i + 1)).map f = (List.range i).map f ++ [f i] := by
  rw [List.range_succ, List.map_append, List.map_singleton]

theorem worked_mact (h : u.opc = 0x4) : s.worked q u =
    { u.write .psum (u.dst + u.i) (macVector (s.unitAt q .latch (b2n (bit u.word 20))) (s.unitAt q .act (s.accessUnit q .act u.src u.i))
      (if bit u.word 21 = true then 0 else s.unitAt q .psum (u.dst + u.i))) with i := u.i + 1 } := by
  have reads : s.cycleReads q u = (.act, s.accessUnit q .act u.src u.i) ::
      (if bit u.word 21 = true then [] else [(.psum, u.dst + u.i)]) := by
    unfold State.cycleReads; rw [h]; rfl
  have work : ∀ vals : List Nat, s.cycleWork q u vals = (s, u.write .psum (u.dst + u.i) (macVector
      (s.unitAt q .latch (b2n (bit u.word 20))) (vals.headD 0) (if bit u.word 21 = true then 0 else vals.getD 1 0))) := fun vals => by
    unfold State.cycleWork; rw [h]; rfl
  rw [State.worked, work, reads]
  split <;> rfl

theorem worked_act (h : u.opc = 0x5) : s.worked q u =
    { u.write .act (s.accessUnit q .act u.dst u.i) (vecOf ((List.range 8).map fun j =>
      activate (bits u.word 19 3) (bits u.word 14 5) (sumAt (s.unitAt q .psum (u.src + u.i)) j))) with i := u.i + 1 } := by
  have reads : s.cycleReads q u = [(.psum, u.src + u.i)] := by unfold State.cycleReads; rw [h]; rfl
  have work : ∀ vals : List Nat, s.cycleWork q u vals = (s, u.write .act (s.accessUnit q .act u.dst u.i) (vecOf ((List.range 8).map fun j =>
      activate (bits u.word 19 3) (bits u.word 14 5) (sumAt (vals.headD 0) j)))) := fun vals => by
    unfold State.cycleWork; rw [h]; rfl
  rw [State.worked, work, reads]
  rfl

theorem worked_store (h : u.opc = 0x7) : s.worked q u =
    { u.write .act (s.ringUnit q (opRing u.word) (u.dst + u.i)) (s.unitAt q .act (s.accessUnit q .act u.src u.i)) with i := u.i + 1 } := by
  have reads : s.cycleReads q u = [(.act, s.accessUnit q .act u.src u.i)] := by unfold State.cycleReads; rw [h]; rfl
  have work : ∀ vals : List Nat, s.cycleWork q u vals =
      (s, u.write .act (s.ringUnit q (opRing u.word) (u.dst + u.i)) (vals.headD 0)) := fun vals => by
    unfold State.cycleWork; rw [h]; rfl
  rw [State.worked, work, reads]
  rfl

theorem worked_move (h : u.opc = 0xD) {m : StallMem} (hm : m = if bit u.word 21 = true then .psum else .act) : s.worked q u =
    { u.write m (s.accessUnit q m u.dst u.i) (s.unitAt q m (s.accessUnit q m u.src u.i)) with i := u.i + 1 } := by
  have reads : s.cycleReads q u = [(m, s.accessUnit q m u.src u.i)] := by rw [hm]; unfold State.cycleReads; rw [h]; rfl
  have work : ∀ vals : List Nat, s.cycleWork q u vals = (s, u.write m (s.accessUnit q m u.dst u.i) (vals.headD 0)) := fun vals => by
    rw [hm]; unfold State.cycleWork; rw [h]; rfl
  rw [State.worked, work, reads]
  rfl

/-- A cycle of POOL forms its vector further and, with its last input, writes it. -/
theorem worked_pool (h : u.opc = 0x6) : s.worked q u =
    let acc := poolStep (bit u.word 21) (u.i % opK u.word == 0) u.acc (s.unitAt q .act (s.accessUnit q .act u.src u.i))
    if u.i % opK u.word + 1 = opK u.word then
      { u.write .act (s.accessUnit q .act u.dst (u.i / opK u.word)) (poolOut (bit u.word 21) (opK u.word) acc) with
        i := u.i + 1, acc := acc }
    else { u with i := u.i + 1, acc := acc } := by
  have reads : s.cycleReads q u = [(.act, s.accessUnit q .act u.src u.i)] := by unfold State.cycleReads; rw [h]; rfl
  have work : ∀ vals : List Nat, s.cycleWork q u vals =
      let acc := poolStep (bit u.word 21) (u.i % opK u.word == 0) u.acc (vals.headD 0)
      if u.i % opK u.word + 1 = opK u.word then
        (s, { u.write .act (s.accessUnit q .act u.dst (u.i / opK u.word)) (poolOut (bit u.word 21) (opK u.word) acc) with acc := acc })
      else (s, { u with acc := acc }) := fun vals => by
    obtain ⟨ctx, pc, opc, word, i, len, src, dst, drop, buf, acc⟩ := u
    obtain rfl : opc = 0x6 := h
    rfl
  rw [State.worked, work, reads]
  dsimp only
  split <;> rfl

end

/-! ### Operations that only make writes -/

section
variable {s b : State} {q k : Fin 4} {opc n dst : Nat} {w : BitVec 32} {i : Instr}

/-- An operation on N vectors takes N cycles (Table 11-4). -/
theorem opCycles_vectors (h : opc ∈ [0x4, 0x5, 0x7, 0xA, 0xD]) (w : Nat) : opCycles opc w = opN w := by
  simp only [List.mem_cons, List.not_mem_nil, or_false] at h
  rcases h with rfl | rfl | rfl | rfl | rfl <;> rfl

theorem opN_short (w : Nat) : opN w ≤ 32760 := (opN_lt w).le.trans (by decide)

/-- An operation on a stall with good parity that makes the writes W and goes on (R301). -/
theorem runs_of_pass (row : (i, opc) ∈ opRows q k w) (h : s.Issues q k opc w) (good : (b.stall q).parBad = [])
    (quiet : b.rd R.STB_SP_STAT_AUDIT ≠ 1) (vectors : opc ∈ [0x4, 0x5, 0x6, 0x7, 0xD]) (cycles : opCycles opc (opWord opc w) = n) (short : n ≤ 32760)
    {u : OpRun} (hu : u = { s.issued q k opc (opWord opc w) with dst := dst })
    (begins : ∀ c t, s.Rests q c t → b.Rests q c (t.opBegin q opc (opWord opc w) (s.issued q k opc (opWord opc w))) ∧
      ((t.opBegin q opc (opWord opc w) (s.issued q k opc (opWord opc w))).stall q).cur = some u)
    {W : Nat → List (StallMem × Nat × Nat)} {A : Nat → List Int} (W0 : W 0 = []) (A0 : A 0 = [])
    (pass : ∀ i < n, b.worked q (u.after i (W i) (A i)) = u.after (i + 1) (W (i + 1)) (A (i + 1)))
    {f : Map Nat} (same : b.stb = s.stb) (fields : s.Fields f b) (frame : s.Frame [.regs, .stb] b) :
    s.Runs i q k ((s.rd (R.STB_TASK_PC q k) + 1) % 4096) n (W n) f := by
  have other : opc ≠ 0x3 ∧ opc ≠ 0xA ∧ opc ∈ [0x0, 0x4, 0x5, 0x6, 0x7, 0x8, 0xA, 0xD] := by
    simp only [List.mem_cons, List.not_mem_nil, or_false] at vectors ⊢
    omega
  obtain ⟨load, send, next⟩ := other
  have start : u.after 0 (W 0) (A 0) = u := by rw [W0, A0, hu]; rfl
  have steps := steps_of_pass (u := u) (n := n) (W := W) (A := A) (by rw [hu, ← cycles]; rfl) (by rw [hu]; exact cycles)
    (by rw [hu]; exact load) (.inl (by rw [hu]; exact send)) quiet (fun _ _ _ _ => parityBad_eq_false good _ _) pass
  refine runs_of_finish row h (opRow_of_steps (U := fun i => u.after i (W i) (A i)) h ?_ (by omega) (by omega)
    (fun c t rest => by rw [start]; exact begins c t rest) steps)
    (fun _ _ _ => (opFinish_next (opc := opc) (by rw [hu]; rfl) next).trans (by rw [hu]; rfl)) (le_max_right _ _) (by rw [hu]; rfl)
    same fields frame
  rw [stall_congr same, h.landed]

/-- An operation on N vectors, with the write W i in its cycle i. -/
theorem runs_of_vectors (row : (i, opc) ∈ opRows q k w) (h : s.Issues q k opc w) (good : (b.stall q).parBad = [])
    (quiet : b.rd R.STB_SP_STAT_AUDIT ≠ 1) (vectors : opc ∈ [0x4, 0x5, 0x7, 0xD]) (hn : n = opN w.toNat)
    {u : OpRun} (hu : u = { s.issued q k opc (opWord opc w) with dst := dst })
    (begins : ∀ c t, s.Rests q c t → b.Rests q c (t.opBegin q opc (opWord opc w) (s.issued q k opc (opWord opc w))) ∧
      ((t.opBegin q opc (opWord opc w) (s.issued q k opc (opWord opc w))).stall q).cur = some u)
    {W : Nat → StallMem × Nat × Nat} (work : ∀ i l, b.worked q (u.after i l []) =
      { (u.after i l []).write (W i).1 (W i).2.1 (W i).2.2 with i := i + 1 })
    {f : Map Nat} (same : b.stb = s.stb) (fields : s.Fields f b) (frame : s.Frame [.regs, .stb] b) :
    s.Runs i q k ((s.rd (R.STB_TASK_PC q k) + 1) % 4096) n ((List.range n).map W) f := by
  have kinds : opc ∈ [0x4, 0x5, 0x6, 0x7, 0xD] ∧ opc ∈ [0x4, 0x5, 0x7, 0xA, 0xD] := by
    simp only [List.mem_cons, List.not_mem_nil, or_false] at vectors ⊢
    omega
  refine runs_of_pass (W := fun n => (List.range n).map W) (A := fun _ => []) row h good quiet kinds.1
    ((opCycles_vectors kinds.2 _).trans (opN_opWord.trans hn.symm)) (hn ▸ opN_short _) hu begins rfl rfl (fun i _ => ?_) same fields frame
  rw [work, map_range_succ, ← after_write _ _ _ [] []]
  rfl

theorem mact_runs (h : s.Issues q k 0x4 w) (good : (s.stall q).parBad = []) {a p n : Nat} (hn : n = opN w.toNat)
    (ha : a = s.operand q k .act (bits w.toNat 25 3)) (hp : p = s.operand q k .psum (bits w.toNat 22 3)) :
    s.Runs (.mact q k w) q k ((s.rd (R.STB_TASK_PC q k) + 1) % 4096) n ((List.range n).map fun i => (.psum, p + i,
      macVector (s.unitAt q .latch (b2n (bit w.toNat 20))) (s.unitAt q .act (s.accessUnit q .act a i))
        (if bit w.toNat 21 = true then 0 else s.unitAt q .psum (p + i)))) [] := by
  refine runs_of_vectors (by simp [opRows]) h good h.untagged (by decide) hn (dst := (s.issued q k 0x4 (opWord 0x4 w)).dst) rfl
    (begins_of_other (by decide)) (fun i l => ?_) rfl .refl .refl
  rw [worked_mact rfl, ha, hp, ← bits_opWord (opc := 0x4) (by decide : 25 + 3 ≤ 28), ← bits_opWord (opc := 0x4) (by decide : 22 + 3 ≤ 28),
    ← bit_opWord (opc := 0x4) (by decide : 20 < 28), ← bit_opWord (opc := 0x4) (by decide : 21 < 28)]
  generalize opWord 0x4 w = x
  rfl

theorem act_runs (h : s.Issues q k 0x5 w) (good : (s.stall q).parBad = []) {a p n : Nat} (hn : n = opN w.toNat)
    (hp : p = s.operand q k .psum (bits w.toNat 25 3)) (ha : a = s.operand q k .act (bits w.toNat 22 3)) :
    s.Runs (.act q k w) q k ((s.rd (R.STB_TASK_PC q k) + 1) % 4096) n ((List.range n).map fun i => (.act, s.accessUnit q .act a i,
      vecOf ((List.range 8).map fun j => activate (bits w.toNat 19 3) (bits w.toNat 14 5) (sumAt (s.unitAt q .psum (p + i)) j)))) [] := by
  refine runs_of_vectors (by simp [opRows]) h good h.untagged (by decide) hn (dst := (s.issued q k 0x5 (opWord 0x5 w)).dst) rfl
    (begins_of_other (by decide)) (fun i l => ?_) rfl .refl .refl
  rw [worked_act rfl, ha, hp, ← bits_opWord (opc := 0x5) (by decide : 25 + 3 ≤ 28), ← bits_opWord (opc := 0x5) (by decide : 22 + 3 ≤ 28),
    ← bits_opWord (opc := 0x5) (by decide : 19 + 3 ≤ 28), ← bits_opWord (opc := 0x5) (by decide : 14 + 5 ≤ 28)]
  generalize opWord 0x5 w = x
  rfl

theorem move_runs (h : s.Issues q k 0xD w) (good : (s.stall q).parBad = []) {a b n : Nat} {m : StallMem} (hn : n = opN w.toNat)
    (hm : m = if bit w.toNat 21 = true then .psum else .act) (ha : a = s.operand q k m (bits w.toNat 25 3))
    (hb : b = s.operand q k m (bits w.toNat 22 3)) :
    s.Runs (.move q k w) q k ((s.rd (R.STB_TASK_PC q k) + 1) % 4096) n
      ((List.range n).map fun i => (m, s.accessUnit q m b i, s.unitAt q m (s.accessUnit q m a i))) [] := by
  refine runs_of_vectors (by simp [opRows]) h good h.untagged (by decide) hn (dst := (s.issued q k 0xD (opWord 0xD w)).dst) rfl
    (begins_of_other (by decide)) (fun i l => ?_) rfl .refl .refl
  rw [← bit_opWord (opc := 0xD) (by decide : 21 < 28)] at hm
  rw [worked_move (u := (s.issued q k 0xD (opWord 0xD w)).after i l []) rfl hm, ha, hb,
    ← bits_opWord (opc := 0xD) (by decide : 25 + 3 ≤ 28), ← bits_opWord (opc := 0xD) (by decide : 22 + 3 ≤ 28)]
  subst hm
  generalize opWord 0xD w = x
  rfl

/-- The faults of a STORE (R302, R304). -/
theorem opFault_store (s : State) (q k w : Nat) : s.opFault q k 0x7 w =
    if (s.outside q k .act (s.operand q k .act (bits w 25 3)) (opReads 0x7 w) || false) = true then some 2
    else if (s.on (R.STB_RING_EN q (opRing w)) && s.rd (R.STB_RING_ROLE q (opRing w)) == 3) = true then some 4
    else if (!s.on (R.STB_RING_EN q (opRing w)) ||
      decide (s.rd (R.STB_RING_SIZE q (opRing w)) < s.rd (R.STB_RING_FILL q (opRing w)) + opN w)) = true then some 3
    else if ((List.range (opN w)).any fun i => decide (s.rd (R.STB_TASK_A_BOUND q k) ≤
      s.ringUnit q (opRing w) (s.rd (R.STB_RING_HEAD q (opRing w)) + i))) = true then some 2 else none := rfl

/-- A STORE that meets no fault finds its ring enabled. -/
theorem store_sound {x : Nat} (h : s.opFault q k 0x7 x = none) : s.on (R.STB_RING_EN q (opRing x)) = true := by
  by_contra off
  rw [Bool.not_eq_true] at off
  rw [opFault_store, off] at h
  split at h
  · exact absurd h (Option.some_ne_none 2)
  · exact absurd h (Option.some_ne_none 3)

theorem opBegin_store (s : State) (q w : Nat) (u : OpRun) : s.opBegin q 0x7 w u =
    (s.ringPush q (opRing w) (opN w)).modStall q fun x => { x with cur := some { u with dst := s.rd (R.STB_RING_HEAD q (opRing w)) } } :=
  rfl

/-- An access does not depend on the rings' heads and fill counts. -/
theorem ringPush_rd_config (s : State) (q r n r' : Nat) {off : Nat} (config : off < 64) :
    (s.ringPush q r n).rd (1024 * (0x5820 + (16 * q + r')) + off) = s.rd (1024 * (0x5820 + (16 * q + r')) + off) := by
  unfold State.ringPush
  split
  · refine wrs_rd_other fun e he => ?_
    simp only [List.mem_cons, List.not_mem_nil, or_false] at he
    rcases he with rfl | rfl <;> dsimp only [R.STB_RING_FILL, R.STB_RING_HEAD] <;> omega
  · rfl

theorem store_runs (h : s.Issues q k 0x7 w) (good : (s.stall q).parBad = []) {a n r : Nat} (hn : n = opN w.toNat)
    (hr : r = opRing w.toNat) (ha : a = s.operand q k .act (bits w.toNat 25 3)) :
    s.Runs (.store q k w) q k ((s.rd (R.STB_TASK_PC q k) + 1) % 4096) n
      ((List.range n).map fun i => (.act, s.ringUnit q r (s.rd (R.STB_RING_HEAD q r) + i), s.unitAt q .act (s.accessUnit q .act a i)))
      [(R.STB_RING_FILL q r, s.rd (R.STB_RING_FILL q r) + n), (R.STB_RING_HEAD q r, (s.rd (R.STB_RING_HEAD q r) + n) % s.rd (R.STB_RING_SIZE q r))] := by
  have on : s.on (R.STB_RING_EN q r) = true := by
    rw [hr, ← opRing_opWord (opc := 0x7)]
    exact store_sound h.sound
  have stb : (s.ringPush q r n).stb = s.stb := ringPush_stb ..
  have pushed : ∀ r' i, (s.ringPush q r n).ringUnit q r' i = s.ringUnit q r' i := fun r' i => by
    unfold State.ringUnit
    rw [show R.STB_RING_BASE q r' = _ from rfl, ringPush_rd_config _ _ _ _ _ (by decide),
      show R.STB_RING_SIZE q r' = _ from rfl, ringPush_rd_config _ _ _ _ _ (by decide)]
  have access : ∀ m a i, (s.ringPush q r n).accessUnit q m a i = s.accessUnit q m a i :=
    accessUnit_congr (fun r' _ => ringPush_rd_config s q r n r' (by decide)) (fun r' _ => ringPush_rd_config s q r n r' (by decide))
      (fun r' _ => ringPush_rd_config s q r n r' (by decide))
  have content : ∀ m u, (s.ringPush q r n).unitAt q m u = s.unitAt q m u := fun m u => by
    unfold State.unitAt; rw [stall_congr stb]
  refine runs_of_vectors (b := s.ringPush q r n) (by simp [opRows]) h (by rw [stall_congr stb, good]) ?_ (by decide) hn
    (dst := s.rd (R.STB_RING_HEAD q r)) rfl (fun c t rest => ?_) (fun i l => ?_) stb (ringPush_fields on)
    (State.ringPush_frame (Covers.refl.sub rfl) .refl)
  · rw [(ringPush_fields on).rd_other]
    · exact h.untagged
    · intro e he
      simp only [List.mem_cons, List.not_mem_nil, or_false] at he
      rcases he with rfl | rfl <;> dsimp only [R.STB_RING_FILL, R.STB_RING_HEAD, R.STB_SP_STAT_AUDIT] <;> omega
  · rw [opBegin_store, opRing_opWord, opN_opWord, ← hr, ← hn, rest.rd]
    exact ⟨(rest.ringPush r n).setCur _, by rw [State.modStall_same]⟩
  · rw [worked_store rfl, content, access, pushed, ha, hr, ← opRing_opWord (opc := 0x7), ← bits_opWord (opc := 0x7) (by decide : 25 + 3 ≤ 28)]
    generalize opWord 0x7 w = x
    rfl

end
end Sys2Proof.Machine
end

section
/-!
PROOFS. POOL (Table 11-3, 11_stable_engine.md): the vector that it forms over the K inputs of an output, cycle by cycle.
-/

namespace Sys2Proof.Machine

/-! ### The vector that POOL forms -/

/-- The sum or the maximum of a list. -/
def poolFold (sum : Bool) (xs : List Int) : Int := if sum = true then xs.sum else xs.foldl max (xs.headD 0)

/-- Elementwise, the sum or the maximum of the first c vectors. -/
def poolVec (sum : Bool) (v : Nat → Nat) (c : Nat) : List Int :=
  (List.range 8).map fun j => poolFold sum ((List.range c).map fun i => vecAt (v i) j)

/-- The vector formed before cycle i: over the inputs read so far of the output at hand. -/
def poolFormed (sum : Bool) (m : Nat) (v : Nat → Nat) (i : Nat) : List Int :=
  match i with
  | 0 => []
  | i + 1 => poolVec sum (fun j => v (m * (i / m) + j)) (i % m + 1)

section
variable {sum : Bool} {m i : Nat} {v : Nat → Nat}

theorem poolFold_single (sum : Bool) (x : Int) : poolFold sum [x] = x := by
  cases sum
  · exact max_self x
  · exact List.sum_singleton

theorem poolFold_append (sum : Bool) {xs : List Int} (h : xs ≠ []) (x : Int) :
    poolFold sum (xs ++ [x]) = if sum = true then poolFold sum xs + x else max (poolFold sum xs) x := by
  obtain ⟨y, ys, rfl⟩ := List.exists_cons_of_ne_nil h
  cases sum
  · simp [poolFold]
  · simp [poolFold, add_assoc]

/-- The first input of an output starts its vector afresh. -/
theorem poolStep_first (sum : Bool) (acc : List Int) (x : Nat) : poolStep sum true acc x = poolVec sum (fun _ => x) 1 := by
  refine List.map_congr_left fun j _ => ?_
  rw [if_pos rfl, show (List.range 1).map _ = [vecAt x j] from rfl, poolFold_single]

theorem poolVec_getD (sum : Bool) (v : Nat → Nat) (c : Nat) {j : Nat} (hj : j < 8) :
    (poolVec sum v c).getD j 0 = poolFold sum ((List.range c).map fun i => vecAt (v i) j) := by
  unfold poolVec
  rw [List.getD_eq_getElem?_getD, List.getElem?_map, List.getElem?_range hj]
  rfl

theorem poolFold_succ (sum : Bool) {c : Nat} (pos : 0 < c) (f : Nat → Int) : poolFold sum ((List.range (c + 1)).map f) =
    if sum = true then poolFold sum ((List.range c).map f) + f c else max (poolFold sum ((List.range c).map f)) (f c) := by
  rw [map_range_succ, poolFold_append sum (by simpa using pos.ne')]

/-- Each further input joins the sum or the maximum. -/
theorem poolStep_next (sum : Bool) {c : Nat} (pos : 0 < c) (v : Nat → Nat) :
    poolStep sum false (poolVec sum v c) (v c) = poolVec sum v (c + 1) := by
  have elem : ∀ j ∈ List.range 8, (if sum = true then (poolVec sum v c).getD j 0 + vecAt (v c) j else max ((poolVec sum v c).getD j 0) (vecAt (v c) j)) =
      poolFold sum ((List.range (c + 1)).map fun i => vecAt (v i) j) := fun j hj => by
    rw [poolVec_getD sum v c (List.mem_range.mp hj), poolFold_succ sum pos]
  generalize poolVec sum v c = acc at elem ⊢
  exact List.map_congr_left elem

theorem poolFormed_of_first (first : i % m = 0) : poolFormed sum m v (i + 1) = poolVec sum (fun _ => v i) 1 := by
  have whole : m * (i / m) + 0 = i := first ▸ Nat.div_add_mod i m
  rw [poolFormed, first]
  refine List.map_congr_left fun j _ => ?_
  rw [show List.range (0 + 1) = [0] from rfl, List.map_singleton, List.map_singleton]
  dsimp only
  rw [whole]

theorem poolFormed_of_further (pos : 0 < m) {c : Nat} (further : i % m = c + 1) :
    poolFormed sum m v i = poolVec sum (fun j => v (m * (i / m) + j)) (c + 1) := by
  have split := Nat.div_add_mod i m
  have lt := Nat.mod_lt i pos
  rw [further] at split lt
  generalize i / m = o at split ⊢
  obtain rfl : i = m * o + c + 1 := split.symm
  rw [poolFormed, Nat.mul_add_div pos, Nat.mul_add_mod, Nat.div_eq_of_lt (by omega), Nat.mod_eq_of_lt (by omega), Nat.add_zero]

theorem poolStep_formed (pos : 0 < m) (i : Nat) :
    poolStep sum (i % m == 0) (poolFormed sum m v i) (v i) = poolFormed sum m v (i + 1) := by
  rcases hc : i % m with _ | c
  · rw [poolFormed_of_first hc]
    exact poolStep_first ..
  · have split : m * (i / m) + (c + 1) = i := hc ▸ Nat.div_add_mod i m
    have next := poolStep_next sum (Nat.succ_pos c) fun j => v (m * (i / m) + j)
    rw [poolFormed_of_further pos hc, poolFormed, hc, ← next, split]
    rfl

/-- With its last input an output's vector is formed. -/
theorem poolFormed_last (last : i % m + 1 = m) :
    poolFormed sum m v (i + 1) = poolVec sum (fun j => v (m * (i / m) + j)) m := by
  rw [poolFormed, last]

theorem succ_div_of_last (last : i % m + 1 = m) : (i + 1) / m = i / m + 1 := by
  have whole : i + 1 = m * (i / m + 1) := by
    have := Nat.div_add_mod i m
    rw [Nat.mul_succ]
    omega
  rw [whole, Nat.mul_div_cancel_left _ (last ▸ Nat.succ_pos _)]

theorem succ_div_of_more (pos : 0 < m) (more : i % m + 1 ≠ m) : (i + 1) / m = i / m := by
  have split : i + 1 = m * (i / m) + (i % m + 1) := by
    have := Nat.div_add_mod i m
    omega
  have lt : i % m + 1 < m := Nat.lt_of_le_of_ne (Nat.mod_lt i pos) more
  rw [split, Nat.mul_add_div pos, Nat.div_eq_of_lt lt, Nat.add_zero]

/-- What POOL writes for an output: the maximum of its inputs, or their mean rounded. -/
theorem poolOut_poolVec (sum : Bool) (k : Nat) (v : Nat → Nat) : poolOut sum k (poolVec sum v k) = vecOf ((List.range 8).map fun j =>
    let xs := (List.range k).map fun i => vecAt (v i) j
    if sum = true then roundDiv xs.sum k else xs.foldl max (xs.headD 0)) := by
  unfold poolOut poolVec poolFold
  rw [List.map_map]
  refine congrArg vecOf (List.map_congr_left fun j _ => ?_)
  cases sum <;> rfl

end

/-! ### POOL -/

section
variable {s : State} {q k : Fin 4} {w : BitVec 32}

/-- The writes that POOL has made before its cycle i. -/
def State.pooled (s : State) (q : Nat) (sum : Bool) (m a b i : Nat) : List (StallMem × Nat × Nat) :=
  (List.range (i / m)).map fun o => (.act, s.accessUnit q .act b o,
    poolOut sum m (poolVec sum (fun j => s.unitAt q .act (s.accessUnit q .act a (m * o + j))) m))

/-- A cycle of POOL, by the writes and the vector before it. -/
theorem worked_pool_after {u : OpRun} (h : u.opc = 0x6) (i : Nat) (l : List (StallMem × Nat × Nat)) {acc acc' : List Int}
    (formed : poolStep (bit u.word 21) (i % opK u.word == 0) acc (s.unitAt q .act (s.accessUnit q .act u.src i)) = acc') :
    s.worked q (u.after i l acc) = u.after (i + 1) (if i % opK u.word + 1 = opK u.word then
      l ++ [(.act, s.accessUnit q .act u.dst (i / opK u.word), poolOut (bit u.word 21) (opK u.word) acc')] else l) acc' := by
  rw [worked_pool (u := u.after i l acc) h, ← formed]
  by_cases last : i % opK u.word + 1 = opK u.word
  · rw [if_pos last, ← after_write u i l acc]
    exact if_pos last
  · rw [if_neg last]
    exact if_neg last

/-- With the last input of an output it is written. -/
theorem pooled_succ (s : State) (q : Nat) (sum : Bool) {m : Nat} (pos : 0 < m) (a b i : Nat) :
    s.pooled q sum m a b (i + 1) = if i % m + 1 = m then s.pooled q sum m a b i ++ [(.act, s.accessUnit q .act b (i / m),
      poolOut sum m (poolFormed sum m (fun j => s.unitAt q .act (s.accessUnit q .act a j)) (i + 1)))] else s.pooled q sum m a b i := by
  unfold State.pooled
  split
  next last => rw [succ_div_of_last last, map_range_succ, poolFormed_last last]
  next more => rw [succ_div_of_more pos more]

/-- One cycle of POOL. -/
theorem worked_pool_formed {u : OpRun} (h : u.opc = 0x6) (i : Nat) : s.worked q (u.after i
      (s.pooled q (bit u.word 21) (opK u.word) u.src u.dst i)
      (poolFormed (bit u.word 21) (opK u.word) (fun j => s.unitAt q .act (s.accessUnit q .act u.src j)) i)) =
    u.after (i + 1) (s.pooled q (bit u.word 21) (opK u.word) u.src u.dst (i + 1))
      (poolFormed (bit u.word 21) (opK u.word) (fun j => s.unitAt q .act (s.accessUnit q .act u.src j)) (i + 1)) := by
  have formed := poolStep_formed (sum := bit u.word 21) (v := fun j => s.unitAt q .act (s.accessUnit q .act u.src j)) (opK_pos u.word) i
  rw [worked_pool_after h i _ formed, pooled_succ _ _ _ (opK_pos _)]

/-- POOL takes K cycles for each of its N outputs (Table 11-4). -/
theorem opCycles_pool (w : Nat) : opCycles 0x6 w = opN w * opK w := rfl

theorem pool_runs (h : s.Issues q k 0x6 w) (good : (s.stall q).parBad = []) {a b n m : Nat} (hn : n = opN w.toNat) (hm : m = opK w.toNat)
    (ha : a = s.operand q k .act (bits w.toNat 25 3)) (hb : b = s.operand q k .act (bits w.toNat 22 3)) :
    s.Runs (.pool q k w) q k ((s.rd (R.STB_TASK_PC q k) + 1) % 4096) (n * m) ((List.range n).map fun o => (.act, s.accessUnit q .act b o,
      vecOf ((List.range 8).map fun j =>
        let xs := (List.range m).map fun i => vecAt (s.unitAt q .act (s.accessUnit q .act a (m * o + i))) j
        if bit w.toNat 21 = true then roundDiv xs.sum m else xs.foldl max (xs.headD 0)))) [] := by
  have pos : 0 < m := hm ▸ opK_pos _
  have cycles : opCycles 0x6 (opWord 0x6 w) = n * m := by rw [opCycles_pool, opN_opWord, opK_opWord, hn, hm]
  have short : n * m ≤ 32760 :=
    (Nat.mul_le_mul (Nat.le_of_lt_succ (hn ▸ opN_lt _)) (hm ▸ opK_le _)).trans (by decide : 4095 * 8 ≤ 32760)
  obtain ⟨u, hu⟩ : ∃ u, u = s.issued q k 0x6 (opWord 0x6 w) := ⟨_, rfl⟩
  have word : u.word = opWord 0x6 w := by rw [hu]; rfl
  have src : u.src = a := by rw [ha, ← bits_opWord (opc := 0x6) (by decide : 25 + 3 ≤ 28), hu]; rfl
  have dst : u.dst = b := by rw [hb, ← bits_opWord (opc := 0x6) (by decide : 22 + 3 ≤ 28), hu]; rfl
  have pass : ∀ i < n * m, _ := fun i _ => worked_pool_formed (s := s) (q := q) (u := u) (by rw [hu]; rfl) i
  rw [word, bit_opWord (by decide : 21 < 28), opK_opWord, ← hm, src, dst] at pass
  have runs := runs_of_pass (i := .pool q k w) (dst := u.dst) (W := s.pooled q (bit w.toNat 21) m a b)
    (A := poolFormed (bit w.toNat 21) m fun j => s.unitAt q .act (s.accessUnit q .act a j)) (by simp [opRows]) h good h.untagged (by decide)
    cycles short (by rw [hu]) (by rw [hu]; exact begins_of_other (by decide)) ?_ rfl pass rfl .refl .refl
  · rw [State.pooled, Nat.mul_div_cancel _ pos] at runs
    simpa only [poolOut_poolVec] using runs
  · rw [State.pooled, Nat.zero_div]
    rfl

end
end Sys2Proof.Machine
end

section
/-!
PROOFS. TLOAD and the faults of an operation (R302, R312, R335, R337, R338): the tile that a TLOAD reads, and the faults of a poisoned or
uncorrectable weight block, of a unit with bad parity, and of an operation as it issues.
-/

namespace Sys2Proof.Machine

/-! ### The read of a weight tile (R335, R337) -/

section
variable {s t b : State} {q c : Nat} {u : OpRun}

/-- Some words of a weight unit are read: whether one before or among them is uncorrectable, and what the reads do. -/
def State.readWords (q unit : Nat) (l : List Nat) (a : Bool × State) : Bool × State :=
  l.foldl (fun a j => let e := a.2.weightWord q (8 * unit + j); (a.1 || e.1, e.2)) a

theorem readWords_cons (q unit j : Nat) (l : List Nat) (a : Bool × State) : State.readWords q unit (j :: l) a =
    State.readWords q unit l (a.1 || (a.2.weightWord q (8 * unit + j)).1, (a.2.weightWord q (8 * unit + j)).2) := rfl

theorem tloadRead_eq (s : State) (q unit : Nat) : s.tloadRead q unit =
    ((State.readWords q unit (List.range 8) (false, s)).1 ||
      ((State.readWords q unit (List.range 8) (false, s)).2.stall q).poison.contains (unit / 16),
      (State.readWords q unit (List.range 8) (false, s)).2) := rfl

theorem weightWord_of_sound {w : Nat} (h : mget? (s.stall q).wErr w = none) : s.weightWord q w = (false, s) := by
  unfold State.weightWord
  rw [h]

theorem weightWord_of_double {w : Nat} (h : mget 0 (s.stall q).wErr w = 2) : (s.weightWord q w).1 = true := by
  have named : mget? (s.stall q).wErr w = some 2 := by
    unfold mget at h
    cases e : mget? (s.stall q).wErr w with
    | none => rw [e] at h; exact absurd h (by decide)
    | some v => rw [e] at h; exact congrArg some h
  unfold State.weightWord
  rw [named]
  rfl

theorem readWords_of_sound {unit : Nat} {l : List Nat} (sound : ∀ j ∈ l, mget? (s.stall q).wErr (8 * unit + j) = none) :
    State.readWords q unit l (false, s) = (false, s) := by
  induction l with
  | nil => rfl
  | cons j l ih =>
    obtain ⟨hj, hl⟩ := List.forall_mem_cons.mp sound
    rw [readWords_cons, weightWord_of_sound hj]
    exact ih hl

/-- A tile in which no word is bad and whose block is not poisoned is read, and nothing changes. -/
theorem tloadRead_of_sound {unit : Nat} (sound : ∀ j ∈ List.range 8, mget? (s.stall q).wErr (8 * unit + j) = none)
    (clean : (s.stall q).poison.contains (unit / 16) = false) : s.tloadRead q unit = (false, s) := by
  rw [tloadRead_eq, readWords_of_sound sound]
  dsimp only
  rw [clean]
  rfl

/-- What the reads of weight words can change of a stall: blocks become poisoned, and rows are put forward for repair. -/
structure State.Weighed (s : State) (q : Nat) (t : State) : Prop where
  own : t.stall q = { s.stall q with
    poison := (t.stall q).poison, rewr := (t.stall q).rewr, rowReq := (t.stall q).rowReq }
  poison : ∀ b, (s.stall q).poison.contains b = true → (t.stall q).poison.contains b = true

theorem State.Weighed.of_stb (h : t.stb = s.stb) : s.Weighed q t where
  own := by rw [stall_congr h]
  poison b hb := by rw [stall_congr h]; exact hb

theorem State.Weighed.trans {y : State} (h : s.Weighed q t) (h' : t.Weighed q y) : s.Weighed q y where
  own := by rw [h'.own, h.own]
  poison b hb := h'.poison b (h.poison b hb)

theorem poisonBlock_weighed (s : State) (q b : Nat) : s.Weighed q (s.poisonBlock q b) := by
  unfold State.poisonBlock
  split
  · exact .of_stb rfl
  · have stb : ∀ y : State, (((y.poisonShow q).stbNote 20 q b).fault clDegrade 0x58 20 q b).stb = y.stb := fun y => by
      rw [State.fault_stb, State.stbNote_stb]
      rfl
    refine .trans (t := s.modStall q fun x => { x with poison := x.poison ++ [b], rewr := x.rewr.filter fun t => t / 16 != b }) ⟨?_, ?_⟩
      (.of_stb (stb _))
    · rw [State.modStall_same]
    · intro b' hb'
      rw [State.modStall_same]
      simpa using Or.inl (List.contains_iff_mem.mp hb')

theorem rowRequest_weighed (s : State) (q row : Nat) : s.Weighed q (s.rowRequest q row) := by
  unfold State.rowRequest
  split
  · exact .of_stb rfl
  · refine .trans (t := s.modStall q fun x => { x with rowReq := x.rowReq ++ [row] }) ⟨?_, fun b hb => ?_⟩ (.of_stb (State.stbNote_stb ..))
    · rw [State.modStall_same]
    · rwa [State.modStall_same]

theorem weightWord_weighed (s : State) (q w : Nat) : s.Weighed q (s.weightWord q w).2 := by
  unfold State.weightWord
  split
  · exact .of_stb rfl
  · exact .of_stb (State.count_stb ..)
  · exact ((State.Weighed.of_stb (State.count_stb ..)).trans (poisonBlock_weighed ..)).trans (rowRequest_weighed ..)

theorem readWords_weighed (q unit : Nat) (l : List Nat) (a : Bool × State) : a.2.Weighed q (State.readWords q unit l a).2 := by
  induction l generalizing a with
  | nil => exact .of_stb rfl
  | cons j l ih =>
    rw [readWords_cons]
    exact (weightWord_weighed a.2 q (8 * unit + j)).trans (ih (a.1 || (a.2.weightWord q (8 * unit + j)).1, _))

/-- An uncorrectable word among those read is found. -/
theorem readWords_of_double {unit : Nat} {l : List Nat} {a : Bool × State}
    (h : a.1 = true ∨ ∃ j ∈ l, mget 0 (a.2.stall q).wErr (8 * unit + j) = 2) : (State.readWords q unit l a).1 = true := by
  induction l generalizing a with
  | nil => exact h.resolve_right (by simp)
  | cons j l ih =>
    rw [readWords_cons]
    refine ih ?_
    dsimp only
    obtain before | ⟨i, hi, two⟩ := h
    · exact .inl (by rw [before, Bool.true_or])
    · obtain rfl | later := List.mem_cons.mp hi
      · exact .inl (by rw [weightWord_of_double two, Bool.or_true])
      · exact .inr ⟨i, later, by rw [(weightWord_weighed a.2 q (8 * unit + j)).own]; exact two⟩

/-- A tile with an uncorrectable word, or of a poisoned block, is flagged. -/
theorem tloadRead_of_bad {unit : Nat} (bad : (∃ j ∈ List.range 8, mget 0 (s.stall q).wErr (8 * unit + j) = 2) ∨
    (s.stall q).poison.contains (unit / 16) = true) : (s.tloadRead q unit).1 = true := by
  rw [tloadRead_eq]
  obtain double | poisoned := bad
  · exact Bool.or_eq_true_iff.mpr (.inl (readWords_of_double (.inr double)))
  · exact Bool.or_eq_true_iff.mpr (.inr ((readWords_weighed q unit _ (false, s)).poison _ poisoned))

theorem tloadRead_weighed (s : State) (q unit : Nat) : s.Weighed q (s.tloadRead q unit).2 := by
  rw [tloadRead_eq]
  dsimp only
  exact readWords_weighed q unit (List.range 8) (false, s)

/-! ### The two cycles of a TLOAD -/

/-- A TLOAD reads no unit of the other memories. -/
theorem readUnits_of_tload (load : u.opc = 0x3) : t.readUnits q u.ctx u.pc
    (if u.i < u.len ∧ opCycles u.opc u.word ≠ 0 then t.cycleReads q u else []) = ([], false, t) := by
  have nothing : t.cycleReads q u = [] := by unfold State.cycleReads; rw [load]; rfl
  rw [nothing, ite_self]
  rfl

/-- A TLOAD computes nothing. -/
theorem cycleWork_of_tload (load : u.opc = 0x3) :
    (if opCycles u.opc u.word = 0 then (t, u) else t.cycleWork q u []) = (t, u) := by
  have still : t.cycleWork q u [] = (t, u) := by unfold State.cycleWork; rw [load]; rfl
  rw [still, ite_self]

/-- The first cycle of a TLOAD reads its tile. -/
theorem opCycle_of_tload_first (load : u.opc = 0x3) (first : u.i = 0) : t.opCycle q u =
    let r := t.tloadRead q u.src
    if r.1 = true then r.2.taskFault q u.ctx 6
    else
      let v := u.write .latch (b2n (bit u.word 24)) (r.2.unitAt q .weight u.src)
      if v.i + 1 < v.len then r.2.modStall q fun x => { x with cur := some { v with i := v.i + 1 } }
      else r.2.opFinish q { v with i := v.i + 1 } := by
  unfold State.opCycle
  rw [readUnits_of_tload load]
  simp only [Bool.false_eq_true, if_false, if_pos (And.intro load first)]
  rw [cycleWork_of_tload (u := u.write _ _ _) load]

theorem opCycle_of_tload_later (load : u.opc = 0x3) (later : u.i ≠ 0) : t.opCycle q u =
    if u.i + 1 < u.len then t.modStall q fun x => { x with cur := some { u with i := u.i + 1 } }
    else t.opFinish q { u with i := u.i + 1 } := by
  unfold State.opCycle
  rw [readUnits_of_tload load]
  simp only [Bool.false_eq_true, if_false, if_neg fun h : u.opc = 0x3 ∧ u.i = 0 => later h.2]
  rw [cycleWork_of_tload load]

end

/-! ### TLOAD -/

section
variable {s : State} {q k : Fin 4} {w : BitVec 32} {u : Nat}

/-- A TLOAD before its cycle i, and after its last; v is the tile that it reads. -/
def OpRun.loading (x : OpRun) (v i : Nat) : OpRun :=
  match i with
  | 0 => x
  | i + 1 => { x.write .latch (b2n (bit x.word 24)) v with i := i + 1 }

/-- The source of a TLOAD is the tile of its register. -/
theorem tload_src (s : State) (q k : Nat) (w : BitVec 32) :
    (s.issued q k 0x3 (opWord 0x3 w)).src = s.operand q k .weight (bits w.toNat 25 3) := by
  rw [← bits_opWord (opc := 0x3) (by decide : 25 + 3 ≤ 28)]
  rfl

/-- A TLOAD of a good tile takes two cycles, and its last ends it. -/
theorem opRow_of_tload (h : s.Issues q k 0x3 w) (hu : u = s.operand q k .weight (bits w.toNat 25 3))
    (sound : ∀ j ∈ List.range 8, mget? (s.stall q).wErr (8 * u + j) = none) (clean : (s.stall q).poison.contains (u / 16) = false) :
    ∃ (d : Nat) (z : State) (v : Stall → Nat), s.Rests q d z ∧ s.opRow q k 0x3 w =
      (z.opFinish q ((s.issued q k 0x3 (opWord 0x3 w)).loading (s.unitAt q .weight u) 2)).onward q v := by
  obtain ⟨x, hx⟩ : ∃ x, x = s.issued q k 0x3 (opWord 0x3 w) := ⟨_, rfl⟩
  have len : x.len = 2 := by rw [hx]; rfl
  have opc : x.opc = 0x3 := by rw [hx]; rfl
  have start : x.i = 0 := by rw [hx]; rfl
  have src : x.src = u := by rw [hx, hu, tload_src]
  have step : ∀ i < 2, ∀ c t, s.Rests q c t → t.opCycle q (x.loading (s.unitAt q .weight u) i) =
      if i + 1 < 2 then t.modStall q fun y => { y with cur := some (x.loading (s.unitAt q .weight u) (i + 1)) }
      else t.opFinish q (x.loading (s.unitAt q .weight u) 2) := by
    intro i hi c t rest
    obtain rfl | rfl : i = 0 ∨ i = 1 := by omega
    · have good : t.tloadRead q x.src = (false, t) := by
        rw [src]
        exact tloadRead_of_sound (by rw [rest.own]; exact sound) (by rw [rest.own]; exact clean)
      have next : (x.write .latch (b2n (bit x.word 24)) (s.unitAt q .weight u)).i + 1 = 1 := by rw [OpRun.write, start]
      rw [OpRun.loading, opCycle_of_tload_first opc start, good]
      dsimp only
      rw [if_neg Bool.false_ne_true, src, rest.unitAt, next, if_pos (by rw [OpRun.write, len]; decide), if_pos (by decide)]
      rfl
    · have ends : ¬ (x.loading (s.unitAt q .weight u) 1).i + 1 < (x.loading (s.unitAt q .weight u) 1).len := by
        show ¬ 1 + 1 < x.len
        rw [len]
        decide
      rw [opCycle_of_tload_later (u := x.loading _ 1) opc (by exact Nat.one_ne_zero), if_neg ends, if_neg (by decide)]
      rfl
  obtain ⟨d, z, v, rest, -, ran⟩ := opRow_of_steps (len := 2) h h.landed (by decide) (by decide)
    (by rw [OpRun.loading, hx]; exact begins_of_other (by decide)) step
  exact ⟨d, z, v, rest, by rw [ran, hx]⟩

theorem tload_effect (h : s.Issues q k 0x3 w) (hu : u = s.operand q k .weight (bits w.toNat 25 3))
    (sound : ∀ j ∈ List.range 8, mget? (s.stall q).wErr (8 * u + j) = none) (clean : (s.stall q).poison.contains (u / 16) = false) :
    ∃ t, exec (.tload q k w) s = .next t ∧ (t.stall q).pend.map (fun l => (l.mem, l.unit, l.val)) =
      [(.latch, b2n (bit w.toNat 24), s.unitAt q .weight u)] ∧ (∀ l ∈ (t.stall q).pend, l.cycle = (t.stall q).cycle + 5) ∧
    t.areg q k (bits w.toNat 25 3) = (if bit w.toNat 23 = true then (s.areg q k (bits w.toNat 25 3) + 1) % 65536 else s.areg q k (bits w.toNat 25 3)) ∧
    s.Fields [(R.STB_TASK_PC q k, (s.rd (R.STB_TASK_PC q k) + 1) % 4096)] t ∧ s.Frame [.regs, .stb] t := by
  obtain ⟨d, z, v, rest, ran⟩ := opRow_of_tload h hu sound clean
  obtain ⟨x, hx⟩ : ∃ x, x = (s.issued q k 0x3 (opWord 0x3 w)).loading (s.unitAt q .weight u) 2 := ⟨_, rfl⟩
  have ctx : x.ctx = k := by rw [hx]; rfl
  have pc : x.pc = s.rd (R.STB_TASK_PC q k) := by rw [hx]; rfl
  have word : x.word = opWord 0x3 w := by rw [hx]; rfl
  have buf : x.buf = [⟨0, .latch, b2n (bit w.toNat 24), s.unitAt q .weight u, k, s.rd (R.STB_TASK_PC q k), none⟩] := by
    rw [hx, ← bit_opWord (opc := 0x3) (by decide : 24 < 28)]
    generalize opWord 0x3 w = y
    rfl
  rw [← hx, opFinish_tload (by rw [hx]; rfl), ctx, pc, word, bit_opWord (by decide), bits_opWord (by decide)] at ran
  have pend : ((z.opDone q x).stall q).pend = [⟨d + 6, .latch, b2n (bit w.toNat 24), s.unitAt q .weight u, k,
      s.rd (R.STB_TASK_PC q k), none⟩] := by
    rw [State.opDone, State.modStall_same, rest.pend, h.landed, buf, rest.cycle]
    rfl
  have cycle : ((z.opDone q x).stall q).cycle = d := by rw [State.opDone, State.modStall_same, rest.cycle]
  have areg : ∀ n, (z.opDone q x).areg q k n = s.areg q k n := fun n =>
    (areg_congr (by rw [State.opDone, State.modStall_same]) k n).trans (rest.areg k n)
  have frame : s.Frame [.stb] (z.opDone q x) := State.modStall_frame Covers.refl rest.frame
  generalize z.opDone q x = y at ran pend cycle areg frame
  generalize hy : (if bit w.toNat 23 = true then y.setAreg q k (bits w.toNat 25 3) (y.areg q k (bits w.toNat 25 3) + 1) else y) = y' at ran
  have kept : (y'.stall q).pend = (y.stall q).pend ∧ (y'.stall q).cycle = (y.stall q).cycle ∧ y.Frame [.stb] y' := by
    rw [← hy]
    split
    · exact ⟨State.setAreg_pend .., by rw [State.setAreg, State.modTask_stall], State.modTask_frame Covers.refl .refl⟩
    · exact ⟨rfl, rfl, .refl⟩
  obtain ⟨pend', cycle', frame'⟩ := kept
  have frame := frame.trans frame'
  have landing : (((y'.opGoes q k (s.rd (R.STB_TASK_PC q k) + 1)).onward q v).stall q).pend = (y.stall q).pend := by
    rw [State.onward, State.modStall_same, State.opGoes, State.wr_stall, pend']
  have time : (((y'.opGoes q k (s.rd (R.STB_TASK_PC q k) + 1)).onward q v).stall q).cycle = d + 1 := by
    rw [State.onward, State.modStall_same, State.opGoes, State.wr_stall, cycle', cycle]
  refine ⟨_, (exec_opRow (by simp [opRows]) s).trans (congrArg _ ran), ?_, ?_, ?_, ?_, ?_⟩
  · rw [landing, pend]
    rfl
  · rw [landing, pend, time]
    exact List.forall_mem_singleton.mpr rfl
  · have shown : ((y'.opGoes q k (s.rd (R.STB_TASK_PC q k) + 1)).onward q v).areg q k (bits w.toNat 25 3) =
        y'.areg q k (bits w.toNat 25 3) := areg_congr (by rw [State.onward, State.modStall_same, State.opGoes, State.wr_stall]) _ _
    rw [shown, ← hy]
    split
    · rw [State.setAreg_areg, if_pos rfl, areg]
    · exact areg _
  · exact ((State.Fields.refl (s := s)).of_regs (frame .regs (by decide))).wr.of_regs rfl
  · exact State.modStall_frame (Covers.refl.sub rfl) (State.wr_frame (Covers.refl.sub rfl) (frame.mono (Covers.refl.sub rfl)))

end

/-! ### The faults of an operation (R302, R312, R337, R338) -/

section
variable {s : State} {q k : Fin 4} {opc : Nat} {w : BitVec 32} {i : Instr}

theorem fault_effect (row : (i, opc) ∈ opRows q k w) (works : s.rd R.STB_STAT_OFF ≠ 1) (idle : (s.stall q).cur = none)
    (landed : (s.stall q).pend = []) (order : (s.stall q).order = []) (stop : (s.task q k).stop = []) {why : Nat}
    (bad : s.opFault q k opc (opWord opc w) = some why) : ∃ t, exec i s = .next t ∧ t.rd (R.STB_TASK_STATE q k) = 5 ∧
    t.rd (R.STB_TASK_WHY q k) = why ∧ t.rd (R.STB_TASK_PC q k) = s.rd (R.STB_TASK_PC q k) ∧ (t.stall q).cur = none ∧
    (t.stall q).pend = [] ∧ (t.stall q).act = (s.stall q).act ∧ (t.stall q).psum = (s.stall q).psum ∧
    s.Frame [.regs, .spoke, .stb, .flt] t := by
  obtain ⟨c, t, rest, ran⟩ := opRow_of_fault (k := k) works idle landed bad
  obtain ⟨z, hz, state, reason, stall, kept⟩ := drained_taskFault t q k (rest.order.trans order) ((congrArg _ (rest.task k)).trans stop) why
  have ends : s.opRow q k opc w = z := ran.trans hz
  refine ⟨z, (exec_opRow row s).trans (congrArg _ ends), state, reason, ?_, by rw [stall], ?_, ?_, ?_, ends ▸ opRow_frame s q k opc w⟩
  · rw [kept _ (by dsimp only [R.STB_TASK_PC]; omega) (pc_not_mem_taskFields _ _), rest.rd]
  · rw [stall]
    exact rest.pend.trans landed
  · rw [stall, rest.own]
  · rw [stall, rest.own]

/-- An operation that meets no fault as it issues has its first cycle, and the stall then goes on until it has ended. -/
theorem opRow_of_begun (h : s.Issues q k opc w) (other : opc ∉ [0x7, 0x8, 0xA]) : ∃ c t, s.Rests q c t ∧
    s.opRow q k opc w = State.opDrain 40000 q ((t.opCycle q (s.issued q k opc (opWord opc w))).onward q (·.used)) := by
  obtain ⟨c, -, rest⟩ := passGap_rests s q
  obtain ⟨begun, cur⟩ := begins_of_other (w := w) (k := k) other c _ rest
  rw [← rest.issued] at begun cur
  exact ⟨c, _, begun, by
    rw [opRow_of_idle h.works h.idle h.landed, opStart_of_sound ((rest.opFault ..).trans h.sound) cur, rest.issued]⟩

/-- A TLOAD of an uncorrectable word or of a poisoned block faults its task, and the latch stays. -/
theorem tload_faults {u : Nat} (h : s.Issues q k 0x3 w) (hu : u = s.operand q k .weight (bits w.toNat 25 3))
    (bad : (∃ j ∈ List.range 8, mget 0 (s.stall q).wErr (8 * u + j) = 2) ∨ (s.stall q).poison.contains (u / 16) = true)
    (stop : (s.task q k).stop = []) (order : (s.stall q).order = []) : ∃ t, exec (.tload q k w) s = .next t ∧
    t.rd (R.STB_TASK_STATE q k) = 5 ∧ t.rd (R.STB_TASK_WHY q k) = 6 ∧ (t.stall q).latch = (s.stall q).latch ∧ (t.stall q).pend = [] := by
  obtain ⟨c, t, rest, ran⟩ := opRow_of_begun h (by decide)
  have flagged : (t.tloadRead q u).1 = true := tloadRead_of_bad (by rw [rest.own]; exact bad)
  have read := (tloadRead_weighed t q u).own
  rw [opCycle_of_tload_first rfl rfl, tload_src, ← hu] at ran
  dsimp only at ran
  rw [if_pos flagged] at ran
  generalize (t.tloadRead q u).2 = y at ran read
  obtain ⟨z, hz, state, reason, stall, -⟩ := drained_taskFault y q k (by rw [read]; exact rest.order.trans order)
    ((congrArg _ ((task_congr (by rw [read]) k).trans (rest.task k))).trans stop) 6
  refine ⟨z, (exec_opRow (by simp [opRows]) s).trans (congrArg _ (ran.trans hz)), state, reason, ?_, ?_⟩
  · rw [stall, read, rest.own]
  · rw [stall, read]
    exact rest.pend.trans h.landed

/-! ### Bad parity (R338) -/

theorem bit_setBit_same (v i : Nat) : bit (setBit v i true) i = true := by
  simp [bit, setBit, Nat.testBit_or]

/-- Bad parity found is shown, and counts for its stall. -/
theorem parityFound_effect (t : State) (q : Nat) (m : StallMem) (a : Nat) : (t.parityFound q m a).stb = t.stb ∧
    (t.parityFound q m a).rd (R.STB_SP_PAR q) = min 0xFFFF (t.rd (R.STB_SP_PAR q) + 1) ∧
    bit ((t.parityFound q m a).rd R.STB_SP_STAT_PARITY) q = true := by
  have apart : R.STB_SP_STAT_PARITY ≠ R.STB_SP_PAR q := by dsimp only [R.STB_SP_STAT_PARITY, R.STB_SP_PAR]; omega
  unfold State.parityFound State.wrBit
  rw [State.stbNote_stb, State.stbNote_rd, State.stbNote_rd, count_eq, State.wr_rd_same, State.wr_rd_other _ _ apart,
    State.wr_rd_other _ _ apart.symm, State.wr_rd_same]
  exact ⟨rfl, rfl, bit_setBit_same ..⟩

/-- A cycle whose one read has bad parity faults the task. -/
theorem opCycle_of_bad {t : State} {q : Nat} {u : OpRun} {m : StallMem} {a : Nat} (quiet : t.rd R.STB_SP_STAT_AUDIT ≠ 1)
    (long : opCycles u.opc u.word ≠ 0) (more : u.i < u.len) (reads : t.cycleReads q u = [(m, a)]) (bad : t.parityBad q m a = true) :
    t.opCycle q u = (t.parityFound q m a).taskFault q u.ctx 5 := by
  have found : t.readUnits q u.ctx u.pc [(m, a)] = ([t.unitAt q m a], true, t.parityFound q m a) := by
    unfold State.readUnits
    rw [List.foldl_cons, List.foldl_nil]
    dsimp only
    rw [tagRead_of_quiet quiet, bad]
    rfl
  have cycle : (if u.i < u.len ∧ opCycles u.opc u.word ≠ 0 then t.cycleReads q u else []) = [(m, a)] := (if_pos ⟨more, long⟩).trans reads
  unfold State.opCycle
  simp only [cycle, found, if_true]

/-- An ACT that reads a sum of bad parity faults its task. -/
theorem act_faults {p : Nat} (h : s.Issues q k 0x5 w) (hp : p = s.operand q k .psum (bits w.toNat 25 3)) (pos : 0 < opN w.toNat)
    (bad : s.parityBad q .psum p = true) (stop : (s.task q k).stop = []) (order : (s.stall q).order = []) :
    ∃ t, exec (.act q k w) s = .next t ∧ t.rd (R.STB_TASK_STATE q k) = 5 ∧ t.rd (R.STB_TASK_WHY q k) = 5 ∧
    t.rd (R.STB_SP_PAR q) = min 0xFFFF (s.rd (R.STB_SP_PAR q) + 1) ∧ bit (t.rd R.STB_SP_STAT_PARITY) q = true ∧ (t.stall q).pend = [] := by
  obtain ⟨c, t, rest, ran⟩ := opRow_of_begun h (by decide)
  obtain ⟨u, hu⟩ : ∃ u, u = s.issued q k 0x5 (opWord 0x5 w) := ⟨_, rfl⟩
  have cycles : opCycles u.opc u.word = opN w.toNat := by
    rw [hu]
    exact (opCycles_vectors (opc := 0x5) (by decide) _).trans opN_opWord
  have reads : t.cycleReads q u = [(.psum, p)] := by
    rw [hp, ← bits_opWord (opc := 0x5) (by decide : 25 + 3 ≤ 28), hu]
    rfl
  have more : u.i < u.len := by
    rw [hu]
    exact Nat.lt_of_lt_of_le Nat.one_pos (le_max_left ..)
  have ctx : u.ctx = k := by rw [hu]; rfl
  rw [← hu, opCycle_of_bad (by rw [rest.rd]; exact h.untagged) (by omega) more reads ((rest.parityBad ..).trans bad), ctx] at ran
  obtain ⟨stb, counted, shown⟩ := parityFound_effect t q .psum p
  generalize t.parityFound q .psum p = y at ran stb counted shown
  obtain ⟨z, hz, state, reason, stall, kept⟩ := drained_taskFault y q k (by rw [stall_congr stb]; exact rest.order.trans order)
    ((congrArg _ ((task_congr (by rw [stall_congr stb]) k).trans (rest.task k))).trans stop) 5
  refine ⟨z, (exec_opRow (by simp [opRows]) s).trans (congrArg _ (ran.trans hz)), state, reason, ?_, ?_, ?_⟩
  · rw [kept _ (by dsimp only [R.STB_SP_PAR]; omega), counted, rest.rd]
    simp only [taskFields, R.STB_SP_PAR, R.STB_STAT_FAULTED, R.STB_STAT_RUN, R.STB_TASK_WHY, R.STB_TASK_STATE, List.mem_cons,
      List.not_mem_nil, or_false]
    omega
  · rw [kept _ (by decide), shown]
    simp only [taskFields, R.STB_SP_STAT_PARITY, R.STB_STAT_FAULTED, R.STB_STAT_RUN, R.STB_TASK_WHY, R.STB_TASK_STATE, List.mem_cons,
      List.not_mem_nil, or_false]
    omega
  · rw [stall, stall_congr stb]
    exact rest.pend.trans h.landed

end
end Sys2Proof.Machine
end

section
/-!
PROOFS. NSEND (R329, Table 11-3): with credit its vectors are on their way to the neighbour, and without it none is and a fault is raised.
-/

namespace Sys2Proof.Machine

section
variable {s t b : State} {q k : Fin 4} {w : BitVec 32} {n r d c : Nat} {u : OpRun}

/-! ### The issue of an NSEND -/

theorem opBegin_nsend (s : State) (q w : Nat) (u : OpRun) : s.opBegin q 0xA w u =
    if opN w ≤ s.rd (credKey q (b2n (bit w 20)) (opRing w)) then
      (s.wr (credKey q (b2n (bit w 20)) (opRing w)) (s.rd (credKey q (b2n (bit w 20)) (opRing w)) - opN w)).modStall q
        fun x => { x with cur := some u }
    else (((s.modStall q fun x => { x with cur := some { u with drop := true } }).wrBit R.STB_SP_STAT_CREDIT_FAULT q true).stbNote 16
      (16 * neighbour q (b2n (bit w 20)) + opRing w) (opN w)).fault clDegrade 0x58 16 (16 * neighbour q (b2n (bit w 20)) + opRing w) (opN w) := rfl

theorem neighbour_ne (q : Fin 4) (d : Nat) : neighbour q d ≠ q := by
  unfold neighbour
  split <;> omega

/-- A balance lies in no other block than STB_CRED. -/
theorem credKey_block {d : Nat} (r : Nat) (ring : r < 16) : credKey q d r / 1024 = 0x5890 + q := by
  unfold credKey
  split <;> dsimp only [R.STB_CRED_UP, R.STB_CRED_DOWN] <;> omega

/-! ### Without credit -/

/-- An NSEND that sends nothing lets its cycles pass. -/
theorem worked_dropped (s : State) (q : Nat) (send : u.opc = 0xA) (drop : u.drop = true) : s.worked q u = { u with i := u.i + 1 } := by
  have still : ∀ vals : List Nat, s.cycleWork q u vals = (s, u) := fun vals => by
    unfold State.cycleWork
    rw [send, drop]
    rfl
  rw [State.worked, still]

theorem cycleReads_dropped (s : State) (q : Nat) (send : u.opc = 0xA) (drop : u.drop = true) : s.cycleReads q u = [] := by
  unfold State.cycleReads
  rw [send, drop]
  rfl

/-- The fault of an NSEND without credit. -/
def State.creditFault (s : State) (q unit n : Nat) : State :=
  ((s.wrBit R.STB_SP_STAT_CREDIT_FAULT q true).stbNote 16 unit n).fault clDegrade 0x58 16 unit n

theorem creditFault_stb (s : State) (q unit n : Nat) : (s.creditFault q unit n).stb = s.stb := by
  unfold State.creditFault
  rw [State.fault_stb, State.stbNote_stb]
  rfl

theorem creditFault_rd (s : State) (q unit n : Nat) {j : Nat} (block : j / 1024 < 0x7000) :
    (s.creditFault q unit n).rd j = (s.wrBit R.STB_SP_STAT_CREDIT_FAULT q true).rd j := by
  unfold State.creditFault
  rw [fault_rd_other _ _ _ _ _ _ block, State.stbNote_rd]

theorem creditFault_raises (s : State) (q unit n : Nat) :
    s.Raises 0x58 ([16, BitVec.ofNat 8 unit] ++ le 2 n) (s.creditFault q unit n) := fun ch => by
  have spoke : (s.creditFault q unit n).chan ch = ((s.wrBit R.STB_SP_STAT_CREDIT_FAULT q true).stbNote 16 unit n).chan ch := 
    chan_congr (State.fault_spoke ..) ch
  rw [spoke]
  exact State.note_raises _ 0x58 16 unit n ch

/-- An NSEND without credit runs to its end and has sent nothing. -/
theorem opRow_of_denied (h : s.Issues q k 0xA w) (hn : n = opN w.toNat) (hr : r = opRing w.toNat) (hd : d = b2n (bit w.toNat 20))
    (short : s.rd (credKey q d r) < n) : ∃ (c e : Nat) (t z : State) (x : OpRun) (v : Stall → Nat), s.Rests q c t ∧
      (t.creditFault q (16 * neighbour q d + r) n).Rests q e z ∧ x.buf = [] ∧
      s.opRow q k 0xA w = ((z.opDone q x).opGoes q k (s.rd (R.STB_TASK_PC q k) + 1)).onward q v := by
  obtain ⟨c, -, rest⟩ := passGap_rests s q
  obtain ⟨u, hu⟩ : ∃ u : OpRun, u = { s.issued q k 0xA (opWord 0xA w) with drop := true } := ⟨_, rfl⟩
  have send : u.opc = 0xA := by rw [hu]; rfl
  have drop : u.drop = true := by rw [hu]
  have first : u.after 0 [] [] = u := by rw [hu]; rfl
  have cycles : opCycles u.opc u.word = n := by
    rw [hu, hn]
    exact (opCycles_vectors (opc := 0xA) (by decide) _).trans opN_opWord
  have len : u.len = max 1 n := by rw [← cycles, hu]; rfl
  have begins : (s.passGap q).opBegin q 0xA (opWord 0xA w) ((s.passGap q).issued q k 0xA (opWord 0xA w)) =
      ((s.passGap q).modStall q fun x => { x with cur := some u }).creditFault q (16 * neighbour q d + r) n := by
    rw [opBegin_nsend, opN_opWord, opRing_opWord, bit_opWord (by decide), ← hn, ← hr, ← hd, rest.rd, if_neg (by omega), rest.issued, ← hu]
    rfl
  have under := rest.setCur (some u)
  have busy : (((s.passGap q).modStall q fun x => { x with cur := some u }).stall q).cur = some u := by rw [State.modStall_same]
  generalize (s.passGap q).modStall q (fun x => { x with cur := some u }) = t at begins under busy
  have stall : ∀ j, (t.creditFault q (16 * neighbour q d + r) n).stall j = t.stall j := stall_congr (creditFault_stb ..)
  have quiet : (t.creditFault q (16 * neighbour q d + r) n).rd R.STB_SP_STAT_AUDIT ≠ 1 := by
    rw [creditFault_rd _ _ _ _ (by decide), State.wrBit, State.wr_rd_other _ _ (by decide), under.rd]
    exact h.untagged
  have steps := steps_of_pass (q := q) (W := fun _ => []) (A := fun _ => []) len cycles (by rw [send]; decide) (.inr drop) quiet
    (fun i _ => by rw [cycleReads_dropped (u := u.after i [] []) _ _ send drop]; exact fun _ he => absurd he List.not_mem_nil)
    (fun i _ => (worked_dropped _ _ (u := u.after i [] []) send drop).trans rfl)
  have goes := run_of_steps (U := fun i => u.after i [] []) (by rw [stall, under.pend, h.landed]) (by omega)
    (max_le (by decide) (hn ▸ opN_short _)) (.refl _ _) (by rw [stall, busy, first]) steps fun _ z _ => opFinish_cur z q _
  obtain ⟨e, z, v, ended, -, ran⟩ := goes
  have ctx : u.ctx = k := by rw [hu]; rfl
  have pc : u.pc = s.rd (R.STB_TASK_PC q k) := by rw [hu]; rfl
  refine ⟨c, e, t, z, u.after (max 1 n) [] [], v, under, ended, rfl, ?_⟩
  rw [first, opFinish_next (u := u.after (max 1 n) [] []) (opc := 0xA) send (by decide)] at ran
  rw [opRow_of_idle h.works h.idle h.landed, opStart_of_sound (u := u) ((rest.opFault ..).trans h.sound) (by rw [begins, stall, busy]),
    begins, ran, ← pc, ← ctx]
  rfl

theorem nsend_denied (h : s.Issues q k 0xA w) (hn : n = opN w.toNat) (hr : r = opRing w.toNat) (hd : d = b2n (bit w.toNat 20))
    (short : s.rd (credKey q d r) < n) : ∃ t, exec (.nsend q k w) s = .next t ∧ (∀ x, x ≠ q.val → t.stall x = s.stall x) ∧
    (t.stall q).pend = [] ∧ t.rd (credKey q d r) = s.rd (credKey q d r) ∧ bit (t.rd R.STB_SP_STAT_CREDIT_FAULT) q = true ∧
    s.Raises 0x58 ([16, BitVec.ofNat 8 (16 * neighbour q d + r)] ++ le 2 n) t ∧
    t.rd (R.STB_TASK_PC q k) = (s.rd (R.STB_TASK_PC q k) + 1) % 4096 ∧ t.rd (R.STB_TASK_STATE q k) = s.rd (R.STB_TASK_STATE q k) ∧
    s.Frame [.regs, .spoke, .stb, .flt] t := by
  obtain ⟨c, e, t, z, x, v, under, ended, writes, ran⟩ := opRow_of_denied h hn hr hd short
  have stb := creditFault_stb t q (16 * neighbour q d + r) n
  have block := credKey_block (q := q) (d := d) r (hr ▸ opRing_lt _)
  have other : ∀ j, j / 1024 < 0x7000 → j ≠ R.STB_TASK_PC q k → j ≠ R.STB_SP_STAT_CREDIT_FAULT →
      (((z.opDone q x).opGoes q k (s.rd (R.STB_TASK_PC q k) + 1)).onward q v).rd j = s.rd j := fun j low pc shown =>
    calc (((z.opDone q x).opGoes q k (s.rd (R.STB_TASK_PC q k) + 1)).onward q v).rd j
      _ = z.rd j := State.wr_rd_other (z.opDone q x) _ pc.symm
      _ = (t.wrBit R.STB_SP_STAT_CREDIT_FAULT q true).rd j := (ended.rd j).trans (creditFault_rd _ _ _ _ low)
      _ = t.rd j := State.wr_rd_other _ _ shown.symm
      _ = s.rd j := under.rd j
  refine ⟨_, (exec_opRow (by simp [opRows]) s).trans (congrArg _ ran), fun j hj => ?_, ?_, ?_, ?_, fun ch => ?_, ?_, ?_, ran ▸ opRow_frame s q k 0xA w⟩
  · rw [State.onward, State.modStall_other _ hj, State.opGoes, State.wr_stall, (ended.opDone writes).others j hj, stall_congr stb, under.others j hj]
  · rw [State.onward, State.modStall_same, State.opGoes, State.wr_stall]
    dsimp only
    rw [(ended.opDone writes).pend, stall_congr stb, under.pend, h.landed]
  · refine other _ (by omega) (fun same => ?_) fun same => ?_
    · rw [same] at block
      dsimp only [R.STB_TASK_PC] at block
      omega
    · rw [same] at block
      dsimp only [R.STB_SP_STAT_CREDIT_FAULT] at block
      omega
  · have shown : (((z.opDone q x).opGoes q k (s.rd (R.STB_TASK_PC q k) + 1)).onward q v).rd R.STB_SP_STAT_CREDIT_FAULT =
        z.rd R.STB_SP_STAT_CREDIT_FAULT := State.wr_rd_other (z.opDone q x) _ (by dsimp only [R.STB_TASK_PC, R.STB_SP_STAT_CREDIT_FAULT]; omega)
    rw [shown, ended.rd, creditFault_rd _ _ _ _ (by decide), State.wrBit, State.wr_rd_same, bit_setBit_same]
  · have same : (((z.opDone q x).opGoes q k (s.rd (R.STB_TASK_PC q k) + 1)).onward q v).chan ch =
        (t.creditFault q (16 * neighbour q d + r) n).chan ch := chan_congr (ended.frame .spoke (by decide)) ch
    have before : t.chan ch = s.chan ch := chan_congr (under.frame .spoke (by decide)) ch
    rw [same, creditFault_raises, before]
  · exact State.wr_rd_same (z.opDone q x) _ _
  · refine other _ ?_ ?_ ?_
    · dsimp only [R.STB_TASK_STATE]; omega
    · dsimp only [R.STB_TASK_STATE, R.STB_TASK_PC]; omega
    · dsimp only [R.STB_TASK_STATE, R.STB_SP_STAT_CREDIT_FAULT]; omega

/-! ### With credit -/

/-- `y` is `b` but for the vectors e 0 to e (i - 1), on their way to another stall m since the sender's cycle `first`: the sender is now in
its cycle c, and each takes 8 cycles. -/
structure State.Sends (b : State) (q m : Nat) (e : Nat → StallMem × Nat × Option Nat) (first i c : Nat) (y : State) : Prop where
  own : y.stall q = b.stall q
  frame : b.Frame [.stb] y
  sent : ∃ l : List Landing, (y.stall m).pend = (b.stall m).pend ++ l ∧ l.map (fun l => (l.mem, l.val, l.ring)) = (List.range i).map e ∧
    ∀ x ∈ l, first + 8 ≤ x.cycle ∧ x.cycle ≤ c + 7
  late : first ≤ c

section
variable {y : State} {m first i : Nat} {e : Nat → StallMem × Nat × Option Nat}

theorem State.Sends.start (b : State) (q m : Nat) (e : Nat → StallMem × Nat × Option Nat) (h : first ≤ c) : b.Sends q m e first 0 c b :=
  ⟨rfl, .refl, ⟨[], (List.append_nil _).symm, rfl, fun _ hx => absurd hx List.not_mem_nil⟩, h⟩

theorem State.Sends.wait (h : b.Sends q m e first i c y) : b.Sends q m e first i (c + 1) y := by
  obtain ⟨own, frame, ⟨l, pend, what, times⟩, late⟩ := h
  exact ⟨own, frame, ⟨l, pend, what, fun x hx => ⟨(times x hx).1, (times x hx).2.trans (by omega)⟩⟩, by omega⟩

/-- One more vector is on its way. -/
theorem State.Sends.send (h : b.Sends q m e first i c y) (away : m ≠ q) {v : Landing} (due : v.cycle = c + 8) (hv : (v.mem, v.val, v.ring) = e i) :
    b.Sends q m e first (i + 1) (c + 1) (y.modStall m fun x => { x with pend := x.pend ++ [v] }) := by
  obtain ⟨own, frame, ⟨l, pend, what, times⟩, late⟩ := h
  refine ⟨(State.modStall_other _ away.symm).trans own, State.modStall_frame Covers.refl frame, ⟨l ++ [v], ?_, ?_, fun x hx => ?_⟩, by omega⟩
  · rw [State.modStall_same, pend, List.append_assoc]
  · rw [List.map_append, what, map_range_succ, List.map_singleton, hv]
  · obtain before | now := List.mem_append.mp hx
    · obtain ⟨lo, hi⟩ := times x before
      omega
    · rw [List.mem_singleton.mp now]
      omega

/-- A change of another stall leaves a stall at rest. -/
theorem State.Rests.modOther (h : y.Rests q c t) (away : m ≠ q) (f : Stall → Stall) : (y.modStall m f).Rests q c (t.modStall m f) where
  own := by rw [State.modStall_other _ away.symm, State.modStall_other _ away.symm, h.own]
  others n hn := by
    rw [State.modStall_stall, State.modStall_stall, h.others n hn]
    split
    next same => rw [same, h.others n hn]
    next => rfl
  frame p hp := by
    have same : y.same p t := h.frame p hp
    cases p with
    | stb => exact absurd (by decide) hp
    | _ => exact same

end

/-- A cycle of an NSEND with credit: the vector read is on its way to the neighbour. -/
theorem opCycle_of_send (send : u.opc = 0xA) (credit : u.drop = false) (quiet : t.rd R.STB_SP_STAT_AUDIT ≠ 1)
    (good : (t.stall q).parBad = []) (long : opCycles u.opc u.word ≠ 0) (more : u.i < u.len) : t.opCycle q u =
      let y := t.modStall (neighbour q (b2n (bit u.word 20))) fun x => { x with pend := x.pend ++
        [⟨(t.stall q).cycle + 8, .act, 0, t.unitAt q .act (t.accessUnit q .act u.src u.i), u.ctx, u.pc, some (opRing u.word)⟩] }
      if u.i + 1 < u.len then y.modStall q fun x => { x with cur := some { u with i := u.i + 1 } }
      else y.opFinish q { u with i := u.i + 1 } := by
  have reads : t.cycleReads q u = [(.act, t.accessUnit q .act u.src u.i)] := by unfold State.cycleReads; rw [send, credit]; rfl
  have work : ∀ vals : List Nat, t.cycleWork q u vals = (t.modStall (neighbour q (b2n (bit u.word 20))) fun x => { x with pend := x.pend ++
      [⟨(t.stall q).cycle + 8, .act, 0, vals.headD 0, u.ctx, u.pc, some (opRing u.word)⟩] }, u) := fun vals => by
    unfold State.cycleWork; rw [send, credit]; rfl
  rw [opCycle_of_sound quiet (fun _ _ => parityBad_eq_false good _ _) (by rw [send]; decide) long more, work, reads]
  rfl

/-- One cycle of an NSEND, from the cycle before it. -/
theorem opCycle_of_sends {y : State} {m first i : Nat} (send : u.opc = 0xA) (credit : u.drop = false) (quiet : b.rd R.STB_SP_STAT_AUDIT ≠ 1)
    (good : (b.stall q).parBad = []) (cycles : opCycles u.opc u.word = n) (len : u.len = max 1 n)
    (hm : m = neighbour q (b2n (bit u.word 20))) (hi : i < n) (rest : y.Rests q c t)
    (sends : b.Sends q m (fun i => (.act, b.unitAt q .act (b.accessUnit q .act u.src i), some (opRing u.word))) first i c y) :
    ∃ y' t', y'.Rests q c t' ∧ b.Sends q m (fun i => (.act, b.unitAt q .act (b.accessUnit q .act u.src i), some (opRing u.word)))
        first (i + 1) (c + 1) y' ∧ t.opCycle q (u.after i [] []) =
      if i + 1 < max 1 n then t'.modStall q fun x => { x with cur := some (u.after (i + 1) [] []) }
      else t'.opFinish q (u.after (i + 1) [] []) := by
  have regs : ∀ j, t.rd j = b.rd j := fun j => (rest.rd j).trans (rd_congr (sends.frame .regs (by decide)) j)
  have value : t.unitAt q .act (t.accessUnit q .act u.src i) = b.unitAt q .act (b.accessUnit q .act u.src i) := by
    rw [rest.unitAt, accessUnit_congr (fun _ _ => regs _) (fun _ _ => regs _) (fun _ _ => regs _), State.unitAt, sends.own]
    rfl
  have away : m ≠ q := hm ▸ neighbour_ne q _
  have cycle := opCycle_of_send (u := u.after i [] []) send credit (t := t) (q := q) (by rwa [regs]) (by rw [rest.own, sends.own]; exact good)
    (by exact cycles.trans_ne (by omega)) (by show i < u.len; omega)
  refine ⟨_, _, rest.modOther away _, sends.send (v := ⟨c + 8, .act, 0, t.unitAt q .act (t.accessUnit q .act u.src i), u.ctx, u.pc,
    some (opRing u.word)⟩) away rfl (by rw [value]), ?_⟩
  rw [cycle, hm, rest.cycle, ← len]
  rfl

/-- The cycles of an NSEND with credit. -/
theorem drain_of_sends {m first : Nat} (send : u.opc = 0xA) (credit : u.drop = false) (quiet : b.rd R.STB_SP_STAT_AUDIT ≠ 1)
    (good : (b.stall q).parBad = []) (landed : (b.stall q).pend = []) (cycles : opCycles u.opc u.word = n) (len : u.len = max 1 n)
    (short : n ≤ 32760) (hm : m = neighbour q (b2n (bit u.word 20))) (start : b.Rests q c t) (late : first ≤ c)
    (busy : (t.stall q).cur = some (u.after 0 [] [])) : ∃ (c : Nat) (y z : State) (v : Stall → Nat), y.Rests q c z ∧
      b.Sends q m (fun i => (.act, b.unitAt q .act (b.accessUnit q .act u.src i), some (opRing u.word))) first n (c + 1) y ∧
      State.opDrain 40000 q ((t.opCycle q (u.after 0 [] [])).onward q (·.used)) = (z.opFinish q (u.after (max 1 n) [] [])).onward q v := by
  generalize he : (fun i => (StallMem.act, b.unitAt q .act (b.accessUnit q .act u.src i), some (opRing u.word))) = e
  have cycle : ∀ {i c y t}, i < n → y.Rests q c t → b.Sends q m e first i c y → _ := fun hi rest sends =>
    opCycle_of_sends send credit quiet good cycles len hm hi rest (he ▸ sends)
  rw [he] at cycle
  refine opDrain_first_ends (u := fun i => u.after i [] [])
    (Inv := fun i c t => ∃ y, y.Rests q c t ∧ b.Sends q m e first i c y ∧ (t.stall q).cur = some (u.after i [] []))
    (Done := fun x => ∃ c y z v, y.Rests q c z ∧ b.Sends q m e first n (c + 1) y ∧ x = (z.opFinish q (u.after (max 1 n) [] [])).onward q v)
    (len := max 1 n) ?_ ?_ ?_ ?_ ?_ (by omega) (max_le (by decide) short) ⟨b, start, .start b q m e late, busy⟩
  · rintro i c t ⟨y, rest, sends, cur⟩
    exact ⟨cur, by rw [rest.pend, sends.own, landed], rest.cycle⟩
  · rintro i c t v ⟨y, rest, sends, cur⟩
    exact ⟨y, rest.onward v, sends.wait, by rw [State.onward, State.modStall_same, cur]⟩
  · rintro i c t v more ⟨y, rest, sends, cur⟩
    obtain ⟨y', t', rest', sends', goes⟩ := cycle (by omega) rest sends
    rw [goes, if_pos more]
    exact ⟨y', (rest'.setCur _).onward v, sends', by rw [State.onward, State.modStall_same, State.modStall_same]⟩
  · rintro i c t v final ⟨y, rest, sends, cur⟩
    obtain rfl | pos := n.eq_zero_or_pos
    · obtain rfl : i = 0 := by omega
      have ends : ¬ (u.after 0 [] []).i + 1 < (u.after 0 [] []).len := by
        show ¬ 0 + 1 < u.len
        rw [len]
        decide
      rw [opCycle_of_empty (u := u.after 0 [] []) (by rw [OpRun.after, send]; decide) cycles, if_neg ends]
      exact ⟨c, y, t, v, rest, sends.wait, rfl⟩
    · obtain ⟨y', t', rest', sends', goes⟩ := cycle (by omega) rest sends
      rw [goes, if_neg (by omega), final]
      exact ⟨c, y', t', v, rest', (by omega : n = i + 1) ▸ sends', rfl⟩
  · rintro x ⟨c, y, z, v, -, -, rfl⟩
    rw [State.onward, State.modStall_same]
    exact opFinish_cur ..

/-- The balance that an NSEND takes is no field of an access or of audit mode. -/
theorem credKey_ne {d j : Nat} (ring : r < 16) (other : j / 1024 < 0x5890 ∨ 0x5894 ≤ j / 1024) : credKey q d r ≠ j := fun same => by
  have := credKey_block (q := q) (d := d) r ring
  rw [same] at this
  omega

/-- An NSEND with credit runs to its end, and its vectors are on their way. -/
theorem opRow_of_sent (h : s.Issues q k 0xA w) (good : (s.stall q).parBad = []) {a : Nat} (hn : n = opN w.toNat) (hr : r = opRing w.toNat)
    (hd : d = b2n (bit w.toNat 20)) (ha : a = s.operand q k .act (bits w.toNat 25 3)) (credit : n ≤ s.rd (credKey q d r)) :
    ∃ (c : Nat) (y z : State) (x : OpRun) (v : Stall → Nat), y.Rests q c z ∧
      (s.wr (credKey q d r) (s.rd (credKey q d r) - n)).Sends q (neighbour q d)
        (fun i => (.act, s.unitAt q .act (s.accessUnit q .act a i), some r)) (s.stall q).cycle n (c + 1) y ∧ x.buf = [] ∧
      s.opRow q k 0xA w = ((z.opDone q x).opGoes q k (s.rd (R.STB_TASK_PC q k) + 1)).onward q v := by
  obtain ⟨c, late, rest⟩ := passGap_rests s q
  obtain ⟨u, hu⟩ : ∃ u, u = s.issued q k 0xA (opWord 0xA w) := ⟨_, rfl⟩
  have ring : r < 16 := hr ▸ opRing_lt _
  have send : u.opc = 0xA := by rw [hu]; rfl
  have word : u.word = opWord 0xA w := by rw [hu]; rfl
  have src : u.src = a := by rw [ha, ← bits_opWord (opc := 0xA) (by decide : 25 + 3 ≤ 28), hu]; rfl
  have ctx : u.ctx = k := by rw [hu]; rfl
  have pc : u.pc = s.rd (R.STB_TASK_PC q k) := by rw [hu]; rfl
  have first : u.after 0 [] [] = u := by rw [hu]; rfl
  have cycles : opCycles u.opc u.word = n := by
    rw [send, word, hn]
    exact (opCycles_vectors (opc := 0xA) (by decide) _).trans opN_opWord
  generalize hb : s.wr (credKey q d r) (s.rd (credKey q d r) - n) = b
  have stall : b.stall q = s.stall q := by rw [← hb, State.wr_stall]
  have kept : ∀ j, j / 1024 < 0x5890 ∨ 0x5894 ≤ j / 1024 → b.rd j = s.rd j := fun j hj => by
    rw [← hb, State.wr_rd_other _ _ (credKey_ne ring hj)]
  have begins : (s.passGap q).opBegin q 0xA (opWord 0xA w) ((s.passGap q).issued q k 0xA (opWord 0xA w)) =
      ((s.passGap q).wr (credKey q d r) (s.rd (credKey q d r) - n)).modStall q fun x => { x with cur := some u } := by
    rw [opBegin_nsend, opN_opWord, opRing_opWord, bit_opWord (by decide), ← hn, ← hr, ← hd, rest.rd, if_pos credit, rest.issued, ← hu]
  have under : b.Rests q c (((s.passGap q).wr (credKey q d r) (s.rd (credKey q d r) - n)).modStall q fun x => { x with cur := some u }) :=
    hb ▸ (rest.wr _ _).setCur _
  have busy : ((((s.passGap q).wr (credKey q d r) (s.rd (credKey q d r) - n)).modStall q fun x => { x with cur := some u }).stall q).cur =
      some u := by rw [State.modStall_same]
  rw [opRow_of_idle h.works h.idle h.landed, opStart_of_sound (u := u) ((rest.opFault ..).trans h.sound) (by rw [begins, busy]), begins]
  generalize ((s.passGap q).wr (credKey q d r) (s.rd (credKey q d r) - n)).modStall q (fun x => { x with cur := some u }) = t at under busy
  obtain ⟨c, y, z, v, ended, sends, ran⟩ := drain_of_sends (u := u) (n := n) send (by rw [hu]; rfl) (by rw [kept _ (by decide)]; exact h.untagged)
    (by rw [stall, good]) (by rw [stall, h.landed]) cycles (by rw [← cycles, hu]; rfl) (hn ▸ opN_short _) rfl under late (by rw [first, busy])
  have value : ∀ i, b.unitAt q .act (b.accessUnit q .act a i) = s.unitAt q .act (s.accessUnit q .act a i) := fun i => by
    rw [accessUnit_congr (s := s) (fun r hr => kept _ ?_) (fun r hr => kept _ ?_) (fun r hr => kept _ ?_), State.unitAt, stall]
    · rfl
    · dsimp only [R.STB_RING_EN]; omega
    · dsimp only [R.STB_RING_BASE]; omega
    · dsimp only [R.STB_RING_SIZE]; omega
  rw [src, word, opRing_opWord, bit_opWord (by decide), ← hr, ← hd] at sends
  simp only [value] at sends
  refine ⟨c, y, z, u.after (max 1 n) [] [], v, ended, sends, rfl, ?_⟩
  rw [← first, ran, opFinish_next (u := u.after (max 1 n) [] []) (opc := 0xA) send (by decide), first, ← pc, ← ctx]
  rfl

theorem nsend_sends (h : s.Issues q k 0xA w) (good : (s.stall q).parBad = []) {a : Nat} (hn : n = opN w.toNat) (hr : r = opRing w.toNat)
    (hd : d = b2n (bit w.toNat 20)) (ha : a = s.operand q k .act (bits w.toNat 25 3)) (credit : n ≤ s.rd (credKey q d r)) :
    ∃ t, exec (.nsend q k w) s = .next t ∧ (t.stall q).pend = [] ∧ (t.stall q).cur = none ∧
    (t.stall (neighbour q d)).pend.take (s.stall (neighbour q d)).pend.length = (s.stall (neighbour q d)).pend ∧
    ((t.stall (neighbour q d)).pend.drop (s.stall (neighbour q d)).pend.length).map (fun l => (l.mem, l.val, l.ring)) =
      (List.range n).map (fun i => (StallMem.act, s.unitAt q .act (s.accessUnit q .act a i), some r)) ∧
    (∀ l ∈ (t.stall (neighbour q d)).pend.drop (s.stall (neighbour q d)).pend.length,
      (s.stall q).cycle + 8 ≤ l.cycle ∧ l.cycle ≤ (t.stall q).cycle + 7) ∧
    s.Fields [(R.STB_TASK_PC q k, (s.rd (R.STB_TASK_PC q k) + 1) % 4096), (credKey q d r, s.rd (credKey q d r) - n)] t ∧
    s.Frame [.regs, .stb] t := by
  obtain ⟨c, y, z, x, v, rest, ⟨own, frame, ⟨l, pend, what, times⟩, -⟩, writes, ran⟩ := opRow_of_sent h good hn hr hd ha credit
  have away := neighbour_ne q d
  have rest := rest.opDone writes
  have sender : ((((z.opDone q x).opGoes q k (s.rd (R.STB_TASK_PC q k) + 1)).onward q v).stall q) =
      { s.stall q with cycle := c + 1, used := v ((z.opDone q x).stall q) } := by
    rw [State.onward, State.modStall_same, State.opGoes, State.wr_stall, rest.own, own, State.wr_stall, opDone_cur, ← h.idle]
  have there : (((z.opDone q x).opGoes q k (s.rd (R.STB_TASK_PC q k) + 1)).onward q v).stall (neighbour q d) = y.stall (neighbour q d) := by
    rw [State.onward, State.modStall_other _ away, State.opGoes, State.wr_stall, rest.others _ away]
  rw [State.wr_stall] at pend
  refine ⟨_, (exec_opRow (by simp [opRows]) s).trans (congrArg _ ran), ?_, ?_, ?_, ?_, ?_, ?_, ?_⟩
  · rw [sender]
    exact h.landed
  · rw [sender]
    exact h.idle
  · rw [there, pend, List.take_left]
  · rw [there, pend, List.drop_left, what]
  · rw [there, pend, List.drop_left, sender]
    exact times
  · exact (((State.Fields.refl (s := s)).wr.of_regs (frame .regs (by decide))).of_regs rest.regs).wr.of_regs rfl
  · have start : s.Frame [.regs, .stb] (s.wr (credKey q d r) (s.rd (credKey q d r) - n)) := State.wr_frame (Covers.refl.sub rfl) .refl
    exact State.modStall_frame (Covers.refl.sub rfl) (State.wr_frame (Covers.refl.sub rfl)
      ((start.trans (frame.mono (Covers.refl.sub rfl))).trans (rest.frame.mono (Covers.refl.sub rfl))))

end
end Sys2Proof.Machine
end

section
/-!
PROOFS. The statement on the operations of a stall (O51), clause by clause from the rules above.
-/

namespace Sys2Proof.Machine

/-- Settles O51, opcode by opcode: an operation either faults as it issues, or runs through its cycles with its stall at rest until its
last cycle leaves what Table 11-3 says. -/
theorem stableOperations : Obligations.StableOperations := by
  unfold Obligations.StableOperations
  refine ⟨fun s q k w i row off => exec_opRow_of_off row off,
    fun s q k w i opc why row works idle landed order stop bad => fault_effect row works idle landed order stop bad,
    fun s q k w h => nop_runs h, ?_,
    fun s q k w u h hu sound clean => tload_effect h hu sound clean,
    fun s q k w u h hu bad stop order => tload_faults h hu bad stop order,
    fun s q k w a p n h good hn ha hp => mact_runs h good hn ha hp,
    fun s q k w a p n h good hn hp ha => act_runs h good hn hp ha,
    fun s q k w a b n m h good hn hm ha hb => pool_runs h good hn hm ha hb,
    fun s q k w a b n m h good hn hm ha hb => move_runs h good hn hm ha hb,
    fun s q k w a n r h good hn hr ha => store_runs h good hn hr ha,
    fun s q k w n r h hn hr own => radv_runs h hn hr own,
    fun s q k w n r h hn hr role => radv_frees h hn hr role,
    fun s q k w h meets => rwait_runs h ((ringMeets_iff ..).mpr meets),
    fun s q k w h order stop waits => rwait_waits h order stop fun meets => waits ((ringMeets_iff ..).mp meets),
    fun s q k w a n r d h good hn hr hd ha credit => nsend_sends h good hn hr hd ha credit,
    fun s q k w n r d h hn hr hd short => nsend_denied h hn hr hd short,
    fun s q k w n v h hn hv => loop_effect h hn hv,
    fun s q k w h order stop => waitt_effect h order stop,
    fun s q k w h => jump_runs h,
    fun s q k w h order stop => end_effect h order stop,
    fun s q l quiet own fits => land_effect quiet own fits,
    fun s q k w p h hp pos bad stop order => act_faults h hp pos bad stop order,
    fun fn sh x _ => ?_, ?_⟩
  · rintro s q k w rd imm hset hadd rfl rfl
    obtain ⟨t, ht, set⟩ := setr_effect hset
    obtain ⟨u, hu, added⟩ := addr_effect hadd
    exact ⟨t, u, ht, set, hu, added⟩
  · obtain ⟨y, hy, z, hz, linear, relu, relu6, sigmoid, tanh⟩ := activate_eq sh x
    exact ⟨y, hy, z, hz, fun e => e ▸ linear, fun e => e ▸ relu, fun e => e ▸ relu6, fun e => e ▸ sigmoid, fun e => e ▸ tanh⟩
  · decide

end Sys2Proof.Machine
end

section
/-!
PROOFS. The queue of waiting commands (00_scope.md): a step runs the command at its front, an empty queue idles, no command adds to it;
and the state after reset meets the invariant.
-/

namespace Sys2Proof.Machine

/-- No command's effect reaches the queue of waiting commands. -/
theorem pending_untouched (c : Instr) : Part.pending ∉ touches c := by
  unfold touches
  split <;> decide

/-- Settles O1: a step takes the command at the front, by the definition of `step`. -/
theorem stepRunsFront : Obligations.StepRunsFront := fun _ _ _ => rfl

/-- Settles O2: an empty queue is the idle case of `step`. -/
theorem emptyQueueIdles : Obligations.EmptyQueueIdles := by
  unfold Obligations.EmptyQueueIdles
  intro s idle
  unfold step
  rw [idle]

/-- Settles O3: an empty queue stays as it is; otherwise the command taken runs on the rest of the queue, which no row touches. -/
theorem queueOnlyShrinks : Obligations.QueueOnlyShrinks := by
  unfold Obligations.QueueOnlyShrinks
  intro s t hstep
  cases waiting : s.pending with
  | nil =>
    obtain rfl : s = t := Host.Outcome.next.inj ((emptyQueueIdles s waiting).symm.trans hstep)
    exact waiting
  | cons c rest =>
    obtain ⟨u, hu, frame⟩ := exec_frame c { s with pending := rest }
    have runs : step s = exec c { s with pending := rest } := by
      unfold step
      rw [waiting]
    obtain rfl : u = t := Host.Outcome.next.inj (hu.symm.trans (runs.symm.trans hstep))
    exact frame .pending (pending_untouched c)

/-- Settles O6: after reset every list that the invariant bounds is empty. -/
theorem resetHasInvariant : Obligations.ResetHasInvariant := by
  unfold Obligations.ResetHasInvariant
  exact ⟨rfl, List.forall_mem_nil _, Nat.zero_le _, Nat.zero_le _, List.forall_mem_nil _, List.forall_mem_nil _, rfl, rfl, rfl⟩

end Sys2Proof.Machine
end

section
/-!
PROOFS. The arrival of a fault (R426, R427, R500, 17_faults.md): what the two latches and the queue hold after it, and what clears the
latches.
-/

namespace Sys2Proof.Machine

variable {s : State}

/-! ### The latches (R426) -/

/-- A latch that takes a record: the fields of the record and of VALID. -/
theorem wrs_latch_rd {record valid bits : Nat} (h : record ≠ valid) : (s.wrs [(record, bits), (valid, 1)]).rd valid = 1 ∧
    (s.wrs [(record, bits), (valid, 1)]).rd record = bits :=
  ⟨State.wr_rd_same _ _ _, (State.wr_rd_other _ _ h.symm).trans (State.wr_rd_same _ _ _)⟩

theorem wrs_latch_rd_other {record valid bits k : Nat} (hr : record ≠ k) (hv : valid ≠ k) :
    (s.wrs [(record, bits), (valid, 1)]).rd k = s.rd k := (State.wr_rd_other _ _ hv).trans (State.wr_rd_other _ _ hr)

/-- FLT_FIRST takes the record when it holds none. -/
def State.latchFirst (s : State) (r : FaultRec) : State :=
  if s.on R.FLT_FIRST_VALID then s else s.wrs [(R.FLT_FIRST_RECORD, faultBits r), (R.FLT_FIRST_VALID, 1)]

/-- FLT_HIGH takes the record when it holds none, or one of a lower class. -/
def State.latchHigh (s : State) (r : FaultRec) : State :=
  if s.on R.FLT_HIGH_VALID && decide (r.cls ≤ s.rd R.FLT_HIGH_RECORD % 8) then s
  else s.wrs [(R.FLT_HIGH_RECORD, faultBits r), (R.FLT_HIGH_VALID, 1)]

theorem latchFault_eq (r : FaultRec) : s.latchFault r = (s.latchFirst r).latchHigh r := rfl

theorem latchFirst_rd (r : FaultRec) : (s.latchFirst r).rd R.FLT_FIRST_VALID = 1 ∧
    (s.latchFirst r).rd R.FLT_FIRST_RECORD = if s.rd R.FLT_FIRST_VALID = 1 then s.rd R.FLT_FIRST_RECORD else faultBits r := by
  unfold State.latchFirst
  by_cases valid : s.rd R.FLT_FIRST_VALID = 1
  · rw [if_pos (State.on_iff.mpr valid), if_pos valid]
    exact ⟨valid, rfl⟩
  · rw [if_neg (mt State.on_iff.mp valid), if_neg valid]
    exact wrs_latch_rd (by decide)

theorem latchFirst_rd_other (r : FaultRec) {k : Nat} (hr : R.FLT_FIRST_RECORD ≠ k) (hv : R.FLT_FIRST_VALID ≠ k) :
    (s.latchFirst r).rd k = s.rd k := by
  unfold State.latchFirst
  split
  · rfl
  · exact wrs_latch_rd_other hr hv

theorem latchHigh_rd (r : FaultRec) : (s.latchHigh r).rd R.FLT_HIGH_VALID = 1 ∧ (s.latchHigh r).rd R.FLT_HIGH_RECORD =
    if s.rd R.FLT_HIGH_VALID = 1 ∧ r.cls ≤ s.rd R.FLT_HIGH_RECORD % 8 then s.rd R.FLT_HIGH_RECORD else faultBits r := by
  unfold State.latchHigh
  simp only [Bool.and_eq_true, State.on_iff, decide_eq_true_eq]
  split
  · rename_i keeps
    exact ⟨keeps.1, rfl⟩
  · exact wrs_latch_rd (by decide)

theorem latchHigh_rd_other (r : FaultRec) {k : Nat} (hr : R.FLT_HIGH_RECORD ≠ k) (hv : R.FLT_HIGH_VALID ≠ k) :
    (s.latchHigh r).rd k = s.rd k := by
  unfold State.latchHigh
  split
  · rfl
  · exact wrs_latch_rd_other hr hv

/-- Both latches after the arrival: each as it judges the record alone. -/
theorem latchFault_rd (r : FaultRec) : (s.latchFault r).rd R.FLT_FIRST_VALID = 1 ∧
    (s.latchFault r).rd R.FLT_FIRST_RECORD = (if s.rd R.FLT_FIRST_VALID = 1 then s.rd R.FLT_FIRST_RECORD else faultBits r) ∧
    (s.latchFault r).rd R.FLT_HIGH_VALID = 1 ∧ (s.latchFault r).rd R.FLT_HIGH_RECORD =
      (if s.rd R.FLT_HIGH_VALID = 1 ∧ r.cls ≤ s.rd R.FLT_HIGH_RECORD % 8 then s.rd R.FLT_HIGH_RECORD else faultBits r) := by
  obtain ⟨firstValid, firstRecord⟩ := latchFirst_rd (s := s) r
  obtain ⟨highValid, highRecord⟩ := latchHigh_rd (s := s.latchFirst r) r
  rw [latchFirst_rd_other r (by decide) (by decide), latchFirst_rd_other r (by decide) (by decide)] at highRecord
  rw [latchFault_eq]
  exact ⟨(latchHigh_rd_other r (by decide) (by decide)).trans firstValid,
    (latchHigh_rd_other r (by decide) (by decide)).trans firstRecord, highValid, highRecord⟩

/-- The latches are all that a fault writes before it enters the queue. -/
theorem latchFault_flt (r : FaultRec) : (s.latchFault r).flt = s.flt :=
  (State.latchFault_frame (l := [.regs]) (fun _ hp => hp) .refl) .flt (by decide)

theorem latchFault_lost (r : FaultRec) : (s.latchFault r).rd R.FLT_STAT_LOST = s.rd R.FLT_STAT_LOST :=
  (latchHigh_rd_other r (by decide) (by decide)).trans (latchFirst_rd_other r (by decide) (by decide))

/-! ### The queue (R427) -/

theorem enqueueFault_of_room {i : FaultItem} (room : s.flt.queue.length < 16) :
    s.enqueueFault i = { s with flt.queue := s.flt.queue ++ [i] } := if_pos room

theorem enqueueFault_of_full {i : FaultItem} (full : 16 ≤ s.flt.queue.length) : s.enqueueFault i =
    if lowestClass s.flt.queue < i.record.cls then
      { s.count R.FLT_STAT_LOST 0xFFFF 1 with flt.queue := dropNewest (lowestClass s.flt.queue) s.flt.queue ++ [i] }
    else s.count R.FLT_STAT_LOST 0xFFFF 1 := if_neg (Nat.not_lt.mpr full)

/-- Entering the queue writes no field but LOST. -/
theorem enqueueFault_rd_of_ne {k : Nat} (i : FaultItem) (h : R.FLT_STAT_LOST ≠ k) : (s.enqueueFault i).rd k = s.rd k := by
  have lost : (s.count R.FLT_STAT_LOST 0xFFFF 1).rd k = s.rd k := State.wr_rd_other _ _ h
  unfold State.enqueueFault
  dsimp only
  split
  · rfl
  · split <;> exact lost

/-! ### The arrival -/

section
variable {cls source code unit data attrib : Nat}

theorem fault_of_held (held : s.pwr.held = true) : s.fault cls source code unit data attrib = s := if_pos held

theorem fault_of_live (live : s.pwr.held = false) : s.fault cls source code unit data attrib =
    (s.latchFault (s.faultRec cls source code unit data)).enqueueFault ⟨s.faultRec cls source code unit data, attrib⟩ :=
  if_neg (by rw [live]; exact Bool.false_ne_true)

/-- With room the fault joins the end of the queue and none is lost. -/
theorem fault_of_room (live : s.pwr.held = false) (room : s.flt.queue.length < 16) :
    (s.fault cls source code unit data attrib).flt =
      { s.flt with queue := s.flt.queue ++ [⟨s.faultRec cls source code unit data, attrib⟩] } ∧
    (s.fault cls source code unit data attrib).rd R.FLT_STAT_LOST = s.rd R.FLT_STAT_LOST := by
  rw [fault_of_live live, enqueueFault_of_room (by rwa [latchFault_flt])]
  refine ⟨?_, latchFault_lost _⟩
  dsimp only
  rw [latchFault_flt]

/-- In a full queue one fault is lost: the newest of the lowest class if the fault is above that class, else the fault itself. -/
theorem fault_of_full (live : s.pwr.held = false) (full : 16 ≤ s.flt.queue.length) :
    (s.fault cls source code unit data attrib).rd R.FLT_STAT_LOST = satAdd 0xFFFF (s.rd R.FLT_STAT_LOST) 1 ∧
    (s.fault cls source code unit data attrib).flt =
      if lowestClass s.flt.queue < cls then
        { s.flt with queue := dropNewest (lowestClass s.flt.queue) s.flt.queue ++ [⟨s.faultRec cls source code unit data, attrib⟩] }
      else s.flt := by
  have latched := latchFault_flt (s := s) (s.faultRec cls source code unit data)
  rw [fault_of_live live, enqueueFault_of_full (by rwa [latched]), latched]
  have counted : ∀ u : State, u.rd R.FLT_STAT_LOST = s.rd R.FLT_STAT_LOST →
      (u.count R.FLT_STAT_LOST 0xFFFF 1).rd R.FLT_STAT_LOST = satAdd 0xFFFF (s.rd R.FLT_STAT_LOST) 1 :=
    fun u same => same ▸ State.wr_rd_same _ _ _
  have lost := counted _ (latchFault_lost (s := s) (s.faultRec cls source code unit data))
  show _ ∧ _ = if lowestClass s.flt.queue < (s.faultRec cls source code unit data).cls then _ else _
  split
  · exact ⟨lost, by dsimp only; rw [State.count_flt, latched]⟩
  · exact ⟨lost, (State.count_flt _ _ _ _).trans latched⟩

end

/-- Settles O7: held, with room, and with a full queue. -/
theorem faultArrives : Obligations.FaultArrives := by
  unfold Obligations.FaultArrives
  exact fun s cls source code unit data attrib => ⟨fault_of_held, fault_of_room, fault_of_full⟩

/-! ### What clears the latches -/

theorem exec_clrLatch_of_good {v : BitVec 8} (good : fltCheck 0x7005 v.toNat = stOk) (clears : bit v.toNat 0 = true) :
    exec (.clrLatch v) s = .next ((s.clearAttr 0x7002).clearAttr 0x7003) := congrArg Host.Outcome.next (if_pos ⟨good, clears⟩)

/-- Settles O8: a fault that arrives, CLR_LATCH, and a hub reset. -/
theorem faultLatches : Obligations.FaultLatches := by
  unfold Obligations.FaultLatches
  refine ⟨fun s cls source code unit data attrib live => ⟨_, rfl, ?_⟩, fun v s good clears => ⟨_, exec_clrLatch_of_good good clears, ?_⟩,
    fun s cause known notInForce => ⟨_, congrArg Host.Outcome.next (if_pos known), ?_⟩⟩
  · rw [fault_of_live live]
    iterate 4 rw [enqueueFault_rd_of_ne _ (by decide)]
    exact latchFault_rd _
  · have cleared : ∀ k, ((s.clearAttr 0x7002).clearAttr 0x7003).rd k = if k / 1024 = 0x7003 then resetOf k
        else if k / 1024 = 0x7002 then resetOf k else s.rd k := fun k => by rw [rd_clearAttr, rd_clearAttr]
    simp only [cleared]
    exact ⟨rfl, rfl, rfl, rfl, fun k first high => by rw [if_neg high, if_neg first],
      State.clearAttr_frame (Covers.refl.sub rfl) (State.clearAttr_frame (Covers.refl.sub rfl) .refl)⟩
  · have starts : s.pwr.held = false ∨ s.pwr.booted = true := by simpa [or_iff_not_imp_left] using notInForce
    rw [hubReset_of_notInForce _ starts]
    exact ⟨State.domainReset_rd rfl (by decide) (by decide), State.domainReset_rd rfl (by decide) (by decide),
      State.domainReset_rd rfl (by decide) (by decide), State.domainReset_rd rfl (by decide) (by decide)⟩

end Sys2Proof.Machine
end

section
/-!
PROOFS. The low voltage of the segment driver (R375, R380, 14_panel_segments.md): its beginning is a NOTE fault, which the latches of
R426 take.
-/

namespace Sys2Proof.Machine

variable {s : State}

/-- A fault that is taken leaves FLT_FIRST filled (R426). -/
theorem fault_firstValid {cls source code unit data attrib : Nat} (live : s.pwr.held = false) :
    (s.fault cls source code unit data attrib).rd R.FLT_FIRST_VALID = 1 := by
  rw [fault_of_live live, enqueueFault_rd_of_ne _ (by decide)]
  exact (latchFault_rd _).1

/-- The beginning of VLCD_LOW is shown, told and reported as a fault. -/
theorem exec_vlcdLow_of_clear (clear : s.rd R.SEG_STAT_VLCD_LOW ≠ 1) : exec .vlcdLow s =
    .next (((s.wrB R.SEG_STAT_VLCD_LOW true).segNote 1 1).fault clNote 0x64 1 0 1) := by
  show Host.Outcome.next (s.vlcdLow true) = _
  unfold State.vlcdLow
  rw [if_neg (by rw [on_eq_false_iff.mpr clear]; decide)]
  simp only [b2n, if_true]

/-- The hub right after reset, but with its controller domain running. -/
def State.resetRunning : State := { State.reset with pwr.held := false }

/-- Refutes O54: its fifth clause keeps every field outside 0x7800 to 0x78FF but VLCD_LOW, yet the NOTE fault of VLCD_LOW's beginning
fills FLT_FIRST at 0x7002: in the running hub after reset FLT_FIRST.VALID goes from 0 to 1. -/
theorem not_segmentPanel : ¬ Obligations.SegmentPanel := by
  unfold Obligations.SegmentPanel
  rintro ⟨-, -, -, -, vlcdLow, -⟩
  have clear : State.resetRunning.rd R.SEG_STAT_VLCD_LOW = 0 := rfl
  obtain ⟨t, run, -, others, -⟩ := vlcdLow State.resetRunning clear
  have kept : t.rd R.FLT_FIRST_VALID = 0 := others R.FLT_FIRST_VALID (by decide) (by decide)
  have filled : t.rd R.FLT_FIRST_VALID = 1 := by
    have notLow : State.resetRunning.rd R.SEG_STAT_VLCD_LOW ≠ 1 := by rw [clear]; decide
    rw [exec_vlcdLow_of_clear notLow] at run
    rw [← Host.Outcome.next.inj run]
    exact fault_firstValid (by simp [State.resetRunning])
  exact absurd (kept.symm.trans filled) (by decide)

end Sys2Proof.Machine
end

section
/-!
PROOFS. What the chapters of the panel, the thermal monitor and security share: events, faults and replies of a state of which other
parts differ.
-/

namespace Sys2Proof.Machine

variable {s t u : State}

/-! ### Events -/

/-- An event of a state reached without changing a channel is the event of the state before. -/
theorem State.Raises.of_eq {code : Nat} {b : Bytes} (h : u.Raises code b t) (e : u.spoke = s.spoke) : s.Raises code b t := fun ch => by
  rw [h ch, chan_congr e]

/-- An event is seen in every later state with the same channels. -/
theorem State.Raises.to_eq {code : Nat} {b : Bytes} (h : s.Raises code b u) (e : t.spoke = u.spoke) : s.Raises code b t := fun ch => by
  rw [chan_congr e, h ch]

/-! ### Faults -/

/-- What a fault puts into the queue depends on the queue, on the clock and on whether the controller domain is held alone. -/
theorem fault_flt_congr {cls source code unit data attrib : Nat} (flt : t.flt = s.flt) (pwr : t.pwr = s.pwr) (cad : t.cad = s.cad) :
    (t.fault cls source code unit data attrib).flt = (s.fault cls source code unit data attrib).flt := by
  have same : t.faultRec cls source code unit data = s.faultRec cls source code unit data := by
    unfold State.faultRec State.tpos State.stage
    rw [cad]
  cases held : s.pwr.held with
  | true => rw [fault_of_held held, fault_of_held (by rw [pwr, held]), flt]
  | false =>
    have held' : t.pwr.held = false := by rw [pwr, held]
    by_cases room : s.flt.queue.length < 16
    · rw [(fault_of_room held room).1, (fault_of_room held' (by rwa [flt])).1, flt, same]
    · rw [(fault_of_full held (Nat.le_of_not_lt room)).2, (fault_of_full held' (by rw [flt]; exact Nat.le_of_not_lt room)).2, flt, same]

/-! ### Replies -/

/-- What a final reply changes depends on the channels and the recoveries alone. -/
theorem finish_congr {r : Ref} {status : Nat} {extra : Bytes} (spoke : t.spoke = s.spoke) (flt : t.flt = s.flt) :
    t.finish r status extra = { t with spoke := (s.finish r status extra).spoke, flt := (s.finish r status extra).flt } := by
  have chan : t.chan r.ch = s.chan r.ch := chan_congr spoke _
  have touched : t.touchedBy r = s.touchedBy r := by
    unfold State.touchedBy
    rw [flt]
  unfold State.finish
  rw [chan, touched]
  split
  · show { t with spoke := _ } = { t with spoke := _, flt := _ }
    rw [spoke, ← flt]
  · split
    · show { t with flt := _ } = { t with spoke := _, flt := _ }
      rw [flt, ← spoke]
    · unfold State.postFinal State.modChan
      show { t with spoke := _ } = { t with spoke := _, flt := _ }
      rw [spoke, ← flt]

/-! ### One write -/

theorem wr_fields (s : State) (k v : Nat) : s.Fields [(k, v)] (s.wr k v) := State.Fields.refl.wr

end Sys2Proof.Machine
end

section
/-!
PROOFS. The thermal monitor's levels (R388 to R391, 15_die_thermal.md): the alarm and the act of a rise, the end of a grace, the fall of
the thermal level, and the lap edge at which the enforced level takes effect.
-/

namespace Sys2Proof.Machine

variable {s : State}

/-! ### DELTA as an integer (R385) -/

theorem deltaNow_of_low {d : Nat} (h : s.rd R.THM_STAT_DELTA = d) (low : d < 0x800) : s.deltaNow = d := by
  unfold State.deltaNow signed
  rw [h, Nat.mod_eq_of_lt (by omega)]
  exact if_pos low

theorem deltaNow_of_high (high : 0x800 ≤ s.rd R.THM_STAT_DELTA) (top : s.rd R.THM_STAT_DELTA < 0x1000) : s.deltaNow < 0 := by
  unfold State.deltaNow signed
  rw [Nat.mod_eq_of_lt (by omega), if_neg (show ¬ s.rd R.THM_STAT_DELTA < 2 ^ (12 - 1) from Nat.not_lt.mpr high)]
  omega

/-- A number of the lower half of a word keeps its value in two's complement. -/
theorem unsigned_natCast {w d : Nat} (h : d < 2 ^ w) : unsigned w (d : Int) = d := by
  unfold unsigned
  rw [← Int.natCast_mod, Int.toNat_natCast, Nat.mod_eq_of_lt h]

/-- A note of the thermal monitor reaches every channel that receives it. -/
theorem thmNote_raises (s : State) (kind unit data : Nat) :
    s.Raises 0x3C ([BitVec.ofNat 8 kind, BitVec.ofNat 8 unit] ++ le 2 data) (s.thmNote kind unit data) := s.note_raises 0x3C kind unit data

/-! ### The change of the enforced level is told (R390) -/

theorem enforcedTold_of_same {before : Nat} {byTemp : Bool} (h : s.enforced = before) : s.enforcedTold before byTemp = s := if_pos h

theorem enforcedTold_of_rise {before : Nat} (h : before < s.enforced) : s.enforcedTold before true =
    (s.thmNote 3 s.enforced (s.rd R.THM_STAT_HOT)).fault clDegrade 0x38 3 s.enforced (s.rd R.THM_STAT_HOT) :=
  (if_neg (Nat.ne_of_gt h)).trans (if_pos ⟨h, rfl⟩)

/-- A fall, or a change that temperature did not make, is a note and no fault. -/
theorem enforcedTold_of_note {before : Nat} {byTemp : Bool} (h : s.enforced ≠ before) (quiet : ¬(before < s.enforced ∧ byTemp = true)) :
    s.enforcedTold before byTemp = s.thmNote 3 s.enforced (s.rd R.THM_STAT_HOT) := (if_neg h).trans (if_neg quiet)

/-! ### The end of a grace (R389) -/

theorem floor_of_not_enforced (h : s.enforced = 0) : s.rd R.THM_STAT_FLOOR = 0 := Nat.le_zero.mp (h ▸ Nat.le_max_right _ _)

theorem graceExpire_over (target : 0 < s.rd R.THM_STAT_TARGET) (idle : s.enforced = 0) (ended : s.rd R.THM_STAT_GRACE ≤ 1) :
    ∃ t, exec .graceExpire s = .next t ∧
      t.thm = { s.thm with level := s.rd R.THM_STAT_TARGET } ∧ t.rd R.THM_STAT_GRACE = 0 ∧ t.enforced = s.rd R.THM_STAT_TARGET ∧
      s.Raises 0x3C ([3, BitVec.ofNat 8 (s.rd R.THM_STAT_TARGET)] ++ le 2 (s.rd R.THM_STAT_HOT)) t ∧
      t.flt = (s.fault clDegrade 0x38 3 (s.rd R.THM_STAT_TARGET) (s.rd R.THM_STAT_HOT)).flt ∧
      s.Frame [.regs, .spoke, .thm, .flt] t := by
  let u : State := { s.wr R.THM_STAT_GRACE 0 with thm.level := s.rd R.THM_STAT_TARGET }
  have hot : u.rd R.THM_STAT_HOT = s.rd R.THM_STAT_HOT := State.wr_rd_other s 0 (by decide : R.THM_STAT_GRACE ≠ R.THM_STAT_HOT)
  have floor : u.rd R.THM_STAT_FLOOR = 0 := by
    rw [show u.rd R.THM_STAT_FLOOR = s.rd R.THM_STAT_FLOOR from
      State.wr_rd_other s 0 (by decide : R.THM_STAT_GRACE ≠ R.THM_STAT_FLOOR), floor_of_not_enforced idle]
  have level : u.enforced = s.rd R.THM_STAT_TARGET := by
    show max (s.rd R.THM_STAT_TARGET) (u.rd R.THM_STAT_FLOOR) = _
    rw [floor, Nat.max_zero]
  have runs : exec .graceExpire s = .next (u.enforcedTold 0 true) := congrArg Host.Outcome.next (if_pos ⟨target, idle, ended⟩)
  rw [enforcedTold_of_rise (by rwa [level]), level, hot] at runs
  refine ⟨_, runs, ?_, ?_, ?_, ?_, fault_flt_congr ?_ ?_ ?_, ?_⟩
  · rw [State.fault_thm, State.thmNote_thm]
    rfl
  · rw [fault_rd_other _ _ _ _ _ _ (by decide), State.thmNote_rd]
    exact State.wr_rd_same s R.THM_STAT_GRACE 0
  · unfold State.enforced
    rw [State.fault_thm, State.thmNote_thm, fault_rd_other _ _ _ _ _ _ (by decide), State.thmNote_rd]
    exact level
  · exact ((thmNote_raises u 3 _ _).of_eq rfl).to_eq (State.fault_spoke ..)
  · rw [State.thmNote_flt]; rfl
  · rw [State.thmNote_pwr]; rfl
  · rw [State.thmNote_cad]; rfl
  · exact State.fault_frame (Covers.refl.sub rfl) (State.thmNote_frame (Covers.refl.sub rfl)
      ((State.wr_frame (Covers.refl.sub rfl) .refl).thm (by decide)))

theorem graceExpire_idle (h : s.rd R.THM_STAT_TARGET = 0 ∨ s.enforced ≠ 0 ∨ 1 < s.rd R.THM_STAT_GRACE) :
    exec .graceExpire s = .next s := congrArg Host.Outcome.next (if_neg (by omega))

/-! ### The alarm and the act of a rise (R388) -/

theorem exec_riseAlarm_of_fourth {d : Nat} (streak : 3 ≤ s.rd R.THM_STAT_STREAK) (delta : s.rd R.THM_STAT_DELTA = d) (rises : 0x10 ≤ d)
    (low : d < 0x800) : exec .riseAlarm s = .next (
      if s.on R.THM_STAT_ALARM = false then
        ((((s.wr R.THM_STAT_STREAK 4).wrB R.THM_STAT_ALARM true).thmNote 1 0 d).fault clNote 0x38 1 0 d)
      else (s.wr R.THM_STAT_STREAK 4).wrB R.THM_STAT_ALARM true) := by
  have now := deltaNow_of_low delta low
  have fourth : min 4 (s.rd R.THM_STAT_STREAK + 1) = 4 := by omega
  refine congrArg Host.Outcome.next ((if_pos ⟨streak, by rw [now]; omega⟩).trans ?_)
  unfold State.riseAlarm
  rw [now, if_pos (show (0x010 : Int) ≤ d by omega), fourth, unsigned_natCast (by omega : d < 2 ^ 16)]
  cases s.on R.THM_STAT_ALARM with
  | true => rfl
  | false => rfl

theorem riseAlarm_starts {d : Nat} (streak : 3 ≤ s.rd R.THM_STAT_STREAK) (delta : s.rd R.THM_STAT_DELTA = d) (rises : 0x10 ≤ d)
    (low : d < 0x800) (quiet : s.rd R.THM_STAT_ALARM = 0) :
    ∃ t, exec .riseAlarm s = .next t ∧ t.rd R.THM_STAT_STREAK = 4 ∧ t.rd R.THM_STAT_ALARM = 1 ∧ s.Raises 0x3C ([1, 0] ++ le 2 d) t ∧
      t.flt = (s.fault clNote 0x38 1 0 d).flt ∧ s.Frame [.regs, .spoke, .flt] t := by
  let u : State := (s.wr R.THM_STAT_STREAK 4).wrB R.THM_STAT_ALARM true
  have runs : _ = Host.Outcome.next (if _ then (u.thmNote 1 0 d).fault clNote 0x38 1 0 d else u) :=
    exec_riseAlarm_of_fourth streak delta rises low
  rw [if_pos (on_eq_false_iff.mpr (by rw [quiet]; decide))] at runs
  refine ⟨_, runs, ?_, ?_, ?_, fault_flt_congr ?_ ?_ ?_, ?_⟩
  · rw [fault_rd_other _ _ _ _ _ _ (by decide), State.thmNote_rd]
    exact (State.wr_rd_other _ _ (by decide)).trans (State.wr_rd_same _ _ _)
  · rw [fault_rd_other _ _ _ _ _ _ (by decide), State.thmNote_rd]
    exact State.wr_rd_same _ _ _
  · exact ((thmNote_raises u 1 0 d).of_eq rfl).to_eq (State.fault_spoke ..)
  · rw [State.thmNote_flt]; rfl
  · rw [State.thmNote_pwr]; rfl
  · rw [State.thmNote_cad]; rfl
  · exact State.fault_frame (Covers.refl.sub rfl) (State.thmNote_frame (Covers.refl.sub rfl)
      (State.wrB_frame (Covers.refl.sub rfl) (State.wr_frame (Covers.refl.sub rfl) .refl)))

theorem riseAlarm_again {d : Nat} (streak : 3 ≤ s.rd R.THM_STAT_STREAK) (delta : s.rd R.THM_STAT_DELTA = d) (rises : 0x10 ≤ d)
    (low : d < 0x800) (alarm : s.rd R.THM_STAT_ALARM = 1) :
    ∃ t, exec .riseAlarm s = .next t ∧ s.Fields [(R.THM_STAT_STREAK, 4)] t ∧ s.Frame [.regs] t := by
  have runs := exec_riseAlarm_of_fourth streak delta rises low
  rw [if_neg (by rw [State.on_iff.mpr alarm]; decide)] at runs
  refine ⟨_, runs, fun k => ?_, State.wrB_frame (Covers.refl.sub rfl) (State.wr_frame (Covers.refl.sub rfl) .refl)⟩
  show ((s.wr R.THM_STAT_STREAK 4).wr R.THM_STAT_ALARM 1).rd k = _
  rw [rd_wr]
  split
  · next same => rw [← same, alarm]; rfl
  · exact wr_fields s R.THM_STAT_STREAK 4 k

theorem riseAlarm_idle (h : s.rd R.THM_STAT_STREAK < 3 ∨ s.rd R.THM_STAT_DELTA < 0x10 ∨
    0x800 ≤ s.rd R.THM_STAT_DELTA ∧ s.rd R.THM_STAT_DELTA < 0x1000) : exec .riseAlarm s = .next s := by
  refine congrArg Host.Outcome.next (if_neg ?_)
  rintro ⟨streak, rises⟩
  rcases h with few | small | ⟨high, top⟩
  · omega
  · rw [deltaNow_of_low rfl (by omega)] at rises
    omega
  · have := deltaNow_of_high high top
    omega

theorem deltaNow_lt_of_small {n : Nat} (small : n ≤ 0x800) : (s.rd R.THM_STAT_DELTA < n ∨
    0x800 ≤ s.rd R.THM_STAT_DELTA ∧ s.rd R.THM_STAT_DELTA < 0x1000) → s.deltaNow < n := by
  rintro (low | ⟨high, top⟩)
  · rw [deltaNow_of_low rfl (by omega)]
    omega
  · have := deltaNow_of_high high top
    omega

theorem riseActEnd_eighth (calm : 7 ≤ s.thm.calm) (falls : s.rd R.THM_STAT_DELTA < 0x28 ∨
    0x800 ≤ s.rd R.THM_STAT_DELTA ∧ s.rd R.THM_STAT_DELTA < 0x1000) :
    ∃ t, exec .riseActEnd s = .next t ∧ s.Fields [(R.THM_STAT_ACT, 0)] t ∧ t.thm = { s.thm with calm := 8 } ∧ s.Frame [.regs, .thm] t := by
  have below : s.deltaNow < (0x28 : Nat) := deltaNow_lt_of_small (by decide) falls
  have runs : exec .riseActEnd s = .next ({ s with thm.calm := 8 }.wr R.THM_STAT_ACT 0) := by
    refine congrArg Host.Outcome.next ((if_pos ⟨calm, by omega⟩).trans ?_)
    unfold State.riseAct
    have eighth : min 8 (s.thm.calm + 1) = 8 := by omega
    rw [if_neg (by omega), eighth]
    rfl
  exact ⟨_, runs, wr_fields s _ _, rfl, (State.Frame.refl.thm (by decide)).regs (by decide)⟩

theorem riseActEnd_idle (h : s.thm.calm < 7 ∨ 0x28 ≤ s.rd R.THM_STAT_DELTA ∧ s.rd R.THM_STAT_DELTA < 0x800) :
    exec .riseActEnd s = .next s := by
  refine congrArg Host.Outcome.next (if_neg ?_)
  rintro ⟨calm, falls⟩
  rcases h with few | ⟨rises, low⟩
  · omega
  · rw [deltaNow_of_low rfl low] at falls
    omega

/-! ### The fall of the thermal level (R391) -/

theorem exec_levelFall_of_eighth (eighth : 7 ≤ s.thm.below) (above : s.rd R.THM_STAT_TARGET < s.thm.level) : exec .levelFall s = .next
    ((if s.rd R.THM_STAT_ACT = 0 then { s with thm.below := 0, thm.level := s.rd R.THM_STAT_TARGET } else { s with thm.below := 8 } :
      State).enforcedTold s.enforced true) := by
  have full : min 8 (s.thm.below + 1) = 8 := by omega
  refine congrArg Host.Outcome.next ((if_pos eighth).trans ?_)
  unfold State.levelFall
  rw [if_pos above, full]
  simp only [true_and]

theorem levelFall_falls (eighth : 7 ≤ s.thm.below) (above : s.rd R.THM_STAT_TARGET < s.thm.level) (noAct : s.rd R.THM_STAT_ACT = 0)
    (floor : s.rd R.THM_STAT_FLOOR ≤ s.rd R.THM_STAT_TARGET) : ∃ t, exec .levelFall s = .next t ∧
      t.thm = { s.thm with below := 0, level := s.rd R.THM_STAT_TARGET } ∧
      s.Raises 0x3C ([3, BitVec.ofNat 8 (s.rd R.THM_STAT_TARGET)] ++ le 2 (s.rd R.THM_STAT_HOT)) t ∧ s.Frame [.spoke, .thm] t := by
  let u : State := { s with thm.below := 0, thm.level := s.rd R.THM_STAT_TARGET }
  have before : s.enforced = s.thm.level := Nat.max_eq_left (by omega)
  have after : u.enforced = s.rd R.THM_STAT_TARGET := Nat.max_eq_left floor
  have runs := exec_levelFall_of_eighth eighth above
  rw [if_pos noAct] at runs
  change _ = Host.Outcome.next (u.enforcedTold _ _) at runs
  rw [enforcedTold_of_note (by omega) (by omega), after] at runs
  exact ⟨_, runs, State.thmNote_thm .., (thmNote_raises u 3 _ _).of_eq rfl,
    State.thmNote_frame (Covers.refl.sub rfl) (State.Frame.refl.thm (by decide))⟩

theorem levelFall_of_act (eighth : 7 ≤ s.thm.below) (above : s.rd R.THM_STAT_TARGET < s.thm.level) (act : s.rd R.THM_STAT_ACT = 1) :
    ∃ t, exec .levelFall s = .next t ∧ t.thm = { s.thm with below := 8 } ∧ s.Frame [.thm] t := by
  have runs := exec_levelFall_of_eighth eighth above
  rw [if_neg (by omega)] at runs
  exact ⟨_, runs.trans (congrArg _ (enforcedTold_of_same rfl)), rfl, State.Frame.refl.thm (by decide)⟩

theorem levelFall_idle (few : s.thm.below < 7) : exec .levelFall s = .next s := congrArg Host.Outcome.next (if_neg (by omega))

end Sys2Proof.Machine
end

section
/-!
PROOFS. The lap edge at which the enforced level takes effect, the end of an orderly stop, the cut sensor and THM_FLOOR (R390, R392 to
R394, R398, 15_die_thermal.md).
-/

namespace Sys2Proof.Machine

variable {s : State}

/-! ### The enforced level takes effect (R390) -/

/-- What a lap edge does with the enforced level e in Run, when LEVEL showed `was`: Stable's q, the divisor and the slot table. -/
def State.levelApplied (s : State) (e was : Nat) : State :=
  if s.rd R.PWR_STAT_MODE = 0 then
    if s.limp || Nat.ble 2 was == Nat.ble 2 e then { s.wr R.STB_STAT_SKIPQ e with thm.div := sysDiv e }
    else { s.wr R.STB_STAT_SKIPQ e with
      thm.div := sysDiv e, cad.active := if 2 ≤ e then { base := .throttled } else s.cad.source }
  else s

theorem thmLap_eq : s.thmLap = (({ s.wr R.THM_STAT_LEVEL s.enforced with thm.floors := [] } : State).each s.thm.floors
    fun s r => s.ok r).levelApplied s.enforced (s.rd R.THM_STAT_LEVEL) := by
  unfold State.thmLap State.levelApplied
  dsimp only
  split
  · have limp : ∀ u : State, ({ u.wr R.STB_STAT_SKIPQ s.enforced with thm.div := sysDiv s.enforced } : State).limp = u.limp := fun u =>
      congrArg (· == 1) (State.wr_rd_other u _ (by decide : R.STB_STAT_SKIPQ ≠ R.FLT_STAT_LEVEL))
    rw [limp]
    rfl
  · rfl

/-- The waiting THM_FLOOR gets its reply before or after the level is applied: it is the same. -/
theorem levelApplied_ok {r : Ref} {e was : Nat} : (s.ok r).levelApplied e was = (s.levelApplied e was).ok r := by
  have limp : (s.ok r).limp = s.limp := congrArg (· == 1) (State.finish_rd _ r stOk [] _)
  unfold State.levelApplied
  rw [show (s.ok r).rd R.PWR_STAT_MODE = s.rd R.PWR_STAT_MODE from State.finish_rd _ r stOk [] _, limp]
  have reply : ∀ t : State, t.spoke = s.spoke → t.flt = s.flt → t.ok r = { t with spoke := (s.ok r).spoke, flt := (s.ok r).flt } :=
    fun t => finish_congr
  split
  · split
    · rw [reply { s.wr R.STB_STAT_SKIPQ e with thm.div := sysDiv e } rfl rfl, reply s rfl rfl]
      rfl
    · rw [reply { s.wr R.STB_STAT_SKIPQ e with
        thm.div := sysDiv e, cad.active := if 2 ≤ e then { base := .throttled } else s.cad.source } rfl rfl, reply s rfl rfl]
      rfl
  · rfl

theorem thmLap_of_none (none : s.thm.floors = []) :
    s.thmLap = (s.wr R.THM_STAT_LEVEL s.enforced).levelApplied s.enforced (s.rd R.THM_STAT_LEVEL) := by
  have same : ({ s.wr R.THM_STAT_LEVEL s.enforced with thm.floors := [] } : State) = s.wr R.THM_STAT_LEVEL s.enforced := by rw [← none]; rfl
  rw [thmLap_eq, same, none]
  rfl

theorem thmLap_of_one (none : s.thm.floors = []) (r : Ref) : ({ s with thm.floors := [r] } : State).thmLap = s.thmLap.ok r := by
  have same : ({ ({ s with thm.floors := [r] } : State).wr R.THM_STAT_LEVEL s.enforced with thm.floors := [] } : State) =
      s.wr R.THM_STAT_LEVEL s.enforced := by rw [← none]; rfl
  rw [thmLap_of_none none, ← levelApplied_ok, thmLap_eq]
  show ((State.each { ({ s with thm.floors := [r] } : State).wr R.THM_STAT_LEVEL s.enforced with thm.floors := [] } [r]
    fun s r => s.ok r).levelApplied s.enforced (s.rd R.THM_STAT_LEVEL)) = _
  rw [same]
  rfl

theorem sysDiv_eq {e : Nat} (h : e < 4) : sysDiv e = if e = 0 ∨ e = 1 then 1 else if e = 2 then 2 else 4 := by
  have known : ∀ e < 4, sysDiv e = if e = 0 ∨ e = 1 then 1 else if e = 2 then 2 else 4 := by decide
  exact known e h

theorem beq_ble_iff {a b : Nat} : (Nat.ble 2 a == Nat.ble 2 b) = true ↔ (2 ≤ a ↔ 2 ≤ b) := by
  rw [beq_iff_eq, Bool.eq_iff_iff, Nat.ble_eq, Nat.ble_eq]

theorem levelTakesEffect_run (none : s.thm.floors = []) (run : s.rd R.PWR_STAT_MODE = 0) (level : s.enforced < 4) (r : Ref) :
    ∃ t, exec .levelTakesEffect s = .next t ∧
    s.Fields [(R.STB_STAT_SKIPQ, s.enforced), (R.THM_STAT_LEVEL, s.enforced)] t ∧
    t.thm = { s.thm with div := if s.enforced = 0 ∨ s.enforced = 1 then 1 else if s.enforced = 2 then 2 else 4 } ∧
    t.cad = { s.cad with active := if s.limp = true ∨ (2 ≤ s.rd R.THM_STAT_LEVEL ↔ 2 ≤ s.enforced) then s.cad.active
      else if 2 ≤ s.enforced then { base := .throttled } else s.cad.source } ∧
    exec .levelTakesEffect { s with thm.floors := [r] } = .next (t.ok r) ∧ s.Frame [.regs, .cad, .thm] t := by
  have replies : exec .levelTakesEffect { s with thm.floors := [r] } = .next (s.thmLap.ok r) :=
    congrArg Host.Outcome.next (thmLap_of_one none r)
  have limp : (s.wr R.THM_STAT_LEVEL s.enforced).limp = s.limp :=
    congrArg (· == 1) (State.wr_rd_other s _ (by decide : R.THM_STAT_LEVEL ≠ R.FLT_STAT_LEVEL))
  have applied : s.thmLap = (s.wr R.THM_STAT_LEVEL s.enforced).levelApplied s.enforced (s.rd R.THM_STAT_LEVEL) := thmLap_of_none none
  unfold State.levelApplied at applied
  rw [State.wr_rd_other s _ (by decide : R.THM_STAT_LEVEL ≠ R.PWR_STAT_MODE), if_pos run, limp] at applied
  have fields : s.Fields [(R.STB_STAT_SKIPQ, s.enforced), (R.THM_STAT_LEVEL, s.enforced)]
      ((s.wr R.THM_STAT_LEVEL s.enforced).wr R.STB_STAT_SKIPQ s.enforced) := (wr_fields s _ _).wr
  refine ⟨s.thmLap, rfl, ?_, ?_, ?_, replies, ?_⟩
  · rw [applied]
    split <;> exact fields.of_regs rfl
  · rw [applied, ← sysDiv_eq level]
    split <;> rfl
  · rw [applied]
    simp only [Bool.or_eq_true, beq_ble_iff]
    split <;> rfl
  · have wrote : s.Frame [.regs, .cad, .thm] ((s.wr R.THM_STAT_LEVEL s.enforced).wr R.STB_STAT_SKIPQ s.enforced) :=
      State.wr_frame (Covers.refl.sub rfl) (State.wr_frame (Covers.refl.sub rfl) .refl)
    rw [applied]
    split
    · exact wrote.thm (by decide)
    · exact State.Frame.cad (s := { (s.wr R.THM_STAT_LEVEL s.enforced).wr R.STB_STAT_SKIPQ s.enforced with thm.div := sysDiv s.enforced })
        (wrote.thm (by decide)) (by decide)

theorem levelTakesEffect_waits (none : s.thm.floors = []) (notRun : s.rd R.PWR_STAT_MODE ≠ 0) : ∃ t, exec .levelTakesEffect s = .next t ∧
    s.Fields [(R.THM_STAT_LEVEL, s.enforced)] t ∧ s.Frame [.regs] t := by
  have applied : s.thmLap = s.wr R.THM_STAT_LEVEL s.enforced := (thmLap_of_none none).trans
    (if_neg (by rwa [State.wr_rd_other s _ (by decide : R.THM_STAT_LEVEL ≠ R.PWR_STAT_MODE)]))
  exact ⟨_, congrArg Host.Outcome.next applied, wr_fields s _ _, State.Frame.refl.regs (by decide)⟩

/-! ### The end of an orderly stop (R392) -/

theorem voutsArrived_iff : s.voutsArrived = true ↔
    ∀ v ∈ List.range 8, (s.ramp v).next = none ∧ s.rd (R.ACT_VOUT_CODE v) = s.rd (R.ACT_VOUT_TARGET v) := by
  unfold State.voutsArrived
  simp only [List.all_eq_true, Bool.and_eq_true, Option.isNone_iff_eq_none, beq_iff_eq]

theorem stopOver_iff : s.stopOver = true ↔ s.rd R.THM_STAT_STOPPING = 1 ∧ (s.thm.end_ ≤ s.ticks ∨
    ((s.rd R.DSP_STAT_STATE = 0 ∨ s.rd R.DSP_STAT_STATE = 6) ∧ s.dsp.disch = none) ∧ s.voutsArrived = true) := by
  unfold State.stopOver
  simp only [Bool.and_eq_true, Bool.or_eq_true, decide_eq_true_eq, State.on_iff, List.contains_iff_mem, List.mem_cons, List.not_mem_nil,
    or_false, Option.isNone_iff_eq_none]

theorem thermStop_over (stopping : s.rd R.THM_STAT_STOPPING = 1) (ended : s.thm.end_ ≤ s.ticks ∨
    (s.rd R.DSP_STAT_STATE = 0 ∨ s.rd R.DSP_STAT_STATE = 6) ∧ s.dsp.disch = none ∧
    (∀ v ∈ List.range 8, (s.ramp v).next = none ∧ s.rd (R.ACT_VOUT_CODE v) = s.rd (R.ACT_VOUT_TARGET v))) :
    exec .thermStop s = .next (s.hubReset 6) := by
  refine congrArg Host.Outcome.next (if_pos (stopOver_iff.mpr ⟨stopping, ended.imp_right ?_⟩))
  exact fun ⟨off, still, arrived⟩ => ⟨⟨off, still⟩, voutsArrived_iff.mpr arrived⟩

theorem thermStop_not_over (h : s.rd R.THM_STAT_STOPPING ≠ 1 ∨ s.ticks < s.thm.end_ ∧ s.rd R.DSP_STAT_STATE ≠ 0 ∧ s.rd R.DSP_STAT_STATE ≠ 6) :
    exec .thermStop s = .next s := by
  refine congrArg Host.Outcome.next (if_neg ?_)
  rw [stopOver_iff]
  rintro ⟨stopping, spent | ⟨⟨off, -⟩, -⟩⟩ <;> omega

/-! ### The cut sensor (R393, R394) -/

/-- A hub reset, started or joined, leaves the cut sensor as it is. -/
theorem hubReset_cut (s : State) (cause : Nat) : (s.hubReset cause).thm.cut = s.thm.cut := by
  by_cases inForce : s.pwr.held = true ∧ s.pwr.booted = false
  · rw [hubReset_of_inForce cause inForce.1 inForce.2, (State.causeJoin_frame (Covers.refl.sub rfl) .refl : s.Frame [.regs] _) .thm (by decide)]
  · rw [hubReset_of_notInForce cause (by simpa [or_iff_not_imp_left] using inForce)]
    have before : ∀ u : State, (u.domainReset (cause == 3)).thm.cut =
        (((({ u with pwr.ksFault := u.pwr.ksFault || u.pwr.ks.bad }.forceOn 1).padDo Pad.rearmLine).dspReset).segReset).stbReset.thm.cut :=
      fun _ => rfl
    have kept : ∀ u : State, u.Frame [.regs, .free, .pwr, .spoke, .act, .pad, .stb, .dsp, .seg, .flt]
        (((({ u with pwr.ksFault := u.pwr.ksFault || u.pwr.ks.bad }.forceOn 1).padDo Pad.rearmLine).dspReset).segReset).stbReset := fun u =>
      State.stbReset_frame (Covers.refl.sub rfl) (State.segReset_frame (Covers.refl.sub rfl)
        (State.dspReset_frame (Covers.refl.sub rfl) (State.padDo_frame (Covers.refl.sub rfl) (State.forceOn_frame (Covers.refl.sub rfl)
          (State.Frame.refl.pwr (by decide))))))
    rw [before, kept _ .thm (by decide)]
    rfl

theorem cutRecord_eq : s.cutRecord = { s with
    thm.staged := none, thm.cut := true
    regs := if s.rd R.THM_LAST_PEND = 1 ∧ ¬(s.rd R.THM_STAT_STOPPING = 1 ∧ s.thm.mine = true) then s.regs else
      (s.wrs [(R.THM_LAST_PEND, 1), (R.THM_LAST_CUT, 1), (R.THM_LAST_LEVEL, s.rd R.THM_STAT_LEVEL), (R.THM_LAST_DIE, s.rd R.THM_STAT_HOT),
        (R.THM_LAST_STAGE, s.stage % 2 ^ 32)]).regs } := by
  have owed : (s.on R.THM_LAST_PEND && !(s.on R.THM_STAT_STOPPING && s.thm.mine)) = true ↔
      s.rd R.THM_LAST_PEND = 1 ∧ ¬(s.rd R.THM_STAT_STOPPING = 1 ∧ s.thm.mine = true) := by
    rw [Bool.and_eq_true, State.on_iff, Bool.not_eq_true', ← Bool.not_eq_true, Bool.and_eq_true, State.on_iff]
  by_cases h : s.rd R.THM_LAST_PEND = 1 ∧ ¬(s.rd R.THM_STAT_STOPPING = 1 ∧ s.thm.mine = true)
  · rw [if_pos h]
    exact if_pos (owed.mpr h)
  · rw [if_neg h]
    exact if_neg (mt owed.mp h)

theorem cutSensorTrip_records (clear : s.thm.cut = false) : exec .cutSensorTrip s = .next (s.cutRecord.hubReset 7) ∧
    (s.cutRecord.hubReset 7).thm.cut = true := by
  refine ⟨congrArg Host.Outcome.next (if_neg (by rw [clear]; exact Bool.false_ne_true)), ?_⟩
  rw [hubReset_cut, cutRecord_eq]

/-! ### THM_FLOOR (R398) -/

section
variable {c : Cmd}

theorem exec_thmFloor_checks (c : Cmd) (s : State) : ∃ k, (s.begin c 0x3C).2.doThmFloor (s.refOf c 0x3C) c.payload =
    (s.begin c 0x3C).2.checked (s.refOf c 0x3C) [lengthIs c.payload 1, param (decide (3 < u8 c.payload 0)),
      permitted (!s.on R.THM_STAT_STOPPING)] k := ⟨_, rfl⟩

/-- A floor that passes its checks is set, and waits for the lap edge; a change of the enforced level is told. -/
theorem doThmFloor_of_good {u : State} {r : Ref} {p : Bytes} (good : firstBad [lengthIs p 1, param (decide (3 < u8 p 0)),
    permitted (!u.on R.THM_STAT_STOPPING)] = stOk) : u.doThmFloor r p =
    ({ u.wr R.THM_STAT_FLOOR (u8 p 0) with thm.floors := u.thm.floors ++ [r] } : State).enforcedTold u.enforced false := checked_ok good

theorem floorChecks {u : State} {l : Nat} (level : l ≤ 3) (going : u.rd R.THM_STAT_STOPPING = 0) :
    firstBad [lengthIs (le 1 l) 1, param (decide (3 < u8 (le 1 l) 0)), permitted (!u.on R.THM_STAT_STOPPING)] = stOk := by
  rw [u8_le (by omega), firstBad_of_length (le_length 1 l), firstBad_of_param (decide_eq_false (by omega)), firstBad_of_permitted]
  · rfl
  · rw [on_eq_false_iff.mpr (by rw [going]; decide), Bool.not_false]

theorem thmNote_of_unheard {u : State} {kind unit data : Nat} (h : ∀ n ∈ List.range 32, wants n 0x3C (u.chan n) = false) :
    u.thmNote kind unit data = u := by
  unfold State.thmNote State.note
  exact event_of_unwanted h

/-- The state in which a floor has been set and no note of it has been sent. -/
def State.floorSet (s : State) (c : Cmd) (l : Nat) : State :=
  { (s.begin c 0x3C).2.wr R.THM_STAT_FLOOR l with thm.floors := s.thm.floors ++ [s.refOf c 0x3C] }

theorem exec_thmFloor {l : Nat} (payload : c.payload = le 1 l) (level : l ≤ 3) (going : s.rd R.THM_STAT_STOPPING = 0) :
    exec (.thmFloor c) s = .next ((s.floorSet c l).enforcedTold s.enforced false) := by
  show Host.Outcome.next ((s.begin c 0x3C).2.doThmFloor (s.refOf c 0x3C) c.payload) = _
  have good := floorChecks (u := (s.begin c 0x3C).2) level going
  rw [payload, doThmFloor_of_good good, u8_le (by omega)]
  rfl

theorem thmFloor_sets {l : Nat} (h : s.Ready c) (payload : c.payload = le 1 l) (level : l ≤ 3) (going : s.rd R.THM_STAT_STOPPING = 0) :
    ∃ t, exec (.thmFloor c) s = .next t ∧
    s.Fields [(R.THM_STAT_FLOOR, l)] t ∧ t.thm = { s.thm with floors := s.thm.floors ++ [s.refOf c 0x3C] } ∧ t.enforced = max s.thm.level l ∧
    ((∀ n ∈ List.range 32, wants n 0x3C (s.chan n) = false) → s.Holds c 0x3C t) ∧ s.Frame [.regs, .spoke, .thm] t := by
  have fields : s.Fields [(R.THM_STAT_FLOOR, l)] (s.floorSet c l) := (wr_fields s R.THM_STAT_FLOOR l).of_regs rfl
  have enforced : (s.floorSet c l).enforced = max s.thm.level l := by
    show max s.thm.level ((s.floorSet c l).rd R.THM_STAT_FLOOR) = _
    rw [fields]
    rfl
  have frame : s.Frame [.regs, .spoke, .thm] (s.floorSet c l) :=
    (State.wr_frame (Covers.refl.sub rfl) (State.begin_frame (Covers.refl.sub rfl) .refl)).thm (by decide)
  have same : (s.floorSet c l).spoke = (s.begin c 0x3C).2.spoke := rfl
  refine ⟨_, exec_thmFloor payload level going, ?_⟩
  by_cases quiet : (s.floorSet c l).enforced = s.enforced
  · rw [enforcedTold_of_same quiet]
    exact ⟨fields, rfl, enforced, fun _ => holds_of_begin h same, frame⟩
  · rw [enforcedTold_of_note quiet (fun both => Bool.false_ne_true both.2)]
    refine ⟨fields.of_regs (State.thmNote_regs ..), State.thmNote_thm .., ?_, fun unheard => ?_,
      State.thmNote_frame (Covers.refl.sub rfl) frame⟩
    · unfold State.enforced
      rw [State.thmNote_thm, State.thmNote_rd]
      exact enforced
    · rw [thmNote_of_unheard fun n hn => by rw [chan_congr same, begin_wants, unheard n hn]]
      exact holds_of_begin h same

theorem thmFloor_refused (h : s.Ready c) : (c.payload.length ≠ 1 → s.Refuses (.thmFloor c) c 0x3C stBadLength) ∧
    (c.payload.length = 1 → 3 < u8 c.payload 0 → s.Refuses (.thmFloor c) c 0x3C stBadParam) ∧
    (c.payload.length = 1 → u8 c.payload 0 ≤ 3 → s.rd R.THM_STAT_STOPPING = 1 → s.Refuses (.thmFloor c) c 0x3C stNotPermitted) := by
  refine ⟨refuses_of_badLength h rfl (exec_thmFloor_checks c s), fun len high => ?_, fun len low stopping => ?_⟩
  · exact refuses_of_check h rfl (exec_thmFloor_checks c s)
      ((firstBad_of_length len _).trans (firstBad_of_badParam (decide_eq_true high) _)) (by decide)
  · refine refuses_of_check h rfl (exec_thmFloor_checks c s) ?_ (by decide)
    rw [firstBad_of_length len, firstBad_of_param (decide_eq_false (by omega)), firstBad_of_forbidden]
    rw [State.on_iff.mpr stopping]
    rfl

end

end Sys2Proof.Machine
end

section
/-!
PROOFS. A read of the ring oscillators and an evaluation of the thermal monitor (R383 to R387, R392, R499, 15_die_thermal.md).
-/

namespace Sys2Proof.Machine

variable {s : State}

/-! ### Masks -/

theorem maskOf_succ (n : Nat) (p : Nat → Bool) : maskOf (n + 1) p = if p n then maskOf n p + 2 ^ n else maskOf n p := by
  unfold maskOf
  rw [List.range_succ, List.foldl_concat]

theorem maskOf_lt (n : Nat) (p : Nat → Bool) : maskOf n p < 2 ^ n := by
  induction n with
  | zero => exact Nat.one_pos
  | succ n ih =>
    rw [maskOf_succ, Nat.pow_succ]
    split <;> omega

/-- A mask holds the bits of which its predicate holds, and no others. -/
theorem bit_maskOf {n i : Nat} (p : Nat → Bool) (h : i < n) : bit (maskOf n p) i = p i := by
  induction n with
  | zero => exact absurd h (Nat.not_lt_zero i)
  | succ n ih =>
    have below := maskOf_lt n p
    rw [maskOf_succ]
    unfold bit at ih ⊢
    rcases Nat.lt_succ_iff_lt_or_eq.mp h with lower | rfl
    · split
      · rw [Nat.add_comm, Nat.testBit_two_pow_add_gt lower, ih lower]
      · exact ih lower
    · split
      · next on => rw [Nat.add_comm, Nat.testBit_two_pow_add_eq, Nat.testBit_lt_two_pow below, on]; rfl
      · next off => rw [Nat.testBit_lt_two_pow below, Bool.eq_false_iff.mpr off]

/-! ### A read (R383) -/

/-- Writing a field for each element of a list is writing them one after another. -/
theorem each_wr {α : Type} (l : List α) (key val : α → Nat) (s : State) :
    (s.each l fun s a => s.wr (key a) (val a)) = s.wrs (l.map fun a => (key a, val a)) := by
  unfold State.each State.wrs
  rw [List.foldl_map]

theorem thmRead_eq (l : List (BitVec 12)) : s.thmRead l = (s.wrs ((List.range 8).map fun i => (R.THM_SENS_T i, (l.getD i 0).toNat))).wr
    R.THM_STAT_RINGS (maskOf 8 fun i => ringValid (l.getD i 0).toNat) :=
  congrArg (fun u : State => u.wr R.THM_STAT_RINGS _) (each_wr _ _ _ s)

theorem ringValid_iff {code : Nat} : ringValid code = true ↔ 0x0E0 ≤ code ∧ code ≤ 0xD60 := by
  unfold ringValid
  rw [Bool.and_eq_true, decide_eq_true_eq, decide_eq_true_eq]

theorem thmRead_rd_code (l : List (BitVec 12)) {n : Nat} (h : n < 8) : (s.thmRead l).rd (R.THM_SENS_T n) = (l.getD n 0).toNat := by
  have written : ∀ v : Nat → Nat, (s.wrs ((List.range 8).map fun i => (R.THM_SENS_T i, v i))).rd (R.THM_SENS_T n) = v n := by
    intro v
    rw [State.Fields.wrs State.Fields.refl]
    interval_cases n <;> rfl
  rw [thmRead_eq, State.wr_rd_other _ _ (by show _ ≠ _; unfold R.THM_STAT_RINGS R.THM_SENS_T; omega), written]

theorem thmRead_ring (l : List (BitVec 12)) {n : Nat} (h : n < 8) : ∃ c, c = (l.getD n 0).toNat ∧ (s.thmRead l).rd (R.THM_SENS_T n) = c ∧
    (bit ((s.thmRead l).rd R.THM_STAT_RINGS) n = true ↔ 0x0E0 ≤ c ∧ c ≤ 0xD60) ∧ s.Frame [.regs] (s.thmRead l) := by
  refine ⟨_, rfl, thmRead_rd_code l h, ?_, State.thmRead_frame (Covers.refl.sub rfl) .refl⟩
  rw [thmRead_eq, State.wr_rd_same, bit_maskOf _ h, ringValid_iff]

/-! ### The level of a temperature (R387) -/

/-- A level is kept or entered: at its rising threshold, or while it is held at its falling threshold. -/
theorem levelOf_spec {b : Nat} (h : Nat) (base : b ≤ 3) : (levelOf h b = 3 ↔ 0xB30 ≤ h ∨ b = 3 ∧ 0xAE0 ≤ h) ∧
    (2 ≤ levelOf h b ↔ 0xAE0 ≤ h ∨ 2 ≤ b ∧ 0xA90 ≤ h) ∧ (1 ≤ levelOf h b ↔ 0xA40 ≤ h ∨ 1 ≤ b ∧ 0x9F0 ≤ h) ∧ levelOf h b ≤ 3 := by
  unfold levelOf
  simp only [Bool.or_eq_true, Bool.and_eq_true, decide_eq_true_eq]
  split
  · omega
  · split
    · omega
    · split <;> omega

/-! ### Before an evaluation: rings told, HOT, the prohibitions (R384, R386, R397) -/

/-- A ring that has turned invalid is told, once. -/
def State.ringTold (s : State) (i : Nat) : State :=
  if bit (s.rd R.THM_STAT_RINGS) i || bit s.thm.told i then s
  else ({ s with thm.told := setBit s.thm.told i true }.thmNote 5 i 0).fault clDegrade 0x38 5 i 0

theorem ringsTold_eq : s.ringsTold = State.each { s with
    thm.told := maskOf 8 fun i => bit s.thm.told i && !bit (s.rd R.THM_STAT_RINGS) i } (List.range 8) State.ringTold := rfl

theorem ringTold_rd {k : Nat} (h : k / 1024 < 0x7000) (i : Nat) : (s.ringTold i).rd k = s.rd k := by
  unfold State.ringTold
  split
  · rfl
  · rw [fault_rd_other _ _ _ _ _ _ h, State.thmNote_rd]
    rfl

theorem ringTold_thm (i : Nat) : { (s.ringTold i).thm with told := 0 } = { s.thm with told := 0 } := by
  unfold State.ringTold
  split
  · rfl
  · rw [State.fault_thm, State.thmNote_thm]

/-- Telling the rings changes no field but those of the fault chapter, and of the monitor's memory TOLD alone. -/
theorem ringsTold_rd {k : Nat} (h : k / 1024 < 0x7000) : s.ringsTold.rd k = s.rd k := by
  rw [ringsTold_eq, each_keeps (φ := fun s => s.rd k) fun s i _ => ringTold_rd h i]
  rfl

theorem ringsTold_thm : { s.ringsTold.thm with told := 0 } = { s.thm with told := 0 } := by
  rw [ringsTold_eq, each_keeps (φ := fun s => ({ s.thm with told := 0 } : Thm)) fun s i _ => ringTold_thm i]

theorem hottest_congr {u : State} (h : ∀ k, k / 1024 < 0x7000 → u.rd k = s.rd k) : u.hottest = s.hottest := by
  unfold State.hottest
  have codes : ∀ i, i < 8 → u.rd (R.THM_SENS_T i) = s.rd (R.THM_SENS_T i) := fun i hi => h _ (by unfold R.THM_SENS_T; omega)
  rw [h R.THM_STAT_RINGS (by decide)]
  refine List.foldl_ext _ _ _ fun m i hi => ?_
  rw [codes i (List.mem_range.mp (List.mem_filter.mp hi).1)]

/-- PEAK alone keeps the highest HOT. -/
theorem thmPeak_rd {k : Nat} (h : k / 1024 ≠ 0x3802) (hot : Nat) : (s.thmPeak hot).rd k = s.rd k := by
  unfold State.thmPeak
  split
  · rfl
  · exact wrs_rd_other (by simp only [List.forall_mem_cons]; refine ⟨?_, ?_, ?_, nofun⟩ <;> (rintro rfl; exact h (by decide)))

/-- The fields of HOT that a read sets. -/
def hotFields : List Nat := [R.THM_STAT_HOT, R.THM_STAT_HOT_IDX, R.THM_STAT_VALID]

theorem thmHot_of_some {h i : Nat} (hot : s.hottest = some (h, i)) : s.thmHot.rd R.THM_STAT_HOT = h ∧
    s.thmHot.rd R.THM_STAT_HOT_IDX = i ∧ s.thmHot.rd R.THM_STAT_VALID = 1 := by
  have step : s.thmHot = (s.wrs [(R.THM_STAT_HOT, h), (R.THM_STAT_HOT_IDX, i), (R.THM_STAT_VALID, 1)]).thmPeak h := by
    unfold State.thmHot
    rw [hot]
  rw [step, thmPeak_rd (by decide), thmPeak_rd (by decide), thmPeak_rd (by decide)]
  have fields := State.Fields.wrs (w := [(R.THM_STAT_HOT, h), (R.THM_STAT_HOT_IDX, i), (R.THM_STAT_VALID, 1)]) (State.Fields.refl (s := s))
  exact ⟨fields _, fields _, fields _⟩

theorem thmHot_of_none (none : s.hottest = none) : s.thmHot = s.wr R.THM_STAT_VALID 0 := by
  unfold State.thmHot
  rw [none]

theorem thmHot_rd_other {k : Nat} (peak : k / 1024 ≠ 0x3802) (h : k ∉ hotFields) : s.thmHot.rd k = s.rd k := by
  unfold hotFields at h
  simp only [List.mem_cons, List.not_mem_nil, or_false, not_or] at h
  obtain ⟨hot, idx, valid⟩ := h
  unfold State.thmHot
  split
  · exact State.wr_rd_other _ _ (Ne.symm valid)
  · rw [thmPeak_rd peak]
    exact wrs_rd_other (by
      simp only [List.forall_mem_cons]
      exact ⟨Ne.symm hot, Ne.symm idx, Ne.symm valid, nofun⟩)

/-- A prohibition stands exactly while HOT is not valid or outside its range. -/
theorem prohibit_rd (field kind lo hi : Nat) : (s.prohibit field kind lo hi).rd field = 1 ↔
    s.rd R.THM_STAT_VALID ≠ 1 ∨ s.rd R.THM_STAT_HOT < lo ∨ hi < s.rd R.THM_STAT_HOT := by
  have outside : (!s.on R.THM_STAT_VALID || decide (s.rd R.THM_STAT_HOT < lo) || decide (hi < s.rd R.THM_STAT_HOT)) = true ↔
      s.rd R.THM_STAT_VALID ≠ 1 ∨ s.rd R.THM_STAT_HOT < lo ∨ hi < s.rd R.THM_STAT_HOT := by
    simp only [Bool.or_eq_true, Bool.not_eq_true', on_eq_false_iff, decide_eq_true_eq, or_assoc]
  rw [← outside]
  unfold State.prohibit
  dsimp only
  split
  · next same => rw [← State.on_iff, same]
  · rw [State.thmNote_rd]
    unfold State.wrB
    rw [State.wr_rd_same, b2n_eq_one_iff]

theorem prohibit_rd_other {k field kind lo hi : Nat} (h : field ≠ k) : (s.prohibit field kind lo hi).rd k = s.rd k := by
  unfold State.prohibit
  dsimp only
  split
  · rfl
  · rw [State.thmNote_rd]
    exact State.wr_rd_other _ _ h

theorem prohibitions_rd : (s.prohibitions.rd R.THM_STAT_HAY_INH = 1 ↔
      s.rd R.THM_STAT_VALID ≠ 1 ∨ s.rd R.THM_STAT_HOT < 0x220 ∨ 0x9F0 < s.rd R.THM_STAT_HOT) ∧
    (s.prohibitions.rd R.THM_STAT_CHG_INH = 1 ↔
      s.rd R.THM_STAT_VALID ≠ 1 ∨ s.rd R.THM_STAT_HOT < 0x400 ∨ 0x860 < s.rd R.THM_STAT_HOT) := by
  unfold State.prohibitions
  constructor
  · rw [prohibit_rd_other (by decide), prohibit_rd]
  · rw [prohibit_rd, prohibit_rd_other (by decide), prohibit_rd_other (by decide)]

theorem prohibitions_rd_other {k : Nat} (hay : R.THM_STAT_HAY_INH ≠ k) (chg : R.THM_STAT_CHG_INH ≠ k) : s.prohibitions.rd k = s.rd k :=
  (prohibit_rd_other chg).trans (prohibit_rd_other hay)

end Sys2Proof.Machine
end

section
/-!
PROOFS. The evaluation of the thermal monitor (R385, R387, R392, R499, 15_die_thermal.md): DELTA, the target level, the start of the
orderly stop, and the case that no ring is valid.
-/

namespace Sys2Proof.Machine

variable {s : State}

/-! ### What the parts of an evaluation leave alone -/

section
variable {k : Nat}

theorem enforcedTold_rd (h : k / 1024 < 0x7000) (before : Nat) (byTemp : Bool) : (s.enforcedTold before byTemp).rd k = s.rd k := by
  unfold State.enforcedTold
  dsimp only
  split
  · rfl
  · split
    · rw [fault_rd_other _ _ _ _ _ _ h, State.thmNote_rd]
    · exact State.thmNote_rd ..

theorem enforcedTold_thm (before : Nat) (byTemp : Bool) : (s.enforcedTold before byTemp).thm = s.thm :=
  (State.enforcedTold_frame (Covers.refl.sub rfl) .refl : s.Frame [.regs, .spoke, .flt] _) .thm (by decide)

theorem riseAlarm_rd_other (h : k / 1024 < 0x7000) (streak : R.THM_STAT_STREAK ≠ k) (alarm : R.THM_STAT_ALARM ≠ k) (d : Int) :
    (s.riseAlarm d).rd k = s.rd k := by
  have written : ∀ n b, ((s.wr R.THM_STAT_STREAK n).wrB R.THM_STAT_ALARM b).rd k = s.rd k := fun n b =>
    (State.wr_rd_other _ _ alarm).trans (State.wr_rd_other _ _ streak)
  unfold State.riseAlarm
  dsimp only
  generalize (if 0x010 ≤ d then min 4 (s.rd R.THM_STAT_STREAK + 1) else 0) = n
  split
  · rw [fault_rd_other _ _ _ _ _ _ h, State.thmNote_rd, written]
  · exact written _ _

theorem riseAlarm_thm (d : Int) : (s.riseAlarm d).thm = s.thm :=
  (State.riseAlarm_frame (Covers.refl.sub rfl) .refl : s.Frame [.regs, .spoke, .flt] _) .thm (by decide)

theorem riseAct_rd_other (act : R.THM_STAT_ACT ≠ k) (d : Int) : (s.riseAct d).rd k = s.rd k := by
  unfold State.riseAct
  dsimp only
  split
  · split
    · exact State.wr_rd_other s 1 act
    · rw [State.thmNote_rd]
      exact State.wr_rd_other s 1 act
  · split
    · exact State.wr_rd_other { s with thm.calm := _ } _ act
    · rfl

theorem riseAct_thm (d : Int) : { (s.riseAct d).thm with calm := 0 } = { s.thm with calm := 0 } := by
  unfold State.riseAct
  dsimp only
  split
  · split
    · rfl
    · rw [State.thmNote_thm]
      rfl
  · split <;> rfl

theorem levelFall_rd : s.levelFall.rd k = s.rd k := by
  unfold State.levelFall
  dsimp only
  split
  · split <;> rfl
  · rfl

theorem levelFall_prev : s.levelFall.thm.prev = s.thm.prev := by
  unfold State.levelFall
  dsimp only
  split
  · split <;> rfl
  · rfl

end

/-! ### The target level (R387, R389, R499) -/

/-- A rise of the target writes TARGET and GRACE, and of the monitor's memory the level alone. -/
theorem levelRise_spec (target : Nat) : (s.levelRise target).rd R.THM_STAT_TARGET = target ∧
    (∀ k, k / 1024 < 0x7000 → R.THM_STAT_TARGET ≠ k → R.THM_STAT_GRACE ≠ k → (s.levelRise target).rd k = s.rd k) ∧
    (s.levelRise target).thm.prev = s.thm.prev := by
  have grace : ∀ g, ((s.wr R.THM_STAT_TARGET target).wr R.THM_STAT_GRACE g).rd R.THM_STAT_TARGET = target ∧
      (∀ k, k / 1024 < 0x7000 → R.THM_STAT_TARGET ≠ k → R.THM_STAT_GRACE ≠ k →
        ((s.wr R.THM_STAT_TARGET target).wr R.THM_STAT_GRACE g).rd k = s.rd k) := fun g =>
    ⟨(State.wr_rd_other _ _ (by decide)).trans (State.wr_rd_same ..),
      fun k _ ht hg => (State.wr_rd_other _ _ hg).trans (State.wr_rd_other _ _ ht)⟩
  have shed : (((s.wr R.THM_STAT_TARGET target).shedRequest target).rd R.THM_STAT_TARGET = target ∧
      (∀ k, k / 1024 < 0x7000 → R.THM_STAT_TARGET ≠ k → R.THM_STAT_GRACE ≠ k →
        ((s.wr R.THM_STAT_TARGET target).shedRequest target).rd k = s.rd k)) ∧
      ((s.wr R.THM_STAT_TARGET target).shedRequest target).thm.prev = s.thm.prev := by
    unfold State.shedRequest
    refine ⟨⟨?_, fun k hk ht hg => ?_⟩, ?_⟩
    · rw [fault_rd_other _ _ _ _ _ _ (by decide), State.thmNote_rd, (grace 8).1]
    · rw [fault_rd_other _ _ _ _ _ _ hk, State.thmNote_rd, (grace 8).2 k hk ht hg]
    · rw [State.fault_thm, State.thmNote_thm]; rfl
  unfold State.levelRise
  dsimp only
  split
  · exact ⟨(grace 0).1, (grace 0).2, rfl⟩
  · split
    · exact ⟨(grace 0).1, (grace 0).2, rfl⟩
    · split
      · exact ⟨shed.1.1, shed.1.2, shed.2⟩
      · split
        · exact ⟨(grace 0).1, (grace 0).2, rfl⟩
        · exact ⟨(grace _).1, (grace _).2, rfl⟩

/-- With a valid ring the target is the level of HOT, one above while the rise act is in force (R387, R388). -/
theorem thmLevels_of_valid (valid : s.rd R.THM_STAT_VALID = 1) :
    s.thmLevels.rd R.THM_STAT_TARGET = min 3 (levelOf (s.rd R.THM_STAT_HOT) s.thm.base + s.rd R.THM_STAT_ACT) ∧
    (∀ k, k / 1024 < 0x7000 → R.THM_STAT_TARGET ≠ k → R.THM_STAT_GRACE ≠ k → s.thmLevels.rd k = s.rd k) ∧
    s.thmLevels.thm.prev = s.thm.prev := by
  obtain ⟨target, others, prev⟩ := levelRise_spec
    (s := { s with thm.base := levelOf (s.rd R.THM_STAT_HOT) s.thm.base, thm.noneTold := false })
    (min 3 (levelOf (s.rd R.THM_STAT_HOT) s.thm.base + s.rd R.THM_STAT_ACT))
  have step : s.thmLevels = (State.levelFall (State.levelRise
      { s with thm.base := levelOf (s.rd R.THM_STAT_HOT) s.thm.base, thm.noneTold := false }
      (min 3 (levelOf (s.rd R.THM_STAT_HOT) s.thm.base + s.rd R.THM_STAT_ACT)))).enforcedTold s.enforced true :=
    if_pos (State.on_iff.mpr valid)
  rw [step, enforcedTold_thm, levelFall_prev]
  refine ⟨?_, fun k hk ht hg => ?_, prev⟩
  · rw [enforcedTold_rd (by decide), levelFall_rd, target]
  · rw [enforcedTold_rd hk, levelFall_rd, others k hk ht hg]
    rfl

/-- With no valid ring TARGET and the thermal level are 3 at once (R499). -/
theorem thmLevels_of_none (none : s.rd R.THM_STAT_VALID ≠ 1) : s.thmLevels.rd R.THM_STAT_TARGET = 3 ∧ s.thmLevels.thm.level = 3 ∧
    (∀ k, k / 1024 < 0x7000 → R.THM_STAT_TARGET ≠ k → R.THM_STAT_GRACE ≠ k → s.thmLevels.rd k = s.rd k) ∧
    s.thmLevels.thm.prev = s.thm.prev := by
  have step : s.thmLevels = s.noRing.enforcedTold s.enforced false := if_neg (mt State.on_iff.mp none)
  let u : State := { s.wrs [(R.THM_STAT_TARGET, 3), (R.THM_STAT_GRACE, 0)] with thm.level := 3, thm.below := 0 }
  have target : u.rd R.THM_STAT_TARGET = 3 :=
    (State.wr_rd_other (s.wr R.THM_STAT_TARGET 3) 0 (by decide : R.THM_STAT_GRACE ≠ R.THM_STAT_TARGET)).trans (State.wr_rd_same ..)
  have others : ∀ k, R.THM_STAT_TARGET ≠ k → R.THM_STAT_GRACE ≠ k → u.rd k = s.rd k := fun k ht hg =>
    (State.wr_rd_other (s.wr R.THM_STAT_TARGET 3) 0 hg).trans (State.wr_rd_other s 3 ht)
  have ring : s.noRing = if u.thm.noneTold then u else { u with thm.noneTold := true }.fault clPlant 0x38 0 0 0 := rfl
  have regs : ∀ k, k / 1024 < 0x7000 → s.noRing.rd k = u.rd k := by
    intro k hk
    rw [ring]
    split
    · rfl
    · rw [fault_rd_other _ _ _ _ _ _ hk]
      rfl
  have thm : s.noRing.thm.level = 3 ∧ s.noRing.thm.prev = s.thm.prev := by
    rw [ring]
    split
    · exact ⟨rfl, rfl⟩
    · rw [State.fault_thm]
      exact ⟨rfl, rfl⟩
  rw [step, enforcedTold_thm]
  refine ⟨?_, thm.1, fun k hk ht hg => ?_, thm.2⟩
  · rw [enforcedTold_rd (by decide), regs _ (by decide), target]
  · rw [enforcedTold_rd hk, regs k hk, others k ht hg]

/-! ### The orderly stop (R392) -/

/-- The orderly stop as it is announced: its record is staged, and its budget runs. -/
def State.stopAnnounced (s : State) : State :=
  { (s.wr R.THM_STAT_STOPPING 1).thmNote 6 0 (s.rd R.THM_STAT_HOT) with
    thm.staged := some ⟨false, ((s.wr R.THM_STAT_STOPPING 1).thmNote 6 0 (s.rd R.THM_STAT_HOT)).enforced, s.rd R.THM_STAT_HOT,
      ((s.wr R.THM_STAT_STOPPING 1).thmNote 6 0 (s.rd R.THM_STAT_HOT)).stage % 2 ^ 32⟩
    thm.end_ := ((s.wr R.THM_STAT_STOPPING 1).thmNote 6 0 (s.rd R.THM_STAT_HOT)).ticks + 1024 }

/-- A group that runs is disabled. -/
def State.grpStopped (s : State) (g : Nat) : State := s.when (s.grpOn g) fun s => s.grpDisable g

/-- A VOUT heads for its Kickstand code. -/
def State.voutStopped (s : State) (v : Nat) : State :=
  (s.wr (R.ACT_VOUT_TARGET v) (if s.pwr.ks.bad then 0 else mget 0 s.pwr.ks.ramp v)).modRamp v fun x =>
    { x with next := none, ks := true, zone := false }

/-- The panel and every group are switched off, and each VOUT goes to its Kickstand code. -/
def State.outputsStopped (s : State) : State :=
  (((s.orderlyOff 1).each (List.range 12) State.grpStopped).forceEnds [] (List.range 8)).each (List.range 8) State.voutStopped

theorem orderlyStop_eq : s.orderlyStop = s.stopAnnounced.outputsStopped := rfl

section
variable {k : Nat}

theorem dspTo_rd_other (h : R.DSP_STAT_STATE ≠ k) (st : Nat) : (s.dspTo st).rd k = s.rd k := by
  unfold State.dspTo
  split
  · rfl
  · rw [State.dspNote_rd]
    exact State.wr_rd_other _ _ h

theorem each_finish_rd (l : List Ref) (status : Nat) : (s.each l fun s r => s.finish r status).rd k = s.rd k :=
  each_keeps (φ := fun s => s.rd k) (fun _ _ _ => State.finish_rd ..) s

/-- An orderly off writes of the fields at most STATE and WHY of the panel. -/
theorem orderlyOff_rd_other (state : R.DSP_STAT_STATE ≠ k) (why : R.DSP_STAT_WHY ≠ k) (w : Nat) : (s.orderlyOff w).rd k = s.rd k := by
  unfold State.orderlyOff
  split
  · rw [each_finish_rd, dspTo_rd_other state]
    exact State.wr_rd_other (s.escEnd .panel) _ why
  all_goals rfl

theorem grpDisable_rd_other (en : R.PWM_STAT_EN ≠ k) (crc : R.PWR_KSTAT_CRC_ERR ≠ k) (g : Nat) : (s.grpDisable g).rd k = s.rd k := by
  by_cases on : s.grpOn g = true
  · rw [grpDisable_of_on on, ksTest_rd_other crc]
    exact State.wr_rd_other s _ en
  · rw [grpDisable_of_off (Bool.eq_false_iff.mpr on)]

theorem grpStopped_rd_other (en : R.PWM_STAT_EN ≠ k) (crc : R.PWR_KSTAT_CRC_ERR ≠ k) (g : Nat) : (s.grpStopped g).rd k = s.rd k := by
  unfold State.grpStopped State.when
  split
  · exact grpDisable_rd_other en crc g
  · rfl

theorem voutStopped_rd_other {v : Nat} (h : R.ACT_VOUT_TARGET v ≠ k) : (s.voutStopped v).rd k = s.rd k :=
  State.wr_rd_other s (if s.pwr.ks.bad then 0 else mget 0 s.pwr.ks.ramp v) h

/-- Of the fields the end of the ACT_RAMPs changes none. -/
theorem forceEnds_ramps_rd (l : List Nat) : (s.forceEnds [] l).rd k = s.rd k :=
  each_keeps (φ := fun s => s.rd k) (fun u v _ => State.finish?_rd (u.modRamp v fun x => { x with cmd := none }) (u.ramp v).cmd stFault [] k) s

/-- Switching the outputs off leaves the thermal monitor's fields alone. -/
theorem outputsStopped_rd (h : k / 1024 = 0x3800) : s.outputsStopped.rd k = s.rd k := by
  have ne : ∀ r, r / 1024 ≠ 0x3800 → r ≠ k := fun r hr e => hr (e ▸ h)
  have target : ∀ v < 8, R.ACT_VOUT_TARGET v ≠ k := fun v hv => ne _ (by unfold R.ACT_VOUT_TARGET; omega)
  unfold State.outputsStopped
  rw [each_keeps (φ := fun s => s.rd k) fun s v hv => voutStopped_rd_other (target v (List.mem_range.mp hv)), forceEnds_ramps_rd,
    each_keeps (φ := fun s => s.rd k) fun s g _ => grpStopped_rd_other (ne _ (by decide)) (ne _ (by decide)) g,
    orderlyOff_rd_other (ne _ (by decide)) (ne _ (by decide))]

theorem outputsStopped_frame : s.Frame [.regs, .pwr, .spoke, .dsp, .flt, .pwm, .act] s.outputsStopped := by
  have off : s.Frame [.regs, .pwr, .spoke, .dsp, .flt, .pwm, .act] (s.orderlyOff 1) := State.orderlyOff_frame (Covers.refl.sub rfl) .refl
  refine State.each_frame (State.forceEnds_frame (Covers.refl.sub rfl) (State.each_frame off fun g u hu => ?_)) fun v u hu =>
    State.modRamp_frame (Covers.refl.sub rfl) (State.wr_frame (Covers.refl.sub rfl) hu)
  unfold State.grpStopped State.when
  exact frame_ite (State.grpDisable_frame (Covers.refl.sub rfl) hu) hu

end

/-- The orderly stop sets STOPPING and no other field of the thermal status. -/
theorem orderlyStop_spec : s.orderlyStop.rd R.THM_STAT_STOPPING = 1 ∧
    (∀ k, k / 1024 = 0x3800 → R.THM_STAT_STOPPING ≠ k → s.orderlyStop.rd k = s.rd k) ∧ s.orderlyStop.thm.prev = s.thm.prev := by
  have regs : s.stopAnnounced.regs = (s.wr R.THM_STAT_STOPPING 1).regs := by
    simp only [State.stopAnnounced, State.thmNote_regs]
  have announced : ∀ k, s.stopAnnounced.rd k = (s.wr R.THM_STAT_STOPPING 1).rd k := fun k => by
    unfold State.rd
    rw [regs]
  rw [orderlyStop_eq]
  refine ⟨?_, fun k hk other => ?_, ?_⟩
  · rw [outputsStopped_rd (by decide), announced, State.wr_rd_same]
  · rw [outputsStopped_rd hk, announced, State.wr_rd_other _ _ other]
  · rw [outputsStopped_frame .thm (by decide)]
    simp only [State.stopAnnounced, State.thmNote_thm, State.wr_thm]

/-- Only HOT at or above SHUTDOWN starts the orderly stop. -/
theorem stopJudge_of_cool (h : s.rd R.THM_STAT_VALID ≠ 1 ∨ s.rd R.THM_STAT_HOT < 0xB80) : s.stopJudge = s := by
  refine if_neg ?_
  rw [Bool.and_eq_true, Bool.and_eq_true, State.on_iff, Nat.ble_eq]
  omega

theorem stopJudge_of_hot (valid : s.rd R.THM_STAT_VALID = 1) (hot : 0xB80 ≤ s.rd R.THM_STAT_HOT) :
    s.stopJudge.rd R.THM_STAT_STOPPING = 1 ∧
    (∀ k, k / 1024 = 0x3800 → R.THM_STAT_STOPPING ≠ k → s.stopJudge.rd k = s.rd k) ∧ s.stopJudge.thm.prev = s.thm.prev := by
  unfold State.stopJudge
  rw [State.on_iff.mpr valid, Nat.ble_eq_true_of_le hot]
  by_cases stopping : s.rd R.THM_STAT_STOPPING = 1
  · rw [State.on_iff.mpr stopping]
    exact ⟨stopping, fun _ _ _ => rfl, rfl⟩
  · rw [on_eq_false_iff.mpr stopping]
    exact orderlyStop_spec

end Sys2Proof.Machine
end

section
/-!
PROOFS. The evaluation of the thermal monitor put together, and the obligation on the monitor (15_die_thermal.md).
-/

namespace Sys2Proof.Machine

variable {s : State}

/-! ### The evaluation -/

/-- What an evaluation starts from: invalid rings told, HOT taken, the prohibitions set. -/
def State.evalRead (s : State) : State := s.ringsTold.thmHot.prohibitions

/-- DELTA and the memory of HOT are written. -/
def State.evalDelta (s : State) : State := { s.wr R.THM_STAT_DELTA (unsigned 12 s.delta) with
  thm.prev := if s.on R.THM_STAT_VALID then some (s.rd R.THM_STAT_HOT) else none }

/-- The alarm and the act have followed DELTA. -/
def State.evalRisen (s : State) : State := (s.evalDelta.riseAlarm s.delta).riseAct s.delta

theorem thmEval_eq : s.thmEval = s.evalRead.evalRisen.thmLevels.stopJudge := rfl

/-- Reading changes of the monitor's memory TOLD alone. -/
theorem evalRead_thm : { s.evalRead.thm with told := 0 } = { s.thm with told := 0 } := by
  have frame : s.ringsTold.Frame [.regs, .spoke] s.evalRead :=
    State.prohibitions_frame (Covers.refl.sub rfl) (State.thmHot_frame (Covers.refl.sub rfl) .refl)
  rw [frame .thm (by decide), ringsTold_thm]

theorem evalRead_prev : s.evalRead.thm.prev = s.thm.prev := (congrArg Thm.prev (evalRead_thm (s := s)) :)

theorem evalRead_base : s.evalRead.thm.base = s.thm.base := (congrArg Thm.base (evalRead_thm (s := s)) :)

/-- Of the status fields an evaluation's read leaves all but HOT's and the prohibitions alone. -/
theorem evalRead_rd_other {k : Nat} (block : k / 1024 = 0x3800) (hot : k ∉ hotFields) (hay : R.THM_STAT_HAY_INH ≠ k)
    (chg : R.THM_STAT_CHG_INH ≠ k) : s.evalRead.rd k = s.rd k :=
  (prohibitions_rd_other hay chg).trans ((thmHot_rd_other (by omega) hot).trans (ringsTold_rd (by omega)))

theorem evalRead_of_some {h i : Nat} (hot : s.hottest = some (h, i)) : s.evalRead.rd R.THM_STAT_HOT = h ∧
    s.evalRead.rd R.THM_STAT_HOT_IDX = i ∧ s.evalRead.rd R.THM_STAT_VALID = 1 ∧
    (s.evalRead.rd R.THM_STAT_HAY_INH = 1 ↔ h < 0x220 ∨ 0x9F0 < h) ∧ (s.evalRead.rd R.THM_STAT_CHG_INH = 1 ↔ h < 0x400 ∨ 0x860 < h) := by
  obtain ⟨code, idx, valid⟩ := thmHot_of_some ((hottest_congr fun _ hk => ringsTold_rd hk).trans hot)
  obtain ⟨hay, chg⟩ := prohibitions_rd (s := s.ringsTold.thmHot)
  rw [code, valid] at hay chg
  unfold State.evalRead
  refine ⟨(prohibitions_rd_other (by decide) (by decide)).trans code, (prohibitions_rd_other (by decide) (by decide)).trans idx,
    (prohibitions_rd_other (by decide) (by decide)).trans valid, hay.trans ?_, chg.trans ?_⟩ <;> simp

theorem evalRead_of_none (none : s.hottest = none) : s.evalRead.rd R.THM_STAT_VALID = 0 ∧ s.evalRead.rd R.THM_STAT_HAY_INH = 1 ∧
    s.evalRead.rd R.THM_STAT_CHG_INH = 1 := by
  have step : s.ringsTold.thmHot = s.ringsTold.wr R.THM_STAT_VALID 0 :=
    thmHot_of_none ((hottest_congr fun _ hk => ringsTold_rd hk).trans none)
  have valid : s.ringsTold.thmHot.rd R.THM_STAT_VALID = 0 := by rw [step, State.wr_rd_same]
  obtain ⟨hay, chg⟩ := prohibitions_rd (s := s.ringsTold.thmHot)
  rw [valid] at hay chg
  exact ⟨(prohibitions_rd_other (by decide) (by decide)).trans valid, hay.mpr (.inl (by decide)), chg.mpr (.inl (by decide))⟩

/-- After the alarm and the act: DELTA is as computed, HOT is remembered, and the other fields are the read's. -/
theorem evalRisen_spec : s.evalRisen.rd R.THM_STAT_DELTA = unsigned 12 s.delta ∧
    (∀ k, k / 1024 = 0x3800 → k ∉ [R.THM_STAT_DELTA, R.THM_STAT_STREAK, R.THM_STAT_ALARM, R.THM_STAT_ACT] → s.evalRisen.rd k = s.rd k) ∧
    s.evalRisen.thm.prev = (if s.rd R.THM_STAT_VALID = 1 then some (s.rd R.THM_STAT_HOT) else none) ∧ s.evalRisen.thm.base = s.thm.base := by
  have thm : { s.evalRisen.thm with calm := 0 } = { s.evalDelta.thm with calm := 0 } := by
    unfold State.evalRisen
    rw [riseAct_thm, riseAlarm_thm]
  have prev : s.evalRisen.thm.prev = s.evalDelta.thm.prev := (congrArg Thm.prev thm :)
  have base : s.evalRisen.thm.base = s.evalDelta.thm.base := (congrArg Thm.base thm :)
  have memory : s.evalDelta.thm.prev = if s.rd R.THM_STAT_VALID = 1 then some (s.rd R.THM_STAT_HOT) else none := by
    simp only [State.evalDelta, State.on_iff]
  have delta : ∀ k, s.evalDelta.rd k = (s.wr R.THM_STAT_DELTA (unsigned 12 s.delta)).rd k := fun _ => rfl
  refine ⟨?_, fun k block others => ?_, prev.trans memory, base⟩
  · unfold State.evalRisen
    rw [riseAct_rd_other (by decide), riseAlarm_rd_other (by decide) (by decide) (by decide), delta, State.wr_rd_same]
  · simp only [List.mem_cons, List.not_mem_nil, or_false, not_or] at others
    obtain ⟨noDelta, noStreak, noAlarm, noAct⟩ := others
    unfold State.evalRisen
    rw [riseAct_rd_other (Ne.symm noAct), riseAlarm_rd_other (by omega) (Ne.symm noStreak) (Ne.symm noAlarm), delta,
      State.wr_rd_other _ _ (Ne.symm noDelta)]

/-- DELTA is the difference of two valid readings, and 0 without them (R385). -/
theorem unsigned_delta_of_valid (valid : s.rd R.THM_STAT_VALID = 1) : unsigned 12 s.delta =
    (match s.thm.prev with | none => 0 | some p => unsigned 12 ((s.rd R.THM_STAT_HOT : Int) - p)) := by
  unfold State.delta
  cases s.thm.prev with
  | none => rfl
  | some p => rw [State.on_iff.mpr valid]; rfl

theorem unsigned_delta_of_none (none : s.rd R.THM_STAT_VALID ≠ 1) : unsigned 12 s.delta = 0 := by
  unfold State.delta
  cases s.thm.prev with
  | none => rfl
  | some p => rw [on_eq_false_iff.mpr none]; rfl

/-! ### The two outcomes -/

/-- What an evaluation with a valid ring leaves. -/
theorem thmEval_of_some {h i : Nat} (hot : s.hottest = some (h, i)) : s.thmEval.rd R.THM_STAT_HOT = h ∧
    s.thmEval.rd R.THM_STAT_HOT_IDX = i ∧ s.thmEval.rd R.THM_STAT_VALID = 1 ∧ s.thmEval.thm.prev = some h ∧
    s.thmEval.rd R.THM_STAT_DELTA = (match s.thm.prev with | none => 0 | some p => unsigned 12 ((h : Int) - p)) ∧
    (s.thmEval.rd R.THM_STAT_HAY_INH = 1 ↔ h < 0x220 ∨ 0x9F0 < h) ∧ (s.thmEval.rd R.THM_STAT_CHG_INH = 1 ↔ h < 0x400 ∨ 0x860 < h) ∧
    s.thmEval.rd R.THM_STAT_TARGET = min 3 (levelOf h s.thm.base + s.thmEval.rd R.THM_STAT_ACT) ∧
    (0xB80 ≤ h → s.thmEval.rd R.THM_STAT_STOPPING = 1) ∧
    (h < 0xB80 → s.thmEval.rd R.THM_STAT_STOPPING = s.rd R.THM_STAT_STOPPING) := by
  obtain ⟨code, idx, valid, hay, chg⟩ := evalRead_of_some hot
  obtain ⟨delta, risen, prev, base⟩ := evalRisen_spec (s := s.evalRead)
  rw [unsigned_delta_of_valid valid, code, evalRead_prev] at delta
  rw [if_pos valid, code] at prev
  rw [evalRead_base] at base
  have riseValid : s.evalRead.evalRisen.rd R.THM_STAT_VALID = 1 := (risen _ (by decide) (by decide)).trans valid
  have riseHot : s.evalRead.evalRisen.rd R.THM_STAT_HOT = h := (risen _ (by decide) (by decide)).trans code
  obtain ⟨target, levels, levelsPrev⟩ := thmLevels_of_valid riseValid
  rw [riseHot, base, ← levels R.THM_STAT_ACT (by decide) (by decide) (by decide)] at target
  have levelsHot : s.evalRead.evalRisen.thmLevels.rd R.THM_STAT_HOT = h :=
    (levels _ (by decide) (by decide) (by decide)).trans riseHot
  have levelsValid : s.evalRead.evalRisen.thmLevels.rd R.THM_STAT_VALID = 1 :=
    (levels _ (by decide) (by decide) (by decide)).trans riseValid
  have judged : (∀ k, k / 1024 = 0x3800 → R.THM_STAT_STOPPING ≠ k → s.thmEval.rd k = s.evalRead.evalRisen.thmLevels.rd k) ∧
      s.thmEval.thm.prev = s.evalRead.evalRisen.thmLevels.thm.prev := by
    rw [thmEval_eq]
    by_cases high : 0xB80 ≤ h
    · exact (stopJudge_of_hot levelsValid (by rwa [levelsHot])).2
    · rw [stopJudge_of_cool (.inr (by rw [levelsHot]; omega))]
      exact ⟨fun _ _ _ => rfl, rfl⟩
  obtain ⟨fields, memory⟩ := judged
  have kept : ∀ k, k / 1024 = 0x3800 → k ∉ [R.THM_STAT_DELTA, R.THM_STAT_STREAK, R.THM_STAT_ALARM, R.THM_STAT_ACT] →
      R.THM_STAT_TARGET ≠ k → R.THM_STAT_GRACE ≠ k → R.THM_STAT_STOPPING ≠ k → s.thmEval.rd k = s.evalRead.rd k :=
    fun k block rise target grace stopping =>
      (fields k block stopping).trans ((levels k (by omega) target grace).trans (risen k block rise))
  refine ⟨(fields _ (by decide) (by decide)).trans levelsHot,
    (kept _ (by decide) (by decide) (by decide) (by decide) (by decide)).trans idx, (fields _ (by decide) (by decide)).trans levelsValid,
    memory.trans (levelsPrev.trans prev), ?_, ?_, ?_, ?_, fun high => ?_, fun low => ?_⟩
  · rw [fields _ (by decide) (by decide), levels _ (by decide) (by decide) (by decide), delta]
  · rw [kept _ (by decide) (by decide) (by decide) (by decide) (by decide)]
    exact hay
  · rw [kept _ (by decide) (by decide) (by decide) (by decide) (by decide)]
    exact chg
  · rw [fields _ (by decide) (by decide), fields _ (by decide) (by decide)]
    exact target
  · rw [thmEval_eq]
    exact (stopJudge_of_hot levelsValid (by rwa [levelsHot])).1
  · rw [thmEval_eq, stopJudge_of_cool (.inr (by rwa [levelsHot])), levels _ (by decide) (by decide) (by decide),
      risen _ (by decide) (by decide), evalRead_rd_other (by decide) (by decide) (by decide) (by decide)]

/-- What an evaluation with no valid ring leaves (R499). -/
theorem thmEval_of_none (absent : s.hottest = none) : s.thmEval.rd R.THM_STAT_VALID = 0 ∧ s.thmEval.rd R.THM_STAT_TARGET = 3 ∧
    s.thmEval.thm.level = 3 ∧ s.thmEval.rd R.THM_STAT_HAY_INH = 1 ∧ s.thmEval.rd R.THM_STAT_CHG_INH = 1 ∧
    s.thmEval.rd R.THM_STAT_DELTA = 0 ∧ s.thmEval.thm.prev = none := by
  obtain ⟨valid, hay, chg⟩ := evalRead_of_none absent
  obtain ⟨delta, risen, prev, -⟩ := evalRisen_spec (s := s.evalRead)
  have invalid : s.evalRead.rd R.THM_STAT_VALID ≠ 1 := by rw [valid]; decide
  rw [unsigned_delta_of_none invalid] at delta
  rw [if_neg invalid] at prev
  have riseValid : s.evalRead.evalRisen.rd R.THM_STAT_VALID = 0 := (risen _ (by decide) (by decide)).trans valid
  obtain ⟨target, level, levels, levelsPrev⟩ := thmLevels_of_none (s := s.evalRead.evalRisen) (by rw [riseValid]; decide)
  have same : s.thmEval = s.evalRead.evalRisen.thmLevels := thmEval_eq.trans <| stopJudge_of_cool
    (.inl (by rw [levels _ (by decide) (by decide) (by decide), riseValid]; decide))
  rw [same, levelsPrev]
  refine ⟨(levels _ (by decide) (by decide) (by decide)).trans riseValid, target, level, ?_, ?_, ?_, prev⟩
  · rw [levels _ (by decide) (by decide) (by decide), risen _ (by decide) (by decide), hay]
  · rw [levels _ (by decide) (by decide) (by decide), risen _ (by decide) (by decide), chg]
  · rw [levels _ (by decide) (by decide) (by decide), delta]

/-- Settles O55: every row of the monitor, and the parts of a read and of an evaluation. -/
theorem dieThermal : Obligations.DieThermal := by
  unfold Obligations.DieThermal
  exact ⟨fun s target idle ended _ => graceExpire_over target idle ended, fun s => graceExpire_idle,
    fun s d => riseAlarm_starts, fun s d => riseAlarm_again, fun s => riseAlarm_idle, fun s => riseActEnd_eighth,
    fun s => riseActEnd_idle, fun s eighth above noAct floor _ => levelFall_falls eighth above noAct floor, fun s => levelFall_of_act,
    fun s => levelFall_idle, fun s r idle run level => levelTakesEffect_run idle run level r, fun s => levelTakesEffect_waits,
    fun s => thermStop_over, fun s => thermStop_not_over, fun s cut => congrArg Host.Outcome.next (if_pos cut),
    fun s clear => ⟨s.cutRecord, cutRecord_eq, cutSensorTrip_records clear⟩, fun s => rfl,
    fun s c l => thmFloor_sets, fun s c => thmFloor_refused, fun s l n _ => thmRead_ring l, fun h b => levelOf_spec h,
    fun s => ⟨_, rfl, fun h i => thmEval_of_some, thmEval_of_none⟩⟩

end Sys2Proof.Machine
end

section
/-!
PROOFS. What the opcodes of the tack room share (16_security.md): a row that is one SUB of an opcode, a command that has posted ACCEPTED
before its final reply, and the operations that run one at a time over page commits (R405).
-/

namespace Sys2Proof.Machine

variable {s t u : State} {c : Cmd} {op : Nat}

/-! ### A row of one SUB (R496) -/

section
variable {p x : Bytes} {v : Nat}

/-- Behind the SUB byte a row's payload is the command's. -/
theorem sub_subRow (v : Nat) (p : Bytes) (k n : Nat) : sub (le 1 v ++ p.drop 1) (k + 1) n = sub p (k + 1) n := by
  unfold sub
  rw [Nat.add_comm k 1, ← List.drop_drop, List.drop_left' (le_length 1 v), List.drop_drop]

theorem length_subRow (h : p ≠ []) : (le 1 v ++ p.drop 1).length = p.length := by
  have := List.length_pos_iff.mpr h
  rw [List.length_append, le_length, List.length_drop]
  omega

end

/-! ### Final replies of a command that has started (R77, R80) -/

/-- A command has started, and its channel has since gained these packets and nothing else that a reply depends on. -/
structure State.Started (s : State) (c : Cmd) (op : Nat) (l : List Pkt) (u : State) : Prop where
  calm : u.flt.recov = []
  epoch : (u.chan c.ch).epoch = (s.chan c.ch).epoch
  outq : (u.chan c.ch).outq = (s.chan c.ch).outq ++ l
  uses : (u.chan c.ch).uses = (s.chan c.ch).uses ++ [s.useOf c op]
  waits : (u.chan c.ch).waits = []
  unbound : (u.chan c.ch).bind = none
  others : ∀ k, k ≠ c.ch.val → u.chan k = s.chan k

theorem started_begin (h : s.Ready c) : s.Started c op [] (s.begin c op).2 where
  calm := begin_calm h
  epoch := by rw [begin_chan h]
  outq := by rw [begin_chan h, List.append_nil]
  uses := by rw [begin_chan h]; rfl
  waits := by rw [begin_chan h]; exact h.waits
  unbound := by rw [begin_chan h]; exact h.bind
  others := fun _ hk => begin_chan_other hk

theorem State.Started.of_eq {l : List Pkt} (h : s.Started c op l u) (spoke : t.spoke = u.spoke) (flt : t.flt = u.flt) :
    s.Started c op l t where
  calm := by rw [flt, h.calm]
  epoch := by rw [chan_congr spoke, h.epoch]
  outq := by rw [chan_congr spoke, h.outq]
  uses := by rw [chan_congr spoke, h.uses]
  waits := by rw [chan_congr spoke, h.waits]
  unbound := by rw [chan_congr spoke, h.unbound]
  others := fun k hk => by rw [chan_congr spoke, h.others k hk]

/-- Only shared packets have joined: the kept entry of the final reply is still free. -/
theorem State.Started.room {l : List Pkt} (h : s.Started c op l u) (ready : s.Ready c) (shared : ∀ p ∈ l, p.kind = .shared) :
    outCount (u.chan c.ch) .final < 16 := by
  have none_ : (l.filter fun p => decide (p.kind = .final)) = [] :=
    List.filter_eq_nil_iff.mpr fun p hp => by rw [shared p hp]; decide
  have same : outCount (u.chan c.ch) .final = outCount (s.chan c.ch) .final := by
    unfold outCount
    rw [h.outq, List.filter_append, none_, List.append_nil]
  rw [same]
  exact ready.final

/-- ACCEPTED of a command that has posted nothing yet. -/
theorem accepted_chan_of_started {extra : Bytes} (h : s.Started c op [] u) (ready : s.Ready c) :
    (u.accepted (s.refOf c op) extra).chan c.ch = { u.chan c.ch with outq := (s.chan c.ch).outq ++ [interimPkt c op extra] } ∧
    ∀ k, k ≠ c.ch.val → (u.accepted (s.refOf c op) extra).chan k = s.chan k := by
  have posted : u.accepted (s.refOf c op) extra = u.modChan c.ch (postShared c.ch true (interimPkt c op extra)) := if_pos h.epoch
  have room : outCount (u.chan c.ch) .shared < 15 := by
    unfold outCount
    rw [h.outq, List.append_nil]
    exact ready.shared
  rw [posted]
  refine ⟨?_, fun k hk => ?_⟩
  · rw [State.modChan_chan, if_pos rfl, postShared_of_room room h.unbound, h.outq, List.append_nil]
  · rw [State.modChan_chan, if_neg hk.symm, h.others k hk]

theorem State.Started.accepted {extra : Bytes} (h : s.Started c op [] u) (ready : s.Ready c) :
    s.Started c op [interimPkt c op extra] (u.accepted (s.refOf c op) extra) := by
  obtain ⟨own, others⟩ := accepted_chan_of_started (extra := extra) h ready
  exact ⟨by rw [State.accepted_flt]; exact h.calm, by rw [own]; exact h.epoch, by rw [own], by rw [own]; exact h.uses,
    by rw [own]; exact h.waits, by rw [own]; exact h.unbound, others⟩

/-- The final reply goes straight out, and the tag is free again. -/
theorem State.Started.finish_chan {l : List Pkt} {status : Nat} {extra : Bytes} (h : s.Started c op l u) (ready : s.Ready c)
    (shared : ∀ p ∈ l, p.kind = .shared) : (u.finish (s.refOf c op) status extra).chan c.ch = { u.chan c.ch with
      uses := (s.chan c.ch).uses, outq := (s.chan c.ch).outq ++ (l ++ [finalPkt c op status extra]) } := by
  have freed : ((s.chan c.ch).uses ++ [s.useOf c op]).filter (fun v => v.tag != c.tag.val) = (s.chan c.ch).uses := by
    rw [List.filter_append, List.filter_eq_self.mpr fun v hv => by simpa using ready.tag v hv]
    simp [State.useOf]
  refine (Machine.finish_chan (r := s.refOf c op) h.epoch h.calm (h.room ready shared) h.waits h.unbound).trans ?_
  show { u.chan c.ch with
    uses := (u.chan c.ch).uses.filter fun v => v.tag != c.tag.val
    outq := (u.chan c.ch).outq ++ [finalPkt c op status extra], waits := [] } = _
  rw [h.uses, freed, h.outq, List.append_assoc, ← h.waits]

theorem State.Started.finish_posts {l : List Pkt} {status : Nat} {extra : Bytes} (h : s.Started c op l u) (ready : s.Ready c)
    (shared : ∀ p ∈ l, p.kind = .shared) : s.Posts c (l ++ [finalPkt c op status extra]) (u.finish (s.refOf c op) status extra) ∧
    ((u.finish (s.refOf c op) status extra).chan c.ch).uses = (s.chan c.ch).uses := by
  have own := h.finish_chan (status := status) (extra := extra) ready shared
  exact ⟨⟨congrArg Channel.outq own, fun k hk => (finish_chan_other h.calm hk).trans (h.others k hk)⟩, (congrArg Channel.uses own :)⟩

/-- A command that has posted nothing but its final reply has answered. -/
theorem State.Started.answers {status : Nat} {extra : Bytes} (h : s.Started c op [] u) (ready : s.Ready c) :
    s.Answers c op status extra (u.finish (s.refOf c op) status extra) := h.finish_posts ready fun _ hp => absurd hp List.not_mem_nil

/-- A command that has posted ACCEPTED and then its final reply. -/
theorem State.Started.accepted_posts {status : Nat} {first extra : Bytes} (h : s.Started c op [interimPkt c op first] u)
    (ready : s.Ready c) : s.Posts c [interimPkt c op first, finalPkt c op status extra] (u.finish (s.refOf c op) status extra) ∧
    ((u.finish (s.refOf c op) status extra).chan c.ch).uses = (s.chan c.ch).uses :=
  h.finish_posts ready fun p hp => by rw [List.mem_singleton.mp hp]; rfl

/-- A final reply changes the channels alone. -/
theorem State.Started.finish_frame {l : List Pkt} {status : Nat} {extra : Bytes} {m : List Part} {r : Ref} (h : s.Started c op l u)
    (frame : s.Frame m u) (hm : .spoke ∈ m) : s.Frame m (u.finish r status extra) :=
  frame.trans ((finish_frame_of_calm h.calm).mono fun _ hp => List.mem_singleton.mp hp ▸ hm)

/-! ### Log records -/

/-- What a record adds depends on hayloft and on the clock alone. -/
theorem record_hay_congr {stream kind : Nat} {data : Bytes} (hay : t.hay = s.hay) (cad : t.cad = s.cad) :
    (t.record stream kind data).hay = (s.record stream kind data).hay := by
  unfold State.record State.modLog State.tpos State.stage
  rw [hay, cad]

/-- The page of a security record depends on hayloft alone. -/
theorem secRecordPage_congr {d : Bytes} (hay : t.hay = s.hay) : t.secRecordPage d = s.secRecordPage d := by
  have moved : ({ t with hay := s.hay } : State).secRecordPage d = s.secRecordPage d := rfl
  rwa [← hay] at moved

/-- Hayloft's requests and the tack room change together. -/
theorem State.Frame.hay_sec {m : List Part} (h : s.Frame m u) (hay : .hay ∈ m) (sec : .sec ∈ m) {a : Hay} {b : Sec} :
    s.Frame m { u with hay := a, sec := b } := State.Frame.sec (s := { u with hay := a }) (h.hay hay) sec

/-! ### Operations, one at a time (R405) -/

section
variable {o : SecOp} {rest : List SecOp}

theorem secLoop_of_empty (h : s.sec.ops = []) (n : Nat) : State.secLoop n s = s := by
  cases n with
  | zero => rfl
  | succ n =>
    unfold State.secLoop
    rw [h]

/-- The front operation waits for a page commit, or for its burn. -/
theorem secLoop_of_waiting (h : s.sec.ops = o :: rest) (waits : s.sec.burn.isSome = true ∨ o.asked ≠ o.phase) (n : Nat) :
    State.secLoop n s = s := by
  cases n with
  | zero => rfl
  | succ n =>
    unfold State.secLoop
    rw [h]
    refine if_pos ?_
    rw [Bool.or_eq_true, bne_iff_ne]
    exact waits

/-- The front operation has nothing to wait for: it goes one step on. -/
theorem secLoop_of_due (h : s.sec.ops = o :: rest) (unburnt : s.sec.burn = none) (due : o.asked = o.phase) (n : Nat) :
    State.secLoop (n + 1) s = State.secLoop n (s.secNext o) := by
  conv_lhs => unfold State.secLoop
  rw [h]
  refine if_neg ?_
  rw [unburnt, due]
  simp

/-- A page commit that the tack room asks for waits behind the requests made before it, while the gate of R54 is open. -/
theorem hayAsk_sec_of_open (page : Nat) (image : Bytes) (id : Nat) (gate : s.gatesClosed = false) :
    s.hayAsk 249 (.sec page image id) = { s with
      hay.nextId := s.hay.nextId + 1, hay.reqs := s.hay.reqs ++ [⟨s.hay.nextId, 249, .sec page image id, s.ticks, false⟩] } := by
  have still : ({ s with hay.nextId := s.hay.nextId + 1 } : State).gatesClosed = false := gate
  unfold State.hayAsk
  dsimp only
  rw [still]
  rfl

/-- The only operation asks for a page commit. -/
theorem secAsk_of_open {old : SecOp} (one : s.sec.ops = [old]) (same : old.id = o.id) (gate : s.gatesClosed = false) (page : Nat)
    (image : Bytes) : s.secAsk o page image = { s with
      sec.ops := [{ o with asked := o.asked + 1 }], hay.nextId := s.hay.nextId + 1
      hay.reqs := s.hay.reqs ++ [⟨s.hay.nextId, 249, .sec page image o.id, s.ticks, false⟩] } := by
  unfold State.secAsk
  rw [hayAsk_sec_of_open]
  · unfold State.secPut
    rw [one]
    show { s with sec.ops := [if old.id = o.id then _ else _], hay.nextId := _, hay.reqs := _ } = _
    rw [if_pos same]
    rfl
  · exact gate

end

/-- The tack room with one operation, just started. -/
def State.secAlone (s : State) (o : SecOp) : State := { s with sec.ops := [o], sec.nextId := s.sec.nextId + 1 }

/-- An operation that starts while none runs goes one step at once. -/
theorem secStart_of_idle (idle : s.sec.ops = []) (unburnt : s.sec.burn = none) (cmd : Option Ref) (cmdseq : Option Nat) (act : SecAct) :
    s.secStart cmd cmdseq act = State.secLoop 1 ((s.secAlone ⟨s.sec.nextId, cmd, act, cmdseq, 0, 0⟩).secNext
      ⟨s.sec.nextId, cmd, act, cmdseq, 0, 0⟩) := by
  have alone : ({ s with
      sec.ops := s.sec.ops ++ [⟨s.sec.nextId, cmd, act, cmdseq, 0, 0⟩], sec.nextId := s.sec.nextId + 1 } : State) =
      s.secAlone ⟨s.sec.nextId, cmd, act, cmdseq, 0, 0⟩ := by
    rw [idle]
    rfl
  unfold State.secStart State.secAdvance
  dsimp only
  rw [alone, idle]
  exact secLoop_of_due (s := s.secAlone ⟨s.sec.nextId, cmd, act, cmdseq, 0, 0⟩) (rest := []) rfl unburnt rfl 1

/-- An operation that starts while none runs, and whose first step is to ask for a page commit, waits for it. -/
theorem secStart_asks {cmd : Option Ref} {cmdseq : Option Nat} {act : SecAct} {page : Nat} {image : Bytes} (idle : s.sec.ops = [])
    (unburnt : s.sec.burn = none) (gate : s.gatesClosed = false)
    (next : (s.secAlone ⟨s.sec.nextId, cmd, act, cmdseq, 0, 0⟩).secNext ⟨s.sec.nextId, cmd, act, cmdseq, 0, 0⟩ =
      (s.secAlone ⟨s.sec.nextId, cmd, act, cmdseq, 0, 0⟩).secAsk ⟨s.sec.nextId, cmd, act, cmdseq, 0, 0⟩ page image) :
    s.secStart cmd cmdseq act = { s with
      sec.nextId := s.sec.nextId + 1, sec.ops := [⟨s.sec.nextId, cmd, act, cmdseq, 0, 1⟩], hay.nextId := s.hay.nextId + 1
      hay.reqs := s.hay.reqs ++ [⟨s.hay.nextId, 249, .sec page image s.sec.nextId, s.ticks, false⟩] } := by
  have asked := secAsk_of_open (s := s.secAlone ⟨s.sec.nextId, cmd, act, cmdseq, 0, 0⟩) rfl rfl gate page image
  rw [secStart_of_idle idle unburnt, next, asked]
  exact secLoop_of_waiting rfl (.inr Nat.one_ne_zero) 1

end Sys2Proof.Machine
end

section
/-!
PROOFS. The banks of the boot flash and the SUBs of SEC_UPDATE (R409, R411, 16_security.md).
-/

namespace Sys2Proof.Machine

variable {s t u : State} {c : Cmd}

/-! ### Cells -/

/-- What was written reads back. -/
theorem cellsGet_cellsPut (d : Byte) (m : List Host.Cell) (a : Nat) (b : Bytes) : cellsGet d (cellsPut d m a b) a b.length = b := by
  unfold cellsGet
  refine List.ext_getElem (by simp) fun i h₁ h₂ => ?_
  rw [List.getElem_map, List.getElem_range, cellGet_cellsPut, if_pos ⟨by omega, by omega⟩, Nat.add_sub_cancel_left,
    List.getD_eq_getElem _ _ h₂]

/-- Cells outside a filter that drops them read as erased, the others as before. -/
theorem cellGet_filter (d : Byte) (p : Nat → Bool) (m : List Host.Cell) (x : Nat) :
    cellGet d (m.filter fun e => p e.1) x = if p x then cellGet d m x else d := by
  unfold cellGet mget
  rw [mget?_filter]
  split <;> rfl

/-! ### Banks -/

/-- The flash with one bank erased. -/
def erased (m : List Host.Cell) (bank : Nat) : List Host.Cell :=
  m.filter fun e => decide (e.1 < 0x80000 * bank ∨ 0x80000 * (bank + 1) ≤ e.1)

theorem cellGet_erased_inside {m : List Host.Cell} {bank x : Nat} (h : x < 0x80000) : cellGet 0xFF (erased m bank) (0x80000 * bank + x) = 0xFF := by
  unfold erased
  rw [cellGet_filter 0xFF (fun i => decide (i < 0x80000 * bank ∨ 0x80000 * (bank + 1) ≤ i)), if_neg (by rw [decide_eq_true_eq]; omega)]

theorem cellGet_erased_outside {m : List Host.Cell} {bank x : Nat} (h : x < 0x80000 * bank ∨ 0x80000 * (bank + 1) ≤ x) :
    cellGet 0xFF (erased m bank) x = cellGet 0xFF m x := by
  unfold erased
  rw [cellGet_filter 0xFF (fun i => decide (i < 0x80000 * bank ∨ 0x80000 * (bank + 1) ≤ i)), if_pos (decide_eq_true h)]

/-- An erased record is not intact. -/
theorem recordIntact_erased : recordIntact (List.replicate 16 0xFF) = false := by
  unfold recordIntact
  rw [Bool.and_eq_false_iff]
  exact .inl (by decide)

/-! ### The header (R409, Table 16-5) -/

theorem headerOk_iff {h : Bytes} : headerOk h = true ↔ sub h 0 4 = [0x57, 0x50, 0x41, 0x54] ∧ u8 h 4 = 1 ∧ u8 h 5 < 4 ∧ u8 h 6 < 64 ∧
    u8 h 7 = 0 ∧ (∀ x ∈ sub h 20 44, x = 0) ∧ 64 ≤ u32 h 8 ∧ u32 h 8 ≤ 262144 ∧ u32 h 8 % 64 = 0 := by
  unfold headerOk headerLen
  simp only [Bool.and_eq_true, beq_iff_eq, decide_eq_true_eq, List.all_eq_true, and_assoc]

theorem headerResult_of_ok {h : Bytes} (ok : headerOk h = true) : s.headerResult h = if u32 h 12 ≠ s.rd R.SEC_BOOT_ROM_BUILD then 3
    else if u8 h 6 < s.rd R.SEC_BOOT_MIN_SVN then 4 else 0 := if_neg (by rw [ok]; decide)

theorem headerResult_eq_two_iff {h : Bytes} : s.headerResult h = 2 ↔ ¬ headerOk h = true := by
  by_cases ok : headerOk h = true
  · rw [headerResult_of_ok ok]
    refine ⟨fun two => ?_, fun bad => absurd ok bad⟩
    split at two
    · exact absurd two (by decide)
    · split at two <;> exact absurd two (by decide)
  · exact ⟨fun _ => ok, fun _ => if_pos (by rw [Bool.not_eq_true] at ok; rw [ok]; rfl)⟩

theorem headerResult_layout (s : State) (h : Bytes) : (s.headerResult h = 2 ↔ ¬(h.length = 192 → sub h 0 4 = [0x57, 0x50, 0x41, 0x54] ∧
      u8 h 4 = 1 ∧ u8 h 5 < 4 ∧ u8 h 6 < 64 ∧ u8 h 7 = 0 ∧ (∀ x ∈ sub h 20 44, x = 0) ∧ 64 ≤ u32 h 8 ∧ u32 h 8 ≤ 262144 ∧
      u32 h 8 % 64 = 0)) ∨ h.length ≠ 192 := by
  by_cases len : h.length = 192
  · refine .inl ?_
    rw [headerResult_eq_two_iff, headerOk_iff]
    exact not_congr ⟨fun ok _ => ok, fun ok => ok len⟩
  · exact .inr len

/-! ### BEGIN (R411) -/

/-- The update in progress after BEGIN: the bank is erased and holds the header. -/
def State.updateBegun (u : State) (ch : Nat) (h : Bytes) : State :=
  { (((u.bankErase u.updateBank).bankWrite u.updateBank 0 h).wrs
      [(R.SEC_UPD_STATE, 1), (R.SEC_UPD_CHAN, ch), (R.SEC_UPD_RECEIVED, 0)]) with sec.upd := some ⟨u.updateBank, h⟩ }

theorem updateBegin_of_sound {r : Ref} {h : Bytes} (sound : (u.accepted r).sec.flashBad = false) :
    u.updateBegin r h = ((u.accepted r).updateBegun r.ch h).ok r := if_neg (by rw [sound]; exact Bool.false_ne_true)

theorem updateBegun_flash (ch : Nat) (h : Bytes) :
    (u.updateBegun ch h).sec.flash = cellsPut 0xFF (erased u.sec.flash u.updateBank) (0x80000 * u.updateBank) h := rfl

theorem updateBegun_sec (ch : Nat) (h : Bytes) : (u.updateBegun ch h).sec = { u.sec with
    upd := some ⟨u.updateBank, h⟩, flash := (u.updateBegun ch h).sec.flash } := rfl

theorem updateBegun_spoke (u : State) (ch : Nat) (h : Bytes) : (u.updateBegun ch h).spoke = u.spoke := rfl

theorem updateBegun_flt (u : State) (ch : Nat) (h : Bytes) : (u.updateBegun ch h).flt = u.flt := rfl

theorem updateBegun_fields (u : State) (ch : Nat) (h : Bytes) :
    u.Fields [(R.SEC_UPD_RECEIVED, 0), (R.SEC_UPD_CHAN, ch), (R.SEC_UPD_STATE, 1)] (u.updateBegun ch h) :=
  State.Fields.refl.wr.wr.wr.of_regs rfl

theorem updateBegun_frame (u : State) (ch : Nat) (h : Bytes) : u.Frame [.regs, .sec] (u.updateBegun ch h) :=
  (State.wrs_frame (Covers.refl.sub rfl) (State.bankWrite_frame (Covers.refl.sub rfl)
    (State.bankErase_frame (Covers.refl.sub rfl) .refl))).sec (by decide)

/-- A flash whose bank has been erased and holds a header: what the bank reads. -/
theorem begun_bank {m : List Host.Cell} {bank : Nat} {h : Bytes} (len : h.length = 192)
    (flash : t.sec.flash = cellsPut 0xFF (erased m bank) (0x80000 * bank) h) :
    t.bankBytes bank 0 192 = h ∧ recordIntact (t.bankRecord bank) = false ∧
    (∀ x, 192 ≤ x → x < 0x80000 → cellGet 0xFF t.sec.flash (0x80000 * bank + x) = 0xFF) ∧
    (∀ x, x < 0x80000 * bank ∨ 0x80000 * (bank + 1) ≤ x → cellGet 0xFF t.sec.flash x = cellGet 0xFF m x) := by
  have behind : ∀ x, 192 ≤ x → x < 0x80000 → cellGet 0xFF t.sec.flash (0x80000 * bank + x) = 0xFF := fun x low high => by
    rw [flash, cellGet_cellsPut, if_neg (by omega), cellGet_erased_inside high]
  refine ⟨?_, ?_, behind, fun x outside => ?_⟩
  · unfold State.bankBytes
    rw [flash, Nat.add_zero, ← len]
    exact cellsGet_cellsPut ..
  · have record : t.bankRecord bank = List.replicate 16 0xFF := by
      unfold State.bankRecord State.bankBytes cellsGet
      refine List.eq_replicate_iff.mpr ⟨by simp, fun x hx => ?_⟩
      obtain ⟨i, hi, rfl⟩ := List.mem_map.mp hx
      have := List.mem_range.mp hi
      rw [Nat.add_assoc]
      exact behind _ (by omega) (by omega)
    rw [record, recordIntact_erased]
  · rw [flash, cellGet_cellsPut, if_neg (by omega), cellGet_erased_outside outside]

theorem sub_header {h : Bytes} (b : Byte) (len : h.length = 192) : sub (b :: h) 1 192 = h :=
  sub_middle (a := [b]) (c := []) (by rw [List.append_nil]; rfl) rfl len

/-- The payload of BEGIN in terms of its header. -/
theorem doSecUpdateBegin_of_header {r : Ref} {h : Bytes} (len : h.length = 192) : u.doSecUpdateBegin r ([0] ++ h) =
    if u.headerResult h ≠ 0 then u.finish r stBadParam (le 1 (u.headerResult h))
    else u.checked r [permitted (!u.updating && !u.on R.SEC_STAT_TRIAL && u.notInPowerFail)] fun s => s.updateBegin r h := by
  have header : sub ([0] ++ h) 1 192 = h := sub_header 0 len
  unfold State.doSecUpdateBegin
  dsimp only
  rw [if_neg (by rw [List.length_append, len]; decide), header]

theorem exec_updateBegin {h : Bytes} (payload : c.payload = [0] ++ h) :
    exec (.secUpdateBegin c) s = .next ((s.begin c 0x6E).2.doSecUpdateBegin (s.refOf c 0x6E) ([0] ++ h)) := by
  show Host.Outcome.next ((s.begin c 0x6E).2.doSecUpdateBegin (s.refOf c 0x6E) (le 1 0 ++ c.payload.drop 1)) = _
  rw [payload]
  rfl

/-- Nothing forbids a BEGIN: no update, no trial, no power-fail sequence. -/
theorem beginPermitted (idle : s.sec.upd = none) (trial : s.rd R.SEC_STAT_TRIAL ≠ 1) (power : s.rd R.PWR_STAT_PFSEQ ≠ 1) :
    firstBad [permitted (!s.updating && !s.on R.SEC_STAT_TRIAL && s.notInPowerFail)] = stOk := by
  unfold State.updating State.notInPowerFail
  rw [idle, on_eq_false_iff.mpr trial, on_eq_false_iff.mpr power]
  rfl

theorem updateBegin_begins {h : Bytes} (ready : s.Ready c) (payload : c.payload = [0] ++ h) (len : h.length = 192)
    (good : s.headerResult h = 0) (idle : s.sec.upd = none) (trial : s.rd R.SEC_STAT_TRIAL ≠ 1) (power : s.rd R.PWR_STAT_PFSEQ ≠ 1)
    (sound : s.sec.flashBad = false) (x : Nat) :
    ∃ b : Nat, b = (if s.rd R.SEC_BOOT_PATCH = 1 then 1 - s.rd R.SEC_BOOT_BANK else 0) ∧ ∃ t, exec (.secUpdateBegin c) s = .next t ∧
    s.Posts c [interimPkt c 0x6E, finalPkt c 0x6E stOk] t ∧ (t.chan c.ch).uses = (s.chan c.ch).uses ∧
    t.sec = { s.sec with upd := some ⟨b, h⟩, flash := t.sec.flash } ∧ t.bankBytes b 0 192 = h ∧ recordIntact (t.bankRecord b) = false ∧
    (192 ≤ x → x < 0x80000 → cellGet 0xFF t.sec.flash (0x80000 * b + x) = 0xFF) ∧
    (x < 0x80000 * b ∨ 0x80000 * (b + 1) ≤ x → cellGet 0xFF t.sec.flash x = cellGet 0xFF s.sec.flash x) ∧
    s.Fields [(R.SEC_UPD_RECEIVED, 0), (R.SEC_UPD_CHAN, c.ch), (R.SEC_UPD_STATE, 1)] t ∧ s.Frame [.regs, .spoke, .sec] t := by
  let v := (s.begin c 0x6E).2.accepted (s.refOf c 0x6E)
  have vsec : v.sec = s.sec := State.accepted_sec ..
  have vregs : v.regs = s.regs := State.accepted_regs ..
  have bank : v.updateBank = if s.rd R.SEC_BOOT_PATCH = 1 then 1 - s.rd R.SEC_BOOT_BANK else 0 := by
    unfold State.updateBank
    simp only [State.on_iff, rd_congr vregs]
  have runs : exec (.secUpdateBegin c) s = .next ((v.updateBegun c.ch h).ok (s.refOf c 0x6E)) := by
    have goodHere : ¬ (s.begin c 0x6E).2.headerResult h ≠ 0 := not_not.mpr good
    rw [exec_updateBegin payload, doSecUpdateBegin_of_header len, if_neg goodHere, 
      checked_ok (beginPermitted (s := (s.begin c 0x6E).2) idle trial power),
      updateBegin_of_sound (by rw [vsec]; exact sound)]
    rfl
  have started : s.Started c 0x6E [interimPkt c 0x6E] (v.updateBegun c.ch h) :=
    ((started_begin ready).accepted ready).of_eq (updateBegun_spoke ..) (updateBegun_flt ..)
  have tsec : ((v.updateBegun c.ch h).ok (s.refOf c 0x6E)).sec = (v.updateBegun c.ch h).sec := State.finish_sec ..
  obtain ⟨posts, uses⟩ := started.accepted_posts (status := stOk) (extra := []) ready
  have flash : ((v.updateBegun c.ch h).ok (s.refOf c 0x6E)).sec.flash =
      cellsPut 0xFF (erased s.sec.flash v.updateBank) (0x80000 * v.updateBank) h := by
    rw [tsec, updateBegun_flash, vsec]
  obtain ⟨header, record, inside, outside⟩ := begun_bank len flash
  refine ⟨_, bank, _, runs, posts, uses, ?_, header, record, inside x, outside x, ?_, ?_⟩
  · rw [tsec, updateBegun_sec, vsec]
  · exact ((updateBegun_fields v c.ch h).of_base vregs).of_regs (State.finish_regs ..)
  · have accepted : s.Frame [.regs, .spoke, .sec] v :=
      State.accepted_frame (Covers.refl.sub rfl) (begin_frame_spoke.mono (Covers.refl.sub rfl))
    exact started.finish_frame (accepted.trans ((updateBegun_frame v c.ch h).mono (Covers.refl.sub rfl))) (by decide)

theorem updateBegin_badHeader {h : Bytes} (ready : s.Ready c) (payload : c.payload = [0] ++ h) (len : h.length = 192)
    (bad : s.headerResult h ≠ 0) : ∃ t, exec (.secUpdateBegin c) s = .next t ∧
    s.Answers c 0x6E stBadParam (le 1 (s.headerResult h)) t ∧ s.Frame [.spoke] t := by
  have runs : exec (.secUpdateBegin c) s =
      .next ((s.begin c 0x6E).2.finish (s.refOf c 0x6E) stBadParam (le 1 (s.headerResult h))) := by
    rw [exec_updateBegin payload, doSecUpdateBegin_of_header len]
    exact congrArg Host.Outcome.next (if_pos bad)
  exact ⟨_, runs, (started_begin ready).answers ready, reply_frame ready⟩

end Sys2Proof.Machine
end

section
/-!
PROOFS. DATA, END and ABORT of SEC_UPDATE, and what its SUBs refuse (R411, R422, 16_security.md).
-/

namespace Sys2Proof.Machine

variable {s t u : State} {c : Cmd}

/-! ### DATA -/

section
variable {n : Nat} {d : Bytes}

/-- The payload of DATA in terms of its OFFSET and its bytes. -/
theorem data_offset (h : n < 2 ^ 32) : u32 ([1] ++ le 4 n ++ d) 1 = n := by
  have offset : sub ([1] ++ le 4 n ++ d) 1 4 = le 4 n := sub_middle (List.append_assoc ..) rfl (le_length 4 n)
  unfold u32
  rw [offset, ofLe_le_of_lt h]

theorem data_length : ([1] ++ le 4 n ++ d).length = d.length + 5 := by
  rw [List.length_append, List.length_append, le_length, Nat.add_comm]
  rfl

theorem data_bytes : ([1] ++ le 4 n ++ d).drop 5 = d := List.drop_left' (by rw [List.length_append, le_length]; rfl)

end

/-- The bytes of a DATA are written, and RECEIVED follows. -/
def State.dataWritten (u : State) (x : Update) (n : Nat) (d : Bytes) : State :=
  (u.bankWrite x.bank (192 + n) d).wr R.SEC_UPD_RECEIVED (n + d.length)

theorem updateData_of_sound {r : Ref} {x : Update} {n : Nat} {d : Bytes} (upd : u.sec.upd = some x) (sound : u.sec.flashBad = false)
    (h : n < 2 ^ 32) : u.updateData r ([1] ++ le 4 n ++ d) = (u.dataWritten x n d).ok r := by
  unfold State.updateData
  rw [upd]
  dsimp only
  rw [sound, data_offset h, data_length, data_bytes, Nat.add_sub_cancel]
  rfl

/-- DATA that continues what was received, and fits, comes to its permission. -/
theorem doSecUpdateData_in_order {r : Ref} {x : Update} {d : Bytes} (upd : u.sec.upd = some x) (some_ : 1 ≤ d.length)
    (few : d.length ≤ 4000) (h : u.rd R.SEC_UPD_RECEIVED < 2 ^ 32) (fits : u.rd R.SEC_UPD_RECEIVED + d.length ≤ u32 x.header 8) :
    u.doSecUpdateData r ([1] ++ le 4 (u.rd R.SEC_UPD_RECEIVED) ++ d) = u.checked r [permitted (u.ownsUpdate r.ch && u.notInPowerFail)]
      fun s => s.updateData r ([1] ++ le 4 (u.rd R.SEC_UPD_RECEIVED) ++ d) := by
  have room : u.updateLen = u32 x.header 8 := by
    unfold State.updateLen
    rw [upd]
    rfl
  unfold State.doSecUpdateData
  dsimp only
  rw [data_offset h, data_length, room, if_neg (by omega), Nat.add_sub_cancel, if_neg]
  rintro (other | ⟨-, long⟩)
  · exact other rfl
  · omega

/-- The owner of an update in progress is permitted, outside the power-fail sequence. -/
theorem ownerPermitted {ch : Nat} {x : Update} (upd : u.sec.upd = some x) (owner : u.rd R.SEC_UPD_CHAN = ch)
    (power : u.rd R.PWR_STAT_PFSEQ ≠ 1) : (u.ownsUpdate ch && u.notInPowerFail) = true := by
  unfold State.ownsUpdate State.updating State.notInPowerFail
  rw [upd, owner, on_eq_false_iff.mpr power]
  simp

theorem updateData_writes {x : Update} {d : Bytes} (ready : s.Ready c) (upd : s.sec.upd = some x)
    (payload : c.payload = [1] ++ le 4 (s.rd R.SEC_UPD_RECEIVED) ++ d) (some_ : 1 ≤ d.length) (few : d.length ≤ 4000)
    (word : s.rd R.SEC_UPD_RECEIVED < 2 ^ 32) (fits : s.rd R.SEC_UPD_RECEIVED + d.length ≤ u32 x.header 8)
    (owner : s.rd R.SEC_UPD_CHAN = c.ch) (power : s.rd R.PWR_STAT_PFSEQ ≠ 1) (sound : s.sec.flashBad = false) :
    ∃ t, exec (.secUpdateData c) s = .next t ∧ s.Answers c 0x6E stOk [] t ∧
    s.Fields [(R.SEC_UPD_RECEIVED, s.rd R.SEC_UPD_RECEIVED + d.length)] t ∧ t.sec = { s.sec with flash := t.sec.flash } ∧
    t.bankBytes x.bank (192 + s.rd R.SEC_UPD_RECEIVED) d.length = d ∧
    (∀ i, i < 0x80000 * x.bank + 192 + s.rd R.SEC_UPD_RECEIVED ∨ 0x80000 * x.bank + 192 + s.rd R.SEC_UPD_RECEIVED + d.length ≤ i →
      cellGet 0xFF t.sec.flash i = cellGet 0xFF s.sec.flash i) ∧ s.Frame [.regs, .spoke, .sec] t := by
  let v := (s.begin c 0x6E).2.dataWritten x (s.rd R.SEC_UPD_RECEIVED) d
  have runs : exec (.secUpdateData c) s = .next (v.ok (s.refOf c 0x6E)) := by
    show Host.Outcome.next ((s.begin c 0x6E).2.doSecUpdateData (s.refOf c 0x6E) (le 1 1 ++ c.payload.drop 1)) = _
    rw [payload]
    refine congrArg Host.Outcome.next ((doSecUpdateData_in_order (u := (s.begin c 0x6E).2) upd some_ few word fits).trans ?_)
    refine (checked_ok ((firstBad_of_permitted (ownerPermitted (u := (s.begin c 0x6E).2) upd owner power) []).trans rfl)).trans ?_
    exact updateData_of_sound upd sound word
  have started : s.Started c 0x6E [] v := (started_begin ready).of_eq rfl rfl
  have tsec : (v.ok (s.refOf c 0x6E)).sec = v.sec := State.finish_sec ..
  have flash : (v.ok (s.refOf c 0x6E)).sec.flash =
      cellsPut 0xFF s.sec.flash (0x80000 * x.bank + (192 + s.rd R.SEC_UPD_RECEIVED)) d := by
    rw [tsec]
    rfl
  refine ⟨_, runs, started.answers ready, ?_, ?_, ?_, fun i outside => ?_, ?_⟩
  · exact (State.Fields.of_regs (wr_fields s _ _) rfl).of_regs (State.finish_regs ..)
  · rw [tsec]
    rfl
  · unfold State.bankBytes
    rw [flash]
    exact cellsGet_cellsPut ..
  · rw [flash, cellGet_cellsPut, if_neg (by omega)]
  · have written : s.Frame [.regs, .spoke, .sec] v := State.wr_frame (Covers.refl.sub rfl)
      (State.bankWrite_frame (Covers.refl.sub rfl) (begin_frame_spoke.mono (Covers.refl.sub rfl)))
    exact started.finish_frame written (by decide)

/-- A DATA that does not continue what was received is refused, with a RESULT that nothing gives. -/
theorem updateData_wrongOffset (ready : s.Ready c) (long : 6 ≤ c.payload.length) (short : c.payload.length ≤ 4005)
    (other : u32 c.payload 1 ≠ s.rd R.SEC_UPD_RECEIVED) : ∃ d, d = s.draw 8 ∧ ∃ t, exec (.secUpdateData c) s = .next t ∧
    s.Answers c 0x6E stBadParam (le 1 d.1) t ∧ s.Frame [.free, .spoke] t := by
  have nonempty : c.payload ≠ [] := fun e => by rw [e] at long; exact absurd long (by decide)
  have offset : u32 (le 1 1 ++ c.payload.drop 1) 1 = u32 c.payload 1 := congrArg ofLe (sub_subRow 1 c.payload 0 4)
  have runs : exec (.secUpdateData c) s =
      .next (((s.begin c 0x6E).2.draw 8).2.finish (s.refOf c 0x6E) stBadParam (le 1 (s.draw 8).1)) := by
    show Host.Outcome.next ((s.begin c 0x6E).2.doSecUpdateData (s.refOf c 0x6E) (le 1 1 ++ c.payload.drop 1)) = _
    unfold State.doSecUpdateData
    dsimp only
    rw [length_subRow nonempty, offset, if_neg (by omega), if_pos (.inl other)]
    rfl
  have started : s.Started c 0x6E [] ((s.begin c 0x6E).2.draw 8).2 := (started_begin ready).of_eq rfl rfl
  exact ⟨_, rfl, _, runs, started.answers ready,
    started.finish_frame (State.Frame.free (begin_frame_spoke.mono (Covers.refl.sub rfl)) (by decide)) (by decide)⟩

/-! ### END -/

/-- RESULT of END (R409, R411). -/
theorem endResult_eq (s : State) (bank : Nat) : s.endResult bank (s.bankHeader bank) =
    if u8 (s.bankHeader bank) 6 < s.rd R.SEC_BOOT_MIN_SVN then 4 else s.signResult (s.bankHeader bank) (s.bankDigest bank) := rfl

/-- The verdict of END depends on the tack room and on the fields alone. -/
theorem endResult_congr (sec : t.sec = s.sec) (regs : t.regs = s.regs) (bank : Nat) :
    t.endResult bank (t.bankHeader bank) = s.endResult bank (s.bankHeader bank) := by
  have moved : ({ t with sec := s.sec, regs := s.regs } : State).endResult bank (({ t with sec := s.sec, regs := s.regs } : State).bankHeader bank) =
      s.endResult bank (s.bankHeader bank) := rfl
  rwa [← sec, ← regs] at moved

/-- The record that END writes: its magic number, and SEQ one above the running bank's. -/
theorem updateVerified_record {x : Update} (word : u.sec.runSeq + 1 < 2 ^ 32) :
    (u.updateVerified x).bankSeq x.bank = u.sec.runSeq + 1 ∧
    sub ((u.updateVerified x).bankRecord x.bank) 0 4 = [0x4C, 0x42, 0x4B, 0x31] := by
  have flash : (u.updateVerified x).sec.flash =
      cellsPut 0xFF u.sec.flash (0x80000 * x.bank + 0x7FFF0) (u.newRecord (u.bankDigest x.bank)) := by
    unfold State.updateVerified State.updateRecord
    dsimp only
    rw [State.record_sec]
    rfl
  have front : ∃ rest, u.newRecord (u.bankDigest x.bank) = ([0x4C, 0x42, 0x4B, 0x31] ++ le 4 (u.sec.runSeq + 1)) ++ rest :=
    ⟨_, List.append_assoc _ _ _⟩
  obtain ⟨rest, record⟩ := front
  have eight : ([0x4C, 0x42, 0x4B, 0x31] ++ le 4 (u.sec.runSeq + 1) : Bytes).length = 8 := by
    rw [List.length_append, le_length]
    rfl
  have first : ((u.updateVerified x).bankRecord x.bank).take 8 = [0x4C, 0x42, 0x4B, 0x31] ++ le 4 (u.sec.runSeq + 1) := by
    unfold State.bankRecord State.bankBytes cellsGet
    rw [flash, ← List.map_take, List.take_range]
    refine List.ext_getElem (by rw [List.length_map, List.length_range, eight]; rfl) fun i h₁ h₂ => ?_
    rw [List.getElem_map, List.getElem_range, cellGet_cellsPut, record, if_pos (by rw [List.length_append]; omega), Nat.add_sub_cancel_left,
      List.getD_append _ _ _ _ h₂, List.getD_eq_getElem _ _ h₂]
  have inside : ∀ b : Bytes, ∀ off, off + 4 ≤ 8 → sub b off 4 = sub (b.take 8) off 4 := fun b off h => by
    unfold sub
    rw [List.drop_take, List.take_take, Nat.min_eq_left (by omega)]
  refine ⟨?_, ?_⟩
  · unfold State.bankSeq u32
    have seq : sub ([0x4C, 0x42, 0x4B, 0x31] ++ le 4 (u.sec.runSeq + 1)) 4 4 = le 4 (u.sec.runSeq + 1) :=
      sub_middle (c := []) (by rw [List.append_nil]) rfl (le_length ..)
    rw [inside _ _ (by decide), first, seq, ofLe_le_of_lt word]
  · rw [inside _ _ (by decide), first]
    exact List.take_left' rfl

theorem updateEnd_of_sound {r : Ref} {x : Update} (upd : u.sec.upd = some x) (sound : (u.accepted r).sec.flashBad = false) :
    u.updateEnd r = if (u.accepted r).endResult x.bank ((u.accepted r).bankHeader x.bank) = 0 then ((u.accepted r).updateVerified x).ok r
      else (u.accepted r).finish r stBadParam (le 1 ((u.accepted r).endResult x.bank ((u.accepted r).bankHeader x.bank))) := by
  unfold State.updateEnd
  rw [upd]
  dsimp only
  rw [sound]
  rfl

theorem exec_updateEnd {x : Update} (upd : s.sec.upd = some x) (payload : c.payload = [2]) (owner : s.rd R.SEC_UPD_CHAN = c.ch)
    (power : s.rd R.PWR_STAT_PFSEQ ≠ 1) : exec (.secUpdateEnd c) s = .next ((s.begin c 0x6E).2.updateEnd (s.refOf c 0x6E)) := by
  show Host.Outcome.next ((s.begin c 0x6E).2.doSecUpdateEnd (s.refOf c 0x6E) (le 1 2 ++ c.payload.drop 1)) = _
  rw [payload]
  refine congrArg Host.Outcome.next (checked_ok ?_)
  exact (firstBad_of_length (p := [2]) rfl _).trans
    ((firstBad_of_permitted (ownerPermitted (u := (s.begin c 0x6E).2) upd owner power) []).trans rfl)

theorem updateVerified_sec (u : State) (x : Update) : (u.updateVerified x).sec =
    { u.sec with upd := none, trials := 0, flash := (u.updateVerified x).sec.flash } := by
  unfold State.updateVerified State.updateRecord
  dsimp only
  rw [State.record_sec]
  rfl

theorem updateVerified_hay (u : State) (x : Update) : (u.updateVerified x).hay =
    (u.record 2 0x14 (le 1 0 ++ le 1 x.bank ++ le 1 (u8 x.header 6))).hay := record_hay_congr rfl rfl

theorem updateVerified_frame (u : State) (x : Update) : u.Frame [.regs, .hay, .sec] (u.updateVerified x) :=
  State.updateVerified_frame (Covers.refl.sub rfl) .refl

theorem updateVerified_state (u : State) (x : Update) : (u.updateVerified x).rd R.SEC_UPD_STATE = 2 := by
  have regs : (u.updateVerified x).regs = (u.wr R.SEC_UPD_STATE 2).regs := State.record_regs ..
  rw [rd_congr regs, State.wr_rd_same]

theorem updateEnd_verdict {x : Update} (ready : s.Ready c) (upd : s.sec.upd = some x) (payload : c.payload = [2])
    (owner : s.rd R.SEC_UPD_CHAN = c.ch) (power : s.rd R.PWR_STAT_PFSEQ ≠ 1) (sound : s.sec.flashBad = false)
    (word : s.sec.runSeq + 1 < 2 ^ 32) : ∃ h d : Bytes, h = s.bankHeader x.bank ∧ d = s.bankDigest x.bank ∧
    ∃ n : Nat, n = (if u8 h 6 < s.rd R.SEC_BOOT_MIN_SVN then 4 else s.signResult h d) ∧ ∃ t, exec (.secUpdateEnd c) s = .next t ∧
    s.Posts c [interimPkt c 0x6E, finalPkt c 0x6E (if n = 0 then stOk else stBadParam) (if n = 0 then [] else le 1 n)] t ∧
    (n ≠ 0 → s.Frame [.spoke] t) ∧
    (n = 0 → t.bankSeq x.bank = s.sec.runSeq + 1 ∧ sub (t.bankRecord x.bank) 0 4 = [0x4C, 0x42, 0x4B, 0x31] ∧
      t.sec = { s.sec with upd := none, trials := 0, flash := t.sec.flash } ∧ t.rd R.SEC_UPD_STATE = 2 ∧
      t.hay = (s.record 2 0x14 (le 1 0 ++ le 1 x.bank ++ le 1 (u8 x.header 6))).hay ∧ s.Frame [.regs, .spoke, .hay, .sec] t) := by
  let v := (s.begin c 0x6E).2.accepted (s.refOf c 0x6E)
  have vsec : v.sec = s.sec := State.accepted_sec ..
  have vregs : v.regs = s.regs := State.accepted_regs ..
  have started : s.Started c 0x6E [interimPkt c 0x6E] v := (started_begin ready).accepted ready
  have frame : s.Frame [.spoke] v := State.accepted_frame (fun _ hp => hp) begin_frame_spoke
  have runs := exec_updateEnd upd payload owner power
  rw [updateEnd_of_sound (u := (s.begin c 0x6E).2) upd (by rw [State.accepted_sec]; exact sound)] at runs
  change _ = Host.Outcome.next (if v.endResult x.bank (v.bankHeader x.bank) = 0 then (v.updateVerified x).ok (s.refOf c 0x6E)
    else v.finish (s.refOf c 0x6E) stBadParam (le 1 (v.endResult x.bank (v.bankHeader x.bank)))) at runs
  rw [endResult_congr vsec vregs] at runs
  by_cases good : s.endResult x.bank (s.bankHeader x.bank) = 0
  · rw [if_pos good] at runs
    refine ⟨_, _, rfl, rfl, 0, good.symm.trans (endResult_eq s x.bank), _, runs, ?_⟩
    rw [if_pos rfl, if_pos rfl]
    have verified : s.Started c 0x6E [interimPkt c 0x6E] (v.updateVerified x) :=
      started.of_eq ((updateVerified_frame v x) .spoke (by decide)) ((updateVerified_frame v x) .flt (by decide))
    have tsec : ((v.updateVerified x).ok (s.refOf c 0x6E)).sec = (v.updateVerified x).sec := State.finish_sec ..
    obtain ⟨seq, magic⟩ := updateVerified_record (u := v) (x := x) (by rw [vsec]; exact word)
    have record : ((v.updateVerified x).ok (s.refOf c 0x6E)).bankRecord x.bank = (v.updateVerified x).bankRecord x.bank := by
      unfold State.bankRecord State.bankBytes
      rw [tsec]
    refine ⟨(verified.accepted_posts ready).1, fun ne => absurd rfl ne, fun _ => ⟨?_, ?_, ?_, ?_, ?_, ?_⟩⟩
    · rw [← vsec, ← seq]
      exact congrArg (fun b => u32 b 4) record
    · rw [record, magic]
    · rw [tsec, updateVerified_sec, vsec]
    · exact (State.finish_rd ..).trans (updateVerified_state v x)
    · rw [show ((v.updateVerified x).ok (s.refOf c 0x6E)).hay = (v.updateVerified x).hay from State.finish_hay .., updateVerified_hay]
      exact record_hay_congr (State.accepted_hay ..) (State.accepted_cad ..)
    · exact verified.finish_frame ((frame.mono (Covers.refl.sub rfl)).trans
        ((updateVerified_frame v x).mono (Covers.refl.sub rfl))) (by decide)
  · rw [if_neg good] at runs
    refine ⟨_, _, rfl, rfl, _, endResult_eq s x.bank, _, runs, ?_⟩
    rw [if_neg good, if_neg good]
    exact ⟨(started.accepted_posts ready).1, fun _ => started.finish_frame frame (by decide), fun zero => absurd zero good⟩

/-! ### ABORT -/

theorem updateDrop_of_updating (h : u.sec.upd ≠ none) : u.updateDrop =
    { u.wrs [(R.SEC_UPD_STATE, 0), (R.SEC_UPD_CHAN, 0), (R.SEC_UPD_RECEIVED, 0)] with sec.upd := none } :=
  if_pos (Option.isSome_iff_ne_none.mpr h)

theorem updateAbort_drops (ready : s.Ready c) (payload : c.payload = [4]) (busy : s.sec.upd ≠ none) (owner : s.rd R.SEC_UPD_CHAN = c.ch)
    (power : s.rd R.PWR_STAT_PFSEQ ≠ 1) : ∃ t, exec (.secUpdateAbort c) s = .next t ∧ s.Answers c 0x6E stOk [] t ∧
    t.sec = { s.sec with upd := none } ∧ s.Fields [(R.SEC_UPD_RECEIVED, 0), (R.SEC_UPD_CHAN, 0), (R.SEC_UPD_STATE, 0)] t ∧
    s.Frame [.regs, .spoke, .sec] t := by
  obtain ⟨x, upd⟩ := Option.ne_none_iff_exists'.mp busy
  have runs : exec (.secUpdateAbort c) s = .next ((s.begin c 0x6E).2.updateDrop.ok (s.refOf c 0x6E)) := by
    show Host.Outcome.next ((s.begin c 0x6E).2.doSecUpdateAbort (s.refOf c 0x6E) (le 1 4 ++ c.payload.drop 1)) = _
    rw [payload]
    exact congrArg Host.Outcome.next (checked_ok ((firstBad_of_length (p := [4]) rfl _).trans
      ((firstBad_of_permitted (ownerPermitted (u := (s.begin c 0x6E).2) upd owner power) []).trans rfl)))
  have dropped : (s.begin c 0x6E).2.updateDrop = _ := updateDrop_of_updating (u := (s.begin c 0x6E).2) busy
  have started : s.Started c 0x6E [] (s.begin c 0x6E).2.updateDrop := (started_begin ready).of_eq (by rw [dropped]; rfl) (by rw [dropped]; rfl)
  refine ⟨_, runs, started.answers ready, ?_, ?_, ?_⟩
  · rw [show ((s.begin c 0x6E).2.updateDrop.ok (s.refOf c 0x6E)).sec = (s.begin c 0x6E).2.updateDrop.sec from State.finish_sec ..,
      dropped]
    rfl
  · have fields : s.Fields [(R.SEC_UPD_RECEIVED, 0), (R.SEC_UPD_CHAN, 0), (R.SEC_UPD_STATE, 0)]
        (s.wrs [(R.SEC_UPD_STATE, 0), (R.SEC_UPD_CHAN, 0), (R.SEC_UPD_RECEIVED, 0)]) := State.Fields.refl.wr.wr.wr
    exact (fields.of_regs (by rw [dropped]; rfl)).of_regs (State.finish_regs ..)
  · exact started.finish_frame (State.updateDrop_frame (Covers.refl.sub rfl) (begin_frame_spoke.mono (Covers.refl.sub rfl))) (by decide)

/-! ### Refusals -/

theorem updateBegin_badLength (ready : s.Ready c) (nonempty : c.payload ≠ []) (len : c.payload.length ≠ 193) :
    s.Refuses (.secUpdateBegin c) c 0x6E stBadLength := by
  refine refuses_of_finish ready ?_
  show Host.Outcome.next ((s.begin c 0x6E).2.doSecUpdateBegin (s.refOf c 0x6E) (le 1 0 ++ c.payload.drop 1)) = _
  exact congrArg Host.Outcome.next (if_pos (by rwa [length_subRow nonempty]))

theorem updateData_badLength (ready : s.Ready c) (nonempty : c.payload ≠ []) (len : c.payload.length < 6 ∨ 4005 < c.payload.length) :
    s.Refuses (.secUpdateData c) c 0x6E stBadLength := by
  refine refuses_of_finish ready ?_
  show Host.Outcome.next ((s.begin c 0x6E).2.doSecUpdateData (s.refOf c 0x6E) (le 1 1 ++ c.payload.drop 1)) = _
  exact congrArg Host.Outcome.next (if_pos (by rwa [length_subRow nonempty]))

/-- The checks of END, ABORT and CONFIRM: one byte, and a permission. -/
theorem updateEnd_checks (c : Cmd) (s : State) (p : Bytes) : ∃ k, (s.begin c 0x6E).2.doSecUpdateEnd (s.refOf c 0x6E) p =
    (s.begin c 0x6E).2.checked (s.refOf c 0x6E) [lengthIs p 1, permitted (s.ownsUpdate c.ch && s.notInPowerFail)] k := ⟨_, rfl⟩

theorem updateAbort_checks (c : Cmd) (s : State) (p : Bytes) : ∃ k, (s.begin c 0x6E).2.doSecUpdateAbort (s.refOf c 0x6E) p =
    (s.begin c 0x6E).2.checked (s.refOf c 0x6E) [lengthIs p 1, permitted (s.ownsUpdate c.ch && s.notInPowerFail)] k := ⟨_, rfl⟩

theorem updateConfirm_checks (c : Cmd) (s : State) (p : Bytes) : ∃ k, (s.begin c 0x6E).2.doSecUpdateConfirm (s.refOf c 0x6E) p =
    (s.begin c 0x6E).2.checked (s.refOf c 0x6E) [lengthIs p 1, permitted (s.on R.SEC_STAT_TRIAL && s.notInPowerFail)] k := ⟨_, rfl⟩

/-- A row of one SUB whose checks fail is refused with the status of the first that fails. -/
theorem refuses_of_subRow {i : Instr} {op sub status : Nat} {f : State → Ref → Bytes → State} {l : List (Bool × Nat)} (ready : s.Ready c)
    (row : exec i s = .next (s.subRow c op sub f))
    (checks : ∃ k, f (s.begin c op).2 (s.refOf c op) (le 1 sub ++ c.payload.drop 1) = (s.begin c op).2.checked (s.refOf c op) l k)
    (bad : firstBad l = status) (ne : status ≠ stOk) : s.Refuses i c op status := by
  obtain ⟨k, hk⟩ := checks
  refine refuses_of_finish ready (row.trans (congrArg Host.Outcome.next (hk.trans (checked_refused bad ne))))

theorem updateByte_badLength (ready : s.Ready c) (nonempty : c.payload ≠ []) (len : c.payload.length ≠ 1) :
    s.Refuses (.secUpdateEnd c) c 0x6E stBadLength ∧ s.Refuses (.secUpdateConfirm c) c 0x6E stBadLength ∧
      s.Refuses (.secUpdateAbort c) c 0x6E stBadLength := by
  have bad : ∀ v l, firstBad (lengthIs (le 1 v ++ c.payload.drop 1) 1 :: l) = stBadLength := fun v l =>
    firstBad_of_badLength (by rwa [length_subRow nonempty]) l
  exact ⟨refuses_of_subRow ready rfl (updateEnd_checks c s _) (bad ..) (by decide),
    refuses_of_subRow ready rfl (updateConfirm_checks c s _) (bad ..) (by decide),
    refuses_of_subRow ready rfl (updateAbort_checks c s _) (bad ..) (by decide)⟩

theorem not_ownerPermitted {ch : Nat} (h : s.sec.upd = none ∨ s.rd R.SEC_UPD_CHAN ≠ ch ∨ s.rd R.PWR_STAT_PFSEQ = 1) :
    (s.ownsUpdate ch && s.notInPowerFail) = false := by
  unfold State.ownsUpdate State.updating State.notInPowerFail
  rcases h with idle | other | power
  · rw [idle]
    rfl
  · rw [beq_false_of_ne other, Bool.and_false, Bool.false_and]
  · rw [State.on_iff.mpr power, Bool.not_true, Bool.and_false]

theorem updateOwned_refused (ready : s.Ready c) (len : c.payload.length = 1)
    (other : s.sec.upd = none ∨ s.rd R.SEC_UPD_CHAN ≠ c.ch ∨ s.rd R.PWR_STAT_PFSEQ = 1) :
    s.Refuses (.secUpdateEnd c) c 0x6E stNotPermitted ∧ s.Refuses (.secUpdateAbort c) c 0x6E stNotPermitted := by
  have nonempty : c.payload ≠ [] := fun e => by rw [e] at len; exact absurd len (by decide)
  have bad : ∀ v, firstBad [lengthIs (le 1 v ++ c.payload.drop 1) 1, permitted (s.ownsUpdate c.ch && s.notInPowerFail)] = stNotPermitted :=
    fun v => (firstBad_of_length (by rwa [length_subRow nonempty]) _).trans (firstBad_of_forbidden (not_ownerPermitted other) _)
  exact ⟨refuses_of_subRow ready rfl (updateEnd_checks c s _) (bad _) (by decide),
    refuses_of_subRow ready rfl (updateAbort_checks c s _) (bad _) (by decide)⟩

theorem updateConfirm_refused (ready : s.Ready c) (len : c.payload.length = 1)
    (other : s.rd R.SEC_STAT_TRIAL ≠ 1 ∨ s.rd R.PWR_STAT_PFSEQ = 1) : s.Refuses (.secUpdateConfirm c) c 0x6E stNotPermitted := by
  have nonempty : c.payload ≠ [] := fun e => by rw [e] at len; exact absurd len (by decide)
  have forbidden : (s.on R.SEC_STAT_TRIAL && s.notInPowerFail) = false := by
    unfold State.notInPowerFail
    rcases other with trial | power
    · rw [on_eq_false_iff.mpr trial, Bool.false_and]
    · rw [State.on_iff.mpr power, Bool.not_true, Bool.and_false]
  exact refuses_of_subRow ready rfl (updateConfirm_checks c s _)
    ((firstBad_of_length (by rwa [length_subRow nonempty]) _).trans (firstBad_of_forbidden forbidden _)) (by decide)

theorem updateBegin_refused (ready : s.Ready c) (len : c.payload.length = 193) (good : s.headerResult (sub c.payload 1 192) = 0)
    (busy : s.sec.upd ≠ none ∨ s.rd R.SEC_STAT_TRIAL = 1 ∨ s.rd R.PWR_STAT_PFSEQ = 1) :
    s.Refuses (.secUpdateBegin c) c 0x6E stNotPermitted := by
  have nonempty : c.payload ≠ [] := fun e => by rw [e] at len; exact absurd len (by decide)
  have forbidden : (!s.updating && !s.on R.SEC_STAT_TRIAL && s.notInPowerFail) = false := by
    unfold State.updating State.notInPowerFail
    rcases busy with upd | trial | power
    · rw [Option.isSome_iff_ne_none.mpr upd]
      rfl
    · rw [State.on_iff.mpr trial, Bool.not_true, Bool.and_false, Bool.false_and]
    · rw [State.on_iff.mpr power, Bool.not_true, Bool.and_false]
  refine refuses_of_finish ready ?_
  show Host.Outcome.next ((s.begin c 0x6E).2.doSecUpdateBegin (s.refOf c 0x6E) (le 1 0 ++ c.payload.drop 1)) = _
  have goodHere : ¬ (s.begin c 0x6E).2.headerResult (sub c.payload 1 192) ≠ 0 := not_not.mpr good
  unfold State.doSecUpdateBegin
  dsimp only
  rw [length_subRow nonempty, if_neg (not_not.mpr len), sub_subRow 0 c.payload 0 192, if_neg goodHere]
  exact congrArg Host.Outcome.next (checked_refused (firstBad_of_forbidden forbidden _) (by decide))

end Sys2Proof.Machine
end

section
/-!
PROOFS. The trial and the choice of the running bank (R409, R412, 16_security.md), and the obligation on updates.
-/

namespace Sys2Proof.Machine

variable {s t u : State} {c : Cmd}

/-! ### The security record of a trial's end is asked for (R412) -/

/-- The page of the security record that ends a trial. -/
def State.trialPage (s : State) (confirmed : Bool) : Nat × Bytes :=
  s.secRecordPage (secRecord (s.rd R.SEC_STAT_CMDSEQ) (s.trialValues confirmed).1 (s.trialValues confirmed).2.1 (s.trialValues confirmed).2.2)

/-- The first step of a trial's end is to ask for that page. -/
theorem secNext_of_trial {o : SecOp} {confirmed : Bool} (act : o.act = .trial confirmed) (unsigned_ : o.cmdseq = none)
    (phase : o.phase = 0) (due : s.rd R.SEC_STAT_TRIAL = 1 ∨ s.sec.skipped.isSome = true) :
    s.secNext o = s.secAsk o (s.trialPage confirmed).1 (s.trialPage confirmed).2 := by
  have goes : (s.on R.SEC_STAT_TRIAL || s.sec.skipped.isSome) = true := by rwa [Bool.or_eq_true, State.on_iff]
  unfold State.secNext
  rw [unsigned_]
  unfold State.secAction
  rw [act]
  dsimp only
  rw [if_pos goes]
  unfold State.secPageOrEffect
  rw [act, phase]
  rfl

/-- A trial's end that starts while no operation runs waits for its page commit. -/
theorem secStart_trial {cmd : Option Ref} {confirmed : Bool} (idle : s.sec.ops = []) (unburnt : s.sec.burn = none)
    (gate : s.gatesClosed = false) (due : s.rd R.SEC_STAT_TRIAL = 1) : s.secStart cmd none (.trial confirmed) = { s with
      sec.nextId := s.sec.nextId + 1, sec.ops := [⟨s.sec.nextId, cmd, .trial confirmed, none, 0, 1⟩], hay.nextId := s.hay.nextId + 1
      hay.reqs := s.hay.reqs ++
        [⟨s.hay.nextId, 249, .sec (s.trialPage confirmed).1 (s.trialPage confirmed).2 s.sec.nextId, s.ticks, false⟩] } :=
  secStart_asks idle unburnt gate (secNext_of_trial rfl rfl rfl (.inl due))

theorem updateConfirm_asks (ready : s.Ready c) (payload : c.payload = [3]) (trial : s.rd R.SEC_STAT_TRIAL = 1)
    (power : s.rd R.PWR_STAT_PFSEQ ≠ 1) (gate : s.gatesClosed = false) (idle : s.sec.ops = []) (unburnt : s.sec.burn = none) :
    ∃ p : Nat × Bytes, p = s.secRecordPage (secRecord (s.rd R.SEC_STAT_CMDSEQ)
      (if s.sec.commitSvn = true then s.rd R.SEC_BOOT_SVN else s.rd R.SEC_BOOT_MIN_SVN) s.sec.runSeq s.sec.reject) ∧
    ∃ t, exec (.secUpdateConfirm c) s = .next t ∧ s.Holds c 0x6E t ∧ t.sec = { s.sec with
      nextId := s.sec.nextId + 1, ops := [⟨s.sec.nextId, some (s.refOf c 0x6E), .trial true, none, 0, 1⟩] } ∧
    t.hay = { s.hay with
      nextId := s.hay.nextId + 1, reqs := s.hay.reqs ++ [⟨s.hay.nextId, 249, .sec p.1 p.2 s.sec.nextId, s.ticks, false⟩] } ∧
    s.Frame [.spoke, .hay, .sec] t := by
  have good : firstBad [lengthIs [3] 1, permitted (s.on R.SEC_STAT_TRIAL && s.notInPowerFail)] = stOk := by
    unfold State.notInPowerFail
    rw [State.on_iff.mpr trial, on_eq_false_iff.mpr power]
    rfl
  have runs : exec (.secUpdateConfirm c) s =
      .next ((s.begin c 0x6E).2.secStart (some (s.refOf c 0x6E)) none (.trial true)) := by
    show Host.Outcome.next ((s.begin c 0x6E).2.doSecUpdateConfirm (s.refOf c 0x6E) (le 1 3 ++ c.payload.drop 1)) = _
    rw [payload]
    exact congrArg Host.Outcome.next (checked_ok (s := (s.begin c 0x6E).2) good)
  rw [secStart_trial (s := (s.begin c 0x6E).2) idle unburnt gate trial] at runs
  refine ⟨s.trialPage true, rfl, _, runs, holds_of_begin ready rfl, rfl, rfl, ?_⟩
  have started : s.Frame [.spoke, .hay, .sec] (s.begin c 0x6E).2 := begin_frame_spoke.mono (Covers.refl.sub rfl)
  exact started.hay_sec (by decide) (by decide)

theorem exec_trialExpire_of_due (trial : s.rd R.SEC_STAT_TRIAL = 1) (left : s.rd R.SEC_UPD_TRIAL_LEFT = 0) (idle : s.sec.ops = []) :
    exec .trialExpire s = .next (s.secStart none none (.trial false)) := by
  refine congrArg Host.Outcome.next (if_pos ?_)
  rw [State.on_iff.mpr trial, left, idle]
  rfl

theorem trialExpire_asks (trial : s.rd R.SEC_STAT_TRIAL = 1) (left : s.rd R.SEC_UPD_TRIAL_LEFT = 0) (gate : s.gatesClosed = false)
    (idle : s.sec.ops = []) (unburnt : s.sec.burn = none) (kept : s.sec.skipped = none) :
    ∃ p : Nat × Bytes, p = s.secRecordPage (secRecord (s.rd R.SEC_STAT_CMDSEQ) (s.rd R.SEC_BOOT_MIN_SVN) s.sec.confirmed (some s.sec.runSeq)) ∧
    ∃ t, exec .trialExpire s = .next t ∧ t.sec = { s.sec with nextId := s.sec.nextId + 1, ops := [⟨s.sec.nextId, none, .trial false, none, 0, 1⟩] } ∧
    t.hay = { s.hay with
      nextId := s.hay.nextId + 1, reqs := s.hay.reqs ++ [⟨s.hay.nextId, 249, .sec p.1 p.2 s.sec.nextId, s.ticks, false⟩] } ∧ s.Frame [.hay, .sec] t := by
  have page : s.trialPage false =
      s.secRecordPage (secRecord (s.rd R.SEC_STAT_CMDSEQ) (s.rd R.SEC_BOOT_MIN_SVN) s.sec.confirmed (some s.sec.runSeq)) := by
    unfold State.trialPage State.trialValues
    rw [kept]
    rfl
  have runs := exec_trialExpire_of_due trial left idle
  rw [secStart_trial idle unburnt gate trial] at runs
  exact ⟨_, page, _, runs, rfl, rfl, State.Frame.refl.hay_sec (by decide) (by decide)⟩

theorem trialExpire_idle (h : s.rd R.SEC_STAT_TRIAL ≠ 1 ∨ s.rd R.SEC_UPD_TRIAL_LEFT ≠ 0) : exec .trialExpire s = .next s := by
  refine congrArg Host.Outcome.next (if_neg ?_)
  rw [Bool.and_eq_true, Bool.and_eq_true, State.on_iff, beq_iff_eq]
  rintro ⟨⟨trial, left⟩, -⟩
  exact h.elim (absurd trial) (absurd left)

/-! ### The end of a trial (R412) -/

/-- The trial is over: its fields, its memory and its record. -/
theorem trialEnded_spec (kept : s.sec.skipped = none) (confirmed : Bool) :
    (s.trialEnded confirmed).sec = { s.sec with
      confirmed := (s.trialValues confirmed).2.1, reject := (s.trialValues confirmed).2.2, trials := 0 } ∧
    s.Fields [(R.SEC_UPD_STATE, 0), (R.SEC_UPD_TRIAL_LEFT, 0), (R.SEC_STAT_TRIAL, 0), (R.SEC_BOOT_MIN_SVN, (s.trialValues confirmed).1)]
      (s.trialEnded confirmed) ∧
    (s.trialEnded confirmed).hay =
      (s.record 2 0x14 (le 1 (if confirmed then 2 else 3) ++ le 1 (s.rd R.SEC_BOOT_BANK) ++ le 1 (s.rd R.SEC_BOOT_SVN))).hay := by
  have fields : s.Fields [(R.SEC_UPD_STATE, 0), (R.SEC_UPD_TRIAL_LEFT, 0), (R.SEC_STAT_TRIAL, 0),
      (R.SEC_BOOT_MIN_SVN, (s.trialValues confirmed).1)] ((s.wr R.SEC_BOOT_MIN_SVN (s.trialValues confirmed).1).wrs
        [(R.SEC_STAT_TRIAL, 0), (R.SEC_UPD_TRIAL_LEFT, 0), (R.SEC_UPD_STATE, 0)]) := State.Fields.refl.wr.wr.wr.wr
  unfold State.trialEnded State.updateRecord
  rw [kept]
  simp only [Option.isSome_none, Bool.false_eq_true, if_false]
  refine ⟨?_, ?_, ?_⟩
  · rw [State.secNote_sec, State.record_sec]
    exact congrArg (fun x => { s.sec with
      confirmed := (s.trialValues confirmed).2.1, reject := (s.trialValues confirmed).2.2, trials := 0, skipped := x }) kept.symm
  · refine fields.of_regs ?_
    rw [State.secNote_regs, State.record_regs]
    rfl
  · rw [State.secNote_hay]
    exact record_hay_congr rfl rfl

/-- The step of an only operation that ends a trial, its page committed: it is dropped, its command answered, the trial over. -/
theorem secAdvance_of_trial {o : SecOp} {confirmed : Bool} (one : s.sec.ops = [o]) (act : o.act = .trial confirmed)
    (unsigned_ : o.cmdseq = none) (phase : o.phase = 1) (asked : o.asked = 1) (unburnt : s.sec.burn = none)
    (trial : s.rd R.SEC_STAT_TRIAL = 1) (kept : s.sec.skipped = none) : s.secAdvance = State.secLoop 1
      (if confirmed then (({ s with sec.ops := [] } : State).finish? o.cmd stOk).trialEnded confirmed
      else ((({ s with sec.ops := [] } : State).finish? o.cmd stOk).trialEnded confirmed).hubFault 0x68 6
        (((({ s with sec.ops := [] } : State).finish? o.cmd stOk).trialEnded confirmed).rd R.SEC_BOOT_BANK) 1 none 0x5) := by
  have goes : (s.on R.SEC_STAT_TRIAL || s.sec.skipped.isSome) = true := by rw [State.on_iff.mpr trial]; rfl
  have dropped : s.secDrop o = { s with sec.ops := [] } := by
    unfold State.secDrop
    rw [one, List.filter_cons_of_neg (by simp)]
    rfl
  have skip : (({ s with sec.ops := [] } : State).finish? o.cmd stOk).sec.skipped.isSome = false := by
    rw [State.finish?_sec, kept]
    rfl
  unfold State.secAdvance
  rw [one]
  refine (secLoop_of_due one unburnt (asked.trans phase.symm) 1).trans (congrArg (State.secLoop 1) ?_)
  unfold State.secNext
  rw [unsigned_]
  unfold State.secAction
  rw [act]
  dsimp only
  rw [if_pos goes]
  unfold State.secPageOrEffect
  rw [act, phase]
  show State.secEffect s o = _
  unfold State.secEffect
  rw [act]
  dsimp only
  rw [dropped, skip, Bool.or_false]

theorem trialValues_congr (sec : t.sec.confirmed = s.sec.confirmed ∧ t.sec.runSeq = s.sec.runSeq ∧ t.sec.reject = s.sec.reject ∧
    t.sec.skipped = s.sec.skipped ∧ t.sec.commitSvn = s.sec.commitSvn) (regs : t.regs = s.regs) (confirmed : Bool) :
    t.trialValues confirmed = s.trialValues confirmed := by
  obtain ⟨conf, run, rej, skip, commit⟩ := sec
  unfold State.trialValues
  rw [conf, run, rej, skip, commit, rd_congr regs, rd_congr regs]

theorem trialConfirmed {o : SecOp} (one : s.sec.ops = [o]) (act : o.act = .trial true) (unsigned_ : o.cmdseq = none) (phase : o.phase = 1)
    (asked : o.asked = 1) (unburnt : s.sec.burn = none) (trial : s.rd R.SEC_STAT_TRIAL = 1) (kept : s.sec.skipped = none) :
    s.secAdvance.sec = { s.sec with ops := [], confirmed := s.sec.runSeq, trials := 0 } ∧
    s.Fields [(R.SEC_UPD_STATE, 0), (R.SEC_UPD_TRIAL_LEFT, 0), (R.SEC_STAT_TRIAL, 0),
      (R.SEC_BOOT_MIN_SVN, if s.sec.commitSvn = true then s.rd R.SEC_BOOT_SVN else s.rd R.SEC_BOOT_MIN_SVN)] s.secAdvance ∧
    s.secAdvance.hay = (s.record 2 0x14 (le 1 2 ++ le 1 (s.rd R.SEC_BOOT_BANK) ++ le 1 (s.rd R.SEC_BOOT_SVN))).hay := by
  let v : State := ({ s with sec.ops := [] } : State).finish? o.cmd stOk
  have vsec : v.sec = { s.sec with ops := [] } := State.finish?_sec ..
  have vregs : v.regs = s.regs := State.finish?_regs ..
  have vhay : v.hay = s.hay := State.finish?_hay ..
  have vcad : v.cad = s.cad := State.finish?_cad ..
  obtain ⟨sec, fields, hay⟩ := trialEnded_spec (s := v) (by rw [vsec]; exact kept) true
  rw [trialValues_congr (s := s) (by rw [vsec]; exact ⟨rfl, rfl, rfl, rfl, rfl⟩) vregs] at sec fields
  have step : s.secAdvance = v.trialEnded true := by
    rw [secAdvance_of_trial one act unsigned_ phase asked unburnt trial kept, if_pos rfl]
    exact secLoop_of_empty (by rw [sec, vsec]) 1
  rw [step]
  refine ⟨?_, fields.of_base vregs, ?_⟩
  · rw [sec, vsec]
    rfl
  · rw [hay, rd_congr vregs, rd_congr vregs]
    exact record_hay_congr vhay vcad

theorem trialRejected {o : SecOp} (one : s.sec.ops = [o]) (act : o.act = .trial false) (noCmd : o.cmd = none) (unsigned_ : o.cmdseq = none)
    (phase : o.phase = 1) (asked : o.asked = 1) (unburnt : s.sec.burn = none) (trial : s.rd R.SEC_STAT_TRIAL = 1)
    (kept : s.sec.skipped = none) : ∃ u, u = { s with sec.ops := [] }.trialEnded false ∧
    u.sec = { s.sec with ops := [], reject := some s.sec.runSeq, trials := 0 } ∧ u.rd R.SEC_STAT_TRIAL = 0 ∧
    u.hay = (s.record 2 0x14 (le 1 3 ++ le 1 (s.rd R.SEC_BOOT_BANK) ++ le 1 (s.rd R.SEC_BOOT_SVN))).hay ∧
    s.secAdvance = u.hubFault 0x68 6 (s.rd R.SEC_BOOT_BANK) 1 none 0x5 := by
  let v : State := { s with sec.ops := [] }
  obtain ⟨sec, fields, hay⟩ := trialEnded_spec (s := v) kept false
  have values : v.trialValues false = (s.rd R.SEC_BOOT_MIN_SVN, s.sec.confirmed, some s.sec.runSeq) := by
    unfold State.trialValues
    rw [show v.sec.skipped = none from kept]
    rfl
  rw [values] at sec fields
  have bank : (v.trialEnded false).rd R.SEC_BOOT_BANK = s.rd R.SEC_BOOT_BANK := fields _
  refine ⟨_, rfl, sec, fields _, hay.trans (record_hay_congr rfl rfl), ?_⟩
  rw [secAdvance_of_trial one act unsigned_ phase asked unburnt trial kept, if_neg Bool.false_ne_true, noCmd]
  show State.secLoop 1 ((v.trialEnded false).hubFault 0x68 6 ((v.trialEnded false).rd R.SEC_BOOT_BANK) 1 none 0x5) = _
  rw [bank]
  exact secLoop_of_empty (by rw [State.hubFault_sec, sec]) 1

/-! ### The running bank (R409) -/

/-- Every bank that SECURE_BOOT looks at is one of the two, with an intact record. -/
theorem mem_bankOrder {b : Nat} (h : b ∈ s.bankOrder) : b ∈ List.range 2 ∧ recordIntact (s.bankRecord b) = true := by
  unfold State.bankOrder at h
  obtain ⟨listed, intact⟩ := List.mem_filter.mp h
  refine ⟨?_, intact⟩
  split at listed <;> simp only [List.mem_cons, List.not_mem_nil, or_false] at listed <;> rw [List.mem_range] <;> omega

/-- The banks that ROM tries, in order. -/
def State.bootBanks (s : State) : List Nat := s.bankOrder.filter fun b => !s.bankSkipped b

/-- The bank that runs. -/
def State.bootChoice (s : State) : Option Nat :=
  if s.sec.flashBad then none else s.bootBanks.find? fun b => s.bankResult b == 0

/-- SECURE_BOOT when no bank runs. -/
def State.bootedNone (s : State) (skipped : Option Nat) (result : Nat) : State :=
  { ({ s with sec.skipped := skipped } : State).wrs [(R.SEC_BOOT_PATCH, 0), (R.SEC_BOOT_BANK, 0), (R.SEC_BOOT_RESULT, result),
    (R.SEC_BOOT_SVN, 0), (R.SEC_BOOT_DIGEST, 0), (R.SEC_STAT_PATCH_OK, 0)] with sec.runSeq := 0, sec.commitSvn := false }

/-- SECURE_BOOT when a bank runs. -/
def State.bootedBank (s : State) (skipped : Option Nat) (result b seq svn digest : Nat) (commit : Bool) : State :=
  ({ s with sec.skipped := skipped, sec.runSeq := seq, sec.commitSvn := commit } : State).wrs [(R.SEC_BOOT_PATCH, 1),
    (R.SEC_BOOT_BANK, b), (R.SEC_BOOT_RESULT, result), (R.SEC_BOOT_SVN, svn), (R.SEC_BOOT_DIGEST, digest), (R.SEC_STAT_PATCH_OK, 1)]

theorem bootedNone_spec (s : State) (skipped : Option Nat) (result : Nat) : (s.bootedNone skipped result).rd R.SEC_BOOT_PATCH = 0 ∧
    (s.bootedNone skipped result).rd R.SEC_STAT_PATCH_OK = 0 ∧ (s.bootedNone skipped result).rd R.SEC_BOOT_RESULT = result ∧
    (s.bootedNone skipped result).sec.runSeq = 0 := by
  have fields : s.Fields [(R.SEC_STAT_PATCH_OK, 0), (R.SEC_BOOT_DIGEST, 0), (R.SEC_BOOT_SVN, 0), (R.SEC_BOOT_RESULT, result),
      (R.SEC_BOOT_BANK, 0), (R.SEC_BOOT_PATCH, 0)] (s.bootedNone skipped result) := State.Fields.refl.wr.wr.wr.wr.wr.wr.of_regs rfl
  exact ⟨fields _, fields _, fields _, rfl⟩

theorem bootedBank_spec (s : State) (skipped : Option Nat) (result b seq svn digest : Nat) (commit : Bool) :
    (s.bootedBank skipped result b seq svn digest commit).rd R.SEC_BOOT_BANK = b ∧
    (s.bootedBank skipped result b seq svn digest commit).sec.runSeq = seq ∧
    (s.bootedBank skipped result b seq svn digest commit).rd R.SEC_BOOT_SVN = svn := by
  have fields : s.Fields [(R.SEC_STAT_PATCH_OK, 1), (R.SEC_BOOT_DIGEST, digest), (R.SEC_BOOT_SVN, svn), (R.SEC_BOOT_RESULT, result),
      (R.SEC_BOOT_BANK, b), (R.SEC_BOOT_PATCH, 1)] (s.bootedBank skipped result b seq svn digest commit) :=
    State.Fields.refl.wr.wr.wr.wr.wr.wr.of_regs rfl
  exact ⟨fields _, rfl, fields _⟩

/-- RESULT of SECURE_BOOT: of the first bank that ROM tries. -/
def State.bootResult (s : State) : Nat := if s.sec.flashBad then 7 else (s.bootBanks.head?.map s.bankResult).getD 1

theorem secureBoot_of_none (none_ : s.bootChoice = none) : ∃ skipped, s.secureBoot = s.bootedNone skipped s.bootResult := by
  unfold State.bootChoice State.bootBanks at none_
  unfold State.secureBoot State.bootResult State.bootBanks
  dsimp only
  split
  · exact ⟨_, rfl⟩
  · next b chosen => exact absurd (none_.symm.trans chosen) (by simp)

theorem secureBoot_of_some {b : Nat} (chosen : s.bootChoice = some b) : ∃ skipped digest commit,
    s.secureBoot = s.bootedBank skipped s.bootResult b (s.bankSeq b) (u8 (s.bankHeader b) 6) digest commit := by
  unfold State.bootChoice State.bootBanks at chosen
  unfold State.secureBoot State.bootResult State.bootBanks
  dsimp only
  split
  · next none_ => exact absurd (chosen.symm.trans none_) (by simp)
  · next b' chosen' =>
    obtain rfl : b = b' := Option.some.inj (chosen.symm.trans chosen')
    exact ⟨_, _, _, rfl⟩

/-- With a failed flash, or no intact record, no bank runs. -/
theorem secureBoot_noBank (h : s.sec.flashBad = true ∨ (∀ b ∈ List.range 2, recordIntact (s.bankRecord b) = false)) :
    s.secureBoot.rd R.SEC_BOOT_PATCH = 0 ∧ s.secureBoot.rd R.SEC_STAT_PATCH_OK = 0 ∧
    s.secureBoot.rd R.SEC_BOOT_RESULT = (if s.sec.flashBad = true then 7 else 1) ∧ s.secureBoot.sec.runSeq = 0 := by
  have empty : s.sec.flashBad ≠ true → s.bootBanks = [] := fun sound => by
    refine List.eq_nil_iff_forall_not_mem.mpr fun b hb => ?_
    obtain ⟨two, intact⟩ := mem_bankOrder (List.mem_filter.mp hb).1
    rw [h.resolve_left sound b two] at intact
    exact Bool.false_ne_true intact
  have none_ : s.bootChoice = none := by
    unfold State.bootChoice
    split
    · rfl
    · next sound => rw [empty sound]; rfl
  obtain ⟨skipped, booted⟩ := secureBoot_of_none none_
  obtain ⟨patch, ok, result, run⟩ := bootedNone_spec s skipped s.bootResult
  rw [booted]
  unfold State.bootResult at result ⊢
  refine ⟨patch, ok, result.trans ?_, run⟩
  by_cases bad : s.sec.flashBad = true
  · rw [if_pos bad, if_pos bad]
  · rw [if_neg bad, if_neg bad, empty bad]
    rfl

/-- A bank that runs is intact, is not skipped and passes every check. -/
theorem secureBoot_bank (s : State) : s.secureBoot.rd R.SEC_BOOT_PATCH ≠ 1 ∨ ∃ b ∈ List.range 2, s.secureBoot.rd R.SEC_BOOT_BANK = b ∧
    recordIntact (s.bankRecord b) = true ∧ s.bankResult b = 0 ∧ s.sec.reject ≠ some (s.bankSeq b) ∧
    ¬(s.sec.confirmed < s.bankSeq b ∧ 3 ≤ s.sec.trials) ∧ s.secureBoot.sec.runSeq = s.bankSeq b ∧
    s.secureBoot.rd R.SEC_BOOT_SVN = u8 (s.bankHeader b) 6 := by
  cases chosen : s.bootChoice with
  | none =>
    obtain ⟨skipped, booted⟩ := secureBoot_of_none chosen
    exact .inl (by rw [booted, (bootedNone_spec ..).1]; decide)
  | some b =>
    obtain ⟨skipped, digest, commit, booted⟩ := secureBoot_of_some chosen
    obtain ⟨bank, run, svn⟩ := bootedBank_spec s skipped s.bootResult b (s.bankSeq b) (u8 (s.bankHeader b) 6) digest commit
    rw [← booted] at bank run svn
    have found : s.bootBanks.find? (fun b => s.bankResult b == 0) = some b := by
      unfold State.bootChoice at chosen
      split at chosen
      · exact absurd chosen (by simp)
      · exact chosen
    obtain ⟨listed, notSkipped⟩ := List.mem_filter.mp (List.mem_of_find?_eq_some found)
    obtain ⟨two, intact⟩ := mem_bankOrder listed
    have passes : s.bankResult b = 0 := beq_iff_eq.mp (List.find?_some (p := fun b => s.bankResult b == 0) found)
    unfold State.bankSkipped State.trialFailed at notSkipped
    simp only [Bool.not_eq_true', Bool.or_eq_false_iff, Bool.and_eq_false_iff, decide_eq_false_iff_not] at notSkipped
    obtain ⟨notRejected, notFailed⟩ := notSkipped
    exact .inr ⟨b, two, bank, intact, passes, notRejected, fun ⟨above, often⟩ => notFailed.elim (absurd above) (absurd often), run, svn⟩

/-- Settles O58: every SUB of SEC_UPDATE, the trial's end, and the choice of the running bank. -/
theorem updates : Obligations.Updates := by
  unfold Obligations.Updates
  exact ⟨fun s c h x ready payload len good idle trial power sound => updateBegin_begins ready payload len good idle trial power sound x,
    fun s c h => updateBegin_badHeader, headerResult_layout, fun s h => headerResult_of_ok, fun s c u d => updateData_writes,
    fun s c => updateData_wrongOffset, fun s c u => updateEnd_verdict, fun s c => updateConfirm_asks, fun s c => updateAbort_drops,
    fun s c ready nonempty => ⟨updateBegin_badLength ready nonempty, updateData_badLength ready nonempty,
      updateByte_badLength ready nonempty, updateOwned_refused ready, updateConfirm_refused ready⟩,
    fun s c => updateBegin_refused, fun s => trialExpire_asks, fun s => trialExpire_idle, fun s o => trialConfirmed,
    fun s o => trialRejected, fun s => secureBoot_noBank, secureBoot_bank⟩

end Sys2Proof.Machine
end

section
/-!
PROOFS. SEC_KEY and SEC_LIFECYCLE as commands (R400, R401, R404, R405, 16_security.md): what is accepted, what is asked for first, and
what is refused.
-/

namespace Sys2Proof.Machine

variable {s t u : State} {c : Cmd} {op : Nat}

/-! ### An accepted command asks for the security record first (R405) -/

theorem recordWithSeq_congr (sec : t.sec.confirmed = s.sec.confirmed ∧ t.sec.reject = s.sec.reject) (regs : t.regs = s.regs) (q : Nat) :
    t.recordWithSeq q = s.recordWithSeq q := by
  unfold State.recordWithSeq
  rw [sec.1, sec.2, rd_congr regs]

/-- The first step of an owner-signed operation is to ask for the security record with the new CMDSEQ. -/
theorem secNext_of_signed {o : SecOp} {q : Nat} (signed_ : o.cmdseq = some q) (phase : o.phase = 0) :
    s.secNext o = s.secAsk o (s.secRecordPage (s.recordWithSeq q)).1 (s.secRecordPage (s.recordWithSeq q)).2 := by
  unfold State.secNext
  rw [signed_]
  exact if_pos phase

theorem secStart_signed {cmd : Option Ref} {q : Nat} {act : SecAct} (idle : s.sec.ops = []) (unburnt : s.sec.burn = none)
    (gate : s.gatesClosed = false) : s.secStart cmd (some q) act = { s with
      sec.nextId := s.sec.nextId + 1, sec.ops := [⟨s.sec.nextId, cmd, act, some q, 0, 1⟩], hay.nextId := s.hay.nextId + 1
      hay.reqs := s.hay.reqs ++ [⟨s.hay.nextId, 249, .sec (s.secRecordPage (s.recordWithSeq q)).1 (s.secRecordPage (s.recordWithSeq q)).2
        s.sec.nextId, s.ticks, false⟩] } :=
  secStart_asks idle unburnt gate (secNext_of_signed rfl rfl)

/-- An owner-signed command that is accepted: ACCEPTED, and the security record is asked for. -/
theorem signed_accepted {q : Nat} {act : SecAct} (ready : s.Ready c) (idle : s.sec.ops = []) (unburnt : s.sec.burn = none)
    (gate : s.gatesClosed = false) : ∃ t, ((s.begin c op).2.accepted (s.refOf c op)).secStart (some (s.refOf c op)) (some q) act = t ∧
    s.Accepts c op t ∧ t.sec = { s.sec with
      nextId := s.sec.nextId + 1, ops := [⟨s.sec.nextId, some (s.refOf c op), act, some q, 0, 1⟩] } ∧
    t.hay = { s.hay with
      nextId := s.hay.nextId + 1
      reqs := s.hay.reqs ++ [⟨s.hay.nextId, 249, .sec (s.secRecordPage (s.recordWithSeq q)).1 (s.secRecordPage (s.recordWithSeq q)).2
        s.sec.nextId, s.ticks, false⟩] } ∧ s.Frame [.spoke, .hay, .sec] t := by
  let v := (s.begin c op).2.accepted (s.refOf c op)
  have vsec : v.sec = s.sec := State.accepted_sec ..
  have vhay : v.hay = s.hay := State.accepted_hay ..
  have vregs : v.regs = s.regs := State.accepted_regs ..
  have vticks : v.ticks = s.ticks := by
    unfold State.ticks
    rw [show v.cad = s.cad from State.accepted_cad ..]
  have page : v.secRecordPage (v.recordWithSeq q) = s.secRecordPage (s.recordWithSeq q) := by
    rw [recordWithSeq_congr (by rw [vsec]; exact ⟨rfl, rfl⟩) vregs, secRecordPage_congr vhay]
  have started := secStart_signed (s := v) (cmd := some (s.refOf c op)) (q := q) (act := act) (by rw [vsec, idle]) (by rw [vsec, unburnt])
    (by unfold State.gatesClosed State.on; rw [rd_congr vregs]; exact gate)
  have frame : s.Frame [.spoke, .hay, .sec] v :=
    State.accepted_frame (Covers.refl.sub rfl) (begin_frame_spoke.mono (Covers.refl.sub rfl))
  refine ⟨_, started, accepts_of_begin ready rfl, ?_, ?_, frame.hay_sec (by decide) (by decide)⟩
  · dsimp only
    rw [vsec]
  · dsimp only
    rw [page, vhay, vsec, vticks]

/-! ### The checks of an owner-signed command -/

/-- A payload that begins with its row's byte is the row's payload. -/
theorem subRow_self {p : Bytes} {v : Nat} (h : p.take 1 = le 1 v) : le 1 v ++ p.drop 1 = p := h ▸ List.take_append_drop 1 p

theorem keysUsable_of (h : s.rd R.SEC_STAT_LIFECYCLE = 1 ∨ s.rd R.SEC_STAT_LIFECYCLE = 2) : s.keysUsable = true := by
  unfold State.keysUsable State.lifecycle
  rcases h with h | h <;> rw [h] <;> rfl

theorem not_keysUsable_of (h : s.rd R.SEC_STAT_LIFECYCLE = 0 ∨ s.rd R.SEC_STAT_LIFECYCLE = 3) : s.keysUsable = false := by
  unfold State.keysUsable State.lifecycle
  rcases h with h | h <;> rw [h] <;> rfl

theorem notInPowerFail_of (h : s.rd R.PWR_STAT_PFSEQ ≠ 1) : s.notInPowerFail = true := by
  unfold State.notInPowerFail
  rw [on_eq_false_iff.mpr h]
  rfl

theorem inPowerFail_of (h : s.rd R.PWR_STAT_PFSEQ = 1) : s.notInPowerFail = false := by
  unfold State.notInPowerFail
  rw [State.on_iff.mpr h]
  rfl

/-- With its parameters good and its state permitted, a SEC_KEY is judged by its signature alone. -/
theorem keyChecks_of_good {r : Ref} {p : Bytes} {n : Nat} {slotOk : Bool} (len : p.length = n) (slot : slotOk = true)
    (use : u8 p 2 = 0 ∨ 2 ≤ u8 p 1 ∧ u8 p 1 ≤ 5) (usable : s.keysUsable = true) (power : s.notInPowerFail = true) :
    firstBad (lengthIs p n :: s.keyChecks r p slotOk) = if s.ownerSigned r.op p then stOk else stAuthFail := by
  have params : (!slotOk || (u8 p 2 != 0 && !decide (2 ≤ u8 p 1 ∧ u8 p 1 ≤ 5))) = false := by
    rw [slot]
    rcases use with zero | owner
    · rw [zero]
      rfl
    · rw [decide_eq_true owner, Bool.not_true, Bool.and_false]
      rfl
  unfold State.keyChecks
  dsimp only
  rw [firstBad_of_length len, firstBad_of_param params, usable, power, Bool.and_true, firstBad_of_permitted rfl]
  cases s.ownerSigned r.op p <;> rfl

theorem keyChecks_of_badParam {r : Ref} {p : Bytes} {n : Nat} {slotOk : Bool} (len : p.length = n)
    (bad : slotOk = false ∨ u8 p 2 ≠ 0 ∧ ¬(2 ≤ u8 p 1 ∧ u8 p 1 ≤ 5)) :
    firstBad (lengthIs p n :: s.keyChecks r p slotOk) = stBadParam := by
  have params : (!slotOk || (u8 p 2 != 0 && !decide (2 ≤ u8 p 1 ∧ u8 p 1 ≤ 5))) = true := by
    rcases bad with slot | ⟨use, owner⟩
    · rw [slot]
      rfl
    · rw [bne_iff_ne.mpr use, decide_eq_false owner]
      exact Bool.or_true _
  unfold State.keyChecks
  dsimp only
  rw [firstBad_of_length len, firstBad_of_badParam params]

theorem keyChecks_of_forbidden {r : Ref} {p : Bytes} {n : Nat} {slotOk : Bool} (len : p.length = n) (slot : slotOk = true)
    (use : u8 p 2 = 0) (forbidden : (s.keysUsable && s.notInPowerFail) = false) :
    firstBad (lengthIs p n :: s.keyChecks r p slotOk) = stNotPermitted := by
  unfold State.keyChecks
  dsimp only
  rw [firstBad_of_length len, firstBad_of_param (by rw [slot, use]; rfl), firstBad_of_forbidden forbidden]

/-- A command whose checks are its signature alone: AUTH_FAIL, or what it goes on to. -/
theorem signed_outcome {r : Ref} {l : List (Bool × Nat)} {k : State → State} {o : Bool} (checks : firstBad l = if o then stOk else stAuthFail) :
    u.checked r l k = if o then k u else u.finish r stAuthFail := by
  cases o with
  | true => exact checked_ok checks
  | false => exact checked_refused checks (by decide)

/-- An owner-signed command whose checks leave its signature: AUTH_FAIL, or ACCEPTED and the security record asked for. -/
theorem signed_command {i : Instr} {l : List (Bool × Nat)} {k : State → State} {q : Nat} {act : SecAct} (ready : s.Ready c)
    (idle : s.sec.ops = []) (unburnt : s.sec.burn = none) (gate : s.gatesClosed = false)
    (row : exec i s = .next ((s.begin c op).2.checked (s.refOf c op) l k))
    (checks : firstBad l = if s.ownerSigned op c.payload then stOk else stAuthFail)
    (goes : k (s.begin c op).2 = ((s.begin c op).2.accepted (s.refOf c op)).secStart (some (s.refOf c op)) (some q) act) :
    ∃ p : Nat × Bytes, p = s.secRecordPage (s.recordWithSeq q) ∧ ∃ t, exec i s = .next t ∧
    ∃ o : Bool, o = s.ownerSigned op c.payload ∧ (o = false → s.Answers c op stAuthFail [] t ∧ s.Frame [.spoke] t) ∧
    (o = true → s.Accepts c op t ∧ t.sec = { s.sec with
        nextId := s.sec.nextId + 1, ops := [⟨s.sec.nextId, some (s.refOf c op), act, some q, 0, 1⟩] } ∧
      t.hay = { s.hay with
        nextId := s.hay.nextId + 1, reqs := s.hay.reqs ++ [⟨s.hay.nextId, 249, .sec p.1 p.2 s.sec.nextId, s.ticks, false⟩] } ∧
      s.Frame [.spoke, .hay, .sec] t) := by
  rw [signed_outcome checks] at row
  refine ⟨_, rfl, _, row, _, rfl, fun unsigned_ => ?_, fun signed_ => ?_⟩
  · rw [unsigned_, if_neg Bool.false_ne_true]
    exact ⟨(started_begin ready).answers ready, reply_frame ready⟩
  · rw [signed_, if_pos rfl, goes]
    obtain ⟨t, started, effect⟩ := signed_accepted (op := op) (q := q) (act := act) ready idle unburnt gate
    exact started ▸ effect

/-! ### SEC_KEY -/

/-- The bytes of a SEC_KEY payload: SLOT, USE, and where CMDSEQ stands. -/
theorem keyOperands {sub slot use : Nat} {b : Bytes} (slotByte : slot < 256) (useByte : use < 256) :
    u8 (le 1 sub ++ le 1 slot ++ le 1 use ++ b) 1 = slot ∧ u8 (le 1 sub ++ le 1 slot ++ le 1 use ++ b) 2 = use ∧
    (le 1 sub ++ le 1 slot ++ le 1 use ++ b).drop 3 = b ∧ (le 1 sub ++ le 1 slot ++ le 1 use ++ b).length = b.length + 3 := by
  have front : (le 1 sub ++ le 1 slot ++ le 1 use).length = 3 := by simp only [List.length_append, le_length]
  refine ⟨u8_middle (a := le 1 sub) (x := le 1 use ++ b) (by simp only [List.append_assoc]) (le_length ..) slotByte,
    u8_middle (a := le 1 sub ++ le 1 slot) (x := b) (by simp only [List.append_assoc]) (by simp only [List.length_append, le_length]) useByte,
    List.drop_left' front, ?_⟩
  rw [List.length_append, front, Nat.add_comm]

theorem secKeyPut_outcomes {slot use : Nat} {b : Bytes} (ready : s.Ready c) (payload : c.payload = [0] ++ le 1 slot ++ le 1 use ++ b)
    (len : b.length = 141) (slotOk : slot ≤ 5) (byte : use < 256) (owner : use = 0 ∨ 2 ≤ slot)
    (life : s.rd R.SEC_STAT_LIFECYCLE = 1 ∨ s.rd R.SEC_STAT_LIFECYCLE = 2) (power : s.rd R.PWR_STAT_PFSEQ ≠ 1)
    (gate : s.gatesClosed = false) (idle : s.sec.ops = []) (unburnt : s.sec.burn = none) :
    ∃ k : Slot, k = ⟨1, use, s.nextGen slot, (b.drop 1).take 64⟩ ∧
    ∃ q : Nat, q = u32 c.payload 76 ∧ ∃ p : Nat × Bytes, p = s.secRecordPage (s.recordWithSeq q) ∧ ∃ t, exec (.secKeyPut c) s = .next t ∧
    ∃ v : Bool, v = Config.p256Valid k.key ∧ ∃ o : Bool, o = s.ownerSigned 0x6B c.payload ∧
    (v = false → s.Answers c 0x6B stBadParam [] t ∧ s.Frame [.spoke] t) ∧ (v = true → o = false → s.Answers c 0x6B stAuthFail [] t ∧ s.Frame [.spoke] t) ∧
    (v = true → o = true → s.Accepts c 0x6B t ∧ t.sec = { s.sec with
        nextId := s.sec.nextId + 1, ops := [⟨s.sec.nextId, some (s.refOf c 0x6B), .key slot k 0, some q, 0, 1⟩] } ∧
      t.hay = { s.hay with
        nextId := s.hay.nextId + 1, reqs := s.hay.reqs ++ [⟨s.hay.nextId, 249, .sec p.1 p.2 s.sec.nextId, s.ticks, false⟩] } ∧
      s.Frame [.spoke, .hay, .sec] t) := by
  obtain ⟨slotByte, useByte, rest, long⟩ := keyOperands (sub := 0) (slot := slot) (use := use) (b := b) (by omega) byte
  change c.payload = le 1 0 ++ le 1 slot ++ le 1 use ++ b at payload
  rw [← payload] at slotByte useByte rest long
  have key : sub c.payload 4 64 = (b.drop 1).take 64 := by
    unfold sub
    rw [← rest, List.drop_drop]
  have seq : signedSeq c.payload = u32 c.payload 76 := by
    unfold signedSeq
    rw [long, len]
  have row : exec (.secKeyPut c) s = .next ((s.begin c 0x6B).2.doSecKeyPut (s.refOf c 0x6B) c.payload) := by
    show Host.Outcome.next ((s.begin c 0x6B).2.doSecKeyPut (s.refOf c 0x6B) (le 1 0 ++ c.payload.drop 1)) = _
    rw [subRow_self (by rw [payload]; rfl)]
  have body : (s.begin c 0x6B).2.doSecKeyPut (s.refOf c 0x6B) c.payload = (s.begin c 0x6B).2.checked (s.refOf c 0x6B)
      (lengthIs c.payload 144 :: (s.begin c 0x6B).2.keyChecks (s.refOf c 0x6B) c.payload (decide (slot ≤ 5) && Config.p256Valid ((b.drop 1).take 64)))
      fun v => (v.accepted (s.refOf c 0x6B)).secStart (some (s.refOf c 0x6B)) (some (u32 c.payload 76))
        (.key slot ⟨1, use, v.nextGen slot, (b.drop 1).take 64⟩ 0) := by
    unfold State.doSecKeyPut
    dsimp only
    rw [slotByte, useByte, key, seq]
  rw [body] at row
  cases valid : Config.p256Valid ((b.drop 1).take 64) with
  | false =>
    rw [checked_refused (status := stBadParam) (keyChecks_of_badParam (s := (s.begin c 0x6B).2) (by omega)
      (.inl (by rw [valid, Bool.and_false]))) (by decide)] at row
    exact ⟨_, rfl, _, rfl, _, rfl, _, row, _, valid.symm, _, rfl, fun _ => ⟨(started_begin ready).answers ready, reply_frame ready⟩,
      fun v => absurd v Bool.false_ne_true, fun v => absurd v Bool.false_ne_true⟩
  | true =>
    obtain ⟨p, page, t, runs, o, signed_, refused, accepted⟩ := signed_command (q := u32 c.payload 76)
      (act := .key slot ⟨1, use, s.nextGen slot, (b.drop 1).take 64⟩ 0) ready idle unburnt gate row
      (keyChecks_of_good (s := (s.begin c 0x6B).2) (by omega) (by rw [valid, decide_eq_true slotOk]; rfl) (by omega)
        (keysUsable_of (s := s) life) (notInPowerFail_of (s := s) power)) rfl
    exact ⟨_, rfl, _, rfl, p, page, t, runs, _, valid.symm, o, signed_, fun v => absurd v (by decide), fun _ => refused, fun _ => accepted⟩

/-- SEC_KEY_GEN and SEC_KEY_DELETE: SLOT, two bytes 0, and the signature. -/
theorem secKeyShort_outcomes {slot sub : Nat} {b : Bytes} {i : Instr} {a : SecAct} (ready : s.Ready c)
    (payload : c.payload = le 1 sub ++ le 1 slot ++ [0, 0] ++ b) (len : b.length = 76)
    (kind : (i, sub, a) = (Instr.secKeyGen c, 1, SecAct.gen slot) ∧ 16 ≤ slot ∧ slot ≤ 31 ∨
      (i, sub, a) = (Instr.secKeyDelete c, 2, SecAct.key slot ⟨0, 0, s.nextGen slot, []⟩ 2) ∧ slot < 32 ∧ slot ≠ 0 ∧ slot ≠ 6 ∧ slot ≠ 7)
    (life : s.rd R.SEC_STAT_LIFECYCLE = 1 ∨ s.rd R.SEC_STAT_LIFECYCLE = 2) (power : s.rd R.PWR_STAT_PFSEQ ≠ 1)
    (gate : s.gatesClosed = false) (idle : s.sec.ops = []) (unburnt : s.sec.burn = none) :
    ∃ q : Nat, q = u32 c.payload 12 ∧ ∃ p : Nat × Bytes, p = s.secRecordPage (s.recordWithSeq q) ∧ ∃ t, exec i s = .next t ∧
    ∃ o : Bool, o = s.ownerSigned 0x6B c.payload ∧ (o = false → s.Answers c 0x6B stAuthFail [] t ∧ s.Frame [.spoke] t) ∧
    (o = true → s.Accepts c 0x6B t ∧ t.sec = { s.sec with
        nextId := s.sec.nextId + 1, ops := [⟨s.sec.nextId, some (s.refOf c 0x6B), a, some q, 0, 1⟩] } ∧
      t.hay = { s.hay with
        nextId := s.hay.nextId + 1, reqs := s.hay.reqs ++ [⟨s.hay.nextId, 249, .sec p.1 p.2 s.sec.nextId, s.ticks, false⟩] } ∧
      s.Frame [.spoke, .hay, .sec] t) := by
  have small : slot < 256 := by omega
  obtain ⟨slotByte, useByte, -, long⟩ := keyOperands (sub := sub) (slot := slot) (use := 0) (b := 0 :: b) small (by decide)
  have same : c.payload = le 1 sub ++ le 1 slot ++ le 1 0 ++ 0 :: b := by rw [payload, List.append_assoc _ _ b]; rfl
  rw [← same] at slotByte useByte long
  rw [List.length_cons] at long
  have seq : signedSeq c.payload = u32 c.payload 12 := by
    unfold signedSeq
    rw [long, len]
  have self : le 1 sub ++ c.payload.drop 1 = c.payload := subRow_self (by rw [payload]; rfl)
  have checks : ∀ slotOk, slotOk = true → firstBad (lengthIs c.payload 80 :: (s.begin c 0x6B).2.keyChecks (s.refOf c 0x6B) c.payload slotOk) =
      if s.ownerSigned 0x6B c.payload then stOk else stAuthFail := fun slotOk good =>
    keyChecks_of_good (s := (s.begin c 0x6B).2) (by omega) good (.inl useByte) (keysUsable_of (s := s) life) (notInPowerFail_of (s := s) power)
  refine ⟨_, rfl, ?_⟩
  obtain ⟨same, low, high⟩ | ⟨same, high, root, identity, wrap⟩ := kind
  · obtain ⟨rfl, rfl, rfl⟩ : i = .secKeyGen c ∧ sub = 1 ∧ a = .gen slot := by simpa using same
    refine signed_command ready idle unburnt gate (k := fun v => (v.accepted (s.refOf c 0x6B)).secStart (some (s.refOf c 0x6B))
      (some (u32 c.payload 12)) (.gen slot)) ?_ (checks (decide (16 ≤ slot ∧ slot ≤ 31)) (decide_eq_true ⟨low, high⟩)) rfl
    show Host.Outcome.next ((s.begin c 0x6B).2.doSecKeyGen (s.refOf c 0x6B) (le 1 1 ++ c.payload.drop 1)) = _
    rw [self]
    unfold State.doSecKeyGen
    dsimp only
    rw [slotByte, seq]
  · obtain ⟨rfl, rfl, rfl⟩ : i = .secKeyDelete c ∧ sub = 2 ∧ a = .key slot ⟨0, 0, s.nextGen slot, []⟩ 2 := by simpa using same
    have deletable : (decide (slot < 32) && !(slot == 0 || slot == 6 || slot == 7)) = true := by
      rw [decide_eq_true high, beq_false_of_ne root, beq_false_of_ne identity, beq_false_of_ne wrap]
      rfl
    refine signed_command ready idle unburnt gate (k := fun v => (v.accepted (s.refOf c 0x6B)).secStart (some (s.refOf c 0x6B))
      (some (u32 c.payload 12)) (.key slot ⟨0, 0, v.nextGen slot, []⟩ 2)) ?_ (checks _ deletable) rfl
    show Host.Outcome.next ((s.begin c 0x6B).2.doSecKeyDelete (s.refOf c 0x6B) (le 1 2 ++ c.payload.drop 1)) = _
    rw [self]
    unfold State.doSecKeyDelete
    dsimp only
    rw [slotByte, seq]

/-- Of a row's payload each byte behind the first is the command's. -/
theorem u8_subRow (v : Nat) (p : Bytes) (k : Nat) : u8 (le 1 v ++ p.drop 1) (k + 1) = u8 p (k + 1) := congrArg ofLe (sub_subRow v p k 1)

/-- The checks of the three SUBs. -/
theorem secKeyPut_checks (u : State) (r : Ref) (p : Bytes) : ∃ k, u.doSecKeyPut r p =
    u.checked r (lengthIs p 144 :: u.keyChecks r p (decide (u8 p 1 ≤ 5) && Config.p256Valid (sub p 4 64))) k := by
  unfold State.doSecKeyPut
  exact ⟨_, rfl⟩

theorem secKeyGen_checks (u : State) (r : Ref) (p : Bytes) : ∃ k, u.doSecKeyGen r p =
    u.checked r (lengthIs p 80 :: u.keyChecks r p (decide (16 ≤ u8 p 1 ∧ u8 p 1 ≤ 31))) k := by
  unfold State.doSecKeyGen
  exact ⟨_, rfl⟩

theorem secKeyDelete_checks (u : State) (r : Ref) (p : Bytes) : ∃ k, u.doSecKeyDelete r p = u.checked r
    (lengthIs p 80 :: u.keyChecks r p (decide (u8 p 1 < 32) && !(u8 p 1 == 0 || u8 p 1 == 6 || u8 p 1 == 7))) k := by
  unfold State.doSecKeyDelete
  exact ⟨_, rfl⟩

theorem secKey_refused (ready : s.Ready c) (nonempty : c.payload ≠ []) :
    (c.payload.length ≠ 144 → s.Refuses (.secKeyPut c) c 0x6B stBadLength) ∧
    (c.payload.length ≠ 80 → s.Refuses (.secKeyGen c) c 0x6B stBadLength ∧ s.Refuses (.secKeyDelete c) c 0x6B stBadLength) ∧
    (c.payload.length = 144 → 5 < u8 c.payload 1 ∨ u8 c.payload 1 < 2 ∧ u8 c.payload 2 ≠ 0 → s.Refuses (.secKeyPut c) c 0x6B stBadParam) ∧
    (c.payload.length = 80 → u8 c.payload 1 < 16 ∨ 31 < u8 c.payload 1 ∨ u8 c.payload 2 ≠ 0 → s.Refuses (.secKeyGen c) c 0x6B stBadParam) ∧
    (c.payload.length = 80 → u8 c.payload 1 = 0 ∨ u8 c.payload 1 = 6 ∨ u8 c.payload 1 = 7 → s.Refuses (.secKeyDelete c) c 0x6B stBadParam) ∧
    (c.payload.length = 80 → 16 ≤ u8 c.payload 1 → u8 c.payload 1 ≤ 31 → u8 c.payload 2 = 0 → s.rd R.SEC_STAT_LIFECYCLE = 0 ∨
      s.rd R.SEC_STAT_LIFECYCLE = 3 ∨ s.rd R.PWR_STAT_PFSEQ = 1 →
      s.Refuses (.secKeyGen c) c 0x6B stNotPermitted ∧ s.Refuses (.secKeyDelete c) c 0x6B stNotPermitted) := by
  have length : ∀ v, (le 1 v ++ c.payload.drop 1).length = c.payload.length := fun v => length_subRow nonempty
  have slot : ∀ v, u8 (le 1 v ++ c.payload.drop 1) 1 = u8 c.payload 1 := fun v => u8_subRow v _ 0
  have use : ∀ v, u8 (le 1 v ++ c.payload.drop 1) 2 = u8 c.payload 2 := fun v => u8_subRow v _ 1
  refine ⟨fun len => ?_, fun len => ⟨?_, ?_⟩, fun len bad => ?_, fun len bad => ?_, fun len bad => ?_,
    fun len low high zero forbidden => ?_⟩
  · exact refuses_of_subRow ready rfl (secKeyPut_checks _ _ _) (firstBad_of_badLength (by rwa [length_subRow nonempty]) _) (by decide)
  · exact refuses_of_subRow ready rfl (secKeyGen_checks _ _ _) (firstBad_of_badLength (by rwa [length_subRow nonempty]) _) (by decide)
  · exact refuses_of_subRow ready rfl (secKeyDelete_checks _ _ _) (firstBad_of_badLength (by rwa [length_subRow nonempty]) _) (by decide)
  · refine refuses_of_subRow ready rfl (secKeyPut_checks _ _ _) (keyChecks_of_badParam ((length 0).trans len) ?_) (by decide)
    rw [slot, use]
    rcases bad with high | ⟨low, used⟩
    · exact .inl (by rw [decide_eq_false (by omega), Bool.false_and])
    · exact .inr ⟨used, by omega⟩
  · refine refuses_of_subRow ready rfl (secKeyGen_checks _ _ _) (keyChecks_of_badParam ((length 1).trans len) ?_) (by decide)
    rw [slot, use, decide_eq_false_iff_not]
    omega
  · refine refuses_of_subRow ready rfl (secKeyDelete_checks _ _ _) (keyChecks_of_badParam ((length 2).trans len) (.inl ?_)) (by decide)
    rw [slot]
    rcases bad with h | h | h <;> rw [h] <;> rfl
  · have no : (s.keysUsable && s.notInPowerFail) = false := by
      rcases forbidden with blank | returned | power
      · rw [not_keysUsable_of (.inl blank), Bool.false_and]
      · rw [not_keysUsable_of (.inr returned), Bool.false_and]
      · rw [inPowerFail_of power, Bool.and_false]
    constructor
    · exact refuses_of_subRow ready rfl (secKeyGen_checks _ _ _) (keyChecks_of_forbidden (s := (s.begin c 0x6B).2)
        ((length 1).trans len) (by rw [slot]; exact decide_eq_true ⟨low, high⟩) ((use 1).trans zero) no) (by decide)
    · refine refuses_of_subRow ready rfl (secKeyDelete_checks _ _ _) (keyChecks_of_forbidden (s := (s.begin c 0x6B).2)
        ((length 2).trans len) ?_ ((use 2).trans zero) no) (by decide)
      rw [slot, decide_eq_true (by omega), beq_false_of_ne (by omega), beq_false_of_ne (by omega), beq_false_of_ne (by omega)]
      rfl

end Sys2Proof.Machine
end

section
/-!
PROOFS. SEC_LIFECYCLE as a command (R400 to R402, 16_security.md): provisioning, the signed transitions, and what they refuse.
-/

namespace Sys2Proof.Machine

variable {s t u : State} {c : Cmd}

/-! ### Provisioning (R401) -/

/-- Random bytes depend on how many have been drawn alone. -/
theorem random_congr (free : t.free = s.free) (n : Nat) : (t.random n).1 = (s.random n).1 := by
  unfold State.random State.draw
  rw [free]

theorem randomOk_of (drbg : s.sec.drbg = true) (sound : s.rd R.SEC_STAT_ENT_FAIL ≠ 1) : s.randomOk = true := by
  unfold State.randomOk
  rw [drbg, on_eq_false_iff.mpr sound]
  rfl

/-- An operation that starts while none runs, and whose first step is a slot's page, asks for that page. -/
theorem secStart_slotPage {cmd : Option Ref} {act : SecAct} {n : Nat} {k : Slot} (idle : s.sec.ops = []) (unburnt : s.sec.burn = none)
    (gate : s.gatesClosed = false) (next : (s.secAlone ⟨s.sec.nextId, cmd, act, none, 0, 0⟩).secNext ⟨s.sec.nextId, cmd, act, none, 0, 0⟩ =
      { s.secAlone ⟨s.sec.nextId, cmd, act, none, 0, 0⟩ with sec.made := mins s.sec.made n k }.secAsk ⟨s.sec.nextId, cmd, act, none, 0, 0⟩
        (0x8C0 + n) (s.slotImage n k)) : s.secStart cmd none act = { s with
      sec.nextId := s.sec.nextId + 1, sec.made := mins s.sec.made n k, sec.ops := [⟨s.sec.nextId, cmd, act, none, 0, 1⟩]
      hay.nextId := s.hay.nextId + 1
      hay.reqs := s.hay.reqs ++ [⟨s.hay.nextId, 249, .sec (0x8C0 + n) (s.slotImage n k) s.sec.nextId, s.ticks, false⟩] } := by
  let o : SecOp := ⟨s.sec.nextId, cmd, act, none, 0, 0⟩
  let v : State := { s.secAlone o with sec.made := mins s.sec.made n k }
  have asked := secAsk_of_open (s := v) (o := o) (old := o) rfl rfl gate (0x8C0 + n) (s.slotImage n k)
  rw [secStart_of_idle idle unburnt, next, asked]
  exact secLoop_of_waiting rfl (.inr Nat.one_ne_zero) 1

/-- Provisioning that starts while no operation runs asks for slot 0's page. -/
theorem secStart_provision {cmd : Option Ref} {root identity : Bytes} (idle : s.sec.ops = []) (unburnt : s.sec.burn = none)
    (gate : s.gatesClosed = false) : s.secStart cmd none (.provision root identity) = { s with
      sec.nextId := s.sec.nextId + 1, sec.made := mins s.sec.made 0 ⟨1, 0, s.nextGen 0, root⟩
      sec.ops := [⟨s.sec.nextId, cmd, .provision root identity, none, 0, 1⟩], hay.nextId := s.hay.nextId + 1
      hay.reqs := s.hay.reqs ++
        [⟨s.hay.nextId, 249, .sec 0x8C0 (s.slotImage 0 ⟨1, 0, s.nextGen 0, root⟩) s.sec.nextId, s.ticks, false⟩] } :=
  secStart_slotPage (n := 0) idle unburnt gate rfl

/-- The checks of provisioning. -/
theorem provisionChecks {r : Ref} {root : Bytes} (len : root.length = 64) (blank : u.rd R.SEC_STAT_LIFECYCLE = 0)
    (channel : r.ch < 16 ∨ r.ch = 31) (power : u.rd R.PWR_STAT_PFSEQ ≠ 1) : firstBad [lengthIs ([1] ++ root) 65,
      param (!u.transition 1 || !Config.p256Valid root), permitted ((decide (r.ch < 16) || r.ch == 31) && u.notInPowerFail)] =
    if Config.p256Valid root then stOk else stBadParam := by
  have possible : u.transition 1 = true := by
    unfold State.transition State.lifecycle
    rw [blank]
    rfl
  have permit : ((decide (r.ch < 16) || r.ch == 31) && u.notInPowerFail) = true := by
    rw [notInPowerFail_of power, Bool.and_true, Bool.or_eq_true, decide_eq_true_eq, beq_iff_eq]
    exact channel
  rw [firstBad_of_length (by rw [List.length_append, len]; rfl), possible, permit]
  cases Config.p256Valid root <;> rfl

theorem doProvision_eq {r : Ref} {root : Bytes} (len : root.length = 64) : u.doSecLifecycleProvision r ([1] ++ root) =
    u.checked r [lengthIs ([1] ++ root) 65, param (!u.transition 1 || !Config.p256Valid root),
      permitted ((decide (r.ch < 16) || r.ch == 31) && u.notInPowerFail)] fun s => s.provision r root := by
  have key : sub ([1] ++ root) 1 64 = root := sub_middle (a := [1]) (c := []) (by rw [List.append_nil]) rfl len
  unfold State.doSecLifecycleProvision
  dsimp only
  rw [key]

theorem provision_of_random {r : Ref} {root : Bytes} (random : u.randomOk = true) : u.provision r root =
    ((u.accepted r).random 32).2.secStart (some r) none (.provision root ((u.accepted r).random 32).1) :=
  if_neg (by rw [random]; decide)

theorem provision_outcomes {root : Bytes} (ready : s.Ready c) (payload : c.payload = [1] ++ root) (len : root.length = 64)
    (blank : s.rd R.SEC_STAT_LIFECYCLE = 0) (channel : c.ch.val < 16 ∨ c.ch.val = 31) (power : s.rd R.PWR_STAT_PFSEQ ≠ 1)
    (drbg : s.sec.drbg = true) (sound : s.rd R.SEC_STAT_ENT_FAIL ≠ 1) (gate : s.gatesClosed = false) (idle : s.sec.ops = [])
    (unburnt : s.sec.burn = none) : ∃ d, d = s.random 32 ∧ ∃ k : Slot, k = ⟨1, 0, s.nextGen 0, root⟩ ∧
    ∃ t, exec (.secLifecycleProvision c) s = .next t ∧ (Config.p256Valid root = false → s.Answers c 0x6D stBadParam [] t ∧ s.Frame [.spoke] t) ∧
    (Config.p256Valid root = true → s.Accepts c 0x6D t ∧ t.sec = { s.sec with
        nextId := s.sec.nextId + 1, made := mins s.sec.made 0 k
        ops := [⟨s.sec.nextId, some (s.refOf c 0x6D), .provision root d.1, none, 0, 1⟩] } ∧
      t.hay = { s.hay with
        nextId := s.hay.nextId + 1
        reqs := s.hay.reqs ++ [⟨s.hay.nextId, 249, .sec 0x8C0 (s.slotImage 0 k) s.sec.nextId, s.ticks, false⟩] } ∧
      s.Frame [.free, .spoke, .hay, .sec] t) := by
  have row : exec (.secLifecycleProvision c) s = .next ((s.begin c 0x6D).2.doSecLifecycleProvision (s.refOf c 0x6D) ([1] ++ root)) := by
    show Host.Outcome.next ((s.begin c 0x6D).2.doSecLifecycleProvision (s.refOf c 0x6D) (le 1 1 ++ c.payload.drop 1)) = _
    rw [payload]
    rfl
  have checks := provisionChecks (u := (s.begin c 0x6D).2) (r := s.refOf c 0x6D) len blank channel power
  rw [doProvision_eq len] at row
  refine ⟨_, rfl, _, rfl, _, row, fun bad => ?_, fun valid => ?_⟩
  · rw [checked_refused (checks.trans (if_neg (by rw [bad]; decide))) (by decide)]
    exact ⟨(started_begin ready).answers ready, reply_frame ready⟩
  · rw [checked_ok (checks.trans (if_pos valid)), provision_of_random (randomOk_of (s := (s.begin c 0x6D).2) drbg sound)]
    let v := (s.begin c 0x6D).2.accepted (s.refOf c 0x6D)
    let w : State := { v with free := v.free + 1 }
    have wsec : w.sec = s.sec := State.accepted_sec ..
    have whay : w.hay = s.hay := State.accepted_hay ..
    have wticks : w.ticks = s.ticks := by
      unfold State.ticks
      rw [show w.cad = s.cad from State.accepted_cad ..]
    have wgate : w.gatesClosed = false := by
      unfold State.gatesClosed State.on
      rw [show w.rd R.PWR_STAT_PFI = s.rd R.PWR_STAT_PFI from State.accepted_rd ..]
      exact gate
    have drawn : (v.random 32).1 = (s.random 32).1 := random_congr (State.accepted_free ..) 32
    have gen : w.nextGen 0 = s.nextGen 0 := by
      unfold State.nextGen State.keySlot
      rw [wsec]
    have image : ∀ k, w.slotImage 0 k = s.slotImage 0 k := fun k => by
      unfold State.slotImage
      rw [wsec]
    have started := secStart_provision (s := w) (cmd := some (s.refOf c 0x6D)) (root := root) (identity := (v.random 32).1)
      (by rw [wsec, idle]) (by rw [wsec, unburnt]) wgate
    have step : ((v.random 32).2.secStart (some (s.refOf c 0x6D)) none (.provision root (v.random 32).1)) =
      w.secStart (some (s.refOf c 0x6D)) none (.provision root (v.random 32).1) := rfl
    rw [step, started]
    have frame : s.Frame [.free, .spoke, .hay, .sec] w := State.Frame.free
      (State.accepted_frame (Covers.refl.sub rfl) (begin_frame_spoke.mono (Covers.refl.sub rfl))) (by decide)
    refine ⟨accepts_of_begin ready rfl, ?_, ?_, frame.hay_sec (by decide) (by decide)⟩
    · dsimp only
      rw [gen, wsec, drawn]
    · dsimp only
      rw [gen, image, whay, wsec, wticks]

/-! ### The signed transitions (R400, R405) -/

theorem lifecycleSigned_eq {r : Ref} {p : Bytes} (len : p.length = 80) (target : Nat) : u.lifecycleSigned r p target =
    u.checked r [lengthIs p 80, param (!u.transition target), permitted u.notInPowerFail, (!u.ownerSigned r.op p, stAuthFail)]
      fun s => (s.accepted r).secStart (some r) (some (u32 p 12)) (.life target) := by
  unfold State.lifecycleSigned signedSeq
  rw [len]

theorem lifecycle_outcomes {i : Instr} {target : Nat} (ready : s.Ready c) (len : c.payload.length = 80) (first : c.payload.take 1 = le 1 target)
    (kind : (i, target) = (Instr.secLifecycleField c, 2) ∧ s.rd R.SEC_STAT_LIFECYCLE = 1 ∨
      (i, target) = (Instr.secLifecycleReturn c, 3) ∧ (s.rd R.SEC_STAT_LIFECYCLE = 1 ∨ s.rd R.SEC_STAT_LIFECYCLE = 2))
    (power : s.rd R.PWR_STAT_PFSEQ ≠ 1) (gate : s.gatesClosed = false) (idle : s.sec.ops = []) (unburnt : s.sec.burn = none) :
    ∃ q : Nat, q = u32 c.payload 12 ∧
    ∃ p : Nat × Bytes, p = s.secRecordPage (s.recordWithSeq q) ∧ ∃ t, exec i s = .next t ∧ ∃ o : Bool, o = s.ownerSigned 0x6D c.payload ∧
    (o = false → s.Answers c 0x6D stAuthFail [] t ∧ s.Frame [.spoke] t) ∧
    (o = true → s.Accepts c 0x6D t ∧ t.sec = { s.sec with
        nextId := s.sec.nextId + 1, ops := [⟨s.sec.nextId, some (s.refOf c 0x6D), .life target, some q, 0, 1⟩] } ∧
      t.hay = { s.hay with
        nextId := s.hay.nextId + 1, reqs := s.hay.reqs ++ [⟨s.hay.nextId, 249, .sec p.1 p.2 s.sec.nextId, s.ticks, false⟩] } ∧
      s.Frame [.spoke, .hay, .sec] t) := by
  have row : exec i s = .next ((s.begin c 0x6D).2.lifecycleSigned (s.refOf c 0x6D) (le 1 target ++ c.payload.drop 1) target) := by
    obtain ⟨same, -⟩ | ⟨same, -⟩ := kind <;>
    · obtain ⟨rfl, rfl⟩ := Prod.mk.inj same
      rfl
  have possible : s.transition target = true := by
    unfold State.transition State.lifecycle
    obtain ⟨same, life⟩ | ⟨same, life | life⟩ := kind <;>
    · rw [(Prod.mk.inj same).2, life]
      rfl
  have checks : firstBad [lengthIs c.payload 80, param (!(s.begin c 0x6D).2.transition target), permitted (s.begin c 0x6D).2.notInPowerFail,
      (!(s.begin c 0x6D).2.ownerSigned (s.refOf c 0x6D).op c.payload, stAuthFail)] =
      if s.ownerSigned 0x6D c.payload then stOk else stAuthFail := by
    show firstBad [_, param (!s.transition target), permitted s.notInPowerFail, (!s.ownerSigned 0x6D c.payload, stAuthFail)] = _
    rw [firstBad_of_length len, possible, notInPowerFail_of power, Bool.not_true, firstBad_of_param rfl, firstBad_of_permitted rfl]
    cases s.ownerSigned 0x6D c.payload <;> rfl
  rw [subRow_self first, lifecycleSigned_eq len] at row
  exact ⟨_, rfl, signed_command ready idle unburnt gate row checks rfl⟩

/-! ### Refusals -/

theorem lifecycle_refused (ready : s.Ready c) (nonempty : c.payload ≠ []) :
    (c.payload.length ≠ 65 → s.Refuses (.secLifecycleProvision c) c 0x6D stBadLength) ∧
    (c.payload.length ≠ 80 → s.Refuses (.secLifecycleField c) c 0x6D stBadLength ∧ s.Refuses (.secLifecycleReturn c) c 0x6D stBadLength) ∧
    (c.payload.length = 65 → s.rd R.SEC_STAT_LIFECYCLE ≠ 0 → s.Refuses (.secLifecycleProvision c) c 0x6D stBadParam) ∧
    (c.payload.length = 80 → s.rd R.SEC_STAT_LIFECYCLE = 0 ∨ s.rd R.SEC_STAT_LIFECYCLE = 3 →
      s.Refuses (.secLifecycleField c) c 0x6D stBadParam ∧ s.Refuses (.secLifecycleReturn c) c 0x6D stBadParam) ∧
    (c.payload.length = 80 → s.rd R.SEC_STAT_LIFECYCLE = 1 → s.rd R.PWR_STAT_PFSEQ = 1 →
      s.Refuses (.secLifecycleField c) c 0x6D stNotPermitted) := by
  have provision : ∃ k, (s.begin c 0x6D).2.doSecLifecycleProvision (s.refOf c 0x6D) (le 1 1 ++ c.payload.drop 1) =
      (s.begin c 0x6D).2.checked (s.refOf c 0x6D) [lengthIs (le 1 1 ++ c.payload.drop 1) 65,
        param (!s.transition 1 || !Config.p256Valid (sub (le 1 1 ++ c.payload.drop 1) 1 64)),
        permitted ((decide (c.ch.val < 16) || c.ch.val == 31) && s.notInPowerFail)] k := by
    unfold State.doSecLifecycleProvision
    exact ⟨_, rfl⟩
  have signed_ : ∀ target, ∃ k, (s.begin c 0x6D).2.lifecycleSigned (s.refOf c 0x6D) (le 1 target ++ c.payload.drop 1) target =
      (s.begin c 0x6D).2.checked (s.refOf c 0x6D) [lengthIs (le 1 target ++ c.payload.drop 1) 80, param (!s.transition target),
        permitted s.notInPowerFail, (!s.ownerSigned 0x6D (le 1 target ++ c.payload.drop 1), stAuthFail)] k := fun _ => ⟨_, rfl⟩
  have short : ∀ v n l, c.payload.length ≠ n → firstBad (lengthIs (le 1 v ++ c.payload.drop 1) n :: l) = stBadLength :=
    fun v n l len => firstBad_of_badLength (by rwa [length_subRow nonempty]) l
  have exact_ : ∀ v n l, c.payload.length = n → firstBad (lengthIs (le 1 v ++ c.payload.drop 1) n :: l) = firstBad l :=
    fun v n l len => firstBad_of_length (by rwa [length_subRow nonempty]) l
  refine ⟨fun len => ?_, fun len => ⟨?_, ?_⟩, fun len used => ?_, fun len ended => ⟨?_, ?_⟩, fun len developed power => ?_⟩
  · exact refuses_of_subRow ready rfl provision (short _ _ _ len) (by decide)
  · exact refuses_of_subRow ready rfl (signed_ 2) (short _ _ _ len) (by decide)
  · exact refuses_of_subRow ready rfl (signed_ 3) (short _ _ _ len) (by decide)
  · have impossible : s.transition 1 = false := by
      unfold State.transition State.lifecycle
      rw [beq_false_of_ne used]
      simp
    exact refuses_of_subRow ready rfl provision
      ((exact_ _ _ _ len).trans (firstBad_of_badParam (by rw [impossible]; rfl) _)) (by decide)
  · exact refuses_of_subRow ready rfl (signed_ 2) ((exact_ _ _ _ len).trans (firstBad_of_badParam (by
      unfold State.transition State.lifecycle
      rcases ended with h | h <;> rw [h] <;> rfl) _)) (by decide)
  · exact refuses_of_subRow ready rfl (signed_ 3) ((exact_ _ _ _ len).trans (firstBad_of_badParam (by
      unfold State.transition State.lifecycle
      rcases ended with h | h <;> rw [h] <;> rfl) _)) (by decide)
  · have possible : s.transition 2 = true := by
      unfold State.transition State.lifecycle
      rw [developed]
      rfl
    exact refuses_of_subRow ready rfl (signed_ 2) ((exact_ _ _ _ len).trans
      ((firstBad_of_param (by rw [possible]; rfl) _).trans (firstBad_of_forbidden (inPowerFail_of power) _))) (by decide)

end Sys2Proof.Machine
end

section
/-!
PROOFS. What an owner-signed operation does when its page commits have ended, and the fuse burn (R400 to R402, R405, 16_security.md).
-/

namespace Sys2Proof.Machine

variable {s t u : State}

/-! ### The security record is committed, then the action's own page (R405) -/

/-- An operation whose CMDSEQ has been stored: its action begins. -/
def SecOp.stored (o : SecOp) : SecOp := { o with cmdseq := none, phase := 0, asked := 0 }

/-- The state when the CMDSEQ of its only operation has been stored. -/
def State.seqStored (s : State) (o : SecOp) (q : Nat) : State := { s.wr R.SEC_STAT_CMDSEQ q with sec.ops := [o.stored] }

theorem secDrop_of_alone {o : SecOp} (one : s.sec.ops = [o]) : s.secDrop o = { s with sec.ops := [] } := by
  unfold State.secDrop
  rw [one, List.filter_cons_of_neg (by simp)]
  rfl

theorem secNext_of_committed {o : SecOp} {q : Nat} (one : s.sec.ops = [o]) (signed_ : o.cmdseq = some q) (phase : o.phase = 1) :
    s.secNext o = (s.seqStored o q).secAction o.stored := by
  have put : (s.wr R.SEC_STAT_CMDSEQ q).secPut o.stored = s.seqStored o q := by
    unfold State.secPut
    rw [show (s.wr R.SEC_STAT_CMDSEQ q).sec.ops = [o] from one]
    exact congrArg (fun x => { s.wr R.SEC_STAT_CMDSEQ q with sec.ops := [x] }) (if_pos rfl)
  unfold State.secNext
  rw [signed_]
  exact (if_neg (by omega)).trans (congrArg (State.secAction · o.stored) put)

/-- The only operation, its commit ended, goes on. -/
theorem secAdvance_of_committed {o : SecOp} (one : s.sec.ops = [o]) (phase : o.phase = 1) (asked : o.asked = 1)
    (unburnt : s.sec.burn = none) : s.secAdvance = State.secLoop 1 (s.secNext o) := by
  unfold State.secAdvance
  rw [one]
  exact secLoop_of_due one unburnt (asked.trans phase.symm) 1

theorem seqStored_fields (s : State) (o : SecOp) (q : Nat) : s.Fields [(R.SEC_STAT_CMDSEQ, q)] (s.seqStored o q) :=
  (wr_fields s R.SEC_STAT_CMDSEQ q).of_regs rfl

theorem seqStored_gate {o : SecOp} {q : Nat} (gate : s.gatesClosed = false) : (s.seqStored o q).gatesClosed = false := by
  unfold State.gatesClosed State.on at gate ⊢
  rw [seqStored_fields s o q]
  exact gate

/-- The step of a key operation whose CMDSEQ has been stored: its slot's page is asked for. -/
theorem secAction_of_key {o : SecOp} {n x : Nat} {k : Slot} (act : o.act = .key n k x) (phase : o.phase = 0) :
    s.secAction o = { s with sec.made := mins s.sec.made n k }.secAsk o (0x8C0 + n) (s.slotImage n k) := by
  unfold State.secAction State.secPageOrEffect
  rw [act, phase]
  rfl

theorem key_asks {o : SecOp} {n x q : Nat} {k : Slot} (one : s.sec.ops = [o]) (act : o.act = .key n k x) (signed_ : o.cmdseq = some q)
    (phase : o.phase = 1) (asked : o.asked = 1) (unburnt : s.sec.burn = none) (gate : s.gatesClosed = false) :
    s.Fields [(R.SEC_STAT_CMDSEQ, q)] s.secAdvance ∧ s.secAdvance.sec = { s.sec with
      made := mins s.sec.made n k, ops := [{ o with cmdseq := none, phase := 0, asked := 1 }] } ∧
    s.secAdvance.hay = { s.hay with
      nextId := s.hay.nextId + 1
      reqs := s.hay.reqs ++ [⟨s.hay.nextId, 249, .sec (0x8C0 + n) (s.slotImage n k) o.id, s.ticks, false⟩] } ∧
    s.Frame [.regs, .hay, .sec] s.secAdvance := by
  let v : State := { s.seqStored o q with sec.made := mins s.sec.made n k }
  have asks : v.secAsk o.stored (0x8C0 + n) (s.slotImage n k) = { v with
      sec.ops := [{ o with cmdseq := none, phase := 0, asked := 1 }], hay.nextId := s.hay.nextId + 1
      hay.reqs := s.hay.reqs ++ [⟨s.hay.nextId, 249, .sec (0x8C0 + n) (s.slotImage n k) o.id, s.ticks, false⟩] } :=
    secAsk_of_open (s := v) (o := o.stored) (old := o.stored) rfl rfl (seqStored_gate (o := o) (q := q) gate) (0x8C0 + n) (s.slotImage n k)
  have step : s.secAdvance = { v with
      sec.ops := [{ o with cmdseq := none, phase := 0, asked := 1 }], hay.nextId := s.hay.nextId + 1
      hay.reqs := s.hay.reqs ++ [⟨s.hay.nextId, 249, .sec (0x8C0 + n) (s.slotImage n k) o.id, s.ticks, false⟩] } := by
    rw [secAdvance_of_committed one phase asked unburnt, secNext_of_committed one signed_ phase,
      secAction_of_key (o := o.stored) (s := s.seqStored o q) act rfl]
    refine (congrArg (State.secLoop 1) asks).trans ?_
    exact secLoop_of_waiting rfl (.inr Nat.one_ne_zero) 1
  rw [step]
  have frame : s.Frame [.regs, .hay, .sec] v := (State.wr_frame (Covers.refl.sub rfl) State.Frame.refl).sec (by decide)
  exact ⟨(seqStored_fields s o q).of_regs rfl, rfl, rfl, frame.hay_sec (by decide) (by decide)⟩

/-- The slot's page is committed: the slot holds its content, a KEY record is made and the command ends. -/
theorem key_done {o : SecOp} {n x : Nat} {k : Slot} {r : Ref} (one : s.sec.ops = [o]) (act : o.act = .key n k x) (stored : o.cmdseq = none)
    (cmd : o.cmd = some r) (phase : o.phase = 1) (asked : o.asked = 1) (unburnt : s.sec.burn = none) (notIdentity : n ≠ 6) :
    ∃ u : State, u = { s.record 2 0x12 (le 1 n ++ le 1 x ++ le 2 k.gen) with
      sec.slots := mins s.sec.slots n k, sec.ops := []
      regs := (s.wrs [(R.SEC_SLOT_KIND n, k.kind), (R.SEC_SLOT_USE n, k.use), (R.SEC_SLOT_GEN n, k.gen)]).regs } ∧
    s.secAdvance = u.ok r (le 2 k.gen) := by
  have shown : ({ s with sec.ops := [] } : State).setSlot n (some k) = { s with
      sec.slots := mins s.sec.slots n k, sec.ops := []
      regs := (s.wrs [(R.SEC_SLOT_KIND n, k.kind), (R.SEC_SLOT_USE n, k.use), (R.SEC_SLOT_GEN n, k.gen)]).regs } := by
    unfold State.setSlot State.showSlot State.keySlot
    dsimp only
    rw [mget?_mins, if_pos rfl, if_neg notIdentity]
    rfl
  have step : s.secNext o = ((({ s with sec.ops := [] } : State).setSlot n (some k)).keyRecord n x k.gen).ok r (le 2 k.gen) := by
    unfold State.secNext
    rw [stored]
    unfold State.secAction State.secPageOrEffect
    rw [act, phase]
    show State.secEffect s o = _
    unfold State.secEffect
    rw [act]
    dsimp only
    rw [secDrop_of_alone one, cmd]
    rfl
  rw [secAdvance_of_committed one phase asked unburnt, step, shown]
  refine ⟨_, rfl, ?_⟩
  exact secLoop_of_empty (congrArg Sec.ops ((State.finish_sec ..).trans (State.record_sec ..))) 1

/-! ### The burn is asked for, and may come to nothing (R401) -/

theorem life_asks {o : SecOp} {target q : Nat} (one : s.sec.ops = [o]) (act : o.act = .life target) (signed_ : o.cmdseq = some q)
    (phase : o.phase = 1) (asked : o.asked = 1) (unburnt : s.sec.burn = none) (possible : s.transition target = true)
    (gate : s.gatesClosed = false) : s.Fields [(R.SEC_STAT_CMDSEQ, q)] s.secAdvance ∧
    s.secAdvance.sec.burn = some (target, o.cmd) ∧ s.secAdvance.sec.burning = false ∧
    s.secAdvance.pwr.wait = s.pwr.wait ++ [⟨3, 40, .fuse, s.ticks⟩] ∧ s.Frame [.regs, .pwr, .sec] s.secAdvance := by
  let v : State := s.seqStored o q
  have allowed : v.transition target = true := by
    unfold State.transition State.lifecycle at possible ⊢
    rw [seqStored_fields s o q]
    exact possible
  have step : v.secAction o.stored = { v with sec.burn := some (target, o.cmd), sec.burning := false }.escAsk 3 40 .fuse := by
    unfold State.secAction State.secPageOrEffect
    rw [show o.stored.act = .life target from act]
    show State.secEffect v o.stored = _
    unfold State.secEffect
    rw [show o.stored.act = .life target from act]
    dsimp only
    rw [show v.sec.burn = none from unburnt]
    unfold State.burnAsk
    refine (if_neg Bool.false_ne_true).trans (if_neg ?_)
    rw [seqStored_gate gate, allowed]
    decide
  have runs : s.secAdvance = { v with sec.burn := some (target, o.cmd), sec.burning := false }.escAsk 3 40 .fuse := by
    rw [secAdvance_of_committed one phase asked unburnt, secNext_of_committed one signed_ phase]
    refine (congrArg (State.secLoop 1) step).trans ?_
    exact secLoop_of_waiting (o := o.stored) (rest := []) rfl (.inl rfl) 1
  rw [runs]
  have frame : s.Frame [.regs, .pwr, .sec] v := (State.wr_frame (Covers.refl.sub rfl) State.Frame.refl).sec (by decide)
  exact ⟨(seqStored_fields s o q).of_regs rfl, rfl, rfl, rfl,
    State.escAsk_frame (Covers.refl.sub rfl) (frame.sec (by decide))⟩

theorem burnEnd_of_unadmitted (h : s.sec.burn = none ∨ s.sec.burning = false) : exec .fuseBurnEnd s = .next s := by
  refine congrArg Host.Outcome.next ?_
  show s.burnEnd = s
  unfold State.burnEnd
  split
  · rfl
  · next burn => exact if_pos (by rw [h.resolve_left (by rw [burn]; simp)]; rfl)

/-! ### The burn (R400, R419, R420) -/

/-- What a frame says of three parts. -/
theorem State.Frame.sec_eq {l : List Part} (h : s.Frame l t) (out : .sec ∉ l) : t.sec = s.sec := h .sec out

theorem State.Frame.hay_eq {l : List Part} (h : s.Frame l t) (out : .hay ∉ l) : t.hay = s.hay := h .hay out

theorem State.Frame.pwr_eq {l : List Part} (h : s.Frame l t) (out : .pwr ∉ l) : t.pwr = s.pwr := h .pwr out

/-- The lifecycle has changed and is recorded, and escrow holds nothing for the burn. -/
def State.burnRecorded (s : State) (target : Nat) : State :=
  ({ s.wr R.SEC_STAT_LIFECYCLE target with sec.burn := none, sec.burning := false, sec.ops := s.sec.ops.drop 1 }.escEnd .fuse).record 2 0x13
    (le 1 s.lifecycle ++ le 1 target)

/-- The state once a burn that no command waits for has changed the lifecycle. -/
def State.burnt (s : State) (target : Nat) : State := ((s.burnRecorded target).showSlot 6).recert

theorem burnRecorded_frame (s : State) (target : Nat) : s.Frame [.regs, .pwr, .spoke, .hay, .sec, .flt] (s.burnRecorded target) := by
  have wrote : s.Frame [.regs, .pwr, .spoke, .hay, .sec, .flt] (s.wr R.SEC_STAT_LIFECYCLE target) :=
    State.wr_frame (Covers.refl.sub rfl) State.Frame.refl
  exact State.record_frame (Covers.refl.sub rfl) (State.escEnd_frame (Covers.refl.sub rfl) (wrote.sec (by decide)))

/-- Showing a slot writes registers alone, and the certified configuration follows in registers, channels and faults. -/
theorem recert_showSlot_frame (v : State) (n : Nat) : v.Frame [.regs, .spoke, .flt] (v.showSlot n).recert :=
  State.recert_frame (Covers.refl.sub rfl) (State.showSlot_frame (Covers.refl.sub rfl) State.Frame.refl)

theorem burnt_frame (s : State) (target : Nat) : s.Frame [.regs, .pwr, .spoke, .hay, .sec, .flt] (s.burnt target) :=
  (burnRecorded_frame s target).trans ((recert_showSlot_frame (s.burnRecorded target) 6).mono (Covers.refl.sub rfl))

theorem burnt_sec (s : State) (target : Nat) :
    (s.burnt target).sec = { s.sec with burn := none, burning := false, ops := s.sec.ops.drop 1 } :=
  ((recert_showSlot_frame (s.burnRecorded target) 6).sec_eq (by decide)).trans (State.record_sec ..)

theorem burnt_hay (s : State) (target : Nat) :
    (s.burnt target).hay = (s.record 2 0x13 (le 1 (s.rd R.SEC_STAT_LIFECYCLE) ++ le 1 target)).hay :=
  ((recert_showSlot_frame (s.burnRecorded target) 6).hay_eq (by decide)).trans (record_hay_congr rfl rfl)

theorem burnt_hold (s : State) (target : Nat) : ∀ e ∈ (s.burnt target).pwr.hold, e.kind ≠ EscKind.fuse := by
  have kept : (s.burnt target).pwr = (s.escEnd .fuse).pwr :=
    ((recert_showSlot_frame (s.burnRecorded target) 6).pwr_eq (by decide)).trans (State.record_pwr ..)
  intro e he
  rw [kept] at he
  exact of_decide_eq_true (List.mem_filter.mp he).2

/-- Showing a slot changes the fields of the slots and SEC_DEV alone. -/
theorem showSlot_rd_other {k : Nat} (n : Nat) (h : k / 1024 < 0x6802) : (s.showSlot n).rd k = s.rd k := by
  have fields : (s.wrs [(R.SEC_SLOT_KIND n, (s.keySlot n).kind), (R.SEC_SLOT_USE n, (s.keySlot n).use),
      (R.SEC_SLOT_GEN n, (s.keySlot n).gen)]).rd k = s.rd k := wrs_rd_other fun w hw => by
    simp only [List.mem_cons, List.not_mem_nil, or_false] at hw
    rcases hw with rfl | rfl | rfl <;> simp only [R.SEC_SLOT_KIND, R.SEC_SLOT_USE, R.SEC_SLOT_GEN] <;> omega
  unfold State.showSlot
  dsimp only
  split
  · rw [State.wr_rd_other _ _ (by simp only [R.SEC_DEV_IDPUB]; omega), fields]
  · exact fields

/-- The certified configuration is one field, with a fault on leaving it. -/
theorem recert_rd_other {k : Nat} (low : k / 1024 < 0x7000) (other : R.SEC_STAT_CERT ≠ k) : s.recert.rd k = s.rd k := by
  have told : ∀ d, ((s.wrB R.SEC_STAT_CERT s.certNow).secNote 8 0 d).rd k = s.rd k := fun d => by
    rw [State.secNote_rd]
    exact State.wr_rd_other s _ other
  unfold State.recert
  dsimp only
  split
  · rfl
  · split
    · exact told _
    · rw [fault_rd_other _ _ _ _ _ _ low, told]

theorem burnt_lifecycle (s : State) (target : Nat) : (s.burnt target).rd R.SEC_STAT_LIFECYCLE = target := by
  unfold State.burnt State.burnRecorded
  rw [recert_rd_other (by decide) (by decide), showSlot_rd_other 6 (by decide), State.record_rd]
  exact State.wr_rd_same s R.SEC_STAT_LIFECYCLE target

theorem burnt_gate (target : Nat) (gate : s.gatesClosed = false) : (s.burnt target).gatesClosed = false := by
  unfold State.gatesClosed State.on at gate ⊢
  unfold State.burnt State.burnRecorded
  rw [recert_rd_other (by decide) (by decide), showSlot_rd_other 6 (by decide), State.record_rd]
  exact (congrArg (· == 1) (State.wr_rd_other s target (by decide : R.SEC_STAT_LIFECYCLE ≠ R.PWR_STAT_PFI))).trans gate

/-! ### DEVELOPMENT to PROVISIONED and FIELD -/

theorem burnEnd_of_change {target : Nat} (burn : s.sec.burn = some (target, none)) (burning : s.sec.burning = true) (stays : target ≠ 3) :
    s.burnEnd = (s.burnt target).secAdvance := by
  unfold State.burnEnd
  rw [burn]
  dsimp only
  rw [burning, if_neg (by decide)]
  exact if_neg stays

theorem burnEnd_changes {target : Nat} (burn : s.sec.burn = some (target, none)) (burning : s.sec.burning = true)
    (stays : target = 1 ∨ target = 2) (short : s.sec.ops.length ≤ 1) : ∃ t, exec .fuseBurnEnd s = .next t ∧
    t.rd R.SEC_STAT_LIFECYCLE = target ∧ t.sec = { s.sec with burn := none, burning := false, ops := [] } ∧
    t.hay = (s.record 2 0x13 (le 1 (s.rd R.SEC_STAT_LIFECYCLE) ++ le 1 target)).hay ∧ (∀ e ∈ t.pwr.hold, e.kind ≠ EscKind.fuse) ∧
    s.Frame [.regs, .pwr, .spoke, .hay, .sec, .flt] t := by
  have sec := burnt_sec s target
  rw [List.drop_eq_nil_of_le short] at sec
  have idle : (s.burnt target).secAdvance = s.burnt target := secLoop_of_empty (by rw [sec]) _
  exact ⟨s.burnt target, congrArg Host.Outcome.next ((burnEnd_of_change burn burning (by omega)).trans idle), burnt_lifecycle s target, sec,
    burnt_hay s target, burnt_hold s target, burnt_frame s target⟩

/-! ### RETURNED (R402) -/

/-- What the burn of RETURNED tells before it destroys the keys: the lifecycle, and FAULT to a START that waits. -/
def State.returnTold (s : State) : State :=
  (if (s.burnt 3).on R.SEC_STAT_CERT = ((s.burnRecorded 3).showSlot 6).on R.SEC_STAT_CERT then
    (s.burnt 3).secNote 8 0 (b2n (((s.burnRecorded 3).showSlot 6).on R.SEC_STAT_CERT) + 4 * 3)
  else s.burnt 3).finish? (s.sec.pair.map (·.cmd)) stFault

theorem burnEnd_of_return (burn : s.sec.burn = some (3, none)) (burning : s.sec.burning = true) :
    s.burnEnd = s.returnTold.destroyKeys.closeChannels := by
  unfold State.burnEnd
  rw [burn]
  dsimp only
  rw [burning, if_neg (by decide)]
  exact if_pos rfl

theorem returnTold_frame (s : State) : (s.burnt 3).Frame [.spoke, .flt] s.returnTold :=
  State.finish?_frame (Covers.refl.sub rfl) (frame_ite (State.secNote_frame (Covers.refl.sub rfl) State.Frame.refl) State.Frame.refl)

theorem State.Frame.regs_eq {l : List Part} (h : s.Frame l t) (out : .regs ∉ l) : t.regs = s.regs := h .regs out

/-- A slot of an empty store is shown empty. -/
theorem showSlot_of_empty (empty : s.sec.slots = []) (n m : Nat) :
    (s.showSlot n).rd (R.SEC_SLOT_KIND m) = if n = m then 0 else s.rd (R.SEC_SLOT_KIND m) := by
  have shown : (s.wrs [(R.SEC_SLOT_KIND n, 0), (R.SEC_SLOT_USE n, 0), (R.SEC_SLOT_GEN n, 0)]).rd (R.SEC_SLOT_KIND m) =
      if n = m then 0 else s.rd (R.SEC_SLOT_KIND m) := by
    have same : R.SEC_SLOT_KIND n = R.SEC_SLOT_KIND m ↔ n = m := by simp only [R.SEC_SLOT_KIND]; omega
    rw [State.wrs_cons, State.wrs_cons, State.wrs_cons, State.wrs_nil,
      State.wr_rd_other _ _ (by simp only [R.SEC_SLOT_GEN, R.SEC_SLOT_KIND]; omega),
      State.wr_rd_other _ _ (by simp only [R.SEC_SLOT_USE, R.SEC_SLOT_KIND]; omega), rd_wr]
    exact if_congr same rfl rfl
  unfold State.showSlot State.keySlot
  rw [empty]
  dsimp only [mget?, Option.getD_none]
  split
  · rw [State.wr_rd_other _ _ (by simp only [R.SEC_DEV_IDPUB, R.SEC_SLOT_KIND]; omega)]
    exact shown
  · exact shown

theorem shown_of_empty (empty : s.sec.slots = []) {l : List Nat} {m : Nat} (h : m ∈ l ∨ s.rd (R.SEC_SLOT_KIND m) = 0) :
    (s.each l fun s n => s.showSlot n).rd (R.SEC_SLOT_KIND m) = 0 := by
  induction l generalizing s with
  | nil => exact h.resolve_left List.not_mem_nil
  | cons n l ih =>
    have kept : (s.showSlot n).sec = s.sec :=
      (State.showSlot_frame (l := [.regs]) (Covers.refl.sub rfl) State.Frame.refl).sec_eq (by decide)
    refine ih (s := s.showSlot n) (by rw [kept, empty]) ?_
    rw [showSlot_of_empty empty]
    by_cases same : n = m
    · exact .inr (if_pos same)
    · rw [if_neg same]
      exact h.imp_left fun listed => (List.mem_cons.mp listed).resolve_left (Ne.symm same)

/-- The slots are undecryptable, and pairing has ended. -/
def State.keysGone (s : State) : State :=
  { s with sec.returned := true, sec.slots := [], sec.made := [], sec.pairWin := none, sec.pair := none }

/-- The slots are shown empty. -/
def State.slotsCleared (s : State) : State := (s.keysGone.each (List.range 32) fun s n => s.showSlot n).wr R.SEC_STAT_PAIR_WIN 0

theorem destroyKeys_eq (s : State) : s.destroyKeys = s.slotsCleared.each (List.range 32) fun s n => s.secStart none none (.erase n) := rfl

theorem slotsCleared_frame (s : State) : s.keysGone.Frame [.regs] s.slotsCleared :=
  State.wr_frame (Covers.refl.sub rfl) (State.each_frame State.Frame.refl fun _ _ h => State.showSlot_frame (Covers.refl.sub rfl) h)

theorem slotsCleared_rd_other {k : Nat} (low : k / 1024 < 0x6802) (other : R.SEC_STAT_PAIR_WIN ≠ k) : s.slotsCleared.rd k = s.rd k := by
  unfold State.slotsCleared
  rw [State.wr_rd_other _ _ other]
  exact each_keeps (φ := fun s => s.rd k) (fun s n _ => showSlot_rd_other n low) s.keysGone

theorem slotsCleared_kind {m : Nat} (h : m < 32) : s.slotsCleared.rd (R.SEC_SLOT_KIND m) = 0 := by
  unfold State.slotsCleared
  rw [State.wr_rd_other _ _ (by simp only [R.SEC_STAT_PAIR_WIN, R.SEC_SLOT_KIND]; omega)]
  exact shown_of_empty (s := s.keysGone) rfl (.inl (List.mem_range.mpr h))

/-- An operation that starts behind one that waits joins the end. -/
theorem secStart_of_waiting {o : SecOp} {rest : List SecOp} (front : s.sec.ops = o :: rest) (waits : o.asked ≠ o.phase) (cmd : Option Ref)
    (cmdseq : Option Nat) (act : SecAct) : s.secStart cmd cmdseq act = { s with
      sec.ops := o :: (rest ++ [⟨s.sec.nextId, cmd, act, cmdseq, 0, 0⟩]), sec.nextId := s.sec.nextId + 1 } := by
  unfold State.secStart State.secAdvance
  dsimp only
  rw [front]
  exact secLoop_of_waiting rfl (.inr waits) _

/-- Erasures that start behind an operation that waits join the end, in order. -/
theorem eraseEach_of_waiting {o : SecOp} {rest : List SecOp} (front : s.sec.ops = o :: rest) (waits : o.asked ≠ o.phase) (l : List Nat) :
    ∃ ops id, s.each l (fun s n => s.secStart none none (.erase n)) = { s with sec.ops := ops, sec.nextId := id } ∧
    ops.map (·.act) = (o :: rest).map (·.act) ++ l.map SecAct.erase := by
  induction l generalizing s rest with
  | nil => exact ⟨_, _, rfl, by rw [front]; exact (List.append_nil _).symm⟩
  | cons n l ih =>
    have first := secStart_of_waiting front waits none none (.erase n)
    obtain ⟨ops, id, runs, acts⟩ := ih (s := { s with
      sec.ops := o :: (rest ++ [⟨s.sec.nextId, none, .erase n, none, 0, 0⟩]), sec.nextId := s.sec.nextId + 1 }) rfl
    refine ⟨ops, id, ?_, ?_⟩
    · show (s.secStart none none (.erase n)).each l _ = _
      rw [first, runs]
    · rw [acts, ← List.cons_append, List.map_append, List.append_assoc]
      rfl

/-- Erasures that start while no operation runs: the first asks for its page, the others wait behind it. -/
theorem eraseEach_of_idle (idle : s.sec.ops = []) (unburnt : s.sec.burn = none) (gate : s.gatesClosed = false) (n : Nat) (l : List Nat) :
    ∃ ops id hay, s.each (n :: l) (fun s n => s.secStart none none (.erase n)) = { s with sec.ops := ops, sec.nextId := id, hay := hay } ∧
    ops.map (·.act) = (n :: l).map SecAct.erase := by
  have first := secStart_asks (cmd := none) (cmdseq := none) (act := .erase n) (page := 0x8C0 + n) (image := List.replicate 64 0xFF) idle
    unburnt gate rfl
  obtain ⟨ops, id, runs, acts⟩ := eraseEach_of_waiting (s := s.secStart none none (.erase n)) (by rw [first])
    (o := ⟨s.sec.nextId, none, .erase n, none, 0, 1⟩) (rest := []) Nat.one_ne_zero l
  refine ⟨ops, id, (s.secStart none none (.erase n)).hay, ?_, acts⟩
  refine runs.trans ?_
  rw [first]

theorem closeChannels_chan {n : Nat} (h : n < 32) : s.closeChannels.chan n =
    { s.chan n with isOpen := false, mask := 0, bind := none, hello := none } :=
  each_view (φ := fun s n => s.chan n) (F := fun c => { c with isOpen := false, mask := 0, bind := none, hello := none })
    (fun s n => by rw [State.modChan_chan, if_pos rfl]) (fun s n k other => by rw [State.modChan_chan, if_neg other]) List.nodup_range
    (List.mem_range.mpr h) s

/-- Closing the channels leaves the registers and the tack room as they were, here behind the erasures that were asked for. -/
theorem closeChannels_keeps (s : State) (ops : List SecOp) (id : Nat) (hay : Hay) :
    ({ s with sec.ops := ops, sec.nextId := id, hay := hay } : State).closeChannels.regs = s.regs ∧
    ({ s with sec.ops := ops, sec.nextId := id, hay := hay } : State).closeChannels.sec = { s.sec with ops := ops, nextId := id } := by
  have closed := State.closeChannels_frame (l := [.spoke]) (x1 := { s with sec.ops := ops, sec.nextId := id, hay := hay })
    (Covers.refl.sub rfl) State.Frame.refl
  exact ⟨closed.regs_eq (by decide), closed.sec_eq (by decide)⟩

theorem burnEnd_returns (burn : s.sec.burn = some (3, none)) (burning : s.sec.burning = true) (short : s.sec.ops.length ≤ 1)
    (gate : s.gatesClosed = false) : ∃ t, exec .fuseBurnEnd s = .next t ∧
    t.rd R.SEC_STAT_LIFECYCLE = 3 ∧ t.sec.returned = true ∧ t.sec.slots = [] ∧ t.sec.burn = none ∧ t.sec.pairWin = none ∧ t.sec.pair = none ∧
    (∀ n, n < 32 → t.rd (R.SEC_SLOT_KIND n) = 0) ∧ (∀ n, n < 32 → (t.chan n).isOpen = false ∧ (t.chan n).bind = none ∧ (t.chan n).hello = none) ∧
    t.sec.ops.map (·.act) = (List.range 32).map SecAct.erase ∧ t.keysUsable = false ∧ s.Frame [.regs, .free, .pwr, .spoke, .hay, .sec, .flt] t := by
  have told := returnTold_frame s
  have regs : s.returnTold.regs = (s.burnt 3).regs := told.regs_eq (by decide)
  have sec : s.returnTold.slotsCleared.sec = s.returnTold.keysGone.sec := (slotsCleared_frame s.returnTold).sec_eq (by decide)
  have base : s.returnTold.sec = { s.sec with burn := none, burning := false, ops := [] } := by
    rw [told.sec_eq (by decide), burnt_sec, List.drop_eq_nil_of_le short]
  have idle : s.returnTold.slotsCleared.sec.ops = [] := by
    rw [sec]
    exact congrArg Sec.ops base
  have unburnt : s.returnTold.slotsCleared.sec.burn = none := by
    rw [sec]
    exact congrArg Sec.burn base
  have still : s.returnTold.slotsCleared.gatesClosed = false := by
    have open_ := burnt_gate (s := s) 3 gate
    unfold State.gatesClosed State.on at open_ ⊢
    rw [slotsCleared_rd_other (by decide) (by decide), rd_congr regs]
    exact open_
  obtain ⟨ops, id, hay, erased, acts⟩ := eraseEach_of_idle idle unburnt still 0 ((List.range 31).map (· + 1))
  let v : State := { s.returnTold.slotsCleared with sec.ops := ops, sec.nextId := id, hay := hay }
  have runs : s.burnEnd = v.closeChannels :=
    (burnEnd_of_return burn burning).trans (congrArg State.closeChannels ((destroyKeys_eq s.returnTold).trans erased))
  obtain ⟨vregs, kept⟩ := closeChannels_keeps s.returnTold.slotsCleared ops id hay
  have vsec : v.closeChannels.sec = { s.returnTold.keysGone.sec with ops := ops, nextId := id } := kept.trans (by rw [sec])
  have rd : ∀ k, v.closeChannels.rd k = s.returnTold.slotsCleared.rd k := fun k => rd_congr vregs k
  have life : v.closeChannels.rd R.SEC_STAT_LIFECYCLE = 3 := by
    rw [rd, slotsCleared_rd_other (by decide) (by decide), rd_congr regs, burnt_lifecycle]
  refine ⟨v.closeChannels, congrArg Host.Outcome.next runs, life, ?_, ?_, ?_, ?_, ?_, ?_, ?_, ?_, not_keysUsable_of (.inr life), ?_⟩
  · rw [vsec]
    rfl
  · rw [vsec]
    rfl
  · rw [vsec]
    exact congrArg Sec.burn base
  · rw [vsec]
    rfl
  · rw [vsec]
    rfl
  · exact fun n small => (rd _).trans (slotsCleared_kind small)
  · intro n small
    rw [closeChannels_chan small]
    exact ⟨rfl, rfl, rfl⟩
  · rw [vsec]
    exact acts.trans (by decide)
  · rw [← runs]
    exact State.burnEnd_frame (Covers.refl.sub rfl) State.Frame.refl

/-! ### The obligation -/

/-- Settles O57: each command through its checks, then each step of the operation it starts, then the burn. -/
theorem keysAndLifecycle : Obligations.KeysAndLifecycle := by
  unfold Obligations.KeysAndLifecycle
  refine ⟨?_, ?_, ?_, ?_, ?_, ?_, ?_, ?_, ?_, ?_, ?_, ?_⟩
  · exact fun s c slot use b ready payload len slotOk byte owner life power gate idle unburnt =>
      secKeyPut_outcomes ready payload len slotOk byte owner life power gate idle unburnt
  · exact fun s c slot b i sub a ready payload len kind life power gate idle unburnt =>
      secKeyShort_outcomes ready payload len kind life power gate idle unburnt
  · exact fun s c ready nonempty => secKey_refused ready nonempty
  · exact fun s o n k x q one act signed_ phase asked unburnt gate => key_asks one act signed_ phase asked unburnt gate
  · exact fun s o n k x r one act stored cmd phase asked unburnt notIdentity =>
      key_done one act stored cmd phase asked unburnt notIdentity
  · exact fun s c root ready payload len blank channel power drbg sound gate idle unburnt =>
      provision_outcomes ready payload len blank channel power drbg sound gate idle unburnt
  · exact fun s c i target ready len first kind power gate idle unburnt =>
      lifecycle_outcomes ready len first kind power gate idle unburnt
  · exact fun s c ready nonempty => lifecycle_refused ready nonempty
  · exact fun s o target q one act signed_ phase asked unburnt possible gate =>
      life_asks one act signed_ phase asked unburnt possible gate
  · exact fun s h => burnEnd_of_unadmitted h
  · exact fun s target burn burning stays short => burnEnd_changes burn burning stays short
  · exact fun s burn burning short gate => burnEnd_returns burn burning short gate

end Sys2Proof.Machine
end

section
/-!
PROOFS. SEC_HELLO and SEC_AUTH, the lapse of a handshake and the end of a lockout (R415, R416, 16_security.md).
-/

namespace Sys2Proof.Machine

variable {s t u : State} {c : Cmd} {op : Nat}

/-! ### A started command whose channel changes in what no reply depends on -/

theorem State.Started.modChan {l : List Pkt} {f : Channel → Channel} (h : s.Started c op l u)
    (keeps : (f (u.chan c.ch)).epoch = (u.chan c.ch).epoch ∧ (f (u.chan c.ch)).outq = (u.chan c.ch).outq ∧
      (f (u.chan c.ch)).uses = (u.chan c.ch).uses ∧ (f (u.chan c.ch)).waits = (u.chan c.ch).waits ∧
      (f (u.chan c.ch)).bind = (u.chan c.ch).bind) : s.Started c op l (u.modChan c.ch f) := by
  obtain ⟨epoch, outq, uses, waits, bind⟩ := keeps
  have own : (u.modChan c.ch f).chan c.ch = f (u.chan c.ch) := by rw [State.modChan_chan, if_pos rfl]
  exact ⟨h.calm, by rw [own, epoch, h.epoch], by rw [own, outq, h.outq], by rw [own, uses, h.uses], by rw [own, waits, h.waits],
    by rw [own, bind, h.unbound], fun k other => by rw [State.modChan_chan, if_neg other.symm, h.others k other]⟩

theorem State.modChan_frame_self (s : State) (n : Nat) (f : Channel → Channel) : s.Frame [.spoke] (s.modChan n f) :=
  State.modChan_frame (Covers.refl.sub rfl) State.Frame.refl

/-! ### SEC_HELLO (R415) -/

/-- The checks of a SEC_HELLO behind its length. -/
def State.helloChecks (s : State) (c : Cmd) (mode slot : Nat) : List (Bool × Nat) :=
  [param (decide (1 < mode) || !s.helloSlot mode slot c.ch),
    permitted (decide (c.ch.val < 24) && !s.locked c.ch && !(mode == 1 && decide (16 ≤ c.ch.val)) && s.notInPowerFail),
    (!s.randomOk, stFault)]

theorem begin_locked (ready : s.Ready c) : (s.begin c op).2.locked c.ch = s.locked c.ch := by
  unfold State.locked
  rw [begin_chan ready]
  rfl

theorem doSecHello_eq (ready : s.Ready c) (p : Bytes) : (s.begin c 0x68).2.doSecHello (s.refOf c 0x68) p =
    (s.begin c 0x68).2.checked (s.refOf c 0x68) (lengthIs p 18 :: s.helloChecks c (u8 p 0) (u8 p 1)) fun v =>
      v.helloStart (s.refOf c 0x68) p := by
  have unbound : ((s.begin c 0x68).2.chan c.ch).bind.isNone = true := by
    rw [begin_chan ready]
    exact Option.isNone_iff_eq_none.mpr ready.bind
  unfold State.doSecHello
  dsimp only
  rw [show (s.refOf c 0x68).ch = c.ch.val from rfl, unbound, begin_locked ready, Bool.and_true]
  rfl

/-- The bytes of a SEC_HELLO payload. -/
theorem helloOperands {mode slot : Nat} {cn : Bytes} (modeByte : mode < 256) (slotByte : slot < 256) (len : cn.length = 16) :
    u8 (le 1 mode ++ le 1 slot ++ cn) 0 = mode ∧ u8 (le 1 mode ++ le 1 slot ++ cn) 1 = slot ∧
    sub (le 1 mode ++ le 1 slot ++ cn) 2 16 = cn ∧ (le 1 mode ++ le 1 slot ++ cn).length = 18 := by
  refine ⟨u8_middle (a := []) (x := le 1 slot ++ cn) (by simp only [List.append_assoc, List.nil_append]) rfl modeByte,
    u8_middle (a := le 1 mode) (x := cn) (by simp only [List.append_assoc]) (le_length ..) slotByte,
    sub_middle (a := le 1 mode ++ le 1 slot) (c := []) (by rw [List.append_nil]) (by simp only [List.length_append, le_length]) len, ?_⟩
  rw [List.length_append, List.length_append, le_length, le_length, len]

theorem helloStart_posts {p : Bytes} (ready : s.Ready c) : ∃ hn, hn = s.random 16 ∧
    ∃ d, d = (if u8 p 0 = 0 then hn.2.random 32 else ([], hn.2)) ∧ ∃ hp : Bytes, hp = (if u8 p 0 = 0 then Config.p256Public d.1 else []) ∧
    ∃ t, (s.begin c 0x68).2.helloStart (s.refOf c 0x68) p = t ∧ s.Posts c [interimPkt c 0x68, finalPkt c 0x68 stOk (hn.1 ++ hp)] t ∧
    (t.chan c.ch).uses = (s.chan c.ch).uses ∧
    (t.chan c.ch).hello = some ⟨u8 p 0, u8 p 1, sub p 2 16, hn.1, [], d.1, hp, s.ticks + 16384, false⟩ ∧
    (t.chan c.ch).bind = none ∧ s.Frame [.free, .spoke] t := by
  let u := (s.begin c 0x68).2
  let d := if u8 p 0 = 0 then (u.random 16).2.random 32 else ([], (u.random 16).2)
  have drawn : d.1 = (if u8 p 0 = 0 then (s.random 16).2.random 32 else ([], (s.random 16).2)).1 := by
    show (if u8 p 0 = 0 then (u.random 16).2.random 32 else ([], (u.random 16).2)).1 = _
    split <;> rfl
  have spoke : d.2.spoke = u.spoke := by
    show (if u8 p 0 = 0 then (u.random 16).2.random 32 else ([], (u.random 16).2)).2.spoke = _
    split <;> rfl
  have flt : d.2.flt = u.flt := by
    show (if u8 p 0 = 0 then (u.random 16).2.random 32 else ([], (u.random 16).2)).2.flt = _
    split <;> rfl
  have frame : s.Frame [.free, .spoke] d.2 := by
    have begun : s.Frame [.free, .spoke] u := begin_frame_spoke.mono (Covers.refl.sub rfl)
    show s.Frame _ (if u8 p 0 = 0 then (u.random 16).2.random 32 else ([], (u.random 16).2)).2
    split
    · exact (begun.free (by decide)).free (by decide)
    · exact begun.free (by decide)
  have started : s.Started c 0x68 [] d.2 := (started_begin ready).of_eq spoke flt
  refine ⟨_, rfl, _, rfl, _, rfl, _, rfl, ?_⟩
  rw [← drawn]
  let hp := if u8 p 0 = 0 then Config.p256Public d.1 else []
  let h : Hello := ⟨u8 p 0, u8 p 1, sub p 2 16, (s.random 16).1, [], d.1, hp, s.ticks + 16384, false⟩
  let v := (d.2.accepted (s.refOf c 0x68)).modChan c.ch fun x => { x with hello := some h }
  have live : s.Started c 0x68 [interimPkt c 0x68] v := (started.accepted ready).modChan ⟨rfl, rfl, rfl, rfl, rfl⟩
  have own := live.finish_chan (status := stOk) (extra := (s.random 16).1 ++ hp) ready fun q hq => by rw [List.mem_singleton.mp hq]; rfl
  have posts := live.accepted_posts (status := stOk) (extra := (s.random 16).1 ++ hp) ready
  have vframe : s.Frame [.free, .spoke] v :=
    State.modChan_frame (Covers.refl.sub rfl) (State.accepted_frame (Covers.refl.sub rfl) frame)
  have vchan : v.chan c.ch = { (d.2.accepted (s.refOf c 0x68)).chan c.ch with hello := some h } := by
    rw [State.modChan_chan, if_pos rfl]
  refine ⟨posts.1, posts.2, ?_, ?_, live.finish_frame vframe (by decide)⟩
  · exact (congrArg Channel.hello own).trans (congrArg Channel.hello vchan)
  · exact (congrArg Channel.bind own).trans live.unbound

/-- A slot whose key is of the mode's kind serves a SEC_HELLO of that mode. -/
theorem helloSlot_of_kind {mode slot ch : Nat} (life : s.rd R.SEC_STAT_LIFECYCLE = 1 ∨ s.rd R.SEC_STAT_LIFECYCLE = 2)
    (kind : mode = 0 ∧ ch < 24 ∧ 2 ≤ slot ∧ slot ≤ 5 ∧ (s.keySlot slot).kind = 1 ∧
        bit (s.keySlot slot).use (if ch < 16 then 0 else if ch < 20 then 1 else 2) = true ∨
      mode = 1 ∧ ch < 16 ∧ 8 ≤ slot ∧ slot ≤ 15 ∧ (s.keySlot slot).kind = 3) : s.helloSlot mode slot ch = true := by
  unfold State.helloSlot
  dsimp only
  rw [keysUsable_of life, Bool.true_and]
  rcases kind with ⟨rfl, -, low, high, key, use⟩ | ⟨rfl, -, low, high, key⟩
  · rw [if_pos rfl, decide_eq_true ⟨low, high⟩, key, use, Bool.or_true]
    rfl
  · rw [if_neg (by decide), decide_eq_true ⟨low, high⟩, key]
    rfl

theorem helloChecks_of_good {mode slot : Nat} (life : s.rd R.SEC_STAT_LIFECYCLE = 1 ∨ s.rd R.SEC_STAT_LIFECYCLE = 2)
    (kind : mode = 0 ∧ c.ch.val < 24 ∧ 2 ≤ slot ∧ slot ≤ 5 ∧ (s.keySlot slot).kind = 1 ∧
        bit (s.keySlot slot).use (if c.ch.val < 16 then 0 else if c.ch.val < 20 then 1 else 2) = true ∨
      mode = 1 ∧ c.ch.val < 16 ∧ 8 ≤ slot ∧ slot ≤ 15 ∧ (s.keySlot slot).kind = 3)
    (unlocked : s.locked c.ch = false) (power : s.rd R.PWR_STAT_PFSEQ ≠ 1) (random : s.randomOk = true) :
    firstBad (s.helloChecks c mode slot) = stOk := by
  have range : decide (1 < mode) = false := decide_eq_false (by omega)
  have remote : (mode == 1 && decide (16 ≤ c.ch.val)) = false := by
    rcases kind with ⟨rfl, -⟩ | ⟨rfl, local_, -⟩
    · rfl
    · rw [decide_eq_false (by omega), Bool.and_false]
  unfold State.helloChecks
  rw [helloSlot_of_kind life kind, range, unlocked, remote, notInPowerFail_of power, random, decide_eq_true (by omega)]
  rfl

theorem hello_served {mode slot : Nat} {cn : Bytes} (ready : s.Ready c) (payload : c.payload = le 1 mode ++ le 1 slot ++ cn)
    (len : cn.length = 16) (life : s.rd R.SEC_STAT_LIFECYCLE = 1 ∨ s.rd R.SEC_STAT_LIFECYCLE = 2)
    (kind : mode = 0 ∧ c.ch.val < 24 ∧ 2 ≤ slot ∧ slot ≤ 5 ∧ (s.keySlot slot).kind = 1 ∧
        bit (s.keySlot slot).use (if c.ch.val < 16 then 0 else if c.ch.val < 20 then 1 else 2) = true ∨
      mode = 1 ∧ c.ch.val < 16 ∧ 8 ≤ slot ∧ slot ≤ 15 ∧ (s.keySlot slot).kind = 3)
    (unlocked : s.locked c.ch = false) (power : s.rd R.PWR_STAT_PFSEQ ≠ 1) (random : s.randomOk = true) : ∃ hn, hn = s.random 16 ∧
    ∃ d, d = (if mode = 0 then hn.2.random 32 else ([], hn.2)) ∧ ∃ hp : Bytes, hp = (if mode = 0 then Config.p256Public d.1 else []) ∧
    ∃ t, exec (.secHello c) s = .next t ∧ s.Posts c [interimPkt c 0x68, finalPkt c 0x68 stOk (hn.1 ++ hp)] t ∧
    (t.chan c.ch).uses = (s.chan c.ch).uses ∧ (t.chan c.ch).hello = some ⟨mode, slot, cn, hn.1, [], d.1, hp, s.ticks + 16384, false⟩ ∧
    (t.chan c.ch).bind = none ∧ s.Frame [.free, .spoke] t := by
  obtain ⟨modeByte, slotByte, nonce, long⟩ := helloOperands (mode := mode) (slot := slot) (cn := cn) (by omega) (by omega) len
  have runs : exec (.secHello c) s = .next ((s.begin c 0x68).2.helloStart (s.refOf c 0x68) c.payload) := by
    refine congrArg Host.Outcome.next ((doSecHello_eq ready c.payload).trans (checked_ok ?_))
    rw [payload, firstBad_of_length long, modeByte, slotByte]
    exact helloChecks_of_good life kind unlocked power random
  have posts := helloStart_posts (p := c.payload) ready
  rw [payload, modeByte, slotByte, nonce] at posts
  rw [runs, payload]
  obtain ⟨hn, hn_, d, d_, hp, hp_, t, started, effect⟩ := posts
  exact ⟨hn, hn_, d, d_, hp, hp_, t, congrArg Host.Outcome.next started, effect⟩

theorem randomOk_eq_false (h : s.sec.drbg = false ∨ s.rd R.SEC_STAT_ENT_FAIL = 1) : s.randomOk = false := by
  unfold State.randomOk
  rcases h with drbg | failed
  · rw [drbg, Bool.false_and]
  · rw [State.on_iff.mpr failed, Bool.not_true, Bool.and_false]

theorem hello_refused (ready : s.Ready c) : (c.payload.length ≠ 18 → s.Refuses (.secHello c) c 0x68 stBadLength) ∧
    (c.payload.length = 18 → 1 < u8 c.payload 0 ∨ s.helloSlot (u8 c.payload 0) (u8 c.payload 1) c.ch = false →
      s.Refuses (.secHello c) c 0x68 stBadParam) ∧
    (c.payload.length = 18 → u8 c.payload 0 ≤ 1 → s.helloSlot (u8 c.payload 0) (u8 c.payload 1) c.ch = true → 24 ≤ c.ch.val ∨
      s.locked c.ch = true ∨ u8 c.payload 0 = 1 ∧ 16 ≤ c.ch.val ∨ s.rd R.PWR_STAT_PFSEQ = 1 → s.Refuses (.secHello c) c 0x68 stNotPermitted) ∧
    (c.payload.length = 18 → u8 c.payload 0 ≤ 1 → s.helloSlot (u8 c.payload 0) (u8 c.payload 1) c.ch = true → c.ch.val < 16 →
      s.locked c.ch = false → s.rd R.PWR_STAT_PFSEQ ≠ 1 → s.sec.drbg = false ∨ s.rd R.SEC_STAT_ENT_FAIL = 1 →
      s.Refuses (.secHello c) c 0x68 stFault) := by
  have refused : ∀ status, firstBad (lengthIs c.payload 18 :: s.helloChecks c (u8 c.payload 0) (u8 c.payload 1)) = status → status ≠ stOk →
      s.Refuses (.secHello c) c 0x68 status := fun status bad ne =>
    refuses_of_check ready (f := State.doSecHello) rfl ⟨_, doSecHello_eq ready c.payload⟩ bad ne
  have params : u8 c.payload 0 ≤ 1 → s.helloSlot (u8 c.payload 0) (u8 c.payload 1) c.ch = true →
      (decide (1 < u8 c.payload 0) || !s.helloSlot (u8 c.payload 0) (u8 c.payload 1) c.ch) = false := fun mode slot => by
    rw [decide_eq_false (by omega), slot]
    rfl
  refine ⟨fun len => ?_, fun len bad => ?_, fun len mode slot forbidden => ?_, fun len mode slot local_ unlocked power broken => ?_⟩
  · exact refused _ (firstBad_of_badLength len _) (by decide)
  · refine refused _ ((firstBad_of_length len _).trans (firstBad_of_badParam ?_ _)) (by decide)
    rcases bad with mode | slot
    · rw [decide_eq_true mode, Bool.true_or]
    · rw [slot, Bool.not_false, Bool.or_true]
  · refine refused _ ((firstBad_of_length len _).trans ((firstBad_of_param (params mode slot) _).trans (firstBad_of_forbidden ?_ _))) (by decide)
    rcases forbidden with far | locked | ⟨symmetric, far⟩ | power
    · rw [decide_eq_false (by omega)]
      rfl
    · rw [locked, Bool.not_true, Bool.and_false]
      rfl
    · rw [symmetric, decide_eq_true far]
      simp
    · rw [inPowerFail_of power, Bool.and_false]
  · refine refused _ ((firstBad_of_length len _).trans ((firstBad_of_param (params mode slot) _).trans
      ((firstBad_of_permitted ?_ _).trans ?_))) (by decide)
    · rw [decide_eq_true (by omega), unlocked, decide_eq_false (show ¬ 16 ≤ c.ch.val by omega), notInPowerFail_of power]
      simp
    · rw [randomOk_eq_false broken]
      rfl

/-! ### A handshake lapses, a lockout ends (R415, R416) -/

theorem modChan_changes (n : Fin 32) (f : Channel → Channel) : (s.modChan n f).chan n = f (s.chan n) ∧
    (∀ k, k ≠ n.val → (s.modChan n f).chan k = s.chan k) ∧ s.Frame [.spoke] (s.modChan n f) :=
  ⟨by rw [State.modChan_chan, if_pos rfl], fun k other => by rw [State.modChan_chan, if_neg other.symm], s.modChan_frame_self n f⟩

theorem handshakeLapse_effect {n : Fin 32} {h : Hello} (hello : (s.chan n).hello = some h) : ∃ t, exec (.handshakeLapse n) s = .next t ∧
    t.chan n = { s.chan n with hello := if h.inTime = true ∨ s.ticks ≤ h.until_ then some h else none } ∧
    (∀ k, k ≠ n.val → t.chan k = s.chan k) ∧ s.Frame [.spoke] t := by
  obtain ⟨own, effect⟩ := modChan_changes (s := s) n fun x => { x with hello := x.hello.filter fun h => s.helloLive h }
  have kept : (some h).filter (fun h => s.helloLive h) = if h.inTime = true ∨ s.ticks ≤ h.until_ then some h else none := by
    rw [Option.filter_some]
    refine if_congr ?_ rfl rfl
    unfold State.helloLive
    rw [Bool.or_eq_true, decide_eq_true_eq]
  rw [hello, kept] at own
  exact ⟨_, rfl, own, effect⟩

theorem lockoutEnd_effect {n : Fin 32} {e : Nat} (locked : (s.chan n).lockEnd = some e) : ∃ t, exec (.lockoutEnd n) s = .next t ∧
    t.chan n = { s.chan n with lockEnd := if s.ticks < e then some e else none } ∧ (∀ k, k ≠ n.val → t.chan k = s.chan k) ∧
    s.Frame [.spoke] t := by
  obtain ⟨own, effect⟩ := modChan_changes (s := s) n fun x => { x with lockEnd := x.lockEnd.filter fun t => decide (s.ticks < t) }
  have kept : (some e).filter (fun t => decide (s.ticks < t)) = if s.ticks < e then some e else none := by
    rw [Option.filter_some]
    exact if_congr decide_eq_true_iff rfl rfl
  rw [locked, kept] at own
  exact ⟨_, rfl, own, effect⟩

end Sys2Proof.Machine
end

section
/-!
PROOFS. SEC_AUTH (R415, R416): what ends a handshake, and the lockout after the fifth failure.
-/

namespace Sys2Proof.Machine

variable {s t u : State} {c : Cmd} {op : Nat}

/-! ### The checks of a SEC_AUTH -/

/-- The checks of a SEC_AUTH, and what it goes on to, by the handshake that is live on its channel. -/
theorem doSecAuth_of_live {r : Ref} {p : Bytes} {h : Hello} (hello : (u.chan r.ch).hello = some h) (live : u.helloLive h = true)
    (len : p.length = if h.mode = 0 then 128 else 16) (alone : ((u.chan r.ch).uses.all fun v => v.tag == r.tag) = true)
    (power : u.notInPowerFail = true) : u.doSecAuth r p =
    (((u.accepted r).modChan r.ch fun x => { x with hello := none }).authenticate r.ch h p).elim
      (((u.accepted r).modChan r.ch fun x => { x with hello := none }).authFailed r h)
      fun e => ((u.accepted r).modChan r.ch fun x => { x with hello := none }).authDone r h e.1 e.2 := by
  have filtered : ((u.chan r.ch).hello.filter fun h => u.helloLive h) = some h := by
    rw [hello, Option.filter_some, if_pos live]
  have size : authSize (some h) p.length = true := by
    unfold authSize
    dsimp only
    rw [len]
    split <;> rfl
  unfold State.doSecAuth
  dsimp only
  rw [filtered, alone, size, power]
  refine (checked_ok (by rfl)).trans ?_
  dsimp only
  split
  · next failed =>
    rw [failed]
    rfl
  · next proved =>
    rw [proved]
    rfl

theorem authenticate_congr (slots : t.sec.slots = s.sec.slots) (ch : Nat) (h : Hello) (p : Bytes) :
    t.authenticate ch h p = s.authenticate ch h p := by
  unfold State.authenticate State.keySlot
  rw [slots]

/-- A key of another kind proves nothing. -/
theorem authenticate_of_kind {ch : Nat} {h : Hello} {p : Bytes} (kind : (s.keySlot h.slot).kind ≠ if h.mode = 0 then 1 else 3) :
    s.authenticate ch h p = none := by
  unfold State.authenticate
  dsimp only
  by_cases mode : h.mode = 0
  · rw [if_pos mode] at kind ⊢
    rw [beq_false_of_ne kind]
    rfl
  · rw [if_neg mode] at kind ⊢
    rw [beq_false_of_ne kind]
    rfl

/-- A SEC_AUTH that is admitted with its handshake live: ACCEPTED, and the handshake has ended. -/
def State.authStarted (s : State) (c : Cmd) : State :=
  ((s.begin c 0x69).2.accepted (s.refOf c 0x69)).modChan c.ch fun x => { x with hello := none }

theorem authStarted_started (ready : s.Ready c) : s.Started c 0x69 [interimPkt c 0x69] (s.authStarted c) :=
  ((started_begin ready).accepted ready).modChan ⟨rfl, rfl, rfl, rfl, rfl⟩

theorem authStarted_chan (ready : s.Ready c) : (s.authStarted c).chan c.ch = { s.chan c.ch with
    uses := (s.chan c.ch).uses ++ [s.useOf c 0x69], outq := (s.chan c.ch).outq ++ [interimPkt c 0x69], hello := none } := by
  unfold State.authStarted
  rw [State.modChan_chan, if_pos rfl, (accepted_chan_of_started (started_begin ready) ready).1, begin_chan ready]
  rfl

theorem authStarted_frame (s : State) (c : Cmd) : s.Frame [.spoke] (s.authStarted c) :=
  State.modChan_frame (Covers.refl.sub rfl) (State.accepted_frame (Covers.refl.sub rfl) begin_frame_spoke)

theorem exec_secAuth {h : Hello} (ready : s.Ready c) (only : (s.chan c.ch).uses = []) (hello : (s.chan c.ch).hello = some h)
    (live : s.ticks ≤ h.until_ ∨ h.inTime = true) (len : c.payload.length = if h.mode = 0 then 128 else 16)
    (power : s.rd R.PWR_STAT_PFSEQ ≠ 1) : exec (.secAuth c) s = .next ((s.authenticate c.ch h c.payload).elim
      ((s.authStarted c).authFailed (s.refOf c 0x69) h) fun e => (s.authStarted c).authDone (s.refOf c 0x69) h e.1 e.2) := by
  have inTime : (s.begin c 0x69).2.helloLive h = true := by
    show (h.inTime || decide (s.ticks ≤ h.until_)) = true
    rw [Bool.or_eq_true, decide_eq_true_eq]
    exact live.symm
  have alone : (((s.begin c 0x69).2.chan c.ch).uses.all fun v => v.tag == c.tag.val) = true := by
    rw [begin_chan ready, only]
    simp
  have body := doSecAuth_of_live (u := (s.begin c 0x69).2) (r := s.refOf c 0x69) (p := c.payload) (h := h)
    (by rw [show (s.refOf c 0x69).ch = c.ch.val from rfl, begin_chan ready]; exact hello) inTime len alone (notInPowerFail_of (s := s) power)
  have proved : ((s.begin c 0x69).2.accepted (s.refOf c 0x69)).modChan c.ch (fun x => { x with hello := none }) = s.authStarted c := rfl
  refine congrArg Host.Outcome.next (body.trans ?_)
  rw [show (s.refOf c 0x69).ch = c.ch.val from rfl, proved,
    authenticate_congr (t := s.authStarted c) (congrArg Sec.slots ((authStarted_frame s c).sec_eq (by decide)))]

/-! ### Success and failure -/

/-- A SESSION record in a state that holds the log and the clock of another. -/
theorem sessionRecord_hay {ch mode slot outcome : Nat} (frame : s.Frame [.spoke] t) :
    (t.sessionRecord ch mode slot outcome).hay = (s.sessionRecord ch mode slot outcome).hay :=
  record_hay_congr (frame.hay_eq (by decide)) (frame .cad (by decide))

/-- A SEC_AUTH that has proved itself, its reply posted, before the channel is bound. -/
def State.authAnswered (s : State) (c : Cmd) (h : Hello) (answer : Bytes) : State :=
  ((s.authStarted c).sessionRecord c.ch h.mode h.slot 0).ok (s.refOf c 0x69) answer

theorem authAnswered_effect (ready : s.Ready c) (h : Hello) (answer : Bytes) : (s.authAnswered c h answer).chan c.ch = { s.chan c.ch with
      outq := (s.chan c.ch).outq ++ [interimPkt c 0x69, finalPkt c 0x69 stOk answer], hello := none } ∧
    (∀ k, k ≠ c.ch.val → (s.authAnswered c h answer).chan k = s.chan k) ∧
    (s.authAnswered c h answer).hay = (s.sessionRecord c.ch h.mode h.slot 0).hay ∧ s.Frame [.spoke, .hay] (s.authAnswered c h answer) := by
  let v := (s.authStarted c).sessionRecord c.ch h.mode h.slot 0
  have started : s.Started c 0x69 [interimPkt c 0x69] v := (authStarted_started ready).of_eq (State.record_spoke ..) (State.record_flt ..)
  have own := started.finish_chan (status := stOk) (extra := answer) ready fun q hq => by rw [List.mem_singleton.mp hq]; rfl
  have vchan : v.chan c.ch = (s.authStarted c).chan c.ch := chan_congr (State.record_spoke ..) _
  have frame : s.Frame [.spoke, .hay] v :=
    State.record_frame (Covers.refl.sub rfl) ((authStarted_frame s c).mono (Covers.refl.sub rfl))
  refine ⟨?_, (started.accepted_posts ready).1.2, ?_, started.finish_frame frame (by decide)⟩
  · refine own.trans ?_
    rw [vchan, authStarted_chan ready]
    rfl
  · exact (State.finish_hay ..).trans (sessionRecord_hay (authStarted_frame s c))

theorem authDone_eq (s : State) (c : Cmd) (h : Hello) (keys answer : Bytes) :
    (s.authStarted c).authDone (s.refOf c 0x69) h keys answer = (s.authAnswered c h answer).modChan c.ch fun x =>
      if x.epoch = (s.refOf c 0x69).epoch then { x with fails := 0, bind := some ⟨keys, h.slot, 0, 0⟩ } else x := rfl

theorem authDone_effect {h : Hello} {keys answer : Bytes} (ready : s.Ready c) : ∃ t,
    (s.authStarted c).authDone (s.refOf c 0x69) h keys answer = t ∧ t.chan c.ch = { s.chan c.ch with
      outq := (s.chan c.ch).outq ++ [interimPkt c 0x69, finalPkt c 0x69 stOk answer], hello := none, fails := 0
      bind := some ⟨keys, h.slot, 0, 0⟩ } ∧ (∀ k, k ≠ c.ch.val → t.chan k = s.chan k) ∧
    t.hay = (s.sessionRecord c.ch h.mode h.slot 0).hay ∧ s.Frame [.spoke, .hay] t := by
  obtain ⟨own, others, hay, frame⟩ := authAnswered_effect ready h answer
  rw [authDone_eq]
  generalize s.authAnswered c h answer = u at own others hay frame ⊢
  refine ⟨_, rfl, ?_, fun k other => ?_, hay, State.modChan_frame (Covers.refl.sub rfl) frame⟩
  · rw [State.modChan_chan, if_pos rfl, own]
    exact if_pos rfl
  · rw [State.modChan_chan, if_neg other.symm, others k other]

/-- A failed SEC_AUTH, its reply posted, before the lockout is judged. -/
def State.authCounted (s : State) (c : Cmd) (h : Hello) : State :=
  (((s.authStarted c).modChan c.ch fun x => { x with fails := x.fails + 1 }).sessionRecord c.ch h.mode h.slot 1).finish (s.refOf c 0x69) stAuthFail

theorem authCounted_effect (ready : s.Ready c) (h : Hello) : (s.authCounted c h).chan c.ch = { s.chan c.ch with
      outq := (s.chan c.ch).outq ++ [interimPkt c 0x69, finalPkt c 0x69 stAuthFail], hello := none, fails := (s.chan c.ch).fails + 1 } ∧
    (∀ k, k ≠ c.ch.val → (s.authCounted c h).chan k = s.chan k) ∧
    (s.authCounted c h).hay = (s.sessionRecord c.ch h.mode h.slot 1).hay ∧ s.Frame [.spoke, .hay] (s.authCounted c h) := by
  let w := (s.authStarted c).modChan c.ch fun x => { x with fails := x.fails + 1 }
  have live : s.Started c 0x69 [interimPkt c 0x69] w := (authStarted_started ready).modChan ⟨rfl, rfl, rfl, rfl, rfl⟩
  have wframe : s.Frame [.spoke] w := State.modChan_frame (Covers.refl.sub rfl) (authStarted_frame s c)
  have wchan : w.chan c.ch = { (s.authStarted c).chan c.ch with fails := ((s.authStarted c).chan c.ch).fails + 1 } := by
    rw [State.modChan_chan, if_pos rfl]
  let v := w.sessionRecord c.ch h.mode h.slot 1
  have started : s.Started c 0x69 [interimPkt c 0x69] v := live.of_eq (State.record_spoke ..) (State.record_flt ..)
  have own := started.finish_chan (status := stAuthFail) (extra := []) ready fun q hq => by rw [List.mem_singleton.mp hq]; rfl
  have vchan : v.chan c.ch = w.chan c.ch := chan_congr (State.record_spoke ..) _
  have frame : s.Frame [.spoke, .hay] v := State.record_frame (Covers.refl.sub rfl) (wframe.mono (Covers.refl.sub rfl))
  refine ⟨?_, (started.accepted_posts ready).1.2, ?_, started.finish_frame frame (by decide)⟩
  · refine own.trans ?_
    rw [vchan, wchan, authStarted_chan ready]
    rfl
  · exact (State.finish_hay ..).trans (sessionRecord_hay wframe)

theorem authFailed_eq (s : State) (c : Cmd) (h : Hello) : (s.authStarted c).authFailed (s.refOf c 0x69) h =
    if 5 ≤ ((s.authCounted c h).chan c.ch).fails then (s.authCounted c h).lockout c.ch h.mode h.slot else s.authCounted c h := rfl

theorem auth_outcomes {h : Hello} (ready : s.Ready c) (only : (s.chan c.ch).uses = []) (hello : (s.chan c.ch).hello = some h)
    (live : s.ticks ≤ h.until_ ∨ h.inTime = true) (len : c.payload.length = if h.mode = 0 then 128 else 16)
    (power : s.rd R.PWR_STAT_PFSEQ ≠ 1) (few : (s.chan c.ch).fails < 4) : ∃ t, exec (.secAuth c) s = .next t ∧
    ∃ a, a = s.authenticate c.ch h c.payload ∧ (t.chan c.ch).hello = none ∧ (t.chan c.ch).uses = [] ∧
    t.hay = (s.sessionRecord c.ch h.mode h.slot (if a = none then 1 else 0)).hay ∧
    (a = none → s.Posts c [interimPkt c 0x69, finalPkt c 0x69 stAuthFail] t ∧ (t.chan c.ch).fails = (s.chan c.ch).fails + 1 ∧
      (t.chan c.ch).bind = none) ∧
    (∀ e ∈ a, s.Posts c [interimPkt c 0x69, finalPkt c 0x69 stOk e.2] t ∧ (t.chan c.ch).fails = 0 ∧
      (t.chan c.ch).bind = some ⟨e.1, h.slot, 0, 0⟩) ∧ s.Frame [.spoke, .hay] t := by
  have runs := exec_secAuth ready only hello live len power
  refine ⟨_, runs, _, rfl, ?_⟩
  cases s.authenticate c.ch h c.payload with
  | none =>
    obtain ⟨own, others, hay, frame⟩ := authCounted_effect ready h
    have step : (s.authStarted c).authFailed (s.refOf c 0x69) h = s.authCounted c h := by
      rw [authFailed_eq, own]
      exact if_neg (by dsimp only; omega)
    rw [Option.elim_none, step, own]
    exact ⟨rfl, only, hay, fun _ => ⟨⟨by rw [own], others⟩, rfl, ready.bind⟩, fun _ he => absurd he (Option.not_mem_none _), frame⟩
  | some e =>
    obtain ⟨t, done, own, others, hay, frame⟩ := authDone_effect (h := h) (keys := e.1) (answer := e.2) ready
    rw [Option.elim_some, done, own]
    refine ⟨rfl, only, hay, fun absent => absurd absent (Option.some_ne_none e), fun x hx => ?_, frame⟩
    rw [← Option.mem_some.mp hx]
    exact ⟨⟨by rw [own], others⟩, rfl, rfl⟩

/-! ### The lockout (R416) -/

theorem lockout_effect {mode slot n : Nat} (deaf : ∀ k ∈ List.range 32, wants k 0x68 (s.chan k) = false) :
    (s.lockout n mode slot).chan n = { s.chan n with fails := 0, lockEnd := some (s.ticks + 65536) } ∧
    (∀ k, k ≠ n → (s.lockout n mode slot).chan k = s.chan k) ∧ (s.lockout n mode slot).ticks = s.ticks ∧
    (s.lockout n mode slot).flt = (s.fault clNote 0x68 3 n 0).flt ∧ s.Frame [.regs, .spoke, .hay, .flt] (s.lockout n mode slot) := by
  let v := s.modChan n fun x => { x with fails := 0, lockEnd := some (s.ticks + 65536) }
  let w := v.sessionRecord n mode slot 2
  have wspoke : w.spoke = v.spoke := State.record_spoke ..
  have quiet : w.secNote 3 n 0 = w := event_of_unwanted fun k hk => by
    rw [chan_congr wspoke, State.modChan_chan]
    split
    · next same =>
      subst same
      exact deaf n hk
    · exact deaf k hk
  have told : s.lockout n mode slot = w.fault clNote 0x68 3 n 0 := by
    show (w.secNote 3 n 0).fault clNote 0x68 3 n 0 = _
    rw [quiet]
  have spoke : (w.fault clNote 0x68 3 n 0).spoke = v.spoke := (State.fault_spoke ..).trans wspoke
  have wcad : w.cad = s.cad := State.record_cad ..
  rw [told]
  refine ⟨?_, fun k other => ?_, ?_, ?_, ?_⟩
  · rw [chan_congr spoke, State.modChan_chan, if_pos rfl]
  · rw [chan_congr spoke, State.modChan_chan, if_neg other.symm]
  · unfold State.ticks
    rw [State.fault_cad, wcad]
  · exact fault_flt_congr (State.record_flt ..) (State.record_pwr ..) wcad
  · exact State.fault_frame (Covers.refl.sub rfl) (State.record_frame (Covers.refl.sub rfl)
      (State.modChan_frame (Covers.refl.sub rfl) State.Frame.refl))

theorem auth_lockedOut {h : Hello} (ready : s.Ready c) (only : (s.chan c.ch).uses = []) (hello : (s.chan c.ch).hello = some h)
    (live : s.ticks ≤ h.until_ ∨ h.inTime = true) (len : c.payload.length = if h.mode = 0 then 128 else 16)
    (power : s.rd R.PWR_STAT_PFSEQ ≠ 1) (fourth : (s.chan c.ch).fails = 4)
    (kind : (s.keySlot h.slot).kind ≠ if h.mode = 0 then 1 else 3) (deaf : ∀ n ∈ List.range 32, wants n 0x68 (s.chan n) = false) :
    ∃ t, exec (.secAuth c) s = .next t ∧
    s.Posts c [interimPkt c 0x69, finalPkt c 0x69 stAuthFail] t ∧ (t.chan c.ch).fails = 0 ∧ (t.chan c.ch).lockEnd = some (s.ticks + 65536) ∧
    t.locked c.ch = true ∧ t.flt = (s.fault clNote 0x68 3 c.ch 0).flt ∧ s.Frame [.regs, .spoke, .hay, .flt] t := by
  obtain ⟨own, others, -, frame⟩ := authCounted_effect ready h
  have runs := exec_secAuth ready only hello live len power
  have locks : (s.authStarted c).authFailed (s.refOf c 0x69) h = (s.authCounted c h).lockout c.ch h.mode h.slot := by
    rw [authFailed_eq, own]
    exact if_pos (by dsimp only; omega)
  rw [authenticate_of_kind kind] at runs
  rw [Option.elim_none] at runs
  rw [locks] at runs
  have unheard : ∀ k ∈ List.range 32, wants k 0x68 ((s.authCounted c h).chan k) = false := fun k hk => by
    by_cases same : k = c.ch.val
    · rw [same, own]
      exact deaf c.ch.val (same ▸ hk)
    · rw [others k same]
      exact deaf k hk
  have ticks : (s.authCounted c h).ticks = s.ticks := by
    unfold State.ticks
    rw [show (s.authCounted c h).cad = s.cad from frame .cad (by decide)]
  obtain ⟨locked, rest, clock, flt, lframe⟩ := lockout_effect (mode := h.mode) (slot := h.slot) (n := c.ch.val) unheard
  rw [own, ticks] at locked
  refine ⟨_, runs, ⟨?_, fun k other => (rest k other).trans (others k other)⟩, ?_, ?_, ?_, ?_, ?_⟩
  · rw [locked]
  · rw [locked]
  · rw [locked]
  · unfold State.locked
    rw [locked, clock, ticks]
    exact decide_eq_true (by omega)
  · exact flt.trans (fault_flt_congr (frame .flt (by decide)) (frame .pwr (by decide)) (frame .cad (by decide)))
  · exact (frame.mono (Covers.refl.sub rfl)).trans lframe

/-! ### Refusals -/

theorem auth_refused (ready : s.Ready c) :
    (c.payload.length ≠ 128 → c.payload.length ≠ 16 → s.Refuses (.secAuth c) c 0x69 stBadLength) ∧
    (c.payload.length = 16 → (∀ h ∈ (s.chan c.ch).hello, h.mode ≠ 0 ∧ h.until_ < s.ticks ∧ h.inTime = false) →
      s.Refuses (.secAuth c) c 0x69 stNotPermitted) := by
  have checks : ∃ k, (s.begin c 0x69).2.doSecAuth (s.refOf c 0x69) c.payload = (s.begin c 0x69).2.checked (s.refOf c 0x69)
      [(!authSize (((s.begin c 0x69).2.chan c.ch).hello.filter fun h => s.helloLive h) c.payload.length, stBadLength),
        permitted ((((s.begin c 0x69).2.chan c.ch).hello.filter fun h => s.helloLive h).isSome &&
          (((s.begin c 0x69).2.chan c.ch).uses.all fun v => v.tag == c.tag.val) && s.notInPowerFail)] k := by
    unfold State.doSecAuth
    exact ⟨_, rfl⟩
  refine ⟨fun long short => ?_, fun len lapsed => ?_⟩
  · refine refuses_of_check ready (f := State.doSecAuth) rfl checks (status := stBadLength) ?_ (by decide)
    have size : ∀ h, authSize h c.payload.length = false := fun h => by
      unfold authSize
      rw [beq_false_of_ne long, beq_false_of_ne short]
      cases h with
      | none => rfl
      | some h => exact ite_self _
    rw [size]
    rfl
  · have gone : ((s.begin c 0x69).2.chan c.ch).hello.filter (fun h => s.helloLive h) = none := by
      rw [begin_chan ready]
      refine Option.filter_eq_none_iff.mpr fun h hh => ?_
      obtain ⟨-, late, untold⟩ := lapsed h hh
      unfold State.helloLive
      rw [untold, decide_eq_false (by omega)]
      exact Bool.false_ne_true
    refine refuses_of_check ready (f := State.doSecAuth) rfl checks (status := stNotPermitted) ?_ (by decide)
    rw [gone, len]
    rfl

end Sys2Proof.Machine
end

section
/-!
PROOFS. Pairing (R417, 16_security.md): the window, START, CONFIRM, and the window's end.
-/

namespace Sys2Proof.Machine

variable {s t u : State} {c : Cmd} {op : Nat}

/-! ### The window opens -/

theorem pairEnd_of_closed (closed : s.sec.pairWin = none) (data : Nat) : s.pairEnd data = s := by
  unfold State.pairEnd
  rw [closed]

/-- The two operand bytes of SEC_PAIR_OPEN and SEC_PAIR_CONFIRM. -/
theorem pairOperand {sub v : Nat} (byte : v < 256) : u8 (le 1 sub ++ le 1 v) 1 = v ∧ (le 1 sub ++ le 1 v).length = 2 :=
  ⟨u8_middle (a := le 1 sub) (x := []) (by rw [List.append_nil]) (le_length ..) byte, by rw [List.length_append, le_length, le_length]⟩

/-- The pairing window as SEC_PAIR_OPEN leaves it. -/
def State.pairOpened (s : State) (slot : Nat) : State :=
  { s.wr R.SEC_STAT_PAIR_WIN 1 with sec.pairWin := some (slot, s.stage + 120), sec.pairUsed := false }

theorem pairOpen_opens {slot : Nat} (ready : s.Ready c) (payload : c.payload = [0] ++ le 1 slot) (low : 8 ≤ slot) (high : slot ≤ 15)
    (first : 24 ≤ c.ch.val) (last : c.ch.val ≤ 30) (power : s.rd R.PWR_STAT_PFSEQ ≠ 1)
    (life : s.rd R.SEC_STAT_LIFECYCLE = 1 ∨ s.rd R.SEC_STAT_LIFECYCLE = 2) (empty : (s.keySlot slot).kind = 0)
    (closed : s.sec.pairWin = none) : ∃ t, exec (.secPairOpen c) s = .next t ∧ s.Answers c 0x6A stOk [] t ∧
    s.Fields [(R.SEC_STAT_PAIR_WIN, 1)] t ∧ t.sec = { s.sec with pairWin := some (slot, s.stage + 120), pairUsed := false } ∧
    s.Frame [.regs, .spoke, .sec] t := by
  let u := (s.begin c 0x6A).2
  change c.payload = le 1 0 ++ le 1 slot at payload
  obtain ⟨operand, len⟩ := pairOperand (sub := 0) (v := slot) (by omega)
  have checks : firstBad [lengthIs (le 1 0 ++ le 1 slot) 2, param (decide (slot < 8 ∨ 15 < slot)),
      permitted (decide (24 ≤ c.ch.val ∧ c.ch.val ≤ 30) && s.notInPowerFail && s.keysUsable && (s.keySlot slot).kind == 0)] = stOk := by
    rw [firstBad_of_length len, decide_eq_false (by omega), decide_eq_true ⟨first, last⟩, notInPowerFail_of power, keysUsable_of life, empty]
    rfl
  have body : u.doSecPairOpen (s.refOf c 0x6A) (le 1 0 ++ le 1 slot) = (u.pairOpened slot).ok (s.refOf c 0x6A) := by
    unfold State.doSecPairOpen
    dsimp only
    rw [operand]
    refine (checked_ok checks).trans ?_
    rw [pairEnd_of_closed (s := (s.begin c 0x6A).2) closed]
    rfl
  have runs : exec (.secPairOpen c) s = .next ((u.pairOpened slot).ok (s.refOf c 0x6A)) := by
    rw [← body, ← payload]
    exact congrArg (fun p => Host.Outcome.next (u.doSecPairOpen (s.refOf c 0x6A) p)) (subRow_self (by rw [payload]; rfl))
  have started : s.Started c 0x6A [] (u.pairOpened slot) := (started_begin ready).of_eq rfl rfl
  have frame : s.Frame [.regs, .spoke, .sec] (u.pairOpened slot) :=
    (State.wr_frame (Covers.refl.sub rfl) (begin_frame_spoke.mono (Covers.refl.sub rfl))).sec (by decide)
  exact ⟨_, runs, started.answers ready, (wr_fields u R.SEC_STAT_PAIR_WIN 1).of_regs (State.finish_regs ..), State.finish_sec ..,
    started.finish_frame frame (by decide)⟩

theorem pairOpen_refused (ready : s.Ready c) :
    (c.payload.length ≠ 2 → c.payload ≠ [] → s.Refuses (.secPairOpen c) c 0x6A stBadLength) ∧
    (c.payload.length = 2 → u8 c.payload 1 < 8 ∨ 15 < u8 c.payload 1 → s.Refuses (.secPairOpen c) c 0x6A stBadParam) ∧
    (c.payload.length = 2 → 8 ≤ u8 c.payload 1 → u8 c.payload 1 ≤ 15 → c.ch.val < 24 ∨ c.ch.val = 31 ∨ s.rd R.SEC_STAT_LIFECYCLE = 0 ∨
      s.rd R.SEC_STAT_LIFECYCLE = 3 → s.Refuses (.secPairOpen c) c 0x6A stNotPermitted) := by
  have checks : ∃ k, (s.begin c 0x6A).2.doSecPairOpen (s.refOf c 0x6A) (le 1 0 ++ c.payload.drop 1) = (s.begin c 0x6A).2.checked (s.refOf c 0x6A)
      [lengthIs (le 1 0 ++ c.payload.drop 1) 2,
        param (decide (u8 (le 1 0 ++ c.payload.drop 1) 1 < 8 ∨ 15 < u8 (le 1 0 ++ c.payload.drop 1) 1)),
        permitted (decide (24 ≤ c.ch.val ∧ c.ch.val ≤ 30) && s.notInPowerFail && s.keysUsable &&
          (s.keySlot (u8 (le 1 0 ++ c.payload.drop 1) 1)).kind == 0)] k := by
    unfold State.doSecPairOpen
    exact ⟨_, rfl⟩
  have exact_ : c.payload.length = 2 → (le 1 0 ++ c.payload.drop 1).length = 2 := fun len => by
    rwa [length_subRow (List.ne_nil_of_length_pos (by omega))]
  rw [u8_subRow 0 c.payload 0] at checks
  refine ⟨fun len nonempty => ?_, fun len bad => ?_, fun len low high forbidden => ?_⟩
  · exact refuses_of_subRow ready rfl checks (firstBad_of_badLength (by rwa [length_subRow nonempty]) _) (by decide)
  · exact refuses_of_subRow ready rfl checks ((firstBad_of_length (exact_ len) _).trans (firstBad_of_badParam (decide_eq_true bad) _)) (by decide)
  · refine refuses_of_subRow ready rfl checks ((firstBad_of_length (exact_ len) _).trans
      ((firstBad_of_param (decide_eq_false (by rw [Nat.zero_add]; omega)) _).trans (firstBad_of_forbidden ?_ _))) (by decide)
    rcases forbidden with near | own | blank | returned
    · rw [decide_eq_false (by omega)]
      rfl
    · rw [decide_eq_false (by omega)]
      rfl
    · rw [not_keysUsable_of (.inl blank), Bool.and_false]
      rfl
    · rw [not_keysUsable_of (.inr returned), Bool.and_false]
      rfl

/-! ### START -/

/-- What no element's step changes is as it was after all of them. -/
theorem foldl_keeps {σ α β : Type} {f : σ → α → σ} {φ : σ → β} {l : List α} (h : ∀ s, ∀ a ∈ l, φ (f s a) = φ s) (s : σ) :
    φ (l.foldl f s) = φ s := by
  induction l generalizing s with
  | nil => rfl
  | cons a l ih =>
    rw [List.foldl_cons, ih fun s b hb => h s b (List.mem_cons_of_mem a hb), h s a List.mem_cons_self]

/-- What one element's step alone changes is changed once. -/
theorem foldl_once {σ α β : Type} {f : σ → α → σ} {φ : σ → β} {G : β → β} {a : α} {l : List α} (own : ∀ s, φ (f s a) = G (φ s))
    (others : ∀ s, ∀ b ∈ l, b ≠ a → φ (f s b) = φ s) (distinct : l.Nodup) (ha : a ∈ l) (s : σ) : φ (l.foldl f s) = G (φ s) := by
  obtain ⟨before, after, rfl⟩ := List.append_of_mem ha
  have fresh : a ∉ before ++ after := (List.nodup_cons.mp (List.nodup_middle.mp distinct)).1
  rw [List.foldl_append, List.foldl_cons,
    foldl_keeps (φ := φ) fun s b hb => others s b (List.mem_append_right _ (List.mem_cons_of_mem a hb)) fun e =>
      fresh (List.mem_append_right _ (e ▸ hb)),
    own, foldl_keeps (φ := φ) fun s b hb => others s b (List.mem_append_left _ hb) fun e => fresh (List.mem_append_left _ (e ▸ hb))]

/-- A comparison code goes to the seven installer channels and to no other. -/
theorem pairCode_chan (s : State) (host : Nat) (x : PairStart) :
    (∀ n, 24 ≤ n → n ≤ 30 → (s.pairCode host x).chan n =
      raiseOn n 0x68 (le 1 1 ++ le 1 host ++ le 4 (u32 (Config.sha256 (x.z ++ x.hp ++ x.ep ++ x.hn ++ x.en)) 0 % 1000000)) (s.chan n)) ∧
    ∀ n, n < 24 → (s.pairCode host x).chan n = s.chan n := by
  let b : Bytes := le 1 1 ++ le 1 host ++ le 4 (u32 (Config.sha256 (x.z ++ x.hp ++ x.ep ++ x.hn ++ x.en)) 0 % 1000000)
  have told : s.pairCode host x = s.each (List.range 7) fun s i => s.modChan (24 + i) (raiseOn (24 + i) 0x68 b) := rfl
  rw [told]
  refine ⟨fun n low high => ?_, fun n near => ?_⟩
  · obtain ⟨i, rfl⟩ : ∃ i, n = 24 + i := ⟨n - 24, by omega⟩
    exact foldl_once (φ := fun s : State => s.chan (24 + i)) (a := i) (fun s => by rw [State.modChan_chan, if_pos rfl])
      (fun s k _ other => by rw [State.modChan_chan, if_neg (by omega)]) List.nodup_range (List.mem_range.mpr (by omega)) s
  · exact each_keeps (φ := fun s => s.chan n) (fun s i _ => by rw [State.modChan_chan, if_neg (by omega)]) s

/-- The checks of a START, and what it goes on to. -/
theorem doSecPairStart_eq (s : State) (c : Cmd) (p : Bytes) : (s.begin c 0x6A).2.doSecPairStart (s.refOf c 0x6A) p =
    (s.begin c 0x6A).2.checked (s.refOf c 0x6A)
      [lengthIs p 81, permitted (decide (c.ch.val < 16) && s.sec.pairWin.isSome && s.notInPowerFail)] fun v =>
      if v.sec.pairUsed then (v.pairFinish stFault).finish (s.refOf c 0x6A) stNotPermitted
      else if !v.randomOk then v.finish (s.refOf c 0x6A) stFault
      else v.pairStart (s.refOf c 0x6A) p := rfl

theorem pairStart_checks {p : Bytes} (len : p.length = 81) (host : c.ch.val < 16) (window : s.sec.pairWin ≠ none)
    (power : s.rd R.PWR_STAT_PFSEQ ≠ 1) :
    firstBad [lengthIs p 81, permitted (decide (c.ch.val < 16) && s.sec.pairWin.isSome && s.notInPowerFail)] = stOk := by
  rw [firstBad_of_length len, decide_eq_true host, Option.isSome_iff_ne_none.mpr window, notInPowerFail_of power]
  rfl

/-- The START that a payload asks for, with HN and the hub's key pair drawn. -/
def State.pairing (s : State) (c : Cmd) (ep en : Bytes) : PairStart :=
  ⟨s.refOf c 0x6A, Config.ecdh ((s.random 16).2.random 32).1 ep, Config.p256Public ((s.random 16).2.random 32).1, ep, (s.random 16).1, en⟩

/-- A START that is served, before its code goes out. -/
def State.pairServed (s : State) (c : Cmd) (ep en : Bytes) : State :=
  { (((s.begin c 0x6A).2.random 16).2.random 32).2 with sec.pair := some (s.pairing c ep en), sec.pairUsed := true }.accepted (s.refOf c 0x6A)
    ((s.pairing c ep en).hp ++ (s.pairing c ep en).hn)

theorem pairStart_eq {p ep en : Bytes} (key : sub p 1 64 = ep) (nonce : sub p 65 16 = en) :
    (s.begin c 0x6A).2.pairStart (s.refOf c 0x6A) p = (s.pairServed c ep en).pairCode c.ch (s.pairing c ep en) := by
  unfold State.pairStart
  dsimp only
  rw [key, nonce]
  rfl

theorem pairServed_effect {ep en : Bytes} (ready : s.Ready c) :
    ((s.pairServed c ep en).chan c.ch).outq =
      (s.chan c.ch).outq ++ [interimPkt c 0x6A ((s.pairing c ep en).hp ++ (s.pairing c ep en).hn)] ∧
    (∀ k, k ≠ c.ch.val → (s.pairServed c ep en).chan k = s.chan k) ∧
    (s.pairServed c ep en).sec = { s.sec with pair := some (s.pairing c ep en), pairUsed := true } ∧
    s.Frame [.free, .spoke, .sec] (s.pairServed c ep en) := by
  let w : State := { (((s.begin c 0x6A).2.random 16).2.random 32).2 with sec.pair := some (s.pairing c ep en), sec.pairUsed := true }
  have started : s.Started c 0x6A [] w := (started_begin ready).of_eq rfl rfl
  obtain ⟨own, others⟩ := accepted_chan_of_started (extra := (s.pairing c ep en).hp ++ (s.pairing c ep en).hn) started ready
  have begun : s.Frame [.free, .spoke, .sec] (s.begin c 0x6A).2 := begin_frame_spoke.mono (Covers.refl.sub rfl)
  have drawn : s.Frame [.free, .spoke, .sec] (((s.begin c 0x6A).2.random 16).2.random 32).2 := (begun.free (by decide)).free (by decide)
  exact ⟨congrArg Channel.outq own, others, State.accepted_sec .., State.accepted_frame (Covers.refl.sub rfl) (drawn.sec (by decide))⟩

theorem pairStart_served {ep en : Bytes} (ready : s.Ready c) (payload : c.payload = [1] ++ ep ++ en) (epLen : ep.length = 64)
    (enLen : en.length = 16) (host : c.ch.val < 16) (window : s.sec.pairWin ≠ none) (fresh : s.sec.pairUsed = false)
    (power : s.rd R.PWR_STAT_PFSEQ ≠ 1) (random : s.randomOk = true) :
    ∃ hn, hn = s.random 16 ∧ ∃ sk, sk = hn.2.random 32 ∧ ∃ hp, hp = Config.p256Public sk.1 ∧ ∃ z, z = Config.ecdh sk.1 ep ∧
    ∃ t, exec (.secPairStart c) s = .next t ∧ (t.chan c.ch).outq = (s.chan c.ch).outq ++ [interimPkt c 0x6A (hp ++ hn.1)] ∧
    t.sec = { s.sec with pair := some ⟨s.refOf c 0x6A, z, hp, ep, hn.1, en⟩, pairUsed := true } ∧
    (∀ n, 24 ≤ n → n ≤ 30 → t.chan n = raiseOn n 0x68 ([1, BitVec.ofNat 8 c.ch] ++
      le 4 (u32 (Config.sha256 (z ++ hp ++ ep ++ hn.1 ++ en)) 0 % 1000000)) (s.chan n)) ∧ s.Frame [.free, .spoke, .sec] t := by
  have key : sub c.payload 1 64 = ep := sub_middle (a := [1]) (c := en) (by rw [payload, List.append_assoc]) rfl epLen
  have nonce : sub c.payload 65 16 = en :=
    sub_middle (a := [1] ++ ep) (c := []) (by rw [payload, List.append_nil]) (by rw [List.length_append, epLen]; rfl) enLen
  have len : c.payload.length = 81 := by rw [payload, List.length_append, List.length_append, epLen, enLen]; rfl
  have runs : exec (.secPairStart c) s = .next ((s.pairServed c ep en).pairCode c.ch (s.pairing c ep en)) := by
    show Host.Outcome.next ((s.begin c 0x6A).2.doSecPairStart (s.refOf c 0x6A) (le 1 1 ++ c.payload.drop 1)) = _
    rw [subRow_self (by rw [payload]; rfl), doSecPairStart_eq, checked_ok (pairStart_checks len host window power)]
    rw [show (s.begin c 0x6A).2.sec.pairUsed = false from fresh, show (s.begin c 0x6A).2.randomOk = true from random, if_neg (by decide),
      if_neg (by decide), pairStart_eq key nonce]
  obtain ⟨outq, others, sec, frame⟩ := pairServed_effect (ep := ep) (en := en) ready
  obtain ⟨installers, rest⟩ := pairCode_chan (s.pairServed c ep en) c.ch (s.pairing c ep en)
  have told : (s.pairServed c ep en).Frame [.spoke] ((s.pairServed c ep en).pairCode c.ch (s.pairing c ep en)) :=
    State.each_frame State.Frame.refl fun _ _ h => State.modChan_frame (Covers.refl.sub rfl) h
  refine ⟨_, rfl, _, rfl, _, rfl, _, rfl, _, runs, ?_, ?_, fun n low high => ?_, frame.trans (told.mono (Covers.refl.sub rfl))⟩
  · rw [rest c.ch (by omega), outq]
    rfl
  · rw [told.sec_eq (by decide), sec]
    rfl
  · rw [installers n low high, others n (by omega)]
    rfl

theorem pairStart_refused (ready : s.Ready c) :
    (c.payload.length ≠ 81 → c.payload ≠ [] → s.Refuses (.secPairStart c) c 0x6A stBadLength) ∧
    (c.payload.length = 81 → 16 ≤ c.ch.val ∨ s.sec.pairWin = none ∨ s.rd R.PWR_STAT_PFSEQ = 1 →
      s.Refuses (.secPairStart c) c 0x6A stNotPermitted) ∧
    (c.payload.length = 81 → c.ch.val < 16 → s.sec.pairWin ≠ none → s.sec.pairUsed = false → s.rd R.PWR_STAT_PFSEQ ≠ 1 →
      s.sec.drbg = false → s.Refuses (.secPairStart c) c 0x6A stFault) := by
  have exact_ : c.payload.length = 81 → (le 1 1 ++ c.payload.drop 1).length = 81 := fun len => by
    rwa [length_subRow (List.ne_nil_of_length_pos (by omega))]
  refine ⟨fun len nonempty => ?_, fun len forbidden => ?_, fun len host window fresh power broken => ?_⟩
  · exact refuses_of_subRow ready rfl ⟨_, doSecPairStart_eq s c _⟩ (firstBad_of_badLength (by rwa [length_subRow nonempty]) _) (by decide)
  · refine refuses_of_subRow ready rfl ⟨_, doSecPairStart_eq s c _⟩ ((firstBad_of_length (exact_ len) _).trans (firstBad_of_forbidden ?_ _))
      (by decide)
    rcases forbidden with far | closed | power
    · rw [decide_eq_false (by omega)]
      rfl
    · rw [closed, Option.isSome_none, Bool.and_false]
      rfl
    · rw [inPowerFail_of power, Bool.and_false]
  · refine refuses_of_finish ready (congrArg Host.Outcome.next ?_)
    show (s.begin c 0x6A).2.doSecPairStart (s.refOf c 0x6A) (le 1 1 ++ c.payload.drop 1) = _
    rw [doSecPairStart_eq, checked_ok (pairStart_checks (exact_ len) host window power)]
    rw [show (s.begin c 0x6A).2.sec.pairUsed = false from fresh,
      show (s.begin c 0x6A).2.randomOk = false from randomOk_eq_false (.inl broken), if_neg (by decide)]
    exact if_pos rfl

/-- The START that waits ends: the channels and the tack room alone change. -/
theorem pairFinish_effect (calm : s.flt.recov = []) (status : Nat) : (s.pairFinish status).sec = { s.sec with pair := none } ∧
    (s.pairFinish status).regs = s.regs ∧ s.Frame [.spoke, .sec] (s.pairFinish status) := by
  let v : State := { s with sec.pair := none }
  have frame : s.Frame [.spoke, .sec] v := State.Frame.refl.sec (by decide)
  refine ⟨State.finish?_sec .., State.finish?_regs .., ?_⟩
  show s.Frame _ (v.finish? (s.sec.pair.map (·.cmd)) status)
  cases s.sec.pair with
  | none => exact frame
  | some x => exact frame.trans ((finish_frame_of_calm (u := v) calm).mono (Covers.refl.sub rfl))

theorem pairStart_again (ready : s.Ready c) (len : c.payload.length = 81) (host : c.ch.val < 16) (window : s.sec.pairWin ≠ none)
    (used : s.sec.pairUsed = true) (power : s.rd R.PWR_STAT_PFSEQ ≠ 1) : ∃ t, exec (.secPairStart c) s = .next t ∧
    t.sec = { s.sec with pair := none } ∧ s.Frame [.spoke, .sec] t := by
  have exact_ : (le 1 1 ++ c.payload.drop 1).length = 81 := by rwa [length_subRow (List.ne_nil_of_length_pos (by omega))]
  have runs : exec (.secPairStart c) s =
      .next (((s.begin c 0x6A).2.pairFinish stFault).finish (s.refOf c 0x6A) stNotPermitted) := by
    refine congrArg Host.Outcome.next ?_
    show (s.begin c 0x6A).2.doSecPairStart (s.refOf c 0x6A) (le 1 1 ++ c.payload.drop 1) = _
    rw [doSecPairStart_eq, checked_ok (pairStart_checks exact_ host window power)]
    exact if_pos used
  obtain ⟨sec, -, frame⟩ := pairFinish_effect (s := (s.begin c 0x6A).2) ready.calm stFault
  have begun : s.Frame [.spoke, .sec] ((s.begin c 0x6A).2.pairFinish stFault) := (begin_frame_spoke.mono (Covers.refl.sub rfl)).trans frame
  have calm : ((s.begin c 0x6A).2.pairFinish stFault).flt.recov = [] := by
    rw [show ((s.begin c 0x6A).2.pairFinish stFault).flt = s.flt from begun .flt (by decide)]
    exact ready.calm
  exact ⟨_, runs, (State.finish_sec ..).trans sec, begun.trans ((finish_frame_of_calm calm).mono (Covers.refl.sub rfl))⟩

/-! ### CONFIRM -/

theorem doSecPairConfirm_eq (s : State) (c : Cmd) (p : Bytes) : (s.begin c 0x6A).2.doSecPairConfirm (s.refOf c 0x6A) p =
    (s.begin c 0x6A).2.checked (s.refOf c 0x6A) [lengthIs p 2, param (decide (1 < u8 p 1)),
      permitted (decide (24 ≤ c.ch.val ∧ c.ch.val ≤ 30) && s.sec.pair.isSome && s.notInPowerFail)] fun v =>
      (v.ok (s.refOf c 0x6A)).pairAnswer (u8 p 1 == 1) := rfl

theorem pairConfirm_refused (ready : s.Ready c) :
    (c.payload.length ≠ 2 → c.payload ≠ [] → s.Refuses (.secPairConfirm c) c 0x6A stBadLength) ∧
    (c.payload.length = 2 → 1 < u8 c.payload 1 → s.Refuses (.secPairConfirm c) c 0x6A stBadParam) ∧
    (c.payload.length = 2 → u8 c.payload 1 ≤ 1 → c.ch.val < 24 ∨ c.ch.val = 31 ∨ s.sec.pair = none →
      s.Refuses (.secPairConfirm c) c 0x6A stNotPermitted) := by
  have exact_ : c.payload.length = 2 → (le 1 2 ++ c.payload.drop 1).length = 2 := fun len => by
    rwa [length_subRow (List.ne_nil_of_length_pos (by omega))]
  have operand : u8 (le 1 2 ++ c.payload.drop 1) 1 = u8 c.payload 1 := u8_subRow 2 c.payload 0
  refine ⟨fun len nonempty => ?_, fun len bad => ?_, fun len answer forbidden => ?_⟩
  · exact refuses_of_subRow ready rfl ⟨_, doSecPairConfirm_eq s c _⟩ (firstBad_of_badLength (by rwa [length_subRow nonempty]) _) (by decide)
  · exact refuses_of_subRow ready rfl ⟨_, doSecPairConfirm_eq s c _⟩ ((firstBad_of_length (exact_ len) _).trans
      (firstBad_of_badParam (by rw [operand]; exact decide_eq_true bad) _)) (by decide)
  · refine refuses_of_subRow ready rfl ⟨_, doSecPairConfirm_eq s c _⟩ ((firstBad_of_length (exact_ len) _).trans
      ((firstBad_of_param (by rw [operand]; exact decide_eq_false (by omega)) _).trans (firstBad_of_forbidden ?_ _))) (by decide)
    rcases forbidden with near | own | idle
    · rw [decide_eq_false (by omega)]
      rfl
    · rw [decide_eq_false (by omega)]
      rfl
    · rw [idle, Option.isSome_none, Bool.and_false]
      rfl

/-- A CONFIRM that is permitted: OK, then the installer's answer. -/
theorem exec_pairConfirm {x : PairStart} {answer : Nat} (payload : c.payload = le 1 2 ++ le 1 answer) (bit_ : answer ≤ 1)
    (first : 24 ≤ c.ch.val) (last : c.ch.val ≤ 30) (pair : s.sec.pair = some x) (power : s.rd R.PWR_STAT_PFSEQ ≠ 1) :
    exec (.secPairConfirm c) s = .next (((s.begin c 0x6A).2.ok (s.refOf c 0x6A)).pairAnswer (answer == 1)) := by
  obtain ⟨operand, len⟩ := pairOperand (sub := 2) (v := answer) (by omega)
  have checks : firstBad [lengthIs (le 1 2 ++ le 1 answer) 2, param (decide (1 < answer)),
      permitted (decide (24 ≤ c.ch.val ∧ c.ch.val ≤ 30) && s.sec.pair.isSome && s.notInPowerFail)] = stOk := by
    rw [firstBad_of_length len, decide_eq_false (by omega), decide_eq_true ⟨first, last⟩, pair, notInPowerFail_of power]
    rfl
  show Host.Outcome.next ((s.begin c 0x6A).2.doSecPairConfirm (s.refOf c 0x6A) (le 1 2 ++ c.payload.drop 1)) = _
  rw [subRow_self (by rw [payload]; rfl), payload, doSecPairConfirm_eq, operand, checked_ok checks]

/-- The pairing window closed, its START taken. -/
def State.pairClosed (s : State) : State :=
  { s.wr R.SEC_STAT_PAIR_WIN 0 with sec.pairWin := none, sec.pairUsed := false, sec.pair := none }

theorem pairAnswer_accepts {x : PairStart} {slot e : Nat} (pair : s.sec.pair = some x) (window : s.sec.pairWin = some (slot, e)) :
    s.pairAnswer true = s.pairClosed.secStart (some x.cmd) none (.pair slot ⟨3, 0, s.nextGen slot, pairKey x⟩) := by
  unfold State.pairAnswer
  rw [pair, window]
  rfl

theorem pairAnswer_rejects {x : PairStart} {w : Nat × Nat} (pair : s.sec.pair = some x) (window : s.sec.pairWin = some w) :
    s.pairAnswer false = s.pairEnd 1 := by
  unfold State.pairAnswer
  rw [pair, window]
  rfl

/-- A pairing key whose operation starts while none runs: its slot's page is asked for. -/
theorem secStart_pair {cmd : Option Ref} {n : Nat} {k : Slot} (idle : s.sec.ops = []) (unburnt : s.sec.burn = none)
    (gate : s.gatesClosed = false) : s.secStart cmd none (.pair n k) = { s with
      sec.nextId := s.sec.nextId + 1, sec.made := mins s.sec.made n k, sec.ops := [⟨s.sec.nextId, cmd, .pair n k, none, 0, 1⟩]
      hay.nextId := s.hay.nextId + 1
      hay.reqs := s.hay.reqs ++ [⟨s.hay.nextId, 249, .sec (0x8C0 + n) (s.slotImage n k) s.sec.nextId, s.ticks, false⟩] } :=
  secStart_slotPage idle unburnt gate rfl

/-- The accepted pairing, by the state in which OK is posted. -/
theorem pairAnswer_effect {x : PairStart} {slot e : Nat} (pair : s.sec.pair = some x) (window : s.sec.pairWin = some (slot, e))
    (idle : s.sec.ops = []) (unburnt : s.sec.burn = none) (gate : s.gatesClosed = false) : ∃ k : Slot,
    k = ⟨3, 0, s.nextGen slot, (Config.hmac x.z (x.hp ++ x.ep ++ x.hn ++ x.en)).take 16⟩ ∧ (s.pairAnswer true).spoke = s.spoke ∧
    s.Fields [(R.SEC_STAT_PAIR_WIN, 0)] (s.pairAnswer true) ∧ (s.pairAnswer true).sec = { s.sec with
      pairWin := none, pairUsed := false, pair := none, nextId := s.sec.nextId + 1, made := mins s.sec.made slot k
      ops := [⟨s.sec.nextId, some x.cmd, .pair slot k, none, 0, 1⟩] } ∧
    (s.pairAnswer true).hay = { s.hay with
      nextId := s.hay.nextId + 1
      reqs := s.hay.reqs ++ [⟨s.hay.nextId, 249, .sec (0x8C0 + slot) (s.slotImage slot k) s.sec.nextId, s.ticks, false⟩] } ∧
    s.Frame [.regs, .hay, .sec] (s.pairAnswer true) := by
  have fields : s.Fields [(R.SEC_STAT_PAIR_WIN, 0)] s.pairClosed := (wr_fields s R.SEC_STAT_PAIR_WIN 0).of_regs rfl
  have still : s.pairClosed.gatesClosed = false := by
    unfold State.gatesClosed State.on at gate ⊢
    rw [fields]
    exact gate
  have frame : s.Frame [.regs, .hay, .sec] s.pairClosed := (State.wr_frame (Covers.refl.sub rfl) State.Frame.refl).sec (by decide)
  rw [pairAnswer_accepts pair window, secStart_pair (s := s.pairClosed) idle unburnt still]
  exact ⟨_, rfl, rfl, fields.of_regs rfl, rfl, rfl, frame.hay_sec (by decide) (by decide)⟩

theorem pairConfirm_stores {x : PairStart} {slot e : Nat} (ready : s.Ready c) (payload : c.payload = [2, 1]) (first : 24 ≤ c.ch.val)
    (last : c.ch.val ≤ 30) (pair : s.sec.pair = some x) (window : s.sec.pairWin = some (slot, e)) (power : s.rd R.PWR_STAT_PFSEQ ≠ 1)
    (idle : s.sec.ops = []) (unburnt : s.sec.burn = none) (gate : s.gatesClosed = false) :
    ∃ k : Slot, k = ⟨3, 0, s.nextGen slot, (Config.hmac x.z (x.hp ++ x.ep ++ x.hn ++ x.en)).take 16⟩ ∧
    ∃ t, exec (.secPairConfirm c) s = .next t ∧ s.Answers c 0x6A stOk [] t ∧ s.Fields [(R.SEC_STAT_PAIR_WIN, 0)] t ∧ t.sec = { s.sec with
      pairWin := none, pairUsed := false, pair := none, nextId := s.sec.nextId + 1, made := mins s.sec.made slot k
      ops := [⟨s.sec.nextId, some x.cmd, .pair slot k, none, 0, 1⟩] } ∧
    t.hay = { s.hay with
      nextId := s.hay.nextId + 1
      reqs := s.hay.reqs ++ [⟨s.hay.nextId, 249, .sec (0x8C0 + slot) (s.slotImage slot k) s.sec.nextId, s.ticks, false⟩] } ∧
    s.Frame [.regs, .spoke, .hay, .sec] t := by
  let v := (s.begin c 0x6A).2.ok (s.refOf c 0x6A)
  have started := started_begin (op := 0x6A) ready
  have frame : s.Frame [.spoke] v := started.finish_frame begin_frame_spoke (by decide)
  have vsec : v.sec = s.sec := frame.sec_eq (by decide)
  have vregs : v.regs = s.regs := frame.regs_eq (by decide)
  have vhay : v.hay = s.hay := frame.hay_eq (by decide)
  have vticks : v.ticks = s.ticks := by
    unfold State.ticks
    rw [show v.cad = s.cad from frame .cad (by decide)]
  have gen : v.nextGen slot = s.nextGen slot := by
    unfold State.nextGen State.keySlot
    rw [vsec]
  have image : ∀ k, v.slotImage slot k = s.slotImage slot k := fun k => by
    unfold State.slotImage
    rw [vsec]
  have runs : exec (.secPairConfirm c) s = .next (v.pairAnswer true) := exec_pairConfirm (answer := 1) payload (by decide) first last pair power
  obtain ⟨k, key, spoke, fields, sec, hay, kept⟩ := pairAnswer_effect (s := v) (by rw [vsec]; exact pair) (by rw [vsec]; exact window)
    (by rw [vsec]; exact idle) (by rw [vsec]; exact unburnt) (by unfold State.gatesClosed State.on; rw [rd_congr vregs]; exact gate)
  rw [gen] at key
  refine ⟨k, key, _, runs, ?_, fields.of_base vregs, ?_, ?_, ?_⟩
  · obtain ⟨⟨outq, others⟩, uses⟩ := started.answers (status := stOk) (extra := []) ready
    exact ⟨⟨by rw [chan_congr spoke]; exact outq, fun n other => by rw [chan_congr spoke]; exact others n other⟩,
      by rw [chan_congr spoke]; exact uses⟩
  · rw [sec, vsec]
  · rw [hay, vhay, vsec, vticks, image]
  · exact (frame.mono (Covers.refl.sub rfl)).trans (kept.mono (Covers.refl.sub rfl))

/-! ### The window ends -/

theorem pairEnd_effect {slot e : Nat} (window : s.sec.pairWin = some (slot, e)) (calm : s.flt.recov = []) (data : Nat) :
    s.Fields [(R.SEC_STAT_PAIR_WIN, 0)] (s.pairEnd data) ∧
    (s.pairEnd data).sec = { s.sec with pairWin := none, pairUsed := false, pair := none } ∧ s.Frame [.regs, .spoke, .sec] (s.pairEnd data) := by
  let v : State := { s.wr R.SEC_STAT_PAIR_WIN 0 with sec.pairWin := none, sec.pairUsed := false }
  have ends : s.pairEnd data = (v.pairFinish stFault).secNote 2 slot data := by
    unfold State.pairEnd
    rw [window]
  obtain ⟨sec, regs, frame⟩ := pairFinish_effect (s := v) calm stFault
  have closed : s.Frame [.regs, .spoke, .sec] v := (State.wr_frame (Covers.refl.sub rfl) State.Frame.refl).sec (by decide)
  rw [ends]
  refine ⟨(wr_fields s R.SEC_STAT_PAIR_WIN 0).of_regs ?_, (State.secNote_sec ..).trans sec, ?_⟩
  · exact (State.secNote_regs ..).trans regs
  · exact State.secNote_frame (Covers.refl.sub rfl) (closed.trans (frame.mono (Covers.refl.sub rfl)))

theorem pairConfirm_rejects {x : PairStart} (ready : s.Ready c) (payload : c.payload = [2, 0]) (first : 24 ≤ c.ch.val) (last : c.ch.val ≤ 30)
    (pair : s.sec.pair = some x) (window : s.sec.pairWin ≠ none) (power : s.rd R.PWR_STAT_PFSEQ ≠ 1) :
    ∃ t, exec (.secPairConfirm c) s = .next t ∧ s.Fields [(R.SEC_STAT_PAIR_WIN, 0)] t ∧
    t.sec = { s.sec with pairWin := none, pairUsed := false, pair := none } ∧ s.Frame [.regs, .spoke, .sec] t := by
  let v := (s.begin c 0x6A).2.ok (s.refOf c 0x6A)
  have frame : s.Frame [.spoke] v := (started_begin ready).finish_frame begin_frame_spoke (by decide)
  have vsec : v.sec = s.sec := frame.sec_eq (by decide)
  obtain ⟨⟨slot, e⟩, open_⟩ := Option.ne_none_iff_exists'.mp window
  have vopen : v.sec.pairWin = some (slot, e) := by rw [vsec, open_]
  have runs : exec (.secPairConfirm c) s = .next (v.pairAnswer false) := exec_pairConfirm (answer := 0) payload (by decide) first last pair power
  rw [pairAnswer_rejects (by rw [vsec]; exact pair) vopen] at runs
  obtain ⟨fields, sec, ends⟩ := pairEnd_effect vopen (by rw [show v.flt = s.flt from frame .flt (by decide)]; exact ready.calm) 1
  exact ⟨_, runs, fields.of_base (frame.regs_eq (by decide)), by rw [sec, vsec], (frame.mono (Covers.refl.sub rfl)).trans ends⟩

theorem pairingWindow_ends {slot e : Nat} (window : s.sec.pairWin = some (slot, e)) (due : e ≤ s.stage) (idle : s.sec.pair = none) :
    ∃ t, exec .pairingWindowEnd s = .next t ∧ s.Fields [(R.SEC_STAT_PAIR_WIN, 0)] t ∧
    t.sec = { s.sec with pairWin := none, pairUsed := false } ∧ s.Raises 0x68 [2, BitVec.ofNat 8 slot, 2, 0, 0, 0] t ∧
    s.Frame [.regs, .spoke, .sec] t := by
  let v : State := { s.wr R.SEC_STAT_PAIR_WIN 0 with sec.pairWin := none, sec.pairUsed := false }
  have quiet : v.pairFinish stFault = v := by
    unfold State.pairFinish
    rw [show v.sec.pair = none from idle]
    exact congrArg (fun x => { v with sec := { v.sec with pair := x } }) idle.symm
  have runs : exec .pairingWindowEnd s = .next (v.secNote 2 slot 2) := by
    refine congrArg Host.Outcome.next ?_
    show s.pairExpire = _
    unfold State.pairExpire State.pairEnd
    rw [window]
    dsimp only
    rw [if_pos due]
    exact congrArg (fun v => State.secNote v 2 slot 2) quiet
  have closed : s.Frame [.regs, .spoke, .sec] v := (State.wr_frame (Covers.refl.sub rfl) State.Frame.refl).sec (by decide)
  exact ⟨_, runs, (wr_fields s R.SEC_STAT_PAIR_WIN 0).of_regs (State.secNote_regs ..), State.secNote_sec ..,
    (State.event_raises v _ _).of_eq rfl, State.secNote_frame (Covers.refl.sub rfl) closed⟩

theorem pairingWindow_stays (early : ∀ w ∈ s.sec.pairWin, s.stage < w.2) : exec .pairingWindowEnd s = .next s := by
  refine congrArg Host.Outcome.next ?_
  show s.pairExpire = s
  unfold State.pairExpire
  split
  · rfl
  · next window => exact if_neg (Nat.not_le.mpr (early _ window))

end Sys2Proof.Machine
end

section
/-!
PROOFS. SEC_CRYPT and SEC_RANDOM (R422), the entropy (R406, R407), NVM_WP and the certified configuration (R277, R419), and the
obligation on handshakes.
-/

namespace Sys2Proof.Machine

variable {s t u : State} {c : Cmd} {op : Nat}

/-! ### SEC_CRYPT -/

/-- The operands of a SEC_CRYPT payload: SLOT, the length of AAD, AAD, and what is behind it. -/
theorem cryptOperands {sub_ slot : Nat} {aad d : Bytes} (slotByte : slot < 256) (aadShort : aad.length < 65536) :
    u8 (le 1 sub_ ++ le 1 slot ++ le 2 aad.length ++ aad ++ d) 1 = slot ∧
    u16 (le 1 sub_ ++ le 1 slot ++ le 2 aad.length ++ aad ++ d) 2 = aad.length ∧
    sub (le 1 sub_ ++ le 1 slot ++ le 2 aad.length ++ aad ++ d) 4 aad.length = aad ∧
    (le 1 sub_ ++ le 1 slot ++ le 2 aad.length ++ aad ++ d).drop (4 + aad.length) = d ∧
    (le 1 sub_ ++ le 1 slot ++ le 2 aad.length ++ aad ++ d).length = 4 + aad.length + d.length := by
  have front : (le 1 sub_ ++ le 1 slot ++ le 2 aad.length).length = 4 := by simp only [List.length_append, le_length]
  refine ⟨u8_middle (a := le 1 sub_) (x := le 2 aad.length ++ aad ++ d) (by simp only [List.append_assoc]) (le_length ..) slotByte, ?_,
    sub_middle (a := le 1 sub_ ++ le 1 slot ++ le 2 aad.length) (c := d) (by simp only [List.append_assoc]) front rfl,
    List.drop_left' (by rw [List.length_append, front]), by rw [List.length_append, List.length_append, front]⟩
  unfold u16
  rw [sub_middle (a := le 1 sub_ ++ le 1 slot) (m := le 2 aad.length) (c := aad ++ d) (by simp only [List.append_assoc])
    (by simp only [List.length_append, le_length]) (le_length ..), ofLe_le_of_lt aadShort]

/-- The checks of a SEC_CRYPT that is permitted, by its size. -/
theorem cryptChecks_of_good {p : Bytes} {extra : Nat} (size : 4 + u16 p 2 + extra ≤ p.length) (short : p.length ≤ 1028 + extra)
    (slot : s.cryptSlot (u8 p 1) = true) (life : s.rd R.SEC_STAT_LIFECYCLE = 1 ∨ s.rd R.SEC_STAT_LIFECYCLE = 2)
    (power : s.rd R.PWR_STAT_PFSEQ ≠ 1) : firstBad (s.cryptChecks p extra) = stOk := by
  have fits : cryptSize p extra = true := decide_eq_true (by omega)
  unfold State.cryptChecks
  rw [fits, slot, keysUsable_of life, notInPowerFail_of power]
  rfl

theorem cryptSlot_of {slot : Nat} (low : 16 ≤ slot) (high : slot ≤ 31) (kind : (s.keySlot slot).kind = 4) : s.cryptSlot slot = true := by
  unfold State.cryptSlot
  rw [decide_eq_true ⟨low, high⟩, kind]
  rfl

theorem exec_cryptSeal {slot : Nat} {aad d : Bytes} (payload : c.payload = [0] ++ le 1 slot ++ le 2 aad.length ++ aad ++ d)
    (short : aad.length + d.length ≤ 1024) (low : 16 ≤ slot) (high : slot ≤ 31) (kind : (s.keySlot slot).kind = 4)
    (power : s.rd R.PWR_STAT_PFSEQ ≠ 1) (life : s.rd R.SEC_STAT_LIFECYCLE = 1 ∨ s.rd R.SEC_STAT_LIFECYCLE = 2) :
    exec (.secCryptSeal c) s = .next (if !s.randomOk then (s.begin c 0x6C).2.finish (s.refOf c 0x6C) stFault [0x02]
      else ((s.begin c 0x6C).2.random 12).2.ok (s.refOf c 0x6C)
        ((s.random 12).1 ++ Config.gcmSeal (s.keySlot slot).key (s.random 12).1 aad d)) := by
  change c.payload = le 1 0 ++ le 1 slot ++ le 2 aad.length ++ aad ++ d at payload
  obtain ⟨slotByte, aadLen, aad_, data, len⟩ := cryptOperands (sub_ := 0) (slot := slot) (aad := aad) (d := d) (by omega) (by omega)
  rw [← payload] at slotByte aadLen aad_ data len
  have checks := cryptChecks_of_good (s := (s.begin c 0x6C).2) (p := c.payload) (extra := 0) (by omega) (by omega)
    (by rw [slotByte]; exact cryptSlot_of (s := s) low high kind) life power
  show Host.Outcome.next ((s.begin c 0x6C).2.doSecCryptSeal (s.refOf c 0x6C) (le 1 0 ++ c.payload.drop 1)) = _
  rw [subRow_self (by rw [payload]; rfl)]
  unfold State.doSecCryptSeal
  rw [checked_ok checks, slotByte, aadLen, aad_, data]
  rfl

theorem cryptSeal_seals {slot : Nat} {aad d : Bytes} (ready : s.Ready c) (payload : c.payload = [0] ++ le 1 slot ++ le 2 aad.length ++ aad ++ d)
    (short : aad.length + d.length ≤ 1024) (low : 16 ≤ slot) (high : slot ≤ 31) (kind : (s.keySlot slot).kind = 4)
    (power : s.rd R.PWR_STAT_PFSEQ ≠ 1) (life : s.rd R.SEC_STAT_LIFECYCLE = 1 ∨ s.rd R.SEC_STAT_LIFECYCLE = 2) (random : s.randomOk = true) :
    ∃ n, n = s.random 12 ∧
    ∃ t, exec (.secCryptSeal c) s = .next t ∧ s.Answers c 0x6C stOk (n.1 ++ Config.gcmSeal (s.keySlot slot).key n.1 aad d) t ∧
    s.Frame [.free, .spoke] t := by
  have runs := exec_cryptSeal payload short low high kind power life
  rw [random, if_neg (by decide)] at runs
  have started : s.Started c 0x6C [] ((s.begin c 0x6C).2.random 12).2 := (started_begin ready).of_eq rfl rfl
  have frame : s.Frame [.free, .spoke] ((s.begin c 0x6C).2.random 12).2 :=
    State.Frame.free (begin_frame_spoke.mono (Covers.refl.sub rfl)) (by decide)
  exact ⟨_, rfl, _, runs, started.answers ready, started.finish_frame frame (by decide)⟩

theorem cryptSeal_fails {slot : Nat} {aad d : Bytes} (ready : s.Ready c) (payload : c.payload = [0] ++ le 1 slot ++ le 2 aad.length ++ aad ++ d)
    (short : aad.length + d.length ≤ 1024) (low : 16 ≤ slot) (high : slot ≤ 31) (kind : (s.keySlot slot).kind = 4)
    (power : s.rd R.PWR_STAT_PFSEQ ≠ 1) (life : s.rd R.SEC_STAT_LIFECYCLE = 1 ∨ s.rd R.SEC_STAT_LIFECYCLE = 2) (broken : s.randomOk = false) :
    ∃ t, exec (.secCryptSeal c) s = .next t ∧ s.Answers c 0x6C stFault [2] t ∧ s.Frame [.spoke] t := by
  have runs := exec_cryptSeal payload short low high kind power life
  rw [broken, if_pos (by decide)] at runs
  exact ⟨_, runs, (started_begin ready).answers ready, reply_frame ready⟩

theorem cryptOpen_outcomes {slot : Nat} {aad n d : Bytes} (ready : s.Ready c)
    (payload : c.payload = [1] ++ le 1 slot ++ le 2 aad.length ++ aad ++ n ++ d) (nonce : n.length = 12) (tag : 16 ≤ d.length)
    (short : aad.length + d.length ≤ 1040) (low : 16 ≤ slot) (high : slot ≤ 31) (kind : (s.keySlot slot).kind = 4)
    (power : s.rd R.PWR_STAT_PFSEQ ≠ 1) (life : s.rd R.SEC_STAT_LIFECYCLE = 1 ∨ s.rd R.SEC_STAT_LIFECYCLE = 2) :
    ∃ t, exec (.secCryptOpen c) s = .next t ∧
    ∃ m, m = Config.gcmOpen (s.keySlot slot).key n aad d ∧ (m = none → s.Answers c 0x6C stFault [1] t) ∧
    (∀ x ∈ m, s.Answers c 0x6C stOk x t) ∧ s.Frame [.spoke] t := by
  change c.payload = le 1 1 ++ le 1 slot ++ le 2 aad.length ++ aad ++ n ++ d at payload
  rw [List.append_assoc _ n d] at payload
  obtain ⟨slotByte, aadLen, aad_, data, len⟩ := cryptOperands (sub_ := 1) (slot := slot) (aad := aad) (d := n ++ d) (by omega) (by omega)
  rw [← payload] at slotByte aadLen aad_ data len
  rw [List.length_append, nonce] at len
  have checks := cryptChecks_of_good (s := (s.begin c 0x6C).2) (p := c.payload) (extra := 28) (by omega) (by omega)
    (by rw [slotByte]; exact cryptSlot_of (s := s) low high kind) life power
  have runs : exec (.secCryptOpen c) s = .next ((Config.gcmOpen (s.keySlot slot).key n aad d).elim
      ((s.begin c 0x6C).2.finish (s.refOf c 0x6C) stFault [0x01]) fun m => (s.begin c 0x6C).2.ok (s.refOf c 0x6C) m) := by
    show Host.Outcome.next ((s.begin c 0x6C).2.doSecCryptOpen (s.refOf c 0x6C) (le 1 1 ++ c.payload.drop 1)) = _
    rw [subRow_self (by rw [payload]; rfl)]
    unfold State.doSecCryptOpen
    rw [checked_ok checks, slotByte, aadLen, aad_, data]
    dsimp only
    rw [List.take_left' nonce, List.drop_left' nonce,
      show (s.begin c 0x6C).2.keySlot slot = s.keySlot slot from rfl]
    cases Config.gcmOpen (s.keySlot slot).key n aad d <;> rfl
  refine ⟨_, runs, _, rfl, ?_⟩
  cases Config.gcmOpen (s.keySlot slot).key n aad d with
  | none => exact ⟨fun _ => (started_begin ready).answers ready, fun _ hm => absurd hm (Option.not_mem_none _), reply_frame ready⟩
  | some m =>
    refine ⟨fun absent => absurd absent (Option.some_ne_none m), fun x hx => ?_, reply_frame ready⟩
    rw [← Option.mem_some.mp hx]
    exact (started_begin ready).answers ready

theorem crypt_refused (ready : s.Ready c) (nonempty : c.payload ≠ []) :
    (c.payload.length < 4 ∨ c.payload.length < 4 + u16 c.payload 2 ∨ 1028 < c.payload.length → s.Refuses (.secCryptSeal c) c 0x6C stBadLength) ∧
    (c.payload.length < 4 ∨ c.payload.length < 32 + u16 c.payload 2 ∨ 1056 < c.payload.length → s.Refuses (.secCryptOpen c) c 0x6C stBadLength) ∧
    (32 + u16 c.payload 2 ≤ c.payload.length → c.payload.length ≤ 1028 → s.cryptSlot (u8 c.payload 1) = false →
      s.Refuses (.secCryptSeal c) c 0x6C stBadParam ∧ s.Refuses (.secCryptOpen c) c 0x6C stBadParam) ∧
    (4 + u16 c.payload 2 ≤ c.payload.length → c.payload.length ≤ 1028 → s.cryptSlot (u8 c.payload 1) = true →
      s.rd R.SEC_STAT_LIFECYCLE = 0 ∨ s.rd R.SEC_STAT_LIFECYCLE = 3 ∨ s.rd R.PWR_STAT_PFSEQ = 1 →
      s.Refuses (.secCryptSeal c) c 0x6C stNotPermitted) := by
  have size : ∀ v extra, cryptSize (le 1 v ++ c.payload.drop 1) extra = cryptSize c.payload extra := fun v extra => by
    unfold cryptSize
    rw [length_subRow nonempty, show u16 (le 1 v ++ c.payload.drop 1) 2 = u16 c.payload 2 from congrArg ofLe (sub_subRow v c.payload 1 2)]
  have list : ∀ v extra, (s.begin c 0x6C).2.cryptChecks (le 1 v ++ c.payload.drop 1) extra =
      [(!cryptSize c.payload extra, stBadLength), param (!s.cryptSlot (u8 c.payload 1)), permitted (s.keysUsable && s.notInPowerFail)] :=
    fun v extra => by
      unfold State.cryptChecks
      rw [size, u8_subRow v c.payload 0]
      rfl
  have sealRow : ∃ k, (s.begin c 0x6C).2.doSecCryptSeal (s.refOf c 0x6C) (le 1 0 ++ c.payload.drop 1) =
      (s.begin c 0x6C).2.checked (s.refOf c 0x6C) ((s.begin c 0x6C).2.cryptChecks (le 1 0 ++ c.payload.drop 1) 0) k := by
    unfold State.doSecCryptSeal
    exact ⟨_, rfl⟩
  have openRow : ∃ k, (s.begin c 0x6C).2.doSecCryptOpen (s.refOf c 0x6C) (le 1 1 ++ c.payload.drop 1) =
      (s.begin c 0x6C).2.checked (s.refOf c 0x6C) ((s.begin c 0x6C).2.cryptChecks (le 1 1 ++ c.payload.drop 1) 28) k := by
    unfold State.doSecCryptOpen
    exact ⟨_, rfl⟩
  rw [list] at sealRow openRow
  refine ⟨fun bad => ?_, fun bad => ?_, fun fits short slot => ⟨?_, ?_⟩, fun fits short slot forbidden => ?_⟩
  · refine refuses_of_subRow ready rfl sealRow (status := stBadLength) ?_ (by decide)
    rw [show cryptSize c.payload 0 = false from decide_eq_false (by omega)]
    rfl
  · refine refuses_of_subRow ready rfl openRow (status := stBadLength) ?_ (by decide)
    rw [show cryptSize c.payload 28 = false from decide_eq_false (by omega)]
    rfl
  · refine refuses_of_subRow ready rfl sealRow (status := stBadParam) ?_ (by decide)
    rw [show cryptSize c.payload 0 = true from decide_eq_true (by omega), slot]
    rfl
  · refine refuses_of_subRow ready rfl openRow (status := stBadParam) ?_ (by decide)
    rw [show cryptSize c.payload 28 = true from decide_eq_true (by omega), slot]
    rfl
  · refine refuses_of_subRow ready rfl sealRow (status := stNotPermitted) ?_ (by decide)
    have no : (s.keysUsable && s.notInPowerFail) = false := by
      rcases forbidden with blank | returned | power
      · rw [not_keysUsable_of (.inl blank), Bool.false_and]
      · rw [not_keysUsable_of (.inr returned), Bool.false_and]
      · rw [inPowerFail_of power, Bool.and_false]
    rw [show cryptSize c.payload 0 = true from decide_eq_true (by omega), slot, no]
    rfl

/-! ### SEC_RANDOM -/

theorem secRandom_answers {n : Nat} (ready : s.Ready c) (payload : c.payload = le 1 n) (low : 1 ≤ n) (high : n ≤ 64) (random : s.randomOk = true) :
    ∃ d, d = s.random n ∧ ∃ t, exec (.secRandom c) s = .next t ∧ s.Answers c 0x6F stOk d.1 t ∧ d.1.length = n ∧ s.Frame [.free, .spoke] t := by
  have operand : u8 c.payload 0 = n := by rw [payload, u8_le (by omega)]
  have checks : firstBad [lengthIs c.payload 1, param (decide (n = 0 ∨ 64 < n)), (!s.randomOk, stFault)] = stOk := by
    rw [firstBad_of_length (by rw [payload, le_length]), decide_eq_false (by omega), random]
    rfl
  have runs : exec (.secRandom c) s = .next (((s.begin c 0x6F).2.random n).2.ok (s.refOf c 0x6F) (s.random n).1) := by
    refine congrArg Host.Outcome.next ?_
    show (s.begin c 0x6F).2.doSecRandom (s.refOf c 0x6F) c.payload = _
    unfold State.doSecRandom
    rw [operand]
    exact checked_ok checks
  have started : s.Started c 0x6F [] ((s.begin c 0x6F).2.random n).2 := (started_begin ready).of_eq rfl rfl
  have frame : s.Frame [.free, .spoke] ((s.begin c 0x6F).2.random n).2 :=
    State.Frame.free (begin_frame_spoke.mono (Covers.refl.sub rfl)) (by decide)
  exact ⟨_, rfl, _, runs, started.answers ready, le_length .., started.finish_frame frame (by decide)⟩

theorem secRandom_refused (ready : s.Ready c) : (c.payload.length ≠ 1 → s.Refuses (.secRandom c) c 0x6F stBadLength) ∧
    (c.payload.length = 1 → u8 c.payload 0 = 0 ∨ 64 < u8 c.payload 0 → s.Refuses (.secRandom c) c 0x6F stBadParam) ∧
    (c.payload.length = 1 → 1 ≤ u8 c.payload 0 → u8 c.payload 0 ≤ 64 → s.sec.drbg = false → s.Refuses (.secRandom c) c 0x6F stFault) := by
  have refused : ∀ status, firstBad [lengthIs c.payload 1, param (decide (u8 c.payload 0 = 0 ∨ 64 < u8 c.payload 0)), (!s.randomOk, stFault)] =
      status → status ≠ stOk → s.Refuses (.secRandom c) c 0x6F status := fun status bad ne =>
    refuses_of_check ready (f := State.doSecRandom) rfl ⟨_, rfl⟩ bad ne
  refine ⟨fun len => ?_, fun len bad => ?_, fun len low high broken => ?_⟩
  · exact refused _ (firstBad_of_badLength len _) (by decide)
  · exact refused _ ((firstBad_of_length len _).trans (firstBad_of_badParam (decide_eq_true bad) _)) (by decide)
  · refine refused _ ((firstBad_of_length len _).trans ((firstBad_of_param (decide_eq_false (by omega)) _).trans ?_)) (by decide)
    rw [randomOk_eq_false (.inl broken)]
    rfl

/-! ### The DRBG, the health tests, NVM_WP (R406, R407, R419) -/

theorem drbgReseed_eq (s : State) : exec .drbgReseed s =
    .next (if s.sec.drbg = true ∧ s.rd R.SEC_STAT_ENT_FAIL ≠ 1 ∧ s.sec.seedAt + 64 ≤ s.stage then
      { s with sec := { s.sec with seedAt := s.stage } } else s) := by
  refine congrArg Host.Outcome.next ?_
  show s.reseed = _
  have sound : s.randomOk = true ↔ s.sec.drbg = true ∧ s.rd R.SEC_STAT_ENT_FAIL ≠ 1 := by
    unfold State.randomOk
    rw [Bool.and_eq_true, Bool.not_eq_true', on_eq_false_iff]
  unfold State.reseed
  by_cases due : s.sec.drbg = true ∧ s.rd R.SEC_STAT_ENT_FAIL ≠ 1 ∧ s.sec.seedAt + 64 ≤ s.stage
  · rw [if_pos due]
    obtain ⟨drbg, fine, late⟩ := due
    refine (if_pos (by rw [sound.mpr ⟨drbg, fine⟩]; exact decide_eq_true late)).trans ?_
    exact congrArg (fun x => { s with sec := { s.sec with drbg := x, seedAt := s.stage } }) drbg.symm
  · rw [if_neg due, if_neg ?_]
    rw [Bool.and_eq_true, sound, decide_eq_true_eq]
    exact fun h => due ⟨h.1.1, h.1.2, h.2⟩

/-- The certified configuration that is already shown stays. -/
theorem recert_of_same (same : s.certNow = s.on R.SEC_STAT_CERT) : s.recert = s := if_pos same

/-- The certified configuration is left. -/
theorem recert_leaves (was : s.rd R.SEC_STAT_CERT = 1) (no : s.certNow = false) : s.recert =
    ((s.wr R.SEC_STAT_CERT 0).secNote 8 0 (0 + 4 * s.rd R.SEC_STAT_LIFECYCLE)).fault clDegrade 0x68 8 0 0 := by
  unfold State.recert
  dsimp only
  rw [no, State.on_iff.mpr was, if_neg (by decide), if_neg (by decide)]
  rfl

/-- The certified configuration is entered. -/
theorem recert_enters (was : s.rd R.SEC_STAT_CERT ≠ 1) (yes : s.certNow = true) : s.recert =
    (s.wr R.SEC_STAT_CERT 1).secNote 8 0 (1 + 4 * s.rd R.SEC_STAT_LIFECYCLE) := by
  unfold State.recert
  dsimp only
  rw [yes, on_eq_false_iff.mpr was, if_neg (by decide), if_pos rfl]
  rfl

/-- CERT is what the conditions say. -/
theorem recert_shows (s : State) : s.recert.rd R.SEC_STAT_CERT = 1 ↔ s.certNow = true := by
  by_cases was : s.rd R.SEC_STAT_CERT = 1
  · cases now : s.certNow with
    | true =>
      rw [recert_of_same (by rw [now, State.on_iff.mpr was])]
      exact iff_of_true was rfl
    | false =>
      rw [recert_leaves was now, fault_rd_other _ _ _ _ _ _ (by decide), State.secNote_rd, State.wr_rd_same]
      decide
  · cases now : s.certNow with
    | true =>
      rw [recert_enters was now, State.secNote_rd, State.wr_rd_same]
      decide
    | false =>
      rw [recert_of_same (by rw [now, on_eq_false_iff.mpr was])]
      exact iff_of_false was Bool.false_ne_true

theorem certNow_iff (s : State) : s.certNow = true ↔ s.rd R.SEC_STAT_LIFECYCLE = 2 ∧ s.rd R.SEC_STAT_DBG_UNLOCKED ≠ 1 ∧
    s.rd R.SEC_STAT_WP_LOW ≠ 1 ∧ s.rd R.SEC_STAT_PATCH_OK = 1 ∧ s.rd R.SEC_STAT_AUDIT ≠ 1 ∧ s.rd R.STB_AUDIT_EN ≠ 1 ∧
    s.rd R.SEC_STAT_ENT_FAIL ≠ 1 := by
  unfold State.certNow
  simp only [Bool.and_eq_true, beq_iff_eq, Bool.not_eq_true', on_eq_false_iff, State.on_iff, and_assoc]

/-- A health test fails, before the certified configuration follows. -/
def State.entropyLost (s : State) : State :=
  ((({ s.wr R.SEC_STAT_ENT_FAIL 1 with sec.drbg := false } : State).secNote 7 0 0).record 2 0x16 (le 1 0)).fault clDegrade 0x68 7 0 0

theorem entropyFail_effect (sound : s.rd R.SEC_STAT_ENT_FAIL ≠ 1) : ∃ t, exec .entropyFail s = .next t ∧ t.rd R.SEC_STAT_ENT_FAIL = 1 ∧
    t.rd R.SEC_STAT_CERT ≠ 1 ∧ t.sec = { s.sec with drbg := false } ∧ t.randomOk = false ∧ t.hay = (s.record 2 0x16 [0]).hay ∧
    (s.rd R.SEC_STAT_CERT ≠ 1 → t.flt = (s.fault clDegrade 0x68 7 0 0).flt ∧ s.Raises 0x68 [7, 0, 0, 0, 0, 0] t) ∧
    s.Frame [.regs, .spoke, .hay, .sec, .flt] t := by
  let v : State := { s.wr R.SEC_STAT_ENT_FAIL 1 with sec.drbg := false }
  let w := v.secNote 7 0 0
  have runs : exec .entropyFail s = .next s.entropyLost.recert :=
    congrArg Host.Outcome.next (if_neg (by rw [on_eq_false_iff.mpr sound]; decide))
  have rd : ∀ k, k / 1024 < 0x7000 → s.entropyLost.rd k = v.rd k := fun k low => by
    unfold State.entropyLost
    rw [fault_rd_other _ _ _ _ _ _ low, State.record_rd, State.secNote_rd]
  have failed : s.entropyLost.rd R.SEC_STAT_ENT_FAIL = 1 := by
    rw [rd _ (by decide)]
    exact State.wr_rd_same s R.SEC_STAT_ENT_FAIL 1
  have sec : s.entropyLost.sec = { s.sec with drbg := false } := by
    unfold State.entropyLost
    rw [State.fault_sec, State.record_sec, State.secNote_sec]
    rfl
  have hay : s.entropyLost.hay = (s.record 2 0x16 [0]).hay := by
    unfold State.entropyLost
    rw [State.fault_hay]
    exact record_hay_congr (State.secNote_hay ..) (State.secNote_cad ..)
  have recert : s.entropyLost.Frame [.regs, .spoke, .flt] s.entropyLost.recert := State.recert_frame (Covers.refl.sub rfl) State.Frame.refl
  have stays : s.entropyLost.recert.rd R.SEC_STAT_ENT_FAIL = 1 := by rw [recert_rd_other (by decide) (by decide), failed]
  have no : s.entropyLost.certNow = false := Bool.eq_false_iff.mpr fun h => ((certNow_iff _).mp h).2.2.2.2.2.2 failed
  have lost : s.Frame [.regs, .spoke, .hay, .sec, .flt] s.entropyLost := by
    have wrote : s.Frame [.regs, .spoke, .hay, .sec, .flt] v := (State.wr_frame (Covers.refl.sub rfl) State.Frame.refl).sec (by decide)
    exact State.fault_frame (Covers.refl.sub rfl) (State.record_frame (Covers.refl.sub rfl) (State.secNote_frame (Covers.refl.sub rfl) wrote))
  refine ⟨_, runs, stays, ?_, (recert.sec_eq (by decide)).trans sec, randomOk_eq_false (.inr stays), (recert.hay_eq (by decide)).trans hay, ?_,
    lost.trans (recert.mono (Covers.refl.sub rfl))⟩
  · rw [Ne, recert_shows, no]
    decide
  · intro cert
    have was : s.entropyLost.rd R.SEC_STAT_CERT ≠ 1 := by
      rw [rd _ (by decide), show v.rd R.SEC_STAT_CERT = s.rd R.SEC_STAT_CERT from
        State.wr_rd_other s 1 (by decide : R.SEC_STAT_ENT_FAIL ≠ R.SEC_STAT_CERT)]
      exact cert
    rw [recert_of_same (by rw [no, on_eq_false_iff.mpr was])]
    refine ⟨fault_flt_congr ?_ ?_ ?_, ?_⟩
    · exact (State.record_flt ..).trans (State.secNote_flt ..)
    · exact (State.record_pwr ..).trans (State.secNote_pwr ..)
    · exact (State.record_cad ..).trans (State.secNote_cad ..)
    · have raised : s.Raises 0x68 [7, 0, 0, 0, 0, 0] w := (State.event_raises v _ _).of_eq rfl
      exact raised.to_eq ((State.fault_spoke ..).trans (State.record_spoke ..))

theorem entropyFail_again (failed : s.rd R.SEC_STAT_ENT_FAIL = 1) : exec .entropyFail s = .next s :=
  congrArg Host.Outcome.next (if_pos (State.on_iff.mpr failed))

/-- NVM_WP is shown, before the certified configuration follows. -/
def State.wpShown (s : State) (low : Bool) : State := (s.wr R.SEC_STAT_WP_LOW (b2n low)).wr R.HAY_STAT_WP (b2n low)

theorem nvmWpChange_effect (s : State) (low : Bool) : ∃ t, exec (.nvmWpChange low) s = .next t ∧ t.rd R.SEC_STAT_WP_LOW = b2n low ∧
    t.rd R.HAY_STAT_WP = b2n low ∧
    (t.rd R.SEC_STAT_CERT = 1 ↔ s.rd R.SEC_STAT_LIFECYCLE = 2 ∧ s.rd R.SEC_STAT_DBG_UNLOCKED ≠ 1 ∧ low = false ∧ s.rd R.SEC_STAT_PATCH_OK = 1 ∧
      s.rd R.SEC_STAT_AUDIT ≠ 1 ∧ s.rd R.STB_AUDIT_EN ≠ 1 ∧ s.rd R.SEC_STAT_ENT_FAIL ≠ 1) ∧
    ((t.rd R.SEC_STAT_CERT = 1 ↔ s.rd R.SEC_STAT_CERT = 1) → s.Fields [(R.HAY_STAT_WP, b2n low), (R.SEC_STAT_WP_LOW, b2n low)] t ∧ s.Frame [.regs] t) ∧
    (t.rd R.SEC_STAT_CERT = 1 → s.rd R.SEC_STAT_CERT ≠ 1 → s.Raises 0x68 [8, 0, 9, 0, 0, 0] t) ∧
    (t.rd R.SEC_STAT_CERT ≠ 1 → s.rd R.SEC_STAT_CERT = 1 → t.flt = (s.fault clDegrade 0x68 8 0 0).flt ∧
      s.Raises 0x68 ([8, 0] ++ le 4 (4 * s.rd R.SEC_STAT_LIFECYCLE)) t) ∧ s.Frame [.regs, .spoke, .flt] t := by
  have fields : s.Fields [(R.HAY_STAT_WP, b2n low), (R.SEC_STAT_WP_LOW, b2n low)] (s.wpShown low) := State.Fields.refl.wr.wr
  have shown : s.Frame [.regs] (s.wpShown low) := State.wr_frame (Covers.refl.sub rfl) (State.wr_frame (Covers.refl.sub rfl) State.Frame.refl)
  have cert : (s.wpShown low).rd R.SEC_STAT_CERT = s.rd R.SEC_STAT_CERT := fields _
  have life : (s.wpShown low).rd R.SEC_STAT_LIFECYCLE = s.rd R.SEC_STAT_LIFECYCLE := fields _
  have now : (s.wpShown low).certNow = true ↔ s.rd R.SEC_STAT_LIFECYCLE = 2 ∧ s.rd R.SEC_STAT_DBG_UNLOCKED ≠ 1 ∧ low = false ∧
      s.rd R.SEC_STAT_PATCH_OK = 1 ∧ s.rd R.SEC_STAT_AUDIT ≠ 1 ∧ s.rd R.STB_AUDIT_EN ≠ 1 ∧ s.rd R.SEC_STAT_ENT_FAIL ≠ 1 := by
    have wp : (s.wpShown low).rd R.SEC_STAT_WP_LOW ≠ 1 ↔ low = false := by
      rw [show (s.wpShown low).rd R.SEC_STAT_WP_LOW = b2n low from fields _]
      cases low <;> decide
    rw [certNow_iff, wp, life, show (s.wpShown low).rd R.SEC_STAT_DBG_UNLOCKED = s.rd R.SEC_STAT_DBG_UNLOCKED from fields _,
      show (s.wpShown low).rd R.SEC_STAT_PATCH_OK = s.rd R.SEC_STAT_PATCH_OK from fields _,
      show (s.wpShown low).rd R.SEC_STAT_AUDIT = s.rd R.SEC_STAT_AUDIT from fields _,
      show (s.wpShown low).rd R.STB_AUDIT_EN = s.rd R.STB_AUDIT_EN from fields _,
      show (s.wpShown low).rd R.SEC_STAT_ENT_FAIL = s.rd R.SEC_STAT_ENT_FAIL from fields _]
  refine ⟨(s.wpShown low).recert, rfl, ?_, ?_, (recert_shows _).trans now, fun same => ?_, fun enters was => ?_, fun leaves was => ?_,
    State.recert_frame (Covers.refl.sub rfl) (shown.mono (Covers.refl.sub rfl))⟩
  · rw [recert_rd_other (by decide) (by decide)]
    exact fields _
  · rw [recert_rd_other (by decide) (by decide)]
    exact fields _
  · have kept : (s.wpShown low).certNow = (s.wpShown low).on R.SEC_STAT_CERT :=
      Bool.eq_iff_iff.mpr (by rw [State.on_iff, cert, ← same, recert_shows])
    rw [recert_of_same kept]
    exact ⟨fields, shown⟩
  · have yes := (recert_shows _).mp enters
    have field := ((certNow_iff _).mp yes).1
    rw [recert_enters (by rw [cert]; exact was) yes, field]
    exact (State.event_raises ((s.wpShown low).wr R.SEC_STAT_CERT 1) _ _).of_eq rfl
  · have no : (s.wpShown low).certNow = false := Bool.eq_false_iff.mpr fun h => leaves ((recert_shows _).mpr h)
    rw [recert_leaves (by rw [cert]; exact was) no, life, Nat.zero_add]
    refine ⟨fault_flt_congr ?_ ?_ ?_, ?_⟩
    · exact State.secNote_flt ..
    · exact State.secNote_pwr ..
    · exact State.secNote_cad ..
    · have raised : s.Raises 0x68 ([8, 0] ++ le 4 (4 * s.rd R.SEC_STAT_LIFECYCLE))
          (((s.wpShown low).wr R.SEC_STAT_CERT 0).secNote 8 0 (4 * s.rd R.SEC_STAT_LIFECYCLE)) :=
        (State.event_raises ((s.wpShown low).wr R.SEC_STAT_CERT 0) _ _).of_eq rfl
      exact raised.to_eq (State.fault_spoke ..)

/-! ### The obligation -/

/-- Settles O56: each row of the handshakes, pairing, SEC_CRYPT, SEC_RANDOM and the entropy by its own lemma. -/
theorem handshakes : Obligations.Handshakes := by
  unfold Obligations.Handshakes
  refine ⟨?_, ?_, ?_, ?_, ?_, ?_, ?_, ?_, ?_, ?_, ?_, ?_, ?_, ?_, ?_, ?_, ?_, ?_, ?_, ?_, ?_, ?_, ?_, ?_, ?_, ?_, ?_⟩
  · exact fun s c mode slot cn ready payload len life kind unlocked power drbg sound =>
      hello_served ready payload len life kind unlocked power (randomOk_of drbg sound)
  · exact fun s c ready => hello_refused ready
  · exact fun s c h ready only hello live len power few => auth_outcomes ready only hello live len power few
  · exact fun s c h ready only hello live len power fourth kind deaf => auth_lockedOut ready only hello live len power fourth kind deaf
  · exact fun s c ready => auth_refused ready
  · exact fun s n h hello => handshakeLapse_effect hello
  · exact fun s n e locked => lockoutEnd_effect locked
  · exact fun s c slot ready payload low high first last power life empty closed =>
      pairOpen_opens ready payload low high first last power life empty closed
  · exact fun s c ready => pairOpen_refused ready
  · exact fun s c ep en ready payload epLen enLen host window fresh power drbg sound =>
      pairStart_served ready payload epLen enLen host window fresh power (randomOk_of drbg sound)
  · exact fun s c ready => pairStart_refused ready
  · exact fun s c ready len host window used power => pairStart_again ready len host window used power
  · exact fun s c x slot e ready payload first last pair window power idle unburnt gate =>
      pairConfirm_stores ready payload first last pair window power idle unburnt gate
  · exact fun s c x ready payload first last pair window power => pairConfirm_rejects ready payload first last pair window power
  · exact fun s c ready => pairConfirm_refused ready
  · exact fun s slot e window due idle => pairingWindow_ends window due idle
  · exact fun s early => pairingWindow_stays early
  · exact fun s c slot aad d ready payload short low high kind power life drbg sound =>
      cryptSeal_seals ready payload short low high kind power life (randomOk_of drbg sound)
  · exact fun s c slot aad d ready payload short low high kind power life broken =>
      cryptSeal_fails ready payload short low high kind power life (randomOk_eq_false broken)
  · exact fun s c slot aad n d ready payload nonce tag short low high kind power life =>
      cryptOpen_outcomes ready payload nonce tag short low high kind power life
  · exact fun s c ready nonempty => crypt_refused ready nonempty
  · exact fun s c n ready payload low high drbg sound => secRandom_answers ready payload low high (randomOk_of drbg sound)
  · exact fun s c ready => secRandom_refused ready
  · exact drbgReseed_eq
  · exact fun s sound => entropyFail_effect sound
  · exact fun s failed => entropyFail_again failed
  · exact nvmWpChange_effect

end Sys2Proof.Machine
end

section
/-!
PROOFS. The matrix panel's overdrive (R354), hold sums and trips (R357, R358), and what a lap edge takes before its frame (R350, R359).
-/

namespace Sys2Proof.Machine

variable {s t u : State}

/-! ### Overdrive (R354) -/

theorem overdrive_worked (e : Nat → Nat → Nat) (a : e 2 4 = 168) (b : e 3 4 = 160) (c : e 2 5 = 204) (d : e 3 5 = 196) :
    overdrive e 20 40 = 46 := by
  unfold overdrive
  simp only [show min (20 / 9) 6 = 2 from rfl, show min (40 / 9) 6 = 4 from rfl, a, b, c, d]
  rfl

/-- A table of the identity overdrives no change. -/
theorem overdrive_identity (e : Nat → Nat → Nat) (p n : Nat) (table : ∀ i ∈ List.range 8, ∀ j ∈ List.range 8, e i j = 36 * j)
    (old : p < 64) (new : n < 64) : overdrive e p n = n := by
  obtain ⟨i, fp, hi, hfp, place, hp⟩ : ∃ i fp, i ≤ 6 ∧ fp ≤ 9 ∧ min (p / 9) 6 = i ∧ p - 9 * i = fp := ⟨_, _, by omega, by omega, rfl, rfl⟩
  obtain ⟨j, fn, hj, hfn, column, hn⟩ : ∃ j fn, j ≤ 6 ∧ fn ≤ 9 ∧ min (n / 9) 6 = j ∧ n - 9 * j = fn := ⟨_, _, by omega, by omega, rfl, rfl⟩
  have entry : ∀ a b, a < 8 → b < 8 → e a b = 36 * b := fun a b ha hb => table a (List.mem_range.mpr ha) b (List.mem_range.mpr hb)
  obtain ⟨gp, rest⟩ : ∃ gp, 9 - fp = gp ∧ gp + fp = 9 := ⟨_, rfl, by omega⟩
  obtain ⟨gn, left⟩ : ∃ gn, 9 - fn = gn ∧ gn + fn = 9 := ⟨_, rfl, by omega⟩
  have whole : 36 * j * gp * gn + 36 * j * fp * gn + 36 * (j + 1) * gp * fn + 36 * (j + 1) * fp * fn = 324 * n := by
    have split_ : 36 * j * gp * gn + 36 * j * fp * gn + 36 * (j + 1) * gp * fn + 36 * (j + 1) * fp * fn =
        (gp + fp) * (36 * j * (gn + fn) + 36 * fn) := by ring
    rw [split_, rest.2, left.2]
    omega
  unfold overdrive
  dsimp only
  rw [place, column, hp, hn, rest.1, left.1, entry i j (by omega) (by omega), entry (i + 1) j (by omega) (by omega),
    entry i (j + 1) (by omega) (by omega), entry (i + 1) (j + 1) (by omega) (by omega), whole]
  omega

theorem overdrive_corner (e : Nat → Nat → Nat) (small : e 7 0 ≤ 252) : overdrive e 63 0 = (e 7 0 + 2) / 4 := by
  unfold overdrive
  simp only [show min (63 / 9) 6 = 6 from rfl, show min (0 / 9) 6 = 0 from rfl, Nat.reduceMul, Nat.reduceSub, Nat.reduceAdd, Nat.mul_zero,
    Nat.zero_mul, Nat.add_zero, Nat.zero_add]
  omega

/-- Overdrive reads the 64 entries of its table alone. -/
theorem overdrive_congr {e f : Nat → Nat → Nat} (same : ∀ i j, i < 8 → j < 8 → e i j = f i j) (p n : Nat) : overdrive e p n = overdrive f p n := by
  unfold overdrive
  dsimp only
  rw [same _ _ (by omega) (by omega), same (_ + 1) _ (by omega) (by omega), same _ (_ + 1) (by omega) (by omega),
    same (_ + 1) (_ + 1) (by omega) (by omega)]

/-! ### ACC, H and the trips (R357, R358) -/

/-- Each tile's accumulator takes its H. -/
theorem mget_accumulate (f : Nat → Int) {n : Nat} (h : n < 300) (m : Map Int) :
    mget 0 (((List.range 300).map fun t => (t, f t)).foldl (fun m e => mput 0 m e.1 (clamp (-(2 ^ 31 - 1)) (2 ^ 31 - 1) (mget 0 m e.1 + e.2))) m) n =
    clamp (-(2 ^ 31 - 1)) (2 ^ 31 - 1) (mget 0 m n + f n) := by
  rw [List.foldl_map]
  exact foldl_once (φ := fun m : Map Int => mget 0 m n) (G := fun v => clamp (-(2 ^ 31 - 1)) (2 ^ 31 - 1) (v + f n)) (a := n)
    (fun m => by rw [mget_mput, if_pos rfl]) (fun m k _ other => by rw [mget_mput, if_neg other]) List.nodup_range (List.mem_range.mpr h) m

/-- The accumulators after a lap edge. -/
def State.accNext (s : State) : Map Int :=
  ((List.range 300).map fun t => (t, s.tileH t)).foldl
    (fun m e => mput 0 m e.1 (clamp (-(2 ^ 31 - 1)) (2 ^ 31 - 1) (mget 0 m e.1 + e.2))) s.dsp.acc

/-- Whether a tile trips, by its accumulator and its H. -/
def State.tripsNow (s : State) (t : Nat) : Bool :=
  decide ((s.rd R.DSP_DC_DC_LIM : Int) < |mget 0 s.accNext t|) && decide (s.tileH t ≠ 0) && decide (0 < mget 0 s.accNext t * s.tileH t)

theorem dcEdge_driven (driven : s.rd R.DSP_STAT_STATE = 3 ∨ s.rd R.DSP_STAT_STATE = 4) :
    s.dcEdge.dsp = { s.dsp with acc := s.accNext, trips := (List.range 300).filter s.tripsNow } := by
  have tripped : ∀ l : List Nat, (((l.map fun t => (t, s.tileH t)).filter fun e : Nat × Int =>
      decide ((s.rd R.DSP_DC_DC_LIM : Int) < |mget 0 s.accNext e.1|) && decide (e.2 ≠ 0) && decide (0 < mget 0 s.accNext e.1 * e.2)).map (·.1)) =
      l.filter s.tripsNow := fun l => by
    rw [List.filter_map, List.map_map, show (fun e : Nat × Int => e.1) ∘ (fun t => (t, s.tileH t)) = id from rfl, List.map_id]
    refine List.filter_congr fun n _ => ?_
    rw [Function.comp_apply, State.tripsNow]
  unfold State.dcEdge
  simp only [if_pos driven]
  split
  · exact congrArg (fun x => { s.dsp with acc := s.accNext, trips := x }) (tripped (List.range 300))
  · exact congrArg (fun x => { s.dsp with acc := s.accNext, trips := x }) (tripped (List.range 300))

theorem dcEdge_idle (idle : ¬(s.rd R.DSP_STAT_STATE = 3 ∨ s.rd R.DSP_STAT_STATE = 4)) : s.dcEdge = { s with dsp.trips := [] } := if_neg idle

/-! ### What a lap edge takes (R347, R350, R359) -/

/-- A DSP_SVC run that was stopped is counted. -/
def State.lapCounted (s : State) : State := s.when s.dsp.stopped fun s => s.count R.DSP_STAT_REPEATS 0xFFFF 1

/-- The values that take effect at a lap edge. -/
def State.lapTaken (s : State) : State :=
  ({ s.lapCounted with dsp.stopped := false, dsp.lapAt := some s.lapCounted.cad.now } : State).dspTake

theorem lapCounted_rd_other {k : Nat} (other : R.DSP_STAT_REPEATS ≠ k) : s.lapCounted.rd k = s.rd k := by
  unfold State.lapCounted State.when
  split
  · exact State.wr_rd_other s _ other
  · rfl

theorem lapCounted_frame (s : State) : s.Frame [.regs] s.lapCounted :=
  State.when_frame State.Frame.refl fun _ h => State.wr_frame (Covers.refl.sub rfl) h

theorem lapTaken_rd_other {k : Nat} (repeats : R.DSP_STAT_REPEATS ≠ k) (rate : R.DSP_STAT_RATE_ACT ≠ k) : s.lapTaken.rd k = s.rd k := by
  let v : State := { s.lapCounted with dsp.stopped := false, dsp.lapAt := some s.lapCounted.cad.now }
  exact (State.wr_rd_other v (rateAct (v.rd R.THM_STAT_LEVEL) (v.rd R.DSP_CFG_RATE)) rate).trans (lapCounted_rd_other repeats)

theorem lapTaken_rate (s : State) : s.lapTaken.rd R.DSP_STAT_RATE_ACT = rateAct (s.rd R.THM_STAT_LEVEL) (s.rd R.DSP_CFG_RATE) := by
  let v : State := { s.lapCounted with dsp.stopped := false, dsp.lapAt := some s.lapCounted.cad.now }
  have level : v.rd R.THM_STAT_LEVEL = s.rd R.THM_STAT_LEVEL := lapCounted_rd_other (by decide)
  have rate : v.rd R.DSP_CFG_RATE = s.rd R.DSP_CFG_RATE := lapCounted_rd_other (by decide)
  rw [← level, ← rate]
  exact State.wr_rd_same v R.DSP_STAT_RATE_ACT _

theorem ladder_congr (same : ∀ k, 0x6004 ≤ k / 1024 → t.rd k = s.rd k) (negative : Bool) : t.ladder negative = s.ladder negative := by
  unfold State.ladder
  refine List.map_congr_left fun k _ => ?_
  cases negative
  · exact same _ (by simp only [Bool.false_eq_true, if_false, R.DSP_GAMMA_POS_GV]; omega)
  · exact same _ (by simp only [if_true, R.DSP_GAMMA_NEG_GV]; omega)

theorem lapTaken_dsp (s : State) : s.lapTaken.dsp = { s.dsp with
    stopped := false, lapAt := some s.cad.now, gpos := some (s.ladder false), gneg := some (s.ladder true), vcom := s.rd R.DSP_CFG_VCOM } := by
  have ladder : ∀ negative, s.lapCounted.ladder negative = s.ladder negative := ladder_congr fun k far =>
    lapCounted_rd_other (by simp only [R.DSP_STAT_REPEATS]; omega)
  have vcom : s.lapCounted.rd R.DSP_CFG_VCOM = s.rd R.DSP_CFG_VCOM := lapCounted_rd_other (by decide)
  have dsp : s.lapCounted.dsp = s.dsp := lapCounted_frame s .dsp (by decide)
  have cad : s.lapCounted.cad = s.cad := lapCounted_frame s .cad (by decide)
  rw [← ladder, ← ladder, ← vcom, ← dsp, ← cad]
  rfl

/-- H depends on the levels, the ladders in force, LASTPOL and H_FLIP. -/
theorem tileH_congr (flip : t.rd R.DSP_CFG_H_FLIP = s.rd R.DSP_CFG_H_FLIP) (dsp : t.dsp.hZero = s.dsp.hZero ∧ t.dsp.polBase = s.dsp.polBase ∧
    t.dsp.flips = s.dsp.flips ∧ t.dsp.level = s.dsp.level ∧ t.dsp.gpos = s.dsp.gpos ∧ t.dsp.gneg = s.dsp.gneg) (n : Nat) :
    t.tileH n = s.tileH n := by
  obtain ⟨zero, base, flips, level, gpos, gneg⟩ := dsp
  unfold State.tileH State.gv State.level State.lastPol State.patternPos State.on
  rw [flip, zero, base, flips, level, gpos, gneg]

theorem Dsp.eq_self_of_dc {d e : Dsp} {a : Map Int} {l : List Nat} (h : d = { e with acc := a, trips := l }) :
    d = { e with acc := d.acc, trips := d.trips } := by
  subst h
  rfl

theorem dcEdge_dsp (s : State) : s.dcEdge.dsp = { s.dsp with acc := s.dcEdge.dsp.acc, trips := s.dcEdge.dsp.trips } := by
  obtain ⟨a, l, dsp⟩ : ∃ a l, s.dcEdge.dsp = { s.dsp with acc := a, trips := l } := by
    by_cases driven : s.rd R.DSP_STAT_STATE = 3 ∨ s.rd R.DSP_STAT_STATE = 4
    · exact ⟨s.accNext, (List.range 300).filter s.tripsNow, dcEdge_driven driven⟩
    · exact ⟨s.dsp.acc, [], congrArg State.dsp (dcEdge_idle driven)⟩
  exact Dsp.eq_self_of_dc dsp

theorem dcEdge_rd_other {k : Nat} (trips : R.DSP_DC_TRIPS ≠ k) (tile : R.DSP_DC_LAST_TILE ≠ k) : s.dcEdge.rd k = s.rd k := by
  have held : ∀ d : Dsp, ({ s with dsp := d } : State).rd k = s.rd k := fun _ => rfl
  unfold State.dcEdge
  split
  · dsimp only
    split
    · exact held _
    · rw [State.wr_rd_other _ _ tile, State.count, State.wr_rd_other _ _ trips]
      exact held _
  · exact held _

/-- The state of a lap edge once its accumulators and trips are judged. -/
def State.lapEdged (s : State) : State := s.lapTaken.dcEdge

theorem lapEdged_rd_other {k : Nat} (repeats : R.DSP_STAT_REPEATS ≠ k) (rate : R.DSP_STAT_RATE_ACT ≠ k) (trips : R.DSP_DC_TRIPS ≠ k)
    (tile : R.DSP_DC_LAST_TILE ≠ k) : s.lapEdged.rd k = s.rd k :=
  (dcEdge_rd_other trips tile).trans (lapTaken_rd_other repeats rate)

theorem lapEdged_rate (s : State) : s.lapEdged.rd R.DSP_STAT_RATE_ACT = rateAct (s.rd R.THM_STAT_LEVEL) (s.rd R.DSP_CFG_RATE) :=
  (dcEdge_rd_other (by decide) (by decide)).trans (lapTaken_rate s)

theorem lapEdged_dsp (s : State) : s.lapEdged.dsp = { s.dsp with
    stopped := false, lapAt := some s.cad.now, gpos := some (s.ladder false), gneg := some (s.ladder true), vcom := s.rd R.DSP_CFG_VCOM
    acc := s.lapEdged.dsp.acc, trips := s.lapEdged.dsp.trips } := by
  have edge := dcEdge_dsp s.lapTaken
  rw [lapTaken_dsp] at edge
  exact edge

theorem lapEdged_cad (s : State) : s.lapEdged.cad = s.cad := by
  have taken : s.Frame [.regs, .dsp] s.lapTaken := State.dspTake_frame (Covers.refl.sub rfl)
    (((lapCounted_frame s).mono (Covers.refl.sub rfl)).dsp (by decide))
  have edge : s.lapTaken.Frame [.regs, .dsp] s.lapEdged := State.dcEdge_frame (Covers.refl.sub rfl) State.Frame.refl
  exact taken.trans edge .cad (by decide)

end Sys2Proof.Machine
end

section
/-!
PROOFS. The matrix panel's lap edge: the change of mode, the frame kind, the present that is latched, and the frame that is driven
(R353 to R356, R358 to R361).
-/

namespace Sys2Proof.Machine

variable {s t u : State}

/-! ### The change of mode (R360) -/

theorem modeEdge_of_none (none_ : s.dsp.modeDue = none) : s.modeEdge = s := by
  unfold State.modeEdge
  rw [none_]

/-- The mode that is due, before its commands are answered. -/
def State.modeTaken (s : State) (lantern : Bool) : State :=
  { s.wrB R.DSP_STAT_LANTERN lantern with
    dsp.modeDue := none, dsp.modeCmds := [], dsp.settle := if lantern then [] else s.dsp.settle
    dsp.plain := s.on R.DSP_STAT_LANTERN && !lantern }

theorem modeEdge_of_due {lantern : Bool} (due : s.dsp.modeDue = some lantern) :
    s.modeEdge = (s.modeTaken lantern).each s.dsp.modeCmds fun s r => s.ok r := by
  unfold State.modeEdge
  rw [due]
  rfl

theorem modeEdge_dsp {lantern : Bool} (due : s.dsp.modeDue = some lantern) : s.modeEdge.dsp = { s.dsp with
    modeDue := none, modeCmds := [], settle := if lantern then [] else s.dsp.settle, plain := s.on R.DSP_STAT_LANTERN && !lantern } := by
  rw [modeEdge_of_due due]
  exact each_keeps (φ := State.dsp) (fun s r _ => State.finish_dsp ..) (s.modeTaken lantern)

theorem modeEdge_rd {lantern : Bool} (due : s.dsp.modeDue = some lantern) (k : Nat) :
    s.modeEdge.rd k = (s.wrB R.DSP_STAT_LANTERN lantern).rd k := by
  rw [modeEdge_of_due due]
  exact each_keeps (φ := fun s => s.rd k) (fun s r _ => State.finish_rd ..) (s.modeTaken lantern)

theorem modeEdge_cad (s : State) : s.modeEdge.cad = s.cad :=
  State.modeEdge_frame (l := [.regs, .spoke, .dsp, .flt]) (Covers.refl.sub rfl) State.Frame.refl .cad (by decide)

/-! ### Where the lap edge stands before its frame -/

theorem panelLap_eq (fresh : s.dsp.lapAt ≠ some s.cad.now) : s.panelLap = s.lapBegin.lapEnd := if_neg fresh

theorem lapBegin_eq (s : State) : s.lapBegin = { s.lapEdged.modeEdge with dsp.presenting := false, dsp.od := [] } := rfl

theorem lapEnd_of_on (on : s.dsp.off = none) : s.lapEnd = s.lapPresent := by
  unfold State.lapEnd
  rw [on]
  rfl

theorem lapEdged_modeDue (s : State) : s.lapEdged.dsp.modeDue = s.dsp.modeDue := by rw [lapEdged_dsp]

/-- Before its frame, at a lap edge with no change of mode. -/
theorem lapBegin_dsp (none_ : s.dsp.modeDue = none) : s.lapBegin.dsp = { s.dsp with
    stopped := false, lapAt := some s.cad.now, gpos := some (s.ladder false), gneg := some (s.ladder true), vcom := s.rd R.DSP_CFG_VCOM
    acc := s.lapEdged.dsp.acc, trips := s.lapEdged.dsp.trips, presenting := false, od := [] } := by
  rw [lapBegin_eq, modeEdge_of_none (by rw [lapEdged_modeDue, none_])]
  show { s.lapEdged.dsp with presenting := false, od := [] } = _
  rw [lapEdged_dsp]

theorem lapBegin_rd (none_ : s.dsp.modeDue = none) (k : Nat) : s.lapBegin.rd k = s.lapEdged.rd k := by
  rw [lapBegin_eq, modeEdge_of_none (by rw [lapEdged_modeDue, none_])]
  rfl

/-- Before its frame, at a lap edge with a change of mode. -/
theorem lapBegin_dsp_of_due {lantern : Bool} (due : s.dsp.modeDue = some lantern) : s.lapBegin.dsp = { s.dsp with
    stopped := false, lapAt := some s.cad.now, gpos := some (s.ladder false), gneg := some (s.ladder true), vcom := s.rd R.DSP_CFG_VCOM
    acc := s.lapEdged.dsp.acc, trips := s.lapEdged.dsp.trips, modeDue := none, modeCmds := []
    settle := if lantern then [] else s.dsp.settle, plain := s.on R.DSP_STAT_LANTERN && !lantern, presenting := false, od := [] } := by
  have was : s.lapEdged.on R.DSP_STAT_LANTERN = s.on R.DSP_STAT_LANTERN := by
    unfold State.on
    rw [lapEdged_rd_other (by decide) (by decide) (by decide) (by decide)]
  rw [lapBegin_eq]
  show { s.lapEdged.modeEdge.dsp with presenting := false, od := [] } = _
  rw [modeEdge_dsp (by rw [lapEdged_modeDue, due]), was, lapEdged_dsp]

theorem lapBegin_rd_of_due {lantern : Bool} (due : s.dsp.modeDue = some lantern) (k : Nat) :
    s.lapBegin.rd k = (s.lapEdged.wrB R.DSP_STAT_LANTERN lantern).rd k := by
  rw [lapBegin_eq]
  exact modeEdge_rd (by rw [lapEdged_modeDue, due]) k

theorem lapBegin_lap (s : State) : s.lapBegin.lap = s.lap := by
  have cad : s.lapBegin.cad = s.cad := by
    rw [lapBegin_eq]
    exact (modeEdge_cad s.lapEdged).trans (lapEdged_cad s)
  unfold State.lap
  rw [cad]

/-! ### The frame that is driven (R355, R356) -/

/-- LASTPOL of every line after the lap's frame. -/
def State.flipped (s : State) : Map Nat := s.driven.foldl (fun m y => mput 0 m y (1 - mget 0 m y)) s.dsp.flips

/-- A frame of kind 1, 4 or 5 drives every line. -/
theorem flipped_all (kind : s.dsp.kind = 1 ∨ s.dsp.kind = 4 ∨ s.dsp.kind = 5) {y : Nat} (h : y < 240) :
    mget 0 s.flipped y = 1 - mget 0 s.dsp.flips y := by
  have all : s.driven = List.range 240 := by
    unfold State.driven
    rcases kind with k | k | k <;>
    · rw [k]
      rfl
  unfold State.flipped
  rw [all]
  exact foldl_once (φ := fun m : Map Nat => mget 0 m y) (G := fun v => 1 - v) (a := y) (fun m => by rw [mget_mput, if_pos rfl])
    (fun m k _ other => by rw [mget_mput, if_neg other]) List.nodup_range (List.mem_range.mpr h) s.dsp.flips

/-- A frame without bad parity inverts its lines, and counts when it drives the glass. -/
theorem driveFrame_of_clean (clean : s.dsp.parBad = []) : s.driveFrame false =
    if s.dsp.kind = 1 ∨ s.dsp.kind = 4 ∨ s.dsp.kind = 5 then ({ s with dsp.flips := s.flipped } : State).count R.DSP_STAT_FRAMES 0xFFFF 1
    else { s with dsp.flips := s.flipped } := by
  have counted : ∀ u : State, u.dsp.parBad = [] →
      u.each (u.dsp.parBad.filter fun i => s.driven.contains (i / 960)) State.scanParity = u := fun u none_ => by
    rw [none_]
    rfl
  unfold State.driveFrame
  dsimp only
  rw [if_neg Bool.false_ne_true]
  show (if s.dsp.kind = 1 ∨ s.dsp.kind = 4 ∨ s.dsp.kind = 5 then _ else _ : State).each _ _ = _
  split
  · exact counted _ clean
  · exact counted _ clean

theorem driveFrame_dsp (clean : s.dsp.parBad = []) : (s.driveFrame false).dsp = { s.dsp with flips := s.flipped } := by
  rw [driveFrame_of_clean clean]
  split <;> rfl

theorem driveFrame_rd_other {k : Nat} (clean : s.dsp.parBad = []) (other : R.DSP_STAT_FRAMES ≠ k) : (s.driveFrame false).rd k = s.rd k := by
  rw [driveFrame_of_clean clean]
  split
  · exact State.wr_rd_other { s with dsp.flips := s.flipped } _ other
  · rfl

theorem driveFrame_frames (clean : s.dsp.parBad = []) : (s.driveFrame false).rd R.DSP_STAT_FRAMES =
    if s.dsp.kind = 1 ∨ s.dsp.kind = 4 ∨ s.dsp.kind = 5 then min 0xFFFF (s.rd R.DSP_STAT_FRAMES + 1) else s.rd R.DSP_STAT_FRAMES := by
  rw [driveFrame_of_clean clean]
  split
  · exact State.wr_rd_same { s with dsp.flips := s.flipped } R.DSP_STAT_FRAMES _
  · rfl

/-- The lap's frame before it is driven. -/
def State.lapAimed (s : State) (kind : Nat) (lines : List Nat) : State :=
  { s with dsp.kind := kind, dsp.settle := if kind == 2 then lines else s.dsp.settle, dsp.plain := false }

theorem lapFrame_eq (s : State) (kind : Nat) (lines : List Nat) :
    s.lapFrame kind lines = { (s.lapAimed kind lines).driveFrame false with dsp.settle := s.dsp.settle } := rfl

theorem lapFrame_dsp {kind : Nat} {lines : List Nat} (clean : s.dsp.parBad = []) : (s.lapFrame kind lines).dsp =
    { s.dsp with kind := kind, plain := false, flips := (s.lapAimed kind lines).flipped } := by
  have driven := driveFrame_dsp (s := s.lapAimed kind lines) clean
  rw [lapFrame_eq]
  show { ((s.lapAimed kind lines).driveFrame false).dsp with settle := s.dsp.settle } = _
  rw [driven]
  rfl

theorem lapFrame_rd_other {k kind : Nat} {lines : List Nat} (clean : s.dsp.parBad = []) (other : R.DSP_STAT_FRAMES ≠ k) :
    (s.lapFrame kind lines).rd k = s.rd k := driveFrame_rd_other (s := s.lapAimed kind lines) clean other

theorem lapFrame_frames {kind : Nat} {lines : List Nat} (clean : s.dsp.parBad = []) : (s.lapFrame kind lines).rd R.DSP_STAT_FRAMES =
    if kind = 1 ∨ kind = 4 ∨ kind = 5 then min 0xFFFF (s.rd R.DSP_STAT_FRAMES + 1) else s.rd R.DSP_STAT_FRAMES :=
  driveFrame_frames (s := s.lapAimed kind lines) clean

/-! ### The present that is latched (R353, R354) -/

/-- Whether the lap latches the presents that wait. -/
def State.latchDue (s : State) : Bool := !s.dsp.presents.isEmpty && (s.frameKind == 1 || !s.normalFrames)

theorem lapPresent_unlatched (no : s.latchDue = false) :
    s.lapPresent = ({ s with dsp.settle := [] } : State).lapFrame s.frameKind s.dsp.settle := by
  refine congrArg (fun v : State => v.lapFrame s.frameKind s.dsp.settle) ?_
  exact if_neg (by rw [Bool.not_eq_true]; exact no)

theorem lapPresent_latched (due : s.latchDue = true) :
    s.lapPresent = ({ s with dsp.settle := [] } : State).latchPresent.lapFrame s.frameKind s.dsp.settle := by
  refine congrArg (fun v : State => v.lapFrame s.frameKind s.dsp.settle) ?_
  exact if_pos due

/-- The overdrive levels of a presenting frame. -/
def State.latchOd (s : State) : Map Nat :=
  if s.normalFrames && s.on R.DSP_CFG_OD_EN && !s.dsp.plain then
    s.changed.foldl (fun m i => mins m i (overdrive s.odEntry (s.level i) (mget 0 s.dsp.nxt i))) []
  else []

theorem latchPresent_dsp (s : State) : ∃ settle, s.latchPresent.dsp = { s.dsp with
    level := s.dsp.nxt, od := s.latchOd, settle := settle, presenting := s.normalFrames, shown := s.dsp.shown ++ s.dsp.presents
    presents := [] } := ⟨_, rfl⟩

theorem latchPresent_rd_other {k : Nat} (other : R.DSP_STAT_PRES_PEND ≠ k) : s.latchPresent.rd k = s.rd k := State.wr_rd_other s 0 other

theorem latchPresent_pending (s : State) : s.latchPresent.rd R.DSP_STAT_PRES_PEND = 0 := State.wr_rd_same s R.DSP_STAT_PRES_PEND 0

/-- A subpixel is listed as changed when NEXT differs from LEVEL. -/
theorem mem_changed {i : Nat} : i ∈ s.changed ↔ s.level i ≠ mget 0 s.dsp.nxt i := by
  have unlisted : ∀ (m : Map Nat), i ∉ m.map (·.1) → mget 0 m i = 0 := fun m absent => by
    unfold mget
    rw [mget?_of_unnamed fun e he same => absent (List.mem_map.mpr ⟨e, he, same⟩)]
    rfl
  unfold State.changed
  dsimp only
  rw [List.mem_dedup, List.mem_filter, bne_iff_ne]
  refine ⟨fun h => h.2, fun differ => ⟨?_, differ⟩⟩
  by_contra absent
  rw [List.map_append, List.mem_append, not_or] at absent
  refine differ ?_
  unfold State.level
  rw [unlisted _ absent.1, unlisted _ absent.2]

/-- The overdrive level of a subpixel: of those that change alone. -/
theorem latchOd_get (od : s.normalFrames = true) (plain : s.dsp.plain = false) (i : Nat) : mget? s.latchOd i =
    if s.rd R.DSP_CFG_OD_EN = 1 ∧ s.level i ≠ mget 0 s.dsp.nxt i then some (overdrive s.odEntry (s.level i) (mget 0 s.dsp.nxt i)) else none := by
  let F : Map Nat → Nat → Map Nat := fun m i => mins m i (overdrive s.odEntry (s.level i) (mget 0 s.dsp.nxt i))
  have listed : ∀ l : List Nat, l.Nodup → mget? (l.foldl F []) i =
      if i ∈ l then some (overdrive s.odEntry (s.level i) (mget 0 s.dsp.nxt i)) else none := fun l distinct => by
    split
    · next mem =>
      exact foldl_once (φ := fun m : Map Nat => mget? m i) (G := fun _ => some (overdrive s.odEntry (s.level i) (mget 0 s.dsp.nxt i)))
        (a := i) (fun m => by rw [mget?_mins, if_pos rfl]) (fun m k _ other => by rw [mget?_mins, if_neg other]) distinct mem []
    · next absent =>
      exact foldl_keeps (φ := fun m : Map Nat => mget? m i)
        (fun m k hk => by rw [mget?_mins, if_neg fun same : k = i => absent (same ▸ hk)]) []
  unfold State.latchOd
  rw [od, plain, Bool.true_and, Bool.not_false, Bool.and_true]
  by_cases en : s.rd R.DSP_CFG_OD_EN = 1
  · rw [if_pos (State.on_iff.mpr en)]
    refine (listed s.changed (List.nodup_dedup _)).trans ?_
    exact if_congr (by rw [mem_changed]; simp only [en, true_and]) rfl rfl
  · rw [if_neg (by rw [State.on_iff]; exact en), if_neg fun h => en h.1]
    rfl

end Sys2Proof.Machine
end

section
/-!
PROOFS. The matrix panel's lap edges, case by case: hold sums and trips, full, settle and balance frames, Lantern mode, presents.
-/

namespace Sys2Proof.Machine

variable {s t u : State}

/-! ### ACC and the trips outlive the rest of the lap edge (R357, R358) -/

/-- The accumulators and the tiles tripped. -/
def State.dc (s : State) : Map Int × List Nat := (s.dsp.acc, s.dsp.trips)

theorem dc_of_dsp (h : t.dsp = s.dsp) : t.dc = s.dc := by
  unfold State.dc
  rw [h]

theorem dischargeStart_dc (why : Nat) (fault : Bool) : (s.dischargeStart why fault).dc = s.dc := by
  have to5 : ((s.wr R.DSP_STAT_WHY why).dspTo 5).dc = s.dc :=
    dc_of_dsp (State.dspTo_frame (l := [.regs, .spoke]) (Covers.refl.sub rfl) (State.wr_frame (Covers.refl.sub rfl) State.Frame.refl) .dsp
      (by decide))
  unfold State.dischargeStart
  split
  · rfl
  · exact (each_keeps (φ := State.dc) (fun s r _ => dc_of_dsp (State.finish_dsp ..)) _).trans to5

theorem scanParity_dc (i : Nat) : (s.scanParity i).dc = s.dc := by
  unfold State.scanParity State.dc
  rw [State.fault_dsp, State.dspNote_dsp]
  rfl

theorem driveFrame_dc (first : Bool) : (s.driveFrame first).dc = s.dc := by
  have scanned : ∀ (l : List Nat) (u : State), (u.each l State.scanParity).dc = u.dc := fun l u =>
    each_keeps (φ := State.dc) (fun s i _ => scanParity_dc i) u
  unfold State.driveFrame
  dsimp only
  rw [scanned]
  cases first
  · rw [if_neg Bool.false_ne_true]
    split <;> rfl
  · rw [if_pos rfl]
    split <;> rfl

theorem orderlyStep_dc : s.orderlyStep.dc = s.dc := by
  have told : ∀ (u : State) (l : List Ref), (u.each l fun s r => s.finish r stSuperseded).dc = u.dc := fun u l =>
    each_keeps (φ := State.dc) (fun s r _ => dc_of_dsp (State.finish_dsp ..)) u
  have to4 : ∀ u : State, (u.dspTo 4).dc = u.dc := fun u =>
    dc_of_dsp (State.dspTo_frame (l := [.regs, .spoke]) (Covers.refl.sub rfl) State.Frame.refl .dsp (by decide))
  unfold State.orderlyStep
  split
  · exact dischargeStart_dc _ _
  · split
    · rfl
    · next why _ =>
      dsimp only
      split
      · exact (driveFrame_dc false).trans (to4 (s.wr R.DSP_STAT_WHY why))
      · split
        · exact (dischargeStart_dc _ _).trans (told _ _)
        · rfl

theorem lapFrame_dc (kind : Nat) (lines : List Nat) : (s.lapFrame kind lines).dc = s.dc := driveFrame_dc (s := s.lapAimed kind lines) false

theorem lapPresent_dc : s.lapPresent.dc = s.dc := by
  cases due : s.latchDue with
  | true => rw [lapPresent_latched due]; exact lapFrame_dc _ _
  | false => rw [lapPresent_unlatched due]; exact lapFrame_dc _ _

theorem lapEnd_dc : s.lapEnd.dc = s.dc := by
  unfold State.lapEnd
  dsimp only
  split
  · exact orderlyStep_dc
  · split
    · exact orderlyStep_dc.trans lapPresent_dc
    · exact lapPresent_dc

theorem lapBegin_dc : s.lapBegin.dc = s.lapEdged.dc := by
  cases due : s.dsp.modeDue with
  | none => rw [State.dc, lapBegin_dsp due]; rfl
  | some lantern => rw [State.dc, lapBegin_dsp_of_due due]; rfl

/-- H of a tile is the same when the ladders in force are those last written. -/
theorem lapTaken_tileH (pos : s.dsp.gpos = some (s.ladder false)) (neg : s.dsp.gneg = some (s.ladder true)) (n : Nat) :
    s.lapTaken.tileH n = s.tileH n :=
  tileH_congr (lapTaken_rd_other (by decide) (by decide))
    (by rw [lapTaken_dsp]; exact ⟨rfl, rfl, rfl, rfl, pos.symm, neg.symm⟩) n

theorem panelLap_dc {n : Nat} (tile : n < 300) (fresh : s.dsp.lapAt ≠ some s.cad.now)
    (driven : s.rd R.DSP_STAT_STATE = 3 ∨ s.rd R.DSP_STAT_STATE = 4) (pos : s.dsp.gpos = some (s.ladder false))
    (neg : s.dsp.gneg = some (s.ladder true)) : ∃ t, exec .panelLapEdge s = .next t ∧
    mget 0 t.dsp.acc n = clamp (-(2 ^ 31 - 1)) (2 ^ 31 - 1) (mget 0 s.dsp.acc n + s.tileH n) ∧
    (n ∈ t.dsp.trips ↔ (s.rd R.DSP_DC_DC_LIM : Int) < |mget 0 t.dsp.acc n| ∧ s.tileH n ≠ 0 ∧ 0 < mget 0 t.dsp.acc n * s.tileH n) := by
  have taken : s.lapTaken.rd R.DSP_STAT_STATE = s.rd R.DSP_STAT_STATE := lapTaken_rd_other (by decide) (by decide)
  have edged := dcEdge_driven (s := s.lapTaken) (by rw [taken]; exact driven)
  have kept : s.lapBegin.lapEnd.dc = s.lapTaken.dcEdge.dc := lapEnd_dc.trans lapBegin_dc
  obtain ⟨acc, trips⟩ := Prod.mk.inj kept
  rw [edged] at acc trips
  dsimp only at acc trips
  refine ⟨_, congrArg Host.Outcome.next (panelLap_eq fresh), ?_, ?_⟩
  · rw [acc, State.accNext, mget_accumulate _ tile, lapTaken_tileH pos neg, lapTaken_dsp]
  · have lim : s.lapTaken.rd R.DSP_DC_DC_LIM = s.rd R.DSP_DC_DC_LIM := lapTaken_rd_other (by decide) (by decide)
    rw [trips, List.mem_filter, acc, State.tripsNow, lim, lapTaken_tileH pos neg]
    simp only [Bool.and_eq_true, decide_eq_true_eq, List.mem_range, tile, true_and, and_assoc]

/-! ### Laps of a panel that is ON (R353, R355, R358, R359) -/

theorem frameKind_normal (on : s.rd R.DSP_STAT_STATE = 3) (normal : s.rd R.DSP_STAT_LANTERN ≠ 1) (plain : s.dsp.plain = false) :
    s.frameKind = if s.lap % 2 ^ s.rd R.DSP_STAT_RATE_ACT = 0 then 1 else if s.dsp.settle ≠ [] then 2 else if s.dsp.trips = [] then 0 else 3 := by
  unfold State.frameKind
  rw [if_pos on, on_eq_false_iff.mpr normal, if_neg Bool.false_ne_true, plain, Bool.false_or]
  refine if_congr decide_eq_true_iff rfl ?_
  refine if_congr ?_ rfl (if_congr List.isEmpty_iff rfl rfl)
  rw [Bool.not_eq_true', Bool.eq_false_iff, Ne, List.isEmpty_iff]

theorem frameKind_lantern (on : s.rd R.DSP_STAT_STATE = 3) (lantern : s.rd R.DSP_STAT_LANTERN = 1) :
    s.frameKind = if s.lap = 0 then 4 else if s.dsp.trips.isEmpty then 0 else 3 := by
  unfold State.frameKind
  rw [if_pos on, if_pos (State.on_iff.mpr lantern)]

theorem normalFrames_of (on : s.rd R.DSP_STAT_STATE = 3) (normal : s.rd R.DSP_STAT_LANTERN ≠ 1) : s.normalFrames = true := by
  unfold State.normalFrames
  rw [on, on_eq_false_iff.mpr normal]
  rfl

theorem lapBegin_rd_other {k : Nat} (settled : s.dsp.modeDue = none) (repeats : R.DSP_STAT_REPEATS ≠ k) (rate : R.DSP_STAT_RATE_ACT ≠ k)
    (trips : R.DSP_DC_TRIPS ≠ k) (tile : R.DSP_DC_LAST_TILE ≠ k) : s.lapBegin.rd k = s.rd k :=
  (lapBegin_rd settled k).trans (lapEdged_rd_other repeats rate trips tile)

/-- A lap edge with no orderly off waiting. -/
theorem panelLap_presents (fresh : s.dsp.lapAt ≠ some s.cad.now) (off : s.lapBegin.dsp.off = none) :
    exec .panelLapEdge s = .next s.lapBegin.lapPresent :=
  congrArg Host.Outcome.next ((panelLap_eq fresh).trans (lapEnd_of_on off))

/-- What a panel that is ON in normal mode, at thermal level 0, brings to the frame of its lap. -/
structure State.LapNormal (s v : State) : Prop where
  dsp : v.dsp = { s.dsp with
    stopped := false, lapAt := some s.cad.now, gpos := some (s.ladder false), gneg := some (s.ladder true), vcom := s.rd R.DSP_CFG_VCOM
    acc := v.dsp.acc, trips := v.dsp.trips, presenting := false, od := [] }
  same : ∀ k, R.DSP_STAT_REPEATS ≠ k → R.DSP_STAT_RATE_ACT ≠ k → R.DSP_DC_TRIPS ≠ k → R.DSP_DC_LAST_TILE ≠ k → v.rd k = s.rd k
  rate : v.rd R.DSP_STAT_RATE_ACT = s.rd R.DSP_CFG_RATE
  kind : v.frameKind = if s.lap % 2 ^ s.rd R.DSP_CFG_RATE = 0 then 1 else if s.dsp.settle ≠ [] then 2 else if v.dsp.trips = [] then 0 else 3
  normal : v.normalFrames = true

theorem lapBegin_normal (on : s.rd R.DSP_STAT_STATE = 3) (normal : s.rd R.DSP_STAT_LANTERN ≠ 1) (cool : s.rd R.THM_STAT_LEVEL = 0)
    (settled : s.dsp.modeDue = none) (plain : s.dsp.plain = false) : s.LapNormal s.lapBegin := by
  have trips : s.lapBegin.dsp.trips = s.lapEdged.dsp.trips := by rw [lapBegin_dsp settled]
  have acc : s.lapBegin.dsp.acc = s.lapEdged.dsp.acc := by rw [lapBegin_dsp settled]
  have rate : s.lapBegin.rd R.DSP_STAT_RATE_ACT = s.rd R.DSP_CFG_RATE := by
    rw [lapBegin_rd settled, lapEdged_rate, cool]
    rfl
  have state : s.lapBegin.rd R.DSP_STAT_STATE = 3 :=
    (lapBegin_rd_other settled (by decide) (by decide) (by decide) (by decide)).trans on
  have lantern : s.lapBegin.rd R.DSP_STAT_LANTERN ≠ 1 := by
    rw [lapBegin_rd_other settled (by decide) (by decide) (by decide) (by decide)]
    exact normal
  have kind := frameKind_normal state lantern (by rw [lapBegin_dsp settled]; exact plain)
  have kept : s.lapBegin.dsp.settle = s.dsp.settle := by rw [lapBegin_dsp settled]
  rw [lapBegin_lap, rate, kept] at kind
  refine ⟨?_, fun k => lapBegin_rd_other settled, rate, kind, normalFrames_of state lantern⟩
  rw [trips, acc]
  exact lapBegin_dsp settled

theorem lapKind_full_iff {full : Prop} [Decidable full] {settle trips : Prop} [Decidable settle] [Decidable trips] :
    (if full then 1 else if settle then 2 else if trips then 0 else 3) = 1 ↔ full := by
  by_cases h : full
  · rw [if_pos h]
    exact iff_of_true rfl h
  · rw [if_neg h]
    refine iff_of_false ?_ h
    split
    · decide
    · split <;> decide

/-- A lap that latches nothing. -/
theorem lapPresent_quiet (quiet : s.latchDue = false) (clean : s.dsp.parBad = []) : ∃ flips,
    s.lapPresent.dsp = { s.dsp with settle := [], kind := s.frameKind, plain := false, flips := flips } ∧
    (∀ k, R.DSP_STAT_FRAMES ≠ k → s.lapPresent.rd k = s.rd k) ∧
    s.lapPresent.rd R.DSP_STAT_FRAMES = (if s.frameKind = 1 ∨ s.frameKind = 4 ∨ s.frameKind = 5 then min 0xFFFF (s.rd R.DSP_STAT_FRAMES + 1)
      else s.rd R.DSP_STAT_FRAMES) ∧
    (s.frameKind = 1 ∨ s.frameKind = 4 ∨ s.frameKind = 5 → ∀ y, y < 240 → mget 0 flips y = 1 - mget 0 s.dsp.flips y) := by
  have dsp := lapFrame_dsp (s := { s with dsp.settle := [] }) (kind := s.frameKind) (lines := s.dsp.settle) clean
  rw [lapPresent_unlatched quiet]
  refine ⟨_, dsp, fun k other => lapFrame_rd_other (s := { s with dsp.settle := [] }) clean other,
    lapFrame_frames (s := { s with dsp.settle := [] }) clean, fun drives y line => ?_⟩
  exact flipped_all (s := ({ s with dsp.settle := [] } : State).lapAimed s.frameKind s.dsp.settle) drives line

/-- A lap that latches the presents that wait. -/
theorem lapPresent_latches (due : s.latchDue = true) (clean : s.dsp.parBad = []) : ∃ flips settle,
    s.lapPresent.dsp = { s.dsp with
      level := s.dsp.nxt, od := ({ s with dsp.settle := [] } : State).latchOd, settle := settle, presenting := s.normalFrames
      shown := s.dsp.shown ++ s.dsp.presents, presents := [], kind := s.frameKind, plain := false, flips := flips } ∧
    (∀ k, R.DSP_STAT_FRAMES ≠ k → R.DSP_STAT_PRES_PEND ≠ k → s.lapPresent.rd k = s.rd k) ∧ s.lapPresent.rd R.DSP_STAT_PRES_PEND = 0 := by
  let w := ({ s with dsp.settle := [] } : State).latchPresent
  obtain ⟨settle, latched⟩ := latchPresent_dsp { s with dsp.settle := [] }
  have wclean : w.dsp.parBad = [] := by
    rw [latched]
    exact clean
  have dsp := lapFrame_dsp (kind := s.frameKind) (lines := s.dsp.settle) wclean
  rw [latched] at dsp
  rw [lapPresent_latched due]
  refine ⟨_, settle, dsp, fun k frames pend => ?_, ?_⟩
  · rw [lapFrame_rd_other wclean frames]
    exact latchPresent_rd_other (s := { s with dsp.settle := [] }) pend
  · rw [lapFrame_rd_other wclean (by decide)]
    exact latchPresent_pending { s with dsp.settle := [] }

theorem panelLap_normal (fresh : s.dsp.lapAt ≠ some s.cad.now) (on : s.rd R.DSP_STAT_STATE = 3) (normal : s.rd R.DSP_STAT_LANTERN ≠ 1)
    (cool : s.rd R.THM_STAT_LEVEL = 0) (settled : s.dsp.modeDue = none) (off : s.dsp.off = none) (plain : s.dsp.plain = false)
    (none_ : s.dsp.presents = []) (clean : s.dsp.parBad = []) :
    ∃ t, exec .panelLapEdge s = .next t ∧ t.dsp.level = s.dsp.level ∧ t.dsp.nxt = s.dsp.nxt ∧ t.rd R.DSP_STAT_RATE_ACT = s.rd R.DSP_CFG_RATE ∧
    t.dsp.kind = (if s.lap % 2 ^ s.rd R.DSP_CFG_RATE = 0 then 1 else if s.dsp.settle ≠ [] then 2 else if t.dsp.trips = [] then 0 else 3) ∧
    t.rd R.DSP_STAT_FRAMES = (if s.lap % 2 ^ s.rd R.DSP_CFG_RATE = 0 then min 0xFFFF (s.rd R.DSP_STAT_FRAMES + 1) else s.rd R.DSP_STAT_FRAMES) ∧
    (s.lap % 2 ^ s.rd R.DSP_CFG_RATE = 0 → ∀ y, y < 240 → mget 0 t.dsp.flips y = 1 - mget 0 s.dsp.flips y) := by
  obtain ⟨dsp, same, rate, kind, -⟩ := lapBegin_normal on normal cool settled plain
  have runs := panelLap_presents fresh (by rw [dsp]; exact off)
  generalize s.lapBegin = v at dsp same rate kind runs
  have quiet : v.latchDue = false := by
    unfold State.latchDue
    rw [dsp, none_]
    rfl
  obtain ⟨flips, after, others, frames, lines⟩ := lapPresent_quiet quiet (by rw [dsp]; exact clean)
  have full := lapKind_full_iff (full := s.lap % 2 ^ s.rd R.DSP_CFG_RATE = 0) (settle := s.dsp.settle ≠ []) (trips := v.dsp.trips = [])
  rw [← kind] at full
  have drives : v.frameKind = 1 ∨ v.frameKind = 4 ∨ v.frameKind = 5 ↔ s.lap % 2 ^ s.rd R.DSP_CFG_RATE = 0 := by
    rw [full.symm]
    refine or_iff_left ?_
    rw [kind]
    split
    · decide
    · split
      · decide
      · split <;> decide
  have count : v.rd R.DSP_STAT_FRAMES = s.rd R.DSP_STAT_FRAMES := same _ (by decide) (by decide) (by decide) (by decide)
  have level : v.dsp.level = s.dsp.level := by rw [dsp]
  have nxt : v.dsp.nxt = s.dsp.nxt := by rw [dsp]
  have flips_ : v.dsp.flips = s.dsp.flips := by rw [dsp]
  refine ⟨_, runs, ?_, ?_, (others _ (by decide)).trans rate, ?_, ?_, fun lapFull y line => ?_⟩
  · rw [after, level]
  · rw [after, nxt]
  · rw [after, kind]
  · rw [frames, count]
    exact if_congr drives rfl rfl
  · rw [after]
    exact (lines (drives.mpr lapFull) y line).trans (by rw [flips_])

theorem panelLap_between (fresh : s.dsp.lapAt ≠ some s.cad.now) (on : s.rd R.DSP_STAT_STATE = 3) (normal : s.rd R.DSP_STAT_LANTERN ≠ 1)
    (cool : s.rd R.THM_STAT_LEVEL = 0) (settled : s.dsp.modeDue = none) (off : s.dsp.off = none) (plain : s.dsp.plain = false)
    (clean : s.dsp.parBad = []) (between : s.lap % 2 ^ s.rd R.DSP_CFG_RATE ≠ 0) :
    ∃ t, exec .panelLapEdge s = .next t ∧ t.dsp.level = s.dsp.level ∧ t.dsp.presents = s.dsp.presents ∧
    t.rd R.DSP_STAT_PRES_PEND = s.rd R.DSP_STAT_PRES_PEND := by
  obtain ⟨dsp, same, -, kind, frames⟩ := lapBegin_normal on normal cool settled plain
  have runs := panelLap_presents fresh (by rw [dsp]; exact off)
  generalize s.lapBegin = v at dsp same kind frames runs
  have notFull : v.frameKind ≠ 1 := by
    rw [kind]
    exact fun h => between (lapKind_full_iff.mp h)
  have quiet : v.latchDue = false := by
    unfold State.latchDue
    rw [frames, beq_false_of_ne notFull, Bool.not_true, Bool.or_false, Bool.and_false]
  obtain ⟨flips, after, others, -⟩ := lapPresent_quiet quiet (by rw [dsp]; exact clean)
  have level : v.dsp.level = s.dsp.level := by rw [dsp]
  have presents : v.dsp.presents = s.dsp.presents := by rw [dsp]
  refine ⟨_, runs, ?_, ?_, ?_⟩
  · rw [after, level]
  · rw [after, presents]
  · rw [others _ (by decide)]
    exact same _ (by decide) (by decide) (by decide) (by decide)

theorem panelLap_latches {i : Nat} (fresh : s.dsp.lapAt ≠ some s.cad.now) (on : s.rd R.DSP_STAT_STATE = 3)
    (normal : s.rd R.DSP_STAT_LANTERN ≠ 1) (cool : s.rd R.THM_STAT_LEVEL = 0) (settled : s.dsp.modeDue = none) (off : s.dsp.off = none)
    (plain : s.dsp.plain = false) (waiting : s.dsp.presents ≠ []) (clean : s.dsp.parBad = []) (full : s.lap % 2 ^ s.rd R.DSP_CFG_RATE = 0) :
    ∃ t, exec .panelLapEdge s = .next t ∧ t.dsp.level = s.dsp.nxt ∧ t.dsp.nxt = s.dsp.nxt ∧ t.dsp.kind = 1 ∧ t.dsp.presenting = true ∧
    t.dsp.presents = [] ∧ t.dsp.shown = s.dsp.shown ++ s.dsp.presents ∧ t.rd R.DSP_STAT_PRES_PEND = 0 ∧
    (mget? t.dsp.od i).getD (t.level i) = (if s.rd R.DSP_CFG_OD_EN = 1 ∧ s.level i ≠ mget 0 s.dsp.nxt i then
      overdrive s.odEntry (s.level i) (mget 0 s.dsp.nxt i) else mget 0 s.dsp.nxt i) := by
  obtain ⟨dsp, same, -, kind, frames⟩ := lapBegin_normal on normal cool settled plain
  have runs := panelLap_presents fresh (by rw [dsp]; exact off)
  generalize s.lapBegin = v at dsp same kind frames runs
  rw [if_pos full] at kind
  have due : v.latchDue = true := by
    unfold State.latchDue
    rw [kind, dsp]
    simpa using waiting
  obtain ⟨flips, settle, after, -, pending⟩ := lapPresent_latches due (by rw [dsp]; exact clean)
  have nxt : v.dsp.nxt = s.dsp.nxt := by rw [dsp]
  have level : v.level i = s.level i := by
    unfold State.level
    rw [dsp]
  have entry : ∀ a b, a < 8 → b < 8 → v.odEntry a b = s.odEntry a b := fun a b ha hb =>
    same _ (by simp only [R.DSP_STAT_REPEATS, R.DSP_OD_E]; omega) (by simp only [R.DSP_STAT_RATE_ACT, R.DSP_OD_E]; omega)
      (by simp only [R.DSP_DC_TRIPS, R.DSP_OD_E]; omega) (by simp only [R.DSP_DC_LAST_TILE, R.DSP_OD_E]; omega)
  have od := latchOd_get (s := { v with dsp.settle := [] }) frames (by show v.dsp.plain = false; rw [dsp]; exact plain) i
  have en : v.rd R.DSP_CFG_OD_EN = s.rd R.DSP_CFG_OD_EN := same _ (by decide) (by decide) (by decide) (by decide)
  change _ = if v.rd R.DSP_CFG_OD_EN = 1 ∧ v.level i ≠ mget 0 v.dsp.nxt i then
    some (overdrive v.odEntry (v.level i) (mget 0 v.dsp.nxt i)) else none at od
  rw [en, level, nxt, overdrive_congr entry] at od
  refine ⟨_, runs, ?_, ?_, ?_, ?_, ?_, ?_, pending, ?_⟩
  · rw [after, nxt]
  · rw [after, nxt]
  · rw [after, kind]
  · rw [after, frames]
  · rw [after]
  · rw [after, dsp]
  · have now : v.lapPresent.level i = mget 0 s.dsp.nxt i := by
      unfold State.level
      rw [after, nxt]
    rw [now, after]
    show (mget? ({ v with dsp.settle := [] } : State).latchOd i).getD _ = _
    rw [od]
    split <;> rfl

/-! ### Lantern mode, and a panel that drives no normal frames (R353, R360) -/

theorem panelLap_again (taken : s.dsp.lapAt = some s.cad.now) : exec .panelLapEdge s = .next s := congrArg Host.Outcome.next (if_pos taken)

theorem lapBegin_rd_other_of_due {k : Nat} {lantern : Bool} (due : s.dsp.modeDue = some lantern) (mode : R.DSP_STAT_LANTERN ≠ k)
    (repeats : R.DSP_STAT_REPEATS ≠ k) (rate : R.DSP_STAT_RATE_ACT ≠ k) (trips : R.DSP_DC_TRIPS ≠ k) (tile : R.DSP_DC_LAST_TILE ≠ k) :
    s.lapBegin.rd k = s.rd k :=
  (lapBegin_rd_of_due due k).trans ((State.wr_rd_other s.lapEdged _ mode).trans (lapEdged_rd_other repeats rate trips tile))

theorem lapBegin_lantern {lantern : Bool} (due : s.dsp.modeDue = some lantern) : s.lapBegin.rd R.DSP_STAT_LANTERN = b2n lantern :=
  (lapBegin_rd_of_due due _).trans (State.wr_rd_same s.lapEdged R.DSP_STAT_LANTERN _)

theorem panelLap_entersLantern (fresh : s.dsp.lapAt ≠ some s.cad.now) (on : s.rd R.DSP_STAT_STATE = 3) (due : s.dsp.modeDue = some true)
    (off : s.dsp.off = none) (none_ : s.dsp.presents = []) (clean : s.dsp.parBad = []) : ∃ t, exec .panelLapEdge s = .next t ∧
    t.rd R.DSP_STAT_LANTERN = 1 ∧ t.dsp.modeDue = none ∧ t.dsp.level = s.dsp.level ∧ t.dsp.nxt = s.dsp.nxt ∧
    t.dsp.lantern = s.dsp.lantern ∧ t.dsp.od = [] ∧ (s.lap = 0 → t.dsp.kind = 4) ∧ (s.lap ≠ 0 → t.dsp.kind ≠ 1 ∧ t.dsp.kind ≠ 4) := by
  have dsp := lapBegin_dsp_of_due due
  have lantern : s.lapBegin.rd R.DSP_STAT_LANTERN = 1 := lapBegin_lantern due
  have state : s.lapBegin.rd R.DSP_STAT_STATE = 3 :=
    (lapBegin_rd_other_of_due due (by decide) (by decide) (by decide) (by decide) (by decide)).trans on
  have runs := panelLap_presents fresh (by rw [dsp]; exact off)
  have kind := frameKind_lantern state lantern
  rw [lapBegin_lap] at kind
  have quiet : s.lapBegin.latchDue = false := by
    unfold State.latchDue
    rw [dsp, none_]
    rfl
  obtain ⟨flips, after, others, -⟩ := lapPresent_quiet quiet (by rw [dsp]; exact clean)
  refine ⟨_, runs, (others _ (by decide)).trans lantern, ?_, ?_, ?_, ?_, ?_, fun first => ?_, fun later => ?_⟩
  · rw [after, dsp]
  · rw [after, dsp]
  · rw [after, dsp]
  · rw [after, dsp]
  · rw [after, dsp]
  · rw [after, kind]
    exact if_pos first
  · rw [after, kind, if_neg later]
    show (if s.lapBegin.dsp.trips.isEmpty then 0 else 3) ≠ 1 ∧ (if s.lapBegin.dsp.trips.isEmpty then 0 else 3) ≠ 4
    split <;> decide

theorem latchOd_of_undriven (h : s.normalFrames = false ∨ s.dsp.plain = true) : s.latchOd = [] := by
  refine if_neg ?_
  rcases h with frames | plain
  · rw [frames]
    exact Bool.false_ne_true
  · rw [plain, Bool.not_true, Bool.and_false]
    exact Bool.false_ne_true

theorem panelLap_leavesLantern (fresh : s.dsp.lapAt ≠ some s.cad.now) (on : s.rd R.DSP_STAT_STATE = 3) (lantern : s.rd R.DSP_STAT_LANTERN = 1)
    (due : s.dsp.modeDue = some false) (off : s.dsp.off = none) (clean : s.dsp.parBad = []) : ∃ t, exec .panelLapEdge s = .next t ∧
    t.rd R.DSP_STAT_LANTERN = 0 ∧ t.dsp.kind = 1 ∧ t.dsp.od = [] := by
  have dsp := lapBegin_dsp_of_due due
  have normal : s.lapBegin.rd R.DSP_STAT_LANTERN = 0 := lapBegin_lantern due
  have state : s.lapBegin.rd R.DSP_STAT_STATE = 3 :=
    (lapBegin_rd_other_of_due due (by decide) (by decide) (by decide) (by decide) (by decide)).trans on
  have runs := panelLap_presents fresh (by rw [dsp]; exact off)
  have plain : s.lapBegin.dsp.plain = true := by
    rw [dsp]
    show (s.on R.DSP_STAT_LANTERN && !false) = true
    rw [State.on_iff.mpr lantern]
    rfl
  have od : s.lapBegin.dsp.od = [] := by rw [dsp]
  have vclean : s.lapBegin.dsp.parBad = [] := by rw [dsp]; exact clean
  generalize s.lapBegin = v at normal state runs plain od vclean
  have kind : v.frameKind = 1 := by
    unfold State.frameKind
    rw [if_pos state, on_eq_false_iff.mpr (by rw [normal]; decide), if_neg Bool.false_ne_true, plain]
    rfl
  cases latch : v.latchDue with
  | false =>
    obtain ⟨flips, after, others, -⟩ := lapPresent_quiet latch vclean
    exact ⟨_, runs, (others _ (by decide)).trans normal, by rw [after, kind], by rw [after, od]⟩
  | true =>
    obtain ⟨flips, settle, after, others, -⟩ := lapPresent_latches latch vclean
    refine ⟨_, runs, (others _ (by decide) (by decide)).trans normal, by rw [after, kind], ?_⟩
    rw [after]
    exact latchOd_of_undriven (s := { v with dsp.settle := [] }) (.inr plain)

theorem panelLap_latchesUndriven (fresh : s.dsp.lapAt ≠ some s.cad.now)
    (undriven : s.rd R.DSP_STAT_STATE = 0 ∨ s.rd R.DSP_STAT_STATE = 3 ∧ s.rd R.DSP_STAT_LANTERN = 1) (settled : s.dsp.modeDue = none)
    (off : s.dsp.off = none) (waiting : s.dsp.presents ≠ []) (clean : s.dsp.parBad = []) : ∃ t, exec .panelLapEdge s = .next t ∧
    t.dsp.level = s.dsp.nxt ∧ t.dsp.nxt = s.dsp.nxt ∧ t.dsp.presents = [] ∧ t.dsp.shown = s.dsp.shown ++ s.dsp.presents ∧ t.dsp.od = [] ∧
    t.dsp.presenting = false ∧ t.rd R.DSP_STAT_PRES_PEND = 0 := by
  have dsp := lapBegin_dsp settled
  have state : s.lapBegin.rd R.DSP_STAT_STATE = s.rd R.DSP_STAT_STATE :=
    lapBegin_rd_other settled (by decide) (by decide) (by decide) (by decide)
  have lantern : s.lapBegin.rd R.DSP_STAT_LANTERN = s.rd R.DSP_STAT_LANTERN :=
    lapBegin_rd_other settled (by decide) (by decide) (by decide) (by decide)
  have runs := panelLap_presents fresh (by rw [dsp]; exact off)
  have frames : s.lapBegin.normalFrames = false := by
    unfold State.normalFrames State.on
    rw [state, lantern]
    rcases undriven with idle | ⟨-, lantern⟩
    · rw [idle]
      rfl
    · rw [lantern]
      exact Bool.and_false _
  have due : s.lapBegin.latchDue = true := by
    unfold State.latchDue
    rw [frames, dsp]
    simpa using waiting
  obtain ⟨flips, settle, after, -, pending⟩ := lapPresent_latches due (by rw [dsp]; exact clean)
  have od : ({ s.lapBegin with dsp.settle := [] } : State).latchOd = [] := latchOd_of_undriven (.inl frames)
  refine ⟨_, runs, ?_, ?_, ?_, ?_, ?_, ?_, pending⟩
  · rw [after, dsp]
  · rw [after, dsp]
  · rw [after]
  · rw [after, dsp]
  · rw [after, od]
  · rw [after, frames]

end Sys2Proof.Machine
end

section
/-!
PROOFS. The matrix panel's power sequences: power-on steps, orderly and abrupt off, supply failures, the end of a discharge (R362 to R365).
-/

namespace Sys2Proof.Machine

variable {s t u : State}

/-! ### What does not depend on the panel's own memory -/

/-- A change that every step commutes with can be made after all of them. -/
theorem each_comm {α : Type} {f : State → α → State} {g : State → State} (comm : ∀ s a, f (g s) a = g (f s a)) (l : List α) (s : State) :
    (g s).each l f = g (s.each l f) := by
  induction l generalizing s with
  | nil => rfl
  | cons a l ih =>
    show (f (g s) a).each l f = g ((f s a).each l f)
    rw [comm, ih]

/-- The state with another memory of the panel. -/
def State.setDsp (s : State) (d : Dsp) : State := { s with dsp := d }

theorem setDsp_wr (s : State) (d : Dsp) (k v : Nat) : (s.setDsp d).wr k v = (s.wr k v).setDsp d := rfl

theorem setDsp_rd (s : State) (d : Dsp) (k : Nat) : (s.setDsp d).rd k = s.rd k := rfl

theorem event_setDsp (s : State) (d : Dsp) (code : Nat) (b : Bytes) : (s.setDsp d).event code b = (s.event code b).setDsp d :=
  each_comm (g := fun s => s.setDsp d) (fun s ch => by
    rw [apply_ite (fun s : State => s.setDsp d)]
    rfl) (List.range 32) s

theorem dspNote_setDsp (s : State) (d : Dsp) (kind unit data : Nat) : (s.setDsp d).dspNote kind unit data = (s.dspNote kind unit data).setDsp d :=
  event_setDsp s d 0x60 (le 1 kind ++ le 1 unit ++ le 2 data)

theorem dspTo_setDsp (s : State) (d : Dsp) (n : Nat) : (s.setDsp d).dspTo n = (s.dspTo n).setDsp d := by
  unfold State.dspTo
  rw [setDsp_rd, setDsp_rd, setDsp_wr, dspNote_setDsp]
  exact (apply_ite (fun s : State => s.setDsp d) ..).symm

theorem latchFault_setDsp (s : State) (d : Dsp) (r : FaultRec) : (s.setDsp d).latchFault r = (s.latchFault r).setDsp d := by
  have high : ∀ v : State, (if (v.setDsp d).on R.FLT_HIGH_VALID && decide (r.cls ≤ (v.setDsp d).rd R.FLT_HIGH_RECORD % 8) then v.setDsp d
      else (v.setDsp d).wrs [(R.FLT_HIGH_RECORD, faultBits r), (R.FLT_HIGH_VALID, 1)]) =
      (if v.on R.FLT_HIGH_VALID && decide (r.cls ≤ v.rd R.FLT_HIGH_RECORD % 8) then v
        else v.wrs [(R.FLT_HIGH_RECORD, faultBits r), (R.FLT_HIGH_VALID, 1)]).setDsp d := fun v => by
    rw [apply_ite (fun s : State => s.setDsp d)]
    rfl
  have first : (if (s.setDsp d).on R.FLT_FIRST_VALID then s.setDsp d
      else (s.setDsp d).wrs [(R.FLT_FIRST_RECORD, faultBits r), (R.FLT_FIRST_VALID, 1)]) =
      (if s.on R.FLT_FIRST_VALID then s else s.wrs [(R.FLT_FIRST_RECORD, faultBits r), (R.FLT_FIRST_VALID, 1)]).setDsp d := by
    rw [apply_ite (fun s : State => s.setDsp d)]
    rfl
  unfold State.latchFault
  dsimp only
  rw [first]
  exact high _

theorem enqueueFault_setDsp (s : State) (d : Dsp) (i : FaultItem) : (s.setDsp d).enqueueFault i = (s.enqueueFault i).setDsp d := by
  unfold State.enqueueFault
  dsimp only
  rw [apply_ite (fun s : State => s.setDsp d), apply_ite (fun s : State => s.setDsp d)]
  rfl

theorem fault_setDsp (s : State) (d : Dsp) (cls source code unit data : Nat) :
    (s.setDsp d).fault cls source code unit data = (s.fault cls source code unit data).setDsp d := by
  unfold State.fault
  dsimp only
  rw [apply_ite (fun s : State => s.setDsp d), latchFault_setDsp, enqueueFault_setDsp]
  rfl

/-! ### STATE (R370) -/

theorem dspTo_of_other {n : Nat} (other : s.rd R.DSP_STAT_STATE ≠ n) :
    s.dspTo n = (s.wr R.DSP_STAT_STATE n).dspNote 1 (s.rd R.DSP_STAT_WHY) n := if_neg other

/-- A change of STATE: one field, and DSP_NOTE kind 1. -/
theorem dspTo_effect {n : Nat} (other : s.rd R.DSP_STAT_STATE ≠ n) : s.Fields [(R.DSP_STAT_STATE, n)] (s.dspTo n) ∧
    s.Raises 0x60 (le 1 1 ++ le 1 (s.rd R.DSP_STAT_WHY) ++ le 2 n) (s.dspTo n) ∧ (s.dspTo n).dsp = s.dsp := by
  rw [dspTo_of_other other]
  exact ⟨(wr_fields s R.DSP_STAT_STATE n).of_regs (State.dspNote_regs ..),
    (State.note_raises (s.wr R.DSP_STAT_STATE n) _ _ _ _).of_eq rfl, State.dspNote_dsp ..⟩

theorem dspTo_state (n : Nat) : (s.dspTo n).rd R.DSP_STAT_STATE = n := by
  by_cases same : s.rd R.DSP_STAT_STATE = n
  · rw [show s.dspTo n = s from if_pos same, same]
  · exact (dspTo_effect same).1 _

theorem dspTo_frame_self (s : State) (n : Nat) : s.Frame [.regs, .spoke] (s.dspTo n) :=
  State.dspTo_frame (Covers.refl.sub rfl) State.Frame.refl

/-! ### The start of a discharge (R364, R365) -/

/-- The panel's memory when a discharge starts. -/
def Dsp.discharging (d : Dsp) (skip fault : Bool) : Dsp :=
  { d with
    disch := some ⟨skip, fault⟩, off := none, step := 0, kind := 0, onDue := false, onCmds := [], od := [], settle := [], presenting := false }

/-- A discharge that starts, before the power-on commands that waited are answered. -/
def State.discharging (s : State) (why : Nat) (fault : Bool) : State :=
  ((s.wr R.DSP_STAT_WHY why).dspTo 5).setDsp (s.dsp.discharging (s.rd R.DSP_STAT_VGH_PG != 1) fault)

theorem dischargeStart_of_none {why : Nat} {fault : Bool} (idle : s.dsp.disch = none) :
    s.dischargeStart why fault = (s.discharging why fault).each s.dsp.onCmds fun s r => s.finish r stFault := by
  have dsp : ((s.wr R.DSP_STAT_WHY why).dspTo 5).dsp = s.dsp := dspTo_frame_self (s.wr R.DSP_STAT_WHY why) 5 .dsp (by decide)
  unfold State.dischargeStart State.discharging
  rw [idle]
  dsimp only
  rw [dsp]
  rfl

theorem discharging_disch (s : State) (why : Nat) (fault : Bool) :
    (s.discharging why fault).dsp.disch = some ⟨s.rd R.DSP_STAT_VGH_PG != 1, fault⟩ := rfl

theorem discharging_effect (why : Nat) (fault : Bool) (fresh : s.rd R.DSP_STAT_STATE ≠ 5) :
    s.Fields [(R.DSP_STAT_STATE, 5), (R.DSP_STAT_WHY, why)] (s.discharging why fault) ∧
    s.Raises 0x60 (le 1 1 ++ le 1 why ++ [5, 0]) (s.discharging why fault) ∧ s.Frame [.regs, .spoke, .dsp] (s.discharging why fault) := by
  let v := s.wr R.DSP_STAT_WHY why
  have other : v.rd R.DSP_STAT_STATE ≠ 5 := by
    rw [State.wr_rd_other s why (by decide : R.DSP_STAT_WHY ≠ R.DSP_STAT_STATE)]
    exact fresh
  obtain ⟨-, raised, -⟩ := dspTo_effect other
  rw [State.wr_rd_same s R.DSP_STAT_WHY why] at raised
  refine ⟨?_, raised.of_eq rfl, ?_⟩
  · have fields : s.Fields [(R.DSP_STAT_STATE, 5), (R.DSP_STAT_WHY, why)] (v.wr R.DSP_STAT_STATE 5) := (wr_fields s R.DSP_STAT_WHY why).wr
    refine fields.of_regs ?_
    show (v.dspTo 5).regs = _
    rw [dspTo_of_other other, State.dspNote_regs]
  · have wrote : s.Frame [.regs, .spoke, .dsp] v := State.wr_frame (Covers.refl.sub rfl) State.Frame.refl
    exact State.Frame.dsp (State.dspTo_frame (Covers.refl.sub rfl) wrote) (by decide)

/-- Which power-on commands waited does not matter to the discharge itself. -/
theorem discharging_onCmds (s : State) (l : List Ref) (why : Nat) (fault : Bool) :
    ({ s with dsp.onCmds := l } : State).discharging why fault = s.discharging why fault := by
  have other : ({ s with dsp.onCmds := l } : State) = s.setDsp { s.dsp with onCmds := l } := rfl
  unfold State.discharging
  rw [other, setDsp_wr, dspTo_setDsp]
  rfl

/-- With no power-on command waiting, the discharge is all there is. -/
theorem dischargeStart_of_quiet {why : Nat} {fault : Bool} (idle : s.dsp.disch = none) (quiet : s.dsp.onCmds = []) :
    s.dischargeStart why fault = s.discharging why fault := by
  rw [dischargeStart_of_none idle, quiet]
  rfl

/-- The panel's memory when a discharge starts with no power-on command waiting. -/
theorem discharging_dsp (quiet : s.dsp.onCmds = []) (why : Nat) (fault : Bool) : (s.discharging why fault).dsp = { s.dsp with
    disch := some ⟨s.rd R.DSP_STAT_VGH_PG != 1, fault⟩, off := none, step := 0, kind := 0, onDue := false, od := [], settle := []
    presenting := false } := by
  exact congrArg (fun l => { s.dsp with
    disch := some ⟨s.rd R.DSP_STAT_VGH_PG != 1, fault⟩, off := none, step := 0, kind := 0, onDue := false, od := [], settle := []
    presenting := false, onCmds := l }) quiet.symm

/-! ### A supply fails (R364, R370) -/

/-- The state when a supply failure has started the discharge. -/
def State.supplyLost (s : State) (unit : Nat) : State :=
  ((s.dspNote 2 unit 0).fault clDegrade 0x60 2 unit 0).discharging (if unit = 2 then 4 else 5) true

theorem abruptOff_of_driven {why : Nat} {fault : Bool} (state : s.rd R.DSP_STAT_STATE = 2 ∨ s.rd R.DSP_STAT_STATE = 3 ∨ s.rd R.DSP_STAT_STATE = 4) :
    s.abruptOff why fault = s.dischargeStart why fault := by
  unfold State.abruptOff
  rcases state with h | h | h <;>
  · rw [h]
    rfl

/-- DSP_NOTE and the fault leave every field of the panel as it was. -/
theorem supplyNoted_rd {unit k : Nat} (low : k / 1024 < 0x7000) : ((s.dspNote 2 unit 0).fault clDegrade 0x60 2 unit 0).rd k = s.rd k := by
  rw [fault_rd_other _ _ _ _ _ _ low, State.dspNote_rd]

theorem supplyNoted_dsp {unit : Nat} : ((s.dspNote 2 unit 0).fault clDegrade 0x60 2 unit 0).dsp = s.dsp := by
  rw [State.fault_dsp, State.dspNote_dsp]

theorem supplyNoted_flt (s : State) (unit : Nat) :
    ((s.dspNote 2 unit 0).fault clDegrade 0x60 2 unit 0).flt = (s.fault clDegrade 0x60 2 unit 0).flt :=
  fault_flt_congr (State.dspNote_flt ..) (State.dspNote_pwr ..) (State.dspNote_cad ..)

theorem dspSupply_starts {unit : Nat} (state : s.rd R.DSP_STAT_STATE = 2 ∨ s.rd R.DSP_STAT_STATE = 3 ∨ s.rd R.DSP_STAT_STATE = 4)
    (idle : s.dsp.disch = none) : s.dspSupply unit = (s.supplyLost unit).each s.dsp.onCmds fun s r => s.finish r stFault := by
  unfold State.dspSupply State.supplyLost
  rw [abruptOff_of_driven (by rw [supplyNoted_rd (by decide)]; exact state), dischargeStart_of_none (by rw [supplyNoted_dsp]; exact idle),
    supplyNoted_dsp]

theorem supplyLost_onCmds (s : State) (l : List Ref) (unit : Nat) :
    ({ s with dsp.onCmds := l } : State).supplyLost unit = s.supplyLost unit := by
  have other : ({ s with dsp.onCmds := l } : State) = s.setDsp { s.dsp with onCmds := l } := rfl
  let v := (s.dspNote 2 unit 0).fault clDegrade 0x60 2 unit 0
  have dsp : v.dsp = s.dsp := supplyNoted_dsp
  have moved : v.setDsp { s.dsp with onCmds := l } = { v with dsp.onCmds := l } := by
    rw [← dsp]
    rfl
  unfold State.supplyLost
  rw [other, dspNote_setDsp, fault_setDsp]
  exact (congrArg (fun v : State => v.discharging (if unit = 2 then 4 else 5) true) moved).trans (discharging_onCmds v l _ true)

theorem supplyLost_effect (unit : Nat) (fresh : s.rd R.DSP_STAT_STATE ≠ 5) : (s.supplyLost unit).rd R.DSP_STAT_STATE = 5 ∧
    (s.supplyLost unit).rd R.DSP_STAT_WHY = (if unit = 2 then 4 else 5) ∧
    (∀ k, k / 1024 < 0x7000 → R.DSP_STAT_STATE ≠ k → R.DSP_STAT_WHY ≠ k → (s.supplyLost unit).rd k = s.rd k) ∧
    (s.supplyLost unit).dsp.disch = some ⟨s.rd R.DSP_STAT_VGH_PG != 1, true⟩ ∧ (s.supplyLost unit).dsp.step = 0 ∧
    (s.supplyLost unit).flt = (s.fault clDegrade 0x60 2 unit 0).flt ∧ s.Frame [.regs, .spoke, .dsp, .flt] (s.supplyLost unit) := by
  let v := (s.dspNote 2 unit 0).fault clDegrade 0x60 2 unit 0
  have noted : ∀ k, k / 1024 < 0x7000 → v.rd k = s.rd k := fun k low => supplyNoted_rd low
  obtain ⟨fields, -, frame⟩ := discharging_effect (s := v) (if unit = 2 then 4 else 5) true (by rw [noted _ (by decide)]; exact fresh)
  have told : s.Frame [.regs, .spoke, .dsp, .flt] v :=
    State.fault_frame (Covers.refl.sub rfl) (State.dspNote_frame (Covers.refl.sub rfl) State.Frame.refl)
  refine ⟨fields _, fields _, fun k low state why => ?_, ?_, rfl, ?_, told.trans (frame.mono (Covers.refl.sub rfl))⟩
  · refine (fields.rd_other fun e he => ?_).trans (noted k low)
    simp only [List.mem_cons, List.not_mem_nil, or_false] at he
    rcases he with rfl | rfl
    · exact state
    · exact why
  · exact (discharging_disch v _ true).trans
      (congrArg (fun g => some (⟨g != 1, true⟩ : Discharge)) (noted R.DSP_STAT_VGH_PG (by decide)))
  · have kept : (v.discharging (if unit = 2 then 4 else 5) true).flt = v.flt := frame .flt (by decide)
    exact Eq.trans kept (supplyNoted_flt s unit)

end Sys2Proof.Machine
end

section
/-!
PROOFS. The matrix panel's events: the steps of a power-on, orderly and abrupt off, supply failures, the end of a discharge (R362 to R365).
-/

namespace Sys2Proof.Machine

variable {s t u : State}

/-! ### Changes of STATE along a sequence -/

/-- A change of STATE after some fields were written. -/
theorem dspTo_after {l : Map Nat} {n : Nat} (fields : s.Fields l u) (other : u.rd R.DSP_STAT_STATE ≠ n) :
    s.Fields ((R.DSP_STAT_STATE, n) :: l) (u.dspTo n) :=
  fields.wr.of_regs (by rw [dspTo_of_other other]; exact State.dspNote_regs ..)

/-- DSP_NOTE kind 1 goes out, whatever was written before. -/
theorem dspTo_raises {n : Nat} (other : u.rd R.DSP_STAT_STATE ≠ n) (spoke : u.spoke = s.spoke) :
    s.Raises 0x60 (le 1 1 ++ le 1 (u.rd R.DSP_STAT_WHY) ++ le 2 n) (u.dspTo n) := (dspTo_effect other).2.1.of_eq spoke

theorem dspTo_dsp (s : State) (n : Nat) : (s.dspTo n).dsp = s.dsp := dspTo_frame_self s n .dsp (by decide)

theorem dspTo_same {n : Nat} (same : s.rd R.DSP_STAT_STATE = n) : s.dspTo n = s := if_pos same

/-! ### The steps of Table 13-4 -/

/-- The power-goods as a step finds them, with the step taken. -/
def State.stepping (s : State) (h l : Bool) : State :=
  { (s.wrB R.DSP_STAT_VGH_PG h).wrB R.DSP_STAT_VGL_PG l with dsp.stepAt := some s.cad.now }

theorem stepping_fields (s : State) (h l : Bool) :
    s.Fields [(R.DSP_STAT_VGL_PG, b2n l), (R.DSP_STAT_VGH_PG, b2n h)] (s.stepping h l) :=
  (wr_fields s R.DSP_STAT_VGH_PG (b2n h)).wr.of_regs rfl

theorem stepping_frame (s : State) (h l : Bool) : s.Frame [.regs, .dsp] (s.stepping h l) := by
  have wrote : s.Frame [.regs, .dsp] ((s.wrB R.DSP_STAT_VGH_PG h).wrB R.DSP_STAT_VGL_PG l) :=
    State.wr_frame (Covers.refl.sub rfl) (State.wr_frame (Covers.refl.sub rfl) State.Frame.refl)
  exact wrote.dsp (by decide)

theorem stepping_rd_other {k : Nat} (h l : Bool) (low : R.DSP_STAT_VGL_PG ≠ k) (high : R.DSP_STAT_VGH_PG ≠ k) : (s.stepping h l).rd k = s.rd k :=
  (State.wr_rd_other (s.wrB R.DSP_STAT_VGH_PG h) (b2n l) low).trans (State.wr_rd_other s (b2n h) high)

theorem stepping_vgh (s : State) (h l : Bool) : (s.stepping h l).rd R.DSP_STAT_VGH_PG = b2n h := (stepping_fields s h l) _

/-- A step of Table 13-4 once the power-goods stand. -/
def State.powerStep (s : State) (h l : Bool) : State :=
  match s.dsp.step with
  | 1 => if (s.dspTo 2).on R.DSP_STAT_VSRC_OK then { s.dspTo 2 with dsp.step := 2, dsp.vglEn := true } else (s.dspTo 2).dspSupply 2
  | 2 => if l then { s with dsp.step := 3, dsp.vghEn := true } else s.dspSupply 0
  | 3 => if h then { s with dsp.step := 4 } else s.dspSupply 1
  | 4 =>
    (({ s with dsp.step := 0, dsp.acc := [], dsp.kind := 1, dsp.onDue := true, dsp.plain := false, dsp.od := [] } : State).dspTo 3).driveFrame true
  | _ => s

theorem powerOnStep_eq (h l : Bool) (fresh : s.dsp.stepAt ≠ some s.cad.now) :
    exec (.panelPowerOnStep h l) s = .next ((s.stepping h l).powerStep h l) := congrArg Host.Outcome.next (if_neg fresh)

/-- Step 1: the source drivers are on and VGL_EN goes up (R362). -/
theorem powerOnStep_first (h l : Bool) (fresh : s.dsp.stepAt ≠ some s.cad.now) (step : s.dsp.step = 1) (source : s.rd R.DSP_STAT_VSRC_OK = 1)
    (waited : s.rd R.DSP_STAT_STATE = 1) : ∃ t, exec (.panelPowerOnStep h l) s = .next t ∧
    s.Fields [(R.DSP_STAT_STATE, 2), (R.DSP_STAT_VGL_PG, b2n l), (R.DSP_STAT_VGH_PG, b2n h)] t ∧
    t.dsp = { s.dsp with stepAt := some s.cad.now, step := 2, vglEn := true } ∧ s.Raises 0x60 [1, BitVec.ofNat 8 (s.rd R.DSP_STAT_WHY), 2, 0] t ∧
    s.Frame [.regs, .spoke, .dsp] t := by
  obtain ⟨v, eq⟩ : ∃ v, v = s.stepping h l := ⟨_, rfl⟩
  have rd : ∀ k, R.DSP_STAT_VGL_PG ≠ k → R.DSP_STAT_VGH_PG ≠ k → v.rd k = s.rd k := fun k a b => eq ▸ stepping_rd_other h l a b
  have other : v.rd R.DSP_STAT_STATE ≠ 2 := by
    rw [rd _ (by decide) (by decide), waited]
    decide
  have fields := dspTo_after (eq ▸ stepping_fields s h l : s.Fields _ v) other
  have dsp : v.dsp = { s.dsp with stepAt := some s.cad.now } := eq ▸ rfl
  have taken : v.powerStep h l = { v.dspTo 2 with dsp.step := 2, dsp.vglEn := true } := by
    have on : (v.dspTo 2).on R.DSP_STAT_VSRC_OK = true := State.on_iff.mpr ((fields _).trans source)
    unfold State.powerStep
    rw [show v.dsp.step = 1 by rw [dsp]; exact step]
    exact if_pos on
  have raised := dspTo_raises (s := s) other (eq ▸ rfl)
  rw [rd _ (by decide) (by decide)] at raised
  refine ⟨{ v.dspTo 2 with dsp.step := 2, dsp.vglEn := true }, ?_, fields.of_regs rfl, ?_, raised.to_eq rfl, ?_⟩
  · rw [powerOnStep_eq h l fresh, ← eq, taken]
  · show { (v.dspTo 2).dsp with step := 2, vglEn := true } = _
    rw [dspTo_dsp, dsp]
  · have frame : s.Frame [.regs, .spoke, .dsp] v := (eq ▸ stepping_frame s h l : s.Frame [.regs, .dsp] v).mono (Covers.refl.sub rfl)
    exact (State.dspTo_frame (Covers.refl.sub rfl) frame).dsp (by decide)

/-- Steps 2 and 3: a power-good that is high lets the sequence go on (R362). -/
theorem powerOnStep_passes (h l : Bool) (fresh : s.dsp.stepAt ≠ some s.cad.now) (good : s.dsp.step = 2 ∧ l = true ∨ s.dsp.step = 3 ∧ h = true) :
    ∃ t, exec (.panelPowerOnStep h l) s = .next t ∧ s.Fields [(R.DSP_STAT_VGL_PG, b2n l), (R.DSP_STAT_VGH_PG, b2n h)] t ∧
    t.dsp = { s.dsp with stepAt := some s.cad.now, step := s.dsp.step + 1, vghEn := s.dsp.step == 2 || s.dsp.vghEn } ∧
    s.Frame [.regs, .dsp] t := by
  rw [powerOnStep_eq h l fresh]
  unfold State.powerStep
  rw [show (s.stepping h l).dsp.step = s.dsp.step from rfl]
  refine ⟨_, rfl, ?_⟩
  obtain ⟨step, rfl⟩ | ⟨step, rfl⟩ := good
  all_goals rw [step]
  · exact ⟨(stepping_fields s h true).of_regs rfl, rfl, (stepping_frame s h true).dsp (by decide)⟩
  · exact ⟨(stepping_fields s true l).of_regs rfl, rfl, (stepping_frame s true l).dsp (by decide)⟩

/-- The first frame of a panel takes POL_MODE and starts LASTPOL over (R356). -/
theorem driveFrame_first (clean : s.dsp.parBad = []) (full : s.dsp.kind = 1) : s.driveFrame true =
    ({ s with dsp.polBase := s.rd R.DSP_CFG_POL_MODE, dsp.flips := [], dsp.hZero := false } : State).count R.DSP_STAT_FRAMES 0xFFFF 1 := by
  obtain ⟨d, eq⟩ : ∃ d : Dsp, d = { s.dsp with polBase := s.rd R.DSP_CFG_POL_MODE, flips := [], hZero := false } := ⟨_, rfl⟩
  have drives : (s.setDsp d).dsp.kind = 1 ∨ (s.setDsp d).dsp.kind = 4 ∨ (s.setDsp d).dsp.kind = 5 := Or.inl (by rw [eq]; exact full)
  have none_ : ((s.setDsp d).count R.DSP_STAT_FRAMES 0xFFFF 1).dsp.parBad = [] := by
    show d.parBad = []
    rw [eq]
    exact clean
  have counted : s.driveFrame true = (if (s.setDsp d).dsp.kind = 1 ∨ (s.setDsp d).dsp.kind = 4 ∨ (s.setDsp d).dsp.kind = 5 then
      (s.setDsp d).count R.DSP_STAT_FRAMES 0xFFFF 1 else s.setDsp d).each
      ((if (s.setDsp d).dsp.kind = 1 ∨ (s.setDsp d).dsp.kind = 4 ∨ (s.setDsp d).dsp.kind = 5 then
        (s.setDsp d).count R.DSP_STAT_FRAMES 0xFFFF 1 else s.setDsp d).dsp.parBad.filter fun i => s.driven.contains (i / 960))
      State.scanParity := by
    rw [eq]
    rfl
  rw [counted, if_pos drives, none_, eq]
  rfl

/-- Step 4: the panel is ON, and its first frame is driven (R362). -/
theorem powerOnStep_last (h l : Bool) (fresh : s.dsp.stepAt ≠ some s.cad.now) (step : s.dsp.step = 4) (starting : s.rd R.DSP_STAT_STATE = 2)
    (clean : s.dsp.parBad = []) : ∃ t, exec (.panelPowerOnStep h l) s = .next t ∧ t.rd R.DSP_STAT_STATE = 3 ∧ t.dsp = { s.dsp with
      stepAt := some s.cad.now, step := 0, acc := [], kind := 1, onDue := true, plain := false, od := [], hZero := false
      polBase := s.rd R.DSP_CFG_POL_MODE, flips := [] } ∧
    t.rd R.DSP_STAT_FRAMES = min 0xFFFF (s.rd R.DSP_STAT_FRAMES + 1) ∧ s.Raises 0x60 [1, BitVec.ofNat 8 (s.rd R.DSP_STAT_WHY), 3, 0] t ∧
    s.Frame [.regs, .spoke, .dsp] t := by
  obtain ⟨v, eq⟩ : ∃ v : State, v = { s.stepping h l with
    dsp.step := 0, dsp.acc := [], dsp.kind := 1, dsp.onDue := true, dsp.plain := false, dsp.od := [] } := ⟨_, rfl⟩
  have rd : ∀ k, R.DSP_STAT_VGL_PG ≠ k → R.DSP_STAT_VGH_PG ≠ k → v.rd k = s.rd k := fun k a b => eq ▸ stepping_rd_other h l a b
  have other : v.rd R.DSP_STAT_STATE ≠ 3 := by
    rw [rd _ (by decide) (by decide), starting]
    decide
  have dsp : (v.dspTo 3).dsp = { s.dsp with
      stepAt := some s.cad.now, step := 0, acc := [], kind := 1, onDue := true, plain := false, od := [] } :=
    (dspTo_dsp v 3).trans (eq ▸ rfl)
  have on : ∀ k, R.DSP_STAT_VGL_PG ≠ k → R.DSP_STAT_VGH_PG ≠ k → R.DSP_STAT_STATE ≠ k → (v.dspTo 3).rd k = s.rd k := fun k a b c =>
    ((dspTo_effect other).1.rd_other (by simpa using c)).trans (rd k a b)
  have taken : (s.stepping h l).powerStep h l = (v.dspTo 3).driveFrame true := by
    unfold State.powerStep
    rw [show (s.stepping h l).dsp.step = 4 from step]
    exact congrArg (fun v : State => (v.dspTo 3).driveFrame true) eq.symm
  have raised := dspTo_raises (s := s) other (eq ▸ rfl)
  rw [rd _ (by decide) (by decide)] at raised
  rw [powerOnStep_eq h l fresh, taken, driveFrame_first (by rw [dsp]; exact clean) (by rw [dsp])]
  have frame : s.Frame [.regs, .spoke, .dsp] v := by
    rw [eq]
    exact ((stepping_frame s h l).mono (Covers.refl.sub rfl)).dsp (by decide)
  obtain ⟨w, hw⟩ : ∃ w, w = v.dspTo 3 := ⟨_, rfl⟩
  have driven : w.rd R.DSP_STAT_STATE = 3 := hw ▸ dspTo_state 3
  rw [← hw] at dsp on raised ⊢
  refine ⟨_, rfl, ?_, ?_, ?_, raised.to_eq rfl, ?_⟩
  · rw [count_eq, State.wr_rd_other _ _ (by decide)]
    exact driven
  · show { w.dsp with polBase := w.rd R.DSP_CFG_POL_MODE, flips := [], hZero := false } = _
    rw [dsp, on _ (by decide) (by decide) (by decide)]
  · rw [count_eq, State.wr_rd_same]
    exact congrArg (fun n => min 0xFFFF (n + 1)) (on R.DSP_STAT_FRAMES (by decide) (by decide) (by decide))
  · have told : s.Frame [.regs, .spoke, .dsp] w := hw ▸ State.dspTo_frame (Covers.refl.sub rfl) frame
    exact State.wr_frame (Covers.refl.sub rfl) (told.dsp (by decide))

/-- A supply is lost with at most one power-on command waiting: it gets FAULT (R362, R364). -/
theorem dspSupply_finish {unit : Nat} (state : s.rd R.DSP_STAT_STATE = 2 ∨ s.rd R.DSP_STAT_STATE = 3 ∨ s.rd R.DSP_STAT_STATE = 4)
    (idle : s.dsp.disch = none) (r : Ref) :
    ({ s with dsp.onCmds := [r] } : State).dspSupply unit = (s.supplyLost unit).finish r stFault := by
  rw [dspSupply_starts (s := { s with dsp.onCmds := [r] }) state idle, supplyLost_onCmds]
  rfl

theorem dspSupply_quiet {unit : Nat} (state : s.rd R.DSP_STAT_STATE = 2 ∨ s.rd R.DSP_STAT_STATE = 3 ∨ s.rd R.DSP_STAT_STATE = 4)
    (idle : s.dsp.disch = none) (quiet : s.dsp.onCmds = []) : s.dspSupply unit = s.supplyLost unit := by
  rw [dspSupply_starts state idle, quiet]
  rfl

/-- What a check of Table 13-4 finds wrong: unit 2 VDD_SRC, 0 VGL_PG, 1 VGH_PG. -/
theorem powerStep_fails {h l : Bool} (starting : s.rd R.DSP_STAT_STATE = 2)
    (failed : s.dsp.step = 1 ∧ s.rd R.DSP_STAT_VSRC_OK ≠ 1 ∨ s.dsp.step = 2 ∧ l = false ∨ s.dsp.step = 3 ∧ h = false) :
    s.powerStep h l = s.dspSupply (if s.dsp.step = 1 then 2 else s.dsp.step - 2) := by
  unfold State.powerStep
  rcases failed with ⟨step, bad⟩ | ⟨step, rfl⟩ | ⟨step, rfl⟩ <;> rw [step]
  · rw [dspTo_same starting]
    exact if_neg fun on => bad (State.on_iff.mp on)
  · exact if_neg Bool.false_ne_true
  · exact if_neg Bool.false_ne_true

/-- A failed check starts the discharge, and the command that waits ends with FAULT (R362). -/
theorem powerOnStep_fails (h l : Bool) (r : Ref) (fresh : s.dsp.stepAt ≠ some s.cad.now) (starting : s.rd R.DSP_STAT_STATE = 2)
    (idle : s.dsp.disch = none) (quiet : s.dsp.onCmds = [])
    (failed : s.dsp.step = 1 ∧ s.rd R.DSP_STAT_VSRC_OK ≠ 1 ∨ s.dsp.step = 2 ∧ l = false ∨ s.dsp.step = 3 ∧ h = false) :
    ∃ t, exec (.panelPowerOnStep h l) s = .next t ∧ t.rd R.DSP_STAT_STATE = 5 ∧ t.rd R.DSP_STAT_WHY = (if s.dsp.step = 1 then 4 else 5) ∧
    t.dsp.disch = some ⟨!h, true⟩ ∧ t.dsp.step = 0 ∧
    t.flt = (s.fault clDegrade 0x60 2 (if s.dsp.step = 1 then 2 else s.dsp.step - 2) 0).flt ∧
    exec (.panelPowerOnStep h l) { s with dsp.onCmds := [r] } = .next (t.finish r stFault) ∧ s.Frame [.regs, .spoke, .dsp, .flt] t := by
  obtain ⟨v, eq⟩ : ∃ v : State, v = s.stepping h l := ⟨_, rfl⟩
  have rd : ∀ k, R.DSP_STAT_VGL_PG ≠ k → R.DSP_STAT_VGH_PG ≠ k → v.rd k = s.rd k := fun k a b => eq ▸ stepping_rd_other h l a b
  have dsp : v.dsp = { s.dsp with stepAt := some s.cad.now } := eq ▸ rfl
  have state : v.rd R.DSP_STAT_STATE = 2 := (rd _ (by decide) (by decide)).trans starting
  have check : v.dsp.step = 1 ∧ v.rd R.DSP_STAT_VSRC_OK ≠ 1 ∨ v.dsp.step = 2 ∧ l = false ∨ v.dsp.step = 3 ∧ h = false := by
    rw [rd _ (by decide) (by decide), dsp]
    exact failed
  have stepIs : v.dsp.step = s.dsp.step := by rw [dsp]
  have fails : ∀ c : List Ref, ({ v with dsp.onCmds := c } : State).powerStep h l =
      ({ v with dsp.onCmds := c } : State).dspSupply (if v.dsp.step = 1 then 2 else v.dsp.step - 2) := fun c =>
    powerStep_fails (s := { v with dsp.onCmds := c }) state check
  have idle : v.dsp.disch = none := by rw [dsp]; exact idle
  have moved : ({ s with dsp.onCmds := [r] } : State).stepping h l = { v with dsp.onCmds := [r] } := eq ▸ rfl
  obtain ⟨unit, hunit⟩ : ∃ unit, unit = if s.dsp.step = 1 then 2 else s.dsp.step - 2 := ⟨_, rfl⟩
  rw [stepIs, ← hunit] at fails
  rw [← hunit]
  have cause : (if unit = 2 then 4 else 5) = if s.dsp.step = 1 then 4 else 5 := by
    rcases failed with ⟨step, -⟩ | ⟨step, -⟩ | ⟨step, -⟩ <;> rw [hunit, step] <;> rfl
  obtain ⟨on, why, -, disch, done, flt, frame⟩ := supplyLost_effect (s := v) unit (by rw [state]; decide)
  have gates : v.rd R.DSP_STAT_VGH_PG = b2n h := eq ▸ stepping_vgh s h l
  have alone : v.dsp.onCmds = [] := by rw [dsp]; exact quiet
  have first : v.powerStep h l = v.supplyLost unit := by
    have same : ({ v with dsp.onCmds := v.dsp.onCmds } : State) = v := rfl
    rw [← same, fails, same, dspSupply_quiet (Or.inl state) idle alone]
  refine ⟨v.supplyLost unit, ?_, on, why.trans cause, ?_, done, ?_, ?_, ?_⟩
  · rw [powerOnStep_eq h l fresh, ← eq, first]
  · rw [disch, gates]
    cases h <;> rfl
  · exact flt.trans (fault_flt_congr (eq ▸ rfl) (eq ▸ rfl) (eq ▸ rfl))
  · rw [powerOnStep_eq (s := { s with dsp.onCmds := [r] }) h l fresh, moved, fails, dspSupply_finish (Or.inl state) idle]
  · have told : s.Frame [.regs, .spoke, .dsp, .flt] v := (eq ▸ stepping_frame s h l : s.Frame [.regs, .dsp] v).mono (Covers.refl.sub rfl)
    exact told.trans frame

end Sys2Proof.Machine
end

section
/-!
PROOFS. The matrix panel goes off: the orderly and the abrupt off, a supply that fails, and the end of the discharge (R363 to R365).
-/

namespace Sys2Proof.Machine

variable {s t u : State}

/-! ### The orderly off (R363) -/

theorem orderlyOff_idle (blanked : s.rd R.DSP_STAT_STATE ≠ 4) (off : s.dsp.off = none) : exec .orderlyOff s = .next s := by
  show Host.Outcome.next s.orderlyStep = _
  unfold State.orderlyStep
  rw [if_neg blanked, off]

/-- The blank frame of an orderly off, before it is driven. -/
def State.blanking (s : State) (w : Nat) : State := { (s.wr R.DSP_STAT_WHY w).dspTo 4 with dsp.kind := 5, dsp.off := none }

theorem orderlyStep_blanks {w : Nat} (on : s.rd R.DSP_STAT_STATE = 3) (off : s.dsp.off = some w) :
    s.orderlyStep = (s.blanking w).driveFrame false := by
  have state : (s.wr R.DSP_STAT_WHY w).rd R.DSP_STAT_STATE = 3 := (State.wr_rd_other s w (by decide)).trans on
  unfold State.orderlyStep
  rw [if_neg (by rw [on]; decide), off]
  exact if_pos state

/-- The discharge of an orderly off starts without any other change. -/
theorem orderlyStep_discharges (blanked : s.rd R.DSP_STAT_STATE = 4) (idle : s.dsp.disch = none) (quiet : s.dsp.onCmds = []) :
    s.orderlyStep = s.discharging (s.rd R.DSP_STAT_WHY) false := (if_pos blanked).trans (dischargeStart_of_quiet idle quiet)

theorem orderlyOff_blanks {w : Nat} (on : s.rd R.DSP_STAT_STATE = 3) (off : s.dsp.off = some w) (clean : s.dsp.parBad = []) :
    ∃ t, exec .orderlyOff s = .next t ∧
    s.Fields [(R.DSP_STAT_FRAMES, min 0xFFFF (s.rd R.DSP_STAT_FRAMES + 1)), (R.DSP_STAT_STATE, 4), (R.DSP_STAT_WHY, w)] t ∧
    t.dsp = { s.dsp with kind := 5, off := none, flips := t.dsp.flips } ∧ (∀ y, y < 240 → mget 0 t.dsp.flips y = 1 - mget 0 s.dsp.flips y) ∧
    (∀ x y c, t.driveLevel x y c = s.rd R.DSP_CFG_DIS_LEVEL) ∧ s.Raises 0x60 [1, BitVec.ofNat 8 w, 4, 0] t ∧ s.Frame [.regs, .spoke, .dsp] t := by
  have other : (s.wr R.DSP_STAT_WHY w).rd R.DSP_STAT_STATE ≠ 4 := by
    rw [State.wr_rd_other s w (by decide : R.DSP_STAT_WHY ≠ R.DSP_STAT_STATE), on]
    decide
  obtain ⟨v, eq⟩ : ∃ v, v = s.blanking w := ⟨_, rfl⟩
  have fields : s.Fields [(R.DSP_STAT_STATE, 4), (R.DSP_STAT_WHY, w)] v := (dspTo_after (wr_fields s R.DSP_STAT_WHY w) other).of_regs (eq ▸ rfl)
  have dsp : v.dsp = { s.dsp with kind := 5, off := none } := by
    rw [eq]
    show { ((s.wr R.DSP_STAT_WHY w).dspTo 4).dsp with kind := 5, off := none } = _
    rw [dspTo_dsp]
    rfl
  have kind : v.dsp.kind = 5 := by rw [dsp]
  have raised := dspTo_raises (s := s) other rfl
  rw [State.wr_rd_same] at raised
  have driven : v.driveFrame false = ({ v with dsp.flips := v.flipped } : State).count R.DSP_STAT_FRAMES 0xFFFF 1 :=
    (driveFrame_of_clean (by rw [dsp]; exact clean)).trans (if_pos (Or.inr (Or.inr kind)))
  obtain ⟨flips, hflips⟩ : ∃ flips, flips = v.flipped := ⟨_, rfl⟩
  have inverted : ∀ y, y < 240 → mget 0 flips y = 1 - mget 0 s.dsp.flips y := fun y line => by
    rw [hflips, flipped_all (Or.inr (Or.inr kind)) line, dsp]
  rw [← hflips] at driven
  have counted : s.Fields [(R.DSP_STAT_FRAMES, min 0xFFFF (s.rd R.DSP_STAT_FRAMES + 1)), (R.DSP_STAT_STATE, 4), (R.DSP_STAT_WHY, w)]
      (({ v with dsp.flips := flips } : State).count R.DSP_STAT_FRAMES 0xFFFF 1) := by
    have same : v.rd R.DSP_STAT_FRAMES = s.rd R.DSP_STAT_FRAMES := fields _
    rw [count_eq]
    show State.Fields _ s (State.wr _ _ (min 0xFFFF (v.rd R.DSP_STAT_FRAMES + 1)))
    rw [same]
    exact (fields.of_regs rfl).wr
  obtain ⟨t, ht⟩ : ∃ t, t = ({ v with dsp.flips := flips } : State).count R.DSP_STAT_FRAMES 0xFFFF 1 := ⟨_, rfl⟩
  have lit : t.dsp = { s.dsp with kind := 5, off := none, flips := flips } := by
    rw [ht]
    show { v.dsp with flips := flips } = _
    rw [dsp]
  rw [← ht] at driven counted
  refine ⟨t, ?_, counted, ?_, ?_, fun x y c => ?_, raised.to_eq (ht ▸ eq ▸ rfl), ?_⟩
  · show Host.Outcome.next s.orderlyStep = _
    rw [orderlyStep_blanks on off, ← eq, driven]
  · rw [lit]
  · rw [lit]
    exact inverted
  · unfold State.driveLevel
    rw [show t.dsp.kind = 5 by rw [lit]]
    exact counted _
  · have told : s.Frame [.regs, .spoke, .dsp] v := by
      rw [eq]
      exact (State.dspTo_frame (Covers.refl.sub rfl) (State.wr_frame (Covers.refl.sub rfl) State.Frame.refl)).dsp (by decide)
    rw [ht]
    exact State.wr_frame (Covers.refl.sub rfl) (told.dsp (by decide))

/-- A field written with the value it has is not changed. -/
theorem State.Fields.drop_same {e : Nat × Nat} {k : Nat} (fields : s.Fields [e, (k, s.rd k)] t) : s.Fields [e] t := fun j => by
  rw [fields j]
  by_cases first : e.1 = j
  · simp [mget?, first]
  · by_cases same : k = j <;> simp [mget?, first, same]

theorem orderlyOff_discharges (blanked : s.rd R.DSP_STAT_STATE = 4) (idle : s.dsp.disch = none) (quiet : s.dsp.onCmds = []) :
    ∃ t, exec .orderlyOff s = .next t ∧ s.Fields [(R.DSP_STAT_STATE, 5)] t ∧ t.dsp = { s.dsp with
      disch := some ⟨s.rd R.DSP_STAT_VGH_PG != 1, false⟩, off := none, step := 0, kind := 0, onDue := false, od := [], settle := []
      presenting := false } ∧ s.Raises 0x60 [1, BitVec.ofNat 8 (s.rd R.DSP_STAT_WHY), 5, 0] t ∧ s.Frame [.regs, .spoke, .dsp] t := by
  obtain ⟨fields, raised, frame⟩ := discharging_effect (s := s) (s.rd R.DSP_STAT_WHY) false (by rw [blanked]; decide)
  exact ⟨_, congrArg Host.Outcome.next (orderlyStep_discharges blanked idle quiet), fields.drop_same,
    discharging_dsp quiet _ _, raised, frame⟩

/-- In POWER_ON nothing is driven yet, and the orderly off starts the discharge at once. -/
theorem orderlyOff_starting {w : Nat} (starting : s.rd R.DSP_STAT_STATE = 2) (off : s.dsp.off = some w) (idle : s.dsp.disch = none)
    (quiet : s.dsp.onCmds = []) : ∃ t, exec .orderlyOff s = .next t ∧ t.rd R.DSP_STAT_STATE = 5 ∧ t.rd R.DSP_STAT_WHY = w ∧
    t.dsp.disch = some ⟨s.rd R.DSP_STAT_VGH_PG != 1, false⟩ ∧ t.dsp.off = none ∧ s.Frame [.regs, .spoke, .dsp] t := by
  obtain ⟨v, eq⟩ : ∃ v : State, v = { s.wr R.DSP_STAT_WHY w with dsp.onCmds := [] } := ⟨_, rfl⟩
  have rd : ∀ k, R.DSP_STAT_WHY ≠ k → v.rd k = s.rd k := fun k a => eq ▸ State.wr_rd_other s w a
  have state : v.rd R.DSP_STAT_STATE = 2 := (rd _ (by decide)).trans starting
  have taken : s.orderlyStep = v.discharging w false := by
    have state : (s.wr R.DSP_STAT_WHY w).rd R.DSP_STAT_STATE = 2 := (State.wr_rd_other s w (by decide)).trans starting
    unfold State.orderlyStep
    rw [if_neg (by rw [starting]; decide), off]
    dsimp only
    rw [if_neg (by rw [state]; decide), if_pos state, ← dischargeStart_of_quiet (s := v) (eq ▸ idle) (eq ▸ rfl), eq]
    show State.dischargeStart (State.each _ s.dsp.onCmds _) w false = _
    rw [quiet]
    rfl
  obtain ⟨fields, -, frame⟩ := discharging_effect (s := v) w false (by rw [state]; decide)
  refine ⟨v.discharging w false, congrArg Host.Outcome.next taken, fields _, fields _, ?_, rfl, ?_⟩
  · rw [discharging_disch, rd _ (by decide)]
  · have wrote : s.Frame [.regs, .spoke, .dsp] v := by
      rw [eq]
      exact (State.wr_frame (Covers.refl.sub rfl) State.Frame.refl).dsp (by decide)
    exact wrote.trans frame

/-! ### The abrupt off (R364) -/

/-- A discharge in progress is not restarted. -/
theorem dischargeStart_again (why : Nat) (running : s.dsp.disch ≠ none) : s.dischargeStart why false = s := by
  obtain ⟨d, hd⟩ := Option.ne_none_iff_exists'.mp running
  have same : { s.dsp with disch := some { d with fault := d.fault || false } } = s.dsp := by
    rw [Bool.or_false, ← hd]
  unfold State.dischargeStart
  rw [hd]
  exact congrArg s.setDsp same

theorem abruptOff_idle (why : Nat) (off : s.rd R.DSP_STAT_STATE = 0 ∨ s.rd R.DSP_STAT_STATE = 6 ∨ s.rd R.DSP_STAT_STATE = 5 ∧ s.dsp.disch ≠ none) :
    s.abruptOff why false = s := by
  unfold State.abruptOff
  rcases off with state | state | ⟨state, running⟩
  · rw [state]
    rfl
  · rw [state]
    rfl
  · rw [state]
    exact dischargeStart_again why running

/-- The cause of an abrupt off as it stands: PFI, limp mode, or none (R364). -/
def State.offCause (s : State) : Nat := if s.on R.PWR_STAT_PFI then 2 else if s.limp then 8 else 0

theorem offCause_eq (s : State) : s.offCause = if s.rd R.PWR_STAT_PFI = 1 then 2 else if s.limp = true then 8 else 0 :=
  if_congr State.on_iff rfl rfl

theorem abruptOff_discharges (state : s.rd R.DSP_STAT_STATE = 2 ∨ s.rd R.DSP_STAT_STATE = 3 ∨ s.rd R.DSP_STAT_STATE = 4)
    (idle : s.dsp.disch = none) (quiet : s.dsp.onCmds = []) :
    ∃ t, exec .abruptOff s = .next t ∧ ∃ w : Nat, w = (if s.rd R.PWR_STAT_PFI = 1 then 2 else if s.limp = true then 8 else 0) ∧
    s.Fields [(R.DSP_STAT_STATE, 5), (R.DSP_STAT_WHY, w)] t ∧ t.dsp = { s.dsp with
      disch := some ⟨s.rd R.DSP_STAT_VGH_PG != 1, false⟩, off := none, step := 0, kind := 0, onDue := false, od := [], settle := []
      presenting := false } ∧ s.Raises 0x60 [1, BitVec.ofNat 8 w, 5, 0] t ∧ s.Frame [.regs, .spoke, .dsp] t := by
  obtain ⟨fields, raised, frame⟩ := discharging_effect (s := s) s.offCause false (by rcases state with h | h | h <;> rw [h] <;> decide)
  exact ⟨_, congrArg Host.Outcome.next ((abruptOff_of_driven state).trans (dischargeStart_of_quiet idle quiet)), s.offCause, offCause_eq s, fields,
    discharging_dsp quiet _ _, raised, frame⟩

/-- A power-on that waits for reserve is withdrawn (R364). -/
def State.withdrawn (s : State) (why : Nat) : State :=
  ({ (s.escEnd .panel).wr R.DSP_STAT_WHY why with dsp.onCmds := [], dsp.step := 0 } : State).dspTo 0

theorem abruptOff_withdraws (why : Nat) (fault : Bool) (waiting : s.rd R.DSP_STAT_STATE = 1) :
    s.abruptOff why fault = (s.withdrawn why).each s.dsp.onCmds fun s r => s.finish r stFault := by
  unfold State.abruptOff
  rw [waiting]
  rfl

theorem withdrawn_frame (s : State) (why : Nat) : s.Frame [.regs, .pwr, .spoke, .dsp] (s.withdrawn why) := by
  have wrote : s.Frame [.regs, .pwr, .spoke, .dsp] ((s.escEnd .panel).wr R.DSP_STAT_WHY why) :=
    State.wr_frame (Covers.refl.sub rfl) (State.escEnd_frame (Covers.refl.sub rfl) State.Frame.refl)
  exact State.dspTo_frame (Covers.refl.sub rfl) (wrote.dsp (by decide))

theorem withdrawn_pwr (s : State) (why : Nat) : (s.withdrawn why).pwr = (s.escEnd .panel).pwr :=
  dspTo_frame_self { (s.escEnd .panel).wr R.DSP_STAT_WHY why with dsp.onCmds := [], dsp.step := 0 } 0 .pwr (by decide)

theorem abruptOff_waiting (r : Ref) (waiting : s.rd R.DSP_STAT_STATE = 1) (quiet : s.dsp.onCmds = []) :
    ∃ t, exec .abruptOff s = .next t ∧ t.rd R.DSP_STAT_STATE = 0 ∧
    (∀ e ∈ t.pwr.wait, e.kind ≠ EscKind.panel) ∧ (∀ e ∈ t.pwr.hold, e.kind ≠ EscKind.panel) ∧ t.dsp.step = 0 ∧ t.dsp.disch = s.dsp.disch ∧
    exec .abruptOff { s with dsp.onCmds := [r] } = .next (t.finish r stFault) ∧ s.Frame [.regs, .pwr, .spoke, .dsp] t := by
  have dsp : (s.withdrawn s.offCause).dsp = { s.dsp with onCmds := [], step := 0 } := dspTo_dsp _ 0
  have without : ∀ l : List EscReq, ∀ e ∈ l.filter (fun r => decide (r.kind ≠ EscKind.panel)), e.kind ≠ EscKind.panel := fun l e he =>
    of_decide_eq_true (List.mem_filter.mp he).2
  refine ⟨s.withdrawn s.offCause, ?_, dspTo_state 0, ?_, ?_, ?_, ?_, ?_, withdrawn_frame s _⟩
  · refine congrArg Host.Outcome.next ((abruptOff_withdraws _ false waiting).trans ?_)
    rw [quiet]
    rfl
  · rw [withdrawn_pwr]
    exact without _
  · rw [withdrawn_pwr]
    exact without _
  · rw [dsp]
  · rw [dsp]
  · exact congrArg Host.Outcome.next (abruptOff_withdraws (s := { s with dsp.onCmds := [r] }) _ false waiting)

/-! ### A supply fails (R364) -/

theorem powerGoodLow_idle (blank : s.rd R.DSP_STAT_STATE ≠ 3) (off : s.rd R.DSP_STAT_STATE ≠ 4) : exec .powerGoodLow s = .next s :=
  congrArg Host.Outcome.next (if_neg fun h => h.1.elim blank off)

theorem powerGoodLow_starts (driven : s.rd R.DSP_STAT_STATE = 3 ∨ s.rd R.DSP_STAT_STATE = 4)
    (low : s.rd R.DSP_STAT_VGH_PG ≠ 1 ∨ s.rd R.DSP_STAT_VGL_PG ≠ 1) (idle : s.dsp.disch = none) (quiet : s.dsp.onCmds = []) :
    ∃ t, exec .powerGoodLow s = .next t ∧ t.rd R.DSP_STAT_STATE = 5 ∧ t.rd R.DSP_STAT_WHY = 5 ∧
    t.dsp.disch = some ⟨s.rd R.DSP_STAT_VGH_PG != 1, true⟩ ∧
    t.flt = (s.fault clDegrade 0x60 2 (if s.rd R.DSP_STAT_VGL_PG = 1 then 1 else 0) 0).flt ∧ s.Frame [.regs, .spoke, .dsp, .flt] t := by
  have bad : (!s.on R.DSP_STAT_VGH_PG || !s.on R.DSP_STAT_VGL_PG) = true := by
    rw [Bool.or_eq_true, Bool.not_eq_true', Bool.not_eq_true', on_eq_false_iff, on_eq_false_iff]
    exact low
  have unit : (if s.on R.DSP_STAT_VGL_PG then 1 else 0) = if s.rd R.DSP_STAT_VGL_PG = 1 then 1 else 0 := if_congr State.on_iff rfl rfl
  have taken : s.powerGoodLow = s.supplyLost (if s.rd R.DSP_STAT_VGL_PG = 1 then 1 else 0) := by
    rw [← unit]
    exact (if_pos ⟨driven, bad⟩).trans (dspSupply_quiet (Or.inr driven) idle quiet)
  obtain ⟨n, hn⟩ : ∃ n, n = if s.rd R.DSP_STAT_VGL_PG = 1 then 1 else 0 := ⟨_, rfl⟩
  have cause : (if n = 2 then 4 else 5) = 5 := if_neg (by rw [hn]; split <;> decide)
  rw [← hn] at taken ⊢
  obtain ⟨state, why, -, disch, -, flt, frame⟩ := supplyLost_effect (s := s) n (by rcases driven with h | h <;> rw [h] <;> decide)
  exact ⟨_, congrArg Host.Outcome.next taken, state, why.trans cause, disch, flt, frame⟩

theorem vsrcFail_starts (state : s.rd R.DSP_STAT_STATE = 2 ∨ s.rd R.DSP_STAT_STATE = 3 ∨ s.rd R.DSP_STAT_STATE = 4) (idle : s.dsp.disch = none)
    (quiet : s.dsp.onCmds = []) : ∃ t, exec .vsrcFail s = .next t ∧ t.rd R.DSP_STAT_STATE = 5 ∧ t.rd R.DSP_STAT_WHY = 4 ∧
    t.rd R.DSP_STAT_VSRC_OK = 0 ∧ t.dsp.disch = some ⟨s.rd R.DSP_STAT_VGH_PG != 1, true⟩ ∧ t.flt = (s.fault clDegrade 0x60 2 2 0).flt ∧
    s.Frame [.regs, .spoke, .dsp, .flt] t := by
  obtain ⟨v, eq⟩ : ∃ v, v = s.wr R.DSP_STAT_VSRC_OK 0 := ⟨_, rfl⟩
  have rd : ∀ k, R.DSP_STAT_VSRC_OK ≠ k → v.rd k = s.rd k := fun k other => eq ▸ State.wr_rd_other s 0 other
  have source : v.rd R.DSP_STAT_VSRC_OK = 0 := eq ▸ State.wr_rd_same s _ 0
  have state : v.rd R.DSP_STAT_STATE = 2 ∨ v.rd R.DSP_STAT_STATE = 3 ∨ v.rd R.DSP_STAT_STATE = 4 := by
    rw [rd _ (by decide)]
    exact state
  have taken : s.vsrcFail = v.supplyLost 2 := by
    have driven : ¬(v.rd R.DSP_STAT_STATE = 0 ∨ v.rd R.DSP_STAT_STATE = 6 ∨ v.rd R.DSP_STAT_STATE = 5) := by omega
    rw [← dspSupply_quiet state (eq ▸ idle) (eq ▸ quiet), eq]
    rw [eq] at driven
    exact if_neg driven
  obtain ⟨on, why, kept, disch, -, flt, frame⟩ := supplyLost_effect (s := v) 2 (by omega)
  refine ⟨_, congrArg Host.Outcome.next taken, on, why, (kept _ (by decide) (by decide) (by decide)).trans source, ?_, ?_, ?_⟩
  · rw [disch, rd _ (by decide)]
  · exact flt.trans (fault_flt_congr (eq ▸ rfl) (eq ▸ rfl) (eq ▸ rfl))
  · have wrote : s.Frame [.regs, .spoke, .dsp, .flt] v := eq ▸ State.wr_frame (Covers.refl.sub rfl) State.Frame.refl
    exact wrote.trans frame

theorem vsrcFail_off (off : s.rd R.DSP_STAT_STATE = 0 ∨ s.rd R.DSP_STAT_STATE = 6) :
    ∃ t, exec .vsrcFail s = .next t ∧ s.Fields [(R.DSP_STAT_VSRC_OK, 0)] t ∧ s.Frame [.regs] t := by
  have state : (s.wr R.DSP_STAT_VSRC_OK 0).rd R.DSP_STAT_STATE = s.rd R.DSP_STAT_STATE := State.wr_rd_other s 0 (by decide)
  have idle : (s.wr R.DSP_STAT_VSRC_OK 0).rd R.DSP_STAT_STATE = 0 ∨ (s.wr R.DSP_STAT_VSRC_OK 0).rd R.DSP_STAT_STATE = 6 ∨
      (s.wr R.DSP_STAT_VSRC_OK 0).rd R.DSP_STAT_STATE = 5 := by
    rw [state]
    omega
  exact ⟨s.wr R.DSP_STAT_VSRC_OK 0, congrArg Host.Outcome.next (if_pos idle), wr_fields s _ 0,
    State.wr_frame (Covers.refl.sub rfl) State.Frame.refl⟩

/-! ### The end of a discharge (R365) -/

/-- A discharge that has ended, before the commands that waited are answered. -/
def State.discharged (s : State) (fault : Bool) : State :=
  (s.setDsp { s.dsp with
    disch := none, acc := [], hZero := true, trips := [], vghEn := false, vglEn := false, offCmds := [], resDue := true }).dspTo
    (if fault then 6 else 0)

theorem discharged_dsp (s : State) (fault : Bool) : (s.discharged fault).dsp = { s.dsp with
    disch := none, acc := [], hZero := true, trips := [], vghEn := false, vglEn := false, offCmds := [], resDue := true } := dspTo_dsp ..

theorem discharged_frame (s : State) (fault : Bool) : s.Frame [.regs, .spoke, .dsp] (s.discharged fault) :=
  State.dspTo_frame (Covers.refl.sub rfl) (State.Frame.refl.dsp (by decide))

theorem dischargeEnd_idle (idle : s.dsp.disch = none) : exec .dischargeEnd s = .next s := by
  show Host.Outcome.next s.dischargeEnd = _
  unfold State.dischargeEnd
  rw [idle]

theorem dischargeEnd_answers {d : Discharge} (running : s.dsp.disch = some d) (reset : s.dsp.rstDue = false) : s.dischargeEnd =
    (s.discharged d.fault).each s.dsp.offCmds fun s r => s.finish r (if d.fault then stFault else stOk) := by
  have kept : ((s.discharged d.fault).each s.dsp.offCmds fun s r => s.finish r (if d.fault then stFault else stOk)).dsp =
      (s.discharged d.fault).dsp := each_keeps (φ := State.dsp) (fun s r _ => State.finish_dsp ..) _
  unfold State.dischargeEnd
  rw [running]
  refine if_neg ?_
  show ¬((s.discharged d.fault).each s.dsp.offCmds _).dsp.rstDue = true
  rw [kept, discharged_dsp]
  exact (Bool.not_eq_true _).mpr reset

theorem dischargeEnd_ends {d : Discharge} (r : Ref) (running : s.dsp.disch = some d) (state : s.rd R.DSP_STAT_STATE = 5) (quiet : s.dsp.offCmds = [])
    (reset : s.dsp.rstDue = false) : ∃ t, exec .dischargeEnd s = .next t ∧ s.Fields [(R.DSP_STAT_STATE, if d.fault = true then 6 else 0)] t ∧
    t.dsp = { s.dsp with disch := none, acc := [], hZero := true, trips := [], vghEn := false, vglEn := false, resDue := true } ∧
    s.Raises 0x60 [1, BitVec.ofNat 8 (s.rd R.DSP_STAT_WHY), if d.fault = true then 6 else 0, 0] t ∧
    exec .dischargeEnd { s with dsp.offCmds := [r] } = .next (t.finish r (if d.fault = true then stFault else stOk)) ∧
    s.Frame [.regs, .spoke, .dsp] t := by
  obtain ⟨v, eq⟩ : ∃ v, v = s.setDsp { s.dsp with
    disch := none, acc := [], hZero := true, trips := [], vghEn := false, vglEn := false, offCmds := [], resDue := true } := ⟨_, rfl⟩
  have other : ∀ fault : Bool, v.rd R.DSP_STAT_STATE ≠ if fault then 6 else 0 := fun fault => by
    rw [eq, setDsp_rd, state]
    cases fault <;> decide
  have ended : s.discharged d.fault = v.dspTo (if d.fault then 6 else 0) := eq ▸ rfl
  have raised := dspTo_raises (s := s) (other d.fault) (eq ▸ rfl)
  rw [show v.rd R.DSP_STAT_WHY = s.rd R.DSP_STAT_WHY from eq ▸ rfl] at raised
  have payload : le 1 1 ++ le 1 (s.rd R.DSP_STAT_WHY) ++ le 2 (if d.fault then 6 else 0) =
      [1, BitVec.ofNat 8 (s.rd R.DSP_STAT_WHY), if d.fault = true then 6 else 0, 0] := by
    cases d.fault <;> rfl
  refine ⟨s.discharged d.fault, ?_, ?_, ?_, ?_, ?_, discharged_frame s _⟩
  · refine congrArg Host.Outcome.next ((dischargeEnd_answers running reset).trans ?_)
    rw [quiet]
    rfl
  · rw [ended]
    exact dspTo_after (State.Fields.refl.of_regs (eq ▸ rfl)) (other _)
  · rw [discharged_dsp]
    exact congrArg (fun l => { s.dsp with
      disch := none, acc := [], hZero := true, trips := [], vghEn := false, vglEn := false, resDue := true, offCmds := l }) quiet.symm
  · rw [ended, ← payload]
    exact raised
  · exact congrArg Host.Outcome.next (dischargeEnd_answers (s := { s with dsp.offCmds := [r] }) running reset)

/-! ### The reset at the end of a discharge (R367) -/

theorem clearAttrs_rd (l : List Nat) (s : State) (k : Nat) :
    (s.each l fun s i => s.clearAttr (0x6000 + i)).rd k = if ∃ i ∈ l, k / 1024 = 0x6000 + i then resetOf k else s.rd k := by
  induction l generalizing s with
  | nil => exact (if_neg (by simp)).symm
  | cons i l ih =>
    refine (ih (s.clearAttr (0x6000 + i))).trans ?_
    rw [rd_clearAttr]
    by_cases own : k / 1024 = 0x6000 + i
    · rw [if_pos own, ite_self, if_pos ⟨i, List.mem_cons_self, own⟩]
    · rw [if_neg own]
      refine if_congr ?_ rfl rfl
      simp only [List.mem_cons, exists_eq_or_imp, own, false_or]

theorem dspClear_rd {k : Nat} (panel : ∃ i ∈ List.range 9, k / 1024 = 0x6000 + i) (source : R.DSP_STAT_VSRC_OK ≠ k)
    (high : R.DSP_STAT_VGH_PG ≠ k) (low : R.DSP_STAT_VGL_PG ≠ k) : s.dspClear.rd k = resetOf k := by
  obtain ⟨v, hv⟩ : ∃ v, v = s.each (List.range 9) fun s i => s.clearAttr (0x6000 + i) := ⟨_, rfl⟩
  have cleared : v.rd k = resetOf k := by
    rw [hv, clearAttrs_rd]
    exact if_pos panel
  have kept : s.dspClear.rd k = (((v.wr R.DSP_STAT_VSRC_OK (s.rd R.DSP_STAT_VSRC_OK)).wr R.DSP_STAT_VGH_PG (s.rd R.DSP_STAT_VGH_PG)).wr
      R.DSP_STAT_VGL_PG (s.rd R.DSP_STAT_VGL_PG)).rd k := hv ▸ rfl
  rw [kept, State.wr_rd_other _ _ low, State.wr_rd_other _ _ high, State.wr_rd_other _ _ source, cleared]

theorem dischargeEnd_resets (running : s.dsp.disch ≠ none) (quiet : s.dsp.offCmds = []) (reset : s.dsp.rstDue = true) :
    ∃ t, exec .dischargeEnd s = .next t ∧ t.dsp.level = [] ∧ t.dsp.nxt = [] ∧ t.dsp.lantern = [] ∧ t.rd R.DSP_CFG_VCOM = 245 ∧
    t.rd R.DSP_CFG_POL_MODE = 1 ∧ t.rd R.DSP_STAT_STATE = 0 ∧ s.Frame [.regs, .spoke, .dsp] t := by
  obtain ⟨d, hd⟩ := Option.ne_none_iff_exists'.mp running
  have taken : s.dischargeEnd = (s.discharged d.fault).dspClear := by
    have due : (s.discharged d.fault).dsp.rstDue = true := by
      rw [discharged_dsp]
      exact reset
    unfold State.dischargeEnd
    rw [hd, quiet]
    exact if_pos due
  refine ⟨_, congrArg Host.Outcome.next taken, rfl, rfl, rfl, ?_, ?_, ?_, State.dspClear_frame (Covers.refl.sub rfl) (discharged_frame s _)⟩
  · exact (dspClear_rd ⟨1, by decide, by decide⟩ (by decide) (by decide) (by decide)).trans (by decide)
  · exact (dspClear_rd ⟨1, by decide, by decide⟩ (by decide) (by decide) (by decide)).trans (by decide)
  · exact (dspClear_rd ⟨0, by decide, by decide⟩ (by decide) (by decide) (by decide)).trans (by decide)

end Sys2Proof.Machine
end

section
/-!
PROOFS. The opcodes of block 0x60: what each one checks, and that it then joins queue 208 (R352, R369).
-/

namespace Sys2Proof.Machine

variable {s t u : State} {c : Cmd} {op status : Nat} {p : Bytes}

/-! ### Joining queue 208 (R352) -/

section

variable {i : Instr} {f : State → Ref → Bytes → State} {l : List (Bool × Nat)} {k : State → State}

/-- A panel command that passes its checks joins the queue and sends no reply yet. -/
theorem dsp_queued (ready : s.Ready c) (row : exec i s = .next (s.command c op f))
    (checks : f (s.begin c op).2 (s.refOf c op) c.payload = (s.begin c op).2.checked (s.refOf c op) l k)
    (places : k (s.begin c op).2 = (s.begin c op).2.dspPlace (s.refOf c op) c.payload) (pass : firstBad l = stOk)
    (room : s.dsp.queue.length < 32) : ∃ t, exec i s = .next t ∧ s.Holds c op t ∧
    t.dsp = { s.dsp with queue := s.dsp.queue ++ [⟨s.refOf c op, c.payload, 0⟩] } ∧ s.Frame [.spoke, .dsp] t := by
  have placed : s.command c op f =
      { (s.begin c op).2 with dsp.queue := (s.begin c op).2.dsp.queue ++ [⟨s.refOf c op, c.payload, 0⟩] } :=
    checks.trans ((checked_ok pass).trans (places.trans (if_pos room)))
  rw [placed] at row
  exact ⟨_, row, holds_of_begin ready rfl, rfl, (begin_frame_spoke.mono (Covers.refl.sub rfl)).dsp (by decide)⟩

/-- A panel command that finds the queue full ends with QUEUE_FULL. -/
theorem dsp_queueFull (ready : s.Ready c) (row : exec i s = .next (s.command c op f))
    (checks : f (s.begin c op).2 (s.refOf c op) c.payload = (s.begin c op).2.checked (s.refOf c op) l k)
    (places : k (s.begin c op).2 = (s.begin c op).2.dspPlace (s.refOf c op) c.payload) (pass : firstBad l = stOk)
    (full : 32 ≤ s.dsp.queue.length) : s.Refuses i c op stQueueFull := by
  have told : s.command c op f = (s.begin c op).2.finish (s.refOf c op) stQueueFull :=
    checks.trans ((checked_ok pass).trans (places.trans (if_neg (Nat.not_lt.mpr full))))
  rw [told] at row
  exact refuses_of_finish ready row

end

/-! ### DSP_POWER (R362, R363, R369) -/

/-- The checks of DSP_POWER. -/
def State.powerChecks (s : State) (p : Bytes) : List (Bool × Nat) :=
  [lengthIs p 1, param (decide (1 < u8 p 0)), permitted (!s.limp && !(u8 p 0 == 1 && s.rd R.DSP_STAT_STATE != 3 && s.onRefused))]

theorem dspPower_row (s : State) (c : Cmd) : exec (.dspPower c) s = .next (s.command c 0x60 State.doDspPower) := rfl

theorem doDspPower_checks (s : State) (c : Cmd) : (s.begin c 0x60).2.doDspPower (s.refOf c 0x60) c.payload =
    (s.begin c 0x60).2.checked (s.refOf c 0x60) (s.powerChecks c.payload)
      fun s' => (if u8 c.payload 0 = 0 then s'.consoleCloses else s').dspPlace (s.refOf c 0x60) c.payload := rfl

theorem consoleCloses_closed (closed : s.console.isOpen = false) : s.consoleCloses = s := if_neg (by rw [closed]; decide)

/-- With the console closed DSP_POWER only joins the queue. -/
theorem doDspPower_places (s : State) (c : Cmd) (closed : s.console.isOpen = false) :
    (if u8 c.payload 0 = 0 then (s.begin c 0x60).2.consoleCloses else (s.begin c 0x60).2).dspPlace (s.refOf c 0x60) c.payload =
    (s.begin c 0x60).2.dspPlace (s.refOf c 0x60) c.payload := by
  rw [consoleCloses_closed (s := (s.begin c 0x60).2) closed, ite_self]

theorem powerChecks_off (power : p = [0]) (calm : s.limp = false) : firstBad (s.powerChecks p) = stOk := by
  rw [power, State.powerChecks, calm]
  rfl

theorem powerChecks_on (power : p = [1]) (calm : s.limp = false) (allowed : s.rd R.DSP_STAT_STATE = 3 ∨ s.onRefused = false) :
    firstBad (s.powerChecks p) = stOk := by
  have free : (s.rd R.DSP_STAT_STATE != 3 && s.onRefused) = false := by
    rcases allowed with on | no
    · rw [on]
      rfl
    · rw [no, Bool.and_false]
  rw [power, State.powerChecks, calm, show u8 [1] 0 = 1 from rfl, Bool.and_assoc, free]
  rfl

theorem dspPower_queued (ready : s.Ready c) (calm : s.limp = false) (room : s.dsp.queue.length < 32) (closed : s.console.isOpen = false)
    (power : c.payload = [0] ∨ c.payload = [1] ∧ (s.rd R.DSP_STAT_STATE = 3 ∨ s.onRefused = false)) :
    ∃ t, exec (.dspPower c) s = .next t ∧ s.Holds c 0x60 t ∧
    t.dsp = { s.dsp with queue := s.dsp.queue ++ [⟨s.refOf c 0x60, c.payload, 0⟩] } ∧ s.Frame [.spoke, .dsp] t :=
  dsp_queued ready (dspPower_row s c) (doDspPower_checks s c) (doDspPower_places s c closed)
    (power.elim (powerChecks_off · calm) fun h => powerChecks_on h.1 calm h.2) room

/-- Whether DSP_POWER with ON = 1 is refused (Table 13-14). -/
theorem onRefused_of (refused : s.rd R.DSP_STAT_VSRC_OK ≠ 1 ∨ s.rd R.DSP_STAT_STATE = 4 ∨ s.rd R.DSP_STAT_STATE = 5 ∨
    s.rd R.PWR_STAT_PFSEQ = 1 ∨ s.rd R.PWR_STAT_MODE = 1) : s.onRefused = true := by
  unfold State.onRefused
  simp only [Bool.or_eq_true, Bool.not_eq_true', on_eq_false_iff, State.on_iff, beq_iff_eq, List.contains_eq_mem, List.mem_cons, List.not_mem_nil,
    or_false, decide_eq_true_eq]
  tauto

theorem dspPower_refused (ready : s.Ready c) : (c.payload.length ≠ 1 → s.Refuses (.dspPower c) c 0x60 stBadLength) ∧
    (c.payload.length = 1 → 1 < u8 c.payload 0 → s.Refuses (.dspPower c) c 0x60 stBadParam) ∧
    (c.payload = [1] → s.rd R.DSP_STAT_STATE ≠ 3 → s.rd R.DSP_STAT_VSRC_OK ≠ 1 ∨ s.rd R.DSP_STAT_STATE = 4 ∨ s.rd R.DSP_STAT_STATE = 5 ∨
      s.rd R.PWR_STAT_PFSEQ = 1 ∨ s.rd R.PWR_STAT_MODE = 1 → s.Refuses (.dspPower c) c 0x60 stNotPermitted) ∧
    (c.payload = [1] ∨ c.payload = [0] → s.limp = true → s.Refuses (.dspPower c) c 0x60 stNotPermitted) ∧
    (c.payload = [0] → s.limp = false → s.console.isOpen = false → 32 ≤ s.dsp.queue.length → s.Refuses (.dspPower c) c 0x60 stQueueFull) := by
  have refuses : ∀ {status}, firstBad (s.powerChecks c.payload) = status → status ≠ stOk → s.Refuses (.dspPower c) c 0x60 status := fun bad ne =>
    refuses_of_check ready (dspPower_row s c) ⟨_, doDspPower_checks s c⟩ bad ne
  refine ⟨fun len => refuses (firstBad_of_badLength len _) (by decide), fun len big => refuses (status := stBadParam) ?_ (by decide),
    fun power off why => refuses (status := stNotPermitted) ?_ (by decide), fun power limp => refuses (status := stNotPermitted) ?_ (by decide),
    fun power calm closed full => ?_⟩
  · rw [State.powerChecks, firstBad_of_length len, param, decide_eq_true big, firstBad_fail]
  · rw [power, State.powerChecks, onRefused_of why, bne_iff_ne.mpr off, Bool.and_true, Bool.and_true, show u8 [1] 0 = 1 from rfl]
    simp [lengthIs, param, permitted]
  · rw [State.powerChecks, limp]
    rcases power with h | h <;>
    · rw [h]
      rfl
  · exact dsp_queueFull ready (dspPower_row s c) (doDspPower_checks s c) (doDspPower_places s c closed) (powerChecks_off power calm) full

/-! ### The other opcodes (R352, R360, R369) -/

/-- The checks of DSP_WRITE. -/
def State.writeChecks (s : State) (r : Ref) (p : Bytes) : List (Bool × Nat) :=
  [(decide (p.length < 8) || decide (p.length ≠ 8 + 3 * (u16 p 4 * u16 p 6)), stBadLength), param (rectOutside p || pixelBad (p.drop 8)),
    permitted (!s.limp && s.panelFree r)]

/-- The checks of DSP_FILL. -/
def State.fillChecks (s : State) (r : Ref) (p : Bytes) : List (Bool × Nat) :=
  [lengthIs p 11, param (rectOutside p || pixelBad (p.drop 8)), permitted (!s.limp && s.panelFree r)]

/-- The checks of DSP_PRESENT. -/
def State.presentChecks (s : State) (r : Ref) (p : Bytes) : List (Bool × Nat) := [lengthIs p 0, permitted (!s.limp && s.panelFree r)]

/-- The checks of DSP_LW_WRITE. -/
def State.lwChecks (s : State) (p : Bytes) : List (Bool × Nat) :=
  [(decide (p.length < 5) || decide (p.length ≠ 5 + u16 p 3) || decide (u16 p 3 = 0 ∨ 320 < u16 p 3), stBadLength),
    param (decide (16 * (s.rd R.DSP_LW_HT + 1) ≤ u8 p 0 ∨ 16 * (s.rd R.DSP_LW_WT + 1) < u16 p 1 + u16 p 3) ||
      (p.drop 5).any fun x => decide (7 < x.toNat)),
    permitted (!s.limp)]

/-- The checks of DSP_MODE. -/
def State.modeChecks (s : State) (r : Ref) (p : Bytes) : List (Bool × Nat) :=
  [lengthIs p 1, param (decide (1 < u8 p 0)), permitted (!s.limp && s.rd R.PWR_STAT_MODE != 1 && s.panelFree r)]

/-- With the console closed every channel may draw. -/
theorem panelFree_closed (r : Ref) (closed : s.console.isOpen = false) : s.panelFree r = true := by
  unfold State.panelFree
  rw [closed]
  rfl

theorem writeChecks_ok (r : Ref) (calm : s.limp = false) (closed : s.console.isOpen = false) (long : 8 ≤ p.length)
    (len : p.length = 8 + 3 * (u16 p 4 * u16 p 6)) (rect : rectOutside p = false) (pixels : pixelBad (p.drop 8) = false) :
    firstBad (s.writeChecks r p) = stOk := by
  rw [State.writeChecks, calm, panelFree_closed r closed, rect, pixels, decide_eq_false (Nat.not_lt.mpr long), decide_eq_false (not_not.mpr len)]
  rfl

theorem fillChecks_ok (r : Ref) (calm : s.limp = false) (closed : s.console.isOpen = false) (len : p.length = 11) (rect : rectOutside p = false)
    (pixels : pixelBad (p.drop 8) = false) : firstBad (s.fillChecks r p) = stOk := by
  rw [State.fillChecks, firstBad_of_length len, calm, panelFree_closed r closed, rect, pixels]
  rfl

theorem presentChecks_ok (r : Ref) (calm : s.limp = false) (closed : s.console.isOpen = false) (empty : p = []) :
    firstBad (s.presentChecks r p) = stOk := by
  rw [State.presentChecks, empty, calm, panelFree_closed r closed]
  rfl

theorem lwChecks_ok (calm : s.limp = false) (long : 5 < p.length) (len : p.length = 5 + u16 p 3) (short : u16 p 3 ≤ 320)
    (line : u8 p 0 < 16 * (s.rd R.DSP_LW_HT + 1)) (column : u16 p 1 + u16 p 3 ≤ 16 * (s.rd R.DSP_LW_WT + 1))
    (levels : (p.drop 5).all (fun x => decide (x.toNat ≤ 7)) = true) : firstBad (s.lwChecks p) = stOk := by
  have small : ((p.drop 5).any fun x => decide (7 < x.toNat)) = false := by
    rw [List.any_eq_false]
    exact fun x hx => by simpa using List.all_eq_true.mp levels x hx
  have size : (decide (p.length < 5) || decide (p.length ≠ 5 + u16 p 3) || decide (u16 p 3 = 0 ∨ 320 < u16 p 3)) = false := by
    simp only [Bool.or_eq_false_iff, decide_eq_false_iff_not]
    omega
  rw [State.lwChecks, calm, small, size, decide_eq_false (by omega)]
  rfl

theorem modeChecks_ok (r : Ref) (calm : s.limp = false) (closed : s.console.isOpen = false) (mode : p = [0] ∨ p = [1])
    (run : s.rd R.PWR_STAT_MODE ≠ 1) : firstBad (s.modeChecks r p) = stOk := by
  rw [State.modeChecks, calm, panelFree_closed r closed, bne_iff_ne.mpr run]
  rcases mode with h | h <;>
  · rw [h]
    rfl

theorem dspDraw_queued {i : Instr} (ready : s.Ready c) (calm : s.limp = false) (room : s.dsp.queue.length < 32) (closed : s.console.isOpen = false)
    (drawn : (i, op) = (Instr.dspWrite c, 0x61) ∧ 8 ≤ c.payload.length ∧ c.payload.length = 8 + 3 * (u16 c.payload 4 * u16 c.payload 6) ∧
        rectOutside c.payload = false ∧ pixelBad (c.payload.drop 8) = false ∨
      (i, op) = (Instr.dspFill c, 0x62) ∧ c.payload.length = 11 ∧ rectOutside c.payload = false ∧ pixelBad (c.payload.drop 8) = false ∨
      (i, op) = (Instr.dspPresent c, 0x63) ∧ c.payload = [] ∨
      (i, op) = (Instr.dspLwWrite c, 0x64) ∧ 5 < c.payload.length ∧ c.payload.length = 5 + u16 c.payload 3 ∧ u16 c.payload 3 ≤ 320 ∧
        u8 c.payload 0 < 16 * (s.rd R.DSP_LW_HT + 1) ∧ u16 c.payload 1 + u16 c.payload 3 ≤ 16 * (s.rd R.DSP_LW_WT + 1) ∧
        (c.payload.drop 5).all (fun x => decide (x.toNat ≤ 7)) = true ∨
      (i, op) = (Instr.dspMode c, 0x65) ∧ (c.payload = [0] ∨ c.payload = [1]) ∧ s.rd R.PWR_STAT_MODE ≠ 1) :
    ∃ t, exec i s = .next t ∧ s.Holds c op t ∧
    t.dsp = { s.dsp with queue := s.dsp.queue ++ [⟨s.refOf c op, c.payload, 0⟩] } ∧ s.Frame [.spoke, .dsp] t := by
  rcases drawn with ⟨row, long, len, rect, pixels⟩ | ⟨row, len, rect, pixels⟩ | ⟨row, empty⟩ | ⟨row, long, len, short, line, column, levels⟩ |
    ⟨row, mode, run⟩ <;> obtain ⟨rfl, rfl⟩ := Prod.mk.inj row
  · exact dsp_queued (f := State.doDspWrite) ready rfl rfl rfl (writeChecks_ok (s.refOf c 0x61) calm closed long len rect pixels) room
  · exact dsp_queued (f := State.doDspFill) ready rfl rfl rfl (fillChecks_ok (s.refOf c 0x62) calm closed len rect pixels) room
  · exact dsp_queued (f := State.doDspPresent) ready rfl rfl rfl (presentChecks_ok (s.refOf c 0x63) calm closed empty) room
  · exact dsp_queued (f := State.doDspLwWrite) ready rfl rfl rfl (lwChecks_ok calm long len short line column levels) room
  · exact dsp_queued (f := State.doDspMode) ready rfl rfl rfl (modeChecks_ok (s.refOf c 0x65) calm closed mode run) room

/-- A rectangle outside the glass or a pixel byte above 63 is a wrong parameter. -/
theorem drawing_bad (bad : 320 < u16 p 0 + u16 p 4 ∨ 240 < u16 p 2 + u16 p 6 ∨ ∃ x ∈ p.drop 8, 63 < x.toNat) :
    (rectOutside p || pixelBad (p.drop 8)) = true := by
  unfold rectOutside pixelBad
  simp only [Bool.or_eq_true, decide_eq_true_eq, List.any_eq_true]
  tauto

theorem dspDraw_refused (ready : s.Ready c) :
    (c.payload.length < 8 ∨ c.payload.length ≠ 8 + 3 * (u16 c.payload 4 * u16 c.payload 6) → s.Refuses (.dspWrite c) c 0x61 stBadLength) ∧
    (8 ≤ c.payload.length → c.payload.length = 8 + 3 * (u16 c.payload 4 * u16 c.payload 6) → 320 < u16 c.payload 0 + u16 c.payload 4 ∨
      240 < u16 c.payload 2 + u16 c.payload 6 ∨ (∃ x ∈ c.payload.drop 8, 63 < x.toNat) → s.Refuses (.dspWrite c) c 0x61 stBadParam) ∧
    (c.payload.length ≠ 11 → s.Refuses (.dspFill c) c 0x62 stBadLength) ∧
    (c.payload.length = 11 → 320 < u16 c.payload 0 + u16 c.payload 4 ∨ 240 < u16 c.payload 2 + u16 c.payload 6 ∨
      (∃ x ∈ c.payload.drop 8, 63 < x.toNat) → s.Refuses (.dspFill c) c 0x62 stBadParam) ∧
    (c.payload ≠ [] → s.Refuses (.dspPresent c) c 0x63 stBadLength) ∧
    (c.payload.length ≠ 5 + u16 c.payload 3 ∨ u16 c.payload 3 = 0 ∨ 320 < u16 c.payload 3 → s.Refuses (.dspLwWrite c) c 0x64 stBadLength) ∧
    (5 < c.payload.length → c.payload.length = 5 + u16 c.payload 3 → u16 c.payload 3 ≤ 320 → 16 * (s.rd R.DSP_LW_HT + 1) ≤ u8 c.payload 0 ∨
      (∃ x ∈ c.payload.drop 5, 7 < x.toNat) → s.Refuses (.dspLwWrite c) c 0x64 stBadParam) ∧
    (c.payload.length = 1 → 1 < u8 c.payload 0 → s.Refuses (.dspMode c) c 0x65 stBadParam) ∧
    (c.payload = [0] ∨ c.payload = [1] → s.limp = true ∨ s.rd R.PWR_STAT_MODE = 1 → s.Refuses (.dspMode c) c 0x65 stNotPermitted) ∧
    (c.payload = [] → s.limp = true → s.Refuses (.dspPresent c) c 0x63 stNotPermitted) ∧
    (c.payload = [] → s.limp = false → s.console.isOpen = false → 32 ≤ s.dsp.queue.length → s.Refuses (.dspPresent c) c 0x63 stQueueFull) := by
  have write : ∀ {status}, firstBad (s.writeChecks (s.refOf c 0x61) c.payload) = status → status ≠ stOk → s.Refuses (.dspWrite c) c 0x61 status :=
    fun bad ne => refuses_of_check (f := State.doDspWrite) ready rfl ⟨_, rfl⟩ bad ne
  have fill : ∀ {status}, firstBad (s.fillChecks (s.refOf c 0x62) c.payload) = status → status ≠ stOk → s.Refuses (.dspFill c) c 0x62 status :=
    fun bad ne => refuses_of_check (f := State.doDspFill) ready rfl ⟨_, rfl⟩ bad ne
  have present : ∀ {status}, firstBad (s.presentChecks (s.refOf c 0x63) c.payload) = status → status ≠ stOk →
      s.Refuses (.dspPresent c) c 0x63 status := fun bad ne => refuses_of_check (f := State.doDspPresent) ready rfl ⟨_, rfl⟩ bad ne
  have lw : ∀ {status}, firstBad (s.lwChecks c.payload) = status → status ≠ stOk → s.Refuses (.dspLwWrite c) c 0x64 status :=
    fun bad ne => refuses_of_check (f := State.doDspLwWrite) ready rfl ⟨_, rfl⟩ bad ne
  have mode : ∀ {status}, firstBad (s.modeChecks (s.refOf c 0x65) c.payload) = status → status ≠ stOk → s.Refuses (.dspMode c) c 0x65 status :=
    fun bad ne => refuses_of_check (f := State.doDspMode) ready rfl ⟨_, rfl⟩ bad ne
  refine ⟨fun len => write (status := stBadLength) ?_ (by decide), fun long len bad => write (status := stBadParam) ?_ (by decide),
    fun len => fill (firstBad_of_badLength len _) (by decide), fun len bad => fill (status := stBadParam) ?_ (by decide),
    fun some_ => present (firstBad_of_badLength (fun len => some_ (List.length_eq_zero_iff.mp len)) _) (by decide),
    fun len => lw (status := stBadLength) ?_ (by decide), fun long len short bad => lw (status := stBadParam) ?_ (by decide),
    fun len big => mode (status := stBadParam) ?_ (by decide), fun known no => mode (status := stNotPermitted) ?_ (by decide),
    fun empty limp => present (status := stNotPermitted) ?_ (by decide), fun empty calm closed full => ?_⟩
  · have bad : (decide (c.payload.length < 8) || decide (c.payload.length ≠ 8 + 3 * (u16 c.payload 4 * u16 c.payload 6))) = true := by
      simpa only [Bool.or_eq_true, decide_eq_true_eq] using len
    rw [State.writeChecks, bad, firstBad_fail]
  · rw [State.writeChecks, decide_eq_false (Nat.not_lt.mpr long), decide_eq_false (not_not.mpr len), drawing_bad bad]
    rfl
  · rw [State.fillChecks, firstBad_of_length len, drawing_bad bad]
    rfl
  · have bad : (decide (c.payload.length < 5) || decide (c.payload.length ≠ 5 + u16 c.payload 3) ||
        decide (u16 c.payload 3 = 0 ∨ 320 < u16 c.payload 3)) = true := by
      simp only [Bool.or_eq_true, decide_eq_true_eq]
      tauto
    rw [State.lwChecks, bad, firstBad_fail]
  · have size : (decide (c.payload.length < 5) || decide (c.payload.length ≠ 5 + u16 c.payload 3) ||
        decide (u16 c.payload 3 = 0 ∨ 320 < u16 c.payload 3)) = false := by
      simp only [Bool.or_eq_false_iff, decide_eq_false_iff_not]
      omega
    have wrong : (decide (16 * (s.rd R.DSP_LW_HT + 1) ≤ u8 c.payload 0 ∨ 16 * (s.rd R.DSP_LW_WT + 1) < u16 c.payload 1 + u16 c.payload 3) ||
        (c.payload.drop 5).any fun x => decide (7 < x.toNat)) = true := by
      simp only [Bool.or_eq_true, decide_eq_true_eq, List.any_eq_true]
      tauto
    rw [State.lwChecks, size, wrong]
    rfl
  · rw [State.modeChecks, firstBad_of_length len, param, decide_eq_true big, firstBad_fail]
  · have off : (!s.limp && s.rd R.PWR_STAT_MODE != 1) = false := by
      rcases no with h | h <;> simp [h]
    rw [State.modeChecks, off]
    rcases known with h | h <;>
    · rw [h]
      rfl
  · rw [State.presentChecks, empty, limp]
    rfl
  · exact dsp_queueFull (f := State.doDspPresent) ready rfl rfl rfl (presentChecks_ok (s.refOf c 0x63) calm closed empty) full

end Sys2Proof.Machine
end

section
/-!
PROOFS. DSP_SVC works through queue 208: pixels, the Lantern memory, presents, modes and power (R352, R353, R360, R362, R363).
-/

namespace Sys2Proof.Machine

variable {s t u : State} {n budget : Nat} {q : DspReq} {rest : List DspReq} {r : Ref} {p : Bytes}

/-! ### The loop over the queue (R352) -/

theorem dspRun_quiet (due : s.dsp.onDue = false) (answered : s.dsp.presenting = true ∨ s.dsp.shown = []) : s.dspRun = dspLoop 33 8192 s := by
  unfold State.dspRun
  rw [due]
  refine congrArg (dspLoop 33 8192) ?_
  rcases answered with presenting | none_
  · exact if_pos presenting
  · have same : ({ s with dsp.shown := [] } : State) = s := congrArg (fun l => ({ s with dsp.shown := l } : State)) none_.symm
    show (if s.dsp.presenting = true then s else ({ s with dsp.shown := [] } : State).each s.dsp.shown _) = s
    rw [none_, same]
    exact ite_self s

theorem dspLoop_empty (empty : s.dsp.queue = []) : dspLoop n budget s = s := by
  unfold dspLoop
  rw [empty]
  cases n <;> rfl

theorem dspLoop_waits (queue : s.dsp.queue = q :: rest) (waits : s.dspWaits q.cmd.op = true) : dspLoop (n + 1) budget s = s := by
  unfold dspLoop
  rw [queue]
  exact if_pos waits

/-- A command other than a DSP_FILL is applied when the budget pays for it. -/
theorem dspLoop_applies (queue : s.dsp.queue = q :: rest) (ready : s.dspWaits q.cmd.op = false) (whole : q.cmd.op ≠ 0x62)
    (paid : dspCost q.cmd.op q.payload ≤ budget) : dspLoop (n + 1) budget s =
    dspLoop n (budget - dspCost q.cmd.op q.payload) (({ s with dsp.queue := rest } : State).applyDsp q) := by
  rw [dspLoop.eq_def, queue]
  dsimp only
  rw [if_neg (by rw [ready]; decide), if_neg whole, if_neg (Nat.not_lt.mpr paid)]

/-- A DSP_FILL that one run can finish. -/
theorem dspLoop_fills (queue : s.dsp.queue = q :: rest) (ready : s.dspWaits q.cmd.op = false) (fill : q.cmd.op = 0x62) (fresh : q.done = 0)
    (paid : 64 ≤ budget) (short : u16 q.payload 4 * u16 q.payload 6 ≤ 4 * (budget - 64)) : ∃ left, dspLoop (n + 1) budget s =
    dspLoop n left (({ s.applyFill q (u16 q.payload 4 * u16 q.payload 6) with dsp.queue := rest } : State).ok q.cmd) := by
  rw [dspLoop.eq_def, queue]
  dsimp only
  rw [if_neg (by rw [ready]; decide), if_pos fill, if_neg (by omega), fresh, if_pos rfl, Nat.sub_zero, Nat.min_eq_left short, Nat.zero_add,
    if_pos le_rfl]
  exact ⟨_, rfl⟩

/-- One command alone in the queue, applied in one run. -/
theorem dspRun_one (queue : s.dsp.queue = [q]) (due : s.dsp.onDue = false) (answered : s.dsp.presenting = true ∨ s.dsp.shown = [])
    (ready : s.dspWaits q.cmd.op = false) (whole : q.cmd.op ≠ 0x62) (paid : dspCost q.cmd.op q.payload ≤ 8192)
    (taken : (({ s with dsp.queue := [] } : State).applyDsp q).dsp.queue = []) :
    s.dspRun = ({ s with dsp.queue := [] } : State).applyDsp q := by
  rw [dspRun_quiet due answered, dspLoop_applies queue ready whole paid, dspLoop_empty taken]

theorem dspWaits_free {op : Nat} (still : s.dsp.presenting = false) (other : op ≠ 0x64) : s.dspWaits op = false := by
  unfold State.dspWaits
  rw [still, beq_eq_false_iff_ne.mpr other]
  rfl

/-- Commands that are neither pixels nor Lantern memory never wait. -/
theorem dspWaits_other {op : Nat} (write : op ≠ 0x61) (fill : op ≠ 0x62) (lw : op ≠ 0x64) : s.dspWaits op = false := by
  unfold State.dspWaits
  rw [beq_eq_false_iff_ne.mpr write, beq_eq_false_iff_ne.mpr fill, beq_eq_false_iff_ne.mpr lw, Bool.or_self, Bool.and_false]
  rfl

theorem dspRun_waits (queue : s.dsp.queue = ⟨r, p, 0⟩ :: rest)
    (waits : s.dsp.presenting = true ∧ (r.op = 0x61 ∨ r.op = 0x62) ∨ r.op = 0x64 ∧ s.lap = 0) (due : s.dsp.onDue = false)
    (answered : s.dsp.presenting = true ∨ s.dsp.shown = []) : s.dspRun = s := by
  have waiting : s.dspWaits r.op = true := by
    unfold State.dspWaits
    rcases waits with ⟨presenting, write | fill⟩ | ⟨lw, zero⟩
    · rw [presenting, write]
      rfl
    · rw [presenting, fill]
      rfl
    · rw [lw, zero, Bool.or_eq_true]
      exact Or.inr rfl
  rw [dspRun_quiet due answered]
  exact dspLoop_waits queue waiting

/-! ### Pixels (R351, R352) -/

theorem u8_sub (b : Bytes) (off : Nat) {len c : Nat} (h : c < len) : u8 (sub b off len) c = u8 b (off + c) := by
  unfold u8 sub
  rw [List.drop_take, List.drop_drop, List.take_take, Nat.min_eq_left (by omega)]

/-- A pixel writes its three subpixels and no other. -/
theorem putPixel_get (m : Map Nat) (pixel : Nat) (rgb : Bytes) (i : Nat) :
    mget 0 (putPixel m pixel rgb) i = if i / 3 = pixel then u8 rgb (i % 3) else mget 0 m i := by
  show mget 0 (mput 0 (mput 0 (mput 0 m (3 * pixel + 0) (u8 rgb 0)) (3 * pixel + 1) (u8 rgb 1)) (3 * pixel + 2) (u8 rgb 2)) i = _
  rw [mget_mput, mget_mput, mget_mput]
  by_cases own : i / 3 = pixel
  · rw [if_pos own]
    have third : i % 3 = 0 ∨ i % 3 = 1 ∨ i % 3 = 2 := by omega
    rcases third with h | h | h
    · rw [if_neg (by omega), if_neg (by omega), if_pos (by omega), h]
    · rw [if_neg (by omega), if_pos (by omega), h]
    · rw [if_pos (by omega), h]
  · rw [if_neg own, if_neg (by omega), if_neg (by omega), if_neg (by omega)]

/-- The pixels of a rectangle, written in order; `rgb` gives the bytes of pixel k. -/
def drawn (m : Map Nat) (p : Bytes) (rgb : Nat → Bytes) : Map Nat :=
  (List.range (u16 p 4 * u16 p 6)).foldl (fun m k => putPixel m (rectPixel p k) (rgb k)) m

theorem drawn_inside {a b c : Nat} (rgb : Nat → Bytes) (fits : u16 p 0 + u16 p 4 ≤ 320) (column : a < u16 p 4) (line : b < u16 p 6) (third : c < 3)
    (m : Map Nat) : mget 0 (drawn m p rgb) (subpixel (u16 p 0 + a) (u16 p 2 + b) c) = u8 (rgb (u16 p 4 * b + a)) c := by
  have wide : 0 < u16 p 4 := by omega
  have row : (u16 p 4 * b + a) / u16 p 4 = b := by
    rw [Nat.mul_add_div wide, Nat.div_eq_of_lt column, Nat.add_zero]
  have place : rectPixel p (u16 p 4 * b + a) = 320 * (u16 p 2 + b) + (u16 p 0 + a) := by
    unfold rectPixel
    rw [row, Nat.mul_add_mod, Nat.mod_eq_of_lt column, Nat.add_assoc]
  have pixel : subpixel (u16 p 0 + a) (u16 p 2 + b) c / 3 = rectPixel p (u16 p 4 * b + a) := by
    unfold subpixel
    omega
  have colour : subpixel (u16 p 0 + a) (u16 p 2 + b) c % 3 = c := by
    unfold subpixel
    omega
  refine foldl_once (φ := fun m : Map Nat => mget 0 m (subpixel (u16 p 0 + a) (u16 p 2 + b) c)) (G := fun _ => u8 (rgb (u16 p 4 * b + a)) c)
    (a := u16 p 4 * b + a) (fun m => ?_) (fun m k _ other => ?_) List.nodup_range (List.mem_range.mpr ?_) m
  · rw [putPixel_get, if_pos pixel, colour]
  · rw [putPixel_get, if_neg]
    rw [pixel, place]
    intro same
    have inside := Nat.mod_lt k wide
    unfold rectPixel at same
    have whole := Nat.div_add_mod k (u16 p 4)
    generalize k / u16 p 4 = line at same whole
    generalize k % u16 p 4 = column at same whole inside
    obtain ⟨rfl, rfl⟩ : line = b ∧ column = a := by omega
    exact other whole.symm
  · calc u16 p 4 * b + a < u16 p 4 * b + u16 p 4 := by omega
      _ = u16 p 4 * (b + 1) := (Nat.mul_succ ..).symm
      _ ≤ u16 p 4 * u16 p 6 := Nat.mul_le_mul_left _ line

theorem drawn_outside {a b c : Nat} (rgb : Nat → Bytes) (fits : u16 p 0 + u16 p 4 ≤ 320) (glass : a < 320) (third : c < 3)
    (outside : a < u16 p 0 ∨ u16 p 0 + u16 p 4 ≤ a ∨ b < u16 p 2 ∨ u16 p 2 + u16 p 6 ≤ b) (m : Map Nat) :
    mget 0 (drawn m p rgb) (subpixel a b c) = mget 0 m (subpixel a b c) := by
  refine foldl_keeps (φ := fun m : Map Nat => mget 0 m (subpixel a b c)) (fun m k hk => ?_) m
  have count := List.mem_range.mp hk
  have wide : 0 < u16 p 4 := Nat.pos_of_ne_zero fun zero => by
    rw [zero, Nat.zero_mul] at count
    omega
  have inside := Nat.mod_lt k wide
  have row : k / u16 p 4 < u16 p 6 := Nat.div_lt_of_lt_mul count
  rw [putPixel_get, if_neg]
  unfold subpixel rectPixel
  generalize k / u16 p 4 = line at row ⊢
  generalize k % u16 p 4 = column at inside ⊢
  omega

/-- DSP_WRITE fills its rectangle of NEXT and ends with OK. -/
theorem dspRun_write {x y w h : Nat} (queue : s.dsp.queue = [⟨r, p, 0⟩]) (op : r.op = 0x61) (hx : x = u16 p 0) (hy : y = u16 p 2)
    (hw : w = u16 p 4) (hh : h = u16 p 6) (len : p.length = 8 + 3 * (w * h)) (fits : x + w ≤ 320) (short : w * h ≤ 1362)
    (due : s.dsp.onDue = false) (none_ : s.dsp.shown = []) (still : s.dsp.presenting = false) :
    (∀ a b c, a < w → b < h → c < 3 → mget 0 s.dspRun.dsp.nxt (subpixel (x + a) (y + b) c) = u8 p (8 + 3 * (w * b + a) + c)) ∧
    (∀ a b c, a < 320 → c < 3 → a < x ∨ x + w ≤ a ∨ b < y ∨ y + h ≤ b →
      mget 0 s.dspRun.dsp.nxt (subpixel a b c) = mget 0 s.dsp.nxt (subpixel a b c)) ∧
    s.dspRun = { s with dsp.nxt := s.dspRun.dsp.nxt, dsp.queue := [] }.ok r := by
  subst hx hy hw hh
  obtain ⟨m, hm⟩ : ∃ m, m = drawn s.dsp.nxt p fun k => sub p (8 + 3 * k) 3 := ⟨_, rfl⟩
  have applied : ({ s with dsp.queue := [] } : State).applyDsp ⟨r, p, 0⟩ = ({ s with dsp.nxt := m, dsp.queue := [] } : State).ok r := by
    unfold State.applyDsp
    rw [show (⟨r, p, 0⟩ : DspReq).cmd.op = 0x61 from op, hm]
    rfl
  have cost : dspCost r.op p ≤ 8192 := by
    rw [op]
    show 64 + 2 * ((p.length - 8) / 3) ≤ 8192
    omega
  have ran : s.dspRun = ({ s with dsp.nxt := m, dsp.queue := [] } : State).ok r :=
    (dspRun_one queue due (Or.inr none_) (dspWaits_free still (by rw [op]; decide)) (by rw [op]; decide) cost
      (by rw [applied]; exact congrArg Dsp.queue (State.finish_dsp ..))).trans applied
  have nxt : s.dspRun.dsp.nxt = m := by
    rw [ran]
    exact congrArg Dsp.nxt (State.finish_dsp ..)
  rw [nxt]
  refine ⟨fun a b c column line third => ?_, fun a b c glass third outside => ?_, ran⟩
  · rw [hm, drawn_inside _ fits column line third, u8_sub _ _ third]
  · rw [hm, drawn_outside _ fits glass third outside]

/-- DSP_FILL gives its rectangle of NEXT one colour and ends with OK. -/
theorem dspRun_fill {x y w h : Nat} (queue : s.dsp.queue = [⟨r, p, 0⟩]) (op : r.op = 0x62) (hx : x = u16 p 0) (hy : y = u16 p 2)
    (hw : w = u16 p 4) (hh : h = u16 p 6) (fits : x + w ≤ 320) (short : w * h ≤ 32512)
    (due : s.dsp.onDue = false) (none_ : s.dsp.shown = []) (still : s.dsp.presenting = false) :
    (∀ a b c, a < w → b < h → c < 3 → mget 0 s.dspRun.dsp.nxt (subpixel (x + a) (y + b) c) = u8 p (8 + c)) ∧
    (∀ a b c, a < 320 → c < 3 → a < x ∨ x + w ≤ a ∨ b < y ∨ y + h ≤ b →
      mget 0 s.dspRun.dsp.nxt (subpixel a b c) = mget 0 s.dsp.nxt (subpixel a b c)) ∧
    s.dspRun = { s with dsp.nxt := s.dspRun.dsp.nxt, dsp.queue := [] }.ok r := by
  subst hx hy hw hh
  obtain ⟨m, hm⟩ : ∃ m, m = drawn s.dsp.nxt p fun _ => sub p 8 3 := ⟨_, rfl⟩
  have filled : s.applyFill ⟨r, p, 0⟩ (u16 p 4 * u16 p 6) = { s with dsp.nxt := m } := by
    unfold State.applyFill
    rw [hm]
    unfold drawn
    refine congrArg (fun m => ({ s with dsp.nxt := m } : State)) (congrArg (fun f => (List.range (u16 p 4 * u16 p 6)).foldl f s.dsp.nxt) ?_)
    exact funext₂ fun m k => congrArg (fun j => putPixel m (rectPixel p j) (sub p 8 3)) (Nat.zero_add k)
  obtain ⟨left, looped⟩ := dspLoop_fills (n := 32) (budget := 8192) queue (dspWaits_free still (by rw [op]; decide)) op rfl (by decide) short
  have ran : s.dspRun = ({ s with dsp.nxt := m, dsp.queue := [] } : State).ok r := by
    rw [dspRun_quiet due (Or.inr none_), looped]
    show dspLoop 32 left (({ s.applyFill ⟨r, p, 0⟩ (u16 p 4 * u16 p 6) with dsp.queue := [] } : State).ok r) = _
    rw [filled]
    exact dspLoop_empty (congrArg Dsp.queue (State.finish_dsp ..))
  have nxt : s.dspRun.dsp.nxt = m := by
    rw [ran]
    exact congrArg Dsp.nxt (State.finish_dsp ..)
  rw [nxt]
  refine ⟨fun a b c column line third => ?_, fun a b c glass third outside => ?_, ran⟩
  · rw [hm, drawn_inside _ fits column line third, u8_sub _ _ third]
  · rw [hm, drawn_outside _ fits glass third outside]

/-! ### The Lantern memory (R360) -/

theorem dspRun_lw (queue : s.dsp.queue = [⟨r, p, 0⟩]) (op : r.op = 0x64) (later : s.lap ≠ 0) (len : p.length = 5 + u16 p 3) (short : u16 p 3 ≤ 320)
    (due : s.dsp.onDue = false) (none_ : s.dsp.shown = []) (still : s.dsp.presenting = false) :
    (∀ k, k < u16 p 3 → mget 0 s.dspRun.dsp.lantern (320 * u8 p 0 + u16 p 1 + k) = u8 p (5 + k)) ∧
    s.dspRun = { s with dsp.lantern := s.dspRun.dsp.lantern, dsp.queue := [] }.ok r := by
  obtain ⟨m, hm⟩ : ∃ m, m = (List.range (u16 p 3)).foldl (fun m k => mput 0 m (320 * u8 p 0 + u16 p 1 + k) (u8 p (5 + k))) s.dsp.lantern := ⟨_, rfl⟩
  have applied : ({ s with dsp.queue := [] } : State).applyDsp ⟨r, p, 0⟩ = ({ s with dsp.lantern := m, dsp.queue := [] } : State).ok r := by
    unfold State.applyDsp
    rw [show (⟨r, p, 0⟩ : DspReq).cmd.op = 0x64 from op, hm]
    rfl
  have cost : dspCost r.op p ≤ 8192 := by
    rw [op]
    show 64 + (p.length - 5) ≤ 8192
    omega
  have free : s.dspWaits r.op = false := by
    unfold State.dspWaits
    rw [still, beq_eq_false_iff_ne.mpr later, Bool.and_false]
    rfl
  have ran : s.dspRun = ({ s with dsp.lantern := m, dsp.queue := [] } : State).ok r :=
    (dspRun_one queue due (Or.inr none_) free (by rw [op]; decide) cost
      (by rw [applied]; exact congrArg Dsp.queue (State.finish_dsp ..))).trans applied
  have lantern : s.dspRun.dsp.lantern = m := by
    rw [ran]
    exact congrArg Dsp.lantern (State.finish_dsp ..)
  rw [lantern]
  refine ⟨fun k hk => ?_, ran⟩
  rw [hm]
  refine foldl_once (φ := fun m : Map Nat => mget 0 m (320 * u8 p 0 + u16 p 1 + k)) (G := fun _ => u8 p (5 + k)) (a := k) (fun m => ?_) (fun m j _ other => ?_)
    List.nodup_range (List.mem_range.mpr hk) s.dsp.lantern
  · rw [mget_mput, if_pos rfl]
  · rw [mget_mput, if_neg (by omega)]

/-! ### Presents, modes and power (R353, R360, R362, R363) -/

theorem accepted_setDsp (s : State) (d : Dsp) (r : Ref) : (s.setDsp d).accepted r = (s.accepted r).setDsp d := by
  unfold State.accepted
  rw [apply_ite (fun s : State => s.setDsp d)]
  rfl

theorem dspRun_present (queue : s.dsp.queue = [⟨r, p, 0⟩]) (op : r.op = 0x63) (due : s.dsp.onDue = false) (none_ : s.dsp.shown = []) :
    s.dspRun = { (s.accepted r).wr R.DSP_STAT_PRES_PEND 1 with dsp.queue := [], dsp.presents := s.dsp.presents ++ [r] } := by
  have kept : (s.accepted r).dsp = s.dsp := State.accepted_dsp ..
  have applied : ({ s with dsp.queue := [] } : State).applyDsp ⟨r, p, 0⟩ =
      ((s.accepted r).wr R.DSP_STAT_PRES_PEND 1).setDsp { s.dsp with queue := [], presents := s.dsp.presents ++ [r] } := by
    have taken := accepted_setDsp s { s.dsp with queue := [] } r
    unfold State.applyDsp
    rw [show (⟨r, p, 0⟩ : DspReq).cmd.op = 0x63 from op]
    show ((({ s with dsp.queue := [] } : State).accepted r).wr R.DSP_STAT_PRES_PEND 1).setDsp
      { (({ s with dsp.queue := [] } : State).accepted r).dsp with presents := s.dsp.presents ++ [r] } = _
    rw [show ({ s with dsp.queue := [] } : State) = s.setDsp { s.dsp with queue := [] } from rfl, taken]
    rfl
  rw [dspRun_one queue due (Or.inr none_) (by rw [op]; exact dspWaits_other (by decide) (by decide) (by decide)) (by rw [op]; decide)
    (by rw [op]; exact (by decide : 64 ≤ 8192)) (by rw [applied]; rfl), applied]
  show _ = ((s.accepted r).wr R.DSP_STAT_PRES_PEND 1).setDsp { (s.accepted r).dsp with queue := [], presents := s.dsp.presents ++ [r] }
  rw [kept]

theorem dspRun_mode (queue : s.dsp.queue = [⟨r, p, 0⟩]) (op : r.op = 0x65) (due : s.dsp.onDue = false) (none_ : s.dsp.shown = []) :
    s.dspRun = { s with
      dsp.queue := [], dsp.mode := u8 p 0 == 1, dsp.modeDue := some (u8 p 0 == 1), dsp.modeCmds := s.dsp.modeCmds ++ [r] } := by
  have applied : ({ s with dsp.queue := [] } : State).applyDsp ⟨r, p, 0⟩ = { s with
      dsp.queue := [], dsp.mode := u8 p 0 == 1, dsp.modeDue := some (u8 p 0 == 1), dsp.modeCmds := s.dsp.modeCmds ++ [r] } := by
    unfold State.applyDsp
    rw [show (⟨r, p, 0⟩ : DspReq).cmd.op = 0x65 from op]
    rfl
  rw [dspRun_one queue due (Or.inr none_) (by rw [op]; exact dspWaits_other (by decide) (by decide) (by decide)) (by rw [op]; decide)
    (by rw [op]; exact (by decide : 64 ≤ 8192)) (by rw [applied]), applied]

end Sys2Proof.Machine
end

section
/-!
PROOFS. DSP_POWER is applied (R362, R363), and the writes of the gamma ladders (R347, R357). Settles O53.
-/

namespace Sys2Proof.Machine

variable {s t u : State} {r : Ref} {p : Bytes}

/-! ### DSP_POWER is applied (R362, R363) -/

theorem orderlyOff_of_on (why : Nat) (on : s.rd R.DSP_STAT_STATE = 3) : s.orderlyOff why = { s with dsp.off := some (s.dsp.off.getD why) } := by
  unfold State.orderlyOff
  rw [on]
  rfl

theorem dspRun_powerOff (queue : s.dsp.queue = [⟨r, [0], 0⟩]) (op : r.op = 0x60) (due : s.dsp.onDue = false) (none_ : s.dsp.shown = [])
    (on : s.rd R.DSP_STAT_STATE = 3) (off : s.dsp.off = none) :
    s.dspRun = { s.accepted r with dsp.queue := [], dsp.off := some 1, dsp.offCmds := s.dsp.offCmds ++ [r] } := by
  obtain ⟨v, hv⟩ : ∃ v : State, v = s.setDsp { s.dsp with queue := [] } := ⟨_, rfl⟩
  have kept : (s.accepted r).dsp = s.dsp := State.accepted_dsp ..
  have lit : v.accepted r = (s.accepted r).setDsp { s.dsp with queue := [] } := hv ▸ accepted_setDsp ..
  have state : v.rd R.DSP_STAT_STATE = 3 := hv ▸ on
  have asked : (v.accepted r).orderlyOff 1 = (s.accepted r).setDsp { s.dsp with queue := [], off := some 1 } := by
    rw [orderlyOff_of_on 1 (by rw [State.accepted_rd]; exact state), lit]
    show (s.accepted r).setDsp { s.dsp with queue := [], off := some (s.dsp.off.getD 1) } = _
    rw [off]
    rfl
  have applied : v.applyDsp ⟨r, [0], 0⟩ = (s.accepted r).setDsp { s.dsp with queue := [], off := some 1, offCmds := s.dsp.offCmds ++ [r] } := by
    have taken : v.applyOff r = { (v.accepted r).orderlyOff 1 with dsp.offCmds := v.dsp.offCmds ++ [r] } := by
      unfold State.applyOff
      dsimp only
      rw [state]
      rfl
    unfold State.applyDsp
    rw [show (⟨r, [0], 0⟩ : DspReq).cmd.op = 0x60 from op]
    refine Eq.trans taken ?_
    rw [asked, hv]
    rfl
  have cleared : ({ s with dsp.queue := [] } : State) = v := hv.symm
  rw [dspRun_one queue due (Or.inr none_) (by rw [op]; exact dspWaits_other (by decide) (by decide) (by decide)) (by rw [op]; decide)
    (by rw [op]; exact (by decide : 64 ≤ 8192)) (by rw [cleared, applied]; rfl), cleared, applied]
  show _ = (s.accepted r).setDsp { (s.accepted r).dsp with queue := [], off := some 1, offCmds := s.dsp.offCmds ++ [r] }
  rw [kept]

/-- A power-on that has been accepted. -/
def State.powering (s : State) (r : Ref) : State := { s.accepted r with dsp.onCmds := s.dsp.onCmds ++ [r] }

theorem powering_rd (s : State) (r : Ref) (k : Nat) : (s.powering r).rd k = s.rd k := State.accepted_rd ..

/-- A panel that is off asks for its reserve in STATE 1. -/
theorem powerAsk_of_off (off : s.rd R.DSP_STAT_STATE = 0) : (if s.rd R.DSP_STAT_STATE = 1 ∨ s.rd R.DSP_STAT_STATE = 2 then s
    else (s.dspTo 1).escAsk 0 (s.rd R.PWR_CLASS_RES_A) .panel) = (s.dspTo 1).escAsk 0 (s.rd R.PWR_CLASS_RES_A) .panel := if_neg (by omega)

theorem applyOn_asks (off : s.rd R.DSP_STAT_STATE = 0) (free : s.onRefused = false) : s.applyOn r =
    ((s.powering r).dspTo 1).escAsk 0 ((s.powering r).rd R.PWR_CLASS_RES_A) .panel := by
  unfold State.applyOn
  rw [if_neg (by rw [off]; decide), free, if_neg Bool.false_ne_true]
  exact powerAsk_of_off (s := s.powering r) ((powering_rd ..).trans off)

theorem dspRun_powerOn (queue : s.dsp.queue = [⟨r, [1], 0⟩]) (op : r.op = 0x60) (due : s.dsp.onDue = false) (none_ : s.dsp.shown = [])
    (off : s.rd R.DSP_STAT_STATE = 0) (free : s.onRefused = false) : s.dspRun.rd R.DSP_STAT_STATE = 1 ∧
    s.dspRun.pwr.wait = s.pwr.wait ++ [⟨0, s.rd R.PWR_CLASS_RES_A, .panel, s.ticks⟩] ∧
    s.dspRun.dsp = { s.dsp with queue := [], onCmds := s.dsp.onCmds ++ [r] } ∧ s.Frame [.regs, .pwr, .spoke, .dsp] s.dspRun := by
  obtain ⟨v, hv⟩ : ∃ v : State, v = s.setDsp { s.dsp with queue := [] } := ⟨_, rfl⟩
  obtain ⟨w, hw⟩ : ∃ w : State, w = v.powering r := ⟨_, rfl⟩
  have dsp : w.dsp = { s.dsp with queue := [], onCmds := s.dsp.onCmds ++ [r] } := by
    rw [hw]
    show { (v.accepted r).dsp with onCmds := v.dsp.onCmds ++ [r] } = _
    rw [State.accepted_dsp, hv]
    rfl
  have reached : s.Frame [.regs, .pwr, .spoke, .dsp] w := by
    have cleared : s.Frame [.regs, .pwr, .spoke, .dsp] v := hv ▸ State.Frame.refl.dsp (by decide)
    rw [hw]
    exact (State.accepted_frame (Covers.refl.sub rfl) cleared).dsp (by decide)
  have asked : v.applyOn r = (w.dspTo 1).escAsk 0 (s.rd R.PWR_CLASS_RES_A) .panel := by
    have reserve : (v.powering r).rd R.PWR_CLASS_RES_A = s.rd R.PWR_CLASS_RES_A := (powering_rd v r _).trans (hv ▸ rfl)
    rw [applyOn_asks (hv ▸ off) (hv ▸ free), reserve, hw]
  have pwr : (w.dspTo 1).pwr = s.pwr := by
    have own : (v.accepted r).pwr = v.pwr := State.accepted_pwr ..
    have same : (w.dspTo 1).pwr = w.pwr := dspTo_frame_self w 1 .pwr (by decide)
    rw [same, hw]
    exact own.trans (hv ▸ rfl)
  have ticks : (w.dspTo 1).ticks = s.ticks := by
    have own : w.cad = s.cad := reached .cad (by decide)
    have same : (w.dspTo 1).cad = w.cad := dspTo_frame_self w 1 .cad (by decide)
    unfold State.ticks
    rw [same, own]
  have applied : v.applyDsp ⟨r, [1], 0⟩ = (w.dspTo 1).escAsk 0 (s.rd R.PWR_CLASS_RES_A) .panel := by
    unfold State.applyDsp
    rw [show (⟨r, [1], 0⟩ : DspReq).cmd.op = 0x60 from op]
    exact asked
  have lit : ((w.dspTo 1).escAsk 0 (s.rd R.PWR_CLASS_RES_A) .panel).dsp = { s.dsp with queue := [], onCmds := s.dsp.onCmds ++ [r] } :=
    (dspTo_dsp w 1).trans dsp
  have cleared : ({ s with dsp.queue := [] } : State) = v := hv.symm
  rw [dspRun_one queue due (Or.inr none_) (by rw [op]; exact dspWaits_other (by decide) (by decide) (by decide)) (by rw [op]; decide)
    (by rw [op]; exact (by decide : 64 ≤ 8192)) (by rw [cleared, applied, lit]), cleared, applied]
  refine ⟨dspTo_state 1, ?_, lit, State.escAsk_frame (Covers.refl.sub rfl) (State.dspTo_frame (Covers.refl.sub rfl) reached)⟩
  show (w.dspTo 1).pwr.wait ++ [⟨0, s.rd R.PWR_CLASS_RES_A, .panel, (w.dspTo 1).ticks⟩] = _
  rw [pwr, ticks]

/-! ### The gamma ladders (R347, R357) -/

/-- DSP_GAMMA_NEG or DSP_GAMMA_POS. -/
def ladderId (negative : Bool) : Nat := if negative then 0x6005 else 0x6004

/-- The key of byte k of a ladder. -/
def byteKey (id k : Nat) : Nat := 1024 * id + (0 + 8 * k)

theorem setRw_ladder (s : State) (negative : Bool) (v : Nat) : s.setRw (ladderId negative) v =
    s.each (List.range 64) fun s k => s.wr (byteKey (ladderId negative) k) (bits v (0 + 8 * k) 8) := by
  have known : ∃ a, attrOf (ladderId negative) = some a ∧
      a.fields = repeated 64 8 (fun k => [⟨0, 8, .rw, (480 * k + 63) / 126⟩]) := by
    cases negative
    · exact ⟨attrDspGammaPos, rfl, rfl⟩
    · exact ⟨attrDspGammaNeg, rfl, rfl⟩
  obtain ⟨a, known, fields⟩ := known
  have writable : a.fields.filter (fun d => decide (d.access = .rw)) =
      (List.range 64).map fun k => (⟨0 + 8 * k, 8, .rw, (480 * k + 63) / 126⟩ : FieldDesc) := by
    have flat : a.fields = (List.range 64).map fun k => (⟨0 + 8 * k, 8, .rw, (480 * k + 63) / 126⟩ : FieldDesc) := by
      rw [fields]
      exact List.map_eq_flatMap.symm
    rw [flat, List.filter_map]
    exact congrArg _ (List.filter_true _)
  unfold State.setRw
  rw [known]
  show State.each s (a.fields.filter fun d => decide (d.access = .rw)) _ = _
  rw [writable]
  exact List.foldl_map

theorem setRw_ladder_entry (negative : Bool) (v : Nat) {k : Nat} (h : k ∈ List.range 64) :
    (s.setRw (ladderId negative) v).rd (byteKey (ladderId negative) k) = bits v (8 * k) 8 := by
  rw [setRw_ladder]
  refine foldl_once (φ := fun s : State => s.rd (byteKey (ladderId negative) k)) (G := fun _ => bits v (8 * k) 8) (a := k) (fun s => ?_)
    (fun s j _ other => ?_) List.nodup_range h s
  · rw [State.wr_rd_same, Nat.zero_add]
  · exact State.wr_rd_other s _ (by unfold byteKey; omega)

theorem setRw_ladder_other (negative : Bool) (v : Nat) {k : Nat} (other : k / 1024 ≠ ladderId negative) :
    (s.setRw (ladderId negative) v).rd k = s.rd k := by
  rw [setRw_ladder]
  refine foldl_keeps (φ := fun s : State => s.rd k) (fun s j hj => State.wr_rd_other s _ fun same => other ?_) s
  have bound := List.mem_range.mp hj
  rw [← same]
  unfold byteKey
  omega

/-- A ladder is accepted when no entry is above 240. -/
theorem dspCheck_ladder (s : State) (negative : Bool) (v : Nat) : s.dspCheck (ladderId negative) v =
    if (List.range 64).any (fun k => decide (240 < bits v (8 * k) 8)) then stBadParam else stOk := by
  cases negative <;> rfl

theorem dspGammaWrite_takes (n : Bool) (v : BitVec 512) (fits : ∀ k ∈ List.range 64, bits v.toNat (8 * k) 8 ≤ 240) :
    ∃ t, exec (.dspGammaWrite n v) s = .next t ∧
    (∀ k ∈ List.range 64, t.rd (if n = true then R.DSP_GAMMA_NEG_GV k else R.DSP_GAMMA_POS_GV k) = bits v.toNat (8 * k) 8) ∧
    (∀ k, k / 1024 ≠ (if n = true then 0x6005 else 0x6004) → t.rd k = s.rd k) ∧ s.Frame [.regs] t := by
  have good : s.dspCheck (ladderId n) v.toNat = stOk := by
    rw [dspCheck_ladder, if_neg]
    simpa using fits
  refine ⟨s.setRw (ladderId n) v.toNat, congrArg Host.Outcome.next (if_pos good), fun k hk => ?_, fun k other => setRw_ladder_other n _ other,
    State.setRw_frame (Covers.refl.sub rfl) State.Frame.refl⟩
  have key : (if n = true then R.DSP_GAMMA_NEG_GV k else R.DSP_GAMMA_POS_GV k) = byteKey (ladderId n) k := by
    cases n <;> rfl
  rw [key, setRw_ladder_entry n _ hk]

theorem dspGammaWrite_refused (n : Bool) (v : BitVec 512) (wrong : ∃ k ∈ List.range 64, 240 < bits v.toNat (8 * k) 8) :
    exec (.dspGammaWrite n v) s = .next s := by
  have bad : s.dspCheck (ladderId n) v.toNat ≠ stOk := by
    obtain ⟨k, hk, big⟩ := wrong
    rw [dspCheck_ladder, if_pos (List.any_eq_true.mpr ⟨k, hk, decide_eq_true big⟩)]
    decide
  exact congrArg Host.Outcome.next (if_neg bad)

/-! ### O53 -/

/-- Settles O53: each event row, each opcode and each kind of command in queue 208 by its own lemma. -/
theorem matrixPanel : Obligations.MatrixPanel := by
  unfold Obligations.MatrixPanel
  refine ⟨fun _ => panelLap_again, fun _ _ => panelLap_dc, fun _ => panelLap_normal, ?_⟩
  refine ⟨fun _ fresh on due _ off none_ clean => panelLap_entersLantern fresh on due off none_ clean, fun _ => panelLap_leavesLantern,
    fun _ => panelLap_latchesUndriven, fun _ _ => panelLap_latches, fun _ => panelLap_between, ?_⟩
  refine ⟨overdrive_worked, overdrive_identity, overdrive_corner, ?_⟩
  refine ⟨fun _ => powerOnStep_first, fun _ => powerOnStep_passes, fun _ => powerOnStep_last,
    fun _ h l r fresh starting idle quiet failed => powerOnStep_fails h l r fresh starting idle quiet failed, ?_⟩
  refine ⟨fun _ => orderlyOff_idle, fun _ _ on off _ clean => orderlyOff_blanks on off clean,
    fun _ _ blanked idle quiet => orderlyOff_discharges blanked idle quiet,
    fun _ _ _ starting off idle quiet => orderlyOff_starting starting off idle quiet, ?_⟩
  refine ⟨fun s off => congrArg Host.Outcome.next (abruptOff_idle s.offCause off), fun _ => abruptOff_discharges, fun _ => abruptOff_waiting, ?_⟩
  refine ⟨fun _ => powerGoodLow_starts, fun _ => powerGoodLow_idle, fun _ => vsrcFail_starts, fun _ => vsrcFail_off, ?_⟩
  refine ⟨fun _ => dischargeEnd_idle, fun _ _ => dischargeEnd_ends, fun _ => dischargeEnd_resets, ?_⟩
  refine ⟨fun _ _ => dspPower_queued, fun _ _ => dspPower_refused, fun _ _ _ _ => dspDraw_queued, fun _ _ => dspDraw_refused, ?_⟩
  refine ⟨fun _ _ _ _ _ _ _ => dspRun_write, fun _ r p x y w h queue op hx hy hw hh _ => dspRun_fill queue op hx hy hw hh,
    fun _ _ _ _ => dspRun_waits, fun _ _ _ => dspRun_lw, fun _ _ _ => dspRun_present, fun _ _ _ => dspRun_mode, ?_⟩
  exact ⟨fun _ _ => dspRun_powerOn, fun _ _ => dspRun_powerOff, fun _ => dspGammaWrite_takes, fun _ => dspGammaWrite_refused⟩

end Sys2Proof.Machine
end
